-- ==== Sys2Proof/Word.lean ====
section
/-! DEFINITION. The word type of the register space (R9) and plain bit-field arithmetic on register values.
A register or register field is held as the natural number its bits spell; every write cuts it to its width. -/

namespace Sys2Proof

/-- One byte of a structure the device reads or writes (R6). -/
abbrev Byte := BitVec 8

/-- `w` bits of `x` from bit `lsb` on, `[lsb + w - 1 : lsb]` in the notation of R5. -/
def bitsOf (x lsb w : Nat) : Nat := x / 2 ^ lsb % 2 ^ w

/-- Bit `i` of `x`. -/
def bitOf (x i : Nat) : Bool := x / 2 ^ i % 2 == 1

/-- `x` with bit `i` set to `b`. -/
def putBit (x i : Nat) (b : Bool) : Nat :=
  if bitOf x i == b then x else if b then x + 2 ^ i else x - 2 ^ i

/-- A Boolean as a one-bit field. -/
def b2n (b : Bool) : Nat := if b then 1 else 0

/-- A counter of `w` bits that stops at its highest value ("saturates"). -/
def satAdd (w x n : Nat) : Nat := min (x + n) (2 ^ w - 1)

/-- The two's-complement field of `w` bits that holds `i` (cut to the width). -/
def ofInt (w : Nat) (i : Int) : Nat := (i % (2 ^ w : Int)).toNat

/-- A field of `w` bits read as two's complement. -/
def toInt (w x : Nat) : Int := if x % 2 ^ w < 2 ^ (w - 1) then (x % 2 ^ w : Int) else (x % 2 ^ w : Int) - 2 ^ w

/-- The number of set bits among the low `n` bits of `x`. -/
def popCount : Nat → Nat → Nat
  | 0, _ => 0
  | n + 1, x => popCount n x + x / 2 ^ n % 2

/-- The indices below `n` whose bit is set in `x`, lowest first. -/
def setBits (n x : Nat) : List Nat := (List.range n).filter (bitOf x)

/-- Bitwise AND NOT: `x` with the bits of `m` cleared. -/
def clearBits (x m : Nat) : Nat := x ^^^ (x &&& m)

/-- Little-endian value of a list of bytes (R6). -/
def leBytes : List Byte → Nat
  | [] => 0
  | b :: bs => b.toNat + 256 * leBytes bs

/-- The `n` bytes of `x`, lowest first (R6). -/
def toLeBytes : Nat → Nat → List Byte
  | 0, _ => []
  | n + 1, x => BitVec.ofNat 8 x :: toLeBytes n (x / 256)

/-- Big-endian value of a list of bytes: fields of management frames are sent most significant byte first (R6). -/
def beBytes (bs : List Byte) : Nat := bs.foldl (fun a b => 256 * a + b.toNat) 0

/-- The `n` bytes of `x`, most significant first (R6). -/
def toBeBytes (n x : Nat) : List Byte := (toLeBytes n x).reverse

/-- The quotient rounded up. -/
def ceilDiv (a b : Nat) : Nat := (a + b - 1) / b

end Sys2Proof
end

