-- ==== Sys2Proof/Syntax.lean ====
section
/-! DEFINITION. The commands of the block: one constructor of `Instr` per row of spec/opcode_table.json, with what
the outside gives or has observed as operands, and the data those operands are made of.  -/

namespace Sys2Proof

/-- The protocol classes a message of the switch core belongs to (R152, R183). -/
inductive MKind where
  | ioPosted | ioNonPosted | ioCpl
  | memReq | memRwd | memBisnp | memBirsp | memNdr | memDrs
  | cacheD2hReq | cacheD2hRsp | cacheD2hData | cacheH2dReq | cacheH2dRsp | cacheH2dData
  | wmReq | wmReqData | wmSnp | wmRsp
  deriving DecidableEq, Repr

/-- How a completion ends: successful, Unsupported Request, Configuration Request Retry Status. -/
inductive CplStatus where
  | sc | ur | crs
  deriving DecidableEq, Repr

/-- What the address of a request is when it enters: a host physical address of CXL.mem, an offset in the PF BAR4
aperture, a fabric address already, or none that is decoded here (the bridges of the VCS route it by its DEST). -/
inductive Space where
  | hpa | aperture | fabric | routed
  deriving DecidableEq, Repr

/-- What a CXL.io or CXL.mem request does, where the protocol class alone does not say. -/
inductive Act where
  | read | write | partWrite | cfgRead | cfgWrite | atomic | snoop | response | other
  deriving DecidableEq, Repr

/-- A request of CXL.mem, with its SnpType (0 No-Op, 1 SnpData, 2 SnpCur, 3 SnpInv) or its MetaValue (none for MetaField No-Op, 0 Invalid,
2 Any, 3 Shared), or of CXL.cache. -/
inductive CxlOp where
  | memRd (snp : Nat) | memInv (snp : Nat) | memWr (mv : Option Nat) | memWrPtl | memClnEvct
  | rdShared | rdOwn | rdOwnNoData | rdCurr | itoMWr | wrCur | woWrInvF | woWrInv | dirtyEvict | cleanEvict
  | other
  deriving DecidableEq, Repr

/-- What the errors that a slice meets in its own arrays during a lookup are (R234, R252, R253, R256): ways in error, each
with 1 corrected or 2 uncorrectable (any other number but 0 is a corrected one too); and the copies of the table whose CRC fails: 0 none,
1 one of them, 3 both. -/
structure Upset where
  ways : List (Nat × Nat) := []
  tab : Nat := 0
  deriving DecidableEq, Repr

/-- A message of the switch core (R152, R182): its header fields, the node it is for and the node it
came from (DNODE and SNODE, R151), and of its body the address,
line data and byte enables.  `op` is the request code of R213 for a request that has one, and the OP of R215 for a
Watermaster message; `cxl` is the opcode of a CXL.mem or CXL.cache request, which its code follows from (R213); `st` is the STATE field of R215, or the grant of a completion.  `tgt` is the address a request carries as it
leaves the device (R284), `ld` its LD there; `ncnt` is the NAK count of a coherent request (R223) and the bytes asked
for by a CXL.io read; `gen` is the generation it was checked under (R271), `win` the port and window copy that translated
it (R279), and `pair` the pair mark of R316.  `via` is the port at which a device's request entered that windows turned into one of its
VCS's port, `src` (R277); `mute` marks a part of a non-posted write whose completion the device has made already (R290); `rsv` are the reserved bits of its header
and body as received (R150), and `up` what the slice's own arrays hold against a snoop of a home as it looks the line up (R238, R251).  `io` marks a CXL.mem request that stands for a window's CXL.io
request on the way to a peer's span: where its bytes lie in the line, how many a completion brings, and whether one is wanted (R261).
`chk` is the EPOCH of the internal gate under which a Tender or debug request was checked (R294). -/
structure Msg where
  kind : MKind
  act : Act := .other
  op : Nat := 0
  st : Nat := 0
  node : Nat := 0
  snode : Nat := 0
  src : Nat := 0
  dest : Nat := 0
  tc : Nat := 0
  tenant : Nat := 0
  tag : Nat := 0
  len : Nat := 16
  poison : Bool := false
  ro : Bool := false
  space : Space := .fabric
  addr : Nat := 0
  tgt : Nat := 0
  ld : Nat := 0
  data : Nat := 0
  be : Nat := 0
  ncnt : Nat := 0
  hint : Nat := 0
  status : CplStatus := .sc
  group : Option Nat := none
  gen : Option Nat := none
  win : Option (Nat × Nat) := none
  pair : Bool := false
  via : Option Nat := none
  mute : Bool := false
  cxl : Option CxlOp := none
  rsv : Nat := 0
  up : Upset := {}
  io : Option (Nat × Nat × Bool) := none
  chk : Option Nat := none
  deriving DecidableEq, Repr

/-- The address of a host's register access, and its size: 32 bits, or 64 (R9). -/
inductive RegAddr where
  | word (a : Nat)
  | double (a : Nat)
  deriving DecidableEq, Repr

/-- The address of the access. -/
def RegAddr.addr : RegAddr → Nat
  | .word a => a
  | .double a => a

/-- The access is one of 64 bits. -/
def RegAddr.wide : RegAddr → Bool
  | .word _ => false
  | .double _ => true

/-- A function of a VCS that a configuration request names (R129, R136, R137): the upstream switch port, bridge vPPB i, the PF of
the management endpoint, or its VF j. -/
inductive CfgFn where
  | usp
  | vppb (i : Nat)
  | pf
  | vf (j : Nat)
  deriving DecidableEq, Repr

/-- A field of configuration space by the name that PCI Express gives it (R126, R129, R136 to R140, R144, R348, R122); the presence
of a capability; the size of BAR `k`, as a power of two, whether it is 64-bit and whether prefetchable (R138); where the CXL Register
Locator DVSEC puts the mailbox CCI (R138); L1 PM Substates Control and T_POWER_ON (R145); or a word of the Camvar DVSEC. -/
inductive CfgField where
  | vendorId | deviceId | revisionId | classCode | subVendorId | subsystemId
  | capability (id : Nat) (ext : Bool)
  | barSize (k : Nat)
  | bar64 (k : Nat) | barPrefetch (k : Nat)
  | locatorBir | locatorOffset
  | flrCapable | msixVectors
  | aspmSupport | l1ExitLatency | slotClock | dlActive | linkWidth | linkRate | aspmControl
  | dlReporting | slotImplemented | attnButtonPresent | attnIndPresent | pwrIndPresent | pwrCtlPresent | mrlPresent | surprise
  | interlock | hotPlugCapable | noCmdCompleted | slotNumber | slotPowerLimit | slotPresent | slotEvents | attnControl | pwrControl
  | powerOff
  | acsSupport | acsControl
  | l1subControl | tPowerOn
  | marginTimingSteps | marginMaxTiming | marginVoltageSteps | marginMaxVoltage | marginIndLeftRight | marginIndUpDown | marginSampleRate
  | marginLane (i : Nat)
  | eqBypass | noEqNeeded | precodeOn | precodeRequest
  | totalVfs | initialVfs | numVfs | vfEnable | firstVfOffset | vfStride | vfDeviceId
  | dvsec (offset : Nat)
  deriving DecidableEq, Repr

/-- A configuration request: its message, the function and the field that it names, and the value of a write. -/
structure CfgReq where
  m : Msg
  fn : CfgFn
  f : CfgField
  wr : Option Nat := none
  deriving DecidableEq, Repr

/-- What a port's link has come up at: its rate (R126), whether the partner runs 68-byte flits (R122), and whether it requests precoding
(R104). -/
structure LinkRate where
  rate : Nat
  flit68 : Bool := false
  precode : Bool := false
  deriving DecidableEq, Repr

/-- How a port's receivers find its lanes: in reverse order, and which of its pairs are inverted, one bit each (R104). -/
structure Wiring where
  reversed : Bool := false
  inv : Nat := 0
  deriving DecidableEq, Repr

/-- An ECC error that a router meets on a flit of a VC (R385): one that is corrected, or an uncorrectable one of the control field or of
the payload. -/
inductive FlitErr where
  | corrected (vc : Nat)
  | control (vc : Nat)
  | payload (vc : Nat)
  deriving DecidableEq, Repr

/-- The VC of the flit. -/
def FlitErr.vc : FlitErr → Nat
  | .corrected v => v
  | .control v => v
  | .payload v => v

/-- The error as ACQ_LASTERR.KIND numbers it (R388). -/
def FlitErr.kind : FlitErr → Nat
  | .corrected _ => 0
  | .control _ => 1
  | .payload _ => 2

/-- The ACK payload (R157). -/
structure AckBody where
  ackSeq : Nat
  high : Nat
  limReq : Nat
  limSnp : Nat
  limRsp : Nat
  tstamp : Nat
  echo : Nat
  hold : Nat
  nak : Nat
  deriving DecidableEq, Repr

/-- The INIT payload (R165). -/
structure InitBody where
  node : Nat
  link : Nat
  resume : Bool
  rxReady : Nat
  degOk : Bool
  rate : Nat
  ackSeq : Nat
  limReq : Nat
  limSnp : Nat
  limRsp : Nat
  tstamp : Nat
  echo : Nat
  hold : Nat
  deriving DecidableEq, Repr


/-- Who makes a dictionary request (R453, R454): 0 segment A, 1 segment B, 2 in band; the MAC address it comes from, or
the upstream port; and the TAG it chose. -/
structure Caller where
  path : Nat
  mac : Nat
  port : Nat
  tag : Nat
  deriving DecidableEq, Repr

/-- What the device finds of an image that the model does not compute (R473, R474): the slot answers reads within 10 ms,
the key hash and the signature agree, and the SHA-384 of each stage equals the one in its header. -/
structure ImageCheck where
  read : Bool := true
  key : Bool := true
  sig : Bool := true
  hash1 : Bool := true
  hash2 : Bool := true
  deriving DecidableEq, Repr
/-- A command of the ZL-80 block: a write or read of a register, an event at a pin, a unit or message received,
an expiry, or a request of the manager.  The docstring of each constructor names its row and its rule. -/
inductive Instr where
  /-- REGISTER_WRITE (R13): A write to a register that has no row of its own is taken, discarded or refused as the access, Standby and reserved-encoding rules give. -/
  | registerWrite (node port : Nat) (addr : RegAddr) (val ev : Nat)
  /-- REGISTER_READ_CLEAR (R12): A read of an RC field returns its value and clears it, keeping any event of the same cycle. -/
  | registerReadClear (node port : Nat) (addr : RegAddr) (ev : Nat)
  /-- REGISTER_HALF_LATCH_READ (R9): A read of the low half of a 64-bit register latches the high half for the next read. -/
  | registerHalfLatchRead (node port : Nat) (addr : RegAddr)
  /-- VDD_AUX_LOST (R11): VDD_AUX staying below its threshold for 1 us causes a cold reset with no active gate discharge. -/
  | vddAuxLost
  /-- VDD_AUX_RESTORED (R11): VDD_AUX staying above 3.00 V for 1 ms is taken as present again. -/
  | vddAuxRestored
  /-- PWRGD_LOW (R48): A filtered PWRGD low of 1.2 us or more is a cold reset. -/
  | pwrgdLow
  /-- PWRGD_GLITCH (R48): A PWRGD low pulse that ends without causing a cold reset is counted in PKG_GLITCH. -/
  | pwrgdGlitch
  /-- GATE_DISCHARGE_END (R49): 200 us after a cold reset starts, the Sluice GATE pins go from driven low to high-impedance. -/
  | gateDischargeEnd
  /-- PWRGD_RISE (R53): The rising edge of PWRGD starts strap sampling and the start-up timeline, or a rail hold. -/
  | pwrgdRise (prog : List (Nat × Nat × Nat))
  /-- RAIL_HOLD_END (R63): Every rail inside its fault window for 1 ms starts the start-up timeline. -/
  | railHoldEnd
  /-- STRAP_TEST_SOURCE_ON (R53): At 20 us the strap test source is switched on toward VDD_AUX. -/
  | strapTestSourceOn
  /-- STRAP_SAMPLE (R53): At 50, 80 and 110 us a strap sample is taken and the test current is switched. -/
  | strapSample (pins : Nat)
  /-- STRAP_RESOLVE (R54): At 120 us each strap is resolved from its three samples and PKG_STRAP becomes valid. -/
  | strapResolve
  /-- PLL_LOCK (R75): All PLLs lock, the core runs at 0.9 GHz for boot and the fabric-time counter starts. -/
  | pllLock
  /-- SRAM_CLEAR_DONE (R75): All 512 MiB of SRAM has been cleared with valid ECC. -/
  | sramClearDone (bad : Nat)
  /-- T1S_PHY_JOIN (R49): A 10BASE-T1S PHY joins its segment, after which requests are answered BUSY until 60 ms. -/
  | t1sPhyJoin (seg : Nat)
  /-- CALIBRATION_DONE (R103): Lane termination calibration of a tile completes and sets CALDONE. -/
  | calibrationDone (tile : Nat)
  /-- SPILLWAY_ARM (R397): At 60 ms the Spillway arms, the dictionary answers and the device enters Standby. -/
  | spillwayArm
  /-- SLOT_WAVE (R76): A slot wave starts the ramps of present automatic slots, one per tile. -/
  | slotWave (v : Nat)
  /-- PORT_WAVE (R77): A port wave lets the configured ports of that wave start training; wave 0 enters Operational. -/
  | portWave (w : Nat) (tile : Option Nat)
  /-- LEAT_WAVE (R75): The Leat wave starts training of every enabled Leat link. -/
  | leatWave (tile : Option Nat)
  /-- WARM_RST_PIN (R69): A filtered WARM_RST_N assertion requests a warm reset, or extends a running one. -/
  | warmRstPin (low : Bool)
  /-- WARM_RESET_REQ (R69): A keyed write of PWR_RSTREQ.WARM requests a warm reset. -/
  | warmResetReq (val : Nat)
  /-- TILE_RESET_REQ (R69): A keyed write of PWR_RSTREQ.TILE requests a tile reset of the named Headworks tiles. -/
  | tileResetReq (val : Nat)
  /-- WARM_RESET_END (R69): The warm-reset hold ends and the start-up timeline restarts from release. -/
  | warmResetEnd
  /-- TILE_RESET_END (R80): The tile-reset hold ends and the tile's wave schedule starts. -/
  | tileResetEnd (tile : Nat)
  /-- CULVERT_RETRAINED (R69): A tile's Culvert completes retraining after a tile reset, reopening its gateway. -/
  | culvertRetrained (tile : Nat)
  /-- RAIL_WARNING (R62): A rail outside its warning window for 5 us raises the rail-warning source. -/
  | railWarning (rail : Nat) (outside : Bool)
  /-- RAIL_FAULT (R62): A rail outside its fault window for 5 us raises the rail-fault source. -/
  | railFault (rail : Nat) (outside : Bool)
  /-- CLOCK_LOSS (R68): A monitored clock without edges or off frequency for 2 us is declared lost. -/
  | clockLoss (dom : Nat)
  /-- CLOCK_PRESENT (R68): A monitored clock is seen present and within 1 %, setting its PWR_CLKSTAT bit. -/
  | clockPresent (dom : Nat)
  /-- PWR_DOMCTL_WRITE (R65): A write of PWR_DOMCTLn.ON forces a switchable domain off or releases it to the configuration. -/
  | pwrDomctlWrite (n val : Nat)
  /-- DOMAIN_POWER_UP_DONE (R65): The domain's clocks start, isolation is released and PWRD sets. -/
  | domainPowerUpDone (n : Nat)
  /-- HEADER_SWITCH_OPEN (R65): 20 us after isolation the header switches open and PWRD clears. -/
  | headerSwitchOpen (n : Nat)
  /-- PERST_IN_ASSERT (R71): A filtered PERST_N assertion on an upstream port resets the port and its functions. -/
  | perstInAssert (p : Nat)
  /-- PERST_IN_RELEASE (R72): PERST_N release lets training start at the later of release and wave slot. -/
  | perstInRelease (p : Nat)
  /-- PERST_OUT_RELEASE (R73): The device releases a downstream port's PERST_OUT_N once power-good, reference and wave slot conditions hold. -/
  | perstOutRelease (p : Nat)
  /-- CONFIG_REQUEST (R74): A configuration request to a port not yet ready is completed with retry status. -/
  | configRequest (p : Nat) (r : CfgReq)
  /-- CRS_LATE (R74): A port still not ready 1 s after release presents an empty VCS and raises the readiness source. -/
  | crsLate (p : Nat)
  /-- PROFILE_APPLY (R32): APPLY in Standby starts a profile change, entering CLOSE or completing at once. -/
  | profileApply (val : Nat)
  /-- PROFILE_CLOSED (R32): Credit returns are held and Runnel engines paused, moving to DRAIN. -/
  | profileClosed
  /-- PROFILE_DRAINED (R32): The Reservoir becomes empty, moving to RECALL or SWITCH. -/
  | profileDrained
  /-- PROFILE_RECALL_DONE (R32): Every filter entry has been recalled, moving to INIT. -/
  | profileRecallDone
  /-- PROFILE_INIT_DONE (R32): Banks that change user are cleared, moving to SWITCH. -/
  | profileInitDone
  /-- PROFILE_SWITCHED (R32): The core clock locks at the new rate and the new parameters load; the change completes. -/
  | profileSwitched
  /-- PROFILE_CHANGE_TIMEOUT (R32): 1 s after APPLY in CLOSE to INIT, the change enters ROLLBACK. -/
  | profileChangeTimeout
  /-- PROFILE_ROLLBACK_DONE (R32): The old bank map, clock and parameters are restored and the filter is empty. -/
  | profileRollbackDone
  /-- CULVERT_BEAT_CRC_FAIL (R25): A Culvert beat fails its CRC and is retried from the sender's retry buffer. -/
  | culvertBeatCrcFail (tile : Nat)
  /-- CULVERT_WIRE_SPARE (R25): A wire with recurring errors is replaced by a spare of its bundle. -/
  | culvertWireSpare (tile bundle : Nat)
  /-- CULVERT_BUNDLE_RETIRE (R25): A bundle without a spare for a failing wire, or with four failed retries, is retired. -/
  | culvertBundleRetire (tile bundle : Nat)
  /-- COMPARATOR_FIRE (R508): A fabric-time comparator reaches its target and its event takes effect in the next core cycle. -/
  | comparatorFire
  /-- PPS_EDGE (R87): A PPS rising edge is accepted or rejected, phase error formed and the servo and state updated. -/
  | ppsEdge (inB : Bool) (t high : Nat)
  /-- PPS_LOSS (R87): A PPS input gives no accepted edge in the expected window and is lost. -/
  | ppsLoss (inB : Bool)
  /-- TOD_MESSAGE (R91): A complete time-of-day message is checked and compared or used to set the time. -/
  | todMessage (inB : Bool) (bytes : List Byte) (framed : Bool) (t : Nat)
  /-- TOD_BYTE_GAP (R91): More than 10 bit times between bytes discards the message in progress. -/
  | todByteGap (inB : Bool)
  /-- FT_SETARM (R92): SETARM with TODMODE 1 sets FT_SETSEC at the next accepted edge or at once. -/
  | ftSetarm (val : Nat)
  /-- FT_FORCESTEP (R86): FORCESTEP applies a held forward step at the next tick. -/
  | ftForcestep (val : Nat)
  /-- HOLDOVER_LIMIT (R94): HOLDSEC passing HOLDLIM raises the holdover-limit source. -/
  | holdoverLimit
  /-- SER_LCTL_WRITE (R103): A write of SER_LCTL is kept and applied, even while the lane's domain is off, subject to the test rules. -/
  | serLctlWrite (l val : Nat)
  /-- LANE_ENERGY_DETECT (R111): Signal energy for 10 us moves a Leat lane from DETECT to CDR. -/
  | laneEnergyDetect (l : Nat)
  /-- LANE_CDR_LOCK (R111): Clock recovery moves a Leat lane from CDR to ALIGN. -/
  | laneCdrLock (l : Nat)
  /-- LANE_CDR_TIMEOUT (R111): 1 ms in CDR fails the lane with cause CDR timeout. -/
  | laneCdrTimeout (l : Nat)
  /-- LANE_MARKER_RECEIVE (R110): A lane marker is received, advancing alignment, polarity, order, equalization requests or detecting marker loss. -/
  | laneMarkerReceive (l w offset : Nat) (inverted fomDone : Bool)
  /-- LANE_MARKER_MISSING (R111): An expected marker does not arrive, and two in a row fail the lane. -/
  | laneMarkerMissing (l : Nat)
  /-- LANE_ALIGN_TIMEOUT (R111): 1 ms in ALIGN with ALIGNMAN 0 fails the lane. -/
  | laneAlignTimeout (l : Nat)
  /-- LANE_EQ_APPLY (R115): A preset or step request is applied at the next block boundary. -/
  | laneEqApply (l : Nat)
  /-- LANE_EQ_TIMEOUT (R111): 10 ms in EQ fails the lane. -/
  | laneEqTimeout (l : Nat)
  /-- LANE_DESKEW_DONE (R111): The lane's marker offset is set against the earliest lane and it enters READY. -/
  | laneDeskewDone (l skew : Nat)
  /-- LANE_DESKEW_TIMEOUT (R111): 100 us in DESKEW or skew above 1,024 symbols fails the lane. -/
  | laneDeskewTimeout (l : Nat)
  /-- LANE_CDR_LOSS (R111): Loss of CDR lock in READY or ACTIVE fails the lane and raises the lane-fault source. -/
  | laneCdrLoss (l : Nat)
  /-- LANE_STUFF_VIOLATION (R109): A removed stuff pair that is not the expected pair is counted, and four in 256 ns fail the lane. -/
  | laneStuffViolation (l t : Nat)
  /-- PORT_LANE_CDR_LOSS (R105): A port lane losing CDR lock in L0 is counted and the port enters Recovery. -/
  | portLaneCdrLoss (l : Nat)
  /-- SER_SLIP (R116): A keyed SER_SLIP write shifts the receiver symbol boundary or is discarded with CMDREJ. -/
  | serSlip (l val : Nat)
  /-- SER_PRBSCTL_WRITE (R118): A pattern generator or checker is enabled where allowed, or the write is discarded with CMDREJ. -/
  | serPrbsctlWrite (l val : Nat)
  /-- EYE_SCAN_START (R120): START begins or restarts an eye scan with the current offsets and dwell. -/
  | eyeScanStart (l val : Nat)
  /-- EYE_SCAN_DONE (R120): An eye scan completes or ends on CDR loss and sets DONE. -/
  | eyeScanDone (l count : Nat) (cdrLost : Bool)
  /-- PORT_CONFIG_WRITE (R125): A write of PRT_PORTCFG is taken only while the port is disabled and down, except ENABLE. -/
  | portConfigWrite (p val : Nat)
  /-- PORT_LINK_UP (R126): A port reaches L0, possibly at a degraded width. -/
  | portLinkUp (p width : Nat) (r : LinkRate) (cache mem : Bool) (w : Wiring)
  /-- PORT_DL_DOWN (R127): A port declares DL_Down and every request routed to it is completed or discarded. -/
  | portDlDown (p : Nat)
  /-- HOT_RESET_RECEIVED (R128): Hot reset or Link Disable on an upstream link acts as PERST_N. -/
  | hotResetReceived (p : Nat) (disable : Bool)
  /-- FLR_PF (R128): FLR of the management endpoint PF resets it and all its VFs. -/
  | flrPf (p : Nat)
  /-- FLR_VF (R128): FLR of a VF resets its tenant instance unplanned. -/
  | flrVf (p vf : Nat)
  /-- VF_ENABLE (R349): A host write of VF Enable or NumVFs activates or resets tenant instances. -/
  | vfEnable (p : Nat) (enable : Bool) (numVfs : Nat)
  /-- PRT_TIBLK_WRITE (R137): A write of PRT_TIBLK moves instances into or out of a port's block while VF Enable is 0. -/
  | prtTiblkWrite (p val : Nat)
  /-- PRT_SLOTCFG_WRITE (R141): A write of PRT_SLOTCFG binds a slot to a port, subject to conflict checks. -/
  | prtSlotcfgWrite (p val : Nat)
  /-- FM_API_COMMAND (R134): A CXL FM-API command received on a Switch Mailbox CCI is run or refused. -/
  | fmApiCommand (p opcode : Nat) (payload : List Byte)
  /-- BIND_VPPB (R131): Bind vPPB starts binding a target to a vPPB in the background. -/
  | bindVppb (p vcs vppb kind port ld node : Nat)
  /-- BIND_COMPLETE (R131): A background bind completes and the host sees presence and link state changes. -/
  | bindComplete (vcs vppb : Nat)
  /-- UNBIND_WAIT_LINK_DOWN (R131): Unbind vPPB waiting for the target link to go down. -/
  | unbindWaitLinkDown (p vcs vppb : Nat)
  /-- UNBIND_MANAGED_HOT_REMOVE (R131): Unbind vPPB presents an attention-button press and waits for the host to power off. -/
  | unbindManagedHotRemove (p vcs vppb : Nat)
  /-- UNBIND_SURPRISE_HOT_REMOVE (R131): Unbind vPPB cuts the binding within 10 us. -/
  | unbindSurpriseHotRemove (p vcs vppb : Nat)
  /-- UNBIND_COMPLETE (R131): The target link goes down and the waiting unbind completes. -/
  | unbindComplete (vcs vppb : Nat)
  /-- UNBIND_TIMEOUT (R131): A waiting unbind still up after 1 s ends with Internal Error and the binding kept. -/
  | unbindTimeout (vcs vppb : Nat)
  /-- BIND_RSP_TIMEOUT (R178): No BIND_RSP within 1 ms ends Bind vPPB with Internal Error. -/
  | bindRspTimeout (vcs vppb : Nat)
  /-- APVEL_TRANSACT (R135): Vendor opcode 0xC000 carries one dictionary request in band. -/
  | apvelTransact (p : Nat) (body : List Byte) (good hang : Bool)
  /-- GET_WATERLOG_RECORDS (R135): Vendor opcode 0xC001 returns Waterlog records. -/
  | getWaterlogRecords (p start count : Nat)
  /-- GET_FABRIC_TIME (R135): Vendor opcode 0xC002 returns fabric time and quality. -/
  | getFabricTime (p : Nat)
  /-- GET_PORT_READINESS (R135): Vendor opcode 0xC003 returns port readiness and CRS-late bits. -/
  | getPortReadiness (p : Nat)
  /-- PRESENCE_CHANGE (R142): A change of PRSNT_N or receiver detection sets Presence Detect Changed. -/
  | presenceChange (p : Nat) (present : Bool)
  /-- ATTENTION_BUTTON_PRESS (R142): ATNBTN_N low for 16 ms is a press, setting Attention Button Pressed or BTN. -/
  | attentionButtonPress (p : Nat)
  /-- POWER_CONTROLLER_ON (R142): A host write of Power Controller Control on asks the bound slot to ramp. -/
  | powerControllerOn (vcs vppb : Nat)
  /-- POWER_CONTROLLER_OFF (R142): A host write of Power Controller Control off asks for a planned power-down. -/
  | powerControllerOff (vcs vppb : Nat)
  /-- INDICATOR_WRITE (R142): A host write of an attention or power indicator control drives the indicator pin. -/
  | indicatorWrite (vcs vppb attn pwri : Nat)
  /-- POWER_FAULT_CLEAR (R426): The host clears Power Fault Detected, returning a tripped PCTL 0b01 slot to OFF. -/
  | powerFaultClear (vcs vppb : Nat)
  /-- PRT_SLOTCTL_WRITE (R143): A manager write of PRT_SLOTCTL drives the slot while OVR is 1 or the port is unbound. -/
  | prtSlotctlWrite (p val : Nat)
  /-- L1_ENTRY (R144): A port idle for PRT_ASPM.IDLE with nothing outstanding enters ASPM L1. -/
  | l1Entry (p idle sub : Nat)
  /-- L1_EXIT (R144): Traffic for the port starts the exit from L1. -/
  | l1Exit (p : Nat)
  /-- CLKREQ_PARTNER_ASSERT (R145): The partner pulling CLKREQ_N low makes the port leave an L1 substate. -/
  | clkreqPartnerAssert (p : Nat)
  /-- LEAT_CTL_WRITE (R164): A write of LEAT_CTL enables or disables a link or changes its rate, spare or DEGOK. -/
  | leatCtlWrite (k val : Nat)
  /-- LEAT_RETRAIN_CMD (R169): A write of LEAT_CTL.RETRAIN starts a retrain. -/
  | leatRetrainCmd (k val : Nat)
  /-- LEAT_DATA_RECEIVE (R156): A DATA unit with a good CRC is kept, discarded as duplicate, or released in order to its VC queue. -/
  | leatDataReceive (k hdr trl : Nat) (msgs : List Msg)
  /-- LEAT_IDLE_RECEIVE (R156): An IDLE unit's next sequence number lets the receiver find missing tail units. -/
  | leatIdleReceive (k hdr trl : Nat)
  /-- LEAT_ACK_RECEIVE (R158): A valid ACK frees units, schedules NAKed resends and updates credit limits. -/
  | leatAckReceive (k hdr trl : Nat) (a : AckBody) (t : Nat)
  /-- LEAT_INIT_RECEIVE (R165): An INIT unit advances the lane assignment and exchange of INIT or RESUME. -/
  | leatInitReceive (k lane hdr trl : Nat) (b : InitBody) (t : Nat)
  /-- LEAT_UNIT_CRC_FAIL (R150): A unit whose CRC fails is discarded and counted. -/
  | leatUnitCrcFail (k : Nat) (bytes : List Byte)
  /-- SPARE_REQ (R167): A received SPARE_REQ makes the transmitter carry the named position on its spare lane. -/
  | spareReq (k hdr trl y : Nat)
  /-- RETRAIN_REQ (R169): A received RETRAIN_REQ enters RETRAIN unless already retraining, down or disabled. -/
  | retrainReq (k hdr trl cause : Nat)
  /-- PORTRESET (R178): A received PORTRESET resets a bound downstream port or LD. -/
  | portreset (k hdr trl port : Nat) (release : Bool)
  /-- BIND_CLAIM (R178): A received BIND_CLAIM is accepted or refused by the target's owner. -/
  | bindClaim (k hdr trl port ld vcs : Nat)
  /-- BIND_RSP (R177): A received BIND_RSP completes a Bind vPPB to a peer port. -/
  | bindRsp (k hdr trl port ld : Nat) (refused : Bool)
  /-- UNBIND (R177): A received UNBIND releases a peer claim. -/
  | unbind (k hdr trl port ld : Nat)
  /-- LP_REQ (R173): A received LP_REQ is answered with LP_ACK when the doze conditions hold. -/
  | lpReq (k hdr trl : Nat)
  /-- LP_ACK (R173): A received LP_ACK puts the link into DOZE. -/
  | lpAck (k hdr trl : Nat)
  /-- LEAT_ACK_TIMER (R157): Every 1,000 ns an ACTIVE receiver sends an ACK unit. -/
  | leatAckTimer (k t : Nat)
  /-- LEAT_REPLAY_TIMEOUT (R159): The 8 us replay timer resends the oldest unit, and the fourth consecutive expiry starts a retrain. -/
  | leatReplayTimeout (k : Nat)
  /-- LEAT_LANES_READY (R164): Enough lanes reach READY to move the link from TRAINING to INIT. -/
  | leatLanesReady (k : Nat)
  /-- LEAT_DEGRADED_WAIT_EXPIRE (R164): Eight lanes for 2 ms, or four to seven at 18 ms with DEGOK, move the link to INIT. -/
  | leatDegradedWaitExpire (k : Nat) (atEighteen : Bool)
  /-- LEAT_TRAINING_TIMEOUT (R164): 20 ms in TRAINING and INIT takes the link DOWN. -/
  | leatTrainingTimeout (k : Nat)
  /-- LEAT_RETRAIN_IDLE_END (R169): After 20 us of electrical idle the retraining device restarts all nine lanes. -/
  | leatRetrainIdleEnd (k : Nat)
  /-- LEAT_RETRAIN_TIMEOUT (R164): 20 ms in RETRAIN takes the link DOWN. -/
  | leatRetrainTimeout (k : Nat)
  /-- LEAT_DOWN_RETRY (R164): 100 ms in DOWN with ENABLE 1 returns the link to TRAINING. -/
  | leatDownRetry (k : Nat)
  /-- SPARE_REQ_REPEAT (R167): SPARE_REQ is repeated every 1 us until the spare's markers carry the position. -/
  | spareReqRepeat (k y : Nat)
  /-- LEAT_DOZE_IDLE (R172): The doze conditions holding after LEAT_LP.IDLE send LP_REQ. -/
  | leatDozeIdle (k : Nat)
  /-- LEAT_WAKE (R173): A unit to send or energy on five lanes wakes a dozing link into RETRAIN. -/
  | leatWake (k : Nat)
  /-- CORE_MESSAGE_ENQUEUE (R184): A message released by its link layer is stored, admitted, policed, replicated and enqueued. -/
  | coreMessageEnqueue (x sel here : Nat) (m : Msg) (err : Nat)
  /-- EGRESS_SCHEDULE (R335): An egress able to start a message picks a class and starts it. -/
  | egressSchedule (x credits err cell : Nat)
  /-- MESSAGE_DEPART (R187): A message leaving the Reservoir frees cells and may release holds and withheld credits. -/
  | messageDepart (x : Nat)
  /-- TURNOUT_AGE_SWEEP (R196): The 16 us sweep drops copies older than 2 ms as residue. -/
  | turnoutAgeSweep
  /-- GROUP_COMMIT (R197): A write of word 2 of TRN_GRPg commits the group's membership between messages. -/
  | groupCommit (g val : Nat)
  /-- MIRROR_SESSION_WRITE (R198): A write of TRN_MIRs sets or enables a mirror session, subject to the analysis-port checks. -/
  | mirrorSessionWrite (k word val : Nat)
  /-- EGRESS_STALL (R202): An egress stall timer reaching STALLMS raises the stall source. -/
  | egressStall (x : Nat)
  /-- CELL_AUDIT (R204): Every 1 ms the free and held cell counts are checked against RSV_CELLS. -/
  | cellAudit
  /-- RDS (R218): A RdS request at its home slice acts as the transition table gives. -/
  | rds (m : Msg) (up : Upset)
  /-- RDOWN (R218): A RdOwn request at its home slice acts as the transition table gives. -/
  | rdown (m : Msg) (up : Upset)
  /-- UPGR (R218): An Upgr request at its home slice acts as the transition table gives. -/
  | upgr (m : Msg) (up : Upset)
  /-- RDCUR (R218): A RdCur request at its home slice acts as the transition table gives. -/
  | rdcur (m : Msg) (up : Upset)
  /-- WRFULL (R218): A WrFull request at its home slice acts as the transition table gives. -/
  | wrfull (m : Msg) (up : Upset)
  /-- WRPART (R218): A WrPart request at its home slice acts as the transition table gives. -/
  | wrpart (m : Msg) (up : Upset)
  /-- WB_I (R246): A write-back keeping state I is accepted, crossing or joining any open transaction. -/
  | wbI (m : Msg) (up : Upset)
  /-- WB_S (R246): A write-back keeping state S is accepted, crossing or joining any open transaction. -/
  | wbS (m : Msg) (up : Upset)
  /-- WB_E (R246): A write-back keeping state E is accepted, crossing or joining any open transaction. -/
  | wbE (m : Msg) (up : Upset)
  /-- EVC (R218): An Evc removes the requester as a holder or is ignored. -/
  | evc (m : Msg) (up : Upset)
  /-- O_AGE_SWEEP (R217): Every 256 us the Age row writes back O lines older than OAGE. -/
  | oAgeSweep (bad : List Nat)
  /-- SNOOP_RESPONSE (R220): A snoop response updates the transaction and may complete it. -/
  | snoopResponse (m : Msg)
  /-- POOL_READ_DATA (R219): Pool read data arrives and completes or advances the transaction. -/
  | poolReadData (line data : Nat) (poison : Bool)
  /-- POOL_WRITE_COMPLETE (R219): A pool write completes, completing the requester and entering TH. -/
  | poolWriteComplete (line : Nat)
  /-- POOL_ACCESS_FAIL (R228): A pool read or write completes with error or poison and is handled as a failed access. -/
  | poolAccessFail (line : Nat) (write : Bool)
  /-- HOLD_WINDOW_END (R224): The hold window of a granted line ends and the transaction may be freed. -/
  | holdWindowEnd (line agent : Nat)
  /-- SNOOP_TIMEOUT (R226): A holder not answering within 1 ms is closed as I, removed and recorded. -/
  | snoopTimeout (line agent : Nat)
  /-- NAK_RECEIVED (R223): A NAK reaches a requester's source, which keeps the request for retry or reservation. -/
  | nakReceived (r : Nat)
  /-- NAK_RETRY (R223): A NAKed request is resent after its hint. -/
  | nakRetry (r : Nat)
  /-- RESERVATION_EXPIRE (R225): A reservation head not retrying within 8 us leaves the queue. -/
  | reservationExpire (line : Nat)
  /-- AGENT_PURGE_DONE (R227): The purge sweep of a lost agent completes and its WM_AGDOWN bit clears. -/
  | agentPurgeDone (a : Nat)
  /-- WM_CMP_RECEIVE (R230): A Watermaster Cmp from a home reaches a proxy slice and completes its transaction. -/
  | wmCmpReceive (m : Msg)
  /-- WM_NAK_RECEIVE (R230): A Watermaster NAK from a home makes the proxy retry for its requester. -/
  | wmNakReceive (m : Msg)
  /-- WM_REFUSE_RECEIVE (R229): A Refuse makes the sending device complete its requester with poisoned data. -/
  | wmRefuseReceive (m : Msg)
  /-- SNPINV (R230): A SnpInv from a home is applied at a proxy as an Rcl on the local entry. -/
  | snpinv (m : Msg)
  /-- SNPDATA (R230): A SnpData from a home is applied at a proxy, leaving the entry S. -/
  | snpdata (m : Msg)
  /-- SNPCUR (R230): A SnpCur from a home is applied at a proxy, returning data and keeping state. -/
  | snpcur (m : Msg)
  /-- REGION_ENABLE (R209): A write setting EN in WM_SRGNn enables a shared region or is refused. -/
  | regionEnable (n val : Nat)
  /-- REGION_RECALL (R210): Clearing EN starts a recall of every filter entry of the region. -/
  | regionRecall (n val : Nat)
  /-- REGION_RECALL_DONE (R210): The recall sweep and its Rcl transactions complete and STATE returns to off. -/
  | regionRecallDone (n : Nat)
  /-- TABLE_LOAD (R233): A keyed LOAD in Standby checks a staged table image and closes admission. -/
  | tableLoad (val : Nat) (sigOk : Bool)
  /-- TABLE_SWITCH (R233): With no open transaction left the slices switch tables and release admission. -/
  | tableSwitch
  /-- TABLE_LOAD_DRAIN_TIMEOUT (R233): Slices not emptied within 1 s release admission with the old table. -/
  | tableLoadDrainTimeout
  /-- TABLE_CRC_CHECK (R234): Every 1 ms each table copy's CRC is recomputed and a bad copy repaired or replaced by ROM. -/
  | tableCrcCheck (tab : Nat)
  /-- SCRUB_SET (R252): Every INTERVAL cycles the scrubber reads and corrects one set. -/
  | scrubSet (sl : Nat) (up : Upset)
  /-- SUSPECT_CLEAR (R255): A keyed write of SNF_SUSPCLR clears the suspect sets of the named slices. -/
  | suspectClear (val : Nat)
  /-- SNF_DIAG_READ (R258): GO reads a filter entry in the slice's next free lookup cycle, checking it as any read. -/
  | snfDiagRead (val err : Nat)
  /-- HDM_COMMIT_DONE (R263): The pool device's decoder commit completes and its entries stop being denied. -/
  | hdmCommitDone (p : Nat) (mld : Bool) (caps : List Nat)
  /-- HDM_DECODER_COMMIT (R267): A host commits an HDM decoder, which fails for FAB 1 with bad interleave or range. -/
  | hdmDecoderCommit (p d base size ways gran : Nat) (targets : List Nat) (commit : Bool)
  /-- POOLPORT_WRITE (R263): A write of XLT_POOLPORT marks pool ports, refused if conditions fail. -/
  | poolportWrite (k val : Nat)
  /-- MAPIDX_WRITE (R282): A write of XLT_MAPIDX latches the master entry for reading. -/
  | mapidxWrite (val : Nat)
  /-- MAP_GRANT (R270): A GRANT command moves an entry from FREE to PENDING or is refused. -/
  | mapGrant (val err : Nat)
  /-- MAP_RELEASE (R271): A RELEASE command turns an entry RELEASING and starts or joins a drain. -/
  | mapRelease (val err : Nat)
  /-- MAP_TIMED_APPLY (R269): A queued timed map command is validated again and applied at its apply time. -/
  | mapTimedApply
  /-- ZEROING_DONE (R270): The zeroing of a granted extent completes, letting it become ACTIVE. -/
  | zeroingDone (idx : Nat) (ok : Bool)
  /-- RELEASE_DRAIN_END (R271): The old generation's count reaches 0 and releasing entries become FREE. -/
  | releaseDrainEnd
  /-- SHARE_GROUP_WRITE (R273): A write of XLT_SGDATA changes a share group when no entry names it. -/
  | shareGroupWrite (val : Nat)
  /-- ADD_DYNAMIC_CAPACITY (R274): Offered dynamic capacity is accepted in 256 MiB units or rejected. -/
  | addDynamicCapacity (p ld dpa len : Nat)
  /-- DCD_RELEASE_REQUEST (R274): A device's release request is answered with the unused parts. -/
  | dcdReleaseRequest (p ld dpa len : Nat)
  /-- DCD_FORCED_REMOVAL (R274): Forced removal turns entries in that capacity RELEASING and raises the forced-release source. -/
  | dcdForcedRemoval (p ld dpa len : Nat)
  /-- WINDOW_COMMIT (R278): A keyed GO swaps a port's window copies between packets, or is held during a drain. -/
  | windowCommit (p val : Nat)
  /-- WINDOW_SHADOW_REFRESHED (R278): The shadow copy again equals the active copy and BUSY clears. -/
  | windowShadowRefreshed (p : Nat)
  /-- WINDOW_DRAIN_END (R279): Old-copy packets in flight reach 0, DRAIN clears and a held GO takes effect. -/
  | windowDrainEnd (p : Nat)
  /-- CHK_RULE_STORE (R298): A write of CHK_RDATA7 stores all eight words into the selected staging rule. -/
  | chkRuleStore (val : Nat)
  /-- CHK_STAGING_CLEAR (R298): A keyed write of CHK_SCLR empties a gate's staging copy. -/
  | chkStagingClear (val : Nat)
  /-- CHK_COMMIT (R293): A commit command starts validation of the staged sets of the masked gates. -/
  | chkCommit (val : Nat)
  /-- CHK_VALIDATION_DONE (R293): Validation ends and the commit becomes pending or is refused. -/
  | chkValidationDone
  /-- CHK_WITHDRAW (R293): A withdraw command cancels a pending commit by its tag. -/
  | chkWithdraw (val : Nat)
  /-- CHK_EPOCH_APPLY (R294): A due commit swaps the rule sets of every gate in its mask between accesses. -/
  | chkEpochApply
  /-- CHK_DRAIN_END (R295): A gate's old-set accesses reach 0, letting a waiting commit take effect. -/
  | chkDrainEnd (g : Nat)
  /-- CHK_STAGING_REWRITE_DONE (R294): The staging copy again equals the active copy and SBUSY clears. -/
  | chkStagingRewriteDone (g : Nat)
  /-- CHK_SCRUB (R296): Every 10 ms each rule copy is read and tile copies compared with the master. -/
  | chkScrub (g err : Nat)
  /-- RUN_RCTX0_WRITE (R300): A write of a ring's manager half enables or sets a ring, subject to conflict checks. -/
  | runRctx0Write (val : Nat)
  /-- RING_DOORBELL (R301): A TAIL write is accepted and leaves descriptors pending, or is ignored with DBERR. -/
  | ringDoorbell (ti k val : Nat)
  /-- RING_ENABLE (R302): CTL.EN 1 with valid sizes takes a ring out of OFF. -/
  | ringEnable (ti k val : Nat)
  /-- RING_DISABLE (R302): Clearing CTL.EN or RUN_RCTX0.EN moves the ring to STOPPING. -/
  | ringDisable (ti k val : Nat)
  /-- RING_RESUME (R302): CTL.RESUME leaves ERROR, skipping the failed descriptor. -/
  | ringResume (ti k val : Nat)
  /-- RING_STOPPED (R302): Every issued access of a STOPPING ring has ended and it goes OFF. -/
  | ringStopped (ring : Nat)
  /-- RING_CFG_WRITE (R326): A tenant write of CFG, RBASE or CQBASE is taken only while the ring is OFF. -/
  | ringCfgWrite (ti k off val : Nat)
  /-- CQHEAD_WRITE (R308): A tenant write of CQHEAD frees completion queue space, letting a waiting ring continue. -/
  | cqheadWrite (ti k val : Nat)
  /-- DESCRIPTOR_FETCH_DONE (R310): A batch of descriptors arrives from host memory, or fails and puts the ring in ERROR. -/
  | descriptorFetchDone (ring : Nat) (ok : Bool) (ds : List Nat)
  /-- NOP (R304): A NOP descriptor acts as an ordering point and may write a record. -/
  | nop (ring : Nat)
  /-- COPY (R304): A COPY descriptor reads LEN bytes at SRC and writes them at DST. -/
  | copy (ring : Nat)
  /-- FILL (R304): A FILL descriptor writes the pattern over LEN bytes at DST. -/
  | fill (ring : Nat)
  /-- WRITEI (R304): A WRITEI descriptor writes immediate data at DST. -/
  | writei (ring : Nat)
  /-- WRITEI_MCAST (R322): A WRITEI with MCAST sends its data to every member of a Turnout group. -/
  | writeiMcast (ring : Nat)
  /-- LOAD (R304): A LOAD descriptor reads 1 to 16 bytes into the record. -/
  | load (ring : Nat)
  /-- ATOMIC_FADD8 (R317): An ATOMIC FetchAdd of 8 bytes. -/
  | atomicFadd8 (ring : Nat)
  /-- ATOMIC_SWAP8 (R317): An ATOMIC Swap of 8 bytes. -/
  | atomicSwap8 (ring : Nat)
  /-- ATOMIC_CAS8 (R317): An ATOMIC CompareAndSwap of 8 bytes. -/
  | atomicCas8 (ring : Nat)
  /-- ATOMIC_CAS16 (R317): An ATOMIC CompareAndSwap of 16 bytes, needing pair-atomic regions. -/
  | atomicCas16 (ring : Nat)
  /-- BARRIER (R319): A BARRIER issues open entries, waits for earlier accesses and reports their outcome. -/
  | barrier (ring : Nat)
  /-- WC_IDLE_ISSUE (R311): An OPEN write-combining entry idle for WCIDLE is issued. -/
  | wcIdleIssue (entry : Nat) (bad : Bool)
  /-- ADMIT_NOTICE (R314): A gate's admit notice returns region attributes and may acknowledge a write early. -/
  | admitNotice (acc : Nat) (rule pairAt earlyAck devReg : Bool) (wto : Nat)
  /-- RUNNEL_WRITE_ACK (R313): A Runnel write is acknowledged by Cmp, effect or flush completion. -/
  | runnelWriteAck (acc status : Nat)
  /-- RUNNEL_READ_DATA (R313): Read data for a Runnel access arrives, completing the load or copy step. -/
  | runnelReadData (acc status data : Nat) (poison : Bool)
  /-- RUNNEL_WRITE_TIMEOUT (R318): A write unacknowledged within its timeout becomes dead. -/
  | runnelWriteTimeout (acc : Nat)
  /-- RUNNEL_READ_TIMEOUT (R318): A read not completed within RTO ends in RTIMEOUT. -/
  | runnelReadTimeout (acc : Nat)
  /-- RUN_PAUSE_WRITE (R310): A write of RUN_PAUSE pauses or releases engines. -/
  | runPauseWrite (val : Nat)
  /-- RUN_ENABLE_WRITE (R324): A write of RUN_ENABLE enables or disables engines, powering their group. -/
  | runEnableWrite (val : Nat)
  /-- TOKEN_REFILL (R330): Every 256 ns buckets are credited and held requests considered for release. -/
  | tokenRefill (err idx : Nat)
  /-- SHAPER_COMMIT (R334): A write of word 0xC of WEIR_TSHi commits a tenant shaper pair and resets its tokens. -/
  | shaperCommit (ti val : Nat)
  /-- CLASS_SHAPER_COMMIT (R336): A write of word 0x4 of WEIR_PCSH commits a class shaper. -/
  | classShaperCommit (x t val : Nat)
  /-- ROTATION_COMMIT (R340): A keyed GO validates a rotation admin copy and makes it pending. -/
  | rotationCommit (x val : Nat)
  /-- ROTATION_CANCEL (R340): A keyed CANCEL withdraws a pending rotation commit. -/
  | rotationCancel (x val : Nat)
  /-- ROTATION_ACTIVATE (R340): At the first cycle start due, the admin copy becomes active. -/
  | rotationActivate (x : Nat)
  /-- ROTATION_CYCLE_START (R338): A rotation cycle starts at base plus n times the cycle. -/
  | rotationCycleStart (x : Nat)
  /-- GATE_CHANGE (R338): A rotation entry boundary opens and closes classes at the egress. -/
  | gateChange (x : Nat)
  /-- ROTEN_WRITE (R341): A write of ROTEN enables rotations, refused if comparators or analysis-port rules forbid. -/
  | rotenWrite (x val : Nat)
  /-- QUIESCE (R354): A QUIESCE command pauses an instance's rings and enters QUIESCING. -/
  | quiesce (val : Nat)
  /-- RESUME (R355): A RESUME command returns a quiesced instance's rings to service. -/
  | resume (val : Nat)
  /-- RESET (R357): A RESET command resets a quiesced instance, planned. -/
  | reset (val : Nat)
  /-- QUIESCE_COMPLETE (R354): Every quiesce condition holds and the instance enters QUIESCED. -/
  | quiesceComplete (ti : Nat)
  /-- QUIESCE_TIMEOUT (R356): QUIESCING lasting QTO forces the quiesce. -/
  | quiesceTimeout (ti : Nat)
  /-- INSTANCE_RESET_COMPLETE (R357): An instance reset completes once its accesses end. -/
  | instanceResetComplete (ti : Nat)
  /-- UNPLANNED_RESET_TIMEOUT (R357): 100 ms after an unplanned reset began it completes and remaining accesses are orphaned. -/
  | unplannedResetTimeout (ti : Nat)
  /-- RING_STOPPING_TIMEOUT (R365): A ring in STOPPING longer than QTO is an instance fault. -/
  | ringStoppingTimeout (ring : Nat)
  /-- INSTANCE_FAULT (R365): An instance fault resets the instance unplanned and sets fault notices. -/
  | instanceFault (ti : Nat)
  /-- MAILBOX_DOORBELL (R351): A tenant write of LEN posts a mailbox request or is ignored with DBERR. -/
  | mailboxDoorbell (ti val : Nat)
  /-- MAILBOX_ACK (R351): ACK in DONE returns the mailbox to FREE. -/
  | mailboxAck (ti val : Nat)
  /-- MAILBOX_DONE (R352): A keyed TEN_MBCMD with the matching SEQ delivers the staged response. -/
  | mailboxDone (val : Nat)
  /-- MAILBOX_TIMEOUT (R351): The mailbox timer expires and the request completes with STATUS 0xFE. -/
  | mailboxTimeout (ti : Nat)
  /-- TEN_NOTICE_WRITE (R353): A manager write of TEN_NOTICE sets notice bits 8-15 and may signal the tenant. -/
  | tenNoticeWrite (val : Nat)
  /-- CONTEXT_SAVE (R360): SAVE copies a quiesced instance's context into TEN_CTX. -/
  | contextSave (val : Nat)
  /-- CONTEXT_LOAD (R360): LOAD checks TEN_CTX and copies it into a quiesced instance. -/
  | contextLoad (val : Nat)
  /-- CONTEXT_TRANSFER_DONE (R360): A SAVE or LOAD completes and RESULT is set. -/
  | contextTransferDone
  /-- LOG_ENABLE (R361): Setting TEN_LOGCTL.EN starts dirty-page logging into buffer 0. -/
  | logEnable (val : Nat)
  /-- LOG_DISABLE (R363): Clearing EN flushes the log cache and stops logging when BUSY clears. -/
  | logDisable (val : Nat)
  /-- LOG_FLIP (R362): A keyed FLIP makes the other buffer active and sets BUSY. -/
  | logFlip (val : Nat)
  /-- LOG_FLIP_DONE (R362): Pre-flip writes have ended and cached bits are proven, clearing BUSY. -/
  | logFlipDone (ti : Nat)
  /-- LOG_CACHE_EVICT (R362): A log cache entry leaving the cache is read-modify-written into its buffer. -/
  | logCacheEvict (ti buf word : Nat)
  /-- BOUNDARY_DRAIN_DONE (R381): The domain is empty, isolation is applied and the boundary is OFFLINE. -/
  | boundaryDrainDone (n : Nat)
  /-- BOUNDARY_DRAIN_TIMEOUT (R381): DRAINMAX elapses, flits inside are discarded and DRAINTO set. -/
  | boundaryDrainTimeout (n : Nat)
  /-- ACQ_WEDGE (R386): A VC2 or VC3 head flit not advancing for WDOG raises the wedge source. -/
  | acqWedge (node port vc : Nat)
  /-- ACQ_HEADER_FAULT (R385): An uncorrectable flit control field discards the packet and raises the header-fault source. -/
  | acqHeaderFault (node port : Nat) (e : FlitErr)
  /-- ACQ_PROBE_WRITE (R378): A write of a probe's settings is taken, or refused for overlapping trace windows. -/
  | acqProbeWrite (p word val : Nat)
  /-- RUNNEL_STATS_SNAP (R380): A keyed SNAP exchanges the Runnel statistics banks and latches the time. -/
  | runnelStatsSnap (val : Nat)
  /-- SOURCE_RAISE (R395): A Spillway source read as raised sets its sticky bit and starts its reaction. -/
  | sourceRaise (src : Nat)
  /-- SOURCE_QUIET (R403): A raised source read as quiet enters SETTLING or LATCHED. -/
  | sourceQuiet (src : Nat)
  /-- QUIET_PERIOD_END (R403): The quiet period ends, recovering the source or latching it at the flap limit. -/
  | quietPeriodEnd (src : Nat)
  /-- STICKY_CLEAR (R403): A W1C of a sticky bit returns a settling or latched source to QUIET. -/
  | stickyClear (word val : Nat)
  /-- FLAP_WINDOW_CLEAR (R403): At each flap window boundary every FLAP count is cleared. -/
  | flapWindowClear
  /-- WIRE_FAULT (R391): Equal rails for three samples start a wire test of that source. -/
  | wireFault (src : Nat)
  /-- WIRE_TEST (R392): At each WTEST interval every railed source runs its wire test. -/
  | wireTest
  /-- WIRE_TEST_END (R391): A wire test ends, reading the source from one rail or latching it raised. -/
  | wireTestEnd (src : Option Nat) (pGood nGood : Bool)
  /-- COLLECTOR_MISMATCH (R394): The two collector copies differ, act on the union and raise source 0x3E0. -/
  | collectorMismatch (srcs : List Nat) (codes : List (Nat × Nat))
  /-- COLLECTOR_RATE_CHANGE (R390): The collector moves to or from AUX sampling and announces the rate. -/
  | collectorRateChange (slow : Bool)
  /-- SPW_INJECT (R406): A keyed SPW_INJ raises a source for 8 samples as a real raise. -/
  | spwInject (val : Nat)
  /-- SPW_MASK_WRITE (R396): A mask change releases or starts reactions of sticky sources. -/
  | spwMaskWrite (word val : Nat)
  /-- SPW_RCT_WRITE (R398): A write of a source's reaction code or NOREC takes effect at the next raise. -/
  | spwRctWrite (src val : Nat)
  /-- DEVICE_CPL_TIMEOUT (R408): A device-issued request without completion within SPW_CPLTOn is completed as a timeout. -/
  | deviceCplTimeout (p tag : Nat)
  /-- FEED_BAD (R416): A feed outside its window for four samples becomes bad. -/
  | feedBad (n : Nat) (feedB : Bool) (c : Nat)
  /-- FEED_GOOD (R416): A feed within its window for 1 ms becomes good. -/
  | feedGood (n : Nat) (feedB : Bool) (c : Nat)
  /-- FEED_MAKE (R417): After 2 us dead time the new feed's GATE is driven on. -/
  | feedMake (j : Nat)
  /-- FEED_RETURN (R417): The preferred feed good for FEEDRET returns the slot to it. -/
  | feedReturn (j : Nat)
  /-- SLOT_PRESENT (R415): PRSNT_N reads present after two low samples. -/
  | slotPresent (j : Nat) (held : Bool)
  /-- SLOT_ABSENT (R415): PRSNT_N reads absent after two high samples, powering the slot down. -/
  | slotAbsent (j : Nat)
  /-- SLU_CFG_WRITE (R419): A write of SLU_CFG.EN enables or disables a slot. -/
  | sluCfgWrite (j val : Nat)
  /-- SLU_ON (R420): SLU_CMD ON asks a slot to ramp. -/
  | sluOn (j val : Nat)
  /-- SLU_OFF (R420): SLU_CMD OFF asks a slot to power down. -/
  | sluOff (j val : Nat)
  /-- SLU_CLRFLT (R426): SLU_CMD CLRFLT returns a tripped slot to OFF. -/
  | sluClrflt (j val : Nat)
  /-- SLU_CLRISO (R427): SLU_CMD CLRISO returns an isolated slot to OFF when VOUT has stayed low. -/
  | sluClriso (j val : Nat) (low : Bool)
  /-- RAMP_PLACE_FREE (R420): A ramp place frees and a waiting power-on starts its ramp. -/
  | rampPlaceFree (j : Nat)
  /-- RAMP_SEGMENT_END (R421): A ramp segment ends; after segment 15 the slot enters PGWAIT. -/
  | rampSegmentEnd (j vout cur : Nat)
  /-- RAMP_TIMEOUT (R422): RAMPMAX without power-good trips the slot. -/
  | rampTimeout (j : Nat)
  /-- POWER_GOOD (R428): Three good samples assert power-good and start the 100 ms of R73. -/
  | powerGood (j vout cur vin : Nat)
  /-- STOPPING_END (R419): 100 us after PERST_OUT_N fell, GATE_P goes to 0 V and the slot is OFF. -/
  | stoppingEnd (j : Nat)
  /-- FAST_TRIP (R423): Current above the fast threshold pulls GATE_P off and trips the slot. -/
  | fastTrip (j cur : Nat)
  /-- SLOW_TRIP (R424): A slow-trip timer reaching its time trips the slot. -/
  | slowTrip (j k cur : Nat)
  /-- UNDER_VOLTAGE (R425): Three samples of VOUT below PGLO in ON trip the slot. -/
  | underVoltage (j vout : Nat)
  /-- OVER_VOLTAGE (R425): Three samples of VOUT above PGOV trip the slot. -/
  | overVoltage (j vout : Nat)
  /-- PASS_FET_DAMAGE (R427): VOUT above 1 V for 10 ms while commanded off isolates the slot. -/
  | passFetDamage (j vout : Nat)
  /-- FLUME_SNAPSHOT (R439): At an epoch or minute boundary every counter is copied into a shadow bank. -/
  | flumeSnapshot (errs : List (Nat × Bool))
  /-- FLM_SNAP (R439): A keyed FLM_SNAP takes a manual snapshot. -/
  | flmSnap (val : Nat)
  /-- DUMP_BODY_PROVEN (R442): A dump's body writes are proven and its header is written. -/
  | dumpBodyProven (r : Nat)
  /-- DUMP_COMPLETE (R442): The dump header is proven and the shadow bank freed. -/
  | dumpComplete (r : Nat)
  /-- DUMP_FAIL (R443): A failed dump write abandons the dump and raises source 0x1F0. -/
  | dumpFail (r : Nat)
  /-- DUMP_LATE (R443): A dump unfinished LATEMS after its snapshot raises source 0x1F1. -/
  | dumpLate (r : Nat)
  /-- FLM_ZERO (R445): A keyed FLM_ZERO zeroes one counter. -/
  | flmZero (val : Nat)
  /-- FLM_EVT_WRITE (R437): A write of FLM_EVTc defines an event counter or is refused. -/
  | flmEvtWrite (c word val : Nat)
  /-- FLM_FILT_WRITE (R438): A write of a filter set takes effect between events or is refused. -/
  | flmFiltWrite (f word val : Nat)
  /-- FLM_RING_WRITE (R448): A write of FLM_RINGr sets a dump ring, or clears EN abandoning a dump. -/
  | flmRingWrite (r word val : Nat)
  /-- DICT_READ (R451): A READ request returns an object's value. -/
  | dictRead (seg mac : Nat) (bcast : Bool) (body : List Byte) (hang : Bool)
  /-- DICT_WRITE (R457): A WRITE request sets an object, journaled, possibly timed. -/
  | dictWrite (seg mac : Nat) (bcast : Bool) (body : List Byte) (good hang : Bool)
  /-- BROADCAST_REPLY (R451): A broadcast READ is answered after 1 ms times the node identity. -/
  | broadcastReply
  /-- COMMAND_TIMEOUT (R452): A command running 1 s is answered with abort 0x0D. -/
  | commandTimeout
  /-- DOMAIN_TRANSFER_TIMEOUT (R457): An open DOMAIN transfer without a segment for 1 s is abandoned. -/
  | domainTransferTimeout (orig : Nat)
  /-- NOTIFICATION_ACK (R466): An acknowledgement stops resending of a notification. -/
  | notificationAck (seg mac : Nat) (body : List Byte)
  /-- NOTIFICATION_RESEND (R466): An unacknowledged notification is sent again after 10 ms, up to three times. -/
  | notificationResend (slot tag : Nat)
  /-- WARMRESET (R456): The WARMRESET object requests a warm reset. -/
  | warmreset (c : Caller) (val : Nat)
  /-- TILERESET (R456): The TILERESET object requests tile resets. -/
  | tilereset (c : Caller) (val : Nat)
  /-- ENTER_STANDBY (R459): STATECMD 1 returns the device to Standby. -/
  | enterStandby (c : Caller)
  /-- ENTER_OPERATIONAL (R78): STATECMD 2 starts the waves toward Operational. -/
  | enterOperational (c : Caller)
  /-- EPOCHCANCEL (R460): EPOCHCANCEL withdraws a pending timed write or batch. -/
  | epochcancel (c : Caller) (seq : Nat)
  /-- CONFIG_EPOCH_APPLY (R460): Pending timed writes due at a tick are revalidated and applied in sequence order. -/
  | configEpochApply
  /-- BATCH (R461): A BATCH writes several registers together after validating every entry. -/
  | batch (c : Caller) (apply : Option Nat) (entries : List (Nat × Nat))
  /-- DEBUG (R462): A DEBUG write makes a debug-class access checked at the internal gate. -/
  | debug (c : Caller) (space : Nat) (write : Bool) (addr n : Nat) (data : List Byte)
  /-- LOCK_CLAIM (R458): A write of LOCKHOLDER claims or releases the dictionary lock. -/
  | lockClaim (c : Caller) (val : Nat)
  /-- LOCK_LAPSE (R458): The lock lapses after LOCKSEC without a write from its holder. -/
  | lockLapse
  /-- PRECEDENCE (R289): The PRECEDENCE object selects or leaves Precedence mode in Standby. -/
  | precedence (c : Caller) (val : Nat)
  /-- SWCLEAR (R405): The SWCLEAR object selects or leaves Spillway software-clear mode in Standby. -/
  | swclear (c : Caller) (val : Nat)
  /-- CKNOW (R464): CKNOW requests a Waterlog checkpoint. -/
  | cknow (c : Caller) (val : Nat)
  /-- CHECKPOINT_TIMER (R464): At each CKSEC multiple with new records a checkpoint starts. -/
  | checkpointTimer
  /-- CHECKPOINT_DONE (R464): A checkpoint's flash write is verified or fails. -/
  | checkpointDone (ok : Bool)
  /-- TENDER_RESTART (R465): A lockstep mismatch or watchdog expiry restarts the Tender from ROM. -/
  | tenderRestart
  /-- BOOT_SLOT_TRY (R474): A boot slot's header, signature, SVN and stage 1 are read, checked and applied. -/
  | bootSlotTry (b : Bool) (v : ImageCheck)
  /-- STAGE2_LOADED (R476): Stage 2 is hashed and its records applied, or the device stays in Standby. -/
  | stage2Loaded (v : ImageCheck)
  /-- IMAGE_SEGMENT_WRITE (R478): A segment of IMAGEA or IMAGEB is staged and programmed into flash. -/
  | imageSegmentWrite (c : Caller) (b : Bool) (off : Nat) (last : Bool) (data : List Byte)
  /-- VERIFYA (R479): VERIFYA checks slot A without applying it. -/
  | verifya (c : Caller)
  /-- VERIFYB (R479): VERIFYB checks slot B without applying it. -/
  | verifyb (c : Caller)
  /-- ACTIVATEA (R479): ACTIVATEA restarts the Tender into slot A's firmware and enters a trial. -/
  | activatea (c : Caller)
  /-- ACTIVATEB (R479): ACTIVATEB restarts the Tender into slot B's firmware and enters a trial. -/
  | activateb (c : Caller)
  /-- COMMIT (R479): COMMIT ends a firmware trial as committed. -/
  | commit (c : Caller)
  /-- BOOTNOWA (R477): BOOTNOWA boots slot A from recovery. -/
  | bootnowa (c : Caller) (v : ImageCheck)
  /-- BOOTNOWB (R477): BOOTNOWB boots slot B from recovery. -/
  | bootnowb (c : Caller) (v : ImageCheck)
  /-- FW_VERIFY_DONE (R479): A background verify ends and FWRESULT is set. -/
  | fwVerifyDone (v : ImageCheck)
  /-- TRIAL_EXPIRE (R479): TRIALSEC passes without a restart and the trial is committed. -/
  | trialExpire
  /-- SVN (R480): A write of SVN burns the SVN fuses if both slots verify. -/
  | svn (c : Caller) (val : Nat) (va vb : ImageCheck)
  /-- CHALLENGE (R482): A read of CHALLENGE returns a fresh nonce and serial. -/
  | challenge (c : Caller)
  /-- UNLOCK (R482): An UNLOCK response is checked and moves the lifecycle to Open or counts a refusal. -/
  | unlock (c : Caller) (bytes : List Byte) (good : Bool)
  /-- RELOCK (R481): RELOCK returns an Open device to Secured. -/
  | relock (c : Caller)
  /-- OPEN_EXPIRE (R482): The Open duration expires and the lifecycle returns to Secured. -/
  | openExpire
  /-- RETIRE (R483): RETIRE burns the retired fuse. -/
  | retire (c : Caller) (val : Nat)
  /-- TAP_RESET (R484): TRST_N low or five TMS-high cycles reset the TAP to IDCODE. -/
  | tapReset
  /-- EXTEST (R484): EXTEST drives pins from the boundary-scan chain. -/
  | extest (pins upd : Nat)
  /-- IDCODE (R484): IDCODE selects the 32-bit identification register. -/
  | idcode
  /-- SAMPLE_PRELOAD (R484): SAMPLE/PRELOAD captures and loads the boundary-scan chain. -/
  | samplePreload (pins upd : Nat)
  /-- CLAMP (R484): CLAMP holds pins from the chain with bypass selected. -/
  | clamp (tdi n : Nat)
  /-- HIGHZ (R484): HIGHZ sets outputs high-impedance with bypass selected. -/
  | highz (tdi n : Nat)
  /-- BYPASS (R484): BYPASS selects the 1-bit bypass register. -/
  | bypass (code tdi n : Nat)
  /-- SYSACC (R485): At Update-DR a SYSACC access of debug class is started at the internal gate. -/
  | sysacc (dr : Nat)
  /-- JTAG_CHALLENGE (R484): The TAP CHALLENGE instruction shifts out a challenge. -/
  | jtagChallenge
  /-- JTAG_UNLOCK (R484): The TAP UNLOCK instruction takes an unlock response at Update-DR. -/
  | jtagUnlock (bits : Nat) (good : Bool)
  /-- JUNCTION_WARNING (R501): Junction temperature at or above TWARN raises source 0x189 until it falls below the hysteresis. -/
  | junctionWarning (temp sensor : Nat)
  /-- JUNCTION_TRIP (R502): Two readings at or above 120 C drive THERMTRIP_N and stop the link clocks. -/
  | junctionTrip (temp sensor : Nat)
  /-- HOT_RESET_END (R128): A hot reset on an upstream port's link ends, or Link Disable is cleared, and training restarts with no wait for a wave slot. -/
  | hotResetEnd (p : Nat)
  /-- TENDER_RESTART_DONE (R465): The Tender controllers finish restarting from ROM or into activated firmware, write the restart record and answer requests again. -/
  | tenderRestartDone
  /-- BADFRAME (R451): A management frame of another Ethertype, too short, or with a wrong VER, KIND, reserved field or length is discarded and counted, or one with an undefined OP is answered with abort 0x0E. -/
  | badframe (seg mac ether : Nat) (bcast : Bool) (body : List Byte)
  /-- PRBS_CHECKER_LOCK (R118): A lane's PRBS checker locks to the received pattern within 1,024 symbols and sets LOCKED. -/
  | prbsCheckerLock (l errors : Nat)
  /-- RATE_PAIR_FAULT (R390): A source driver that sees equal levels on its rate pair takes 25 MHz as announced, and the collector raises source 0x3E0. -/
  | ratePairFault (driver : Nat)
  /-- LOG_BUFFER_COMPLETION (R362): A log-cache read, write or proving read to a dirty-page buffer completes, so the write-back goes on, or the access fails and LERR is set with the log-error source raised. -/
  | logBufferCompletion (id data : Nat) (ok : Bool)
  /-- FLASH_PROGRAM_DONE (R478): A staged image segment finishes programming or erasing in flash, freeing staging buffer room, or fails, ending the transfer with abort 0x11 and raising source 0x1FB. -/
  | flashProgramDone (b ok : Bool)
  deriving DecidableEq, Repr

end Sys2Proof
end

