-- ==== Sys2Proof/Decode.lean ====
section
/-! DEFINITION. Reading a command from a word.  The opcode table gives its rows no bits: the block takes commands from
outside, and no word spells one. -/

namespace Sys2Proof

/-- The command that a word spells by the table's bits: none, since no row has any. -/
def decodeTableWord (_nbits _w : Nat) : Option Instr := none

end Sys2Proof
end

