-- ==== Sys2Proof/Machine/Flags.lean ====
section
/-! DEFINITION. The block's check codes, which stand in the place of a processor's flag computations: the CRC-64 of a
Leat unit (R150), the CRC-8 of a lane marker (R110) and of a time-of-day message (R90), and the CRC-32 of tables and
images (R232). -/

namespace Sys2Proof.Machine

/-- One bit of a CRC of width `w` (at least 8) and polynomial `p`, most significant bit first. -/
def crcStep (w p c : Nat) : Nat := if bitOf c (w - 1) then (c * 2) % 2 ^ w ^^^ p else (c * 2) % 2 ^ w

/-- One byte of a CRC without reflection: its bit 7 enters first. -/
def crcByte (w p c : Nat) (b : Byte) : Nat :=
  (List.range 8).foldl (fun a _ => crcStep w p a) (c ^^^ (b.toNat * 2 ^ (w - 8)))

/-- The CRC of a list of bytes without reflection. -/
def crc (w p init : Nat) (bs : List Byte) : Nat := bs.foldl (crcByte w p) init

/-- CRC-64 of ECMA-182 (R150). -/
def crc64 (bs : List Byte) : Nat := crc 64 0x42F0E1EBA9EA3693 0 bs

/-- CRC-8 with polynomial 0x07 (R90, R110). -/
def crc8 (init : Nat) (bs : List Byte) : Nat := crc 8 0x07 init bs

/-- One bit of a reflected CRC-32. -/
def crc32Step (c : Nat) : Nat := if bitOf c 0 then c / 2 ^^^ 0xEDB88320 else c / 2

/-- CRC-32 of the table and image checks (R232): reflected, initial value and final inversion all ones. -/
def crc32 (bs : List Byte) : Nat :=
  bs.foldl (fun c b => (List.range 8).foldl (fun a _ => crc32Step a) (c ^^^ b.toNat)) 0xFFFFFFFF ^^^ 0xFFFFFFFF

end Sys2Proof.Machine
end

