-- ==== Sys2Proof/Config.lean ====
section
/-! DEFINITION. What the spec leaves open: free values, as constants with no body.  Nothing can be proved of one of
them but what holds of every value, and no field of the machine's state is one; a step that needs a fresh free value
applies one of these to the state's plain counter `free` and advances the counter (log entry 2). -/

namespace Sys2Proof.Config

/-- The servo's choice of FT_RATE after an accepted edge: the control law is the device's own (R509).  The model cuts
it to the stated ±300,000 ppb. -/
opaque servoRate : Nat → BitVec 32

/-- The 256-bit nonce of a CHALLENGE (R482): the random source is not specified. -/
opaque nonce : Nat → BitVec 256

/-- A word of a field whose Reset is "undefined" (R15): TEN_CTX, TEN_RSPSTAGE and WM_TTSTAGE before software has
written them. First argument: the address of the register; second: the word. -/
opaque undefinedWord : Nat → Nat → BitVec 32

/-- A value that the two ends of a link find by themselves and the spec does not state: a port lane's transmitter coefficients (R121), the
requests of a Leat receiver (R115). -/
opaque adapted : Nat → BitVec 32

/-- CTLE, VGA and DFE codes of the receiver of a lane, while it adapts, by device time (R104, R115, R121). -/
opaque adaptedAt : Nat → Nat → BitVec 32

/-- A field of the configuration space of a function of port `p`'s VCS for which the spec gives no value (log entry 103). -/
opaque cfgOpen : CfgFn → CfgField → Nat → BitVec 32

/-- The bytes of a line whose data is lost, by line and device time (R227, R249): the line is poisoned and no rule states them. -/
opaque lostLine : Nat → Nat → BitVec 512

/-- The ten check bits of a filter entry's bits [117:0] (R237, R251): the rule states what the code corrects and detects, and not the code. -/
opaque entryEcc : Nat → BitVec 10

/-- What an upset has turned over in a stored filter entry that a diagnostic read finds in error (R251, R258), by the count of such reads. -/
opaque flips : Nat → BitVec 128

/-- The ways that a pass of the filter sweepers finds in error (R251), as way and kind, by the count of the passes. -/
opaque sweepHits : Nat → List (Nat × Nat)

/-- The byte at a place of a CXL.io TLP as PCI Express flit mode carries it (R152): the encoding is PCI Express's own. -/
opaque tlpByte : Msg → Nat → BitVec 8

/-- The 16 bytes that hold the fields of a CXL.mem or CXL.cache message in the bit layout of its slot (R152): the layout is CXL's. -/
opaque slotBytes : Msg → BitVec 128

/-- The symbol at a place of the SSPRQ pattern, which IEEE 802.3 defines (R118). -/
opaque ssprq : Nat → BitVec 2

/-- The first cell of the chain that holds a stored message, by its number (R182): no rule says which free cells a message takes. -/
opaque firstCell : Nat → Nat

/-- The symbol times that stuff symbols have added to the blocks of link `k` since its lanes were started together, by device time (R107,
R109): they follow from the data. -/
opaque stuffTime : Nat → Nat → Nat

/-- A device's local nanosecond count when it sends an INIT unit (R157, R165): no rule relates it to fabric time. -/
opaque localNs : Nat → BitVec 32

/-- Whether a PLCA beacon has been seen on a segment within the last 10 ms (R468), by segment and time. -/
opaque beacon : Nat → Nat → Bool

/-- Whether a write whose command timed out or was interrupted by a restart of the Tender had been applied (R452, R465). -/
opaque applied : Nat → Bool

/-- The port of node `n` whose PRT_TIBLK block holds tenant instance `ti` there (R266): a peer's registers are the peer's. -/
opaque peerPort : Nat → Nat → BitVec 6

/-- The address that an enumeration's configuration request to the device at port `p` carries as it leaves the port (R263, R284): the
spec gives a CXL.io configuration request none. -/
opaque enumAddr : Nat → BitVec 64

end Sys2Proof.Config
end

