-- ==== Sys2Proof/Machine/Operands.lean ====
section
/-! DEFINITION. The operands of commands: the units that the device has, sources with their units, and the ranges of the fields that
messages, frames and readings carry. -/

namespace Sys2Proof.Machine

/-! ### Units -/

/-- The tile of port `p` (R20). -/
def tileOfPort (p : Nat) : Nat := p / 16

/-- The tile of Leat link `k` (R22). -/
def tileOfLink (k : Nat) : Nat := k / 2

/-- A port number. -/
def isPort (p : Nat) : Bool := decide (p < 64)

/-- A Leat link. -/
def isLink (k : Nat) : Bool := decide (k < 8)

/-- A SerDes lane. -/
def isLane (l : Nat) : Bool := decide (l < 328)

/-- A Leat lane. -/
def isLeatLane (l : Nat) : Bool := decide (256 ≤ l ∧ l < 328)

/-- A slot number. -/
def isSlot (j : Nat) : Bool := decide (j < 32)

/-- A bridge of a VCS: 0 to 31 at upstream port `v`. -/
def isBridge (v i : Nat) : Bool := decide (v < 64 ∧ i < 32)

/-- A tile number. -/
def isTile (n : Nat) : Bool := decide (n < 4)

/-- A switchable domain (R64). -/
def isDomain (n : Nat) : Bool := decide (8 ≤ n ∧ n < 84)

/-- An instance number. -/
def isTi (ti : Nat) : Bool := decide (ti < 8192)

/-- A ring number. -/
def isRing (r : Nat) : Bool := decide (r < 8192)

/-! ### Sources (R389) -/

/-- What a source concerns (R389). -/
inductive SrcUnit where
  | port (p : Nat)
  | egress (x : Nat)
  | link (k : Nat)
  | tile (t : Nat)
  | slot (j : Nat)
  | device
  deriving DecidableEq, Repr

/-- Sources that concern the device, by number, but for configuration errors and those of the collector. -/
def deviceSources : List Nat :=
  [0x180, 0x181, 0x182, 0x187, 0x188, 0x189, 0x190, 0x191, 0x192, 0x193, 0x194, 0x1A0, 0x1A1, 0x1A2, 0x1A3, 0x1B0, 0x1B1,
   0x1B2, 0x1B3, 0x1B4, 0x1B8, 0x1B9, 0x1C0, 0x1C1, 0x1C2, 0x1C8, 0x1C9, 0x1CA, 0x1D0, 0x1D1, 0x1D8, 0x1D9, 0x1DA, 0x1DB,
   0x1DC, 0x1E0, 0x1E1, 0x1E2, 0x1E8, 0x1E9, 0x1F0, 0x1F1, 0x1F8, 0x1F9, 0x1FA, 0x1FB]

/-- The unit of source `n`; none for a reserved source (R389). -/
def srcUnit (n : Nat) : Option SrcUnit :=
  if n < 0xC0 then some (.port (n % 64))
  else if n < 0x108 then some (.egress (n - 0xC0))
  else if n < 0x128 then some (.link (n % 8))
  else if n < 0x168 then some (.port (n - 0x128))
  else if n < 0x174 then some (.tile (n % 4))
  else if 0x183 ≤ n ∧ n < 0x187 then some (.tile (n - 0x183))
  else if deviceSources.contains n then some .device
  else if 0x200 ≤ n ∧ n < 0x240 then some (.slot (n % 32))
  else if 0x240 ≤ n ∧ n < 0x248 then some (.tile (n % 4))
  else if 0x3C0 ≤ n ∧ n < 0x3D8 then some .device
  else if n = 0x3E0 ∨ (0x3F0 ≤ n ∧ n < 0x400) then some .device
  else none

/-- A source with rails: not one that the collector makes itself (R390). -/
def railed (n : Nat) : Bool := (srcUnit n).isSome && decide (n < 0x3E0)

/-- A source number that is not reserved. -/
def isSource (n : Nat) : Bool := decide (n < 1024) && (srcUnit n).isSome

/-- Unit `u` admits reaction code `c` (R398). -/
def SrcUnit.admits (u : SrcUnit) (c : Nat) : Bool :=
  match u with
  | .port _ | .egress _ | .link _ => decide (c < 10)
  | .tile _ => decide (c < 10) && !(decide (3 ≤ c) && decide (c ≤ 5))
  | _ => [0, 1, 2, 7, 8, 9].contains c

/-! ### Other operands -/

/-- Causes that a completion can carry to an engine (R309): OK, DENIED, LINKDOWN, UNSUP, OFFLINE. -/
def isCause (st : Nat) : Bool := [0, 1, 3, 6, 0x0C].contains st

/-- The operands of a LINKMGT row. -/
def mgmtOk (k hdr trl port ld : Nat) : Bool := isLink k && decide (hdr < 2 ^ 32 ∧ trl < 2 ^ 32 ∧ port < 64 ∧ ld < 256)

/-- A message that a home slice can be sent. -/
def wmOk (m : Msg) : Bool := decide (m.src < 128 ∧ m.snode < 16 ∧ m.tc < 8 ∧ m.tenant < 8192)

/-- A reading's operands: 11 bits in quarters of a degree, and one of 24 sensors. -/
def tempOk (temp sensor : Nat) : Bool := decide (temp < 2 ^ 11 ∧ sensor < 24)

/-- The operands of a frame are in range. -/
def frameOk (seg mac : Nat) : Bool := decide (seg < 2 ∧ mac < 2 ^ 48)

/-- The operands that name a requester are in range. -/
def callerOk (w : Caller) : Bool := decide (w.path < 3 ∧ w.mac < 2 ^ 48 ∧ w.port < 64 ∧ w.tag < 2 ^ 16)

/-- A code of an instruction other than BYPASS (R484). -/
def tapCode (c : Nat) : Bool := [0x00, 0x01, 0x02, 0x04, 0x05, 0x20, 0x21, 0x22].contains c

/-- Cells of the boundary-scan chain: one for each IN, OD and TS pin of R43 and R45 (R486). -/
def chainCells : Nat := 361

/-- Symbols of a block (R107). -/
def blockSymbols : Nat := 65648

end Sys2Proof.Machine
end

