-- ==== Sys2Proof/Machine/Fld.lean ====
section
/-! DEFINITION. What the register tables say of a field and of a register (R8 to R15, R21). -/

namespace Sys2Proof.Machine

/-- Access codes of R10 (STK and STBY are separate flags, since codes combine). -/
inductive Acc where
  | ro | rw | wo | w1c | rc
  deriving DecidableEq, Repr

/-- The word of the Reset column (R15). -/
inductive Load where
  | number | fuse | strap | image | undef
  deriving DecidableEq, Repr

/-- One register field. `addr` is the byte address of instance 0 of its register: in the device register space of
R21, or in one of four pseudo spaces for registers that are not in that space: VF BAR0 of instance i at
0x10_0000_0000 + 0x1000 i, VF BAR2 at 0x20_0000_0000 + 0x1000 i, the DVSEC of port p at
0x30_0000_0000 + 0x1000 p, and BAR2 of the PF of port p at 0x50_0000_0000 + 0x10000 p (DESIGN CHOICE, log entries 3 and 99).  Instances `a` to `b - 1` of a run
`(a, b, v)` of `runs` reset to `v`, all others to `reset`. -/
structure Fld where
  addr : Nat
  lsb : Nat
  width : Nat
  acc : Acc
  stk : Bool
  stby : Bool
  load : Load
  reset : Nat
  lo : Nat
  hi : Nat
  runs : List (Nat × Nat × Nat) := []
  deriving DecidableEq, Repr

/-- The key of a field: fields of different registers, or at different bits, have different keys. -/
def Fld.key (f : Fld) : Nat := 32 * f.addr + f.lsb

/-- What instance `i` of a field reads as after a cold reset (R15). -/
def Fld.resetAt (f : Fld) (i : Nat) : Nat :=
  ((f.runs.find? fun r => decide (r.1 ≤ i ∧ i < r.2.1)).map fun r => r.2.2).getD f.reset

/-- A register that selects the instance another register shows. -/
inductive Sel where
  | sgWord | sgGroup | ring | weirTenant | tenant | domain | counter
  deriving DecidableEq, Repr

/-- How the instances of a register lie: one; `count` at a stride; rows of a grid; or selected by a register. -/
inductive Shape where
  | one
  | row (stride count : Nat)
  | grid (stride count stride2 count2 : Nat)
  | selected (by_ : Sel)
  deriving DecidableEq, Repr

/-- A word that is a whole register, or a half of a 64-bit register (R9). -/
inductive Half where
  | whole | low | high
  deriving DecidableEq, Repr

/-- One register word: its address, instances, key (an action word that must stand in bits 31:24) and fields. -/
structure RegDesc where
  addr : Nat
  shape : Shape
  key : Option Nat
  half : Half
  fields : List Fld
  deriving DecidableEq, Repr

end Sys2Proof.Machine
end

