-- ==== Sys2Proof/Machine/RegsA.lean ====
section
/-! DEFINITION. The fields of the registers of spec/{01, 02, 03, 04, 05, 22} (its register tables): address of instance 0, place of its bits, access
(R10), reset (R15, R510) and the range of its defined encodings (R14).  One definition per field, named
f<REGISTER>_<FIELD>; the register list of the window follows. -/

namespace Sys2Proof.Machine
/-- ARCH_PROFILE.SEL, [2:0], STBY (spec/01). -/
def fARCH_PROFILE_SEL : Fld :=
  { addr := 0x0, lsb := 0, width := 3, acc := .rw, stk := false, stby := true, load := .image, reset := 0, lo := 0, hi := 4 }
/-- ARCH_PROFILE.APPLY, [8], WO/STBY (spec/01). -/
def fARCH_PROFILE_APPLY : Fld :=
  { addr := 0x0, lsb := 8, width := 1, acc := .wo, stk := false, stby := true, load := .number, reset := 0, lo := 0, hi := 1 }
/-- ARCH_PROFILE.ACTIVE, [18:16], RO (spec/01). -/
def fARCH_PROFILE_ACTIVE : Fld :=
  { addr := 0x0, lsb := 16, width := 3, acc := .ro, stk := false, stby := false, load := .image, reset := 0, lo := 0, hi := 7 }
/-- ARCH_PROFILE.BUSY, [24], RO (spec/01). -/
def fARCH_PROFILE_BUSY : Fld :=
  { addr := 0x0, lsb := 24, width := 1, acc := .ro, stk := false, stby := false, load := .number, reset := 0, lo := 0, hi := 1 }
/-- ARCH_PROFILE.LASTRES, [26:25], RO (spec/01). -/
def fARCH_PROFILE_LASTRES : Fld :=
  { addr := 0x0, lsb := 25, width := 2, acc := .ro, stk := false, stby := false, load := .number, reset := 0, lo := 0, hi := 3 }
/-- ARCH_BANKMAP.FILTER, [6:0], RO (spec/01). -/
def fARCH_BANKMAP_FILTER : Fld :=
  { addr := 0x4, lsb := 0, width := 7, acc := .ro, stk := false, stby := false, load := .image, reset := 120, lo := 0, hi := 127 }
/-- ARCH_BANKMAP.RSVBANKS, [11:8], RO (spec/01). -/
def fARCH_BANKMAP_RSVBANKS : Fld :=
  { addr := 0x4, lsb := 8, width := 4, acc := .ro, stk := false, stby := false, load := .image, reset := 3, lo := 0, hi := 15 }
/-- ARCH_BANKMAP.SFBANKS, [15:12], RO (spec/01). -/
def fARCH_BANKMAP_SFBANKS : Fld :=
  { addr := 0x4, lsb := 12, width := 4, acc := .ro, stk := false, stby := false, load := .image, reset := 4, lo := 0, hi := 15 }
/-- ARCH_BANKMAP.WAYS, [20:16], RO (spec/01). -/
def fARCH_BANKMAP_WAYS : Fld :=
  { addr := 0x4, lsb := 16, width := 5, acc := .ro, stk := false, stby := false, load := .image, reset := 16, lo := 0, hi := 31 }
/-- ARCH_APPSTAT.PHASE, [2:0], RO (spec/01). -/
def fARCH_APPSTAT_PHASE : Fld :=
  { addr := 0x8, lsb := 0, width := 3, acc := .ro, stk := false, stby := false, load := .number, reset := 0, lo := 0, hi := 7 }
/-- ARCH_APPREMAIN.REMAIN, [31:0], RO (spec/01). -/
def fARCH_APPREMAIN_REMAIN : Fld :=
  { addr := 0xc, lsb := 0, width := 32, acc := .ro, stk := false, stby := false, load := .number, reset := 0, lo := 0, hi := 0xffffffff }
/-- ARCH_CORECLK.MHZ, [11:0], RO (spec/01). -/
def fARCH_CORECLK_MHZ : Fld :=
  { addr := 0x10, lsb := 0, width := 12, acc := .ro, stk := false, stby := false, load := .image, reset := 1250, lo := 0, hi := 4095 }
/-- ARCH_CONFLICT.CODE, [7:0], RO/STK (spec/01). -/
def fARCH_CONFLICT_CODE : Fld :=
  { addr := 0x14, lsb := 0, width := 8, acc := .ro, stk := true, stby := false, load := .number, reset := 0, lo := 0, hi := 255 }
/-- ARCH_CONFLICT.ITEM_A, [15:8], RO/STK (spec/01). -/
def fARCH_CONFLICT_ITEM_A : Fld :=
  { addr := 0x14, lsb := 8, width := 8, acc := .ro, stk := true, stby := false, load := .number, reset := 0, lo := 0, hi := 255 }
/-- ARCH_CONFLICT.ITEM_B, [23:16], RO/STK (spec/01). -/
def fARCH_CONFLICT_ITEM_B : Fld :=
  { addr := 0x14, lsb := 16, width := 8, acc := .ro, stk := true, stby := false, load := .number, reset := 0, lo := 0, hi := 255 }
/-- ARCH_CONFLICT.VALID, [31], W1C/STK (spec/01). -/
def fARCH_CONFLICT_VALID : Fld :=
  { addr := 0x14, lsb := 31, width := 1, acc := .w1c, stk := true, stby := false, load := .number, reset := 0, lo := 0, hi := 1 }
/-- ARCH_FTCMP.USED, [8:0], RO (spec/01). -/
def fARCH_FTCMP_USED : Fld :=
  { addr := 0x18, lsb := 0, width := 9, acc := .ro, stk := false, stby := false, load := .number, reset := 2, lo := 0, hi := 511 }
/-- ARCH_CULV_SP.SPARE, [31:0], RO/STK (spec/01). -/
def fARCH_CULV_SP_SPARE : Fld :=
  { addr := 0x40, lsb := 0, width := 32, acc := .ro, stk := true, stby := false, load := .number, reset := 0, lo := 0, hi := 0xffffffff }
/-- ARCH_CULV_ERR.RETRY, [15:0], RC (spec/01). -/
def fARCH_CULV_ERR_RETRY : Fld :=
  { addr := 0x50, lsb := 0, width := 16, acc := .rc, stk := false, stby := false, load := .number, reset := 0, lo := 0, hi := 0xffff }
/-- ARCH_CULV_ERR.RETIRED, [20:16], RO/STK (spec/01). -/
def fARCH_CULV_ERR_RETIRED : Fld :=
  { addr := 0x50, lsb := 16, width := 5, acc := .ro, stk := true, stby := false, load := .number, reset := 0, lo := 0, hi := 31 }
/-- PKG_STRAP.BOOTSEL, [1:0], RO (spec/02). -/
def fPKG_STRAP_BOOTSEL : Fld :=
  { addr := 0x200000, lsb := 0, width := 2, acc := .ro, stk := false, stby := false, load := .strap, reset := 0, lo := 0, hi := 3 }
/-- PKG_STRAP.NODE_ID, [7:4], RO (spec/02). -/
def fPKG_STRAP_NODE_ID : Fld :=
  { addr := 0x200000, lsb := 4, width := 4, acc := .ro, stk := false, stby := false, load := .strap, reset := 0, lo := 0, hi := 15 }
/-- PKG_STRAP.MGR_EN, [8], RO (spec/02). -/
def fPKG_STRAP_MGR_EN : Fld :=
  { addr := 0x200000, lsb := 8, width := 1, acc := .ro, stk := false, stby := false, load := .strap, reset := 0, lo := 0, hi := 1 }
/-- PKG_STRAP.MGR_PORT, [14:9], RO (spec/02). -/
def fPKG_STRAP_MGR_PORT : Fld :=
  { addr := 0x200000, lsb := 9, width := 6, acc := .ro, stk := false, stby := false, load := .strap, reset := 0, lo := 0, hi := 63 }
/-- PKG_STRAP.TESTMODE, [17:16], RO (spec/02). -/
def fPKG_STRAP_TESTMODE : Fld :=
  { addr := 0x200000, lsb := 16, width := 2, acc := .ro, stk := false, stby := false, load := .strap, reset := 0, lo := 0, hi := 3 }
/-- PKG_STRAP.VALID, [31], RO (spec/02). -/
def fPKG_STRAP_VALID : Fld :=
  { addr := 0x200000, lsb := 31, width := 1, acc := .ro, stk := false, stby := false, load := .number, reset := 0, lo := 0, hi := 1 }
/-- PKG_STRAPFLT.FLOAT, [14:0], RO (spec/02). -/
def fPKG_STRAPFLT_FLOAT : Fld :=
  { addr := 0x200004, lsb := 0, width := 15, acc := .ro, stk := false, stby := false, load := .strap, reset := 0, lo := 0, hi := 0x7fff }
/-- PKG_STRAPFLT.ANY, [31], RO (spec/02). -/
def fPKG_STRAPFLT_ANY : Fld :=
  { addr := 0x200004, lsb := 31, width := 1, acc := .ro, stk := false, stby := false, load := .strap, reset := 0, lo := 0, hi := 1 }
/-- PKG_GLITCH.PWRGD, [15:0], RC/STK (spec/02). -/
def fPKG_GLITCH_PWRGD : Fld :=
  { addr := 0x200008, lsb := 0, width := 16, acc := .rc, stk := true, stby := false, load := .number, reset := 0, lo := 0, hi := 0xffff }
/-- PWR_RSTCAUSE.LAST, [2:0], RO/STK (spec/03). -/
def fPWR_RSTCAUSE_LAST : Fld :=
  { addr := 0x400000, lsb := 0, width := 3, acc := .ro, stk := true, stby := false, load := .number, reset := 0, lo := 0, hi := 7 }
/-- PWR_RSTCAUSE.TILE, [7:4], RC/STK (spec/03). -/
def fPWR_RSTCAUSE_TILE : Fld :=
  { addr := 0x400000, lsb := 4, width := 4, acc := .rc, stk := true, stby := false, load := .number, reset := 0, lo := 0, hi := 15 }
/-- PWR_RSTCAUSE.WARMCNT, [31:16], RO/STK (spec/03). -/
def fPWR_RSTCAUSE_WARMCNT : Fld :=
  { addr := 0x400000, lsb := 16, width := 16, acc := .ro, stk := true, stby := false, load := .number, reset := 0, lo := 0, hi := 0xffff }
/-- PWR_RSTREQ.WARM, [0], WO (spec/03). -/
def fPWR_RSTREQ_WARM : Fld :=
  { addr := 0x400004, lsb := 0, width := 1, acc := .wo, stk := false, stby := false, load := .number, reset := 0, lo := 0, hi := 1 }
/-- PWR_RSTREQ.TILE, [7:4], WO (spec/03). -/
def fPWR_RSTREQ_TILE : Fld :=
  { addr := 0x400004, lsb := 4, width := 4, acc := .wo, stk := false, stby := false, load := .number, reset := 0, lo := 0, hi := 15 }
/-- PWR_RSTREQ.KEY, [31:24], WO (spec/03). -/
def fPWR_RSTREQ_KEY : Fld :=
  { addr := 0x400004, lsb := 24, width := 8, acc := .wo, stk := false, stby := false, load := .number, reset := 0, lo := 0, hi := 255 }
/-- PWR_START.PHASE, [3:0], RO (spec/03). -/
def fPWR_START_PHASE : Fld :=
  { addr := 0x400008, lsb := 0, width := 4, acc := .ro, stk := false, stby := false, load := .number, reset := 0, lo := 0, hi := 15 }
/-- PWR_START.WAVE, [7:4], RO (spec/03). -/
def fPWR_START_WAVE : Fld :=
  { addr := 0x400008, lsb := 4, width := 4, acc := .ro, stk := false, stby := false, load := .number, reset := 15, lo := 0, hi := 15 }
/-- PWR_START.AUTOSTART, [8], RO (spec/03). -/
def fPWR_START_AUTOSTART : Fld :=
  { addr := 0x400008, lsb := 8, width := 1, acc := .ro, stk := false, stby := false, load := .image, reset := 0, lo := 0, hi := 1 }
/-- PWR_START.RAILHOLD, [9], RO (spec/03). -/
def fPWR_START_RAILHOLD : Fld :=
  { addr := 0x400008, lsb := 9, width := 1, acc := .ro, stk := false, stby := false, load := .number, reset := 0, lo := 0, hi := 1 }
/-- PWR_START.ELAPSED, [31:16], RO (spec/03). -/
def fPWR_START_ELAPSED : Fld :=
  { addr := 0x400008, lsb := 16, width := 16, acc := .ro, stk := false, stby := false, load := .number, reset := 0, lo := 0, hi := 0xffff }
/-- PWR_RAILSTAT.LEVEL, [11:0], RO (spec/03). -/
def fPWR_RAILSTAT_LEVEL : Fld :=
  { addr := 0x40000c, lsb := 0, width := 12, acc := .ro, stk := false, stby := false, load := .number, reset := 0, lo := 0, hi := 4095 }
/-- PWR_RAILSTAT.WARNSEEN, [21:16], W1C/STK (spec/03). -/
def fPWR_RAILSTAT_WARNSEEN : Fld :=
  { addr := 0x40000c, lsb := 16, width := 6, acc := .w1c, stk := true, stby := false, load := .number, reset := 0, lo := 0, hi := 63 }
/-- PWR_RAILSTAT.FAULTSEEN, [29:24], W1C/STK (spec/03). -/
def fPWR_RAILSTAT_FAULTSEEN : Fld :=
  { addr := 0x40000c, lsb := 24, width := 6, acc := .w1c, stk := true, stby := false, load := .number, reset := 0, lo := 0, hi := 63 }
/-- PWR_CLKSTAT.OK, [23:0], RO (spec/03). -/
def fPWR_CLKSTAT_OK : Fld :=
  { addr := 0x400010, lsb := 0, width := 24, acc := .ro, stk := false, stby := false, load := .number, reset := 0, lo := 0, hi := 0xffffff }
/-- PWR_CLKLOSS.LOST, [23:0], W1C/STK (spec/03). -/
def fPWR_CLKLOSS_LOST : Fld :=
  { addr := 0x400014, lsb := 0, width := 24, acc := .w1c, stk := true, stby := false, load := .number, reset := 0, lo := 0, hi := 0xffffff }
/-- PWR_PERSTIN.LEVEL, [31:0], RO (spec/03). -/
def fPWR_PERSTIN_LEVEL : Fld :=
  { addr := 0x400020, lsb := 0, width := 32, acc := .ro, stk := false, stby := false, load := .number, reset := 0, lo := 0, hi := 0xffffffff }
/-- PWR_PERSTOUT.RELEASED, [31:0], RO (spec/03). -/
def fPWR_PERSTOUT_RELEASED : Fld :=
  { addr := 0x400028, lsb := 0, width := 32, acc := .ro, stk := false, stby := false, load := .number, reset := 0, lo := 0, hi := 0xffffffff }
/-- PWR_PORTRDY.READY, [31:0], RO (spec/03). -/
def fPWR_PORTRDY_READY : Fld :=
  { addr := 0x400030, lsb := 0, width := 32, acc := .ro, stk := false, stby := false, load := .number, reset := 0, lo := 0, hi := 0xffffffff }
/-- PWR_CRSLATE.LATE, [31:0], W1C/STK (spec/03). -/
def fPWR_CRSLATE_LATE : Fld :=
  { addr := 0x400038, lsb := 0, width := 32, acc := .w1c, stk := true, stby := false, load := .number, reset := 0, lo := 0, hi := 0xffffffff }
/-- PWR_DOMCTL.ON, [0], RW (spec/03). -/
def fPWR_DOMCTL_ON : Fld :=
  { addr := 0x400100, lsb := 0, width := 1, acc := .rw, stk := false, stby := false, load := .image, reset := 0, lo := 0, hi := 1, runs := [(0, 8, 1)] }
/-- PWR_DOMCTL.PWRD, [1], RO (spec/03). -/
def fPWR_DOMCTL_PWRD : Fld :=
  { addr := 0x400100, lsb := 1, width := 1, acc := .ro, stk := false, stby := false, load := .number, reset := 0, lo := 0, hi := 1, runs := [(0, 8, 1)] }
/-- PWR_DOMCTL.BUSY, [2], RO (spec/03). -/
def fPWR_DOMCTL_BUSY : Fld :=
  { addr := 0x400100, lsb := 2, width := 1, acc := .ro, stk := false, stby := false, load := .number, reset := 0, lo := 0, hi := 1 }
/-- PWR_DOMCTL.ABORT, [3], W1C/STK (spec/03). -/
def fPWR_DOMCTL_ABORT : Fld :=
  { addr := 0x400100, lsb := 3, width := 1, acc := .w1c, stk := true, stby := false, load := .number, reset := 0, lo := 0, hi := 1 }
/-- FT_NOWNS.NS, [31:0], RO (spec/04). -/
def fFT_NOWNS_NS : Fld :=
  { addr := 0x600000, lsb := 0, width := 32, acc := .ro, stk := false, stby := false, load := .number, reset := 0, lo := 0, hi := 0xffffffff }
/-- FT_NOWSECL.SECL, [31:0], RO (spec/04). -/
def fFT_NOWSECL_SECL : Fld :=
  { addr := 0x600004, lsb := 0, width := 32, acc := .ro, stk := false, stby := false, load := .number, reset := 0, lo := 0, hi := 0xffffffff }
/-- FT_NOWSECH.SECH, [15:0], RO (spec/04). -/
def fFT_NOWSECH_SECH : Fld :=
  { addr := 0x600008, lsb := 0, width := 16, acc := .ro, stk := false, stby := false, load := .number, reset := 0, lo := 0, hi := 0xffff }
/-- FT_STAT.STATE, [2:0], RO (spec/04). -/
def fFT_STAT_STATE : Fld :=
  { addr := 0x60000c, lsb := 0, width := 3, acc := .ro, stk := false, stby := false, load := .number, reset := 0, lo := 0, hi := 7 }
/-- FT_STAT.QUAL, [5:4], RO (spec/04). -/
def fFT_STAT_QUAL : Fld :=
  { addr := 0x60000c, lsb := 4, width := 2, acc := .ro, stk := false, stby := false, load := .number, reset := 3, lo := 0, hi := 3 }
/-- FT_STAT.SRC, [6], RO (spec/04). -/
def fFT_STAT_SRC : Fld :=
  { addr := 0x60000c, lsb := 6, width := 1, acc := .ro, stk := false, stby := false, load := .number, reset := 0, lo := 0, hi := 1 }
/-- FT_STAT.AGOOD, [7], RO (spec/04). -/
def fFT_STAT_AGOOD : Fld :=
  { addr := 0x60000c, lsb := 7, width := 1, acc := .ro, stk := false, stby := false, load := .number, reset := 0, lo := 0, hi := 1 }
/-- FT_STAT.BGOOD, [8], RO (spec/04). -/
def fFT_STAT_BGOOD : Fld :=
  { addr := 0x60000c, lsb := 8, width := 1, acc := .ro, stk := false, stby := false, load := .number, reset := 0, lo := 0, hi := 1 }
/-- FT_STAT.SLEWING, [9], RO (spec/04). -/
def fFT_STAT_SLEWING : Fld :=
  { addr := 0x60000c, lsb := 9, width := 1, acc := .ro, stk := false, stby := false, load := .number, reset := 0, lo := 0, hi := 1 }
/-- FT_STAT.STEPHELD, [10], RO (spec/04). -/
def fFT_STAT_STEPHELD : Fld :=
  { addr := 0x60000c, lsb := 10, width := 1, acc := .ro, stk := false, stby := false, load := .number, reset := 0, lo := 0, hi := 1 }
/-- FT_STAT.UNTRACE, [11], RO (spec/04). -/
def fFT_STAT_UNTRACE : Fld :=
  { addr := 0x60000c, lsb := 11, width := 1, acc := .ro, stk := false, stby := false, load := .number, reset := 0, lo := 0, hi := 1 }
/-- FT_STAT.HOLDSEC, [31:16], RO (spec/04). -/
def fFT_STAT_HOLDSEC : Fld :=
  { addr := 0x60000c, lsb := 16, width := 16, acc := .ro, stk := false, stby := false, load := .number, reset := 0, lo := 0, hi := 0xffff }
/-- FT_CTRL.SRCMODE, [1:0], RW (spec/04). -/
def fFT_CTRL_SRCMODE : Fld :=
  { addr := 0x600010, lsb := 0, width := 2, acc := .rw, stk := false, stby := false, load := .image, reset := 0, lo := 0, hi := 3 }
/-- FT_CTRL.TODMODE, [2], RW (spec/04). -/
def fFT_CTRL_TODMODE : Fld :=
  { addr := 0x600010, lsb := 2, width := 1, acc := .rw, stk := false, stby := false, load := .image, reset := 0, lo := 0, hi := 1 }
/-- FT_CTRL.SETARM, [3], WO (spec/04). -/
def fFT_CTRL_SETARM : Fld :=
  { addr := 0x600010, lsb := 3, width := 1, acc := .wo, stk := false, stby := false, load := .number, reset := 0, lo := 0, hi := 1 }
/-- FT_CTRL.FORCESTEP, [4], WO (spec/04). -/
def fFT_CTRL_FORCESTEP : Fld :=
  { addr := 0x600010, lsb := 4, width := 1, acc := .wo, stk := false, stby := false, load := .number, reset := 0, lo := 0, hi := 1 }
/-- FT.SETSEC_L, [31:0], RW (spec/04). -/
def fFT_SETSEC_L : Fld :=
  { addr := 0x600014, lsb := 0, width := 32, acc := .rw, stk := false, stby := false, load := .number, reset := 0, lo := 0, hi := 0xffffffff }
/-- FT.SETSEC_H, [15:0], RW (spec/04). -/
def fFT_SETSEC_H : Fld :=
  { addr := 0x600018, lsb := 0, width := 16, acc := .rw, stk := false, stby := false, load := .number, reset := 0, lo := 0, hi := 0xffff }
/-- FT.ACCWIN, [16:0], RW (spec/04). -/
def fFT_ACCWIN : Fld :=
  { addr := 0x60001c, lsb := 0, width := 17, acc := .rw, stk := false, stby := false, load := .number, reset := 2000, lo := 100, hi := 100000 }
/-- FT.LOCKNS, [15:0], RW (spec/04). -/
def fFT_LOCKNS : Fld :=
  { addr := 0x600020, lsb := 0, width := 16, acc := .rw, stk := false, stby := false, load := .number, reset := 100, lo := 0, hi := 0xffff }
/-- FT.UNLOCKNS, [31:16], RW (spec/04). -/
def fFT_UNLOCKNS : Fld :=
  { addr := 0x600020, lsb := 16, width := 16, acc := .rw, stk := false, stby := false, load := .number, reset := 1000, lo := 0, hi := 0xffff }
/-- FT.STEPNS, [31:0], RW (spec/04). -/
def fFT_STEPNS : Fld :=
  { addr := 0x600024, lsb := 0, width := 32, acc := .rw, stk := false, stby := false, load := .number, reset := 0x2710, lo := 0, hi := 0xffffffff }
/-- FT.HOLDLIM, [15:0], RW (spec/04). -/
def fFT_HOLDLIM : Fld :=
  { addr := 0x600028, lsb := 0, width := 16, acc := .rw, stk := false, stby := false, load := .number, reset := 300, lo := 0, hi := 0xffff }
/-- FT.HOLDPPB, [31:0], RW (spec/04). -/
def fFT_HOLDPPB : Fld :=
  { addr := 0x60002c, lsb := 0, width := 32, acc := .rw, stk := false, stby := false, load := .number, reset := 1000, lo := 0, hi := 0xffffffff }
/-- FT.HOLDERR, [31:0], RO (spec/04). -/
def fFT_HOLDERR : Fld :=
  { addr := 0x600030, lsb := 0, width := 32, acc := .ro, stk := false, stby := false, load := .number, reset := 0, lo := 0, hi := 0xffffffff }
/-- FT.RATE, [31:0], RO (spec/04). -/
def fFT_RATE : Fld :=
  { addr := 0x600034, lsb := 0, width := 32, acc := .ro, stk := false, stby := false, load := .number, reset := 0, lo := 0, hi := 0xffffffff }
/-- FT.PHASE, [31:0], RO (spec/04). -/
def fFT_PHASE : Fld :=
  { addr := 0x600038, lsb := 0, width := 32, acc := .ro, stk := false, stby := false, load := .number, reset := 0, lo := 0, hi := 0xffffffff }
/-- FT.MINOFS, [5:0], RW (spec/04). -/
def fFT_MINOFS : Fld :=
  { addr := 0x60003c, lsb := 0, width := 6, acc := .rw, stk := false, stby := false, load := .number, reset := 20, lo := 0, hi := 59 }
/-- FT.OFS_A, [31:0], RW (spec/04). -/
def fFT_OFS_A : Fld :=
  { addr := 0x600040, lsb := 0, width := 32, acc := .rw, stk := false, stby := false, load := .number, reset := 0, lo := 0, hi := 0xffffffff }
/-- FT.OFS_B, [31:0], RW (spec/04). -/
def fFT_OFS_B : Fld :=
  { addr := 0x600044, lsb := 0, width := 32, acc := .rw, stk := false, stby := false, load := .number, reset := 0, lo := 0, hi := 0xffffffff }
/-- FT.DISAGREE, [15:0], RW (spec/04). -/
def fFT_DISAGREE : Fld :=
  { addr := 0x600048, lsb := 0, width := 16, acc := .rw, stk := false, stby := false, load := .number, reset := 500, lo := 0, hi := 0xffff }
/-- FT.CAPA_NS, [31:0], RO/STK (spec/04). -/
def fFT_CAPA_NS : Fld :=
  { addr := 0x600050, lsb := 0, width := 32, acc := .ro, stk := true, stby := false, load := .number, reset := 0, lo := 0, hi := 0xffffffff }
/-- FT.CAPA_SEC, [31:0], RO/STK (spec/04). -/
def fFT_CAPA_SEC : Fld :=
  { addr := 0x600054, lsb := 0, width := 32, acc := .ro, stk := true, stby := false, load := .number, reset := 0, lo := 0, hi := 0xffffffff }
/-- FT.CAPB_NS, [31:0], RO/STK (spec/04). -/
def fFT_CAPB_NS : Fld :=
  { addr := 0x600058, lsb := 0, width := 32, acc := .ro, stk := true, stby := false, load := .number, reset := 0, lo := 0, hi := 0xffffffff }
/-- FT.CAPB_SEC, [31:0], RO/STK (spec/04). -/
def fFT_CAPB_SEC : Fld :=
  { addr := 0x60005c, lsb := 0, width := 32, acc := .ro, stk := true, stby := false, load := .number, reset := 0, lo := 0, hi := 0xffffffff }
/-- FT.AREJ, [7:0], RC (spec/04). -/
def fFT_AREJ : Fld :=
  { addr := 0x600060, lsb := 0, width := 8, acc := .rc, stk := false, stby := false, load := .number, reset := 0, lo := 0, hi := 255 }
/-- FT.BREJ, [15:8], RC (spec/04). -/
def fFT_BREJ : Fld :=
  { addr := 0x600060, lsb := 8, width := 8, acc := .rc, stk := false, stby := false, load := .number, reset := 0, lo := 0, hi := 255 }
/-- FT.TODCRC, [23:16], RC (spec/04). -/
def fFT_TODCRC : Fld :=
  { addr := 0x600060, lsb := 16, width := 8, acc := .rc, stk := false, stby := false, load := .number, reset := 0, lo := 0, hi := 255 }
/-- FT.TODMIS, [31:24], RC (spec/04). -/
def fFT_TODMIS : Fld :=
  { addr := 0x600060, lsb := 24, width := 8, acc := .rc, stk := false, stby := false, load := .number, reset := 0, lo := 0, hi := 255 }
/-- SER_GSTAT.CALDONE, [3:0], RO (spec/05). -/
def fSER_GSTAT_CALDONE : Fld :=
  { addr := 0x800000, lsb := 0, width := 4, acc := .ro, stk := false, stby := false, load := .number, reset := 0, lo := 0, hi := 15 }
/-- SER_LCTL.TXINV, [0], RW (spec/05). -/
def fSER_LCTL_TXINV : Fld :=
  { addr := 0x801000, lsb := 0, width := 1, acc := .rw, stk := false, stby := false, load := .image, reset := 0, lo := 0, hi := 1 }
/-- SER_LCTL.RXPOL, [2:1], RW (spec/05). -/
def fSER_LCTL_RXPOL : Fld :=
  { addr := 0x801000, lsb := 1, width := 2, acc := .rw, stk := false, stby := false, load := .number, reset := 0, lo := 0, hi := 2 }
/-- SER_LCTL.ALIGNMAN, [3], RW (spec/05). -/
def fSER_LCTL_ALIGNMAN : Fld :=
  { addr := 0x801000, lsb := 3, width := 1, acc := .rw, stk := false, stby := false, load := .number, reset := 0, lo := 0, hi := 1 }
/-- SER_LCTL.ADAPTFRZ, [4], RW (spec/05). -/
def fSER_LCTL_ADAPTFRZ : Fld :=
  { addr := 0x801000, lsb := 4, width := 1, acc := .rw, stk := false, stby := false, load := .number, reset := 0, lo := 0, hi := 1 }
/-- SER_LCTL.LOOP, [6:5], RW (spec/05). -/
def fSER_LCTL_LOOP : Fld :=
  { addr := 0x801000, lsb := 5, width := 2, acc := .rw, stk := false, stby := false, load := .number, reset := 0, lo := 0, hi := 2 }
/-- SER_LSTAT.STAGE, [3:0], RO (spec/05). -/
def fSER_LSTAT_STAGE : Fld :=
  { addr := 0x801004, lsb := 0, width := 4, acc := .ro, stk := false, stby := false, load := .number, reset := 0, lo := 0, hi := 15 }
/-- SER_LSTAT.RATE, [6:4], RO (spec/05). -/
def fSER_LSTAT_RATE : Fld :=
  { addr := 0x801004, lsb := 4, width := 3, acc := .ro, stk := false, stby := false, load := .number, reset := 0, lo := 0, hi := 7 }
/-- SER_LSTAT.RXINV, [7], RO (spec/05). -/
def fSER_LSTAT_RXINV : Fld :=
  { addr := 0x801004, lsb := 7, width := 1, acc := .ro, stk := false, stby := false, load := .number, reset := 0, lo := 0, hi := 1 }
/-- SER_LSTAT.CDRLOCK, [8], RO (spec/05). -/
def fSER_LSTAT_CDRLOCK : Fld :=
  { addr := 0x801004, lsb := 8, width := 1, acc := .ro, stk := false, stby := false, load := .number, reset := 0, lo := 0, hi := 1 }
/-- SER_LSTAT.MARKLOCK, [9], RO (spec/05). -/
def fSER_LSTAT_MARKLOCK : Fld :=
  { addr := 0x801004, lsb := 9, width := 1, acc := .ro, stk := false, stby := false, load := .number, reset := 0, lo := 0, hi := 1 }
/-- SER_LSTAT.PIDX_RX, [13:10], RO (spec/05). -/
def fSER_LSTAT_PIDX_RX : Fld :=
  { addr := 0x801004, lsb := 10, width := 4, acc := .ro, stk := false, stby := false, load := .number, reset := 0, lo := 0, hi := 15 }
/-- SER_LSTAT.LPOS_RX, [17:14], RO (spec/05). -/
def fSER_LSTAT_LPOS_RX : Fld :=
  { addr := 0x801004, lsb := 14, width := 4, acc := .ro, stk := false, stby := false, load := .number, reset := 14, lo := 0, hi := 15 }
/-- SER_LSTAT.ORDER, [19:18], RO (spec/05). -/
def fSER_LSTAT_ORDER : Fld :=
  { addr := 0x801004, lsb := 18, width := 2, acc := .ro, stk := false, stby := false, load := .number, reset := 0, lo := 0, hi := 3 }
/-- SER_LSTAT.FAILCAUSE, [23:20], RO/STK (spec/05). -/
def fSER_LSTAT_FAILCAUSE : Fld :=
  { addr := 0x801004, lsb := 20, width := 4, acc := .ro, stk := true, stby := false, load := .number, reset := 0, lo := 0, hi := 15 }
/-- SER_SLIP.COUNT, [6:0], WO (spec/05). -/
def fSER_SLIP_COUNT : Fld :=
  { addr := 0x801008, lsb := 0, width := 7, acc := .wo, stk := false, stby := false, load := .number, reset := 0, lo := 0, hi := 127 }
/-- SER_SLIP.DIR, [7], WO (spec/05). -/
def fSER_SLIP_DIR : Fld :=
  { addr := 0x801008, lsb := 7, width := 1, acc := .wo, stk := false, stby := false, load := .number, reset := 0, lo := 0, hi := 1 }
/-- SER_SLIP.KEY, [31:24], WO (spec/05). -/
def fSER_SLIP_KEY : Fld :=
  { addr := 0x801008, lsb := 24, width := 8, acc := .wo, stk := false, stby := false, load := .number, reset := 0, lo := 0, hi := 255 }
/-- SER_TXEQ.CM2, [5:0], RO (spec/05). -/
def fSER_TXEQ_CM2 : Fld :=
  { addr := 0x80100c, lsb := 0, width := 6, acc := .ro, stk := false, stby := false, load := .number, reset := 0, lo := 0, hi := 63 }
/-- SER_TXEQ.CM1, [11:6], RO (spec/05). -/
def fSER_TXEQ_CM1 : Fld :=
  { addr := 0x80100c, lsb := 6, width := 6, acc := .ro, stk := false, stby := false, load := .number, reset := 8, lo := 0, hi := 63 }
/-- SER_TXEQ.C0, [17:12], RO (spec/05). -/
def fSER_TXEQ_C0 : Fld :=
  { addr := 0x80100c, lsb := 12, width := 6, acc := .ro, stk := false, stby := false, load := .number, reset := 48, lo := 0, hi := 63 }
/-- SER_TXEQ.CP1, [23:18], RO (spec/05). -/
def fSER_TXEQ_CP1 : Fld :=
  { addr := 0x80100c, lsb := 18, width := 6, acc := .ro, stk := false, stby := false, load := .number, reset := 8, lo := 0, hi := 63 }
/-- SER_TXEQ.PRESET, [27:24], RO (spec/05). -/
def fSER_TXEQ_PRESET : Fld :=
  { addr := 0x80100c, lsb := 24, width := 4, acc := .ro, stk := false, stby := false, load := .number, reset := 4, lo := 0, hi := 15 }
/-- SER_RXEQ.CTLE, [4:0], RO (spec/05). -/
def fSER_RXEQ_CTLE : Fld :=
  { addr := 0x801010, lsb := 0, width := 5, acc := .ro, stk := false, stby := false, load := .number, reset := 0, lo := 0, hi := 31 }
/-- SER_RXEQ.VGA, [10:5], RO (spec/05). -/
def fSER_RXEQ_VGA : Fld :=
  { addr := 0x801010, lsb := 5, width := 6, acc := .ro, stk := false, stby := false, load := .number, reset := 0, lo := 0, hi := 63 }
/-- SER_RXEQ.DFE1, [17:11], RO (spec/05). -/
def fSER_RXEQ_DFE1 : Fld :=
  { addr := 0x801010, lsb := 11, width := 7, acc := .ro, stk := false, stby := false, load := .number, reset := 0, lo := 0, hi := 127 }
/-- SER_LERR.STUFFERR, [7:0], RC (spec/05). -/
def fSER_LERR_STUFFERR : Fld :=
  { addr := 0x801014, lsb := 0, width := 8, acc := .rc, stk := false, stby := false, load := .number, reset := 0, lo := 0, hi := 255 }
/-- SER_LERR.MARKERR, [15:8], RC (spec/05). -/
def fSER_LERR_MARKERR : Fld :=
  { addr := 0x801014, lsb := 8, width := 8, acc := .rc, stk := false, stby := false, load := .number, reset := 0, lo := 0, hi := 255 }
/-- SER_LERR.CDRLOSS, [23:16], RC (spec/05). -/
def fSER_LERR_CDRLOSS : Fld :=
  { addr := 0x801014, lsb := 16, width := 8, acc := .rc, stk := false, stby := false, load := .number, reset := 0, lo := 0, hi := 255 }
/-- SER_LERR.CMDREJ, [24], W1C (spec/05). -/
def fSER_LERR_CMDREJ : Fld :=
  { addr := 0x801014, lsb := 24, width := 1, acc := .w1c, stk := false, stby := false, load := .number, reset := 0, lo := 0, hi := 1 }
/-- SER_PRBSCTL.PATTERN, [2:0], RW (spec/05). -/
def fSER_PRBSCTL_PATTERN : Fld :=
  { addr := 0x801018, lsb := 0, width := 3, acc := .rw, stk := false, stby := false, load := .number, reset := 0, lo := 0, hi := 5 }
/-- SER_PRBSCTL.GEN, [3], RW (spec/05). -/
def fSER_PRBSCTL_GEN : Fld :=
  { addr := 0x801018, lsb := 3, width := 1, acc := .rw, stk := false, stby := false, load := .number, reset := 0, lo := 0, hi := 1 }
/-- SER_PRBSCTL.CHK, [4], RW (spec/05). -/
def fSER_PRBSCTL_CHK : Fld :=
  { addr := 0x801018, lsb := 4, width := 1, acc := .rw, stk := false, stby := false, load := .number, reset := 0, lo := 0, hi := 1 }
/-- SER_PRBSCTL.ABORTED, [5], W1C (spec/05). -/
def fSER_PRBSCTL_ABORTED : Fld :=
  { addr := 0x801018, lsb := 5, width := 1, acc := .w1c, stk := false, stby := false, load := .number, reset := 0, lo := 0, hi := 1 }
/-- SER_PRBSCTL.LOCKED, [6], RO (spec/05). -/
def fSER_PRBSCTL_LOCKED : Fld :=
  { addr := 0x801018, lsb := 6, width := 1, acc := .ro, stk := false, stby := false, load := .number, reset := 0, lo := 0, hi := 1 }
/-- SER_PRBSCNT.ERRORS, [31:0], RC (spec/05). -/
def fSER_PRBSCNT_ERRORS : Fld :=
  { addr := 0x80101c, lsb := 0, width := 32, acc := .rc, stk := false, stby := false, load := .number, reset := 0, lo := 0, hi := 0xffffffff }
/-- SER_EYECTL.START, [0], WO (spec/05). -/
def fSER_EYECTL_START : Fld :=
  { addr := 0x801020, lsb := 0, width := 1, acc := .wo, stk := false, stby := false, load := .number, reset := 0, lo := 0, hi := 1 }
/-- SER_EYECTL.DONE, [1], RO (spec/05). -/
def fSER_EYECTL_DONE : Fld :=
  { addr := 0x801020, lsb := 1, width := 1, acc := .ro, stk := false, stby := false, load := .number, reset := 0, lo := 0, hi := 1 }
/-- SER_EYECTL.EYE, [3:2], RW (spec/05). -/
def fSER_EYECTL_EYE : Fld :=
  { addr := 0x801020, lsb := 2, width := 2, acc := .rw, stk := false, stby := false, load := .number, reset := 1, lo := 0, hi := 3 }
/-- SER_EYECTL.HOFS, [9:4], RW (spec/05). -/
def fSER_EYECTL_HOFS : Fld :=
  { addr := 0x801020, lsb := 4, width := 6, acc := .rw, stk := false, stby := false, load := .number, reset := 0, lo := 0, hi := 63 }
/-- SER_EYECTL.VOFS, [16:10], RW (spec/05). -/
def fSER_EYECTL_VOFS : Fld :=
  { addr := 0x801020, lsb := 10, width := 7, acc := .rw, stk := false, stby := false, load := .number, reset := 0, lo := 0, hi := 127 }
/-- SER_EYECTL.DWELL, [22:17], RW (spec/05). -/
def fSER_EYECTL_DWELL : Fld :=
  { addr := 0x801020, lsb := 17, width := 6, acc := .rw, stk := false, stby := false, load := .number, reset := 20, lo := 10, hi := 40 }
/-- SER_EYECNT.COUNT, [31:0], RO (spec/05). -/
def fSER_EYECNT_COUNT : Fld :=
  { addr := 0x801024, lsb := 0, width := 32, acc := .ro, stk := false, stby := false, load := .number, reset := 0, lo := 0, hi := 0xffffffff }
/-- PWR_TEMP.TEMP, [10:0], RO (spec/22). -/
def fPWR_TEMP_TEMP : Fld :=
  { addr := 0x400040, lsb := 0, width := 11, acc := .ro, stk := false, stby := false, load := .number, reset := 0, lo := 0, hi := 2047 }
/-- PWR_TEMP.SENSOR, [15:11], RO (spec/22). -/
def fPWR_TEMP_SENSOR : Fld :=
  { addr := 0x400040, lsb := 11, width := 5, acc := .ro, stk := false, stby := false, load := .number, reset := 0, lo := 0, hi := 31 }
/-- PWR_TEMPCFG.TWARN, [6:0], RW (spec/22). -/
def fPWR_TEMPCFG_TWARN : Fld :=
  { addr := 0x400044, lsb := 0, width := 7, acc := .rw, stk := false, stby := false, load := .number, reset := 100, lo := 85, hi := 105 }
/-- PWR_TEMPCFG.HYST, [11:8], RW (spec/22). -/
def fPWR_TEMPCFG_HYST : Fld :=
  { addr := 0x400044, lsb := 8, width := 4, acc := .rw, stk := false, stby := false, load := .number, reset := 3, lo := 1, hi := 15 }
/-- PWR_TEMPMAX.PEAK, [10:0], RC (spec/22). -/
def fPWR_TEMPMAX_PEAK : Fld :=
  { addr := 0x400048, lsb := 0, width := 11, acc := .rc, stk := false, stby := false, load := .number, reset := 0, lo := 0, hi := 2047 }
/-- PWR_THERM.TRIPPED, [0], RO/STK (spec/22). -/
def fPWR_THERM_TRIPPED : Fld :=
  { addr := 0x40004c, lsb := 0, width := 1, acc := .ro, stk := true, stby := false, load := .number, reset := 0, lo := 0, hi := 1 }
/-- PWR_THERM.WARN, [1], RO (spec/22). -/
def fPWR_THERM_WARN : Fld :=
  { addr := 0x40004c, lsb := 1, width := 1, acc := .ro, stk := false, stby := false, load := .number, reset := 0, lo := 0, hi := 1 }

end Sys2Proof.Machine
end

