-- ==== Sys2Proof/Machine/RegsB.lean ====
section
/-! DEFINITION. The fields of the registers of spec/{06, 07, 08} (its register tables): address of instance 0, place of its bits, access
(R10), reset (R15, R510) and the range of its defined encodings (R14).  One definition per field, named
f<REGISTER>_<FIELD>; the register list of the window follows. -/

namespace Sys2Proof.Machine
/-- Extended capability header, capability ID, [15:0], RO (spec/06). -/
def fDVSEC_CAPID : Fld :=
  { addr := 0x3000000000, lsb := 0, width := 16, acc := .ro, stk := false, stby := false, load := .number, reset := 0x23, lo := 0, hi := 0xffff }
/-- Extended capability header, version, [19:16], RO (spec/06). -/
def fDVSEC_CAPVER : Fld :=
  { addr := 0x3000000000, lsb := 16, width := 4, acc := .ro, stk := false, stby := false, load := .number, reset := 1, lo := 0, hi := 15 }
/-- DVSEC Header 1, vendor ID, [15:0], RO (spec/06). -/
def fDVSEC_VENDOR : Fld :=
  { addr := 0x3000000004, lsb := 0, width := 16, acc := .ro, stk := false, stby := false, load := .number, reset := 0x1FC4, lo := 0, hi := 0xffff }
/-- DVSEC Header 1, revision, [19:16], RO (spec/06). -/
def fDVSEC_REV : Fld :=
  { addr := 0x3000000004, lsb := 16, width := 4, acc := .ro, stk := false, stby := false, load := .number, reset := 1, lo := 0, hi := 15 }
/-- DVSEC Header 1, length, [31:20], RO (spec/06). -/
def fDVSEC_LENGTH : Fld :=
  { addr := 0x3000000004, lsb := 20, width := 12, acc := .ro, stk := false, stby := false, load := .number, reset := 0x30, lo := 0, hi := 0xfff }
/-- DVSEC Header 2, DVSEC ID, [15:0], RO (spec/06). -/
def fDVSEC_ID : Fld :=
  { addr := 0x3000000008, lsb := 0, width := 16, acc := .ro, stk := false, stby := false, load := .number, reset := 1, lo := 0, hi := 0xffff }
/-- MSI-X table of the PF of port p in BAR2, message address [31:0] (spec/06, log entry 99). -/
def fPF_MSIX_ADDR_L : Fld :=
  { addr := 0x5000008000, lsb := 0, width := 32, acc := .rw, stk := false, stby := false, load := .number, reset := 0, lo := 0, hi := 0xffffffff }
/-- MSI-X table of the PF, message address [63:32] (spec/06). -/
def fPF_MSIX_ADDR_H : Fld :=
  { addr := 0x5000008004, lsb := 0, width := 32, acc := .rw, stk := false, stby := false, load := .number, reset := 0, lo := 0, hi := 0xffffffff }
/-- MSI-X table of the PF, message data (spec/06). -/
def fPF_MSIX_DATA : Fld :=
  { addr := 0x5000008008, lsb := 0, width := 32, acc := .rw, stk := false, stby := false, load := .number, reset := 0, lo := 0, hi := 0xffffffff }
/-- MSI-X table of the PF, the mask bit of Vector Control (spec/06). -/
def fPF_MSIX_MASK : Fld :=
  { addr := 0x500000800c, lsb := 0, width := 1, acc := .rw, stk := false, stby := false, load := .number, reset := 1, lo := 0, hi := 1 }
/-- Pending bits of the PF of port p, 32 a word (spec/06). -/
def fPF_PBA_PEND : Fld :=
  { addr := 0x500000c000, lsb := 0, width := 32, acc := .ro, stk := false, stby := false, load := .number, reset := 0, lo := 0, hi := 0xffffffff }
/-- DVSEC.PARTCODE, [15:0], RO (spec/06). -/
def fDVSEC_PARTCODE : Fld :=
  { addr := 0x300000000c, lsb := 0, width := 16, acc := .ro, stk := false, stby := false, load := .fuse, reset := 3456, lo := 0, hi := 0xffff }
/-- DVSEC.STEPPING, [19:16], RO (spec/06). -/
def fDVSEC_STEPPING : Fld :=
  { addr := 0x300000000c, lsb := 16, width := 4, acc := .ro, stk := false, stby := false, load := .fuse, reset := 1, lo := 0, hi := 15 }
/-- DVSEC.NODE_ID, [23:20], RO (spec/06). -/
def fDVSEC_NODE_ID : Fld :=
  { addr := 0x300000000c, lsb := 20, width := 4, acc := .ro, stk := false, stby := false, load := .strap, reset := 0, lo := 0, hi := 15 }
/-- DVSEC.PROFILE, [26:24], RO (spec/06). -/
def fDVSEC_PROFILE : Fld :=
  { addr := 0x300000000c, lsb := 24, width := 3, acc := .ro, stk := false, stby := false, load := .image, reset := 0, lo := 0, hi := 7 }
/-- DVSEC.DEVSTATE, [30:28], RO (spec/06). -/
def fDVSEC_DEVSTATE : Fld :=
  { addr := 0x300000000c, lsb := 28, width := 3, acc := .ro, stk := false, stby := false, load := .number, reset := 0, lo := 0, hi := 7 }
/-- DVSEC.PORT, [5:0], RO (spec/06). -/
def fDVSEC_PORT : Fld :=
  { addr := 0x3000000010, lsb := 0, width := 6, acc := .ro, stk := false, stby := false, load := .image, reset := 0, lo := 0, hi := 63 }
/-- DVSEC.MGRPORT, [6], RO (spec/06). -/
def fDVSEC_MGRPORT : Fld :=
  { addr := 0x3000000010, lsb := 6, width := 1, acc := .ro, stk := false, stby := false, load := .strap, reset := 0, lo := 0, hi := 1 }
/-- DVSEC.REGACC, [7], RO (spec/06). -/
def fDVSEC_REGACC : Fld :=
  { addr := 0x3000000010, lsb := 7, width := 1, acc := .ro, stk := false, stby := false, load := .image, reset := 0, lo := 0, hi := 1 }
/-- DVSEC.TIFIRST, [12:0], RO (spec/06). -/
def fDVSEC_TIFIRST : Fld :=
  { addr := 0x3000000014, lsb := 0, width := 13, acc := .ro, stk := false, stby := false, load := .image, reset := 0, lo := 0, hi := 0x1fff }
/-- DVSEC.TICOUNT, [29:16], RO (spec/06). -/
def fDVSEC_TICOUNT : Fld :=
  { addr := 0x3000000014, lsb := 16, width := 14, acc := .ro, stk := false, stby := false, load := .image, reset := 0, lo := 0, hi := 0x3fff }
/-- DVSEC.SERIAL_L, [31:0], RO (spec/06). -/
def fDVSEC_SERIAL_L : Fld :=
  { addr := 0x3000000018, lsb := 0, width := 32, acc := .ro, stk := false, stby := false, load := .fuse, reset := 0, lo := 0, hi := 0xffffffff }
/-- DVSEC.SERIAL_H, [31:0], RO (spec/06). -/
def fDVSEC_SERIAL_H : Fld :=
  { addr := 0x300000001c, lsb := 0, width := 32, acc := .ro, stk := false, stby := false, load := .fuse, reset := 0, lo := 0, hi := 0xffffffff }
/-- DVSEC.FT_NS, [31:0], RO (spec/06). -/
def fDVSEC_FT_NS : Fld :=
  { addr := 0x3000000020, lsb := 0, width := 32, acc := .ro, stk := false, stby := false, load := .number, reset := 0, lo := 0, hi := 0xffffffff }
/-- DVSEC.FT_SECL, [31:0], RO (spec/06). -/
def fDVSEC_FT_SECL : Fld :=
  { addr := 0x3000000024, lsb := 0, width := 32, acc := .ro, stk := false, stby := false, load := .number, reset := 0, lo := 0, hi := 0xffffffff }
/-- DVSEC.FT_SECH, [15:0], RO (spec/06). -/
def fDVSEC_FT_SECH : Fld :=
  { addr := 0x3000000028, lsb := 0, width := 16, acc := .ro, stk := false, stby := false, load := .number, reset := 0, lo := 0, hi := 0xffff }
/-- DVSEC.FT_QUAL, [17:16], RO (spec/06). -/
def fDVSEC_FT_QUAL : Fld :=
  { addr := 0x3000000028, lsb := 16, width := 2, acc := .ro, stk := false, stby := false, load := .number, reset := 3, lo := 0, hi := 3 }
/-- PRT_PORTCFG.ENABLE, [0], RW (spec/06). -/
def fPRT_PORTCFG_ENABLE : Fld :=
  { addr := 0xa01000, lsb := 0, width := 1, acc := .rw, stk := false, stby := false, load := .image, reset := 0, lo := 0, hi := 1 }
/-- PRT_PORTCFG.ROLE, [1], RW (spec/06). -/
def fPRT_PORTCFG_ROLE : Fld :=
  { addr := 0xa01000, lsb := 1, width := 1, acc := .rw, stk := false, stby := false, load := .image, reset := 0, lo := 0, hi := 1 }
/-- PRT_PORTCFG.WIDTH, [3:2], RW (spec/06). -/
def fPRT_PORTCFG_WIDTH : Fld :=
  { addr := 0xa01000, lsb := 2, width := 2, acc := .rw, stk := false, stby := false, load := .image, reset := 0, lo := 0, hi := 2 }
/-- PRT_PORTCFG.MAXRATE, [6:4], RW (spec/06). -/
def fPRT_PORTCFG_MAXRATE : Fld :=
  { addr := 0xa01000, lsb := 4, width := 3, acc := .rw, stk := false, stby := false, load := .image, reset := 6, lo := 0, hi := 6 }
/-- PRT_PORTCFG.CLKMODE, [7], RW (spec/06). -/
def fPRT_PORTCFG_CLKMODE : Fld :=
  { addr := 0xa01000, lsb := 7, width := 1, acc := .rw, stk := false, stby := false, load := .image, reset := 0, lo := 0, hi := 1 }
/-- PRT_PORTCFG.PROTO, [8], RW (spec/06). -/
def fPRT_PORTCFG_PROTO : Fld :=
  { addr := 0xa01000, lsb := 8, width := 1, acc := .rw, stk := false, stby := false, load := .image, reset := 1, lo := 0, hi := 1 }
/-- PRT_PORTCFG.REGACC, [9], RW (spec/06). -/
def fPRT_PORTCFG_REGACC : Fld :=
  { addr := 0xa01000, lsb := 9, width := 1, acc := .rw, stk := false, stby := false, load := .image, reset := 0, lo := 0, hi := 1 }
/-- PRT_PORTCFG.HPCAP, [10], RW (spec/06). -/
def fPRT_PORTCFG_HPCAP : Fld :=
  { addr := 0xa01000, lsb := 10, width := 1, acc := .rw, stk := false, stby := false, load := .image, reset := 0, lo := 0, hi := 1 }
/-- PRT_PORTSTAT.LTSSM, [3:0], RO (spec/06). -/
def fPRT_PORTSTAT_LTSSM : Fld :=
  { addr := 0xa01004, lsb := 0, width := 4, acc := .ro, stk := false, stby := false, load := .number, reset := 0, lo := 0, hi := 15 }
/-- PRT_PORTSTAT.NEGWIDTH, [8:4], RO (spec/06). -/
def fPRT_PORTSTAT_NEGWIDTH : Fld :=
  { addr := 0xa01004, lsb := 4, width := 5, acc := .ro, stk := false, stby := false, load := .number, reset := 0, lo := 0, hi := 31 }
/-- PRT_PORTSTAT.RATE, [11:9], RO (spec/06). -/
def fPRT_PORTSTAT_RATE : Fld :=
  { addr := 0xa01004, lsb := 9, width := 3, acc := .ro, stk := false, stby := false, load := .number, reset := 0, lo := 0, hi := 7 }
/-- PRT_PORTSTAT.FLIT, [12], RO (spec/06). -/
def fPRT_PORTSTAT_FLIT : Fld :=
  { addr := 0xa01004, lsb := 12, width := 1, acc := .ro, stk := false, stby := false, load := .number, reset := 0, lo := 0, hi := 1 }
/-- PRT_PORTSTAT.CXLIO, [13], RO (spec/06). -/
def fPRT_PORTSTAT_CXLIO : Fld :=
  { addr := 0xa01004, lsb := 13, width := 1, acc := .ro, stk := false, stby := false, load := .number, reset := 0, lo := 0, hi := 1 }
/-- PRT_PORTSTAT.CXLCACHE, [14], RO (spec/06). -/
def fPRT_PORTSTAT_CXLCACHE : Fld :=
  { addr := 0xa01004, lsb := 14, width := 1, acc := .ro, stk := false, stby := false, load := .number, reset := 0, lo := 0, hi := 1 }
/-- PRT_PORTSTAT.CXLMEM, [15], RO (spec/06). -/
def fPRT_PORTSTAT_CXLMEM : Fld :=
  { addr := 0xa01004, lsb := 15, width := 1, acc := .ro, stk := false, stby := false, load := .number, reset := 0, lo := 0, hi := 1 }
/-- PRT_PORTSTAT.DEGRADED, [16], RO (spec/06). -/
def fPRT_PORTSTAT_DEGRADED : Fld :=
  { addr := 0xa01004, lsb := 16, width := 1, acc := .ro, stk := false, stby := false, load := .number, reset := 0, lo := 0, hi := 1 }
/-- PRT_PORTSTAT.DLACTIVE, [17], RO (spec/06). -/
def fPRT_PORTSTAT_DLACTIVE : Fld :=
  { addr := 0xa01004, lsb := 17, width := 1, acc := .ro, stk := false, stby := false, load := .number, reset := 0, lo := 0, hi := 1 }
/-- PRT_PORTSTAT.L1SUB, [19:18], RO (spec/06). -/
def fPRT_PORTSTAT_L1SUB : Fld :=
  { addr := 0xa01004, lsb := 18, width := 2, acc := .ro, stk := false, stby := false, load := .number, reset := 0, lo := 0, hi := 3 }
/-- PRT_PORTSTAT.REVERSED, [20], RO (spec/06). -/
def fPRT_PORTSTAT_REVERSED : Fld :=
  { addr := 0xa01004, lsb := 20, width := 1, acc := .ro, stk := false, stby := false, load := .number, reset := 0, lo := 0, hi := 1 }
/-- PRT_TIBLK.BASE, [6:0], RW (spec/06). -/
def fPRT_TIBLK_BASE : Fld :=
  { addr := 0xa01008, lsb := 0, width := 7, acc := .rw, stk := false, stby := false, load := .image, reset := 0, lo := 0, hi := 127 }
/-- PRT_TIBLK.CNT, [15:8], RW (spec/06). -/
def fPRT_TIBLK_CNT : Fld :=
  { addr := 0xa01008, lsb := 8, width := 8, acc := .rw, stk := false, stby := false, load := .image, reset := 0, lo := 0, hi := 128 }
/-- PRT_TIBLK.WINSZ, [21:16], RW (spec/06). -/
def fPRT_TIBLK_WINSZ : Fld :=
  { addr := 0xa01008, lsb := 16, width := 6, acc := .rw, stk := false, stby := false, load := .image, reset := 30, lo := 30, hi := 46 }
/-- PRT_SLOTCFG.SLOT, [4:0], RW (spec/06). -/
def fPRT_SLOTCFG_SLOT : Fld :=
  { addr := 0xa0100c, lsb := 0, width := 5, acc := .rw, stk := false, stby := false, load := .image, reset := 0, lo := 0, hi := 31 }
/-- PRT_SLOTCFG.SLOTEN, [5], RW (spec/06). -/
def fPRT_SLOTCFG_SLOTEN : Fld :=
  { addr := 0xa0100c, lsb := 5, width := 1, acc := .rw, stk := false, stby := false, load := .image, reset := 0, lo := 0, hi := 1 }
/-- PRT_SLOTCFG.PCTL, [7:6], RW (spec/06). -/
def fPRT_SLOTCFG_PCTL : Fld :=
  { addr := 0xa0100c, lsb := 6, width := 2, acc := .rw, stk := false, stby := false, load := .image, reset := 0, lo := 0, hi := 2 }
/-- PRT_SLOTCFG.PSN, [20:8], RW (spec/06). -/
def fPRT_SLOTCFG_PSN : Fld :=
  { addr := 0xa0100c, lsb := 8, width := 13, acc := .rw, stk := false, stby := false, load := .image, reset := 0, lo := 0, hi := 0x1fff }
/-- PRT_SLOTCTL.OVR, [0], RW (spec/06). -/
def fPRT_SLOTCTL_OVR : Fld :=
  { addr := 0xa01010, lsb := 0, width := 1, acc := .rw, stk := false, stby := false, load := .number, reset := 0, lo := 0, hi := 1 }
/-- PRT_SLOTCTL.ATTN, [2:1], RW (spec/06). -/
def fPRT_SLOTCTL_ATTN : Fld :=
  { addr := 0xa01010, lsb := 1, width := 2, acc := .rw, stk := false, stby := false, load := .number, reset := 3, lo := 1, hi := 3 }
/-- PRT_SLOTCTL.PWRI, [4:3], RW (spec/06). -/
def fPRT_SLOTCTL_PWRI : Fld :=
  { addr := 0xa01010, lsb := 3, width := 2, acc := .rw, stk := false, stby := false, load := .number, reset := 3, lo := 1, hi := 3 }
/-- PRT_SLOTCTL.PWROFF, [5], RW (spec/06). -/
def fPRT_SLOTCTL_PWROFF : Fld :=
  { addr := 0xa01010, lsb := 5, width := 1, acc := .rw, stk := false, stby := false, load := .number, reset := 1, lo := 0, hi := 1 }
/-- PRT_SLOTSTAT.PRESENT, [0], RO (spec/06). -/
def fPRT_SLOTSTAT_PRESENT : Fld :=
  { addr := 0xa01014, lsb := 0, width := 1, acc := .ro, stk := false, stby := false, load := .number, reset := 0, lo := 0, hi := 1 }
/-- PRT_SLOTSTAT.BTN, [1], W1C (spec/06). -/
def fPRT_SLOTSTAT_BTN : Fld :=
  { addr := 0xa01014, lsb := 1, width := 1, acc := .w1c, stk := false, stby := false, load := .number, reset := 0, lo := 0, hi := 1 }
/-- PRT_SLOTSTAT.PFAULT, [2], W1C (spec/06). -/
def fPRT_SLOTSTAT_PFAULT : Fld :=
  { addr := 0xa01014, lsb := 2, width := 1, acc := .w1c, stk := false, stby := false, load := .number, reset := 0, lo := 0, hi := 1 }
/-- PRT_SLOTSTAT.PDCHG, [3], W1C (spec/06). -/
def fPRT_SLOTSTAT_PDCHG : Fld :=
  { addr := 0xa01014, lsb := 3, width := 1, acc := .w1c, stk := false, stby := false, load := .number, reset := 0, lo := 0, hi := 1 }
/-- PRT_SLOTSTAT.POWERED, [4], RO (spec/06). -/
def fPRT_SLOTSTAT_POWERED : Fld :=
  { addr := 0xa01014, lsb := 4, width := 1, acc := .ro, stk := false, stby := false, load := .number, reset := 0, lo := 0, hi := 1 }
/-- PRT_ASPM.IDLE, [15:0], RW (spec/06). -/
def fPRT_ASPM_IDLE : Fld :=
  { addr := 0xa01018, lsb := 0, width := 16, acc := .rw, stk := false, stby := false, load := .image, reset := 10, lo := 1, hi := 0xffff }
/-- PRT_ASPM.FORCE, [16], RW (spec/06). -/
def fPRT_ASPM_FORCE : Fld :=
  { addr := 0xa01018, lsb := 16, width := 1, acc := .rw, stk := false, stby := false, load := .number, reset := 0, lo := 0, hi := 1 }
/-- PRT_ASPM.TPON, [24:17], RW (spec/06). -/
def fPRT_ASPM_TPON : Fld :=
  { addr := 0xa01018, lsb := 17, width := 8, acc := .rw, stk := false, stby := false, load := .number, reset := 50, lo := 0, hi := 255 }
/-- PRT_ERR.LINKDOWN, [7:0], RC (spec/06). -/
def fPRT_ERR_LINKDOWN : Fld :=
  { addr := 0xa0101c, lsb := 0, width := 8, acc := .rc, stk := false, stby := false, load := .number, reset := 0, lo := 0, hi := 255 }
/-- PRT_ERR.LOSTPOST, [15:8], RC (spec/06). -/
def fPRT_ERR_LOSTPOST : Fld :=
  { addr := 0xa0101c, lsb := 8, width := 8, acc := .rc, stk := false, stby := false, load := .number, reset := 0, lo := 0, hi := 255 }
/-- PRT_ERR.LOSTWR, [16], W1C/STK (spec/06). -/
def fPRT_ERR_LOSTWR : Fld :=
  { addr := 0xa0101c, lsb := 16, width := 1, acc := .w1c, stk := true, stby := false, load := .number, reset := 0, lo := 0, hi := 1 }
/-- PRT_ERR.CFGREJ, [17], W1C (spec/06). -/
def fPRT_ERR_CFGREJ : Fld :=
  { addr := 0xa0101c, lsb := 17, width := 1, acc := .w1c, stk := false, stby := false, load := .number, reset := 0, lo := 0, hi := 1 }
/-- PRT_LOSTADDR_L.ADDR_L, [31:0], RO/STK (spec/06). -/
def fPRT_LOSTADDR_L_ADDR_L : Fld :=
  { addr := 0xa01020, lsb := 0, width := 32, acc := .ro, stk := true, stby := false, load := .number, reset := 0, lo := 0, hi := 0xffffffff }
/-- PRT_LOSTADDR_H.ADDR_H, [19:0], RO/STK (spec/06). -/
def fPRT_LOSTADDR_H_ADDR_H : Fld :=
  { addr := 0xa01024, lsb := 0, width := 20, acc := .ro, stk := true, stby := false, load := .number, reset := 0, lo := 0, hi := 0xfffff }
/-- PRT_VPPB.STATE, [1:0], RO (spec/06). -/
def fPRT_VPPB_STATE : Fld :=
  { addr := 0xa08000, lsb := 0, width := 2, acc := .ro, stk := false, stby := false, load := .image, reset := 0, lo := 0, hi := 3 }
/-- PRT_VPPB.KIND, [3:2], RO (spec/06). -/
def fPRT_VPPB_KIND : Fld :=
  { addr := 0xa08000, lsb := 2, width := 2, acc := .ro, stk := false, stby := false, load := .image, reset := 0, lo := 0, hi := 3,
    runs := (List.range 64).map fun v => (32 * v, 32 * v + 1, 3) }
/-- PRT_VPPB.PORT, [9:4], RO (spec/06). -/
def fPRT_VPPB_PORT : Fld :=
  { addr := 0xa08000, lsb := 4, width := 6, acc := .ro, stk := false, stby := false, load := .image, reset := 0, lo := 0, hi := 63 }
/-- PRT_VPPB.LD, [13:10], RO (spec/06). -/
def fPRT_VPPB_LD : Fld :=
  { addr := 0xa08000, lsb := 10, width := 4, acc := .ro, stk := false, stby := false, load := .image, reset := 0, lo := 0, hi := 15 }
/-- PRT_VPPB.NODE, [17:14], RO (spec/06). -/
def fPRT_VPPB_NODE : Fld :=
  { addr := 0xa08000, lsb := 14, width := 4, acc := .ro, stk := false, stby := false, load := .image, reset := 0, lo := 0, hi := 15 }
/-- LEAT_GSTAT.NODE, [3:0], RO (spec/07). -/
def fLEAT_GSTAT_NODE : Fld :=
  { addr := 0xc00000, lsb := 0, width := 4, acc := .ro, stk := false, stby := false, load := .strap, reset := 0, lo := 0, hi := 15 }
/-- LEAT_GSTAT.UP, [15:8], RO (spec/07). -/
def fLEAT_GSTAT_UP : Fld :=
  { addr := 0xc00000, lsb := 8, width := 8, acc := .ro, stk := false, stby := false, load := .number, reset := 0, lo := 0, hi := 255 }
/-- LEAT_GSTAT.SPAREOK, [23:16], RO (spec/07). -/
def fLEAT_GSTAT_SPAREOK : Fld :=
  { addr := 0xc00000, lsb := 16, width := 8, acc := .ro, stk := false, stby := false, load := .number, reset := 0, lo := 0, hi := 255 }
/-- LEAT_ROUTE.LINKS, [7:0], RO (spec/07). -/
def fLEAT_ROUTE_LINKS : Fld :=
  { addr := 0xc00040, lsb := 0, width := 8, acc := .ro, stk := false, stby := false, load := .number, reset := 0, lo := 0, hi := 255 }
/-- LEAT_ROUTE.AGENT, [10:8], RW (spec/07). -/
def fLEAT_ROUTE_AGENT : Fld :=
  { addr := 0xc00040, lsb := 8, width := 3, acc := .rw, stk := false, stby := false, load := .image, reset := 0, lo := 0, hi := 7 }
/-- LEAT_ROUTE.AGEN, [11], RW (spec/07). -/
def fLEAT_ROUTE_AGEN : Fld :=
  { addr := 0xc00040, lsb := 11, width := 1, acc := .rw, stk := false, stby := false, load := .image, reset := 0, lo := 0, hi := 1 }
/-- LEAT_CTL.ENABLE, [0], RW (spec/07). -/
def fLEAT_CTL_ENABLE : Fld :=
  { addr := 0xc01000, lsb := 0, width := 1, acc := .rw, stk := false, stby := false, load := .image, reset := 0, lo := 0, hi := 1 }
/-- LEAT_CTL.RATE, [1], RW (spec/07). -/
def fLEAT_CTL_RATE : Fld :=
  { addr := 0xc01000, lsb := 1, width := 1, acc := .rw, stk := false, stby := false, load := .image, reset := 0, lo := 0, hi := 1 }
/-- LEAT_CTL.SPARE, [5:2], RW (spec/07). -/
def fLEAT_CTL_SPARE : Fld :=
  { addr := 0xc01000, lsb := 2, width := 4, acc := .rw, stk := false, stby := false, load := .image, reset := 8, lo := 0, hi := 8 }
/-- LEAT_CTL.DEGOK, [6], RW (spec/07). -/
def fLEAT_CTL_DEGOK : Fld :=
  { addr := 0xc01000, lsb := 6, width := 1, acc := .rw, stk := false, stby := false, load := .number, reset := 1, lo := 0, hi := 1 }
/-- LEAT_CTL.RETRAIN, [7], WO (spec/07). -/
def fLEAT_CTL_RETRAIN : Fld :=
  { addr := 0xc01000, lsb := 7, width := 1, acc := .wo, stk := false, stby := false, load := .number, reset := 0, lo := 0, hi := 1 }
/-- LEAT_STAT.STATE, [2:0], RO (spec/07). -/
def fLEAT_STAT_STATE : Fld :=
  { addr := 0xc01004, lsb := 0, width := 3, acc := .ro, stk := false, stby := false, load := .number, reset := 0, lo := 0, hi := 7 }
/-- LEAT_STAT.TXW4, [3], RO (spec/07). -/
def fLEAT_STAT_TXW4 : Fld :=
  { addr := 0xc01004, lsb := 3, width := 1, acc := .ro, stk := false, stby := false, load := .number, reset := 0, lo := 0, hi := 1 }
/-- LEAT_STAT.RXW4, [4], RO (spec/07). -/
def fLEAT_STAT_RXW4 : Fld :=
  { addr := 0xc01004, lsb := 4, width := 1, acc := .ro, stk := false, stby := false, load := .number, reset := 0, lo := 0, hi := 1 }
/-- LEAT_STAT.SPAREOK, [5], RO (spec/07). -/
def fLEAT_STAT_SPAREOK : Fld :=
  { addr := 0xc01004, lsb := 5, width := 1, acc := .ro, stk := false, stby := false, load := .number, reset := 0, lo := 0, hi := 1 }
/-- LEAT_STAT.PEERNODE, [9:6], RO (spec/07). -/
def fLEAT_STAT_PEERNODE : Fld :=
  { addr := 0xc01004, lsb := 6, width := 4, acc := .ro, stk := false, stby := false, load := .number, reset := 0, lo := 0, hi := 15 }
/-- LEAT_STAT.PEERLINK, [12:10], RO (spec/07). -/
def fLEAT_STAT_PEERLINK : Fld :=
  { addr := 0xc01004, lsb := 10, width := 3, acc := .ro, stk := false, stby := false, load := .number, reset := 0, lo := 0, hi := 7 }
/-- LEAT_STAT.DOWNCAUSE, [16:13], RO/STK (spec/07). -/
def fLEAT_STAT_DOWNCAUSE : Fld :=
  { addr := 0xc01004, lsb := 13, width := 4, acc := .ro, stk := true, stby := false, load := .number, reset := 0, lo := 0, hi := 15 }
/-- LEAT_TXMAP.MAP, [31:0], RO (spec/07). -/
def fLEAT_TXMAP_MAP : Fld :=
  { addr := 0xc01008, lsb := 0, width := 32, acc := .ro, stk := false, stby := false, load := .number, reset := 0xffffffff, lo := 0, hi := 0xffffffff }
/-- LEAT_RXMAP.MAP, [31:0], RO (spec/07). -/
def fLEAT_RXMAP_MAP : Fld :=
  { addr := 0xc0100c, lsb := 0, width := 32, acc := .ro, stk := false, stby := false, load := .number, reset := 0xffffffff, lo := 0, hi := 0xffffffff }
/-- LEAT_TXSEQ.NEXT, [11:0], RO (spec/07). -/
def fLEAT_TXSEQ_NEXT : Fld :=
  { addr := 0xc01010, lsb := 0, width := 12, acc := .ro, stk := false, stby := false, load := .number, reset := 0, lo := 0, hi := 4095 }
/-- LEAT_TXSEQ.ACKED, [23:12], RO (spec/07). -/
def fLEAT_TXSEQ_ACKED : Fld :=
  { addr := 0xc01010, lsb := 12, width := 12, acc := .ro, stk := false, stby := false, load := .number, reset := 4095, lo := 0, hi := 4095 }
/-- LEAT_RXSEQ.EXP, [11:0], RO (spec/07). -/
def fLEAT_RXSEQ_EXP : Fld :=
  { addr := 0xc01014, lsb := 0, width := 12, acc := .ro, stk := false, stby := false, load := .number, reset := 0, lo := 0, hi := 4095 }
/-- LEAT_RXSEQ.HIGH, [23:12], RO (spec/07). -/
def fLEAT_RXSEQ_HIGH : Fld :=
  { addr := 0xc01014, lsb := 12, width := 12, acc := .ro, stk := false, stby := false, load := .number, reset := 4095, lo := 0, hi := 4095 }
/-- LEAT_REPLAY.OCC, [11:0], RO (spec/07). -/
def fLEAT_REPLAY_OCC : Fld :=
  { addr := 0xc01018, lsb := 0, width := 12, acc := .ro, stk := false, stby := false, load := .number, reset := 0, lo := 0, hi := 4095 }
/-- LEAT_REPLAY.TOCNT, [14:12], RO (spec/07). -/
def fLEAT_REPLAY_TOCNT : Fld :=
  { addr := 0xc01018, lsb := 12, width := 3, acc := .ro, stk := false, stby := false, load := .number, reset := 0, lo := 0, hi := 7 }
/-- LEAT_CRPOOL.REQ, [7:0], RW (spec/07). -/
def fLEAT_CRPOOL_REQ : Fld :=
  { addr := 0xc0101c, lsb := 0, width := 8, acc := .rw, stk := false, stby := false, load := .number, reset := 48, lo := 0, hi := 255 }
/-- LEAT_CRPOOL.SNP, [15:8], RW (spec/07). -/
def fLEAT_CRPOOL_SNP : Fld :=
  { addr := 0xc0101c, lsb := 8, width := 8, acc := .rw, stk := false, stby := false, load := .number, reset := 16, lo := 0, hi := 255 }
/-- LEAT_CRPOOL.RSP, [23:16], RW (spec/07). -/
def fLEAT_CRPOOL_RSP : Fld :=
  { addr := 0xc0101c, lsb := 16, width := 8, acc := .rw, stk := false, stby := false, load := .number, reset := 64, lo := 0, hi := 255 }
/-- LEAT_CRLIM.VALUE, [31:0], RO (spec/07). -/
def fLEAT_CRLIM_VALUE : Fld :=
  { addr := 0xc01020, lsb := 0, width := 32, acc := .ro, stk := false, stby := false, load := .number, reset := 0, lo := 0, hi := 0xffffffff }
/-- LEAT_CRUSED.VALUE, [31:0], RO (spec/07). -/
def fLEAT_CRUSED_VALUE : Fld :=
  { addr := 0xc01030, lsb := 0, width := 32, acc := .ro, stk := false, stby := false, load := .number, reset := 0, lo := 0, hi := 0xffffffff }
/-- LEAT_RTT.NS, [15:0], RO (spec/07). -/
def fLEAT_RTT_NS : Fld :=
  { addr := 0xc01040, lsb := 0, width := 16, acc := .ro, stk := false, stby := false, load := .number, reset := 0, lo := 0, hi := 0xffff }
/-- LEAT_ERR.CRCERR, [15:0], RC (spec/07). -/
def fLEAT_ERR_CRCERR : Fld :=
  { addr := 0xc01044, lsb := 0, width := 16, acc := .rc, stk := false, stby := false, load := .number, reset := 0, lo := 0, hi := 0xffff }
/-- LEAT_ERR.REPLAYTO, [23:16], RC (spec/07). -/
def fLEAT_ERR_REPLAYTO : Fld :=
  { addr := 0xc01044, lsb := 16, width := 8, acc := .rc, stk := false, stby := false, load := .number, reset := 0, lo := 0, hi := 255 }
/-- LEAT_ERR.DUP, [31:24], RC (spec/07). -/
def fLEAT_ERR_DUP : Fld :=
  { addr := 0xc01044, lsb := 24, width := 8, acc := .rc, stk := false, stby := false, load := .number, reset := 0, lo := 0, hi := 255 }
/-- LEAT_ERR2.SPARESW, [7:0], RC (spec/07). -/
def fLEAT_ERR2_SPARESW : Fld :=
  { addr := 0xc01048, lsb := 0, width := 8, acc := .rc, stk := false, stby := false, load := .number, reset := 0, lo := 0, hi := 255 }
/-- LEAT_ERR2.RETRAINS, [15:8], RC (spec/07). -/
def fLEAT_ERR2_RETRAINS : Fld :=
  { addr := 0xc01048, lsb := 8, width := 8, acc := .rc, stk := false, stby := false, load := .number, reset := 0, lo := 0, hi := 255 }
/-- LEAT_ERR2.BADACK, [23:16], RC (spec/07). -/
def fLEAT_ERR2_BADACK : Fld :=
  { addr := 0xc01048, lsb := 16, width := 8, acc := .rc, stk := false, stby := false, load := .number, reset := 0, lo := 0, hi := 255 }
/-- LEAT_ERR2.MISROUTE, [24], W1C (spec/07). -/
def fLEAT_ERR2_MISROUTE : Fld :=
  { addr := 0xc01048, lsb := 24, width := 1, acc := .w1c, stk := false, stby := false, load := .number, reset := 0, lo := 0, hi := 1 }
/-- LEAT_ERR2.PROTO, [25], W1C (spec/07). -/
def fLEAT_ERR2_PROTO : Fld :=
  { addr := 0xc01048, lsb := 25, width := 1, acc := .w1c, stk := false, stby := false, load := .number, reset := 0, lo := 0, hi := 1 }
/-- LEAT_ERR2.LOSTWR, [26], W1C/STK (spec/07). -/
def fLEAT_ERR2_LOSTWR : Fld :=
  { addr := 0xc01048, lsb := 26, width := 1, acc := .w1c, stk := true, stby := false, load := .number, reset := 0, lo := 0, hi := 1 }
/-- LEAT_LOSTADDR_L.ADDR_L, [31:0], RO/STK (spec/07). -/
def fLEAT_LOSTADDR_L_ADDR_L : Fld :=
  { addr := 0xc0104c, lsb := 0, width := 32, acc := .ro, stk := true, stby := false, load := .number, reset := 0, lo := 0, hi := 0xffffffff }
/-- LEAT_LOSTADDR_H.ADDR_H, [19:0], RO/STK (spec/07). -/
def fLEAT_LOSTADDR_H_ADDR_H : Fld :=
  { addr := 0xc01050, lsb := 0, width := 20, acc := .ro, stk := true, stby := false, load := .number, reset := 0, lo := 0, hi := 0xfffff }
/-- LEAT_LP.IDLE, [15:0], RW (spec/07). -/
def fLEAT_LP_IDLE : Fld :=
  { addr := 0xc01054, lsb := 0, width := 16, acc := .rw, stk := false, stby := false, load := .number, reset := 1000, lo := 1, hi := 0xffff }
/-- LEAT_LP.DOZING, [16], RO (spec/07). -/
def fLEAT_LP_DOZING : Fld :=
  { addr := 0xc01054, lsb := 16, width := 1, acc := .ro, stk := false, stby := false, load := .number, reset := 0, lo := 0, hi := 1 }
/-- SWC_CTL.STALLMS, [15:0], RW (spec/08). -/
def fSWC_CTL_STALLMS : Fld :=
  { addr := 0x100000, lsb := 0, width := 16, acc := .rw, stk := false, stby := false, load := .number, reset := 50, lo := 1, hi := 1000 }
/-- SWC_CTL.STALLEN, [16], RW (spec/08). -/
def fSWC_CTL_STALLEN : Fld :=
  { addr := 0x100000, lsb := 16, width := 1, acc := .rw, stk := false, stby := false, load := .number, reset := 1, lo := 0, hi := 1 }
/-- SWC_STALL.STALL, [31:0], W1C/STK (spec/08). -/
def fSWC_STALL_STALL : Fld :=
  { addr := 0x100010, lsb := 0, width := 32, acc := .w1c, stk := true, stby := false, load := .number, reset := 0, lo := 0, hi := 0xffffffff }
/-- SWC_ERR.ECCCOR, [15:0], RC (spec/08). -/
def fSWC_ERR_ECCCOR : Fld :=
  { addr := 0x100020, lsb := 0, width := 16, acc := .rc, stk := false, stby := false, load := .number, reset := 0, lo := 0, hi := 0xffff }
/-- SWC_ERR.ECCUNC, [23:16], RC (spec/08). -/
def fSWC_ERR_ECCUNC : Fld :=
  { addr := 0x100020, lsb := 16, width := 8, acc := .rc, stk := false, stby := false, load := .number, reset := 0, lo := 0, hi := 255 }
/-- SWC_ERR.QPARITY, [24], W1C/STK (spec/08). -/
def fSWC_ERR_QPARITY : Fld :=
  { addr := 0x100020, lsb := 24, width := 1, acc := .w1c, stk := true, stby := false, load := .number, reset := 0, lo := 0, hi := 1 }
/-- SWC_ERR2.NOROUTE, [15:0], RC (spec/08). -/
def fSWC_ERR2_NOROUTE : Fld :=
  { addr := 0x100024, lsb := 0, width := 16, acc := .rc, stk := false, stby := false, load := .number, reset := 0, lo := 0, hi := 0xffff }
/-- SWC_ERR2.TRUNC, [31:16], RC (spec/08). -/
def fSWC_ERR2_TRUNC : Fld :=
  { addr := 0x100024, lsb := 16, width := 16, acc := .rc, stk := false, stby := false, load := .number, reset := 0, lo := 0, hi := 0xffff }
/-- SWC_LASTCELL.CELL, [22:0], RO/STK (spec/08). -/
def fSWC_LASTCELL_CELL : Fld :=
  { addr := 0x100028, lsb := 0, width := 23, acc := .ro, stk := true, stby := false, load := .number, reset := 0, lo := 0, hi := 0x7fffff }
/-- RSV_CELLS.CELLS, [22:0], RO (spec/08). -/
def fRSV_CELLS_CELLS : Fld :=
  { addr := 0x300000, lsb := 0, width := 23, acc := .ro, stk := false, stby := false, load := .image, reset := 0x300000, lo := 0, hi := 0x7fffff }
/-- RSV_FREE.FREE, [22:0], RO (spec/08). -/
def fRSV_FREE_FREE : Fld :=
  { addr := 0x300004, lsb := 0, width := 23, acc := .ro, stk := false, stby := false, load := .image, reset := 0x300000, lo := 0, hi := 0x7fffff }
/-- RSV_MINFREE.MINFREE, [22:0], RC (spec/08). -/
def fRSV_MINFREE_MINFREE : Fld :=
  { addr := 0x300008, lsb := 0, width := 23, acc := .rc, stk := false, stby := false, load := .image, reset := 0x300000, lo := 0, hi := 0x7fffff }
/-- RSV_GLOBAL.HOLD, [11:0], RW (spec/08). -/
def fRSV_GLOBAL_HOLD : Fld :=
  { addr := 0x30000c, lsb := 0, width := 12, acc := .rw, stk := false, stby := false, load := .number, reset := 256, lo := 0, hi := 4095 }
/-- RSV_GLOBAL.RESUME, [27:16], RW (spec/08). -/
def fRSV_GLOBAL_RESUME : Fld :=
  { addr := 0x30000c, lsb := 16, width := 12, acc := .rw, stk := false, stby := false, load := .number, reset := 384, lo := 0, hi := 4095 }
/-- RSV_RSPRES.TOTAL, [9:0], STBY (spec/08). -/
def fRSV_RSPRES_TOTAL : Fld :=
  { addr := 0x300010, lsb := 0, width := 10, acc := .rw, stk := false, stby := true, load := .number, reset := 128, lo := 96, hi := 512 }
/-- RSV_RESV.CELLS, [22:0], RO (spec/08). -/
def fRSV_RESV_CELLS : Fld :=
  { addr := 0x300014, lsb := 0, width := 23, acc := .ro, stk := false, stby := false, load := .image, reset := 0x20000, lo := 0, hi := 0x7fffff }
/-- RSV_STAT.GHOLD, [0], RO (spec/08). -/
def fRSV_STAT_GHOLD : Fld :=
  { addr := 0x300018, lsb := 0, width := 1, acc := .ro, stk := false, stby := false, load := .number, reset := 0, lo := 0, hi := 1 }
/-- RSV_STAT.PHOLD, [1], RO (spec/08). -/
def fRSV_STAT_PHOLD : Fld :=
  { addr := 0x300018, lsb := 1, width := 1, acc := .ro, stk := false, stby := false, load := .number, reset := 0, lo := 0, hi := 1 }
/-- RSV_STAT.RSPUSED, [22:2], RO (spec/08). -/
def fRSV_STAT_RSPUSED : Fld :=
  { addr := 0x300018, lsb := 2, width := 21, acc := .ro, stk := false, stby := false, load := .number, reset := 0, lo := 0, hi := 0x1fffff }
/-- RSV_TELCTL.ALERT, [0], RW (spec/08). -/
def fRSV_TELCTL_ALERT : Fld :=
  { addr := 0x30001c, lsb := 0, width := 1, acc := .rw, stk := false, stby := false, load := .number, reset := 0, lo := 0, hi := 1 }
/-- RSV_TELCTL.COAL, [15:8], RW (spec/08). -/
def fRSV_TELCTL_COAL : Fld :=
  { addr := 0x30001c, lsb := 8, width := 8, acc := .rw, stk := false, stby := false, load := .number, reset := 10, lo := 1, hi := 255 }
/-- RSV_TELSTAT.CROSSED, [31:0], W1C (spec/08). -/
def fRSV_TELSTAT_CROSSED : Fld :=
  { addr := 0x300020, lsb := 0, width := 32, acc := .w1c, stk := false, stby := false, load := .number, reset := 0, lo := 0, hi := 0xffffffff }
/-- RSV_TELCNT.COUNT, [31:0], RC (spec/08). -/
def fRSV_TELCNT_COUNT : Fld :=
  { addr := 0x300080, lsb := 0, width := 32, acc := .rc, stk := false, stby := false, load := .number, reset := 0, lo := 0, hi := 0xffffffff }
/-- RSV_HOLD.HELD, [31:0], RO (spec/08). -/
def fRSV_HOLD_HELD : Fld :=
  { addr := 0x300100, lsb := 0, width := 32, acc := .ro, stk := false, stby := false, load := .number, reset := 0, lo := 0, hi := 0xffffffff }
/-- RSV_WM.HIGH, [15:0], RW (spec/08). -/
def fRSV_WM_HIGH : Fld :=
  { addr := 0x301000, lsb := 0, width := 16, acc := .rw, stk := false, stby := false, load := .number, reset := 128, lo := 0, hi := 0xffff }
/-- RSV_WM.LOW, [31:16], RW (spec/08). -/
def fRSV_WM_LOW : Fld :=
  { addr := 0x301000, lsb := 16, width := 16, acc := .rw, stk := false, stby := false, load := .number, reset := 96, lo := 0, hi := 0xffff }
/-- RSV_INOCC.OCC, [22:0], RO (spec/08). -/
def fRSV_INOCC_OCC : Fld :=
  { addr := 0x302000, lsb := 0, width := 23, acc := .ro, stk := false, stby := false, load := .number, reset := 0, lo := 0, hi := 0x7fffff }
/-- RSV_INOCC.HELD, [31], RO (spec/08). -/
def fRSV_INOCC_HELD : Fld :=
  { addr := 0x302000, lsb := 31, width := 1, acc := .ro, stk := false, stby := false, load := .number, reset := 0, lo := 0, hi := 1 }
/-- RSV_EQOCC.OCC, [22:0], RO (spec/08). -/
def fRSV_EQOCC_OCC : Fld :=
  { addr := 0x303000, lsb := 0, width := 23, acc := .ro, stk := false, stby := false, load := .number, reset := 0, lo := 0, hi := 0x7fffff }
/-- RSV_EQOCC.RESUSED, [28:23], RO (spec/08). -/
def fRSV_EQOCC_RESUSED : Fld :=
  { addr := 0x303000, lsb := 23, width := 6, acc := .ro, stk := false, stby := false, load := .number, reset := 0, lo := 0, hi := 63 }
/-- RSV_TLVL.LEVEL, [22:0], RW (spec/08). -/
def fRSV_TLVL_LEVEL : Fld :=
  { addr := 0x304000, lsb := 0, width := 23, acc := .rw, stk := false, stby := false, load := .number, reset := 0, lo := 0, hi := 0x7fffff }
/-- RSV_CTTHR.CT, [6:0], RW (spec/08). -/
def fRSV_CTTHR_CT : Fld :=
  { addr := 0x305000, lsb := 0, width := 7, acc := .rw, stk := false, stby := false, load := .number, reset := 0, lo := 0, hi := 66 }
/-- TRN_AGEDROP.GROUP, [11:0], RO/STK (spec/08). -/
def fTRN_AGEDROP_GROUP : Fld :=
  { addr := 0x500000, lsb := 0, width := 12, acc := .ro, stk := true, stby := false, load := .number, reset := 0, lo := 0, hi := 4095 }
/-- TRN_AGEDROP.SNOOP, [12], RO/STK (spec/08). -/
def fTRN_AGEDROP_SNOOP : Fld :=
  { addr := 0x500000, lsb := 12, width := 1, acc := .ro, stk := true, stby := false, load := .number, reset := 0, lo := 0, hi := 1 }
/-- TRN_AGEDROP.EGRESS, [22:16], RO/STK (spec/08). -/
def fTRN_AGEDROP_EGRESS : Fld :=
  { addr := 0x500000, lsb := 16, width := 7, acc := .ro, stk := true, stby := false, load := .number, reset := 0, lo := 0, hi := 127 }
/-- TRN_AGEDROP.VALID, [31], W1C/STK (spec/08). -/
def fTRN_AGEDROP_VALID : Fld :=
  { addr := 0x500000, lsb := 31, width := 1, acc := .w1c, stk := true, stby := false, load := .number, reset := 0, lo := 0, hi := 1 }
/-- TRN_AGECNT.AGECNT, [15:0], RC (spec/08). -/
def fTRN_AGECNT_AGECNT : Fld :=
  { addr := 0x500004, lsb := 0, width := 16, acc := .rc, stk := false, stby := false, load := .number, reset := 0, lo := 0, hi := 0xffff }
/-- TRN_ERR.NOGRP, [15:0], RC (spec/08). -/
def fTRN_ERR_NOGRP : Fld :=
  { addr := 0x500008, lsb := 0, width := 16, acc := .rc, stk := false, stby := false, load := .number, reset := 0, lo := 0, hi := 0xffff }
/-- TRN_MIR.EN, [0], RW (spec/08). -/
def fTRN_MIR_EN : Fld :=
  { addr := 0x500100, lsb := 0, width := 1, acc := .rw, stk := false, stby := false, load := .number, reset := 0, lo := 0, hi := 1 }
/-- TRN_MIR.MODE, [1], RW (spec/08). -/
def fTRN_MIR_MODE : Fld :=
  { addr := 0x500100, lsb := 1, width := 1, acc := .rw, stk := false, stby := false, load := .number, reset := 0, lo := 0, hi := 1 }
/-- TRN_MIR.DIR, [3:2], RW (spec/08). -/
def fTRN_MIR_DIR : Fld :=
  { addr := 0x500100, lsb := 2, width := 2, acc := .rw, stk := false, stby := false, load := .number, reset := 1, lo := 1, hi := 3 }
/-- TRN_MIR.SRCPT, [10:4], RW (spec/08). -/
def fTRN_MIR_SRCPT : Fld :=
  { addr := 0x500100, lsb := 4, width := 7, acc := .rw, stk := false, stby := false, load := .number, reset := 0, lo := 0, hi := 71 }
/-- TRN_MIR.APORT, [16:11], RW (spec/08). -/
def fTRN_MIR_APORT : Fld :=
  { addr := 0x500100, lsb := 11, width := 6, acc := .rw, stk := false, stby := false, load := .number, reset := 0, lo := 0, hi := 63 }
/-- TRN_MIR.SRC, [6:0], RW (spec/08). -/
def fTRN_MIR_SRC : Fld :=
  { addr := 0x500104, lsb := 0, width := 7, acc := .rw, stk := false, stby := false, load := .number, reset := 0, lo := 0, hi := 127 }
/-- TRN_MIR.SRCANY, [7], RW (spec/08). -/
def fTRN_MIR_SRCANY : Fld :=
  { addr := 0x500104, lsb := 7, width := 1, acc := .rw, stk := false, stby := false, load := .number, reset := 1, lo := 0, hi := 1 }
/-- TRN_MIR.DEST, [14:8], RW (spec/08). -/
def fTRN_MIR_DEST : Fld :=
  { addr := 0x500104, lsb := 8, width := 7, acc := .rw, stk := false, stby := false, load := .number, reset := 0, lo := 0, hi := 127 }
/-- TRN_MIR.DESTANY, [15], RW (spec/08). -/
def fTRN_MIR_DESTANY : Fld :=
  { addr := 0x500104, lsb := 15, width := 1, acc := .rw, stk := false, stby := false, load := .number, reset := 1, lo := 0, hi := 1 }
/-- TRN_MIR.TCMASK, [23:16], RW (spec/08). -/
def fTRN_MIR_TCMASK : Fld :=
  { addr := 0x500104, lsb := 16, width := 8, acc := .rw, stk := false, stby := false, load := .number, reset := 255, lo := 0, hi := 255 }
/-- TRN_MIR.TENANT, [12:0], RW (spec/08). -/
def fTRN_MIR_TENANT : Fld :=
  { addr := 0x500108, lsb := 0, width := 13, acc := .rw, stk := false, stby := false, load := .number, reset := 0, lo := 0, hi := 0x1fff }
/-- TRN_MIR.TENANY, [13], RW (spec/08). -/
def fTRN_MIR_TENANY : Fld :=
  { addr := 0x500108, lsb := 13, width := 1, acc := .rw, stk := false, stby := false, load := .number, reset := 1, lo := 0, hi := 1 }
/-- TRN_MIR.NM1, [15:0], RW (spec/08). -/
def fTRN_MIR_NM1 : Fld :=
  { addr := 0x50010c, lsb := 0, width := 16, acc := .rw, stk := false, stby := false, load := .number, reset := 0, lo := 0, hi := 0xffff }
/-- TRN_MIR.TRUNC, [22:16], RW (spec/08). -/
def fTRN_MIR_TRUNC : Fld :=
  { addr := 0x50010c, lsb := 16, width := 7, acc := .rw, stk := false, stby := false, load := .number, reset := 0, lo := 0, hi := 66 }
/-- TRN_MIR.BASE_L, [31:0], RW (spec/08). -/
def fTRN_MIR_BASE_L : Fld :=
  { addr := 0x500110, lsb := 0, width := 32, acc := .rw, stk := false, stby := false, load := .number, reset := 0, lo := 0, hi := 0xffffffff }
/-- TRN_MIR.BASE_H, [31:0], RW (spec/08). -/
def fTRN_MIR_BASE_H : Fld :=
  { addr := 0x500114, lsb := 0, width := 32, acc := .rw, stk := false, stby := false, load := .number, reset := 0, lo := 0, hi := 0xffffffff }
/-- TRN_MIR.SIZE, [4:0], RW (spec/08). -/
def fTRN_MIR_SIZE : Fld :=
  { addr := 0x500118, lsb := 0, width := 5, acc := .rw, stk := false, stby := false, load := .number, reset := 20, lo := 12, hi := 30 }
/-- TRN_MIR.QUOTA, [15:0], RW (spec/08). -/
def fTRN_MIR_QUOTA : Fld :=
  { addr := 0x50011c, lsb := 0, width := 16, acc := .rw, stk := false, stby := false, load := .number, reset := 0, lo := 0, hi := 0xffff }
/-- TRN_MIR.DROPS, [31:0], RC (spec/08). -/
def fTRN_MIR_DROPS : Fld :=
  { addr := 0x500120, lsb := 0, width := 32, acc := .rc, stk := false, stby := false, load := .number, reset := 0, lo := 0, hi := 0xffffffff }
/-- TRN_MIR.SEQ, [31:0], RO (spec/08). -/
def fTRN_MIR_SEQ : Fld :=
  { addr := 0x500124, lsb := 0, width := 32, acc := .ro, stk := false, stby := false, load := .number, reset := 0, lo := 0, hi := 0xffffffff }
/-- TRN_MIR.WPTR, [29:0], RO (spec/08). -/
def fTRN_MIR_WPTR : Fld :=
  { addr := 0x500128, lsb := 0, width := 30, acc := .ro, stk := false, stby := false, load := .number, reset := 0, lo := 0, hi := 0x3fffffff }
/-- TRN_GRP.MEM_L, [31:0], RW (spec/08). -/
def fTRN_GRP_MEM_L : Fld :=
  { addr := 0x510000, lsb := 0, width := 32, acc := .rw, stk := false, stby := false, load := .image, reset := 0, lo := 0, hi := 0xffffffff }
/-- TRN_GRP.MEM_H, [31:0], RW (spec/08). -/
def fTRN_GRP_MEM_H : Fld :=
  { addr := 0x510004, lsb := 0, width := 32, acc := .rw, stk := false, stby := false, load := .image, reset := 0, lo := 0, hi := 0xffffffff }
/-- TRN_GRP.MEM_K, [7:0], RW (spec/08). -/
def fTRN_GRP_MEM_K : Fld :=
  { addr := 0x510008, lsb := 0, width := 8, acc := .rw, stk := false, stby := false, load := .image, reset := 0, lo := 0, hi := 255 }
/-- TRN_GRP.VALID, [31], RW (spec/08). -/
def fTRN_GRP_VALID : Fld :=
  { addr := 0x510008, lsb := 31, width := 1, acc := .rw, stk := false, stby := false, load := .image, reset := 0, lo := 0, hi := 1 }

end Sys2Proof.Machine
end

