-- ==== Sys2Proof/Machine/RegsC.lean ====
section
/-! DEFINITION. The fields of the registers of spec/{09, 10, 11, 12} (its register tables): address of instance 0, place of its bits, access
(R10), reset (R15, R510) and the range of its defined encodings (R14).  One definition per field, named
f<REGISTER>_<FIELD>; the register list of the window follows. -/

namespace Sys2Proof.Machine
/-- WM_CTL.TXHINT, [7:0], RW (spec/09). -/
def fWM_CTL_TXHINT : Fld :=
  { addr := 0x700000, lsb := 0, width := 8, acc := .rw, stk := false, stby := false, load := .number, reset := 16, lo := 1, hi := 255 }
/-- WM_CTL.FULLHINT, [15:8], RW (spec/09). -/
def fWM_CTL_FULLHINT : Fld :=
  { addr := 0x700000, lsb := 8, width := 8, acc := .rw, stk := false, stby := false, load := .number, reset := 32, lo := 1, hi := 255 }
/-- WM_CTL.NAKLIM, [20:16], RW (spec/09). -/
def fWM_CTL_NAKLIM : Fld :=
  { addr := 0x700000, lsb := 16, width := 5, acc := .rw, stk := false, stby := false, load := .number, reset := 16, lo := 1, hi := 31 }
/-- WM_OCTL.OLIM, [12:0], RW (spec/09). -/
def fWM_OCTL_OLIM : Fld :=
  { addr := 0x700004, lsb := 0, width := 13, acc := .rw, stk := false, stby := false, load := .number, reset := 0x1000, lo := 0, hi := 4096 }
/-- WM_OCTL.OAGE, [23:16], RW (spec/09). -/
def fWM_OCTL_OAGE : Fld :=
  { addr := 0x700004, lsb := 16, width := 8, acc := .rw, stk := false, stby := false, load := .number, reset := 16, lo := 1, hi := 255 }
/-- WM_HOLD.NS, [9:0], RO (spec/09). -/
def fWM_HOLD_NS : Fld :=
  { addr := 0x700008, lsb := 0, width := 10, acc := .ro, stk := false, stby := false, load := .image, reset := 256, lo := 0, hi := 1023 }
/-- WM_SNPTO.AGENT, [6:0], RO/STK (spec/09). -/
def fWM_SNPTO_AGENT : Fld :=
  { addr := 0x700010, lsb := 0, width := 7, acc := .ro, stk := true, stby := false, load := .number, reset := 0, lo := 0, hi := 127 }
/-- WM_SNPTO.SLICE, [11:8], RO/STK (spec/09). -/
def fWM_SNPTO_SLICE : Fld :=
  { addr := 0x700010, lsb := 8, width := 4, acc := .ro, stk := true, stby := false, load := .number, reset := 0, lo := 0, hi := 15 }
/-- WM_SNPTO.VALID, [31], W1C/STK (spec/09). -/
def fWM_SNPTO_VALID : Fld :=
  { addr := 0x700010, lsb := 31, width := 1, acc := .w1c, stk := true, stby := false, load := .number, reset := 0, lo := 0, hi := 1 }
/-- WM_SNPTOADDR_L.ADDR_L, [31:0], RO/STK (spec/09). -/
def fWM_SNPTOADDR_L_ADDR_L : Fld :=
  { addr := 0x700014, lsb := 0, width := 32, acc := .ro, stk := true, stby := false, load := .number, reset := 0, lo := 0, hi := 0xffffffff }
/-- WM_SNPTOADDR_H.ADDR_H, [19:0], RO/STK (spec/09). -/
def fWM_SNPTOADDR_H_ADDR_H : Fld :=
  { addr := 0x700018, lsb := 0, width := 20, acc := .ro, stk := true, stby := false, load := .number, reset := 0, lo := 0, hi := 0xfffff }
/-- WM_LOSTLINE.CAUSE, [1:0], RO/STK (spec/09). -/
def fWM_LOSTLINE_CAUSE : Fld :=
  { addr := 0x70001c, lsb := 0, width := 2, acc := .ro, stk := true, stby := false, load := .number, reset := 0, lo := 0, hi := 3 }
/-- WM_LOSTLINE.AGENT, [8:2], RO/STK (spec/09). -/
def fWM_LOSTLINE_AGENT : Fld :=
  { addr := 0x70001c, lsb := 2, width := 7, acc := .ro, stk := true, stby := false, load := .number, reset := 0, lo := 0, hi := 127 }
/-- WM_LOSTLINE.VALID, [31], W1C/STK (spec/09). -/
def fWM_LOSTLINE_VALID : Fld :=
  { addr := 0x70001c, lsb := 31, width := 1, acc := .w1c, stk := true, stby := false, load := .number, reset := 0, lo := 0, hi := 1 }
/-- WM_LOSTADDR_L.ADDR_L, [31:0], RO/STK (spec/09). -/
def fWM_LOSTADDR_L_ADDR_L : Fld :=
  { addr := 0x700020, lsb := 0, width := 32, acc := .ro, stk := true, stby := false, load := .number, reset := 0, lo := 0, hi := 0xffffffff }
/-- WM_LOSTADDR_H.ADDR_H, [19:0], RO/STK (spec/09). -/
def fWM_LOSTADDR_H_ADDR_H : Fld :=
  { addr := 0x700024, lsb := 0, width := 20, acc := .ro, stk := true, stby := false, load := .number, reset := 0, lo := 0, hi := 0xfffff }
/-- WM_ERR.SNPTO, [7:0], RC (spec/09). -/
def fWM_ERR_SNPTO : Fld :=
  { addr := 0x700028, lsb := 0, width := 8, acc := .rc, stk := false, stby := false, load := .number, reset := 0, lo := 0, hi := 255 }
/-- WM_ERR.STALEWB, [15:8], RC (spec/09). -/
def fWM_ERR_STALEWB : Fld :=
  { addr := 0x700028, lsb := 8, width := 8, acc := .rc, stk := false, stby := false, load := .number, reset := 0, lo := 0, hi := 255 }
/-- WM_ERR.PROTO, [23:16], RC (spec/09). -/
def fWM_ERR_PROTO : Fld :=
  { addr := 0x700028, lsb := 16, width := 8, acc := .rc, stk := false, stby := false, load := .number, reset := 0, lo := 0, hi := 255 }
/-- WM_ERR.RSVFULL, [27:24], RC (spec/09). -/
def fWM_ERR_RSVFULL : Fld :=
  { addr := 0x700028, lsb := 24, width := 4, acc := .rc, stk := false, stby := false, load := .number, reset := 0, lo := 0, hi := 15 }
/-- WM_ERR.RSVEXP, [31:28], RC (spec/09). -/
def fWM_ERR_RSVEXP : Fld :=
  { addr := 0x700028, lsb := 28, width := 4, acc := .rc, stk := false, stby := false, load := .number, reset := 0, lo := 0, hi := 15 }
/-- WM_ERR2.OLOST, [15:0], RC (spec/09). -/
def fWM_ERR2_OLOST : Fld :=
  { addr := 0x70002c, lsb := 0, width := 16, acc := .rc, stk := false, stby := false, load := .number, reset := 0, lo := 0, hi := 0xffff }
/-- WM_ERR2.PWFAIL, [23:16], RC (spec/09). -/
def fWM_ERR2_PWFAIL : Fld :=
  { addr := 0x70002c, lsb := 16, width := 8, acc := .rc, stk := false, stby := false, load := .number, reset := 0, lo := 0, hi := 255 }
/-- WM_AGDOWN.PURGING, [31:0], RO (spec/09). -/
def fWM_AGDOWN_PURGING : Fld :=
  { addr := 0x700030, lsb := 0, width := 32, acc := .ro, stk := false, stby := false, load := .number, reset := 0, lo := 0, hi := 0xffffffff }
/-- WM_TTCTL.LOAD, [0], WO/STBY (spec/09). -/
def fWM_TTCTL_LOAD : Fld :=
  { addr := 0x700040, lsb := 0, width := 1, acc := .wo, stk := false, stby := true, load := .number, reset := 0, lo := 0, hi := 1 }
/-- WM_TTCTL.KEY, [31:24], WO (spec/09). -/
def fWM_TTCTL_KEY : Fld :=
  { addr := 0x700040, lsb := 24, width := 8, acc := .wo, stk := false, stby := false, load := .number, reset := 0, lo := 0, hi := 255 }
/-- WM_TTSTAT.RESULT, [3:0], RO (spec/09). -/
def fWM_TTSTAT_RESULT : Fld :=
  { addr := 0x700044, lsb := 0, width := 4, acc := .ro, stk := false, stby := false, load := .number, reset := 0, lo := 0, hi := 15 }
/-- WM_TTSTAT.ROW, [10:4], RO (spec/09). -/
def fWM_TTSTAT_ROW : Fld :=
  { addr := 0x700044, lsb := 4, width := 7, acc := .ro, stk := false, stby := false, load := .number, reset := 0, lo := 0, hi := 127 }
/-- WM_TTSTAT.FALLBACK, [11], W1C/STK (spec/09). -/
def fWM_TTSTAT_FALLBACK : Fld :=
  { addr := 0x700044, lsb := 11, width := 1, acc := .w1c, stk := true, stby := false, load := .number, reset := 0, lo := 0, hi := 1 }
/-- WM_TTID.TTID, [31:0], RO (spec/09). -/
def fWM_TTID_TTID : Fld :=
  { addr := 0x700048, lsb := 0, width := 32, acc := .ro, stk := false, stby := false, load := .image, reset := 1, lo := 0, hi := 0xffffffff }
/-- WM_TTCRC.CRC, [31:0], RO (spec/09). -/
def fWM_TTCRC_CRC : Fld :=
  { addr := 0x70004c, lsb := 0, width := 32, acc := .ro, stk := false, stby := false, load := .image, reset := 0, lo := 0, hi := 0xffffffff }
/-- WM_SLICE.OPEN, [12:0], RO (spec/09). -/
def fWM_SLICE_OPEN : Fld :=
  { addr := 0x700100, lsb := 0, width := 13, acc := .ro, stk := false, stby := false, load := .number, reset := 0, lo := 0, hi := 0x1fff }
/-- WM_SLICE.OCELLS, [28:16], RO (spec/09). -/
def fWM_SLICE_OCELLS : Fld :=
  { addr := 0x700100, lsb := 16, width := 13, acc := .ro, stk := false, stby := false, load := .number, reset := 0, lo := 0, hi := 0x1fff }
/-- WM_SLICE.NAKS, [31:0], RC (spec/09). -/
def fWM_SLICE_NAKS : Fld :=
  { addr := 0x700104, lsb := 0, width := 32, acc := .rc, stk := false, stby := false, load := .number, reset := 0, lo := 0, hi := 0xffffffff }
/-- WM_SLICE.RSVQ, [8:0], RO (spec/09). -/
def fWM_SLICE_RSVQ : Fld :=
  { addr := 0x700108, lsb := 0, width := 9, acc := .ro, stk := false, stby := false, load := .number, reset := 0, lo := 0, hi := 511 }
/-- WM_SLICE.MAXOPEN, [12:0], RC (spec/09). -/
def fWM_SLICE_MAXOPEN : Fld :=
  { addr := 0x70010c, lsb := 0, width := 13, acc := .rc, stk := false, stby := false, load := .number, reset := 0, lo := 0, hi := 0x1fff }
/-- WM_SRGN.FIRST, [23:0], RW (spec/09). -/
def fWM_SRGN_FIRST : Fld :=
  { addr := 0x701000, lsb := 0, width := 24, acc := .rw, stk := false, stby := false, load := .image, reset := 0, lo := 0, hi := 0xffffff }
/-- WM_SRGN.EN, [31], RW (spec/09). -/
def fWM_SRGN_EN : Fld :=
  { addr := 0x701000, lsb := 31, width := 1, acc := .rw, stk := false, stby := false, load := .image, reset := 0, lo := 0, hi := 1 }
/-- WM_SRGN.LAST, [23:0], RW (spec/09). -/
def fWM_SRGN_LAST : Fld :=
  { addr := 0x701004, lsb := 0, width := 24, acc := .rw, stk := false, stby := false, load := .image, reset := 0, lo := 0, hi := 0xffffff }
/-- WM_SRGN.HOME, [27:24], RW (spec/09). -/
def fWM_SRGN_HOME : Fld :=
  { addr := 0x701004, lsb := 24, width := 4, acc := .rw, stk := false, stby := false, load := .image, reset := 0, lo := 0, hi := 15 }
/-- WM_SRGN.OALLOW, [28], RW (spec/09). -/
def fWM_SRGN_OALLOW : Fld :=
  { addr := 0x701004, lsb := 28, width := 1, acc := .rw, stk := false, stby := false, load := .image, reset := 0, lo := 0, hi := 1 }
/-- WM_SRGN.STATE, [1:0], RO (spec/09). -/
def fWM_SRGN_STATE : Fld :=
  { addr := 0x701008, lsb := 0, width := 2, acc := .ro, stk := false, stby := false, load := .image, reset := 0, lo := 0, hi := 3 }
/-- WM_TTSTAGE.DATA, [31:0], STBY (spec/09). -/
def fWM_TTSTAGE_DATA : Fld :=
  { addr := 0x708000, lsb := 0, width := 32, acc := .rw, stk := false, stby := true, load := .undef, reset := 0, lo := 0, hi := 0xffffffff }
/-- SNF_CTL.SCRUBEN, [0], RW (spec/10). -/
def fSNF_CTL_SCRUBEN : Fld :=
  { addr := 0x900000, lsb := 0, width := 1, acc := .rw, stk := false, stby := false, load := .number, reset := 1, lo := 0, hi := 1 }
/-- SNF_CTL.INTERVAL, [23:8], RW (spec/10). -/
def fSNF_CTL_INTERVAL : Fld :=
  { addr := 0x900000, lsb := 8, width := 16, acc := .rw, stk := false, stby := false, load := .number, reset := 1024, lo := 64, hi := 0xffff }
/-- SNF_SCRUBSTAT.SWEEPS, [15:0], RO (spec/10). -/
def fSNF_SCRUBSTAT_SWEEPS : Fld :=
  { addr := 0x900004, lsb := 0, width := 16, acc := .ro, stk := false, stby := false, load := .number, reset := 0, lo := 0, hi := 0xffff }
/-- SNF_SCRUBSTAT.SWEEPING, [31:16], RO (spec/10). -/
def fSNF_SCRUBSTAT_SWEEPING : Fld :=
  { addr := 0x900004, lsb := 16, width := 16, acc := .ro, stk := false, stby := false, load := .number, reset := 0, lo := 0, hi := 0xffff }
/-- SNF_ERR.COR, [15:0], RC (spec/10). -/
def fSNF_ERR_COR : Fld :=
  { addr := 0x900008, lsb := 0, width := 16, acc := .rc, stk := false, stby := false, load := .number, reset := 0, lo := 0, hi := 0xffff }
/-- SNF_ERR.UNC, [23:16], RC (spec/10). -/
def fSNF_ERR_UNC : Fld :=
  { addr := 0x900008, lsb := 16, width := 8, acc := .rc, stk := false, stby := false, load := .number, reset := 0, lo := 0, hi := 255 }
/-- SNF_ERR.INVAR, [31:24], RC (spec/10). -/
def fSNF_ERR_INVAR : Fld :=
  { addr := 0x900008, lsb := 24, width := 8, acc := .rc, stk := false, stby := false, load := .number, reset := 0, lo := 0, hi := 255 }
/-- SNF_LASTERR.SLICE, [3:0], RO/STK (spec/10). -/
def fSNF_LASTERR_SLICE : Fld :=
  { addr := 0x90000c, lsb := 0, width := 4, acc := .ro, stk := true, stby := false, load := .number, reset := 0, lo := 0, hi := 15 }
/-- SNF_LASTERR.SET, [19:4], RO/STK (spec/10). -/
def fSNF_LASTERR_SET : Fld :=
  { addr := 0x90000c, lsb := 4, width := 16, acc := .ro, stk := true, stby := false, load := .number, reset := 0, lo := 0, hi := 0xffff }
/-- SNF_LASTERR.WAY, [24:20], RO/STK (spec/10). -/
def fSNF_LASTERR_WAY : Fld :=
  { addr := 0x90000c, lsb := 20, width := 5, acc := .ro, stk := true, stby := false, load := .number, reset := 0, lo := 0, hi := 31 }
/-- SNF_LASTERR.KIND, [26:25], RO/STK (spec/10). -/
def fSNF_LASTERR_KIND : Fld :=
  { addr := 0x90000c, lsb := 25, width := 2, acc := .ro, stk := true, stby := false, load := .number, reset := 0, lo := 0, hi := 3 }
/-- SNF_LASTERR.VALID, [31], W1C/STK (spec/10). -/
def fSNF_LASTERR_VALID : Fld :=
  { addr := 0x90000c, lsb := 31, width := 1, acc := .w1c, stk := true, stby := false, load := .number, reset := 0, lo := 0, hi := 1 }
/-- SNF_SUSPCLR.SLICES, [15:0], WO (spec/10). -/
def fSNF_SUSPCLR_SLICES : Fld :=
  { addr := 0x900010, lsb := 0, width := 16, acc := .wo, stk := false, stby := false, load := .number, reset := 0, lo := 0, hi := 0xffff }
/-- SNF_SUSPCLR.KEY, [31:24], WO (spec/10). -/
def fSNF_SUSPCLR_KEY : Fld :=
  { addr := 0x900010, lsb := 24, width := 8, acc := .wo, stk := false, stby := false, load := .number, reset := 0, lo := 0, hi := 255 }
/-- SNF_BCAST.AGENTS, [31:0], RO (spec/10). -/
def fSNF_BCAST_AGENTS : Fld :=
  { addr := 0x900020, lsb := 0, width := 32, acc := .ro, stk := false, stby := false, load := .number, reset := 0, lo := 0, hi := 0xffffffff }
/-- SNF_SLICE.VALID, [20:0], RO (spec/10). -/
def fSNF_SLICE_VALID : Fld :=
  { addr := 0x900100, lsb := 0, width := 21, acc := .ro, stk := false, stby := false, load := .number, reset := 0, lo := 0, hi := 0x1fffff }
/-- SNF_SLICE.EVICTS, [31:0], RC (spec/10). -/
def fSNF_SLICE_EVICTS : Fld :=
  { addr := 0x900104, lsb := 0, width := 32, acc := .rc, stk := false, stby := false, load := .number, reset := 0, lo := 0, hi := 0xffffffff }
/-- SNF_SLICE.PINNAK, [31:0], RC (spec/10). -/
def fSNF_SLICE_PINNAK : Fld :=
  { addr := 0x900108, lsb := 0, width := 32, acc := .rc, stk := false, stby := false, load := .number, reset := 0, lo := 0, hi := 0xffffffff }
/-- SNF_SLICE.SUSPECT, [4:0], RO (spec/10). -/
def fSNF_SLICE_SUSPECT : Fld :=
  { addr := 0x90010c, lsb := 0, width := 5, acc := .ro, stk := false, stby := false, load := .number, reset := 0, lo := 0, hi := 31 }
/-- SNF_SLICE.ALLSUSP, [5], RO (spec/10). -/
def fSNF_SLICE_ALLSUSP : Fld :=
  { addr := 0x90010c, lsb := 5, width := 1, acc := .ro, stk := false, stby := false, load := .number, reset := 0, lo := 0, hi := 1 }
/-- SNF_SLICE.RETIRED, [14:8], RO/STK (spec/10). -/
def fSNF_SLICE_RETIRED : Fld :=
  { addr := 0x90010c, lsb := 8, width := 7, acc := .ro, stk := true, stby := false, load := .number, reset := 0, lo := 0, hi := 127 }
/-- SNF_SLICE.BCAST, [31:0], RC (spec/10). -/
def fSNF_SLICE_BCAST : Fld :=
  { addr := 0x900110, lsb := 0, width := 32, acc := .rc, stk := false, stby := false, load := .number, reset := 0, lo := 0, hi := 0xffffffff }
/-- SNF_SUSP.SET, [15:0], RO (spec/10). -/
def fSNF_SUSP_SET : Fld :=
  { addr := 0x900400, lsb := 0, width := 16, acc := .ro, stk := false, stby := false, load := .number, reset := 0, lo := 0, hi := 0xffff }
/-- SNF_SUSP.VALID, [31], RO (spec/10). -/
def fSNF_SUSP_VALID : Fld :=
  { addr := 0x900400, lsb := 31, width := 1, acc := .ro, stk := false, stby := false, load := .number, reset := 0, lo := 0, hi := 1 }
/-- SNF_RET.SET, [15:0], RO/STK (spec/10). -/
def fSNF_RET_SET : Fld :=
  { addr := 0x900800, lsb := 0, width := 16, acc := .ro, stk := true, stby := false, load := .number, reset := 0, lo := 0, hi := 0xffff }
/-- SNF_RET.WAY, [20:16], RO/STK (spec/10). -/
def fSNF_RET_WAY : Fld :=
  { addr := 0x900800, lsb := 16, width := 5, acc := .ro, stk := true, stby := false, load := .number, reset := 0, lo := 0, hi := 31 }
/-- SNF_RET.VALID, [31], RO/STK (spec/10). -/
def fSNF_RET_VALID : Fld :=
  { addr := 0x900800, lsb := 31, width := 1, acc := .ro, stk := true, stby := false, load := .number, reset := 0, lo := 0, hi := 1 }
/-- SNF_DIAGSEL.SLICE, [3:0], RW (spec/10). -/
def fSNF_DIAGSEL_SLICE : Fld :=
  { addr := 0x902000, lsb := 0, width := 4, acc := .rw, stk := false, stby := false, load := .number, reset := 0, lo := 0, hi := 15 }
/-- SNF_DIAGSEL.SET, [19:4], RW (spec/10). -/
def fSNF_DIAGSEL_SET : Fld :=
  { addr := 0x902000, lsb := 4, width := 16, acc := .rw, stk := false, stby := false, load := .number, reset := 0, lo := 0, hi := 0xffff }
/-- SNF_DIAGSEL.WAY, [24:20], RW (spec/10). -/
def fSNF_DIAGSEL_WAY : Fld :=
  { addr := 0x902000, lsb := 20, width := 5, acc := .rw, stk := false, stby := false, load := .number, reset := 0, lo := 0, hi := 31 }
/-- SNF_DIAGSEL.GO, [31], WO (spec/10). -/
def fSNF_DIAGSEL_GO : Fld :=
  { addr := 0x902000, lsb := 31, width := 1, acc := .wo, stk := false, stby := false, load := .number, reset := 0, lo := 0, hi := 1 }
/-- SNF_DIAGDATA.DATA, [31:0], RO (spec/10). -/
def fSNF_DIAGDATA_DATA : Fld :=
  { addr := 0x902004, lsb := 0, width := 32, acc := .ro, stk := false, stby := false, load := .number, reset := 0, lo := 0, hi := 0xffffffff }
/-- SNF_DIAGSTAT.DONE, [0], RO (spec/10). -/
def fSNF_DIAGSTAT_DONE : Fld :=
  { addr := 0x902014, lsb := 0, width := 1, acc := .ro, stk := false, stby := false, load := .number, reset := 0, lo := 0, hi := 1 }
/-- SNF_DIAGSTAT.ECCERR, [1], RO (spec/10). -/
def fSNF_DIAGSTAT_ECCERR : Fld :=
  { addr := 0x902014, lsb := 1, width := 1, acc := .ro, stk := false, stby := false, load := .number, reset := 0, lo := 0, hi := 1 }
/-- SNF_DIAGSTAT.PINNED, [2], RO (spec/10). -/
def fSNF_DIAGSTAT_PINNED : Fld :=
  { addr := 0x902014, lsb := 2, width := 1, acc := .ro, stk := false, stby := false, load := .number, reset := 0, lo := 0, hi := 1 }
/-- XLT_CTL.OWNSPAN, [5:0], RO (spec/11). -/
def fXLT_CTL_OWNSPAN : Fld :=
  { addr := 0xb00000, lsb := 0, width := 6, acc := .ro, stk := false, stby := false, load := .image, reset := 0, lo := 0, hi := 63 }
/-- XLT_CTL.OWNVALID, [6], RO (spec/11). -/
def fXLT_CTL_OWNVALID : Fld :=
  { addr := 0xb00000, lsb := 6, width := 1, acc := .ro, stk := false, stby := false, load := .image, reset := 0, lo := 0, hi := 1 }
/-- XLT_SPAN.SPAN, [5:0], RW (spec/11). -/
def fXLT_SPAN_SPAN : Fld :=
  { addr := 0xb00040, lsb := 0, width := 6, acc := .rw, stk := false, stby := false, load := .image, reset := 0, lo := 0, hi := 63 }
/-- XLT_SPAN.VALID, [6], RW (spec/11). -/
def fXLT_SPAN_VALID : Fld :=
  { addr := 0xb00040, lsb := 6, width := 1, acc := .rw, stk := false, stby := false, load := .image, reset := 0, lo := 0, hi := 1 }
/-- XLT_MAPIDX.INDEX, [17:0], RW (spec/11). -/
def fXLT_MAPIDX_INDEX : Fld :=
  { addr := 0xb00100, lsb := 0, width := 18, acc := .rw, stk := false, stby := false, load := .number, reset := 0, lo := 0, hi := 0x3ffff }
/-- XLT_MAPRD_L.ENTRY_L, [31:0], RO (spec/11). -/
def fXLT_MAPRD_L_ENTRY_L : Fld :=
  { addr := 0xb00104, lsb := 0, width := 32, acc := .ro, stk := false, stby := false, load := .number, reset := 0, lo := 0, hi := 0xffffffff }
/-- XLT_MAPRD_H.ENTRY_H, [31:0], RO (spec/11). -/
def fXLT_MAPRD_H_ENTRY_H : Fld :=
  { addr := 0xb00108, lsb := 0, width := 32, acc := .ro, stk := false, stby := false, load := .number, reset := 0, lo := 0, hi := 0xffffffff }
/-- XLT_MAPWR_L.ENTRY_L, [31:0], RW (spec/11). -/
def fXLT_MAPWR_L_ENTRY_L : Fld :=
  { addr := 0xb0010c, lsb := 0, width := 32, acc := .rw, stk := false, stby := false, load := .number, reset := 0, lo := 0, hi := 0xffffffff }
/-- XLT_MAPWR_H.ENTRY_H, [31:0], RW (spec/11). -/
def fXLT_MAPWR_H_ENTRY_H : Fld :=
  { addr := 0xb00110, lsb := 0, width := 32, acc := .rw, stk := false, stby := false, load := .number, reset := 0, lo := 0, hi := 0xffffffff }
/-- XLT_MAPCMD.OP, [2:0], WO (spec/11). -/
def fXLT_MAPCMD_OP : Fld :=
  { addr := 0xb00114, lsb := 0, width := 3, acc := .wo, stk := false, stby := false, load := .number, reset := 0, lo := 0, hi := 2 }
/-- XLT_MAPCMD.ZERO, [3], WO (spec/11). -/
def fXLT_MAPCMD_ZERO : Fld :=
  { addr := 0xb00114, lsb := 3, width := 1, acc := .wo, stk := false, stby := false, load := .number, reset := 0, lo := 0, hi := 1 }
/-- XLT_MAPCMD.TIMED, [4], WO (spec/11). -/
def fXLT_MAPCMD_TIMED : Fld :=
  { addr := 0xb00114, lsb := 4, width := 1, acc := .wo, stk := false, stby := false, load := .number, reset := 0, lo := 0, hi := 1 }
/-- XLT_MAPCMD.KEY, [31:24], WO (spec/11). -/
def fXLT_MAPCMD_KEY : Fld :=
  { addr := 0xb00114, lsb := 24, width := 8, acc := .wo, stk := false, stby := false, load := .number, reset := 0, lo := 0, hi := 255 }
/-- XLT_MAPSTAT.RESULT, [3:0], RO (spec/11). -/
def fXLT_MAPSTAT_RESULT : Fld :=
  { addr := 0xb00118, lsb := 0, width := 4, acc := .ro, stk := false, stby := false, load := .number, reset := 0, lo := 0, hi := 15 }
/-- XLT_MAPSTAT.BUSY, [4], RO (spec/11). -/
def fXLT_MAPSTAT_BUSY : Fld :=
  { addr := 0xb00118, lsb := 4, width := 1, acc := .ro, stk := false, stby := false, load := .number, reset := 0, lo := 0, hi := 1 }
/-- XLT_MAPSTAT.QUEUED, [11:5], RO (spec/11). -/
def fXLT_MAPSTAT_QUEUED : Fld :=
  { addr := 0xb00118, lsb := 5, width := 7, acc := .ro, stk := false, stby := false, load := .number, reset := 0, lo := 0, hi := 127 }
/-- XLT_MAPSTAT.DRAIN, [12], RO (spec/11). -/
def fXLT_MAPSTAT_DRAIN : Fld :=
  { addr := 0xb00118, lsb := 12, width := 1, acc := .ro, stk := false, stby := false, load := .number, reset := 0, lo := 0, hi := 1 }
/-- XLT_MAPSTAT.G, [13], RO (spec/11). -/
def fXLT_MAPSTAT_G : Fld :=
  { addr := 0xb00118, lsb := 13, width := 1, acc := .ro, stk := false, stby := false, load := .number, reset := 0, lo := 0, hi := 1 }
/-- XLT_MAPTIME_NS.NS, [31:0], RW (spec/11). -/
def fXLT_MAPTIME_NS_NS : Fld :=
  { addr := 0xb0011c, lsb := 0, width := 32, acc := .rw, stk := false, stby := false, load := .number, reset := 0, lo := 0, hi := 0xffffffff }
/-- XLT_MAPTIME_SECL.SECL, [31:0], RW (spec/11). -/
def fXLT_MAPTIME_SECL_SECL : Fld :=
  { addr := 0xb00120, lsb := 0, width := 32, acc := .rw, stk := false, stby := false, load := .number, reset := 0, lo := 0, hi := 0xffffffff }
/-- XLT_MAPTIME_SECH.SECH, [15:0], RW (spec/11). -/
def fXLT_MAPTIME_SECH_SECH : Fld :=
  { addr := 0xb00124, lsb := 0, width := 16, acc := .rw, stk := false, stby := false, load := .number, reset := 0, lo := 0, hi := 0xffff }
/-- XLT_DRAINCNT.OLDINFL, [23:0], RO (spec/11). -/
def fXLT_DRAINCNT_OLDINFL : Fld :=
  { addr := 0xb00128, lsb := 0, width := 24, acc := .ro, stk := false, stby := false, load := .number, reset := 0, lo := 0, hi := 0xffffff }
/-- XLT_MAPTFAIL.INDEX, [17:0], RO/STK (spec/11). -/
def fXLT_MAPTFAIL_INDEX : Fld :=
  { addr := 0xb0012c, lsb := 0, width := 18, acc := .ro, stk := true, stby := false, load := .number, reset := 0, lo := 0, hi := 0x3ffff }
/-- XLT_MAPTFAIL.OP, [20:18], RO/STK (spec/11). -/
def fXLT_MAPTFAIL_OP : Fld :=
  { addr := 0xb0012c, lsb := 18, width := 3, acc := .ro, stk := true, stby := false, load := .number, reset := 0, lo := 0, hi := 7 }
/-- XLT_MAPTFAIL.RESULT, [24:21], RO/STK (spec/11). -/
def fXLT_MAPTFAIL_RESULT : Fld :=
  { addr := 0xb0012c, lsb := 21, width := 4, acc := .ro, stk := true, stby := false, load := .number, reset := 0, lo := 0, hi := 15 }
/-- XLT_MAPTFAIL.VALID, [31], W1C/STK (spec/11). -/
def fXLT_MAPTFAIL_VALID : Fld :=
  { addr := 0xb0012c, lsb := 31, width := 1, acc := .w1c, stk := true, stby := false, load := .number, reset := 0, lo := 0, hi := 1 }
/-- XLT_SGSEL.GROUP, [7:0], RW (spec/11). -/
def fXLT_SGSEL_GROUP : Fld :=
  { addr := 0xb00140, lsb := 0, width := 8, acc := .rw, stk := false, stby := false, load := .number, reset := 0, lo := 0, hi := 255 }
/-- XLT_SGSEL.WORD, [12:8], RW (spec/11). -/
def fXLT_SGSEL_WORD : Fld :=
  { addr := 0xb00140, lsb := 8, width := 5, acc := .rw, stk := false, stby := false, load := .number, reset := 0, lo := 0, hi := 31 }
/-- XLT_SGDATA.MASK, [31:0], RW (spec/11). -/
def fXLT_SGDATA_MASK : Fld :=
  { addr := 0xb00144, lsb := 0, width := 32, acc := .rw, stk := false, stby := false, load := .image, reset := 0, lo := 0, hi := 0xffffffff }
/-- XLT_SGREFS.REFS, [17:0], RO (spec/11). -/
def fXLT_SGREFS_REFS : Fld :=
  { addr := 0xb00148, lsb := 0, width := 18, acc := .ro, stk := false, stby := false, load := .number, reset := 0, lo := 0, hi := 0x3ffff }
/-- XLT_POOLPORT.POOL, [31:0], RW (spec/11). -/
def fXLT_POOLPORT_POOL : Fld :=
  { addr := 0xb00150, lsb := 0, width := 32, acc := .rw, stk := false, stby := false, load := .image, reset := 0, lo := 0, hi := 0xffffffff }
/-- XLT_DENY.PORT, [5:0], RO/STK (spec/11). -/
def fXLT_DENY_PORT : Fld :=
  { addr := 0xb00180, lsb := 0, width := 6, acc := .ro, stk := true, stby := false, load := .number, reset := 0, lo := 0, hi := 63 }
/-- XLT_DENY.NODE, [9:6], RO/STK (spec/11). -/
def fXLT_DENY_NODE : Fld :=
  { addr := 0xb00180, lsb := 6, width := 4, acc := .ro, stk := true, stby := false, load := .number, reset := 0, lo := 0, hi := 15 }
/-- XLT_DENY.REASON, [12:10], RO/STK (spec/11). -/
def fXLT_DENY_REASON : Fld :=
  { addr := 0xb00180, lsb := 10, width := 3, acc := .ro, stk := true, stby := false, load := .number, reset := 0, lo := 0, hi := 7 }
/-- XLT_DENY.VALID, [31], W1C/STK (spec/11). -/
def fXLT_DENY_VALID : Fld :=
  { addr := 0xb00180, lsb := 31, width := 1, acc := .w1c, stk := true, stby := false, load := .number, reset := 0, lo := 0, hi := 1 }
/-- XLT_DENYADDR_L.ADDR_L, [31:0], RO/STK (spec/11). -/
def fXLT_DENYADDR_L_ADDR_L : Fld :=
  { addr := 0xb00184, lsb := 0, width := 32, acc := .ro, stk := true, stby := false, load := .number, reset := 0, lo := 0, hi := 0xffffffff }
/-- XLT_DENYADDR_H.ADDR_H, [19:0], RO/STK (spec/11). -/
def fXLT_DENYADDR_H_ADDR_H : Fld :=
  { addr := 0xb00188, lsb := 0, width := 20, acc := .ro, stk := true, stby := false, load := .number, reset := 0, lo := 0, hi := 0xfffff }
/-- XLT_ERR.DENY, [15:0], RC (spec/11). -/
def fXLT_ERR_DENY : Fld :=
  { addr := 0xb0018c, lsb := 0, width := 16, acc := .rc, stk := false, stby := false, load := .number, reset := 0, lo := 0, hi := 0xffff }
/-- XLT_ERR.SPANERR, [23:16], RC (spec/11). -/
def fXLT_ERR_SPANERR : Fld :=
  { addr := 0xb0018c, lsb := 16, width := 8, acc := .rc, stk := false, stby := false, load := .number, reset := 0, lo := 0, hi := 255 }
/-- XLT_ERR.ECCCOR, [31:24], RC (spec/11). -/
def fXLT_ERR_ECCCOR : Fld :=
  { addr := 0xb0018c, lsb := 24, width := 8, acc := .rc, stk := false, stby := false, load := .number, reset := 0, lo := 0, hi := 255 }
/-- XLT_MAPERR.INDEX, [17:0], RO/STK (spec/11). -/
def fXLT_MAPERR_INDEX : Fld :=
  { addr := 0xb00190, lsb := 0, width := 18, acc := .ro, stk := true, stby := false, load := .number, reset := 0, lo := 0, hi := 0x3ffff }
/-- XLT_MAPERR.VALID, [31], W1C/STK (spec/11). -/
def fXLT_MAPERR_VALID : Fld :=
  { addr := 0xb00190, lsb := 31, width := 1, acc := .w1c, stk := true, stby := false, load := .number, reset := 0, lo := 0, hi := 1 }
/-- XLT_WCTIME_NS.NS, [31:0], RW (spec/11). -/
def fXLT_WCTIME_NS_NS : Fld :=
  { addr := 0xb00200, lsb := 0, width := 32, acc := .rw, stk := false, stby := false, load := .number, reset := 0, lo := 0, hi := 0xffffffff }
/-- XLT_WCTIME_SECL.SECL, [31:0], RW (spec/11). -/
def fXLT_WCTIME_SECL_SECL : Fld :=
  { addr := 0xb00204, lsb := 0, width := 32, acc := .rw, stk := false, stby := false, load := .number, reset := 0, lo := 0, hi := 0xffffffff }
/-- XLT_WCTIME_SECH.SECH, [15:0], RW (spec/11). -/
def fXLT_WCTIME_SECH_SECH : Fld :=
  { addr := 0xb00208, lsb := 0, width := 16, acc := .rw, stk := false, stby := false, load := .number, reset := 0, lo := 0, hi := 0xffff }
/-- XLT_WCOMMIT.GO, [0], WO (spec/11). -/
def fXLT_WCOMMIT_GO : Fld :=
  { addr := 0xb01000, lsb := 0, width := 1, acc := .wo, stk := false, stby := false, load := .number, reset := 0, lo := 0, hi := 1 }
/-- XLT_WCOMMIT.TIMED, [1], WO (spec/11). -/
def fXLT_WCOMMIT_TIMED : Fld :=
  { addr := 0xb01000, lsb := 1, width := 1, acc := .wo, stk := false, stby := false, load := .number, reset := 0, lo := 0, hi := 1 }
/-- XLT_WCOMMIT.KEY, [31:24], WO (spec/11). -/
def fXLT_WCOMMIT_KEY : Fld :=
  { addr := 0xb01000, lsb := 24, width := 8, acc := .wo, stk := false, stby := false, load := .number, reset := 0, lo := 0, hi := 255 }
/-- XLT_WSTAT.BUSY, [0], RO (spec/11). -/
def fXLT_WSTAT_BUSY : Fld :=
  { addr := 0xb01100, lsb := 0, width := 1, acc := .ro, stk := false, stby := false, load := .number, reset := 0, lo := 0, hi := 1 }
/-- XLT_WSTAT.DRAIN, [1], RO (spec/11). -/
def fXLT_WSTAT_DRAIN : Fld :=
  { addr := 0xb01100, lsb := 1, width := 1, acc := .ro, stk := false, stby := false, load := .number, reset := 0, lo := 0, hi := 1 }
/-- XLT_WSTAT.PEND, [2], RO (spec/11). -/
def fXLT_WSTAT_PEND : Fld :=
  { addr := 0xb01100, lsb := 2, width := 1, acc := .ro, stk := false, stby := false, load := .number, reset := 0, lo := 0, hi := 1 }
/-- XLT_WSTAT.GEN, [3], RO (spec/11). -/
def fXLT_WSTAT_GEN : Fld :=
  { addr := 0xb01100, lsb := 3, width := 1, acc := .ro, stk := false, stby := false, load := .number, reset := 0, lo := 0, hi := 1 }
/-- XLT_WSTAT.OLDINFL, [23:4], RO (spec/11). -/
def fXLT_WSTAT_OLDINFL : Fld :=
  { addr := 0xb01100, lsb := 4, width := 20, acc := .ro, stk := false, stby := false, load := .number, reset := 0, lo := 0, hi := 0xfffff }
/-- XLT_HDMX.FAB, [0], RW (spec/11). -/
def fXLT_HDMX_FAB : Fld :=
  { addr := 0xb10000, lsb := 0, width := 1, acc := .rw, stk := false, stby := false, load := .image, reset := 0, lo := 0, hi := 1 }
/-- XLT_HDMX.FABBASE, [23:0], RW (spec/11). -/
def fXLT_HDMX_FABBASE : Fld :=
  { addr := 0xb10004, lsb := 0, width := 24, acc := .rw, stk := false, stby := false, load := .image, reset := 0, lo := 0, hi := 0xffffff }
/-- XLT_WINSH.WORD, [31:0], RW in XLT_WINSH; RO in XLT_WINACT (spec/11). -/
def fXLT_WINSH_WORD : Fld :=
  { addr := 0xb80000, lsb := 0, width := 32, acc := .rw, stk := false, stby := false, load := .image, reset := 0, lo := 0, hi := 0xffffffff }
/-- XLT_WINACT.WORD, [31:0], RW in XLT_WINSH; RO in XLT_WINACT (spec/11). -/
def fXLT_WINACT_WORD : Fld :=
  { addr := 0xbc0000, lsb := 0, width := 32, acc := .ro, stk := false, stby := false, load := .image, reset := 0, lo := 0, hi := 0xffffffff }
/-- CHK_CTL.PRECED, [0], RO (spec/12). -/
def fCHK_CTL_PRECED : Fld :=
  { addr := 0xd00000, lsb := 0, width := 1, acc := .ro, stk := false, stby := false, load := .number, reset := 0, lo := 0, hi := 1 }
/-- CHK_RSEL.GATE, [6:0], RW (spec/12). -/
def fCHK_RSEL_GATE : Fld :=
  { addr := 0xd00010, lsb := 0, width := 7, acc := .rw, stk := false, stby := false, load := .number, reset := 0, lo := 0, hi := 64 }
/-- CHK_RSEL.RULE, [18:7], RW (spec/12). -/
def fCHK_RSEL_RULE : Fld :=
  { addr := 0xd00010, lsb := 7, width := 12, acc := .rw, stk := false, stby := false, load := .number, reset := 0, lo := 0, hi := 4095 }
/-- CHK_RSEL.COPY, [19], RW (spec/12). -/
def fCHK_RSEL_COPY : Fld :=
  { addr := 0xd00010, lsb := 19, width := 1, acc := .rw, stk := false, stby := false, load := .number, reset := 0, lo := 0, hi := 1 }
/-- CHK_RDATA.DATA, [31:0], RW (spec/12). -/
def fCHK_RDATA_DATA : Fld :=
  { addr := 0xd00020, lsb := 0, width := 32, acc := .rw, stk := false, stby := false, load := .number, reset := 0, lo := 0, hi := 0xffffffff }
/-- CHK_SCLR.GATE, [6:0], WO (spec/12). -/
def fCHK_SCLR_GATE : Fld :=
  { addr := 0xd00040, lsb := 0, width := 7, acc := .wo, stk := false, stby := false, load := .number, reset := 0, lo := 0, hi := 64 }
/-- CHK_SCLR.KEY, [31:24], WO (spec/12). -/
def fCHK_SCLR_KEY : Fld :=
  { addr := 0xd00040, lsb := 24, width := 8, acc := .wo, stk := false, stby := false, load := .number, reset := 0, lo := 0, hi := 255 }
/-- CHK_CMASK.GATES, [31:0], RW (spec/12). -/
def fCHK_CMASK_GATES : Fld :=
  { addr := 0xd00050, lsb := 0, width := 32, acc := .rw, stk := false, stby := false, load := .number, reset := 0, lo := 0, hi := 0xffffffff }
/-- CHK_CMD.OP, [1:0], WO (spec/12). -/
def fCHK_CMD_OP : Fld :=
  { addr := 0xd00060, lsb := 0, width := 2, acc := .wo, stk := false, stby := false, load := .number, reset := 0, lo := 0, hi := 2 }
/-- CHK_CMD.TIMED, [2], WO (spec/12). -/
def fCHK_CMD_TIMED : Fld :=
  { addr := 0xd00060, lsb := 2, width := 1, acc := .wo, stk := false, stby := false, load := .number, reset := 0, lo := 0, hi := 1 }
/-- CHK_CMD.TAG, [7:4], WO (spec/12). -/
def fCHK_CMD_TAG : Fld :=
  { addr := 0xd00060, lsb := 4, width := 4, acc := .wo, stk := false, stby := false, load := .number, reset := 0, lo := 0, hi := 15 }
/-- CHK_CMD.KEY, [31:24], WO (spec/12). -/
def fCHK_CMD_KEY : Fld :=
  { addr := 0xd00060, lsb := 24, width := 8, acc := .wo, stk := false, stby := false, load := .number, reset := 0, lo := 0, hi := 255 }
/-- CHK_CTIME_NS.NS, [31:0], RW (spec/12). -/
def fCHK_CTIME_NS_NS : Fld :=
  { addr := 0xd00064, lsb := 0, width := 32, acc := .rw, stk := false, stby := false, load := .number, reset := 0, lo := 0, hi := 0xffffffff }
/-- CHK_CTIME_SECL.SECL, [31:0], RW (spec/12). -/
def fCHK_CTIME_SECL_SECL : Fld :=
  { addr := 0xd00068, lsb := 0, width := 32, acc := .rw, stk := false, stby := false, load := .number, reset := 0, lo := 0, hi := 0xffffffff }
/-- CHK_CTIME_SECH.SECH, [15:0], RW (spec/12). -/
def fCHK_CTIME_SECH_SECH : Fld :=
  { addr := 0xd0006c, lsb := 0, width := 16, acc := .rw, stk := false, stby := false, load := .number, reset := 0, lo := 0, hi := 0xffff }
/-- CHK_LOADSTAT.RESULT, [3:0], RO (spec/12). -/
def fCHK_LOADSTAT_RESULT : Fld :=
  { addr := 0xd00070, lsb := 0, width := 4, acc := .ro, stk := false, stby := false, load := .number, reset := 0, lo := 0, hi := 15 }
/-- CHK_LOADSTAT.BUSY, [4], RO (spec/12). -/
def fCHK_LOADSTAT_BUSY : Fld :=
  { addr := 0xd00070, lsb := 4, width := 1, acc := .ro, stk := false, stby := false, load := .number, reset := 0, lo := 0, hi := 1 }
/-- CHK_LOADSTAT.TAG, [8:5], RO (spec/12). -/
def fCHK_LOADSTAT_TAG : Fld :=
  { addr := 0xd00070, lsb := 5, width := 4, acc := .ro, stk := false, stby := false, load := .number, reset := 0, lo := 0, hi := 15 }
/-- CHK_LOADSTAT.PENDCNT, [13:9], RO (spec/12). -/
def fCHK_LOADSTAT_PENDCNT : Fld :=
  { addr := 0xd00070, lsb := 9, width := 5, acc := .ro, stk := false, stby := false, load := .number, reset := 0, lo := 0, hi := 31 }
/-- CHK_LOADERR.GATE, [6:0], RO (spec/12). -/
def fCHK_LOADERR_GATE : Fld :=
  { addr := 0xd00074, lsb := 0, width := 7, acc := .ro, stk := false, stby := false, load := .number, reset := 0, lo := 0, hi := 127 }
/-- CHK_LOADERR.RULEA, [18:7], RO (spec/12). -/
def fCHK_LOADERR_RULEA : Fld :=
  { addr := 0xd00074, lsb := 7, width := 12, acc := .ro, stk := false, stby := false, load := .number, reset := 0, lo := 0, hi := 4095 }
/-- CHK_LOADERR.RULEB, [30:19], RO (spec/12). -/
def fCHK_LOADERR_RULEB : Fld :=
  { addr := 0xd00074, lsb := 19, width := 12, acc := .ro, stk := false, stby := false, load := .number, reset := 0, lo := 0, hi := 4095 }
/-- CHK_DENY.GATE, [6:0], RO/STK (spec/12). -/
def fCHK_DENY_GATE : Fld :=
  { addr := 0xd00080, lsb := 0, width := 7, acc := .ro, stk := true, stby := false, load := .number, reset := 0, lo := 0, hi := 127 }
/-- CHK_DENY.RULE, [18:7], RO/STK (spec/12). -/
def fCHK_DENY_RULE : Fld :=
  { addr := 0xd00080, lsb := 7, width := 12, acc := .ro, stk := true, stby := false, load := .number, reset := 0, lo := 0, hi := 4095 }
/-- CHK_DENY.NORULE, [19], RO/STK (spec/12). -/
def fCHK_DENY_NORULE : Fld :=
  { addr := 0xd00080, lsb := 19, width := 1, acc := .ro, stk := true, stby := false, load := .number, reset := 0, lo := 0, hi := 1 }
/-- CHK_DENY.REASON, [22:20], RO/STK (spec/12). -/
def fCHK_DENY_REASON : Fld :=
  { addr := 0xd00080, lsb := 20, width := 3, acc := .ro, stk := true, stby := false, load := .number, reset := 0, lo := 0, hi := 7 }
/-- CHK_DENY.CLASS, [25:23], RO/STK (spec/12). -/
def fCHK_DENY_CLASS : Fld :=
  { addr := 0xd00080, lsb := 23, width := 3, acc := .ro, stk := true, stby := false, load := .number, reset := 0, lo := 0, hi := 7 }
/-- CHK_DENY.NODE, [29:26], RO/STK (spec/12). -/
def fCHK_DENY_NODE : Fld :=
  { addr := 0xd00080, lsb := 26, width := 4, acc := .ro, stk := true, stby := false, load := .number, reset := 0, lo := 0, hi := 15 }
/-- CHK_DENY.VALID, [31], W1C/STK (spec/12). -/
def fCHK_DENY_VALID : Fld :=
  { addr := 0xd00080, lsb := 31, width := 1, acc := .w1c, stk := true, stby := false, load := .number, reset := 0, lo := 0, hi := 1 }
/-- CHK_DENYADDR_L.ADDR_L, [31:0], RO/STK (spec/12). -/
def fCHK_DENYADDR_L_ADDR_L : Fld :=
  { addr := 0xd00084, lsb := 0, width := 32, acc := .ro, stk := true, stby := false, load := .number, reset := 0, lo := 0, hi := 0xffffffff }
/-- CHK_DENYADDR_H.ADDR_H, [31:0], RO/STK (spec/12). -/
def fCHK_DENYADDR_H_ADDR_H : Fld :=
  { addr := 0xd00088, lsb := 0, width := 32, acc := .ro, stk := true, stby := false, load := .number, reset := 0, lo := 0, hi := 0xffffffff }
/-- CHK_DENYID.PORT, [5:0], RO/STK (spec/12). -/
def fCHK_DENYID_PORT : Fld :=
  { addr := 0xd0008c, lsb := 0, width := 6, acc := .ro, stk := true, stby := false, load := .number, reset := 0, lo := 0, hi := 63 }
/-- CHK_DENYID.TENANT, [18:6], RO/STK (spec/12). -/
def fCHK_DENYID_TENANT : Fld :=
  { addr := 0xd0008c, lsb := 6, width := 13, acc := .ro, stk := true, stby := false, load := .number, reset := 0, lo := 0, hi := 0x1fff }
/-- CHK_ERR.DENY, [15:0], RC (spec/12). -/
def fCHK_ERR_DENY : Fld :=
  { addr := 0xd00090, lsb := 0, width := 16, acc := .rc, stk := false, stby := false, load := .number, reset := 0, lo := 0, hi := 0xffff }
/-- CHK_ERR.ECCCOR, [23:16], RC (spec/12). -/
def fCHK_ERR_ECCCOR : Fld :=
  { addr := 0xd00090, lsb := 16, width := 8, acc := .rc, stk := false, stby := false, load := .number, reset := 0, lo := 0, hi := 255 }
/-- CHK_ERR.GATEFLT, [30:24], RO/STK (spec/12). -/
def fCHK_ERR_GATEFLT : Fld :=
  { addr := 0xd00090, lsb := 24, width := 7, acc := .ro, stk := true, stby := false, load := .number, reset := 0, lo := 0, hi := 127 }
/-- CHK_ERR.FLTVALID, [31], W1C/STK (spec/12). -/
def fCHK_ERR_FLTVALID : Fld :=
  { addr := 0xd00090, lsb := 31, width := 1, acc := .w1c, stk := true, stby := false, load := .number, reset := 0, lo := 0, hi := 1 }
/-- CHK_DBGPTR.NEXT, [3:0], RO (spec/12). -/
def fCHK_DBGPTR_NEXT : Fld :=
  { addr := 0xd000fc, lsb := 0, width := 4, acc := .ro, stk := false, stby := false, load := .number, reset := 0, lo := 0, hi := 15 }
/-- CHK_DBGLOG.NS, [31:0], RO/STK (spec/12). -/
def fCHK_DBGLOG_NS : Fld :=
  { addr := 0xd00100, lsb := 0, width := 32, acc := .ro, stk := true, stby := false, load := .number, reset := 0, lo := 0, hi := 0xffffffff }
/-- CHK_DBGLOG.SECL, [31:0], RO/STK (spec/12). -/
def fCHK_DBGLOG_SECL : Fld :=
  { addr := 0xd00104, lsb := 0, width := 32, acc := .ro, stk := true, stby := false, load := .number, reset := 0, lo := 0, hi := 0xffffffff }
/-- CHK_DBGLOG.SECH, [15:0], RO/STK (spec/12). -/
def fCHK_DBGLOG_SECH : Fld :=
  { addr := 0xd00108, lsb := 0, width := 16, acc := .ro, stk := true, stby := false, load := .number, reset := 0, lo := 0, hi := 0xffff }
/-- CHK_DBGLOG.GATE, [22:16], RO/STK (spec/12). -/
def fCHK_DBGLOG_GATE : Fld :=
  { addr := 0xd00108, lsb := 16, width := 7, acc := .ro, stk := true, stby := false, load := .number, reset := 0, lo := 0, hi := 127 }
/-- CHK_DBGLOG.WRITE, [23], RO/STK (spec/12). -/
def fCHK_DBGLOG_WRITE : Fld :=
  { addr := 0xd00108, lsb := 23, width := 1, acc := .ro, stk := true, stby := false, load := .number, reset := 0, lo := 0, hi := 1 }
/-- CHK_DBGLOG.PATH, [24], RO/STK (spec/12). -/
def fCHK_DBGLOG_PATH : Fld :=
  { addr := 0xd00108, lsb := 24, width := 1, acc := .ro, stk := true, stby := false, load := .number, reset := 0, lo := 0, hi := 1 }
/-- CHK_DBGLOG.VALID, [31], RO/STK (spec/12). -/
def fCHK_DBGLOG_VALID : Fld :=
  { addr := 0xd00108, lsb := 31, width := 1, acc := .ro, stk := true, stby := false, load := .number, reset := 0, lo := 0, hi := 1 }
/-- CHK_DBGLOG.RULE, [11:0], RO/STK (spec/12). -/
def fCHK_DBGLOG_RULE : Fld :=
  { addr := 0xd0010c, lsb := 0, width := 12, acc := .ro, stk := true, stby := false, load := .number, reset := 0, lo := 0, hi := 4095 }
/-- CHK_DBGLOG.ADDR_L, [31:0], RO/STK (spec/12). -/
def fCHK_DBGLOG_ADDR_L : Fld :=
  { addr := 0xd00110, lsb := 0, width := 32, acc := .ro, stk := true, stby := false, load := .number, reset := 0, lo := 0, hi := 0xffffffff }
/-- CHK_DBGLOG.ADDR_H, [31:0], RO/STK (spec/12). -/
def fCHK_DBGLOG_ADDR_H : Fld :=
  { addr := 0xd00114, lsb := 0, width := 32, acc := .ro, stk := true, stby := false, load := .number, reset := 0, lo := 0, hi := 0xffffffff }
/-- CHK_GATE.MISS, [0], RO (spec/12). -/
def fCHK_GATE_MISS : Fld :=
  { addr := 0xd01000, lsb := 0, width := 1, acc := .ro, stk := false, stby := false, load := .image, reset := 1, lo := 0, hi := 1 }
/-- CHK_GATE.SMISS, [1], RW (spec/12). -/
def fCHK_GATE_SMISS : Fld :=
  { addr := 0xd01000, lsb := 1, width := 1, acc := .rw, stk := false, stby := false, load := .image, reset := 1, lo := 0, hi := 1 }
/-- CHK_GATE.NRULES, [12:0], RO (spec/12). -/
def fCHK_GATE_NRULES : Fld :=
  { addr := 0xd01004, lsb := 0, width := 13, acc := .ro, stk := false, stby := false, load := .image, reset := 0, lo := 0, hi := 0x1fff }
/-- CHK_GATE.EPOCH, [13], RO (spec/12). -/
def fCHK_GATE_EPOCH : Fld :=
  { addr := 0xd01004, lsb := 13, width := 1, acc := .ro, stk := false, stby := false, load := .number, reset := 0, lo := 0, hi := 1 }
/-- CHK_GATE.DRAIN, [14], RO (spec/12). -/
def fCHK_GATE_DRAIN : Fld :=
  { addr := 0xd01004, lsb := 14, width := 1, acc := .ro, stk := false, stby := false, load := .number, reset := 0, lo := 0, hi := 1 }
/-- CHK_GATE.PEND, [15], RO (spec/12). -/
def fCHK_GATE_PEND : Fld :=
  { addr := 0xd01004, lsb := 15, width := 1, acc := .ro, stk := false, stby := false, load := .number, reset := 0, lo := 0, hi := 1 }
/-- CHK_GATE.SBUSY, [16], RO (spec/12). -/
def fCHK_GATE_SBUSY : Fld :=
  { addr := 0xd01004, lsb := 16, width := 1, acc := .ro, stk := false, stby := false, load := .number, reset := 0, lo := 0, hi := 1 }
/-- CHK_GATE.FAILED, [17], RO (spec/12). -/
def fCHK_GATE_FAILED : Fld :=
  { addr := 0xd01004, lsb := 17, width := 1, acc := .ro, stk := false, stby := false, load := .number, reset := 0, lo := 0, hi := 1 }
/-- CHK_GATE.OLDINFL, [23:0], RO (spec/12). -/
def fCHK_GATE_OLDINFL : Fld :=
  { addr := 0xd01008, lsb := 0, width := 24, acc := .ro, stk := false, stby := false, load := .number, reset := 0, lo := 0, hi := 0xffffff }
/-- CHK_GATE.DENIES, [31:0], RC (spec/12). -/
def fCHK_GATE_DENIES : Fld :=
  { addr := 0xd0100c, lsb := 0, width := 32, acc := .rc, stk := false, stby := false, load := .number, reset := 0, lo := 0, hi := 0xffffffff }

end Sys2Proof.Machine
end

