-- ==== Sys2Proof/Machine/RegsD.lean ====
section
/-! DEFINITION. The fields of the registers of spec/{13, 14, 15, 16} (its register tables): address of instance 0, place of its bits, access
(R10), reset (R15, R510) and the range of its defined encodings (R14).  One definition per field, named
f<REGISTER>_<FIELD>; the register list of the window follows. -/

namespace Sys2Proof.Machine
/-- RUN_CTL.WCIDLE, [11:0], RW (spec/13). -/
def fRUN_CTL_WCIDLE : Fld :=
  { addr := 0xf00000, lsb := 0, width := 12, acc := .rw, stk := false, stby := false, load := .image, reset := 256, lo := 16, hi := 4095 }
/-- RUN_CTL.DEVEARLY, [12], RW (spec/13). -/
def fRUN_CTL_DEVEARLY : Fld :=
  { addr := 0xf00000, lsb := 12, width := 1, acc := .rw, stk := false, stby := false, load := .image, reset := 0, lo := 0, hi := 1 }
/-- RUN_CTL.RTO, [23:16], RW (spec/13). -/
def fRUN_CTL_RTO : Fld :=
  { addr := 0xf00000, lsb := 16, width := 8, acc := .rw, stk := false, stby := false, load := .image, reset := 10, lo := 1, hi := 255 }
/-- RUN_CTL.WCRING, [29:24], RW (spec/13). -/
def fRUN_CTL_WCRING : Fld :=
  { addr := 0xf00000, lsb := 24, width := 6, acc := .rw, stk := false, stby := false, load := .image, reset := 16, lo := 1, hi := 48 }
/-- RUN_ENABLE.EN, [31:0], RW (spec/13). -/
def fRUN_ENABLE_EN : Fld :=
  { addr := 0xf00004, lsb := 0, width := 32, acc := .rw, stk := false, stby := false, load := .image, reset := 0, lo := 0, hi := 0xffffffff }
/-- RUN_PAUSE.PAUSE, [31:0], RW (spec/13). -/
def fRUN_PAUSE_PAUSE : Fld :=
  { addr := 0xf00008, lsb := 0, width := 32, acc := .rw, stk := false, stby := false, load := .number, reset := 0, lo := 0, hi := 0xffffffff }
/-- RUN_ERR.WTO, [15:0], RC (spec/13). -/
def fRUN_ERR_WTO : Fld :=
  { addr := 0xf0000c, lsb := 0, width := 16, acc := .rc, stk := false, stby := false, load := .number, reset := 0, lo := 0, hi := 0xffff }
/-- RUN_ERR.BADDESC, [23:16], RC (spec/13). -/
def fRUN_ERR_BADDESC : Fld :=
  { addr := 0xf0000c, lsb := 16, width := 8, acc := .rc, stk := false, stby := false, load := .number, reset := 0, lo := 0, hi := 255 }
/-- RUN_ERR.FETCHERR, [31:24], RC (spec/13). -/
def fRUN_ERR_FETCHERR : Fld :=
  { addr := 0xf0000c, lsb := 24, width := 8, acc := .rc, stk := false, stby := false, load := .number, reset := 0, lo := 0, hi := 255 }
/-- RUN_DEAD.RING, [12:0], RO/STK (spec/13). -/
def fRUN_DEAD_RING : Fld :=
  { addr := 0xf00010, lsb := 0, width := 13, acc := .ro, stk := true, stby := false, load := .number, reset := 0, lo := 0, hi := 0x1fff }
/-- RUN_DEAD.ENGINE, [17:13], RO/STK (spec/13). -/
def fRUN_DEAD_ENGINE : Fld :=
  { addr := 0xf00010, lsb := 13, width := 5, acc := .ro, stk := true, stby := false, load := .number, reset := 0, lo := 0, hi := 31 }
/-- RUN_DEAD.SPACE, [19:18], RO/STK (spec/13). -/
def fRUN_DEAD_SPACE : Fld :=
  { addr := 0xf00010, lsb := 18, width := 2, acc := .ro, stk := true, stby := false, load := .number, reset := 0, lo := 0, hi := 3 }
/-- RUN_DEAD.VALID, [31], W1C/STK (spec/13). -/
def fRUN_DEAD_VALID : Fld :=
  { addr := 0xf00010, lsb := 31, width := 1, acc := .w1c, stk := true, stby := false, load := .number, reset := 0, lo := 0, hi := 1 }
/-- RUN_DEADADDR_L.ADDR_L, [31:0], RO/STK (spec/13). -/
def fRUN_DEADADDR_L_ADDR_L : Fld :=
  { addr := 0xf00014, lsb := 0, width := 32, acc := .ro, stk := true, stby := false, load := .number, reset := 0, lo := 0, hi := 0xffffffff }
/-- RUN_DEADADDR_H.ADDR_H, [31:0], RO/STK (spec/13). -/
def fRUN_DEADADDR_H_ADDR_H : Fld :=
  { addr := 0xf00018, lsb := 0, width := 32, acc := .ro, stk := true, stby := false, load := .number, reset := 0, lo := 0, hi := 0xffffffff }
/-- RUN_RSEL.RING, [12:0], RW (spec/13). -/
def fRUN_RSEL_RING : Fld :=
  { addr := 0xf00020, lsb := 0, width := 13, acc := .rw, stk := false, stby := false, load := .number, reset := 0, lo := 0, hi := 0x1fff }
/-- RUN_RCTX0.EN, [0], RW (spec/13). -/
def fRUN_RCTX0_EN : Fld :=
  { addr := 0xf00024, lsb := 0, width := 1, acc := .rw, stk := false, stby := false, load := .image, reset := 0, lo := 0, hi := 1 }
/-- RUN_RCTX0.OWNER, [13:1], RW (spec/13). -/
def fRUN_RCTX0_OWNER : Fld :=
  { addr := 0xf00024, lsb := 1, width := 13, acc := .rw, stk := false, stby := false, load := .image, reset := 0, lo := 0, hi := 0x1fff }
/-- RUN_RCTX0.SLOT, [17:14], RW (spec/13). -/
def fRUN_RCTX0_SLOT : Fld :=
  { addr := 0xf00024, lsb := 14, width := 4, acc := .rw, stk := false, stby := false, load := .image, reset := 0, lo := 0, hi := 15 }
/-- RUN_RCTX0.ENGINE, [22:18], RW (spec/13). -/
def fRUN_RCTX0_ENGINE : Fld :=
  { addr := 0xf00024, lsb := 18, width := 5, acc := .rw, stk := false, stby := false, load := .image, reset := 0, lo := 0, hi := 31 }
/-- RUN_RCTX0.WEIGHT, [26:23], RW (spec/13). -/
def fRUN_RCTX0_WEIGHT : Fld :=
  { addr := 0xf00024, lsb := 23, width := 4, acc := .rw, stk := false, stby := false, load := .image, reset := 1, lo := 1, hi := 15 }
/-- RUN_RCTX0.TC, [29:27], RW (spec/13). -/
def fRUN_RCTX0_TC : Fld :=
  { addr := 0xf00024, lsb := 27, width := 3, acc := .rw, stk := false, stby := false, load := .image, reset := 0, lo := 0, hi := 7 }
/-- RUN_RCTX1.STATE, [2:0], RO (spec/13). -/
def fRUN_RCTX1_STATE : Fld :=
  { addr := 0xf00028, lsb := 0, width := 3, acc := .ro, stk := false, stby := false, load := .number, reset := 0, lo := 0, hi := 7 }
/-- RUN_RCTX1.HEAD, [18:3], RO (spec/13). -/
def fRUN_RCTX1_HEAD : Fld :=
  { addr := 0xf00028, lsb := 3, width := 16, acc := .ro, stk := false, stby := false, load := .number, reset := 0, lo := 0, hi := 0xffff }
/-- RUN_RCTX2.DONE, [23:0], RO (spec/13). -/
def fRUN_RCTX2_DONE : Fld :=
  { addr := 0xf0002c, lsb := 0, width := 24, acc := .ro, stk := false, stby := false, load := .number, reset := 0, lo := 0, hi := 0xffffff }
/-- RUN_ENG.WCUSED, [5:0], RO (spec/13). -/
def fRUN_ENG_WCUSED : Fld :=
  { addr := 0xf00100, lsb := 0, width := 6, acc := .ro, stk := false, stby := false, load := .number, reset := 0, lo := 0, hi := 63 }
/-- RUN_ENG.READS, [14:6], RO (spec/13). -/
def fRUN_ENG_READS : Fld :=
  { addr := 0xf00100, lsb := 6, width := 9, acc := .ro, stk := false, stby := false, load := .number, reset := 0, lo := 0, hi := 511 }
/-- RUN_ENG.PAUSED, [15], RO (spec/13). -/
def fRUN_ENG_PAUSED : Fld :=
  { addr := 0xf00100, lsb := 15, width := 1, acc := .ro, stk := false, stby := false, load := .number, reset := 0, lo := 0, hi := 1 }
/-- RUN_ENG.RINGS, [29:16], RO (spec/13). -/
def fRUN_ENG_RINGS : Fld :=
  { addr := 0xf00100, lsb := 16, width := 14, acc := .ro, stk := false, stby := false, load := .number, reset := 0, lo := 0, hi := 0x3fff }
/-- VF_RING.TAIL, [15:0], RW (spec/13). -/
def fVF_RING_TAIL : Fld :=
  { addr := 0x2000000000, lsb := 0, width := 16, acc := .rw, stk := false, stby := false, load := .number, reset := 0, lo := 0, hi := 0xffff }
/-- VF_RING.CQHEAD, [15:0], RW (spec/13). -/
def fVF_RING_CQHEAD : Fld :=
  { addr := 0x2000000004, lsb := 0, width := 16, acc := .rw, stk := false, stby := false, load := .number, reset := 0, lo := 0, hi := 0xffff }
/-- VF_RING.RBASE_L, [31:12], RW (spec/13). -/
def fVF_RING_RBASE_L : Fld :=
  { addr := 0x2000000008, lsb := 12, width := 20, acc := .rw, stk := false, stby := false, load := .number, reset := 0, lo := 0, hi := 0xfffff }
/-- VF_RING.RBASE_H, [31:0], RW (spec/13). -/
def fVF_RING_RBASE_H : Fld :=
  { addr := 0x200000000c, lsb := 0, width := 32, acc := .rw, stk := false, stby := false, load := .number, reset := 0, lo := 0, hi := 0xffffffff }
/-- VF_RING.CQBASE_L, [31:12], RW (spec/13). -/
def fVF_RING_CQBASE_L : Fld :=
  { addr := 0x2000000010, lsb := 12, width := 20, acc := .rw, stk := false, stby := false, load := .number, reset := 0, lo := 0, hi := 0xfffff }
/-- VF_RING.CQBASE_H, [31:0], RW (spec/13). -/
def fVF_RING_CQBASE_H : Fld :=
  { addr := 0x2000000014, lsb := 0, width := 32, acc := .rw, stk := false, stby := false, load := .number, reset := 0, lo := 0, hi := 0xffffffff }
/-- VF_RING.RSIZE, [4:0], RW (spec/13). -/
def fVF_RING_RSIZE : Fld :=
  { addr := 0x2000000018, lsb := 0, width := 5, acc := .rw, stk := false, stby := false, load := .number, reset := 0, lo := 0, hi := 31 }
/-- VF_RING.CQSIZE, [9:5], RW (spec/13). -/
def fVF_RING_CQSIZE : Fld :=
  { addr := 0x2000000018, lsb := 5, width := 5, acc := .rw, stk := false, stby := false, load := .number, reset := 0, lo := 0, hi := 31 }
/-- VF_RING.VEC, [11:10], RW (spec/13). -/
def fVF_RING_VEC : Fld :=
  { addr := 0x2000000018, lsb := 10, width := 2, acc := .rw, stk := false, stby := false, load := .number, reset := 0, lo := 0, hi := 3 }
/-- VF_RING.STOPONERR, [12], RW (spec/13). -/
def fVF_RING_STOPONERR : Fld :=
  { addr := 0x2000000018, lsb := 12, width := 1, acc := .rw, stk := false, stby := false, load := .number, reset := 0, lo := 0, hi := 1 }
/-- VF_RING.EN, [0], RW (spec/13). -/
def fVF_RING_EN : Fld :=
  { addr := 0x200000001c, lsb := 0, width := 1, acc := .rw, stk := false, stby := false, load := .number, reset := 0, lo := 0, hi := 1 }
/-- VF_RING.RESUME, [1], WO (spec/13). -/
def fVF_RING_RESUME : Fld :=
  { addr := 0x200000001c, lsb := 1, width := 1, acc := .wo, stk := false, stby := false, load := .number, reset := 0, lo := 0, hi := 1 }
/-- VF_RING.STATE, [2:0], RO (spec/13). -/
def fVF_RING_STATE : Fld :=
  { addr := 0x2000000020, lsb := 0, width := 3, acc := .ro, stk := false, stby := false, load := .number, reset := 0, lo := 0, hi := 7 }
/-- VF_RING.HEAD, [18:3], RO (spec/13). -/
def fVF_RING_HEAD : Fld :=
  { addr := 0x2000000020, lsb := 3, width := 16, acc := .ro, stk := false, stby := false, load := .number, reset := 0, lo := 0, hi := 0xffff }
/-- VF_RING.DBERR, [19], W1C (spec/13). -/
def fVF_RING_DBERR : Fld :=
  { addr := 0x2000000020, lsb := 19, width := 1, acc := .w1c, stk := false, stby := false, load := .number, reset := 0, lo := 0, hi := 1 }
/-- VF_RING.CFGREJ, [20], W1C (spec/13). -/
def fVF_RING_CFGREJ : Fld :=
  { addr := 0x2000000020, lsb := 20, width := 1, acc := .w1c, stk := false, stby := false, load := .number, reset := 0, lo := 0, hi := 1 }
/-- VF_RING.PHASE, [21], RO (spec/13). -/
def fVF_RING_PHASE : Fld :=
  { addr := 0x2000000020, lsb := 21, width := 1, acc := .ro, stk := false, stby := false, load := .number, reset := 1, lo := 0, hi := 1 }
/-- VF_RING.LASTST, [7:0], RO (spec/13). -/
def fVF_RING_LASTST : Fld :=
  { addr := 0x2000000024, lsb := 0, width := 8, acc := .ro, stk := false, stby := false, load := .number, reset := 0, lo := 0, hi := 255 }
/-- VF_RING.LASTIDX, [23:8], RO (spec/13). -/
def fVF_RING_LASTIDX : Fld :=
  { addr := 0x2000000024, lsb := 8, width := 16, acc := .ro, stk := false, stby := false, load := .number, reset := 0, lo := 0, hi := 0xffff }
/-- WEIR_CTL.POLICE, [0], RW (spec/14). -/
def fWEIR_CTL_POLICE : Fld :=
  { addr := 0xe00000, lsb := 0, width := 1, acc := .rw, stk := false, stby := false, load := .image, reset := 0, lo := 0, hi := 1 }
/-- WEIR_CTL.YLVL, [23:8], RW (spec/14). -/
def fWEIR_CTL_YLVL : Fld :=
  { addr := 0xe00000, lsb := 8, width := 16, acc := .rw, stk := false, stby := false, load := .number, reset := 32, lo := 0, hi := 0xffff }
/-- WEIR_HELD.LISTS, [14:0], RO (spec/14). -/
def fWEIR_HELD_LISTS : Fld :=
  { addr := 0xe00004, lsb := 0, width := 15, acc := .ro, stk := false, stby := false, load := .number, reset := 0, lo := 0, hi := 0x7fff }
/-- WEIR_HELD.MAXLISTS, [31:16], RC (spec/14). -/
def fWEIR_HELD_MAXLISTS : Fld :=
  { addr := 0xe00004, lsb := 16, width := 16, acc := .rc, stk := false, stby := false, load := .number, reset := 0, lo := 0, hi := 0xffff }
/-- WEIR_ERR.HOLWAIT, [15:0], RC (spec/14). -/
def fWEIR_ERR_HOLWAIT : Fld :=
  { addr := 0xe00008, lsb := 0, width := 16, acc := .rc, stk := false, stby := false, load := .number, reset := 0, lo := 0, hi := 0xffff }
/-- WEIR_ERR.ECCCOR, [23:16], RC (spec/14). -/
def fWEIR_ERR_ECCCOR : Fld :=
  { addr := 0xe00008, lsb := 16, width := 8, acc := .rc, stk := false, stby := false, load := .number, reset := 0, lo := 0, hi := 255 }
/-- WEIR_ERR.SHFAULT, [24], W1C/STK (spec/14). -/
def fWEIR_ERR_SHFAULT : Fld :=
  { addr := 0xe00008, lsb := 24, width := 1, acc := .w1c, stk := true, stby := false, load := .number, reset := 0, lo := 0, hi := 1 }
/-- WEIR_ERR.ROTFAULT, [25], W1C/STK (spec/14). -/
def fWEIR_ERR_ROTFAULT : Fld :=
  { addr := 0xe00008, lsb := 25, width := 1, acc := .w1c, stk := true, stby := false, load := .number, reset := 0, lo := 0, hi := 1 }
/-- WEIR_TSEL.TENANT, [12:0], RW (spec/14). -/
def fWEIR_TSEL_TENANT : Fld :=
  { addr := 0xe00010, lsb := 0, width := 13, acc := .rw, stk := false, stby := false, load := .number, reset := 0, lo := 0, hi := 0x1fff }
/-- WEIR_TTOKC.TOKC, [31:0], RO (spec/14). -/
def fWEIR_TTOKC_TOKC : Fld :=
  { addr := 0xe00014, lsb := 0, width := 32, acc := .ro, stk := false, stby := false, load := .number, reset := 0, lo := 0, hi := 0xffffffff }
/-- WEIR_TTOKP.TOKP, [31:0], RO (spec/14). -/
def fWEIR_TTOKP_TOKP : Fld :=
  { addr := 0xe00018, lsb := 0, width := 32, acc := .ro, stk := false, stby := false, load := .number, reset := 0, lo := 0, hi := 0xffffffff }
/-- WEIR_THELD.HELD, [15:0], RO (spec/14). -/
def fWEIR_THELD_HELD : Fld :=
  { addr := 0xe0001c, lsb := 0, width := 16, acc := .ro, stk := false, stby := false, load := .number, reset := 0, lo := 0, hi := 0xffff }
/-- WEIR_EG.ROTEN, [0], RW (spec/14). -/
def fWEIR_EG_ROTEN : Fld :=
  { addr := 0xe02000, lsb := 0, width := 1, acc := .rw, stk := false, stby := false, load := .image, reset := 0, lo := 0, hi := 1 }
/-- WEIR_EG.GUARD, [1], RW (spec/14). -/
def fWEIR_EG_GUARD : Fld :=
  { addr := 0xe02000, lsb := 1, width := 1, acc := .rw, stk := false, stby := false, load := .number, reset := 1, lo := 0, hi := 1 }
/-- WEIR_EG.LENOVH, [15:8], RW (spec/14). -/
def fWEIR_EG_LENOVH : Fld :=
  { addr := 0xe02000, lsb := 8, width := 8, acc := .rw, stk := false, stby := false, load := .image, reset := 0, lo := 0, hi := 255 }
/-- WEIR_EG.ENTRY, [9:0], RO (spec/14). -/
def fWEIR_EG_ENTRY : Fld :=
  { addr := 0xe02004, lsb := 0, width := 10, acc := .ro, stk := false, stby := false, load := .number, reset := 0, lo := 0, hi := 1023 }
/-- WEIR_EG.ACTIVE, [10], RO (spec/14). -/
def fWEIR_EG_ACTIVE : Fld :=
  { addr := 0xe02004, lsb := 10, width := 1, acc := .ro, stk := false, stby := false, load := .number, reset := 0, lo := 0, hi := 1 }
/-- WEIR_EG.PEND, [11], RO (spec/14). -/
def fWEIR_EG_PEND : Fld :=
  { addr := 0xe02004, lsb := 11, width := 1, acc := .ro, stk := false, stby := false, load := .number, reset := 0, lo := 0, hi := 1 }
/-- WEIR_EG.RESULT, [15:12], RO (spec/14). -/
def fWEIR_EG_RESULT : Fld :=
  { addr := 0xe02004, lsb := 12, width := 4, acc := .ro, stk := false, stby := false, load := .number, reset := 0, lo := 0, hi := 15 }
/-- WEIR_EG.BASE_NS, [31:0], RW (spec/14). -/
def fWEIR_EG_BASE_NS : Fld :=
  { addr := 0xe02008, lsb := 0, width := 32, acc := .rw, stk := false, stby := false, load := .image, reset := 0, lo := 0, hi := 0xffffffff }
/-- WEIR_EG.BASE_SECL, [31:0], RW (spec/14). -/
def fWEIR_EG_BASE_SECL : Fld :=
  { addr := 0xe0200c, lsb := 0, width := 32, acc := .rw, stk := false, stby := false, load := .image, reset := 0, lo := 0, hi := 0xffffffff }
/-- WEIR_EG.BASE_SECH, [15:0], RW (spec/14). -/
def fWEIR_EG_BASE_SECH : Fld :=
  { addr := 0xe02010, lsb := 0, width := 16, acc := .rw, stk := false, stby := false, load := .image, reset := 0, lo := 0, hi := 0xffff }
/-- WEIR_EG.CYCLE, [19:0], RW (spec/14). -/
def fWEIR_EG_CYCLE : Fld :=
  { addr := 0xe02014, lsb := 0, width := 20, acc := .rw, stk := false, stby := false, load := .image, reset := 0, lo := 0, hi := 0xfffff }
/-- WEIR_EG.NENT, [10:0], RW (spec/14). -/
def fWEIR_EG_NENT : Fld :=
  { addr := 0xe02018, lsb := 0, width := 11, acc := .rw, stk := false, stby := false, load := .image, reset := 0, lo := 0, hi := 2047 }
/-- WEIR_EG.GO, [0], WO (spec/14). -/
def fWEIR_EG_GO : Fld :=
  { addr := 0xe0201c, lsb := 0, width := 1, acc := .wo, stk := false, stby := false, load := .number, reset := 0, lo := 0, hi := 1 }
/-- WEIR_EG.CANCEL, [1], WO (spec/14). -/
def fWEIR_EG_CANCEL : Fld :=
  { addr := 0xe0201c, lsb := 1, width := 1, acc := .wo, stk := false, stby := false, load := .number, reset := 0, lo := 0, hi := 1 }
/-- WEIR_EG.KEY, [31:24], WO (spec/14). -/
def fWEIR_EG_KEY : Fld :=
  { addr := 0xe0201c, lsb := 24, width := 8, acc := .wo, stk := false, stby := false, load := .number, reset := 0, lo := 0, hi := 255 }
/-- WEIR_EG.SP, [0], RW (spec/14). -/
def fWEIR_EG_SP : Fld :=
  { addr := 0xe02020, lsb := 0, width := 1, acc := .rw, stk := false, stby := false, load := .image, reset := 0, lo := 0, hi := 1 }
/-- WEIR_EG.PRIO, [3:1], RW (spec/14). -/
def fWEIR_EG_PRIO : Fld :=
  { addr := 0xe02020, lsb := 1, width := 3, acc := .rw, stk := false, stby := false, load := .image, reset := 0, lo := 0, hi := 7 }
/-- WEIR_EG.WEIGHT, [15:8], RW (spec/14). -/
def fWEIR_EG_WEIGHT : Fld :=
  { addr := 0xe02020, lsb := 8, width := 8, acc := .rw, stk := false, stby := false, load := .image, reset := 1, lo := 1, hi := 255 }
/-- WEIR_EG.ABASE_NS, [31:0], RO (spec/14). -/
def fWEIR_EG_ABASE_NS : Fld :=
  { addr := 0xe02040, lsb := 0, width := 32, acc := .ro, stk := false, stby := false, load := .image, reset := 0, lo := 0, hi := 0xffffffff }
/-- WEIR_EG.ABASE_SECL, [31:0], RO (spec/14). -/
def fWEIR_EG_ABASE_SECL : Fld :=
  { addr := 0xe02044, lsb := 0, width := 32, acc := .ro, stk := false, stby := false, load := .image, reset := 0, lo := 0, hi := 0xffffffff }
/-- WEIR_EG.ABASE_SECH, [15:0], RO (spec/14). -/
def fWEIR_EG_ABASE_SECH : Fld :=
  { addr := 0xe02048, lsb := 0, width := 16, acc := .ro, stk := false, stby := false, load := .image, reset := 0, lo := 0, hi := 0xffff }
/-- WEIR_EG.ACYCLE, [19:0], RO (spec/14). -/
def fWEIR_EG_ACYCLE : Fld :=
  { addr := 0xe0204c, lsb := 0, width := 20, acc := .ro, stk := false, stby := false, load := .image, reset := 0, lo := 0, hi := 0xfffff }
/-- WEIR_EG.ANENT, [10:0], RO (spec/14). -/
def fWEIR_EG_ANENT : Fld :=
  { addr := 0xe02050, lsb := 0, width := 11, acc := .ro, stk := false, stby := false, load := .image, reset := 0, lo := 0, hi := 2047 }
/-- WEIR_EG.CYCNUM, [31:0], RO (spec/14). -/
def fWEIR_EG_CYCNUM : Fld :=
  { addr := 0xe02054, lsb := 0, width := 32, acc := .ro, stk := false, stby := false, load := .number, reset := 0, lo := 0, hi := 0xffffffff }
/-- WEIR_PCSH.RATE, [21:0], RW (spec/14). -/
def fWEIR_PCSH_RATE : Fld :=
  { addr := 0xe05000, lsb := 0, width := 22, acc := .rw, stk := false, stby := false, load := .image, reset := 0, lo := 0, hi := 2048000 }
/-- WEIR_PCSH.BURST, [17:0], RW (spec/14). -/
def fWEIR_PCSH_BURST : Fld :=
  { addr := 0xe05004, lsb := 0, width := 18, acc := .rw, stk := false, stby := false, load := .image, reset := 0, lo := 0, hi := 0x3ffff }
/-- WEIR_TDEF.TENANT, [12:0], RW (spec/14). -/
def fWEIR_TDEF_TENANT : Fld :=
  { addr := 0xe07000, lsb := 0, width := 13, acc := .rw, stk := false, stby := false, load := .image, reset := 0, lo := 0, hi := 0x1fff }
/-- WEIR_TDEC.TENANT, [12:0], RW (spec/14). -/
def fWEIR_TDEC_TENANT : Fld :=
  { addr := 0xe07400, lsb := 0, width := 13, acc := .rw, stk := false, stby := false, load := .image, reset := 0, lo := 0, hi := 0x1fff }
/-- WEIR_TDEC.OVR, [13], RW (spec/14). -/
def fWEIR_TDEC_OVR : Fld :=
  { addr := 0xe07400, lsb := 13, width := 1, acc := .rw, stk := false, stby := false, load := .image, reset := 0, lo := 0, hi := 1 }
/-- WEIR_TWIN.TENANT, [12:0], RW (spec/14). -/
def fWEIR_TWIN_TENANT : Fld :=
  { addr := 0xe10000, lsb := 0, width := 13, acc := .rw, stk := false, stby := false, load := .image, reset := 0, lo := 0, hi := 0x1fff }
/-- WEIR_TWIN.OVR, [13], RW (spec/14). -/
def fWEIR_TWIN_OVR : Fld :=
  { addr := 0xe10000, lsb := 13, width := 1, acc := .rw, stk := false, stby := false, load := .image, reset := 0, lo := 0, hi := 1 }
/-- WEIR_TSH.CIR, [21:0], RW (spec/14). -/
def fWEIR_TSH_CIR : Fld :=
  { addr := 0xe20000, lsb := 0, width := 22, acc := .rw, stk := false, stby := false, load := .image, reset := 0, lo := 0, hi := 0x3fffff }
/-- WEIR_TSH.EN, [31], RW (spec/14). -/
def fWEIR_TSH_EN : Fld :=
  { addr := 0xe20000, lsb := 31, width := 1, acc := .rw, stk := false, stby := false, load := .image, reset := 0, lo := 0, hi := 1 }
/-- WEIR_TSH.PIR, [21:0], RW (spec/14). -/
def fWEIR_TSH_PIR : Fld :=
  { addr := 0xe20004, lsb := 0, width := 22, acc := .rw, stk := false, stby := false, load := .image, reset := 0, lo := 0, hi := 0x3fffff }
/-- WEIR_TSH.CBS, [17:0], RW (spec/14). -/
def fWEIR_TSH_CBS : Fld :=
  { addr := 0xe20008, lsb := 0, width := 18, acc := .rw, stk := false, stby := false, load := .image, reset := 0, lo := 0, hi := 0x3ffff }
/-- WEIR_TSH.PBS, [17:0], RW (spec/14). -/
def fWEIR_TSH_PBS : Fld :=
  { addr := 0xe2000c, lsb := 0, width := 18, acc := .rw, stk := false, stby := false, load := .image, reset := 0, lo := 0, hi := 0x3ffff }
/-- WEIR_ROTA.MASK, [7:0], RW in WEIR_ROTA; RO in WEIR_ROTO (spec/14). -/
def fWEIR_ROTA_MASK : Fld :=
  { addr := 0xe40000, lsb := 0, width := 8, acc := .rw, stk := false, stby := false, load := .image, reset := 0, lo := 0, hi := 255 }
/-- WEIR_ROTA.DUR, [31:8], RW in WEIR_ROTA; RO in WEIR_ROTO (spec/14). -/
def fWEIR_ROTA_DUR : Fld :=
  { addr := 0xe40000, lsb := 8, width := 24, acc := .rw, stk := false, stby := false, load := .image, reset := 0, lo := 0, hi := 0xffffff }
/-- WEIR_ROTO.MASK, [7:0], RW in WEIR_ROTA; RO in WEIR_ROTO (spec/14). -/
def fWEIR_ROTO_MASK : Fld :=
  { addr := 0xe90000, lsb := 0, width := 8, acc := .ro, stk := false, stby := false, load := .image, reset := 0, lo := 0, hi := 255 }
/-- WEIR_ROTO.DUR, [31:8], RW in WEIR_ROTA; RO in WEIR_ROTO (spec/14). -/
def fWEIR_ROTO_DUR : Fld :=
  { addr := 0xe90000, lsb := 8, width := 24, acc := .ro, stk := false, stby := false, load := .image, reset := 0, lo := 0, hi := 0xffffff }
/-- MSI-X table of a VF in BAR0, message address [31:0] (spec/06, log entry 99). -/
def fVF_MSIX_ADDR_L : Fld :=
  { addr := 0x1000000800, lsb := 0, width := 32, acc := .rw, stk := false, stby := false, load := .number, reset := 0, lo := 0, hi := 0xffffffff }
/-- MSI-X table of a VF, message address [63:32] (spec/06). -/
def fVF_MSIX_ADDR_H : Fld :=
  { addr := 0x1000000804, lsb := 0, width := 32, acc := .rw, stk := false, stby := false, load := .number, reset := 0, lo := 0, hi := 0xffffffff }
/-- MSI-X table of a VF, message data (spec/06). -/
def fVF_MSIX_DATA : Fld :=
  { addr := 0x1000000808, lsb := 0, width := 32, acc := .rw, stk := false, stby := false, load := .number, reset := 0, lo := 0, hi := 0xffffffff }
/-- MSI-X table of a VF, the mask bit of Vector Control (spec/06). -/
def fVF_MSIX_MASK : Fld :=
  { addr := 0x100000080c, lsb := 0, width := 1, acc := .rw, stk := false, stby := false, load := .number, reset := 1, lo := 0, hi := 1 }
/-- Pending bits of a VF (spec/06). -/
def fVF_PBA_PEND : Fld :=
  { addr := 0x1000000c00, lsb := 0, width := 4, acc := .ro, stk := false, stby := false, load := .number, reset := 0, lo := 0, hi := 15 }
/-- VF_MB.REQ, —, RW (spec/15). -/
def fVF_MB_REQ : Fld :=
  { addr := 0x1000000000, lsb := 0, width := 32, acc := .rw, stk := false, stby := false, load := .number, reset := 0, lo := 0, hi := 0xffffffff }
/-- VF_MB.RSP, —, RO (spec/15). -/
def fVF_MB_RSP : Fld :=
  { addr := 0x1000000100, lsb := 0, width := 32, acc := .ro, stk := false, stby := false, load := .number, reset := 0, lo := 0, hi := 0xffffffff }
/-- VF_MB.LEN, [8:0], WO (spec/15). -/
def fVF_MB_LEN : Fld :=
  { addr := 0x1000000200, lsb := 0, width := 9, acc := .wo, stk := false, stby := false, load := .number, reset := 0, lo := 0, hi := 511 }
/-- VF_MB.MSTATE, [1:0], RO (spec/15). -/
def fVF_MB_MSTATE : Fld :=
  { addr := 0x1000000204, lsb := 0, width := 2, acc := .ro, stk := false, stby := false, load := .number, reset := 0, lo := 0, hi := 3 }
/-- VF_MB.SEQ, [17:2], RO (spec/15). -/
def fVF_MB_SEQ : Fld :=
  { addr := 0x1000000204, lsb := 2, width := 16, acc := .ro, stk := false, stby := false, load := .number, reset := 0, lo := 0, hi := 0xffff }
/-- VF_MB.STATUS, [25:18], RO (spec/15). -/
def fVF_MB_STATUS : Fld :=
  { addr := 0x1000000204, lsb := 18, width := 8, acc := .ro, stk := false, stby := false, load := .number, reset := 0, lo := 0, hi := 255 }
/-- VF_MB.DBERR, [26], W1C (spec/15). -/
def fVF_MB_DBERR : Fld :=
  { addr := 0x1000000204, lsb := 26, width := 1, acc := .w1c, stk := false, stby := false, load := .number, reset := 0, lo := 0, hi := 1 }
/-- VF_MB.RSPLEN, [8:0], RO (spec/15). -/
def fVF_MB_RSPLEN : Fld :=
  { addr := 0x1000000208, lsb := 0, width := 9, acc := .ro, stk := false, stby := false, load := .number, reset := 0, lo := 0, hi := 511 }
/-- VF_MB.RVEC, [1:0], RW (spec/15). -/
def fVF_MB_RVEC : Fld :=
  { addr := 0x100000020c, lsb := 0, width := 2, acc := .rw, stk := false, stby := false, load := .number, reset := 0, lo := 0, hi := 3 }
/-- VF_MB.RIEN, [2], RW (spec/15). -/
def fVF_MB_RIEN : Fld :=
  { addr := 0x100000020c, lsb := 2, width := 1, acc := .rw, stk := false, stby := false, load := .number, reset := 0, lo := 0, hi := 1 }
/-- VF_MB.NVEC, [4:3], RW (spec/15). -/
def fVF_MB_NVEC : Fld :=
  { addr := 0x100000020c, lsb := 3, width := 2, acc := .rw, stk := false, stby := false, load := .number, reset := 0, lo := 0, hi := 3 }
/-- VF_MB.NIEN, [5], RW (spec/15). -/
def fVF_MB_NIEN : Fld :=
  { addr := 0x100000020c, lsb := 5, width := 1, acc := .rw, stk := false, stby := false, load := .number, reset := 0, lo := 0, hi := 1 }
/-- VF_MB.NOTICE, [15:0], W1C (spec/15). -/
def fVF_MB_NOTICE : Fld :=
  { addr := 0x1000000210, lsb := 0, width := 16, acc := .w1c, stk := false, stby := false, load := .number, reset := 0, lo := 0, hi := 0xffff }
/-- VF_MB.STATE, [2:0], RO (spec/15). -/
def fVF_MB_STATE : Fld :=
  { addr := 0x1000000214, lsb := 0, width := 3, acc := .ro, stk := false, stby := false, load := .number, reset := 0, lo := 0, hi := 7 }
/-- VF_MB.TI, [15:3], RO (spec/15). -/
def fVF_MB_TI : Fld :=
  { addr := 0x1000000214, lsb := 3, width := 13, acc := .ro, stk := false, stby := false, load := .number, reset := 0, lo := 0, hi := 0x1fff }
/-- VF_MB.NODE, [19:16], RO (spec/15). -/
def fVF_MB_NODE : Fld :=
  { addr := 0x1000000214, lsb := 16, width := 4, acc := .ro, stk := false, stby := false, load := .strap, reset := 0, lo := 0, hi := 15 }
/-- VF_MB.ACK, [0], WO (spec/15). -/
def fVF_MB_ACK : Fld :=
  { addr := 0x1000000218, lsb := 0, width := 1, acc := .wo, stk := false, stby := false, load := .number, reset := 0, lo := 0, hi := 1 }
/-- TEN_CTL.MBTO, [9:0], RW (spec/15). -/
def fTEN_CTL_MBTO : Fld :=
  { addr := 0x1000000, lsb := 0, width := 10, acc := .rw, stk := false, stby := false, load := .image, reset := 100, lo := 10, hi := 1000 }
/-- TEN_CTL.QTO, [19:10], RW (spec/15). -/
def fTEN_CTL_QTO : Fld :=
  { addr := 0x1000000, lsb := 10, width := 10, acc := .rw, stk := false, stby := false, load := .image, reset := 300, lo := 10, hi := 1000 }
/-- TEN_CTL.COAL, [27:20], RW (spec/15). -/
def fTEN_CTL_COAL : Fld :=
  { addr := 0x1000000, lsb := 20, width := 8, acc := .rw, stk := false, stby := false, load := .image, reset := 10, lo := 1, hi := 255 }
/-- TEN_SEL.TI, [12:0], RW (spec/15). -/
def fTEN_SEL_TI : Fld :=
  { addr := 0x1000004, lsb := 0, width := 13, acc := .rw, stk := false, stby := false, load := .number, reset := 0, lo := 0, hi := 0x1fff }
/-- TEN_TISTAT.STATE, [2:0], RO (spec/15). -/
def fTEN_TISTAT_STATE : Fld :=
  { addr := 0x1000008, lsb := 0, width := 3, acc := .ro, stk := false, stby := false, load := .number, reset := 0, lo := 0, hi := 7 }
/-- TEN_TISTAT.PORT, [8:3], RO (spec/15). -/
def fTEN_TISTAT_PORT : Fld :=
  { addr := 0x1000008, lsb := 3, width := 6, acc := .ro, stk := false, stby := false, load := .number, reset := 0, lo := 0, hi := 63 }
/-- TEN_TISTAT.FORCED, [9], RO (spec/15). -/
def fTEN_TISTAT_FORCED : Fld :=
  { addr := 0x1000008, lsb := 9, width := 1, acc := .ro, stk := false, stby := false, load := .number, reset := 0, lo := 0, hi := 1 }
/-- TEN_TISTAT.UNPLANNED, [10], W1C/STK (spec/15). -/
def fTEN_TISTAT_UNPLANNED : Fld :=
  { addr := 0x1000008, lsb := 10, width := 1, acc := .w1c, stk := true, stby := false, load := .number, reset := 0, lo := 0, hi := 1 }
/-- TEN_TISTAT.FAULT, [11], W1C/STK (spec/15). -/
def fTEN_TISTAT_FAULT : Fld :=
  { addr := 0x1000008, lsb := 11, width := 1, acc := .w1c, stk := true, stby := false, load := .number, reset := 0, lo := 0, hi := 1 }
/-- TEN_TICMD.OP, [1:0], WO (spec/15). -/
def fTEN_TICMD_OP : Fld :=
  { addr := 0x100000c, lsb := 0, width := 2, acc := .wo, stk := false, stby := false, load := .number, reset := 0, lo := 0, hi := 3 }
/-- TEN_TICMD.KEY, [31:24], WO (spec/15). -/
def fTEN_TICMD_KEY : Fld :=
  { addr := 0x100000c, lsb := 24, width := 8, acc := .wo, stk := false, stby := false, load := .number, reset := 0, lo := 0, hi := 255 }
/-- TEN_TIRES.RESULT, [3:0], RO (spec/15). -/
def fTEN_TIRES_RESULT : Fld :=
  { addr := 0x1000010, lsb := 0, width := 4, acc := .ro, stk := false, stby := false, load := .number, reset := 0, lo := 0, hi := 15 }
/-- TEN_RECOV.COUNT, [15:0], RC (spec/15). -/
def fTEN_RECOV_COUNT : Fld :=
  { addr := 0x1000014, lsb := 0, width := 16, acc := .rc, stk := false, stby := false, load := .number, reset := 0, lo := 0, hi := 0xffff }
/-- TEN_MBSTAT.MSTATE, [1:0], RO (spec/15). -/
def fTEN_MBSTAT_MSTATE : Fld :=
  { addr := 0x1000020, lsb := 0, width := 2, acc := .ro, stk := false, stby := false, load := .number, reset := 0, lo := 0, hi := 3 }
/-- TEN_MBSTAT.SEQ, [17:2], RO (spec/15). -/
def fTEN_MBSTAT_SEQ : Fld :=
  { addr := 0x1000020, lsb := 2, width := 16, acc := .ro, stk := false, stby := false, load := .number, reset := 0, lo := 0, hi := 0xffff }
/-- TEN_MBSTAT.REQLEN, [26:18], RO (spec/15). -/
def fTEN_MBSTAT_REQLEN : Fld :=
  { addr := 0x1000020, lsb := 18, width := 9, acc := .ro, stk := false, stby := false, load := .number, reset := 0, lo := 0, hi := 511 }
/-- TEN_MBRSPHDR.RSPLEN, [8:0], RW (spec/15). -/
def fTEN_MBRSPHDR_RSPLEN : Fld :=
  { addr := 0x1000024, lsb := 0, width := 9, acc := .rw, stk := false, stby := false, load := .number, reset := 0, lo := 0, hi := 256 }
/-- TEN_MBRSPHDR.STATUS, [23:16], RW (spec/15). -/
def fTEN_MBRSPHDR_STATUS : Fld :=
  { addr := 0x1000024, lsb := 16, width := 8, acc := .rw, stk := false, stby := false, load := .number, reset := 0, lo := 0, hi := 255 }
/-- TEN_MBCMD.SEQ, [15:0], WO (spec/15). -/
def fTEN_MBCMD_SEQ : Fld :=
  { addr := 0x1000028, lsb := 0, width := 16, acc := .wo, stk := false, stby := false, load := .number, reset := 0, lo := 0, hi := 0xffff }
/-- TEN_MBCMD.KEY, [31:24], WO (spec/15). -/
def fTEN_MBCMD_KEY : Fld :=
  { addr := 0x1000028, lsb := 24, width := 8, acc := .wo, stk := false, stby := false, load := .number, reset := 0, lo := 0, hi := 255 }
/-- TEN_NOTICE.BITS, [7:0], WO (spec/15). -/
def fTEN_NOTICE_BITS : Fld :=
  { addr := 0x100002c, lsb := 0, width := 8, acc := .wo, stk := false, stby := false, load := .number, reset := 0, lo := 0, hi := 255 }
/-- TEN_ERR.MBTO, [15:0], RC (spec/15). -/
def fTEN_ERR_MBTO : Fld :=
  { addr := 0x1000030, lsb := 0, width := 16, acc := .rc, stk := false, stby := false, load := .number, reset := 0, lo := 0, hi := 0xffff }
/-- TEN_ERR.STALE, [23:16], RC (spec/15). -/
def fTEN_ERR_STALE : Fld :=
  { addr := 0x1000030, lsb := 16, width := 8, acc := .rc, stk := false, stby := false, load := .number, reset := 0, lo := 0, hi := 255 }
/-- TEN_ERR.DBERR, [31:24], RC (spec/15). -/
def fTEN_ERR_DBERR : Fld :=
  { addr := 0x1000030, lsb := 24, width := 8, acc := .rc, stk := false, stby := false, load := .number, reset := 0, lo := 0, hi := 255 }
/-- TEN_PSUM.SUM, [31:0], RO (spec/15). -/
def fTEN_PSUM_SUM : Fld :=
  { addr := 0x1000040, lsb := 0, width := 32, acc := .ro, stk := false, stby := false, load := .number, reset := 0, lo := 0, hi := 0xffffffff }
/-- TEN_PEND.PEND, [31:0], RO (spec/15). -/
def fTEN_PEND_PEND : Fld :=
  { addr := 0x1000400, lsb := 0, width := 32, acc := .ro, stk := false, stby := false, load := .number, reset := 0, lo := 0, hi := 0xffffffff }
/-- TEN_LOGCTL.EN, [0], RW (spec/15). -/
def fTEN_LOGCTL_EN : Fld :=
  { addr := 0x1000060, lsb := 0, width := 1, acc := .rw, stk := false, stby := false, load := .number, reset := 0, lo := 0, hi := 1 }
/-- TEN_LOGCTL.LPORT, [6:1], RW (spec/15). -/
def fTEN_LOGCTL_LPORT : Fld :=
  { addr := 0x1000060, lsb := 1, width := 6, acc := .rw, stk := false, stby := false, load := .number, reset := 0, lo := 0, hi := 63 }
/-- TEN_LOG.LOGLO_L, [31:12], RW (spec/15). -/
def fTEN_LOG_LOGLO_L : Fld :=
  { addr := 0x1000064, lsb := 12, width := 20, acc := .rw, stk := false, stby := false, load := .number, reset := 0, lo := 0, hi := 0xfffff }
/-- TEN_LOG.LOGLO_H, [31:0], RW (spec/15). -/
def fTEN_LOG_LOGLO_H : Fld :=
  { addr := 0x1000068, lsb := 0, width := 32, acc := .rw, stk := false, stby := false, load := .number, reset := 0, lo := 0, hi := 0xffffffff }
/-- TEN_LOG.PAGES, [28:0], RW (spec/15). -/
def fTEN_LOG_PAGES : Fld :=
  { addr := 0x100006c, lsb := 0, width := 29, acc := .rw, stk := false, stby := false, load := .number, reset := 0, lo := 0, hi := 0x10000000 }
/-- TEN_LOG.B0_L, [31:12], RW (spec/15). -/
def fTEN_LOG_B0_L : Fld :=
  { addr := 0x1000070, lsb := 12, width := 20, acc := .rw, stk := false, stby := false, load := .number, reset := 0, lo := 0, hi := 0xfffff }
/-- TEN_LOG.B0_H, [31:0], RW (spec/15). -/
def fTEN_LOG_B0_H : Fld :=
  { addr := 0x1000074, lsb := 0, width := 32, acc := .rw, stk := false, stby := false, load := .number, reset := 0, lo := 0, hi := 0xffffffff }
/-- TEN_LOG.B1_L, [31:12], RW (spec/15). -/
def fTEN_LOG_B1_L : Fld :=
  { addr := 0x1000078, lsb := 12, width := 20, acc := .rw, stk := false, stby := false, load := .number, reset := 0, lo := 0, hi := 0xfffff }
/-- TEN_LOG.B1_H, [31:0], RW (spec/15). -/
def fTEN_LOG_B1_H : Fld :=
  { addr := 0x100007c, lsb := 0, width := 32, acc := .rw, stk := false, stby := false, load := .number, reset := 0, lo := 0, hi := 0xffffffff }
/-- TEN_LOGCMD.FLIP, [0], WO (spec/15). -/
def fTEN_LOGCMD_FLIP : Fld :=
  { addr := 0x1000080, lsb := 0, width := 1, acc := .wo, stk := false, stby := false, load := .number, reset := 0, lo := 0, hi := 1 }
/-- TEN_LOGCMD.KEY, [31:24], WO (spec/15). -/
def fTEN_LOGCMD_KEY : Fld :=
  { addr := 0x1000080, lsb := 24, width := 8, acc := .wo, stk := false, stby := false, load := .number, reset := 0, lo := 0, hi := 255 }
/-- TEN_LOGSTAT.BUF, [0], RO (spec/15). -/
def fTEN_LOGSTAT_BUF : Fld :=
  { addr := 0x1000084, lsb := 0, width := 1, acc := .ro, stk := false, stby := false, load := .number, reset := 0, lo := 0, hi := 1 }
/-- TEN_LOGSTAT.BUSY, [1], RO (spec/15). -/
def fTEN_LOGSTAT_BUSY : Fld :=
  { addr := 0x1000084, lsb := 1, width := 1, acc := .ro, stk := false, stby := false, load := .number, reset := 0, lo := 0, hi := 1 }
/-- TEN_LOGSTAT.OVF, [2], W1C (spec/15). -/
def fTEN_LOGSTAT_OVF : Fld :=
  { addr := 0x1000084, lsb := 2, width := 1, acc := .w1c, stk := false, stby := false, load := .number, reset := 0, lo := 0, hi := 1 }
/-- TEN_LOGSTAT.LERR, [3], W1C (spec/15). -/
def fTEN_LOGSTAT_LERR : Fld :=
  { addr := 0x1000084, lsb := 3, width := 1, acc := .w1c, stk := false, stby := false, load := .number, reset := 0, lo := 0, hi := 1 }
/-- TEN_LOGSTAT.LOST, [4], W1C/STK (spec/15). -/
def fTEN_LOGSTAT_LOST : Fld :=
  { addr := 0x1000084, lsb := 4, width := 1, acc := .w1c, stk := true, stby := false, load := .number, reset := 0, lo := 0, hi := 1 }
/-- TEN_CTXCMD.OP, [1:0], WO (spec/15). -/
def fTEN_CTXCMD_OP : Fld :=
  { addr := 0x1000090, lsb := 0, width := 2, acc := .wo, stk := false, stby := false, load := .number, reset := 0, lo := 0, hi := 2 }
/-- TEN_CTXCMD.KEY, [31:24], WO (spec/15). -/
def fTEN_CTXCMD_KEY : Fld :=
  { addr := 0x1000090, lsb := 24, width := 8, acc := .wo, stk := false, stby := false, load := .number, reset := 0, lo := 0, hi := 255 }
/-- TEN_CTXSTAT.RESULT, [3:0], RO (spec/15). -/
def fTEN_CTXSTAT_RESULT : Fld :=
  { addr := 0x1000094, lsb := 0, width := 4, acc := .ro, stk := false, stby := false, load := .number, reset := 0, lo := 0, hi := 15 }
/-- TEN_CTXSTAT.SKIP, [19:4], RO (spec/15). -/
def fTEN_CTXSTAT_SKIP : Fld :=
  { addr := 0x1000094, lsb := 4, width := 16, acc := .ro, stk := false, stby := false, load := .number, reset := 0, lo := 0, hi := 0xffff }
/-- TEN_CTX.DATA, [31:0], RW (spec/15). -/
def fTEN_CTX_DATA : Fld :=
  { addr := 0x1000800, lsb := 0, width := 32, acc := .rw, stk := false, stby := false, load := .undef, reset := 0, lo := 0, hi := 0xffffffff }
/-- TEN_RSPSTAGE.DATA, [31:0], RW (spec/15). -/
def fTEN_RSPSTAGE_DATA : Fld :=
  { addr := 0x1000200, lsb := 0, width := 32, acc := .rw, stk := false, stby := false, load := .undef, reset := 0, lo := 0, hi := 0xffffffff }
/-- ACQ_CTL.WDOG, [15:0], RW (spec/16). -/
def fACQ_CTL_WDOG : Fld :=
  { addr := 0x1100000, lsb := 0, width := 16, acc := .rw, stk := false, stby := false, load := .number, reset := 1000, lo := 100, hi := 0xffff }
/-- ACQ_CTL.DRAINMAX, [23:16], RW (spec/16). -/
def fACQ_CTL_DRAINMAX : Fld :=
  { addr := 0x1100000, lsb := 16, width := 8, acc := .rw, stk := false, stby := false, load := .number, reset := 10, lo := 1, hi := 255 }
/-- ACQ_CTL.WDOGEN, [24], RW (spec/16). -/
def fACQ_CTL_WDOGEN : Fld :=
  { addr := 0x1100000, lsb := 24, width := 1, acc := .rw, stk := false, stby := false, load := .number, reset := 1, lo := 0, hi := 1 }
/-- ACQ_ERR.ECCCOR, [15:0], RC (spec/16). -/
def fACQ_ERR_ECCCOR : Fld :=
  { addr := 0x1100004, lsb := 0, width := 16, acc := .rc, stk := false, stby := false, load := .number, reset := 0, lo := 0, hi := 0xffff }
/-- ACQ_ERR.HDRERR, [23:16], RC (spec/16). -/
def fACQ_ERR_HDRERR : Fld :=
  { addr := 0x1100004, lsb := 16, width := 8, acc := .rc, stk := false, stby := false, load := .number, reset := 0, lo := 0, hi := 255 }
/-- ACQ_ERR.PAYUNC, [30:24], RC (spec/16). -/
def fACQ_ERR_PAYUNC : Fld :=
  { addr := 0x1100004, lsb := 24, width := 7, acc := .rc, stk := false, stby := false, load := .number, reset := 0, lo := 0, hi := 127 }
/-- ACQ_ERR.WEDGE, [31], W1C/STK (spec/16). -/
def fACQ_ERR_WEDGE : Fld :=
  { addr := 0x1100004, lsb := 31, width := 1, acc := .w1c, stk := true, stby := false, load := .number, reset := 0, lo := 0, hi := 1 }
/-- ACQ_LASTERR.NODE, [5:0], RO/STK (spec/16). -/
def fACQ_LASTERR_NODE : Fld :=
  { addr := 0x1100008, lsb := 0, width := 6, acc := .ro, stk := true, stby := false, load := .number, reset := 0, lo := 0, hi := 63 }
/-- ACQ_LASTERR.PORT, [8:6], RO/STK (spec/16). -/
def fACQ_LASTERR_PORT : Fld :=
  { addr := 0x1100008, lsb := 6, width := 3, acc := .ro, stk := true, stby := false, load := .number, reset := 0, lo := 0, hi := 7 }
/-- ACQ_LASTERR.VC, [10:9], RO/STK (spec/16). -/
def fACQ_LASTERR_VC : Fld :=
  { addr := 0x1100008, lsb := 9, width := 2, acc := .ro, stk := true, stby := false, load := .number, reset := 0, lo := 0, hi := 3 }
/-- ACQ_LASTERR.KIND, [12:11], RO/STK (spec/16). -/
def fACQ_LASTERR_KIND : Fld :=
  { addr := 0x1100008, lsb := 11, width := 2, acc := .ro, stk := true, stby := false, load := .number, reset := 0, lo := 0, hi := 3 }
/-- ACQ_LASTERR.VALID, [31], W1C/STK (spec/16). -/
def fACQ_LASTERR_VALID : Fld :=
  { addr := 0x1100008, lsb := 31, width := 1, acc := .w1c, stk := true, stby := false, load := .number, reset := 0, lo := 0, hi := 1 }
/-- ACQ_DOMSEL.DOM, [6:0], RW (spec/16). -/
def fACQ_DOMSEL_DOM : Fld :=
  { addr := 0x1100010, lsb := 0, width := 7, acc := .rw, stk := false, stby := false, load := .number, reset := 8, lo := 8, hi := 83 }
/-- ACQ_DOMSTAT.STATE, [2:0], RO (spec/16). -/
def fACQ_DOMSTAT_STATE : Fld :=
  { addr := 0x1100014, lsb := 0, width := 3, acc := .ro, stk := false, stby := false, load := .image, reset := 2, lo := 0, hi := 7, runs := [(0, 8, 0)] }
/-- ACQ_DOMSTAT.DRAINTO, [3], W1C/STK (spec/16). -/
def fACQ_DOMSTAT_DRAINTO : Fld :=
  { addr := 0x1100014, lsb := 3, width := 1, acc := .w1c, stk := true, stby := false, load := .number, reset := 0, lo := 0, hi := 1 }
/-- ACQ_DOMSTAT.OFFREQ, [19:8], RC (spec/16). -/
def fACQ_DOMSTAT_OFFREQ : Fld :=
  { addr := 0x1100014, lsb := 8, width := 12, acc := .rc, stk := false, stby := false, load := .number, reset := 0, lo := 0, hi := 4095 }
/-- ACQ_DOMSTAT.ORPHAN, [31:20], RC (spec/16). -/
def fACQ_DOMSTAT_ORPHAN : Fld :=
  { addr := 0x1100014, lsb := 20, width := 12, acc := .rc, stk := false, stby := false, load := .number, reset := 0, lo := 0, hi := 4095 }
/-- ACQ_RSCTL.SNAP, [0], WO (spec/16). -/
def fACQ_RSCTL_SNAP : Fld :=
  { addr := 0x1100020, lsb := 0, width := 1, acc := .wo, stk := false, stby := false, load := .number, reset := 0, lo := 0, hi := 1 }
/-- ACQ_RSCTL.AUTO, [1], RW (spec/16). -/
def fACQ_RSCTL_AUTO : Fld :=
  { addr := 0x1100020, lsb := 1, width := 1, acc := .rw, stk := false, stby := false, load := .number, reset := 0, lo := 0, hi := 1 }
/-- ACQ_RSCTL.BANK, [2], RO (spec/16). -/
def fACQ_RSCTL_BANK : Fld :=
  { addr := 0x1100020, lsb := 2, width := 1, acc := .ro, stk := false, stby := false, load := .number, reset := 0, lo := 0, hi := 1 }
/-- ACQ_RSCTL.KEY, [31:24], WO (spec/16). -/
def fACQ_RSCTL_KEY : Fld :=
  { addr := 0x1100020, lsb := 24, width := 8, acc := .wo, stk := false, stby := false, load := .number, reset := 0, lo := 0, hi := 255 }
/-- ACQ_RSTIME_NS.NS, [31:0], RO (spec/16). -/
def fACQ_RSTIME_NS_NS : Fld :=
  { addr := 0x1100024, lsb := 0, width := 32, acc := .ro, stk := false, stby := false, load := .number, reset := 0, lo := 0, hi := 0xffffffff }
/-- ACQ_RSTIME_SECL.SECL, [31:0], RO (spec/16). -/
def fACQ_RSTIME_SECL_SECL : Fld :=
  { addr := 0x1100028, lsb := 0, width := 32, acc := .ro, stk := false, stby := false, load := .number, reset := 0, lo := 0, hi := 0xffffffff }
/-- ACQ_RSTIME_SECH.SECH, [15:0], RO (spec/16). -/
def fACQ_RSTIME_SECH_SECH : Fld :=
  { addr := 0x110002c, lsb := 0, width := 16, acc := .ro, stk := false, stby := false, load := .number, reset := 0, lo := 0, hi := 0xffff }
/-- ACQ_RSTIME_SECH.QUAL, [17:16], RO (spec/16). -/
def fACQ_RSTIME_SECH_QUAL : Fld :=
  { addr := 0x110002c, lsb := 16, width := 2, acc := .ro, stk := false, stby := false, load := .number, reset := 3, lo := 0, hi := 3 }
/-- ACQ_RSSEL.TENANT, [12:0], RW (spec/16). -/
def fACQ_RSSEL_TENANT : Fld :=
  { addr := 0x1100030, lsb := 0, width := 13, acc := .rw, stk := false, stby := false, load := .number, reset := 0, lo := 0, hi := 0x1fff }
/-- ACQ_RSDATA.DATA, [31:0], RO (spec/16). -/
def fACQ_RSDATA_DATA : Fld :=
  { addr := 0x1100040, lsb := 0, width := 32, acc := .ro, stk := false, stby := false, load := .number, reset := 0, lo := 0, hi := 0xffffffff }
/-- ACQ_PRB.EN, [0], RW (spec/16). -/
def fACQ_PRB_EN : Fld :=
  { addr := 0x1100100, lsb := 0, width := 1, acc := .rw, stk := false, stby := false, load := .number, reset := 0, lo := 0, hi := 1 }
/-- ACQ_PRB.NODE, [6:1], RW (spec/16). -/
def fACQ_PRB_NODE : Fld :=
  { addr := 0x1100100, lsb := 1, width := 6, acc := .rw, stk := false, stby := false, load := .number, reset := 0, lo := 0, hi := 63 }
/-- ACQ_PRB.PORT, [9:7], RW (spec/16). -/
def fACQ_PRB_PORT : Fld :=
  { addr := 0x1100100, lsb := 7, width := 3, acc := .rw, stk := false, stby := false, load := .number, reset := 0, lo := 0, hi := 7 }
/-- ACQ_PRB.DIR, [10], RW (spec/16). -/
def fACQ_PRB_DIR : Fld :=
  { addr := 0x1100100, lsb := 10, width := 1, acc := .rw, stk := false, stby := false, load := .number, reset := 0, lo := 0, hi := 1 }
/-- ACQ_PRB.CLASS, [12:11], RW (spec/16). -/
def fACQ_PRB_CLASS : Fld :=
  { addr := 0x1100100, lsb := 11, width := 2, acc := .rw, stk := false, stby := false, load := .number, reset := 3, lo := 0, hi := 3 }
/-- ACQ_PRB.VCMASK, [15:13], RW (spec/16). -/
def fACQ_PRB_VCMASK : Fld :=
  { addr := 0x1100100, lsb := 13, width := 3, acc := .rw, stk := false, stby := false, load := .number, reset := 7, lo := 0, hi := 7 }
/-- ACQ_PRB.ACTION, [17:16], RW (spec/16). -/
def fACQ_PRB_ACTION : Fld :=
  { addr := 0x1100100, lsb := 16, width := 2, acc := .rw, stk := false, stby := false, load := .number, reset := 1, lo := 1, hi := 3 }
/-- ACQ_PRB.WRAP, [18], RW (spec/16). -/
def fACQ_PRB_WRAP : Fld :=
  { addr := 0x1100100, lsb := 18, width := 1, acc := .rw, stk := false, stby := false, load := .number, reset := 0, lo := 0, hi := 1 }
/-- ACQ_PRB.SRCNODE, [5:0], RW (spec/16). -/
def fACQ_PRB_SRCNODE : Fld :=
  { addr := 0x1100104, lsb := 0, width := 6, acc := .rw, stk := false, stby := false, load := .number, reset := 0, lo := 0, hi := 63 }
/-- ACQ_PRB.SRCANY, [6], RW (spec/16). -/
def fACQ_PRB_SRCANY : Fld :=
  { addr := 0x1100104, lsb := 6, width := 1, acc := .rw, stk := false, stby := false, load := .number, reset := 1, lo := 0, hi := 1 }
/-- ACQ_PRB.DSTNODE, [12:7], RW (spec/16). -/
def fACQ_PRB_DSTNODE : Fld :=
  { addr := 0x1100104, lsb := 7, width := 6, acc := .rw, stk := false, stby := false, load := .number, reset := 0, lo := 0, hi := 63 }
/-- ACQ_PRB.DSTANY, [13], RW (spec/16). -/
def fACQ_PRB_DSTANY : Fld :=
  { addr := 0x1100104, lsb := 13, width := 1, acc := .rw, stk := false, stby := false, load := .number, reset := 1, lo := 0, hi := 1 }
/-- ACQ_PRB.TCMASK, [21:14], RW (spec/16). -/
def fACQ_PRB_TCMASK : Fld :=
  { addr := 0x1100104, lsb := 14, width := 8, acc := .rw, stk := false, stby := false, load := .number, reset := 255, lo := 0, hi := 255 }
/-- ACQ_PRB.TENANT, [12:0], RW (spec/16). -/
def fACQ_PRB_TENANT : Fld :=
  { addr := 0x1100108, lsb := 0, width := 13, acc := .rw, stk := false, stby := false, load := .number, reset := 0, lo := 0, hi := 0x1fff }
/-- ACQ_PRB.TENANY, [13], RW (spec/16). -/
def fACQ_PRB_TENANY : Fld :=
  { addr := 0x1100108, lsb := 13, width := 1, acc := .rw, stk := false, stby := false, load := .number, reset := 1, lo := 0, hi := 1 }
/-- ACQ_PRB.INITLO, [20:14], RW (spec/16). -/
def fACQ_PRB_INITLO : Fld :=
  { addr := 0x1100108, lsb := 14, width := 7, acc := .rw, stk := false, stby := false, load := .number, reset := 0, lo := 0, hi := 104 }
/-- ACQ_PRB.INITHI, [27:21], RW (spec/16). -/
def fACQ_PRB_INITHI : Fld :=
  { addr := 0x1100108, lsb := 21, width := 7, acc := .rw, stk := false, stby := false, load := .number, reset := 104, lo := 0, hi := 127 }
/-- ACQ_PRB.INITANY, [28], RW (spec/16). -/
def fACQ_PRB_INITANY : Fld :=
  { addr := 0x1100108, lsb := 28, width := 1, acc := .rw, stk := false, stby := false, load := .number, reset := 1, lo := 0, hi := 1 }
/-- ACQ_PRB.PKTS, [31:0], RC (spec/16). -/
def fACQ_PRB_PKTS : Fld :=
  { addr := 0x110010c, lsb := 0, width := 32, acc := .rc, stk := false, stby := false, load := .number, reset := 0, lo := 0, hi := 0xffffffff }
/-- ACQ_PRB.FLITS, [31:0], RC (spec/16). -/
def fACQ_PRB_FLITS : Fld :=
  { addr := 0x1100110, lsb := 0, width := 32, acc := .rc, stk := false, stby := false, load := .number, reset := 0, lo := 0, hi := 0xffffffff }
/-- ACQ_PRB.TBASE, [10:0], RW (spec/16). -/
def fACQ_PRB_TBASE : Fld :=
  { addr := 0x1100114, lsb := 0, width := 11, acc := .rw, stk := false, stby := false, load := .number, reset := 0, lo := 0, hi := 2047 }
/-- ACQ_PRB.TLEN, [23:12], RW (spec/16). -/
def fACQ_PRB_TLEN : Fld :=
  { addr := 0x1100114, lsb := 12, width := 12, acc := .rw, stk := false, stby := false, load := .number, reset := 0, lo := 0, hi := 2048 }
/-- ACQ_PRB.WPTR, [10:0], RO (spec/16). -/
def fACQ_PRB_WPTR : Fld :=
  { addr := 0x1100118, lsb := 0, width := 11, acc := .ro, stk := false, stby := false, load := .number, reset := 0, lo := 0, hi := 2047 }
/-- ACQ_PRB.FULL, [11], RO (spec/16). -/
def fACQ_PRB_FULL : Fld :=
  { addr := 0x1100118, lsb := 11, width := 1, acc := .ro, stk := false, stby := false, load := .number, reset := 0, lo := 0, hi := 1 }
/-- ACQ_TRACE.DATA, [31:0], RO (spec/16). -/
def fACQ_TRACE_DATA : Fld :=
  { addr := 0x1110000, lsb := 0, width := 32, acc := .ro, stk := false, stby := false, load := .number, reset := 0, lo := 0, hi := 0xffffffff }

end Sys2Proof.Machine
end

