-- ==== Sys2Proof/Machine/RegsE.lean ====
section
/-! DEFINITION. The fields of the registers of spec/{17, 18, 19, 20, 21} (its register tables): address of instance 0, place of its bits, access
(R10), reset (R15, R510) and the range of its defined encodings (R14).  One definition per field, named
f<REGISTER>_<FIELD>; the register list of the window follows. -/

namespace Sys2Proof.Machine
/-- SPW_CTL.ARMED, [0], RO (spec/17). -/
def fSPW_CTL_ARMED : Fld :=
  { addr := 0x1200000, lsb := 0, width := 1, acc := .ro, stk := false, stby := false, load := .number, reset := 0, lo := 0, hi := 1 }
/-- SPW_CTL.ZL25, [1], RO (spec/17). -/
def fSPW_CTL_ZL25 : Fld :=
  { addr := 0x1200000, lsb := 1, width := 1, acc := .ro, stk := false, stby := false, load := .number, reset := 0, lo := 0, hi := 1 }
/-- SPW_CTL.WTESTEN, [2], RW (spec/17). -/
def fSPW_CTL_WTESTEN : Fld :=
  { addr := 0x1200000, lsb := 2, width := 1, acc := .rw, stk := false, stby := false, load := .number, reset := 1, lo := 0, hi := 1 }
/-- SPW_CTL.PROMISE, [3], RO (spec/17). -/
def fSPW_CTL_PROMISE : Fld :=
  { addr := 0x1200000, lsb := 3, width := 1, acc := .ro, stk := false, stby := false, load := .number, reset := 0, lo := 0, hi := 1 }
/-- SPW_CTL.WTEST, [12:8], RW (spec/17). -/
def fSPW_CTL_WTEST : Fld :=
  { addr := 0x1200000, lsb := 8, width := 5, acc := .rw, stk := false, stby := false, load := .number, reset := 10, lo := 1, hi := 30 }
/-- SPW_CTL.RLIM, [19:16], RW (spec/17). -/
def fSPW_CTL_RLIM : Fld :=
  { addr := 0x1200000, lsb := 16, width := 4, acc := .rw, stk := false, stby := false, load := .number, reset := 8, lo := 1, hi := 15 }
/-- SPW_QUIET.MS, [15:0], RW (spec/17). -/
def fSPW_QUIET_MS : Fld :=
  { addr := 0x1200004, lsb := 0, width := 16, acc := .rw, stk := false, stby := false, load := .number, reset := 100, lo := 1, hi := 0xea60 }
/-- SPW_FLAPWIN.SEC, [15:0], RW (spec/17). -/
def fSPW_FLAPWIN_SEC : Fld :=
  { addr := 0x1200008, lsb := 0, width := 16, acc := .rw, stk := false, stby := false, load := .number, reset := 60, lo := 1, hi := 0xffff }
/-- SPW_NOTIF.COAL, [7:0], RW (spec/17). -/
def fSPW_NOTIF_COAL : Fld :=
  { addr := 0x120000c, lsb := 0, width := 8, acc := .rw, stk := false, stby := false, load := .number, reset := 10, lo := 1, hi := 255 }
/-- SPW_STATUS.STICKY, [10:0], RO (spec/17). -/
def fSPW_STATUS_STICKY : Fld :=
  { addr := 0x1200010, lsb := 0, width := 11, acc := .ro, stk := false, stby := false, load := .number, reset := 0, lo := 0, hi := 2047 }
/-- SPW_STATUS.HELD, [15:12], RO (spec/17). -/
def fSPW_STATUS_HELD : Fld :=
  { addr := 0x1200010, lsb := 12, width := 4, acc := .ro, stk := false, stby := false, load := .number, reset := 15, lo := 0, hi := 15 }
/-- SPW_STATUS.MISMATCH, [16], W1C/STK (spec/17). -/
def fSPW_STATUS_MISMATCH : Fld :=
  { addr := 0x1200010, lsb := 16, width := 1, acc := .w1c, stk := true, stby := false, load := .number, reset := 0, lo := 0, hi := 1 }
/-- SPW_INJ.SOURCE, [9:0], WO (spec/17). -/
def fSPW_INJ_SOURCE : Fld :=
  { addr := 0x1200014, lsb := 0, width := 10, acc := .wo, stk := false, stby := false, load := .number, reset := 0, lo := 0, hi := 1023 }
/-- SPW_INJ.KEY, [31:24], WO (spec/17). -/
def fSPW_INJ_KEY : Fld :=
  { addr := 0x1200014, lsb := 24, width := 8, acc := .wo, stk := false, stby := false, load := .number, reset := 0, lo := 0, hi := 255 }
/-- SPW_FIRST.SOURCE, [9:0], RO/STK (spec/17). -/
def fSPW_FIRST_SOURCE : Fld :=
  { addr := 0x1200020, lsb := 0, width := 10, acc := .ro, stk := true, stby := false, load := .number, reset := 0, lo := 0, hi := 1023 }
/-- SPW_FIRST.WIRE, [10], RO/STK (spec/17). -/
def fSPW_FIRST_WIRE : Fld :=
  { addr := 0x1200020, lsb := 10, width := 1, acc := .ro, stk := true, stby := false, load := .number, reset := 0, lo := 0, hi := 1 }
/-- SPW_FIRST.QUAL, [12:11], RO/STK (spec/17). -/
def fSPW_FIRST_QUAL : Fld :=
  { addr := 0x1200020, lsb := 11, width := 2, acc := .ro, stk := true, stby := false, load := .number, reset := 3, lo := 0, hi := 3 }
/-- SPW_FIRST.VALID, [31], W1C/STK (spec/17). -/
def fSPW_FIRST_VALID : Fld :=
  { addr := 0x1200020, lsb := 31, width := 1, acc := .w1c, stk := true, stby := false, load := .number, reset := 0, lo := 0, hi := 1 }
/-- SPW_FIRSTNS.NS, [31:0], RO/STK (spec/17). -/
def fSPW_FIRSTNS_NS : Fld :=
  { addr := 0x1200024, lsb := 0, width := 32, acc := .ro, stk := true, stby := false, load := .number, reset := 0, lo := 0, hi := 0xffffffff }
/-- SPW_FIRSTSECL.SECL, [31:0], RO/STK (spec/17). -/
def fSPW_FIRSTSECL_SECL : Fld :=
  { addr := 0x1200028, lsb := 0, width := 32, acc := .ro, stk := true, stby := false, load := .number, reset := 0, lo := 0, hi := 0xffffffff }
/-- SPW_FIRSTSECH.SECH, [15:0], RO/STK (spec/17). -/
def fSPW_FIRSTSECH_SECH : Fld :=
  { addr := 0x120002c, lsb := 0, width := 16, acc := .ro, stk := true, stby := false, load := .number, reset := 0, lo := 0, hi := 0xffff }
/-- SPW_LAST.SOURCE, [9:0], RO/STK (spec/17). -/
def fSPW_LAST_SOURCE : Fld :=
  { addr := 0x1200030, lsb := 0, width := 10, acc := .ro, stk := true, stby := false, load := .number, reset := 0, lo := 0, hi := 1023 }
/-- SPW_LAST.WIRE, [10], RO/STK (spec/17). -/
def fSPW_LAST_WIRE : Fld :=
  { addr := 0x1200030, lsb := 10, width := 1, acc := .ro, stk := true, stby := false, load := .number, reset := 0, lo := 0, hi := 1 }
/-- SPW_LAST.QUAL, [12:11], RO/STK (spec/17). -/
def fSPW_LAST_QUAL : Fld :=
  { addr := 0x1200030, lsb := 11, width := 2, acc := .ro, stk := true, stby := false, load := .number, reset := 3, lo := 0, hi := 3 }
/-- SPW_LAST.VALID, [31], W1C/STK (spec/17). -/
def fSPW_LAST_VALID : Fld :=
  { addr := 0x1200030, lsb := 31, width := 1, acc := .w1c, stk := true, stby := false, load := .number, reset := 0, lo := 0, hi := 1 }
/-- SPW_LASTNS.NS, [31:0], RO/STK (spec/17). -/
def fSPW_LASTNS_NS : Fld :=
  { addr := 0x1200034, lsb := 0, width := 32, acc := .ro, stk := true, stby := false, load := .number, reset := 0, lo := 0, hi := 0xffffffff }
/-- SPW_LASTSECL.SECL, [31:0], RO/STK (spec/17). -/
def fSPW_LASTSECL_SECL : Fld :=
  { addr := 0x1200038, lsb := 0, width := 32, acc := .ro, stk := true, stby := false, load := .number, reset := 0, lo := 0, hi := 0xffffffff }
/-- SPW_LASTSECH.SECH, [15:0], RO/STK (spec/17). -/
def fSPW_LASTSECH_SECH : Fld :=
  { addr := 0x120003c, lsb := 0, width := 16, acc := .ro, stk := true, stby := false, load := .number, reset := 0, lo := 0, hi := 0xffff }
/-- SPW_GSUM.STICKY, [15:0], RO (spec/17). -/
def fSPW_GSUM_STICKY : Fld :=
  { addr := 0x1200040, lsb := 0, width := 16, acc := .ro, stk := false, stby := false, load := .number, reset := 0, lo := 0, hi := 0xffff }
/-- SPW_GSUM.WIRE, [31:16], RO (spec/17). -/
def fSPW_GSUM_WIRE : Fld :=
  { addr := 0x1200040, lsb := 16, width := 16, acc := .ro, stk := false, stby := false, load := .number, reset := 0, lo := 0, hi := 0xffff }
/-- SPW_STK.STK, [31:0], W1C/STK (spec/17). -/
def fSPW_STK_STK : Fld :=
  { addr := 0x1200100, lsb := 0, width := 32, acc := .w1c, stk := true, stby := false, load := .number, reset := 0, lo := 0, hi := 0xffffffff }
/-- SPW_RAW.RAW, [31:0], RO (spec/17). -/
def fSPW_RAW_RAW : Fld :=
  { addr := 0x1200180, lsb := 0, width := 32, acc := .ro, stk := false, stby := false, load := .number, reset := 0, lo := 0, hi := 0xffffffff }
/-- SPW_MASK.MASK, [31:0], RW (spec/17). -/
def fSPW_MASK_MASK : Fld :=
  { addr := 0x1200200, lsb := 0, width := 32, acc := .rw, stk := false, stby := false, load := .image, reset := 0, lo := 0, hi := 0xffffffff }
/-- SPW_WFLT.WFLT, [31:0], W1C/STK (spec/17). -/
def fSPW_WFLT_WFLT : Fld :=
  { addr := 0x1200280, lsb := 0, width := 32, acc := .w1c, stk := true, stby := false, load := .number, reset := 0, lo := 0, hi := 0xffffffff }
/-- The default reactions of R389, as runs of source numbers; every other source has LOG. -/
def reactRuns : List (Nat × Nat × Nat) :=
  [(0x0, 0xc0, 1), (0xc0, 0x108, 4), (0x108, 0x118, 1), (0x118, 0x120, 2), (0x120, 0x168, 1), (0x170, 0x174, 2),
   (0x180, 0x181, 1), (0x181, 0x182, 9), (0x182, 0x188, 2), (0x188, 0x18a, 1), (0x190, 0x195, 1), (0x1a0, 0x1a1, 1),
   (0x1a1, 0x1a3, 2), (0x1b0, 0x1b4, 1), (0x1b4, 0x1b5, 2), (0x1b8, 0x1b9, 1), (0x1b9, 0x1ba, 2), (0x1c1, 0x1c2, 1),
   (0x1c2, 0x1c3, 2), (0x1c9, 0x1ca, 1), (0x1ca, 0x1cb, 2), (0x1d1, 0x1d2, 1), (0x1d9, 0x1da, 1), (0x1db, 0x1dd, 1),
   (0x1e0, 0x1e2, 1), (0x1e2, 0x1e3, 8), (0x1e8, 0x1ea, 1), (0x1f0, 0x1f2, 1), (0x1f9, 0x1fa, 2), (0x1fa, 0x1fc, 1),
   (0x200, 0x220, 1), (0x220, 0x240, 2), (0x240, 0x248, 1), (0x3e0, 0x3e1, 2), (0x3f0, 0x400, 1)]

/-- SPW_RCT.REACT, [3:0], RW (spec/17): an image field whose default R389 gives for each source. -/
def fSPW_RCT_REACT : Fld :=
  { addr := 0x1201000, lsb := 0, width := 4, acc := .rw, stk := false, stby := false, load := .image, reset := 0, lo := 0, hi := 9, runs := reactRuns }
/-- SPW_RCT.NOREC, [4], RW (spec/17). -/
def fSPW_RCT_NOREC : Fld :=
  { addr := 0x1201000, lsb := 4, width := 1, acc := .rw, stk := false, stby := false, load := .image, reset := 0, lo := 0, hi := 1 }
/-- SPW_RCT.SINGLE, [5], RO/STK (spec/17). -/
def fSPW_RCT_SINGLE : Fld :=
  { addr := 0x1201000, lsb := 5, width := 1, acc := .ro, stk := true, stby := false, load := .number, reset := 0, lo := 0, hi := 1 }
/-- SPW_RCT.RAIL, [6], RO/STK (spec/17). -/
def fSPW_RCT_RAIL : Fld :=
  { addr := 0x1201000, lsb := 6, width := 1, acc := .ro, stk := true, stby := false, load := .number, reset := 0, lo := 0, hi := 1 }
/-- SPW_RCT.INJ, [7], RO (spec/17). -/
def fSPW_RCT_INJ : Fld :=
  { addr := 0x1201000, lsb := 7, width := 1, acc := .ro, stk := false, stby := false, load := .number, reset := 0, lo := 0, hi := 1 }
/-- SPW_RCT.STATE, [10:8], RO (spec/17). -/
def fSPW_RCT_STATE : Fld :=
  { addr := 0x1201000, lsb := 8, width := 3, acc := .ro, stk := false, stby := false, load := .number, reset := 0, lo := 0, hi := 7 }
/-- SPW_RCT.FLAP, [15:12], RO (spec/17). -/
def fSPW_RCT_FLAP : Fld :=
  { addr := 0x1201000, lsb := 12, width := 4, acc := .ro, stk := false, stby := false, load := .number, reset := 0, lo := 0, hi := 15 }
/-- SPW_RCT.RCNT, [31:16], RO/STK (spec/17). -/
def fSPW_RCT_RCNT : Fld :=
  { addr := 0x1201000, lsb := 16, width := 16, acc := .ro, stk := true, stby := false, load := .number, reset := 0, lo := 0, hi := 0xffff }
/-- SPW_CPLTO.US, [15:0], RW (spec/17). -/
def fSPW_CPLTO_US : Fld :=
  { addr := 0x1202000, lsb := 0, width := 16, acc := .rw, stk := false, stby := false, load := .image, reset := 0x2710, lo := 50, hi := 0xfa00 }
/-- SLU_CTL.MAXRAMP, [2:0], RW (spec/18). -/
def fSLU_CTL_MAXRAMP : Fld :=
  { addr := 0x1300000, lsb := 0, width := 3, acc := .rw, stk := false, stby := false, load := .number, reset := 2, lo := 1, hi := 7 }
/-- SLU_CTL.REFTRIM, [3], RO (spec/18). -/
def fSLU_CTL_REFTRIM : Fld :=
  { addr := 0x1300000, lsb := 3, width := 1, acc := .ro, stk := false, stby := false, load := .number, reset := 0, lo := 0, hi := 1 }
/-- SLU_CTL.FEEDRET, [31:16], RW (spec/18). -/
def fSLU_CTL_FEEDRET : Fld :=
  { addr := 0x1300000, lsb := 16, width := 16, acc := .rw, stk := false, stby := false, load := .number, reset := 1000, lo := 1, hi := 0xffff }
/-- SLU_FEED.FSFS, [15:0], RW (spec/18). -/
def fSLU_FEED_FSFS : Fld :=
  { addr := 0x1300100, lsb := 0, width := 16, acc := .rw, stk := false, stby := false, load := .image, reset := 0x3a98, lo := 0, hi := 0xffff }
/-- SLU_FEED.UV, [15:0], RW (spec/18). -/
def fSLU_FEED_UV : Fld :=
  { addr := 0x1300104, lsb := 0, width := 16, acc := .rw, stk := false, stby := false, load := .image, reset := 0x2a30, lo := 0, hi := 0xffff }
/-- SLU_FEED.OV, [31:16], RW (spec/18). -/
def fSLU_FEED_OV : Fld :=
  { addr := 0x1300104, lsb := 16, width := 16, acc := .rw, stk := false, stby := false, load := .image, reset := 0x3390, lo := 0, hi := 0xffff }
/-- SLU_FEED.VA, [15:0], RO (spec/18). -/
def fSLU_FEED_VA : Fld :=
  { addr := 0x1300108, lsb := 0, width := 16, acc := .ro, stk := false, stby := false, load := .number, reset := 0, lo := 0, hi := 0xffff }
/-- SLU_FEED.VB, [31:16], RO (spec/18). -/
def fSLU_FEED_VB : Fld :=
  { addr := 0x1300108, lsb := 16, width := 16, acc := .ro, stk := false, stby := false, load := .number, reset := 0, lo := 0, hi := 0xffff }
/-- SLU_FEED.AGOOD, [0], RO (spec/18). -/
def fSLU_FEED_AGOOD : Fld :=
  { addr := 0x130010c, lsb := 0, width := 1, acc := .ro, stk := false, stby := false, load := .number, reset := 0, lo := 0, hi := 1 }
/-- SLU_FEED.BGOOD, [1], RO (spec/18). -/
def fSLU_FEED_BGOOD : Fld :=
  { addr := 0x130010c, lsb := 1, width := 1, acc := .ro, stk := false, stby := false, load := .number, reset := 0, lo := 0, hi := 1 }
/-- SLU_CFG.EN, [0], RW (spec/18). -/
def fSLU_CFG_EN : Fld :=
  { addr := 0x1301000, lsb := 0, width := 1, acc := .rw, stk := false, stby := false, load := .image, reset := 0, lo := 0, hi := 1 }
/-- SLU_CFG.AUTO, [1], RW (spec/18). -/
def fSLU_CFG_AUTO : Fld :=
  { addr := 0x1301000, lsb := 1, width := 1, acc := .rw, stk := false, stby := false, load := .image, reset := 0, lo := 0, hi := 1 }
/-- SLU_CFG.PRIO, [2], RW (spec/18). -/
def fSLU_CFG_PRIO : Fld :=
  { addr := 0x1301000, lsb := 2, width := 1, acc := .rw, stk := false, stby := false, load := .image, reset := 0, lo := 0, hi := 1 }
/-- SLU_CFG.FEEDS, [4:3], RW (spec/18). -/
def fSLU_CFG_FEEDS : Fld :=
  { addr := 0x1301000, lsb := 3, width := 2, acc := .rw, stk := false, stby := false, load := .image, reset := 3, lo := 1, hi := 3 }
/-- SLU_VNOM.VNOM, [15:0], RW (spec/18). -/
def fSLU_VNOM_VNOM : Fld :=
  { addr := 0x1301004, lsb := 0, width := 16, acc := .rw, stk := false, stby := false, load := .image, reset := 0x2ee0, lo := 0, hi := 0xffff }
/-- SLU_VNOM.VFS, [31:16], RW (spec/18). -/
def fSLU_VNOM_VFS : Fld :=
  { addr := 0x1301004, lsb := 16, width := 16, acc := .rw, stk := false, stby := false, load := .image, reset := 0x3a98, lo := 0, hi := 0xffff }
/-- SLU_RATED.RATED, [15:0], RW (spec/18). -/
def fSLU_RATED_RATED : Fld :=
  { addr := 0x1301008, lsb := 0, width := 16, acc := .rw, stk := false, stby := false, load := .image, reset := 0x1388, lo := 0, hi := 0xffff }
/-- SLU_RATED.ISFS, [31:16], RW (spec/18). -/
def fSLU_RATED_ISFS : Fld :=
  { addr := 0x1301008, lsb := 16, width := 16, acc := .rw, stk := false, stby := false, load := .image, reset := 0x4e20, lo := 0, hi := 0xffff }
/-- SLU_TRIPCFG.FTMULT, [5:0], RW (spec/18). -/
def fSLU_TRIPCFG_FTMULT : Fld :=
  { addr := 0x130100c, lsb := 0, width := 6, acc := .rw, stk := false, stby := false, load := .number, reset := 12, lo := 4, hi := 63 }
/-- SLU_PGCFG.PGLO, [6:0], RW (spec/18). -/
def fSLU_PGCFG_PGLO : Fld :=
  { addr := 0x1301010, lsb := 0, width := 7, acc := .rw, stk := false, stby := false, load := .number, reset := 90, lo := 50, hi := 99 }
/-- SLU_PGCFG.PGOV, [14:8], RW (spec/18). -/
def fSLU_PGCFG_PGOV : Fld :=
  { addr := 0x1301010, lsb := 8, width := 7, acc := .rw, stk := false, stby := false, load := .number, reset := 115, lo := 101, hi := 127 }
/-- SLU_PGCFG.PRESDB, [23:16], RW (spec/18). -/
def fSLU_PGCFG_PRESDB : Fld :=
  { addr := 0x1301010, lsb := 16, width := 8, acc := .rw, stk := false, stby := false, load := .number, reset := 50, lo := 1, hi := 255 }
/-- SLU_PGCFG.RAMPMAX, [31:24], RW (spec/18). -/
def fSLU_PGCFG_RAMPMAX : Fld :=
  { addr := 0x1301010, lsb := 24, width := 8, acc := .rw, stk := false, stby := false, load := .number, reset := 100, lo := 1, hi := 255 }
/-- SLU_SLOW0.LEVEL, [7:0], RW (spec/18). -/
def fSLU_SLOW0_LEVEL : Fld :=
  { addr := 0x1301020, lsb := 0, width := 8, acc := .rw, stk := false, stby := false, load := .number, reset := 20, lo := 0, hi := 255 }
/-- SLU_SLOW0.TIME, [31:8], RW (spec/18). -/
def fSLU_SLOW0_TIME : Fld :=
  { addr := 0x1301020, lsb := 8, width := 24, acc := .rw, stk := false, stby := false, load := .number, reset := 0xf4240, lo := 1, hi := 0xffffff }
/-- SLU_SLOW1.LEVEL, [7:0], RW (spec/18). -/
def fSLU_SLOW1_LEVEL : Fld :=
  { addr := 0x1301024, lsb := 0, width := 8, acc := .rw, stk := false, stby := false, load := .number, reset := 24, lo := 0, hi := 255 }
/-- SLU_SLOW1.TIME, [31:8], RW (spec/18). -/
def fSLU_SLOW1_TIME : Fld :=
  { addr := 0x1301024, lsb := 8, width := 24, acc := .rw, stk := false, stby := false, load := .number, reset := 0x186a0, lo := 1, hi := 0xffffff }
/-- SLU_SLOW2.LEVEL, [7:0], RW (spec/18). -/
def fSLU_SLOW2_LEVEL : Fld :=
  { addr := 0x1301028, lsb := 0, width := 8, acc := .rw, stk := false, stby := false, load := .number, reset := 32, lo := 0, hi := 255 }
/-- SLU_SLOW2.TIME, [31:8], RW (spec/18). -/
def fSLU_SLOW2_TIME : Fld :=
  { addr := 0x1301028, lsb := 8, width := 24, acc := .rw, stk := false, stby := false, load := .number, reset := 0x2710, lo := 1, hi := 0xffffff }
/-- SLU_SLOW3.LEVEL, [7:0], RW (spec/18). -/
def fSLU_SLOW3_LEVEL : Fld :=
  { addr := 0x130102c, lsb := 0, width := 8, acc := .rw, stk := false, stby := false, load := .number, reset := 40, lo := 0, hi := 255 }
/-- SLU_SLOW3.TIME, [31:8], RW (spec/18). -/
def fSLU_SLOW3_TIME : Fld :=
  { addr := 0x130102c, lsb := 8, width := 24, acc := .rw, stk := false, stby := false, load := .number, reset := 1000, lo := 1, hi := 0xffffff }
/-- SLU_CURVE.RATE, [15:0], RW (spec/18). -/
def fSLU_CURVE_RATE : Fld :=
  { addr := 0x1301040, lsb := 0, width := 16, acc := .rw, stk := false, stby := false, load := .image, reset := 1000, lo := 1, hi := 0xffff }
/-- SLU_CMD.OP, [2:0], WO (spec/18). -/
def fSLU_CMD_OP : Fld :=
  { addr := 0x1301080, lsb := 0, width := 3, acc := .wo, stk := false, stby := false, load := .number, reset := 0, lo := 0, hi := 4 }
/-- SLU_CMD.KEY, [31:24], WO (spec/18). -/
def fSLU_CMD_KEY : Fld :=
  { addr := 0x1301080, lsb := 24, width := 8, acc := .wo, stk := false, stby := false, load := .number, reset := 0, lo := 0, hi := 255 }
/-- SLU_STAT.STATE, [3:0], RO (spec/18). -/
def fSLU_STAT_STATE : Fld :=
  { addr := 0x1301084, lsb := 0, width := 4, acc := .ro, stk := false, stby := false, load := .number, reset := 0, lo := 0, hi := 15 }
/-- SLU_STAT.FEED, [5:4], RO (spec/18). -/
def fSLU_STAT_FEED : Fld :=
  { addr := 0x1301084, lsb := 4, width := 2, acc := .ro, stk := false, stby := false, load := .number, reset := 0, lo := 0, hi := 3 }
/-- SLU_STAT.PG, [6], RO (spec/18). -/
def fSLU_STAT_PG : Fld :=
  { addr := 0x1301084, lsb := 6, width := 1, acc := .ro, stk := false, stby := false, load := .number, reset := 0, lo := 0, hi := 1 }
/-- SLU_STAT.PRES, [7], RO (spec/18). -/
def fSLU_STAT_PRES : Fld :=
  { addr := 0x1301084, lsb := 7, width := 1, acc := .ro, stk := false, stby := false, load := .number, reset := 0, lo := 0, hi := 1 }
/-- SLU_STAT.CAUSE, [11:8], RO/STK (spec/18). -/
def fSLU_STAT_CAUSE : Fld :=
  { addr := 0x1301084, lsb := 8, width := 4, acc := .ro, stk := true, stby := false, load := .number, reset := 0, lo := 0, hi := 15 }
/-- SLU_STAT.CAUSEK, [13:12], RO/STK (spec/18). -/
def fSLU_STAT_CAUSEK : Fld :=
  { addr := 0x1301084, lsb := 12, width := 2, acc := .ro, stk := true, stby := false, load := .number, reset := 0, lo := 0, hi := 3 }
/-- SLU_STAT.FTIMER, [14], RO (spec/18). -/
def fSLU_STAT_FTIMER : Fld :=
  { addr := 0x1301084, lsb := 14, width := 1, acc := .ro, stk := false, stby := false, load := .number, reset := 0, lo := 0, hi := 1 }
/-- SLU_STAT.SEG, [18:15], RO (spec/18). -/
def fSLU_STAT_SEG : Fld :=
  { addr := 0x1301084, lsb := 15, width := 4, acc := .ro, stk := false, stby := false, load := .number, reset := 0, lo := 0, hi := 15 }
/-- SLU_STAT.WAITRAMP, [19], RO (spec/18). -/
def fSLU_STAT_WAITRAMP : Fld :=
  { addr := 0x1301084, lsb := 19, width := 1, acc := .ro, stk := false, stby := false, load := .number, reset := 0, lo := 0, hi := 1 }
/-- SLU_STAT.NOFEED, [20], RO (spec/18). -/
def fSLU_STAT_NOFEED : Fld :=
  { addr := 0x1301084, lsb := 20, width := 1, acc := .ro, stk := false, stby := false, load := .number, reset := 0, lo := 0, hi := 1 }
/-- SLU_MEAS.VOUT, [15:0], RO (spec/18). -/
def fSLU_MEAS_VOUT : Fld :=
  { addr := 0x1301088, lsb := 0, width := 16, acc := .ro, stk := false, stby := false, load := .number, reset := 0, lo := 0, hi := 0xffff }
/-- SLU_MEAS.IMEAS, [31:16], RO (spec/18). -/
def fSLU_MEAS_IMEAS : Fld :=
  { addr := 0x1301088, lsb := 16, width := 16, acc := .ro, stk := false, stby := false, load := .number, reset := 0, lo := 0, hi := 0xffff }
/-- SLU_MEAS2.VIN, [15:0], RO (spec/18). -/
def fSLU_MEAS2_VIN : Fld :=
  { addr := 0x130108c, lsb := 0, width := 16, acc := .ro, stk := false, stby := false, load := .number, reset := 0, lo := 0, hi := 0xffff }
/-- SLU_MEAS2.IPEAK, [31:16], RC (spec/18). -/
def fSLU_MEAS2_IPEAK : Fld :=
  { addr := 0x130108c, lsb := 16, width := 16, acc := .rc, stk := false, stby := false, load := .number, reset := 0, lo := 0, hi := 0xffff }
/-- SLU_ERR.TRIPS, [7:0], RC (spec/18). -/
def fSLU_ERR_TRIPS : Fld :=
  { addr := 0x1301090, lsb := 0, width := 8, acc := .rc, stk := false, stby := false, load := .number, reset := 0, lo := 0, hi := 255 }
/-- SLU_ERR.SWITCHES, [15:8], RC (spec/18). -/
def fSLU_ERR_SWITCHES : Fld :=
  { addr := 0x1301090, lsb := 8, width := 8, acc := .rc, stk := false, stby := false, load := .number, reset := 0, lo := 0, hi := 255 }
/-- SLU_ERR.ISO, [16], W1C/STK (spec/18). -/
def fSLU_ERR_ISO : Fld :=
  { addr := 0x1301090, lsb := 16, width := 1, acc := .w1c, stk := true, stby := false, load := .number, reset := 0, lo := 0, hi := 1 }
/-- FLM_CTL.EPSEC, [11:0], RW (spec/19). -/
def fFLM_CTL_EPSEC : Fld :=
  { addr := 0x1400000, lsb := 0, width := 12, acc := .rw, stk := false, stby := false, load := .number, reset := 1, lo := 1, hi := 3600 }
/-- FLM_CTL.LATEMS, [31:16], RW (spec/19). -/
def fFLM_CTL_LATEMS : Fld :=
  { addr := 0x1400000, lsb := 16, width := 16, acc := .rw, stk := false, stby := false, load := .number, reset := 100, lo := 1, hi := 0xffff }
/-- FLM_STAT.BANKBUSY, [1:0], RO (spec/19). -/
def fFLM_STAT_BANKBUSY : Fld :=
  { addr := 0x1400004, lsb := 0, width := 2, acc := .ro, stk := false, stby := false, load := .number, reset := 0, lo := 0, hi := 3 }
/-- FLM_STAT.LASTRES0, [3:2], RO (spec/19). -/
def fFLM_STAT_LASTRES0 : Fld :=
  { addr := 0x1400004, lsb := 2, width := 2, acc := .ro, stk := false, stby := false, load := .number, reset := 0, lo := 0, hi := 3 }
/-- FLM_STAT.LASTRES1, [5:4], RO (spec/19). -/
def fFLM_STAT_LASTRES1 : Fld :=
  { addr := 0x1400004, lsb := 4, width := 2, acc := .ro, stk := false, stby := false, load := .number, reset := 0, lo := 0, hi := 3 }
/-- FLM_SNAPSEQ_L.SEQ_L, [31:0], RO (spec/19). -/
def fFLM_SNAPSEQ_L_SEQ_L : Fld :=
  { addr := 0x1400008, lsb := 0, width := 32, acc := .ro, stk := false, stby := false, load := .number, reset := 0, lo := 0, hi := 0xffffffff }
/-- FLM_SNAPSEQ_H.SEQ_H, [31:0], RO (spec/19). -/
def fFLM_SNAPSEQ_H_SEQ_H : Fld :=
  { addr := 0x140000c, lsb := 0, width := 32, acc := .ro, stk := false, stby := false, load := .number, reset := 0, lo := 0, hi := 0xffffffff }
/-- FLM_SKIP.SKIPPED, [31:0], RO (spec/19). -/
def fFLM_SKIP_SKIPPED : Fld :=
  { addr := 0x1400010, lsb := 0, width := 32, acc := .ro, stk := false, stby := false, load := .number, reset := 0, lo := 0, hi := 0xffffffff }
/-- FLM_ERR.WRFAIL, [7:0], RC (spec/19). -/
def fFLM_ERR_WRFAIL : Fld :=
  { addr := 0x1400014, lsb := 0, width := 8, acc := .rc, stk := false, stby := false, load := .number, reset := 0, lo := 0, hi := 255 }
/-- FLM_ERR.LATE, [15:8], RC (spec/19). -/
def fFLM_ERR_LATE : Fld :=
  { addr := 0x1400014, lsb := 8, width := 8, acc := .rc, stk := false, stby := false, load := .number, reset := 0, lo := 0, hi := 255 }
/-- FLM_ERR.UNCID, [31:18], RO/STK (spec/19). -/
def fFLM_ERR_UNCID : Fld :=
  { addr := 0x1400014, lsb := 18, width := 14, acc := .ro, stk := true, stby := false, load := .number, reset := 0, lo := 0, hi := 0x3fff }
/-- FLM_SNAP.SNAP, [0], WO (spec/19). -/
def fFLM_SNAP_SNAP : Fld :=
  { addr := 0x1400018, lsb := 0, width := 1, acc := .wo, stk := false, stby := false, load := .number, reset := 0, lo := 0, hi := 1 }
/-- FLM_SNAP.KEY, [31:24], WO (spec/19). -/
def fFLM_SNAP_KEY : Fld :=
  { addr := 0x1400018, lsb := 24, width := 8, acc := .wo, stk := false, stby := false, load := .number, reset := 0, lo := 0, hi := 255 }
/-- FLM_ZERO.ID, [13:0], WO (spec/19). -/
def fFLM_ZERO_ID : Fld :=
  { addr := 0x140001c, lsb := 0, width := 14, acc := .wo, stk := false, stby := false, load := .number, reset := 0, lo := 0, hi := 12287 }
/-- FLM_ZERO.KEY, [31:24], WO (spec/19). -/
def fFLM_ZERO_KEY : Fld :=
  { addr := 0x140001c, lsb := 24, width := 8, acc := .wo, stk := false, stby := false, load := .number, reset := 0, lo := 0, hi := 255 }
/-- FLM_ECCCNT.ECCCOR, [15:0], RC (spec/19). -/
def fFLM_ECCCNT_ECCCOR : Fld :=
  { addr := 0x1400020, lsb := 0, width := 16, acc := .rc, stk := false, stby := false, load := .number, reset := 0, lo := 0, hi := 0xffff }
/-- FLM_RING.EN, [0], RW (spec/19). -/
def fFLM_RING_EN : Fld :=
  { addr := 0x1400040, lsb := 0, width := 1, acc := .rw, stk := false, stby := false, load := .image, reset := 0, lo := 0, hi := 1 }
/-- FLM_RING.SPACE, [1], RW (spec/19). -/
def fFLM_RING_SPACE : Fld :=
  { addr := 0x1400040, lsb := 1, width := 1, acc := .rw, stk := false, stby := false, load := .image, reset := 0, lo := 0, hi := 1 }
/-- FLM_RING.PORT, [7:2], RW (spec/19). -/
def fFLM_RING_PORT : Fld :=
  { addr := 0x1400040, lsb := 2, width := 6, acc := .rw, stk := false, stby := false, load := .image, reset := 0, lo := 0, hi := 63 }
/-- FLM_RING.SLOTS, [11:8], RW (spec/19). -/
def fFLM_RING_SLOTS : Fld :=
  { addr := 0x1400040, lsb := 8, width := 4, acc := .rw, stk := false, stby := false, load := .image, reset := 0, lo := 0, hi := 10 }
/-- FLM_RING.BASE_L, [31:12], RW (spec/19). -/
def fFLM_RING_BASE_L : Fld :=
  { addr := 0x1400044, lsb := 12, width := 20, acc := .rw, stk := false, stby := false, load := .image, reset := 0, lo := 0, hi := 0xfffff }
/-- FLM_RING.BASE_H, [31:0], RW (spec/19). -/
def fFLM_RING_BASE_H : Fld :=
  { addr := 0x1400048, lsb := 0, width := 32, acc := .rw, stk := false, stby := false, load := .image, reset := 0, lo := 0, hi := 0xffffffff }
/-- FLM_RING.RINGSEQ_L, [31:0], RO (spec/19). -/
def fFLM_RING_RINGSEQ_L : Fld :=
  { addr := 0x140004c, lsb := 0, width := 32, acc := .ro, stk := false, stby := false, load := .number, reset := 0, lo := 0, hi := 0xffffffff }
/-- FLM_RING.RINGSEQ_H, [31:0], RO (spec/19). -/
def fFLM_RING_RINGSEQ_H : Fld :=
  { addr := 0x1400050, lsb := 0, width := 32, acc := .ro, stk := false, stby := false, load := .number, reset := 0, lo := 0, hi := 0xffffffff }
/-- FLM_RING.LASTOK_L, [31:0], RO (spec/19). -/
def fFLM_RING_LASTOK_L : Fld :=
  { addr := 0x1400054, lsb := 0, width := 32, acc := .ro, stk := false, stby := false, load := .number, reset := 0, lo := 0, hi := 0xffffffff }
/-- FLM_CNTSEL.ID, [13:0], RW (spec/19). -/
def fFLM_CNTSEL_ID : Fld :=
  { addr := 0x1400100, lsb := 0, width := 14, acc := .rw, stk := false, stby := false, load := .number, reset := 0, lo := 0, hi := 0x3fff }
/-- FLM_CNT_L.LIVE_L, [31:0], RO (spec/19). -/
def fFLM_CNT_L_LIVE_L : Fld :=
  { addr := 0x1400104, lsb := 0, width := 32, acc := .ro, stk := false, stby := false, load := .number, reset := 0, lo := 0, hi := 0xffffffff }
/-- FLM_CNT_H.LIVE_H, [31:0], RO (spec/19). -/
def fFLM_CNT_H_LIVE_H : Fld :=
  { addr := 0x1400108, lsb := 0, width := 32, acc := .ro, stk := false, stby := false, load := .number, reset := 0, lo := 0, hi := 0xffffffff }
/-- FLM_SNP_L.SNAP_L, [31:0], RO (spec/19). -/
def fFLM_SNP_L_SNAP_L : Fld :=
  { addr := 0x140010c, lsb := 0, width := 32, acc := .ro, stk := false, stby := false, load := .number, reset := 0, lo := 0, hi := 0xffffffff }
/-- FLM_SNP_H.SNAP_H, [31:0], RO (spec/19). -/
def fFLM_SNP_H_SNAP_H : Fld :=
  { addr := 0x1400110, lsb := 0, width := 32, acc := .ro, stk := false, stby := false, load := .number, reset := 0, lo := 0, hi := 0xffffffff }
/-- FLM_TVIS.VIS, [31:0], RW (spec/19). -/
def fFLM_TVIS_VIS : Fld :=
  { addr := 0x1400400, lsb := 0, width := 32, acc := .rw, stk := false, stby := false, load := .image, reset := 0, lo := 0, hi := 0xffffffff }
/-- FLM_TDPEND.PEND, [31:0], RO (spec/19). -/
def fFLM_TDPEND_PEND : Fld :=
  { addr := 0x1400800, lsb := 0, width := 32, acc := .ro, stk := false, stby := false, load := .number, reset := 0, lo := 0, hi := 0xffffffff }
/-- FLM_EVT.EN, [0], RW (spec/19). -/
def fFLM_EVT_EN : Fld :=
  { addr := 0x1410000, lsb := 0, width := 1, acc := .rw, stk := false, stby := false, load := .image, reset := 0, lo := 0, hi := 1 }
/-- FLM_EVT.EVT, [8:1], RW (spec/19). -/
def fFLM_EVT_EVT : Fld :=
  { addr := 0x1410000, lsb := 1, width := 8, acc := .rw, stk := false, stby := false, load := .image, reset := 1, lo := 0, hi := 255 }
/-- FLM_EVT.UNIT, [10:9], RW (spec/19). -/
def fFLM_EVT_UNIT : Fld :=
  { addr := 0x1410000, lsb := 9, width := 2, acc := .rw, stk := false, stby := false, load := .image, reset := 0, lo := 0, hi := 2 }
/-- FLM_EVT.FEN, [11], RW (spec/19). -/
def fFLM_EVT_FEN : Fld :=
  { addr := 0x1410000, lsb := 11, width := 1, acc := .rw, stk := false, stby := false, load := .image, reset := 0, lo := 0, hi := 1 }
/-- FLM_EVT.FSEL, [19:12], RW (spec/19). -/
def fFLM_EVT_FSEL : Fld :=
  { addr := 0x1410000, lsb := 12, width := 8, acc := .rw, stk := false, stby := false, load := .image, reset := 0, lo := 0, hi := 255 }
/-- FLM_EVT.PARAM, [29:20], RW (spec/19). -/
def fFLM_EVT_PARAM : Fld :=
  { addr := 0x1410000, lsb := 20, width := 10, acc := .rw, stk := false, stby := false, load := .image, reset := 0, lo := 0, hi := 1023 }
/-- FLM_EVT.VIS, [0], RW (spec/19). -/
def fFLM_EVT_VIS : Fld :=
  { addr := 0x1410004, lsb := 0, width := 1, acc := .rw, stk := false, stby := false, load := .image, reset := 0, lo := 0, hi := 1 }
/-- FLM_EVT.TSLOT, [5:1], RW (spec/19). -/
def fFLM_EVT_TSLOT : Fld :=
  { addr := 0x1410004, lsb := 1, width := 5, acc := .rw, stk := false, stby := false, load := .image, reset := 0, lo := 0, hi := 31 }
/-- FLM_FILT.PRIV, [4:0], RW (spec/19). -/
def fFLM_FILT_PRIV : Fld :=
  { addr := 0x1420000, lsb := 0, width := 5, acc := .rw, stk := false, stby := false, load := .image, reset := 0, lo := 0, hi := 31 }
/-- FLM_FILT.TCMASK, [12:5], RW (spec/19). -/
def fFLM_FILT_TCMASK : Fld :=
  { addr := 0x1420000, lsb := 5, width := 8, acc := .rw, stk := false, stby := false, load := .image, reset := 0, lo := 0, hi := 255 }
/-- FLM_FILT.GRPMASK, [17:13], RW (spec/19). -/
def fFLM_FILT_GRPMASK : Fld :=
  { addr := 0x1420000, lsb := 13, width := 5, acc := .rw, stk := false, stby := false, load := .image, reset := 0, lo := 0, hi := 31 }
/-- FLM_FILT.INITMODE, [19:18], RW (spec/19). -/
def fFLM_FILT_INITMODE : Fld :=
  { addr := 0x1420000, lsb := 18, width := 2, acc := .rw, stk := false, stby := false, load := .image, reset := 0, lo := 0, hi := 2 }
/-- FLM_FILT.ADDREN, [20], RW (spec/19). -/
def fFLM_FILT_ADDREN : Fld :=
  { addr := 0x1420000, lsb := 20, width := 1, acc := .rw, stk := false, stby := false, load := .image, reset := 0, lo := 0, hi := 1 }
/-- FLM_FILT.LO, [12:0], RW (spec/19). -/
def fFLM_FILT_LO : Fld :=
  { addr := 0x1420004, lsb := 0, width := 13, acc := .rw, stk := false, stby := false, load := .image, reset := 0, lo := 0, hi := 0x1fff }
/-- FLM_FILT.HI, [28:16], RW (spec/19). -/
def fFLM_FILT_HI : Fld :=
  { addr := 0x1420004, lsb := 16, width := 13, acc := .rw, stk := false, stby := false, load := .image, reset := 0, lo := 0, hi := 0x1fff }
/-- FLM_FILT.TNODE, [3:0], RW (spec/19). -/
def fFLM_FILT_TNODE : Fld :=
  { addr := 0x1420008, lsb := 0, width := 4, acc := .rw, stk := false, stby := false, load := .image, reset := 0, lo := 0, hi := 15 }
/-- FLM_FILT.TNANY, [4], RW (spec/19). -/
def fFLM_FILT_TNANY : Fld :=
  { addr := 0x1420008, lsb := 4, width := 1, acc := .rw, stk := false, stby := false, load := .image, reset := 0, lo := 0, hi := 1 }
/-- FLM_FILT.ADDRLO_L, [31:6], RW (spec/19). -/
def fFLM_FILT_ADDRLO_L : Fld :=
  { addr := 0x1420010, lsb := 6, width := 26, acc := .rw, stk := false, stby := false, load := .image, reset := 0, lo := 0, hi := 0x3ffffff }
/-- FLM_FILT.ADDRLO_H, [19:0], RW (spec/19). -/
def fFLM_FILT_ADDRLO_H : Fld :=
  { addr := 0x1420014, lsb := 0, width := 20, acc := .rw, stk := false, stby := false, load := .image, reset := 0, lo := 0, hi := 0xfffff }
/-- FLM_FILT.ADDRHI_L, [31:6], RW (spec/19). -/
def fFLM_FILT_ADDRHI_L : Fld :=
  { addr := 0x1420018, lsb := 6, width := 26, acc := .rw, stk := false, stby := false, load := .image, reset := 0, lo := 0, hi := 0x3ffffff }
/-- FLM_FILT.ADDRHI_H, [19:0], RW (spec/19). -/
def fFLM_FILT_ADDRHI_H : Fld :=
  { addr := 0x142001c, lsb := 0, width := 20, acc := .rw, stk := false, stby := false, load := .image, reset := 0, lo := 0, hi := 0xfffff }
/-- TND_STAT.DEVSTATE, [2:0], RO (spec/20). -/
def fTND_STAT_DEVSTATE : Fld :=
  { addr := 0x1500000, lsb := 0, width := 3, acc := .ro, stk := false, stby := false, load := .number, reset := 0, lo := 0, hi := 7 }
/-- TND_STAT.BUSY, [3], RO (spec/20). -/
def fTND_STAT_BUSY : Fld :=
  { addr := 0x1500000, lsb := 3, width := 1, acc := .ro, stk := false, stby := false, load := .number, reset := 0, lo := 0, hi := 1 }
/-- TND_STAT.QDEPTH, [9:4], RO (spec/20). -/
def fTND_STAT_QDEPTH : Fld :=
  { addr := 0x1500000, lsb := 4, width := 6, acc := .ro, stk := false, stby := false, load := .number, reset := 0, lo := 0, hi := 63 }
/-- TND_STAT.CTLOK, [10], RO (spec/20). -/
def fTND_STAT_CTLOK : Fld :=
  { addr := 0x1500000, lsb := 10, width := 1, acc := .ro, stk := false, stby := false, load := .number, reset := 1, lo := 0, hi := 1 }
/-- TND_STAT.RESTARTED, [11], W1C/STK (spec/20). -/
def fTND_STAT_RESTARTED : Fld :=
  { addr := 0x1500000, lsb := 11, width := 1, acc := .w1c, stk := true, stby := false, load := .number, reset := 0, lo := 0, hi := 1 }
/-- TND_CTL.SEGAEN, [0], RW (spec/20). -/
def fTND_CTL_SEGAEN : Fld :=
  { addr := 0x1500004, lsb := 0, width := 1, acc := .rw, stk := false, stby := false, load := .image, reset := 1, lo := 0, hi := 1 }
/-- TND_CTL.SEGBEN, [1], RW (spec/20). -/
def fTND_CTL_SEGBEN : Fld :=
  { addr := 0x1500004, lsb := 1, width := 1, acc := .rw, stk := false, stby := false, load := .image, reset := 1, lo := 0, hi := 1 }
/-- TND_CTL.NODECNT, [6:2], RW (spec/20). -/
def fTND_CTL_NODECNT : Fld :=
  { addr := 0x1500004, lsb := 2, width := 5, acc := .rw, stk := false, stby := false, load := .number, reset := 8, lo := 1, hi := 16 }
/-- TND_SEG.JOINED, [0], RO (spec/20). -/
def fTND_SEG_JOINED : Fld :=
  { addr := 0x1500008, lsb := 0, width := 1, acc := .ro, stk := false, stby := false, load := .number, reset := 0, lo := 0, hi := 1 }
/-- TND_SEG.BEACON, [1], RO (spec/20). -/
def fTND_SEG_BEACON : Fld :=
  { addr := 0x1500008, lsb := 1, width := 1, acc := .ro, stk := false, stby := false, load := .number, reset := 0, lo := 0, hi := 1 }
/-- TND_SEG.COORD, [2], RO (spec/20). -/
def fTND_SEG_COORD : Fld :=
  { addr := 0x1500008, lsb := 2, width := 1, acc := .ro, stk := false, stby := false, load := .number, reset := 0, lo := 0, hi := 1 }
/-- TND_SEG.RXERR, [15:8], RC (spec/20). -/
def fTND_SEG_RXERR : Fld :=
  { addr := 0x1500008, lsb := 8, width := 8, acc := .rc, stk := false, stby := false, load := .number, reset := 0, lo := 0, hi := 255 }
/-- TND_SEG.FRAMES, [31:16], RC (spec/20). -/
def fTND_SEG_FRAMES : Fld :=
  { addr := 0x1500008, lsb := 16, width := 16, acc := .rc, stk := false, stby := false, load := .number, reset := 0, lo := 0, hi := 0xffff }
/-- TND_ERR.TIMEOUT, [7:0], RC (spec/20). -/
def fTND_ERR_TIMEOUT : Fld :=
  { addr := 0x1500010, lsb := 0, width := 8, acc := .rc, stk := false, stby := false, load := .number, reset := 0, lo := 0, hi := 255 }
/-- TND_ERR.BADFRAME, [15:8], RC (spec/20). -/
def fTND_ERR_BADFRAME : Fld :=
  { addr := 0x1500010, lsb := 8, width := 8, acc := .rc, stk := false, stby := false, load := .number, reset := 0, lo := 0, hi := 255 }
/-- TND_ERR.MISMATCH, [23:16], RO/STK (spec/20). -/
def fTND_ERR_MISMATCH : Fld :=
  { addr := 0x1500010, lsb := 16, width := 8, acc := .ro, stk := true, stby := false, load := .number, reset := 0, lo := 0, hi := 255 }
/-- TND_ERR.DUP, [31:24], RC (spec/20). -/
def fTND_ERR_DUP : Fld :=
  { addr := 0x1500010, lsb := 24, width := 8, acc := .rc, stk := false, stby := false, load := .number, reset := 0, lo := 0, hi := 255 }
/-- TND_NOTPEND.TYPES, [5:0], W1C (spec/20). -/
def fTND_NOTPEND_TYPES : Fld :=
  { addr := 0x1500014, lsb := 0, width := 6, acc := .w1c, stk := false, stby := false, load := .number, reset := 0, lo := 0, hi := 63 }
/-- TND_LOCK.HOLDER, [7:0], RO (spec/20). -/
def fTND_LOCK_HOLDER : Fld :=
  { addr := 0x1500018, lsb := 0, width := 8, acc := .ro, stk := false, stby := false, load := .number, reset := 255, lo := 0, hi := 255 }
/-- TND_LOCK.LOCKSEC, [31:16], RO (spec/20). -/
def fTND_LOCK_LOCKSEC : Fld :=
  { addr := 0x1500018, lsb := 16, width := 16, acc := .ro, stk := false, stby := false, load := .number, reset := 30, lo := 0, hi := 0xffff }
/-- TND_EPOCH.PEND, [6:0], RO (spec/20). -/
def fTND_EPOCH_PEND : Fld :=
  { addr := 0x150001c, lsb := 0, width := 7, acc := .ro, stk := false, stby := false, load := .number, reset := 0, lo := 0, hi := 127 }
/-- TND_ORIG_L.MAC_L, [31:0], RO/STK (spec/20). -/
def fTND_ORIG_L_MAC_L : Fld :=
  { addr := 0x1500100, lsb := 0, width := 32, acc := .ro, stk := true, stby := false, load := .number, reset := 0, lo := 0, hi := 0xffffffff }
/-- TND_ORIG_H.MAC_H, [15:0], RO/STK (spec/20). -/
def fTND_ORIG_H_MAC_H : Fld :=
  { addr := 0x1500104, lsb := 0, width := 16, acc := .ro, stk := true, stby := false, load := .number, reset := 0, lo := 0, hi := 0xffff }
/-- TND_ORIG_H.VALID, [16], RO/STK (spec/20). -/
def fTND_ORIG_H_VALID : Fld :=
  { addr := 0x1500104, lsb := 16, width := 1, acc := .ro, stk := true, stby := false, load := .number, reset := 0, lo := 0, hi := 1 }
/-- TND_ORIG_H.SEENA, [17], RO/STK (spec/20). -/
def fTND_ORIG_H_SEENA : Fld :=
  { addr := 0x1500104, lsb := 17, width := 1, acc := .ro, stk := true, stby := false, load := .number, reset := 0, lo := 0, hi := 1 }
/-- TND_ORIG_H.SEENB, [18], RO/STK (spec/20). -/
def fTND_ORIG_H_SEENB : Fld :=
  { addr := 0x1500104, lsb := 18, width := 1, acc := .ro, stk := true, stby := false, load := .number, reset := 0, lo := 0, hi := 1 }
/-- WLG.HEAD_L, [31:0], RO/STK (spec/20). -/
def fWLG_HEAD_L : Fld :=
  { addr := 0x1600000, lsb := 0, width := 32, acc := .ro, stk := true, stby := false, load := .number, reset := 0, lo := 0, hi := 0xffffffff }
/-- WLG.HEAD_H, [31:0], RO/STK (spec/20). -/
def fWLG_HEAD_H : Fld :=
  { addr := 0x1600004, lsb := 0, width := 32, acc := .ro, stk := true, stby := false, load := .number, reset := 0, lo := 0, hi := 0xffffffff }
/-- WLG.OLDEST_L, [31:0], RO/STK (spec/20). -/
def fWLG_OLDEST_L : Fld :=
  { addr := 0x1600008, lsb := 0, width := 32, acc := .ro, stk := true, stby := false, load := .number, reset := 0, lo := 0, hi := 0xffffffff }
/-- WLG.OLDEST_H, [31:0], RO/STK (spec/20). -/
def fWLG_OLDEST_H : Fld :=
  { addr := 0x160000c, lsb := 0, width := 32, acc := .ro, stk := true, stby := false, load := .number, reset := 0, lo := 0, hi := 0xffffffff }
/-- WLG.CKSEQ_L, [31:0], RO/STK (spec/20). -/
def fWLG_CKSEQ_L : Fld :=
  { addr := 0x1600010, lsb := 0, width := 32, acc := .ro, stk := true, stby := false, load := .number, reset := 0, lo := 0, hi := 0xffffffff }
/-- WLG.CKSEQ_H, [31:0], RO/STK (spec/20). -/
def fWLG_CKSEQ_H : Fld :=
  { addr := 0x1600014, lsb := 0, width := 32, acc := .ro, stk := true, stby := false, load := .number, reset := 0, lo := 0, hi := 0xffffffff }
/-- WLG.BOOTSEQ_L, [31:0], RO/STK (spec/20). -/
def fWLG_BOOTSEQ_L : Fld :=
  { addr := 0x1600018, lsb := 0, width := 32, acc := .ro, stk := true, stby := false, load := .number, reset := 0, lo := 0, hi := 0xffffffff }
/-- WLG.BOOTSEQ_H, [31:0], RO/STK (spec/20). -/
def fWLG_BOOTSEQ_H : Fld :=
  { addr := 0x160001c, lsb := 0, width := 32, acc := .ro, stk := true, stby := false, load := .number, reset := 0, lo := 0, hi := 0xffffffff }
/-- WLG_CTL.MIRROR, [0], RW (spec/20). -/
def fWLG_CTL_MIRROR : Fld :=
  { addr := 0x1600020, lsb := 0, width := 1, acc := .rw, stk := false, stby := false, load := .image, reset := 0, lo := 0, hi := 1 }
/-- WLG_CTL.CKNOW, [1], WO (spec/20). -/
def fWLG_CTL_CKNOW : Fld :=
  { addr := 0x1600020, lsb := 1, width := 1, acc := .wo, stk := false, stby := false, load := .number, reset := 0, lo := 0, hi := 1 }
/-- WLG_CTL.CKSEC, [17:2], RW (spec/20). -/
def fWLG_CTL_CKSEC : Fld :=
  { addr := 0x1600020, lsb := 2, width := 16, acc := .rw, stk := false, stby := false, load := .number, reset := 60, lo := 0, hi := 0xffff }
/-- WLG_CKSTAT.LAST, [1:0], RO/STK (spec/20). -/
def fWLG_CKSTAT_LAST : Fld :=
  { addr := 0x1600024, lsb := 0, width := 2, acc := .ro, stk := true, stby := false, load := .number, reset := 0, lo := 0, hi := 3 }
/-- WLG_CKSTAT.BUSY, [2], RO (spec/20). -/
def fWLG_CKSTAT_BUSY : Fld :=
  { addr := 0x1600024, lsb := 2, width := 1, acc := .ro, stk := false, stby := false, load := .number, reset := 0, lo := 0, hi := 1 }
/-- WLG_CKSTAT.FLASH, [3], RO/STK (spec/20). -/
def fWLG_CKSTAT_FLASH : Fld :=
  { addr := 0x1600024, lsb := 3, width := 1, acc := .ro, stk := true, stby := false, load := .number, reset := 0, lo := 0, hi := 1 }
/-- WLG_RDSEQ_L.SEQ_L, [31:0], RW (spec/20). -/
def fWLG_RDSEQ_L_SEQ_L : Fld :=
  { addr := 0x1600030, lsb := 0, width := 32, acc := .rw, stk := false, stby := false, load := .number, reset := 0, lo := 0, hi := 0xffffffff }
/-- WLG_RDSEQ_H.SEQ_H, [31:0], RW (spec/20). -/
def fWLG_RDSEQ_H_SEQ_H : Fld :=
  { addr := 0x1600034, lsb := 0, width := 32, acc := .rw, stk := false, stby := false, load := .number, reset := 0, lo := 0, hi := 0xffffffff }
/-- WLG_RDSTAT.HELD, [0], RO (spec/20). -/
def fWLG_RDSTAT_HELD : Fld :=
  { addr := 0x1600038, lsb := 0, width := 1, acc := .ro, stk := false, stby := false, load := .number, reset := 0, lo := 0, hi := 1 }
/-- WLG_RDDATA.DATA, [31:0], RO (spec/20). -/
def fWLG_RDDATA_DATA : Fld :=
  { addr := 0x1600040, lsb := 0, width := 32, acc := .ro, stk := false, stby := false, load := .number, reset := 0, lo := 0, hi := 0xffffffff }
/-- BOOT_ID.PARTCODE, [15:0], RO (spec/21). -/
def fBOOT_ID_PARTCODE : Fld :=
  { addr := 0x1700000, lsb := 0, width := 16, acc := .ro, stk := false, stby := false, load := .fuse, reset := 3456, lo := 0, hi := 0xffff }
/-- BOOT_ID.STEPPING, [19:16], RO (spec/21).  R3 allows A0 and B0; the state after reset is a part fused as B0 (DESIGN CHOICE, log
entry 10). -/
def fBOOT_ID_STEPPING : Fld :=
  { addr := 0x1700000, lsb := 16, width := 4, acc := .ro, stk := false, stby := false, load := .fuse, reset := 1, lo := 0, hi := 15 }
/-- BOOT_ID.WAFER, [27:20], RO (spec/21). -/
def fBOOT_ID_WAFER : Fld :=
  { addr := 0x1700000, lsb := 20, width := 8, acc := .ro, stk := false, stby := false, load := .fuse, reset := 0, lo := 0, hi := 255 }
/-- BOOT_LOT.LOT, [31:0], RO (spec/21). -/
def fBOOT_LOT_LOT : Fld :=
  { addr := 0x1700004, lsb := 0, width := 32, acc := .ro, stk := false, stby := false, load := .fuse, reset := 0, lo := 0, hi := 0xffffffff }
/-- BOOT_DIE.POS, [31:0], RO (spec/21). -/
def fBOOT_DIE_POS : Fld :=
  { addr := 0x170000c, lsb := 0, width := 32, acc := .ro, stk := false, stby := false, load := .fuse, reset := 0, lo := 0, hi := 0xffffffff }
/-- BOOT_SERIAL.SERIAL, [31:0], RO (spec/21). -/
def fBOOT_SERIAL_SERIAL : Fld :=
  { addr := 0x1700018, lsb := 0, width := 32, acc := .ro, stk := false, stby := false, load := .fuse, reset := 0, lo := 0, hi := 0xffffffff }
/-- BOOT_SVNF.SVNBITS, [31:0], RO (spec/21). -/
def fBOOT_SVNF_SVNBITS : Fld :=
  { addr := 0x1700020, lsb := 0, width := 32, acc := .ro, stk := false, stby := false, load := .fuse, reset := 0, lo := 0, hi := 0xffffffff }
/-- BOOT_LCF.RETIRED, [0], RO (spec/21). -/
def fBOOT_LCF_RETIRED : Fld :=
  { addr := 0x1700024, lsb := 0, width := 1, acc := .ro, stk := false, stby := false, load := .fuse, reset := 0, lo := 0, hi := 1 }
/-- BOOT_LCF.REVOKE, [4:1], RO (spec/21). -/
def fBOOT_LCF_REVOKE : Fld :=
  { addr := 0x1700024, lsb := 1, width := 4, acc := .ro, stk := false, stby := false, load := .fuse, reset := 0, lo := 0, hi := 15 }
/-- BOOT_LCF.DBGREV, [5], RO (spec/21). -/
def fBOOT_LCF_DBGREV : Fld :=
  { addr := 0x1700024, lsb := 5, width := 1, acc := .ro, stk := false, stby := false, load := .fuse, reset := 0, lo := 0, hi := 1 }
/-- BOOT_STAT.SLOT, [1:0], RO (spec/21). -/
def fBOOT_STAT_SLOT : Fld :=
  { addr := 0x1700030, lsb := 0, width := 2, acc := .ro, stk := false, stby := false, load := .number, reset := 0, lo := 0, hi := 3 }
/-- BOOT_STAT.RUNFW, [3:2], RO (spec/21). -/
def fBOOT_STAT_RUNFW : Fld :=
  { addr := 0x1700030, lsb := 2, width := 2, acc := .ro, stk := false, stby := false, load := .number, reset := 0, lo := 0, hi := 3 }
/-- BOOT_STAT.FWSTATE, [6:4], RO (spec/21). -/
def fBOOT_STAT_FWSTATE : Fld :=
  { addr := 0x1700030, lsb := 4, width := 3, acc := .ro, stk := false, stby := false, load := .number, reset := 0, lo := 0, hi := 7 }
/-- BOOT_STAT.S2OK, [7], RO (spec/21). -/
def fBOOT_STAT_S2OK : Fld :=
  { addr := 0x1700030, lsb := 7, width := 1, acc := .ro, stk := false, stby := false, load := .number, reset := 0, lo := 0, hi := 1 }
/-- BOOT_STAT.CAUSEA, [11:8], RO (spec/21). -/
def fBOOT_STAT_CAUSEA : Fld :=
  { addr := 0x1700030, lsb := 8, width := 4, acc := .ro, stk := false, stby := false, load := .number, reset := 0, lo := 0, hi := 15 }
/-- BOOT_STAT.CAUSEB, [15:12], RO (spec/21). -/
def fBOOT_STAT_CAUSEB : Fld :=
  { addr := 0x1700030, lsb := 12, width := 4, acc := .ro, stk := false, stby := false, load := .number, reset := 0, lo := 0, hi := 15 }
/-- BOOT_STAT.FWRESULT, [19:16], RO (spec/21). -/
def fBOOT_STAT_FWRESULT : Fld :=
  { addr := 0x1700030, lsb := 16, width := 4, acc := .ro, stk := false, stby := false, load := .number, reset := 0, lo := 0, hi := 15 }
/-- BOOT_STAT.LC, [21:20], RO (spec/21). -/
def fBOOT_STAT_LC : Fld :=
  { addr := 0x1700030, lsb := 20, width := 2, acc := .ro, stk := false, stby := false, load := .fuse, reset := 0, lo := 0, hi := 3 }
/-- BOOT_STAT.LOCKOUT, [22], RO (spec/21). -/
def fBOOT_STAT_LOCKOUT : Fld :=
  { addr := 0x1700030, lsb := 22, width := 1, acc := .ro, stk := false, stby := false, load := .number, reset := 0, lo := 0, hi := 1 }
/-- BOOT_IMGSVN.SVN, [5:0], RO (spec/21). -/
def fBOOT_IMGSVN_SVN : Fld :=
  { addr := 0x1700034, lsb := 0, width := 6, acc := .ro, stk := false, stby := false, load := .image, reset := 0, lo := 0, hi := 63 }
/-- BOOT_IMGVER.VERSION, [31:0], RO (spec/21). -/
def fBOOT_IMGVER_VERSION : Fld :=
  { addr := 0x1700038, lsb := 0, width := 32, acc := .ro, stk := false, stby := false, load := .image, reset := 0, lo := 0, hi := 0xffffffff }
/-- BOOT_OPENREM.SEC, [16:0], RO (spec/21). -/
def fBOOT_OPENREM_SEC : Fld :=
  { addr := 0x170003c, lsb := 0, width := 17, acc := .ro, stk := false, stby := false, load := .number, reset := 0, lo := 0, hi := 0x1ffff }
/-- BOOT_KEYH.HASH, [31:0], RO (spec/21). -/
def fBOOT_KEYH_HASH : Fld :=
  { addr := 0x1700100, lsb := 0, width := 32, acc := .ro, stk := false, stby := false, load := .fuse, reset := 0, lo := 0, hi := 0xffffffff }

end Sys2Proof.Machine
end

