-- ==== Sys2Proof/Machine/RegTable.lean ====
section
/-! DEFINITION. The register map: for each register word its address, the shape of its instances, the register that
selects the instance where there is one, the key a write must carry where there is one, and its fields. -/

namespace Sys2Proof.Machine

def tableARCH : List RegDesc := [
  { addr := 0x0, shape := .one, key := none, half := .whole,
    fields := [fARCH_PROFILE_SEL, fARCH_PROFILE_APPLY, fARCH_PROFILE_ACTIVE, fARCH_PROFILE_BUSY, fARCH_PROFILE_LASTRES] },
  { addr := 0x4, shape := .one, key := none, half := .whole,
    fields := [fARCH_BANKMAP_FILTER, fARCH_BANKMAP_RSVBANKS, fARCH_BANKMAP_SFBANKS, fARCH_BANKMAP_WAYS] },
  { addr := 0x8, shape := .one, key := none, half := .whole,
    fields := [fARCH_APPSTAT_PHASE] },
  { addr := 0xc, shape := .one, key := none, half := .whole,
    fields := [fARCH_APPREMAIN_REMAIN] },
  { addr := 0x10, shape := .one, key := none, half := .whole,
    fields := [fARCH_CORECLK_MHZ] },
  { addr := 0x14, shape := .one, key := none, half := .whole,
    fields := [fARCH_CONFLICT_CODE, fARCH_CONFLICT_ITEM_A, fARCH_CONFLICT_ITEM_B, fARCH_CONFLICT_VALID] },
  { addr := 0x18, shape := .one, key := none, half := .whole,
    fields := [fARCH_FTCMP_USED] },
  { addr := 0x40, shape := .row 4 4, key := none, half := .whole,
    fields := [fARCH_CULV_SP_SPARE] },
  { addr := 0x50, shape := .row 4 4, key := none, half := .whole,
    fields := [fARCH_CULV_ERR_RETRY, fARCH_CULV_ERR_RETIRED] }]

def tablePKG : List RegDesc := [
  { addr := 0x200000, shape := .one, key := none, half := .whole,
    fields := [fPKG_STRAP_BOOTSEL, fPKG_STRAP_NODE_ID, fPKG_STRAP_MGR_EN, fPKG_STRAP_MGR_PORT, fPKG_STRAP_TESTMODE, fPKG_STRAP_VALID] },
  { addr := 0x200004, shape := .one, key := none, half := .whole,
    fields := [fPKG_STRAPFLT_FLOAT, fPKG_STRAPFLT_ANY] },
  { addr := 0x200008, shape := .one, key := none, half := .whole,
    fields := [fPKG_GLITCH_PWRGD] }]

def tablePWR : List RegDesc := [
  { addr := 0x400000, shape := .one, key := none, half := .whole,
    fields := [fPWR_RSTCAUSE_LAST, fPWR_RSTCAUSE_TILE, fPWR_RSTCAUSE_WARMCNT] },
  { addr := 0x400004, shape := .one, key := some 0x5a, half := .whole,
    fields := [fPWR_RSTREQ_WARM, fPWR_RSTREQ_TILE, fPWR_RSTREQ_KEY] },
  { addr := 0x400008, shape := .one, key := none, half := .whole,
    fields := [fPWR_START_PHASE, fPWR_START_WAVE, fPWR_START_AUTOSTART, fPWR_START_RAILHOLD, fPWR_START_ELAPSED] },
  { addr := 0x40000c, shape := .one, key := none, half := .whole,
    fields := [fPWR_RAILSTAT_LEVEL, fPWR_RAILSTAT_WARNSEEN, fPWR_RAILSTAT_FAULTSEEN] },
  { addr := 0x400010, shape := .one, key := none, half := .whole,
    fields := [fPWR_CLKSTAT_OK] },
  { addr := 0x400014, shape := .one, key := none, half := .whole,
    fields := [fPWR_CLKLOSS_LOST] },
  { addr := 0x400020, shape := .row 4 2, key := none, half := .whole,
    fields := [fPWR_PERSTIN_LEVEL] },
  { addr := 0x400028, shape := .row 4 2, key := none, half := .whole,
    fields := [fPWR_PERSTOUT_RELEASED] },
  { addr := 0x400030, shape := .row 4 2, key := none, half := .whole,
    fields := [fPWR_PORTRDY_READY] },
  { addr := 0x400038, shape := .row 4 2, key := none, half := .whole,
    fields := [fPWR_CRSLATE_LATE] },
  { addr := 0x400100, shape := .row 4 84, key := none, half := .whole,
    fields := [fPWR_DOMCTL_ON, fPWR_DOMCTL_PWRD, fPWR_DOMCTL_BUSY, fPWR_DOMCTL_ABORT] },
  { addr := 0x400040, shape := .one, key := none, half := .whole,
    fields := [fPWR_TEMP_TEMP, fPWR_TEMP_SENSOR] },
  { addr := 0x400044, shape := .one, key := none, half := .whole,
    fields := [fPWR_TEMPCFG_TWARN, fPWR_TEMPCFG_HYST] },
  { addr := 0x400048, shape := .one, key := none, half := .whole,
    fields := [fPWR_TEMPMAX_PEAK] },
  { addr := 0x40004c, shape := .one, key := none, half := .whole,
    fields := [fPWR_THERM_TRIPPED, fPWR_THERM_WARN] }]

def tableFT0 : List RegDesc := [
  { addr := 0x600000, shape := .one, key := none, half := .whole,
    fields := [fFT_NOWNS_NS] },
  { addr := 0x600004, shape := .one, key := none, half := .whole,
    fields := [fFT_NOWSECL_SECL] },
  { addr := 0x600008, shape := .one, key := none, half := .whole,
    fields := [fFT_NOWSECH_SECH] },
  { addr := 0x60000c, shape := .one, key := none, half := .whole,
    fields := [fFT_STAT_STATE, fFT_STAT_QUAL, fFT_STAT_SRC, fFT_STAT_AGOOD, fFT_STAT_BGOOD, fFT_STAT_SLEWING, fFT_STAT_STEPHELD, fFT_STAT_UNTRACE, fFT_STAT_HOLDSEC] },
  { addr := 0x600010, shape := .one, key := none, half := .whole,
    fields := [fFT_CTRL_SRCMODE, fFT_CTRL_TODMODE, fFT_CTRL_SETARM, fFT_CTRL_FORCESTEP] },
  { addr := 0x600014, shape := .one, key := none, half := .low,
    fields := [fFT_SETSEC_L] },
  { addr := 0x600018, shape := .one, key := none, half := .high,
    fields := [fFT_SETSEC_H] },
  { addr := 0x60001c, shape := .one, key := none, half := .whole,
    fields := [fFT_ACCWIN] },
  { addr := 0x600020, shape := .one, key := none, half := .whole,
    fields := [fFT_LOCKNS, fFT_UNLOCKNS] },
  { addr := 0x600024, shape := .one, key := none, half := .whole,
    fields := [fFT_STEPNS] },
  { addr := 0x600028, shape := .one, key := none, half := .whole,
    fields := [fFT_HOLDLIM] },
  { addr := 0x60002c, shape := .one, key := none, half := .whole,
    fields := [fFT_HOLDPPB] },
  { addr := 0x600030, shape := .one, key := none, half := .whole,
    fields := [fFT_HOLDERR] },
  { addr := 0x600034, shape := .one, key := none, half := .whole,
    fields := [fFT_RATE] },
  { addr := 0x600038, shape := .one, key := none, half := .whole,
    fields := [fFT_PHASE] },
  { addr := 0x60003c, shape := .one, key := none, half := .whole,
    fields := [fFT_MINOFS] },
  { addr := 0x600040, shape := .one, key := none, half := .whole,
    fields := [fFT_OFS_A] },
  { addr := 0x600044, shape := .one, key := none, half := .whole,
    fields := [fFT_OFS_B] },
  { addr := 0x600048, shape := .one, key := none, half := .whole,
    fields := [fFT_DISAGREE] },
  { addr := 0x600050, shape := .one, key := none, half := .whole,
    fields := [fFT_CAPA_NS] }]

def tableFT1 : List RegDesc := [
  { addr := 0x600054, shape := .one, key := none, half := .whole,
    fields := [fFT_CAPA_SEC] },
  { addr := 0x600058, shape := .one, key := none, half := .whole,
    fields := [fFT_CAPB_NS] },
  { addr := 0x60005c, shape := .one, key := none, half := .whole,
    fields := [fFT_CAPB_SEC] },
  { addr := 0x600060, shape := .one, key := none, half := .whole,
    fields := [fFT_AREJ, fFT_BREJ, fFT_TODCRC, fFT_TODMIS] }]

def tableSER : List RegDesc := [
  { addr := 0x800000, shape := .one, key := none, half := .whole,
    fields := [fSER_GSTAT_CALDONE] },
  { addr := 0x801000, shape := .row 64 328, key := none, half := .whole,
    fields := [fSER_LCTL_TXINV, fSER_LCTL_RXPOL, fSER_LCTL_ALIGNMAN, fSER_LCTL_ADAPTFRZ, fSER_LCTL_LOOP] },
  { addr := 0x801004, shape := .row 64 328, key := none, half := .whole,
    fields := [fSER_LSTAT_STAGE, fSER_LSTAT_RATE, fSER_LSTAT_RXINV, fSER_LSTAT_CDRLOCK, fSER_LSTAT_MARKLOCK, fSER_LSTAT_PIDX_RX, fSER_LSTAT_LPOS_RX, fSER_LSTAT_ORDER, fSER_LSTAT_FAILCAUSE] },
  { addr := 0x801008, shape := .row 64 328, key := some 0xa5, half := .whole,
    fields := [fSER_SLIP_COUNT, fSER_SLIP_DIR, fSER_SLIP_KEY] },
  { addr := 0x80100c, shape := .row 64 328, key := none, half := .whole,
    fields := [fSER_TXEQ_CM2, fSER_TXEQ_CM1, fSER_TXEQ_C0, fSER_TXEQ_CP1, fSER_TXEQ_PRESET] },
  { addr := 0x801010, shape := .row 64 328, key := none, half := .whole,
    fields := [fSER_RXEQ_CTLE, fSER_RXEQ_VGA, fSER_RXEQ_DFE1] },
  { addr := 0x801014, shape := .row 64 328, key := none, half := .whole,
    fields := [fSER_LERR_STUFFERR, fSER_LERR_MARKERR, fSER_LERR_CDRLOSS, fSER_LERR_CMDREJ] },
  { addr := 0x801018, shape := .row 64 328, key := none, half := .whole,
    fields := [fSER_PRBSCTL_PATTERN, fSER_PRBSCTL_GEN, fSER_PRBSCTL_CHK, fSER_PRBSCTL_ABORTED, fSER_PRBSCTL_LOCKED] },
  { addr := 0x80101c, shape := .row 64 328, key := none, half := .whole,
    fields := [fSER_PRBSCNT_ERRORS] },
  { addr := 0x801020, shape := .row 64 328, key := none, half := .whole,
    fields := [fSER_EYECTL_START, fSER_EYECTL_DONE, fSER_EYECTL_EYE, fSER_EYECTL_HOFS, fSER_EYECTL_VOFS, fSER_EYECTL_DWELL] },
  { addr := 0x801024, shape := .row 64 328, key := none, half := .whole,
    fields := [fSER_EYECNT_COUNT] }]

def tablePF : List RegDesc := [
  { addr := 0x5000008000, shape := .grid 0x10000 64 16 64, key := none, half := .whole,
    fields := [fPF_MSIX_ADDR_L] },
  { addr := 0x5000008004, shape := .grid 0x10000 64 16 64, key := none, half := .whole,
    fields := [fPF_MSIX_ADDR_H] },
  { addr := 0x5000008008, shape := .grid 0x10000 64 16 64, key := none, half := .whole,
    fields := [fPF_MSIX_DATA] },
  { addr := 0x500000800c, shape := .grid 0x10000 64 16 64, key := none, half := .whole,
    fields := [fPF_MSIX_MASK] },
  { addr := 0x500000c000, shape := .grid 0x10000 64 4 2, key := none, half := .whole,
    fields := [fPF_PBA_PEND] }]

def tableDVSEC : List RegDesc := [
  { addr := 0x3000000000, shape := .row 0x1000 64, key := none, half := .whole,
    fields := [fDVSEC_CAPID, fDVSEC_CAPVER] },
  { addr := 0x3000000004, shape := .row 0x1000 64, key := none, half := .whole,
    fields := [fDVSEC_VENDOR, fDVSEC_REV, fDVSEC_LENGTH] },
  { addr := 0x3000000008, shape := .row 0x1000 64, key := none, half := .whole,
    fields := [fDVSEC_ID] },
  { addr := 0x300000000c, shape := .row 0x1000 64, key := none, half := .whole,
    fields := [fDVSEC_PARTCODE, fDVSEC_STEPPING, fDVSEC_NODE_ID, fDVSEC_PROFILE, fDVSEC_DEVSTATE] },
  { addr := 0x3000000010, shape := .row 0x1000 64, key := none, half := .whole,
    fields := [fDVSEC_PORT, fDVSEC_MGRPORT, fDVSEC_REGACC] },
  { addr := 0x3000000014, shape := .row 0x1000 64, key := none, half := .whole,
    fields := [fDVSEC_TIFIRST, fDVSEC_TICOUNT] },
  { addr := 0x3000000018, shape := .row 0x1000 64, key := none, half := .low,
    fields := [fDVSEC_SERIAL_L] },
  { addr := 0x300000001c, shape := .row 0x1000 64, key := none, half := .high,
    fields := [fDVSEC_SERIAL_H] },
  { addr := 0x3000000020, shape := .row 0x1000 64, key := none, half := .whole,
    fields := [fDVSEC_FT_NS] },
  { addr := 0x3000000024, shape := .row 0x1000 64, key := none, half := .whole,
    fields := [fDVSEC_FT_SECL] },
  { addr := 0x3000000028, shape := .row 0x1000 64, key := none, half := .whole,
    fields := [fDVSEC_FT_SECH, fDVSEC_FT_QUAL] }]

def tablePRT : List RegDesc := [
  { addr := 0xa01000, shape := .row 256 64, key := none, half := .whole,
    fields := [fPRT_PORTCFG_ENABLE, fPRT_PORTCFG_ROLE, fPRT_PORTCFG_WIDTH, fPRT_PORTCFG_MAXRATE, fPRT_PORTCFG_CLKMODE, fPRT_PORTCFG_PROTO, fPRT_PORTCFG_REGACC, fPRT_PORTCFG_HPCAP] },
  { addr := 0xa01004, shape := .row 256 64, key := none, half := .whole,
    fields := [fPRT_PORTSTAT_LTSSM, fPRT_PORTSTAT_NEGWIDTH, fPRT_PORTSTAT_RATE, fPRT_PORTSTAT_FLIT, fPRT_PORTSTAT_CXLIO, fPRT_PORTSTAT_CXLCACHE, fPRT_PORTSTAT_CXLMEM, fPRT_PORTSTAT_DEGRADED, fPRT_PORTSTAT_DLACTIVE, fPRT_PORTSTAT_L1SUB, fPRT_PORTSTAT_REVERSED] },
  { addr := 0xa01008, shape := .row 256 64, key := none, half := .whole,
    fields := [fPRT_TIBLK_BASE, fPRT_TIBLK_CNT, fPRT_TIBLK_WINSZ] },
  { addr := 0xa0100c, shape := .row 256 64, key := none, half := .whole,
    fields := [fPRT_SLOTCFG_SLOT, fPRT_SLOTCFG_SLOTEN, fPRT_SLOTCFG_PCTL, fPRT_SLOTCFG_PSN] },
  { addr := 0xa01010, shape := .row 256 64, key := none, half := .whole,
    fields := [fPRT_SLOTCTL_OVR, fPRT_SLOTCTL_ATTN, fPRT_SLOTCTL_PWRI, fPRT_SLOTCTL_PWROFF] },
  { addr := 0xa01014, shape := .row 256 64, key := none, half := .whole,
    fields := [fPRT_SLOTSTAT_PRESENT, fPRT_SLOTSTAT_BTN, fPRT_SLOTSTAT_PFAULT, fPRT_SLOTSTAT_PDCHG, fPRT_SLOTSTAT_POWERED] },
  { addr := 0xa01018, shape := .row 256 64, key := none, half := .whole,
    fields := [fPRT_ASPM_IDLE, fPRT_ASPM_FORCE, fPRT_ASPM_TPON] },
  { addr := 0xa0101c, shape := .row 256 64, key := none, half := .whole,
    fields := [fPRT_ERR_LINKDOWN, fPRT_ERR_LOSTPOST, fPRT_ERR_LOSTWR, fPRT_ERR_CFGREJ] },
  { addr := 0xa01020, shape := .row 256 64, key := none, half := .low,
    fields := [fPRT_LOSTADDR_L_ADDR_L] },
  { addr := 0xa01024, shape := .row 256 64, key := none, half := .high,
    fields := [fPRT_LOSTADDR_H_ADDR_H] },
  { addr := 0xa08000, shape := .row 4 2048, key := none, half := .whole,
    fields := [fPRT_VPPB_STATE, fPRT_VPPB_KIND, fPRT_VPPB_PORT, fPRT_VPPB_LD, fPRT_VPPB_NODE] }]

def tableLEAT : List RegDesc := [
  { addr := 0xc00000, shape := .one, key := none, half := .whole,
    fields := [fLEAT_GSTAT_NODE, fLEAT_GSTAT_UP, fLEAT_GSTAT_SPAREOK] },
  { addr := 0xc00040, shape := .row 4 16, key := none, half := .whole,
    fields := [fLEAT_ROUTE_LINKS, fLEAT_ROUTE_AGENT, fLEAT_ROUTE_AGEN] },
  { addr := 0xc01000, shape := .row 256 8, key := none, half := .whole,
    fields := [fLEAT_CTL_ENABLE, fLEAT_CTL_RATE, fLEAT_CTL_SPARE, fLEAT_CTL_DEGOK, fLEAT_CTL_RETRAIN] },
  { addr := 0xc01004, shape := .row 256 8, key := none, half := .whole,
    fields := [fLEAT_STAT_STATE, fLEAT_STAT_TXW4, fLEAT_STAT_RXW4, fLEAT_STAT_SPAREOK, fLEAT_STAT_PEERNODE, fLEAT_STAT_PEERLINK, fLEAT_STAT_DOWNCAUSE] },
  { addr := 0xc01008, shape := .row 256 8, key := none, half := .whole,
    fields := [fLEAT_TXMAP_MAP] },
  { addr := 0xc0100c, shape := .row 256 8, key := none, half := .whole,
    fields := [fLEAT_RXMAP_MAP] },
  { addr := 0xc01010, shape := .row 256 8, key := none, half := .whole,
    fields := [fLEAT_TXSEQ_NEXT, fLEAT_TXSEQ_ACKED] },
  { addr := 0xc01014, shape := .row 256 8, key := none, half := .whole,
    fields := [fLEAT_RXSEQ_EXP, fLEAT_RXSEQ_HIGH] },
  { addr := 0xc01018, shape := .row 256 8, key := none, half := .whole,
    fields := [fLEAT_REPLAY_OCC, fLEAT_REPLAY_TOCNT] },
  { addr := 0xc0101c, shape := .row 256 8, key := none, half := .whole,
    fields := [fLEAT_CRPOOL_REQ, fLEAT_CRPOOL_SNP, fLEAT_CRPOOL_RSP] },
  { addr := 0xc01020, shape := .grid 256 8 4 3, key := none, half := .whole,
    fields := [fLEAT_CRLIM_VALUE] },
  { addr := 0xc01030, shape := .grid 256 8 4 3, key := none, half := .whole,
    fields := [fLEAT_CRUSED_VALUE] },
  { addr := 0xc01040, shape := .row 256 8, key := none, half := .whole,
    fields := [fLEAT_RTT_NS] },
  { addr := 0xc01044, shape := .row 256 8, key := none, half := .whole,
    fields := [fLEAT_ERR_CRCERR, fLEAT_ERR_REPLAYTO, fLEAT_ERR_DUP] },
  { addr := 0xc01048, shape := .row 256 8, key := none, half := .whole,
    fields := [fLEAT_ERR2_SPARESW, fLEAT_ERR2_RETRAINS, fLEAT_ERR2_BADACK, fLEAT_ERR2_MISROUTE, fLEAT_ERR2_PROTO, fLEAT_ERR2_LOSTWR] },
  { addr := 0xc0104c, shape := .row 256 8, key := none, half := .low,
    fields := [fLEAT_LOSTADDR_L_ADDR_L] },
  { addr := 0xc01050, shape := .row 256 8, key := none, half := .high,
    fields := [fLEAT_LOSTADDR_H_ADDR_H] },
  { addr := 0xc01054, shape := .row 256 8, key := none, half := .whole,
    fields := [fLEAT_LP_IDLE, fLEAT_LP_DOZING] }]

def tableSWC : List RegDesc := [
  { addr := 0x100000, shape := .one, key := none, half := .whole,
    fields := [fSWC_CTL_STALLMS, fSWC_CTL_STALLEN] },
  { addr := 0x100010, shape := .row 4 3, key := none, half := .whole,
    fields := [fSWC_STALL_STALL] },
  { addr := 0x100020, shape := .one, key := none, half := .whole,
    fields := [fSWC_ERR_ECCCOR, fSWC_ERR_ECCUNC, fSWC_ERR_QPARITY] },
  { addr := 0x100024, shape := .one, key := none, half := .whole,
    fields := [fSWC_ERR2_NOROUTE, fSWC_ERR2_TRUNC] },
  { addr := 0x100028, shape := .one, key := none, half := .whole,
    fields := [fSWC_LASTCELL_CELL] }]

def tableRSV : List RegDesc := [
  { addr := 0x300000, shape := .one, key := none, half := .whole,
    fields := [fRSV_CELLS_CELLS] },
  { addr := 0x300004, shape := .one, key := none, half := .whole,
    fields := [fRSV_FREE_FREE] },
  { addr := 0x300008, shape := .one, key := none, half := .whole,
    fields := [fRSV_MINFREE_MINFREE] },
  { addr := 0x30000c, shape := .one, key := none, half := .whole,
    fields := [fRSV_GLOBAL_HOLD, fRSV_GLOBAL_RESUME] },
  { addr := 0x300010, shape := .one, key := none, half := .whole,
    fields := [fRSV_RSPRES_TOTAL] },
  { addr := 0x300014, shape := .one, key := none, half := .whole,
    fields := [fRSV_RESV_CELLS] },
  { addr := 0x300018, shape := .one, key := none, half := .whole,
    fields := [fRSV_STAT_GHOLD, fRSV_STAT_PHOLD, fRSV_STAT_RSPUSED] },
  { addr := 0x30001c, shape := .one, key := none, half := .whole,
    fields := [fRSV_TELCTL_ALERT, fRSV_TELCTL_COAL] },
  { addr := 0x300020, shape := .row 4 24, key := none, half := .whole,
    fields := [fRSV_TELSTAT_CROSSED] },
  { addr := 0x300080, shape := .one, key := none, half := .whole,
    fields := [fRSV_TELCNT_COUNT] },
  { addr := 0x300100, shape := .row 4 24, key := none, half := .whole,
    fields := [fRSV_HOLD_HELD] },
  { addr := 0x301000, shape := .row 4 744, key := none, half := .whole,
    fields := [fRSV_WM_HIGH, fRSV_WM_LOW] },
  { addr := 0x302000, shape := .row 4 744, key := none, half := .whole,
    fields := [fRSV_INOCC_OCC, fRSV_INOCC_HELD] },
  { addr := 0x303000, shape := .row 4 744, key := none, half := .whole,
    fields := [fRSV_EQOCC_OCC, fRSV_EQOCC_RESUSED] },
  { addr := 0x304000, shape := .row 4 744, key := none, half := .whole,
    fields := [fRSV_TLVL_LEVEL] },
  { addr := 0x305000, shape := .row 4 72, key := none, half := .whole,
    fields := [fRSV_CTTHR_CT] }]

def tableTRN : List RegDesc := [
  { addr := 0x500000, shape := .one, key := none, half := .whole,
    fields := [fTRN_AGEDROP_GROUP, fTRN_AGEDROP_SNOOP, fTRN_AGEDROP_EGRESS, fTRN_AGEDROP_VALID] },
  { addr := 0x500004, shape := .one, key := none, half := .whole,
    fields := [fTRN_AGECNT_AGECNT] },
  { addr := 0x500008, shape := .one, key := none, half := .whole,
    fields := [fTRN_ERR_NOGRP] },
  { addr := 0x500100, shape := .row 64 8, key := none, half := .whole,
    fields := [fTRN_MIR_EN, fTRN_MIR_MODE, fTRN_MIR_DIR, fTRN_MIR_SRCPT, fTRN_MIR_APORT] },
  { addr := 0x500104, shape := .row 64 8, key := none, half := .whole,
    fields := [fTRN_MIR_SRC, fTRN_MIR_SRCANY, fTRN_MIR_DEST, fTRN_MIR_DESTANY, fTRN_MIR_TCMASK] },
  { addr := 0x500108, shape := .row 64 8, key := none, half := .whole,
    fields := [fTRN_MIR_TENANT, fTRN_MIR_TENANY] },
  { addr := 0x50010c, shape := .row 64 8, key := none, half := .whole,
    fields := [fTRN_MIR_NM1, fTRN_MIR_TRUNC] },
  { addr := 0x500110, shape := .row 64 8, key := none, half := .low,
    fields := [fTRN_MIR_BASE_L] },
  { addr := 0x500114, shape := .row 64 8, key := none, half := .high,
    fields := [fTRN_MIR_BASE_H] },
  { addr := 0x500118, shape := .row 64 8, key := none, half := .whole,
    fields := [fTRN_MIR_SIZE] },
  { addr := 0x50011c, shape := .row 64 8, key := none, half := .whole,
    fields := [fTRN_MIR_QUOTA] },
  { addr := 0x500120, shape := .row 64 8, key := none, half := .whole,
    fields := [fTRN_MIR_DROPS] },
  { addr := 0x500124, shape := .row 64 8, key := none, half := .whole,
    fields := [fTRN_MIR_SEQ] },
  { addr := 0x500128, shape := .row 64 8, key := none, half := .whole,
    fields := [fTRN_MIR_WPTR] },
  { addr := 0x510000, shape := .row 16 0x1000, key := none, half := .low,
    fields := [fTRN_GRP_MEM_L] },
  { addr := 0x510004, shape := .row 16 0x1000, key := none, half := .high,
    fields := [fTRN_GRP_MEM_H] },
  { addr := 0x510008, shape := .row 16 0x1000, key := none, half := .whole,
    fields := [fTRN_GRP_MEM_K, fTRN_GRP_VALID] }]

def tableWM0 : List RegDesc := [
  { addr := 0x700000, shape := .one, key := none, half := .whole,
    fields := [fWM_CTL_TXHINT, fWM_CTL_FULLHINT, fWM_CTL_NAKLIM] },
  { addr := 0x700004, shape := .one, key := none, half := .whole,
    fields := [fWM_OCTL_OLIM, fWM_OCTL_OAGE] },
  { addr := 0x700008, shape := .one, key := none, half := .whole,
    fields := [fWM_HOLD_NS] },
  { addr := 0x700010, shape := .one, key := none, half := .whole,
    fields := [fWM_SNPTO_AGENT, fWM_SNPTO_SLICE, fWM_SNPTO_VALID] },
  { addr := 0x700014, shape := .one, key := none, half := .low,
    fields := [fWM_SNPTOADDR_L_ADDR_L] },
  { addr := 0x700018, shape := .one, key := none, half := .high,
    fields := [fWM_SNPTOADDR_H_ADDR_H] },
  { addr := 0x70001c, shape := .one, key := none, half := .whole,
    fields := [fWM_LOSTLINE_CAUSE, fWM_LOSTLINE_AGENT, fWM_LOSTLINE_VALID] },
  { addr := 0x700020, shape := .one, key := none, half := .low,
    fields := [fWM_LOSTADDR_L_ADDR_L] },
  { addr := 0x700024, shape := .one, key := none, half := .high,
    fields := [fWM_LOSTADDR_H_ADDR_H] },
  { addr := 0x700028, shape := .one, key := none, half := .whole,
    fields := [fWM_ERR_SNPTO, fWM_ERR_STALEWB, fWM_ERR_PROTO, fWM_ERR_RSVFULL, fWM_ERR_RSVEXP] },
  { addr := 0x70002c, shape := .one, key := none, half := .whole,
    fields := [fWM_ERR2_OLOST, fWM_ERR2_PWFAIL] },
  { addr := 0x700030, shape := .row 4 3, key := none, half := .whole,
    fields := [fWM_AGDOWN_PURGING] },
  { addr := 0x700040, shape := .one, key := some 0xc3, half := .whole,
    fields := [fWM_TTCTL_LOAD, fWM_TTCTL_KEY] },
  { addr := 0x700044, shape := .one, key := none, half := .whole,
    fields := [fWM_TTSTAT_RESULT, fWM_TTSTAT_ROW, fWM_TTSTAT_FALLBACK] },
  { addr := 0x700048, shape := .one, key := none, half := .whole,
    fields := [fWM_TTID_TTID] },
  { addr := 0x70004c, shape := .one, key := none, half := .whole,
    fields := [fWM_TTCRC_CRC] },
  { addr := 0x700100, shape := .row 32 16, key := none, half := .whole,
    fields := [fWM_SLICE_OPEN, fWM_SLICE_OCELLS] },
  { addr := 0x700104, shape := .row 32 16, key := none, half := .whole,
    fields := [fWM_SLICE_NAKS] },
  { addr := 0x700108, shape := .row 32 16, key := none, half := .whole,
    fields := [fWM_SLICE_RSVQ] },
  { addr := 0x70010c, shape := .row 32 16, key := none, half := .whole,
    fields := [fWM_SLICE_MAXOPEN] }]

def tableWM1 : List RegDesc := [
  { addr := 0x701000, shape := .row 16 64, key := none, half := .whole,
    fields := [fWM_SRGN_FIRST, fWM_SRGN_EN] },
  { addr := 0x701004, shape := .row 16 64, key := none, half := .whole,
    fields := [fWM_SRGN_LAST, fWM_SRGN_HOME, fWM_SRGN_OALLOW] },
  { addr := 0x701008, shape := .row 16 64, key := none, half := .whole,
    fields := [fWM_SRGN_STATE] },
  { addr := 0x708000, shape := .row 4 1024, key := none, half := .whole,
    fields := [fWM_TTSTAGE_DATA] }]

def tableSNF : List RegDesc := [
  { addr := 0x900000, shape := .one, key := none, half := .whole,
    fields := [fSNF_CTL_SCRUBEN, fSNF_CTL_INTERVAL] },
  { addr := 0x900004, shape := .one, key := none, half := .whole,
    fields := [fSNF_SCRUBSTAT_SWEEPS, fSNF_SCRUBSTAT_SWEEPING] },
  { addr := 0x900008, shape := .one, key := none, half := .whole,
    fields := [fSNF_ERR_COR, fSNF_ERR_UNC, fSNF_ERR_INVAR] },
  { addr := 0x90000c, shape := .one, key := none, half := .whole,
    fields := [fSNF_LASTERR_SLICE, fSNF_LASTERR_SET, fSNF_LASTERR_WAY, fSNF_LASTERR_KIND, fSNF_LASTERR_VALID] },
  { addr := 0x900010, shape := .one, key := some 0x96, half := .whole,
    fields := [fSNF_SUSPCLR_SLICES, fSNF_SUSPCLR_KEY] },
  { addr := 0x900020, shape := .row 4 3, key := none, half := .whole,
    fields := [fSNF_BCAST_AGENTS] },
  { addr := 0x900100, shape := .row 32 16, key := none, half := .whole,
    fields := [fSNF_SLICE_VALID] },
  { addr := 0x900104, shape := .row 32 16, key := none, half := .whole,
    fields := [fSNF_SLICE_EVICTS] },
  { addr := 0x900108, shape := .row 32 16, key := none, half := .whole,
    fields := [fSNF_SLICE_PINNAK] },
  { addr := 0x90010c, shape := .row 32 16, key := none, half := .whole,
    fields := [fSNF_SLICE_SUSPECT, fSNF_SLICE_ALLSUSP, fSNF_SLICE_RETIRED] },
  { addr := 0x900110, shape := .row 32 16, key := none, half := .whole,
    fields := [fSNF_SLICE_BCAST] },
  { addr := 0x900400, shape := .row 4 256, key := none, half := .whole,
    fields := [fSNF_SUSP_SET, fSNF_SUSP_VALID] },
  { addr := 0x900800, shape := .row 4 1024, key := none, half := .whole,
    fields := [fSNF_RET_SET, fSNF_RET_WAY, fSNF_RET_VALID] },
  { addr := 0x902000, shape := .one, key := none, half := .whole,
    fields := [fSNF_DIAGSEL_SLICE, fSNF_DIAGSEL_SET, fSNF_DIAGSEL_WAY, fSNF_DIAGSEL_GO] },
  { addr := 0x902004, shape := .row 4 4, key := none, half := .whole,
    fields := [fSNF_DIAGDATA_DATA] },
  { addr := 0x902014, shape := .one, key := none, half := .whole,
    fields := [fSNF_DIAGSTAT_DONE, fSNF_DIAGSTAT_ECCERR, fSNF_DIAGSTAT_PINNED] }]

def tableXLT0 : List RegDesc := [
  { addr := 0xb00000, shape := .one, key := none, half := .whole,
    fields := [fXLT_CTL_OWNSPAN, fXLT_CTL_OWNVALID] },
  { addr := 0xb00040, shape := .row 4 16, key := none, half := .whole,
    fields := [fXLT_SPAN_SPAN, fXLT_SPAN_VALID] },
  { addr := 0xb00100, shape := .one, key := none, half := .whole,
    fields := [fXLT_MAPIDX_INDEX] },
  { addr := 0xb00104, shape := .one, key := none, half := .low,
    fields := [fXLT_MAPRD_L_ENTRY_L] },
  { addr := 0xb00108, shape := .one, key := none, half := .high,
    fields := [fXLT_MAPRD_H_ENTRY_H] },
  { addr := 0xb0010c, shape := .one, key := none, half := .low,
    fields := [fXLT_MAPWR_L_ENTRY_L] },
  { addr := 0xb00110, shape := .one, key := none, half := .high,
    fields := [fXLT_MAPWR_H_ENTRY_H] },
  { addr := 0xb00114, shape := .one, key := some 0x3c, half := .whole,
    fields := [fXLT_MAPCMD_OP, fXLT_MAPCMD_ZERO, fXLT_MAPCMD_TIMED, fXLT_MAPCMD_KEY] },
  { addr := 0xb00118, shape := .one, key := none, half := .whole,
    fields := [fXLT_MAPSTAT_RESULT, fXLT_MAPSTAT_BUSY, fXLT_MAPSTAT_QUEUED, fXLT_MAPSTAT_DRAIN, fXLT_MAPSTAT_G] },
  { addr := 0xb0011c, shape := .one, key := none, half := .whole,
    fields := [fXLT_MAPTIME_NS_NS] },
  { addr := 0xb00120, shape := .one, key := none, half := .whole,
    fields := [fXLT_MAPTIME_SECL_SECL] },
  { addr := 0xb00124, shape := .one, key := none, half := .whole,
    fields := [fXLT_MAPTIME_SECH_SECH] },
  { addr := 0xb00128, shape := .one, key := none, half := .whole,
    fields := [fXLT_DRAINCNT_OLDINFL] },
  { addr := 0xb0012c, shape := .one, key := none, half := .whole,
    fields := [fXLT_MAPTFAIL_INDEX, fXLT_MAPTFAIL_OP, fXLT_MAPTFAIL_RESULT, fXLT_MAPTFAIL_VALID] },
  { addr := 0xb00140, shape := .one, key := none, half := .whole,
    fields := [fXLT_SGSEL_GROUP, fXLT_SGSEL_WORD] },
  { addr := 0xb00144, shape := .selected .sgWord, key := none, half := .whole,
    fields := [fXLT_SGDATA_MASK] },
  { addr := 0xb00148, shape := .selected .sgGroup, key := none, half := .whole,
    fields := [fXLT_SGREFS_REFS] },
  { addr := 0xb00150, shape := .row 4 2, key := none, half := .whole,
    fields := [fXLT_POOLPORT_POOL] },
  { addr := 0xb00180, shape := .one, key := none, half := .whole,
    fields := [fXLT_DENY_PORT, fXLT_DENY_NODE, fXLT_DENY_REASON, fXLT_DENY_VALID] },
  { addr := 0xb00184, shape := .one, key := none, half := .low,
    fields := [fXLT_DENYADDR_L_ADDR_L] }]

def tableXLT1 : List RegDesc := [
  { addr := 0xb00188, shape := .one, key := none, half := .high,
    fields := [fXLT_DENYADDR_H_ADDR_H] },
  { addr := 0xb0018c, shape := .one, key := none, half := .whole,
    fields := [fXLT_ERR_DENY, fXLT_ERR_SPANERR, fXLT_ERR_ECCCOR] },
  { addr := 0xb00190, shape := .one, key := none, half := .whole,
    fields := [fXLT_MAPERR_INDEX, fXLT_MAPERR_VALID] },
  { addr := 0xb00200, shape := .one, key := none, half := .whole,
    fields := [fXLT_WCTIME_NS_NS] },
  { addr := 0xb00204, shape := .one, key := none, half := .whole,
    fields := [fXLT_WCTIME_SECL_SECL] },
  { addr := 0xb00208, shape := .one, key := none, half := .whole,
    fields := [fXLT_WCTIME_SECH_SECH] },
  { addr := 0xb01000, shape := .row 4 64, key := some 0xe1, half := .whole,
    fields := [fXLT_WCOMMIT_GO, fXLT_WCOMMIT_TIMED, fXLT_WCOMMIT_KEY] },
  { addr := 0xb01100, shape := .row 4 64, key := none, half := .whole,
    fields := [fXLT_WSTAT_BUSY, fXLT_WSTAT_DRAIN, fXLT_WSTAT_PEND, fXLT_WSTAT_GEN, fXLT_WSTAT_OLDINFL] },
  { addr := 0xb10000, shape := .row 16 1024, key := none, half := .whole,
    fields := [fXLT_HDMX_FAB] },
  { addr := 0xb10004, shape := .row 16 1024, key := none, half := .whole,
    fields := [fXLT_HDMX_FABBASE] },
  { addr := 0xb80000, shape := .row 4 0x10000, key := none, half := .whole,
    fields := [fXLT_WINSH_WORD] },
  { addr := 0xbc0000, shape := .row 4 0x10000, key := none, half := .whole,
    fields := [fXLT_WINACT_WORD] }]

def tableCHK0 : List RegDesc := [
  { addr := 0xd00000, shape := .one, key := none, half := .whole,
    fields := [fCHK_CTL_PRECED] },
  { addr := 0xd00010, shape := .one, key := none, half := .whole,
    fields := [fCHK_RSEL_GATE, fCHK_RSEL_RULE, fCHK_RSEL_COPY] },
  { addr := 0xd00020, shape := .row 4 8, key := none, half := .whole,
    fields := [fCHK_RDATA_DATA] },
  { addr := 0xd00040, shape := .one, key := some 0x5c, half := .whole,
    fields := [fCHK_SCLR_GATE, fCHK_SCLR_KEY] },
  { addr := 0xd00050, shape := .row 4 3, key := none, half := .whole,
    fields := [fCHK_CMASK_GATES] },
  { addr := 0xd00060, shape := .one, key := some 0x5c, half := .whole,
    fields := [fCHK_CMD_OP, fCHK_CMD_TIMED, fCHK_CMD_TAG, fCHK_CMD_KEY] },
  { addr := 0xd00064, shape := .one, key := none, half := .whole,
    fields := [fCHK_CTIME_NS_NS] },
  { addr := 0xd00068, shape := .one, key := none, half := .whole,
    fields := [fCHK_CTIME_SECL_SECL] },
  { addr := 0xd0006c, shape := .one, key := none, half := .whole,
    fields := [fCHK_CTIME_SECH_SECH] },
  { addr := 0xd00070, shape := .one, key := none, half := .whole,
    fields := [fCHK_LOADSTAT_RESULT, fCHK_LOADSTAT_BUSY, fCHK_LOADSTAT_TAG, fCHK_LOADSTAT_PENDCNT] },
  { addr := 0xd00074, shape := .one, key := none, half := .whole,
    fields := [fCHK_LOADERR_GATE, fCHK_LOADERR_RULEA, fCHK_LOADERR_RULEB] },
  { addr := 0xd00080, shape := .one, key := none, half := .whole,
    fields := [fCHK_DENY_GATE, fCHK_DENY_RULE, fCHK_DENY_NORULE, fCHK_DENY_REASON, fCHK_DENY_CLASS, fCHK_DENY_NODE, fCHK_DENY_VALID] },
  { addr := 0xd00084, shape := .one, key := none, half := .low,
    fields := [fCHK_DENYADDR_L_ADDR_L] },
  { addr := 0xd00088, shape := .one, key := none, half := .high,
    fields := [fCHK_DENYADDR_H_ADDR_H] },
  { addr := 0xd0008c, shape := .one, key := none, half := .whole,
    fields := [fCHK_DENYID_PORT, fCHK_DENYID_TENANT] },
  { addr := 0xd00090, shape := .one, key := none, half := .whole,
    fields := [fCHK_ERR_DENY, fCHK_ERR_ECCCOR, fCHK_ERR_GATEFLT, fCHK_ERR_FLTVALID] },
  { addr := 0xd000fc, shape := .one, key := none, half := .whole,
    fields := [fCHK_DBGPTR_NEXT] },
  { addr := 0xd00100, shape := .row 32 16, key := none, half := .whole,
    fields := [fCHK_DBGLOG_NS] },
  { addr := 0xd00104, shape := .row 32 16, key := none, half := .whole,
    fields := [fCHK_DBGLOG_SECL] },
  { addr := 0xd00108, shape := .row 32 16, key := none, half := .whole,
    fields := [fCHK_DBGLOG_SECH, fCHK_DBGLOG_GATE, fCHK_DBGLOG_WRITE, fCHK_DBGLOG_PATH, fCHK_DBGLOG_VALID] }]

def tableCHK1 : List RegDesc := [
  { addr := 0xd0010c, shape := .row 32 16, key := none, half := .whole,
    fields := [fCHK_DBGLOG_RULE] },
  { addr := 0xd00110, shape := .row 32 16, key := none, half := .low,
    fields := [fCHK_DBGLOG_ADDR_L] },
  { addr := 0xd00114, shape := .row 32 16, key := none, half := .high,
    fields := [fCHK_DBGLOG_ADDR_H] },
  { addr := 0xd01000, shape := .row 32 65, key := none, half := .whole,
    fields := [fCHK_GATE_MISS, fCHK_GATE_SMISS] },
  { addr := 0xd01004, shape := .row 32 65, key := none, half := .whole,
    fields := [fCHK_GATE_NRULES, fCHK_GATE_EPOCH, fCHK_GATE_DRAIN, fCHK_GATE_PEND, fCHK_GATE_SBUSY, fCHK_GATE_FAILED] },
  { addr := 0xd01008, shape := .row 32 65, key := none, half := .whole,
    fields := [fCHK_GATE_OLDINFL] },
  { addr := 0xd0100c, shape := .row 32 65, key := none, half := .whole,
    fields := [fCHK_GATE_DENIES] }]

def tableRUN : List RegDesc := [
  { addr := 0xf00000, shape := .one, key := none, half := .whole,
    fields := [fRUN_CTL_WCIDLE, fRUN_CTL_DEVEARLY, fRUN_CTL_RTO, fRUN_CTL_WCRING] },
  { addr := 0xf00004, shape := .one, key := none, half := .whole,
    fields := [fRUN_ENABLE_EN] },
  { addr := 0xf00008, shape := .one, key := none, half := .whole,
    fields := [fRUN_PAUSE_PAUSE] },
  { addr := 0xf0000c, shape := .one, key := none, half := .whole,
    fields := [fRUN_ERR_WTO, fRUN_ERR_BADDESC, fRUN_ERR_FETCHERR] },
  { addr := 0xf00010, shape := .one, key := none, half := .whole,
    fields := [fRUN_DEAD_RING, fRUN_DEAD_ENGINE, fRUN_DEAD_SPACE, fRUN_DEAD_VALID] },
  { addr := 0xf00014, shape := .one, key := none, half := .low,
    fields := [fRUN_DEADADDR_L_ADDR_L] },
  { addr := 0xf00018, shape := .one, key := none, half := .high,
    fields := [fRUN_DEADADDR_H_ADDR_H] },
  { addr := 0xf00020, shape := .one, key := none, half := .whole,
    fields := [fRUN_RSEL_RING] },
  { addr := 0xf00024, shape := .selected .ring, key := none, half := .whole,
    fields := [fRUN_RCTX0_EN, fRUN_RCTX0_OWNER, fRUN_RCTX0_SLOT, fRUN_RCTX0_ENGINE, fRUN_RCTX0_WEIGHT, fRUN_RCTX0_TC] },
  { addr := 0xf00028, shape := .selected .ring, key := none, half := .whole,
    fields := [fRUN_RCTX1_STATE, fRUN_RCTX1_HEAD] },
  { addr := 0xf0002c, shape := .selected .ring, key := none, half := .whole,
    fields := [fRUN_RCTX2_DONE] },
  { addr := 0xf00100, shape := .row 16 32, key := none, half := .whole,
    fields := [fRUN_ENG_WCUSED, fRUN_ENG_READS, fRUN_ENG_PAUSED, fRUN_ENG_RINGS] }]

def tableVFRING : List RegDesc := [
  { addr := 0x2000000000, shape := .row 256 0x20000, key := none, half := .whole,
    fields := [fVF_RING_TAIL] },
  { addr := 0x2000000004, shape := .row 256 0x20000, key := none, half := .whole,
    fields := [fVF_RING_CQHEAD] },
  { addr := 0x2000000008, shape := .row 256 0x20000, key := none, half := .low,
    fields := [fVF_RING_RBASE_L] },
  { addr := 0x200000000c, shape := .row 256 0x20000, key := none, half := .high,
    fields := [fVF_RING_RBASE_H] },
  { addr := 0x2000000010, shape := .row 256 0x20000, key := none, half := .low,
    fields := [fVF_RING_CQBASE_L] },
  { addr := 0x2000000014, shape := .row 256 0x20000, key := none, half := .high,
    fields := [fVF_RING_CQBASE_H] },
  { addr := 0x2000000018, shape := .row 256 0x20000, key := none, half := .whole,
    fields := [fVF_RING_RSIZE, fVF_RING_CQSIZE, fVF_RING_VEC, fVF_RING_STOPONERR] },
  { addr := 0x200000001c, shape := .row 256 0x20000, key := none, half := .whole,
    fields := [fVF_RING_EN, fVF_RING_RESUME] },
  { addr := 0x2000000020, shape := .row 256 0x20000, key := none, half := .whole,
    fields := [fVF_RING_STATE, fVF_RING_HEAD, fVF_RING_DBERR, fVF_RING_CFGREJ, fVF_RING_PHASE] },
  { addr := 0x2000000024, shape := .row 256 0x20000, key := none, half := .whole,
    fields := [fVF_RING_LASTST, fVF_RING_LASTIDX] }]

def tableWEIR0 : List RegDesc := [
  { addr := 0xe00000, shape := .one, key := none, half := .whole,
    fields := [fWEIR_CTL_POLICE, fWEIR_CTL_YLVL] },
  { addr := 0xe00004, shape := .one, key := none, half := .whole,
    fields := [fWEIR_HELD_LISTS, fWEIR_HELD_MAXLISTS] },
  { addr := 0xe00008, shape := .one, key := none, half := .whole,
    fields := [fWEIR_ERR_HOLWAIT, fWEIR_ERR_ECCCOR, fWEIR_ERR_SHFAULT, fWEIR_ERR_ROTFAULT] },
  { addr := 0xe00010, shape := .one, key := none, half := .whole,
    fields := [fWEIR_TSEL_TENANT] },
  { addr := 0xe00014, shape := .selected .weirTenant, key := none, half := .whole,
    fields := [fWEIR_TTOKC_TOKC] },
  { addr := 0xe00018, shape := .selected .weirTenant, key := none, half := .whole,
    fields := [fWEIR_TTOKP_TOKP] },
  { addr := 0xe0001c, shape := .selected .weirTenant, key := none, half := .whole,
    fields := [fWEIR_THELD_HELD] },
  { addr := 0xe02000, shape := .row 128 72, key := none, half := .whole,
    fields := [fWEIR_EG_ROTEN, fWEIR_EG_GUARD, fWEIR_EG_LENOVH] },
  { addr := 0xe02004, shape := .row 128 72, key := none, half := .whole,
    fields := [fWEIR_EG_ENTRY, fWEIR_EG_ACTIVE, fWEIR_EG_PEND, fWEIR_EG_RESULT] },
  { addr := 0xe02008, shape := .row 128 72, key := none, half := .whole,
    fields := [fWEIR_EG_BASE_NS] },
  { addr := 0xe0200c, shape := .row 128 72, key := none, half := .whole,
    fields := [fWEIR_EG_BASE_SECL] },
  { addr := 0xe02010, shape := .row 128 72, key := none, half := .whole,
    fields := [fWEIR_EG_BASE_SECH] },
  { addr := 0xe02014, shape := .row 128 72, key := none, half := .whole,
    fields := [fWEIR_EG_CYCLE] },
  { addr := 0xe02018, shape := .row 128 72, key := none, half := .whole,
    fields := [fWEIR_EG_NENT] },
  { addr := 0xe0201c, shape := .row 128 72, key := some 0xa7, half := .whole,
    fields := [fWEIR_EG_GO, fWEIR_EG_CANCEL, fWEIR_EG_KEY] },
  { addr := 0xe02020, shape := .grid 128 72 4 8, key := none, half := .whole,
    fields := [fWEIR_EG_SP, fWEIR_EG_PRIO, fWEIR_EG_WEIGHT] },
  { addr := 0xe02040, shape := .row 128 72, key := none, half := .whole,
    fields := [fWEIR_EG_ABASE_NS] },
  { addr := 0xe02044, shape := .row 128 72, key := none, half := .whole,
    fields := [fWEIR_EG_ABASE_SECL] },
  { addr := 0xe02048, shape := .row 128 72, key := none, half := .whole,
    fields := [fWEIR_EG_ABASE_SECH] },
  { addr := 0xe0204c, shape := .row 128 72, key := none, half := .whole,
    fields := [fWEIR_EG_ACYCLE] }]

def tableWEIR1 : List RegDesc := [
  { addr := 0xe02050, shape := .row 128 72, key := none, half := .whole,
    fields := [fWEIR_EG_ANENT] },
  { addr := 0xe02054, shape := .row 128 72, key := none, half := .whole,
    fields := [fWEIR_EG_CYCNUM] },
  { addr := 0xe05000, shape := .row 8 576, key := none, half := .whole,
    fields := [fWEIR_PCSH_RATE] },
  { addr := 0xe05004, shape := .row 8 576, key := none, half := .whole,
    fields := [fWEIR_PCSH_BURST] },
  { addr := 0xe07000, shape := .row 4 64, key := none, half := .whole,
    fields := [fWEIR_TDEF_TENANT] },
  { addr := 0xe07400, shape := .row 4 1024, key := none, half := .whole,
    fields := [fWEIR_TDEC_TENANT, fWEIR_TDEC_OVR] },
  { addr := 0xe10000, shape := .row 4 0x4000, key := none, half := .whole,
    fields := [fWEIR_TWIN_TENANT, fWEIR_TWIN_OVR] },
  { addr := 0xe20000, shape := .row 16 0x2000, key := none, half := .whole,
    fields := [fWEIR_TSH_CIR, fWEIR_TSH_EN] },
  { addr := 0xe20004, shape := .row 16 0x2000, key := none, half := .whole,
    fields := [fWEIR_TSH_PIR] },
  { addr := 0xe20008, shape := .row 16 0x2000, key := none, half := .whole,
    fields := [fWEIR_TSH_CBS] },
  { addr := 0xe2000c, shape := .row 16 0x2000, key := none, half := .whole,
    fields := [fWEIR_TSH_PBS] },
  { addr := 0xe40000, shape := .row 4 0x12000, key := none, half := .whole,
    fields := [fWEIR_ROTA_MASK, fWEIR_ROTA_DUR] },
  { addr := 0xe90000, shape := .row 4 0x12000, key := none, half := .whole,
    fields := [fWEIR_ROTO_MASK, fWEIR_ROTO_DUR] }]

def tableVFMB : List RegDesc := [
  { addr := 0x1000000000, shape := .grid 0x1000 0x2000 4 64, key := none, half := .whole,
    fields := [fVF_MB_REQ] },
  { addr := 0x1000000100, shape := .grid 0x1000 0x2000 4 64, key := none, half := .whole,
    fields := [fVF_MB_RSP] },
  { addr := 0x1000000200, shape := .row 0x1000 0x2000, key := none, half := .whole,
    fields := [fVF_MB_LEN] },
  { addr := 0x1000000204, shape := .row 0x1000 0x2000, key := none, half := .whole,
    fields := [fVF_MB_MSTATE, fVF_MB_SEQ, fVF_MB_STATUS, fVF_MB_DBERR] },
  { addr := 0x1000000208, shape := .row 0x1000 0x2000, key := none, half := .whole,
    fields := [fVF_MB_RSPLEN] },
  { addr := 0x100000020c, shape := .row 0x1000 0x2000, key := none, half := .whole,
    fields := [fVF_MB_RVEC, fVF_MB_RIEN, fVF_MB_NVEC, fVF_MB_NIEN] },
  { addr := 0x1000000210, shape := .row 0x1000 0x2000, key := none, half := .whole,
    fields := [fVF_MB_NOTICE] },
  { addr := 0x1000000214, shape := .row 0x1000 0x2000, key := none, half := .whole,
    fields := [fVF_MB_STATE, fVF_MB_TI, fVF_MB_NODE] },
  { addr := 0x1000000218, shape := .row 0x1000 0x2000, key := none, half := .whole,
    fields := [fVF_MB_ACK] },
  { addr := 0x1000000800, shape := .grid 0x1000 0x2000 16 4, key := none, half := .whole,
    fields := [fVF_MSIX_ADDR_L] },
  { addr := 0x1000000804, shape := .grid 0x1000 0x2000 16 4, key := none, half := .whole,
    fields := [fVF_MSIX_ADDR_H] },
  { addr := 0x1000000808, shape := .grid 0x1000 0x2000 16 4, key := none, half := .whole,
    fields := [fVF_MSIX_DATA] },
  { addr := 0x100000080c, shape := .grid 0x1000 0x2000 16 4, key := none, half := .whole,
    fields := [fVF_MSIX_MASK] },
  { addr := 0x1000000c00, shape := .row 0x1000 0x2000, key := none, half := .whole,
    fields := [fVF_PBA_PEND] }]

def tableTEN0 : List RegDesc := [
  { addr := 0x1000000, shape := .one, key := none, half := .whole,
    fields := [fTEN_CTL_MBTO, fTEN_CTL_QTO, fTEN_CTL_COAL] },
  { addr := 0x1000004, shape := .one, key := none, half := .whole,
    fields := [fTEN_SEL_TI] },
  { addr := 0x1000008, shape := .selected .tenant, key := none, half := .whole,
    fields := [fTEN_TISTAT_STATE, fTEN_TISTAT_PORT, fTEN_TISTAT_FORCED, fTEN_TISTAT_UNPLANNED, fTEN_TISTAT_FAULT] },
  { addr := 0x100000c, shape := .one, key := some 0x71, half := .whole,
    fields := [fTEN_TICMD_OP, fTEN_TICMD_KEY] },
  { addr := 0x1000010, shape := .selected .tenant, key := none, half := .whole,
    fields := [fTEN_TIRES_RESULT] },
  { addr := 0x1000014, shape := .selected .tenant, key := none, half := .whole,
    fields := [fTEN_RECOV_COUNT] },
  { addr := 0x1000020, shape := .selected .tenant, key := none, half := .whole,
    fields := [fTEN_MBSTAT_MSTATE, fTEN_MBSTAT_SEQ, fTEN_MBSTAT_REQLEN] },
  { addr := 0x1000024, shape := .selected .tenant, key := none, half := .whole,
    fields := [fTEN_MBRSPHDR_RSPLEN, fTEN_MBRSPHDR_STATUS] },
  { addr := 0x1000028, shape := .one, key := some 0x4d, half := .whole,
    fields := [fTEN_MBCMD_SEQ, fTEN_MBCMD_KEY] },
  { addr := 0x100002c, shape := .one, key := none, half := .whole,
    fields := [fTEN_NOTICE_BITS] },
  { addr := 0x1000030, shape := .one, key := none, half := .whole,
    fields := [fTEN_ERR_MBTO, fTEN_ERR_STALE, fTEN_ERR_DBERR] },
  { addr := 0x1000040, shape := .row 4 8, key := none, half := .whole,
    fields := [fTEN_PSUM_SUM] },
  { addr := 0x1000400, shape := .row 4 256, key := none, half := .whole,
    fields := [fTEN_PEND_PEND] },
  { addr := 0x1000060, shape := .selected .tenant, key := none, half := .whole,
    fields := [fTEN_LOGCTL_EN, fTEN_LOGCTL_LPORT] },
  { addr := 0x1000064, shape := .selected .tenant, key := none, half := .low,
    fields := [fTEN_LOG_LOGLO_L] },
  { addr := 0x1000068, shape := .selected .tenant, key := none, half := .high,
    fields := [fTEN_LOG_LOGLO_H] },
  { addr := 0x100006c, shape := .selected .tenant, key := none, half := .whole,
    fields := [fTEN_LOG_PAGES] },
  { addr := 0x1000070, shape := .selected .tenant, key := none, half := .low,
    fields := [fTEN_LOG_B0_L] },
  { addr := 0x1000074, shape := .selected .tenant, key := none, half := .high,
    fields := [fTEN_LOG_B0_H] },
  { addr := 0x1000078, shape := .selected .tenant, key := none, half := .low,
    fields := [fTEN_LOG_B1_L] }]

def tableTEN1 : List RegDesc := [
  { addr := 0x100007c, shape := .selected .tenant, key := none, half := .high,
    fields := [fTEN_LOG_B1_H] },
  { addr := 0x1000080, shape := .one, key := some 0x6b, half := .whole,
    fields := [fTEN_LOGCMD_FLIP, fTEN_LOGCMD_KEY] },
  { addr := 0x1000084, shape := .selected .tenant, key := none, half := .whole,
    fields := [fTEN_LOGSTAT_BUF, fTEN_LOGSTAT_BUSY, fTEN_LOGSTAT_OVF, fTEN_LOGSTAT_LERR, fTEN_LOGSTAT_LOST] },
  { addr := 0x1000090, shape := .one, key := some 0x2e, half := .whole,
    fields := [fTEN_CTXCMD_OP, fTEN_CTXCMD_KEY] },
  { addr := 0x1000094, shape := .one, key := none, half := .whole,
    fields := [fTEN_CTXSTAT_RESULT, fTEN_CTXSTAT_SKIP] },
  { addr := 0x1000800, shape := .row 4 512, key := none, half := .whole,
    fields := [fTEN_CTX_DATA] },
  { addr := 0x1000200, shape := .row 4 64, key := none, half := .whole,
    fields := [fTEN_RSPSTAGE_DATA] }]

def tableACQ : List RegDesc := [
  { addr := 0x1100000, shape := .one, key := none, half := .whole,
    fields := [fACQ_CTL_WDOG, fACQ_CTL_DRAINMAX, fACQ_CTL_WDOGEN] },
  { addr := 0x1100004, shape := .one, key := none, half := .whole,
    fields := [fACQ_ERR_ECCCOR, fACQ_ERR_HDRERR, fACQ_ERR_PAYUNC, fACQ_ERR_WEDGE] },
  { addr := 0x1100008, shape := .one, key := none, half := .whole,
    fields := [fACQ_LASTERR_NODE, fACQ_LASTERR_PORT, fACQ_LASTERR_VC, fACQ_LASTERR_KIND, fACQ_LASTERR_VALID] },
  { addr := 0x1100010, shape := .one, key := none, half := .whole,
    fields := [fACQ_DOMSEL_DOM] },
  { addr := 0x1100014, shape := .selected .domain, key := none, half := .whole,
    fields := [fACQ_DOMSTAT_STATE, fACQ_DOMSTAT_DRAINTO, fACQ_DOMSTAT_OFFREQ, fACQ_DOMSTAT_ORPHAN] },
  { addr := 0x1100020, shape := .one, key := some 0x8e, half := .whole,
    fields := [fACQ_RSCTL_SNAP, fACQ_RSCTL_AUTO, fACQ_RSCTL_BANK, fACQ_RSCTL_KEY] },
  { addr := 0x1100024, shape := .one, key := none, half := .whole,
    fields := [fACQ_RSTIME_NS_NS] },
  { addr := 0x1100028, shape := .one, key := none, half := .whole,
    fields := [fACQ_RSTIME_SECL_SECL] },
  { addr := 0x110002c, shape := .one, key := none, half := .whole,
    fields := [fACQ_RSTIME_SECH_SECH, fACQ_RSTIME_SECH_QUAL] },
  { addr := 0x1100030, shape := .one, key := none, half := .whole,
    fields := [fACQ_RSSEL_TENANT] },
  { addr := 0x1100040, shape := .row 4 8, key := none, half := .whole,
    fields := [fACQ_RSDATA_DATA] },
  { addr := 0x1100100, shape := .row 64 8, key := none, half := .whole,
    fields := [fACQ_PRB_EN, fACQ_PRB_NODE, fACQ_PRB_PORT, fACQ_PRB_DIR, fACQ_PRB_CLASS, fACQ_PRB_VCMASK, fACQ_PRB_ACTION, fACQ_PRB_WRAP] },
  { addr := 0x1100104, shape := .row 64 8, key := none, half := .whole,
    fields := [fACQ_PRB_SRCNODE, fACQ_PRB_SRCANY, fACQ_PRB_DSTNODE, fACQ_PRB_DSTANY, fACQ_PRB_TCMASK] },
  { addr := 0x1100108, shape := .row 64 8, key := none, half := .whole,
    fields := [fACQ_PRB_TENANT, fACQ_PRB_TENANY, fACQ_PRB_INITLO, fACQ_PRB_INITHI, fACQ_PRB_INITANY] },
  { addr := 0x110010c, shape := .row 64 8, key := none, half := .whole,
    fields := [fACQ_PRB_PKTS] },
  { addr := 0x1100110, shape := .row 64 8, key := none, half := .whole,
    fields := [fACQ_PRB_FLITS] },
  { addr := 0x1100114, shape := .row 64 8, key := none, half := .whole,
    fields := [fACQ_PRB_TBASE, fACQ_PRB_TLEN] },
  { addr := 0x1100118, shape := .row 64 8, key := none, half := .whole,
    fields := [fACQ_PRB_WPTR, fACQ_PRB_FULL] },
  { addr := 0x1110000, shape := .row 4 0x4000, key := none, half := .whole,
    fields := [fACQ_TRACE_DATA] }]

def tableSPW0 : List RegDesc := [
  { addr := 0x1200000, shape := .one, key := none, half := .whole,
    fields := [fSPW_CTL_ARMED, fSPW_CTL_ZL25, fSPW_CTL_WTESTEN, fSPW_CTL_PROMISE, fSPW_CTL_WTEST, fSPW_CTL_RLIM] },
  { addr := 0x1200004, shape := .one, key := none, half := .whole,
    fields := [fSPW_QUIET_MS] },
  { addr := 0x1200008, shape := .one, key := none, half := .whole,
    fields := [fSPW_FLAPWIN_SEC] },
  { addr := 0x120000c, shape := .one, key := none, half := .whole,
    fields := [fSPW_NOTIF_COAL] },
  { addr := 0x1200010, shape := .one, key := none, half := .whole,
    fields := [fSPW_STATUS_STICKY, fSPW_STATUS_HELD, fSPW_STATUS_MISMATCH] },
  { addr := 0x1200014, shape := .one, key := some 0x3b, half := .whole,
    fields := [fSPW_INJ_SOURCE, fSPW_INJ_KEY] },
  { addr := 0x1200020, shape := .one, key := none, half := .whole,
    fields := [fSPW_FIRST_SOURCE, fSPW_FIRST_WIRE, fSPW_FIRST_QUAL, fSPW_FIRST_VALID] },
  { addr := 0x1200024, shape := .one, key := none, half := .whole,
    fields := [fSPW_FIRSTNS_NS] },
  { addr := 0x1200028, shape := .one, key := none, half := .whole,
    fields := [fSPW_FIRSTSECL_SECL] },
  { addr := 0x120002c, shape := .one, key := none, half := .whole,
    fields := [fSPW_FIRSTSECH_SECH] },
  { addr := 0x1200030, shape := .one, key := none, half := .whole,
    fields := [fSPW_LAST_SOURCE, fSPW_LAST_WIRE, fSPW_LAST_QUAL, fSPW_LAST_VALID] },
  { addr := 0x1200034, shape := .one, key := none, half := .whole,
    fields := [fSPW_LASTNS_NS] },
  { addr := 0x1200038, shape := .one, key := none, half := .whole,
    fields := [fSPW_LASTSECL_SECL] },
  { addr := 0x120003c, shape := .one, key := none, half := .whole,
    fields := [fSPW_LASTSECH_SECH] },
  { addr := 0x1200040, shape := .one, key := none, half := .whole,
    fields := [fSPW_GSUM_STICKY, fSPW_GSUM_WIRE] },
  { addr := 0x1200100, shape := .row 4 32, key := none, half := .whole,
    fields := [fSPW_STK_STK] },
  { addr := 0x1200180, shape := .row 4 32, key := none, half := .whole,
    fields := [fSPW_RAW_RAW] },
  { addr := 0x1200200, shape := .row 4 32, key := none, half := .whole,
    fields := [fSPW_MASK_MASK] },
  { addr := 0x1200280, shape := .row 4 32, key := none, half := .whole,
    fields := [fSPW_WFLT_WFLT] },
  { addr := 0x1201000, shape := .row 4 1024, key := none, half := .whole,
    fields := [fSPW_RCT_REACT, fSPW_RCT_NOREC, fSPW_RCT_SINGLE, fSPW_RCT_RAIL, fSPW_RCT_INJ, fSPW_RCT_STATE, fSPW_RCT_FLAP, fSPW_RCT_RCNT] }]

def tableSPW1 : List RegDesc := [
  { addr := 0x1202000, shape := .row 4 64, key := none, half := .whole,
    fields := [fSPW_CPLTO_US] }]

def tableSLU : List RegDesc := [
  { addr := 0x1300000, shape := .one, key := none, half := .whole,
    fields := [fSLU_CTL_MAXRAMP, fSLU_CTL_REFTRIM, fSLU_CTL_FEEDRET] },
  { addr := 0x1300100, shape := .row 32 4, key := none, half := .whole,
    fields := [fSLU_FEED_FSFS] },
  { addr := 0x1300104, shape := .row 32 4, key := none, half := .whole,
    fields := [fSLU_FEED_UV, fSLU_FEED_OV] },
  { addr := 0x1300108, shape := .row 32 4, key := none, half := .whole,
    fields := [fSLU_FEED_VA, fSLU_FEED_VB] },
  { addr := 0x130010c, shape := .row 32 4, key := none, half := .whole,
    fields := [fSLU_FEED_AGOOD, fSLU_FEED_BGOOD] },
  { addr := 0x1301000, shape := .row 256 32, key := none, half := .whole,
    fields := [fSLU_CFG_EN, fSLU_CFG_AUTO, fSLU_CFG_PRIO, fSLU_CFG_FEEDS] },
  { addr := 0x1301004, shape := .row 256 32, key := none, half := .whole,
    fields := [fSLU_VNOM_VNOM, fSLU_VNOM_VFS] },
  { addr := 0x1301008, shape := .row 256 32, key := none, half := .whole,
    fields := [fSLU_RATED_RATED, fSLU_RATED_ISFS] },
  { addr := 0x130100c, shape := .row 256 32, key := none, half := .whole,
    fields := [fSLU_TRIPCFG_FTMULT] },
  { addr := 0x1301010, shape := .row 256 32, key := none, half := .whole,
    fields := [fSLU_PGCFG_PGLO, fSLU_PGCFG_PGOV, fSLU_PGCFG_PRESDB, fSLU_PGCFG_RAMPMAX] },
  { addr := 0x1301020, shape := .row 256 32, key := none, half := .whole,
    fields := [fSLU_SLOW0_LEVEL, fSLU_SLOW0_TIME] },
  { addr := 0x1301024, shape := .row 256 32, key := none, half := .whole,
    fields := [fSLU_SLOW1_LEVEL, fSLU_SLOW1_TIME] },
  { addr := 0x1301028, shape := .row 256 32, key := none, half := .whole,
    fields := [fSLU_SLOW2_LEVEL, fSLU_SLOW2_TIME] },
  { addr := 0x130102c, shape := .row 256 32, key := none, half := .whole,
    fields := [fSLU_SLOW3_LEVEL, fSLU_SLOW3_TIME] },
  { addr := 0x1301040, shape := .grid 256 32 4 16, key := none, half := .whole,
    fields := [fSLU_CURVE_RATE] },
  { addr := 0x1301080, shape := .row 256 32, key := some 0x5e, half := .whole,
    fields := [fSLU_CMD_OP, fSLU_CMD_KEY] },
  { addr := 0x1301084, shape := .row 256 32, key := none, half := .whole,
    fields := [fSLU_STAT_STATE, fSLU_STAT_FEED, fSLU_STAT_PG, fSLU_STAT_PRES, fSLU_STAT_CAUSE, fSLU_STAT_CAUSEK, fSLU_STAT_FTIMER, fSLU_STAT_SEG, fSLU_STAT_WAITRAMP, fSLU_STAT_NOFEED] },
  { addr := 0x1301088, shape := .row 256 32, key := none, half := .whole,
    fields := [fSLU_MEAS_VOUT, fSLU_MEAS_IMEAS] },
  { addr := 0x130108c, shape := .row 256 32, key := none, half := .whole,
    fields := [fSLU_MEAS2_VIN, fSLU_MEAS2_IPEAK] },
  { addr := 0x1301090, shape := .row 256 32, key := none, half := .whole,
    fields := [fSLU_ERR_TRIPS, fSLU_ERR_SWITCHES, fSLU_ERR_ISO] }]

def tableFLM0 : List RegDesc := [
  { addr := 0x1400000, shape := .one, key := none, half := .whole,
    fields := [fFLM_CTL_EPSEC, fFLM_CTL_LATEMS] },
  { addr := 0x1400004, shape := .one, key := none, half := .whole,
    fields := [fFLM_STAT_BANKBUSY, fFLM_STAT_LASTRES0, fFLM_STAT_LASTRES1] },
  { addr := 0x1400008, shape := .one, key := none, half := .low,
    fields := [fFLM_SNAPSEQ_L_SEQ_L] },
  { addr := 0x140000c, shape := .one, key := none, half := .high,
    fields := [fFLM_SNAPSEQ_H_SEQ_H] },
  { addr := 0x1400010, shape := .one, key := none, half := .whole,
    fields := [fFLM_SKIP_SKIPPED] },
  { addr := 0x1400014, shape := .one, key := none, half := .whole,
    fields := [fFLM_ERR_WRFAIL, fFLM_ERR_LATE, fFLM_ERR_UNCID] },
  { addr := 0x1400018, shape := .one, key := some 0xf1, half := .whole,
    fields := [fFLM_SNAP_SNAP, fFLM_SNAP_KEY] },
  { addr := 0x140001c, shape := .one, key := some 0xd3, half := .whole,
    fields := [fFLM_ZERO_ID, fFLM_ZERO_KEY] },
  { addr := 0x1400020, shape := .one, key := none, half := .whole,
    fields := [fFLM_ECCCNT_ECCCOR] },
  { addr := 0x1400040, shape := .row 32 2, key := none, half := .whole,
    fields := [fFLM_RING_EN, fFLM_RING_SPACE, fFLM_RING_PORT, fFLM_RING_SLOTS] },
  { addr := 0x1400044, shape := .row 32 2, key := none, half := .low,
    fields := [fFLM_RING_BASE_L] },
  { addr := 0x1400048, shape := .row 32 2, key := none, half := .high,
    fields := [fFLM_RING_BASE_H] },
  { addr := 0x140004c, shape := .row 32 2, key := none, half := .low,
    fields := [fFLM_RING_RINGSEQ_L] },
  { addr := 0x1400050, shape := .row 32 2, key := none, half := .high,
    fields := [fFLM_RING_RINGSEQ_H] },
  { addr := 0x1400054, shape := .row 32 2, key := none, half := .whole,
    fields := [fFLM_RING_LASTOK_L] },
  { addr := 0x1400100, shape := .one, key := none, half := .whole,
    fields := [fFLM_CNTSEL_ID] },
  { addr := 0x1400104, shape := .selected .counter, key := none, half := .low,
    fields := [fFLM_CNT_L_LIVE_L] },
  { addr := 0x1400108, shape := .selected .counter, key := none, half := .high,
    fields := [fFLM_CNT_H_LIVE_H] },
  { addr := 0x140010c, shape := .selected .counter, key := none, half := .low,
    fields := [fFLM_SNP_L_SNAP_L] },
  { addr := 0x1400110, shape := .selected .counter, key := none, half := .high,
    fields := [fFLM_SNP_H_SNAP_H] }]

def tableFLM1 : List RegDesc := [
  { addr := 0x1400400, shape := .row 4 256, key := none, half := .whole,
    fields := [fFLM_TVIS_VIS] },
  { addr := 0x1400800, shape := .row 4 64, key := none, half := .whole,
    fields := [fFLM_TDPEND_PEND] },
  { addr := 0x1410000, shape := .row 8 3840, key := none, half := .whole,
    fields := [fFLM_EVT_EN, fFLM_EVT_EVT, fFLM_EVT_UNIT, fFLM_EVT_FEN, fFLM_EVT_FSEL, fFLM_EVT_PARAM] },
  { addr := 0x1410004, shape := .row 8 3840, key := none, half := .whole,
    fields := [fFLM_EVT_VIS, fFLM_EVT_TSLOT] },
  { addr := 0x1420000, shape := .row 32 256, key := none, half := .whole,
    fields := [fFLM_FILT_PRIV, fFLM_FILT_TCMASK, fFLM_FILT_GRPMASK, fFLM_FILT_INITMODE, fFLM_FILT_ADDREN] },
  { addr := 0x1420004, shape := .row 32 256, key := none, half := .whole,
    fields := [fFLM_FILT_LO, fFLM_FILT_HI] },
  { addr := 0x1420008, shape := .row 32 256, key := none, half := .whole,
    fields := [fFLM_FILT_TNODE, fFLM_FILT_TNANY] },
  { addr := 0x1420010, shape := .row 32 256, key := none, half := .low,
    fields := [fFLM_FILT_ADDRLO_L] },
  { addr := 0x1420014, shape := .row 32 256, key := none, half := .high,
    fields := [fFLM_FILT_ADDRLO_H] },
  { addr := 0x1420018, shape := .row 32 256, key := none, half := .low,
    fields := [fFLM_FILT_ADDRHI_L] },
  { addr := 0x142001c, shape := .row 32 256, key := none, half := .high,
    fields := [fFLM_FILT_ADDRHI_H] }]

def tableTND : List RegDesc := [
  { addr := 0x1500000, shape := .one, key := none, half := .whole,
    fields := [fTND_STAT_DEVSTATE, fTND_STAT_BUSY, fTND_STAT_QDEPTH, fTND_STAT_CTLOK, fTND_STAT_RESTARTED] },
  { addr := 0x1500004, shape := .one, key := none, half := .whole,
    fields := [fTND_CTL_SEGAEN, fTND_CTL_SEGBEN, fTND_CTL_NODECNT] },
  { addr := 0x1500008, shape := .row 4 2, key := none, half := .whole,
    fields := [fTND_SEG_JOINED, fTND_SEG_BEACON, fTND_SEG_COORD, fTND_SEG_RXERR, fTND_SEG_FRAMES] },
  { addr := 0x1500010, shape := .one, key := none, half := .whole,
    fields := [fTND_ERR_TIMEOUT, fTND_ERR_BADFRAME, fTND_ERR_MISMATCH, fTND_ERR_DUP] },
  { addr := 0x1500014, shape := .one, key := none, half := .whole,
    fields := [fTND_NOTPEND_TYPES] },
  { addr := 0x1500018, shape := .one, key := none, half := .whole,
    fields := [fTND_LOCK_HOLDER, fTND_LOCK_LOCKSEC] },
  { addr := 0x150001c, shape := .one, key := none, half := .whole,
    fields := [fTND_EPOCH_PEND] },
  { addr := 0x1500100, shape := .row 8 64, key := none, half := .low,
    fields := [fTND_ORIG_L_MAC_L] },
  { addr := 0x1500104, shape := .row 8 64, key := none, half := .high,
    fields := [fTND_ORIG_H_MAC_H, fTND_ORIG_H_VALID, fTND_ORIG_H_SEENA, fTND_ORIG_H_SEENB] }]

def tableWLG : List RegDesc := [
  { addr := 0x1600000, shape := .one, key := none, half := .low,
    fields := [fWLG_HEAD_L] },
  { addr := 0x1600004, shape := .one, key := none, half := .high,
    fields := [fWLG_HEAD_H] },
  { addr := 0x1600008, shape := .one, key := none, half := .low,
    fields := [fWLG_OLDEST_L] },
  { addr := 0x160000c, shape := .one, key := none, half := .high,
    fields := [fWLG_OLDEST_H] },
  { addr := 0x1600010, shape := .one, key := none, half := .low,
    fields := [fWLG_CKSEQ_L] },
  { addr := 0x1600014, shape := .one, key := none, half := .high,
    fields := [fWLG_CKSEQ_H] },
  { addr := 0x1600018, shape := .one, key := none, half := .low,
    fields := [fWLG_BOOTSEQ_L] },
  { addr := 0x160001c, shape := .one, key := none, half := .high,
    fields := [fWLG_BOOTSEQ_H] },
  { addr := 0x1600020, shape := .one, key := none, half := .whole,
    fields := [fWLG_CTL_MIRROR, fWLG_CTL_CKNOW, fWLG_CTL_CKSEC] },
  { addr := 0x1600024, shape := .one, key := none, half := .whole,
    fields := [fWLG_CKSTAT_LAST, fWLG_CKSTAT_BUSY, fWLG_CKSTAT_FLASH] },
  { addr := 0x1600030, shape := .one, key := none, half := .low,
    fields := [fWLG_RDSEQ_L_SEQ_L] },
  { addr := 0x1600034, shape := .one, key := none, half := .high,
    fields := [fWLG_RDSEQ_H_SEQ_H] },
  { addr := 0x1600038, shape := .one, key := none, half := .whole,
    fields := [fWLG_RDSTAT_HELD] },
  { addr := 0x1600040, shape := .row 4 8, key := none, half := .whole,
    fields := [fWLG_RDDATA_DATA] }]

def tableBOOT : List RegDesc := [
  { addr := 0x1700000, shape := .one, key := none, half := .whole,
    fields := [fBOOT_ID_PARTCODE, fBOOT_ID_STEPPING, fBOOT_ID_WAFER] },
  { addr := 0x1700004, shape := .row 4 2, key := none, half := .whole,
    fields := [fBOOT_LOT_LOT] },
  { addr := 0x170000c, shape := .row 4 3, key := none, half := .whole,
    fields := [fBOOT_DIE_POS] },
  { addr := 0x1700018, shape := .row 4 2, key := none, half := .whole,
    fields := [fBOOT_SERIAL_SERIAL] },
  { addr := 0x1700020, shape := .one, key := none, half := .whole,
    fields := [fBOOT_SVNF_SVNBITS] },
  { addr := 0x1700024, shape := .one, key := none, half := .whole,
    fields := [fBOOT_LCF_RETIRED, fBOOT_LCF_REVOKE, fBOOT_LCF_DBGREV] },
  { addr := 0x1700030, shape := .one, key := none, half := .whole,
    fields := [fBOOT_STAT_SLOT, fBOOT_STAT_RUNFW, fBOOT_STAT_FWSTATE, fBOOT_STAT_S2OK, fBOOT_STAT_CAUSEA, fBOOT_STAT_CAUSEB, fBOOT_STAT_FWRESULT, fBOOT_STAT_LC, fBOOT_STAT_LOCKOUT] },
  { addr := 0x1700034, shape := .one, key := none, half := .whole,
    fields := [fBOOT_IMGSVN_SVN] },
  { addr := 0x1700038, shape := .one, key := none, half := .whole,
    fields := [fBOOT_IMGVER_VERSION] },
  { addr := 0x170003c, shape := .one, key := none, half := .whole,
    fields := [fBOOT_OPENREM_SEC] },
  { addr := 0x1700100, shape := .grid 64 5 4 12, key := none, half := .whole,
    fields := [fBOOT_KEYH_HASH] }]

/-- The registers of the window that owns address `a` (R21), or of a pseudo space. -/
def windowTable (a : Nat) : List RegDesc :=
  if a < 0x2000000 then
    match a / 0x100000 with
    | 0 => tableARCH
    | 1 => tableSWC
    | 2 => tablePKG
    | 3 => tableRSV
    | 4 => tablePWR
    | 5 => tableTRN
    | 6 => tableFT0 ++ tableFT1
    | 7 => tableWM0 ++ tableWM1
    | 8 => tableSER
    | 9 => tableSNF
    | 10 => tablePRT
    | 11 => tableXLT0 ++ tableXLT1
    | 12 => tableLEAT
    | 13 => tableCHK0 ++ tableCHK1
    | 14 => tableWEIR0 ++ tableWEIR1
    | 15 => tableRUN
    | 16 => tableTEN0 ++ tableTEN1
    | 17 => tableACQ
    | 18 => tableSPW0 ++ tableSPW1
    | 19 => tableSLU
    | 20 => tableFLM0 ++ tableFLM1
    | 21 => tableTND
    | 22 => tableWLG
    | 23 => tableBOOT
    | _ => []
  else match a / 0x100000000 with
    | 0x10 => tableVFMB
    | 0x20 => tableVFRING
    | 0x30 => tableDVSEC
    | 0x50 => tablePF
    | _ => []

end Sys2Proof.Machine
end

