-- ==== Sys2Proof/Machine/SMap.lean ====
section
/-! DEFINITION. Sparse maps from a number to a value: a list of (key, value) pairs in one canonical form, keys
strictly rising and no entry equal to what an unlisted key reads as.  Equal maps are equal lists. -/

namespace Sys2Proof.Machine

/-- A sparse map.  What an unlisted key reads as is given at each use. -/
abbrev SMap (α : Type) := List (Nat × α)

/-- The value at key `k`; `d` where `k` is not listed. -/
def SMap.get {α : Type} (d : α) : SMap α → Nat → α
  | [], _ => d
  | (j, v) :: m, k => if j = k then v else SMap.get d m k

/-- `m` with the entry `(k, v)` in its place. -/
def SMap.insert {α : Type} (k : Nat) (v : α) : SMap α → SMap α
  | [] => [(k, v)]
  | (j, w) :: m =>
    if k < j then (k, v) :: (j, w) :: m
    else if k = j then (k, v) :: m
    else (j, w) :: SMap.insert k v m

/-- `m` with no entry for `k`. -/
def SMap.erase {α : Type} (m : SMap α) (k : Nat) : SMap α := m.filter fun e => e.1 != k

/-- `m` with key `k` reading as `v`: an entry equal to the default `d` is not listed. -/
def SMap.set {α : Type} [DecidableEq α] (d : α) (m : SMap α) (k : Nat) (v : α) : SMap α :=
  if v = d then m.erase k else m.insert k v

/-- `m` with the value at `k` changed by `f`. -/
def SMap.mod {α : Type} [DecidableEq α] (d : α) (m : SMap α) (k : Nat) (f : α → α) : SMap α :=
  SMap.set d m k (f (SMap.get d m k))

/-- Every listed value changed by `f`, dropping what becomes the default. -/
def SMap.mapAll {α : Type} [DecidableEq α] (d : α) (m : SMap α) (f : Nat → α → α) : SMap α :=
  (m.map fun e => (e.1, f e.1 e.2)).filter fun e => e.2 ≠ d

/-- The listed entries that `p` keeps. -/
def SMap.keep {α : Type} (m : SMap α) (p : Nat → α → Bool) : SMap α := m.filter fun e => p e.1 e.2

/-- Keys strictly rising from above `lo`. -/
def SMap.rising {α : Type} : Option Nat → SMap α → Bool
  | _, [] => true
  | none, (j, _) :: m => SMap.rising (some j) m
  | some i, (j, _) :: m => decide (i < j) && SMap.rising (some j) m

/-- The canonical form. -/
def SMap.wf {α : Type} [DecidableEq α] (d : α) (m : SMap α) : Bool :=
  SMap.rising none m && m.all fun e => decide (e.2 ≠ d)

end Sys2Proof.Machine
end

