-- ==== Sys2Proof/Machine/State.lean ====
section
/-! DEFINITION. Every piece of state the spec gives the block, as plain data; the faults and refusals of a step; and
the state after reset. -/

namespace Sys2Proof.Machine

/-- Why the block stops on a command.  Raised by every meaning whose operands name a unit of the device. -/
inductive Fault where
  /-- The command names a port, lane, link, slot, slice, gate, ring, source or other unit that the device does not have.
  Raised by the meaning of any command whose operands are not well formed.  Safe: no such event can happen. -/
  | noSuchUnit
  deriving DecidableEq, Repr

/-- Why the block refuses a command. -/
inductive Refusal where
  /-- The command has no meaning in this model yet.  Raised by an arm of `exec` alone.  Safe. -/
  | notModelled (mnemonic : String)
  deriving DecidableEq, Repr

/-- What the block sends or drives, in the order it does so.  The log of these is the model's own field `out`, newest
first: the wires that carry them leave the block (log entry 4). -/
inductive Out where
  /-- a completion or other message sent back out of port `p` -/
  | reply (p : Nat) (m : Msg)
  /-- a message that left the switch core by egress `x` -/
  | depart (x : Nat) (m : Msg)
  /-- a TLP that port `x` had begun and has ended nullified (R193) -/
  | nullified (x : Nat) (m : Msg)
  /-- a unit sent on Leat link `k`, striped over its logical lanes: header and trailer words, the 60 words of its payload, and its
  CRC (R149) -/
  | unit (k hdr trl : Nat) (body : List Nat) (crc : Nat)
  /-- an INIT unit sent whole on lane `l` (R165), with its words and CRC as in `unit` -/
  | laneUnit (l hdr trl : Nat) (body : List Nat) (crc : Nat)
  /-- messages whose last bytes a DATA unit of link `k` carried -/
  | carried (k seq : Nat) (m : Msg)
  /-- a management frame body sent on segment `seg` to MAC address `mac` -/
  | frame (seg mac : Nat) (bytes : List Byte)
  /-- a notification of type `t` to originator slot `slot` on segment `seg`, with its tag and DATA (R466) -/
  | notify (seg slot t tag data : Nat)
  /-- credits returned to the partner of a port: index, channel, number (R187) -/
  | credit (x vc n : Nat)
  /-- a checkpoint's write of `n` records up to sequence `q` into flash `f` -/
  | mirror (f q n : Nat)
  /-- an answer to an FM-API or vendor command at port `p` -/
  | cci (p code : Nat) (bytes : List Byte)
  /-- an interrupt message to a host: port, function, vector -/
  | msi (p fn vec : Nat)
  /-- a host-visible slot interrupt or event of a virtual bridge -/
  | hotplug (vcs vppb event : Nat)
  /-- a read (`write = false`) or write the device makes at a tenant's or manager's memory: who, space, address, data -/
  | access (who space addr len data : Nat) (write : Bool)
  /-- a snoop or recall of `line` sent to agent `a`, with the message code -/
  | snoop (a line code : Nat)
  /-- the extents accepted, or released, in answer to a dynamic-capacity event of LD `ld` at port `p` (R274) -/
  | dcd (p ld : Nat) (parts : List Nat)
  /-- an LD reset through the FM-owned LD interface of the MLD at port `p` (R133) -/
  | ldReset (p ld : Nat)
  /-- the value that a read of the register at an address returned -/
  | value (addr v : Nat)
  /-- bits shifted out of the TAP -/
  | tdo (bits n : Nat)
  deriving DecidableEq, Repr

/-! ### Straps, supplies, resets and start-up (R11, R48 to R80) -/

/-- Strap sampling (R53): the test current, and the samples of the fifteen pins taken so far, oldest first. -/
structure StrapS where
  running : Bool := false
  source : Bool := false
  sink : Bool := false
  samples : List Nat := []
  deriving DecidableEq, Repr

/-- Supplies, PWRGD, resets in force and the start-up timeline.  `pins` are the strap pins' samples; `tiles` the tiles in tile
reset, one bit each; `culvert` those whose Culvert is retraining after one (R69); `waved` the ports whose wave has come (R77);
`oper` an accepted command to enter Operational whose port wave 0 has not come (R78); `perst` the PERST_N inputs as they are,
one bit a port, 1 released (R71); `late` the ports that have reached the limit of R74; `warmDue` the cause of a warm reset that
waits for its checkpoint (R464), plus 1; `ref25` REF25 present (R68); `aborted` a table load that a warm reset has abandoned (R233); `manufTest` a
manufacturing test (R52), `silent` a floating strap of NODE_ID (R55); `fence` the domains fenced by a reaction (R398), one bit
each; `forced` those that a write of PWR_DOMCTL.ON forces off (R65), one bit each; `thermLow` THERMTRIP_N driven low (R502); `lost`
the clocks lost now, bit i for domain 328 + i (R68); `own` the tiles that follow a tile schedule of their own (R80); and `ns` the
nanoseconds that have passed, `start` those at the start point of the timeline in effect (R75). -/
structure PwrS where
  aux : Bool := true
  pwrgd : Bool := false
  discharge : Bool := false
  strap : StrapS := {}
  coldHold : Bool := true
  pll : Bool := false
  sram : Bool := false
  warm : Bool := false
  warmPin : Bool := false
  warmDue : Nat := 0
  aborted : Bool := false
  tiles : Nat := 0
  culvert : Nat := 0
  waved : Nat := 0
  oper : Bool := false
  perst : Nat := 0
  late : Nat := 0
  ref25 : Bool := true
  manufTest : Bool := false
  silent : Bool := false
  fence : Nat := 0
  forced : Nat := 0
  thermLow : Bool := false
  lost : Nat := 0
  own : Nat := 0
  ns : Nat := 0
  start : Nat := 0
  deriving DecidableEq, Repr

/-! ### Fabric time (R82 to R100) -/

/-- One PPS input with its time-of-day input (R87, R91): the reference edge of R87, the last accepted edge
(corrected capture), edges accepted in a row, the second named for the next edge, the run of messages that
agree with one another but not with the local time, and whether its messages have TRACEABLE 0 (R91). -/
structure PpsIn where
  ref : Option Nat := none
  cap : Option Nat := none
  streak : Nat := 0
  named : Option Nat := none
  offRun : Nat := 0
  offNext : Nat := 0
  untrace : Bool := false
  deriving DecidableEq, Repr

/-- The fabric-time counter in nanoseconds with its 40 fractional bits (R82, R83), the two inputs, an armed SETARM
(R92), edges within LOCKNS and beyond UNLOCKNS in a row (R93), seconds of disagreement in a row with the capture that the last
comparison was made at (R89), what a slew
has still to add, in 2^-40 ns (R86), the servo's part of FT_RATE in ppb, the phase error of the
edge before where nothing but the rate has acted since, and the edges of a steady source in a row (R509), whether REF25 has been lost since the state last
passed through ACQUIRE (R95), when HOLDOVER was entered (R94), and whether a forward step has been made whose passed comparators
have not been fired (R99). -/
structure FtS where
  run : Bool := false
  now : Nat := 0
  frac : Nat := 0
  a : PpsIn := {}
  b : PpsIn := {}
  setArm : Bool := false
  locks : Nat := 0
  unlocks : Nat := 0
  disagree : Nat := 0
  disSec : Option Nat := none
  slew : Int := 0
  servo : Int := 0
  lastE : Option Int := none
  steady : Nat := 0
  refBad : Bool := false
  holdAt : Nat := 0
  jump : Bool := false
  deriving DecidableEq, Repr

/-! ### Profile change (R32, R33) -/

/-- Why a profile change went to ROLLBACK: a Spillway reaction, or its 1 s limit. -/
structure ArchS where
  byReaction : Bool := false
  deriving DecidableEq, Repr

/-! ### Spillway (R389 to R413) -/

/-- How a source's driver holds its rails (R390): `single` for the 8 samples of a single event, `lasting` while a
condition lasts. -/
inductive Drive where
  | quiet | single | lasting
  deriving DecidableEq, Repr

/-- The collector beside its registers (which hold sticky bits, states and counters, R395): what each driver shows; the
reaction code held by each source, plus 1 (R398); sources under a wire test, and those among them that were raised in it
(R391, R392); sources latched by R391 and by the flap limit (R403, R405); sampling at 25 MHz (R390), and the drivers that take
it as announced because of their rate pair; what the sources that were sticky when the Spillway last disarmed held then, plus 1, until
one is raised again (R49, R402); the tiles whose rails are ignored (R397); when an SPW notification may be sent
again (R395); and the source whose WARM reaction ran last (R401). -/
structure SpwS where
  drive : SMap Drive := []
  held : SMap Nat := []
  test : List Nat := []
  wireLatched : List Nat := []
  flapLatched : List Nat := []
  slow : Bool := false
  slowDrv : List Nat := []
  maskTiles : Nat := 0
  notifNs : Nat := 0
  warmSrc : Option Nat := none
  kept : List (Nat × Nat) := []
  deriving DecidableEq, Repr

/-! ### Flume (R433 to R448) -/

/-- What a snapshot copies (R439, R441): its flags, sequence number, time and quality, the counters, the census and
the header's other values. -/
structure Snap where
  flags : Nat := 0
  seq : Nat := 0
  ns : Nat := 0
  sec : Nat := 0
  qual : Nat := 0
  cnt : SMap Nat := []
  census : SMap Nat := []
  censusG : SMap Nat := []
  profile : Nat := 0
  tileRst : Nat := 0
  coreMhz : Nat := 0
  cycles : Nat := 0
  skipped : Nat := 0
  deriving DecidableEq, Repr

/-- A dump in progress on a ring (R442): its bank, its RINGSEQ, whether its body is proven, whether it has been
reported late, and whether a port's gate has denied a write or read of it (R443). -/
structure Dump where
  bank : Nat
  seq : Nat
  body : Bool := false
  late : Bool := false
  denied : Bool := false
  deriving DecidableEq, Repr

/-- The Flume: live counters (R433), the two shadow banks (R440), the last snapshot, the dump in progress on each
ring, the time of the previous
snapshot written to each ring, dumps that wait for their turn, oldest first, as (ring, bank, reported late), tiles reset since the last snapshot (R447), filter sets out of use (R446), core
cycles since cold reset in thousandths (R441), the beats of each top-down unit whose cycles are still to come (R435), and the seconds up to which epoch and minute boundaries have been looked at
(R439). -/
structure FlmS where
  cnt : SMap Nat := []
  bank0 : Option Snap := none
  bank1 : Option Snap := none
  last : Snap := {}
  dump0 : Option Dump := none
  dump1 : Option Dump := none
  prev0 : Nat × Nat := (0, 0)
  prev1 : Nat × Nat := (0, 0)
  waits : List (Nat × Nat × Bool) := []
  tileRst : Nat := 0
  badFilt : List Nat := []
  milli : Nat := 0
  debt : SMap Nat := []
  epSeen : Nat := 0
  minSeen : Nat := 0
  deriving DecidableEq, Repr

/-! ### Acequia (R368 to R388) -/

/-- A Runnel statistics record (R379). -/
structure StatRec where
  rd : Nat := 0
  wr : Nat := 0
  acks : Nat := 0
  latMax : Nat := 0
  latSum : Nat := 0
  deriving DecidableEq, Repr

/-- The two banks of Runnel statistics records by tenant instance (R380); ACQ_RSCTL.BANK names the active one. -/
structure AcqS where
  bank0 : SMap StatRec := []
  bank1 : SMap StatRec := []
  deriving DecidableEq, Repr

/-! ### Leat links (R147 to R179) -/

/-- A sequenced unit kept for replay (R155), or one that waits for its slot and its number (R154): its number, VC (3 for LINKMGT),
PLEN and MOFS, the messages that end in it, the 60 words of its payload, and when it was last sent, as a count of sendings. -/
structure TxUnit where
  seq : Nat := 0
  vc : Nat
  plen : Nat := 60
  mofs : Nat := 63
  msgs : List Msg := []
  words : List Nat := []
  sent : Nat := 0
  deriving DecidableEq, Repr

/-- A unit received (R156): its number, VC, MOFS, the messages that end in it, whether it was misrouted (R163), and whether it
came before the last fresh INIT, so that its place gives no credit (R165). -/
structure RxUnit where
  seq : Nat
  vc : Nat
  mofs : Nat := 63
  msgs : List Msg := []
  mis : Bool := false
  old : Bool := false
  deriving DecidableEq, Repr

/-- A Leat lane beside its registers (R110 to R115, R167): good markers in a row in ALIGN, with their symbol offset and
polarity; bad or missing markers in a row; LINK, NODE and PHASE of the last good marker, and whether one has come since the
lanes of the link were started together; whether STEPREQ 7 has been sent
and received; the partner's request to apply at the next block boundary (a preset, or 16 + a step) and whether it has
been acted on (REQACK); the receiver's own request in the same form, and whether "none" is being sent after one (R115); the times
of recent stuff violations; LPOS in the lane's own markers; the time at which a
bit-slip is complete (R116); and whether an eye scan runs (R120), on a port lane too. -/
structure Lane where
  good : Nat := 0
  offset : Nat := 0
  inv : Bool := false
  bad : Nat := 0
  link : Nat := 0
  node : Nat := 0
  phase : Nat := 0
  known : Bool := false
  eqSent : Bool := false
  eqGot : Bool := false
  ask : Option Nat := none
  ack : Bool := false
  req : Option Nat := none
  gap : Bool := false
  stuff : List Nat := []
  tx : Nat := 0xE
  slipEnd : Nat := 0
  scan : Bool := false
  deriving DecidableEq, Repr

/-- One link beside its registers.  `replay` is the replay buffer, oldest first (R155), `sends` counts sendings, `reorder`
holds units received out of order (R156), `shown` the sender's next number as an IDLE or ACK unit last showed it, `mgmtWait`
LINKMGT operations that wait for a slot.  `tx0` to `tx2` are the DATA units of VC-REQ, VC-SNP and VC-RSP that wait for a slot,
`reqSkip` the slots given to other VCs while VC-REQ could have had one (R154).  `rx0` to `rx2` are the receive queues of the same
VCs, `cut` the VCs, one bit each, in which the message that goes on has lost a part to a misrouted unit (R163), `lim0` to `lim2` the
limits this receiver has granted (R161).  `rate`, `spare`, `degOk` and the node identity `own` are the settings taken
at the last entry to TRAINING (R179); `waveDone` tells that the link's wave has been reached, `iso` that a reaction
isolates it.  `exch` and `resume` tell that the INIT exchange runs and is one of a retrain; `initSeen` is one more than the
last RXREADY of each lane, `assigned` that the lanes have been assigned, `peerAck` the partner's ACKSEQ and `peerPool`
its pools (R165).  `txSp` and `rxSp` are the physical indices of the spare in each direction (R166).  `lastTs` and `lastAt` are the time stamp of the last ACK or INIT received and when it came; `spareAsk`
is the logical position a SPARE_REQ still asks for (R167); `credNext` the VC whose limit the next trailer carries (R162);
`protoAt` when the last protocol error came (R164); `lpAsked` an LP_REQ without its answer (R173); `quiet` the
electrical idle of a retrain (R169); `dataAt` when the last
DATA unit passed (R172), and `blk0` the device time at which the lanes were last started together, which their blocks are counted from
(R107, R110). -/
structure Leat where
  replay : List TxUnit := []
  sends : Nat := 0
  reorder : List RxUnit := []
  shown : Option Nat := none
  mgmtWait : List (List Nat) := []
  tx0 : List TxUnit := []
  tx1 : List TxUnit := []
  tx2 : List TxUnit := []
  reqSkip : Nat := 0
  cut : Nat := 0
  rx0 : List RxUnit := []
  rx1 : List RxUnit := []
  rx2 : List RxUnit := []
  lim0 : Nat := 0
  lim1 : Nat := 0
  lim2 : Nat := 0
  rate : Nat := 0
  own : Nat := 0
  spare : Nat := 8
  degOk : Bool := true
  waveDone : Bool := false
  iso : Bool := false
  exch : Bool := false
  resume : Bool := false
  initSeen : SMap Nat := []
  assigned : Bool := false
  peerAck : Nat := 0
  peerPool : Nat × Nat × Nat := (0, 0, 0)
  lastTs : Option Nat := none
  lastAt : Nat := 0
  txSp : Option Nat := none
  rxSp : Option Nat := none
  spareAsk : Option Nat := none
  credNext : Nat := 0
  protoAt : Option Nat := none
  lpAsked : Bool := false
  quiet : Bool := false
  dataAt : Nat := 0
  blk0 : Nat := 0
  deriving DecidableEq, Repr

/-- Where the last message of a flow to a peer node went (R171): its link and the number of its last unit. -/
structure Flow where
  node : Nat
  src : Nat
  dest : Nat
  tc : Nat
  link : Nat
  seq : Nat
  deriving DecidableEq, Repr

/-! ### Switch core, Reservoir, Turnout and Weir (R180 to R207, R327 to R345) -/

/-- Where a stored message's cells are counted (R186, R189, R190): the shared cells, the response reserve, a
Latency-guard reserve, or a mirror session's quota. -/
inductive Place where
  | shared | response | guarded | mirror (session : Nat)
  deriving DecidableEq, Repr

/-- A message in the Reservoir: its identity (ids rise in the order of entry), the message, its ingress, its cells and the first of them
(R182), whether it has fully arrived and how many cells of it have (R192), where its cells are counted, its egress (of a multicast: the
first), every egress, how many copies have still to leave, the fabric time and the device time of its entry, its charge (R329), the
credits it has still to give back (R189, R332), and, of a mirror record, the message it copies with the number of cells copied (R199). -/
structure Stored where
  id : Nat
  m : Msg
  x : Nat
  cells : Nat
  whole : Bool
  place : Place
  eg : Nat
  egs : List Nat := []
  refs : Nat
  cell : Nat := 0
  here : Nat := 0
  enteredAt : Nat := 0
  enteredNs : Nat := 0
  charge : Nat := 0
  credits : Nat := 0
  copyOf : Option (Nat × Nat) := none
  deriving DecidableEq, Repr

/-- A queue entry: the stored message, and the posted messages of its ingress, egress and class that had entered before it and had not
left (R185). -/
structure Entry where
  id : Nat
  before : List Nat := []
  deriving DecidableEq, Repr

/-- A credit withheld from a link (R187): ingress, class, and the VC or channel it belongs to. -/
structure Credit where
  x : Nat
  t : Nat
  vc : Nat
  n : Nat
  deriving DecidableEq, Repr

/-- A message leaving an egress: the stored message, its class, its group, the EPOCH of the gate that checked it
(R294), and the messages it leaves as: those of its parts that the gate passed (R290). -/
structure Sending where
  id : Nat
  t : Nat
  g : Nat
  chk : Option Nat := none
  parts : List Msg := []
  deriving DecidableEq, Repr

/-- A request that has left by an egress and has had no response (R127, R170). -/
structure Owed where
  x : Nat
  m : Msg
  deriving DecidableEq, Repr

/-- A peer's request that has come in by a Leat link and has had no response; one whose link has left service since has its response
discarded (R170). -/
structure Asked where
  x : Nat
  m : Msg
  dead : Bool := false
  deriving DecidableEq, Repr

/-- The core beside its registers: messages in order of entry; sub-queues by (8 x + t) × 5 + group; what each egress sends now; withheld credits, oldest
first; requests owed a response, and requests of peers that have had none; next turn of each rotating choice; classes above their telemetry level (R194); mirror
sample counts and cells by session (R199, R201); committed members of each group, bit 72 its
VALID (R197); cells lost to a queue flush (R204); messages of internal sources that wait for a hold to end or for free
cells (R188), with their source and egresses. -/
structure SwcS where
  nextId : Nat := 0
  msgs : List Stored := []
  queues : SMap (List Entry) := []
  sending : SMap (Option Sending) := []
  withheld : List Credit := []
  owed : List Owed := []
  asked : List Asked := []
  turn : SMap Nat := []
  above : List Nat := []
  mirCount : SMap Nat := []
  mirCells : SMap Nat := []
  groups : SMap Nat := []
  lost : Nat := 0
  telLast : Option Nat := none
  waiting : List (Nat × Msg × List Nat) := []
  deriving DecidableEq, Repr

/-- A committed shaper pair (R334). -/
structure Pair where
  en : Bool := false
  cir : Nat := 0
  pir : Nat := 0
  cbs : Nat := 0
  pbs : Nat := 0
  deriving DecidableEq, Repr

/-- A committed class shaper (R336). -/
structure ClassShaper where
  rate : Nat := 0
  burst : Nat := 0
  deriving DecidableEq, Repr

/-- The Weir beside its registers: how far each bucket lies below full, in thousandths of a byte (R330, R336), by
tenant or by 8 x + t; held requests, oldest first, as ids of stored messages (R332); the tenant whose turn comes next;
finish tags, virtual times and head tags (R337), a head tag held as tag + 1; committed pairs and class shapers; pairs,
classes and map words that act as disabled after an uncorrectable error (R343); the
256 ns period of the last refill; egresses whose list an error has stopped (R343); when each pending list takes
effect (R340); and the cycle start at which each list goes on after a step (R99). -/
structure WeirS where
  lackC : SMap Nat := []
  lackP : SMap Nat := []
  lackQ : SMap Nat := []
  held : List Nat := []
  turn : Nat := 0
  fin : SMap Nat := []
  virt : SMap Nat := []
  head : SMap Nat := []
  pairs : SMap Pair := []
  classes : SMap ClassShaper := []
  offPairs : List Nat := []
  offClasses : List Nat := []
  offWords : List Nat := []
  refilled : Option Nat := none
  rotOff : List Nat := []
  rotAt : SMap Nat := []
  rotWait : SMap Nat := []
  deriving DecidableEq, Repr

/-! ### Pooling and translation (R259 to R282) -/

/-- A timed map command that waits (R269): its apply time, entry, operation (1 GRANT, 2 RELEASE), whether it zeroes,
the new entry, whether acceptance has taken the entry to PENDING already, and the sequence that the Waterlog had reached when it was
accepted (R98). -/
structure TimedMap where
  at_ : Nat
  idx : Nat
  op : Nat
  zero : Bool
  entry : Nat
  own : Bool := false
  seq : Nat := 0
  deriving DecidableEq, Repr

/-- A timed window commit that waits (R280): its apply time, its port, and its sequence as in `TimedMap`. -/
structure TimedWin where
  at_ : Nat
  port : Nat
  seq : Nat := 0
  deriving DecidableEq, Repr

/-- What a PENDING entry waits for (R270): its zeroing, under way or failed, and its apply time. -/
structure PendMap where
  idx : Nat
  zeroing : Bool
  failed : Bool := false
  timed : Bool := false
  deriving DecidableEq, Repr

/-- A pool device (R263, R274): its decoders committed, whether it is an MLD, the capacity of each LD in extents, and
the dynamic-capacity extents accepted, as (LD, DPA extent). -/
structure PoolDev where
  committed : Bool := false
  mld : Bool := false
  caps : List Nat := []
  dcd : List (Nat × Nat) := []
  deriving DecidableEq, Repr

/-- A host's HDM decoder (R267). -/
structure Hdm where
  base : Nat := 0
  size : Nat := 0
  ways : Nat := 1
  gran : Nat := 256
  targets : List Nat := []
  committed : Bool := false
  errNC : Bool := false
  deriving DecidableEq, Repr

/-- Translation beside its registers: the master allotment map (R264), entries it has lost to errors (R275), timed
commands in order of acceptance, what PENDING entries wait for, entries the running drain and the next one free
(R271), pool devices, HDM decoders by 16 p + d, and timed window commits in order of acceptance (R280). -/
structure XltS where
  map : SMap Nat := []
  bad : List Nat := []
  timed : List TimedMap := []
  waits : List PendMap := []
  relNow : List Nat := []
  relNext : List Nat := []
  pool : SMap PoolDev := []
  hdm : SMap Hdm := []
  winAt : List TimedWin := []
  deriving DecidableEq, Repr

/-! ### Check gates (R283 to R298) -/

/-- A pending commit of rule sets (R293): its tag, gates, and apply time where it is timed. -/
structure ChkCommit where
  tag : Nat
  gates : List Nat
  at_ : Option Nat
  deriving DecidableEq, Repr

/-- The Check gates beside their registers: active and staged rules by 4096 g + r, each one number of 32 bytes (R285);
the commit being validated; commits pending, in order of acceptance; and the tag the next one gets. -/
structure ChkS where
  active : SMap Nat := []
  staged : SMap Nat := []
  checking : Option ChkCommit := none
  pend : List ChkCommit := []
  nextTag : Nat := 0
  deriving DecidableEq, Repr

/-! ### Snoop filter and Watermaster (R208 to R258) -/

/-- A filter entry (R237). -/
structure FEntry where
  state : Nat := 0
  owner : Nat := 0
  pres : Nat := 0
  age : Nat := 0
  region : Nat := 0
  atag : Nat := 0
  deriving DecidableEq, Repr

/-- A line as a slice holds it: stable state, owner and holders (R216). -/
structure LineSt where
  state : Nat := 0
  owner : Nat := 127
  pres : Nat := 0
  deriving DecidableEq, Repr

/-- The data of an Owned line (R216), and how many age sweeps it has seen (R217). -/
structure OCell where
  data : Nat
  poison : Bool
  sweeps : Nat := 0
  deriving DecidableEq, Repr

/-- Transient states (R219). -/
inductive TState where
  | ts | tsr | tr | tw | th
  deriving DecidableEq, Repr

/-- An open transaction (R219): the row's word and request code; the request itself where one is owed a completion;
the requester's agent number where it is one; the line as the transaction holds it; its way, if it has one; agents
whose snoop is open, and whose snoop has been closed without them (R226, R227); write-back data supplied, pool data,
each with its poison; whether pool data is owed; pool writes outstanding, oldest first, true for the row's own; hold
deadlines by agent; whether the current data has been lost (R249); pool data to discard before the row's own; the grant
a home returned (R230); whether the line's set is suspect (R254); whether the cell of the write-back supplied is kept for an O cell (R217); and the
agent that supplied it. -/
structure Txn where
  st : TState
  row : Nat
  req : Nat
  msg : Option Msg
  q : Option Nat
  ln : LineSt
  way : Option Nat
  snoops : Nat := 0
  closed : Nat := 0
  wb : Option (Nat × Bool) := none
  pool : Option (Nat × Bool) := none
  owed : Bool := false
  pws : List Bool := []
  holds : List (Nat × Nat) := []
  lost : Bool := false
  skip : Nat := 0
  homeGrant : Nat := 0
  bcast : Bool := false
  kept : Bool := false
  writer : Nat := 127
  deriving DecidableEq, Repr

/-- A NAKed request at its source (R223): the requester number of the source, the request, its hint in ns, whether the
NAK has reached the source, and whether the request holds a retry place. -/
structure Nak where
  src : Nat
  m : Msg
  hint : Nat
  arrived : Bool := false
  placed : Bool := false
  deriving DecidableEq, Repr

/-- The Watermaster and its filter beside their registers: filter entries by (65,536 × slice + set) × 32 + way; open
transactions and O cells by line address [51:6]; NAKed requests, oldest first; reservation queues by line, as the
requests of R225 by source and tag; the active transition table (R231), whose two copies agree between commands; 
waiting for their purge; the rows of a table that waits for the slices to empty, with its TTID and CRC (R233); the next set each scrubber
reads; agents taken out of coherence (R398); slices on which a pool write has failed (R228); and, at a proxy, snoops of
a home that wait for their line, with transactions set aside for them (R230).  `corrected` are the ways whose last read was corrected, `retiring` those to be
retired once nothing pins them (R256); `rowWait` the lines that wait for an Rcl or Age row, 10 or 11, of a sweep (R211, R235, R250); `homesGone`
the nodes whose lines the sweep of R250 recalls; `lastTaken` by slice one more than the requester last taken (R225); `reads` counts passes of the
sweepers and diagnostic reads, for the free values of what they find. -/
structure WmS where
  ways : SMap FEntry := []
  txns : SMap (Option Txn) := []
  cells : SMap (Option OCell) := []
  naks : List Nak := []
  rsv : SMap (List (Nat × Nat)) := []
  table : List Nat := []
  loading : Option (List Nat × Nat × Nat) := none
  scrubAt : SMap Nat := []
  refused : List Nat := []
  pwFailed : List Nat := []
  deferred : List Msg := []
  parked : SMap (Option Txn) := []
  corrected : List Nat := []
  retiring : List Nat := []
  rowWait : List (Nat × Nat) := []
  homesGone : List Nat := []
  lastTaken : SMap Nat := []
  reads : Nat := 0
  deriving DecidableEq, Repr

/-! ### Runnel (R299 to R326) -/

/-- A descriptor that has started (R302, R303): its index and its 64 bytes as one number; the bytes it has issued;
whether it issues no more; the failing access issued first, as (access number, status, address, space); whether its ring
stopped under it; the record's NOTPAIR and EARLY; and its DATA. -/
structure Live where
  idx : Nat
  d : Nat
  off : Nat := 0
  issued : Bool := false
  fail : Option (Nat × Nat × Nat × Nat) := none
  abort : Bool := false
  notpair : Bool := false
  early : Bool := false
  data : Nat := 0
  deriving DecidableEq, Repr

/-- A store that has not yet entered a write-combining entry (R311): its descriptor, space, address, bytes and data. -/
structure Store where
  idx : Nat
  space : Nat
  addr : Nat
  len : Nat
  data : Nat
  deriving DecidableEq, Repr

/-- A ring beside its registers: descriptors fetched and not started, oldest first; descriptors asked for by a fetch in
flight; started descriptors, oldest first; stores that wait for an entry; the number of the next record (R308); the
first write that has failed since the last BARRIER, as (status, address, space) (R319); and a failure that takes the
ring to ERROR once it runs again. -/
structure Ring where
  fetched : List Nat := []
  fetch : Nat := 0
  live : List Live := []
  stash : List Store := []
  recs : Nat := 0
  bfail : Option (Nat × Nat × Nat) := none
  errDue : Bool := false
  deriving DecidableEq, Repr

/-- A write-combining entry (R311), in order of opening: its ring, engine, space and line; its 64 data bytes and valid
mask; the descriptors that stored into it; whether it is to be issued; the access it went out as; and whether its
data has been lost to an ECC error. -/
structure Wc where
  id : Nat
  ring : Nat
  eng : Nat
  space : Nat
  line : Nat
  data : Nat := 0
  mask : Nat := 0
  idxs : List Nat := []
  due : Bool := false
  acc : Option Nat := none
  bad : Bool := false
  deriving DecidableEq, Repr

/-- What an issued access of a ring is: a read for a LOAD or COPY, a write of an entry, an AtomicOp, a descriptor fetch
or a record write. -/
inductive AccKind where
  | read | write | atomic | fetch | record
  deriving DecidableEq, Repr

/-- An access that a ring has issued and that has not ended (R310, R313, R318), in order of issue: its number, which is
its message's TAG; ring, engine and instance; the descriptors it serves; its kind, message and space; the address and
bytes, and for a read its offset in the descriptor; when it was issued; its write timeout in ms; whether its line is in
a shared region; whether a record's interrupt follows it; whether its ring has been reset under it (R358); and what a gate of this
device has told of it: whether a rule decided, with PAIRAT, EARLYACK, DEVREG and WTO (R285, R314). -/
structure RunAcc where
  id : Nat
  ring : Nat
  eng : Nat
  ti : Nat
  idxs : List Nat
  kind : AccKind
  m : Msg
  space : Nat
  addr : Nat
  len : Nat
  off : Nat := 0
  at_ : Nat := 0
  wto : Nat := 5
  shared : Bool := false
  irq : Bool := false
  orphan : Bool := false
  told : Option (Bool × Bool × Bool × Bool × Nat) := none
  deriving DecidableEq, Repr

/-- The Runnel beside its registers: numbers of accesses and entries, rings, entries, accesses, and by engine the ring
whose turn it is with the bytes left of that turn (R310). -/
structure RunS where
  nextAcc : Nat := 1
  nextWc : Nat := 0
  rings : SMap Ring := []
  wc : List Wc := []
  accs : List RunAcc := []
  turn : SMap (Nat × Nat) := []
  deriving DecidableEq, Repr

/-! ### Tenant instances (R346 to R367) -/

/-- A word of a dirty-page buffer in the log cache (R362): its instance, buffer and word, and the bits gathered. -/
structure LogWord where
  ti : Nat
  buf : Nat
  word : Nat
  bits : Nat
  deriving DecidableEq, Repr

/-- A write-back of a log-cache word (R362): its word, where its buffer word lies (port and address), its phase: 0
waiting for an earlier write-back of the same word, 1 reading, 2 writing, 3 proving; and whether a port's gate has denied a request of
it (R363). -/
structure LogBack where
  id : Nat
  w : LogWord
  port : Nat
  addr : Nat
  phase : Nat
  denied : Bool := false
  deriving DecidableEq, Repr

/-- SR-IOV settings of an upstream port's PF (R346): VF Enable and NumVFs. -/
structure VfCfg where
  enable : Bool := false
  num : Nat := 0
  deriving DecidableEq, Repr

/-- Tenant instances beside their registers: VF settings by port; whether the reset under way is planned; whether it
recovers from a fault; the log cache, least recently used first; write-backs, oldest first; instances whose log is
being stopped (R363); accesses issued before the last flip, by instance; the instance of a context transfer under
way, with its operation (R360); and when the mailbox notification was last sent (R352). -/
structure TenS where
  vfs : SMap VfCfg := []
  planned : List Nat := []
  faulted : List Nat := []
  cache : List LogWord := []
  backs : List LogBack := []
  nextBack : Nat := 0
  stopping : List Nat := []
  preFlip : SMap (List Nat) := []
  moving : Option (Nat × Nat) := none
  notLast : Option Nat := none
  deriving DecidableEq, Repr

/-! ### Ports and their virtual bridges (R122 to R146) -/

/-- What PCI Express configuration space holds of a bindable bridge beside PRT_VPPB (R140, R142): the attention and power
indicators and Power Controller Control (true for off) of Slot Control, the bits of Slot Status that this device sets (0
Attention Button Pressed, 1 Power Fault Detected, 3 Presence Detect Changed, 4 Command Completed, 8 Data Link Layer State
Changed), how an unbind in progress goes on: 0 none, 1 waits for the link to go down, 2 managed hot-remove (R131), 3 a peer's port of the image that is not
claimed yet; whether
ASPM L1 is enabled in its Link Control (R144), ACS Control, of which bit 2 is P2P Request Redirect (R122), and L1 PM Substates Control
as the host has written it (R145). -/
structure Bridge where
  attn : Nat := 3
  pwri : Nat := 3
  off : Bool := true
  status : Nat := 0
  unbind : Nat := 0
  aspm : Bool := false
  acs : Nat := 0
  l1sub : Nat := 0
  deriving DecidableEq, Repr

/-- A port beside its registers: whether its receivers detect a partner (R142), whether hot reset or Link Disable holds it
(R128), whether a reaction isolates it (R398), the bridge that the background command of its CCI works on (R134), whether its
tables are loaded (R74), whether ASPM L1 is enabled in the Link Control of the upstream switch port (R144), with its L1 PM
Substates Control (R145), the lane of its link that is being margined and the one whose margining was last refused, by their
indices, and whether the transmitters precode (R104). -/
structure PortS where
  detect : Bool := false
  hot : Bool := false
  iso : Bool := false
  cci : Option Nat := none
  loaded : Bool := false
  aspm : Bool := false
  l1sub : Nat := 0
  margin : Option Nat := none
  marginNak : Option Nat := none
  precode : Bool := false
  deriving DecidableEq, Repr

/-- A peer's claim to a downstream port or one of its LDs (R178): the port, the LD or 0xFF, the node and its VCS. -/
structure PeerClaim where
  port : Nat
  ld : Nat
  node : Nat
  vcs : Nat
  deriving DecidableEq, Repr

/-- Bridges by 32 v + i, ports, and the claims of peers. -/
structure PrtS where
  bridges : SMap Bridge := []
  ports : SMap PortS := []
  claims : List PeerClaim := []
  deriving DecidableEq, Repr

/-! ### Sluice slots (R414 to R432) -/

/-- A slot beside its registers: whether its presence has lasted PRESDB (R420), whether an off request has ended AUTO (R420),
an AUTO request that waits for a good feed (R418), whether its slot wave has come (R76), and the feed to be made after the
dead time (R417; 1 A, 2 B). -/
structure Slot where
  held : Bool := false
  autoOff : Bool := false
  wantFeed : Bool := false
  waved : Bool := false
  make : Option Nat := none
  deriving DecidableEq, Repr

/-! ### Dictionary, Waterlog and Tender (R449 to R467) -/

/-- A notification not yet acknowledged by an originator slot (R466): its tag, type, the 16 bytes of its DATA as one
number, and how often it has been sent again. -/
structure Notice where
  slot : Nat
  tag : Nat
  typ : Nat
  data : Nat
  resent : Nat := 0
  deriving DecidableEq, Repr

/-- A Waterlog record (R463). -/
structure Rec where
  seq : Nat := 0
  ns : Nat := 0
  sec : Nat := 0
  index : Nat := 0
  sub : Nat := 0
  orig : Nat := 0xC1
  result : Nat := 0
  flags : Nat := 0
  old : Nat := 0
  new : Nat := 0
  deriving DecidableEq, Repr

/-- A request as the dictionary takes it (R451): who made it, whether it was sent to a broadcast address or to any node, and
whether its answer waits for the node's turn; READ or WRITE, the object, FLAGS, OFFSET, the apply time where it is timed, its
data; and what the model is told: that a signature in it is good, what is found of the images in the flashes, and that its
execution does not end (R452). -/
structure Cmd where
  who : Caller
  bcast : Bool := false
  later : Bool := false
  op : Nat
  index : Nat
  sub : Nat
  last : Bool := false
  offset : Nat := 0
  apply : Option Nat := none
  data : List Byte := []
  good : Bool := true
  va : ImageCheck := {}
  vb : ImageCheck := {}
  hang : Bool := false
  deriving DecidableEq, Repr

/-- A kept response (R453): the requester (a MAC address, or 2^48 + the port), its TAG, and the response. -/
structure Kept where
  who : Nat
  tag : Nat
  resp : List Byte
  deriving DecidableEq, Repr

/-- A DOMAIN write that has not ended (R457): its originator, its object and the bytes so far; for an image the contents of its
flash when the transfer began (R463). -/
structure Transfer where
  orig : Nat
  index : Nat
  sub : Nat
  data : List Byte
  was : SMap Nat := []
  deriving DecidableEq, Repr

/-- A pending timed write (R460): its Waterlog sequence, apply time in ns, originator and request; a BATCH has a record for each
entry from that sequence on (R461). -/
structure Timed where
  seq : Nat
  at_ : Nat
  orig : Nat
  cmd : Cmd
  deriving DecidableEq, Repr

/-- A checkpoint in progress (R464): its flash (0 A, 1 B) and the last sequence it writes. -/
structure Ckpt where
  flash : Nat
  upto : Nat
  deriving DecidableEq, Repr

/-- The command that executes and has not ended (R452): the request, its originator code, the sequence of its first record where
it has one, and how many records it has. -/
structure Running where
  cmd : Cmd
  orig : Nat
  seq : Option Nat
  n : Nat
  deriving DecidableEq, Repr

/-- The Tender: the Waterlog ring by place (R463); the executing command that does not end, with its originator, the sequence of
its first record and the number of its records; commands queued behind it (R452); kept responses, oldest first (R453); answers to
broadcasts that wait for their turn, as segment, address and bytes (R451); open DOMAIN writes (R457); pending timed writes (R460);
the bytes of the last DEBUG read, how many of its requests are out, and whether one was denied or came back poisoned (R462); checkpoints (R464): the one in progress, whether another is asked for, and the flash of
the next; a restart in progress, and the sequence of the record it interrupted (R465); and the 60 ms point passed with only some
objects answered (R52, R477). -/
structure TndS where
  ring : SMap (Option Rec) := []
  exec : Option Running := none
  queue : List Cmd := []
  kept : List Kept := []
  bcast : List (Nat × Nat × List Byte) := []
  xfers : List Transfer := []
  timed : List Timed := []
  dbgData : List Byte := []
  left : Nat := 0
  denied : Bool := false
  poison : Bool := false
  ckpt : Option Ckpt := none
  ckAgain : Bool := false
  ckFlash : Nat := 0
  restarting : Bool := false
  broken : Nat := 0
  limited : Bool := false
  deriving DecidableEq, Repr

/-! ### Boot, firmware, lifecycle and the TAP (R469 to R489) -/

/-- Image bytes staged and not yet programmed (R478): the slot, the offset and the bytes. -/
structure Staged where
  slot : Nat
  offset : Nat
  data : List Byte
  deriving DecidableEq, Repr

/-- Boot and firmware beside the BOOT registers: recovery (R477); whether an image has been verified and applied since the cold reset
(R474); stage 2 of the booted image still to be applied (R476);
whether the header of the booted image asks for an automatic start; the bytes of each flash that are not erased (R470); segments
staged (R478); image transfers whose program has failed; sectors erased by the transfer under way, as slot × 256 + sector; slots
verified since they were last written; the slot that a background verify reads; whether ACTIVATE waits for the restart, as the
slot; the firmware kept in a trial (R479) and TRIALSEC; the nonce with the time it was drawn (R482); refused unlocks in a row;
when an Open state ends; and the Subsystem IDs that the endpoints present (R136, R471). -/
structure BootS where
  recovery : Bool := false
  booted : Bool := false
  stage2 : Option Nat := none
  flashA : SMap Nat := []
  flashB : SMap Nat := []
  staged : List Staged := []
  failed : List Nat := []
  erased : List Nat := []
  verified : List Nat := []
  verify : Option Nat := none
  activate : Option Nat := none
  trial : Option Nat := none
  trialSec : Nat := 300
  nonce : Option (Nat × Nat) := none
  refused : Nat := 0
  openEnd : Nat := 0
  ssvid : Nat := 0
  ssid : Nat := 0
  deriving DecidableEq, Repr

/-- What drives the pins of the boundary-scan chain (R484): the device, the chain (EXTEST, CLAMP), or nothing (HIGHZ). -/
inductive PinDrive where
  | device | chain | highz
  deriving DecidableEq, Repr

/-- The TAP (R484, R485): the instruction, the bypass bit, the boundary-scan chain's update stage, what drives the pins,
SYSACC, and whether its access is out and was denied. -/
structure TapS where
  ir : Nat := 1
  bypass : Nat := 0
  chain : Nat := 0
  drive : PinDrive := .device
  sysacc : Nat := 0
  busy : Bool := false
  denied : Bool := false
  deriving DecidableEq, Repr

/-- The block. -/
structure State where
  /-- The commands that wait, first in, first out (the model's own field). -/
  pending : List Instr := []
  /-- What the block has sent, newest first (the model's own field, log entry 4). -/
  out : List Out := []
  /-- How many free values have been drawn (the model's own field, log entry 2). -/
  free : Nat := 0
  /-- Every register field that does not read its reset value: field key, then instance. -/
  regs : SMap (SMap Nat) := []
  /-- High halves latched by reads of low halves (R9), by the address of the low half. -/
  latch : SMap Nat := []
  /-- Low halves written and not yet completed by their high half (R9), by address. -/
  stage : SMap Nat := []
  /-- Supplies, resets in force and the start-up timeline (R48 to R80). -/
  pwr : PwrS := {}
  /-- Fabric time (R82). -/
  ft : FtS := {}
  /-- A profile change in progress (R32). -/
  arch : ArchS := {}
  /-- The Spillway collector (R389). -/
  spw : SpwS := {}
  /-- The Flume (R433). -/
  flm : FlmS := {}
  /-- Runnel statistics (R379); boundaries, probes and trace memory are registers. -/
  acq : AcqS := {}
  /-- The SerDes lanes (R101). -/
  lanes : SMap Lane := []
  /-- The Leat links (R147). -/
  leat : SMap Leat := []
  /-- Flows to peer nodes and the link each uses (R171). -/
  flows : List Flow := []
  /-- The switch core, Reservoir and Turnout (R180). -/
  swc : SwcS := {}
  /-- The Weir (R327). -/
  weir : WeirS := {}
  /-- Pooling and translation (R259). -/
  xlt : XltS := {}
  /-- The Check gates (R283). -/
  chk : ChkS := {}
  /-- The Watermaster and the snoop filter (R208, R237). -/
  wm : WmS := {}
  /-- The Runnel (R299). -/
  run : RunS := {}
  /-- Tenant instances (R346). -/
  ten : TenS := {}
  /-- Ports and bridges (R122). -/
  prt : PrtS := {}
  /-- Sluice slots (R419). -/
  slots : SMap Slot := []
  /-- The Tender and the Waterlog (R449, R463). -/
  tnd : TndS := {}
  /-- Notifications not yet acknowledged (R466). -/
  notices : List Notice := []
  /-- SUBSCR, object 0x1203:01 (R456). -/
  subscr : Nat := 0
  /-- KINDS, object 0x1203:02 (R456). -/
  kinds : Nat := 0x3F
  /-- The tag the next notification carries. -/
  noticeTag : Nat := 0
  /-- NODEID where it has been written, object 0x1200:06 (R456). -/
  node : Option Nat := none
  /-- Words of the stores whose Reset is undefined (R15), by address, once written. -/
  ustore : SMap (Option Nat) := []
  /-- Cold resets so far: which undefined contents those stores hold (the model's own field). -/
  colds : Nat := 0
  /-- Boot, firmware and lifecycle (R469). -/
  boot : BootS := {}
  /-- The TAP (R484). -/
  tap : TapS := {}
  deriving DecidableEq, Repr

/-- The block right after reset: a cold reset is in force with VDD_AUX present and PWRGD low (R11, R69), every
register field reads its Reset value (R15), every counter 0, every queue empty. -/
def State.reset : State := {}

end Sys2Proof.Machine
end

