-- ==== Sys2Proof/Machine/Ops.lean ====
section
/-! DEFINITION. The shared operations over registers, the log of what the block sends, and free values.  Every meaning
is written over these. -/

namespace Sys2Proof.Machine

/-- The outcome of a command that names a unit: the next state where the unit exists (`ok`), else the fault. -/
def onUnit (ok : Bool) (t : State) : Host.Outcome State Fault Refusal :=
  if ok then .next t else .fault .noSuchUnit

/-- What an access to a register of tile `t` makes of the state: nothing while the tile's Culvert gateway is offline (R384, R431). -/
def State.onTile (s : State) (t : Nat) (u : State) : State := if bitOf s.pwr.culvert t then s else u

/-- The value of field `f` of instance `i` (R8). -/
def State.rd (s : State) (f : Fld) (i : Nat) : Nat := SMap.get (f.resetAt i) (SMap.get [] s.regs f.key) i

/-- Field `f` of instance `i` set to `v`, cut to its width. -/
def State.wr (s : State) (f : Fld) (i v : Nat) : State :=
  { s with regs := SMap.mod [] s.regs f.key fun m => SMap.set (f.resetAt i) m i (v % 2 ^ f.width) }

/-- Field `f` of every instance back at its Reset value (R15). -/
def State.clr (s : State) (f : Fld) : State := { s with regs := SMap.erase s.regs f.key }

/-- Field `f` of instance `i` back at its Reset value. -/
def State.clr1 (s : State) (f : Fld) (i : Nat) : State := s.wr f i (f.resetAt i)

/-- Field `f` back at its Reset value in every instance that `p` holds of. -/
def State.clrWhere (s : State) (f : Fld) (p : Nat → Bool) : State :=
  ((((SMap.get [] s.regs f.key).map (·.1)).filter p).foldl (fun s i => s.clr1 f i) s)

/-- A one-bit field read as a Boolean. -/
def State.rdb (s : State) (f : Fld) (i : Nat) : Bool := s.rd f i % 2 == 1

/-- A one-bit field written. -/
def State.wrb (s : State) (f : Fld) (i : Nat) (b : Bool) : State := s.wr f i (b2n b)

/-- A counting field of instance `i` raised by `n`, stopping at its highest value. -/
def State.inc (s : State) (f : Fld) (i : Nat) (n : Nat := 1) : State := s.wr f i (satAdd f.width (s.rd f i) n)

/-- Bit `n` of a register array that holds 32 of them a word. -/
def State.bit (s : State) (f : Fld) (n : Nat) : Bool := bitOf (s.rd f (n / 32)) (n % 32)

/-- Bit `n` of a register array that holds 32 of them a word, written. -/
def State.setBit (s : State) (f : Fld) (n : Nat) (b : Bool) : State :=
  s.wr f (n / 32) (putBit (s.rd f (n / 32)) (n % 32) b)

/-- Bit `n` of field `f` of instance `i` written. -/
def State.putb (s : State) (f : Fld) (i n : Nat) (b : Bool) : State := s.wr f i (putBit (s.rd f i) n b)

/-- The instances of field `f` that do not read the reset value. -/
def State.listed (s : State) (f : Fld) : List Nat := (SMap.get [] s.regs f.key).map (·.1)

/-- A 64-bit value held as a low and a high field. -/
def State.rd2 (s : State) (lo hi : Fld) (i : Nat) : Nat := s.rd lo i * 2 ^ lo.lsb + 2 ^ 32 * s.rd hi i

/-- A 64-bit value written into a low and a high field. -/
def State.wr2 (s : State) (lo hi : Fld) (i v : Nat) : State := (s.wr lo i (v / 2 ^ lo.lsb)).wr hi i (v / 2 ^ 32)

/-- `o` sent. -/
def State.send (s : State) (o : Out) : State := { s with out := o :: s.out }

/-- Every one of `os` sent, in order. -/
def State.sendAll (s : State) (os : List Out) : State := os.foldl State.send s

/-- The number of the next free value, and the state in which it has been drawn. -/
def State.draw (s : State) : Nat × State := (s.free, { s with free := s.free + 1 })

/-- The state after `f` at each of `xs` in order. -/
def State.each {α : Type} (s : State) (xs : List α) (f : State → α → State) : State := xs.foldl f s

/-- `x` put in its place in a list that rises by `key`, behind its equals. -/
def insertBy {α : Type} (key : α → Nat) (x : α) : List α → List α
  | [] => [x]
  | y :: ys => if key x < key y then x :: y :: ys else y :: insertBy key x ys

/-- A list sorted by `key`, equals in their order. -/
def sortBy {α : Type} (key : α → Nat) (xs : List α) : List α := xs.foldl (fun a x => insertBy key x a) []

/-- `t` where `b` holds, else `s` unchanged. -/
def State.when_ (s : State) (b : Bool) (f : State → State) : State := if b then f s else s

/-- The core state changed by `f`. -/
def State.swcMod (s : State) (f : SwcS → SwcS) : State := { s with swc := f s.swc }

/-- The Runnel state changed by `f`. -/
def State.runMod (s : State) (f : RunS → RunS) : State := { s with run := f s.run }

/-- The instances state changed by `f`. -/
def State.tenMod (s : State) (f : TenS → TenS) : State := { s with ten := f s.ten }

/-- The supply and reset state changed by `f`. -/
def State.pwrMod (s : State) (f : PwrS → PwrS) : State := { s with pwr := f s.pwr }

/-- The fabric-time state changed by `f`. -/
def State.ftMod (s : State) (f : FtS → FtS) : State := { s with ft := f s.ft }

/-- The collector state changed by `f`. -/
def State.spwMod (s : State) (f : SpwS → SpwS) : State := { s with spw := f s.spw }

/-- The Flume state changed by `f`. -/
def State.flmMod (s : State) (f : FlmS → FlmS) : State := { s with flm := f s.flm }

/-- The Weir state changed by `f`. -/
def State.weirMod (s : State) (f : WeirS → WeirS) : State := { s with weir := f s.weir }

/-- The translation state changed by `f`. -/
def State.xltMod (s : State) (f : XltS → XltS) : State := { s with xlt := f s.xlt }

/-- The Watermaster state changed by `f`. -/
def State.wmMod (s : State) (f : WmS → WmS) : State := { s with wm := f s.wm }

end Sys2Proof.Machine
end

