-- ==== Sys2Proof/Machine/Base.lean ====
section
/-! DEFINITION. What every family asks of the whole block: fabric time and its quality, the device state, this node's
identity, and the raising of Spillway sources and configuration errors. -/

namespace Sys2Proof

/-- Bytes a message counts for (R437): header and body. -/
def Msg.bytes (m : Msg) : Nat := 16 + m.len

/-- Cells a message occupies (R182). -/
def Msg.cells (m : Msg) : Nat := ceilDiv (16 + m.len) 64

/-- The data bytes of a CXL.io message: LEN is the length of its TLP, whose prefixes and header take 16 bytes (R152; PRESUMED, log
entry 115). -/
def Msg.ioData (m : Msg) : Nat := m.len - 16

/-- The ordering group of a message (R183): 0 P, 1 NP, 2 RWD, 3 SNP, 4 RSP. -/
def Msg.grp (m : Msg) : Nat :=
  match m.kind with
  | .ioPosted => 0
  | .ioNonPosted | .memReq | .cacheD2hReq | .wmReq => 1
  | .memRwd | .wmReqData => 2
  | .memBisnp | .cacheH2dReq | .wmSnp => 3
  | .ioCpl | .memBirsp | .memNdr | .memDrs | .cacheD2hRsp | .cacheD2hData | .cacheH2dRsp | .cacheH2dData
  | .wmRsp => 4

/-- Initiator classes (R284): 0 port agent, 1 Runnel, 2 home, 3 Tender, 4 debug; 5 for a SRC that has none. -/
def Msg.cls (m : Msg) : Nat :=
  if m.src < 0x40 then 0
  else if m.src < 0x50 then 2
  else if m.src < 0x70 then 1
  else if m.src = 0x7F then (if bitOf m.tag 63 then 4 else 3)
  else 5

/-- The port of its node at which request `m` entered, and to which its completion goes (R277, R284). -/
def Msg.entered (m : Msg) : Nat := m.via.getD m.src

/-- The request code of a CXL.mem or CXL.cache opcode (R213); 15 for one that is not in its table. -/
def CxlOp.code : CxlOp → Nat
  | .memRd 1 | .rdShared => 0
  | .memRd 3 | .rdOwn => 1
  | .memInv 3 | .rdOwnNoData => 2
  | .memRd 0 | .memRd 2 | .rdCurr => 3
  | .memWr none | .itoMWr | .wrCur | .woWrInvF => 4
  | .memWrPtl | .woWrInv => 5
  | .memWr (some 0) | .dirtyEvict => 6
  | .memWr (some 3) => 7
  | .memWr (some 2) => 8
  | .memClnEvct | .cleanEvict => 9
  | _ => 15

/-- The request code of R213 that a message is reduced to; 15 for one that has none. -/
def Msg.code (m : Msg) : Nat :=
  match m.kind with
  | .wmReq | .wmReqData =>
    if 1 ≤ m.op ∧ m.op ≤ 6 then m.op - 1 else if m.op = 7 then 6 + m.st else if m.op = 8 then 9 else 15
  | .memReq | .memRwd | .cacheD2hReq | .cacheD2hData =>
    match m.cxl with
    | some c => c.code
    | none => m.op
  | _ => m.op

/-- MCLASS of a message (R152). -/
def Msg.mclass (m : Msg) : Nat :=
  match m.kind with
  | .ioPosted | .ioNonPosted | .ioCpl => 0
  | .memReq | .memRwd | .memBisnp | .memBirsp | .memNdr | .memDrs => 1
  | .cacheD2hReq | .cacheD2hRsp | .cacheD2hData | .cacheH2dReq | .cacheH2dRsp | .cacheH2dData => 2
  | .wmReq | .wmReqData | .wmSnp | .wmRsp => 3

end Sys2Proof

namespace Sys2Proof.Machine

/-- Nanoseconds of one second. -/
def nsPerSec : Nat := 1000000000

/-- The apply time that two seconds words and a nanoseconds word hold; nanoseconds above 999,999,999 are no time (R17), and
lie beyond every apply time. -/
def applyTime (ns secl sech : Nat) : Nat :=
  if ns < nsPerSec then (secl + 2 ^ 32 * sech) * nsPerSec + ns else 2 ^ 100

/-- Fabric seconds (R82). -/
def State.ftSec (s : State) : Nat := s.ft.now / nsPerSec

/-- Fabric nanoseconds within the second (R82). -/
def State.ftNs (s : State) : Nat := s.ft.now % nsPerSec

/-- FT_STAT.QUAL (R93, R95). -/
def State.ftQual (s : State) : Nat :=
  let st := s.rd fFT_STAT_STATE 0
  if st = 0 then 3
  else if s.ft.refBad then 2
  else if st = 1 then 2
  else if st = 2 then 1
  else if st = 3 then (if s.rdb fFT_STAT_SLEWING 0 then 1 else 0)
  else if s.rd fFT_HOLDLIM 0 < s.rd fFT_STAT_HOLDSEC 0 then 2 else 1

/-- Device states of TND_STAT.DEVSTATE (R459): 0 Init, 1 Standby, 2 Operational, 3 Degraded, 4 Safe. -/
def State.dev (s : State) : Nat := s.rd fTND_STAT_DEVSTATE 0

/-- The stepping fuses read A0 (R3). -/
def State.a0 (s : State) : Bool := s.rd fBOOT_ID_STEPPING 0 == 0

/-- The device is in Standby. -/
def State.standby (s : State) : Bool := s.dev == 1

/-- The device is Operational or Degraded. -/
def State.operating (s : State) : Bool := s.dev == 2 || s.dev == 3

/-- Port `p` is enabled. -/
def State.enabled (s : State) (p : Nat) : Bool := s.rdb fPRT_PORTCFG_ENABLE p

/-- Port `p` is an enabled upstream port. -/
def State.upstream (s : State) (p : Nat) : Bool := s.enabled p && s.rdb fPRT_PORTCFG_ROLE p

/-- Port `p` is an enabled downstream port. -/
def State.downstream (s : State) (p : Nat) : Bool := s.enabled p && !s.rdb fPRT_PORTCFG_ROLE p

/-- The link of port `p` is up (R127). -/
def State.dlUp (s : State) (p : Nat) : Bool := s.rdb fPRT_PORTSTAT_DLACTIVE p

/-- Quads a port of WIDTH code `w` covers (R123). -/
def quadsOf (w : Nat) : Nat := 2 ^ w

/-- Quad `q` lies within port `p` as configured. -/
def State.covers (s : State) (p q : Nat) : Bool :=
  decide (p ≤ q ∧ q < p + quadsOf (s.rd fPRT_PORTCFG_WIDTH p))

/-- This node's identity (R174): NODEID, by default the strap (R456). -/
def State.ownNode (s : State) : Nat := s.node.getD (s.rd fPKG_STRAP_NODE_ID 0)

/-- A single event of source `src` (R390): its driver holds the raised code for 8 samples. -/
def State.pulse (s : State) (src : Nat) : State :=
  { s with spw := { s.spw with drive := SMap.mod .quiet s.spw.drive src fun d => if d = .lasting then d else .single } }

/-- A lasting condition of source `src` begins or ends (R390). -/
def State.level (s : State) (src : Nat) (on : Bool) : State :=
  { s with spw := { s.spw with drive := SMap.mod .quiet s.spw.drive src fun d =>
      if on then .lasting else if d = .lasting then .quiet else d } }

/-- What the driver of source `src` shows. -/
def State.driven (s : State) (src : Nat) : Drive := SMap.get .quiet s.spw.drive src

/-- A configuration error (R18) of the block whose window base is `w` × 0x10_0000: its source is raised, and the state
is otherwise the one before. -/
def State.cfgErr (s : State) (w : Nat) : State := s.pulse (0x3C0 + w)

/-- The window of a register address (R21). -/
def windowOf (addr : Nat) : Nat := addr / 0x100000

/-- The requester number of R212 of a message's initiator: the port's agent, the peer node's agent slot, a Runnel
engine, or the Tender. -/
def State.requester (s : State) (m : Msg) : Nat :=
  if m.snode ≠ s.ownNode ∧ m.src ≠ 0x7F then 64 + s.rd fLEAT_ROUTE_AGENT m.snode
  else if m.src < 0x40 then m.src
  else if 0x50 ≤ m.src ∧ m.src < 0x70 then 72 + (m.src - 0x50)
  else 104

/-- ARCH_CONFLICT records a combination refused under R34. -/
def State.conflictRec (s : State) (code a b : Nat) : State :=
  (((s.wr fARCH_CONFLICT_CODE 0 code).wr fARCH_CONFLICT_ITEM_A 0 a).wr fARCH_CONFLICT_ITEM_B 0 b).wrb
    fARCH_CONFLICT_VALID 0 true

/-- A register write refused under R34: recorded, and the configuration-error source of ARCH raised. -/
def State.conflict (s : State) (code a b : Nat) : State := (s.conflictRec code a b).cfgErr 0

/-- A TIME80 of the present fabric time (R17): seconds in [79:32], nanoseconds in [31:0]. -/
def State.time80 (s : State) : Nat := s.ftSec * 2 ^ 32 + s.ftNs

/-- The in-band manager path is enabled: MGR_EN, with none of its straps floating (R52, R55). -/
def State.mgrOn (s : State) : Bool := s.rdb fPKG_STRAP_MGR_EN 0 && bitsOf (s.rd fPKG_STRAPFLT_FLOAT 0) 6 7 == 0

/-- The tables of port `p` count as loaded (R74), and PWR_PORTRDY shows it while the port is enabled (log entry 100). -/
def State.tabled (s : State) (p : Nat) : State :=
  let s : State := { s with prt := { s.prt with ports := SMap.mod {} s.prt.ports p fun x => { x with loaded := true } } }
  s.setBit fPWR_PORTRDY_READY p (s.enabled p)

/-- The in-band manager port (R52): the enabled port whose lanes include lane 4 × MGR_PORT; while none does, the port that starts
there. -/
def State.mgrPort (s : State) : Nat :=
  let g := s.rd fPKG_STRAP_MGR_PORT 0
  ((List.range 64).find? fun p => s.enabled p && s.covers p g).getD g

/-- The cause recorded for boot slot `b` (R489). -/
def State.causeOf (s : State) (b : Nat) : Nat := s.rd (if b = 0 then fBOOT_STAT_CAUSEA else fBOOT_STAT_CAUSEB) 0

/-- The slot that BOOTSEL and the causes so far let try next (R52, R475). -/
def State.slotTurn (s : State) (b : Nat) : Bool :=
  let sel := s.rd fPKG_STRAP_BOOTSEL 0
  s.rd fPWR_START_PHASE 0 == 3 && !s.boot.recovery && s.causeOf b == 0
    && ((sel == 0 && (b == 0 || decide (1 < s.causeOf 0))) || sel == b + 1)

/-- An access of flash `f` (0 A, 1 B) is under way, so that its clock runs (R68): its boot slot is tried, stage 2 is loaded, image
segments are programmed, a slot is verified, or a checkpoint is written. -/
def State.flashBusy (s : State) (f : Nat) : Bool :=
  (s.slotTurn f && s.pwr.sram && !s.pwr.manufTest)
    || s.boot.stage2 == some f || s.boot.verify == some f || s.boot.staged.any (fun g => g.slot == f)
    || s.tnd.ckpt.any fun c => c.flash == f

/-- Clock domain `d` is checked now (R68): SPI clocks only during flash access, TCK never, a port reference only while a port of
its tile is enabled. -/
def State.clockChecked (s : State) (d : Nat) : Bool :=
  decide (329 ≤ d ∧ d < 352) && d != 349
    && (if d = 345 ∨ d = 346 then s.flashBusy (d - 345) else true)
    && (if 341 ≤ d ∧ d < 345 then (List.range 16).any fun i => s.enabled (16 * (d - 341) + i) else true)

/-- The source of a lost clock (R389). -/
def clockSource (d : Nat) : Nat := if d = 329 then 0x182 else if 341 ≤ d ∧ d < 345 then 0x183 + (d - 341) else 0x187

/-- Some checked clock of source `src` is lost now (R68). -/
def State.clockLost (s : State) (src : Nat) : Bool :=
  (List.range 23).any fun i => clockSource (329 + i) == src && s.clockChecked (329 + i) && bitOf s.pwr.lost (1 + i)

/-- Clock domain `d` is lost no longer; its source ends with the last clock that keeps it raised (R68). -/
def State.clockFound (s : State) (d : Nat) : State :=
  let t : State := { s with pwr := { s.pwr with lost := putBit s.pwr.lost (d - 328) false } }
  if t.clockLost (clockSource d) then t else t.level (clockSource d) false

/-- Clock domain `d` where it is not, or no longer, checked: its bit reads 0 and no source is raised for it (R68). -/
def State.clockForget (s : State) (d : Nat) : State :=
  if s.clockChecked d then s
  else
    let t := s.putb fPWR_CLKSTAT_OK 0 (d - 328) false
    if bitOf s.pwr.lost (d - 328) then t.clockFound d else t

/-- The clock of a flash is no longer checked once no access of it is under way (R68). -/
def State.spiIdle (s : State) : State := (s.clockForget 345).clockForget 346

/-- The sources whose sticky bit is set. -/
def State.stickies (s : State) : List Nat :=
  (s.listed fSPW_STK_STK).flatMap fun k => (setBits 32 (s.rd fSPW_STK_STK k)).map fun i => 32 * k + i

/-- Vector `vec` of the PF of port `p` is signalled (R138): sent, or pending while its entry of the MSI-X table masks it. -/
def State.msiPf (s : State) (p vec : Nat) : State :=
  if s.rdb fPF_MSIX_MASK (64 * p + vec) then s.setBit fPF_PBA_PEND (64 * p + vec) true else s.send (.msi p 0 vec)

/-- The segments on which originator slot `n` has been seen and which are enabled: 0 A, 1 B (R466); none while a NODE_ID strap
floats (R55). -/
def State.slotSegs (s : State) (n : Nat) : List Nat :=
  if s.pwr.silent then [] else
  (if s.rdb fTND_ORIG_H_SEENA n && s.rdb fTND_CTL_SEGAEN 0 then [0] else [])
  ++ (if s.rdb fTND_ORIG_H_SEENB n && s.rdb fTND_CTL_SEGBEN 0 then [1] else [])

/-- Notification of type `typ` with its 6-byte detail sent (R466): to every subscribed slot on each segment it has been
seen on, and in band as a bit of TND_NOTPEND with MSI-X vector 1 of the manager port's PF. -/
def State.notify (s : State) (typ detail : Nat) : State :=
  let data := s.time80 * 2 ^ 48 + detail
  let slots := if bitOf s.kinds (typ - 1) then setBits 64 s.subscr else []
  let s := s.each slots fun t n =>
    let u : State := { t with notices := t.notices ++ [{ slot := n, tag := t.noticeTag, typ := typ, data := data }] }
    let v := u.sendAll ((u.slotSegs n).map fun g => Out.notify g n typ t.noticeTag data)
    { v with
      noticeTag := (t.noticeTag + 1) % 2 ^ 16 }
  let s := s.putb fTND_NOTPEND_TYPES 0 (typ - 1) true
  if s.mgrOn then s.msiPf s.mgrPort 1 else s

/-- The device state set; a change is notified (R459, R466). -/
def State.setDev (s : State) (d : Nat) : State :=
  if s.dev = d then s
  else (s.wr fTND_STAT_DEVSTATE 0 d).notify 4 (d * 2 ^ 40 + s.dev * 2 ^ 32)

end Sys2Proof.Machine
end

