-- ==== Sys2Proof/Machine/Coding.lean ====
section
/-! DEFINITION. What stands on the wires of a Leat lane and link, as functions of what is sent: PAM4 symbols, scrambling, stuffing,
lane markers and blocks (R106 to R110), the transmit filter (R114), test patterns (R118), and the bytes of a unit with their CRC and
striping (R149 to R152). -/

namespace Sys2Proof.Machine

/-! ### PAM4 symbols (R106) -/

/-- The symbol of the bit pair (b1, b0). -/
def graySym (b1 b0 : Bool) : Nat :=
  match b1, b0 with
  | false, false => 0
  | false, true => 1
  | true, true => 2
  | true, false => 3

/-- b1 of symbol `x`. -/
def symB1 (x : Nat) : Bool := decide (2 ≤ x)

/-- b0 of symbol `x`. -/
def symB0 (x : Nat) : Bool := x == 1 || x == 2

/-- The level that symbol `x` drives. -/
def symLevel (x : Nat) : Int := 2 * x - 3

/-- What an inverted pair makes of symbol `x`. -/
def symFlip (inv : Bool) (x : Nat) : Nat := if inv then 3 - x else x

/-- Bits as symbols, two bits each, b1 first. -/
def toSyms : List Bool → List Nat
  | b1 :: b0 :: r => graySym b1 b0 :: toSyms r
  | _ => []

/-- Symbols as bits. -/
def ofSyms (xs : List Nat) : List Bool := xs.flatMap fun x => [symB1 x, symB0 x]

/-! ### Scrambling (R108) -/

/-- SEED of a transmitter of physical index `pidx`. -/
def scrSeed (pidx : Nat) : Nat := 0x2AAAAAAA ^^^ pidx * 2 ^ 27

/-- The bit of the sequence that scrambler state `st` gives. -/
def scrBit (st : Nat) : Bool := bitOf st 30 != bitOf st 27

/-- Data bits scrambled, or descrambled, from state `st` on. -/
def scramble : Nat → List Bool → List Bool
  | _, [] => []
  | st, d :: ds => (d != scrBit st) :: scramble ((st * 2 + b2n (scrBit st)) % 2 ^ 31) ds

/-! ### Stuffing (R109) -/

/-- The stuff pair after a run of symbol `x`. -/
def stuffPair (x : Nat) : Nat × Nat := if x < 2 then (0, 3) else (3, 0)

/-- The count after data symbol `x`, where the symbol before it was `last` and the count `n`. -/
def runCount (last n x : Nat) : Nat := if x = last then n + 1 else 1

/-- Data symbols with their stuff pairs, from symbol `last` and count `n` on. -/
def stuff : Nat → Nat → List Nat → List Nat
  | _, _, [] => []
  | last, n, x :: xs =>
    if runCount last n x = 46 then x :: (stuffPair x).1 :: (stuffPair x).2 :: stuff x 0 xs
    else x :: stuff x (runCount last n x) xs

/-- The data symbols of a received stream, and the number of stuff violations in it. -/
def unstuff : Nat → Nat → List Nat → List Nat × Nat
  | _, _, [] => ([], 0)
  | last, n, x :: xs =>
    if runCount last n x = 46 then
      match xs with
      | a :: b :: r =>
        let (ys, v) := unstuff x 0 r
        (x :: ys, if (a, b) = stuffPair x then v else v + 1)
      | _ => ([x], 0)
    else
      let (ys, v) := unstuff x (runCount last n x) xs
      (x :: ys, v)

/-- The most identical symbols in a row in a stream, with `n` of symbol `last` before it. -/
def longestRun : Nat → Nat → List Nat → Nat
  | _, n, [] => n
  | last, n, x :: xs => if x = last then longestRun x (n + 1) xs else max n (longestRun x 1 xs)

/-! ### Lane markers and blocks (R107, R110) -/

/-- The 16 sync symbols. -/
def syncSyms : List Nat := [3, 0, 0, 3, 3, 3, 0, 3, 0, 0, 0, 3, 0, 3, 3, 0]

/-- A payload bit as two symbols. -/
def markerBit (b : Bool) : List Nat := if b then [3, 0] else [0, 3]

/-- The bits of payload `w`, bit 47 first. -/
def markerBits (w : Nat) : List Bool := (List.range 48).map fun i => bitOf w (47 - i)

/-- The 112 symbols of a marker with payload `w`. -/
def markerSyms (w : Nat) : List Nat := syncSyms ++ (markerBits w).flatMap markerBit

/-- The bits that received payload symbols carry, two symbols a bit, as one number, the first bit highest. -/
def payloadOf : List Nat → Nat → Nat
  | a :: _ :: r, acc => payloadOf r (2 * acc + b2n (decide (2 ≤ a)))
  | _, acc => acc

/-- The marker that 112 received symbols are: whether it is received inverted, and its payload; none without the sync pattern or its
complement. -/
def markerOf (xs : List Nat) : Option (Bool × Nat) :=
  let find := fun inv : Bool =>
    if (xs.take 16).map (symFlip inv) = syncSyms then some (inv, payloadOf ((xs.drop 16).map (symFlip inv)) 0) else none
  (find false).or (find true)

/-- A marker's payload with its CRC over bits 39 to 0 (R110). -/
def markerWord (pidx lpos link node phase preset step ack seq : Nat) : Nat :=
  let w := pidx * 2 ^ 36 + lpos * 2 ^ 32 + link * 2 ^ 29 + node * 2 ^ 25 + phase * 2 ^ 23 + preset * 2 ^ 19 + step * 2 ^ 16
    + ack * 2 ^ 15 + seq
  crc8 0xFF (toBeBytes 5 w) * 2 ^ 40 + w

/-- A block as a lane sends it: the marker with payload `w`, then data bits scrambled with the seed of physical index `pidx` and
stuffed; all of it inverted where the transmitter is. -/
def blockOf (pidx w : Nat) (inv : Bool) (bits : List Bool) : List Nat :=
  (markerSyms w ++ stuff 4 0 (toSyms (scramble (scrSeed pidx) bits))).map (symFlip inv)

/-- Data bits of a whole block: 65,536 symbols (R107). -/
def blockBits : Nat := 131072

/-- A lane stream as blocks, the first of them number `seq`: block q begins with the marker of payload `mk q` and carries the next 65,536
data symbols of `bits`, the last one what is left (R107). -/
def blocksOf (pidx : Nat) (mk : Nat → Nat) (inv : Bool) (seq : Nat) (bits : List Bool) : Nat → List (List Nat)
  | 0 => []
  | n + 1 =>
    if bits.isEmpty then []
    else blockOf pidx (mk seq) inv (bits.take blockBits)
      :: blocksOf pidx mk inv ((seq + 1) % 32768) (bits.drop blockBits) n

/-- The data bits of a received block whose marker came at its start, with the seed of physical index `pidx`. -/
def dataOf (pidx : Nat) (inv : Bool) (xs : List Nat) : List Bool :=
  scramble (scrSeed pidx) (ofSyms (unstuff 4 0 ((xs.drop 112).map (symFlip inv))).1)

/-! ### The transmit filter (R114) -/

/-- out(n) of the four-tap filter, in 1/64 of full swing, for the levels `x`. -/
def firOut (cm2 cm1 c0 cp1 : Int) (x : Int → Int) (n : Int) : Int :=
  c0 * x n - cm1 * x (n + 1) - cm2 * x (n + 2) - cp1 * x (n - 1)

/-! ### Test patterns (R118) -/

/-- The length of the register of PRBS pattern `p` and the places that feed it, by its polynomial. -/
def prbsTaps (p : Nat) : Nat × List Nat :=
  match p with
  | 1 => (7, [7, 6])
  | 2 => (15, [15, 14])
  | 3 => (31, [31, 28])
  | _ => (13, [13, 12, 2, 1])

/-- The next bit of pattern `p` from register `st`. -/
def prbsBit (p st : Nat) : Bool := (prbsTaps p).2.foldl (fun a k => a != bitOf st (k - 1)) false

/-- `n` bits of pattern `p` from register `st` on. -/
def prbsBits (p : Nat) : Nat → Nat → List Bool
  | 0, _ => []
  | n + 1, st => prbsBit p st :: prbsBits p n ((st * 2 + b2n (prbsBit p st)) % 2 ^ (prbsTaps p).1)

/-- The first `n` symbols of test pattern `p`: PRBS7, PRBS15 and PRBS31 as bits, of which an NRZ lane sends one a symbol and a PAM4
lane two; PRBS13Q by R106; SSPRQ as IEEE 802.3 has it. -/
def patternSyms (p : Nat) (nrz : Bool) (n st : Nat) : List Nat :=
  if p = 5 then (List.range n).map fun i => (Config.ssprq i).toNat
  else if p < 4 ∧ nrz then (prbsBits p n st).map fun b => if b then 3 else 0
  else toSyms (prbsBits p (2 * n) st)

/-- Symbol errors of a received stream against the expected one. -/
def symErrors (sent got : List Nat) : Nat := ((sent.zip got).filter fun e => e.1 != e.2).length

/-! ### Units (R149 to R151) -/

/-- The payload bytes of 60 words. -/
def payloadBytes (ws : List Nat) : List Byte := (ws ++ List.replicate (60 - ws.length) 0).flatMap (toBeBytes 4)

/-- Bytes 0 to 247 of a unit. -/
def unitBody (hdr trl : Nat) (ws : List Nat) : List Byte := toBeBytes 4 hdr ++ payloadBytes ws ++ toBeBytes 4 trl

/-- The CRC of a unit (R150). -/
def unitCrc (hdr trl : Nat) (ws : List Nat) : Nat := crc64 (unitBody hdr trl ws)

/-- The 256 bytes of a unit. -/
def unitBytes (hdr trl : Nat) (ws : List Nat) : List Byte := unitBody hdr trl ws ++ toBeBytes 8 (unitCrc hdr trl ws)

/-- Logical lane `y`'s share of a unit at width `w` (R151): byte i goes to lane i mod w. -/
def laneShare (w y : Nat) (bs : List Byte) : List Byte :=
  (List.range (bs.length / w)).map fun j => bs.getD (w * j + y) 0

/-- A unit put together from the shares of its logical lanes. -/
def destripe (shares : List (List Byte)) : List Byte :=
  (List.range (shares.length * (shares.headD []).length)).map fun i =>
    (shares.getD (i % shares.length) []).getD (i / shares.length) 0

/-- The bits of bytes, bit 7 of each first (R149). -/
def bitsOfBytes (bs : List Byte) : List Bool := bs.flatMap fun b => (List.range 8).map fun i => b.toNat.testBit (7 - i)

/-- The data symbols of a share before scrambling, four a byte (R151). -/
def shareSyms (bs : List Byte) : List Nat := toSyms (bitsOfBytes bs)

/-- Units in a block at width `w` (R151). -/
def unitsPerBlock (w : Nat) : Nat := 65536 / (4 * (256 / w))

/-! ### DATA payloads (R152, R215) -/

/-- Bytes as words of four, the most significant byte first; the last word is padded with 0. -/
def beWords : List Byte → List Nat
  | a :: b :: c :: d :: r => beBytes [a, b, c, d] :: beWords r
  | [] => []
  | [a] => [beBytes [a, 0, 0, 0]]
  | [a, b] => [beBytes [a, b, 0, 0]]
  | [a, b, c] => [beBytes [a, b, c, 0]]

/-- The 16-byte message header, multi-byte fields most significant byte first (log entry 108). -/
def msgHead (m : Msg) : List Byte :=
  toBeBytes 2 (m.mclass * 2 ^ 13 + m.len % 2 ^ 13) ++ toBeBytes 1 (m.tc % 8 * 32 + b2n m.poison * 16) ++ toBeBytes 1 0
    ++ toBeBytes 2 (m.tenant % 2 ^ 13) ++ toBeBytes 1 (m.dest % 128) ++ toBeBytes 1 (m.src % 128) ++ toBeBytes 8 m.tag

/-- The first 16 bytes of a Watermaster body (R215). -/
def wmHead (m : Msg) : List Byte :=
  toBeBytes 1 m.op ++ toBeBytes 1 (m.st % 8 + 8 * b2n (decide (80 ≤ m.len)) + 16 * b2n m.poison) ++ toBeBytes 1 (min m.ncnt 255)
    ++ toBeBytes 1 (if m.op = 0x22 then m.hint else 0) ++ toBeBytes 8 (m.addr / 64) ++ List.replicate 4 0

/-- The body of a message, LEN bytes (R152, R215). -/
def msgBody (m : Msg) : List Byte :=
  if m.mclass = 0 then (List.range m.len).map fun i => Config.tlpByte m i
  else
    let head := if m.mclass = 3 then wmHead m else toLeBytes 16 (Config.slotBytes m).toNat
    let line := if 80 ≤ m.len then toLeBytes 64 m.data else []
    let be := if 88 ≤ m.len then (if m.mclass = 3 then toBeBytes 8 m.be else toLeBytes 8 m.be) else []
    head ++ line ++ be

/-- The words of a message in its VC's byte stream, padded with 0 to a word (R152). -/
def msgWords (m : Msg) : List Nat := beWords (msgHead m ++ msgBody m)

end Sys2Proof.Machine
end

