-- ==== Sys2Proof/Machine/Words.lean ====
section
/-! DEFINITION. Register words: finding the register an address names, and what the access codes (R10), the Standby
rule (R13) and the reserved encodings (R14) make of a written word. -/

namespace Sys2Proof.Machine

/-- The bits of word `v` that are field `f`. -/
def Fld.of (f : Fld) (v : Nat) : Nat := bitsOf v f.lsb f.width

/-- The instance a selecting register names. -/
def State.selected (s : State) : Sel → Nat
  | .sgWord => s.rd fXLT_SGSEL_GROUP 0 * 32 + s.rd fXLT_SGSEL_WORD 0
  | .sgGroup => s.rd fXLT_SGSEL_GROUP 0
  | .ring => s.rd fRUN_RSEL_RING 0
  | .weirTenant => s.rd fWEIR_TSEL_TENANT 0
  | .tenant => s.rd fTEN_SEL_TI 0
  | .domain => s.rd fACQ_DOMSEL_DOM 0
  | .counter => s.rd fFLM_CNTSEL_ID 0

/-- The instance of register `d` that address `a` names. -/
def RegDesc.inst (d : RegDesc) (s : State) (a : Nat) : Option Nat :=
  if a < d.addr then none else
  match d.shape with
  | .one => if a = d.addr then some 0 else none
  | .selected k => if a = d.addr then some (s.selected k) else none
  | .row st n =>
    if (a - d.addr) % st = 0 ∧ (a - d.addr) / st < n then some ((a - d.addr) / st) else none
  | .grid st n st2 n2 =>
    if (a - d.addr) / st < n ∧ (a - d.addr) % st / st2 < n2 ∧ (a - d.addr) % st % st2 = 0 then
      some ((a - d.addr) / st * n2 + (a - d.addr) % st / st2)
    else none

/-- The register and instance that address `a` names (R21); none where nothing is there. -/
def State.findReg (s : State) (a : Nat) : Option (RegDesc × Nat) :=
  (windowTable a).findSome? fun d => (d.inst s a).map fun i => (d, i)

/-- The fields of the register word at `a`. -/
def fieldsAt (a : Nat) : List Fld :=
  match (windowTable a).find? fun d => d.addr == a with
  | some d => d.fields
  | none => []

/-- The fields of word `word` of the `n` words of a register at `base`. -/
def wordFields (base word n : Nat) : List Fld := if word < n then fieldsAt (base + 4 * word) else []

/-- The word of instance `i` of the fields `fs`. -/
def State.word (s : State) (fs : List Fld) (i : Nat) : Nat :=
  fs.foldl (fun a f => a + s.rd f i * 2 ^ f.lsb) 0

/-- A write of `v` gives some field a reserved encoding (R14).  A write of 0 to a WO field is never one, and the fields
that software cannot write are not looked at. -/
def reservedIn (fs : List Fld) (v : Nat) : Bool :=
  fs.any fun f => match f.acc with
    | .rw => decide (f.of v < f.lo ∨ f.hi < f.of v)
    | .wo => decide (f.of v ≠ 0 ∧ (f.of v < f.lo ∨ f.hi < f.of v))
    | _ => false

/-- Every RW field of the word set from `v`. -/
def State.setRW (s : State) (fs : List Fld) (i v : Nat) : State :=
  s.each (fs.filter fun f => f.acc = .rw) fun t f => t.wr f i (f.of v)

/-- The W1C fields of the word cleared where `v` has a 1, but for the bits of `ev`, set by an event of the same cycle
(R12). -/
def State.w1c (s : State) (fs : List Fld) (i v ev : Nat) : State :=
  s.each (fs.filter fun f => f.acc = .w1c) fun t f =>
    t.wr f i (clearBits (t.rd f i) (f.of v) ||| f.of ev)

/-- Outside Standby the write would change an STBY field, or writes a WO/STBY field (R13). -/
def State.stbyStops (s : State) (fs : List Fld) (i v : Nat) : Bool :=
  !s.standby && fs.any fun f => f.stby && match f.acc with
    | .rw => f.of v != s.rd f i
    | .wo => f.of v != 0
    | _ => false

/-- A written word is discarded whole: a reserved encoding (R14) or the Standby rule (R13). -/
def State.discards (s : State) (fs : List Fld) (i v : Nat) : Bool := reservedIn fs v || s.stbyStops fs i v

/-- A write of word `v` taken as R10 and R12 to R14 say. -/
def State.takeWord (s : State) (fs : List Fld) (i v : Nat) (ev : Nat := 0) : State :=
  if s.discards fs i v then s else (s.setRW fs i v).w1c fs i v ev

/-- A write that a rule admits only while `ok`: refused under R18 otherwise, with the configuration-error source of
window `w` raised and nothing of it taken. -/
def State.takeIf (s : State) (ok : Bool) (w : Nat) (fs : List Fld) (i v : Nat) : State :=
  if s.discards fs i v then s else if ok then (s.setRW fs i v).w1c fs i v 0 else s.cfgErr w

/-- The low half of a 64-bit register, at address `a`, written: it waits for the high half (R9). -/
def State.stageLow (s : State) (a v : Nat) : State := { s with stage := SMap.set 0 s.stage a (v + 1) }

/-- The low half that waits at address `a` of instance `i` taken, with the write of the high half (R9); without one the low half
keeps its value. `fs` are the fields of the low half. -/
def State.takeStaged (s : State) (a i : Nat) (fs : List Fld) : State :=
  match SMap.get 0 s.stage a with
  | 0 => s
  | v + 1 => State.setRW { s with stage := SMap.erase s.stage a } fs i v

/-- A word of a store whose Reset is undefined (R15). -/
def State.uword (s : State) (addr : Nat) : Nat :=
  match SMap.get none s.ustore addr with
  | some v => v
  | none => (Config.undefinedWord addr s.colds).toNat

/-- A word of a store whose Reset is undefined, written. -/
def State.uset (s : State) (addr v : Nat) : State :=
  { s with ustore := SMap.set none s.ustore addr (some (v % 2 ^ 32)) }

end Sys2Proof.Machine
end

