-- ==== Sys2Proof/Machine/Acq.lean ====
section
/-! DEFINITION. Tiles, quads and power domains (R20, R22, R64 to R66) and the Acequia: domain boundaries, probes,
Runnel statistics and errors (R368 to R388). -/

namespace Sys2Proof.Machine

/-! ### Tiles, quads, domains -/

/-- The quad domains of port `p` (R64). -/
def State.portDomains (s : State) (p : Nat) : List Nat :=
  (List.range (quadsOf (s.rd fPRT_PORTCFG_WIDTH p))).map fun j => 8 + p + j

/-- The configuration uses switchable domain `n` (R65): a quad an enabled port covers, an enabled link, or a Runnel
group with an enabled engine. -/
def State.domUsed (s : State) (n : Nat) : Bool :=
  if n < 72 then (List.range 64).any fun p => s.rdb fPRT_PORTCFG_ENABLE p && s.covers p (n - 8)
  else if n < 80 then s.rdb fLEAT_CTL_ENABLE (n - 72)
  else decide (bitsOf (s.rd fRUN_ENABLE_EN 0) (8 * (n - 80)) 8 ≠ 0)

/-- Domain `n` is to be on (R65): used, not forced off by a write that clears ON, and not fenced by a reaction (R398).  ON of a
switchable domain that no image record and no write names reads 0 (R510) and forces nothing off (log entry 98). -/
def State.domWanted (s : State) (n : Nat) : Bool :=
  s.domUsed n && !bitOf s.pwr.forced n && !bitOf s.pwr.fence n

/-- Domain `n` is powered and open. -/
def State.domOn (s : State) (n : Nat) : Bool := s.rd fACQ_DOMSTAT_STATE n == 0

/-- A power-up of domain `n` begins: BUSY, and its boundary is WAKING (R65, R381). -/
def State.domUp (s : State) (n : Nat) : State := (s.wrb fPWR_DOMCTL_BUSY n true).wr fACQ_DOMSTAT_STATE n 3

/-- A power-down of domain `n` begins: BUSY, and its boundary is fenced and DRAINING (R65, R381). -/
def State.domDown (s : State) (n : Nat) : State := (s.wrb fPWR_DOMCTL_BUSY n true).wr fACQ_DOMSTAT_STATE n 1

/-- What the wish for domain `n` makes of it now (R65, R66): a wish that meets the opposite change waits for its end. -/
def State.domKick (s : State) (n : Nat) : State :=
  if s.rdb fPWR_DOMCTL_BUSY n then s
  else if s.domWanted n then (if s.rd fACQ_DOMSTAT_STATE n = 2 then s.domUp n else s)
  else if s.rd fACQ_DOMSTAT_STATE n = 0 then s.domDown n else s

/-- Every domain of `ns` reconsidered. -/
def State.domKicks (s : State) (ns : List Nat) : State := s.each ns State.domKick

/-- A reaction fences domain `n` (R398, R399): a power-up in progress is aborted (R66). -/
def State.domFence (s : State) (n : Nat) : State :=
  let s := { s with pwr := { s.pwr with fence := putBit s.pwr.fence n true } }
  if s.rd fACQ_DOMSTAT_STATE n = 3 then (s.wr fACQ_DOMSTAT_STATE n 1).wrb fPWR_DOMCTL_ABORT n true
  else s.domKick n

/-- A reaction that fenced domain `n` is released (R404). -/
def State.domUnfence (s : State) (n : Nat) : State :=
  State.domKick { s with pwr := { s.pwr with fence := putBit s.pwr.fence n false } } n

/-- A packet refused at the boundary of domain `n` (R382). -/
def State.domRefuse (s : State) (n : Nat) : State := s.inc fACQ_DOMSTAT_OFFREQ n

/-- A response absorbed at the boundary of domain `n` (R382). -/
def State.domOrphan (s : State) (n : Nat) : State := s.inc fACQ_DOMSTAT_ORPHAN n

/-! ### The mesh (R368 to R374) -/

/-- The router of Runnel engine `e` (R369). -/
def engineNode (e : Nat) : Nat :=
  if e < 8 then 8 * 1 + e
  else if e < 16 then 8 * 6 + (e - 8)
  else if e < 24 then 8 * (2 + (e - 16) / 2) + (e - 16) % 2
  else 8 * (2 + (e - 24) / 2) + (6 + (e - 24) % 2)

/-- The router of internal port `x`, 72 to 92 (R369). -/
def internalNode (x : Nat) : Nat :=
  if x < 88 then 8 * (2 + (x - 72) / 4) + (2 + (x - 72) % 4)
  else if x = 88 then 8 * 1 + 4 else if x = 89 then 8 * 6 + 4
  else if x = 90 then 8 * 4 + 1 else if x = 91 then 8 * 4 + 6 else 1

/-- One crossing of a router port: router, port (0 local, 1 N, 2 E, 3 S, 4 W), and whether out of the router. -/
abbrev Crossing := Nat × Nat × Bool

/-- The crossings of `n` hops along one axis from node `a`, each hop leaving by `out`, entering by `inn`, with node
numbers moving by `d`. -/
def hops (out inn : Nat) (up : Bool) (d : Nat) : Nat → Nat → List Crossing
  | 0, _ => []
  | n + 1, a =>
    let b := if up then a + d else a - d
    (a, out, true) :: (b, inn, false) :: hops out inn up d n b

/-- The crossings of a head flit from router `a` to router `b`: along X, then along Y, local ports included (R372). -/
def route (a b : Nat) : List Crossing :=
  let (ax, ay, bx, by_) := (a % 8, a / 8, b % 8, b / 8)
  let mid := 8 * ay + bx
  (a, 0, false)
    :: (if ax ≤ bx then hops 2 4 true 1 (bx - ax) a else hops 4 2 false 1 (ax - bx) a)
    ++ (if ay ≤ by_ then hops 1 3 true 8 (by_ - ay) mid else hops 3 1 false 8 (ay - by_) mid)
    ++ [(b, 0, true)]

/-- The virtual channel of a message on the mesh (R371). -/
def meshVc (m : Msg) : Nat := if m.grp = 3 then 1 else if m.grp = 4 then 2 else 0

/-- The CLASS of a message on the mesh (R371): 1 coherence where a home slice or a snoop is concerned. -/
def meshClass (m : Msg) : Nat :=
  if m.grp = 3 ∨ (0x40 ≤ m.src ∧ m.src < 0x50) ∨ (0x40 ≤ m.dest ∧ m.dest < 0x50) then 1 else 0

/-- The 16-byte message header of R152 as four little-endian words: bytes 0 and 1 are U16, byte order of R6. -/
def headerWords (m : Msg) : List Nat :=
  [m.mclass * 2 ^ 13 + m.len % 2 ^ 13 + 2 ^ 16 * ((m.tc % 8) * 32 + b2n m.poison * 16),
   m.tenant % 2 ^ 13 + 2 ^ 16 * (m.dest % 128) + 2 ^ 24 * (m.src % 128),
   m.tag % 2 ^ 32, m.tag / 2 ^ 32 % 2 ^ 32]

/-- Probe `p` matches a packet at a crossing (R377). -/
def State.probeMatch (s : State) (p : Nat) (a b : Nat) (c : Crossing) (m : Msg) : Bool :=
  s.rdb fACQ_PRB_EN p && s.rd fACQ_PRB_NODE p == c.1 && s.rd fACQ_PRB_PORT p == c.2.1
  && s.rdb fACQ_PRB_DIR p == c.2.2
  && bitOf (s.rd fACQ_PRB_CLASS p) (meshClass m) && bitOf (s.rd fACQ_PRB_VCMASK p) (meshVc m)
  && (s.rdb fACQ_PRB_SRCANY p || s.rd fACQ_PRB_SRCNODE p == a)
  && (s.rdb fACQ_PRB_DSTANY p || s.rd fACQ_PRB_DSTNODE p == b)
  && bitOf (s.rd fACQ_PRB_TCMASK p) m.tc
  && (s.rdb fACQ_PRB_TENANY p || s.rd fACQ_PRB_TENANT p == m.tenant)
  && (s.rdb fACQ_PRB_INITANY p
      || decide (s.rd fACQ_PRB_INITLO p ≤ s.requester m ∧ s.requester m ≤ s.rd fACQ_PRB_INITHI p))

/-- The eight words of a trace record (R378). -/
def State.traceWords (s : State) (c : Crossing) (m : Msg) : List Nat :=
  [s.ftNs, s.ftSec % 2 ^ 32,
   s.ftSec / 2 ^ 32 % 2 ^ 16 + 2 ^ 16 * (c.1 + 64 * meshVc m)
     + 2 ^ 24 * (c.2.1 + 8 * b2n c.2.2 + 16 * meshClass m + 32 * b2n m.poison),
   m.cells + 2 ^ 16 * s.requester m] ++ headerWords m

/-- A trace record of probe `p` written into its window (R378). -/
def State.traceWrite (s : State) (p : Nat) (c : Crossing) (m : Msg) : State :=
  let (base, len, wp) := (s.rd fACQ_PRB_TBASE p, s.rd fACQ_PRB_TLEN p, s.rd fACQ_PRB_WPTR p)
  if len = 0 ∨ s.rdb fACQ_PRB_FULL p then s else
  let t := s.each ((s.traceWords c m).zipIdx) fun t wi => t.wr fACQ_TRACE_DATA (8 * wp + wi.2) wi.1
  if wp + 1 < base + len then t.wr fACQ_PRB_WPTR p (wp + 1)
  else if s.rdb fACQ_PRB_WRAP p then t.wr fACQ_PRB_WPTR p base
  else (t.wr fACQ_PRB_WPTR p base).wrb fACQ_PRB_FULL p true

/-- What probe `p` does at a crossing it matches (R377). -/
def State.probeHit (s : State) (p : Nat) (c : Crossing) (m : Msg) : State :=
  let a := s.rd fACQ_PRB_ACTION p
  let s := if bitOf a 0 then (s.inc fACQ_PRB_PKTS p).inc fACQ_PRB_FLITS p m.cells else s
  if bitOf a 1 then s.traceWrite p c m else s

/-- A message crosses the mesh from router `a` to router `b`: every probe that watches a point of its way sees it. -/
def State.mesh (s : State) (a b : Nat) (m : Msg) : State :=
  let ps := (List.range 8).filter fun p => s.rdb fACQ_PRB_EN p
  if ps.isEmpty then s else
  s.each (route a b) fun t c => t.each ps fun t p => if t.probeMatch p a b c m then t.probeHit p c m else t

/-! ### Runnel statistics (R379, R380) -/

/-- An acknowledged access of instance `ti` counted in the active bank (R379). -/
def State.statAck (s : State) (ti rd wr lat : Nat) : State :=
  let f (r : StatRec) : StatRec :=
    { rd := satAdd 64 r.rd rd, wr := satAdd 64 r.wr wr, acks := satAdd 32 r.acks 1,
      latMax := min (max r.latMax lat) (2 ^ 32 - 1), latSum := satAdd 64 r.latSum lat }
  if s.rdb fACQ_RSCTL_BANK 0 then { s with acq := { s.acq with bank1 := SMap.mod {} s.acq.bank1 ti f } }
  else { s with acq := { s.acq with bank0 := SMap.mod {} s.acq.bank0 ti f } }

/-- The banks exchanged: the frozen one becomes active and reads 0, and the time is latched (R380). -/
def State.statSnap (s : State) : State :=
  let b := s.rdb fACQ_RSCTL_BANK 0
  let s := if b then { s with acq := { s.acq with bank0 := [] } } else { s with acq := { s.acq with bank1 := [] } }
  ((((s.wrb fACQ_RSCTL_BANK 0 (!b)).wr fACQ_RSTIME_NS_NS 0 s.ftNs).wr fACQ_RSTIME_SECL_SECL 0 s.ftSec).wr
    fACQ_RSTIME_SECH_SECH 0 (s.ftSec / 2 ^ 32)).wr fACQ_RSTIME_SECH_QUAL 0 s.ftQual

/-- The words of the frozen record of instance `ti` (R379). -/
def State.statWords (s : State) (ti : Nat) : List Nat :=
  let r := SMap.get {} (if s.rdb fACQ_RSCTL_BANK 0 then s.acq.bank0 else s.acq.bank1) ti
  [r.rd % 2 ^ 32, r.rd / 2 ^ 32, r.wr % 2 ^ 32, r.wr / 2 ^ 32, r.acks, r.latMax, r.latSum % 2 ^ 32, r.latSum / 2 ^ 32]

/-! ### Commands -/

/-- ACQ_LASTERR records an event; a later one overwrites it (R388). -/
def State.acqErr (s : State) (node port vc kind : Nat) : State :=
  ((((s.wr fACQ_LASTERR_NODE 0 node).wr fACQ_LASTERR_PORT 0 port).wr fACQ_LASTERR_VC 0 vc).wr
    fACQ_LASTERR_KIND 0 kind).wrb fACQ_LASTERR_VALID 0 true

/-- BOUNDARY_DRAIN_DONE: a drained boundary goes OFFLINE and isolation is applied (R381). -/
def execBoundaryDrainDone (n : Nat) (s : State) : Host.Outcome State Fault Refusal :=
  onUnit (isDomain n) (if s.rd fACQ_DOMSTAT_STATE n = 1 then s.wr fACQ_DOMSTAT_STATE n 2 else s)

/-- BOUNDARY_DRAIN_TIMEOUT: DRAINMAX has passed; what is inside is discarded (R381). -/
def execBoundaryDrainTimeout (n : Nat) (s : State) : Host.Outcome State Fault Refusal :=
  onUnit (isDomain n)
    (if s.rd fACQ_DOMSTAT_STATE n = 1 then
      ((s.wr fACQ_DOMSTAT_STATE n 2).wrb fACQ_DOMSTAT_DRAINTO n true).pulse 0x1E0
    else s)

/-- ACQ_WEDGE: a VC2 or VC3 head flit has not advanced for WDOG (R386); the watch is off while WDOGEN = 0. -/
def execAcqWedge (node port vc : Nat) (s : State) : Host.Outcome State Fault Refusal :=
  onUnit (decide (node < 64 ∧ port < 5 ∧ (vc = 2 ∨ vc = 3)))
    (if s.rdb fACQ_CTL_WDOGEN 0 then
      ((s.wrb fACQ_ERR_WEDGE 0 true).acqErr node port vc 3).pulse 0x1E2
    else s)

/-- What an ECC error on a flit of VC `vc` at input `port` of router `node` counts and raises (R385): `kind` 0 a corrected one, 1 an
uncorrectable control field, 2 an uncorrectable payload, which raises the source for management packets alone. -/
def State.flitError (s : State) (node port vc kind : Nat) : State :=
  let f := if kind = 0 then fACQ_ERR_ECCCOR else if kind = 1 then fACQ_ERR_HDRERR else fACQ_ERR_PAYUNC
  ((s.inc f 0).acqErr node port vc kind).when_ (decide (kind = 1 ∨ (kind = 2 ∧ vc = 3))) fun s => s.pulse 0x1E1

/-- ACQ_HEADER_FAULT: a router meets an ECC error on a flit (R385): an uncorrectable control field, which discards the packet,
or one of the rule's other errors. -/
def execAcqHeaderFault (node port : Nat) (e : FlitErr) (s : State) : Host.Outcome State Fault Refusal :=
  onUnit (decide (node < 64 ∧ port < 5 ∧ e.vc < 4)) (s.flitError node port e.vc e.kind)

/-- Two trace windows overlap (R378). -/
def tracesMeet (b1 l1 b2 l2 : Nat) : Bool := decide (0 < l1 ∧ 0 < l2 ∧ b1 < b2 + l2 ∧ b2 < b1 + l1)

/-- ACQ_PROBE_WRITE: word `word` of ACQ_PRBp is written.  While EN = 1 only a write that clears EN is taken (R388), and
no write may make the windows of two enabled probes overlap (R378). A write that enables a probe, or moves its window,
starts the window at TBASE. -/
def execAcqProbeWrite (p word val : Nat) (s : State) : Host.Outcome State Fault Refusal :=
  let fs := wordFields 0x1100100 word 6
  let t := (s.takeWord fs p val)
  let clash := t.rdb fACQ_PRB_EN p && (List.range 8).any fun q =>
    q != p && t.rdb fACQ_PRB_EN q
      && tracesMeet (t.rd fACQ_PRB_TBASE p) (t.rd fACQ_PRB_TLEN p) (t.rd fACQ_PRB_TBASE q) (t.rd fACQ_PRB_TLEN q)
  let busy := s.rdb fACQ_PRB_EN p && !(word == 0 && !bitOf val 0)
  let u := s.takeIf (!clash && !busy) 17 fs p val
  let fresh := !s.rdb fACQ_PRB_EN p && u.rdb fACQ_PRB_EN p
  onUnit (decide (p < 8 ∧ word < 6))
    (if fresh then (u.wr fACQ_PRB_WPTR p (u.rd fACQ_PRB_TBASE p)).wrb fACQ_PRB_FULL p false else u)

/-- RUNNEL_STATS_SNAP: a write of ACQ_RSCTL.  SNAP needs KEY 0x8E; AUTO needs none (R388). -/
def execRunnelStatsSnap (val : Nat) (s : State) : Host.Outcome State Fault Refusal :=
  let t := s.wrb fACQ_RSCTL_AUTO 0 (bitOf val 1)
  .next (if bitOf val 0 && bitsOf val 24 8 == 0x8E then t.statSnap else t)

end Sys2Proof.Machine
end

