-- ==== Sys2Proof/Machine/FlmCount.lean ====
section
/-! DEFINITION. Flume counting (R433 to R438): what an event adds to the counters that are defined to count it. -/

namespace Sys2Proof.Machine

/-- The marker of R446. -/
def flmMarker : Nat := 0xFFFFFFFFFFFFFFFF

/-- The live value of counter `c` (R433). -/
def State.flm_get (s : State) (c : Nat) : Nat := SMap.get 0 s.flm.cnt c

/-- `n` added to a counter: it saturates one below the marker and a marked counter counts nothing (R433, R446). -/
def flmSum (v n : Nat) : Nat := if v = flmMarker then v else min (v + n) (flmMarker - 1)

/-- `n` added to counter `c`. -/
def State.flmAdd (s : State) (c n : Nat) : State :=
  { s with flm := { s.flm with cnt := SMap.mod 0 s.flm.cnt c fun v => flmSum v n } }

/-- The group of event codes of event counter `c` (R433): 0 to 3 for H0 to H3, 4 CORE, 5 COH, 6 INT. -/
def flmGroup (c : Nat) : Nat :=
  if c < 8960 then 0 else if c < 9472 then 1 else if c < 9984 then 2 else if c < 10496 then 3
  else if c < 11264 then 4 else if c < 11776 then 5 else 6

/-- An event of R437: its code, the group it falls in, its parameter, the message it carries and that message's
address, where it has one. -/
structure FlmEv where
  code : Nat
  grp : Nat
  param : Nat := 0
  msg : Option Msg := none
  addr : Option Nat := none
  deriving DecidableEq, Repr

/-- Codes that take no parameter (R437). -/
def flmNoParam (code : Nat) : Bool := [0x03, 0x12, 0x13, 0x14, 0x15, 0x33].contains code

/-- The parameter value that stands for any. -/
def flmAny (code : Nat) : Nat := if code = 0x11 then 0x3FF else 0x7F

/-- Filter set `f` against a message (R438). -/
def State.flmFilter (s : State) (f : Nat) (m : Msg) (addr : Option Nat) : Bool :=
  bitOf (s.rd fFLM_FILT_PRIV f) m.cls && bitOf (s.rd fFLM_FILT_TCMASK f) m.tc
  && bitOf (s.rd fFLM_FILT_GRPMASK f) m.grp
  && (match s.rd fFLM_FILT_INITMODE f with
      | 0 => true
      | 1 => decide (s.rd fFLM_FILT_LO f ≤ s.requester m ∧ s.requester m ≤ s.rd fFLM_FILT_HI f)
      | _ => decide (s.rd fFLM_FILT_LO f ≤ m.tenant ∧ m.tenant ≤ s.rd fFLM_FILT_HI f)
          && (s.rdb fFLM_FILT_TNANY f || m.snode == s.rd fFLM_FILT_TNODE f))
  && (!s.rdb fFLM_FILT_ADDREN f
      || match addr with
         | none => false
         | some a => decide (s.rd2 fFLM_FILT_ADDRLO_L fFLM_FILT_ADDRLO_H f ≤ a / 64 * 64
             ∧ a / 64 * 64 ≤ s.rd2 fFLM_FILT_ADDRHI_L fFLM_FILT_ADDRHI_H f))

/-- Event counter 8448 + `k` counts `e` (R437). -/
def State.flmCounts (s : State) (k : Nat) (e : FlmEv) : Bool :=
  s.rdb fFLM_EVT_EN k && s.rd fFLM_EVT_EVT k == e.code && flmGroup (8448 + k) == e.grp
  && (flmNoParam e.code || s.rd fFLM_EVT_PARAM k == flmAny e.code || s.rd fFLM_EVT_PARAM k == e.param)
  && (!s.rdb fFLM_EVT_FEN k
      || (!s.flm.badFilt.contains (s.rd fFLM_EVT_FSEL k)
          && match e.msg with
             | none => false
             | some m => s.flmFilter (s.rd fFLM_EVT_FSEL k) m e.addr))

/-- What one event adds: 1, the message's bytes, or its cells (UNIT of R437). -/
def flmAmount (unit : Nat) (m : Option Msg) : Nat :=
  match m, unit with
  | some m, 1 => m.bytes
  | some m, 2 => m.cells
  | _, _ => 1

/-- An event counted in every counter defined to count it (R437). -/
def State.count (s : State) (e : FlmEv) : State :=
  s.each ((s.listed fFLM_EVT_EN).filter fun k => s.flmCounts k e) fun t k =>
    t.flmAdd (8448 + k) (flmAmount (s.rd fFLM_EVT_UNIT k) e.msg)

/-- The address of message `m` at the counting point (R438): a CXL.io message carries `tgt` where it leaves the device, code 0x02, or
is checked at a gate, 0x04 and 0x33; CXL.mem and Watermaster messages have their fabric address; a response has none, but for one of
the Watermaster's (R215). -/
def flmAddr (code : Nat) (m : Msg) : Option Nat :=
  if m.grp = 4 ∧ m.kind ≠ .wmRsp then none
  else some (if m.mclass == 0 && (code == 0x02 || code == 0x04 || code == 0x33) then m.tgt else m.addr)

/-- An event that carries message `m` (R437). -/
def State.countMsg (s : State) (code grp param : Nat) (m : Msg) : State :=
  s.count { code := code, grp := grp, param := param, msg := some m, addr := flmAddr code m }

/-- An event that carries no message. -/
def State.countEv (s : State) (code grp param : Nat) : State := s.count { code := code, grp := grp, param := param }

end Sys2Proof.Machine
end

