-- ==== Sys2Proof/Machine/Swc.lean ====
section
/-! DEFINITION. The Reservoir and its queues (R180 to R194, R203): cells, holds and withheld credits, telemetry, storing
a message, placing and removing its copies, and what a device-made completion says. -/

namespace Sys2Proof

/-- The message answers a request: the completion the device makes for it (R127, R170), with its data poisoned or not.
The header fields change places, and TAG, TC and TENANT are echoed. -/
def Msg.answer (m : Msg) (status : CplStatus) (poison : Bool) : Msg :=
  { m with
    kind := (if m.io.isSome then MKind.ioCpl else match m.kind with
      | .memReq => MKind.memDrs
      | .memRwd => MKind.memNdr
      | .wmReq | .wmReqData => MKind.wmRsp
      | .cacheD2hReq => MKind.cacheH2dRsp
      | .memBisnp => MKind.memBirsp
      | .cacheH2dReq => MKind.cacheD2hRsp
      | _ => MKind.ioCpl),
    act := .response, src := m.dest, dest := m.entered, node := m.snode, snode := m.node, status := status,
    poison := poison, len := 16, data := 0, gen := none, win := none, via := none, mute := false, io := none, chk := none }

/-- Message `m` stands for a posted write of a window, whose requester awaits nothing (R261). -/
def Msg.posted (m : Msg) : Bool :=
  match m.io with
  | some (_, _, wanted) => !wanted
  | none => false

/-- The message is a request that expects a response. -/
def Msg.wantsReply (m : Msg) : Bool :=
  match m.kind with
  | .ioNonPosted | .memReq | .memRwd | .cacheD2hReq | .wmReq | .wmReqData => m.group.isNone && !m.mute
  | _ => false

/-- CXL.io messages (R152). -/
def Msg.isIo (m : Msg) : Bool :=
  match m.kind with
  | .ioPosted | .ioNonPosted | .ioCpl => true
  | _ => false

/-- A holder's answer to a snoop, of a port's ingress (R214). -/
def Msg.answersSnoop (m : Msg) : Bool :=
  match m.kind with
  | .memBirsp | .cacheD2hRsp => true
  | _ => false

/-- The virtual channel of a Leat link that a message of ordering group `g` travels on (R153). -/
def vcOfGroup (g : Nat) : Nat := if g = 4 then 2 else if g = 3 then 1 else 0

end Sys2Proof

namespace Sys2Proof.Machine

/-- 8 x + t, the number of a class of index `x`. -/
def qi (x t : Nat) : Nat := 8 * x + t

/-- The number of the sub-queue of group `g` (R183). -/
def subq (x t g : Nat) : Nat := 5 * qi x t + g

/-! ### Link k's record -/

/-- Link `k` beside its registers. -/
def State.lk (s : State) (k : Nat) : Leat := SMap.get {} s.leat k

/-- Link `k`'s record changed by `f`. -/
def State.lkMod (s : State) (k : Nat) (f : Leat → Leat) : State := { s with leat := SMap.mod {} s.leat k f }

/-- `n` credits of VC `v` granted to link `k`'s partner: LIMIT_v grows, modulo 2^32 (R161). -/
def State.leatGrant (s : State) (k v n : Nat) : State :=
  s.lkMod k fun l =>
    if v = 0 then { l with lim0 := (l.lim0 + n) % 2 ^ 32 }
    else if v = 1 then { l with lim1 := (l.lim1 + n) % 2 ^ 32 }
    else { l with lim2 := (l.lim2 + n) % 2 ^ 32 }

/-! ### Holds and credits (R186 to R190) -/

/-- A hold covers (x, t): its own, the global hold or the profile change's (R187). -/
def State.covered (s : State) (x t : Nat) : Bool :=
  s.rdb fRSV_INOCC_HELD (qi x t) || s.rdb fRSV_STAT_GHOLD 0 || s.rdb fRSV_STAT_PHOLD 0

/-- One credit returned to the partner of index `x` (R187). -/
def State.retCredit (s : State) (c : Credit) : State :=
  if c.x < 64 then s.send (.credit c.x c.vc c.n)
  else if c.x < 72 then s.leatGrant (c.x - 64) c.vc c.n
  else s

/-- Every withheld credit that no hold covers any longer is returned, oldest first (R187). -/
def State.retCredits (s : State) : State :=
  let (stay, go) := s.swc.withheld.partition fun c => s.covered c.x c.t
  State.each { s with swc := { s.swc with withheld := stay } } go State.retCredit

/-- The hold of (x, t) after its occupancy or its watermarks changed (R186). -/
def State.holdUpdate (s : State) (x t : Nat) : State :=
  let i := qi x t
  let occ := s.rd fRSV_INOCC_OCC i
  let h := if s.rd fRSV_WM_HIGH i * 64 < occ then true
    else if occ < s.rd fRSV_WM_LOW i * 64 then false
    else s.rdb fRSV_INOCC_HELD i
  if h = s.rdb fRSV_INOCC_HELD i then s
  else (s.wrb fRSV_INOCC_HELD i h).setBit fRSV_HOLD_HELD i h

/-- The global hold after the free count or its thresholds changed (R188). -/
def State.globalUpdate (s : State) : State :=
  let free := s.rd fRSV_FREE_FREE 0
  if free < s.rd fRSV_GLOBAL_HOLD 0 * 1024 then s.wrb fRSV_STAT_GHOLD 0 true
  else if s.rd fRSV_GLOBAL_RESUME 0 * 1024 < free then s.wrb fRSV_STAT_GHOLD 0 false
  else s

/-- `n` cells taken from the free list (R182). -/
def State.takeCells (s : State) (n : Nat) : State :=
  let free := s.rd fRSV_FREE_FREE 0 - n
  let s := s.wr fRSV_FREE_FREE 0 free
  (s.wr fRSV_MINFREE_MINFREE 0 (min free (s.rd fRSV_MINFREE_MINFREE 0))).globalUpdate

/-- `n` cells given back to the free list. -/
def State.giveCells (s : State) (n : Nat) : State :=
  (s.wr fRSV_FREE_FREE 0 (s.rd fRSV_FREE_FREE 0 + n)).globalUpdate

/-- The occupancy of (x, t) changed by a stored message of `n` cells (R186). -/
def State.occAdd (s : State) (x t n : Nat) : State :=
  (s.wr fRSV_INOCC_OCC (qi x t) (s.rd fRSV_INOCC_OCC (qi x t) + n)).holdUpdate x t

/-- The occupancy of (x, t) lowered by `n`. -/
def State.occSub (s : State) (x t n : Nat) : State :=
  (s.wr fRSV_INOCC_OCC (qi x t) (s.rd fRSV_INOCC_OCC (qi x t) - n)).holdUpdate x t

/-- The channel whose credit a message of ingress `x` freed: the VC of a Leat link; on a port, the group and class of
protocol (R187). -/
def creditVc (x : Nat) (m : Msg) : Nat :=
  if x < 64 then 5 * m.mclass + m.grp else vcOfGroup m.grp

/-- Where an arriving message of `n` cells is counted, and whether its credit is withheld (R187, R189, R190).  A message
that takes its class above HIGH causes the hold that covers it from then on: its credit is withheld, and no reserve serves it. -/
def State.admitCells (s : State) (x t n grp : Nat) (eg : Option Nat) : Place × Bool :=
  if grp = 4 then (if s.rdb fRSV_STAT_GHOLD 0 then (.response, false) else (.shared, false))
  else if s.covered x t then
    match eg with
    | some e =>
      if s.rd fARCH_PROFILE_ACTIVE 0 = 3 ∧ e < 72 ∧ n ≤ 32 ∧ s.rd fRSV_EQOCC_RESUSED (qi e t) + n ≤ 32 then
        (.guarded, false)
      else (.shared, true)
    | none => (.shared, true)
  else (.shared, decide (s.rd fRSV_WM_HIGH (qi x t) * 64 < s.rd fRSV_INOCC_OCC (qi x t) + n))

/-! ### Telemetry (R194) -/

/-- The lowest egress queue whose level has been crossed. -/
def State.telFirst (s : State) : Option Nat := (List.range 744).find? fun i => s.bit fRSV_TELSTAT_CROSSED i

/-- The telemetry notification, at most once per COAL µs (R194). -/
def State.telNotify (s : State) : State :=
  match s.telFirst with
  | none => s
  | some i =>
    if (match s.swc.telLast with
        | none => true
        | some t => decide (t + s.rd fRSV_TELCTL_COAL 0 * 1000 ≤ s.pwr.ns)) then
      { s.notify 2 (i * 2 ^ 32) with swc := { s.swc with telLast := some s.pwr.ns } }
    else s

/-- The level of egress queue `i` has been written: it fires at the next rise above it (R194). -/
def State.telLevel (s : State) (i : Nat) : State :=
  let others := s.swc.above.filter (· != i)
  let up := decide (s.rd fRSV_TLVL_LEVEL i ≠ 0 ∧ s.rd fRSV_TLVL_LEVEL i < s.rd fRSV_EQOCC_OCC i)
  { s with swc := { s.swc with above := if up then i :: others else others } }

/-- The level of egress queue `i` watched after its occupancy changed (R194). -/
def State.telWatch (s : State) (i : Nat) : State :=
  let lvl := s.rd fRSV_TLVL_LEVEL i
  let up := decide (lvl ≠ 0 ∧ lvl < s.rd fRSV_EQOCC_OCC i)
  if up = s.swc.above.contains i then s
  else if up then
    let first := s.telFirst.isNone
    let s := { s with swc := { s.swc with above := i :: s.swc.above } }
    let s := (s.setBit fRSV_TELSTAT_CROSSED i true).inc fRSV_TELCNT_COUNT 0
    if first then s.telNotify else s
  else { s with swc := { s.swc with above := s.swc.above.filter (· != i) } }

/-- The occupancy of egress queue (e, t) raised by `n` cells. -/
def State.eqAdd (s : State) (e t n : Nat) : State :=
  (s.wr fRSV_EQOCC_OCC (qi e t) (s.rd fRSV_EQOCC_OCC (qi e t) + n)).telWatch (qi e t)

/-- The occupancy of egress queue (e, t) lowered by `n` cells. -/
def State.eqSub (s : State) (e t n : Nat) : State :=
  (s.wr fRSV_EQOCC_OCC (qi e t) (s.rd fRSV_EQOCC_OCC (qi e t) - n)).telWatch (qi e t)

/-! ### Requests of peers (R170) -/

/-- A peer's request that has come in by link index `x` is owed a response. -/
def State.peerAsks (s : State) (x : Nat) (m : Msg) : State :=
  if m.wantsReply then s.swcMod fun w => { w with asked := w.asked ++ [{ x := x, m := m }] } else s

/-- The request of a peer that response `m` answers. -/
def State.askedFor (s : State) (m : Msg) : Option Asked :=
  if m.grp = 4 then
    s.swc.asked.find? fun a => a.m.snode == m.node && a.m.src == m.dest && a.m.tag == m.tag && a.m.mclass == m.mclass
  else none

/-- Response `m` answers request `a` of a peer: nothing is owed any longer. -/
def State.askedDone (s : State) (a : Asked) : State := s.swcMod fun w => { w with asked := w.asked.erase a }

/-! ### Stored messages and queue entries -/

/-- The stored message `id`. -/
def State.stored (s : State) (id : Nat) : Option Stored := s.swc.msgs.find? fun d => d.id == id

/-- Stored message `id` changed by `f`. -/
def State.storedMod (s : State) (id : Nat) (f : Stored → Stored) : State :=
  { s with swc := { s.swc with msgs := s.swc.msgs.map fun d => if d.id = id then f d else d } }

/-- Sub-queue (e, t, g). -/
def State.queue (s : State) (e t g : Nat) : List Entry := SMap.get [] s.swc.queues (subq e t g)

/-- Some sub-queue of egress `x` holds a message. -/
def State.holdsAny (s : State) (x : Nat) : Bool :=
  (List.range 8).any fun t => (List.range 5).any fun g => !(s.queue x t g).isEmpty

/-- Sub-queue (e, t, g) replaced. -/
def State.setQueue (s : State) (e t g : Nat) (q : List Entry) : State :=
  { s with swc := { s.swc with queues := SMap.set [] s.swc.queues (subq e t g) q } }

/-- The number under which egress `x` sends a message of group `g`: a Leat link sends one message on each of its VCs at a time (R181). -/
def sendKey (x g : Nat) : Nat := if 64 ≤ x ∧ x < 72 then 100 + 4 * (x - 64) + vcOfGroup g else x

/-- The numbers under which egress `x` sends. -/
def sendKeys (x : Nat) : List Nat := if 64 ≤ x ∧ x < 72 then (List.range 3).map fun v => 100 + 4 * (x - 64) + v else [x]

/-- The number of the flow from ingress `x` to egress `e` in class `t`. -/
def flowNo (x e t : Nat) : Nat := 8 * (93 * x + e) + t

/-- A message taken into the Reservoir from ingress `x`: cells, place and credit.  `credits` is how many credits its
leaving the receive buffer frees; `hold` keeps them for a message held by policing (R332). -/
def State.store (s : State) (x : Nat) (m : Msg) (whole : Bool) (egs : List Nat) (charge credits : Nat)
    (hold : Bool) : State :=
  let eg := egs.headD 0
  let refs := egs.length
  let n := m.cells
  let (place, keep) := s.admitCells x m.tc n m.grp (if refs = 1 then some eg else none)
  let place := if hold then .shared else place
  let d : Stored := { id := s.swc.nextId, m := m, x := x, cells := n, whole := whole, place := place, eg := eg, egs := egs,
                      refs := refs, cell := Config.firstCell s.swc.nextId % max 1 (s.rd fRSV_CELLS_CELLS 0), enteredAt := s.ft.now, enteredNs := s.pwr.ns, charge := charge,
                      credits := if hold ∨ place = .response then credits else 0 }
  let s := { s with swc := { s.swc with nextId := s.swc.nextId + 1, msgs := s.swc.msgs ++ [d] } }
  let s := match place with
    | .shared => s.occAdd x m.tc n
    | .response => s.wr fRSV_STAT_RSPUSED 0 (s.rd fRSV_STAT_RSPUSED 0 + n)
    | .guarded => s.wr fRSV_EQOCC_RESUSED (qi eg m.tc) (s.rd fRSV_EQOCC_RESUSED (qi eg m.tc) + n)
    | .mirror _ => s
  let s := s.takeCells n
  let c : Credit := { x := x, t := m.tc, vc := creditVc x m, n := credits }
  if credits = 0 ∨ hold ∨ place = .response then s
  else if keep then { s with swc := { s.swc with withheld := s.swc.withheld ++ [c] } }
  else s.retCredit c

/-- Stored message `d` taken out, with what its place gives back (R186, R189, R190); its cells are nobody's. -/
def State.unplace (s : State) (d : Stored) : State :=
  let s := { s with swc := { s.swc with msgs := s.swc.msgs.filter fun e => e.id != d.id } }
  match d.place with
  | .shared => s.occSub d.x d.m.tc d.cells
  | .response =>
    (s.wr fRSV_STAT_RSPUSED 0 (s.rd fRSV_STAT_RSPUSED 0 - d.cells)).retCredit
      { x := d.x, t := d.m.tc, vc := creditVc d.x d.m, n := d.credits }
  | .guarded => s.wr fRSV_EQOCC_RESUSED (qi d.eg d.m.tc) (s.rd fRSV_EQOCC_RESUSED (qi d.eg d.m.tc) - d.cells)
  | .mirror k => { s with swc := { s.swc with mirCells := SMap.mod 0 s.swc.mirCells k fun n => n - d.cells } }

/-- The cells of stored message `d` freed (R182, R186, R189, R190). -/
def State.unstore (s : State) (d : Stored) : State := ((s.unplace d).giveCells d.cells).retCredits

/-- Stored message `d` taken out while its cells are lost, to the free count too (R204): no entry holds them. -/
def State.unstoreLost (s : State) (d : Stored) : State :=
  ((s.unplace d).swcMod fun w => { w with lost := w.lost + d.cells }).retCredits

/-- One copy of stored message `id` gone: the cells are freed with the last (R195, R196). -/
def State.dropRef (s : State) (id : Nat) : State :=
  match s.stored id with
  | none => s
  | some d => if d.refs ≤ 1 then s.unstore d else s.storedMod id fun d => { d with refs := d.refs - 1 }

/-- Traffic for egress `e`: a port in L1 starts its exit, by Recovery (R144). -/
def State.wakePort (s : State) (e : Nat) : State :=
  if e < 64 ∧ s.rd fPRT_PORTSTAT_LTSSM e = 5 then (s.wr fPRT_PORTSTAT_LTSSM e 3).wr fPRT_PORTSTAT_L1SUB e 0 else s

/-- Egress `e` sends stored message `id` now. -/
def State.sends (s : State) (e id : Nat) : Bool :=
  (sendKeys e).any fun i => match SMap.get none s.swc.sending i with | some sn => sn.id == id | none => false

/-- Stored message `d` has a copy for egress `e` that has not left: held by policing, queued, or leaving now. -/
def State.copyWaits (s : State) (d : Stored) (e : Nat) : Bool :=
  d.egs.contains e &&
    (s.weir.held.contains d.id || ((s.queue e d.m.tc d.m.grp).any fun en => en.id == d.id) || s.sends e d.id)

/-- The messages that stored message `d`, bound for egress `e`, may not pass: the posted CXL.io messages of its ingress, egress and class that
entered before it and have not left (R185); for an answer to a snoop, the write-backs of its ingress for that slice (R214). -/
def State.postedBefore (s : State) (d : Stored) (e : Nat) : List Nat :=
  if d.m.answersSnoop ∧ 72 ≤ e ∧ e < 88 then
    (s.swc.msgs.filter fun p => decide (p.id < d.id) && p.m.grp == 2 && p.x == d.x && s.copyWaits p e).map (·.id)
  else if d.m.isIo ∧ d.m.grp ≠ 0 ∧ ¬ d.m.ro then
    (s.swc.msgs.filter fun p => decide (p.id < d.id) && p.m.isIo && p.m.grp == 0 && p.x == d.x && p.m.tc == d.m.tc && s.copyWaits p e).map (·.id)
  else []

/-- Every message that entry `en` at egress `e` waits for has left (R185, R214). -/
def State.orderOk (s : State) (en : Entry) (e : Nat) : Bool :=
  en.before.all fun i => match s.stored i with | some p => !s.copyWaits p e | none => true

/-- A copy of stored message `id` placed in the sub-queue of egress `e` (R184, R185). -/
def State.enqueue (s : State) (id e : Nat) : State :=
  match s.stored id with
  | none => s
  | some d =>
    let g := d.m.grp
    let s := s.setQueue e d.m.tc g (s.queue e d.m.tc g ++ [{ id := id, before := s.postedBefore d e }])
    (s.eqAdd e d.m.tc d.cells).wakePort e

/-- A copy of stored message `d` has left, or been dropped from, egress `e`. -/
def State.copyGone (s : State) (d : Stored) (e : Nat) : State :=
  (s.eqSub e d.m.tc d.cells).dropRef d.id

/-- The beats a message takes on a channel of the core (R181). -/
def Msg.beats (m : Msg) : Nat := ceilDiv m.bytes 128

/-- The top-down unit of egress `e` (R435): a channel of R22, or an internal port. -/
def tdUnit (e : Nat) : Nat :=
  if e < 64 then 10 * (e / 16) + e % 16 / 2
  else if e < 72 then 10 * ((e - 64) / 2) + 8 + (e - 64) % 2
  else 40 + (e - 72)

/-- The top-down units that the beats of a message to egress `e` take, with their number: a x16 port uses both channels of its four
quads (R22), and the beats alternate between them, the first on the lower (DESIGN CHOICE, log entry 96). -/
def State.tdUnits (s : State) (e : Nat) (m : Msg) : List (Nat × Nat) :=
  let n := Msg.beats m
  if e < 64 ∧ s.rd fPRT_PORTCFG_WIDTH e = 2 then [(tdUnit e, ceilDiv n 2), (tdUnit e + 1, n / 2)] else [(tdUnit e, n)]

/-- Unit `u` has moved `n` beats: as many of the core cycles to come are theirs and are starved on neither side (R435). -/
def State.tdOwe (s : State) (u n : Nat) : State :=
  { s with flm := { s.flm with debt := SMap.mod 0 s.flm.debt u (· + n) } }

/-- Beats of a message moved and not yet resolved at egress `e` (R436). -/
def State.tdMove (s : State) (e : Nat) (m : Msg) : State :=
  s.each (s.tdUnits e m) fun s u => (s.wr fFLM_TDPEND_PEND u.1 (s.rd fFLM_TDPEND_PEND u.1 + u.2)).tdOwe u.1 u.2

/-- Pending beats of a message resolved as retired (`wasted = false`) or wasted (R435, R436). -/
def State.tdResolve (s : State) (e : Nat) (m : Msg) (wasted : Bool) : State :=
  s.each (s.tdUnits e m) fun s u =>
    let n := min u.2 (s.rd fFLM_TDPEND_PEND u.1)
    (s.wr fFLM_TDPEND_PEND u.1 (s.rd fFLM_TDPEND_PEND u.1 - n)).flmAdd (8192 + 4 * u.1 + b2n wasted) n

/-! ### What becomes of a message that cannot be delivered (R127, R170, R205) -/

/-- Response `m` goes back, as `f` says; one to a peer's request whose link has left service since is discarded (R170). -/
def State.answering (s : State) (m : Msg) (f : State → State) : State :=
  match s.askedFor m with
  | none => f s
  | some a => if a.dead then s.askedDone a else f (s.askedDone a)

/-- A device-made completion sent back to where request `m` came from. -/
def State.reply (s : State) (m : Msg) (status : CplStatus) (poison : Bool) : State :=
  if m.posted then s
  else s.answering (m.answer status poison) fun s => s.send (.reply m.entered (m.answer status poison))

/-- A message for port `p` whose link is down (R127). -/
def State.lostAtPort (s : State) (p : Nat) (m : Msg) : State :=
  match m.kind with
  | .ioNonPosted => s.reply m .ur false
  | .ioPosted => s.inc fPRT_ERR_LOSTPOST p
  | .memReq => s.reply m .sc true
  | .memRwd =>
    let s := ((s.wrb fPRT_ERR_LOSTWR p true).wr2 fPRT_LOSTADDR_L_ADDR_L fPRT_LOSTADDR_H_ADDR_H p m.addr).pulse (0x080 + p)
    s.reply m .sc false
  | _ => s

/-- A request for a peer node that cannot be reached over link `k` (R170). -/
def State.lostAtLink (s : State) (k : Nat) (m : Msg) : State :=
  match m.kind with
  | .memRwd =>
    let s := ((s.wrb fLEAT_ERR2_LOSTWR k true).wr2 fLEAT_LOSTADDR_L_ADDR_L fLEAT_LOSTADDR_H_ADDR_H k m.addr).pulse
      (0x120 + k)
    s.reply m .sc false
  | .memReq => s.reply m .sc true
  | .ioNonPosted => if m.act = .write ∨ m.act = .cfgWrite then s.reply m .ur false else s.reply m .sc true
  | .cacheD2hReq | .wmReq => s.reply m .sc true
  | .wmReqData => s.reply m .sc false
  | _ => s

/-- A message for an internal port that cannot be delivered, handled as R127 handles it for a link that is down (R203, R204).  DESIGN CHOICE
(log entry 121): PRT_ERR and PRT_LOSTADDR are a port's, and nothing is counted or recorded there. -/
def State.lostInside (s : State) (m : Msg) : State :=
  match m.kind with
  | .ioNonPosted => s.reply m .ur false
  | .memReq | .cacheD2hReq | .wmReq => s.reply m .sc true
  | .memRwd | .wmReqData => s.reply m .sc false
  | _ => s

/-- A message that egress `e` can no longer deliver (R127, R170, R203). -/
def State.undeliverable (s : State) (e : Nat) (m : Msg) : State :=
  if e < 64 then s.lostAtPort e m else if e < 72 then s.lostAtLink (e - 64) m else s.lostInside m

/-- A message without a route (R205). -/
def State.noRoute (s : State) (m : Msg) : State :=
  let s := s.inc fSWC_ERR2_NOROUTE 0
  match m.kind with
  | .ioNonPosted => s.reply m .ur false
  | .memReq | .cacheD2hReq | .wmReq => if m.grp = 1 then s.reply m .ur false else s
  | _ => s

/-- Every entry of sub-queue (e, t, g) handled as for a link that is down, and removed (R127, R170). -/
def State.flushQueue (s : State) (e t g : Nat) : State :=
  let q := s.queue e t g
  (s.setQueue e t g []).each q fun s en =>
    match s.stored en.id with
    | none => s
    | some d => (s.undeliverable e d.m).copyGone d e

/-- What egress `e` is sending under number `i` handled as for a link that is down. -/
def State.flushSending (s : State) (e i : Nat) : State :=
  match SMap.get none s.swc.sending i with
  | none => s
  | some sn =>
    let s := { s with swc := { s.swc with sending := SMap.set none s.swc.sending i none } }
    match s.stored sn.id with
    | none => s
    | some d => ((s.tdResolve e d.m true).undeliverable e d.m).copyGone d e

/-- Every message queued for egress `e`, and what it is sending, handled as for a link that is down. -/
def State.flushEgress (s : State) (e : Nat) : State :=
  let s := s.each (List.range 8) fun s t => s.each (List.range 5) fun s g => s.flushQueue e t g
  s.each (sendKeys e) fun s i => s.flushSending e i

/-- The flow of a held request (R332): ingress, egress, class and group. -/
def Stored.flow (d : Stored) : Nat := 5 * flowNo d.x d.eg d.m.tc + d.m.grp

/-- The list of held requests replaced; WEIR_HELD counts the flows that have one (R332). -/
def State.setHeld (s : State) (h : List Nat) : State :=
  let s := { s with weir := { s.weir with held := h } }
  let n := ((h.filterMap s.stored).map Stored.flow).eraseDups.length
  (s.wr fWEIR_HELD_LISTS 0 n).wr fWEIR_HELD_MAXLISTS 0 (max (n / 4) (s.rd fWEIR_HELD_MAXLISTS 0))

/-- The copy at egress `e` of message `d`, which will never be whole (R193): one that has started, at a port, ends as a nullified TLP and
is counted; one that waits is discarded. -/
def State.truncateAt (s : State) (d : Stored) (e : Nat) : State :=
  if s.sends e d.id then
    let s := { s with swc := { s.swc with sending := SMap.set none s.swc.sending e none } }
    (((s.inc fSWC_ERR2_TRUNC 0).send (.nullified e d.m)).tdResolve e d.m true).copyGone d e
  else if (s.queue e d.m.tc d.m.grp).any fun en => en.id == d.id then
    (s.setQueue e d.m.tc d.m.grp ((s.queue e d.m.tc d.m.grp).filter fun en => en.id != d.id)).copyGone d e
  else s

/-- The messages still arriving from ingress `x` when its link goes down (R193): no copy of one is delivered. -/
def State.truncate (s : State) (x : Nat) : State :=
  s.each (s.swc.msgs.filter fun d => d.x == x && !d.whole) fun s d =>
    if s.weir.held.contains d.id then (s.setHeld (s.weir.held.filter (· != d.id))).unstore d
    else s.each d.egs fun s e => s.truncateAt d e

/-- Requests sent out by index `x` with no response so far, completed as `f` says and forgotten (R127, R170). -/
def State.settleOwed (s : State) (x : Nat) (f : State → Msg → State) : State :=
  let mine := s.swc.owed.filter fun o => o.x == x
  State.each { s with swc := { s.swc with owed := s.swc.owed.filter fun o => o.x != x } } mine fun s o => f s o.m

end Sys2Proof.Machine
end

