-- ==== Sys2Proof/Machine/Wlg.lean ====
section
/-! DEFINITION. The Waterlog ring and its sequences (R463): writing, completing and reading a record. -/

namespace Sys2Proof.Machine

/-- The Tender's state changed by `f`. -/
def State.tndMod (s : State) (f : TndS → TndS) : State := { s with tnd := f s.tnd }

/-- The apply times of the pending configuration epochs (R460). -/
def State.epochTimes (s : State) : List Nat := (s.tnd.timed.map (·.at_)).eraseDups

/-- Records the ring holds (R463). -/
def ringSize : Nat := 524288

/-- HEADSEQ: the sequence the next record takes (R463). -/
def State.headSeq (s : State) : Nat := s.rd2 fWLG_HEAD_L fWLG_HEAD_H 0

/-- The sequence of the first record of this boot (R464). -/
def State.bootSeq (s : State) : Nat := s.rd2 fWLG_BOOTSEQ_L fWLG_BOOTSEQ_H 0

/-- CKSEQ: the last sequence mirrored to flash (R464). -/
def State.ckSeq (s : State) : Nat := s.rd2 fWLG_CKSEQ_L fWLG_CKSEQ_H 0

/-- OLDEST: the oldest sequence still held (R456). -/
def State.oldestSeq (s : State) : Nat := s.rd2 fWLG_OLDEST_L fWLG_OLDEST_H 0

/-- The record of sequence `q`, where the ring still holds it. -/
def State.record (s : State) (q : Nat) : Option Rec :=
  match SMap.get none s.tnd.ring (q % ringSize) with
  | some r => if r.seq = q then some r else none
  | none => none

/-- Record `r` stored at the place of its sequence. -/
def State.putRec (s : State) (r : Rec) : State :=
  s.tndMod fun t => { t with ring := SMap.set none t.ring (r.seq % ringSize) (some r) }

/-- `r` written as the next record, at the present fabric time with its quality (R463). -/
def State.journal (s : State) (r : Rec) : State :=
  let q := s.headSeq
  let s := s.putRec { r with seq := q, ns := s.ftNs, sec := s.ftSec % 2 ^ 48, flags := r.flags + 16 * s.ftQual }
  (s.wr2 fWLG_HEAD_L fWLG_HEAD_H 0 (q + 1)).wr2 fWLG_OLDEST_L fWLG_OLDEST_H 0 (max s.bootSeq (q + 1 - ringSize))

/-- Record `q` changed by `f`, where the ring still holds it. -/
def State.recMod (s : State) (q : Nat) (f : Rec → Rec) : State :=
  match s.record q with
  | some r => s.putRec (f r)
  | none => s

/-- The 32 bytes of a record (R463). -/
def recBytes (r : Rec) : List Byte :=
  toLeBytes 8 r.seq ++ toLeBytes 4 r.ns ++ toLeBytes 6 r.sec ++ toLeBytes 2 r.index ++ toLeBytes 1 r.sub
    ++ toLeBytes 1 r.orig ++ toLeBytes 1 r.result ++ toLeBytes 1 r.flags ++ toLeBytes 4 r.old ++ toLeBytes 4 r.new

/-- The originator code of the Tender itself (R454). -/
def origTender : Nat := 0xC1

/-- A lifecycle change that no dictionary write makes is journaled by the Tender (R481): from `a` to `b`. -/
def State.lifecycle (s : State) (b : Nat) (byTender : Bool) : State :=
  let a := s.rd fBOOT_STAT_LC 0
  let s := s.wr fBOOT_STAT_LC 0 b
  s.when_ byTender fun s => s.journal { index := 0x1620, sub := 0, orig := origTender, old := a, new := b }

end Sys2Proof.Machine
end

