-- ==== Sys2Proof/Machine/Weir.lean ====
section
/-! DEFINITION. The Weir (R327 to R345): charges, two-bucket policing and held requests, class shapers, fair queueing,
rotations, and the choice an egress makes. -/

namespace Sys2Proof.Machine

/-! ### Tokens (R330) -/

/-- The committed pair of tenant `ti`; disabled after an uncorrectable error (R343). -/
def State.pair (s : State) (ti : Nat) : Pair :=
  if s.weir.offPairs.contains ti then {} else SMap.get {} s.weir.pairs ti

/-- TC of tenant `ti` is above 0; a bucket holds its burst less what it lacks, in thousandths of a byte. -/
def State.tcPos (s : State) (ti : Nat) : Bool := decide (SMap.get 0 s.weir.lackC ti < (s.pair ti).cbs * 64000)

/-- TP of tenant `ti` is above 0. -/
def State.tpPos (s : State) (ti : Nat) : Bool := decide (SMap.get 0 s.weir.lackP ti < (s.pair ti).pbs * 64000)

/-- TC of tenant `ti` in whole bytes (WEIR_TTOKC). -/
def State.tokC (s : State) (ti : Nat) : Int :=
  (((SMap.get {} s.weir.pairs ti).cbs * 64000 : Nat) - (SMap.get 0 s.weir.lackC ti : Nat) : Int) / 1000

/-- TP of tenant `ti` in whole bytes (WEIR_TTOKP). -/
def State.tokP (s : State) (ti : Nat) : Int :=
  (((SMap.get {} s.weir.pairs ti).pbs * 64000 : Nat) - (SMap.get 0 s.weir.lackP ti : Nat) : Int) / 1000

/-- The colour of a request of tenant `ti` (R330): 0 green, 1 yellow, 2 red.  While policing or the pair is disabled
every request is green. -/
def State.colour (s : State) (ti : Nat) : Nat :=
  if ¬ s.rdb fWEIR_CTL_POLICE 0 ∨ ¬ (s.pair ti).en then 0
  else if ¬ s.tpPos ti then 2 else if s.tcPos ti then 0 else 1

/-- What a released request of charge `c` and colour `k` takes from the buckets (R330). -/
def State.deduct (s : State) (ti c k : Nat) : State :=
  if ¬ s.rdb fWEIR_CTL_POLICE 0 ∨ ¬ (s.pair ti).en then s
  else
    let w := { s.weir with lackP := SMap.mod 0 s.weir.lackP ti (· + c * 1000) }
    { s with weir := if k = 0 then { w with lackC := SMap.mod 0 w.lackC ti (· + c * 1000) } else w }

/-- A CXL.mem, CXL.cache or coherent request that is a read: none for ownership without data, no write and no eviction (R213). -/
def readsLine (m : Msg) : Bool := m.code == 0 || m.code == 1 || m.code == 3 || decide (9 < m.code)

/-- Data bytes of a request and of the response it will have (R329). -/
def Msg.chargeData (m : Msg) : Nat :=
  let sent := match m.kind with
    | .memRwd | .wmReqData => 64
    | .ioPosted => m.ioData
    | .ioNonPosted => if m.act = .write ∨ m.act = .cfgWrite ∨ m.act = .atomic then m.ioData else 0
    | _ => 0
  let back := match m.kind with
    | .memReq | .cacheD2hReq | .wmReq => if readsLine m then 64 else 0
    | .ioNonPosted => if m.act = .read ∨ m.act = .atomic then m.ncnt else 0
    | _ => 0
  sent + back

/-- The charge of a request that entered with framing overhead `ovh` (R329).  A request's `ncnt` gives the bytes it asks
to have returned. -/
def chargeOf (m : Msg) (ovh : Nat) : Nat := 16 + Msg.chargeData m + ovh

/-- The policing of R327 applies to a message entering at ingress `x`. -/
def policed (x : Nat) (m : Msg) : Bool := decide (x < 64) && decide (m.grp < 3) && m.dest != 0x7F

/-- A request of colour `k` for egresses `egs` of class `t` may be released now (R331). -/
def State.mayRelease (s : State) (k : Nat) (egs : List Nat) (t : Nat) : Bool :=
  k == 0 || (k == 1 && egs.all fun e => decide (s.rd fRSV_EQOCC_OCC (qi e t) ≤ s.rd fWEIR_CTL_YLVL 0 * 64))

/-- A request released: its buckets charged, its tenant's meter raised (R434), and a copy placed for each egress. -/
def State.release (s : State) (d : Stored) (k : Nat) : State :=
  ((s.deduct d.m.tenant d.charge k).flmAdd d.m.tenant d.charge).each d.egs fun s e => s.enqueue d.id e

/-! ### Held requests (R332) -/

/-- The first candidate of tenant `ti`: its oldest held request, if whole and at the head of its flow's list. -/
def State.candidate (s : State) (ti : Nat) : Option Stored :=
  let hs := s.weir.held.filterMap s.stored
  match hs.find? fun d => d.m.tenant == ti with
  | none => none
  | some d =>
    match hs.find? fun e => e.flow == d.flow with
    | some e => if e.id = d.id ∧ d.whole then some d else none
    | none => none

/-- The first candidate of `ti` tested and, where its colour allows, released with its credit. -/
def State.tryRelease (s : State) (ti : Nat) : Option State :=
  match s.candidate ti with
  | none => none
  | some d =>
    let k := s.colour ti
    if s.mayRelease k d.egs d.m.tc then
      let s := s.setHeld (s.weir.held.filter (· != d.id))
      let s := { s with weir := { s.weir with turn := ti + 1 } }
      some ((s.release d k).retCredit { x := d.x, t := d.m.tc, vc := creditVc d.x d.m, n := d.credits })
    else none

/-- The tenants with held requests, in rotating order from the one whose turn it is. -/
def State.heldTenants (s : State) : List Nat :=
  let ts := sortBy id (((s.weir.held.filterMap s.stored).map fun d => d.m.tenant).eraseDups)
  (ts.filter fun t => s.weir.turn ≤ t) ++ (ts.filter fun t => t < s.weir.turn)

/-- Held requests considered, tenants in rotating order, until every first candidate has been refused; `n` bounds the
rounds, and as many rounds as there are held requests always suffice. -/
def State.consider : Nat → State → State
  | 0, s => s
  | n + 1, s =>
    match s.heldTenants.findSome? s.tryRelease with
    | none => s
    | some s' => s'.consider n

/-- Every held request that may be released now is released. -/
def State.considerAll (s : State) : State := s.consider s.weir.held.length

/-- The tenant of `m` or its flow has a request held already (R332). -/
def State.mustHold (s : State) (m : Msg) (flow : Nat) : Bool :=
  (s.weir.held.filterMap s.stored).any fun d => d.m.tenant == m.tenant || d.flow == flow

/-! ### Rotations (R338 to R341) -/

/-- BASE of a schedule in nanoseconds. -/
def baseNs (ns secl sech : Nat) : Nat := (secl + 2 ^ 32 * sech) * nsPerSec + ns

/-- The active BASE of egress `x`. -/
def State.rotBase (s : State) (x : Nat) : Nat :=
  baseNs (s.rd fWEIR_EG_ABASE_NS x) (s.rd fWEIR_EG_ABASE_SECL x) (s.rd fWEIR_EG_ABASE_SECH x)

/-- Egress `x` holds a valid active list. -/
def State.rotValid (s : State) (x : Nat) : Bool :=
  decide (0 < s.rd fWEIR_EG_ANENT x) && !s.weir.rotOff.contains x

/-- Rotations are in effect at egress `x` (R341). -/
def State.rotOn (s : State) (x : Nat) : Bool :=
  s.rotValid x && (s.rdb fWEIR_EG_ROTEN x || s.rd fARCH_PROFILE_ACTIVE 0 == 3)

/-- ROTSTAT.ACTIVE brought up to date. -/
def State.rotUpdate (s : State) (x : Nat) : State := s.wrb fWEIR_EG_ACTIVE x (s.rotOn x)

/-- Fabric-time comparators claimed (R35): by rotations in effect or pending, by pending configuration epochs (timed
dictionary writes, map commands and window commits), by gate rule epochs pending or being validated
(log entry 49), and two by the Flume. -/
def State.claims (s : State) : Nat :=
  ((List.range 72).filter fun x => s.rotOn x || s.rdb fWEIR_EG_PEND x).length
    + s.epochTimes.length + s.xlt.timed.length + s.xlt.winAt.length
    + (s.chk.pend.filter fun c => c.at_.any fun t => decide (s.ft.now < t)).length + 2

/-- The starts and masks of the entries of the active list of egress `x`. -/
def State.rotEntries (s : State) (x : Nat) : List (Nat × Nat) :=
  ((List.range (s.rd fWEIR_EG_ANENT x)).foldl
    (fun (a : Nat × List (Nat × Nat)) j =>
      (a.1 + s.rd fWEIR_ROTO_DUR (1024 * x + j), a.2 ++ [(a.1, s.rd fWEIR_ROTO_MASK (1024 * x + j))])) (0, [])).2

/-- Offset of the present within the cycle of egress `x`. -/
def State.rotOffset (s : State) (x : Nat) : Nat := (s.ft.now - s.rotBase x) % max 1 (s.rd fWEIR_EG_ACYCLE x)

/-- The entry in force now, by time. -/
def State.rotEntryNow (s : State) (x : Nat) : Nat :=
  ((s.rotEntries x).filter fun e => e.1 ≤ s.rotOffset x).length - 1

/-- Class `t` is open at egress `x` (R338). -/
def State.gateOpen (s : State) (x t : Nat) : Bool :=
  !s.rotOn x || bitOf (s.rd fWEIR_ROTO_MASK (1024 * x + s.rd fWEIR_EG_ENTRY x)) t

/-- Nanoseconds until class `t` next closes; none where it never does. -/
def State.closesIn (s : State) (x t : Nat) : Option Nat :=
  let off := s.rotOffset x
  let cyc := s.rd fWEIR_EG_ACYCLE x
  let ds := ((s.rotEntries x).filter fun e => !bitOf e.2 t).map fun e =>
    if off < e.1 then e.1 - off else e.1 + cyc - off
  ds.min?

/-- The rate of a port in Mbit/s for a RATE code and a width. -/
def portMbps (rate width : Nat) : Nat :=
  width * (match rate with | 0 => 2500 | 1 => 5000 | 2 => 8000 | 3 => 16000 | 4 => 32000 | 5 => 64000 | _ => 128000)

/-- The rate of index `x`'s link in Mbit/s: a port's negotiated rate, a Leat link's payload rate (R148), or, inside, the
channel's (R181). -/
def State.linkMbps (s : State) (x : Nat) : Nat :=
  let chan := 1024 * s.rd fARCH_CORECLK_MHZ 0
  if x < 64 then portMbps (s.rd fPRT_PORTSTAT_RATE x) (s.rd fPRT_PORTSTAT_NEGWIDTH x)
  else if x < 72 then
    (if (s.lk (x - 64)).rate = 0 then 958400 else 795500) / (if s.rdb fLEAT_STAT_TXW4 (x - 64) then 2 else 1)
  else chan

/-- The egress rate of R339: the lower of the link's rate and the channel's. -/
def State.egressMbps (s : State) (x : Nat) : Nat := min (s.linkMbps x) (1024 * s.rd fARCH_CORECLK_MHZ 0)

/-- A message of `l` bytes would end at or before the next closing of its class (R339). -/
def State.guardOk (s : State) (x t l : Nat) : Bool :=
  !s.rotOn x || !s.rdb fWEIR_EG_GUARD x ||
  match s.closesIn x t with
  | none => true
  | some d => decide (l * 8000 ≤ d * s.egressMbps x)

/-! ### The choice of an egress (R335 to R337) -/

/-- The profile's cut-through threshold (R28). -/
def State.profileCt (s : State) : Nat := if s.rd fARCH_PROFILE_ACTIVE 0 = 3 then 1 else 8

/-- The cut-through threshold of egress `x` (R192). -/
def State.ctOf (s : State) (x : Nat) : Nat := if s.rd fRSV_CTTHR_CT x = 0 then s.profileCt else s.rd fRSV_CTTHR_CT x

/-- The cells that a mirror record copies are present (R199). -/
def State.copiedHere (s : State) (d : Stored) : Bool :=
  match d.copyOf with
  | none => true
  | some (i, n) => match s.stored i with | none => true | some e => e.whole || decide (n ≤ e.here)

/-- Message `d` may start at egress `x` as far as its arrival goes (R192, R199): whole, or a CXL.io message for a port whose ingress is not the
slower, of which the threshold's cells are present. -/
def State.arrived (s : State) (x : Nat) (d : Stored) : Bool :=
  s.copiedHere d &&
    (d.whole || (decide (x < 64) && d.m.isIo && decide (s.linkMbps x ≤ s.linkMbps d.x) && decide (s.ctOf x ≤ d.here)))

/-- The message is the Runnel's: it came from an engine group. -/
def Stored.runnel (d : Stored) : Bool := decide (88 ≤ d.x ∧ d.x < 92)

/-- A mirror record could leave egress `x` now, so that Runnel traffic waits there (R36). -/
def State.mirrorFirst (s : State) (x : Nat) (cred : Nat → Stored → Bool) : Bool :=
  s.gateOpen x 0 && (s.queue x 0 0).any fun en =>
    match s.stored en.id with
    | some d => d.x == 93 && s.copiedHere d && cred 0 d
    | none => false

/-- The message at the front of sub-queue (x, t, g): the first, but for Runnel traffic that waits for a mirror record (R36). -/
def State.front (s : State) (x t g : Nat) (cred : Nat → Stored → Bool) : Option Entry :=
  let waits := s.mirrorFirst x cred
  (s.queue x t g).find? fun en => match s.stored en.id with | some d => !(waits && d.runnel) | none => true

/-- The head of sub-queue (x, t, g), if it may start (R185, R192) and has a credit. -/
def State.readyHead (s : State) (x t g : Nat) (cred : Nat → Stored → Bool) : Option Stored :=
  match s.front x t g cred with
  | none => none
  | some en =>
    match s.stored en.id with
    | none => none
    | some d => if s.arrived x d && s.orderOk en x && cred g d then some d else none

/-- The sub-queue of (x, t) served next: ready ones in rotating order (R335). -/
def State.nextGroup (s : State) (x t : Nat) (cred : Nat → Stored → Bool) : Option (Nat × Stored) :=
  let k := SMap.get 0 s.swc.turn (qi x t)
  ((List.range 5).map fun j => (k + j) % 5).findSome? fun g => (s.readyHead x t g cred).map fun d => (g, d)

/-- A message at the head of a sub-queue could start, but for credits, gates, shapers and higher claims (R435): it has arrived as far
as R192 asks, and R185 does not hold it. -/
def State.couldStart (s : State) (x : Nat) (q : List Entry) : Bool :=
  match q with
  | [] => false
  | en :: _ => match s.stored en.id with
    | some d => s.arrived x d && s.orderOk en x
    | none => false

/-- The top-down units at which a message could start now. -/
def State.tdReady (s : State) : List Nat :=
  s.swc.queues.flatMap fun (k, q) =>
    let x := k / 40
    if s.couldStart x q then
      (if x < 64 ∧ s.rd fPRT_PORTCFG_WIDTH x = 2 then [tdUnit x, tdUnit x + 1] else [tdUnit x]) else []

/-- `c` core cycles of unit `u`, which a message could use or not (R435): those that its beats took already are counted with them,
and the rest are starved at the back or at the front. -/
def State.tdCycles (s : State) (u c : Nat) (ready : Bool) : State :=
  let took := min c (SMap.get 0 s.flm.debt u)
  let s := s.flmMod fun f => { f with debt := SMap.mod 0 f.debt u (· - took) }
  if c = took then s else s.flmAdd (8192 + 4 * u + (if ready then 3 else 2)) (c - took)

/-- Ingress classes that are held now, as 8 x + t (R186). -/
def State.heldClasses (s : State) : List Nat := (s.listed fRSV_INOCC_HELD).filter fun i => s.rdb fRSV_INOCC_HELD i

/-- `c` core cycles counted as events of code 0x11 (R437): a counter whose PARAM is any counts the cycles in which some class is
held (log entry 114). -/
def State.heldCycles (s : State) (c : Nat) : State :=
  let hs := s.heldClasses
  s.each ((s.listed fFLM_EVT_EN).filter fun k => s.rdb fFLM_EVT_EN k && s.rd fFLM_EVT_EVT k == 0x11 && flmGroup (8448 + k) == 4
      && (if s.rd fFLM_EVT_PARAM k = 0x3FF then !hs.isEmpty else hs.contains (s.rd fFLM_EVT_PARAM k)))
    fun s k => s.flmAdd (8448 + k) c

/-- `c` core cycles pass: every top-down unit classifies them (R435), and those in which an ingress class is held are counted. -/
def State.coreCycles (s : State) (c : Nat) : State :=
  if c = 0 then s
  else
    let rs := s.tdReady
    (s.each (List.range 61) fun s u => s.tdCycles u c (rs.contains u)).heldCycles c

/-- Length with framing overhead at egress `x`. -/
def State.lenAt (s : State) (x : Nat) (m : Msg) : Nat := m.bytes + s.rd fWEIR_EG_LENOVH x

/-- The committed class shaper of (x, t). -/
def State.classShaper (s : State) (i : Nat) : ClassShaper :=
  if s.weir.offClasses.contains i then {} else SMap.get {} s.weir.classes i

/-- The class shaper bucket of (x, t) is above 0, or there is none (R336). -/
def State.classPos (s : State) (i : Nat) : Bool :=
  (s.classShaper i).rate == 0 || decide (SMap.get 0 s.weir.lackQ i < (s.classShaper i).burst * 64000)

/-- Class `t` passes steps 1 to 3 of R335 at egress `x`, with the message that would leave. -/
def State.classReady (s : State) (x t : Nat) (cred : Nat → Stored → Bool) : Option (Nat × Stored) :=
  if !s.gateOpen x t || !s.classPos (qi x t) then none
  else match s.nextGroup x t cred with
    | none => none
    | some (g, d) => if s.guardOk x t (s.lenAt x d.m) then some (g, d) else none

/-- The width of a fair-queueing tag. -/
def tagMod : Nat := 2 ^ 48

/-- `a` is earlier than `b`, modulo 2^48 with half the range earlier (R337). -/
def tagLt (a b : Nat) : Bool := decide (a ≠ b ∧ (b + tagMod - a) % tagMod < tagMod / 2)

/-- The later of two tags. -/
def tagMax (a b : Nat) : Nat := if tagLt a b then b else a

/-- Head tags brought up to date: a class that fails steps 1 to 3 has none; one that passes and has none gets a fresh
one (R337). -/
def State.tagUpdate (s : State) (x : Nat) (cred : Nat → Stored → Bool) : State :=
  s.each (List.range 8) fun s t =>
    match s.classReady x t cred with
    | none => { s with weir := { s.weir with head := SMap.set 0 s.weir.head (qi x t) 0 } }
    | some (_, d) =>
      if SMap.get 0 s.weir.head (qi x t) ≠ 0 then s
      else
        let h := (tagMax (SMap.get 0 s.weir.virt x) (SMap.get 0 s.weir.fin (qi x t))
          + ceilDiv (256 * s.lenAt x d.m) (s.rd fWEIR_EG_WEIGHT (qi x t))) % tagMod
        { s with weir := { s.weir with head := SMap.set 0 s.weir.head (qi x t) (h + 1) } }

/-- Class `a` is served before class `b` at egress `x`, both ready (steps 4 and 5 of R335). -/
def State.better (s : State) (x a b : Nat) : Bool :=
  let (sa, sb) := (s.rdb fWEIR_EG_SP (qi x a), s.rdb fWEIR_EG_SP (qi x b))
  if sa && sb then
    let (pa, pb) := (s.rd fWEIR_EG_PRIO (qi x a), s.rd fWEIR_EG_PRIO (qi x b))
    decide (pb < pa ∨ (pa = pb ∧ b < a))
  else if sa then true else if sb then false
  else
    let (ha, hb) := (SMap.get 0 s.weir.head (qi x a), SMap.get 0 s.weir.head (qi x b))
    tagLt (ha - 1) (hb - 1) || (ha == hb && decide (b < a))

/-- What a slice takes before any request (R225): write-backs, evictions and responses. -/
def takenFirst (m : Msg) : Bool := m.grp == 4 || (m.grp != 3 && decide (6 ≤ m.code ∧ m.code ≤ 9))

/-- The place of message `m` in the order in which slice `sl` takes what reaches it together (R225): requests follow in rotation after the
requester last taken. -/
def State.sliceRank (s : State) (sl : Nat) (m : Msg) : Nat :=
  if takenFirst m then 0 else 1 + (105 + s.requester m - SMap.get 0 s.wm.lastTaken sl) % 105

/-- The message that slice `sl` takes next of those that are ready for it (R225). -/
def State.slicePick (s : State) (sl : Nat) (cred : Nat → Stored → Bool) : Option (Nat × Nat × Stored) :=
  let x := 72 + sl
  let all := (List.range 8).flatMap fun t => (List.range 5).filterMap fun g => (s.readyHead x t g cred).map fun d => (t, g, d)
  all.foldl (fun best c => match best with
    | none => some c
    | some b => if s.sliceRank sl c.2.2.m < s.sliceRank sl b.2.2.m then some c else some b) none

/-- The class an egress 0 to 71 serves (R335), the message a slice takes (R225), or an internal egress in rotating order (R327). -/
def State.pick (s : State) (x : Nat) (cred : Nat → Stored → Bool) : Option (Nat × Nat × Stored) :=
  let ok := fun t =>
    if x < 72 then (s.classReady x t cred).map fun (g, d) => (t, g, d)
    else (s.nextGroup x t cred).map fun (g, d) => (t, g, d)
  if x < 72 then
    ((List.range 8).filterMap ok).foldl
      (fun best c => match best with
        | none => some c
        | some b => if s.better x c.1 b.1 then some c else some b) none
  else if x < 88 then s.slicePick (x - 72) cred
  else
    let k := SMap.get 0 s.swc.turn (1000 + x)
    ((List.range 8).map fun j => (k + j) % 8).findSome? ok

/-- What the choice of class `t`, group `g` and message `d` leaves in the Weir: rotating turns, the class shaper's
charge (R336) and the tags of a fair-queueing class (R337). -/
def State.served (s : State) (x t g : Nat) (d : Stored) : State :=
  let i := qi x t
  let s := { s with swc := { s.swc with
    turn := SMap.set 0 (SMap.set 0 s.swc.turn i ((g + 1) % 5)) (1000 + x) ((t + 1) % 8) } }
  if 72 ≤ x then
    (if x < 88 ∧ ¬ takenFirst d.m then
      { s with wm := { s.wm with lastTaken := SMap.set 0 s.wm.lastTaken (x - 72) ((s.requester d.m + 1) % 105) } }
    else s)
  else
  let h := SMap.get 0 s.weir.head i
  let w := { s.weir with
    head := SMap.set 0 s.weir.head i 0,
    lackQ := if (s.classShaper i).rate = 0 then s.weir.lackQ
             else SMap.mod 0 s.weir.lackQ i (· + s.lenAt x d.m * 1000) }
  { s with weir :=
      if s.rdb fWEIR_EG_SP i then w
      else { w with fin := SMap.set 0 w.fin i (h - 1), virt := SMap.set 0 w.virt x (h - 1) } }

/-! ### Commands -/

/-- `k` refills of every bucket that lacks tokens (R330, R336). -/
def State.refill (s : State) (k : Nat) : State :=
  { s with weir := { s.weir with
      lackC := SMap.mapAll 0 s.weir.lackC fun ti n => n - (s.pair ti).cir * 32 * k,
      lackP := SMap.mapAll 0 s.weir.lackP fun ti n => n - (s.pair ti).pir * 32 * k,
      lackQ := SMap.mapAll 0 s.weir.lackQ fun i n => n - (s.classShaper i).rate * 32 * k,
      refilled := some (s.ft.now / 256) } }

/-- An error the Weir meets (R343): 1 a corrected one; 2 the token parity of tenant `idx`; 3 its shaper pair; 4 the class
shaper of queue `idx`; 5 the tenant-map word at address `idx`. -/
def State.weirError (s : State) (err idx : Nat) : State :=
  let fault := fun (s : State) => (s.wrb fWEIR_ERR_SHFAULT 0 true).pulse 0x1E8
  match err with
  | 1 => s.inc fWEIR_ERR_ECCCOR 0
  | 2 => { s with weir := { s.weir with
             lackC := s.weir.lackC.erase idx, lackP := s.weir.lackP.erase idx } }
  | 3 => fault { s with weir := { s.weir with offPairs := idx :: s.weir.offPairs } }
  | 4 => fault { s with weir := { s.weir with offClasses := idx :: s.weir.offClasses } }
  | 5 => fault { s with weir := { s.weir with offWords := idx :: s.weir.offWords } }
  | _ => s

/-- The pair that the words of WEIR_TSHi spell, with PBS `pbs`. -/
def State.pairWords (s : State) (ti pbs : Nat) : Pair :=
  { en := s.rdb fWEIR_TSH_EN ti, cir := s.rd fWEIR_TSH_CIR ti, pir := s.rd fWEIR_TSH_PIR ti,
    cbs := s.rd fWEIR_TSH_CBS ti, pbs := pbs }

/-- A pair that R334 refuses. -/
def Pair.bad (p : Pair) : Bool :=
  (p.en && decide (p.pir < 100 ∨ 2048000 < p.pir)) || decide (p.pir < p.cir)
    || decide (p.cbs = 0 ∧ p.cir ≠ 0) || decide (p.pbs = 0 ∧ p.pir ≠ 0)

/-- Pair `p` committed for tenant `ti` (R334): a change fills both buckets; held requests are tested against it. -/
def State.commitPair (s : State) (ti : Nat) (p : Pair) : State :=
  let same := !s.weir.offPairs.contains ti && SMap.get {} s.weir.pairs ti == p
  let s := s.wr fWEIR_TSH_PBS ti p.pbs
  if same then s else
  State.considerAll { s with weir := { s.weir with
    pairs := SMap.set {} s.weir.pairs ti p, lackC := s.weir.lackC.erase ti, lackP := s.weir.lackP.erase ti,
    offPairs := s.weir.offPairs.filter (· != ti) } }

/-- SHAPER_COMMIT: word 0xC of WEIR_TSHi is written (R334). -/
def execShaperCommit (ti val : Nat) (s : State) : Host.Outcome State Fault Refusal :=
  let p := s.pairWords ti (bitsOf val 0 18)
  onUnit (decide (ti < 8192)) (if p.bad then s.cfgErr 14 else s.commitPair ti p)

/-- CLASS_SHAPER_COMMIT: word 0x4 of WEIR_PCSH is written (R336). -/
def execClassShaperCommit (x t val : Nat) (s : State) : Host.Outcome State Fault Refusal :=
  let i := qi x t
  let c : ClassShaper := { rate := s.rd fWEIR_PCSH_RATE i, burst := bitsOf val 0 18 }
  let same := !s.weir.offClasses.contains i && SMap.get {} s.weir.classes i == c
  let u := s.wr fWEIR_PCSH_BURST i c.burst
  onUnit (decide (x < 72 ∧ t < 8))
    (if same then u else
      { u with weir := { u.weir with
          classes := SMap.set {} u.weir.classes i c, lackQ := u.weir.lackQ.erase i,
          offClasses := u.weir.offClasses.filter (· != i) } })

/-- The mirror session that has port `x` as its analysis port, if one is enabled. -/
def State.mirrorOf (s : State) (x : Nat) : Option Nat :=
  (List.range 8).find? fun k => decide (x < 64) && s.rdb fTRN_MIR_EN k && s.rd fTRN_MIR_APORT k == x

/-- The first failure of the admin copy of egress `x` (R340), as ROTSTAT.RESULT; 0 where it is valid. -/
def State.rotCheck (s : State) (x : Nat) : Nat :=
  let n := s.rd fWEIR_EG_NENT x
  let cyc := s.rd fWEIR_EG_CYCLE x
  let durs := (List.range n).map fun j => s.rd fWEIR_ROTA_DUR (1024 * x + j)
  let masks := (List.range n).map fun j => s.rd fWEIR_ROTA_MASK (1024 * x + j)
  if n < 1 ∨ 1024 < n then 3
  else if cyc < 1000 ∨ 1000000 < cyc ∨ cyc % 4 ≠ 0 then 4
  else if s.rd fWEIR_EG_BASE_NS x % 4 ≠ 0 then 5
  else if durs.any fun d => decide (d < 64 ∨ d % 4 ≠ 0) then 6
  else if cyc < durs.sum then 7
  else if (List.range 8).any fun t => !masks.any fun m => bitOf m t then 8
  else 0

/-- When a commit made now takes effect (R340): the first cycle start of the new schedule at or after the later of now
and BASE. -/
def State.rotDue (s : State) (x : Nat) : Nat :=
  let b := baseNs (s.rd fWEIR_EG_BASE_NS x) (s.rd fWEIR_EG_BASE_SECL x) (s.rd fWEIR_EG_BASE_SECH x)
  let c := s.rd fWEIR_EG_CYCLE x
  if s.ft.now ≤ b then b else b + ceilDiv (s.ft.now - b) c * c

/-- One more comparator for egress `x` would pass 256 (R341); one already counted claims no second. -/
def State.claimsOver (s : State) (x : Nat) : Bool :=
  !(s.rotOn x || s.rdb fWEIR_EG_PEND x) && decide (256 < s.claims + 1)

/-- ROTATION_COMMIT: a write of the COMMIT word with GO (R340, R341). -/
def execRotationCommit (x val : Nat) (s : State) : Host.Outcome State Fault Refusal :=
  let r := s.rotCheck x
  let res := fun (s : State) (n : Nat) => s.wr fWEIR_EG_RESULT x n
  onUnit (decide (x < 72))
    (if bitsOf val 24 8 ≠ 0xA7 ∨ ¬ bitOf val 0 ∨ s.rdb fWEIR_EG_PEND x then s
    else if r ≠ 0 then res s r
    else if s.claimsOver x then res (s.conflict 3 (ceilDiv (s.claims + 1) 4) 0) 9
    else match s.mirrorOf x with
      | some k => res (s.conflict 6 x k) 10
      | none =>
        { res (s.wrb fWEIR_EG_PEND x true) 1 with
          weir := { s.weir with rotAt := SMap.set 0 s.weir.rotAt x (s.rotDue x) } })

/-- ROTATION_CANCEL: a write of the COMMIT word with CANCEL withdraws a pending commit (R340). -/
def execRotationCancel (x val : Nat) (s : State) : Host.Outcome State Fault Refusal :=
  onUnit (decide (x < 72))
    (if bitsOf val 24 8 = 0xA7 ∧ bitOf val 1 ∧ s.rdb fWEIR_EG_PEND x then
      (s.wrb fWEIR_EG_PEND x false).wr fWEIR_EG_RESULT x 11
    else s)

/-- The gate brought to the entry that the present time names. -/
def State.gateNow (s : State) (x : Nat) : State := s.wr fWEIR_EG_ENTRY x (s.rotEntryNow x)

/-- The first cycle start of the list in effect at egress `x` after the present (R338). -/
def State.nextCycle (s : State) (x : Nat) : Nat :=
  let c := max 1 (s.rd fWEIR_EG_ACYCLE x)
  if s.ft.now < s.rotBase x then s.rotBase x else s.rotBase x + ((s.ft.now - s.rotBase x) / c + 1) * c

/-- The first entry boundary, or cycle start, of the list in effect at egress `x` after the present (R338). -/
def State.nextEntry (s : State) (x : Nat) : Nat :=
  match ((s.rotEntries x).map fun e => e.1).find? fun o => decide (s.rotOffset x < o) with
  | some o => min (s.nextCycle x) (s.ft.now + (o - s.rotOffset x))
  | none => s.nextCycle x

/-- The cycle number brought to the present. -/
def State.cycleNow (s : State) (x : Nat) : State :=
  s.wr fWEIR_EG_CYCNUM x ((s.ft.now - s.rotBase x) / max 1 (s.rd fWEIR_EG_ACYCLE x))

/-- The pending admin copy of egress `x` becomes active (R340). -/
def State.rotActivate (s : State) (x : Nat) : State :=
  let n := s.rd fWEIR_EG_NENT x
  let s := s.each (List.range n) fun s j =>
    (s.wr fWEIR_ROTO_MASK (1024 * x + j) (s.rd fWEIR_ROTA_MASK (1024 * x + j))).wr
      fWEIR_ROTO_DUR (1024 * x + j) (s.rd fWEIR_ROTA_DUR (1024 * x + j))
  let s := ((((s.wr fWEIR_EG_ABASE_NS x (s.rd fWEIR_EG_BASE_NS x)).wr
    fWEIR_EG_ABASE_SECL x (s.rd fWEIR_EG_BASE_SECL x)).wr
    fWEIR_EG_ABASE_SECH x (s.rd fWEIR_EG_BASE_SECH x)).wr
    fWEIR_EG_ACYCLE x (s.rd fWEIR_EG_CYCLE x)).wr fWEIR_EG_ANENT x n
  let s := (s.wrb fWEIR_EG_PEND x false).wr fWEIR_EG_RESULT x 2
  let s := { s with weir := { s.weir with rotOff := s.weir.rotOff.filter (· != x) } }
  ((s.rotUpdate x).cycleNow x).gateNow x

/-- The gates and cycle numbers of the lists in effect brought to the present; after a step each list goes on at its next cycle
start (R99). -/
def State.gatesNow (s : State) : State :=
  s.each ((List.range 72).filter fun x => s.rotOn x && decide (SMap.get 0 s.weir.rotWait x ≤ s.ft.now)) fun s x =>
    (s.cycleNow x).gateNow x

/-- Every pending list due by `by_` becomes active (R340). -/
def State.rotationsDue (s : State) (by_ : Nat) : State :=
  s.each ((List.range 72).filter fun x => s.rdb fWEIR_EG_PEND x && decide (SMap.get 0 s.weir.rotAt x ≤ by_)) State.rotActivate

/-- ROTEN_WRITE: word 0x00 of WEIR_EGx is written (R341).  Setting ROTEN is refused where it would claim a comparator
beyond 256, and for a mirror analysis port. -/
def execRotenWrite (x val : Nat) (s : State) : Host.Outcome State Fault Refusal :=
  let fs := fieldsAt 0xE02000
  let sets := bitOf val 0 && !s.rdb fWEIR_EG_ROTEN x
  onUnit (decide (x < 72))
    (if sets && s.rotValid x && s.claimsOver x then s.conflict 3 (ceilDiv (s.claims + 1) 4) 0
    else match (if bitOf val 0 then s.mirrorOf x else none) with
      | some k => s.conflict 6 x k
      | none => ((s.takeWord fs x val).rotUpdate x))

/-- An uncorrectable error in the active list of egress `x` (R343): rotations stop there and every class opens. -/
def State.rotFault (s : State) (x : Nat) : State :=
  let s := { s with weir := { s.weir with rotOff := x :: s.weir.rotOff } }
  ((s.rotUpdate x).wrb fWEIR_ERR_ROTFAULT 0 true).pulse 0x1E9

end Sys2Proof.Machine
end

