-- ==== Sys2Proof/Machine/Mirror.lean ====
section
/-! DEFINITION. Mirror sessions (R198 to R201): what a session copies, its records, and the session registers. -/

namespace Sys2Proof.Machine

/-- Cells set aside (R191), with TOTAL of the response reserve, the profile and the quotas as given. -/
def reservations (total prof quotas : Nat) : Nat := total * 1024 + (if prof = 3 then 18432 else 0) + quotas

/-- Half of a profile's cells (R191). -/
def halfCells (prof : Nat) : Nat := if prof = 1 then 1048576 else if prof = 2 then 2621440 else 1572864

/-- The quotas of the mirror sessions but `k`. -/
def State.quotasBut (s : State) (k : Nat) : Nat :=
  (((List.range 8).filter (· != k)).map fun j => s.rd fTRN_MIR_QUOTA j).sum

/-- RSV_RESV brought up to date. -/
def State.resvUpdate (s : State) : State :=
  s.wr fRSV_RESV_CELLS 0 (reservations (s.rd fRSV_RSPRES_TOTAL 0) (s.rd fARCH_PROFILE_ACTIVE 0) (s.quotasBut 8))

/-- Session `k` copies message `m` at index `x`: entering, or leaving where `out` (R198). -/
def State.mirWants (s : State) (k x : Nat) (out : Bool) (m : Msg) : Bool :=
  s.rdb fTRN_MIR_EN k &&
  (if s.rdb fTRN_MIR_MODE k then
    !out && (s.rdb fTRN_MIR_SRCANY k || s.rd fTRN_MIR_SRC k == m.src)
      && (s.rdb fTRN_MIR_DESTANY k || s.rd fTRN_MIR_DEST k == m.dest)
      && bitOf (s.rd fTRN_MIR_TCMASK k) m.tc
      && (s.rdb fTRN_MIR_TENANY k || s.rd fTRN_MIR_TENANT k == m.tenant)
  else s.rd fTRN_MIR_SRCPT k == x && bitOf (s.rd fTRN_MIR_DIR k) (b2n out))

/-- The cells of message `m` that session `k` copies. -/
def State.mirCut (s : State) (k : Nat) (m : Msg) : Nat :=
  if s.rd fTRN_MIR_TRUNC k = 0 then m.cells else min (s.rd fTRN_MIR_TRUNC k) m.cells

/-- The bytes of a mirror record (R200), as one number: its header, then the cells copied, which hold the message's header and body as the
Reservoir stores them (R182). -/
def State.mirBytes (s : State) (k eg n : Nat) (out : Bool) (d : Stored) (m : Msg) : Nat :=
  let flags := b2n (!out) + 2 * b2n out + 4 * b2n (decide (n < m.cells)) + 8 * b2n m.poison + 16 * s.ftQual
  (32 + 64 * n) + s.rd fTRN_MIR_SEQ k * 2 ^ 32 + d.enteredAt % nsPerSec * 2 ^ 64 + d.enteredAt / nsPerSec % 2 ^ 48 * 2 ^ 96
    + k * 2 ^ 144 + flags * 2 ^ 152 + d.x * 2 ^ 160 + eg * 2 ^ 168 + m.bytes * 2 ^ 176
    + leBytes (((headerWords m).flatMap (toLeBytes 4) ++ msgBody m).take (64 * n)) * 2 ^ 256

/-- The posted writes that carry a record of `len` bytes to `addr` of analysis port `p` (R200): payloads of at most 4 KiB. -/
def mirTlps (own p addr len data : Nat) : List Msg :=
  (List.range (ceilDiv len 4096)).map fun i =>
    let n := min 4096 (len - 4096 * i)
    { kind := .ioPosted, act := .write, node := own, snode := own, src := 0x7F, dest := p, len := 16 + n,
      space := .routed, addr := addr + 4096 * i, tgt := addr + 4096 * i, data := bitsOf data (32768 * i) (8 * n) }

/-- A write of session `k` stored in its own cells and queued for its analysis port (R201); it is sent once the cells copied, `of`, are
present (R199). -/
def State.mirStore (s : State) (k p : Nat) (of_ : Nat × Nat) (m : Msg) : State :=
  let id := s.swc.nextId
  let d : Stored := { id := id, m := m, x := 93, cells := m.cells, whole := true, place := .mirror k, eg := p, egs := [p],
                      refs := 1, cell := Config.firstCell id % max 1 (s.rd fRSV_CELLS_CELLS 0), copyOf := some of_, enteredAt := s.ft.now, enteredNs := s.pwr.ns }
  let s : State := { s with swc := { s.swc with nextId := id + 1, msgs := s.swc.msgs ++ [d] } }
  let s : State := { s with swc := { s.swc with mirCells := SMap.mod 0 s.swc.mirCells k (· + m.cells) } }
  (s.takeCells m.cells).enqueue id p

/-- The next offset of a record of `len` bytes in a window: where it stands, or the start where it would cross the end. -/
def mirPlace (wptr len size : Nat) : Nat := if 2 ^ size < wptr + len then 0 else wptr

/-- A record of session `k` made and sent, or dropped for want of quota or cells (R200, R201). -/
def State.mirRecord (s : State) (k eg : Nat) (out : Bool) (d : Stored) (m : Msg) : State :=
  let n := s.mirCut k m
  let len := 32 + 64 * n
  let p := s.rd fTRN_MIR_APORT k
  let w := mirPlace (s.rd fTRN_MIR_WPTR k) len (s.rd fTRN_MIR_SIZE k)
  let base := s.rd fTRN_MIR_BASE_L k + 2 ^ 32 * s.rd fTRN_MIR_BASE_H k
  let ms := mirTlps s.ownNode p (base + w) len (s.mirBytes k eg n out d m)
  let need := (ms.map Msg.cells).sum
  if s.rd fTRN_MIR_QUOTA k < SMap.get 0 s.swc.mirCells k + need ∨ s.rd fRSV_FREE_FREE 0 < need then s.inc fTRN_MIR_DROPS k
  else
    let s := (s.wr fTRN_MIR_SEQ k (s.rd fTRN_MIR_SEQ k + 1)).wr fTRN_MIR_WPTR k (w + ceilDiv len 64 * 64)
    if s.rdb fPRT_PORTSTAT_DLACTIVE p then s.each ms fun s m => s.mirStore k p (d.id, n) m
    else s.each ms fun s m => s.lostAtPort p m

/-- Session `k` meets a message it wants: the first and every N-th after it are copied (R199). -/
def State.mirMeet (s : State) (k eg : Nat) (out : Bool) (d : Stored) (m : Msg) : State :=
  let n := SMap.get 0 s.swc.mirCount k
  let c := SMap.set 0 s.swc.mirCount k ((n + 1) % (s.rd fTRN_MIR_NM1 k + 1))
  let s : State := { s with swc := { s.swc with mirCount := c } }
  if n = 0 then s.mirRecord k eg out d m else s

/-- Every session that wants message `m` of stored message `d`, at index `x`, meets it.  A mirror record is never copied (R199). -/
def State.mirror (s : State) (x eg : Nat) (out : Bool) (d : Stored) (m : Msg) : State :=
  if d.x = 93 then s
  else s.each ((List.range 8).filter fun k => s.mirWants k x out m) fun s k => s.mirMeet k eg out d m

/-- Stored message `id` has entered the core for the egresses `egs` (R198). -/
def State.mirrorIn (s : State) (id : Nat) (egs : List Nat) : State :=
  match s.stored id with
  | none => s
  | some d => s.mirror d.x (if d.m.group.isSome then 0xFF else egs.headD 0) false d d.m

/-- Port `p` is in a Turnout group: the first such group. -/
def State.groupWith (s : State) (p : Nat) : Option Nat :=
  (s.swc.groups.find? fun e => bitOf e.2 72 && bitOf e.2 p).map (·.1)

/-- Port `p` has a rotation list enabled: ROTEN, a pending commit, or an active list in Latency-guard (R341). -/
def State.rotates (s : State) (p : Nat) : Bool :=
  s.rdb fWEIR_EG_ROTEN p || s.rdb fWEIR_EG_PEND p || s.rotOn p

/-- What keeps port `p` from being the analysis port of session `k`, as (code, A, B) of R34, with 0 for R18. -/
def State.aportBad (s : State) (k p srcpt : Nat) : Option (Nat × Nat × Nat) :=
  let up := s.rdb fPRT_PORTCFG_ROLE p
  let bound := (s.listed fPRT_VPPB_STATE).any fun v =>
    s.rd fPRT_VPPB_STATE v != 0 && decide (s.rd fPRT_VPPB_KIND v < 2) && s.rd fPRT_VPPB_PORT v == p
  let claimed := s.prt.claims.any fun c => c.port == p
  if ¬ s.rdb fPRT_PORTCFG_ENABLE p then some (0, 0, 0)
  else if up ∨ bound ∨ claimed then some (5, p, k)
  else if s.rotates p then some (6, p, k)
  else match s.groupWith p with
    | some g => some (7, p, g / 16)
    | none => if p = srcpt then some (0, 0, 0) else none

/-- MIRROR_SESSION_WRITE: word `word` of TRN_MIRs is written (R198, R201). -/
def execMirrorSessionWrite (k word val : Nat) (s : State) : Host.Outcome State Fault Refusal :=
  let fs := wordFields 0x500100 word 11
  let en := s.rdb fTRN_MIR_EN k
  let a := 0x500100 + 64 * k + 4 * word
  let t := (if word = 5 then s.takeStaged (a - 4) k (fieldsAt 0x500110) else s).takeWord fs k val
  let base := t.rd fTRN_MIR_BASE_L k + 2 ^ 32 * t.rd fTRN_MIR_BASE_H k
  onUnit (decide (k < 8 ∧ word < 11 ∧ val < 2 ^ 32))
    (if s.discards fs k val then s
    else if word = 7 then
      (if halfCells (s.rd fARCH_PROFILE_ACTIVE 0) <
          reservations (s.rd fRSV_RSPRES_TOTAL 0) (s.rd fARCH_PROFILE_ACTIVE 0) (s.quotasBut k + bitsOf val 0 16) then
        s.conflict 4 (s.rd fARCH_PROFILE_ACTIVE 0) 0
      else t.resvUpdate)
    else if 7 < word then t
    else if en then (if word = 0 ∧ ¬ bitOf val 0 then t else s.cfgErr 5)
    else if word = 4 then s.stageLow a val
    else if word = 0 ∧ bitOf val 0 then
      match s.aportBad k (bitsOf val 11 6) (bitsOf val 4 7) with
      | some (0, _, _) => s.cfgErr 5
      | some (c, a, b) => s.conflict c a b
      | none =>
        if base % 2 ^ t.rd fTRN_MIR_SIZE k ≠ 0 then s.cfgErr 5
        else
          let t := ((t.wr fTRN_MIR_SEQ k 0).wr fTRN_MIR_WPTR k 0)
          { t with swc := { t.swc with mirCount := SMap.erase t.swc.mirCount k } }
    else t)

/-- GROUP_COMMIT: word 2 of TRN_GRPg is written; the three words take effect together (R197).  A mirror analysis port
cannot become a member (R34). -/
def execGroupCommit (g val : Nat) (s : State) : Host.Outcome State Fault Refusal :=
  let mem := s.rd fTRN_GRP_MEM_L g + s.rd fTRN_GRP_MEM_H g * 2 ^ 32 + bitsOf val 0 8 * 2 ^ 64
  let clash := (List.range 8).find? fun k => s.rdb fTRN_MIR_EN k && bitOf mem (s.rd fTRN_MIR_APORT k)
  let t := (s.wr fTRN_GRP_MEM_K g (bitsOf val 0 8)).wrb fTRN_GRP_VALID g (bitOf val 31)
  onUnit (decide (g < 4096 ∧ val < 2 ^ 32))
    (match (if bitOf val 31 then clash else none) with
    | some k => s.conflict 7 (s.rd fTRN_MIR_APORT k) (g / 16)
    | none =>
      { t with swc := { t.swc with groups := SMap.set 0 t.swc.groups g (mem + b2n (bitOf val 31) * 2 ^ 72) } })

end Sys2Proof.Machine
end

