-- ==== Sys2Proof/Machine/Route.lean ====
section
/-! DEFINITION. Where a message goes: links to peer nodes (R175), egress indices (R152, R180), and the entry of messages
that the device's own units make into the switch core. -/

namespace Sys2Proof.Machine

/-- The links to node `n`, in ascending order (R175). -/
def State.linksOf (s : State) (n : Nat) : List Nat := setBits 8 (s.rd fLEAT_ROUTE_LINKS n)

/-- The link of egress `e` is not down: what a group's copies for it need (R195). -/
def State.reaches (s : State) (e : Nat) : Bool :=
  if e < 64 then s.dlUp e else !(decide (e < 72)) || (s.linksOf (s.rd fLEAT_STAT_PEERNODE (e - 64))).contains (e - 64)

/-- The link that a message for another node goes on (R175). -/
def State.linkFor (s : State) (m : Msg) : Option Nat :=
  let ms := s.linksOf m.node
  ms[(m.src + 5 * m.dest + 11 * m.tc) % ms.length]?

/-- The egress that a DEST on this node stands for (R152, R180). -/
def destEgress (d : Nat) : Option Nat :=
  if d < 0x40 then some d
  else if d < 0x50 then some (72 + (d - 0x40))
  else if d < 0x70 then some (88 + (d - 0x50) / 8)
  else if d = 0x7F then some 92 else none

/-- The SRC of internal source `x` (R152), for Runnel groups that of engine `e`. -/
def sliceSrc (sl : Nat) : Nat := 0x40 + sl

/-- The egress of a message; none where it has no route (R205) or its node has no link. -/
def State.egressOf (s : State) (m : Msg) : Option Nat :=
  if m.node ≠ s.ownNode then (s.linkFor m).map (64 + ·)
  else match destEgress m.dest with
    | some e => if e < 64 ∧ ¬ s.enabled e then none else some e
    | none => none

/-- A message that no egress takes: as for a link that is down, or without a route (R170, R175, R205).  DESIGN CHOICE (log entry 121): for a
node with an empty mask no link is named, and what R170 records goes to link 0. -/
def State.unrouted (s : State) (m : Msg) : State :=
  if m.node ≠ s.ownNode then s.lostAtLink 0 m else s.noRoute m

/-- A whole message of internal source `x` taken into the Reservoir, with a copy for each egress (R182, R195). -/
def State.place (s : State) (x : Nat) (m : Msg) (egs : List Nat) : State :=
  let id := s.swc.nextId
  let many := decide (1 < egs.length)
  let s := s.when_ (decide (72 ≤ x ∧ x < 88 ∨ x = 92)) fun s => s.mesh (internalNode x) (internalNode x) m
  (((s.countMsg 0x10 4 x m).store x m true egs 0 0 false).mirrorIn id egs).each egs fun s e =>
    (s.when_ many fun s => s.countMsg 0x12 4 0 m).enqueue id e

/-- Internal source `x` may issue message `m` (R188, R189): a response always, a request while no hold covers it. -/
def State.mayInject (s : State) (x : Nat) (m : Msg) : Bool := m.grp == 4 || !s.covered x m.tc

/-- Waiting messages of internal sources enter, oldest first, while there is room; one that a hold keeps back lets the others pass, and `n`
bounds the rounds. -/
def State.drain : Nat → State → State
  | 0, s => s
  | n + 1, s =>
    match s.swc.waiting.find? fun w => s.mayInject w.1 w.2.1 with
    | none => s
    | some w =>
      if w.2.1.cells ≤ s.rd fRSV_FREE_FREE 0 then
        State.drain n (State.place { s with swc := { s.swc with waiting := s.swc.waiting.erase w } } w.1 w.2.1 w.2.2)
      else s

/-- Every waiting message that may issue and for which there is room enters. -/
def State.drainAll (s : State) : State := State.drain s.swc.waiting.length s

/-- A message of internal source `x` for the egresses `egs` enters the core, or waits for a hold to end or for free cells. -/
def State.injectTo (s : State) (x : Nat) (m : Msg) (egs : List Nat) : State :=
  if egs.isEmpty then s
  else State.drainAll { s with swc := { s.swc with waiting := s.swc.waiting ++ [(x, m, egs)] } }

/-- A message of internal source `x` enters the core; a link or port that is down takes none (R127, R170). -/
def State.inject (s : State) (x : Nat) (m : Msg) : State :=
  s.answering m fun s =>
    match s.egressOf m with
    | none => s.unrouted m
    | some e => if e < 64 ∧ ¬ s.dlUp e then s.lostAtPort e m else s.injectTo x m [e]

/-- Bridge `b` is bound: an unbind in progress has not ended its binding yet (R131). -/
def State.holdsBinding (s : State) (b : Nat) : Bool := decide (2 ≤ s.rd fPRT_VPPB_STATE b)

/-- The port that vPPB `i` of VCS `v` leads to on this node, where it is bound. -/
def State.boundPort (s : State) (v i : Nat) : Option Nat :=
  let k := 32 * v + i
  if s.holdsBinding k ∧ s.rd fPRT_VPPB_KIND k < 2 then some (s.rd fPRT_VPPB_PORT k) else none

/-- The vPPBs, as 32 v + i, that name port `p` of this node and are not unbound. -/
def State.vppbsOf (s : State) (p : Nat) : List Nat :=
  (s.listed fPRT_VPPB_STATE).filter fun k =>
    s.rd fPRT_VPPB_STATE k != 0 && decide (s.rd fPRT_VPPB_KIND k < 2) && s.rd fPRT_VPPB_PORT k == p

/-- The upstream port whose VCS port `p` is bound to. -/
def State.vcsOf (s : State) (p : Nat) : Option Nat :=
  ((s.vppbsOf p).find? s.holdsBinding).map (· / 32)

/-- The bridge by which LD `ld` of the device behind port `p` is bound: that of the LD, or of the whole port (R130). -/
def State.bridgeOf (s : State) (p ld : Nat) : Option Nat :=
  (s.vppbsOf p).find? fun k => s.holdsBinding k && (s.rd fPRT_VPPB_KIND k == 0 || s.rd fPRT_VPPB_LD k == ld)

/-- The upstream port whose PRT_TIBLK block holds tenant instance `ti` (R137). -/
def State.portOfTenant (s : State) (ti : Nat) : Option Nat :=
  (List.range 64).find? fun p =>
    decide (64 * s.rd fPRT_TIBLK_BASE p ≤ ti ∧ ti < 64 * (s.rd fPRT_TIBLK_BASE p + s.rd fPRT_TIBLK_CNT p))

end Sys2Proof.Machine
end

