-- ==== Sys2Proof/Machine/Xlt.lean ====
section
/-! DEFINITION. Pooling and translation (R259 to R282): fabric addresses, the allotment map and its commands, HDM
decoders, dynamic capacity, and the translation windows. -/

namespace Sys2Proof

/-- A request that counts as a read at an allotment check or a gate (R265, R287). -/
def Msg.isRead (m : Msg) : Bool :=
  match m.kind with
  | .ioNonPosted => m.act != .write && m.act != .cfgWrite
  | .memReq | .cacheD2hReq | .wmReq => m.code != 4 && m.code != 5
  | _ => false

/-- A request that counts as a write (R265, R287); one for ownership, and an AtomicOp, count as both. -/
def Msg.isWrite (m : Msg) : Bool :=
  match m.kind with
  | .ioPosted | .memRwd | .wmReqData => true
  | .ioNonPosted => m.act == .write || m.act == .cfgWrite || m.act == .atomic
  | .memReq | .cacheD2hReq | .wmReq => m.code == 1 || m.code == 2 || m.code == 4 || m.code == 5
  | _ => false

/-- The bytes that a CXL.io memory request covers. -/
def spanBytes (m : Msg) : Nat := max 1 (if m.isWrite && m.act != .atomic || m.kind == .ioPosted then m.ioData else m.ncnt)

/-- `n` bytes from offset `k` on of a CXL.io request, as a request of its own. -/
def Msg.cut (m : Msg) (k n : Nat) : Msg :=
  if m.isRead then { m with addr := m.addr + k, tgt := m.tgt + k, ncnt := n }
  else { m with addr := m.addr + k, tgt := m.tgt + k, len := 16 + n, data := bitsOf m.data (8 * k) (8 * n) }

end Sys2Proof

namespace Sys2Proof.Machine

/-! ### Fabric addresses (R208, R259 to R261) -/

/-- SPAN of a fabric address. -/
def spanOf (a : Nat) : Nat := bitsOf a 46 6

/-- EXT of a fabric address. -/
def extOf (a : Nat) : Nat := bitsOf a 28 18

/-- The home slice of a fabric address (R211). -/
def sliceOf (a : Nat) : Nat := bitsOf a 6 4

/-- The shared region that contains fabric address `a` and is enabled or being recalled (R208, R210). -/
def State.regionOf (s : State) (a : Nat) : Option Nat :=
  (List.range 64).find? fun n =>
    (s.rdb fWM_SRGN_EN n || s.rd fWM_SRGN_STATE n == 3)
    && decide (s.rd fWM_SRGN_FIRST n ≤ a / 2 ^ 28 ∧ a / 2 ^ 28 ≤ s.rd fWM_SRGN_LAST n)

/-- Extent `e` (A[51:28]) lies in an enabled shared region. -/
def State.extShared (s : State) (e : Nat) : Bool :=
  (List.range 64).any fun n => s.rdb fWM_SRGN_EN n
    && decide (s.rd fWM_SRGN_FIRST n ≤ e ∧ e ≤ s.rd fWM_SRGN_LAST n)

/-- This node's own span, if it manages one (R260). -/
def State.ownSpan (s : State) : Option Nat :=
  if s.rdb fXLT_SPAN_VALID s.ownNode then some (s.rd fXLT_SPAN_SPAN s.ownNode) else none

/-- The node whose span contains `a`. -/
def State.spanNode (s : State) (a : Nat) : Option Nat :=
  (List.range 16).find? fun n => s.rdb fXLT_SPAN_VALID n && s.rd fXLT_SPAN_SPAN n == spanOf a

/-! ### Map entries (R264) -/

/-- STATE: 0 FREE, 1 PENDING, 2 ACTIVE, 3 RELEASING. -/
def eState (e : Nat) : Nat := bitsOf e 0 2
/-- SHARED. -/
def eShared (e : Nat) : Bool := bitOf e 2
/-- RO. -/
def eRo (e : Nat) : Bool := bitOf e 3
/-- DCD. -/
def eDcd (e : Nat) : Bool := bitOf e 4
/-- OWN. -/
def eOwn (e : Nat) : Nat := bitsOf e 8 10
/-- TPORT. -/
def eTport (e : Nat) : Nat := bitsOf e 18 6
/-- TLD. -/
def eTld (e : Nat) : Nat := bitsOf e 24 4
/-- MLD. -/
def eMld (e : Nat) : Bool := bitOf e 28
/-- DPA [51:28]. -/
def eDpa (e : Nat) : Nat := bitsOf e 32 24
/-- A reserved field of the entry is not 0. -/
def eReserved (e : Nat) : Bool :=
  bitsOf e 5 3 != 0 || bitsOf e 29 3 != 0 || bitsOf e 56 8 != 0 || (eShared e && bitsOf e 16 2 != 0)

/-- The entry with STATE `v`. -/
def eWith (e v : Nat) : Nat := e / 4 * 4 + v

/-- Entry `i` of the master map. -/
def State.entry (s : State) (i : Nat) : Nat := SMap.get 0 s.xlt.map i

/-- Entry `i` set. -/
def State.setEntry (s : State) (i e : Nat) : State := { s with xlt := { s.xlt with map := SMap.set 0 s.xlt.map i e } }

/-- STATE of entry `i` set; a FREE entry is all zeros. -/
def State.entryTo (s : State) (i v : Nat) : State := s.setEntry i (if v = 0 then 0 else eWith (s.entry i) v)

/-- Bit 64 n + p of share group `g` (R264). -/
def State.inGroup (s : State) (g n p : Nat) : Bool :=
  let b := 64 * n + p
  bitOf (s.rd fXLT_SGDATA_MASK (32 * g + b / 32)) (b % 32)

/-- Share group `g` has no bit set. -/
def State.groupEmpty (s : State) (g : Nat) : Bool := (List.range 32).all fun w => s.rd fXLT_SGDATA_MASK (32 * g + w) == 0

/-- Entries not FREE that name share group `g` (R273). -/
def State.groupRefs (s : State) (g : Nat) : Nat :=
  (s.xlt.map.filter fun e => eState e.2 != 0 && eShared e.2 && eOwn e.2 % 256 == g).length

/-- The pool device behind port `p`. -/
def State.poolDev (s : State) (p : Nat) : PoolDev := SMap.get {} s.xlt.pool p

/-- Port `p` serves the pool (R263). -/
def State.isPool (s : State) (p : Nat) : Bool := bitOf (s.rd fXLT_POOLPORT_POOL (p / 32)) (p % 32)

/-- The pool device behind `p` changed. -/
def State.poolMod (s : State) (p : Nat) (f : PoolDev → PoolDev) : State :=
  { s with xlt := { s.xlt with pool := SMap.mod {} s.xlt.pool p f } }

/-- The target port's decoder is committed (R263). -/
def State.decoded (s : State) (e : Nat) : Bool := (s.poolDev (eTport e)).committed

/-! ### Denials (R265) -/

/-- The requester whose ownership is checked, as (node, port) (R266): none for a request that owns nothing.  Which port
of a peer holds an instance there is the peer's to know, and free (log entry 123). -/
def State.ownerOf (s : State) (m : Msg) : Option (Nat × Nat) :=
  if m.src < 0x40 then some (m.snode, m.src)
  else if 0x50 ≤ m.src ∧ m.src < 0x70 then
    (if m.snode = s.ownNode then (s.portOfTenant m.tenant).map fun p => (m.snode, p)
    else some (m.snode, (Config.peerPort m.snode m.tenant).toNat))
  else none

/-- A denied request completed or discarded by its kind (R265, R292). -/
def State.denyReply (s : State) (m : Msg) : State :=
  match m.kind with
  | .memReq | .cacheD2hReq | .wmReq => s.reply m .sc true
  | .memRwd | .wmReqData => s.reply m .sc false
  | .ioNonPosted => s.reply m .ur false
  | _ => s

/-- A denial of R265, R267 or R277 counted, recorded and raised.  PORT of a requester that is no port is its SRC cut to the field (DESIGN
CHOICE, log entry 122). -/
def State.xltRecord (s : State) (m : Msg) (reason addr : Nat) : State :=
  let (n, p) := (s.ownerOf m).getD (m.snode, m.src)
  let s := (((s.inc fXLT_ERR_DENY 0).wr fXLT_DENY_PORT 0 p).wr fXLT_DENY_NODE 0 n).wr fXLT_DENY_REASON 0 reason
  ((s.wrb fXLT_DENY_VALID 0 true).wr2 fXLT_DENYADDR_L_ADDR_L fXLT_DENYADDR_H_ADDR_H 0 addr).pulse 0x1C0

/-- A denied request of source `x` (R265, R267, R277): recorded and, at an ingress, counted against the tenant and completed or
discarded.  An internal source is told by what called this. -/
def State.xltDeny (s : State) (x : Nat) (m : Msg) (reason addr : Nat) : State :=
  let s := s.xltRecord m reason addr
  if x < 72 then (s.countMsg 0x03 (if x < 64 then x / 16 else (x - 64) / 2) 0 m).denyReply m else s

/-! ### Checks and routing (R261, R265) -/

/-- What becomes of a request whose fabric address is known. -/
inductive Verdict where
  /-- it goes on, as this message -/
  | send (m : Msg)
  /-- it is denied for this reason, with the address to record -/
  | deny (reason addr : Nat)
  /-- it is for a span that no node serves, or a node without links -/
  | lost
  deriving DecidableEq, Repr

/-- TAG of a zeroing write of entry `i` (R270). -/
def zeroTag (i : Nat) : Nat := 2 ^ 42 + i

/-- The allotment check of R265 for a request into the own span, in its order. Tender and home accesses answer to the
first check alone (R266, log entry 20); a zeroing write passes while its entry is PENDING.  A request that passes has the generation of
that moment (R271). -/
def State.allot (s : State) (m : Msg) (a : Nat) : Verdict :=
  let i := extOf a
  let e := s.entry i
  let zeroes := m.src == 0x7F && m.tag == zeroTag i
  let live := if zeroes then eState e == 1 && (s.xlt.waits.any fun w => w.idx == i && w.zeroing) else eState e == 2
  let owns : Bool := match s.ownerOf m with
    | some (n, p) => if eShared e then s.inGroup (eOwn e % 256) n p else eOwn e == 64 * n + p
    | none => false
  let exempt := decide (m.src = 0x7F ∨ (0x40 ≤ m.src ∧ m.src < 0x50))
  if s.xlt.bad.contains i ∨ ¬ live ∨ ¬ s.decoded e then .deny 1 a
  else if ¬ exempt ∧ ¬ owns then .deny 2 a
  else if ¬ exempt ∧ m.isWrite ∧ eRo e then .deny 3 a
  else .send { m with node := s.ownNode, dest := eTport e, ld := if eMld e then eTld e else 0,
                      tgt := eDpa e * 2 ^ 28 + a % 2 ^ 28, gen := some (s.rd fXLT_MAPSTAT_G 0) }

/-- A request for fabric address `a` outside every shared region routed by its SPAN (R261). -/
def State.bySpan (s : State) (m : Msg) (a : Nat) : Verdict :=
  match s.spanNode a with
  | none => .lost
  | some h =>
    if h = s.ownNode then s.allot m a
    else if (s.linksOf h).isEmpty then .lost
    else .send { m with node := h, dest := 0x40 + sliceOf a, space := .fabric, addr := a, tgt := a }

/-- A request for fabric address `a` (R261): to the home slice where the address is shared, else by its SPAN. -/
def State.byFabric (s : State) (m : Msg) (a : Nat) : Verdict :=
  match s.regionOf a with
  | some _ => .send { m with node := s.ownNode, dest := 0x40 + sliceOf a, space := .fabric, addr := a, tgt := a }
  | none => s.bySpan { m with addr := a } a

/-! ### HDM decoders (R267) -/

/-- Decoder `d` of upstream port `p`. -/
def State.hdm (s : State) (p d : Nat) : Hdm := SMap.get {} s.xlt.hdm (16 * p + d)

/-- The committed decoder of port `p` that a host physical address hits. -/
def State.hdmHit (s : State) (p hpa : Nat) : Option Nat :=
  (List.range 16).find? fun d =>
    let h := s.hdm p d
    h.committed && decide (h.base ≤ hpa ∧ hpa < h.base + h.size)

/-- A CXL.mem request of a host at upstream port `p` (R267). -/
def State.byHdm (s : State) (p : Nat) (m : Msg) : Verdict :=
  match s.hdmHit p m.addr with
  | none => .deny 0 m.addr
  | some d =>
    let h := s.hdm p d
    let k := 16 * p + d
    if s.rdb fXLT_HDMX_FAB k then
      s.byFabric m ((s.rd fXLT_HDMX_FABBASE k * 2 ^ 28 + (m.addr - h.base)) % 2 ^ 52)
    else
      let i := h.targets[(m.addr - h.base) / max 1 h.gran % max 1 h.ways]?.getD 0
      match s.boundPort p i with
      | some q => .send { m with node := s.ownNode, dest := q, tgt := m.addr, ld := s.rd fPRT_VPPB_LD (32 * p + i) }
      | none =>
        let v := 32 * p + i
        if s.holdsBinding v ∧ s.rd fPRT_VPPB_KIND v = 2 then
          Verdict.send { m with node := s.rd fPRT_VPPB_NODE v, dest := s.rd fPRT_VPPB_PORT v, tgt := m.addr }
        else .deny 0 m.addr

/-! ### Translation windows (R276, R277) -/

/-- Word `w` of window `i` of port `p` in the active copy. -/
def State.winWord (s : State) (p i w : Nat) : Nat := s.rd fXLT_WINACT_WORD (1024 * p + 4 * i + w)

/-- Where part of a request that starts at aperture offset `o` ends: at its slot's boundary or the last page of its
window (R277). -/
def State.winEnd (s : State) (p o : Nat) : Nat :=
  let slot := 2 ^ (s.rd fPRT_TIBLK_WINSZ p - 8)
  let i := o / slot
  let lim := i * slot + (bitsOf (s.winWord p i 1) 0 26 + 1) * 4096
  if o < lim then min ((i + 1) * slot) lim else (i + 1) * slot

/-- The parts of a request of `n` bytes from aperture offset `o` on, as (offset in the request, bytes); `f` bounds them. -/
def State.winParts (s : State) (p : Nat) : Nat → Nat → Nat → Nat → List (Nat × Nat)
  | 0, _, _, _ => []
  | f + 1, k, o, n =>
    let c := min n (s.winEnd p o - o)
    if n = 0 then [] else (k, c) :: s.winParts p f (k + c) (o + c) (n - c)

/-- One part of an aperture request translated by the windows of port `p`.  Port `p` is the requester of one that goes on to fabric
memory, the port it entered at of any other; one of KIND 1 for a port of this node that is no downstream one has no route (R277). -/
def State.byWindow (s : State) (p : Nat) (m : Msg) : Verdict :=
  let slot := 2 ^ (s.rd fPRT_TIBLK_WINSZ p - 8)
  let (i, o) := (m.addr / slot, m.addr % slot)
  let w := s.winWord p i 0
  let target := (bitsOf (s.winWord p i 2) 12 20 * 4096 + s.winWord p i 3 * 2 ^ 32 + o) % 2 ^ 64
  if ¬ bitOf w 0 ∨ 256 ≤ i ∨ bitsOf (s.winWord p i 1) 0 26 < o / 4096 then .deny 5 m.addr
  else if (m.isRead ∧ ¬ bitOf w 3) ∨ (m.isWrite ∧ ¬ bitOf w 4) then .deny 6 m.addr
  else
    let m := { m with tgt := target }
    match bitsOf w 1 2 with
    | 0 =>
      if 2 ^ 52 ≤ target then .deny 5 m.addr
      else if s.extShared (target / 2 ^ 28) then .deny 7 target
      else s.bySpan { m with space := .fabric, addr := target } target
    | 1 =>
      let own := bitsOf w 5 4 == s.ownNode
      .send { m with src := m.entered, via := none, node := bitsOf w 5 4, space := .routed, addr := target,
                     dest := if own && !s.downstream (bitsOf w 9 6) then 0x70 else bitsOf w 9 6 }
    | 2 => if ¬ s.rdb fPRT_PORTCFG_REGACC p then .deny 6 m.addr
           else .send { m with src := m.entered, via := none, node := bitsOf w 5 4, dest := 0x7F, space := .routed, addr := target % 2 ^ 25 }
    | _ => .deny 5 m.addr

/-- The bits that word `i` of the windows keeps (R276). -/
def winKeep (i v : Nat) : Nat :=
  match i % 4 with
  | 0 => bitsOf v 0 15
  | 1 => bitsOf v 0 26
  | 2 => bitsOf v 12 20 * 4096
  | _ => v

/-- A write of `v` to word `i` of the windows carries the reserved KIND (R14, R276). -/
def winOdd (i v : Nat) : Bool := i % 4 == 0 && bitsOf v 1 2 == 3

/-- The pieces of `n` bytes from address `a` on that lie in one line each, as (place in the whole, address, bytes). -/
def linePieces (a n : Nat) : List (Nat × Nat × Nat) :=
  ((List.range ((a + n - 1) / 64 + 1 - a / 64)).map fun k =>
    let lo := max a (64 * (a / 64 + k))
    let hi := min (a + n) (64 * (a / 64 + k) + 64)
    (lo - a, lo, hi - lo))

/-- A CXL.io request within one line as the CXL.mem request that goes to a peer's span (R261). -/
def asMem (m : Msg) : Msg :=
  let off := m.addr % 64
  let n := spanBytes m
  let b := { m with addr := m.addr - off, tgt := m.addr - off, ncnt := 0,
                    io := some (off, if m.isWrite then 0 else m.ncnt, m.kind != MKind.ioPosted) }
  if m.isWrite then
    { b with kind := .memRwd, act := if n = 64 then .write else .partWrite, op := if n = 64 then 4 else 5, len := 80,
             data := m.data * 2 ^ (8 * off), be := (2 ^ n - 1) * 2 ^ off }
  else { b with kind := .memReq, op := 3 }

/-- The answer `r` to request `q` in the protocol of its requester (R261); none where the requester awaits nothing. -/
def ioBack (q r : Msg) : Option Msg :=
  match q.io with
  | none => some r
  | some (off, n, wanted) =>
    if wanted then some { r with kind := .ioCpl, act := .response, len := 16 + n, data := bitsOf r.data (8 * off) (8 * n) } else none

/-! ### Generations and drains (R271, R279) -/

/-- Requests in flight that were checked under generation `g`. -/
def State.genCount (s : State) (g : Nat) : Nat :=
  (s.swc.msgs.filter fun d => d.m.gen == some g).length + (s.swc.waiting.filter fun w => w.2.1.gen == some g).length

/-- Packets in flight that copy `c` of port `p`'s windows translated. -/
def State.winCount (s : State) (p c : Nat) : Nat :=
  (s.swc.msgs.filter fun d => d.m.win == some (p, c)).length + (s.swc.waiting.filter fun w => w.2.1.win == some (p, c)).length

/-- The generation counted down by the running drain. -/
def State.oldGen (s : State) : Nat := 1 - s.rd fXLT_MAPSTAT_G 0

/-- G flips and a drain of every entry that is RELEASING begins (R271). -/
def State.startDrain (s : State) : State :=
  let s := (s.wr fXLT_MAPSTAT_G 0 (s.oldGen)).wrb fXLT_MAPSTAT_DRAIN 0 true
  { s with xlt := { s.xlt with relNow := s.xlt.relNext, relNext := [] } }

/-- Entry `i` turns RELEASING (R271); what was still to be done for it is dropped. -/
def State.releasing (s : State) (i : Nat) : State :=
  let s := s.entryTo i 3
  let s := { s with xlt := { s.xlt with relNext := s.xlt.relNext ++ [i] } }
  if s.rdb fXLT_MAPSTAT_DRAIN 0 then s else s.startDrain

/-! ### Grants and releases (R269 to R272) -/

/-- TPORT, LD and DPA of an entry name storage that exists (R270, R274).  While the image's records are applied no link is up and no
device known, and an entry of the image is taken as it stands (R281, log entry 123). -/
def State.goodTarget (s : State) (e : Nat) : Bool :=
  let d := s.poolDev (eTport e)
  let l := if eMld e then eTld e else 0
  s.isPool (eTport e) && ((decide (s.rd fPWR_START_PHASE 0 < 5) && d.caps.isEmpty)
    || (!eMld e || d.mld) && decide (l < d.caps.length)
      && (if eDcd e then d.dcd.contains (l, eDpa e) else decide (eDpa e < d.caps[l]?.getD 0)))

/-- The refusal of a GRANT of `e` to an entry in state `st`, without the checks of time and queue; 0 for none. -/
def State.grantBad (s : State) (st e : Nat) : Nat :=
  if st ≠ 0 then 3 else if ¬ s.goodTarget e then 4
  else if eShared e ∧ s.groupEmpty (eOwn e % 256) then 6 else 0

/-- The refusal of a RELEASE of entry `i` in state `st`; 0 for none. -/
def State.releaseBad (s : State) (i st : Nat) : Nat :=
  if st ≠ 1 ∧ st ≠ 2 then 3
  else if s.extShared (s.ownSpan.getD 0 * 2 ^ 18 + i) then 5 else 0

/-- An entry that waits for nothing becomes ACTIVE (R269). -/
def State.settleMap (s : State) (i : Nat) : State :=
  match s.xlt.waits.find? fun w => w.idx == i with
  | some w =>
    if w.zeroing ∨ w.failed ∨ w.timed then s
    else State.entryTo { s with xlt := { s.xlt with waits := s.xlt.waits.filter fun w => w.idx != i } } i 2
  | none => s

/-- A GRANT accepted: the entry is PENDING with what it waits for (R270). -/
def State.granted (s : State) (i e : Nat) (zero timed : Bool) : State :=
  let s := s.setEntry i (eWith e 1)
  State.settleMap { s with xlt := { s.xlt with
    bad := s.xlt.bad.filter (· != i), waits := s.xlt.waits ++ [{ idx := i, zeroing := zero, timed := timed }] } } i

/-- A RELEASE that acts (R269, R271). -/
def State.released (s : State) (i : Nat) : State :=
  if eState (s.entry i) = 1 then
    let s := s.entryTo i 0
    { s with xlt := { s.xlt with
        waits := s.xlt.waits.filter fun w => w.idx != i,
        timed := s.xlt.timed.filter fun t => !(t.idx == i && t.own) } }
  else s.releasing i

/-- QUEUED brought up to date. -/
def State.mapQueued (s : State) : State := s.wr fXLT_MAPSTAT_QUEUED 0 s.xlt.timed.length

/-- STATE of entry `i` once every timed command with an apply time no later than `t` has acted (R269), a release with its drain.  A GRANT
that holds the entry PENDING is dropped by a RELEASE before it. -/
def State.stateAt (s : State) (i t : Nat) : Nat :=
  let cs := sortBy TimedMap.at_ (s.xlt.timed.filter fun c => c.idx == i && decide (c.at_ ≤ t))
  cs.foldl (fun st c =>
    if c.op = 1 then (if c.own then (if st = 1 then 2 else st) else if st = 0 then 2 else st)
    else if st = 1 ∨ st = 2 then 0 else st) (eState (s.entry i))

/-- An error that a command meets in entry `i` (R275): 1 corrected, 3 uncorrectable in the master. -/
def State.mapEcc (s : State) (i err : Nat) : State :=
  if err = 1 then s.inc fXLT_ERR_ECCCOR 0
  else if err = 3 then
    State.pulse (((({ s with xlt := { s.xlt with bad := i :: s.xlt.bad.filter (· != i) } } : State).wr
      fXLT_MAPERR_INDEX 0 i).wrb fXLT_MAPERR_VALID 0 true)) 0x1C2
  else s

/-- A failure after acceptance (R269, R270): recorded, with the configuration-error source of XLT. -/
def State.mapFail (s : State) (i op res : Nat) : State :=
  State.cfgErr (((((s.wr fXLT_MAPTFAIL_INDEX 0 i).wr fXLT_MAPTFAIL_OP 0 op).wr fXLT_MAPTFAIL_RESULT 0 res).wrb
    fXLT_MAPTFAIL_VALID 0 true)) 11

/-- The apply time in XLT_MAPTIME, in nanoseconds. -/
def State.mapTime (s : State) : Nat :=
  applyTime (s.rd fXLT_MAPTIME_NS_NS 0) (s.rd fXLT_MAPTIME_SECL_SECL 0) (s.rd fXLT_MAPTIME_SECH_SECH 0)

/-- Apply time `t` is out of range: more than 86,400 s ahead (R97), or, for a GRANT, earlier than the present (R270). -/
def State.outOfRange (s : State) (op t : Nat) : Bool :=
  decide (op = 1 ∧ t < s.ft.now ∨ s.ft.now + 86400 * nsPerSec < t)

/-- A map command of operation `op` (1 GRANT, 2 RELEASE) as XLT_MAPCMD spells it (R269): the first refusal that
applies, else it acts, or waits for its time; a RELEASE whose time is past acts at once (R97). -/
def State.mapCommand (s : State) (op val : Nat) : State :=
  let i := s.rd fXLT_MAPIDX_INDEX 0
  let e := s.rd2 fXLT_MAPWR_L_ENTRY_L fXLT_MAPWR_H_ENTRY_H 0
  let (zero, t) := (bitOf val 3, s.mapTime)
  let timed := bitOf val 4 && decide (s.outOfRange op t = true ∨ s.ft.now ≤ t)
  let res := fun (s : State) (n : Nat) => s.wr fXLT_MAPSTAT_RESULT 0 n
  let st := if timed then s.stateAt i t else eState (s.entry i)
  let bad := if op = 1 then s.grantBad st e else s.releaseBad i st
  if bitsOf val 24 8 ≠ 0x3C ∨ bitsOf val 0 3 ≠ op then s
  else if op = 1 ∧ eReserved e then res s 9
  else if timed ∧ s.outOfRange op t then res s 8
  else if timed ∧ 64 ≤ s.xlt.timed.length then res s 7
  else if bad ≠ 0 then res s bad
  else if timed ∧ 256 < s.claims + 1 then s.conflict 3 (ceilDiv (s.claims + 1) 4) 0
  else if timed then
    let own := op == 1 && eState (s.entry i) == 0
    let s : State := { s with xlt := { s.xlt with timed := s.xlt.timed ++
      [{ at_ := t, idx := i, op := op, zero := zero, entry := e, own := own, seq := s.headSeq }] } }
    let s := if own then s.granted i e zero true else s
    res s.mapQueued 2
  else if op = 1 then res (s.granted i e zero false) 2
  else res (s.released i).mapQueued 2

/-- A timed map command acts, or fails, at its apply time (R269). -/
def State.applyMap (s : State) (c : TimedMap) : State :=
  let s := State.mapQueued { s with xlt := { s.xlt with timed := s.xlt.timed.filter (· != c) } }
  let st := if c.own then 0 else eState (s.entry c.idx)
  let bad := if c.op = 1 then s.grantBad st c.entry else s.releaseBad c.idx st
  if bad ≠ 0 then s.mapFail c.idx c.op bad
  else if c.op = 2 then (s.released c.idx).mapQueued
  else if c.own then
    State.settleMap { s with xlt := { s.xlt with
      waits := s.xlt.waits.map fun w => if w.idx = c.idx then { w with timed := false } else w } } c.idx
  else s.granted c.idx c.entry c.zero false

/-- Word `val` of XLT_MAPCMD is a command of operation `op`: its KEY is right (R269). -/
def mapOp (val op : Nat) : Bool := bitsOf val 24 8 == 0x3C && bitsOf val 0 3 == op

/-- MAP_GRANT: XLT_MAPCMD written with OP GRANT (R270); `err` is an error met in the entry (R275). -/
def execMapGrant (val err : Nat) (s : State) : Host.Outcome State Fault Refusal :=
  onUnit (decide (val < 2 ^ 32 ∧ err < 4)) ((s.when_ (mapOp val 1) fun s => s.mapEcc (s.rd fXLT_MAPIDX_INDEX 0) err).mapCommand 1 val)

/-- MAP_RELEASE: XLT_MAPCMD written with OP RELEASE (R271). -/
def execMapRelease (val err : Nat) (s : State) : Host.Outcome State Fault Refusal :=
  onUnit (decide (val < 2 ^ 32 ∧ err < 4)) ((s.when_ (mapOp val 2) fun s => s.mapEcc (s.rd fXLT_MAPIDX_INDEX 0) err).mapCommand 2 val)

/-- The zeroing of entry `i` ends (R270). -/
def State.zeroed (s : State) (i : Nat) (ok : Bool) : State :=
  if s.xlt.waits.any fun w => w.idx == i && w.zeroing then
    let s : State := { s with xlt := { s.xlt with waits := s.xlt.waits.map fun w =>
      if w.idx = i then { w with zeroing := false, failed := !ok } else w } }
    if ok then s.settleMap i else s.mapFail i 1 4
  else s

/-- The running drain ends: its entries are FREE, and a release that waited starts the next (R271). -/
def State.drainEnd (s : State) : State :=
  let s := s.each s.xlt.relNow fun s i => s.entryTo i 0
  let s := s.wrb fXLT_MAPSTAT_DRAIN 0 false
  let s := { s with xlt := { s.xlt with relNow := [] } }
  if s.xlt.relNext.isEmpty then s else s.startDrain

/-- RELEASE_DRAIN_END: nothing checked under the old generation is in flight (R271). -/
def execReleaseDrainEnd (s : State) : Host.Outcome State Fault Refusal :=
  .next (if s.rdb fXLT_MAPSTAT_DRAIN 0 ∧ s.genCount s.oldGen = 0 then s.drainEnd else s)

/-- MAPIDX_WRITE: XLT_MAPIDX names an entry and latches it for reading (R282). -/
def execMapidxWrite (val : Nat) (s : State) : Host.Outcome State Fault Refusal :=
  let i := bitsOf val 0 18
  onUnit (decide (val < 2 ^ 32))
    ((s.wr fXLT_MAPIDX_INDEX 0 i).wr2 fXLT_MAPRD_L_ENTRY_L fXLT_MAPRD_H_ENTRY_H 0 (s.entry i))

/-- SHARE_GROUP_WRITE: XLT_SGDATA is written; discarded while an entry names the group (R273). -/
def execShareGroupWrite (val : Nat) (s : State) : Host.Outcome State Fault Refusal :=
  let g := s.rd fXLT_SGSEL_GROUP 0
  onUnit (decide (val < 2 ^ 32))
    (if s.groupRefs g ≠ 0 then s.cfgErr 11
    else s.wr fXLT_SGDATA_MASK (32 * g + s.rd fXLT_SGSEL_WORD 0) val)

/-! ### Pool devices (R263, R274) -/

/-- Port `p` may serve the pool (R263): an enabled downstream port with CXL.mem that no vPPB names, of this node or a peer. -/
def State.mayPool (s : State) (p : Nat) : Bool :=
  s.downstream p && s.rdb fPRT_PORTCFG_PROTO p && (s.vppbsOf p).isEmpty && !(s.prt.claims.any fun c => c.port == p)

/-- A pool port whose link is up is enumerated afresh: its decoders are uncommitted until that ends (R263). -/
def State.enumerate (s : State) (p : Nat) : State :=
  if s.isPool p then s.poolMod p fun d => { d with committed := false } else s

/-- POOLPORT_WRITE: XLT_POOLPORTk is written; refused where a port breaks the conditions (R263). -/
def execPoolportWrite (k val : Nat) (s : State) : Host.Outcome State Fault Refusal :=
  let ok := (setBits 32 val).all fun i => s.mayPool (32 * k + i)
  let t := s.wr fXLT_POOLPORT_POOL k val
  onUnit (decide (k < 2 ∧ val < 2 ^ 32))
    (if ok then t.each ((setBits 32 val).filter fun i => !s.isPool (32 * k + i)) fun t i => t.enumerate (32 * k + i)
    else s.cfgErr 11)

/-- HDM_DECODER_COMMIT: a host writes decoder `d` of its upstream port and commits it, or uncommits it (R267, R268).
Base and Size have 256 MiB granularity. -/
def execHdmDecoderCommit (p d base size ways gran : Nat) (targets : List Nat) (commit : Bool) (s : State) :
    Host.Outcome State Fault Refusal :=
  let k := 16 * p + d
  let h : Hdm := { base := base / 2 ^ 28 * 2 ^ 28, size := size / 2 ^ 28 * 2 ^ 28, ways := ways, gran := gran,
                   targets := targets }
  let bad := s.rdb fXLT_HDMX_FAB k && decide (ways ≠ 1 ∨ 2 ^ 52 < s.rd fXLT_HDMX_FABBASE k * 2 ^ 28 + h.size)
  let h := if commit then { h with committed := !bad, errNC := bad } else h
  onUnit (decide (p < 64 ∧ d < 16))
    (s.onTile (tileOfPort p)
    (if s.upstream p then { s with xlt := { s.xlt with hdm := SMap.set {} s.xlt.hdm k h } } else s))

/-- A host's decoder registers cleared by a reset of its upstream port (R268). -/
def State.hdmClear (s : State) (p : Nat) : State :=
  { s with xlt := { s.xlt with hdm := s.xlt.hdm.keep fun k _ => k / 16 != p } }

/-- The whole extents of `len` bytes from `dpa` on, as DPA [51:28]. -/
def wholeExtents (dpa len : Nat) : List Nat :=
  let first := ceilDiv dpa (2 ^ 28)
  (List.range ((dpa + len) / 2 ^ 28 - first)).map (first + ·)

/-- Map entries not FREE that point into extent `x` of LD `ld` at port `p`. -/
def State.pointing (s : State) (p ld x : Nat) : List Nat :=
  (s.xlt.map.filter fun e => eState e.2 != 0 && eDcd e.2 && eTport e.2 == p && eDpa e.2 == x
    && (if eMld e.2 then eTld e.2 else 0) == ld).map (·.1)

/-- ADD_DYNAMIC_CAPACITY: an extent that a pool device offers is accepted where it is whole units of 256 MiB, else rejected; with a
device bound to a vPPB the ZL-80 takes no part (R274). -/
def execAddDynamicCapacity (p ld dpa len : Nat) (s : State) : Host.Outcome State Fault Refusal :=
  let parts := if dpa % 2 ^ 28 = 0 ∧ len % 2 ^ 28 = 0 then wholeExtents dpa len else []
  onUnit (decide (p < 64 ∧ ld < 16))
    (if s.isPool p then
      (s.poolMod p fun d => { d with dcd := d.dcd ++ (parts.map fun x => (ld, x)).filter fun e => !d.dcd.contains e }).send
        (.dcd p ld parts)
    else s)

/-- DCD_RELEASE_REQUEST: whole parts of 256 MiB that no entry points into are released, and only those named, where the device serves the
pool (R274). -/
def execDcdReleaseRequest (p ld dpa len : Nat) (s : State) : Host.Outcome State Fault Refusal :=
  let d := s.poolDev p
  let go := (wholeExtents dpa len).filter fun x => d.dcd.contains (ld, x) && (s.pointing p ld x).isEmpty
  onUnit (decide (p < 64 ∧ ld < 16))
    (if s.isPool p then
      (s.poolMod p fun d => { d with dcd := d.dcd.filter fun e => !(e.1 == ld && go.contains e.2) }).send (.dcd p ld go)
    else s)

/-- DCD_FORCED_REMOVAL: capacity is gone; entries into it turn RELEASING and the forced-release source is raised
(R274). -/
def execDcdForcedRemoval (p ld dpa len : Nat) (s : State) : Host.Outcome State Fault Refusal :=
  let x0 := dpa / 2 ^ 28
  let gone := (List.range (ceilDiv (dpa + len) (2 ^ 28) - x0)).map (x0 + ·)
  let hit := gone.flatMap fun x => s.pointing p ld x
  let s1 := s.poolMod p fun d => { d with dcd := d.dcd.filter fun e => !(e.1 == ld && gone.contains e.2) }
  let s2 := s1.each (hit.filter fun i => eState (s.entry i) != 3) fun s i =>
    State.releasing { s with xlt := { s.xlt with
      waits := s.xlt.waits.filter fun w => w.idx != i, timed := s.xlt.timed.filter fun t => !(t.idx == i && t.own) } } i
  onUnit (decide (p < 64 ∧ ld < 16)) (if hit.isEmpty then s1 else s2.mapQueued.pulse 0x1C1)

/-! ### Window commits (R278 to R280) -/

/-- The active copy of port `p`'s windows exchanged with the shadow (R278). -/
def State.winSwap (s : State) (p : Nat) : State :=
  let old := s.rd fXLT_WSTAT_GEN p
  let is := ((s.listed fXLT_WINSH_WORD ++ s.listed fXLT_WINACT_WORD).filter fun i => i / 1024 == p).eraseDups
  let s := s.each is fun s i =>
    let (a, b) := (s.rd fXLT_WINACT_WORD i, s.rd fXLT_WINSH_WORD i)
    (s.wr fXLT_WINACT_WORD i b).wr fXLT_WINSH_WORD i a
  let s := ((s.wr fXLT_WSTAT_GEN p (1 - old)).wrb fXLT_WSTAT_BUSY p true).wrb fXLT_WSTAT_PEND p false
  s.wrb fXLT_WSTAT_DRAIN p (s.winCount p old != 0)

/-- A GO takes effect, or is held while DRAIN or BUSY reads 1 (R279). -/
def State.winGo (s : State) (p : Nat) : State :=
  if s.rdb fXLT_WSTAT_DRAIN p || s.rdb fXLT_WSTAT_BUSY p then s.wrb fXLT_WSTAT_PEND p true else s.winSwap p

/-- A held GO takes effect where nothing holds it any longer. -/
def State.winHeld (s : State) (p : Nat) : State := if s.rdb fXLT_WSTAT_PEND p then s.winGo p else s

/-- WINDOW_COMMIT: XLT_WCOMMITp is written (R278 to R280).  A timed GO waits as a pending configuration epoch, with
any that a port has waiting already. -/
def execWindowCommit (p val : Nat) (s : State) : Host.Outcome State Fault Refusal :=
  let t := applyTime (s.rd fXLT_WCTIME_NS_NS 0) (s.rd fXLT_WCTIME_SECL_SECL 0) (s.rd fXLT_WCTIME_SECH_SECH 0)
  onUnit (decide (p < 64 ∧ val < 2 ^ 32))
    (s.onTile (tileOfPort p)
    (if bitsOf val 24 8 ≠ 0xE1 ∨ ¬ bitOf val 0 ∨ s.rdb fXLT_WSTAT_PEND p then s
    else if ¬ bitOf val 1 ∨ t ≤ s.ft.now then s.winGo p
    else if s.ft.now + 86400 * nsPerSec < t then s.cfgErr 11
    else if 256 < s.claims + 1 then s.conflict 3 (ceilDiv (s.claims + 1) 4) 0
    else { s with xlt := { s.xlt with winAt := s.xlt.winAt ++ [{ at_ := t, port := p, seq := s.headSeq }] } }))

/-- A timed window commit takes effect at its apply time, or is held (R280). -/
def State.applyWindow (s : State) (w : TimedWin) : State :=
  State.winGo { s with xlt := { s.xlt with winAt := s.xlt.winAt.erase w } } w.port

/-- WINDOW_SHADOW_REFRESHED: the shadow again equals the active copy (R278). -/
def execWindowShadowRefreshed (p : Nat) (s : State) : Host.Outcome State Fault Refusal :=
  let is := ((s.listed fXLT_WINSH_WORD ++ s.listed fXLT_WINACT_WORD).filter fun i => i / 1024 == p).eraseDups
  let t := s.each is fun s i => s.wr fXLT_WINSH_WORD i (s.rd fXLT_WINACT_WORD i)
  onUnit (decide (p < 64)) (if s.rdb fXLT_WSTAT_BUSY p then (t.wrb fXLT_WSTAT_BUSY p false).winHeld p else s)

/-- WINDOW_DRAIN_END: nothing that the old copy translated is in flight (R279). -/
def execWindowDrainEnd (p : Nat) (s : State) : Host.Outcome State Fault Refusal :=
  onUnit (decide (p < 64))
    (if s.rdb fXLT_WSTAT_DRAIN p ∧ s.winCount p (1 - s.rd fXLT_WSTAT_GEN p) = 0 then
      (s.wrb fXLT_WSTAT_DRAIN p false).winHeld p
    else s)

/-- What warm and tile resets do to translation (R281): nothing is in flight any more, so drains end, entries that were
RELEASING are FREE, and zeroing starts again. -/
def State.xltReset (s : State) : State :=
  let s := s.each (s.xlt.relNow ++ s.xlt.relNext) fun s i => s.entryTo i 0
  let s := s.wrb fXLT_MAPSTAT_DRAIN 0 false
  let s := { s with xlt := { s.xlt with relNow := [], relNext := [] } }
  s.each (List.range 64) fun s p => s.when_ (s.rdb fXLT_WSTAT_DRAIN p) fun s => (s.wrb fXLT_WSTAT_DRAIN p false).winHeld p

end Sys2Proof.Machine
end

