-- ==== Sys2Proof/Machine/Chk.lean ====
section
/-! DEFINITION. Check gates (R283 to R298): rules, the verdict on an access, denials, and rule epochs. -/

namespace Sys2Proof.Machine

/-! ### Rules (R285) -/

/-- START of a rule, as a 64-byte block number. -/
def rStart (r : Nat) : Nat := bitsOf r 6 58
/-- END of a rule, the last block. -/
def rEnd (r : Nat) : Nat := bitsOf r 70 58
/-- VALID. -/
def rValid (r : Nat) : Bool := bitOf r 128
/-- RD. -/
def rRd (r : Nat) : Bool := bitOf r 129
/-- WR. -/
def rWr (r : Nat) : Bool := bitOf r 130
/-- LOCK. -/
def rLock (r : Nat) : Bool := bitOf r 131
/-- SPACE. -/
def rSpace (r : Nat) : Bool := bitOf r 132
/-- CLS. -/
def rCls (r : Nat) : Nat := bitsOf r 133 5
/-- SEL. -/
def rSel (r : Nat) : Nat := bitsOf r 138 2
/-- PAIRAT. -/
def rPairAt (r : Nat) : Bool := bitOf r 140
/-- EARLYACK. -/
def rEarlyAck (r : Nat) : Bool := bitOf r 141
/-- DEVREG. -/
def rDevReg (r : Nat) : Bool := bitOf r 142
/-- WTO. -/
def rWto (r : Nat) : Nat := bitsOf r 148 8
/-- ARG. -/
def rArg (r : Nat) : Nat := bitsOf r 160 13
/-- TNODE. -/
def rTnode (r : Nat) : Nat := bitsOf r 176 4
/-- TLAST. -/
def rTlast (r : Nat) : Nat := bitsOf r 192 13
/-- A reserved field of a rule is not 0. -/
def rReserved (r : Nat) : Bool :=
  bitsOf r 0 6 != 0 || bitsOf r 64 6 != 0 || bitsOf r 143 5 != 0 || bitsOf r 156 4 != 0 || bitsOf r 173 3 != 0
    || bitsOf r 180 12 != 0 || bitsOf r 205 19 != 0 || bitsOf r 224 32 != 0

/-- The rules of a copy of gate `g`, as (number, rule). -/
def rulesOf (m : SMap Nat) (g : Nat) : List (Nat × Nat) :=
  (m.filter fun e => e.1 / 4096 == g).map fun e => (e.1 % 4096, e.2)

/-- The rule of a copy that decides block `b` in a space: the valid one with the highest number (R288, R289). -/
def ruleAt (m : SMap Nat) (g : Nat) (space : Bool) (b : Nat) : Option (Nat × Nat) :=
  (rulesOf m g).foldl (fun best e =>
    if rValid e.2 && rSpace e.2 == space && decide (rStart e.2 ≤ b ∧ b ≤ rEnd e.2) then some e else best) none

/-! ### The verdict (R286, R287) -/

/-- Who makes an access and what it asks (R284): class, node, port, tenant, read, write. -/
structure Who where
  cls : Nat
  node : Nat
  port : Nat
  tenant : Nat
  rd : Bool
  wr : Bool
  deriving DecidableEq, Repr

/-- Who makes the access of message `m`. -/
def whoOf (m : Msg) : Who :=
  { cls := m.cls, node := m.snode, port := m.entered % 64, tenant := m.tenant, rd := m.isRead, wr := m.isWrite }

/-- The initiator test of rule `r` (R286). -/
def State.ruleMatch (s : State) (r : Nat) (w : Who) : Bool :=
  bitOf (rCls r) w.cls &&
    (if 2 ≤ w.cls then true
    else if rSel r = 0 then true
    else if w.cls = 0 then
      (if rSel r = 1 then rArg r % 64 == w.port && bitsOf (rArg r) 6 4 == w.node
       else rSel r == 2 && s.inGroup (rArg r % 256) w.node w.port)
    else rSel r == 3 && rTnode r == w.node && decide (rArg r ≤ w.tenant ∧ w.tenant ≤ rTlast r))

/-- The lifecycle state is Open or Retired (R481); an access in the cycle in which the Open duration expires comes after the expiry
(R482). -/
def State.opened (s : State) : Bool :=
  (s.rd fBOOT_STAT_LC 0 == 1 && decide (s.pwr.ns < s.boot.openEnd)) || s.rd fBOOT_STAT_LC 0 == 2

/-- The verdict of gate `g` on one block (R287): the reason of the first check that fails, 0 where none does, with the
deciding rule. -/
def State.verdict (s : State) (g : Nat) (space : Bool) (b : Nat) (w : Who) : Nat × Option Nat :=
  if s.rdb fCHK_GATE_FAILED g then (6, none)
  else match ruleAt s.chk.active g space b with
    | none => (if s.rdb fCHK_GATE_MISS g then 0 else 1, none)
    | some (n, r) =>
      (if ¬ s.ruleMatch r w then 2
      else if w.cls = 4 ∧ rLock r ∧ ¬ s.opened then 5
      else if w.rd ∧ ¬ rRd r then 3
      else if w.wr ∧ ¬ rWr r then 4 else 0, some n)

/-! ### Denials (R291, R292) -/

/-- A denied access or part of gate `g`: counted, recorded and raised (R292). -/
def State.chkDeny (s : State) (g reason : Nat) (rule : Option Nat) (w : Who) (addr : Nat) : State :=
  let s := (s.inc fCHK_ERR_DENY 0).inc fCHK_GATE_DENIES g
  let s := (((s.wr fCHK_DENY_GATE 0 g).wr fCHK_DENY_RULE 0 (rule.getD 0)).wrb fCHK_DENY_NORULE 0 rule.isNone).wr
    fCHK_DENY_REASON 0 reason
  let s := ((s.wr fCHK_DENY_CLASS 0 w.cls).wr fCHK_DENY_NODE 0 w.node).wrb fCHK_DENY_VALID 0 true
  let s := s.wr2 fCHK_DENYADDR_L_ADDR_L fCHK_DENYADDR_H_ADDR_H 0 addr
  let s := (s.wr fCHK_DENYID_PORT 0 (if w.cls = 0 then w.port else 0)).wr fCHK_DENYID_TENANT 0
    (if w.cls = 1 then w.tenant else 0)
  s.pulse 0x1C8

/-- A reason-5 denial entered in the debug log (R291); `dict` tells the dictionary's path from JTAG's. -/
def State.debugDenied (s : State) (g rule addr : Nat) (write dict : Bool) : State :=
  let j := s.rd fCHK_DBGPTR_NEXT 0
  let s := ((s.wr fCHK_DBGLOG_NS j s.ftNs).wr fCHK_DBGLOG_SECL j s.ftSec).wr fCHK_DBGLOG_SECH j (s.ftSec / 2 ^ 32)
  let s := ((s.wr fCHK_DBGLOG_GATE j g).wrb fCHK_DBGLOG_WRITE j write).wrb fCHK_DBGLOG_PATH j dict
  let s := ((s.wrb fCHK_DBGLOG_VALID j true).wr fCHK_DBGLOG_RULE j rule).wr2 fCHK_DBGLOG_ADDR_L fCHK_DBGLOG_ADDR_H j addr
  (s.wr fCHK_DBGPTR_NEXT 0 (j + 1)).pulse 0x1C9

/-- The parts of an access of `n` bytes from `addr` on, as (offset, bytes, reason, rule): block by block, joined while
the deciding rule is the same (R290). -/
def State.chkParts (s : State) (g : Nat) (space : Bool) (w : Who) (addr n : Nat) : List (Nat × Nat × Nat × Option Nat) :=
  let first := addr / 64
  let last := (addr + max 1 n - 1) / 64
  ((List.range (last + 1 - first)).map (first + ·)).foldl
    (fun ps b =>
      let lo := max (64 * b) addr - addr
      let hi := min (64 * b + 64) (addr + max 1 n) - addr
      let (v, r) := s.verdict g space b w
      match ps.getLast? with
      | some (k, c, v', r') => if r' = r then ps.dropLast ++ [(k, c + (hi - lo), v', r')] else ps ++ [(lo, hi - lo, v, r)]
      | none => [(lo, hi - lo, v, r)]) []

/-- A debug access that a gate denies is marked with its initiator, the dictionary or the TAP (TAG bit 62). -/
def State.debugMark (s : State) (m : Msg) : State :=
  if bitOf m.tag 62 then { s with tap := { s.tap with denied := true } } else s.tndMod fun t => { t with denied := true }

/-- Every denied part counted and recorded, with its event at the gate (R292, R437). -/
def State.denyParts (s : State) (g : Nat) (m : Msg) (ps : List (Nat × Nat × Nat × Option Nat)) (dict : Bool) : State :=
  let w := whoOf m
  s.each (ps.filter fun p => p.2.2.1 != 0) fun s (k, n, v, r) =>
    let s := s.chkDeny g v r w (m.tgt + k)
    let s := if v = 5 then s.debugDenied g (r.getD 0) (m.tgt + k) w.wr (if g < 64 then !bitOf m.tag 62 else dict) else s
    let s := s.when_ (w.cls == 4) fun s => s.debugMark m
    let part := m.cut k n
    if g < 64 then s.countMsg 0x04 (g / 16) g part else s.countMsg 0x33 6 0 part

/-- A request that gate `g` checks, as it leaves port `g` (R283). -/
def gateChecks (m : Msg) : Bool := decide (m.grp < 3)

/-- The 16 bytes of a request with the pair mark as two of 8 (R316). -/
def pairHalves (m : Msg) : List Msg :=
  if m.isIo then [m.cut 0 8, m.cut 8 8]
  else if m.isRead then [{ m with ncnt := 8 }, { m with addr := m.addr + 8, tgt := m.tgt + 8, ncnt := 8 }]
  else
    let half := (List.range 64).foldl (fun a i => if bitOf m.be i ∧ i % 16 < 8 then a + 2 ^ i else a) 0
    [{ m with be := half }, { m with be := m.be - half }]

/-- The deciding rules of every part have PAIRAT (R316). -/
def State.pairAt (s : State) (g : Nat) (ps : List (Nat × Nat × Nat × Option Nat)) : Bool :=
  ps.all fun p => match p.2.2.2 with
    | some n => rPairAt (SMap.get 0 s.chk.active (4096 * g + n))
    | none => false

/-- What the requester of `m` gets that a port's gate has denied (R292): a home access fails at its slice (R228), the Tender's own and
debug requests are completed back to the Tender, and any other as R265 has it. -/
def State.gateReply (s : State) (m : Msg) : State :=
  if m.snode = s.ownNode ∧ 0x40 ≤ m.src ∧ m.src < 0x50 then s
  else if m.snode = s.ownNode ∧ m.src = 0x7F then
    (if m.wantsReply then
      (match m.kind with
        | .memReq | .wmReq => s.injectTo 92 (m.answer .sc true) [92]
        | .memRwd | .wmReqData => s.injectTo 92 (m.answer .sc false) [92]
        | _ => s.injectTo 92 (m.answer .ur false) [92])
    else s)
  else s.denyReply m

/-- The check of message `m` at port gate `g` (R287, R290, R292, R316, R317): what passes, and the state with the denials
recorded and denied requests completed. -/
def State.gateCheck (s : State) (g : Nat) (m : Msg) : List Msg × State :=
  if ¬ gateChecks m then ([m], s) else
  let ps := if m.isIo then s.chkParts g false (whoOf m) m.tgt (spanBytes m) else s.chkParts g false (whoOf m) (m.tgt / 64 * 64) 64
  let m0 := if m.isIo then m else { m with tgt := m.tgt / 64 * 64 }
  let bad := ps.any fun p => p.2.2.1 != 0
  if ¬ bad then
    (if m.pair && !s.pairAt g ps then (if m.act = .atomic then [] else pairHalves m) else [m], s)
  else
    let s := s.denyParts g m0 ps false
    if m.isIo ∧ m.isWrite ∧ ¬ m.isRead then
      ((ps.filter fun p => p.2.2.1 == 0).map fun p => { m.cut p.1 p.2.1 with mute := true }, s.gateReply m)
    else ([], s.gateReply m)

/-- The check at the internal gate of a request of the Tender or a debug initiator, or of a register access (R283):
whether it passes, and its reason. -/
def State.innerCheck (s : State) (space : Bool) (m : Msg) (n : Nat) (dict : Bool) : Nat × State :=
  let ps := s.chkParts 64 space (whoOf m) m.tgt n
  ((ps.find? fun p => p.2.2.1 != 0).map (·.2.2.1) |>.getD 0, s.denyParts 64 m ps dict)

/-! ### The Tender's own writes and enumeration (R263, R270, R283, R292) -/

/-- The first of the `n` blocks from `b` on that gate `g` denies to `w`, with its reason and rule: a verdict changes only where a rule
starts or has ended (R288). -/
def State.firstDenied (s : State) (g b n : Nat) (w : Who) : Option (Nat × Nat × Option Nat) :=
  let edges := ((rulesOf s.chk.active g).flatMap fun e => [rStart e.2, rEnd e.2 + 1]).filter fun x => decide (b < x ∧ x < b + n)
  (b :: sortBy id edges).findSome? fun x =>
    let (v, r) := s.verdict g false x w
    if v = 0 then none else some (x, v, r)

/-- The zeroing write of the first line of entry `i`'s extent, as a full-line write of the Tender (R270). -/
def State.zeroMsg (s : State) (i : Nat) : Msg :=
  let a := s.ownSpan.getD 0 * 2 ^ 46 + i * 2 ^ 28
  { kind := .memRwd, act := .write, op := 4, node := s.ownNode, snode := s.ownNode, src := 0x7F, tag := zeroTag i, len := 80,
    addr := a, tgt := a, be := 2 ^ 64 - 1 }

/-- The zeroing writes of entry `i` put to gate `g`, from address `a` on: whether all pass, and the denial of the first that does not. -/
def State.zeroGate (s : State) (g i a : Nat) : Bool × State :=
  let m := { s.zeroMsg i with tgt := a }
  match s.firstDenied g (a / 64) (2 ^ 22) (whoOf m) with
  | some (x, v, r) => (false, s.denyParts g { m with tgt := 64 * x } [(0, 64, v, r)] true)
  | none => (true, s)

/-- The zeroing writes of entry `i` on their way (R266, R270, R283): the internal gate by fabric address, the map's own check, the pool
port's link, and the gate of that port by DPA.  One command stands for them all (log entry 123). -/
def State.zeroWrites (s : State) (i : Nat) : Bool × State :=
  let m := s.zeroMsg i
  let (ok, s) := s.zeroGate 64 i m.addr
  if ¬ ok then (false, s)
  else match s.allot m m.addr with
    | .send n => if s.dlUp n.dest then s.zeroGate n.dest i n.tgt else (false, s)
    | .deny reason at_ => (false, s.xltRecord m reason at_)
    | .lost => (false, s)

/-- ZEROING_DONE: the last zeroing write of an extent has completed, or one of them has failed (R270): `ok` says how those end that
nothing here stops. -/
def execZeroingDone (idx : Nat) (ok : Bool) (s : State) : Host.Outcome State Fault Refusal :=
  let (sent, t) := s.zeroWrites idx
  onUnit (decide (idx < 2 ^ 18))
    (if s.xlt.waits.any fun w => w.idx == idx && w.zeroing then t.zeroed idx (sent && ok) else s)

/-- HDM_COMMIT_DONE: enumeration of the pool device at port `p` has committed its decoders; `caps` gives the capacity of
each LD in extents (R263).  Its configuration requests are Tender accesses, and the port's gate checks them (R283, R284). -/
def execHdmCommitDone (p : Nat) (mld : Bool) (caps : List Nat) (s : State) : Host.Outcome State Fault Refusal :=
  let a := (Config.enumAddr p).toNat
  let m : Msg := { kind := .ioNonPosted, act := .cfgWrite, node := s.ownNode, snode := s.ownNode, src := 0x7F, dest := p, addr := a, tgt := a }
  let (v, r) := s.verdict p false (a / 64) (whoOf m)
  onUnit (decide (p < 64))
    (if ¬ (s.isPool p ∧ s.dlUp p) then s
    else if v ≠ 0 then s.denyParts p m [(0, 4, v, r)] true
    else s.poolMod p fun d => { d with committed := true, mld := mld, caps := caps })

/-! ### Validation (R288, R289) -/

/-- What rule `r` of gate `g` breaks, as CHK_LOADSTAT.RESULT; 0 for nothing. -/
def ruleBad (g r : Nat) : Nat :=
  if ¬ rValid r then 0
  else if rEnd r < rStart r then 4
  else if rReserved r then 5
  else if rSpace r ∧ g < 64 then 6
  else if rSel r = 3 ∧ rTlast r < rArg r then 7 else 0

/-- The first pair of valid rules that overlap. -/
def overlapIn : List (Nat × Nat) → Option (Nat × Nat)
  | [] => none
  | (a, ra) :: rest =>
    match rest.find? fun e => rValid ra && rValid e.2 && rSpace ra == rSpace e.2
        && decide (rStart ra ≤ rEnd e.2 ∧ rStart e.2 ≤ rEnd ra) with
    | some (b, _) => some (a, b)
    | none => overlapIn rest

/-- The first failure of a rule set of gate `g`, as (RESULT, RULEA, RULEB): rules in order, then overlaps. -/
def setBad (g : Nat) (rs : List (Nat × Nat)) (preced : Bool) : Option (Nat × Nat × Nat) :=
  match rs.find? fun e => ruleBad g e.2 != 0 with
  | some (n, r) => some (ruleBad g r, n, 0)
  | none => if preced then none else (overlapIn rs).map fun (a, b) => (3, a, b)

/-- Precedence mode (R289). -/
def State.preced (s : State) : Bool := s.rdb fCHK_CTL_PRECED 0

/-- The first failure among the staged sets of `gs`. -/
def State.stagedBad (s : State) (gs : List Nat) : Option (Nat × Nat × Nat × Nat) :=
  gs.findSome? fun g => (setBad g (rulesOf s.chk.staged g) s.preced).map fun f => (g, f)

/-- The refusal recorded in CHK_LOADERR. -/
def State.loadErr (s : State) (g a b : Nat) : State :=
  ((s.wr fCHK_LOADERR_GATE 0 g).wr fCHK_LOADERR_RULEA 0 a).wr fCHK_LOADERR_RULEB 0 b

/-! ### Commits (R293 to R295) -/

/-- A pending commit, or one being validated, names gate `g`. -/
def State.gateTaken (s : State) (g : Nat) : Bool :=
  (s.chk.pend.any fun c => c.gates.contains g) || (match s.chk.checking with | some c => c.gates.contains g | none => false)

/-- Staging writes of gate `g` are discarded (R293, R294). -/
def State.stagingShut (s : State) (g : Nat) : Bool := s.gateTaken g || s.rdb fCHK_GATE_SBUSY g

/-- The gates of CHK_CMASK. -/
def State.maskGates (s : State) : List Nat :=
  (List.range 65).filter fun g => bitOf (s.rd fCHK_CMASK_GATES (g / 32)) (g % 32)

/-- Accesses of gate `g` checked under the set before the last swap and still in flight (R294): at a port what it sends, for a check is
made as its message starts to leave; at the internal gate what waits to enter the core. -/
def State.oldSet (s : State) (g : Nat) : Nat :=
  let old := some (1 - s.rd fCHK_GATE_EPOCH g)
  if g < 64 then
    match SMap.get none s.swc.sending g with
    | some sn => if sn.chk = old then 1 else 0
    | none => 0
  else (s.swc.waiting.filter fun w => w.1 == 92 && w.2.1.chk == old).length

/-- The rules of gate `g` in copy `m` replaced by `rs`. -/
def putRules (m : SMap Nat) (g : Nat) (rs : List (Nat × Nat)) : SMap Nat :=
  rs.foldl (fun m e => SMap.set 0 m (4096 * g + e.1) e.2) (m.keep fun k _ => k / 4096 != g)

/-- NRULES brought up to date. -/
def State.countRules (s : State) (g : Nat) : State :=
  s.wr fCHK_GATE_NRULES g ((rulesOf s.chk.active g).filter fun e => rValid e.2).length

/-- Gate `g` swaps its copies (R294). -/
def State.gateSwap (s : State) (g : Nat) : State :=
  let (a, b) := (rulesOf s.chk.active g, rulesOf s.chk.staged g)
  let s : State := { s with chk := { s.chk with active := putRules s.chk.active g b, staged := putRules s.chk.staged g a } }
  let (m, n) := (s.rd fCHK_GATE_MISS g, s.rd fCHK_GATE_SMISS g)
  let s := ((s.wr fCHK_GATE_MISS g n).wr fCHK_GATE_SMISS g m).wr fCHK_GATE_EPOCH g (1 - s.rd fCHK_GATE_EPOCH g)
  let s := ((s.wrb fCHK_GATE_SBUSY g true).wrb fCHK_GATE_FAILED g false).wrb fCHK_GATE_PEND g false
  (s.wrb fCHK_GATE_DRAIN g (s.oldSet g != 0)).countRules g

/-- PENDCNT brought up to date. -/
def State.pendCount (s : State) : State := s.wr fCHK_LOADSTAT_PENDCNT 0 s.chk.pend.length

/-- A due commit takes effect on every gate of its mask, whose ports then have their tables (R74), or waits while one of
them drains (R295). -/
def State.commitDue (s : State) (c : ChkCommit) : State :=
  if c.gates.any fun g => s.rdb fCHK_GATE_DRAIN g then s.each c.gates fun s g => s.wrb fCHK_GATE_PEND g true
  else
    let s : State := { s with chk := { s.chk with pend := s.chk.pend.filter (· != c) } }
    ((s.each c.gates State.gateSwap).each (c.gates.filter (· < 64)) State.tabled).pendCount

/-- Every commit due by `by_` acts or waits, in order of acceptance. -/
def State.commitsDue (s : State) (by_ : Nat) : State :=
  s.each (s.chk.pend.filter fun c => match c.at_ with | none => true | some t => decide (t ≤ by_)) State.commitDue

/-- CHK_RULE_STORE: CHK_RDATA7 is written, and all eight words go into the selected staging rule (R298). -/
def execChkRuleStore (val : Nat) (s : State) : Host.Outcome State Fault Refusal :=
  let g := s.rd fCHK_RSEL_GATE 0
  let n := s.rd fCHK_RSEL_RULE 0
  let t := s.wr fCHK_RDATA_DATA 7 val
  let r := ((List.range 8).map fun i => t.rd fCHK_RDATA_DATA i * 2 ^ (32 * i)).sum
  onUnit (decide (val < 2 ^ 32))
    (if s.rdb fCHK_RSEL_COPY 0 || s.stagingShut g then s.cfgErr 13
    else { t with chk := { t.chk with staged := SMap.set 0 t.chk.staged (4096 * g + n) r } })

/-- CHK_STAGING_CLEAR: CHK_SCLR is written (R298). -/
def execChkStagingClear (val : Nat) (s : State) : Host.Outcome State Fault Refusal :=
  let g := bitsOf val 0 7
  onUnit (decide (val < 2 ^ 32))
    (if bitsOf val 24 8 ≠ 0x5C ∨ 64 < g then s
    else if s.stagingShut g then s.cfgErr 13
    else { s with chk := { s.chk with staged := putRules s.chk.staged g [] } })

/-- The apply time in CHK_CTIME, in nanoseconds. -/
def State.chkTime (s : State) : Nat :=
  applyTime (s.rd fCHK_CTIME_NS_NS 0) (s.rd fCHK_CTIME_SECL_SECL 0) (s.rd fCHK_CTIME_SECH_SECH 0)

/-- The tag of the next commit: the first from the one after the last commit's on that no pending commit has (R293). -/
def State.freeTag (s : State) : Nat :=
  (((List.range 16).map fun i => (s.chk.nextTag + i) % 16).find? fun t => s.chk.pend.all fun c => c.tag != t).getD 0

/-- CHK_COMMIT: CHK_CMD written with OP commit (R293): validation begins, or the command is refused. -/
def execChkCommit (val : Nat) (s : State) : Host.Outcome State Fault Refusal :=
  let gs := s.maskGates
  let timed := bitOf val 2
  let res := fun (s : State) (n : Nat) => s.wr fCHK_LOADSTAT_RESULT 0 n
  onUnit (decide (val < 2 ^ 32))
    (if bitsOf val 24 8 ≠ 0x5C ∨ bitsOf val 0 2 ≠ 1 then s
    else if s.chk.checking.isSome then s
    else if 16 ≤ s.chk.pend.length ∨ gs.any s.gateTaken then res s 1
    else if timed ∧ s.ft.now + 86400 * nsPerSec < s.chkTime then res s 8
    else if timed ∧ 256 < s.claims + 1 then s.conflict 3 (ceilDiv (s.claims + 1) 4) 0
    else
      State.wrb { s with chk := { s.chk with
        checking := some { tag := s.freeTag, gates := gs, at_ := if timed then some s.chkTime else none } } }
        fCHK_LOADSTAT_BUSY 0 true)

/-- CHK_VALIDATION_DONE: validation ends, and the commit becomes pending or is refused (R293). An untimed commit takes
effect at once; a timed one claims its comparator now, and is refused where none is free any longer (R35). -/
def execChkValidationDone (s : State) : Host.Outcome State Fault Refusal :=
  match s.chk.checking with
  | none => .next s
  | some c =>
    let t : State := State.wrb { s with chk := { s.chk with checking := none } } fCHK_LOADSTAT_BUSY 0 false
    match s.stagedBad c.gates with
    | some (g, r, a, b) => .next ((t.wr fCHK_LOADSTAT_RESULT 0 r).loadErr g a b)
    | none =>
      if c.at_.isSome ∧ 256 < t.claims + 1 then .next (t.conflict 3 (ceilDiv (t.claims + 1) 4) 0) else
      let u : State := { t with chk := { t.chk with pend := t.chk.pend ++ [c], nextTag := (c.tag + 1) % 16 } }
      let u := ((u.wr fCHK_LOADSTAT_RESULT 0 2).wr fCHK_LOADSTAT_TAG 0 c.tag).pendCount
      .next (if c.at_.isNone then u.commitDue c else u)

/-- CHK_WITHDRAW: CHK_CMD written with OP withdraw (R293). -/
def execChkWithdraw (val : Nat) (s : State) : Host.Outcome State Fault Refusal :=
  let c := s.chk.pend.find? fun c => c.tag == bitsOf val 4 4
  onUnit (decide (val < 2 ^ 32))
    (if bitsOf val 24 8 ≠ 0x5C ∨ bitsOf val 0 2 ≠ 2 then s
    else if s.chk.checking.isSome then s
    else match c with
      | none => s.wr fCHK_LOADSTAT_RESULT 0 9
      | some c =>
        let s : State := { s with chk := { s.chk with pend := s.chk.pend.filter (· != c) } }
        ((s.each c.gates fun s g => s.wrb fCHK_GATE_PEND g false).wr fCHK_LOADSTAT_RESULT 0 2).pendCount)

/-- CHK_DRAIN_END: no access of gate `g` checked under the old set is in flight (R295). -/
def execChkDrainEnd (g : Nat) (s : State) : Host.Outcome State Fault Refusal :=
  onUnit (decide (g < 65))
    (if s.rdb fCHK_GATE_DRAIN g ∧ s.oldSet g = 0 then (s.wrb fCHK_GATE_DRAIN g false).commitsDue s.ft.now else s)

/-- CHK_STAGING_REWRITE_DONE: the staging copy equals the active copy again (R294). -/
def execChkStagingRewriteDone (g : Nat) (s : State) : Host.Outcome State Fault Refusal :=
  let t : State := { s with chk := { s.chk with staged := putRules s.chk.staged g (rulesOf s.chk.active g) } }
  onUnit (decide (g < 65))
    (if s.rdb fCHK_GATE_SBUSY g then (t.wr fCHK_GATE_SMISS g (s.rd fCHK_GATE_MISS g)).wrb fCHK_GATE_SBUSY g false else s)

/-- An error in gate `g`'s rules (R296): 1 corrected; 2 uncorrectable in a working copy, which is reloaded;
3 uncorrectable in the master, which fails the gate closed. -/
def State.gateError (s : State) (g err : Nat) : State :=
  if err = 1 then s.inc fCHK_ERR_ECCCOR 0
  else if err = 3 then
    (((s.wrb fCHK_GATE_FAILED g true).wr fCHK_ERR_GATEFLT 0 g).wrb fCHK_ERR_FLTVALID 0 true).pulse 0x1CA
  else s

/-- CHK_SCRUB: the scrub reads gate `g`'s copies and meets error `err` (R296); a tile copy that differs is reloaded. -/
def execChkScrub (g err : Nat) (s : State) : Host.Outcome State Fault Refusal :=
  onUnit (decide (g < 65 ∧ err < 4)) (s.gateError g err)

/-- The staged sets become the active ones at the end of an image stage (R297); none where a set is refused. -/
def State.chkImage (s : State) : Option State :=
  if (s.stagedBad (List.range 65)).isSome then none
  else
    let s : State := { s with chk := { s.chk with active := s.chk.staged } }
    some (s.each (List.range 65) fun s g =>
      ((s.wr fCHK_GATE_MISS g (s.rd fCHK_GATE_SMISS g)).wrb fCHK_GATE_FAILED g false).countRules g)

/-- No access that gates `gs` admitted is in flight any longer: each drain ends, and what waited for it acts (R295, R297). -/
def State.gatesDrained (s : State) (gs : List Nat) : State :=
  (s.each gs fun s g => s.wrb fCHK_GATE_DRAIN g false).commitsDue s.ft.now

/-- Warm reset: no access is in flight any longer (R297). -/
def State.chkReset (s : State) : State := s.gatesDrained (List.range 65)

end Sys2Proof.Machine
end

