-- ==== Sys2Proof/Machine/Log.lean ====
section
/-! DEFINITION. Dirty-page logging (R361 to R363): marking pages, the log cache and its write-backs; and the VF of an
instance with its interrupts. -/

namespace Sys2Proof.Machine

/-! ### An instance and its VF (R346) -/

/-- The port and VF number of instance `ti`, where it lies in a block. -/
def State.vfOf (s : State) (ti : Nat) : Option (Nat × Nat) :=
  (s.portOfTenant ti).map fun p => (p, ti - 64 * s.rd fPRT_TIBLK_BASE p + 1)

/-- The instance that is VF `j` of port `p` (R346). -/
def State.tiOf (s : State) (p j : Nat) : Nat := 64 * s.rd fPRT_TIBLK_BASE p + (j - 1)

/-- An instance that its host can reach: VF Enable is 1 and NumVFs covers it (R346). -/
def State.vfLive (s : State) (ti : Nat) : Bool :=
  match s.vfOf ti with
  | some (p, j) => (SMap.get {} s.ten.vfs p).enable && decide (j ≤ (SMap.get {} s.ten.vfs p).num)
  | none => false

/-- MSI-X vector `vec` of instance `ti`'s VF signalled: sent, or pending while its entry of the MSI-X table masks it (R138); a VF
has 4 vectors. -/
def State.msiVf (s : State) (ti vec : Nat) : State :=
  match s.vfOf ti with
  | some (p, j) => if s.rdb fVF_MSIX_MASK (4 * ti + vec % 4) then s.putb fVF_PBA_PEND ti (vec % 4) true else s.send (.msi p j vec)
  | none => s

/-! ### Tender requests -/

/-- A CXL.io request of the Tender up port `p` at TC0 (R328, R362): `n` bytes at host address `a`, with data where it is
a write.  A read of no bytes is a flush read (R313). -/
def tenderIo (own p a n tag : Nat) (data : Option Nat) : Msg :=
  match data with
  | some v => { kind := .ioPosted, act := .write, node := own, snode := own, src := 0x7F, dest := p, tag := tag, len := 16 + n,
                space := .routed, addr := a, tgt := a, data := v }
  | none => { kind := .ioNonPosted, act := .read, node := own, snode := own, src := 0x7F, dest := p, tag := tag,
              space := .routed, addr := a, tgt := a, ncnt := n }

/-- A Tender request for host memory, which the internal gate does not check, sent into the core (R283). -/
def State.tenderSend (s : State) (m : Msg) : State := s.inject 92 m

/-! ### The log (R361) -/

/-- Writes of instance `ti` are logged: EN, or a stop that has not ended (R363). -/
def State.logOn (s : State) (ti : Nat) : Bool := s.rdb fTEN_LOGCTL_EN ti || s.ten.stopping.contains ti

/-- The base of buffer `b` of instance `ti`. -/
def State.logBase (s : State) (ti b : Nat) : Nat :=
  if b = 0 then s.rd2 fTEN_LOG_B0_L fTEN_LOG_B0_H ti else s.rd2 fTEN_LOG_B1_L fTEN_LOG_B1_H ti

/-- LERR with the log-error source (R363). -/
def State.logFail (s : State) (ti : Nat) : State := (s.wrb fTEN_LOGSTAT_LERR ti true).pulse 0x1DB

/-- Two write-backs are of the same buffer word. -/
def LogWord.same (a b : LogWord) : Bool := a.ti == b.ti && a.buf == b.buf && a.word == b.word

/-- TAGs of log-cache requests. -/
def logTag (id : Nat) : Nat := 2 ^ 40 + id

/-- Write-back `id` taken out of the list. -/
def State.backGone (s : State) (id : Nat) : State :=
  { s with ten := { s.ten with backs := s.ten.backs.filter fun b => b.id != id } }

/-- TAGs of dump writes of bank `b`. -/
def dumpTag (b : Nat) : Nat := 2 ^ 41 + b

/-- Write-back `b` sends the request of phase `ph`: 1 the read, 2 the write of `data`, 3 the flush read. -/
def State.backSend (s : State) (b : LogBack) (ph data : Nat) : State :=
  let m := if ph = 1 then tenderIo s.ownNode b.port b.addr 8 (logTag b.id) none
    else if ph = 2 then tenderIo s.ownNode b.port b.addr 8 (logTag b.id) (some data)
    else tenderIo s.ownNode b.port b.addr 0 (logTag b.id) none
  let s := s.tenderSend m
  { s with ten := { s.ten with backs := s.ten.backs.map fun c => if c.id = b.id then { c with phase := ph } else c } }

/-- A port's gate has denied request `m` of the Tender: the dump or the write-back that it is of fails when it is next heard of (R292,
R363, R443). -/
def State.tenderDenied (s : State) (m : Msg) : State :=
  let mark := fun (d : Option Dump) => d.map fun d => if m.tag = dumpTag d.bank then { d with denied := true } else d
  let s : State := { s with flm := { s.flm with dump0 := mark s.flm.dump0, dump1 := mark s.flm.dump1 } }
  { s with ten := { s.ten with backs := s.ten.backs.map fun b => if logTag b.id = m.tag then { b with denied := true } else b } }

/-- A word that leaves the cache is read, OR-ed and written back (R362); it waits for an earlier write-back of its
word. -/
def State.logEvict (s : State) (w : LogWord) : State :=
  let wait := s.ten.backs.any fun b => b.w.same w
  let b : LogBack := { id := s.ten.nextBack, w := w, port := s.rd fTEN_LOGCTL_LPORT w.ti,
                       addr := s.logBase w.ti w.buf + 8 * w.word, phase := 0 }
  let s : State :=
    { s with ten := { s.ten with nextBack := s.ten.nextBack + 1, backs := s.ten.backs ++ [b],
                                        cache := s.ten.cache.filter fun c => !c.same w } }
  if wait then s else s.backSend b 1 0

/-- Write-back `b` ends, well or not; the next of its word starts. -/
def State.backEnd (s : State) (b : LogBack) (ok : Bool) : State :=
  let s := (s.backGone b.id).when_ (!ok) fun s => s.logFail b.w.ti
  match s.ten.backs.find? fun c => c.w.same b.w with
  | some c => if c.phase = 0 then s.backSend c 1 0 else s
  | none => s

/-- The page mark of a word gathered in the cache; the least recently used word makes room (R362). -/
def State.logGather (s : State) (ti word bit : Nat) : State :=
  let w0 : LogWord := { ti := ti, buf := s.rd fTEN_LOGSTAT_BUF ti, word := word, bits := 0 }
  let w := (s.ten.cache.find? fun c => c.same w0).getD w0
  let rest := s.ten.cache.filter fun c => !c.same w0
  let s : State := { s with ten := { s.ten with cache := rest ++ [{ w with bits := putBit w.bits bit true }] } }
  let s := if 1024 < s.ten.cache.length then
      match s.ten.cache with
      | old :: _ => s.logEvict old
      | [] => s
    else s
  if s.ten.stopping.contains ti then
    match s.ten.cache.find? fun c => c.same w0 with
    | some c => s.logEvict c
    | none => s
  else s

/-- A page that a write touches marked, or the range overflow recorded (R361). -/
def State.logPage (s : State) (ti page : Nat) : State :=
  let l := s.rd2 fTEN_LOG_LOGLO_L fTEN_LOG_LOGLO_H ti / 4096
  if l ≤ page ∧ page < l + s.rd fTEN_LOG_PAGES ti then s.logGather ti ((page - l) / 64) ((page - l) % 64)
  else s.wrb fTEN_LOGSTAT_OVF ti true

/-- A write of `n` bytes that a ring of instance `ti` issues in space HOST is logged (R361). -/
def State.logWrite (s : State) (ti a n : Nat) : State :=
  if s.logOn ti then
    s.each ((List.range ((a + max 1 n - 1) / 4096 + 1 - a / 4096)).map (a / 4096 + ·)) fun s p => s.logPage ti p
  else s

/-- Every cached word of buffer `b` of instance `ti` is written back. -/
def State.logFlush (s : State) (ti b : Nat) : State :=
  s.each (s.ten.cache.filter fun w => w.ti == ti && w.buf == b) State.logEvict

/-- Nothing of instance `ti` is cached or being written back for buffer `b`. -/
def State.logClean (s : State) (ti b : Nat) : Bool :=
  !(s.ten.cache.any fun w => w.ti == ti && w.buf == b)
    && !(s.ten.backs.any fun k => k.w.ti == ti && k.w.buf == b)

end Sys2Proof.Machine
end

