-- ==== Sys2Proof/Machine/Run.lean ====
section
/-! DEFINITION. The Runnel (R299 to R326): rings and their states, accesses and their acknowledgement, the
write-combining buffer, completion records, and the engines' progress through descriptors. -/

namespace Sys2Proof.Machine

/-! ### Rings (R300 to R302) -/

/-- The tenant half of slot `k` of instance `ti`. -/
def slotIx (ti k : Nat) : Nat := 16 * ti + k

/-- The tenant half of ring `r`. -/
def State.half (s : State) (r : Nat) : Nat := slotIx (s.rd fRUN_RCTX0_OWNER r) (s.rd fRUN_RCTX0_SLOT r)

/-- The ring that slot `k` of instance `ti` shows (R300). -/
def State.ringOf (s : State) (ti k : Nat) : Option Nat :=
  (s.listed fRUN_RCTX0_EN).find? fun r =>
    s.rdb fRUN_RCTX0_EN r && s.rd fRUN_RCTX0_OWNER r == ti && s.rd fRUN_RCTX0_SLOT r == k

/-- The rings that name instance `ti`. -/
def State.ringsOf (s : State) (ti : Nat) : List Nat :=
  (s.listed fRUN_RCTX0_EN ++ s.listed fRUN_RCTX1_STATE).eraseDups.filter fun r => s.rd fRUN_RCTX0_OWNER r == ti

/-- STATE of ring `r`: 0 OFF, 1 IDLE, 2 RUN, 3 PAUSED, 4 ERROR, 5 STOPPING. -/
def State.rstate (s : State) (r : Nat) : Nat := s.rd fRUN_RCTX1_STATE r

/-- The engine's own part of ring `r`. -/
def State.ring (s : State) (r : Nat) : Ring := SMap.get {} s.run.rings r

/-- The engine's own part of ring `r` changed by `f`. -/
def State.ringMod (s : State) (r : Nat) (f : Ring → Ring) : State :=
  { s with run := { s.run with rings := SMap.mod {} s.run.rings r f } }

/-- Ring `r` has descriptors to do: a started one that issues more, or HEAD behind TAIL. -/
def State.pendingDesc (s : State) (r : Nat) : Bool :=
  s.rd fRUN_RCTX1_HEAD r != s.rd fVF_RING_TAIL (s.half r)

/-- CFG holds valid sizes (R326). -/
def State.sizesOk (s : State) (h : Nat) : Bool :=
  decide (4 ≤ s.rd fVF_RING_RSIZE h ∧ s.rd fVF_RING_RSIZE h ≤ 15
    ∧ 4 ≤ s.rd fVF_RING_CQSIZE h ∧ s.rd fVF_RING_CQSIZE h ≤ 15)

/-- The instance of ring `r` is QUIESCING or QUIESCED (R355). -/
def State.ringQuiet (s : State) (r : Nat) : Bool :=
  let st := s.rd fTEN_TISTAT_STATE (s.rd fRUN_RCTX0_OWNER r)
  st == 3 || st == 4

/-- Ring `r` may not run now: its engine is paused, a profile change, a reaction or Safe holds engines, or its
instance is quiescing or quiesced (R310, R355, R398). -/
def State.ringHeld (s : State) (r : Nat) : Bool :=
  bitOf (s.rd fRUN_PAUSE_PAUSE 0) (s.rd fRUN_RCTX0_ENGINE r) || s.rdb fRSV_STAT_PHOLD 0 || s.dev == 4 || s.ringQuiet r

/-- The tenant of instance `ti` reaches its VF and its writes are taken: the instance is ACTIVE, QUIESCING or QUIESCED.  One that is
RESETTING takes none (R350), and a VF that is not enabled cannot be reached (R346, R349). -/
def State.slotOpen (s : State) (ti : Nat) : Bool :=
  decide (2 ≤ s.rd fTEN_TISTAT_STATE ti ∧ s.rd fTEN_TISTAT_STATE ti ≤ 4)

/-! ### Descriptors (R303, R304) -/

/-- OP. -/
def dOp (d : Nat) : Nat := bitsOf d 0 8
/-- ACQ. -/
def dAcq (d : Nat) : Bool := bitOf d 8
/-- REL. -/
def dRel (d : Nat) : Bool := bitOf d 9
/-- FENCE. -/
def dFence (d : Nat) : Bool := bitOf d 10
/-- CMP. -/
def dCmp (d : Nat) : Bool := bitOf d 11
/-- IRQ. -/
def dIrq (d : Nat) : Bool := bitOf d 12
/-- MCAST. -/
def dMcast (d : Nat) : Bool := bitOf d 13
/-- SSP. -/
def dSsp (d : Nat) : Nat := bitsOf d 16 2
/-- DSP. -/
def dDsp (d : Nat) : Nat := bitsOf d 18 2
/-- SUB. -/
def dSub (d : Nat) : Nat := bitsOf d 20 4
/-- LEN. -/
def dLen (d : Nat) : Nat := bitsOf d 32 24
/-- SRC. -/
def dSrc (d : Nat) : Nat := bitsOf d 64 64
/-- DST. -/
def dDst (d : Nat) : Nat := bitsOf d 128 64
/-- TAG. -/
def dTag (d : Nat) : Nat := bitsOf d 192 64
/-- IMM. -/
def dImm (d : Nat) : Nat := bitsOf d 256 256
/-- A reserved field is not 0. -/
def dReserved (d : Nat) : Bool := bitsOf d 14 2 != 0 || bitsOf d 24 8 != 0 || bitsOf d 56 8 != 0

/-- Bytes that a LOAD or ATOMIC reads. -/
def dSize (d : Nat) : Nat := if dOp d = 4 then 2 ^ dSub d else if dSub d = 3 then 16 else 8

/-- The status of a descriptor that breaks a rule before any access (R306); 0 for none.  `kind` is KIND of the window at
DST, where DSP is WIN. -/
def descBad (d kind : Nat) : Nat :=
  let (op, sub, len) := (dOp d, dSub d, dLen d)
  let spaces : Bool := match op with
    | 1 => dSsp d == 3 || dDsp d == 3
    | 2 | 3 | 4 | 5 => dDsp d == 3
    | _ => false
  let subs : Bool := match op with
    | 3 => dMcast d && decide (1 < sub)
    | 4 => decide (4 < sub)
    | 5 => decide (3 < sub)
    | _ => false
  let lens : Bool := match op with
    | 1 | 2 => len == 0
    | 3 => len == 0 || decide (32 < len)
    | _ => false
  let cast := dMcast d && (op != 3 || dDsp d != 0 || decide (64 < dDst d % 64 + len) || decide (2 ^ 12 ≤ dSrc d))
  if 6 < op ∨ dReserved d ∨ spaces ∨ subs ∨ lens ∨ cast then 9
  else if (op = 4 ∨ op = 5) ∧ dDst d % dSize d ≠ 0 then 7
  else if op = 5 ∧ (dDsp d = 0 ∨ (dDsp d = 2 ∧ kind ≠ 1)) then 6
  else 0

/-! ### Live descriptors and failures (R307, R309) -/

/-- The `n` bytes at `a` and the `m` bytes at `b` meet. -/
def meets (a n b m : Nat) : Bool := decide (a < b + m ∧ b < a + n)

/-- Another descriptor of ring `r` than `i` has a store to any of `n` bytes at `addr` that has not come to the entries: one that
waits, or a COPY's whose source bytes have not arrived.  A later access to those bytes waits for it (R312, R315). -/
def State.storeAhead (s : State) (r i space addr n : Nat) : Bool :=
  let g := s.ring r
  (g.stash.any fun t => t.idx != i && t.space == space && meets t.addr t.len addr n)
    || s.run.accs.any fun a => a.ring == r && !a.orphan && a.kind == .read && a.idxs.any fun j =>
        j != i && g.live.any fun l =>
          l.idx == j && dOp l.d == 1 && dDsp l.d == space && meets ((dDst l.d + a.off) % 2 ^ 64) a.len addr n

/-- Started descriptor `idx` of ring `r` changed by `f`. -/
def State.liveMod (s : State) (r idx : Nat) (f : Live → Live) : State :=
  s.ringMod r fun g => { g with live := g.live.map fun l => if l.idx = idx then f l else l }

/-- A failure of access `a` noted: the failing access issued first decides the descriptor (R309), which issues no more. -/
def Live.failed (l : Live) (a st addr space : Nat) : Live :=
  let f := match l.fail with
    | some (b, x) => if b ≤ a then (b, x) else (a, st, addr, space)
    | none => (a, st, addr, space)
  { l with fail := some f, issued := true }

/-- Access number `a` of ring `r` has failed for the descriptors `idxs`; the first failing write since a BARRIER is kept
for the next (R319). -/
def State.failFor (s : State) (r : Nat) (idxs : List Nat) (a st addr space : Nat) (write : Bool) : State :=
  let s := s.each idxs fun s i => s.liveMod r i fun l => l.failed a st addr space
  if write then s.ringMod r fun g => { g with bfail := g.bfail.orElse fun _ => some (st, addr, space) } else s

/-! ### Issue (R305, R310, R333) -/

/-- KIND of the window at aperture offset `o` of port `p`. -/
def State.winKind (s : State) (p o : Nat) : Nat := bitsOf (s.winWord p (o / 2 ^ (s.rd fPRT_TIBLK_WINSZ p - 8)) 0) 1 2

/-- What becomes of an access of ring `r` to `addr` in a space (R305). -/
def State.runRoute (s : State) (r space addr : Nat) (m : Msg) : Verdict :=
  match s.portOfTenant (s.rd fRUN_RCTX0_OWNER r) with
  | none => .lost
  | some p =>
    if space = 0 then s.byFabric m addr
    else if space = 1 then .send { m with dest := p, space := .routed, addr := addr, tgt := addr }
    else
      match s.byWindow p { m with addr := addr } with
      | .send m => .send { m with win := some (p, s.rd fXLT_WSTAT_GEN p), gen := some (s.rd fXLT_MAPSTAT_G 0) }
      | v => v

/-- An access to `addr` in a space goes by CXL.io. -/
def State.runIo (s : State) (r space addr : Nat) : Bool :=
  space == 1 || (space == 2 && match s.portOfTenant (s.rd fRUN_RCTX0_OWNER r) with
    | some p => s.winKind p addr != 0
    | none => false)

/-- The header that every message of ring `r` carries (R299). -/
def State.runMsg (s : State) (r : Nat) (kind : MKind) (act : Act) : Msg :=
  { kind := kind, act := act, node := s.ownNode, snode := s.ownNode, src := 0x50 + s.rd fRUN_RCTX0_ENGINE r,
    dest := 0, tc := s.rd fRUN_RCTX0_TC r, tenant := s.rd fRUN_RCTX0_OWNER r, tag := s.run.nextAcc }

/-- The pair of instance `ti` lets an access for egress `e` of class `t` be issued now (R333). -/
def State.mayIssue (s : State) (ti t : Nat) (egs : List Nat) : Bool := s.mayRelease (s.colour ti) egs t

/-- The charge, meter and colour events of an issued access (R329, R333, R434). -/
def State.charge (s : State) (m : Msg) : State :=
  let k := s.colour m.tenant
  let s := (s.deduct m.tenant (chargeOf m 0) k).flmAdd m.tenant (chargeOf m 0)
  if k = 1 then s.countMsg 0x14 4 0 m else s

/-- A message of ring `r`'s engine enters the mesh and the core. -/
def State.runSend (s : State) (r : Nat) (m : Msg) : State :=
  let e := s.rd fRUN_RCTX0_ENGINE r
  ((s.mesh (engineNode e) (internalNode (88 + e / 8)) m).countMsg 0x30 6 e m).inject (88 + e / 8) m

/-- What came of an attempt to issue: it went out, it failed at once with a status, or it waits. -/
inductive Issue where
  | sent (a : RunAcc) | failed (status : Nat) | waits
  deriving DecidableEq, Repr

/-- Messages `ms`, all of one access, issued (R305, R333): each is routed, and the first refusal decides.  `a` describes
the access; its message is the first one's. -/
def State.issue (s : State) (a : RunAcc) (ms : List (Nat × Msg)) : Issue × State :=
  match ms with
  | [] => (.failed 9, s)
  | (addr0, m0) :: _ =>
    match s.runRoute a.ring a.space addr0 m0 with
    | .deny reason at_ => (.failed 1, ({ s with run := { s.run with nextAcc := s.run.nextAcc + 1 } } : State).xltDeny
        (88 + a.eng / 8) m0 reason at_)
    | .lost => (.failed 3, { s with run := { s.run with nextAcc := s.run.nextAcc + 1 } })
    | .send n0 =>
      if ¬ s.mayIssue a.ti n0.tc (s.egressOf n0).toList then
        (.waits, if s.colour a.ti = 2 then s.countMsg 0x15 4 0 n0 else s)
      else
        let a := { a with id := s.run.nextAcc, m := n0, at_ := s.pwr.ns,
                          shared := a.space == 0 && (s.regionOf a.addr).isSome }
        let s : State := { s with run := { s.run with nextAcc := s.run.nextAcc + 1, accs := s.run.accs ++ [a] } }
        let s := s.each ms fun s (addr, m) =>
          match s.runRoute a.ring a.space addr m with
          | .send n => (s.charge n).runSend a.ring n
          | _ => s
        (.sent a, s)

/-- The contiguous runs of a byte mask, as (first byte, bytes), among the `n` bytes from `i` on. -/
def runsOf (mask : Nat) : Nat → Nat → List (Nat × Nat)
  | 0, _ => []
  | n + 1, i =>
    match bitOf mask i, runsOf mask n (i + 1) with
    | true, (j, c) :: rest => if j = i + 1 then (i, c + 1) :: rest else (i, 1) :: (j, c) :: rest
    | true, [] => [(i, 1)]
    | false, rest => rest

/-- The messages that write the valid bytes of a line (R311, R305): a line write or a partial one with byte enables, or
CXL.io writes of contiguous runs with the flush read that covers them (R313). A run of 16 aligned bytes alone carries the
pair mark (R316). -/
def State.lineWrite (s : State) (r space line data mask : Nat) (bad : Bool) : List (Nat × Msg) :=
  let full := mask == 2 ^ 64 - 1
  let runs := runsOf mask 64 0
  let one := match runs with
    | [(i, 16)] => i % 16 == 0
    | _ => false
  let io := s.runIo r space line
  let kind2 := space == 2 && (match s.portOfTenant (s.rd fRUN_RCTX0_OWNER r) with
    | some p => s.winKind p line == 2
    | none => false)
  if io then
    let ws := runs.map fun (i, n) => (line + i,
      { s.runMsg r .ioPosted .write with len := 16 + n, data := bitsOf data (8 * i) (8 * n), poison := bad, pair := one })
    let last := (runs.getLast?.map (·.1)).getD 0
    if kind2 then ws else ws ++ [(line + last, { s.runMsg r .ioNonPosted .read with len := 16, ncnt := 0 })]
  else if space = 0 ∧ (s.regionOf line).isSome then
    let n := if full then 80 else 88
    [(line, { s.runMsg r .wmReqData .write with op := if full then 5 else 6, len := n, data := data, be := mask, poison := bad })]
  else
    [(line, { s.runMsg r .memRwd .write with op := if full then 4 else 5, len := 80, data := data, be := mask, poison := bad,
                                             pair := one })]

/-- The message that reads `n` bytes (R305). -/
def State.readMsg (s : State) (r space addr n : Nat) : Msg :=
  let pair := n == 16 && addr % 16 == 0
  if s.runIo r space addr then { s.runMsg r .ioNonPosted .read with ncnt := n, pair := pair }
  else if space = 0 ∧ (s.regionOf addr).isSome then { s.runMsg r .wmReq .read with op := 4 }
  else { s.runMsg r .memReq .read with op := 3, pair := pair }

/-- Reads of ring `r` outstanding. -/
def State.ringReads (s : State) (r : Nat) : Nat :=
  (s.run.accs.filter fun a => a.ring == r && (a.kind == .read || a.kind == .fetch || a.kind == .atomic)).length

/-- Reads of engine `e` outstanding. -/
def State.engReads (s : State) (e : Nat) : Nat :=
  (s.run.accs.filter fun a => a.eng == e && (a.kind == .read || a.kind == .fetch || a.kind == .atomic)).length

/-- Ring `r` may issue one more read (R310). -/
def State.readRoom (s : State) (r : Nat) : Bool :=
  decide (s.ringReads r < 64 ∧ s.engReads (s.rd fRUN_RCTX0_ENGINE r) < 256)

/-- An access of ring `r` before its issue. -/
def State.newAcc (s : State) (r : Nat) (idxs : List Nat) (kind : AccKind) (space addr len : Nat) : RunAcc :=
  { id := s.run.nextAcc, ring := r, eng := s.rd fRUN_RCTX0_ENGINE r, ti := s.rd fRUN_RCTX0_OWNER r, idxs := idxs, kind := kind,
    m := s.runMsg r .ioNonPosted .read, space := space, addr := addr, len := len }

/-! ### Write-combining entries (R311, R312) -/

/-- The mask of `n` bytes from byte `i` of a line. -/
def maskOf (i n : Nat) : Nat := (2 ^ n - 1) * 2 ^ i

/-- `new` laid over `old` at the bytes of `mask`, 64 bytes. -/
def overlay (old new mask : Nat) : Nat :=
  (List.range 64).foldl (fun a i => if bitOf mask i then a + bitsOf new (8 * i) 8 * 2 ^ (8 * i)
    else a + bitsOf old (8 * i) 8 * 2 ^ (8 * i)) 0

/-- Entry `id` changed by `f`. -/
def State.wcMod (s : State) (id : Nat) (f : Wc → Wc) : State :=
  { s with run := { s.run with wc := s.run.wc.map fun w => if w.id = id then f w else w } }

/-- Entry `id` freed. -/
def State.wcFree (s : State) (id : Nat) : State :=
  { s with run := { s.run with wc := s.run.wc.filter fun w => w.id != id } }

/-- The first valid byte of an entry, as the descriptor's address. -/
def Wc.first (w : Wc) : Nat := w.line + ((List.range 64).find? fun i => bitOf w.mask i).getD 0

/-- Valid bytes of an entry. -/
def Wc.bytes (w : Wc) : Nat := ((List.range 64).filter fun i => bitOf w.mask i).length

/-- An OPEN entry issued; it waits where the instance's pair holds it, and where an earlier entry of its line has not been
issued. A refusal ends it at once. -/
def State.wcIssue (s : State) (w : Wc) : Option State :=
  if s.run.wc.any fun v => v.ring == w.ring && v.space == w.space && v.line == w.line && decide (v.id < w.id) && v.acc.isNone then
    none
  else
    let a := s.newAcc w.ring w.idxs .write w.space w.first w.bytes
    match s.issue a (s.lineWrite w.ring w.space w.line w.data w.mask w.bad) with
    | (.sent a, s) =>
      let s := s.wcMod w.id fun w => { w with acc := some a.id }
      some (if w.space = 1 then s.logWrite a.ti w.first w.bytes else s)
    | (.failed st, s) => some ((s.wcFree w.id).failFor w.ring w.idxs (s.run.nextAcc - 1) st w.first w.space true)
    | (.waits, _) => none

/-- Every OPEN entry of ring `r` is to be issued. -/
def State.wcDue (s : State) (r : Nat) : State :=
  { s with run := { s.run with wc := s.run.wc.map fun w => if w.ring = r then { w with due := true } else w } }

/-- A store of ring `r` enters an entry (R311): none where it must wait for an acknowledgement. -/
def State.wcStore (s : State) (r : Nat) (t : Store) : Option State :=
  let (line, i) := (t.addr / 64 * 64, t.addr % 64)
  let (mask, data) := (maskOf i t.len, t.data * 2 ^ (8 * i))
  let e := s.rd fRUN_RCTX0_ENGINE r
  let add (w : Wc) : Wc :=
    let m := w.mask ||| mask
    { w with data := overlay w.data data mask, mask := m, idxs := (w.idxs ++ [t.idx]).eraseDups,
             due := w.due || m == 2 ^ 64 - 1 || s.rstate r != 2 }
  if s.run.accs.any fun a => a.ring == r && !a.orphan && (a.kind == .read || a.kind == .atomic) && a.space == t.space
      && !a.idxs.contains t.idx
      && decide (a.addr < t.addr + t.len ∧ t.addr < a.addr + a.len) then none
  else match s.run.wc.find? fun w => w.ring == r && w.space == t.space && w.line == line && w.acc.isNone with
  | some w => some (s.wcMod w.id add)
  | none =>
    if s.rd fRUN_CTL_WCRING 0 ≤ (s.run.wc.filter fun w => w.ring == r).length then none
    else if 48 ≤ (s.run.wc.filter fun w => w.eng == e).length then
      match s.run.wc.find? fun w => w.eng == e && w.acc.isNone with
      | some w => if w.due then none else some (s.wcMod w.id fun w => { w with due := true })
      | none => none
    else
      let w := add { id := s.run.nextWc, ring := r, eng := e, space := t.space, line := line }
      some { s with run := { s.run with nextWc := s.run.nextWc + 1, wc := s.run.wc ++ [w] } }

/-- Entries of ring `r` that hold any of `n` bytes at `addr`. -/
def State.wcMeet (s : State) (r space addr n : Nat) : List Wc :=
  s.run.wc.filter fun w => w.ring == r && w.space == space && w.line == addr / 64 * 64 && (w.mask &&& maskOf (addr % 64) n) != 0

/-- The `n` bytes at `addr` from the ring's own entries, where they hold them all (R312). -/
def State.forward (s : State) (r space addr n : Nat) : Option Nat :=
  let ws := s.wcMeet r space addr n
  let need := maskOf (addr % 64) n
  let got := ws.foldl (fun a w => a ||| w.mask) 0
  if got &&& need = need then
    some (bitsOf (ws.foldl (fun a w => overlay a w.data w.mask) 0) (8 * (addr % 64)) (8 * n))
  else none

/-! ### Ordering (R315) -/

/-- Descriptor `i` of ring `r` has no access, entry or store left. -/
def State.quietDesc (s : State) (r i : Nat) : Bool :=
  !(s.run.accs.any fun a => a.ring == r && a.idxs.contains i) && !(s.run.wc.any fun w => w.ring == r && w.idxs.contains i)
    && !((s.ring r).stash.any fun t => t.idx == i)

/-- Every access of the ring's other descriptors is acknowledged, failed or dead. -/
def State.othersDone (s : State) (r i : Nat) : Bool := (s.ring r).live.all fun l => l.idx == i || s.quietDesc r l.idx

/-- A started descriptor with ACQ still waits for its reads. -/
def State.acquiring (s : State) (r i : Nat) : Bool :=
  (s.ring r).live.any fun l => l.idx != i && dAcq l.d
    && s.run.accs.any fun a => a.ring == r && a.idxs.contains l.idx && (a.kind == .read || a.kind == .atomic)

/-- Descriptor `l` may issue an access now. -/
def State.mayAccess (s : State) (r : Nat) (l : Live) : Bool :=
  !s.acquiring r l.idx && (!(dRel l.d || dFence l.d || dOp l.d == 6) || s.othersDone r l.idx)

/-! ### Records (R307, R308) -/

/-- The 32 bytes of a completion record. -/
def recordOf (l : Live) (status done phase : Nat) : Nat :=
  let data := match l.fail with
    | some (_, _, addr, space) => addr % 2 ^ 64 + space * 2 ^ 64
    | none => l.data % 2 ^ 128
  dTag l.d + l.idx % 2 ^ 16 * 2 ^ 64 + status * 2 ^ 80 + (phase + 2 * b2n l.notpair + 4 * b2n l.early) * 2 ^ 88
    + done % 2 ^ 32 * 2 ^ 96 + data * 2 ^ 128

/-- STATUS of a descriptor that has ended. -/
def Live.status (l : Live) : Nat :=
  match l.fail with
  | some (_, st, _, _) => st
  | none => if l.abort then 0x0B else 0

/-- DONE: LEN, or the bytes before the failing access. -/
def Live.done (l : Live) : Nat :=
  match l.fail with
  | some (_, st, addr, space) =>
    if st = 6 ∨ st = 7 ∨ st = 9 then 0
    else if dOp l.d = 1 ∧ space = dSsp l.d ∧ dSrc l.d ≤ addr ∧ addr < dSrc l.d + dLen l.d then addr - dSrc l.d
    else addr - dDst l.d
  | none => if l.abort then l.off else dLen l.d

/-- A record is owed (R307). -/
def Live.owes (l : Live) : Bool := dCmp l.d || dOp l.d == 6 || l.status != 0

/-- Ring `r` goes to ERROR; its OPEN entries are issued. -/
def State.ringError (s : State) (r : Nat) : State := (s.wr fRUN_RCTX1_STATE r 4).wcDue r

/-- Ring `r` fails with FETCH (R323). -/
def State.fetchFail (s : State) (r idx : Nat) : State :=
  let h := s.half r
  let s := ((s.inc fRUN_ERR_FETCHERR 0).wr fVF_RING_LASTST h 0x0A).wr fVF_RING_LASTIDX h idx
  if s.rstate r = 1 ∨ s.rstate r = 2 ∨ s.rstate r = 3 then s.ringError r else s

/-- HEAD moves past the descriptor it stands on. -/
def State.headNext (s : State) (r : Nat) : State :=
  (s.wr fRUN_RCTX1_HEAD r (s.rd fRUN_RCTX1_HEAD r + 1)).wr fRUN_RCTX2_DONE r 0

/-- What the end of a descriptor with a failure does beside its record (R302, R309, R325). -/
def State.descFailed (s : State) (r : Nat) (l : Live) : State :=
  let h := s.half r
  let s := ((s.wr fVF_RING_LASTST h l.status).wr fVF_RING_LASTIDX h l.idx).countMsg 0x32 6 (s.rd fRUN_RCTX0_ENGINE r)
    (s.runMsg r .ioPosted .write)
  let s := if l.status = 9 then s.inc fRUN_ERR_BADDESC 0 else s
  if s.rdb fVF_RING_STOPONERR h ∧ l.status ≠ 0x0B then
    if s.rstate r = 2 then s.ringError r
    else if s.rstate r = 3 then s.ringMod r fun g => { g with errDue := true } else s
  else s

/-- The oldest started descriptor of ring `r` ends, where it can: it issues no more, nothing of it is outstanding, and its
record, if it owes one, finds room (R308). -/
def State.endOldest (s : State) (r : Nat) : Option State :=
  match (s.ring r).live with
  | [] => none
  | l :: rest =>
    if ¬ l.issued ∨ ¬ s.quietDesc r l.idx then none
    else
      let h := s.half r
      let gone (s : State) : State :=
        let s := s.ringMod r fun g => { g with live := rest }
        let s := if s.rd fRUN_RCTX1_HEAD r = l.idx ∧ ¬ (l.status ≠ 0 ∧ s.rdb fVF_RING_STOPONERR h ∧ s.rstate r ≠ 5) then
          s.headNext r else s
        if l.status ≠ 0 then s.descFailed r l else s
      if ¬ l.owes then some (gone s)
      else
        let (j, n) := ((s.ring r).recs, 2 ^ s.rd fVF_RING_CQSIZE h)
        if n ≤ (j + 2 ^ 16 - s.rd fVF_RING_CQHEAD h) % 2 ^ 16 then none
        else
          let phase := 1 - j / n % 2
          let addr := s.rd2 fVF_RING_CQBASE_L fVF_RING_CQBASE_H h + 32 * (j % n)
          let a := { s.newAcc r [] .record 1 addr 32 with irq := dIrq l.d, off := l.idx }
          let v := recordOf l l.status l.done phase
          match s.issue a [(addr, { s.runMsg r .ioPosted .write with len := 16 + 32, data := v }),
                           (addr, { s.runMsg r .ioNonPosted .read with ncnt := 0 })] with
          | (.waits, _) => none
          | (.sent a, s) =>
            let s := (s.ringMod r fun g => { g with recs := (j + 1) % 2 ^ 16 }).logWrite a.ti addr 32
            some (gone (s.wr fVF_RING_PHASE h (1 - (j + 1) / n % 2)))
          | (.failed _, s) => some ((gone s).fetchFail r l.idx)

/-- Ring `r` enters RUN where it may, else PAUSED; a failure that waited takes it to ERROR (R302, R310, R355). -/
def State.enterRun (s : State) (r : Nat) : State :=
  if s.ringHeld r then (s.wr fRUN_RCTX1_STATE r 3).wcDue r
  else if (s.ring r).errDue then (s.ringMod r fun g => { g with errDue := false }).ringError r
  else s.wr fRUN_RCTX1_STATE r 2

/-- A ring in RUN with nothing to do is IDLE (R302). -/
def State.ringIdle (s : State) (r : Nat) : State :=
  if s.rstate r = 2 ∧ ¬ s.pendingDesc r ∧ (s.ring r).live.isEmpty
      ∧ ¬ (s.run.accs.any fun a => a.ring == r && a.kind == .record && !a.orphan) then
    (s.wr fRUN_RCTX1_STATE r 1).wcDue r
  else s

/-- A PAUSED ring whose pause has been released goes to RUN, or IDLE with nothing pending (R302). -/
def State.ringRelease (s : State) (r : Nat) : State :=
  if s.rstate r = 3 ∧ ¬ s.ringHeld r then (s.enterRun r).ringIdle r else s

/-- A ring in RUN that may not run is PAUSED; its OPEN entries are issued (R310, R311). -/
def State.ringPause (s : State) (r : Nat) : State :=
  if s.rstate r = 2 ∧ s.ringHeld r then (s.wr fRUN_RCTX1_STATE r 3).wcDue r else s

/-! ### Progress -/

/-- The descriptors of a batch that ring `r` would fetch: up to eight, none past the ring's end (R310). -/
def State.batch (s : State) (r : Nat) : Nat :=
  let h := s.half r
  let head := s.rd fRUN_RCTX1_HEAD r
  min (min 8 ((s.rd fVF_RING_TAIL h + 2 ^ 16 - head) % 2 ^ 16)) (2 ^ s.rd fVF_RING_RSIZE h - head % 2 ^ s.rd fVF_RING_RSIZE h)

/-- A batch of descriptors is asked for (R310). -/
def State.fetchBatch (s : State) (r : Nat) : Option State :=
  let h := s.half r
  let n := s.batch r
  let addr := s.rd2 fVF_RING_RBASE_L fVF_RING_RBASE_H h + 64 * (s.rd fRUN_RCTX1_HEAD r % 2 ^ s.rd fVF_RING_RSIZE h)
  if n = 0 ∨ ¬ s.readRoom r then none
  else match s.issue (s.newAcc r [] .fetch 1 addr (64 * n))
      [(addr, { s.runMsg r .ioNonPosted .read with ncnt := 64 * n })] with
    | (.sent _, s) => some (s.ringMod r fun g => { g with fetch := n })
    | (.failed _, s) => some (s.fetchFail r (s.rd fRUN_RCTX1_HEAD r))
    | (.waits, _) => none

/-- `n` more bytes of descriptor `l` have been issued; a descriptor that has issued all moves HEAD on. -/
def State.advanceDesc (s : State) (r : Nat) (l : Live) (n : Nat) (all : Bool) : State :=
  let s := s.liveMod r l.idx fun l => { l with off := l.off + n, issued := l.issued || all }
  if all then s.headNext r else s.wr fRUN_RCTX2_DONE r (l.off + n)

/-- A store put before the entries. -/
def State.stashAdd (s : State) (r : Nat) (t : Store) : State := s.ringMod r fun g => { g with stash := g.stash ++ [t] }

/-- A read of `n` bytes for descriptor `l` at `addr`, from the ring's entries or from the target (R312): none where it
waits, with the data where it was forwarded. -/
def State.readStep (s : State) (r : Nat) (l : Live) (space addr n off : Nat) : Option (Option Nat × State) :=
  if s.storeAhead r l.idx space addr n then none
  else match s.forward r space addr n with
  | some v => some (some v, s)
  | none =>
    let ws := s.wcMeet r space addr n
    if ¬ ws.isEmpty then
      if ws.all fun w => w.due || w.acc.isSome then none
      else some (none, s.each ws fun s w => s.wcMod w.id fun w => { w with due := true })
    else if ¬ s.readRoom r then none
    else match s.issue { s.newAcc r [l.idx] .read space addr n with off := off } [(addr, s.readMsg r space addr n)] with
      | (.waits, _) => none
      | (.sent _, s) => some (none, s.advanceDesc r l n (off + n == (if dOp l.d = 4 then dSize l.d else dLen l.d)))
      | (.failed st, s) => some (none, s.failFor r [l.idx] (s.run.nextAcc - 1) st addr space false)

/-- The data of the FILL pattern for `n` bytes at `addr` (R304). -/
def fillData (pat addr n : Nat) : Nat :=
  (List.range n).foldl (fun a i => a + bitsOf pat (8 * ((addr + i) % 8)) 8 * 2 ^ (8 * i)) 0

/-- One piece of COPY `l`: a read of source bytes within a line, stored at once where the ring forwards it. -/
def State.copyStep (s : State) (r : Nat) (l : Live) : Option State :=
  let a := (dSrc l.d + l.off) % 2 ^ 64
  let n := min (dLen l.d - l.off) (64 - a % 64)
  if s.storeAhead r l.idx (dDsp l.d) ((dDst l.d + l.off) % 2 ^ 64) n then none
  else match s.readStep r l (dSsp l.d) a n l.off with
  | none => none
  | some (none, s) => some s
  | some (some v, s) =>
    some ((s.stashAdd r { idx := l.idx, space := dDsp l.d, addr := (dDst l.d + l.off) % 2 ^ 64, len := n, data := v }).advanceDesc
      r l n (l.off + n == dLen l.d))

/-- One piece of FILL or WRITEI `l`, within a line of the destination. -/
def State.storeStep (s : State) (r : Nat) (l : Live) : Option State :=
  let a := (dDst l.d + l.off) % 2 ^ 64
  let n := min (dLen l.d - l.off) (64 - a % 64)
  let v := if dOp l.d = 2 then fillData (dSrc l.d) a n else bitsOf (dImm l.d) (8 * l.off) (8 * n)
  if (s.ring r).stash.isEmpty ∧ ¬ s.storeAhead r l.idx (dDsp l.d) a n then
    some ((s.stashAdd r { idx := l.idx, space := dDsp l.d, addr := a, len := n, data := v }).advanceDesc r l n
      (l.off + n == dLen l.d))
  else none

/-- LOAD `l` (R304, R312). -/
def State.loadStep (s : State) (r : Nat) (l : Live) : Option State :=
  match s.readStep r l (dDsp l.d) (dDst l.d) (dSize l.d) 0 with
  | none => none
  | some (none, s) => some s
  | some (some v, s) => some ((s.liveMod r l.idx fun l => { l with data := v }).advanceDesc r l (dSize l.d) true)

/-- The bytes of its operands that an AtomicOp carries: one operand of 8 bytes, or compare and swap. -/
def atomicLen (sub : Nat) : Nat := if sub < 2 then 8 else if sub = 2 then 16 else 32

/-- ATOMIC `l` (R317): an AtomicOp after the ring's own entries for its bytes are acknowledged. -/
def State.atomicStep (s : State) (r : Nat) (l : Live) : Option State :=
  let n := dSize l.d
  let ws := s.wcMeet r (dDsp l.d) (dDst l.d) n
  let m := { s.runMsg r .ioNonPosted .atomic with
    op := dSub l.d, len := 16 + atomicLen (dSub l.d), ncnt := n, data := bitsOf (dImm l.d) 0 (8 * atomicLen (dSub l.d)), pair := n == 16 }
  if s.storeAhead r l.idx (dDsp l.d) (dDst l.d) n then none
  else if ¬ ws.isEmpty then
    if ws.all fun w => w.due || w.acc.isSome then none
    else some (s.each ws fun s w => s.wcMod w.id fun w => { w with due := true })
  else if ¬ s.readRoom r then none
  else match s.issue (s.newAcc r [l.idx] .atomic (dDsp l.d) (dDst l.d) n) [(dDst l.d, m)] with
    | (.waits, _) => none
    | (.sent a, s) =>
      some ((if dDsp l.d = 1 then s.logWrite a.ti (dDst l.d) n else s).advanceDesc r l n true)
    | (.failed st, s) => some (s.failFor r [l.idx] (s.run.nextAcc - 1) st (dDst l.d) (dDsp l.d) false)

/-- Members of a Turnout group, where it is valid (R195). -/
def State.groupMembers (s : State) (g : Nat) : Option (List Nat) :=
  let v := SMap.get 0 s.swc.groups g
  if bitOf v 72 then some (setBits 72 v) else none

/-- The message of a multicast WRITEI (R322). -/
def State.castMsg (s : State) (r d : Nat) : Msg :=
  let (i, n) := (dDst d % 64, dLen d)
  if dSub d = 0 then
    { s.runMsg r .ioPosted .write with len := 16 + n, data := bitsOf (dImm d) 0 (8 * n), space := .routed, addr := dDst d, tgt := dDst d,
                                       group := some (dSrc d % 4096) }
  else
    { s.runMsg r .memRwd .write with
      op := if n = 64 then 4 else 5, len := 80, data := bitsOf (dImm d) 0 (8 * n) * 2 ^ (8 * i), be := maskOf i n,
      addr := dDst d, tgt := dDst d / 64 * 64, group := some (dSrc d % 4096) }

/-- Multicast `l` (R322): placed whole, or it waits for cells.  A group that is not valid takes no message (R195), and a
copy for a member whose link is down is handled as R127 and R170 say. -/
def State.castStep (s : State) (r : Nat) (l : Live) : Option State :=
  let m := s.castMsg r l.d
  let e := s.rd fRUN_RCTX0_ENGINE r
  match s.groupMembers (dSrc l.d % 4096) with
  | none => some ((s.inc fTRN_ERR_NOGRP 0).advanceDesc r l (dLen l.d) true)
  | some egs =>
    if ¬ s.mayIssue m.tenant m.tc egs ∨ ¬ (s.mayInject (88 + e / 8) m ∧ m.cells ≤ s.rd fRSV_FREE_FREE 0) then none
    else
      let up := egs.filter s.reaches
      let s := s.each (egs.filter fun x => !s.reaches x) fun s x => s.undeliverable x m
      let s : State := { s with run := { s.run with nextAcc := s.run.nextAcc + 1 } }
      let s := (((s.charge m).mesh (engineNode e) (internalNode (88 + e / 8)) m).countMsg 0x30 6 e m).injectTo (88 + e / 8) m up
      let s := (s.countMsg 0x31 6 e m).statAck m.tenant 0 (dLen l.d) 0
      some (s.advanceDesc r l (dLen l.d) true)

/-- BARRIER `l` completes (R319): its status is that of the first write that failed since the last one. -/
def State.barrierStep (s : State) (r : Nat) (l : Live) : Option State :=
  let f := (s.ring r).bfail
  let s := s.ringMod r fun g => { g with bfail := none }
  let s := s.liveMod r l.idx fun l => { l with fail := f.map fun (st, a, sp) => (0, st, a, sp) }
  some (s.advanceDesc r l 0 true)

/-- The started descriptor that issues more takes one step, where it may (R315). -/
def State.descStep (s : State) (r : Nat) : Option State :=
  match (s.ring r).live.find? fun l => !l.issued with
  | none => none
  | some l =>
    if ¬ s.mayAccess r l then none
    else match dOp l.d with
      | 0 => some (s.advanceDesc r l 0 true)
      | 1 => s.copyStep r l
      | 2 => s.storeStep r l
      | 3 => if dMcast l.d then s.castStep r l else s.storeStep r l
      | 4 => s.loadStep r l
      | 5 => s.atomicStep r l
      | _ => s.barrierStep r l

/-- The oldest store of ring `r` that waits enters an entry. -/
def State.stashStep (s : State) (r : Nat) : Option State :=
  match (s.ring r).stash with
  | [] => none
  | t :: rest =>
    let n := min t.len (64 - t.addr % 64)
    (s.wcStore r { t with len := n, data := t.data % 2 ^ (8 * n) }).map fun s' =>
      if s'.run.wc.any fun w => w.ring == r && w.space == t.space && w.line == t.addr / 64 * 64 && w.acc.isNone
          && w.idxs.contains t.idx && (w.mask &&& maskOf (t.addr % 64) n) == maskOf (t.addr % 64) n then
        s'.ringMod r fun g =>
          { g with stash := if n = t.len then rest
                            else { t with addr := t.addr + n, len := t.len - n, data := t.data / 2 ^ (8 * n) } :: rest }
      else s'

/-- Ring `r` waits for room in its completion queue and issues nothing (R308). -/
def State.cqFull (s : State) (r : Nat) : Bool :=
  match (s.ring r).live with
  | l :: _ => l.issued && l.owes && s.quietDesc r l.idx
      && decide (2 ^ s.rd fVF_RING_CQSIZE (s.half r) ≤ ((s.ring r).recs + 2 ^ 16 - s.rd fVF_RING_CQHEAD (s.half r)) % 2 ^ 16)
  | [] => false

/-- One thing that ring `r` does, with the bytes it issues for its turn. -/
def State.ringStep (s : State) (r : Nat) : Option State :=
  match s.stashStep r with
  | some t => some t
  | none =>
    match s.endOldest r with
    | some t => some (t.ringIdle r)
    | none =>
      if s.rstate r ≠ 2 ∨ s.cqFull r then none
      else if (s.ring r).fetched.isEmpty ∧ (s.ring r).fetch = 0 ∧ s.pendingDesc r
          ∧ ((s.ring r).live.all fun l => l.issued && l.idx != s.rd fRUN_RCTX1_HEAD r) then
        (s.fetchBatch r).orElse fun _ => s.descStep r
      else s.descStep r

/-- Rings that have something to do on engine `e`, from the one whose turn it is (R310). -/
def State.turnOrder (s : State) (e : Nat) : List Nat :=
  let rs := ((s.listed fRUN_RCTX1_STATE).filter fun r => s.rd fRUN_RCTX0_ENGINE r == e && s.rstate r != 0)
  let k := (SMap.get (0, 0) s.run.turn e).1
  (rs.filter fun r => k ≤ r) ++ (rs.filter fun r => r < k)

/-- Bytes a step has issued: those of the accesses it added. -/
def issuedBytes (s t : State) : Nat :=
  ((t.run.accs.filter fun a => decide (s.run.nextAcc ≤ a.id)).map (·.len)).sum

/-- The turn after ring `r` of engine `e` has issued `n` bytes: it passes on after WEIGHT × 4 KiB, or when nothing is
pending (R310). -/
def State.turnNext (s : State) (e r n : Nat) : State :=
  let (k, left) := SMap.get (0, 0) s.run.turn e
  let left := if k = r ∧ 0 < left then left else s.rd fRUN_RCTX0_WEIGHT r * 4096
  let turnEnds := decide (left ≤ n) || (!s.pendingDesc r && (s.ring r).live.all fun l => l.issued)
  { s with run := { s.run with turn := SMap.set (0, 0) s.run.turn e (if turnEnds then (r + 1, 0) else (r, left - n)) } }

/-- One thing that engine `e` does: an entry that is due is issued, else the next ring that can takes a step. -/
def State.engineStep (s : State) (e : Nat) : Option State :=
  match (s.run.wc.filter fun w => w.eng == e && w.due && w.acc.isNone).findSome? s.wcIssue with
  | some t => some t
  | none => (s.turnOrder e).findSome? fun r => (s.ringStep r).map fun t => t.turnNext e r (issuedBytes s t)

/-- Engine `e` does what it can now; `n` bounds its steps. -/
def State.pump : Nat → Nat → State → State
  | 0, _, s => s
  | n + 1, e, s =>
    match s.engineStep e with
    | some t => State.pump n e t
    | none => s

/-- The most steps an engine takes before something must come back to it: reads, entries, stores and descriptors are
all bounded (R310, R311). -/
def pumpMax : Nat := 4096

/-- Engine `e` goes on as far as it can. -/
def State.go (s : State) (e : Nat) : State := State.pump pumpMax e s

/-- Ring `r`'s engine goes on. -/
def State.goRing (s : State) (r : Nat) : State := s.go (s.rd fRUN_RCTX0_ENGINE r)

/-- Every engine that has a ring that is not OFF goes on. -/
def State.goAll (s : State) : State :=
  s.each (((s.listed fRUN_RCTX1_STATE).map fun r => s.rd fRUN_RCTX0_ENGINE r).eraseDups) State.go

/-! ### Leaving service (R302, R324) -/

/-- Ring `r` stops (R302): what has not started is dropped, what has started ends ABORTED. -/
def State.ringStop (s : State) (r : Nat) : State :=
  if s.rstate r = 0 ∨ s.rstate r = 5 then s
  else
    let s := s.ringMod r fun g =>
      { g with fetched := [], stash := [], errDue := false,
               live := g.live.map fun l => { l with issued := true, abort := !(l.issued && s.quietDesc r l.idx) } }
    (s.wr fRUN_RCTX1_STATE r 5).wcDue r

/-- The tenant half of slot `h` cleared. -/
def State.halfClear (s : State) (h : Nat) : State :=
  s.each [fVF_RING_TAIL, fVF_RING_CQHEAD, fVF_RING_RBASE_L, fVF_RING_RBASE_H, fVF_RING_CQBASE_L, fVF_RING_CQBASE_H,
    fVF_RING_RSIZE, fVF_RING_CQSIZE, fVF_RING_VEC, fVF_RING_STOPONERR, fVF_RING_EN, fVF_RING_DBERR, fVF_RING_CFGREJ,
    fVF_RING_PHASE, fVF_RING_LASTST, fVF_RING_LASTIDX] fun s f => s.clr1 f h

/-- Ring `r` OFF, with HEAD and progress at 0 and the engine's part empty. -/
def State.ringOff (s : State) (r : Nat) : State :=
  let s := ((s.clr1 fRUN_RCTX1_STATE r).clr1 fRUN_RCTX1_HEAD r).clr1 fRUN_RCTX2_DONE r
  { s with run := { s.run with rings := SMap.erase s.run.rings r } }

/-- A STOPPING ring is OFF: HEAD and the record number stay, and nothing is left to do (R302). -/
def State.ringStopped (s : State) (r : Nat) : State :=
  ((s.wr fRUN_RCTX1_STATE r 0).wr fRUN_RCTX2_DONE r 0).ringMod r fun g => { recs := g.recs }

/-- The ring number of an entry whose ring has been reset under it. -/
def noRing : Nat := 8192

/-- Ring `r` goes OFF at once (R324, R356): open entries are dropped; what is in flight ends unseen. -/
def State.ringKill (s : State) (r : Nat) : State :=
  let s : State := { s with run := { s.run with
    wc := (s.run.wc.filter fun w => w.ring != r || w.acc.isSome).map fun w => if w.ring = r then { w with ring := noRing } else w,
    accs := s.run.accs.map fun a => if a.ring = r then { a with orphan := true, irq := false, idxs := [] } else a } }
  s.ringOff r

/-- What a warm reset does to the Runnel (R324). -/
def State.runWarm (s : State) : State :=
  let rs := s.listed fRUN_RCTX1_STATE
  let s := s.each rs State.ringOff
  let s := s.each [fVF_RING_TAIL, fVF_RING_CQHEAD, fVF_RING_RBASE_L, fVF_RING_RBASE_H, fVF_RING_CQBASE_L, fVF_RING_CQBASE_H,
    fVF_RING_RSIZE, fVF_RING_CQSIZE, fVF_RING_VEC, fVF_RING_STOPONERR, fVF_RING_EN, fVF_RING_DBERR, fVF_RING_CFGREJ,
    fVF_RING_PHASE, fVF_RING_LASTST, fVF_RING_LASTIDX] State.clr
  { s with run := {} }

/-! ### Ends of accesses (R313, R314, R318) -/

/-- Access `id`. -/
def State.acc (s : State) (id : Nat) : Option RunAcc := s.run.accs.find? fun a => a.id == id

/-- Access `a` no longer outstanding, and its entry freed. -/
def State.accEnd (s : State) (a : RunAcc) : State :=
  { s with run := { s.run with accs := s.run.accs.filter fun b => b.id != a.id,
                               wc := s.run.wc.filter fun w => w.acc != some a.id } }

/-- Access `a` acknowledged: counted and timed (R379, R437), with what `f` makes of its descriptors. -/
def State.acked (s : State) (a : RunAcc) : State :=
  let s := (s.accEnd a).mesh (internalNode (88 + a.eng / 8)) (engineNode a.eng) (a.m.answer .sc a.m.poison)
  if a.orphan then s
  else
    let rd := if a.kind = .read ∨ a.kind = .fetch ∨ a.kind = .atomic then a.len else 0
    let wr := if a.kind = .write ∨ a.kind = .record then a.len else 0
    (s.statAck a.ti rd wr (s.pwr.ns - a.at_)).countMsg 0x31 6 a.eng a.m

/-- Access `a` fails with a status (R309). -/
def State.accFail (s : State) (a : RunAcc) (st : Nat) : State :=
  let s := s.accEnd a
  if a.orphan then s
  else match a.kind with
    | .fetch => (s.ringMod a.ring fun g => { g with fetch := 0 }).fetchFail a.ring (s.rd fRUN_RCTX1_HEAD a.ring)
    | .record => s.fetchFail a.ring a.off
    | .write => s.failFor a.ring a.idxs a.id st a.addr a.space true
    | _ => s.failFor a.ring a.idxs a.id st a.addr a.space false

/-- A write's timeout expires: it is dead (R318). -/
def State.writeDead (s : State) (a : RunAcc) : State :=
  let s := (((s.wr fRUN_DEAD_RING 0 a.ring).wr fRUN_DEAD_ENGINE 0 a.eng).wr fRUN_DEAD_SPACE 0 a.space).wrb fRUN_DEAD_VALID 0 true
  let s := (s.wr2 fRUN_DEADADDR_L_ADDR_L fRUN_DEADADDR_H_ADDR_H 0 a.addr).inc fRUN_ERR_WTO 0
  (s.pulse 0x1D0).accFail a 4

/-- The acknowledgement of write or record `a` arrives, or its refusal (R313). -/
def State.writeAck (s : State) (a : RunAcc) (st : Nat) : State :=
  if a.kind ≠ .write ∧ a.kind ≠ .record then s
  else if st ≠ 0 then s.accFail a st
  else
    let s := s.acked a
    if a.irq then s.msiVf a.ti (s.rd fVF_RING_VEC (s.half a.ring)) else s

/-- The data of read or AtomicOp `a` arrive, or its refusal (R313). -/
def State.readData (s : State) (a : RunAcc) (st data : Nat) (poison : Bool) : State :=
  if a.kind ≠ .read ∧ a.kind ≠ .atomic then s
  else if st ≠ 0 then s.accFail a st
  else if poison then s.accFail a 2
  else
    let s := s.acked a
    if a.orphan then s
    else s.each a.idxs fun s i =>
      match (s.ring a.ring).live.find? fun l => l.idx == i with
      | none => s
      | some l =>
        if dOp l.d = 1 then
          s.stashAdd a.ring { idx := i, space := dDsp l.d, addr := (dDst l.d + a.off) % 2 ^ 64, len := a.len,
                              data := data % 2 ^ (8 * a.len) }
        else s.liveMod a.ring i fun l => { l with data := data % 2 ^ (8 * a.len) }

/-- A gate's admit notice for access `a` (R314, R316 to R318). -/
def State.notice (s : State) (a : RunAcc) (rule pairAt early devReg : Bool) (wto : Nat) : State :=
  let own := rule && !a.shared && wto != 0
  let w := if own then wto else 5
  let split := a.m.pair && !(rule && pairAt)
  let s : State := { s with run := { s.run with accs := s.run.accs.map fun b => if b.id = a.id then { b with wto := w } else b } }
  if a.kind = .atomic ∧ split then s.accFail a 8
  else
    let s := s.when_ split fun s => s.each a.idxs fun s i => s.liveMod a.ring i fun l => { l with notpair := true }
    let writes := a.kind == .write || a.kind == .record
    if writes ∧ rule ∧ early ∧ ¬ a.shared ∧ (¬ devReg ∨ s.rdb fRUN_CTL_DEVEARLY 0) then
      (s.each a.idxs fun s i => s.liveMod a.ring i fun l => { l with early := true }).writeAck a 0
    else if writes ∧ a.at_ + w * 1000000 ≤ s.pwr.ns ∧ own then s.writeDead a
    else s

/-! ### Commands: descriptors -/

/-- The next fetched descriptor of ring `r` starts, where it is one that `is` admits: the ring is in RUN, and everything
started before has issued all its accesses.  A descriptor that breaks a rule makes no access (R306).  An ordering point
issues the ring's OPEN entries (R315, R319); one that a loaded context left partly done goes on after its last line (R310, R360). -/
def State.startDesc (s : State) (r : Nat) (is : Nat → Bool) : State :=
  match (s.ring r).fetched with
  | [] => s
  | d :: rest =>
    if s.rstate r ≠ 2 ∨ s.cqFull r ∨ ¬ is d
        ∨ ((s.ring r).live.any fun l => !l.issued || l.idx == s.rd fRUN_RCTX1_HEAD r) then s
    else
      let kind := match s.portOfTenant (s.rd fRUN_RCTX0_OWNER r) with
        | some p => s.winKind p (dDst d)
        | none => 0
      let bad := descBad d kind
      let l : Live := { idx := s.rd fRUN_RCTX1_HEAD r, d := d, off := s.rd fRUN_RCTX2_DONE r }
      let l := if bad = 0 then l
        else { l with issued := true, fail := some (0, bad, dDst d, dDsp d) }
      let s := s.ringMod r fun g => { g with fetched := rest, live := g.live ++ [l] }
      let s := s.when_ (bad != 0 && !s.rdb fVF_RING_STOPONERR (s.half r)) fun s => s.headNext r
      (s.when_ (dRel d || dFence d || dOp d == 6) fun s => s.wcDue r).goRing r

/-- NOP: an ordering point (R304). -/
def execNop (ring : Nat) (s : State) : Host.Outcome State Fault Refusal :=
  onUnit (isRing ring) (s.startDesc ring fun d => dOp d == 0 || decide (6 < dOp d))

/-- COPY (R304). -/
def execCopy (ring : Nat) (s : State) : Host.Outcome State Fault Refusal :=
  onUnit (isRing ring) (s.startDesc ring fun d => dOp d == 1)

/-- FILL (R304). -/
def execFill (ring : Nat) (s : State) : Host.Outcome State Fault Refusal :=
  onUnit (isRing ring) (s.startDesc ring fun d => dOp d == 2)

/-- WRITEI (R304). -/
def execWritei (ring : Nat) (s : State) : Host.Outcome State Fault Refusal :=
  onUnit (isRing ring) (s.startDesc ring fun d => dOp d == 3 && !dMcast d)

/-- WRITEI_MCAST: a WRITEI to a Turnout group (R322). -/
def execWriteiMcast (ring : Nat) (s : State) : Host.Outcome State Fault Refusal :=
  onUnit (isRing ring) (s.startDesc ring fun d => dOp d == 3 && dMcast d)

/-- LOAD (R304). -/
def execLoad (ring : Nat) (s : State) : Host.Outcome State Fault Refusal :=
  onUnit (isRing ring) (s.startDesc ring fun d => dOp d == 4)

/-- ATOMIC FetchAdd of 8 bytes (R317); an ATOMIC with a reserved SUB is taken here too and ends BADDESC. -/
def execAtomicFadd8 (ring : Nat) (s : State) : Host.Outcome State Fault Refusal :=
  onUnit (isRing ring) (s.startDesc ring fun d => dOp d == 5 && (dSub d == 0 || decide (3 < dSub d)))

/-- ATOMIC Swap of 8 bytes (R317). -/
def execAtomicSwap8 (ring : Nat) (s : State) : Host.Outcome State Fault Refusal :=
  onUnit (isRing ring) (s.startDesc ring fun d => dOp d == 5 && dSub d == 1)

/-- ATOMIC CompareAndSwap of 8 bytes (R317). -/
def execAtomicCas8 (ring : Nat) (s : State) : Host.Outcome State Fault Refusal :=
  onUnit (isRing ring) (s.startDesc ring fun d => dOp d == 5 && dSub d == 2)

/-- ATOMIC CompareAndSwap of 16 bytes (R317). -/
def execAtomicCas16 (ring : Nat) (s : State) : Host.Outcome State Fault Refusal :=
  onUnit (isRing ring) (s.startDesc ring fun d => dOp d == 5 && dSub d == 3)

/-- BARRIER (R319). -/
def execBarrier (ring : Nat) (s : State) : Host.Outcome State Fault Refusal :=
  onUnit (isRing ring) (s.startDesc ring fun d => dOp d == 6)

/-- DESCRIPTOR_FETCH_DONE: the batch of ring `ring` arrives, or fails (R310, R323). -/
def execDescriptorFetchDone (ring : Nat) (ok : Bool) (ds : List Nat) (s : State) : Host.Outcome State Fault Refusal :=
  onUnit (isRing ring && ds.all fun d => decide (d < 2 ^ 512))
    (match s.run.accs.find? fun a => a.ring == ring && a.kind == .fetch with
    | none => s
    | some a =>
      if ¬ ok then (s.accFail a 0x0A).goRing ring
      else
        let s := s.acked a
        if a.orphan then s.goRing ring
        else
          let n := (s.ring ring).fetch
          (s.ringMod ring fun g => { g with fetch := 0, fetched := if s.rstate ring = 5 then [] else ds.take n }).goRing ring)

/-! ### Commands: accesses -/

/-- WC_IDLE_ISSUE: an OPEN entry has been idle for WCIDLE; `bad` where its data are lost to an ECC error (R311, R323). -/
def execWcIdleIssue (entry : Nat) (bad : Bool) (s : State) : Host.Outcome State Fault Refusal :=
  .next (match s.run.wc.find? fun w => w.id == entry && w.acc.isNone with
    | none => s
    | some w =>
      let s := s.wcMod entry fun w => { w with due := true, bad := w.bad || bad }
      let s := if bad then (s.failFor w.ring w.idxs s.run.nextAcc 2 w.first w.space true).pulse 0x1D1 else s
      s.go w.eng)

/-- ADMIT_NOTICE: a gate has admitted access `acc` (R314). `rule` tells whether a rule decided.  Of a port of this node the notice
is what that port's gate has told (R285); what the operands say comes from a peer's gate, or of a shared line. -/
def execAdmitNotice (acc : Nat) (rule pairAt earlyAck devReg : Bool) (wto : Nat) (s : State) :
    Host.Outcome State Fault Refusal :=
  onUnit (decide (wto < 256))
    (match s.acc acc with
    | none => s
    | some a =>
      if a.m.node = s.ownNode ∧ a.m.dest < 0x40 then
        (match a.told with
        | some (r, p, e, d, w) => (s.notice a r p e d w).go a.eng
        | none => s)
      else (s.notice a rule pairAt earlyAck devReg wto).go a.eng)

/-- RUNNEL_WRITE_ACK: Cmp, effect or flush completion of a write; what no longer waits for it discards it (R313, R318). -/
def execRunnelWriteAck (acc status : Nat) (s : State) : Host.Outcome State Fault Refusal :=
  onUnit (isCause status)
    (match s.acc acc with
    | none => s
    | some a => (s.writeAck a status).go a.eng)

/-- RUNNEL_READ_DATA: read data, or the old value of an AtomicOp (R313). -/
def execRunnelReadData (acc status data : Nat) (poison : Bool) (s : State) : Host.Outcome State Fault Refusal :=
  onUnit (isCause status)
    (match s.acc acc with
    | none => s
    | some a => (s.readData a status data poison).go a.eng)

/-- RUNNEL_WRITE_TIMEOUT: write `acc` is unacknowledged within its timeout (R318).  A record write that expires is a
record failure. -/
def execRunnelWriteTimeout (acc : Nat) (s : State) : Host.Outcome State Fault Refusal :=
  .next (match s.acc acc with
    | some a => if a.kind = .write ∨ a.kind = .record then (s.writeDead a).go a.eng else s
    | none => s)

/-- RUNNEL_READ_TIMEOUT: read `acc` did not complete within RTO (R318). -/
def execRunnelReadTimeout (acc : Nat) (s : State) : Host.Outcome State Fault Refusal :=
  .next (match s.acc acc with
    | some a => if a.kind = .write ∨ a.kind = .record then s else (s.accFail a 5).go a.eng
    | none => s)

/-! ### Commands: rings -/

/-- RUN_RCTX0_WRITE: the manager half of the selected ring is written (R300). -/
def execRunRctx0Write (val : Nat) (s : State) : Host.Outcome State Fault Refusal :=
  let r := s.rd fRUN_RSEL_RING 0
  let (en, own, k, e) := (bitOf val 0, bitsOf val 1 13, bitsOf val 14 4, bitsOf val 18 5)
  let off := s.rstate r == 0
  let twin := en && (s.listed fRUN_RCTX0_EN).any fun q =>
    q != r && s.rdb fRUN_RCTX0_EN q && s.rd fRUN_RCTX0_OWNER q == own && s.rd fRUN_RCTX0_SLOT q == k
  let dead := en && !bitOf (s.rd fRUN_ENABLE_EN 0) e
  onUnit (decide (val < 2 ^ 32))
    (if off then s.takeIf (!twin && !dead) 15 (fieldsAt 0xF00024) r val
    else if s.discards (fieldsAt 0xF00024) r val then s
    else if en then s.cfgErr 15
    else ((s.wrb fRUN_RCTX0_EN r false).ringStop r).goRing r)

/-- RING_DOORBELL: TAIL is written (R301). -/
def execRingDoorbell (ti k val : Nat) (s : State) : Host.Outcome State Fault Refusal :=
  let h := slotIx ti k
  onUnit (decide (ti < 8192 ∧ k < 16 ∧ val < 2 ^ 32))
    (match (if s.slotOpen ti then s.ringOf ti k else none) with
    | none => s
    | some r =>
      let n := (bitsOf val 0 16 + 2 ^ 16 - s.rd fRUN_RCTX1_HEAD r) % 2 ^ 16
      if 2 ^ s.rd fVF_RING_RSIZE h < n then s.wrb fVF_RING_DBERR h true
      else
        let s := s.wr fVF_RING_TAIL h (bitsOf val 0 16)
        if s.rstate r = 1 ∧ s.pendingDesc r then (s.enterRun r).goRing r else s.goRing r)

/-- A write of CTL of slot (ti, k), for the rows that are ENABLE, DISABLE and RESUME (R302): RESUME acts before EN. -/
def State.ctlWrite (s : State) (ti k val : Nat) : State :=
  let h := slotIx ti k
  match (if s.slotOpen ti then s.ringOf ti k else none) with
  | none => s
  | some r =>
    let s := if bitOf val 1 ∧ s.rstate r = 4 then
        let s := if s.rd fRUN_RCTX1_HEAD r = s.rd fVF_RING_LASTIDX h then s.headNext r else s
        let s := s.wr fRUN_RCTX1_STATE r 1
        if s.pendingDesc r then s.enterRun r else s
      else s
    let was := s.rdb fVF_RING_EN h
    let s := s.wrb fVF_RING_EN h (bitOf val 0)
    let s := if bitOf val 0 ∧ s.rstate r = 0 ∧ s.sizesOk h then
        let s := s.wr fRUN_RCTX1_STATE r 1
        if s.pendingDesc r ∨ s.ringQuiet r then s.enterRun r else s
      else if was ∧ ¬ bitOf val 0 then s.ringStop r else s
    s.goRing r

/-- RING_ENABLE: CTL is written with EN = 1 (R302). -/
def execRingEnable (ti k val : Nat) (s : State) : Host.Outcome State Fault Refusal :=
  onUnit (decide (ti < 8192 ∧ k < 16 ∧ val < 2 ^ 32)) (if bitOf val 0 then s.ctlWrite ti k val else s)

/-- RING_DISABLE: CTL is written with EN = 0 (R302). -/
def execRingDisable (ti k val : Nat) (s : State) : Host.Outcome State Fault Refusal :=
  onUnit (decide (ti < 8192 ∧ k < 16 ∧ val < 2 ^ 32)) (if bitOf val 0 then s else s.ctlWrite ti k val)

/-- RING_RESUME: CTL is written with RESUME = 1 (R302). -/
def execRingResume (ti k val : Nat) (s : State) : Host.Outcome State Fault Refusal :=
  onUnit (decide (ti < 8192 ∧ k < 16 ∧ val < 2 ^ 32)) (if bitOf val 1 then s.ctlWrite ti k val else s)

/-- RING_STOPPED: every access a STOPPING ring issued has ended (R302). -/
def execRingStopped (ring : Nat) (s : State) : Host.Outcome State Fault Refusal :=
  onUnit (isRing ring)
    (if s.rstate ring = 5 ∧ ¬ (s.run.accs.any fun a => a.ring == ring && !a.orphan)
        ∧ ¬ (s.run.wc.any fun w => w.ring == ring) then
      s.ringStopped ring
    else s)

/-- RING_CFG_WRITE: CFG, RBASE or CQBASE of a slot is written (R326); taken only while the ring is OFF. -/
def execRingCfgWrite (ti k off val : Nat) (s : State) : Host.Outcome State Fault Refusal :=
  let h := slotIx ti k
  onUnit (decide (ti < 8192 ∧ k < 16 ∧ val < 2 ^ 32) && [0x08, 0x0C, 0x10, 0x14, 0x18].contains off)
    (match (if s.slotOpen ti then s.ringOf ti k else none) with
    | none => s
    | some r =>
      let a := 0x2000000000 + 256 * h + off
      if s.rstate r ≠ 0 then s.wrb fVF_RING_CFGREJ h true
      else if off = 0x08 ∨ off = 0x10 then s.stageLow a val
      else
        (if off = 0x0C ∨ off = 0x14 then s.takeStaged (a - 4) h (wordFields 0x2000000000 (off / 4 - 1) 7) else s).setRW
          (wordFields 0x2000000000 (off / 4) 7) h val)

/-- CQHEAD_WRITE: the tenant has consumed records (R308). -/
def execCqheadWrite (ti k val : Nat) (s : State) : Host.Outcome State Fault Refusal :=
  onUnit (decide (ti < 8192 ∧ k < 16 ∧ val < 2 ^ 32))
    (match (if s.slotOpen ti then s.ringOf ti k else none) with
    | none => s
    | some r => (s.wr fVF_RING_CQHEAD (slotIx ti k) (bitsOf val 0 16)).goRing r)

/-- Rings whose pause has begun or ended take note, and engines go on (R310). -/
def State.pauseAll (s : State) : State :=
  let rs := (s.listed fRUN_RCTX1_STATE).filter fun r => s.rstate r == 2 || s.rstate r == 3
  (s.each rs fun s r => (s.ringPause r).ringRelease r).goAll

/-- RUN_PAUSE_WRITE: engines are paused or released (R310). -/
def execRunPauseWrite (val : Nat) (s : State) : Host.Outcome State Fault Refusal :=
  onUnit (decide (val < 2 ^ 32)) (s.wr fRUN_PAUSE_PAUSE 0 val).pauseAll

/-- RUN_ENABLE_WRITE: engines are enabled or disabled (R324); an engine that an enabled ring names cannot be disabled.
Groups are powered as R65 says. -/
def execRunEnableWrite (val : Nat) (s : State) : Host.Outcome State Fault Refusal :=
  let used := (s.listed fRUN_RCTX0_EN).any fun r => s.rdb fRUN_RCTX0_EN r && !bitOf val (s.rd fRUN_RCTX0_ENGINE r)
  onUnit (decide (val < 2 ^ 32))
    (if used then s.cfgErr 15 else (s.wr fRUN_ENABLE_EN 0 val).domKicks [80, 81, 82, 83])

/-- `k` ticks of 256 ns: buckets are credited, held requests considered, and rings that waited for tokens go on (R330, R332,
R333). -/
def State.tick256 (s : State) (k : Nat) : State := (s.refill k).considerAll.goAll

end Sys2Proof.Machine
end

