-- ==== Sys2Proof/Machine/Ten.lean ====
section
/-! DEFINITION. Tenant instances (R346 to R367): states, mailbox and notices, quiesce and reset, context transfer, and the
commands of dirty-page logging. -/

namespace Sys2Proof.Machine

/-- STATE of instance `ti`: 0 UNBOUND, 1 IDLE, 2 ACTIVE, 3 QUIESCING, 4 QUIESCED, 5 RESETTING (R349). -/
def State.tstate (s : State) (ti : Nat) : Nat := s.rd fTEN_TISTAT_STATE ti

/-- STATE of instance `ti` set. -/
def State.tset (s : State) (ti v : Nat) : State := s.wr fTEN_TISTAT_STATE ti v

/-- The instance that the selected registers act on. -/
def State.tsel (s : State) : Nat := s.rd fTEN_SEL_TI 0

/-! ### Notices and the mailbox (R350 to R353) -/

/-- Notice bits `bits` set; NVEC is signalled where one goes from 0 to 1 and NIEN is set (R353). -/
def State.noticeSet (s : State) (ti bits : Nat) : State :=
  let old := s.rd fVF_MB_NOTICE ti
  let s := s.wr fVF_MB_NOTICE ti (old ||| bits)
  if clearBits bits old ≠ 0 ∧ s.rdb fVF_MB_NIEN ti then s.msiVf ti (s.rd fVF_MB_NVEC ti) else s

/-- The mailbox of instance `ti` is POSTED. -/
def State.posted (s : State) (ti : Nat) : Bool := s.rd fVF_MB_MSTATE ti == 1

/-- The lowest POSTED instance. -/
def State.firstPosted (s : State) : Nat := ((s.listed fVF_MB_MSTATE).find? s.posted).getD 0

/-- The manager is told of a posted mailbox, at most once per COAL µs (R352). -/
def State.mbNotify (s : State) : State :=
  if (match s.ten.notLast with
      | none => true
      | some t => decide (t + s.rd fTEN_CTL_COAL 0 * 1000 ≤ s.pwr.ns)) then
    let s := s.notify 3 (s.firstPosted * 2 ^ 32)
    { s with ten := { s.ten with notLast := some s.pwr.ns } }
  else s

/-- RVEC signalled for a response where RIEN is set. -/
def State.rvec (s : State) (ti : Nat) : State :=
  if s.rdb fVF_MB_RIEN ti then s.msiVf ti (s.rd fVF_MB_RVEC ti) else s

/-- MAILBOX_DOORBELL: the tenant writes LEN (R351). -/
def execMailboxDoorbell (ti val : Nat) (s : State) : Host.Outcome State Fault Refusal :=
  let n := bitsOf val 0 9
  onUnit (decide (ti < 8192 ∧ val < 2 ^ 32))
    (if ¬ s.slotOpen ti then s
    else if n = 0 ∨ 256 < n ∨ s.posted ti then (s.wrb fVF_MB_DBERR ti true).inc fTEN_ERR_DBERR 0
    else
      ((((s.wr fVF_MB_MSTATE ti 1).wr fVF_MB_SEQ ti (s.rd fVF_MB_SEQ ti + 1)).wr fTEN_MBSTAT_REQLEN ti n)).mbNotify)

/-- MAILBOX_ACK: the tenant writes ACK; DONE returns to FREE (R351). -/
def execMailboxAck (ti val : Nat) (s : State) : Host.Outcome State Fault Refusal :=
  onUnit (decide (ti < 8192 ∧ val < 2 ^ 32))
    (if s.slotOpen ti ∧ bitOf val 0 ∧ s.rd fVF_MB_MSTATE ti = 2 then s.wr fVF_MB_MSTATE ti 0 else s)

/-- MAILBOX_DONE: TEN_MBCMD is written; the staged response reaches the selected instance (R351, R352). -/
def execMailboxDone (val : Nat) (s : State) : Host.Outcome State Fault Refusal :=
  let ti := s.tsel
  onUnit (decide (val < 2 ^ 32))
    (if bitsOf val 24 8 ≠ 0x4D then s
    else if ¬ s.posted ti ∨ bitsOf val 0 16 ≠ s.rd fVF_MB_SEQ ti then s.inc fTEN_ERR_STALE 0
    else
      let s := s.each (List.range 64) fun s w => s.wr fVF_MB_RSP (64 * ti + w) (s.uword (0x1000200 + 4 * w))
      (((s.wr fVF_MB_MSTATE ti 2).wr fVF_MB_RSPLEN ti (s.rd fTEN_MBRSPHDR_RSPLEN 0)).wr fVF_MB_STATUS ti
        (s.rd fTEN_MBRSPHDR_STATUS 0)).rvec ti)

/-- MAILBOX_TIMEOUT: the timer of a posted mailbox expires (R351). -/
def execMailboxTimeout (ti : Nat) (s : State) : Host.Outcome State Fault Refusal :=
  onUnit (isTi ti)
    (if s.posted ti then
      (((((s.wr fVF_MB_MSTATE ti 2).wr fVF_MB_RSPLEN ti 0).wr fVF_MB_STATUS ti 0xFE).inc fTEN_ERR_MBTO 0).pulse 0x1D8).rvec ti
    else s)

/-- TEN_NOTICE_WRITE: the manager sets notice bits 8 to 15 of the selected instance (R353). -/
def execTenNoticeWrite (val : Nat) (s : State) : Host.Outcome State Fault Refusal :=
  onUnit (decide (val < 2 ^ 32)) (s.noticeSet s.tsel (bitsOf val 0 8 * 256))

/-! ### Reset (R357 to R359) -/

/-- What a reset clears of instance `ti` (R357). -/
def State.tenClear (s : State) (ti : Nat) : State :=
  let s := s.each (s.ringsOf ti) State.ringKill
  let s := s.each (List.range 16) fun s k => s.halfClear (slotIx ti k)
  let s := s.each (List.range 64) fun s w => (s.clr1 fVF_MB_REQ (64 * ti + w)).clr1 fVF_MB_RSP (64 * ti + w)
  let s := s.each (List.range 4) fun s v =>
    (((s.clr1 fVF_MSIX_ADDR_L (4 * ti + v)).clr1 fVF_MSIX_ADDR_H (4 * ti + v)).clr1 fVF_MSIX_DATA (4 * ti + v)).clr1 fVF_MSIX_MASK (4 * ti + v)
  s.each [fVF_PBA_PEND, fVF_MB_MSTATE, fVF_MB_STATUS, fVF_MB_RSPLEN, fVF_MB_RVEC, fVF_MB_RIEN, fVF_MB_NVEC, fVF_MB_NIEN, fVF_MB_NOTICE,
    fTEN_MBSTAT_REQLEN, fTEN_TISTAT_FORCED] fun s f => s.clr1 f ti

/-- Instance `ti` enters RESETTING (R349, R357): planned from a RESET command, or from QUIESCED otherwise; a QUIESCE that
has not ended is overtaken. -/
def State.tenReset (s : State) (ti : Nat) (planned fault : Bool) : State :=
  if ¬ (2 ≤ s.tstate ti ∧ s.tstate ti ≤ 4) then s
  else
    let s := if s.tstate ti = 3 then s.wr fTEN_TIRES_RESULT ti 5 else s
    let s := (s.tenClear ti).tset ti 5
    let s : State :=
      { s with ten := { s.ten with planned := if planned then (ti :: s.ten.planned) else s.ten.planned.filter (· != ti),
                                   faulted := if fault then (ti :: s.ten.faulted) else s.ten.faulted.filter (· != ti) } }
    if planned then s else (s.wrb fTEN_TISTAT_UNPLANNED ti true).pulse 0x1DA

/-- The reset of instance `ti` by FLR, VF Enable, NumVFs or its port (R349): unplanned unless it was QUIESCED. -/
def State.tenFlr (s : State) (ti : Nat) : State := s.tenReset ti (s.tstate ti == 4) false

/-- The reset of instance `ti` is complete (R349, R353, R357). -/
def State.tenResetDone (s : State) (ti : Nat) : State :=
  let f := s.ten.faulted.contains ti
  let cmd := s.ten.planned.contains ti && s.rd fTEN_TIRES_RESULT ti == 1
  let s : State :=
    { s with ten := { s.ten with planned := s.ten.planned.filter (· != ti), faulted := s.ten.faulted.filter (· != ti) } }
  let s := s.tset ti (if s.vfLive ti then 2 else if (s.portOfTenant ti).isSome then 1 else 0)
  (s.when_ cmd fun s => s.wr fTEN_TIRES_RESULT ti 2).noticeSet ti (if f then 12 else 4)

/-- Nothing that instance `ti` issued is in flight (R357). -/
def State.tenIdle (s : State) (ti : Nat) : Bool := !(s.run.accs.any fun a => a.ti == ti)

/-- INSTANCE_RESET_COMPLETE (R357). -/
def execInstanceResetComplete (ti : Nat) (s : State) : Host.Outcome State Fault Refusal :=
  onUnit (isTi ti)
    (if s.tstate ti = 5 ∧ (s.ten.planned.contains ti ∨ s.tenIdle ti) then s.tenResetDone ti else s)

/-- UNPLANNED_RESET_TIMEOUT: 100 ms after an unplanned reset began it completes; what is left in flight is orphaned
(R357, R358). -/
def execUnplannedResetTimeout (ti : Nat) (s : State) : Host.Outcome State Fault Refusal :=
  onUnit (isTi ti) (if s.tstate ti = 5 ∧ ¬ s.ten.planned.contains ti then s.tenResetDone ti else s)

/-- Instance `ti` has a fault and recovers by itself (R365). -/
def State.tenFault (s : State) (ti : Nat) : State :=
  if 2 ≤ s.tstate ti ∧ s.tstate ti ≤ 4 then
    (((s.tenReset ti false true).wrb fTEN_TISTAT_FAULT ti true).inc fTEN_RECOV_COUNT ti).pulse 0x1DC
  else s

/-- INSTANCE_FAULT: an uncorrectable error in the instance's context (R365). -/
def execInstanceFault (ti : Nat) (s : State) : Host.Outcome State Fault Refusal := onUnit (isTi ti) (s.tenFault ti)

/-- RING_STOPPING_TIMEOUT: a ring has been STOPPING for longer than QTO (R365). -/
def execRingStoppingTimeout (ring : Nat) (s : State) : Host.Outcome State Fault Refusal :=
  onUnit (isRing ring) (if s.rstate ring = 5 then s.tenFault (s.rd fRUN_RCTX0_OWNER ring) else s)

/-! ### Commands of TEN_TICMD (R349, R354 to R356) -/

/-- TEN_TICMD names operation `op` with its key. -/
def tiCmd (val op : Nat) : Bool := bitsOf val 24 8 == 0x71 && bitsOf val 0 2 == op

/-- A command not in the table for the instance's state (R349). -/
def State.tiWrong (s : State) (ti : Nat) : State := (s.wr fTEN_TIRES_RESULT ti 3).cfgErr 16

/-- QUIESCE: the selected instance's rings pause (R354). -/
def execQuiesce (val : Nat) (s : State) : Host.Outcome State Fault Refusal :=
  let ti := s.tsel
  onUnit (decide (val < 2 ^ 32))
    (if ¬ tiCmd val 1 then s
    else if s.tstate ti ≠ 2 then s.tiWrong ti
    else ((s.tset ti 3).wr fTEN_TIRES_RESULT ti 1).pauseAll)

/-- RESUME: a QUIESCED instance that was not forced is ACTIVE again (R349, R355). -/
def execResume (val : Nat) (s : State) : Host.Outcome State Fault Refusal :=
  let ti := s.tsel
  onUnit (decide (val < 2 ^ 32))
    (if ¬ tiCmd val 2 then s
    else if s.tstate ti ≠ 4 ∨ s.rdb fTEN_TISTAT_FORCED ti then s.tiWrong ti
    else (((s.tset ti 2).wr fTEN_TIRES_RESULT ti 2).noticeSet ti 2).pauseAll)

/-- RESET: a QUIESCED instance is reset, planned (R349, R357). -/
def execReset (val : Nat) (s : State) : Host.Outcome State Fault Refusal :=
  let ti := s.tsel
  onUnit (decide (val < 2 ^ 32))
    (if ¬ tiCmd val 3 then s
    else if s.tstate ti ≠ 4 then s.tiWrong ti
    else (s.wr fTEN_TIRES_RESULT ti 1).tenReset ti true false)

/-- Every condition of R354 holds for instance `ti`. -/
def State.quiet (s : State) (ti : Nat) : Bool :=
  let rs := s.ringsOf ti
  (rs.all fun r => s.rstate r != 2 && s.rstate r != 5)
    && !(s.run.wc.any fun w => rs.contains w.ring)
    && !(s.run.accs.any fun a => a.ti == ti && !a.orphan)
    && (rs.all fun r => (s.ring r).stash.isEmpty && !((s.ring r).live.any fun l => l.issued && l.owes))
    && (!s.logOn ti || (s.logClean ti 0 && s.logClean ti 1))

/-- QUIESCE_COMPLETE: every condition of R354 holds; bits of the instance in the log cache are written back on the way. -/
def execQuiesceComplete (ti : Nat) (s : State) : Host.Outcome State Fault Refusal :=
  onUnit (isTi ti)
    (if s.tstate ti ≠ 3 then s
    else if s.quiet ti then ((s.tset ti 4).wr fTEN_TIRES_RESULT ti 2).noticeSet ti 1
    else (s.logFlush ti 0).logFlush ti 1)

/-- QUIESCE_TIMEOUT: QUIESCING has lasted QTO and is forced (R356). -/
def execQuiesceTimeout (ti : Nat) (s : State) : Host.Outcome State Fault Refusal :=
  let t := (s.each (s.ringsOf ti) State.ringKill).each (List.range 16) fun s k => s.halfClear (slotIx ti k)
  onUnit (isTi ti)
    (if s.tstate ti ≠ 3 then s
    else ((((t.tset ti 4).wrb fTEN_TISTAT_FORCED ti true).wr fTEN_TIRES_RESULT ti 4).noticeSet ti 1).pulse 0x1D9)

/-! ### Context transfer (R360) -/

/-- Word `w` of TEN_CTX. -/
def State.ctxWord (s : State) (w : Nat) : Nat := s.uword (0x1000800 + 4 * w)

/-- The ten words of slot `h` that the image holds: BAR2 words 0x00 to 0x20. -/
def State.slotWords (s : State) (h r : Nat) : List Nat :=
  [s.rd fVF_RING_TAIL h, s.rd fVF_RING_CQHEAD h, s.rd fVF_RING_RBASE_L h * 2 ^ 12, s.rd fVF_RING_RBASE_H h,
   s.rd fVF_RING_CQBASE_L h * 2 ^ 12, s.rd fVF_RING_CQBASE_H h,
   s.rd fVF_RING_RSIZE h + s.rd fVF_RING_CQSIZE h * 2 ^ 5 + s.rd fVF_RING_VEC h * 2 ^ 10 + s.rd fVF_RING_STOPONERR h * 2 ^ 12,
   s.rd fVF_RING_EN h,
   s.rstate r + s.rd fRUN_RCTX1_HEAD r * 2 ^ 3 + s.rd fVF_RING_DBERR h * 2 ^ 19 + s.rd fVF_RING_CFGREJ h * 2 ^ 20
     + s.rd fVF_RING_PHASE h * 2 ^ 21]

/-- The ring of slot `k`, or one that no slot names. -/
def State.slotRing (s : State) (ti k : Nat) : Nat := (s.ringOf ti k).getD noRing

/-- The words of the context image of instance `ti`, without the CRC. -/
def State.ctxImage (s : State) (ti : Nat) : List Nat :=
  ((List.range 64).map fun w => s.rd fVF_MB_REQ (64 * ti + w))
  ++ ((List.range 64).map fun w => s.rd fVF_MB_RSP (64 * ti + w))
  ++ [s.rd fVF_MB_MSTATE ti + s.rd fVF_MB_SEQ ti * 2 ^ 2 + s.rd fTEN_MBSTAT_REQLEN ti * 2 ^ 18,
      s.rd fVF_MB_RSPLEN ti + s.rd fVF_MB_STATUS ti * 2 ^ 16,
      s.rd fVF_MB_RVEC ti + s.rd fVF_MB_RIEN ti * 2 ^ 2 + s.rd fVF_MB_NVEC ti * 2 ^ 3 + s.rd fVF_MB_NIEN ti * 2 ^ 5,
      s.rd fVF_MB_NOTICE ti, 0x54494358, 1]
  ++ List.replicate 122 0
  ++ (List.range 16).flatMap fun k =>
      let r := s.slotRing ti k
      let h := slotIx ti k
      (if r = noRing then List.replicate 9 0 else s.slotWords h r)
        ++ [s.rd fRUN_RCTX2_DONE r, (s.ring r).recs] ++ List.replicate (if k = 15 then 4 else 5) 0

/-- The CRC of an image (R232, R360). -/
def ctxCrc (ws : List Nat) : Nat := crc32 (ws.flatMap fun w => toLeBytes 4 w)

/-- Reserved words of an image, and reserved bits, that are not 0. -/
def State.ctxReserved (s : State) : Bool :=
  let w := s.ctxWord
  ((List.range 122).any fun i => w (134 + i) != 0) || bitsOf (w 133) 16 16 != 0
    || bitsOf (w 128) 27 5 != 0 || bitsOf (w 129) 9 7 != 0 || bitsOf (w 129) 24 8 != 0 || bitsOf (w 131) 16 16 != 0
    || (List.range 16).any fun k =>
      let b := 256 + 16 * k
      bitsOf (w (b + 9)) 24 8 != 0 || bitsOf (w (b + 10)) 16 16 != 0
        || (List.range (if k = 15 then 4 else 5)).any fun i => w (b + 11 + i) != 0

/-- The refusal of a LOAD by the image's checks, as RESULT; 0 for none (R360). -/
def State.ctxBad (s : State) (ti : Nat) : Nat :=
  if s.tstate ti ≠ 4 ∨ s.rdb fTEN_TISTAT_FORCED ti then 3
  else if s.ctxWord 132 ≠ 0x54494358 ∨ bitsOf (s.ctxWord 133) 0 16 ≠ 1 then 5
  else if ctxCrc ((List.range 511).map s.ctxWord) ≠ s.ctxWord 511 then 4
  else if s.ctxReserved then 5 else 0

/-- TEN_CTXCMD names operation `op` with its key. -/
def ctxCmd (val op : Nat) : Bool := bitsOf val 24 8 == 0x2E && bitsOf val 0 2 == op

/-- A context transfer starts (R360), or is refused with a RESULT. -/
def State.ctxStart (s : State) (op bad : Nat) : State :=
  if s.ten.moving.isSome then s.cfgErr 16
  else if bad ≠ 0 then s.wr fTEN_CTXSTAT_RESULT 0 bad
  else { s.wr fTEN_CTXSTAT_RESULT 0 1 with ten := { s.ten with moving := some (s.tsel, op) } }

/-- CONTEXT_SAVE: TEN_CTXCMD with OP SAVE (R360). -/
def execContextSave (val : Nat) (s : State) : Host.Outcome State Fault Refusal :=
  onUnit (decide (val < 2 ^ 32)) (if ctxCmd val 1 then s.ctxStart 1 (if s.tstate s.tsel = 4 then 0 else 3) else s)

/-- CONTEXT_LOAD: TEN_CTXCMD with OP LOAD (R360). -/
def execContextLoad (val : Nat) (s : State) : Host.Outcome State Fault Refusal :=
  onUnit (decide (val < 2 ^ 32)) (if ctxCmd val 2 then s.ctxStart 2 (s.ctxBad s.tsel) else s)

/-- The image of instance `ti` put into TEN_CTX with its CRC. -/
def State.ctxSave (s : State) (ti : Nat) : State :=
  let ws := s.ctxImage ti
  s.each ((ws ++ [ctxCrc ws]).zipIdx) fun s wi => s.uset (0x1000800 + 4 * wi.2) wi.1

/-- Slot `k` of instance `ti` loaded from TEN_CTX; a slot that is not OFF needs an enabled ring, else it is skipped. -/
def State.slotLoad (s : State) (ti k : Nat) : State :=
  let w := fun i => s.ctxWord (256 + 16 * k + i)
  let h := slotIx ti k
  let st := bitsOf (w 8) 0 3
  match s.ringOf ti k with
  | none => if st = 0 then s else s.putb fTEN_CTXSTAT_SKIP 0 k true
  | some r =>
    let s := ((s.wr fVF_RING_TAIL h (w 0)).wr fVF_RING_CQHEAD h (w 1)).wr fVF_RING_RBASE_L h (w 2 / 2 ^ 12)
    let s := ((s.wr fVF_RING_RBASE_H h (w 3)).wr fVF_RING_CQBASE_L h (w 4 / 2 ^ 12)).wr fVF_RING_CQBASE_H h (w 5)
    let s := ((s.wr fVF_RING_RSIZE h (w 6)).wr fVF_RING_CQSIZE h (w 6 / 2 ^ 5)).wr fVF_RING_VEC h (w 6 / 2 ^ 10)
    let s := ((s.wr fVF_RING_STOPONERR h (w 6 / 2 ^ 12)).wr fVF_RING_EN h (w 7)).wr fVF_RING_DBERR h (w 8 / 2 ^ 19)
    let s := ((s.wr fVF_RING_CFGREJ h (w 8 / 2 ^ 20)).wr fVF_RING_PHASE h (w 8 / 2 ^ 21)).wr fRUN_RCTX1_HEAD r (w 8 / 2 ^ 3)
    let s := (s.wr fRUN_RCTX2_DONE r (w 9)).wr fRUN_RCTX1_STATE r st
    s.ringMod r fun _ => { recs := w 10 % 2 ^ 16 }

/-- TEN_CTX copied into instance `ti` (R360); a mailbox that is loaded as POSTED is pending, and the manager is told (R352). -/
def State.ctxLoad (s : State) (ti : Nat) : State :=
  let w := s.ctxWord
  let s := s.wr fTEN_CTXSTAT_SKIP 0 0
  let s := s.each (List.range 64) fun s i => (s.wr fVF_MB_REQ (64 * ti + i) (w i)).wr fVF_MB_RSP (64 * ti + i) (w (64 + i))
  let s := ((s.wr fVF_MB_MSTATE ti (w 128)).wr fVF_MB_SEQ ti (w 128 / 2 ^ 2)).wr fTEN_MBSTAT_REQLEN ti (w 128 / 2 ^ 18)
  let s := (s.wr fVF_MB_RSPLEN ti (w 129)).wr fVF_MB_STATUS ti (w 129 / 2 ^ 16)
  let s := ((s.wr fVF_MB_RVEC ti (w 130)).wr fVF_MB_RIEN ti (w 130 / 2 ^ 2)).wr fVF_MB_NVEC ti (w 130 / 2 ^ 3)
  let s := (s.wr fVF_MB_NIEN ti (w 130 / 2 ^ 5)).wr fVF_MB_NOTICE ti (w 131)
  (s.each (List.range 16) fun s k => s.slotLoad ti k).when_ (w 128 % 4 == 1) State.mbNotify

/-- CONTEXT_TRANSFER_DONE: a SAVE or LOAD completes (R360); an instance that has left QUIESCED meanwhile ends it with
wrong state. -/
def execContextTransferDone (s : State) : Host.Outcome State Fault Refusal :=
  .next (match s.ten.moving with
    | none => s
    | some (ti, op) =>
      let s : State := { s with ten := { s.ten with moving := none } }
      if s.tstate ti ≠ 4 then s.wr fTEN_CTXSTAT_RESULT 0 3
      else (if op = 1 then s.ctxSave ti else s.ctxLoad ti).wr fTEN_CTXSTAT_RESULT 0 2)

/-! ### Dirty-page logging (R361 to R363) -/

/-- LOG_ENABLE: TEN_LOGCTL of the selected instance is written with EN = 1 (R361); while EN reads 1 such a write is
discarded under R18. -/
def execLogEnable (val : Nat) (s : State) : Host.Outcome State Fault Refusal :=
  let ti := s.tsel
  onUnit (decide (val < 2 ^ 32))
    (if ¬ bitOf val 0 then s
    else if s.logOn ti then s.cfgErr 16
    else ((s.wr fTEN_LOGCTL_LPORT ti (bitsOf val 1 6)).wrb fTEN_LOGCTL_EN ti true).wr fTEN_LOGSTAT_BUF ti 0)

/-- Writes of instance `ti` in space HOST that are in flight. -/
def State.hostWrites (s : State) (ti : Nat) : List Nat :=
  (s.run.accs.filter fun a => a.ti == ti && a.space == 1 && (a.kind == .write || a.kind == .record || a.kind == .atomic)).map (·.id)

/-- LOG_DISABLE: TEN_LOGCTL is written with EN = 0: the cache is flushed, and logging stops when BUSY clears (R363).  With
EN at 0 the write sets LPORT. -/
def execLogDisable (val : Nat) (s : State) : Host.Outcome State Fault Refusal :=
  let ti := s.tsel
  onUnit (decide (val < 2 ^ 32))
    (if bitOf val 0 then s
    else if ¬ s.rdb fTEN_LOGCTL_EN ti then
      (if s.ten.stopping.contains ti then s.cfgErr 16 else s.wr fTEN_LOGCTL_LPORT ti (bitsOf val 1 6))
    else
      let s := (s.wrb fTEN_LOGCTL_EN ti false).wrb fTEN_LOGSTAT_BUSY ti true
      let s : State :=
        { s with ten := { s.ten with stopping := ti :: s.ten.stopping.filter (· != ti),
                                     preFlip := SMap.set [] s.ten.preFlip ti (s.hostWrites ti) } }
      (s.logFlush ti 0).logFlush ti 1)

/-- LOG_FLIP: TEN_LOGCMD with FLIP makes the other buffer active (R362); discarded while BUSY. -/
def execLogFlip (val : Nat) (s : State) : Host.Outcome State Fault Refusal :=
  let ti := s.tsel
  let b := s.rd fTEN_LOGSTAT_BUF ti
  onUnit (decide (val < 2 ^ 32))
    (if bitsOf val 24 8 ≠ 0x6B ∨ ¬ bitOf val 0 then s
    else if s.rdb fTEN_LOGSTAT_BUSY ti then s.cfgErr 16
    else
      let s := (s.wr fTEN_LOGSTAT_BUF ti (1 - b)).wrb fTEN_LOGSTAT_BUSY ti true
      State.logFlush { s with ten := { s.ten with preFlip := SMap.set [] s.ten.preFlip ti (s.hostWrites ti) } } ti b)

/-- LOG_FLIP_DONE: writes issued before the flip have ended and every bit of the old buffer is proved (R362, R363). -/
def execLogFlipDone (ti : Nat) (s : State) : Host.Outcome State Fault Refusal :=
  let old := 1 - s.rd fTEN_LOGSTAT_BUF ti
  let stop := s.ten.stopping.contains ti
  let live := (SMap.get [] s.ten.preFlip ti).any fun id => s.run.accs.any fun a => a.id == id
  onUnit (isTi ti)
    (if ¬ s.rdb fTEN_LOGSTAT_BUSY ti ∨ live ∨ ¬ s.logClean ti old ∨ (stop ∧ ¬ s.logClean ti (1 - old)) then s
    else
      { s.wrb fTEN_LOGSTAT_BUSY ti false with
        ten := { s.ten with stopping := s.ten.stopping.filter (· != ti), preFlip := SMap.erase s.ten.preFlip ti } })

/-- LOG_CACHE_EVICT: a word leaves the log cache (R362). -/
def execLogCacheEvict (ti buf word : Nat) (s : State) : Host.Outcome State Fault Refusal :=
  onUnit (isTi ti && decide (buf < 2))
    (match s.ten.cache.find? fun w => w.ti == ti && w.buf == buf && w.word == word with
    | some w => s.logEvict w
    | none => s)

/-- LOG_BUFFER_COMPLETION: the read, write or proving read of write-back `id` completes or fails (R362, R363). -/
def execLogBufferCompletion (id data : Nat) (ok : Bool) (s : State) : Host.Outcome State Fault Refusal :=
  .next (match s.ten.backs.find? fun b => b.id == id && b.phase != 0 with
    | none => s
    | some b =>
      if ¬ ok ∨ b.denied then s.backEnd b false
      else if b.phase = 1 then s.backSend b 2 ((data % 2 ^ 64) ||| b.w.bits)
      else if b.phase = 2 then s.backSend b 3 0
      else s.backEnd b true)

/-- Every instance that is not UNBOUND or IDLE is reset by a warm reset, and logs are lost (R366). -/
def State.tenWarm (s : State) : State :=
  let s := s.each (s.listed fTEN_LOGCTL_EN) fun s ti =>
    if s.rdb fTEN_LOGCTL_EN ti then (s.wrb fTEN_LOGCTL_EN ti false).wrb fTEN_LOGSTAT_LOST ti true else s
  let s := s.each (s.listed fTEN_TISTAT_STATE) State.tenFlr
  let s := (s.clr fTEN_LOGSTAT_BUSY).wr fTEN_CTXSTAT_RESULT 0 0
  { s with ten := { s.ten with cache := [], backs := [], stopping := [], preFlip := [], moving := none, notLast := none } }

/-- The instances of port `p` are reset with it (R359, R366). -/
def State.tenPort (s : State) (p : Nat) : State :=
  let b := 64 * s.rd fPRT_TIBLK_BASE p
  s.each ((s.listed fTEN_TISTAT_STATE).filter fun ti => decide (b ≤ ti ∧ ti < b + 64 * s.rd fPRT_TIBLK_CNT p)) State.tenFlr

end Sys2Proof.Machine
end

