-- ==== Sys2Proof/Machine/Snf.lean ====
section
/-! DEFINITION. The snoop filter (R237 to R258): placement, entries, replacement, errors, suspect sets and retired ways,
and the broadcast mask. -/

namespace Sys2Proof.Machine

/-! ### Placement (R239, R240) -/

/-- The slice of line address `l` (A[51:6]). -/
def lineSlice (l : Nat) : Nat := l % 16

/-- The set of a line in its slice. -/
def lineSet (l : Nat) : Nat := (l / 16 % 65536) ^^^ (l / 2 ^ 20 % 65536)

/-- ATAG of a line. -/
def lineTag (l : Nat) : Nat := l / 2 ^ 20 % 2 ^ 26

/-- The line that set `i` of slice `sl` holds with tag `t`. -/
def lineAt (sl i t : Nat) : Nat := t * 2 ^ 20 + (i ^^^ (t % 65536)) * 16 + sl

/-- The set number over all slices. -/
def setKey (sl i : Nat) : Nat := 65536 * sl + i

/-- Way `w` of a set. -/
def wayKey (k w : Nat) : Nat := 32 * k + w

/-- Ways per set (R240). -/
def State.waysPerSet (s : State) : Nat :=
  match s.rd fARCH_PROFILE_ACTIVE 0 with | 1 => 20 | 2 => 8 | _ => 16

/-- The entry of a way. -/
def State.fentry (s : State) (k : Nat) : FEntry := SMap.get {} s.wm.ways k

/-- The entry of a way set; a way in state I is empty. -/
def State.setFentry (s : State) (k : Nat) (e : FEntry) : State :=
  { s with wm := { s.wm with ways := SMap.set {} s.wm.ways k (if e.state = 0 then {} else e) } }

/-- The line an entry stands for. -/
def State.lineOf (s : State) (k : Nat) : Nat :=
  lineAt (k / 32 / 65536) (k / 32 % 65536) (s.fentry k).atag

/-- The open transaction on a line. -/
def State.txn (s : State) (l : Nat) : Option Txn := SMap.get none s.wm.txns l

/-- A transaction names the way (R244). -/
def State.pinned (s : State) (k : Nat) : Bool :=
  s.wm.txns.any fun e => match e.2 with | some t => t.way == some k | none => false

/-- The way is retired (R256). -/
def State.retired (s : State) (k : Nat) : Bool :=
  let sl := k / 32 / 65536
  (List.range 64).any fun j =>
    s.rdb fSNF_RET_VALID (64 * sl + j) && s.rd fSNF_RET_SET (64 * sl + j) == k / 32 % 65536
      && s.rd fSNF_RET_WAY (64 * sl + j) == k % 32

/-- The ways of a set. -/
def State.setWays (s : State) (k : Nat) : List Nat := (List.range s.waysPerSet).map (wayKey k)

/-- The way that holds line `l`, where none is claimed for another. -/
def State.findWay (s : State) (l : Nat) : Option Nat :=
  (s.setWays (setKey (lineSlice l) (lineSet l))).find? fun k =>
    let e := s.fentry k
    e.state != 0 && e.atag == lineTag l

/-! ### Errors (R238, R252, R253, R256) -/

/-- SNF_LASTERR records an entry error. -/
def State.snfLast (s : State) (k kind : Nat) : State :=
  ((((s.wr fSNF_LASTERR_SLICE 0 (k / 32 / 65536)).wr fSNF_LASTERR_SET 0 (k / 32)).wr fSNF_LASTERR_WAY 0 (k % 32)).wr
    fSNF_LASTERR_KIND 0 kind).wrb fSNF_LASTERR_VALID 0 true

/-- The set is suspect (R253). -/
def State.suspect (s : State) (sl i : Nat) : Bool :=
  s.rdb fSNF_SLICE_ALLSUSP sl
    || (List.range 16).any fun j => s.rdb fSNF_SUSP_VALID (16 * sl + j) && s.rd fSNF_SUSP_SET (16 * sl + j) == i

/-- A set becomes suspect; a 17th makes the whole slice so. -/
def State.makeSuspect (s : State) (sl i : Nat) : State :=
  if s.suspect sl i then s else
  match (List.range 16).find? fun j => !s.rdb fSNF_SUSP_VALID (16 * sl + j) with
  | some j =>
    ((s.wrb fSNF_SUSP_VALID (16 * sl + j) true).wr fSNF_SUSP_SET (16 * sl + j) i).wr fSNF_SLICE_SUSPECT sl
      (s.rd fSNF_SLICE_SUSPECT sl + 1)
  | none => s.wrb fSNF_SLICE_ALLSUSP sl true

/-- Every suspect set of slice `sl` cleared (R255). -/
def State.clearSuspect (s : State) (sl : Nat) : State :=
  let s := s.each (List.range 16) fun s j => (s.wrb fSNF_SUSP_VALID (16 * sl + j) false).wr fSNF_SUSP_SET (16 * sl + j) 0
  (s.wr fSNF_SLICE_SUSPECT sl 0).wrb fSNF_SLICE_ALLSUSP sl false

/-- A node with agent slot `a`, if one takes part in coherence (R176). -/
def State.slotNode (s : State) (a : Nat) : Option Nat :=
  (List.range 16).find? fun n => s.rdb fLEAT_ROUTE_AGEN n && s.rd fLEAT_ROUTE_AGENT n == a

/-- The entry breaks an invariant of R238. -/
def State.entryBad (s : State) (e : FEntry) : Bool :=
  e.state != 0 &&
    (decide (4 < e.state)
    || ((e.state == 2 || e.state == 4) && e.pres != 2 ^ e.owner)
    || (e.state == 1 && (e.pres == 0 || e.owner != 127))
    || (e.state == 3 && e.owner != 127)
    || decide (s.rd fWM_SRGN_STATE e.region < 2)
    || (List.range 8).any fun a => bitOf e.pres (64 + a) && (s.slotNode a).isNone)

/-- An uncorrectable entry, or one that breaks an invariant (`inv`), is handled (R253). -/
def State.badEntry (s : State) (k : Nat) (inv : Bool) : State :=
  let s := if inv then s.inc fSNF_ERR_INVAR 0 else s.inc fSNF_ERR_UNC 0
  let s := (s.snfLast k (if inv then 2 else 1)).pulse 0x1B8
  if s.pinned k then s else (s.setFentry k {}).makeSuspect (k / 32 / 65536) (k / 32 % 65536)

/-- How many ways of a set are retired. -/
def State.retiredIn (s : State) (k : Nat) : Nat := ((s.setWays (k / 32)).filter s.retired).length

/-- A way retired as a hard fault, its entry gone already; full tables raise the retire-full source (R256). -/
def State.retire (s : State) (k : Nat) : State :=
  let sl := k / 32 / 65536
  if s.retired k then s
  else match (List.range 64).find? fun j => !s.rdb fSNF_RET_VALID (64 * sl + j) with
    | some j =>
      (((s.wrb fSNF_RET_VALID (64 * sl + j) true).wr fSNF_RET_SET (64 * sl + j) (k / 32)).wr fSNF_RET_WAY (64 * sl + j)
        (k % 32)).wr fSNF_SLICE_RETIRED sl (s.rd fSNF_SLICE_RETIRED sl + 1)
    | none => s

/-- A way may still be retired: room in the table, and no more than half the set's ways gone. -/
def State.mayRetire (s : State) (k : Nat) : Bool :=
  decide (s.rd fSNF_SLICE_RETIRED (k / 32 / 65536) < 64 ∧ 2 * (s.retiredIn k + 1) ≤ s.waysPerSet)

/-! ### Who can hold lines (R258) -/

/-- Agent `a` can hold lines (SNF_BCAST). -/
def State.canHold (s : State) (a : Nat) : Bool :=
  if a < 64 then
    (s.upstream a && s.rdb fPRT_PORTSTAT_CXLMEM a) || (s.downstream a && s.rdb fPRT_PORTSTAT_CXLCACHE a)
  else (s.slotNode (a - 64)).isSome

/-- The agents of SNF_BCAST as a mask. -/
def State.bcastMask (s : State) : Nat := ((List.range 72).map fun a => if s.canHold a then 2 ^ a else 0).sum

/-! ### Replacement (R242) -/

/-- Way `w` is neither retired nor about to be (R256). -/
def State.wayGood (s : State) (w : Nat) : Bool := !s.retired w && !s.wm.retiring.contains w

/-- The ways of set `k` that a claim may take empty: unclaimed and unretired. -/
def State.emptyWay (s : State) (k : Nat) : Option Nat :=
  (s.setWays k).find? fun w => (s.fentry w).state == 0 && !s.pinned w && s.wayGood w

/-- The rank of a victim's state: S before E or M before O. -/
def victimRank (st : Nat) : Nat := if st = 1 then 0 else if st = 3 then 2 else 1

/-- The victim of a claim in set `k`: highest AGE, then state, then lowest way. -/
def State.victim (s : State) (k : Nat) : Option Nat :=
  (((s.setWays k).filter fun w => (s.fentry w).state != 0 && !s.pinned w && s.wayGood w)).foldl
    (fun best w => match best with
      | none => some w
      | some b =>
        let (e, f) := (s.fentry w, s.fentry b)
        if f.age < e.age ∨ (f.age = e.age ∧ victimRank e.state < victimRank f.state) then some w else some b) none

/-- AGE of every other valid unpinned way of the set raised by 15 less the victim's AGE. -/
def State.ageSet (s : State) (k v : Nat) : State :=
  let d := 15 - (s.fentry v).age
  s.each ((s.setWays k).filter fun w => w != v && (s.fentry w).state != 0 && !s.pinned w) fun s w =>
    let e := s.fentry w
    s.setFentry w { e with age := min 15 (e.age + d) }

/-- SUSPECT_CLEAR: SNF_SUSPCLR is written (R255). -/
def execSuspectClear (val : Nat) (s : State) : Host.Outcome State Fault Refusal :=
  onUnit (decide (val < 2 ^ 32))
    (if bitsOf val 24 8 = 0x96 then s.each (setBits 16 val) State.clearSuspect else s)

/-- A pass of the filter's sweepers runs (R245): a purge, a region recall, the profile's recall, or the recall of what a lost home homed.  The
sixteen sweepers run together (DESIGN CHOICE, log entry 122). -/
def State.sweeping (s : State) : Bool :=
  ((List.range 72).any fun a => s.bit fWM_AGDOWN_PURGING a) || s.rd fARCH_APPSTAT_PHASE 0 == 3
    || ((List.range 64).any fun n => s.rd fWM_SRGN_STATE n == 3) || !s.wm.homesGone.isEmpty

/-- Bits [117:0] of a way's entry (R237). -/
def entryBody (e : FEntry) : Nat :=
  e.atag + 2 ^ 26 * e.region + 2 ^ 32 * e.age + 2 ^ 36 * e.state
    + 2 ^ 39 * (if e.state = 0 then 0 else e.owner) + 2 ^ 46 * e.pres

/-- The 128 bits of a way's entry with its check bits (R237); the code is not given (log entry 2). -/
def rawEntry (e : FEntry) : Nat := entryBody e + 2 ^ 118 * (Config.entryEcc (entryBody e)).toNat

/-- What stands in the way of entry `e` when a read finds error `err` there (R251, R258): one bit is turned over where it can be corrected,
and more otherwise; which is a free value (log entry 2). -/
def storedEntry (e : FEntry) (err n : Nat) : Nat :=
  if err = 0 then rawEntry e
  else if err = 2 then rawEntry e ^^^ (Config.flips n).toNat
  else rawEntry e ^^^ 2 ^ ((Config.flips n).toNat % 128)

end Sys2Proof.Machine
end

