-- ==== Sys2Proof/Machine/Wm.lean ====
section
/-! DEFINITION. The Watermaster (R208 to R236): the transition table, transactions, write-backs, NAKs and reservations,
lost holders, peer-homed lines, regions, and the filter's sweeps. -/

namespace Sys2Proof.Machine

/-! ### The transition table (R218, R231) -/

/-- A table row's word. -/
def ttRow (st req cond snp dsrc grant next pw : Nat) (cfree viol stale : Bool) : Nat :=
  st * 2 ^ 29 + req * 2 ^ 25 + cond * 2 ^ 23 + snp * 2 ^ 20 + dsrc * 2 ^ 18 + grant * 2 ^ 15 + next * 2 ^ 12 + pw * 2 ^ 9
    + b2n cfree * 2 ^ 8 + b2n viol * 2 ^ 7 + b2n stale * 2 ^ 6

/-- NEXT for "unchanged" in a stable state. -/
def keepNext (st : Nat) : Nat := if st = 4 then 4 else if st = 3 then 3 else st

/-- The default row for state I (R218). -/
def rowI (req : Nat) : Nat :=
  let r := fun dsrc grant next pw st => ttRow 0 req 1 0 dsrc grant next pw false false st
  match req with
  | 0 => r 1 3 2 0 false
  | 1 | 2 => r 1 4 4 0 false
  | 3 => r 1 1 0 0 false
  | 4 => r 0 0 0 1 false
  | 5 => r 0 0 0 2 false
  | 9 => r 0 0 0 0 false
  | _ => r 0 0 0 0 true

/-- The default row for state S. -/
def rowS (req cond : Nat) : Nat :=
  let r := fun snp dsrc grant next pw v st => ttRow 1 req cond snp dsrc grant next pw false v st
  match req with
  | 0 => r 0 1 2 1 0 false false
  | 1 => r 1 1 4 4 0 false false
  | 2 => r 1 (if cond = 0 then 0 else 1) 4 4 0 false false
  | 3 => r 0 1 1 1 0 false false
  | 4 => r 2 0 0 0 1 false false
  | 5 => r 2 0 0 0 2 false false
  | 9 => r 0 0 0 (if cond = 0 then 6 else 1) 0 false false
  | _ => r 0 0 0 1 0 (cond == 0) (cond != 0)

/-- The default row for states E and M. -/
def rowEM (st req cond : Nat) : Nat :=
  let r := fun snp dsrc grant next pw sl => ttRow st req cond snp dsrc grant next pw false false sl
  if cond = 0 then
    match req with
    | 0 => r 0 1 3 2 0 false
    | 1 => r 0 1 4 4 0 false
    | 2 => r 0 0 4 4 0 false
    | 3 => r 0 1 1 7 0 false
    | 4 => r 3 0 0 0 1 false
    | 5 => r 3 2 0 0 4 false
    | 6 => r 0 0 0 0 3 false
    | 7 => r 0 0 0 1 3 false
    | 8 => r 0 0 0 2 3 false
    | _ => r 0 0 0 0 0 false
  else
    match req with
    | 0 => r 4 2 2 5 0 false
    | 1 | 2 => r 3 2 4 4 0 false
    | 3 => r 5 2 1 7 3 false
    | 4 => r 3 0 0 0 1 false
    | 5 => r 3 2 0 0 4 false
    | 9 => r 0 0 0 (keepNext st) 0 false
    | _ => r 0 0 0 (keepNext st) 0 true

/-- The default row for state O. -/
def rowO (req cond : Nat) : Nat :=
  let r := fun snp dsrc grant next pw cf v sl => ttRow 3 req cond snp dsrc grant next pw cf v sl
  match req with
  | 0 => r 0 3 2 3 0 false false false
  | 1 => r 1 3 4 4 0 true false false
  | 2 => r 1 (if cond = 0 then 0 else 3) 4 4 0 true false false
  | 3 => r 0 3 1 3 0 false false false
  | 4 => r 2 0 0 0 1 true false false
  | 5 => r 2 3 0 0 4 true false false
  | 9 => r 0 0 0 3 0 false false false
  | _ => r 0 0 0 3 0 false (cond == 0) (cond != 0)

/-- The five default internal rows. -/
def rowsInternal : List Nat :=
  [ttRow 1 10 3 2 0 0 0 0 false false false, ttRow 2 10 3 3 0 0 0 3 false false false,
   ttRow 4 10 3 3 0 0 0 3 false false false, ttRow 3 10 3 2 0 0 0 5 true false false,
   ttRow 3 11 3 0 0 0 6 5 true false false]

/-- The default transition table (R218, R231): 105 rows. -/
def defaultTable : List Nat :=
  (List.range 10).map rowI
    ++ ((List.range 10).map fun q => rowS q 0) ++ ((List.range 10).map fun q => rowS q 2)
    ++ ((List.range 10).map fun q => rowEM 2 q 0) ++ ((List.range 10).map fun q => rowEM 2 q 2)
    ++ ((List.range 10).map fun q => rowO q 0) ++ ((List.range 10).map fun q => rowO q 1)
    ++ ((List.range 10).map fun q => rowO q 2)
    ++ ((List.range 10).map fun q => rowEM 4 q 0) ++ ((List.range 10).map fun q => rowEM 4 q 2) ++ rowsInternal

/-- STATE, REQ and COND of a row, as one number. -/
def rowKey (w : Nat) : Nat := w / 2 ^ 23
/-- SNP of a row. -/
def rSnp (w : Nat) : Nat := bitsOf w 20 3
/-- DSRC of a row. -/
def rDsrc (w : Nat) : Nat := bitsOf w 18 2
/-- GRANT of a row. -/
def rGrant (w : Nat) : Nat := bitsOf w 15 3
/-- NEXT of a row. -/
def rNext (w : Nat) : Nat := bitsOf w 12 3
/-- PW of a row. -/
def rPw (w : Nat) : Nat := bitsOf w 9 3
/-- CFREE of a row. -/
def rCfree (w : Nat) : Bool := bitOf w 8
/-- VIOL of a row. -/
def rViol (w : Nat) : Bool := bitOf w 7
/-- STALE of a row. -/
def rStale (w : Nat) : Bool := bitOf w 6

/-- The active transition table; the default one in ROM until another is loaded. -/
def State.activeTable (s : State) : List Nat := if s.wm.table.isEmpty then defaultTable else s.wm.table

/-- The row of table `ws` for a state, request code and condition; 0 where it has none. -/
def rowIn (ws : List Nat) (st req cond : Nat) : Nat := (ws.find? fun w => rowKey w == st * 64 + req * 4 + cond).getD 0

/-- The row of the active table. -/
def State.ttLookup (s : State) (st req cond : Nat) : Nat := rowIn s.activeTable st req cond

/-! ### Lines, data and messages -/

/-- The O cell of a line. -/
def State.ocell (s : State) (l : Nat) : Option OCell := SMap.get none s.wm.cells l

/-- Transactions open in a slice. -/
def State.openIn (s : State) (sl : Nat) : Nat := (s.wm.txns.filter fun e => lineSlice e.1 == sl).length

/-- The transaction on a line set; MAXOPEN follows. -/
def State.setTxn (s : State) (l : Nat) (t : Option Txn) : State :=
  let s : State := { s with wm := { s.wm with txns := SMap.set none s.wm.txns l t } }
  let sl := lineSlice l
  s.wr fWM_SLICE_MAXOPEN sl (max (s.rd fWM_SLICE_MAXOPEN sl) (s.openIn sl))

/-- The transaction on a line changed. -/
def State.modTxn (s : State) (l : Nat) (f : Txn → Txn) : State :=
  match s.txn l with
  | some t => s.setTxn l (some (f t))
  | none => s

/-- O cells held by a slice. -/
def State.ocellsIn (s : State) (sl : Nat) : Nat := (s.wm.cells.filter fun e => lineSlice e.1 == sl).length

/-- The O cell of line `l` filled: with `own` the write-back's cell is kept for it (R217). -/
def State.fillCell (s : State) (l data : Nat) (poison own : Bool) : State :=
  let s := if (s.ocell l).isNone ∧ ¬ own then s.takeCells 1 else s
  { s with wm := { s.wm with cells := SMap.set none s.wm.cells l (some { data := data, poison := poison }) } }

/-- `n` cells given back, and the credits returned that no hold withholds any longer (R182, R187). -/
def State.cellsBack (s : State) (n : Nat) : State := ((s.giveCells n).retCredits).drainAll

/-- The O cell of line `l` freed. -/
def State.freeCell (s : State) (l : Nat) : State :=
  if (s.ocell l).isNone then s
  else State.cellsBack { s with wm := { s.wm with cells := SMap.set none s.wm.cells l none } } 1

/-- The cell of the write-back that the transaction on `l` keeps given back: no O cell is made of it. -/
def State.dropKept (s : State) (l : Nat) : State :=
  match s.txn l with
  | some t => if t.kept then (s.setTxn l (some { t with kept := false })).cellsBack 1 else s
  | none => s

/-- Cells of write-backs that transactions keep (R217). -/
def State.keptCells (s : State) : Nat := (s.wm.txns.filter fun e => match e.2 with | some t => t.kept | none => false).length

/-- The bytes of line `l` where its data is lost (R227, R249): poisoned, and otherwise a free value (log entry 42). -/
def State.lostData (s : State) (l : Nat) : Nat × Bool := ((Config.lostLine l s.pwr.ns).toNat, true)

/-- The region of a line that is enabled or being recalled. -/
def State.lineRegion (s : State) (l : Nat) : Option Nat := s.regionOf (64 * l)

/-- The home node of a line (R230): this node where no region names another. -/
def State.homeNode (s : State) (l : Nat) : Nat :=
  match s.lineRegion l with | some n => s.rd fWM_SRGN_HOME n | none => s.ownNode

/-- This slice is a proxy for line `l`. -/
def State.proxy (s : State) (l : Nat) : Bool := s.homeNode l != s.ownNode

/-- The bytes of a 64-byte line under a byte-enable mask laid over others (R218, R231). -/
def mergeLine (be new old : Nat) : Nat :=
  ((List.range 64).map fun i =>
    (if bitOf be i then bitsOf new (8 * i) 8 else bitsOf old (8 * i) 8) * 2 ^ (8 * i)).sum

/-- A message with data for a line has LEN 80 or more (R215). -/
def hasLine (m : Msg) : Bool := decide (80 ≤ m.len)

/-- The line address of a message. -/
def lineOfMsg (m : Msg) : Nat := m.addr / 64

/-- A completion to the requester of `m` with grant `g` (0 Cmp, 1 data only, 2 S, 3 E, 4 M) and data. -/
def State.respond (s : State) (l : Nat) (m : Msg) (g : Nat) (data : Option (Nat × Bool)) (bad : Bool := false) : State :=
  let k : MKind := match m.kind with
    | .cacheD2hReq | .cacheD2hRsp | .cacheD2hData => if data.isSome then .cacheH2dData else .cacheH2dRsp
    | .wmReq | .wmReqData | .wmSnp | .wmRsp => .wmRsp
    | _ => if data.isSome then .memDrs else .memNdr
  s.inject (72 + lineSlice l)
    { kind := k, act := .response, op := 0x21, st := g, node := m.snode, snode := s.ownNode,
      src := sliceSrc (lineSlice l), dest := m.src, tc := m.tc, tenant := m.tenant, tag := m.tag,
      len := if data.isSome then 80 else 16, poison := match data with | some (_, p) => p | none => false,
      addr := 64 * l, data := match data with | some (d, _) => d | none => 0,
      status := if bad then .ur else .sc }

/-- The link or port that a snoop of agent `a` leaves by (R226). -/
def State.agentEgress (s : State) (l a : Nat) : Option Nat :=
  if a < 64 then some a
  else match s.slotNode (a - 64) with
    | some n => (s.linkFor { kind := .wmSnp, node := n, src := sliceSrc (lineSlice l), dest := sliceSrc (lineSlice l) }).map
        (64 + ·)
    | none => none

/-- One snoop message sent to the agents of mask `as`; the Turnout replicates it (R226). `code` is 0x10 SnpInv, 0x11
SnpData or 0x12 SnpCur. -/
def State.sendSnoop (s : State) (l as code : Nat) : State :=
  let agents := setBits 72 as
  let m : Msg := { kind := .memBisnp, act := .snoop, op := code, snode := s.ownNode, node := s.ownNode,
                   src := sliceSrc (lineSlice l), dest := sliceSrc (lineSlice l), tag := l, addr := 64 * l }
  let s := s.each agents fun s _ => s.countMsg 0x22 5 (lineSlice l) m
  s.injectTo (72 + lineSlice l) m (agents.filterMap fun a => s.agentEgress l a)

/-- A message of the line's slice for its home node (R215, R230). -/
def State.homeMsg (s : State) (l : Nat) (kind : MKind) (op st : Nat) (data : Option (Nat × Bool)) (be ncnt : Nat) : Msg :=
  let sl := lineSlice l
  { kind := kind, op := op, st := st, node := s.homeNode l, snode := s.ownNode, src := sliceSrc sl, dest := sliceSrc sl,
      tag := l, addr := 64 * l, ncnt := ncnt, be := be,
      len := if data.isSome then (if op = 6 then 88 else 80) else 16,
      data := (data.getD (0, false)).1, poison := (data.getD (0, false)).2 }

/-- A message of the line's slice sent to its home node (R230). -/
def State.toHome (s : State) (l : Nat) (kind : MKind) (op st : Nat) (data : Option (Nat × Bool)) (be ncnt : Nat) : State :=
  s.inject (72 + lineSlice l) (s.homeMsg l kind op st data be ncnt)

/-- A pool read or write of the home slice (R219, R262). -/
def State.poolMsg (s : State) (l : Nat) (data : Option (Nat × Bool)) (be : Nat) : Msg :=
  { kind := if data.isSome then .memRwd else .memReq, act := if data.isSome then .write else .read,
    op := if data.isSome then 4 else 3, snode := s.ownNode, node := s.ownNode, src := sliceSrc (lineSlice l), tag := l,
    addr := 64 * l, len := if data.isSome then 80 else 16, be := be,
    data := (data.getD (0, false)).1, poison := (data.getD (0, false)).2 }

/-- A pool read or write of the home slice translated and checked (R262, R265): the message for the port of the pool device, where there is
one that can take it; an access outside the own span and a denied one are counted. -/
def State.poolCheck (s : State) (l : Nat) (data : Option (Nat × Bool)) (be : Nat) : Option Msg × State :=
  let a := 64 * l
  let m := s.poolMsg l data be
  if s.spanNode a ≠ some s.ownNode then (none, s.inc fXLT_ERR_SPANERR 0)
  else match s.allot m a with
    | .send m' => (if s.enabled m'.dest ∧ s.dlUp m'.dest then some m' else none, s)
    | .deny r x => (none, s.xltRecord m r x)
    | .lost => (none, s)

/-- A pool read or write of the home slice sent (R219, R262): whether it has gone out. -/
def State.poolSend (s : State) (l : Nat) (data : Option (Nat × Bool)) (be : Nat) : Bool × State :=
  match s.poolCheck l data be with
  | (some m, s) => (true, s.injectTo (72 + lineSlice l) m [m.dest])
  | (none, s) => (false, s)

/-! ### Lost lines (R227, R249) -/

/-- A line's data is lost: recorded, with the lost-line source (cause 0 snoop timeout, 1 agent lost, 2 O cell). -/
def State.lostLine (s : State) (l cause agent : Nat) : State :=
  (((s.wr fWM_LOSTLINE_CAUSE 0 cause).wr fWM_LOSTLINE_AGENT 0 agent).wrb fWM_LOSTLINE_VALID 0 true
    |>.wr2 fWM_LOSTADDR_L_ADDR_L fWM_LOSTADDR_H_ADDR_H 0 (64 * l)).pulse 0x1B1

/-! ### Holders and next states -/

/-- A line without agent `a`. -/
def LineSt.drop (n : LineSt) (a : Nat) : LineSt := { n with pres := putBit n.pres a false }

/-- A stable state made consistent with its holders (R238). -/
def LineSt.fix (n : LineSt) : LineSt :=
  if n.state = 2 ∨ n.state = 4 then
    (if bitOf n.pres n.owner then { n with pres := 2 ^ n.owner }
     else if n.pres = 0 then {} else { state := 1, pres := n.pres })
  else if n.state = 1 then (if n.pres = 0 then {} else { n with owner := 127 })
  else if n.state = 3 then { n with owner := 127 } else {}

/-- The line after a row's NEXT code: `q` the agent granted, `gave` whether a snooped holder supplied a write-back, `room`
whether an O cell may be filled. -/
def LineSt.next (n : LineSt) (code : Nat) (q : Option Nat) (gave room : Bool) : LineSt :=
  let withQ := match q with | some a => putBit n.pres a true | none => n.pres
  LineSt.fix (match code with
    | 0 => {}
    | 1 => { state := 1, pres := withQ }
    | 2 => (match q with | some a => { state := 2, owner := a, pres := 2 ^ a } | none => { n with state := 2 })
    | 3 => { state := 3, pres := withQ }
    | 4 => (match q with | some a => { state := 4, owner := a, pres := 2 ^ a } | none => { n with state := 4 })
    | 5 => { state := if gave && room then 3 else 1, pres := withQ }
    | 6 => { state := 1, pres := withQ }
    | _ => if gave then { n with state := 2 } else n)

/-- Agents being purged, or out of coherence, as a mask. -/
def State.downMask (s : State) : Nat :=
  (s.rd fWM_AGDOWN_PURGING 0 + 2 ^ 32 * s.rd fWM_AGDOWN_PURGING 1 + 2 ^ 64 * s.rd fWM_AGDOWN_PURGING 2)
    ||| (s.wm.refused.map (2 ^ ·)).sum

/-- The agents that SNP code `c` snoops, for requester `q`. -/
def snoopMask (c : Nat) (n : LineSt) (q : Option Nat) : Nat :=
  match c with
  | 1 => match q with | some a => putBit n.pres a false | none => n.pres
  | 2 => n.pres
  | 3 | 4 | 5 => if n.owner < 72 then 2 ^ n.owner else 0
  | _ => 0

/-- The snoop message of SNP code `c`. -/
def snoopCode (c : Nat) : Nat := if c = 4 then 0x11 else if c = 5 then 0x12 else 0x10

/-- An O cell may be filled for line `l` (R217). -/
def State.cellRoom (s : State) (l : Nat) : Bool :=
  decide (s.ocellsIn (lineSlice l) < s.rd fWM_OCTL_OLIM 0)
    && (match s.lineRegion l with | some n => s.rdb fWM_SRGN_OALLOW n | none => false)

/-! ### Completing a row (R219) -/

/-- The line's filter entry brought to what its transaction holds. -/
def State.writeEntry (s : State) (l : Nat) : State :=
  match s.txn l with
  | none => s
  | some t =>
    match t.way with
    | none => s
    | some k =>
      let old := s.fentry k
      let n := t.ln
      if n.state = 0 then s.setFentry k {}
      else s.setFentry k { state := n.state, owner := n.owner, pres := n.pres,
                           age := if old.state = 0 then 8 else old.age,
                           region := (s.lineRegion l).getD 0, atag := lineTag l }

/-- The hold deadline of a grant made now (R224). -/
def State.holdUntil (s : State) : Nat := s.pwr.ns + s.rd fWM_HOLD_NS 0

/-- The response to a snoop `m` of a home (R230), with what the line held. -/
def State.snoopReply (s : State) (l : Nat) (m : Msg) (st : Nat) (data : Option (Nat × Bool)) : Msg :=
  { kind := .wmRsp, act := .response, op := 0x20, st := st, node := m.snode, snode := s.ownNode,
    src := sliceSrc (lineSlice l), dest := m.src, tc := m.tc, tag := m.tag, addr := 64 * l,
    len := if data.isSome then 80 else 16, data := (data.getD (0, false)).1, poison := (data.getD (0, false)).2 }

/-- A snoop of a home that has been answered by this node (R230). -/
def State.snoopAnswer (s : State) (l : Nat) (m : Msg) (st : Nat) (data : Option (Nat × Bool)) : State :=
  s.inject (72 + lineSlice l) (s.snoopReply l m st data)

/-- The data that the row of `t` names: none, pool, write-back or pool, O cell (R231); poisoned where it is lost. -/
def State.rowData (s : State) (l : Nat) (t : Txn) : Option (Nat × Bool) :=
  if t.lost then some (s.lostData l)
  else match rDsrc t.row with
    | 1 | 2 => t.wb.orElse fun _ => t.pool
    | 3 => (s.ocell l).map fun c => (c.data, c.poison)
    | _ => t.pool

/-- What the row of `t` writes to pool memory: the data, byte enables where it is partial, and whether it is the O cell
(R231, R217, R249). -/
def State.rowWrite (s : State) (l : Nat) (t : Txn) (oFull : Bool) : Option ((Nat × Bool) × Nat) :=
  let m := t.msg
  let req := m.map fun m => (m.data, m.poison)
  match rPw t.row with
  | 1 => req.map fun d => (d, 0)
  | 2 => match m with
    | some m => if t.lost then some ((mergeLine m.be m.data (s.lostData l).1, true), 0) else some ((m.data, m.poison), m.be)
    | none => none
  | 3 => if t.lost then some (s.lostData l, 0) else t.wb.map fun d => (d, 0)
  | 4 => match m with
    | some m =>
      let (d, p) := (s.rowData l t).getD (s.lostData l)
      some ((mergeLine m.be m.data d, m.poison || p), 0)
    | none => none
  | 5 => (s.ocell l).map fun c => ((c.data, c.poison), 0)
  | _ =>
    if t.lost ∧ t.req ≠ 4 then some (s.lostData l, 0)
    else if oFull then t.wb.map fun d => (d, 0) else none

/-- No link leads to the home of line `l` any longer, so that data for it is discarded (R250). -/
def State.homeGone (s : State) (l : Nat) : Bool := s.proxy l && (s.linksOf (s.homeNode l)).isEmpty

/-- A pool write of the transaction on `l` goes out: to pool memory, or at a proxy to the home (R230). -/
def State.issueWrite (s : State) (l : Nat) (d : Nat × Bool) (be kept req : Nat) (dirty : Bool) : Bool × State :=
  if s.homeGone l then (false, s)
  else if s.proxy l then
    if ¬ dirty ∧ (req = 4 ∨ req = 5) then (true, s.toHome l .wmReqData (req + 1) 0 (some d) be 0)
    else (true, s.toHome l .wmReqData 0x07 kept (some d) 0 0)
  else s.poolSend l (some d) be

/-- The STATE code of a line kept by a write-back or reported by a response. -/
def keptCode (st : Nat) : Nat := if st = 1 then 1 else if st = 0 then 0 else 2

/-- The hold of the requester of `t`, where its row grants a line (R224). -/
def State.addHold (s : State) (t : Txn) (g : Nat) : List (Nat × Nat) :=
  match t.q with
  | some a => if 2 ≤ g then t.holds.filter (fun h => h.1 != a) ++ [(a, s.holdUntil)] else t.holds
  | none => t.holds

/-- A pool write that fails is counted, and the first of a slice raises the pool-write source (R228). -/
def State.writeFailed (s : State) (sl : Nat) : State :=
  let s := s.inc fWM_ERR2_PWFAIL 0
  if s.wm.pwFailed.contains sl then s
  else State.pulse { s with wm := { s.wm with pwFailed := sl :: s.wm.pwFailed } } 0x1B2

/-- A pool write that has not gone out, of data that agent `a` wrote: failed (R228), or discarded since no link leads to the line's home,
and the line recorded as lost (R250), where it has not been already (`told`). -/
def State.writeLost (s : State) (l a : Nat) (told : Bool) : State :=
  if ¬ s.homeGone l then s.writeFailed (lineSlice l) else if told then s else s.lostLine l 1 a

/-- A pool write of the slice (R219, R228, R230, R250): whether it has gone out. -/
def State.writeOut (s : State) (l a : Nat) (told : Bool) (d : Nat × Bool) (be kept req : Nat) (dirty : Bool) : Bool × State :=
  let (ok, s) := s.issueWrite l d be kept req dirty
  (ok, if ok then s else s.writeLost l a told)

/-- A transaction in TH with nothing held and nothing owed is freed (R219); at a proxy one that was set aside returns. -/
def State.settleTxn (s : State) (l : Nat) : State :=
  match s.txn l with
  | none => s
  | some t =>
    if t.st = .th ∧ t.holds.isEmpty ∧ t.skip = 0 ∧ t.pws.isEmpty then
      match SMap.get none s.wm.parked l with
      | some u =>
        State.setTxn { s with wm := { s.wm with parked := SMap.set none s.wm.parked l none } } l
          (some { u with ln := t.ln, way := t.way })
      | none => s.setTxn l none
    else s

/-- The row of the transaction on `l` ends: entry written, TH entered (R219). -/
def State.endRow (s : State) (l : Nat) : State :=
  (((s.dropKept l).writeEntry l).modTxn l fun t => { t with st := .th, msg := none }).settleTxn l

/-- The row of the transaction on `l` decides: the requester of a read is completed, the next state taken, and pool writes
issued (R219). -/
def State.rowDone (s : State) (l : Nat) : State :=
  match s.txn l with
  | none => s
  | some t =>
    let isWrite := t.req == 4 || t.req == 5
    let room := s.cellRoom l
    let gave := t.wb.isSome
    let g0 := rGrant t.row
    let g := if g0 = 3 ∧ t.homeGrant ≠ 0 then t.homeGrant else g0
    let code := if g0 = 3 ∧ g = 2 then 1 else rNext t.row
    let q := if 2 ≤ g then t.q else none
    let dirty := decide (1 < t.ln.state)
    let ln := if t.req = 10 ∨ t.req = 11 then t.ln else t.ln.next code q gave room
    let oFull := rNext t.row == 5 && gave && !room
    let data := s.rowData l t
    let pw := s.rowWrite l t oFull
    -- the completion of a read, and the answer to a home's snoop
    let s := match t.msg with
      | some m =>
        if isWrite then s
        else if m.kind = MKind.wmSnp then
          s.snoopAnswer l m (if t.req = 10 then 0 else keptCode ln.state)
            (if t.lost then some (s.lostData l) else t.wb.orElse fun _ => (s.ocell l).map fun (c : OCell) => (c.data, c.poison))
        else
          let s := if rDsrc t.row = 3 then s.countMsg 0x23 5 (lineSlice l) m else s
          s.respond l m g (if rGrant t.row = 0 then none else data)
      | none => s
    -- the O cell
    let s := if ln.state = 3 ∧ t.ln.state ≠ 3 then
        (match t.wb with | some (d, p) => (s.fillCell l d p t.kept).modTxn l fun t => { t with kept := false } | none => s) else s
    let s := s.dropKept l
    let homeSnoop : Bool := match t.msg with | some m => m.kind == MKind.wmSnp | none => false
    let s := if rCfree t.row ∧ (rPw t.row ≠ 5 ∨ homeSnoop) then s.freeCell l else s
    -- the write of a suspect set's write-back comes first (R254)
    let (gone, s) := match t.bcast, t.wb with
      | true, some d => s.writeOut l t.writer false d 0 0 6 true
      | _, _ => (false, s)
    let early := if gone then [false] else []
    let holds := if isWrite then t.holds else s.addHold t g
    let msg := if isWrite then t.msg else none
    let s := s.modTxn l fun t => { t with ln := ln, holds := holds, msg := msg, pws := t.pws ++ early }
    match (if homeSnoop then none else pw) with
    | none =>
      let s := if t.req = 10 then s.modTxn l fun t => { t with ln := {} } else s
      let s := if isWrite then (match t.msg with | some m => s.respond l m 0 none | none => s) else s
      s.endRow l
    | some (d, be) =>
      let kept := if t.req = 10 then 0 else if t.req = 11 then 2 else keptCode ln.state
      let (ok, s) := s.writeOut l (if rPw t.row = 5 then 127 else t.writer) t.lost d be kept t.req dirty
      let s := if t.msg.isSome ∧ ¬ isWrite then s.writeEntry l else s
      if ok then s.modTxn l fun t => { t with st := .tw, pws := t.pws ++ [true] }
      else
        let s := match msg with | some m => s.respond l m 0 none true | none => s
        if rPw t.row = 5 ∧ 10 ≤ t.req ∧ ¬ s.homeGone l then
          (if t.req = 11 then s.endRow l else s.modTxn l fun t => { t with st := .tw })
        else
          let s := s.when_ (rPw t.row == 5 && (rCfree t.row || s.homeGone l)) fun s => s.freeCell l
          (s.when_ (t.req == 10) fun s => s.modTxn l fun t => { t with ln := {} }).endRow l

/-- The transaction on `l` goes on as far as its snoops and pool data allow (R219). -/
def State.advance (s : State) (l : Nat) : State :=
  match s.txn l with
  | none => s
  | some t =>
    if t.st = .tw ∨ t.st = .th ∨ t.snoops ≠ 0 then s
    else if t.owed then
      if t.wb.isSome ∨ t.lost then
        (s.modTxn l fun t => { t with owed := false, skip := t.skip + 1 }).rowDone l
      else s.modTxn l fun t => { t with st := .tr }
    else s.rowDone l

/-- The snoop of agent `a` on `l` closed without an answer (R226, R227): the holder is removed, and the data of an E or M
line that it alone had is lost (R249). -/
def State.closeSnoop (s : State) (l a cause : Nat) : State :=
  match s.txn l with
  | none => s
  | some t =>
    if ¬ bitOf t.snoops a then s else
    let mine := (t.ln.state == 2 || t.ln.state == 4) && t.ln.owner == a && t.wb.isNone && !t.bcast
    let s := if mine ∧ t.req ≠ 4 then s.lostLine l cause a else s
    (s.modTxn l fun t => { t with snoops := putBit t.snoops a false, closed := putBit t.closed a true,
                                  ln := if t.bcast then t.ln else t.ln.drop a,
                                  lost := t.lost || (mine && t.req != 4) }).advance l

/-- A transaction opened for a row (R219): snoops and pool read sent together.  Snoops of agents that are down are closed
at once (R227). `as` overrides the snooped agents (R254). -/
def State.openTxn (s : State) (l : Nat) (msg : Option Msg) (req row : Nat) (ln : LineSt) (q way : Option Nat)
    (bcastAs : Option Nat) : State :=
  let old := s.txn l
  let holds := match old with | some t => t.holds | none => []
  let skip := match old with | some t => t.skip | none => 0
  let pws := match old with | some t => t.pws | none => []
  let targets := bcastAs.getD (snoopMask (rSnp row) ln q)
  let px := s.proxy l
  let ds := rDsrc row
  let need := ds == 1 || ds == 2 || (px && decide (3 ≤ rGrant row ∧ ln.state < 2))
  let t : Txn := { st := if need then .tsr else .ts, row := row, req := req, msg := msg, q := q, ln := ln, way := way,
                   snoops := targets, holds := holds, skip := skip, pws := pws, bcast := bcastAs.isSome }
  let s := s.setTxn l (some t)
  let down := targets &&& s.downMask
  let s := if targets = 0 then s else s.sendSnoop l (clearBits targets down) (if bcastAs.isSome then 0x10 else snoopCode (rSnp row))
  let s := if need then
      if px then (s.toHome l .wmReq (req + 1) 0 none 0 0).modTxn l fun t => { t with owed := true }
      else
        let (ok, s) := s.poolSend l none 0
        if ok then s.modTxn l fun t => { t with owed := true }
        else s.modTxn l fun t => { t with pool := some (s.lostData l) }
    else s
  (s.each (setBits 72 down) fun s a => s.closeSnoop l a 1).advance l

/-! ### NAKs and reservations (R222 to R225) -/

/-- Reservation places in use in a slice. -/
def State.rsvIn (s : State) (sl : Nat) : Nat :=
  ((s.wm.rsv.filter fun e => lineSlice e.1 == sl).map fun e => e.2.length).sum

/-- The reservation queue of a line. -/
def State.rsvOf (s : State) (l : Nat) : List (Nat × Nat) := SMap.get [] s.wm.rsv l

/-- The reservation queue of a line replaced. -/
def State.setRsv (s : State) (l : Nat) (q : List (Nat × Nat)) : State :=
  { s with wm := { s.wm with rsv := SMap.set [] s.wm.rsv l q } }

/-- The stored message that egress 72 + `sl` is handing to its slice, where it is `m`. -/
def State.handed (s : State) (sl : Nat) (m : Msg) : Option Stored :=
  match SMap.get none s.swc.sending (72 + sl) with
  | none => none
  | some sn => (s.stored sn.id).filter fun d => d.m.tag == m.tag && d.m.src == m.src && d.m.snode == m.snode && d.m.kind == m.kind

/-- Egress 72 + `sl` has handed its message over (R435): taken, or NAKed. -/
def State.handedOver (s : State) (sl : Nat) (d : Stored) (naked : Bool) : State :=
  State.tdResolve { s with swc := { s.swc with sending := SMap.set none s.swc.sending (72 + sl) none } } (72 + sl) d.m naked

/-- A message that was on its way to home slice `sl` is gone from its egress: taken, or NAKed (R435). -/
def State.sliceTook (s : State) (sl : Nat) (m : Msg) (naked : Bool) : State :=
  match s.handed sl m with
  | none => s
  | some d => (((s.handedOver sl d naked).copyGone d (72 + sl)).retCredits).drainAll

/-- A write-back taken whose cell of data is kept, should it become an O cell (R217): whether there is one, and the state. -/
def State.sliceKept (s : State) (sl : Nat) (m : Msg) : Bool × State :=
  match s.handed sl m with
  | none => (false, s)
  | some d => (true, (((s.handedOver sl d false).eqSub (72 + sl) d.m.tc d.cells).unplace d).cellsBack (d.cells - 1))

/-- A request NAKed with a hint in ns (R222, R223, R225): one that has had NAKLIM NAKs joins the queue of its line. -/
def State.nak (s : State) (l : Nat) (m : Msg) (hint : Nat) : State :=
  let sl := lineSlice l
  let r := s.requester m
  let s := (s.inc fWM_SLICE_NAKS sl).countMsg 0x21 5 sl m
  let me := (r, m.tag)
  let s := if s.rd fWM_CTL_NAKLIM 0 ≤ m.ncnt ∧ ¬ (s.rsvOf l).contains me then
      if s.rsvIn sl < 256 then (s.countMsg 0x25 5 sl m).setRsv l (s.rsvOf l ++ [me])
      else s.inc fWM_ERR_RSVFULL 0
    else s
  let n := min 255 (m.ncnt + 1)
  let s := s.sliceTook sl m true
  if m.snode ≠ s.ownNode then
    s.inject (72 + sl)
      { kind := .wmRsp, act := .response, op := 0x22, node := m.snode, snode := s.ownNode,
        src := sliceSrc sl, dest := m.src, tc := m.tc, tag := m.tag, addr := 64 * l, ncnt := n, hint := ceilDiv hint 16 }
  else { s with wm := { s.wm with naks := s.wm.naks ++ [{ src := r, m := { m with ncnt := n }, hint := hint }] } }

/-- Hints (R222). -/
def State.txHint (s : State) : Nat := 16 * s.rd fWM_CTL_TXHINT 0
/-- The hint of a full transaction table. -/
def State.fullHint (s : State) : Nat := 16 * s.rd fWM_CTL_FULLHINT 0

/-! ### Claims and evictions (R241 to R244) -/

/-- An Rcl transaction opened on line `l` by the row of table `ws`, held in state `ln`, with its way where it keeps it (R210, R243, R245). -/
def State.recallLine (s : State) (ws : List Nat) (l : Nat) (ln : LineSt) (way : Option Nat) : State :=
  s.openTxn l none 10 (rowIn ws ln.state 10 3) ln none way none

/-- What a claim for a line without an entry gets: a way, or the hint of the NAK. -/
inductive Claim where
  | way (k : Nat)
  | evict (k : Nat)
  | none (hint : Nat) (pinned : Bool)
  deriving DecidableEq, Repr

/-- The claim of line `l` (R242 to R244). -/
def State.claim (s : State) (l : Nat) : Claim :=
  let k := setKey (lineSlice l) (lineSet l)
  let room := 4096 - s.openIn (lineSlice l)
  match s.emptyWay k with
  | some w => if room < 1 then .none s.fullHint false else .way w
  | none =>
    match s.victim k with
    | some w => if room < 2 then .none s.fullHint false else .evict w
    | none => .none s.txHint true

/-- The entry of way `w` moved into an Rcl transaction of its own, and the way handed on (R243). -/
def State.evict (s : State) (w : Nat) : State :=
  let e := s.fentry w
  let v := s.lineOf w
  let sl := w / 32 / 65536
  let s := (s.ageSet (w / 32) w).inc fSNF_SLICE_EVICTS sl
  let s := (s.countEv 0x24 5 sl).setFentry w {}
  s.recallLine s.activeTable v { state := e.state, owner := e.owner, pres := e.pres } none

/-- Way `k`, a hard fault, is retired, a valid entry in it evicted first (R243, R256): at once, or, while a transaction pins it or its slice
has no place for the eviction, once nothing stops that. -/
def State.retireWay (s : State) (k : Nat) : State :=
  let valid := (s.fentry k).state != 0
  if s.pinned k ∨ (valid ∧ 4096 ≤ s.openIn (k / 32 / 65536)) then
    { s with wm := { s.wm with retiring := s.wm.retiring.filter (· != k) ++ [k] } }
  else
    let s := (s.when_ valid fun s => s.evict k).retire k
    { s with wm := { s.wm with retiring := s.wm.retiring.filter (· != k) } }

/-- A corrected error in way `k` (R252); one whose last read was corrected too is a hard fault (R256). -/
def State.corrected (s : State) (k : Nat) : State :=
  let s := (s.inc fSNF_ERR_COR 0).snfLast k 0
  if ¬ s.wm.corrected.contains k then { s with wm := { s.wm with corrected := k :: s.wm.corrected } }
  else if ¬ s.wayGood k then s
  else if s.mayRetire k then s.retireWay k
  else s.pulse 0x1B9

/-- Way `k` is read, by a lookup, a sweeper, the scrubber or a diagnosis (R251), with error `kind`: 0 none, 2 an uncorrectable one, else a
corrected one.  An entry that breaks an invariant of R238 is handled as an uncorrectable one (R253). -/
def State.readWay (s : State) (k kind : Nat) : State :=
  let s := s.when_ (kind != 2 && s.entryBad (s.fentry k)) fun s => s.badEntry k true
  if kind = 0 ∨ kind = 2 then
    let s := s.when_ (s.wm.corrected.contains k) fun s => { s with wm := { s.wm with corrected := s.wm.corrected.filter (· != k) } }
    s.when_ (kind == 2) fun s => s.badEntry k false
  else s.corrected k

/-- What the check of the table memory finds as it is read, `tab` (R234): nothing, an error it corrects, or one it cannot, after which the
default table of the ROM is in use.  WM_TTCRC is the CRC field of the active table (R236), and no rule gives the table in ROM one: it reads 0
(DESIGN CHOICE, log entry 122). -/
def State.tabRead (s : State) (tab : Nat) : State :=
  if tab = 0 then s
  else if tab = 1 then s.pulse 0x1B4
  else
    let s := State.wrb { s with wm := { s.wm with table := [] } } fWM_TTSTAT_FALLBACK 0 true
    ((s.wr fWM_TTID_TTID 0 1).wr fWM_TTCRC_CRC 0 0).pulse 0x1B4

/-- What the slice meets in its arrays during the lookup of set `k` (R234, R238, R252, R253, R256). -/
def State.upset (s : State) (k : Nat) (up : Upset) : State :=
  (s.each (s.setWays k) fun s w => s.readWay w (((up.ways.find? fun e => e.1 == w % 32).map (·.2)).getD 0)).tabRead up.tab

/-! ### Requests at a slice (R213, R218, R221, R222) -/

/-- The agent that makes a request, where it is one (R212). -/
def State.agentOf (s : State) (m : Msg) : Option Nat :=
  if m.snode ≠ s.ownNode then
    (if s.rdb fLEAT_ROUTE_AGEN m.snode then some (64 + s.rd fLEAT_ROUTE_AGENT m.snode) else none)
  else if m.src < 64 then some m.src else none

/-- The line as the slice holds it now: in its transaction, else in its entry. -/
def State.lineNow (s : State) (l : Nat) : LineSt :=
  match s.txn l with
  | some t => t.ln
  | none => match s.findWay l with
    | some k => let e := s.fentry k; { state := e.state, owner := e.owner, pres := e.pres }
    | none => {}

/-- COND of R231 for a requester. -/
def condOf (n : LineSt) (q : Option Nat) : Nat :=
  let holds := match q with | some a => bitOf n.pres a | none => false
  if holds then 0 else if n.pres = 0 then 1 else 2

/-- A protocol event: counted, with the protocol source (R218). -/
def State.wmProto (s : State) : State := (s.inc fWM_ERR_PROTO 0).pulse 0x1B3

/-- A write-back that is Stale or Viol (R218): its data is discarded and it completes with Cmp. -/
def State.badWb (s : State) (l : Nat) (m : Msg) (stale : Bool) : State :=
  let s := (s.sliceTook (lineSlice l) m false).respond l m 0 none
  if stale then s.inc fWM_ERR_STALEWB 0 else s.wmProto

/-- A line's holders changed by a message that opens no transaction; the entry follows at once, or with the open
transaction (R221). -/
def State.putLine (s : State) (l : Nat) (n : LineSt) : State :=
  match s.txn l with
  | some t =>
    let s := s.modTxn l fun t => { t with ln := n }
    if t.st = .th then s.writeEntry l else s
  | none =>
    match s.findWay l with
    | some k =>
      let e := s.fentry k
      s.setFentry k { e with state := n.state, owner := n.owner, pres := n.pres }
    | none => s

/-- What row `w` of a write-back or eviction, whose own data is `d`, writes to pool memory (R217, R218, R231). -/
def State.quietWrite (s : State) (l w : Nat) (d : Option (Nat × Bool)) : Option (Nat × Bool) :=
  if rNext w = 5 ∧ ¬ s.cellRoom l then d
  else match rPw w with
    | 0 => none
    | 5 => (s.ocell l).map fun c => (c.data, c.poison)
    | _ => d

/-- A write-back taken by its slice and completed to its writer at once (R219), its data held in the O cell where its row makes the line O:
line state `n` to `n'`. -/
def State.quietTake (s : State) (l : Nat) (m : Msg) (n n' : LineSt) : State :=
  let sl := lineSlice l
  if n'.state = 3 ∧ n.state ≠ 3 then
    let (own, s) := s.sliceKept sl m
    (s.fillCell l m.data m.poison own).respond l m 0 none
  else (s.sliceTook sl m false).respond l m 0 none

/-- A write-back of code `req` that joins the open transaction `t` on its line without crossing its snoop (R221, R246, R247). -/
def State.joinTxn (s : State) (l : Nat) (t : Txn) (m : Msg) (req a : Nat) : State :=
  let q := s.agentOf m
  let w := s.ttLookup t.ln.state req (if t.ln.state = 0 then 1 else condOf t.ln q)
  if rStale w then s.badWb l m true
  else if rViol w then
    let s := s.badWb l m false
    if req = 6 then s.putLine l (t.ln.drop a).fix else s
  else
    let own := t.st == TState.th && t.q == some a
    let n := t.ln.next (rNext w) none true (s.cellRoom l)
    let pw := s.quietWrite l w (some (m.data, m.poison))
    let s := (s.quietTake l m t.ln n).modTxn l fun t => { t with ln := n, holds := if own then [] else t.holds }
    match pw with
    | none =>
      let s := s.when_ (rCfree w) fun s => s.freeCell l
      if own then s.endRow l else s.when_ (t.st == .th) fun s => s.writeEntry l
    | some d =>
      let (ok, s) := s.writeOut l a false d 0 (keptCode n.state) req true
      let s := s.when_ (rCfree w) fun s => s.freeCell l
      if own then
        if ok then s.modTxn l fun t => { t with st := .tw, pws := t.pws ++ [true], msg := none } else s.endRow l
      else
        let s := if ok then s.modTxn l fun t => { t with pws := t.pws ++ [false] } else s
        s.when_ (t.st == .th) fun s => s.writeEntry l

/-- A write-back or eviction of code `req` on a line with no open transaction (R218, R246, R254).  One that writes pool memory opens a
transaction; while its slice has no place for that it stays where it is (DESIGN CHOICE, log entry 122). -/
def State.quietRow (s : State) (l : Nat) (m : Msg) (req a : Nat) : State :=
  let q := s.agentOf m
  let n := s.lineNow l
  let way := s.findWay l
  let w := s.ttLookup n.state req (if n.state = 0 then 1 else condOf n q)
  let sus := req != 9 && way.isNone && s.suspect (lineSlice l) (lineSet l)
  let d := if req = 9 then none else some (m.data, m.poison)
  if rStale w ∧ ¬ sus then s.badWb l m true
  else if rViol w ∧ ¬ sus then
    let s := s.badWb l m false
    if req = 6 then s.putLine l (n.drop a).fix else s
  else
    let n' := (if req = 9 then n.drop a else n).next (rNext w) none (req != 9) (s.cellRoom l)
    match (if sus then d else s.quietWrite l w d) with
    | none => ((s.quietTake l m n n').when_ (rCfree w) fun s => s.freeCell l).putLine l n'
    | some d =>
      if 4096 ≤ s.openIn (lineSlice l) then s
      else
        let s := (s.quietTake l m n n').setTxn l (some { st := .tw, row := w, req := req, msg := none, q := q, ln := n', way := way })
        let (ok, s) := s.writeOut l a false d 0 (keptCode n'.state) req true
        if ok then s.modTxn l fun t => { t with pws := [true] }
        else (s.when_ (rCfree w) fun s => s.freeCell l).endRow l

/-- A write-back of code `req` (6 WB_I, 7 WB_S, 8 WB_E) at its slice (R218, R221, R246, R247, R254). -/
def State.writeBack (s : State) (l : Nat) (m : Msg) (req : Nat) : State :=
  let a := (s.agentOf m).getD 127
  match s.txn l with
  | some t =>
    if bitOf t.closed a then s.badWb l m true
    else if bitOf t.snoops a ∧ (t.st = .ts ∨ t.st = .tsr) then
      let (kept, s) := (s.dropKept l).sliceKept (lineSlice l) m
      (s.respond l m 0 none).modTxn l fun t =>
        { t with wb := some (m.data, m.poison), kept := kept, writer := a, ln := if req = 6 then t.ln.drop a else t.ln }
    else s.joinTxn l t m req a
  | none => s.quietRow l m req a

/-- An Evc at its slice (R218): a sender that holds the line is removed, and the line goes to the state that its row names. -/
def State.evc (s : State) (l : Nat) (m : Msg) : State :=
  let q := s.agentOf m
  let a := q.getD 127
  match s.txn l with
  | none => s.quietRow l m 9 a
  | some t =>
    let w := s.ttLookup t.ln.state 9 (if t.ln.state = 0 then 1 else condOf t.ln q)
    if rStale w ∨ rViol w then s.badWb l m (rStale w)
    else
      let n := (t.ln.drop a).next (rNext w) none false false
      let pw := s.quietWrite l w none
      let s := (s.quietTake l m t.ln t.ln).putLine l n
      let s := match pw with
        | none => s
        | some d =>
          let (ok, s) := s.writeOut l 127 false d 0 (keptCode n.state) 9 true
          if ok then s.modTxn l fun t => { t with pws := t.pws ++ [false] } else s
      s.when_ (rCfree w) fun s => s.freeCell l

/-- Request `m` is of an agent that a DECOHERE reaction keeps out of coherence (R398). -/
def State.refuses (s : State) (m : Msg) : Bool :=
  match s.agentOf m with
  | some a => s.wm.refused.contains a
  | none => false

/-- The row of a request of codes 0 to 5 runs (R218, R241, R254), its line's transaction free or in TH; a row with STALE or VIOL only completes
it (R231).  The AGE of the line's entry goes to 0 as the row runs, and not for a request that is NAKed (DESIGN CHOICE, log entry 122). -/
def State.runRow (s : State) (l : Nat) (m : Msg) (req : Nat) : State :=
  let sl := lineSlice l
  let q := s.agentOf m
  let n := s.lineNow l
  let way := match s.txn l with | some t => t.way | none => s.findWay l
  let w := s.ttLookup n.state req (if n.state = 0 then 1 else condOf n q)
  let sus := n.state == 0 && (s.txn l).isNone && s.suspect sl (lineSet l)
  let claims := way.isNone && rNext w != 0
  if rStale w ∨ rViol w then s.badWb l m (rStale w) else
  match (if claims then s.claim l else .way 0) with
  | .none hint pin =>
    (s.when_ pin fun s => s.inc fSNF_SLICE_PINNAK sl).nak l m hint
  | c =>
    let s := s.sliceTook sl m false
    let s := match c with | .evict k => s.evict k | _ => s
    let s := match way with
      | some k => let e := s.fentry k; if e.state = 0 then s else s.setFentry k { e with age := 0 }
      | none => s
    let way := if claims then (match c with | .way k | .evict k => some k | .none _ _ => none) else way
    let s := s.setRsv l ((s.rsvOf l).filter fun e => e != (s.requester m, m.tag))
    if sus then
      let as := match q with | some a => putBit s.bcastMask a false | none => s.bcastMask
      (s.inc fSNF_SLICE_BCAST sl).openTxn l (some m) req w n q way (some as)
    else s.openTxn l (some m) req w n q way none

/-- A Watermaster request of a node that takes no part in coherence, of a type other than RdCur, WrFull and WrPart, is answered with
Refuse and counted (R229). -/
def State.refuseWm (s : State) (l : Nat) (m : Msg) : State :=
  let sl := lineSlice l
  ((s.sliceTook sl m false).inc fWM_ERR_PROTO 0).inject (72 + sl)
    { kind := .wmRsp, act := .response, op := 0x23, node := m.snode, snode := s.ownNode, src := sliceSrc sl, dest := m.src,
      tc := m.tc, tag := m.tag, addr := 64 * l }

/-- A request of codes 0 to 5 at its home slice: taken, NAKed (R222), or completed at once for a line whose home has no link (R250), or
is another peer than the requester's, to which nothing is passed on (R175, R230; log entry 109). -/
def State.request (s : State) (l : Nat) (m : Msg) (req : Nat) : State :=
  let sl := lineSlice l
  let q := s.agentOf m
  let r := s.requester m
  let n := s.lineNow l
  let w := s.ttLookup n.state req (if n.state = 0 then 1 else condOf n q)
  let region := s.lineRegion l
  let rsv := s.rsvOf l
  let busy : Bool := match s.txn l with | some t => t.st != TState.th | none => false
  let held : List Nat := match s.txn l with
    | some t => (t.holds.filter fun h => bitOf (snoopMask (rSnp w) n q) h.1).map (·.2)
    | none => []
  if region.isNone then s
  else if s.proxy l ∧ (m.snode ≠ s.ownNode ∨ (s.linksOf (s.homeNode l)).isEmpty ∨ s.wm.homesGone.contains (s.homeNode l)) then
    (s.sliceTook sl m true).lostAtLink 0 m
  else if (match q with | some a => bitOf s.downMask a | none => false) then s.nak l m s.txHint
  else if (match region with | some g => s.rd fWM_SRGN_STATE g == 3 | none => false) then s.nak l m s.txHint
  else if ¬ rsv.isEmpty ∧ rsv.head? ≠ some (r, m.tag) then s.nak l m s.txHint
  else if busy then s.nak l m s.txHint
  else if ¬ held.isEmpty then s.nak l m (held.foldl max 0 - s.pwr.ns)
  else if 4096 ≤ s.openIn sl then s.nak l m s.fullHint
  else s.runRow l m req

/-- A message at its home slice whose command names request code `req` (R213); one whose own code is not in the table of
R213 is completed with poison or as unsupported, and counted; a read or write of an agent that is kept out of coherence is refused, a read with
poisoned data and a write with its data discarded (R398). -/
def State.atSlice (s : State) (m : Msg) (up : Upset) (req : Nat) : State :=
  let l := lineOfMsg m
  let sl := lineSlice l
  let s := (s.countMsg 0x20 5 sl m).upset (setKey sl (lineSet l)) up
  if 10 ≤ m.code then ((s.sliceTook sl m false).inc fWM_ERR_PROTO 0).denyReply m
  else if m.code ≠ req then s
  else if m.snode ≠ s.ownNode ∧ ¬ s.rdb fLEAT_ROUTE_AGEN m.snode ∧ (req < 3 ∨ 5 < req) then s.refuseWm l m
  else if req ≠ 9 ∧ s.refuses m then (s.sliceTook sl m false).denyReply m
  else if req < 6 then s.request l m req
  else if req = 9 then s.evc l m
  else s.writeBack l m req

/-- RDS (R218). -/
def execRds (m : Msg) (up : Upset) (s : State) : Host.Outcome State Fault Refusal := onUnit (wmOk m) (s.atSlice m up 0)
/-- RDOWN (R218). -/
def execRdown (m : Msg) (up : Upset) (s : State) : Host.Outcome State Fault Refusal := onUnit (wmOk m) (s.atSlice m up 1)
/-- UPGR (R218). -/
def execUpgr (m : Msg) (up : Upset) (s : State) : Host.Outcome State Fault Refusal := onUnit (wmOk m) (s.atSlice m up 2)
/-- RDCUR (R218). -/
def execRdcur (m : Msg) (up : Upset) (s : State) : Host.Outcome State Fault Refusal := onUnit (wmOk m) (s.atSlice m up 3)
/-- WRFULL (R218). -/
def execWrfull (m : Msg) (up : Upset) (s : State) : Host.Outcome State Fault Refusal := onUnit (wmOk m) (s.atSlice m up 4)
/-- WRPART (R218). -/
def execWrpart (m : Msg) (up : Upset) (s : State) : Host.Outcome State Fault Refusal := onUnit (wmOk m) (s.atSlice m up 5)
/-- WB_I (R246). -/
def execWbI (m : Msg) (up : Upset) (s : State) : Host.Outcome State Fault Refusal := onUnit (wmOk m) (s.atSlice m up 6)
/-- WB_S (R246). -/
def execWbS (m : Msg) (up : Upset) (s : State) : Host.Outcome State Fault Refusal := onUnit (wmOk m) (s.atSlice m up 7)
/-- WB_E (R246). -/
def execWbE (m : Msg) (up : Upset) (s : State) : Host.Outcome State Fault Refusal := onUnit (wmOk m) (s.atSlice m up 8)
/-- EVC (R218). -/
def execEvc (m : Msg) (up : Upset) (s : State) : Host.Outcome State Fault Refusal := onUnit (wmOk m) (s.atSlice m up 9)

/-! ### Events of open transactions -/

/-- A snoop response of agent `a` (R220): `st` is what it reports, 0 I, 1 S, 2 E; `data` what it carries (R214). -/
def State.snoopResponse (s : State) (l a st : Nat) (data : Option (Nat × Bool)) : State :=
  match s.txn l with
  | none => s.inc fWM_ERR_STALEWB 0
  | some t =>
    if ¬ bitOf t.snoops a then s.inc fWM_ERR_STALEWB 0
    else
      let code := if t.bcast then 0x10 else snoopCode (rSnp t.row)
      let s := if code = 0x10 ∧ st ≠ 0 then s.inc fWM_ERR_PROTO 0 else s
      let gone := code == 0x10 || st == 0
      let ln := if t.bcast then t.ln else if gone then t.ln.drop a
        else if code = 0x12 ∧ st = 1 then { state := 1, pres := t.ln.pres } else t.ln
      (s.modTxn l fun t => { t with snoops := putBit t.snoops a false, ln := ln,
                                    wb := data.orElse fun _ => t.wb,
                                    writer := if data.isSome then a else t.writer }).advance l

/-- Pool data of the transaction on `l` arrives (R219). -/
def State.poolData (s : State) (l data : Nat) (poison : Bool) : State :=
  match s.txn l with
  | none => s
  | some t =>
    if 0 < t.skip then (s.modTxn l fun t => { t with skip := t.skip - 1 }).settleTxn l
    else if t.owed then
      (s.modTxn l fun t => { t with owed := false, pool := some (data, poison),
                                    st := if t.st = .tsr then .ts else t.st }).advance l
    else s

/-- The oldest pool write of the transaction on `l` ends (R219, R228): `ok` false where it failed. -/
def State.poolWritten (s : State) (l : Nat) (ok : Bool) : State :=
  match s.txn l with
  | none => if ok then s else s.writeFailed (lineSlice l)
  | some t =>
    let s := if ok then s else s.writeFailed (lineSlice l)
    match t.pws with
    | [] => s
    | own :: rest =>
      let s := s.modTxn l fun t => { t with pws := rest }
      if ¬ own then s.settleTxn l
      else
        let s := match t.msg with | some m => s.respond l m 0 none (!ok) | none => s
        let s := s.when_ (rPw t.row == 5 && rCfree t.row && (ok || decide (t.req < 10))) fun s => s.freeCell l
        if t.req = 11 then
          let n : LineSt := if s.proxy l ∧ popCount 72 t.ln.pres = 1 then
              { state := 2, owner := (setBits 72 t.ln.pres).headD 127, pres := t.ln.pres }
            else t.ln.next (rNext t.row) none false false
          (s.when_ ok fun s => s.modTxn l fun t => { t with ln := n }).endRow l
        else if t.req = 10 then
          if ok ∨ rPw t.row ≠ 5 then (s.modTxn l fun t => { t with ln := {} }).endRow l
          else s.modTxn l fun t => { t with st := .tw }
        else s.endRow l

/-! ### Retries (R223, R225) -/

/-- NAKs of source `r` that hold a retry place. -/
def State.placed (s : State) (r : Nat) : Nat := (s.wm.naks.filter fun k => k.src == r && k.placed).length

/-- Places given to waiting NAKs of source `r`, in order of arrival: 64 at a port, no limit elsewhere. -/
def State.givePlaces (s : State) (r : Nat) : State :=
  let room := if r < 64 then 64 - s.placed r else s.wm.naks.length
  let (_, ks) := s.wm.naks.foldl (fun (a : Nat × List Nak) k =>
    if k.src = r ∧ k.arrived ∧ ¬ k.placed ∧ 0 < a.1 then (a.1 - 1, a.2 ++ [{ k with placed := true }])
    else (a.1, a.2 ++ [k])) (room, [])
  { s with wm := { s.wm with naks := ks } }

/-- The first NAK in a list for which `p` holds, changed by `f`. -/
def firstNak (p : Nak → Bool) (f : Nak → List Nak) : List Nak → List Nak
  | [] => []
  | k :: ks => if p k then f k ++ ks else k :: firstNak p f ks

/-- NAK_RECEIVED: the oldest NAK on its way to source `r` reaches it (R223). -/
def execNakReceived (r : Nat) (s : State) : Host.Outcome State Fault Refusal :=
  onUnit (decide (r < 216))
    (State.givePlaces { s with wm := { s.wm with
      naks := firstNak (fun k => k.src == r && !k.arrived) (fun k => [{ k with arrived := true }]) s.wm.naks } } r)

/-- NAK_RETRY: the oldest NAKed request of source `r` that holds a place is sent again (R223); at a proxy, to the home. -/
def execNakRetry (r : Nat) (s : State) : Host.Outcome State Fault Refusal :=
  onUnit (decide (r < 216))
    (match s.wm.naks.find? fun k => k.src == r && k.placed with
    | none => s
    | some k =>
      let s := State.givePlaces { s with wm := { s.wm with
        naks := firstNak (fun k => k.src == r && k.placed) (fun _ => []) s.wm.naks } } r
      if 200 ≤ r then
        s.toHome (lineOfMsg k.m) k.m.kind k.m.op 0 (if hasLine k.m then some (k.m.data, k.m.poison) else none) k.m.be k.m.ncnt
      else
        let x := if r < 64 then r else if r < 72 then 72 else if r < 104 then 88 + (r - 72) / 8 else 92
        s.injectTo x k.m [72 + lineSlice (lineOfMsg k.m)])

/-- RESERVATION_EXPIRE: the head of a line's queue has not retried for 8 µs (R225). -/
def execReservationExpire (line : Nat) (s : State) : Host.Outcome State Fault Refusal :=
  onUnit (decide (line < 2 ^ 46))
    (match s.rsvOf line with
    | [] => s
    | _ :: q => if (s.txn line).isSome then s else (s.setRsv line q).inc fWM_ERR_RSVEXP 0)

/-! ### Lost agents (R227) -/

/-- WM_AGDOWN bit of agent `a`. -/
def State.setDown (s : State) (a : Nat) (b : Bool) : State := s.setBit fWM_AGDOWN_PURGING a b

/-- Agent `a` is lost: its open snoops are closed and its purge starts (R227). -/
def State.agentLost (s : State) (a : Nat) : State :=
  let s := s.setDown a true
  s.each (s.wm.txns.map (·.1)) fun s l => s.closeSnoop l a 1

/-- Lost agent `a` removed from the transaction on `l`, whose way the purge passes (R227): from its copy of the line, from its holds, and as
the requester that its grant would go to.  An E or M line whose data the agent alone had, and that no snoop has closed (R249), is lost and
written poisoned. -/
def State.purgeTxn (s : State) (a l : Nat) : State :=
  match s.txn l with
  | none => s
  | some t =>
    let mine := (t.ln.state == 2 || t.ln.state == 4) && t.ln.owner == a && bitOf t.ln.pres a && t.wb.isNone
    let s := s.modTxn l fun t => { t with ln := (t.ln.drop a).fix, holds := t.holds.filter fun h => h.1 != a,
                                          q := if t.q = some a then none else t.q }
    let s := if mine then
        let (ok, s) := (s.lostLine l 1 a).writeOut l a true (s.lostData l) 0 0 6 true
        if ok then s.modTxn l fun t => { t with pws := t.pws ++ [false] } else s
      else s
    if t.st = .th then (s.writeEntry l).settleTxn l else s

/-- Agent `a` removed from way `k`: an E or M line it held is lost, written poisoned to pool memory, and emptied. -/
def State.purgeWay (s : State) (a k : Nat) : State :=
  let e := s.fentry k
  let l := s.lineOf k
  if ¬ bitOf e.pres a then s
  else
    let n := (LineSt.drop { state := e.state, owner := e.owner, pres := e.pres } a).fix
    let s' := s.setFentry k { e with state := n.state, owner := n.owner, pres := n.pres }
    if e.state = 2 ∨ e.state = 4 then
      (((s'.lostLine l 1 a).writeOut l a true (s.lostData l) 0 0 6 true).2)
    else s'

/-- The sweepers read every way (R245, R251): what is in error is corrected or handled, and what breaks an invariant too (R238, R252, R253).
Which ways are in error is a free value. -/
def State.sweepRead (s : State) : State :=
  let hits := (Config.sweepHits s.wm.reads).filter fun e => decide (e.1 < 2 ^ 25 ∧ e.1 % 32 < s.waysPerSet)
  let s : State := { s with wm := { s.wm with reads := s.wm.reads + 1 } }
  let s := s.each ((s.wm.ways.map (·.1)).filter fun k => !hits.any fun e => e.1 == k) fun s k => s.readWay k 0
  let s : State := { s with wm := { s.wm with corrected := s.wm.corrected.filter fun k => hits.any fun e => e.1 == k } }
  s.each hits fun s e => s.readWay e.1 (1 + e.2 % 2)

/-- Agent `a` removed from every open transaction's copy and from every entry that none pins. -/
def State.purge (s : State) (a : Nat) : State :=
  let s := s.sweepRead.each (s.wm.txns.map (·.1)) fun s l => s.purgeTxn a l
  s.each (s.wm.ways.map (·.1)) fun s k => if s.pinned k then s else s.purgeWay a k

/-- Line `l` waits for the Rcl or Age row of a sweep, 10 or 11: its transaction is open, or its slice has no place (R211). -/
def State.rowLater (s : State) (l req : Nat) : State :=
  if s.wm.rowWait.contains (l, req) then s else { s with wm := { s.wm with rowWait := s.wm.rowWait ++ [(l, req)] } }

/-- Every entry whose region `p` names recalled by the row of table `ws` (R210, R245, R250); one whose way a transaction holds, or whose slice
has no place, as soon as it can be. -/
def State.recallWhere (s : State) (ws : List Nat) (p : Nat → Bool) : State :=
  let s := s.sweepRead
  s.each (s.wm.ways.map (·.1)) fun s k =>
    let e := s.fentry k
    if e.state = 0 ∨ ¬ p e.region then s
    else if s.pinned k ∨ 4096 ≤ s.openIn (k / 32 / 65536) then s.rowLater (s.lineOf k) 10
    else s.recallLine ws (s.lineOf k) { state := e.state, owner := e.owner, pres := e.pres } (some k)

end Sys2Proof.Machine
end

