-- ==== Sys2Proof/Machine/WmCtl.lean ====
section
/-! DEFINITION. The Watermaster's peers, regions, sweeps and table loads (R209, R210, R217, R230 to R235), the scrubber and
the diagnostic read of the filter (R252, R258). -/

namespace Sys2Proof.Machine

/-! ### Peer-homed lines (R230) -/

/-- The row that a home's snoop takes at a proxy: Rcl for SnpInv; SnpData and SnpCur as the table of R230 gives. -/
def State.proxyRow (s : State) (n : LineSt) (code : Nat) : Nat :=
  let em := n.state = 2 ∨ n.state = 4
  if code = 0x10 then s.ttLookup n.state 10 3
  else if code = 0x11 then ttRow n.state 12 3 (if em then 4 else 0) 0 0 1 0 (n.state == 3) false false
  else ttRow n.state 13 3 (if em then 5 else 0) 0 0 n.state 0 false false false

/-- The hold window of an agent that snooping by row `w` would reach has not run out (R224). -/
def State.heldBack (s : State) (l w : Nat) (n : LineSt) (q : Option Nat) : Bool :=
  match s.txn l with
  | some t => t.holds.any fun h => bitOf (snoopMask (rSnp w) n q) h.1
  | none => false

/-- A snoop of a home applied to the local line (R230), with no transaction in its way; it waits while its slice has no place for its own
(R211). -/
def State.proxySnoop (s : State) (l : Nat) (m : Msg) : State :=
  let n := s.lineNow l
  if n.state = 0 then s.snoopAnswer l m 0 none
  else if (s.txn l).isNone ∧ 4096 ≤ s.openIn (lineSlice l) then { s with wm := { s.wm with deferred := s.wm.deferred ++ [m] } }
  else
    let way := match s.txn l with | some t => t.way | none => s.findWay l
    s.openTxn l (some m) (if m.op = 0x10 then 10 else if m.op = 0x11 then 12 else 13) (s.proxyRow n m.op) n none way none

/-- A snoop of a home reaches its proxy slice (R230).  A transaction that only waits for the home is set aside for it; any
other on the line goes first, and so do the hold windows of the agents it would snoop (R224; log entry 24). -/
def State.homeSnoop (s : State) (l : Nat) (m : Msg) : State :=
  let s := s.sliceTook (lineSlice l) m false
  let n := s.lineNow l
  match s.txn l with
  | none => s.proxySnoop l m
  | some t =>
    if (t.st = .th ∨ t.st = .tr) ∧ s.heldBack l (s.proxyRow n m.op) n none then
      { s with wm := { s.wm with deferred := s.wm.deferred ++ [m] } }
    else if t.st = .th then s.proxySnoop l m
    else if t.st = .tr ∧ (SMap.get none s.wm.parked l).isNone then
      let s : State := { s with wm := { s.wm with parked := SMap.set none s.wm.parked l (some t) } }
      let s := s.setTxn l (some { t with st := .th, msg := none, owed := false, holds := [], pws := [] })
      (s.proxySnoop l m).settleTxn l
    else { s with wm := { s.wm with deferred := s.wm.deferred ++ [m] } }

/-! ### What waits at a slice (R211, R217, R230, R235, R245, R250, R256) -/

/-- The Age row on line `l` (R218). -/
def State.ageLine (s : State) (l : Nat) : State :=
  let n := s.lineNow l
  let way := match s.txn l with | some t => t.way | none => s.findWay l
  s.openTxn l none 11 (s.ttLookup 3 11 3) { n with state := 3 } none way none

/-- A transaction can be opened on line `l` for an Age row: it has none and its slice a place, or it has one that only holds it. -/
def State.mayAge (s : State) (l : Nat) : Bool :=
  match s.txn l with
  | some t => t.st == .th
  | none => decide (s.openIn (lineSlice l) < 4096)

/-- The line of row `l` is still to be recalled by a sweep (R210, R250, R32), and by the rows of which table. -/
def State.recallTable (s : State) (l : Nat) : Option (List Nat) :=
  let h := s.homeNode l
  if s.rd fARCH_APPSTAT_PHASE 0 = 3 then some s.activeTable
  else if (match s.lineRegion l with | some n => s.rd fWM_SRGN_STATE n == 3 | none => false) then some defaultTable
  else if h ≠ s.ownNode ∧ ((s.linksOf h).isEmpty ∨ s.wm.homesGone.contains h) then some s.activeTable
  else none

/-- Line `l`, which waits for the Rcl or Age row of a sweep: it runs where it can now, and waits on where it is still wanted. -/
def State.rowRetry (s : State) (l req : Nat) : State :=
  if req = 11 then
    (if (s.ocell l).isNone then s else if s.mayAge l then s.ageLine l else s.rowLater l req)
  else match s.txn l, s.findWay l, s.recallTable l with
    | none, some k, some ws =>
      let e := s.fentry k
      if 4096 ≤ s.openIn (lineSlice l) then s.rowLater l req
      else s.recallLine ws l { state := e.state, owner := e.owner, pres := e.pres } (some k)
    | some _, _, some _ => s.rowLater l req
    | _, _, _ => s

/-- What waited is looked at again once a transaction has gone on: ways to be retired, transactions that were set aside and are complete, snoops of homes, and the
rows of sweeps. -/
def State.runDeferred (s : State) : State :=
  let s := s.each s.wm.retiring State.retireWay
  let ready := (s.wm.txns.filter fun e => match e.2 with | some t => t.st == .ts && t.snoops == 0 | none => false).map (·.1)
  let s := s.each ready State.advance
  let ms := s.wm.deferred
  let s := State.each { s with wm := { s.wm with deferred := [] } } ms fun s m => s.homeSnoop (lineOfMsg m) m
  let rs := s.wm.rowWait
  State.each { s with wm := { s.wm with rowWait := [] } } rs fun s r => s.rowRetry r.1 r.2

/-- The sweep that agent `a` waited for has come round (R227): nothing holds a line for it any longer.  For the node whose slot `a` is, the
sweep of R250 has come round with it: it began with the loss of the node's last link, as the purge did. -/
def execAgentPurgeDone (a : Nat) (s : State) : Host.Outcome State Fault Refusal :=
  let ended := fun (s : State) (h : Nat) => !s.rdb fLEAT_ROUTE_AGEN h || 64 + s.rd fLEAT_ROUTE_AGENT h == a
  let t := (s.purge a).setDown a false
  let t := if (t.wm.homesGone.filter (ended t)).isEmpty then t
    else
      let hs := t.wm.homesGone.filter (ended t)
      let t := t.recallWhere t.activeTable fun n => hs.contains (t.rd fWM_SRGN_HOME n) && t.rd fWM_SRGN_STATE n != 0
      { t with wm := { t.wm with homesGone := t.wm.homesGone.filter fun h => !hs.contains h } }
  onUnit (decide (a < 72)) (if bitOf s.downMask a then t.runDeferred else s)

/-! ### Events of open transactions (R219, R220, R224, R226, R228) -/

/-- SNOOP_RESPONSE: the response of a holder (R220). -/
def execSnoopResponse (m : Msg) (s : State) : Host.Outcome State Fault Refusal :=
  onUnit (wmOk m)
    (((s.sliceTook (lineSlice (lineOfMsg m)) m false).snoopResponse (lineOfMsg m) ((s.agentOf m).getD 127) m.st
      (if hasLine m then some (m.data, m.poison) else none)).runDeferred)

/-- POOL_READ_DATA (R219). -/
def execPoolReadData (line data : Nat) (poison : Bool) (s : State) : Host.Outcome State Fault Refusal :=
  onUnit (decide (line < 2 ^ 46 ∧ data < 2 ^ 512)) (s.poolData line data poison).runDeferred

/-- POOL_WRITE_COMPLETE (R219). -/
def execPoolWriteComplete (line : Nat) (s : State) : Host.Outcome State Fault Refusal :=
  onUnit (decide (line < 2 ^ 46)) (s.poolWritten line true).runDeferred

/-- POOL_ACCESS_FAIL: a failed read is used as poisoned data, a failed write is counted (R228). -/
def execPoolAccessFail (line : Nat) (write : Bool) (s : State) : Host.Outcome State Fault Refusal :=
  onUnit (decide (line < 2 ^ 46)) (if write then s.poolWritten line false else s.poolData line (s.lostData line).1 true).runDeferred

/-- HOLD_WINDOW_END: the hold of `agent` on the line is over (R224). -/
def execHoldWindowEnd (line agent : Nat) (s : State) : Host.Outcome State Fault Refusal :=
  onUnit (decide (line < 2 ^ 46 ∧ agent < 72))
    ((s.modTxn line fun t => { t with holds := t.holds.filter fun h => h.1 != agent }).settleTxn line).runDeferred

/-- SNOOP_TIMEOUT: a holder has not answered for 1 ms (R226). -/
def execSnoopTimeout (line agent : Nat) (s : State) : Host.Outcome State Fault Refusal :=
  let open_ := match s.txn line with | some t => bitOf t.snoops agent | none => false
  let t := (((s.wr fWM_SNPTO_AGENT 0 agent).wr fWM_SNPTO_SLICE 0 (lineSlice line)).wrb fWM_SNPTO_VALID 0 true).wr2
    fWM_SNPTOADDR_L_ADDR_L fWM_SNPTOADDR_H_ADDR_H 0 (64 * line)
  onUnit (decide (line < 2 ^ 46 ∧ agent < 72))
    (if open_ then (((t.inc fWM_ERR_SNPTO 0).pulse 0x1B0).closeSnoop line agent 0).runDeferred else s)

/-- A snoop from a home: it must carry the code of its command.  Its slice looks the line up (R251). -/
def State.snoopCmd (s : State) (m : Msg) (code : Nat) : State :=
  let l := lineOfMsg m
  if m.op = code ∧ s.proxy l then (s.upset (setKey (lineSlice l) (lineSet l)) m.up).homeSnoop l m else s

/-- SNPINV (R230). -/
def execSnpinv (m : Msg) (s : State) : Host.Outcome State Fault Refusal := onUnit (wmOk m) (s.snoopCmd m 0x10)
/-- SNPDATA (R230). -/
def execSnpdata (m : Msg) (s : State) : Host.Outcome State Fault Refusal := onUnit (wmOk m) (s.snoopCmd m 0x11)
/-- SNPCUR (R230). -/
def execSnpcur (m : Msg) (s : State) : Host.Outcome State Fault Refusal := onUnit (wmOk m) (s.snoopCmd m 0x12)

/-- The transaction of line `l` that waits for its home: the open one, or one set aside. -/
def State.awaits (s : State) (l : Nat) : Option Txn :=
  match SMap.get none s.wm.parked l with | some t => some t | none => s.txn l

/-- WM_CMP_RECEIVE: a home's Cmp with its grant and data reaches a proxy (R230), or completes one of its writes. -/
def execWmCmpReceive (m : Msg) (s : State) : Host.Outcome State Fault Refusal :=
  let l := lineOfMsg m
  let u := s.sliceTook (lineSlice l) m false
  let d := if hasLine m then some (m.data, m.poison) else none
  onUnit (wmOk m)
    (match SMap.get none s.wm.parked l with
    | some t =>
      let t' : Txn := { t with owed := false, pool := d, homeGrant := m.st, st := .ts }
      { u with wm := { u.wm with parked := SMap.set none u.wm.parked l (some t') } }
    | none => match s.txn l with
      | none => u
      | some t =>
        if t.owed then
          (u.modTxn l fun t => { t with owed := false, pool := d, homeGrant := m.st,
                                        st := if t.st = .tsr then .ts else t.st }).advance l |>.runDeferred
        else (u.poolWritten l true).runDeferred)

/-- WM_NAK_RECEIVE: a home's NAK reaches a proxy, which keeps the request for its slice to send again (R223, R230). -/
def execWmNakReceive (m : Msg) (s : State) : Host.Outcome State Fault Refusal :=
  let l := lineOfMsg m
  let u := s.sliceTook (lineSlice l) m false
  onUnit (wmOk m)
    (match s.awaits l with
    | none => u
    | some t =>
      let again : Msg := match t.msg with
        | some q =>
          if t.req = 4 ∨ t.req = 5 then
            { kind := .wmReqData, op := t.req + 1, addr := 64 * l, tag := l, ncnt := m.ncnt, len := 80, data := q.data, poison := q.poison,
              be := if t.req = 5 then q.be else 0 }
          else { kind := .wmReq, op := t.req + 1, addr := 64 * l, tag := l, ncnt := m.ncnt }
        | none => { kind := .wmReq, op := t.req + 1, addr := 64 * l, tag := l, ncnt := m.ncnt }
      let k : Nak := { src := 200 + lineSlice l, m := again, hint := 16 * m.hint, arrived := true, placed := true }
      { u with wm := { u.wm with naks := u.wm.naks ++ [k] } })

/-- WM_REFUSE_RECEIVE: the sending device completes its own requester with poisoned data (R229). -/
def execWmRefuseReceive (m : Msg) (s : State) : Host.Outcome State Fault Refusal :=
  let l := lineOfMsg m
  let u := s.sliceTook (lineSlice l) m false
  onUnit (wmOk m)
    (match s.txn l with
    | some t =>
      if t.owed then
        let u := match t.msg with | some q => u.respond l q 0 (some (u.lostData l)) | none => u
        ((u.modTxn l fun t => { t with owed := false, snoops := 0 }).endRow l).runDeferred
      else u
    | none => u)

/-! ### Regions (R209, R210) -/

/-- An extent of regions' bounds is allotted to an agent of this device (R209). -/
def State.allottedHere (s : State) (first last : Nat) : Bool :=
  match s.ownSpan with
  | none => false
  | some sp => s.xlt.map.any fun e =>
      let x := sp * 2 ^ 18 + e.1
      decide (first ≤ x ∧ x ≤ last) && eState e.2 != 0
        && (if eShared e.2 then (List.range 64).any fun p => s.inGroup (eOwn e.2 % 256) s.ownNode p
            else eOwn e.2 / 64 == s.ownNode)

/-- Setting EN of region `n` is refused (R209). -/
def State.regionRefused (s : State) (n first : Nat) : Bool :=
  let last := s.rd fWM_SRGN_LAST n
  let home := s.rd fWM_SRGN_HOME n
  decide (last < first)
    || (home != s.ownNode && !s.rdb fLEAT_ROUTE_AGEN home)
    || (!s.standby && s.allottedHere first last)
    || (List.range 64).any fun j => j != n && (s.rdb fWM_SRGN_EN j || s.rd fWM_SRGN_STATE j == 3)
        && decide (s.rd fWM_SRGN_FIRST j ≤ last ∧ first ≤ s.rd fWM_SRGN_LAST j)

/-- REGION_ENABLE: word 0x0 of WM_SRGNn is written with EN = 1 (R209).  An enabled region, or one being recalled, takes
no such write. -/
def execRegionEnable (n val : Nat) (s : State) : Host.Outcome State Fault Refusal :=
  onUnit (decide (n < 64 ∧ val < 2 ^ 32))
    (if ¬ bitOf val 31 then s
    else if s.rdb fWM_SRGN_EN n ∨ s.rd fWM_SRGN_STATE n = 3 ∨ s.regionRefused n (bitsOf val 0 24) then s.cfgErr 7
    else ((s.wr fWM_SRGN_FIRST n val).wrb fWM_SRGN_EN n true).wr fWM_SRGN_STATE n 2)

/-- REGION_RECALL: word 0x0 of WM_SRGNn is written with EN = 0 (R210). -/
def execRegionRecall (n val : Nat) (s : State) : Host.Outcome State Fault Refusal :=
  onUnit (decide (n < 64 ∧ val < 2 ^ 32))
    (if bitOf val 31 then s
    else if s.rd fWM_SRGN_STATE n = 3 then s.cfgErr 7
    else if ¬ s.rdb fWM_SRGN_EN n then s.wr fWM_SRGN_FIRST n val
    else ((s.wrb fWM_SRGN_EN n false).wr fWM_SRGN_STATE n 3).recallWhere defaultTable (· == n))

/-- An entry or a transaction is left in region `n`. -/
def State.regionBusy (s : State) (n : Nat) : Bool :=
  (s.wm.ways.any fun e => e.2.region == n) || s.wm.txns.any fun e => s.regionOf (64 * e.1) == some n

/-- REGION_RECALL_DONE: the sweep has come round; entries it had to leave are recalled, and the recall ends once none is
left (R210, R245). -/
def execRegionRecallDone (n : Nat) (s : State) : Host.Outcome State Fault Refusal :=
  let t := s.recallWhere defaultTable (· == n)
  onUnit (decide (n < 64))
    (if s.rd fWM_SRGN_STATE n ≠ 3 then s else if t.regionBusy n then t else t.wr fWM_SRGN_STATE n 0)

/-- The last link to node `h` has gone (R250): entries homed there are recalled, and what waits for the home ends as
R170 gives. -/
def State.homeLost (s : State) (h : Nat) : State :=
  let s := s.each ((s.wm.txns.filter fun e => s.homeNode e.1 == h).map (·.1)) fun s l =>
    match s.txn l with | some t => if t.owed then s.poolData l (s.lostData l).1 true else s | none => s
  let s : State := { s with wm := { s.wm with homesGone := s.wm.homesGone.filter (· != h) ++ [h] } }
  (s.recallWhere s.activeTable fun n => s.rd fWM_SRGN_HOME n == h && s.rd fWM_SRGN_STATE n != 0).runDeferred

/-! ### The age sweep (R217) -/

/-- An uncorrectable error in the O cell of line `l` (R217): its data is lost, the line is written poisoned and has no
holder. -/
def State.cellLost (s : State) (l : Nat) : State :=
  if (s.ocell l).isNone then s
  else
    let s := (s.lostLine l 2 127).freeCell l
    let s := (s.writeOut l 127 true (s.lostData l) 0 0 6 true).2
    s.putLine l {}

/-- O_AGE_SWEEP: every O line that has been O for OAGE × 256 µs is written back (R217); Rcl transactions whose write of
an O cell failed try again (R228, R243); `bad` lists lines whose cell is found in error. -/
def execOAgeSweep (bad : List Nat) (s : State) : Host.Outcome State Fault Refusal :=
  let s := s.each bad State.cellLost
  let old := (s.wm.cells.filter fun e => match e.2 with
      | some c => decide (s.rd fWM_OCTL_OAGE 0 ≤ c.sweeps) && s.mayAge e.1 | none => false).map (·.1)
  let stuck := (s.wm.txns.filter fun e => match e.2 with
      | some t => t.st == TState.tw && t.pws.isEmpty && t.req == 10 | none => false).map (·.1)
  let s : State := { s with wm := { s.wm with cells := s.wm.cells.map fun e =>
    (e.1, e.2.map fun c => { c with sweeps := c.sweeps + 1 }) } }
  .next ((s.each old fun s l => if s.mayAge l then s.ageLine l else s).each stuck fun s l =>
    match s.ocell l with
    | some c =>
      let (ok, s) := s.writeOut l 127 false (c.data, c.poison) 0 0 6 true
      if ok then s.modTxn l fun t => { t with pws := [true] } else s
    | none => s)

/-- Every O line written back by the Age row, on entry to CLOSE (R235): one that a transaction holds as soon as that is over. -/
def State.ageAll (s : State) : State := s.each (s.wm.cells.map (·.1)) fun s l => s.rowRetry l 11

/-! ### The loadable table (R231 to R234) -/

/-- The address of word `i` of WM_TTSTAGE. -/
def ttStageAt (i : Nat) : Nat := 0x708000 + 4 * i

/-- Word `i` of the staged image. -/
def State.ttWord (s : State) (i : Nat) : Nat := s.uword (ttStageAt i)

/-- ROWS of the staged image. -/
def State.ttRows (s : State) : Nat := bitsOf (s.ttWord 1) 16 16

/-- The row words of the staged image. -/
def State.ttImage (s : State) : List Nat := (List.range 105).map fun i => s.ttWord (8 + i)

/-- A row word breaks the format (R233 step 3). -/
def rowFormatBad (w : Nat) : Bool := bitsOf w 0 6 != 0 || decide (5 < rSnp w) || decide (4 < rGrant w) || decide (5 < rPw w)

/-- The STATE, REQ and COND combinations of R231. -/
def ttKeys : List Nat := defaultTable.map rowKey

/-- A row is unsafe (R233 step 3): a grant of E or M that could leave another holder, a write-back or Evc row that snoops,
an O next state outside O rows and NEXT 5, an Rcl row that does not end in I. -/
def rowUnsafe (w : Nat) : Bool :=
  let st := bitsOf w 29 3
  let req := bitsOf w 25 4
  let cond := bitsOf w 23 2
  let clears := (rSnp w == 1 || rSnp w == 2 || (rSnp w == 3 && (st == 2 || st == 4)))
  let alone := st == 0 || (cond == 0 && (st == 2 || st == 4)) || (st == 3 && cond == 1)
  (decide (3 ≤ rGrant w) && !clears && !alone)
    || (rNext w == 3 && st != 3)
    || (decide (6 ≤ req ∧ req ≤ 9) && rSnp w != 0)
    || (req == 10 && rNext w != 0)

/-- The index of the first row that `p` holds of. -/
def firstRow (p : Nat → Bool) (ws : List Nat) : Option Nat := ws.findIdx? p

/-- The fixed bytes of the signature block of the staged image, and its key (R473): 200 bytes, FORMAT, ALG, a root key that is not revoked, the
purpose of a transition table, reserved bytes.  The block follows the header and 105 rows. -/
def State.ttSigBlock (s : State) : Bool :=
  let w := s.ttWord 113
  bitsOf (s.ttWord 3) 0 16 == 200 && bitsOf w 0 16 == 0x0101 && decide (bitsOf w 16 8 < 4) && bitsOf w 24 8 == 2 && s.ttWord 114 == 0
    && !bitOf (s.rd fBOOT_LCF_REVOKE 0) (bitsOf w 16 8)

/-- The first check that the staged image fails, as (RESULT, ROW); none where it passes (R233).  `sigOk` is what the model does not compute: the key hash
and the signature agree. -/
def State.ttCheck (s : State) (sigOk : Bool) : Option (Nat × Nat) :=
  let ws := s.ttImage
  let hdr := (List.range 8).map s.ttWord
  let sig := bitsOf (s.ttWord 3) 0 16
  let bytes := ((hdr.take 7) ++ ws).flatMap (toLeBytes 4)
  if s.ttWord 0 ≠ 0x574D5454 ∨ bitsOf (s.ttWord 1) 0 16 ≠ 1 ∨ s.ttRows ≠ 105 ∨ sig < 1 ∨ 1024 < sig
      ∨ bitsOf (s.ttWord 3) 16 16 ≠ 0 ∨ s.ttWord 4 ≠ 0 ∨ s.ttWord 5 ≠ 0 ∨ s.ttWord 6 ≠ 0 then some (3, 0)
  else match firstRow rowFormatBad ws with
    | some i => some (3, i)
    | none =>
      if crc32 bytes ≠ s.ttWord 7 then some (4, 0)
      else if ¬ s.ttSigBlock ∨ ¬ sigOk then some (5, 0)
      else
        let key := fun i => rowKey (ws[i]?.getD 0)
        match (List.range 105).find? fun i => !ttKeys.contains (key i) || ((ws.take i).map rowKey).contains (key i) with
        | some i => some (6, i)
        | none => (firstRow rowUnsafe ws).map fun i => (7, i)

/-- A load ends with RESULT `r`, and the Tender records it (R233). -/
def State.ttEnd (s : State) (r row : Nat) : State :=
  ((s.wr fWM_TTSTAT_RESULT 0 r).wr fWM_TTSTAT_ROW 0 row).journal
    { index := 0x1600, sub := 1, orig := origTender, result := if r = 2 then 0 else if r = 8 then 2 else 0x0A,
      old := s.rd fWM_TTID_TTID 0, new := r + 16 * row }

/-- TABLE_LOAD: WM_TTCTL is written (R233): the staged image is checked, `sigOk` being the verdict on its signature, and
admission closes. -/
def execTableLoad (val : Nat) (sigOk : Bool) (s : State) : Host.Outcome State Fault Refusal :=
  onUnit (decide (val < 2 ^ 32))
    (if bitsOf val 24 8 ≠ 0xC3 ∨ ¬ bitOf val 0 then s
    else if s.wm.loading.isSome then s
    else if ¬ s.standby then s.ttEnd 8 0
    else match s.ttCheck sigOk with
      | some (r, row) => s.ttEnd r row
      | none =>
        State.wrb ((State.wr { s with wm := { s.wm with loading := some (s.ttImage, s.ttWord 2, s.ttWord 7) } }
          fWM_TTSTAT_RESULT 0 1).wr fWM_TTSTAT_ROW 0 0) fRSV_STAT_PHOLD 0 true)

/-- Something holds every credit return and Runnel engine: a profile change, a table load, or a HOLD reaction (R32, R233,
R398). -/
def State.holdWanted (s : State) : Bool :=
  s.rdb fARCH_PROFILE_BUSY 0 || s.wm.loading.isSome || s.spw.held.any fun e => e.2 == 8

/-- Admission released after a load. -/
def State.ttRelease (s : State) : State :=
  let s := { s with wm := { s.wm with loading := none } }
  ((s.wrb fRSV_STAT_PHOLD 0 s.holdWanted).retCredits).drainAll

/-- TABLE_SWITCH: no slice has an open transaction, and the tables switch (R233). -/
def execTableSwitch (s : State) : Host.Outcome State Fault Refusal :=
  .next (match s.wm.loading with
    | some (ws, id, c) =>
      if s.wm.txns.isEmpty then
        let s : State := { s with wm := { s.wm with table := ws } }
        (((s.ttEnd 2 0).wr fWM_TTID_TTID 0 id).wr fWM_TTCRC_CRC 0 c).ttRelease
      else s
    | none => s)

/-- TABLE_LOAD_DRAIN_TIMEOUT: the slices have not emptied within 1 s (R233). -/
def execTableLoadDrainTimeout (s : State) : Host.Outcome State Fault Refusal :=
  .next (if s.wm.loading.isSome then (s.ttEnd 9 0).ttRelease else s)

/-- TABLE_CRC_CHECK: both copies' CRCs are recomputed (R234): `tab` 1 where one fails, 2 or 3 where both do. -/
def execTableCrcCheck (tab : Nat) (s : State) : Host.Outcome State Fault Refusal :=
  onUnit (decide (tab < 4)) (s.tabRead tab)

/-! ### Scrubbing and diagnosis (R252, R258) -/

/-- A slice's scrubber moves to its next set; once every slice has been through, SWEEPS counts. -/
def State.scrubNext (s : State) (sl : Nat) : State :=
  let n := SMap.get 0 s.wm.scrubAt sl + 1
  let s : State := { s with wm := { s.wm with scrubAt := SMap.set 0 s.wm.scrubAt sl n } }
  let low := fun (s : State) => ((List.range 16).map fun i => SMap.get 0 s.wm.scrubAt i / 65536).foldl min n
  if s.rd fSNF_SCRUBSTAT_SWEEPS 0 < low s then s.inc fSNF_SCRUBSTAT_SWEEPS 0 else s

/-- SCRUB_SET: the scrubber of slice `sl` reads its next set and corrects it (R252); a running sweeper pauses it. -/
def execScrubSet (sl : Nat) (up : Upset) (s : State) : Host.Outcome State Fault Refusal :=
  let k := setKey sl (SMap.get 0 s.wm.scrubAt sl % 65536)
  onUnit (decide (sl < 16))
    (if ¬ s.rdb fSNF_CTL_SCRUBEN 0 ∨ s.sweeping then s
    else (s.upset k up).scrubNext sl)

/-- SNF_DIAG_READ: SNF_DIAGSEL is written; with GO the entry of that one way is read as stored and then handled as any read (R258).
`err` is what its check finds: 0 good, 2 uncorrectable, 1 or 3 corrected. -/
def execSnfDiagRead (val err : Nat) (s : State) : Host.Outcome State Fault Refusal :=
  let (sl, i, w) := (bitsOf val 0 4, bitsOf val 4 16, bitsOf val 20 5)
  let k := wayKey (setKey sl i) w
  let t := ((s.wr fSNF_DIAGSEL_SLICE 0 sl).wr fSNF_DIAGSEL_SET 0 i).wr fSNF_DIAGSEL_WAY 0 w
  let e := s.fentry k
  let bad := err != 0 || s.entryBad e
  let raw := storedEntry e err s.wm.reads
  onUnit (decide (val < 2 ^ 32 ∧ err < 4))
    (if s.waysPerSet ≤ w then s
    else if ¬ bitOf val 31 then t
    else
      let t := t.each (List.range 4) fun t n => t.wr fSNF_DIAGDATA_DATA n (bitsOf raw (32 * n) 32)
      let t := ((t.wrb fSNF_DIAGSTAT_DONE 0 true).wrb fSNF_DIAGSTAT_ECCERR 0 bad).wrb fSNF_DIAGSTAT_PINNED 0 (s.pinned k)
      State.readWay { t with wm := { t.wm with reads := t.wm.reads + 1 } } k err)

/-! ### Resets (R235, R257) -/

/-- What a reset of every tile does to the slices: transactions, NAKs, reservations, holds and the filter are emptied; O
cells go with the Reservoir, counted where they were not written back first. -/
def State.wmReset (s : State) (cold : Bool) : State :=
  let n := s.wm.cells.length
  let w : WmS := { table := s.wm.table, refused := s.wm.refused, pwFailed := s.wm.pwFailed, scrubAt := s.wm.scrubAt, reads := s.wm.reads }
  let s := if cold then { s with wm := {} } else { s with wm := w }
  let s := s.each (List.range 3) fun s k => s.wr fWM_AGDOWN_PURGING k 0
  let s := s.each (List.range 16) State.clearSuspect
  if cold then s else s.wr fWM_ERR2_OLOST 0 (satAdd 16 (s.rd fWM_ERR2_OLOST 0) n)

end Sys2Proof.Machine
end

