-- ==== Sys2Proof/Machine/Enq.lean ====
section
/-! DEFINITION. How a message enters the core (R182 to R195, R261 to R267, R277, R327 to R332), and the core's own
periodic checks (R196, R202, R204). -/

namespace Sys2Proof.Machine

/-! ### The receive queues of a Leat link (R161, R163) -/

/-- The receive queue of VC `v` of link `k`. -/
def State.rxq (s : State) (k v : Nat) : List RxUnit :=
  let l := s.lk k
  if v = 0 then l.rx0 else if v = 1 then l.rx1 else l.rx2

/-- The receive queue of VC `v` of link `k` replaced. -/
def State.setRxq (s : State) (k v : Nat) (q : List RxUnit) : State :=
  s.lkMod k fun l => if v = 0 then { l with rx0 := q } else if v = 1 then { l with rx1 := q } else { l with rx2 := q }

/-- The first message of a receive queue, the queue after it, and how many credits the units that have left it give; a misrouted
unit gives no message (R163). -/
def takeHead : List RxUnit → Option (Option Msg × List RxUnit × Nat)
  | [] => none
  | u :: rest =>
    let c := b2n (!u.old)
    if u.mis then some (none, rest, c)
    else match u.msgs with
      | m :: ms => if ms.isEmpty then some (some m, rest, c) else some (some m, { u with msgs := ms } :: rest, 0)
      | [] => (takeHead rest).map fun (m, q, n) => (m, q, n + c)

/-! ### Tenants (R328) -/

/-- A word of the tenant maps answers the port's default where it has been lost to an error (R343). -/
def State.mapWord (s : State) (addr : Nat) (ovr : Bool) (v p : Nat) : Nat :=
  if ovr ∧ ¬ s.weir.offWords.contains addr then v else s.rd fWEIR_TDEF_TENANT p

/-- The tenant of a host's CXL.mem request that hits decoder `d`. -/
def State.tenantDec (s : State) (p d : Nat) : Nat :=
  let i := 16 * p + d
  s.mapWord (fWEIR_TDEC_OVR.addr + 4 * i) (s.rdb fWEIR_TDEC_OVR i) (s.rd fWEIR_TDEC_TENANT i) p

/-- The tenant of a request to window `i` of port `p`. -/
def State.tenantWin (s : State) (p i : Nat) : Nat :=
  let k := 256 * p + i
  s.mapWord (fWEIR_TWIN_OVR.addr + 4 * k) (s.rdb fWEIR_TWIN_OVR k) (s.rd fWEIR_TWIN_TENANT k) p

/-! ### Entry -/

/-- The credit of a message that does not stay: returned at once. -/
def State.creditNow (s : State) (x n : Nat) (m : Msg) : State :=
  if n = 0 then s else s.retCredit { x := x, t := m.tc, vc := creditVc x m, n := n }

/-- Message `m` of ingress `x` taken into the Reservoir for `egs`, policed where R327 says, with `credits` freed. -/
def State.admitMsg (s : State) (x : Nat) (m : Msg) (whole : Bool) (egs : List Nat) (credits : Nat) : State :=
  let id := s.swc.nextId
  let eg := egs.headD 0
  let c := if x < 64 ∧ policed x m then chargeOf m (s.rd fWEIR_EG_LENOVH x) else 0
  let s := s.countMsg 0x10 4 x m
  if ¬ policed x m then
    ((s.store x m whole egs 0 credits false).mirrorIn id egs).each egs fun s e =>
      (s.when_ (decide (1 < egs.length)) fun s => s.countMsg 0x12 4 0 m).enqueue id e
  else
    let k := s.colour m.tenant
    let s := if k = 1 then s.countMsg 0x14 4 0 m else if k = 2 then s.countMsg 0x15 4 0 m else s
    let hold := s.mustHold m (5 * flowNo x eg m.tc + m.grp) || !s.mayRelease k egs m.tc
    let s := (s.store x m whole egs c credits hold).mirrorIn id egs
    if hold then s.setHeld (s.weir.held ++ [id])
    else match s.stored id with
      | some d => s.release d k
      | none => s

/-- A message that knows its destination enters: a Turnout group (R195), a link or port that takes it, or none. -/
def State.enter (s : State) (x : Nat) (m : Msg) (whole : Bool) (credits : Nat) : State :=
  match m.group with
  | some g =>
    if m.grp = 1 then (s.creditNow x credits m).reply m .ur false
    else if m.kind ≠ .ioPosted ∧ m.kind ≠ .memRwd then (s.creditNow x credits m).noRoute m
    else match s.groupMembers g with
      | none => (s.creditNow x credits m).inc fTRN_ERR_NOGRP 0
      | some egs =>
        let up := egs.filter s.reaches
        let s := s.each (egs.filter fun e => !s.reaches e) fun s e => s.undeliverable e m
        if up.isEmpty then s.creditNow x credits m else s.admitMsg x m whole up credits
  | none =>
    match s.egressOf m with
    | none => (s.creditNow x credits m).unrouted m
    | some e =>
      if e < 64 ∧ ¬ s.dlUp e then (s.creditNow x credits m).lostAtPort e m
      else s.admitMsg x m whole [e] credits

/-- What the check of a request made of it (R265, R277): it enters, is denied, or is completed as for a link that has left service, since
no node serves its span or no link leads there (R261; what R170 records goes to link 0, log entry 121). -/
def State.judged (s : State) (x : Nat) (m : Msg) (v : Verdict) (whole : Bool) (credits : Nat) : State :=
  match v with
  | .send n => s.enter x n whole credits
  | .deny reason addr => (s.creditNow x credits m).xltDeny x m reason addr
  | .lost => (s.creditNow x credits m).lostAtLink 0 m

/-- A part of a window's request with verdict `v` (R261, R277): for a peer's span it goes as CXL.mem requests, one a line; an AtomicOp,
which CXL.mem does not have, is an Unsupported Request (DESIGN CHOICE, log entry 123). -/
def State.winSend (s : State) (x : Nat) (c : Msg) (v : Verdict) (whole : Bool) (credits : Nat) : State :=
  match v with
  | .send n =>
    if n.space = .fabric ∧ n.node ≠ s.ownNode then
      (if n.act = .atomic then (s.creditNow x credits c).reply c .ur false
      else s.each (linePieces n.addr (spanBytes n)) fun s (k, a, b) =>
        s.judged x c (.send { asMem (n.cut k b) with dest := 0x40 + sliceOf a }) whole (if k = 0 then credits else 0))
    else s.judged x c v whole credits
  | _ => s.judged x c v whole credits

/-- A request whose address is of the PF BAR4 aperture of port `p`, each part translated by itself (R277). The first
part carries the credit. -/
def State.byAperture (s : State) (x p : Nat) (m : Msg) (whole : Bool) (credits : Nat) : State :=
  let slot := 2 ^ (s.rd fPRT_TIBLK_WINSZ p - 8)
  s.each (s.winParts p 16 0 m.addr (spanBytes m)) fun s (k, n) =>
    let c := { m.cut k n with tenant := s.tenantWin p ((m.addr + k) / slot), win := some (p, s.rd fXLT_WSTAT_GEN p),
                                  gen := some (s.rd fXLT_MAPSTAT_G 0) }
    s.winSend x c (s.byWindow p c) whole (if k = 0 then credits else 0)

/-- A register-space access through PF BAR0 of port `p`, which REGACC admits (R138). -/
def State.regAccess (s : State) (p : Nat) (m : Msg) : Bool :=
  m.dest == 0x7F && m.space == .fabric && (m.act == .read || m.act == .write) && !s.rdb fPRT_PORTCFG_REGACC p

/-- Indices `x` and `y` lead to the same partner: one port, or links to one peer node (R175). -/
def State.samePeer (s : State) (x y : Nat) : Bool :=
  x == y || (decide (64 ≤ x ∧ 64 ≤ y) && s.rd fLEAT_STAT_PEERNODE (x - 64) == s.rd fLEAT_STAT_PEERNODE (y - 64))

/-- The request that response `m` of ingress `x` answers (R127, R170): the oldest sent to that partner that has its TAG and class of
protocol. -/
def State.owedFor (s : State) (x : Nat) (m : Msg) : Option Owed :=
  s.swc.owed.find? fun o => s.samePeer x o.x && o.m.tag == m.tag && o.m.mclass == m.mclass

/-- Response `m` of ingress `x` enters on its way back; one whose requester's link has left service is discarded (R170).  Nothing is owed to
a peer any longer once it is whole. -/
def State.passBack (s : State) (x : Nat) (m : Msg) (whole : Bool) (credits : Nat) : State :=
  match s.askedFor m with
  | none => s.enter x m whole credits
  | some a =>
    if a.dead then (s.askedDone a).creditNow x credits m
    else (s.when_ whole fun s => s.askedDone a).enter x m whole credits

/-- The rest of a response of ingress `x` has arrived: its request is answered. -/
def State.answered (s : State) (x : Nat) (m : Msg) : State :=
  let s : State := match s.owedFor x m with
    | some o => { s with swc := { s.swc with owed := s.swc.owed.erase o } }
    | none => s
  match s.askedFor m with
  | some a => s.askedDone a
  | none => s

/-- A response enters at `x`: it goes back to the requester, with the request's TENANT (R328).  A completion that nothing
waits for any longer is discarded (R127, R170).  While only part of it is here its request still waits: should the link go down, it is
completed under R127 (R193). -/
def State.enterResponse (s : State) (x : Nat) (m : Msg) (whole : Bool) (credits : Nat) : State :=
  match s.owedFor x m with
  | some o =>
    let s : State := if whole then { s with swc := { s.swc with owed := s.swc.owed.erase o } } else s
    match ioBack o.m m with
    | none => s.creditNow x credits m
    | some m =>
    let r := if x < 64 then
        { m with src := o.m.dest, snode := s.ownNode, dest := o.m.entered, node := o.m.snode, tc := o.m.tc, tenant := o.m.tenant }
      else { m with dest := o.m.via.getD m.dest }
    s.passBack x r whole credits
  | none =>
    match m.kind with
    | .ioCpl | .memNdr | .memDrs => s.creditNow x credits m
    | _ => s.passBack x m whole credits

/-- ACS P2P Request Redirect is set on the bridge to which LD `ld` at port `x` is bound: its requests for the aperture go up to the
host (R277, R122; what redirection is, PCI Express says: log entry 103). -/
def State.redirected (s : State) (x ld : Nat) : Bool :=
  !s.rdb fPRT_PORTCFG_ROLE x && (s.bridgeOf x ld).any fun b => bitOf (SMap.get {} s.prt.bridges b).acs 2

/-- CXL.io request `m` of a peer names an upstream port of this node, and its requester is no device bound to that port's VCS: it can
only be of a window of KIND 1, which needs a downstream port (R277, DEDUCED, log entry 123). -/
def State.strayUp (s : State) (m : Msg) : Bool :=
  m.isIo && decide (m.grp < 3 ∧ m.dest < 0x40) && s.upstream m.dest && !((s.listed fPRT_VPPB_STATE).any fun k =>
    k / 32 == m.dest && s.holdsBinding k && s.rd fPRT_VPPB_KIND k == 2 && s.rd fPRT_VPPB_NODE k == m.snode
      && s.rd fPRT_VPPB_PORT k == m.src)

/-- What the check of a peer's request made of it; one that would go on to a third node is not forwarded and has no route
(R175, log entry 109). -/
def Verdict.here (v : Verdict) (own : Nat) : Verdict :=
  match v with
  | .send n => if n.node = own then v else .send { n with node := own, dest := 0x70 }
  | v => v

/-- A message as link index `x` hands it over: its unit's DNODE was this node, its SNODE the peer (R149, R150). -/
def State.fromPeer (s : State) (x : Nat) (m : Msg) : Msg :=
  if 64 ≤ x then { m with node := s.ownNode, snode := s.rd fLEAT_STAT_PEERNODE (x - 64) } else m

/-- Message `m` of ingress `x` as the Flume counts its entry (R328, R437, R438): with its requester and its tenant, and, where a decoder
maps it to the fabric, its fabric address. -/
def State.entryMsg (s : State) (x : Nat) (m : Msg) : Msg :=
  if 64 ≤ x then s.fromPeer x m
  else if m.grp = 4 then
    match s.owedFor x m with
    | some o => { m with src := o.m.dest, snode := s.ownNode, tc := o.m.tc, tenant := o.m.tenant }
    | none => m
  else
    let n := { m with src := x, snode := s.ownNode, tenant := s.rd fWEIR_TDEF_TENANT x }
    match m.space, s.hdmHit x m.addr with
    | .hpa, some d =>
      let n := { n with tenant := s.tenantDec x d }
      if s.rdb fXLT_HDMX_FAB (16 * x + d) then
        { n with addr := (s.rd fXLT_HDMX_FABBASE (16 * x + d) * 2 ^ 28 + (m.addr - (s.hdm x d).base)) % 2 ^ 52 }
      else n
    | .aperture, _ =>
      if s.rdb fPRT_PORTCFG_ROLE x then { n with tenant := s.tenantWin x (m.addr / 2 ^ (s.rd fPRT_TIBLK_WINSZ x - 8)) } else n
    | _, _ => n

/-- Downstream port `x` is not among the 16 CXL.cache devices of its VCS, the first ones by port number (R122; log entry 121). -/
def State.cacheOver (s : State) (x : Nat) : Bool :=
  match s.vcsOf x with
  | some v => decide (16 ≤ ((List.range x).filter fun q => s.rdb fPRT_PORTSTAT_CXLCACHE q && s.vcsOf q == some v).length)
  | none => false

/-- A message of ingress `x`, 0 to 71, enters (R182): addresses are translated and checked, tenants assigned.
A request that needs an option that ports lack is discarded and counted, or completed as Unsupported Request on CXL.io (R122): CXL.cache
at an upstream port or of a device beyond the 16 of its VCS, and a non-posted request that is none of those the model knows. -/
def State.enterAt (s : State) (x : Nat) (m : Msg) (whole : Bool) (credits : Nat) : State :=
  let s := s.countMsg 0x01 (if x < 64 then x / 16 else (x - 64) / 2) x (s.entryMsg x m)
  let m := s.fromPeer x m
  if m.grp = 4 then s.enterResponse x m whole credits
  else if m.group.isSome then s.enter x m whole credits
  else if 64 ≤ x then
    let s := s.peerAsks x m
    if m.mclass = 1 ∧ m.grp < 3 ∧ m.space = .fabric then s.judged x m ((s.byFabric m m.addr).here s.ownNode) whole credits
    else if s.strayUp m then (s.creditNow x credits m).noRoute m
    else s.enter x m whole credits
  else if m.mclass = 2 ∧ (s.rdb fPRT_PORTCFG_ROLE x ∨ s.cacheOver x) then (s.wrb fPRT_ERR_CFGREJ x true).creditNow x credits m
  else if m.kind = .ioNonPosted ∧ m.act = .other then (s.creditNow x credits m).reply { m with src := x, snode := s.ownNode } .ur false
  else
    let m := { m with src := x, snode := s.ownNode, tenant := s.rd fWEIR_TDEF_TENANT x }
    match m.space with
    | .hpa =>
      match s.hdmHit x m.addr with
      | some d =>
        let m := { m with tenant := s.tenantDec x d }
        s.judged x m (s.byHdm x m) whole credits
      | none => s.judged x m (s.byHdm x m) whole credits
    | .aperture =>
      match (if s.rdb fPRT_PORTCFG_ROLE x then some x else (s.bridgeOf x m.ld).map (· / 32)) with
      | some p =>
        if s.redirected x m.ld then s.enter x { m with dest := p, tgt := m.addr } whole credits
        else s.byAperture x p { m with src := p, via := if x = p then none else some x } whole credits
      | none => (s.creditNow x credits m).noRoute m
    | .fabric =>
      if s.regAccess x m then
        if m.grp = 1 then (s.creditNow x credits m).reply m .ur false else s.creditNow x credits m
      else if m.dest = 0x7F then s.enter x m whole credits
      else s.judged x m (s.byFabric m m.addr) whole credits
    | .routed => s.enter x { m with tgt := m.addr } whole credits

/-- The message of ingress `x` that is still arriving. -/
def State.arriving (s : State) (x : Nat) : Option Stored := s.swc.msgs.find? fun d => d.x == x && !d.whole

/-- The rest of a message arrives. -/
def State.nowWhole (s : State) (d : Stored) (poison : Bool) : State :=
  let s := s.when_ (d.m.grp == 4) fun s => s.answered d.x d.m
  (s.storedMod d.id fun d => { d with whole := true, here := d.cells, m := { d.m with poison := d.m.poison || poison } }).considerAll

/-- `here` cells of the message still arriving from ingress `x` are in the Reservoir (R192). -/
def State.noteCells (s : State) (x here : Nat) : State :=
  match s.arriving x with
  | some d => s.storedMod d.id fun d => { d with here := max here d.here }
  | none => s

/-- Port `x` has no retry place free, so that `m`, a new coherent request of it, waits in its ingress (R223). -/
def State.placesFull (s : State) (x : Nat) (m : Msg) : Bool :=
  decide (64 ≤ s.placed x ∧ m.code < 6) && m.grp != 4 && (m.mclass == 1 || m.mclass == 2) && (s.regionOf (s.entryMsg x m).addr).isSome

/-- What the first message released at index `x` makes of the core (R184); at a port `here` cells of it have arrived. -/
def State.enqueueFrom (s : State) (x sel here : Nat) (m : Msg) : State :=
  if 64 ≤ x then
    match takeHead (s.rxq (x - 64) sel) with
    | none => s
    | some (om, q, n) =>
      let s := s.setRxq (x - 64) sel q
      match om with
      | none => s.leatGrant (x - 64) sel n
      | some m => s.enterAt x m true n
  else match s.arriving x with
    | some d => if d.cells ≤ here then s.nowWhole d m.poison else s.noteCells x here
    | none => if s.dlUp x ∧ ¬ s.placesFull x m then (s.enterAt x m (decide (m.cells ≤ here) || !m.isIo) m.cells).noteCells x here else s

/-- The map entry that the check of message `m` of ingress `x` reads: of its fabric address in the own span, outside every shared region
(R261, R265); none for one that the map is not asked about. -/
def State.mapIdx (s : State) (x : Nat) (m : Msg) : Option Nat :=
  let n := s.entryMsg x m
  let a : Option Nat :=
    if 2 < m.grp ∨ (64 ≤ x ∧ m.mclass ≠ 1) then none
    else match m.space with
      | .fabric => if m.dest = 0x7F then none else some n.addr
      | .hpa => (s.hdmHit x m.addr).bind fun d => if s.rdb fXLT_HDMX_FAB (16 * x + d) then some n.addr else none
      | .aperture =>
        match (if s.rdb fPRT_PORTCFG_ROLE x then some x else (s.bridgeOf x m.ld).map (· / 32)) with
        | some p =>
          (match s.byWindow p n with
          | .send v => if v.space = .fabric then some v.addr else none
          | .deny r b => if 1 ≤ r ∧ r ≤ 3 then some b else none
          | .lost => none)
        | none => none
      | .routed => none
  a.bind fun a => if s.ownSpan = some (spanOf a) ∧ (s.regionOf a).isNone then some (extOf a) else none

/-- CORE_MESSAGE_ENQUEUE: a message that its link layer has released enters the core (R184).  At a port it is `m`, of which
`here` cells have arrived so far; the next commands for the port say how many more have, until it is whole.  At a
Leat link the message is the first of the receive queue of VC `sel`.  `err` is an error met in its map entry (R275).  A request
that would take a held list beyond the 16,384 stays at the head of its receive queue, and the event is counted (R332). -/
def execCoreMessageEnqueue (x sel here : Nat) (m : Msg) (err : Nat) (s : State) : Host.Outcome State Fault Refusal :=
  let s := match s.mapIdx x (if 64 ≤ x then ((takeHead (s.rxq (x - 64) sel)).bind (·.1)).getD m else m) with
    | some i => s.mapEcc i err
    | none => s
  let t := s.enqueueFrom x sel here m
  onUnit (decide (x < 72 ∧ sel < 3 ∧ err < 4)) (if 16384 < t.rd fWEIR_HELD_LISTS 0 then s.inc fWEIR_ERR_HOLWAIT 0 else t)

/-! ### Residue (R196) -/

/-- Copies of message `d` that are aged: served by the Turnout, 2 ms after entry. -/
def State.aged (s : State) (d : Stored) : Bool :=
  (d.m.group.isSome || (d.m.grp == 3 && decide (72 ≤ d.x ∧ d.x < 88))) && decide (d.enteredNs + 2000000 ≤ s.pwr.ns)

/-- The copy of `d` at egress `e` dropped as residue, where it has not started to leave. -/
def State.residue (s : State) (d : Stored) (e : Nat) : State :=
  let q := s.queue e d.m.tc d.m.grp
  if q.any fun en => en.id == d.id then
    let s := (s.setQueue e d.m.tc d.m.grp (q.filter fun en => en.id != d.id)).copyGone d e
    let s := (s.wr fTRN_AGEDROP_GROUP 0 (d.m.group.getD (d.x - 72))).wrb fTRN_AGEDROP_SNOOP 0 d.m.group.isNone
    (((s.wr fTRN_AGEDROP_EGRESS 0 e).wrb fTRN_AGEDROP_VALID 0 true).inc fTRN_AGECNT_AGECNT 0).pulse 0x1A3 |>.countMsg 0x13 4 0 d.m
  else s

/-- TURNOUT_AGE_SWEEP: every 16 µs copies that have waited 2 ms are dropped (R196). -/
def execTurnoutAgeSweep (s : State) : Host.Outcome State Fault Refusal :=
  .next (State.drainAll (s.each (s.swc.msgs.filter s.aged) fun s d => s.each d.egs fun s e => s.residue d e))

/-! ### Stall and audit (R202, R204) -/

/-- Some sub-queue of egress `x` whose class no rotation gate closes holds a message. -/
def State.queued (s : State) (x : Nat) : Bool :=
  (List.range 8).any fun t => s.gateOpen x t && (List.range 5).any fun g => !(s.queue x t g).isEmpty

/-- The link of egress `x`, 0 to 71, is in L0 or ACTIVE. -/
def State.linkRuns (s : State) (x : Nat) : Bool :=
  if x < 64 then s.rd fPRT_PORTSTAT_LTSSM x == 4 else s.rd fLEAT_STAT_STATE (x - 64) == 3

/-- EGRESS_STALL: the stall timer of egress `x` has reached STALLMS (R202). -/
def execEgressStall (x : Nat) (s : State) : Host.Outcome State Fault Refusal :=
  onUnit (decide (x < 72))
    (if s.rdb fSWC_CTL_STALLEN 0 ∧ s.queued x ∧ s.linkRuns x then (s.setBit fSWC_STALL_STALL x true).pulse (0x0C0 + x) else s)

/-- CELL_AUDIT: the free count and the cells of stored messages must make RSV_CELLS (R204); an empty Reservoir gets back
what no entry holds.  An O cell counts as held (R217). -/
def execCellAudit (s : State) : Host.Outcome State Fault Refusal :=
  let held := (s.swc.msgs.map (·.cells)).sum + s.wm.cells.length + s.keptCells
  let bad := s.rd fRSV_FREE_FREE 0 + held != s.rd fRSV_CELLS_CELLS 0
  let s1 := s.when_ bad fun s => s.pulse 0x1A1
  .next (if bad && s.swc.msgs.isEmpty && s.wm.cells.isEmpty then
      let t := s1.giveCells s.swc.lost
      (State.retCredits { t with swc := { t.swc with lost := 0 } }).drainAll
    else s1)

end Sys2Proof.Machine
end

