-- ==== Sys2Proof/Machine/Ser.lean ====
section
/-! DEFINITION. SerDes lanes (R101 to R121): what a lane does by itself, and the lane registers.  What its link makes of it
is with the Leat links. -/

namespace Sys2Proof.Machine

/-! ### Lanes (R101) -/

/-- The link of a Leat lane. -/
def laneLink (l : Nat) : Nat := (l - 256) / 9

/-- The physical index of a Leat lane. -/
def laneIdx (l : Nat) : Nat := (l - 256) % 9

/-- The lane of link `k` at physical index `i`. -/
def laneOf (k i : Nat) : Nat := 256 + 9 * k + i

/-- The nine lanes of link `k`. -/
def linkLanes (k : Nat) : List Nat := (List.range 9).map (laneOf k)

/-- The tile of a lane. -/
def laneTile (l : Nat) : Nat := if l < 256 then l / 64 else tileOfLink (laneLink l)

/-- The power domain of a lane (R64). -/
def laneDom (l : Nat) : Nat := if l < 256 then 8 + l / 4 else 72 + laneLink l

/-- The power domain of lane `l` is on (R103). -/
def State.laneOn (s : State) (l : Nat) : Bool := s.rdb fPWR_DOMCTL_PWRD (laneDom l)

/-- The port that covers the quad of port lane `l`, where one is enabled. -/
def State.lanePort (s : State) (l : Nat) : Option Nat :=
  (List.range 64).find? fun p => s.rdb fPRT_PORTCFG_ENABLE p && s.covers p (l / 4)

/-- The lanes of port `p`'s quads. -/
def State.portLanes (s : State) (p : Nat) : List Nat :=
  (List.range (4 * quadsOf (s.rd fPRT_PORTCFG_WIDTH p))).map fun i => 4 * p + i

/-- Lane `l` beside its registers. -/
def State.lane (s : State) (l : Nat) : Lane := SMap.get {} s.lanes l

/-- Lane `l`'s record changed by `f`. -/
def State.laneMod (s : State) (l : Nat) (f : Lane → Lane) : State := { s with lanes := SMap.mod {} s.lanes l f }

/-- STAGE of lane `l`: 0 OFF, 1 DETECT, 2 CDR, 3 ALIGN, 4 EQ, 5 DESKEW, 6 READY, 7 ACTIVE, 8 FAIL, 9 PCIE. -/
def State.laneStage (s : State) (l : Nat) : Nat := s.rd fSER_LSTAT_STAGE l

/-- STAGE of lane `l` set. -/
def State.setStage (s : State) (l v : Nat) : State := s.wr fSER_LSTAT_STAGE l v

/-- An eye scan of a lane that leaves CDR lock ends (R120). -/
def State.eyeLost (s : State) (l : Nat) : State :=
  if (s.lane l).scan then
    ((s.laneMod l fun n => { n with scan := false }).wrb fSER_EYECTL_DONE l true).wr fSER_EYECNT_COUNT l 0xFFFFFFFF
  else s

/-! ### Equalization (R114, R115) -/

/-- Taps CM2, CM1 and CP1 of preset `p` (R114). -/
def presetTaps (p : Nat) : Nat × Nat × Nat :=
  match p with
  | 0 => (0, 0, 0)
  | 1 => (0, 0, 8)
  | 2 => (0, 0, 16)
  | 3 => (0, 4, 8)
  | 4 => (0, 8, 8)
  | 5 => (0, 8, 0)
  | 6 => (0, 12, 8)
  | 7 => (2, 8, 8)
  | 8 => (4, 12, 8)
  | _ => (0, 4, 16)

/-- Taps that obey the limits of R114. -/
def tapsOk (m2 m1 p1 : Nat) : Bool := decide (m2 ≤ 6 ∧ m1 ≤ 16 ∧ p1 ≤ 16 ∧ m2 + m1 + p1 ≤ 32)

/-- The transmitter of lane `l` set to taps CM2, CM1 and CP1, with C0 what they leave of 64. -/
def State.setTaps (s : State) (l : Nat) (t : Nat × Nat × Nat) : State :=
  (((s.wr fSER_TXEQ_CM2 l t.1).wr fSER_TXEQ_CM1 l t.2.1).wr fSER_TXEQ_CP1 l t.2.2).wr fSER_TXEQ_C0 l
    (64 - (t.1 + t.2.1 + t.2.2))

/-- Preset `p` applied to the transmitter of lane `l`. -/
def State.setPreset (s : State) (l p : Nat) : State := (s.setTaps l (presetTaps p)).wr fSER_TXEQ_PRESET l p

/-- Taps after step `q` of R110, 1 to 6; none where a tap would fall below 0. -/
def stepTaps (q m2 m1 p1 : Nat) : Option (Nat × Nat × Nat) :=
  match q with
  | 1 => some (m2, m1 + 1, p1)
  | 2 => if m1 = 0 then none else some (m2, m1 - 1, p1)
  | 3 => some (m2, m1, p1 + 1)
  | 4 => if p1 = 0 then none else some (m2, m1, p1 - 1)
  | 5 => some (m2 + 1, m1, p1)
  | 6 => if m2 = 0 then none else some (m2 - 1, m1, p1)
  | _ => none

/-- The partner's request `r`, a preset or 16 + a step, applied; a step that breaks the limits of R114 is not (R115). -/
def State.eqApply (s : State) (l r : Nat) : State :=
  if r < 16 then s.setPreset l r
  else match stepTaps (r - 16) (s.rd fSER_TXEQ_CM2 l) (s.rd fSER_TXEQ_CM1 l) (s.rd fSER_TXEQ_CP1 l) with
    | some (m2, m1, p1) => if tapsOk m2 m1 p1 then s.setTaps l (m2, m1, p1) else s
    | none => s

/-- The receiver of lane `l` adapts at present: that of a port lane all through L0 unless ADAPTFRZ holds it (R104), that of a Leat lane
from CDR on, where the hold begins in READY (R115). -/
def State.adapting (s : State) (l : Nat) : Bool :=
  let frz := s.rdb fSER_LCTL_ADAPTFRZ l
  s.laneOn l &&
    if l < 256 then !frz && s.rdb fSER_LSTAT_CDRLOCK l && (s.lanePort l).any fun p => s.rd fPRT_PORTSTAT_LTSSM p == 4
    else decide (2 ≤ s.laneStage l ∧ s.laneStage l ≤ 7) && !(frz && decide (6 ≤ s.laneStage l))

/-- SER_RXEQ of lane `l` as CTLE, VGA and DFE1: free values that move on while the receiver adapts, and stand where it has stopped
(R104, R115, R121). -/
def State.rxeq (s : State) (l : Nat) : Nat × Nat × Nat :=
  if s.adapting l then
    let v := (Config.adaptedAt l s.pwr.ns).toNat
    (v % 21, v / 32 % 64, v / 2048 % 128)
  else (s.rd fSER_RXEQ_CTLE l, s.rd fSER_RXEQ_VGA l, s.rd fSER_RXEQ_DFE1 l)

/-- SER_RXEQ of lane `l` kept as it now stands: before what may end its receiver's adaptation. -/
def State.adaptKeep (s : State) (l : Nat) : State :=
  ((s.wr fSER_RXEQ_CTLE l (s.rxeq l).1).wr fSER_RXEQ_VGA l (s.rxeq l).2.1).wr fSER_RXEQ_DFE1 l (s.rxeq l).2.2

/-- The receiver's next request of the partner's transmitter, as its own tuning chooses it (R115): a preset, or a step as 16 + its
code. -/
def State.nextReq (s : State) : Option Nat × State :=
  let (n, t) := s.draw
  let v := (Config.adapted n).toNat % 16
  (some (if v < 10 then v else 16 + (v - 9)), t)

/-! ### Stages (R111) -/

/-- The receiver of lane `l` goes to DETECT: what it had found is forgotten, but for the last good marker's PIDX and LPOS (R121; log
entry 108). -/
def State.laneDetect (s : State) (l : Nat) : State :=
  let s := (((s.adaptKeep l).eyeLost l).wrb fSER_LSTAT_CDRLOCK l false).wrb fSER_LSTAT_MARKLOCK l false
  ((s.wrb fSER_LSTAT_RXINV l false).setStage l 1).laneMod l fun n =>
    { n with good := 0, bad := 0, phase := 0, eqSent := false, eqGot := false, ask := none, ack := false, req := none, gap := false,
             stuff := [], slipEnd := 0 }

/-- Lane `l` starts (R111): DETECT, markers with LPOS 0xE, preset P4. -/
def State.laneStart (s : State) (l rate : Nat) : State :=
  (((s.laneDetect l).laneMod l fun n => { n with tx := 0xE, known := false }).setPreset l 4).wr fSER_LSTAT_RATE l
    (if rate = 1 then 7 else 6)

/-- Lane `l` stops: OFF. -/
def State.laneStop (s : State) (l : Nat) : State :=
  ((s.laneDetect l).setStage l 0).laneMod l fun n => { n with tx := 0xE, known := false }

/-- The lane registers but SER_LCTL. -/
def laneFields : List Fld :=
  [fSER_LSTAT_STAGE, fSER_LSTAT_RATE, fSER_LSTAT_RXINV, fSER_LSTAT_CDRLOCK, fSER_LSTAT_MARKLOCK, fSER_LSTAT_PIDX_RX,
   fSER_LSTAT_LPOS_RX, fSER_LSTAT_ORDER, fSER_LSTAT_FAILCAUSE, fSER_TXEQ_CM2, fSER_TXEQ_CM1, fSER_TXEQ_C0, fSER_TXEQ_CP1,
   fSER_TXEQ_PRESET, fSER_RXEQ_CTLE, fSER_RXEQ_VGA, fSER_RXEQ_DFE1, fSER_LERR_STUFFERR, fSER_LERR_MARKERR,
   fSER_LERR_CDRLOSS, fSER_LERR_CMDREJ, fSER_PRBSCTL_PATTERN, fSER_PRBSCTL_GEN, fSER_PRBSCTL_CHK, fSER_PRBSCTL_ABORTED,
   fSER_PRBSCTL_LOCKED, fSER_PRBSCNT_ERRORS, fSER_EYECTL_DONE, fSER_EYECTL_EYE, fSER_EYECTL_HOFS, fSER_EYECTL_VOFS,
   fSER_EYECTL_DWELL, fSER_EYECNT_COUNT]

/-- The power of lane `l` goes off: its registers read their reset values, but for SER_LCTL (R103), and keep them when the power
returns (log entry 108). -/
def State.lanePowerOff (s : State) (l : Nat) : State :=
  let s := s.each laneFields fun s f => s.clr1 f l
  { s with lanes := SMap.erase s.lanes l }

/-- Lane `l` fails with `cause` and is restarted at once (R111): its cause is kept, a failure from READY or ACTIVE raises
the lane-fault source of its tile.  The transmitter keeps its role (R166). -/
def State.laneFail (s : State) (l cause : Nat) : State :=
  let served := decide (6 ≤ s.laneStage l ∧ s.laneStage l ≤ 7)
  let s := s.wr fSER_LSTAT_FAILCAUSE l cause
  (s.when_ served fun s => s.pulse (0x168 + laneTile l)).laneDetect l

/-- Signal energy has been seen for 10 µs (R111). -/
def State.laneEnergy (s : State) (l : Nat) : State := if s.laneStage l = 1 then s.setStage l 2 else s

/-- The clock has been recovered (R111). -/
def State.laneLocked (s : State) (l : Nat) : State :=
  if s.laneStage l = 2 then (s.setStage l 3).wrb fSER_LSTAT_CDRLOCK l true else s

/-! ### Markers (R110 to R113) -/

/-- PIDX of a marker payload. -/
def mkPidx (w : Nat) : Nat := bitsOf w 36 4
/-- LPOS. -/
def mkLpos (w : Nat) : Nat := bitsOf w 32 4
/-- LINK. -/
def mkLink (w : Nat) : Nat := bitsOf w 29 3
/-- NODE. -/
def mkNode (w : Nat) : Nat := bitsOf w 25 4
/-- PHASE. -/
def mkPhase (w : Nat) : Nat := bitsOf w 23 2
/-- PRESETREQ. -/
def mkPreset (w : Nat) : Nat := bitsOf w 19 4
/-- STEPREQ. -/
def mkStep (w : Nat) : Nat := bitsOf w 16 3
/-- REQACK. -/
def mkAck (w : Nat) : Bool := bitOf w 15

/-- A marker whose CRC holds and whose fields hold no reserved value (R110). -/
def markerGood (w : Nat) : Bool :=
  crc8 0xFF (toBeBytes 5 (w % 2 ^ 40)) == bitsOf w 40 8 && decide (mkPidx w ≤ 8)
    && decide (mkLpos w ≤ 7 ∨ 0xE ≤ mkLpos w) && decide (mkPreset w ≤ 9 ∨ mkPreset w = 0xF)

/-- Reception with polarity `inv` is what RXPOL has the receiver use in ALIGN, and after it the polarity found there (R112). -/
def State.polarityOk (s : State) (l : Nat) (inv : Bool) : Bool :=
  if s.laneStage l = 3 then
    match s.rd fSER_LCTL_RXPOL l with
    | 1 => !inv
    | 2 => inv
    | _ => true
  else s.rdb fSER_LSTAT_RXINV l == inv

/-- What every good marker shows (R110, R113): its fields, and a clock recovered. -/
def State.markerSeen (s : State) (l w : Nat) : State :=
  let s := ((s.wr fSER_LSTAT_PIDX_RX l (mkPidx w)).wr fSER_LSTAT_LPOS_RX l (mkLpos w)).laneMod l fun n =>
    { n with link := mkLink w, node := mkNode w, phase := mkPhase w, bad := 0, known := true }
  s.wrb fSER_LSTAT_CDRLOCK l true

/-- A good marker in ALIGN: four in a row at one symbol offset and one polarity give marker lock, and the lane starts EQ at
preset P4 (R111, R112, R114). -/
def State.markerAlign (s : State) (l offset : Nat) (inv : Bool) : State :=
  let n := s.lane l
  let good := if n.good ≠ 0 ∧ n.offset = offset ∧ n.inv = inv then n.good + 1 else 1
  let s := s.laneMod l fun n => { n with good := good, offset := offset, inv := inv }
  if good < 4 then s
  else (((s.wrb fSER_LSTAT_MARKLOCK l true).wrb fSER_LSTAT_RXINV l inv).setStage l 4).setPreset l 4

/-- The receiver's own requests (R115): each is repeated until REQACK reads 1, then "none" is sent until REQACK reads 0 again; then the
next one, or, with `fomDone`, STEPREQ 7, which stays. -/
def State.ownReq (s : State) (l : Nat) (acked fomDone : Bool) : State :=
  let n := s.lane l
  if n.eqSent then s
  else if n.req.isSome then (if acked then s.laneMod l fun n => { n with req := none, gap := true } else s)
  else if n.gap ∧ acked then s
  else if fomDone then s.laneMod l fun n => { n with eqSent := true, gap := false }
  else
    let (r, s) := s.nextReq
    s.laneMod l fun n => { n with req := r, gap := false }

/-- A good marker in EQ: the partner's request is taken, or its acknowledgement withdrawn, and the own requests go on (R115); `fomDone`
tells that this receiver's figure of merit has stopped improving, so that it sends STEPREQ 7. -/
def State.markerEq (s : State) (l w : Nat) (fomDone : Bool) : State :=
  let s := s.ownReq l (mkAck w) fomDone
  let p := mkPreset w
  let q := mkStep w
  let s := s.laneMod l fun n =>
    { n with
      eqGot := n.eqGot || q == 7
      ack := if p = 0xF ∧ (q = 0 ∨ q = 7) then false else n.ack
      ask := if p = 0xF ∧ (q = 0 ∨ q = 7) then none else if n.ack then n.ask else some (if p = 0xF then 16 + q else p) }
  if (s.lane l).eqSent && (s.lane l).eqGot then s.setStage l 5 else s

/-- The lanes of link `k` that have marker lock. -/
def State.lockedLanes (s : State) (k : Nat) : List Nat := (linkLanes k).filter fun l => s.rdb fSER_LSTAT_MARKLOCK l

/-- (LINK, NODE) of the markers of lane `l`. -/
def State.peerOf (s : State) (l : Nat) : Nat × Nat := ((s.lane l).link, (s.lane l).node)

/-- (LINK, NODE) of every lane of link `k` that has had a good marker since the lanes were started together. -/
def State.peersSeen (s : State) (k : Nat) : List (Nat × Nat) := ((linkLanes k).filter fun l => (s.lane l).known).map s.peerOf

/-- The LINK and NODE values that at least five lanes of link `k` carry, as (LINK, NODE) (R113). -/
def State.majority (s : State) (k : Nat) : Option (Nat × Nat) :=
  (s.peersSeen k).find? fun v => decide (5 ≤ (s.peersSeen k).count v)

/-- No value can reach five lanes of link `k` any longer (R113). -/
def State.noMajority (s : State) (k : Nat) : Bool :=
  let vs := s.peersSeen k
  vs.all fun v => decide (vs.count v + (9 - vs.length) < 5)

/-- ORDER of the lanes of link `k` that have marker lock (R113).  DESIGN CHOICE (log entry 121): it is judged over the locked lanes only
while others are not, and a mapping that is not one-to-one reads permuted. -/
def State.orderNow (s : State) (k : Nat) : State :=
  let ls := s.lockedLanes k
  let o := if ls.all fun l => s.rd fSER_LSTAT_PIDX_RX l == laneIdx l then 0
    else if ls.all fun l => s.rd fSER_LSTAT_PIDX_RX l == 8 - laneIdx l then 1 else 2
  s.each ls fun s l => s.wr fSER_LSTAT_ORDER l o

/-- A miswired lane fails (R113). -/
def State.miswire (s : State) (l : Nat) : State := (s.wr fSER_LSTAT_ORDER l 3).laneFail l 8

/-- Every lane of link `k` fails as miswired (R113). -/
def State.miswireAll (s : State) (k : Nat) : State :=
  s.each ((linkLanes k).filter fun l => s.laneStage l != 0) fun s l => (s.miswire l).laneMod l fun n => { n with known := false }

/-- The lanes of link `k` judged by their LINK and NODE once more of them have marker lock (R113): a lane that differs from
the majority fails, and all nine do once no value can reach five. -/
def State.judgeLanes (s : State) (k : Nat) : State :=
  let s := s.orderNow k
  match s.majority k with
  | some v => s.each ((s.lockedLanes k).filter fun l => s.peerOf l != v) State.miswire
  | none => if s.noMajority k then s.miswireAll k else s

/-! ### Register writes and tests (R103, R116, R118 to R120) -/

/-- Lane `l` may run a pattern or a loopback (R118): OFF or FAIL, an idle spare in READY, a lane of a disabled port. -/
def State.mayTest (s : State) (l : Nat) : Bool :=
  s.laneStage l == 0 || s.laneStage l == 8 || (l < 256 && (s.lanePort l).isNone)
    || (isLeatLane l && s.laneStage l == 6 && (s.lane l).tx == 0xF)

/-- Lane `l` runs a pattern or a loopback. -/
def State.testing (s : State) (l : Nat) : Bool :=
  s.rd fSER_LCTL_LOOP l != 0
    || (s.rd fSER_PRBSCTL_PATTERN l != 0 && (s.rdb fSER_PRBSCTL_GEN l || s.rdb fSER_PRBSCTL_CHK l))

/-- A spare leaves its test: ABORTED, and a restart from DETECT (R119).  What set the test up is cleared with it (log entry 108). -/
def State.testAbort (s : State) (l : Nat) : State :=
  let s := (s.wr fSER_LCTL_LOOP l 0).wr fSER_PRBSCTL_PATTERN l 0
  let s := (s.wrb fSER_PRBSCTL_GEN l false).wrb fSER_PRBSCTL_CHK l false
  ((s.wrb fSER_PRBSCTL_LOCKED l false).wrb fSER_PRBSCTL_ABORTED l true).laneDetect l

/-- A write of a lane register discarded with CMDREJ (R116, R118). -/
def State.laneReject (s : State) (l : Nat) : State := s.wrb fSER_LERR_CMDREJ l true

/-- SER_LCTL_WRITE: kept while the lane's domain is off (R103); a loopback only where R118 allows it. -/
def execSerLctlWrite (l val : Nat) (s : State) : Host.Outcome State Fault Refusal :=
  let fs := fieldsAt 0x801000
  onUnit (isLane l && decide (val < 2 ^ 32))
    (s.onTile (laneTile l)
    (if s.discards fs l val then s
    else if fSER_LCTL_LOOP.of val ≠ 0 ∧ ¬ s.mayTest l then s.laneReject l
    else (s.adaptKeep l).takeWord fs l val))

/-- SER_SLIP: the symbol boundary moves, or the write is discarded with CMDREJ (R116).  A lane without power ignores it. -/
def execSerSlip (l val : Nat) (s : State) : Host.Outcome State Fault Refusal :=
  let n := fSER_SLIP_COUNT.of val
  let bad := !isLeatLane l || !s.rdb fSER_LCTL_ALIGNMAN l || s.laneStage l != 3 || n == 0 || fSER_SLIP_KEY.of val != 0xA5
    || decide (s.pwr.ns < (s.lane l).slipEnd)
  let off := (s.lane l).offset
  onUnit (isLane l && decide (val < 2 ^ 32))
    (s.onTile (laneTile l)
    (if ¬ s.laneOn l then s
    else if bad then s.laneReject l
    else s.laneMod l fun r =>
      { r with
        offset := (if bitOf val 7 then off + blockSymbols - n else off + n) % blockSymbols
        good := 0
        slipEnd := s.pwr.ns + 100 }))

/-- The port whose quads, by its width, hold port lane `l`, whether it is enabled or not. -/
def State.laneHome (s : State) (l : Nat) : Option Nat := (List.range 64).find? fun p => s.covers p (l / 4)

/-- The rate at which lane `l` runs, or would run a test, is NRZ (R102): a Leat lane's never is; a lane of a disabled port tests at
the port's MAXRATE (log entry 108). -/
def State.laneNrz (s : State) (l : Nat) : Bool :=
  if 256 ≤ l then false
  else match s.lanePort l, s.laneHome l with
    | none, some p => decide (s.rd fPRT_PORTCFG_MAXRATE p < 5)
    | _, _ => decide (s.rd fSER_LSTAT_RATE l < 5)

/-- SER_PRBSCTL_WRITE: a pattern is enabled only where R118 allows it. -/
def execSerPrbsctlWrite (l val : Nat) (s : State) : Host.Outcome State Fault Refusal :=
  let fs := fieldsAt 0x801018
  let pat := fSER_PRBSCTL_PATTERN.of val
  let starts := decide (pat ≠ 0) && (fSER_PRBSCTL_GEN.of val == 1 || fSER_PRBSCTL_CHK.of val == 1)
  let keep := fSER_PRBSCTL_CHK.of val == 1 && pat == s.rd fSER_PRBSCTL_PATTERN l
  onUnit (isLane l && decide (val < 2 ^ 32))
    (s.onTile (laneTile l)
    (if ¬ s.laneOn l ∨ s.discards fs l val then s
    else if starts && (!s.mayTest l || (decide (4 ≤ pat) && s.laneNrz l)) then s.laneReject l
    else (s.takeWord fs l val).when_ (!keep) fun s => s.wrb fSER_PRBSCTL_LOCKED l false))

/-- PRBS_CHECKER_LOCK: the checker has locked; `errors` symbol errors have been counted since the last such command
(R118). -/
def execPrbsCheckerLock (l errors : Nat) (s : State) : Host.Outcome State Fault Refusal :=
  onUnit (isLane l)
    (if s.rd fSER_PRBSCTL_PATTERN l ≠ 0 ∧ s.rdb fSER_PRBSCTL_CHK l then
      (s.wrb fSER_PRBSCTL_LOCKED l true).inc fSER_PRBSCNT_ERRORS l errors
    else s)

/-- EYE_SCAN_START: a write of SER_EYECTL; START begins a scan, or restarts the one that runs (R120). -/
def execEyeScanStart (l val : Nat) (s : State) : Host.Outcome State Fault Refusal :=
  let fs := fieldsAt 0x801020
  onUnit (isLane l && decide (val < 2 ^ 32))
    (s.onTile (laneTile l)
    (if ¬ s.laneOn l ∨ s.discards fs l val then s
    else (s.takeWord fs l val).when_ (bitOf val 0) fun s =>
      (s.wrb fSER_EYECTL_DONE l false).laneMod l fun n => { n with scan := true }))

/-- EYE_SCAN_DONE: a scan ends with `count` disagreements, or because the lane has left CDR lock (R120). -/
def execEyeScanDone (l count : Nat) (cdrLost : Bool) (s : State) : Host.Outcome State Fault Refusal :=
  onUnit (isLane l)
    (if (s.lane l).scan then
      if cdrLost then s.eyeLost l
      else ((s.laneMod l fun n => { n with scan := false }).wrb fSER_EYECTL_DONE l true).wr fSER_EYECNT_COUNT l
        (min count 0xFFFFFFFF)
    else s)

/-- PORT_LANE_CDR_LOSS: a port lane loses CDR lock in L0, and its port enters Recovery (R105), in which no lane of it adapts (R104). -/
def execPortLaneCdrLoss (l : Nat) (s : State) : Host.Outcome State Fault Refusal :=
  onUnit (decide (l < 256))
    (match s.lanePort l with
    | none => s
    | some p =>
      if s.rd fPRT_PORTSTAT_LTSSM p = 4 then
        let s := s.each (s.portLanes p) State.adaptKeep
        (((s.inc fSER_LERR_CDRLOSS l).wr fPRT_PORTSTAT_LTSSM p 3).eyeLost l).wrb fSER_LSTAT_CDRLOCK l false
      else s)

/-! ### Lane events that concern the lane alone (R111) -/

/-- LANE_ENERGY_DETECT (R111). -/
def execLaneEnergyDetect (l : Nat) (s : State) : Host.Outcome State Fault Refusal := onUnit (isLeatLane l) (s.laneEnergy l)

/-- LANE_CDR_LOCK (R111). -/
def execLaneCdrLock (l : Nat) (s : State) : Host.Outcome State Fault Refusal := onUnit (isLeatLane l) (s.laneLocked l)

/-- LANE_CDR_TIMEOUT: 1 ms in CDR (R111). -/
def execLaneCdrTimeout (l : Nat) (s : State) : Host.Outcome State Fault Refusal :=
  onUnit (isLeatLane l) (if s.laneStage l = 2 then s.laneFail l 1 else s)

/-- LANE_ALIGN_TIMEOUT: 1 ms in ALIGN, no limit while ALIGNMAN is 1 (R111, R116). -/
def execLaneAlignTimeout (l : Nat) (s : State) : Host.Outcome State Fault Refusal :=
  onUnit (isLeatLane l) (if s.laneStage l = 3 ∧ ¬ s.rdb fSER_LCTL_ALIGNMAN l then s.laneFail l 2 else s)

/-- LANE_EQ_APPLY: at a block boundary the partner's request is applied and acknowledged (R115). -/
def execLaneEqApply (l : Nat) (s : State) : Host.Outcome State Fault Refusal :=
  onUnit (isLeatLane l)
    (match (s.lane l).ask with
    | some r =>
      if s.laneStage l = 4 then (s.eqApply l r).laneMod l fun n => { n with ask := none, ack := true } else s
    | none => s)

/-- LANE_EQ_TIMEOUT: 10 ms in EQ (R111). -/
def execLaneEqTimeout (l : Nat) (s : State) : Host.Outcome State Fault Refusal :=
  onUnit (isLeatLane l) (if s.laneStage l = 4 then s.laneFail l 3 else s)

/-- LANE_DESKEW_TIMEOUT: 100 µs in DESKEW (R111). -/
def execLaneDeskewTimeout (l : Nat) (s : State) : Host.Outcome State Fault Refusal :=
  onUnit (isLeatLane l) (if s.laneStage l = 5 then s.laneFail l 4 else s)

end Sys2Proof.Machine
end

