-- ==== Sys2Proof/Machine/Leat.lean ====
section
/-! DEFINITION. Leat links (R147 to R176): units, sequence numbers, replay and credits; training, spares, retrain and
what becomes of a link that leaves service. -/

namespace Sys2Proof.Machine

/-- STATE of link `k`: 0 DISABLED, 1 TRAINING, 2 INIT, 3 ACTIVE, 4 DOZE, 5 RETRAIN, 6 DOWN. -/
def State.lkState (s : State) (k : Nat) : Nat := s.rd fLEAT_STAT_STATE k

/-- Link `k` is ACTIVE. -/
def State.lkActive (s : State) (k : Nat) : Bool := s.lkState k == 3

/-! ### Units (R149 to R154) -/

/-- A header word (R149). -/
def hdrWord (typ vc plen mofs dnode snode : Nat) : Nat :=
  typ * 2 ^ 28 + vc * 2 ^ 26 + plen * 2 ^ 20 + mofs * 2 ^ 14 + dnode * 2 ^ 10 + snode * 2 ^ 6

/-- A trailer word (R149). -/
def trlWord (seq seqv cvc cred : Nat) : Nat := seq * 2 ^ 20 + seqv * 2 ^ 19 + cvc * 2 ^ 17 + cred

/-- The words of a control payload. -/
def ctlWords (bs : List Nat) : List Nat := beWords ((bs ++ List.replicate (240 - bs.length) 0).map (BitVec.ofNat 8))

/-- A unit sent on link `k`, with the CRC that its words make (R150). -/
def State.sendUnit (s : State) (k hdr trl : Nat) (body : List Nat) : State := s.send (.unit k hdr trl body (unitCrc hdr trl body))

/-- The units a message of `m` takes, sent by itself (R149, R152). -/
def unitsOf (m : Msg) : Nat := ceilDiv m.bytes 240

/-- The units of message `m` on VC `v`: PLEN words each, the first beginning it at word 0, the last ending it (R152; log entry 108). -/
def msgUnits (v : Nat) (m : Msg) : List TxUnit :=
  let n := unitsOf m
  (List.range n).map fun i =>
    { vc := v, plen := min 60 (ceilDiv m.bytes 4 - 60 * i), mofs := if i = 0 then 0 else 63, msgs := if i + 1 = n then [m] else [],
      words := ((msgWords m).drop (60 * i)).take 60 }

/-- The header faults of R150 in a unit that should be of type `typ`, with SEQV as `seqv`. -/
def hdrBad (typ hdr trl : Nat) (seqv : Bool) : Bool :=
  let vc := bitsOf hdr 26 2
  let plen := bitsOf hdr 20 6
  let mofs := bitsOf hdr 14 6
  bitsOf hdr 28 4 != typ
    || (if typ = 1 then vc == 3 || plen == 0 || decide (60 < plen) || (decide (59 < mofs) && mofs != 63)
        else vc != 3 || plen != 60 || mofs != 63)
    || bitsOf hdr 0 6 != 0 || bitOf trl 19 != seqv

/-- Byte `n` of `bs`. -/
def byteNo (bs : List Byte) (n : Nat) : Nat := (bs.getD n 0).toNat

/-- A Watermaster body `b` of LEN `len` with a reserved OP or STATE, or a LEN that does not match its OP (R215). -/
def wmBodyBad (len : Nat) (b : List Byte) : Bool :=
  let (op, st, line) := (byteNo b 0, byteNo b 1 % 8, byteNo b 1 / 8 % 2 == 1)
  let with_ := op == 5 || op == 6 || op == 7 || op == 0x20 || op == 0x21
  !([1, 2, 3, 4, 5, 6, 7, 8, 0x10, 0x11, 0x12, 0x20, 0x21, 0x22, 0x23].contains op)
    || decide ((if op = 7 ∨ op = 0x20 then 2 else if op = 0x21 then 4 else 0) < st) || decide (32 ≤ byteNo b 1)
    || len != (if op = 6 then 88 else if op = 5 ∨ line then 80 else 16) || (line && !with_)

/-- A message that begins at the start of payload bytes `p` has a reserved value in its header, or in a Watermaster body (R152, R215).
DESIGN CHOICE (log entry 121): a reserved MCLASS, a LEN outside 1 to 4,160 and bit 7 of the DEST and SRC bytes count with the non-zero
reserved bits of R150. -/
def msgBad (p : List Byte) : Bool :=
  let len := beBytes (p.take 2) % 2 ^ 13
  decide (3 < byteNo p 0 / 32) || len == 0 || decide (4160 < len) || byteNo p 2 % 16 != 0 || byteNo p 3 != 0
    || decide (32 ≤ byteNo p 4) || decide (128 ≤ byteNo p 6) || decide (128 ≤ byteNo p 7)
    || (byteNo p 0 / 32 == 3 && decide (32 ≤ p.length) && wmBodyBad len (p.drop 16))

/-- Some message that begins in payload bytes `p` is bad: the first begins here, and each next one at the word boundary after the one
before it; `n` bounds them. -/
def msgsBad : Nat → List Byte → Bool
  | 0, _ => false
  | n + 1, p =>
    if p.length < 16 then false
    else msgBad p || msgsBad n (p.drop (4 * ceilDiv (16 + beBytes (p.take 2) % 2 ^ 13) 4))

/-- The faults of R150 in the payload of a unit of type `typ`: reserved bits of an ACK or INIT payload, an operation that LINKMGT does
not have (R177), or a message that is bad. -/
def payloadBad (typ hdr : Nat) (p : List Byte) : Bool :=
  let zero := fun i n => (p.drop i).take n |>.any (· != 0)
  if typ = 1 then
    bitsOf hdr 14 6 != 63 && msgsBad 15 ((p.take (4 * bitsOf hdr 20 6)).drop (4 * bitsOf hdr 14 6))
  else if typ = 2 then decide (16 ≤ byteNo p 0 ∨ 16 ≤ byteNo p 2) || zero 26 6
  else if typ = 3 then decide (byteNo p 0 = 0 ∨ 8 < byteNo p 0)
  else if typ = 4 then decide (2 ≤ byteNo p 1 ∨ 4 ≤ byteNo p 3 ∨ 16 ≤ byteNo p 4) || zero 28 212
  else false

/-- A unit of 256 bytes with a good CRC has a fault of R150. -/
def unitFault (bs : List Byte) : Bool :=
  let hdr := beBytes (bs.take 4)
  let trl := beBytes ((bs.drop 244).take 4)
  let typ := bitsOf hdr 28 4
  let seqv := typ == 1 || (typ == 3 && byteNo bs 4 != 2)
  decide (4 < typ) || hdrBad typ hdr trl seqv || payloadBad typ hdr ((bs.drop 4).take 240)

/-- Message `m`, as it has come whole over a link in however many units, has a fault of R150 or R215: `rsv` are the reserved bits of its
header and body. -/
def msgWrong (m : Msg) : Bool := m.rsv != 0 || msgBad (msgHead m ++ if m.mclass = 3 then wmHead m else [])

/-- DNODE of a header names this node (R150). -/
def State.forUs (s : State) (k hdr : Nat) : Bool := bitsOf hdr 10 4 == (s.lk k).own

/-- A header of link `k` to its peer. -/
def State.hdrTo (s : State) (k typ vc plen mofs : Nat) : Nat :=
  hdrWord typ vc plen mofs (s.rd fLEAT_STAT_PEERNODE k) (s.lk k).own

/-- The limit of VC `v` that this receiver has granted. -/
def Leat.lim (l : Leat) (v : Nat) : Nat := if v = 0 then l.lim0 else if v = 1 then l.lim1 else l.lim2

/-- The trailer of the next sequenced, IDLE or ACK unit: the limits take turns (R162). -/
def State.trailer (s : State) (k seq : Nat) (seqv : Bool) : Nat × State :=
  let l := s.lk k
  (trlWord seq (b2n seqv) l.credNext (l.lim l.credNext % 2 ^ 17),
   s.lkMod k fun l => { l with credNext := (l.credNext + 1) % 3 })

/-- Unit `u` sent on link `k`, for the first time or again: only its credit field differs (R158). -/
def State.emit (s : State) (k : Nat) (u : TxUnit) : State :=
  let (trl, s) := s.trailer k u.seq true
  let n := (s.lk k).sends + 1
  let s := s.lkMod k fun l =>
    { l with sends := n, replay := l.replay.map fun v => if v.seq = u.seq then { v with sent := n } else v }
  let s := s.sendUnit k (s.hdrTo k (if u.vc = 3 then 3 else 1) u.vc u.plen u.mofs) trl u.words
  s.sendAll (u.msgs.map fun m => Out.carried k u.seq m)

/-- REPLAY.OCC brought up to date. -/
def State.occNow (s : State) (k : Nat) : State := s.wr fLEAT_REPLAY_OCC k (s.lk k).replay.length

/-- A new sequenced unit: it takes the next number, is kept for replay, and is sent (R155). -/
def State.newUnit (s : State) (k : Nat) (u : TxUnit) : State :=
  let u := { u with seq := s.rd fLEAT_TXSEQ_NEXT k }
  let s := s.lkMod k fun l => { l with replay := l.replay ++ [u] }
  ((s.wr fLEAT_TXSEQ_NEXT k (u.seq + 1)).emit k u).occNow k

/-- Room for `n` more units in the replay buffer (R155). -/
def State.replayRoom (s : State) (k n : Nat) : Bool := decide ((s.lk k).replay.length + n ≤ 2048)

/-- Credits of VC `v` that this sender has (R161). -/
def State.credits (s : State) (k v : Nat) : Nat :=
  let a := (s.rd fLEAT_CRLIM_VALUE (3 * k + v) + 2 ^ 32 - s.rd fLEAT_CRUSED_VALUE (3 * k + v)) % 2 ^ 32
  if a < 2 ^ 31 then a else 0

/-- The DATA units of VC `v` of link `k` that wait for a slot. -/
def State.txq (s : State) (k v : Nat) : List TxUnit :=
  let l := s.lk k
  if v = 0 then l.tx0 else if v = 1 then l.tx1 else l.tx2

/-- The DATA units of VC `v` that wait for a slot, replaced. -/
def State.setTxq (s : State) (k v : Nat) (q : List TxUnit) : State :=
  s.lkMod k fun l => if v = 0 then { l with tx0 := q } else if v = 1 then { l with tx1 := q } else { l with tx2 := q }

/-- The flow of message `m` used link `k` last, up to its newest unit (R171). -/
def State.flowOn (s : State) (k : Nat) (m : Msg) : State :=
  let f : Flow := { node := m.node, src := m.src, dest := m.dest, tc := m.tc, link := k,
                    seq := (s.rd fLEAT_TXSEQ_NEXT k + 4095) % 4096 }
  { s with flows := f :: s.flows.filter fun e =>
      !(e.node == m.node && e.src == m.src && e.dest == m.dest && e.tc == m.tc && e.link == k) }

/-- A DATA unit of VC `v` sent: USED counts it (R161), and it ends the messages that end in it. -/
def State.dataUnit (s : State) (k v : Nat) (u : TxUnit) : State :=
  let s := (s.newUnit k u).wr fLEAT_CRUSED_VALUE (3 * k + v) ((s.rd fLEAT_CRUSED_VALUE (3 * k + v) + 1) % 2 ^ 32)
  (s.lkMod k fun l => { l with dataAt := s.pwr.ns, lpAsked := false }).each u.msgs fun s m => s.flowOn k m

/-- VC `v` of link `k` has a DATA unit ready and a credit for it. -/
def State.dataReady (s : State) (k v : Nat) : Bool := !(s.txq k v).isEmpty && decide (0 < s.credits k v)

/-- The VC that the next DATA slot of link `k` goes to (R154): VC-RSP, then VC-SNP, then VC-REQ, which has one slot in eight while it
could use one. -/
def State.slotVc (s : State) (k : Nat) : Option Nat :=
  let req := s.dataReady k 0
  if req && decide (7 ≤ (s.lk k).reqSkip) then some 0
  else if s.dataReady k 2 then some 2
  else if s.dataReady k 1 then some 1
  else if req then some 0 else none

/-- One unit slot of link `k` that a new sequenced unit can use (R154): a LINKMGT unit, else a DATA unit; none while nothing is ready
or the replay buffer is full. -/
def State.unitSlot (s : State) (k : Nat) : Option State :=
  if ¬ s.replayRoom k 1 then none
  else match (s.lk k).mgmtWait with
    | op :: rest => some ((s.lkMod k fun l => { l with mgmtWait := rest }).newUnit k { vc := 3, words := ctlWords op })
    | [] =>
      match s.slotVc k with
      | none => none
      | some v =>
        match s.txq k v with
        | [] => none
        | u :: rest =>
          let skip := if v ≠ 0 ∧ s.dataReady k 0 then (s.lk k).reqSkip + 1 else 0
          some (((s.setTxq k v rest).lkMod k fun l => { l with reqSkip := skip }).dataUnit k v u)

/-- Unit slots of link `k` used until nothing is ready; `n` bounds them, `sent` tells that a unit has gone.  An IDLE unit follows the
last, as the first of those that fill the slots from then on (R154). -/
def State.unitSlots : Nat → Bool → Nat → State → State
  | 0, _, _, s => s
  | n + 1, sent, k, s =>
    match s.unitSlot k with
    | some t => State.unitSlots n true k t
    | none =>
      if sent then
        let (trl, s) := s.trailer k (s.rd fLEAT_TXSEQ_NEXT k) false
        s.sendUnit k (s.hdrTo k 0 3 60 63) trl []
      else s

/-- What link `k` has ready goes out, while it is ACTIVE; `sent` tells that a unit has just gone. -/
def State.linkGo (s : State) (k : Nat) (sent : Bool := false) : State :=
  let l := s.lk k
  if s.lkActive k then State.unitSlots (l.mgmtWait.length + l.tx0.length + l.tx1.length + l.tx2.length + 1) sent k s else s

/-- The LINKMGT units of link `k` that wait go out, as far as the replay buffer takes them (R154, R155); `n` bounds them. -/
def State.mgmtSlots : Nat → Nat → State → State
  | 0, _, s => s
  | n + 1, k, s =>
    match (s.lk k).mgmtWait with
    | op :: rest =>
      if s.replayRoom k 1 then
        State.mgmtSlots n k ((s.lkMod k fun l => { l with mgmtWait := rest }).newUnit k { vc := 3, words := ctlWords op })
      else s
    | [] => s

/-- A LINKMGT operation sent as soon as there is a slot for it (R154, R155). -/
def State.mgmtQueue (s : State) (k : Nat) (op : List Nat) : State :=
  (s.lkMod k fun l => { l with mgmtWait := l.mgmtWait ++ [op] }).linkGo k

/-- The units of message `m` queued for VC `v` of link `k` (R152). -/
def State.sendMsg (s : State) (k v : Nat) (m : Msg) : State := (s.setTxq k v (s.txq k v ++ msgUnits v m)).linkGo k

/-! ### Acknowledgement (R158 to R162) -/

/-- OLDEST of link `k`. -/
def State.oldest (s : State) (k : Nat) : Nat := (s.rd fLEAT_TXSEQ_NEXT k + 4096 - (s.lk k).replay.length) % 4096

/-- ACKSEQ `a` is valid (R158). -/
def State.ackValid (s : State) (k a : Nat) : Bool :=
  decide ((a + 4096 - s.oldest k + 1) % 4096 ≤ (s.rd fLEAT_TXSEQ_NEXT k + 4096 - s.oldest k) % 4096)

/-- Every unit up to ACKSEQ `a` freed; an advance of OLDEST ends the run of replay timeouts, and flows whose last unit is
covered may change link (R158, R159, R171). -/
def State.freeUnits (s : State) (k a : Nat) : State :=
  let n := (a + 4096 - s.oldest k + 1) % 4096
  let gone := ((s.lk k).replay.take n).map (·.seq)
  let s := s.lkMod k fun l => { l with replay := l.replay.drop n }
  let s : State := { s with flows := s.flows.filter fun f => !(f.link == k && gone.contains f.seq) }
  let s := (s.wr fLEAT_TXSEQ_ACKED k a).when_ (decide (0 < n)) fun s => s.wr fLEAT_REPLAY_TOCNT k 0
  s.occNow k

/-- LIMIT of VC `v` taken whole from the partner (R161). -/
def State.takeLimit (s : State) (k v new : Nat) : State :=
  if (new + 2 ^ 32 - s.rd fLEAT_CRLIM_VALUE (3 * k + v)) % 2 ^ 32 < 2 ^ 31 then s.wr fLEAT_CRLIM_VALUE (3 * k + v) new
  else s

/-- The three limits of an ACK or INIT payload. -/
def State.takeLimits (s : State) (k a b c : Nat) : State := ((s.takeLimit k 0 a).takeLimit k 1 b).takeLimit k 2 c

/-- LIMIT rebuilt from a trailer's 17 bits; none where they are stale (R162). -/
def credLimit (lim cred : Nat) : Option Nat :=
  let d := (cred + 2 ^ 17 - lim % 2 ^ 17) % 2 ^ 17
  if d < 2 ^ 16 then some ((lim + d) % 2 ^ 32) else none

/-- The trailer's limit taken (R162). -/
def State.takeCred (s : State) (k trl : Nat) : State :=
  let v := bitsOf trl 17 2
  if v = 3 then s
  else match credLimit (s.rd fLEAT_CRLIM_VALUE (3 * k + v)) (bitsOf trl 0 17) with
    | some n => s.wr fLEAT_CRLIM_VALUE (3 * k + v) n
    | none => s

/-- Units resent, oldest first, for a NAK or a replay timeout (R158, R159). -/
def State.resend (s : State) (k : Nat) (us : List TxUnit) : State :=
  s.each us fun s u => (s.emit k u).countEv 0x06 (tileOfLink k) k

/-- The resends that a valid ACK calls for: units it marks missing that were last sent before unit HIGH was (R158). -/
def Leat.toResend (l : Leat) (a : AckBody) : List TxUnit :=
  match l.replay.find? fun u => u.seq == a.high with
  | none => []
  | some h => l.replay.filter fun u =>
      let i := (u.seq + 4096 - (a.ackSeq + 1)) % 4096
      decide (i < 1664) && bitOf a.nak i && decide (u.sent < h.sent)

/-- A round trip, from arrival, ECHO and HOLD (R157). -/
def roundTrip (t echo hold : Nat) : Nat := (t + 2 ^ 33 - echo - hold) % 2 ^ 32

/-- The round trip measured from a time stamp echoed (R157).  ECHO 0 is taken as no measurement: a partner that has received no ACK or
INIT yet has nothing to echo (log entry 108). -/
def State.measure (s : State) (k t ts echo hold : Nat) : State :=
  let s := s.lkMod k fun l => { l with lastTs := some ts, lastAt := t }
  if echo = 0 then s else s.wr fLEAT_RTT_NS k (min (roundTrip t echo hold) 0xFFFF)

/-! ### Receiving sequenced units (R156, R163) -/

/-- A unit as it passes to its receive queue, and whether the message that goes on after it has lost a part (R163): a misrouted
unit's messages are discarded, and so is one of which any part lay in a misrouted unit.  A unit that brings nothing else is marked as
the misrouted one. -/
def cutUnit (cut : Bool) (u : RxUnit) : RxUnit × Bool :=
  if u.mis then ({ u with msgs := [] }, true)
  else if !cut || u.mofs == 0 then (u, false)
  else match u.msgs with
    | [] => ({ u with mis := u.mofs == 63 }, u.mofs == 63)
    | _ :: ms => ({ u with msgs := ms, mis := ms.isEmpty && u.mofs == 63 }, false)

/-- Unit `u` released to the receive queue of its VC. -/
def State.toRxq (s : State) (k : Nat) (u : RxUnit) : State :=
  let (v, cut) := cutUnit (bitOf (s.lk k).cut u.vc) u
  (s.lkMod k fun l => { l with cut := putBit l.cut u.vc cut }).setRxq k u.vc (s.rxq k u.vc ++ [v])

/-- The unit numbered EXP, and every consecutive one held, released; `n` bounds the rounds. -/
def State.release_ : Nat → Nat → State → State
  | 0, _, s => s
  | n + 1, k, s =>
    match (s.lk k).reorder.find? fun u => u.seq == s.rd fLEAT_RXSEQ_EXP k with
    | none => s
    | some u =>
      let s := (s.lkMod k fun l => { l with reorder := l.reorder.erase u, shown := l.shown.filter (· != (u.seq + 1) % 4096) }).wr
        fLEAT_RXSEQ_EXP k (u.seq + 1)
      State.release_ n k (if u.vc < 3 then s.toRxq k u else s)

/-- A sequenced unit of link `k`: new, held already, or a duplicate (R156). -/
def State.rxUnit (s : State) (k : Nat) (u : RxUnit) : State :=
  if 2048 ≤ (u.seq + 4096 - s.rd fLEAT_RXSEQ_EXP k) % 4096 then s.inc fLEAT_ERR_DUP k
  else if (s.lk k).reorder.any fun v => v.seq == u.seq then s
  else
    let h := s.rd fLEAT_RXSEQ_HIGH k
    let s := s.lkMod k fun l => { l with reorder := l.reorder ++ [u] }
    let from_ := fun n : Nat => (n + 4097 - s.rd fLEAT_RXSEQ_EXP k) % 4096
    let s := if from_ h < from_ u.seq then s.wr fLEAT_RXSEQ_HIGH k u.seq else s
    State.release_ (s.lk k).reorder.length k s

/-- A unit of link `k` for another node (R150, R163). -/
def State.misroute (s : State) (k : Nat) : State := (s.wrb fLEAT_ERR2_MISROUTE k true).pulse (0x118 + k)

/-- An IDLE or ACK unit shows the sender's next number `n` (R156): every number before it is one that the sender has used. -/
def State.showNext (s : State) (k n : Nat) : State :=
  s.lkMod k fun l => { l with shown := if n = s.rd fLEAT_RXSEQ_EXP k then none else some n }

/-- How far number `n` lies ahead of EXP: 2,048 numbers at most, and 0 for one behind it. -/
def State.ahead (s : State) (k n : Nat) : Nat :=
  let d := (n + 4096 - s.rd fLEAT_RXSEQ_EXP k) % 4096
  if d ≤ 2048 then d else 0

/-- The unit `i` numbers after EXP is missing (R156): the sender has used its number, as a higher one received or an IDLE or ACK unit
shows, and it has not come. -/
def State.missing (s : State) (k i : Nat) : Bool :=
  let l := s.lk k
  decide (i < max (s.ahead k (s.rd fLEAT_RXSEQ_HIGH k)) (match l.shown with | some n => s.ahead k n | none => 0))
    && !(l.reorder.any fun u => u.seq == (s.rd fLEAT_RXSEQ_EXP k + i) % 4096)

/-- The NAK bits of an ACK of link `k`: the missing units below the highest one received (R157). -/
def State.nakBits (s : State) (k : Nat) : Nat :=
  ((List.range (min (s.ahead k (s.rd fLEAT_RXSEQ_HIGH k)) 1664)).filter (s.missing k)).foldl (fun a i => a + 2 ^ i) 0

/-- The payload bytes of an ACK (R157). -/
def ackBytes (a : AckBody) : List Byte :=
  toBeBytes 2 a.ackSeq ++ toBeBytes 2 a.high ++ toBeBytes 4 a.limReq ++ toBeBytes 4 a.limSnp ++ toBeBytes 4 a.limRsp
    ++ toBeBytes 4 a.tstamp ++ toBeBytes 4 a.echo ++ toBeBytes 2 a.hold ++ List.replicate 6 0 ++ toLeBytes 208 a.nak

/-- The ACK that link `k` sends at its local time `t` (R157). -/
def State.ackNow (s : State) (k t : Nat) : AckBody :=
  let l := s.lk k
  { ackSeq := (s.rd fLEAT_RXSEQ_EXP k + 4095) % 4096, high := s.rd fLEAT_RXSEQ_HIGH k, limReq := l.lim0, limSnp := l.lim1,
    limRsp := l.lim2, tstamp := t, echo := l.lastTs.getD 0,
    hold := if l.lastTs.isNone then 0 else min ((t + 2 ^ 32 - l.lastAt) % 2 ^ 32) 0xFFFF, nak := s.nakBits k }

/-! ### Lanes in use (R165 to R168) -/

/-- The physical index that map word `m` gives logical position `y`; 15 where none is assigned. -/
def mapAt (m y : Nat) : Nat := bitsOf m (4 * y) 4

/-- Map word `m` with position `y` on index `i`. -/
def mapTo (m y i : Nat) : Nat := m - mapAt m y * 16 ^ y + i * 16 ^ y

/-- The position that index `i` carries in map word `m`. -/
def mapFind (m i : Nat) : Option Nat := (List.range 8).find? fun y => mapAt m y == i

/-- The receiver of lane `l` is in service. -/
def State.inService (s : State) (l : Nat) : Bool := decide (6 ≤ s.laneStage l ∧ s.laneStage l ≤ 7)

/-- The index of link `k` whose receiver is the spare, in service. -/
def State.rxSpare (s : State) (k : Nat) : Option Nat := (s.lk k).rxSp.filter fun i => s.inService (laneOf k i)

/-- Index `i` of link `k` becomes the receive spare, where there is none (R166). -/
def State.rxRole (s : State) (k i : Nat) : State :=
  if (s.lk k).rxSp.isNone ∧ (mapFind (s.rd fLEAT_RXMAP_MAP k) i).isNone then s.lkMod k fun l => { l with rxSp := some i } else s

/-- The transmitter at index `i` of link `k` is idle from now on, and the spare where there is none (R166). -/
def State.txRole (s : State) (k i : Nat) : State :=
  if (s.lane (laneOf k i)).tx = 0xE then
    (s.laneMod (laneOf k i) fun n => { n with tx := 0xF }).lkMod k fun l => { l with txSp := l.txSp.or (some i) }
  else s

/-- SPAREOK of link `k` brought up to date (R168). -/
def State.spareNow (s : State) (k : Nat) : State :=
  let ok := (s.lkState k == 3 || s.lkState k == 4) && (s.lk k).txSp.isSome && (s.rxSpare k).isSome
  (s.wrb fLEAT_STAT_SPAREOK k ok).putb fLEAT_GSTAT_SPAREOK 0 k ok

/-- A substitution counted; one that leaves no usable spare raises the spare-exhausted source (R168). -/
def State.spareUsed (s : State) (k : Nat) (left : Bool) : State :=
  ((s.inc fLEAT_ERR2_SPARESW k).spareNow k).when_ (!left) fun s => s.pulse (0x110 + k)

/-- Both maps of link `k` unassigned. -/
def State.unmap (s : State) (k : Nat) : State :=
  let s := (s.wr fLEAT_TXMAP_MAP k 0xFFFFFFFF).wr fLEAT_RXMAP_MAP k 0xFFFFFFFF
  (s.wrb fLEAT_STAT_TXW4 k false).wrb fLEAT_STAT_RXW4 k false

/-- Link `k` in or out of the mask of its peer's node (R175). -/
def State.linkMask (s : State) (k : Nat) (on : Bool) : State :=
  s.putb fLEAT_ROUTE_LINKS (s.rd fLEAT_STAT_PEERNODE k) k on

/-! ### Leaving service (R170) -/

/-- Link `k` leaves service: its replay buffer and queued messages are discarded, and what it sent and has no response is
completed.  A node that no link reaches any longer is lost to coherence (R227, R250). -/
def State.leaveService (s : State) (k : Nat) : State :=
  let node := s.rd fLEAT_STAT_PEERNODE k
  let s := s.linkMask k false
  let s := (s.lkMod k fun l =>
    { l with replay := [], reorder := [], shown := none, mgmtWait := [], tx0 := [], tx1 := [], tx2 := [], reqSkip := 0,
             spareAsk := none, lpAsked := false }).occNow k
  let s := s.swcMod fun w => { w with asked := w.asked.map fun a => if a.x = 64 + k then { a with dead := true } else a }
  let s : State := { s with flows := s.flows.filter fun f => f.link != k }
  let s := (s.flushEgress (64 + k)).settleOwed (64 + k) fun s m => s.lostAtLink k m
  let s := if (s.linksOf node).isEmpty then
      (s.when_ (s.rdb fLEAT_ROUTE_AGEN node) fun s => s.agentLost (64 + s.rd fLEAT_ROUTE_AGENT node)).homeLost node
    else s
  s.drainAll

/-- Link `k` stops in state `st`: its lanes stop, its maps are unassigned, and no exchange runs. -/
def State.linkStop (s : State) (k st : Nat) : State :=
  let s := s.each (linkLanes k) State.laneStop
  let s := ((s.unmap k).wr fLEAT_STAT_STATE k st).wrb fLEAT_LP_DOZING k false
  let s := s.lkMod k fun l => { l with exch := false, assigned := false, initSeen := [], quiet := false, txSp := none, rxSp := none }
  (s.putb fLEAT_GSTAT_UP 0 k false).spareNow k

/-- Link `k` goes DOWN with `cause` (R164). -/
def State.goDown (s : State) (k cause : Nat) : State :=
  let st := s.lkState k
  let s := ((s.linkStop k 6).wr fLEAT_STAT_DOWNCAUSE k cause).pulse (0x108 + k)
  s.when_ (st == 4 || st == 5) fun s => s.leaveService k

/-- Link `k` goes DISABLED without a cause: a reset of its tile or of the device. -/
def State.linkHalt (s : State) (k : Nat) : State :=
  let st := s.lkState k
  (s.linkStop k 0).when_ (st == 3 || st == 4 || st == 5) fun s => s.leaveService k

/-- Link `k` goes DISABLED with `cause`: 6 isolated by a reaction, 7 disabled (R164). -/
def State.goDisabled (s : State) (k cause : Nat) : State :=
  if s.lkState k = 0 then s else (s.linkHalt k).wr fLEAT_STAT_DOWNCAUSE k cause

/-! ### Training and the INIT exchange (R164, R165) -/

/-- Link `k` enters TRAINING: RATE, SPARE and DEGOK are taken, and its nine lanes start (R111, R179). -/
def State.enterTraining (s : State) (k : Nat) : State :=
  let r := s.rd fLEAT_CTL_RATE k
  let s := s.lkMod k fun l =>
    { l with rate := r, blk0 := s.pwr.ns, own := s.ownNode, spare := s.rd fLEAT_CTL_SPARE k, degOk := s.rdb fLEAT_CTL_DEGOK k, resume := false, exch := false,
             assigned := false, initSeen := [], protoAt := none, txSp := none, rxSp := none }
  (s.each (linkLanes k) fun s l => s.laneStart l r).wr fLEAT_STAT_STATE k 1

/-- A disabled link trains once it is enabled, its wave has been reached, its domain is powered and no reaction isolates
it (R65, R164, R398). -/
def State.linkTry (s : State) (k : Nat) : State :=
  if s.lkState k = 0 ∧ s.rdb fLEAT_CTL_ENABLE k ∧ (s.lk k).waveDone ∧ ¬ (s.lk k).iso ∧ s.domOn (72 + k) then s.enterTraining k
  else s

/-- RXREADY: the partner's physical indices that this receiver holds in READY (R165). -/
def State.rxReady (s : State) (k : Nat) : Nat :=
  (((linkLanes k).filter fun l => s.inService l).map (s.rd fSER_LSTAT_PIDX_RX ·)).foldl
    (fun a p => putBit a p true) 0

/-- The payload bytes of an INIT unit (R165). -/
def initBytes (b : InitBody) : List Byte :=
  toBeBytes 1 (b.node * 16 + b.link * 2 + b2n b.resume) ++ toBeBytes 2 b.rxReady
    ++ toBeBytes 1 (b2n b.degOk + 2 * b.rate) ++ toBeBytes 2 b.ackSeq ++ toBeBytes 4 b.limReq ++ toBeBytes 4 b.limSnp
    ++ toBeBytes 4 b.limRsp ++ toBeBytes 4 b.tstamp ++ toBeBytes 4 b.echo ++ toBeBytes 2 b.hold ++ List.replicate 212 0

/-- An INIT unit that link `k` sends on each of its lanes in READY, at a local time that no rule gives (R165). -/
def State.sendInit (s : State) (k : Nat) : State :=
  let l := s.lk k
  let (n, s) := s.draw
  let t := (Config.localNs n).toNat
  let a := s.ackNow k t
  let b : InitBody :=
    { node := l.own, link := k, resume := l.resume, rxReady := s.rxReady k, degOk := l.degOk, rate := l.rate,
      ackSeq := a.ackSeq, limReq := a.limReq, limSnp := a.limSnp, limRsp := a.limRsp, tstamp := t, echo := a.echo,
      hold := a.hold }
  let hdr := s.hdrTo k 4 3 60 63
  let trl := trlWord (s.rd fLEAT_TXSEQ_NEXT k) 0 3 0
  let body := beWords (initBytes b)
  s.sendAll (((linkLanes k).filter s.inService).map fun l => Out.laneUnit l hdr trl body (unitCrc hdr trl body))

/-- Credits that messages of link `k` have still to give back are forgotten: they belong to limits that a fresh INIT replaces
(R165; log entry 58). -/
def State.forgetCredits (s : State) (k : Nat) : State :=
  let s := s.lkMod k fun l =>
    { l with rx0 := l.rx0.map fun u => { u with old := true }, rx1 := l.rx1.map fun u => { u with old := true },
             rx2 := l.rx2.map fun u => { u with old := true } }
  s.swcMod fun w => { w with
    withheld := w.withheld.filter fun c => c.x != 64 + k
    msgs := w.msgs.map fun d => if d.x = 64 + k then { d with credits := 0 } else d }

/-- A fresh INIT (R165): sequence numbers and USED are 0, and every limit is its pool. -/
def State.freshInit (s : State) (k : Nat) : State :=
  let s := (s.forgetCredits k).lkMod k fun l =>
    { l with replay := [], reorder := [], shown := none, mgmtWait := [], tx0 := [], tx1 := [], tx2 := [], reqSkip := 0, cut := 0,
             credNext := 0, lastTs := none, lastAt := 0, lim0 := 16 * s.rd fLEAT_CRPOOL_REQ k,
             lim1 := 16 * s.rd fLEAT_CRPOOL_SNP k, lim2 := 16 * s.rd fLEAT_CRPOOL_RSP k }
  let s := (s.wr fLEAT_TXSEQ_NEXT k 0).wr fLEAT_TXSEQ_ACKED k 0xFFF
  let s := ((s.wr fLEAT_RXSEQ_EXP k 0).wr fLEAT_RXSEQ_HIGH k 0xFFF).wr fLEAT_REPLAY_TOCNT k 0
  (s.each (List.range 3) fun s v =>
    (s.wr fLEAT_CRUSED_VALUE (3 * k + v) 0).wr fLEAT_CRLIM_VALUE (3 * k + v) 0).occNow k

/-- LINK and NODE of the peer of link `k`, in training, as its markers tell them; a peer with this device's own identity takes the
link DOWN in TRAINING (R164, R174). -/
def State.peerIs (s : State) (k : Nat) (v : Option (Nat × Nat)) : State :=
  match v with
  | none => s
  | some (link, node) =>
    if s.lkState k = 1 ∨ s.lkState k = 2 then
      let s := (s.wr fLEAT_STAT_PEERNODE k node).wr fLEAT_STAT_PEERLINK k link
      if s.lkState k = 1 ∧ node = (s.lk k).own then s.goDown k 3 else s
    else s

/-- Enough receivers hold: the INIT exchange starts, from TRAINING in state INIT, in a retrain with RESUME (R164, R169). -/
def State.startExch (s : State) (k : Nat) : State :=
  let fresh := s.lkState k == 1
  let s := s.peerIs k (s.majority k)
  if s.lkState k = 6 then s else
  let s := if fresh then (s.wr fLEAT_STAT_STATE k 2).freshInit k else s
  (s.lkMod k fun l => { l with exch := true, resume := !fresh, assigned := false, initSeen := [] }).sendInit k

/-- The number of lanes of link `k` whose receivers hold, in READY. -/
def State.heldLanes (s : State) (k : Nat) : Nat := ((linkLanes k).filter fun l => s.inService l).length

/-- The number of lanes of link `k` that hold in READY, with one peer under R113 (R164). -/
def State.readyCount (s : State) (k : Nat) : Nat := if (s.majority k).isNone then 0 else s.heldLanes k

/-- Link `k` is waiting for its receivers. -/
def State.awaitsLanes (s : State) (k : Nat) : Bool :=
  (s.lkState k == 1 || s.lkState k == 5) && !(s.lk k).exch

/-- The assignment that RXREADY `mask` gives (R165): width 4, the data lanes in order, and the spare. -/
def assignment (mask spare : Nat) (deg : Bool) : Option (Bool × List Nat × Option Nat) :=
  let is := setBits 9 mask
  if is.length = 9 then some (false, is.filter (· != spare), some spare)
  else if is.length = 8 then some (false, is, none)
  else if 4 ≤ is.length ∧ deg then some (true, is.take 4, is[4]?)
  else none

/-- The transmitter's assignment made: positions in the map and in the lanes' markers, and READY lanes that carry one are
ACTIVE (R111, R165). -/
def State.assignTx (s : State) (k : Nat) (w4 : Bool) (data : List Nat) (spare : Option Nat) : State :=
  let s := s.each (List.range 9) fun s i => s.laneMod (laneOf k i) fun n => { n with tx := if spare = some i then 0xF else 0xE }
  let s := s.each (data.zipIdx) fun s (i, y) =>
    let s := s.laneMod (laneOf k i) fun n => { n with tx := y }
    let s := if s.laneStage (laneOf k i) = 6 then s.setStage (laneOf k i) 7 else s
    s.wr fLEAT_TXMAP_MAP k (mapTo (s.rd fLEAT_TXMAP_MAP k) y i)
  (s.wrb fLEAT_STAT_TXW4 k w4).lkMod k fun l => { l with assigned := true, txSp := spare }

/-- The lane that brings logical position `y` with PHASE ACTIVE. -/
def State.bringer (s : State) (k y : Nat) : Option Nat :=
  (List.range 9).find? fun i =>
    let l := laneOf k i
    s.inService l && (s.lane l).phase == 3 && s.rd fSER_LSTAT_LPOS_RX l == y

/-- The receive direction's full set of positions, and its width (R165); width 4 only where this receiver holds fewer than
eight lanes. -/
def State.rxSet (s : State) (k : Nat) : Option (Bool × List Nat) :=
  let all := (List.range 8).filterMap (s.bringer k)
  let low := (List.range 4).filterMap (s.bringer k)
  if all.length = 8 then some (false, all)
  else if low.length = 4 ∧ s.readyCount k < 8 then some (true, low)
  else none

/-- The ports of the peer of link `k` that the image binds and that are not claimed yet are claimed (R130, R131, R178). -/
def State.claimImage (s : State) (k : Nat) : State :=
  let unclaimed := (s.listed fPRT_VPPB_STATE).filter fun b => s.rd fPRT_VPPB_STATE b == 1 && s.rd fPRT_VPPB_KIND b == 2
    && s.rd fPRT_VPPB_NODE b == s.rd fLEAT_STAT_PEERNODE k && (SMap.get {} s.prt.bridges b).unbind == 3
  s.each unclaimed fun s b =>
    let s : State := { s with prt := { s.prt with bridges := SMap.mod {} s.prt.bridges b fun x => { x with unbind := 0 } } }
    s.mgmtQueue k [4, s.rd fPRT_VPPB_PORT b, 0xFF, b / 32]

/-- Link `k` becomes ACTIVE (R164): it joins its node's mask; after a retrain units the partner holds are freed and the rest
resent in order (R169). -/
def State.goActive (s : State) (k : Nat) (w4 : Bool) (rx : List Nat) : State :=
  let s := s.each rx.zipIdx fun s (i, y) =>
    (s.wr fLEAT_RXMAP_MAP k (mapTo (s.rd fLEAT_RXMAP_MAP k) y i)).setStage (laneOf k i) 7
  let s := ((s.wrb fLEAT_STAT_RXW4 k w4).wr fLEAT_STAT_STATE k 3).wrb fLEAT_LP_DOZING k false
  let l := s.lk k
  let idle := (List.range 9).find? fun i => s.inService (laneOf k i) && s.rd fSER_LSTAT_LPOS_RX (laneOf k i) == 0xF
  let s := s.lkMod k fun l =>
    { l with exch := false, initSeen := [], spareAsk := none, lpAsked := false, dataAt := s.pwr.ns, rxSp := idle }
  let s := ((s.putb fLEAT_GSTAT_UP 0 k true).linkMask k true).spareNow k
  if l.resume then
    let s := (if s.ackValid k l.peerAck then s.freeUnits k l.peerAck else s).wr fLEAT_REPLAY_TOCNT k 0
    ((s.each (s.lk k).replay fun s u => s.emit k u).linkGo k).claimImage k
  else (s.linkGo k).claimImage k

/-- The exchange is complete in both directions (R165). -/
def State.exchDone (s : State) (k : Nat) : State :=
  if (s.lk k).exch ∧ (s.lk k).assigned then
    match s.rxSet k with
    | some (w4, rx) => s.goActive k w4 rx
    | none => s
  else s

/-! ### Retrain (R169) -/

/-- Link `k` retrains: RETRAIN_REQ is its last unit, and its transmitters go to electrical idle.  From DOZE, whose lanes are
stopped, nothing can be sent. -/
def State.retrain (s : State) (k cause : Nat) : State :=
  let st := s.lkState k
  if st ≠ 3 ∧ st ≠ 4 then s
  else
    let s := s.when_ (st == 3) fun s =>
      s.sendUnit k (s.hdrTo k 3 3 60 63) (trlWord (s.rd fLEAT_TXSEQ_NEXT k) 0 3 0) (ctlWords [2, cause])
    let s := ((s.inc fLEAT_ERR2_RETRAINS k).wr fLEAT_STAT_STATE k 5).unmap k
    let s := s.lkMod k fun l =>
      { l with exch := false, assigned := false, initSeen := [], spareAsk := none, resume := true, lpAsked := false,
               quiet := true, txSp := none, rxSp := none }
    let s := s.each (linkLanes k) fun s l => s.laneMod l fun n => { n with tx := 0xE }
    ((s.wrb fLEAT_LP_DOZING k false).putb fLEAT_GSTAT_UP 0 k false).spareNow k

/-- A protocol error (R150): a retrain, and the second within 1 s takes the link DOWN (R164). -/
def State.protoError (s : State) (k : Nat) : State :=
  let again : Bool := match (s.lk k).protoAt with | some t => decide (s.pwr.ns < t + nsPerSec) | none => false
  let s := (s.wrb fLEAT_ERR2_PROTO k true).lkMod k fun l => { l with protoAt := some s.pwr.ns }
  let s := s.retrain k 5
  if again && s.lkState k == 5 then s.goDown k 5 else s

/-- A LINKMGT operation for the peer of link `k`: in DOZE it is a unit to send, and wakes the link (R164). -/
def State.mgmtSend (s : State) (k : Nat) (op : List Nat) : State :=
  let s := s.mgmtQueue k op
  if s.lkState k = 4 then s.retrain k 0 else s

/-! ### Spare substitution (R167) -/

/-- The receiver at index `i` of ACTIVE link `k` has failed (R167): the spare takes its position at once and SPARE_REQ asks
for it; a spare under test leaves its test and does not help (R119); without a spare the link retrains. -/
def State.rxFailed (s : State) (k i : Nat) : State :=
  match mapFind (s.rd fLEAT_RXMAP_MAP k) i with
  | none => s.spareNow k
  | some y =>
    match s.rxSpare k with
    | none => s.retrain k 0
    | some j =>
      let l := laneOf k j
      if s.testing l then ((s.testAbort l).lkMod k fun n => { n with rxSp := none }).retrain k 0
      else
        let s := (s.wr fLEAT_RXMAP_MAP k (mapTo (s.rd fLEAT_RXMAP_MAP k) y j)).setStage l 7
        ((s.lkMod k fun n => { n with spareAsk := some y, rxSp := none }).mgmtSend k [1, y]).spareUsed k false

/-- SPARE_REQ for position `y` (R167): the transmitter's spare takes it, and the lane that carried it restarts; its receiver
keeps a position it has.  DESIGN CHOICE (log entry 121): where its receiver is the idle receive spare, the lane restarts as a whole
(R167) and the role is lost (R166).  A spare under test leaves its test and does not help (R119). -/
def State.spareReq (s : State) (k y : Nat) : State :=
  let i := mapAt (s.rd fLEAT_TXMAP_MAP k) y
  match (s.lk k).txSp with
  | none => s
  | some j =>
    let l := laneOf k j
    let s := s.lkMod k fun n => { n with txSp := none }
    if s.testing l then ((s.testAbort l).laneMod l fun n => { n with tx := 0xE }).retrain k 0
    else
      let s := s.wr fLEAT_TXMAP_MAP k (mapTo (s.rd fLEAT_TXMAP_MAP k) y j)
      let s := (s.laneMod l fun n => { n with tx := y }).when_ (s.laneStage l == 6) fun s => s.setStage l 7
      let s := if 8 < i then s
        else
          let s := (s.laneMod (laneOf k i) fun n => { n with tx := 0xE }).setPreset (laneOf k i) 4
          if (mapFind (s.rd fLEAT_RXMAP_MAP k) i).isSome then s else s.laneDetect (laneOf k i)
      s.spareUsed k false

/-! ### Doze (R172, R173) -/

/-- An agent slot's agent is shown as a holder by some filter entry. -/
def State.holds (s : State) (a : Nat) : Bool :=
  s.wm.ways.any fun e => e.2.state != 0 && (bitOf e.2.pres a || e.2.owner == a)

/-- The doze conditions of link `k`, but for the idle period (R172). -/
def State.dozeOk (s : State) (k : Nat) : Bool :=
  let l := s.lk k
  let node := s.rd fLEAT_STAT_PEERNODE k
  s.rd fARCH_PROFILE_ACTIVE 0 == 4 && l.replay.isEmpty && l.reorder.isEmpty && l.rx0.isEmpty && l.rx1.isEmpty
    && l.rx2.isEmpty && l.mgmtWait.isEmpty && l.tx0.isEmpty && l.tx1.isEmpty && l.tx2.isEmpty && s.credits k 0 == l.peerPool.1 && s.credits k 1 == l.peerPool.2.1
    && s.credits k 2 == l.peerPool.2.2
    && !(s.rdb fLEAT_ROUTE_AGEN node && s.holds (64 + s.rd fLEAT_ROUTE_AGENT node))

/-- Link `k` dozes: its lanes stop, its state is kept (R173). -/
def State.doze (s : State) (k : Nat) : State :=
  let s := (s.each (linkLanes k) State.laneStop).unmap k
  let s := s.lkMod k fun l => { l with lpAsked := false, exch := false, assigned := false, initSeen := [], txSp := none, rxSp := none }
  ((s.wr fLEAT_STAT_STATE k 4).wrb fLEAT_LP_DOZING k true).spareNow k

end Sys2Proof.Machine
end

