-- ==== Sys2Proof/Machine/Lanes.lean ====
section
/-! DEFINITION. Commands of the Leat lanes and links (R110 to R117, R147 to R173). -/

namespace Sys2Proof.Machine

/-! ### Lanes that fail, and markers (R111, R167) -/

/-- Leat lane `l` fails with `cause`, and its link does what that calls for. -/
def State.laneLost (s : State) (l cause : Nat) : State :=
  let k := laneLink l
  let i := laneIdx l
  let s := (s.laneFail l cause).lkMod k fun n => { n with rxSp := n.rxSp.filter (· != i) }
  if s.lkActive k then s.rxFailed k i else s

/-- A bad or missing marker of lane `l`: in ALIGN the count starts again; two in a row in READY or ACTIVE fail the lane
(R110, R111). -/
def State.markerBad (s : State) (l : Nat) : State :=
  if s.laneStage l = 3 then s.laneMod l fun n => { n with good := 0 }
  else if s.inService l then
    if (s.lane l).bad = 1 then s.laneLost l 6 else s.laneMod l fun n => { n with bad := 1 }
  else s

/-- What the markers of link `k` tell of its peer, the majority's (R113, R164, R174): it is shown, and in TRAINING a peer with this
device's own identity takes the link DOWN. -/
def State.peerNow (s : State) (k : Nat) : State := s.peerIs k (s.majority k)

/-- Lanes of ACTIVE link `k` that carry a position and are no longer in service give it up (R167). -/
def State.lostPlaces (s : State) (k : Nat) : State :=
  s.each (List.range 9) fun s i =>
    if s.lkActive k && (mapFind (s.rd fLEAT_RXMAP_MAP k) i).isSome && !s.inService (laneOf k i) then s.rxFailed k i else s

/-- A good marker on a lane in service: roles that it tells of, a SPARE_REQ that it answers, an exchange that it completes
(R165 to R167). `old` is the PHASE and LPOS of the marker before it. -/
def State.markerServed (s : State) (l w : Nat) (old : Nat × Nat) : State :=
  let k := laneLink l
  let i := laneIdx l
  if s.lkActive k then
    let s := if mkLpos w = 0xF ∧ old.2 ≠ 0xF then s.rxRole k i else s
    let s := if old.1 < 2 ∧ 2 ≤ mkPhase w then s.txRole k i else s
    let s := match (s.lk k).spareAsk with
      | some y => if mkLpos w = y ∧ mapAt (s.rd fLEAT_RXMAP_MAP k) y = i then s.lkMod k fun n => { n with spareAsk := none } else s
      | none => s
    s.spareNow k
  else s.exchDone k

/-- LANE_MARKER_RECEIVE: a marker with payload `w` at symbol `offset` of the block, with or without inverted polarity;
`fomDone` tells that the receiver's figure of merit has stopped improving (R110 to R113, R115). -/
def execLaneMarkerReceive (l w offset : Nat) (inverted fomDone : Bool) (s : State) : Host.Outcome State Fault Refusal :=
  let st := s.laneStage l
  let old := ((s.lane l).phase, s.rd fSER_LSTAT_LPOS_RX l)
  onUnit (isLeatLane l && decide (w < 2 ^ 48 ∧ offset < blockSymbols))
    (if st < 3 ∨ 7 < st then s
    else if st = 3 && s.rdb fSER_LCTL_ALIGNMAN l && offset != (s.lane l).offset then s
    else if !markerGood w || !s.polarityOk l inverted then (s.inc fSER_LERR_MARKERR l).markerBad l
    else
      let s := s.markerSeen l w
      if st = 3 then
        let s := s.markerAlign l offset inverted
        if s.laneStage l = 4 then ((s.judgeLanes (laneLink l)).lostPlaces (laneLink l)).peerNow (laneLink l) else s
      else if st = 4 then s.markerEq l w fomDone
      else if st = 5 then s
      else s.markerServed l w old)

/-- LANE_MARKER_MISSING: an expected marker has not arrived (R111). -/
def execLaneMarkerMissing (l : Nat) (s : State) : Host.Outcome State Fault Refusal := onUnit (isLeatLane l) (s.markerBad l)

/-- LANE_DESKEW_DONE: the lane's offset is set against the earliest lane; more than 1,024 symbols fail it (R111).  On a link
that is ACTIVE already it takes the role of R166.  ADAPTFRZ takes effect here (R115). -/
def execLaneDeskewDone (l skew : Nat) (s : State) : Host.Outcome State Fault Refusal :=
  let k := laneLink l
  onUnit (isLeatLane l)
    (if s.laneStage l ≠ 5 then s
    else if 1024 < skew then s.laneFail l 4
    else
      let s := (s.adaptKeep l).setStage l 6
      if s.lkActive k then
        let s := s.txRole k (laneIdx l)
        let s := if s.rd fSER_LSTAT_LPOS_RX l = 0xF then s.rxRole k (laneIdx l) else s
        s.spareNow k
      else s)

/-- LANE_CDR_LOSS: CDR lock is lost; from READY or ACTIVE the lane fails (R111).  In ALIGN, EQ and DESKEW the loss is counted, the
lane stays in its stage, and a marker shows a clock recovered again (log entry 108). -/
def execLaneCdrLoss (l : Nat) (s : State) : Host.Outcome State Fault Refusal :=
  onUnit (isLeatLane l)
    (if s.inService l then (s.inc fSER_LERR_CDRLOSS l).laneLost l 5
    else if s.rdb fSER_LSTAT_CDRLOCK l then ((s.inc fSER_LERR_CDRLOSS l).wrb fSER_LSTAT_CDRLOCK l false).eyeLost l
    else s)

/-- LANE_STUFF_VIOLATION at local time `t`: counted, and four within 256 ns in READY or ACTIVE fail the lane (R109, R111). -/
def execLaneStuffViolation (l t : Nat) (s : State) : Host.Outcome State Fault Refusal :=
  let ts := ((s.lane l).stuff.filter fun u => decide (t ≤ u + 256)) ++ [t]
  onUnit (isLeatLane l)
    (if s.laneStage l < 3 then s
    else
      let s := (s.inc fSER_LERR_STUFFERR l).laneMod l fun n => { n with stuff := ts }
      if s.inService l && decide (4 ≤ ts.length) then s.laneLost l 7 else s)

/-! ### Control, waves and training (R147, R164, R179) -/

/-- A write of LEAT_CTL.  On stepping A0 RATE reads 1 and a write of 0 is discarded (R2). -/
def State.leatCtl (s : State) (k val : Nat) : State :=
  let fs := fieldsAt 0xC01000
  let v := if s.rd fBOOT_ID_STEPPING 0 = 0 then putBit val 1 true else val
  if s.discards fs k v then s
  else
    let was := s.rdb fLEAT_CTL_ENABLE k
    let s := s.takeWord fs k v
    let s := if was && !bitOf v 0 then s.goDisabled k 7 else s
    let s := (s.domKick (72 + k)).linkTry k
    if bitOf v 7 && s.lkActive k then s.retrain k 0 else s

/-- LEAT_CTL_WRITE (R164, R179). -/
def execLeatCtlWrite (k val : Nat) (s : State) : Host.Outcome State Fault Refusal :=
  onUnit (isLink k && decide (val < 2 ^ 32)) (s.onTile (tileOfLink k)
    (s.leatCtl k val))

/-- LEAT_RETRAIN_CMD: a write of LEAT_CTL with RETRAIN (R169). -/
def execLeatRetrainCmd (k val : Nat) (s : State) : Host.Outcome State Fault Refusal :=
  onUnit (isLink k && decide (val < 2 ^ 32)) (s.onTile (tileOfLink k)
    (s.leatCtl k (putBit val 7 true)))

/-- LEAT_LANES_READY: nine receivers hold, with one peer (R164, R169). -/
def execLeatLanesReady (k : Nat) (s : State) : Host.Outcome State Fault Refusal :=
  onUnit (isLink k) (if s.awaitsLanes k ∧ s.readyCount k = 9 then s.startExch k else s)

/-- LEAT_DEGRADED_WAIT_EXPIRE: eight receivers have held for 2 ms, or, 18 ms after entry and with DEGOK, four to seven
hold (R164).  Where no value has reached five lanes by then, every lane of the link fails as miswired (R113, log entry 108). -/
def execLeatDegradedWaitExpire (k : Nat) (atEighteen : Bool) (s : State) : Host.Outcome State Fault Refusal :=
  let n := s.heldLanes k
  onUnit (isLink k)
    (if s.awaitsLanes k && (if atEighteen then (s.lk k).degOk && decide (4 ≤ n ∧ n ≤ 7) else n == 8) then
      if (s.majority k).isNone then s.miswireAll k else s.startExch k
    else s)

/-- LEAT_TRAINING_TIMEOUT: 20 ms since TRAINING was entered (R164). -/
def execLeatTrainingTimeout (k : Nat) (s : State) : Host.Outcome State Fault Refusal :=
  onUnit (isLink k) (if s.lkState k = 1 ∨ s.lkState k = 2 then s.goDown k 1 else s)

/-- LEAT_RETRAIN_IDLE_END: after 20 µs of electrical idle all nine lanes start from DETECT (R169). -/
def execLeatRetrainIdleEnd (k : Nat) (s : State) : Host.Outcome State Fault Refusal :=
  onUnit (isLink k)
    (if s.lkState k = 5 ∧ ¬ (s.lk k).exch then
      (s.lkMod k fun l => { l with quiet := false, blk0 := s.pwr.ns }).each (linkLanes k) fun s l => s.laneStart l (s.lk k).rate
    else s)

/-- LEAT_RETRAIN_TIMEOUT: 20 ms since RETRAIN was entered (R164). -/
def execLeatRetrainTimeout (k : Nat) (s : State) : Host.Outcome State Fault Refusal :=
  onUnit (isLink k) (if s.lkState k = 5 then s.goDown k 2 else s)

/-- LEAT_DOWN_RETRY: 100 ms in DOWN with ENABLE 1 (R164). -/
def execLeatDownRetry (k : Nat) (s : State) : Host.Outcome State Fault Refusal :=
  onUnit (isLink k)
    (if s.lkState k = 6 ∧ s.rdb fLEAT_CTL_ENABLE k ∧ ¬ (s.lk k).iso then s.enterTraining k else s)

/-- SPARE_REQ_REPEAT: 1 µs after a SPARE_REQ for `y` that the spare's markers do not answer yet, it is sent again (R167). -/
def execSpareReqRepeat (k y : Nat) (s : State) : Host.Outcome State Fault Refusal :=
  onUnit (isLink k && decide (y < 8)) (if s.lkActive k ∧ (s.lk k).spareAsk = some y then s.mgmtSend k [1, y] else s)

/-! ### Units received (R150, R156 to R165) -/

/-- LEAT_DATA_RECEIVE: a DATA unit with a good CRC, with the messages that end in it (R156, R162, R163); a fault of one of them, wherever
its first units were, is a protocol error (R150, R215). -/
def execLeatDataReceive (k hdr trl : Nat) (msgs : List Msg) (s : State) : Host.Outcome State Fault Refusal :=
  let seq := bitsOf trl 20 12
  onUnit (isLink k && decide (hdr < 2 ^ 32 ∧ trl < 2 ^ 32))
    (if ¬ s.lkActive k then s
    else if hdrBad 1 hdr trl true ∨ msgs.any msgWrong then s.protoError k
    else
      let dup := decide (2048 ≤ (seq + 4096 - s.rd fLEAT_RXSEQ_EXP k) % 4096)
      let mis := !s.forUs k hdr
      let s := s.rxUnit k { seq := seq, vc := bitsOf hdr 26 2, mofs := bitsOf hdr 14 6, msgs := msgs, mis := mis }
      if dup then s
      else
        let s := (s.takeCred k trl).lkMod k fun l => { l with dataAt := s.pwr.ns, lpAsked := false }
        (if mis then s.misroute k else s).linkGo k)

/-- LEAT_IDLE_RECEIVE: an IDLE unit shows the sender's next number (R156). -/
def execLeatIdleReceive (k hdr trl : Nat) (s : State) : Host.Outcome State Fault Refusal :=
  onUnit (isLink k && decide (hdr < 2 ^ 32 ∧ trl < 2 ^ 32))
    (if ¬ s.lkActive k then s
    else if hdrBad 0 hdr trl false then s.protoError k
    else if ¬ s.forUs k hdr then s.misroute k
    else ((s.showNext k (bitsOf trl 20 12)).takeCred k trl).linkGo k)

/-- LEAT_ACK_RECEIVE at local time `t` (R157, R158, R161): LINKMGT units that the freed room lets out go before the resends (R154). -/
def execLeatAckReceive (k hdr trl : Nat) (a : AckBody) (t : Nat) (s : State) : Host.Outcome State Fault Refusal :=
  onUnit (isLink k && decide (hdr < 2 ^ 32 ∧ trl < 2 ^ 32))
    (if ¬ s.lkActive k then s
    else if hdrBad 2 hdr trl false then s.protoError k
    else if ¬ s.forUs k hdr then s.misroute k
    else if ¬ s.ackValid k a.ackSeq then s.inc fLEAT_ERR2_BADACK k
    else
      let again := (s.lk k).toResend a
      let s := (s.showNext k (bitsOf trl 20 12)).takeCred k trl
      let s := (s.measure k t a.tstamp a.echo a.hold).takeLimits k a.limReq a.limSnp a.limRsp
      let s := s.freeUnits k a.ackSeq
      let again := again.filter fun u => (s.lk k).replay.any fun v => v.seq == u.seq
      let n := (s.lk k).mgmtWait.length
      let s := State.mgmtSlots n k s
      (s.resend k again).linkGo k (decide ((s.lk k).mgmtWait.length < n) || !again.isEmpty))

/-- LEAT_INIT_RECEIVE at local time `t`: an INIT unit on one lane (R165).  It counts while this end's exchange runs, and
where its RESUME is this end's. -/
def execLeatInitReceive (k lane hdr trl : Nat) (b : InitBody) (t : Nat) (s : State) : Host.Outcome State Fault Refusal :=
  onUnit (isLink k && decide (lane < 9 ∧ hdr < 2 ^ 32 ∧ trl < 2 ^ 32))
    (if s.lkState k ≠ 2 ∧ s.lkState k ≠ 5 then s
    else if hdrBad 4 hdr trl false then s.protoError k
    else if ¬ s.forUs k hdr then s.misroute k
    else if ¬ (s.lk k).exch ∨ b.resume ≠ (s.lk k).resume then s
    else
      let s := s.measure k t b.tstamp b.echo b.hold
      if s.lkState k = 2 ∧ b.echo ≠ 0 ∧ 6000 < roundTrip t b.echo b.hold then s.goDown k 4
      else
        let s := if b.resume then s.takeLimits k b.limReq b.limSnp b.limRsp
          else ((s.wr fLEAT_CRLIM_VALUE (3 * k) b.limReq).wr fLEAT_CRLIM_VALUE (3 * k + 1) b.limSnp).wr
            fLEAT_CRLIM_VALUE (3 * k + 2) b.limRsp
        let twice := SMap.get 0 (s.lk k).initSeen lane == b.rxReady + 1
        let s := s.lkMod k fun l =>
          { l with
            initSeen := SMap.set 0 l.initSeen lane (b.rxReady + 1)
            peerAck := b.ackSeq
            peerPool := if b.resume then l.peerPool else (b.limReq, b.limSnp, b.limRsp) }
        let s := if twice && !(s.lk k).assigned then
            match assignment b.rxReady (s.lk k).spare ((s.lk k).degOk && b.degOk) with
            | some (w4, data, sp) => s.assignTx k w4 data sp
            | none => s
          else s
        (s.sendInit k).exchDone k)

/-- LEAT_UNIT_CRC_FAIL: a unit of 256 bytes; one whose CRC fails is discarded with its trailer and counted, and one with a good CRC
and a fault of R150 is a protocol error.  Good units come by commands of their own. -/
def execLeatUnitCrcFail (k : Nat) (bytes : List Byte) (s : State) : Host.Outcome State Fault Refusal :=
  onUnit (isLink k && decide (bytes.length = 256))
    (if s.lkState k = 0 then s
    else if crc64 (bytes.take 248) ≠ beBytes (bytes.drop 248) then s.inc fLEAT_ERR_CRCERR k
    else if unitFault bytes then s.protoError k else s)

/-- A LINKMGT unit of link `k`: it is acted on as it arrives, and takes its place in the sequence (R156). -/
def State.rxMgmt (s : State) (k hdr trl : Nat) (act : State → State) : State :=
  let seq := bitsOf trl 20 12
  if ¬ s.lkActive k then s
  else if hdrBad 3 hdr trl true then s.protoError k
  else
    let dup := decide (2048 ≤ (seq + 4096 - s.rd fLEAT_RXSEQ_EXP k) % 4096)
    let held := (s.lk k).reorder.any fun u => u.seq == seq
    let mis := !s.forUs k hdr
    let s := s.rxUnit k { seq := seq, vc := 3, mis := mis }
    if dup then s
    else
      let s := s.takeCred k trl
      (if mis then s.misroute k else if held then s else act s).linkGo k

/-- SPARE_REQ (R167). -/
def execSpareReq (k hdr trl y : Nat) (s : State) : Host.Outcome State Fault Refusal :=
  onUnit (isLink k && decide (hdr < 2 ^ 32 ∧ trl < 2 ^ 32 ∧ y < 8)) (s.rxMgmt k hdr trl fun s => s.spareReq k y)

/-- RETRAIN_REQ: it carries no sequence number, and is ignored in RETRAIN, DOWN and DISABLED (R156, R169). -/
def execRetrainReq (k hdr trl cause : Nat) (s : State) : Host.Outcome State Fault Refusal :=
  onUnit (isLink k && decide (hdr < 2 ^ 32 ∧ trl < 2 ^ 32 ∧ cause < 256))
    (if ¬ s.lkActive k then s
    else if hdrBad 3 hdr trl false then s.protoError k
    else if ¬ s.forUs k hdr then s.misroute k
    else s.retrain k 0)

/-- LP_REQ: answered where the doze conditions hold here too, or where both ends have asked (R173). -/
def execLpReq (k hdr trl : Nat) (s : State) : Host.Outcome State Fault Refusal :=
  onUnit (isLink k && decide (hdr < 2 ^ 32 ∧ trl < 2 ^ 32))
    (s.rxMgmt k hdr trl fun s =>
      if (s.lk k).lpAsked then s.doze k
      else if s.dozeOk k && decide ((s.lk k).dataAt + 1000 * s.rd fLEAT_LP_IDLE k ≤ s.pwr.ns) then (s.mgmtSend k [8]).doze k
      else s)

/-- LP_ACK: the partner has agreed, and the link dozes (R173). -/
def execLpAck (k hdr trl : Nat) (s : State) : Host.Outcome State Fault Refusal :=
  onUnit (isLink k && decide (hdr < 2 ^ 32 ∧ trl < 2 ^ 32))
    (s.rxMgmt k hdr trl fun s => if (s.lk k).lpAsked then s.doze k else s)

/-- LEAT_DOZE_IDLE: no DATA unit has passed for LEAT_LP.IDLE µs, and LP_REQ goes out where the conditions hold (R172, R173). -/
def execLeatDozeIdle (k : Nat) (s : State) : Host.Outcome State Fault Refusal :=
  onUnit (isLink k)
    (if s.lkActive k ∧ s.dozeOk k then (s.mgmtSend k [7]).lkMod k fun l => { l with lpAsked := true } else s)

/-- LEAT_WAKE: a unit to send, or energy on five lanes, wakes a dozing link by a retrain (R164, R173). -/
def execLeatWake (k : Nat) (s : State) : Host.Outcome State Fault Refusal :=
  onUnit (isLink k) (if s.lkState k = 4 then s.retrain k 0 else s)

/-! ### Timers (R157, R159) -/

/-- LEAT_ACK_TIMER: every 1,000 ns an ACTIVE link sends an ACK, here at its local time `t` (R157). -/
def execLeatAckTimer (k t : Nat) (s : State) : Host.Outcome State Fault Refusal :=
  let (trl, u) := s.trailer k (s.rd fLEAT_TXSEQ_NEXT k) false
  onUnit (isLink k)
    (if s.lkActive k then u.sendUnit k (s.hdrTo k 2 3 60 63) trl (beWords (ackBytes (s.ackNow k (t % 2 ^ 32)))) else s)

/-- LEAT_REPLAY_TIMEOUT: the replay timer reaches 8 µs; the oldest unit is sent again, and the fourth time in a row starts a
retrain (R159). -/
def execLeatReplayTimeout (k : Nat) (s : State) : Host.Outcome State Fault Refusal :=
  onUnit (isLink k)
    (match (s.lk k).replay with
    | [] => s
    | u :: _ =>
      if ¬ s.lkActive k then s
      else
        let n := min 4 (s.rd fLEAT_REPLAY_TOCNT k + 1)
        let s := ((s.inc fLEAT_ERR_REPLAYTO k).wr fLEAT_REPLAY_TOCNT k n).resend k [u]
        if n = 4 then s.retrain k 0 else s)

end Sys2Proof.Machine
end

