-- ==== Sys2Proof/Machine/Egress.lean ====
section
/-! DEFINITION. What an egress sends (R153, R171, R181 to R185, R192, R203, R204, R283, R335, R382): the choice, the check
at the port's gate, units on a Leat link, and the boundaries of the Runnel groups. -/

namespace Sys2Proof.Machine

/-- A message as it leaves egress `x`: the copies of a slice's snoop take the form of their agent's link (R226). -/
def State.rendered (s : State) (x : Nat) (m : Msg) : Msg :=
  if m.kind = .memBisnp then
    (if x < 64 then (if s.rdb fPRT_PORTCFG_ROLE x then m else { m with kind := .cacheH2dReq })
    else if x < 72 then { m with kind := .wmSnp, node := s.rd fLEAT_STAT_PEERNODE (x - 64) }
    else m)
  else m

/-- Message `d` for a peer node is held back at link `k` (R171): its flow's last units on another link are not covered yet,
or wait there still. -/
def State.flowHeld (s : State) (k : Nat) (d : Stored) : Bool :=
  let m := d.m
  (s.flows.any fun f => f.link != k && f.node == m.node && f.src == m.src && f.dest == m.dest && f.tc == m.tc)
  || (s.swc.msgs.any fun e => decide (e.id < d.id) && e.m.node == m.node && e.m.src == m.src && e.m.dest == m.dest
      && e.m.tc == m.tc && e.egs.any fun x => decide (64 ≤ x ∧ x < 72) && x != 64 + k)

/-- Link `k` can take message `d` of group `g` now: its VC has sent the message before (R181) and has a credit (R161), and no other
link holds the flow (R171). -/
def State.linkTakes (s : State) (k g : Nat) (d : Stored) : Bool :=
  let v := vcOfGroup g
  (SMap.get none s.swc.sending (sendKey (64 + k) g)).isNone && (s.txq k v).isEmpty && decide (0 < s.credits k v) && !s.flowHeld k d

/-- The partner of egress `x` has a credit for message `d` of group `g`; a port's credits are those of `credits`, one bit a
group. -/
def State.partnerTakes (s : State) (x credits g : Nat) (d : Stored) : Bool :=
  if x < 64 then bitOf credits g else if x < 72 then s.linkTakes (x - 64) g d else true

/-- Egress `x` can send: its link is in L0 or ACTIVE, and but for the VCs of a Leat link it sends nothing else (R181). -/
def State.canSend (s : State) (x : Nat) : Bool :=
  (SMap.get none s.swc.sending x).isNone &&
    (if x < 64 then s.rd fPRT_PORTSTAT_LTSSM x == 4 && s.dlUp x else if x < 72 then s.lkActive (x - 64) else true)

/-- A message that a boundary of a Runnel group's domain does not let in (R382): a response is absorbed while the domain is
OFFLINE or WAKING, a request or snoop is refused from the fence on. -/
def State.boundaryStops (s : State) (x : Nat) (m : Msg) : Option State :=
  if x < 88 ∨ 91 < x then none
  else
    let n := 80 + (x - 88)
    let st := s.rd fACQ_DOMSTAT_STATE n
    if m.grp = 4 then (if st = 2 ∨ st = 3 then some (s.domOrphan n) else none)
    else if st = 0 then none
    else if m.wantsReply then some (s.reply m .ur true)
    else some (s.domRefuse n)

/-- Message `d` is dropped as egress `x` comes to it: its beats were wasted. -/
def State.dropAt (s : State) (x : Nat) (d : Stored) : State :=
  (((s.tdMove x d.m).tdResolve x d.m true).copyGone d x).drainAll

/-- Message `d` of class `t` and group `g` starts at egress `x`, as the messages `ps`. -/
def State.startSend (s : State) (x t g : Nat) (d : Stored) (chk : Option Nat) (ps : List Msg) : State :=
  let sn : Sending := { id := d.id, t := t, g := g, chk := chk, parts := ps }
  let s := s.swcMod fun w => { w with sending := SMap.set none w.sending (sendKey x g) (some sn) }
  let s := s.tdMove x d.m
  s.each ps fun s m => s.mirror x x true d m

/-- The gate of port `g` tells of Runnel access `m`, which it has admitted, what its deciding rule says (R285, R314). -/
def State.gateTells (s : State) (g : Nat) (m : Msg) : State :=
  if m.cls = 1 ∧ m.snode = s.ownNode ∧ gateChecks m then
    let (_, r) := s.verdict g false (m.tgt / 64) (whoOf m)
    let v := match r with
      | some n =>
        let r := SMap.get 0 s.chk.active (4096 * g + n)
        (true, rPairAt r, rEarlyAck r, rDevReg r, rWto r)
      | none => (false, false, false, false, 0)
    { s with run := { s.run with accs := s.run.accs.map fun a =>
      if a.id = m.tag ∧ a.told.isNone then { a with told := some v } else a } }
  else s

/-- What follows for the source of request `m` of this device's own that a port's gate has denied (R292): a home access fails as R228 has
it, and a Tender write or read fails what it is of. -/
def State.ownDenied (s : State) (m : Msg) : State :=
  if m.snode ≠ s.ownNode then s
  else if m.cls = 2 then
    (if m.isWrite then s.poolWritten (lineOfMsg m) false else s.poolData (lineOfMsg m) (s.lostData (lineOfMsg m)).1 true).runDeferred
  else if m.cls = 3 then s.tenderDenied m
  else s

/-- Message `d` comes to the front of egress `x` (R283, R290, R382): checked at a port's gate, given units on a link, or
handed to the block of an internal port. -/
def State.present (s : State) (x t g : Nat) (d : Stored) : State :=
  let m := s.rendered x d.m
  if x < 64 then
    let (ps, s) := s.gateCheck x m
    if ps.isEmpty then (s.dropAt x d).ownDenied m
    else (s.gateTells x m).startSend x t g d (if gateChecks m then some (s.rd fCHK_GATE_EPOCH x) else none) ps
  else if x < 72 then
    let k := x - 64
    (s.startSend x t g d none [m]).sendMsg k (vcOfGroup g) m
  else match s.boundaryStops x m with
    | some s => s.dropAt x d
    | none =>
      (s.when_ (decide (x < 88) || x == 92) fun s => s.mesh (internalNode x) (internalNode x) m).startSend x t g d none [m]

/-- Message `m` carries data that can be poisoned (R203). -/
def carriesData (m : Msg) : Bool :=
  match m.kind with
  | .ioPosted => true
  | .ioNonPosted => m.isWrite
  | .ioCpl => decide (16 < m.len)
  | _ => decide (80 ≤ m.len)

/-- An uncorrectable error in a cell of message `d` as egress `x` reads it (R203): sent poisoned, or handled as for a link
that is down. -/
def State.cellError (s : State) (x t g : Nat) (d : Stored) (cell : Nat) : State :=
  let s := ((s.inc fSWC_ERR_ECCUNC 0).wr fSWC_LASTCELL_CELL 0 cell).pulse 0x1A0
  if carriesData d.m then
    let s := s.storedMod d.id fun d => { d with m := { d.m with poison := true } }
    s.present x t g { d with m := { d.m with poison := true } }
  else (s.undeliverable x d.m).dropAt x d

/-- A parity error in an entry of sub-queue (x, t, g): every entry is flushed, and its cells are lost until the Reservoir
is next found empty (R204). -/
def State.queueFault (s : State) (x t g : Nat) : State :=
  let s := (s.wrb fSWC_ERR_QPARITY 0 true).pulse 0x1A2
  let q := s.queue x t g
  (s.setQueue x t g []).each q fun s en =>
    match s.stored en.id with
    | none => s
    | some d =>
      let s := (s.undeliverable x d.m).eqSub x d.m.tc d.cells
      match s.stored d.id with
      | some d => if d.refs ≤ 1 then s.unstoreLost d else s.storedMod d.id fun d => { d with refs := d.refs - 1 }
      | none => s

/-- The choice of egress `x` made, and the chosen message brought to its front. -/
def State.schedule (s : State) (x credits err cell : Nat) : State :=
  let cred := s.partnerTakes x credits
  let s := s.when_ (decide (x < 72)) fun s => s.tagUpdate x cred
  match s.pick x cred with
  | none => s
  | some (t, g, d) =>
    let s := (s.served x t g d).setQueue x t g ((s.queue x t g).filter fun en => en.id != d.id)
    if err = 1 then (s.inc fSWC_ERR_ECCCOR 0).present x t g d
    else if err = 2 then s.cellError x t g d cell
    else s.present x t g d

/-- EGRESS_SCHEDULE: egress `x` picks a message and starts it (R335).  `credits` has a bit for each group that the partner of
a port has a credit for.  `err` is an error met on the way: 1 a corrected, 2 an uncorrectable error in cell `cell` (R203);
3 a parity error in sub-queue `cell` of this egress, 5 t + g (R204); 5 and 6 a corrected and an uncorrectable error in an
active rotation entry (R343); 7 and 8 a corrected error in a rule of the port's gate, and an uncorrectable one in its master
copy (R296). -/
def execEgressSchedule (x credits err cell : Nat) (s : State) : Host.Outcome State Fault Refusal :=
  let s := if err = 5 then s.weirError 1 0
    else if err = 6 ∧ x < 72 then s.rotFault x
    else if err = 7 ∧ x < 64 then s.gateError x 1
    else if err = 8 ∧ x < 64 then s.gateError x 3 else s
  onUnit (decide (x < 93 ∧ err < 9 ∧ cell < 5242880))
    (if err = 3 then s.queueFault x (cell / 5 % 8) (cell % 5)
    else if s.canSend x then s.schedule x credits err cell else s)

end Sys2Proof.Machine
end

