-- ==== Sys2Proof/Machine/Port.lean ====
section
/-! DEFINITION. What several causes do to a port (R125 to R133, R142): DL_Down, training, the reset of an upstream port and
its propagation, and the events that a bridge shows its host. -/

namespace Sys2Proof.Machine

/-- Port `p` beside its registers. -/
def State.portS (s : State) (p : Nat) : PortS := SMap.get {} s.prt.ports p

/-- Port `p` beside its registers, changed by `f`. -/
def State.portMod (s : State) (p : Nat) (f : PortS → PortS) : State :=
  { s with prt := { s.prt with ports := SMap.mod {} s.prt.ports p f } }

/-- Bridge `b` = 32 v + i beside PRT_VPPB. -/
def State.bridge (s : State) (b : Nat) : Bridge := SMap.get {} s.prt.bridges b

/-- Bridge `b` beside PRT_VPPB, changed by `f`. -/
def State.bridgeMod (s : State) (b : Nat) (f : Bridge → Bridge) : State :=
  { s with prt := { s.prt with bridges := SMap.mod {} s.prt.bridges b f } }

/-- Event bit `n` of bridge `b`'s Slot Status sets, and its host hears of it (R142). -/
def State.bridgeEvent (s : State) (b n : Nat) : State :=
  (s.bridgeMod b fun x => { x with status := putBit x.status n true }).send (.hotplug (b / 32) (b % 32) n)

/-- The bridges to which port `p` or one of its LDs is bound (R130), an unbind in progress not having ended the binding yet (R131). -/
def State.bound (s : State) (p : Nat) : List Nat := (s.vppbsOf p).filter s.holdsBinding

/-- Event bit `n` on every bridge to which port `p` is bound. -/
def State.boundEvent (s : State) (p n : Nat) : State := s.each (s.bound p) fun s b => s.bridgeEvent b n

/-- A slot event `n` on every bridge to which port `p` is bound, where the port presents a slot (R140). -/
def State.slotEvent (s : State) (p n : Nat) : State := if s.rdb fPRT_PORTCFG_HPCAP p then s.boundEvent p n else s

/-- Port `p` is the in-band manager port (R52, R57). -/
def State.isManager (s : State) (p : Nat) : Bool :=
  s.mgrOn && s.mgrPort == p

/-! ### Slots of ports (R141, R142) -/

/-- The port to which slot `j` is bound (R141). -/
def State.slotPort (s : State) (j : Nat) : Option Nat :=
  (List.range 64).find? fun p => s.rdb fPRT_SLOTCFG_SLOTEN p && s.rd fPRT_SLOTCFG_SLOT p == j

/-- The slot bound to port `p`. -/
def State.portSlot (s : State) (p : Nat) : Option Nat :=
  if s.rdb fPRT_SLOTCFG_SLOTEN p then some (s.rd fPRT_SLOTCFG_SLOT p) else none

/-- PRT_SLOTSTAT.PRESENT of port `p`: PRSNT_N of its slot is low, or its receivers detect a partner (R142). -/
def State.presentNow (s : State) (p : Nat) : State :=
  let slot : Bool := match s.portSlot p with
    | some j => s.rdb fSLU_STAT_PRES j
    | none => false
  s.wrb fPRT_SLOTSTAT_PRESENT p ((s.portS p).detect || slot)

/-- PRSNT_N of port `p`'s slot or the receiver detection has changed: either sets Presence Detect Changed (R142). -/
def State.presenceTurn (s : State) (p : Nat) : State :=
  ((s.presentNow p).wrb fPRT_SLOTSTAT_PDCHG p true).slotEvent p 3

/-- PRT_SLOTSTAT.POWERED of port `p` follows its slot's power-good (R428). -/
def State.poweredNow (s : State) (p : Nat) : State :=
  match s.portSlot p with
  | some j => s.wrb fPRT_SLOTSTAT_POWERED p (s.rdb fSLU_STAT_PG j)
  | none => s.wrb fPRT_SLOTSTAT_POWERED p false

/-! ### Training and link loss (R126, R127) -/

/-- Port `p` may train: enabled, its domains on, its wave reached (R77), PERST_N or PERST_OUT_N released (R72, R73), its
reference present (R68), and neither a reset, a reaction nor Safe holds it (R398). -/
def State.mayTrain (s : State) (p : Nat) : Bool :=
  s.enabled p && (s.portDomains p).all s.domOn && bitOf s.pwr.waved p
    && (if s.rdb fPRT_PORTCFG_ROLE p then s.bit fPWR_PERSTIN_LEVEL p else s.bit fPWR_PERSTOUT_RELEASED p)
    && bitOf (s.rd fPWR_CLKSTAT_OK 0) (13 + tileOfPort p)
    && !(s.portS p).hot && !(s.portS p).iso && !s.pwr.warm && !bitOf s.pwr.tiles (tileOfPort p)
    && s.dev != 4

/-- The status fields that fall with the link. -/
def linkFields : List Fld :=
  [fPRT_PORTSTAT_NEGWIDTH, fPRT_PORTSTAT_RATE, fPRT_PORTSTAT_FLIT, fPRT_PORTSTAT_CXLIO, fPRT_PORTSTAT_CXLCACHE,
   fPRT_PORTSTAT_CXLMEM, fPRT_PORTSTAT_DEGRADED, fPRT_PORTSTAT_DLACTIVE, fPRT_PORTSTAT_L1SUB, fPRT_PORTSTAT_REVERSED]

/-- The lanes in use of port `p` once trained to `width` lanes, `rev` where lane reversal is in use: the port's lanes from its lane
0, or from its highest lane (R124). -/
def State.lanesUsed (s : State) (p width : Nat) (rev : Bool) : List Nat :=
  let full := 4 * quadsOf (s.rd fPRT_PORTCFG_WIDTH p)
  (List.range width).map fun i => if rev then 4 * p + full - 1 - i else 4 * p + i

/-- Port lane `l` is left out by the width that its port has trained to (R124): it stays in electrical idle. -/
def State.leftOut (s : State) (l : Nat) : Bool :=
  (s.lanePort l).any fun p => s.dlUp p && !(s.lanesUsed p (s.rd fPRT_PORTSTAT_NEGWIDTH p) (s.rdb fPRT_PORTSTAT_REVERSED p)).contains l

/-- A port lane whose link has gone down: no clock is recovered, and rate and polarity are those before training (R121). -/
def State.portLaneIdle (s : State) (l : Nat) : State :=
  (((s.eyeLost l).wrb fSER_LSTAT_CDRLOCK l false).wr fSER_LSTAT_RATE l 0).wrb fSER_LSTAT_RXINV l false

/-- Port `p` leaves L0 for LTSSM state `st`.  Where its data link layer was active it declares DL_Down (R127): what arrives
is cut short, every request queued for it or owed by it is settled, zeroing through it fails (R270), its agents are lost, and the source is raised unless
the loss was planned. -/
def State.dlDown (s : State) (p st : Nat) (planned : Bool) : State :=
  let up := s.dlUp p
  let agent := s.rdb fPRT_PORTSTAT_CXLCACHE p || s.rdb fPRT_PORTSTAT_CXLMEM p
  let s := s.when_ up fun s => (s.each (s.portLanes p) State.adaptKeep).portMod p fun x => { x with margin := none, marginNak := none, precode := false }
  let s := (s.each linkFields fun s f => s.clr1 f p).wr fPRT_PORTSTAT_LTSSM p st
  if !up then s
  else
    let s := s.each (s.portLanes p) State.portLaneIdle
    let s := (s.inc fPRT_ERR_LINKDOWN p).countEv 0x05 (tileOfPort p) p
    let s := s.when_ (!planned) fun s => s.pulse p
    let s := (s.truncate p).flushEgress p
    let s := s.each (s.xlt.waits.filter fun w => w.zeroing && eTport (s.entry w.idx) == p) fun s w => s.zeroed w.idx false
    let s := s.settleOwed p fun s m => s.lostAtPort p m
    let s := s.swcMod fun w => { w with withheld := w.withheld.filter fun c => c.x != p }
    let s := s.when_ agent fun s => s.agentLost p
    (s.boundEvent p 8).considerAll.drainAll

/-- The tables of port `p` count as loaded, or no longer (R74), and PWR_PORTRDY shows it while the port is enabled (log entry 100). -/
def State.readyNow (s : State) (p : Nat) : State := s.setBit fPWR_PORTRDY_READY p (s.enabled p && (s.portS p).loaded)

/-- PERST_OUT_N of port `p` driven low, with the loss of its link (R73). -/
def State.perstLow (s : State) (p : Nat) (planned : Bool) : State :=
  let s := s.setBit fPWR_PERSTOUT_RELEASED p false
  if s.rdb fPRT_PORTCFG_ROLE p then s else s.dlDown p 0 planned

/-! ### Reset of an upstream port and its propagation (R71, R128, R133) -/

/-- An operation sent to peer node `n` on its first link. -/
def State.toPeer (s : State) (n : Nat) (op : List Nat) : State :=
  match s.linksOf n with
  | k :: _ => s.mgmtSend k op
  | [] => s

/-- A reset of local port `p`, or of LD `ld` of the MLD there (R133). -/
def State.targetReset (s : State) (p : Nat) (ld : Option Nat) : State :=
  match ld with
  | some l => s.send (.ldReset p l)
  | none => s.dlDown p 8 true

/-- The reset of the VCS of port `p` reaches the target of bridge `b` (R133). -/
def State.propagate (s : State) (b : Nat) : State :=
  let q := s.rd fPRT_VPPB_PORT b
  if ¬ s.holdsBinding b then s
  else if s.rd fPRT_VPPB_KIND b = 0 then s.targetReset q none
  else if s.rd fPRT_VPPB_KIND b = 1 then s.targetReset q (some (s.rd fPRT_VPPB_LD b))
  else if s.rd fPRT_VPPB_KIND b = 2 then s.toPeer (s.rd fPRT_VPPB_NODE b) [3, q, 1]
  else s

/-- The reset of the VCS of port `p` is over: the owners of peers' ports bound to it hear of the release (R133, R177). -/
def State.releasePeers (s : State) (p : Nat) : State :=
  s.each ((List.range 31).map fun i => 32 * p + i + 1) fun s b =>
    s.when_ (s.holdsBinding b && s.rd fPRT_VPPB_KIND b == 2) fun s =>
      s.toPeer (s.rd fPRT_VPPB_NODE b) [3, s.rd fPRT_VPPB_PORT b, 0]

/-- The bindable bridges of VCS `v`. -/
def bridgesOf (v : Nat) : List Nat := (List.range 31).map fun i => 32 * v + i + 1

/-- The management endpoint's PF of port `p` is reset: its VFs, their instances, and its MSI-X table (R128, R138). -/
def State.pfReset (s : State) (p : Nat) : State :=
  let s := (s.tenPort p).tenMod fun t => { t with vfs := SMap.erase t.vfs p }
  let s := s.each [fPF_MSIX_ADDR_L, fPF_MSIX_ADDR_H, fPF_MSIX_DATA, fPF_MSIX_MASK] fun s f => s.clrWhere f fun i => i / 64 == p
  s.clrWhere fPF_PBA_PEND fun i => i / 2 == p

/-- What a reset leaves of bridge `b`'s configuration space: the Power Controller Control and a power fault (log entry 60), and
with `pins` the indicators, whose pins keep their state through warm and tile resets (R49, R50). -/
def Bridge.afterReset (x : Bridge) (pins : Bool) : Bridge :=
  { x with attn := if pins then x.attn else 3, pwri := if pins then x.pwri else 3, status := x.status &&& 2, aspm := false, acs := 0,
           l1sub := 0 }

/-- Every function that port `p` presents is reset, with the resets that follow from it (R71, R128, R133): the endpoint, HDM
decoders, and the bridges, whose bindings stay; with `pins` in a warm or tile reset. -/
def State.functionsReset (s : State) (p : Nat) (pins : Bool := false) : State :=
  let s := ((s.pfReset p).hdmClear p).portMod p fun x => { x with aspm := false, l1sub := 0 }
  s.each (bridgesOf p) fun s b => (s.bridgeMod b fun x => x.afterReset pins).propagate b

/-- The reset of upstream port `p` by PERST_N, hot reset, Link Disable or DL_Down (R71, R128). -/
def State.portReset (s : State) (p st : Nat) (planned : Bool) (pins : Bool := false) : State :=
  (s.dlDown p st planned).functionsReset p pins

/-- The link of port `p` goes down with no plan (R127, R128): at an upstream port this is a hot reset. -/
def State.linkLost (s : State) (p : Nat) : State :=
  if s.rdb fPRT_PORTCFG_ROLE p then s.portReset p 0 false else s.dlDown p 0 false

end Sys2Proof.Machine
end

