-- ==== Sys2Proof/Machine/Slu.lean ====
section
/-! DEFINITION. Sluice slot power (R414 to R432): feeds, power requests, the ramp, trips, the damaged pass FET and
power-good.  Samples come with the events that they cause, as 12-bit codes (R415). -/

namespace Sys2Proof.Machine

/-- Slot `j` beside its registers. -/
def State.slot (s : State) (j : Nat) : Slot := SMap.get {} s.slots j

/-- Slot `j` beside its registers, changed by `f`. -/
def State.slotMod (s : State) (j : Nat) (f : Slot → Slot) : State := { s with slots := SMap.mod {} s.slots j f }

/-- STATE of slot `j` (R419). -/
def State.slotState (s : State) (j : Nat) : Nat := s.rd fSLU_STAT_STATE j

/-- STATE of slot `j` set. -/
def State.setSlot (s : State) (j st : Nat) : State := s.wr fSLU_STAT_STATE j st

/-- The slot is in RAMP, PGWAIT, ON or STOPPING, with its pass FET driven. -/
def State.driving (s : State) (j : Nat) : Bool := decide (2 ≤ s.slotState j ∧ s.slotState j ≤ 5)

/-- PCTL of the port slot `j` is bound to is 0b01: the Sluice carries out Power Controller Control (R141). -/
def State.slotPctl (s : State) (j : Nat) : Bool :=
  match s.slotPort j with
  | some p => s.rd fPRT_SLOTCFG_PCTL p == 1
  | none => false

/-- `f` at the port slot `j` is bound to, if there is one. -/
def State.atPort (s : State) (j : Nat) (f : State → Nat → State) : State :=
  match s.slotPort j with
  | some p => f s p
  | none => s

/-! ### Samples (R415) -/

/-- A 12-bit code `c` of an input whose full scale is `fs` (R415), in whole units of `fs`. -/
def adc (fs c : Nat) : Nat := c * fs / 4096

/-- VOUT or VIN of slot `j` in mV, from its code. -/
def State.voltAt (s : State) (j c : Nat) : Nat := adc (s.rd fSLU_VNOM_VFS j) c

/-- The current of slot `j` in 10 mA units, from its code. -/
def State.curAt (s : State) (j c : Nat) : Nat := adc (s.rd fSLU_RATED_ISFS j) c

/-- The bus voltage of a feed of tile `n` in mV, from its code. -/
def State.busAt (s : State) (n c : Nat) : Nat := adc (s.rd fSLU_FEED_FSFS n) c

/-! ### Feeds (R416 to R418) -/

/-- Feed `f` (1 A, 2 B) may be used by slot `j`: wired and good. -/
def State.feedOk (s : State) (j f : Nat) : Bool :=
  bitOf (s.rd fSLU_CFG_FEEDS j) (f - 1)
    && (if f = 1 then s.rdb fSLU_FEED_AGOOD (j / 8) else s.rdb fSLU_FEED_BGOOD (j / 8))

/-- Some feed of slot `j` is good. -/
def State.fed (s : State) (j : Nat) : Bool := s.feedOk j 1 || s.feedOk j 2

/-- SLU_STAT.NOFEED of slot `j` after a change of its feeds. -/
def State.fedNow (s : State) (j : Nat) : State := s.wrb fSLU_STAT_NOFEED j (s.slotState j != 0 && !s.fed j)

/-- The old feed is driven off, and the new one follows after the dead time (R417). -/
def State.feedBreak (s : State) (j f : Nat) : State :=
  ((s.wr fSLU_STAT_FEED j 0).inc fSLU_ERR_SWITCHES j).slotMod j fun x => { x with make := some f }

/-- The feed that slot `j` goes to now, if it must go to one (R417): its preferred feed where it has none, the other where
the one in use is bad. -/
def State.chooseFeed (s : State) (j : Nat) : State :=
  let cur := s.rd fSLU_STAT_FEED j
  let pref := 1 + s.rd fSLU_CFG_PRIO j
  let s := s.fedNow j
  if s.slotState j = 0 ∨ s.slotState j = 7 ∨ (s.slot j).make.isSome then s
  else if cur = 0 then
    (if s.feedOk j pref then s.wr fSLU_STAT_FEED j pref
     else if s.feedOk j (3 - pref) then s.wr fSLU_STAT_FEED j (3 - pref) else s)
  else if !s.feedOk j cur && s.feedOk j (3 - cur) then s.feedBreak j (3 - cur)
  else s

/-- Both feed stages of slot `j` off. -/
def State.feedsOff (s : State) (j : Nat) : State :=
  (s.wr fSLU_STAT_FEED j 0).slotMod j fun x => { x with make := none }

/-! ### Requests and the ramp (R420 to R422) -/

/-- Slots of the tile of slot `j` in RAMP. -/
def State.ramping (s : State) (j : Nat) : Nat :=
  ((List.range 8).filter fun i => s.slotState (8 * (j / 8) + i) == 2).length

/-- An accepted power-on enters RAMP; the target starts at VOUT, within its segment (R421). -/
def State.rampStart (s : State) (j : Nat) : State :=
  let s := (s.setSlot j 2).wrb fSLU_STAT_WAITRAMP j false
  (s.wr fSLU_STAT_SEG j (min 15 (16 * s.rd fSLU_MEAS_VOUT j / max 1 (s.rd fSLU_VNOM_VNOM j)))).slotMod j fun x =>
    { x with wantFeed := false }

/-- An AUTO power-on of a slot bound with PCTL 0b01 loads its port's Power Controller Control as on (R420). -/
def State.loadOn (s : State) (j : Nat) : State :=
  if s.slotPctl j then
    s.atPort j fun s p =>
      let bs := s.bound p
      let s := s.each bs fun s b => s.bridgeMod b fun x => { x with off := false }
      if bs.isEmpty || s.rdb fPRT_SLOTCTL_OVR p then s.wrb fPRT_SLOTCTL_PWROFF p false else s
  else s

/-- A power-on request of slot `j` (R418, R420); `auto` for one of AUTO. -/
def State.powerOn (s : State) (j : Nat) (auto : Bool) : State :=
  if ¬ (s.slotState j = 1 ∧ s.rdb fSLU_STAT_PRES j ∧ (s.slot j).held) then s
  else if ¬ s.fed j then s.slotMod j fun x => { x with wantFeed := x.wantFeed || s.rdb fSLU_CFG_AUTO j }
  else
    let s := s.when_ auto fun s => s.loadOn j
    if s.rd fSLU_CTL_MAXRAMP 0 ≤ s.ramping j then s.wrb fSLU_STAT_WAITRAMP j true else s.rampStart j

/-- An AUTO power-on, where AUTO applies (R420, R76). -/
def State.autoOn (s : State) (j : Nat) : State :=
  if s.rdb fSLU_CFG_AUTO j && (s.slot j).waved && !(s.slot j).autoOff then s.powerOn j true else s

/-- The pass FET is driven off: the ramp, the fault timer and power-good end. -/
def State.fetOff (s : State) (j st : Nat) : State :=
  let s := ((s.setSlot j st).wrb fSLU_STAT_FTIMER j false).wr fSLU_STAT_SEG j 0
  (s.wrb fSLU_STAT_PG j false).atPort j fun s p => s.poweredNow p

/-- A power-off request of slot `j` (R419, R420). -/
def State.powerOff (s : State) (j : Nat) : State :=
  let s := (s.wrb fSLU_STAT_WAITRAMP j false).slotMod j fun x => { x with autoOff := true, wantFeed := false }
  if s.slotState j = 2 ∨ s.slotState j = 3 then s.fetOff j 1
  else if s.slotState j = 4 then
    let s := (s.setSlot j 5).wrb fSLU_STAT_PG j false
    s.atPort j fun s p => (s.poweredNow p).perstLow p true
  else s

/-! ### Samples and trips (R423 to R428) -/

/-- The current of a sample: SLU_MEAS, IPEAK, and the fault timer, which runs while samples exceed level 0 (R424). -/
def State.sampleCur (s : State) (j cur : Nat) : State :=
  let s := (s.wr fSLU_MEAS_IMEAS j cur).wr fSLU_MEAS2_IPEAK j (max cur (s.rd fSLU_MEAS2_IPEAK j))
  s.wrb fSLU_STAT_FTIMER j
    (s.driving j && decide (s.rd fSLU_SLOW0_LEVEL j * s.rd fSLU_RATED_RATED j < 16 * cur))

/-- The level register of curve point `k` (R424). -/
def slowLevel (k : Nat) : Fld :=
  if k = 0 then fSLU_SLOW0_LEVEL else if k = 1 then fSLU_SLOW1_LEVEL else if k = 2 then fSLU_SLOW2_LEVEL
  else fSLU_SLOW3_LEVEL

/-- The time register of curve point `k` (R424). -/
def slowTime (k : Nat) : Fld :=
  if k = 0 then fSLU_SLOW0_TIME else if k = 1 then fSLU_SLOW1_TIME else if k = 2 then fSLU_SLOW2_TIME
  else fSLU_SLOW3_TIME

/-- VOUT lies between PGLO and PGOV of VNOM (R428). -/
def State.voutGood (s : State) (j vout : Nat) : Bool :=
  decide (s.rd fSLU_PGCFG_PGLO j * s.rd fSLU_VNOM_VNOM j ≤ 100 * vout
    ∧ 100 * vout ≤ s.rd fSLU_PGCFG_PGOV j * s.rd fSLU_VNOM_VNOM j)

/-- Power Fault Detected at the port slot `j` is bound to (R142). -/
def State.slotFault (s : State) (j : Nat) : State :=
  s.atPort j fun s p => (s.wrb fPRT_SLOTSTAT_PFAULT p true).slotEvent p 1

/-- Slot `j` trips with `cause` (R426). -/
def State.trip (s : State) (j cause : Nat) : State :=
  if ¬ s.driving j then s
  else
    let s := ((s.fetOff j 6).wr fSLU_STAT_CAUSE j cause).inc fSLU_ERR_TRIPS j
    ((s.atPort j fun s p => s.perstLow p false).slotFault j).pulse (0x200 + j)

/-- Slot `j` returns to OFF from TRIPPED (R426). -/
def State.faultClear (s : State) (j : Nat) : State := if s.slotState j = 6 then s.setSlot j 1 else s

/-! ### Settings (R422, R424, R432) -/

/-- Rates of the 16 segments, none of them 0. -/
def State.rates (s : State) (j : Nat) : List Nat := (List.range 16).map fun i => max 1 (s.rd fSLU_CURVE_RATE (16 * j + i))

/-- RAMPMAX exceeds the curve's total duration: the sum of VNOM / (16 × RATE), without rounding (R421, R422). -/
def State.rampFits (s : State) (j : Nat) : Bool :=
  let rs := s.rates j
  let all := rs.foldl (· * ·) 1
  let sum := rs.foldl (fun a r => a + all / r) 0
  decide (s.rd fSLU_VNOM_VNOM j * sum < 16 * s.rd fSLU_PGCFG_RAMPMAX j * all)

/-- The settings of slot `j` keep the rules of R423, R424 and R432. -/
def State.slotSane (s : State) (j : Nat) : Bool :=
  decide (s.rd fSLU_VNOM_VNOM j < s.rd fSLU_VNOM_VFS j
    ∧ s.rd fSLU_TRIPCFG_FTMULT j * s.rd fSLU_RATED_RATED j ≤ 4 * s.rd fSLU_RATED_ISFS j
    ∧ s.rd fSLU_SLOW3_LEVEL j < 4 * s.rd fSLU_TRIPCFG_FTMULT j)
  && (List.range 3).all fun k =>
    decide (s.rd (slowLevel k) j < s.rd (slowLevel (k + 1)) j ∧ s.rd (slowTime (k + 1)) j < s.rd (slowTime k) j)

/-- The state after a write of one of slot `j`'s settings that gives `t` (R432): refused unless the slot is DISABLED, OFF or
TRIPPED, and where it breaks a rule of its settings. -/
def State.slotSet (s t : State) (j : Nat) : State :=
  let st := s.slotState j
  if (st = 0 ∨ st = 1 ∨ st = 6) ∧ t.slotSane j ∧ (t.rampFits j ∨ ¬ s.rampFits j) then t else s.cfgErr 19

/-- SLU_CFG acts on slot `j` (R417, R419); no slot leaves DISABLED before the Spillway arms (R431). -/
def State.slotCfg (s : State) (j : Nat) : State :=
  let en := s.rdb fSLU_CFG_EN j
  let st := s.slotState j
  if en ∧ st = 0 then (if s.rdb fSPW_CTL_ARMED 0 then (s.setSlot j 1).chooseFeed j else s)
  else if ¬ en ∧ (st = 1 ∨ st = 6) then
    (((s.setSlot j 0).feedsOff j).wrb fSLU_STAT_WAITRAMP j false).fedNow j
  else s.chooseFeed j

/-- SLU_CFG_WRITE (R419, R432). -/
def execSluCfgWrite (j val : Nat) (s : State) : Host.Outcome State Fault Refusal :=
  let fs := fieldsAt fSLU_CFG_EN.addr
  let st := s.slotState j
  onUnit (isSlot j && decide (val < 2 ^ 32))
    (s.onTile (j / 8)
    (if s.discards fs j val then s
    else if st = 0 ∨ st = 1 ∨ st = 6 then (s.setRW fs j val).slotCfg j
    else s.cfgErr 19))

/-! ### Feed events -/

/-- The voltage of a sample of feed A or B of tile `n` lies within its window (R416). -/
def State.feedIn (s : State) (n mv : Nat) : Bool := decide (s.rd fSLU_FEED_UV n ≤ mv ∧ mv ≤ s.rd fSLU_FEED_OV n)

/-- Feed A or B of tile `n` turns good or bad, with its source, and each slot of the tile chooses again (R416, R417). -/
def State.feedTurn (s : State) (n : Nat) (feedB : Bool) (mv : Nat) (good : Bool) : State :=
  let s := s.wr (if feedB then fSLU_FEED_VB else fSLU_FEED_VA) n mv
  if s.feedIn n mv != good then s
  else
    let s := s.wrb (if feedB then fSLU_FEED_BGOOD else fSLU_FEED_AGOOD) n good
    let s := s.level ((if feedB then 0x244 else 0x240) + n) !good
    s.each ((List.range 8).map (8 * n + ·)) fun s j =>
      let s := s.chooseFeed j
      if good && (s.slot j).wantFeed then (s.slotMod j fun x => { x with wantFeed := false }).autoOn j else s

/-- FEED_BAD: four samples outside the window (R416). -/
def execFeedBad (n : Nat) (feedB : Bool) (c : Nat) (s : State) : Host.Outcome State Fault Refusal :=
  onUnit (decide (n < 4 ∧ c < 4096)) (s.feedTurn n feedB (s.busAt n c) false)

/-- FEED_GOOD: 1 ms within the window (R416). -/
def execFeedGood (n : Nat) (feedB : Bool) (c : Nat) (s : State) : Host.Outcome State Fault Refusal :=
  onUnit (decide (n < 4 ∧ c < 4096)) (s.feedTurn n feedB (s.busAt n c) true)

/-- FEED_MAKE: the dead time is over and the new feed is driven on (R417). -/
def execFeedMake (j : Nat) (s : State) : Host.Outcome State Fault Refusal :=
  onUnit (isSlot j)
    (match (s.slot j).make with
    | some f => ((s.wr fSLU_STAT_FEED j f).slotMod j fun x => { x with make := none }).chooseFeed j
    | none => s)

/-- FEED_RETURN: the preferred feed has stayed good for FEEDRET (R417). -/
def execFeedReturn (j : Nat) (s : State) : Host.Outcome State Fault Refusal :=
  let pref := 1 + s.rd fSLU_CFG_PRIO j
  onUnit (isSlot j)
    (if s.rd fSLU_STAT_FEED j = 3 - pref ∧ s.feedOk j pref then s.feedBreak j pref else s)

/-! ### Presence and commands -/

/-- SLOT_PRESENT: PRSNT_N reads present (R415); `held` once it has for PRESDB ms (R420). -/
def execSlotPresent (j : Nat) (held : Bool) (s : State) : Host.Outcome State Fault Refusal :=
  let s' := if s.rdb fSLU_STAT_PRES j then s
    else ((s.wrb fSLU_STAT_PRES j true).slotMod j fun x => { x with autoOff := false }).atPort j fun s p => s.presenceTurn p
  onUnit (isSlot j)
    (if held && !(s'.slot j).held then (s'.slotMod j fun x => { x with held := true }).autoOn j else s')

/-- SLOT_ABSENT: PRSNT_N reads absent, and the slot powers down (R415, R419, R430). -/
def execSlotAbsent (j : Nat) (s : State) : Host.Outcome State Fault Refusal :=
  let t := (s.wrb fSLU_STAT_PRES j false).wrb fSLU_STAT_WAITRAMP j false
  let t := (t.slotMod j fun x => { x with held := false, wantFeed := false }).atPort j fun s p => s.presenceTurn p
  onUnit (isSlot j)
    (if ¬ s.rdb fSLU_STAT_PRES j then s
    else if s.slotState j = 2 ∨ s.slotState j = 3 then t.fetOff j 1
    else if s.slotState j = 4 then (t.fetOff j 1).atPort j fun s p => s.perstLow p false
    else t)

/-- SLU_CMD names operation `op` with its key. -/
def sluCmd (val op : Nat) : Bool := bitsOf val 24 8 == 0x5E && bitsOf val 0 3 == op

/-- SLU_ON: SLU_CMD with OP ON (R420). -/
def execSluOn (j val : Nat) (s : State) : Host.Outcome State Fault Refusal :=
  onUnit (isSlot j && decide (val < 2 ^ 32))
    (s.onTile (j / 8)
    (if ¬ sluCmd val 1 then s else if s.slotPctl j then s.cfgErr 19 else s.powerOn j false))

/-- SLU_OFF: SLU_CMD with OP OFF (R420). -/
def execSluOff (j val : Nat) (s : State) : Host.Outcome State Fault Refusal :=
  onUnit (isSlot j && decide (val < 2 ^ 32))
    (s.onTile (j / 8)
    (if ¬ sluCmd val 2 then s else if s.slotPctl j then s.cfgErr 19 else s.powerOff j))

/-- SLU_CLRFLT: SLU_CMD with OP CLRFLT (R426). -/
def execSluClrflt (j val : Nat) (s : State) : Host.Outcome State Fault Refusal :=
  onUnit (isSlot j && decide (val < 2 ^ 32)) (s.onTile (j / 8)
    (if sluCmd val 3 then s.faultClear j else s))

/-- SLU_CLRISO: SLU_CMD with OP CLRISO; `low` tells that VOUT has stayed at or below 1.0 V for the last 10 ms (R427). -/
def execSluClriso (j val : Nat) (low : Bool) (s : State) : Host.Outcome State Fault Refusal :=
  onUnit (isSlot j && decide (val < 2 ^ 32))
    (s.onTile (j / 8)
    (if ¬ sluCmd val 4 ∨ s.slotState j ≠ 7 then s
    else if low then ((s.setSlot j 1).level (0x220 + j) false).chooseFeed j
    else s.cfgErr 19))

/-- RAMP_PLACE_FREE: a slot that waits for a place ramps (R420). -/
def execRampPlaceFree (j : Nat) (s : State) : Host.Outcome State Fault Refusal :=
  onUnit (isSlot j)
    (if s.rdb fSLU_STAT_WAITRAMP j ∧ s.ramping j < s.rd fSLU_CTL_MAXRAMP 0 then
      (s.wrb fSLU_STAT_WAITRAMP j false).powerOn j false
    else s)

/-- RAMP_SEGMENT_END: the target reaches the end of its segment; after segment 15 the slot is in PGWAIT (R419, R421).
The target is held while a feed is changed (R417). -/
def execRampSegmentEnd (j vout cur : Nat) (s : State) : Host.Outcome State Fault Refusal :=
  let t := (s.wr fSLU_MEAS_VOUT j (s.voltAt j vout)).sampleCur j (s.curAt j cur)
  onUnit (isSlot j && decide (vout < 4096 ∧ cur < 4096))
    (if s.slotState j ≠ 2 ∨ (s.slot j).make.isSome then s
    else if s.rd fSLU_STAT_SEG j = 15 then t.setSlot j 3
    else t.wr fSLU_STAT_SEG j (s.rd fSLU_STAT_SEG j + 1))

/-- RAMP_TIMEOUT: RAMPMAX without power-good (R422). -/
def execRampTimeout (j : Nat) (s : State) : Host.Outcome State Fault Refusal :=
  onUnit (isSlot j) (if s.slotState j = 2 ∨ s.slotState j = 3 then s.trip j 3 else s)

/-- POWER_GOOD: the third good sample in a row (R428); one in which the fault timer runs is none (R429). -/
def execPowerGood (j vout cur vin : Nat) (s : State) : Host.Outcome State Fault Refusal :=
  let t := ((s.wr fSLU_MEAS_VOUT j (s.voltAt j vout)).wr fSLU_MEAS2_VIN j (s.voltAt j vin)).sampleCur j (s.curAt j cur)
  onUnit (isSlot j && decide (vout < 4096 ∧ cur < 4096 ∧ vin < 4096))
    (if s.slotState j = 3 && s.voutGood j (s.voltAt j vout) && !s.rdb fSLU_STAT_FTIMER j && !t.rdb fSLU_STAT_FTIMER j
        && (s.slot j).make.isNone then
      ((t.setSlot j 4).wrb fSLU_STAT_PG j true).atPort j fun s p => s.poweredNow p
    else t)

/-- STOPPING_END: 100 µs after PERST_OUT_N fell (R419). -/
def execStoppingEnd (j : Nat) (s : State) : Host.Outcome State Fault Refusal :=
  onUnit (isSlot j) (if s.slotState j = 5 then s.fetOff j 1 else s)

/-- FAST_TRIP: the current, in 10 mA units at the analog comparator, exceeds FTMULT / 4 × RATED (R423). -/
def execFastTrip (j cur : Nat) (s : State) : Host.Outcome State Fault Refusal :=
  onUnit (isSlot j && decide (cur < 65536))
    (if s.rd fSLU_TRIPCFG_FTMULT j * s.rd fSLU_RATED_RATED j < 4 * cur then (s.sampleCur j cur).trip j 1
    else s.sampleCur j cur)

/-- SLOW_TRIP: timer `k` reaches its time (R424). -/
def execSlowTrip (j k cur : Nat) (s : State) : Host.Outcome State Fault Refusal :=
  let t := s.sampleCur j (s.curAt j cur)
  onUnit (isSlot j && decide (k < 4 ∧ cur < 4096))
    (if s.driving j && decide (s.rd (slowLevel k) j * s.rd fSLU_RATED_RATED j < 16 * s.curAt j cur) then
      (t.trip j 2).wr fSLU_STAT_CAUSEK j k
    else t)

/-- UNDER_VOLTAGE: three samples of VOUT below PGLO in ON; the cause is no feed where none is good (R418, R425). -/
def execUnderVoltage (j vout : Nat) (s : State) : Host.Outcome State Fault Refusal :=
  let t := s.wr fSLU_MEAS_VOUT j (s.voltAt j vout)
  let low := decide (100 * s.voltAt j vout < s.rd fSLU_PGCFG_PGLO j * s.rd fSLU_VNOM_VNOM j)
  onUnit (isSlot j && decide (vout < 4096))
    (if low ∧ s.slotState j = 4 ∧ (s.slot j).make.isNone then t.trip j (if s.fed j then 4 else 6)
    else if low ∧ s.slotState j = 3 ∧ ¬ s.fed j then t.trip j 6
    else t)

/-- OVER_VOLTAGE: three samples of VOUT above PGOV (R425). -/
def execOverVoltage (j vout : Nat) (s : State) : Host.Outcome State Fault Refusal :=
  let t := s.wr fSLU_MEAS_VOUT j (s.voltAt j vout)
  onUnit (isSlot j && decide (vout < 4096))
    (if s.rd fSLU_PGCFG_PGOV j * s.rd fSLU_VNOM_VNOM j < 100 * s.voltAt j vout ∧ (s.slotState j = 3 ∨ s.slotState j = 4)
        ∧ (s.slot j).make.isNone then t.trip j 5
    else t)

/-- PASS_FET_DAMAGE: VOUT above 1.0 V for 10 ms while commanded off isolates the slot (R427). -/
def execPassFetDamage (j vout : Nat) (s : State) : Host.Outcome State Fault Refusal :=
  let t := s.wr fSLU_MEAS_VOUT j (s.voltAt j vout)
  onUnit (isSlot j && decide (vout < 4096))
    (if 1000 < s.voltAt j vout ∧ (s.slotState j = 1 ∨ s.slotState j = 6) then
      let t := (((t.setSlot j 7).feedsOff j).wrb fSLU_ERR_ISO j true).wr fSLU_STAT_CAUSE j 7
      ((t.slotFault j).level (0x220 + j) true).wrb fSLU_STAT_WAITRAMP j false
    else t)

/-! ### Waves and resets (R76, R431) -/

/-- SLOT_WAVE: slot wave `v` lets the automatic slots of the wave ramp (R76). -/
def execSlotWave (v : Nat) (s : State) : Host.Outcome State Fault Refusal :=
  onUnit (decide (v < 8))
    (s.each [v, v + 8, v + 16, v + 24] fun s j =>
      (s.slotMod j fun x => { x with waved := true }).autoOn j)

/-- The Spillway has armed after a cold reset: slots whose setting says so enter OFF (R431). -/
def State.slotsArm (s : State) : State := s.each (List.range 32) State.slotCfg

end Sys2Proof.Machine
end

