-- ==== Sys2Proof/Machine/Prt.lean ====
section
/-! DEFINITION. The commands of the ports (R122 to R145, R178): configuration, links, resets, bindings, FM-API commands and
hot-plug slots. -/

namespace Sys2Proof.Machine

/-! ### Configuration (R123, R125, R137, R141) -/

/-- Port `p` as configured meets no other enabled port and starts at a quad that its width admits (R123). -/
def State.portPlaced (s : State) (p : Nat) : Bool :=
  let n := quadsOf (s.rd fPRT_PORTCFG_WIDTH p)
  p % n == 0 && (List.range 64).all fun q =>
    q == p || !s.enabled q || decide (p + n ≤ q ∨ q + quadsOf (s.rd fPRT_PORTCFG_WIDTH q) ≤ p)

/-- An enabled port covers lane 4 × MGR_PORT. -/
def State.managerCovered (s : State) : Bool :=
  (List.range 64).any fun p => s.enabled p && s.covers p (s.rd fPKG_STRAP_MGR_PORT 0)

/-- A write that leads from `s` to `t` makes the in-band manager port a downstream port, or takes away the port that covers its lane
(R57). -/
def State.unmanages (s t : State) : Bool :=
  s.mgrOn && (t.downstream t.mgrPort || (s.managerCovered && !t.managerCovered))

/-- The combination of R34 that the configuration of port `p` would complete: its code and items. -/
def State.portConflict (s : State) (p : Nat) : Option (Nat × Nat × Nat) :=
  let slot := s.rd fPRT_SLOTCFG_SLOT p
  let en := s.rdb fPRT_SLOTCFG_SLOTEN p
  if en && s.rd fPRT_SLOTCFG_PCTL p == 2 then some (1, slot, p)
  else if en && s.rdb fPRT_PORTCFG_ROLE p then some (2, slot, p)
  else if s.upstream p then (s.mirrorOf p).map fun k => (5, p, k)
  else none

/-- A port whose ENABLE has changed starts or stops: its link goes down by Disabled, PERST_OUT_N is no longer driven (R43, R51),
and its quads are reconsidered (R125, R65).  It is ready once its tables are loaded (R74), and the reference of a tile without a
configured port is not checked (R68). -/
def State.portApply (s : State) (p : Nat) (old : Bool) : State :=
  let tile := tileOfPort p
  let s := s.readyNow p
  let s := s.clockForget (341 + tile)
  let s := if old && !s.enabled p then
      (if s.rdb fPRT_PORTCFG_ROLE p then s.portReset p 6 true else (s.setBit fPWR_PERSTOUT_RELEASED p false).dlDown p 6 true)
    else if !old && s.enabled p then s.wr fPRT_PORTSTAT_LTSSM p 0
    else s
  s.domKicks (s.portDomains p)

/-- MAXRATE 6 on stepping A0, whose port lanes end at 64 GT/s (R1, R2, log entry 95). -/
def State.portOdd (s : State) (val : Nat) : Bool := s.a0 && bitsOf val 4 3 == 6

/-- PORT_CONFIG_WRITE (R123, R125).  The configuration is a table of the port, and those not written count as loaded, so that the port
is ready (R74, R297; log entry 100). -/
def execPortConfigWrite (p val : Nat) (s : State) : Host.Outcome State Fault Refusal :=
  let fs := fieldsAt fPRT_PORTCFG_ENABLE.addr
  let t := s.setRW fs p val
  let old := s.enabled p
  let others := s.word fs p / 2 != t.word fs p / 2
  onUnit (isPort p && decide (val < 2 ^ 32))
    (s.onTile (tileOfPort p)
    (if s.discards fs p val || s.portOdd val then s
    else match t.portConflict p with
      | some (c, a, b) => s.conflict c a b
      | none =>
        if others && (old || s.dlUp p) || ((others || t.enabled p) && !old && !t.portPlaced p) || s.unmanages t then
          s.cfgErr 10
        else (t.portMod p fun x => { x with loaded := true }).portApply p old))

/-- The instances in the block of port `p`; there is none above TI8191 (R137, R346). -/
def State.blockTis (s : State) (p : Nat) : List Nat :=
  ((List.range (64 * s.rd fPRT_TIBLK_CNT p)).map fun i => 64 * s.rd fPRT_TIBLK_BASE p + i).filter (· < 8192)

/-- PRT_TIBLK_WRITE: instances enter and leave the block of port `p` (R137, R349). -/
def execPrtTiblkWrite (p val : Nat) (s : State) : Host.Outcome State Fault Refusal :=
  let fs := fieldsAt fPRT_TIBLK_BASE.addr
  let t := s.setRW fs p val
  let lo := fun (u : State) q => u.rd fPRT_TIBLK_BASE q
  let hi := fun (u : State) q => u.rd fPRT_TIBLK_BASE q + u.rd fPRT_TIBLK_CNT q
  let clash := (List.range 64).any fun q =>
    q != p && decide (lo t q < hi t q ∧ lo t p < hi t p ∧ lo t p < hi t q ∧ lo t q < hi t p)
  onUnit (isPort p && decide (val < 2 ^ 32))
    (s.onTile (tileOfPort p)
    (if s.discards fs p val then s
    else if (SMap.get {} s.ten.vfs p).enable || clash then s.cfgErr 10
    else
      let t := t.each (s.blockTis p) fun t ti =>
        if t.tstate ti = 1 ∧ (t.portOfTenant ti).isNone then t.tset ti 0 else t
      t.each (t.blockTis p) fun t ti => if t.tstate ti = 0 then t.tset ti 1 else t))

/-- Presence at port `p` once its slot binding has changed: a change of it is a presence change (R142). -/
def State.presentBind (s : State) (p : Nat) : State :=
  if (s.presentNow p).rdb fPRT_SLOTSTAT_PRESENT p = s.rdb fPRT_SLOTSTAT_PRESENT p then s else s.presenceTurn p

/-- The power of port `p`'s slot asked for on or off, as PCTL says (R141, R142). -/
def State.slotPower (s : State) (p : Nat) (on : Bool) : State :=
  if s.rd fPRT_SLOTCFG_PCTL p = 1 then
    match s.portSlot p with
    | some j => if on then s.powerOn j false else s.powerOff j
    | none => s
  else if s.rd fPRT_SLOTCFG_PCTL p = 2 ∧ ¬ on then s.perstLow p false
  else s

/-- Power Controller Control that holds for port `p`'s slot: the manager's while it overrides or no bridge is bound, else the
host's (R143). -/
def State.slotIsOff (s : State) (p : Nat) : Bool :=
  match s.bound p with
  | [] => s.rdb fPRT_SLOTCTL_PWROFF p
  | b :: _ => if s.rdb fPRT_SLOTCTL_OVR p then s.rdb fPRT_SLOTCTL_PWROFF p else (s.bridge b).off

/-- Power Fault Detected at port `p`: at the bridge bound to it, or at the port itself where none is (R143). -/
def State.slotFaulted (s : State) (p : Nat) : Bool :=
  match s.bound p with
  | [] => s.rdb fPRT_SLOTSTAT_PFAULT p
  | b :: _ => bitOf (s.bridge b).status 1

/-- Port `p`'s slot once what holds for its power may have changed, having been `was` (true for off): a change is a request, and a
power-on while a fault stands is not acted on (R143; log entry 119). -/
def State.powerTurn (s : State) (p : Nat) (was : Bool) : State :=
  if s.slotIsOff p = was ∨ (¬ s.slotIsOff p ∧ s.slotFaulted p) then s else s.slotPower p (!s.slotIsOff p)

/-- PRT_SLOTCFG_WRITE (R34, R141). -/
def execPrtSlotcfgWrite (p val : Nat) (s : State) : Host.Outcome State Fault Refusal :=
  let fs := fieldsAt fPRT_SLOTCFG_SLOT.addr
  let t := s.setRW fs p val
  let en := t.rdb fPRT_SLOTCFG_SLOTEN p
  let j := t.rd fPRT_SLOTCFG_SLOT p
  let taken := (List.range 64).any fun q =>
    q != p && s.rdb fPRT_SLOTCFG_SLOTEN q && s.rd fPRT_SLOTCFG_SLOT q == j
  let second := s.rdb fPRT_SLOTCFG_SLOTEN p && s.rd fPRT_SLOTCFG_SLOT p != j
  onUnit (isPort p && decide (val < 2 ^ 32))
    (s.onTile (tileOfPort p)
    (if s.discards fs p val then s
    else match t.portConflict p with
      | some (c, a, b) => s.conflict c a b
      | none =>
        if en && (j / 8 != tileOfPort p || taken || second) then s.cfgErr 10
        else ((t.presentBind p).poweredNow p).when_ (t.rd fPRT_SLOTCFG_PCTL p == 2 && t.slotIsOff p) fun s => s.perstLow p false))

/-! ### Links and resets (R124, R126 to R128) -/

/-- Port lane `l` as training leaves it (R104, R121): its rate, a clock recovered, the polarity found; the coefficients and the preset of
its transmitter are what the two ends have found, free values. -/
def State.laneTrained (s : State) (l rate : Nat) (inv : Bool) : State :=
  let s := ((s.wr fSER_LSTAT_RATE l rate).wrb fSER_LSTAT_CDRLOCK l true).wrb fSER_LSTAT_RXINV l inv
  let (n, s) := s.draw
  let v := (Config.adapted n).toNat
  let s := ((s.wr fSER_TXEQ_CM2 l v).wr fSER_TXEQ_CM1 l (v / 64)).wr fSER_TXEQ_C0 l (v / 4096)
  (s.wr fSER_TXEQ_CP1 l (v / 2 ^ 18)).wr fSER_TXEQ_PRESET l (v / 2 ^ 24)

/-- A trained link's own choices (R104, R122, R124): width, rate, reversal, the degraded-width source, and at its lanes the rate,
CDR lock and the polarity found, `inv` having bit i for lane i of the port; lanes left out are idle. -/
def State.trained (s : State) (p width rate : Nat) (rev : Bool) (inv : Nat) : State :=
  let full := 4 * quadsOf (s.rd fPRT_PORTCFG_WIDTH p)
  let s := ((s.wr fPRT_PORTSTAT_LTSSM p 4).wr fPRT_PORTSTAT_NEGWIDTH p width).wr fPRT_PORTSTAT_RATE p rate
  let s := (s.wrb fPRT_PORTSTAT_DEGRADED p (decide (width < full))).wrb fPRT_PORTSTAT_REVERSED p rev
  let s := s.when_ (decide (width < full)) fun s => s.pulse (0x040 + p)
  let used := s.lanesUsed p width rev
  let s := s.each ((s.portLanes p).filter fun l => !used.contains l) State.portLaneIdle
  s.each used fun s l => s.laneTrained l rate (bitOf inv (l - 4 * p))

/-- FLIT mode of a link (R122): always at 64 and 128 GT/s; below them a CXL link runs 256-byte flits unless the partner runs 68-byte
flits, which exist at 8, 16 and 32 GT/s only. -/
def flitMode (rate : Nat) (cxl flit68 : Bool) : Bool := decide (5 ≤ rate) || cxl && !(flit68 && decide (2 ≤ rate))

/-- A width a port can train at (R124), at a rate it advertises: MAXRATE at most, and on A0 64 GT/s at most (R126, R2). -/
def State.canTrain (s : State) (p width rate : Nat) : Bool :=
  [1, 2, 4, 8, 16].contains width && decide (width ≤ 4 * quadsOf (s.rd fPRT_PORTCFG_WIDTH p))
    && decide (rate ≤ s.rd fPRT_PORTCFG_MAXRATE p) && !(s.a0 && rate == 6)

/-- PORT_LINK_UP: training ends in L0 with the given width and rate, or a port in Recovery or L1 returns to L0 with those it has
found now (R124, R126); at 32 GT/s its transmitters precode where the partner requests it (R104). -/
def execPortLinkUp (p width : Nat) (r : LinkRate) (cache mem : Bool) (w : Wiring) (s : State) : Host.Outcome State Fault Refusal :=
  let cxl := s.rdb fPRT_PORTCFG_PROTO p
  let cache := cxl && cache && !s.rdb fPRT_PORTCFG_ROLE p
  let mem := cxl && mem
  let t := (s.trained p width r.rate w.reversed w.inv).portMod p fun x => { x with precode := r.rate == 4 && r.precode }
  let u := ((t.wrb fPRT_PORTSTAT_CXLIO p (cache || mem)).wrb fPRT_PORTSTAT_CXLCACHE p cache).wrb fPRT_PORTSTAT_CXLMEM p mem
  let u := (u.wrb fPRT_PORTSTAT_FLIT p (flitMode r.rate (cache || mem) r.flit68)).wrb fPRT_PORTSTAT_DLACTIVE p true
  onUnit (isPort p && decide (width < 32 ∧ r.rate < 8 ∧ w.inv < 2 ^ 16))
    (if ¬ s.canTrain p width r.rate then s
    else if s.dlUp p then
      (if s.rd fPRT_PORTSTAT_LTSSM p = 3 then
        (t.wrb fPRT_PORTSTAT_FLIT p (flitMode r.rate (s.rdb fPRT_PORTSTAT_CXLIO p) r.flit68)).considerAll
      else s)
    else if ¬ s.mayTrain p then s
    else (((u.boundEvent p 8).enumerate p).considerAll).when_ (s.upstream p) fun s => s.releasePeers p)

/-- PORT_DL_DOWN: a link is lost; that of an upstream port resets its VCS (R127, R128). -/
def execPortDlDown (p : Nat) (s : State) : Host.Outcome State Fault Refusal :=
  onUnit (isPort p)
    (if ¬ s.dlUp p then s
    else s.linkLost p)

/-- HOT_RESET_RECEIVED: hot reset, or Link Disable, on an upstream link (R128).  Only a hot reset is a planned loss (R127). -/
def execHotResetReceived (p : Nat) (disable : Bool) (s : State) : Host.Outcome State Fault Refusal :=
  onUnit (isPort p)
    (if s.upstream p && s.dlUp p then
      (s.portMod p fun x => { x with hot := true }).portReset p (if disable then 6 else 8) !disable
    else s)

/-- HOT_RESET_END: the port may train again, with no wait for a wave (R128). -/
def execHotResetEnd (p : Nat) (s : State) : Host.Outcome State Fault Refusal :=
  onUnit (isPort p)
    (if (s.portS p).hot then ((s.portMod p fun x => { x with hot := false }).wr fPRT_PORTSTAT_LTSSM p 0).releasePeers p else s)

/-- FLR_PF: the management endpoint and every VF are reset (R128). -/
def execFlrPf (p : Nat) (s : State) : Host.Outcome State Fault Refusal :=
  onUnit (isPort p)
    (if s.upstream p then s.pfReset p else s)

/-- FLR_VF: VF `vf`'s instance is reset (R128). -/
def execFlrVf (p vf : Nat) (s : State) : Host.Outcome State Fault Refusal :=
  onUnit (isPort p && decide (vf < 8193))
    (if s.upstream p && decide (1 ≤ vf ∧ vf ≤ (SMap.get {} s.ten.vfs p).num) && (SMap.get {} s.ten.vfs p).enable && decide (s.tiOf p vf < 8192) then
      s.tenFlr (s.tiOf p vf)
    else s)

/-- VF_ENABLE: VF Enable and NumVFs of port `p`'s PF are written (R137, R349). -/
def execVfEnable (p : Nat) (enable : Bool) (numVfs : Nat) (s : State) : Host.Outcome State Fault Refusal :=
  let n := 64 * s.rd fPRT_TIBLK_CNT p
  let enable := enable && decide (n ≠ 0)
  let t := s.tenMod fun t => { t with vfs := SMap.set {} t.vfs p { enable := enable, num := numVfs } }
  onUnit (isPort p && decide (numVfs < 65536))
    (if s.upstream p && decide (numVfs ≤ n) then
      t.each (s.blockTis p) fun t ti =>
        if t.vfLive ti then (if t.tstate ti = 1 then t.tset ti 2 else t) else t.tenFlr ti
    else s)

/-! ### Bindings (R130 to R132, R178) -/

/-- Port `p`'s CCI answers with a return code. -/
def State.cciSay (s : State) (p code : Nat) (bytes : List Byte := []) : State := s.send (.cci p code bytes)

/-- The background command that works on bridge `b` ends with `code` (R134). -/
def State.cciDone (s : State) (b code : Nat) : State :=
  match (List.range 64).find? fun p => (s.portS p).cci == some b with
  | some p => (s.portMod p fun x => { x with cci := none }).cciSay p code
  | none => s

/-- LDs `a` and `b`, or a whole port where 0xFF, are one target or overlap. -/
def ldMeets (a b : Nat) : Bool := a == b || a == 0xFF || b == 0xFF

/-- The LD that bridge `b` names of its port; 0xFF for a whole port. -/
def State.bridgeLd (s : State) (b : Nat) : Nat := if s.rd fPRT_VPPB_KIND b = 1 then s.rd fPRT_VPPB_LD b else 0xFF

/-- Bridges that name port `q`, or LD `ld` of it. -/
def State.naming (s : State) (q ld : Nat) : List Nat := (s.vppbsOf q).filter fun b => ldMeets ld (s.bridgeLd b)

/-- Bridges that name port `q` of peer `node`. -/
def State.namingPeer (s : State) (q node : Nat) : List Nat :=
  (s.listed fPRT_VPPB_STATE).filter fun b => s.rd fPRT_VPPB_STATE b != 0 && s.rd fPRT_VPPB_KIND b == 2 && s.rd fPRT_VPPB_PORT b == q
    && s.rd fPRT_VPPB_NODE b == node

/-- A peer claims port `q` or LD `ld` of it. -/
def State.peerClaimed (s : State) (q ld : Nat) : Bool := s.prt.claims.any fun c => c.port == q && ldMeets c.ld ld

/-- PRT_VPPB of bridge `b` set to name a target. -/
def State.setVppb (s : State) (b st kind port ld node : Nat) : State :=
  ((((s.wr fPRT_VPPB_STATE b st).wr fPRT_VPPB_KIND b kind).wr fPRT_VPPB_PORT b port).wr fPRT_VPPB_LD b ld).wr
    fPRT_VPPB_NODE b node

/-- The return code of Bind vPPB, for bridge `b` and a target (R132, R263): 0 where it may start, 2 Invalid Input, 6 Busy. -/
def State.bindCode (s : State) (b kind q ld node : Nat) : Nat :=
  let l := if kind = 1 then ld else 0xFF
  let st := s.rd fPRT_VPPB_STATE b
  let same := if kind < 2 then s.naming q l else s.namingPeer q node
  if b % 32 = 0 ∨ ¬ s.upstream (b / 32) then 2
  else if st = 1 ∨ st = 3 ∨ same.any fun c => s.rd fPRT_VPPB_STATE c != 2 then 6
  else if st = 2 ∨ ¬ same.isEmpty then 2
  else if kind < 2 ∧ (s.rdb fPRT_PORTCFG_ROLE q ∨ s.isPool q ∨ s.peerClaimed q l) then 2
  else if 2 < kind then 2
  else 0

/-- A bind of bridge `b` to a target starts (R131); a peer's port is claimed over its link (R178). -/
def State.bindStart (s : State) (b kind q ld node : Nat) : State :=
  let s := s.setVppb b 1 kind q (if kind = 1 then ld else 0) (if kind = 2 then node else 0)
  if kind = 2 then s.toPeer node [4, q, 0xFF, b / 32] else s

/-- A dictionary write of `v` to PRT_VPPB of bridge `b` that is not in progress (R131, log entry 104): one that names a target binds
an unbound bridge, and one that names none starts an unbind that waits for the link to go down; the abort code, and the state. -/
def State.bindWrite (s : State) (b v : Nat) : Nat × State :=
  let st := s.rd fPRT_VPPB_STATE b
  let kind := fPRT_VPPB_KIND.of v
  let q := fPRT_VPPB_PORT.of v
  let ld := fPRT_VPPB_LD.of v
  if fPRT_VPPB_STATE.of v = 0 ∨ fPRT_VPPB_STATE.of v = 3 then
    if st ≠ 2 ∨ b % 32 = 0 then (0xA, s.cfgErr 10)
    else (0, (s.wr fPRT_VPPB_STATE b 3).bridgeMod b fun x => { x with unbind := 1 })
  else match s.bindCode b kind q ld (fPRT_VPPB_NODE.of v), (if kind < 2 then s.mirrorOf q else none) with
    | 0, some k => (9, s.conflictRec 5 q k)
    | 0, none => (0, s.bindStart b kind q ld (fPRT_VPPB_NODE.of v))
    | 6, _ => (1, s)
    | _, _ => (0xA, s.cfgErr 10)

/-- Port `v` is, or by R510 becomes, an upstream port, so that a VCS v exists (R129). -/
def State.headsVcs (s : State) (v : Nat) : Bool :=
  s.upstream v || (s.mgrOn && !s.managerCovered && s.rd fPKG_STRAP_MGR_PORT 0 == v)

/-- A record of the image's tables for PRT_VPPB of bridge `b` (R130, R131), judged in the state that the records before it leave (R472):
refused where it names vPPB 0, a bridge that no upstream port heads, a target that is no downstream port, an analysis port (R34), or one
that another bridge or a peer names; a peer's port is claimed once a link to that peer is up (R178). -/
def State.bindImage (s : State) (b v : Nat) : Option State :=
  let st := fPRT_VPPB_STATE.of v
  let kind := fPRT_VPPB_KIND.of v
  let q := fPRT_VPPB_PORT.of v
  let ld := fPRT_VPPB_LD.of v
  let node := fPRT_VPPB_NODE.of v
  let taken := (s.listed fPRT_VPPB_STATE).any fun c => c != b && s.rd fPRT_VPPB_STATE c != 0 && s.rd fPRT_VPPB_KIND c == kind
    && s.rd fPRT_VPPB_PORT c == q && (kind != 2 || s.rd fPRT_VPPB_NODE c == node) && (kind != 1 || s.rd fPRT_VPPB_LD c == ld)
  let whole := decide (kind < 2) && (s.naming q (if kind = 1 then ld else 0xFF)).any fun c => c != b
  let local_ := decide (kind < 2)
  if st = 0 then some (s.setVppb b 0 (if b % 32 = 0 then 3 else 0) 0 0 0)
  else if b % 32 = 0 then (if kind = 3 then some (s.setVppb b st 3 q ld node) else none)
  else if kind = 3 ∨ taken ∨ whole ∨ s.isPool q ∨ ¬ s.headsVcs (b / 32) then none
  else if local_ && (s.rdb fPRT_PORTCFG_ROLE q || (s.mirrorOf q).isSome || s.peerClaimed q (if kind = 1 then ld else 0xFF)) then none
  else if kind = 2 then some ((s.setVppb b 1 2 q 0 node).bridgeMod b fun x => { x with unbind := 3 })
  else some (s.setVppb b 2 kind q (if kind = 1 then ld else 0) 0)

/-- BIND_VPPB: the FM-API command of port `p`'s CCI (R131, R132, R134).  A target that is a mirror analysis port is a
combination that R34 rejects: the command answers Invalid Input, and the refusal is recorded and raised as that of a register write
(log entry 118). -/
def execBindVppb (p vcs vppb kind port ld node : Nat) (s : State) : Host.Outcome State Fault Refusal :=
  let b := 32 * vcs + vppb
  let c := s.bindCode b kind port ld node
  onUnit (isPort p && isBridge vcs vppb && decide (kind < 4 ∧ port < 64 ∧ ld < 16 ∧ node < 16))
    (if ¬ s.isManager p then s.cciSay p 3
    else if (s.portS p).cci.isSome then s.cciSay p 6
    else if c ≠ 0 then s.cciSay p c
    else if kind < 2 then
      match s.mirrorOf port with
      | some k => (s.conflict 5 port k).cciSay p 2
      | none => (((s.portMod p fun x => { x with cci := some b }).cciSay p 1).bindStart b kind port ld node)
    else (((s.portMod p fun x => { x with cci := some b }).cciSay p 1).bindStart b kind port ld node))

/-- BIND_COMPLETE: the bind of a local target is done, and the host sees it (R131). -/
def execBindComplete (vcs vppb : Nat) (s : State) : Host.Outcome State Fault Refusal :=
  let b := 32 * vcs + vppb
  let q := s.rd fPRT_VPPB_PORT b
  let t := ((s.wr fPRT_VPPB_STATE b 2).cciDone b 0).bridgeEvent b 3
  onUnit (isBridge vcs vppb)
    (if s.rd fPRT_VPPB_STATE b = 1 ∧ s.rd fPRT_VPPB_KIND b < 2 then
      (if s.dlUp q then t.bridgeEvent b 8 else t).powerTurn q (s.slotIsOff q)
    else s)

/-- The binding of bridge `b` ends: its host sees the target go, and a peer's port is released (R131, R177). -/
def State.unbound (s : State) (b : Nat) : State :=
  let s := if s.rd fPRT_VPPB_KIND b = 2 then s.toPeer (s.rd fPRT_VPPB_NODE b) [6, s.rd fPRT_VPPB_PORT b, 0xFF] else s
  let q := s.rd fPRT_VPPB_PORT b
  let here := decide (s.rd fPRT_VPPB_KIND b < 2)
  let off := s.slotIsOff q
  let s := (s.setVppb b 0 0 0 0 0).bridgeMod b fun x => { x with unbind := 0 }
  (((s.cciDone b 0).bridgeEvent b 3).bridgeEvent b 8).when_ here fun s => s.powerTurn q off

/-- An Unbind vPPB of port `p`'s CCI, which goes on as `f` says where it may start (R131, R132, R134). -/
def State.unbindCmd (s : State) (p b : Nat) (f : State → State) : State :=
  let st := s.rd fPRT_VPPB_STATE b
  if ¬ s.isManager p then s.cciSay p 3
  else if (s.portS p).cci.isSome ∨ st = 1 ∨ st = 3 then s.cciSay p 6
  else if st = 0 ∨ b % 32 = 0 then s.cciSay p 2
  else f (((s.portMod p fun x => { x with cci := some b }).cciSay p 1).wr fPRT_VPPB_STATE b 3)

/-- UNBIND_WAIT_LINK_DOWN (R131). -/
def execUnbindWaitLinkDown (p vcs vppb : Nat) (s : State) : Host.Outcome State Fault Refusal :=
  let b := 32 * vcs + vppb
  onUnit (isPort p && isBridge vcs vppb) (s.unbindCmd p b fun s => s.bridgeMod b fun x => { x with unbind := 1 })

/-- UNBIND_MANAGED_HOT_REMOVE: an attention-button press is shown to the host (R131). -/
def execUnbindManagedHotRemove (p vcs vppb : Nat) (s : State) : Host.Outcome State Fault Refusal :=
  let b := 32 * vcs + vppb
  onUnit (isPort p && isBridge vcs vppb)
    (s.unbindCmd p b fun s => (s.bridgeMod b fun x => { x with unbind := 2 }).bridgeEvent b 0)

/-- Messages that `mine` picks and that wait at egress `x`, or await their answer there, become undeliverable (R127, R170). -/
def State.cutAt (s : State) (x : Nat) (mine : Msg → Bool) : State :=
  let s := s.each (List.range 8) fun s t => s.each (List.range 5) fun s g =>
    let (go, stay) := (s.queue x t g).partition fun e =>
      match s.stored e.id with
      | some d => mine d.m
      | none => false
    (s.setQueue x t g stay).each go fun s e =>
      match s.stored e.id with
      | some d => (s.undeliverable x d.m).copyGone d x
      | none => s
  let (go, stay) := s.swc.owed.partition fun o => o.x == x && mine o.m
  (s.swcMod fun w => { w with owed := stay }).each go fun s o => s.undeliverable x o.m

/-- Messages of the VCS of bridge `b` that wait for its target, or await its answer, are handled under R127; those for a peer's port
are at the links to its node. -/
def State.cutTarget (s : State) (b : Nat) : State :=
  let q := s.rd fPRT_VPPB_PORT b
  let n := s.rd fPRT_VPPB_NODE b
  let s := if s.rd fPRT_VPPB_KIND b = 2 then
      s.each (s.linksOf n) fun s k => s.cutAt (64 + k) fun m => m.node == n && m.dest == q && m.src == b / 32
    else s.cutAt q fun m => s.rd fPRT_VPPB_KIND b == 0 || m.ld == s.rd fPRT_VPPB_LD b
  s.considerAll.drainAll

/-- UNBIND_SURPRISE_HOT_REMOVE: the binding is cut (R131). -/
def execUnbindSurpriseHotRemove (p vcs vppb : Nat) (s : State) : Host.Outcome State Fault Refusal :=
  let b := 32 * vcs + vppb
  onUnit (isPort p && isBridge vcs vppb)
    (s.unbindCmd p b fun s => (s.cutTarget b).unbound b)

/-- UNBIND_COMPLETE: the target's link is down and the waiting unbind completes (R131). -/
def execUnbindComplete (vcs vppb : Nat) (s : State) : Host.Outcome State Fault Refusal :=
  let b := 32 * vcs + vppb
  let down := decide (2 ≤ s.rd fPRT_VPPB_KIND b) || !s.dlUp (s.rd fPRT_VPPB_PORT b)
  onUnit (isBridge vcs vppb) (if s.rd fPRT_VPPB_STATE b = 3 ∧ down then s.unbound b else s)

/-- UNBIND_TIMEOUT: the link is still up after 1 s, and the binding is kept (R131). -/
def execUnbindTimeout (vcs vppb : Nat) (s : State) : Host.Outcome State Fault Refusal :=
  let b := 32 * vcs + vppb
  onUnit (isBridge vcs vppb)
    (if s.rd fPRT_VPPB_STATE b = 3 ∧ (2 ≤ s.rd fPRT_VPPB_KIND b ∨ s.dlUp (s.rd fPRT_VPPB_PORT b)) then
      ((s.wr fPRT_VPPB_STATE b 2).bridgeMod b fun x => { x with unbind := 0 }).cciDone b 4
    else s)

/-- BIND_RSP_TIMEOUT: no BIND_RSP within 1 ms (R178). -/
def execBindRspTimeout (vcs vppb : Nat) (s : State) : Host.Outcome State Fault Refusal :=
  let b := 32 * vcs + vppb
  onUnit (isBridge vcs vppb)
    (if s.rd fPRT_VPPB_STATE b = 1 ∧ s.rd fPRT_VPPB_KIND b = 2 then (s.setVppb b 0 0 0 0 0).cciDone b 4 else s)

/-- The node a unit comes from. -/
def unitNode (hdr : Nat) : Nat := bitsOf hdr 6 4

/-- BIND_CLAIM: a peer asks for port `port` or its LD `ld` (R178); an analysis port is refused under R34. -/
def execBindClaim (k hdr trl port ld vcs : Nat) (s : State) : Host.Outcome State Fault Refusal :=
  onUnit (mgmtOk k hdr trl port ld && decide (vcs < 256))
    (s.rxMgmt k hdr trl fun s =>
      let mir := s.mirrorOf port
      let ok := s.downstream port && (s.naming port ld).isEmpty && !s.peerClaimed port ld && !s.isPool port && mir.isNone
      let s := if mir.isSome then s.conflictRec 5 port (mir.getD 0) else s
      let s : State := if ok then
          { s with prt := { s.prt with claims := { port := port, ld := ld, node := unitNode hdr, vcs := vcs } :: s.prt.claims } }
        else s
      s.mgmtSend k [5, port, ld, b2n !ok])

/-- BIND_RSP: the owner's answer completes Bind vPPB, and the host sees it (R131, R177, R178); the peer's port shows as up (log
entry 103).  DESIGN CHOICE (log entry 121): BIND_RSP names no VCS, and where several binds of the port are in progress it answers the first
listed bridge's. -/
def execBindRsp (k hdr trl port ld : Nat) (refused : Bool) (s : State) : Host.Outcome State Fault Refusal :=
  onUnit (mgmtOk k hdr trl port ld)
    (s.rxMgmt k hdr trl fun s =>
      match (s.listed fPRT_VPPB_STATE).find? fun b =>
          s.rd fPRT_VPPB_STATE b == 1 && s.rd fPRT_VPPB_KIND b == 2 && s.rd fPRT_VPPB_PORT b == port
            && s.rd fPRT_VPPB_NODE b == unitNode hdr with
      | some b =>
        if refused then (s.setVppb b 0 0 0 0 0).cciDone b 2
        else (((s.wr fPRT_VPPB_STATE b 2).cciDone b 0).bridgeEvent b 3).bridgeEvent b 8
      | none => s)

/-- A port that a peer's PORTRESET holds in Hot Reset is let go (R177). -/
def State.hotRelease (s : State) (port : Nat) : State :=
  if (s.portS port).hot ∧ ¬ s.rdb fPRT_PORTCFG_ROLE port then
    (s.portMod port fun x => { x with hot := false }).wr fPRT_PORTSTAT_LTSSM port 0
  else s

/-- UNBIND: a peer releases its claim (R177). -/
def execUnbind (k hdr trl port ld : Nat) (s : State) : Host.Outcome State Fault Refusal :=
  onUnit (mgmtOk k hdr trl port ld)
    (s.rxMgmt k hdr trl fun s =>
      let t : State := { s with prt := { s.prt with claims := s.prt.claims.filter fun c =>
          !(c.port == port && c.ld == ld && c.node == unitNode hdr) } }
      t.hotRelease port)

/-- A peer's upstream reset at the target of claim `c`: a whole port is held in Hot Reset until the release (R133, R177). -/
def State.claimReset (s : State) (c : PeerClaim) : State :=
  if c.ld = 0xFF then (s.portMod c.port fun x => { x with hot := true }).targetReset c.port none else s.targetReset c.port (some c.ld)

/-- PORTRESET: a peer's upstream reset reaches the target it claims, or its end does (R133, R177, R178). -/
def execPortreset (k hdr trl port : Nat) (release : Bool) (s : State) : Host.Outcome State Fault Refusal :=
  onUnit (mgmtOk k hdr trl port 0)
    (s.rxMgmt k hdr trl fun s =>
      let mine := s.prt.claims.filter fun c => c.port == port && c.node == unitNode hdr
      s.each mine fun s c => if release then s.hotRelease c.port else s.claimReset c)

/-! ### FM-API (R134, R135) -/

/-- Byte `n` of a payload. -/
def byteAt (bs : List Byte) (n : Nat) : Nat := ((bs.drop n).headD 0).toNat

/-- The command sets of R134: Physical Switch, Virtual Switch, MLD Port and Dynamic Capacity Device management. -/
def fmSet (opcode : Nat) : Bool := [0x51, 0x52, 0x53, 0x56].contains (opcode / 256)

/-- A command that has no row of its own names a bridge, a port or an LD whose bind or unbind is in progress (R132; PRESUMED, log entry
110): 0x5203 a VCS and a vPPB, 0x5102, 0x5103 and those of the MLD Port set a port. -/
def State.fmBusy (s : State) (opcode : Nat) (payload : List Byte) : Bool :=
  let busy := fun b => s.rd fPRT_VPPB_STATE b == 1 || s.rd fPRT_VPPB_STATE b == 3
  if opcode = 0x5203 then busy (32 * byteAt payload 0 + byteAt payload 1)
  else if opcode = 0x5102 ∨ opcode = 0x5103 ∨ opcode / 256 = 0x53 then (s.vppbsOf (byteAt payload 0)).any busy
  else false

/-- FM_API_COMMAND: a command that has no row of its own is accepted or refused (R134).  What an accepted standard command
answers is laid out by CXL, not here (log entry 61); which payload byte names a VCS is PRESUMED (log entry 110). -/
def execFmApiCommand (p opcode : Nat) (payload : List Byte) (s : State) : Host.Outcome State Fault Refusal :=
  onUnit (isPort p && decide (opcode < 65536))
    (if ¬ s.upstream p then s
    else if (s.portS p).cci.isSome then s.cciSay p 6
    else if s.isManager p then s.cciSay p (if ¬ fmSet opcode then 3 else if s.fmBusy opcode payload then 6 else 0)
    else if opcode = 0x5100 then s.cciSay p 0
    else if opcode = 0x5200 then s.cciSay p (if payload = [] ∨ byteAt payload 0 = p then 0 else 3)
    else s.cciSay p 3)

/-- GET_FABRIC_TIME: vendor opcode 0xC002, accepted at every upstream port (R135). -/
def execGetFabricTime (p : Nat) (s : State) : Host.Outcome State Fault Refusal :=
  onUnit (isPort p)
    (if ¬ s.upstream p then s
    else if (s.portS p).cci.isSome then s.cciSay p 6
    else s.cciSay p 0 (toLeBytes 10 s.time80 ++ toLeBytes 1 s.ftQual))

/-- GET_PORT_READINESS: vendor opcode 0xC003 (R135). -/
def execGetPortReadiness (p : Nat) (s : State) : Host.Outcome State Fault Refusal :=
  onUnit (isPort p)
    (if ¬ s.upstream p then s
    else if (s.portS p).cci.isSome then s.cciSay p 6
    else if ¬ s.isManager p then s.cciSay p 3
    else s.cciSay p 0
      (([s.rd fPWR_PORTRDY_READY 0, s.rd fPWR_PORTRDY_READY 1, s.rd fPWR_CRSLATE_LATE 0, s.rd fPWR_CRSLATE_LATE 1]).flatMap
        (toLeBytes 4)))

/-! ### Hot-plug slots (R140 to R143) -/

/-- PRESENCE_CHANGE: the receivers of port `p` come to detect a partner, or no longer do (R142). -/
def execPresenceChange (p : Nat) (present : Bool) (s : State) : Host.Outcome State Fault Refusal :=
  onUnit (isPort p)
    (if (s.portS p).detect = present then s else (s.portMod p fun x => { x with detect := present }).presenceTurn p)

/-- ATTENTION_BUTTON_PRESS: a confirmed press of the button of port `p`'s slot (R142). -/
def execAttentionButtonPress (p : Nat) (s : State) : Host.Outcome State Fault Refusal :=
  onUnit (isPort p)
    (if ¬ s.rdb fPRT_SLOTCFG_SLOTEN p then s
    else if (s.bound p).isEmpty then s.wrb fPRT_SLOTSTAT_BTN p true
    else s.slotEvent p 0)

/-- The port whose slot bridge `b` controls: that of a bound local target with a slot of its own (R140). -/
def State.slotOfBridge (s : State) (b : Nat) : Option Nat :=
  if s.holdsBinding b ∧ s.rd fPRT_VPPB_KIND b < 2 ∧ s.rdb fPRT_PORTCFG_HPCAP (s.rd fPRT_VPPB_PORT b) then
    some (s.rd fPRT_VPPB_PORT b)
  else none

/-- A host's write of Power Controller Control of bridge `b` (R142, R143): it reads back, Command Completed sets, and it is
acted on unless the manager overrides it or Power Fault Detected is set. -/
def State.hostPower (s : State) (b : Nat) (on : Bool) : State :=
  let s := (s.bridgeMod b fun x => { x with off := !on }).bridgeEvent b 4
  match s.slotOfBridge b with
  | none => s
  | some p =>
    if s.rdb fPRT_SLOTCTL_OVR p || (on && bitOf (s.bridge b).status 1) then s else s.slotPower p on

/-- POWER_CONTROLLER_ON (R142). -/
def execPowerControllerOn (vcs vppb : Nat) (s : State) : Host.Outcome State Fault Refusal :=
  onUnit (isBridge vcs vppb && decide (0 < vppb)) (s.hostPower (32 * vcs + vppb) true)

/-- POWER_CONTROLLER_OFF (R142). -/
def execPowerControllerOff (vcs vppb : Nat) (s : State) : Host.Outcome State Fault Refusal :=
  onUnit (isBridge vcs vppb && decide (0 < vppb)) (s.hostPower (32 * vcs + vppb) false)

/-- INDICATOR_WRITE: a host writes the indicator controls; 0 leaves one as it is (R142). -/
def execIndicatorWrite (vcs vppb attn pwri : Nat) (s : State) : Host.Outcome State Fault Refusal :=
  let b := 32 * vcs + vppb
  onUnit (isBridge vcs vppb && decide (0 < vppb ∧ attn < 4 ∧ pwri < 4))
    ((s.bridgeMod b fun x => { x with attn := if attn = 0 then x.attn else attn,
                                      pwri := if pwri = 0 then x.pwri else pwri }).bridgeEvent b 4)

/-- POWER_FAULT_CLEAR: the host clears Power Fault Detected (R426). -/
def execPowerFaultClear (vcs vppb : Nat) (s : State) : Host.Outcome State Fault Refusal :=
  let b := 32 * vcs + vppb
  let t := s.bridgeMod b fun x => { x with status := putBit x.status 1 false }
  onUnit (isBridge vcs vppb && decide (0 < vppb))
    (match t.slotOfBridge b with
    | none => t
    | some p =>
      match t.portSlot p with
      | some j => if s.rd fPRT_SLOTCFG_PCTL p = 1 then t.faultClear j else t
      | none => t)

/-- The indicator controls that drive the slot of port `p` (R142, R143), attention then power: the manager's while it overrides or
no bridge is bound, else the host's. -/
def State.indicators (s : State) (p : Nat) : Nat × Nat :=
  let mgr := (s.rd fPRT_SLOTCTL_ATTN p, s.rd fPRT_SLOTCTL_PWRI p)
  match s.bound p with
  | [] => mgr
  | b :: _ => if s.rdb fPRT_SLOTCTL_OVR p then mgr else ((s.bridge b).attn, (s.bridge b).pwri)

/-- PRT_SLOTCTL_WRITE (R143): a change of what holds is a request, and a power-on while a fault stands is not acted on. -/
def execPrtSlotctlWrite (p val : Nat) (s : State) : Host.Outcome State Fault Refusal :=
  let fs := fieldsAt fPRT_SLOTCTL_OVR.addr
  let t := s.takeWord fs p val
  onUnit (isPort p && decide (val < 2 ^ 32))
    (s.onTile (tileOfPort p)
    (t.powerTurn p (s.slotIsOff p)))

/-! ### ASPM (R144, R145) -/

/-- A coherence transaction or snoop that involves the agent on port `p` is open (R144). -/
def State.agentBusy (s : State) (p : Nat) : Bool :=
  s.wm.txns.any fun e => match e.2 with
    | some t => bitOf t.snoops p || t.q == some p
    | none => false

/-- ASPM L1 is enabled in the Link Control that governs the link of port `p`: its own, or that of the bridge it is bound to
(R144). -/
def State.aspmOn (s : State) (p : Nat) : Bool :=
  if s.rdb fPRT_PORTCFG_ROLE p then (s.portS p).aspm else (s.bound p).any fun b => (s.bridge b).aspm

/-- L1_ENTRY: a port that has carried no traffic for `idle` µs, its IDLE period at least, enters L1, in Economy with the substate `sub`
(R144, R145). -/
def execL1Entry (p idle sub : Nat) (s : State) : Host.Outcome State Fault Refusal :=
  let eco := s.rd fARCH_PROFILE_ACTIVE 0 == 4
  let on := s.aspmOn p || eco || (s.downstream p && (s.bound p).isEmpty && s.rdb fPRT_ASPM_FORCE p)
  onUnit (isPort p && decide (sub < 3))
    (if s.rd fPRT_PORTSTAT_LTSSM p = 4 && on && decide (s.rd fPRT_ASPM_IDLE p ≤ idle)
        && !s.swc.owed.any (fun o => o.x == p || o.m.entered == p) && !s.agentBusy p
        && !s.holdsAny p then
      let s := s.each (s.portLanes p) State.adaptKeep
      (s.wr fPRT_PORTSTAT_LTSSM p 5).wr fPRT_PORTSTAT_L1SUB p (if eco then sub else 0)
    else s)

/-- L1_EXIT: traffic for the port starts the exit, by Recovery (R144). -/
def execL1Exit (p : Nat) (s : State) : Host.Outcome State Fault Refusal :=
  onUnit (isPort p)
    (if s.rd fPRT_PORTSTAT_LTSSM p = 5 then (s.wr fPRT_PORTSTAT_LTSSM p 3).wr fPRT_PORTSTAT_L1SUB p 0 else s)

/-- CLKREQ_PARTNER_ASSERT: the partner pulls CLKREQ_N low, and the port leaves the substate (R145). -/
def execClkreqPartnerAssert (p : Nat) (s : State) : Host.Outcome State Fault Refusal :=
  onUnit (isPort p) (s.wr fPRT_PORTSTAT_L1SUB p 0)

end Sys2Proof.Machine
end

