-- ==== Sys2Proof/Machine/Arch.lean ====
section
/-! DEFINITION. The profile and its change (R27 to R33), and Culvert bundles (R23 to R25). -/

namespace Sys2Proof.Machine

/-! ### Profiles (R27, R28) -/

/-- Banks of the snoop filter in profile `p`, bit n for bank n (R27, R28). -/
def filterBanks (p : Nat) : Nat := if p = 1 then 0x7C else if p = 2 then 0x60 else 0x78

/-- Reservoir cells of profile `p` (R28). -/
def profCells (p : Nat) : Nat := 2 * halfCells p

/-- The hold window of profile `p` in ns (R28). -/
def holdWindow (p : Nat) : Nat := if p = 1 then 512 else if p = 2 then 128 else 256

/-- The core clock of profile `p` in MHz (R28). -/
def profMhz (p : Nat) : Nat := if p = 4 then 900 else 1250

/-- The parameters of profile `p` loaded: banks, clock, hold window, cells, rotations and reserve (R28, R32). -/
def State.loadProfile (s : State) (p : Nat) : State :=
  let sf := (setBits 7 (filterBanks p)).length
  let s := ((s.wr fARCH_PROFILE_ACTIVE 0 p).wr fARCH_BANKMAP_FILTER 0 (filterBanks p)).wr fARCH_BANKMAP_RSVBANKS 0 (7 - sf)
  let s := ((s.wr fARCH_BANKMAP_SFBANKS 0 sf).wr fARCH_BANKMAP_WAYS 0 (4 * sf)).wr fARCH_CORECLK_MHZ 0 (profMhz p)
  let s := (s.wr fWM_HOLD_NS 0 (holdWindow p)).wr fRSV_FREE_FREE 0 (profCells p - s.swc.lost)
  let s := s.wr fRSV_MINFREE_MINFREE 0 (min (profCells p) (s.rd fRSV_MINFREE_MINFREE 0))
  ((s.each (List.range 72) State.rotUpdate).resvUpdate).globalUpdate

/-- Every credit return and Runnel engine held or released, as what asks for it now says (R32, R398). -/
def State.holdNow (s : State) : State :=
  let s := s.wrb fRSV_STAT_PHOLD 0 s.holdWanted
  s.retCredits.drainAll.pauseAll

/-- PHASE of the change set (R32). -/
def State.phase (s : State) (v : Nat) : State := s.wr fARCH_APPSTAT_PHASE 0 v

/-- PHASE of the change. -/
def State.phaseNow (s : State) : Nat := s.rd fARCH_APPSTAT_PHASE 0

/-- The change ends with `res` as LASTRES, and what it held is released (R33). -/
def State.profileEnd (s : State) (res : Nat) : State :=
  (((s.phase 0).wrb fARCH_PROFILE_BUSY 0 false).wr fARCH_PROFILE_LASTRES 0 res).holdNow

/-- The combination of R34 that a change to profile `p` would complete, recorded as a refusal. -/
def State.profileConflict (s : State) (p : Nat) : Option (Nat × Nat × Nat) :=
  let t := s.wr fARCH_PROFILE_ACTIVE 0 p
  let turned := (List.range 64).filter fun x => (s.mirrorOf x).isSome && t.rotOn x
  if halfCells p < reservations (s.rd fRSV_RSPRES_TOTAL 0) p (s.quotasBut 8) then some (4, p, 0)
  else if 256 < t.claims then some (3, ceilDiv t.claims 4, 0)
  else match turned with
    | x :: _ => some (6, x, (s.mirrorOf x).getD 0)
    | [] => none

/-- PROFILE_APPLY: ARCH_PROFILE is written with APPLY (R32, R33). -/
def execProfileApply (val : Nat) (s : State) : Host.Outcome State Fault Refusal :=
  let fs := fieldsAt fARCH_PROFILE_SEL.addr
  let t := s.setRW fs 0 val
  let p := t.rd fARCH_PROFILE_SEL 0
  onUnit (decide (val < 2 ^ 32))
    (if s.discards fs 0 val ∨ s.rdb fARCH_PROFILE_BUSY 0 then s
    else if ¬ bitOf val 8 then t
    else if p = s.rd fARCH_PROFILE_ACTIVE 0 then t.wr fARCH_PROFILE_LASTRES 0 1
    else match s.profileConflict p with
      | some (c, a, b) => s.conflict c a b
      | none => ((t.phase 1).wrb fARCH_PROFILE_BUSY 0 true).holdNow.ageAll)

/-- PROFILE_CLOSED: credit returns are held and engines paused (R32). -/
def execProfileClosed (s : State) : Host.Outcome State Fault Refusal :=
  .next (if s.phaseNow = 1 then s.phase 2 else s)

/-- The bank map changes between ACTIVE and SEL (R32). -/
def State.mapChanges (s : State) : Bool :=
  filterBanks (s.rd fARCH_PROFILE_ACTIVE 0) != filterBanks (s.rd fARCH_PROFILE_SEL 0)

/-- PROFILE_DRAINED: the Reservoir is empty; every line is recalled where the bank map changes (R32). -/
def execProfileDrained (s : State) : Host.Outcome State Fault Refusal :=
  .next (if s.phaseNow = 2 ∧ s.swc.msgs.isEmpty ∧ s.wm.cells.isEmpty then
      (if s.mapChanges then (s.phase 3).recallWhere s.activeTable fun _ => true else s.phase 5)
    else s)

/-- PROFILE_RECALL_DONE: the sweep has come round; entries that a transaction held are recalled now, and the recall ends once none is
left (R32). -/
def execProfileRecallDone (s : State) : Host.Outcome State Fault Refusal :=
  let t := s.recallWhere s.activeTable fun _ => true
  .next (if s.phaseNow ≠ 3 then s else if t.wm.ways.isEmpty ∧ t.wm.txns.isEmpty then t.phase 4 else t)

/-- PROFILE_INIT_DONE: banks that change user are cleared (R32). -/
def execProfileInitDone (s : State) : Host.Outcome State Fault Refusal :=
  .next (if s.phaseNow = 4 then s.phase 5 else s)

/-- Every way has changed its place: the suspect sets and the retired ways are cleared (R257). -/
def State.tablesClear (s : State) : State :=
  let s := s.each (List.range 16) State.clearSuspect
  let s := s.each [fSNF_RET_SET, fSNF_RET_WAY, fSNF_RET_VALID, fSNF_SLICE_RETIRED] State.clr
  s.wmMod fun w => { w with corrected := [], retiring := [] }

/-- PROFILE_SWITCHED: the core clock is locked and the parameters are loaded (R32). -/
def execProfileSwitched (s : State) : Host.Outcome State Fault Refusal :=
  .next (if s.phaseNow = 5 then ((s.when_ s.mapChanges State.tablesClear).loadProfile (s.rd fARCH_PROFILE_SEL 0)).profileEnd 1 else s)

/-- The change goes to ROLLBACK (R32). -/
def State.rollback (s : State) (byReaction : Bool) : State := { s.phase 6 with arch := { byReaction := byReaction } }

/-- A reaction that fences tile C meets a change (R32). -/
def State.profileFenced (s : State) : State := if s.phaseNow = 0 ∨ s.phaseNow = 6 then s else s.rollback true

/-- PROFILE_CHANGE_TIMEOUT: 1 s since APPLY in CLOSE to INIT (R32). -/
def execProfileChangeTimeout (s : State) : Host.Outcome State Fault Refusal :=
  .next (if 1 ≤ s.phaseNow ∧ s.phaseNow ≤ 4 then s.rollback false else s)

/-- PROFILE_ROLLBACK_DONE: the old bank map, clock and parameters stand, and the filter is empty (R32, R33).  What is still open at a slice
is dropped without a completion (log entry 63). -/
def execProfileRollbackDone (s : State) : Host.Outcome State Fault Refusal :=
  .next (if s.phaseNow = 6 then
      ((s.giveCells s.keptCells).wmMod fun w => { w with ways := [], txns := [], parked := [], rowWait := [], retiring := [], corrected := [] }).profileEnd (if s.arch.byReaction then 3 else 2)
    else s)

/-- A warm reset abandons a change in progress (R70). -/
def State.profileAbandon (s : State) (byReaction : Bool) : State :=
  if s.phaseNow = 0 then s
  else
    ((s.phase 0).wrb fARCH_PROFILE_BUSY 0 false).wr fARCH_PROFILE_LASTRES 0 (if byReaction then 3 else 2)

/-! ### Culvert bundles (R25) -/

/-- Spares of bundle `b` of the Culvert of tile `n`; 3 where it is retired. -/
def State.spares (s : State) (n b : Nat) : Nat := bitsOf (s.rd fARCH_CULV_SP_SPARE n) (2 * b) 2

/-- Spares of bundle `b` set. -/
def State.setSpares (s : State) (n b v : Nat) : State :=
  s.wr fARCH_CULV_SP_SPARE n (s.rd fARCH_CULV_SP_SPARE n - s.spares n b * 4 ^ b + v * 4 ^ b)

/-- CULVERT_BEAT_CRC_FAIL: a beat is retried (R25). -/
def execCulvertBeatCrcFail (tile : Nat) (s : State) : Host.Outcome State Fault Refusal :=
  onUnit (isTile tile) (s.inc fARCH_CULV_ERR_RETRY tile)

/-- CULVERT_WIRE_SPARE: a spare takes a wire's place, where the bundle has one left (R25). -/
def execCulvertWireSpare (tile bundle : Nat) (s : State) : Host.Outcome State Fault Refusal :=
  onUnit (isTile tile && decide (bundle < 16))
    (if s.spares tile bundle < 2 then s.setSpares tile bundle (s.spares tile bundle + 1) else s)

/-- CULVERT_BUNDLE_RETIRE: a bundle is retired; the fourth of a Culvert leaves it below full rate (R25). -/
def execCulvertBundleRetire (tile bundle : Nat) (s : State) : Host.Outcome State Fault Refusal :=
  let n := s.rd fARCH_CULV_ERR_RETIRED tile + 1
  let t := ((s.setSpares tile bundle 3).wr fARCH_CULV_ERR_RETIRED tile n).pulse (0x16C + tile)
  onUnit (isTile tile && decide (bundle < 16))
    (if s.spares tile bundle = 3 then s else if n = 4 then t.pulse (0x170 + tile) else t)

end Sys2Proof.Machine
end

