-- ==== Sys2Proof/Machine/Reset.lean ====
section
/-! DEFINITION. The reset tree (R69, R70): what cold, warm and tile resets make of the block, and what several commands of
start-up share. -/

namespace Sys2Proof.Machine

/-! ### Cold reset (R11, R69) -/

/-- Fields that hold fuses, reloaded by a cold reset (R69, R487). -/
def fuseFields : List Fld :=
  [fBOOT_ID_PARTCODE, fBOOT_ID_STEPPING, fBOOT_ID_WAFER, fBOOT_LOT_LOT, fBOOT_DIE_POS, fBOOT_SERIAL_SERIAL, fBOOT_SVNF_SVNBITS,
   fBOOT_LCF_RETIRED, fBOOT_LCF_REVOKE, fBOOT_LCF_DBGREV, fBOOT_KEYH_HASH]

/-- What a cold reset keeps of the registers: fuses, and what sensors and monitors measure at every time (R500, R81). -/
def keptFields : List Fld :=
  fuseFields ++ [fPWR_TEMP_TEMP, fPWR_TEMP_SENSOR, fPWR_RAILSTAT_LEVEL, fPWR_THERM_TRIPPED]

/-- The junction temperature in quarters of a degree (R503). -/
def State.junction (s : State) : Int := toInt 11 (s.rd fPWR_TEMP_TEMP 0)

/-- A trip that holds is released by a cold reset that begins below 100 °C (R502). -/
def State.thermCool (s : State) : State :=
  if s.pwr.thermLow ∧ s.junction < 400 then
    (s.pwrMod fun p => { p with thermLow := false }).wrb fPWR_THERM_TRIPPED 0 false
  else s

/-- An access of the TAP in flight when a reset empties the core ends in error (R485). -/
def State.tapDrop (s : State) : State :=
  if s.tap.busy then { s with tap := { s.tap with busy := false, sysacc := s.tap.sysacc % 2 ^ 98 + 3 * 2 ^ 98 } } else s

/-- The defaults of R510 that stepping A0 has in place of those of B0 (R2): MAXRATE 5 and LEAT_CTL.RATE 1. -/
def State.steppingDefaults (s : State) : State :=
  if s.a0 then
    (s.each (List.range 64) fun s p => s.wr fPRT_PORTCFG_MAXRATE p 5).each (List.range 8) fun s k => s.wr fLEAT_CTL_RATE k 1
  else s

/-- A cold reset begins (R11, R69): everything is as after reset but the fuses, the flashes, the TAP (R484), what is measured,
and what is outside the block; the Sluice gates are actively discharged where VDD_AUX stands (R49, R50). -/
def State.coldReset (s : State) (discharge : Bool) : State :=
  let z : State := { State.reset with
    pending := s.pending
    out := s.out
    free := s.free
    colds := s.colds + 1
    tap := if s.pwr.aux then s.tapDrop.tap else {}
    regs := SMap.keep s.regs fun k _ => (keptFields.map Fld.key).contains k
    boot := { flashA := s.boot.flashA, flashB := s.boot.flashB }
    pwr := { aux := s.pwr.aux, discharge := discharge, perst := s.pwr.perst, thermLow := s.pwr.thermLow, ns := s.pwr.ns,
             start := s.pwr.ns } }
  ((z.wr fBOOT_STAT_LC 0 (if z.rdb fBOOT_LCF_RETIRED 0 then 2 else 0)).steppingDefaults).thermCool

/-! ### Warm reset (R69, R70) -/

/-- Every top-down cycle still pending is wasted (R436, R447). -/
def State.tdWaste (s : State) : State :=
  s.each (List.range 61) fun s u => (s.flmAdd (8193 + 4 * u) (s.rd fFLM_TDPEND_PEND u)).wr fFLM_TDPEND_PEND u 0

/-- The Reservoir, every queue and the Weir's lists emptied (R206, R344). -/
def State.coreEmpty (s : State) : State :=
  let s := s.swcMod fun w =>
    { w with msgs := [], queues := [], sending := [], withheld := [], owed := [], asked := [], above := [],
             mirCells := [], waiting := [] }
  let s := s.weirMod fun w => { w with lackC := [], lackP := [], lackQ := [], held := [], fin := [], virt := [], head := [] }
  let s := s.each [fRSV_INOCC_OCC, fRSV_INOCC_HELD, fRSV_EQOCC_OCC, fRSV_EQOCC_RESUSED, fRSV_STAT_GHOLD,
    fRSV_STAT_RSPUSED, fRSV_HOLD_HELD, fWEIR_HELD_LISTS, fWEIR_THELD_HELD] State.clr
  let n := s.rd fRSV_CELLS_CELLS 0 - s.swc.lost
  (s.wr fRSV_FREE_FREE 0 n).wr fRSV_MINFREE_MINFREE 0 n

/-- Counts, statistics and the trace memory of the Acequia cleared (R387); ACQ_ERR.WEDGE and ACQ_DOMSTAT.DRAINTO are sticky and
stay (R11). -/
def State.acqClear (s : State) : State :=
  let s := s.each [fACQ_ERR_ECCCOR, fACQ_ERR_HDRERR, fACQ_ERR_PAYUNC, fACQ_DOMSTAT_OFFREQ,
    fACQ_DOMSTAT_ORPHAN, fACQ_PRB_PKTS, fACQ_PRB_FLITS, fACQ_PRB_WPTR, fACQ_PRB_FULL, fACQ_TRACE_DATA] State.clr
  { s with acq := {} }

/-- The write of an O line's data that goes out before a warm reset, with the egress it leaves by: to its pool device, or at a proxy to its home (R230,
R235). -/
def State.backTo (s : State) (l : Nat) (d : Nat × Bool) : Option (Nat × Msg) × State :=
  if s.proxy l then
    let m := s.homeMsg l .wmReqData 0x07 2 (some d) 0 0
    (((s.linkFor m).filter fun k => s.lkActive k).map fun k => (64 + k, m), s)
  else
    let (m, s) := s.poolCheck l (some d) 0
    (m.map fun m => (m.dest, m), s)

/-- The data of an O line written back before a warm reset (R235); where it cannot be, the write has failed (R228) and the cell goes with the
Reservoir. -/
def State.cellBack (s : State) (l : Nat) (c : Option OCell) : State :=
  match c with
  | none => s
  | some c =>
    match s.backTo l (c.data, c.poison) with
    | (some (x, m), s) => (s.wmMod fun w => { w with cells := SMap.erase w.cells l }).send (.depart x m)
    | (none, s) => s.writeLost l 127 false

/-- Dumps in progress are abandoned with their headers unwritten (R447). -/
def State.dumpsAbandon (s : State) : State :=
  let s := if s.flm.dump0.isSome then s.wr fFLM_STAT_LASTRES0 0 3 else s
  let s := if s.flm.dump1.isSome then s.wr fFLM_STAT_LASTRES1 0 3 else s
  (s.flmMod fun f => { f with dump0 := none, dump1 := none, bank0 := none, bank1 := none, waits := [] }).wr fFLM_STAT_BANKBUSY 0 0

/-- Held reactions end, and the Spillway disarms (R412).  A source latched with neither rail good stays LATCHED (R391).  What each
sticky source held is kept for ALERT_N, which a warm reset leaves unchanged (R49). -/
def State.disarm (s : State) : State :=
  let kept := if s.rdb fSPW_CTL_ARMED 0 then s.stickies.map fun n => (n, SMap.get 0 s.spw.held n) else s.spw.kept
  let s := (s.spwMod fun w => { w with held := [], test := [], flapLatched := [], kept := kept }).wrb fSPW_CTL_ARMED 0 false
  let s := s.each (s.listed fSPW_RCT_STATE) fun s src =>
    if s.spw.wireLatched.contains src then s else s.wr fSPW_RCT_STATE src 0
  let s := s.wmMod fun w => { w with refused := [] }
  let s := s.each (List.range 64) fun s p => s.portMod p fun x => { x with iso := false }
  let s := s.each (List.range 8) fun s k => s.lkMod k fun l => { l with iso := false }
  s.each (setBits 84 s.pwr.fence) State.domUnfence

/-- Both ZL-25 modes off (R4): Precedence mode, and the software-clear mode, whose leaving moves the sources that are latched only
because of it into SETTLING (R405). -/
def State.modesOff (s : State) : State :=
  let latched := (s.listed fSPW_RCT_STATE).filter fun n =>
    s.rd fSPW_RCT_STATE n == 3 && !s.bit fSPW_RAW_RAW n && !s.spw.flapLatched.contains n && !s.spw.wireLatched.contains n
      && !s.rdb fSPW_RCT_NOREC n
  let s := s.wrb fCHK_CTL_PRECED 0 false
  if s.rdb fSPW_CTL_ZL25 0 then (s.wrb fSPW_CTL_ZL25 0 false).each latched fun s n => s.wr fSPW_RCT_STATE n 2 else s

/-- What a warm or tile reset that covers port `p` does to it: its link goes down, which is no planned loss of R127, an upstream
port's functions are reset with the indicator pins as they are (R50), and PERST_OUT_N is low (R49, R69, R73).  A disabled port stays
as it is. -/
def State.portCovered (s : State) (p : Nat) : State :=
  let s := if ¬ s.enabled p then s
    else if s.rdb fPRT_PORTCFG_ROLE p then s.portReset p 0 false true
    else (s.setBit fPWR_PERSTOUT_RELEASED p false).dlDown p 0 false
  s.portMod p fun x => { x with hot := false }

/-- Non-sticky registers of a lane that its reset covers (R69): what its equalization has found, its errors and its tests; STAGE is
with its link or port. -/
def laneResetFields : List Fld := fSER_LCTL_LOOP :: laneFields.filter fun f => !f.stk && f != fSER_LSTAT_STAGE

/-- The lanes `l` that `p` holds of are reset (R69): tests, loops and eye scans end, and only sticky fields keep their values. -/
def State.lanesReset (s : State) (p : Nat → Bool) : State :=
  let s := s.each laneResetFields fun s f => s.clrWhere f p
  { s with lanes := s.lanes.keep fun l _ => !p l }

/-- Counts and error bits outside the always-on domain and the Flume that are not sticky, and that a warm reset clears (R10, R69, log
entry 12); those of the core are with the core's chapters. -/
def warmCounts : List Fld :=
  [fARCH_CULV_ERR_RETRY, fPRT_SLOTSTAT_BTN, fPRT_SLOTSTAT_PDCHG, fPRT_ERR_LINKDOWN, fPRT_ERR_LOSTPOST, fPRT_ERR_CFGREJ,
   fLEAT_ERR_CRCERR, fLEAT_ERR_REPLAYTO, fLEAT_ERR_DUP, fLEAT_ERR2_SPARESW, fLEAT_ERR2_RETRAINS, fLEAT_ERR2_BADACK,
   fLEAT_ERR2_MISROUTE, fLEAT_ERR2_PROTO, fSWC_ERR_ECCCOR, fSWC_ERR_ECCUNC, fSWC_ERR2_NOROUTE, fSWC_ERR2_TRUNC,
   fRSV_TELSTAT_CROSSED, fRSV_TELCNT_COUNT, fTRN_AGECNT_AGECNT, fTRN_ERR_NOGRP, fTRN_MIR_DROPS, fWM_ERR_SNPTO, fWM_ERR_STALEWB,
   fWM_ERR_PROTO, fWM_ERR_RSVFULL, fWM_ERR_RSVEXP, fWM_ERR2_OLOST, fWM_ERR2_PWFAIL, fWM_SLICE_NAKS, fWM_SLICE_MAXOPEN, fSNF_ERR_COR,
   fSNF_ERR_UNC, fSNF_ERR_INVAR, fSNF_SLICE_EVICTS, fSNF_SLICE_PINNAK, fSNF_SLICE_BCAST, fXLT_ERR_DENY, fXLT_ERR_SPANERR,
   fXLT_ERR_ECCCOR, fCHK_ERR_DENY, fCHK_ERR_ECCCOR, fCHK_GATE_DENIES, fRUN_ERR_WTO, fRUN_ERR_BADDESC, fRUN_ERR_FETCHERR,
   fVF_RING_DBERR, fVF_RING_CFGREJ, fWEIR_HELD_MAXLISTS, fWEIR_ERR_HOLWAIT, fWEIR_ERR_ECCCOR, fVF_MB_DBERR, fTEN_RECOV_COUNT,
   fTEN_ERR_MBTO, fTEN_ERR_STALE, fTEN_ERR_DBERR, fTEN_LOGSTAT_OVF, fTEN_LOGSTAT_LERR, fTND_SEG_RXERR, fTND_SEG_FRAMES,
   fTND_ERR_TIMEOUT, fTND_ERR_BADFRAME, fTND_ERR_DUP]

/-- Those of them that belong to port `p`, a link or a lane apart (R69). -/
def portCounts : List Fld :=
  [fPRT_SLOTSTAT_BTN, fPRT_SLOTSTAT_PDCHG, fPRT_ERR_LINKDOWN, fPRT_ERR_LOSTPOST, fPRT_ERR_CFGREJ, fCHK_GATE_DENIES]

/-- Those of a link. -/
def linkCounts : List Fld :=
  [fLEAT_ERR_CRCERR, fLEAT_ERR_REPLAYTO, fLEAT_ERR_DUP, fLEAT_ERR2_SPARESW, fLEAT_ERR2_RETRAINS, fLEAT_ERR2_BADACK,
   fLEAT_ERR2_MISROUTE, fLEAT_ERR2_PROTO]

/-- No slot has its wave behind it (R76, R80): slots without power wait for the waves of the new timeline. -/
def State.slotsUnwave (s : State) : State := { s with slots := SMap.mapAll {} s.slots fun _ x => { x with waved := false } }

/-- A warm reset with `cause` (1 pin, 2 register, 3 dictionary, 4 reaction; R69, R81).  A request while a warm or cold reset runs
is absorbed (R70). -/
def State.warmNow (s : State) (cause : Nat) : State :=
  let s := s.when_ (cause == 2 || cause == 3) fun s => s.each s.wm.cells fun s e => s.cellBack e.1 e.2
  let s := ((s.each warmCounts State.clr).profileAbandon (cause == 4)).tdWaste
  let s : State := s.when_ s.wm.loading.isSome fun s =>
    (((s.wmMod fun w => { w with loading := none }).wr fWM_TTSTAT_RESULT 0 10).wr fWM_TTSTAT_ROW 0 0).pwrMod fun p => { p with aborted := true }
  let s := ((((s.coreEmpty.runWarm).tenWarm).xltReset).chkReset).wmReset false
  let s := (s.acqClear).dumpsAbandon
  let s := s.pwrMod fun p => { p with warm := true, warmDue := 0, tiles := 0, culvert := 0, waved := 0, own := 0, oper := false, late := 0 }
  let s := s.each (List.range 64) State.portCovered
  let s := (s.each (List.range 8) fun s k => (s.linkHalt k).lkMod k fun l => { l with waveDone := false }).lanesReset fun _ => true
  let s := (s.disarm.modesOff).spwMod fun w => { w with maskTiles := 0 }
  let s := (s.coreEmpty.wmReset false).tndMod fun t =>
    { t with xfers := [], exec := none, queue := [], bcast := [], restarting := false, limited := false }
  let s := s.tapDrop.when_ (s.rd fBOOT_STAT_LC 0 == 1) fun s => s.lifecycle 0 true
  let s := ((s.wr fTND_STAT_DEVSTATE 0 0).wr fPWR_START_WAVE 0 15).wr fSER_GSTAT_CALDONE 0 0
  let s := ((s.wr fPWR_START_PHASE 0 0).wr fRSV_STAT_PHOLD 0 0).slotsUnwave
  (s.wr fPWR_RSTCAUSE_LAST 0 cause).inc fPWR_RSTCAUSE_WARMCNT 0

/-- Checkpoints are enabled and records exist beyond CKSEQ (R464). -/
def State.ckWanted (s : State) : Bool := s.rdb fWLG_CTL_MIRROR 0 && decide (s.ckSeq + 1 < s.headSeq)

/-- A checkpoint starts; one asked for while one runs follows it (R464). -/
def State.ckStart (s : State) : State :=
  match s.tnd.ckpt with
  | some _ => s.tndMod fun t => { t with ckAgain := true }
  | none =>
    let c : Ckpt := { flash := s.tnd.ckFlash, upto := s.headSeq - 1 }
    (s.tndMod fun t => { t with ckpt := some c, ckFlash := 1 - t.ckFlash, ckAgain := false }).wrb fWLG_CKSTAT_BUSY 0 true

/-- A warm reset is asked for (R69, R70): absorbed while one runs, and with one asked for by register or command a checkpoint is
written first where records wait for one (R464). -/
def State.warmReset (s : State) (cause : Nat) : State :=
  if s.pwr.coldHold ∨ s.pwr.warm ∨ s.pwr.strap.running ∨ (s.pwr.warmDue ≠ 0 ∧ (cause = 2 ∨ cause = 3)) then s
  else if (cause = 2 ∨ cause = 3) ∧ s.ckWanted then
    (s.pwrMod fun p => { p with warmDue := cause + 1 }).ckStart
  else s.warmNow cause

/-! ### Tile reset (R69, R70) -/

/-- A tile reset of Headworks tile `t` begins (R69): absorbed while a reset of equal or larger scope covers the tile (R70). -/
def State.tileReset (s : State) (t : Nat) : State :=
  if s.pwr.coldHold ∨ s.pwr.warm ∨ bitOf s.pwr.tiles t then s
  else
    let s := s.pwrMod fun p =>
      { p with tiles := putBit p.tiles t true, culvert := putBit p.culvert t true,
               own := if s.rd fPWR_START_WAVE 0 = 15 then p.own else putBit p.own t true,
               waved := clearBits p.waved (65535 * 65536 ^ t), late := clearBits p.late (65535 * 65536 ^ t) }
    let s := (s.each portCounts fun s f => s.clrWhere f fun i => i / 16 == t).each linkCounts fun s f => s.clrWhere f fun i => i / 2 == t
    let s := ((s.clr1 fARCH_CULV_ERR_RETRY t).putb fPWR_RSTCAUSE_TILE 0 t true).modesOff
    let s := (s.each ((List.range 16).map fun i => 16 * t + i) State.portCovered).xltReset
    let s := s.gatesDrained ((List.range 16).map fun i => 16 * t + i)
    let s := s.each [2 * t, 2 * t + 1] fun s k => (s.linkHalt k).lkMod k fun l => { l with waveDone := false }
    let s := s.lanesReset fun l => laneTile l == t
    let s := s.spwMod fun w => { w with maskTiles := putBit w.maskTiles t true }
    s.flmMod fun f =>
      { f with cnt := SMap.keep f.cnt fun c _ => c < 8448 + 512 * t || 8960 + 512 * t ≤ c, tileRst := putBit f.tileRst t true }

end Sys2Proof.Machine
end

