-- ==== Sys2Proof/Machine/Flash.lean ====
section
/-! DEFINITION. The two SPI NOR flashes (R469, R470): bytes, program and erase; the boot-count areas, and the sequences of a
cold boot (R464). -/

namespace Sys2Proof.Machine

/-- The boot state changed by `f`. -/
def State.bootMod (s : State) (f : BootS → BootS) : State := { s with boot := f s.boot }

/-- Flash `f`: 0 A, 1 B. -/
def State.flash (s : State) (f : Nat) : SMap Nat := if f = 0 then s.boot.flashA else s.boot.flashB

/-- Flash `f` set. -/
def State.setFlash (s : State) (f : Nat) (m : SMap Nat) : State :=
  s.bootMod fun b => if f = 0 then { b with flashA := m } else { b with flashB := m }

/-- Byte `a` of a flash; an erased byte reads 0xFF. -/
def flashByte (m : SMap Nat) (a : Nat) : Nat := SMap.get 0xFF m a

/-- `n` bytes of a flash from `a` on. -/
def flashBytes (m : SMap Nat) (a n : Nat) : List Byte := (List.range n).map fun i => BitVec.ofNat 8 (flashByte m (a + i))

/-- The little-endian value of `n` bytes at `a`. -/
def flashLe (m : SMap Nat) (a n : Nat) : Nat := leBytes (flashBytes m a n)

/-- Bytes programmed from `a` on: NOR program clears bits and sets none. -/
def flashProgram (m : SMap Nat) (a : Nat) : List Byte → SMap Nat
  | [] => m
  | b :: bs => flashProgram (SMap.set 0xFF m a (flashByte m a &&& b.toNat)) (a + 1) bs

/-- `n` bytes from `a` on erased. -/
def flashErase (m : SMap Nat) (a n : Nat) : SMap Nat := SMap.keep m fun k _ => decide (k < a ∨ a + n ≤ k)

/-! ### The boot-count areas (R464, R470) -/

/-- The first byte of the boot-count area. -/
def countBase : Nat := 0x2010000

/-- The places of the boot-count area that are not erased. -/
def countUsed (m : SMap Nat) : List Nat :=
  ((m.filter fun e => decide (countBase ≤ e.1 ∧ e.1 < countBase + 65536)).map fun e => (e.1 - countBase) / 8).eraseDups

/-- The count at place `i`, where it and its complement agree. -/
def countAt (m : SMap Nat) (i : Nat) : Option Nat :=
  let w := flashLe m (countBase + 8 * i) 8
  if w / 2 ^ 32 = 2 ^ 32 - 1 - w % 2 ^ 32 then some (w % 2 ^ 32) else none

/-- The highest valid count of a flash, or 0. -/
def countBest (m : SMap Nat) : Nat := ((countUsed m).filterMap (countAt m)).foldl max 0

/-- The first erased place from `i` on, of `n` places. -/
def countFree (used : List Nat) : Nat → Nat → Option Nat
  | 0, _ => none
  | n + 1, i => if used.contains i then countFree used n (i + 1) else some i

/-- Count `n` programmed into the first erased place of flash `f`, where that can be done; `bad` tells that its program fails. -/
def State.countPut (s : State) (f n : Nat) (bad : Bool) : Option State :=
  let m := s.flash f
  match countFree (countUsed m) 8192 0 with
  | some i =>
    if bad then none
    else some (s.setFlash f (flashProgram m (countBase + 8 * i) (toLeBytes 4 n ++ toLeBytes 4 (2 ^ 32 - 1 - n % 2 ^ 32))))
  | none => none

/-- An area with fewer than 16 erased places that does not hold count `n` is erased (R464). -/
def State.countTidy (s : State) (f n : Nat) : State :=
  let m := s.flash f
  let used := countUsed m
  if 8176 < used.length ∧ ¬ (used.filterMap (countAt m)).contains n then s.setFlash f (flashErase m countBase 65536) else s

/-! ### The journal header (R464, R470) -/

/-- The last sequence of the checkpoint that flash `m` holds, where its header's CRC is good. -/
def ckptOf (m : SMap Nat) : Option Nat :=
  if flashLe m 0x2000208 4 = crc32 (flashBytes m 0x2000000 520) then some (flashLe m 0x2000000 8) else none

/-- The originator table as the journal header holds it (R470). -/
def State.origTable (s : State) : List Byte :=
  (List.range 64).flatMap fun n =>
    toLeBytes 4 (s.rd fTND_ORIG_L_MAC_L n) ++ toLeBytes 4 (s.rd fTND_ORIG_H_MAC_H n + 65536 * s.rd fTND_ORIG_H_VALID n)

/-- A checkpoint's records and header in flash (R464, R470). -/
def State.ckptWrite (s : State) (c : Ckpt) : State :=
  let q0 := max (s.ckSeq + 1) s.oldestSeq
  let recs := (List.range (c.upto + 1 - q0)).filterMap fun i => s.record (q0 + i)
  let m := recs.foldl (fun m r =>
    let a := 0x1000000 + 32 * (r.seq % ringSize)
    flashProgram (flashErase m a 32) a (recBytes r)) (s.flash c.flash)
  let h := toLeBytes 8 c.upto ++ s.origTable
  s.setFlash c.flash (flashProgram (flashErase m 0x2000000 65536) 0x2000000 (h ++ toLeBytes 4 (crc32 h)))

/-! ### The sequences of a cold boot (R464) -/

/-- The boot counted, and BOOTSEQ with its GAP record written; `bad` has bit 0 or 1 where flash A or B cannot be programmed.  Without `spi` neither flash is
accessed, and the boot counts as one of flashes that hold nothing and take nothing (R52; log entry 117). -/
def State.bootCount (s : State) (bad : Nat) (spi : Bool) : State :=
  let c := if spi then max ((ckptOf (s.flash 0)).getD 0) ((ckptOf (s.flash 1)).getD 0) else 0
  let ba := if spi then countBest (s.flash 0) else 0
  let bb := if spi then countBest (s.flash 1) else 0
  let n := max ba bb + 1
  let first := if ba = bb ∨ ba < bb then 0 else 1
  let (done, s) := match if spi then s.countPut first n (bitOf bad first) else none with
    | some t => (true, t)
    | none =>
      match if spi then s.countPut (1 - first) n (bitOf bad (1 - first)) else none with
      | some t => (true, t)
      | none => (false, s)
  let s := if spi then (s.countTidy 0 n).countTidy 1 n else s
  let q := (n - 1) * 2 ^ 48 + 1
  let s := (s.wr2 fWLG_BOOTSEQ_L fWLG_BOOTSEQ_H 0 q).wr2 fWLG_HEAD_L fWLG_HEAD_H 0 q
  s.journal { index := 0, sub := 0, orig := origTender, flags := 0x40, old := c % 2 ^ 32, new := if done then n % 2 ^ 32 else 0 }

end Sys2Proof.Machine
end

