-- ==== Sys2Proof/Machine/Pwr.lean ====
section
/-! DEFINITION. The commands of supplies, clocks, resets and start-up (R11, R48 to R81, R103), and of the junction
temperature (R500 to R503). -/

namespace Sys2Proof.Machine

/-! ### Cold reset and its end (R11, R48, R49, R53, R63) -/

/-- VDD_AUX_LOST: a cold reset with no active gate discharge (R11, R50). -/
def execVddAuxLost (s : State) : Host.Outcome State Fault Refusal :=
  let t := s.pwrMod fun p => { p with aux := false }
  .next (if s.pwr.aux then t.coldReset false else s)

/-- VDD_AUX_RESTORED: VDD_AUX is present again (R11). -/
def execVddAuxRestored (s : State) : Host.Outcome State Fault Refusal :=
  .next (s.pwrMod fun p => { p with aux := true })

/-- PWRGD_LOW: a filtered PWRGD low is a cold reset (R48). -/
def execPwrgdLow (s : State) : Host.Outcome State Fault Refusal :=
  .next (if s.pwr.pwrgd then s.coldReset s.pwr.aux else s)

/-- PWRGD_GLITCH: a PWRGD low pulse that causes no cold reset is counted once it has ended (R48). -/
def execPwrgdGlitch (s : State) : Host.Outcome State Fault Refusal :=
  .next (if s.pwr.pwrgd then s.inc fPKG_GLITCH_PWRGD 0 else s)

/-- GATE_DISCHARGE_END: the Sluice GATE pins go to high impedance (R49). -/
def execGateDischargeEnd (s : State) : Host.Outcome State Fault Refusal :=
  .next (s.pwrMod fun p => { p with discharge := false })

/-- LEVEL of rail `r` (R81). -/
def State.railLevel (s : State) (r : Nat) : Nat := bitsOf (s.rd fPWR_RAILSTAT_LEVEL 0) (2 * r) 2

/-- LEVEL of rail `r` set. -/
def State.setRail (s : State) (r v : Nat) : State :=
  s.wr fPWR_RAILSTAT_LEVEL 0 (s.rd fPWR_RAILSTAT_LEVEL 0 - s.railLevel r * 4 ^ r + v * 4 ^ r)

/-- The rails at LEVEL `v` or above. -/
def State.railsAt (s : State) (v : Nat) : List Nat := (List.range 6).filter fun r => decide (v ≤ s.railLevel r)

/-- The start point of a timeline (R75): every time of it counts from now. -/
def State.startPoint (s : State) : State := s.pwrMod fun p => { p with start := p.ns }

/-- PERST_N of port `p` as it stands is taken (R71): a fall resets an upstream port; the input of any other port is ignored (R51). -/
def State.perstSample (s : State) (p : Nat) : State :=
  let now := bitOf s.pwr.perst p
  let was := s.bit fPWR_PERSTIN_LEVEL p
  let t := s.setBit fPWR_PERSTIN_LEVEL p now
  if was && !now && s.upstream p then
    (t.pwrMod fun q => { q with late := putBit q.late p false }).portReset p 0 false
  else t

/-- A reset covers port `p`, so that its PERST_N is sampled once that reset is released (R71). -/
def State.underReset (s : State) (p : Nat) : Bool := s.pwr.coldHold || s.pwr.warm || bitOf s.pwr.tiles (tileOfPort p)

/-- Start-up proceeds (R63, R75), and every PERST_N is sampled (R72). -/
def State.startUp (s : State) : State :=
  ((s.pwrMod fun p => { p with coldHold := false }).startPoint).each (List.range 64) State.perstSample

/-- PWRGD_RISE: strap sampling starts, and the timeline unless a rail holds it (R53, R63); a device above 100 °C with its trip
latched stays in cold reset (R502).  `prog` are bytes, as flash, address and value, that a board programmer has written while
PWRGD was low (R469). -/
def execPwrgdRise (prog : List (Nat × Nat × Nat)) (s : State) : Host.Outcome State Fault Refusal :=
  let s' := s.each prog fun s e => s.setFlash e.1 (SMap.set 0xFF (s.flash e.1) e.2.1 (e.2.2 % 256))
  let t := (s'.thermCool).pwrMod fun p => { p with pwrgd := true }
  let u := t.pwrMod fun p => { p with strap := { running := true } }
  onUnit (prog.all fun e => decide (e.1 < 2 ∧ e.2.1 < 2 ^ 26))
    (if s.pwr.pwrgd ∨ ¬ s.pwr.aux then s
    else if t.pwr.thermLow then t
    else if (u.railsAt 2).isEmpty then u.startUp
    else u.each (u.railsAt 2) (fun s r => s.putb fPWR_RAILSTAT_FAULTSEEN 0 r true) |>.wrb fPWR_START_RAILHOLD 0 true)

/-- RAIL_HOLD_END: every rail has been inside its fault window for 1 ms (R63). -/
def execRailHoldEnd (s : State) : Host.Outcome State Fault Refusal :=
  .next (if s.rdb fPWR_START_RAILHOLD 0 ∧ (s.railsAt 2).isEmpty then (s.wrb fPWR_START_RAILHOLD 0 false).startUp else s)

/-! ### Straps (R53 to R55) -/

/-- The strap sampling changed by `f`. -/
def State.strapMod (s : State) (f : StrapS → StrapS) : State := s.pwrMod fun p => { p with strap := f p.strap }

/-- STRAP_TEST_SOURCE_ON: 20 µs after PWRGD (R53). -/
def execStrapTestSourceOn (s : State) : Host.Outcome State Fault Refusal :=
  .next (if s.pwr.strap.running ∧ s.pwr.strap.samples.isEmpty then s.strapMod fun x => { x with source := true } else s)

/-- STRAP_SAMPLE: sample A with the source on, B with the sink on, C with neither; each switches the current on (R53). -/
def execStrapSample (pins : Nat) (s : State) : Host.Outcome State Fault Refusal :=
  let x := s.pwr.strap
  let taken := s.strapMod fun x => { x with samples := x.samples ++ [pins], source := false, sink := x.source }
  onUnit (decide (pins < 2 ^ 15))
    (if ¬ x.running then s
    else match x.samples.length with
      | 0 => if x.source then taken else s
      | 1 => if x.sink then taken else s
      | 2 => taken
      | _ => s)

/-- Straps found floating: pins whose three samples are not equal (R54). -/
def strapFloat (a b c : Nat) : Nat := (a ^^^ c) ||| (b ^^^ c)

/-- PKG_STRAP and PKG_STRAPFLT written from the three samples (R52, R54, R55). -/
def State.strapsSet (s : State) (a b c : Nat) : State :=
  let fl := strapFloat a b c
  let v := clearBits c fl
  let s := ((s.wr fPKG_STRAP_BOOTSEL 0 (bitsOf v 0 2)).wr fPKG_STRAP_NODE_ID 0 (bitsOf v 2 4)).wr fPKG_STRAP_MGR_EN 0 (bitsOf v 6 1)
  let s := ((s.wr fPKG_STRAP_MGR_PORT 0 (bitsOf v 7 6)).wr fPKG_STRAP_TESTMODE 0 (bitsOf v 13 2)).wrb fPKG_STRAP_VALID 0 true
  let s := (s.wr fPKG_STRAPFLT_FLOAT 0 fl).wrb fPKG_STRAPFLT_ANY 0 (fl != 0)
  let s := s.pwrMod fun p =>
    { p with strap := {}, manufTest := bitsOf v 13 2 != 0 || bitsOf fl 13 2 != 0, silent := bitsOf fl 2 4 != 0 }
  s.wr fPWR_START_PHASE 0 1

/-- STRAP_RESOLVE: 120 µs after PWRGD (R54). -/
def execStrapResolve (s : State) : Host.Outcome State Fault Refusal :=
  .next (match s.pwr.strap.samples with
    | [a, b, c] => s.strapsSet a b c
    | _ => s)

/-! ### The first milliseconds (R75, R103) -/

/-- PLL_LOCK: the core runs at 0.9 GHz for boot, and fabric time starts (R75, R85). -/
def execPllLock (s : State) : Host.Outcome State Fault Refusal :=
  let t := ((s.pwrMod fun p => { p with pll := true }).ftMod fun f => { f with run := true }).wr fARCH_CORECLK_MHZ 0 900
  .next (if s.pwr.coldHold ∨ s.pwr.pll ∨ s.pwr.thermLow ∨ ¬ s.rdb fPKG_STRAP_VALID 0 then s else t.wr fPWR_START_PHASE 0 2)

/-- No slot has booted: the ROM firmware runs (R477, R488). -/
def State.noImage (s : State) : State := (s.wr fBOOT_STAT_SLOT 0 2).wr fBOOT_STAT_RUNFW 0 2

/-- SRAM_CLEAR_DONE: the SRAM is clear, and the Waterlog takes the sequences of this boot (R75, R464); `bad` has bit 0 or 1 where
flash A or B cannot be programmed.  A manufacturing test leaves the flashes alone (R52). -/
def execSramClearDone (bad : Nat) (s : State) : Host.Outcome State Fault Refusal :=
  let t := (s.pwrMod fun p => { p with sram := true }).bootMod fun b => { b with recovery := s.rd fPKG_STRAP_BOOTSEL 0 == 3 }
  onUnit (decide (bad < 4))
    (if ¬ s.pwr.pll ∨ s.pwr.sram then s
    else
      let t := (t.wr fPWR_START_PHASE 0 3).bootCount bad !s.pwr.manufTest
      if t.boot.recovery then ((t.noImage).wr fBOOT_STAT_CAUSEA 0 1).wr fBOOT_STAT_CAUSEB 0 1 else t)

/-- T1S_PHY_JOIN: the PHY of segment `seg` joins (R49, R75). -/
def execT1sPhyJoin (seg : Nat) (s : State) : Host.Outcome State Fault Refusal :=
  onUnit (decide (seg < 2)) (if s.pwr.coldHold then s else s.wrb fTND_SEG_JOINED seg true)

/-- Tables and calibration are done: the device waits in Standby (R75). -/
def State.tablesNow (s : State) : State :=
  if s.rd fPWR_START_PHASE 0 = 4 ∧ s.rd fSER_GSTAT_CALDONE 0 = 15 ∧ s.boot.stage2.isNone then s.wr fPWR_START_PHASE 0 5 else s

/-- CALIBRATION_DONE: termination calibration of a tile is complete (R103). -/
def execCalibrationDone (tile : Nat) (s : State) : Host.Outcome State Fault Refusal :=
  onUnit (isTile tile)
    (if s.pwr.coldHold ∨ s.pwr.warm then s else (s.putb fSER_GSTAT_CALDONE 0 tile true).tablesNow)

/-! ### Waves (R76 to R80) -/

/-- The ports `p` of `ps` with p mod 8 = `w` have reached their wave (R77). -/
def State.waveOf (s : State) (ps : List Nat) (w : Nat) : State :=
  s.pwrMod fun q => { q with waved := (ps.filter fun p => p % 8 == w).foldl (fun a p => putBit a p true) q.waved }

/-- A reaction holds that leaves an Operational device Degraded: DECOHERE, ISOLATE, FENCE or HOLD (R400). -/
def State.degraded (s : State) : Bool := s.spw.held.any fun e => e.2 == 4 || e.2 == 5 || e.2 == 6 || e.2 == 8

/-- The device may start its waves: the auto-start flag of an image whose stage 2 is applied, or an accepted command (R75, R78,
R476, R483). -/
def State.wavesWanted (s : State) : Bool :=
  (s.rdb fPWR_START_AUTOSTART 0 && s.rdb fBOOT_STAT_S2OK 0 && s.rd fBOOT_STAT_LC 0 != 2) || s.pwr.oper

/-- PORT_WAVE: wave `w` of the device, or of a tile after its reset (R77, R78, R80); wave 0 of the device enters Operational.  A tile
that was reset after the device's wave 0 follows a schedule of its own until the next warm or cold reset (log entry 116). -/
def execPortWave (w : Nat) (tile : Option Nat) (s : State) : Host.Outcome State Fault Refusal :=
  let last := s.rd fPWR_START_WAVE 0
  onUnit (decide (w < 8) && tile.all isTile)
    (match tile with
    | some t =>
      if s.pwr.warm ∨ bitOf s.pwr.tiles t ∨ ¬ bitOf s.pwr.own t then s
      else s.waveOf ((List.range 16).map fun i => 16 * t + i) w
    | none =>
      let u := ((s.waveOf ((List.range 64).filter fun p => !bitOf s.pwr.own (tileOfPort p)) w).wr fPWR_START_WAVE 0 w).wr fPWR_START_PHASE 0 6
      if w = 0 then
        (if s.dev = 1 ∧ ((s.rd fPWR_START_PHASE 0 = 5 ∧ s.wavesWanted) ∨ (5 < s.rd fPWR_START_PHASE 0 ∧ s.pwr.oper)) then
          (u.pwrMod fun p => { p with oper := false }).setDev (if s.degraded then 3 else 2)
        else s)
      else if s.rd fPWR_START_PHASE 0 = 6 ∧ last + 1 = w then u else s)

/-- LEAT_WAVE: every enabled link starts training, or those of a tile after its reset (R75, R80). -/
def execLeatWave (tile : Option Nat) (s : State) : Host.Outcome State Fault Refusal :=
  let go := fun (s : State) (ks : List Nat) => s.each ks fun s k => (s.lkMod k fun l => { l with waveDone := true }).linkTry k
  onUnit (tile.all isTile)
    (match tile with
    | some t =>
      if s.pwr.warm ∨ bitOf s.pwr.tiles t ∨ ¬ bitOf s.pwr.own t then s else go s [2 * t, 2 * t + 1]
    | none =>
      if s.rd fPWR_START_PHASE 0 = 6 ∧ s.rd fPWR_START_WAVE 0 = 7 then
        go ((s.wr fPWR_START_WAVE 0 8).wr fPWR_START_PHASE 0 7) ((List.range 8).filter fun k => !bitOf s.pwr.own (tileOfLink k))
      else s)

/-! ### Warm and tile resets (R69, R70, R80) -/

/-- WARM_RST_PIN: WARM_RST_N falls or rises (R69): a low pin extends a running warm reset (R70). -/
def execWarmRstPin (low : Bool) (s : State) : Host.Outcome State Fault Refusal :=
  let t := if s.pwr.warm then s else s.warmReset 1
  .next (if low then (if t.pwr.warm then t.pwrMod fun p => { p with warmPin := true } else t)
    else s.pwrMod fun p => { p with warmPin := false })

/-- The key of PWR_RSTREQ stands in `val`. -/
def rstKey (val : Nat) : Bool := bitsOf val 24 8 == 0x5A

/-- WARM_RESET_REQ: PWR_RSTREQ is written with WARM (R69). -/
def execWarmResetReq (val : Nat) (s : State) : Host.Outcome State Fault Refusal :=
  onUnit (decide (val < 2 ^ 32)) (if rstKey val ∧ bitOf val 0 then s.warmReset 2 else s)

/-- The tile resets that a write of `val` to PWR_RSTREQ asks for. -/
def State.tileReq (s : State) (val : Nat) : State :=
  if rstKey val then s.each (setBits 4 (val / 16)) State.tileReset else s

/-- TILE_RESET_REQ: PWR_RSTREQ is written with TILE (R69). -/
def execTileResetReq (val : Nat) (s : State) : Host.Outcome State Fault Refusal :=
  onUnit (decide (val < 2 ^ 32)) (s.tileReq val)

/-- The phase in which a warm reset's timeline restarts (DESIGN CHOICE, log entry 101): that of the clocks or of the SRAM clear
where these had not ended, that of the image where no image has been verified, else that of tables and calibration, since a warm
reset keeps what an image has set. -/
def State.warmPhase (s : State) : Nat :=
  if ¬ s.pwr.pll then 1 else if ¬ s.pwr.sram then 2 else if s.boot.booted then 4 else 3

/-- WARM_RESET_END: the hold has ended and the pin is high; the timeline restarts (R69, R80). -/
def execWarmResetEnd (s : State) : Host.Outcome State Fault Refusal :=
  let t := ((s.pwrMod fun p => { p with warm := false }).startPoint).wr fPWR_START_PHASE 0 s.warmPhase
  .next (if s.pwr.warm ∧ ¬ s.pwr.warmPin then t.each (List.range 64) State.perstSample else s)

/-- TILE_RESET_END: the hold has ended; the Culvert retrains (R69). -/
def execTileResetEnd (tile : Nat) (s : State) : Host.Outcome State Fault Refusal :=
  let t := s.pwrMod fun p => { p with tiles := putBit p.tiles tile false }
  onUnit (isTile tile)
    (if bitOf s.pwr.tiles tile then t.each ((List.range 16).map fun i => 16 * tile + i) State.perstSample else s)

/-- CULVERT_RETRAINED: the tile's gateway opens, and its rails are read again (R69, R384, R397). -/
def execCulvertRetrained (tile : Nat) (s : State) : Host.Outcome State Fault Refusal :=
  let t := s.pwrMod fun p => { p with culvert := putBit p.culvert tile false }
  onUnit (isTile tile)
    (if bitOf s.pwr.culvert tile ∧ ¬ bitOf s.pwr.tiles tile then
      t.spwMod fun w => { w with maskTiles := putBit w.maskTiles tile false }
    else s)

/-! ### Rails and clocks (R62, R68) -/

/-- The rail sources follow the rails (R62). -/
def State.railSources (s : State) : State :=
  if s.pwr.coldHold then s else (s.level 0x180 !(s.railsAt 1).isEmpty).level 0x181 !(s.railsAt 2).isEmpty

/-- RAIL_WARNING: a rail leaves its warning window for 5 µs, or is back in it (R62). -/
def execRailWarning (rail : Nat) (outside : Bool) (s : State) : Host.Outcome State Fault Refusal :=
  onUnit (decide (rail < 6))
    (if outside then
      ((if s.railLevel rail = 0 then s.setRail rail 1 else s).putb fPWR_RAILSTAT_WARNSEEN 0 rail true).railSources
    else (s.setRail rail 0).railSources)

/-- RAIL_FAULT: a rail leaves its fault window for 5 µs, or is back in it (R62). -/
def execRailFault (rail : Nat) (outside : Bool) (s : State) : Host.Outcome State Fault Refusal :=
  let t := ((s.setRail rail 2).putb fPWR_RAILSTAT_WARNSEEN 0 rail true).putb fPWR_RAILSTAT_FAULTSEEN 0 rail true
  onUnit (decide (rail < 6))
    (if outside then t.railSources else (if s.railLevel rail = 2 then s.setRail rail 1 else s).railSources)

/-- CLOCK_LOSS: a checked clock is lost (R68): REF25 marks fabric time (R95), a port reference takes its tile's ports down. -/
def execClockLoss (dom : Nat) (s : State) : Host.Outcome State Fault Refusal :=
  let i := dom - 328
  let t := s.pwrMod fun p => { p with lost := putBit p.lost i true }
  let t := ((t.putb fPWR_CLKSTAT_OK 0 i false).putb fPWR_CLKLOSS_LOST 0 i true).level (clockSource dom) true
  onUnit (decide (328 ≤ dom ∧ dom < 352))
    (if ¬ s.clockChecked dom then s
    else if dom = 329 then
      (t.pwrMod fun p => { p with ref25 := false }).ftMod fun f => { f with refBad := true }
    else if 341 ≤ dom ∧ dom < 345 then
      t.each (((List.range 16).map fun j => 16 * (dom - 341) + j).filter s.enabled) State.linkLost
    else t)

/-- CLOCK_PRESENT: a checked clock is present and within 1 % (R68). -/
def execClockPresent (dom : Nat) (s : State) : Host.Outcome State Fault Refusal :=
  let t := (s.putb fPWR_CLKSTAT_OK 0 (dom - 328) true).clockFound dom
  onUnit (decide (328 ≤ dom ∧ dom < 352))
    (if ¬ s.clockChecked dom then s
    else if dom = 329 then t.pwrMod fun p => { p with ref25 := true } else t)

/-! ### Switchable domains (R65, R66) -/

/-- PWR_DOMCTL_WRITE: ON forces a domain off or leaves it to the configuration (R65). -/
def execPwrDomctlWrite (n val : Nat) (s : State) : Host.Outcome State Fault Refusal :=
  let fs := fieldsAt fPWR_DOMCTL_ON.addr
  let t := s.w1c fs n val 0
  onUnit (decide (n < 84 ∧ val < 2 ^ 32))
    (if s.discards fs n val then s
    else if n < 8 ∨ (bitOf val 0 ∧ ¬ s.domUsed n) then t
    else ((t.wrb fPWR_DOMCTL_ON n (bitOf val 0)).pwrMod fun p => { p with forced := putBit p.forced n (!bitOf val 0) }).domKick n)

/-- DOMAIN_POWER_UP_DONE: clocks on, isolation released, logic reset (R65); port lanes belong to their LTSSM (R105), and a link
whose wave has come trains. -/
def execDomainPowerUpDone (n : Nat) (s : State) : Host.Outcome State Fault Refusal :=
  let t := ((s.wr fACQ_DOMSTAT_STATE n 0).wrb fPWR_DOMCTL_PWRD n true).wrb fPWR_DOMCTL_BUSY n false
  let t := if n < 72 then t.each ((List.range 4).map fun i => 4 * (n - 8) + i) fun s l => s.wr fSER_LSTAT_STAGE l 9
    else if n < 80 then t.linkTry (n - 72) else t
  onUnit (isDomain n) (if s.rd fACQ_DOMSTAT_STATE n = 3 then t.domKick n else s)

/-- HEADER_SWITCH_OPEN: 20 µs after isolation the header switches open (R65), and the domain's lanes lose their power (R103). -/
def execHeaderSwitchOpen (n : Nat) (s : State) : Host.Outcome State Fault Refusal :=
  let t := (s.wrb fPWR_DOMCTL_PWRD n false).wrb fPWR_DOMCTL_BUSY n false
  let t := if n < 72 then t.each ((List.range 4).map fun i => 4 * (n - 8) + i) State.lanePowerOff
    else if n < 80 then t.each (linkLanes (n - 72)) State.lanePowerOff else t
  onUnit (isDomain n)
    (if s.rd fACQ_DOMSTAT_STATE n = 2 ∧ s.rdb fPWR_DOMCTL_BUSY n then t.domKick n else s)

/-! ### PERST_N and configuration readiness (R71 to R74) -/

/-- PERST_IN_ASSERT (R71). -/
def execPerstInAssert (p : Nat) (s : State) : Host.Outcome State Fault Refusal :=
  let t := s.pwrMod fun q => { q with perst := putBit q.perst p false }
  onUnit (isPort p) (if s.underReset p then t else t.perstSample p)

/-- PERST_IN_RELEASE (R72). -/
def execPerstInRelease (p : Nat) (s : State) : Host.Outcome State Fault Refusal :=
  let t := s.pwrMod fun q => { q with perst := putBit q.perst p true }
  onUnit (isPort p) (if s.underReset p then t else t.perstSample p)

/-- PERST_OUT_N of downstream port `p` may be released (R73): power-good of its slot, or presence without one; its reference;
its wave; and no reset or trip that holds it. -/
def State.perstMay (s : State) (p : Nat) : Bool :=
  let power : Bool := match s.portSlot p with
    | some j => s.rdb fSLU_STAT_PG j && s.slotState j == 4
    | none => s.rdb fPRT_SLOTSTAT_PRESENT p && !(s.rd fPRT_SLOTCFG_PCTL p == 2 && s.slotIsOff p)
  s.enabled p && !s.rdb fPRT_PORTCFG_ROLE p && power && bitOf (s.rd fPWR_CLKSTAT_OK 0) (13 + tileOfPort p)
    && bitOf s.pwr.waved p && !s.underReset p && !s.pwr.thermLow

/-- PERST_OUT_RELEASE (R73). -/
def execPerstOutRelease (p : Nat) (s : State) : Host.Outcome State Fault Refusal :=
  onUnit (isPort p) (if s.perstMay p then s.setBit fPWR_PERSTOUT_RELEASED p true else s)

/-- CRS_LATE: 1 s has passed without tables since PERST_N of an upstream port was released, or the reset of a downstream port's
tile (R74). -/
def execCrsLate (p : Nat) (s : State) : Host.Outcome State Fault Refusal :=
  let t := (s.pwrMod fun q => { q with late := putBit q.late p true }).setBit fPWR_CRSLATE_LATE p true
  onUnit (isPort p)
    (if ¬ s.enabled p ∨ s.bit fPWR_PORTRDY_READY p ∨ bitOf s.pwr.late p ∨ s.underReset p
        ∨ (s.upstream p ∧ ¬ s.bit fPWR_PERSTIN_LEVEL p) then s
    else t.pulse 0x188)

/-! ### Junction temperature (R500 to R503) -/

/-- A reading of the junction: the highest of the 24 sensors (R500), with its peak and the warning (R501, R503). -/
def State.tempRead (s : State) (temp sensor : Nat) : State :=
  let s := (s.wr fPWR_TEMP_TEMP 0 temp).wr fPWR_TEMP_SENSOR 0 sensor
  let j := s.junction
  let s := if toInt 11 (s.rd fPWR_TEMPMAX_PEAK 0) < j then s.wr fPWR_TEMPMAX_PEAK 0 temp else s
  let w := 4 * s.rd fPWR_TEMPCFG_TWARN 0
  if (w : Int) ≤ j then (s.wrb fPWR_THERM_WARN 0 true).level 0x189 true
  else if j < (w : Int) - 4 * s.rd fPWR_TEMPCFG_HYST 0 then (s.wrb fPWR_THERM_WARN 0 false).level 0x189 false
  else s

/-- JUNCTION_WARNING: a reading, with the warning it raises or ends (R501). -/
def execJunctionWarning (temp sensor : Nat) (s : State) : Host.Outcome State Fault Refusal :=
  onUnit (tempOk temp sensor) (s.tempRead temp sensor)

/-- Every link stops and every PERST_OUT_N is low: the junction trip (R502). -/
def State.therm (s : State) : State :=
  let s := (s.pwrMod fun p => { p with thermLow := true, pll := false }).wrb fPWR_THERM_TRIPPED 0 true
  let s := s.each (List.range 64) fun s p =>
    let s := s.setBit fPWR_PERSTOUT_RELEASED p false
    if s.dlUp p then s.linkLost p else s.dlDown p 0 false
  let s := s.each (List.range 8) State.linkHalt
  let s := s.each (List.range 328) State.laneStop
  (s.ftMod fun f => { f with run := false }).wr fPWR_CLKSTAT_OK 0 (clearBits (s.rd fPWR_CLKSTAT_OK 0) 0x1FFC)

/-- JUNCTION_TRIP: the second of two readings at or above 120 °C (R502). -/
def execJunctionTrip (temp sensor : Nat) (s : State) : Host.Outcome State Fault Refusal :=
  let t := s.tempRead temp sensor
  onUnit (tempOk temp sensor) (if 480 ≤ t.junction ∧ ¬ s.pwr.thermLow then t.therm else t)

end Sys2Proof.Machine
end

