-- ==== Sys2Proof/Machine/Spw.lean ====
section
/-! DEFINITION. The Spillway (R389 to R406): sources and units, reactions and their release, recovery, wire tests, and the
commands of the collector; and the arming of the device at 60 ms (R397). -/

namespace Sys2Proof.Machine

/-! ### Sources (R389) -/

/-- Egresses stand for their port or link (R398). -/
def SrcUnit.norm : SrcUnit → SrcUnit
  | .egress x => if x < 64 then .port x else .link (x - 64)
  | u => u

/-- The tile of a unit. -/
def SrcUnit.tileOf : SrcUnit → Option Nat
  | .port p => some (tileOfPort p)
  | .egress x => some (if x < 64 then tileOfPort x else tileOfLink (x - 64))
  | .link k => some (tileOfLink k)
  | .tile t => some t
  | .slot j => some (j / 8)
  | .device => none

/-- The rails of source `n` are ignored now: its tile is in the span of R397.  Sources of tile C are those of the device. -/
def State.railsMasked (s : State) (n : Nat) : Bool :=
  match (srcUnit n).bind SrcUnit.tileOf with
  | some t => bitOf s.spw.maskTiles t
  | none => false

/-- The unit is configured (R399, R410). -/
def State.configured (s : State) (u : SrcUnit) : Bool :=
  let tile := fun t => ((List.range 16).any fun i => s.enabled (16 * t + i)) || s.rdb fLEAT_CTL_ENABLE (2 * t)
    || s.rdb fLEAT_CTL_ENABLE (2 * t + 1) || (List.range 8).any fun i => s.rdb fSLU_CFG_EN (8 * t + i)
  match u.norm with
  | .port p => s.enabled p
  | .link k => s.rdb fLEAT_CTL_ENABLE k
  | .slot j => s.rdb fSLU_CFG_EN j
  | .tile t => tile t
  | _ => true

/-! ### Reactions (R398 to R400, R404) -/

/-- The code that source `n` holds, plus 1; 0 where it holds none. -/
def State.heldCode (s : State) (n : Nat) : Nat := SMap.get 0 s.spw.held n

/-- What source `n` holds, set. -/
def State.setHeld_ (s : State) (n v : Nat) : State := s.spwMod fun w => { w with held := SMap.set 0 w.held n v }

/-- Some source holds a code from `lo` to `hi` on unit `u`. -/
def State.reached (s : State) (u : SrcUnit) (lo hi : Nat) : Bool :=
  s.spw.held.any fun e => decide (lo < e.2 ∧ e.2 ≤ hi + 1) && ((srcUnit e.1).map SrcUnit.norm == some u)

/-- The device is Degraded while a reaction of R400 is held, and Operational again after the last. -/
def State.degradedNow (s : State) : State :=
  if s.dev = 2 ∧ s.degraded then s.setDev 3 else if s.dev = 3 ∧ ¬ s.degraded then s.setDev 2 else s

/-- The coherence agent of a port, or of the peer node of a link (R398). -/
def State.agentOfUnit (s : State) : SrcUnit → Option Nat
  | .port p => some p
  | .link k =>
    let n := s.rd fLEAT_STAT_PEERNODE k
    if s.rdb fLEAT_ROUTE_AGEN n then some (64 + s.rd fLEAT_ROUTE_AGENT n) else none
  | _ => none

/-- DECOHERE on a unit: its agent is lost and its coherent requests are refused (R398, R227). -/
def State.decohere (s : State) (u : SrcUnit) : State :=
  match s.agentOfUnit u with
  | some a => if s.wm.refused.contains a then s else (s.wmMod fun w => { w with refused := w.refused ++ [a] }).agentLost a
  | none => s

/-- Port `p` or link `k` taken down and held down (R398). -/
def State.isolate (s : State) : SrcUnit → State
  | .port p =>
    let t := s.portMod p fun x => { x with iso := true }
    if t.enabled p ∧ t.dlUp p then (if t.rdb fPRT_PORTCFG_ROLE p then t.portReset p 0 false else t.dlDown p 0 false) else t
  | .link k => (s.lkMod k fun l => { l with iso := true }).when_ (s.lkState k != 0) fun s => s.goDisabled k 6
  | _ => s

/-- The switchable domains of a unit (R398). -/
def State.unitDomains (s : State) : SrcUnit → List Nat
  | .port p => s.portDomains p
  | .link k => [72 + k]
  | _ => []

/-- SAFE: every port and link down, engines paused (R398). -/
def State.goSafe (s : State) : State :=
  if s.dev = 4 then s
  else
    let s := s.setDev 4
    let s := s.each (List.range 64) fun s p => s.isolate (.port p)
    (s.each (List.range 8) fun s k => s.isolate (.link k)).pauseAll

/-- The reaction of source `n` with code `c` starts, and is held (R398, R401).  A unit that is not configured is left alone
(R399). -/
def State.react (s : State) (n c : Nat) : State :=
  let s := s.setHeld_ n (c + 1)
  let u := ((srcUnit n).getD .device).norm
  if c = 7 then (s.holdNow.profileFenced).degradedNow
  else if c = 8 then (s.spwMod fun w => { w with warmSrc := some n }).warmReset 4
  else if c = 9 then s.goSafe
  else if ¬ s.configured u then s.degradedNow
  else if c = 6 then (match u.tileOf with | some t => s.tileReset t | none => s)
  else if 3 ≤ c ∧ c ≤ 5 then
    let s := s.decohere u
    let s := if 4 ≤ c then s.isolate u else s
    (if c = 5 then s.each (s.unitDomains u) State.domFence else s).degradedNow
  else s

/-- The reaction held by source `n` is released, and its unit returns to service where nothing else holds it (R396, R403,
R404). -/
def State.releaseSrc (s : State) (n : Nat) : State :=
  let c := s.heldCode n
  let u := ((srcUnit n).getD .device).norm
  let s := s.setHeld_ n 0
  if c = 0 then s
  else
    let s := if c = 8 then s.holdNow else s
    let s := if c = 6 ∧ ¬ s.reached u 5 5 then s.each (s.unitDomains u) State.domUnfence else s
    let s := if 5 ≤ c ∧ c ≤ 6 ∧ ¬ s.reached u 4 5 ∧ s.dev ≠ 4 then
        (match u with
        | .port p => s.portMod p fun x => { x with iso := false }
        | .link k => (s.lkMod k fun l => { l with iso := false }).linkTry k
        | _ => s)
      else s
    let s := if 4 ≤ c ∧ c ≤ 6 ∧ ¬ s.reached u 3 5 then
        (match s.agentOfUnit u with
        | some a => s.wmMod fun w => { w with refused := w.refused.filter (· != a) }
        | none => s)
      else s
    s.degradedNow

/-! ### States of a source (R395, R403) -/

/-- STATE of source `n`: 0 QUIET, 1 ACTIVE, 2 SETTLING, 3 LATCHED (R413). -/
def State.srcState (s : State) (n : Nat) : Nat := s.rd fSPW_RCT_STATE n

/-- STATE of source `n` set; a return to QUIET ends INJ (R406). -/
def State.setSrc (s : State) (n v : Nat) : State :=
  let s := s.wr fSPW_RCT_STATE n v
  if v = 0 then s.wrb fSPW_RCT_INJ n false else s

/-- Source `n` is masked (R396). -/
def State.masked (s : State) (n : Nat) : Bool := s.bit fSPW_MASK_MASK n

/-- The Spillway is armed (R397). -/
def State.armed (s : State) : Bool := s.rdb fSPW_CTL_ARMED 0

/-- The code that source `n` takes when its reaction starts: REACT, or FAULT in place of WARM after its own reset (R401). -/
def State.codeNow (s : State) (n : Nat) (atArming : Bool) : Nat :=
  let c := s.rd fSPW_RCT_REACT n
  if atArming && c == 8 && s.rd fPWR_RSTCAUSE_LAST 0 == 4 && s.spw.warmSrc == some n then 2 else c

/-- SPW_LAST, and SPW_FIRST while it is free, record source `n` (R395). -/
def State.spwRecord (s : State) (n : Nat) : State :=
  let wire := s.rdb fSPW_RCT_SINGLE n || s.spw.wireLatched.contains n
  let sec := s.ftSec
  let first := !s.rdb fSPW_FIRST_VALID 0
  let s := (((s.wr fSPW_LAST_SOURCE 0 n).wrb fSPW_LAST_WIRE 0 wire).wr fSPW_LAST_QUAL 0 s.ftQual).wrb fSPW_LAST_VALID 0 true
  let s := ((s.wr fSPW_LASTNS_NS 0 s.ftNs).wr fSPW_LASTSECL_SECL 0 sec).wr fSPW_LASTSECH_SECH 0 (sec / 2 ^ 32)
  if first then
    let s := (((s.wr fSPW_FIRST_SOURCE 0 n).wrb fSPW_FIRST_WIRE 0 wire).wr fSPW_FIRST_QUAL 0 s.ftQual).wrb fSPW_FIRST_VALID 0 true
    ((s.wr fSPW_FIRSTNS_NS 0 s.ftNs).wr fSPW_FIRSTSECL_SECL 0 sec).wr fSPW_FIRSTSECH_SECH 0 (sec / 2 ^ 32)
  else s

/-- The SPW notification of source `n`, at most once in COAL µs (R395). -/
def State.spwNotify (s : State) (n : Nat) : State :=
  if s.masked n ∨ s.pwr.ns < s.spw.notifNs then s
  else
    (s.spwMod fun w => { w with notifNs := s.pwr.ns + 1000 * s.rd fSPW_NOTIF_COAL 0 }).notify 1
      (n * 2 ^ 32 + s.rd fSPW_RCT_REACT n * 2 ^ 24)

/-- What every raise records (R395). -/
def State.spwMark (s : State) (n : Nat) : State := ((s.setBit fSPW_STK_STK n true).spwRecord n).spwNotify n

/-- Source `n` is read as raised (R395, R403): a reaction starts from QUIET, or from SETTLING where none is held (R397). -/
def State.raised (s : State) (n : Nat) : State :=
  let st := s.srcState n
  let s := s.setBit fSPW_RAW_RAW n true
  if st = 3 then s
  else
    let s := s.spwMark n
    if ¬ s.armed then s.spwMod fun w => { w with kept := w.kept.filter fun e => e.1 != n }
    else
      let s := s.setSrc n 1
      if (st = 0 ∨ st = 2) ∧ s.heldCode n = 0 ∧ ¬ s.masked n then s.react n (s.codeNow n false) else s

/-- Source `n` is read as quiet (R403). -/
def State.quieted (s : State) (n : Nat) : State :=
  let s := s.setBit fSPW_RAW_RAW n false
  let s := s.spwMod fun w => { w with drive := SMap.erase w.drive n }
  if s.srcState n ≠ 1 then s
  else s.setSrc n (if s.rdb fSPW_CTL_ZL25 0 ∨ s.rdb fSPW_RCT_NOREC n then 3 else 2)

/-- Source `n` recovers to QUIET (R403). -/
def State.recovered (s : State) (n : Nat) : State :=
  let s := ((s.setBit fSPW_STK_STK n false).releaseSrc n).setSrc n 0
  (s.inc fSPW_RCT_RCNT n).spwMod fun w => { w with flapLatched := w.flapLatched.filter (· != n) }

/-- The collector reads source `n` now: no test runs on it, its tile's rails are not ignored, and not both its rails are bad. -/
def State.readable (s : State) (n : Nat) : Bool :=
  !s.spw.test.contains n && !s.railsMasked n && !s.spw.wireLatched.contains n

/-- SOURCE_RAISE: the raised code has been seen on two samples (R390, R395). -/
def execSourceRaise (src : Nat) (s : State) : Host.Outcome State Fault Refusal :=
  onUnit (isSource src)
    (if s.driven src = .quiet ∨ s.bit fSPW_RAW_RAW src ∨ ¬ s.readable src then s else s.raised src)

/-- SOURCE_QUIET: the quiet code has been seen on two samples (R390, R403). -/
def execSourceQuiet (src : Nat) (s : State) : Host.Outcome State Fault Refusal :=
  onUnit (isSource src)
    (if s.driven src = .lasting ∨ ¬ s.bit fSPW_RAW_RAW src ∨ ¬ s.readable src then s else s.quieted src)

/-- QUIET_PERIOD_END: a settling source recovers, or is latched at the flap limit (R403). -/
def execQuietPeriodEnd (src : Nat) (s : State) : Host.Outcome State Fault Refusal :=
  onUnit (isSource src)
    (if s.srcState src ≠ 2 then s
    else if s.rd fSPW_RCT_FLAP src < s.rd fSPW_CTL_RLIM 0 then (s.recovered src).inc fSPW_RCT_FLAP src
    else (s.setSrc src 3).spwMod fun w => { w with flapLatched := w.flapLatched ++ [src] })

/-- The sticky bit of source `n` is written 1 (R403): no effect on an ACTIVE source, nor on one latched by R391; a source that
still reads raised is raised again. -/
def State.stickyW1c (s : State) (n : Nat) : State :=
  let st := s.srcState n
  if ¬ s.bit fSPW_STK_STK n ∨ st = 1 ∨ s.spw.wireLatched.contains n then s
  else if st = 0 then (if s.bit fSPW_RAW_RAW n then s else s.setBit fSPW_STK_STK n false)
  else
    let s := s.recovered n
    if s.bit fSPW_RAW_RAW n then s.raised n else s

/-- STICKY_CLEAR: SPW_STK`word` is written (R403). -/
def execStickyClear (word val : Nat) (s : State) : Host.Outcome State Fault Refusal :=
  onUnit (decide (word < 32 ∧ val < 2 ^ 32)) (s.each ((setBits 32 val).map fun i => 32 * word + i) State.stickyW1c)

/-- FLAP_WINDOW_CLEAR: every FLAP is cleared (R403). -/
def execFlapWindowClear (s : State) : Host.Outcome State Fault Refusal := .next (s.clr fSPW_RCT_FLAP)

/-! ### Wire faults and tests (R391, R392) -/

/-- WIRE_FAULT: equal rails for three samples start a test of the source (R391). -/
def execWireFault (src : Nat) (s : State) : Host.Outcome State Fault Refusal :=
  onUnit (decide (src < 1024) && railed src)
    (if s.readable src then s.spwMod fun w => { w with test := w.test ++ [src] } else s)

/-- WIRE_TEST: every source with rails that is not raised is tested (R392). -/
def execWireTest (s : State) : Host.Outcome State Fault Refusal :=
  let ns := (List.range 0x3E0).filter fun n => railed n && s.readable n && !s.bit fSPW_RAW_RAW n
  .next (if s.rdb fSPW_CTL_WTESTEN 0 then s.spwMod fun w => { w with test := w.test ++ ns } else s)

/-- A wire fault of source `n` is recorded, and its group's source raised for 8 samples (R391). -/
def State.wireRecord (s : State) (n : Nat) : State := (s.setBit fSPW_WFLT_WFLT n true).pulse (0x3F0 + n / 64)

/-- Neither rail of source `n` is good: it reads raised from now on and is latched (R391). -/
def State.wireDead (s : State) (n : Nat) : State :=
  let st := s.srcState n
  let s := (s.spwMod fun w => { w with wireLatched := w.wireLatched ++ [n] }).setBit fSPW_RAW_RAW n true
  if st = 3 then s
  else
    let s := (s.spwMark n).wr fSPW_RCT_STATE n 3
    if s.armed ∧ st = 0 ∧ ¬ s.masked n then s.react n (s.codeNow n false) else s

/-- The test of source `n` ends with its rails good or not (R391, R392). -/
def State.testEnd (s : State) (p g : Bool) (n : Nat) : State :=
  let s := s.spwMod fun w => { w with test := w.test.filter (· != n) }
  let single := s.rdb fSPW_RCT_SINGLE n
  let good := if single then (if s.rdb fSPW_RCT_RAIL n then g else p) else p || g
  if ¬ good then (s.wireDead n).wireRecord n
  else if single ∨ (p && g) then s
  else ((s.wrb fSPW_RCT_SINGLE n true).wrb fSPW_RCT_RAIL n (!p)).wireRecord n

/-- WIRE_TEST_END: the test of one source, or of every source still under test, ends (R391, R392). -/
def execWireTestEnd (src : Option Nat) (pGood nGood : Bool) (s : State) : Host.Outcome State Fault Refusal :=
  onUnit (src.all isSource)
    (match src with
    | some n => if s.spw.test.contains n then s.testEnd pGood nGood n else s
    | none => s.each s.spw.test (State.testEnd · pGood nGood))

/-! ### The collector (R390, R394) -/

/-- COLLECTOR_MISMATCH: the copies differ; the device acts on the union of sticky bits and on the higher codes, which both then
load (R394).  `srcs` are sources sticky in the other copy, `codes` the codes that it holds. -/
def execCollectorMismatch (srcs : List Nat) (codes : List (Nat × Nat)) (s : State) : Host.Outcome State Fault Refusal :=
  let t := s.each srcs fun s n => s.setBit fSPW_STK_STK n true
  let t := t.each codes fun s e => if s.heldCode e.1 < e.2 + 1 then s.react e.1 e.2 else s
  onUnit (srcs.all isSource && codes.all fun e => isSource e.1 && ((srcUnit e.1).any fun u => u.admits e.2))
    ((t.wrb fSPW_STATUS_MISMATCH 0 true).pulse 0x3E0)

/-- COLLECTOR_RATE_CHANGE: AUX sampling while REF25 is lost (R390). -/
def execCollectorRateChange (slow : Bool) (s : State) : Host.Outcome State Fault Refusal :=
  .next (if slow = s.pwr.ref25 then s else s.spwMod fun w => { w with slow := slow })

/-- RATE_PAIR_FAULT: a driver (tile C, or 1 + n for Hn) takes 25 MHz as announced (R390). -/
def execRatePairFault (driver : Nat) (s : State) : Host.Outcome State Fault Refusal :=
  onUnit (decide (driver < 5))
    ((s.spwMod fun w => { w with slowDrv := if w.slowDrv.contains driver then w.slowDrv else w.slowDrv ++ [driver] }).pulse 0x3E0)

/-- SPW_INJECT: SPW_INJ is written (R406): a raise at the collector's input, behind the rails. -/
def execSpwInject (val : Nat) (s : State) : Host.Outcome State Fault Refusal :=
  let n := bitsOf val 0 10
  onUnit (decide (val < 2 ^ 32))
    (if bitsOf val 24 8 ≠ 0x3B then s
    else if ¬ railed n then s.cfgErr 18
    else
      let t := (s.pulse n).wrb fSPW_RCT_INJ n true
      if t.bit fSPW_RAW_RAW n then t else t.raised n)

/-! ### Masks and the reaction table (R396, R398) -/

/-- SPW_MASK_WRITE: SPW_MASK`word` is written (R396): a mask set releases, a mask cleared starts the reaction of an ACTIVE
source. -/
def execSpwMaskWrite (word val : Nat) (s : State) : Host.Outcome State Fault Refusal :=
  let old := s.rd fSPW_MASK_MASK word
  let t := s.wr fSPW_MASK_MASK word val
  onUnit (decide (word < 32 ∧ val < 2 ^ 32))
    (if (setBits 32 val).any fun i => (srcUnit (32 * word + i)).isNone then s.cfgErr 18
    else t.each (setBits 32 (old ^^^ val)) fun s i =>
      let n := 32 * word + i
      if bitOf val i then s.releaseSrc n
      else if s.bit fSPW_STK_STK n ∧ s.srcState n = 1 ∧ s.heldCode n = 0 then s.react n (s.codeNow n false) else s)

/-- SPW_RCT_WRITE: SPW_RCT of a source is written (R398): a reserved source, or a code its unit does not admit, is refused. -/
def execSpwRctWrite (src val : Nat) (s : State) : Host.Outcome State Fault Refusal :=
  let c := bitsOf val 0 4
  onUnit (decide (src < 1024 ∧ val < 2 ^ 32))
    (if (srcUnit src).any fun u => u.admits c then (s.wr fSPW_RCT_REACT src c).wr fSPW_RCT_NOREC src (bitsOf val 4 1)
    else s.cfgErr 18)

/-- Leaving the software-clear mode: sources latched only because of it settle (R405). -/
def State.leaveClearMode (s : State) : State :=
  s.each (s.listed fSPW_RCT_STATE) fun s n =>
    if s.srcState n = 3 ∧ ¬ s.bit fSPW_RAW_RAW n ∧ ¬ s.spw.flapLatched.contains n ∧ ¬ s.spw.wireLatched.contains n
        ∧ ¬ s.rdb fSPW_RCT_NOREC n then s.setSrc n 2
    else s

/-! ### Pins and summary (R402, R410, R413) -/

/-- FAULT_N is held low (R402, R49, R502). -/
def State.faultLow (s : State) : Bool :=
  s.pwr.aux && (!s.armed || s.spw.maskTiles != 0 || s.pwr.thermLow
    || s.spw.held.any fun e => decide (3 ≤ e.2) && s.bit fSPW_STK_STK e.1 && !s.masked e.1)

/-- Source `n` is sticky, unmasked and has the code ALERT (R402): the code it holds, or, while the Spillway is not armed, the one it
held when it disarmed, and its REACT where it has been raised since (log entry 102). -/
def State.alerts (s : State) (n : Nat) : Bool :=
  s.bit fSPW_STK_STK n && !s.masked n
    && (if s.armed then s.heldCode n == 2
      else match s.spw.kept.find? fun e => e.1 == n with
        | some e => e.2 == 2
        | none => s.rd fSPW_RCT_REACT n == 1)

/-- ALERT_N is held low by the Spillway (R402), or by a telemetry bit (R194). -/
def State.alertLow (s : State) : Bool :=
  s.pwr.aux && ((List.range 1024).any s.alerts || (s.rdb fRSV_TELCTL_ALERT 0 && s.telFirst.isSome))

/-- PROMISE: the conditions of R410 that the device can check. -/
def State.promise (s : State) : Bool :=
  s.rdb fSNF_CTL_SCRUBEN 0 && s.rdb fSPW_CTL_WTESTEN 0 && decide (s.rd fSPW_CTL_WTEST 0 ≤ 18)
    && s.rdb fACQ_CTL_WDOGEN 0 && decide (s.rd fACQ_CTL_WDOG 0 ≤ 1800)
    && (List.range 1024).all fun n =>
      match srcUnit n with
      | some u => !s.masked n || !(s.configured u || (decide (0x16C ≤ n) && decide (n < 0x174)))
      | none => true

/-! ### 60 ms (R75, R397) -/

/-- Each unmasked sticky source takes its state from its rails at arming (R397). -/
def State.armSource (s : State) (n : Nat) : State :=
  if s.masked n then s
  else if s.spw.wireLatched.contains n then s.react n (s.codeNow n true)
  else if s.bit fSPW_RAW_RAW n then (s.setSrc n 1).react n (s.codeNow n true)
  else s.setSrc n 2

/-- The device may leave Init: an image is verified, and no manufacturing test holds it (R52, R459, R477). -/
def State.mayArm (s : State) : Bool :=
  s.pwr.sram && !s.pwr.coldHold && !s.pwr.warm && !s.armed && !s.pwr.manufTest && !s.boot.recovery
    && (s.rd fPWR_START_PHASE 0 == 4 || s.rd fPWR_START_PHASE 0 == 5)

/-- What a cold start raises when the Spillway first arms: the causes of failed boot slots (R475), and a boot count that could not
be programmed (R464). -/
def State.coldRaises (s : State) : State :=
  let failed := decide (1 < s.rd fBOOT_STAT_CAUSEA 0 ∨ 1 < s.rd fBOOT_STAT_CAUSEB 0)
  let gap : Bool := match s.record s.bootSeq with
    | some r => r.new == 0
    | none => false
  if failed || gap then s.pulse 0x1FB else s

/-- SPILLWAY_ARM: the Spillway arms, the dictionary answers and the device enters Standby (R75, R397); a floating strap is
raised (R55), the slots take their settings (R431), and a table load that a warm reset abandoned is recorded (R233).  In recovery and in manufacturing test
this is the 60 ms point at which the dictionary answers some objects (R52, R477). -/
def execSpillwayArm (s : State) : Host.Outcome State Fault Refusal :=
  let cold := s.rd fPWR_RSTCAUSE_LAST 0 == 0
  let s' := s.when_ s.pwr.aborted fun s => (s.ttEnd 10 0).pwrMod fun p => { p with aborted := false }
  let s' := ((s'.wrb fSPW_CTL_ARMED 0 true).spwMod fun w => { w with kept := [] }).setDev 1
  let s' := (s'.when_ (s.rdb fPKG_STRAPFLT_ANY 0) fun s => s.cfgErr 2).slotsArm
  let s' := s'.when_ cold State.coldRaises
  let held : Bool := s.pwr.sram && !s.pwr.coldHold && !s.pwr.warm && !s.armed && (s.pwr.manufTest || s.boot.recovery)
  .next (if s.mayArm then (s'.each s'.stickies State.armSource).tablesNow
    else if held then s.tndMod fun t => { t with limited := true } else s)

end Sys2Proof.Machine
end

