-- ==== Sys2Proof/Machine/Depart.lean ====
section
/-! DEFINITION. A message leaves the Reservoir (R127, R170, R187, R332, R435). -/

namespace Sys2Proof.Machine

/-- Message `m` has left by egress `x`, 0 to 71: counted (R437), and a request is owed a response from now on (R127, R170). -/
def State.leftBy (s : State) (x : Nat) (m : Msg) : State :=
  let s := s.countMsg 0x02 (if x < 64 then tileOfPort x else tileOfLink (x - 64)) x m
  let s := s.when_ (decide (x < 64)) fun s => s.send (.depart x m)
  if m.wantsReply then s.swcMod fun w => { w with owed := w.owed ++ [{ x := x, m := m }] } else s

/-- What egress `x` sends now has all gone: its cells are freed, with the holds, credits and held requests that this lets go. -/
def State.depart (s : State) (x : Nat) (sn : Sending) (d : Stored) : State :=
  let s := s.swcMod fun w => { w with sending := SMap.set none w.sending (sendKey x sn.g) none }
  let s := if x < 72 then s.each sn.parts fun s m => s.leftBy x m else s
  (((s.tdResolve x d.m false).copyGone d x).considerAll).drainAll

end Sys2Proof.Machine
end

