-- ==== Sys2Proof/Machine/Ft.lean ====
section
/-! DEFINITION. Fabric time (R82 to R100): the pulse inputs, source selection, the states of R93, corrections and steps, time of
day, and the running of the counter. -/

namespace Sys2Proof.Machine

/-! ### Inputs and sources (R87, R88) -/

/-- Input A, or B. -/
def State.pps (s : State) (b : Bool) : PpsIn := if b then s.ft.b else s.ft.a

/-- Input A or B changed by `f`. -/
def State.ppsMod (s : State) (b : Bool) (f : PpsIn → PpsIn) : State :=
  s.ftMod fun t => if b then { t with b := f t.b } else { t with a := f t.a }

/-- The input is good (R87). -/
def State.ppsGood (s : State) (b : Bool) : Bool := if b then s.rdb fFT_STAT_BGOOD 0 else s.rdb fFT_STAT_AGOOD 0

/-- The input becomes good or lost: its loss source follows (R87). -/
def State.ppsSetGood (s : State) (b good : Bool) : State :=
  (s.wrb (if b then fFT_STAT_BGOOD else fFT_STAT_AGOOD) 0 good).level (0x190 + b2n b) (!good)

/-- SRCMODE allows the source (R88). -/
def State.ppsAllowed (s : State) (b : Bool) : Bool :=
  match s.rd fFT_CTRL_SRCMODE 0 with
  | 1 => !b
  | 2 => b
  | _ => true

/-- The source is usable: good, and allowed (R88). -/
def State.ppsUsable (s : State) (b : Bool) : Bool := s.ppsGood b && s.ppsAllowed b

/-- Some source is usable. -/
def State.anyUsable (s : State) : Bool := s.ppsUsable false || s.ppsUsable true

/-- The source in use: B. -/
def State.srcB (s : State) : Bool := s.rdb fFT_STAT_SRC 0

/-- The source that SRCMODE makes the one in use (R88). -/
def State.srcWanted (s : State) : Bool :=
  let pref := s.rd fFT_CTRL_SRCMODE 0 == 3
  match s.rd fFT_CTRL_SRCMODE 0 with
  | 1 => false
  | 2 => true
  | _ =>
    if s.srcB == pref then (if !s.ppsGood pref && s.ppsGood (!pref) then !pref else pref)
    else if decide (10 ≤ (s.pps pref).streak) || (s.ppsGood pref && !s.ppsGood (!pref)) then pref else !pref

/-- The history that the servo steers by ends: a step, a change of source, or an edge missed. -/
def State.servoAnew (s : State) : State := s.ftMod fun t => { t with lastE := none, steady := 0 }

/-- The source in use chosen anew (R88): a change causes no step. -/
def State.selectSrc (s : State) : State := (s.wrb fFT_STAT_SRC 0 s.srcWanted).when_ (s.srcWanted != s.srcB) State.servoAnew

/-! ### States (R93) -/

/-- FT_STAT.STATE: 0 UNSET, 1 FREE, 2 ACQUIRE, 3 LOCKED, 4 HOLDOVER. -/
def State.ftState (s : State) : Nat := s.rd fFT_STAT_STATE 0

/-- HOLDOVER ends: its limit source falls silent. -/
def State.holdLeave (s : State) : State := s.when_ (s.ftState == 4) fun s => s.level 0x194 false

/-- ACQUIRE is entered (R93, R94, R100). -/
def State.toAcquire (s : State) : State :=
  let s := ((s.holdLeave.wr fFT_STAT_STATE 0 2).wr fFT_STAT_HOLDSEC 0 0).wr fFT_HOLDERR 0 0
  s.ftMod fun t => { t with locks := 0, unlocks := 0 }

/-- LOCKED is entered; the state has then passed through ACQUIRE (R95). -/
def State.toLocked (s : State) : State :=
  (s.wr fFT_STAT_STATE 0 3).ftMod fun t => { t with unlocks := 0, refBad := t.refBad && !s.pwr.ref25 }

/-- FREE is entered: the local second is not trusted, and each input's next edge is its first (R87). -/
def State.toFree (s : State) : State :=
  (s.wr fFT_STAT_STATE 0 1).ftMod fun t => { t with a := { t.a with ref := none }, b := { t.b with ref := none } }

/-- HOLDOVER is entered (R94). -/
def State.toHoldover (s : State) : State :=
  ((s.wr fFT_STAT_STATE 0 4).wr fFT_STAT_HOLDSEC 0 0).ftMod fun t => { t with holdAt := s.pwr.ns }

/-- No usable source is left: ACQUIRE becomes FREE and LOCKED becomes HOLDOVER (R93). -/
def State.noSource (s : State) : State :=
  if s.anyUsable then s else if s.ftState = 2 then s.toFree else if s.ftState = 3 then s.toHoldover else s

/-! ### Rate, slew and step (R83, R86, R99) -/

/-- A rate cut to ±`m` ppb. -/
def clampRate (m r : Int) : Int := if r < -m then -m else if m < r then m else r

/-- FT_RATE as the servo's part and a slew of 100 ppm make it (R83, R86). -/
def State.rateNow (s : State) : State :=
  let k : Int := if s.ft.slew < 0 then -100000 else if 0 < s.ft.slew then 100000 else 0
  s.wr fFT_RATE 0 (ofInt 32 (clampRate 300000 (s.ft.servo + k)))

/-- What the servo makes of its part of the rate after phase error `e` is its own affair within the bounds of R509.  Where the edge
before gave `e0` and only the rate has acted since, a rate of FT_RATE − (2 e − e0) would bring the next edge to 0 with a steady source;
with no such edge, its own part less `e` would where the rate was right before.  A free value is added, which moves the next phase error
by no more than 8 ns, or, before the 16th edge of a steady source, by no more than `e` itself (log entry 106). -/
def State.servoNow (s : State) (e : Int) : State :=
  let (n, s) := s.draw
  let v := toInt 32 (Config.servoRate n).toNat
  let near : Int := if 15 ≤ s.ft.steady then 8 else max 8 (e.natAbs : Int)
  let r := match s.ft.lastE with
    | some e0 => toInt 32 (s.rd fFT_RATE 0) - (2 * e - e0) + clampRate near v
    | none => s.ft.servo - e + clampRate 8 v
  (s.ftMod fun t =>
    { t with servo := clampRate 300000 r, lastE := if t.slew = 0 then some e else none,
             steady := if e.natAbs ≤ 100 then t.steady + 1 else 0 }).rateNow

/-- `d` ns to be removed by a slew at 100 ppm (R86); none ends the slew in progress. -/
def State.slewBy (s : State) (d : Int) : State :=
  ((s.ftMod fun t => { t with slew := d * 2 ^ 40, lastE := none }).wrb fFT_STAT_SLEWING 0 (d != 0)).rateNow

/-- A time moved by `d`. -/
def shiftNs (d : Int) (n : Nat) : Nat := ((n : Int) + d).toNat

/-- The span of the counter in nanoseconds: 48 bits of seconds (R82). -/
def ftSpan : Nat := 2 ^ 48 * nsPerSec

/-- The counter is set `d` ns on or back.  The captures of the inputs move with it; skipped refills credit nothing, each
rotation goes on at its next cycle start (R99), and a step on leaves passed comparators to be fired. -/
def State.ftSet (s : State) (d : Int) : State :=
  let mv := fun (p : PpsIn) => { p with ref := p.ref.map (shiftNs d), cap := p.cap.map (shiftNs d) }
  let s := s.ftMod fun t =>
    { t with now := shiftNs d t.now % ftSpan, frac := 0, a := mv t.a, b := mv t.b, jump := t.jump || decide (0 < d), disSec := none,
             lastE := none }
  s.weirMod fun w =>
    { w with refilled := some (s.ft.now / 256)
             rotWait := ((List.range 72).filter s.rotOn).foldl (fun m x => SMap.set 0 m x (s.nextCycle x)) [] }

/-- A step of `d` ns (R86, R93): it ends a slew and a held step, and takes LOCKED to ACQUIRE. -/
def State.ftStep (s : State) (d : Int) : State :=
  let s := (((s.ftSet d).slewBy 0).wrb fFT_STAT_STEPHELD 0 false).level 0x193 false
  if s.ftState = 3 then s.toAcquire else s

/-- The setting that takes fabric time out of UNSET, by `d` ns, (R86, R93, R99): to ACQUIRE, or to FREE.  The minutes
up to the new time count as looked at, and no others. -/
def State.ftLeaveUnset (s : State) (d : Int) (acquire : Bool) : State :=
  let s := s.ftSet d
  let s := s.flmMod fun f => { f with minSeen := s.ftSec }
  if acquire then s.toAcquire else s.toFree

/-- The step held in STEPHELD is dropped: another correction takes its place (R86). -/
def State.heldDrop (s : State) : State := (s.wrb fFT_STAT_STEPHELD 0 false).level 0x193 false

/-- The local time is to move by `d` ns (R86): by rate alone, by a step, or by a slew where a step is not allowed.  In Safe the time
runs backward as little as in Operational. -/
def State.ftCorrect (s : State) (d : Int) : State :=
  let busy := decide (2 ≤ s.dev)
  if d.natAbs ≤ s.rd fFT_STEPNS 0 then s
  else if 0 < d then
    if busy ∧ (nsPerSec : Int) < d then ((s.slewBy d).wrb fFT_STAT_STEPHELD 0 true).level 0x193 true
    else s.ftStep d
  else if busy then (s.slewBy d).heldDrop
  else s.ftStep d

/-! ### Pulse edges (R87, R89, R509) -/

/-- The phase error of a capture: signed nanoseconds from the nearest whole second. -/
def phaseOf (c : Nat) : Int := ((c + 500000000) % nsPerSec : Nat) - (500000000 : Int)

/-- The whole second nearest to a capture. -/
def nearSec (c : Nat) : Nat := (c + 500000000) / nsPerSec

/-- The edge at capture `c` of input `b` is accepted (R87). -/
def State.ppsTakes (s : State) (b : Bool) (c : Nat) : Bool :=
  let w := s.rd fFT_ACCWIN 0
  match s.ftState with
  | 2 | 3 => decide ((phaseOf c).natAbs ≤ w)
  | 4 => decide ((phaseOf c).natAbs ≤ min (w + s.rd fFT_HOLDERR 0) 1000000)
  | _ => match (s.pps b).ref with
    | none => true
    | some r => decide (((c : Int) - r - nsPerSec).natAbs ≤ 1000000)

/-- A phase error of the source in use is measured (R86, R93, R509).  While a step is held, the error is part of what is slewed. -/
def State.ppsMeasure (s : State) (e : Int) : State :=
  let s := s.wr fFT_PHASE 0 (ofInt 32 e)
  let lock := decide (e.natAbs ≤ s.rd fFT_LOCKNS 0)
  let far := decide (s.rd fFT_UNLOCKNS 0 < e.natAbs)
  let st := s.ftState
  let s := (if s.rdb fFT_STAT_STEPHELD 0 then s else s.ftCorrect (-e)).servoNow e
  if st = 4 then s.toAcquire
  else
    let s := s.ftMod fun t => { t with locks := if lock then t.locks + 1 else 0, unlocks := if far then t.unlocks + 1 else 0 }
    if st = 2 ∧ 4 ≤ s.ft.locks then s.toLocked
    else if s.ftState = 3 ∧ 2 ≤ s.ft.unlocks then s.toAcquire else s

/-- Both inputs good: the edge captured at `c` and the other input's last one, where they are of one pulse, that is less than half a
second apart, agree or disagree (R89). -/
def State.ppsCompare (s : State) (b : Bool) (c : Nat) : State :=
  match (if s.ppsGood false && s.ppsGood true then (s.pps (!b)).cap else none) with
  | none => s
  | some o =>
    if nsPerSec ≤ 2 * ((c : Int) - o).natAbs then s
    else
      let bad := decide (s.rd fFT_DISAGREE 0 < ((c : Int) - o).natAbs)
      let run := if s.ft.disSec.any fun l => decide (l < c ∧ 2 * c < 2 * l + 3 * nsPerSec) then s.ft.disagree else 0
      let n := if bad then run + 1 else 0
      let s := s.ftMod fun t => { t with disagree := n, disSec := some c }
      if 3 ≤ n then s.level 0x192 true else if n = 0 then s.level 0x192 false else s

/-- The seconds FT_SETSEC holds. -/
def State.setSec (s : State) : Nat := s.rd2 fFT_SETSEC_L fFT_SETSEC_H 0

/-- An armed or immediate SETARM moves the time by `d` ns (R92). -/
def State.armApply (s : State) (d : Int) : State :=
  let s := s.ftMod fun t => { t with setArm := false }
  if 2 ≤ s.dev then s.ftCorrect d else s.ftStep d

/-- An accepted edge of the source in use, captured at `c`; `named` is the second a message named for it (R91 to R93). -/
def State.ppsUse (s : State) (b : Bool) (c : Nat) (named : Option Nat) : State :=
  let armed := s.ft.setArm && s.rdb fFT_CTRL_TODMODE 0
  let sec := if armed then some s.setSec else if s.rdb fFT_CTRL_TODMODE 0 then none else named
  let move := sec.map fun n => (n * nsPerSec : Nat) - (c : Int)
  match s.ftState, move with
  | 0, some d => (s.ftMod fun t => { t with setArm := false }).ftLeaveUnset d true
  | 0, none => s
  | 1, some d => if s.ppsUsable b then (if armed then s.armApply d else s.ftCorrect d).toAcquire else s
  | 1, none => s
  | st, d => match (if armed then d else none) with
    | some d => if st = 4 ∧ s.ppsUsable b then (s.armApply d).toAcquire else s.armApply d
    | none => if s.ppsUsable b then s.ppsMeasure (phaseOf c) else s

/-- A message of the source in use that named second `n` for an edge, against the local second `here` of that edge (R91). -/
def State.todCompare (s : State) (b : Bool) (n here : Nat) : State :=
  if n = here then s.ppsMod b fun p => { p with offRun := 0 }
  else
    let run := if (s.pps b).offNext = n ∧ (s.pps b).offRun ≠ 0 then (s.pps b).offRun + 1 else 1
    let s := (s.inc fFT_TODMIS 0).ppsMod b fun p => { p with offRun := run, offNext := n + 1 }
    if 3 ≤ run then
      (s.ppsMod b fun p => { p with offRun := 0 }).ftCorrect (((n : Int) - here) * nsPerSec)
    else s

/-- The edge that a message of the input in use named has come, or its second has gone by: the message is compared with the local
second `here` (R91). -/
def State.todAtEdge (s : State) (b : Bool) (named : Option Nat) (here : Nat) : State :=
  match named with
  | some n => if 2 ≤ s.ftState ∧ s.srcB = b ∧ ¬ s.rdb fFT_CTRL_TODMODE 0 then s.todCompare b n here else s
  | none => s

/-- The capture of an edge with the board's delay taken off (R87): FT_OFS. -/
def State.ppsCorrected (s : State) (b : Bool) (t : Nat) : Nat :=
  shiftNs (-(toInt 32 (if b then s.rd fFT_OFS_B 0 else s.rd fFT_OFS_A 0))) t

/-- The captured edge reads in FT_CAPA or FT_CAPB. -/
def State.ppsRecord (s : State) (b : Bool) (t : Nat) : State :=
  if b then (s.wr fFT_CAPB_NS 0 (t % nsPerSec)).wr fFT_CAPB_SEC 0 (t / nsPerSec)
  else (s.wr fFT_CAPA_NS 0 (t % nsPerSec)).wr fFT_CAPA_SEC 0 (t / nsPerSec)

/-- FT_STAT.UNTRACE while the messages of an input have TRACEABLE 0 (R91). -/
def State.untraceNow (s : State) : State := s.wrb fFT_STAT_UNTRACE 0 (s.ft.a.untrace || s.ft.b.untrace)

/-- An edge of input `b` that `named` shows no message to have named: its messages do not continue (R91; log entry 106). -/
def State.todPause (s : State) (b : Bool) (named : Option Nat) : State :=
  if named.isSome then s else (s.ppsMod b fun p => { p with untrace := false }).untraceNow

/-- A rising edge of an input captured at `t`, high for `high` ns (R87).  An edge is captured within 4 ns. -/
def State.ppsEdge (s : State) (b : Bool) (t high : Nat) : State :=
  if ¬ s.ft.run ∨ high < 100 ∨ 4 < ((t : Int) - s.ft.now).natAbs then s
  else
    let c := s.ppsCorrected b t
    let named := (s.pps b).named
    let ok := s.ppsTakes b c
    let keep := !ok && decide (2 ≤ s.ftState)
    let s := (s.ppsRecord b t).ppsMod b fun p => { p with ref := some c, named := if keep then p.named else none }
    if ¬ ok then (s.inc (if b then fFT_BREJ else fFT_AREJ) 0).ppsMod b fun p => { p with streak := 0 }
    else
      let s := s.ppsMod b fun p => { p with cap := some c, streak := p.streak + 1 }
      let s := (s.todAtEdge b named (nearSec c)).todPause b named
      let s := if 3 ≤ (s.pps b).streak ∧ ¬ s.ppsGood b then s.ppsSetGood b true else s
      let s := (s.selectSrc).ppsCompare b c
      if s.srcB = b then s.ppsUse b c named else s

/-- An input has given no accepted edge in the window of its second (R87, R88): a message that named the edge is compared with the
second at which it was expected (R91), and where the other input takes over, its edge of the same second is the measurement.  A
pending SETARM is dropped with its source, and waits for the other's next edge where that takes over (log entry 106). -/
def State.ppsLost (s : State) (b : Bool) : State :=
  let was := s.srcB
  let s := (s.todAtEdge b (s.pps b).named (nearSec s.ft.now)).todPause b (s.pps b).named
  let s := s.ppsMod b fun p => { p with streak := 0, named := none }
  let s := s.when_ (b == was) State.servoAnew
  if ¬ s.ppsGood b then (if b = was then s.noSource else s)
  else
    let s := (s.ppsSetGood b false).selectSrc
    let s := s.ftMod fun t => { t with disagree := 0, setArm := t.setArm && (b != was || s.srcB != was) }
    let s := s.noSource
    match (if s.srcB ≠ was ∧ s.ppsUsable s.srcB ∧ 2 ≤ s.ftState then (s.pps s.srcB).cap else none) with
    | some c => if nearSec c = nearSec s.ft.now then s.ppsMeasure (phaseOf c) else s
    | none => s

/-! ### Time of day (R90 to R92) -/

/-- A message of R90 has the right type, status bits and CRC. -/
def todGood (bs : List Byte) : Bool :=
  bs.length == 10 && (bs.getD 0 0).toNat == 0x7E && (bs.getD 1 0).toNat == 0x46 && decide ((bs.getD 8 0).toNat < 2)
    && crc8 0 ((bs.drop 1).take 8) == (bs.getD 9 0).toNat

/-- A message discarded and counted (R91). -/
def State.todBad (s : State) : State := s.inc fFT_TODCRC 0

/-- A message that ends at `t` ends where R90 allows it after the last edge of its input. -/
def State.todInTime (s : State) (b : Bool) (t : Nat) : Bool :=
  match (s.pps b).cap with
  | none => true
  | some c => decide (100000000 ≤ (t - c) % nsPerSec ∧ (t - c) % nsPerSec ≤ 990000000)

/-- A complete message of an input (R91): `framed` where no byte had a framing error, ending at `t`: it names the next edge
of its input.  It is ignored where software names the seconds (R92), and so are bytes before a start byte. -/
def State.tod (s : State) (b : Bool) (bytes : List Byte) (framed : Bool) (t : Nat) : State :=
  if s.rdb fFT_CTRL_TODMODE 0 ∨ (bytes.getD 0 0).toNat ≠ 0x7E then s
  else if ¬ framed ∨ ¬ todGood bytes ∨ ¬ s.todInTime b t then s.todBad
  else
    let n := beBytes ((bytes.drop 2).take 6)
    (s.ppsMod b fun p => { p with named := some n, untrace := !bitOf (bytes.getD 8 0).toNat 0 }).untraceNow

/-! ### FT_CTRL (R86, R88, R92) -/

/-- SETARM (R92). -/
def State.ftSetarm (s : State) : State :=
  if s.ppsUsable s.srcB then s.ftMod fun t => { t with setArm := true }
  else
    let d : Int := (s.setSec * nsPerSec : Nat) - (s.ft.now : Int)
    if s.ftState = 0 then s.ftLeaveUnset d false else s.armApply d

/-- FORCESTEP applies a held step: what the slew has still to add (R86). -/
def State.ftForce (s : State) : State :=
  if s.rdb fFT_STAT_STEPHELD 0 ∧ 0 < s.ft.slew then s.ftStep (s.ft.slew / 2 ^ 40) else s

/-- A write of FT_CTRL that its access rules have passed: SRCMODE chooses the source anew (R88), and with
TODMODE 1 messages no longer count (R91, R92).  A SETARM write while
TODMODE = 0, before it or by it, is discarded (R92). -/
def State.ftCtrl (s : State) (val : Nat) : State :=
  if bitOf val 3 ∧ ¬ (s.rdb fFT_CTRL_TODMODE 0 ∧ bitOf val 2) then s.cfgErr 6
  else
  let had := s.anyUsable
  let s := ((s.setRW (fieldsAt fFT_CTRL_SRCMODE.addr) 0 val).selectSrc).when_ had State.noSource
  let s := s.when_ (s.rdb fFT_CTRL_TODMODE 0) fun s =>
    ((s.ppsMod false fun p => { p with untrace := false }).ppsMod true fun p => { p with untrace := false }).untraceNow
  let s := s.when_ (bitOf val 3) State.ftSetarm
  s.when_ (bitOf val 4) State.ftForce

/-! ### The running counter (R82, R83, R94) -/

/-- What one tick adds to the counter at `rate` ppb, in 2^-40 ns (R83). -/
def tickAdd (rate : Int) : Nat := (4 * 2 ^ 40 + 4 * 2 ^ 40 * rate / 1000000000).toNat

/-- What one tick of a slew removes, in 2^-40 ns: 100 ppm (R86). -/
def slewTick : Nat := 4 * 2 ^ 40 / 10000

/-- Ticks until the slew in progress is used up. -/
def State.slewTicks (s : State) : Nat := ceilDiv s.ft.slew.natAbs slewTick

/-- `k` ticks at the rate that FT_RATE has (R82, R83). -/
def State.ftTicks (s : State) (k : Nat) : State :=
  let acc := s.ft.frac + k * tickAdd (toInt 32 (s.rd fFT_RATE 0))
  let part : Int := k * slewTick
  s.ftMod fun t =>
    { t with now := (t.now + acc / 2 ^ 40) % ftSpan, frac := acc % 2 ^ 40
             slew := if t.slew < 0 then min 0 (t.slew + part) else max 0 (t.slew - part) }

/-- The slew in progress is used up, and so is a held step (R86). -/
def State.slewDone (s : State) : State := (s.slewBy 0).heldDrop

/-- `k` ticks of the counter: FT_RATE changes at the tick at which a slew ends. -/
def State.ftRun (s : State) (k : Nat) : State :=
  let m := s.slewTicks
  if s.ft.slew = 0 ∨ k < m then s.ftTicks k else (((s.ftTicks m).slewDone).ftTicks (k - m))

/-- Ticks until the counter first reaches `t` (R508): 0 where it has. -/
def State.ticksTo (s : State) (t : Nat) : Nat :=
  let have_ := s.ft.now * 2 ^ 40 + s.ft.frac
  let (m, a) := (s.slewTicks, tickAdd (toInt 32 (s.rd fFT_RATE 0)))
  let left := t * 2 ^ 40 - have_
  if s.ft.slew = 0 ∨ left ≤ m * a then ceilDiv left a
  else m + ceilDiv (left - m * a) (tickAdd (clampRate 300000 s.ft.servo))

/-- HOLDSEC and HOLDERR brought up to date (R94). -/
def State.holdCount (s : State) : State :=
  if s.ftState = 4 then
    let h := min 0xFFFF ((s.pwr.ns - s.ft.holdAt) / nsPerSec)
    (s.wr fFT_STAT_HOLDSEC 0 h).wr fFT_HOLDERR 0 (min 0xFFFFFFFF (h * s.rd fFT_HOLDPPB 0))
  else s

/-- The Leat wave of start-up is over once it has begun (R81, log entry 107). -/
def State.waveOver (s : State) : State := if s.rd fPWR_START_PHASE 0 = 7 then s.wr fPWR_START_PHASE 0 8 else s

/-- `k` ticks of 4 ns pass: the counter runs where its PLL does, and core cycles are counted and classified (R82, R435, R441). -/
def State.timeRuns (s : State) (k : Nat) : State :=
  let s := (s.pwrMod fun p => { p with ns := p.ns + 4 * k }).waveOver
  let s := s.when_ s.ft.run fun s => s.ftRun k
  let s := s.holdCount
  let n := s.flm.milli + 4 * k * s.rd fARCH_CORECLK_MHZ 0
  (s.coreCycles (n / 1000 - s.flm.milli / 1000)).flmMod fun f => { f with milli := n }

end Sys2Proof.Machine
end

