-- ==== Sys2Proof/Machine/Flm.lean ====
section
/-! DEFINITION. Flume snapshots, dumps, and the settings of counters and rings (R433 to R448); and the completion timeout of what
the device itself has asked for (R408). -/

namespace Sys2Proof.Machine

/-! ### Banks and dumps (R440, R442) -/

/-- Shadow bank `b`. -/
def State.bank (s : State) (b : Nat) : Option Snap := if b = 0 then s.flm.bank0 else s.flm.bank1

/-- Shadow bank `b` set. -/
def State.setBank (s : State) (b : Nat) (v : Option Snap) : State :=
  s.flmMod fun f => if b = 0 then { f with bank0 := v } else { f with bank1 := v }

/-- The dump in progress on ring `r`. -/
def State.dumpOn (s : State) (r : Nat) : Option Dump := if r = 0 then s.flm.dump0 else s.flm.dump1

/-- The dump in progress on ring `r` set. -/
def State.setDump (s : State) (r : Nat) (v : Option Dump) : State :=
  s.flmMod fun f => if r = 0 then { f with dump0 := v } else { f with dump1 := v }

/-- Ring `r` is writing bank `b`. -/
def State.dumpsBank (s : State) (r b : Nat) : Bool :=
  match s.dumpOn r with
  | some d => d.bank == b
  | none => false

/-- Bank `b` is held: a dump of it is in progress or waits (R440). -/
def State.bankHeld (s : State) (b : Nat) : Bool :=
  s.dumpsBank 0 b || s.dumpsBank 1 b || s.flm.waits.any fun w => w.2.1 == b

/-- A request of the Tender for a dump of bank `b`. -/
def isDumpMsg (b : Nat) (m : Msg) : Bool := m.src == 0x7F && m.tag == dumpTag b

/-- A write or proving read of a dump of bank `b` is in flight (R443). -/
def State.dumpFlying (s : State) (b : Nat) : Bool :=
  (s.swc.msgs.any fun d => isDumpMsg b d.m) || (s.swc.waiting.any fun w => isDumpMsg b w.2.1)
    || s.swc.owed.any fun o => isDumpMsg b o.m

/-- A bank that no dump holds any more is let go, and BANKBUSY tells which are held. -/
def State.banksSettle (s : State) : State :=
  let s := s.each [0, 1] fun s b => if s.bankHeld b then s else s.setBank b none
  s.wr fFLM_STAT_BANKBUSY 0 (b2n (s.bankHeld 0) + 2 * b2n (s.bankHeld 1))

/-- LASTRES of ring `r` (R448). -/
def State.lastRes (s : State) (r v : Nat) : State := s.wr (if r = 0 then fFLM_STAT_LASTRES0 else fFLM_STAT_LASTRES1) 0 v

/-! ### The dump image (R441) -/

/-- The 64-bit word `w` of the image of a snapshot, from offset 0x100 on. -/
def snapWord (n : Snap) (w : Nat) : Nat :=
  if w < 32 then 0
  else if w < 64 then SMap.get 0 n.census (2 * (w - 32)) + 2 ^ 32 * SMap.get 0 n.census (2 * (w - 32) + 1)
  else if w < 192 then SMap.get 0 n.censusG (2 * (w - 64)) + 2 ^ 32 * SMap.get 0 n.censusG (2 * (w - 64) + 1)
  else if 512 ≤ w ∧ w < 768 then SMap.get 0 n.cnt (8192 + (w - 512))
  else if 1024 ≤ w ∧ w < 4864 then SMap.get 0 n.cnt (8448 + (w - 1024))
  else if 8192 ≤ w ∧ w < 16384 then SMap.get 0 n.cnt (w - 8192)
  else 0

/-- The CRC of a dump (R232, R441): over bytes 0x100 to 0x1_FFFF. -/
def snapCrc (n : Snap) : Nat := crc32 ((List.range (16384 - 32)).flatMap fun i => toLeBytes 8 (snapWord n (32 + i)))

/-- FLAGS of a dump's header. -/
def snapFlags (n : Snap) : Nat := n.flags + 16 * n.qual + 64 * b2n (n.cnt.any fun e => e.2 == flmMarker)

/-- The header of dump number `q` on ring `r`, as one number of 256 bytes (R441). -/
def State.dumpHeader (s : State) (r q : Nat) (n : Snap) : Nat :=
  let prev := if r = 0 then s.flm.prev0 else s.flm.prev1
  0x464C4D44 + 2 ^ 32 + s.ownNode * 2 ^ 48 + snapFlags n * 2 ^ 56 + n.seq % 2 ^ 64 * 2 ^ 64
    + n.ns * 2 ^ 128 + n.sec % 2 ^ 48 * 2 ^ 160 + n.profile * 2 ^ 208 + n.tileRst * 2 ^ 216
    + prev.2 * 2 ^ 224 + prev.1 % 2 ^ 48 * 2 ^ 256 + n.coreMhz * 2 ^ 304 + n.cycles % 2 ^ 64 * 2 ^ 320
    + q % 2 ^ 64 * 2 ^ 384 + (s.rd fBOOT_SERIAL_SERIAL 0 + 2 ^ 32 * s.rd fBOOT_SERIAL_SERIAL 1) * 2 ^ 448
    + n.skipped * 2 ^ 512 + snapCrc n * 2 ^ 544

/-- The 64 bytes of line `i` of a dump, as one number: lines 0 to 3 are the header. -/
def State.dumpLine (s : State) (r q : Nat) (n : Snap) (i : Nat) : Nat :=
  if i < 4 then bitsOf (s.dumpHeader r q n) (512 * i) 512
  else ((List.range 8).map fun j => snapWord n (8 * i + j) * 2 ^ (64 * j)).sum

/-! ### Writing a dump (R442, R443) -/

/-- The address of dump number `q` on ring `r` (R442). -/
def State.dumpAddr (s : State) (r q : Nat) : Nat :=
  s.rd2 fFLM_RING_BASE_L fFLM_RING_BASE_H r + 0x20000 * ((q - 1) % 2 ^ s.rd fFLM_RING_SLOTS r)

/-- A write of 64 bytes at address `a` of ring `r`'s space sent as the Tender's, and whether it went out.  One into fabric memory is
checked at the internal gate by its fabric address before it is translated (R283, R284). -/
def State.dumpWrite (s : State) (r b a data : Nat) : Bool × State :=
  if s.rdb fFLM_RING_SPACE r then
    let p := s.rd fFLM_RING_PORT r
    if s.upstream p && s.dlUp p then (true, s.tenderSend (tenderIo s.ownNode p a 64 (dumpTag b) (some data))) else (false, s)
  else
    let sh := (s.regionOf a).isSome
    let m : Msg := { kind := if sh then .wmReqData else .memRwd, act := .write, op := if sh then 5 else 4, node := s.ownNode,
                     snode := s.ownNode, src := 0x7F, tag := dumpTag b, len := 80, addr := a, tgt := a, data := data,
                     be := 2 ^ 64 - 1, chk := some (s.rd fCHK_GATE_EPOCH 64) }
    let (v, s) := s.innerCheck false m 64 true
    if v ≠ 0 then (false, s)
    else match s.byFabric m a with
    | .send m =>
      match s.egressOf m with
      | some e => if e < 64 ∧ ¬ s.dlUp e then (false, s) else (true, s.inject 92 m)
      | none => (false, s)
    | .deny reason at_ => (false, s.xltDeny 92 m reason at_)
    | .lost => (false, s)

/-- Lines `is` of a dump written, up to the first that does not go out; a dump in host memory is proved by a flush read. -/
def State.dumpLines (s : State) (r : Nat) (d : Dump) (n : Snap) (is : List Nat) : Bool × State :=
  let base := s.dumpAddr r d.seq
  let (ok, s) := is.foldl (fun st i =>
    if st.1 then st.2.dumpWrite r d.bank (base + 64 * i) (s.dumpLine r d.seq n i) else st) (true, s)
  if ok && s.rdb fFLM_RING_SPACE r then
    (true, s.tenderSend (tenderIo s.ownNode (s.rd fFLM_RING_PORT r) base 0 (dumpTag d.bank) none))
  else (ok, s)

/-- The dump of ring `r` ends with LASTRES `v`. -/
def State.dumpEnd (s : State) (r v : Nat) : State := ((s.setDump r none).lastRes r v).banksSettle

/-- The dump of ring `r` fails (R443). -/
def State.dumpFail (s : State) (r : Nat) : State := ((s.dumpEnd r 2).inc fFLM_ERR_WRFAIL 0).pulse 0x1F0

/-- The lines of a dump's body (R441). -/
def bodyLines : List Nat := (List.range 2044).map (4 + ·)

/-- A dump of bank `b` starts on ring `r`: its body goes out (R442). -/
def State.dumpStart (s : State) (r b : Nat) (late : Bool) : State :=
  match s.bank b with
  | none => s
  | some n =>
    let q := s.rd2 fFLM_RING_RINGSEQ_L fFLM_RING_RINGSEQ_H r + 1
    let d : Dump := { bank := b, seq := q, late := late }
    let s := ((s.wr2 fFLM_RING_RINGSEQ_L fFLM_RING_RINGSEQ_H r q).setDump r (some d))
    let u := s.dumpLines r d n bodyLines
    if u.1 then u.2 else u.2.dumpFail r

/-- Dumps that wait and whose turn has come start: one at a time on a ring, and of a bank; `k` bounds the rounds. -/
def State.dumpPump : Nat → State → State
  | 0, s => s
  | k + 1, s =>
    match s.flm.waits.find? fun w => (s.dumpOn w.1).isNone && !s.dumpsBank (1 - w.1) w.2.1 with
    | none => s
    | some w =>
      State.dumpPump k ((s.flmMod fun f => { f with waits := f.waits.erase w }).dumpStart w.1 w.2.1 w.2.2)

/-- Every dump whose turn has come starts, and banks no longer held are let go. -/
def State.dumpsGo (s : State) : State := (State.dumpPump s.flm.waits.length s).banksSettle

/-- Every dump of bank `b` abandoned unfinished (R440). -/
def State.bankAbandon (s : State) (b : Nat) : State :=
  let s := s.flmMod fun f => { f with waits := f.waits.filter fun w => w.2.1 != b }
  s.each [0, 1] fun s r => if s.dumpsBank r b then (s.setDump r none).lastRes r 3 else s

/-! ### Snapshots (R439, R440) -/

/-- The census of one kind (R441): by owner port of this node, or by share group. -/
def State.censusOf (s : State) (groups : Bool) : SMap Nat :=
  (s.xlt.map.filter fun e => eState e.2 == 2 && eShared e.2 == groups
      && (groups || eOwn e.2 / 64 == s.ownNode)).foldl
    (fun c e => SMap.mod 0 c (if groups then eOwn e.2 % 256 else eOwn e.2 % 64) (· + 1)) []

/-- The block that holds counter `c` is out of a gather's reach (R446): the Headworks of a tile whose Culvert is down (R384), a
Runnel group behind its domain's boundary (R382), for a counter of one engine's events, and all of tile C while a HOLD is held (R398);
log entry 77. -/
def State.flmCut (s : State) (c : Nat) : Bool :=
  if 8448 ≤ c ∧ c < 10496 then bitOf s.pwr.culvert (flmGroup c)
  else (s.spw.held.any fun e => e.2 == 8)
    || (let k := c - 8448
        decide (11776 ≤ c ∧ 0x30 ≤ s.rd fFLM_EVT_EVT k ∧ s.rd fFLM_EVT_EVT k < 0x33 ∧ s.rd fFLM_EVT_PARAM k < 32)
          && !s.domOn (80 + s.rd fFLM_EVT_PARAM k / 8))

/-- The counters as a gather takes them: one out of reach has its last gathered value (R439, R446). -/
def State.gathered (s : State) : SMap Nat :=
  (s.flm.last.cnt.filter fun e => s.flmCut e.1).foldl (fun m e => SMap.set 0 m e.1 e.2)
    (s.flm.cnt.filter fun e => !s.flmCut e.1)

/-- What a snapshot taken now copies, with FLAGS bits 0 to 3 as given. -/
def State.snapNow (s : State) (flags : Nat) : Snap :=
  { flags := flags, seq := s.rd2 fFLM_SNAPSEQ_L_SEQ_L fFLM_SNAPSEQ_H_SEQ_H 0 + 1, ns := s.ftNs, sec := s.ftSec, qual := s.ftQual
    cnt := s.gathered, census := s.censusOf false, censusG := s.censusOf true, profile := s.rd fARCH_PROFILE_ACTIVE 0
    tileRst := s.flm.tileRst, coreMhz := s.rd fARCH_CORECLK_MHZ 0, cycles := s.flm.milli / 1000
    skipped := s.rd fFLM_SKIP_SKIPPED 0 }

/-- A snapshot copied into bank `b`, with its dumps in their order (R442). -/
def State.snapInto (s : State) (b flags : Nat) : State :=
  let n := s.snapNow flags
  let rings := (if bitOf flags 1 then [1] else []) ++ (if bitOf flags 0 || bitOf flags 2 then [0] else [])
  let ws := (rings.filter fun r => s.rdb fFLM_RING_EN r).map fun r => (r, b, false)
  let s := (s.setBank b (some n)).wr2 fFLM_SNAPSEQ_L_SEQ_L fFLM_SNAPSEQ_H_SEQ_H 0 n.seq
  let s := s.flmMod fun f => { f with last := n, tileRst := 0, waits := f.waits ++ ws }
  (s.when_ (bitOf flags 0 && s.rdb fACQ_RSCTL_AUTO 0) State.statSnap).dumpsGo

/-- The bank that a minute snapshot may take (R440): of those without a minute dump, the one taken first. -/
def State.bankToTake (s : State) : Option Nat :=
  let age := fun b => match s.bank b with
    | some n => n.seq
    | none => 0
  let minute := fun b => s.bankHeld b && (match s.bank b with
    | some n => bitOf n.flags 1
    | none => false)
  (sortBy age [0, 1]).find? fun b => !minute b

/-- A snapshot with FLAGS bits 0 to 3 as given: in a free bank; a minute snapshot takes one; else it is skipped (R440). -/
def State.snapshot (s : State) (flags : Nat) : State :=
  match [0, 1].find? fun b => !s.bankHeld b && !s.dumpFlying b with
  | some b => s.snapInto b flags
  | none =>
    match (if bitOf flags 1 then s.bankToTake else none) with
    | some b => ((s.bankAbandon b).pulse 0x1F1).snapInto b flags
    | none => (s.inc fFLM_SKIP_SKIPPED 0).pulse 0x1F1

/-- The last whole second up to now that is an epoch boundary and has not been looked at (R439). -/
def State.epochDue (s : State) : Option Nat :=
  let t := s.ftSec - s.ftSec % s.rd fFLM_CTL_EPSEC 0
  if s.flm.epSeen < t then some t else none

/-- The last minute boundary up to now that has not been looked at (R96, R99). -/
def State.minuteDue (s : State) : Option Nat :=
  let o := s.rd fFT_MINOFS 0
  if s.ftSec < o ∨ s.ftState = 0 then none
  else
    let t := s.ftSec - (s.ftSec - o) % 60
    if s.flm.minSeen < t then some t else none

/-- Boundaries up to second `t` have been looked at. -/
def State.flmSeen (s : State) (t : Nat) : State :=
  s.flmMod fun f => { f with epSeen := max f.epSeen t, minSeen := max f.minSeen t }

/-- The next epoch boundary to be looked at, present or to come, in seconds (R439). -/
def State.epochNext (s : State) : Nat :=
  let e := max 1 (s.rd fFLM_CTL_EPSEC 0)
  s.epochDue.getD ((max s.ftSec s.flm.epSeen / e + 1) * e)

/-- The next minute boundary to be looked at; none while UNSET (R96, R99). -/
def State.minuteNext (s : State) : Option Nat :=
  let b := max s.ftSec s.flm.minSeen + 60
  if s.ftState = 0 then none else some (s.minuteDue.getD (b - (b - s.rd fFT_MINOFS 0) % 60))

/-- The Flume's two targets, in nanoseconds. -/
def State.flmTargets (s : State) : List Nat := (s.epochNext :: s.minuteNext.toList).map (· * nsPerSec)

/-- The snapshot of the boundary at `t` ns, if there is one: an epoch and a minute of one second share it (R439), and one that a
forward step has passed is marked (R99). -/
def State.boundary (s : State) (t : Nat) : State :=
  let ep := s.epochDue == some (t / nsPerSec) && t % nsPerSec == 0
  let mi := s.minuteDue == some (t / nsPerSec) && t % nsPerSec == 0
  if ep ∨ mi then (s.snapshot (b2n ep + 2 * b2n mi + 8 * b2n s.ft.jump)).flmSeen (t / nsPerSec) else s

/-- An uncorrectable error in counter `c`, or in filter set `c` − 12,288 (R446). -/
def State.flmLost (s : State) (c : Nat) : State :=
  if c < 12288 then
    (s.flmMod fun f => { f with cnt := SMap.set 0 f.cnt c flmMarker }).wr fFLM_ERR_UNCID 0 c
  else
    (s.flmMod fun f => { f with badFilt := (c - 12288) :: f.badFilt.filter (· != c - 12288) }).wr fFLM_ERR_UNCID 0 0x3FFF

/-- Errors that a gather meets, as (counter, or 12,288 + filter set; uncorrectable) (R446). -/
def State.flmErrs (s : State) (errs : List (Nat × Bool)) : State :=
  s.each errs fun s e => if e.2 then s.flmLost e.1 else s.inc fFLM_ECCCNT_ECCCOR 0

/-! ### Commands -/

/-- FLM_SNAP: a keyed write takes a manual snapshot (R439, R448). -/
def execFlmSnap (val : Nat) (s : State) : Host.Outcome State Fault Refusal :=
  onUnit (decide (val < 2 ^ 32)) (if bitsOf val 24 8 = 0xF1 ∧ bitOf val 0 then s.snapshot 4 else s)

/-- DUMP_BODY_PROVEN: the body is proved, and the header goes out (R442); a denied write of it fails the dump (R443). -/
def execDumpBodyProven (r : Nat) (s : State) : Host.Outcome State Fault Refusal :=
  onUnit (decide (r < 2))
    (match s.dumpOn r with
    | none => s
    | some d =>
      match s.bank d.bank with
      | none => s
      | some n =>
        if d.body then s
        else if d.denied then (s.dumpFail r).dumpsGo
        else
          let (ok, s) := (s.setDump r (some { d with body := true })).dumpLines r d n [0, 1, 2, 3]
          if ok then s else (s.dumpFail r).dumpsGo)

/-- DUMP_COMPLETE: the header is proved; the dump is written whole (R442), unless a write of the header was denied (R443). -/
def execDumpComplete (r : Nat) (s : State) : Host.Outcome State Fault Refusal :=
  onUnit (decide (r < 2))
    (match s.dumpOn r with
    | none => s
    | some d =>
      if d.body ∧ d.denied then (s.dumpFail r).dumpsGo
      else if d.body then
        let t := match s.bank d.bank with
          | some n => (n.sec, n.ns)
          | none => (0, 0)
        let s := (s.wr fFLM_RING_LASTOK_L r d.seq).flmMod fun f => if r = 0 then { f with prev0 := t } else { f with prev1 := t }
        (s.dumpEnd r 1).dumpsGo
      else s)

/-- DUMP_FAIL: a write or proving read was denied, failed or timed out, or the port's link went down (R443). -/
def execDumpFail (r : Nat) (s : State) : Host.Outcome State Fault Refusal :=
  onUnit (decide (r < 2)) (if (s.dumpOn r).isSome then (s.dumpFail r).dumpsGo else s)

/-- A dump is reported late (R443). -/
def State.flmLate (s : State) : State := (s.inc fFLM_ERR_LATE 0).pulse 0x1F1

/-- DUMP_LATE: the dump of ring `r`, in progress or waiting, is unfinished LATEMS after its snapshot (R443). -/
def execDumpLate (r : Nat) (s : State) : Host.Outcome State Fault Refusal :=
  onUnit (decide (r < 2))
    (match s.dumpOn r, s.flm.waits.find? fun w => w.1 == r && !w.2.2 with
    | some d, w =>
      if ¬ d.late then (s.setDump r (some { d with late := true })).flmLate
      else match w with
        | some w => (s.flmMod fun f => { f with waits := f.waits.map fun v => if v = w then (v.1, v.2.1, true) else v }).flmLate
        | none => s
    | none, some w => (s.flmMod fun f => { f with waits := f.waits.map fun v => if v = w then (v.1, v.2.1, true) else v }).flmLate
    | none, none => s)

/-- FLM_ZERO: a keyed write zeroes one counter, and a marked one counts again (R445, R446). -/
def execFlmZero (val : Nat) (s : State) : Host.Outcome State Fault Refusal :=
  let c := bitsOf val 0 14
  onUnit (decide (val < 2 ^ 32))
    (if bitsOf val 24 8 ≠ 0xD3 then s
    else if 12288 ≤ c then s.cfgErr 20
    else s.flmMod fun f => { f with cnt := SMap.set 0 f.cnt c 0 })

/-! ### Counter definitions, filter sets and rings (R437, R438, R444, R448) -/

/-- The events of R437: code, first and last group that may name it, whether it carries a message, UNITs offered as bits, the
highest specific PARAM, and the value for any (the same where there is none). -/
def flmEvents : List (Nat × Nat × Nat × Bool × Nat × Nat × Nat) :=
  [(0x01, 0, 3, true, 7, 71, 0x7F), (0x02, 0, 3, true, 7, 71, 0x7F), (0x03, 0, 3, true, 1, 1023, 1023),
   (0x04, 0, 3, true, 3, 63, 0x7F), (0x05, 0, 3, false, 1, 63, 0x7F), (0x06, 0, 3, false, 1, 7, 0x7F),
   (0x07, 0, 3, false, 1, 63, 0x7F), (0x10, 4, 4, true, 7, 92, 0x7F), (0x11, 4, 4, false, 1, 575, 0x3FF),
   (0x12, 4, 4, true, 1, 1023, 1023), (0x13, 4, 4, true, 1, 1023, 1023), (0x14, 4, 4, true, 3, 1023, 1023),
   (0x15, 4, 4, true, 3, 1023, 1023), (0x20, 5, 5, true, 1, 15, 0x7F), (0x21, 5, 5, true, 1, 15, 0x7F),
   (0x22, 5, 5, true, 1, 15, 0x7F), (0x23, 5, 5, true, 1, 15, 0x7F), (0x24, 5, 5, false, 1, 15, 0x7F),
   (0x25, 5, 5, true, 1, 15, 0x7F), (0x30, 6, 6, true, 3, 31, 0x7F), (0x31, 6, 6, true, 3, 31, 0x7F),
   (0x32, 6, 6, true, 1, 31, 0x7F), (0x33, 6, 6, true, 1, 1023, 1023)]

/-- A specific PARAM of an Hn event names a unit of tile `g` (R437): a port or link, a link, or a port. -/
def paramOnTile (code g p : Nat) : Bool :=
  if code = 0x06 then tileOfLink p == g
  else if code = 0x01 ∨ code = 0x02 then (if p < 64 then tileOfPort p == g else tileOfLink (p - 64) == g)
  else tileOfPort p == g

/-- Word 0 of FLM_EVTc as R437 admits it. -/
def flmEvtOk (c val : Nat) : Bool :=
  let g := flmGroup c
  let p := bitsOf val 20 10
  match flmEvents.find? fun e => e.1 == bitsOf val 1 8 with
  | none => false
  | some (code, g0, g1, carries, units, top, any_) =>
    decide (g0 ≤ g ∧ g ≤ g1) && bitOf units (bitsOf val 9 2) && (carries || !bitOf val 11)
      && (flmNoParam code || p == any_
          || (decide (p ≤ top) && (decide (3 < g) || paramOnTile code g p)))

/-- The instance and slot that counter 8,448 + `k` is mapped to (R444). -/
def State.flmSlot (s : State) (k : Nat) : Option (Nat × Nat) :=
  let f := s.rd fFLM_EVT_FSEL k
  if s.rdb fFLM_EVT_VIS k && s.rdb fFLM_EVT_FEN k && s.rd fFLM_FILT_INITMODE f == 2
      && s.rd fFLM_FILT_LO f == s.rd fFLM_FILT_HI f && !s.rdb fFLM_FILT_TNANY f && s.rd fFLM_FILT_TNODE f == s.ownNode then
    some (s.rd fFLM_FILT_LO f, s.rd fFLM_EVT_TSLOT k)
  else none

/-- Two counters are mapped to one slot of one instance. -/
def State.flmSlotClash (s : State) : Bool :=
  let ms := (s.listed fFLM_EVT_VIS).filterMap s.flmSlot
  decide ¬ ms.Nodup

/-- FLM_EVT_WRITE: word `word` of FLM_EVTc (R437, R444). -/
def execFlmEvtWrite (c word val : Nat) (s : State) : Host.Outcome State Fault Refusal :=
  let fs := wordFields 0x1410000 word 2
  let t := s.takeWord fs (c - 8448) val
  onUnit (decide (8448 ≤ c ∧ c < 12288 ∧ word < 2 ∧ val < 2 ^ 32))
    (if (word = 0 ∧ ¬ flmEvtOk c val) ∨ t.flmSlotClash then s.cfgErr 20 else t)

/-- Filter set `f` is as R438 admits it. -/
def State.filtOk (s : State) (f : Nat) : Bool :=
  decide (s.rd fFLM_FILT_LO f ≤ s.rd fFLM_FILT_HI f)
    && decide (s.rd2 fFLM_FILT_ADDRLO_L fFLM_FILT_ADDRLO_H f ≤ s.rd2 fFLM_FILT_ADDRHI_L fFLM_FILT_ADDRHI_H f)

/-- FLM_FILT_WRITE: word `word` of FLM_FILTf (R438); the two halves of an address are taken together (R9). -/
def execFlmFiltWrite (f word val : Nat) (s : State) : Host.Outcome State Fault Refusal :=
  let a := 0x1420000 + 0x20 * f + 4 * word
  let fs := wordFields 0x1420000 word 8
  let u := if word = 5 ∨ word = 7 then s.takeStaged (a - 4) f (wordFields 0x1420000 (word - 1) 8) else s
  let t := u.takeWord fs f val
  onUnit (decide (f < 256 ∧ word < 8 ∧ val < 2 ^ 32))
    (if word = 4 ∨ word = 6 then s.stageLow a val
    else if s.discards fs f val then s
    else if ¬ t.filtOk f ∨ t.flmSlotClash then ({ s with stage := u.stage } : State).cfgErr 20
    else t.flmMod fun g => { g with badFilt := g.badFilt.filter (· != f) })

/-- FLM_RING_WRITE: word `word` of FLM_RINGr (R448): while a dump to the ring is in progress only a write that clears EN is taken,
and abandons it. -/
def execFlmRingWrite (r word val : Nat) (s : State) : Host.Outcome State Fault Refusal :=
  let a := 0x1400040 + 0x20 * r + 4 * word
  let fs := wordFields 0x1400040 word 8
  let busy := (s.dumpOn r).isSome
  let off := word == 0 && !bitOf val 0
  onUnit (decide (r < 2 ∧ word < 8 ∧ val < 2 ^ 32))
    (if s.discards fs r val ∨ 2 < word then s
    else if busy ∧ ¬ off then s.cfgErr 20
    else if word = 1 then s.stageLow a val
    else
      let t := (if word = 2 then s.takeStaged (a - 4) r (fieldsAt 0x1400044) else s).takeWord fs r val
      if off then
        let t := t.flmMod fun f => { f with waits := f.waits.filter fun w => w.1 != r }
        (if busy then t.dumpEnd r 3 else t).dumpsGo
      else t)

/-! ### Completion timeouts of the device's own requests (R408) -/

/-- DEVICE_CPL_TIMEOUT: a request that the device sent out of port `p` has no completion within SPW_CPLTOn (R408): a pool access
fails as R228 gives, a write-back of the log as R363, a dump as R443.  A completion that comes later finds no request. -/
def execDeviceCplTimeout (p tag : Nat) (s : State) : Host.Outcome State Fault Refusal :=
  let own := fun (o : Owed) => o.x == p && o.m.tag == tag && (o.m.src == 0x7F || (decide (0x40 ≤ o.m.src ∧ o.m.src < 0x50)))
  onUnit (decide (p < 64 ∧ tag < 2 ^ 64))
    (match s.swc.owed.find? own with
    | none => s
    | some o =>
      let s := (s.swcMod fun w => { w with owed := w.owed.erase o }).pulse (0x128 + p)
      if o.m.src ≠ 0x7F then
        (if o.m.isWrite then s.poolWritten (lineOfMsg o.m) false
          else s.poolData (lineOfMsg o.m) (s.lostData (lineOfMsg o.m)).1 true).runDeferred
      else if tag = dumpTag 0 ∨ tag = dumpTag 1 then
        let b := tag - dumpTag 0
        let s := s.each [0, 1] fun s r => if s.dumpsBank r b then s.dumpFail r else s
        s.dumpsGo
      else match s.ten.backs.find? fun k => logTag k.id == tag && k.phase != 0 with
        | some k => s.backEnd k false
        | none => s)

end Sys2Proof.Machine
end

