-- ==== Sys2Proof/Machine/View.lean ====
section
/-! DEFINITION. What a read of a register address returns (R9, R10, R12, R21): stored fields, values that follow from other state,
latched halves, blocks that cannot be reached; and what the read does. -/

namespace Sys2Proof.Machine

/-! ### Values that follow from other state -/

/-- A bit mask of the numbers below `n` that `p` holds of. -/
def maskWhere (n : Nat) (p : Nat → Bool) : Nat := ((List.range n).map fun i => b2n (p i) * 2 ^ i).sum

/-- The fields that are not stored, by the address of their register: each with its value for instance `i`. -/
def derivedTable : List (Nat × (State → Nat → List (Fld × Nat))) :=
  [(fARCH_FTCMP_USED.addr, fun s _ => [(fARCH_FTCMP_USED, s.claims)]),
   (fARCH_APPREMAIN_REMAIN.addr, fun s _ =>
     [(fARCH_APPREMAIN_REMAIN, if s.phaseNow = 2 then s.rd fRSV_CELLS_CELLS 0 - s.rd fRSV_FREE_FREE 0
       else if s.phaseNow = 3 then s.wm.ways.length else 0)]),
   (fPWR_START_ELAPSED.addr, fun s _ => [(fPWR_START_ELAPSED, min 0xFFFF ((s.pwr.ns - s.pwr.start) / 1000000))]),
   (fPWR_CLKSTAT_OK.addr, fun s _ =>
     [(fPWR_CLKSTAT_OK, maskWhere 24 fun i => bitOf (s.rd fPWR_CLKSTAT_OK 0) i && s.clockChecked (328 + i))]),
   (fSER_RXEQ_CTLE.addr, fun s l =>
     [(fSER_RXEQ_CTLE, (s.rxeq l).1), (fSER_RXEQ_VGA, (s.rxeq l).2.1), (fSER_RXEQ_DFE1, (s.rxeq l).2.2)]),
   (fFT_NOWNS_NS.addr, fun s _ => [(fFT_NOWNS_NS, s.ftNs)]),
   (fFT_NOWSECL_SECL.addr, fun s _ => [(fFT_NOWSECL_SECL, s.ftSec)]),
   (fFT_NOWSECH_SECH.addr, fun s _ => [(fFT_NOWSECH_SECH, s.ftSec / 2 ^ 32)]),
   (fFT_STAT_STATE.addr, fun s _ => [(fFT_STAT_QUAL, s.ftQual)]),
   (fDVSEC_PARTCODE.addr, fun s _ =>
     [(fDVSEC_PARTCODE, s.rd fBOOT_ID_PARTCODE 0), (fDVSEC_STEPPING, s.rd fBOOT_ID_STEPPING 0),
      (fDVSEC_NODE_ID, s.rd fPKG_STRAP_NODE_ID 0), (fDVSEC_PROFILE, s.rd fARCH_PROFILE_ACTIVE 0), (fDVSEC_DEVSTATE, s.dev)]),
   (fDVSEC_PORT.addr, fun s p =>
     [(fDVSEC_PORT, p), (fDVSEC_MGRPORT, b2n (s.isManager p)), (fDVSEC_REGACC, s.rd fPRT_PORTCFG_REGACC p)]),
   (fDVSEC_TIFIRST.addr, fun s p =>
     [(fDVSEC_TIFIRST, 64 * s.rd fPRT_TIBLK_BASE p), (fDVSEC_TICOUNT, 64 * s.rd fPRT_TIBLK_CNT p)]),
   (fDVSEC_SERIAL_L.addr, fun s _ => [(fDVSEC_SERIAL_L, s.rd fBOOT_SERIAL_SERIAL 0)]),
   (fDVSEC_SERIAL_H.addr, fun s _ => [(fDVSEC_SERIAL_H, s.rd fBOOT_SERIAL_SERIAL 1)]),
   (fDVSEC_FT_NS.addr, fun s _ => [(fDVSEC_FT_NS, s.ftNs)]),
   (fDVSEC_FT_SECL.addr, fun s _ => [(fDVSEC_FT_SECL, s.ftSec)]),
   (fDVSEC_FT_SECH.addr, fun s _ => [(fDVSEC_FT_SECH, s.ftSec / 2 ^ 32), (fDVSEC_FT_QUAL, s.ftQual)]),
   (fLEAT_GSTAT_NODE.addr, fun s _ => [(fLEAT_GSTAT_NODE, s.ownNode)]),
   (fWM_SLICE_OPEN.addr, fun s sl => [(fWM_SLICE_OPEN, s.openIn sl), (fWM_SLICE_OCELLS, s.ocellsIn sl)]),
   (fWM_SLICE_RSVQ.addr, fun s sl => [(fWM_SLICE_RSVQ, s.rsvIn sl)]),
   (fSNF_SCRUBSTAT_SWEEPING.addr, fun s _ =>
     [(fSNF_SCRUBSTAT_SWEEPING, if s.sweeping then 0xFFFF else 0)]),
   (fSNF_BCAST_AGENTS.addr, fun s k => [(fSNF_BCAST_AGENTS, s.bcastMask / 2 ^ (32 * k))]),
   (fSNF_SLICE_VALID.addr, fun s sl => [(fSNF_SLICE_VALID, (s.wm.ways.filter fun e => e.1 / 2 ^ 21 == sl && e.2.state != 0).length)]),
   (fXLT_CTL_OWNSPAN.addr, fun s _ => [(fXLT_CTL_OWNSPAN, s.ownSpan.getD 0), (fXLT_CTL_OWNVALID, b2n s.ownSpan.isSome)]),
   (fXLT_DRAINCNT_OLDINFL.addr, fun s _ => [(fXLT_DRAINCNT_OLDINFL, s.genCount s.oldGen)]),
   (fXLT_SGREFS_REFS.addr, fun s g => [(fXLT_SGREFS_REFS, s.groupRefs g)]),
   (fXLT_WSTAT_OLDINFL.addr, fun s p => [(fXLT_WSTAT_OLDINFL, s.winCount p (1 - s.rd fXLT_WSTAT_GEN p))]),
   (fCHK_RDATA_DATA.addr, fun s w =>
     let k := 4096 * s.rd fCHK_RSEL_GATE 0 + s.rd fCHK_RSEL_RULE 0
     [(fCHK_RDATA_DATA, SMap.get 0 (if s.rdb fCHK_RSEL_COPY 0 then s.chk.active else s.chk.staged) k / 2 ^ (32 * w))]),
   (fCHK_GATE_OLDINFL.addr, fun s g => [(fCHK_GATE_OLDINFL, s.oldSet g)]),
   (fRUN_ENG_WCUSED.addr, fun s e =>
     [(fRUN_ENG_WCUSED, (s.run.wc.filter fun w => w.eng == e).length), (fRUN_ENG_READS, s.engReads e),
      (fRUN_ENG_PAUSED, b2n (bitOf (s.rd fRUN_PAUSE_PAUSE 0) e)),
      (fRUN_ENG_RINGS, ((s.listed fRUN_RCTX1_STATE).filter fun r => s.rstate r == 2 && s.rd fRUN_RCTX0_ENGINE r == e).length)]),
   (fVF_RING_STATE.addr, fun s h =>
     match s.ringOf (h / 16) (h % 16) with
     | some r => [(fVF_RING_STATE, s.rstate r), (fVF_RING_HEAD, s.rd fRUN_RCTX1_HEAD r)]
     | none => []),
   (fWEIR_TTOKC_TOKC.addr, fun s ti => [(fWEIR_TTOKC_TOKC, ofInt 32 (s.tokC ti))]),
   (fWEIR_TTOKP_TOKP.addr, fun s ti => [(fWEIR_TTOKP_TOKP, ofInt 32 (s.tokP ti))]),
   (fWEIR_THELD_HELD.addr, fun s ti =>
     [(fWEIR_THELD_HELD, min 0xFFFF ((s.weir.held.filter fun id => (s.stored id).any fun d => d.m.tenant == ti).length))]),
   (fVF_MB_STATE.addr, fun s ti => [(fVF_MB_STATE, s.tstate ti), (fVF_MB_TI, ti), (fVF_MB_NODE, s.ownNode)]),
   (fTEN_TISTAT_PORT.addr, fun s ti => [(fTEN_TISTAT_PORT, (s.portOfTenant ti).getD 0)]),
   (fTEN_MBSTAT_MSTATE.addr, fun s ti => [(fTEN_MBSTAT_MSTATE, s.rd fVF_MB_MSTATE ti), (fTEN_MBSTAT_SEQ, s.rd fVF_MB_SEQ ti)]),
   (fTEN_PSUM_SUM.addr, fun s j =>
     [(fTEN_PSUM_SUM, maskWhere 32 fun i => (s.listed fVF_MB_MSTATE).any fun ti => s.posted ti && ti / 32 == 32 * j + i)]),
   (fTEN_PEND_PEND.addr, fun s k => [(fTEN_PEND_PEND, maskWhere 32 fun i => s.posted (32 * k + i))]),
   (fTEN_CTX_DATA.addr, fun s w => [(fTEN_CTX_DATA, s.ctxWord w)]),
   (fTEN_RSPSTAGE_DATA.addr, fun s w => [(fTEN_RSPSTAGE_DATA, s.uword (0x1000200 + 4 * w))]),
   (fWM_TTSTAGE_DATA.addr, fun s w => [(fWM_TTSTAGE_DATA, s.uword (0x708000 + 4 * w))]),
   (fACQ_RSDATA_DATA.addr, fun s w => [(fACQ_RSDATA_DATA, (s.statWords (s.rd fACQ_RSSEL_TENANT 0)).getD w 0)]),
   (fSPW_CTL_PROMISE.addr, fun s _ => [(fSPW_CTL_PROMISE, b2n s.promise)]),
   (fSPW_STATUS_STICKY.addr, fun s _ =>
     [(fSPW_STATUS_STICKY, s.stickies.length),
      (fSPW_STATUS_HELD, if s.spw.held.isEmpty then 0xF else s.spw.held.foldl (fun a e => max a (e.2 - 1)) 0)]),
   (fSPW_GSUM_STICKY.addr, fun s _ =>
     let any_ := fun (f : Fld) (g : Nat) => s.rd f (2 * g) != 0 || s.rd f (2 * g + 1) != 0
     [(fSPW_GSUM_STICKY, maskWhere 16 (any_ fSPW_STK_STK)), (fSPW_GSUM_WIRE, maskWhere 16 (any_ fSPW_WFLT_WFLT))]),
   (fSLU_CTL_REFTRIM.addr, fun s _ => [(fSLU_CTL_REFTRIM, b2n s.pwr.ref25)]),
   (fFLM_CNT_L_LIVE_L.addr, fun s c => [(fFLM_CNT_L_LIVE_L, s.flm_get c)]),
   (fFLM_CNT_H_LIVE_H.addr, fun s c => [(fFLM_CNT_H_LIVE_H, s.flm_get c / 2 ^ 32)]),
   (fFLM_SNP_L_SNAP_L.addr, fun s c => [(fFLM_SNP_L_SNAP_L, SMap.get 0 s.flm.last.cnt c)]),
   (fFLM_SNP_H_SNAP_H.addr, fun s c => [(fFLM_SNP_H_SNAP_H, SMap.get 0 s.flm.last.cnt c / 2 ^ 32)]),
   (fTND_STAT_BUSY.addr, fun s _ =>
     [(fTND_STAT_BUSY, b2n s.tnd.exec.isSome), (fTND_STAT_QDEPTH, s.tnd.queue.length),
      (fTND_STAT_CTLOK, b2n (!s.tnd.restarting))]),
   (fTND_SEG_BEACON.addr, fun s g =>
     [(fTND_SEG_BEACON, b2n (s.rdb fTND_SEG_JOINED g && Config.beacon g s.pwr.ns)), (fTND_SEG_COORD, b2n (s.ownNode == 0))]),
   (fTND_EPOCH_PEND.addr, fun s _ => [(fTND_EPOCH_PEND, s.epochTimes.length)]),
   (fBOOT_OPENREM_SEC.addr, fun s _ =>
     [(fBOOT_OPENREM_SEC, if s.rd fBOOT_STAT_LC 0 = 1 then ceilDiv (s.boot.openEnd - s.pwr.ns) nsPerSec else 0)])]

/-- The fields of register `d` that follow from other state, with their values for instance `i`. -/
def State.derived (s : State) (d : RegDesc) (i : Nat) : List (Fld × Nat) :=
  match derivedTable.find? fun e => e.1 == d.addr with
  | some e => e.2 s i
  | none => []

/-- The value of field `f` of register `d` as a read gives it: a WO field reads 0 (R10). -/
def State.fieldRead (s : State) (d : RegDesc) (i : Nat) (f : Fld) : Nat :=
  if f.acc = .wo then 0
  else match (s.derived d i).find? fun e => e.1 == f with
    | some e => e.2 % 2 ^ f.width
    | none => s.rd f i

/-! ### Blocks that cannot be reached (R69, R103, R382) -/

/-- The Headworks tile that holds instance `i` of a register, where it lies on one. -/
def RegDesc.tile (d : RegDesc) (i : Nat) : Option Nat :=
  let w := d.addr / 0x100000
  if w = 8 ∧ 0x801000 ≤ d.addr then some (laneTile i)
  else if w = 10 ∧ d.addr < 0xA08000 then some (tileOfPort i)
  else if w = 12 ∧ 0xC01000 ≤ d.addr ∧ d.addr < 0xC02000 then
    some (tileOfLink (match d.shape with
      | .grid _ _ _ n => i / n
      | _ => i))
  else if w = 19 ∧ 0x1301000 ≤ d.addr then
    some ((match d.shape with
      | .grid _ _ _ n => i / n
      | _ => i) / 8)
  else if w = 19 ∧ 0x1300100 ≤ d.addr then some i
  else if 0xB10000 ≤ d.addr ∧ d.addr < 0xB80000 then some (tileOfPort (i / 16))
  else if 0xB80000 ≤ d.addr ∧ d.addr < 0xC00000 then some (tileOfPort (i / 1024))
  else if 0xB01000 ≤ d.addr ∧ d.addr < 0xB02000 then some (tileOfPort i)
  else if 0xD01000 ≤ d.addr ∧ d.addr < 0xD02000 ∧ i < 64 then some (tileOfPort i)
  else none

/-- The switchable domain whose boundary refuses accesses to instance `i` of register `d` (R382): a Runnel group's. -/
def RegDesc.domain (d : RegDesc) (i : Nat) : Option Nat := if d.addr = 0xF00100 then some (80 + i / 8) else none

/-- An access to instance `i` of register `d` finds no block: its tile's Culvert is down, or its domain has no power. -/
def State.unreachable (s : State) (d : RegDesc) (i : Nat) : Bool :=
  (match d.tile i with
   | some t => bitOf s.pwr.culvert t
   | none => false)
  || match d.domain i with
    | some n => !s.domOn n
    | none => false

/-- A lane register but SER_LCTL of a lane without power (R103). -/
def State.laneDark (s : State) (d : RegDesc) (i : Nat) : Bool :=
  decide (0x801004 ≤ d.addr ∧ d.addr < 0x801040) && !s.laneOn i

/-- A register of a VF whose instance is RESETTING, but for the word that shows its state (R357). -/
def State.vfShut (s : State) (d : RegDesc) (i : Nat) : Bool :=
  if d.addr / 0x100000000 = 0x10 then
    d.addr != 0x1000000214 && s.tstate (match d.shape with
      | .grid _ _ _ n => i / n
      | _ => i) == 5
  else if d.addr / 0x100000000 = 0x20 then s.tstate (i / 16) == 5
  else false

/-- The word that instance `i` of register `d` reads as. -/
def State.view (s : State) (d : RegDesc) (i : Nat) : Nat :=
  if s.unreachable d i ∨ s.vfShut d i then 0
  else if s.laneDark d i then (d.fields.map fun f => f.resetAt i * 2 ^ f.lsb).sum
  else (d.fields.map fun f => s.fieldRead d i f * 2 ^ f.lsb).sum

/-! ### Two windows without registers of their own -/

/-- The word at offset `o` of the counter window of instance `ti` (R444). -/
def State.vfCounter (s : State) (ti o : Nat) : Nat :=
  let half := fun (v : Nat) => v / 2 ^ (8 * (o % 8)) % 2 ^ 32
  let n := s.flm.last
  if ¬ bitOf (s.rd fFLM_TVIS_VIS (ti / 32)) (ti % 32) then 0
  else if o / 8 = 0 then half (s.flm_get ti)
  else if o / 8 = 1 then half (SMap.get 0 n.cnt ti)
  else if o = 0x10 then n.ns
  else if o = 0x14 then n.sec % 2 ^ 32
  else if o = 0x18 then n.sec / 2 ^ 32 % 2 ^ 16 + n.qual * 2 ^ 16
  else if o / 8 = 4 then half n.seq
  else if 0x100 ≤ o ∧ o < 0x200 then
    match (s.listed fFLM_EVT_VIS).find? fun k => s.flmSlot k == some (ti, (o - 0x100) / 8) with
    | some k => half (s.flm_get (8448 + k))
    | none => 0
  else 0

/-- The word at address `a`: the request area that TEN_SEL names (R352) at 0x1000100, the counter window of instance `ti` at
0x40_0000_0000 + 0x1000 `ti` (log entry 3), else the register there; nothing reads 0 (R21). -/
def State.peek (s : State) (a : Nat) : Nat :=
  if a % 4 ≠ 0 then 0
  else if 0x1000100 ≤ a ∧ a < 0x1000200 then s.rd fVF_MB_REQ (64 * s.tsel + (a - 0x1000100) / 4)
  else if 0x4000000000 ≤ a ∧ a < 0x4002000000 then s.vfCounter (a / 0x1000 % 8192) (a % 0x1000)
  else match s.findReg a with
    | some (d, i) => s.view d i
    | none => 0

/-! ### Reads -/

/-- The addresses that a read of address `a` latches (R9, R100, R139). -/
def State.latchedBy (s : State) (a : Nat) : List Nat :=
  if a = 0x600000 ∨ (a / 0x100000000 = 0x30 ∧ a % 0x1000 = 0x20) then [a + 4, a + 8]
  else if a = 0x600050 ∨ a = 0x600058 then [a + 4]
  else if 0x4000000000 ≤ a ∧ a < 0x4002000000 then
    (if a % 8 = 0 ∧ a % 0x1000 / 8 ∉ [2, 3] then [a + 4] else [])
  else match s.findReg a with
    | some (d, _) => if d.half = .low then [a + 4] else []
    | none => []

/-- The RC fields of the word at `a` cleared, but for what events of the same cycle set, as `ev` has it (R12); the lowest free count
starts again from the present one (R207). -/
def State.rcClear (s : State) (a ev : Nat) : State :=
  match s.findReg a with
  | none => s
  | some (d, i) =>
    if s.unreachable d i || s.vfShut d i || s.laneDark d i then s
    else s.each (d.fields.filter fun f => f.acc = .rc) fun s f =>
      s.wr f i (if f = fRSV_MINFREE_MINFREE then s.rd fRSV_FREE_FREE 0
        else if f = fWM_SLICE_MAXOPEN then s.openIn i
        else if f = fWEIR_HELD_MAXLISTS then s.rd fWEIR_HELD_LISTS 0 / 4 else f.of ev)

/-- A request that the boundary of a powered-down domain refuses is counted there (R382). -/
def State.refusedAt (s : State) (a : Nat) : State :=
  match s.findReg a with
  | some (d, i) =>
    match d.domain i with
    | some n => if s.domOn n then s else s.domRefuse n
    | none => s
  | none => s

/-- A 64-bit access to address `a` names both halves of a 64-bit register (R9). -/
def State.wideAt (s : State) (a : Nat) : Bool :=
  a % 8 == 0 && match s.findReg a with
    | some (d, _) => d.half == .low
    | none => false

/-- A read of address `a`: its value, and the state after it. -/
def State.readAddr (s : State) (a ev : Nat) : Nat × State :=
  match SMap.get 0 s.latch a with
  | v + 1 => (v, { s with latch := SMap.erase s.latch a })
  | 0 =>
    let s' := s.each (s.latchedBy a) fun t b => { t with latch := SMap.set 0 t.latch b (s.peek b + 1) }
    (s.peek a, (s'.rcClear a ev).refusedAt a)

/-- A 64-bit read from address `a` on: of a 64-bit register both words at once, with no latch taken or left (R9); else the two words one
after the other, with the latches of R100 (log entry 93). -/
def State.readWide (s : State) (a ev : Nat) : Nat × State :=
  if s.wideAt a then
    (s.peek a + 2 ^ 32 * s.peek (a + 4), (((s.rcClear a ev).refusedAt a).rcClear (a + 4) 0).refusedAt (a + 4))
  else
    let (u, s) := s.readAddr a ev
    let (v, s) := s.readAddr (a + 4) 0
    (u + 2 ^ 32 * v, s)

/-! ### The internal gate (R283, R284) -/

/-- An access of `n` bytes to the register space as the internal gate sees it: from host port `src` of `node`, or as a Tender
(SRC 0x7F) or debug request (TAG bit 63). -/
def regMsg (node src tag a n : Nat) (write : Bool) : Msg :=
  { kind := if write then .ioPosted else .ioNonPosted, act := if write then .write else .read, node := node, snode := node,
    src := src, tag := tag, len := if write then 16 + n else 16, addr := a, tgt := a, ncnt := n }

/-- An access of host port `port` of `node` to `n` bytes from address `a` on checked at the internal gate (R283); what is not in the device
register space is not checked there. -/
def State.hostGate (s : State) (node port a : Nat) (write : Bool) (n : Nat := 4) : Bool × State :=
  if a < 0x2000000 then
    let (v, s) := s.innerCheck true (regMsg node port 0 a n write) n true
    (v == 0, s)
  else (true, s)

/-- Register space is shut to host port `port` of this node: its PF BAR0 shows none (R138).  A peer node's own port is the peer's to
judge. -/
def State.regShut (s : State) (node port a : Nat) : Bool :=
  decide (a < 0x2000000) && node == s.ownNode && !s.rdb fPRT_PORTCFG_REGACC port

/-- A host's read of address `a`, of 32 bits or (`wide`) of 64: a denied one reads 0 (R292), and one that REGACC does not admit is an
Unsupported Request (R138). -/
def State.hostRead (s : State) (node port a ev : Nat) (wide : Bool := false) : State :=
  let n := if wide then 8 else 4
  if s.regShut node port a then s.reply (regMsg node port 0 a n false) .ur false else
  let (ok, s) := s.hostGate node port a false n
  let (v, s) := if ok then (if wide then s.readWide a ev else s.readAddr a ev) else (0, s)
  s.send (.value a v)

/-- REGISTER_READ_CLEAR: a read by host port `port` of `node`, which clears RC fields (R12); `ev` holds what events of the same
cycle set. -/
def execRegisterReadClear (node port : Nat) (addr : RegAddr) (ev : Nat) (s : State) : Host.Outcome State Fault Refusal :=
  onUnit (decide (node < 16 ∧ port < 64 ∧ ev < 2 ^ 32)) (s.hostRead node port addr.addr ev addr.wide)

/-- REGISTER_HALF_LATCH_READ: a read of a half of a 64-bit register, or, where it is of 64 bits, of both at once (R9). -/
def execRegisterHalfLatchRead (node port : Nat) (addr : RegAddr) (s : State) : Host.Outcome State Fault Refusal :=
  onUnit (decide (node < 16 ∧ port < 64)) (s.hostRead node port addr.addr 0 addr.wide)

end Sys2Proof.Machine
end

