-- ==== Sys2Proof/Machine/RegCmd.lean ====
section
/-! DEFINITION. Writes of register addresses (R9, R10, R12 to R14, R18, R21): registers with a row of their own, registers with
rules of their own, and the rest. -/

namespace Sys2Proof.Machine

/-- The next state of an outcome; `s` where there is none. -/
def State.took (s : State) : Host.Outcome State Fault Refusal → State
  | .next t => t
  | _ => s

/-! ### Registers that have rows of their own -/

/-- The bits of W1C field `f` that events of the same cycle set, as `ev` has them: they stay set (R12). -/
def State.evSet (s : State) (f : Fld) (i ev : Nat) : State := s.wr f i (s.rd f i ||| f.of ev)

/-- PWR_RSTREQ: both of its requests. -/
def State.rstWrite (s : State) (v : Nat) : State := let s := s.took (execWarmResetReq v s); s.took (execTileResetReq v s)

/-- SLU_CMD of slot `j` by its operation; `low` as SLU_CLRISO has it. -/
def State.sluWrite (s : State) (j v : Nat) (low : Bool) : State :=
  match bitsOf v 0 3 with
  | 1 => s.took (execSluOn j v s)
  | 2 => s.took (execSluOff j v s)
  | 3 => s.took (execSluClrflt j v s)
  | 4 => s.took (execSluClriso j v low s)
  | _ => s

/-- TEN_TICMD by its operation. -/
def State.tiWrite (s : State) (v : Nat) : State :=
  match bitsOf v 0 2 with
  | 1 => s.took (execQuiesce v s)
  | 2 => s.took (execResume v s)
  | 3 => s.took (execReset v s)
  | _ => s

/-- CTL of ring slot `h` by what it asks. -/
def State.ctlRow (s : State) (h v : Nat) : State :=
  s.took (if bitOf v 0 then execRingEnable (h / 16) (h % 16) v s
    else if bitOf v 1 then execRingResume (h / 16) (h % 16) v s else execRingDisable (h / 16) (h % 16) v s)

/-- What a write of a word to an instance does, with `ev` as REGISTER_WRITE has it. -/
abbrev RowFn := State → Nat → Nat → Nat → State

/-- rowTable: rows by address. -/
def rowsA : List (Nat × RowFn) :=
  [(0x0, fun s _ v _ => s.took (execProfileApply v s)),
   (0x400004, fun s _ v _ => s.rstWrite v),
   (0x400100, fun s i v ev => (s.took (execPwrDomctlWrite i v s)).evSet fPWR_DOMCTL_ABORT i ev),
   (0x600010, fun s _ v _ => if s.discards (fieldsAt 0x600010) 0 v then s else s.ftCtrl v),
   (0x801000, fun s i v _ => s.took (execSerLctlWrite i v s)),
   (0x801008, fun s i v _ => s.took (execSerSlip i v s)),
   (0x801018, fun s i v ev => (s.took (execSerPrbsctlWrite i v s)).evSet fSER_PRBSCTL_ABORTED i ev),
   (0x801020, fun s i v _ => s.took (execEyeScanStart i v s)),
   (0xA01000, fun s i v _ => s.took (execPortConfigWrite i v s)),
   (0xA01008, fun s i v _ => s.took (execPrtTiblkWrite i v s)),
   (0xA0100C, fun s i v _ => s.took (execPrtSlotcfgWrite i v s)),
   (0xA01010, fun s i v _ => s.took (execPrtSlotctlWrite i v s)),
   (0xC01000, fun s i v _ => s.took (execLeatCtlWrite i v s))]

/-- rowTable: the words of one register. -/
def rowsB : List (Nat × RowFn) :=
  (List.range 11).map fun w => (0x500100 + 4 * w, fun s i v _ => s.took (execMirrorSessionWrite i w v s))

/-- rowTable: rows by address. -/
def rowsC : List (Nat × RowFn) :=
  [(0x510008, fun s i v _ => s.took (execGroupCommit i v s)),
   (0x700040, fun s _ v ev => s.took (execTableLoad v (bitOf ev 0) s)),
   (0x701000, fun s i v _ => s.took (if bitOf v 31 then execRegionEnable i v s else execRegionRecall i v s)),
   (0x900010, fun s _ v _ => s.took (execSuspectClear v s)),
   (0x902000, fun s _ v ev => s.took (execSnfDiagRead v (ev % 4) s)),
   (0xB00100, fun s _ v _ => s.took (execMapidxWrite v s)),
   (0xB00114, fun s _ v ev => s.took (if bitsOf v 0 3 = 1 then execMapGrant v (ev % 4) s else execMapRelease v (ev % 4) s)),
   (0xB00144, fun s _ v _ => s.took (execShareGroupWrite v s)),
   (0xB00150, fun s i v _ => s.took (execPoolportWrite i v s)),
   (0xB01000, fun s i v _ => s.took (execWindowCommit i v s)),
   (0xD00040, fun s _ v _ => s.took (execChkStagingClear v s)),
   (0xD00060, fun s _ v _ => s.took (if bitsOf v 0 2 = 1 then execChkCommit v s else execChkWithdraw v s)),
   (0xF00004, fun s _ v _ => s.took (execRunEnableWrite v s)),
   (0xF00008, fun s _ v _ => s.took (execRunPauseWrite v s)),
   (0xF00024, fun s _ v _ => s.took (execRunRctx0Write v s)),
   (0x2000000000, fun s i v _ => s.took (execRingDoorbell (i / 16) (i % 16) v s))]

/-- rowTable: rows by address. -/
def rowsD : List (Nat × RowFn) :=
  [(0x2000000004, fun s i v _ => s.took (execCqheadWrite (i / 16) (i % 16) v s)),
   (0x200000001C, fun s i v _ => s.ctlRow i v)]

/-- rowTable: the words of one register. -/
def rowsE : List (Nat × RowFn) :=
  [0x08, 0x0C, 0x10, 0x14, 0x18].map fun o => (0x2000000000 + o, fun s i v _ =>
      s.took (execRingCfgWrite (i / 16) (i % 16) o v s))

/-- rowTable: rows by address. -/
def rowsF : List (Nat × RowFn) :=
  [(0xE02000, fun s i v _ => s.took (execRotenWrite i v s)),
   (0xE0201C, fun s i v _ => s.took (if bitOf v 0 then execRotationCommit i v s else execRotationCancel i v s)),
   (0xE05004, fun s i v _ => s.took (execClassShaperCommit (i / 8) (i % 8) v s)),
   (0xE2000C, fun s i v _ => s.took (execShaperCommit i v s)),
   (0x1000000200, fun s i v _ => s.took (execMailboxDoorbell i v s)),
   (0x1000000218, fun s i v _ => s.took (execMailboxAck i v s)),
   (0x100000C, fun s _ v _ => s.tiWrite v),
   (0x1000028, fun s _ v _ => s.took (execMailboxDone v s)),
   (0x100002C, fun s _ v _ => s.took (execTenNoticeWrite v s)),
   (0x1000060, fun s _ v _ => s.took (if bitOf v 0 then execLogEnable v s else execLogDisable v s)),
   (0x1000080, fun s _ v _ => s.took (execLogFlip v s)),
   (0x1000090, fun s _ v _ => s.took (if bitsOf v 0 2 = 1 then execContextSave v s else execContextLoad v s)),
   (0x1100020, fun s _ v _ => s.took (execRunnelStatsSnap v s))]

/-- rowTable: the words of one register. -/
def rowsG : List (Nat × RowFn) :=
  (List.range 7).map fun w => (0x1100100 + 4 * w, fun s i v _ => s.took (execAcqProbeWrite i w v s))

/-- rowTable: rows by address. -/
def rowsH : List (Nat × RowFn) :=
  [(0x1200014, fun s _ v _ => s.took (execSpwInject v s)),
   (0x1200100, fun s i v ev => (s.took (execStickyClear i (clearBits v ev) s)).evSet fSPW_STK_STK i ev),
   (0x1200200, fun s i v _ => s.took (execSpwMaskWrite i v s)),
   (0x1201000, fun s i v _ => s.took (execSpwRctWrite i v s)),
   (0x1301000, fun s i v _ => s.took (execSluCfgWrite i v s)),
   (0x1301080, fun s i v ev => s.sluWrite i v (bitOf ev 0)),
   (0x1400018, fun s _ v _ => s.took (execFlmSnap v s)),
   (0x140001C, fun s _ v _ => s.took (execFlmZero v s))]

/-- rowTable: the words of one register. -/
def rowsI : List (Nat × RowFn) :=
  (List.range 2).map fun w => (0x1410000 + 4 * w, fun s i v _ => s.took (execFlmEvtWrite (8448 + i) w v s))

/-- rowTable: the words of one register. -/
def rowsJ : List (Nat × RowFn) :=
  (List.range 8).map fun w => (0x1420000 + 4 * w, fun s i v _ => s.took (execFlmFiltWrite i w v s))

/-- rowTable: the words of one register. -/
def rowsK : List (Nat × RowFn) :=
  (List.range 6).map fun w => (0x1400040 + 4 * w, fun s i v _ => s.took (execFlmRingWrite i w v s))

/-- The registers whose write is a command of its own: the address of instance 0, and what a write of `v` to instance `i` does,
with `ev` as REGISTER_WRITE has it. -/
def rowTable : List (Nat × RowFn) :=
  rowsA ++ rowsB ++ rowsC ++ rowsD ++ rowsE ++ rowsF ++ rowsG ++ rowsH ++ rowsI ++ rowsJ ++ rowsK

/-! ### The plain write -/

/-- A write of `v` to instance `i` of register `d` at address `a` as its access codes give it: the low half of a 64-bit register
waits for the high half, which takes both (R9). -/
def State.plainWrite (s : State) (d : RegDesc) (i a v ev : Nat) : State :=
  if s.discards d.fields i v then s
  else if d.half = .low ∧ d.fields.any (fun f => f.acc = .rw) then s.stageLow a v
  else (if d.half = .high then s.takeStaged (a - 4) i (fieldsAt (d.addr - 4)) else s).takeWord d.fields i v ev

/-! ### Registers with rules of their own (R18) -/

/-- A PPS offset outside ±100,000 ns, which the field's table does not define (R14). -/
def ofsOdd (v : Nat) : Bool := decide (100000 < (toInt 32 v).natAbs)

/-- `t` where `ok`, else a configuration error of window `w` with everything as it was. -/
def State.orErr (s t : State) (ok : Bool) (w : Nat) : State := if ok then t else s.cfgErr w

/-- Two valid nodes have one span (R260). -/
def State.spanTwice (s : State) : Bool :=
  decide (¬ ((((List.range 16).filter fun n => s.rdb fXLT_SPAN_VALID n).map (s.rd fXLT_SPAN_SPAN)).Nodup))

/-- Two nodes have one agent slot (R176). -/
def State.agentTwice (s : State) : Bool :=
  decide (¬ ((((List.range 16).filter fun n => s.rdb fLEAT_ROUTE_AGEN n).map (s.rd fLEAT_ROUTE_AGENT)).Nodup))

/-- Node `n` is the home of an enabled region (R209). -/
def State.isHome (s : State) (n : Nat) : Bool :=
  (List.range 64).any fun r => s.rdb fWM_SRGN_EN r && s.rd fWM_SRGN_HOME r == n

/-- The record that WLG_RDSEQ names put into WLG_RDSTAT and WLG_RDDATA (R468). -/
def State.recFetch (s : State) : State :=
  let r := s.record (s.rd2 fWLG_RDSEQ_L_SEQ_L fWLG_RDSEQ_H_SEQ_H 0)
  let bs := match r with
    | some r => recBytes r
    | none => []
  (s.wrb fWLG_RDSTAT_HELD 0 r.isSome).each (List.range 8) fun s i => s.wr fWLG_RDDATA_DATA i (leBytes ((bs.drop (4 * i)).take 4))

/-- What a rule of its own makes of a write: from the state before and the state that a plain write gives. -/
abbrev RuleFn := State → State → Nat → Nat → State

/-- ruleTable: rows by address. -/
def rulesA : List (Nat × RuleFn) :=
  [(0xB00040, fun s t _ _ => s.orErr t (!t.spanTwice) 11),
   (0xB10000, fun s t i _ => s.orErr t (!(s.hdm (i / 16) (i % 16)).committed) 11),
   (0xB10004, fun s t i _ => s.orErr t (!(s.hdm (i / 16) (i % 16)).committed) 11),
   (0xB80000, fun s t i v =>
     if winOdd i v then s else s.orErr (t.wr fXLT_WINSH_WORD i (winKeep i v)) (!s.rdb fXLT_WSTAT_BUSY (i / 1024)) 11),
   (0x701004, fun s t i _ => s.orErr t (!s.rdb fWM_SRGN_EN i && s.rd fWM_SRGN_STATE i != 3) 7),
   (0xC00040, fun s t i _ => s.orErr t (!t.agentTwice && (t.rdb fLEAT_ROUTE_AGEN i || !s.rdb fLEAT_ROUTE_AGEN i || !s.isHome i)) 12),
   (0xC0101C, fun s t i _ =>
     let (a, b, c) := (t.rd fLEAT_CRPOOL_REQ i, t.rd fLEAT_CRPOOL_SNP i, t.rd fLEAT_CRPOOL_RSP i)
     s.orErr t (decide (4 ≤ a ∧ 4 ≤ b ∧ 4 ≤ c ∧ a + b + c ≤ 128)) 12),
   (0x301000, fun s t i _ => if t.rd fRSV_WM_LOW i < t.rd fRSV_WM_HIGH i then ((t.holdUpdate (i / 8) (i % 8)).retCredits).drainAll else s.cfgErr 3),
   (0x30000C, fun s t _ _ =>
     if t.rd fRSV_GLOBAL_HOLD 0 < 96 then s.cfgErr 3
     else if t.rd fRSV_GLOBAL_RESUME 0 ≤ t.rd fRSV_GLOBAL_HOLD 0 then s else (t.globalUpdate.retCredits).drainAll),
   (0x300010, fun s t _ _ =>
     let p := s.rd fARCH_PROFILE_ACTIVE 0
     if halfCells p < reservations (t.rd fRSV_RSPRES_TOTAL 0) p (s.quotasBut 8) then s.conflict 4 p 0 else t.resvUpdate),
   (0x304000, fun _ t i _ => t.telLevel i),
   (0xD01000, fun s t i _ => s.orErr t (!s.stagingShut i) 13),
   (0x1000024, fun s t _ _ => s.orErr t (decide (t.rd fTEN_MBRSPHDR_STATUS 0 < 0xFD)) 16),
   (0x600040, fun s t _ v => if ofsOdd v then s else t),
   (0x600044, fun s t _ v => if ofsOdd v then s else t)]

/-- ruleTable: rows by address. -/
def rulesB : List (Nat × RuleFn) :=
  [(0x600020, fun s t _ _ => if t.rd fFT_LOCKNS 0 < t.rd fFT_UNLOCKNS 0 then t else s),
   (0xE40000, fun s t i _ => s.orErr t (!s.rdb fWEIR_EG_PEND (i / 1024)) 14),
   (0xE00000, fun _ t _ _ => t.considerAll),
   (0x1300104, fun s t i _ => if t.rd fSLU_FEED_UV i < t.rd fSLU_FEED_OV i then t else s),
   (0x400044, fun _ t _ _ => t.tempRead (t.rd fPWR_TEMP_TEMP 0) (t.rd fPWR_TEMP_SENSOR 0)),
   (0x1600020, fun _ t _ v => t.when_ (bitOf v 1) State.ckStart),
   (0x1600034, fun _ t _ _ => t.recFetch),
   (0x708000, fun s _ i v => s.uset (0x708000 + 4 * i) v),
   (0x1000800, fun s _ i v => s.uset (0x1000800 + 4 * i) v),
   (0x1000200, fun s _ i v => s.uset (0x1000200 + 4 * i) v)]

/-- ruleTable: the words of one register. -/
def rulesC : List (Nat × RuleFn) :=
  [0xE02008, 0xE0200C, 0xE02010, 0xE02014, 0xE02018].map fun a => (a, fun s t i _ => s.orErr t (!s.rdb fWEIR_EG_PEND i) 14)

/-- ruleTable: the words of one register. -/
def rulesD : List (Nat × RuleFn) :=
  [0x1000064, 0x1000068, 0x100006C, 0x1000070, 0x1000074, 0x1000078, 0x100007C].map fun a =>
      (a, fun s t i _ => s.orErr t (!s.logOn i) 16)

/-- ruleTable: the words of one register. -/
def rulesE : List (Nat × RuleFn) :=
  [0x1301004, 0x1301008, 0x130100C, 0x1301010, 0x1301020, 0x1301024, 0x1301028, 0x130102C].map fun a =>
      (a, fun s t j _ => s.slotSet t j)

/-- A vector of the PF that is pending is sent as its mask bit is cleared (R138). -/
def State.pfUnmask (s : State) (i : Nat) : State :=
  if s.rdb fPF_MSIX_MASK i ∨ ¬ s.bit fPF_PBA_PEND i then s
  else (s.setBit fPF_PBA_PEND i false).msiPf (i / 64) (i % 64)

/-- A vector of a VF that is pending is sent as its mask bit is cleared (R138). -/
def State.vfUnmask (s : State) (i : Nat) : State :=
  if s.rdb fVF_MSIX_MASK i ∨ ¬ bitOf (s.rd fVF_PBA_PEND (i / 4)) (i % 4) then s
  else (s.putb fVF_PBA_PEND (i / 4) (i % 4) false).msiVf (i / 4) (i % 4)

/-- ruleTable: rows by address. -/
def rulesF : List (Nat × RuleFn) :=
  [(0x500000800C, fun _ t i _ => t.pfUnmask i),
   (0x100000080C, fun _ t i _ => t.vfUnmask i),
   (0x1301040, fun s t i _ => s.slotSet t (i / 16)),
   (0x1000000000, fun s t i _ => if s.posted (i / 64) then s else t)]

/-- The registers with rules of their own: the address of instance 0, and the state after a write to instance `i`, from the state
before, the state that a plain write gives, `i` and the word. -/
def ruleTable : List (Nat × RuleFn) :=
  rulesA ++ rulesB ++ rulesC ++ rulesD ++ rulesE ++ rulesF

/-- A write of word `v` to instance `i` of register `d` at address `a` (R10 to R14, R18). -/
def State.writeReg (s : State) (d : RegDesc) (i a v ev : Nat) : State :=
  let t := s.plainWrite d i a v ev
  match rowTable.find? fun e => e.1 == d.addr with
  | some e => e.2 s i v ev
  | none =>
    if s.discards d.fields i v then s
    else if d.addr = 0xD00020 ∧ i = 7 then s.took (execChkRuleStore v s)
    else match ruleTable.find? fun e => e.1 == d.addr with
      | some e => e.2 s t i v
      | none => t

/-- The register at address `a` takes no write now: its block cannot be reached, its lane has no power, or its VF is shut. -/
def State.noWrite (s : State) (d : RegDesc) (i : Nat) : Bool :=
  s.unreachable d i || s.laneDark d i || s.vfShut d i

/-- A write of word `v` to address `a`: ignored where nothing is there (R21) or nothing takes it; `ev` gives the bits that events
of the same cycle set (R12), and for WM_TTCTL, SNF_DIAGSEL, XLT_MAPCMD and SLU_CMD what their own commands are told. -/
def State.writeAddr (s : State) (a v ev : Nat) : State :=
  if a % 4 ≠ 0 then s
  else match s.findReg a with
    | none => s
    | some (d, i) => if s.noWrite d i then s.refusedAt a else s.writeReg d i a v ev

/-- A 64-bit write of `v` from address `a` on: both halves of a 64-bit register are taken together or discarded together (R9, R13,
R14); elsewhere it is two 32-bit writes, the lower address first (DESIGN CHOICE, log entry 93). -/
def State.writeWide (s : State) (a v ev : Nat) : State :=
  match s.findReg a, s.findReg (a + 4) with
  | some (d, i), some (e, j) =>
    if s.wideAt a ∧ d.fields.any (fun f => f.acc = .rw) then
      (if s.noWrite e j then s.refusedAt a
      else if s.discards d.fields i (v % 2 ^ 32) ∨ s.discards e.fields j (v / 2 ^ 32) then s
      else (s.stageLow a (v % 2 ^ 32)).writeAddr (a + 4) (v / 2 ^ 32) ev)
    else (s.writeAddr a (v % 2 ^ 32) ev).writeAddr (a + 4) (v / 2 ^ 32) 0
  | _, _ => (s.writeAddr a (v % 2 ^ 32) ev).writeAddr (a + 4) (v / 2 ^ 32) 0

end Sys2Proof.Machine
end

