-- ==== Sys2Proof/Machine/Judge.lean ====
section
/-! DEFINITION. A register write as the dictionary, a batch or the boot image makes it (R13, R14, R18, R34, R455, R457): what it
does, and the abort code it is answered with. -/

namespace Sys2Proof.Machine

/-! ### What a refusal leaves (R18, R34) -/

/-- The configuration-error sources that are driven (R18). -/
def State.errSources (s : State) : List Nat := ((List.range 24).map (0x3C0 + ·)).filter fun k => s.driven k != .quiet

/-- `s` with no configuration-error source driven and ARCH_CONFLICT not valid, so that a refusal shows. -/
def State.errAside (s : State) : State :=
  State.wrb { s with spw := { s.spw with drive := SMap.keep s.spw.drive fun k _ => decide (k < 0x3C0 ∨ 0x3D8 ≤ k) } }
    fARCH_CONFLICT_VALID 0 false

/-- What `errAside` set aside of `s`, put back into `t`. -/
def State.errBack (s t : State) : State :=
  let t := t.each s.errSources State.pulse
  t.when_ (s.rdb fARCH_CONFLICT_VALID 0) fun t => t.wrb fARCH_CONFLICT_VALID 0 true

/-- What a refusal found in `x` leaves in `s`: the record of R34 without its source, or the sources of R18 (R457). -/
def State.refusal (s x : State) (code : Nat) : State :=
  if code = 9 then s.conflictRec (x.rd fARCH_CONFLICT_CODE 0) (x.rd fARCH_CONFLICT_ITEM_A 0) (x.rd fARCH_CONFLICT_ITEM_B 0)
  else if code = 0xA then s.each x.errSources State.pulse
  else s

/-! ### The verdict -/

/-- Some field of a register can be written. -/
def RegDesc.writable (d : RegDesc) : Bool := d.fields.any fun f => f.acc = .rw || f.acc = .wo || f.acc = .w1c

/-- The register's key does not stand in `v`, so that the whole write is ignored; SER_SLIP refuses a wrong key (R116), and
ACQ_RSCTL needs one for SNAP alone. -/
def RegDesc.wrongKey (d : RegDesc) (v : Nat) : Bool :=
  d.addr != fSER_SLIP_COUNT.addr && d.addr != fACQ_RSCTL_SNAP.addr && d.key.any fun k => bitsOf v 24 8 != k

/-- Some field of `v` holds an encoding that its table does not define (R14). -/
def RegDesc.odd (d : RegDesc) (v : Nat) : Bool :=
  reservedIn d.fields v || ((d.addr == fFT_OFS_A.addr || d.addr == fFT_OFS_B.addr) && ofsOdd v)

/-- A read of the register shows nothing: every field is WO. -/
def RegDesc.writeOnly (d : RegDesc) : Bool := !d.fields.isEmpty && d.fields.all fun f => f.acc = .wo

/-- A write that its owning rule refuses as busy (R132, R233, R293, R457): a binding in progress, a profile change, a LOAD during a
load, a CHK_CMD during validation or for a gate already named. -/
def State.busyWrite (s : State) (d : RegDesc) (i v : Nat) : Bool :=
  if d.addr = fPRT_VPPB_STATE.addr then s.rd fPRT_VPPB_STATE i == 1 || s.rd fPRT_VPPB_STATE i == 3
  else if d.addr = fARCH_PROFILE_SEL.addr then s.rdb fARCH_PROFILE_BUSY 0
  else if d.addr = 0x700040 then bitsOf v 24 8 == 0xC3 && bitOf v 0 && s.wm.loading.isSome
  else if d.addr = 0xD00060 then
    bitsOf v 24 8 == 0x5C && (s.chk.checking.isSome && bitsOf v 0 2 != 0
      || bitsOf v 0 2 == 1 && (decide (16 ≤ s.chk.pend.length) || s.maskGates.any s.gateTaken))
  else false

/-- A write that would make the manager port a downstream port, or leave no port over its lane (R57). -/
def State.unmanagesBy (s : State) (d : RegDesc) (i v : Nat) : Bool :=
  d.addr == fPRT_PORTCFG_ENABLE.addr && s.unmanages (s.setRW d.fields i v)

/-- Every RW field of the word would keep its value. -/
def State.sameRW (s : State) (d : RegDesc) (i v : Nat) : Bool :=
  let v := if d.addr = fXLT_WINSH_WORD.addr then winKeep i v else v
  d.fields.all fun f => f.acc != .rw || f.of v == s.rd f i

/-- A write of `v` that is taken up to the point where its block acts: the code, and the state after it. -/
def State.runWrite (s : State) (d : RegDesc) (i a v ev : Nat) : Nat × State :=
  let q := s.errAside
  let x := q.writeAddr a v ev
  if d.addr = fARCH_CONFLICT_VALID.addr then (0, s.writeAddr a v ev)
  else if x.rdb fARCH_CONFLICT_VALID 0 then (9, s.refusal x 9)
  else if !x.errSources.isEmpty ∨ (decide (x = q) && !s.sameRW d i v) then (0xA, s.errBack x)
  else (0, s.errBack x)

/-- A write of `v` to device offset `a` by the Tender (R283, R457): the abort code and the state after it.  `good` is what the model
is told of what a table load or SLU_CLRISO asks: the signature, and the low output. -/
def State.judgeWrite (s : State) (a v : Nat) (good : Bool) : Nat × State :=
  if a % 4 ≠ 0 ∨ 0x2000000 ≤ a then (8, s)
  else match s.findReg a with
    | none => (0, s)
    | some (d, i) =>
      let ev := if d.addr = 0x700040 ∨ d.addr = 0x1301080 then b2n good else 0
      if d.wrongKey v then (0, s)
      else if s.busyWrite d i v then (1, if d.addr = 0xD00060 ∧ s.chk.checking.isNone then s.writeAddr a v ev else s)
      else if d.addr = 0x700040 ∧ bitsOf v 24 8 = 0xC3 ∧ bitOf v 0 ∧ ¬ s.standby then (2, s.writeAddr a v ev)
      else if s.stbyStops d.fields i v then (2, s)
      else if d.addr = fPRT_VPPB_STATE.addr then s.bindWrite i v
      else if ¬ d.writable then (5, s)
      else if d.odd v ∨ (d.addr = fXLT_WINSH_WORD.addr ∧ winOdd i v) ∨ s.unmanagesBy d i v then (8, s)
      else if s.unreachable d i then (0xC, s.refusedAt a)
      else
        let (r, t) := s.innerCheck true (regMsg s.ownNode 0x7F 0 a 4 true) 4 true
        if r ≠ 0 then (0, t) else t.runWrite d i a v ev

/-- Writes `es`, as (offset, value), made in order, each seeing what those before it leave (R461): the state after all of them, or
the index, the code and the state of the first that is refused. -/
def State.judgeAll (s : State) (es : List (Nat × Nat)) (good : Bool) : Nat × Nat × State :=
  (es.foldl (fun (st : Nat × Nat × Nat × State) e =>
    let (n, k, c, x) := st
    if c ≠ 0 then st
    else
      let (c, y) := x.judgeWrite e.1 e.2 good
      (n + 1, if c = 0 then k else n, c, y)) (0, 0, 0, s)).2

end Sys2Proof.Machine
end

