-- ==== Sys2Proof/Machine/Boot.lean ====
section
/-! DEFINITION. Booting an image (R469 to R477, R487, R489, R510), checking it, firmware trials (R478, R479), and the lifecycle
(R480 to R483). -/

namespace Sys2Proof.Machine

/-! ### The image in a slot (R470 to R473) -/

/-- The fused security version: the number of SVN fuse bits set (R487). -/
def State.svnFused (s : State) : Nat := popCount 32 (s.rd fBOOT_SVNF_SVNBITS 0)

/-- SVN of the image in flash `m` (R471). -/
def imageSvn (m : SMap Nat) : Nat := flashLe m 8 4

/-- Length of stage 1 of the image in flash `m`. -/
def imageS1Len (m : SMap Nat) : Nat := flashLe m 16 4

/-- Length of stage 2 of the image in flash `m`. -/
def imageS2Len (m : SMap Nat) : Nat := flashLe m 20 4

/-- `n` bytes of flash `m` from `a` on are all 0. -/
def flashZero (m : SMap Nat) (a n : Nat) : Bool := (List.range n).all fun i => flashByte m (a + i) == 0

/-- The header's own checks (R471, step 2 of R474): MAGIC, FORMAT, reserved fields, lengths, SPICLK and PROFILE. -/
def headerGood (m : SMap Nat) : Bool :=
  let (s1, s2, prof) := (imageS1Len m, imageS2Len m, flashByte m 25)
  decide (flashLe m 0 4 = 0x5A38494D ∧ flashLe m 4 2 = 1 ∧ flashByte m 6 < 4 ∧ flashByte m 7 < 2 ∧ imageSvn m ≤ 32
      ∧ 8 ≤ s1 ∧ s1 ≤ 1048576 ∧ s1 % 4 = 0 ∧ s2 ≤ 14675968 ∧ s2 % 4 = 0
      ∧ 25 ≤ flashByte m 24 ∧ flashByte m 24 ≤ 100 ∧ (prof < 5 ∨ prof = 7))
    && flashZero m 26 2 && flashZero m 128 128 && (s2 != 0 || flashZero m 80 48)

/-- The fixed bytes of a signature block at `a` (R473): FORMAT, ALG, a root key, the purpose of a boot image, reserved bytes. -/
def blockGood (m : SMap Nat) (a : Nat) : Bool :=
  flashByte m a == 1 && flashByte m (a + 1) == 1 && decide (flashByte m (a + 2) < 4) && flashByte m (a + 3) == 1
    && flashZero m (a + 4) 4

/-- Steps 1 to 4 of R474 on slot `b`, and with `full` the check of stage 2 (R479): the cause of R489, 0 where all pass. -/
def State.imageCause (s : State) (b : Nat) (v : ImageCheck) (full : Bool) : Nat :=
  let m := s.flash b
  if ¬ v.read then 2
  else if ¬ headerGood m then 3
  else if ¬ bitOf (flashByte m 6) (s.rd fBOOT_ID_STEPPING 0) then 4
  else if ¬ blockGood m 256 then 6
  else if ¬ v.key ∨ bitOf (s.rd fBOOT_LCF_REVOKE 0) (flashByte m 258) then 5
  else if ¬ v.sig then 6
  else if imageSvn m < s.svnFused then 7
  else if ¬ v.hash1 then 8
  else if full ∧ imageS2Len m ≠ 0 ∧ ¬ v.hash2 then 10
  else 0

/-! ### Settings records (R472) -/

/-- Bytes as little-endian words. -/
def leWords : List Byte → List Nat
  | a :: b :: c :: d :: bs => leBytes [a, b, c, d] :: leWords bs
  | _ => []

/-- The writes, as (offset, value), that settings records spell; none where a record is cut short or its count is out of range. -/
def recordWrites : Nat → List Nat → Option (List (Nat × Nat))
  | _, [] => some []
  | 0, _ => none
  | k + 1, d :: n :: ws =>
    if n < 1 ∨ 65536 < n ∨ ws.length < n then none
    else (recordWrites k (ws.drop n)).map fun r => (((ws.take n).zipIdx.map fun e => (d + 4 * e.2, e.1)) ++ r)
  | _ + 1, [_] => none

/-- The bytes of stage 1 or 2 of the image in flash `m` (R470). -/
def stageBytes (m : SMap Nat) (stage : Nat) : List Byte :=
  if stage = 1 then flashBytes m 0x1000 (imageS1Len m) else flashBytes m 0x101000 (imageS2Len m)

/-- The writes of a stage: in stage 1 the records follow the firmware (R472). -/
def stageWrites (m : SMap Nat) (stage : Nat) : Option (List (Nat × Nat)) :=
  let ws := leWords (stageBytes m stage)
  if stage = 1 then
    match ws with
    | len :: rest => if 4 * rest.length < len then none else recordWrites ws.length (rest.drop (ceilDiv len 4))
    | [] => none
  else recordWrites ws.length ws

/-- The offsets that any record of the image in flash `m` writes. -/
def imageNames (m : SMap Nat) : List Nat :=
  ([1, 2].flatMap fun k => (stageWrites m k).getD []).map (·.1)

/-- One value of a record written (R472): a binding of the image's tables (R131), a word of no writable field, which is passed
over, or a register write; none where it is refused.  A table is loaded on the image's signature, and at once (R233, R472). -/
def State.imageWrite (s : State) (a v : Nat) : Option State :=
  match s.findReg a with
  | none => if a % 4 = 0 ∧ a < 0x2000000 then some s else none
  | some (d, i) =>
    if d.addr = fPRT_VPPB_STATE.addr then s.bindImage i v
    else if ¬ d.writable then some s
    else
      let (c, t) := s.judgeWrite a v true
      let t := t.took (execTableSwitch t)
      if c ≠ 0 ∨ (d.addr = 0x700040 ∧ t.rd fWM_TTSTAT_RESULT 0 ≠ 2) then none else some t

/-- The window copies that the writes of a stage cover (R281): the active copy takes the shadow's words. -/
def State.imageWindows (s : State) (es : List (Nat × Nat)) : State :=
  s.each es fun s e =>
    match s.findReg e.1 with
    | some (d, i) => if d.addr = fXLT_WINSH_WORD.addr then s.wr fXLT_WINACT_WORD i (s.rd fXLT_WINSH_WORD i) else s
    | none => s

/-- The writes of a stage applied whole, with the Standby rule lifted, and its gate rule sets made active (R297, R472); none where
something is refused. -/
def State.stageApply (s : State) (es : List (Nat × Nat)) : Option State :=
  let t := s.wr fTND_STAT_DEVSTATE 0 1
  match es.foldl (fun o e => o.bind fun s => State.imageWrite s e.1 e.2) (some t) with
  | none => none
  | some t => ((t.imageWindows es).chkImage).map fun t => t.wr fTND_STAT_DEVSTATE 0 s.dev

/-! ### Defaults of what no record names (R260, R344, R510) -/

/-- The registers, as (address of instance 0, instance), among the offsets `named`. -/
def State.namedRegs (s : State) (named : List Nat) : List (Nat × Nat) :=
  named.filterMap fun a => (s.findReg a).map fun e => (e.1.addr, e.2)

/-- Every port that no record gives a default tenant has TI(64 × BASE) (R344). -/
def State.tdefDefaults (s : State) (named : List (Nat × Nat)) : State :=
  s.each ((List.range 64).filter fun p => !named.contains (fWEIR_TDEF_TENANT.addr, p)) fun s p =>
    s.wr fWEIR_TDEF_TENANT p (64 * s.rd fPRT_TIBLK_BASE p)

/-- Node n owns span n where no record names a span (R260). -/
def State.spanDefaults (s : State) (named : List (Nat × Nat)) : State :=
  if named.any fun e => e.1 == fXLT_SPAN_SPAN.addr then s
  else s.each (List.range 16) fun s n => (s.wr fXLT_SPAN_SPAN n n).wrb fXLT_SPAN_VALID n true

/-- The in-band manager port is an x4 upstream port with register access where the records leave no port covering its lane (R57,
R138, R510). -/
def State.managerDefault (s : State) : State :=
  let p := s.rd fPKG_STRAP_MGR_PORT 0
  if s.mgrOn ∧ ¬ s.managerCovered then
    let t := ((s.wrb fPRT_PORTCFG_ENABLE p true).wrb fPRT_PORTCFG_ROLE p true).wrb fPRT_PORTCFG_REGACC p true
    let v := t.word (fieldsAt fPRT_PORTCFG_ENABLE.addr) p
    (s.took (execPortConfigWrite p v (s.wr fTND_STAT_DEVSTATE 0 1))).wr fTND_STAT_DEVSTATE 0 s.dev
  else s

/-- The in-band manager path is enabled and no upstream port covers its lane, as where the records leave no room for one: the image is
refused (R57). -/
def State.managerAstray (s : State) : Bool := s.mgrOn && !(s.managerCovered && s.upstream s.mgrPort)

/-- No port is ready before stage 2 of the image has been applied (R74, R75). -/
def State.portsUnloaded (s : State) : State := s.each (List.range 64) fun s p => (s.portMod p fun x => { x with loaded := false }).readyNow p

/-! ### Trying a slot (R474, R475) -/

/-- The cause of slot `b` recorded (R489). -/
def State.setCause (s : State) (b c : Nat) : State := s.wr (if b = 0 then fBOOT_STAT_CAUSEA else fBOOT_STAT_CAUSEB) 0 c

/-- An applied stage of slot `b` journaled (R472). -/
def State.stageRecord (s : State) (b stage : Nat) : State :=
  s.journal { index := 0x1610, sub := stage, orig := 0xC0, new := crc32 (stageBytes (s.flash b) stage) }

/-- The image in slot `b` boots: profile, stage 1, and what its header sets (R31, R471, R474); the cause where it fails. -/
def State.bootSlot (s : State) (b : Nat) (v : ImageCheck) : Nat × State :=
  let m := s.flash b
  let c := s.imageCause b v false
  if c ≠ 0 then (c, s)
  else
    let prof := if flashByte m 25 = 7 then 0 else flashByte m 25
    let t := (s.loadProfile prof).wr fARCH_PROFILE_SEL 0 prof
    match (stageWrites m 1).bind t.stageApply with
    | none => (9, s)
    | some t =>
      let names := t.namedRegs (imageNames m)
      let t := (((t.spanDefaults names).managerDefault).tdefDefaults names).portsUnloaded
      if t.managerAstray then (9, s) else
      let t := ((t.wr fBOOT_STAT_SLOT 0 b).wr fBOOT_STAT_RUNFW 0 b).setCause b 0
      let t := if t.causeOf (1 - b) = 0 then t.setCause (1 - b) 1 else t
      let t := (t.wr fBOOT_IMGSVN_SVN 0 (imageSvn m)).wr fBOOT_IMGVER_VERSION 0 (flashLe m 12 4)
      let t := (t.wrb fPWR_START_AUTOSTART 0 (bitOf (flashByte m 7) 0)).bootMod fun x =>
        { x with stage2 := some b, ssvid := flashLe m 28 2, ssid := flashLe m 30 2, recovery := false, booted := true }
      (0, ((t.tndMod fun x => { x with limited := false }).stageRecord b 1).wr fPWR_START_PHASE 0 4)

/-- A try of slot `b` fails with cause `c`: the next slot is tried, or the device enters recovery (R475). -/
def State.slotFails (s : State) (b c : Nat) : State :=
  let t := s.setCause b c
  if b = 0 ∧ t.rd fPKG_STRAP_BOOTSEL 0 = 0 then t
  else
    let t := if t.causeOf (1 - b) = 0 then t.setCause (1 - b) 1 else t
    (t.noImage).bootMod fun x => { x with recovery := true }

/-- BOOT_SLOT_TRY: slot A, or B with `b`, is read, checked and applied (R474). -/
def execBootSlotTry (b : Bool) (v : ImageCheck) (s : State) : Host.Outcome State Fault Refusal :=
  let n := b2n b
  .next (if ¬ s.slotTurn n ∨ ¬ s.pwr.sram ∨ s.pwr.manufTest then s
    else match s.bootSlot n v with
      | (0, t) => t.spiIdle
      | (c, _) => (s.slotFails n c).spiIdle)

/-- The tables of every port whose configuration a record of the image holds are loaded (R74, R75). -/
def State.portsLoaded (s : State) (named : List (Nat × Nat)) : State :=
  s.each ((List.range 64).filter fun p => named.contains (fPRT_PORTCFG_ENABLE.addr, p)) State.tabled

/-- STAGE2_LOADED: stage 2 of the booted image is checked and applied, or the device stays in Standby (R474, R476). -/
def execStage2Loaded (v : ImageCheck) (s : State) : Host.Outcome State Fault Refusal :=
  .next (match s.boot.stage2 with
    | none => s
    | some b =>
      let m := s.flash b
      let done := (s.bootMod fun x => { x with stage2 := none }).spiIdle
      let fail := fun (c : Nat) => ((done.setCause b c).pulse 0x1FB).tablesNow
      if ¬ v.read then fail 2
      else if imageS2Len m ≠ 0 ∧ ¬ v.hash2 then fail 10
      else match (stageWrites m 2).bind done.stageApply with
        | none => fail 11
        | some t =>
          let names := t.namedRegs (imageNames m)
          ((((t.tdefDefaults names).wrb fBOOT_STAT_S2OK 0 true).portsLoaded names).stageRecord b 2).tablesNow)

/-- A slot is booted from recovery (R477): every time of the timeline counts from 2 ms before now. -/
def State.bootNow (s : State) (b : Nat) (v : ImageCheck) : State :=
  let (c, t) := (s.pwrMod fun p => { p with start := p.ns - 2000000 }).bootSlot b v
  if c = 0 then t.wr fBOOT_STAT_FWRESULT 0 0 else ((s.setCause b c).wr fBOOT_STAT_FWRESULT 0 c)

/-! ### Firmware commands (R478, R479) -/

/-- The firmware runs out of slot `b`, a trial is in progress, or the slot is being verified: it takes no write (R478). -/
def State.slotShut (s : State) (b : Nat) : Bool :=
  s.rd fBOOT_STAT_RUNFW 0 == b || s.boot.trial.isSome || s.boot.verify == some b

/-- The firmware commands of R479 that act at once: the abort code and the state.  ACTIVATE asks for a restart of the Tender. -/
def State.fwCommand (s : State) (k : Nat) (va vb : ImageCheck) : Nat × State :=
  if s.boot.trial.isSome ∧ k ≠ 5 then (1, if k = 3 ∨ k = 4 then s.wr fBOOT_STAT_FWRESULT 0 14 else s)
  else if s.boot.verify.isSome ∧ k ≠ 5 then (1, s)
  else match k with
    | 1 | 2 => (0, (s.bootMod fun x => { x with verify := some (k - 1) }).wr fBOOT_STAT_FWSTATE 0 1)
    | 3 | 4 =>
      if s.boot.verified.contains (k - 3) then (0, s.bootMod fun x => { x with activate := some (k - 3) })
      else (2, s.wr fBOOT_STAT_FWRESULT 0 14)
    | 5 =>
      if s.boot.trial.isSome then
        (0, ((s.bootMod fun x => { x with trial := none }).wr fBOOT_STAT_FWSTATE 0 3).wr fBOOT_STAT_FWRESULT 0 0)
      else (2, s)
    | _ => if s.boot.recovery then (0, s.bootNow (k - 6) (if k = 6 then va else vb)) else (2, s)

/-- FW_VERIFY_DONE: a background verify ends (R479). -/
def execFwVerifyDone (v : ImageCheck) (s : State) : Host.Outcome State Fault Refusal :=
  .next (match s.boot.verify with
    | none => s
    | some b =>
      let c := s.imageCause b v true
      let t := s.bootMod fun x =>
        { x with verify := none, verified := if c = 0 then b :: x.verified.filter (· != b) else x.verified.filter (· != b) }
      ((t.wr fBOOT_STAT_FWSTATE 0 0).wr fBOOT_STAT_FWRESULT 0 c).spiIdle)

/-- TRIAL_EXPIRE: TRIALSEC passes without a restart; the trial ends as committed (R479). -/
def execTrialExpire (s : State) : Host.Outcome State Fault Refusal :=
  .next (if s.boot.trial.isSome then (s.bootMod fun x => { x with trial := none }).wr fBOOT_STAT_FWSTATE 0 3 else s)

/-! ### Security version and lifecycle (R480 to R483) -/

/-- `x` with its lowest clear bits among `n` set until `v` bits are set: fuses are burnt and never cleared (R480). -/
def burnTo (v : Nat) : Nat → Nat → Nat
  | 0, x => x
  | n + 1, x =>
    let y := burnTo v n x
    if popCount 32 y < v ∧ ¬ bitOf y n then y + 2 ^ n else y

/-- A write of SVN (R480): `va` and `vb` are what a verify of each slot finds. -/
def State.svnWrite (s : State) (v : Nat) (va vb : ImageCheck) : Nat × State :=
  let ok := fun b c => s.imageCause b c true == 0 && decide (v ≤ imageSvn (s.flash b))
  if s.svnFused < v ∧ v ≤ 32 ∧ ok 0 va ∧ ok 1 vb then
    (0, s.wr fBOOT_SVNF_SVNBITS 0 (burnTo v 32 (s.rd fBOOT_SVNF_SVNBITS 0)))
  else (8, s)

/-- The device's serial (R3). -/
def State.serial (s : State) : Nat := s.rd fBOOT_SERIAL_SERIAL 0 + 2 ^ 32 * s.rd fBOOT_SERIAL_SERIAL 1

/-- The 48 bytes of a challenge with nonce `n` (R482). -/
def State.challengeBytes (s : State) (n : Nat) : List Byte := toBeBytes 32 n ++ toBeBytes 8 s.serial ++ toBeBytes 8 0

/-- A read of CHALLENGE: a fresh nonce takes the place of the one before (R482). -/
def State.challenge (s : State) : List Byte × State :=
  let (k, s) := s.draw
  let n := (Config.nonce k).toNat
  (s.challengeBytes n, s.bootMod fun x => { x with nonce := some (n, s.pwr.ns) })

/-- The response holds the current nonce, still valid, the device's own serial, a DURATION in range and a good signature by the
debug key (R473, R482). -/
def State.unlockGood (s : State) (bs : List Byte) (good : Bool) : Bool :=
  let dur := beBytes ((bs.drop 48).take 4)
  let blk := (bs.drop 56).map (·.toNat)
  (match s.boot.nonce with
   | some (n, t) => decide (s.pwr.ns ≤ t + 60 * nsPerSec) && bs.take 48 == s.challengeBytes n
   | none => false)
    && decide (1 ≤ dur ∧ dur ≤ 86400) && beBytes ((bs.drop 52).take 4) == 0
    && blk.take 8 == [1, 1, 4, 3, 0, 0, 0, 0] && !s.rdb fBOOT_LCF_DBGREV 0 && good

/-- An UNLOCK response of 256 bytes taken (R481, R482): Open for DURATION seconds, or refused; the third refusal in a row locks
unlocking out. -/
def State.unlock (s : State) (bs : List Byte) (good byTender : Bool) : Nat × State :=
  if s.rd fBOOT_STAT_LC 0 ≠ 0 then (2, s)
  else if s.rdb fBOOT_STAT_LOCKOUT 0 then (0xB, s)
  else if s.unlockGood bs good then
    let s := s.bootMod fun x => { x with refused := 0, openEnd := s.pwr.ns + beBytes ((bs.drop 48).take 4) * nsPerSec }
    (0, s.lifecycle 1 byTender)
  else
    let n := s.boot.refused + 1
    (0xB, (s.bootMod fun x => { x with refused := n }).wrb fBOOT_STAT_LOCKOUT 0 (decide (3 ≤ n)))

/-- OPEN_EXPIRE: the Open duration expires (R481). -/
def execOpenExpire (s : State) : Host.Outcome State Fault Refusal :=
  .next (if s.rd fBOOT_STAT_LC 0 = 1 then s.lifecycle 0 true else s)

/-- RETIRE taken (R483): only while Open. -/
def State.retireNow (s : State) : Nat × State :=
  if s.rd fBOOT_STAT_LC 0 ≠ 1 then (2, s) else (0, (s.wrb fBOOT_LCF_RETIRED 0 true).lifecycle 2 false)

end Sys2Proof.Machine
end

