-- ==== Sys2Proof/Machine/Debug.lean ====
section
/-! DEFINITION. Debug-class accesses (R283, R284, R291, R462, R485): to the register space, and through the switch core to fabric
memory. -/

namespace Sys2Proof.Machine

/-! ### TAGs -/

/-- TAG of a debug request (R284): bit 63; bit 62 for the TAP; where its bytes go in the result, their place in the line, and
their number. -/
def debugTag (jtag : Bool) (pos off n : Nat) : Nat := 2 ^ 63 + b2n jtag * 2 ^ 62 + pos * 65536 + off * 256 + n

/-- An answer to a debug request. -/
def isDebugAnswer (m : Msg) : Bool := m.grp == 4 && bitOf m.tag 63

/-! ### Fabric memory -/

/-- The request for one piece: a read of its line, or a partial write of `data`. -/
def State.debugMsg (s : State) (jtag write : Bool) (pos a n data : Nat) : Msg :=
  let sh := (s.regionOf a).isSome
  let off := a % 64
  let m : Msg := { kind := .memReq, node := s.ownNode, snode := s.ownNode, src := 0x7F, tag := debugTag jtag pos off n, addr := a - off,
                   tgt := a - off }
  if write then
    { m with kind := if sh then .wmReqData else .memRwd, act := .partWrite, op := if sh then 6 else 5, len := if sh then 88 else 80,
             data := data * 2 ^ (8 * off), be := (2 ^ n - 1) * 2 ^ off }
  else { m with kind := if sh then .wmReq else .memReq, act := .read, op := if sh then 4 else 3 }

/-- One request checked at the internal gate, translated and sent (R283): 0, or the abort code of what stops it. -/
def State.debugSend (s : State) (jtag : Bool) (m : Msg) : Nat × State :=
  let (r, s) := s.innerCheck false m 64 (!jtag)
  if r ≠ 0 then (0xB, s)
  else match s.byFabric { m with chk := some (s.rd fCHK_GATE_EPOCH 64) } m.addr with
    | .send m =>
      match s.egressOf m with
      | some e => if e < 64 ∧ ¬ s.dlUp e then (0xC, s) else (0, s.inject 92 m)
      | none => (0xC, s)
    | .deny reason at_ => (0xB, s.xltDeny 92 m reason at_)
    | .lost => (0xC, s)

/-- A debug access to fabric memory starts: 0 with the number of requests that are out, or the abort code. -/
def State.debugMem (s : State) (jtag write : Bool) (a n : Nat) (data : List Byte) : Nat × Nat × State :=
  (linePieces a n).foldl (fun (st : Nat × Nat × State) (pos, b, k) =>
    let (c, out, s) := st
    if c ≠ 0 then st
    else
      let (c, t) := s.debugSend jtag (s.debugMsg jtag write pos b k (leBytes ((data.drop pos).take k)))
      (c, if c = 0 then out + 1 else out, t)) (0, 0, s)

/-- The bytes that an answer brings, put into the result `bs`. -/
def debugPatch (bs : List Byte) (m : Msg) : List Byte :=
  let (pos, off, n) := (bitsOf m.tag 16 16, bitsOf m.tag 8 8, bitsOf m.tag 0 8)
  bs.take pos ++ ((toLeBytes 64 m.data).drop off).take n ++ bs.drop (pos + n)

/-! ### The register space -/

/-- The words of register space that `n` bytes from address `a` on touch. -/
def wordsAt (a n : Nat) : List Nat := (List.range ((a + n - 1) / 4 + 1 - a / 4)).map fun i => 4 * (a / 4 + i)

/-- The bytes that a read of `n` bytes of the register space from `a` on brings, word by word. -/
def State.readBytes (s : State) (a n : Nat) : List Byte × State :=
  let (bs, s) := (wordsAt a n).foldl (fun (st : List Byte × State) w =>
    let (v, t) := st.2.readAddr w 0
    (st.1 ++ toLeBytes 4 v, t)) ([], s)
  ((bs.drop (a % 4)).take n, s)

/-- A debug access to `n` bytes of the register space from `a` on (R284, R462): the abort code, the bytes read, and the state.  A
write is of whole words. -/
def State.debugReg (s : State) (jtag write : Bool) (a n : Nat) (data : List Byte) : Nat × List Byte × State :=
  let m := regMsg s.ownNode 0x7F (2 ^ 63 + b2n jtag * 2 ^ 62) a n write
  let (r, s) := s.innerCheck true m n (!jtag)
  let ws := wordsAt a n
  if r ≠ 0 then (0xB, [], s)
  else if ws.any fun w => (s.findReg w).any fun e => s.unreachable e.1 e.2 then (0xC, [], s.each ws State.refusedAt)
  else if write then
    (0, [], s.each ws fun s w => s.writeAddr w (leBytes ((data.drop (w - a)).take 4)) 0)
  else (0, s.readBytes a n)

end Sys2Proof.Machine
end

