-- ==== Sys2Proof/Machine/Dict.lean ====
section
/-! DEFINITION. The Apvel object dictionary (R449 to R463): frames, objects, and how a READ and a WRITE are executed. -/

namespace Sys2Proof.Machine

/-! ### Frame bodies (R450, R451) -/

/-- A well-formed body. -/
structure Body where
  kind : Nat
  node : Nat
  any : Bool
  op : Nat
  tag : Nat
  index : Nat
  sub : Nat
  timed : Bool
  last : Bool
  offset : Nat
  apply : Nat
  data : List Byte
  deriving DecidableEq, Repr

/-- The big-endian field of `n` bytes at byte `a`. -/
def beAt (b : List Byte) (a n : Nat) : Nat := beBytes ((b.drop a).take n)

/-- A body parsed; none where VER, KIND, a reserved field, a field that must be 0 or LEN is wrong. -/
def parseBody (b : List Byte) : Option Body :=
  let (kind, node, flags, len) := (beAt b 1 1, beAt b 2 1, beAt b 9 1, beAt b 14 2)
  if b.length < 40 ∨ beAt b 0 1 ≠ 1 ∨ kind < 1 ∨ 4 < kind ∨ 32 ≤ node ∨ 4 ≤ flags ∨ beAt b 30 2 ≠ 0 ∨ 1024 < len
      ∨ b.length ≠ 40 + len ∨ (kind ≠ 2 ∧ beAt b 26 4 ≠ 0) ∨ (¬ bitOf flags 0 ∧ beAt b 16 10 ≠ 0) then none
  else some { kind := kind, node := node % 16, any := bitOf node 4, op := beAt b 3 1, tag := beAt b 4 2, index := beAt b 6 2,
              sub := beAt b 8 1, timed := bitOf flags 0, last := bitOf flags 1, offset := beAt b 10 4, apply := beAt b 16 10,
              data := b.drop 40 }

/-- A TIME80 in nanoseconds; a time beyond every bound where its encoding is invalid (R17). -/
def time80Ns (t : Nat) : Nat := if t % 2 ^ 32 < nsPerSec then t / 2 ^ 32 * nsPerSec + t % 2 ^ 32 else 2 ^ 100

/-- A body of the device's own: KIND, OP, TAG, object, OFFSET, ABORT, JSEQ and DATA. -/
def State.body (s : State) (kind op tag index sub off abort jseq : Nat) (data : List Byte) : List Byte :=
  [1, BitVec.ofNat 8 kind, BitVec.ofNat 8 s.ownNode, BitVec.ofNat 8 op] ++ toBeBytes 2 tag ++ toBeBytes 2 index
    ++ [BitVec.ofNat 8 sub, 0] ++ toBeBytes 4 off ++ toBeBytes 2 data.length ++ toBeBytes 10 0 ++ toBeBytes 4 abort ++ [0, 0]
    ++ toBeBytes 8 jseq ++ data

/-! ### Requesters (R453, R454) -/

/-- The requester of R453: the MAC address, or in band the port. -/
def callerKey (w : Caller) : Nat := if w.path = 2 then 2 ^ 48 + w.port else w.mac

/-- The MAC address of originator slot `n`, where it is in use (R454). -/
def State.slotMac (s : State) (n : Nat) : Option Nat :=
  if s.rdb fTND_ORIG_H_VALID n then some (s.rd fTND_ORIG_L_MAC_L n + 2 ^ 32 * s.rd fTND_ORIG_H_MAC_H n) else none

/-- The originator slot of MAC address `a`. -/
def State.slotOf (s : State) (a : Nat) : Option Nat := (List.range 64).find? fun n => s.slotMac n == some a

/-- Slot `n` has been seen on segment `g`. -/
def State.seen (s : State) (n g : Nat) : State := s.wrb (if g = 0 then fTND_ORIG_H_SEENA else fTND_ORIG_H_SEENB) n true

/-- Slot `n` taken by MAC address `a` (R454). -/
def State.slotTake (s : State) (n a : Nat) : State :=
  ((s.wr fTND_ORIG_L_MAC_L n a).wr fTND_ORIG_H_MAC_H n (a / 2 ^ 32)).wrb fTND_ORIG_H_VALID n true

/-- The originator code of a requester that writes, who takes the lowest free slot at its first WRITE; 0xFF where none is free
(R454). -/
def State.originOf (s : State) (w : Caller) : Nat × State :=
  if w.path = 2 then (w.port, s)
  else
    let code := fun (n : Nat) => (if w.path = 0 then 0x40 else 0x80) + n
    match s.slotOf w.mac with
    | some n => (code n, s.seen n w.path)
    | none =>
      match (List.range 64).find? fun n => !s.rdb fTND_ORIG_H_VALID n with
      | some n => (code n, (s.slotTake n w.mac).seen n w.path)
      | none => (0xFF, s)

/-! ### The objects (R456, R488) -/

/-- Access of a named object; STBY ones are writable in Standby. -/
inductive OAcc where
  | ro | rw | wo | stby
  deriving DecidableEq, Repr

/-- A named object: index, subindex, bytes of its type (0 for a DOMAIN), access and range. -/
structure Obj where
  index : Nat
  sub : Nat
  size : Nat
  acc : OAcc
  lo : Nat
  hi : Nat
  deriving DecidableEq, Repr

/-- The named objects but for ORIGn (R456, R488). -/
def objTable : List Obj :=
  [⟨0x1000, 1, 2, .ro, 0, 0⟩, ⟨0x1000, 2, 1, .ro, 0, 0⟩, ⟨0x1000, 3, 8, .ro, 0, 0⟩, ⟨0x1000, 4, 1, .ro, 0, 0⟩, ⟨0x1000, 5, 0, .ro, 0, 0⟩,
   ⟨0x1000, 6, 8, .ro, 0, 0⟩, ⟨0x1000, 7, 10, .ro, 0, 0⟩, ⟨0x1000, 8, 1, .ro, 0, 0⟩, ⟨0x1100, 0, 1, .ro, 0, 0⟩,
   ⟨0x1101, 0, 1, .wo, 1, 2⟩, ⟨0x1102, 0, 1, .wo, 0x5A, 0x5A⟩, ⟨0x1103, 0, 1, .wo, 1, 15⟩, ⟨0x1104, 1, 1, .ro, 0, 0⟩,
   ⟨0x1104, 2, 8, .wo, 0, 2 ^ 64 - 1⟩, ⟨0x1110, 0, 1, .stby, 0, 1⟩, ⟨0x1111, 0, 1, .stby, 0, 1⟩]
  ++ [⟨0x1200, 1, 8, .ro, 0, 0⟩, ⟨0x1200, 2, 1, .rw, 1, 16⟩, ⟨0x1200, 3, 1, .rw, 0, 1⟩, ⟨0x1200, 4, 1, .rw, 0, 1⟩,
   ⟨0x1200, 6, 1, .stby, 0, 15⟩, ⟨0x1202, 1, 1, .rw, 0, 255⟩, ⟨0x1202, 2, 2, .rw, 1, 3600⟩, ⟨0x1203, 1, 8, .rw, 0, 2 ^ 64 - 1⟩,
   ⟨0x1203, 2, 1, .rw, 0, 255⟩, ⟨0x1300, 1, 8, .ro, 0, 0⟩, ⟨0x1300, 2, 8, .ro, 0, 0⟩, ⟨0x1300, 3, 8, .ro, 0, 0⟩,
   ⟨0x1300, 4, 8, .ro, 0, 0⟩, ⟨0x1300, 5, 1, .rw, 0, 1⟩, ⟨0x1300, 6, 2, .rw, 0, 65535⟩, ⟨0x1300, 7, 1, .wo, 0, 1⟩,
   ⟨0x1301, 0, 0, .ro, 0, 0⟩, ⟨0x1400, 0, 0, .wo, 0, 0⟩, ⟨0x1500, 0, 0, .rw, 0, 0⟩, ⟨0x1600, 0, 0, .stby, 0, 0⟩]
  ++ [⟨0x1610, 1, 1, .ro, 0, 0⟩, ⟨0x1610, 2, 1, .ro, 0, 0⟩, ⟨0x1610, 3, 1, .ro, 0, 0⟩, ⟨0x1610, 4, 1, .ro, 0, 0⟩,
   ⟨0x1610, 5, 1, .ro, 0, 0⟩, ⟨0x1610, 6, 1, .ro, 0, 0⟩, ⟨0x1610, 7, 2, .rw, 10, 3600⟩, ⟨0x1611, 0, 0, .rw, 0, 0⟩,
   ⟨0x1612, 0, 0, .rw, 0, 0⟩, ⟨0x1613, 0, 1, .wo, 1, 7⟩, ⟨0x1620, 0, 1, .ro, 0, 0⟩, ⟨0x1621, 0, 0, .ro, 0, 0⟩,
   ⟨0x1622, 0, 0, .wo, 0, 0⟩, ⟨0x1623, 0, 1, .wo, 1, 1⟩, ⟨0x1624, 0, 4, .ro, 0, 0⟩, ⟨0x1625, 0, 1, .stby, 0, 32⟩,
   ⟨0x1626, 0, 4, .stby, 0x52455449, 0x52455449⟩]

/-- The named object of an index and subindex. -/
def objAt (i j : Nat) : Option Obj :=
  if i = 0x1201 ∧ 1 ≤ j ∧ j ≤ 64 then some ⟨0x1201, j, 8, .ro, 0, 0⟩
  else objTable.find? fun o => o.index == i && o.sub == j

/-- The index has an object (R456). -/
def indexKnown (i : Nat) : Bool := i == 0x1201 || 0x8000 ≤ i || objTable.any fun o => o.index == i

/-- The device offset of a register object (R457). -/
def regOffset (i j : Nat) : Nat := (i - 0x8000) * 1024 + 4 * j

/-- The device's own MAC address (R450). -/
def State.ownMac (s : State) : Nat := 0x021FC4000000 + s.serial % 2 ^ 24

/-- Index:Sub as one number. -/
def objKey (i j : Nat) : Nat := 256 * i + j

/-- The value of a named object that holds a number (R456, R488). -/
def State.objValue (s : State) (i j : Nat) : Nat :=
  if i = 0x1201 then s.rd fTND_ORIG_L_MAC_L (j - 1) + 2 ^ 32 * s.rd fTND_ORIG_H_MAC_H (j - 1) + 2 ^ 48 * s.rd fTND_ORIG_H_VALID (j - 1)
  else match objKey i j with
    | 0x100001 => s.rd fBOOT_ID_PARTCODE 0
    | 0x100002 => s.rd fBOOT_ID_STEPPING 0
    | 0x100003 => beBytes (toLeBytes 4 (s.rd fBOOT_LOT_LOT 0) ++ toLeBytes 4 (s.rd fBOOT_LOT_LOT 1))
    | 0x100004 => s.rd fBOOT_ID_WAFER 0
    | 0x100006 => s.serial
    | 0x100007 => s.time80
    | 0x100008 => s.ftQual
    | 0x110000 => s.dev
    | 0x110401 => s.epochTimes.length
    | 0x111000 => s.rd fCHK_CTL_PRECED 0
    | 0x111100 => s.rd fSPW_CTL_ZL25 0
    | 0x120001 => s.ownMac
    | 0x120002 => s.rd fTND_CTL_NODECNT 0
    | 0x120003 => s.rd fTND_CTL_SEGAEN 0
    | 0x120004 => s.rd fTND_CTL_SEGBEN 0
    | 0x120006 => s.ownNode
    | 0x120201 => s.rd fTND_LOCK_HOLDER 0
    | 0x120202 => s.rd fTND_LOCK_LOCKSEC 0
    | 0x120301 => s.subscr
    | 0x120302 => s.kinds
    | 0x130001 => s.headSeq
    | 0x130002 => s.oldestSeq
    | 0x130003 => s.ckSeq
    | 0x130004 => s.bootSeq
    | 0x130005 => s.rd fWLG_CTL_MIRROR 0
    | 0x130006 => s.rd fWLG_CTL_CKSEC 0
    | 0x161001 => s.rd fBOOT_STAT_SLOT 0
    | 0x161002 => s.rd fBOOT_STAT_CAUSEA 0
    | 0x161003 => s.rd fBOOT_STAT_CAUSEB 0
    | 0x161004 => s.rd fBOOT_STAT_RUNFW 0
    | 0x161005 => s.rd fBOOT_STAT_FWSTATE 0
    | 0x161006 => s.rd fBOOT_STAT_FWRESULT 0
    | 0x161007 => s.boot.trialSec
    | 0x162000 => s.rd fBOOT_STAT_LC 0
    | 0x162400 => s.peek fBOOT_OPENREM_SEC.addr
    | 0x162500 => s.svnFused
    | 0x162600 => if s.rdb fBOOT_LCF_RETIRED 0 then 0x52455449 else 0
    | _ => 0

/-- Bytes of the ring object from `off` on (R456): a place that no record holds reads 0. -/
def State.ringBytes (s : State) (off n : Nat) : List Byte :=
  let k := off / 32
  (((List.range (n / 32 + 2)).flatMap fun i =>
    match SMap.get none s.tnd.ring (k + i) with
    | some r => recBytes r
    | none => toLeBytes 32 0).drop (off % 32)).take n

/-- The length of a DOMAIN object, and its bytes `n` from `off` on. -/
def State.domainRead (s : State) (i j off n : Nat) : Nat × List Byte :=
  let die := (toLeBytes 4 (s.rd fBOOT_DIE_POS 0) ++ toLeBytes 4 (s.rd fBOOT_DIE_POS 1) ++ toLeBytes 2 (s.rd fBOOT_DIE_POS 2))
  if i = 0x1000 ∧ j = 5 then (10, (die.drop off).take n)
  else if i = 0x1301 then (16777216, s.ringBytes off n)
  else if i = 0x1500 then (s.tnd.dbgData.length, (s.tnd.dbgData.drop off).take n)
  else if i = 0x1600 then (1476, ((((List.range 369).flatMap fun k => toLeBytes 4 (s.ttWord k))).drop off).take n)
  else (16777216, flashBytes (s.flash (i - 0x1611)) off n)

/-! ### Answers (R451 to R453) -/

/-- Bytes go back to where a request came from: on its segment, unless a NODE_ID strap floats (R55), or in band. -/
def State.sendBack (s : State) (w : Caller) (bs : List Byte) : State :=
  if w.path = 2 then s.send (.cci w.port 0 bs)
  else if s.pwr.silent then s
  else s.send (.frame w.path w.mac bs)

/-- A response goes out: that to a broadcast after 1 ms times the node identity (R451). -/
def State.sayBack (s : State) (c : Cmd) (bs : List Byte) : State :=
  if c.later ∧ s.ownNode ≠ 0 then s.tndMod fun t => { t with bcast := t.bcast ++ [(c.who.path, c.who.mac, bs)] }
  else s.sendBack c.who bs

/-- A command ends with an abort code: the response is kept, but for 0x01, and sent (R452, R453). -/
def State.answer (s : State) (c : Cmd) (abort jseq : Nat) (data : List Byte) : State :=
  let bs := s.body 2 c.op c.who.tag c.index c.sub c.offset abort jseq data
  let s := s.when_ (abort != 1) fun s => s.tndMod fun t =>
    let k := t.kept ++ [{ who := callerKey c.who, tag := c.who.tag, resp := bs }]
    { t with kept := k.drop (k.length - 16) }
  s.sayBack c bs

/-! ### READ (R457, R459) -/

/-- Only some objects are answered at the 60 ms point (R52, R459, R477): the code for an object that is not. -/
def State.limitCode (s : State) (i : Nat) : Nat :=
  if ¬ s.tnd.limited ∨ i = 0x1000 ∨ (s.boot.recovery ∧ ¬ s.pwr.manufTest ∧ 0x1610 ≤ i ∧ i ≤ 0x16FF) then 0 else 2

/-- A READ of a register object: a denied one reads 0 (R292), and one of a block without power is refused (R457). -/
def State.readRegObj (s : State) (a : Nat) : Nat × List Byte × State :=
  match s.findReg a with
  | none => (0, toBeBytes 4 (s.readAddr a 0).1, (s.readAddr a 0).2)
  | some (d, i) =>
    if d.writeOnly then (6, [], s)
    else if s.unreachable d i then (0xC, [], s.refusedAt a)
    else
      let (r, t) := s.innerCheck true (regMsg s.ownNode 0x7F 0 a 4 false) 4 true
      if r ≠ 0 then (0, toBeBytes 4 0, t)
      else (0, toBeBytes 4 (t.readAddr a 0).1, (t.readAddr a 0).2)

/-- A READ executed: the abort code, the data and the state after it. -/
def State.dictRead (s : State) (c : Cmd) : Nat × List Byte × State :=
  let (i, j) := (c.index, c.sub)
  if s.limitCode i ≠ 0 then (2, [], s)
  else if 0x8000 ≤ i then (if c.offset ≠ 0 then (7, [], s) else s.readRegObj (regOffset i j))
  else match objAt i j with
    | none => (if indexKnown i then 4 else 3, [], s)
    | some o =>
      if o.acc = .wo then (6, [], s)
      else if i = 0x1621 then
        (if c.offset < 48 then (0, s.challenge.1.drop c.offset, s.challenge.2) else (8, [], s))
      else if o.size = 0 then
        let (len, bs) := s.domainRead i j c.offset (min 1024 ((s.domainRead i j 0 0).1 - c.offset))
        if c.offset < len ∨ c.offset = 0 then (0, bs, s) else (8, [], s)
      else if c.offset ≠ 0 then (7, [], s)
      else (0, toBeBytes o.size (s.objValue i j), s)

end Sys2Proof.Machine
end

