-- ==== Sys2Proof/Machine/DictWrite.lean ====
section
/-! DEFINITION. WRITEs of the object dictionary (R455 to R463): what each object does with its value, checks in the order of the abort
codes, records, timed writes and batches. -/

namespace Sys2Proof.Machine

/-! ### What the named objects do (R456, R459, R488) -/

/-- STATECMD (R78, R456, R459, R483): one that names the present state is OK and changes nothing, but that in Standby it withdraws a
command to enter Operational. -/
def State.stateCmd (s : State) (v : Nat) : Nat × State :=
  if v = 1 then
    (if s.dev = 1 then (0, s.pwrMod fun p => { p with oper := false })
    else if s.operating then (0, (s.setDev 1).pwrMod fun p => { p with oper := false })
    else (2, s))
  else if s.rd fBOOT_STAT_LC 0 = 2 then (2, s)
  else if s.dev = 1 then (0, s.pwrMod fun p => { p with oper := true })
  else if s.dev = 2 then (0, s)
  else (2, s)

/-- EPOCHCANCEL: a pending write or batch is withdrawn (R460). -/
def State.epochCancel (s : State) (q : Nat) : Nat × State :=
  if s.tnd.timed.any fun t => t.seq == q then
    (0, s.tndMod fun t => { t with timed := t.timed.filter fun x => x.seq != q })
  else (8, s)

/-- The first gate with an overlap in its active or its staged set, and its first overlapping pair (R289). -/
def State.anyOverlap (s : State) : Option (Nat × Nat × Nat) :=
  (List.range 65).findSome? fun g =>
    ((overlapIn (rulesOf s.chk.active g)).orElse fun _ => overlapIn (rulesOf s.chk.staged g)).map fun e => (g, e)

/-- PRECEDENCE: the mode is selected, or left where no set overlaps (R289). -/
def State.precedence (s : State) (on : Bool) : Nat × State :=
  if on ∨ ¬ s.preced then (0, s.wrb fCHK_CTL_PRECED 0 on)
  else match s.anyOverlap with
    | some (g, a, b) => (0xA, s.loadErr g a b)
    | none => (0, s.wrb fCHK_CTL_PRECED 0 false)

/-- SWCLEAR: the software-clear mode is selected or left (R405). -/
def State.swClear (s : State) (on : Bool) : State :=
  let t := s.wrb fSPW_CTL_ZL25 0 on
  if s.rdb fSPW_CTL_ZL25 0 ∧ ¬ on then t.leaveClearMode else t

/-- LOCKHOLDER: released, or claimed by the requester's own code while free (R458). -/
def State.lockWrite (s : State) (orig v : Nat) : Nat × State :=
  let h := s.rd fTND_LOCK_HOLDER 0
  if v = 0xFF then (0, s.wr fTND_LOCK_HOLDER 0 0xFF)
  else if v = orig ∧ (h = 0xFF ∨ h = orig) then (0, s.wr fTND_LOCK_HOLDER 0 v)
  else (0xB, s)

/-- TTIMAGE: the image is staged and loaded (R233, R456). -/
def State.ttImageWrite (s : State) (bs : List Byte) (good : Bool) : Nat × State :=
  if bs.length = 0 ∨ 1476 < bs.length then (8, s)
  else if s.wm.loading.isSome then (1, s)
  else
    let t := s.each (List.range (ceilDiv bs.length 4)) fun s i => s.uset (0x708000 + 4 * i) (leBytes ((bs.drop (4 * i)).take 4))
    t.judgeWrite 0x700040 0xC3000001 good

/-- DEBUG (R462): its space, operation, count, address and data. -/
def State.debugWrite (s : State) (bs : List Byte) : Nat × State :=
  let (sp, op, n, a, data) := (beAt bs 0 1, beAt bs 1 1, beAt bs 2 2, beAt bs 4 8, bs.drop 12)
  let write := op == 2
  if bs.length < 12 ∨ 1 < sp ∨ op < 1 ∨ 2 < op ∨ n < 1 ∨ 64 < n ∨ data.length ≠ (if write then n else 0)
      ∨ (sp = 1 ∧ write ∧ (a % 4 ≠ 0 ∨ n % 4 ≠ 0)) then (8, s)
  else if sp = 1 then
    let (c, r, s) := s.debugReg false write a n data
    (c, if c = 0 ∧ ¬ write then s.tndMod fun t => { t with dbgData := r } else s)
  else
    let (c, out, s) := s.debugMem false write a n data
    (c, if c = 0 then s.tndMod fun t =>
        { t with left := out, denied := false, poison := false, dbgData := if write then t.dbgData else toLeBytes n 0 }
      else s)

/-- The entries of a BATCH, as (offset, value) (R461). -/
def batchEntries : List Byte → List (Nat × Nat)
  | a :: b :: c :: d :: e :: f :: g :: h :: bs => (beBytes [a, b, c, d], beBytes [e, f, g, h]) :: batchEntries bs
  | _ => []

/-- A BATCH of whole entries, 1 to 127. -/
def batchGood (bs : List Byte) : Bool := bs.length % 8 == 0 && decide (8 ≤ bs.length ∧ bs.length ≤ 1016)

/-- The write of a BATCH (R461): every entry by the one judgement, and the number of the first refused one as DATA. -/
def State.batchWrite (s : State) (c : Cmd) : Nat × List Byte × State :=
  if ¬ batchGood c.data then (8, [], s)
  else
    let r := s.judgeAll (batchEntries c.data) c.good
    if r.2.1 = 0 then (0, [], r.2.2) else (r.2.1, [BitVec.ofNat 8 r.1], s.refusal r.2.2 r.2.1)

/-- A result that carries no DATA. -/
def noData (r : Nat × State) : Nat × List Byte × State := (r.1, [], r.2)

/-- What a WRITE of value `v` does to the object of key `k` in the named part of the dictionary. -/
def State.namedWrite (s : State) (orig : Nat) (c : Cmd) (v k : Nat) : Nat × List Byte × State :=
  if k = 0x110100 then noData (s.stateCmd v)
  else if k = 0x110200 then noData (0, s)
  else if k = 0x110300 then noData (0, s.each (setBits 4 v) State.tileReset)
  else if k = 0x110402 then noData (s.epochCancel v)
  else if k = 0x111000 then noData (s.precedence (v == 1))
  else if k = 0x111100 then noData (0, s.swClear (v == 1))
  else if k = 0x120002 then noData (0, s.wr fTND_CTL_NODECNT 0 v)
  else if k = 0x120003 then noData (0, s.wr fTND_CTL_SEGAEN 0 v)
  else if k = 0x120004 then noData (0, s.wr fTND_CTL_SEGBEN 0 v)
  else if k = 0x120006 then noData (0, { s with node := some v })
  else if k = 0x120201 then noData (s.lockWrite orig v)
  else if k = 0x120202 then noData (0, s.wr fTND_LOCK_LOCKSEC 0 v)
  else if k = 0x120301 then noData (0, { s with subscr := v })
  else if k = 0x120302 then noData (0, { s with kinds := v })
  else if k = 0x130005 then noData (0, s.wr fWLG_CTL_MIRROR 0 v)
  else if k = 0x130006 then noData (0, s.wr fWLG_CTL_CKSEC 0 v)
  else if k = 0x130007 then noData (0, if v = 1 then s.ckStart else s)
  else if k = 0x140000 then s.batchWrite c
  else if k = 0x150000 then noData (s.debugWrite c.data)
  else if k = 0x160000 then noData (s.ttImageWrite c.data c.good)
  else if k = 0x161007 then noData (0, s.bootMod fun b => { b with trialSec := v })
  else if k = 0x161300 then noData (s.fwCommand v c.va c.vb)
  else if k = 0x162200 then if c.data.length = 256 then noData (s.unlock c.data c.good false) else (7, [], s)
  else if k = 0x162300 then noData (0, if s.rd fBOOT_STAT_LC 0 = 1 then s.lifecycle 0 false else s)
  else if k = 0x162500 then noData (s.svnWrite v c.va c.vb)
  else if k = 0x162600 then noData s.retireNow
  else noData (5, s)

/-- What a WRITE does, with all its bytes and no regard to who else may write: the abort code, DATA of the response, and the
state.  WARMRESET and ACTIVATE act once their record is complete. -/
def State.objWrite (s : State) (orig : Nat) (c : Cmd) : Nat × List Byte × State :=
  if 0x8000 ≤ c.index then noData (s.judgeWrite (regOffset c.index c.sub) (beBytes c.data) c.good)
  else s.namedWrite orig c (beBytes c.data) (objKey c.index c.sub)

/-! ### Checks before the object acts (R455, R458, R459) -/

/-- The first code in table order that applies (R455). -/
def firstCode (cs : List Nat) : Nat := cs.foldl (fun a c => if c = 0 then a else if a = 0 then c else min a c) 0

/-- Safe admits the write (R459). -/
def State.safeAdmits (s : State) (c : Cmd) : Bool :=
  [0x110200, 0x130007, 0x120201].contains (objKey c.index c.sub)
    || (0x8000 ≤ c.index && (regOffset c.index c.sub) / 0x100000 == 0x12
        && match s.findReg (regOffset c.index c.sub) with
          | some (d, _) => d.fields.any fun f => f.acc == .w1c
          | none => false)

/-- A slot of image object `i`. -/
def imageSlot (i : Nat) : Option Nat := if i = 0x1611 then some 0 else if i = 0x1612 then some 1 else none

/-- 5 where the register at index `i`, subindex `j` has no field that can be written (R455). -/
def State.roCode (s : State) (i j : Nat) : Nat :=
  match s.findReg (regOffset i j) with
  | some (d, _) => if d.writable then 0 else 5
  | none => 0

/-- What the object and the device state say of a WRITE before its value acts (R13, R17, R455 to R457, R459). -/
def State.preCode (s : State) (c : Cmd) : Nat :=
  let (i, j, v) := (c.index, c.sub, beBytes c.data)
  let limit := s.limitCode i
  let safe := if s.dev = 4 ∧ ¬ s.safeAdmits c then 2 else 0
  if 0x8000 ≤ i then firstCode [limit, safe, s.roCode i j, if c.data.length ≠ 4 ∨ c.offset ≠ 0 then 7 else 0]
  else match objAt i j with
    | none => firstCode [limit, safe, if indexKnown i then 4 else 3]
    | some o =>
      firstCode [limit, safe, if o.acc = .stby ∧ ¬ s.standby then 2 else 0,
        (match imageSlot i with
         | some b => if s.slotShut b then 2 else 0
         | none => 0),
        if o.acc = .ro then 5 else 0,
        if o.size ≠ 0 ∧ (c.data.length ≠ o.size ∨ c.offset ≠ 0) then 7 else 0,
        if o.size ≠ 0 ∧ (v < o.lo ∨ o.hi < v) then 8 else 0]

/-- What the lock and the originator table say of a WRITE (R454, R458), and a broadcast address (R455). -/
def State.whoCode (s : State) (orig : Nat) (c : Cmd) : Nat :=
  let h := s.rd fTND_LOCK_HOLDER 0
  let exempt := s.dev == 4 || objKey c.index c.sub == 0x110200 || (objKey c.index c.sub == 0x120201 && beBytes c.data == 0xFF)
  firstCode [if orig = 0xFF ∨ (h ≠ 0xFF ∧ h ≠ orig ∧ ¬ exempt) then 0xB else 0, if c.bcast then 0xE else 0]

/-- An object whose own rules time its changes (R460). -/
def State.ownTimed (s : State) (a : Nat) : Bool :=
  match s.findReg a with
  | some (d, _) => [0xB00114, 0xB01000, 0xD00060, 0xE0201C].contains d.addr
  | none => false

/-- A timed WRITE names an object whose own rules time its changes, or an image that is written in the background. -/
def State.ownTimedCmd (s : State) (c : Cmd) : Bool :=
  if 0x8000 ≤ c.index then s.ownTimed (regOffset c.index c.sub)
  else if c.index = 0x1400 then (batchEntries c.data).any fun e => s.ownTimed e.1
  else (imageSlot c.index).isSome

/-! ### Records (R463) -/

/-- The records of a WRITE: one, or one for each entry of a BATCH (R461, R463). -/
def State.recsOf (s : State) (c : Cmd) (orig flags result : Nat) : List Rec :=
  let v := beBytes c.data
  let base : Rec := { index := c.index, sub := c.sub, orig := orig, flags := flags, result := result }
  if c.index = 0x1400 ∧ c.sub = 0 ∧ batchGood c.data then
    (batchEntries c.data).map fun e =>
      { base with index := 0x8000 + e.1 / 1024 % 0x8000, sub := e.1 / 4 % 256, flags := flags + 8, old := s.peek e.1, new := e.2 }
  else if 0x8000 ≤ c.index then
    if 4 < c.data.length then [{ base with flags := flags + 1, new := crc32 c.data }]
    else [{ base with old := s.peek (regOffset c.index c.sub), new := v }]
  else match objAt c.index c.sub with
    | none => [if 4 < c.data.length then { base with flags := flags + 1, new := crc32 c.data } else { base with new := v }]
    | some o =>
      if o.size = 0 then
        let old := if o.acc = .stby ∧ c.index = 0x1600 then crc32 (s.domainRead c.index c.sub 0 1476).2 else 0
        [{ base with flags := flags + 1, old := old, new := crc32 c.data }]
      else if 4 < o.size ∨ 4 < c.data.length then
        let old := if o.acc = .wo then 0 else crc32 (toBeBytes o.size (s.objValue c.index c.sub))
        [{ base with flags := flags + 1, old := old, new := crc32 c.data }]
      else [{ base with old := if o.acc = .wo then 0 else s.objValue c.index c.sub, new := v }]

/-- Records `q` to `q + n − 1` completed with RESULT `r`. -/
def State.recsDone (s : State) (q n r : Nat) : State :=
  s.each (List.range n) fun s k => s.recMod (q + k) fun x => { x with result := r }

/-! ### Restarts of the Tender (R465, R479) -/

/-- The dump on ring `r` starts again from its first byte (R479). -/
def State.dumpAgain (s : State) (r : Nat) : State :=
  match s.dumpOn r with
  | none => s
  | some d =>
    match s.bank d.bank with
    | none => s
    | some n =>
      let d := { d with body := false }
      let u := (s.setDump r (some d)).dumpLines r d n bodyLines
      if u.1 then u.2 else u.2.dumpFail r

/-- A free verdict: whether a write that was interrupted or timed out had been applied (R452, R465). -/
def State.maybe (s : State) (f : State → State) : State :=
  let (k, s) := s.draw
  if Config.applied k then f s else s

/-- What the executing command may have done. -/
def State.runningEffect (s : State) (r : Running) : State :=
  if ¬ r.cmd.hang then s
  else if r.cmd.op = 2 then s.maybe fun s => (s.objWrite r.orig r.cmd).2.2
  else s.maybe fun s => (s.dictRead r.cmd).2.2

/-- The Tender restarts (R465): the command in flight ends with its records marked, and what was queued or half sent is lost. -/
def State.tenderRestart (s : State) : State :=
  let s := (s.inc fTND_ERR_MISMATCH 0).wrb fTND_STAT_RESTARTED 0 true
  let (q, s) := match s.tnd.exec with
    | some r =>
      match r.seq with
      | some q => (q, (s.runningEffect r).recsDone q r.n 0x12)
      | none => (0, s.runningEffect r)
    | none => (0, s)
  s.tndMod fun t =>
    { t with exec := none, queue := [], xfers := [], bcast := [], restarting := true, broken := q, left := 0 }

/-- The Tender goes into the firmware of slot `b`, and the trial of it begins (R479). -/
def State.activateNow (s : State) (b : Nat) : State :=
  let s := s.bootMod fun x => { x with trial := some (s.rd fBOOT_STAT_RUNFW 0), activate := none }
  ((s.wr fBOOT_STAT_RUNFW 0 b).wr fBOOT_STAT_FWSTATE 0 2).tenderRestart

/-! ### Execution of a WRITE (R457, R460, R461, R463) -/

/-- What a completed command does once its record is complete: the warm reset of WARMRESET (R467), and the restart of ACTIVATE
(R479). -/
def State.afterWrite (s : State) (c : Cmd) : State :=
  if objKey c.index c.sub = 0x110200 then s.warmReset 3
  else match s.boot.activate with
    | some b => s.activateNow b
    | none => s

/-- A WRITE that is refused, with its records (R463). -/
def State.refuse (s : State) (orig : Nat) (c : Cmd) (code : Nat) (data : List Byte) : State :=
  let q := s.headSeq
  let s := s.each (s.recsOf c orig 0 code) State.journal
  s.answer c code q data

/-- One pending write applied (R460): validated against the configuration as it stands, journaled, and notified where it is
refused.  In Safe it has no effect (R459). -/
def State.epochOne (s : State) (t : Timed) : State :=
  let s := s.tndMod fun x => { x with timed := x.timed.filter fun y => y.seq != t.seq }
  let q := s.headSeq
  let rs := s.recsOf t.cmd origTender 4 0xFF
  let s1 := s.each rs State.journal
  let e := if s.dev = 4 then 2 else s.preCode { t.cmd with offset := 0 }
  let (code, _, u) := if e ≠ 0 then (e, [], s1) else s1.objWrite t.orig t.cmd
  let u := (u.recsDone q rs.length code).tndMod fun x => { x with left := 0 }
  if code = 0 then u.afterWrite t.cmd else u.notify 5 q

/-- A pending configuration epoch (R35): a timed write, map command or window commit. -/
inductive Epoch where
  | write (t : Timed)
  | map (c : TimedMap)
  | window (w : TimedWin)
  deriving DecidableEq, Repr

/-- The apply time of an epoch. -/
def epochAt : Epoch → Nat
  | .write t => t.at_
  | .map c => c.at_
  | .window w => w.at_

/-- Where an epoch stands in the Waterlog (R98, R463): a write behind its own record, a map command or window commit where it was
accepted, which is behind its record where the dictionary made it (log entry 120). -/
def epochSeq : Epoch → Nat
  | .write t => t.seq + 1
  | .map c => c.seq
  | .window w => w.seq

/-- An epoch acts, where nothing before it has withdrawn it. -/
def State.epochAct (s : State) : Epoch → State
  | .write t => if s.tnd.timed.contains t then s.epochOne t else s
  | .map c => if s.xlt.timed.contains c then s.applyMap c else s
  | .window w => if s.xlt.winAt.contains w then s.applyWindow w else s

/-- The epochs due by `by_`, in ascending Waterlog sequence. -/
def State.epochsDueList (s : State) (by_ : Nat) : List Epoch :=
  sortBy epochSeq ((s.tnd.timed.map Epoch.write ++ s.xlt.timed.map Epoch.map ++ s.xlt.winAt.map Epoch.window).filter fun e =>
    decide (epochAt e ≤ by_))

/-- Every epoch due by `by_` acts, in ascending time and sequence (R99, R460). -/
def State.epochsApply (s : State) (by_ : Nat) : State := s.each (sortBy epochAt (s.epochsDueList by_)) State.epochAct

/-- Every epoch due on this tick acts, in ascending sequence (R98). -/
def State.epochsTick (s : State) : State := s.each (s.epochsDueList s.ft.now) State.epochAct

/-- The configuration as it will stand after every pending epoch due before `t` (R460). -/
def State.future (s : State) (t : Nat) : State := if t = 0 then s else s.epochsApply (t - 1)

/-- A timed WRITE validated, and pending where it is accepted (R460); `e` is what the checks before have found. -/
def State.writeTimed (s : State) (orig : Nat) (c : Cmd) (e t : Nat) : State :=
  let (jc, data, x) := if e = 0 ∨ 8 < e then (s.future t).errAside.objWrite orig c else (0, [], s)
  let new := !s.epochTimes.contains t
  let above := if new ∧ 256 < s.claims + 1 then 9 else 0
  let late := if s.ft.now + 86400 * nsPerSec < t then 8 else 0
  let full := if new ∧ 64 ≤ s.epochTimes.length then 0x10 else 0
  let code := firstCode [e, late, above, if s.ownTimedCmd c then 0xA else 0, jc, full]
  if code = 0 then
    let q := s.headSeq
    let s := s.each (s.recsOf c orig 2 0) State.journal
    (s.tndMod fun x => { x with timed := x.timed ++ [{ seq := q, at_ := t, orig := orig, cmd := c }] }).answer c 0 q []
  else if code = 1 then s.answer c 1 0 []
  else
    let s := if code = jc then s.refusal x code else if code = 9 then s.conflictRec 3 (ceilDiv (s.claims + 1) 4) 0 else s
    s.refuse orig c code (if code = jc then data else [])

/-- An untimed WRITE executed (R457, R463): its records are written, it acts, and the records are completed. -/
def State.writeNow (s : State) (orig : Nat) (c : Cmd) (e : Nat) : State :=
  let q := s.headSeq
  let rs := s.recsOf c orig 0 0xFF
  let s1 := s.each rs State.journal
  let (jc, data, t) := if e = 0 ∨ 8 < e then s1.objWrite orig c else (0, [], s1)
  let code := firstCode [e, jc]
  let run : Running := { cmd := c, orig := orig, seq := some q, n := rs.length }
  if code = 0 then
    if c.hang then s1.tndMod fun x => { x with exec := some run }
    else if t.tnd.left ≠ 0 then t.tndMod fun x => { x with exec := some run }
    else ((t.recsDone q rs.length 0).answer c 0 q data).afterWrite c
  else if code = 1 then ((s.objWrite orig c).2.2).answer c 1 0 []
  else if code = jc then (t.recsDone q rs.length code).answer c code q data
  else (s1.recsDone q rs.length code).answer c code q []

/-- A whole WRITE executed, timed or not. -/
def State.writeWhole (s : State) (orig : Nat) (c : Cmd) : State :=
  let e := firstCode [s.preCode c, s.whoCode orig c]
  match c.apply with
  | some t => s.writeTimed orig c e t
  | none => s.writeNow orig c e

/-! ### DOMAIN transfers (R457, R478) -/

/-- The open transfer of originator `o`. -/
def State.xferOf (s : State) (o : Nat) : Option Transfer := s.tnd.xfers.find? fun x => x.orig == o

/-- The open transfer of originator `o` abandoned. -/
def State.xferDrop (s : State) (o : Nat) : State := s.tndMod fun t => { t with xfers := t.xfers.filter fun x => x.orig != o }

/-- The transfer that a segment continues or opens; none where the segment is out of order. -/
def State.xferNext (s : State) (o : Nat) (c : Cmd) : Option Transfer :=
  if c.offset = 0 then some { orig := o, index := c.index, sub := c.sub, data := c.data }
  else match s.xferOf o with
    | some x => if x.data.length = c.offset then some { x with data := x.data ++ c.data } else none
    | none => none

/-- Bytes of image segments staged. -/
def State.stagedBytes (s : State) : Nat := (s.boot.staged.map fun x => x.data.length).sum

/-- A segment of an image (R478): staged where there is room, else it waits in execution. -/
def State.imageSegment (s : State) (o b : Nat) (c : Cmd) : State :=
  let e := firstCode [s.preCode c, s.whoCode o c, if 0x1000000 < c.offset + c.data.length then 8 else 0,
    if c.apply.isSome then 0xA else 0]
  if e ≠ 0 then (s.xferDrop o).refuse o c e []
  else if s.boot.failed.contains b ∧ c.offset ≠ 0 then
    ((s.bootMod fun x => { x with failed := x.failed.filter (· != b) }).xferDrop o).refuse o c 0x11 []
  else match s.xferNext o c with
    | none => (s.xferDrop o).refuse o c 0xF []
    | some x =>
      if c.hang ∨ 1048576 < s.stagedBytes + c.data.length then
        s.tndMod fun t => { t with exec := some { cmd := { c with hang := false }, orig := o, seq := none, n := 0 } }
      else
        let first := c.offset = 0
        let x := if first then { x with was := SMap.keep (s.flash b) fun a _ => decide (a < 0x1000000) } else x
        let s := s.bootMod fun y =>
          { y with staged := y.staged ++ [{ slot := b, offset := c.offset, data := c.data }],
                   verified := y.verified.filter (· != b),
                   erased := if first then y.erased.filter fun k => k / 256 != b else y.erased,
                   failed := if first then y.failed.filter (· != b) else y.failed }
        let s := s.xferDrop o
        if c.last then
          let q := s.headSeq
          let old := crc32 (flashBytes x.was 0 x.data.length)
          (s.journal { index := c.index, sub := c.sub, orig := o, flags := 1, old := old, new := crc32 x.data }).answer c 0 q []
        else (s.tndMod fun t => { t with xfers := t.xfers ++ [x] }).answer c 0 0 []

/-- A segment of any other DOMAIN object (R457): the object takes effect at the last one. -/
def State.domainSegment (s : State) (o : Nat) (c : Cmd) : State :=
  let e := firstCode [s.preCode c, s.whoCode o c]
  match s.xferNext o c with
  | none => (s.xferDrop o).refuse o c (firstCode [e, 0xF]) []
  | some x =>
    let s := s.xferDrop o
    if c.last then s.writeWhole o { c with data := x.data, offset := 0 }
    else if e ≠ 0 then s.refuse o c e []
    else (s.tndMod fun t => { t with xfers := t.xfers ++ [x] }).answer c 0 0 []

/-- A WRITE executed (R452, R454, R457): a write to another object abandons the requester's open transfer. -/
def State.dictWrite (s : State) (c : Cmd) : State :=
  let (o, s) := s.originOf c.who
  let s := match s.xferOf o with
    | some x => if x.index = c.index ∧ x.sub = c.sub then s else s.xferDrop o
    | none => s
  match imageSlot c.index with
  | some b => if c.sub = 0 then s.imageSegment o b c else s.writeWhole o c
  | none =>
    match (if 0x8000 ≤ c.index then none else objAt c.index c.sub) with
    | some ob => if ob.size = 0 then s.domainSegment o c else s.writeWhole o c
    | none => s.writeWhole o c

end Sys2Proof.Machine
end

