-- ==== Sys2Proof/Machine/Tnd.lean ====
section
/-! DEFINITION. The commands of the Tender (R449 to R468, R479 to R483): requests on the segments and in band, the objects with rows
of their own, notifications, checkpoints and restarts. -/

namespace Sys2Proof.Machine

/-! ### Order and duplicates (R452, R453) -/

/-- The kept response to a request. -/
def State.keptFor (s : State) (c : Cmd) : Option Kept :=
  s.tnd.kept.find? fun k => k.who == callerKey c.who && k.tag == c.who.tag

/-- A request executed, or answered with its kept response (R453). -/
def State.dictRun (s : State) (c : Cmd) : State :=
  match s.keptFor c with
  | some k => (s.inc fTND_ERR_DUP 0).sayBack c k.resp
  | none =>
    if c.op = 2 then s.dictWrite c
    else if c.op ≠ 1 then s.answer c 0xE 0 []
    else if c.hang then s.tndMod fun t => { t with exec := some { cmd := c, orig := 0xFF, seq := none, n := 0 } }
    else
      let (code, data, t) := s.dictRead c
      t.answer c code 0 data

/-- Queued commands execute, in order, until one does not end (R452); `n` bounds the rounds. -/
def State.dictNext : Nat → State → State
  | 0, s => s
  | n + 1, s =>
    match s.tnd.exec, s.tnd.queue with
    | none, c :: cs => State.dictNext n ((s.tndMod fun t => { t with queue := cs }).dictRun c)
    | _, _ => s

/-- The dictionary does not yet answer (R79, R459, R477): in Init, but for some objects over the segments once the 60 ms point has
passed in recovery or manufacturing test. -/
def State.dictBusy (s : State) (c : Cmd) : Bool := s.dev == 0 && !(s.tnd.limited && c.who.path != 2)

/-- A request received whole (R452): during a restart it is not answered (R465). -/
def State.dictTake (s : State) (c : Cmd) : State :=
  if s.tnd.restarting then s
  else if s.dictBusy c then s.answer c 1 0 []
  else match s.tnd.exec, s.keptFor c with
    | none, _ => State.dictNext 32 (s.dictRun c)
    | some _, some k => (s.inc fTND_ERR_DUP 0).sayBack c k.resp
    | some _, none =>
      if s.tnd.queue.length < 32 then s.tndMod fun t => { t with queue := t.queue ++ [c] } else s.answer c 1 0 []

/-- The executing command ends with `code` (R452); `data` goes with its response. -/
def State.execEnd (s : State) (r : Running) (code : Nat) : State :=
  let s := s.tndMod fun t => { t with exec := none, left := 0 }
  let s := match r.seq with
    | some q => s.recsDone q r.n code
    | none => s
  let s := (s.answer r.cmd code (r.seq.getD 0) []).when_ (code == 0 && r.cmd.op == 2) fun s => s.afterWrite r.cmd
  State.dictNext 32 s

/-! ### Requests (R450, R451, R135) -/

/-- The requester can reach the dictionary: its segment is joined and enabled, and no strap of NODE_ID floats (R55), or it is the
manager port. -/
def State.canCall (s : State) (w : Caller) : Bool :=
  if w.path = 2 then s.isManager w.port && s.upstream w.port && (s.portS w.port).cci.isNone
  else !s.pwr.silent && s.rdb fTND_SEG_JOINED w.path && s.rdb (if w.path = 0 then fTND_CTL_SEGAEN else fTND_CTL_SEGBEN) 0

/-- A request body as a command. -/
def cmdOf (w : Caller) (b : Body) (bcast good hang : Bool) : Cmd :=
  { who := { w with tag := b.tag }, bcast := bcast || b.any, later := bcast && b.any, op := b.op, index := b.index, sub := b.sub,
    last := b.last, offset := b.offset, apply := if b.timed then some (time80Ns b.apply) else none, data := b.data, good := good,
    va := { sig := good }, vb := { sig := good }, hang := hang }

/-- An acknowledgement from MAC address `mac`: the notification is not sent again (R466). -/
def State.noticeAcked (s : State) (mac tag : Nat) : State :=
  { s with notices := s.notices.filter fun n => !(n.tag == tag && s.slotMac n.slot == some mac) }

/-- A management frame of Ethertype 0x88B5 on segment `seg` (R450, R451). -/
def State.takeFrame (s : State) (seg mac : Nat) (bcast : Bool) (body : List Byte) (good hang : Bool) : State :=
  let w : Caller := { path := seg, mac := mac, port := 0, tag := 0 }
  if ¬ s.canCall w then s
  else
    let s := s.inc fTND_SEG_FRAMES seg
    match parseBody body with
    | none => s.inc fTND_ERR_BADFRAME 0
    | some b =>
      let s := match s.slotOf mac with
        | some n => s.seen n seg
        | none => s
      if b.kind = 1 then
        (if b.node = s.ownNode ∨ b.any then s.dictTake (cmdOf w b bcast good hang) else s)
      else if b.kind = 4 then
        (if 1 ≤ b.op ∧ b.op ≤ 6 then s.noticeAcked mac b.tag else s.dictTake { cmdOf w b bcast good false with op := 0 })
      else s

/-- DICT_READ: a READ request on a segment (R451). -/
def execDictRead (seg mac : Nat) (bcast : Bool) (body : List Byte) (hang : Bool) (s : State) : Host.Outcome State Fault Refusal :=
  onUnit (frameOk seg mac) (s.takeFrame seg mac bcast body true hang)

/-- DICT_WRITE: a WRITE request on a segment (R457); `good` is the verdict on a signature in it, `hang` that its execution does not
end (R452). -/
def execDictWrite (seg mac : Nat) (bcast : Bool) (body : List Byte) (good hang : Bool) (s : State) :
    Host.Outcome State Fault Refusal :=
  onUnit (frameOk seg mac) (s.takeFrame seg mac bcast body good hang)

/-- BADFRAME: a frame that may be of another Ethertype, too short or malformed (R450, R451). -/
def execBadframe (seg mac ether : Nat) (bcast : Bool) (body : List Byte) (s : State) : Host.Outcome State Fault Refusal :=
  onUnit (frameOk seg mac)
    (if ether = 0x88B5 then s.takeFrame seg mac bcast body true false
    else if s.canCall { path := seg, mac := mac, port := 0, tag := 0 } then s.inc fTND_ERR_BADFRAME 0 else s)

/-- APVEL_TRANSACT: vendor opcode 0xC000 carries one request in band (R135). -/
def execApvelTransact (p : Nat) (body : List Byte) (good hang : Bool) (s : State) : Host.Outcome State Fault Refusal :=
  let w : Caller := { path := 2, mac := 0, port := p, tag := 0 }
  onUnit (isPort p)
    (if ¬ s.upstream p then s
    else if (s.portS p).cci.isSome then s.cciSay p 6
    else if ¬ s.isManager p then s.cciSay p 3
    else match parseBody body with
      | none => s.cciSay p 2
      | some b =>
        if b.kind ≠ 1 then s.cciSay p 2
        else if b.node = s.ownNode ∨ b.any then s.dictTake { cmdOf w b false good hang with later := false }
        else s.cciSay p 2)

/-- GET_WATERLOG_RECORDS: vendor opcode 0xC001 (R135). -/
def execGetWaterlogRecords (p start count : Nat) (s : State) : Host.Outcome State Fault Refusal :=
  let q := max start s.oldestSeq
  let rs := (List.range (min count (s.headSeq - q))).filterMap fun i => s.record (q + i)
  onUnit (isPort p && decide (start < 2 ^ 64 ∧ count < 2 ^ 16))
    (if ¬ s.upstream p then s
    else if (s.portS p).cci.isSome then s.cciSay p 6
    else if ¬ s.isManager p then s.cciSay p 3
    else if count < 1 ∨ 64 < count then s.cciSay p 2
    else s.cciSay p 0 (toLeBytes 2 rs.length ++ rs.flatMap recBytes))

/-- BROADCAST_REPLY: the oldest answer to a broadcast goes out, 1 ms times the node identity later (R451). -/
def execBroadcastReply (s : State) : Host.Outcome State Fault Refusal :=
  .next (match s.tnd.bcast with
    | (g, mac, bs) :: rest =>
      (s.tndMod fun t => { t with bcast := rest }).sendBack { path := g, mac := mac, port := 0, tag := 0 } bs
    | [] => s)

/-- COMMAND_TIMEOUT: the executing command has run for 1 s (R452). -/
def execCommandTimeout (s : State) : Host.Outcome State Fault Refusal :=
  .next (match s.tnd.exec with
    | some r => (((s.runningEffect r).inc fTND_ERR_TIMEOUT 0).pulse 0x1F8).execEnd r 0xD
    | none => s)

/-- DOMAIN_TRANSFER_TIMEOUT: an open transfer has had no segment for 1 s (R457). -/
def execDomainTransferTimeout (orig : Nat) (s : State) : Host.Outcome State Fault Refusal :=
  onUnit (decide (orig < 256)) (s.xferDrop orig)

/-! ### Notifications (R466) -/

/-- NOTIFICATION_ACK: a frame of KIND 0x04 (R466). -/
def execNotificationAck (seg mac : Nat) (body : List Byte) (s : State) : Host.Outcome State Fault Refusal :=
  onUnit (frameOk seg mac) (s.takeFrame seg mac false body true false)

/-- NOTIFICATION_RESEND: 10 ms without an acknowledgement; three times at most (R466). -/
def execNotificationResend (slot tag : Nat) (s : State) : Host.Outcome State Fault Refusal :=
  onUnit (decide (slot < 64 ∧ tag < 2 ^ 16))
    (match s.notices.find? fun n => n.slot == slot && n.tag == tag with
    | none => s
    | some n =>
      let rest := s.notices.filter fun m => !(m.slot == slot && m.tag == tag)
      let t := s.sendAll ((s.slotSegs slot).map fun g => Out.notify g slot n.typ tag n.data)
      { t with notices := if n.resent < 2 then rest ++ [{ n with resent := n.resent + 1 }] else rest })

/-! ### Objects with rows of their own -/

/-- A WRITE of requester `w` to object `i`:`j`. -/
def writeCmd (w : Caller) (i j : Nat) (data : List Byte) : Cmd := { who := w, op := 2, index := i, sub := j, last := true, data := data }

/-- A request of a requester that can reach the dictionary. -/
def State.call (s : State) (c : Cmd) : State := if s.canCall c.who then s.dictTake c else s

/-- WARMRESET (R456, R467). -/
def execWarmreset (c : Caller) (val : Nat) (s : State) : Host.Outcome State Fault Refusal :=
  onUnit (callerOk c && decide (val < 256)) (s.call (writeCmd c 0x1102 0 (toBeBytes 1 val)))

/-- TILERESET (R456). -/
def execTilereset (c : Caller) (val : Nat) (s : State) : Host.Outcome State Fault Refusal :=
  onUnit (callerOk c && decide (val < 256)) (s.call (writeCmd c 0x1103 0 (toBeBytes 1 val)))

/-- ENTER_STANDBY: STATECMD = 1 (R459). -/
def execEnterStandby (c : Caller) (s : State) : Host.Outcome State Fault Refusal :=
  onUnit (callerOk c) (s.call (writeCmd c 0x1101 0 [1]))

/-- ENTER_OPERATIONAL: STATECMD = 2 (R78, R459). -/
def execEnterOperational (c : Caller) (s : State) : Host.Outcome State Fault Refusal :=
  onUnit (callerOk c) (s.call (writeCmd c 0x1101 0 [2]))

/-- EPOCHCANCEL (R460). -/
def execEpochcancel (c : Caller) (seq : Nat) (s : State) : Host.Outcome State Fault Refusal :=
  onUnit (callerOk c && decide (seq < 2 ^ 64)) (s.call (writeCmd c 0x1104 2 (toBeBytes 8 seq)))

/-- BATCH (R461). -/
def execBatch (c : Caller) (apply : Option Nat) (entries : List (Nat × Nat)) (s : State) : Host.Outcome State Fault Refusal :=
  onUnit (callerOk c && decide (entries.length ≤ 127) && entries.all fun e => decide (e.1 < 2 ^ 32 ∧ e.2 < 2 ^ 32))
    (s.call { writeCmd c 0x1400 0 (entries.flatMap fun e => toBeBytes 4 e.1 ++ toBeBytes 4 e.2) with apply := apply })

/-- DEBUG (R462). -/
def execDebug (c : Caller) (space : Nat) (write : Bool) (addr n : Nat) (data : List Byte) (s : State) :
    Host.Outcome State Fault Refusal :=
  onUnit (callerOk c && decide (space < 256 ∧ addr < 2 ^ 64 ∧ n < 2 ^ 16 ∧ data.length ≤ 1012))
    (s.call (writeCmd c 0x1500 0
      (toBeBytes 1 space ++ toBeBytes 1 (if write then 2 else 1) ++ toBeBytes 2 n ++ toBeBytes 8 addr ++ data)))

/-- LOCK_CLAIM: a write of LOCKHOLDER (R458). -/
def execLockClaim (c : Caller) (val : Nat) (s : State) : Host.Outcome State Fault Refusal :=
  onUnit (callerOk c && decide (val < 256)) (s.call (writeCmd c 0x1202 1 (toBeBytes 1 val)))

/-- LOCK_LAPSE: LOCKSEC seconds without a write of the holder (R458). -/
def execLockLapse (s : State) : Host.Outcome State Fault Refusal :=
  let h := s.rd fTND_LOCK_HOLDER 0
  .next (if h = 0xFF then s
    else (s.wr fTND_LOCK_HOLDER 0 0xFF).journal { index := 0x1202, sub := 1, orig := origTender, old := h, new := 0xFF })

/-- PRECEDENCE (R289). -/
def execPrecedence (c : Caller) (val : Nat) (s : State) : Host.Outcome State Fault Refusal :=
  onUnit (callerOk c && decide (val < 256)) (s.call (writeCmd c 0x1110 0 (toBeBytes 1 val)))

/-- SWCLEAR (R405). -/
def execSwclear (c : Caller) (val : Nat) (s : State) : Host.Outcome State Fault Refusal :=
  onUnit (callerOk c && decide (val < 256)) (s.call (writeCmd c 0x1111 0 (toBeBytes 1 val)))

/-- CKNOW (R464). -/
def execCknow (c : Caller) (val : Nat) (s : State) : Host.Outcome State Fault Refusal :=
  onUnit (callerOk c && decide (val < 256)) (s.call (writeCmd c 0x1300 7 (toBeBytes 1 val)))

/-! ### Checkpoints (R464) -/

/-- CHECKPOINT_TIMER: a whole multiple of CKSEC seconds (R464). -/
def execCheckpointTimer (s : State) : Host.Outcome State Fault Refusal :=
  .next (if s.ckWanted ∧ s.rd fWLG_CTL_CKSEC 0 ≠ 0 then s.ckStart else s)

/-- CHECKPOINT_DONE: the flash write is verified, or fails (R464, R466); a warm reset that waited for it follows. -/
def execCheckpointDone (ok : Bool) (s : State) : Host.Outcome State Fault Refusal :=
  .next (match s.tnd.ckpt with
    | none => s
    | some c =>
      let n := c.upto + 1 - max (s.ckSeq + 1) s.oldestSeq
      let t := if ok then ((s.ckptWrite c).wr2 fWLG_CKSEQ_L fWLG_CKSEQ_H 0 c.upto).send (.mirror c.flash c.upto n) else s.pulse 0x1FA
      let t := (((t.tndMod fun x => { x with ckpt := none }).spiIdle.wrb fWLG_CKSTAT_BUSY 0 false).wr fWLG_CKSTAT_LAST 0 (if ok then 1 else 2)).wr
        fWLG_CKSTAT_FLASH 0 c.flash
      let t := t.notify 6 ((if ok then 1 else 2) * 2 ^ 40)
      let t := if t.pwr.warmDue ≠ 0 then t.warmNow (t.pwr.warmDue - 1) else t
      if t.tnd.ckAgain then t.ckStart else t)

/-! ### Restarts of the Tender (R465, R479) -/

/-- TENDER_RESTART: a lockstep mismatch or a watchdog expiry (R465); in a trial the kept firmware runs again (R479). -/
def execTenderRestart (s : State) : Host.Outcome State Fault Refusal :=
  let back := s.when_ s.boot.trial.isSome fun s =>
    ((s.wr fBOOT_STAT_RUNFW 0 (s.boot.trial.getD 2)).wr fBOOT_STAT_FWSTATE 0 4).bootMod fun x => { x with trial := none }
  .next (if ¬ s.pwr.sram ∨ s.tnd.restarting then s else (back.pulse 0x1F9).tenderRestart)

/-- TENDER_RESTART_DONE: the controllers run again; the restart record is written (R465) and dumps start again (R479). -/
def execTenderRestartDone (s : State) : Host.Outcome State Fault Refusal :=
  .next (if s.tnd.restarting then
      let t := s.tndMod fun x => { x with restarting := false, broken := 0 }
      let t := t.journal { index := 0, sub := 1, orig := origTender, old := s.tnd.broken % 2 ^ 32 }
      ((t.dumpAgain 0).dumpAgain 1).dumpsGo
    else s)

/-! ### Firmware and lifecycle objects (R478 to R483) -/

/-- IMAGE_SEGMENT_WRITE: a segment of IMAGEA, or IMAGEB with `b` (R478). -/
def execImageSegmentWrite (c : Caller) (b : Bool) (off : Nat) (last : Bool) (data : List Byte) (s : State) :
    Host.Outcome State Fault Refusal :=
  onUnit (callerOk c && decide (off < 2 ^ 32 ∧ data.length ≤ 1024))
    (s.call { writeCmd c (if b then 0x1612 else 0x1611) 0 data with offset := off, last := last })

/-- The sectors of 64 KiB that a staged segment falls in. -/
def Staged.sectors (x : Staged) : List Nat :=
  if x.data = [] then [] else (List.range ((x.offset + x.data.length - 1) / 65536 + 1 - x.offset / 65536)).map (x.offset / 65536 + ·)

/-- A staged segment programmed into its slot; a sector is erased before the first segment that falls in it (R478). -/
def State.segProgram (s : State) (x : Staged) : State :=
  let new := x.sectors.filter fun k => !s.boot.erased.contains (256 * x.slot + k)
  let m := new.foldl (fun m k => flashErase m (65536 * k) 65536) (s.flash x.slot)
  (s.setFlash x.slot (flashProgram m x.offset x.data)).bootMod fun y => { y with erased := y.erased ++ new.map (256 * x.slot + ·) }

/-- A segment that waits for room executes again. -/
def State.segRetry (s : State) : State :=
  match s.tnd.exec with
  | some r =>
    match imageSlot r.cmd.index, r.seq with
    | some b, none =>
      if r.cmd.op = 2 then State.dictNext 32 ((s.tndMod fun t => { t with exec := none }).imageSegment r.orig b r.cmd) else s
    | _, _ => s
  | none => s

/-- FLASH_PROGRAM_DONE: the oldest staged segment of slot A, or B with `b`, is programmed, or fails (R478). -/
def execFlashProgramDone (b ok : Bool) (s : State) : Host.Outcome State Fault Refusal :=
  let n := b2n b
  .next (match s.boot.staged.find? fun x => x.slot == n with
    | none => s
    | some x =>
      if ok then ((s.segProgram x).bootMod fun y => { y with staged := y.staged.erase x }).spiIdle.segRetry
      else
        let t := (s.bootMod fun y => { y with staged := y.staged.filter (fun z => z.slot != n), failed := n :: y.failed.filter (· != n) }).spiIdle
        ((t.wr fBOOT_STAT_FWRESULT 0 12).pulse 0x1FB).segRetry)

/-- VERIFYA: FWCMD 1 (R479). -/
def execVerifya (c : Caller) (s : State) : Host.Outcome State Fault Refusal :=
  onUnit (callerOk c) (s.call (writeCmd c 0x1613 0 [1]))

/-- VERIFYB: FWCMD 2 (R479). -/
def execVerifyb (c : Caller) (s : State) : Host.Outcome State Fault Refusal :=
  onUnit (callerOk c) (s.call (writeCmd c 0x1613 0 [2]))

/-- ACTIVATEA: FWCMD 3 (R479). -/
def execActivatea (c : Caller) (s : State) : Host.Outcome State Fault Refusal :=
  onUnit (callerOk c) (s.call (writeCmd c 0x1613 0 [3]))

/-- ACTIVATEB: FWCMD 4 (R479). -/
def execActivateb (c : Caller) (s : State) : Host.Outcome State Fault Refusal :=
  onUnit (callerOk c) (s.call (writeCmd c 0x1613 0 [4]))

/-- COMMIT: FWCMD 5 (R479). -/
def execCommit (c : Caller) (s : State) : Host.Outcome State Fault Refusal :=
  onUnit (callerOk c) (s.call (writeCmd c 0x1613 0 [5]))

/-- BOOTNOWA: FWCMD 6 (R477, R479). -/
def execBootnowa (c : Caller) (v : ImageCheck) (s : State) : Host.Outcome State Fault Refusal :=
  onUnit (callerOk c) (s.call { writeCmd c 0x1613 0 [6] with va := v })

/-- BOOTNOWB: FWCMD 7 (R477, R479). -/
def execBootnowb (c : Caller) (v : ImageCheck) (s : State) : Host.Outcome State Fault Refusal :=
  onUnit (callerOk c) (s.call { writeCmd c 0x1613 0 [7] with vb := v })

/-- SVN (R480). -/
def execSvn (c : Caller) (val : Nat) (va vb : ImageCheck) (s : State) : Host.Outcome State Fault Refusal :=
  onUnit (callerOk c && decide (val < 256)) (s.call { writeCmd c 0x1625 0 (toBeBytes 1 val) with va := va, vb := vb })

/-- CHALLENGE: a READ of the object (R482). -/
def execChallenge (c : Caller) (s : State) : Host.Outcome State Fault Refusal :=
  onUnit (callerOk c) (s.call { who := c, op := 1, index := 0x1621, sub := 0 })

/-- UNLOCK (R482). -/
def execUnlock (c : Caller) (bytes : List Byte) (good : Bool) (s : State) : Host.Outcome State Fault Refusal :=
  onUnit (callerOk c && decide (bytes.length ≤ 1024)) (s.call { writeCmd c 0x1622 0 bytes with good := good })

/-- RELOCK (R481). -/
def execRelock (c : Caller) (s : State) : Host.Outcome State Fault Refusal :=
  onUnit (callerOk c) (s.call (writeCmd c 0x1623 0 [1]))

/-- RETIRE (R483). -/
def execRetire (c : Caller) (val : Nat) (s : State) : Host.Outcome State Fault Refusal :=
  onUnit (callerOk c && decide (val < 2 ^ 32)) (s.call (writeCmd c 0x1626 0 (toBeBytes 4 val)))

/-! ### Debug answers (R462) -/

/-- An answer to a DEBUG request comes back: with the last one the command ends (R462, R292). -/
def State.debugAnswer (s : State) (m : Msg) : State :=
  match s.tnd.exec with
  | none => s
  | some r =>
    if s.tnd.left = 0 then s
    else
      let s := s.tndMod fun t =>
        { t with left := t.left - 1, poison := t.poison || m.poison || m.status != .sc,
                 dbgData := if beAt r.cmd.data 1 1 = 2 then t.dbgData else debugPatch t.dbgData m }
      if s.tnd.left ≠ 0 then s else s.execEnd r (if s.tnd.denied then 0xB else if s.tnd.poison then 0x11 else 0)

end Sys2Proof.Machine
end

