-- ==== Sys2Proof/Machine/Tap.lean ====
section
/-! DEFINITION. The TAP (R484 to R486). -/

namespace Sys2Proof.Machine

/-- The TAP changed by `f`, with instruction `ir` and drive `d`: it works while VDD_AUX stands (R484). -/
def State.tapIr (s : State) (ir : Nat) (d : PinDrive) : State := { s with tap := { s.tap with ir := ir, drive := d } }

/-- A scan of the chain: the captured pins are shifted out, and what was shifted in is loaded. -/
def State.chainScan (s : State) (pins upd : Nat) : State := State.send { s with tap := { s.tap with chain := upd } } (.tdo pins chainCells)

/-- A scan of `n` bits through the bypass register, which captures 0: one bit late. -/
def State.bypassScan (s : State) (tdi n : Nat) : State :=
  let b := if n = 0 then s.tap.bypass else tdi / 2 ^ (n - 1) % 2
  State.send { s with tap := { s.tap with bypass := b } } (.tdo (2 * tdi % 2 ^ n) n)

/-- TAP_RESET: IDCODE is selected (R484). -/
def execTapReset (s : State) : Host.Outcome State Fault Refusal := .next (if s.pwr.aux then s.tapIr 1 .device else s)

/-- EXTEST: the chain drives the pins (R484). -/
def execExtest (pins upd : Nat) (s : State) : Host.Outcome State Fault Refusal :=
  onUnit (decide (pins < 2 ^ chainCells ∧ upd < 2 ^ chainCells)) (if s.pwr.aux then (s.tapIr 0 .chain).chainScan pins upd else s)

/-- The word of the IDCODE register (R484). -/
def State.idcode (s : State) : Nat := s.rd fBOOT_ID_STEPPING 0 * 2 ^ 28 + 0x0D80 * 2 ^ 12 + 0x4F3 * 2 + 1

/-- IDCODE (R484). -/
def execIdcode (s : State) : Host.Outcome State Fault Refusal :=
  .next (if s.pwr.aux then (s.tapIr 1 .device).send (.tdo s.idcode 32) else s)

/-- SAMPLE/PRELOAD (R484). -/
def execSamplePreload (pins upd : Nat) (s : State) : Host.Outcome State Fault Refusal :=
  onUnit (decide (pins < 2 ^ chainCells ∧ upd < 2 ^ chainCells)) (if s.pwr.aux then (s.tapIr 2 .device).chainScan pins upd else s)

/-- CLAMP: the chain drives the pins, with bypass selected (R484). -/
def execClamp (tdi n : Nat) (s : State) : Host.Outcome State Fault Refusal :=
  onUnit (decide (tdi < 2 ^ n)) (if s.pwr.aux then (s.tapIr 4 .chain).bypassScan tdi n else s)

/-- HIGHZ: outputs are high-impedance, with bypass selected (R484). -/
def execHighz (tdi n : Nat) (s : State) : Host.Outcome State Fault Refusal :=
  onUnit (decide (tdi < 2 ^ n)) (if s.pwr.aux then (s.tapIr 5 .highz).bypassScan tdi n else s)

/-- BYPASS: 0xFF and every code without an instruction (R484). -/
def execBypass (code tdi n : Nat) (s : State) : Host.Outcome State Fault Refusal :=
  onUnit (decide (code < 256 ∧ tdi < 2 ^ n) && !tapCode code) (if s.pwr.aux then (s.tapIr code .device).bypassScan tdi n else s)

/-! ### SYSACC (R485) -/

/-- The SYSACC register with DATA and STATUS set. -/
def sysaccSet (dr data status : Nat) : Nat := bitsOf dr 0 64 + data % 2 ^ 32 * 2 ^ 64 + bitsOf dr 96 2 * 2 ^ 96 + status * 2 ^ 98

/-- STATUS for an abort code of a debug access: 1 OK, 2 denied, 3 error. -/
def sysaccStatus (code : Nat) : Nat := if code = 0 then 1 else if code = 0xB then 2 else 3

/-- The access that the register asks for at Update-DR. -/
def State.sysaccStart (s : State) (dr : Nat) : State :=
  let (a, write, v) := (bitsOf dr 0 64, bitOf dr 96, bitsOf dr 64 32)
  let put := fun (s : State) (v st : Nat) => ({ s with tap := { s.tap with sysacc := sysaccSet dr v st } } : State)
  if s.tap.busy then s
  else if s.dev = 0 ∧ ¬ s.tnd.limited then put s v 4
  else if a % 4 ≠ 0 then put s v 3
  else if bitOf dr 97 then
    (if 0x2000000 ≤ a then put s v 3
    else
      let (c, bs, t) := s.debugReg true write a 4 (toLeBytes 4 v)
      put t (if write then v else leBytes bs) (sysaccStatus c))
  else
    let (c, _, t) := s.debugMem true write a 4 (toLeBytes 4 v)
    if c ≠ 0 then put t v (sysaccStatus c)
    else
      let u := put t v 4
      { u with tap := { u.tap with busy := true, denied := false } }

/-- SYSACC: what Capture-DR holds is shifted out, and at Update-DR an access of the debug class starts (R485). -/
def execSysacc (dr : Nat) (s : State) : Host.Outcome State Fault Refusal :=
  onUnit (decide (dr < 2 ^ 112))
    (if s.pwr.aux then ((s.tapIr 0x20 .device).send (.tdo s.tap.sysacc 112)).sysaccStart dr else s)

/-- The answer to an access of SYSACC comes back (R485). -/
def State.sysaccAnswer (s : State) (m : Msg) : State :=
  if ¬ s.tap.busy then s
  else
    let dr := s.tap.sysacc
    let v := if bitOf dr 96 then bitsOf dr 64 32 else leBytes (debugPatch (toLeBytes 4 0) m)
    let st := if s.tap.denied then 2 else if m.poison ∨ m.status ≠ .sc then 3 else 1
    { s with tap := { s.tap with busy := false, sysacc := sysaccSet dr v st } }

/-! ### Lifecycle (R484) -/

/-- JTAG_CHALLENGE: 384 bits shifted out, byte 0 first (R482, R484). -/
def execJtagChallenge (s : State) : Host.Outcome State Fault Refusal :=
  .next (if s.pwr.aux then
      let (bs, t) := (s.tapIr 0x21 .device).challenge
      t.send (.tdo (leBytes bs) 384)
    else s)

/-- JTAG_UNLOCK: 2,048 bits taken at Update-DR, byte 0 first (R482, R484). -/
def execJtagUnlock (bits : Nat) (good : Bool) (s : State) : Host.Outcome State Fault Refusal :=
  onUnit (decide (bits < 2 ^ 2048))
    (if s.pwr.aux then ((s.tapIr 0x22 .device).unlock (toLeBytes 256 bits) good true).2 else s)

end Sys2Proof.Machine
end

