-- ==== Sys2Proof/Machine/Compare.lean ====
section
/-! DEFINITION. Time passes and comparators fire (R96 to R99, R508); the commands of fabric time; a write of a register; and the
departure of a message. -/

namespace Sys2Proof.Machine

/-! ### Comparators (R35, R96, R508) -/

/-- The targets of pending gate rule commits that do not wait for a drain (R295). -/
def State.chkTargets (s : State) : List Nat :=
  s.chk.pend.filterMap fun c => if c.gates.any fun g => s.rdb fCHK_GATE_DRAIN g then none else c.at_

/-- The targets of pending lists and of the cycles of lists in effect. -/
def State.rotTargets (s : State) : List Nat :=
  (((List.range 72).filter fun x => s.rdb fWEIR_EG_PEND x).map fun x => SMap.get 0 s.weir.rotAt x)
    ++ ((List.range 72).filter s.rotOn).map s.nextCycle

/-- The targets of every comparator. -/
def State.targets (s : State) : List Nat :=
  s.flmTargets ++ s.tnd.timed.map (·.at_) ++ s.xlt.timed.map (·.at_) ++ s.xlt.winAt.map (·.at_)
    ++ s.chkTargets ++ s.rotTargets

/-- The target that is reached first, already passed or to come. -/
def State.firstTarget (s : State) : Nat := (s.targets.min?).getD 0

/-- What falls due by `t` takes effect, in the order of R98; `tick` on one tick, where configuration epochs go by sequence alone. -/
def State.fireAt (s : State) (t : Nat) (tick : Bool) : State :=
  let b := (s.flmTargets.min?).getD 0
  let s := if b ≤ t then s.boundary b else s
  let s := if tick then s.epochsTick else s.epochsApply t
  (s.commitsDue t).rotationsDue t

/-- Comparators whose targets have been reached fire: those of one tick together, and those that a step has passed in target order
(R98, R99); `k` bounds the rounds. -/
def State.fireLoop : Nat → State → State
  | 0, s => s
  | k + 1, s =>
    if s.firstTarget ≤ s.ft.now then
      State.fireLoop k (if s.ft.jump then s.fireAt s.firstTarget false else s.fireAt s.ft.now true)
    else s

/-- Token refills up to the present (R98, R330). -/
def State.refillNow (s : State) : State :=
  let k := match s.weir.refilled with
    | none => 1
    | some r => s.ft.now / 256 - r
  if s.weir.refilled = some (s.ft.now / 256) ∨ k = 0 then s else s.tick256 k

/-- Everything due at the present takes effect, token refills last (R98). -/
def State.fireDue (s : State) : State :=
  let s := (State.fireLoop (s.targets.length + 8) s).gatesNow
  (s.ftMod fun t => { t with jump := false }).refillNow

/-- Comparators that a forward step has passed fire at once (R99). -/
def State.fireJump (s : State) : State := if s.ft.jump then s.fireDue else s

/-- HOLDSEC past HOLDLIM raises the holdover-limit source (R94). -/
def State.holdLimit (s : State) : State :=
  s.when_ (s.ftState == 4 && decide (s.rd fFT_HOLDLIM 0 < s.rd fFT_STAT_HOLDSEC 0)) fun s => s.level 0x194 true

/-- `k` ticks pass, and what falls due on the last of them takes effect; refills of the ticks before it come first. -/
def State.passTicks (s : State) (k : Nat) : State :=
  let s := if k ≤ 1 then s else (s.timeRuns (k - 1)).when_ s.ft.run State.refillNow
  let s := (s.timeRuns (min k 1)).holdLimit
  if s.ft.run then s.fireDue else s

/-- Fabric time runs on to the first tick at or after `t`, and what falls due takes effect (R508). -/
def State.runTo (s : State) (t : Nat) : State := s.passTicks (s.ticksTo t)

/-- The event whose target is `t` comes, at the first tick at or after it (R508): a comparator that another precedes, or that no clock drives, does not fire. -/
def State.reach (s : State) (t : Option Nat) : State :=
  match t with
  | some t => if s.ft.run ∧ t ≤ s.firstTarget then s.runTo t else s
  | none => s

/-- COMPARATOR_FIRE: fabric time reaches the next target, and every comparator due fires (R98, R508). -/
def execComparatorFire (s : State) : Host.Outcome State Fault Refusal := .next (s.reach (some s.firstTarget))

/-- CONFIG_EPOCH_APPLY: fabric time reaches the next configuration epoch (R460). -/
def execConfigEpochApply (s : State) : Host.Outcome State Fault Refusal :=
  .next (s.reach (s.tnd.timed.map (·.at_)).min?)

/-- MAP_TIMED_APPLY: fabric time reaches the next queued timed map command (R269). -/
def execMapTimedApply (s : State) : Host.Outcome State Fault Refusal :=
  .next (s.reach (s.xlt.timed.map (·.at_)).min?)

/-- CHK_EPOCH_APPLY: fabric time reaches the next gate rule epoch (R294, R295). -/
def execChkEpochApply (s : State) : Host.Outcome State Fault Refusal := .next (s.reach s.chkTargets.min?)

/-- ROTATION_ACTIVATE: the first cycle start due of the pending list of egress `x` comes (R340). -/
def execRotationActivate (x : Nat) (s : State) : Host.Outcome State Fault Refusal :=
  onUnit (decide (x < 72)) (s.reach (if s.rdb fWEIR_EG_PEND x then some (SMap.get 0 s.weir.rotAt x) else none))

/-- ROTATION_CYCLE_START: the next cycle of the list in effect at egress `x` starts (R338). -/
def execRotationCycleStart (x : Nat) (s : State) : Host.Outcome State Fault Refusal :=
  onUnit (decide (x < 72)) (s.reach (if s.rotOn x then some (s.nextCycle x) else none))

/-- GATE_CHANGE: the next entry boundary of the list in effect at egress `x` comes (R338). -/
def execGateChange (x : Nat) (s : State) : Host.Outcome State Fault Refusal :=
  onUnit (decide (x < 72)) (s.reach (if s.rotOn x then some (s.nextEntry x) else none))

/-- TOKEN_REFILL: the next 256 ns tick comes (R330); `err` and `idx` are an error that the Weir meets (R343). -/
def execTokenRefill (err idx : Nat) (s : State) : Host.Outcome State Fault Refusal :=
  let s := s.weirError err idx
  .next (s.reach (some (if s.weir.refilled = some (s.ft.now / 256) then (s.ft.now / 256 + 1) * 256 else s.ft.now)))

/-- FLUME_SNAPSHOT: the next epoch or minute boundary comes (R439); `errs` are the errors its gather meets (R446). -/
def execFlumeSnapshot (errs : List (Nat × Bool)) (s : State) : Host.Outcome State Fault Refusal :=
  let s := if s.ft.run ∧ (s.flmTargets.min?).getD 0 ≤ s.firstTarget then s.flmErrs errs else s
  onUnit (errs.all fun e => decide (e.1 < 12288 + 256)) (s.reach s.flmTargets.min?)

/-! ### Fabric time (R86 to R94) -/

/-- PPS_EDGE: a rising edge of input A or B, captured at `t`, high for `high` ns (R87). -/
def execPpsEdge (inB : Bool) (t high : Nat) (s : State) : Host.Outcome State Fault Refusal :=
  .next (s.ppsEdge inB t high).fireJump

/-- PPS_LOSS: no accepted edge came in the window of an input's second (R87). -/
def execPpsLoss (inB : Bool) (s : State) : Host.Outcome State Fault Refusal := .next (s.ppsLost inB).fireJump

/-- TOD_MESSAGE: ten bytes have come on the TOD pin of an input, `framed` without a framing error, ending at `t` (R90, R91). -/
def execTodMessage (inB : Bool) (bytes : List Byte) (framed : Bool) (t : Nat) (s : State) : Host.Outcome State Fault Refusal :=
  .next (s.tod inB bytes framed t).fireJump

/-- TOD_BYTE_GAP: a gap between bytes ends a message unfinished: it is discarded and counted (R91). -/
def execTodByteGap (_inB : Bool) (s : State) : Host.Outcome State Fault Refusal :=
  .next (if s.rdb fFT_CTRL_TODMODE 0 then s else s.todBad)

/-- FT_SETARM: FT_CTRL is written with SETARM (R92). -/
def execFtSetarm (val : Nat) (s : State) : Host.Outcome State Fault Refusal :=
  onUnit (decide (val < 2 ^ 32)) (if s.discards (fieldsAt 0x600010) 0 val then s else (s.ftCtrl val).fireJump)

/-- FT_FORCESTEP: FT_CTRL is written with FORCESTEP (R86). -/
def execFtForcestep (val : Nat) (s : State) : Host.Outcome State Fault Refusal :=
  onUnit (decide (val < 2 ^ 32)) (if s.discards (fieldsAt 0x600010) 0 val then s else (s.ftCtrl val).fireJump)

/-- HOLDOVER_LIMIT: HOLDSEC passes HOLDLIM (R94). -/
def execHoldoverLimit (s : State) : Host.Outcome State Fault Refusal :=
  let t := s.ft.holdAt + (s.rd fFT_HOLDLIM 0 + 1) * nsPerSec
  let k := ceilDiv (t - s.pwr.ns) 4
  .next (if s.ftState = 4 ∧ (k ≤ s.ticksTo s.firstTarget ∨ ¬ s.ft.run) then s.passTicks k else s)

/-! ### Registers -/

/-- REGISTER_WRITE: host port `port` of `node` writes `val` to address `addr` (R13); one that REGACC does not admit (R138),
or that its gate denies (R292), is not taken.
`ev` is what events of the same cycle do, as `State.writeAddr` has it. -/
def execRegisterWrite (node port : Nat) (addr : RegAddr) (val ev : Nat) (s : State) : Host.Outcome State Fault Refusal :=
  let (ok, t) := s.hostGate node port addr.addr true (if addr.wide then 8 else 4)
  onUnit (decide (node < 16 ∧ port < 64 ∧ val < (if addr.wide then 2 ^ 64 else 2 ^ 32) ∧ ev < 2 ^ 32))
    (if s.regShut node port addr.addr then s
    else if ok then (if addr.wide then t.writeWide addr.addr val ev else t.writeAddr addr.addr val ev).fireJump else t)

/-! ### Departures -/

/-- The answers to the Tender's and the TAP's debug accesses among the messages that have left for the Tender (R462, R485). -/
def State.answersIn (s : State) (ms : List Msg) : State :=
  s.each (ms.filter isDebugAnswer) fun s m => if bitOf m.tag 62 then s.sysaccAnswer m else s.debugAnswer m

/-- A request for the register space of this node (R21, R277). -/
def isRegReq (m : Msg) : Bool :=
  (m.kind == .ioPosted || m.kind == .ioNonPosted) && (m.act == .read || m.act == .write) && m.dest == 0x7F && m.src != 0x7F

/-- A CXL.io request for the register space that has come to tile C acts (R283, R292): checked at the internal gate, a denied read brings
zeros, a denied write is ignored.  An access of 8 aligned bytes is one access; any other acts on the words that it covers whole, the
lower address first (DESIGN CHOICE, log entry 123). -/
def State.regServe (s : State) (m : Msg) : State :=
  let (a, n) := (m.addr, spanBytes m)
  let (v, s) := if a < 0x2000000 then s.innerCheck true { m with tgt := a } n true else (0, s)
  let wide := decide (a % 8 = 0 ∧ n = 8)
  if m.isWrite then
    let bs := toLeBytes n m.data
    let s := if v ≠ 0 then s
      else if wide then s.writeWide a m.data 0
      else s.each ((wordsAt a n).filter fun w => decide (a ≤ w ∧ w + 4 ≤ a + n)) fun s w =>
        s.writeAddr w (leBytes ((bs.drop (w - a)).take 4)) 0
    (if m.wantsReply then s.reply m .sc false else s).fireJump
  else
    let (d, s) := if v ≠ 0 then (0, s)
      else if wide then s.readWide a 0
      else
        let (bs, s) := s.readBytes a n
        (leBytes bs, s)
    let r := { m.answer .sc false with len := 16 + n, data := d }
    s.answering r fun s => s.send (.reply m.entered r)

/-- What egress `x` sends now and has sent in full: a message whose units on a Leat link wait for no slot any longer (R154). -/
def State.sentNow (s : State) (x : Nat) : Option Sending :=
  (sendKeys x).findSome? fun i =>
    (SMap.get none s.swc.sending i).filter fun sn => !(decide (64 ≤ x ∧ x < 72)) || (s.txq (x - 64) (vcOfGroup sn.g)).isEmpty

/-- MESSAGE_DEPART: a message that egress `x` sends has left (R187).  A message still arriving has not; what a home slice takes,
it takes by commands of its own.  At the Tender's egress debug answers and requests for the register space act. -/
def execMessageDepart (x : Nat) (s : State) : Host.Outcome State Fault Refusal :=
  onUnit (decide (x < 93))
    (if 72 ≤ x ∧ x < 88 then s
    else match s.sentNow x with
      | none => s
      | some sn =>
        match s.stored sn.id with
        | some d =>
          if d.whole then
            let t := s.depart x sn d
            if x = 92 then (t.answersIn sn.parts).each (sn.parts.filter isRegReq) State.regServe else t
          else s
        | none => s.swcMod fun w => { w with sending := SMap.set none w.sending (sendKey x sn.g) none })

end Sys2Proof.Machine
end

