-- ==== Sys2Proof/Machine/Cfg.lean ====
section
/-! DEFINITION. What a host's configuration requests find (R74, R126, R129, R136 to R140, R144, R348): the functions of a Virtual
CXL Switch and of its management endpoint, the fields of their configuration space that the spec gives, and the writes that
change one of them. -/

namespace Sys2Proof.Machine

/-! ### Functions (R129, R136, R137) -/

/-- Port `p` presents an empty VCS: it was not ready at the limit of R74 and still is not. -/
def State.emptyVcs (s : State) (p : Nat) : Bool := bitOf s.pwr.late p && !s.bit fPWR_PORTRDY_READY p

/-- Function `fn` exists in the VCS of port `p`, which heads one only as an upstream port (R129): VF j for j = 1 to NumVFs while VF Enable is set (R137). -/
def State.cfgPresent (s : State) (p : Nat) : CfgFn → Bool
  | .usp | .pf => s.rdb fPRT_PORTCFG_ROLE p
  | .vppb i => s.rdb fPRT_PORTCFG_ROLE p && decide (i < 32)
  | .vf j => s.rdb fPRT_PORTCFG_ROLE p && (SMap.get {} s.ten.vfs p).enable && decide (1 ≤ j ∧ j ≤ (SMap.get {} s.ten.vfs p).num)

/-- The local port whose link bridge `b` shows, where it is bound to one of this device (R129, R130). -/
def State.shownPort (s : State) (b : Nat) : Option Nat :=
  if 2 ≤ s.rd fPRT_VPPB_STATE b ∧ s.rd fPRT_VPPB_KIND b < 2 ∧ ¬ s.emptyVcs (b / 32) then some (s.rd fPRT_VPPB_PORT b) else none

/-- Bridge `b` is bound to a port of a peer, which shows as a link that is up (log entry 103). -/
def State.shownPeer (s : State) (b : Nat) : Bool :=
  decide (2 ≤ s.rd fPRT_VPPB_STATE b ∧ s.rd fPRT_VPPB_KIND b = 2) && !s.emptyVcs (b / 32)

/-! ### Fields of the upstream switch port and of the bridges (R122, R126, R129, R140, R144) -/

/-- The port whose link the Link registers of function `fn` show. -/
def State.linkOf (s : State) (p : Nat) : CfgFn → Option Nat
  | .usp => some p
  | .vppb i => if i = 0 then none else s.shownPort (32 * p + i)
  | _ => none

/-- The port whose lanes function `fn` can margin: one whose link runs at 16 GT/s or above (R104). -/
def State.marginLink (s : State) (p : Nat) (fn : CfgFn) : Option Nat :=
  (s.linkOf p fn).filter fun q => s.dlUp q && decide (3 ≤ s.rd fPRT_PORTSTAT_RATE q)

/-- A host starts (`v` not 0) or ends the margining of lane `i` of port `q`: one lane at a time, and a request for a second one is
refused, which that lane's status shows (R104). -/
def State.marginSet (s : State) (q i v : Nat) : State :=
  s.portMod q fun x =>
    if v = 0 then
      { x with margin := if x.margin = some i then none else x.margin, marginNak := if x.marginNak = some i then none else x.marginNak }
    else if x.margin.isNone ∨ x.margin = some i then { x with margin := some i, marginNak := x.marginNak.filter (· != i) }
    else { x with marginNak := some i }

/-- A field of the Link registers of function `fn`; `unbound` is what it reads where it shows no link. -/
def State.linkField (s : State) (p : Nat) (fn : CfgFn) (unbound : Nat) (f : Nat → Nat) : Nat :=
  match s.linkOf p fn with
  | some q => f q
  | none => unbound

/-- A field of the Slot registers of bridge `b`: 0 where no slot of a bound local port is there (R140). -/
def State.slotField (s : State) (b : Nat) (f : Nat → Nat) : Nat :=
  match s.shownPort b with
  | some q => if s.rdb fPRT_PORTCFG_HPCAP q then f q else 0
  | none => 0

/-- The features of the Slot Capabilities that read 1 exactly where the slot of port `q` is bound. -/
def State.slotBound (s : State) (q : Nat) : Nat := b2n (s.rdb fPRT_SLOTCFG_SLOTEN q)

/-- Capabilities that PCI Express and CXL themselves ask of a function, of which the spec says nothing: power management, MSI and MSI-X,
subsystem identity, serial number, Secondary PCI Express, Data Link Feature, the physical layers, Lane Margining and DVSEC. -/
def capBasic (id : Nat) (ext : Bool) : Bool :=
  if ext then [0x03, 0x19, 0x23, 0x25, 0x26, 0x27, 0x2A, 0x2F, 0x31, 0x32, 0x33, 0x34].contains id
  else [0x01, 0x05, 0x0D, 0x11].contains id

/-- A capability of configuration space, by its identity and whether it is an extended one, as PCI Express numbers them
(log entry 103): whether function `fn` of port `p` holds it, where the spec says.  One that is an option of its own and that R122 does
not list is absent, and DPC, ACS and the L1 substates are where R122 puts them. -/
def State.cfgCap (s : State) (p id : Nat) (ext : Bool) : CfgFn → Option Bool
  | .vf _ => some (!ext && (id == 0x10 || id == 0x11))
  | .pf =>
    if !ext && (id == 0x10 || id == 0x11) then some true
    else if ext && (id == 0x01 || id == 0x0E || id == 0x23) then some true
    else if ext && id == 0x10 then some (s.rd fPRT_TIBLK_CNT p != 0)
    else if capBasic id ext then none else some false
  | .usp =>
    if (!ext && id == 0x10) || (ext && (id == 0x01 || id == 0x1E)) then some true
    else if capBasic id ext then none else some false
  | .vppb i =>
    if (!ext && id == 0x10) || (ext && id == 0x01) then some true
    else if ext && (id == 0x0D || id == 0x1D || id == 0x1E) then some (i != 0)
    else if capBasic id ext then none else some false

/-! ### A read -/

/-- Field `f` of a bridge or upstream switch port. -/
def State.cfgBridge (s : State) (p : Nat) (fn : CfgFn) (f : CfgField) : Option Nat :=
  let b := match fn with
    | .vppb i => 32 * p + i
    | _ => 32 * p
  let down := b % 32 != 0
  match f with
  | .aspmSupport => some 2
  | .l1ExitLatency => some 3
  | .slotClock => if s.linkOf p fn = none then none else some (s.linkField p fn 0 fun q => b2n (!s.rdb fPRT_PORTCFG_CLKMODE q))
  | .dlActive =>
    if fn = .vppb 0 then some 1
    else some (s.linkField p fn (b2n (down && s.shownPeer b)) fun q => s.rd fPRT_PORTSTAT_DLACTIVE q)
  | .linkWidth => if fn = .vppb 0 ∨ (down && s.shownPeer b) then none else some (s.linkField p fn 0 fun q => s.rd fPRT_PORTSTAT_NEGWIDTH q)
  | .linkRate => if s.linkOf p fn = none then none else some (s.linkField p fn 0 fun q => s.rd fPRT_PORTSTAT_RATE q + 1)
  | .aspmControl => some (if down then 2 * b2n (s.bridge b).aspm else 2 * b2n (s.portS p).aspm)
  | .dlReporting => if down then some 1 else none
  | .slotImplemented => if down then some (s.slotField b fun _ => 1) else none
  | .attnButtonPresent | .attnIndPresent | .pwrIndPresent => if down then some (s.slotField b s.slotBound) else none
  | .pwrCtlPresent => if down then some (s.slotField b fun q => b2n (s.rd fPRT_SLOTCFG_PCTL q != 0)) else none
  | .mrlPresent | .surprise | .interlock | .noCmdCompleted => if down then some 0 else none
  | .hotPlugCapable => if down then some (s.slotField b fun _ => 1) else none
  | .slotNumber => if down then some (s.slotField b fun q => s.rd fPRT_SLOTCFG_PSN q) else none
  | .slotPresent => if down then some (s.slotField b fun q => s.rd fPRT_SLOTSTAT_PRESENT q) else none
  | .slotEvents => if down then some (s.bridge b).status else none
  | .attnControl => if down then some (s.bridge b).attn else none
  | .pwrControl => if down then some (s.bridge b).pwri else none
  | .powerOff => if down then some (b2n (s.bridge b).off) else none
  | .acsSupport => if down then some 0x1F else none
  | .acsControl => if down then some (s.bridge b).acs else none
  | .l1subControl => if fn = .vppb 0 then none else some (if down then (s.bridge b).l1sub else (s.portS p).l1sub)
  | .marginTimingSteps => if s.marginLink p fn = none then none else some 32
  | .marginMaxTiming => if s.marginLink p fn = none then none else some 50
  | .marginVoltageSteps => if s.marginLink p fn = none then none else some 64
  | .marginMaxVoltage => if s.marginLink p fn = none then none else some 25
  | .marginIndLeftRight | .marginIndUpDown => if s.marginLink p fn = none then none else some 1
  | .marginSampleRate => if s.marginLink p fn = none then none else some 0
  | .marginLane i => (s.marginLink p fn).map fun q =>
      if (s.portS q).marginNak = some i then 3 else b2n ((s.portS q).margin == some i)
  | .eqBypass => if s.linkOf p fn = none then none else some 1
  | .noEqNeeded | .precodeRequest => if s.linkOf p fn = none then none else some 0
  | .precodeOn => if s.linkOf p fn = none then none else some (s.linkField p fn 0 fun q => b2n (s.portS q).precode)
  | .tPowerOn => if s.linkOf p fn = none then none else some (s.linkField p fn 0 fun q => s.rd fPRT_ASPM_TPON q)
  | _ => none

/-- Field `f` of the management endpoint's PF or of a VF (R136, R137, R139, R348). -/
def State.cfgEndpoint (s : State) (p : Nat) (vf : Bool) (f : CfgField) : Option Nat :=
  let n := 64 * s.rd fPRT_TIBLK_CNT p
  let cap := fun (v : Nat) => if vf ∨ n = 0 then none else some v
  match f with
  | .vendorId => if vf then none else some 0x1FC4
  | .deviceId => if vf then none else some 0x0D80
  | .revisionId => some (s.rd fBOOT_ID_STEPPING 0)
  | .classCode => some 0x088000
  | .subVendorId => some s.boot.ssvid
  | .subsystemId => some s.boot.ssid
  | .flrCapable => some 1
  | .msixVectors => some (if vf then 4 else 64)
  | .barSize k =>
    if vf then some (if k = 0 then 13 else if k = 2 then 12 else 0)
    else if k = 0 then some 25 else if k = 2 then some 16 else if k = 4 then some (s.rd fPRT_TIBLK_WINSZ p) else none
  | .bar64 k => if k = 0 ∨ k = 2 ∨ (k = 4 ∧ ¬ vf) then some 1 else none
  | .barPrefetch k => if k = 0 ∨ k = 2 then some 0 else if k = 4 ∧ ¬ vf then some 1 else none
  | .locatorBir => if vf then none else some 2
  | .locatorOffset => if vf then none else some 0
  | .totalVfs | .initialVfs => cap n
  | .numVfs => cap (SMap.get {} s.ten.vfs p).num
  | .vfEnable => cap (b2n (SMap.get {} s.ten.vfs p).enable)
  | .firstVfOffset | .vfStride => cap 1
  | .vfDeviceId => cap 0x0D81
  | _ => none

/-- Field `f` of function `fn` as a read gives it, where the spec says. -/
def State.cfgRead (s : State) (p : Nat) (fn : CfgFn) (f : CfgField) : Option Nat :=
  match f with
  | .capability id ext => (s.cfgCap p id ext fn).map b2n
  | _ =>
    match fn with
    | .pf => s.cfgEndpoint p false f
    | .vf _ => s.cfgEndpoint p true f
    | _ => s.cfgBridge p fn f

/-! ### A write -/

/-- A write of `v` to field `f`: ASPM L1 Control, ACS Control and L1 PM Substates Control take it, the last with no effect (R145), and a
lane's margining starts or ends (R104).  Slot Control, VF Enable and the resets are written by
commands of their own, and every other field that the spec gives is read-only. -/
def State.cfgWrite (s : State) (p : Nat) (fn : CfgFn) (f : CfgField) (v : Nat) : State :=
  match f, fn with
  | .aspmControl, .usp => s.portMod p fun x => { x with aspm := bitOf v 1 }
  | .aspmControl, .vppb i => if i = 0 then s else s.bridgeMod (32 * p + i) fun x => { x with aspm := bitOf v 1 }
  | .l1subControl, .usp => s.portMod p fun x => { x with l1sub := v % 2 ^ 32 }
  | .l1subControl, .vppb i => if i = 0 then s else s.bridgeMod (32 * p + i) fun x => { x with l1sub := v % 2 ^ 32 }
  | .marginLane i, _ =>
    match s.marginLink p fn with
    | some q => if (s.lanesUsed q (s.rd fPRT_PORTSTAT_NEGWIDTH q) (s.rdb fPRT_PORTSTAT_REVERSED q)).contains (4 * q + i) then s.marginSet q i v else s
    | none => s
  | .acsControl, .vppb i => if i = 0 then s else s.bridgeMod (32 * p + i) fun x => { x with acs := v % 32 }
  | _, _ => s

/-- What a port that is ready, or late, makes of a configuration request: Unsupported Request where no such function is; else
its effect and its answer, in which a value that the spec does not give is free (log entry 103). -/
def State.cfgServe (s : State) (p : Nat) (r : CfgReq) : State :=
  if ¬ s.cfgPresent p r.fn then s.reply r.m .ur false
  else match r.wr with
    | some v => (s.cfgWrite p r.fn r.f v).reply r.m .sc false
    | none =>
      let (v, s) := match r.fn, r.f with
        | .pf, .dvsec o => s.readAddr (0x3000000000 + 0x1000 * p + o) 0
        | _, _ => ((s.cfgRead p r.fn r.f).getD (Config.cfgOpen r.fn r.f p).toNat, s)
      s.send (.reply r.m.src { r.m.answer .sc false with data := v })

/-- CONFIG_REQUEST: a port that is not ready answers a configuration request with retry status until its limit (R74); then the
functions of its VCS answer. -/
def execConfigRequest (p : Nat) (r : CfgReq) (s : State) : Host.Outcome State Fault Refusal :=
  onUnit (isPort p && r.m.src == p)
    (if ¬ s.bit fPWR_PORTRDY_READY p ∧ ¬ bitOf s.pwr.late p then s.reply r.m .crs false else s.cfgServe p r)

end Sys2Proof.Machine
end

