-- ==== Sys2Proof/Machine/Dispatch.lean ====
section
/-! DEFINITION. One arm per command: the one direct call of its meaning. -/

namespace Sys2Proof.Machine

/-- The effect of a command on everything but the queue. -/
def exec (i : Instr) (s : State) : Host.Outcome State Fault Refusal :=
  match i with
  | .registerWrite node port addr val ev => Sys2Proof.Machine.execRegisterWrite node port addr val ev s
  | .registerReadClear node port addr ev => Sys2Proof.Machine.execRegisterReadClear node port addr ev s
  | .registerHalfLatchRead node port addr => Sys2Proof.Machine.execRegisterHalfLatchRead node port addr s
  | .vddAuxLost => Sys2Proof.Machine.execVddAuxLost s
  | .vddAuxRestored => Sys2Proof.Machine.execVddAuxRestored s
  | .pwrgdLow => Sys2Proof.Machine.execPwrgdLow s
  | .pwrgdGlitch => Sys2Proof.Machine.execPwrgdGlitch s
  | .gateDischargeEnd => Sys2Proof.Machine.execGateDischargeEnd s
  | .pwrgdRise prog => Sys2Proof.Machine.execPwrgdRise prog s
  | .railHoldEnd => Sys2Proof.Machine.execRailHoldEnd s
  | .strapTestSourceOn => Sys2Proof.Machine.execStrapTestSourceOn s
  | .strapSample pins => Sys2Proof.Machine.execStrapSample pins s
  | .strapResolve => Sys2Proof.Machine.execStrapResolve s
  | .pllLock => Sys2Proof.Machine.execPllLock s
  | .sramClearDone bad => Sys2Proof.Machine.execSramClearDone bad s
  | .t1sPhyJoin seg => Sys2Proof.Machine.execT1sPhyJoin seg s
  | .calibrationDone tile => Sys2Proof.Machine.execCalibrationDone tile s
  | .spillwayArm => Sys2Proof.Machine.execSpillwayArm s
  | .slotWave v => Sys2Proof.Machine.execSlotWave v s
  | .portWave w tile => Sys2Proof.Machine.execPortWave w tile s
  | .leatWave tile => Sys2Proof.Machine.execLeatWave tile s
  | .warmRstPin low => Sys2Proof.Machine.execWarmRstPin low s
  | .warmResetReq val => Sys2Proof.Machine.execWarmResetReq val s
  | .tileResetReq val => Sys2Proof.Machine.execTileResetReq val s
  | .warmResetEnd => Sys2Proof.Machine.execWarmResetEnd s
  | .tileResetEnd tile => Sys2Proof.Machine.execTileResetEnd tile s
  | .culvertRetrained tile => Sys2Proof.Machine.execCulvertRetrained tile s
  | .railWarning rail outside => Sys2Proof.Machine.execRailWarning rail outside s
  | .railFault rail outside => Sys2Proof.Machine.execRailFault rail outside s
  | .clockLoss dom => Sys2Proof.Machine.execClockLoss dom s
  | .clockPresent dom => Sys2Proof.Machine.execClockPresent dom s
  | .pwrDomctlWrite n val => Sys2Proof.Machine.execPwrDomctlWrite n val s
  | .domainPowerUpDone n => Sys2Proof.Machine.execDomainPowerUpDone n s
  | .headerSwitchOpen n => Sys2Proof.Machine.execHeaderSwitchOpen n s
  | .perstInAssert p => Sys2Proof.Machine.execPerstInAssert p s
  | .perstInRelease p => Sys2Proof.Machine.execPerstInRelease p s
  | .perstOutRelease p => Sys2Proof.Machine.execPerstOutRelease p s
  | .configRequest p r => Sys2Proof.Machine.execConfigRequest p r s
  | .crsLate p => Sys2Proof.Machine.execCrsLate p s
  | .profileApply val => Sys2Proof.Machine.execProfileApply val s
  | .profileClosed => Sys2Proof.Machine.execProfileClosed s
  | .profileDrained => Sys2Proof.Machine.execProfileDrained s
  | .profileRecallDone => Sys2Proof.Machine.execProfileRecallDone s
  | .profileInitDone => Sys2Proof.Machine.execProfileInitDone s
  | .profileSwitched => Sys2Proof.Machine.execProfileSwitched s
  | .profileChangeTimeout => Sys2Proof.Machine.execProfileChangeTimeout s
  | .profileRollbackDone => Sys2Proof.Machine.execProfileRollbackDone s
  | .culvertBeatCrcFail tile => Sys2Proof.Machine.execCulvertBeatCrcFail tile s
  | .culvertWireSpare tile bundle => Sys2Proof.Machine.execCulvertWireSpare tile bundle s
  | .culvertBundleRetire tile bundle => Sys2Proof.Machine.execCulvertBundleRetire tile bundle s
  | .comparatorFire => Sys2Proof.Machine.execComparatorFire s
  | .ppsEdge inB t high => Sys2Proof.Machine.execPpsEdge inB t high s
  | .ppsLoss inB => Sys2Proof.Machine.execPpsLoss inB s
  | .todMessage inB bytes framed t => Sys2Proof.Machine.execTodMessage inB bytes framed t s
  | .todByteGap inB => Sys2Proof.Machine.execTodByteGap inB s
  | .ftSetarm val => Sys2Proof.Machine.execFtSetarm val s
  | .ftForcestep val => Sys2Proof.Machine.execFtForcestep val s
  | .holdoverLimit => Sys2Proof.Machine.execHoldoverLimit s
  | .serLctlWrite l val => Sys2Proof.Machine.execSerLctlWrite l val s
  | .laneEnergyDetect l => Sys2Proof.Machine.execLaneEnergyDetect l s
  | .laneCdrLock l => Sys2Proof.Machine.execLaneCdrLock l s
  | .laneCdrTimeout l => Sys2Proof.Machine.execLaneCdrTimeout l s
  | .laneMarkerReceive l w offset inverted fomDone => Sys2Proof.Machine.execLaneMarkerReceive l w offset inverted fomDone s
  | .laneMarkerMissing l => Sys2Proof.Machine.execLaneMarkerMissing l s
  | .laneAlignTimeout l => Sys2Proof.Machine.execLaneAlignTimeout l s
  | .laneEqApply l => Sys2Proof.Machine.execLaneEqApply l s
  | .laneEqTimeout l => Sys2Proof.Machine.execLaneEqTimeout l s
  | .laneDeskewDone l skew => Sys2Proof.Machine.execLaneDeskewDone l skew s
  | .laneDeskewTimeout l => Sys2Proof.Machine.execLaneDeskewTimeout l s
  | .laneCdrLoss l => Sys2Proof.Machine.execLaneCdrLoss l s
  | .laneStuffViolation l t => Sys2Proof.Machine.execLaneStuffViolation l t s
  | .portLaneCdrLoss l => Sys2Proof.Machine.execPortLaneCdrLoss l s
  | .serSlip l val => Sys2Proof.Machine.execSerSlip l val s
  | .serPrbsctlWrite l val => Sys2Proof.Machine.execSerPrbsctlWrite l val s
  | .eyeScanStart l val => Sys2Proof.Machine.execEyeScanStart l val s
  | .eyeScanDone l count cdrLost => Sys2Proof.Machine.execEyeScanDone l count cdrLost s
  | .portConfigWrite p val => Sys2Proof.Machine.execPortConfigWrite p val s
  | .portLinkUp p width r cache mem w => Sys2Proof.Machine.execPortLinkUp p width r cache mem w s
  | .portDlDown p => Sys2Proof.Machine.execPortDlDown p s
  | .hotResetReceived p disable => Sys2Proof.Machine.execHotResetReceived p disable s
  | .flrPf p => Sys2Proof.Machine.execFlrPf p s
  | .flrVf p vf => Sys2Proof.Machine.execFlrVf p vf s
  | .vfEnable p enable numVfs => Sys2Proof.Machine.execVfEnable p enable numVfs s
  | .prtTiblkWrite p val => Sys2Proof.Machine.execPrtTiblkWrite p val s
  | .prtSlotcfgWrite p val => Sys2Proof.Machine.execPrtSlotcfgWrite p val s
  | .fmApiCommand p opcode payload => Sys2Proof.Machine.execFmApiCommand p opcode payload s
  | .bindVppb p vcs vppb kind port ld node => Sys2Proof.Machine.execBindVppb p vcs vppb kind port ld node s
  | .bindComplete vcs vppb => Sys2Proof.Machine.execBindComplete vcs vppb s
  | .unbindWaitLinkDown p vcs vppb => Sys2Proof.Machine.execUnbindWaitLinkDown p vcs vppb s
  | .unbindManagedHotRemove p vcs vppb => Sys2Proof.Machine.execUnbindManagedHotRemove p vcs vppb s
  | .unbindSurpriseHotRemove p vcs vppb => Sys2Proof.Machine.execUnbindSurpriseHotRemove p vcs vppb s
  | .unbindComplete vcs vppb => Sys2Proof.Machine.execUnbindComplete vcs vppb s
  | .unbindTimeout vcs vppb => Sys2Proof.Machine.execUnbindTimeout vcs vppb s
  | .bindRspTimeout vcs vppb => Sys2Proof.Machine.execBindRspTimeout vcs vppb s
  | .apvelTransact p body good hang => Sys2Proof.Machine.execApvelTransact p body good hang s
  | .getWaterlogRecords p start count => Sys2Proof.Machine.execGetWaterlogRecords p start count s
  | .getFabricTime p => Sys2Proof.Machine.execGetFabricTime p s
  | .getPortReadiness p => Sys2Proof.Machine.execGetPortReadiness p s
  | .presenceChange p present => Sys2Proof.Machine.execPresenceChange p present s
  | .attentionButtonPress p => Sys2Proof.Machine.execAttentionButtonPress p s
  | .powerControllerOn vcs vppb => Sys2Proof.Machine.execPowerControllerOn vcs vppb s
  | .powerControllerOff vcs vppb => Sys2Proof.Machine.execPowerControllerOff vcs vppb s
  | .indicatorWrite vcs vppb attn pwri => Sys2Proof.Machine.execIndicatorWrite vcs vppb attn pwri s
  | .powerFaultClear vcs vppb => Sys2Proof.Machine.execPowerFaultClear vcs vppb s
  | .prtSlotctlWrite p val => Sys2Proof.Machine.execPrtSlotctlWrite p val s
  | .l1Entry p idle sub => Sys2Proof.Machine.execL1Entry p idle sub s
  | .l1Exit p => Sys2Proof.Machine.execL1Exit p s
  | .clkreqPartnerAssert p => Sys2Proof.Machine.execClkreqPartnerAssert p s
  | .leatCtlWrite k val => Sys2Proof.Machine.execLeatCtlWrite k val s
  | .leatRetrainCmd k val => Sys2Proof.Machine.execLeatRetrainCmd k val s
  | .leatDataReceive k hdr trl msgs => Sys2Proof.Machine.execLeatDataReceive k hdr trl msgs s
  | .leatIdleReceive k hdr trl => Sys2Proof.Machine.execLeatIdleReceive k hdr trl s
  | .leatAckReceive k hdr trl a t => Sys2Proof.Machine.execLeatAckReceive k hdr trl a t s
  | .leatInitReceive k lane hdr trl b t => Sys2Proof.Machine.execLeatInitReceive k lane hdr trl b t s
  | .leatUnitCrcFail k bytes => Sys2Proof.Machine.execLeatUnitCrcFail k bytes s
  | .spareReq k hdr trl y => Sys2Proof.Machine.execSpareReq k hdr trl y s
  | .retrainReq k hdr trl cause => Sys2Proof.Machine.execRetrainReq k hdr trl cause s
  | .portreset k hdr trl port release => Sys2Proof.Machine.execPortreset k hdr trl port release s
  | .bindClaim k hdr trl port ld vcs => Sys2Proof.Machine.execBindClaim k hdr trl port ld vcs s
  | .bindRsp k hdr trl port ld refused => Sys2Proof.Machine.execBindRsp k hdr trl port ld refused s
  | .unbind k hdr trl port ld => Sys2Proof.Machine.execUnbind k hdr trl port ld s
  | .lpReq k hdr trl => Sys2Proof.Machine.execLpReq k hdr trl s
  | .lpAck k hdr trl => Sys2Proof.Machine.execLpAck k hdr trl s
  | .leatAckTimer k t => Sys2Proof.Machine.execLeatAckTimer k t s
  | .leatReplayTimeout k => Sys2Proof.Machine.execLeatReplayTimeout k s
  | .leatLanesReady k => Sys2Proof.Machine.execLeatLanesReady k s
  | .leatDegradedWaitExpire k atEighteen => Sys2Proof.Machine.execLeatDegradedWaitExpire k atEighteen s
  | .leatTrainingTimeout k => Sys2Proof.Machine.execLeatTrainingTimeout k s
  | .leatRetrainIdleEnd k => Sys2Proof.Machine.execLeatRetrainIdleEnd k s
  | .leatRetrainTimeout k => Sys2Proof.Machine.execLeatRetrainTimeout k s
  | .leatDownRetry k => Sys2Proof.Machine.execLeatDownRetry k s
  | .spareReqRepeat k y => Sys2Proof.Machine.execSpareReqRepeat k y s
  | .leatDozeIdle k => Sys2Proof.Machine.execLeatDozeIdle k s
  | .leatWake k => Sys2Proof.Machine.execLeatWake k s
  | .coreMessageEnqueue x sel here m err => Sys2Proof.Machine.execCoreMessageEnqueue x sel here m err s
  | .egressSchedule x credits err cell => Sys2Proof.Machine.execEgressSchedule x credits err cell s
  | .messageDepart x => Sys2Proof.Machine.execMessageDepart x s
  | .turnoutAgeSweep => Sys2Proof.Machine.execTurnoutAgeSweep s
  | .groupCommit g val => Sys2Proof.Machine.execGroupCommit g val s
  | .mirrorSessionWrite k word val => Sys2Proof.Machine.execMirrorSessionWrite k word val s
  | .egressStall x => Sys2Proof.Machine.execEgressStall x s
  | .cellAudit => Sys2Proof.Machine.execCellAudit s
  | .rds m up => Sys2Proof.Machine.execRds m up s
  | .rdown m up => Sys2Proof.Machine.execRdown m up s
  | .upgr m up => Sys2Proof.Machine.execUpgr m up s
  | .rdcur m up => Sys2Proof.Machine.execRdcur m up s
  | .wrfull m up => Sys2Proof.Machine.execWrfull m up s
  | .wrpart m up => Sys2Proof.Machine.execWrpart m up s
  | .wbI m up => Sys2Proof.Machine.execWbI m up s
  | .wbS m up => Sys2Proof.Machine.execWbS m up s
  | .wbE m up => Sys2Proof.Machine.execWbE m up s
  | .evc m up => Sys2Proof.Machine.execEvc m up s
  | .oAgeSweep bad => Sys2Proof.Machine.execOAgeSweep bad s
  | .snoopResponse m => Sys2Proof.Machine.execSnoopResponse m s
  | .poolReadData line data poison => Sys2Proof.Machine.execPoolReadData line data poison s
  | .poolWriteComplete line => Sys2Proof.Machine.execPoolWriteComplete line s
  | .poolAccessFail line write => Sys2Proof.Machine.execPoolAccessFail line write s
  | .holdWindowEnd line agent => Sys2Proof.Machine.execHoldWindowEnd line agent s
  | .snoopTimeout line agent => Sys2Proof.Machine.execSnoopTimeout line agent s
  | .nakReceived r => Sys2Proof.Machine.execNakReceived r s
  | .nakRetry r => Sys2Proof.Machine.execNakRetry r s
  | .reservationExpire line => Sys2Proof.Machine.execReservationExpire line s
  | .agentPurgeDone a => Sys2Proof.Machine.execAgentPurgeDone a s
  | .wmCmpReceive m => Sys2Proof.Machine.execWmCmpReceive m s
  | .wmNakReceive m => Sys2Proof.Machine.execWmNakReceive m s
  | .wmRefuseReceive m => Sys2Proof.Machine.execWmRefuseReceive m s
  | .snpinv m => Sys2Proof.Machine.execSnpinv m s
  | .snpdata m => Sys2Proof.Machine.execSnpdata m s
  | .snpcur m => Sys2Proof.Machine.execSnpcur m s
  | .regionEnable n val => Sys2Proof.Machine.execRegionEnable n val s
  | .regionRecall n val => Sys2Proof.Machine.execRegionRecall n val s
  | .regionRecallDone n => Sys2Proof.Machine.execRegionRecallDone n s
  | .tableLoad val sigOk => Sys2Proof.Machine.execTableLoad val sigOk s
  | .tableSwitch => Sys2Proof.Machine.execTableSwitch s
  | .tableLoadDrainTimeout => Sys2Proof.Machine.execTableLoadDrainTimeout s
  | .tableCrcCheck tab => Sys2Proof.Machine.execTableCrcCheck tab s
  | .scrubSet sl up => Sys2Proof.Machine.execScrubSet sl up s
  | .suspectClear val => Sys2Proof.Machine.execSuspectClear val s
  | .snfDiagRead val err => Sys2Proof.Machine.execSnfDiagRead val err s
  | .hdmCommitDone p mld caps => Sys2Proof.Machine.execHdmCommitDone p mld caps s
  | .hdmDecoderCommit p d base size ways gran targets commit => Sys2Proof.Machine.execHdmDecoderCommit p d base size ways gran targets commit s
  | .poolportWrite k val => Sys2Proof.Machine.execPoolportWrite k val s
  | .mapidxWrite val => Sys2Proof.Machine.execMapidxWrite val s
  | .mapGrant val err => Sys2Proof.Machine.execMapGrant val err s
  | .mapRelease val err => Sys2Proof.Machine.execMapRelease val err s
  | .mapTimedApply => Sys2Proof.Machine.execMapTimedApply s
  | .zeroingDone idx ok => Sys2Proof.Machine.execZeroingDone idx ok s
  | .releaseDrainEnd => Sys2Proof.Machine.execReleaseDrainEnd s
  | .shareGroupWrite val => Sys2Proof.Machine.execShareGroupWrite val s
  | .addDynamicCapacity p ld dpa len => Sys2Proof.Machine.execAddDynamicCapacity p ld dpa len s
  | .dcdReleaseRequest p ld dpa len => Sys2Proof.Machine.execDcdReleaseRequest p ld dpa len s
  | .dcdForcedRemoval p ld dpa len => Sys2Proof.Machine.execDcdForcedRemoval p ld dpa len s
  | .windowCommit p val => Sys2Proof.Machine.execWindowCommit p val s
  | .windowShadowRefreshed p => Sys2Proof.Machine.execWindowShadowRefreshed p s
  | .windowDrainEnd p => Sys2Proof.Machine.execWindowDrainEnd p s
  | .chkRuleStore val => Sys2Proof.Machine.execChkRuleStore val s
  | .chkStagingClear val => Sys2Proof.Machine.execChkStagingClear val s
  | .chkCommit val => Sys2Proof.Machine.execChkCommit val s
  | .chkValidationDone => Sys2Proof.Machine.execChkValidationDone s
  | .chkWithdraw val => Sys2Proof.Machine.execChkWithdraw val s
  | .chkEpochApply => Sys2Proof.Machine.execChkEpochApply s
  | .chkDrainEnd g => Sys2Proof.Machine.execChkDrainEnd g s
  | .chkStagingRewriteDone g => Sys2Proof.Machine.execChkStagingRewriteDone g s
  | .chkScrub g err => Sys2Proof.Machine.execChkScrub g err s
  | .runRctx0Write val => Sys2Proof.Machine.execRunRctx0Write val s
  | .ringDoorbell ti k val => Sys2Proof.Machine.execRingDoorbell ti k val s
  | .ringEnable ti k val => Sys2Proof.Machine.execRingEnable ti k val s
  | .ringDisable ti k val => Sys2Proof.Machine.execRingDisable ti k val s
  | .ringResume ti k val => Sys2Proof.Machine.execRingResume ti k val s
  | .ringStopped ring => Sys2Proof.Machine.execRingStopped ring s
  | .ringCfgWrite ti k off val => Sys2Proof.Machine.execRingCfgWrite ti k off val s
  | .cqheadWrite ti k val => Sys2Proof.Machine.execCqheadWrite ti k val s
  | .descriptorFetchDone ring ok ds => Sys2Proof.Machine.execDescriptorFetchDone ring ok ds s
  | .nop ring => Sys2Proof.Machine.execNop ring s
  | .copy ring => Sys2Proof.Machine.execCopy ring s
  | .fill ring => Sys2Proof.Machine.execFill ring s
  | .writei ring => Sys2Proof.Machine.execWritei ring s
  | .writeiMcast ring => Sys2Proof.Machine.execWriteiMcast ring s
  | .load ring => Sys2Proof.Machine.execLoad ring s
  | .atomicFadd8 ring => Sys2Proof.Machine.execAtomicFadd8 ring s
  | .atomicSwap8 ring => Sys2Proof.Machine.execAtomicSwap8 ring s
  | .atomicCas8 ring => Sys2Proof.Machine.execAtomicCas8 ring s
  | .atomicCas16 ring => Sys2Proof.Machine.execAtomicCas16 ring s
  | .barrier ring => Sys2Proof.Machine.execBarrier ring s
  | .wcIdleIssue entry bad => Sys2Proof.Machine.execWcIdleIssue entry bad s
  | .admitNotice acc rule pairAt earlyAck devReg wto => Sys2Proof.Machine.execAdmitNotice acc rule pairAt earlyAck devReg wto s
  | .runnelWriteAck acc status => Sys2Proof.Machine.execRunnelWriteAck acc status s
  | .runnelReadData acc status data poison => Sys2Proof.Machine.execRunnelReadData acc status data poison s
  | .runnelWriteTimeout acc => Sys2Proof.Machine.execRunnelWriteTimeout acc s
  | .runnelReadTimeout acc => Sys2Proof.Machine.execRunnelReadTimeout acc s
  | .runPauseWrite val => Sys2Proof.Machine.execRunPauseWrite val s
  | .runEnableWrite val => Sys2Proof.Machine.execRunEnableWrite val s
  | .tokenRefill err idx => Sys2Proof.Machine.execTokenRefill err idx s
  | .shaperCommit ti val => Sys2Proof.Machine.execShaperCommit ti val s
  | .classShaperCommit x t val => Sys2Proof.Machine.execClassShaperCommit x t val s
  | .rotationCommit x val => Sys2Proof.Machine.execRotationCommit x val s
  | .rotationCancel x val => Sys2Proof.Machine.execRotationCancel x val s
  | .rotationActivate x => Sys2Proof.Machine.execRotationActivate x s
  | .rotationCycleStart x => Sys2Proof.Machine.execRotationCycleStart x s
  | .gateChange x => Sys2Proof.Machine.execGateChange x s
  | .rotenWrite x val => Sys2Proof.Machine.execRotenWrite x val s
  | .quiesce val => Sys2Proof.Machine.execQuiesce val s
  | .resume val => Sys2Proof.Machine.execResume val s
  | .reset val => Sys2Proof.Machine.execReset val s
  | .quiesceComplete ti => Sys2Proof.Machine.execQuiesceComplete ti s
  | .quiesceTimeout ti => Sys2Proof.Machine.execQuiesceTimeout ti s
  | .instanceResetComplete ti => Sys2Proof.Machine.execInstanceResetComplete ti s
  | .unplannedResetTimeout ti => Sys2Proof.Machine.execUnplannedResetTimeout ti s
  | .ringStoppingTimeout ring => Sys2Proof.Machine.execRingStoppingTimeout ring s
  | .instanceFault ti => Sys2Proof.Machine.execInstanceFault ti s
  | .mailboxDoorbell ti val => Sys2Proof.Machine.execMailboxDoorbell ti val s
  | .mailboxAck ti val => Sys2Proof.Machine.execMailboxAck ti val s
  | .mailboxDone val => Sys2Proof.Machine.execMailboxDone val s
  | .mailboxTimeout ti => Sys2Proof.Machine.execMailboxTimeout ti s
  | .tenNoticeWrite val => Sys2Proof.Machine.execTenNoticeWrite val s
  | .contextSave val => Sys2Proof.Machine.execContextSave val s
  | .contextLoad val => Sys2Proof.Machine.execContextLoad val s
  | .contextTransferDone => Sys2Proof.Machine.execContextTransferDone s
  | .logEnable val => Sys2Proof.Machine.execLogEnable val s
  | .logDisable val => Sys2Proof.Machine.execLogDisable val s
  | .logFlip val => Sys2Proof.Machine.execLogFlip val s
  | .logFlipDone ti => Sys2Proof.Machine.execLogFlipDone ti s
  | .logCacheEvict ti buf word => Sys2Proof.Machine.execLogCacheEvict ti buf word s
  | .boundaryDrainDone n => Sys2Proof.Machine.execBoundaryDrainDone n s
  | .boundaryDrainTimeout n => Sys2Proof.Machine.execBoundaryDrainTimeout n s
  | .acqWedge node port vc => Sys2Proof.Machine.execAcqWedge node port vc s
  | .acqHeaderFault node port e => Sys2Proof.Machine.execAcqHeaderFault node port e s
  | .acqProbeWrite p word val => Sys2Proof.Machine.execAcqProbeWrite p word val s
  | .runnelStatsSnap val => Sys2Proof.Machine.execRunnelStatsSnap val s
  | .sourceRaise src => Sys2Proof.Machine.execSourceRaise src s
  | .sourceQuiet src => Sys2Proof.Machine.execSourceQuiet src s
  | .quietPeriodEnd src => Sys2Proof.Machine.execQuietPeriodEnd src s
  | .stickyClear word val => Sys2Proof.Machine.execStickyClear word val s
  | .flapWindowClear => Sys2Proof.Machine.execFlapWindowClear s
  | .wireFault src => Sys2Proof.Machine.execWireFault src s
  | .wireTest => Sys2Proof.Machine.execWireTest s
  | .wireTestEnd src pGood nGood => Sys2Proof.Machine.execWireTestEnd src pGood nGood s
  | .collectorMismatch srcs codes => Sys2Proof.Machine.execCollectorMismatch srcs codes s
  | .collectorRateChange slow => Sys2Proof.Machine.execCollectorRateChange slow s
  | .spwInject val => Sys2Proof.Machine.execSpwInject val s
  | .spwMaskWrite word val => Sys2Proof.Machine.execSpwMaskWrite word val s
  | .spwRctWrite src val => Sys2Proof.Machine.execSpwRctWrite src val s
  | .deviceCplTimeout p tag => Sys2Proof.Machine.execDeviceCplTimeout p tag s
  | .feedBad n feedB mv => Sys2Proof.Machine.execFeedBad n feedB mv s
  | .feedGood n feedB mv => Sys2Proof.Machine.execFeedGood n feedB mv s
  | .feedMake j => Sys2Proof.Machine.execFeedMake j s
  | .feedReturn j => Sys2Proof.Machine.execFeedReturn j s
  | .slotPresent j held => Sys2Proof.Machine.execSlotPresent j held s
  | .slotAbsent j => Sys2Proof.Machine.execSlotAbsent j s
  | .sluCfgWrite j val => Sys2Proof.Machine.execSluCfgWrite j val s
  | .sluOn j val => Sys2Proof.Machine.execSluOn j val s
  | .sluOff j val => Sys2Proof.Machine.execSluOff j val s
  | .sluClrflt j val => Sys2Proof.Machine.execSluClrflt j val s
  | .sluClriso j val low => Sys2Proof.Machine.execSluClriso j val low s
  | .rampPlaceFree j => Sys2Proof.Machine.execRampPlaceFree j s
  | .rampSegmentEnd j vout cur => Sys2Proof.Machine.execRampSegmentEnd j vout cur s
  | .rampTimeout j => Sys2Proof.Machine.execRampTimeout j s
  | .powerGood j vout cur vin => Sys2Proof.Machine.execPowerGood j vout cur vin s
  | .stoppingEnd j => Sys2Proof.Machine.execStoppingEnd j s
  | .fastTrip j cur => Sys2Proof.Machine.execFastTrip j cur s
  | .slowTrip j k cur => Sys2Proof.Machine.execSlowTrip j k cur s
  | .underVoltage j vout => Sys2Proof.Machine.execUnderVoltage j vout s
  | .overVoltage j vout => Sys2Proof.Machine.execOverVoltage j vout s
  | .passFetDamage j vout => Sys2Proof.Machine.execPassFetDamage j vout s
  | .flumeSnapshot errs => Sys2Proof.Machine.execFlumeSnapshot errs s
  | .flmSnap val => Sys2Proof.Machine.execFlmSnap val s
  | .dumpBodyProven r => Sys2Proof.Machine.execDumpBodyProven r s
  | .dumpComplete r => Sys2Proof.Machine.execDumpComplete r s
  | .dumpFail r => Sys2Proof.Machine.execDumpFail r s
  | .dumpLate r => Sys2Proof.Machine.execDumpLate r s
  | .flmZero val => Sys2Proof.Machine.execFlmZero val s
  | .flmEvtWrite c word val => Sys2Proof.Machine.execFlmEvtWrite c word val s
  | .flmFiltWrite f word val => Sys2Proof.Machine.execFlmFiltWrite f word val s
  | .flmRingWrite r word val => Sys2Proof.Machine.execFlmRingWrite r word val s
  | .dictRead seg mac bcast body hang => Sys2Proof.Machine.execDictRead seg mac bcast body hang s
  | .dictWrite seg mac bcast body good hang => Sys2Proof.Machine.execDictWrite seg mac bcast body good hang s
  | .broadcastReply => Sys2Proof.Machine.execBroadcastReply s
  | .commandTimeout => Sys2Proof.Machine.execCommandTimeout s
  | .domainTransferTimeout orig => Sys2Proof.Machine.execDomainTransferTimeout orig s
  | .notificationAck seg mac body => Sys2Proof.Machine.execNotificationAck seg mac body s
  | .notificationResend slot tag => Sys2Proof.Machine.execNotificationResend slot tag s
  | .warmreset c val => Sys2Proof.Machine.execWarmreset c val s
  | .tilereset c val => Sys2Proof.Machine.execTilereset c val s
  | .enterStandby c => Sys2Proof.Machine.execEnterStandby c s
  | .enterOperational c => Sys2Proof.Machine.execEnterOperational c s
  | .epochcancel c seq => Sys2Proof.Machine.execEpochcancel c seq s
  | .configEpochApply => Sys2Proof.Machine.execConfigEpochApply s
  | .batch c apply entries => Sys2Proof.Machine.execBatch c apply entries s
  | .debug c space write addr n data => Sys2Proof.Machine.execDebug c space write addr n data s
  | .lockClaim c val => Sys2Proof.Machine.execLockClaim c val s
  | .lockLapse => Sys2Proof.Machine.execLockLapse s
  | .precedence c val => Sys2Proof.Machine.execPrecedence c val s
  | .swclear c val => Sys2Proof.Machine.execSwclear c val s
  | .cknow c val => Sys2Proof.Machine.execCknow c val s
  | .checkpointTimer => Sys2Proof.Machine.execCheckpointTimer s
  | .checkpointDone ok => Sys2Proof.Machine.execCheckpointDone ok s
  | .tenderRestart => Sys2Proof.Machine.execTenderRestart s
  | .bootSlotTry b v => Sys2Proof.Machine.execBootSlotTry b v s
  | .stage2Loaded v => Sys2Proof.Machine.execStage2Loaded v s
  | .imageSegmentWrite c b off last data => Sys2Proof.Machine.execImageSegmentWrite c b off last data s
  | .verifya c => Sys2Proof.Machine.execVerifya c s
  | .verifyb c => Sys2Proof.Machine.execVerifyb c s
  | .activatea c => Sys2Proof.Machine.execActivatea c s
  | .activateb c => Sys2Proof.Machine.execActivateb c s
  | .commit c => Sys2Proof.Machine.execCommit c s
  | .bootnowa c v => Sys2Proof.Machine.execBootnowa c v s
  | .bootnowb c v => Sys2Proof.Machine.execBootnowb c v s
  | .fwVerifyDone v => Sys2Proof.Machine.execFwVerifyDone v s
  | .trialExpire => Sys2Proof.Machine.execTrialExpire s
  | .svn c val va vb => Sys2Proof.Machine.execSvn c val va vb s
  | .challenge c => Sys2Proof.Machine.execChallenge c s
  | .unlock c bytes good => Sys2Proof.Machine.execUnlock c bytes good s
  | .relock c => Sys2Proof.Machine.execRelock c s
  | .openExpire => Sys2Proof.Machine.execOpenExpire s
  | .retire c val => Sys2Proof.Machine.execRetire c val s
  | .tapReset => Sys2Proof.Machine.execTapReset s
  | .extest pins upd => Sys2Proof.Machine.execExtest pins upd s
  | .idcode => Sys2Proof.Machine.execIdcode s
  | .samplePreload pins upd => Sys2Proof.Machine.execSamplePreload pins upd s
  | .clamp tdi n => Sys2Proof.Machine.execClamp tdi n s
  | .highz tdi n => Sys2Proof.Machine.execHighz tdi n s
  | .bypass code tdi n => Sys2Proof.Machine.execBypass code tdi n s
  | .sysacc dr => Sys2Proof.Machine.execSysacc dr s
  | .jtagChallenge => Sys2Proof.Machine.execJtagChallenge s
  | .jtagUnlock bits good => Sys2Proof.Machine.execJtagUnlock bits good s
  | .junctionWarning temp sensor => Sys2Proof.Machine.execJunctionWarning temp sensor s
  | .junctionTrip temp sensor => Sys2Proof.Machine.execJunctionTrip temp sensor s
  | .hotResetEnd p => Sys2Proof.Machine.execHotResetEnd p s
  | .tenderRestartDone => Sys2Proof.Machine.execTenderRestartDone s
  | .badframe seg mac ether bcast body => Sys2Proof.Machine.execBadframe seg mac ether bcast body s
  | .prbsCheckerLock l errors => Sys2Proof.Machine.execPrbsCheckerLock l errors s
  | .ratePairFault driver => Sys2Proof.Machine.execRatePairFault driver s
  | .logBufferCompletion id data ok => Sys2Proof.Machine.execLogBufferCompletion id data ok s
  | .flashProgramDone b ok => Sys2Proof.Machine.execFlashProgramDone b ok s

end Sys2Proof.Machine
end

