-- ==== Sys2Proof/Machine/Step.lean ====
section
/-! DEFINITION. One step of the block: the command at the front of the queue, or, on an empty queue, one tick of fabric
time. -/

namespace Sys2Proof.Machine

/-- Fabric time runs on by one tick of 4 ns (R82), the core's cycles with it, and comparators that come due fire (R508).  Every
other event arrives as a command of its own (log entry 5). -/
def State.tick (s : State) : State := s.passTicks 1

/-- One step: the command at the front, with the rest of the queue behind it; a tick where nothing waits. -/
def step (s : State) : Host.Outcome State Fault Refusal :=
  match s.pending with
  | [] => .next s.tick
  | c :: cs => exec c { s with pending := cs }

/-- `s` with the command that word `w` spells put at the front of its queue; unchanged where it spells none. -/
def State.withFetchWord (s : State) (nbits w : Nat) : State :=
  match decodeTableWord nbits w with
  | none => s
  | some c => { s with pending := c :: s.pending }

end Sys2Proof.Machine
end

