-- ==== Sys2Proof/Machine/Mesh.lean ====
section
/-! DEFINITION. The routers of the Acequia (R370 to R376): flits and their control fields, buffers, claims and credits, what an output
grants in a cycle, and one cycle of the mesh.  A command finds the mesh empty and carries its packet across whole (`State.mesh`), since no
command of the table stands between two flits; what is here is how the flits go (log entry 112). -/

namespace Sys2Proof.Machine

/-! ### Flits (R370, R371) -/

/-- A flit: the packet it belongs to, its control field, and the core cycles until the router it has come to can pass it on. -/
structure Flit where
  pkt : Nat
  head : Bool
  tail : Bool
  vc : Nat
  poison : Bool := false
  dnode : Nat
  dloc : Nat := 0
  snode : Nat := 0
  cls : Nat := 0
  init : Nat := 0x7F
  flits : Nat := 1
  wait : Nat := 0
  deriving DecidableEq, Repr

/-- Bits [34:0] of a flit's control field (R370); bits [42:35] are its check bits. -/
def Flit.control (f : Flit) : Nat :=
  b2n f.head + 2 * b2n f.tail + 4 * (f.vc % 4) + 16 * b2n f.poison
    + (if f.head then 2 ^ 5 * (f.dnode % 64) + 2 ^ 11 * (f.dloc % 4) + 2 ^ 13 * (f.snode % 64) else 0)
    + 2 ^ 19 * (f.cls % 4) + 2 ^ 21 * (f.init % 128) + 2 ^ 28 * (f.flits % 128)

/-- The flits of message `m` as packet `n` from router `a` to endpoint `dl` of router `b`, `i` being the requester number (R370): its cells. -/
def packet (n a b dl i : Nat) (m : Msg) : List Flit :=
  (List.range m.cells).map fun j =>
    { pkt := n, head := j == 0, tail := j + 1 == m.cells, vc := meshVc m, poison := m.poison, dnode := b, dloc := dl, snode := a,
      cls := meshClass m, init := i, flits := m.cells }

/-! ### Endpoints that carry management packets (R369) -/

/-- The router of the Culvert gateway of tile `t`. -/
def gatewayNode (t : Nat) : Nat := [0, 7, 63, 56].getD t 0

/-- The router of the fixed SRAM port that holds address `a`: the region is interleaved by address bits [7:6]. -/
def sramNode (a : Nat) : Nat := [2, 5, 58, 61].getD (bitsOf a 6 2) 2

/-- The router of the register hub that serves the window of address `a`, where its block lies on tile C: hub A or hub B. -/
def hubNode (a : Nat) : Nat := if [0x00, 0x02, 0x04, 0x06, 0x15, 0x16, 0x17].contains (a / 0x100000) then 3 else 59

/-- The router of the Flume reader. -/
def flumeNode : Nat := 6

/-- The router that a VC3 access to register address `a` goes to: its hub, or the gateway of the Headworks tile it lies on. -/
def registerNode (a : Nat) (tile : Option Nat) : Nat := match tile with | some t => gatewayNode t | none => hubNode a

/-! ### A router (R368, R372, R373) -/

/-- A router: the flits buffered at each input and VC, oldest first; the input whose packet holds each output and VC; how many flits that
each output and VC has sent and the next router still buffers; the input served next; and the cycles in which an output's VC0 had a flit
ready and a credit and was given no grant.  Ports are 0 local, 1 N, 2 E, 3 S, 4 W; a port and VC are numbered 4 × port + VC. -/
structure Router where
  buf : SMap (List Flit) := []
  claim : SMap (Option Nat) := []
  used : SMap Nat := []
  turn : SMap Nat := []
  missed : SMap Nat := []
  deriving DecidableEq, Repr

/-- Flits that an input buffers for each VC (R373). -/
def bufFlits : Nat := 8

/-- The number of a port and VC. -/
def pvc (port vc : Nat) : Nat := 4 * port + vc

/-- The output that a flit for router `b` takes at router `a`: along X, then along Y, then the local port (R372). -/
def outOf (a b : Nat) : Nat :=
  if a % 8 < b % 8 then 2 else if b % 8 < a % 8 then 4 else if a / 8 < b / 8 then 1 else if b / 8 < a / 8 then 3 else 0

/-- The flits buffered at input `i` for VC `v`. -/
def Router.flits (r : Router) (i v : Nat) : List Flit := SMap.get [] r.buf (pvc i v)

/-- The input whose packet holds VC `v` of output `o`. -/
def Router.holder (r : Router) (o v : Nat) : Option Nat := SMap.get none r.claim (pvc o v)

/-- The flit at the front of input `i` and VC `v` of router `a` that may go to output `o`: a head flit that finds the VC free, or a flit of
the packet that holds it. -/
def Router.offers (r : Router) (a o v i : Nat) : Option Flit :=
  match (r.flits i v).head? with
  | none => none
  | some f =>
    if f.wait ≠ 0 then none
    else if f.head then (if outOf a f.dnode = o ∧ r.holder o v = none then some f else none)
    else if r.holder o v = some i then some f else none

/-- The input that VC `v` of output `o` would take a flit from now: its packet's, or, of those that offer a head flit, the next in rotating
order. -/
def Router.next (r : Router) (a o v : Nat) : Option (Nat × Flit) :=
  ((List.range 5).map fun j => (SMap.get 0 r.turn (pvc o v) + j) % 5).findSome? fun i => (r.offers a o v i).map fun f => (i, f)

/-- VC `v` of output `o` has a credit: room in the next router's buffer, or, at the local port, an endpoint that takes it, as bit `v` of
`sinks` says (R375: VC2 and VC3 always). -/
def Router.credit (r : Router) (sinks o v : Nat) : Bool :=
  if o = 0 then bitOf sinks v || decide (2 ≤ v) else decide (SMap.get 0 r.used (pvc o v) < bufFlits)

/-- VC `v` of output `o` has a flit ready and a credit. -/
def Router.ready (r : Router) (a sinks o v : Nat) : Bool := (r.next a o v).isSome && r.credit sinks o v

/-- The VC that output `o` grants in this cycle (R373): VC2, VC3, VC1, VC0, but VC0 where it has been ready for seven cycles without a grant. -/
def Router.grant (r : Router) (a sinks o : Nat) : Option Nat :=
  if r.ready a sinks o 0 ∧ 7 ≤ SMap.get 0 r.missed o then some 0
  else [2, 3, 1, 0].find? fun v => r.ready a sinks o v

/-- The router after flit `f` of input `i` has left by VC `v` of output `o`: the packet holds the VC until its tail, and then the input
behind it is served next. -/
def Router.sent (r : Router) (o v i : Nat) (f : Flit) : Router :=
  { r with
    buf := SMap.set [] r.buf (pvc i v) ((r.flits i v).drop 1),
    claim := SMap.set none r.claim (pvc o v) (if f.tail then none else some i),
    used := if o = 0 then r.used else SMap.mod 0 r.used (pvc o v) (· + 1),
    turn := if f.tail then SMap.set 0 r.turn (pvc o v) ((i + 1) % 5) else r.turn }

/-- What output `o` grants in one cycle: the router after it, and the flit with its input. -/
def Router.serve (r : Router) (a sinks o : Nat) : Router × Option (Nat × Flit) :=
  let miss := r.ready a sinks o 0
  match r.grant a sinks o with
  | none => (r, none)
  | some v =>
    match r.next a o v with
    | none => (r, none)
    | some (i, f) =>
      let n := if v = 0 then 0 else SMap.get 0 r.missed o + b2n miss
      ({ r.sent o v i f with missed := SMap.set 0 r.missed o n }, some (i, f))

/-! ### A cycle of the mesh (R373, R374) -/

/-- The routers that hold or owe anything, by number. -/
abbrev Net := SMap Router

/-- A flit that leaves a router in a cycle: the router, the output, the input it was buffered at, and the flit. -/
structure Move where
  node : Nat
  out : Nat
  inp : Nat
  flit : Flit
  deriving DecidableEq, Repr

/-- The router beyond mesh port `o` of router `a`. -/
def beyond (a o : Nat) : Nat := if o = 1 then a + 8 else if o = 2 then a + 1 else if o = 3 then a - 8 else a - 1

/-- The port of the router beyond that faces port `o`. -/
def facing (o : Nat) : Nat := if o = 1 then 3 else if o = 2 then 4 else if o = 3 then 1 else 2

/-- The outputs of a router in one cycle: each mesh port grants one flit, the local port two. -/
def grants : List Nat := [0, 0, 1, 2, 3, 4]

/-- Router `a` in one cycle: the router after its grants, and the flits that leave. -/
def Router.cycle (a sinks : Nat) (r : Router) : Router × List Move :=
  grants.foldl (fun (acc : Router × List Move) o =>
    match acc.1.serve a sinks o with
    | (r, none) => (r, acc.2)
    | (r, some (i, f)) => (r, acc.2 ++ [{ node := a, out := o, inp := i, flit := f }])) (r, [])

/-- Every buffered flit a cycle nearer to leaving. -/
def Router.age (r : Router) : Router :=
  { r with buf := SMap.mapAll [] r.buf fun _ fs => fs.map fun f => { f with wait := f.wait - 1 } }

/-- Flit `f` put into the buffer of input `i`. -/
def Router.take (r : Router) (i : Nat) (f : Flit) : Router := { r with buf := SMap.set [] r.buf (pvc i f.vc) (r.flits i f.vc ++ [f]) }

/-- What a move does beyond its router: the flit enters the next one, which can pass it on two cycles later, and the router it had come from
has its credit back. -/
def Move.land (n : Net) (m : Move) : Net :=
  let n := if m.out = 0 then n
    else SMap.mod {} n (beyond m.node m.out) fun r => r.take (facing m.out) { m.flit with wait := 1 }
  if m.inp = 0 then n
  else SMap.mod {} n (beyond m.node m.inp) fun r =>
    { r with used := SMap.mod 0 r.used (pvc (facing m.inp) m.flit.vc) (· - 1) }

/-- One core cycle of the mesh; `sinks` gives the VCs that the endpoints of a router take.  The moves with output 0 are the flits that
endpoints receive. -/
def cycle (sinks : Nat → Nat) (n : Net) : Net × List Move :=
  let served := n.map fun e => (e.1, Router.cycle e.1 (sinks e.1) e.2)
  let moves := served.flatMap fun e => e.2.2
  (moves.foldl Move.land (served.map fun e => (e.1, e.2.1.age)), moves)

/-- The endpoint of router `a` offers the flits `fs`: at most two in a cycle, and no more than the buffer has room for; what it took, and what
waits. -/
def inject (n : Net) (a : Nat) (fs : List Flit) : Net × List Flit :=
  let v := (fs.headD { pkt := 0, head := false, tail := false, vc := 0, dnode := 0 }).vc
  let k := min 2 (bufFlits - ((SMap.get {} n a).flits 0 v).length)
  (SMap.mod {} n a fun r => (fs.take k).foldl (fun r f => r.take 0 f) r, fs.drop k)

/-- `k` cycles of a mesh that router `a` sends the flits `fs` into, every endpoint taking all: the cycle, counted from 1, in which each flit is
received. -/
def crossing (a : Nat) : Nat → Nat → Net → List Flit → List (Nat × Flit)
  | 0, _, _, _ => []
  | k + 1, c, n, fs =>
    let (n, fs) := inject n a fs
    let (n, ms) := cycle (fun _ => 15) n
    (ms.filterMap fun m => if m.out = 0 then some (c + 1, m.flit) else none) ++ crossing a k (c + 1) n fs

end Sys2Proof.Machine
end

