-- ==== Sys2Proof/Machine/Pins.lean ====
section
/-! DEFINITION. What the device drives at its output pins (R43, R49 to R51, R142, R143, R145, R402, R414), as a function of the
state: no output has a state of its own but the boundary-scan chain that may drive it (R484). -/

namespace Sys2Proof.Machine

/-- What an output does: nothing (high-impedance, or an open drain released), low, high, a regulated analog level (GATE_P in a
ramp, R414), or what the boundary-scan chain holds (R484). -/
inductive Pin where
  | released | low | high | regulated | chain
  deriving DecidableEq, Repr

/-! ### Phases (R49) -/

/-- The cold-reset column of R49: PWRGD is low or strap sampling has not ended; a manufacturing test keeps that state (R52). -/
def State.pinsCold (s : State) : Bool := !s.pwr.pwrgd || !s.rdb fPKG_STRAP_VALID 0 || s.pwr.manufTest

/-- The warm or tile column of R49 for the pins of tile `t`. -/
def State.pinsReset (s : State) (t : Nat) : Bool := s.pwr.warm || bitOf s.pwr.tiles t

/-- A digital output: nothing with VDD_AUX off, the test access port's drive where it has the pins, else `d` (R49, R484). -/
def State.pin (s : State) (d : Pin) : Pin :=
  if ¬ s.pwr.aux then .released
  else match s.tap.drive with
    | .device => d
    | .chain => .chain
    | .highz => .released

/-! ### Board lines (R402, R502) -/

/-- An open-drain output pulled low exactly while `low`. -/
def openDrain (low : Bool) : Pin := if low then .low else .released

/-- FAULT_N. -/
def State.faultPin (s : State) : Pin := s.pin (openDrain s.faultLow)

/-- ALERT_N, which a cold reset releases. -/
def State.alertPin (s : State) : Pin := s.pin (openDrain (s.alertLow && !s.pinsCold))

/-- THERMTRIP_N. -/
def State.thermPin (s : State) : Pin := s.pin (openDrain s.pwr.thermLow)

/-! ### Ports (R43, R49, R51, R145) -/

/-- PERST_OUT_N of port `p`: driven only while the port is a downstream port, and low until it is released. -/
def State.perstPin (s : State) (p : Nat) : Pin :=
  s.pin (if s.pinsCold then .released
    else if ¬ s.downstream p then .released
    else if s.pinsReset (tileOfPort p) then .low
    else if s.bit fPWR_PERSTOUT_RELEASED p then .high else .low)

/-- CLKREQ_N of port `p`: low but in L1.1 and L1.2, and in resets. -/
def State.clkreqPin (s : State) (p : Nat) : Pin :=
  s.pin (openDrain (!(s.pinsCold || s.pinsReset (tileOfPort p)) && s.rd fPRT_PORTSTAT_L1SUB p == 0))

/-! ### Slots (R49, R50, R142, R143, R414, R417) -/

/-- A GATE output: nothing with VDD_AUX off, else `d` (R49).  The Sluice keeps these pins under every instruction of the test access
port (R486). -/
def State.slotPin (s : State) (d : Pin) : Pin := if s.pwr.aux then d else .released

/-- GATE_A or GATE_B of slot `j` (`f` 1 or 2): high for the feed in use; a cold reset drives it low for 200 µs, then not at all. -/
def State.gatePin (s : State) (j f : Nat) : Pin :=
  s.slotPin (if s.pinsCold then openDrain s.pwr.discharge else if s.rd fSLU_STAT_FEED j = f then .high else .low)

/-- GATE_P of slot `j`: regulated in a ramp, high once the ramp is done, low for off. -/
def State.gatePPin (s : State) (j : Nat) : Pin :=
  s.slotPin (if s.pinsCold then openDrain s.pwr.discharge
    else if s.slotState j = 2 then .regulated
    else if s.driving j then .high else .low)

/-- The common phase of every blinking indicator: 1.5 Hz with half duty, low in the first third of a second (log entry 105). -/
def State.blinkLow (s : State) : Bool := 3 * s.pwr.ns / nsPerSec % 2 == 0

/-- An indicator under control `c` (R142): 1 On drives low, 2 Blink toggles, 3 Off releases. -/
def State.ledPin (s : State) (c : Nat) : Pin :=
  s.pin (openDrain (!s.pinsCold && (c == 1 || (c == 2 && s.blinkLow))))

/-- ATNLED_N of slot `j`, off where no port has the slot. -/
def State.atnledPin (s : State) (j : Nat) : Pin :=
  s.ledPin (match s.slotPort j with
    | some p => (s.indicators p).1
    | none => 3)

/-- PWRLED_N of slot `j`. -/
def State.pwrledPin (s : State) (j : Nat) : Pin :=
  s.ledPin (match s.slotPort j with
    | some p => (s.indicators p).2
    | none => 3)

/-! ### Segments, flash and lanes (R49) -/

/-- The pair of segment `g` carries the joined PHY; its level is the segment's.  A PHY joins in a manufacturing test too, where the
dictionary answers on the segment (R52). -/
def State.segmentDriven (s : State) (g : Nat) : Bool := s.pwr.aux && s.rdb fTND_SEG_JOINED g

/-- TDO: it drives only while the TAP shifts (R49, R484), which a command does from its first bit to its last, so that between commands
it is high-impedance whatever the state; the bits shifted out are in `Out.tdo`. -/
def State.tdoPin (_ : State) : Pin := .released

/-- The SPI pins of flash `f` are driven: during flash access only. -/
def State.spiDriven (s : State) (f : Nat) : Bool := s.pwr.aux && !s.pinsCold && s.flashBusy f

/-- The transmitter of lane `l` may be out of electrical idle, and its receiver is terminated: neither in a reset, nor where the lane has no
power (R103), nor where a degraded width leaves it out (R124). -/
def State.laneLive (s : State) (l : Nat) : Bool :=
  s.pwr.aux && !s.pinsCold && !s.pinsReset (laneTile l) && s.laneOn l && !s.leftOut l

end Sys2Proof.Machine
end

