-- ==== Sys2Proof/Machine/Wire.lean ====
section
/-! DEFINITION. What a lane puts on its wires and takes from them (R103, R106 to R112, R117 to R119, R151, R169), as a function of the
state and of the bits its link layer hands it. -/

namespace Sys2Proof.Machine

/-! ### Markers sent (R110, R111, R165) -/

/-- PHASE in the markers of lane `l`: 0 ALIGN, 1 EQ, 2 READY, 3 ACTIVE for a lane that carries a logical position.  DESIGN CHOICE (log
entry 121): PHASE has no code for DESKEW, and a lane in it sends EQ. -/
def State.txPhase (s : State) (l : Nat) : Nat :=
  if (s.lane l).tx < 8 then 3
  else if s.laneStage l < 4 ∨ 7 < s.laneStage l then 0
  else if s.laneStage l < 6 then 1 else 2

/-- PRESETREQ and STEPREQ of lane `l`: its receiver's own request, or STEPREQ 7 once its tuning is done (R115). -/
def State.txReq (s : State) (l : Nat) : Nat × Nat :=
  let n := s.lane l
  if n.eqSent then (0xF, 7)
  else match n.req with
    | none => (0xF, 0)
    | some r => if r < 16 then (r, 0) else (0xF, r - 16)

/-- Symbols that a lane of link `k` sends in 1 ms: 64 GBd at 128 Gbit/s, 53.125 GBd at 106.25 Gbit/s (R102, R107). -/
def State.symbolsPerMs (s : State) (k : Nat) : Nat := if (s.lk k).rate = 1 then 53125000 else 64000000

/-- BLKSEQ of the block that link `k` is sending: the blocks that have ended since its lanes were started together, counted modulo 32,768
(R107, R110).  A block lasts 65,648 symbol times and what its stuff symbols add. -/
def State.blockCount (s : State) (k : Nat) : Nat :=
  (((s.pwr.ns - (s.lk k).blk0) * s.symbolsPerMs k / 1000000 - Config.stuffTime k s.pwr.ns) / blockSymbols) % 32768

/-- The payload of the marker of block number `seq` that Leat lane `l` sends (R110). -/
def State.txMarker (s : State) (l seq : Nat) : Nat :=
  let k := laneLink l
  let (preset, step) := s.txReq l
  markerWord (laneIdx l) (s.lane l).tx k (s.lk k).own (s.txPhase l) preset step (b2n (s.lane l).ack) (seq % 32768)

/-! ### What a lane sends and hears -/

/-- The transmitter of lane `l` is off, or held in electrical idle by its link, by a degraded width, or by a near-end loopback (R103,
R119, R124, R169). -/
def State.txIdle (s : State) (l : Nat) : Bool :=
  !s.laneOn l || s.rd fSER_LCTL_LOOP l == 1 || s.leftOut l
    || (isLeatLane l && (s.lk (laneLink l)).quiet && !s.testing l)

/-- The data bits that Leat lane `l` carries in a block: what its link layer hands it, and zeros on a lane without a position, as on the
spare (R117; log entry 108 for a lane that has none yet). -/
def State.txBits (s : State) (l : Nat) (bits : List Bool) : List Bool :=
  if (s.lane l).tx < 8 ∨ (s.lk (laneLink l)).exch then bits else List.replicate bits.length false

/-- The lane stream that carries `bits` from the block that begins now on, one list of symbols a block (R107): 65,536 data symbols in each. -/
def State.txBlocks (s : State) (l : Nat) (bits : List Bool) : List (List Nat) :=
  blocksOf (laneIdx l) (s.txMarker l) (s.rdb fSER_LCTL_TXINV l) (s.blockCount (laneLink l)) (s.txBits l bits) bits.length

/-- The symbol time, from now, at which every lane of link `k` sends the marker of the block after `j` whole ones, where lane `i` carries
`bits i`: the blocks of the lane with the most stuff symbols set it, so that the markers of all lanes stand in one symbol time (R107). -/
def State.markerTime (s : State) (k : Nat) (bits : Nat → List Bool) : Nat → Nat
  | 0 => 0
  | j + 1 => s.markerTime k bits j
      + ((List.range 9).map fun i => ((s.txBlocks (laneOf k i) (bits i)).getD j []).length).foldl max blockSymbols

/-- The symbols that the transmitter of lane `l` makes before any loopback: a test pattern of as many symbols as `bits` has pairs from
register `st` on, or blocks; none where the lane makes none (R107, R111, R118). -/
def State.txOwn (s : State) (l st : Nat) (bits : List Bool) : Option (List Nat) :=
  let inv := s.rdb fSER_LCTL_TXINV l
  if s.rdb fSER_PRBSCTL_GEN l ∧ s.rd fSER_PRBSCTL_PATTERN l ≠ 0 then
    some ((patternSyms (s.rd fSER_PRBSCTL_PATTERN l) (s.laneNrz l) (bits.length / 2) st).map (symFlip inv))
  else if isLeatLane l ∧ s.laneStage l ≠ 0 then some (s.txBlocks l bits).flatten
  else none

/-- What lane `l` drives on its line while it receives `rx`: in far-end loopback what it receives (R119); none in electrical idle.  DESIGN
CHOICE (log entry 121): the loop takes the symbols before the receiver's polarity correction, and TXINV applies to them. -/
def State.txLine (s : State) (l st : Nat) (bits : List Bool) (rx : List Nat) : Option (List Nat) :=
  if s.txIdle l then none
  else if s.rd fSER_LCTL_LOOP l = 2 then some (rx.map (symFlip (s.rdb fSER_LCTL_TXINV l)))
  else s.txOwn l st bits

/-- What the receiver of lane `l` hears while `line` arrives: in near-end loopback its own transmitter (R119). -/
def State.rxHears (s : State) (l st : Nat) (bits : List Bool) (line : List Nat) : List Nat :=
  if s.rd fSER_LCTL_LOOP l = 1 then (s.txOwn l st bits).getD [] else line

/-- The physical index whose seed the descrambler of lane `l` loads after a marker `w`: the marker's PIDX where it is good, else that of
the last good one (R108, R110). -/
def State.rxSeedOf (s : State) (l w : Nat) : Nat := if markerGood w then mkPidx w else s.rd fSER_LSTAT_PIDX_RX l

/-- The data bits that lane `l` recovers from a received block (R106 to R110). -/
def State.rxBits (s : State) (l : Nat) (xs : List Nat) : List Bool :=
  let inv := s.rdb fSER_LSTAT_RXINV l
  dataOf (s.rxSeedOf l (payloadOf (((xs.take 112).drop 16).map (symFlip inv)) 0)) inv xs

/-- The width of the transmit direction of link `k` (R147). -/
def State.txWidth (s : State) (k : Nat) : Nat := if s.rdb fLEAT_STAT_TXW4 k then 4 else 8

/-- The share of a unit that physical lane `i` of link `k` carries: that of the logical position its transmitter has (R151, R165). -/
def State.txShare (s : State) (k i : Nat) (unit : List Byte) : Option (List Byte) :=
  (mapFind (s.rd fLEAT_TXMAP_MAP k) i).map fun y => laneShare (s.txWidth k) y unit

end Sys2Proof.Machine
end

