-- ==== Sys2Proof/WellFormed.lean ====
section
/-! DEFINITION. Well-formed commands: every operand names a unit that the device has, and every field fits its width.  The meaning of
a command that is not well formed is the fault `noSuchUnit`. -/

namespace Sys2Proof

open Sys2Proof.Machine

/-- The operands of a command are in range. -/
def Instr.wf (i : Instr) : Bool :=
  match i with
  | .registerWrite node port a val ev => decide (node < 16 ∧ port < 64 ∧ val < (if a.wide then 2 ^ 64 else 2 ^ 32) ∧ ev < 2 ^ 32)
  | .registerReadClear node port _ ev => decide (node < 16 ∧ port < 64 ∧ ev < 2 ^ 32)
  | .registerHalfLatchRead node port _ => decide (node < 16 ∧ port < 64)
  | .vddAuxLost => true
  | .vddAuxRestored => true
  | .pwrgdLow => true
  | .pwrgdGlitch => true
  | .gateDischargeEnd => true
  | .pwrgdRise prog => prog.all fun e => decide (e.1 < 2 ∧ e.2.1 < 2 ^ 26)
  | .railHoldEnd => true
  | .strapTestSourceOn => true
  | .strapSample pins => decide (pins < 2 ^ 15)
  | .strapResolve => true
  | .pllLock => true
  | .sramClearDone bad => decide (bad < 4)
  | .t1sPhyJoin seg => decide (seg < 2)
  | .calibrationDone tile => isTile tile
  | .spillwayArm => true
  | .slotWave v => decide (v < 8)
  | .portWave w tile => decide (w < 8) && tile.all isTile
  | .leatWave tile => tile.all isTile
  | .warmRstPin _ => true
  | .warmResetReq val => decide (val < 2 ^ 32)
  | .tileResetReq val => decide (val < 2 ^ 32)
  | .warmResetEnd => true
  | .tileResetEnd tile => isTile tile
  | .culvertRetrained tile => isTile tile
  | .railWarning rail _ => decide (rail < 6)
  | .railFault rail _ => decide (rail < 6)
  | .clockLoss dom => decide (328 ≤ dom ∧ dom < 352)
  | .clockPresent dom => decide (328 ≤ dom ∧ dom < 352)
  | .pwrDomctlWrite n val => decide (n < 84 ∧ val < 2 ^ 32)
  | .domainPowerUpDone n => isDomain n
  | .headerSwitchOpen n => isDomain n
  | .perstInAssert p => isPort p
  | .perstInRelease p => isPort p
  | .perstOutRelease p => isPort p
  | .configRequest p r => isPort p && r.m.src == p && (match r.fn with
      | .vppb i => decide (i < 32)
      | .vf j => decide (j < 8193)
      | _ => true) && decide (r.wr.getD 0 < 2 ^ 32)
  | .crsLate p => isPort p
  | .profileApply val => decide (val < 2 ^ 32)
  | .profileClosed => true
  | .profileDrained => true
  | .profileRecallDone => true
  | .profileInitDone => true
  | .profileSwitched => true
  | .profileChangeTimeout => true
  | .profileRollbackDone => true
  | .culvertBeatCrcFail tile => isTile tile
  | .culvertWireSpare tile bundle => isTile tile && decide (bundle < 16)
  | .culvertBundleRetire tile bundle => isTile tile && decide (bundle < 16)
  | .comparatorFire => true
  | .ppsEdge _ _ _ => true
  | .ppsLoss _ => true
  | .todMessage _ _ _ _ => true
  | .todByteGap _ => true
  | .ftSetarm val => decide (val < 2 ^ 32)
  | .ftForcestep val => decide (val < 2 ^ 32)
  | .holdoverLimit => true
  | .serLctlWrite l val => isLane l && decide (val < 2 ^ 32)
  | .laneEnergyDetect l => isLeatLane l
  | .laneCdrLock l => isLeatLane l
  | .laneCdrTimeout l => isLeatLane l
  | .laneMarkerReceive l w offset _ _ => isLeatLane l && decide (w < 2 ^ 48 ∧ offset < blockSymbols)
  | .laneMarkerMissing l => isLeatLane l
  | .laneAlignTimeout l => isLeatLane l
  | .laneEqApply l => isLeatLane l
  | .laneEqTimeout l => isLeatLane l
  | .laneDeskewDone l _ => isLeatLane l
  | .laneDeskewTimeout l => isLeatLane l
  | .laneCdrLoss l => isLeatLane l
  | .laneStuffViolation l _ => isLeatLane l
  | .portLaneCdrLoss l => decide (l < 256)
  | .serSlip l val => isLane l && decide (val < 2 ^ 32)
  | .serPrbsctlWrite l val => isLane l && decide (val < 2 ^ 32)
  | .eyeScanStart l val => isLane l && decide (val < 2 ^ 32)
  | .eyeScanDone l _ _ => isLane l
  | .portConfigWrite p val => isPort p && decide (val < 2 ^ 32)
  | .portLinkUp p width r _ _ w => isPort p && decide (width < 32 ∧ r.rate < 8 ∧ w.inv < 2 ^ 16)
  | .portDlDown p => isPort p
  | .hotResetReceived p _ => isPort p
  | .flrPf p => isPort p
  | .flrVf p vf => isPort p && decide (vf < 8193)
  | .vfEnable p _ numVfs => isPort p && decide (numVfs < 65536)
  | .prtTiblkWrite p val => isPort p && decide (val < 2 ^ 32)
  | .prtSlotcfgWrite p val => isPort p && decide (val < 2 ^ 32)
  | .fmApiCommand p opcode _ => isPort p && decide (opcode < 65536)
  | .bindVppb p vcs vppb kind port ld node =>
    isPort p && isBridge vcs vppb && decide (kind < 4 ∧ port < 64 ∧ ld < 16 ∧ node < 16)
  | .bindComplete vcs vppb => isBridge vcs vppb
  | .unbindWaitLinkDown p vcs vppb => isPort p && isBridge vcs vppb
  | .unbindManagedHotRemove p vcs vppb => isPort p && isBridge vcs vppb
  | .unbindSurpriseHotRemove p vcs vppb => isPort p && isBridge vcs vppb
  | .unbindComplete vcs vppb => isBridge vcs vppb
  | .unbindTimeout vcs vppb => isBridge vcs vppb
  | .bindRspTimeout vcs vppb => isBridge vcs vppb
  | .apvelTransact p _ _ _ => isPort p
  | .getWaterlogRecords p start count => isPort p && decide (start < 2 ^ 64 ∧ count < 2 ^ 16)
  | .getFabricTime p => isPort p
  | .getPortReadiness p => isPort p
  | .presenceChange p _ => isPort p
  | .attentionButtonPress p => isPort p
  | .powerControllerOn vcs vppb => isBridge vcs vppb && decide (0 < vppb)
  | .powerControllerOff vcs vppb => isBridge vcs vppb && decide (0 < vppb)
  | .indicatorWrite vcs vppb attn pwri => isBridge vcs vppb && decide (0 < vppb ∧ attn < 4 ∧ pwri < 4)
  | .powerFaultClear vcs vppb => isBridge vcs vppb && decide (0 < vppb)
  | .prtSlotctlWrite p val => isPort p && decide (val < 2 ^ 32)
  | .l1Entry p _ sub => isPort p && decide (sub < 3)
  | .l1Exit p => isPort p
  | .clkreqPartnerAssert p => isPort p
  | .leatCtlWrite k val => isLink k && decide (val < 2 ^ 32)
  | .leatRetrainCmd k val => isLink k && decide (val < 2 ^ 32)
  | .leatDataReceive k hdr trl _ => isLink k && decide (hdr < 2 ^ 32 ∧ trl < 2 ^ 32)
  | .leatIdleReceive k hdr trl => isLink k && decide (hdr < 2 ^ 32 ∧ trl < 2 ^ 32)
  | .leatAckReceive k hdr trl _ _ => isLink k && decide (hdr < 2 ^ 32 ∧ trl < 2 ^ 32)
  | .leatInitReceive k lane hdr trl _ _ => isLink k && decide (lane < 9 ∧ hdr < 2 ^ 32 ∧ trl < 2 ^ 32)
  | .leatUnitCrcFail k bytes => isLink k && decide (bytes.length = 256)
  | .spareReq k hdr trl y => isLink k && decide (hdr < 2 ^ 32 ∧ trl < 2 ^ 32 ∧ y < 8)
  | .retrainReq k hdr trl cause => isLink k && decide (hdr < 2 ^ 32 ∧ trl < 2 ^ 32 ∧ cause < 256)
  | .portreset k hdr trl port _ => mgmtOk k hdr trl port 0
  | .bindClaim k hdr trl port ld vcs => mgmtOk k hdr trl port ld && decide (vcs < 256)
  | .bindRsp k hdr trl port ld _ => mgmtOk k hdr trl port ld
  | .unbind k hdr trl port ld => mgmtOk k hdr trl port ld
  | .lpReq k hdr trl => isLink k && decide (hdr < 2 ^ 32 ∧ trl < 2 ^ 32)
  | .lpAck k hdr trl => isLink k && decide (hdr < 2 ^ 32 ∧ trl < 2 ^ 32)
  | .leatAckTimer k _ => isLink k
  | .leatReplayTimeout k => isLink k
  | .leatLanesReady k => isLink k
  | .leatDegradedWaitExpire k _ => isLink k
  | .leatTrainingTimeout k => isLink k
  | .leatRetrainIdleEnd k => isLink k
  | .leatRetrainTimeout k => isLink k
  | .leatDownRetry k => isLink k
  | .spareReqRepeat k y => isLink k && decide (y < 8)
  | .leatDozeIdle k => isLink k
  | .leatWake k => isLink k
  | .coreMessageEnqueue x sel _ _ err => decide (x < 72 ∧ sel < 3 ∧ err < 4)
  | .egressSchedule x _ err cell => decide (x < 93 ∧ err < 9 ∧ cell < 5242880)
  | .messageDepart x => decide (x < 93)
  | .turnoutAgeSweep => true
  | .groupCommit g val => decide (g < 4096 ∧ val < 2 ^ 32)
  | .mirrorSessionWrite k word val => decide (k < 8 ∧ word < 11 ∧ val < 2 ^ 32)
  | .egressStall x => decide (x < 72)
  | .cellAudit => true
  | .rds m _ => wmOk m
  | .rdown m _ => wmOk m
  | .upgr m _ => wmOk m
  | .rdcur m _ => wmOk m
  | .wrfull m _ => wmOk m
  | .wrpart m _ => wmOk m
  | .wbI m _ => wmOk m
  | .wbS m _ => wmOk m
  | .wbE m _ => wmOk m
  | .evc m _ => wmOk m
  | .oAgeSweep _ => true
  | .snoopResponse m => wmOk m
  | .poolReadData line data _ => decide (line < 2 ^ 46 ∧ data < 2 ^ 512)
  | .poolWriteComplete line => decide (line < 2 ^ 46)
  | .poolAccessFail line _ => decide (line < 2 ^ 46)
  | .holdWindowEnd line agent => decide (line < 2 ^ 46 ∧ agent < 72)
  | .snoopTimeout line agent => decide (line < 2 ^ 46 ∧ agent < 72)
  | .nakReceived r => decide (r < 216)
  | .nakRetry r => decide (r < 216)
  | .reservationExpire line => decide (line < 2 ^ 46)
  | .agentPurgeDone a => decide (a < 72)
  | .wmCmpReceive m => wmOk m
  | .wmNakReceive m => wmOk m
  | .wmRefuseReceive m => wmOk m
  | .snpinv m => wmOk m
  | .snpdata m => wmOk m
  | .snpcur m => wmOk m
  | .regionEnable n val => decide (n < 64 ∧ val < 2 ^ 32)
  | .regionRecall n val => decide (n < 64 ∧ val < 2 ^ 32)
  | .regionRecallDone n => decide (n < 64)
  | .tableLoad val _ => decide (val < 2 ^ 32)
  | .tableSwitch => true
  | .tableLoadDrainTimeout => true
  | .tableCrcCheck tab => decide (tab < 4)
  | .scrubSet sl _ => decide (sl < 16)
  | .suspectClear val => decide (val < 2 ^ 32)
  | .snfDiagRead val err => decide (val < 2 ^ 32 ∧ err < 4)
  | .hdmCommitDone p _ _ => decide (p < 64)
  | .hdmDecoderCommit p d _ _ _ _ _ _ => decide (p < 64 ∧ d < 16)
  | .poolportWrite k val => decide (k < 2 ∧ val < 2 ^ 32)
  | .mapidxWrite val => decide (val < 2 ^ 32)
  | .mapGrant val err => decide (val < 2 ^ 32 ∧ err < 4)
  | .mapRelease val err => decide (val < 2 ^ 32 ∧ err < 4)
  | .mapTimedApply => true
  | .zeroingDone idx _ => decide (idx < 2 ^ 18)
  | .releaseDrainEnd => true
  | .shareGroupWrite val => decide (val < 2 ^ 32)
  | .addDynamicCapacity p ld _ _ => decide (p < 64 ∧ ld < 16)
  | .dcdReleaseRequest p ld _ _ => decide (p < 64 ∧ ld < 16)
  | .dcdForcedRemoval p ld _ _ => decide (p < 64 ∧ ld < 16)
  | .windowCommit p val => decide (p < 64 ∧ val < 2 ^ 32)
  | .windowShadowRefreshed p => decide (p < 64)
  | .windowDrainEnd p => decide (p < 64)
  | .chkRuleStore val => decide (val < 2 ^ 32)
  | .chkStagingClear val => decide (val < 2 ^ 32)
  | .chkCommit val => decide (val < 2 ^ 32)
  | .chkValidationDone => true
  | .chkWithdraw val => decide (val < 2 ^ 32)
  | .chkEpochApply => true
  | .chkDrainEnd g => decide (g < 65)
  | .chkStagingRewriteDone g => decide (g < 65)
  | .chkScrub g err => decide (g < 65 ∧ err < 4)
  | .runRctx0Write val => decide (val < 2 ^ 32)
  | .ringDoorbell ti k val => decide (ti < 8192 ∧ k < 16 ∧ val < 2 ^ 32)
  | .ringEnable ti k val => decide (ti < 8192 ∧ k < 16 ∧ val < 2 ^ 32)
  | .ringDisable ti k val => decide (ti < 8192 ∧ k < 16 ∧ val < 2 ^ 32)
  | .ringResume ti k val => decide (ti < 8192 ∧ k < 16 ∧ val < 2 ^ 32)
  | .ringStopped ring => isRing ring
  | .ringCfgWrite ti k off val => decide (ti < 8192 ∧ k < 16 ∧ val < 2 ^ 32) && [0x08, 0x0C, 0x10, 0x14, 0x18].contains off
  | .cqheadWrite ti k val => decide (ti < 8192 ∧ k < 16 ∧ val < 2 ^ 32)
  | .descriptorFetchDone ring _ ds => isRing ring && ds.all fun d => decide (d < 2 ^ 512)
  | .nop ring => isRing ring
  | .copy ring => isRing ring
  | .fill ring => isRing ring
  | .writei ring => isRing ring
  | .writeiMcast ring => isRing ring
  | .load ring => isRing ring
  | .atomicFadd8 ring => isRing ring
  | .atomicSwap8 ring => isRing ring
  | .atomicCas8 ring => isRing ring
  | .atomicCas16 ring => isRing ring
  | .barrier ring => isRing ring
  | .wcIdleIssue _ _ => true
  | .admitNotice _ _ _ _ _ wto => decide (wto < 256)
  | .runnelWriteAck _ status => isCause status
  | .runnelReadData _ status _ _ => isCause status
  | .runnelWriteTimeout _ => true
  | .runnelReadTimeout _ => true
  | .runPauseWrite val => decide (val < 2 ^ 32)
  | .runEnableWrite val => decide (val < 2 ^ 32)
  | .tokenRefill _ _ => true
  | .shaperCommit ti _ => decide (ti < 8192)
  | .classShaperCommit x t _ => decide (x < 72 ∧ t < 8)
  | .rotationCommit x _ => decide (x < 72)
  | .rotationCancel x _ => decide (x < 72)
  | .rotationActivate x => decide (x < 72)
  | .rotationCycleStart x => decide (x < 72)
  | .gateChange x => decide (x < 72)
  | .rotenWrite x _ => decide (x < 72)
  | .quiesce val => decide (val < 2 ^ 32)
  | .resume val => decide (val < 2 ^ 32)
  | .reset val => decide (val < 2 ^ 32)
  | .quiesceComplete ti => isTi ti
  | .quiesceTimeout ti => isTi ti
  | .instanceResetComplete ti => isTi ti
  | .unplannedResetTimeout ti => isTi ti
  | .ringStoppingTimeout ring => isRing ring
  | .instanceFault ti => isTi ti
  | .mailboxDoorbell ti val => decide (ti < 8192 ∧ val < 2 ^ 32)
  | .mailboxAck ti val => decide (ti < 8192 ∧ val < 2 ^ 32)
  | .mailboxDone val => decide (val < 2 ^ 32)
  | .mailboxTimeout ti => isTi ti
  | .tenNoticeWrite val => decide (val < 2 ^ 32)
  | .contextSave val => decide (val < 2 ^ 32)
  | .contextLoad val => decide (val < 2 ^ 32)
  | .contextTransferDone => true
  | .logEnable val => decide (val < 2 ^ 32)
  | .logDisable val => decide (val < 2 ^ 32)
  | .logFlip val => decide (val < 2 ^ 32)
  | .logFlipDone ti => isTi ti
  | .logCacheEvict ti buf _ => isTi ti && decide (buf < 2)
  | .boundaryDrainDone n => isDomain n
  | .boundaryDrainTimeout n => isDomain n
  | .acqWedge node port vc => decide (node < 64 ∧ port < 5 ∧ (vc = 2 ∨ vc = 3))
  | .acqHeaderFault node port e => decide (node < 64 ∧ port < 5 ∧ e.vc < 4)
  | .acqProbeWrite p word _ => decide (p < 8 ∧ word < 6)
  | .runnelStatsSnap _ => true
  | .sourceRaise src => isSource src
  | .sourceQuiet src => isSource src
  | .quietPeriodEnd src => isSource src
  | .stickyClear word val => decide (word < 32 ∧ val < 2 ^ 32)
  | .flapWindowClear => true
  | .wireFault src => decide (src < 1024) && railed src
  | .wireTest => true
  | .wireTestEnd src _ _ => src.all isSource
  | .collectorMismatch srcs codes =>
    srcs.all isSource && codes.all fun e => isSource e.1 && ((srcUnit e.1).any fun u => u.admits e.2)
  | .collectorRateChange _ => true
  | .spwInject val => decide (val < 2 ^ 32)
  | .spwMaskWrite word val => decide (word < 32 ∧ val < 2 ^ 32)
  | .spwRctWrite src val => decide (src < 1024 ∧ val < 2 ^ 32)
  | .deviceCplTimeout p tag => decide (p < 64 ∧ tag < 2 ^ 64)
  | .feedBad n _ c => decide (n < 4 ∧ c < 4096)
  | .feedGood n _ c => decide (n < 4 ∧ c < 4096)
  | .feedMake j => isSlot j
  | .feedReturn j => isSlot j
  | .slotPresent j _ => isSlot j
  | .slotAbsent j => isSlot j
  | .sluCfgWrite j val => isSlot j && decide (val < 2 ^ 32)
  | .sluOn j val => isSlot j && decide (val < 2 ^ 32)
  | .sluOff j val => isSlot j && decide (val < 2 ^ 32)
  | .sluClrflt j val => isSlot j && decide (val < 2 ^ 32)
  | .sluClriso j val _ => isSlot j && decide (val < 2 ^ 32)
  | .rampPlaceFree j => isSlot j
  | .rampSegmentEnd j vout cur => isSlot j && decide (vout < 4096 ∧ cur < 4096)
  | .rampTimeout j => isSlot j
  | .powerGood j vout cur vin => isSlot j && decide (vout < 4096 ∧ cur < 4096 ∧ vin < 4096)
  | .stoppingEnd j => isSlot j
  | .fastTrip j cur => isSlot j && decide (cur < 65536)
  | .slowTrip j k cur => isSlot j && decide (k < 4 ∧ cur < 4096)
  | .underVoltage j vout => isSlot j && decide (vout < 4096)
  | .overVoltage j vout => isSlot j && decide (vout < 4096)
  | .passFetDamage j vout => isSlot j && decide (vout < 4096)
  | .flumeSnapshot errs => errs.all fun e => decide (e.1 < 12288 + 256)
  | .flmSnap val => decide (val < 2 ^ 32)
  | .dumpBodyProven r => decide (r < 2)
  | .dumpComplete r => decide (r < 2)
  | .dumpFail r => decide (r < 2)
  | .dumpLate r => decide (r < 2)
  | .flmZero val => decide (val < 2 ^ 32)
  | .flmEvtWrite c word val => decide (8448 ≤ c ∧ c < 12288 ∧ word < 2 ∧ val < 2 ^ 32)
  | .flmFiltWrite f word val => decide (f < 256 ∧ word < 8 ∧ val < 2 ^ 32)
  | .flmRingWrite r word val => decide (r < 2 ∧ word < 8 ∧ val < 2 ^ 32)
  | .dictRead seg mac _ _ _ => frameOk seg mac
  | .dictWrite seg mac _ _ _ _ => frameOk seg mac
  | .broadcastReply => true
  | .commandTimeout => true
  | .domainTransferTimeout orig => decide (orig < 256)
  | .notificationAck seg mac _ => frameOk seg mac
  | .notificationResend slot tag => decide (slot < 64 ∧ tag < 2 ^ 16)
  | .warmreset c val => callerOk c && decide (val < 256)
  | .tilereset c val => callerOk c && decide (val < 256)
  | .enterStandby c => callerOk c
  | .enterOperational c => callerOk c
  | .epochcancel c seq => callerOk c && decide (seq < 2 ^ 64)
  | .configEpochApply => true
  | .batch c _ entries =>
    callerOk c && decide (entries.length ≤ 127) && entries.all fun e => decide (e.1 < 2 ^ 32 ∧ e.2 < 2 ^ 32)
  | .debug c space _ addr n data => callerOk c && decide (space < 256 ∧ addr < 2 ^ 64 ∧ n < 2 ^ 16 ∧ data.length ≤ 1012)
  | .lockClaim c val => callerOk c && decide (val < 256)
  | .lockLapse => true
  | .precedence c val => callerOk c && decide (val < 256)
  | .swclear c val => callerOk c && decide (val < 256)
  | .cknow c val => callerOk c && decide (val < 256)
  | .checkpointTimer => true
  | .checkpointDone _ => true
  | .tenderRestart => true
  | .bootSlotTry _ _ => true
  | .stage2Loaded _ => true
  | .imageSegmentWrite c _ off _ data => callerOk c && decide (off < 2 ^ 32 ∧ data.length ≤ 1024)
  | .verifya c => callerOk c
  | .verifyb c => callerOk c
  | .activatea c => callerOk c
  | .activateb c => callerOk c
  | .commit c => callerOk c
  | .bootnowa c _ => callerOk c
  | .bootnowb c _ => callerOk c
  | .fwVerifyDone _ => true
  | .trialExpire => true
  | .svn c val _ _ => callerOk c && decide (val < 256)
  | .challenge c => callerOk c
  | .unlock c bytes _ => callerOk c && decide (bytes.length ≤ 1024)
  | .relock c => callerOk c
  | .openExpire => true
  | .retire c val => callerOk c && decide (val < 2 ^ 32)
  | .tapReset => true
  | .extest pins upd => decide (pins < 2 ^ chainCells ∧ upd < 2 ^ chainCells)
  | .idcode => true
  | .samplePreload pins upd => decide (pins < 2 ^ chainCells ∧ upd < 2 ^ chainCells)
  | .clamp tdi n => decide (tdi < 2 ^ n)
  | .highz tdi n => decide (tdi < 2 ^ n)
  | .bypass code tdi n => decide (code < 256 ∧ tdi < 2 ^ n) && !tapCode code
  | .sysacc dr => decide (dr < 2 ^ 112)
  | .jtagChallenge => true
  | .jtagUnlock bits _ => decide (bits < 2 ^ 2048)
  | .junctionWarning temp sensor => tempOk temp sensor
  | .junctionTrip temp sensor => tempOk temp sensor
  | .hotResetEnd p => isPort p
  | .tenderRestartDone => true
  | .badframe seg mac _ _ _ => frameOk seg mac
  | .prbsCheckerLock l _ => isLane l
  | .ratePairFault driver => decide (driver < 5)
  | .logBufferCompletion _ _ _ => true
  | .flashProgramDone _ _ => true

end Sys2Proof
end

