-- ==== Sys2Proof/Safety.lean ====
section
/-! DEFINITION. What claims call a sound state and a safe queue: the canonical form of the register store, and a queue whose commands
are all well formed. -/

namespace Sys2Proof.Machine

/-- A register store in its canonical form: fields by strictly rising key, none without an instance, and the instances of each by
strictly rising number. -/
def canonRegs (m : SMap (SMap Nat)) : Bool := SMap.wf [] m && m.all fun e => SMap.rising none e.2

/-- Every waiting command is well formed. -/
def State.queueWf (s : State) : Bool := s.pending.all Instr.wf

/-- A sound state: the register store is canonical, and every waiting command is well formed. -/
abbrev State.Sound (s : State) : Prop := canonRegs s.regs = true ∧ s.queueWf = true

/-- The machine goes on: the step from `s` answers a next state. -/
def State.Runs (s : State) : Prop := ∃ t, step s = .next t

/-! ### Parts of the state, and what lies outside them

A frame names the parts of the state that a command may change; the state outside them is the same before and after. -/

/-- The parts of the state: what the block has sent, the model's count of free values, each unit's own state, and the registers of each
window (R21; the two VF BARs, and together the DVSEC and the MSI-X tables of PFs, stand beside the windows). -/
inductive Part where
  | out | free | latch | stage | pwr | ft | arch | spw | flm | acq | lanes | leat | flows | swc | weir | xlt | chk
  | wm | run | ten | prt | slots | tnd | notices | subscr | kinds | noticeTag | node | ustore | colds | boot | tap
  | rARCH | rSWC | rPKG | rRSV | rPWR | rTRN | rFT | rWM | rSER | rSNF | rPRT | rXLT | rLEAT | rCHK | rWEIR | rRUN
  | rTEN | rACQ | rSPW | rSLU | rFLM | rTND | rWLG | rBOOT | rVFMB | rVFRING | rDVSEC
  deriving DecidableEq, Repr

/-- The bit of a part in a set of parts. -/
def Part.bit : Part → Nat
  | .out => 1 | .free => 2 | .latch => 4 | .stage => 5 | .pwr => 6 | .ft => 7 | .arch => 8 | .spw => 9 | .flm => 10
  | .acq => 11 | .lanes => 12 | .leat => 13 | .flows => 14 | .swc => 15 | .weir => 16 | .xlt => 17 | .chk => 18
  | .wm => 19 | .run => 20 | .ten => 21 | .prt => 22 | .slots => 23 | .tnd => 24 | .notices => 25 | .subscr => 26
  | .kinds => 27 | .noticeTag => 28 | .node => 29 | .ustore => 30 | .colds => 31 | .boot => 32 | .tap => 33
  | .rARCH => 34 | .rSWC => 35 | .rPKG => 36 | .rRSV => 37 | .rPWR => 38 | .rTRN => 39 | .rFT => 40 | .rWM => 41
  | .rSER => 42 | .rSNF => 43 | .rPRT => 44 | .rXLT => 45 | .rLEAT => 46 | .rCHK => 47 | .rWEIR => 48 | .rRUN => 49
  | .rTEN => 50 | .rACQ => 51 | .rSPW => 52 | .rSLU => 53 | .rFLM => 54 | .rTND => 55 | .rWLG => 56 | .rBOOT => 57
  | .rVFMB => 58 | .rVFRING => 59 | .rDVSEC => 60

/-- A set of parts, as a number with their bits. -/
def partSet : List Part → Nat
  | [] => 0
  | p :: ps => 2 ^ p.bit ||| partSet ps

/-- The bit of the window that a field key lies in. -/
def windowBit (key : Nat) : Nat :=
  if key / 2 ^ 25 < 24 then 34 + key / 2 ^ 25 else 58 + min 2 (key / 2 ^ 41 - 1)

/-- The state with every part of `w` blanked out: two states that agree here differ in the parts of `w` alone.  The queue is never
blanked. -/
def State.outside (w : Nat) (s : State) : State :=
  { pending := s.pending
    regs := s.regs.filter fun e => !w.testBit (windowBit e.1)
    out := if w.testBit 1 then [] else s.out
    free := if w.testBit 2 then 0 else s.free
    latch := if w.testBit 4 then [] else s.latch
    stage := if w.testBit 5 then [] else s.stage
    pwr := if w.testBit 6 then {} else s.pwr
    ft := if w.testBit 7 then {} else s.ft
    arch := if w.testBit 8 then {} else s.arch
    spw := if w.testBit 9 then {} else s.spw
    flm := if w.testBit 10 then {} else s.flm
    acq := if w.testBit 11 then {} else s.acq
    lanes := if w.testBit 12 then [] else s.lanes
    leat := if w.testBit 13 then [] else s.leat
    flows := if w.testBit 14 then [] else s.flows
    swc := if w.testBit 15 then {} else s.swc
    weir := if w.testBit 16 then {} else s.weir
    xlt := if w.testBit 17 then {} else s.xlt
    chk := if w.testBit 18 then {} else s.chk
    wm := if w.testBit 19 then {} else s.wm
    run := if w.testBit 20 then {} else s.run
    ten := if w.testBit 21 then {} else s.ten
    prt := if w.testBit 22 then {} else s.prt
    slots := if w.testBit 23 then [] else s.slots
    tnd := if w.testBit 24 then {} else s.tnd
    notices := if w.testBit 25 then [] else s.notices
    subscr := if w.testBit 26 then 0 else s.subscr
    kinds := if w.testBit 27 then 0x3F else s.kinds
    noticeTag := if w.testBit 28 then 0 else s.noticeTag
    node := if w.testBit 29 then none else s.node
    ustore := if w.testBit 30 then [] else s.ustore
    colds := if w.testBit 31 then 0 else s.colds
    boot := if w.testBit 32 then {} else s.boot
    tap := if w.testBit 33 then {} else s.tap }

/-- Every part of the state. -/
def allParts : List Part :=
  [.out, .free, .latch, .stage, .pwr, .ft, .arch, .spw, .flm, .acq, .lanes, .leat, .flows, .swc, .weir, .xlt, .chk,
   .wm, .run, .ten, .prt, .slots, .tnd, .notices, .subscr, .kinds, .noticeTag, .node, .ustore, .colds, .boot, .tap,
   .rARCH, .rSWC, .rPKG, .rRSV, .rPWR, .rTRN, .rFT, .rWM, .rSER, .rSNF, .rPRT, .rXLT, .rLEAT, .rCHK, .rWEIR, .rRUN,
   .rTEN, .rACQ, .rSPW, .rSLU, .rFLM, .rTND, .rWLG, .rBOOT, .rVFMB, .rVFRING, .rDVSEC]

/-- Every part but those of `ps`. -/
def allBut (ps : List Part) : List Part := allParts.filter fun p => !ps.contains p

/-- The parts of the Runnel and what it sends. -/
def runnelParts : List Part :=
  [.out, .spw, .flm, .acq, .leat, .swc, .weir, .run, .ten, .tnd, .notices, .noticeTag, .tap, .rSWC, .rRSV, .rTRN,
   .rPRT, .rXLT, .rLEAT, .rCHK, .rRUN, .rTEN, .rACQ, .rTND, .rVFRING]

/-- The parts of a slot that loses or gains its power. -/
def slotParts : List Part :=
  [.out, .spw, .flm, .leat, .swc, .weir, .wm, .prt, .notices, .noticeTag, .rSWC, .rRSV, .rPWR, .rTRN, .rWM, .rPRT,
   .rXLT, .rLEAT, .rWEIR, .rACQ, .rSLU, .rFLM, .rTND]

/-- The parts of a Leat link and what it delivers. -/
def leatParts : List Part :=
  [.out, .spw, .flm, .lanes, .leat, .flows, .swc, .wm, .notices, .noticeTag, .rSWC, .rRSV, .rTRN, .rWM, .rSER,
   .rPRT, .rXLT, .rLEAT, .rACQ, .rFLM, .rTND]

/-- The parts of a port that goes down. -/
def portParts : List Part :=
  [.out, .spw, .flm, .leat, .swc, .weir, .xlt, .wm, .run, .ten, .prt, .notices, .noticeTag, .rSWC, .rRSV, .rTRN,
   .rWM, .rPRT, .rXLT, .rLEAT, .rWEIR, .rRUN, .rTEN, .rACQ, .rFLM, .rTND, .rVFMB, .rVFRING]

/-- The parts of the Watermaster and what it sends. -/
def homeParts : List Part :=
  [.out, .spw, .flm, .leat, .swc, .wm, .notices, .noticeTag, .rSWC, .rRSV, .rTRN, .rWM, .rPRT, .rXLT, .rLEAT, .rACQ,
   .rTND]

/-- The parts of a record that the Runnel writes to memory. -/
def traceParts : List Part :=
  [.out, .spw, .flm, .leat, .swc, .tnd, .notices, .noticeTag, .tap, .rSWC, .rRSV, .rTRN, .rPRT, .rLEAT, .rCHK,
   .rACQ, .rTND]

/-- The parts of a message through the core. -/
def coreParts : List Part :=
  [.out, .spw, .flm, .leat, .swc, .notices, .noticeTag, .rRSV, .rTND]

/-- The parts of the state that a command may change; it changes nothing else. -/
def commandParts : Instr → List Part
  | .registerWrite .. | .comparatorFire | .ppsEdge .. | .ppsLoss .. | .todMessage .. | .ftSetarm .. | .ftForcestep .. |
    .holdoverLimit | .apvelTransact .. | .messageDepart .. | .mapTimedApply | .chkEpochApply | .tokenRefill .. | .rotationActivate
    .. | .rotationCycleStart .. | .gateChange .. | .flumeSnapshot .. | .dictRead .. | .dictWrite .. | .commandTimeout |
    .notificationAck .. | .warmreset .. | .tilereset .. | .enterStandby .. | .enterOperational .. | .epochcancel .. |
    .configEpochApply | .batch .. | .debug .. | .lockClaim .. | .precedence .. | .swclear .. | .cknow .. | .tenderRestart |
    .imageSegmentWrite .. | .verifya .. | .verifyb .. | .activatea .. | .activateb .. | .commit .. | .bootnowa .. | .bootnowb .. |
    .svn .. | .challenge .. | .unlock .. | .relock .. | .retire .. | .badframe .. | .flashProgramDone .. => allBut [.colds]
  | .registerReadClear .. | .registerHalfLatchRead .. => [.out, .latch, .spw, .flm, .swc, .tnd, .tap, .rARCH, .rSWC, .rPKG, .rRSV,
    .rPWR, .rTRN, .rFT, .rWM, .rSER, .rSNF, .rPRT, .rXLT, .rLEAT, .rCHK, .rWEIR, .rRUN, .rTEN, .rACQ, .rSPW, .rSLU, .rFLM, .rTND,
    .rWLG, .rBOOT, .rVFMB, .rVFRING, .rDVSEC]
  | .vddAuxLost | .pwrgdLow => allBut [.out, .free]
  | .vddAuxRestored | .gateDischargeEnd | .strapTestSourceOn | .strapSample .. => [.pwr]
  | .pwrgdGlitch => [.rPKG]
  | .pwrgdRise .. => [.out, .pwr, .spw, .flm, .lanes, .leat, .flows, .swc, .weir, .xlt, .wm, .run, .ten, .prt, .notices,
    .noticeTag, .boot, .rSWC, .rRSV, .rPWR, .rTRN, .rWM, .rSER, .rPRT, .rXLT, .rLEAT, .rWEIR, .rRUN, .rTEN, .rACQ, .rFLM, .rTND,
    .rVFMB, .rVFRING, .rDVSEC]
  | .railHoldEnd => [.out, .pwr, .spw, .flm, .lanes, .leat, .flows, .swc, .weir, .xlt, .wm, .run, .ten, .prt, .notices,
    .noticeTag, .rSWC, .rRSV, .rPWR, .rTRN, .rWM, .rSER, .rPRT, .rXLT, .rLEAT, .rWEIR, .rRUN, .rTEN, .rACQ, .rFLM, .rTND, .rVFMB,
    .rVFRING, .rDVSEC]
  | .strapResolve => [.pwr, .rPKG, .rPWR]
  | .pllLock => [.pwr, .ft, .rARCH, .rPWR]
  | .sramClearDone .. => [.pwr, .tnd, .boot, .rPWR, .rWLG, .rBOOT]
  | .t1sPhyJoin .. => [.rTND]
  | .calibrationDone .. => [.rPWR, .rSER]
  | .spillwayArm => allBut [.free, .latch, .stage, .ft, .subscr, .kinds, .node, .ustore, .colds, .boot, .rPKG, .rFT]
  | .slotWave .. | .rampPlaceFree .. => [.prt, .slots, .rPRT, .rSLU]
  | .portWave .. => [.out, .pwr, .notices, .noticeTag, .rPWR, .rTND, .rDVSEC]
  | .leatWave .. => [.lanes, .leat, .rPWR, .rSER, .rLEAT]
  | .warmRstPin .. | .warmResetReq .. => allBut [.free, .latch, .stage, .ft, .arch, .subscr, .kinds, .node, .ustore, .colds,
    .boot, .rPKG, .rFT, .rSLU]
  | .tileResetReq .. => leatParts ++ [.pwr, .weir, .xlt, .chk, .run, .ten, .prt, .rARCH, .rPWR, .rSNF, .rCHK, .rWEIR, .rRUN,
    .rTEN, .rSPW, .rVFMB, .rVFRING, .rDVSEC]
  | .warmResetEnd | .tileResetEnd .. | .perstInAssert .. | .perstInRelease .. => portParts ++ [.pwr, .lanes, .flows, .rPWR, .rSER,
    .rDVSEC]
  | .culvertRetrained .. => [.pwr, .spw]
  | .railWarning .. | .railFault .. | .junctionWarning .. => [.spw, .rPWR]
  | .clockLoss .. => homeParts ++ [.pwr, .ft, .lanes, .flows, .weir, .xlt, .run, .ten, .prt, .rPWR, .rSER, .rWEIR, .rRUN, .rTEN,
    .rFLM, .rVFMB, .rVFRING, .rDVSEC]
  | .clockPresent .. | .crsLate .. => [.pwr, .spw, .rPWR]
  | .pwrDomctlWrite .. => [.pwr, .rPWR, .rACQ]
  | .domainPowerUpDone .. => [.lanes, .leat, .rPWR, .rSER, .rLEAT, .rACQ]
  | .headerSwitchOpen .. => [.lanes, .rPWR, .rSER, .rACQ]
  | .perstOutRelease .. => [.rPWR]
  | .configRequest .. => [.out, .latch, .swc, .prt, .rARCH, .rSWC, .rPKG, .rRSV, .rPWR, .rTRN, .rFT, .rWM, .rSER, .rSNF, .rPRT,
    .rXLT, .rLEAT, .rCHK, .rWEIR, .rRUN, .rTEN, .rACQ, .rSPW, .rSLU, .rFLM, .rTND, .rWLG, .rBOOT, .rVFMB, .rVFRING, .rDVSEC]
  | .fmApiCommand .. | .getWaterlogRecords .. | .getFabricTime .. | .getPortReadiness .. => [.out]
  | .profileApply .. => runnelParts ++ [.wm, .rARCH, .rWM, .rDVSEC]
  | .profileClosed | .profileInitDone | .culvertBeatCrcFail .. | .culvertWireSpare .. => [.rARCH]
  | .profileRecallDone => [.out, .spw, .flm, .leat, .swc, .wm, .notices, .noticeTag, .rARCH, .rSWC, .rRSV, .rTRN, .rWM, .rSNF,
    .rPRT, .rXLT, .rLEAT, .rACQ, .rTND, .rDVSEC]
  | .profileDrained => homeParts ++ [.rARCH, .rSNF, .rDVSEC]
  | .profileSwitched => runnelParts ++ [.wm, .rARCH, .rWM, .rSNF, .rWEIR, .rDVSEC]
  | .profileChangeTimeout => [.arch, .rARCH]
  | .profileRollbackDone => runnelParts ++ [.wm, .rARCH, .rDVSEC]
  | .culvertBundleRetire .. => [.spw, .rARCH]
  | .todByteGap .. => [.rFT]
  | .serLctlWrite .. | .laneEnergyDetect .. | .serPrbsctlWrite .. | .prbsCheckerLock .. => [.rSER]
  | .laneCdrLock .. => [.free, .rSER]
  | .laneCdrTimeout .. | .laneAlignTimeout .. | .laneEqTimeout .. | .laneDeskewTimeout .. => [.spw, .lanes, .rSER]
  | .laneMarkerReceive .. => leatParts ++ [.free, .prt, .rSNF, .rDVSEC]
  | .leatDataReceive .. | .leatIdleReceive .. | .leatAckReceive .. | .leatUnitCrcFail .. | .spareReq .. | .retrainReq .. | .lpReq
    .. | .lpAck .. | .leatTrainingTimeout .. | .leatRetrainTimeout .. => leatParts ++ [.rSNF, .rDVSEC]
  | .laneMarkerMissing .. | .laneCdrLoss .. | .laneStuffViolation .. => [.out, .spw, .lanes, .leat, .flows, .rSER, .rLEAT]
  | .laneEqApply .. | .serSlip .. | .eyeScanStart .. | .eyeScanDone .. => [.lanes, .rSER]
  | .leatRetrainIdleEnd .. => [.lanes, .leat, .rSER]
  | .laneDeskewDone .. => [.spw, .lanes, .leat, .rSER, .rLEAT]
  | .portLaneCdrLoss .. => [.lanes, .rSER, .rPRT]
  | .portConfigWrite .. => portParts ++ [.pwr, .lanes, .flows, .rARCH, .rPWR, .rSER, .rDVSEC]
  | .portLinkUp .. => coreParts ++ [.free, .lanes, .flows, .weir, .xlt, .prt, .rSER, .rPRT, .rLEAT, .rWEIR, .rDVSEC]
  | .portDlDown .. | .hotResetReceived .. => portParts ++ [.lanes, .flows, .rSER, .rDVSEC]
  | .flrPf .. => [.spw, .run, .ten, .rRUN, .rTEN, .rVFMB, .rVFRING, .rDVSEC]
  | .flrVf .. | .vfEnable .. | .reset .. | .ringStoppingTimeout .. | .instanceFault .. => [.spw, .run, .ten, .rRUN, .rTEN, .rVFMB,
    .rVFRING]
  | .prtTiblkWrite .. => [.spw, .rPRT, .rTEN]
  | .prtSlotcfgWrite .. => [.out, .spw, .flm, .lanes, .leat, .swc, .weir, .xlt, .wm, .prt, .notices, .noticeTag, .rARCH, .rSWC,
    .rRSV, .rPWR, .rTRN, .rWM, .rSER, .rPRT, .rXLT, .rLEAT, .rWEIR, .rACQ, .rFLM, .rTND, .rDVSEC]
  | .bindVppb .. => [.out, .spw, .lanes, .leat, .flows, .prt, .rARCH, .rPRT, .rLEAT]
  | .bindComplete .. => [.out, .spw, .flm, .lanes, .leat, .swc, .weir, .xlt, .wm, .prt, .slots, .notices, .noticeTag, .rSWC,
    .rRSV, .rPWR, .rTRN, .rWM, .rSER, .rPRT, .rXLT, .rLEAT, .rWEIR, .rACQ, .rSLU, .rFLM, .rTND, .rDVSEC]
  | .unbindWaitLinkDown .. | .unbindManagedHotRemove .. | .unbindTimeout .. | .bindRspTimeout .. | .presenceChange .. |
    .attentionButtonPress .. => [.out, .prt, .rPRT]
  | .unbindSurpriseHotRemove .. => coreParts ++ [.lanes, .flows, .weir, .xlt, .wm, .prt, .slots, .rSWC, .rPWR, .rTRN, .rWM, .rSER,
    .rPRT, .rXLT, .rLEAT, .rWEIR, .rACQ, .rSLU, .rFLM, .rDVSEC]
  | .unbindComplete .. => [.out, .spw, .flm, .lanes, .leat, .flows, .swc, .weir, .xlt, .wm, .prt, .slots, .notices, .noticeTag,
    .rSWC, .rRSV, .rPWR, .rTRN, .rWM, .rSER, .rPRT, .rXLT, .rLEAT, .rWEIR, .rACQ, .rSLU, .rFLM, .rTND, .rDVSEC]
  | .powerControllerOn .. | .powerControllerOff .. | .prtSlotctlWrite .. | .slotAbsent .. | .sluOff .. => slotParts ++ [.lanes,
    .xlt, .slots, .rSER, .rDVSEC]
  | .indicatorWrite .. => [.out, .prt]
  | .powerFaultClear .. => [.prt, .rSLU]
  | .l1Entry .. => [.rSER, .rPRT]
  | .l1Exit .. | .clkreqPartnerAssert .. => [.rPRT]
  | .leatCtlWrite .. | .leatRetrainCmd .. => leatParts ++ [.rPWR, .rSNF, .rDVSEC]
  | .leatInitReceive .. => leatParts ++ [.free, .prt, .rSNF, .rDVSEC]
  | .portreset .. => leatParts ++ [.weir, .xlt, .prt, .rSNF, .rWEIR, .rDVSEC]
  | .bindClaim .. => leatParts ++ [.prt, .rARCH, .rSNF, .rDVSEC]
  | .bindRsp .. | .unbind .. => leatParts ++ [.prt, .rSNF, .rDVSEC]
  | .leatAckTimer .. => [.out, .leat]
  | .leatReplayTimeout .. => [.out, .flm, .lanes, .leat, .rLEAT]
  | .leatLanesReady .. | .leatDegradedWaitExpire .. => [.out, .free, .spw, .flm, .lanes, .leat, .flows, .swc, .wm, .notices,
    .noticeTag, .rSWC, .rRSV, .rTRN, .rWM, .rSER, .rSNF, .rPRT, .rXLT, .rLEAT, .rACQ, .rFLM, .rTND, .rDVSEC]
  | .leatDownRetry .. => [.lanes, .leat, .rSER, .rLEAT]
  | .spareReqRepeat .. | .leatDozeIdle .. => [.out, .lanes, .leat, .flows, .rLEAT]
  | .leatWake .. => [.out, .lanes, .leat, .rLEAT]
  | .coreMessageEnqueue .. => coreParts ++ [.weir, .xlt, .rSWC, .rTRN, .rPRT, .rXLT, .rLEAT, .rWEIR, .rDVSEC]
  | .egressSchedule .. => traceParts ++ [.flows, .weir, .wm, .run, .ten, .rWM, .rSNF, .rXLT, .rWEIR, .rFLM, .rDVSEC]
  | .turnoutAgeSweep => coreParts ++ [.rTRN, .rPRT, .rACQ, .rDVSEC]
  | .groupCommit .. => [.spw, .swc, .rARCH, .rTRN]
  | .mirrorSessionWrite .. => [.stage, .spw, .swc, .rARCH, .rRSV, .rTRN]
  | .egressStall .. => [.spw, .rSWC]
  | .cellAudit => [.out, .spw, .flm, .leat, .swc, .notices, .noticeTag, .rRSV, .rTRN, .rPRT, .rACQ, .rTND, .rDVSEC]
  | .rds .. | .rdown .. | .upgr .. | .rdcur .. | .wrfull .. | .wrpart .. | .wbI .. | .wbS .. | .wbE .. | .evc .. => homeParts ++
    [.rSNF, .rFLM, .rDVSEC]
  | .oAgeSweep .. => homeParts ++ [.rDVSEC]
  | .agentPurgeDone .. => homeParts ++ [.rSNF, .rFLM, .rDVSEC]
  | .regionRecall .. | .regionRecallDone .. => homeParts ++ [.rSNF, .rDVSEC]
  | .snoopResponse .. | .poolReadData .. | .poolWriteComplete .. | .poolAccessFail .. | .holdWindowEnd .. | .snoopTimeout .. |
    .wmCmpReceive .. | .wmRefuseReceive .. | .snpinv .. | .snpdata .. | .snpcur .. => homeParts ++ [.rSNF, .rFLM, .rDVSEC]
  | .nakReceived .. => [.wm]
  | .nakRetry .. => coreParts ++ [.wm, .rSWC, .rTRN, .rPRT, .rLEAT, .rACQ, .rDVSEC]
  | .reservationExpire .. => [.wm, .rWM]
  | .wmNakReceive .. => coreParts ++ [.wm, .rTRN, .rPRT, .rACQ, .rFLM, .rDVSEC]
  | .regionEnable .. => [.spw, .rWM]
  | .tableLoad .. => [.wm, .tnd, .rRSV, .rWM, .rWLG]
  | .tableSwitch | .tableLoadDrainTimeout => [.out, .spw, .flm, .leat, .swc, .wm, .tnd, .notices, .noticeTag, .rRSV, .rTRN, .rWM,
    .rPRT, .rACQ, .rTND, .rWLG, .rDVSEC]
  | .tableCrcCheck .. | .scrubSet .. | .snfDiagRead .. => homeParts ++ [.rSNF, .rDVSEC]
  | .suspectClear .. => [.rSNF]
  | .hdmCommitDone .. => [.spw, .flm, .xlt, .tnd, .tap, .rCHK]
  | .hdmDecoderCommit .. => [.xlt]
  | .poolportWrite .. | .dcdForcedRemoval .. => [.spw, .xlt, .rXLT]
  | .zeroingDone .. => [.spw, .flm, .xlt, .tnd, .tap, .rXLT, .rCHK]
  | .mapidxWrite .. | .windowShadowRefreshed .. | .windowDrainEnd .. => [.rXLT]
  | .mapGrant .. | .mapRelease .. | .windowCommit .. => [.spw, .xlt, .rARCH, .rXLT]
  | .releaseDrainEnd => [.xlt, .rXLT]
  | .shareGroupWrite .. => [.spw, .rXLT]
  | .addDynamicCapacity .. | .dcdReleaseRequest .. => [.out, .xlt]
  | .chkRuleStore .. | .chkWithdraw .. => [.spw, .chk, .rCHK]
  | .chkStagingClear .. => [.spw, .chk]
  | .chkCommit .. => [.spw, .chk, .rARCH, .rCHK]
  | .chkValidationDone => [.spw, .chk, .prt, .rARCH, .rPWR, .rCHK]
  | .chkDrainEnd .. => [.chk, .prt, .rPWR, .rCHK]
  | .chkStagingRewriteDone .. => [.chk, .rCHK]
  | .chkScrub .. => [.spw, .rCHK]
  | .runRctx0Write .. | .ringDoorbell .. | .ringEnable .. | .ringDisable .. | .ringResume .. | .cqheadWrite .. |
    .descriptorFetchDone .. | .nop .. | .copy .. | .fill .. | .writei .. | .writeiMcast .. | .load .. | .atomicFadd8 .. |
    .atomicSwap8 .. | .atomicCas8 .. | .atomicCas16 .. | .barrier .. | .wcIdleIssue .. | .runnelReadData .. | .runnelWriteTimeout
    .. | .runnelReadTimeout .. | .runPauseWrite .. | .quiesce .. => runnelParts ++ [.rDVSEC]
  | .admitNotice .. | .runnelWriteAck .. => runnelParts ++ [.rVFMB, .rDVSEC]
  | .ringStopped .. => [.run, .rRUN]
  | .ringCfgWrite .. => [.stage, .rVFRING]
  | .runEnableWrite .. => [.spw, .rPWR, .rRUN, .rACQ]
  | .shaperCommit .. => coreParts ++ [.weir, .rPRT, .rWEIR, .rDVSEC]
  | .classShaperCommit .. => [.weir, .rWEIR]
  | .rotationCommit .. => [.spw, .weir, .rARCH, .rWEIR]
  | .rotationCancel .. => [.rWEIR]
  | .rotenWrite .. => [.spw, .rARCH, .rWEIR]
  | .resume .. => runnelParts ++ [.rVFMB, .rDVSEC]
  | .quiesceComplete .. => traceParts ++ [.ten, .rTEN, .rVFMB, .rDVSEC]
  | .quiesceTimeout .. => [.out, .spw, .run, .rRUN, .rTEN, .rVFMB, .rVFRING]
  | .instanceResetComplete .. | .unplannedResetTimeout .. => [.out, .ten, .rTEN, .rVFMB]
  | .mailboxDoorbell .. => [.out, .ten, .notices, .noticeTag, .rTEN, .rTND, .rVFMB, .rDVSEC]
  | .mailboxAck .. => [.rVFMB]
  | .mailboxDone .. => [.out, .rTEN, .rVFMB]
  | .mailboxTimeout .. => [.out, .spw, .rTEN, .rVFMB]
  | .tenNoticeWrite .. => [.out, .rVFMB]
  | .contextSave .. | .contextLoad .. => [.spw, .ten, .rTEN]
  | .contextTransferDone => [.out, .run, .ten, .notices, .noticeTag, .ustore, .rRUN, .rTEN, .rTND, .rVFMB, .rVFRING, .rDVSEC]
  | .logEnable .. => [.spw, .rTEN]
  | .logDisable .. | .logFlip .. | .logCacheEvict .. | .logBufferCompletion .. => traceParts ++ [.ten, .rTEN, .rDVSEC]
  | .logFlipDone .. => [.ten, .rTEN]
  | .boundaryDrainDone .. => [.rACQ]
  | .boundaryDrainTimeout .. | .acqWedge .. | .acqHeaderFault .. | .acqProbeWrite .. => [.spw, .rACQ]
  | .runnelStatsSnap .. => [.acq, .rACQ]
  | .sourceRaise .. | .stickyClear .. | .wireTestEnd .. | .collectorMismatch .. | .spwInject .. | .spwMaskWrite .. => allBut
    [.free, .latch, .stage, .ft, .subscr, .kinds, .node, .ustore, .colds, .boot, .rPKG, .rFT, .rSLU]
  | .sourceQuiet .. | .spwRctWrite .. => [.spw, .rSPW]
  | .quietPeriodEnd .. => runnelParts ++ [.pwr, .lanes, .wm, .prt, .rPWR, .rSER, .rSPW, .rDVSEC]
  | .flapWindowClear => [.rSPW]
  | .wireFault .. | .wireTest | .collectorRateChange .. | .ratePairFault .. => [.spw]
  | .deviceCplTimeout .. => homeParts ++ [.ten, .tnd, .tap, .rSNF, .rCHK, .rTEN, .rFLM, .rDVSEC]
  | .feedBad .. | .feedGood .. | .sluOn .. => [.spw, .prt, .slots, .rPRT, .rSLU]
  | .feedMake .. | .feedReturn .. => [.slots, .rSLU]
  | .slotPresent .. => [.out, .prt, .slots, .rPRT, .rSLU]
  | .sluCfgWrite .. | .sluClriso .. => [.spw, .slots, .rSLU]
  | .sluClrflt .. | .rampSegmentEnd .. => [.rSLU]
  | .rampTimeout .. | .fastTrip .. | .slowTrip .. | .underVoltage .. | .overVoltage .. => slotParts ++ [.lanes, .xlt, .rSER,
    .rDVSEC]
  | .powerGood .. | .stoppingEnd .. => [.rPRT, .rSLU]
  | .passFetDamage .. => [.out, .spw, .prt, .slots, .rPRT, .rSLU]
  | .flmSnap .. => traceParts ++ [.acq, .rXLT, .rFLM, .rDVSEC]
  | .dumpBodyProven .. | .dumpComplete .. | .dumpFail .. => traceParts ++ [.rXLT, .rFLM, .rDVSEC]
  | .dumpLate .. => [.spw, .flm, .rFLM]
  | .flmZero .. => [.spw, .flm]
  | .flmEvtWrite .. => [.spw, .rFLM]
  | .flmFiltWrite .. => [.stage, .spw, .flm, .rFLM]
  | .flmRingWrite .. => traceParts ++ [.stage, .rXLT, .rFLM, .rDVSEC]
  | .broadcastReply => [.out, .tnd]
  | .domainTransferTimeout .. => [.tnd]
  | .notificationResend .. => [.out, .notices]
  | .lockLapse => [.tnd, .rTND, .rWLG]
  | .checkpointTimer => [.tnd, .rWLG]
  | .checkpointDone .. => allBut [.free, .latch, .stage, .ft, .arch, .subscr, .kinds, .node, .ustore, .colds, .rPKG, .rFT, .rSLU]
  | .bootSlotTry .. | .stage2Loaded .. => allBut [.free, .latch, .subscr, .kinds, .node, .colds]
  | .fwVerifyDone .. => [.pwr, .spw, .boot, .rPWR, .rBOOT]
  | .trialExpire => [.boot, .rBOOT]
  | .openExpire => [.tnd, .rWLG, .rBOOT]
  | .tapReset => [.tap]
  | .extest .. | .idcode | .samplePreload .. | .clamp .. | .highz .. | .bypass .. => [.out, .tap]
  | .sysacc .. => allBut [.free, .subscr, .kinds, .node, .colds, .boot]
  | .jtagChallenge => [.out, .free, .boot, .tap]
  | .jtagUnlock .. => [.tnd, .boot, .tap, .rWLG, .rBOOT]
  | .junctionTrip .. => leatParts ++ [.pwr, .ft, .weir, .xlt, .run, .ten, .prt, .rPWR, .rSNF, .rWEIR, .rRUN, .rTEN, .rVFMB,
    .rVFRING, .rDVSEC]
  | .hotResetEnd .. => [.out, .lanes, .leat, .flows, .prt, .rPRT, .rLEAT]
  | .tenderRestartDone => traceParts ++ [.rXLT, .rFLM, .rWLG, .rDVSEC]

/-! ### What a command does -/

/-- `t` is `s` but for the register fields of `ws`, which read the value given there: each entry is a field, an instance and a value.
Every other field and instance reads as in `s`, and everything that is no register is as in `s`. -/
def Sets (s t : State) (ws : List (Fld × Nat × Nat)) : Prop :=
  (∀ w ∈ ws, t.rd w.1 w.2.1 = w.2.2)
  ∧ (∀ (g : Fld) (j : Nat), (∀ w ∈ ws, g.key ≠ w.1.key ∨ j ≠ w.2.1) → t.rd g j = s.rd g j)
  ∧ { t with regs := s.regs } = s

/-- In state `s` command `c` completes, and the next state is `u` but for the register fields of `ws`, which read the values given. -/
def Ends (c : Instr) (s u : State) (ws : List (Fld × Nat × Nat)) : Prop := ∃ t, exec c s = .next t ∧ Sets u t ws

/-- In state `s` command `c` completes, and the next state satisfies `P`. -/
def EndsIn (c : Instr) (s : State) (P : State → Prop) : Prop := ∃ t, exec c s = .next t ∧ P t

/-- Word `v` has been taken at instance `i`: each of the RW fields of `fs` reads the bits of `v` that are its own (R10). -/
abbrev Took (fs : List Fld) (i v : Nat) (t : State) : Prop := ∀ f ∈ fs, f.acc = .rw → t.rd f i = f.of v

/-! ### Conditions that statements share -/

/-- The next step from `s` answers a next state, and `P` holds of it. -/
def EndsAtStep (s : State) (P : State → Prop) : Prop := ∃ t, step s = .next t ∧ P t

/-- The value at which a cold reset leaves a field: its Reset value, or the default of R510 that stepping A0 has in its place. -/
def coldValue (s : State) (f : Fld) (i : Nat) : Nat :=
  if s.a0 && f.key == fPRT_PORTCFG_MAXRATE.key && decide (i < 64) then 5
  else if s.a0 && f.key == fLEAT_CTL_RATE.key && decide (i < 8) then 1
  else f.resetAt i

/-- What a cold reset leaves (R11, R69, R500, R510): every register field that is no fuse and no measurement reads its Reset value, but for the
A0 defaults and the lifecycle state that BOOT_LCF decides; the core, the links, the Runnel and the Tender's queue are as after reset, the flashes as they were,
and the waiting commands wait on. -/
def coldState (s t : State) : Prop :=
  t.pending = s.pending ∧ t.pwr.coldHold = true ∧ t.pwr.pwrgd = false ∧ t.pwr.pll = false ∧ t.ft = {} ∧ t.swc = {} ∧ t.run = {} ∧ t.ten = {}
  ∧ t.wm = {} ∧ t.tnd = {} ∧ t.leat = [] ∧ t.spw = {} ∧ t.notices = [] ∧ t.node = none
  ∧ t.boot.flashA = s.boot.flashA ∧ t.boot.flashB = s.boot.flashB
  ∧ (∀ f i, (∀ g ∈ keptFields, f.key ≠ g.key) → f.key ≠ fBOOT_STAT_LC.key → t.rd f i = coldValue s f i)
  ∧ t.rd fBOOT_STAT_LC 0 = (if s.rdb fBOOT_LCF_RETIRED 0 then 2 else 0)

/-- A sequenced unit of type `typ` that link `k` expects next: the link is ACTIVE and holds nothing out of order, the unit has no header fault, is
for this node and carries the number EXP (R150, R156). -/
abbrev State.expects (s : State) (k typ hdr trl : Nat) : Prop :=
  isLink k = true ∧ s.lkActive k = true ∧ hdr < 2 ^ 32 ∧ trl < 2 ^ 32 ∧ hdrBad typ hdr trl true = false ∧ s.forUs k hdr = true
  ∧ bitsOf trl 20 12 = s.rd fLEAT_RXSEQ_EXP k ∧ (s.lk k).reorder = []

/-- A read-like request `m` at a home slice whose snoop filter and tables are empty (R209, R218): nothing is on its way in, the line lies in an
enabled region whose home is this node, no agent is being purged, the requester `a` is an agent of this node, and way `w` of the line's set
is free. -/
abbrev State.freshLine (s : State) (m : Msg) (g a w : Nat) : Prop :=
  wmOk m = true ∧ m.kind ≠ .wmSnp ∧ s.wm = {} ∧ SMap.get none s.swc.sending (72 + lineSlice (lineOfMsg m)) = none ∧ m.snode = s.ownNode ∧ m.src = a ∧ a < 64
  ∧ s.lineRegion (lineOfMsg m) = some g ∧ s.rd fWM_SRGN_HOME g = s.ownNode ∧ s.rd fWM_SRGN_STATE g ≠ 3
  ∧ s.rd fWM_AGDOWN_PURGING 0 = 0 ∧ s.rd fWM_AGDOWN_PURGING 1 = 0 ∧ s.rd fWM_AGDOWN_PURGING 2 = 0
  ∧ s.suspect (lineSlice (lineOfMsg m)) (lineSet (lineOfMsg m)) = false
  ∧ s.emptyWay (setKey (lineSlice (lineOfMsg m)) (lineSet (lineOfMsg m))) = some w

/-- Request `m` counted at its slice, and transaction `x` opened on its line (R219). -/
def State.withTxn (s : State) (m : Msg) (x : Txn) : State :=
  ((s.countMsg 0x20 5 (lineSlice (lineOfMsg m)) m).setRsv (lineOfMsg m) []).setTxn (lineOfMsg m) (some x)

/-- Message `m` of agent `a` of this node at its slice, where way `k` holds the line in state `n` and no transaction is open on it; nothing
is on its way in, no agent is kept out of coherence, and every entry of the set keeps the rules of R238. -/
abbrev State.heldLine (s : State) (m : Msg) (a k : Nat) (n : LineSt) : Prop :=
  wmOk m = true ∧ SMap.get none s.swc.sending (72 + lineSlice (lineOfMsg m)) = none ∧ s.agentOf m = some a
  ∧ s.wm.refused = [] ∧ s.txn (lineOfMsg m) = none ∧ s.findWay (lineOfMsg m) = some k ∧ s.lineNow (lineOfMsg m) = n
  ∧ ((s.setWays (setKey (lineSlice (lineOfMsg m)) (lineSet (lineOfMsg m)))).all fun w => !s.entryBad (s.fentry w)) = true

/-- Transaction `x` is open on line `l`, no snoop of a home is deferred, and nothing is on its way into the line's slice. -/
abbrev State.onLine (s : State) (l : Nat) (x : Txn) : Prop :=
  l < 2 ^ 46 ∧ s.txn l = some x ∧ s.wm.deferred = [] ∧ SMap.get none s.swc.sending (72 + lineSlice l) = none

/-- Descriptor `d` is the next of ring `r`, with `rest` fetched behind it: the ring is in RUN, has room for records and has no descriptor
under way; `d` breaks no rule and is no release or fence (R302, R304 to R306). -/
abbrev State.nextDesc (s : State) (r d : Nat) (rest : List Nat) : Prop :=
  isRing r = true ∧ (s.ring r).fetched = d :: rest ∧ s.rstate r = 2 ∧ s.cqFull r = false ∧ (s.ring r).live = []
  ∧ s.portOfTenant (s.rd fRUN_RCTX0_OWNER r) = none ∧ descBad d 0 = 0 ∧ dRel d = false ∧ dFence d = false

/-- Descriptor `d` of ring `r` started at the byte that DONE names (R360), with `rest` fetched behind it. -/
def State.started (s : State) (r d : Nat) (rest : List Nat) : State :=
  s.ringMod r fun g => { g with fetched := rest, live := g.live ++ [{ idx := s.rd fRUN_RCTX1_HEAD r, d := d, off := s.rd fRUN_RCTX2_DONE r }] }

/-- The internal gate lets every access to the register space through: it has no rule, and a miss passes (R287). -/
abbrev State.openGate (s : State) : Prop :=
  s.chk.active = [] ∧ s.rdb fCHK_GATE_FAILED 64 = false ∧ s.rdb fCHK_GATE_MISS 64 = true

/-- A request of requester `w` to objects of index `i` is executed at once (R452 to R455, R458, R459): the requester reaches the dictionary, which
answers; nothing is executing, queued or half sent, and no response to the request is kept; the lock is free, and the requester has or gets
an originator code. -/
abbrev State.serves (s : State) (w : Caller) (i : Nat) : Prop :=
  callerOk w = true ∧ s.canCall w = true ∧ s.tnd.restarting = false ∧ (s.dev ≠ 0 ∨ (s.tnd.limited = true ∧ w.path ≠ 2)) ∧ s.dev ≠ 4
  ∧ s.limitCode i = 0 ∧ s.tnd.exec = none ∧ s.tnd.queue = [] ∧ s.tnd.xfers = [] ∧ s.tnd.left = 0 ∧ s.boot.activate = none
  ∧ (s.tnd.kept.any fun k => k.who == callerKey w && k.tag == w.tag) = false ∧ s.rd fTND_LOCK_HOLDER 0 = 0xFF ∧ (s.originOf w).1 ≠ 0xFF

end Sys2Proof.Machine
end

