-- ==== Sys2Proof/Certificates/Slice0/Obligations.lean ====
section
/-! DEFINITION. The statements: what the commands of each family do to the state, the step, reset, and what every step keeps. -/

open Sys2Proof Sys2Proof.Machine

/-- The step takes the command at the front of the queue: on a queue with `c` in front, a step is `exec c` on the state with the queue's rest. -/
def Obligations.StepTakesTheFront : Prop :=
  ∀ (s : State) c cs, s.pending = c :: cs → step s = exec c { s with pending := cs }

/-- An idle block: with nothing waiting, a step passes one tick of 4 ns (the model's choice, log entry 5) and puts nothing into the queue; while fabric
time stands still, the device is in no holdover and its Leat wave is not just under way, the tick moves the clocks on and no register of the
device. -/
def Obligations.IdleStepPassesOneTick : Prop :=
  (∀ s : State, s.pending = [] → EndsAtStep s fun t => t.pending = [])
  ∧ (∀ s : State, s.pending = [] → s.ft.run = false → s.ftState ≠ 4 → s.rd fPWR_START_PHASE 0 ≠ 7 → EndsAtStep s fun t =>
    t.pwr.ns = s.pwr.ns + 4 ∧ t.pending = [] ∧ t.regs = s.regs ∧ t.out = s.out ∧ t.ft = s.ft)

/-- Reset (R11, R15): nothing waits, VDD_AUX is present with PWRGD low, every register field reads its Reset value, and the state is sound; so
does every field after it until a command or a tick changes it. -/
def Obligations.ResetReadsResetValues : Prop :=
  State.reset.Sound ∧ State.reset.pending = [] ∧ State.reset.pwr.aux = true ∧ State.reset.pwr.pwrgd = false
  ∧ (∀ f i, State.reset.rd f i = f.resetAt i)
  ∧ State.reset.rd fTND_LOCK_HOLDER 0 = 0xFF ∧ State.reset.rd fTND_CTL_NODECNT 0 = 8 ∧ State.reset.rd fFLM_CTL_LATEMS 0 = 100

/-- No word spells a command: the table gives its rows no bits, so the decoder answers nothing and placing a word changes nothing. -/
def Obligations.NoWordSpellsACommand : Prop :=
  (∀ nbits w, decodeTableWord nbits w = none) ∧ (∀ (s : State) nbits w, s.withFetchWord nbits w = s)

/-- Every step keeps a sound state sound: the register store stays canonical, and every waiting command well formed. -/
def Obligations.EveryStepKeepsSound : Prop :=
  ∀ s t : State, s.Sound → step s = .next t → t.Sound

/-- A command changes nothing outside its parts: all registers of the windows that it does not name, all state of the units that it does not
name, and the queue are as before. -/
def Obligations.FrameOfEveryCommand : Prop :=
  ∀ (c : Instr) (s t : State), exec c s = .next t → t.outside (partSet (commandParts c)) = s.outside (partSet (commandParts c))

/-- A command whose operands are in range completes, and leaves the queue as it is; one whose operands name no unit of the device is a fault, in
every state. -/
def Obligations.WellFormedCommandsComplete : Prop :=
  (∀ (c : Instr) (s : State), c.wf = true → ∃ t, exec c s = .next t ∧ t.pending = s.pending)
  ∧ (∀ (c : Instr) (s : State), c.wf = false → exec c s = .fault .noSuchUnit)

/-- A sound state goes on: no step of the block from it stops. -/
def Obligations.SoundStatesRun : Prop := ∀ s : State, s.Sound → s.Runs

/-- Where a line lies (R239): its slice is A[9:6], its set A[25:10] XOR A[41:26] and its ATAG A[51:26]; slice, set and ATAG identify the line, and
lines that differ only above bit 25 but there in A[41:26] lie in different sets. -/
def Obligations.LinePlacement : Prop :=
  (∀ a, a < 2 ^ 52 →
    lineSlice (a / 64) = bitsOf a 6 4 ∧ lineSet (a / 64) = bitsOf a 10 16 ^^^ bitsOf a 26 16 ∧ lineSet (a / 64) < 65536
    ∧ lineTag (a / 64) = bitsOf a 26 26)
  ∧ (∀ a, a < 2 ^ 52 → bitsOf a 10 16 = lineSet (a / 64) ^^^ bitsOf (lineTag (a / 64)) 0 16)
  ∧ (∀ l, l < 2 ^ 46 → lineAt (lineSlice l) (lineSet l) (lineTag l) = l)
  ∧ (∀ a b, a < 2 ^ 52 → b < 2 ^ 52 → a % 2 ^ 26 = b % 2 ^ 26 → bitsOf a 26 16 ≠ bitsOf b 26 16 → lineSet (a / 64) ≠ lineSet (b / 64))

/-- Register accesses of hosts (R9 to R14, R18, R21, R138, R283, R292): a write that the internal gate lets through sets the RW fields of the word and clears the
W1C ones where it has a 1, except what an event of the same cycle sets, and no other register; a reserved encoding or the Standby rule discards it; the
low half of a 64-bit register waits for the high half; a register with a row of its own acts as that row does.  A read returns the word, clears
RC fields, and latches the high half; nothing there reads 0, and what the gate denies reads 0 and is not taken.  A host port
whose PF shows no register space writes nothing, and a read by it is an Unsupported Request. -/
def Obligations.RegisterAccesses : Prop :=
  (∀ (s : State) node port addr val ev d i, node < 16 → port < 64 → val < 2 ^ 32 → ev < 2 ^ 32 → s.openGate → s.regShut node port addr = false →
    s.ft.jump = false → addr % 4 = 0 →
    s.findReg addr = some (d, i) → s.noWrite d i = false → (d.fields.map Fld.key).Nodup →
    (rowTable.find? fun e => e.1 == d.addr) = none →
    (s.discards d.fields i val = true → exec (.registerWrite node port (.word addr) val ev) s = .next s)
    ∧ (s.discards d.fields i val = false → (ruleTable.find? fun e => e.1 == d.addr) = none → d.addr ≠ 0xD00020 → d.half = .whole →
      EndsIn (.registerWrite node port (.word addr) val ev) s fun t =>
        Took d.fields i val t
        ∧ (∀ f ∈ d.fields, f.acc = .w1c → t.rd f i = (clearBits (s.rd f i) (f.of val) ||| f.of ev) % 2 ^ f.width)
        ∧ (∀ g j, (∀ f ∈ d.fields, f.acc = .rw ∨ f.acc = .w1c → g.key ≠ f.key ∨ j ≠ i) → t.rd g j = s.rd g j))
    ∧ (s.discards d.fields i val = false → (ruleTable.find? fun e => e.1 == d.addr) = none → d.addr ≠ 0xD00020 → d.half = .low →
      (d.fields.any fun f => f.acc = .rw) = true → exec (.registerWrite node port (.word addr) val ev) s = .next (s.stageLow addr val))
    ∧ (∀ low, s.discards d.fields i val = false → (ruleTable.find? fun e => e.1 == d.addr) = none → d.addr ≠ 0xD00020 → d.half = .high →
      SMap.get 0 s.stage (addr - 4) = low + 1 → ((fieldsAt (d.addr - 4) ++ d.fields).map Fld.key).Nodup →
      fTND_STAT_DEVSTATE.key ∉ (fieldsAt (d.addr - 4)).map Fld.key →
      EndsIn (.registerWrite node port (.word addr) val ev) s fun t => Took (fieldsAt (d.addr - 4)) i low t ∧ Took d.fields i val t))
  ∧ (∀ (s : State) node port addr val ev d i row, node < 16 → port < 64 → val < 2 ^ 32 → ev < 2 ^ 32 → s.openGate → s.regShut node port addr = false →
    addr % 4 = 0 →
    s.findReg addr = some (d, i) → s.noWrite d i = false → (rowTable.find? fun e => e.1 == d.addr) = some row →
    exec (.registerWrite node port (.word addr) val ev) s = .next (row.2 s i val ev).fireJump)
  ∧ (∀ (s : State) node port addr val ev, node < 16 → port < 64 → val < 2 ^ 32 → ev < 2 ^ 32 → s.openGate → s.regShut node port addr = false →
    s.ft.jump = false →
    addr % 4 ≠ 0 ∨ s.findReg addr = none → exec (.registerWrite node port (.word addr) val ev) s = .next s)
  ∧ (∀ s node port addr val ev, node < 16 → port < 64 → val < 2 ^ 32 → ev < 2 ^ 32 → s.regShut node port addr = false →
    (s.hostGate node port addr true).1 = false →
    exec (.registerWrite node port (.word addr) val ev) s = .next (s.hostGate node port addr true).2)
  ∧ (∀ (s : State) node port addr ev d i, node < 16 → port < 64 → ev < 2 ^ 32 → s.openGate → s.regShut node port addr = false →
    addr < 0x2000000 → SMap.get 0 s.latch addr = 0 →
    s.findReg addr = some (d, i) → s.noWrite d i = false → (d.fields.map Fld.key).Nodup →
    EndsIn (.registerReadClear node port (.word addr) ev) s fun t =>
      t.out = .value addr (s.peek addr) :: s.out ∧ (∀ f ∈ d.fields, f.acc = .rc → t.rd f i = f.of ev)
      ∧ (∀ g j, (∀ f ∈ d.fields, f.acc = .rc → g.key ≠ f.key ∨ j ≠ i) → t.rd g j = s.rd g j))
  ∧ (∀ (s : State) node port addr d i, node < 16 → port < 64 → s.openGate → s.regShut node port addr = false →
    addr < 0x2000000 → SMap.get 0 s.latch addr = 0 →
    s.findReg addr = some (d, i) → d.half = .low →
    EndsIn (.registerHalfLatchRead node port (.word addr)) s fun t =>
      t.out = .value addr (s.peek addr) :: s.out ∧ SMap.get 0 t.latch (addr + 4) = s.peek (addr + 4) + 1)
  ∧ (∀ (s : State) node port addr v, node < 16 → port < 64 → s.openGate → s.regShut node port addr = false →
    SMap.get 0 s.latch addr = v + 1 →
    EndsIn (.registerHalfLatchRead node port (.word addr)) s fun t =>
      t.out = .value addr v :: s.out ∧ SMap.get 0 t.latch addr = 0 ∧ t.regs = s.regs)
  ∧ (∀ s node port addr ev, node < 16 → port < 64 → ev < 2 ^ 32 → s.regShut node port addr = false →
    (s.hostGate node port addr false).1 = false →
    exec (.registerReadClear node port (.word addr) ev) s = .next ((s.hostGate node port addr false).2.send (.value addr 0)))
  ∧ (∀ (s : State) node port addr low high d i e, node < 16 → port < 64 → low < 2 ^ 32 → high < 2 ^ 32 → s.openGate → s.regShut node port addr = false →
    s.ft.jump = false →
    addr < 0x2000000 → addr % 8 = 0 → s.findReg addr = some (d, i) → s.findReg (addr + 4) = some (e, i) → d.half = .low → e.half = .high →
    e.addr = d.addr + 4 → s.noWrite e i = false → (d.fields.any fun f => f.acc = .rw) = true → s.discards d.fields i low = false →
    s.discards e.fields i high = false → (s.stageLow addr low).discards e.fields i high = false →
    (rowTable.find? fun r => r.1 == e.addr) = none → (ruleTable.find? fun r => r.1 == e.addr) = none → e.addr ≠ 0xD00020 →
    fieldsAt d.addr = d.fields → ((d.fields ++ e.fields).map Fld.key).Nodup → fTND_STAT_DEVSTATE.key ∉ d.fields.map Fld.key →
    EndsIn (.registerWrite node port (.double addr) (low + 2 ^ 32 * high) 0) s fun t => Took d.fields i low t ∧ Took e.fields i high t)
  ∧ (∀ (s : State) node port addr d i, node < 16 → port < 64 → s.openGate → s.regShut node port addr = false →
    addr < 0x2000000 → addr % 8 = 0 → s.findReg addr = some (d, i) → d.half = .low →
    EndsIn (.registerHalfLatchRead node port (.double addr)) s fun t =>
      t.out = .value addr (s.peek addr + 2 ^ 32 * s.peek (addr + 4)) :: s.out ∧ t.latch = s.latch)
  ∧ (∀ (s : State) node port addr ev, node < 16 → port < 64 → ev < 2 ^ 32 → s.openGate → s.regShut node port addr = false →
    addr < 0x2000000 → s.wideAt addr = false →
    exec (.registerReadClear node port (.double addr) ev) s
      = .next (((s.readAddr addr ev).2.readAddr (addr + 4) 0).2.send
        (.value addr ((s.readAddr addr ev).1 + 2 ^ 32 * ((s.readAddr addr ev).2.readAddr (addr + 4) 0).1))))
  ∧ (∀ (s : State) node port addr val ev, node < 16 → port < 64 → val < 2 ^ 32 → ev < 2 ^ 32 → s.regShut node port addr = true →
    exec (.registerWrite node port (.word addr) val ev) s = .next s
    ∧ exec (.registerReadClear node port (.word addr) ev) s = .next (s.reply (regMsg node port 0 addr 4 false) .ur false)
    ∧ exec (.registerHalfLatchRead node port (.word addr)) s = .next (s.reply (regMsg node port 0 addr 4 false) .ur false))

/-- Supplies (R11, R48, R49, R50, R53, R63, R469, R510).  The loss of VDD_AUX and a filtered PWRGD low are cold resets, the first with no
active gate discharge, and the pins are as each leaves them; every field that a cold reset does not keep reads its reset value, on stepping A0
with that part's rates.  A shorter low is counted in PKG_GLITCH.  At a rise of PWRGD the straps are sampled, and start-up proceeds at once
unless a rail is at fault, which sets RAILHOLD; once every rail is back, it proceeds.  Where start-up proceeds, every PERST_N is sampled. -/
def Obligations.SuppliesAndColdReset : Prop :=
  (∀ s, s.pwr.aux = true → EndsIn .vddAuxLost s fun t =>
    coldState s t ∧ t.pwr.aux = false ∧ t.pwr.discharge = false
    ∧ t.faultPin = .released ∧ t.alertPin = .released ∧ (∀ p, t.perstPin p = .released ∧ t.clkreqPin p = .released)
    ∧ (∀ j, t.gatePPin j = .released ∧ t.atnledPin j = .released ∧ t.pwrledPin j = .released) ∧ (∀ l, t.laneLive l = false))
  ∧ (∀ s, s.pwr.aux = false → exec .vddAuxLost s = .next s)
  ∧ (∀ s, exec .vddAuxRestored s = .next { s with pwr := { s.pwr with aux := true } })
  ∧ (∀ s, s.pwr.pwrgd = true → EndsIn .pwrgdLow s fun t =>
    coldState s t ∧ t.pwr.aux = s.pwr.aux ∧ t.pwr.discharge = s.pwr.aux
    ∧ (s.pwr.aux = true → s.tap.drive = .device →
      t.alertPin = .released ∧ t.faultPin = .low ∧ (∀ p, t.perstPin p = .released ∧ t.clkreqPin p = .released) ∧ (∀ j, t.gatePPin j = .low)))
  ∧ (∀ s, s.pwr.pwrgd = true → Ends .pwrgdGlitch s s [(fPKG_GLITCH_PWRGD, 0, satAdd 16 (s.rd fPKG_GLITCH_PWRGD 0) 1)])
  ∧ (∀ s, s.pwr.pwrgd = false → exec .pwrgdLow s = .next s ∧ exec .pwrgdGlitch s = .next s)
  ∧ (∀ s, exec .gateDischargeEnd s = .next { s with pwr := { s.pwr with discharge := false } })
  ∧ (∀ s prog, (prog.all fun e => decide (e.1 < 2 ∧ e.2.1 < 2 ^ 26)) = true → s.pwr.pwrgd = false → s.pwr.aux = true →
    s.pwr.thermLow = false → (s.railsAt 2).isEmpty = true → (∀ p, p < 64 → s.bit fPWR_PERSTIN_LEVEL p = false) →
    EndsIn (.pwrgdRise prog) s fun t =>
      t.pwr = { s.pwr with pwrgd := true, strap := { running := true }, coldHold := false, start := s.pwr.ns }
      ∧ (∀ p, p < 64 → t.bit fPWR_PERSTIN_LEVEL p = bitOf s.pwr.perst p)
      ∧ (∀ g i, g.key ≠ fPWR_PERSTIN_LEVEL.key → t.rd g i = s.rd g i))
  ∧ (∀ s prog, (prog.all fun e => decide (e.1 < 2 ∧ e.2.1 < 2 ^ 26)) = true → s.pwr.pwrgd = false → s.pwr.aux = true →
    s.pwr.thermLow = false → (s.railsAt 2).isEmpty = false →
    EndsIn (.pwrgdRise prog) s fun t =>
      t.pwr = { s.pwr with pwrgd := true, strap := { running := true } } ∧ t.rd fPWR_START_RAILHOLD 0 = 1)
  ∧ (∀ s, s.rdb fPWR_START_RAILHOLD 0 = true → (s.railsAt 2).isEmpty = true → (∀ p, p < 64 → s.bit fPWR_PERSTIN_LEVEL p = false) →
    EndsIn .railHoldEnd s fun t =>
      t.pwr = { s.pwr with coldHold := false, start := s.pwr.ns } ∧ t.rd fPWR_START_RAILHOLD 0 = 0
      ∧ (∀ p, p < 64 → t.bit fPWR_PERSTIN_LEVEL p = bitOf s.pwr.perst p)
      ∧ (∀ g i, g.key ≠ fPWR_PERSTIN_LEVEL.key → g.key ≠ fPWR_START_RAILHOLD.key → t.rd g i = s.rd g i))
  ∧ (∀ s, s.rdb fPWR_START_RAILHOLD 0 = false ∨ (s.railsAt 2).isEmpty = false → exec .railHoldEnd s = .next s)

/-- Straps (R53, R54): the source, then sample A, the sink with it, sample B, and sample C; three samples resolve.  A pin whose samples
differ is floating: it reads 0 and its FLOAT bit is set; the others read as sample C. -/
def Obligations.StrapSampling : Prop :=
  (∀ s, s.pwr.strap.running = true → s.pwr.strap.samples = [] →
    exec .strapTestSourceOn s = .next { s with pwr := { s.pwr with strap := { s.pwr.strap with source := true } } })
  ∧ (∀ s pins, pins < 2 ^ 15 → s.pwr.strap = { running := true, source := true } →
    exec (.strapSample pins) s = .next { s with pwr := { s.pwr with strap := { running := true, sink := true, samples := [pins] } } })
  ∧ (∀ s pins a, pins < 2 ^ 15 → s.pwr.strap = { running := true, sink := true, samples := [a] } →
    exec (.strapSample pins) s = .next { s with pwr := { s.pwr with strap := { running := true, samples := [a, pins] } } })
  ∧ (∀ s pins a b, pins < 2 ^ 15 → s.pwr.strap = { running := true, samples := [a, b] } →
    exec (.strapSample pins) s = .next { s with pwr := { s.pwr with strap := { running := true, samples := [a, b, pins] } } })
  ∧ (∀ s a b c, s.pwr.strap.samples = [a, b, c] → a < 2 ^ 15 → b < 2 ^ 15 → c < 2 ^ 15 →
    EndsIn .strapResolve s fun t =>
      t.rd fPKG_STRAPFLT_FLOAT 0 = (a ^^^ c) ||| (b ^^^ c)
      ∧ t.rd fPKG_STRAPFLT_ANY 0 = b2n (((a ^^^ c) ||| (b ^^^ c)) != 0)
      ∧ t.rd fPKG_STRAP_VALID 0 = 1 ∧ t.pwr.strap = {} ∧ t.rd fPWR_START_PHASE 0 = 1
      ∧ t.rd fPKG_STRAP_BOOTSEL 0 = bitsOf (clearBits c ((a ^^^ c) ||| (b ^^^ c))) 0 2
      ∧ t.rd fPKG_STRAP_NODE_ID 0 = bitsOf (clearBits c ((a ^^^ c) ||| (b ^^^ c))) 2 4
      ∧ t.rd fPKG_STRAP_MGR_EN 0 = bitsOf (clearBits c ((a ^^^ c) ||| (b ^^^ c))) 6 1
      ∧ t.rd fPKG_STRAP_MGR_PORT 0 = bitsOf (clearBits c ((a ^^^ c) ||| (b ^^^ c))) 7 6
      ∧ t.rd fPKG_STRAP_TESTMODE 0 = bitsOf (clearBits c ((a ^^^ c) ||| (b ^^^ c))) 13 2)

/-- The first milliseconds (R75, R85, R103, R464): the PLL lock sets the core to 900 MHz and fabric time going, once start-up proceeds
and the straps are valid, and does nothing otherwise; with the SRAM clear the sequences of this boot start in a range of their own, above
the highest boot count of the two flashes, with the GAP record in front, and BOOTSEL 3 boots no image; the segments' PHYs join; a tile's
calibration shows in SER_GSTAT.CALDONE, and the last of the four, with the tables applied, starts PHASE 5. -/
def Obligations.FirstMilliseconds : Prop :=
  (∀ s, s.pwr.coldHold = false → s.pwr.pll = false → s.pwr.thermLow = false → s.rdb fPKG_STRAP_VALID 0 = true →
    Ends .pllLock s { s with pwr := { s.pwr with pll := true }, ft := { s.ft with run := true } }
      [(fPWR_START_PHASE, 0, 2), (fARCH_CORECLK_MHZ, 0, 900)])
  ∧ (∀ s, s.pwr.coldHold = true ∨ s.pwr.pll = true ∨ s.pwr.thermLow = true ∨ s.rdb fPKG_STRAP_VALID 0 = false →
    exec .pllLock s = .next s)
  ∧ (∀ s bad, bad < 4 → s.pwr.pll = true → s.pwr.sram = false →
    EndsIn (.sramClearDone bad) s fun t =>
      t.pwr.sram = true ∧ t.rd fPWR_START_PHASE 0 = 3 ∧ t.boot.recovery = (s.rd fPKG_STRAP_BOOTSEL 0 == 3)
      ∧ t.bootSeq % 2 ^ 48 = 1 ∧ t.headSeq = t.bootSeq + 1
      ∧ (s.rd fPKG_STRAP_BOOTSEL 0 = 3 → t.rd fBOOT_STAT_SLOT 0 = 2 ∧ t.rd fBOOT_STAT_RUNFW 0 = 2
        ∧ t.rd fBOOT_STAT_CAUSEA 0 = 1 ∧ t.rd fBOOT_STAT_CAUSEB 0 = 1)
      ∧ ∃ r, t.record t.bootSeq = some r ∧ r.index = 0 ∧ r.sub = 0 ∧ r.orig = 0xC1 ∧ r.result = 0 ∧ 0x40 ≤ r.flags)
  ∧ (∀ s bad, bad < 4 → s.pwr.pll = true → s.pwr.sram = false → s.pwr.manufTest = false →
    EndsIn (.sramClearDone bad) s fun t =>
      t.bootSeq = (max (countBest (s.flash 0)) (countBest (s.flash 1)) * 2 ^ 48 + 1) % 2 ^ 64)
  ∧ (∀ s bad, bad < 4 → s.pwr.pll = false ∨ s.pwr.sram = true → exec (.sramClearDone bad) s = .next s)
  ∧ (∀ s seg, seg < 2 → s.pwr.coldHold = false → Ends (.t1sPhyJoin seg) s s [(fTND_SEG_JOINED, seg, 1)])
  ∧ (∀ s seg, seg < 2 → s.pwr.coldHold = true → exec (.t1sPhyJoin seg) s = .next s)
  ∧ (∀ s tile, isTile tile = true → s.pwr.coldHold = false → s.pwr.warm = false →
    EndsIn (.calibrationDone tile) s fun t =>
      (∀ n, n < 4 → bitOf (t.rd fSER_GSTAT_CALDONE 0) n = (bitOf (s.rd fSER_GSTAT_CALDONE 0) n || n == tile))
      ∧ t.rd fPWR_START_PHASE 0 =
        (if s.rd fPWR_START_PHASE 0 = 4 ∧ t.rd fSER_GSTAT_CALDONE 0 = 15 ∧ s.boot.stage2 = none then 5 else s.rd fPWR_START_PHASE 0))
  ∧ (∀ s tile, isTile tile = true → s.pwr.coldHold = true ∨ s.pwr.warm = true → exec (.calibrationDone tile) s = .next s)

/-- Waves (R75, R77, R78, R80): wave 0 of the device comes in Standby, once the tables are done and a start is wanted, and makes the
device Operational, or Degraded; wave w comes after wave w - 1, and the links start after wave 7.  A tile that was reset is apart: its ports and
links wait for waves of the tile, and only such a tile has them. -/
def Obligations.WavesInOrder : Prop :=
  (∀ s, s.dev = 1 → s.rd fPWR_START_PHASE 0 = 5 → s.wavesWanted = true →
    EndsIn (.portWave 0 none) s fun t =>
      t.dev = (if s.degraded then 3 else 2) ∧ t.rd fPWR_START_WAVE 0 = 0 ∧ t.rd fPWR_START_PHASE 0 = 6 ∧ t.pwr.oper = false)
  ∧ (∀ s w, 0 < w → w < 8 → s.rd fPWR_START_PHASE 0 = 6 → s.rd fPWR_START_WAVE 0 + 1 = w →
    Ends (.portWave w none) s (s.waveOf ((List.range 64).filter fun p => !bitOf s.pwr.own (tileOfPort p)) w)
      [(fPWR_START_PHASE, 0, 6), (fPWR_START_WAVE, 0, w)])
  ∧ (∀ s w, 0 < w → w < 8 → s.rd fPWR_START_WAVE 0 + 1 ≠ w ∨ s.rd fPWR_START_PHASE 0 ≠ 6 → exec (.portWave w none) s = .next s)
  ∧ (∀ s w n, w < 8 → isTile n = true → s.pwr.warm = false → bitOf s.pwr.tiles n = false → bitOf s.pwr.own n = true →
    exec (.portWave w (some n)) s = .next (s.waveOf ((List.range 16).map fun i => 16 * n + i) w))
  ∧ (∀ s, s.rd fPWR_START_PHASE 0 = 6 → s.rd fPWR_START_WAVE 0 = 7 →
    EndsIn (.leatWave none) s fun t =>
      t.rd fPWR_START_WAVE 0 = 8 ∧ t.rd fPWR_START_PHASE 0 = 7 ∧ (∀ k, k < 8 → bitOf s.pwr.own (tileOfLink k) = false → (t.lk k).waveDone = true))
  ∧ (∀ s n, isTile n = true → s.pwr.warm = false → bitOf s.pwr.tiles n = false → bitOf s.pwr.own n = true →
    EndsIn (.leatWave (some n)) s fun t =>
      (t.lk (2 * n)).waveDone = true ∧ (t.lk (2 * n + 1)).waveDone = true ∧ t.rd fPWR_START_WAVE 0 = s.rd fPWR_START_WAVE 0)
  ∧ (∀ s w n, w < 8 → isTile n = true → s.pwr.warm = true ∨ bitOf s.pwr.tiles n = true ∨ bitOf s.pwr.own n = false →
    exec (.portWave w (some n)) s = .next s ∧ exec (.leatWave (some n)) s = .next s)
  ∧ (∀ s, s.rd fPWR_START_WAVE 0 ≠ 7 ∨ s.rd fPWR_START_PHASE 0 ≠ 6 → exec (.leatWave none) s = .next s)

/-- The reset tree (R4, R69, R70, R81): a warm reset by the pin, or by PWR_RSTREQ with its key, leaves the device in Init with its cause
recorded and counted, both ZL-25 modes off and every PERST_OUT_N low; a request while a reset covers it is absorbed.  A tile reset marks its tile and keeps the phase
of start-up.  With the end of its hold a warm reset's timeline restarts (in the phase that log entry 101 chooses), and a tile is out of reset;
its gateway opens once its Culvert has retrained. -/
def Obligations.ResetTree : Prop :=
  (∀ s, s.pwr.coldHold = false → s.pwr.warm = false → s.pwr.strap.running = false →
    EndsIn (.warmRstPin true) s fun t =>
      t.pwr.warm = true ∧ t.pwr.warmPin = true ∧ t.dev = 0 ∧ t.rd fPWR_RSTCAUSE_LAST 0 = 1 ∧ t.rd fPWR_START_WAVE 0 = 15
      ∧ t.rd fPWR_RSTCAUSE_WARMCNT 0 = satAdd fPWR_RSTCAUSE_WARMCNT.width (s.rd fPWR_RSTCAUSE_WARMCNT 0) 1
      ∧ t.rd fCHK_CTL_PRECED 0 = 0 ∧ t.rd fSPW_CTL_ZL25 0 = 0
      ∧ (s.pwr.aux = true → s.pwr.pwrgd = true → s.rdb fPKG_STRAP_VALID 0 = true → s.pwr.manufTest = false → s.tap.drive = .device →
        ∀ p, t.perstPin p = .low))
  ∧ (∀ s, s.pwr.warm = true → exec (.warmRstPin true) s = .next { s with pwr := { s.pwr with warmPin := true } })
  ∧ (∀ s, exec (.warmRstPin false) s = .next { s with pwr := { s.pwr with warmPin := false } })
  ∧ (∀ s val, val < 2 ^ 32 → rstKey val = true → bitOf val 0 = true → s.pwr.coldHold = false → s.pwr.warm = false →
    s.pwr.strap.running = false → s.pwr.warmDue = 0 → s.ckWanted = false →
    EndsIn (.warmResetReq val) s fun t =>
      t.pwr.warm = true ∧ t.dev = 0 ∧ t.rd fPWR_RSTCAUSE_LAST 0 = 2 ∧ t.rd fPWR_START_WAVE 0 = 15
      ∧ t.rd fPWR_RSTCAUSE_WARMCNT 0 = satAdd fPWR_RSTCAUSE_WARMCNT.width (s.rd fPWR_RSTCAUSE_WARMCNT 0) 1
      ∧ t.rd fCHK_CTL_PRECED 0 = 0 ∧ t.rd fSPW_CTL_ZL25 0 = 0)
  ∧ (∀ s val, val < 2 ^ 32 → s.pwr.coldHold = true ∨ s.pwr.warm = true →
    exec (.warmResetReq val) s = .next s ∧ exec (.tileResetReq val) s = .next s)
  ∧ (∀ s val, val < 2 ^ 32 → rstKey val = false →
    exec (.warmResetReq val) s = .next s ∧ exec (.tileResetReq val) s = .next s)
  ∧ (∀ s val n, val < 2 ^ 32 → rstKey val = true → setBits 4 (val / 16) = [n] → s.pwr.coldHold = false → s.pwr.warm = false →
    bitOf s.pwr.tiles n = false →
    EndsIn (.tileResetReq val) s fun t =>
      bitOf t.pwr.tiles n = true ∧ bitOf t.pwr.culvert n = true ∧ bitOf (t.rd fPWR_RSTCAUSE_TILE 0) n = true
      ∧ t.rd fPWR_START_PHASE 0 = s.rd fPWR_START_PHASE 0 ∧ t.pwr.warm = false
      ∧ t.rd fCHK_CTL_PRECED 0 = 0 ∧ t.rd fSPW_CTL_ZL25 0 = 0)
  ∧ (∀ s val n, val < 2 ^ 32 → setBits 4 (val / 16) = [n] → bitOf s.pwr.tiles n = true → exec (.tileResetReq val) s = .next s)
  ∧ (∀ s, s.pwr.warm = true → s.pwr.warmPin = false →
    EndsIn .warmResetEnd s fun t =>
      t.pwr.warm = false ∧ t.pwr.start = s.pwr.ns
      ∧ t.rd fPWR_START_PHASE 0 =
        (if s.pwr.pll then (if s.pwr.sram then (if s.boot.booted then 4 else 3) else 2) else 1))
  ∧ (∀ s, s.pwr.warm = false ∨ s.pwr.warmPin = true → exec .warmResetEnd s = .next s)
  ∧ (∀ s n, isTile n = true → bitOf s.pwr.tiles n = true →
    EndsIn (.tileResetEnd n) s fun t => bitOf t.pwr.tiles n = false ∧ t.rd fPWR_START_PHASE 0 = s.rd fPWR_START_PHASE 0)
  ∧ (∀ s n, isTile n = true → bitOf s.pwr.culvert n = true → bitOf s.pwr.tiles n = false →
    exec (.culvertRetrained n) s = .next
      { s with pwr := { s.pwr with culvert := putBit s.pwr.culvert n false },
               spw := { s.spw with maskTiles := putBit s.spw.maskTiles n false } })

/-- Rails and clocks (R62, R68): a rail outside its warning or fault window shows in PWR_RAILSTAT, with its sticky bit; a lost clock that is
checked clears its OK bit and sets its LOST bit, and a clock back sets its OK bit; one that is not checked changes nothing. -/
def Obligations.RailsAndClocks : Prop :=
  (∀ s rail, rail < 6 → s.railLevel rail = 0 →
    EndsIn (.railWarning rail true) s fun t =>
      t.railLevel rail = 1 ∧ bitOf (t.rd fPWR_RAILSTAT_WARNSEEN 0) rail = true
      ∧ t.rd fPWR_RAILSTAT_FAULTSEEN 0 = s.rd fPWR_RAILSTAT_FAULTSEEN 0)
  ∧ (∀ s rail, rail < 6 → EndsIn (.railWarning rail false) s fun t => t.railLevel rail = 0)
  ∧ (∀ s rail, rail < 6 →
    EndsIn (.railFault rail true) s fun t =>
      t.railLevel rail = 2 ∧ bitOf (t.rd fPWR_RAILSTAT_WARNSEEN 0) rail = true ∧ bitOf (t.rd fPWR_RAILSTAT_FAULTSEEN 0) rail = true)
  ∧ (∀ s rail, rail < 6 → s.railLevel rail = 2 → EndsIn (.railFault rail false) s fun t => t.railLevel rail = 1)
  ∧ (∀ s dom, 328 ≤ dom → dom < 352 → s.clockChecked dom = true →
    EndsIn (.clockLoss dom) s fun t =>
      bitOf (t.rd fPWR_CLKSTAT_OK 0) (dom - 328) = false ∧ bitOf (t.rd fPWR_CLKLOSS_LOST 0) (dom - 328) = true)
  ∧ (∀ s, s.clockChecked 329 = true → EndsIn (.clockLoss 329) s fun t => t.pwr.ref25 = false ∧ t.ft.refBad = true)
  ∧ (∀ s dom, 328 ≤ dom → dom < 352 → s.clockChecked dom = true →
    EndsIn (.clockPresent dom) s fun t => bitOf (t.rd fPWR_CLKSTAT_OK 0) (dom - 328) = true)
  ∧ (∀ s dom, 328 ≤ dom → dom < 352 → s.clockChecked dom = false →
    exec (.clockLoss dom) s = .next s ∧ exec (.clockPresent dom) s = .next s)

/-- Switchable domains (R65, R66): ON forces a used domain off, whose boundary then drains, and an end of the power-up opens it; the header
switch opens after isolation.  A domain that is never switched takes the write and nothing happens. -/
def Obligations.SwitchableDomains : Prop :=
  (∀ s n val, isDomain n = true → val < 2 ^ 32 → s.discards (fieldsAt fPWR_DOMCTL_ON.addr) n val = false → s.domUsed n = true →
    s.rdb fPWR_DOMCTL_BUSY n = false → s.rd fACQ_DOMSTAT_STATE n = 0 → bitOf val 0 = false →
    EndsIn (.pwrDomctlWrite n val) s fun t =>
      t.rd fPWR_DOMCTL_ON n = 0 ∧ t.rd fPWR_DOMCTL_BUSY n = 1 ∧ t.rd fACQ_DOMSTAT_STATE n = 1)
  ∧ (∀ s n, isDomain n = true → s.rd fACQ_DOMSTAT_STATE n = 3 → s.domWanted n = true →
    EndsIn (.domainPowerUpDone n) s fun t =>
      t.rd fACQ_DOMSTAT_STATE n = 0 ∧ t.rd fPWR_DOMCTL_PWRD n = 1 ∧ t.rd fPWR_DOMCTL_BUSY n = 0)
  ∧ (∀ s n, isDomain n = true → s.rd fACQ_DOMSTAT_STATE n ≠ 3 → exec (.domainPowerUpDone n) s = .next s)
  ∧ (∀ s n, isDomain n = true → s.rd fACQ_DOMSTAT_STATE n = 2 → s.rdb fPWR_DOMCTL_BUSY n = true → s.domWanted n = false →
    EndsIn (.headerSwitchOpen n) s fun t =>
      t.rd fACQ_DOMSTAT_STATE n = 2 ∧ t.rd fPWR_DOMCTL_PWRD n = 0 ∧ t.rd fPWR_DOMCTL_BUSY n = 0)
  ∧ (∀ s n val, n < 8 → val < 2 ^ 32 → s.discards (fieldsAt fPWR_DOMCTL_ON.addr) n val = false →
    EndsIn (.pwrDomctlWrite n val) s fun t =>
      t.rd fPWR_DOMCTL_ON n = s.rd fPWR_DOMCTL_ON n ∧ t.rd fPWR_DOMCTL_BUSY n = s.rd fPWR_DOMCTL_BUSY n
      ∧ (∀ m, t.rd fACQ_DOMSTAT_STATE m = s.rd fACQ_DOMSTAT_STATE m))

/-- PERST_N and configuration readiness (R71, R73, R74): an input seen under reset is only remembered; a release of PERST_OUT_N shows in
PWR_PERSTOUT where nothing holds it; a configuration request to a port that is not ready, and not past its limit, is answered with retry
status, else by the functions of its VCS, with Unsupported Request where there is none; the limit sets CRSLATE and raises its source, once. -/
def Obligations.PerstAndReadiness : Prop :=
  (∀ s p, isPort p = true → s.underReset p = true →
    exec (.perstInAssert p) s = .next { s with pwr := { s.pwr with perst := putBit s.pwr.perst p false } }
    ∧ exec (.perstInRelease p) s = .next { s with pwr := { s.pwr with perst := putBit s.pwr.perst p true } })
  ∧ (∀ s p, isPort p = true → s.underReset p = false → EndsIn (.perstInRelease p) s fun t => t.bit fPWR_PERSTIN_LEVEL p = true)
  ∧ (∀ s p, isPort p = true → s.underReset p = false →
    EndsIn (.perstInAssert p) s fun t => t.bit fPWR_PERSTIN_LEVEL p = false ∧ bitOf t.pwr.perst p = false)
  ∧ (∀ s p, isPort p = true → s.perstMay p = true → EndsIn (.perstOutRelease p) s fun t =>
    t.bit fPWR_PERSTOUT_RELEASED p = true
    ∧ (s.pwr.aux = true → s.pinsCold = false → s.tap.drive = .device → t.perstPin p = .high))
  ∧ (∀ s p, isPort p = true → s.perstMay p = false → exec (.perstOutRelease p) s = .next s)
  ∧ (∀ s p (m : Msg) fn f wr, isPort p = true → m.src = p → s.bit fPWR_PORTRDY_READY p = false → bitOf s.pwr.late p = false →
    exec (.configRequest p ⟨m, fn, f, wr⟩) s = .next (s.reply m .crs false))
  ∧ (∀ s p (m : Msg) fn f wr, isPort p = true → m.src = p → s.bit fPWR_PORTRDY_READY p = true ∨ bitOf s.pwr.late p = true →
    s.cfgPresent p fn = false → exec (.configRequest p ⟨m, fn, f, wr⟩) s = .next (s.reply m .ur false))
  ∧ (∀ s p (m : Msg) fn f v, isPort p = true → m.src = p → s.bit fPWR_PORTRDY_READY p = true ∨ bitOf s.pwr.late p = true →
    s.cfgPresent p fn = true → s.cfgRead p fn f = some v → (∀ o, f ≠ .dvsec o) →
    exec (.configRequest p ⟨m, fn, f, none⟩) s = .next (s.send (.reply m.src { m.answer .sc false with data := v })))
  ∧ (∀ s p (m : Msg) fn f v, isPort p = true → m.src = p → s.bit fPWR_PORTRDY_READY p = true ∨ bitOf s.pwr.late p = true →
    s.cfgPresent p fn = true →
    exec (.configRequest p ⟨m, fn, f, some v⟩) s = .next ((s.cfgWrite p fn f v).reply m .sc false))
  ∧ (∀ s p, isPort p = true → s.enabled p = true → s.bit fPWR_PORTRDY_READY p = false → bitOf s.pwr.late p = false →
    s.underReset p = false → (s.upstream p = true → s.bit fPWR_PERSTIN_LEVEL p = true) →
    EndsIn (.crsLate p) s fun t =>
      t.bit fPWR_CRSLATE_LATE p = true ∧ bitOf t.pwr.late p = true ∧ t.spw = (s.pulse 0x188).spw)
  ∧ (∀ s p, isPort p = true → s.bit fPWR_PORTRDY_READY p = true ∨ bitOf s.pwr.late p = true ∨ s.enabled p = false →
    exec (.crsLate p) s = .next s)

/-- The junction (R500, R501, R502): every reading shows in PWR_TEMP; one at or above TWARN sets WARN and raises its source, one below the
hysteresis ends it, and one between leaves it; the trip stops fabric time, drives THERMTRIP_N and every PERST_OUT_N, and is latched. -/
def Obligations.JunctionTemperature : Prop :=
  (∀ s temp sensor, tempOk temp sensor = true → 4 * (s.rd fPWR_TEMPCFG_TWARN 0 : Int) ≤ toInt 11 temp →
    EndsIn (.junctionWarning temp sensor) s fun t =>
      t.rd fPWR_TEMP_TEMP 0 = temp ∧ t.rd fPWR_TEMP_SENSOR 0 = sensor ∧ t.rd fPWR_THERM_WARN 0 = 1
      ∧ t.spw = (s.level 0x189 true).spw)
  ∧ (∀ s temp sensor, tempOk temp sensor = true →
    toInt 11 temp < 4 * (s.rd fPWR_TEMPCFG_TWARN 0 : Int) - 4 * s.rd fPWR_TEMPCFG_HYST 0 →
    EndsIn (.junctionWarning temp sensor) s fun t =>
      t.rd fPWR_TEMP_TEMP 0 = temp ∧ t.rd fPWR_THERM_WARN 0 = 0 ∧ t.spw = (s.level 0x189 false).spw)
  ∧ (∀ s temp sensor, tempOk temp sensor = true → 480 ≤ toInt 11 temp → s.pwr.thermLow = false →
    EndsIn (.junctionTrip temp sensor) s fun t =>
      t.pwr.thermLow = true ∧ t.pwr.pll = false ∧ t.rd fPWR_THERM_TRIPPED 0 = 1 ∧ t.ft.run = false
      ∧ t.rd fPWR_TEMP_TEMP 0 = temp ∧ (∀ p, p < 64 → t.bit fPWR_PERSTOUT_RELEASED p = false)
      ∧ (∀ p, p < 64 → t.dlUp p = false) ∧ (∀ l, l < 328 → t.laneStage l = 0))
  ∧ (∀ s temp sensor, tempOk temp sensor = true → toInt 11 temp < 4 * (s.rd fPWR_TEMPCFG_TWARN 0 : Int) →
    4 * (s.rd fPWR_TEMPCFG_TWARN 0 : Int) - 4 * s.rd fPWR_TEMPCFG_HYST 0 ≤ toInt 11 temp →
    EndsIn (.junctionWarning temp sensor) s fun t =>
      t.rd fPWR_TEMP_TEMP 0 = temp ∧ t.rd fPWR_THERM_WARN 0 = s.rd fPWR_THERM_WARN 0 ∧ t.spw = s.spw)

/-- Comparators (R96 to R99, R338, R340, R439, R460, R508): an event whose target comes first takes fabric time to the first tick at or after it,
where everything due takes effect; one that another target precedes, or that no clock drives, does not fire. -/
def Obligations.ComparatorsFireInOrder : Prop :=
  (∀ s, s.ft.run = true → exec .comparatorFire s = .next (s.runTo s.firstTarget))
  ∧ (∀ s c, s.ft.run = true → (s.tnd.timed.map (·.at_)).min? = some c → c ≤ s.firstTarget →
    exec .configEpochApply s = .next (s.runTo c))
  ∧ (∀ s c, (s.tnd.timed.map (·.at_)).min? = some c → s.firstTarget < c → exec .configEpochApply s = .next s)
  ∧ (∀ s c, s.ft.run = true → (s.xlt.timed.map (·.at_)).min? = some c → c ≤ s.firstTarget →
    exec .mapTimedApply s = .next (s.runTo c))
  ∧ (∀ s c, s.ft.run = true → s.chkTargets.min? = some c → c ≤ s.firstTarget → exec .chkEpochApply s = .next (s.runTo c))
  ∧ (∀ s x, x < 72 → s.ft.run = true → s.rdb fWEIR_EG_PEND x = true → SMap.get 0 s.weir.rotAt x ≤ s.firstTarget →
    exec (.rotationActivate x) s = .next (s.runTo (SMap.get 0 s.weir.rotAt x)))
  ∧ (∀ s x, x < 72 → s.ft.run = true → s.rotOn x = true → s.nextCycle x ≤ s.firstTarget →
    exec (.rotationCycleStart x) s = .next (s.runTo (s.nextCycle x)))
  ∧ (∀ s x, x < 72 → s.ft.run = true → s.rotOn x = true → s.nextEntry x ≤ s.firstTarget →
    exec (.gateChange x) s = .next (s.runTo (s.nextEntry x)))
  ∧ (∀ s x, x < 72 → s.rotOn x = false → exec (.gateChange x) s = .next s ∧ exec (.rotationCycleStart x) s = .next s)
  ∧ (∀ s idx, s.ft.run = true → s.weir.refilled = some (s.ft.now / 256) → (s.ft.now / 256 + 1) * 256 ≤ s.firstTarget →
    exec (.tokenRefill 0 idx) s = .next (s.runTo ((s.ft.now / 256 + 1) * 256)))
  ∧ (∀ s idx, s.ft.run = false →
    Ends (.tokenRefill 1 idx) s s [(fWEIR_ERR_ECCCOR, 0, satAdd fWEIR_ERR_ECCCOR.width (s.rd fWEIR_ERR_ECCCOR 0) 1)])
  ∧ (∀ s c, s.ft.run = true → s.flmTargets.min? = some c → c ≤ s.firstTarget →
    exec (.flumeSnapshot []) s = .next (s.runTo c))
  ∧ (∀ s, s.ftState ≠ 4 → exec .holdoverLimit s = .next s)
  ∧ (∀ s k, s.ftState = 4 → k = ceilDiv (s.ft.holdAt + (s.rd fFT_HOLDLIM 0 + 1) * nsPerSec - s.pwr.ns) 4 →
    k ≤ s.ticksTo s.firstTarget ∨ s.ft.run = false → exec .holdoverLimit s = .next (s.passTicks k))
  ∧ (∀ s k, s.ftState = 4 → k = ceilDiv (s.ft.holdAt + (s.rd fFT_HOLDLIM 0 + 1) * nsPerSec - s.pwr.ns) 4 → s.ticksTo s.firstTarget < k →
    s.ft.run = true → exec .holdoverLimit s = .next s)
  ∧ (∀ (s : State) t, s.ft.slew = 0 → s.ft.frac < 2 ^ 40 → s.ft.run = true → s.ft.now < t →
    0 < tickAdd (toInt 32 (s.rd fFT_RATE 0)) →
    t * 2 ^ 40 ≤ s.ft.now * 2 ^ 40 + s.ft.frac + s.ticksTo t * tickAdd (toInt 32 (s.rd fFT_RATE 0))
    ∧ s.ft.now * 2 ^ 40 + s.ft.frac + (s.ticksTo t - 1) * tickAdd (toInt 32 (s.rd fFT_RATE 0)) < t * 2 ^ 40)

/-- Fabric time's inputs (R86 to R92), A and B alike: an edge that comes where none is accepted counts as rejected and shows in the capture
register, an accepted one lengthens its input's streak and shows there too, and a pulse shorter than 100 ns is none; an input that misses its second is
no longer good; a good message names the second of the next edge of its input, a bad one or a gap is counted, and bytes before a start
byte are ignored, as all are in TODMODE 1; SETARM in TODMODE 1 arms a step while both inputs are usable, and the write is discarded in TODMODE 0;
FORCESTEP applies a held step.  Each of the six commands completes in every state. -/
def Obligations.FabricTimeInputs : Prop :=
  (∀ s inB (n : Nat) high, exec (.ppsEdge inB n high) s = .next (s.ppsEdge inB n high).fireJump)
  ∧ (∀ s inB (n : Nat) high, s.ft.run = true → 100 ≤ high → ((n : Int) - s.ft.now).natAbs ≤ 4 → s.ppsTakes inB (s.ppsCorrected inB n) = false →
    s.ft.jump = false →
    EndsIn (.ppsEdge inB n high) s fun t =>
      (if inB then t.rd fFT_BREJ 0 = satAdd fFT_BREJ.width (s.rd fFT_BREJ 0) 1 ∧ t.rd fFT_CAPB_NS 0 = n % nsPerSec
       else t.rd fFT_AREJ 0 = satAdd fFT_AREJ.width (s.rd fFT_AREJ 0) 1 ∧ t.rd fFT_CAPA_NS 0 = n % nsPerSec)
      ∧ (t.pps inB).streak = 0)
  ∧ (∀ s inB (n : Nat) high, s.ft.run = true → 100 ≤ high → ((n : Int) - s.ft.now).natAbs ≤ 4 → s.ppsTakes inB (s.ppsCorrected inB n) = true →
    s.ft.jump = false → (s.pps inB).streak < 2 → s.ppsGood inB = false → s.rd fFT_CTRL_SRCMODE 0 = (if inB then 1 else 2) → (s.pps inB).named = none →
    EndsIn (.ppsEdge inB n high) s fun t =>
      (t.pps inB).streak = (s.pps inB).streak + 1 ∧ (t.pps inB).cap = some (s.ppsCorrected inB n)
      ∧ (if inB then t.rd fFT_CAPB_NS 0 = n % nsPerSec else t.rd fFT_CAPA_NS 0 = n % nsPerSec))
  ∧ (∀ s inB n high, high < 100 → s.ft.jump = false → exec (.ppsEdge inB n high) s = .next s)
  ∧ (∀ s inB, exec (.ppsLoss inB) s = .next (s.ppsLost inB).fireJump)
  ∧ (∀ s inB, s.ft.jump = false → s.ppsGood inB = true → s.ppsUsable (!inB) = true → (s.pps (!inB)).cap = none → (s.pps inB).named = none →
    EndsIn (.ppsLoss inB) s fun t => t.ppsGood inB = false ∧ (t.pps inB).streak = 0)
  ∧ (∀ s inB bytes framed n, exec (.todMessage inB bytes framed n) s = .next (s.tod inB bytes framed n).fireJump)
  ∧ (∀ s inB bytes framed n, s.ft.jump = false → s.rdb fFT_CTRL_TODMODE 0 = true →
    exec (.todMessage inB bytes framed n) s = .next s)
  ∧ (∀ s inB (bytes : List Byte) framed n, s.ft.jump = false → bytes.getD 0 0 ≠ 0x7E → exec (.todMessage inB bytes framed n) s = .next s)
  ∧ (∀ s inB bytes framed n, s.ft.jump = false → s.rdb fFT_CTRL_TODMODE 0 = false → bytes.getD 0 0 = 0x7E →
    framed = false ∨ todGood bytes = false ∨ s.todInTime inB n = false →
    Ends (.todMessage inB bytes framed n) s s [(fFT_TODCRC, 0, satAdd fFT_TODCRC.width (s.rd fFT_TODCRC 0) 1)])
  ∧ (∀ s inB bytes n, s.ft.jump = false → s.rdb fFT_CTRL_TODMODE 0 = false → todGood bytes = true → s.todInTime inB n = true →
    EndsIn (.todMessage inB bytes true n) s fun t =>
      (t.pps inB).named = some (beBytes ((bytes.drop 2).take 6))
      ∧ t.rdb fFT_STAT_UNTRACE 0 = (!bitOf (bytes.getD 8 0).toNat 0 || (s.pps (!inB)).untrace))
  ∧ (∀ s inB, s.rdb fFT_CTRL_TODMODE 0 = false →
    Ends (.todByteGap inB) s s [(fFT_TODCRC, 0, satAdd fFT_TODCRC.width (s.rd fFT_TODCRC 0) 1)])
  ∧ (∀ s inB, s.rdb fFT_CTRL_TODMODE 0 = true → exec (.todByteGap inB) s = .next s)
  ∧ (∀ s val, val < 2 ^ 32 → s.discards (fieldsAt 0x600010) 0 val = false →
    exec (.ftSetarm val) s = .next (s.ftCtrl val).fireJump ∧ exec (.ftForcestep val) s = .next (s.ftCtrl val).fireJump)
  ∧ (∀ s val, val < 2 ^ 32 → s.discards (fieldsAt 0x600010) 0 val = false → bitOf val 3 = true → bitOf val 4 = false →
    s.rdb fFT_CTRL_TODMODE 0 = true → fFT_CTRL_TODMODE.of val = 1 → s.ft.jump = false →
    (∀ b, (s.setRW (fieldsAt 0x600010) 0 val).ppsUsable b = true) → EndsIn (.ftSetarm val) s fun t => t.ft.setArm = true)
  ∧ (∀ s val, val < 2 ^ 32 → s.discards (fieldsAt 0x600010) 0 val = false → bitOf val 3 = true → s.rdb fFT_CTRL_TODMODE 0 = false →
    s.ft.jump = false → exec (.ftSetarm val) s = .next (s.cfgErr 6))
  ∧ (∀ s val, val < 2 ^ 32 → s.discards (fieldsAt 0x600010) 0 val = false → bitOf val 3 = false → bitOf val 4 = true →
    s.rdb fFT_STAT_STEPHELD 0 = false → s.ft.jump = false → s.ftState ≤ 1 →
    EndsIn (.ftForcestep val) s fun t => Took (fieldsAt 0x600010) 0 val t)
  ∧ (∀ s val, val < 2 ^ 32 → s.discards (fieldsAt 0x600010) 0 val = false → bitOf val 3 = false → bitOf val 4 = true →
    s.rdb fFT_STAT_STEPHELD 0 = true → 0 < s.ft.slew →
    EndsIn (.ftForcestep val) s fun t => t.rdb fFT_STAT_STEPHELD 0 = false ∧ t.ft.slew = 0)

/-- The registers of a lane (R103, R105, R116, R118, R120): a write is taken, or refused with CMDREJ where a test may not run, and nothing happens
where a reserved value, a retired tile or a lane without power discards it; a slip moves the
symbol boundary, on or back, and forgets the markers found; a checker that has locked counts errors; a scan runs, and ends with its count or, when the
lane leaves CDR lock, with all ones; a port lane that loses CDR lock in L0 is counted, takes its port into Recovery and shows no lock, and a lane of
no such port does nothing.  What the wires carry (R106 to R110, R119): bit
pairs are symbols by Gray code, and an inverted pair exchanges 0 with 3 and 1 with 2; descrambling undoes scrambling; stuffing is undone without a
violation and leaves no run of more than 48 symbols; a marker is found with its polarity and payload, and the one a lane sends is good and carries
its fields; a block received gives back the bits sent; a lane in near-end loopback drives nothing, and one in far-end loopback what it receives. -/
def Obligations.LaneRegisters : Prop :=
  (∀ s l val, isLane l = true → val < 2 ^ 32 → s.discards (fieldsAt 0x801000) l val = false →
    bitOf s.pwr.culvert (laneTile l) = false → fSER_LCTL_LOOP.of val = 0 ∨ s.mayTest l = true →
    EndsIn (.serLctlWrite l val) s fun t => Took (fieldsAt 0x801000) l val t)
  ∧ (∀ s l val, isLane l = true → val < 2 ^ 32 → s.discards (fieldsAt 0x801000) l val = false →
    bitOf s.pwr.culvert (laneTile l) = false → fSER_LCTL_LOOP.of val ≠ 0 → s.mayTest l = false → Ends (.serLctlWrite l val) s s [(fSER_LERR_CMDREJ, l, 1)])
  ∧ (∀ s l val, isLane l = true → val < 2 ^ 32 → s.discards (fieldsAt 0x801000) l val = true ∨ bitOf s.pwr.culvert (laneTile l) = true →
    exec (.serLctlWrite l val) s = .next s)
  ∧ (∀ s l val, isLane l = true → val < 2 ^ 32 → s.laneOn l = false ∨ bitOf s.pwr.culvert (laneTile l) = true →
    exec (.serSlip l val) s = .next s)
  ∧ (∀ s l val, isLane l = true → val < 2 ^ 32 →
    s.laneOn l = false ∨ s.discards (fieldsAt 0x801018) l val = true ∨ bitOf s.pwr.culvert (laneTile l) = true →
    exec (.serPrbsctlWrite l val) s = .next s)
  ∧ (∀ s l val, isLane l = true → val < 2 ^ 32 →
    s.laneOn l = false ∨ s.discards (fieldsAt 0x801020) l val = true ∨ bitOf s.pwr.culvert (laneTile l) = true →
    exec (.eyeScanStart l val) s = .next s)
  ∧ (∀ s l val, isLeatLane l = true → val < 2 ^ 32 → s.laneOn l = true → s.rdb fSER_LCTL_ALIGNMAN l = true → s.laneStage l = 3 →
    fSER_SLIP_COUNT.of val ≠ 0 → fSER_SLIP_KEY.of val = 0xA5 → (s.lane l).slipEnd ≤ s.pwr.ns → (s.lane l).offset < blockSymbols →
    bitOf s.pwr.culvert (laneTile l) = false → bitOf val 7 = false →
    EndsIn (.serSlip l val) s fun t =>
      (t.lane l).offset = ((s.lane l).offset + fSER_SLIP_COUNT.of val) % blockSymbols ∧ (t.lane l).good = 0
      ∧ (t.lane l).slipEnd = s.pwr.ns + 100)
  ∧ (∀ s l val, isLeatLane l = true → val < 2 ^ 32 → s.laneOn l = true → s.rdb fSER_LCTL_ALIGNMAN l = true → s.laneStage l = 3 →
    fSER_SLIP_COUNT.of val ≠ 0 → fSER_SLIP_KEY.of val = 0xA5 → (s.lane l).slipEnd ≤ s.pwr.ns → (s.lane l).offset < blockSymbols →
    bitOf s.pwr.culvert (laneTile l) = false → bitOf val 7 = true →
    EndsIn (.serSlip l val) s fun t =>
      ((t.lane l).offset + fSER_SLIP_COUNT.of val) % blockSymbols = (s.lane l).offset ∧ (t.lane l).good = 0
      ∧ (t.lane l).slipEnd = s.pwr.ns + 100)
  ∧ (∀ s l val, isLane l = true → val < 2 ^ 32 → s.laneOn l = true →
    bitOf s.pwr.culvert (laneTile l) = false → isLeatLane l = false ∨ s.rdb fSER_LCTL_ALIGNMAN l = false ∨ s.laneStage l ≠ 3 ∨ fSER_SLIP_KEY.of val ≠ 0xA5
      ∨ fSER_SLIP_COUNT.of val = 0 ∨ s.pwr.ns < (s.lane l).slipEnd →
    Ends (.serSlip l val) s s [(fSER_LERR_CMDREJ, l, 1)])
  ∧ (∀ s l val, isLane l = true → val < 2 ^ 32 → s.laneOn l = true → s.discards (fieldsAt 0x801018) l val = false →
    bitOf s.pwr.culvert (laneTile l) = false → fSER_PRBSCTL_PATTERN.of val = 0 ∨ (fSER_PRBSCTL_GEN.of val = 0 ∧ fSER_PRBSCTL_CHK.of val = 0)
      ∨ (s.mayTest l = true ∧ (fSER_PRBSCTL_PATTERN.of val < 4 ∨ s.laneNrz l = false)) →
    EndsIn (.serPrbsctlWrite l val) s fun t => Took (fieldsAt 0x801018) l val t)
  ∧ (∀ s l val, isLane l = true → val < 2 ^ 32 → s.laneOn l = true → s.discards (fieldsAt 0x801018) l val = false →
    bitOf s.pwr.culvert (laneTile l) = false → fSER_PRBSCTL_PATTERN.of val ≠ 0 → fSER_PRBSCTL_GEN.of val = 1 ∨ fSER_PRBSCTL_CHK.of val = 1 →
    s.mayTest l = false ∨ (4 ≤ fSER_PRBSCTL_PATTERN.of val ∧ s.laneNrz l = true) →
    Ends (.serPrbsctlWrite l val) s s [(fSER_LERR_CMDREJ, l, 1)])
  ∧ (∀ s l errors, isLane l = true → s.rd fSER_PRBSCTL_PATTERN l ≠ 0 → s.rdb fSER_PRBSCTL_CHK l = true →
    Ends (.prbsCheckerLock l errors) s s
      [(fSER_PRBSCNT_ERRORS, l, min (2 ^ 32 - 1) (s.rd fSER_PRBSCNT_ERRORS l + errors)), (fSER_PRBSCTL_LOCKED, l, 1)])
  ∧ (∀ s l errors, isLane l = true → s.rd fSER_PRBSCTL_PATTERN l = 0 ∨ s.rdb fSER_PRBSCTL_CHK l = false →
    exec (.prbsCheckerLock l errors) s = .next s)
  ∧ (∀ s l val, isLane l = true → val < 2 ^ 32 → s.laneOn l = true → s.discards (fieldsAt 0x801020) l val = false →
    bitOf s.pwr.culvert (laneTile l) = false → bitOf val 0 = true →
    EndsIn (.eyeScanStart l val) s fun t =>
      Took (fieldsAt 0x801020) l val t ∧ t.rd fSER_EYECTL_DONE l = 0 ∧ (t.lane l).scan = true)
  ∧ (∀ s l val, isLane l = true → val < 2 ^ 32 → s.laneOn l = true → s.discards (fieldsAt 0x801020) l val = false →
    bitOf s.pwr.culvert (laneTile l) = false → bitOf val 0 = false →
    EndsIn (.eyeScanStart l val) s fun t => Took (fieldsAt 0x801020) l val t ∧ t.lane l = s.lane l)
  ∧ (∀ s l count, isLane l = true → (s.lane l).scan = true →
    Ends (.eyeScanDone l count false) s (s.laneMod l fun n => { n with scan := false })
      [(fSER_EYECNT_COUNT, l, min count 0xFFFFFFFF), (fSER_EYECTL_DONE, l, 1)])
  ∧ (∀ s l count lost, isLane l = true → (s.lane l).scan = false → exec (.eyeScanDone l count lost) s = .next s)
  ∧ (∀ s l count, isLane l = true → (s.lane l).scan = true →
    Ends (.eyeScanDone l count true) s (s.laneMod l fun n => { n with scan := false })
      [(fSER_EYECNT_COUNT, l, 0xFFFFFFFF), (fSER_EYECTL_DONE, l, 1)])
  ∧ (∀ s l p, l < 256 → s.lanePort l = some p → s.rd fPRT_PORTSTAT_LTSSM p = 4 →
    EndsIn (.portLaneCdrLoss l) s fun t =>
      t.rd fPRT_PORTSTAT_LTSSM p = 3 ∧ t.rd fSER_LERR_CDRLOSS l = min 0xFF (s.rd fSER_LERR_CDRLOSS l + 1)
      ∧ t.rd fSER_LSTAT_CDRLOCK l = 0 ∧ (t.lane l).scan = false)
  ∧ (∀ s l, l < 256 → (∀ p, s.lanePort l = some p → s.rd fPRT_PORTSTAT_LTSSM p ≠ 4) → exec (.portLaneCdrLoss l) s = .next s)
  ∧ (graySym false false = 0 ∧ graySym false true = 1 ∧ graySym true true = 2 ∧ graySym true false = 3
    ∧ [0, 1, 2, 3].map symLevel = [-3, -1, 1, 3] ∧ [0, 1, 2, 3].map (symFlip true) = [3, 2, 1, 0])
  ∧ (∀ bits : List Bool, bits.length % 2 = 0 → ofSyms (toSyms bits) = bits)
  ∧ (∀ st bits, scramble st (scramble st bits) = bits)
  ∧ (∀ last n xs, (unstuff last n (stuff last n xs)) = (xs, 0))
  ∧ (∀ xs : List Nat, (∀ x ∈ xs, x < 4) → longestRun 4 0 (stuff 4 0 xs) ≤ 48)
  ∧ (∀ w, w < 2 ^ 48 → (markerSyms w).length = 112 ∧ markerOf (markerSyms w) = some (false, w)
    ∧ markerOf ((markerSyms w).map (symFlip true)) = some (true, w))
  ∧ (∀ pidx w inv (bits : List Bool), bits.length % 2 = 0 → dataOf pidx inv (blockOf pidx w inv bits) = bits)
  ∧ (∀ (s : State) l q, isLeatLane l = true → q < 2 ^ 15 → (s.lane l).tx < 8 ∨ (s.lane l).tx = 0xE ∨ (s.lane l).tx = 0xF → (s.lk (laneLink l)).own < 16 →
    (∀ r, (s.lane l).req = some r → r < 10 ∨ (16 ≤ r ∧ r < 24)) →
    markerGood (s.txMarker l q) = true ∧ mkPidx (s.txMarker l q) = laneIdx l ∧ mkLpos (s.txMarker l q) = (s.lane l).tx
    ∧ mkLink (s.txMarker l q) = laneLink l ∧ mkNode (s.txMarker l q) = (s.lk (laneLink l)).own
    ∧ mkPhase (s.txMarker l q) = s.txPhase l ∧ mkAck (s.txMarker l q) = (s.lane l).ack ∧ bitsOf (s.txMarker l q) 0 15 = q)
  ∧ (∀ pidx mk inv seq (bits : List Bool) n, bits.length % 2 = 0 → bits.length ≤ n * blockBits →
    (blocksOf pidx mk inv seq bits n).flatMap (dataOf pidx inv) = bits)
  ∧ (∀ (s : State) l st bits rx, s.laneOn l = true → s.leftOut l = false →
    isLeatLane l = false ∨ (s.lk (laneLink l)).quiet = false ∨ s.testing l = true →
    (s.rd fSER_LCTL_LOOP l = 1 → s.txLine l st bits rx = none ∧ s.rxHears l st bits rx = (s.txOwn l st bits).getD [])
    ∧ (s.rd fSER_LCTL_LOOP l = 2 → s.txLine l st bits rx = some (rx.map (symFlip (s.rdb fSER_LCTL_TXINV l)))))

/-- The stages of a Leat lane (R111, R112, R114, R115): energy leads from DETECT to CDR, the clock to ALIGN, the fourth good marker at one offset and
one polarity to EQ at preset P4, where a partner's request waits to be applied, and a deskew of at most 1,024 symbols to READY; an event
of another stage changes nothing.  A stage that lasts too long fails the lane: its cause is kept, and it starts again in DETECT with no lock; a lane in
service fails on loss of its clock, on two bad or missing markers and on four stuffing violations within 256 symbols.  A bad or a foreign
marker is counted, and one of a lane in EQ acts by its request, whoever is done.  C0 of SER_TXEQ keeps the low 6 bits of a main tap of 64 (the model's reading, log entry 92). -/
def Obligations.LaneStages : Prop :=
  (∀ s l, isLeatLane l = true → s.laneStage l = 1 → Ends (.laneEnergyDetect l) s s [(fSER_LSTAT_STAGE, l, 2)])
  ∧ (∀ s l, isLeatLane l = true → s.laneStage l ≠ 1 → exec (.laneEnergyDetect l) s = .next s)
  ∧ (∀ s l, isLeatLane l = true → s.laneStage l = 2 →
    EndsIn (.laneCdrLock l) s fun t => t.laneStage l = 3 ∧ t.rd fSER_LSTAT_CDRLOCK l = 1)
  ∧ (∀ s l, isLeatLane l = true → s.laneStage l ≠ 2 →
    exec (.laneCdrLock l) s = .next s ∧ exec (.laneCdrTimeout l) s = .next s)
  ∧ (∀ s l, isLeatLane l = true → s.laneStage l ≠ 3 → exec (.laneAlignTimeout l) s = .next s)
  ∧ (∀ s l, isLeatLane l = true → s.laneStage l ≠ 4 → exec (.laneEqTimeout l) s = .next s ∧ exec (.laneEqApply l) s = .next s)
  ∧ (∀ s l skew, isLeatLane l = true → s.laneStage l ≠ 5 →
    exec (.laneDeskewTimeout l) s = .next s ∧ exec (.laneDeskewDone l skew) s = .next s)
  ∧ (∀ s l, isLeatLane l = true → (s.lane l).ask = none → exec (.laneEqApply l) s = .next s)
  ∧ (∀ s l, isLeatLane l = true → s.laneStage l = 2 →
    EndsIn (.laneCdrTimeout l) s fun t => t.laneStage l = 1 ∧ t.rd fSER_LSTAT_FAILCAUSE l = 1 ∧ t.rd fSER_LSTAT_CDRLOCK l = 0)
  ∧ (∀ s l, isLeatLane l = true → s.laneStage l = 3 → s.rdb fSER_LCTL_ALIGNMAN l = false →
    EndsIn (.laneAlignTimeout l) s fun t =>
      t.laneStage l = 1 ∧ t.rd fSER_LSTAT_FAILCAUSE l = 2 ∧ t.rd fSER_LSTAT_CDRLOCK l = 0)
  ∧ (∀ s l, isLeatLane l = true → s.laneStage l = 3 → s.rdb fSER_LCTL_ALIGNMAN l = true → exec (.laneAlignTimeout l) s = .next s)
  ∧ (∀ s l p, isLeatLane l = true → s.laneStage l = 4 → (s.lane l).ask = some p → p < 10 →
    EndsIn (.laneEqApply l) s fun t =>
      t.rd fSER_TXEQ_PRESET l = p ∧ t.rd fSER_TXEQ_CM2 l = (presetTaps p).1 ∧ t.rd fSER_TXEQ_CM1 l = (presetTaps p).2.1
      ∧ t.rd fSER_TXEQ_CP1 l = (presetTaps p).2.2
      ∧ t.rd fSER_TXEQ_C0 l = (64 - (presetTaps p).1 - (presetTaps p).2.1 - (presetTaps p).2.2) % 64
      ∧ (t.lane l).ask = none ∧ (t.lane l).ack = true)
  ∧ (∀ s l q, isLeatLane l = true → s.laneStage l = 4 → (s.lane l).ask = some (16 + q) →
    stepTaps q (s.rd fSER_TXEQ_CM2 l) (s.rd fSER_TXEQ_CM1 l) (s.rd fSER_TXEQ_CP1 l) = none →
    exec (.laneEqApply l) s = .next (s.laneMod l fun n => { n with ask := none, ack := true }))
  ∧ (∀ s l q x y z, isLeatLane l = true → s.laneStage l = 4 → (s.lane l).ask = some (16 + q) →
    stepTaps q (s.rd fSER_TXEQ_CM2 l) (s.rd fSER_TXEQ_CM1 l) (s.rd fSER_TXEQ_CP1 l) = some (x, y, z) → tapsOk x y z = true →
    EndsIn (.laneEqApply l) s fun t =>
      t.rd fSER_TXEQ_CM2 l = x ∧ t.rd fSER_TXEQ_CM1 l = y ∧ t.rd fSER_TXEQ_CP1 l = z ∧ (t.lane l).ask = none ∧ (t.lane l).ack = true)
  ∧ (∀ s l q x y z, isLeatLane l = true → s.laneStage l = 4 → (s.lane l).ask = some (16 + q) →
    stepTaps q (s.rd fSER_TXEQ_CM2 l) (s.rd fSER_TXEQ_CM1 l) (s.rd fSER_TXEQ_CP1 l) = some (x, y, z) → tapsOk x y z = false →
    exec (.laneEqApply l) s = .next (s.laneMod l fun n => { n with ask := none, ack := true }))
  ∧ (∀ s l, isLeatLane l = true → s.laneStage l = 4 →
    EndsIn (.laneEqTimeout l) s fun t =>
      t.laneStage l = 1 ∧ t.rd fSER_LSTAT_FAILCAUSE l = 3 ∧ t.rd fSER_LSTAT_MARKLOCK l = 0)
  ∧ (∀ s l, isLeatLane l = true → s.laneStage l = 5 →
    EndsIn (.laneDeskewTimeout l) s fun t =>
      t.laneStage l = 1 ∧ t.rd fSER_LSTAT_FAILCAUSE l = 4 ∧ t.rd fSER_LSTAT_MARKLOCK l = 0)
  ∧ (∀ s l skew, isLeatLane l = true → s.laneStage l = 5 → skew ≤ 1024 → s.lkActive (laneLink l) = false →
    Ends (.laneDeskewDone l skew) s (s.adaptKeep l) [(fSER_LSTAT_STAGE, l, 6)])
  ∧ (∀ s l skew, isLeatLane l = true → s.laneStage l = 5 → skew ≤ 1024 → s.lkActive (laneLink l) = true →
    exec (.laneDeskewDone l skew) s = .next
      (let t := ((s.adaptKeep l).setStage l 6).txRole (laneLink l) (laneIdx l)
       (if t.rd fSER_LSTAT_LPOS_RX l = 0xF then t.rxRole (laneLink l) (laneIdx l) else t).spareNow (laneLink l)))
  ∧ (∀ s l skew, isLeatLane l = true → s.laneStage l = 5 → 1024 < skew →
    EndsIn (.laneDeskewDone l skew) s fun t => t.laneStage l = 1 ∧ t.rd fSER_LSTAT_FAILCAUSE l = 4)
  ∧ (∀ s l, isLeatLane l = true → s.inService l = true → s.lkActive (laneLink l) = false →
    EndsIn (.laneCdrLoss l) s fun t =>
      t.laneStage l = 1 ∧ t.rd fSER_LSTAT_FAILCAUSE l = 5
      ∧ t.rd fSER_LERR_CDRLOSS l = min 0xFF (s.rd fSER_LERR_CDRLOSS l + 1))
  ∧ (∀ s l, isLeatLane l = true → s.inService l = true →
    exec (.laneCdrLoss l) s = .next ((s.inc fSER_LERR_CDRLOSS l).laneLost l 5))
  ∧ (∀ s l, isLeatLane l = true → s.inService l = false → s.rdb fSER_LSTAT_CDRLOCK l = true →
    EndsIn (.laneCdrLoss l) s fun t =>
      t.rd fSER_LERR_CDRLOSS l = min 0xFF (s.rd fSER_LERR_CDRLOSS l + 1) ∧ t.rd fSER_LSTAT_CDRLOCK l = 0 ∧ t.laneStage l = s.laneStage l)
  ∧ (∀ s l, isLeatLane l = true → s.inService l = false → s.rdb fSER_LSTAT_CDRLOCK l = false → exec (.laneCdrLoss l) s = .next s)
  ∧ (∀ s l w off inv p, isLeatLane l = true → w < 2 ^ 48 → off < blockSymbols → s.laneStage l = 4 → markerGood w = true →
    s.polarityOk l inv = true → mkPreset w = p → p < 10 → (s.lane l).ack = false →
    ∀ fom, EndsIn (.laneMarkerReceive l w off inv fom) s fun t => (t.lane l).ask = some p ∧ (t.lane l).known = true)
  ∧ (∀ s l w off inv q, isLeatLane l = true → w < 2 ^ 48 → off < blockSymbols → s.laneStage l = 4 → markerGood w = true →
    s.polarityOk l inv = true → mkPreset w = 0xF → mkStep w = q → 0 < q → q < 7 → (s.lane l).ack = false →
    ∀ fom, EndsIn (.laneMarkerReceive l w off inv fom) s fun t => (t.lane l).ask = some (16 + q))
  ∧ (∀ s l w off inv, isLeatLane l = true → w < 2 ^ 48 → off < blockSymbols → s.laneStage l = 4 → markerGood w = true →
    s.polarityOk l inv = true → mkPreset w = 0xF → mkStep w = 0 →
    ∀ fom, EndsIn (.laneMarkerReceive l w off inv fom) s fun t => (t.lane l).ask = none ∧ (t.lane l).ack = false)
  ∧ (∀ s l w off inv, isLeatLane l = true → w < 2 ^ 48 → off < blockSymbols → s.laneStage l = 4 → markerGood w = true →
    s.polarityOk l inv = true → mkPreset w = 0xF → mkStep w = 7 → (s.lane l).eqSent = false → (s.lane l).req = none →
    (s.lane l).gap = false ∨ mkAck w = false →
    EndsIn (.laneMarkerReceive l w off inv true) s fun t => (t.lane l).eqSent = true ∧ (t.lane l).eqGot = true ∧ t.laneStage l = 5)
  ∧ (∀ s l w off inv fom, isLeatLane l = true → w < 2 ^ 48 → off < blockSymbols → markerGood w = true → s.polarityOk l inv = true →
    (s.laneStage l = 4 → exec (.laneMarkerReceive l w off inv fom) s = .next ((s.markerSeen l w).markerEq l w fom))
    ∧ (s.laneStage l = 5 → exec (.laneMarkerReceive l w off inv fom) s = .next (s.markerSeen l w))
    ∧ (s.inService l = true → exec (.laneMarkerReceive l w off inv fom) s = .next
        ((s.markerSeen l w).markerServed l w ((s.lane l).phase, s.rd fSER_LSTAT_LPOS_RX l))))
  ∧ (∀ s l w off inv fom, isLeatLane l = true → w < 2 ^ 48 → off < blockSymbols → 4 ≤ s.laneStage l → s.laneStage l ≤ 7 →
    markerGood w = false ∨ s.polarityOk l inv = false →
    exec (.laneMarkerReceive l w off inv fom) s = .next ((s.inc fSER_LERR_MARKERR l).markerBad l))
  ∧ (∀ s l w off inv fom, isLeatLane l = true → w < 2 ^ 48 → off < blockSymbols →
    s.laneStage l < 3 ∨ 7 < s.laneStage l ∨ (s.laneStage l = 3 ∧ s.rdb fSER_LCTL_ALIGNMAN l = true ∧ off ≠ (s.lane l).offset) →
    exec (.laneMarkerReceive l w off inv fom) s = .next s)
  ∧ (∀ s l at_, isLeatLane l = true → 3 ≤ s.laneStage l → s.inService l = false →
    EndsIn (.laneStuffViolation l at_) s fun t => t.rd fSER_LERR_STUFFERR l = min 0xFF (s.rd fSER_LERR_STUFFERR l + 1))
  ∧ (∀ s l at_, isLeatLane l = true → s.laneStage l < 3 → exec (.laneStuffViolation l at_) s = .next s)
  ∧ (∀ s l at_, isLeatLane l = true → s.inService l = true → ((s.lane l).stuff.filter fun u => decide (at_ ≤ u + 256)).length < 3 →
    EndsIn (.laneStuffViolation l at_) s fun t =>
      t.rd fSER_LERR_STUFFERR l = min 0xFF (s.rd fSER_LERR_STUFFERR l + 1) ∧ t.laneStage l = s.laneStage l)
  ∧ (∀ s l at_, isLeatLane l = true → s.inService l = true → 3 ≤ ((s.lane l).stuff.filter fun u => decide (at_ ≤ u + 256)).length →
    s.lkActive (laneLink l) = false →
    EndsIn (.laneStuffViolation l at_) s fun t =>
      t.rd fSER_LERR_STUFFERR l = min 0xFF (s.rd fSER_LERR_STUFFERR l + 1) ∧ t.laneStage l = 1 ∧ t.rd fSER_LSTAT_FAILCAUSE l = 7)
  ∧ (∀ s l w off inv, isLeatLane l = true → w < 2 ^ 48 → off < blockSymbols → s.laneStage l = 3 → s.rdb fSER_LCTL_ALIGNMAN l = false →
    markerGood w = true → s.polarityOk l inv = true → (s.lane l).good < 3 →
    ∀ fom, EndsIn (.laneMarkerReceive l w off inv fom) s fun t =>
      t.laneStage l = 3 ∧ t.rd fSER_LSTAT_PIDX_RX l = mkPidx w ∧ t.rd fSER_LSTAT_LPOS_RX l = mkLpos w
      ∧ (t.lane l).link = mkLink w ∧ (t.lane l).node = mkNode w ∧ (t.lane l).offset = off ∧ (t.lane l).inv = inv)
  ∧ (∀ s l w off inv, isLeatLane l = true → w < 2 ^ 48 → off < blockSymbols → s.laneStage l = 3 → s.rdb fSER_LCTL_ALIGNMAN l = false →
    markerGood w = false ∨ s.polarityOk l inv = false →
    ∀ fom, EndsIn (.laneMarkerReceive l w off inv fom) s fun t =>
      t.rd fSER_LERR_MARKERR l = min 0xFF (s.rd fSER_LERR_MARKERR l + 1) ∧ (t.lane l).good = 0 ∧ t.laneStage l = 3)
  ∧ (∀ s l, isLeatLane l = true → s.laneStage l = 3 →
    exec (.laneMarkerMissing l) s = .next (s.laneMod l fun n => { n with good := 0 }))
  ∧ (∀ s l, isLeatLane l = true → s.inService l = true → (s.lane l).bad = 0 →
    exec (.laneMarkerMissing l) s = .next (s.laneMod l fun n => { n with bad := 1 }))
  ∧ (∀ s l, isLeatLane l = true → s.laneStage l ≠ 3 → s.inService l = false → exec (.laneMarkerMissing l) s = .next s)
  ∧ (∀ s l w off inv fom, isLeatLane l = true → w < 2 ^ 48 → off < blockSymbols → s.laneStage l = 3 → s.rdb fSER_LCTL_ALIGNMAN l = false →
    markerGood w = true → s.polarityOk l inv = true → (s.lane l).good = 3 → (s.lane l).offset = off → (s.lane l).inv = inv →
    s.lkActive (laneLink l) = false → (∀ m ∈ linkLanes (laneLink l), m ≠ l → (s.lane m).known = false) →
    EndsIn (.laneMarkerReceive l w off inv fom) s fun t =>
      t.laneStage l = 4 ∧ t.rd fSER_LSTAT_MARKLOCK l = 1 ∧ t.rd fSER_LSTAT_RXINV l = b2n inv ∧ t.rd fSER_TXEQ_PRESET l = 4)
  ∧ (∀ s l, isLeatLane l = true → s.inService l = true → (s.lane l).bad = 1 → s.lkActive (laneLink l) = false →
    EndsIn (.laneMarkerMissing l) s fun t => t.laneStage l = 1 ∧ t.rd fSER_LSTAT_FAILCAUSE l = 6)

/-- Ports (R34, R123 to R128, R137): a disabled port takes its configuration where it is placed and completes no combination that is refused; a write
that completes one is recorded as that conflict, before any other test (log entry 62); an enabled port keeps its configuration but for ENABLE; training that ends, or ends anew, shows in PRT_PORTSTAT and at the lanes in use, and a lost link clears it, is counted and is an event; a hot reset or a
Link Disable of an upstream link resets its port; FLR resets what it names, and nothing where it names nothing; VF Enable and NumVFs are the
host's, within TotalVFs; instances enter a block that overlaps no other port's, and one that would is refused.  Each of these commands completes in every state. -/
def Obligations.PortsAndLinks : Prop :=
  (∀ (s t : State) p val, isPort p = true → val < 2 ^ 32 → s.discards (fieldsAt fPRT_PORTCFG_ENABLE.addr) p val = false →
    bitOf s.pwr.culvert (tileOfPort p) = false → s.portOdd val = false →
    t = s.setRW (fieldsAt fPRT_PORTCFG_ENABLE.addr) p val → s.enabled p = false → s.dlUp p = false → t.portPlaced p = true →
    s.unmanages t = false → t.portConflict p = none →
    EndsIn (.portConfigWrite p val) s fun u =>
      Took (fieldsAt fPRT_PORTCFG_ENABLE.addr) p val u ∧ (bitOf val 0 = true → u.rd fPRT_PORTSTAT_LTSSM p = 0))
  ∧ (∀ (s t : State) p val, isPort p = true → val < 2 ^ 32 → s.discards (fieldsAt fPRT_PORTCFG_ENABLE.addr) p val = false →
    bitOf s.pwr.culvert (tileOfPort p) = false → s.portOdd val = false →
    t = s.setRW (fieldsAt fPRT_PORTCFG_ENABLE.addr) p val → t.portConflict p = none → s.enabled p = true →
    s.word (fieldsAt fPRT_PORTCFG_ENABLE.addr) p / 2 ≠ t.word (fieldsAt fPRT_PORTCFG_ENABLE.addr) p / 2 →
    exec (.portConfigWrite p val) s = .next (s.cfgErr 10))
  ∧ (∀ (s t : State) p val, isPort p = true → val < 2 ^ 32 → s.discards (fieldsAt fPRT_PORTCFG_ENABLE.addr) p val = false →
    bitOf s.pwr.culvert (tileOfPort p) = false → s.portOdd val = false →
    t = s.setRW (fieldsAt fPRT_PORTCFG_ENABLE.addr) p val → t.portConflict p = none →
    (s.enabled p = false ∧ t.portPlaced p = false
      ∧ (t.enabled p = true ∨ s.word (fieldsAt fPRT_PORTCFG_ENABLE.addr) p / 2 ≠ t.word (fieldsAt fPRT_PORTCFG_ENABLE.addr) p / 2))
      ∨ s.unmanages t = true → exec (.portConfigWrite p val) s = .next (s.cfgErr 10))
  ∧ (∀ (s t : State) p val c a b, isPort p = true → val < 2 ^ 32 → s.discards (fieldsAt fPRT_PORTCFG_ENABLE.addr) p val = false →
    bitOf s.pwr.culvert (tileOfPort p) = false → s.portOdd val = false →
    t = s.setRW (fieldsAt fPRT_PORTCFG_ENABLE.addr) p val → t.portConflict p = some (c, a, b) →
    exec (.portConfigWrite p val) s = .next (s.conflict c a b))
  ∧ (∀ (s t : State) p val, isPort p = true → val < 2 ^ 32 → s.discards (fieldsAt fPRT_PORTCFG_ENABLE.addr) p val = false →
    bitOf s.pwr.culvert (tileOfPort p) = false → s.portOdd val = false →
    t = s.setRW (fieldsAt fPRT_PORTCFG_ENABLE.addr) p val → t.portConflict p = none → s.enabled p = true →
    s.word (fieldsAt fPRT_PORTCFG_ENABLE.addr) p / 2 = t.word (fieldsAt fPRT_PORTCFG_ENABLE.addr) p / 2 → s.unmanages t = false →
    exec (.portConfigWrite p val) s = .next ((t.portMod p fun x => { x with loaded := true }).portApply p true))
  ∧ (∀ s p val, isPort p = true → val < 2 ^ 32 →
    s.discards (fieldsAt fPRT_PORTCFG_ENABLE.addr) p val = true ∨ bitOf s.pwr.culvert (tileOfPort p) = true →
    exec (.portConfigWrite p val) s = .next s)
  ∧ (∀ s p val, isPort p = true → val < 2 ^ 32 → s.portOdd val = true → exec (.portConfigWrite p val) s = .next s)
  ∧ (∀ s p width rate cache mem f68 pre reversed inv, isPort p = true → rate < 8 → inv < 2 ^ 16 → s.canTrain p width rate = true →
    s.dlUp p = false → s.mayTrain p = true →
    EndsIn (.portLinkUp p width ⟨rate, f68, pre⟩ cache mem ⟨reversed, inv⟩) s fun t =>
      t.rd fPRT_PORTSTAT_LTSSM p = 4 ∧ t.rd fPRT_PORTSTAT_NEGWIDTH p = width ∧ t.rd fPRT_PORTSTAT_RATE p = rate ∧ t.dlUp p = true
      ∧ t.rd fPRT_PORTSTAT_REVERSED p = b2n reversed ∧ (t.portS p).precode = (rate == 4 && pre)
      ∧ t.rd fPRT_PORTSTAT_CXLCACHE p = b2n (s.rdb fPRT_PORTCFG_PROTO p && cache && !s.rdb fPRT_PORTCFG_ROLE p)
      ∧ t.rd fPRT_PORTSTAT_CXLMEM p = b2n (s.rdb fPRT_PORTCFG_PROTO p && mem)
      ∧ t.rd fPRT_PORTSTAT_FLIT p = b2n (flitMode rate (s.rdb fPRT_PORTCFG_PROTO p && ((cache && !s.rdb fPRT_PORTCFG_ROLE p) || mem)) f68)
      ∧ t.rd fPRT_PORTSTAT_DEGRADED p = b2n (decide (width < 4 * quadsOf (s.rd fPRT_PORTCFG_WIDTH p)))
      ∧ (∀ l ∈ s.lanesUsed p width reversed, t.rd fSER_LSTAT_RATE l = rate ∧ t.rd fSER_LSTAT_CDRLOCK l = 1
        ∧ t.rd fSER_LSTAT_RXINV l = b2n (bitOf inv (l - 4 * p)))
      ∧ (∀ l ∈ s.portLanes p, l ∉ s.lanesUsed p width reversed → t.rd fSER_LSTAT_CDRLOCK l = 0))
  ∧ (∀ s p width rate cache mem f68 pre reversed inv, isPort p = true → rate < 8 → inv < 2 ^ 16 → s.canTrain p width rate = true →
    s.dlUp p = true → s.rd fPRT_PORTSTAT_LTSSM p = 3 →
    EndsIn (.portLinkUp p width ⟨rate, f68, pre⟩ cache mem ⟨reversed, inv⟩) s fun t =>
      t.rd fPRT_PORTSTAT_LTSSM p = 4 ∧ t.rd fPRT_PORTSTAT_NEGWIDTH p = width ∧ t.rd fPRT_PORTSTAT_RATE p = rate
      ∧ t.rd fPRT_PORTSTAT_DEGRADED p = b2n (decide (width < 4 * quadsOf (s.rd fPRT_PORTCFG_WIDTH p)))
      ∧ t.rd fPRT_PORTSTAT_CXLCACHE p = s.rd fPRT_PORTSTAT_CXLCACHE p ∧ t.rd fPRT_PORTSTAT_CXLMEM p = s.rd fPRT_PORTSTAT_CXLMEM p)
  ∧ (∀ s p width rate cache mem f68 pre reversed inv, isPort p = true → width < 32 → rate < 8 → inv < 2 ^ 16 →
    s.canTrain p width rate = false ∨ (s.dlUp p = false ∧ s.mayTrain p = false) ∨ (s.dlUp p = true ∧ s.rd fPRT_PORTSTAT_LTSSM p ≠ 3) →
    exec (.portLinkUp p width ⟨rate, f68, pre⟩ cache mem ⟨reversed, inv⟩) s = .next s)
  ∧ (∀ s p, isPort p = true → s.dlUp p = true → s.upstream p = false → s.rdb fPRT_PORTSTAT_CXLCACHE p = false →
    s.rdb fPRT_PORTSTAT_CXLMEM p = false → s.swc = {} → s.weir.held = [] →
    EndsIn (.portDlDown p) s fun t =>
      t.dlUp p = false ∧ t.rd fPRT_PORTSTAT_LTSSM p = 0 ∧ t.rd fPRT_PORTSTAT_NEGWIDTH p = 0
      ∧ t.rd fPRT_ERR_LINKDOWN p = satAdd fPRT_ERR_LINKDOWN.width (s.rd fPRT_ERR_LINKDOWN p) 1)
  ∧ (∀ s p, isPort p = true → s.dlUp p = true → exec (.portDlDown p) s = .next (s.linkLost p))
  ∧ (∀ s p disable, isPort p = true → s.upstream p = true → s.dlUp p = true →
    exec (.hotResetReceived p disable) s =
      .next ((s.portMod p fun x => { x with hot := true }).portReset p (if disable then 6 else 8) !disable))
  ∧ (∀ s p, isPort p = true → s.dlUp p = false → exec (.portDlDown p) s = .next s)
  ∧ (∀ s p disable, isPort p = true → s.upstream p = true → s.dlUp p = true → s.rdb fPRT_PORTSTAT_CXLCACHE p = false →
    s.rdb fPRT_PORTSTAT_CXLMEM p = false → s.swc = {} → s.weir.held = [] → s.listed fPRT_VPPB_STATE = [] →
    EndsIn (.hotResetReceived p disable) s fun t =>
      t.dlUp p = false ∧ t.rd fPRT_PORTSTAT_LTSSM p = (if disable then 6 else 8) ∧ (t.portS p).hot = true
      ∧ SMap.get {} t.ten.vfs p = {})
  ∧ (∀ s p disable, isPort p = true → s.upstream p = false ∨ s.dlUp p = false → exec (.hotResetReceived p disable) s = .next s)
  ∧ (∀ s p, isPort p = true → (s.portS p).hot = true → s.listed fPRT_VPPB_STATE = [] →
    Ends (.hotResetEnd p) s (s.portMod p fun x => { x with hot := false }) [(fPRT_PORTSTAT_LTSSM, p, 0)])
  ∧ (∀ s p, isPort p = true → (s.portS p).hot = true →
    exec (.hotResetEnd p) s = .next (((s.portMod p fun x => { x with hot := false }).wr fPRT_PORTSTAT_LTSSM p 0).releasePeers p))
  ∧ (∀ s p, isPort p = true → (s.portS p).hot = false → exec (.hotResetEnd p) s = .next s)
  ∧ (∀ s p, isPort p = true → s.upstream p = true → exec (.flrPf p) s = .next (s.pfReset p))
  ∧ (∀ s p, isPort p = true → s.upstream p = false → exec (.flrPf p) s = .next s)
  ∧ (∀ s p vf, isPort p = true → vf < 8193 → s.upstream p = true → 1 ≤ vf → vf ≤ (SMap.get {} s.ten.vfs p).num →
    (SMap.get {} s.ten.vfs p).enable = true → s.tiOf p vf < 8192 → exec (.flrVf p vf) s = .next (s.tenFlr (s.tiOf p vf)))
  ∧ (∀ s p vf, isPort p = true → vf < 8193 →
    s.upstream p = false ∨ vf = 0 ∨ (SMap.get {} s.ten.vfs p).num < vf ∨ (SMap.get {} s.ten.vfs p).enable = false ∨ 8192 ≤ s.tiOf p vf →
    exec (.flrVf p vf) s = .next s)
  ∧ (∀ s p enable n, isPort p = true → n < 2 ^ 16 → s.upstream p = false ∨ 64 * s.rd fPRT_TIBLK_CNT p < n →
    exec (.vfEnable p enable n) s = .next s)
  ∧ (∀ s p ti, isPort p = true → s.upstream p = true → s.listed fTEN_TISTAT_STATE = [ti] → 64 * s.rd fPRT_TIBLK_BASE p ≤ ti →
    ti < 64 * s.rd fPRT_TIBLK_BASE p + 64 * s.rd fPRT_TIBLK_CNT p → 2 ≤ s.tstate ti → s.tstate ti ≤ 4 →
    EndsIn (.flrPf p) s fun t => t.tstate ti = 5 ∧ SMap.get {} t.ten.vfs p = {})
  ∧ (∀ s p vf, isPort p = true → vf < 8193 → s.upstream p = true → 1 ≤ vf → vf ≤ (SMap.get {} s.ten.vfs p).num →
    (SMap.get {} s.ten.vfs p).enable = true → s.tiOf p vf < 8192 → 2 ≤ s.tstate (s.tiOf p vf) → s.tstate (s.tiOf p vf) ≤ 4 →
    EndsIn (.flrVf p vf) s fun t => t.tstate (s.tiOf p vf) = 5 ∧ t.rd fTEN_TISTAT_UNPLANNED (s.tiOf p vf) =
      (if s.tstate (s.tiOf p vf) = 4 then s.rd fTEN_TISTAT_UNPLANNED (s.tiOf p vf) else 1))
  ∧ (∀ s p enable n, isPort p = true → n < 2 ^ 16 → s.upstream p = true → n ≤ 64 * s.rd fPRT_TIBLK_CNT p →
    EndsIn (.vfEnable p enable n) s fun t =>
      SMap.get {} t.ten.vfs p = { enable := enable && decide (s.rd fPRT_TIBLK_CNT p ≠ 0), num := n })
  ∧ (∀ s p val, isPort p = true → val < 2 ^ 32 → s.discards (fieldsAt fPRT_TIBLK_BASE.addr) p val = false →
    bitOf s.pwr.culvert (tileOfPort p) = false → (SMap.get {} s.ten.vfs p).enable = false →
    (∀ q, q < 64 → q ≠ p → fPRT_TIBLK_CNT.of val = 0 ∨ s.rd fPRT_TIBLK_CNT q = 0
      ∨ s.rd fPRT_TIBLK_BASE q + s.rd fPRT_TIBLK_CNT q ≤ fPRT_TIBLK_BASE.of val
      ∨ fPRT_TIBLK_BASE.of val + fPRT_TIBLK_CNT.of val ≤ s.rd fPRT_TIBLK_BASE q) →
    EndsIn (.prtTiblkWrite p val) s fun t =>
      Took (fieldsAt fPRT_TIBLK_BASE.addr) p val t
      ∧ (∀ i, i < 64 * fPRT_TIBLK_CNT.of val → 64 * fPRT_TIBLK_BASE.of val + i < 8192 → s.tstate (64 * fPRT_TIBLK_BASE.of val + i) = 0 →
        t.tstate (64 * fPRT_TIBLK_BASE.of val + i) = 1))
  ∧ (∀ s p val, isPort p = true → val < 2 ^ 32 → s.discards (fieldsAt fPRT_TIBLK_BASE.addr) p val = false →
    bitOf s.pwr.culvert (tileOfPort p) = false → (SMap.get {} s.ten.vfs p).enable = true → exec (.prtTiblkWrite p val) s = .next (s.cfgErr 10))
  ∧ (∀ s p q val, isPort p = true → val < 2 ^ 32 → s.discards (fieldsAt fPRT_TIBLK_BASE.addr) p val = false →
    bitOf s.pwr.culvert (tileOfPort p) = false → q < 64 → q ≠ p → 0 < fPRT_TIBLK_CNT.of val → 0 < s.rd fPRT_TIBLK_CNT q →
    fPRT_TIBLK_BASE.of val < s.rd fPRT_TIBLK_BASE q + s.rd fPRT_TIBLK_CNT q →
    s.rd fPRT_TIBLK_BASE q < fPRT_TIBLK_BASE.of val + fPRT_TIBLK_CNT.of val → exec (.prtTiblkWrite p val) s = .next (s.cfgErr 10))
  ∧ (∀ s p val, isPort p = true → val < 2 ^ 32 →
    s.discards (fieldsAt fPRT_TIBLK_BASE.addr) p val = true ∨ bitOf s.pwr.culvert (tileOfPort p) = true →
    exec (.prtTiblkWrite p val) s = .next s)

/-- Bindings (R131, R132, R134, R177, R178): Bind and Unbind vPPB are background commands of the manager port, turned away with the code of the
case that applies; a bind completes, or waits for the owner's answer and is given up without one; an unbind waits for the link, asks the host
for it, or cuts the binding; a claim of a peer is held for a port that nothing holds, and released by UNBIND; PORTRESET reaches the claimed
target, and its release lets a port out of Hot Reset.  On a link that is not ACTIVE the peers' messages are nothing, and a malformed one is a
protocol error of the link. -/
def Obligations.BindingsOfVppbs : Prop :=
  (∀ s p vcs vppb kind port ld node, isPort p = true → isBridge vcs vppb = true → kind < 4 → port < 64 → ld < 16 → node < 16 →
    s.isManager p = true → (s.portS p).cci = none → s.bindCode (32 * vcs + vppb) kind port ld node = 0 → kind < 2 → s.mirrorOf port = none →
    EndsIn (.bindVppb p vcs vppb kind port ld node) s fun t =>
      t.rd fPRT_VPPB_STATE (32 * vcs + vppb) = 1 ∧ t.rd fPRT_VPPB_KIND (32 * vcs + vppb) = kind
      ∧ t.rd fPRT_VPPB_PORT (32 * vcs + vppb) = port ∧ (t.portS p).cci = some (32 * vcs + vppb) ∧ t.out = .cci p 1 [] :: s.out)
  ∧ (∀ s p vcs vppb kind port ld node, isPort p = true → isBridge vcs vppb = true → kind < 4 → port < 64 → ld < 16 → node < 16 →
    s.isManager p = true → (s.portS p).cci = none → s.bindCode (32 * vcs + vppb) kind port ld node ≠ 0 →
    exec (.bindVppb p vcs vppb kind port ld node) s = .next (s.cciSay p (s.bindCode (32 * vcs + vppb) kind port ld node)))
  ∧ (∀ s p vcs vppb kind port ld node, isPort p = true → isBridge vcs vppb = true → kind < 4 → port < 64 → ld < 16 → node < 16 →
    s.isManager p = false → exec (.bindVppb p vcs vppb kind port ld node) s = .next (s.cciSay p 3))
  ∧ (∀ s p vcs vppb kind port ld node, isPort p = true → isBridge vcs vppb = true → kind < 4 → port < 64 → ld < 16 → node < 16 →
    s.isManager p = true →
    ((s.portS p).cci.isSome = true → exec (.bindVppb p vcs vppb kind port ld node) s = .next (s.cciSay p 6))
    ∧ (∀ k, (s.portS p).cci = none → s.bindCode (32 * vcs + vppb) kind port ld node = 0 → kind < 2 → s.mirrorOf port = some k →
      exec (.bindVppb p vcs vppb kind port ld node) s = .next ((s.conflict 5 port k).cciSay p 2))
    ∧ ((s.portS p).cci = none → s.bindCode (32 * vcs + vppb) kind port ld node = 0 → kind = 2 →
      EndsIn (.bindVppb p vcs vppb kind port ld node) s fun t =>
        t.rd fPRT_VPPB_STATE (32 * vcs + vppb) = 1 ∧ t.rd fPRT_VPPB_KIND (32 * vcs + vppb) = 2 ∧ t.rd fPRT_VPPB_PORT (32 * vcs + vppb) = port
        ∧ t.rd fPRT_VPPB_NODE (32 * vcs + vppb) = node ∧ (t.portS p).cci = some (32 * vcs + vppb) ∧ Out.cci p 1 [] ∈ t.out))
  ∧ (∀ s vcs vppb, isBridge vcs vppb = true →
    (2 ≤ s.rd fPRT_VPPB_KIND (32 * vcs + vppb) → exec (.bindComplete vcs vppb) s = .next s)
    ∧ (s.rd fPRT_VPPB_KIND (32 * vcs + vppb) ≠ 2 → exec (.bindRspTimeout vcs vppb) s = .next s)
    ∧ (s.rd fPRT_VPPB_STATE (32 * vcs + vppb) ≠ 3 →
      exec (.unbindComplete vcs vppb) s = .next s ∧ exec (.unbindTimeout vcs vppb) s = .next s)
    ∧ (s.rd fPRT_VPPB_KIND (32 * vcs + vppb) < 2 → s.dlUp (s.rd fPRT_VPPB_PORT (32 * vcs + vppb)) = true →
      exec (.unbindComplete vcs vppb) s = .next s)
    ∧ (s.rd fPRT_VPPB_KIND (32 * vcs + vppb) < 2 → s.dlUp (s.rd fPRT_VPPB_PORT (32 * vcs + vppb)) = false →
      exec (.unbindTimeout vcs vppb) s = .next s))
  ∧ (∀ s p vcs vppb code, isPort p = true → isBridge vcs vppb = true →
    (s.isManager p = false ∧ code = 3)
      ∨ (s.isManager p = true ∧ code = 6
        ∧ ((s.portS p).cci.isSome = true ∨ s.rd fPRT_VPPB_STATE (32 * vcs + vppb) = 1 ∨ s.rd fPRT_VPPB_STATE (32 * vcs + vppb) = 3))
      ∨ (s.isManager p = true ∧ (s.portS p).cci = none ∧ s.rd fPRT_VPPB_STATE (32 * vcs + vppb) = 2 ∧ vppb = 0 ∧ code = 2) →
    exec (.unbindWaitLinkDown p vcs vppb) s = .next (s.cciSay p code) ∧ exec (.unbindManagedHotRemove p vcs vppb) s = .next (s.cciSay p code)
    ∧ exec (.unbindSurpriseHotRemove p vcs vppb) s = .next (s.cciSay p code))
  ∧ (∀ s vcs vppb, isBridge vcs vppb = true → s.rd fPRT_VPPB_STATE (32 * vcs + vppb) = 1 → s.rd fPRT_VPPB_KIND (32 * vcs + vppb) < 2 →
    EndsIn (.bindComplete vcs vppb) s fun t => t.rd fPRT_VPPB_STATE (32 * vcs + vppb) = 2 ∧ Out.hotplug vcs vppb 3 ∈ t.out)
  ∧ (∀ s vcs vppb, isBridge vcs vppb = true → s.rd fPRT_VPPB_STATE (32 * vcs + vppb) = 1 → s.rd fPRT_VPPB_KIND (32 * vcs + vppb) = 2 →
    EndsIn (.bindRspTimeout vcs vppb) s fun t => t.rd fPRT_VPPB_STATE (32 * vcs + vppb) = 0 ∧ t.rd fPRT_VPPB_KIND (32 * vcs + vppb) = 0)
  ∧ (∀ s vcs vppb, isBridge vcs vppb = true → s.rd fPRT_VPPB_STATE (32 * vcs + vppb) ≠ 1 →
    exec (.bindComplete vcs vppb) s = .next s ∧ exec (.bindRspTimeout vcs vppb) s = .next s)
  ∧ (∀ s p vcs vppb, isPort p = true → isBridge vcs vppb = true → 0 < vppb → s.isManager p = true → (s.portS p).cci = none →
    s.rd fPRT_VPPB_STATE (32 * vcs + vppb) = 2 →
    EndsIn (.unbindWaitLinkDown p vcs vppb) s (fun t =>
      t.rd fPRT_VPPB_STATE (32 * vcs + vppb) = 3 ∧ (t.bridge (32 * vcs + vppb)).unbind = 1
      ∧ (t.portS p).cci = some (32 * vcs + vppb) ∧ t.out = .cci p 1 [] :: s.out)
    ∧ EndsIn (.unbindManagedHotRemove p vcs vppb) s (fun t =>
      t.rd fPRT_VPPB_STATE (32 * vcs + vppb) = 3 ∧ (t.bridge (32 * vcs + vppb)).unbind = 2
      ∧ t.out = .hotplug vcs vppb 0 :: .cci p 1 [] :: s.out)
    ∧ EndsIn (.unbindSurpriseHotRemove p vcs vppb) s (fun t =>
      t.rd fPRT_VPPB_STATE (32 * vcs + vppb) = 0 ∧ t.rd fPRT_VPPB_KIND (32 * vcs + vppb) = 0
      ∧ t.rd fPRT_VPPB_PORT (32 * vcs + vppb) = 0))
  ∧ (∀ s p vcs vppb, isPort p = true → isBridge vcs vppb = true → s.isManager p = true → (s.portS p).cci = none →
    s.rd fPRT_VPPB_STATE (32 * vcs + vppb) = 0 →
    exec (.unbindWaitLinkDown p vcs vppb) s = .next (s.cciSay p 2) ∧ exec (.unbindManagedHotRemove p vcs vppb) s = .next (s.cciSay p 2)
    ∧ exec (.unbindSurpriseHotRemove p vcs vppb) s = .next (s.cciSay p 2))
  ∧ (∀ s vcs vppb, isBridge vcs vppb = true → s.rd fPRT_VPPB_STATE (32 * vcs + vppb) = 3 →
    2 ≤ s.rd fPRT_VPPB_KIND (32 * vcs + vppb) ∨ s.dlUp (s.rd fPRT_VPPB_PORT (32 * vcs + vppb)) = false →
    EndsIn (.unbindComplete vcs vppb) s fun t =>
      t.rd fPRT_VPPB_STATE (32 * vcs + vppb) = 0 ∧ (t.bridge (32 * vcs + vppb)).unbind = 0 ∧ Out.hotplug vcs vppb 8 ∈ t.out)
  ∧ (∀ s vcs vppb, isBridge vcs vppb = true → s.rd fPRT_VPPB_STATE (32 * vcs + vppb) = 3 →
    2 ≤ s.rd fPRT_VPPB_KIND (32 * vcs + vppb) ∨ s.dlUp (s.rd fPRT_VPPB_PORT (32 * vcs + vppb)) = true →
    EndsIn (.unbindTimeout vcs vppb) s fun t =>
      t.rd fPRT_VPPB_STATE (32 * vcs + vppb) = 2 ∧ (t.bridge (32 * vcs + vppb)).unbind = 0)
  ∧ (∀ s k hdr trl port ld vcs, s.expects k 3 hdr trl → port < 64 → ld < 256 → vcs < 256 → s.downstream port = true →
    s.naming port ld = [] → s.peerClaimed port ld = false → s.isPool port = false → s.mirrorOf port = none →
    EndsIn (.bindClaim k hdr trl port ld vcs) s fun t =>
      t.prt.claims = { port := port, ld := ld, node := unitNode hdr, vcs := vcs } :: s.prt.claims)
  ∧ (∀ s k hdr trl port ld vcs, s.expects k 3 hdr trl → port < 64 → ld < 256 → vcs < 256 →
    s.downstream port = false ∨ s.naming port ld ≠ [] ∨ s.peerClaimed port ld = true ∨ s.isPool port = true ∨ (s.mirrorOf port).isSome = true →
    EndsIn (.bindClaim k hdr trl port ld vcs) s fun t => t.prt.claims = s.prt.claims)
  ∧ (∀ s k hdr trl port ld refused b, s.expects k 3 hdr trl → port < 64 → ld < 256 → s.listed fPRT_VPPB_STATE = [b] →
    s.rd fPRT_VPPB_STATE b = 1 → s.rd fPRT_VPPB_KIND b = 2 → s.rd fPRT_VPPB_PORT b = port → s.rd fPRT_VPPB_NODE b = unitNode hdr →
    EndsIn (.bindRsp k hdr trl port ld refused) s fun t => t.rd fPRT_VPPB_STATE b = (if refused then 0 else 2))
  ∧ (∀ s k hdr trl port ld refused, s.expects k 3 hdr trl → port < 64 → ld < 256 →
    (∀ b ∈ s.listed fPRT_VPPB_STATE, s.rd fPRT_VPPB_STATE b ≠ 1 ∨ s.rd fPRT_VPPB_KIND b ≠ 2 ∨ s.rd fPRT_VPPB_PORT b ≠ port
      ∨ s.rd fPRT_VPPB_NODE b ≠ unitNode hdr) →
    EndsIn (.bindRsp k hdr trl port ld refused) s fun t => t.prt = s.prt ∧ (∀ b, t.rd fPRT_VPPB_STATE b = s.rd fPRT_VPPB_STATE b))
  ∧ (∀ s k hdr trl port ld, s.expects k 3 hdr trl → port < 64 → ld < 256 →
    EndsIn (.unbind k hdr trl port ld) s fun t =>
      ∀ c, c ∈ t.prt.claims ↔ c ∈ s.prt.claims ∧ ¬ (c.port = port ∧ c.ld = ld ∧ c.node = unitNode hdr))
  ∧ (∀ s k hdr trl port release, s.expects k 3 hdr trl → port < 64 →
    (∀ c ∈ s.prt.claims, c.port ≠ port ∨ c.node ≠ unitNode hdr) →
    EndsIn (.portreset k hdr trl port release) s fun t => t.prt = s.prt ∧ t.rd fLEAT_RXSEQ_EXP k = (s.rd fLEAT_RXSEQ_EXP k + 1) % 4096)
  ∧ (∀ s k hdr trl port c, s.expects k 3 hdr trl → port < 64 → s.prt.claims = [c] → c.port = port → c.node = unitNode hdr → c.ld = 0xFF →
    s.rdb fPRT_PORTCFG_ROLE port = false →
    EndsIn (.portreset k hdr trl port false) s (fun t => (t.portS port).hot = true ∧ t.rd fPRT_PORTSTAT_LTSSM port = 8 ∧ t.dlUp port = false)
    ∧ ((s.portS port).hot = true →
      EndsIn (.portreset k hdr trl port true) s fun t => (t.portS port).hot = false ∧ t.rd fPRT_PORTSTAT_LTSSM port = 0))
  ∧ (∀ s k hdr trl port c, s.expects k 3 hdr trl → port < 64 → s.prt.claims = [c] → c.port = port → c.node = unitNode hdr → c.ld ≠ 0xFF →
    EndsIn (.portreset k hdr trl port false) s fun t => Out.ldReset port c.ld ∈ t.out)
  ∧ (∀ s k hdr trl port ld vcs x, isLink k = true → hdr < 2 ^ 32 → trl < 2 ^ 32 → port < 64 → ld < 256 → vcs < 256 → s.lkActive k = false →
    exec (.bindClaim k hdr trl port ld vcs) s = .next s ∧ exec (.bindRsp k hdr trl port ld x) s = .next s
    ∧ exec (.unbind k hdr trl port ld) s = .next s ∧ exec (.portreset k hdr trl port x) s = .next s)
  ∧ (∀ s k hdr trl port ld vcs x, isLink k = true → hdr < 2 ^ 32 → trl < 2 ^ 32 → port < 64 → ld < 256 → vcs < 256 → s.lkActive k = true →
    hdrBad 3 hdr trl true = true →
    exec (.bindClaim k hdr trl port ld vcs) s = .next (s.protoError k) ∧ exec (.bindRsp k hdr trl port ld x) s = .next (s.protoError k)
    ∧ exec (.unbind k hdr trl port ld) s = .next (s.protoError k) ∧ exec (.portreset k hdr trl port x) s = .next (s.protoError k))

/-- The FM-API at a port (R134, R135): a component command interface that is busy answers 6, a command that only the manager port may send is answered 3
elsewhere, but for the two that ask about the port's own VCS (which payload byte names it is the model's choice, log entry 110), one that names a
bridge or a target with a background command in progress is answered 6, a body that is no well-formed request of this node is answered 2, and fabric time, readiness and the record of changes are answered with what the registers and the ring hold. -/
def Obligations.FmApiAnswers : Prop :=
  (∀ s p, isPort p = true → s.upstream p = true → (s.portS p).cci.isSome = true →
    (∀ op bs, op < 2 ^ 16 → exec (.fmApiCommand p op bs) s = .next (s.cciSay p 6))
    ∧ (∀ body good hang, exec (.apvelTransact p body good hang) s = .next (s.cciSay p 6))
    ∧ (∀ a n, a < 2 ^ 64 → n < 2 ^ 16 → exec (.getWaterlogRecords p a n) s = .next (s.cciSay p 6))
    ∧ exec (.getFabricTime p) s = .next (s.cciSay p 6) ∧ exec (.getPortReadiness p) s = .next (s.cciSay p 6))
  ∧ (∀ s p, isPort p = true → s.upstream p = true → (s.portS p).cci = none → s.isManager p = false →
    (∀ op bs, op < 2 ^ 16 → op ≠ 0x5100 → op ≠ 0x5200 → exec (.fmApiCommand p op bs) s = .next (s.cciSay p 3))
    ∧ (∀ bs, exec (.fmApiCommand p 0x5100 bs) s = .next (s.cciSay p 0))
    ∧ (∀ bs, exec (.fmApiCommand p 0x5200 bs) s = .next (s.cciSay p (if bs = [] ∨ byteAt bs 0 = p then 0 else 3)))
    ∧ (∀ body good hang, exec (.apvelTransact p body good hang) s = .next (s.cciSay p 3))
    ∧ (∀ a n, a < 2 ^ 64 → n < 2 ^ 16 → exec (.getWaterlogRecords p a n) s = .next (s.cciSay p 3))
    ∧ exec (.getPortReadiness p) s = .next (s.cciSay p 3))
  ∧ (∀ s p op bs, isPort p = true → s.upstream p = true → (s.portS p).cci = none → s.isManager p = true → op < 2 ^ 16 →
    exec (.fmApiCommand p op bs) s = .next (s.cciSay p (if fmSet op then (if s.fmBusy op bs then 6 else 0) else 3)))
  ∧ (∀ s p body good hang, isPort p = true → s.upstream p = true → (s.portS p).cci = none → s.isManager p = true →
    parseBody body = none → exec (.apvelTransact p body good hang) s = .next (s.cciSay p 2))
  ∧ (∀ s p body good hang b, isPort p = true → s.upstream p = true → (s.portS p).cci = none → s.isManager p = true →
    parseBody body = some b → b.kind ≠ 1 ∨ (b.node ≠ s.ownNode ∧ b.any = false) →
    exec (.apvelTransact p body good hang) s = .next (s.cciSay p 2))
  ∧ (∀ s p body good hang b, isPort p = true → s.upstream p = true → (s.portS p).cci = none → s.isManager p = true →
    parseBody body = some b → b.kind = 1 → b.node = s.ownNode ∨ b.any = true →
    exec (.apvelTransact p body good hang) s = .next
      (s.dictTake { cmdOf { path := 2, mac := 0, port := p, tag := 0 } b false good hang with later := false }))
  ∧ (∀ s p start, isPort p = true → s.upstream p = true → (s.portS p).cci = none → s.isManager p = true → start < 2 ^ 64 →
    (∀ n, n = 0 ∨ (64 < n ∧ n < 2 ^ 16) → exec (.getWaterlogRecords p start n) s = .next (s.cciSay p 2))
    ∧ (∀ n, 1 ≤ n → n ≤ 64 →
      exec (.getWaterlogRecords p start n) s = .next
        (let q := max start s.oldestSeq
         let rs := (List.range (min n (s.headSeq - q))).filterMap fun i => s.record (q + i)
         s.cciSay p 0 (toLeBytes 2 rs.length ++ rs.flatMap recBytes)))
    ∧ (∀ n, 1 ≤ n → n ≤ 64 → s.headSeq ≤ start →
      EndsIn (.getWaterlogRecords p start n) s fun t => t.out = .cci p 0 (toLeBytes 2 0) :: s.out ∧ t.regs = s.regs)
    ∧ (∀ r, s.oldestSeq ≤ start → start < s.headSeq → s.record start = some r →
      EndsIn (.getWaterlogRecords p start 1) s fun t => t.out = .cci p 0 (toLeBytes 2 1 ++ recBytes r) :: s.out ∧ t.regs = s.regs))
  ∧ (∀ s p, isPort p = true → s.upstream p = true → (s.portS p).cci = none →
    EndsIn (.getFabricTime p) s fun t =>
      t.out = .cci p 0 (toLeBytes 10 s.time80 ++ toLeBytes 1 s.ftQual) :: s.out ∧ t.regs = s.regs)
  ∧ (∀ s p, isPort p = true → s.upstream p = true → (s.portS p).cci = none → s.isManager p = true →
    EndsIn (.getPortReadiness p) s fun t =>
      t.out = .cci p 0 (toLeBytes 4 (s.rd fPWR_PORTRDY_READY 0) ++ toLeBytes 4 (s.rd fPWR_PORTRDY_READY 1)
        ++ toLeBytes 4 (s.rd fPWR_CRSLATE_LATE 0) ++ toLeBytes 4 (s.rd fPWR_CRSLATE_LATE 1)) :: s.out ∧ t.regs = s.regs)
  ∧ (∀ s p op bs body good hang, isPort p = true → s.upstream p = false → op < 2 ^ 16 →
    exec (.fmApiCommand p op bs) s = .next s ∧ exec (.apvelTransact p body good hang) s = .next s
    ∧ exec (.getFabricTime p) s = .next s ∧ exec (.getPortReadiness p) s = .next s
    ∧ (∀ a n, a < 2 ^ 64 → n < 2 ^ 16 → exec (.getWaterlogRecords p a n) s = .next s))

/-- Hot-plug slots and L1 (R34, R141 to R145, R426): a slot binding is taken in the port's tile, and one that completes a combination of R34 is
recorded as that conflict, before any other test (log entry 62); presence and the button show in PRT_SLOTSTAT, or at the host of the bridge that is bound; a
host's controls read back with Command Completed, and Power Controller Control acts on the Sluice slot unless the manager overrides it; an idle
port enters L1 and leaves it by Recovery. -/
def Obligations.HotPlugAndIdlePorts : Prop :=
  (∀ s p val, isPort p = true → val < 2 ^ 32 → s.discards (fieldsAt fPRT_SLOTCFG_SLOT.addr) p val = false →
    bitOf s.pwr.culvert (tileOfPort p) = false → (s.setRW (fieldsAt fPRT_SLOTCFG_SLOT.addr) p val).portConflict p = none →
    fPRT_SLOTCFG_SLOTEN.of val = 0 ∨ (fPRT_SLOTCFG_SLOT.of val / 8 = tileOfPort p
      ∧ (∀ q, q < 64 → s.rdb fPRT_SLOTCFG_SLOTEN q = true → (q = p ↔ s.rd fPRT_SLOTCFG_SLOT q = fPRT_SLOTCFG_SLOT.of val))) →
    EndsIn (.prtSlotcfgWrite p val) s fun t => Took (fieldsAt fPRT_SLOTCFG_SLOT.addr) p val t)
  ∧ (∀ s p val, isPort p = true → val < 2 ^ 32 → s.discards (fieldsAt fPRT_SLOTCFG_SLOT.addr) p val = false →
    bitOf s.pwr.culvert (tileOfPort p) = false → (s.setRW (fieldsAt fPRT_SLOTCFG_SLOT.addr) p val).portConflict p = none →
    fPRT_SLOTCFG_SLOTEN.of val = 1 → fPRT_SLOTCFG_SLOT.of val / 8 ≠ tileOfPort p
      ∨ (∃ q, q < 64 ∧ s.rdb fPRT_SLOTCFG_SLOTEN q = true ∧ ¬ (q = p ↔ s.rd fPRT_SLOTCFG_SLOT q = fPRT_SLOTCFG_SLOT.of val)) →
    exec (.prtSlotcfgWrite p val) s = .next (s.cfgErr 10))
  ∧ (∀ s p val, isPort p = true → val < 2 ^ 32 →
    s.discards (fieldsAt fPRT_SLOTCFG_SLOT.addr) p val = true ∨ bitOf s.pwr.culvert (tileOfPort p) = true →
    exec (.prtSlotcfgWrite p val) s = .next s)
  ∧ (∀ s p val c a b, isPort p = true → val < 2 ^ 32 → s.discards (fieldsAt fPRT_SLOTCFG_SLOT.addr) p val = false →
    bitOf s.pwr.culvert (tileOfPort p) = false → (s.setRW (fieldsAt fPRT_SLOTCFG_SLOT.addr) p val).portConflict p = some (c, a, b) →
    exec (.prtSlotcfgWrite p val) s = .next (s.conflict c a b))
  ∧ (∀ s p present, isPort p = true → (s.portS p).detect ≠ present →
    EndsIn (.presenceChange p present) s fun t =>
      (t.portS p).detect = present ∧ t.rdb fPRT_SLOTSTAT_PDCHG p = true
      ∧ (present = true ∨ s.portSlot p = none → t.rdb fPRT_SLOTSTAT_PRESENT p = present))
  ∧ (∀ s p present, isPort p = true → (s.portS p).detect = present → exec (.presenceChange p present) s = .next s)
  ∧ (∀ s p, isPort p = true → s.rdb fPRT_SLOTCFG_SLOTEN p = true → s.bound p = [] →
    Ends (.attentionButtonPress p) s s [(fPRT_SLOTSTAT_BTN, p, 1)])
  ∧ (∀ s p b, isPort p = true → s.rdb fPRT_SLOTCFG_SLOTEN p = true → s.bound p = [b] → s.rdb fPRT_PORTCFG_HPCAP p = true →
    EndsIn (.attentionButtonPress p) s fun t =>
      bitOf (t.bridge b).status 0 = true ∧ t.out = .hotplug (b / 32) (b % 32) 0 :: s.out ∧ t.regs = s.regs)
  ∧ (∀ s p, isPort p = true → s.rdb fPRT_SLOTCFG_SLOTEN p = true → s.bound p ≠ [] →
    exec (.attentionButtonPress p) s = .next (s.slotEvent p 0))
  ∧ (∀ s vcs vppb, isBridge vcs vppb = true → 0 < vppb →
    exec (.powerControllerOn vcs vppb) s = .next (s.hostPower (32 * vcs + vppb) true)
    ∧ exec (.powerControllerOff vcs vppb) s = .next (s.hostPower (32 * vcs + vppb) false))
  ∧ (∀ s vcs vppb p, isBridge vcs vppb = true → 0 < vppb → s.slotOfBridge (32 * vcs + vppb) = some p →
    s.portSlot p = none ∨ s.rd fPRT_SLOTCFG_PCTL p ≠ 1 →
    exec (.powerFaultClear vcs vppb) s =
      .next (s.bridgeMod (32 * vcs + vppb) fun x => { x with status := putBit x.status 1 false }))
  ∧ (∀ s p, isPort p = true → s.rdb fPRT_SLOTCFG_SLOTEN p = false → exec (.attentionButtonPress p) s = .next s)
  ∧ (∀ s vcs vppb p j, isBridge vcs vppb = true → 0 < vppb → s.slotOfBridge (32 * vcs + vppb) = some p →
    s.rdb fPRT_SLOTCTL_OVR p = false → s.rd fPRT_SLOTCFG_PCTL p = 1 → s.portSlot p = some j →
    (bitOf (s.bridge (32 * vcs + vppb)).status 1 = false → s.slotState j = 1 → s.rdb fSLU_STAT_PRES j = true → (s.slot j).held = true →
      s.fed j = true → s.ramping j < s.rd fSLU_CTL_MAXRAMP 0 →
      EndsIn (.powerControllerOn vcs vppb) s fun t =>
        t.slotState j = 2 ∧ (t.bridge (32 * vcs + vppb)).off = false ∧ t.out = .hotplug vcs vppb 4 :: s.out)
    ∧ (s.slotState j = 4 →
      EndsIn (.powerControllerOff vcs vppb) s fun t => t.slotState j = 5)
    ∧ (s.slotState j = 6 →
      EndsIn (.powerFaultClear vcs vppb) s fun t => t.slotState j = 1 ∧ bitOf (t.bridge (32 * vcs + vppb)).status 1 = false))
  ∧ (∀ s vcs vppb, isBridge vcs vppb = true → 0 < vppb → s.slotOfBridge (32 * vcs + vppb) = none →
    EndsIn (.powerControllerOn vcs vppb) s (fun t => t.regs = s.regs ∧ (t.bridge (32 * vcs + vppb)).off = false
      ∧ bitOf (t.bridge (32 * vcs + vppb)).status 4 = true)
    ∧ EndsIn (.powerControllerOff vcs vppb) s (fun t => t.regs = s.regs ∧ (t.bridge (32 * vcs + vppb)).off = true
      ∧ bitOf (t.bridge (32 * vcs + vppb)).status 4 = true)
    ∧ EndsIn (.powerFaultClear vcs vppb) s (fun t => t.regs = s.regs ∧ bitOf (t.bridge (32 * vcs + vppb)).status 1 = false))
  ∧ (∀ s vcs vppb attn pwri, isBridge vcs vppb = true → 0 < vppb → attn < 4 → pwri < 4 →
    EndsIn (.indicatorWrite vcs vppb attn pwri) s fun t =>
      t.regs = s.regs ∧ t.out = .hotplug vcs vppb 4 :: s.out
      ∧ (t.bridge (32 * vcs + vppb)).attn = (if attn = 0 then (s.bridge (32 * vcs + vppb)).attn else attn)
      ∧ (t.bridge (32 * vcs + vppb)).pwri = (if pwri = 0 then (s.bridge (32 * vcs + vppb)).pwri else pwri))
  ∧ (∀ (s t : State) p val, isPort p = true → val < 2 ^ 32 → s.discards (fieldsAt fPRT_SLOTCTL_OVR.addr) p val = false →
    bitOf s.pwr.culvert (tileOfPort p) = false → t = s.takeWord (fieldsAt fPRT_SLOTCTL_OVR.addr) p val →
    (t.slotIsOff p = s.slotIsOff p ∨ (t.slotIsOff p = false ∧ t.slotFaulted p = true) →
      exec (.prtSlotctlWrite p val) s = .next t ∧ Took (fieldsAt fPRT_SLOTCTL_OVR.addr) p val t)
    ∧ (t.slotIsOff p ≠ s.slotIsOff p → t.slotIsOff p = true ∨ t.slotFaulted p = false →
      exec (.prtSlotctlWrite p val) s = .next (t.slotPower p (!t.slotIsOff p))))
  ∧ (∀ s p val, isPort p = true → val < 2 ^ 32 →
    s.discards (fieldsAt fPRT_SLOTCTL_OVR.addr) p val = true ∨ bitOf s.pwr.culvert (tileOfPort p) = true →
    exec (.prtSlotctlWrite p val) s = .next s)
  ∧ (∀ s p idle sub, isPort p = true → sub < 3 → s.rd fPRT_ASPM_IDLE p ≤ idle → s.rd fPRT_PORTSTAT_LTSSM p = 4 →
    (∀ o ∈ s.swc.owed, o.x ≠ p ∧ o.m.entered ≠ p) → s.agentBusy p = false → s.holdsAny p = false →
    s.aspmOn p = true ∨ s.rd fARCH_PROFILE_ACTIVE 0 = 4 ∨ (s.downstream p = true ∧ s.bound p = [] ∧ s.rdb fPRT_ASPM_FORCE p = true) →
    Ends (.l1Entry p idle sub) s (s.each (s.portLanes p) State.adaptKeep)
      [(fPRT_PORTSTAT_L1SUB, p, if s.rd fARCH_PROFILE_ACTIVE 0 = 4 then sub else 0), (fPRT_PORTSTAT_LTSSM, p, 5)])
  ∧ (∀ s p idle sub, isPort p = true → sub < 3 → idle < s.rd fPRT_ASPM_IDLE p ∨ s.rd fPRT_PORTSTAT_LTSSM p ≠ 4 ∨ s.agentBusy p = true ∨ s.holdsAny p = true ∨
    (∃ o ∈ s.swc.owed, o.x = p ∨ o.m.entered = p) ∨
    (s.aspmOn p = false ∧ s.rd fARCH_PROFILE_ACTIVE 0 ≠ 4 ∧ (s.rdb fPRT_ASPM_FORCE p = false ∨ s.downstream p = false ∨ s.bound p ≠ [])) →
    exec (.l1Entry p idle sub) s = .next s)
  ∧ (∀ s p, isPort p = true → s.rd fPRT_PORTSTAT_LTSSM p = 5 →
    Ends (.l1Exit p) s s [(fPRT_PORTSTAT_L1SUB, p, 0), (fPRT_PORTSTAT_LTSSM, p, 3)])
  ∧ (∀ s p, isPort p = true → s.rd fPRT_PORTSTAT_LTSSM p ≠ 5 → exec (.l1Exit p) s = .next s)
  ∧ (∀ s p, isPort p = true → Ends (.clkreqPartnerAssert p) s s [(fPRT_PORTSTAT_L1SUB, p, 0)])

/-- Control and timers of a Leat link (R156, R157, R159, R164, R165, R169, R173): training that lasts 20 ms, and a retrain that does, take the link DOWN; nine
receivers that hold start the exchange of INIT units, with sequence numbers from 0 on the way from TRAINING; ENABLE 0 disables the link;
a dozing link wakes by a retrain; a command that meets another state of the link changes nothing; an ACTIVE link acknowledges, and resends its oldest unit when the replay timer expires, the fourth time
with a retrain. -/
def Obligations.LeatControlAndTimers : Prop :=
  (∀ s k val, isLink k = true → val < 2 ^ 32 → s.rd fBOOT_ID_STEPPING 0 ≠ 0 → s.discards (fieldsAt 0xC01000) k val = false →
    bitOf s.pwr.culvert (tileOfLink k) = false → bitOf val 0 = false → s.lkState k = 0 →
    EndsIn (.leatCtlWrite k val) s fun t => Took (fieldsAt 0xC01000) k val t ∧ t.lkState k = 0)
  ∧ (∀ s k val, isLink k = true → val < 2 ^ 32 → s.rd fBOOT_ID_STEPPING 0 ≠ 0 → s.discards (fieldsAt 0xC01000) k val = false →
    bitOf s.pwr.culvert (tileOfLink k) = false → bitOf val 0 = false → s.rdb fLEAT_CTL_ENABLE k = true → s.lkState k = 1 →
    EndsIn (.leatCtlWrite k val) s fun t => t.lkState k = 0 ∧ t.rd fLEAT_STAT_DOWNCAUSE k = 7)
  ∧ (∀ s k val, isLink k = true → val < 2 ^ 32 → s.rd fBOOT_ID_STEPPING 0 ≠ 0 →
    s.discards (fieldsAt 0xC01000) k (putBit val 7 true) = false → bitOf s.pwr.culvert (tileOfLink k) = false → bitOf val 0 = true →
    s.lkState k = 3 →
    EndsIn (.leatRetrainCmd k val) s fun t =>
      t.lkState k = 5 ∧ t.rd fLEAT_ERR2_RETRAINS k = satAdd fLEAT_ERR2_RETRAINS.width (s.rd fLEAT_ERR2_RETRAINS k) 1)
  ∧ (∀ s k, isLink k = true → s.lkState k = 1 → (s.lk k).exch = false → s.readyCount k = 9 →
    (s.majority k).map Prod.snd ≠ some (s.lk k).own →
    EndsIn (.leatLanesReady k) s fun t =>
      t.lkState k = 2 ∧ (t.lk k).exch = true ∧ (t.lk k).resume = false ∧ t.rd fLEAT_TXSEQ_NEXT k = 0 ∧ t.rd fLEAT_RXSEQ_EXP k = 0
      ∧ t.out.length = s.out.length + 9)
  ∧ (∀ s k, isLink k = true → s.lkState k = 1 → (s.lk k).exch = false → s.readyCount k = 9 →
    (s.majority k).map Prod.snd = some (s.lk k).own →
    EndsIn (.leatLanesReady k) s fun t => t.lkState k = 6 ∧ t.rd fLEAT_STAT_DOWNCAUSE k = 3)
  ∧ (∀ s k val, isLink k = true → val < 2 ^ 32 →
    (bitOf s.pwr.culvert (tileOfLink k) = false →
      exec (.leatCtlWrite k val) s = .next (s.leatCtl k val) ∧ exec (.leatRetrainCmd k val) s = .next (s.leatCtl k (putBit val 7 true)))
    ∧ (bitOf s.pwr.culvert (tileOfLink k) = true → exec (.leatCtlWrite k val) s = .next s ∧ exec (.leatRetrainCmd k val) s = .next s))
  ∧ (∀ s k, isLink k = true → s.lkState k = 5 → (s.lk k).exch = false → s.awaitsLanes k = true → s.readyCount k = 9 →
    EndsIn (.leatLanesReady k) s fun t => (t.lk k).exch = true ∧ (t.lk k).resume = true ∧ t.regs = s.regs)
  ∧ (∀ s k, isLink k = true → s.awaitsLanes k = false ∨ s.readyCount k ≠ 9 → exec (.leatLanesReady k) s = .next s)
  ∧ (∀ s k late, isLink k = true → s.lkState k = 5 → s.awaitsLanes k = true → (s.majority k).isSome = true →
    (if late then (s.lk k).degOk = true ∧ 4 ≤ s.heldLanes k ∧ s.heldLanes k ≤ 7 else s.heldLanes k = 8) →
    EndsIn (.leatDegradedWaitExpire k late) s fun t =>
      (t.lk k).exch = true ∧ (t.lk k).resume = true ∧ t.regs = s.regs)
  ∧ (∀ s k late, isLink k = true → s.awaitsLanes k = true →
    (s.readyCount k = 9 → exec (.leatLanesReady k) s = .next (s.startExch k))
    ∧ ((s.majority k).isSome = true → (if late then (s.lk k).degOk = true ∧ 4 ≤ s.heldLanes k ∧ s.heldLanes k ≤ 7 else s.heldLanes k = 8) →
      exec (.leatDegradedWaitExpire k late) s = .next (s.startExch k)))
  ∧ (∀ s k late, isLink k = true → s.awaitsLanes k = true → s.majority k = none →
    (if late then (s.lk k).degOk = true ∧ 4 ≤ s.heldLanes k ∧ s.heldLanes k ≤ 7 else s.heldLanes k = 8) →
    EndsIn (.leatDegradedWaitExpire k late) s fun t =>
      ∀ l ∈ linkLanes k, s.laneStage l ≠ 0 → t.laneStage l = 1 ∧ t.rd fSER_LSTAT_FAILCAUSE l = 8)
  ∧ (∀ s k late, isLink k = true →
    s.awaitsLanes k = false ∨ (if late then (s.lk k).degOk = false ∨ s.heldLanes k < 4 ∨ 7 < s.heldLanes k else s.heldLanes k ≠ 8) →
    exec (.leatDegradedWaitExpire k late) s = .next s)
  ∧ (∀ s k, isLink k = true →
    (s.lkState k ≠ 1 → s.lkState k ≠ 2 → exec (.leatTrainingTimeout k) s = .next s)
    ∧ (s.lkState k ≠ 5 ∨ (s.lk k).exch = true → exec (.leatRetrainIdleEnd k) s = .next s)
    ∧ (s.lkState k ≠ 5 → exec (.leatRetrainTimeout k) s = .next s)
    ∧ (s.lkState k ≠ 6 ∨ s.rdb fLEAT_CTL_ENABLE k = false ∨ (s.lk k).iso = true → exec (.leatDownRetry k) s = .next s)
    ∧ (s.lkActive k = false ∨ s.dozeOk k = false → exec (.leatDozeIdle k) s = .next s)
    ∧ (s.lkState k ≠ 4 → exec (.leatWake k) s = .next s)
    ∧ (s.lkActive k = false → (∀ n, exec (.leatAckTimer k n) s = .next s) ∧ exec (.leatReplayTimeout k) s = .next s)
    ∧ ((s.lk k).replay = [] → exec (.leatReplayTimeout k) s = .next s)
    ∧ (∀ y, y < 8 → s.lkActive k = false ∨ (s.lk k).spareAsk ≠ some y → exec (.spareReqRepeat k y) s = .next s)
    ∧ (∀ y, y < 8 → s.lkActive k = true → (s.lk k).spareAsk = some y → exec (.spareReqRepeat k y) s = .next (s.mgmtSend k [1, y])))
  ∧ (∀ s k, isLink k = true → s.lkActive k = true → s.dozeOk k = true →
    exec (.leatDozeIdle k) s = .next ((s.mgmtSend k [7]).lkMod k fun l => { l with lpAsked := true }))
  ∧ (∀ s k, isLink k = true → s.lkState k = 1 ∨ s.lkState k = 2 →
    EndsIn (.leatTrainingTimeout k) s fun t =>
      t.lkState k = 6 ∧ t.rd fLEAT_STAT_DOWNCAUSE k = 1 ∧ t.rd fLEAT_TXMAP_MAP k = 0xFFFFFFFF
      ∧ (∀ i, i < 9 → t.laneStage (laneOf k i) = 0))
  ∧ (∀ s k, isLink k = true → s.lkState k = 5 → (s.lk k).exch = false →
    EndsIn (.leatRetrainIdleEnd k) s fun t => (t.lk k).quiet = false ∧
      ∀ i, i < 9 → t.laneStage (laneOf k i) = 1 ∧ t.rd fSER_TXEQ_PRESET (laneOf k i) = 4 ∧ (t.lane (laneOf k i)).tx = 0xE)
  ∧ (∀ s k, isLink k = true → s.lkState k = 5 →
    EndsIn (.leatRetrainTimeout k) s fun t => t.lkState k = 6 ∧ t.rd fLEAT_STAT_DOWNCAUSE k = 2 ∧ ∀ i, i < 9 → t.laneStage (laneOf k i) = 0)
  ∧ (∀ s k, isLink k = true → s.lkState k = 6 → s.rdb fLEAT_CTL_ENABLE k = true → (s.lk k).iso = false →
    EndsIn (.leatDownRetry k) s fun t =>
      t.lkState k = 1 ∧ (t.lk k).rate = s.rd fLEAT_CTL_RATE k ∧ (∀ i, i < 9 → t.laneStage (laneOf k i) = 1))
  ∧ (∀ s k y, isLink k = true → y < 8 → s.lkActive k = true → (s.lk k).spareAsk = some y → s.replayRoom k 1 = true →
    (s.lk k).mgmtWait = [] → (s.lk k).tx0 = [] → (s.lk k).tx1 = [] → (s.lk k).tx2 = [] →
    EndsIn (.spareReqRepeat k y) s fun t =>
      t.rd fLEAT_TXSEQ_NEXT k = (s.rd fLEAT_TXSEQ_NEXT k + 1) % 4096 ∧ (t.lk k).replay.length = (s.lk k).replay.length + 1)
  ∧ (∀ s k, isLink k = true → s.lkActive k = true → s.dozeOk k = true →
    EndsIn (.leatDozeIdle k) s fun t =>
      (t.lk k).lpAsked = true ∧ t.rd fLEAT_TXSEQ_NEXT k = (s.rd fLEAT_TXSEQ_NEXT k + 1) % 4096)
  ∧ (∀ s k, isLink k = true → s.lkState k = 4 →
    EndsIn (.leatWake k) s fun t => t.lkState k = 5 ∧ t.rd fLEAT_LP_DOZING k = 0 ∧ t.out = s.out)
  ∧ (∀ s k n, isLink k = true → s.lkActive k = true →
    EndsIn (.leatAckTimer k n) s fun t =>
      t.regs = s.regs
      ∧ (∀ hdr trl ws, hdr = s.hdrTo k 2 3 60 63 →
          trl = trlWord (s.rd fLEAT_TXSEQ_NEXT k) 0 (s.lk k).credNext ((s.lk k).lim (s.lk k).credNext % 2 ^ 17) →
          ws = beWords (ackBytes (s.ackNow k (n % 2 ^ 32))) → t.out = .unit k hdr trl ws (unitCrc hdr trl ws) :: s.out)
      ∧ (t.lk k).credNext = ((s.lk k).credNext + 1) % 3)
  ∧ (∀ s k u us, isLink k = true → s.lkActive k = true → (s.lk k).replay = u :: us → s.rd fLEAT_REPLAY_TOCNT k < 3 →
    EndsIn (.leatReplayTimeout k) s fun t =>
      t.rd fLEAT_REPLAY_TOCNT k = s.rd fLEAT_REPLAY_TOCNT k + 1 ∧ t.lkState k = 3
      ∧ t.rd fLEAT_ERR_REPLAYTO k = satAdd fLEAT_ERR_REPLAYTO.width (s.rd fLEAT_ERR_REPLAYTO k) 1)
  ∧ (∀ s k u us, isLink k = true → s.lkActive k = true → (s.lk k).replay = u :: us → s.rd fLEAT_REPLAY_TOCNT k = 3 →
    EndsIn (.leatReplayTimeout k) s fun t => t.lkState k = 5)

/-- Units received on a Leat link (R150, R151, R156 to R158, R161, R163 to R165): the sequenced unit that is expected is released in order and a
duplicate is counted; IDLE shows the sender's number; a valid ACK frees units and one that is not valid is counted; the first INIT unit of a
fresh exchange brings the partner's limits, and a round trip beyond 6,000 ns takes the link DOWN; a unit whose CRC fails is counted, and a fault
in one whose CRC is good, or in a message that ends in it, starts a retrain; a unit of another network or node is a misroute, and one on a link that is
not ACTIVE is nothing; a sequenced unit ahead of the one expected is held.  A unit is 256 bytes with its CRC; lane y of W carries the bytes i with i mod W = y, four symbols
each, and the shares of the lanes put together are the unit: 512 units to a block at x8, 256 at x4. -/
def Obligations.LeatUnitsReceived : Prop :=
  (∀ s k hdr trl msgs, s.expects k 1 hdr trl → bitOf (s.lk k).cut (bitsOf hdr 26 2) = false → msgs.any msgWrong = false →
    EndsIn (.leatDataReceive k hdr trl msgs) s fun t =>
      t.rd fLEAT_RXSEQ_EXP k = (s.rd fLEAT_RXSEQ_EXP k + 1) % 4096
      ∧ t.rxq k (bitsOf hdr 26 2) =
        s.rxq k (bitsOf hdr 26 2)
          ++ [{ seq := bitsOf trl 20 12, vc := bitsOf hdr 26 2, mofs := bitsOf hdr 14 6, msgs := msgs, mis := false }])
  ∧ (∀ s k hdr trl msgs, isLink k = true → hdr < 2 ^ 32 → trl < 2 ^ 32 → s.lkActive k = false →
    exec (.leatDataReceive k hdr trl msgs) s = .next s ∧ exec (.leatIdleReceive k hdr trl) s = .next s
    ∧ (∀ a n, exec (.leatAckReceive k hdr trl a n) s = .next s)
    ∧ (∀ y, y < 8 → exec (.spareReq k hdr trl y) s = .next s) ∧ (∀ cause, cause < 256 → exec (.retrainReq k hdr trl cause) s = .next s)
    ∧ exec (.lpReq k hdr trl) s = .next s ∧ exec (.lpAck k hdr trl) s = .next s)
  ∧ (∀ s k hdr trl, isLink k = true → hdr < 2 ^ 32 → trl < 2 ^ 32 → s.lkActive k = true →
    (∀ msgs, hdrBad 1 hdr trl true = true ∨ msgs.any msgWrong = true → exec (.leatDataReceive k hdr trl msgs) s = .next (s.protoError k))
    ∧ (hdrBad 0 hdr trl false = true → exec (.leatIdleReceive k hdr trl) s = .next (s.protoError k))
    ∧ (hdrBad 0 hdr trl false = false → s.forUs k hdr = false → exec (.leatIdleReceive k hdr trl) s = .next (s.misroute k))
    ∧ (∀ a n, hdrBad 2 hdr trl false = true → exec (.leatAckReceive k hdr trl a n) s = .next (s.protoError k))
    ∧ (∀ a n, hdrBad 2 hdr trl false = false → s.forUs k hdr = false → exec (.leatAckReceive k hdr trl a n) s = .next (s.misroute k))
    ∧ (hdrBad 3 hdr trl true = true →
      (∀ y, y < 8 → exec (.spareReq k hdr trl y) s = .next (s.protoError k)) ∧ exec (.lpReq k hdr trl) s = .next (s.protoError k)
      ∧ exec (.lpAck k hdr trl) s = .next (s.protoError k))
    ∧ (∀ cause, cause < 256 → hdrBad 3 hdr trl false = true → exec (.retrainReq k hdr trl cause) s = .next (s.protoError k))
    ∧ (∀ cause, cause < 256 → hdrBad 3 hdr trl false = false → s.forUs k hdr = false →
      exec (.retrainReq k hdr trl cause) s = .next (s.misroute k)))
  ∧ (∀ s k hdr trl msgs, isLink k = true → hdr < 2 ^ 32 → trl < 2 ^ 32 → s.lkActive k = true → hdrBad 1 hdr trl true = false →
    msgs.any msgWrong = false → (bitsOf trl 20 12 + 4096 - s.rd fLEAT_RXSEQ_EXP k) % 4096 < 2048 →
    exec (.leatDataReceive k hdr trl msgs) s = .next
      (let u : RxUnit := { seq := bitsOf trl 20 12, vc := bitsOf hdr 26 2, mofs := bitsOf hdr 14 6, msgs := msgs, mis := !s.forUs k hdr }
       let t := ((s.rxUnit k u).takeCred k trl).lkMod k fun l => { l with dataAt := s.pwr.ns, lpAsked := false }
       (if s.forUs k hdr then t else t.misroute k).linkGo k))
  ∧ (∀ s k hdr trl msgs, isLink k = true → s.lkActive k = true → hdr < 2 ^ 32 → trl < 2 ^ 32 → hdrBad 1 hdr trl true = false →
    msgs.any msgWrong = false → 2048 ≤ (bitsOf trl 20 12 + 4096 - s.rd fLEAT_RXSEQ_EXP k) % 4096 →
    Ends (.leatDataReceive k hdr trl msgs) s s [(fLEAT_ERR_DUP, k, satAdd fLEAT_ERR_DUP.width (s.rd fLEAT_ERR_DUP k) 1)])
  ∧ (∀ s k hdr trl, isLink k = true → s.lkActive k = true → hdr < 2 ^ 32 → trl < 2 ^ 32 → hdrBad 0 hdr trl false = false →
    s.forUs k hdr = true → EndsIn (.leatIdleReceive k hdr trl) s fun t =>
      (t.lk k).shown = (if bitsOf trl 20 12 = s.rd fLEAT_RXSEQ_EXP k then none else some (bitsOf trl 20 12)))
  ∧ (∀ s k hdr trl (a : AckBody) n, isLink k = true → s.lkActive k = true → hdr < 2 ^ 32 → trl < 2 ^ 32 →
    hdrBad 2 hdr trl false = false → s.forUs k hdr = true → s.ackValid k a.ackSeq = true → (s.lk k).mgmtWait = [] →
    (s.lk k).tx0 = [] → (s.lk k).tx1 = [] → (s.lk k).tx2 = [] →
    EndsIn (.leatAckReceive k hdr trl a n) s fun t =>
      t.rd fLEAT_TXSEQ_ACKED k = a.ackSeq % 4096 ∧ (t.lk k).shown = (if bitsOf trl 20 12 = s.rd fLEAT_RXSEQ_EXP k then none else some (bitsOf trl 20 12))
      ∧ (t.lk k).replay.length = (s.lk k).replay.length - (a.ackSeq + 4096 - s.oldest k + 1) % 4096)
  ∧ (∀ s k hdr trl (a : AckBody) n, isLink k = true → s.lkActive k = true → hdr < 2 ^ 32 → trl < 2 ^ 32 →
    hdrBad 2 hdr trl false = false → s.forUs k hdr = true → s.ackValid k a.ackSeq = false →
    Ends (.leatAckReceive k hdr trl a n) s s [(fLEAT_ERR2_BADACK, k, satAdd fLEAT_ERR2_BADACK.width (s.rd fLEAT_ERR2_BADACK k) 1)])
  ∧ (∀ s k lane hdr trl (b : InitBody) n, isLink k = true → lane < 9 → hdr < 2 ^ 32 → trl < 2 ^ 32 → s.lkState k = 2 →
    hdrBad 4 hdr trl false = false → s.forUs k hdr = true → (s.lk k).exch = true → (s.lk k).resume = false → b.resume = false →
    b.echo = 0 ∨ roundTrip n b.echo b.hold ≤ 6000 → (s.lk k).assigned = false → SMap.get 0 (s.lk k).initSeen lane = 0 →
    EndsIn (.leatInitReceive k lane hdr trl b n) s fun t =>
      t.rd fLEAT_CRLIM_VALUE (3 * k) = b.limReq % 2 ^ 32 ∧ t.rd fLEAT_CRLIM_VALUE (3 * k + 1) = b.limSnp % 2 ^ 32
      ∧ t.rd fLEAT_CRLIM_VALUE (3 * k + 2) = b.limRsp % 2 ^ 32 ∧ (t.lk k).peerPool = (b.limReq, b.limSnp, b.limRsp)
      ∧ (t.lk k).peerAck = b.ackSeq ∧ t.lkState k = 2)
  ∧ (∀ s k lane hdr trl (b : InitBody) n, isLink k = true → lane < 9 → hdr < 2 ^ 32 → trl < 2 ^ 32 → s.lkState k = 2 →
    hdrBad 4 hdr trl false = false → s.forUs k hdr = true → (s.lk k).exch = true → b.resume = (s.lk k).resume → b.echo ≠ 0 →
    6000 < roundTrip n b.echo b.hold →
    EndsIn (.leatInitReceive k lane hdr trl b n) s fun t => t.lkState k = 6 ∧ t.rd fLEAT_STAT_DOWNCAUSE k = 4)
  ∧ (∀ s k lane hdr trl (b : InitBody) n, isLink k = true → lane < 9 → hdr < 2 ^ 32 → trl < 2 ^ 32 →
    (s.lkState k ≠ 2 → s.lkState k ≠ 5 → exec (.leatInitReceive k lane hdr trl b n) s = .next s)
    ∧ (s.lkState k = 2 ∨ s.lkState k = 5 →
      (hdrBad 4 hdr trl false = true → exec (.leatInitReceive k lane hdr trl b n) s = .next (s.protoError k))
      ∧ (hdrBad 4 hdr trl false = false → s.forUs k hdr = false → exec (.leatInitReceive k lane hdr trl b n) s = .next (s.misroute k))
      ∧ (hdrBad 4 hdr trl false = false → s.forUs k hdr = true → (s.lk k).exch = false ∨ b.resume ≠ (s.lk k).resume →
        exec (.leatInitReceive k lane hdr trl b n) s = .next s)))
  ∧ (∀ s k bytes, isLink k = true → bytes.length = 256 → s.lkState k = 0 → exec (.leatUnitCrcFail k bytes) s = .next s)
  ∧ (∀ s k bytes, isLink k = true → bytes.length = 256 → crc64 (bytes.take 248) ≠ beBytes (bytes.drop 248) → s.lkState k ≠ 0 →
    Ends (.leatUnitCrcFail k bytes) s s [(fLEAT_ERR_CRCERR, k, satAdd fLEAT_ERR_CRCERR.width (s.rd fLEAT_ERR_CRCERR k) 1)])
  ∧ (∀ s k bytes, isLink k = true → bytes.length = 256 → crc64 (bytes.take 248) = beBytes (bytes.drop 248) → s.lkActive k = true →
    (unitFault bytes = true → (s.lk k).protoAt = none →
      EndsIn (.leatUnitCrcFail k bytes) s fun t => t.lkState k = 5 ∧ t.rd fLEAT_ERR2_PROTO k = 1)
    ∧ (unitFault bytes = false → exec (.leatUnitCrcFail k bytes) s = .next s))
  ∧ (∀ hdr trl ws, ws.length ≤ 60 →
    (unitBytes hdr trl ws).length = 256 ∧ crc64 ((unitBytes hdr trl ws).take 248) = beBytes ((unitBytes hdr trl ws).drop 248))
  ∧ (∀ w (bs : List Byte), w = 8 ∨ w = 4 → bs.length = 256 →
    (∀ y, y < w → (laneShare w y bs).length = 256 / w ∧ (∀ j, j < 256 / w → (laneShare w y bs)[j]? = bs[w * j + y]?)
      ∧ (shareSyms (laneShare w y bs)).length = 4 * (256 / w))
    ∧ destripe ((List.range w).map fun y => laneShare w y bs) = bs)
  ∧ (unitsPerBlock 8 = 512 ∧ unitsPerBlock 4 = 256)
  ∧ (∀ s k hdr trl y j, s.expects k 3 hdr trl → y < 8 → (s.lk k).txSp = some j → s.testing (laneOf k j) = false →
    EndsIn (.spareReq k hdr trl y) s fun t =>
      t.rd fLEAT_TXMAP_MAP k = mapTo (s.rd fLEAT_TXMAP_MAP k) y j % 2 ^ 32 ∧ (t.lk k).txSp = none
      ∧ t.rd fLEAT_ERR2_SPARESW k = satAdd fLEAT_ERR2_SPARESW.width (s.rd fLEAT_ERR2_SPARESW k) 1)
  ∧ (∀ s k hdr trl cause, isLink k = true → s.lkActive k = true → hdr < 2 ^ 32 → trl < 2 ^ 32 → cause < 256 →
    hdrBad 3 hdr trl false = false → s.forUs k hdr = true →
    EndsIn (.retrainReq k hdr trl cause) s fun t =>
      t.lkState k = 5 ∧ t.rd fLEAT_ERR2_RETRAINS k = satAdd fLEAT_ERR2_RETRAINS.width (s.rd fLEAT_ERR2_RETRAINS k) 1)
  ∧ (∀ s k hdr trl, s.expects k 3 hdr trl → (s.lk k).lpAsked = true →
    EndsIn (.lpReq k hdr trl) s fun t => t.lkState k = 4 ∧ t.rd fLEAT_LP_DOZING k = 1)
  ∧ (∀ s k hdr trl, isLink k = true → hdr < 2 ^ 32 → trl < 2 ^ 32 →
    (∀ y, y < 8 → exec (.spareReq k hdr trl y) s = .next (s.rxMgmt k hdr trl fun u => u.spareReq k y))
    ∧ exec (.lpReq k hdr trl) s = .next (s.rxMgmt k hdr trl fun u =>
        if (u.lk k).lpAsked then u.doze k
        else if u.dozeOk k && decide ((u.lk k).dataAt + 1000 * u.rd fLEAT_LP_IDLE k ≤ u.pwr.ns) then (u.mgmtSend k [8]).doze k
        else u)
    ∧ exec (.lpAck k hdr trl) s = .next (s.rxMgmt k hdr trl fun u => if (u.lk k).lpAsked then u.doze k else u))
  ∧ (∀ s k hdr trl, s.expects k 3 hdr trl → (s.lk k).lpAsked = true →
    EndsIn (.lpAck k hdr trl) s fun t => t.lkState k = 4 ∧ t.rd fLEAT_LP_DOZING k = 1)
  ∧ (∀ s k hdr trl, s.expects k 3 hdr trl → (s.lk k).lpAsked = false →
    EndsIn (.lpAck k hdr trl) s fun t => t.lkState k = 3 ∧ t.rd fLEAT_RXSEQ_EXP k = (s.rd fLEAT_RXSEQ_EXP k + 1) % 4096)

/-- Mirror sessions and Turnout groups (R34, R197, R198, R201): the words of a session that is off are taken, its base when the high half comes; one
that is on takes only its DISABLE, its quota and its counters' words; enabling starts SEQ and WPTR at 0, and is refused for a bad analysis port or
a base that its size does not divide; a quota beyond half of the profile's cells is refused as conflict 4, and another is taken.  A group's
three words take effect together, unless a mirror's analysis port would become a member: conflict 7. -/
def Obligations.MirrorsAndGroups : Prop :=
  (∀ s k word val, k < 8 → word < 11 → val < 2 ^ 32 →
    (word < 7 ∧ word ≠ 0 ∧ word ≠ 4 ∧ s.rdb fTRN_MIR_EN k = false) ∨ 7 < word ∨ (word = 0 ∧ bitOf val 0 = false) →
    s.discards (wordFields 0x500100 word 11) k val = false →
    EndsIn (.mirrorSessionWrite k word val) s fun t => Took (wordFields 0x500100 word 11) k val t)
  ∧ (∀ s k word val, k < 8 → word < 11 → val < 2 ^ 32 → s.discards (wordFields 0x500100 word 11) k val = true →
    exec (.mirrorSessionWrite k word val) s = .next s)
  ∧ (∀ s k val, k < 8 → val < 2 ^ 32 → s.rdb fTRN_MIR_EN k = false → s.discards (wordFields 0x500100 4 11) k val = false →
    exec (.mirrorSessionWrite k 4 val) s = .next (s.stageLow (0x500110 + 64 * k) val))
  ∧ (∀ s k val low, k < 8 → val < 2 ^ 32 → low < 2 ^ 32 → s.rdb fTRN_MIR_EN k = false →
    s.discards (wordFields 0x500100 5 11) k val = false → SMap.get 0 s.stage (0x500110 + 64 * k) = low + 1 →
    EndsIn (.mirrorSessionWrite k 5 val) s fun t => t.rd fTRN_MIR_BASE_L k = fTRN_MIR_BASE_L.of low ∧ t.rd fTRN_MIR_BASE_H k = fTRN_MIR_BASE_H.of val)
  ∧ (∀ s k val, k < 8 → val < 2 ^ 32 → s.discards (wordFields 0x500100 7 11) k val = false →
    reservations (s.rd fRSV_RSPRES_TOTAL 0) (s.rd fARCH_PROFILE_ACTIVE 0) (s.quotasBut k + bitsOf val 0 16)
      ≤ halfCells (s.rd fARCH_PROFILE_ACTIVE 0) →
    EndsIn (.mirrorSessionWrite k 7 val) s fun t => Took (wordFields 0x500100 7 11) k val t)
  ∧ (∀ s k val, k < 8 → val < 2 ^ 32 → s.rdb fTRN_MIR_EN k = false → bitOf val 0 = true →
    s.discards (wordFields 0x500100 0 11) k val = false →
    (∀ a b, s.aportBad k (bitsOf val 11 6) (bitsOf val 4 7) = some (0, a, b) → exec (.mirrorSessionWrite k 0 val) s = .next (s.cfgErr 5))
    ∧ (∀ c a b, s.aportBad k (bitsOf val 11 6) (bitsOf val 4 7) = some (c, a, b) → c ≠ 0 →
      exec (.mirrorSessionWrite k 0 val) s = .next (s.conflict c a b)))
  ∧ (∀ (s t : State) k val, k < 8 → val < 2 ^ 32 → s.rdb fTRN_MIR_EN k = false → bitOf val 0 = true →
    s.discards (wordFields 0x500100 0 11) k val = false → s.aportBad k (bitsOf val 11 6) (bitsOf val 4 7) = none →
    t = s.takeWord (wordFields 0x500100 0 11) k val →
    (t.rd fTRN_MIR_BASE_L k + 2 ^ 32 * t.rd fTRN_MIR_BASE_H k) % 2 ^ t.rd fTRN_MIR_SIZE k ≠ 0 →
    exec (.mirrorSessionWrite k 0 val) s = .next (s.cfgErr 5))
  ∧ (∀ s k val, k < 8 → val < 2 ^ 32 → s.rdb fTRN_MIR_EN k = false → bitOf val 0 = true →
    s.discards (wordFields 0x500100 0 11) k val = false → s.aportBad k (bitsOf val 11 6) (bitsOf val 4 7) = none →
    (s.rd fTRN_MIR_BASE_L k + 2 ^ 32 * s.rd fTRN_MIR_BASE_H k) % 2 ^ s.rd fTRN_MIR_SIZE k = 0 →
    EndsIn (.mirrorSessionWrite k 0 val) s fun t =>
      t.rdb fTRN_MIR_EN k = true ∧ t.rd fTRN_MIR_SEQ k = 0 ∧ t.rd fTRN_MIR_WPTR k = 0)
  ∧ (∀ s k word val, k < 8 → word < 7 → word ≠ 0 → val < 2 ^ 32 → s.rdb fTRN_MIR_EN k = true →
    s.discards (wordFields 0x500100 word 11) k val = false → exec (.mirrorSessionWrite k word val) s = .next (s.cfgErr 5))
  ∧ (∀ s k val, k < 8 → val < 2 ^ 32 → s.discards (wordFields 0x500100 7 11) k val = false →
    halfCells (s.rd fARCH_PROFILE_ACTIVE 0) <
      reservations (s.rd fRSV_RSPRES_TOTAL 0) (s.rd fARCH_PROFILE_ACTIVE 0) (s.quotasBut k + bitsOf val 0 16) →
    exec (.mirrorSessionWrite k 7 val) s = .next (s.conflict 4 (s.rd fARCH_PROFILE_ACTIVE 0) 0))
  ∧ (∀ s g val, g < 4096 → val < 2 ^ 32 → 
    bitOf val 31 = false ∨ (∀ k, k < 8 → s.rdb fTRN_MIR_EN k = true →
      bitOf (s.rd fTRN_GRP_MEM_L g + s.rd fTRN_GRP_MEM_H g * 2 ^ 32 + bitsOf val 0 8 * 2 ^ 64) (s.rd fTRN_MIR_APORT k) = false) →
    EndsIn (.groupCommit g val) s fun t =>
      t.rd fTRN_GRP_MEM_K g = bitsOf val 0 8 ∧ t.rdb fTRN_GRP_VALID g = bitOf val 31
      ∧ SMap.get 0 t.swc.groups g =
        s.rd fTRN_GRP_MEM_L g + s.rd fTRN_GRP_MEM_H g * 2 ^ 32 + bitsOf val 0 8 * 2 ^ 64 + b2n (bitOf val 31) * 2 ^ 72)
  ∧ (∀ s g val k, g < 4096 → val < 2 ^ 32 → bitOf val 31 = true → k < 8 → s.rdb fTRN_MIR_EN k = true →
    bitOf (s.rd fTRN_GRP_MEM_L g + s.rd fTRN_GRP_MEM_H g * 2 ^ 32 + bitsOf val 0 8 * 2 ^ 64) (s.rd fTRN_MIR_APORT k) = true →
    (∀ j, j < k → s.rdb fTRN_MIR_EN j = false
      ∨ bitOf (s.rd fTRN_GRP_MEM_L g + s.rd fTRN_GRP_MEM_H g * 2 ^ 32 + bitsOf val 0 8 * 2 ^ 64) (s.rd fTRN_MIR_APORT j) = false) →
    exec (.groupCommit g val) s = .next (s.conflict 7 (s.rd fTRN_MIR_APORT k) (g / 16)))

/-- Messages in the core (R127, R181, R184, R187, R192, R196, R202 to R204, R335): a posted write for the Tender, whole at a port whose link is
up, takes the next place in its sub-queue, and waits for no other; an internal egress sends the message picked, and when it has gone its place is free; a Leat
link releases the first message of its receive queue; copies that have waited 2 ms are dropped; a stalled egress is marked; the
audit of an empty Reservoir gives back the cells that were lost.  Each command is the operation that its equation names, in every state and for
every form of message. -/
def Obligations.MessagesInTheCore : Prop :=
  (∀ s x sel here (m : Msg), x < 64 → sel < 3 → s.dlUp x = true → s.arriving x = none → m.kind = .ioPosted → m.space = .routed →
    m.group = none → m.dest = 0x7F → m.node = s.ownNode → s.stored s.swc.nextId = none →
    (∀ k, k < 8 → s.rdb fTRN_MIR_EN k = false) → s.rd fWEIR_HELD_LISTS 0 ≤ 16384 →
    m.cells ≤ here →
    EndsIn (.coreMessageEnqueue x sel here m 0) s fun t =>
      t.swc.nextId = s.swc.nextId + 1 ∧ t.queue 92 m.tc 0 = s.queue 92 m.tc 0 ++ [{ id := s.swc.nextId, before := [] }])
  ∧ (∀ s x sel here (m : Msg), x < 72 → sel < 3 → (s.enqueueFrom x sel here m).rd fWEIR_HELD_LISTS 0 ≤ 16384 →
    exec (.coreMessageEnqueue x sel here m 0) s = .next (s.enqueueFrom x sel here m))
  ∧ (∀ s x sel here (m : Msg), x < 72 → sel < 3 → 16384 < (s.enqueueFrom x sel here m).rd fWEIR_HELD_LISTS 0 →
    exec (.coreMessageEnqueue x sel here m 0) s = .next (s.inc fWEIR_ERR_HOLWAIT 0))
  ∧ (∀ s x credits err cell, x < 93 → cell < 5242880 → err < 3 → s.canSend x = true →
    exec (.egressSchedule x credits err cell) s = .next (s.schedule x credits err cell))
  ∧ (∀ s x credits cell, x < 93 → cell < 5242880 →
    exec (.egressSchedule x credits 3 cell) s = .next (s.queueFault x (cell / 5 % 8) (cell % 5)))
  ∧ (∀ s x sn d, x < 72 ∨ 88 ≤ x → x < 92 → s.sentNow x = some sn → s.stored sn.id = some d →
    exec (.messageDepart x) s = .next (if d.whole then s.depart x sn d else s))
  ∧ (∀ s sn d, s.sentNow 92 = some sn → s.stored sn.id = some d → d.whole = true →
    exec (.messageDepart 92) s =
      .next (((s.depart 92 sn d).answersIn sn.parts).each (sn.parts.filter isRegReq) State.regServe))
  ∧ (∀ s x, 72 ≤ x → x < 88 → exec (.messageDepart x) s = .next s)
  ∧ (∀ s, exec .turnoutAgeSweep s = .next (State.drainAll (s.each (s.swc.msgs.filter s.aged) fun s d => s.each d.egs fun s e => s.residue d e)))
  ∧ (∀ s x sel here (m : Msg), x < 64 → sel < 3 → s.dlUp x = false → s.arriving x = none → s.rd fWEIR_HELD_LISTS 0 ≤ 16384 →
    exec (.coreMessageEnqueue x sel here m 0) s = .next s)
  ∧ (∀ s x sel here (m : Msg) d, x < 64 → sel < 3 → s.arriving x = some d → here < d.cells → s.rd fWEIR_HELD_LISTS 0 ≤ 16384 →
    EndsIn (.coreMessageEnqueue x sel here m 0) s fun t =>
      t.regs = s.regs ∧ t.swc.msgs = s.swc.msgs.map fun e => if e.id = d.id then { e with here := max here e.here } else e)
  ∧ (∀ s x sel here m u us, 64 ≤ x → x < 72 → sel < 3 → s.rxq (x - 64) sel = u :: us → u.mis = true → s.rd fWEIR_HELD_LISTS 0 ≤ 16384 →
    EndsIn (.coreMessageEnqueue x sel here m 0) s fun t => t.rxq (x - 64) sel = us ∧ t.regs = s.regs)
  ∧ (∀ s c g d credits cell, cell < 5242880 → s.canSend 92 = true → s.pick 92 (s.partnerTakes 92 credits) = some (c, g, d) →
    (∀ k, k < 8 → s.rdb fTRN_MIR_EN k = false) →
    EndsIn (.egressSchedule 92 credits 0 cell) s fun t =>
      (∃ sn, SMap.get none t.swc.sending 92 = some sn ∧ sn.id = d.id ∧ sn.t = c ∧ sn.g = g)
      ∧ t.queue 92 c g = (s.queue 92 c g).filter fun en => en.id != d.id)
  ∧ (∀ s x credits cell, x < 93 → cell < 5242880 → s.canSend x = false → exec (.egressSchedule x credits 0 cell) s = .next s)
  ∧ (∀ s x credits cell, x < 93 → cell < 5242880 → s.queue x (cell / 5 % 8) (cell % 5) = [] →
    EndsIn (.egressSchedule x credits 3 cell) s fun t => t.rd fSWC_ERR_QPARITY 0 = 1 ∧ t.out = s.out)
  ∧ (∀ s x sn d, 88 ≤ x → x < 92 → SMap.get none s.swc.sending x = some sn → s.stored sn.id = some d → d.whole = true → d.refs ≤ 1 →
    s.swc.waiting = [] → s.weir.held = [] →
    EndsIn (.messageDepart x) s fun t => SMap.get none t.swc.sending x = none ∧ t.stored d.id = none)
  ∧ (∀ s x, x < 93 → s.sentNow x = none → exec (.messageDepart x) s = .next s)
  ∧ (∀ s d e q, s.swc.msgs = [d] → s.aged d = true → d.egs = [e] → e < 93 → d.refs ≤ 1 → s.queue e d.m.tc d.m.grp = [q] → q.id = d.id →
    s.swc.waiting = [] →
    EndsIn .turnoutAgeSweep s fun t =>
      t.rd fTRN_AGEDROP_VALID 0 = 1 ∧ t.rd fTRN_AGEDROP_EGRESS 0 = e ∧ t.queue e d.m.tc d.m.grp = [] ∧ t.swc.msgs = [])
  ∧ (∀ s x, x < 72 → s.rdb fSWC_CTL_STALLEN 0 = true → s.queued x = true → s.linkRuns x = true →
    EndsIn (.egressStall x) s fun t => t.bit fSWC_STALL_STALL x = true)
  ∧ (∀ s x, x < 72 → s.rdb fSWC_CTL_STALLEN 0 = false ∨ s.queued x = false ∨ s.linkRuns x = false → exec (.egressStall x) s = .next s)
  ∧ (∀ s, s.rd fRSV_FREE_FREE 0 + ((s.swc.msgs.map (·.cells)).sum + s.wm.cells.length + s.keptCells) = s.rd fRSV_CELLS_CELLS 0 → exec .cellAudit s = .next s)
  ∧ (∀ s, s.rd fRSV_FREE_FREE 0 + s.keptCells ≠ s.rd fRSV_CELLS_CELLS 0 → s.swc.msgs = [] → s.wm.cells = [] → s.swc.waiting = [] →
    EndsIn .cellAudit s fun t =>
      t.rd fRSV_FREE_FREE 0 = (s.rd fRSV_FREE_FREE 0 + s.swc.lost) % 2 ^ fRSV_FREE_FREE.width ∧ t.swc.lost = 0)

/-- The Weir's tables (R334, R336, R340, R341): a shaper pair that the rules allow is committed and a bad one is a configuration error; a class
shaper that changes starts with a full bucket; an admin list that passes the checks becomes pending, with result 1, and one that does not
gives its result; without its key or go bit a commit or a cancel is nothing; where no comparator is left it answers 9, and where an enabled
mirror uses the egress 10, each with its conflict; a cancel withdraws a pending list with result 11; ROTEN set on a pending comparator list or
a mirrored egress is refused. -/
def Obligations.WeirTables : Prop :=
  (∀ s ti val, ti < 8192 → (s.pairWords ti (bitsOf val 0 18)).bad = true → exec (.shaperCommit ti val) s = .next (s.cfgErr 14))
  ∧ (∀ s ti val, ti < 8192 → (s.pairWords ti (bitsOf val 0 18)).bad = false → s.weir.held = [] →
    EndsIn (.shaperCommit ti val) s fun t =>
      SMap.get {} t.weir.pairs ti = s.pairWords ti (bitsOf val 0 18) ∧ t.rd fWEIR_TSH_PBS ti = bitsOf val 0 18)
  ∧ (∀ s ti val, ti < 8192 → (s.pairWords ti (bitsOf val 0 18)).bad = false →
    exec (.shaperCommit ti val) s = .next (s.commitPair ti (s.pairWords ti (bitsOf val 0 18))))
  ∧ (∀ s x c val, x < 72 → c < 8 →
    EndsIn (.classShaperCommit x c val) s fun t =>
      SMap.get {} t.weir.classes (8 * x + c) = { rate := s.rd fWEIR_PCSH_RATE (8 * x + c), burst := bitsOf val 0 18 }
      ∧ t.rd fWEIR_PCSH_BURST (8 * x + c) = bitsOf val 0 18)
  ∧ (∀ s x val, x < 72 → bitsOf val 24 8 = 0xA7 → bitOf val 0 = true → s.rdb fWEIR_EG_PEND x = false → s.rotCheck x ≠ 0 →
    Ends (.rotationCommit x val) s s [(fWEIR_EG_RESULT, x, s.rotCheck x)])
  ∧ (∀ s x val, x < 72 → bitsOf val 24 8 = 0xA7 → bitOf val 0 = true → s.rdb fWEIR_EG_PEND x = false → s.rotCheck x = 0 →
    s.claimsOver x = true → exec (.rotationCommit x val) s = .next ((s.conflict 3 (ceilDiv (s.claims + 1) 4) 0).wr fWEIR_EG_RESULT x 9))
  ∧ (∀ s x val k, x < 72 → bitsOf val 24 8 = 0xA7 → bitOf val 0 = true → s.rdb fWEIR_EG_PEND x = false → s.rotCheck x = 0 →
    s.claimsOver x = false → s.mirrorOf x = some k → exec (.rotationCommit x val) s = .next ((s.conflict 6 x k).wr fWEIR_EG_RESULT x 10))
  ∧ (∀ s x val, x < 72 → bitsOf val 24 8 = 0xA7 → bitOf val 0 = true → s.rdb fWEIR_EG_PEND x = false → s.rotCheck x = 0 →
    s.claimsOver x = false → s.mirrorOf x = none →
    Ends (.rotationCommit x val) s { s with weir := { s.weir with rotAt := SMap.set 0 s.weir.rotAt x (s.rotDue x) } }
      [(fWEIR_EG_RESULT, x, 1), (fWEIR_EG_PEND, x, 1)])
  ∧ (∀ s x val, x < 72 → bitsOf val 24 8 ≠ 0xA7 ∨ bitOf val 0 = false ∨ s.rdb fWEIR_EG_PEND x = true → exec (.rotationCommit x val) s = .next s)
  ∧ (∀ s x val, x < 72 → bitsOf val 24 8 = 0xA7 → bitOf val 1 = true → s.rdb fWEIR_EG_PEND x = true →
    Ends (.rotationCancel x val) s s [(fWEIR_EG_RESULT, x, 11), (fWEIR_EG_PEND, x, 0)])
  ∧ (∀ s x val, x < 72 → bitsOf val 24 8 ≠ 0xA7 ∨ bitOf val 1 = false ∨ s.rdb fWEIR_EG_PEND x = false →
    exec (.rotationCancel x val) s = .next s)
  ∧ (∀ s x val, x < 72 → bitOf val 0 = true → s.rdb fWEIR_EG_ROTEN x = false → s.rotValid x = true → s.claimsOver x = true →
    exec (.rotenWrite x val) s = .next (s.conflict 3 (ceilDiv (s.claims + 1) 4) 0))
  ∧ (∀ s x val, x < 72 → bitOf val 0 = false → s.discards (fieldsAt 0xE02000) x val = false →
    exec (.rotenWrite x val) s = .next ((s.takeWord (fieldsAt 0xE02000) x val).rotUpdate x))
  ∧ (∀ s x val, x < 72 → bitOf val 0 = true → (s.rotValid x = false ∨ s.claimsOver x = false ∨ s.rdb fWEIR_EG_ROTEN x = true) →
    s.mirrorOf x = none → s.discards (fieldsAt 0xE02000) x val = false →
    EndsIn (.rotenWrite x val) s fun t =>
      Took (fieldsAt 0xE02000) x val t ∧ (t.rdb fWEIR_EG_ACTIVE x = true ↔ s.rotValid x = true))
  ∧ (∀ s x val k, x < 72 → bitOf val 0 = true → (s.rotValid x = false ∨ s.claimsOver x = false ∨ s.rdb fWEIR_EG_ROTEN x = true) → s.mirrorOf x = some k →
    exec (.rotenWrite x val) s = .next (s.conflict 6 x k))

/-- Requests at their home slice, for a line that no agent holds (R209, R218, R219, R228, R231): a read opens a transaction that names its row and
waits for pool data, with a way claimed where the row leaves a holder; a write is sent to pool memory, or its failure is counted.  Whatever the line
and the message, a request, write-back or eviction completes as the slice's one operation on its code; one of an unknown code is counted and answered
as an error, and one of another command's code is nothing to this one. -/
def Obligations.HomeSliceRequests : Prop :=
  (∀ s m up r c, (c, r) ∈ [(Instr.rds m up, 0), (.rdown m up, 1), (.upgr m up, 2), (.rdcur m up, 3), (.wrfull m up, 4), (.wrpart m up, 5),
      (.wbI m up, 6), (.wbS m up, 7), (.wbE m up, 8), (.evc m up, 9)] → wmOk m = true →
    exec c s = .next (s.atSlice m up r)
    ∧ (m.code ≠ r → m.code < 10 →
      exec c s = .next ((s.countMsg 0x20 5 (lineSlice (lineOfMsg m)) m).upset (setKey (lineSlice (lineOfMsg m)) (lineSet (lineOfMsg m))) up))
    ∧ (10 ≤ m.code →
      exec c s = .next (State.denyReply ((((s.countMsg 0x20 5 (lineSlice (lineOfMsg m)) m).upset
        (setKey (lineSlice (lineOfMsg m)) (lineSet (lineOfMsg m))) up).sliceTook (lineSlice (lineOfMsg m)) m false).inc fWM_ERR_PROTO 0) m)))
  ∧ (∀ s m g a w, s.freshLine m g a w → m.code = 0 →
    ∀ x : Txn, x = { st := .tsr, row := rowI 0, req := 0, msg := some m, q := some a, ln := {}, way := some w } →
    ((s.withTxn m x).poolSend (lineOfMsg m) none 0).1 = true →
    EndsIn (.rds m {}) s fun t => t.txn (lineOfMsg m) = some { x with owed := true, st := .tr })
  ∧ (∀ s m g a w, s.freshLine m g a w → m.code = 1 →
    ∀ x : Txn, x = { st := .tsr, row := rowI 1, req := 1, msg := some m, q := some a, ln := {}, way := some w } →
    ((s.withTxn m x).poolSend (lineOfMsg m) none 0).1 = true →
    EndsIn (.rdown m {}) s fun t => t.txn (lineOfMsg m) = some { x with owed := true, st := .tr })
  ∧ (∀ s m g a w, s.freshLine m g a w → m.code = 2 →
    ∀ x : Txn, x = { st := .tsr, row := rowI 2, req := 2, msg := some m, q := some a, ln := {}, way := some w } →
    ((s.withTxn m x).poolSend (lineOfMsg m) none 0).1 = true →
    EndsIn (.upgr m {}) s fun t => t.txn (lineOfMsg m) = some { x with owed := true, st := .tr })
  ∧ (∀ s m g a w, s.freshLine m g a w → m.code = 3 →
    ∀ x : Txn, x = { st := .tsr, row := rowI 3, req := 3, msg := some m, q := some a, ln := {}, way := none } →
    ((s.withTxn m x).poolSend (lineOfMsg m) none 0).1 = true →
    EndsIn (.rdcur m {}) s fun t => t.txn (lineOfMsg m) = some { x with owed := true, st := .tr })
  ∧ (∀ s m g a w, s.freshLine m g a w → m.code = 4 →
    EndsIn (.wrfull m {}) s fun t =>
      (∃ x, t.txn (lineOfMsg m) = some x ∧ x.st = .tw ∧ x.req = 4 ∧ x.msg = some m ∧ x.pws = [true])
      ∨ t.rd fWM_ERR2_PWFAIL 0 = satAdd fWM_ERR2_PWFAIL.width (s.rd fWM_ERR2_PWFAIL 0) 1)
  ∧ (∀ s m g a w, s.freshLine m g a w → m.code = 5 →
    EndsIn (.wrpart m {}) s fun t =>
      (∃ x, t.txn (lineOfMsg m) = some x ∧ x.st = .tw ∧ x.req = 5 ∧ x.msg = some m ∧ x.pws = [true])
      ∨ t.rd fWM_ERR2_PWFAIL 0 = satAdd fWM_ERR2_PWFAIL.width (s.rd fWM_ERR2_PWFAIL 0) 1)

/-- Write-backs and the purge (R218, R221, R223, R225, R227, R231, R246, R250, R398): a write-back that its row takes opens a transaction that waits for the pool write, with the
holders its row leaves, or the failure is counted, or, at a proxy whose home no link reaches, the line is recorded as lost; one that is stale is counted and completed; Evc removes its sender, and the line goes to the state its row names; a read or write of an agent that a DECOHERE reaction holds (R398) opens no transaction and
changes no line; a NAK's request waits
for a place and is sent again; a reservation expires; a purge that has come round removes the agent. -/
def Obligations.WriteBacksAndPurge : Prop :=
  (∀ s m a k n, s.heldLine m a k n → m.code = 6 → rStale (s.ttLookup n.state 6 (condOf n (some a))) = false →
    rViol (s.ttLookup n.state 6 (condOf n (some a))) = false →
    EndsIn (.wbI m {}) s fun t =>
      (∃ x, t.txn (lineOfMsg m) = some x ∧ x.st = .tw ∧ x.way = some k
        ∧ x.ln = n.next (rNext (s.ttLookup n.state 6 (condOf n (some a)))) none false false)
      ∨ (s.homeGone (lineOfMsg m) = false ∧ t.rd fWM_ERR2_PWFAIL 0 = satAdd fWM_ERR2_PWFAIL.width (s.rd fWM_ERR2_PWFAIL 0) 1)
      ∨ (s.homeGone (lineOfMsg m) = true ∧ t.rd fWM_LOSTLINE_VALID 0 = 1 ∧ t.rd fWM_LOSTLINE_CAUSE 0 = 1
        ∧ t.rd fWM_LOSTLINE_AGENT 0 = a % 2 ^ fWM_LOSTLINE_AGENT.width))
  ∧ (∀ s m a k n, s.heldLine m a k n → m.code = 7 → rStale (s.ttLookup n.state 7 (condOf n (some a))) = false →
    rViol (s.ttLookup n.state 7 (condOf n (some a))) = false →
    EndsIn (.wbS m {}) s fun t =>
      (∃ x, t.txn (lineOfMsg m) = some x ∧ x.st = .tw ∧ x.way = some k
        ∧ x.ln = n.next (rNext (s.ttLookup n.state 7 (condOf n (some a)))) none false false)
      ∨ (s.homeGone (lineOfMsg m) = false ∧ t.rd fWM_ERR2_PWFAIL 0 = satAdd fWM_ERR2_PWFAIL.width (s.rd fWM_ERR2_PWFAIL 0) 1)
      ∨ (s.homeGone (lineOfMsg m) = true ∧ t.rd fWM_LOSTLINE_VALID 0 = 1 ∧ t.rd fWM_LOSTLINE_CAUSE 0 = 1
        ∧ t.rd fWM_LOSTLINE_AGENT 0 = a % 2 ^ fWM_LOSTLINE_AGENT.width))
  ∧ (∀ s m a k n, s.heldLine m a k n → m.code = 8 → rStale (s.ttLookup n.state 8 (condOf n (some a))) = false →
    rViol (s.ttLookup n.state 8 (condOf n (some a))) = false →
    EndsIn (.wbE m {}) s fun t =>
      (∃ x, t.txn (lineOfMsg m) = some x ∧ x.st = .tw ∧ x.way = some k
        ∧ x.ln = n.next (rNext (s.ttLookup n.state 8 (condOf n (some a)))) none false false)
      ∨ (s.homeGone (lineOfMsg m) = false ∧ t.rd fWM_ERR2_PWFAIL 0 = satAdd fWM_ERR2_PWFAIL.width (s.rd fWM_ERR2_PWFAIL 0) 1)
      ∨ (s.homeGone (lineOfMsg m) = true ∧ t.rd fWM_LOSTLINE_VALID 0 = 1 ∧ t.rd fWM_LOSTLINE_CAUSE 0 = 1
        ∧ t.rd fWM_LOSTLINE_AGENT 0 = a % 2 ^ fWM_LOSTLINE_AGENT.width))
  ∧ (∀ s m a k n, s.heldLine m a k n → m.code = 6 → rStale (s.ttLookup n.state 6 (condOf n (some a))) = true →
    EndsIn (.wbI m {}) s fun t => t.rd fWM_ERR_STALEWB 0 = satAdd fWM_ERR_STALEWB.width (s.rd fWM_ERR_STALEWB 0) 1 ∧ t.wm = s.wm)
  ∧ (∀ s m a k n, s.heldLine m a k n → m.code = 9 → bitOf n.pres a = true →
    ∀ n' : LineSt, n' = (n.drop a).next (rNext (s.ttLookup n.state 9 0)) none false false →
    EndsIn (.evc m {}) s fun t =>
      (t.fentry k).state = n'.state ∧ (n'.state ≠ 0 → (t.fentry k).pres = n'.pres ∧ (t.fentry k).owner = n'.owner))
  ∧ (∀ s m r c, (c, r) ∈ [(Instr.rds m {}, 0), (.rdown m {}, 1), (.upgr m {}, 2), (.rdcur m {}, 3), (.wrfull m {}, 4), (.wrpart m {}, 5),
      (.wbI m {}, 6), (.wbS m {}, 7), (.wbE m {}, 8)] → wmOk m = true → m.code = r → s.refuses m = true →
    SMap.get none s.swc.sending (72 + lineSlice (lineOfMsg m)) = none →
    ((s.setWays (setKey (lineSlice (lineOfMsg m)) (lineSet (lineOfMsg m)))).all fun w => !s.entryBad (s.fentry w)) = true →
    EndsIn c s fun t => t.wm = s.wm ∧ t.swc.msgs = s.swc.msgs)
  ∧ (∀ s r k, r < 216 → s.wm.naks = [k] → k.src = r → k.arrived = false → k.placed = false →
    EndsIn (.nakReceived r) s fun t => t.wm.naks = [{ k with arrived := true, placed := true }])
  ∧ (∀ s r k, r < 216 → s.wm.naks = [k] → k.src = r → k.placed = true → EndsIn (.nakRetry r) s fun t => t.wm.naks = [])
  ∧ (∀ s r, r < 216 → (∀ k ∈ s.wm.naks, k.src ≠ r ∨ k.placed = false) → exec (.nakRetry r) s = .next s)
  ∧ (∀ s r, r < 216 → exec (.nakReceived r) s = .next (State.givePlaces { s with wm := { s.wm with
      naks := firstNak (fun k => k.src == r && !k.arrived) (fun k => [{ k with arrived := true }]) s.wm.naks } } r))
  ∧ (∀ s line, line < 2 ^ 46 → s.rsvOf line = [] ∨ (s.txn line).isSome = true → exec (.reservationExpire line) s = .next s)
  ∧ (∀ s a, a < 72 → bitOf s.downMask a = false → exec (.agentPurgeDone a) s = .next s)
  ∧ (∀ s line h q, line < 2 ^ 46 → s.rsvOf line = h :: q → s.txn line = none →
    EndsIn (.reservationExpire line) s fun t =>
      t.rsvOf line = q ∧ t.rd fWM_ERR_RSVEXP 0 = satAdd fWM_ERR_RSVEXP.width (s.rd fWM_ERR_RSVEXP 0) 1)
  ∧ (∀ s a, a < 72 → bitOf s.downMask a = true → s.wm.ways = [] → s.wm.deferred = [] → s.wm.rowWait = [] →
    EndsIn (.agentPurgeDone a) s fun t => t.bit fWM_AGDOWN_PURGING a = false ∧ t.wm.ways = [])
  ∧ (∀ s a k e, a < 72 → bitOf s.downMask a = true → s.wm.ways = [(k, e)] → e.state = 1 → bitOf e.pres a = true →
    s.pinned k = false →
    EndsIn (.agentPurgeDone a) s fun t =>
      t.bit fWM_AGDOWN_PURGING a = false ∧ bitOf (t.fentry k).pres a = false)

/-- Answers at a slice (R219, R220, R223, R224, R226, R229, R230): a holder's response removes it and keeps its data; pool data and the
end of a pool write are taken by the transaction that waits for them; a hold ends and the transaction with it; a holder that does not answer is
closed and recorded; a home's snoop is answered at once for a line that no local agent holds, and opens a transaction that snoops a local owner; a
home's Cmp, NAK or refusal reaches the transaction that waits at its proxy.  In every state each of these commands completes, as the operation
that its equation names, and one that nothing waits for changes no line. -/
def Obligations.AnswersAtASlice : Prop :=
  (∀ s m a x, s.onLine (lineOfMsg m) x → wmOk m = true → s.agentOf m = some a → bitOf x.snoops a = true →
    putBit x.snoops a false ≠ 0 → x.bcast = false → m.st = 0 → hasLine m = true →
    EndsIn (.snoopResponse m) s fun t =>
      t.txn (lineOfMsg m) =
        some { x with snoops := putBit x.snoops a false, ln := x.ln.drop a, wb := some (m.data, m.poison), writer := a })
  ∧ (∀ s m, wmOk m = true →
    exec (.snoopResponse m) s = .next
      (((s.sliceTook (lineSlice (lineOfMsg m)) m false).snoopResponse (lineOfMsg m) ((s.agentOf m).getD 127) m.st
        (if hasLine m then some (m.data, m.poison) else none)).runDeferred)
    ∧ exec (.snpinv m) s = .next (s.snoopCmd m 0x10) ∧ exec (.snpdata m) s = .next (s.snoopCmd m 0x11)
    ∧ exec (.snpcur m) s = .next (s.snoopCmd m 0x12)
    ∧ (SMap.get none s.wm.parked (lineOfMsg m) = none → s.txn (lineOfMsg m) = none →
      exec (.wmCmpReceive m) s = .next (s.sliceTook (lineSlice (lineOfMsg m)) m false))
    ∧ (∀ x, SMap.get none s.wm.parked (lineOfMsg m) = none → s.txn (lineOfMsg m) = some x → x.owed = false →
      exec (.wmCmpReceive m) s = .next ((s.sliceTook (lineSlice (lineOfMsg m)) m false).poolWritten (lineOfMsg m) true).runDeferred)
    ∧ (∀ x, SMap.get none s.wm.parked (lineOfMsg m) = some x →
      EndsIn (.wmCmpReceive m) s fun t => SMap.get none t.wm.parked (lineOfMsg m) =
        some { x with owed := false, pool := if hasLine m then some (m.data, m.poison) else none, homeGrant := m.st, st := .ts })
    ∧ (s.awaits (lineOfMsg m) = none → exec (.wmNakReceive m) s = .next (s.sliceTook (lineSlice (lineOfMsg m)) m false))
    ∧ ((∀ x, s.txn (lineOfMsg m) = some x → x.owed = false) →
      exec (.wmRefuseReceive m) s = .next (s.sliceTook (lineSlice (lineOfMsg m)) m false)))
  ∧ (∀ s l, l < 2 ^ 46 →
    (∀ data p, data < 2 ^ 512 → exec (.poolReadData l data p) s = .next (s.poolData l data p).runDeferred)
    ∧ exec (.poolWriteComplete l) s = .next (s.poolWritten l true).runDeferred
    ∧ exec (.poolAccessFail l true) s = .next (s.poolWritten l false).runDeferred
    ∧ exec (.poolAccessFail l false) s = .next (s.poolData l (s.lostData l).1 true).runDeferred
    ∧ (∀ a, a < 72 → exec (.holdWindowEnd l a) s = .next
        ((s.modTxn l fun t => { t with holds := t.holds.filter fun h => h.1 != a }).settleTxn l).runDeferred)
    ∧ (∀ a x, a < 72 → s.txn l = some x → bitOf x.snoops a = false → exec (.snoopTimeout l a) s = .next s))
  ∧ (∀ s l data p x, s.onLine l x → data < 2 ^ 512 → x.skip = 0 → x.owed = true → x.snoops ≠ 0 → x.st = .tsr →
    EndsIn (.poolReadData l data p) s fun t =>
      t.txn l = some { x with owed := false, pool := some (data, p), st := .ts })
  ∧ (∀ s l x b, s.onLine l x → x.st = .tw → x.pws = false :: b →
    EndsIn (.poolWriteComplete l) s fun t => t.txn l = some { x with pws := b })
  ∧ (∀ s l x, s.onLine l x → x.skip = 0 → x.owed = true → x.snoops ≠ 0 → x.st = .tsr →
    EndsIn (.poolAccessFail l false) s fun t => t.txn l = some { x with owed := false, pool := some ((s.lostData l).1, true), st := .ts })
  ∧ (∀ s l x b, s.onLine l x → x.st = .tw → x.pws = false :: b →
    EndsIn (.poolAccessFail l true) s fun t =>
      t.txn l = some { x with pws := b } ∧ t.rd fWM_ERR2_PWFAIL 0 = satAdd fWM_ERR2_PWFAIL.width (s.rd fWM_ERR2_PWFAIL 0) 1)
  ∧ (∀ s l x a until_, s.onLine l x → a < 72 → x.st = .th → x.holds = [(a, until_)] → x.skip = 0 → x.pws = [] →
    SMap.get none s.wm.parked l = none → EndsIn (.holdWindowEnd l a) s fun t => t.txn l = none)
  ∧ (∀ s l x a, s.onLine l x → a < 72 → bitOf x.snoops a = true → putBit x.snoops a false ≠ 0 → x.bcast = true →
    EndsIn (.snoopTimeout l a) s fun t =>
      t.txn l = some { x with snoops := putBit x.snoops a false, closed := putBit x.closed a true }
      ∧ t.rd fWM_SNPTO_AGENT 0 = a ∧ t.rd fWM_SNPTO_VALID 0 = 1 ∧ t.rd fWM_ERR_SNPTO 0 = satAdd fWM_ERR_SNPTO.width (s.rd fWM_ERR_SNPTO 0) 1)
  ∧ (∀ s l a, l < 2 ^ 46 → a < 72 → s.txn l = none → exec (.snoopTimeout l a) s = .next s)
  ∧ (∀ (s u : State) m x code c, (c, code) ∈ [(Instr.snpinv m, 0x10), (.snpdata m, 0x11), (.snpcur m, 0x12)] →
    u = s.upset (setKey (lineSlice (lineOfMsg m)) (lineSet (lineOfMsg m))) m.up → u.onLine (lineOfMsg m) x →
    wmOk m = true → m.op = code → s.proxy (lineOfMsg m) = true → x.st = .ts →
    exec c s = .next { u with wm := { u.wm with deferred := [m] } })
  ∧ (∀ (s u : State) m code c, (c, code) ∈ [(Instr.snpinv m, 0x10), (.snpdata m, 0x11), (.snpcur m, 0x12)] →
    u = s.upset (setKey (lineSlice (lineOfMsg m)) (lineSet (lineOfMsg m))) m.up →
    SMap.get none u.swc.sending (72 + lineSlice (lineOfMsg m)) = none → u.txn (lineOfMsg m) = none → wmOk m = true → m.op = code →
    s.proxy (lineOfMsg m) = true → exec c s = .next (u.proxySnoop (lineOfMsg m) m))
  ∧ (∀ (s u : State) m code c r e, (c, code) ∈ [(Instr.snpinv m, 0x10), (.snpdata m, 0x11), (.snpcur m, 0x12)] →
    u = s.upset (setKey (lineSlice (lineOfMsg m)) (lineSet (lineOfMsg m))) m.up →
    SMap.get none u.swc.sending (72 + lineSlice (lineOfMsg m)) = none → u.txn (lineOfMsg m) = none → wmOk m = true → m.op = code →
    s.proxy (lineOfMsg m) = true → (u.lineNow (lineOfMsg m)).state = 0 → r = u.snoopReply (lineOfMsg m) m 0 none → u.askedFor r = none →
    u.egressOf r = some e → 64 ≤ e → u.swc.waiting = [] → r.cells ≤ u.rd fRSV_FREE_FREE 0 →
    EndsIn c s fun t => ∃ d ∈ t.swc.msgs, d.m = r ∧ d.egs = [e])
  ∧ (∀ (s u : State) m code c k a, (c, code) ∈ [(Instr.snpinv m, 0x10), (.snpdata m, 0x11), (.snpcur m, 0x12)] →
    u = s.upset (setKey (lineSlice (lineOfMsg m)) (lineSet (lineOfMsg m))) m.up →
    SMap.get none u.swc.sending (72 + lineSlice (lineOfMsg m)) = none → u.txn (lineOfMsg m) = none → wmOk m = true → m.op = code →
    s.proxy (lineOfMsg m) = true → u.wm.table = [] → u.findWay (lineOfMsg m) = some k → (u.fentry k).state = 2 → (u.fentry k).owner = a →
    a < 64 → bitOf u.downMask a = false → u.openIn (lineSlice (lineOfMsg m)) < 4096 →
    EndsIn c s fun t => ∃ x, t.txn (lineOfMsg m) = some x ∧ x.msg = some m ∧ x.snoops = 2 ^ a ∧ x.st = .ts ∧ x.way = some k)
  ∧ (∀ s m x, s.onLine (lineOfMsg m) x → wmOk m = true → SMap.get none s.wm.parked (lineOfMsg m) = none → x.owed = true →
    x.st = .tsr → x.snoops ≠ 0 →
    EndsIn (.wmCmpReceive m) s fun t =>
      t.txn (lineOfMsg m) =
        some { x with owed := false, pool := if hasLine m then some (m.data, m.poison) else none, homeGrant := m.st, st := .ts })
  ∧ (∀ s m x, s.onLine (lineOfMsg m) x → wmOk m = true → SMap.get none s.wm.parked (lineOfMsg m) = none →
    EndsIn (.wmNakReceive m) s fun t =>
      ∃ k, t.wm.naks = s.wm.naks ++ [k] ∧ k.src = 200 + lineSlice (lineOfMsg m) ∧ k.m.op = x.req + 1 ∧ k.m.addr = 64 * lineOfMsg m
        ∧ k.hint = 16 * m.hint)
  ∧ (∀ s m x, s.onLine (lineOfMsg m) x → wmOk m = true → SMap.get none s.wm.parked (lineOfMsg m) = none → x.owed = true →
    x.msg = none → x.holds = [] → x.skip = 0 → x.pws = [] →
    EndsIn (.wmRefuseReceive m) s fun t => t.txn (lineOfMsg m) = none)

/-- Regions, tables and sweeps of the Watermaster (R209, R210, R217, R233, R234, R252, R258): a region is enabled unless the rules refuse it, recalled, and
free once no entry of it is left; a table that passes its checks waits for the slices to empty, then replaces the other, or is given up; a table
in error falls back to the default; the scrubber goes on; a diagnostic read shows an entry; an O line that has seen WM_OCTL.OAGE sweeps is aged.  A
write without its key, bit or state changes nothing or is refused as these say. -/
def Obligations.RegionsAndTables : Prop :=
  (∀ s n val, n < 64 → val < 2 ^ 32 → bitOf val 31 = true → s.rdb fWM_SRGN_EN n = false → s.rd fWM_SRGN_STATE n ≠ 3 →
    s.regionRefused n (bitsOf val 0 24) = false →
    Ends (.regionEnable n val) s s [(fWM_SRGN_STATE, n, 2), (fWM_SRGN_EN, n, 1), (fWM_SRGN_FIRST, n, bitsOf val 0 24)])
  ∧ (∀ s n val, n < 64 → val < 2 ^ 32 → bitOf val 31 = true →
    s.rdb fWM_SRGN_EN n = true ∨ s.rd fWM_SRGN_STATE n = 3 ∨ s.regionRefused n (bitsOf val 0 24) = true →
    exec (.regionEnable n val) s = .next (s.cfgErr 7))
  ∧ (∀ s n val, n < 64 → val < 2 ^ 32 → bitOf val 31 = false → s.rd fWM_SRGN_STATE n ≠ 3 → s.rdb fWM_SRGN_EN n = true → s.wm.ways = [] →
    EndsIn (.regionRecall n val) s fun t => t.rd fWM_SRGN_STATE n = 3 ∧ t.rd fWM_SRGN_EN n = 0 ∧ t.wm.ways = [])
  ∧ (∀ s n val, n < 64 → val < 2 ^ 32 →
    (bitOf val 31 = false → exec (.regionEnable n val) s = .next s)
    ∧ (bitOf val 31 = true → exec (.regionRecall n val) s = .next s)
    ∧ (bitOf val 31 = false → s.rd fWM_SRGN_STATE n = 3 → exec (.regionRecall n val) s = .next (s.cfgErr 7))
    ∧ (bitOf val 31 = false → s.rd fWM_SRGN_STATE n ≠ 3 → s.rdb fWM_SRGN_EN n = false →
      Ends (.regionRecall n val) s s [(fWM_SRGN_FIRST, n, bitsOf val 0 24)])
    ∧ (bitOf val 31 = false → s.rd fWM_SRGN_STATE n ≠ 3 → s.rdb fWM_SRGN_EN n = true →
      exec (.regionRecall n val) s =
        .next (((s.wrb fWM_SRGN_EN n false).wr fWM_SRGN_STATE n 3).recallWhere defaultTable (· == n))))
  ∧ (∀ s n, n < 64 → s.rd fWM_SRGN_STATE n ≠ 3 → exec (.regionRecallDone n) s = .next s)
  ∧ (∀ (s t : State) n, n < 64 → s.rd fWM_SRGN_STATE n = 3 → t = s.recallWhere defaultTable (· == n) →
    exec (.regionRecallDone n) s = .next (if t.regionBusy n then t else t.wr fWM_SRGN_STATE n 0))
  ∧ (∀ s, (∀ e ∈ s.wm.cells, ∀ c, e.2 = some c → c.sweeps < s.rd fWM_OCTL_OAGE 0) → s.wm.txns = [] →
    exec (.oAgeSweep []) s = .next { s with wm := { s.wm with cells := s.wm.cells.map fun e =>
      (e.1, e.2.map fun c => { c with sweeps := c.sweeps + 1 }) } })
  ∧ (∀ (s u : State) l c, s.wm.cells = [(l, some c)] → s.rd fWM_OCTL_OAGE 0 ≤ c.sweeps → s.wm.txns = [] →
    u = { s with wm := { s.wm with cells := [(l, some { c with sweeps := c.sweeps + 1 })] } } → s.mayAge l = true → u.mayAge l = true →
    exec (.oAgeSweep []) s = .next (u.ageLine l))
  ∧ (∀ s val sigOk, val < 2 ^ 32 →
    (bitsOf val 24 8 ≠ 0xC3 ∨ bitOf val 0 = false ∨ s.wm.loading.isSome = true → exec (.tableLoad val sigOk) s = .next s)
    ∧ (bitsOf val 24 8 = 0xC3 → bitOf val 0 = true → s.wm.loading = none → s.standby = false →
      exec (.tableLoad val sigOk) s = .next (s.ttEnd 8 0)))
  ∧ (∀ s, (s.wm.loading = none → exec .tableSwitch s = .next s ∧ exec .tableLoadDrainTimeout s = .next s)
    ∧ (s.wm.txns ≠ [] → exec .tableSwitch s = .next s))
  ∧ (∀ s tab, tab < 4 → exec (.tableCrcCheck tab) s = .next (s.tabRead tab))
  ∧ (∀ s sl up, sl < 16 →
    (s.rdb fSNF_CTL_SCRUBEN 0 = false ∨ s.sweeping = true → exec (.scrubSet sl up) s = .next s)
    ∧ (s.rdb fSNF_CTL_SCRUBEN 0 = true → s.sweeping = false →
      exec (.scrubSet sl up) s = .next ((s.upset (setKey sl (SMap.get 0 s.wm.scrubAt sl % 65536)) up).scrubNext sl)))
  ∧ (∀ s val err, val < 2 ^ 32 → err < 4 → s.waysPerSet ≤ bitsOf val 20 5 → exec (.snfDiagRead val err) s = .next s)
  ∧ (∀ s val, val < 2 ^ 32 →
    (bitsOf val 24 8 ≠ 0x96 → exec (.suspectClear val) s = .next s)
    ∧ (bitsOf val 24 8 = 0x96 → exec (.suspectClear val) s = .next (s.each (setBits 16 val) State.clearSuspect)))
  ∧ (∀ s n, n < 64 → s.rd fWM_SRGN_STATE n = 3 → s.wm.ways = [] → s.wm.txns = [] →
    EndsIn (.regionRecallDone n) s fun t => t.rd fWM_SRGN_STATE n = 0)
  ∧ (∀ s l c, s.wm.cells = [(l, some c)] → c.sweeps < s.rd fWM_OCTL_OAGE 0 → s.wm.txns = [] →
    exec (.oAgeSweep []) s =
      .next { s with wm := { s.wm with cells := [(l, some { c with sweeps := c.sweeps + 1 })] } })
  ∧ (∀ s val sigOk, val < 2 ^ 32 → bitsOf val 24 8 = 0xC3 → bitOf val 0 = true → s.standby = true → s.wm.loading = none →
    s.ttCheck sigOk = none →
    Ends (.tableLoad val sigOk) s { s with wm := { s.wm with loading := some (s.ttImage, s.ttWord 2, s.ttWord 7) } }
      [(fRSV_STAT_PHOLD, 0, 1), (fWM_TTSTAT_RESULT, 0, 1), (fWM_TTSTAT_ROW, 0, 0)])
  ∧ (∀ s val sigOk r row, val < 2 ^ 32 → bitsOf val 24 8 = 0xC3 → bitOf val 0 = true → s.standby = true → s.wm.loading = none →
    s.ttCheck sigOk = some (r, row) → r < 16 → row < 128 →
    EndsIn (.tableLoad val sigOk) s fun t => t.rd fWM_TTSTAT_RESULT 0 = r ∧ t.rd fWM_TTSTAT_ROW 0 = row ∧ t.wm = s.wm)
  ∧ (∀ s ws id c, s.wm.loading = some (ws, id, c) → s.wm.txns = [] → id < 2 ^ 32 → c < 2 ^ 32 →
    EndsIn .tableSwitch s fun t =>
      t.wm.table = ws ∧ t.wm.loading = none ∧ t.rd fWM_TTID_TTID 0 = id ∧ t.rd fWM_TTCRC_CRC 0 = c ∧ t.rd fWM_TTSTAT_RESULT 0 = 2)
  ∧ (∀ s x, s.wm.loading = some x →
    EndsIn .tableLoadDrainTimeout s fun t => t.rd fWM_TTSTAT_RESULT 0 = 9 ∧ t.wm.loading = none ∧ t.wm.table = s.wm.table)
  ∧ (∀ s, exec (.tableCrcCheck 1) s = .next (s.pulse 0x1B4))
  ∧ (∀ s,
    EndsIn (.tableCrcCheck 2) s fun t => t.wm.table = [] ∧ t.rd fWM_TTSTAT_FALLBACK 0 = 1)
  ∧ (∀ s sl, sl < 16 → s.rdb fSNF_CTL_SCRUBEN 0 = true → s.sweeping = false → s.wm.ways = [] →
    EndsIn (.scrubSet sl {}) s fun t => SMap.get 0 t.wm.scrubAt sl = SMap.get 0 s.wm.scrubAt sl + 1)
  ∧ (∀ s val, val < 2 ^ 32 → bitsOf val 20 5 < s.waysPerSet → bitOf val 31 = false →
    ∀ err, err < 4 → Ends (.snfDiagRead val err) s s
      [(fSNF_DIAGSEL_WAY, 0, bitsOf val 20 5), (fSNF_DIAGSEL_SET, 0, bitsOf val 4 16), (fSNF_DIAGSEL_SLICE, 0, bitsOf val 0 4)])
  ∧ (∀ s val, val < 2 ^ 32 → bitsOf val 20 5 < s.waysPerSet → bitOf val 31 = true → s.wm.ways = [] →
    ∀ err, err < 4 → EndsIn (.snfDiagRead val err) s fun t =>
      t.rd fSNF_DIAGSTAT_DONE 0 = 1 ∧ t.rd fSNF_DIAGSTAT_ECCERR 0 = b2n (decide (err ≠ 0))
      ∧ (∀ n, n < 4 → t.rd fSNF_DIAGDATA_DATA n = bitsOf (storedEntry {} err s.wm.reads) (32 * n) 32))
  ∧ (∀ s val, val < 2 ^ 32 → bitsOf val 24 8 = 0x96 → (setBits 16 val) = [] → exec (.suspectClear val) s = .next s)
  ∧ (∀ s val sl, val < 2 ^ 32 → bitsOf val 24 8 = 0x96 → setBits 16 val = [sl] → sl < 16 →
    EndsIn (.suspectClear val) s fun t =>
      t.rd fSNF_SLICE_SUSPECT sl = 0 ∧ t.rd fSNF_SLICE_ALLSUSP sl = 0 ∧ (∀ i, i < 65536 → t.suspect sl i = false))

/-- The allotment map (R264, R269 to R271, R273, R282): a GRANT that no check refuses makes its entry ACTIVE, or PENDING while it is zeroed; a
RELEASE frees a PENDING entry, and an ACTIVE one turns RELEASING and is FREE once nothing checked under the old generation is in
flight; zeroing that a gate, the map or the device refuses fails with result 4; a command that is refused or waits for its time says so in RESULT, and
one without its key or of another operation is nothing; XLT_MAPIDX latches the entry it names; a share group that an entry names takes no write. -/
def Obligations.AllotmentMap : Prop :=
  (∀ s val, val < 2 ^ 32 → bitsOf val 24 8 = 0x3C → bitsOf val 0 3 = 1 → bitOf val 3 = false → bitOf val 4 = false →
    ∀ e, e = s.rd2 fXLT_MAPWR_L_ENTRY_L fXLT_MAPWR_H_ENTRY_H 0 → eReserved e = false →
    s.grantBad (eState (s.entry (s.rd fXLT_MAPIDX_INDEX 0))) e = 0 → s.xlt.waits = [] →
    EndsIn (.mapGrant val 0) s fun t =>
      t.entry (s.rd fXLT_MAPIDX_INDEX 0) = eWith (eWith e 1) 2 ∧ t.rd fXLT_MAPSTAT_RESULT 0 = 2 ∧ t.xlt.waits = [])
  ∧ (∀ s val, val < 2 ^ 32 → bitsOf val 24 8 = 0x3C → bitsOf val 0 3 = 1 → bitOf val 3 = true → bitOf val 4 = false →
    ∀ e, e = s.rd2 fXLT_MAPWR_L_ENTRY_L fXLT_MAPWR_H_ENTRY_H 0 → eReserved e = false →
    s.grantBad (eState (s.entry (s.rd fXLT_MAPIDX_INDEX 0))) e = 0 → s.xlt.waits = [] →
    EndsIn (.mapGrant val 0) s fun t =>
      t.entry (s.rd fXLT_MAPIDX_INDEX 0) = eWith e 1 ∧ t.rd fXLT_MAPSTAT_RESULT 0 = 2 ∧ t.xlt.waits.length = 1)
  ∧ (∀ s val, val < 2 ^ 32 → bitsOf val 24 8 = 0x3C → bitsOf val 0 3 = 1 → bitOf val 4 = false →
    ∀ e, e = s.rd2 fXLT_MAPWR_L_ENTRY_L fXLT_MAPWR_H_ENTRY_H 0 → eReserved e = false → eState (s.entry (s.rd fXLT_MAPIDX_INDEX 0)) ≠ 0 →
    Ends (.mapGrant val 0) s s [(fXLT_MAPSTAT_RESULT, 0, 3)])
  ∧ (∀ s val i, val < 2 ^ 32 → bitsOf val 24 8 = 0x3C → bitsOf val 0 3 = 2 → bitOf val 4 = false → s.rd fXLT_MAPIDX_INDEX 0 = i →
    eState (s.entry i) = 2 → s.releaseBad i 2 = 0 → s.rdb fXLT_MAPSTAT_DRAIN 0 = false →
    EndsIn (.mapRelease val 0) s fun t =>
      t.entry i = eWith (s.entry i) 3 ∧ t.rd fXLT_MAPSTAT_DRAIN 0 = 1 ∧ t.rd fXLT_MAPSTAT_G 0 = 1 - s.rd fXLT_MAPSTAT_G 0
      ∧ t.rd fXLT_MAPSTAT_RESULT 0 = 2 ∧ i ∈ t.xlt.relNow)
  ∧ (∀ s val i, val < 2 ^ 32 → bitsOf val 24 8 = 0x3C → bitsOf val 0 3 = 2 → bitOf val 4 = false → s.rd fXLT_MAPIDX_INDEX 0 = i →
    eState (s.entry i) = 1 → s.releaseBad i 1 = 0 →
    EndsIn (.mapRelease val 0) s fun t => t.entry i = 0 ∧ t.rd fXLT_MAPSTAT_RESULT 0 = 2)
  ∧ (∀ s val err, val < 2 ^ 32 → err < 4 →
    exec (.mapGrant val err) s = .next ((s.when_ (mapOp val 1) fun s => s.mapEcc (s.rd fXLT_MAPIDX_INDEX 0) err).mapCommand 1 val)
    ∧ exec (.mapRelease val err) s = .next ((s.when_ (mapOp val 2) fun s => s.mapEcc (s.rd fXLT_MAPIDX_INDEX 0) err).mapCommand 2 val)
    ∧ (bitsOf val 24 8 ≠ 0x3C ∨ bitsOf val 0 3 ≠ 1 → exec (.mapGrant val err) s = .next s)
    ∧ (bitsOf val 24 8 ≠ 0x3C ∨ bitsOf val 0 3 ≠ 2 → exec (.mapRelease val err) s = .next s))
  ∧ (∀ s val, val < 2 ^ 32 → bitsOf val 24 8 = 0x3C → bitsOf val 0 3 = 1 →
    ∀ e, e = s.rd2 fXLT_MAPWR_L_ENTRY_L fXLT_MAPWR_H_ENTRY_H 0 →
    (eReserved e = true → Ends (.mapGrant val 0) s s [(fXLT_MAPSTAT_RESULT, 0, 9)])
    ∧ (∀ r, eReserved e = false → bitOf val 4 = false → s.grantBad (eState (s.entry (s.rd fXLT_MAPIDX_INDEX 0))) e = r → 0 < r → r < 16 →
      Ends (.mapGrant val 0) s s [(fXLT_MAPSTAT_RESULT, 0, r)])
    ∧ (eReserved e = false → bitOf val 4 = true → s.outOfRange 1 s.mapTime = true → Ends (.mapGrant val 0) s s [(fXLT_MAPSTAT_RESULT, 0, 8)])
    ∧ (eReserved e = false → bitOf val 4 = true → s.outOfRange 1 s.mapTime = false → s.ft.now ≤ s.mapTime → 64 ≤ s.xlt.timed.length →
      Ends (.mapGrant val 0) s s [(fXLT_MAPSTAT_RESULT, 0, 7)]))
  ∧ (∀ s val, val < 2 ^ 32 → bitsOf val 24 8 = 0x3C → bitsOf val 0 3 = 2 →
    (∀ r, bitOf val 4 = false → s.releaseBad (s.rd fXLT_MAPIDX_INDEX 0) (eState (s.entry (s.rd fXLT_MAPIDX_INDEX 0))) = r → 0 < r → r < 16 →
      Ends (.mapRelease val 0) s s [(fXLT_MAPSTAT_RESULT, 0, r)])
    ∧ (bitOf val 4 = true → s.outOfRange 2 s.mapTime = true → Ends (.mapRelease val 0) s s [(fXLT_MAPSTAT_RESULT, 0, 8)])
    ∧ (bitOf val 4 = true → s.outOfRange 2 s.mapTime = false → s.ft.now ≤ s.mapTime → s.xlt.timed.length < 64 → s.claims < 256 →
      s.releaseBad (s.rd fXLT_MAPIDX_INDEX 0) (s.stateAt (s.rd fXLT_MAPIDX_INDEX 0) s.mapTime) = 0 →
      EndsIn (.mapRelease val 0) s fun t =>
        t.rd fXLT_MAPSTAT_RESULT 0 = 2 ∧ t.xlt.timed.length = s.xlt.timed.length + 1 ∧ t.xlt.map = s.xlt.map))
  ∧ (∀ s i ok, i < 2 ^ 18 → (∀ w ∈ s.xlt.waits, w.idx ≠ i ∨ w.zeroing = false) → exec (.zeroingDone i ok) s = .next s)
  ∧ (∀ s i w, i < 2 ^ 18 → s.xlt.waits = [w] → w.idx = i → w.zeroing = true → w.timed = false → (s.zeroWrites i).1 = true →
    EndsIn (.zeroingDone i true) s fun t => t.entry i = eWith (s.entry i) 2 ∧ t.xlt.waits = [])
  ∧ (∀ s i w ok, i < 2 ^ 18 → s.xlt.waits = [w] → w.idx = i → w.zeroing = true → ok = false ∨ (s.zeroWrites i).1 = false →
    EndsIn (.zeroingDone i ok) s fun t =>
      t.rd fXLT_MAPTFAIL_VALID 0 = 1 ∧ t.rd fXLT_MAPTFAIL_INDEX 0 = i ∧ t.rd fXLT_MAPTFAIL_RESULT 0 = 4 ∧ t.entry i = s.entry i)
  ∧ (∀ s i, s.rdb fXLT_MAPSTAT_DRAIN 0 = true → s.genCount s.oldGen = 0 → s.xlt.relNow = [i] → s.xlt.relNext = [] →
    EndsIn .releaseDrainEnd s fun t => t.entry i = 0 ∧ t.rd fXLT_MAPSTAT_DRAIN 0 = 0 ∧ t.xlt.relNow = [])
  ∧ (∀ s, s.genCount s.oldGen ≠ 0 ∨ s.rdb fXLT_MAPSTAT_DRAIN 0 = false → exec .releaseDrainEnd s = .next s)
  ∧ (∀ s val, val < 2 ^ 32 →
    Ends (.mapidxWrite val) s s
      [(fXLT_MAPRD_H_ENTRY_H, 0, s.entry (bitsOf val 0 18) / 2 ^ 32 % 2 ^ 32),
       (fXLT_MAPRD_L_ENTRY_L, 0, s.entry (bitsOf val 0 18) % 2 ^ 32), (fXLT_MAPIDX_INDEX, 0, bitsOf val 0 18)])
  ∧ (∀ s val, val < 2 ^ 32 → s.groupRefs (s.rd fXLT_SGSEL_GROUP 0) = 0 →
    Ends (.shareGroupWrite val) s s [(fXLT_SGDATA_MASK, 32 * s.rd fXLT_SGSEL_GROUP 0 + s.rd fXLT_SGSEL_WORD 0, val)])
  ∧ (∀ s val, val < 2 ^ 32 → s.groupRefs (s.rd fXLT_SGSEL_GROUP 0) ≠ 0 → exec (.shareGroupWrite val) s = .next (s.cfgErr 11))
  ∧ (∀ s : State, s.peek fXLT_SGREFS_REFS.addr = s.groupRefs (s.rd fXLT_SGSEL_GROUP 0) % 2 ^ 18)

/-- Pool ports, decoders, dynamic capacity and windows (R263, R267, R268, R274, R278 to R280, R283): a pool port must meet its conditions; enumeration, where
the port's gate lets it through, records what a device gives; a decoder written and committed by its host takes effect; offered extents are accepted whole; what is released and what is taken
away by force leaves the pool, and an entry that points there turns RELEASING; a window commit swaps the copies, is held, or waits for
its time, and one without its key, beyond a day or beyond the comparators is nothing or refused.  What is no pool port takes no part. -/
def Obligations.PoolAndWindows : Prop :=
  (∀ s k val, k < 2 → val < 2 ^ 32 → ((setBits 32 val).all fun i => s.mayPool (32 * k + i)) = true →
    EndsIn (.poolportWrite k val) s fun t => t.rd fXLT_POOLPORT_POOL k = val)
  ∧ (∀ s k val, k < 2 → val < 2 ^ 32 → ((setBits 32 val).all fun i => s.mayPool (32 * k + i)) = false →
    exec (.poolportWrite k val) s = .next (s.cfgErr 11))
  ∧ (∀ s p mld caps, p < 64 → s.isPool p = true → s.dlUp p = true →
    ∀ m : Msg, m = { kind := .ioNonPosted, act := .cfgWrite, node := s.ownNode, snode := s.ownNode, src := 0x7F, dest := p, addr := (Config.enumAddr p).toNat, tgt := (Config.enumAddr p).toNat } →
    (s.verdict p false ((Config.enumAddr p).toNat / 64) (whoOf m)).1 ≠ 0 →
    exec (.hdmCommitDone p mld caps) s = .next (s.denyParts p m [(0, 4, (s.verdict p false ((Config.enumAddr p).toNat / 64) (whoOf m)).1,
      (s.verdict p false ((Config.enumAddr p).toNat / 64) (whoOf m)).2)] true))
  ∧ (∀ s p mld caps, p < 64 → s.isPool p = true → s.dlUp p = true →
    (∀ m : Msg, m = { kind := .ioNonPosted, act := .cfgWrite, node := s.ownNode, snode := s.ownNode, src := 0x7F, dest := p, addr := (Config.enumAddr p).toNat, tgt := (Config.enumAddr p).toNat } →
      (s.verdict p false ((Config.enumAddr p).toNat / 64) (whoOf m)).1 = 0) →
    EndsIn (.hdmCommitDone p mld caps) s fun t =>
      (t.poolDev p).committed = true ∧ (t.poolDev p).mld = mld ∧ (t.poolDev p).caps = caps ∧ (t.poolDev p).dcd = (s.poolDev p).dcd)
  ∧ (∀ s p mld caps, p < 64 → s.isPool p = false ∨ s.dlUp p = false → exec (.hdmCommitDone p mld caps) s = .next s)
  ∧ (∀ s p d base size ways gran targets, p < 64 → d < 16 → s.upstream p = true → s.rdb fXLT_HDMX_FAB (16 * p + d) = false →
    bitOf s.pwr.culvert (tileOfPort p) = false →
    ∀ commit, EndsIn (.hdmDecoderCommit p d base size ways gran targets commit) s fun t =>
      SMap.get {} t.xlt.hdm (16 * p + d) =
        { base := base / 2 ^ 28 * 2 ^ 28, size := size / 2 ^ 28 * 2 ^ 28, ways := ways, gran := gran, targets := targets,
          committed := commit, errNC := false })
  ∧ (∀ s p d base size ways gran targets, p < 64 → d < 16 → s.upstream p = true → s.rdb fXLT_HDMX_FAB (16 * p + d) = true →
    bitOf s.pwr.culvert (tileOfPort p) = false →
    EndsIn (.hdmDecoderCommit p d base size ways gran targets true) s fun t =>
      ((SMap.get {} t.xlt.hdm (16 * p + d)).errNC = true ↔
        ways ≠ 1 ∨ 2 ^ 52 < s.rd fXLT_HDMX_FABBASE (16 * p + d) * 2 ^ 28 + size / 2 ^ 28 * 2 ^ 28)
      ∧ (SMap.get {} t.xlt.hdm (16 * p + d)).committed = !(SMap.get {} t.xlt.hdm (16 * p + d)).errNC)
  ∧ (∀ s p d base size ways gran targets commit, p < 64 → d < 16 → s.upstream p = false ∨ bitOf s.pwr.culvert (tileOfPort p) = true →
    exec (.hdmDecoderCommit p d base size ways gran targets commit) s = .next s)
  ∧ (∀ s p ld dpa len, p < 64 → ld < 16 → s.isPool p = false →
    exec (.addDynamicCapacity p ld dpa len) s = .next s ∧ exec (.dcdReleaseRequest p ld dpa len) s = .next s)
  ∧ (∀ s p ld dpa len, p < 64 → ld < 16 → dpa % 2 ^ 28 = 0 → len % 2 ^ 28 = 0 → s.isPool p = true →
    EndsIn (.addDynamicCapacity p ld dpa len) s fun t =>
      t.out = .dcd p ld (wholeExtents dpa len) :: s.out ∧ (∀ x ∈ wholeExtents dpa len, (ld, x) ∈ (t.poolDev p).dcd))
  ∧ (∀ s p ld dpa len, p < 64 → ld < 16 → dpa % 2 ^ 28 ≠ 0 ∨ len % 2 ^ 28 ≠ 0 → s.isPool p = true →
    EndsIn (.addDynamicCapacity p ld dpa len) s fun t => t.out = .dcd p ld [] :: s.out ∧ (t.poolDev p).dcd = (s.poolDev p).dcd)
  ∧ (∀ s p ld dpa len x, p < 64 → ld < 16 → s.isPool p = true → x ∈ wholeExtents dpa len → (ld, x) ∈ (s.poolDev p).dcd → s.pointing p ld x = [] →
    EndsIn (.dcdReleaseRequest p ld dpa len) s fun t => (ld, x) ∉ (t.poolDev p).dcd)
  ∧ (∀ s p ld x i e, p < 64 → ld < 16 → s.xlt.map = [(i, e)] → eState e = 2 → s.pointing p ld x = [i] →
    EndsIn (.dcdForcedRemoval p ld (x * 2 ^ 28) (2 ^ 28)) s fun t => t.entry i = eWith e 3 ∧ (ld, x) ∉ (t.poolDev p).dcd)
  ∧ (∀ s p ld dpa len, p < 64 → ld < 16 →
    (∀ x, dpa / 2 ^ 28 ≤ x → x < ceilDiv (dpa + len) (2 ^ 28) → s.pointing p ld x = []) →
    EndsIn (.dcdForcedRemoval p ld dpa len) s fun t =>
      t.xlt.map = s.xlt.map ∧ (∀ x, dpa / 2 ^ 28 ≤ x → x < ceilDiv (dpa + len) (2 ^ 28) → (ld, x) ∉ (t.poolDev p).dcd))
  ∧ (∀ s p val, p < 64 → val < 2 ^ 32 →
    bitOf s.pwr.culvert (tileOfPort p) = true ∨ bitsOf val 24 8 ≠ 0xE1 ∨ bitOf val 0 = false ∨ s.rdb fXLT_WSTAT_PEND p = true →
    exec (.windowCommit p val) s = .next s)
  ∧ (∀ s p val at_, p < 64 → val < 2 ^ 32 → bitOf s.pwr.culvert (tileOfPort p) = false → bitsOf val 24 8 = 0xE1 → bitOf val 0 = true →
    bitOf val 1 = true → s.rdb fXLT_WSTAT_PEND p = false →
    at_ = applyTime (s.rd fXLT_WCTIME_NS_NS 0) (s.rd fXLT_WCTIME_SECL_SECL 0) (s.rd fXLT_WCTIME_SECH_SECH 0) →
    (at_ ≤ s.ft.now → exec (.windowCommit p val) s = .next (s.winGo p))
    ∧ (s.ft.now + 86400 * nsPerSec < at_ → exec (.windowCommit p val) s = .next (s.cfgErr 11))
    ∧ (s.ft.now < at_ → at_ ≤ s.ft.now + 86400 * nsPerSec → 256 ≤ s.claims →
      exec (.windowCommit p val) s = .next (s.conflict 3 (ceilDiv (s.claims + 1) 4) 0))
    ∧ (s.ft.now < at_ → at_ ≤ s.ft.now + 86400 * nsPerSec → s.claims < 256 →
      EndsIn (.windowCommit p val) s fun t =>
        t.xlt.winAt = s.xlt.winAt ++ [{ at_ := at_, port := p, seq := s.headSeq }] ∧ t.regs = s.regs))
  ∧ (∀ s p, p < 64 →
    (s.rdb fXLT_WSTAT_BUSY p = false → exec (.windowShadowRefreshed p) s = .next s)
    ∧ (s.rdb fXLT_WSTAT_DRAIN p = false ∨ s.winCount p (1 - s.rd fXLT_WSTAT_GEN p) ≠ 0 → exec (.windowDrainEnd p) s = .next s)
    ∧ (s.rdb fXLT_WSTAT_DRAIN p = true → s.winCount p (1 - s.rd fXLT_WSTAT_GEN p) = 0 →
      exec (.windowDrainEnd p) s = .next ((s.wrb fXLT_WSTAT_DRAIN p false).winHeld p)))
  ∧ (∀ s p val, p < 64 → val < 2 ^ 32 → bitOf s.pwr.culvert (tileOfPort p) = false → bitsOf val 24 8 = 0xE1 → bitOf val 0 = true → bitOf val 1 = false →
    s.rdb fXLT_WSTAT_PEND p = false → s.rdb fXLT_WSTAT_DRAIN p = false → s.rdb fXLT_WSTAT_BUSY p = false →
    EndsIn (.windowCommit p val) s fun t =>
      t.rd fXLT_WSTAT_GEN p = 1 - s.rd fXLT_WSTAT_GEN p ∧ t.rd fXLT_WSTAT_BUSY p = 1 ∧ t.rd fXLT_WSTAT_PEND p = 0)
  ∧ (∀ s p val, p < 64 → val < 2 ^ 32 → bitOf s.pwr.culvert (tileOfPort p) = false → bitsOf val 24 8 = 0xE1 → bitOf val 0 = true → bitOf val 1 = false →
    s.rdb fXLT_WSTAT_PEND p = false → s.rdb fXLT_WSTAT_BUSY p = true → Ends (.windowCommit p val) s s [(fXLT_WSTAT_PEND, p, 1)])
  ∧ (∀ s p, p < 64 → s.rdb fXLT_WSTAT_BUSY p = true → s.rdb fXLT_WSTAT_PEND p = false →
    EndsIn (.windowShadowRefreshed p) s fun t =>
      t.rd fXLT_WSTAT_BUSY p = 0 ∧ (∀ j, j / 1024 = p → t.rd fXLT_WINSH_WORD j = t.rd fXLT_WINACT_WORD j))
  ∧ (∀ s p, p < 64 → s.rdb fXLT_WSTAT_DRAIN p = true → s.rdb fXLT_WSTAT_PEND p = false →
    s.winCount p (1 - s.rd fXLT_WSTAT_GEN p) = 0 → Ends (.windowDrainEnd p) s s [(fXLT_WSTAT_DRAIN, p, 0)])

/-- Gate rules (R293 to R298): a staged rule is stored whole unless its gate is shut; a commit is validated, then refused with its
first failure, or pending with its tag, and an untimed one swaps its gates at once; a commit is withdrawn by its tag; a drain ends and
the staging copy follows the active one; an error in the master copy fails the gate closed.  A write without its key, and a command while another is
validated, change nothing; a commit beyond a day is refused, and one beyond the comparators is a conflict. -/
def Obligations.GateRules : Prop :=
  (∀ s val, val < 2 ^ 32 → s.rdb fCHK_RSEL_COPY 0 = false → s.stagingShut (s.rd fCHK_RSEL_GATE 0) = false →
    EndsIn (.chkRuleStore val) s fun t =>
      t.rd fCHK_RDATA_DATA 7 = val
      ∧ SMap.get 0 t.chk.staged (4096 * s.rd fCHK_RSEL_GATE 0 + s.rd fCHK_RSEL_RULE 0) =
        ((List.range 8).map fun i => t.rd fCHK_RDATA_DATA i * 2 ^ (32 * i)).sum)
  ∧ (∀ s val, val < 2 ^ 32 → s.rdb fCHK_RSEL_COPY 0 = true ∨ s.stagingShut (s.rd fCHK_RSEL_GATE 0) = true →
    exec (.chkRuleStore val) s = .next (s.cfgErr 13))
  ∧ (∀ s val, val < 2 ^ 32 → bitsOf val 24 8 = 0x5C → bitsOf val 0 7 ≤ 64 → s.stagingShut (bitsOf val 0 7) = false →
    EndsIn (.chkStagingClear val) s fun t =>
      rulesOf t.chk.staged (bitsOf val 0 7) = [] ∧ t.regs = s.regs ∧ t.chk.active = s.chk.active)
  ∧ (∀ s val, val < 2 ^ 32 →
    (bitsOf val 24 8 ≠ 0x5C ∨ 64 < bitsOf val 0 7 → exec (.chkStagingClear val) s = .next s)
    ∧ (bitsOf val 24 8 = 0x5C → bitsOf val 0 7 ≤ 64 → s.stagingShut (bitsOf val 0 7) = true →
      exec (.chkStagingClear val) s = .next (s.cfgErr 13))
    ∧ (bitsOf val 24 8 ≠ 0x5C ∨ bitsOf val 0 2 ≠ 1 ∨ s.chk.checking.isSome = true → exec (.chkCommit val) s = .next s)
    ∧ (bitsOf val 24 8 ≠ 0x5C ∨ bitsOf val 0 2 ≠ 2 ∨ s.chk.checking.isSome = true → exec (.chkWithdraw val) s = .next s))
  ∧ (∀ s val, val < 2 ^ 32 → bitsOf val 24 8 = 0x5C → bitsOf val 0 2 = 1 → bitOf val 2 = true → s.chk.checking = none →
    s.chk.pend.length < 16 → s.maskGates.any s.gateTaken = false →
    (s.ft.now + 86400 * nsPerSec < s.chkTime → Ends (.chkCommit val) s s [(fCHK_LOADSTAT_RESULT, 0, 8)])
    ∧ (s.chkTime ≤ s.ft.now + 86400 * nsPerSec → 256 ≤ s.claims →
      exec (.chkCommit val) s = .next (s.conflict 3 (ceilDiv (s.claims + 1) 4) 0))
    ∧ (s.chkTime ≤ s.ft.now + 86400 * nsPerSec → s.claims < 256 →
      Ends (.chkCommit val) s
        { s with chk := { s.chk with checking := some { tag := s.freeTag, gates := s.maskGates, at_ := some s.chkTime } } }
        [(fCHK_LOADSTAT_BUSY, 0, 1)]))
  ∧ (∀ s, s.chk.checking = none → exec .chkValidationDone s = .next s)
  ∧ (∀ (s t : State) c at_, s.chk.checking = some c → c.at_ = some at_ → s.stagedBad c.gates = none →
    t = State.wrb { s with chk := { s.chk with checking := none } } fCHK_LOADSTAT_BUSY 0 false → 256 ≤ t.claims →
    exec .chkValidationDone s = .next (t.conflict 3 (ceilDiv (t.claims + 1) 4) 0))
  ∧ (∀ s g, g < 65 →
    (s.rdb fCHK_GATE_DRAIN g = false ∨ s.oldSet g ≠ 0 → exec (.chkDrainEnd g) s = .next s)
    ∧ (s.rdb fCHK_GATE_DRAIN g = true → s.oldSet g = 0 →
      exec (.chkDrainEnd g) s = .next ((s.wrb fCHK_GATE_DRAIN g false).commitsDue s.ft.now))
    ∧ (s.rdb fCHK_GATE_SBUSY g = false → exec (.chkStagingRewriteDone g) s = .next s)
    ∧ (∀ err, err < 4 → exec (.chkScrub g err) s = .next (s.gateError g err)))
  ∧ (∀ s val, val < 2 ^ 32 → bitsOf val 24 8 = 0x5C → bitsOf val 0 2 = 1 → bitOf val 2 = false → s.chk.checking = none →
    s.chk.pend.length < 16 → s.maskGates.any s.gateTaken = false →
    Ends (.chkCommit val) s { s with chk := { s.chk with checking := some { tag := s.freeTag, gates := s.maskGates, at_ := none } } }
      [(fCHK_LOADSTAT_BUSY, 0, 1)])
  ∧ (∀ s val, val < 2 ^ 32 → bitsOf val 24 8 = 0x5C → bitsOf val 0 2 = 1 → s.chk.checking = none →
    16 ≤ s.chk.pend.length ∨ s.maskGates.any s.gateTaken = true → Ends (.chkCommit val) s s [(fCHK_LOADSTAT_RESULT, 0, 1)])
  ∧ (∀ s c at_, s.chk.checking = some c → c.at_ = some at_ → s.stagedBad c.gates = none → s.chk.pend.length < 16 → c.tag < 16 → s.claims < 256 →
    EndsIn .chkValidationDone s fun t =>
      t.chk.checking = none ∧ t.chk.pend = s.chk.pend ++ [c] ∧ t.rd fCHK_LOADSTAT_RESULT 0 = 2 ∧ t.rd fCHK_LOADSTAT_TAG 0 = c.tag
      ∧ t.rd fCHK_LOADSTAT_BUSY 0 = 0 ∧ t.rd fCHK_LOADSTAT_PENDCNT 0 = s.chk.pend.length + 1)
  ∧ (∀ s c g, s.chk.checking = some c → c.at_ = none → c.gates = [g] → s.stagedBad [g] = none → s.rdb fCHK_GATE_DRAIN g = false →
    s.chk.pend = [] →
    EndsIn .chkValidationDone s fun t =>
      t.rd fCHK_GATE_EPOCH g = 1 - s.rd fCHK_GATE_EPOCH g ∧ t.rd fCHK_GATE_SBUSY g = 1 ∧ t.rd fCHK_GATE_FAILED g = 0
      ∧ t.rd fCHK_LOADSTAT_RESULT 0 = 2 ∧ t.chk.pend = [])
  ∧ (∀ s c g r a b, s.chk.checking = some c → s.stagedBad c.gates = some (g, r, a, b) → r < 16 → g < 128 → a < 4096 → b < 4096 →
    EndsIn .chkValidationDone s fun t =>
      t.rd fCHK_LOADSTAT_RESULT 0 = r ∧ t.rd fCHK_LOADERR_GATE 0 = g ∧ t.rd fCHK_LOADERR_RULEA 0 = a ∧ t.rd fCHK_LOADERR_RULEB 0 = b
      ∧ t.chk.pend = s.chk.pend ∧ t.chk.active = s.chk.active)
  ∧ (∀ s val c, val < 2 ^ 32 → bitsOf val 24 8 = 0x5C → bitsOf val 0 2 = 2 → s.chk.checking = none → s.chk.pend = [c] →
    c.tag = bitsOf val 4 4 →
    EndsIn (.chkWithdraw val) s fun t =>
      t.chk.pend = [] ∧ t.rd fCHK_LOADSTAT_RESULT 0 = 2 ∧ t.rd fCHK_LOADSTAT_PENDCNT 0 = 0
      ∧ (∀ g ∈ c.gates, t.rd fCHK_GATE_PEND g = 0))
  ∧ (∀ s val, val < 2 ^ 32 → bitsOf val 24 8 = 0x5C → bitsOf val 0 2 = 2 → s.chk.checking = none →
    (∀ c ∈ s.chk.pend, c.tag ≠ bitsOf val 4 4) → Ends (.chkWithdraw val) s s [(fCHK_LOADSTAT_RESULT, 0, 9)])
  ∧ (∀ s g, g < 65 → s.rdb fCHK_GATE_DRAIN g = true → s.oldSet g = 0 → s.chk.pend = [] →
    Ends (.chkDrainEnd g) s s [(fCHK_GATE_DRAIN, g, 0)])
  ∧ (∀ s g, g < 65 → s.rdb fCHK_GATE_SBUSY g = true →
    EndsIn (.chkStagingRewriteDone g) s fun t =>
      t.rd fCHK_GATE_SBUSY g = 0 ∧ t.rd fCHK_GATE_SMISS g = s.rd fCHK_GATE_MISS g % 2 ∧ t.chk.active = s.chk.active
      ∧ t.chk.staged = putRules s.chk.staged g (rulesOf s.chk.active g))
  ∧ (∀ s g, g < 65 →
    Ends (.chkScrub g 1) s s [(fCHK_ERR_ECCCOR, 0, satAdd fCHK_ERR_ECCCOR.width (s.rd fCHK_ERR_ECCCOR 0) 1)])
  ∧ (∀ s g, g < 65 →
    Ends (.chkScrub g 3) s (s.pulse 0x1CA) [(fCHK_ERR_FLTVALID, 0, 1), (fCHK_ERR_GATEFLT, 0, g), (fCHK_GATE_FAILED, g, 1)])

/-- The start of a descriptor (R302, R304, R305, R315, R319): the next descriptor of a ring in RUN starts, by the command that its operation names, and its
engine goes on; a barrier also issues the ring's open write-combining entries; a descriptor that breaks a rule starts as failed; a ring with
nothing fetched, or not in RUN, or with its completion queue full, starts none, by any of these commands; and each command starts the next descriptor
only where that has its operation. -/
def Obligations.DescriptorsStart : Prop :=
  (∀ s r d rest, s.nextDesc r d rest → dOp d = 0 → exec (.nop r) s = .next ((s.started r d rest).goRing r))
  ∧ (∀ s r d rest, s.nextDesc r d rest → dOp d = 1 → exec (.copy r) s = .next ((s.started r d rest).goRing r))
  ∧ (∀ s r d rest, s.nextDesc r d rest → dOp d = 2 → exec (.fill r) s = .next ((s.started r d rest).goRing r))
  ∧ (∀ s r d rest, s.nextDesc r d rest → dOp d = 3 → dMcast d = false →
    exec (.writei r) s = .next ((s.started r d rest).goRing r))
  ∧ (∀ s r d rest, s.nextDesc r d rest → dOp d = 3 → dMcast d = true →
    exec (.writeiMcast r) s = .next ((s.started r d rest).goRing r))
  ∧ (∀ s r d rest, s.nextDesc r d rest → dOp d = 4 → exec (.load r) s = .next ((s.started r d rest).goRing r))
  ∧ (∀ s r d rest, s.nextDesc r d rest → dOp d = 5 → dSub d = 0 →
    exec (.atomicFadd8 r) s = .next ((s.started r d rest).goRing r))
  ∧ (∀ s r d rest, s.nextDesc r d rest → dOp d = 5 → dSub d = 1 →
    exec (.atomicSwap8 r) s = .next ((s.started r d rest).goRing r))
  ∧ (∀ s r d rest, s.nextDesc r d rest → dOp d = 5 → dSub d = 2 →
    exec (.atomicCas8 r) s = .next ((s.started r d rest).goRing r))
  ∧ (∀ s r d rest, s.nextDesc r d rest → dOp d = 5 → dSub d = 3 →
    exec (.atomicCas16 r) s = .next ((s.started r d rest).goRing r))
  ∧ (∀ s r d rest, s.nextDesc r d rest → dOp d = 6 →
    exec (.barrier r) s = .next (((s.started r d rest).wcDue r).goRing r))
  ∧ (∀ s r d rest, isRing r = true → (s.ring r).fetched = d :: rest → s.rstate r = 2 → s.cqFull r = false → (s.ring r).live = [] →
    s.portOfTenant (s.rd fRUN_RCTX0_OWNER r) = none → descBad d 0 ≠ 0 → dOp d = 1 → dRel d = false → dFence d = false →
    s.rdb fVF_RING_STOPONERR (s.half r) = true →
    exec (.copy r) s =
      .next ((s.ringMod r fun g => { g with
        fetched := rest,
        live := [{ idx := s.rd fRUN_RCTX1_HEAD r, d := d, off := s.rd fRUN_RCTX2_DONE r, issued := true, fail := some (0, descBad d 0, dDst d, dDsp d) }] }).goRing r))
  ∧ (∀ s r c, c ∈ [Instr.nop r, .copy r, .fill r, .writei r, .writeiMcast r, .load r, .atomicFadd8 r, .atomicSwap8 r, .atomicCas8 r, .atomicCas16 r, .barrier r] →
    isRing r = true → (s.ring r).fetched = [] ∨ s.rstate r ≠ 2 ∨ s.cqFull r = true → exec c s = .next s)
  ∧ (∀ s r, isRing r = true →
    exec (.nop r) s = .next (s.startDesc r fun d => dOp d == 0 || decide (6 < dOp d))
    ∧ exec (.copy r) s = .next (s.startDesc r fun d => dOp d == 1)
    ∧ exec (.fill r) s = .next (s.startDesc r fun d => dOp d == 2)
    ∧ exec (.writei r) s = .next (s.startDesc r fun d => dOp d == 3 && !dMcast d)
    ∧ exec (.writeiMcast r) s = .next (s.startDesc r fun d => dOp d == 3 && dMcast d)
    ∧ exec (.load r) s = .next (s.startDesc r fun d => dOp d == 4)
    ∧ exec (.atomicFadd8 r) s = .next (s.startDesc r fun d => dOp d == 5 && (dSub d == 0 || decide (3 < dSub d)))
    ∧ exec (.atomicSwap8 r) s = .next (s.startDesc r fun d => dOp d == 5 && dSub d == 1)
    ∧ exec (.atomicCas8 r) s = .next (s.startDesc r fun d => dOp d == 5 && dSub d == 2)
    ∧ exec (.atomicCas16 r) s = .next (s.startDesc r fun d => dOp d == 5 && dSub d == 3)
    ∧ exec (.barrier r) s = .next (s.startDesc r fun d => dOp d == 6))
  ∧ (∀ (s : State) e, s.engineStep e = none → s.go e = s)

/-- Runnel accesses (R309, R310, R311, R313, R314, R318): what a descriptor fetch brings is kept for its ring; an idle entry becomes due; a notice, a completion, data
and a timeout take the access they name, and one that names none changes nothing; an expired write is recorded as dead and its access
fails with status 4, an expired read with 5, poisoned data with 2.  What the notice of a port of this device says is what its own gate found when it
checked the access. -/
def Obligations.RunnelAccesses : Prop :=
  (∀ s ring ds a, isRing ring = true → (ds.all fun d => decide (d < 2 ^ 512)) = true →
    (s.run.accs.find? fun a => a.ring == ring && a.kind == .fetch) = some a → a.orphan = false →
    (s.acked a).rstate ring ≠ 5 →
    exec (.descriptorFetchDone ring true ds) s =
      .next (((s.acked a).ringMod ring fun g => { g with fetch := 0, fetched := ds.take ((s.acked a).ring ring).fetch }).goRing ring))
  ∧ (∀ s ring ds a, isRing ring = true → (ds.all fun d => decide (d < 2 ^ 512)) = true →
    (s.run.accs.find? fun a => a.ring == ring && a.kind == .fetch) = some a →
    exec (.descriptorFetchDone ring false ds) s = .next ((s.accFail a 0x0A).goRing ring))
  ∧ (∀ s entry w, (s.run.wc.find? fun w => w.id == entry && w.acc.isNone) = some w →
    exec (.wcIdleIssue entry false) s = .next ((s.wcMod entry fun w => { w with due := true, bad := w.bad || false }).go w.eng))
  ∧ (∀ s ring ok ds, isRing ring = true → (ds.all fun d => decide (d < 2 ^ 512)) = true →
    (s.run.accs.find? fun a => a.ring == ring && a.kind == .fetch) = none → exec (.descriptorFetchDone ring ok ds) s = .next s)
  ∧ (∀ s ring ds a, isRing ring = true → (ds.all fun d => decide (d < 2 ^ 512)) = true →
    (s.run.accs.find? fun a => a.ring == ring && a.kind == .fetch) = some a →
    (a.orphan = true → exec (.descriptorFetchDone ring true ds) s = .next ((s.acked a).goRing ring))
    ∧ (a.orphan = false → (s.acked a).rstate ring = 5 →
      exec (.descriptorFetchDone ring true ds) s =
        .next (((s.acked a).ringMod ring fun g => { g with fetch := 0, fetched := [] }).goRing ring)))
  ∧ (∀ s entry bad, (s.run.wc.find? fun w => w.id == entry && w.acc.isNone) = none → exec (.wcIdleIssue entry bad) s = .next s)
  ∧ (∀ s entry w, (s.run.wc.find? fun w => w.id == entry && w.acc.isNone) = some w →
    exec (.wcIdleIssue entry true) s = .next
      ((((s.wcMod entry fun w => { w with due := true, bad := true }).failFor w.ring w.idxs s.run.nextAcc 2 w.first w.space true).pulse
        0x1D1).go w.eng))
  ∧ (∀ s acc rule pairAt early devReg wto, wto < 256 → s.acc acc = none → exec (.admitNotice acc rule pairAt early devReg wto) s = .next s)
  ∧ (∀ s acc rule pairAt early devReg wto a, wto < 256 → s.acc acc = some a → a.m.node = s.ownNode → a.m.dest < 0x40 →
    (a.told = none → exec (.admitNotice acc rule pairAt early devReg wto) s = .next s)
    ∧ (∀ r p e d w, a.told = some (r, p, e, d, w) →
      exec (.admitNotice acc rule pairAt early devReg wto) s = .next ((s.notice a r p e d w).go a.eng)))
  ∧ (∀ s acc rule pairAt early devReg wto a, wto < 256 → s.acc acc = some a → a.m.node ≠ s.ownNode ∨ 0x40 ≤ a.m.dest →
    exec (.admitNotice acc rule pairAt early devReg wto) s = .next ((s.notice a rule pairAt early devReg wto).go a.eng))
  ∧ (∀ s acc st a, isCause st = true → s.acc acc = some a →
    exec (.runnelWriteAck acc st) s = .next ((s.writeAck a st).go a.eng)
    ∧ (∀ data p, exec (.runnelReadData acc st data p) s = .next ((s.readData a st data p).go a.eng))
    ∧ (a.kind = .write ∨ a.kind = .record →
      exec (.runnelWriteTimeout acc) s = .next ((s.writeDead a).go a.eng) ∧ exec (.runnelReadTimeout acc) s = .next s)
    ∧ (a.kind ≠ .write → a.kind ≠ .record →
      exec (.runnelWriteTimeout acc) s = .next s ∧ exec (.runnelReadTimeout acc) s = .next ((s.accFail a 5).go a.eng)))
  ∧ (∀ s acc a, s.acc acc = some a → a.kind = .write → a.irq = false →
    exec (.runnelWriteAck acc 0) s = .next ((s.acked a).go a.eng))
  ∧ (∀ s acc st a, s.acc acc = some a → a.kind = .write → isCause st = true → st ≠ 0 →
    exec (.runnelWriteAck acc st) s = .next ((s.accFail a st).go a.eng))
  ∧ (∀ s acc data a, s.acc acc = some a → a.kind = .read → exec (.runnelReadData acc 0 data true) s = .next ((s.accFail a 2).go a.eng))
  ∧ (∀ s acc data a, s.acc acc = some a → a.kind = .read → a.orphan = true →
    exec (.runnelReadData acc 0 data false) s = .next ((s.acked a).go a.eng))
  ∧ (∀ s acc a, s.acc acc = some a → a.kind = .write → a.ring < 2 ^ fRUN_DEAD_RING.width → a.orphan = true →
    exec (.runnelWriteTimeout acc) s = .next ((s.writeDead a).go a.eng)
      ∧ (s.writeDead a).rd fRUN_DEAD_VALID 0 = 1 ∧ (s.writeDead a).rd fRUN_DEAD_RING 0 = a.ring
      ∧ (s.writeDead a).rd fRUN_ERR_WTO 0 = satAdd fRUN_ERR_WTO.width (s.rd fRUN_ERR_WTO 0) 1)
  ∧ (∀ s acc a, s.acc acc = some a → a.kind = .read → exec (.runnelReadTimeout acc) s = .next ((s.accFail a 5).go a.eng))
  ∧ (∀ s acc status, s.acc acc = none → isCause status = true →
    exec (.runnelWriteAck acc status) s = .next s ∧ exec (.runnelReadData acc status 0 false) s = .next s
    ∧ exec (.runnelWriteTimeout acc) s = .next s ∧ exec (.runnelReadTimeout acc) s = .next s)

/-- Rings and engines (R300 to R302, R308, R310, R324, R326): the manager half of a ring that is OFF is written, unless another enabled ring has its slot or its
engine is not enabled, and EN 0 stops one that is not; a
doorbell beyond the ring's size is refused; CTL enables, disables and resumes a ring; a ring that stops is OFF once nothing of it is left; the
configuration of a ring that is not OFF takes no write; the completion queue's head, the pauses and the enables are written; an engine that
an enabled ring names stays enabled.  A tenant whose slot is not open to it, or has no ring, reaches nothing. -/
def Obligations.RingsAndEngines : Prop :=
  (∀ s val, val < 2 ^ 32 → s.rstate (s.rd fRUN_RSEL_RING 0) = 0 → bitOf val 0 = false →
    s.discards (fieldsAt 0xF00024) (s.rd fRUN_RSEL_RING 0) val = false →
    EndsIn (.runRctx0Write val) s fun t => Took (fieldsAt 0xF00024) (s.rd fRUN_RSEL_RING 0) val t)
  ∧ (∀ s val, val < 2 ^ 32 → s.rstate (s.rd fRUN_RSEL_RING 0) = 0 → bitOf val 0 = true →
    s.discards (fieldsAt 0xF00024) (s.rd fRUN_RSEL_RING 0) val = false →
    (bitOf (s.rd fRUN_ENABLE_EN 0) (bitsOf val 18 5) = true →
      (∀ q ∈ s.listed fRUN_RCTX0_EN, q ≠ s.rd fRUN_RSEL_RING 0 → s.rdb fRUN_RCTX0_EN q = true →
        s.rd fRUN_RCTX0_OWNER q ≠ bitsOf val 1 13 ∨ s.rd fRUN_RCTX0_SLOT q ≠ bitsOf val 14 4) →
      EndsIn (.runRctx0Write val) s fun t => Took (fieldsAt 0xF00024) (s.rd fRUN_RSEL_RING 0) val t)
    ∧ (bitOf (s.rd fRUN_ENABLE_EN 0) (bitsOf val 18 5) = false
        ∨ (∃ q ∈ s.listed fRUN_RCTX0_EN, q ≠ s.rd fRUN_RSEL_RING 0 ∧ s.rdb fRUN_RCTX0_EN q = true
          ∧ s.rd fRUN_RCTX0_OWNER q = bitsOf val 1 13 ∧ s.rd fRUN_RCTX0_SLOT q = bitsOf val 14 4) →
      exec (.runRctx0Write val) s = .next (s.cfgErr 15)))
  ∧ (∀ s val, val < 2 ^ 32 → s.discards (fieldsAt 0xF00024) (s.rd fRUN_RSEL_RING 0) val = true → exec (.runRctx0Write val) s = .next s)
  ∧ (∀ s val, val < 2 ^ 32 → s.rstate (s.rd fRUN_RSEL_RING 0) ≠ 0 → bitOf val 0 = false →
    s.discards (fieldsAt 0xF00024) (s.rd fRUN_RSEL_RING 0) val = false →
    exec (.runRctx0Write val) s = .next (((s.wrb fRUN_RCTX0_EN (s.rd fRUN_RSEL_RING 0) false).ringStop (s.rd fRUN_RSEL_RING 0)).goRing
      (s.rd fRUN_RSEL_RING 0)))
  ∧ (∀ s ti k val r, ti < 8192 → k < 16 → val < 2 ^ 32 → s.slotOpen ti = true → s.ringOf ti k = some r → s.rstate r ≠ 0 →
    (bitsOf val 0 16 + 2 ^ 16 - s.rd fRUN_RCTX1_HEAD r) % 2 ^ 16 ≤ 2 ^ s.rd fVF_RING_RSIZE (slotIx ti k) →
    exec (.ringDoorbell ti k val) s = .next
      (let t := s.wr fVF_RING_TAIL (slotIx ti k) (bitsOf val 0 16)
       if t.rstate r = 1 ∧ t.pendingDesc r then (t.enterRun r).goRing r else t.goRing r))
  ∧ (∀ s ti k val, ti < 8192 → k < 16 → val < 2 ^ 32 →
    (bitOf val 0 = true → exec (.ringEnable ti k val) s = .next (s.ctlWrite ti k val) ∧ exec (.ringDisable ti k val) s = .next s)
    ∧ (bitOf val 0 = false → exec (.ringEnable ti k val) s = .next s ∧ exec (.ringDisable ti k val) s = .next (s.ctlWrite ti k val))
    ∧ (bitOf val 1 = true → exec (.ringResume ti k val) s = .next (s.ctlWrite ti k val))
    ∧ (bitOf val 1 = false → exec (.ringResume ti k val) s = .next s)
    ∧ (s.slotOpen ti = false ∨ s.ringOf ti k = none →
      exec (.ringEnable ti k val) s = .next s ∧ exec (.ringDisable ti k val) s = .next s ∧ exec (.ringResume ti k val) s = .next s
      ∧ exec (.cqheadWrite ti k val) s = .next s
      ∧ (∀ off ∈ [0x08, 0x0C, 0x10, 0x14, 0x18], exec (.ringCfgWrite ti k off val) s = .next s)))
  ∧ (∀ s ti k off val r, ti < 8192 → k < 16 → val < 2 ^ 32 → s.slotOpen ti = true → s.ringOf ti k = some r → s.rstate r = 0 →
    (off = 0x08 ∨ off = 0x10 → exec (.ringCfgWrite ti k off val) s = .next (s.stageLow (0x2000000000 + 256 * slotIx ti k + off) val))
    ∧ (off = 0x0C ∨ off = 0x14 → EndsIn (.ringCfgWrite ti k off val) s fun t => Took (wordFields 0x2000000000 (off / 4) 7) (slotIx ti k) val t))
  ∧ (∀ s ti k off val low r, ti < 8192 → k < 16 → val < 2 ^ 32 → low < 2 ^ 32 → s.slotOpen ti = true → s.ringOf ti k = some r → s.rstate r = 0 →
    off = 0x0C ∨ off = 0x14 → SMap.get 0 s.stage (0x2000000000 + 256 * slotIx ti k + off - 4) = low + 1 →
    EndsIn (.ringCfgWrite ti k off val) s fun t => Took (wordFields 0x2000000000 (off / 4 - 1) 7) (slotIx ti k) low t)
  ∧ (∀ s r, isRing r = true →
    s.rstate r ≠ 5 ∨ (∃ a ∈ s.run.accs, a.ring = r ∧ a.orphan = false) ∨ (∃ w ∈ s.run.wc, w.ring = r) → exec (.ringStopped r) s = .next s)
  ∧ (∀ s val, val < 2 ^ 32 →
    exec (.runPauseWrite val) s = .next (s.wr fRUN_PAUSE_PAUSE 0 val).pauseAll
    ∧ ((∀ r ∈ s.listed fRUN_RCTX0_EN, s.rdb fRUN_RCTX0_EN r = true → bitOf val (s.rd fRUN_RCTX0_ENGINE r) = true) →
      exec (.runEnableWrite val) s = .next ((s.wr fRUN_ENABLE_EN 0 val).domKicks [80, 81, 82, 83])))
  ∧ (∀ s val, val < 2 ^ 32 → s.rstate (s.rd fRUN_RSEL_RING 0) ≠ 0 → bitOf val 0 = true →
    s.discards (fieldsAt 0xF00024) (s.rd fRUN_RSEL_RING 0) val = false → exec (.runRctx0Write val) s = .next (s.cfgErr 15))
  ∧ (∀ s ti k val r, ti < 8192 → k < 16 → val < 2 ^ 32 → s.slotOpen ti = true → s.ringOf ti k = some r →
    2 ^ s.rd fVF_RING_RSIZE (slotIx ti k) < (bitsOf val 0 16 + 2 ^ 16 - s.rd fRUN_RCTX1_HEAD r) % 2 ^ 16 →
    Ends (.ringDoorbell ti k val) s s [(fVF_RING_DBERR, slotIx ti k, 1)])
  ∧ (∀ s ti k val r, ti < 8192 → k < 16 → val < 2 ^ 32 → s.slotOpen ti = true → s.ringOf ti k = some r → s.rstate r = 0 →
    (bitsOf val 0 16 + 2 ^ 16 - s.rd fRUN_RCTX1_HEAD r) % 2 ^ 16 ≤ 2 ^ s.rd fVF_RING_RSIZE (slotIx ti k) →
    exec (.ringDoorbell ti k val) s = .next ((s.wr fVF_RING_TAIL (slotIx ti k) (bitsOf val 0 16)).goRing r))
  ∧ (∀ s ti k val, ti < 8192 → k < 16 → val < 2 ^ 32 → s.slotOpen ti = false ∨ s.ringOf ti k = none →
    exec (.ringDoorbell ti k val) s = .next s)
  ∧ (∀ s ti k val r, ti < 8192 → k < 16 → val < 2 ^ 32 → bitOf val 0 = true → bitOf val 1 = false → s.slotOpen ti = true →
    s.ringOf ti k = some r → s.rstate r = 0 → s.sizesOk (slotIx ti k) = true → s.pendingDesc r = false → s.ringHeld r = false →
    exec (.ringEnable ti k val) s =
      .next (((s.wrb fVF_RING_EN (slotIx ti k) true).wr fRUN_RCTX1_STATE r 1).goRing r))
  ∧ (∀ s ti k val r, ti < 8192 → k < 16 → val < 2 ^ 32 → bitOf val 0 = false → bitOf val 1 = false → s.slotOpen ti = true →
    s.ringOf ti k = some r → s.rdb fVF_RING_EN (slotIx ti k) = true →
    exec (.ringDisable ti k val) s = .next (((s.wrb fVF_RING_EN (slotIx ti k) false).ringStop r).goRing r))
  ∧ (∀ s ti k val r, ti < 8192 → k < 16 → val < 2 ^ 32 → bitOf val 0 = true → bitOf val 1 = true → s.slotOpen ti = true →
    s.ringOf ti k = some r → s.rstate r = 4 → s.rd fRUN_RCTX1_HEAD r ≠ s.rd fVF_RING_LASTIDX (slotIx ti k) →
    s.pendingDesc r = false →
    exec (.ringResume ti k val) s = .next (((s.wr fRUN_RCTX1_STATE r 1).wrb fVF_RING_EN (slotIx ti k) true).goRing r))
  ∧ (∀ (s : State) r, s.rstate r = 1 → (s.ringStop r).rstate r = 5)
  ∧ (∀ s r, isRing r = true → s.rstate r = 5 → (∀ a ∈ s.run.accs, a.ring ≠ r ∨ a.orphan = true) → (∀ w ∈ s.run.wc, w.ring ≠ r) →
    EndsIn (.ringStopped r) s fun t =>
      t.rstate r = 0 ∧ t.rd fRUN_RCTX2_DONE r = 0 ∧ (t.ring r).fetched = [] ∧ (t.ring r).live = [] ∧ (t.ring r).recs = (s.ring r).recs)
  ∧ (∀ s ti k off val r, ti < 8192 → k < 16 → val < 2 ^ 32 → off ∈ [0x08, 0x0C, 0x10, 0x14, 0x18] → s.slotOpen ti = true →
    s.ringOf ti k = some r → s.rstate r ≠ 0 → Ends (.ringCfgWrite ti k off val) s s [(fVF_RING_CFGREJ, slotIx ti k, 1)])
  ∧ (∀ s ti k val r, ti < 8192 → k < 16 → val < 2 ^ 32 → s.slotOpen ti = true → s.ringOf ti k = some r → s.rstate r = 0 →
    EndsIn (.ringCfgWrite ti k 0x18 val) s fun t => Took (fieldsAt 0x2000000018) (slotIx ti k) val t)
  ∧ (∀ s ti k val r, ti < 8192 → k < 16 → val < 2 ^ 32 → s.slotOpen ti = true → s.ringOf ti k = some r →
    exec (.cqheadWrite ti k val) s = .next ((s.wr fVF_RING_CQHEAD (slotIx ti k) (bitsOf val 0 16)).goRing r))
  ∧ (∀ s val, val < 2 ^ 32 → s.listed fRUN_RCTX1_STATE = [] → Ends (.runPauseWrite val) s s [(fRUN_PAUSE_PAUSE, 0, val)])
  ∧ (∀ s val, val < 2 ^ 32 → s.listed fRUN_RCTX0_EN = [] →
    EndsIn (.runEnableWrite val) s fun t => t.rd fRUN_ENABLE_EN 0 = val)
  ∧ (∀ s val r, val < 2 ^ 32 → r ∈ s.listed fRUN_RCTX0_EN → s.rdb fRUN_RCTX0_EN r = true →
    bitOf val (s.rd fRUN_RCTX0_ENGINE r) = false → exec (.runEnableWrite val) s = .next (s.cfgErr 15))

/-- Mailboxes (R351 to R353): while the tenant reaches its instance, a doorbell of a good length posts a free mailbox with the next SEQ and any other is an error; the manager's answer, or
its absence, ends the request; ACK frees the mailbox; the manager's notice bits reach the tenant; a write without its key or its bit is nothing. -/
def Obligations.TenantMailboxes : Prop :=
  (∀ s ti val, ti < 8192 → val < 2 ^ 32 → s.slotOpen ti = true → bitsOf val 0 9 ≠ 0 → bitsOf val 0 9 ≤ 256 → s.posted ti = false →
    EndsIn (.mailboxDoorbell ti val) s fun t =>
      t.rd fVF_MB_MSTATE ti = 1 ∧ t.rd fVF_MB_SEQ ti = (s.rd fVF_MB_SEQ ti + 1) % 2 ^ 16 ∧ t.rd fTEN_MBSTAT_REQLEN ti = bitsOf val 0 9)
  ∧ (∀ s ti val, ti < 8192 → val < 2 ^ 32 → s.slotOpen ti = true → bitsOf val 0 9 = 0 ∨ 256 < bitsOf val 0 9 ∨ s.posted ti = true →
    Ends (.mailboxDoorbell ti val) s s
      [(fTEN_ERR_DBERR, 0, satAdd fTEN_ERR_DBERR.width (s.rd fTEN_ERR_DBERR 0) 1), (fVF_MB_DBERR, ti, 1)])
  ∧ (∀ s ti val, ti < 8192 → val < 2 ^ 32 → s.slotOpen ti = false →
    exec (.mailboxDoorbell ti val) s = .next s ∧ exec (.mailboxAck ti val) s = .next s)
  ∧ (∀ s ti val, ti < 8192 → val < 2 ^ 32 → s.slotOpen ti = true → bitOf val 0 = true → s.rd fVF_MB_MSTATE ti = 2 →
    Ends (.mailboxAck ti val) s s [(fVF_MB_MSTATE, ti, 0)])
  ∧ (∀ s ti val, ti < 8192 → val < 2 ^ 32 → bitOf val 0 = false ∨ s.rd fVF_MB_MSTATE ti ≠ 2 → exec (.mailboxAck ti val) s = .next s)
  ∧ (∀ s val, val < 2 ^ 32 → bitsOf val 24 8 ≠ 0x4D → exec (.mailboxDone val) s = .next s)
  ∧ (∀ s val, val < 2 ^ 32 → exec (.tenNoticeWrite val) s = .next (s.noticeSet s.tsel (bitsOf val 0 8 * 256)))
  ∧ (∀ s val, val < 2 ^ 32 → bitsOf val 24 8 = 0x4D → s.posted s.tsel = true → bitsOf val 0 16 = s.rd fVF_MB_SEQ s.tsel →
    EndsIn (.mailboxDone val) s fun t =>
      t.rd fVF_MB_MSTATE s.tsel = 2 ∧ t.rd fVF_MB_RSPLEN s.tsel = s.rd fTEN_MBRSPHDR_RSPLEN 0 % 2 ^ 9
      ∧ t.rd fVF_MB_STATUS s.tsel = s.rd fTEN_MBRSPHDR_STATUS 0 % 2 ^ 8
      ∧ (∀ w, w < 64 → t.rd fVF_MB_RSP (64 * s.tsel + w) = s.uword (0x1000200 + 4 * w) % 2 ^ 32))
  ∧ (∀ s val, val < 2 ^ 32 → bitsOf val 24 8 = 0x4D → s.posted s.tsel = false ∨ bitsOf val 0 16 ≠ s.rd fVF_MB_SEQ s.tsel →
    Ends (.mailboxDone val) s s [(fTEN_ERR_STALE, 0, satAdd fTEN_ERR_STALE.width (s.rd fTEN_ERR_STALE 0) 1)])
  ∧ (∀ s ti, isTi ti = true → s.posted ti = true →
    EndsIn (.mailboxTimeout ti) s fun t =>
      t.rd fVF_MB_MSTATE ti = 2 ∧ t.rd fVF_MB_RSPLEN ti = 0 ∧ t.rd fVF_MB_STATUS ti = 0xFE
      ∧ t.rd fTEN_ERR_MBTO 0 = satAdd fTEN_ERR_MBTO.width (s.rd fTEN_ERR_MBTO 0) 1)
  ∧ (∀ s ti, isTi ti = true → s.posted ti = false → exec (.mailboxTimeout ti) s = .next s)
  ∧ (∀ s val, val < 2 ^ 32 →
    EndsIn (.tenNoticeWrite val) s fun t =>
      t.rd fVF_MB_NOTICE s.tsel = (s.rd fVF_MB_NOTICE s.tsel ||| bitsOf val 0 8 * 256) % 2 ^ 16)

/-- The states of a tenant instance (R349, R354 to R358, R365): QUIESCE, RESUME and RESET act in the states that the table gives, and any other state is
refused with result 3 as a configuration error; a quiesce ends, or is forced; a reset clears the mailbox and ends in the state that the
instance's binding gives; a fault resets the instance by itself and is counted.  What has no key, and an event of another state, changes nothing. -/
def Obligations.TenantStates : Prop :=
  (∀ s val, val < 2 ^ 32 → tiCmd val 1 = true → s.tstate s.tsel = 2 → s.listed fRUN_RCTX1_STATE = [] →
    Ends (.quiesce val) s s [(fTEN_TIRES_RESULT, s.tsel, 1), (fTEN_TISTAT_STATE, s.tsel, 3)])
  ∧ (∀ s val, val < 2 ^ 32 → tiCmd val 1 = true → s.tstate s.tsel ≠ 2 →
    Ends (.quiesce val) s (s.cfgErr 16) [(fTEN_TIRES_RESULT, s.tsel, 3)])
  ∧ (∀ s val, val < 2 ^ 32 → tiCmd val 2 = true → s.tstate s.tsel = 4 → s.rdb fTEN_TISTAT_FORCED s.tsel = false →
    s.listed fRUN_RCTX1_STATE = [] →
    EndsIn (.resume val) s fun t => t.tstate s.tsel = 2 ∧ t.rd fTEN_TIRES_RESULT s.tsel = 2)
  ∧ (∀ s val, val < 2 ^ 32 → tiCmd val 2 = true → s.tstate s.tsel ≠ 4 ∨ s.rdb fTEN_TISTAT_FORCED s.tsel = true →
    Ends (.resume val) s (s.cfgErr 16) [(fTEN_TIRES_RESULT, s.tsel, 3)])
  ∧ (∀ s val, val < 2 ^ 32 → tiCmd val 3 = true → s.tstate s.tsel = 4 →
    EndsIn (.reset val) s fun t =>
      t.tstate s.tsel = 5 ∧ t.rd fVF_MB_MSTATE s.tsel = 0 ∧ t.rd fVF_MB_NOTICE s.tsel = 0 ∧ s.tsel ∈ t.ten.planned)
  ∧ (∀ s val, val < 2 ^ 32 → tiCmd val 3 = true → s.tstate s.tsel ≠ 4 →
    Ends (.reset val) s (s.cfgErr 16) [(fTEN_TIRES_RESULT, s.tsel, 3)])
  ∧ (∀ s val, val < 2 ^ 32 →
    (tiCmd val 1 = false → exec (.quiesce val) s = .next s) ∧ (tiCmd val 2 = false → exec (.resume val) s = .next s)
    ∧ (tiCmd val 3 = false → exec (.reset val) s = .next s)
    ∧ (tiCmd val 1 = true → s.tstate s.tsel = 2 → exec (.quiesce val) s = .next ((s.tset s.tsel 3).wr fTEN_TIRES_RESULT s.tsel 1).pauseAll)
    ∧ (tiCmd val 2 = true → s.tstate s.tsel = 4 → s.rdb fTEN_TISTAT_FORCED s.tsel = false →
      exec (.resume val) s = .next (((s.tset s.tsel 2).wr fTEN_TIRES_RESULT s.tsel 2).noticeSet s.tsel 2).pauseAll))
  ∧ (∀ s ti, isTi ti = true → s.tstate ti = 3 → s.quiet ti = false →
    exec (.quiesceComplete ti) s = .next ((s.logFlush ti 0).logFlush ti 1))
  ∧ (∀ s ti, isTi ti = true → s.tstate ti = 5 → s.ten.planned.contains ti = false →
    (s.tenIdle ti = true → exec (.instanceResetComplete ti) s = .next (s.tenResetDone ti))
    ∧ (s.tenIdle ti = false → exec (.instanceResetComplete ti) s = .next s))
  ∧ (∀ s ti, isTi ti = true → s.tstate ti = 5 → s.ten.planned.contains ti = true →
    exec (.instanceResetComplete ti) s = .next (s.tenResetDone ti) ∧ exec (.unplannedResetTimeout ti) s = .next s)
  ∧ (∀ s ti, isTi ti = true → exec (.instanceFault ti) s = .next (s.tenFault ti))
  ∧ (∀ s ring, isRing ring = true →
    (s.rstate ring ≠ 5 → exec (.ringStoppingTimeout ring) s = .next s)
    ∧ (s.rstate ring = 5 → exec (.ringStoppingTimeout ring) s = .next (s.tenFault (s.rd fRUN_RCTX0_OWNER ring))))
  ∧ (∀ s ti, isTi ti = true → s.tstate ti = 3 → s.quiet ti = true →
    EndsIn (.quiesceComplete ti) s fun t =>
      t.tstate ti = 4 ∧ t.rd fTEN_TIRES_RESULT ti = 2 ∧ t.rd fVF_MB_NOTICE ti = (s.rd fVF_MB_NOTICE ti ||| 1) % 2 ^ 16)
  ∧ (∀ s ti, isTi ti = true → s.tstate ti = 3 →
    EndsIn (.quiesceTimeout ti) s fun t =>
      t.tstate ti = 4 ∧ t.rd fTEN_TISTAT_FORCED ti = 1 ∧ t.rd fTEN_TIRES_RESULT ti = 4)
  ∧ (∀ s ti, isTi ti = true → s.tstate ti ≠ 3 →
    exec (.quiesceComplete ti) s = .next s ∧ exec (.quiesceTimeout ti) s = .next s)
  ∧ (∀ s ti, isTi ti = true → s.tstate ti = 5 → s.ten.planned.contains ti = true → s.ten.faulted.contains ti = false →
    EndsIn (.instanceResetComplete ti) s fun t =>
      t.tstate ti = (if s.vfLive ti then 2 else if (s.portOfTenant ti).isSome then 1 else 0)
      ∧ t.rd fVF_MB_NOTICE ti = (s.rd fVF_MB_NOTICE ti ||| 4) % 2 ^ 16 ∧ ti ∉ t.ten.planned)
  ∧ (∀ s ti, isTi ti = true → s.tstate ti = 5 → s.ten.planned.contains ti = false →
    EndsIn (.unplannedResetTimeout ti) s fun t =>
      t.tstate ti = (if s.vfLive ti then 2 else if (s.portOfTenant ti).isSome then 1 else 0) ∧ ti ∉ t.ten.faulted)
  ∧ (∀ s ti, isTi ti = true → s.tstate ti ≠ 5 →
    exec (.instanceResetComplete ti) s = .next s ∧ exec (.unplannedResetTimeout ti) s = .next s)
  ∧ (∀ s ti, isTi ti = true → 2 ≤ s.tstate ti → s.tstate ti ≤ 4 →
    EndsIn (.instanceFault ti) s fun t =>
      t.tstate ti = 5 ∧ t.rd fTEN_TISTAT_FAULT ti = 1 ∧ t.rd fTEN_TISTAT_UNPLANNED ti = 1 ∧ t.rd fVF_MB_MSTATE ti = 0 ∧ ti ∈ t.ten.faulted)
  ∧ (∀ s ring, isRing ring = true → s.rstate ring = 5 → 2 ≤ s.tstate (s.rd fRUN_RCTX0_OWNER ring) →
    s.tstate (s.rd fRUN_RCTX0_OWNER ring) ≤ 4 →
    EndsIn (.ringStoppingTimeout ring) s fun t =>
      t.tstate (s.rd fRUN_RCTX0_OWNER ring) = 5 ∧ t.rd fTEN_TISTAT_FAULT (s.rd fRUN_RCTX0_OWNER ring) = 1)

/-- Contexts and write logs (R360 to R363): a SAVE or LOAD starts where the checks pass, and gives its result; logging is enabled, stopped and flipped,
and a flip or stop ends once nothing of the old buffer is left; a word leaves the cache as a write-back, which ends with its proving
read, or fails with the first access that does or that the internal gate denies.  What has no key, and what nothing waits for, changes nothing. -/
def Obligations.ContextsAndLogs : Prop :=
  (∀ s val, val < 2 ^ 32 → ctxCmd val 1 = true → s.ten.moving = none → s.tstate s.tsel = 4 →
    Ends (.contextSave val) s { s with ten := { s.ten with moving := some (s.tsel, 1) } } [(fTEN_CTXSTAT_RESULT, 0, 1)])
  ∧ (∀ s val, val < 2 ^ 32 → ctxCmd val 1 = true → s.ten.moving = none → s.tstate s.tsel ≠ 4 →
    Ends (.contextSave val) s s [(fTEN_CTXSTAT_RESULT, 0, 3)])
  ∧ (∀ s val, val < 2 ^ 32 → ctxCmd val 2 = true → s.ten.moving = none → s.ctxBad s.tsel = 0 →
    Ends (.contextLoad val) s { s with ten := { s.ten with moving := some (s.tsel, 2) } } [(fTEN_CTXSTAT_RESULT, 0, 1)])
  ∧ (∀ s val x, val < 2 ^ 32 → ctxCmd val 2 = true → s.ten.moving = some x → exec (.contextLoad val) s = .next (s.cfgErr 16))
  ∧ (∀ s val, val < 2 ^ 32 →
    (ctxCmd val 1 = false → exec (.contextSave val) s = .next s) ∧ (ctxCmd val 2 = false → exec (.contextLoad val) s = .next s)
    ∧ (∀ x, ctxCmd val 1 = true → s.ten.moving = some x → exec (.contextSave val) s = .next (s.cfgErr 16))
    ∧ (∀ r, ctxCmd val 2 = true → s.ten.moving = none → s.ctxBad s.tsel = r → r ≠ 0 → r < 16 →
      Ends (.contextLoad val) s s [(fTEN_CTXSTAT_RESULT, 0, r)])
    ∧ (bitOf val 0 = false → exec (.logEnable val) s = .next s) ∧ (bitOf val 0 = true → exec (.logDisable val) s = .next s)
    ∧ (bitOf val 0 = false → s.rdb fTEN_LOGCTL_EN s.tsel = false → s.ten.stopping.contains s.tsel = true →
      exec (.logDisable val) s = .next (s.cfgErr 16))
    ∧ (bitOf val 0 = false → s.rdb fTEN_LOGCTL_EN s.tsel = false → s.ten.stopping.contains s.tsel = false →
      Ends (.logDisable val) s s [(fTEN_LOGCTL_LPORT, s.tsel, bitsOf val 1 6)])
    ∧ (bitsOf val 24 8 ≠ 0x6B ∨ bitOf val 0 = false → exec (.logFlip val) s = .next s))
  ∧ (∀ s, s.ten.moving = none → exec .contextTransferDone s = .next s)
  ∧ (∀ (s u : State) ti op, s.ten.moving = some (ti, op) → s.tstate ti = 4 → u = { s with ten := { s.ten with moving := none } } →
    exec .contextTransferDone s = .next ((if op = 1 then u.ctxSave ti else u.ctxLoad ti).wr fTEN_CTXSTAT_RESULT 0 2))
  ∧ (∀ s ti, isTi ti = true →
    s.rdb fTEN_LOGSTAT_BUSY ti = false ∨ s.logClean ti (1 - s.rd fTEN_LOGSTAT_BUF ti) = false
      ∨ (∃ id ∈ SMap.get [] s.ten.preFlip ti, ∃ a ∈ s.run.accs, a.id = id) → exec (.logFlipDone ti) s = .next s)
  ∧ (∀ s ti buf word, isTi ti = true → buf < 2 →
    ((s.ten.cache.find? fun w => w.ti == ti && w.buf == buf && w.word == word) = none → exec (.logCacheEvict ti buf word) s = .next s)
    ∧ (∀ w, (s.ten.cache.find? fun w => w.ti == ti && w.buf == buf && w.word == word) = some w →
      exec (.logCacheEvict ti buf word) s = .next (s.logEvict w)))
  ∧ (∀ s id data b, (s.ten.backs.find? fun b => b.id == id && b.phase != 0) = some b →
    (∀ ok, ok = false ∨ b.denied = true → exec (.logBufferCompletion id data ok) s = .next (s.backEnd b false))
    ∧ (b.phase = 2 → b.denied = false → exec (.logBufferCompletion id data true) s = .next (s.backSend b 3 0))
    ∧ (b.phase = 3 → b.denied = false → exec (.logBufferCompletion id data true) s = .next (s.backEnd b true)))
  ∧ (∀ s id data ok, (s.ten.backs.find? fun b => b.id == id && b.phase != 0) = none →
    exec (.logBufferCompletion id data ok) s = .next s)
  ∧ (∀ s ti, s.ten.moving = some (ti, 1) → s.tstate ti = 4 →
    EndsIn .contextTransferDone s fun t => t.rd fTEN_CTXSTAT_RESULT 0 = 2 ∧ t.ten.moving = none)
  ∧ (∀ s ti, s.ten.moving = some (ti, 2) → s.tstate ti = 4 →
    EndsIn .contextTransferDone s fun t =>
      t.rd fTEN_CTXSTAT_RESULT 0 = 2 ∧ t.ten.moving = none ∧ t.rd fVF_MB_SEQ ti = s.ctxWord 128 / 4 % 2 ^ 16)
  ∧ (∀ s ti op, s.ten.moving = some (ti, op) → s.tstate ti ≠ 4 →
    Ends .contextTransferDone s { s with ten := { s.ten with moving := none } } [(fTEN_CTXSTAT_RESULT, 0, 3)])
  ∧ (∀ s val, val < 2 ^ 32 → bitOf val 0 = true → s.logOn s.tsel = false →
    Ends (.logEnable val) s s
      [(fTEN_LOGSTAT_BUF, s.tsel, 0), (fTEN_LOGCTL_EN, s.tsel, 1), (fTEN_LOGCTL_LPORT, s.tsel, bitsOf val 1 6)])
  ∧ (∀ s val, val < 2 ^ 32 → bitOf val 0 = true → s.logOn s.tsel = true → exec (.logEnable val) s = .next (s.cfgErr 16))
  ∧ (∀ s val, val < 2 ^ 32 → bitOf val 0 = false → s.rdb fTEN_LOGCTL_EN s.tsel = true → s.ten.cache = [] →
    EndsIn (.logDisable val) s fun t =>
      t.rd fTEN_LOGCTL_EN s.tsel = 0 ∧ t.rd fTEN_LOGSTAT_BUSY s.tsel = 1 ∧ s.tsel ∈ t.ten.stopping)
  ∧ (∀ s val, val < 2 ^ 32 → bitsOf val 24 8 = 0x6B → bitOf val 0 = true → s.rdb fTEN_LOGSTAT_BUSY s.tsel = false → s.ten.cache = [] →
    EndsIn (.logFlip val) s fun t =>
      t.rd fTEN_LOGSTAT_BUF s.tsel = 1 - s.rd fTEN_LOGSTAT_BUF s.tsel ∧ t.rd fTEN_LOGSTAT_BUSY s.tsel = 1)
  ∧ (∀ s val, val < 2 ^ 32 → bitsOf val 24 8 = 0x6B → bitOf val 0 = true → s.rdb fTEN_LOGSTAT_BUSY s.tsel = true →
    exec (.logFlip val) s = .next (s.cfgErr 16))
  ∧ (∀ s ti, isTi ti = true → s.rdb fTEN_LOGSTAT_BUSY ti = true → s.run.accs = [] → s.ten.cache = [] → s.ten.backs = [] →
    EndsIn (.logFlipDone ti) s fun t => t.rd fTEN_LOGSTAT_BUSY ti = 0 ∧ ti ∉ t.ten.stopping)
  ∧ (∀ s ti buf word w, isTi ti = true → buf < 2 → s.ten.cache = [w] → w.ti = ti → w.buf = buf → w.word = word →
    (s.ten.backs.any fun b => b.w.same w) = true →
    EndsIn (.logCacheEvict ti buf word) s fun t =>
      t.ten.cache = [] ∧ t.ten.backs.length = s.ten.backs.length + 1 ∧ t.regs = s.regs)
  ∧ (∀ s id data b, s.ten.backs = [b] → b.id = id → b.phase = 3 → b.denied = false →
    EndsIn (.logBufferCompletion id data true) s fun t => t.ten.backs = [] ∧ t.regs = s.regs)
  ∧ (∀ s id data b, s.ten.backs = [b] → b.id = id → b.phase = 1 → b.denied = false →
    exec (.logBufferCompletion id data true) s = .next (s.backSend b 2 ((data % 2 ^ 64) ||| b.w.bits)))
  ∧ (∀ s id data ok, s.ten.backs = [] → exec (.logBufferCompletion id data ok) s = .next s)

/-- A change of profile (R27, R28, R32 to R34) and the Culverts (R25): APPLY starts it unless the profile is the active one or a combination is
refused; it closes, drains, recalls, initialises and switches in order, with the new profile's parameters loaded at the end; one that takes too
long in the early phases is rolled back; without APPLY the register is written alone, and an event of another phase, or one that comes before the core is
empty, does not end its phase; a spare takes a wire's place, and a bundle without one is retired. -/
def Obligations.ProfileChange : Prop :=
  (∀ s val, val < 2 ^ 32 → s.discards (fieldsAt fARCH_PROFILE_SEL.addr) 0 val = false → s.rdb fARCH_PROFILE_BUSY 0 = false →
    bitOf val 8 = true → fARCH_PROFILE_SEL.of val = s.rd fARCH_PROFILE_ACTIVE 0 →
    Ends (.profileApply val) s s [(fARCH_PROFILE_LASTRES, 0, 1), (fARCH_PROFILE_SEL, 0, fARCH_PROFILE_SEL.of val)])
  ∧ (∀ s val, val < 2 ^ 32 → s.discards (fieldsAt fARCH_PROFILE_SEL.addr) 0 val = false → s.rdb fARCH_PROFILE_BUSY 0 = false →
    bitOf val 8 = true → fARCH_PROFILE_SEL.of val ≠ s.rd fARCH_PROFILE_ACTIVE 0 →
    s.profileConflict (fARCH_PROFILE_SEL.of val) = none →
    EndsIn (.profileApply val) s fun t =>
      t.phaseNow = 1 ∧ t.rd fARCH_PROFILE_BUSY 0 = 1 ∧ t.rd fARCH_PROFILE_SEL 0 = fARCH_PROFILE_SEL.of val
      ∧ t.rd fARCH_PROFILE_ACTIVE 0 = s.rd fARCH_PROFILE_ACTIVE 0)
  ∧ (∀ s val c a b, val < 2 ^ 32 → s.discards (fieldsAt fARCH_PROFILE_SEL.addr) 0 val = false → s.rdb fARCH_PROFILE_BUSY 0 = false →
    bitOf val 8 = true → fARCH_PROFILE_SEL.of val ≠ s.rd fARCH_PROFILE_ACTIVE 0 →
    s.profileConflict (fARCH_PROFILE_SEL.of val) = some (c, a, b) → exec (.profileApply val) s = .next (s.conflict c a b))
  ∧ (∀ s val, val < 2 ^ 32 → s.discards (fieldsAt fARCH_PROFILE_SEL.addr) 0 val = true ∨ s.rdb fARCH_PROFILE_BUSY 0 = true →
    exec (.profileApply val) s = .next s)
  ∧ (∀ s val, val < 2 ^ 32 → s.discards (fieldsAt fARCH_PROFILE_SEL.addr) 0 val = false → s.rdb fARCH_PROFILE_BUSY 0 = false →
    bitOf val 8 = false → Ends (.profileApply val) s s [(fARCH_PROFILE_SEL, 0, fARCH_PROFILE_SEL.of val)])
  ∧ (∀ s, (s.phaseNow ≠ 1 → exec .profileClosed s = .next s)
    ∧ (s.phaseNow ≠ 2 ∨ s.swc.msgs ≠ [] ∨ s.wm.cells ≠ [] → exec .profileDrained s = .next s)
    ∧ (s.phaseNow ≠ 3 → exec .profileRecallDone s = .next s) ∧ (s.phaseNow ≠ 4 → exec .profileInitDone s = .next s)
    ∧ (s.phaseNow ≠ 5 → exec .profileSwitched s = .next s) ∧ (s.phaseNow ≠ 6 → exec .profileRollbackDone s = .next s)
    ∧ (s.phaseNow = 0 → exec .profileChangeTimeout s = .next s))
  ∧ (∀ (s t : State), s.phaseNow = 3 → t = s.recallWhere s.activeTable (fun _ => true) →
    exec .profileRecallDone s = .next (if t.wm.ways.isEmpty ∧ t.wm.txns.isEmpty then t.phase 4 else t))
  ∧ (∀ s, s.phaseNow = 1 → Ends .profileClosed s s [(fARCH_APPSTAT_PHASE, 0, 2)])
  ∧ (∀ s, s.phaseNow = 2 → s.swc.msgs = [] → s.wm.cells = [] → s.mapChanges = false → Ends .profileDrained s s [(fARCH_APPSTAT_PHASE, 0, 5)])
  ∧ (∀ s, s.phaseNow = 2 → s.swc.msgs = [] → s.wm.cells = [] → s.mapChanges = true →
    EndsIn .profileDrained s fun t => t.phaseNow = 3)
  ∧ (∀ s, s.phaseNow = 3 → s.wm.ways = [] → s.wm.txns = [] →
    EndsIn .profileRecallDone s fun t => t.phaseNow = 4 ∧ t.wm.ways = [] ∧ t.wm.txns = [])
  ∧ (∀ s, s.phaseNow = 4 → Ends .profileInitDone s s [(fARCH_APPSTAT_PHASE, 0, 5)])
  ∧ (∀ s, s.phaseNow = 5 → s.rd fARCH_PROFILE_SEL 0 < 8 →
    EndsIn .profileSwitched s fun t =>
      t.rd fARCH_PROFILE_ACTIVE 0 = s.rd fARCH_PROFILE_SEL 0 ∧ t.phaseNow = 0 ∧ t.rd fARCH_PROFILE_BUSY 0 = 0
      ∧ t.rd fARCH_PROFILE_LASTRES 0 = 1 ∧ t.rd fARCH_CORECLK_MHZ 0 = profMhz (s.rd fARCH_PROFILE_SEL 0)
      ∧ t.rd fARCH_BANKMAP_FILTER 0 = filterBanks (s.rd fARCH_PROFILE_SEL 0))
  ∧ (∀ s, 1 ≤ s.phaseNow → s.phaseNow ≤ 4 →
    Ends .profileChangeTimeout s { s with arch := { byReaction := false } } [(fARCH_APPSTAT_PHASE, 0, 6)])
  ∧ (∀ s, 5 ≤ s.phaseNow → exec .profileChangeTimeout s = .next s)
  ∧ (∀ s, s.phaseNow = 6 →
    EndsIn .profileRollbackDone s fun t =>
      t.phaseNow = 0 ∧ t.rd fARCH_PROFILE_BUSY 0 = 0 ∧ t.rd fARCH_PROFILE_LASTRES 0 = (if s.arch.byReaction then 3 else 2)
      ∧ t.rd fARCH_PROFILE_ACTIVE 0 = s.rd fARCH_PROFILE_ACTIVE 0 ∧ t.wm.ways = [])
  ∧ (∀ s, s.phaseNow = 0 →
    exec .profileClosed s = .next s ∧ exec .profileDrained s = .next s ∧ exec .profileRecallDone s = .next s
    ∧ exec .profileInitDone s = .next s ∧ exec .profileSwitched s = .next s ∧ exec .profileRollbackDone s = .next s)
  ∧ (∀ s tile, isTile tile = true →
    Ends (.culvertBeatCrcFail tile) s s
      [(fARCH_CULV_ERR_RETRY, tile, satAdd fARCH_CULV_ERR_RETRY.width (s.rd fARCH_CULV_ERR_RETRY tile) 1)])
  ∧ (∀ s tile bundle, isTile tile = true → bundle < 16 → s.spares tile bundle < 2 →
    Ends (.culvertWireSpare tile bundle) s s
      [(fARCH_CULV_SP_SPARE, tile, (s.rd fARCH_CULV_SP_SPARE tile + 4 ^ bundle) % 2 ^ 32)])
  ∧ (∀ s tile bundle, isTile tile = true → bundle < 16 → 2 ≤ s.spares tile bundle →
    exec (.culvertWireSpare tile bundle) s = .next s)
  ∧ (∀ s tile bundle, isTile tile = true → bundle < 16 → s.spares tile bundle ≠ 3 → s.rd fARCH_CULV_ERR_RETIRED tile = 3 →
    Ends (.culvertBundleRetire tile bundle) s ((s.pulse (0x16C + tile)).pulse (0x170 + tile))
      [(fARCH_CULV_ERR_RETIRED, tile, 4),
       (fARCH_CULV_SP_SPARE, tile,
        (s.rd fARCH_CULV_SP_SPARE tile - s.spares tile bundle * 4 ^ bundle + 3 * 4 ^ bundle) % 2 ^ 32)])
  ∧ (∀ s tile bundle, isTile tile = true → bundle < 16 → s.spares tile bundle ≠ 3 → s.rd fARCH_CULV_ERR_RETIRED tile ≠ 3 →
    Ends (.culvertBundleRetire tile bundle) s (s.pulse (0x16C + tile))
      [(fARCH_CULV_ERR_RETIRED, tile, (s.rd fARCH_CULV_ERR_RETIRED tile + 1) % 2 ^ fARCH_CULV_ERR_RETIRED.width),
       (fARCH_CULV_SP_SPARE, tile,
        (s.rd fARCH_CULV_SP_SPARE tile - s.spares tile bundle * 4 ^ bundle + 3 * 4 ^ bundle) % 2 ^ 32)])
  ∧ (∀ s tile bundle, isTile tile = true → bundle < 16 → s.spares tile bundle = 3 →
    exec (.culvertBundleRetire tile bundle) s = .next s)

/-- The boundaries of power domains, and the errors, probes, statistics and routers of the Acequia (R372, R373, R378, R380, R381, R385, R386, R388).  A drained boundary, and one that DRAINMAX has cut
short, goes OFFLINE, the second with DRAINTO set and its source raised; a domain that is not DRAINING is left as it is.  A wedge counts only
while WDOGEN = 1; an uncorrectable control field counts always, and both are recorded in ACQ_LASTERR.
An enabled probe takes only the write that stops it, and no write makes the windows of two enabled probes overlap; a keyed ACQ_RSCTL exchanges the banks of the statistics.  A flit goes along X, then along Y; an
output of a router grants a VC only where a flit is ready and the next buffer of eight has room, VC2 before VC3 before VC1 before VC0, but VC0 once it
has been ready seven times without a grant; what it grants leaves its buffer, and holds the VC until its tail has gone. -/
def Obligations.AcequiaBoundariesProbesAndErrors : Prop :=
  (∀ s n, isDomain n = true → s.rd fACQ_DOMSTAT_STATE n = 1 →
    Ends (.boundaryDrainDone n) s s [(fACQ_DOMSTAT_STATE, n, 2)]
    ∧ Ends (.boundaryDrainTimeout n) s (s.pulse 0x1E0) [(fACQ_DOMSTAT_DRAINTO, n, 1), (fACQ_DOMSTAT_STATE, n, 2)])
  ∧ (∀ s n, isDomain n = true → s.rd fACQ_DOMSTAT_STATE n ≠ 1 →
    exec (.boundaryDrainDone n) s = .next s ∧ exec (.boundaryDrainTimeout n) s = .next s)
  ∧ (∀ s node port vc, node < 64 → port < 5 → vc = 2 ∨ vc = 3 → s.rdb fACQ_CTL_WDOGEN 0 = true →
    Ends (.acqWedge node port vc) s (s.pulse 0x1E2)
      [(fACQ_LASTERR_VALID, 0, 1), (fACQ_LASTERR_KIND, 0, 3), (fACQ_LASTERR_VC, 0, vc), (fACQ_LASTERR_PORT, 0, port),
       (fACQ_LASTERR_NODE, 0, node), (fACQ_ERR_WEDGE, 0, 1)])
  ∧ (∀ s node port vc, node < 64 → port < 5 → vc = 2 ∨ vc = 3 → s.rdb fACQ_CTL_WDOGEN 0 = false →
    exec (.acqWedge node port vc) s = .next s)
  ∧ (∀ s node port vc, node < 64 → port < 5 → vc < 4 →
    Ends (.acqHeaderFault node port (.control vc)) s (s.pulse 0x1E1)
      [(fACQ_LASTERR_VALID, 0, 1), (fACQ_LASTERR_KIND, 0, 1), (fACQ_LASTERR_VC, 0, vc), (fACQ_LASTERR_PORT, 0, port),
       (fACQ_LASTERR_NODE, 0, node), (fACQ_ERR_HDRERR, 0, satAdd 8 (s.rd fACQ_ERR_HDRERR 0) 1)])
  ∧ (∀ s p word val, p < 8 → word < 6 → s.discards (wordFields 0x1100100 word 6) p val = false → s.rdb fACQ_PRB_EN p = false →
    (∀ (u : State) q, u = s.takeWord (wordFields 0x1100100 word 6) p val → u.rdb fACQ_PRB_EN p = true → q < 8 → q ≠ p → u.rdb fACQ_PRB_EN q = true →
      tracesMeet (u.rd fACQ_PRB_TBASE p) (u.rd fACQ_PRB_TLEN p) (u.rd fACQ_PRB_TBASE q) (u.rd fACQ_PRB_TLEN q) = false) →
    EndsIn (.acqProbeWrite p word val) s fun t =>
      Took (wordFields 0x1100100 word 6) p val t
      ∧ (word = 0 → bitOf val 0 = true → t.rd fACQ_PRB_WPTR p = s.rd fACQ_PRB_TBASE p % 2 ^ 11 ∧ t.rd fACQ_PRB_FULL p = 0))
  ∧ (∀ s p word val, p < 8 → word < 6 → s.discards (wordFields 0x1100100 word 6) p val = false → s.rdb fACQ_PRB_EN p = true →
    (word ≠ 0 ∨ bitOf val 0 = true → exec (.acqProbeWrite p word val) s = .next (s.cfgErr 17))
    ∧ (word = 0 → bitOf val 0 = false → EndsIn (.acqProbeWrite p word val) s fun t => Took (wordFields 0x1100100 0 6) p val t))
  ∧ (∀ (s u : State) p q word val, p < 8 → word < 6 → s.discards (wordFields 0x1100100 word 6) p val = false →
    u = s.takeWord (wordFields 0x1100100 word 6) p val → u.rdb fACQ_PRB_EN p = true → q < 8 → q ≠ p → u.rdb fACQ_PRB_EN q = true →
    tracesMeet (u.rd fACQ_PRB_TBASE p) (u.rd fACQ_PRB_TLEN p) (u.rd fACQ_PRB_TBASE q) (u.rd fACQ_PRB_TLEN q) = true →
    exec (.acqProbeWrite p word val) s = .next (s.cfgErr 17))
  ∧ (∀ s p word val, p < 8 → word < 6 → s.discards (wordFields 0x1100100 word 6) p val = true → exec (.acqProbeWrite p word val) s = .next s)
  ∧ (∀ s node port e, node < 64 → port < 5 → e.vc < 4 → exec (.acqHeaderFault node port e) s = .next (s.flitError node port e.vc e.kind))
  ∧ (∀ s val, bitOf val 0 = true → bitsOf val 24 8 = 0x8E →
    EndsIn (.runnelStatsSnap val) s fun t =>
      t.rdb fACQ_RSCTL_BANK 0 = !s.rdb fACQ_RSCTL_BANK 0 ∧ t.rd fACQ_RSCTL_AUTO 0 = b2n (bitOf val 1)
      ∧ (if s.rdb fACQ_RSCTL_BANK 0 then t.acq.bank0 = [] ∧ t.acq.bank1 = s.acq.bank1
         else t.acq.bank1 = [] ∧ t.acq.bank0 = s.acq.bank0)
      ∧ t.rd fACQ_RSTIME_NS_NS 0 = s.ftNs % 2 ^ fACQ_RSTIME_NS_NS.width)
  ∧ (∀ s val, bitOf val 0 = false ∨ bitsOf val 24 8 ≠ 0x8E →
    Ends (.runnelStatsSnap val) s s [(fACQ_RSCTL_AUTO, 0, b2n (bitOf val 1))])
  ∧ (∀ a b, a < 64 → b < 64 →
    (outOf a b = 0 ↔ a = b) ∧ (a % 8 ≠ b % 8 → outOf a b = if a % 8 < b % 8 then 2 else 4)
    ∧ (a % 8 = b % 8 → a ≠ b → outOf a b = if a < b then 1 else 3)
    ∧ (∀ c, a ≠ b → c = beyond a (outOf a b) →
      ((a % 8 : Int) - b % 8).natAbs + ((a / 8 : Int) - b / 8).natAbs = ((c % 8 : Int) - b % 8).natAbs + ((c / 8 : Int) - b / 8).natAbs + 1))
  ∧ (∀ (r : Router) a sinks o v, r.grant a sinks o = some v → v < 4 ∧ r.ready a sinks o v = true)
  ∧ (∀ (r : Router) a sinks o, r.grant a sinks o = none ↔ ∀ v, v < 4 → r.ready a sinks o v = false)
  ∧ (∀ (r : Router) a sinks o, SMap.get 0 r.missed o < 7 →
    (r.ready a sinks o 2 = true → r.grant a sinks o = some 2)
    ∧ (r.ready a sinks o 2 = false → r.ready a sinks o 3 = true → r.grant a sinks o = some 3)
    ∧ (r.ready a sinks o 2 = false → r.ready a sinks o 3 = false → r.ready a sinks o 1 = true → r.grant a sinks o = some 1))
  ∧ (∀ (r : Router) a sinks o, r.ready a sinks o 0 = true →
    (7 ≤ SMap.get 0 r.missed o → r.grant a sinks o = some 0 ∧ SMap.get 0 (r.serve a sinks o).1.missed o = 0)
    ∧ (r.grant a sinks o ≠ some 0 → SMap.get 0 (r.serve a sinks o).1.missed o = SMap.get 0 r.missed o + 1))
  ∧ (∀ (r : Router) a sinks o v i f, r.grant a sinks o = some v → r.next a o v = some (i, f) →
    (r.serve a sinks o).2 = some (i, f) ∧ (o ≠ 0 → SMap.get 0 r.used (pvc o v) < 8)
    ∧ (r.serve a sinks o).1.flits i v = (r.flits i v).drop 1
    ∧ (r.serve a sinks o).1.holder o v = if f.tail then none else some i)

/-- Raising and settling (R390, R395, R397, R403): while the Spillway is not armed a raise is recorded and nothing reacts; a source that is
LATCHED is only read as raised.  A quiet source settles, or is LATCHED where it may not recover; a settled source below the flap limit
recovers, and at the limit it is LATCHED.  A raise or a quiet that the collector cannot read, or that the source's rails do not show, is nothing. -/
def Obligations.SourcesRaiseAndSettle : Prop :=
  (∀ s src, isSource src = true → s.driven src = .lasting → s.bit fSPW_RAW_RAW src = false → s.readable src = true →
    s.srcState src = 0 → s.armed = false →
    EndsIn (.sourceRaise src) s fun t =>
      t.bit fSPW_RAW_RAW src = true ∧ t.bit fSPW_STK_STK src = true ∧ t.rd fSPW_LAST_SOURCE 0 = src ∧ t.rd fSPW_LAST_VALID 0 = 1
      ∧ t.srcState src = 0)
  ∧ (∀ s src, isSource src = true → s.driven src ≠ .quiet → s.bit fSPW_RAW_RAW src = false → s.readable src = true →
    s.srcState src = 3 → exec (.sourceRaise src) s = .next (s.setBit fSPW_RAW_RAW src true))
  ∧ (∀ s src, isSource src = true → s.readable src = true →
    (s.driven src ≠ .quiet → s.bit fSPW_RAW_RAW src = false → exec (.sourceRaise src) s = .next (s.raised src))
    ∧ (s.driven src ≠ .lasting → s.bit fSPW_RAW_RAW src = true → exec (.sourceQuiet src) s = .next (s.quieted src)))
  ∧ (∀ s src, isSource src = true → s.driven src = .lasting ∨ s.bit fSPW_RAW_RAW src = false ∨ s.readable src = false →
    exec (.sourceQuiet src) s = .next s)
  ∧ (∀ s src, isSource src = true → s.driven src = .quiet ∨ s.bit fSPW_RAW_RAW src = true ∨ s.readable src = false →
    exec (.sourceRaise src) s = .next s)
  ∧ (∀ s src, isSource src = true → s.driven src ≠ .lasting → s.bit fSPW_RAW_RAW src = true → s.readable src = true →
    s.srcState src = 1 → s.rdb fSPW_CTL_ZL25 0 = false → s.rdb fSPW_RCT_NOREC src = false →
    EndsIn (.sourceQuiet src) s fun t => t.bit fSPW_RAW_RAW src = false ∧ t.srcState src = 2)
  ∧ (∀ s src, isSource src = true → s.driven src ≠ .lasting → s.bit fSPW_RAW_RAW src = true → s.readable src = true →
    s.srcState src = 1 → s.rdb fSPW_CTL_ZL25 0 = true ∨ s.rdb fSPW_RCT_NOREC src = true →
    EndsIn (.sourceQuiet src) s fun t => t.bit fSPW_RAW_RAW src = false ∧ t.srcState src = 3)
  ∧ (∀ s src, isSource src = true → s.srcState src = 2 → s.rd fSPW_RCT_FLAP src < s.rd fSPW_CTL_RLIM 0 →
    EndsIn (.quietPeriodEnd src) s fun t => t.srcState src = 0 ∧ t.heldCode src = 0)
  ∧ (∀ s src, isSource src = true → s.srcState src = 2 → s.rd fSPW_CTL_RLIM 0 ≤ s.rd fSPW_RCT_FLAP src →
    Ends (.quietPeriodEnd src) s { s with spw := { s.spw with flapLatched := s.spw.flapLatched ++ [src] } }
      [(fSPW_RCT_STATE, src, 3)])
  ∧ (∀ s src, isSource src = true → s.srcState src ≠ 2 → exec (.quietPeriodEnd src) s = .next s)
  ∧ (∀ s, EndsIn .flapWindowClear s fun t =>
      (∀ i, t.rd fSPW_RCT_FLAP i = fSPW_RCT_FLAP.resetAt i)
      ∧ (∀ f i, f.key ≠ fSPW_RCT_FLAP.key → t.rd f i = s.rd f i) ∧ { t with regs := s.regs } = s)

/-- Sticky bits, masks and the reaction table (R394, R396, R398, R403, R406): a sticky bit of an ACTIVE source does not clear; that of a QUIET
source clears where the source is not raised.  A mask for a reserved source, a reaction its unit does not admit, and an injection into a
source without rails are configuration errors.  SPW_INJ needs its key. -/
def Obligations.SpillwayRegisters : Prop :=
  (∀ s word val, word < 32 → val < 2 ^ 32 →
    exec (.stickyClear word val) s = .next (s.each ((setBits 32 val).map fun i => 32 * word + i) State.stickyW1c))
  ∧ (∀ s word i, word < 32 → i < 32 → setBits 32 (2 ^ i) = [i] → s.srcState (32 * word + i) = 0 →
    s.bit fSPW_STK_STK (32 * word + i) = true → s.bit fSPW_RAW_RAW (32 * word + i) = false →
    s.spw.wireLatched.contains (32 * word + i) = false →
    EndsIn (.stickyClear word (2 ^ i)) s fun t => t.bit fSPW_STK_STK (32 * word + i) = false)
  ∧ (∀ s word i, word < 32 → i < 32 → setBits 32 (2 ^ i) = [i] → s.srcState (32 * word + i) = 1 →
    exec (.stickyClear word (2 ^ i)) s = .next s)
  ∧ (∀ s word val, word < 32 → val < 2 ^ 32 → ((setBits 32 val).any fun i => (srcUnit (32 * word + i)).isNone) = true →
    exec (.spwMaskWrite word val) s = .next (s.cfgErr 18))
  ∧ (∀ s word val, word < 32 → val < 2 ^ 32 → ((setBits 32 val).any fun i => (srcUnit (32 * word + i)).isNone) = false →
    EndsIn (.spwMaskWrite word val) s fun t => t.rd fSPW_MASK_MASK word = val)
  ∧ (∀ s src val u, src < 1024 → val < 2 ^ 32 → srcUnit src = some u → u.admits (bitsOf val 0 4) = true →
    Ends (.spwRctWrite src val) s s [(fSPW_RCT_NOREC, src, bitsOf val 4 1), (fSPW_RCT_REACT, src, bitsOf val 0 4)])
  ∧ (∀ s src val, src < 1024 → val < 2 ^ 32 →
    srcUnit src = none ∨ (∃ u, srcUnit src = some u ∧ u.admits (bitsOf val 0 4) = false) → exec (.spwRctWrite src val) s = .next (s.cfgErr 18))
  ∧ (∀ s val, val < 2 ^ 32 → bitsOf val 24 8 = 0x3B → railed (bitsOf val 0 10) = true →
    s.bit fSPW_RAW_RAW (bitsOf val 0 10) = true →
    Ends (.spwInject val) s (s.pulse (bitsOf val 0 10)) [(fSPW_RCT_INJ, bitsOf val 0 10, 1)])
  ∧ (∀ (s t : State) val, val < 2 ^ 32 → bitsOf val 24 8 = 0x3B → railed (bitsOf val 0 10) = true →
    t = (s.pulse (bitsOf val 0 10)).wrb fSPW_RCT_INJ (bitsOf val 0 10) true →
    exec (.spwInject val) s = .next (if t.bit fSPW_RAW_RAW (bitsOf val 0 10) then t else t.raised (bitsOf val 0 10)))
  ∧ (∀ s val, val < 2 ^ 32 → bitsOf val 24 8 = 0x3B → railed (bitsOf val 0 10) = false →
    exec (.spwInject val) s = .next (s.cfgErr 18))
  ∧ (∀ s val, val < 2 ^ 32 → bitsOf val 24 8 ≠ 0x3B → exec (.spwInject val) s = .next s)
  ∧ (∀ s srcs, srcs.all isSource = true →
    EndsIn (.collectorMismatch srcs []) s fun t =>
      t.rd fSPW_STATUS_MISMATCH 0 = 1 ∧ (∀ n ∈ srcs, t.bit fSPW_STK_STK n = true)
      ∧ t.spw = (s.pulse 0x3E0).spw)
  ∧ (∀ (s : State) srcs codes, srcs.all isSource = true → (codes.all fun e => isSource e.1 && ((srcUnit e.1).any fun u => u.admits e.2)) = true →
    exec (.collectorMismatch srcs codes) s = .next
      ((((s.each srcs fun s n => s.setBit fSPW_STK_STK n true).each codes fun s e =>
        if s.heldCode e.1 < e.2 + 1 then s.react e.1 e.2 else s).wrb fSPW_STATUS_MISMATCH 0 true).pulse 0x3E0))

/-- Wire faults, tests and the collector's rate (R390, R391, R392): equal rails put a source under test, and the periodic test every source with rails that
is not raised; a test that finds both rails good changes nothing, one that finds a single rail records it, and one that finds none reads the
source as raised and latches it. -/
def Obligations.WireTests : Prop :=
  (∀ s src, src < 1024 → railed src = true → s.readable src = false → exec (.wireFault src) s = .next s)
  ∧ (∀ s p g, (∀ src, isSource src = true →
      (s.spw.test.contains src = true → exec (.wireTestEnd (some src) p g) s = .next (s.testEnd p g src))
      ∧ (s.spw.test.contains src = false → exec (.wireTestEnd (some src) p g) s = .next s))
    ∧ exec (.wireTestEnd none p g) s = .next (s.each s.spw.test (State.testEnd · p g)))
  ∧ (∀ s src p g, isSource src = true → s.spw.test.contains src = true → s.rdb fSPW_RCT_SINGLE src = true →
    (if s.rdb fSPW_RCT_RAIL src then g else p) = true →
    exec (.wireTestEnd (some src) p g) s = .next { s with spw := { s.spw with test := s.spw.test.filter (· != src) } })
  ∧ (∀ s src p g, isSource src = true → s.spw.test.contains src = true → s.rdb fSPW_RCT_SINGLE src = true → s.armed = false →
    (if s.rdb fSPW_RCT_RAIL src then g else p) = false →
    EndsIn (.wireTestEnd (some src) p g) s fun t => t.bit fSPW_RAW_RAW src = true ∧ t.srcState src = 3 ∧ src ∈ t.spw.wireLatched)
  ∧ (∀ s src, isSource src = true → s.spw.test.contains src = true → s.rdb fSPW_RCT_SINGLE src = false →
    EndsIn (.wireTestEnd (some src) false true) s fun t =>
      t.rd fSPW_RCT_SINGLE src = 1 ∧ t.rd fSPW_RCT_RAIL src = 1 ∧ t.bit fSPW_WFLT_WFLT src = true)
  ∧ (∀ s, exec (.collectorRateChange s.pwr.ref25) s = .next s)
  ∧ (∀ s driver, driver < 5 → s.spw.slowDrv.contains driver = true → exec (.ratePairFault driver) s = .next (s.pulse 0x3E0))
  ∧ (∀ s src, src < 1024 → railed src = true → s.readable src = true →
    exec (.wireFault src) s = .next { s with spw := { s.spw with test := s.spw.test ++ [src] } })
  ∧ (∀ s, s.rdb fSPW_CTL_WTESTEN 0 = true →
    exec .wireTest s = .next { s with spw := { s.spw with
      test := s.spw.test ++ (List.range 0x3E0).filter fun n => railed n && s.readable n && !s.bit fSPW_RAW_RAW n } })
  ∧ (∀ s, s.rdb fSPW_CTL_WTESTEN 0 = false → exec .wireTest s = .next s)
  ∧ (∀ s src, isSource src = true → s.spw.test.contains src = true → s.rdb fSPW_RCT_SINGLE src = false →
    exec (.wireTestEnd (some src) true true) s = .next { s with spw := { s.spw with test := s.spw.test.filter (· != src) } })
  ∧ (∀ s src, isSource src = true → s.spw.test.contains src = true → s.rdb fSPW_RCT_SINGLE src = false →
    EndsIn (.wireTestEnd (some src) true false) s fun t =>
      t.rd fSPW_RCT_SINGLE src = 1 ∧ t.rd fSPW_RCT_RAIL src = 0 ∧ t.bit fSPW_WFLT_WFLT src = true)
  ∧ (∀ s src, isSource src = true → s.spw.test.contains src = true → s.rdb fSPW_RCT_SINGLE src = false → s.armed = false →
    EndsIn (.wireTestEnd (some src) false false) s fun t =>
      t.bit fSPW_RAW_RAW src = true ∧ t.srcState src = 3 ∧ t.bit fSPW_WFLT_WFLT src = true ∧ src ∈ t.spw.wireLatched)
  ∧ (∀ s slow, slow ≠ s.pwr.ref25 → exec (.collectorRateChange slow) s = .next { s with spw := { s.spw with slow := slow } })
  ∧ (∀ s driver, driver < 5 → s.spw.slowDrv.contains driver = false →
    exec (.ratePairFault driver) s =
      .next (({ s with spw := { s.spw with slowDrv := s.spw.slowDrv ++ [driver] } } : State).pulse 0x3E0))

/-- Arming (R52, R55, R75, R397, R477): once Init's work is done the Spillway arms and the device enters Standby; in recovery or in manufacturing
test it stays in Init, and only some dictionary objects answer; otherwise the command does nothing. -/
def Obligations.SpillwayArms : Prop :=
  (∀ s, s.mayArm = true → s.stickies = [] → s.pwr.aborted = false → s.rd fPWR_RSTCAUSE_LAST 0 ≠ 0 →
    EndsIn .spillwayArm s fun t => t.armed = true ∧ t.dev = 1)
  ∧ (∀ s, s.mayArm = false → s.pwr.sram = true → s.pwr.coldHold = false → s.pwr.warm = false → s.armed = false →
    s.pwr.manufTest = true ∨ s.boot.recovery = true →
    exec .spillwayArm s = .next { s with tnd := { s.tnd with limited := true } })
  ∧ (∀ s, s.armed = true → exec .spillwayArm s = .next s)
  ∧ (∀ s, s.mayArm = false → s.pwr.sram = false ∨ s.pwr.coldHold = true ∨ s.pwr.warm = true ∨ (s.pwr.manufTest = false ∧ s.boot.recovery = false) →
    exec .spillwayArm s = .next s)
  ∧ (∀ (s u v : State), s.mayArm = true →
    u = (((s.when_ s.pwr.aborted fun s => (s.ttEnd 10 0).pwrMod fun p => { p with aborted := false }).wrb fSPW_CTL_ARMED 0 true).spwMod
      fun w => { w with kept := [] }).setDev 1 →
    v = ((u.when_ (s.rdb fPKG_STRAPFLT_ANY 0) fun s => s.cfgErr 2).slotsArm).when_ (s.rd fPWR_RSTCAUSE_LAST 0 == 0) State.coldRaises →
    exec .spillwayArm s = .next (v.each v.stickies State.armSource).tablesNow)

/-- Slot feeds and requests (R76, R415 to R420, R426, R427): settings are refused but in DISABLED, OFF and TRIPPED; a feed that turns bad or good shows,
with its source; a slot changes feeds break before make; an accepted power-on ramps, or waits for a place; a power-off goes by STOPPING from
ON; CLRFLT and CLRISO lead back to OFF. -/
def Obligations.SlotFeedsAndRequests : Prop :=
  (∀ s j val, isSlot j = true → val < 2 ^ 32 → s.discards (fieldsAt fSLU_CFG_EN.addr) j val = false → s.slotState j = 0 → bitOf val 0 = true →
    bitOf s.pwr.culvert (j / 8) = false → s.rdb fSPW_CTL_ARMED 0 = true →
    EndsIn (.sluCfgWrite j val) s fun t => Took (fieldsAt fSLU_CFG_EN.addr) j val t ∧ t.slotState j = 1)
  ∧ (∀ s j val, isSlot j = true → val < 2 ^ 32 → s.discards (fieldsAt fSLU_CFG_EN.addr) j val = false →
    bitOf s.pwr.culvert (j / 8) = false → s.slotState j = 1 ∨ s.slotState j = 6 → bitOf val 0 = false →
    EndsIn (.sluCfgWrite j val) s fun t =>
      Took (fieldsAt fSLU_CFG_EN.addr) j val t ∧ t.slotState j = 0 ∧ t.rd fSLU_STAT_FEED j = 0 ∧ t.rd fSLU_STAT_WAITRAMP j = 0)
  ∧ (∀ s j val, isSlot j = true → val < 2 ^ 32 → s.discards (fieldsAt fSLU_CFG_EN.addr) j val = false →
    bitOf s.pwr.culvert (j / 8) = false → s.slotState j ≠ 0 → s.slotState j ≠ 1 → s.slotState j ≠ 6 → exec (.sluCfgWrite j val) s = .next (s.cfgErr 19))
  ∧ (∀ s j val, isSlot j = true → val < 2 ^ 32 → bitOf s.pwr.culvert (j / 8) = false → s.discards (fieldsAt fSLU_CFG_EN.addr) j val = false →
    s.slotState j = 0 ∨ s.slotState j = 1 ∨ s.slotState j = 6 →
    exec (.sluCfgWrite j val) s = .next ((s.setRW (fieldsAt fSLU_CFG_EN.addr) j val).slotCfg j))
  ∧ (∀ s j val, isSlot j = true → val < 2 ^ 32 → bitOf s.pwr.culvert (j / 8) = false → s.discards (fieldsAt fSLU_CFG_EN.addr) j val = true →
    exec (.sluCfgWrite j val) s = .next s)
  ∧ (∀ s j val low, isSlot j = true → val < 2 ^ 32 → bitOf s.pwr.culvert (j / 8) = true →
    ∀ c ∈ [Instr.sluCfgWrite j val, .sluOn j val, .sluOff j val, .sluClrflt j val, .sluClriso j val low], exec c s = .next s)
  ∧ (∀ s n feedB c, n < 4 → c < 4096 → exec (.feedBad n feedB c) s = .next (s.feedTurn n feedB (s.busAt n c) false)
    ∧ exec (.feedGood n feedB c) s = .next (s.feedTurn n feedB (s.busAt n c) true))
  ∧ (∀ s n feedB c, n < 4 → c < 4096 → s.feedIn n (s.busAt n c) = false →
    EndsIn (.feedBad n feedB c) s fun t =>
      t.rd (if feedB then fSLU_FEED_BGOOD else fSLU_FEED_AGOOD) n = 0 ∧ t.rd (if feedB then fSLU_FEED_VB else fSLU_FEED_VA) n = s.busAt n c % 2 ^ 16
      ∧ t.spw = (s.level ((if feedB then 0x244 else 0x240) + n) true).spw)
  ∧ (∀ s n feedB c, n < 4 → c < 4096 → s.feedIn n (s.busAt n c) = true → s.slots = [] →
    EndsIn (.feedGood n feedB c) s fun t =>
      t.rd (if feedB then fSLU_FEED_BGOOD else fSLU_FEED_AGOOD) n = 1 ∧ t.rd (if feedB then fSLU_FEED_VB else fSLU_FEED_VA) n = s.busAt n c % 2 ^ 16
      ∧ t.spw = (s.level ((if feedB then 0x244 else 0x240) + n) false).spw)
  ∧ (∀ s n feedB c, n < 4 → c < 4096 →
    (s.feedIn n (s.busAt n c) = true → Ends (.feedBad n feedB c) s s [(if feedB then fSLU_FEED_VB else fSLU_FEED_VA, n, s.busAt n c % 2 ^ 16)])
    ∧ (s.feedIn n (s.busAt n c) = false → Ends (.feedGood n feedB c) s s [(if feedB then fSLU_FEED_VB else fSLU_FEED_VA, n, s.busAt n c % 2 ^ 16)]))
  ∧ (∀ s j f, isSlot j = true → (s.slot j).make = some f → f = 1 ∨ f = 2 → s.feedOk j f = true →
    EndsIn (.feedMake j) s fun t => t.rd fSLU_STAT_FEED j = f ∧ (t.slot j).make = none)
  ∧ (∀ s j, isSlot j = true → s.rd fSLU_STAT_FEED j = 3 - (1 + s.rd fSLU_CFG_PRIO j) → s.feedOk j (1 + s.rd fSLU_CFG_PRIO j) = true →
    Ends (.feedReturn j) s (s.slotMod j fun x => { x with make := some (1 + s.rd fSLU_CFG_PRIO j) })
      [(fSLU_ERR_SWITCHES, j, satAdd fSLU_ERR_SWITCHES.width (s.rd fSLU_ERR_SWITCHES j) 1), (fSLU_STAT_FEED, j, 0)])
  ∧ (∀ s j f, isSlot j = true → (s.slot j).make = some f →
    exec (.feedMake j) s = .next (((s.wr fSLU_STAT_FEED j f).slotMod j fun x => { x with make := none }).chooseFeed j))
  ∧ (∀ s j, isSlot j = true → (s.slot j).make = none → exec (.feedMake j) s = .next s)
  ∧ (∀ s j, isSlot j = true → s.rd fSLU_STAT_FEED j ≠ 3 - (1 + s.rd fSLU_CFG_PRIO j) → exec (.feedReturn j) s = .next s)
  ∧ (∀ s j, isSlot j = true → (s.slot j).make = none → s.feedOk j (1 + s.rd fSLU_CFG_PRIO j) = false →
    exec (.feedMake j) s = .next s ∧ exec (.feedReturn j) s = .next s)
  ∧ (∀ s j, isSlot j = true → s.rdb fSLU_STAT_PRES j = false → s.slotPort j = none →
    Ends (.slotPresent j false) s (s.slotMod j fun x => { x with autoOff := false }) [(fSLU_STAT_PRES, j, 1)])
  ∧ (∀ s j held, isSlot j = true → s.rdb fSLU_STAT_PRES j = true → held = false ∨ (s.slot j).held = true →
    exec (.slotPresent j held) s = .next s)
  ∧ (∀ s j, isSlot j = true → s.rdb fSLU_STAT_PRES j = true → (s.slot j).held = false →
    exec (.slotPresent j true) s = .next ((s.slotMod j fun x => { x with held := true }).autoOn j))
  ∧ (∀ s j, isSlot j = true → s.rdb fSLU_STAT_PRES j = false →
    exec (.slotPresent j false) s = .next (((s.wrb fSLU_STAT_PRES j true).slotMod j fun x => { x with autoOff := false }).atPort j
      fun s p => s.presenceTurn p)
    ∧ EndsIn (.slotPresent j true) s fun t => t.rd fSLU_STAT_PRES j = 1)
  ∧ (∀ s j, isSlot j = true → s.rdb fSLU_STAT_PRES j = true → (s.slot j).held = false → s.rdb fSLU_CFG_AUTO j = true →
    (s.slot j).waved = true → (s.slot j).autoOff = false → s.slotState j = 1 → s.fed j = true → s.slotPctl j = false →
    s.ramping j < s.rd fSLU_CTL_MAXRAMP 0 →
    EndsIn (.slotPresent j true) s fun t => t.slotState j = 2 ∧ (t.slot j).held = true)
  ∧ (∀ s j, isSlot j = true → s.rdb fSLU_STAT_PRES j = true → s.slotState j = 2 ∨ s.slotState j = 3 ∨ s.slotState j = 4 →
    EndsIn (.slotAbsent j) s fun t => t.slotState j = 1 ∧ t.rd fSLU_STAT_PRES j = 0 ∧ t.rd fSLU_STAT_PG j = 0)
  ∧ (∀ s j, isSlot j = true → s.rdb fSLU_STAT_PRES j = true → s.slotState j ≠ 2 → s.slotState j ≠ 3 → s.slotState j ≠ 4 →
    EndsIn (.slotAbsent j) s fun t =>
      t.slotState j = s.slotState j ∧ t.rd fSLU_STAT_PRES j = 0 ∧ t.rd fSLU_STAT_WAITRAMP j = 0 ∧ (t.slot j).held = false)
  ∧ (∀ s j, isSlot j = true → s.rdb fSLU_STAT_PRES j = false → exec (.slotAbsent j) s = .next s)
  ∧ (∀ s j val, isSlot j = true → val < 2 ^ 32 → bitOf s.pwr.culvert (j / 8) = false → sluCmd val 1 = true → s.slotPctl j = false → s.slotState j = 1 →
    s.rdb fSLU_STAT_PRES j = true → (s.slot j).held = true → s.fed j = true →
    (s.ramping j < s.rd fSLU_CTL_MAXRAMP 0 →
      EndsIn (.sluOn j val) s fun t =>
        t.slotState j = 2 ∧ t.rd fSLU_STAT_WAITRAMP j = 0
        ∧ t.rd fSLU_STAT_SEG j = min 15 (16 * s.rd fSLU_MEAS_VOUT j / max 1 (s.rd fSLU_VNOM_VNOM j)))
    ∧ (s.rd fSLU_CTL_MAXRAMP 0 ≤ s.ramping j → Ends (.sluOn j val) s s [(fSLU_STAT_WAITRAMP, j, 1)]))
  ∧ (∀ s j val, isSlot j = true → val < 2 ^ 32 → bitOf s.pwr.culvert (j / 8) = false → s.slotPctl j = false →
    (sluCmd val 1 = true → exec (.sluOn j val) s = .next (s.powerOn j false))
    ∧ (sluCmd val 2 = true → exec (.sluOff j val) s = .next (s.powerOff j)))
  ∧ (∀ s j val, isSlot j = true → val < 2 ^ 32 → bitOf s.pwr.culvert (j / 8) = false →
    (sluCmd val 1 = false → exec (.sluOn j val) s = .next s) ∧ (sluCmd val 2 = false → exec (.sluOff j val) s = .next s)
    ∧ (sluCmd val 3 = false → exec (.sluClrflt j val) s = .next s)
    ∧ (sluCmd val 4 = false → ∀ low, exec (.sluClriso j val low) s = .next s))
  ∧ (∀ s j val, isSlot j = true → val < 2 ^ 32 → bitOf s.pwr.culvert (j / 8) = false → s.slotPctl j = true →
    (sluCmd val 1 = true → exec (.sluOn j val) s = .next (s.cfgErr 19))
    ∧ (sluCmd val 2 = true → exec (.sluOff j val) s = .next (s.cfgErr 19)))
  ∧ (∀ s j val, isSlot j = true → val < 2 ^ 32 → bitOf s.pwr.culvert (j / 8) = false → sluCmd val 2 = true → s.slotPctl j = false →
    (s.slotState j = 4 → EndsIn (.sluOff j val) s fun t => t.slotState j = 5 ∧ t.rd fSLU_STAT_PG j = 0)
    ∧ (s.slotState j = 2 ∨ s.slotState j = 3 → EndsIn (.sluOff j val) s fun t => t.slotState j = 1 ∧ t.rd fSLU_STAT_PG j = 0))
  ∧ (∀ s j val, isSlot j = true → val < 2 ^ 32 → bitOf s.pwr.culvert (j / 8) = false → sluCmd val 3 = true →
    (s.slotState j = 6 → Ends (.sluClrflt j val) s s [(fSLU_STAT_STATE, j, 1)])
    ∧ (s.slotState j ≠ 6 → exec (.sluClrflt j val) s = .next s))
  ∧ (∀ s j val, isSlot j = true → val < 2 ^ 32 → bitOf s.pwr.culvert (j / 8) = false → sluCmd val 4 = true →
    (s.slotState j = 7 → EndsIn (.sluClriso j val true) s fun t => t.slotState j = 1 ∧ t.spw = (s.level (0x220 + j) false).spw)
    ∧ (s.slotState j = 7 → exec (.sluClriso j val false) s = .next (s.cfgErr 19))
    ∧ (s.slotState j ≠ 7 → ∀ low, exec (.sluClriso j val low) s = .next s))
  ∧ (∀ s v, v < 8 → (∀ j, s.rdb fSLU_CFG_AUTO j = false) →
    EndsIn (.slotWave v) s fun t => t.regs = s.regs ∧ ∀ j, j < 32 → j % 8 = v → (t.slot j).waved = true)
  ∧ (∀ s j, isSlot j = true → s.rdb fSLU_STAT_WAITRAMP j = true → s.ramping j < s.rd fSLU_CTL_MAXRAMP 0 → s.slotState j = 1 →
    s.rdb fSLU_STAT_PRES j = true → (s.slot j).held = true → s.fed j = true →
    EndsIn (.rampPlaceFree j) s fun t => t.slotState j = 2 ∧ t.rd fSLU_STAT_WAITRAMP j = 0)
  ∧ (∀ s j, isSlot j = true → s.rdb fSLU_STAT_WAITRAMP j = true → s.ramping j < s.rd fSLU_CTL_MAXRAMP 0 →
    exec (.rampPlaceFree j) s = .next ((s.wrb fSLU_STAT_WAITRAMP j false).powerOn j false))
  ∧ (∀ s j, isSlot j = true → s.rd fSLU_CTL_MAXRAMP 0 ≤ s.ramping j → exec (.rampPlaceFree j) s = .next s)
  ∧ (∀ s j, isSlot j = true → s.rdb fSLU_STAT_WAITRAMP j = false → exec (.rampPlaceFree j) s = .next s)

/-- Ramps and trips (R419, R421 to R429): a ramp passes its segments to PGWAIT, and power-good leads to ON; a trip drives the pass FET off and
records its cause: 1 fast, 2 slow with its timer, 3 no power-good in time, 4 under-voltage, 5 over-voltage, 6 no feed; a damaged
pass FET isolates the slot. -/
def Obligations.RampsAndTrips : Prop :=
  (∀ s j vout cur, isSlot j = true → vout < 4096 → cur < 4096 → s.slotState j = 2 → (s.slot j).make = none →
    s.rd fSLU_STAT_SEG j < 15 →
    EndsIn (.rampSegmentEnd j vout cur) s fun t =>
      t.rd fSLU_STAT_SEG j = s.rd fSLU_STAT_SEG j + 1 ∧ t.slotState j = 2 ∧ t.rd fSLU_MEAS_VOUT j = s.voltAt j vout % 2 ^ 16
      ∧ t.rd fSLU_MEAS_IMEAS j = s.curAt j cur % 2 ^ 16 ∧ t.rd fSLU_MEAS2_IPEAK j = max (s.curAt j cur) (s.rd fSLU_MEAS2_IPEAK j) % 2 ^ 16)
  ∧ (∀ s j vout cur, isSlot j = true → vout < 4096 → cur < 4096 → s.slotState j = 2 → (s.slot j).make = none →
    s.rd fSLU_STAT_SEG j = 15 →
    EndsIn (.rampSegmentEnd j vout cur) s fun t => t.slotState j = 3 ∧ t.rd fSLU_STAT_SEG j = 15)
  ∧ (∀ s j vout cur, isSlot j = true → vout < 4096 → cur < 4096 → s.slotState j ≠ 2 ∨ (s.slot j).make.isSome = true →
    exec (.rampSegmentEnd j vout cur) s = .next s)
  ∧ (∀ s j, isSlot j = true → s.slotState j = 2 ∨ s.slotState j = 3 →
    EndsIn (.rampTimeout j) s fun t =>
      t.slotState j = 6 ∧ t.rd fSLU_STAT_CAUSE j = 3 ∧ t.rd fSLU_STAT_PG j = 0
      ∧ t.rd fSLU_ERR_TRIPS j = satAdd fSLU_ERR_TRIPS.width (s.rd fSLU_ERR_TRIPS j) 1
      ∧ (s.slotPort j = none → t.spw = (s.pulse (0x200 + j)).spw)
      ∧ (∀ p, s.slotPort j = some p → s.dlUp p = false → t.rd fPRT_SLOTSTAT_PFAULT p = 1))
  ∧ (∀ s j, isSlot j = true → s.slotState j ≠ 2 → s.slotState j ≠ 3 → exec (.rampTimeout j) s = .next s)
  ∧ (∀ s j vout cur vin, isSlot j = true → vout < 4096 → cur < 4096 → vin < 4096 → s.slotState j = 3 → s.voutGood j (s.voltAt j vout) = true →
    s.rdb fSLU_STAT_FTIMER j = false → 16 * s.curAt j cur ≤ s.rd fSLU_SLOW0_LEVEL j * s.rd fSLU_RATED_RATED j → (s.slot j).make = none →
    EndsIn (.powerGood j vout cur vin) s fun t =>
      t.slotState j = 4 ∧ t.rd fSLU_STAT_PG j = 1 ∧ t.rd fSLU_MEAS_VOUT j = s.voltAt j vout % 2 ^ 16
      ∧ t.rd fSLU_MEAS2_VIN j = s.voltAt j vin % 2 ^ 16)
  ∧ (∀ s j vout cur vin, isSlot j = true → vout < 4096 → cur < 4096 → vin < 4096 → 
    s.slotState j ≠ 3 ∨ s.voutGood j (s.voltAt j vout) = false →
    EndsIn (.powerGood j vout cur vin) s fun t =>
      t.slotState j = s.slotState j ∧ t.rd fSLU_STAT_PG j = s.rd fSLU_STAT_PG j ∧ t.rd fSLU_MEAS_VOUT j = s.voltAt j vout % 2 ^ 16)
  ∧ (∀ s j vout cur vin, isSlot j = true → vout < 4096 → cur < 4096 → vin < 4096 → s.rdb fSLU_STAT_FTIMER j = true ∨ (s.slot j).make.isSome = true →
    EndsIn (.powerGood j vout cur vin) s fun t =>
      t.slotState j = s.slotState j ∧ t.rd fSLU_STAT_PG j = s.rd fSLU_STAT_PG j ∧ t.rd fSLU_MEAS_VOUT j = s.voltAt j vout % 2 ^ 16)
  ∧ (∀ s j, isSlot j = true → s.slotState j = 5 → EndsIn (.stoppingEnd j) s fun t => t.slotState j = 1 ∧ t.rd fSLU_STAT_PG j = 0)
  ∧ (∀ s j, isSlot j = true → s.slotState j ≠ 5 → exec (.stoppingEnd j) s = .next s)
  ∧ (∀ s j cur, isSlot j = true → cur < 2 ^ 16 → s.rd fSLU_TRIPCFG_FTMULT j * s.rd fSLU_RATED_RATED j < 4 * cur → s.driving j = true →
    EndsIn (.fastTrip j cur) s fun t => t.slotState j = 6 ∧ t.rd fSLU_STAT_CAUSE j = 1 ∧ t.rd fSLU_MEAS_IMEAS j = cur)
  ∧ (∀ s j cur, isSlot j = true → cur < 2 ^ 16 → s.rd fSLU_TRIPCFG_FTMULT j * s.rd fSLU_RATED_RATED j < 4 * cur →
    exec (.fastTrip j cur) s = .next ((s.sampleCur j cur).trip j 1))
  ∧ (∀ s j cur, isSlot j = true → cur < 2 ^ 16 → 4 * cur ≤ s.rd fSLU_TRIPCFG_FTMULT j * s.rd fSLU_RATED_RATED j →
    EndsIn (.fastTrip j cur) s fun t => t.slotState j = s.slotState j ∧ t.rd fSLU_MEAS_IMEAS j = cur)
  ∧ (∀ s j k cur, isSlot j = true → k < 4 → cur < 4096 → s.driving j = true →
    s.rd (slowLevel k) j * s.rd fSLU_RATED_RATED j < 16 * s.curAt j cur →
    EndsIn (.slowTrip j k cur) s fun t => t.slotState j = 6 ∧ t.rd fSLU_STAT_CAUSE j = 2 ∧ t.rd fSLU_STAT_CAUSEK j = k)
  ∧ (∀ s j k cur, isSlot j = true → k < 4 → cur < 4096 → s.driving j = false ∨ 16 * s.curAt j cur ≤ s.rd (slowLevel k) j * s.rd fSLU_RATED_RATED j →
    EndsIn (.slowTrip j k cur) s fun t => t.slotState j = s.slotState j ∧ t.rd fSLU_MEAS_IMEAS j = s.curAt j cur % 2 ^ 16)
  ∧ (∀ s j vout, isSlot j = true → vout < 4096 → 100 * s.voltAt j vout < s.rd fSLU_PGCFG_PGLO j * s.rd fSLU_VNOM_VNOM j → s.slotState j = 4 →
    (s.slot j).make = none →
    EndsIn (.underVoltage j vout) s fun t => t.slotState j = 6 ∧ t.rd fSLU_STAT_CAUSE j = (if s.fed j then 4 else 6))
  ∧ (∀ s j vout, isSlot j = true → vout < 4096 →
    s.rd fSLU_PGCFG_PGLO j * s.rd fSLU_VNOM_VNOM j ≤ 100 * s.voltAt j vout ∨ (s.slotState j = 4 ∧ (s.slot j).make.isSome = true)
      ∨ (s.slotState j = 3 ∧ s.fed j = true) ∨ (s.slotState j ≠ 3 ∧ s.slotState j ≠ 4) →
    Ends (.underVoltage j vout) s s [(fSLU_MEAS_VOUT, j, s.voltAt j vout % 2 ^ 16)])
  ∧ (∀ s j vout, isSlot j = true → vout < 4096 → 100 * s.voltAt j vout < s.rd fSLU_PGCFG_PGLO j * s.rd fSLU_VNOM_VNOM j → s.slotState j = 3 →
    s.fed j = false → EndsIn (.underVoltage j vout) s fun t => t.slotState j = 6 ∧ t.rd fSLU_STAT_CAUSE j = 6)
  ∧ (∀ s j vout, isSlot j = true → vout < 4096 → s.rd fSLU_PGCFG_PGOV j * s.rd fSLU_VNOM_VNOM j < 100 * s.voltAt j vout →
    s.slotState j = 3 ∨ s.slotState j = 4 → (s.slot j).make = none →
    EndsIn (.overVoltage j vout) s fun t => t.slotState j = 6 ∧ t.rd fSLU_STAT_CAUSE j = 5)
  ∧ (∀ s j vout, isSlot j = true → vout < 4096 →
    100 * s.voltAt j vout ≤ s.rd fSLU_PGCFG_PGOV j * s.rd fSLU_VNOM_VNOM j ∨ (s.slot j).make.isSome = true
      ∨ (s.slotState j ≠ 3 ∧ s.slotState j ≠ 4) →
    Ends (.overVoltage j vout) s s [(fSLU_MEAS_VOUT, j, s.voltAt j vout % 2 ^ 16)])
  ∧ (∀ s j vout, isSlot j = true → vout < 4096 → 1000 < s.voltAt j vout → s.slotState j = 1 ∨ s.slotState j = 6 →
    EndsIn (.passFetDamage j vout) s fun t =>
      t.slotState j = 7 ∧ t.rd fSLU_ERR_ISO j = 1 ∧ t.rd fSLU_STAT_CAUSE j = 7 ∧ t.rd fSLU_STAT_FEED j = 0
      ∧ t.spw = (s.level (0x220 + j) true).spw)
  ∧ (∀ s j vout, isSlot j = true → vout < 4096 → s.voltAt j vout ≤ 1000 ∨ (s.slotState j ≠ 1 ∧ s.slotState j ≠ 6) → Ends (.passFetDamage j vout) s s [(fSLU_MEAS_VOUT, j, s.voltAt j vout % 2 ^ 16)])

/-- Flume snapshots and dumps (R437 to R440, R442 to R446, R448, R408): a keyed FLM_SNAP takes a snapshot, or is counted as skipped where both banks are
held; a dump's header goes out once its body is proved, and its end shows in LASTRES and LASTOK; one that fails or is late is counted;
a dump whose lines are denied ends as failed; counter definitions, filter sets and rings are taken as their rules admit, and are
configuration errors otherwise; a write that every field discards, or without its key, is nothing. -/
def Obligations.SnapshotsAndDumps : Prop :=
  (∀ s val, val < 2 ^ 32 → bitsOf val 24 8 = 0xF1 → bitOf val 0 = true → s.flm.dump0 = none → s.flm.dump1 = none → s.flm.waits = [] →
    s.swc = {} → s.rdb fFLM_RING_EN 0 = false →
    EndsIn (.flmSnap val) s fun t =>
      t.flm.last = s.snapNow 4 ∧ t.flm.waits = [] ∧ t.rd fFLM_STAT_BANKBUSY 0 = 0
      ∧ t.rd fFLM_SNAPSEQ_L_SEQ_L 0 = (s.rd2 fFLM_SNAPSEQ_L_SEQ_L fFLM_SNAPSEQ_H_SEQ_H 0 + 1) % 2 ^ 32)
  ∧ (∀ s val, val < 2 ^ 32 → bitsOf val 24 8 = 0xF1 → bitOf val 0 = true → s.bankHeld 0 = true → s.bankHeld 1 = true →
    exec (.flmSnap val) s = .next ((s.inc fFLM_SKIP_SKIPPED 0).pulse 0x1F1))
  ∧ (∀ s val, val < 2 ^ 32 → bitsOf val 24 8 = 0xF1 → bitOf val 0 = true → exec (.flmSnap val) s = .next (s.snapshot 4))
  ∧ (∀ s val, val < 2 ^ 32 → bitsOf val 24 8 ≠ 0xF1 ∨ bitOf val 0 = false → exec (.flmSnap val) s = .next s)
  ∧ (∀ s r d n u, r < 2 → s.dumpOn r = some d → s.bank d.bank = some n → d.body = false → d.denied = false →
    u = (s.setDump r (some { d with body := true })).dumpLines r d n [0, 1, 2, 3] → 
    exec (.dumpBodyProven r) s = .next (if u.1 then u.2 else (u.2.dumpFail r).dumpsGo))
  ∧ (∀ s r d n, r < 2 → s.dumpOn r = some d → s.bank d.bank = some n → d.body = false → d.denied = true →
    exec (.dumpBodyProven r) s = .next (s.dumpFail r).dumpsGo)
  ∧ (∀ s r d, r < 2 → s.dumpOn r = some d → s.bank d.bank = none ∨ d.body = true → exec (.dumpBodyProven r) s = .next s)
  ∧ (∀ s r d n, r < 2 → s.dumpOn r = some d → s.bank d.bank = some n → d.body = false → s.rdb fFLM_RING_SPACE r = true →
    s.upstream (s.rd fFLM_RING_PORT r) = false → s.flm.waits = [] →
    EndsIn (.dumpBodyProven r) s fun t =>
      t.dumpOn r = none ∧ t.rd (if r = 0 then fFLM_STAT_LASTRES0 else fFLM_STAT_LASTRES1) 0 = 2
      ∧ t.rd fFLM_ERR_WRFAIL 0 = satAdd fFLM_ERR_WRFAIL.width (s.rd fFLM_ERR_WRFAIL 0) 1)
  ∧ (∀ s r d, r < 2 → s.dumpOn r = some d → d.body = true → d.denied = false → s.flm.waits = [] →
    EndsIn (.dumpComplete r) s fun t =>
      t.dumpOn r = none ∧ t.rd (if r = 0 then fFLM_STAT_LASTRES0 else fFLM_STAT_LASTRES1) 0 = 1
      ∧ t.rd fFLM_RING_LASTOK_L r = d.seq % 2 ^ 32
      ∧ (∀ n, s.bank d.bank = some n → (if r = 0 then t.flm.prev0 else t.flm.prev1) = (n.sec, n.ns)))
  ∧ (∀ s r d, r < 2 → s.dumpOn r = some d →
    (d.body = true → d.denied = true → exec (.dumpComplete r) s = .next (s.dumpFail r).dumpsGo)
    ∧ (d.body = false → exec (.dumpComplete r) s = .next s)
    ∧ exec (.dumpFail r) s = .next (s.dumpFail r).dumpsGo)
  ∧ (∀ s r d, r < 2 → s.dumpOn r = some d → s.flm.waits = [] →
    EndsIn (.dumpFail r) s fun t =>
      t.dumpOn r = none ∧ t.rd (if r = 0 then fFLM_STAT_LASTRES0 else fFLM_STAT_LASTRES1) 0 = 2
      ∧ t.rd fFLM_ERR_WRFAIL 0 = satAdd fFLM_ERR_WRFAIL.width (s.rd fFLM_ERR_WRFAIL 0) 1 ∧ t.spw = (s.pulse 0x1F0).spw)
  ∧ (∀ s r, r < 2 → s.dumpOn r = none →
    exec (.dumpBodyProven r) s = .next s ∧ exec (.dumpComplete r) s = .next s ∧ exec (.dumpFail r) s = .next s)
  ∧ (∀ s r d, r < 2 → s.dumpOn r = some d → d.late = false →
    EndsIn (.dumpLate r) s fun t =>
      t.dumpOn r = some { d with late := true } ∧ t.rd fFLM_ERR_LATE 0 = satAdd fFLM_ERR_LATE.width (s.rd fFLM_ERR_LATE 0) 1
      ∧ t.spw = (s.pulse 0x1F1).spw)
  ∧ (∀ s r b, r < 2 → s.dumpOn r = none → s.flm.waits = [(r, b, false)] →
    EndsIn (.dumpLate r) s fun t => t.flm.waits = [(r, b, true)])
  ∧ (∀ s r, r < 2 → s.dumpOn r = none ∨ (∃ d, s.dumpOn r = some d ∧ d.late = true) → (∀ w ∈ s.flm.waits, w.1 = r → w.2.2 = true) →
    exec (.dumpLate r) s = .next s)
  ∧ (∀ s r d b, r < 2 → s.dumpOn r = some d → d.late = true → s.flm.waits = [(r, b, false)] →
    EndsIn (.dumpLate r) s fun t => t.flm.waits = [(r, b, true)]
      ∧ t.rd fFLM_ERR_LATE 0 = satAdd fFLM_ERR_LATE.width (s.rd fFLM_ERR_LATE 0) 1)
  ∧ (∀ s val, val < 2 ^ 32 → bitsOf val 24 8 = 0xD3 → bitsOf val 0 14 < 12288 →
    EndsIn (.flmZero val) s fun t => SMap.get 0 t.flm.cnt (bitsOf val 0 14) = 0 ∧ t.regs = s.regs)
  ∧ (∀ s val, val < 2 ^ 32 → bitsOf val 24 8 = 0xD3 → 12288 ≤ bitsOf val 0 14 → exec (.flmZero val) s = .next (s.cfgErr 20))
  ∧ (∀ s val, val < 2 ^ 32 → bitsOf val 24 8 ≠ 0xD3 → exec (.flmZero val) s = .next s)
  ∧ (∀ s c word val, 8448 ≤ c → c < 12288 → word < 2 → val < 2 ^ 32 →
    (s.takeWord (wordFields 0x1410000 word 2) (c - 8448) val).flmSlotClash = true → exec (.flmEvtWrite c word val) s = .next (s.cfgErr 20))
  ∧ (∀ s c val, 8448 ≤ c → c < 12288 → val < 2 ^ 32 → flmEvtOk c val = false → exec (.flmEvtWrite c 0 val) s = .next (s.cfgErr 20))
  ∧ (∀ s f word val, f < 256 → word < 4 ∨ word = 5 ∨ word = 7 → val < 2 ^ 32 → s.discards (wordFields 0x1420000 word 8) f val = true →
    exec (.flmFiltWrite f word val) s = .next s)
  ∧ (∀ s c word val, 8448 ≤ c → c < 12288 → word < 2 → val < 2 ^ 32 → s.discards (wordFields 0x1410000 word 2) (c - 8448) val = false →
    word = 0 → flmEvtOk c val = false → exec (.flmEvtWrite c word val) s = .next (s.cfgErr 20))
  ∧ (∀ s c word val, 8448 ≤ c → c < 12288 → word < 2 → val < 2 ^ 32 → s.discards (wordFields 0x1410000 word 2) (c - 8448) val = false →
    word = 1 ∨ flmEvtOk c val = true → (s.takeWord (wordFields 0x1410000 word 2) (c - 8448) val).flmSlotClash = false →
    EndsIn (.flmEvtWrite c word val) s fun t => Took (wordFields 0x1410000 word 2) (c - 8448) val t)
  ∧ (∀ (s t : State) f word val, f < 256 → word < 4 → val < 2 ^ 32 → s.discards (wordFields 0x1420000 word 8) f val = false →
    t = s.takeWord (wordFields 0x1420000 word 8) f val →
    (t.filtOk f = true → t.flmSlotClash = false →
      EndsIn (.flmFiltWrite f word val) s fun u => Took (wordFields 0x1420000 word 8) f val u ∧ f ∉ u.flm.badFilt)
    ∧ (t.filtOk f = false ∨ t.flmSlotClash = true → exec (.flmFiltWrite f word val) s = .next (s.cfgErr 20)))
  ∧ (∀ s f word val, f < 256 → word = 4 ∨ word = 6 → val < 2 ^ 32 →
    exec (.flmFiltWrite f word val) s = .next (s.stageLow (0x1420000 + 0x20 * f + 4 * word) val))
  ∧ (∀ (s u t : State) f word val, f < 256 → word = 5 ∨ word = 7 → val < 2 ^ 32 → s.discards (wordFields 0x1420000 word 8) f val = false →
    u = s.takeStaged (0x1420000 + 0x20 * f + 4 * word - 4) f (wordFields 0x1420000 (word - 1) 8) →
    t = u.takeWord (wordFields 0x1420000 word 8) f val →
    (t.filtOk f = true → t.flmSlotClash = false →
      exec (.flmFiltWrite f word val) s = .next (t.flmMod fun g => { g with badFilt := g.badFilt.filter (· != f) }))
    ∧ (t.filtOk f = false ∨ t.flmSlotClash = true →
      exec (.flmFiltWrite f word val) s = .next (({ s with stage := u.stage } : State).cfgErr 20)))
  ∧ (∀ (s t : State) f low val, f < 256 → val < 2 ^ 32 → SMap.get 0 s.stage (0x1420010 + 0x20 * f) = low + 1 →
    s.discards (wordFields 0x1420000 5 8) f val = false →
    t = (s.takeStaged (0x1420010 + 0x20 * f) f (wordFields 0x1420000 4 8)).takeWord (wordFields 0x1420000 5 8) f val →
    t.filtOk f = true → t.flmSlotClash = false →
    EndsIn (.flmFiltWrite f 5 val) s fun u =>
      Took (wordFields 0x1420000 4 8) f low u ∧ Took (wordFields 0x1420000 5 8) f val u)
  ∧ (∀ s r val, r < 2 → val < 2 ^ 32 → s.discards (wordFields 0x1400040 0 8) r val = false →
    (s.dumpOn r = none → bitOf val 0 = true →
      EndsIn (.flmRingWrite r 0 val) s fun t => Took (wordFields 0x1400040 0 8) r val t)
    ∧ (∀ d, s.dumpOn r = some d → bitOf val 0 = true → exec (.flmRingWrite r 0 val) s = .next (s.cfgErr 20))
    ∧ (∀ d, s.dumpOn r = some d → bitOf val 0 = false → s.flm.waits = [] →
      EndsIn (.flmRingWrite r 0 val) s fun t =>
        t.dumpOn r = none ∧ t.rd (if r = 0 then fFLM_STAT_LASTRES0 else fFLM_STAT_LASTRES1) 0 = 3
        ∧ Took (wordFields 0x1400040 0 8) r val t))
  ∧ (∀ s r word val, r < 2 → word < 8 → val < 2 ^ 32 → s.discards (wordFields 0x1400040 word 8) r val = true ∨ 2 < word →
    exec (.flmRingWrite r word val) s = .next s)
  ∧ (∀ s r word val d, r < 2 → word = 1 ∨ word = 2 → val < 2 ^ 32 → s.discards (wordFields 0x1400040 word 8) r val = false →
    s.dumpOn r = some d → exec (.flmRingWrite r word val) s = .next (s.cfgErr 20))
  ∧ (∀ s r val, r < 2 → val < 2 ^ 32 → s.dumpOn r = none →
    (s.discards (wordFields 0x1400040 1 8) r val = false →
      exec (.flmRingWrite r 1 val) s = .next (s.stageLow (0x1400044 + 0x20 * r) val))
    ∧ (s.discards (wordFields 0x1400040 2 8) r val = false →
      exec (.flmRingWrite r 2 val) s
        = .next ((s.takeStaged (0x1400044 + 0x20 * r) r (fieldsAt 0x1400044)).takeWord (wordFields 0x1400040 2 8) r val))
    ∧ (s.discards (wordFields 0x1400040 0 8) r val = false → bitOf val 0 = false →
      exec (.flmRingWrite r 0 val) s = .next ((s.takeWord (wordFields 0x1400040 0 8) r val).flmMod fun f =>
        { f with waits := f.waits.filter fun w => w.1 != r }).dumpsGo))
  ∧ (∀ s p tag, p < 64 → tag < 2 ^ 64 →
    (∀ o ∈ s.swc.owed, o.x ≠ p ∨ o.m.tag ≠ tag ∨ (o.m.src ≠ 0x7F ∧ ¬ (0x40 ≤ o.m.src ∧ o.m.src < 0x50))) →
    exec (.deviceCplTimeout p tag) s = .next s)
  ∧ (∀ s p o, p < 64 → o.m.tag < 2 ^ 64 → s.swc.owed = [o] → o.x = p → 0x40 ≤ o.m.src → o.m.src < 0x50 →
    EndsIn (.deviceCplTimeout p o.m.tag) s fun t =>
      t = (let u := (s.swcMod fun w => { w with owed := [] }).pulse (0x128 + p)
        (if o.m.isWrite then u.poolWritten (lineOfMsg o.m) false
          else u.poolData (lineOfMsg o.m) (u.lostData (lineOfMsg o.m)).1 true).runDeferred))
  ∧ (∀ s p tag, p < 64 → tag < 2 ^ 64 → s.swc.owed = [] → exec (.deviceCplTimeout p tag) s = .next s)
  ∧ (∀ s p o d, p < 64 → s.swc.owed = [o] → o.x = p → o.m.tag = dumpTag 0 → o.m.src = 0x7F → s.flm.dump0 = some d → d.bank = 0 →
    s.flm.dump1 = none → s.flm.waits = [] →
    EndsIn (.deviceCplTimeout p (dumpTag 0)) s fun t =>
      t.swc.owed = [] ∧ t.flm.dump0 = none ∧ t.rd fFLM_STAT_LASTRES0 0 = 2
      ∧ t.rd fFLM_ERR_WRFAIL 0 = satAdd fFLM_ERR_WRFAIL.width (s.rd fFLM_ERR_WRFAIL 0) 1)

/-- Requests and the Tender (R135, R450 to R453, R457, R458, R460, R464 to R466): a READ is answered with the object's value and a WRITE sets it, at once or
at its time; a malformed frame is counted; notifications are sent again until acknowledged, three times at most; a command that runs too long
ends with 0x0D; the lock lapses; checkpoints start and end; a restart of the Tender drops what was in progress and is journaled.  Each frame
of the segment is taken by the one frame operation, whatever it holds. -/
def Obligations.DictionaryRequests : Prop :=
  (∀ s seg mac body b, frameOk seg mac = true → parseBody body = some b → b.kind = 1 → b.node = s.ownNode → b.any = false → b.op = 1 →
    b.index = 0x1100 → b.sub = 0 → b.offset = 0 → s.serves { path := seg, mac := mac, port := 0, tag := b.tag } 0x1100 →
    s.pwr.silent = false →
    EndsIn (.dictRead seg mac false body false) s fun t =>
      t.out = .frame seg mac (s.body 2 1 b.tag 0x1100 0 0 0 0 (toBeBytes 1 s.dev)) :: s.out
      ∧ t.rd fTND_SEG_FRAMES seg = satAdd fTND_SEG_FRAMES.width (s.rd fTND_SEG_FRAMES seg) 1)
  ∧ (∀ s seg mac bcast body good hang, frameOk seg mac = true →
    exec (.dictRead seg mac bcast body hang) s = .next (s.takeFrame seg mac bcast body true hang)
    ∧ exec (.dictWrite seg mac bcast body good hang) s = .next (s.takeFrame seg mac bcast body good hang)
    ∧ exec (.notificationAck seg mac body) s = .next (s.takeFrame seg mac false body true false)
    ∧ exec (.badframe seg mac 0x88B5 bcast body) s = .next (s.takeFrame seg mac bcast body true false))
  ∧ (∀ s seg mac ether bcast body, frameOk seg mac = true → ether ≠ 0x88B5 →
    s.canCall { path := seg, mac := mac, port := 0, tag := 0 } = false → exec (.badframe seg mac ether bcast body) s = .next s)
  ∧ (∀ s seg mac body b good v, frameOk seg mac = true → parseBody body = some b → b.kind = 1 → b.node = s.ownNode → b.any = false →
    b.op = 2 → b.index = 0x1200 → b.sub = 2 → b.offset = 0 → b.data = [v] → 1 ≤ v.toNat → v.toNat ≤ 16 →
    s.serves { path := seg, mac := mac, port := 0, tag := b.tag } 0x1200 →
    (b.timed = false →
      EndsIn (.dictWrite seg mac false body good false) s fun t =>
        t.rd fTND_CTL_NODECNT 0 = v.toNat ∧ t.headSeq = (s.headSeq + 1) % 2 ^ 64)
    ∧ (b.timed = true → s.tnd.timed = [] → s.claims < 256 → time80Ns b.apply ≤ s.ft.now + 86400 * nsPerSec →
      EndsIn (.dictWrite seg mac false body good false) s fun t =>
        t.rd fTND_CTL_NODECNT 0 = s.rd fTND_CTL_NODECNT 0 ∧ t.tnd.timed.map (·.at_) = [time80Ns b.apply]))
  ∧ (∀ s seg mac body, frameOk seg mac = true → s.canCall { path := seg, mac := mac, port := 0, tag := 0 } = false →
    exec (.dictRead seg mac false body false) s = .next s ∧ exec (.notificationAck seg mac body) s = .next s)
  ∧ (∀ s seg mac ether bcast body, frameOk seg mac = true → s.canCall { path := seg, mac := mac, port := 0, tag := 0 } = true →
    (ether ≠ 0x88B5 →
      Ends (.badframe seg mac ether bcast body) s s
        [(fTND_ERR_BADFRAME, 0, satAdd fTND_ERR_BADFRAME.width (s.rd fTND_ERR_BADFRAME 0) 1)])
    ∧ (ether = 0x88B5 → parseBody body = none →
      Ends (.badframe seg mac ether bcast body) s s
        [(fTND_ERR_BADFRAME, 0, satAdd fTND_ERR_BADFRAME.width (s.rd fTND_ERR_BADFRAME 0) 1),
         (fTND_SEG_FRAMES, seg, satAdd fTND_SEG_FRAMES.width (s.rd fTND_SEG_FRAMES seg) 1)]))
  ∧ (∀ s seg mac body b, frameOk seg mac = true → s.canCall { path := seg, mac := mac, port := 0, tag := 0 } = true →
    parseBody body = some b → b.kind = 4 → 1 ≤ b.op → b.op ≤ 6 →
    EndsIn (.notificationAck seg mac body) s fun t =>
      ∀ n, n ∈ t.notices ↔ n ∈ s.notices ∧ ¬ (n.tag = b.tag ∧ s.slotMac n.slot = some mac))
  ∧ (∀ (s : State) slot tag n, slot < 64 → tag < 2 ^ 16 → s.notices = [n] → n.slot = slot → n.tag = tag →
    (n.resent < 2 → EndsIn (.notificationResend slot tag) s fun t => t.notices = [{ n with resent := n.resent + 1 }])
    ∧ (2 ≤ n.resent → EndsIn (.notificationResend slot tag) s fun t => t.notices = [])
    ∧ (s.slotSegs slot = [0] →
      EndsIn (.notificationResend slot tag) s fun t => t.out = .notify 0 slot n.typ tag n.data :: s.out ∧ t.regs = s.regs))
  ∧ (∀ (s : State) slot tag, slot < 64 → tag < 2 ^ 16 → (∀ n ∈ s.notices, n.slot ≠ slot ∨ n.tag ≠ tag) →
    exec (.notificationResend slot tag) s = .next s)
  ∧ (∀ (s : State) g mac bs rest, s.tnd.bcast = (g, mac, bs) :: rest →
    exec .broadcastReply s
      = .next ((s.tndMod fun t => { t with bcast := rest }).sendBack { path := g, mac := mac, port := 0, tag := 0 } bs))
  ∧ (∀ (s : State) g mac bs rest, s.tnd.bcast = (g, mac, bs) :: rest → g < 2 → s.pwr.silent = false →
    EndsIn .broadcastReply s fun t => t.tnd.bcast = rest ∧ t.out = .frame g mac bs :: s.out)
  ∧ (∀ (s : State), s.tnd.bcast = [] → exec .broadcastReply s = .next s)
  ∧ (∀ (s : State) r, s.tnd.exec = some r → r.cmd.hang = false → r.seq = none → s.tnd.queue = [] →
    EndsIn .commandTimeout s fun t =>
      t.tnd.exec = none ∧ t.rd fTND_ERR_TIMEOUT 0 = satAdd fTND_ERR_TIMEOUT.width (s.rd fTND_ERR_TIMEOUT 0) 1
      ∧ t.spw = (s.pulse 0x1F8).spw)
  ∧ (∀ (s : State) r, s.tnd.exec = some r →
    exec .commandTimeout s = .next ((((s.runningEffect r).inc fTND_ERR_TIMEOUT 0).pulse 0x1F8).execEnd r 0xD))
  ∧ (∀ (s : State), s.tnd.exec = none → exec .commandTimeout s = .next s)
  ∧ (∀ s orig, orig < 256 →
    EndsIn (.domainTransferTimeout orig) s fun t =>
      t.regs = s.regs ∧ ∀ x, x ∈ t.tnd.xfers ↔ x ∈ s.tnd.xfers ∧ x.orig ≠ orig)
  ∧ (∀ s, s.rd fTND_LOCK_HOLDER 0 ≠ 0xFF →
    EndsIn .lockLapse s fun t => t.rd fTND_LOCK_HOLDER 0 = 0xFF ∧ t.headSeq = (s.headSeq + 1) % 2 ^ 64)
  ∧ (∀ s, s.rd fTND_LOCK_HOLDER 0 = 0xFF → exec .lockLapse s = .next s)
  ∧ (∀ s, s.ckWanted = true → s.rd fWLG_CTL_CKSEC 0 ≠ 0 → s.tnd.ckpt = none →
    EndsIn .checkpointTimer s fun t =>
      t.tnd.ckpt = some { flash := s.tnd.ckFlash, upto := s.headSeq - 1 } ∧ t.rd fWLG_CKSTAT_BUSY 0 = 1)
  ∧ (∀ s, s.ckWanted = true → s.rd fWLG_CTL_CKSEC 0 ≠ 0 → exec .checkpointTimer s = .next s.ckStart)
  ∧ (∀ s, s.ckWanted = false ∨ s.rd fWLG_CTL_CKSEC 0 = 0 → exec .checkpointTimer s = .next s)
  ∧ (∀ (s : State) c ok, s.tnd.ckpt = some c → s.tnd.ckAgain = false → s.pwr.warmDue = 0 →
    EndsIn (.checkpointDone ok) s fun t =>
      t.tnd.ckpt = none ∧ t.rd fWLG_CKSTAT_BUSY 0 = 0 ∧ t.rd fWLG_CKSTAT_LAST 0 = (if ok then 1 else 2)
      ∧ t.rd fWLG_CKSTAT_FLASH 0 = c.flash % 2 ∧ t.ckSeq = (if ok then c.upto % 2 ^ 64 else s.ckSeq))
  ∧ (∀ (s : State) ok, s.tnd.ckpt = none → exec (.checkpointDone ok) s = .next s)
  ∧ (∀ (s : State), s.pwr.sram = true → s.tnd.restarting = false → s.boot.trial = none → s.tnd.exec = none →
    EndsIn .tenderRestart s fun t =>
      t.tnd.restarting = true ∧ t.tnd.queue = [] ∧ t.tnd.xfers = [] ∧ t.rd fTND_STAT_RESTARTED 0 = 1
      ∧ t.rd fTND_ERR_MISMATCH 0 = satAdd fTND_ERR_MISMATCH.width (s.rd fTND_ERR_MISMATCH 0) 1 ∧ t.spw = (s.pulse 0x1F9).spw)
  ∧ (∀ (s : State) k, s.pwr.sram = true → s.tnd.restarting = false → s.boot.trial = some k → k < 4 → s.tnd.exec = none →
    EndsIn .tenderRestart s fun t =>
      t.tnd.restarting = true ∧ t.boot.trial = none ∧ t.rd fBOOT_STAT_RUNFW 0 = k ∧ t.rd fBOOT_STAT_FWSTATE 0 = 4)
  ∧ (∀ (s : State), s.pwr.sram = false ∨ s.tnd.restarting = true → exec .tenderRestart s = .next s)
  ∧ (∀ (s : State), s.tnd.restarting = true →
    EndsIn .tenderRestartDone s fun t => t.tnd.restarting = false)
  ∧ (∀ (s : State), s.tnd.restarting = true → s.flm.dump0 = none → s.flm.dump1 = none → s.flm.waits = [] →
    EndsIn .tenderRestartDone s fun t => t.tnd.restarting = false ∧ t.headSeq = (s.headSeq + 1) % 2 ^ 64)
  ∧ (∀ (s : State), s.tnd.restarting = false → exec .tenderRestartDone s = .next s)

/-- Objects of the dictionary (R78, R289, R405, R456, R458 to R462, R467): what a WRITE of each does; every one is the one call of the
dictionary with its index, subindex and data.  WARMRESET and TILERESET reset, STATECMD
leads to Standby or back, EPOCHCANCEL withdraws what is pending, a BATCH makes its entries, DEBUG reads for the manager, the lock is
claimed with one's own code, PRECEDENCE and SWCLEAR select their modes in Standby, and CKNOW starts a checkpoint. -/
def Obligations.DictionaryObjects : Prop :=
  (∀ s c val, callerOk c = true → val < 256 →
    exec (.warmreset c val) s = .next (s.call (writeCmd c 0x1102 0 (toBeBytes 1 val)))
    ∧ exec (.tilereset c val) s = .next (s.call (writeCmd c 0x1103 0 (toBeBytes 1 val)))
    ∧ exec (.lockClaim c val) s = .next (s.call (writeCmd c 0x1202 1 (toBeBytes 1 val)))
    ∧ exec (.precedence c val) s = .next (s.call (writeCmd c 0x1110 0 (toBeBytes 1 val)))
    ∧ exec (.swclear c val) s = .next (s.call (writeCmd c 0x1111 0 (toBeBytes 1 val)))
    ∧ exec (.cknow c val) s = .next (s.call (writeCmd c 0x1300 7 (toBeBytes 1 val)))
    ∧ exec (.enterStandby c) s = .next (s.call (writeCmd c 0x1101 0 [1]))
    ∧ exec (.enterOperational c) s = .next (s.call (writeCmd c 0x1101 0 [2])))
  ∧ (∀ s c seq, callerOk c = true → seq < 2 ^ 64 → exec (.epochcancel c seq) s = .next (s.call (writeCmd c 0x1104 2 (toBeBytes 8 seq))))
  ∧ (∀ s c apply (es : List (Nat × Nat)), callerOk c = true → es.length ≤ 127 → (∀ e ∈ es, e.1 < 2 ^ 32 ∧ e.2 < 2 ^ 32) →
    exec (.batch c apply es) s
      = .next (s.call { writeCmd c 0x1400 0 (es.flatMap fun e => toBeBytes 4 e.1 ++ toBeBytes 4 e.2) with apply := apply }))
  ∧ (∀ s c space write addr n data, callerOk c = true → space < 256 → addr < 2 ^ 64 → n < 2 ^ 16 → data.length ≤ 1012 →
    exec (.debug c space write addr n data) s = .next (s.call (writeCmd c 0x1500 0
      (toBeBytes 1 space ++ toBeBytes 1 (if write then 2 else 1) ++ toBeBytes 2 n ++ toBeBytes 8 addr ++ data))))
  ∧   (∀ s w, s.serves w 0x1102 → s.pwr.coldHold = false → s.pwr.warm = false → s.pwr.strap.running = false → s.pwr.warmDue = 0 →
    s.rdb fWLG_CTL_MIRROR 0 = false →
    EndsIn (.warmreset w 0x5A) s fun t => t.pwr.warm = true ∧ t.dev = 0 ∧ t.rd fPWR_RSTCAUSE_LAST 0 = 3)
  ∧ (∀ s w val, s.serves w 0x1102 → val < 256 → val ≠ 0x5A → EndsIn (.warmreset w val) s fun t => t.pwr = s.pwr ∧ t.dev = s.dev)
  ∧ (∀ s w val n, s.serves w 0x1103 → 1 ≤ val → val ≤ 15 → setBits 4 val = [n] → s.pwr.coldHold = false → s.pwr.warm = false →
    bitOf s.pwr.tiles n = false →
    EndsIn (.tilereset w val) s fun t => bitOf t.pwr.tiles n = true ∧ bitOf t.pwr.culvert n = true)
  ∧ (∀ s w, s.serves w 0x1101 → s.operating = true → EndsIn (.enterStandby w) s fun t => t.dev = 1 ∧ t.pwr.oper = false)
  ∧ (∀ s w, s.serves w 0x1101 → s.dev = 1 → EndsIn (.enterStandby w) s fun t => t.dev = 1 ∧ t.pwr.oper = false)
  ∧ (∀ s w, s.serves w 0x1101 → s.dev = 1 → s.rd fBOOT_STAT_LC 0 ≠ 2 →
    EndsIn (.enterOperational w) s fun t => t.pwr.oper = true ∧ t.dev = 1)
  ∧ (∀ s w, s.serves w 0x1101 → s.rd fBOOT_STAT_LC 0 = 2 → EndsIn (.enterOperational w) s fun t => t.pwr = s.pwr ∧ t.dev = s.dev)
  ∧ (∀ s w seq x, s.serves w 0x1104 → seq < 2 ^ 64 → s.tnd.timed = [x] → x.seq = seq →
    EndsIn (.epochcancel w seq) s fun t => t.tnd.timed = [])
  ∧ (∀ s w seq, s.serves w 0x1104 → seq < 2 ^ 64 → s.tnd.timed = [] →
    EndsIn (.epochcancel w seq) s fun t => t.tnd.timed = [] ∧ t.headSeq = (s.headSeq + 1) % 2 ^ 64)
  ∧ (∀ s w v, s.serves w 0x1400 → s.openGate → v < 8192 →
    EndsIn (.batch w none [(fTEN_SEL_TI.addr, v)]) s fun t => t.rd fTEN_SEL_TI 0 = v ∧ t.headSeq = (s.headSeq + 1) % 2 ^ 64)
  ∧ (∀ s w, s.serves w 0x1500 → s.openGate → SMap.get 0 s.latch fTEN_SEL_TI.addr = 0 →
    EndsIn (.debug w 1 false fTEN_SEL_TI.addr 4 []) s fun t => t.tnd.dbgData = toLeBytes 4 (s.rd fTEN_SEL_TI 0))
  ∧ (∀ s w v, s.serves w 0x1500 → s.openGate → v < 8192 →
    EndsIn (.debug w 1 true fTEN_SEL_TI.addr 4 (toLeBytes 4 v)) s fun t => t.rd fTEN_SEL_TI 0 = v)
  ∧ (∀ s w, s.serves w 0x1202 →
    EndsIn (.lockClaim w (s.originOf w).1) s fun t =>
      t.rd fTND_LOCK_HOLDER 0 = (s.originOf w).1
      ∧ (w.path = 2 → t.out = .cci w.port 0 (s.body 2 2 w.tag 0x1202 1 0 0 s.headSeq []) :: s.out))
  ∧ (∀ s w val, s.serves w 0x1202 → val < 256 → val ≠ (s.originOf w).1 → EndsIn (.lockClaim w val) s fun t => t.rd fTND_LOCK_HOLDER 0 = 0xFF)
  ∧ (∀ s w, s.serves w 0x1110 → s.dev = 1 → EndsIn (.precedence w 1) s fun t => t.rd fCHK_CTL_PRECED 0 = 1)
  ∧ (∀ s w, s.serves w 0x1110 → s.dev = 1 → s.preced = false → EndsIn (.precedence w 0) s fun t => t.rd fCHK_CTL_PRECED 0 = 0)
  ∧ (∀ s w, s.serves w 0x1110 → s.dev ≠ 1 →
    EndsIn (.precedence w 1) s fun t => t.rd fCHK_CTL_PRECED 0 = s.rd fCHK_CTL_PRECED 0)
  ∧ (∀ s w, s.serves w 0x1111 → s.dev = 1 → EndsIn (.swclear w 1) s fun t => t.rd fSPW_CTL_ZL25 0 = 1)
  ∧ (∀ s w, s.serves w 0x1111 → s.dev = 1 → s.rdb fSPW_CTL_ZL25 0 = false → EndsIn (.swclear w 0) s fun t => t.rd fSPW_CTL_ZL25 0 = 0)
  ∧ (∀ s w, s.serves w 0x1300 → s.tnd.ckpt = none →
    EndsIn (.cknow w 1) s fun t => t.tnd.ckpt.isSome = true ∧ t.rd fWLG_CKSTAT_BUSY 0 = 1)
  ∧ (∀ s w, s.serves w 0x1300 → s.tnd.ckpt = none → EndsIn (.cknow w 0) s fun t => t.tnd.ckpt = none)

/-- Images and firmware (R474 to R479): a slot whose turn it is boots, or its cause is recorded and the next follows or recovery begins; stage 2 is
applied or its cause recorded; image segments are staged in order and programmed; VERIFY checks a slot, ACTIVATE runs a verified one on
trial, COMMIT keeps it, and BOOTNOW boots out of recovery.  Each object is the one call of the dictionary with its index and data. -/
def Obligations.ImagesAndFirmware : Prop :=
  (∀ s b v, s.slotTurn (b2n b) = true → s.pwr.sram = true → s.pwr.manufTest = false → s.imageCause (b2n b) v false ≠ 0 →
    EndsIn (.bootSlotTry b v) s fun t =>
      t.causeOf (b2n b) = s.imageCause (b2n b) v false
      ∧ (b = true ∨ s.rd fPKG_STRAP_BOOTSEL 0 ≠ 0 → t.boot.recovery = true ∧ t.rd fBOOT_STAT_SLOT 0 = 2 ∧ t.rd fBOOT_STAT_RUNFW 0 = 2)
      ∧ (b = false → s.rd fPKG_STRAP_BOOTSEL 0 = 0 → t.boot = s.boot))
  ∧ (∀ s b v, s.slotTurn (b2n b) = true → s.pwr.sram = true → s.pwr.manufTest = false → s.imageCause (b2n b) v false = 0 →
    stageWrites (s.flash (b2n b)) 1 = some [] → s.chk.staged = [] → s.mgrOn = false →
    EndsIn (.bootSlotTry b v) s fun t =>
      t.rd fBOOT_STAT_SLOT 0 = b2n b ∧ t.rd fBOOT_STAT_RUNFW 0 = b2n b ∧ t.causeOf (b2n b) = 0 ∧ t.rd fPWR_START_PHASE 0 = 4
      ∧ t.boot.stage2 = some (b2n b) ∧ t.rd fBOOT_IMGSVN_SVN 0 = imageSvn (s.flash (b2n b)) % 2 ^ fBOOT_IMGSVN_SVN.width)
  ∧ (∀ s b v, s.slotTurn (b2n b) = true → s.pwr.sram = true → s.pwr.manufTest = false →
    exec (.bootSlotTry b v) s = .next (match s.bootSlot (b2n b) v with
      | (0, t) => t.spiIdle
      | (c, _) => (s.slotFails (b2n b) c).spiIdle))
  ∧ (∀ s b v, s.slotTurn (b2n b) = false ∨ s.pwr.sram = false ∨ s.pwr.manufTest = true → exec (.bootSlotTry b v) s = .next s)
  ∧ (∀ (s : State) v, s.boot.stage2 = none → exec (.stage2Loaded v) s = .next s)
  ∧ (∀ (s : State) v b, s.boot.stage2 = some b → v.read = false →
    EndsIn (.stage2Loaded v) s fun t => t.causeOf b = 2 ∧ t.boot.stage2 = none ∧ t.spw = (s.pulse 0x1FB).spw)
  ∧ (∀ (s : State) v b, s.boot.stage2 = some b → v.read = true → imageS2Len (s.flash b) ≠ 0 → v.hash2 = false →
    EndsIn (.stage2Loaded v) s fun t => t.causeOf b = 10 ∧ t.boot.stage2 = none ∧ t.spw = (s.pulse 0x1FB).spw)
  ∧ (∀ (s : State) v b, s.boot.stage2 = some b → v.read = true → imageS2Len (s.flash b) = 0 ∨ v.hash2 = true → (stageWrites (s.flash b) 2 = some [] ∧ s.chk.staged = []) →
    EndsIn (.stage2Loaded v) s fun t => t.rd fBOOT_STAT_S2OK 0 = 1 ∧ t.boot.stage2 = none)
  ∧ (∀ s w b off last data, callerOk w = true → off < 2 ^ 32 → data.length ≤ 1024 →
    exec (.imageSegmentWrite w b off last data) s
      = .next (s.call { writeCmd w (if b then 0x1612 else 0x1611) 0 data with offset := off, last := last }))
  ∧ (∀ s w v, callerOk w = true →
    exec (.verifya w) s = .next (s.call (writeCmd w 0x1613 0 [1])) ∧ exec (.verifyb w) s = .next (s.call (writeCmd w 0x1613 0 [2]))
    ∧ exec (.activatea w) s = .next (s.call (writeCmd w 0x1613 0 [3])) ∧ exec (.activateb w) s = .next (s.call (writeCmd w 0x1613 0 [4]))
    ∧ exec (.commit w) s = .next (s.call (writeCmd w 0x1613 0 [5]))
    ∧ exec (.bootnowa w v) s = .next (s.call { writeCmd w 0x1613 0 [6] with va := v })
    ∧ exec (.bootnowb w v) s = .next (s.call { writeCmd w 0x1613 0 [7] with vb := v }))
  ∧ (∀ s w b data, s.serves w (if b then 0x1612 else 0x1611) → data.length ≤ 1024 → s.slotShut (b2n b) = false →
    s.stagedBytes + data.length ≤ 1048576 →
    EndsIn (.imageSegmentWrite w b 0 false data) s fun t =>
      t.boot.staged = s.boot.staged ++ [{ slot := b2n b, offset := 0, data := data }] ∧ b2n b ∉ t.boot.verified
      ∧ t.tnd.xfers.map (·.data) = [data])
  ∧ (∀ s w b data, s.serves w (if b then 0x1612 else 0x1611) → data.length ≤ 1024 → s.slotShut (b2n b) = false →
    s.stagedBytes + data.length ≤ 1048576 →
    EndsIn (.imageSegmentWrite w b 0 true data) s fun t =>
      t.boot.staged = s.boot.staged ++ [{ slot := b2n b, offset := 0, data := data }] ∧ t.tnd.xfers = []
      ∧ t.headSeq = (s.headSeq + 1) % 2 ^ 64)
  ∧ (∀ s w b off last data, s.serves w (if b then 0x1612 else 0x1611) → 0 < off → off < 2 ^ 32 → data.length ≤ 1024 →
    s.boot.failed = [] → EndsIn (.imageSegmentWrite w b off last data) s fun t => t.boot = s.boot)
  ∧ (∀ (s : State) b x, s.boot.staged = [x] → x.slot = b2n b → s.tnd.exec = none →
    EndsIn (.flashProgramDone b true) s (fun t => t.boot.staged = [] ∧ t.boot.failed = s.boot.failed ∧ t.rd fBOOT_STAT_FWRESULT 0 = s.rd fBOOT_STAT_FWRESULT 0
      ∧ t.flash (b2n b) = (s.segProgram x).flash (b2n b))
    ∧ EndsIn (.flashProgramDone b false) s (fun t =>
      t.boot.staged = [] ∧ t.rd fBOOT_STAT_FWRESULT 0 = 12 ∧ b2n b ∈ t.boot.failed ∧ t.spw = (s.pulse 0x1FB).spw))
  ∧ (∀ (s : State) b x, (s.boot.staged.find? fun x => x.slot == b2n b) = some x →
    exec (.flashProgramDone b true) s
      = .next (((s.segProgram x).bootMod fun y => { y with staged := y.staged.erase x }).spiIdle.segRetry)
    ∧ exec (.flashProgramDone b false) s = .next ((((s.bootMod fun y => { y with
        staged := y.staged.filter (fun z => z.slot != b2n b), failed := b2n b :: y.failed.filter (· != b2n b) }).spiIdle.wr
          fBOOT_STAT_FWRESULT 0 12).pulse 0x1FB).segRetry))
  ∧ (∀ (s : State) b ok, (∀ x ∈ s.boot.staged, x.slot ≠ b2n b) → exec (.flashProgramDone b ok) s = .next s)
  ∧ (∀ s w, s.serves w 0x1613 → s.boot.trial = none → s.boot.verify = none →
    EndsIn (.verifya w) s (fun t => t.boot.verify = some 0 ∧ t.rd fBOOT_STAT_FWSTATE 0 = 1)
    ∧ EndsIn (.verifyb w) s (fun t => t.boot.verify = some 1 ∧ t.rd fBOOT_STAT_FWSTATE 0 = 1)
    ∧ (s.boot.verified = [0] →
      EndsIn (.activatea w) s fun t =>
        t.boot.trial = some (s.rd fBOOT_STAT_RUNFW 0) ∧ t.rd fBOOT_STAT_RUNFW 0 = 0 ∧ t.rd fBOOT_STAT_FWSTATE 0 = 2
        ∧ t.tnd.restarting = true)
    ∧ (s.boot.verified = [1] →
      EndsIn (.activateb w) s fun t =>
        t.boot.trial = some (s.rd fBOOT_STAT_RUNFW 0) ∧ t.rd fBOOT_STAT_RUNFW 0 = 1 ∧ t.rd fBOOT_STAT_FWSTATE 0 = 2
        ∧ t.tnd.restarting = true)
    ∧ (s.boot.verified = [] →
      EndsIn (.activatea w) s (fun t => t.boot = s.boot ∧ t.rd fBOOT_STAT_FWRESULT 0 = 14)
      ∧ EndsIn (.activateb w) s (fun t => t.boot = s.boot ∧ t.rd fBOOT_STAT_FWRESULT 0 = 14))
    ∧ EndsIn (.commit w) s (fun t => t.boot = s.boot ∧ t.rd fBOOT_STAT_FWSTATE 0 = s.rd fBOOT_STAT_FWSTATE 0))
  ∧ (∀ s w k, s.serves w 0x1613 → s.boot.trial = some k →
    EndsIn (.commit w) s fun t => t.boot.trial = none ∧ t.rd fBOOT_STAT_FWSTATE 0 = 3 ∧ t.rd fBOOT_STAT_FWRESULT 0 = 0)
  ∧ (∀ s w v, s.serves w 0x1613 → s.boot.trial = none → s.boot.verify = none → s.boot.recovery = true → v.read = false →
    EndsIn (.bootnowa w v) s (fun t => t.rd fBOOT_STAT_FWRESULT 0 = 2 ∧ t.rd fBOOT_STAT_CAUSEA 0 = 2 ∧ t.boot = s.boot)
    ∧ EndsIn (.bootnowb w v) s (fun t => t.rd fBOOT_STAT_FWRESULT 0 = 2 ∧ t.rd fBOOT_STAT_CAUSEB 0 = 2 ∧ t.boot = s.boot))
  ∧ (∀ s w v b, s.serves w 0x1613 → s.boot.trial = none → s.boot.verify = none → s.boot.recovery = true →
    s.imageCause (b2n b) v false = 0 → stageWrites (s.flash (b2n b)) 1 = some [] → s.chk.staged = [] → s.mgrOn = false →
    EndsIn (if b then .bootnowb w v else .bootnowa w v) s fun t =>
      t.rd fBOOT_STAT_SLOT 0 = b2n b ∧ t.rd fBOOT_STAT_FWRESULT 0 = 0 ∧ t.boot.recovery = false ∧ t.rd fPWR_START_PHASE 0 = 4
      ∧ t.pwr.start = s.pwr.ns - 2000000)
  ∧ (∀ s w v, s.serves w 0x1613 → s.boot.recovery = false →
    EndsIn (.bootnowa w v) s (fun t => t.boot.recovery = false ∧ t.rd fBOOT_STAT_SLOT 0 = s.rd fBOOT_STAT_SLOT 0)
    ∧ EndsIn (.bootnowb w v) s (fun t => t.boot.recovery = false ∧ t.rd fBOOT_STAT_SLOT 0 = s.rd fBOOT_STAT_SLOT 0))
  ∧ (∀ (s : State) v b, s.boot.verify = some b →
    EndsIn (.fwVerifyDone v) s fun t =>
      t.boot.verify = none ∧ t.rd fBOOT_STAT_FWSTATE 0 = 0 ∧ t.rd fBOOT_STAT_FWRESULT 0 = s.imageCause b v true
      ∧ (b ∈ t.boot.verified ↔ s.imageCause b v true = 0))
  ∧ (∀ (s : State) v, s.boot.verify = none → exec (.fwVerifyDone v) s = .next s)
  ∧ (∀ (s : State) k, s.boot.trial = some k →
    Ends .trialExpire s (s.bootMod fun x => { x with trial := none }) [(fBOOT_STAT_FWSTATE, 0, 3)])
  ∧ (∀ (s : State), s.boot.trial = none → exec .trialExpire s = .next s)

/-- Security version and lifecycle (R480 to R484): SVN is raised where both images carry it; a fresh nonce replaces the one before; a good UNLOCK, by the
dictionary or the TAP, opens the device and the third refusal in a row locks unlocking out; RELOCK and the end of the Open time
end it; an unlock of another length, in another state or while locked out changes neither the state nor the count. -/
def Obligations.SecurityAndLifecycle : Prop :=
  (∀ s w val va vb, s.serves w 0x1625 → s.dev = 1 → s.svnFused < val → val ≤ 32 → s.imageCause 0 va true = 0 → s.imageCause 1 vb true = 0 →
    val ≤ imageSvn (s.flash 0) → val ≤ imageSvn (s.flash 1) →
    EndsIn (.svn w val va vb) s fun t =>
      t.rd fBOOT_SVNF_SVNBITS 0 = burnTo val 32 (s.rd fBOOT_SVNF_SVNBITS 0) % 2 ^ 32)
  ∧ (∀ s w val va vb, s.serves w 0x1625 → val < 256 → s.dev ≠ 1 ∨ val ≤ s.svnFused ∨ s.imageCause 0 va true ≠ 0 →
    EndsIn (.svn w val va vb) s fun t => t.rd fBOOT_SVNF_SVNBITS 0 = s.rd fBOOT_SVNF_SVNBITS 0)
  ∧ (∀ s w val va vb, callerOk w = true → val < 256 →
    exec (.svn w val va vb) s = .next (s.call { writeCmd w 0x1625 0 (toBeBytes 1 val) with va := va, vb := vb }))
  ∧ (∀ s w, callerOk w = true →
    exec (.challenge w) s = .next (s.call { who := w, op := 1, index := 0x1621, sub := 0 })
    ∧ exec (.relock w) s = .next (s.call (writeCmd w 0x1623 0 [1])))
  ∧ (∀ s w bytes good, callerOk w = true → bytes.length ≤ 1024 →
    exec (.unlock w bytes good) s = .next (s.call { writeCmd w 0x1622 0 bytes with good := good }))
  ∧ (∀ s w bytes good, s.serves w 0x1622 → bytes.length ≤ 1024 →
    bytes.length ≠ 256 ∨ s.rd fBOOT_STAT_LC 0 ≠ 0 ∨ s.rdb fBOOT_STAT_LOCKOUT 0 = true →
    EndsIn (.unlock w bytes good) s fun t =>
      t.rd fBOOT_STAT_LC 0 = s.rd fBOOT_STAT_LC 0 ∧ t.rd fBOOT_STAT_LOCKOUT 0 = s.rd fBOOT_STAT_LOCKOUT 0)
  ∧ (∀ s w, s.serves w 0x1621 →
    EndsIn (.challenge w) s fun t =>
      t.boot.nonce = some ((Config.nonce s.free).toNat, s.pwr.ns) ∧ t.free = s.free + 1
      ∧ (w.path = 2 → t.out =
        .cci w.port 0 (s.body 2 1 w.tag 0x1621 0 0 0 0 (s.challengeBytes (Config.nonce s.free).toNat)) :: s.out))
  ∧ (∀ s w bytes good, s.serves w 0x1622 → bytes.length = 256 → s.rd fBOOT_STAT_LC 0 = 0 → s.rdb fBOOT_STAT_LOCKOUT 0 = false →
    s.unlockGood bytes good = true →
    EndsIn (.unlock w bytes good) s fun t =>
      t.rd fBOOT_STAT_LC 0 = 1 ∧ t.boot.refused = 0 ∧ t.boot.openEnd = s.pwr.ns + beBytes ((bytes.drop 48).take 4) * nsPerSec)
  ∧ (∀ s w bytes good, s.serves w 0x1622 → bytes.length = 256 → s.rd fBOOT_STAT_LC 0 = 0 → s.rdb fBOOT_STAT_LOCKOUT 0 = false →
    s.unlockGood bytes good = false →
    EndsIn (.unlock w bytes good) s fun t =>
      t.rd fBOOT_STAT_LC 0 = 0 ∧ t.boot.refused = s.boot.refused + 1
      ∧ t.rd fBOOT_STAT_LOCKOUT 0 = b2n (decide (3 ≤ s.boot.refused + 1)))
  ∧ (∀ s w, s.serves w 0x1623 → s.rd fBOOT_STAT_LC 0 = 1 →
    EndsIn (.relock w) s fun t => t.rd fBOOT_STAT_LC 0 = 0 ∧ t.headSeq = (s.headSeq + 1) % 2 ^ 64)
  ∧ (∀ s w, s.serves w 0x1623 → s.rd fBOOT_STAT_LC 0 ≠ 1 → EndsIn (.relock w) s fun t => t.rd fBOOT_STAT_LC 0 = s.rd fBOOT_STAT_LC 0)
  ∧ (∀ s, s.rd fBOOT_STAT_LC 0 = 1 →
    EndsIn .openExpire s fun t => t.rd fBOOT_STAT_LC 0 = 0 ∧ t.headSeq = (s.headSeq + 1) % 2 ^ 64)
  ∧ (∀ s, s.rd fBOOT_STAT_LC 0 ≠ 1 → exec .openExpire s = .next s)
  ∧ (∀ (s : State), s.pwr.aux = true →
    EndsIn .jtagChallenge s fun t =>
      t.boot.nonce = some ((Config.nonce s.free).toNat, s.pwr.ns) ∧ t.tap.ir = 0x21
      ∧ t.out = .tdo (leBytes (s.challengeBytes (Config.nonce s.free).toNat)) 384 :: s.out)
  ∧ (∀ s bits good, bits < 2 ^ 2048 →
    (s.pwr.aux = true → exec (.jtagUnlock bits good) s = .next ((s.tapIr 0x22 .device).unlock (toLeBytes 256 bits) good true).2)
    ∧ (s.pwr.aux = false → exec (.jtagUnlock bits good) s = .next s ∧ exec .jtagChallenge s = .next s))
  ∧ (∀ s bits good, bits < 2 ^ 2048 → s.pwr.aux = true → s.rd fBOOT_STAT_LC 0 ≠ 0 ∨ s.rdb fBOOT_STAT_LOCKOUT 0 = true →
    EndsIn (.jtagUnlock bits good) s fun t =>
      t.rd fBOOT_STAT_LC 0 = s.rd fBOOT_STAT_LC 0 ∧ t.tap.ir = 0x22 ∧ t.rd fBOOT_STAT_LOCKOUT 0 = s.rd fBOOT_STAT_LOCKOUT 0)
  ∧ (∀ s bits good, bits < 2 ^ 2048 → s.pwr.aux = true → s.rd fBOOT_STAT_LC 0 = 0 → s.rdb fBOOT_STAT_LOCKOUT 0 = false →
    (s.unlockGood (toLeBytes 256 bits) good = true →
      EndsIn (.jtagUnlock bits good) s fun t =>
        t.rd fBOOT_STAT_LC 0 = 1 ∧ t.tap.ir = 0x22 ∧ t.headSeq = (s.headSeq + 1) % 2 ^ 64)
    ∧ (s.unlockGood (toLeBytes 256 bits) good = false →
      EndsIn (.jtagUnlock bits good) s fun t =>
        t.rd fBOOT_STAT_LC 0 = 0 ∧ t.tap.ir = 0x22 ∧ t.boot.refused = s.boot.refused + 1))

/-- Retired devices (R483): RETIRE with the value 0x5245_5449 burns the retired fuse, and is accepted only in Standby while the state is Open; a
Retired device refuses STATECMD 2 with abort 0x02, and ignores AUTOSTART: port wave 0, with which it would enter Operational, does
not start. -/
def Obligations.RetiredDevicesCarryNoTraffic : Prop :=
  (∀ s w, s.serves w 0x1626 → s.dev = 1 → s.rd fBOOT_STAT_LC 0 = 1 →
    EndsIn (.retire w 0x52455449) s fun t => t.rd fBOOT_STAT_LC 0 = 2 ∧ t.rd fBOOT_LCF_RETIRED 0 = 1)
  ∧ (∀ s w val, s.serves w 0x1626 → val < 2 ^ 32 → val ≠ 0x52455449 ∨ s.dev ≠ 1 ∨ s.rd fBOOT_STAT_LC 0 ≠ 1 →
    EndsIn (.retire w val) s fun t =>
      t.rd fBOOT_STAT_LC 0 = s.rd fBOOT_STAT_LC 0 ∧ t.rd fBOOT_LCF_RETIRED 0 = s.rd fBOOT_LCF_RETIRED 0)
  ∧ (∀ s w, s.serves w 0x1101 → w.path = 2 → s.rd fBOOT_STAT_LC 0 = 2 →
    EndsIn (.enterOperational w) s fun t =>
      t.pwr = s.pwr ∧ t.dev = s.dev ∧ t.out = .cci w.port 0 (s.body 2 2 w.tag 0x1101 0 0 2 s.headSeq []) :: s.out)
  ∧ (∀ s, s.rd fBOOT_STAT_LC 0 = 2 → s.pwr.oper = false → exec (.portWave 0 none) s = .next s)

/-- The TAP (R484 to R486): it works while VDD_AUX stands; each instruction selects its register and drives the pins as it says, and its scan
shifts out what was captured; SYSACC starts an access of the debug class at Update-DR. -/
def Obligations.TapInstructions : Prop :=
  (∀ (s : State), s.pwr.aux = true →
    exec .tapReset s = .next { s with tap := { s.tap with ir := 1, drive := .device } }
    ∧ exec .idcode s = .next
      (State.send { s with tap := { s.tap with ir := 1, drive := .device } }
        (.tdo (s.rd fBOOT_ID_STEPPING 0 * 2 ^ 28 + 0x0D80 * 2 ^ 12 + 0x4F3 * 2 + 1) 32)))
  ∧ (∀ (s : State) pins upd, s.pwr.aux = true → pins < 2 ^ chainCells → upd < 2 ^ chainCells →
    EndsIn (.extest pins upd) s (fun t =>
      t.regs = s.regs ∧ t.tap = { s.tap with ir := 0, drive := .chain, chain := upd } ∧ t.out = .tdo pins chainCells :: s.out)
    ∧ EndsIn (.samplePreload pins upd) s (fun t =>
      t.regs = s.regs ∧ t.tap = { s.tap with ir := 2, drive := .device, chain := upd } ∧ t.out = .tdo pins chainCells :: s.out))
  ∧ (∀ (s : State) tdi n, s.pwr.aux = true → tdi < 2 ^ n → 0 < n →
    EndsIn (.clamp tdi n) s (fun t =>
      t.regs = s.regs ∧ t.tap = { s.tap with ir := 4, drive := .chain, bypass := tdi / 2 ^ (n - 1) % 2 }
      ∧ t.out = .tdo (2 * tdi % 2 ^ n) n :: s.out)
    ∧ EndsIn (.highz tdi n) s (fun t =>
      t.regs = s.regs ∧ t.tap = { s.tap with ir := 5, drive := .highz, bypass := tdi / 2 ^ (n - 1) % 2 }
      ∧ t.out = .tdo (2 * tdi % 2 ^ n) n :: s.out)
    ∧ (∀ code, code < 256 → tapCode code = false →
      EndsIn (.bypass code tdi n) s fun t =>
        t.regs = s.regs ∧ t.tap = { s.tap with ir := code, drive := .device, bypass := tdi / 2 ^ (n - 1) % 2 }
        ∧ t.out = .tdo (2 * tdi % 2 ^ n) n :: s.out))
  ∧ (∀ (s : State) pins upd tdi n code, s.pwr.aux = false → pins < 2 ^ chainCells → upd < 2 ^ chainCells → tdi < 2 ^ n → code < 256 →
    tapCode code = false →
    exec (.extest pins upd) s = .next s ∧ exec (.samplePreload pins upd) s = .next s ∧ exec (.clamp tdi n) s = .next s
    ∧ exec (.highz tdi n) s = .next s ∧ exec (.bypass code tdi n) s = .next s)
  ∧ (∀ (s : State), s.pwr.aux = true →
    exec (.clamp 0 0) s = .next ((s.tapIr 4 .chain).bypassScan 0 0) ∧ exec (.highz 0 0) s = .next ((s.tapIr 5 .highz).bypassScan 0 0)
    ∧ (∀ code, code < 256 → tapCode code = false → exec (.bypass code 0 0) s = .next ((s.tapIr code .device).bypassScan 0 0)))
  ∧ (∀ (s : State) dr, s.pwr.aux = true → dr < 2 ^ 112 →
    exec (.sysacc dr) s = .next (((s.tapIr 0x20 .device).send (.tdo s.tap.sysacc 112)).sysaccStart dr))
  ∧ (∀ (s : State) dr, s.pwr.aux = true → dr < 2 ^ 112 → s.tap.busy = false → s.dev ≠ 0 →
    (bitsOf dr 0 64 % 4 ≠ 0 →
      EndsIn (.sysacc dr) s fun t =>
        t.tap.sysacc = sysaccSet dr (bitsOf dr 64 32) 3 ∧ t.tap.ir = 0x20 ∧ t.out = .tdo s.tap.sysacc 112 :: s.out)
    ∧ (bitsOf dr 0 64 = fTEN_SEL_TI.addr → bitOf dr 97 = true → s.openGate → SMap.get 0 s.latch fTEN_SEL_TI.addr = 0 →
      (bitOf dr 96 = false →
        EndsIn (.sysacc dr) s fun t => t.tap.sysacc = sysaccSet dr (s.rd fTEN_SEL_TI 0) 1 ∧ t.rd fTEN_SEL_TI 0 = s.rd fTEN_SEL_TI 0)
      ∧ (bitOf dr 96 = true → bitsOf dr 64 32 < 8192 →
        EndsIn (.sysacc dr) s fun t => t.rd fTEN_SEL_TI 0 = bitsOf dr 64 32 ∧ t.tap.sysacc = sysaccSet dr (bitsOf dr 64 32) 1)))
  ∧ (∀ (s : State) dr, s.pwr.aux = true → dr < 2 ^ 112 → s.tap.busy = true →
    EndsIn (.sysacc dr) s fun t => t.tap.sysacc = s.tap.sysacc ∧ t.out = .tdo s.tap.sysacc 112 :: s.out)
  ∧ (∀ (s : State), s.pwr.aux = false →
    exec .tapReset s = .next s ∧ exec .idcode s = .next s ∧ exec .jtagChallenge s = .next s
    ∧ (∀ dr, dr < 2 ^ 112 → exec (.sysacc dr) s = .next s))
end

