-- ==== Sys2Proof/Laws/SMap.lean ====
section
/-! SUPPORT. Sparse maps: a read after a write, and the canonical form. -/

namespace Sys2Proof.Machine

variable {α : Type}

@[simp] theorem SMap.get_nil (d : α) (k : Nat) : SMap.get d [] k = d := rfl

theorem SMap.get_cons (d : α) (j : Nat) (v : α) (m : SMap α) (k : Nat) :
    SMap.get d ((j, v) :: m) k = if j = k then v else SMap.get d m k := rfl

theorem SMap.get_insert (d : α) (k : Nat) (v : α) (m : SMap α) (j : Nat) :
    SMap.get d (SMap.insert k v m) j = if k = j then v else SMap.get d m j := by
  induction m with
  | nil => simp [SMap.insert, SMap.get]
  | cons e m ih =>
    obtain ⟨i, w⟩ := e
    simp only [SMap.insert]
    split
    · simp only [SMap.get]
    · split
      · subst_vars
        simp only [SMap.get]
        by_cases h : i = j <;> simp [h]
      · simp only [SMap.get, ih]
        by_cases h : i = j
        · subst h
          have : ¬ k = i := by omega
          simp [this]
        · simp [h]

theorem SMap.get_erase (d : α) (m : SMap α) (k j : Nat) :
    SMap.get d (SMap.erase m k) j = if k = j then d else SMap.get d m j := by
  induction m with
  | nil => simp [SMap.erase, SMap.get]
  | cons e m ih =>
    obtain ⟨i, w⟩ := e
    simp only [SMap.erase] at ih ⊢
    by_cases hi : i = k
    · subst hi
      rw [List.filter_cons_of_neg (by simp), ih]
      by_cases h : i = j <;> simp [SMap.get, h]
    · rw [List.filter_cons_of_pos (by simpa using hi)]
      simp only [SMap.get, ih]
      by_cases h : i = j
      · subst h
        have : ¬ k = i := fun h => hi h.symm
        simp [this]
      · simp [h]

/-- A read after a write: the written key reads as what was written, every other key as before. -/
theorem SMap.get_set [DecidableEq α] (d : α) (m : SMap α) (k : Nat) (v : α) (j : Nat) :
    SMap.get d (SMap.set d m k v) j = if k = j then v else SMap.get d m j := by
  unfold SMap.set
  split
  · rename_i h
    rw [SMap.get_erase, h]
  · rw [SMap.get_insert]

@[simp] theorem SMap.get_set_same [DecidableEq α] (d : α) (m : SMap α) (k : Nat) (v : α) :
    SMap.get d (SMap.set d m k v) k = v := by simp [SMap.get_set]

theorem SMap.get_set_ne [DecidableEq α] (d : α) (m : SMap α) {k j : Nat} (v : α) (h : k ≠ j) :
    SMap.get d (SMap.set d m k v) j = SMap.get d m j := by simp [SMap.get_set, h]

theorem SMap.get_mod [DecidableEq α] (d : α) (m : SMap α) (k : Nat) (f : α → α) (j : Nat) :
    SMap.get d (SMap.mod d m k f) j = if k = j then f (SMap.get d m k) else SMap.get d m j := by
  simp [SMap.mod, SMap.get_set]

@[simp] theorem SMap.get_mod_same [DecidableEq α] (d : α) (m : SMap α) (k : Nat) (f : α → α) :
    SMap.get d (SMap.mod d m k f) k = f (SMap.get d m k) := by simp [SMap.get_mod]

/-! ### The canonical form -/

/-- Keys rise from above `lo` where they rise from above something higher. -/
theorem SMap.rising_weaken {lo : Option Nat} {i : Nat} {m : SMap α} (h : SMap.rising (some i) m = true)
    (hlo : ∀ j, lo = some j → j ≤ i) : SMap.rising lo m = true := by
  cases m with
  | nil => cases lo <;> rfl
  | cons e m =>
    obtain ⟨j, v⟩ := e
    cases lo with
    | none => simp only [SMap.rising, Bool.and_eq_true, decide_eq_true_eq] at h ⊢; exact h.2
    | some l =>
      have := hlo l rfl
      simp only [SMap.rising, Bool.and_eq_true, decide_eq_true_eq] at h ⊢
      exact ⟨by omega, h.2⟩

theorem SMap.rising_filter {lo : Option Nat} {m : SMap α} (p : Nat × α → Bool) (h : SMap.rising lo m = true) :
    SMap.rising lo (m.filter p) = true := by
  induction m generalizing lo with
  | nil => exact h
  | cons e m ih =>
    obtain ⟨j, v⟩ := e
    have hm : SMap.rising (some j) m = true := by
      cases lo <;> simp only [SMap.rising, Bool.and_eq_true] at h
      · exact h
      · exact h.2
    by_cases hp : p (j, v) = true
    · rw [List.filter_cons_of_pos hp]
      cases lo with
      | none => simpa only [SMap.rising] using ih hm
      | some i =>
        simp only [SMap.rising, Bool.and_eq_true] at h ⊢
        exact ⟨h.1, ih hm⟩
    · rw [List.filter_cons_of_neg hp]
      refine SMap.rising_weaken (ih hm) ?_
      intro i hi
      subst hi
      simp only [SMap.rising, Bool.and_eq_true, decide_eq_true_eq] at h
      omega

theorem SMap.rising_insert {lo : Option Nat} {m : SMap α} (k : Nat) (v : α) (h : SMap.rising lo m = true)
    (hlo : ∀ j, lo = some j → j < k) : SMap.rising lo (SMap.insert k v m) = true := by
  induction m generalizing lo with
  | nil =>
    cases lo with
    | none => rfl
    | some i => simpa [SMap.insert, SMap.rising] using hlo i rfl
  | cons e m ih =>
    obtain ⟨j, w⟩ := e
    have hm : SMap.rising (some j) m = true := by
      cases lo <;> simp only [SMap.rising, Bool.and_eq_true] at h
      · exact h
      · exact h.2
    have hj : ∀ i, lo = some i → i < j := by
      intro i hi
      subst hi
      simp only [SMap.rising, Bool.and_eq_true, decide_eq_true_eq] at h
      exact h.1
    have wrap : ∀ (l : SMap α) (i : Nat), SMap.rising (some i) l = true → ∀ (x : α), (∀ j, lo = some j → j < i) →
        SMap.rising lo ((i, x) :: l) = true := by
      intro l i hl x hi
      cases lo with
      | none => exact hl
      | some a => simp only [SMap.rising, Bool.and_eq_true, decide_eq_true_eq]; exact ⟨hi a rfl, hl⟩
    simp only [SMap.insert]
    split
    · rename_i hk
      exact wrap _ _ (by simp only [SMap.rising, Bool.and_eq_true, decide_eq_true_eq]; exact ⟨hk, hm⟩) _ hlo
    · split
      · subst_vars
        exact wrap _ _ hm _ hlo
      · refine wrap _ _ (ih hm ?_) _ hj
        intro i hi
        simp only [Option.some.injEq] at hi
        omega

theorem SMap.all_insert {m : SMap α} (p : Nat × α → Bool) (k : Nat) (v : α) (h : m.all p = true)
    (hk : p (k, v) = true) : (SMap.insert k v m).all p = true := by
  induction m with
  | nil => simpa [SMap.insert] using hk
  | cons e m ih =>
    obtain ⟨j, w⟩ := e
    simp only [List.all_cons, Bool.and_eq_true] at h
    simp only [SMap.insert]
    split
    · simp [hk, h.1, h.2]
    · split
      · simp [hk, h.2]
      · simp [h.1, ih h.2]

theorem SMap.all_filter {m : SMap α} (p q : Nat × α → Bool) (h : m.all p = true) : (m.filter q).all p = true := by
  simp only [List.all_eq_true, List.mem_filter] at h ⊢
  exact fun x hx => h x hx.1

theorem SMap.rising_set [DecidableEq α] (d : α) {m : SMap α} (k : Nat) (v : α) (h : SMap.rising none m = true) :
    SMap.rising none (SMap.set d m k v) = true := by
  unfold SMap.set SMap.erase
  split
  · exact SMap.rising_filter _ h
  · exact SMap.rising_insert k v h (by simp)

/-- A write keeps the canonical form. -/
theorem SMap.wf_set [DecidableEq α] (d : α) {m : SMap α} (k : Nat) (v : α) (h : SMap.wf d m = true) :
    SMap.wf d (SMap.set d m k v) = true := by
  simp only [SMap.wf, Bool.and_eq_true] at h ⊢
  refine ⟨SMap.rising_set d k v h.1, ?_⟩
  unfold SMap.set SMap.erase
  split
  · exact SMap.all_filter _ _ h.2
  · rename_i hv
    exact SMap.all_insert _ _ _ h.2 (by simpa using hv)

theorem SMap.wf_filter [DecidableEq α] (d : α) {m : SMap α} (p : Nat × α → Bool) (h : SMap.wf d m = true) :
    SMap.wf d (m.filter p) = true := by
  simp only [SMap.wf, Bool.and_eq_true] at h ⊢
  exact ⟨SMap.rising_filter _ h.1, SMap.all_filter _ _ h.2⟩

/-- What `all` says of a map's entries holds of what it reads as, where it holds of the default. -/
theorem SMap.get_all (p : α → Prop) (d : α) {m : SMap α} (h : ∀ e ∈ m, p e.2) (hd : p d) (k : Nat) : p (SMap.get d m k) := by
  induction m with
  | nil => exact hd
  | cons e m ih =>
    obtain ⟨j, v⟩ := e
    simp only [SMap.get]
    split
    · exact h (j, v) (by simp)
    · exact ih fun e he => h e (by simp [he])

end Sys2Proof.Machine
end

