-- ==== Sys2Proof/Laws/Ops.lean ====
section
/-! SUPPORT. What the shared operations over registers do: a read after a write, and that the register store stays canonical. -/

namespace Sys2Proof.Machine

/-! ### Reads after writes -/

/-- Reads after `wr`: the field written reads as the value cut to its width, every other field and instance as before. -/
theorem State.rd_wr (s : State) (f : Fld) (i v : Nat) (g : Fld) (j : Nat) :
    (s.wr f i v).rd g j =
      if f.key = g.key ∧ i = j then (if f.resetAt i = g.resetAt j ∨ v % 2 ^ f.width ≠ f.resetAt i then v % 2 ^ f.width else g.resetAt j)
      else s.rd g j := by
  simp only [State.rd, State.wr, SMap.get_mod]
  by_cases hk : f.key = g.key
  · simp only [hk, if_true, true_and]
    by_cases hi : i = j
    · subst hi
      simp only [if_true, SMap.set]
      split
      · rename_i hv
        simp only [SMap.get_erase, if_true, hv]
        by_cases hr : f.resetAt i = g.resetAt i <;> simp [hr]
      · rename_i hv
        simp [SMap.get_insert, hv]
    · simp only [hi, if_false, SMap.set]
      split
      · simp [SMap.get_erase, hi]
      · simp [SMap.get_insert, hi]
  · simp [hk]

/-- The field written reads as the value cut to its width. -/
@[simp] theorem State.rd_wr_same (s : State) (f : Fld) (i v : Nat) : (s.wr f i v).rd f i = v % 2 ^ f.width := by
  simp [State.rd_wr]

/-- Another field reads as before. -/
theorem State.rd_wr_key (s : State) (f : Fld) (i v : Nat) (g : Fld) (j : Nat) (h : f.key ≠ g.key) :
    (s.wr f i v).rd g j = s.rd g j := by simp [State.rd_wr, h]

/-- Another instance reads as before. -/
theorem State.rd_wr_inst (s : State) (f g : Fld) {i j : Nat} (v : Nat) (h : i ≠ j) : (s.wr f i v).rd g j = s.rd g j := by
  simp [State.rd_wr, h]

@[simp] theorem State.rdb_wrb_same (s : State) (f : Fld) (i : Nat) (b : Bool) (h : f.width = 1) :
    (s.wrb f i b).rdb f i = b := by
  cases b <;> simp [State.rdb, State.wrb, h, b2n]

theorem State.rd_wrb_key (s : State) (f : Fld) (i : Nat) (b : Bool) (g : Fld) (j : Nat) (h : f.key ≠ g.key) :
    (s.wrb f i b).rd g j = s.rd g j := State.rd_wr_key s f i _ g j h

theorem State.rd_wrb_inst (s : State) (f g : Fld) {i j : Nat} (b : Bool) (h : i ≠ j) :
    (s.wrb f i b).rd g j = s.rd g j := State.rd_wr_inst s f g _ h

theorem State.rd_inc_key (s : State) (f : Fld) (i n : Nat) (g : Fld) (j : Nat) (h : f.key ≠ g.key) :
    (s.inc f i n).rd g j = s.rd g j := State.rd_wr_key s f i _ g j h

/-- A register cleared in every instance reads its reset value. -/
@[simp] theorem State.rd_clr_same (s : State) (f : Fld) (j : Nat) : (s.clr f).rd f j = f.resetAt j := by
  simp [State.rd, State.clr, SMap.get_erase]

theorem State.rd_clr_key (s : State) (f g : Fld) (j : Nat) (h : f.key ≠ g.key) : (s.clr f).rd g j = s.rd g j := by
  simp [State.rd, State.clr, SMap.get_erase, h]

/-! ### The register store stays canonical -/

@[simp] theorem State.wr_canon (s : State) (f : Fld) (i v : Nat) (h : canonRegs s.regs = true) :
    canonRegs (s.wr f i v).regs = true := by
  simp only [canonRegs, Bool.and_eq_true, List.all_eq_true] at h ⊢
  have hg : SMap.rising none (SMap.get [] s.regs f.key) = true := by
    refine SMap.get_all (fun m => SMap.rising none m = true) [] ?_ rfl f.key
    exact fun e he => h.2 e he
  have hr := SMap.rising_set (f.resetAt i) i (v % 2 ^ f.width) hg
  refine ⟨SMap.wf_set _ _ _ h.1, ?_⟩
  simp only [State.wr, SMap.mod]
  generalize SMap.set (f.resetAt i) (SMap.get [] s.regs f.key) i (v % 2 ^ f.width) = m at hr
  unfold SMap.set
  split
  · exact fun e he => h.2 e (by simp only [SMap.erase, List.mem_filter] at he; exact he.1)
  · have := SMap.all_insert (m := s.regs) (fun e => SMap.rising none e.2) f.key _ (by simpa [List.all_eq_true] using h.2) hr
    simpa [List.all_eq_true] using this

@[simp] theorem State.clr_canon (s : State) (f : Fld) (h : canonRegs s.regs = true) :
    canonRegs (s.clr f).regs = true := by
  simp only [canonRegs, Bool.and_eq_true, List.all_eq_true] at h ⊢
  exact ⟨SMap.wf_filter _ _ h.1, fun e he => h.2 e (by simp only [State.clr, SMap.erase, List.mem_filter] at he; exact he.1)⟩

/-- Registers that a filter keeps. -/
theorem canonRegs_keep (m : SMap (SMap Nat)) (p : Nat → SMap Nat → Bool) (h : canonRegs m = true) :
    canonRegs (SMap.keep m p) = true := by
  simp only [canonRegs, Bool.and_eq_true, List.all_eq_true] at h ⊢
  exact ⟨SMap.wf_filter _ _ h.1, fun e he => h.2 e (by simp only [SMap.keep, List.mem_filter] at he; exact he.1)⟩

/-! ### Sets of parts -/

/-- The set `a` lies within the set `w`. -/
def Within (a w : Nat) : Prop := Nat.land a w = a

theorem Within.mono {a b w : Nat} (h : Within b w) (e : Nat.land a b = a) : Within a w := by
  have h' : b &&& w = b := h
  have e' : a &&& b = a := e
  show a &&& w = a
  rw [← e', Nat.and_assoc, h']

theorem Within.bit {n w : Nat} (h : Within (2 ^ n) w) : w.testBit n = true := by
  have h' : 2 ^ n &&& w = 2 ^ n := h
  have := congrArg (fun m => m.testBit n) h'
  simpa using this

theorem Within.bits {a w : Nat} (h : Within a w) (n : Nat) (hn : a.testBit n = true) : w.testBit n = true := by
  have h' : a &&& w = a := h
  have := congrArg (fun m => m.testBit n) h'
  simpa [hn] using this

theorem Within.self (w : Nat) : Within w w := Nat.and_self w

theorem Within.or {a b w : Nat} (ha : Within a w) (hb : Within b w) : Within (a ||| b) w := by
  have ha' : a &&& w = a := ha
  have hb' : b &&& w = b := hb
  show (a ||| b) &&& w = a ||| b
  rw [Nat.and_or_distrib_right, ha', hb']

theorem Within.left {a b w : Nat} (h : Within (a ||| b) w) : Within a w :=
  h.mono (by show a &&& (a ||| b) = a; exact Nat.eq_of_testBit_eq fun i => by simp only [Nat.testBit_and, Nat.testBit_or]; cases a.testBit i <;> simp)

theorem Within.right {a b w : Nat} (h : Within (a ||| b) w) : Within b w :=
  h.mono (by show b &&& (a ||| b) = b; exact Nat.eq_of_testBit_eq fun i => by simp only [Nat.testBit_and, Nat.testBit_or]; cases b.testBit i <;> simp)

/-- The window of a field, as a set of parts. -/
def fbit (f : Fld) : Nat := 2 ^ windowBit f.key

/-- The windows of a list of fields, as a set of parts. -/
def fbits : List Fld → Nat
  | [] => 0
  | f :: fs => fbit f ||| fbits fs

/-- The registers of every window. -/
def allRegs : Nat := 0x1FFFFFFC00000000

theorem windowBit_range (k : Nat) : 34 ≤ windowBit k ∧ windowBit k ≤ 60 := by
  unfold windowBit; split <;> omega

theorem fbit_all {w : Nat} (f : Fld) (h : Within allRegs w) : Within (fbit f) w := by
  refine h.mono ?_
  have := windowBit_range f.key
  unfold fbit
  generalize windowBit f.key = n at this
  obtain ⟨h1, h2⟩ := this
  interval_cases n <;> decide

theorem fbits_all {w : Nat} (fs : List Fld) (h : Within allRegs w) : Within (fbits fs) w := by
  induction fs with
  | nil => exact Nat.zero_and w
  | cons f fs ih => exact (fbit_all f h).or ih

theorem fbits_mem {w : Nat} {f : Fld} {fs : List Fld} (hm : f ∈ fs) (h : Within (fbits fs) w) : Within (fbit f) w := by
  induction fs with
  | nil => cases hm
  | cons g fs ih =>
    rcases List.mem_cons.1 hm with rfl | hm
    · exact h.left
    · exact ih hm h.right

/-- The windows of the register word at `a`. -/
theorem fieldsAt_within {w : Nat} (a : Nat) (h : Within (2 ^ windowBit (32 * a)) w) : Within (fbits (fieldsAt a)) w := by
  have one : ∀ (b : Nat) (ds : List RegDesc), (ds.all fun d => d.fields.all fun f => windowBit f.key == b) = true →
      ∀ d ∈ ds, Within (fbits d.fields) (2 ^ b) := by
    intro b ds hd d hm
    have hf := List.all_eq_true.1 hd d hm
    generalize d.fields = fs at hf
    induction fs with
    | nil => exact Nat.zero_and _
    | cons f fs ih =>
      simp only [List.all_cons, Bool.and_eq_true, beq_iff_eq] at hf
      refine Within.or ?_ (ih hf.2)
      show Within (2 ^ windowBit f.key) _
      rw [hf.1]
      exact Within.self _
  have all : ∀ d ∈ windowTable a, Within (fbits d.fields) (2 ^ windowBit (32 * a)) := by
    unfold windowTable
    split
    · rename_i ha
      have hq : a / 0x100000 < 32 := by omega
      have hw : a / 0x100000 < 24 → windowBit (32 * a) = 34 + a / 0x100000 := by
        intro h; unfold windowBit; rw [if_pos (by omega)]; omega
      generalize a / 0x100000 = q at hq hw
      split
      on_goal 25 => exact fun d hm => by cases hm
      all_goals (rw [hw (by decide)]; exact one _ _ (by decide +kernel))
    · rename_i ha
      have hw : ∀ q, a / 0x100000000 = q → 0x10 ≤ q → q < 0x51 → windowBit (32 * a) = 58 + min 2 (q / 16 - 1) := by
        intro q h h1 h2; unfold windowBit; rw [if_neg (by omega)]; omega
      generalize hq : a / 0x100000000 = q at hw
      split
      on_goal 5 => exact fun d hm => by cases hm
      all_goals (rw [hw _ rfl (by decide) (by decide)]; exact one _ _ (by decide +kernel))
  unfold fieldsAt
  split
  · rename_i d e
    exact h.mono (all d (List.mem_of_find?_eq_some e))
  · exact Nat.zero_and _

/-- The windows of one word of a register that lies within a window. -/
theorem wordFields_within {w base word n : Nat} (hn : ∀ k < n, windowBit (32 * (base + 4 * k)) = windowBit (32 * base))
    (h : Within (2 ^ windowBit (32 * base)) w) : Within (fbits (wordFields base word n)) w := by
  unfold wordFields
  split
  · rename_i hk
    exact fieldsAt_within _ (by rw [hn word hk]; exact h)
  · exact Nat.zero_and _

/-! ### What every operation keeps

`Keeps w z s`: the queue of `s` is that of `z`, its register store is canonical where that of `z` is, and outside the parts of `w` it
agrees with `z`.  One lemma for each operation of the model says that it keeps this for every `w` that holds the parts the operation
may change; they stand in the files Keeps*.lean, by the file of the operation. -/

/-- The queue and everything outside the parts of `w` is as it was, and the register store is as canonical as it was. -/
def Keeps (w : Nat) (z s : State) : Prop :=
  s.pending = z.pending ∧ (canonRegs z.regs = true → canonRegs s.regs = true) ∧ s.outside w = z.outside w

theorem Keeps.refl (w : Nat) (z : State) : Keeps w z z := ⟨rfl, id, rfl⟩

theorem Keeps.trans {w : Nat} {z s t : State} (h : Keeps w z s) (h' : Keeps w s t) : Keeps w z t :=
  ⟨h'.1.trans h.1, fun c => h'.2.1 (h.2.1 c), h'.2.2.trans h.2.2⟩

/-- A field of a window outside `w` reads as before. -/
theorem outside_rd {w : Nat} {s t : State} (h : t.outside w = s.outside w) (f : Fld) (i : Nat)
    (hf : w.testBit (windowBit f.key) = false) : t.rd f i = s.rd f i := by
  have hr : (t.regs.filter fun e => !w.testBit (windowBit e.1)) = s.regs.filter fun e => !w.testBit (windowBit e.1) :=
    congrArg State.regs h
  have key : ∀ m : SMap (SMap Nat), SMap.get [] (m.filter fun e => !w.testBit (windowBit e.1)) f.key = SMap.get [] m f.key := by
    intro m
    induction m with
    | nil => rfl
    | cons e m ih =>
      obtain ⟨j, x⟩ := e
      by_cases he : j = f.key
      · simp [SMap.get_cons, he, hf]
      · by_cases hb : w.testBit (windowBit j) = true
        · simp [hb, SMap.get_cons, he, ih]
        · simp [hb, SMap.get_cons, he, ih]
  unfold State.rd
  rw [← key t.regs, hr, key s.regs]

theorem outside_wr {w : Nat} (s : State) {f : Fld} (i v : Nat) (h : Within (fbit f) w) :
    (s.wr f i v).outside w = s.outside w := by
  have hb : w.testBit (windowBit f.key) = true := h.bit
  have key : ∀ (m : SMap (SMap Nat)) (u : SMap Nat),
      (SMap.set [] m f.key u).filter (fun e => !w.testBit (windowBit e.1)) = m.filter fun e => !w.testBit (windowBit e.1) := by
    intro m u
    unfold SMap.set
    split
    · unfold SMap.erase
      rw [List.filter_filter]
      refine List.filter_congr fun e _ => ?_
      by_cases he : e.1 = f.key <;> simp [he, hb]
    · induction m with
      | nil => simp [SMap.insert, hb]
      | cons e m ih =>
        obtain ⟨j, x⟩ := e
        unfold SMap.insert
        split
        · simp [hb]
        · split
          · rename_i hj; subst hj; simp [hb]
          · by_cases hj : w.testBit (windowBit j) = true <;> simp [hj, ih]
  simp only [State.outside, State.wr, SMap.mod, key]

theorem outside_clr {w : Nat} (s : State) {f : Fld} (h : Within (fbit f) w) : (s.clr f).outside w = s.outside w := by
  have hb : w.testBit (windowBit f.key) = true := h.bit
  have : (SMap.erase s.regs f.key).filter (fun e => !w.testBit (windowBit e.1)) = s.regs.filter fun e => !w.testBit (windowBit e.1) := by
    unfold SMap.erase
    rw [List.filter_filter]
    refine List.filter_congr fun e _ => ?_
    by_cases he : e.1 = f.key <;> simp [he, hb]
  simp only [State.outside, State.clr, this]

theorem Keeps.ite {w : Nat} {z s t : State} {c : Prop} [Decidable c] (h : Keeps w z s) (h' : Keeps w z t) :
    Keeps w z (if c then s else t) := by
  split <;> assumption

theorem Keeps.ite2 {α : Type} {w : Nat} {z : State} {c : Prop} [Decidable c] {p q : α × State} (h : Keeps w z p.2)
    (h' : Keeps w z q.2) : Keeps w z (if c then p else q).2 := by
  split <;> assumption

theorem Keeps.ite22 {α β : Type} {w : Nat} {z : State} {c : Prop} [Decidable c] {p q : α × β × State} (h : Keeps w z p.2.2)
    (h' : Keeps w z q.2.2) : Keeps w z (if c then p else q).2.2 := by
  split <;> assumption

/-- The same of an outcome's next state. -/
def KeepsOut (w : Nat) (z : State) (o : Host.Outcome State Fault Refusal) : Prop := ∀ t, o = .next t → Keeps w z t

/-- The same of a state that may be absent. -/
def KeepsOpt (w : Nat) (z : State) (o : Option State) : Prop := ∀ t, o = some t → Keeps w z t

theorem KeepsOut.next {w : Nat} {z s : State} (h : Keeps w z s) : KeepsOut w z (.next s) := fun t e => by cases e; exact h

theorem KeepsOut.fault {w : Nat} {z : State} {f : Fault} : KeepsOut w z (.fault f) := fun t e => by cases e

theorem KeepsOut.onUnit {w : Nat} {z s : State} {b : Bool} (h : Keeps w z s) : KeepsOut w z (onUnit b s) := by
  unfold Sys2Proof.Machine.onUnit; split
  · exact KeepsOut.next h
  · exact KeepsOut.fault

theorem KeepsOut.ite {w : Nat} {z : State} {c : Prop} [Decidable c] {o p : Host.Outcome State Fault Refusal} (h : KeepsOut w z o)
    (h' : KeepsOut w z p) : KeepsOut w z (if c then o else p) := by
  split <;> assumption

theorem KeepsOpt.some {w : Nat} {z s : State} (h : Keeps w z s) : KeepsOpt w z (some s) := fun t e => by cases e; exact h

theorem KeepsOpt.none {w : Nat} {z : State} : KeepsOpt w z none := fun t e => by cases e

theorem KeepsOpt.ite {w : Nat} {z : State} {c : Prop} [Decidable c] {o p : Option State} (h : KeepsOpt w z o)
    (h' : KeepsOpt w z p) : KeepsOpt w z (if c then o else p) := by
  split <;> assumption

theorem KeepsOpt.getD {w : Nat} {z s : State} {o : Option State} (h : KeepsOpt w z o) (h' : Keeps w z s) :
    Keeps w z (o.getD s) := by
  cases o with
  | none => exact h'
  | some t => exact h t rfl

theorem KeepsOpt.map {w : Nat} {z : State} {f : State → State} {o : Option State} (hf : ∀ t, Keeps w z t → Keeps w z (f t))
    (h : KeepsOpt w z o) : KeepsOpt w z (o.map f) := by
  cases o with
  | none => exact KeepsOpt.none
  | some t => exact KeepsOpt.some (hf t (h t rfl))

theorem KeepsOpt.bind {α : Type} {w : Nat} {z : State} {o : Option α} {f : α → Option State} (h : ∀ x, KeepsOpt w z (f x)) :
    KeepsOpt w z (o.bind f) := by
  cases o with
  | none => exact KeepsOpt.none
  | some x => exact h x

theorem KeepsOpt.orElse {w : Nat} {z : State} {o : Option State} {f : Unit → Option State} (h : KeepsOpt w z o)
    (hf : ∀ u, KeepsOpt w z (f u)) : KeepsOpt w z (o.orElse f) := by
  cases o with
  | none => exact hf ()
  | some t => exact h

theorem KeepsOpt.findSome {α : Type} {w : Nat} {z : State} {f : α → Option State} {xs : List α} (h : ∀ x, KeepsOpt w z (f x)) :
    KeepsOpt w z (xs.findSome? f) := by
  intro t e
  obtain ⟨x, -, hx⟩ := List.exists_of_findSome?_eq_some e
  exact h x t hx

/-- The same of the state of a pair that may be absent. -/
def KeepsOptP {α : Type} (w : Nat) (z : State) (o : Option (α × State)) : Prop := ∀ p, o = some p → Keeps w z p.2

theorem KeepsOptP.some {α : Type} {w : Nat} {z : State} {p : α × State} (h : Keeps w z p.2) : KeepsOptP w z (some p) :=
  fun q e => by cases e; exact h

theorem KeepsOptP.none {α : Type} {w : Nat} {z : State} : KeepsOptP w z (none : Option (α × State)) := fun p e => by cases e

theorem KeepsOptP.ite {α : Type} {w : Nat} {z : State} {c : Prop} [Decidable c] {o p : Option (α × State)} (h : KeepsOptP w z o)
    (h' : KeepsOptP w z p) : KeepsOptP w z (if c then o else p) := by
  split <;> assumption

theorem KeepsOpt.bindS {w : Nat} {z : State} {o : Option State} {f : State → Option State}
    (hf : ∀ t, Keeps w z t → KeepsOpt w z (f t)) (h : KeepsOpt w z o) : KeepsOpt w z (o.bind f) := by
  cases o with
  | none => exact KeepsOpt.none
  | some t => exact hf t (h t rfl)

theorem KeepsOut.refused {w : Nat} {z : State} {r : Refusal} : KeepsOut w z (.refused r) := fun t e => by cases e

/-- The state of a triple, once the triple is known. -/
theorem Keeps.snd2_eq {α β : Type} {w : Nat} {z s : State} {d : α × β × State} {a : α} {b : β} (h : Keeps w z d.2.2)
    (e : d = (a, b, s)) : Keeps w z s := by
  subst e; exact h

/-- The state of a pair, once the pair is known. -/
theorem Keeps.snd_eq {α : Type} {w : Nat} {z s : State} {d : α × State} {a : α} (h : Keeps w z d.2) (e : d = (a, s)) :
    Keeps w z s := by
  subst e; exact h

/-! ### An update of a part of the state that is neither the queue nor a register -/

theorem Keeps.set_acq {w : Nat} {z s : State} {v0 : AcqS} (hw : Within 0x800 w) (h : Keeps w z s) :
    Keeps w z { s with acq := v0 } :=
  h.trans ⟨rfl, id, by simp only [State.outside, hw.bits 11 (by decide), if_true]⟩

theorem Keeps.set_arch {w : Nat} {z s : State} {v0 : ArchS} (hw : Within 0x100 w) (h : Keeps w z s) :
    Keeps w z { s with arch := v0 } :=
  h.trans ⟨rfl, id, by simp only [State.outside, hw.bits 8 (by decide), if_true]⟩

theorem Keeps.set_boot {w : Nat} {z s : State} {v0 : BootS} (hw : Within 0x100000000 w) (h : Keeps w z s) :
    Keeps w z { s with boot := v0 } :=
  h.trans ⟨rfl, id, by simp only [State.outside, hw.bits 32 (by decide), if_true]⟩

theorem Keeps.set_chk {w : Nat} {z s : State} {v0 : ChkS} (hw : Within 0x40000 w) (h : Keeps w z s) :
    Keeps w z { s with chk := v0 } :=
  h.trans ⟨rfl, id, by simp only [State.outside, hw.bits 18 (by decide), if_true]⟩

theorem Keeps.set_flm {w : Nat} {z s : State} {v0 : FlmS} (hw : Within 0x400 w) (h : Keeps w z s) :
    Keeps w z { s with flm := v0 } :=
  h.trans ⟨rfl, id, by simp only [State.outside, hw.bits 10 (by decide), if_true]⟩

theorem Keeps.set_flows {w : Nat} {z s : State} {v0 : List Flow} (hw : Within 0x4000 w) (h : Keeps w z s) :
    Keeps w z { s with flows := v0 } :=
  h.trans ⟨rfl, id, by simp only [State.outside, hw.bits 14 (by decide), if_true]⟩

theorem Keeps.set_free {w : Nat} {z s : State} {v0 : Nat} (hw : Within 0x4 w) (h : Keeps w z s) :
    Keeps w z { s with free := v0 } :=
  h.trans ⟨rfl, id, by simp only [State.outside, hw.bits 2 (by decide), if_true]⟩

theorem Keeps.set_ft {w : Nat} {z s : State} {v0 : FtS} (hw : Within 0x80 w) (h : Keeps w z s) :
    Keeps w z { s with ft := v0 } :=
  h.trans ⟨rfl, id, by simp only [State.outside, hw.bits 7 (by decide), if_true]⟩

theorem Keeps.set_kinds {w : Nat} {z s : State} {v0 : Nat} (hw : Within 0x8000000 w) (h : Keeps w z s) :
    Keeps w z { s with kinds := v0 } :=
  h.trans ⟨rfl, id, by simp only [State.outside, hw.bits 27 (by decide), if_true]⟩

theorem Keeps.set_lanes {w : Nat} {z s : State} {v0 : SMap Lane} (hw : Within 0x1000 w) (h : Keeps w z s) :
    Keeps w z { s with lanes := v0 } :=
  h.trans ⟨rfl, id, by simp only [State.outside, hw.bits 12 (by decide), if_true]⟩

theorem Keeps.set_latch {w : Nat} {z s : State} {v0 : SMap Nat} (hw : Within 0x10 w) (h : Keeps w z s) :
    Keeps w z { s with latch := v0 } :=
  h.trans ⟨rfl, id, by simp only [State.outside, hw.bits 4 (by decide), if_true]⟩

theorem Keeps.set_leat {w : Nat} {z s : State} {v0 : SMap Leat} (hw : Within 0x2000 w) (h : Keeps w z s) :
    Keeps w z { s with leat := v0 } :=
  h.trans ⟨rfl, id, by simp only [State.outside, hw.bits 13 (by decide), if_true]⟩

theorem Keeps.set_node {w : Nat} {z s : State} {v0 : Option Nat} (hw : Within 0x20000000 w) (h : Keeps w z s) :
    Keeps w z { s with node := v0 } :=
  h.trans ⟨rfl, id, by simp only [State.outside, hw.bits 29 (by decide), if_true]⟩

theorem Keeps.set_noticeTag {w : Nat} {z s : State} {v0 : Nat} (hw : Within 0x10000000 w) (h : Keeps w z s) :
    Keeps w z { s with noticeTag := v0 } :=
  h.trans ⟨rfl, id, by simp only [State.outside, hw.bits 28 (by decide), if_true]⟩

theorem Keeps.set_notices {w : Nat} {z s : State} {v0 : List Notice} (hw : Within 0x2000000 w) (h : Keeps w z s) :
    Keeps w z { s with notices := v0 } :=
  h.trans ⟨rfl, id, by simp only [State.outside, hw.bits 25 (by decide), if_true]⟩

theorem Keeps.set_out {w : Nat} {z s : State} {v0 : List Out} (hw : Within 0x2 w) (h : Keeps w z s) :
    Keeps w z { s with out := v0 } :=
  h.trans ⟨rfl, id, by simp only [State.outside, hw.bits 1 (by decide), if_true]⟩

theorem Keeps.set_prt {w : Nat} {z s : State} {v0 : PrtS} (hw : Within 0x400000 w) (h : Keeps w z s) :
    Keeps w z { s with prt := v0 } :=
  h.trans ⟨rfl, id, by simp only [State.outside, hw.bits 22 (by decide), if_true]⟩

theorem Keeps.set_pwr {w : Nat} {z s : State} {v0 : PwrS} (hw : Within 0x40 w) (h : Keeps w z s) :
    Keeps w z { s with pwr := v0 } :=
  h.trans ⟨rfl, id, by simp only [State.outside, hw.bits 6 (by decide), if_true]⟩

theorem Keeps.set_run {w : Nat} {z s : State} {v0 : RunS} (hw : Within 0x100000 w) (h : Keeps w z s) :
    Keeps w z { s with run := v0 } :=
  h.trans ⟨rfl, id, by simp only [State.outside, hw.bits 20 (by decide), if_true]⟩

theorem Keeps.set_slots {w : Nat} {z s : State} {v0 : SMap Slot} (hw : Within 0x800000 w) (h : Keeps w z s) :
    Keeps w z { s with slots := v0 } :=
  h.trans ⟨rfl, id, by simp only [State.outside, hw.bits 23 (by decide), if_true]⟩

theorem Keeps.set_spw {w : Nat} {z s : State} {v0 : SpwS} (hw : Within 0x200 w) (h : Keeps w z s) :
    Keeps w z { s with spw := v0 } :=
  h.trans ⟨rfl, id, by simp only [State.outside, hw.bits 9 (by decide), if_true]⟩

theorem Keeps.set_stage {w : Nat} {z s : State} {v0 : SMap Nat} (hw : Within 0x20 w) (h : Keeps w z s) :
    Keeps w z { s with stage := v0 } :=
  h.trans ⟨rfl, id, by simp only [State.outside, hw.bits 5 (by decide), if_true]⟩

theorem Keeps.set_subscr {w : Nat} {z s : State} {v0 : Nat} (hw : Within 0x4000000 w) (h : Keeps w z s) :
    Keeps w z { s with subscr := v0 } :=
  h.trans ⟨rfl, id, by simp only [State.outside, hw.bits 26 (by decide), if_true]⟩

theorem Keeps.set_swc {w : Nat} {z s : State} {v0 : SwcS} (hw : Within 0x8000 w) (h : Keeps w z s) :
    Keeps w z { s with swc := v0 } :=
  h.trans ⟨rfl, id, by simp only [State.outside, hw.bits 15 (by decide), if_true]⟩

theorem Keeps.set_swc_weir {w : Nat} {z s : State} {v0 : SwcS} {v1 : WeirS} (hw : Within 0x18000 w) (h : Keeps w z s) :
    Keeps w z { s with swc := v0, weir := v1 } :=
  h.trans ⟨rfl, id, by simp only [State.outside, hw.bits 15 (by decide), hw.bits 16 (by decide), if_true]⟩

theorem Keeps.set_swc_wm {w : Nat} {z s : State} {v0 : SwcS} {v1 : WmS} (hw : Within 0x88000 w) (h : Keeps w z s) :
    Keeps w z { s with swc := v0, wm := v1 } :=
  h.trans ⟨rfl, id, by simp only [State.outside, hw.bits 15 (by decide), hw.bits 19 (by decide), if_true]⟩

theorem Keeps.set_flm_ten {w : Nat} {z s : State} {v0 : FlmS} {v1 : TenS} (hw : Within 0x200400 w) (h : Keeps w z s) :
    Keeps w z { s with flm := v0, ten := v1 } :=
  h.trans ⟨rfl, id, by simp only [State.outside, hw.bits 10 (by decide), hw.bits 21 (by decide), if_true]⟩

theorem Keeps.set_tap {w : Nat} {z s : State} {v0 : TapS} (hw : Within 0x200000000 w) (h : Keeps w z s) :
    Keeps w z { s with tap := v0 } :=
  h.trans ⟨rfl, id, by simp only [State.outside, hw.bits 33 (by decide), if_true]⟩

theorem Keeps.set_ten {w : Nat} {z s : State} {v0 : TenS} (hw : Within 0x200000 w) (h : Keeps w z s) :
    Keeps w z { s with ten := v0 } :=
  h.trans ⟨rfl, id, by simp only [State.outside, hw.bits 21 (by decide), if_true]⟩

theorem Keeps.set_tnd {w : Nat} {z s : State} {v0 : TndS} (hw : Within 0x1000000 w) (h : Keeps w z s) :
    Keeps w z { s with tnd := v0 } :=
  h.trans ⟨rfl, id, by simp only [State.outside, hw.bits 24 (by decide), if_true]⟩

theorem Keeps.set_ustore {w : Nat} {z s : State} {v0 : SMap (Option Nat)} (hw : Within 0x40000000 w) (h : Keeps w z s) :
    Keeps w z { s with ustore := v0 } :=
  h.trans ⟨rfl, id, by simp only [State.outside, hw.bits 30 (by decide), if_true]⟩

theorem Keeps.set_weir {w : Nat} {z s : State} {v0 : WeirS} (hw : Within 0x10000 w) (h : Keeps w z s) :
    Keeps w z { s with weir := v0 } :=
  h.trans ⟨rfl, id, by simp only [State.outside, hw.bits 16 (by decide), if_true]⟩

theorem Keeps.set_wm {w : Nat} {z s : State} {v0 : WmS} (hw : Within 0x80000 w) (h : Keeps w z s) :
    Keeps w z { s with wm := v0 } :=
  h.trans ⟨rfl, id, by simp only [State.outside, hw.bits 19 (by decide), if_true]⟩

theorem Keeps.set_xlt {w : Nat} {z s : State} {v0 : XltS} (hw : Within 0x20000 w) (h : Keeps w z s) :
    Keeps w z { s with xlt := v0 } :=
  h.trans ⟨rfl, id, by simp only [State.outside, hw.bits 17 (by decide), if_true]⟩

/-! ### Loops -/

/-- What every round of a loop keeps, the loop keeps. -/
theorem foldl_keeps {α β : Type} (P : β → Prop) {f : β → α → β} {xs : List α} (h : ∀ b x, P b → P (f b x)) {b : β}
    (hb : P b) : P (xs.foldl f b) := by
  induction xs generalizing b with
  | nil => exact hb
  | cons x xs ih => exact ih (h b x hb)

theorem State.each_keeps {α : Type} {w : Nat} {z s : State} {xs : List α} {f : State → α → State} (h : Keeps w z s)
    (hf : ∀ t, Keeps w z t → ∀ x, Keeps w z (f t x)) : Keeps w z (s.each xs f) :=
  foldl_keeps (fun t => Keeps w z t) (fun t x ht => hf t ht x) h

/-- A loop through fields. -/
theorem State.each_fields_keeps {w : Nat} {z s : State} {xs : List Fld} {f : State → Fld → State} (hx : Within (fbits xs) w)
    (h : Keeps w z s) (hf : ∀ t, Keeps w z t → ∀ x, Within (fbit x) w → Keeps w z (f t x)) : Keeps w z (s.each xs f) := by
  have : ∀ (ys : List Fld), (∀ y ∈ ys, y ∈ xs) → ∀ t, Keeps w z t → Keeps w z (ys.foldl f t) := by
    intro ys
    induction ys with
    | nil => exact fun _ t ht => ht
    | cons y ys ih =>
      intro hy t ht
      exact ih (fun u hu => hy u (List.mem_cons_of_mem _ hu)) _ (hf t ht y (fbits_mem (hy y (List.mem_cons_self ..)) hx))
  exact this xs (fun _ h => h) s h

theorem fbits_filter {w : Nat} {fs : List Fld} (p : Fld → Bool) (h : Within (fbits fs) w) : Within (fbits (fs.filter p)) w := by
  induction fs with
  | nil => exact h
  | cons f fs ih =>
    rw [List.filter_cons]
    split
    · exact h.left.or (ih h.right)
    · exact ih h.right

theorem State.when_keeps {w : Nat} {z s : State} {b : Bool} {f : State → State} (h : Keeps w z s)
    (hf : ∀ t, Keeps w z t → Keeps w z (f t)) : Keeps w z (s.when_ b f) := by
  unfold State.when_; split
  · exact hf s h
  · exact h

theorem State.wr_keeps {w : Nat} {z s : State} {f : Fld} {i v : Nat} (h : Keeps w z s) (hf : Within (fbit f) w) :
    Keeps w z (s.wr f i v) :=
  h.trans ⟨rfl, State.wr_canon s f i v, outside_wr s i v hf⟩

theorem State.clr_keeps {w : Nat} {z s : State} {f : Fld} (h : Keeps w z s) (hf : Within (fbit f) w) : Keeps w z (s.clr f) :=
  h.trans ⟨rfl, State.clr_canon s f, outside_clr s hf⟩

theorem State.sendAll_keeps {w : Nat} {z s : State} {os : List Out} (hw : Within 0x2 w) (h : Keeps w z s) :
    Keeps w z (s.sendAll os) :=
  foldl_keeps (f := State.send) (fun t => Keeps w z t) (fun _ _ h =>
    h.trans ⟨rfl, id, by simp only [State.outside, State.send, (show Within (2 ^ 1) w from hw).bit, if_true]⟩) h

end Sys2Proof.Machine
end

