-- ==== Sys2Proof/Laws/KeepsA.lean ====
section
/-! SUPPORT. What every operation keeps, for the operations of Ops, Base, Words, Acq, Wlg, FlmCount, Swc, Weir, Mirror, Route, Xlt, Chk, Log: the queue, the canonical form of the register store, and
what lies outside the parts it may change (`Keeps`, `KeepsOut`, `KeepsOpt`). -/

namespace Sys2Proof.Machine

/-! ### Ops -/

theorem State.onTile_keeps {W : Nat} {z : State} {s : State} {t : ℕ} {u : State} (hw : Within 0x0 W) (h_s : Keeps W z s) (h_u : Keeps W z u) : Keeps W z (State.onTile s t u) := by
  unfold State.onTile
  (try dsimp only)
  exact (Keeps.ite h_s h_u)

theorem State.clr1_keeps {W : Nat} {z : State} {s : State} {f : Fld} {i : ℕ} (hw : Within 0x0 W) (h_s : Keeps W z s) (h_f : Within (fbit f) W) : Keeps W z (State.clr1 s f i) := by
  unfold State.clr1
  (try dsimp only)
  exact (State.wr_keeps h_s h_f)

theorem State.clrWhere_keeps {W : Nat} {z : State} {s : State} {f : Fld} {p : ℕ → Bool} (hw : Within 0x0 W) (h_s : Keeps W z s) (h_f : Within (fbit f) W) : Keeps W z (State.clrWhere s f p) := by
  unfold State.clrWhere
  (try dsimp only)
  exact (State.each_keeps h_s (fun _ h1 _ => (State.clr1_keeps (hw.mono rfl) h1 h_f)))

theorem State.wrb_keeps {W : Nat} {z : State} {s : State} {f : Fld} {i : ℕ} {b : Bool} (hw : Within 0x0 W) (h_s : Keeps W z s) (h_f : Within (fbit f) W) : Keeps W z (State.wrb s f i b) := by
  unfold State.wrb
  (try dsimp only)
  exact (State.wr_keeps h_s h_f)

theorem State.inc_keeps {W : Nat} {z : State} {s : State} {f : Fld} {i : ℕ} {n : optParam ℕ 1} (hw : Within 0x0 W) (h_s : Keeps W z s) (h_f : Within (fbit f) W) : Keeps W z (State.inc s f i n) := by
  unfold State.inc
  (try dsimp only)
  exact (State.wr_keeps h_s h_f)

theorem State.setBit_keeps {W : Nat} {z : State} {s : State} {f : Fld} {n : ℕ} {b : Bool} (hw : Within 0x0 W) (h_s : Keeps W z s) (h_f : Within (fbit f) W) : Keeps W z (State.setBit s f n b) := by
  unfold State.setBit
  (try dsimp only)
  exact (State.wr_keeps h_s h_f)

theorem State.putb_keeps {W : Nat} {z : State} {s : State} {f : Fld} {i : ℕ} {n : ℕ} {b : Bool} (hw : Within 0x0 W) (h_s : Keeps W z s) (h_f : Within (fbit f) W) : Keeps W z (State.putb s f i n b) := by
  unfold State.putb
  (try dsimp only)
  exact (State.wr_keeps h_s h_f)

theorem State.wr2_keeps {W : Nat} {z : State} {s : State} {lo : Fld} {hi : Fld} {i : ℕ} {v : ℕ} (hw : Within 0x0 W) (h_s : Keeps W z s) (h_lo : Within (fbit lo) W) (h_hi : Within (fbit hi) W) : Keeps W z (State.wr2 s lo hi i v) := by
  unfold State.wr2
  (try dsimp only)
  exact (State.wr_keeps (State.wr_keeps h_s h_lo) h_hi)

theorem State.send_keeps {W : Nat} {z : State} {s : State} {o : Out} (hw : Within 0x2 W) (h_s : Keeps W z s) : Keeps W z (State.send s o) := by
  unfold State.send
  (try dsimp only)
  exact (Keeps.set_out (hw.mono rfl) h_s)

theorem State.draw_keeps {W : Nat} {z : State} {s : State} (hw : Within 0x4 W) (h_s : Keeps W z s) : Keeps W z (State.draw s).2 := by
  unfold State.draw
  (try dsimp only)
  exact (Keeps.set_free (hw.mono rfl) h_s)

theorem State.swcMod_keeps {W : Nat} {z : State} {s : State} {f : SwcS → SwcS} (hw : Within 0x8000 W) (h_s : Keeps W z s) : Keeps W z (State.swcMod s f) := by
  unfold State.swcMod
  (try dsimp only)
  exact (Keeps.set_swc (hw.mono rfl) h_s)

theorem State.runMod_keeps {W : Nat} {z : State} {s : State} {f : RunS → RunS} (hw : Within 0x100000 W) (h_s : Keeps W z s) : Keeps W z (State.runMod s f) := by
  unfold State.runMod
  (try dsimp only)
  exact (Keeps.set_run (hw.mono rfl) h_s)

theorem State.tenMod_keeps {W : Nat} {z : State} {s : State} {f : TenS → TenS} (hw : Within 0x200000 W) (h_s : Keeps W z s) : Keeps W z (State.tenMod s f) := by
  unfold State.tenMod
  (try dsimp only)
  exact (Keeps.set_ten (hw.mono rfl) h_s)

theorem State.pwrMod_keeps {W : Nat} {z : State} {s : State} {f : PwrS → PwrS} (hw : Within 0x40 W) (h_s : Keeps W z s) : Keeps W z (State.pwrMod s f) := by
  unfold State.pwrMod
  (try dsimp only)
  exact (Keeps.set_pwr (hw.mono rfl) h_s)

theorem State.ftMod_keeps {W : Nat} {z : State} {s : State} {f : FtS → FtS} (hw : Within 0x80 W) (h_s : Keeps W z s) : Keeps W z (State.ftMod s f) := by
  unfold State.ftMod
  (try dsimp only)
  exact (Keeps.set_ft (hw.mono rfl) h_s)

theorem State.spwMod_keeps {W : Nat} {z : State} {s : State} {f : SpwS → SpwS} (hw : Within 0x200 W) (h_s : Keeps W z s) : Keeps W z (State.spwMod s f) := by
  unfold State.spwMod
  (try dsimp only)
  exact (Keeps.set_spw (hw.mono rfl) h_s)

theorem State.flmMod_keeps {W : Nat} {z : State} {s : State} {f : FlmS → FlmS} (hw : Within 0x400 W) (h_s : Keeps W z s) : Keeps W z (State.flmMod s f) := by
  unfold State.flmMod
  (try dsimp only)
  exact (Keeps.set_flm (hw.mono rfl) h_s)

theorem State.weirMod_keeps {W : Nat} {z : State} {s : State} {f : WeirS → WeirS} (hw : Within 0x10000 W) (h_s : Keeps W z s) : Keeps W z (State.weirMod s f) := by
  unfold State.weirMod
  (try dsimp only)
  exact (Keeps.set_weir (hw.mono rfl) h_s)

theorem State.xltMod_keeps {W : Nat} {z : State} {s : State} {f : XltS → XltS} (hw : Within 0x20000 W) (h_s : Keeps W z s) : Keeps W z (State.xltMod s f) := by
  unfold State.xltMod
  (try dsimp only)
  exact (Keeps.set_xlt (hw.mono rfl) h_s)

theorem State.wmMod_keeps {W : Nat} {z : State} {s : State} {f : WmS → WmS} (hw : Within 0x80000 W) (h_s : Keeps W z s) : Keeps W z (State.wmMod s f) := by
  unfold State.wmMod
  (try dsimp only)
  exact (Keeps.set_wm (hw.mono rfl) h_s)

/-! ### Base -/

theorem State.pulse_keeps {W : Nat} {z : State} {s : State} {src : ℕ} (hw : Within 0x200 W) (h_s : Keeps W z s) : Keeps W z (State.pulse s src) := by
  unfold State.pulse
  (try dsimp only)
  exact (Keeps.set_spw (hw.mono rfl) h_s)

theorem State.level_keeps {W : Nat} {z : State} {s : State} {src : ℕ} {on : Bool} (hw : Within 0x200 W) (h_s : Keeps W z s) : Keeps W z (State.level s src on) := by
  unfold State.level
  (try dsimp only)
  exact (Keeps.set_spw (hw.mono rfl) h_s)

theorem State.cfgErr_keeps {W : Nat} {z : State} {s : State} {w : ℕ} (hw : Within 0x200 W) (h_s : Keeps W z s) : Keeps W z (State.cfgErr s w) := by
  unfold State.cfgErr
  (try dsimp only)
  exact (State.pulse_keeps (hw.mono rfl) h_s)

theorem State.conflictRec_keeps {W : Nat} {z : State} {s : State} {code : ℕ} {a : ℕ} {b : ℕ} (hw : Within 0x400000000 W) (h_s : Keeps W z s) : Keeps W z (State.conflictRec s code a b) := by
  unfold State.conflictRec
  (try dsimp only)
  exact (State.wrb_keeps (hw.mono rfl) (State.wr_keeps (State.wr_keeps (State.wr_keeps h_s (hw.mono rfl)) (hw.mono rfl)) (hw.mono rfl)) (hw.mono rfl))

theorem State.conflict_keeps {W : Nat} {z : State} {s : State} {code : ℕ} {a : ℕ} {b : ℕ} (hw : Within 0x400000200 W) (h_s : Keeps W z s) : Keeps W z (State.conflict s code a b) := by
  unfold State.conflict
  (try dsimp only)
  exact (State.cfgErr_keeps (hw.mono rfl) (State.conflictRec_keeps (hw.mono rfl) h_s))

theorem State.tabled_keeps {W : Nat} {z : State} {s : State} {p : ℕ} (hw : Within 0x4000400000 W) (h_s : Keeps W z s) : Keeps W z (State.tabled s p) := by
  unfold State.tabled
  (try dsimp only)
  exact (State.setBit_keeps (hw.mono rfl) (Keeps.set_prt (hw.mono rfl) h_s) (hw.mono rfl))

theorem State.clockFound_keeps {W : Nat} {z : State} {s : State} {d : ℕ} (hw : Within 0x240 W) (h_s : Keeps W z s) : Keeps W z (State.clockFound s d) := by
  unfold State.clockFound
  (try dsimp only)
  exact (Keeps.ite (Keeps.set_pwr (hw.mono rfl) h_s) (State.level_keeps (hw.mono rfl) (Keeps.set_pwr (hw.mono rfl) h_s)))

theorem State.clockForget_keeps {W : Nat} {z : State} {s : State} {d : ℕ} (hw : Within 0x4000000240 W) (h_s : Keeps W z s) : Keeps W z (State.clockForget s d) := by
  unfold State.clockForget
  (try dsimp only)
  exact (Keeps.ite h_s (Keeps.ite (State.clockFound_keeps (hw.mono rfl) (State.putb_keeps (hw.mono rfl) h_s (hw.mono rfl))) (State.putb_keeps (hw.mono rfl) h_s (hw.mono rfl))))

theorem State.spiIdle_keeps {W : Nat} {z : State} {s : State} (hw : Within 0x4000000240 W) (h_s : Keeps W z s) : Keeps W z (State.spiIdle s) := by
  unfold State.spiIdle
  (try dsimp only)
  exact (State.clockForget_keeps (hw.mono rfl) (State.clockForget_keeps (hw.mono rfl) h_s))

theorem State.msiPf_keeps {W : Nat} {z : State} {s : State} {p : ℕ} {vec : ℕ} (hw : Within 0x1000000000000002 W) (h_s : Keeps W z s) : Keeps W z (State.msiPf s p vec) := by
  unfold State.msiPf
  (try dsimp only)
  exact (Keeps.ite (State.setBit_keeps (hw.mono rfl) h_s (hw.mono rfl)) (State.send_keeps (hw.mono rfl) h_s))

theorem State.notify_keeps {W : Nat} {z : State} {s : State} {typ : ℕ} {detail : ℕ} (hw : Within 0x1080000012000002 W) (h_s : Keeps W z s) : Keeps W z (State.notify s typ detail) := by
  unfold State.notify
  (try dsimp only)
  exact (Keeps.ite (State.msiPf_keeps (hw.mono rfl) (State.putb_keeps (hw.mono rfl) (State.each_keeps h_s (fun _ h1 _ => (Keeps.set_noticeTag (hw.mono rfl) (State.sendAll_keeps (hw.mono rfl) (Keeps.set_notices (hw.mono rfl) h1))))) (hw.mono rfl))) (State.putb_keeps (hw.mono rfl) (State.each_keeps h_s (fun _ h2 _ => (Keeps.set_noticeTag (hw.mono rfl) (State.sendAll_keeps (hw.mono rfl) (Keeps.set_notices (hw.mono rfl) h2))))) (hw.mono rfl)))

theorem State.setDev_keeps {W : Nat} {z : State} {s : State} {d : ℕ} (hw : Within 0x1080000012000002 W) (h_s : Keeps W z s) : Keeps W z (State.setDev s d) := by
  unfold State.setDev
  (try dsimp only)
  exact (Keeps.ite h_s (State.notify_keeps (hw.mono rfl) (State.wr_keeps h_s (hw.mono rfl))))

/-! ### Words -/

theorem State.setRW_keeps {W : Nat} {z : State} {s : State} {fs : List Fld} {i : ℕ} {v : ℕ} (hw : Within 0x0 W) (h_s : Keeps W z s) (h_fs : Within (fbits fs) W) : Keeps W z (State.setRW s fs i v) := by
  unfold State.setRW
  (try dsimp only)
  exact (State.each_fields_keeps (fbits_filter _ h_fs) h_s (fun _ h1 _ h2 => (State.wr_keeps h1 h2)))

theorem State.w1c_keeps {W : Nat} {z : State} {s : State} {fs : List Fld} {i : ℕ} {v : ℕ} {ev : ℕ} (hw : Within 0x0 W) (h_s : Keeps W z s) (h_fs : Within (fbits fs) W) : Keeps W z (State.w1c s fs i v ev) := by
  unfold State.w1c
  (try dsimp only)
  exact (State.each_fields_keeps (fbits_filter _ h_fs) h_s (fun _ h1 _ h2 => (State.wr_keeps h1 h2)))

theorem State.takeWord_keeps {W : Nat} {z : State} {s : State} {fs : List Fld} {i : ℕ} {v : ℕ} {ev : optParam ℕ 0} (hw : Within 0x0 W) (h_s : Keeps W z s) (h_fs : Within (fbits fs) W) : Keeps W z (State.takeWord s fs i v ev) := by
  unfold State.takeWord
  (try dsimp only)
  exact (Keeps.ite h_s (State.w1c_keeps (hw.mono rfl) (State.setRW_keeps (hw.mono rfl) h_s h_fs) h_fs))

theorem State.takeIf_keeps {W : Nat} {z : State} {s : State} {ok : Bool} {w : ℕ} {fs : List Fld} {i : ℕ} {v : ℕ} (hw : Within 0x200 W) (h_s : Keeps W z s) (h_fs : Within (fbits fs) W) : Keeps W z (State.takeIf s ok w fs i v) := by
  unfold State.takeIf
  (try dsimp only)
  exact (Keeps.ite h_s (Keeps.ite (State.w1c_keeps (hw.mono rfl) (State.setRW_keeps (hw.mono rfl) h_s h_fs) h_fs) (State.cfgErr_keeps (hw.mono rfl) h_s)))

theorem State.stageLow_keeps {W : Nat} {z : State} {s : State} {a : ℕ} {v : ℕ} (hw : Within 0x20 W) (h_s : Keeps W z s) : Keeps W z (State.stageLow s a v) := by
  unfold State.stageLow
  (try dsimp only)
  exact (Keeps.set_stage (hw.mono rfl) h_s)

theorem State.takeStaged_keeps {W : Nat} {z : State} {s : State} {a : ℕ} {i : ℕ} {fs : List Fld} (hw : Within 0x20 W) (h_s : Keeps W z s) (h_fs : Within (fbits fs) W) : Keeps W z (State.takeStaged s a i fs) := by
  unfold State.takeStaged
  (try dsimp only)
  exact (by split <;> [(exact h_s); (exact (State.setRW_keeps (hw.mono rfl) (Keeps.set_stage (hw.mono rfl) h_s) h_fs))])

theorem State.uset_keeps {W : Nat} {z : State} {s : State} {addr : ℕ} {v : ℕ} (hw : Within 0x40000000 W) (h_s : Keeps W z s) : Keeps W z (State.uset s addr v) := by
  unfold State.uset
  (try dsimp only)
  exact (Keeps.set_ustore (hw.mono rfl) h_s)

/-! ### Acq -/

theorem State.domUp_keeps {W : Nat} {z : State} {s : State} {n : ℕ} (hw : Within 0x8004000000000 W) (h_s : Keeps W z s) : Keeps W z (State.domUp s n) := by
  unfold State.domUp
  (try dsimp only)
  exact (State.wr_keeps (State.wrb_keeps (hw.mono rfl) h_s (hw.mono rfl)) (hw.mono rfl))

theorem State.domDown_keeps {W : Nat} {z : State} {s : State} {n : ℕ} (hw : Within 0x8004000000000 W) (h_s : Keeps W z s) : Keeps W z (State.domDown s n) := by
  unfold State.domDown
  (try dsimp only)
  exact (State.wr_keeps (State.wrb_keeps (hw.mono rfl) h_s (hw.mono rfl)) (hw.mono rfl))

theorem State.domKick_keeps {W : Nat} {z : State} {s : State} {n : ℕ} (hw : Within 0x8004000000000 W) (h_s : Keeps W z s) : Keeps W z (State.domKick s n) := by
  unfold State.domKick
  (try dsimp only)
  exact (Keeps.ite h_s (Keeps.ite (Keeps.ite (State.domUp_keeps (hw.mono rfl) h_s) h_s) (Keeps.ite (State.domDown_keeps (hw.mono rfl) h_s) h_s)))

theorem State.domKicks_keeps {W : Nat} {z : State} {s : State} {ns : List ℕ} (hw : Within 0x8004000000000 W) (h_s : Keeps W z s) : Keeps W z (State.domKicks s ns) := by
  unfold State.domKicks
  (try dsimp only)
  exact (State.each_keeps h_s (fun _ h1 _ => (State.domKick_keeps (hw.mono rfl) h1)))

theorem State.domFence_keeps {W : Nat} {z : State} {s : State} {n : ℕ} (hw : Within 0x8004000000040 W) (h_s : Keeps W z s) : Keeps W z (State.domFence s n) := by
  unfold State.domFence
  (try dsimp only)
  exact (Keeps.ite (State.wrb_keeps (hw.mono rfl) (State.wr_keeps (Keeps.set_pwr (hw.mono rfl) h_s) (hw.mono rfl)) (hw.mono rfl)) (State.domKick_keeps (hw.mono rfl) (Keeps.set_pwr (hw.mono rfl) h_s)))

theorem State.domUnfence_keeps {W : Nat} {z : State} {s : State} {n : ℕ} (hw : Within 0x8004000000040 W) (h_s : Keeps W z s) : Keeps W z (State.domUnfence s n) := by
  unfold State.domUnfence
  (try dsimp only)
  exact (State.domKick_keeps (hw.mono rfl) (Keeps.set_pwr (hw.mono rfl) h_s))

theorem State.domRefuse_keeps {W : Nat} {z : State} {s : State} {n : ℕ} (hw : Within 0x8000000000000 W) (h_s : Keeps W z s) : Keeps W z (State.domRefuse s n) := by
  unfold State.domRefuse
  (try dsimp only)
  exact (State.inc_keeps (hw.mono rfl) h_s (hw.mono rfl))

theorem State.domOrphan_keeps {W : Nat} {z : State} {s : State} {n : ℕ} (hw : Within 0x8000000000000 W) (h_s : Keeps W z s) : Keeps W z (State.domOrphan s n) := by
  unfold State.domOrphan
  (try dsimp only)
  exact (State.inc_keeps (hw.mono rfl) h_s (hw.mono rfl))

theorem State.traceWrite_keeps {W : Nat} {z : State} {s : State} {p : ℕ} {c : Crossing} {m : Msg} (hw : Within 0x8000000000000 W) (h_s : Keeps W z s) : Keeps W z (State.traceWrite s p c m) := by
  unfold State.traceWrite
  (try dsimp only)
  exact (Keeps.ite h_s (Keeps.ite (State.wr_keeps (State.each_keeps h_s (fun _ h1 _ => (State.wr_keeps h1 (hw.mono rfl)))) (hw.mono rfl)) (Keeps.ite (State.wr_keeps (State.each_keeps h_s (fun _ h2 _ => (State.wr_keeps h2 (hw.mono rfl)))) (hw.mono rfl)) (State.wrb_keeps (hw.mono rfl) (State.wr_keeps (State.each_keeps h_s (fun _ h3 _ => (State.wr_keeps h3 (hw.mono rfl)))) (hw.mono rfl)) (hw.mono rfl)))))

theorem State.probeHit_keeps {W : Nat} {z : State} {s : State} {p : ℕ} {c : Crossing} {m : Msg} (hw : Within 0x8000000000000 W) (h_s : Keeps W z s) : Keeps W z (State.probeHit s p c m) := by
  unfold State.probeHit
  (try dsimp only)
  exact (Keeps.ite (State.traceWrite_keeps (hw.mono rfl) (Keeps.ite (State.inc_keeps (hw.mono rfl) (State.inc_keeps (hw.mono rfl) h_s (hw.mono rfl)) (hw.mono rfl)) h_s)) (Keeps.ite (State.inc_keeps (hw.mono rfl) (State.inc_keeps (hw.mono rfl) h_s (hw.mono rfl)) (hw.mono rfl)) h_s))

theorem State.mesh_keeps {W : Nat} {z : State} {s : State} {a : ℕ} {b : ℕ} {m : Msg} (hw : Within 0x8000000000000 W) (h_s : Keeps W z s) : Keeps W z (State.mesh s a b m) := by
  unfold State.mesh
  (try dsimp only)
  exact (Keeps.ite h_s (State.each_keeps h_s (fun _ h1 _ => (State.each_keeps h1 (fun _ h2 _ => (Keeps.ite (State.probeHit_keeps (hw.mono rfl) h2) h2))))))

theorem State.statAck_keeps {W : Nat} {z : State} {s : State} {ti : ℕ} {rd : ℕ} {wr : ℕ} {lat : ℕ} (hw : Within 0x800 W) (h_s : Keeps W z s) : Keeps W z (State.statAck s ti rd wr lat) := by
  unfold State.statAck
  (try dsimp only)
  exact (Keeps.ite (Keeps.set_acq (hw.mono rfl) h_s) (Keeps.set_acq (hw.mono rfl) h_s))

theorem State.statSnap_keeps {W : Nat} {z : State} {s : State} (hw : Within 0x8000000000800 W) (h_s : Keeps W z s) : Keeps W z (State.statSnap s) := by
  unfold State.statSnap
  (try dsimp only)
  exact (State.wr_keeps (State.wr_keeps (State.wr_keeps (State.wr_keeps (State.wrb_keeps (hw.mono rfl) (Keeps.ite (Keeps.set_acq (hw.mono rfl) h_s) (Keeps.set_acq (hw.mono rfl) h_s)) (hw.mono rfl)) (hw.mono rfl)) (hw.mono rfl)) (hw.mono rfl)) (hw.mono rfl))

theorem State.acqErr_keeps {W : Nat} {z : State} {s : State} {node : ℕ} {port : ℕ} {vc : ℕ} {kind : ℕ} (hw : Within 0x8000000000000 W) (h_s : Keeps W z s) : Keeps W z (State.acqErr s node port vc kind) := by
  unfold State.acqErr
  (try dsimp only)
  exact (State.wrb_keeps (hw.mono rfl) (State.wr_keeps (State.wr_keeps (State.wr_keeps (State.wr_keeps h_s (hw.mono rfl)) (hw.mono rfl)) (hw.mono rfl)) (hw.mono rfl)) (hw.mono rfl))

theorem execBoundaryDrainDone_keeps {W : Nat} {z : State} {n : ℕ} {s : State} (hw : Within 0x8000000000000 W) (h_s : Keeps W z s) : KeepsOut W z (execBoundaryDrainDone n s) := by
  unfold execBoundaryDrainDone
  (try dsimp only)
  exact (KeepsOut.onUnit (Keeps.ite (State.wr_keeps h_s (hw.mono rfl)) h_s))

theorem execBoundaryDrainTimeout_keeps {W : Nat} {z : State} {n : ℕ} {s : State} (hw : Within 0x8000000000200 W) (h_s : Keeps W z s) : KeepsOut W z (execBoundaryDrainTimeout n s) := by
  unfold execBoundaryDrainTimeout
  (try dsimp only)
  exact (KeepsOut.onUnit (Keeps.ite (State.pulse_keeps (hw.mono rfl) (State.wrb_keeps (hw.mono rfl) (State.wr_keeps h_s (hw.mono rfl)) (hw.mono rfl))) h_s))

theorem execAcqWedge_keeps {W : Nat} {z : State} {node : ℕ} {port : ℕ} {vc : ℕ} {s : State} (hw : Within 0x8000000000200 W) (h_s : Keeps W z s) : KeepsOut W z (execAcqWedge node port vc s) := by
  unfold execAcqWedge
  (try dsimp only)
  exact (KeepsOut.onUnit (Keeps.ite (State.pulse_keeps (hw.mono rfl) (State.acqErr_keeps (hw.mono rfl) (State.wrb_keeps (hw.mono rfl) h_s (hw.mono rfl)))) h_s))

theorem State.flitError_keeps {W : Nat} {z : State} {s : State} {node : ℕ} {port : ℕ} {vc : ℕ} {kind : ℕ} (hw : Within 0x8000000000200 W) (h_s : Keeps W z s) : Keeps W z (State.flitError s node port vc kind) := by
  unfold State.flitError
  (try dsimp only)
  exact (State.when_keeps (State.acqErr_keeps (hw.mono rfl) (State.inc_keeps (hw.mono rfl) h_s (by split; exacts [(hw.mono rfl), (by split; exacts [(hw.mono rfl), (hw.mono rfl)])]))) (fun _ h1 => (State.pulse_keeps (hw.mono rfl) h1)))

theorem execAcqHeaderFault_keeps {W : Nat} {z : State} {node : ℕ} {port : ℕ} {e : FlitErr} {s : State} (hw : Within 0x8000000000200 W) (h_s : Keeps W z s) : KeepsOut W z (execAcqHeaderFault node port e s) := by
  unfold execAcqHeaderFault
  (try dsimp only)
  exact (KeepsOut.onUnit (State.flitError_keeps (hw.mono rfl) h_s))

theorem execAcqProbeWrite_keeps {W : Nat} {z : State} {p : ℕ} {word : ℕ} {val : ℕ} {s : State} (hw : Within 0x8000000000200 W) (h_s : Keeps W z s) : KeepsOut W z (execAcqProbeWrite p word val s) := by
  unfold execAcqProbeWrite
  (try dsimp only)
  exact (KeepsOut.onUnit (Keeps.ite (State.wrb_keeps (hw.mono rfl) (State.wr_keeps (State.takeIf_keeps (hw.mono rfl) h_s (wordFields_within (by decide) (hw.mono rfl))) (hw.mono rfl)) (hw.mono rfl)) (State.takeIf_keeps (hw.mono rfl) h_s (wordFields_within (by decide) (hw.mono rfl)))))

theorem execRunnelStatsSnap_keeps {W : Nat} {z : State} {val : ℕ} {s : State} (hw : Within 0x8000000000800 W) (h_s : Keeps W z s) : KeepsOut W z (execRunnelStatsSnap val s) := by
  unfold execRunnelStatsSnap
  (try dsimp only)
  exact (KeepsOut.next (Keeps.ite (State.statSnap_keeps (hw.mono rfl) (State.wrb_keeps (hw.mono rfl) h_s (hw.mono rfl))) (State.wrb_keeps (hw.mono rfl) h_s (hw.mono rfl))))

/-! ### Wlg -/

theorem State.tndMod_keeps {W : Nat} {z : State} {s : State} {f : TndS → TndS} (hw : Within 0x1000000 W) (h_s : Keeps W z s) : Keeps W z (State.tndMod s f) := by
  unfold State.tndMod
  (try dsimp only)
  exact (Keeps.set_tnd (hw.mono rfl) h_s)

theorem State.putRec_keeps {W : Nat} {z : State} {s : State} {r : Rec} (hw : Within 0x1000000 W) (h_s : Keeps W z s) : Keeps W z (State.putRec s r) := by
  unfold State.putRec
  (try dsimp only)
  exact (State.tndMod_keeps (hw.mono rfl) h_s)

theorem State.journal_keeps {W : Nat} {z : State} {s : State} {r : Rec} (hw : Within 0x100000001000000 W) (h_s : Keeps W z s) : Keeps W z (State.journal s r) := by
  unfold State.journal
  (try dsimp only)
  exact (State.wr2_keeps (hw.mono rfl) (State.wr2_keeps (hw.mono rfl) (State.putRec_keeps (hw.mono rfl) h_s) (hw.mono rfl) (hw.mono rfl)) (hw.mono rfl) (hw.mono rfl))

theorem State.recMod_keeps {W : Nat} {z : State} {s : State} {q : ℕ} {f : Rec → Rec} (hw : Within 0x1000000 W) (h_s : Keeps W z s) : Keeps W z (State.recMod s q f) := by
  unfold State.recMod
  (try dsimp only)
  exact (by split <;> [(exact (State.putRec_keeps (hw.mono rfl) h_s)); (exact h_s)])

theorem State.lifecycle_keeps {W : Nat} {z : State} {s : State} {b : ℕ} {byTender : Bool} (hw : Within 0x300000001000000 W) (h_s : Keeps W z s) : Keeps W z (State.lifecycle s b byTender) := by
  unfold State.lifecycle
  (try dsimp only)
  exact (State.when_keeps (State.wr_keeps h_s (hw.mono rfl)) (fun _ h1 => (State.journal_keeps (hw.mono rfl) h1)))

/-! ### FlmCount -/

theorem State.flmAdd_keeps {W : Nat} {z : State} {s : State} {c : ℕ} {n : ℕ} (hw : Within 0x400 W) (h_s : Keeps W z s) : Keeps W z (State.flmAdd s c n) := by
  unfold State.flmAdd
  (try dsimp only)
  exact (Keeps.set_flm (hw.mono rfl) h_s)

theorem State.count_keeps {W : Nat} {z : State} {s : State} {e : FlmEv} (hw : Within 0x400 W) (h_s : Keeps W z s) : Keeps W z (State.count s e) := by
  unfold State.count
  (try dsimp only)
  exact (State.each_keeps h_s (fun _ h1 _ => (State.flmAdd_keeps (hw.mono rfl) h1)))

theorem State.countMsg_keeps {W : Nat} {z : State} {s : State} {code : ℕ} {grp : ℕ} {param : ℕ} {m : Msg} (hw : Within 0x400 W) (h_s : Keeps W z s) : Keeps W z (State.countMsg s code grp param m) := by
  unfold State.countMsg
  (try dsimp only)
  exact (State.count_keeps (hw.mono rfl) h_s)

theorem State.countEv_keeps {W : Nat} {z : State} {s : State} {code : ℕ} {grp : ℕ} {param : ℕ} (hw : Within 0x400 W) (h_s : Keeps W z s) : Keeps W z (State.countEv s code grp param) := by
  unfold State.countEv
  (try dsimp only)
  exact (State.count_keeps (hw.mono rfl) h_s)

/-! ### Swc -/

theorem State.lkMod_keeps {W : Nat} {z : State} {s : State} {k : ℕ} {f : Leat → Leat} (hw : Within 0x2000 W) (h_s : Keeps W z s) : Keeps W z (State.lkMod s k f) := by
  unfold State.lkMod
  (try dsimp only)
  exact (Keeps.set_leat (hw.mono rfl) h_s)

theorem State.leatGrant_keeps {W : Nat} {z : State} {s : State} {k : ℕ} {v : ℕ} {n : ℕ} (hw : Within 0x2000 W) (h_s : Keeps W z s) : Keeps W z (State.leatGrant s k v n) := by
  unfold State.leatGrant
  (try dsimp only)
  exact (State.lkMod_keeps (hw.mono rfl) h_s)

theorem State.retCredit_keeps {W : Nat} {z : State} {s : State} {c : Credit} (hw : Within 0x2002 W) (h_s : Keeps W z s) : Keeps W z (State.retCredit s c) := by
  unfold State.retCredit
  (try dsimp only)
  exact (Keeps.ite (State.send_keeps (hw.mono rfl) h_s) (Keeps.ite (State.leatGrant_keeps (hw.mono rfl) h_s) h_s))

theorem State.retCredits_keeps {W : Nat} {z : State} {s : State} (hw : Within 0xa002 W) (h_s : Keeps W z s) : Keeps W z (State.retCredits s) := by
  unfold State.retCredits
  (try dsimp only)
  exact (State.each_keeps (Keeps.set_swc (hw.mono rfl) h_s) (fun _ h1 _ => (State.retCredit_keeps (hw.mono rfl) h1)))

theorem State.holdUpdate_keeps {W : Nat} {z : State} {s : State} {x : ℕ} {t : ℕ} (hw : Within 0x2000000000 W) (h_s : Keeps W z s) : Keeps W z (State.holdUpdate s x t) := by
  unfold State.holdUpdate
  (try dsimp only)
  exact (Keeps.ite h_s (State.setBit_keeps (hw.mono rfl) (State.wrb_keeps (hw.mono rfl) h_s (hw.mono rfl)) (hw.mono rfl)))

theorem State.globalUpdate_keeps {W : Nat} {z : State} {s : State} (hw : Within 0x2000000000 W) (h_s : Keeps W z s) : Keeps W z (State.globalUpdate s) := by
  unfold State.globalUpdate
  (try dsimp only)
  exact (Keeps.ite (State.wrb_keeps (hw.mono rfl) h_s (hw.mono rfl)) (Keeps.ite (State.wrb_keeps (hw.mono rfl) h_s (hw.mono rfl)) h_s))

theorem State.takeCells_keeps {W : Nat} {z : State} {s : State} {n : ℕ} (hw : Within 0x2000000000 W) (h_s : Keeps W z s) : Keeps W z (State.takeCells s n) := by
  unfold State.takeCells
  (try dsimp only)
  exact (State.globalUpdate_keeps (hw.mono rfl) (State.wr_keeps (State.wr_keeps h_s (hw.mono rfl)) (hw.mono rfl)))

theorem State.giveCells_keeps {W : Nat} {z : State} {s : State} {n : ℕ} (hw : Within 0x2000000000 W) (h_s : Keeps W z s) : Keeps W z (State.giveCells s n) := by
  unfold State.giveCells
  (try dsimp only)
  exact (State.globalUpdate_keeps (hw.mono rfl) (State.wr_keeps h_s (hw.mono rfl)))

theorem State.occAdd_keeps {W : Nat} {z : State} {s : State} {x : ℕ} {t : ℕ} {n : ℕ} (hw : Within 0x2000000000 W) (h_s : Keeps W z s) : Keeps W z (State.occAdd s x t n) := by
  unfold State.occAdd
  (try dsimp only)
  exact (State.holdUpdate_keeps (hw.mono rfl) (State.wr_keeps h_s (hw.mono rfl)))

theorem State.occSub_keeps {W : Nat} {z : State} {s : State} {x : ℕ} {t : ℕ} {n : ℕ} (hw : Within 0x2000000000 W) (h_s : Keeps W z s) : Keeps W z (State.occSub s x t n) := by
  unfold State.occSub
  (try dsimp only)
  exact (State.holdUpdate_keeps (hw.mono rfl) (State.wr_keeps h_s (hw.mono rfl)))

theorem State.telNotify_keeps {W : Nat} {z : State} {s : State} (hw : Within 0x1080000012008002 W) (h_s : Keeps W z s) : Keeps W z (State.telNotify s) := by
  unfold State.telNotify
  (try dsimp only)
  exact (by split <;> [(exact h_s); (exact (Keeps.ite (Keeps.set_swc (hw.mono rfl) (State.notify_keeps (hw.mono rfl) h_s)) h_s))])

theorem State.telLevel_keeps {W : Nat} {z : State} {s : State} {i : ℕ} (hw : Within 0x8000 W) (h_s : Keeps W z s) : Keeps W z (State.telLevel s i) := by
  unfold State.telLevel
  (try dsimp only)
  exact (Keeps.set_swc (hw.mono rfl) h_s)

theorem State.telWatch_keeps {W : Nat} {z : State} {s : State} {i : ℕ} (hw : Within 0x1080002012008002 W) (h_s : Keeps W z s) : Keeps W z (State.telWatch s i) := by
  unfold State.telWatch
  (try dsimp only)
  exact (Keeps.ite h_s (Keeps.ite (Keeps.ite (State.telNotify_keeps (hw.mono rfl) (State.inc_keeps (hw.mono rfl) (State.setBit_keeps (hw.mono rfl) (Keeps.set_swc (hw.mono rfl) h_s) (hw.mono rfl)) (hw.mono rfl))) (State.inc_keeps (hw.mono rfl) (State.setBit_keeps (hw.mono rfl) (Keeps.set_swc (hw.mono rfl) h_s) (hw.mono rfl)) (hw.mono rfl))) (Keeps.set_swc (hw.mono rfl) h_s)))

theorem State.eqAdd_keeps {W : Nat} {z : State} {s : State} {e : ℕ} {t : ℕ} {n : ℕ} (hw : Within 0x1080002012008002 W) (h_s : Keeps W z s) : Keeps W z (State.eqAdd s e t n) := by
  unfold State.eqAdd
  (try dsimp only)
  exact (State.telWatch_keeps (hw.mono rfl) (State.wr_keeps h_s (hw.mono rfl)))

theorem State.eqSub_keeps {W : Nat} {z : State} {s : State} {e : ℕ} {t : ℕ} {n : ℕ} (hw : Within 0x1080002012008002 W) (h_s : Keeps W z s) : Keeps W z (State.eqSub s e t n) := by
  unfold State.eqSub
  (try dsimp only)
  exact (State.telWatch_keeps (hw.mono rfl) (State.wr_keeps h_s (hw.mono rfl)))

theorem State.peerAsks_keeps {W : Nat} {z : State} {s : State} {x : ℕ} {m : Msg} (hw : Within 0x8000 W) (h_s : Keeps W z s) : Keeps W z (State.peerAsks s x m) := by
  unfold State.peerAsks
  (try dsimp only)
  exact (Keeps.ite (State.swcMod_keeps (hw.mono rfl) h_s) h_s)

theorem State.askedDone_keeps {W : Nat} {z : State} {s : State} {a : Asked} (hw : Within 0x8000 W) (h_s : Keeps W z s) : Keeps W z (State.askedDone s a) := by
  unfold State.askedDone
  (try dsimp only)
  exact (State.swcMod_keeps (hw.mono rfl) h_s)

theorem State.storedMod_keeps {W : Nat} {z : State} {s : State} {id : ℕ} {f : Stored → Stored} (hw : Within 0x8000 W) (h_s : Keeps W z s) : Keeps W z (State.storedMod s id f) := by
  unfold State.storedMod
  (try dsimp only)
  exact (Keeps.set_swc (hw.mono rfl) h_s)

theorem State.setQueue_keeps {W : Nat} {z : State} {s : State} {e : ℕ} {t : ℕ} {g : ℕ} {q : List Entry} (hw : Within 0x8000 W) (h_s : Keeps W z s) : Keeps W z (State.setQueue s e t g q) := by
  unfold State.setQueue
  (try dsimp only)
  exact (Keeps.set_swc (hw.mono rfl) h_s)

theorem State.store_keeps {W : Nat} {z : State} {s : State} {x : ℕ} {m : Msg} {whole : Bool} {egs : List ℕ} {charge : ℕ} {credits : ℕ} {hold : Bool} (hw : Within 0x200000a002 W) (h_s : Keeps W z s) : Keeps W z (State.store s x m whole egs charge credits hold) := by
  unfold State.store
  (try dsimp only)
  exact (Keeps.ite (State.takeCells_keeps (hw.mono rfl) (by split <;> [(exact (State.occAdd_keeps (hw.mono rfl) (Keeps.set_swc (hw.mono rfl) h_s))); (exact (State.wr_keeps (Keeps.set_swc (hw.mono rfl) h_s) (hw.mono rfl))); (exact (State.wr_keeps (Keeps.set_swc (hw.mono rfl) h_s) (hw.mono rfl))); (exact (Keeps.set_swc (hw.mono rfl) h_s))])) (Keeps.ite (Keeps.set_swc (hw.mono rfl) (State.takeCells_keeps (hw.mono rfl) (by split <;> [(exact (State.occAdd_keeps (hw.mono rfl) (Keeps.set_swc (hw.mono rfl) h_s))); (exact (State.wr_keeps (Keeps.set_swc (hw.mono rfl) h_s) (hw.mono rfl))); (exact (State.wr_keeps (Keeps.set_swc (hw.mono rfl) h_s) (hw.mono rfl))); (exact (Keeps.set_swc (hw.mono rfl) h_s))]))) (State.retCredit_keeps (hw.mono rfl) (State.takeCells_keeps (hw.mono rfl) (by split <;> [(exact (State.occAdd_keeps (hw.mono rfl) (Keeps.set_swc (hw.mono rfl) h_s))); (exact (State.wr_keeps (Keeps.set_swc (hw.mono rfl) h_s) (hw.mono rfl))); (exact (State.wr_keeps (Keeps.set_swc (hw.mono rfl) h_s) (hw.mono rfl))); (exact (Keeps.set_swc (hw.mono rfl) h_s))])))))

theorem State.unplace_keeps {W : Nat} {z : State} {s : State} {d : Stored} (hw : Within 0x200000a002 W) (h_s : Keeps W z s) : Keeps W z (State.unplace s d) := by
  unfold State.unplace
  (try dsimp only)
  exact (by split <;> [(exact (State.occSub_keeps (hw.mono rfl) (Keeps.set_swc (hw.mono rfl) h_s))); (exact (State.retCredit_keeps (hw.mono rfl) (State.wr_keeps (Keeps.set_swc (hw.mono rfl) h_s) (hw.mono rfl)))); (exact (State.wr_keeps (Keeps.set_swc (hw.mono rfl) h_s) (hw.mono rfl))); (exact (Keeps.set_swc (hw.mono rfl) h_s))])

theorem State.unstore_keeps {W : Nat} {z : State} {s : State} {d : Stored} (hw : Within 0x200000a002 W) (h_s : Keeps W z s) : Keeps W z (State.unstore s d) := by
  unfold State.unstore
  (try dsimp only)
  exact (State.retCredits_keeps (hw.mono rfl) (State.giveCells_keeps (hw.mono rfl) (State.unplace_keeps (hw.mono rfl) h_s)))

theorem State.unstoreLost_keeps {W : Nat} {z : State} {s : State} {d : Stored} (hw : Within 0x200000a002 W) (h_s : Keeps W z s) : Keeps W z (State.unstoreLost s d) := by
  unfold State.unstoreLost
  (try dsimp only)
  exact (State.retCredits_keeps (hw.mono rfl) (State.swcMod_keeps (hw.mono rfl) (State.unplace_keeps (hw.mono rfl) h_s)))

theorem State.dropRef_keeps {W : Nat} {z : State} {s : State} {id : ℕ} (hw : Within 0x200000a002 W) (h_s : Keeps W z s) : Keeps W z (State.dropRef s id) := by
  unfold State.dropRef
  (try dsimp only)
  exact (by split <;> [(exact h_s); (exact (Keeps.ite (State.unstore_keeps (hw.mono rfl) h_s) (State.storedMod_keeps (hw.mono rfl) h_s)))])

theorem State.wakePort_keeps {W : Nat} {z : State} {s : State} {e : ℕ} (hw : Within 0x100000000000 W) (h_s : Keeps W z s) : Keeps W z (State.wakePort s e) := by
  unfold State.wakePort
  (try dsimp only)
  exact (Keeps.ite (State.wr_keeps (State.wr_keeps h_s (hw.mono rfl)) (hw.mono rfl)) h_s)

theorem State.enqueue_keeps {W : Nat} {z : State} {s : State} {id : ℕ} {e : ℕ} (hw : Within 0x1080102012008002 W) (h_s : Keeps W z s) : Keeps W z (State.enqueue s id e) := by
  unfold State.enqueue
  (try dsimp only)
  exact (by split <;> [(exact h_s); (exact (State.wakePort_keeps (hw.mono rfl) (State.eqAdd_keeps (hw.mono rfl) (State.setQueue_keeps (hw.mono rfl) h_s))))])

theorem State.copyGone_keeps {W : Nat} {z : State} {s : State} {d : Stored} {e : ℕ} (hw : Within 0x108000201200a002 W) (h_s : Keeps W z s) : Keeps W z (State.copyGone s d e) := by
  unfold State.copyGone
  (try dsimp only)
  exact (State.dropRef_keeps (hw.mono rfl) (State.eqSub_keeps (hw.mono rfl) h_s))

theorem State.tdOwe_keeps {W : Nat} {z : State} {s : State} {u : ℕ} {n : ℕ} (hw : Within 0x400 W) (h_s : Keeps W z s) : Keeps W z (State.tdOwe s u n) := by
  unfold State.tdOwe
  (try dsimp only)
  exact (Keeps.set_flm (hw.mono rfl) h_s)

theorem State.tdMove_keeps {W : Nat} {z : State} {s : State} {e : ℕ} {m : Msg} (hw : Within 0x40000000000400 W) (h_s : Keeps W z s) : Keeps W z (State.tdMove s e m) := by
  unfold State.tdMove
  (try dsimp only)
  exact (State.each_keeps h_s (fun _ h1 _ => (State.tdOwe_keeps (hw.mono rfl) (State.wr_keeps h1 (hw.mono rfl)))))

theorem State.tdResolve_keeps {W : Nat} {z : State} {s : State} {e : ℕ} {m : Msg} {wasted : Bool} (hw : Within 0x40000000000400 W) (h_s : Keeps W z s) : Keeps W z (State.tdResolve s e m wasted) := by
  unfold State.tdResolve
  (try dsimp only)
  exact (State.each_keeps h_s (fun _ h1 _ => (State.flmAdd_keeps (hw.mono rfl) (State.wr_keeps h1 (hw.mono rfl)))))

theorem State.answering_keeps {W : Nat} {z : State} {s : State} {m : Msg} {f : State → State} (hw : Within 0x8000 W) (h_s : Keeps W z s) (h_f : ∀ y0, Keeps W z y0 → Keeps W z (f y0)) : Keeps W z (State.answering s m f) := by
  unfold State.answering
  (try dsimp only)
  exact (by split <;> [(exact (h_f _ h_s)); (exact (Keeps.ite (State.askedDone_keeps (hw.mono rfl) h_s) (h_f _ (State.askedDone_keeps (hw.mono rfl) h_s))))])

theorem State.reply_keeps {W : Nat} {z : State} {s : State} {m : Msg} {status : CplStatus} {poison : Bool} (hw : Within 0x8002 W) (h_s : Keeps W z s) : Keeps W z (State.reply s m status poison) := by
  unfold State.reply
  (try dsimp only)
  exact (Keeps.ite h_s (State.answering_keeps (hw.mono rfl) h_s (fun _ h1 => (State.send_keeps (hw.mono rfl) h1))))

theorem State.lostAtPort_keeps {W : Nat} {z : State} {s : State} {p : ℕ} {m : Msg} (hw : Within 0x100000008202 W) (h_s : Keeps W z s) : Keeps W z (State.lostAtPort s p m) := by
  unfold State.lostAtPort
  (try dsimp only)
  exact (by split <;> [(exact (State.reply_keeps (hw.mono rfl) h_s)); (exact (State.inc_keeps (hw.mono rfl) h_s (hw.mono rfl))); (exact (State.reply_keeps (hw.mono rfl) h_s)); (exact (State.reply_keeps (hw.mono rfl) (State.pulse_keeps (hw.mono rfl) (State.wr2_keeps (hw.mono rfl) (State.wrb_keeps (hw.mono rfl) h_s (hw.mono rfl)) (hw.mono rfl) (hw.mono rfl))))); (exact h_s)])

theorem State.lostAtLink_keeps {W : Nat} {z : State} {s : State} {k : ℕ} {m : Msg} (hw : Within 0x400000008202 W) (h_s : Keeps W z s) : Keeps W z (State.lostAtLink s k m) := by
  unfold State.lostAtLink
  (try dsimp only)
  exact (by split <;> [(exact (State.reply_keeps (hw.mono rfl) (State.pulse_keeps (hw.mono rfl) (State.wr2_keeps (hw.mono rfl) (State.wrb_keeps (hw.mono rfl) h_s (hw.mono rfl)) (hw.mono rfl) (hw.mono rfl))))); (exact (State.reply_keeps (hw.mono rfl) h_s)); (exact (Keeps.ite (State.reply_keeps (hw.mono rfl) h_s) (State.reply_keeps (hw.mono rfl) h_s))); (exact (State.reply_keeps (hw.mono rfl) h_s)); (exact (State.reply_keeps (hw.mono rfl) h_s)); (exact (State.reply_keeps (hw.mono rfl) h_s)); (exact h_s)])

theorem State.lostInside_keeps {W : Nat} {z : State} {s : State} {m : Msg} (hw : Within 0x8002 W) (h_s : Keeps W z s) : Keeps W z (State.lostInside s m) := by
  unfold State.lostInside
  (try dsimp only)
  exact (by split <;> [(exact (State.reply_keeps (hw.mono rfl) h_s)); (exact (State.reply_keeps (hw.mono rfl) h_s)); (exact (State.reply_keeps (hw.mono rfl) h_s)); (exact (State.reply_keeps (hw.mono rfl) h_s)); (exact (State.reply_keeps (hw.mono rfl) h_s)); (exact (State.reply_keeps (hw.mono rfl) h_s)); (exact h_s)])

theorem State.undeliverable_keeps {W : Nat} {z : State} {s : State} {e : ℕ} {m : Msg} (hw : Within 0x500000008202 W) (h_s : Keeps W z s) : Keeps W z (State.undeliverable s e m) := by
  unfold State.undeliverable
  (try dsimp only)
  exact (Keeps.ite (State.lostAtPort_keeps (hw.mono rfl) h_s) (Keeps.ite (State.lostAtLink_keeps (hw.mono rfl) h_s) (State.lostInside_keeps (hw.mono rfl) h_s)))

theorem State.noRoute_keeps {W : Nat} {z : State} {s : State} {m : Msg} (hw : Within 0x800008002 W) (h_s : Keeps W z s) : Keeps W z (State.noRoute s m) := by
  unfold State.noRoute
  (try dsimp only)
  exact (by split <;> [(exact (State.reply_keeps (hw.mono rfl) (State.inc_keeps (hw.mono rfl) h_s (hw.mono rfl)))); (exact (Keeps.ite (State.reply_keeps (hw.mono rfl) (State.inc_keeps (hw.mono rfl) h_s (hw.mono rfl))) (State.inc_keeps (hw.mono rfl) h_s (hw.mono rfl)))); (exact (Keeps.ite (State.reply_keeps (hw.mono rfl) (State.inc_keeps (hw.mono rfl) h_s (hw.mono rfl))) (State.inc_keeps (hw.mono rfl) h_s (hw.mono rfl)))); (exact (Keeps.ite (State.reply_keeps (hw.mono rfl) (State.inc_keeps (hw.mono rfl) h_s (hw.mono rfl))) (State.inc_keeps (hw.mono rfl) h_s (hw.mono rfl)))); (exact (State.inc_keeps (hw.mono rfl) h_s (hw.mono rfl)))])

theorem State.flushQueue_keeps {W : Nat} {z : State} {s : State} {e : ℕ} {t : ℕ} {g : ℕ} (hw : Within 0x108050201200a202 W) (h_s : Keeps W z s) : Keeps W z (State.flushQueue s e t g) := by
  unfold State.flushQueue
  (try dsimp only)
  exact (State.each_keeps (State.setQueue_keeps (hw.mono rfl) h_s) (fun _ h1 _ => (by split <;> [(exact h1); (exact (State.copyGone_keeps (hw.mono rfl) (State.undeliverable_keeps (hw.mono rfl) h1)))])))

theorem State.flushSending_keeps {W : Nat} {z : State} {s : State} {e : ℕ} {i : ℕ} (hw : Within 0x10c050201200a602 W) (h_s : Keeps W z s) : Keeps W z (State.flushSending s e i) := by
  unfold State.flushSending
  (try dsimp only)
  exact (by split <;> [(exact h_s); (exact (by split <;> [(exact (Keeps.set_swc (hw.mono rfl) h_s)); (exact (State.copyGone_keeps (hw.mono rfl) (State.undeliverable_keeps (hw.mono rfl) (State.tdResolve_keeps (hw.mono rfl) (Keeps.set_swc (hw.mono rfl) h_s)))))]))])

theorem State.flushEgress_keeps {W : Nat} {z : State} {s : State} {e : ℕ} (hw : Within 0x10c050201200a602 W) (h_s : Keeps W z s) : Keeps W z (State.flushEgress s e) := by
  unfold State.flushEgress
  (try dsimp only)
  exact (State.each_keeps (State.each_keeps h_s (fun _ h1 _ => (State.each_keeps h1 (fun _ h2 _ => (State.flushQueue_keeps (hw.mono rfl) h2))))) (fun _ h3 _ => (State.flushSending_keeps (hw.mono rfl) h3)))

theorem State.setHeld_keeps {W : Nat} {z : State} {s : State} {h : List ℕ} (hw : Within 0x1000000010000 W) (h_s : Keeps W z s) : Keeps W z (State.setHeld s h) := by
  unfold State.setHeld
  (try dsimp only)
  exact (State.wr_keeps (State.wr_keeps (Keeps.set_weir (hw.mono rfl) h_s) (hw.mono rfl)) (hw.mono rfl))

theorem State.truncateAt_keeps {W : Nat} {z : State} {s : State} {d : Stored} {e : ℕ} (hw : Within 0x10c000281200a402 W) (h_s : Keeps W z s) : Keeps W z (State.truncateAt s d e) := by
  unfold State.truncateAt
  (try dsimp only)
  exact (Keeps.ite (State.copyGone_keeps (hw.mono rfl) (State.tdResolve_keeps (hw.mono rfl) (State.send_keeps (hw.mono rfl) (State.inc_keeps (hw.mono rfl) (Keeps.set_swc (hw.mono rfl) h_s) (hw.mono rfl))))) (Keeps.ite (State.copyGone_keeps (hw.mono rfl) (State.setQueue_keeps (hw.mono rfl) h_s)) h_s))

theorem State.truncate_keeps {W : Nat} {z : State} {s : State} {x : ℕ} (hw : Within 0x10c100281201a402 W) (h_s : Keeps W z s) : Keeps W z (State.truncate s x) := by
  unfold State.truncate
  (try dsimp only)
  exact (State.each_keeps h_s (fun _ h1 _ => (Keeps.ite (State.unstore_keeps (hw.mono rfl) (State.setHeld_keeps (hw.mono rfl) h1)) (State.each_keeps h1 (fun _ h2 _ => (State.truncateAt_keeps (hw.mono rfl) h2))))))

theorem State.settleOwed_keeps {W : Nat} {z : State} {s : State} {x : ℕ} {f : State → Msg → State} (hw : Within 0x8000 W) (h_s : Keeps W z s) (h_f : ∀ y0, Keeps W z y0 → ∀ y1, Keeps W z (f y0 y1)) : Keeps W z (State.settleOwed s x f) := by
  unfold State.settleOwed
  (try dsimp only)
  exact (State.each_keeps (Keeps.set_swc (hw.mono rfl) h_s) (fun _ h1 _ => (h_f _ h1 _)))

/-! ### Weir -/

theorem State.deduct_keeps {W : Nat} {z : State} {s : State} {ti : ℕ} {c : ℕ} {k : ℕ} (hw : Within 0x10000 W) (h_s : Keeps W z s) : Keeps W z (State.deduct s ti c k) := by
  unfold State.deduct
  (try dsimp only)
  exact (Keeps.ite h_s (Keeps.set_weir (hw.mono rfl) h_s))

theorem State.release_keeps {W : Nat} {z : State} {s : State} {d : Stored} {k : ℕ} (hw : Within 0x1080102012018402 W) (h_s : Keeps W z s) : Keeps W z (State.release s d k) := by
  unfold State.release
  (try dsimp only)
  exact (State.each_keeps (State.flmAdd_keeps (hw.mono rfl) (State.deduct_keeps (hw.mono rfl) h_s)) (fun _ h1 _ => (State.enqueue_keeps (hw.mono rfl) h1)))

theorem State.tryRelease_keeps {W : Nat} {z : State} {s : State} {ti : ℕ} (hw : Within 0x108110201201a402 W) (h_s : Keeps W z s) : KeepsOpt W z (State.tryRelease s ti) := by
  unfold State.tryRelease
  (try dsimp only)
  exact (by split <;> [(exact KeepsOpt.none); (exact (KeepsOpt.ite (KeepsOpt.some (State.retCredit_keeps (hw.mono rfl) (State.release_keeps (hw.mono rfl) (Keeps.set_weir (hw.mono rfl) (State.setHeld_keeps (hw.mono rfl) h_s))))) KeepsOpt.none))])

theorem State.consider_keeps {W : Nat} {z : State} {a : ℕ} {a1 : State} (hw : Within 0x108110201201a402 W) (h_a1 : Keeps W z a1) : Keeps W z (State.consider a a1) := by
  induction a generalizing a1 with
  | zero =>
    unfold State.consider
    (try dsimp only)
    exact h_a1
  | succ a ih =>
    unfold State.consider
    (try dsimp only)
    exact (by split <;> [(exact h_a1); (rename_i e_; have h1 := (KeepsOpt.findSome (fun _ => (State.tryRelease_keeps (hw.mono rfl) h_a1))) _ e_; exact (ih h1))])

theorem State.considerAll_keeps {W : Nat} {z : State} {s : State} (hw : Within 0x108110201201a402 W) (h_s : Keeps W z s) : Keeps W z (State.considerAll s) := by
  unfold State.considerAll
  (try dsimp only)
  exact (State.consider_keeps (hw.mono rfl) h_s)

theorem State.rotUpdate_keeps {W : Nat} {z : State} {s : State} {x : ℕ} (hw : Within 0x1000000000000 W) (h_s : Keeps W z s) : Keeps W z (State.rotUpdate s x) := by
  unfold State.rotUpdate
  (try dsimp only)
  exact (State.wrb_keeps (hw.mono rfl) h_s (hw.mono rfl))

theorem State.tdCycles_keeps {W : Nat} {z : State} {s : State} {u : ℕ} {c : ℕ} {ready : Bool} (hw : Within 0x400 W) (h_s : Keeps W z s) : Keeps W z (State.tdCycles s u c ready) := by
  unfold State.tdCycles
  (try dsimp only)
  exact (Keeps.ite (State.flmMod_keeps (hw.mono rfl) h_s) (State.flmAdd_keeps (hw.mono rfl) (State.flmMod_keeps (hw.mono rfl) h_s)))

theorem State.heldCycles_keeps {W : Nat} {z : State} {s : State} {c : ℕ} (hw : Within 0x400 W) (h_s : Keeps W z s) : Keeps W z (State.heldCycles s c) := by
  unfold State.heldCycles
  (try dsimp only)
  exact (State.each_keeps h_s (fun _ h1 _ => (State.flmAdd_keeps (hw.mono rfl) h1)))

theorem State.coreCycles_keeps {W : Nat} {z : State} {s : State} {c : ℕ} (hw : Within 0x400 W) (h_s : Keeps W z s) : Keeps W z (State.coreCycles s c) := by
  unfold State.coreCycles
  (try dsimp only)
  exact (Keeps.ite h_s (State.heldCycles_keeps (hw.mono rfl) (State.each_keeps h_s (fun _ h1 _ => (State.tdCycles_keeps (hw.mono rfl) h1)))))

theorem State.tagUpdate_keeps {W : Nat} {z : State} {s : State} {x : ℕ} {cred : ℕ → Stored → Bool} (hw : Within 0x10000 W) (h_s : Keeps W z s) : Keeps W z (State.tagUpdate s x cred) := by
  unfold State.tagUpdate
  (try dsimp only)
  exact (State.each_keeps h_s (fun _ h1 _ => (by split <;> [(exact (Keeps.set_weir (hw.mono rfl) h1)); (exact (Keeps.ite h1 (Keeps.set_weir (hw.mono rfl) h1)))])))

theorem State.served_keeps {W : Nat} {z : State} {s : State} {x : ℕ} {t : ℕ} {g : ℕ} {d : Stored} (hw : Within 0x98000 W) (h_s : Keeps W z s) : Keeps W z (State.served s x t g d) := by
  unfold State.served
  (try dsimp only)
  exact (Keeps.ite (Keeps.ite (Keeps.set_swc_wm (hw.mono rfl) h_s) (Keeps.set_swc (hw.mono rfl) h_s)) (Keeps.set_swc_weir (hw.mono rfl) h_s))

theorem State.refill_keeps {W : Nat} {z : State} {s : State} {k : ℕ} (hw : Within 0x10000 W) (h_s : Keeps W z s) : Keeps W z (State.refill s k) := by
  unfold State.refill
  (try dsimp only)
  exact (Keeps.set_weir (hw.mono rfl) h_s)

theorem State.weirError_keeps {W : Nat} {z : State} {s : State} {err : ℕ} {idx : ℕ} (hw : Within 0x1000000010200 W) (h_s : Keeps W z s) : Keeps W z (State.weirError s err idx) := by
  unfold State.weirError
  (try dsimp only)
  exact (by split <;> [(exact (State.inc_keeps (hw.mono rfl) h_s (hw.mono rfl))); (exact (Keeps.set_weir (hw.mono rfl) h_s)); (exact (State.pulse_keeps (hw.mono rfl) (State.wrb_keeps (hw.mono rfl) (Keeps.set_weir (hw.mono rfl) h_s) (hw.mono rfl)))); (exact (State.pulse_keeps (hw.mono rfl) (State.wrb_keeps (hw.mono rfl) (Keeps.set_weir (hw.mono rfl) h_s) (hw.mono rfl)))); (exact (State.pulse_keeps (hw.mono rfl) (State.wrb_keeps (hw.mono rfl) (Keeps.set_weir (hw.mono rfl) h_s) (hw.mono rfl)))); (exact h_s)])

theorem State.commitPair_keeps {W : Nat} {z : State} {s : State} {ti : ℕ} {p : Pair} (hw : Within 0x108110201201a402 W) (h_s : Keeps W z s) : Keeps W z (State.commitPair s ti p) := by
  unfold State.commitPair
  (try dsimp only)
  exact (Keeps.ite (State.wr_keeps h_s (hw.mono rfl)) (State.considerAll_keeps (hw.mono rfl) (Keeps.set_weir (hw.mono rfl) (State.wr_keeps h_s (hw.mono rfl)))))

theorem execShaperCommit_keeps {W : Nat} {z : State} {ti : ℕ} {val : ℕ} {s : State} (hw : Within 0x108110201201a602 W) (h_s : Keeps W z s) : KeepsOut W z (execShaperCommit ti val s) := by
  unfold execShaperCommit
  (try dsimp only)
  exact (KeepsOut.onUnit (Keeps.ite (State.cfgErr_keeps (hw.mono rfl) h_s) (State.commitPair_keeps (hw.mono rfl) h_s)))

theorem execClassShaperCommit_keeps {W : Nat} {z : State} {x : ℕ} {t : ℕ} {val : ℕ} {s : State} (hw : Within 0x1000000010000 W) (h_s : Keeps W z s) : KeepsOut W z (execClassShaperCommit x t val s) := by
  unfold execClassShaperCommit
  (try dsimp only)
  exact (KeepsOut.onUnit (Keeps.ite (State.wr_keeps h_s (hw.mono rfl)) (Keeps.set_weir (hw.mono rfl) (State.wr_keeps h_s (hw.mono rfl)))))

theorem execRotationCommit_keeps {W : Nat} {z : State} {x : ℕ} {val : ℕ} {s : State} (hw : Within 0x1000400010200 W) (h_s : Keeps W z s) : KeepsOut W z (execRotationCommit x val s) := by
  unfold execRotationCommit
  (try dsimp only)
  exact (KeepsOut.onUnit (Keeps.ite h_s (Keeps.ite (State.wr_keeps h_s (hw.mono rfl)) (Keeps.ite (State.wr_keeps (State.conflict_keeps (hw.mono rfl) h_s) (hw.mono rfl)) (by split <;> [(exact (State.wr_keeps (State.conflict_keeps (hw.mono rfl) h_s) (hw.mono rfl))); (exact (Keeps.set_weir (hw.mono rfl) (State.wr_keeps (State.wrb_keeps (hw.mono rfl) h_s (hw.mono rfl)) (hw.mono rfl))))])))))

theorem execRotationCancel_keeps {W : Nat} {z : State} {x : ℕ} {val : ℕ} {s : State} (hw : Within 0x1000000000000 W) (h_s : Keeps W z s) : KeepsOut W z (execRotationCancel x val s) := by
  unfold execRotationCancel
  (try dsimp only)
  exact (KeepsOut.onUnit (Keeps.ite (State.wr_keeps (State.wrb_keeps (hw.mono rfl) h_s (hw.mono rfl)) (hw.mono rfl)) h_s))

theorem State.gateNow_keeps {W : Nat} {z : State} {s : State} {x : ℕ} (hw : Within 0x1000000000000 W) (h_s : Keeps W z s) : Keeps W z (State.gateNow s x) := by
  unfold State.gateNow
  (try dsimp only)
  exact (State.wr_keeps h_s (hw.mono rfl))

theorem State.cycleNow_keeps {W : Nat} {z : State} {s : State} {x : ℕ} (hw : Within 0x1000000000000 W) (h_s : Keeps W z s) : Keeps W z (State.cycleNow s x) := by
  unfold State.cycleNow
  (try dsimp only)
  exact (State.wr_keeps h_s (hw.mono rfl))

theorem State.rotActivate_keeps {W : Nat} {z : State} {s : State} {x : ℕ} (hw : Within 0x1000000010000 W) (h_s : Keeps W z s) : Keeps W z (State.rotActivate s x) := by
  unfold State.rotActivate
  (try dsimp only)
  exact (State.gateNow_keeps (hw.mono rfl) (State.cycleNow_keeps (hw.mono rfl) (State.rotUpdate_keeps (hw.mono rfl) (Keeps.set_weir (hw.mono rfl) (State.wr_keeps (State.wrb_keeps (hw.mono rfl) (State.wr_keeps (State.wr_keeps (State.wr_keeps (State.wr_keeps (State.wr_keeps (State.each_keeps h_s (fun _ h1 _ => (State.wr_keeps (State.wr_keeps h1 (hw.mono rfl)) (hw.mono rfl)))) (hw.mono rfl)) (hw.mono rfl)) (hw.mono rfl)) (hw.mono rfl)) (hw.mono rfl)) (hw.mono rfl)) (hw.mono rfl))))))

theorem State.gatesNow_keeps {W : Nat} {z : State} {s : State} (hw : Within 0x1000000000000 W) (h_s : Keeps W z s) : Keeps W z (State.gatesNow s) := by
  unfold State.gatesNow
  (try dsimp only)
  exact (State.each_keeps h_s (fun _ h1 _ => (State.gateNow_keeps (hw.mono rfl) (State.cycleNow_keeps (hw.mono rfl) h1))))

theorem State.rotationsDue_keeps {W : Nat} {z : State} {s : State} {by_ : ℕ} (hw : Within 0x1000000010000 W) (h_s : Keeps W z s) : Keeps W z (State.rotationsDue s by_) := by
  unfold State.rotationsDue
  (try dsimp only)
  exact (State.each_keeps h_s (fun _ h1 _ => (State.rotActivate_keeps (hw.mono rfl) h1)))

theorem execRotenWrite_keeps {W : Nat} {z : State} {x : ℕ} {val : ℕ} {s : State} (hw : Within 0x1000400000200 W) (h_s : Keeps W z s) : KeepsOut W z (execRotenWrite x val s) := by
  unfold execRotenWrite
  (try dsimp only)
  exact (KeepsOut.onUnit (Keeps.ite (State.conflict_keeps (hw.mono rfl) h_s) (by split <;> [(exact (State.conflict_keeps (hw.mono rfl) h_s)); (exact (State.rotUpdate_keeps (hw.mono rfl) (State.takeWord_keeps (hw.mono rfl) h_s (hw.mono rfl))))])))

theorem State.rotFault_keeps {W : Nat} {z : State} {s : State} {x : ℕ} (hw : Within 0x1000000010200 W) (h_s : Keeps W z s) : Keeps W z (State.rotFault s x) := by
  unfold State.rotFault
  (try dsimp only)
  exact (State.pulse_keeps (hw.mono rfl) (State.wrb_keeps (hw.mono rfl) (State.rotUpdate_keeps (hw.mono rfl) (Keeps.set_weir (hw.mono rfl) h_s)) (hw.mono rfl)))

/-! ### Mirror -/

theorem State.resvUpdate_keeps {W : Nat} {z : State} {s : State} (hw : Within 0x2000000000 W) (h_s : Keeps W z s) : Keeps W z (State.resvUpdate s) := by
  unfold State.resvUpdate
  (try dsimp only)
  exact (State.wr_keeps h_s (hw.mono rfl))

theorem State.mirStore_keeps {W : Nat} {z : State} {s : State} {k : ℕ} {p : ℕ} {of_ : ℕ × ℕ} {m : Msg} (hw : Within 0x1080102012008002 W) (h_s : Keeps W z s) : Keeps W z (State.mirStore s k p of_ m) := by
  unfold State.mirStore
  (try dsimp only)
  exact (State.enqueue_keeps (hw.mono rfl) (State.takeCells_keeps (hw.mono rfl) (Keeps.set_swc (hw.mono rfl) h_s)))

theorem State.mirRecord_keeps {W : Nat} {z : State} {s : State} {k : ℕ} {eg : ℕ} {out : Bool} {d : Stored} {m : Msg} (hw : Within 0x108010a012008202 W) (h_s : Keeps W z s) : Keeps W z (State.mirRecord s k eg out d m) := by
  unfold State.mirRecord
  (try dsimp only)
  exact (Keeps.ite (State.inc_keeps (hw.mono rfl) h_s (hw.mono rfl)) (Keeps.ite (State.each_keeps (State.wr_keeps (State.wr_keeps h_s (hw.mono rfl)) (hw.mono rfl)) (fun _ h1 _ => (State.mirStore_keeps (hw.mono rfl) h1))) (State.each_keeps (State.wr_keeps (State.wr_keeps h_s (hw.mono rfl)) (hw.mono rfl)) (fun _ h2 _ => (State.lostAtPort_keeps (hw.mono rfl) h2)))))

theorem State.mirMeet_keeps {W : Nat} {z : State} {s : State} {k : ℕ} {eg : ℕ} {out : Bool} {d : Stored} {m : Msg} (hw : Within 0x108010a012008202 W) (h_s : Keeps W z s) : Keeps W z (State.mirMeet s k eg out d m) := by
  unfold State.mirMeet
  (try dsimp only)
  exact (Keeps.ite (State.mirRecord_keeps (hw.mono rfl) (Keeps.set_swc (hw.mono rfl) h_s)) (Keeps.set_swc (hw.mono rfl) h_s))

theorem State.mirror_keeps {W : Nat} {z : State} {s : State} {x : ℕ} {eg : ℕ} {out : Bool} {d : Stored} {m : Msg} (hw : Within 0x108010a012008202 W) (h_s : Keeps W z s) : Keeps W z (State.mirror s x eg out d m) := by
  unfold State.mirror
  (try dsimp only)
  exact (Keeps.ite h_s (State.each_keeps h_s (fun _ h1 _ => (State.mirMeet_keeps (hw.mono rfl) h1))))

theorem State.mirrorIn_keeps {W : Nat} {z : State} {s : State} {id : ℕ} {egs : List ℕ} (hw : Within 0x108010a012008202 W) (h_s : Keeps W z s) : Keeps W z (State.mirrorIn s id egs) := by
  unfold State.mirrorIn
  (try dsimp only)
  exact (by split <;> [(exact h_s); (exact (State.mirror_keeps (hw.mono rfl) h_s))])

theorem execMirrorSessionWrite_keeps {W : Nat} {z : State} {k : ℕ} {word : ℕ} {val : ℕ} {s : State} (hw : Within 0xa400008220 W) (h_s : Keeps W z s) : KeepsOut W z (execMirrorSessionWrite k word val s) := by
  unfold execMirrorSessionWrite
  (try dsimp only)
  exact (KeepsOut.onUnit (Keeps.ite h_s (Keeps.ite (Keeps.ite (State.conflict_keeps (hw.mono rfl) h_s) (State.resvUpdate_keeps (hw.mono rfl) (State.takeWord_keeps (hw.mono rfl) (Keeps.ite (State.takeStaged_keeps (hw.mono rfl) h_s (hw.mono rfl)) h_s) (wordFields_within (by decide) (hw.mono rfl))))) (Keeps.ite (State.takeWord_keeps (hw.mono rfl) (Keeps.ite (State.takeStaged_keeps (hw.mono rfl) h_s (hw.mono rfl)) h_s) (wordFields_within (by decide) (hw.mono rfl))) (Keeps.ite (Keeps.ite (State.takeWord_keeps (hw.mono rfl) (Keeps.ite (State.takeStaged_keeps (hw.mono rfl) h_s (hw.mono rfl)) h_s) (wordFields_within (by decide) (hw.mono rfl))) (State.cfgErr_keeps (hw.mono rfl) h_s)) (Keeps.ite (State.stageLow_keeps (hw.mono rfl) h_s) (Keeps.ite (by split <;> [(exact (State.cfgErr_keeps (hw.mono rfl) h_s)); (exact (State.conflict_keeps (hw.mono rfl) h_s)); (exact (Keeps.ite (State.cfgErr_keeps (hw.mono rfl) h_s) (Keeps.set_swc (hw.mono rfl) (State.wr_keeps (State.wr_keeps (State.takeWord_keeps (hw.mono rfl) (Keeps.ite (State.takeStaged_keeps (hw.mono rfl) h_s (hw.mono rfl)) h_s) (wordFields_within (by decide) (hw.mono rfl))) (hw.mono rfl)) (hw.mono rfl)))))]) (State.takeWord_keeps (hw.mono rfl) (Keeps.ite (State.takeStaged_keeps (hw.mono rfl) h_s (hw.mono rfl)) h_s) (wordFields_within (by decide) (hw.mono rfl))))))))))

theorem execGroupCommit_keeps {W : Nat} {z : State} {g : ℕ} {val : ℕ} {s : State} (hw : Within 0x8400008200 W) (h_s : Keeps W z s) : KeepsOut W z (execGroupCommit g val s) := by
  unfold execGroupCommit
  (try dsimp only)
  exact (KeepsOut.onUnit (by split <;> [(exact (State.conflict_keeps (hw.mono rfl) h_s)); (exact (Keeps.set_swc (hw.mono rfl) (State.wrb_keeps (hw.mono rfl) (State.wr_keeps h_s (hw.mono rfl)) (hw.mono rfl))))]))

/-! ### Route -/

theorem State.unrouted_keeps {W : Nat} {z : State} {s : State} {m : Msg} (hw : Within 0x400800008202 W) (h_s : Keeps W z s) : Keeps W z (State.unrouted s m) := by
  unfold State.unrouted
  (try dsimp only)
  exact (Keeps.ite (State.lostAtLink_keeps (hw.mono rfl) h_s) (State.noRoute_keeps (hw.mono rfl) h_s))

theorem State.place_keeps {W : Nat} {z : State} {s : State} {x : ℕ} {m : Msg} {egs : List ℕ} (hw : Within 0x108810a01200a602 W) (h_s : Keeps W z s) : Keeps W z (State.place s x m egs) := by
  unfold State.place
  (try dsimp only)
  exact (State.each_keeps (State.mirrorIn_keeps (hw.mono rfl) (State.store_keeps (hw.mono rfl) (State.countMsg_keeps (hw.mono rfl) (State.when_keeps h_s (fun _ h1 => (State.mesh_keeps (hw.mono rfl) h1)))))) (fun _ h2 _ => (State.enqueue_keeps (hw.mono rfl) (State.when_keeps h2 (fun _ h3 => (State.countMsg_keeps (hw.mono rfl) h3))))))

theorem State.drain_keeps {W : Nat} {z : State} {a : ℕ} {a1 : State} (hw : Within 0x108810a01200a602 W) (h_a1 : Keeps W z a1) : Keeps W z (State.drain a a1) := by
  induction a generalizing a1 with
  | zero =>
    unfold State.drain
    (try dsimp only)
    exact h_a1
  | succ a ih =>
    unfold State.drain
    (try dsimp only)
    exact (by split <;> [(exact h_a1); (exact (Keeps.ite (ih (State.place_keeps (hw.mono rfl) (Keeps.set_swc (hw.mono rfl) h_a1))) h_a1))])

theorem State.drainAll_keeps {W : Nat} {z : State} {s : State} (hw : Within 0x108810a01200a602 W) (h_s : Keeps W z s) : Keeps W z (State.drainAll s) := by
  unfold State.drainAll
  (try dsimp only)
  exact (State.drain_keeps (hw.mono rfl) h_s)

theorem State.injectTo_keeps {W : Nat} {z : State} {s : State} {x : ℕ} {m : Msg} {egs : List ℕ} (hw : Within 0x108810a01200a602 W) (h_s : Keeps W z s) : Keeps W z (State.injectTo s x m egs) := by
  unfold State.injectTo
  (try dsimp only)
  exact (Keeps.ite h_s (State.drainAll_keeps (hw.mono rfl) (Keeps.set_swc (hw.mono rfl) h_s)))

theorem State.inject_keeps {W : Nat} {z : State} {s : State} {x : ℕ} {m : Msg} (hw : Within 0x108850a81200a602 W) (h_s : Keeps W z s) : Keeps W z (State.inject s x m) := by
  unfold State.inject
  (try dsimp only)
  exact (State.answering_keeps (hw.mono rfl) h_s (fun _ h1 => (by split <;> [(exact (State.unrouted_keeps (hw.mono rfl) h1)); (exact (Keeps.ite (State.lostAtPort_keeps (hw.mono rfl) h1) (State.injectTo_keeps (hw.mono rfl) h1)))])))

/-! ### Xlt -/

theorem State.setEntry_keeps {W : Nat} {z : State} {s : State} {i : ℕ} {e : ℕ} (hw : Within 0x20000 W) (h_s : Keeps W z s) : Keeps W z (State.setEntry s i e) := by
  unfold State.setEntry
  (try dsimp only)
  exact (Keeps.set_xlt (hw.mono rfl) h_s)

theorem State.entryTo_keeps {W : Nat} {z : State} {s : State} {i : ℕ} {v : ℕ} (hw : Within 0x20000 W) (h_s : Keeps W z s) : Keeps W z (State.entryTo s i v) := by
  unfold State.entryTo
  (try dsimp only)
  exact (State.setEntry_keeps (hw.mono rfl) h_s)

theorem State.poolMod_keeps {W : Nat} {z : State} {s : State} {p : ℕ} {f : PoolDev → PoolDev} (hw : Within 0x20000 W) (h_s : Keeps W z s) : Keeps W z (State.poolMod s p f) := by
  unfold State.poolMod
  (try dsimp only)
  exact (Keeps.set_xlt (hw.mono rfl) h_s)

theorem State.denyReply_keeps {W : Nat} {z : State} {s : State} {m : Msg} (hw : Within 0x8002 W) (h_s : Keeps W z s) : Keeps W z (State.denyReply s m) := by
  unfold State.denyReply
  (try dsimp only)
  exact (by split <;> [(exact (State.reply_keeps (hw.mono rfl) h_s)); (exact (State.reply_keeps (hw.mono rfl) h_s)); (exact (State.reply_keeps (hw.mono rfl) h_s)); (exact (State.reply_keeps (hw.mono rfl) h_s)); (exact (State.reply_keeps (hw.mono rfl) h_s)); (exact (State.reply_keeps (hw.mono rfl) h_s)); (exact h_s)])

theorem State.xltRecord_keeps {W : Nat} {z : State} {s : State} {m : Msg} {reason : ℕ} {addr : ℕ} (hw : Within 0x200000000200 W) (h_s : Keeps W z s) : Keeps W z (State.xltRecord s m reason addr) := by
  unfold State.xltRecord
  (try dsimp only)
  exact (State.pulse_keeps (hw.mono rfl) (State.wr2_keeps (hw.mono rfl) (State.wrb_keeps (hw.mono rfl) (State.wr_keeps (State.wr_keeps (State.wr_keeps (State.inc_keeps (hw.mono rfl) h_s (hw.mono rfl)) (hw.mono rfl)) (hw.mono rfl)) (hw.mono rfl)) (hw.mono rfl)) (hw.mono rfl) (hw.mono rfl)))

theorem State.xltDeny_keeps {W : Nat} {z : State} {s : State} {x : ℕ} {m : Msg} {reason : ℕ} {addr : ℕ} (hw : Within 0x200000008602 W) (h_s : Keeps W z s) : Keeps W z (State.xltDeny s x m reason addr) := by
  unfold State.xltDeny
  (try dsimp only)
  exact (Keeps.ite (State.denyReply_keeps (hw.mono rfl) (State.countMsg_keeps (hw.mono rfl) (State.xltRecord_keeps (hw.mono rfl) h_s))) (State.xltRecord_keeps (hw.mono rfl) h_s))

theorem State.startDrain_keeps {W : Nat} {z : State} {s : State} (hw : Within 0x200000020000 W) (h_s : Keeps W z s) : Keeps W z (State.startDrain s) := by
  unfold State.startDrain
  (try dsimp only)
  exact (Keeps.set_xlt (hw.mono rfl) (State.wrb_keeps (hw.mono rfl) (State.wr_keeps h_s (hw.mono rfl)) (hw.mono rfl)))

theorem State.releasing_keeps {W : Nat} {z : State} {s : State} {i : ℕ} (hw : Within 0x200000020000 W) (h_s : Keeps W z s) : Keeps W z (State.releasing s i) := by
  unfold State.releasing
  (try dsimp only)
  exact (Keeps.ite (Keeps.set_xlt (hw.mono rfl) (State.entryTo_keeps (hw.mono rfl) h_s)) (State.startDrain_keeps (hw.mono rfl) (Keeps.set_xlt (hw.mono rfl) (State.entryTo_keeps (hw.mono rfl) h_s))))

theorem State.settleMap_keeps {W : Nat} {z : State} {s : State} {i : ℕ} (hw : Within 0x20000 W) (h_s : Keeps W z s) : Keeps W z (State.settleMap s i) := by
  unfold State.settleMap
  (try dsimp only)
  exact (by split <;> [(exact (Keeps.ite h_s (State.entryTo_keeps (hw.mono rfl) (Keeps.set_xlt (hw.mono rfl) h_s)))); (exact h_s)])

theorem State.granted_keeps {W : Nat} {z : State} {s : State} {i : ℕ} {e : ℕ} {zero : Bool} {timed : Bool} (hw : Within 0x20000 W) (h_s : Keeps W z s) : Keeps W z (State.granted s i e zero timed) := by
  unfold State.granted
  (try dsimp only)
  exact (State.settleMap_keeps (hw.mono rfl) (Keeps.set_xlt (hw.mono rfl) (State.setEntry_keeps (hw.mono rfl) h_s)))

theorem State.released_keeps {W : Nat} {z : State} {s : State} {i : ℕ} (hw : Within 0x200000020000 W) (h_s : Keeps W z s) : Keeps W z (State.released s i) := by
  unfold State.released
  (try dsimp only)
  exact (Keeps.ite (Keeps.set_xlt (hw.mono rfl) (State.entryTo_keeps (hw.mono rfl) h_s)) (State.releasing_keeps (hw.mono rfl) h_s))

theorem State.mapQueued_keeps {W : Nat} {z : State} {s : State} (hw : Within 0x200000000000 W) (h_s : Keeps W z s) : Keeps W z (State.mapQueued s) := by
  unfold State.mapQueued
  (try dsimp only)
  exact (State.wr_keeps h_s (hw.mono rfl))

theorem State.mapEcc_keeps {W : Nat} {z : State} {s : State} {i : ℕ} {err : ℕ} (hw : Within 0x200000020200 W) (h_s : Keeps W z s) : Keeps W z (State.mapEcc s i err) := by
  unfold State.mapEcc
  (try dsimp only)
  exact (Keeps.ite (State.inc_keeps (hw.mono rfl) h_s (hw.mono rfl)) (Keeps.ite (State.pulse_keeps (hw.mono rfl) (State.wrb_keeps (hw.mono rfl) (State.wr_keeps (Keeps.set_xlt (hw.mono rfl) h_s) (hw.mono rfl)) (hw.mono rfl))) h_s))

theorem State.mapFail_keeps {W : Nat} {z : State} {s : State} {i : ℕ} {op : ℕ} {res : ℕ} (hw : Within 0x200000000200 W) (h_s : Keeps W z s) : Keeps W z (State.mapFail s i op res) := by
  unfold State.mapFail
  (try dsimp only)
  exact (State.cfgErr_keeps (hw.mono rfl) (State.wrb_keeps (hw.mono rfl) (State.wr_keeps (State.wr_keeps (State.wr_keeps h_s (hw.mono rfl)) (hw.mono rfl)) (hw.mono rfl)) (hw.mono rfl)))

theorem State.mapCommand_keeps {W : Nat} {z : State} {s : State} {op : ℕ} {val : ℕ} (hw : Within 0x200400020200 W) (h_s : Keeps W z s) : Keeps W z (State.mapCommand s op val) := by
  unfold State.mapCommand
  (try dsimp only)
  exact (Keeps.ite h_s (Keeps.ite (State.wr_keeps h_s (hw.mono rfl)) (Keeps.ite (State.wr_keeps h_s (hw.mono rfl)) (Keeps.ite (State.wr_keeps h_s (hw.mono rfl)) (Keeps.ite (State.wr_keeps h_s (hw.mono rfl)) (Keeps.ite (State.conflict_keeps (hw.mono rfl) h_s) (Keeps.ite (State.wr_keeps (State.mapQueued_keeps (hw.mono rfl) (Keeps.ite (State.granted_keeps (hw.mono rfl) (Keeps.set_xlt (hw.mono rfl) h_s)) (Keeps.set_xlt (hw.mono rfl) h_s))) (hw.mono rfl)) (Keeps.ite (State.wr_keeps (State.granted_keeps (hw.mono rfl) h_s) (hw.mono rfl)) (State.wr_keeps (State.mapQueued_keeps (hw.mono rfl) (State.released_keeps (hw.mono rfl) h_s)) (hw.mono rfl))))))))))

theorem State.applyMap_keeps {W : Nat} {z : State} {s : State} {c : TimedMap} (hw : Within 0x200000020200 W) (h_s : Keeps W z s) : Keeps W z (State.applyMap s c) := by
  unfold State.applyMap
  (try dsimp only)
  exact (Keeps.ite (State.mapFail_keeps (hw.mono rfl) (State.mapQueued_keeps (hw.mono rfl) (Keeps.set_xlt (hw.mono rfl) h_s))) (Keeps.ite (State.mapQueued_keeps (hw.mono rfl) (State.released_keeps (hw.mono rfl) (State.mapQueued_keeps (hw.mono rfl) (Keeps.set_xlt (hw.mono rfl) h_s)))) (Keeps.ite (State.settleMap_keeps (hw.mono rfl) (Keeps.set_xlt (hw.mono rfl) (State.mapQueued_keeps (hw.mono rfl) (Keeps.set_xlt (hw.mono rfl) h_s)))) (State.granted_keeps (hw.mono rfl) (State.mapQueued_keeps (hw.mono rfl) (Keeps.set_xlt (hw.mono rfl) h_s))))))

theorem execMapGrant_keeps {W : Nat} {z : State} {val : ℕ} {err : ℕ} {s : State} (hw : Within 0x200400020200 W) (h_s : Keeps W z s) : KeepsOut W z (execMapGrant val err s) := by
  unfold execMapGrant
  (try dsimp only)
  exact (KeepsOut.onUnit (State.mapCommand_keeps (hw.mono rfl) (State.when_keeps h_s (fun _ h1 => (State.mapEcc_keeps (hw.mono rfl) h1)))))

theorem execMapRelease_keeps {W : Nat} {z : State} {val : ℕ} {err : ℕ} {s : State} (hw : Within 0x200400020200 W) (h_s : Keeps W z s) : KeepsOut W z (execMapRelease val err s) := by
  unfold execMapRelease
  (try dsimp only)
  exact (KeepsOut.onUnit (State.mapCommand_keeps (hw.mono rfl) (State.when_keeps h_s (fun _ h1 => (State.mapEcc_keeps (hw.mono rfl) h1)))))

theorem State.zeroed_keeps {W : Nat} {z : State} {s : State} {i : ℕ} {ok : Bool} (hw : Within 0x200000020200 W) (h_s : Keeps W z s) : Keeps W z (State.zeroed s i ok) := by
  unfold State.zeroed
  (try dsimp only)
  exact (Keeps.ite (Keeps.ite (State.settleMap_keeps (hw.mono rfl) (Keeps.set_xlt (hw.mono rfl) h_s)) (State.mapFail_keeps (hw.mono rfl) (Keeps.set_xlt (hw.mono rfl) h_s))) h_s)

theorem State.drainEnd_keeps {W : Nat} {z : State} {s : State} (hw : Within 0x200000020000 W) (h_s : Keeps W z s) : Keeps W z (State.drainEnd s) := by
  unfold State.drainEnd
  (try dsimp only)
  exact (Keeps.ite (Keeps.set_xlt (hw.mono rfl) (State.wrb_keeps (hw.mono rfl) (State.each_keeps h_s (fun _ h1 _ => (State.entryTo_keeps (hw.mono rfl) h1))) (hw.mono rfl))) (State.startDrain_keeps (hw.mono rfl) (Keeps.set_xlt (hw.mono rfl) (State.wrb_keeps (hw.mono rfl) (State.each_keeps h_s (fun _ h2 _ => (State.entryTo_keeps (hw.mono rfl) h2))) (hw.mono rfl)))))

theorem execReleaseDrainEnd_keeps {W : Nat} {z : State} {s : State} (hw : Within 0x200000020000 W) (h_s : Keeps W z s) : KeepsOut W z (execReleaseDrainEnd s) := by
  unfold execReleaseDrainEnd
  (try dsimp only)
  exact (KeepsOut.next (Keeps.ite (State.drainEnd_keeps (hw.mono rfl) h_s) h_s))

theorem execMapidxWrite_keeps {W : Nat} {z : State} {val : ℕ} {s : State} (hw : Within 0x200000000000 W) (h_s : Keeps W z s) : KeepsOut W z (execMapidxWrite val s) := by
  unfold execMapidxWrite
  (try dsimp only)
  exact (KeepsOut.onUnit (State.wr2_keeps (hw.mono rfl) (State.wr_keeps h_s (hw.mono rfl)) (hw.mono rfl) (hw.mono rfl)))

theorem execShareGroupWrite_keeps {W : Nat} {z : State} {val : ℕ} {s : State} (hw : Within 0x200000000200 W) (h_s : Keeps W z s) : KeepsOut W z (execShareGroupWrite val s) := by
  unfold execShareGroupWrite
  (try dsimp only)
  exact (KeepsOut.onUnit (Keeps.ite (State.cfgErr_keeps (hw.mono rfl) h_s) (State.wr_keeps h_s (hw.mono rfl))))

theorem State.enumerate_keeps {W : Nat} {z : State} {s : State} {p : ℕ} (hw : Within 0x20000 W) (h_s : Keeps W z s) : Keeps W z (State.enumerate s p) := by
  unfold State.enumerate
  (try dsimp only)
  exact (Keeps.ite (State.poolMod_keeps (hw.mono rfl) h_s) h_s)

theorem execPoolportWrite_keeps {W : Nat} {z : State} {k : ℕ} {val : ℕ} {s : State} (hw : Within 0x200000020200 W) (h_s : Keeps W z s) : KeepsOut W z (execPoolportWrite k val s) := by
  unfold execPoolportWrite
  (try dsimp only)
  exact (KeepsOut.onUnit (Keeps.ite (State.each_keeps (State.wr_keeps h_s (hw.mono rfl)) (fun _ h1 _ => (State.enumerate_keeps (hw.mono rfl) h1))) (State.cfgErr_keeps (hw.mono rfl) h_s)))

theorem execHdmDecoderCommit_keeps {W : Nat} {z : State} {p : ℕ} {d : ℕ} {base : ℕ} {size : ℕ} {ways : ℕ} {gran : ℕ} {targets : List ℕ} {commit : Bool} {s : State} (hw : Within 0x20000 W) (h_s : Keeps W z s) : KeepsOut W z (execHdmDecoderCommit p d base size ways gran targets commit s) := by
  unfold execHdmDecoderCommit
  (try dsimp only)
  exact (KeepsOut.onUnit (State.onTile_keeps (hw.mono rfl) h_s (Keeps.ite (Keeps.set_xlt (hw.mono rfl) h_s) h_s)))

theorem State.hdmClear_keeps {W : Nat} {z : State} {s : State} {p : ℕ} (hw : Within 0x20000 W) (h_s : Keeps W z s) : Keeps W z (State.hdmClear s p) := by
  unfold State.hdmClear
  (try dsimp only)
  exact (Keeps.set_xlt (hw.mono rfl) h_s)

theorem execAddDynamicCapacity_keeps {W : Nat} {z : State} {p : ℕ} {ld : ℕ} {dpa : ℕ} {len : ℕ} {s : State} (hw : Within 0x20002 W) (h_s : Keeps W z s) : KeepsOut W z (execAddDynamicCapacity p ld dpa len s) := by
  unfold execAddDynamicCapacity
  (try dsimp only)
  exact (KeepsOut.onUnit (Keeps.ite (State.send_keeps (hw.mono rfl) (State.poolMod_keeps (hw.mono rfl) h_s)) h_s))

theorem execDcdReleaseRequest_keeps {W : Nat} {z : State} {p : ℕ} {ld : ℕ} {dpa : ℕ} {len : ℕ} {s : State} (hw : Within 0x20002 W) (h_s : Keeps W z s) : KeepsOut W z (execDcdReleaseRequest p ld dpa len s) := by
  unfold execDcdReleaseRequest
  (try dsimp only)
  exact (KeepsOut.onUnit (Keeps.ite (State.send_keeps (hw.mono rfl) (State.poolMod_keeps (hw.mono rfl) h_s)) h_s))

theorem execDcdForcedRemoval_keeps {W : Nat} {z : State} {p : ℕ} {ld : ℕ} {dpa : ℕ} {len : ℕ} {s : State} (hw : Within 0x200000020200 W) (h_s : Keeps W z s) : KeepsOut W z (execDcdForcedRemoval p ld dpa len s) := by
  unfold execDcdForcedRemoval
  (try dsimp only)
  exact (KeepsOut.onUnit (Keeps.ite (State.poolMod_keeps (hw.mono rfl) h_s) (State.pulse_keeps (hw.mono rfl) (State.mapQueued_keeps (hw.mono rfl) (State.each_keeps (State.poolMod_keeps (hw.mono rfl) h_s) (fun _ h1 _ => (State.releasing_keeps (hw.mono rfl) (Keeps.set_xlt (hw.mono rfl) h1))))))))

theorem State.winSwap_keeps {W : Nat} {z : State} {s : State} {p : ℕ} (hw : Within 0x200000000000 W) (h_s : Keeps W z s) : Keeps W z (State.winSwap s p) := by
  unfold State.winSwap
  (try dsimp only)
  exact (State.wrb_keeps (hw.mono rfl) (State.wrb_keeps (hw.mono rfl) (State.wrb_keeps (hw.mono rfl) (State.wr_keeps (State.each_keeps h_s (fun _ h1 _ => (State.wr_keeps (State.wr_keeps h1 (hw.mono rfl)) (hw.mono rfl)))) (hw.mono rfl)) (hw.mono rfl)) (hw.mono rfl)) (hw.mono rfl))

theorem State.winGo_keeps {W : Nat} {z : State} {s : State} {p : ℕ} (hw : Within 0x200000000000 W) (h_s : Keeps W z s) : Keeps W z (State.winGo s p) := by
  unfold State.winGo
  (try dsimp only)
  exact (Keeps.ite (State.wrb_keeps (hw.mono rfl) h_s (hw.mono rfl)) (State.winSwap_keeps (hw.mono rfl) h_s))

theorem State.winHeld_keeps {W : Nat} {z : State} {s : State} {p : ℕ} (hw : Within 0x200000000000 W) (h_s : Keeps W z s) : Keeps W z (State.winHeld s p) := by
  unfold State.winHeld
  (try dsimp only)
  exact (Keeps.ite (State.winGo_keeps (hw.mono rfl) h_s) h_s)

theorem execWindowCommit_keeps {W : Nat} {z : State} {p : ℕ} {val : ℕ} {s : State} (hw : Within 0x200400020200 W) (h_s : Keeps W z s) : KeepsOut W z (execWindowCommit p val s) := by
  unfold execWindowCommit
  (try dsimp only)
  exact (KeepsOut.onUnit (State.onTile_keeps (hw.mono rfl) h_s (Keeps.ite h_s (Keeps.ite (State.winGo_keeps (hw.mono rfl) h_s) (Keeps.ite (State.cfgErr_keeps (hw.mono rfl) h_s) (Keeps.ite (State.conflict_keeps (hw.mono rfl) h_s) (Keeps.set_xlt (hw.mono rfl) h_s)))))))

theorem State.applyWindow_keeps {W : Nat} {z : State} {s : State} {w : TimedWin} (hw : Within 0x200000020000 W) (h_s : Keeps W z s) : Keeps W z (State.applyWindow s w) := by
  unfold State.applyWindow
  (try dsimp only)
  exact (State.winGo_keeps (hw.mono rfl) (Keeps.set_xlt (hw.mono rfl) h_s))

theorem execWindowShadowRefreshed_keeps {W : Nat} {z : State} {p : ℕ} {s : State} (hw : Within 0x200000000000 W) (h_s : Keeps W z s) : KeepsOut W z (execWindowShadowRefreshed p s) := by
  unfold execWindowShadowRefreshed
  (try dsimp only)
  exact (KeepsOut.onUnit (Keeps.ite (State.winHeld_keeps (hw.mono rfl) (State.wrb_keeps (hw.mono rfl) (State.each_keeps h_s (fun _ h1 _ => (State.wr_keeps h1 (hw.mono rfl)))) (hw.mono rfl))) h_s))

theorem execWindowDrainEnd_keeps {W : Nat} {z : State} {p : ℕ} {s : State} (hw : Within 0x200000000000 W) (h_s : Keeps W z s) : KeepsOut W z (execWindowDrainEnd p s) := by
  unfold execWindowDrainEnd
  (try dsimp only)
  exact (KeepsOut.onUnit (Keeps.ite (State.winHeld_keeps (hw.mono rfl) (State.wrb_keeps (hw.mono rfl) h_s (hw.mono rfl))) h_s))

theorem State.xltReset_keeps {W : Nat} {z : State} {s : State} (hw : Within 0x200000020000 W) (h_s : Keeps W z s) : Keeps W z (State.xltReset s) := by
  unfold State.xltReset
  (try dsimp only)
  exact (State.each_keeps (Keeps.set_xlt (hw.mono rfl) (State.wrb_keeps (hw.mono rfl) (State.each_keeps h_s (fun _ h1 _ => (State.entryTo_keeps (hw.mono rfl) h1))) (hw.mono rfl))) (fun _ h2 _ => (State.when_keeps h2 (fun _ h3 => (State.winHeld_keeps (hw.mono rfl) (State.wrb_keeps (hw.mono rfl) h3 (hw.mono rfl)))))))

/-! ### Chk -/

theorem State.chkDeny_keeps {W : Nat} {z : State} {s : State} {g : ℕ} {reason : ℕ} {rule : Option ℕ} {w : Who} {addr : ℕ} (hw : Within 0x800000000200 W) (h_s : Keeps W z s) : Keeps W z (State.chkDeny s g reason rule w addr) := by
  unfold State.chkDeny
  (try dsimp only)
  exact (State.pulse_keeps (hw.mono rfl) (State.wr_keeps (State.wr_keeps (State.wr2_keeps (hw.mono rfl) (State.wrb_keeps (hw.mono rfl) (State.wr_keeps (State.wr_keeps (State.wr_keeps (State.wrb_keeps (hw.mono rfl) (State.wr_keeps (State.wr_keeps (State.inc_keeps (hw.mono rfl) (State.inc_keeps (hw.mono rfl) h_s (hw.mono rfl)) (hw.mono rfl)) (hw.mono rfl)) (hw.mono rfl)) (hw.mono rfl)) (hw.mono rfl)) (hw.mono rfl)) (hw.mono rfl)) (hw.mono rfl)) (hw.mono rfl) (hw.mono rfl)) (hw.mono rfl)) (hw.mono rfl)))

theorem State.debugDenied_keeps {W : Nat} {z : State} {s : State} {g : ℕ} {rule : ℕ} {addr : ℕ} {write : Bool} {dict : Bool} (hw : Within 0x800000000200 W) (h_s : Keeps W z s) : Keeps W z (State.debugDenied s g rule addr write dict) := by
  unfold State.debugDenied
  (try dsimp only)
  exact (State.pulse_keeps (hw.mono rfl) (State.wr_keeps (State.wr2_keeps (hw.mono rfl) (State.wr_keeps (State.wrb_keeps (hw.mono rfl) (State.wrb_keeps (hw.mono rfl) (State.wrb_keeps (hw.mono rfl) (State.wr_keeps (State.wr_keeps (State.wr_keeps (State.wr_keeps h_s (hw.mono rfl)) (hw.mono rfl)) (hw.mono rfl)) (hw.mono rfl)) (hw.mono rfl)) (hw.mono rfl)) (hw.mono rfl)) (hw.mono rfl)) (hw.mono rfl) (hw.mono rfl)) (hw.mono rfl)))

theorem State.debugMark_keeps {W : Nat} {z : State} {s : State} {m : Msg} (hw : Within 0x201000000 W) (h_s : Keeps W z s) : Keeps W z (State.debugMark s m) := by
  unfold State.debugMark
  (try dsimp only)
  exact (Keeps.ite (Keeps.set_tap (hw.mono rfl) h_s) (State.tndMod_keeps (hw.mono rfl) h_s))

theorem State.denyParts_keeps {W : Nat} {z : State} {s : State} {g : ℕ} {m : Msg} {ps : List (ℕ × ℕ × ℕ × Option ℕ)} {dict : Bool} (hw : Within 0x800201000600 W) (h_s : Keeps W z s) : Keeps W z (State.denyParts s g m ps dict) := by
  unfold State.denyParts
  (try dsimp only)
  exact (State.each_keeps h_s (fun _ h1 _ => (Keeps.ite (State.countMsg_keeps (hw.mono rfl) (State.when_keeps (Keeps.ite (State.debugDenied_keeps (hw.mono rfl) (State.chkDeny_keeps (hw.mono rfl) h1)) (State.chkDeny_keeps (hw.mono rfl) h1)) (fun _ h2 => (State.debugMark_keeps (hw.mono rfl) h2)))) (State.countMsg_keeps (hw.mono rfl) (State.when_keeps (Keeps.ite (State.debugDenied_keeps (hw.mono rfl) (State.chkDeny_keeps (hw.mono rfl) h1)) (State.chkDeny_keeps (hw.mono rfl) h1)) (fun _ h3 => (State.debugMark_keeps (hw.mono rfl) h3)))))))

theorem State.gateReply_keeps {W : Nat} {z : State} {s : State} {m : Msg} (hw : Within 0x108810a01200a602 W) (h_s : Keeps W z s) : Keeps W z (State.gateReply s m) := by
  unfold State.gateReply
  (try dsimp only)
  exact (Keeps.ite h_s (Keeps.ite (Keeps.ite (by split <;> [(exact (State.injectTo_keeps (hw.mono rfl) h_s)); (exact (State.injectTo_keeps (hw.mono rfl) h_s)); (exact (State.injectTo_keeps (hw.mono rfl) h_s)); (exact (State.injectTo_keeps (hw.mono rfl) h_s)); (exact (State.injectTo_keeps (hw.mono rfl) h_s))]) h_s) (State.denyReply_keeps (hw.mono rfl) h_s)))

theorem State.gateCheck_keeps {W : Nat} {z : State} {s : State} {g : ℕ} {m : Msg} (hw : Within 0x108890a21300a602 W) (h_s : Keeps W z s) : Keeps W z (State.gateCheck s g m).2 := by
  unfold State.gateCheck
  (try dsimp only)
  exact (Keeps.ite2 h_s (Keeps.ite2 h_s (Keeps.ite2 (State.gateReply_keeps (hw.mono rfl) (State.denyParts_keeps (hw.mono rfl) h_s)) (State.gateReply_keeps (hw.mono rfl) (State.denyParts_keeps (hw.mono rfl) h_s)))))

theorem State.innerCheck_keeps {W : Nat} {z : State} {s : State} {space : Bool} {m : Msg} {n : ℕ} {dict : Bool} (hw : Within 0x800201000600 W) (h_s : Keeps W z s) : Keeps W z (State.innerCheck s space m n dict).2 := by
  unfold State.innerCheck
  (try dsimp only)
  exact (State.denyParts_keeps (hw.mono rfl) h_s)

theorem State.zeroGate_keeps {W : Nat} {z : State} {s : State} {g : ℕ} {i : ℕ} {a : ℕ} (hw : Within 0x800201000600 W) (h_s : Keeps W z s) : Keeps W z (State.zeroGate s g i a).2 := by
  unfold State.zeroGate
  (try dsimp only)
  exact (by split <;> [(exact (State.denyParts_keeps (hw.mono rfl) h_s)); (exact h_s)])

theorem State.zeroWrites_keeps {W : Nat} {z s : State} {i : ℕ} (hw : Within 0xa00201000600 W) (h_s : Keeps W z s) :
    Keeps W z (State.zeroWrites s i).2 := by
  have h1 := State.zeroGate_keeps (g := 64) (i := i) (a := (s.zeroMsg i).addr) (hw.mono rfl) h_s
  change Keeps W z (match s.zeroGate 64 i (s.zeroMsg i).addr with
    | (ok, t) => if ¬ ok then (false, t)
      else match t.allot (s.zeroMsg i) (s.zeroMsg i).addr with
        | .send n => if t.dlUp n.dest then t.zeroGate n.dest i n.tgt else (false, t)
        | .deny reason at_ => (false, t.xltRecord (s.zeroMsg i) reason at_)
        | .lost => (false, t)).2
  generalize s.zeroGate 64 i (s.zeroMsg i).addr = r at h1 ⊢
  obtain ⟨ok, t⟩ := r
  cases ok
  · exact h1
  · change Keeps W z (match t.allot (s.zeroMsg i) (s.zeroMsg i).addr with
      | .send n => if t.dlUp n.dest then t.zeroGate n.dest i n.tgt else (false, t)
      | .deny reason at_ => (false, t.xltRecord (s.zeroMsg i) reason at_)
      | .lost => (false, t)).2
    generalize t.allot (s.zeroMsg i) (s.zeroMsg i).addr = v
    cases v with
    | send n =>
      by_cases up : t.dlUp n.dest = true
      · simp only [up, if_true]
        exact State.zeroGate_keeps (hw.mono rfl) h1
      · simp only [up, if_false, Bool.false_eq_true]
        exact h1
    | deny reason at_ =>
      simp only
      exact State.xltRecord_keeps (hw.mono rfl) h1
    | lost =>
      simp only
      exact h1

theorem execZeroingDone_keeps {W : Nat} {z : State} {idx : ℕ} {ok : Bool} {s : State} (hw : Within 0xa00201020600 W) (h_s : Keeps W z s) : KeepsOut W z (execZeroingDone idx ok s) := by
  unfold execZeroingDone
  (try dsimp only)
  exact (KeepsOut.onUnit (Keeps.ite (State.zeroed_keeps (hw.mono rfl) (State.zeroWrites_keeps (hw.mono rfl) h_s)) h_s))

theorem execHdmCommitDone_keeps {W : Nat} {z : State} {p : ℕ} {mld : Bool} {caps : List ℕ} {s : State} (hw : Within 0x800201020600 W) (h_s : Keeps W z s) : KeepsOut W z (execHdmCommitDone p mld caps s) := by
  unfold execHdmCommitDone
  (try dsimp only)
  exact (KeepsOut.onUnit (Keeps.ite h_s (Keeps.ite (State.denyParts_keeps (hw.mono rfl) h_s) (State.poolMod_keeps (hw.mono rfl) h_s))))

theorem State.loadErr_keeps {W : Nat} {z : State} {s : State} {g : ℕ} {a : ℕ} {b : ℕ} (hw : Within 0x800000000000 W) (h_s : Keeps W z s) : Keeps W z (State.loadErr s g a b) := by
  unfold State.loadErr
  (try dsimp only)
  exact (State.wr_keeps (State.wr_keeps (State.wr_keeps h_s (hw.mono rfl)) (hw.mono rfl)) (hw.mono rfl))

theorem State.countRules_keeps {W : Nat} {z : State} {s : State} {g : ℕ} (hw : Within 0x800000000000 W) (h_s : Keeps W z s) : Keeps W z (State.countRules s g) := by
  unfold State.countRules
  (try dsimp only)
  exact (State.wr_keeps h_s (hw.mono rfl))

theorem State.gateSwap_keeps {W : Nat} {z : State} {s : State} {g : ℕ} (hw : Within 0x800000040000 W) (h_s : Keeps W z s) : Keeps W z (State.gateSwap s g) := by
  unfold State.gateSwap
  (try dsimp only)
  exact (State.countRules_keeps (hw.mono rfl) (State.wrb_keeps (hw.mono rfl) (State.wrb_keeps (hw.mono rfl) (State.wrb_keeps (hw.mono rfl) (State.wrb_keeps (hw.mono rfl) (State.wr_keeps (State.wr_keeps (State.wr_keeps (Keeps.set_chk (hw.mono rfl) h_s) (hw.mono rfl)) (hw.mono rfl)) (hw.mono rfl)) (hw.mono rfl)) (hw.mono rfl)) (hw.mono rfl)) (hw.mono rfl)))

theorem State.pendCount_keeps {W : Nat} {z : State} {s : State} (hw : Within 0x800000000000 W) (h_s : Keeps W z s) : Keeps W z (State.pendCount s) := by
  unfold State.pendCount
  (try dsimp only)
  exact (State.wr_keeps h_s (hw.mono rfl))

theorem State.commitDue_keeps {W : Nat} {z : State} {s : State} {c : ChkCommit} (hw : Within 0x804000440000 W) (h_s : Keeps W z s) : Keeps W z (State.commitDue s c) := by
  unfold State.commitDue
  (try dsimp only)
  exact (Keeps.ite (State.each_keeps h_s (fun _ h1 _ => (State.wrb_keeps (hw.mono rfl) h1 (hw.mono rfl)))) (State.pendCount_keeps (hw.mono rfl) (State.each_keeps (State.each_keeps (Keeps.set_chk (hw.mono rfl) h_s) (fun _ h2 _ => (State.gateSwap_keeps (hw.mono rfl) h2))) (fun _ h3 _ => (State.tabled_keeps (hw.mono rfl) h3)))))

theorem State.commitsDue_keeps {W : Nat} {z : State} {s : State} {by_ : ℕ} (hw : Within 0x804000440000 W) (h_s : Keeps W z s) : Keeps W z (State.commitsDue s by_) := by
  unfold State.commitsDue
  (try dsimp only)
  exact (State.each_keeps h_s (fun _ h1 _ => (State.commitDue_keeps (hw.mono rfl) h1)))

theorem execChkRuleStore_keeps {W : Nat} {z : State} {val : ℕ} {s : State} (hw : Within 0x800000040200 W) (h_s : Keeps W z s) : KeepsOut W z (execChkRuleStore val s) := by
  unfold execChkRuleStore
  (try dsimp only)
  exact (KeepsOut.onUnit (Keeps.ite (State.cfgErr_keeps (hw.mono rfl) h_s) (Keeps.set_chk (hw.mono rfl) (State.wr_keeps h_s (hw.mono rfl)))))

theorem execChkStagingClear_keeps {W : Nat} {z : State} {val : ℕ} {s : State} (hw : Within 0x40200 W) (h_s : Keeps W z s) : KeepsOut W z (execChkStagingClear val s) := by
  unfold execChkStagingClear
  (try dsimp only)
  exact (KeepsOut.onUnit (Keeps.ite h_s (Keeps.ite (State.cfgErr_keeps (hw.mono rfl) h_s) (Keeps.set_chk (hw.mono rfl) h_s))))

theorem execChkCommit_keeps {W : Nat} {z : State} {val : ℕ} {s : State} (hw : Within 0x800400040200 W) (h_s : Keeps W z s) : KeepsOut W z (execChkCommit val s) := by
  unfold execChkCommit
  (try dsimp only)
  exact (KeepsOut.onUnit (Keeps.ite h_s (Keeps.ite h_s (Keeps.ite (State.wr_keeps h_s (hw.mono rfl)) (Keeps.ite (State.wr_keeps h_s (hw.mono rfl)) (Keeps.ite (State.conflict_keeps (hw.mono rfl) h_s) (State.wrb_keeps (hw.mono rfl) (Keeps.set_chk (hw.mono rfl) h_s) (hw.mono rfl))))))))

theorem execChkValidationDone_keeps {W : Nat} {z : State} {s : State} (hw : Within 0x804400440200 W) (h_s : Keeps W z s) : KeepsOut W z (execChkValidationDone s) := by
  unfold execChkValidationDone
  (try dsimp only)
  exact (by split <;> [(exact (KeepsOut.next h_s)); (exact (by split <;> [(exact (KeepsOut.next (State.loadErr_keeps (hw.mono rfl) (State.wr_keeps (State.wrb_keeps (hw.mono rfl) (Keeps.set_chk (hw.mono rfl) h_s) (hw.mono rfl)) (hw.mono rfl))))); (exact (KeepsOut.ite (KeepsOut.next (State.conflict_keeps (hw.mono rfl) (State.wrb_keeps (hw.mono rfl) (Keeps.set_chk (hw.mono rfl) h_s) (hw.mono rfl)))) (KeepsOut.next (Keeps.ite (State.commitDue_keeps (hw.mono rfl) (State.pendCount_keeps (hw.mono rfl) (State.wr_keeps (State.wr_keeps (Keeps.set_chk (hw.mono rfl) (State.wrb_keeps (hw.mono rfl) (Keeps.set_chk (hw.mono rfl) h_s) (hw.mono rfl))) (hw.mono rfl)) (hw.mono rfl)))) (State.pendCount_keeps (hw.mono rfl) (State.wr_keeps (State.wr_keeps (Keeps.set_chk (hw.mono rfl) (State.wrb_keeps (hw.mono rfl) (Keeps.set_chk (hw.mono rfl) h_s) (hw.mono rfl))) (hw.mono rfl)) (hw.mono rfl)))))))]))])

theorem execChkWithdraw_keeps {W : Nat} {z : State} {val : ℕ} {s : State} (hw : Within 0x800000040000 W) (h_s : Keeps W z s) : KeepsOut W z (execChkWithdraw val s) := by
  unfold execChkWithdraw
  (try dsimp only)
  exact (KeepsOut.onUnit (Keeps.ite h_s (Keeps.ite h_s (by split <;> [(exact (State.wr_keeps h_s (hw.mono rfl))); (exact (State.pendCount_keeps (hw.mono rfl) (State.wr_keeps (State.each_keeps (Keeps.set_chk (hw.mono rfl) h_s) (fun _ h1 _ => (State.wrb_keeps (hw.mono rfl) h1 (hw.mono rfl)))) (hw.mono rfl))))]))))

theorem execChkDrainEnd_keeps {W : Nat} {z : State} {g : ℕ} {s : State} (hw : Within 0x804000440000 W) (h_s : Keeps W z s) : KeepsOut W z (execChkDrainEnd g s) := by
  unfold execChkDrainEnd
  (try dsimp only)
  exact (KeepsOut.onUnit (Keeps.ite (State.commitsDue_keeps (hw.mono rfl) (State.wrb_keeps (hw.mono rfl) h_s (hw.mono rfl))) h_s))

theorem execChkStagingRewriteDone_keeps {W : Nat} {z : State} {g : ℕ} {s : State} (hw : Within 0x800000040000 W) (h_s : Keeps W z s) : KeepsOut W z (execChkStagingRewriteDone g s) := by
  unfold execChkStagingRewriteDone
  (try dsimp only)
  exact (KeepsOut.onUnit (Keeps.ite (State.wrb_keeps (hw.mono rfl) (State.wr_keeps (Keeps.set_chk (hw.mono rfl) h_s) (hw.mono rfl)) (hw.mono rfl)) h_s))

theorem State.gateError_keeps {W : Nat} {z : State} {s : State} {g : ℕ} {err : ℕ} (hw : Within 0x800000000200 W) (h_s : Keeps W z s) : Keeps W z (State.gateError s g err) := by
  unfold State.gateError
  (try dsimp only)
  exact (Keeps.ite (State.inc_keeps (hw.mono rfl) h_s (hw.mono rfl)) (Keeps.ite (State.pulse_keeps (hw.mono rfl) (State.wrb_keeps (hw.mono rfl) (State.wr_keeps (State.wrb_keeps (hw.mono rfl) h_s (hw.mono rfl)) (hw.mono rfl)) (hw.mono rfl))) h_s))

theorem execChkScrub_keeps {W : Nat} {z : State} {g : ℕ} {err : ℕ} {s : State} (hw : Within 0x800000000200 W) (h_s : Keeps W z s) : KeepsOut W z (execChkScrub g err s) := by
  unfold execChkScrub
  (try dsimp only)
  exact (KeepsOut.onUnit (State.gateError_keeps (hw.mono rfl) h_s))

theorem State.chkImage_keeps {W : Nat} {z : State} {s : State} (hw : Within 0x800000040000 W) (h_s : Keeps W z s) : KeepsOpt W z (State.chkImage s) := by
  unfold State.chkImage
  (try dsimp only)
  exact (KeepsOpt.ite KeepsOpt.none (KeepsOpt.some (State.each_keeps (Keeps.set_chk (hw.mono rfl) h_s) (fun _ h1 _ => (State.countRules_keeps (hw.mono rfl) (State.wrb_keeps (hw.mono rfl) (State.wr_keeps h1 (hw.mono rfl)) (hw.mono rfl)))))))

theorem State.gatesDrained_keeps {W : Nat} {z : State} {s : State} {gs : List ℕ} (hw : Within 0x804000440000 W) (h_s : Keeps W z s) : Keeps W z (State.gatesDrained s gs) := by
  unfold State.gatesDrained
  (try dsimp only)
  exact (State.commitsDue_keeps (hw.mono rfl) (State.each_keeps h_s (fun _ h1 _ => (State.wrb_keeps (hw.mono rfl) h1 (hw.mono rfl)))))

theorem State.chkReset_keeps {W : Nat} {z : State} {s : State} (hw : Within 0x804000440000 W) (h_s : Keeps W z s) : Keeps W z (State.chkReset s) := by
  unfold State.chkReset
  (try dsimp only)
  exact (State.gatesDrained_keeps (hw.mono rfl) h_s)

/-! ### Log -/

theorem State.msiVf_keeps {W : Nat} {z : State} {s : State} {ti : ℕ} {vec : ℕ} (hw : Within 0x400000000000002 W) (h_s : Keeps W z s) : Keeps W z (State.msiVf s ti vec) := by
  unfold State.msiVf
  (try dsimp only)
  exact (by split <;> [(exact (Keeps.ite (State.putb_keeps (hw.mono rfl) h_s (hw.mono rfl)) (State.send_keeps (hw.mono rfl) h_s))); (exact h_s)])

theorem State.tenderSend_keeps {W : Nat} {z : State} {s : State} {m : Msg} (hw : Within 0x108850a81200a602 W) (h_s : Keeps W z s) : Keeps W z (State.tenderSend s m) := by
  unfold State.tenderSend
  (try dsimp only)
  exact (State.inject_keeps (hw.mono rfl) h_s)

theorem State.logFail_keeps {W : Nat} {z : State} {s : State} {ti : ℕ} (hw : Within 0x4000000000200 W) (h_s : Keeps W z s) : Keeps W z (State.logFail s ti) := by
  unfold State.logFail
  (try dsimp only)
  exact (State.pulse_keeps (hw.mono rfl) (State.wrb_keeps (hw.mono rfl) h_s (hw.mono rfl)))

theorem State.backGone_keeps {W : Nat} {z : State} {s : State} {id : ℕ} (hw : Within 0x200000 W) (h_s : Keeps W z s) : Keeps W z (State.backGone s id) := by
  unfold State.backGone
  (try dsimp only)
  exact (Keeps.set_ten (hw.mono rfl) h_s)

theorem State.backSend_keeps {W : Nat} {z : State} {s : State} {b : LogBack} {ph : ℕ} {data : ℕ} (hw : Within 0x108850a81220a602 W) (h_s : Keeps W z s) : Keeps W z (State.backSend s b ph data) := by
  unfold State.backSend
  (try dsimp only)
  exact (Keeps.set_ten (hw.mono rfl) (State.tenderSend_keeps (hw.mono rfl) h_s))

theorem State.tenderDenied_keeps {W : Nat} {z : State} {s : State} {m : Msg} (hw : Within 0x200400 W) (h_s : Keeps W z s) : Keeps W z (State.tenderDenied s m) := by
  unfold State.tenderDenied
  (try dsimp only)
  exact (Keeps.set_flm_ten (hw.mono rfl) h_s)

theorem State.logEvict_keeps {W : Nat} {z : State} {s : State} {w : LogWord} (hw : Within 0x108850a81220a602 W) (h_s : Keeps W z s) : Keeps W z (State.logEvict s w) := by
  unfold State.logEvict
  (try dsimp only)
  exact (Keeps.ite (Keeps.set_ten (hw.mono rfl) h_s) (State.backSend_keeps (hw.mono rfl) (Keeps.set_ten (hw.mono rfl) h_s)))

theorem State.backEnd_keeps {W : Nat} {z : State} {s : State} {b : LogBack} {ok : Bool} (hw : Within 0x108c50a81220a602 W) (h_s : Keeps W z s) : Keeps W z (State.backEnd s b ok) := by
  unfold State.backEnd
  (try dsimp only)
  exact (by split <;> [(exact (Keeps.ite (State.backSend_keeps (hw.mono rfl) (State.when_keeps (State.backGone_keeps (hw.mono rfl) h_s) (fun _ h1 => (State.logFail_keeps (hw.mono rfl) h1)))) (State.when_keeps (State.backGone_keeps (hw.mono rfl) h_s) (fun _ h2 => (State.logFail_keeps (hw.mono rfl) h2))))); (exact (State.when_keeps (State.backGone_keeps (hw.mono rfl) h_s) (fun _ h3 => (State.logFail_keeps (hw.mono rfl) h3))))])

theorem State.logGather_keeps {W : Nat} {z : State} {s : State} {ti : ℕ} {word : ℕ} {bit : ℕ} (hw : Within 0x108850a81220a602 W) (h_s : Keeps W z s) : Keeps W z (State.logGather s ti word bit) := by
  unfold State.logGather
  (try dsimp only)
  exact (Keeps.ite (by split <;> [(exact (State.logEvict_keeps (hw.mono rfl) (Keeps.ite (by split <;> [(exact (State.logEvict_keeps (hw.mono rfl) (Keeps.set_ten (hw.mono rfl) h_s))); (exact (Keeps.set_ten (hw.mono rfl) h_s))]) (Keeps.set_ten (hw.mono rfl) h_s)))); (exact (Keeps.ite (by split <;> [(exact (State.logEvict_keeps (hw.mono rfl) (Keeps.set_ten (hw.mono rfl) h_s))); (exact (Keeps.set_ten (hw.mono rfl) h_s))]) (Keeps.set_ten (hw.mono rfl) h_s)))]) (Keeps.ite (by split <;> [(exact (State.logEvict_keeps (hw.mono rfl) (Keeps.set_ten (hw.mono rfl) h_s))); (exact (Keeps.set_ten (hw.mono rfl) h_s))]) (Keeps.set_ten (hw.mono rfl) h_s)))

theorem State.logPage_keeps {W : Nat} {z : State} {s : State} {ti : ℕ} {page : ℕ} (hw : Within 0x108c50a81220a602 W) (h_s : Keeps W z s) : Keeps W z (State.logPage s ti page) := by
  unfold State.logPage
  (try dsimp only)
  exact (Keeps.ite (State.logGather_keeps (hw.mono rfl) h_s) (State.wrb_keeps (hw.mono rfl) h_s (hw.mono rfl)))

theorem State.logWrite_keeps {W : Nat} {z : State} {s : State} {ti : ℕ} {a : ℕ} {n : ℕ} (hw : Within 0x108c50a81220a602 W) (h_s : Keeps W z s) : Keeps W z (State.logWrite s ti a n) := by
  unfold State.logWrite
  (try dsimp only)
  exact (Keeps.ite (State.each_keeps h_s (fun _ h1 _ => (State.logPage_keeps (hw.mono rfl) h1))) h_s)

theorem State.logFlush_keeps {W : Nat} {z : State} {s : State} {ti : ℕ} {b : ℕ} (hw : Within 0x108850a81220a602 W) (h_s : Keeps W z s) : Keeps W z (State.logFlush s ti b) := by
  unfold State.logFlush
  (try dsimp only)
  exact (State.each_keeps h_s (fun _ h1 _ => (State.logEvict_keeps (hw.mono rfl) h1)))

end Sys2Proof.Machine
end

