-- ==== Sys2Proof/Laws/KeepsB.lean ====
section
/-! SUPPORT. What every operation keeps, for the operations of Run, Ten, Snf: the queue, the canonical form of the register store, and
what lies outside the parts it may change (`Keeps`, `KeepsOut`, `KeepsOpt`). -/

namespace Sys2Proof.Machine

/-! ### Run -/

theorem State.ringMod_keeps {W : Nat} {z : State} {s : State} {r : ℕ} {f : Ring → Ring} (hw : Within 0x100000 W) (h_s : Keeps W z s) : Keeps W z (State.ringMod s r f) := by
  unfold State.ringMod
  (try dsimp only)
  exact (Keeps.set_run (hw.mono rfl) h_s)

theorem State.liveMod_keeps {W : Nat} {z : State} {s : State} {r : ℕ} {idx : ℕ} {f : Live → Live} (hw : Within 0x100000 W) (h_s : Keeps W z s) : Keeps W z (State.liveMod s r idx f) := by
  unfold State.liveMod
  (try dsimp only)
  exact (State.ringMod_keeps (hw.mono rfl) h_s)

theorem State.failFor_keeps {W : Nat} {z : State} {s : State} {r : ℕ} {idxs : List ℕ} {a : ℕ} {st : ℕ} {addr : ℕ} {space : ℕ} {write : Bool} (hw : Within 0x100000 W) (h_s : Keeps W z s) : Keeps W z (State.failFor s r idxs a st addr space write) := by
  unfold State.failFor
  (try dsimp only)
  exact (Keeps.ite (State.ringMod_keeps (hw.mono rfl) (State.each_keeps h_s (fun _ h1 _ => (State.liveMod_keeps (hw.mono rfl) h1)))) (State.each_keeps h_s (fun _ h2 _ => (State.liveMod_keeps (hw.mono rfl) h2))))

theorem State.charge_keeps {W : Nat} {z : State} {s : State} {m : Msg} (hw : Within 0x10400 W) (h_s : Keeps W z s) : Keeps W z (State.charge s m) := by
  unfold State.charge
  (try dsimp only)
  exact (Keeps.ite (State.countMsg_keeps (hw.mono rfl) (State.flmAdd_keeps (hw.mono rfl) (State.deduct_keeps (hw.mono rfl) h_s))) (State.flmAdd_keeps (hw.mono rfl) (State.deduct_keeps (hw.mono rfl) h_s)))

theorem State.runSend_keeps {W : Nat} {z : State} {s : State} {r : ℕ} {m : Msg} (hw : Within 0x108850a81200a602 W) (h_s : Keeps W z s) : Keeps W z (State.runSend s r m) := by
  unfold State.runSend
  (try dsimp only)
  exact (State.inject_keeps (hw.mono rfl) (State.countMsg_keeps (hw.mono rfl) (State.mesh_keeps (hw.mono rfl) h_s)))

theorem State.issue_keeps {W : Nat} {z : State} {s : State} {a : RunAcc} {ms : List (ℕ × Msg)} (hw : Within 0x108870a81211a602 W) (h_s : Keeps W z s) : Keeps W z (State.issue s a ms).2 := by
  unfold State.issue
  (try dsimp only)
  exact (by split <;> [(exact h_s); (exact (by split <;> [(exact (State.xltDeny_keeps (hw.mono rfl) (Keeps.set_run (hw.mono rfl) h_s))); (exact (Keeps.set_run (hw.mono rfl) h_s)); (exact (Keeps.ite2 (Keeps.ite (State.countMsg_keeps (hw.mono rfl) h_s) h_s) (State.each_keeps (Keeps.set_run (hw.mono rfl) h_s) (fun _ h1 _ => (by split <;> [(exact (State.runSend_keeps (hw.mono rfl) (State.charge_keeps (hw.mono rfl) h1))); (exact h1)])))))]))])

theorem State.wcMod_keeps {W : Nat} {z : State} {s : State} {id : ℕ} {f : Wc → Wc} (hw : Within 0x100000 W) (h_s : Keeps W z s) : Keeps W z (State.wcMod s id f) := by
  unfold State.wcMod
  (try dsimp only)
  exact (Keeps.set_run (hw.mono rfl) h_s)

theorem State.wcFree_keeps {W : Nat} {z : State} {s : State} {id : ℕ} (hw : Within 0x100000 W) (h_s : Keeps W z s) : Keeps W z (State.wcFree s id) := by
  unfold State.wcFree
  (try dsimp only)
  exact (Keeps.set_run (hw.mono rfl) h_s)

theorem State.wcIssue_keeps {W : Nat} {z : State} {s : State} {w : Wc} (hw : Within 0x108c70a81231a602 W) (h_s : Keeps W z s) : KeepsOpt W z (State.wcIssue s w) := by
  unfold State.wcIssue
  (try dsimp only)
  exact (KeepsOpt.ite KeepsOpt.none (by split <;> [(rename_i e_; have h1 := Keeps.snd_eq (State.issue_keeps (hw.mono rfl) h_s) e_; exact (KeepsOpt.some (Keeps.ite (State.logWrite_keeps (hw.mono rfl) (State.wcMod_keeps (hw.mono rfl) h1)) (State.wcMod_keeps (hw.mono rfl) h1)))); (rename_i e_; have h2 := Keeps.snd_eq (State.issue_keeps (hw.mono rfl) h_s) e_; exact (KeepsOpt.some (State.failFor_keeps (hw.mono rfl) (State.wcFree_keeps (hw.mono rfl) h2)))); (rename_i e_; have h3 := Keeps.snd_eq (State.issue_keeps (hw.mono rfl) h_s) e_; exact KeepsOpt.none)]))

theorem State.wcDue_keeps {W : Nat} {z : State} {s : State} {r : ℕ} (hw : Within 0x100000 W) (h_s : Keeps W z s) : Keeps W z (State.wcDue s r) := by
  unfold State.wcDue
  (try dsimp only)
  exact (Keeps.set_run (hw.mono rfl) h_s)

theorem State.wcStore_keeps {W : Nat} {z : State} {s : State} {r : ℕ} {t : Store} (hw : Within 0x100000 W) (h_s : Keeps W z s) : KeepsOpt W z (State.wcStore s r t) := by
  unfold State.wcStore
  (try dsimp only)
  exact (KeepsOpt.ite KeepsOpt.none (by split <;> [(exact (KeepsOpt.some (State.wcMod_keeps (hw.mono rfl) h_s))); (exact (KeepsOpt.ite KeepsOpt.none (KeepsOpt.ite (by split <;> [(exact (KeepsOpt.ite KeepsOpt.none (KeepsOpt.some (State.wcMod_keeps (hw.mono rfl) h_s)))); (exact KeepsOpt.none)]) (KeepsOpt.some (Keeps.set_run (hw.mono rfl) h_s)))))]))

theorem State.ringError_keeps {W : Nat} {z : State} {s : State} {r : ℕ} (hw : Within 0x2000000100000 W) (h_s : Keeps W z s) : Keeps W z (State.ringError s r) := by
  unfold State.ringError
  (try dsimp only)
  exact (State.wcDue_keeps (hw.mono rfl) (State.wr_keeps h_s (hw.mono rfl)))

theorem State.fetchFail_keeps {W : Nat} {z : State} {s : State} {r : ℕ} {idx : ℕ} (hw : Within 0x802000000100000 W) (h_s : Keeps W z s) : Keeps W z (State.fetchFail s r idx) := by
  unfold State.fetchFail
  (try dsimp only)
  exact (Keeps.ite (State.ringError_keeps (hw.mono rfl) (State.wr_keeps (State.wr_keeps (State.inc_keeps (hw.mono rfl) h_s (hw.mono rfl)) (hw.mono rfl)) (hw.mono rfl))) (State.wr_keeps (State.wr_keeps (State.inc_keeps (hw.mono rfl) h_s (hw.mono rfl)) (hw.mono rfl)) (hw.mono rfl)))

theorem State.headNext_keeps {W : Nat} {z : State} {s : State} {r : ℕ} (hw : Within 0x2000000000000 W) (h_s : Keeps W z s) : Keeps W z (State.headNext s r) := by
  unfold State.headNext
  (try dsimp only)
  exact (State.wr_keeps (State.wr_keeps h_s (hw.mono rfl)) (hw.mono rfl))

theorem State.descFailed_keeps {W : Nat} {z : State} {s : State} {r : ℕ} {l : Live} (hw : Within 0x802000000100400 W) (h_s : Keeps W z s) : Keeps W z (State.descFailed s r l) := by
  unfold State.descFailed
  (try dsimp only)
  exact (Keeps.ite (Keeps.ite (State.ringError_keeps (hw.mono rfl) (Keeps.ite (State.inc_keeps (hw.mono rfl) (State.countMsg_keeps (hw.mono rfl) (State.wr_keeps (State.wr_keeps h_s (hw.mono rfl)) (hw.mono rfl))) (hw.mono rfl)) (State.countMsg_keeps (hw.mono rfl) (State.wr_keeps (State.wr_keeps h_s (hw.mono rfl)) (hw.mono rfl))))) (Keeps.ite (State.ringMod_keeps (hw.mono rfl) (Keeps.ite (State.inc_keeps (hw.mono rfl) (State.countMsg_keeps (hw.mono rfl) (State.wr_keeps (State.wr_keeps h_s (hw.mono rfl)) (hw.mono rfl))) (hw.mono rfl)) (State.countMsg_keeps (hw.mono rfl) (State.wr_keeps (State.wr_keeps h_s (hw.mono rfl)) (hw.mono rfl))))) (Keeps.ite (State.inc_keeps (hw.mono rfl) (State.countMsg_keeps (hw.mono rfl) (State.wr_keeps (State.wr_keeps h_s (hw.mono rfl)) (hw.mono rfl))) (hw.mono rfl)) (State.countMsg_keeps (hw.mono rfl) (State.wr_keeps (State.wr_keeps h_s (hw.mono rfl)) (hw.mono rfl)))))) (Keeps.ite (State.inc_keeps (hw.mono rfl) (State.countMsg_keeps (hw.mono rfl) (State.wr_keeps (State.wr_keeps h_s (hw.mono rfl)) (hw.mono rfl))) (hw.mono rfl)) (State.countMsg_keeps (hw.mono rfl) (State.wr_keeps (State.wr_keeps h_s (hw.mono rfl)) (hw.mono rfl)))))

theorem State.endOldest_keeps {W : Nat} {z : State} {s : State} {r : ℕ} (hw : Within 0x188e70a81231a602 W) (h_s : Keeps W z s) : KeepsOpt W z (State.endOldest s r) := by
  unfold State.endOldest
  (try dsimp only)
  exact (by split <;> [(exact KeepsOpt.none); (exact (KeepsOpt.ite KeepsOpt.none (KeepsOpt.ite (KeepsOpt.some (Keeps.ite (State.descFailed_keeps (hw.mono rfl) (Keeps.ite (State.headNext_keeps (hw.mono rfl) (State.ringMod_keeps (hw.mono rfl) h_s)) (State.ringMod_keeps (hw.mono rfl) h_s))) (Keeps.ite (State.headNext_keeps (hw.mono rfl) (State.ringMod_keeps (hw.mono rfl) h_s)) (State.ringMod_keeps (hw.mono rfl) h_s)))) (KeepsOpt.ite KeepsOpt.none (by split <;> [(rename_i e_; have h1 := Keeps.snd_eq (State.issue_keeps (hw.mono rfl) h_s) e_; exact KeepsOpt.none); (rename_i e_; have h2 := Keeps.snd_eq (State.issue_keeps (hw.mono rfl) h_s) e_; exact (KeepsOpt.some (Keeps.ite (State.descFailed_keeps (hw.mono rfl) (Keeps.ite (State.headNext_keeps (hw.mono rfl) (State.ringMod_keeps (hw.mono rfl) (State.wr_keeps (State.logWrite_keeps (hw.mono rfl) (State.ringMod_keeps (hw.mono rfl) h2)) (hw.mono rfl)))) (State.ringMod_keeps (hw.mono rfl) (State.wr_keeps (State.logWrite_keeps (hw.mono rfl) (State.ringMod_keeps (hw.mono rfl) h2)) (hw.mono rfl))))) (Keeps.ite (State.headNext_keeps (hw.mono rfl) (State.ringMod_keeps (hw.mono rfl) (State.wr_keeps (State.logWrite_keeps (hw.mono rfl) (State.ringMod_keeps (hw.mono rfl) h2)) (hw.mono rfl)))) (State.ringMod_keeps (hw.mono rfl) (State.wr_keeps (State.logWrite_keeps (hw.mono rfl) (State.ringMod_keeps (hw.mono rfl) h2)) (hw.mono rfl))))))); (rename_i e_; have h3 := Keeps.snd_eq (State.issue_keeps (hw.mono rfl) h_s) e_; exact (KeepsOpt.some (State.fetchFail_keeps (hw.mono rfl) (Keeps.ite (State.descFailed_keeps (hw.mono rfl) (Keeps.ite (State.headNext_keeps (hw.mono rfl) (State.ringMod_keeps (hw.mono rfl) h3)) (State.ringMod_keeps (hw.mono rfl) h3))) (Keeps.ite (State.headNext_keeps (hw.mono rfl) (State.ringMod_keeps (hw.mono rfl) h3)) (State.ringMod_keeps (hw.mono rfl) h3))))))])))))])

theorem State.enterRun_keeps {W : Nat} {z : State} {s : State} {r : ℕ} (hw : Within 0x2000000100000 W) (h_s : Keeps W z s) : Keeps W z (State.enterRun s r) := by
  unfold State.enterRun
  (try dsimp only)
  exact (Keeps.ite (State.wcDue_keeps (hw.mono rfl) (State.wr_keeps h_s (hw.mono rfl))) (Keeps.ite (State.ringError_keeps (hw.mono rfl) (State.ringMod_keeps (hw.mono rfl) h_s)) (State.wr_keeps h_s (hw.mono rfl))))

theorem State.ringIdle_keeps {W : Nat} {z : State} {s : State} {r : ℕ} (hw : Within 0x2000000100000 W) (h_s : Keeps W z s) : Keeps W z (State.ringIdle s r) := by
  unfold State.ringIdle
  (try dsimp only)
  exact (Keeps.ite (State.wcDue_keeps (hw.mono rfl) (State.wr_keeps h_s (hw.mono rfl))) h_s)

theorem State.ringRelease_keeps {W : Nat} {z : State} {s : State} {r : ℕ} (hw : Within 0x2000000100000 W) (h_s : Keeps W z s) : Keeps W z (State.ringRelease s r) := by
  unfold State.ringRelease
  (try dsimp only)
  exact (Keeps.ite (State.ringIdle_keeps (hw.mono rfl) (State.enterRun_keeps (hw.mono rfl) h_s)) h_s)

theorem State.ringPause_keeps {W : Nat} {z : State} {s : State} {r : ℕ} (hw : Within 0x2000000100000 W) (h_s : Keeps W z s) : Keeps W z (State.ringPause s r) := by
  unfold State.ringPause
  (try dsimp only)
  exact (Keeps.ite (State.wcDue_keeps (hw.mono rfl) (State.wr_keeps h_s (hw.mono rfl))) h_s)

theorem State.fetchBatch_keeps {W : Nat} {z : State} {s : State} {r : ℕ} (hw : Within 0x188a70a81211a602 W) (h_s : Keeps W z s) : KeepsOpt W z (State.fetchBatch s r) := by
  unfold State.fetchBatch
  (try dsimp only)
  exact (KeepsOpt.ite KeepsOpt.none (by split <;> [(rename_i e_; have h1 := Keeps.snd_eq (State.issue_keeps (hw.mono rfl) h_s) e_; exact (KeepsOpt.some (State.ringMod_keeps (hw.mono rfl) h1))); (rename_i e_; have h2 := Keeps.snd_eq (State.issue_keeps (hw.mono rfl) h_s) e_; exact (KeepsOpt.some (State.fetchFail_keeps (hw.mono rfl) h2))); (rename_i e_; have h3 := Keeps.snd_eq (State.issue_keeps (hw.mono rfl) h_s) e_; exact KeepsOpt.none)]))

theorem State.advanceDesc_keeps {W : Nat} {z : State} {s : State} {r : ℕ} {l : Live} {n : ℕ} {all : Bool} (hw : Within 0x2000000100000 W) (h_s : Keeps W z s) : Keeps W z (State.advanceDesc s r l n all) := by
  unfold State.advanceDesc
  (try dsimp only)
  exact (Keeps.ite (State.headNext_keeps (hw.mono rfl) (State.liveMod_keeps (hw.mono rfl) h_s)) (State.wr_keeps (State.liveMod_keeps (hw.mono rfl) h_s) (hw.mono rfl)))

theorem State.stashAdd_keeps {W : Nat} {z : State} {s : State} {r : ℕ} {t : Store} (hw : Within 0x100000 W) (h_s : Keeps W z s) : Keeps W z (State.stashAdd s r t) := by
  unfold State.stashAdd
  (try dsimp only)
  exact (State.ringMod_keeps (hw.mono rfl) h_s)

theorem State.readStep_keeps {W : Nat} {z : State} {s : State} {r : ℕ} {l : Live} {space : ℕ} {addr : ℕ} {n : ℕ} {off : ℕ} (hw : Within 0x108a70a81211a602 W) (h_s : Keeps W z s) : KeepsOptP W z (State.readStep s r l space addr n off) := by
  unfold State.readStep
  (try dsimp only)
  exact (KeepsOptP.ite KeepsOptP.none (by split <;> [(exact (KeepsOptP.some h_s)); (exact (KeepsOptP.ite (KeepsOptP.ite KeepsOptP.none (KeepsOptP.some (State.each_keeps h_s (fun _ h1 _ => (State.wcMod_keeps (hw.mono rfl) h1))))) (KeepsOptP.ite KeepsOptP.none (by split <;> [(rename_i e_; have h2 := Keeps.snd_eq (State.issue_keeps (hw.mono rfl) h_s) e_; exact KeepsOptP.none); (rename_i e_; have h3 := Keeps.snd_eq (State.issue_keeps (hw.mono rfl) h_s) e_; exact (KeepsOptP.some (State.advanceDesc_keeps (hw.mono rfl) h3))); (rename_i e_; have h4 := Keeps.snd_eq (State.issue_keeps (hw.mono rfl) h_s) e_; exact (KeepsOptP.some (State.failFor_keeps (hw.mono rfl) h4)))]))))]))

theorem State.copyStep_keeps {W : Nat} {z : State} {s : State} {r : ℕ} {l : Live} (hw : Within 0x108a70a81211a602 W) (h_s : Keeps W z s) : KeepsOpt W z (State.copyStep s r l) := by
  unfold State.copyStep
  (try dsimp only)
  exact (KeepsOpt.ite KeepsOpt.none (by split <;> [(exact KeepsOpt.none); (rename_i e_; have h1 := (State.readStep_keeps (hw.mono rfl) h_s) _ e_; exact (KeepsOpt.some h1)); (rename_i e_; have h2 := (State.readStep_keeps (hw.mono rfl) h_s) _ e_; exact (KeepsOpt.some (State.advanceDesc_keeps (hw.mono rfl) (State.stashAdd_keeps (hw.mono rfl) h2))))]))

theorem State.storeStep_keeps {W : Nat} {z : State} {s : State} {r : ℕ} {l : Live} (hw : Within 0x2000000100000 W) (h_s : Keeps W z s) : KeepsOpt W z (State.storeStep s r l) := by
  unfold State.storeStep
  (try dsimp only)
  exact (KeepsOpt.ite (KeepsOpt.some (State.advanceDesc_keeps (hw.mono rfl) (State.stashAdd_keeps (hw.mono rfl) h_s))) KeepsOpt.none)

theorem State.loadStep_keeps {W : Nat} {z : State} {s : State} {r : ℕ} {l : Live} (hw : Within 0x108a70a81211a602 W) (h_s : Keeps W z s) : KeepsOpt W z (State.loadStep s r l) := by
  unfold State.loadStep
  (try dsimp only)
  exact (by split <;> [(exact KeepsOpt.none); (rename_i e_; have h1 := (State.readStep_keeps (hw.mono rfl) h_s) _ e_; exact (KeepsOpt.some h1)); (rename_i e_; have h2 := (State.readStep_keeps (hw.mono rfl) h_s) _ e_; exact (KeepsOpt.some (State.advanceDesc_keeps (hw.mono rfl) (State.liveMod_keeps (hw.mono rfl) h2))))])

theorem State.atomicStep_keeps {W : Nat} {z : State} {s : State} {r : ℕ} {l : Live} (hw : Within 0x108e70a81231a602 W) (h_s : Keeps W z s) : KeepsOpt W z (State.atomicStep s r l) := by
  unfold State.atomicStep
  (try dsimp only)
  exact (KeepsOpt.ite KeepsOpt.none (KeepsOpt.ite (KeepsOpt.ite KeepsOpt.none (KeepsOpt.some (State.each_keeps h_s (fun _ h1 _ => (State.wcMod_keeps (hw.mono rfl) h1))))) (KeepsOpt.ite KeepsOpt.none (by split <;> [(rename_i e_; have h2 := Keeps.snd_eq (State.issue_keeps (hw.mono rfl) h_s) e_; exact KeepsOpt.none); (rename_i e_; have h3 := Keeps.snd_eq (State.issue_keeps (hw.mono rfl) h_s) e_; exact (KeepsOpt.some (State.advanceDesc_keeps (hw.mono rfl) (Keeps.ite (State.logWrite_keeps (hw.mono rfl) h3) h3)))); (rename_i e_; have h4 := Keeps.snd_eq (State.issue_keeps (hw.mono rfl) h_s) e_; exact (KeepsOpt.some (State.failFor_keeps (hw.mono rfl) h4)))]))))

theorem State.castStep_keeps {W : Nat} {z : State} {s : State} {r : ℕ} {l : Live} (hw : Within 0x108a50a01211ae02 W) (h_s : Keeps W z s) : KeepsOpt W z (State.castStep s r l) := by
  unfold State.castStep
  (try dsimp only)
  exact (by split <;> [(exact (KeepsOpt.some (State.advanceDesc_keeps (hw.mono rfl) (State.inc_keeps (hw.mono rfl) h_s (hw.mono rfl))))); (exact (KeepsOpt.ite KeepsOpt.none (KeepsOpt.some (State.advanceDesc_keeps (hw.mono rfl) (State.statAck_keeps (hw.mono rfl) (State.countMsg_keeps (hw.mono rfl) (State.injectTo_keeps (hw.mono rfl) (State.countMsg_keeps (hw.mono rfl) (State.mesh_keeps (hw.mono rfl) (State.charge_keeps (hw.mono rfl) (Keeps.set_run (hw.mono rfl) (State.each_keeps h_s (fun _ h1 _ => (State.undeliverable_keeps (hw.mono rfl) h1))))))))))))))])

theorem State.barrierStep_keeps {W : Nat} {z : State} {s : State} {r : ℕ} {l : Live} (hw : Within 0x2000000100000 W) (h_s : Keeps W z s) : KeepsOpt W z (State.barrierStep s r l) := by
  unfold State.barrierStep
  (try dsimp only)
  exact (KeepsOpt.some (State.advanceDesc_keeps (hw.mono rfl) (State.liveMod_keeps (hw.mono rfl) (State.ringMod_keeps (hw.mono rfl) h_s))))

theorem State.descStep_keeps {W : Nat} {z : State} {s : State} {r : ℕ} (hw : Within 0x108e70a81231ae02 W) (h_s : Keeps W z s) : KeepsOpt W z (State.descStep s r) := by
  unfold State.descStep
  (try dsimp only)
  exact (by split <;> [(exact KeepsOpt.none); (exact (KeepsOpt.ite KeepsOpt.none (by split <;> [(exact (KeepsOpt.some (State.advanceDesc_keeps (hw.mono rfl) h_s))); (exact (State.copyStep_keeps (hw.mono rfl) h_s)); (exact (State.storeStep_keeps (hw.mono rfl) h_s)); (exact (KeepsOpt.ite (State.castStep_keeps (hw.mono rfl) h_s) (State.storeStep_keeps (hw.mono rfl) h_s))); (exact (State.loadStep_keeps (hw.mono rfl) h_s)); (exact (State.atomicStep_keeps (hw.mono rfl) h_s)); (exact (State.barrierStep_keeps (hw.mono rfl) h_s))])))])

theorem State.stashStep_keeps {W : Nat} {z : State} {s : State} {r : ℕ} (hw : Within 0x100000 W) (h_s : Keeps W z s) : KeepsOpt W z (State.stashStep s r) := by
  unfold State.stashStep
  (try dsimp only)
  exact (by split <;> [(exact KeepsOpt.none); (exact (KeepsOpt.map (fun _ h1 => (Keeps.ite (State.ringMod_keeps (hw.mono rfl) h1) h1)) (State.wcStore_keeps (hw.mono rfl) h_s)))])

theorem State.ringStep_keeps {W : Nat} {z : State} {s : State} {r : ℕ} (hw : Within 0x188e70a81231ae02 W) (h_s : Keeps W z s) : KeepsOpt W z (State.ringStep s r) := by
  unfold State.ringStep
  (try dsimp only)
  exact (by split <;> [(rename_i e_; have h1 := (State.stashStep_keeps (hw.mono rfl) h_s) _ e_; exact (KeepsOpt.some h1)); (exact (by split <;> [(rename_i e_; have h2 := (State.endOldest_keeps (hw.mono rfl) h_s) _ e_; exact (KeepsOpt.some (State.ringIdle_keeps (hw.mono rfl) h2))); (exact (KeepsOpt.ite KeepsOpt.none (KeepsOpt.ite (KeepsOpt.orElse (State.fetchBatch_keeps (hw.mono rfl) h_s) (fun _ => (State.descStep_keeps (hw.mono rfl) h_s))) (State.descStep_keeps (hw.mono rfl) h_s))))]))])

theorem State.turnNext_keeps {W : Nat} {z : State} {s : State} {e : ℕ} {r : ℕ} {n : ℕ} (hw : Within 0x100000 W) (h_s : Keeps W z s) : Keeps W z (State.turnNext s e r n) := by
  unfold State.turnNext
  (try dsimp only)
  exact (Keeps.set_run (hw.mono rfl) h_s)

theorem State.engineStep_keeps {W : Nat} {z : State} {s : State} {e : ℕ} (hw : Within 0x188e70a81231ae02 W) (h_s : Keeps W z s) : KeepsOpt W z (State.engineStep s e) := by
  unfold State.engineStep
  (try dsimp only)
  exact (by split <;> [(rename_i e_; have h1 := (KeepsOpt.findSome (fun _ => (State.wcIssue_keeps (hw.mono rfl) h_s))) _ e_; exact (KeepsOpt.some h1)); (exact (KeepsOpt.findSome (fun _ => (KeepsOpt.map (fun _ h2 => (State.turnNext_keeps (hw.mono rfl) h2)) (State.ringStep_keeps (hw.mono rfl) h_s)))))])

theorem State.pump_keeps {W : Nat} {z : State} {a : ℕ} {a1 : ℕ} {a2 : State} (hw : Within 0x188e70a81231ae02 W) (h_a2 : Keeps W z a2) : Keeps W z (State.pump a a1 a2) := by
  induction a generalizing a1 a2 with
  | zero =>
    unfold State.pump
    (try dsimp only)
    exact h_a2
  | succ a ih =>
    unfold State.pump
    (try dsimp only)
    exact (by split <;> [(rename_i e_; have h1 := (State.engineStep_keeps (hw.mono rfl) h_a2) _ e_; exact (ih h1)); (exact h_a2)])

theorem State.go_keeps {W : Nat} {z : State} {s : State} {e : ℕ} (hw : Within 0x188e70a81231ae02 W) (h_s : Keeps W z s) : Keeps W z (State.go s e) := by
  unfold State.go
  (try dsimp only)
  exact (State.pump_keeps (hw.mono rfl) h_s)

theorem State.goRing_keeps {W : Nat} {z : State} {s : State} {r : ℕ} (hw : Within 0x188e70a81231ae02 W) (h_s : Keeps W z s) : Keeps W z (State.goRing s r) := by
  unfold State.goRing
  (try dsimp only)
  exact (State.go_keeps (hw.mono rfl) h_s)

theorem State.goAll_keeps {W : Nat} {z : State} {s : State} (hw : Within 0x188e70a81231ae02 W) (h_s : Keeps W z s) : Keeps W z (State.goAll s) := by
  unfold State.goAll
  (try dsimp only)
  exact (State.each_keeps h_s (fun _ h1 _ => (State.go_keeps (hw.mono rfl) h1)))

theorem State.ringStop_keeps {W : Nat} {z : State} {s : State} {r : ℕ} (hw : Within 0x2000000100000 W) (h_s : Keeps W z s) : Keeps W z (State.ringStop s r) := by
  unfold State.ringStop
  (try dsimp only)
  exact (Keeps.ite h_s (State.wcDue_keeps (hw.mono rfl) (State.wr_keeps (State.ringMod_keeps (hw.mono rfl) h_s) (hw.mono rfl))))

theorem State.halfClear_keeps {W : Nat} {z : State} {s : State} {h : ℕ} (hw : Within 0x800000000000000 W) (h_s : Keeps W z s) : Keeps W z (State.halfClear s h) := by
  unfold State.halfClear
  (try dsimp only)
  exact (State.each_fields_keeps (hw.mono rfl) h_s (fun _ h1 _ h2 => (State.clr1_keeps (hw.mono rfl) h1 h2)))

theorem State.ringOff_keeps {W : Nat} {z : State} {s : State} {r : ℕ} (hw : Within 0x2000000100000 W) (h_s : Keeps W z s) : Keeps W z (State.ringOff s r) := by
  unfold State.ringOff
  (try dsimp only)
  exact (Keeps.set_run (hw.mono rfl) (State.clr1_keeps (hw.mono rfl) (State.clr1_keeps (hw.mono rfl) (State.clr1_keeps (hw.mono rfl) h_s (hw.mono rfl)) (hw.mono rfl)) (hw.mono rfl)))

theorem State.ringStopped_keeps {W : Nat} {z : State} {s : State} {r : ℕ} (hw : Within 0x2000000100000 W) (h_s : Keeps W z s) : Keeps W z (State.ringStopped s r) := by
  unfold State.ringStopped
  (try dsimp only)
  exact (State.ringMod_keeps (hw.mono rfl) (State.wr_keeps (State.wr_keeps h_s (hw.mono rfl)) (hw.mono rfl)))

theorem State.ringKill_keeps {W : Nat} {z : State} {s : State} {r : ℕ} (hw : Within 0x2000000100000 W) (h_s : Keeps W z s) : Keeps W z (State.ringKill s r) := by
  unfold State.ringKill
  (try dsimp only)
  exact (State.ringOff_keeps (hw.mono rfl) (Keeps.set_run (hw.mono rfl) h_s))

theorem State.runWarm_keeps {W : Nat} {z : State} {s : State} (hw : Within 0x802000000100000 W) (h_s : Keeps W z s) : Keeps W z (State.runWarm s) := by
  unfold State.runWarm
  (try dsimp only)
  exact (Keeps.set_run (hw.mono rfl) (State.each_fields_keeps (hw.mono rfl) (State.each_keeps h_s (fun _ h1 _ => (State.ringOff_keeps (hw.mono rfl) h1))) (fun _ h2 _ h3 => (State.clr_keeps h2 h3))))

theorem State.accEnd_keeps {W : Nat} {z : State} {s : State} {a : RunAcc} (hw : Within 0x100000 W) (h_s : Keeps W z s) : Keeps W z (State.accEnd s a) := by
  unfold State.accEnd
  (try dsimp only)
  exact (Keeps.set_run (hw.mono rfl) h_s)

theorem State.acked_keeps {W : Nat} {z : State} {s : State} {a : RunAcc} (hw : Within 0x8000000100c00 W) (h_s : Keeps W z s) : Keeps W z (State.acked s a) := by
  unfold State.acked
  (try dsimp only)
  exact (Keeps.ite (State.mesh_keeps (hw.mono rfl) (State.accEnd_keeps (hw.mono rfl) h_s)) (State.countMsg_keeps (hw.mono rfl) (State.statAck_keeps (hw.mono rfl) (State.mesh_keeps (hw.mono rfl) (State.accEnd_keeps (hw.mono rfl) h_s)))))

theorem State.accFail_keeps {W : Nat} {z : State} {s : State} {a : RunAcc} {st : ℕ} (hw : Within 0x802000000100000 W) (h_s : Keeps W z s) : Keeps W z (State.accFail s a st) := by
  unfold State.accFail
  (try dsimp only)
  exact (Keeps.ite (State.accEnd_keeps (hw.mono rfl) h_s) (by split <;> [(exact (State.fetchFail_keeps (hw.mono rfl) (State.ringMod_keeps (hw.mono rfl) (State.accEnd_keeps (hw.mono rfl) h_s)))); (exact (State.fetchFail_keeps (hw.mono rfl) (State.accEnd_keeps (hw.mono rfl) h_s))); (exact (State.failFor_keeps (hw.mono rfl) (State.accEnd_keeps (hw.mono rfl) h_s))); (exact (State.failFor_keeps (hw.mono rfl) (State.accEnd_keeps (hw.mono rfl) h_s)))]))

theorem State.writeDead_keeps {W : Nat} {z : State} {s : State} {a : RunAcc} (hw : Within 0x802000000100200 W) (h_s : Keeps W z s) : Keeps W z (State.writeDead s a) := by
  unfold State.writeDead
  (try dsimp only)
  exact (State.accFail_keeps (hw.mono rfl) (State.pulse_keeps (hw.mono rfl) (State.inc_keeps (hw.mono rfl) (State.wr2_keeps (hw.mono rfl) (State.wrb_keeps (hw.mono rfl) (State.wr_keeps (State.wr_keeps (State.wr_keeps h_s (hw.mono rfl)) (hw.mono rfl)) (hw.mono rfl)) (hw.mono rfl)) (hw.mono rfl) (hw.mono rfl)) (hw.mono rfl))))

theorem State.writeAck_keeps {W : Nat} {z : State} {s : State} {a : RunAcc} {st : ℕ} (hw : Within 0xc0a000000100c02 W) (h_s : Keeps W z s) : Keeps W z (State.writeAck s a st) := by
  unfold State.writeAck
  (try dsimp only)
  exact (Keeps.ite h_s (Keeps.ite (State.accFail_keeps (hw.mono rfl) h_s) (Keeps.ite (State.msiVf_keeps (hw.mono rfl) (State.acked_keeps (hw.mono rfl) h_s)) (State.acked_keeps (hw.mono rfl) h_s))))

theorem State.readData_keeps {W : Nat} {z : State} {s : State} {a : RunAcc} {st : ℕ} {data : ℕ} {poison : Bool} (hw : Within 0x80a000000100c00 W) (h_s : Keeps W z s) : Keeps W z (State.readData s a st data poison) := by
  unfold State.readData
  (try dsimp only)
  exact (Keeps.ite h_s (Keeps.ite (State.accFail_keeps (hw.mono rfl) h_s) (Keeps.ite (State.accFail_keeps (hw.mono rfl) h_s) (Keeps.ite (State.acked_keeps (hw.mono rfl) h_s) (State.each_keeps (State.acked_keeps (hw.mono rfl) h_s) (fun _ h1 _ => (by split <;> [(exact h1); (exact (Keeps.ite (State.stashAdd_keeps (hw.mono rfl) h1) (State.liveMod_keeps (hw.mono rfl) h1)))])))))))

theorem State.notice_keeps {W : Nat} {z : State} {s : State} {a : RunAcc} {rule : Bool} {pairAt : Bool} {early : Bool} {devReg : Bool} {wto : ℕ} (hw : Within 0xc0a000000100e02 W) (h_s : Keeps W z s) : Keeps W z (State.notice s a rule pairAt early devReg wto) := by
  unfold State.notice
  (try dsimp only)
  exact (Keeps.ite (State.accFail_keeps (hw.mono rfl) (Keeps.set_run (hw.mono rfl) h_s)) (Keeps.ite (State.writeAck_keeps (hw.mono rfl) (State.each_keeps (State.when_keeps (Keeps.set_run (hw.mono rfl) h_s) (fun _ h1 => (State.each_keeps h1 (fun _ h2 _ => (State.liveMod_keeps (hw.mono rfl) h2))))) (fun _ h3 _ => (State.liveMod_keeps (hw.mono rfl) h3)))) (Keeps.ite (State.writeDead_keeps (hw.mono rfl) (State.when_keeps (Keeps.set_run (hw.mono rfl) h_s) (fun _ h4 => (State.each_keeps h4 (fun _ h5 _ => (State.liveMod_keeps (hw.mono rfl) h5)))))) (State.when_keeps (Keeps.set_run (hw.mono rfl) h_s) (fun _ h6 => (State.each_keeps h6 (fun _ h7 _ => (State.liveMod_keeps (hw.mono rfl) h7))))))))

theorem State.startDesc_keeps {W : Nat} {z : State} {s : State} {r : ℕ} {is : ℕ → Bool} (hw : Within 0x188e70a81231ae02 W) (h_s : Keeps W z s) : Keeps W z (State.startDesc s r is) := by
  unfold State.startDesc
  (try dsimp only)
  exact (by split <;> [(exact h_s); (exact (Keeps.ite h_s (State.goRing_keeps (hw.mono rfl) (State.when_keeps (State.when_keeps (State.ringMod_keeps (hw.mono rfl) h_s) (fun _ h1 => (State.headNext_keeps (hw.mono rfl) h1))) (fun _ h2 => (State.wcDue_keeps (hw.mono rfl) h2))))))])

theorem execNop_keeps {W : Nat} {z : State} {ring : ℕ} {s : State} (hw : Within 0x188e70a81231ae02 W) (h_s : Keeps W z s) : KeepsOut W z (execNop ring s) := by
  unfold execNop
  (try dsimp only)
  exact (KeepsOut.onUnit (State.startDesc_keeps (hw.mono rfl) h_s))

theorem execCopy_keeps {W : Nat} {z : State} {ring : ℕ} {s : State} (hw : Within 0x188e70a81231ae02 W) (h_s : Keeps W z s) : KeepsOut W z (execCopy ring s) := by
  unfold execCopy
  (try dsimp only)
  exact (KeepsOut.onUnit (State.startDesc_keeps (hw.mono rfl) h_s))

theorem execFill_keeps {W : Nat} {z : State} {ring : ℕ} {s : State} (hw : Within 0x188e70a81231ae02 W) (h_s : Keeps W z s) : KeepsOut W z (execFill ring s) := by
  unfold execFill
  (try dsimp only)
  exact (KeepsOut.onUnit (State.startDesc_keeps (hw.mono rfl) h_s))

theorem execWritei_keeps {W : Nat} {z : State} {ring : ℕ} {s : State} (hw : Within 0x188e70a81231ae02 W) (h_s : Keeps W z s) : KeepsOut W z (execWritei ring s) := by
  unfold execWritei
  (try dsimp only)
  exact (KeepsOut.onUnit (State.startDesc_keeps (hw.mono rfl) h_s))

theorem execWriteiMcast_keeps {W : Nat} {z : State} {ring : ℕ} {s : State} (hw : Within 0x188e70a81231ae02 W) (h_s : Keeps W z s) : KeepsOut W z (execWriteiMcast ring s) := by
  unfold execWriteiMcast
  (try dsimp only)
  exact (KeepsOut.onUnit (State.startDesc_keeps (hw.mono rfl) h_s))

theorem execLoad_keeps {W : Nat} {z : State} {ring : ℕ} {s : State} (hw : Within 0x188e70a81231ae02 W) (h_s : Keeps W z s) : KeepsOut W z (execLoad ring s) := by
  unfold execLoad
  (try dsimp only)
  exact (KeepsOut.onUnit (State.startDesc_keeps (hw.mono rfl) h_s))

theorem execAtomicFadd8_keeps {W : Nat} {z : State} {ring : ℕ} {s : State} (hw : Within 0x188e70a81231ae02 W) (h_s : Keeps W z s) : KeepsOut W z (execAtomicFadd8 ring s) := by
  unfold execAtomicFadd8
  (try dsimp only)
  exact (KeepsOut.onUnit (State.startDesc_keeps (hw.mono rfl) h_s))

theorem execAtomicSwap8_keeps {W : Nat} {z : State} {ring : ℕ} {s : State} (hw : Within 0x188e70a81231ae02 W) (h_s : Keeps W z s) : KeepsOut W z (execAtomicSwap8 ring s) := by
  unfold execAtomicSwap8
  (try dsimp only)
  exact (KeepsOut.onUnit (State.startDesc_keeps (hw.mono rfl) h_s))

theorem execAtomicCas8_keeps {W : Nat} {z : State} {ring : ℕ} {s : State} (hw : Within 0x188e70a81231ae02 W) (h_s : Keeps W z s) : KeepsOut W z (execAtomicCas8 ring s) := by
  unfold execAtomicCas8
  (try dsimp only)
  exact (KeepsOut.onUnit (State.startDesc_keeps (hw.mono rfl) h_s))

theorem execAtomicCas16_keeps {W : Nat} {z : State} {ring : ℕ} {s : State} (hw : Within 0x188e70a81231ae02 W) (h_s : Keeps W z s) : KeepsOut W z (execAtomicCas16 ring s) := by
  unfold execAtomicCas16
  (try dsimp only)
  exact (KeepsOut.onUnit (State.startDesc_keeps (hw.mono rfl) h_s))

theorem execBarrier_keeps {W : Nat} {z : State} {ring : ℕ} {s : State} (hw : Within 0x188e70a81231ae02 W) (h_s : Keeps W z s) : KeepsOut W z (execBarrier ring s) := by
  unfold execBarrier
  (try dsimp only)
  exact (KeepsOut.onUnit (State.startDesc_keeps (hw.mono rfl) h_s))

theorem execDescriptorFetchDone_keeps {W : Nat} {z : State} {ring : ℕ} {ok : Bool} {ds : List ℕ} {s : State} (hw : Within 0x188e70a81231ae02 W) (h_s : Keeps W z s) : KeepsOut W z (execDescriptorFetchDone ring ok ds s) := by
  unfold execDescriptorFetchDone
  (try dsimp only)
  exact (KeepsOut.onUnit (by split <;> [(exact h_s); (exact (Keeps.ite (State.goRing_keeps (hw.mono rfl) (State.accFail_keeps (hw.mono rfl) h_s)) (Keeps.ite (State.goRing_keeps (hw.mono rfl) (State.acked_keeps (hw.mono rfl) h_s)) (State.goRing_keeps (hw.mono rfl) (State.ringMod_keeps (hw.mono rfl) (State.acked_keeps (hw.mono rfl) h_s))))))]))

theorem execWcIdleIssue_keeps {W : Nat} {z : State} {entry : ℕ} {bad : Bool} {s : State} (hw : Within 0x188e70a81231ae02 W) (h_s : Keeps W z s) : KeepsOut W z (execWcIdleIssue entry bad s) := by
  unfold execWcIdleIssue
  (try dsimp only)
  exact (KeepsOut.next (by split <;> [(exact h_s); (exact (State.go_keeps (hw.mono rfl) (Keeps.ite (State.pulse_keeps (hw.mono rfl) (State.failFor_keeps (hw.mono rfl) (State.wcMod_keeps (hw.mono rfl) h_s))) (State.wcMod_keeps (hw.mono rfl) h_s))))]))

theorem execAdmitNotice_keeps {W : Nat} {z : State} {acc : ℕ} {rule : Bool} {pairAt : Bool} {earlyAck : Bool} {devReg : Bool} {wto : ℕ} {s : State} (hw : Within 0x1c8e70a81231ae02 W) (h_s : Keeps W z s) : KeepsOut W z (execAdmitNotice acc rule pairAt earlyAck devReg wto s) := by
  unfold execAdmitNotice
  (try dsimp only)
  exact (KeepsOut.onUnit (by split <;> [(exact h_s); (exact (Keeps.ite (by split <;> [(exact (State.go_keeps (hw.mono rfl) (State.notice_keeps (hw.mono rfl) h_s))); (exact h_s)]) (State.go_keeps (hw.mono rfl) (State.notice_keeps (hw.mono rfl) h_s))))]))

theorem execRunnelWriteAck_keeps {W : Nat} {z : State} {acc : ℕ} {status : ℕ} {s : State} (hw : Within 0x1c8e70a81231ae02 W) (h_s : Keeps W z s) : KeepsOut W z (execRunnelWriteAck acc status s) := by
  unfold execRunnelWriteAck
  (try dsimp only)
  exact (KeepsOut.onUnit (by split <;> [(exact h_s); (exact (State.go_keeps (hw.mono rfl) (State.writeAck_keeps (hw.mono rfl) h_s)))]))

theorem execRunnelReadData_keeps {W : Nat} {z : State} {acc : ℕ} {status : ℕ} {data : ℕ} {poison : Bool} {s : State} (hw : Within 0x188e70a81231ae02 W) (h_s : Keeps W z s) : KeepsOut W z (execRunnelReadData acc status data poison s) := by
  unfold execRunnelReadData
  (try dsimp only)
  exact (KeepsOut.onUnit (by split <;> [(exact h_s); (exact (State.go_keeps (hw.mono rfl) (State.readData_keeps (hw.mono rfl) h_s)))]))

theorem execRunnelWriteTimeout_keeps {W : Nat} {z : State} {acc : ℕ} {s : State} (hw : Within 0x188e70a81231ae02 W) (h_s : Keeps W z s) : KeepsOut W z (execRunnelWriteTimeout acc s) := by
  unfold execRunnelWriteTimeout
  (try dsimp only)
  exact (KeepsOut.next (by split <;> [(exact (Keeps.ite (State.go_keeps (hw.mono rfl) (State.writeDead_keeps (hw.mono rfl) h_s)) h_s)); (exact h_s)]))

theorem execRunnelReadTimeout_keeps {W : Nat} {z : State} {acc : ℕ} {s : State} (hw : Within 0x188e70a81231ae02 W) (h_s : Keeps W z s) : KeepsOut W z (execRunnelReadTimeout acc s) := by
  unfold execRunnelReadTimeout
  (try dsimp only)
  exact (KeepsOut.next (by split <;> [(exact (Keeps.ite h_s (State.go_keeps (hw.mono rfl) (State.accFail_keeps (hw.mono rfl) h_s)))); (exact h_s)]))

theorem execRunRctx0Write_keeps {W : Nat} {z : State} {val : ℕ} {s : State} (hw : Within 0x188e70a81231ae02 W) (h_s : Keeps W z s) : KeepsOut W z (execRunRctx0Write val s) := by
  unfold execRunRctx0Write
  (try dsimp only)
  exact (KeepsOut.onUnit (Keeps.ite (State.takeIf_keeps (hw.mono rfl) h_s (hw.mono rfl)) (Keeps.ite h_s (Keeps.ite (State.cfgErr_keeps (hw.mono rfl) h_s) (State.goRing_keeps (hw.mono rfl) (State.ringStop_keeps (hw.mono rfl) (State.wrb_keeps (hw.mono rfl) h_s (hw.mono rfl))))))))

theorem execRingDoorbell_keeps {W : Nat} {z : State} {ti : ℕ} {k : ℕ} {val : ℕ} {s : State} (hw : Within 0x188e70a81231ae02 W) (h_s : Keeps W z s) : KeepsOut W z (execRingDoorbell ti k val s) := by
  unfold execRingDoorbell
  (try dsimp only)
  exact (KeepsOut.onUnit (by split <;> [(exact h_s); (exact (Keeps.ite (State.wrb_keeps (hw.mono rfl) h_s (hw.mono rfl)) (Keeps.ite (State.goRing_keeps (hw.mono rfl) (State.enterRun_keeps (hw.mono rfl) (State.wr_keeps h_s (hw.mono rfl)))) (State.goRing_keeps (hw.mono rfl) (State.wr_keeps h_s (hw.mono rfl))))))]))

theorem State.ctlWrite_keeps {W : Nat} {z : State} {s : State} {ti : ℕ} {k : ℕ} {val : ℕ} (hw : Within 0x188e70a81231ae02 W) (h_s : Keeps W z s) : Keeps W z (State.ctlWrite s ti k val) := by
  unfold State.ctlWrite
  (try dsimp only)
  exact (by split <;> [(exact h_s); (exact (State.goRing_keeps (hw.mono rfl) (Keeps.ite (Keeps.ite (State.enterRun_keeps (hw.mono rfl) (State.wr_keeps (State.wrb_keeps (hw.mono rfl) (Keeps.ite (Keeps.ite (State.enterRun_keeps (hw.mono rfl) (State.wr_keeps (Keeps.ite (State.headNext_keeps (hw.mono rfl) h_s) h_s) (hw.mono rfl))) (State.wr_keeps (Keeps.ite (State.headNext_keeps (hw.mono rfl) h_s) h_s) (hw.mono rfl))) h_s) (hw.mono rfl)) (hw.mono rfl))) (State.wr_keeps (State.wrb_keeps (hw.mono rfl) (Keeps.ite (Keeps.ite (State.enterRun_keeps (hw.mono rfl) (State.wr_keeps (Keeps.ite (State.headNext_keeps (hw.mono rfl) h_s) h_s) (hw.mono rfl))) (State.wr_keeps (Keeps.ite (State.headNext_keeps (hw.mono rfl) h_s) h_s) (hw.mono rfl))) h_s) (hw.mono rfl)) (hw.mono rfl))) (Keeps.ite (State.ringStop_keeps (hw.mono rfl) (State.wrb_keeps (hw.mono rfl) (Keeps.ite (Keeps.ite (State.enterRun_keeps (hw.mono rfl) (State.wr_keeps (Keeps.ite (State.headNext_keeps (hw.mono rfl) h_s) h_s) (hw.mono rfl))) (State.wr_keeps (Keeps.ite (State.headNext_keeps (hw.mono rfl) h_s) h_s) (hw.mono rfl))) h_s) (hw.mono rfl))) (State.wrb_keeps (hw.mono rfl) (Keeps.ite (Keeps.ite (State.enterRun_keeps (hw.mono rfl) (State.wr_keeps (Keeps.ite (State.headNext_keeps (hw.mono rfl) h_s) h_s) (hw.mono rfl))) (State.wr_keeps (Keeps.ite (State.headNext_keeps (hw.mono rfl) h_s) h_s) (hw.mono rfl))) h_s) (hw.mono rfl))))))])

theorem execRingEnable_keeps {W : Nat} {z : State} {ti : ℕ} {k : ℕ} {val : ℕ} {s : State} (hw : Within 0x188e70a81231ae02 W) (h_s : Keeps W z s) : KeepsOut W z (execRingEnable ti k val s) := by
  unfold execRingEnable
  (try dsimp only)
  exact (KeepsOut.onUnit (Keeps.ite (State.ctlWrite_keeps (hw.mono rfl) h_s) h_s))

theorem execRingDisable_keeps {W : Nat} {z : State} {ti : ℕ} {k : ℕ} {val : ℕ} {s : State} (hw : Within 0x188e70a81231ae02 W) (h_s : Keeps W z s) : KeepsOut W z (execRingDisable ti k val s) := by
  unfold execRingDisable
  (try dsimp only)
  exact (KeepsOut.onUnit (Keeps.ite h_s (State.ctlWrite_keeps (hw.mono rfl) h_s)))

theorem execRingResume_keeps {W : Nat} {z : State} {ti : ℕ} {k : ℕ} {val : ℕ} {s : State} (hw : Within 0x188e70a81231ae02 W) (h_s : Keeps W z s) : KeepsOut W z (execRingResume ti k val s) := by
  unfold execRingResume
  (try dsimp only)
  exact (KeepsOut.onUnit (Keeps.ite (State.ctlWrite_keeps (hw.mono rfl) h_s) h_s))

theorem execRingStopped_keeps {W : Nat} {z : State} {ring : ℕ} {s : State} (hw : Within 0x2000000100000 W) (h_s : Keeps W z s) : KeepsOut W z (execRingStopped ring s) := by
  unfold execRingStopped
  (try dsimp only)
  exact (KeepsOut.onUnit (Keeps.ite (State.ringStopped_keeps (hw.mono rfl) h_s) h_s))

theorem execRingCfgWrite_keeps {W : Nat} {z : State} {ti : ℕ} {k : ℕ} {off : ℕ} {val : ℕ} {s : State} (hw : Within 0x800000000000020 W) (h_s : Keeps W z s) : KeepsOut W z (execRingCfgWrite ti k off val s) := by
  unfold execRingCfgWrite
  (try dsimp only)
  exact (KeepsOut.onUnit (by split <;> [(exact h_s); (exact (Keeps.ite (State.wrb_keeps (hw.mono rfl) h_s (hw.mono rfl)) (Keeps.ite (State.stageLow_keeps (hw.mono rfl) h_s) (State.setRW_keeps (hw.mono rfl) (Keeps.ite (State.takeStaged_keeps (hw.mono rfl) h_s (wordFields_within (by decide) (hw.mono rfl))) h_s) (wordFields_within (by decide) (hw.mono rfl))))))]))

theorem execCqheadWrite_keeps {W : Nat} {z : State} {ti : ℕ} {k : ℕ} {val : ℕ} {s : State} (hw : Within 0x188e70a81231ae02 W) (h_s : Keeps W z s) : KeepsOut W z (execCqheadWrite ti k val s) := by
  unfold execCqheadWrite
  (try dsimp only)
  exact (KeepsOut.onUnit (by split <;> [(exact h_s); (exact (State.goRing_keeps (hw.mono rfl) (State.wr_keeps h_s (hw.mono rfl))))]))

theorem State.pauseAll_keeps {W : Nat} {z : State} {s : State} (hw : Within 0x188e70a81231ae02 W) (h_s : Keeps W z s) : Keeps W z (State.pauseAll s) := by
  unfold State.pauseAll
  (try dsimp only)
  exact (State.goAll_keeps (hw.mono rfl) (State.each_keeps h_s (fun _ h1 _ => (State.ringRelease_keeps (hw.mono rfl) (State.ringPause_keeps (hw.mono rfl) h1)))))

theorem execRunPauseWrite_keeps {W : Nat} {z : State} {val : ℕ} {s : State} (hw : Within 0x188e70a81231ae02 W) (h_s : Keeps W z s) : KeepsOut W z (execRunPauseWrite val s) := by
  unfold execRunPauseWrite
  (try dsimp only)
  exact (KeepsOut.onUnit (State.pauseAll_keeps (hw.mono rfl) (State.wr_keeps h_s (hw.mono rfl))))

theorem execRunEnableWrite_keeps {W : Nat} {z : State} {val : ℕ} {s : State} (hw : Within 0xa004000000200 W) (h_s : Keeps W z s) : KeepsOut W z (execRunEnableWrite val s) := by
  unfold execRunEnableWrite
  (try dsimp only)
  exact (KeepsOut.onUnit (Keeps.ite (State.cfgErr_keeps (hw.mono rfl) h_s) (State.domKicks_keeps (hw.mono rfl) (State.wr_keeps h_s (hw.mono rfl)))))

theorem State.tick256_keeps {W : Nat} {z : State} {s : State} {k : ℕ} (hw : Within 0x188f70a81231ae02 W) (h_s : Keeps W z s) : Keeps W z (State.tick256 s k) := by
  unfold State.tick256
  (try dsimp only)
  exact (State.goAll_keeps (hw.mono rfl) (State.considerAll_keeps (hw.mono rfl) (State.refill_keeps (hw.mono rfl) h_s)))

/-! ### Ten -/

theorem State.tset_keeps {W : Nat} {z : State} {s : State} {ti : ℕ} {v : ℕ} (hw : Within 0x4000000000000 W) (h_s : Keeps W z s) : Keeps W z (State.tset s ti v) := by
  unfold State.tset
  (try dsimp only)
  exact (State.wr_keeps h_s (hw.mono rfl))

theorem State.noticeSet_keeps {W : Nat} {z : State} {s : State} {ti : ℕ} {bits : ℕ} (hw : Within 0x400000000000002 W) (h_s : Keeps W z s) : Keeps W z (State.noticeSet s ti bits) := by
  unfold State.noticeSet
  (try dsimp only)
  exact (Keeps.ite (State.msiVf_keeps (hw.mono rfl) (State.wr_keeps h_s (hw.mono rfl))) (State.wr_keeps h_s (hw.mono rfl)))

theorem State.mbNotify_keeps {W : Nat} {z : State} {s : State} (hw : Within 0x1080000012200002 W) (h_s : Keeps W z s) : Keeps W z (State.mbNotify s) := by
  unfold State.mbNotify
  (try dsimp only)
  exact (Keeps.ite (Keeps.set_ten (hw.mono rfl) (State.notify_keeps (hw.mono rfl) h_s)) h_s)

theorem State.rvec_keeps {W : Nat} {z : State} {s : State} {ti : ℕ} (hw : Within 0x400000000000002 W) (h_s : Keeps W z s) : Keeps W z (State.rvec s ti) := by
  unfold State.rvec
  (try dsimp only)
  exact (Keeps.ite (State.msiVf_keeps (hw.mono rfl) h_s) h_s)

theorem execMailboxDoorbell_keeps {W : Nat} {z : State} {ti : ℕ} {val : ℕ} {s : State} (hw : Within 0x1484000012200002 W) (h_s : Keeps W z s) : KeepsOut W z (execMailboxDoorbell ti val s) := by
  unfold execMailboxDoorbell
  (try dsimp only)
  exact (KeepsOut.onUnit (Keeps.ite h_s (Keeps.ite (State.inc_keeps (hw.mono rfl) (State.wrb_keeps (hw.mono rfl) h_s (hw.mono rfl)) (hw.mono rfl)) (State.mbNotify_keeps (hw.mono rfl) (State.wr_keeps (State.wr_keeps (State.wr_keeps h_s (hw.mono rfl)) (hw.mono rfl)) (hw.mono rfl))))))

theorem execMailboxAck_keeps {W : Nat} {z : State} {ti : ℕ} {val : ℕ} {s : State} (hw : Within 0x400000000000000 W) (h_s : Keeps W z s) : KeepsOut W z (execMailboxAck ti val s) := by
  unfold execMailboxAck
  (try dsimp only)
  exact (KeepsOut.onUnit (Keeps.ite (State.wr_keeps h_s (hw.mono rfl)) h_s))

theorem execMailboxDone_keeps {W : Nat} {z : State} {val : ℕ} {s : State} (hw : Within 0x404000000000002 W) (h_s : Keeps W z s) : KeepsOut W z (execMailboxDone val s) := by
  unfold execMailboxDone
  (try dsimp only)
  exact (KeepsOut.onUnit (Keeps.ite h_s (Keeps.ite (State.inc_keeps (hw.mono rfl) h_s (hw.mono rfl)) (State.rvec_keeps (hw.mono rfl) (State.wr_keeps (State.wr_keeps (State.wr_keeps (State.each_keeps h_s (fun _ h1 _ => (State.wr_keeps h1 (hw.mono rfl)))) (hw.mono rfl)) (hw.mono rfl)) (hw.mono rfl))))))

theorem execMailboxTimeout_keeps {W : Nat} {z : State} {ti : ℕ} {s : State} (hw : Within 0x404000000000202 W) (h_s : Keeps W z s) : KeepsOut W z (execMailboxTimeout ti s) := by
  unfold execMailboxTimeout
  (try dsimp only)
  exact (KeepsOut.onUnit (Keeps.ite (State.rvec_keeps (hw.mono rfl) (State.pulse_keeps (hw.mono rfl) (State.inc_keeps (hw.mono rfl) (State.wr_keeps (State.wr_keeps (State.wr_keeps h_s (hw.mono rfl)) (hw.mono rfl)) (hw.mono rfl)) (hw.mono rfl)))) h_s))

theorem execTenNoticeWrite_keeps {W : Nat} {z : State} {val : ℕ} {s : State} (hw : Within 0x400000000000002 W) (h_s : Keeps W z s) : KeepsOut W z (execTenNoticeWrite val s) := by
  unfold execTenNoticeWrite
  (try dsimp only)
  exact (KeepsOut.onUnit (State.noticeSet_keeps (hw.mono rfl) h_s))

theorem State.tenClear_keeps {W : Nat} {z : State} {s : State} {ti : ℕ} (hw : Within 0xc06000000100000 W) (h_s : Keeps W z s) : Keeps W z (State.tenClear s ti) := by
  unfold State.tenClear
  (try dsimp only)
  exact (State.each_fields_keeps (hw.mono rfl) (State.each_keeps (State.each_keeps (State.each_keeps (State.each_keeps h_s (fun _ h1 _ => (State.ringKill_keeps (hw.mono rfl) h1))) (fun _ h2 _ => (State.halfClear_keeps (hw.mono rfl) h2))) (fun _ h3 _ => (State.clr1_keeps (hw.mono rfl) (State.clr1_keeps (hw.mono rfl) h3 (hw.mono rfl)) (hw.mono rfl)))) (fun _ h4 _ => (State.clr1_keeps (hw.mono rfl) (State.clr1_keeps (hw.mono rfl) (State.clr1_keeps (hw.mono rfl) (State.clr1_keeps (hw.mono rfl) h4 (hw.mono rfl)) (hw.mono rfl)) (hw.mono rfl)) (hw.mono rfl)))) (fun _ h5 _ h6 => (State.clr1_keeps (hw.mono rfl) h5 h6)))

theorem State.tenReset_keeps {W : Nat} {z : State} {s : State} {ti : ℕ} {planned : Bool} {fault : Bool} (hw : Within 0xc06000000300200 W) (h_s : Keeps W z s) : Keeps W z (State.tenReset s ti planned fault) := by
  unfold State.tenReset
  (try dsimp only)
  exact (Keeps.ite h_s (Keeps.ite (Keeps.set_ten (hw.mono rfl) (State.tset_keeps (hw.mono rfl) (State.tenClear_keeps (hw.mono rfl) (Keeps.ite (State.wr_keeps h_s (hw.mono rfl)) h_s)))) (State.pulse_keeps (hw.mono rfl) (State.wrb_keeps (hw.mono rfl) (Keeps.set_ten (hw.mono rfl) (State.tset_keeps (hw.mono rfl) (State.tenClear_keeps (hw.mono rfl) (Keeps.ite (State.wr_keeps h_s (hw.mono rfl)) h_s)))) (hw.mono rfl)))))

theorem State.tenFlr_keeps {W : Nat} {z : State} {s : State} {ti : ℕ} (hw : Within 0xc06000000300200 W) (h_s : Keeps W z s) : Keeps W z (State.tenFlr s ti) := by
  unfold State.tenFlr
  (try dsimp only)
  exact (State.tenReset_keeps (hw.mono rfl) h_s)

theorem State.tenResetDone_keeps {W : Nat} {z : State} {s : State} {ti : ℕ} (hw : Within 0x404000000200002 W) (h_s : Keeps W z s) : Keeps W z (State.tenResetDone s ti) := by
  unfold State.tenResetDone
  (try dsimp only)
  exact (State.noticeSet_keeps (hw.mono rfl) (State.when_keeps (State.tset_keeps (hw.mono rfl) (Keeps.set_ten (hw.mono rfl) h_s)) (fun _ h1 => (State.wr_keeps h1 (hw.mono rfl)))))

theorem execInstanceResetComplete_keeps {W : Nat} {z : State} {ti : ℕ} {s : State} (hw : Within 0x404000000200002 W) (h_s : Keeps W z s) : KeepsOut W z (execInstanceResetComplete ti s) := by
  unfold execInstanceResetComplete
  (try dsimp only)
  exact (KeepsOut.onUnit (Keeps.ite (State.tenResetDone_keeps (hw.mono rfl) h_s) h_s))

theorem execUnplannedResetTimeout_keeps {W : Nat} {z : State} {ti : ℕ} {s : State} (hw : Within 0x404000000200002 W) (h_s : Keeps W z s) : KeepsOut W z (execUnplannedResetTimeout ti s) := by
  unfold execUnplannedResetTimeout
  (try dsimp only)
  exact (KeepsOut.onUnit (Keeps.ite (State.tenResetDone_keeps (hw.mono rfl) h_s) h_s))

theorem State.tenFault_keeps {W : Nat} {z : State} {s : State} {ti : ℕ} (hw : Within 0xc06000000300200 W) (h_s : Keeps W z s) : Keeps W z (State.tenFault s ti) := by
  unfold State.tenFault
  (try dsimp only)
  exact (Keeps.ite (State.pulse_keeps (hw.mono rfl) (State.inc_keeps (hw.mono rfl) (State.wrb_keeps (hw.mono rfl) (State.tenReset_keeps (hw.mono rfl) h_s) (hw.mono rfl)) (hw.mono rfl))) h_s)

theorem execInstanceFault_keeps {W : Nat} {z : State} {ti : ℕ} {s : State} (hw : Within 0xc06000000300200 W) (h_s : Keeps W z s) : KeepsOut W z (execInstanceFault ti s) := by
  unfold execInstanceFault
  (try dsimp only)
  exact (KeepsOut.onUnit (State.tenFault_keeps (hw.mono rfl) h_s))

theorem execRingStoppingTimeout_keeps {W : Nat} {z : State} {ring : ℕ} {s : State} (hw : Within 0xc06000000300200 W) (h_s : Keeps W z s) : KeepsOut W z (execRingStoppingTimeout ring s) := by
  unfold execRingStoppingTimeout
  (try dsimp only)
  exact (KeepsOut.onUnit (Keeps.ite (State.tenFault_keeps (hw.mono rfl) h_s) h_s))

theorem State.tiWrong_keeps {W : Nat} {z : State} {s : State} {ti : ℕ} (hw : Within 0x4000000000200 W) (h_s : Keeps W z s) : Keeps W z (State.tiWrong s ti) := by
  unfold State.tiWrong
  (try dsimp only)
  exact (State.cfgErr_keeps (hw.mono rfl) (State.wr_keeps h_s (hw.mono rfl)))

theorem execQuiesce_keeps {W : Nat} {z : State} {val : ℕ} {s : State} (hw : Within 0x188e70a81231ae02 W) (h_s : Keeps W z s) : KeepsOut W z (execQuiesce val s) := by
  unfold execQuiesce
  (try dsimp only)
  exact (KeepsOut.onUnit (Keeps.ite h_s (Keeps.ite (State.tiWrong_keeps (hw.mono rfl) h_s) (State.pauseAll_keeps (hw.mono rfl) (State.wr_keeps (State.tset_keeps (hw.mono rfl) h_s) (hw.mono rfl))))))

theorem execResume_keeps {W : Nat} {z : State} {val : ℕ} {s : State} (hw : Within 0x1c8e70a81231ae02 W) (h_s : Keeps W z s) : KeepsOut W z (execResume val s) := by
  unfold execResume
  (try dsimp only)
  exact (KeepsOut.onUnit (Keeps.ite h_s (Keeps.ite (State.tiWrong_keeps (hw.mono rfl) h_s) (State.pauseAll_keeps (hw.mono rfl) (State.noticeSet_keeps (hw.mono rfl) (State.wr_keeps (State.tset_keeps (hw.mono rfl) h_s) (hw.mono rfl)))))))

theorem execReset_keeps {W : Nat} {z : State} {val : ℕ} {s : State} (hw : Within 0xc06000000300200 W) (h_s : Keeps W z s) : KeepsOut W z (execReset val s) := by
  unfold execReset
  (try dsimp only)
  exact (KeepsOut.onUnit (Keeps.ite h_s (Keeps.ite (State.tiWrong_keeps (hw.mono rfl) h_s) (State.tenReset_keeps (hw.mono rfl) (State.wr_keeps h_s (hw.mono rfl))))))

theorem execQuiesceComplete_keeps {W : Nat} {z : State} {ti : ℕ} {s : State} (hw : Within 0x148c50a81220a602 W) (h_s : Keeps W z s) : KeepsOut W z (execQuiesceComplete ti s) := by
  unfold execQuiesceComplete
  (try dsimp only)
  exact (KeepsOut.onUnit (Keeps.ite h_s (Keeps.ite (State.noticeSet_keeps (hw.mono rfl) (State.wr_keeps (State.tset_keeps (hw.mono rfl) h_s) (hw.mono rfl))) (State.logFlush_keeps (hw.mono rfl) (State.logFlush_keeps (hw.mono rfl) h_s)))))

theorem execQuiesceTimeout_keeps {W : Nat} {z : State} {ti : ℕ} {s : State} (hw : Within 0xc06000000100202 W) (h_s : Keeps W z s) : KeepsOut W z (execQuiesceTimeout ti s) := by
  unfold execQuiesceTimeout
  (try dsimp only)
  exact (KeepsOut.onUnit (Keeps.ite h_s (State.pulse_keeps (hw.mono rfl) (State.noticeSet_keeps (hw.mono rfl) (State.wr_keeps (State.wrb_keeps (hw.mono rfl) (State.tset_keeps (hw.mono rfl) (State.each_keeps (State.each_keeps h_s (fun _ h1 _ => (State.ringKill_keeps (hw.mono rfl) h1))) (fun _ h2 _ => (State.halfClear_keeps (hw.mono rfl) h2)))) (hw.mono rfl)) (hw.mono rfl))))))

theorem State.ctxStart_keeps {W : Nat} {z : State} {s : State} {op : ℕ} {bad : ℕ} (hw : Within 0x4000000200200 W) (h_s : Keeps W z s) : Keeps W z (State.ctxStart s op bad) := by
  unfold State.ctxStart
  (try dsimp only)
  exact (Keeps.ite (State.cfgErr_keeps (hw.mono rfl) h_s) (Keeps.ite (State.wr_keeps h_s (hw.mono rfl)) (Keeps.set_ten (hw.mono rfl) (State.wr_keeps h_s (hw.mono rfl)))))

theorem execContextSave_keeps {W : Nat} {z : State} {val : ℕ} {s : State} (hw : Within 0x4000000200200 W) (h_s : Keeps W z s) : KeepsOut W z (execContextSave val s) := by
  unfold execContextSave
  (try dsimp only)
  exact (KeepsOut.onUnit (Keeps.ite (State.ctxStart_keeps (hw.mono rfl) h_s) h_s))

theorem execContextLoad_keeps {W : Nat} {z : State} {val : ℕ} {s : State} (hw : Within 0x4000000200200 W) (h_s : Keeps W z s) : KeepsOut W z (execContextLoad val s) := by
  unfold execContextLoad
  (try dsimp only)
  exact (KeepsOut.onUnit (Keeps.ite (State.ctxStart_keeps (hw.mono rfl) h_s) h_s))

theorem State.ctxSave_keeps {W : Nat} {z : State} {s : State} {ti : ℕ} (hw : Within 0x40000000 W) (h_s : Keeps W z s) : Keeps W z (State.ctxSave s ti) := by
  unfold State.ctxSave
  (try dsimp only)
  exact (State.each_keeps h_s (fun _ h1 _ => (State.uset_keeps (hw.mono rfl) h1)))

theorem State.slotLoad_keeps {W : Nat} {z : State} {s : State} {ti : ℕ} {k : ℕ} (hw : Within 0x806000000100000 W) (h_s : Keeps W z s) : Keeps W z (State.slotLoad s ti k) := by
  unfold State.slotLoad
  (try dsimp only)
  exact (by split <;> [(exact (Keeps.ite h_s (State.putb_keeps (hw.mono rfl) h_s (hw.mono rfl)))); (exact (State.ringMod_keeps (hw.mono rfl) (State.wr_keeps (State.wr_keeps (State.wr_keeps (State.wr_keeps (State.wr_keeps (State.wr_keeps (State.wr_keeps (State.wr_keeps (State.wr_keeps (State.wr_keeps (State.wr_keeps (State.wr_keeps (State.wr_keeps (State.wr_keeps (State.wr_keeps (State.wr_keeps (State.wr_keeps h_s (hw.mono rfl)) (hw.mono rfl)) (hw.mono rfl)) (hw.mono rfl)) (hw.mono rfl)) (hw.mono rfl)) (hw.mono rfl)) (hw.mono rfl)) (hw.mono rfl)) (hw.mono rfl)) (hw.mono rfl)) (hw.mono rfl)) (hw.mono rfl)) (hw.mono rfl)) (hw.mono rfl)) (hw.mono rfl)) (hw.mono rfl))))])

theorem State.ctxLoad_keeps {W : Nat} {z : State} {s : State} {ti : ℕ} (hw : Within 0x1c86000012300002 W) (h_s : Keeps W z s) : Keeps W z (State.ctxLoad s ti) := by
  unfold State.ctxLoad
  (try dsimp only)
  exact (State.when_keeps (State.each_keeps (State.wr_keeps (State.wr_keeps (State.wr_keeps (State.wr_keeps (State.wr_keeps (State.wr_keeps (State.wr_keeps (State.wr_keeps (State.wr_keeps (State.wr_keeps (State.each_keeps (State.wr_keeps h_s (hw.mono rfl)) (fun _ h1 _ => (State.wr_keeps (State.wr_keeps h1 (hw.mono rfl)) (hw.mono rfl)))) (hw.mono rfl)) (hw.mono rfl)) (hw.mono rfl)) (hw.mono rfl)) (hw.mono rfl)) (hw.mono rfl)) (hw.mono rfl)) (hw.mono rfl)) (hw.mono rfl)) (hw.mono rfl)) (fun _ h2 _ => (State.slotLoad_keeps (hw.mono rfl) h2))) (fun _ h3 => (State.mbNotify_keeps (hw.mono rfl) h3)))

theorem execContextTransferDone_keeps {W : Nat} {z : State} {s : State} (hw : Within 0x1c86000052300002 W) (h_s : Keeps W z s) : KeepsOut W z (execContextTransferDone s) := by
  unfold execContextTransferDone
  (try dsimp only)
  exact (KeepsOut.next (by split <;> [(exact h_s); (exact (Keeps.ite (State.wr_keeps (Keeps.set_ten (hw.mono rfl) h_s) (hw.mono rfl)) (State.wr_keeps (Keeps.ite (State.ctxSave_keeps (hw.mono rfl) (Keeps.set_ten (hw.mono rfl) h_s)) (State.ctxLoad_keeps (hw.mono rfl) (Keeps.set_ten (hw.mono rfl) h_s))) (hw.mono rfl))))]))

theorem execLogEnable_keeps {W : Nat} {z : State} {val : ℕ} {s : State} (hw : Within 0x4000000000200 W) (h_s : Keeps W z s) : KeepsOut W z (execLogEnable val s) := by
  unfold execLogEnable
  (try dsimp only)
  exact (KeepsOut.onUnit (Keeps.ite h_s (Keeps.ite (State.cfgErr_keeps (hw.mono rfl) h_s) (State.wr_keeps (State.wrb_keeps (hw.mono rfl) (State.wr_keeps h_s (hw.mono rfl)) (hw.mono rfl)) (hw.mono rfl)))))

theorem execLogDisable_keeps {W : Nat} {z : State} {val : ℕ} {s : State} (hw : Within 0x108c50a81220a602 W) (h_s : Keeps W z s) : KeepsOut W z (execLogDisable val s) := by
  unfold execLogDisable
  (try dsimp only)
  exact (KeepsOut.onUnit (Keeps.ite h_s (Keeps.ite (Keeps.ite (State.cfgErr_keeps (hw.mono rfl) h_s) (State.wr_keeps h_s (hw.mono rfl))) (State.logFlush_keeps (hw.mono rfl) (State.logFlush_keeps (hw.mono rfl) (Keeps.set_ten (hw.mono rfl) (State.wrb_keeps (hw.mono rfl) (State.wrb_keeps (hw.mono rfl) h_s (hw.mono rfl)) (hw.mono rfl))))))))

theorem execLogFlip_keeps {W : Nat} {z : State} {val : ℕ} {s : State} (hw : Within 0x108c50a81220a602 W) (h_s : Keeps W z s) : KeepsOut W z (execLogFlip val s) := by
  unfold execLogFlip
  (try dsimp only)
  exact (KeepsOut.onUnit (Keeps.ite h_s (Keeps.ite (State.cfgErr_keeps (hw.mono rfl) h_s) (State.logFlush_keeps (hw.mono rfl) (Keeps.set_ten (hw.mono rfl) (State.wrb_keeps (hw.mono rfl) (State.wr_keeps h_s (hw.mono rfl)) (hw.mono rfl)))))))

theorem execLogFlipDone_keeps {W : Nat} {z : State} {ti : ℕ} {s : State} (hw : Within 0x4000000200000 W) (h_s : Keeps W z s) : KeepsOut W z (execLogFlipDone ti s) := by
  unfold execLogFlipDone
  (try dsimp only)
  exact (KeepsOut.onUnit (Keeps.ite h_s (Keeps.set_ten (hw.mono rfl) (State.wrb_keeps (hw.mono rfl) h_s (hw.mono rfl)))))

theorem execLogCacheEvict_keeps {W : Nat} {z : State} {ti : ℕ} {buf : ℕ} {word : ℕ} {s : State} (hw : Within 0x108850a81220a602 W) (h_s : Keeps W z s) : KeepsOut W z (execLogCacheEvict ti buf word s) := by
  unfold execLogCacheEvict
  (try dsimp only)
  exact (KeepsOut.onUnit (by split <;> [(exact (State.logEvict_keeps (hw.mono rfl) h_s)); (exact h_s)]))

theorem execLogBufferCompletion_keeps {W : Nat} {z : State} {id : ℕ} {data : ℕ} {ok : Bool} {s : State} (hw : Within 0x108c50a81220a602 W) (h_s : Keeps W z s) : KeepsOut W z (execLogBufferCompletion id data ok s) := by
  unfold execLogBufferCompletion
  (try dsimp only)
  exact (KeepsOut.next (by split <;> [(exact h_s); (exact (Keeps.ite (State.backEnd_keeps (hw.mono rfl) h_s) (Keeps.ite (State.backSend_keeps (hw.mono rfl) h_s) (Keeps.ite (State.backSend_keeps (hw.mono rfl) h_s) (State.backEnd_keeps (hw.mono rfl) h_s)))))]))

theorem State.tenWarm_keeps {W : Nat} {z : State} {s : State} (hw : Within 0xc06000000300200 W) (h_s : Keeps W z s) : Keeps W z (State.tenWarm s) := by
  unfold State.tenWarm
  (try dsimp only)
  exact (Keeps.set_ten (hw.mono rfl) (State.wr_keeps (State.clr_keeps (State.each_keeps (State.each_keeps h_s (fun _ h1 _ => (Keeps.ite (State.wrb_keeps (hw.mono rfl) (State.wrb_keeps (hw.mono rfl) h1 (hw.mono rfl)) (hw.mono rfl)) h1))) (fun _ h2 _ => (State.tenFlr_keeps (hw.mono rfl) h2))) (hw.mono rfl)) (hw.mono rfl)))

theorem State.tenPort_keeps {W : Nat} {z : State} {s : State} {p : ℕ} (hw : Within 0xc06000000300200 W) (h_s : Keeps W z s) : Keeps W z (State.tenPort s p) := by
  unfold State.tenPort
  (try dsimp only)
  exact (State.each_keeps h_s (fun _ h1 _ => (State.tenFlr_keeps (hw.mono rfl) h1)))

/-! ### Snf -/

theorem State.setFentry_keeps {W : Nat} {z : State} {s : State} {k : ℕ} {e : FEntry} (hw : Within 0x80000 W) (h_s : Keeps W z s) : Keeps W z (State.setFentry s k e) := by
  unfold State.setFentry
  (try dsimp only)
  exact (Keeps.set_wm (hw.mono rfl) h_s)

theorem State.snfLast_keeps {W : Nat} {z : State} {s : State} {k : ℕ} {kind : ℕ} (hw : Within 0x80000000000 W) (h_s : Keeps W z s) : Keeps W z (State.snfLast s k kind) := by
  unfold State.snfLast
  (try dsimp only)
  exact (State.wrb_keeps (hw.mono rfl) (State.wr_keeps (State.wr_keeps (State.wr_keeps (State.wr_keeps h_s (hw.mono rfl)) (hw.mono rfl)) (hw.mono rfl)) (hw.mono rfl)) (hw.mono rfl))

theorem State.makeSuspect_keeps {W : Nat} {z : State} {s : State} {sl : ℕ} {i : ℕ} (hw : Within 0x80000000000 W) (h_s : Keeps W z s) : Keeps W z (State.makeSuspect s sl i) := by
  unfold State.makeSuspect
  (try dsimp only)
  exact (Keeps.ite h_s (by split <;> [(exact (State.wr_keeps (State.wr_keeps (State.wrb_keeps (hw.mono rfl) h_s (hw.mono rfl)) (hw.mono rfl)) (hw.mono rfl))); (exact (State.wrb_keeps (hw.mono rfl) h_s (hw.mono rfl)))]))

theorem State.clearSuspect_keeps {W : Nat} {z : State} {s : State} {sl : ℕ} (hw : Within 0x80000000000 W) (h_s : Keeps W z s) : Keeps W z (State.clearSuspect s sl) := by
  unfold State.clearSuspect
  (try dsimp only)
  exact (State.wrb_keeps (hw.mono rfl) (State.wr_keeps (State.each_keeps h_s (fun _ h1 _ => (State.wr_keeps (State.wrb_keeps (hw.mono rfl) h1 (hw.mono rfl)) (hw.mono rfl)))) (hw.mono rfl)) (hw.mono rfl))

theorem State.badEntry_keeps {W : Nat} {z : State} {s : State} {k : ℕ} {inv : Bool} (hw : Within 0x80000080200 W) (h_s : Keeps W z s) : Keeps W z (State.badEntry s k inv) := by
  unfold State.badEntry
  (try dsimp only)
  exact (Keeps.ite (State.pulse_keeps (hw.mono rfl) (State.snfLast_keeps (hw.mono rfl) (Keeps.ite (State.inc_keeps (hw.mono rfl) h_s (hw.mono rfl)) (State.inc_keeps (hw.mono rfl) h_s (hw.mono rfl))))) (State.makeSuspect_keeps (hw.mono rfl) (State.setFentry_keeps (hw.mono rfl) (State.pulse_keeps (hw.mono rfl) (State.snfLast_keeps (hw.mono rfl) (Keeps.ite (State.inc_keeps (hw.mono rfl) h_s (hw.mono rfl)) (State.inc_keeps (hw.mono rfl) h_s (hw.mono rfl))))))))

theorem State.retire_keeps {W : Nat} {z : State} {s : State} {k : ℕ} (hw : Within 0x80000000000 W) (h_s : Keeps W z s) : Keeps W z (State.retire s k) := by
  unfold State.retire
  (try dsimp only)
  exact (Keeps.ite h_s (by split <;> [(exact (State.wr_keeps (State.wr_keeps (State.wr_keeps (State.wrb_keeps (hw.mono rfl) h_s (hw.mono rfl)) (hw.mono rfl)) (hw.mono rfl)) (hw.mono rfl))); (exact h_s)]))

theorem State.ageSet_keeps {W : Nat} {z : State} {s : State} {k : ℕ} {v : ℕ} (hw : Within 0x80000 W) (h_s : Keeps W z s) : Keeps W z (State.ageSet s k v) := by
  unfold State.ageSet
  (try dsimp only)
  exact (State.each_keeps h_s (fun _ h1 _ => (State.setFentry_keeps (hw.mono rfl) h1)))

theorem execSuspectClear_keeps {W : Nat} {z : State} {val : ℕ} {s : State} (hw : Within 0x80000000000 W) (h_s : Keeps W z s) : KeepsOut W z (execSuspectClear val s) := by
  unfold execSuspectClear
  (try dsimp only)
  exact (KeepsOut.onUnit (Keeps.ite (State.each_keeps h_s (fun _ h1 _ => (State.clearSuspect_keeps (hw.mono rfl) h1))) h_s))

end Sys2Proof.Machine
end

