-- ==== Sys2Proof/Laws/KeepsC.lean ====
section
/-! SUPPORT. What every operation keeps, for the operations of Wm: the queue, the canonical form of the register store, and
what lies outside the parts it may change (`Keeps`, `KeepsOut`, `KeepsOpt`). -/

namespace Sys2Proof.Machine

/-! ### Wm -/

theorem State.setTxn_keeps {W : Nat} {z : State} {s : State} {l : ℕ} {t : Option Txn} (hw : Within 0x20000080000 W) (h_s : Keeps W z s) : Keeps W z (State.setTxn s l t) := by
  unfold State.setTxn
  (try dsimp only)
  exact (State.wr_keeps (Keeps.set_wm (hw.mono rfl) h_s) (hw.mono rfl))

theorem State.modTxn_keeps {W : Nat} {z : State} {s : State} {l : ℕ} {f : Txn → Txn} (hw : Within 0x20000080000 W) (h_s : Keeps W z s) : Keeps W z (State.modTxn s l f) := by
  unfold State.modTxn
  (try dsimp only)
  exact (by split <;> [(exact (State.setTxn_keeps (hw.mono rfl) h_s)); (exact h_s)])

theorem State.fillCell_keeps {W : Nat} {z : State} {s : State} {l : ℕ} {data : ℕ} {poison : Bool} {own : Bool} (hw : Within 0x2000080000 W) (h_s : Keeps W z s) : Keeps W z (State.fillCell s l data poison own) := by
  unfold State.fillCell
  (try dsimp only)
  exact (Keeps.set_wm (hw.mono rfl) (Keeps.ite (State.takeCells_keeps (hw.mono rfl) h_s) h_s))

theorem State.cellsBack_keeps {W : Nat} {z : State} {s : State} {n : ℕ} (hw : Within 0x108810a01200a602 W) (h_s : Keeps W z s) : Keeps W z (State.cellsBack s n) := by
  unfold State.cellsBack
  (try dsimp only)
  exact (State.drainAll_keeps (hw.mono rfl) (State.retCredits_keeps (hw.mono rfl) (State.giveCells_keeps (hw.mono rfl) h_s)))

theorem State.freeCell_keeps {W : Nat} {z : State} {s : State} {l : ℕ} (hw : Within 0x108810a01208a602 W) (h_s : Keeps W z s) : Keeps W z (State.freeCell s l) := by
  unfold State.freeCell
  (try dsimp only)
  exact (Keeps.ite h_s (State.cellsBack_keeps (hw.mono rfl) (Keeps.set_wm (hw.mono rfl) h_s)))

theorem State.dropKept_keeps {W : Nat} {z : State} {s : State} {l : ℕ} (hw : Within 0x108812a01208a602 W) (h_s : Keeps W z s) : Keeps W z (State.dropKept s l) := by
  unfold State.dropKept
  (try dsimp only)
  exact (by split <;> [(exact (Keeps.ite (State.cellsBack_keeps (hw.mono rfl) (State.setTxn_keeps (hw.mono rfl) h_s)) h_s)); (exact h_s)])

theorem State.respond_keeps {W : Nat} {z : State} {s : State} {l : ℕ} {m : Msg} {g : ℕ} {data : Option (ℕ × Bool)} {bad : optParam Bool false} (hw : Within 0x108850a81200a602 W) (h_s : Keeps W z s) : Keeps W z (State.respond s l m g data bad) := by
  unfold State.respond
  (try dsimp only)
  exact (State.inject_keeps (hw.mono rfl) h_s)

theorem State.sendSnoop_keeps {W : Nat} {z : State} {s : State} {l : ℕ} {as : ℕ} {code : ℕ} (hw : Within 0x108810a01200a602 W) (h_s : Keeps W z s) : Keeps W z (State.sendSnoop s l as code) := by
  unfold State.sendSnoop
  (try dsimp only)
  exact (State.injectTo_keeps (hw.mono rfl) (State.each_keeps h_s (fun _ h1 _ => (State.countMsg_keeps (hw.mono rfl) h1))))

theorem State.toHome_keeps {W : Nat} {z : State} {s : State} {l : ℕ} {kind : MKind} {op : ℕ} {st : ℕ} {data : Option (ℕ × Bool)} {be : ℕ} {ncnt : ℕ} (hw : Within 0x108850a81200a602 W) (h_s : Keeps W z s) : Keeps W z (State.toHome s l kind op st data be ncnt) := by
  unfold State.toHome
  (try dsimp only)
  exact (State.inject_keeps (hw.mono rfl) h_s)

theorem State.poolCheck_keeps {W : Nat} {z : State} {s : State} {l : ℕ} {data : Option (ℕ × Bool)} {be : ℕ} (hw : Within 0x200000000200 W) (h_s : Keeps W z s) : Keeps W z (State.poolCheck s l data be).2 := by
  unfold State.poolCheck
  (try dsimp only)
  exact (Keeps.ite2 (State.inc_keeps (hw.mono rfl) h_s (hw.mono rfl)) (by split <;> [(exact h_s); (exact (State.xltRecord_keeps (hw.mono rfl) h_s)); (exact h_s)]))

theorem State.poolSend_keeps {W : Nat} {z : State} {s : State} {l : ℕ} {data : Option (ℕ × Bool)} {be : ℕ} (hw : Within 0x108830a01200a602 W) (h_s : Keeps W z s) : Keeps W z (State.poolSend s l data be).2 := by
  unfold State.poolSend
  (try dsimp only)
  exact (by split <;> [(rename_i e_; have h1 := Keeps.snd_eq (State.poolCheck_keeps (hw.mono rfl) h_s) e_; exact (State.injectTo_keeps (hw.mono rfl) h1)); (rename_i e_; have h2 := Keeps.snd_eq (State.poolCheck_keeps (hw.mono rfl) h_s) e_; exact h2)])

theorem State.lostLine_keeps {W : Nat} {z : State} {s : State} {l : ℕ} {cause : ℕ} {agent : ℕ} (hw : Within 0x20000000200 W) (h_s : Keeps W z s) : Keeps W z (State.lostLine s l cause agent) := by
  unfold State.lostLine
  (try dsimp only)
  exact (State.pulse_keeps (hw.mono rfl) (State.wr2_keeps (hw.mono rfl) (State.wrb_keeps (hw.mono rfl) (State.wr_keeps (State.wr_keeps h_s (hw.mono rfl)) (hw.mono rfl)) (hw.mono rfl)) (hw.mono rfl) (hw.mono rfl)))

theorem State.writeEntry_keeps {W : Nat} {z : State} {s : State} {l : ℕ} (hw : Within 0x80000 W) (h_s : Keeps W z s) : Keeps W z (State.writeEntry s l) := by
  unfold State.writeEntry
  (try dsimp only)
  exact (by split <;> [(exact h_s); (exact (by split <;> [(exact h_s); (exact (Keeps.ite (State.setFentry_keeps (hw.mono rfl) h_s) (State.setFentry_keeps (hw.mono rfl) h_s)))]))])

theorem State.snoopAnswer_keeps {W : Nat} {z : State} {s : State} {l : ℕ} {m : Msg} {st : ℕ} {data : Option (ℕ × Bool)} (hw : Within 0x108850a81200a602 W) (h_s : Keeps W z s) : Keeps W z (State.snoopAnswer s l m st data) := by
  unfold State.snoopAnswer
  (try dsimp only)
  exact (State.inject_keeps (hw.mono rfl) h_s)

theorem State.issueWrite_keeps {W : Nat} {z : State} {s : State} {l : ℕ} {d : ℕ × Bool} {be : ℕ} {kept : ℕ} {req : ℕ} {dirty : Bool} (hw : Within 0x108870a81200a602 W) (h_s : Keeps W z s) : Keeps W z (State.issueWrite s l d be kept req dirty).2 := by
  unfold State.issueWrite
  (try dsimp only)
  exact (Keeps.ite2 h_s (Keeps.ite2 (Keeps.ite2 (State.toHome_keeps (hw.mono rfl) h_s) (State.toHome_keeps (hw.mono rfl) h_s)) (State.poolSend_keeps (hw.mono rfl) h_s)))

theorem State.writeFailed_keeps {W : Nat} {z : State} {s : State} {sl : ℕ} (hw : Within 0x20000080200 W) (h_s : Keeps W z s) : Keeps W z (State.writeFailed s sl) := by
  unfold State.writeFailed
  (try dsimp only)
  exact (Keeps.ite (State.inc_keeps (hw.mono rfl) h_s (hw.mono rfl)) (State.pulse_keeps (hw.mono rfl) (Keeps.set_wm (hw.mono rfl) (State.inc_keeps (hw.mono rfl) h_s (hw.mono rfl)))))

theorem State.writeLost_keeps {W : Nat} {z : State} {s : State} {l : ℕ} {a : ℕ} {told : Bool} (hw : Within 0x20000080200 W) (h_s : Keeps W z s) : Keeps W z (State.writeLost s l a told) := by
  unfold State.writeLost
  (try dsimp only)
  exact (Keeps.ite (State.writeFailed_keeps (hw.mono rfl) h_s) (Keeps.ite h_s (State.lostLine_keeps (hw.mono rfl) h_s)))

theorem State.writeOut_keeps {W : Nat} {z : State} {s : State} {l : ℕ} {a : ℕ} {told : Bool} {d : ℕ × Bool} {be : ℕ} {kept : ℕ} {req : ℕ} {dirty : Bool} (hw : Within 0x108872a81208a602 W) (h_s : Keeps W z s) : Keeps W z (State.writeOut s l a told d be kept req dirty).2 := by
  unfold State.writeOut
  (try dsimp only)
  exact (Keeps.ite (State.issueWrite_keeps (hw.mono rfl) h_s) (State.writeLost_keeps (hw.mono rfl) (State.issueWrite_keeps (hw.mono rfl) h_s)))

theorem State.settleTxn_keeps {W : Nat} {z : State} {s : State} {l : ℕ} (hw : Within 0x20000080000 W) (h_s : Keeps W z s) : Keeps W z (State.settleTxn s l) := by
  unfold State.settleTxn
  (try dsimp only)
  exact (by split <;> [(exact h_s); (exact (Keeps.ite (by split <;> [(exact (State.setTxn_keeps (hw.mono rfl) (Keeps.set_wm (hw.mono rfl) h_s))); (exact (State.setTxn_keeps (hw.mono rfl) h_s))]) h_s))])

theorem State.endRow_keeps {W : Nat} {z : State} {s : State} {l : ℕ} (hw : Within 0x108812a01208a602 W) (h_s : Keeps W z s) : Keeps W z (State.endRow s l) := by
  unfold State.endRow
  (try dsimp only)
  exact (State.settleTxn_keeps (hw.mono rfl) (State.modTxn_keeps (hw.mono rfl) (State.writeEntry_keeps (hw.mono rfl) (State.dropKept_keeps (hw.mono rfl) h_s))))

theorem State.rowDone_keeps {W : Nat} {z : State} {s : State} {l : ℕ} (hw : Within 0x108872a81208a602 W) (h_s : Keeps W z s) : Keeps W z (State.rowDone s l) := by
  unfold State.rowDone
  (try dsimp only)
  exact (by split <;> [(exact h_s); (exact (by split <;> [(exact (State.endRow_keeps (hw.mono rfl) (Keeps.ite (by split <;> [(exact (State.respond_keeps (hw.mono rfl) (Keeps.ite (State.modTxn_keeps (hw.mono rfl) (State.modTxn_keeps (hw.mono rfl) (by split <;> [(exact (State.writeOut_keeps (hw.mono rfl) (Keeps.ite (State.freeCell_keeps (hw.mono rfl) (State.dropKept_keeps (hw.mono rfl) (Keeps.ite (by split <;> [(exact (State.modTxn_keeps (hw.mono rfl) (State.fillCell_keeps (hw.mono rfl) (by split <;> [(exact (Keeps.ite h_s (Keeps.ite (State.snoopAnswer_keeps (hw.mono rfl) h_s) (State.respond_keeps (hw.mono rfl) (Keeps.ite (State.countMsg_keeps (hw.mono rfl) h_s) h_s))))); (exact h_s)])))); (exact (by split <;> [(exact (Keeps.ite h_s (Keeps.ite (State.snoopAnswer_keeps (hw.mono rfl) h_s) (State.respond_keeps (hw.mono rfl) (Keeps.ite (State.countMsg_keeps (hw.mono rfl) h_s) h_s))))); (exact h_s)]))]) (by split <;> [(exact (Keeps.ite h_s (Keeps.ite (State.snoopAnswer_keeps (hw.mono rfl) h_s) (State.respond_keeps (hw.mono rfl) (Keeps.ite (State.countMsg_keeps (hw.mono rfl) h_s) h_s))))); (exact h_s)])))) (State.dropKept_keeps (hw.mono rfl) (Keeps.ite (by split <;> [(exact (State.modTxn_keeps (hw.mono rfl) (State.fillCell_keeps (hw.mono rfl) (by split <;> [(exact (Keeps.ite h_s (Keeps.ite (State.snoopAnswer_keeps (hw.mono rfl) h_s) (State.respond_keeps (hw.mono rfl) (Keeps.ite (State.countMsg_keeps (hw.mono rfl) h_s) h_s))))); (exact h_s)])))); (exact (by split <;> [(exact (Keeps.ite h_s (Keeps.ite (State.snoopAnswer_keeps (hw.mono rfl) h_s) (State.respond_keeps (hw.mono rfl) (Keeps.ite (State.countMsg_keeps (hw.mono rfl) h_s) h_s))))); (exact h_s)]))]) (by split <;> [(exact (Keeps.ite h_s (Keeps.ite (State.snoopAnswer_keeps (hw.mono rfl) h_s) (State.respond_keeps (hw.mono rfl) (Keeps.ite (State.countMsg_keeps (hw.mono rfl) h_s) h_s))))); (exact h_s)])))))); (exact (Keeps.ite (State.freeCell_keeps (hw.mono rfl) (State.dropKept_keeps (hw.mono rfl) (Keeps.ite (by split <;> [(exact (State.modTxn_keeps (hw.mono rfl) (State.fillCell_keeps (hw.mono rfl) (by split <;> [(exact (Keeps.ite h_s (Keeps.ite (State.snoopAnswer_keeps (hw.mono rfl) h_s) (State.respond_keeps (hw.mono rfl) (Keeps.ite (State.countMsg_keeps (hw.mono rfl) h_s) h_s))))); (exact h_s)])))); (exact (by split <;> [(exact (Keeps.ite h_s (Keeps.ite (State.snoopAnswer_keeps (hw.mono rfl) h_s) (State.respond_keeps (hw.mono rfl) (Keeps.ite (State.countMsg_keeps (hw.mono rfl) h_s) h_s))))); (exact h_s)]))]) (by split <;> [(exact (Keeps.ite h_s (Keeps.ite (State.snoopAnswer_keeps (hw.mono rfl) h_s) (State.respond_keeps (hw.mono rfl) (Keeps.ite (State.countMsg_keeps (hw.mono rfl) h_s) h_s))))); (exact h_s)])))) (State.dropKept_keeps (hw.mono rfl) (Keeps.ite (by split <;> [(exact (State.modTxn_keeps (hw.mono rfl) (State.fillCell_keeps (hw.mono rfl) (by split <;> [(exact (Keeps.ite h_s (Keeps.ite (State.snoopAnswer_keeps (hw.mono rfl) h_s) (State.respond_keeps (hw.mono rfl) (Keeps.ite (State.countMsg_keeps (hw.mono rfl) h_s) h_s))))); (exact h_s)])))); (exact (by split <;> [(exact (Keeps.ite h_s (Keeps.ite (State.snoopAnswer_keeps (hw.mono rfl) h_s) (State.respond_keeps (hw.mono rfl) (Keeps.ite (State.countMsg_keeps (hw.mono rfl) h_s) h_s))))); (exact h_s)]))]) (by split <;> [(exact (Keeps.ite h_s (Keeps.ite (State.snoopAnswer_keeps (hw.mono rfl) h_s) (State.respond_keeps (hw.mono rfl) (Keeps.ite (State.countMsg_keeps (hw.mono rfl) h_s) h_s))))); (exact h_s)])))))]))) (State.modTxn_keeps (hw.mono rfl) (by split <;> [(exact (State.writeOut_keeps (hw.mono rfl) (Keeps.ite (State.freeCell_keeps (hw.mono rfl) (State.dropKept_keeps (hw.mono rfl) (Keeps.ite (by split <;> [(exact (State.modTxn_keeps (hw.mono rfl) (State.fillCell_keeps (hw.mono rfl) (by split <;> [(exact (Keeps.ite h_s (Keeps.ite (State.snoopAnswer_keeps (hw.mono rfl) h_s) (State.respond_keeps (hw.mono rfl) (Keeps.ite (State.countMsg_keeps (hw.mono rfl) h_s) h_s))))); (exact h_s)])))); (exact (by split <;> [(exact (Keeps.ite h_s (Keeps.ite (State.snoopAnswer_keeps (hw.mono rfl) h_s) (State.respond_keeps (hw.mono rfl) (Keeps.ite (State.countMsg_keeps (hw.mono rfl) h_s) h_s))))); (exact h_s)]))]) (by split <;> [(exact (Keeps.ite h_s (Keeps.ite (State.snoopAnswer_keeps (hw.mono rfl) h_s) (State.respond_keeps (hw.mono rfl) (Keeps.ite (State.countMsg_keeps (hw.mono rfl) h_s) h_s))))); (exact h_s)])))) (State.dropKept_keeps (hw.mono rfl) (Keeps.ite (by split <;> [(exact (State.modTxn_keeps (hw.mono rfl) (State.fillCell_keeps (hw.mono rfl) (by split <;> [(exact (Keeps.ite h_s (Keeps.ite (State.snoopAnswer_keeps (hw.mono rfl) h_s) (State.respond_keeps (hw.mono rfl) (Keeps.ite (State.countMsg_keeps (hw.mono rfl) h_s) h_s))))); (exact h_s)])))); (exact (by split <;> [(exact (Keeps.ite h_s (Keeps.ite (State.snoopAnswer_keeps (hw.mono rfl) h_s) (State.respond_keeps (hw.mono rfl) (Keeps.ite (State.countMsg_keeps (hw.mono rfl) h_s) h_s))))); (exact h_s)]))]) (by split <;> [(exact (Keeps.ite h_s (Keeps.ite (State.snoopAnswer_keeps (hw.mono rfl) h_s) (State.respond_keeps (hw.mono rfl) (Keeps.ite (State.countMsg_keeps (hw.mono rfl) h_s) h_s))))); (exact h_s)])))))); (exact (Keeps.ite (State.freeCell_keeps (hw.mono rfl) (State.dropKept_keeps (hw.mono rfl) (Keeps.ite (by split <;> [(exact (State.modTxn_keeps (hw.mono rfl) (State.fillCell_keeps (hw.mono rfl) (by split <;> [(exact (Keeps.ite h_s (Keeps.ite (State.snoopAnswer_keeps (hw.mono rfl) h_s) (State.respond_keeps (hw.mono rfl) (Keeps.ite (State.countMsg_keeps (hw.mono rfl) h_s) h_s))))); (exact h_s)])))); (exact (by split <;> [(exact (Keeps.ite h_s (Keeps.ite (State.snoopAnswer_keeps (hw.mono rfl) h_s) (State.respond_keeps (hw.mono rfl) (Keeps.ite (State.countMsg_keeps (hw.mono rfl) h_s) h_s))))); (exact h_s)]))]) (by split <;> [(exact (Keeps.ite h_s (Keeps.ite (State.snoopAnswer_keeps (hw.mono rfl) h_s) (State.respond_keeps (hw.mono rfl) (Keeps.ite (State.countMsg_keeps (hw.mono rfl) h_s) h_s))))); (exact h_s)])))) (State.dropKept_keeps (hw.mono rfl) (Keeps.ite (by split <;> [(exact (State.modTxn_keeps (hw.mono rfl) (State.fillCell_keeps (hw.mono rfl) (by split <;> [(exact (Keeps.ite h_s (Keeps.ite (State.snoopAnswer_keeps (hw.mono rfl) h_s) (State.respond_keeps (hw.mono rfl) (Keeps.ite (State.countMsg_keeps (hw.mono rfl) h_s) h_s))))); (exact h_s)])))); (exact (by split <;> [(exact (Keeps.ite h_s (Keeps.ite (State.snoopAnswer_keeps (hw.mono rfl) h_s) (State.respond_keeps (hw.mono rfl) (Keeps.ite (State.countMsg_keeps (hw.mono rfl) h_s) h_s))))); (exact h_s)]))]) (by split <;> [(exact (Keeps.ite h_s (Keeps.ite (State.snoopAnswer_keeps (hw.mono rfl) h_s) (State.respond_keeps (hw.mono rfl) (Keeps.ite (State.countMsg_keeps (hw.mono rfl) h_s) h_s))))); (exact h_s)])))))]))))); (exact (Keeps.ite (State.modTxn_keeps (hw.mono rfl) (State.modTxn_keeps (hw.mono rfl) (by split <;> [(exact (State.writeOut_keeps (hw.mono rfl) (Keeps.ite (State.freeCell_keeps (hw.mono rfl) (State.dropKept_keeps (hw.mono rfl) (Keeps.ite (by split <;> [(exact (State.modTxn_keeps (hw.mono rfl) (State.fillCell_keeps (hw.mono rfl) (by split <;> [(exact (Keeps.ite h_s (Keeps.ite (State.snoopAnswer_keeps (hw.mono rfl) h_s) (State.respond_keeps (hw.mono rfl) (Keeps.ite (State.countMsg_keeps (hw.mono rfl) h_s) h_s))))); (exact h_s)])))); (exact (by split <;> [(exact (Keeps.ite h_s (Keeps.ite (State.snoopAnswer_keeps (hw.mono rfl) h_s) (State.respond_keeps (hw.mono rfl) (Keeps.ite (State.countMsg_keeps (hw.mono rfl) h_s) h_s))))); (exact h_s)]))]) (by split <;> [(exact (Keeps.ite h_s (Keeps.ite (State.snoopAnswer_keeps (hw.mono rfl) h_s) (State.respond_keeps (hw.mono rfl) (Keeps.ite (State.countMsg_keeps (hw.mono rfl) h_s) h_s))))); (exact h_s)])))) (State.dropKept_keeps (hw.mono rfl) (Keeps.ite (by split <;> [(exact (State.modTxn_keeps (hw.mono rfl) (State.fillCell_keeps (hw.mono rfl) (by split <;> [(exact (Keeps.ite h_s (Keeps.ite (State.snoopAnswer_keeps (hw.mono rfl) h_s) (State.respond_keeps (hw.mono rfl) (Keeps.ite (State.countMsg_keeps (hw.mono rfl) h_s) h_s))))); (exact h_s)])))); (exact (by split <;> [(exact (Keeps.ite h_s (Keeps.ite (State.snoopAnswer_keeps (hw.mono rfl) h_s) (State.respond_keeps (hw.mono rfl) (Keeps.ite (State.countMsg_keeps (hw.mono rfl) h_s) h_s))))); (exact h_s)]))]) (by split <;> [(exact (Keeps.ite h_s (Keeps.ite (State.snoopAnswer_keeps (hw.mono rfl) h_s) (State.respond_keeps (hw.mono rfl) (Keeps.ite (State.countMsg_keeps (hw.mono rfl) h_s) h_s))))); (exact h_s)])))))); (exact (Keeps.ite (State.freeCell_keeps (hw.mono rfl) (State.dropKept_keeps (hw.mono rfl) (Keeps.ite (by split <;> [(exact (State.modTxn_keeps (hw.mono rfl) (State.fillCell_keeps (hw.mono rfl) (by split <;> [(exact (Keeps.ite h_s (Keeps.ite (State.snoopAnswer_keeps (hw.mono rfl) h_s) (State.respond_keeps (hw.mono rfl) (Keeps.ite (State.countMsg_keeps (hw.mono rfl) h_s) h_s))))); (exact h_s)])))); (exact (by split <;> [(exact (Keeps.ite h_s (Keeps.ite (State.snoopAnswer_keeps (hw.mono rfl) h_s) (State.respond_keeps (hw.mono rfl) (Keeps.ite (State.countMsg_keeps (hw.mono rfl) h_s) h_s))))); (exact h_s)]))]) (by split <;> [(exact (Keeps.ite h_s (Keeps.ite (State.snoopAnswer_keeps (hw.mono rfl) h_s) (State.respond_keeps (hw.mono rfl) (Keeps.ite (State.countMsg_keeps (hw.mono rfl) h_s) h_s))))); (exact h_s)])))) (State.dropKept_keeps (hw.mono rfl) (Keeps.ite (by split <;> [(exact (State.modTxn_keeps (hw.mono rfl) (State.fillCell_keeps (hw.mono rfl) (by split <;> [(exact (Keeps.ite h_s (Keeps.ite (State.snoopAnswer_keeps (hw.mono rfl) h_s) (State.respond_keeps (hw.mono rfl) (Keeps.ite (State.countMsg_keeps (hw.mono rfl) h_s) h_s))))); (exact h_s)])))); (exact (by split <;> [(exact (Keeps.ite h_s (Keeps.ite (State.snoopAnswer_keeps (hw.mono rfl) h_s) (State.respond_keeps (hw.mono rfl) (Keeps.ite (State.countMsg_keeps (hw.mono rfl) h_s) h_s))))); (exact h_s)]))]) (by split <;> [(exact (Keeps.ite h_s (Keeps.ite (State.snoopAnswer_keeps (hw.mono rfl) h_s) (State.respond_keeps (hw.mono rfl) (Keeps.ite (State.countMsg_keeps (hw.mono rfl) h_s) h_s))))); (exact h_s)])))))]))) (State.modTxn_keeps (hw.mono rfl) (by split <;> [(exact (State.writeOut_keeps (hw.mono rfl) (Keeps.ite (State.freeCell_keeps (hw.mono rfl) (State.dropKept_keeps (hw.mono rfl) (Keeps.ite (by split <;> [(exact (State.modTxn_keeps (hw.mono rfl) (State.fillCell_keeps (hw.mono rfl) (by split <;> [(exact (Keeps.ite h_s (Keeps.ite (State.snoopAnswer_keeps (hw.mono rfl) h_s) (State.respond_keeps (hw.mono rfl) (Keeps.ite (State.countMsg_keeps (hw.mono rfl) h_s) h_s))))); (exact h_s)])))); (exact (by split <;> [(exact (Keeps.ite h_s (Keeps.ite (State.snoopAnswer_keeps (hw.mono rfl) h_s) (State.respond_keeps (hw.mono rfl) (Keeps.ite (State.countMsg_keeps (hw.mono rfl) h_s) h_s))))); (exact h_s)]))]) (by split <;> [(exact (Keeps.ite h_s (Keeps.ite (State.snoopAnswer_keeps (hw.mono rfl) h_s) (State.respond_keeps (hw.mono rfl) (Keeps.ite (State.countMsg_keeps (hw.mono rfl) h_s) h_s))))); (exact h_s)])))) (State.dropKept_keeps (hw.mono rfl) (Keeps.ite (by split <;> [(exact (State.modTxn_keeps (hw.mono rfl) (State.fillCell_keeps (hw.mono rfl) (by split <;> [(exact (Keeps.ite h_s (Keeps.ite (State.snoopAnswer_keeps (hw.mono rfl) h_s) (State.respond_keeps (hw.mono rfl) (Keeps.ite (State.countMsg_keeps (hw.mono rfl) h_s) h_s))))); (exact h_s)])))); (exact (by split <;> [(exact (Keeps.ite h_s (Keeps.ite (State.snoopAnswer_keeps (hw.mono rfl) h_s) (State.respond_keeps (hw.mono rfl) (Keeps.ite (State.countMsg_keeps (hw.mono rfl) h_s) h_s))))); (exact h_s)]))]) (by split <;> [(exact (Keeps.ite h_s (Keeps.ite (State.snoopAnswer_keeps (hw.mono rfl) h_s) (State.respond_keeps (hw.mono rfl) (Keeps.ite (State.countMsg_keeps (hw.mono rfl) h_s) h_s))))); (exact h_s)])))))); (exact (Keeps.ite (State.freeCell_keeps (hw.mono rfl) (State.dropKept_keeps (hw.mono rfl) (Keeps.ite (by split <;> [(exact (State.modTxn_keeps (hw.mono rfl) (State.fillCell_keeps (hw.mono rfl) (by split <;> [(exact (Keeps.ite h_s (Keeps.ite (State.snoopAnswer_keeps (hw.mono rfl) h_s) (State.respond_keeps (hw.mono rfl) (Keeps.ite (State.countMsg_keeps (hw.mono rfl) h_s) h_s))))); (exact h_s)])))); (exact (by split <;> [(exact (Keeps.ite h_s (Keeps.ite (State.snoopAnswer_keeps (hw.mono rfl) h_s) (State.respond_keeps (hw.mono rfl) (Keeps.ite (State.countMsg_keeps (hw.mono rfl) h_s) h_s))))); (exact h_s)]))]) (by split <;> [(exact (Keeps.ite h_s (Keeps.ite (State.snoopAnswer_keeps (hw.mono rfl) h_s) (State.respond_keeps (hw.mono rfl) (Keeps.ite (State.countMsg_keeps (hw.mono rfl) h_s) h_s))))); (exact h_s)])))) (State.dropKept_keeps (hw.mono rfl) (Keeps.ite (by split <;> [(exact (State.modTxn_keeps (hw.mono rfl) (State.fillCell_keeps (hw.mono rfl) (by split <;> [(exact (Keeps.ite h_s (Keeps.ite (State.snoopAnswer_keeps (hw.mono rfl) h_s) (State.respond_keeps (hw.mono rfl) (Keeps.ite (State.countMsg_keeps (hw.mono rfl) h_s) h_s))))); (exact h_s)])))); (exact (by split <;> [(exact (Keeps.ite h_s (Keeps.ite (State.snoopAnswer_keeps (hw.mono rfl) h_s) (State.respond_keeps (hw.mono rfl) (Keeps.ite (State.countMsg_keeps (hw.mono rfl) h_s) h_s))))); (exact h_s)]))]) (by split <;> [(exact (Keeps.ite h_s (Keeps.ite (State.snoopAnswer_keeps (hw.mono rfl) h_s) (State.respond_keeps (hw.mono rfl) (Keeps.ite (State.countMsg_keeps (hw.mono rfl) h_s) h_s))))); (exact h_s)])))))]))))]) (Keeps.ite (State.modTxn_keeps (hw.mono rfl) (State.modTxn_keeps (hw.mono rfl) (by split <;> [(exact (State.writeOut_keeps (hw.mono rfl) (Keeps.ite (State.freeCell_keeps (hw.mono rfl) (State.dropKept_keeps (hw.mono rfl) (Keeps.ite (by split <;> [(exact (State.modTxn_keeps (hw.mono rfl) (State.fillCell_keeps (hw.mono rfl) (by split <;> [(exact (Keeps.ite h_s (Keeps.ite (State.snoopAnswer_keeps (hw.mono rfl) h_s) (State.respond_keeps (hw.mono rfl) (Keeps.ite (State.countMsg_keeps (hw.mono rfl) h_s) h_s))))); (exact h_s)])))); (exact (by split <;> [(exact (Keeps.ite h_s (Keeps.ite (State.snoopAnswer_keeps (hw.mono rfl) h_s) (State.respond_keeps (hw.mono rfl) (Keeps.ite (State.countMsg_keeps (hw.mono rfl) h_s) h_s))))); (exact h_s)]))]) (by split <;> [(exact (Keeps.ite h_s (Keeps.ite (State.snoopAnswer_keeps (hw.mono rfl) h_s) (State.respond_keeps (hw.mono rfl) (Keeps.ite (State.countMsg_keeps (hw.mono rfl) h_s) h_s))))); (exact h_s)])))) (State.dropKept_keeps (hw.mono rfl) (Keeps.ite (by split <;> [(exact (State.modTxn_keeps (hw.mono rfl) (State.fillCell_keeps (hw.mono rfl) (by split <;> [(exact (Keeps.ite h_s (Keeps.ite (State.snoopAnswer_keeps (hw.mono rfl) h_s) (State.respond_keeps (hw.mono rfl) (Keeps.ite (State.countMsg_keeps (hw.mono rfl) h_s) h_s))))); (exact h_s)])))); (exact (by split <;> [(exact (Keeps.ite h_s (Keeps.ite (State.snoopAnswer_keeps (hw.mono rfl) h_s) (State.respond_keeps (hw.mono rfl) (Keeps.ite (State.countMsg_keeps (hw.mono rfl) h_s) h_s))))); (exact h_s)]))]) (by split <;> [(exact (Keeps.ite h_s (Keeps.ite (State.snoopAnswer_keeps (hw.mono rfl) h_s) (State.respond_keeps (hw.mono rfl) (Keeps.ite (State.countMsg_keeps (hw.mono rfl) h_s) h_s))))); (exact h_s)])))))); (exact (Keeps.ite (State.freeCell_keeps (hw.mono rfl) (State.dropKept_keeps (hw.mono rfl) (Keeps.ite (by split <;> [(exact (State.modTxn_keeps (hw.mono rfl) (State.fillCell_keeps (hw.mono rfl) (by split <;> [(exact (Keeps.ite h_s (Keeps.ite (State.snoopAnswer_keeps (hw.mono rfl) h_s) (State.respond_keeps (hw.mono rfl) (Keeps.ite (State.countMsg_keeps (hw.mono rfl) h_s) h_s))))); (exact h_s)])))); (exact (by split <;> [(exact (Keeps.ite h_s (Keeps.ite (State.snoopAnswer_keeps (hw.mono rfl) h_s) (State.respond_keeps (hw.mono rfl) (Keeps.ite (State.countMsg_keeps (hw.mono rfl) h_s) h_s))))); (exact h_s)]))]) (by split <;> [(exact (Keeps.ite h_s (Keeps.ite (State.snoopAnswer_keeps (hw.mono rfl) h_s) (State.respond_keeps (hw.mono rfl) (Keeps.ite (State.countMsg_keeps (hw.mono rfl) h_s) h_s))))); (exact h_s)])))) (State.dropKept_keeps (hw.mono rfl) (Keeps.ite (by split <;> [(exact (State.modTxn_keeps (hw.mono rfl) (State.fillCell_keeps (hw.mono rfl) (by split <;> [(exact (Keeps.ite h_s (Keeps.ite (State.snoopAnswer_keeps (hw.mono rfl) h_s) (State.respond_keeps (hw.mono rfl) (Keeps.ite (State.countMsg_keeps (hw.mono rfl) h_s) h_s))))); (exact h_s)])))); (exact (by split <;> [(exact (Keeps.ite h_s (Keeps.ite (State.snoopAnswer_keeps (hw.mono rfl) h_s) (State.respond_keeps (hw.mono rfl) (Keeps.ite (State.countMsg_keeps (hw.mono rfl) h_s) h_s))))); (exact h_s)]))]) (by split <;> [(exact (Keeps.ite h_s (Keeps.ite (State.snoopAnswer_keeps (hw.mono rfl) h_s) (State.respond_keeps (hw.mono rfl) (Keeps.ite (State.countMsg_keeps (hw.mono rfl) h_s) h_s))))); (exact h_s)])))))]))) (State.modTxn_keeps (hw.mono rfl) (by split <;> [(exact (State.writeOut_keeps (hw.mono rfl) (Keeps.ite (State.freeCell_keeps (hw.mono rfl) (State.dropKept_keeps (hw.mono rfl) (Keeps.ite (by split <;> [(exact (State.modTxn_keeps (hw.mono rfl) (State.fillCell_keeps (hw.mono rfl) (by split <;> [(exact (Keeps.ite h_s (Keeps.ite (State.snoopAnswer_keeps (hw.mono rfl) h_s) (State.respond_keeps (hw.mono rfl) (Keeps.ite (State.countMsg_keeps (hw.mono rfl) h_s) h_s))))); (exact h_s)])))); (exact (by split <;> [(exact (Keeps.ite h_s (Keeps.ite (State.snoopAnswer_keeps (hw.mono rfl) h_s) (State.respond_keeps (hw.mono rfl) (Keeps.ite (State.countMsg_keeps (hw.mono rfl) h_s) h_s))))); (exact h_s)]))]) (by split <;> [(exact (Keeps.ite h_s (Keeps.ite (State.snoopAnswer_keeps (hw.mono rfl) h_s) (State.respond_keeps (hw.mono rfl) (Keeps.ite (State.countMsg_keeps (hw.mono rfl) h_s) h_s))))); (exact h_s)])))) (State.dropKept_keeps (hw.mono rfl) (Keeps.ite (by split <;> [(exact (State.modTxn_keeps (hw.mono rfl) (State.fillCell_keeps (hw.mono rfl) (by split <;> [(exact (Keeps.ite h_s (Keeps.ite (State.snoopAnswer_keeps (hw.mono rfl) h_s) (State.respond_keeps (hw.mono rfl) (Keeps.ite (State.countMsg_keeps (hw.mono rfl) h_s) h_s))))); (exact h_s)])))); (exact (by split <;> [(exact (Keeps.ite h_s (Keeps.ite (State.snoopAnswer_keeps (hw.mono rfl) h_s) (State.respond_keeps (hw.mono rfl) (Keeps.ite (State.countMsg_keeps (hw.mono rfl) h_s) h_s))))); (exact h_s)]))]) (by split <;> [(exact (Keeps.ite h_s (Keeps.ite (State.snoopAnswer_keeps (hw.mono rfl) h_s) (State.respond_keeps (hw.mono rfl) (Keeps.ite (State.countMsg_keeps (hw.mono rfl) h_s) h_s))))); (exact h_s)])))))); (exact (Keeps.ite (State.freeCell_keeps (hw.mono rfl) (State.dropKept_keeps (hw.mono rfl) (Keeps.ite (by split <;> [(exact (State.modTxn_keeps (hw.mono rfl) (State.fillCell_keeps (hw.mono rfl) (by split <;> [(exact (Keeps.ite h_s (Keeps.ite (State.snoopAnswer_keeps (hw.mono rfl) h_s) (State.respond_keeps (hw.mono rfl) (Keeps.ite (State.countMsg_keeps (hw.mono rfl) h_s) h_s))))); (exact h_s)])))); (exact (by split <;> [(exact (Keeps.ite h_s (Keeps.ite (State.snoopAnswer_keeps (hw.mono rfl) h_s) (State.respond_keeps (hw.mono rfl) (Keeps.ite (State.countMsg_keeps (hw.mono rfl) h_s) h_s))))); (exact h_s)]))]) (by split <;> [(exact (Keeps.ite h_s (Keeps.ite (State.snoopAnswer_keeps (hw.mono rfl) h_s) (State.respond_keeps (hw.mono rfl) (Keeps.ite (State.countMsg_keeps (hw.mono rfl) h_s) h_s))))); (exact h_s)])))) (State.dropKept_keeps (hw.mono rfl) (Keeps.ite (by split <;> [(exact (State.modTxn_keeps (hw.mono rfl) (State.fillCell_keeps (hw.mono rfl) (by split <;> [(exact (Keeps.ite h_s (Keeps.ite (State.snoopAnswer_keeps (hw.mono rfl) h_s) (State.respond_keeps (hw.mono rfl) (Keeps.ite (State.countMsg_keeps (hw.mono rfl) h_s) h_s))))); (exact h_s)])))); (exact (by split <;> [(exact (Keeps.ite h_s (Keeps.ite (State.snoopAnswer_keeps (hw.mono rfl) h_s) (State.respond_keeps (hw.mono rfl) (Keeps.ite (State.countMsg_keeps (hw.mono rfl) h_s) h_s))))); (exact h_s)]))]) (by split <;> [(exact (Keeps.ite h_s (Keeps.ite (State.snoopAnswer_keeps (hw.mono rfl) h_s) (State.respond_keeps (hw.mono rfl) (Keeps.ite (State.countMsg_keeps (hw.mono rfl) h_s) h_s))))); (exact h_s)])))))])))))); (exact (Keeps.ite (State.modTxn_keeps (hw.mono rfl) (Keeps.ite (State.writeEntry_keeps (hw.mono rfl) (State.writeOut_keeps (hw.mono rfl) (State.modTxn_keeps (hw.mono rfl) (by split <;> [(exact (State.writeOut_keeps (hw.mono rfl) (Keeps.ite (State.freeCell_keeps (hw.mono rfl) (State.dropKept_keeps (hw.mono rfl) (Keeps.ite (by split <;> [(exact (State.modTxn_keeps (hw.mono rfl) (State.fillCell_keeps (hw.mono rfl) (by split <;> [(exact (Keeps.ite h_s (Keeps.ite (State.snoopAnswer_keeps (hw.mono rfl) h_s) (State.respond_keeps (hw.mono rfl) (Keeps.ite (State.countMsg_keeps (hw.mono rfl) h_s) h_s))))); (exact h_s)])))); (exact (by split <;> [(exact (Keeps.ite h_s (Keeps.ite (State.snoopAnswer_keeps (hw.mono rfl) h_s) (State.respond_keeps (hw.mono rfl) (Keeps.ite (State.countMsg_keeps (hw.mono rfl) h_s) h_s))))); (exact h_s)]))]) (by split <;> [(exact (Keeps.ite h_s (Keeps.ite (State.snoopAnswer_keeps (hw.mono rfl) h_s) (State.respond_keeps (hw.mono rfl) (Keeps.ite (State.countMsg_keeps (hw.mono rfl) h_s) h_s))))); (exact h_s)])))) (State.dropKept_keeps (hw.mono rfl) (Keeps.ite (by split <;> [(exact (State.modTxn_keeps (hw.mono rfl) (State.fillCell_keeps (hw.mono rfl) (by split <;> [(exact (Keeps.ite h_s (Keeps.ite (State.snoopAnswer_keeps (hw.mono rfl) h_s) (State.respond_keeps (hw.mono rfl) (Keeps.ite (State.countMsg_keeps (hw.mono rfl) h_s) h_s))))); (exact h_s)])))); (exact (by split <;> [(exact (Keeps.ite h_s (Keeps.ite (State.snoopAnswer_keeps (hw.mono rfl) h_s) (State.respond_keeps (hw.mono rfl) (Keeps.ite (State.countMsg_keeps (hw.mono rfl) h_s) h_s))))); (exact h_s)]))]) (by split <;> [(exact (Keeps.ite h_s (Keeps.ite (State.snoopAnswer_keeps (hw.mono rfl) h_s) (State.respond_keeps (hw.mono rfl) (Keeps.ite (State.countMsg_keeps (hw.mono rfl) h_s) h_s))))); (exact h_s)])))))); (exact (Keeps.ite (State.freeCell_keeps (hw.mono rfl) (State.dropKept_keeps (hw.mono rfl) (Keeps.ite (by split <;> [(exact (State.modTxn_keeps (hw.mono rfl) (State.fillCell_keeps (hw.mono rfl) (by split <;> [(exact (Keeps.ite h_s (Keeps.ite (State.snoopAnswer_keeps (hw.mono rfl) h_s) (State.respond_keeps (hw.mono rfl) (Keeps.ite (State.countMsg_keeps (hw.mono rfl) h_s) h_s))))); (exact h_s)])))); (exact (by split <;> [(exact (Keeps.ite h_s (Keeps.ite (State.snoopAnswer_keeps (hw.mono rfl) h_s) (State.respond_keeps (hw.mono rfl) (Keeps.ite (State.countMsg_keeps (hw.mono rfl) h_s) h_s))))); (exact h_s)]))]) (by split <;> [(exact (Keeps.ite h_s (Keeps.ite (State.snoopAnswer_keeps (hw.mono rfl) h_s) (State.respond_keeps (hw.mono rfl) (Keeps.ite (State.countMsg_keeps (hw.mono rfl) h_s) h_s))))); (exact h_s)])))) (State.dropKept_keeps (hw.mono rfl) (Keeps.ite (by split <;> [(exact (State.modTxn_keeps (hw.mono rfl) (State.fillCell_keeps (hw.mono rfl) (by split <;> [(exact (Keeps.ite h_s (Keeps.ite (State.snoopAnswer_keeps (hw.mono rfl) h_s) (State.respond_keeps (hw.mono rfl) (Keeps.ite (State.countMsg_keeps (hw.mono rfl) h_s) h_s))))); (exact h_s)])))); (exact (by split <;> [(exact (Keeps.ite h_s (Keeps.ite (State.snoopAnswer_keeps (hw.mono rfl) h_s) (State.respond_keeps (hw.mono rfl) (Keeps.ite (State.countMsg_keeps (hw.mono rfl) h_s) h_s))))); (exact h_s)]))]) (by split <;> [(exact (Keeps.ite h_s (Keeps.ite (State.snoopAnswer_keeps (hw.mono rfl) h_s) (State.respond_keeps (hw.mono rfl) (Keeps.ite (State.countMsg_keeps (hw.mono rfl) h_s) h_s))))); (exact h_s)])))))])))) (State.writeOut_keeps (hw.mono rfl) (State.modTxn_keeps (hw.mono rfl) (by split <;> [(exact (State.writeOut_keeps (hw.mono rfl) (Keeps.ite (State.freeCell_keeps (hw.mono rfl) (State.dropKept_keeps (hw.mono rfl) (Keeps.ite (by split <;> [(exact (State.modTxn_keeps (hw.mono rfl) (State.fillCell_keeps (hw.mono rfl) (by split <;> [(exact (Keeps.ite h_s (Keeps.ite (State.snoopAnswer_keeps (hw.mono rfl) h_s) (State.respond_keeps (hw.mono rfl) (Keeps.ite (State.countMsg_keeps (hw.mono rfl) h_s) h_s))))); (exact h_s)])))); (exact (by split <;> [(exact (Keeps.ite h_s (Keeps.ite (State.snoopAnswer_keeps (hw.mono rfl) h_s) (State.respond_keeps (hw.mono rfl) (Keeps.ite (State.countMsg_keeps (hw.mono rfl) h_s) h_s))))); (exact h_s)]))]) (by split <;> [(exact (Keeps.ite h_s (Keeps.ite (State.snoopAnswer_keeps (hw.mono rfl) h_s) (State.respond_keeps (hw.mono rfl) (Keeps.ite (State.countMsg_keeps (hw.mono rfl) h_s) h_s))))); (exact h_s)])))) (State.dropKept_keeps (hw.mono rfl) (Keeps.ite (by split <;> [(exact (State.modTxn_keeps (hw.mono rfl) (State.fillCell_keeps (hw.mono rfl) (by split <;> [(exact (Keeps.ite h_s (Keeps.ite (State.snoopAnswer_keeps (hw.mono rfl) h_s) (State.respond_keeps (hw.mono rfl) (Keeps.ite (State.countMsg_keeps (hw.mono rfl) h_s) h_s))))); (exact h_s)])))); (exact (by split <;> [(exact (Keeps.ite h_s (Keeps.ite (State.snoopAnswer_keeps (hw.mono rfl) h_s) (State.respond_keeps (hw.mono rfl) (Keeps.ite (State.countMsg_keeps (hw.mono rfl) h_s) h_s))))); (exact h_s)]))]) (by split <;> [(exact (Keeps.ite h_s (Keeps.ite (State.snoopAnswer_keeps (hw.mono rfl) h_s) (State.respond_keeps (hw.mono rfl) (Keeps.ite (State.countMsg_keeps (hw.mono rfl) h_s) h_s))))); (exact h_s)])))))); (exact (Keeps.ite (State.freeCell_keeps (hw.mono rfl) (State.dropKept_keeps (hw.mono rfl) (Keeps.ite (by split <;> [(exact (State.modTxn_keeps (hw.mono rfl) (State.fillCell_keeps (hw.mono rfl) (by split <;> [(exact (Keeps.ite h_s (Keeps.ite (State.snoopAnswer_keeps (hw.mono rfl) h_s) (State.respond_keeps (hw.mono rfl) (Keeps.ite (State.countMsg_keeps (hw.mono rfl) h_s) h_s))))); (exact h_s)])))); (exact (by split <;> [(exact (Keeps.ite h_s (Keeps.ite (State.snoopAnswer_keeps (hw.mono rfl) h_s) (State.respond_keeps (hw.mono rfl) (Keeps.ite (State.countMsg_keeps (hw.mono rfl) h_s) h_s))))); (exact h_s)]))]) (by split <;> [(exact (Keeps.ite h_s (Keeps.ite (State.snoopAnswer_keeps (hw.mono rfl) h_s) (State.respond_keeps (hw.mono rfl) (Keeps.ite (State.countMsg_keeps (hw.mono rfl) h_s) h_s))))); (exact h_s)])))) (State.dropKept_keeps (hw.mono rfl) (Keeps.ite (by split <;> [(exact (State.modTxn_keeps (hw.mono rfl) (State.fillCell_keeps (hw.mono rfl) (by split <;> [(exact (Keeps.ite h_s (Keeps.ite (State.snoopAnswer_keeps (hw.mono rfl) h_s) (State.respond_keeps (hw.mono rfl) (Keeps.ite (State.countMsg_keeps (hw.mono rfl) h_s) h_s))))); (exact h_s)])))); (exact (by split <;> [(exact (Keeps.ite h_s (Keeps.ite (State.snoopAnswer_keeps (hw.mono rfl) h_s) (State.respond_keeps (hw.mono rfl) (Keeps.ite (State.countMsg_keeps (hw.mono rfl) h_s) h_s))))); (exact h_s)]))]) (by split <;> [(exact (Keeps.ite h_s (Keeps.ite (State.snoopAnswer_keeps (hw.mono rfl) h_s) (State.respond_keeps (hw.mono rfl) (Keeps.ite (State.countMsg_keeps (hw.mono rfl) h_s) h_s))))); (exact h_s)])))))]))))) (Keeps.ite (Keeps.ite (State.endRow_keeps (hw.mono rfl) (by split <;> [(exact (State.respond_keeps (hw.mono rfl) (Keeps.ite (State.writeEntry_keeps (hw.mono rfl) (State.writeOut_keeps (hw.mono rfl) (State.modTxn_keeps (hw.mono rfl) (by split <;> [(exact (State.writeOut_keeps (hw.mono rfl) (Keeps.ite (State.freeCell_keeps (hw.mono rfl) (State.dropKept_keeps (hw.mono rfl) (Keeps.ite (by split <;> [(exact (State.modTxn_keeps (hw.mono rfl) (State.fillCell_keeps (hw.mono rfl) (by split <;> [(exact (Keeps.ite h_s (Keeps.ite (State.snoopAnswer_keeps (hw.mono rfl) h_s) (State.respond_keeps (hw.mono rfl) (Keeps.ite (State.countMsg_keeps (hw.mono rfl) h_s) h_s))))); (exact h_s)])))); (exact (by split <;> [(exact (Keeps.ite h_s (Keeps.ite (State.snoopAnswer_keeps (hw.mono rfl) h_s) (State.respond_keeps (hw.mono rfl) (Keeps.ite (State.countMsg_keeps (hw.mono rfl) h_s) h_s))))); (exact h_s)]))]) (by split <;> [(exact (Keeps.ite h_s (Keeps.ite (State.snoopAnswer_keeps (hw.mono rfl) h_s) (State.respond_keeps (hw.mono rfl) (Keeps.ite (State.countMsg_keeps (hw.mono rfl) h_s) h_s))))); (exact h_s)])))) (State.dropKept_keeps (hw.mono rfl) (Keeps.ite (by split <;> [(exact (State.modTxn_keeps (hw.mono rfl) (State.fillCell_keeps (hw.mono rfl) (by split <;> [(exact (Keeps.ite h_s (Keeps.ite (State.snoopAnswer_keeps (hw.mono rfl) h_s) (State.respond_keeps (hw.mono rfl) (Keeps.ite (State.countMsg_keeps (hw.mono rfl) h_s) h_s))))); (exact h_s)])))); (exact (by split <;> [(exact (Keeps.ite h_s (Keeps.ite (State.snoopAnswer_keeps (hw.mono rfl) h_s) (State.respond_keeps (hw.mono rfl) (Keeps.ite (State.countMsg_keeps (hw.mono rfl) h_s) h_s))))); (exact h_s)]))]) (by split <;> [(exact (Keeps.ite h_s (Keeps.ite (State.snoopAnswer_keeps (hw.mono rfl) h_s) (State.respond_keeps (hw.mono rfl) (Keeps.ite (State.countMsg_keeps (hw.mono rfl) h_s) h_s))))); (exact h_s)])))))); (exact (Keeps.ite (State.freeCell_keeps (hw.mono rfl) (State.dropKept_keeps (hw.mono rfl) (Keeps.ite (by split <;> [(exact (State.modTxn_keeps (hw.mono rfl) (State.fillCell_keeps (hw.mono rfl) (by split <;> [(exact (Keeps.ite h_s (Keeps.ite (State.snoopAnswer_keeps (hw.mono rfl) h_s) (State.respond_keeps (hw.mono rfl) (Keeps.ite (State.countMsg_keeps (hw.mono rfl) h_s) h_s))))); (exact h_s)])))); (exact (by split <;> [(exact (Keeps.ite h_s (Keeps.ite (State.snoopAnswer_keeps (hw.mono rfl) h_s) (State.respond_keeps (hw.mono rfl) (Keeps.ite (State.countMsg_keeps (hw.mono rfl) h_s) h_s))))); (exact h_s)]))]) (by split <;> [(exact (Keeps.ite h_s (Keeps.ite (State.snoopAnswer_keeps (hw.mono rfl) h_s) (State.respond_keeps (hw.mono rfl) (Keeps.ite (State.countMsg_keeps (hw.mono rfl) h_s) h_s))))); (exact h_s)])))) (State.dropKept_keeps (hw.mono rfl) (Keeps.ite (by split <;> [(exact (State.modTxn_keeps (hw.mono rfl) (State.fillCell_keeps (hw.mono rfl) (by split <;> [(exact (Keeps.ite h_s (Keeps.ite (State.snoopAnswer_keeps (hw.mono rfl) h_s) (State.respond_keeps (hw.mono rfl) (Keeps.ite (State.countMsg_keeps (hw.mono rfl) h_s) h_s))))); (exact h_s)])))); (exact (by split <;> [(exact (Keeps.ite h_s (Keeps.ite (State.snoopAnswer_keeps (hw.mono rfl) h_s) (State.respond_keeps (hw.mono rfl) (Keeps.ite (State.countMsg_keeps (hw.mono rfl) h_s) h_s))))); (exact h_s)]))]) (by split <;> [(exact (Keeps.ite h_s (Keeps.ite (State.snoopAnswer_keeps (hw.mono rfl) h_s) (State.respond_keeps (hw.mono rfl) (Keeps.ite (State.countMsg_keeps (hw.mono rfl) h_s) h_s))))); (exact h_s)])))))])))) (State.writeOut_keeps (hw.mono rfl) (State.modTxn_keeps (hw.mono rfl) (by split <;> [(exact (State.writeOut_keeps (hw.mono rfl) (Keeps.ite (State.freeCell_keeps (hw.mono rfl) (State.dropKept_keeps (hw.mono rfl) (Keeps.ite (by split <;> [(exact (State.modTxn_keeps (hw.mono rfl) (State.fillCell_keeps (hw.mono rfl) (by split <;> [(exact (Keeps.ite h_s (Keeps.ite (State.snoopAnswer_keeps (hw.mono rfl) h_s) (State.respond_keeps (hw.mono rfl) (Keeps.ite (State.countMsg_keeps (hw.mono rfl) h_s) h_s))))); (exact h_s)])))); (exact (by split <;> [(exact (Keeps.ite h_s (Keeps.ite (State.snoopAnswer_keeps (hw.mono rfl) h_s) (State.respond_keeps (hw.mono rfl) (Keeps.ite (State.countMsg_keeps (hw.mono rfl) h_s) h_s))))); (exact h_s)]))]) (by split <;> [(exact (Keeps.ite h_s (Keeps.ite (State.snoopAnswer_keeps (hw.mono rfl) h_s) (State.respond_keeps (hw.mono rfl) (Keeps.ite (State.countMsg_keeps (hw.mono rfl) h_s) h_s))))); (exact h_s)])))) (State.dropKept_keeps (hw.mono rfl) (Keeps.ite (by split <;> [(exact (State.modTxn_keeps (hw.mono rfl) (State.fillCell_keeps (hw.mono rfl) (by split <;> [(exact (Keeps.ite h_s (Keeps.ite (State.snoopAnswer_keeps (hw.mono rfl) h_s) (State.respond_keeps (hw.mono rfl) (Keeps.ite (State.countMsg_keeps (hw.mono rfl) h_s) h_s))))); (exact h_s)])))); (exact (by split <;> [(exact (Keeps.ite h_s (Keeps.ite (State.snoopAnswer_keeps (hw.mono rfl) h_s) (State.respond_keeps (hw.mono rfl) (Keeps.ite (State.countMsg_keeps (hw.mono rfl) h_s) h_s))))); (exact h_s)]))]) (by split <;> [(exact (Keeps.ite h_s (Keeps.ite (State.snoopAnswer_keeps (hw.mono rfl) h_s) (State.respond_keeps (hw.mono rfl) (Keeps.ite (State.countMsg_keeps (hw.mono rfl) h_s) h_s))))); (exact h_s)])))))); (exact (Keeps.ite (State.freeCell_keeps (hw.mono rfl) (State.dropKept_keeps (hw.mono rfl) (Keeps.ite (by split <;> [(exact (State.modTxn_keeps (hw.mono rfl) (State.fillCell_keeps (hw.mono rfl) (by split <;> [(exact (Keeps.ite h_s (Keeps.ite (State.snoopAnswer_keeps (hw.mono rfl) h_s) (State.respond_keeps (hw.mono rfl) (Keeps.ite (State.countMsg_keeps (hw.mono rfl) h_s) h_s))))); (exact h_s)])))); (exact (by split <;> [(exact (Keeps.ite h_s (Keeps.ite (State.snoopAnswer_keeps (hw.mono rfl) h_s) (State.respond_keeps (hw.mono rfl) (Keeps.ite (State.countMsg_keeps (hw.mono rfl) h_s) h_s))))); (exact h_s)]))]) (by split <;> [(exact (Keeps.ite h_s (Keeps.ite (State.snoopAnswer_keeps (hw.mono rfl) h_s) (State.respond_keeps (hw.mono rfl) (Keeps.ite (State.countMsg_keeps (hw.mono rfl) h_s) h_s))))); (exact h_s)])))) (State.dropKept_keeps (hw.mono rfl) (Keeps.ite (by split <;> [(exact (State.modTxn_keeps (hw.mono rfl) (State.fillCell_keeps (hw.mono rfl) (by split <;> [(exact (Keeps.ite h_s (Keeps.ite (State.snoopAnswer_keeps (hw.mono rfl) h_s) (State.respond_keeps (hw.mono rfl) (Keeps.ite (State.countMsg_keeps (hw.mono rfl) h_s) h_s))))); (exact h_s)])))); (exact (by split <;> [(exact (Keeps.ite h_s (Keeps.ite (State.snoopAnswer_keeps (hw.mono rfl) h_s) (State.respond_keeps (hw.mono rfl) (Keeps.ite (State.countMsg_keeps (hw.mono rfl) h_s) h_s))))); (exact h_s)]))]) (by split <;> [(exact (Keeps.ite h_s (Keeps.ite (State.snoopAnswer_keeps (hw.mono rfl) h_s) (State.respond_keeps (hw.mono rfl) (Keeps.ite (State.countMsg_keeps (hw.mono rfl) h_s) h_s))))); (exact h_s)])))))])))))); (exact (Keeps.ite (State.writeEntry_keeps (hw.mono rfl) (State.writeOut_keeps (hw.mono rfl) (State.modTxn_keeps (hw.mono rfl) (by split <;> [(exact (State.writeOut_keeps (hw.mono rfl) (Keeps.ite (State.freeCell_keeps (hw.mono rfl) (State.dropKept_keeps (hw.mono rfl) (Keeps.ite (by split <;> [(exact (State.modTxn_keeps (hw.mono rfl) (State.fillCell_keeps (hw.mono rfl) (by split <;> [(exact (Keeps.ite h_s (Keeps.ite (State.snoopAnswer_keeps (hw.mono rfl) h_s) (State.respond_keeps (hw.mono rfl) (Keeps.ite (State.countMsg_keeps (hw.mono rfl) h_s) h_s))))); (exact h_s)])))); (exact (by split <;> [(exact (Keeps.ite h_s (Keeps.ite (State.snoopAnswer_keeps (hw.mono rfl) h_s) (State.respond_keeps (hw.mono rfl) (Keeps.ite (State.countMsg_keeps (hw.mono rfl) h_s) h_s))))); (exact h_s)]))]) (by split <;> [(exact (Keeps.ite h_s (Keeps.ite (State.snoopAnswer_keeps (hw.mono rfl) h_s) (State.respond_keeps (hw.mono rfl) (Keeps.ite (State.countMsg_keeps (hw.mono rfl) h_s) h_s))))); (exact h_s)])))) (State.dropKept_keeps (hw.mono rfl) (Keeps.ite (by split <;> [(exact (State.modTxn_keeps (hw.mono rfl) (State.fillCell_keeps (hw.mono rfl) (by split <;> [(exact (Keeps.ite h_s (Keeps.ite (State.snoopAnswer_keeps (hw.mono rfl) h_s) (State.respond_keeps (hw.mono rfl) (Keeps.ite (State.countMsg_keeps (hw.mono rfl) h_s) h_s))))); (exact h_s)])))); (exact (by split <;> [(exact (Keeps.ite h_s (Keeps.ite (State.snoopAnswer_keeps (hw.mono rfl) h_s) (State.respond_keeps (hw.mono rfl) (Keeps.ite (State.countMsg_keeps (hw.mono rfl) h_s) h_s))))); (exact h_s)]))]) (by split <;> [(exact (Keeps.ite h_s (Keeps.ite (State.snoopAnswer_keeps (hw.mono rfl) h_s) (State.respond_keeps (hw.mono rfl) (Keeps.ite (State.countMsg_keeps (hw.mono rfl) h_s) h_s))))); (exact h_s)])))))); (exact (Keeps.ite (State.freeCell_keeps (hw.mono rfl) (State.dropKept_keeps (hw.mono rfl) (Keeps.ite (by split <;> [(exact (State.modTxn_keeps (hw.mono rfl) (State.fillCell_keeps (hw.mono rfl) (by split <;> [(exact (Keeps.ite h_s (Keeps.ite (State.snoopAnswer_keeps (hw.mono rfl) h_s) (State.respond_keeps (hw.mono rfl) (Keeps.ite (State.countMsg_keeps (hw.mono rfl) h_s) h_s))))); (exact h_s)])))); (exact (by split <;> [(exact (Keeps.ite h_s (Keeps.ite (State.snoopAnswer_keeps (hw.mono rfl) h_s) (State.respond_keeps (hw.mono rfl) (Keeps.ite (State.countMsg_keeps (hw.mono rfl) h_s) h_s))))); (exact h_s)]))]) (by split <;> [(exact (Keeps.ite h_s (Keeps.ite (State.snoopAnswer_keeps (hw.mono rfl) h_s) (State.respond_keeps (hw.mono rfl) (Keeps.ite (State.countMsg_keeps (hw.mono rfl) h_s) h_s))))); (exact h_s)])))) (State.dropKept_keeps (hw.mono rfl) (Keeps.ite (by split <;> [(exact (State.modTxn_keeps (hw.mono rfl) (State.fillCell_keeps (hw.mono rfl) (by split <;> [(exact (Keeps.ite h_s (Keeps.ite (State.snoopAnswer_keeps (hw.mono rfl) h_s) (State.respond_keeps (hw.mono rfl) (Keeps.ite (State.countMsg_keeps (hw.mono rfl) h_s) h_s))))); (exact h_s)])))); (exact (by split <;> [(exact (Keeps.ite h_s (Keeps.ite (State.snoopAnswer_keeps (hw.mono rfl) h_s) (State.respond_keeps (hw.mono rfl) (Keeps.ite (State.countMsg_keeps (hw.mono rfl) h_s) h_s))))); (exact h_s)]))]) (by split <;> [(exact (Keeps.ite h_s (Keeps.ite (State.snoopAnswer_keeps (hw.mono rfl) h_s) (State.respond_keeps (hw.mono rfl) (Keeps.ite (State.countMsg_keeps (hw.mono rfl) h_s) h_s))))); (exact h_s)])))))])))) (State.writeOut_keeps (hw.mono rfl) (State.modTxn_keeps (hw.mono rfl) (by split <;> [(exact (State.writeOut_keeps (hw.mono rfl) (Keeps.ite (State.freeCell_keeps (hw.mono rfl) (State.dropKept_keeps (hw.mono rfl) (Keeps.ite (by split <;> [(exact (State.modTxn_keeps (hw.mono rfl) (State.fillCell_keeps (hw.mono rfl) (by split <;> [(exact (Keeps.ite h_s (Keeps.ite (State.snoopAnswer_keeps (hw.mono rfl) h_s) (State.respond_keeps (hw.mono rfl) (Keeps.ite (State.countMsg_keeps (hw.mono rfl) h_s) h_s))))); (exact h_s)])))); (exact (by split <;> [(exact (Keeps.ite h_s (Keeps.ite (State.snoopAnswer_keeps (hw.mono rfl) h_s) (State.respond_keeps (hw.mono rfl) (Keeps.ite (State.countMsg_keeps (hw.mono rfl) h_s) h_s))))); (exact h_s)]))]) (by split <;> [(exact (Keeps.ite h_s (Keeps.ite (State.snoopAnswer_keeps (hw.mono rfl) h_s) (State.respond_keeps (hw.mono rfl) (Keeps.ite (State.countMsg_keeps (hw.mono rfl) h_s) h_s))))); (exact h_s)])))) (State.dropKept_keeps (hw.mono rfl) (Keeps.ite (by split <;> [(exact (State.modTxn_keeps (hw.mono rfl) (State.fillCell_keeps (hw.mono rfl) (by split <;> [(exact (Keeps.ite h_s (Keeps.ite (State.snoopAnswer_keeps (hw.mono rfl) h_s) (State.respond_keeps (hw.mono rfl) (Keeps.ite (State.countMsg_keeps (hw.mono rfl) h_s) h_s))))); (exact h_s)])))); (exact (by split <;> [(exact (Keeps.ite h_s (Keeps.ite (State.snoopAnswer_keeps (hw.mono rfl) h_s) (State.respond_keeps (hw.mono rfl) (Keeps.ite (State.countMsg_keeps (hw.mono rfl) h_s) h_s))))); (exact h_s)]))]) (by split <;> [(exact (Keeps.ite h_s (Keeps.ite (State.snoopAnswer_keeps (hw.mono rfl) h_s) (State.respond_keeps (hw.mono rfl) (Keeps.ite (State.countMsg_keeps (hw.mono rfl) h_s) h_s))))); (exact h_s)])))))); (exact (Keeps.ite (State.freeCell_keeps (hw.mono rfl) (State.dropKept_keeps (hw.mono rfl) (Keeps.ite (by split <;> [(exact (State.modTxn_keeps (hw.mono rfl) (State.fillCell_keeps (hw.mono rfl) (by split <;> [(exact (Keeps.ite h_s (Keeps.ite (State.snoopAnswer_keeps (hw.mono rfl) h_s) (State.respond_keeps (hw.mono rfl) (Keeps.ite (State.countMsg_keeps (hw.mono rfl) h_s) h_s))))); (exact h_s)])))); (exact (by split <;> [(exact (Keeps.ite h_s (Keeps.ite (State.snoopAnswer_keeps (hw.mono rfl) h_s) (State.respond_keeps (hw.mono rfl) (Keeps.ite (State.countMsg_keeps (hw.mono rfl) h_s) h_s))))); (exact h_s)]))]) (by split <;> [(exact (Keeps.ite h_s (Keeps.ite (State.snoopAnswer_keeps (hw.mono rfl) h_s) (State.respond_keeps (hw.mono rfl) (Keeps.ite (State.countMsg_keeps (hw.mono rfl) h_s) h_s))))); (exact h_s)])))) (State.dropKept_keeps (hw.mono rfl) (Keeps.ite (by split <;> [(exact (State.modTxn_keeps (hw.mono rfl) (State.fillCell_keeps (hw.mono rfl) (by split <;> [(exact (Keeps.ite h_s (Keeps.ite (State.snoopAnswer_keeps (hw.mono rfl) h_s) (State.respond_keeps (hw.mono rfl) (Keeps.ite (State.countMsg_keeps (hw.mono rfl) h_s) h_s))))); (exact h_s)])))); (exact (by split <;> [(exact (Keeps.ite h_s (Keeps.ite (State.snoopAnswer_keeps (hw.mono rfl) h_s) (State.respond_keeps (hw.mono rfl) (Keeps.ite (State.countMsg_keeps (hw.mono rfl) h_s) h_s))))); (exact h_s)]))]) (by split <;> [(exact (Keeps.ite h_s (Keeps.ite (State.snoopAnswer_keeps (hw.mono rfl) h_s) (State.respond_keeps (hw.mono rfl) (Keeps.ite (State.countMsg_keeps (hw.mono rfl) h_s) h_s))))); (exact h_s)])))))])))))])) (State.modTxn_keeps (hw.mono rfl) (by split <;> [(exact (State.respond_keeps (hw.mono rfl) (Keeps.ite (State.writeEntry_keeps (hw.mono rfl) (State.writeOut_keeps (hw.mono rfl) (State.modTxn_keeps (hw.mono rfl) (by split <;> [(exact (State.writeOut_keeps (hw.mono rfl) (Keeps.ite (State.freeCell_keeps (hw.mono rfl) (State.dropKept_keeps (hw.mono rfl) (Keeps.ite (by split <;> [(exact (State.modTxn_keeps (hw.mono rfl) (State.fillCell_keeps (hw.mono rfl) (by split <;> [(exact (Keeps.ite h_s (Keeps.ite (State.snoopAnswer_keeps (hw.mono rfl) h_s) (State.respond_keeps (hw.mono rfl) (Keeps.ite (State.countMsg_keeps (hw.mono rfl) h_s) h_s))))); (exact h_s)])))); (exact (by split <;> [(exact (Keeps.ite h_s (Keeps.ite (State.snoopAnswer_keeps (hw.mono rfl) h_s) (State.respond_keeps (hw.mono rfl) (Keeps.ite (State.countMsg_keeps (hw.mono rfl) h_s) h_s))))); (exact h_s)]))]) (by split <;> [(exact (Keeps.ite h_s (Keeps.ite (State.snoopAnswer_keeps (hw.mono rfl) h_s) (State.respond_keeps (hw.mono rfl) (Keeps.ite (State.countMsg_keeps (hw.mono rfl) h_s) h_s))))); (exact h_s)])))) (State.dropKept_keeps (hw.mono rfl) (Keeps.ite (by split <;> [(exact (State.modTxn_keeps (hw.mono rfl) (State.fillCell_keeps (hw.mono rfl) (by split <;> [(exact (Keeps.ite h_s (Keeps.ite (State.snoopAnswer_keeps (hw.mono rfl) h_s) (State.respond_keeps (hw.mono rfl) (Keeps.ite (State.countMsg_keeps (hw.mono rfl) h_s) h_s))))); (exact h_s)])))); (exact (by split <;> [(exact (Keeps.ite h_s (Keeps.ite (State.snoopAnswer_keeps (hw.mono rfl) h_s) (State.respond_keeps (hw.mono rfl) (Keeps.ite (State.countMsg_keeps (hw.mono rfl) h_s) h_s))))); (exact h_s)]))]) (by split <;> [(exact (Keeps.ite h_s (Keeps.ite (State.snoopAnswer_keeps (hw.mono rfl) h_s) (State.respond_keeps (hw.mono rfl) (Keeps.ite (State.countMsg_keeps (hw.mono rfl) h_s) h_s))))); (exact h_s)])))))); (exact (Keeps.ite (State.freeCell_keeps (hw.mono rfl) (State.dropKept_keeps (hw.mono rfl) (Keeps.ite (by split <;> [(exact (State.modTxn_keeps (hw.mono rfl) (State.fillCell_keeps (hw.mono rfl) (by split <;> [(exact (Keeps.ite h_s (Keeps.ite (State.snoopAnswer_keeps (hw.mono rfl) h_s) (State.respond_keeps (hw.mono rfl) (Keeps.ite (State.countMsg_keeps (hw.mono rfl) h_s) h_s))))); (exact h_s)])))); (exact (by split <;> [(exact (Keeps.ite h_s (Keeps.ite (State.snoopAnswer_keeps (hw.mono rfl) h_s) (State.respond_keeps (hw.mono rfl) (Keeps.ite (State.countMsg_keeps (hw.mono rfl) h_s) h_s))))); (exact h_s)]))]) (by split <;> [(exact (Keeps.ite h_s (Keeps.ite (State.snoopAnswer_keeps (hw.mono rfl) h_s) (State.respond_keeps (hw.mono rfl) (Keeps.ite (State.countMsg_keeps (hw.mono rfl) h_s) h_s))))); (exact h_s)])))) (State.dropKept_keeps (hw.mono rfl) (Keeps.ite (by split <;> [(exact (State.modTxn_keeps (hw.mono rfl) (State.fillCell_keeps (hw.mono rfl) (by split <;> [(exact (Keeps.ite h_s (Keeps.ite (State.snoopAnswer_keeps (hw.mono rfl) h_s) (State.respond_keeps (hw.mono rfl) (Keeps.ite (State.countMsg_keeps (hw.mono rfl) h_s) h_s))))); (exact h_s)])))); (exact (by split <;> [(exact (Keeps.ite h_s (Keeps.ite (State.snoopAnswer_keeps (hw.mono rfl) h_s) (State.respond_keeps (hw.mono rfl) (Keeps.ite (State.countMsg_keeps (hw.mono rfl) h_s) h_s))))); (exact h_s)]))]) (by split <;> [(exact (Keeps.ite h_s (Keeps.ite (State.snoopAnswer_keeps (hw.mono rfl) h_s) (State.respond_keeps (hw.mono rfl) (Keeps.ite (State.countMsg_keeps (hw.mono rfl) h_s) h_s))))); (exact h_s)])))))])))) (State.writeOut_keeps (hw.mono rfl) (State.modTxn_keeps (hw.mono rfl) (by split <;> [(exact (State.writeOut_keeps (hw.mono rfl) (Keeps.ite (State.freeCell_keeps (hw.mono rfl) (State.dropKept_keeps (hw.mono rfl) (Keeps.ite (by split <;> [(exact (State.modTxn_keeps (hw.mono rfl) (State.fillCell_keeps (hw.mono rfl) (by split <;> [(exact (Keeps.ite h_s (Keeps.ite (State.snoopAnswer_keeps (hw.mono rfl) h_s) (State.respond_keeps (hw.mono rfl) (Keeps.ite (State.countMsg_keeps (hw.mono rfl) h_s) h_s))))); (exact h_s)])))); (exact (by split <;> [(exact (Keeps.ite h_s (Keeps.ite (State.snoopAnswer_keeps (hw.mono rfl) h_s) (State.respond_keeps (hw.mono rfl) (Keeps.ite (State.countMsg_keeps (hw.mono rfl) h_s) h_s))))); (exact h_s)]))]) (by split <;> [(exact (Keeps.ite h_s (Keeps.ite (State.snoopAnswer_keeps (hw.mono rfl) h_s) (State.respond_keeps (hw.mono rfl) (Keeps.ite (State.countMsg_keeps (hw.mono rfl) h_s) h_s))))); (exact h_s)])))) (State.dropKept_keeps (hw.mono rfl) (Keeps.ite (by split <;> [(exact (State.modTxn_keeps (hw.mono rfl) (State.fillCell_keeps (hw.mono rfl) (by split <;> [(exact (Keeps.ite h_s (Keeps.ite (State.snoopAnswer_keeps (hw.mono rfl) h_s) (State.respond_keeps (hw.mono rfl) (Keeps.ite (State.countMsg_keeps (hw.mono rfl) h_s) h_s))))); (exact h_s)])))); (exact (by split <;> [(exact (Keeps.ite h_s (Keeps.ite (State.snoopAnswer_keeps (hw.mono rfl) h_s) (State.respond_keeps (hw.mono rfl) (Keeps.ite (State.countMsg_keeps (hw.mono rfl) h_s) h_s))))); (exact h_s)]))]) (by split <;> [(exact (Keeps.ite h_s (Keeps.ite (State.snoopAnswer_keeps (hw.mono rfl) h_s) (State.respond_keeps (hw.mono rfl) (Keeps.ite (State.countMsg_keeps (hw.mono rfl) h_s) h_s))))); (exact h_s)])))))); (exact (Keeps.ite (State.freeCell_keeps (hw.mono rfl) (State.dropKept_keeps (hw.mono rfl) (Keeps.ite (by split <;> [(exact (State.modTxn_keeps (hw.mono rfl) (State.fillCell_keeps (hw.mono rfl) (by split <;> [(exact (Keeps.ite h_s (Keeps.ite (State.snoopAnswer_keeps (hw.mono rfl) h_s) (State.respond_keeps (hw.mono rfl) (Keeps.ite (State.countMsg_keeps (hw.mono rfl) h_s) h_s))))); (exact h_s)])))); (exact (by split <;> [(exact (Keeps.ite h_s (Keeps.ite (State.snoopAnswer_keeps (hw.mono rfl) h_s) (State.respond_keeps (hw.mono rfl) (Keeps.ite (State.countMsg_keeps (hw.mono rfl) h_s) h_s))))); (exact h_s)]))]) (by split <;> [(exact (Keeps.ite h_s (Keeps.ite (State.snoopAnswer_keeps (hw.mono rfl) h_s) (State.respond_keeps (hw.mono rfl) (Keeps.ite (State.countMsg_keeps (hw.mono rfl) h_s) h_s))))); (exact h_s)])))) (State.dropKept_keeps (hw.mono rfl) (Keeps.ite (by split <;> [(exact (State.modTxn_keeps (hw.mono rfl) (State.fillCell_keeps (hw.mono rfl) (by split <;> [(exact (Keeps.ite h_s (Keeps.ite (State.snoopAnswer_keeps (hw.mono rfl) h_s) (State.respond_keeps (hw.mono rfl) (Keeps.ite (State.countMsg_keeps (hw.mono rfl) h_s) h_s))))); (exact h_s)])))); (exact (by split <;> [(exact (Keeps.ite h_s (Keeps.ite (State.snoopAnswer_keeps (hw.mono rfl) h_s) (State.respond_keeps (hw.mono rfl) (Keeps.ite (State.countMsg_keeps (hw.mono rfl) h_s) h_s))))); (exact h_s)]))]) (by split <;> [(exact (Keeps.ite h_s (Keeps.ite (State.snoopAnswer_keeps (hw.mono rfl) h_s) (State.respond_keeps (hw.mono rfl) (Keeps.ite (State.countMsg_keeps (hw.mono rfl) h_s) h_s))))); (exact h_s)])))))])))))); (exact (Keeps.ite (State.writeEntry_keeps (hw.mono rfl) (State.writeOut_keeps (hw.mono rfl) (State.modTxn_keeps (hw.mono rfl) (by split <;> [(exact (State.writeOut_keeps (hw.mono rfl) (Keeps.ite (State.freeCell_keeps (hw.mono rfl) (State.dropKept_keeps (hw.mono rfl) (Keeps.ite (by split <;> [(exact (State.modTxn_keeps (hw.mono rfl) (State.fillCell_keeps (hw.mono rfl) (by split <;> [(exact (Keeps.ite h_s (Keeps.ite (State.snoopAnswer_keeps (hw.mono rfl) h_s) (State.respond_keeps (hw.mono rfl) (Keeps.ite (State.countMsg_keeps (hw.mono rfl) h_s) h_s))))); (exact h_s)])))); (exact (by split <;> [(exact (Keeps.ite h_s (Keeps.ite (State.snoopAnswer_keeps (hw.mono rfl) h_s) (State.respond_keeps (hw.mono rfl) (Keeps.ite (State.countMsg_keeps (hw.mono rfl) h_s) h_s))))); (exact h_s)]))]) (by split <;> [(exact (Keeps.ite h_s (Keeps.ite (State.snoopAnswer_keeps (hw.mono rfl) h_s) (State.respond_keeps (hw.mono rfl) (Keeps.ite (State.countMsg_keeps (hw.mono rfl) h_s) h_s))))); (exact h_s)])))) (State.dropKept_keeps (hw.mono rfl) (Keeps.ite (by split <;> [(exact (State.modTxn_keeps (hw.mono rfl) (State.fillCell_keeps (hw.mono rfl) (by split <;> [(exact (Keeps.ite h_s (Keeps.ite (State.snoopAnswer_keeps (hw.mono rfl) h_s) (State.respond_keeps (hw.mono rfl) (Keeps.ite (State.countMsg_keeps (hw.mono rfl) h_s) h_s))))); (exact h_s)])))); (exact (by split <;> [(exact (Keeps.ite h_s (Keeps.ite (State.snoopAnswer_keeps (hw.mono rfl) h_s) (State.respond_keeps (hw.mono rfl) (Keeps.ite (State.countMsg_keeps (hw.mono rfl) h_s) h_s))))); (exact h_s)]))]) (by split <;> [(exact (Keeps.ite h_s (Keeps.ite (State.snoopAnswer_keeps (hw.mono rfl) h_s) (State.respond_keeps (hw.mono rfl) (Keeps.ite (State.countMsg_keeps (hw.mono rfl) h_s) h_s))))); (exact h_s)])))))); (exact (Keeps.ite (State.freeCell_keeps (hw.mono rfl) (State.dropKept_keeps (hw.mono rfl) (Keeps.ite (by split <;> [(exact (State.modTxn_keeps (hw.mono rfl) (State.fillCell_keeps (hw.mono rfl) (by split <;> [(exact (Keeps.ite h_s (Keeps.ite (State.snoopAnswer_keeps (hw.mono rfl) h_s) (State.respond_keeps (hw.mono rfl) (Keeps.ite (State.countMsg_keeps (hw.mono rfl) h_s) h_s))))); (exact h_s)])))); (exact (by split <;> [(exact (Keeps.ite h_s (Keeps.ite (State.snoopAnswer_keeps (hw.mono rfl) h_s) (State.respond_keeps (hw.mono rfl) (Keeps.ite (State.countMsg_keeps (hw.mono rfl) h_s) h_s))))); (exact h_s)]))]) (by split <;> [(exact (Keeps.ite h_s (Keeps.ite (State.snoopAnswer_keeps (hw.mono rfl) h_s) (State.respond_keeps (hw.mono rfl) (Keeps.ite (State.countMsg_keeps (hw.mono rfl) h_s) h_s))))); (exact h_s)])))) (State.dropKept_keeps (hw.mono rfl) (Keeps.ite (by split <;> [(exact (State.modTxn_keeps (hw.mono rfl) (State.fillCell_keeps (hw.mono rfl) (by split <;> [(exact (Keeps.ite h_s (Keeps.ite (State.snoopAnswer_keeps (hw.mono rfl) h_s) (State.respond_keeps (hw.mono rfl) (Keeps.ite (State.countMsg_keeps (hw.mono rfl) h_s) h_s))))); (exact h_s)])))); (exact (by split <;> [(exact (Keeps.ite h_s (Keeps.ite (State.snoopAnswer_keeps (hw.mono rfl) h_s) (State.respond_keeps (hw.mono rfl) (Keeps.ite (State.countMsg_keeps (hw.mono rfl) h_s) h_s))))); (exact h_s)]))]) (by split <;> [(exact (Keeps.ite h_s (Keeps.ite (State.snoopAnswer_keeps (hw.mono rfl) h_s) (State.respond_keeps (hw.mono rfl) (Keeps.ite (State.countMsg_keeps (hw.mono rfl) h_s) h_s))))); (exact h_s)])))))])))) (State.writeOut_keeps (hw.mono rfl) (State.modTxn_keeps (hw.mono rfl) (by split <;> [(exact (State.writeOut_keeps (hw.mono rfl) (Keeps.ite (State.freeCell_keeps (hw.mono rfl) (State.dropKept_keeps (hw.mono rfl) (Keeps.ite (by split <;> [(exact (State.modTxn_keeps (hw.mono rfl) (State.fillCell_keeps (hw.mono rfl) (by split <;> [(exact (Keeps.ite h_s (Keeps.ite (State.snoopAnswer_keeps (hw.mono rfl) h_s) (State.respond_keeps (hw.mono rfl) (Keeps.ite (State.countMsg_keeps (hw.mono rfl) h_s) h_s))))); (exact h_s)])))); (exact (by split <;> [(exact (Keeps.ite h_s (Keeps.ite (State.snoopAnswer_keeps (hw.mono rfl) h_s) (State.respond_keeps (hw.mono rfl) (Keeps.ite (State.countMsg_keeps (hw.mono rfl) h_s) h_s))))); (exact h_s)]))]) (by split <;> [(exact (Keeps.ite h_s (Keeps.ite (State.snoopAnswer_keeps (hw.mono rfl) h_s) (State.respond_keeps (hw.mono rfl) (Keeps.ite (State.countMsg_keeps (hw.mono rfl) h_s) h_s))))); (exact h_s)])))) (State.dropKept_keeps (hw.mono rfl) (Keeps.ite (by split <;> [(exact (State.modTxn_keeps (hw.mono rfl) (State.fillCell_keeps (hw.mono rfl) (by split <;> [(exact (Keeps.ite h_s (Keeps.ite (State.snoopAnswer_keeps (hw.mono rfl) h_s) (State.respond_keeps (hw.mono rfl) (Keeps.ite (State.countMsg_keeps (hw.mono rfl) h_s) h_s))))); (exact h_s)])))); (exact (by split <;> [(exact (Keeps.ite h_s (Keeps.ite (State.snoopAnswer_keeps (hw.mono rfl) h_s) (State.respond_keeps (hw.mono rfl) (Keeps.ite (State.countMsg_keeps (hw.mono rfl) h_s) h_s))))); (exact h_s)]))]) (by split <;> [(exact (Keeps.ite h_s (Keeps.ite (State.snoopAnswer_keeps (hw.mono rfl) h_s) (State.respond_keeps (hw.mono rfl) (Keeps.ite (State.countMsg_keeps (hw.mono rfl) h_s) h_s))))); (exact h_s)])))))); (exact (Keeps.ite (State.freeCell_keeps (hw.mono rfl) (State.dropKept_keeps (hw.mono rfl) (Keeps.ite (by split <;> [(exact (State.modTxn_keeps (hw.mono rfl) (State.fillCell_keeps (hw.mono rfl) (by split <;> [(exact (Keeps.ite h_s (Keeps.ite (State.snoopAnswer_keeps (hw.mono rfl) h_s) (State.respond_keeps (hw.mono rfl) (Keeps.ite (State.countMsg_keeps (hw.mono rfl) h_s) h_s))))); (exact h_s)])))); (exact (by split <;> [(exact (Keeps.ite h_s (Keeps.ite (State.snoopAnswer_keeps (hw.mono rfl) h_s) (State.respond_keeps (hw.mono rfl) (Keeps.ite (State.countMsg_keeps (hw.mono rfl) h_s) h_s))))); (exact h_s)]))]) (by split <;> [(exact (Keeps.ite h_s (Keeps.ite (State.snoopAnswer_keeps (hw.mono rfl) h_s) (State.respond_keeps (hw.mono rfl) (Keeps.ite (State.countMsg_keeps (hw.mono rfl) h_s) h_s))))); (exact h_s)])))) (State.dropKept_keeps (hw.mono rfl) (Keeps.ite (by split <;> [(exact (State.modTxn_keeps (hw.mono rfl) (State.fillCell_keeps (hw.mono rfl) (by split <;> [(exact (Keeps.ite h_s (Keeps.ite (State.snoopAnswer_keeps (hw.mono rfl) h_s) (State.respond_keeps (hw.mono rfl) (Keeps.ite (State.countMsg_keeps (hw.mono rfl) h_s) h_s))))); (exact h_s)])))); (exact (by split <;> [(exact (Keeps.ite h_s (Keeps.ite (State.snoopAnswer_keeps (hw.mono rfl) h_s) (State.respond_keeps (hw.mono rfl) (Keeps.ite (State.countMsg_keeps (hw.mono rfl) h_s) h_s))))); (exact h_s)]))]) (by split <;> [(exact (Keeps.ite h_s (Keeps.ite (State.snoopAnswer_keeps (hw.mono rfl) h_s) (State.respond_keeps (hw.mono rfl) (Keeps.ite (State.countMsg_keeps (hw.mono rfl) h_s) h_s))))); (exact h_s)])))))])))))]))) (State.endRow_keeps (hw.mono rfl) (State.when_keeps (State.when_keeps (by split <;> [(exact (State.respond_keeps (hw.mono rfl) (Keeps.ite (State.writeEntry_keeps (hw.mono rfl) (State.writeOut_keeps (hw.mono rfl) (State.modTxn_keeps (hw.mono rfl) (by split <;> [(exact (State.writeOut_keeps (hw.mono rfl) (Keeps.ite (State.freeCell_keeps (hw.mono rfl) (State.dropKept_keeps (hw.mono rfl) (Keeps.ite (by split <;> [(exact (State.modTxn_keeps (hw.mono rfl) (State.fillCell_keeps (hw.mono rfl) (by split <;> [(exact (Keeps.ite h_s (Keeps.ite (State.snoopAnswer_keeps (hw.mono rfl) h_s) (State.respond_keeps (hw.mono rfl) (Keeps.ite (State.countMsg_keeps (hw.mono rfl) h_s) h_s))))); (exact h_s)])))); (exact (by split <;> [(exact (Keeps.ite h_s (Keeps.ite (State.snoopAnswer_keeps (hw.mono rfl) h_s) (State.respond_keeps (hw.mono rfl) (Keeps.ite (State.countMsg_keeps (hw.mono rfl) h_s) h_s))))); (exact h_s)]))]) (by split <;> [(exact (Keeps.ite h_s (Keeps.ite (State.snoopAnswer_keeps (hw.mono rfl) h_s) (State.respond_keeps (hw.mono rfl) (Keeps.ite (State.countMsg_keeps (hw.mono rfl) h_s) h_s))))); (exact h_s)])))) (State.dropKept_keeps (hw.mono rfl) (Keeps.ite (by split <;> [(exact (State.modTxn_keeps (hw.mono rfl) (State.fillCell_keeps (hw.mono rfl) (by split <;> [(exact (Keeps.ite h_s (Keeps.ite (State.snoopAnswer_keeps (hw.mono rfl) h_s) (State.respond_keeps (hw.mono rfl) (Keeps.ite (State.countMsg_keeps (hw.mono rfl) h_s) h_s))))); (exact h_s)])))); (exact (by split <;> [(exact (Keeps.ite h_s (Keeps.ite (State.snoopAnswer_keeps (hw.mono rfl) h_s) (State.respond_keeps (hw.mono rfl) (Keeps.ite (State.countMsg_keeps (hw.mono rfl) h_s) h_s))))); (exact h_s)]))]) (by split <;> [(exact (Keeps.ite h_s (Keeps.ite (State.snoopAnswer_keeps (hw.mono rfl) h_s) (State.respond_keeps (hw.mono rfl) (Keeps.ite (State.countMsg_keeps (hw.mono rfl) h_s) h_s))))); (exact h_s)])))))); (exact (Keeps.ite (State.freeCell_keeps (hw.mono rfl) (State.dropKept_keeps (hw.mono rfl) (Keeps.ite (by split <;> [(exact (State.modTxn_keeps (hw.mono rfl) (State.fillCell_keeps (hw.mono rfl) (by split <;> [(exact (Keeps.ite h_s (Keeps.ite (State.snoopAnswer_keeps (hw.mono rfl) h_s) (State.respond_keeps (hw.mono rfl) (Keeps.ite (State.countMsg_keeps (hw.mono rfl) h_s) h_s))))); (exact h_s)])))); (exact (by split <;> [(exact (Keeps.ite h_s (Keeps.ite (State.snoopAnswer_keeps (hw.mono rfl) h_s) (State.respond_keeps (hw.mono rfl) (Keeps.ite (State.countMsg_keeps (hw.mono rfl) h_s) h_s))))); (exact h_s)]))]) (by split <;> [(exact (Keeps.ite h_s (Keeps.ite (State.snoopAnswer_keeps (hw.mono rfl) h_s) (State.respond_keeps (hw.mono rfl) (Keeps.ite (State.countMsg_keeps (hw.mono rfl) h_s) h_s))))); (exact h_s)])))) (State.dropKept_keeps (hw.mono rfl) (Keeps.ite (by split <;> [(exact (State.modTxn_keeps (hw.mono rfl) (State.fillCell_keeps (hw.mono rfl) (by split <;> [(exact (Keeps.ite h_s (Keeps.ite (State.snoopAnswer_keeps (hw.mono rfl) h_s) (State.respond_keeps (hw.mono rfl) (Keeps.ite (State.countMsg_keeps (hw.mono rfl) h_s) h_s))))); (exact h_s)])))); (exact (by split <;> [(exact (Keeps.ite h_s (Keeps.ite (State.snoopAnswer_keeps (hw.mono rfl) h_s) (State.respond_keeps (hw.mono rfl) (Keeps.ite (State.countMsg_keeps (hw.mono rfl) h_s) h_s))))); (exact h_s)]))]) (by split <;> [(exact (Keeps.ite h_s (Keeps.ite (State.snoopAnswer_keeps (hw.mono rfl) h_s) (State.respond_keeps (hw.mono rfl) (Keeps.ite (State.countMsg_keeps (hw.mono rfl) h_s) h_s))))); (exact h_s)])))))])))) (State.writeOut_keeps (hw.mono rfl) (State.modTxn_keeps (hw.mono rfl) (by split <;> [(exact (State.writeOut_keeps (hw.mono rfl) (Keeps.ite (State.freeCell_keeps (hw.mono rfl) (State.dropKept_keeps (hw.mono rfl) (Keeps.ite (by split <;> [(exact (State.modTxn_keeps (hw.mono rfl) (State.fillCell_keeps (hw.mono rfl) (by split <;> [(exact (Keeps.ite h_s (Keeps.ite (State.snoopAnswer_keeps (hw.mono rfl) h_s) (State.respond_keeps (hw.mono rfl) (Keeps.ite (State.countMsg_keeps (hw.mono rfl) h_s) h_s))))); (exact h_s)])))); (exact (by split <;> [(exact (Keeps.ite h_s (Keeps.ite (State.snoopAnswer_keeps (hw.mono rfl) h_s) (State.respond_keeps (hw.mono rfl) (Keeps.ite (State.countMsg_keeps (hw.mono rfl) h_s) h_s))))); (exact h_s)]))]) (by split <;> [(exact (Keeps.ite h_s (Keeps.ite (State.snoopAnswer_keeps (hw.mono rfl) h_s) (State.respond_keeps (hw.mono rfl) (Keeps.ite (State.countMsg_keeps (hw.mono rfl) h_s) h_s))))); (exact h_s)])))) (State.dropKept_keeps (hw.mono rfl) (Keeps.ite (by split <;> [(exact (State.modTxn_keeps (hw.mono rfl) (State.fillCell_keeps (hw.mono rfl) (by split <;> [(exact (Keeps.ite h_s (Keeps.ite (State.snoopAnswer_keeps (hw.mono rfl) h_s) (State.respond_keeps (hw.mono rfl) (Keeps.ite (State.countMsg_keeps (hw.mono rfl) h_s) h_s))))); (exact h_s)])))); (exact (by split <;> [(exact (Keeps.ite h_s (Keeps.ite (State.snoopAnswer_keeps (hw.mono rfl) h_s) (State.respond_keeps (hw.mono rfl) (Keeps.ite (State.countMsg_keeps (hw.mono rfl) h_s) h_s))))); (exact h_s)]))]) (by split <;> [(exact (Keeps.ite h_s (Keeps.ite (State.snoopAnswer_keeps (hw.mono rfl) h_s) (State.respond_keeps (hw.mono rfl) (Keeps.ite (State.countMsg_keeps (hw.mono rfl) h_s) h_s))))); (exact h_s)])))))); (exact (Keeps.ite (State.freeCell_keeps (hw.mono rfl) (State.dropKept_keeps (hw.mono rfl) (Keeps.ite (by split <;> [(exact (State.modTxn_keeps (hw.mono rfl) (State.fillCell_keeps (hw.mono rfl) (by split <;> [(exact (Keeps.ite h_s (Keeps.ite (State.snoopAnswer_keeps (hw.mono rfl) h_s) (State.respond_keeps (hw.mono rfl) (Keeps.ite (State.countMsg_keeps (hw.mono rfl) h_s) h_s))))); (exact h_s)])))); (exact (by split <;> [(exact (Keeps.ite h_s (Keeps.ite (State.snoopAnswer_keeps (hw.mono rfl) h_s) (State.respond_keeps (hw.mono rfl) (Keeps.ite (State.countMsg_keeps (hw.mono rfl) h_s) h_s))))); (exact h_s)]))]) (by split <;> [(exact (Keeps.ite h_s (Keeps.ite (State.snoopAnswer_keeps (hw.mono rfl) h_s) (State.respond_keeps (hw.mono rfl) (Keeps.ite (State.countMsg_keeps (hw.mono rfl) h_s) h_s))))); (exact h_s)])))) (State.dropKept_keeps (hw.mono rfl) (Keeps.ite (by split <;> [(exact (State.modTxn_keeps (hw.mono rfl) (State.fillCell_keeps (hw.mono rfl) (by split <;> [(exact (Keeps.ite h_s (Keeps.ite (State.snoopAnswer_keeps (hw.mono rfl) h_s) (State.respond_keeps (hw.mono rfl) (Keeps.ite (State.countMsg_keeps (hw.mono rfl) h_s) h_s))))); (exact h_s)])))); (exact (by split <;> [(exact (Keeps.ite h_s (Keeps.ite (State.snoopAnswer_keeps (hw.mono rfl) h_s) (State.respond_keeps (hw.mono rfl) (Keeps.ite (State.countMsg_keeps (hw.mono rfl) h_s) h_s))))); (exact h_s)]))]) (by split <;> [(exact (Keeps.ite h_s (Keeps.ite (State.snoopAnswer_keeps (hw.mono rfl) h_s) (State.respond_keeps (hw.mono rfl) (Keeps.ite (State.countMsg_keeps (hw.mono rfl) h_s) h_s))))); (exact h_s)])))))])))))); (exact (Keeps.ite (State.writeEntry_keeps (hw.mono rfl) (State.writeOut_keeps (hw.mono rfl) (State.modTxn_keeps (hw.mono rfl) (by split <;> [(exact (State.writeOut_keeps (hw.mono rfl) (Keeps.ite (State.freeCell_keeps (hw.mono rfl) (State.dropKept_keeps (hw.mono rfl) (Keeps.ite (by split <;> [(exact (State.modTxn_keeps (hw.mono rfl) (State.fillCell_keeps (hw.mono rfl) (by split <;> [(exact (Keeps.ite h_s (Keeps.ite (State.snoopAnswer_keeps (hw.mono rfl) h_s) (State.respond_keeps (hw.mono rfl) (Keeps.ite (State.countMsg_keeps (hw.mono rfl) h_s) h_s))))); (exact h_s)])))); (exact (by split <;> [(exact (Keeps.ite h_s (Keeps.ite (State.snoopAnswer_keeps (hw.mono rfl) h_s) (State.respond_keeps (hw.mono rfl) (Keeps.ite (State.countMsg_keeps (hw.mono rfl) h_s) h_s))))); (exact h_s)]))]) (by split <;> [(exact (Keeps.ite h_s (Keeps.ite (State.snoopAnswer_keeps (hw.mono rfl) h_s) (State.respond_keeps (hw.mono rfl) (Keeps.ite (State.countMsg_keeps (hw.mono rfl) h_s) h_s))))); (exact h_s)])))) (State.dropKept_keeps (hw.mono rfl) (Keeps.ite (by split <;> [(exact (State.modTxn_keeps (hw.mono rfl) (State.fillCell_keeps (hw.mono rfl) (by split <;> [(exact (Keeps.ite h_s (Keeps.ite (State.snoopAnswer_keeps (hw.mono rfl) h_s) (State.respond_keeps (hw.mono rfl) (Keeps.ite (State.countMsg_keeps (hw.mono rfl) h_s) h_s))))); (exact h_s)])))); (exact (by split <;> [(exact (Keeps.ite h_s (Keeps.ite (State.snoopAnswer_keeps (hw.mono rfl) h_s) (State.respond_keeps (hw.mono rfl) (Keeps.ite (State.countMsg_keeps (hw.mono rfl) h_s) h_s))))); (exact h_s)]))]) (by split <;> [(exact (Keeps.ite h_s (Keeps.ite (State.snoopAnswer_keeps (hw.mono rfl) h_s) (State.respond_keeps (hw.mono rfl) (Keeps.ite (State.countMsg_keeps (hw.mono rfl) h_s) h_s))))); (exact h_s)])))))); (exact (Keeps.ite (State.freeCell_keeps (hw.mono rfl) (State.dropKept_keeps (hw.mono rfl) (Keeps.ite (by split <;> [(exact (State.modTxn_keeps (hw.mono rfl) (State.fillCell_keeps (hw.mono rfl) (by split <;> [(exact (Keeps.ite h_s (Keeps.ite (State.snoopAnswer_keeps (hw.mono rfl) h_s) (State.respond_keeps (hw.mono rfl) (Keeps.ite (State.countMsg_keeps (hw.mono rfl) h_s) h_s))))); (exact h_s)])))); (exact (by split <;> [(exact (Keeps.ite h_s (Keeps.ite (State.snoopAnswer_keeps (hw.mono rfl) h_s) (State.respond_keeps (hw.mono rfl) (Keeps.ite (State.countMsg_keeps (hw.mono rfl) h_s) h_s))))); (exact h_s)]))]) (by split <;> [(exact (Keeps.ite h_s (Keeps.ite (State.snoopAnswer_keeps (hw.mono rfl) h_s) (State.respond_keeps (hw.mono rfl) (Keeps.ite (State.countMsg_keeps (hw.mono rfl) h_s) h_s))))); (exact h_s)])))) (State.dropKept_keeps (hw.mono rfl) (Keeps.ite (by split <;> [(exact (State.modTxn_keeps (hw.mono rfl) (State.fillCell_keeps (hw.mono rfl) (by split <;> [(exact (Keeps.ite h_s (Keeps.ite (State.snoopAnswer_keeps (hw.mono rfl) h_s) (State.respond_keeps (hw.mono rfl) (Keeps.ite (State.countMsg_keeps (hw.mono rfl) h_s) h_s))))); (exact h_s)])))); (exact (by split <;> [(exact (Keeps.ite h_s (Keeps.ite (State.snoopAnswer_keeps (hw.mono rfl) h_s) (State.respond_keeps (hw.mono rfl) (Keeps.ite (State.countMsg_keeps (hw.mono rfl) h_s) h_s))))); (exact h_s)]))]) (by split <;> [(exact (Keeps.ite h_s (Keeps.ite (State.snoopAnswer_keeps (hw.mono rfl) h_s) (State.respond_keeps (hw.mono rfl) (Keeps.ite (State.countMsg_keeps (hw.mono rfl) h_s) h_s))))); (exact h_s)])))))])))) (State.writeOut_keeps (hw.mono rfl) (State.modTxn_keeps (hw.mono rfl) (by split <;> [(exact (State.writeOut_keeps (hw.mono rfl) (Keeps.ite (State.freeCell_keeps (hw.mono rfl) (State.dropKept_keeps (hw.mono rfl) (Keeps.ite (by split <;> [(exact (State.modTxn_keeps (hw.mono rfl) (State.fillCell_keeps (hw.mono rfl) (by split <;> [(exact (Keeps.ite h_s (Keeps.ite (State.snoopAnswer_keeps (hw.mono rfl) h_s) (State.respond_keeps (hw.mono rfl) (Keeps.ite (State.countMsg_keeps (hw.mono rfl) h_s) h_s))))); (exact h_s)])))); (exact (by split <;> [(exact (Keeps.ite h_s (Keeps.ite (State.snoopAnswer_keeps (hw.mono rfl) h_s) (State.respond_keeps (hw.mono rfl) (Keeps.ite (State.countMsg_keeps (hw.mono rfl) h_s) h_s))))); (exact h_s)]))]) (by split <;> [(exact (Keeps.ite h_s (Keeps.ite (State.snoopAnswer_keeps (hw.mono rfl) h_s) (State.respond_keeps (hw.mono rfl) (Keeps.ite (State.countMsg_keeps (hw.mono rfl) h_s) h_s))))); (exact h_s)])))) (State.dropKept_keeps (hw.mono rfl) (Keeps.ite (by split <;> [(exact (State.modTxn_keeps (hw.mono rfl) (State.fillCell_keeps (hw.mono rfl) (by split <;> [(exact (Keeps.ite h_s (Keeps.ite (State.snoopAnswer_keeps (hw.mono rfl) h_s) (State.respond_keeps (hw.mono rfl) (Keeps.ite (State.countMsg_keeps (hw.mono rfl) h_s) h_s))))); (exact h_s)])))); (exact (by split <;> [(exact (Keeps.ite h_s (Keeps.ite (State.snoopAnswer_keeps (hw.mono rfl) h_s) (State.respond_keeps (hw.mono rfl) (Keeps.ite (State.countMsg_keeps (hw.mono rfl) h_s) h_s))))); (exact h_s)]))]) (by split <;> [(exact (Keeps.ite h_s (Keeps.ite (State.snoopAnswer_keeps (hw.mono rfl) h_s) (State.respond_keeps (hw.mono rfl) (Keeps.ite (State.countMsg_keeps (hw.mono rfl) h_s) h_s))))); (exact h_s)])))))); (exact (Keeps.ite (State.freeCell_keeps (hw.mono rfl) (State.dropKept_keeps (hw.mono rfl) (Keeps.ite (by split <;> [(exact (State.modTxn_keeps (hw.mono rfl) (State.fillCell_keeps (hw.mono rfl) (by split <;> [(exact (Keeps.ite h_s (Keeps.ite (State.snoopAnswer_keeps (hw.mono rfl) h_s) (State.respond_keeps (hw.mono rfl) (Keeps.ite (State.countMsg_keeps (hw.mono rfl) h_s) h_s))))); (exact h_s)])))); (exact (by split <;> [(exact (Keeps.ite h_s (Keeps.ite (State.snoopAnswer_keeps (hw.mono rfl) h_s) (State.respond_keeps (hw.mono rfl) (Keeps.ite (State.countMsg_keeps (hw.mono rfl) h_s) h_s))))); (exact h_s)]))]) (by split <;> [(exact (Keeps.ite h_s (Keeps.ite (State.snoopAnswer_keeps (hw.mono rfl) h_s) (State.respond_keeps (hw.mono rfl) (Keeps.ite (State.countMsg_keeps (hw.mono rfl) h_s) h_s))))); (exact h_s)])))) (State.dropKept_keeps (hw.mono rfl) (Keeps.ite (by split <;> [(exact (State.modTxn_keeps (hw.mono rfl) (State.fillCell_keeps (hw.mono rfl) (by split <;> [(exact (Keeps.ite h_s (Keeps.ite (State.snoopAnswer_keeps (hw.mono rfl) h_s) (State.respond_keeps (hw.mono rfl) (Keeps.ite (State.countMsg_keeps (hw.mono rfl) h_s) h_s))))); (exact h_s)])))); (exact (by split <;> [(exact (Keeps.ite h_s (Keeps.ite (State.snoopAnswer_keeps (hw.mono rfl) h_s) (State.respond_keeps (hw.mono rfl) (Keeps.ite (State.countMsg_keeps (hw.mono rfl) h_s) h_s))))); (exact h_s)]))]) (by split <;> [(exact (Keeps.ite h_s (Keeps.ite (State.snoopAnswer_keeps (hw.mono rfl) h_s) (State.respond_keeps (hw.mono rfl) (Keeps.ite (State.countMsg_keeps (hw.mono rfl) h_s) h_s))))); (exact h_s)])))))])))))]) (fun _ h1 => (State.freeCell_keeps (hw.mono rfl) h1))) (fun _ h2 => (State.modTxn_keeps (hw.mono rfl) h2)))))))]))])

theorem State.advance_keeps {W : Nat} {z : State} {s : State} {l : ℕ} (hw : Within 0x108872a81208a602 W) (h_s : Keeps W z s) : Keeps W z (State.advance s l) := by
  unfold State.advance
  (try dsimp only)
  exact (by split <;> [(exact h_s); (exact (Keeps.ite h_s (Keeps.ite (Keeps.ite (State.rowDone_keeps (hw.mono rfl) (State.modTxn_keeps (hw.mono rfl) h_s)) (State.modTxn_keeps (hw.mono rfl) h_s)) (State.rowDone_keeps (hw.mono rfl) h_s))))])

theorem State.closeSnoop_keeps {W : Nat} {z : State} {s : State} {l : ℕ} {a : ℕ} {cause : ℕ} (hw : Within 0x108872a81208a602 W) (h_s : Keeps W z s) : Keeps W z (State.closeSnoop s l a cause) := by
  unfold State.closeSnoop
  (try dsimp only)
  exact (by split <;> [(exact h_s); (exact (Keeps.ite h_s (State.advance_keeps (hw.mono rfl) (State.modTxn_keeps (hw.mono rfl) (Keeps.ite (State.lostLine_keeps (hw.mono rfl) h_s) h_s)))))])

theorem State.openTxn_keeps {W : Nat} {z : State} {s : State} {l : ℕ} {msg : Option Msg} {req : ℕ} {row : ℕ} {ln : LineSt} {q : Option ℕ} {way : Option ℕ} {bcastAs : Option ℕ} (hw : Within 0x108872a81208a602 W) (h_s : Keeps W z s) : Keeps W z (State.openTxn s l msg req row ln q way bcastAs) := by
  unfold State.openTxn
  (try dsimp only)
  exact (State.advance_keeps (hw.mono rfl) (State.each_keeps (Keeps.ite (Keeps.ite (State.modTxn_keeps (hw.mono rfl) (State.toHome_keeps (hw.mono rfl) (Keeps.ite (State.setTxn_keeps (hw.mono rfl) h_s) (State.sendSnoop_keeps (hw.mono rfl) (State.setTxn_keeps (hw.mono rfl) h_s))))) (Keeps.ite (State.modTxn_keeps (hw.mono rfl) (State.poolSend_keeps (hw.mono rfl) (Keeps.ite (State.setTxn_keeps (hw.mono rfl) h_s) (State.sendSnoop_keeps (hw.mono rfl) (State.setTxn_keeps (hw.mono rfl) h_s))))) (State.modTxn_keeps (hw.mono rfl) (State.poolSend_keeps (hw.mono rfl) (Keeps.ite (State.setTxn_keeps (hw.mono rfl) h_s) (State.sendSnoop_keeps (hw.mono rfl) (State.setTxn_keeps (hw.mono rfl) h_s))))))) (Keeps.ite (State.setTxn_keeps (hw.mono rfl) h_s) (State.sendSnoop_keeps (hw.mono rfl) (State.setTxn_keeps (hw.mono rfl) h_s)))) (fun _ h1 _ => (State.closeSnoop_keeps (hw.mono rfl) h1))))

theorem State.setRsv_keeps {W : Nat} {z : State} {s : State} {l : ℕ} {q : List (ℕ × ℕ)} (hw : Within 0x80000 W) (h_s : Keeps W z s) : Keeps W z (State.setRsv s l q) := by
  unfold State.setRsv
  (try dsimp only)
  exact (Keeps.set_wm (hw.mono rfl) h_s)

theorem State.handedOver_keeps {W : Nat} {z : State} {s : State} {sl : ℕ} {d : Stored} {naked : Bool} (hw : Within 0x40000000008400 W) (h_s : Keeps W z s) : Keeps W z (State.handedOver s sl d naked) := by
  unfold State.handedOver
  (try dsimp only)
  exact (State.tdResolve_keeps (hw.mono rfl) (Keeps.set_swc (hw.mono rfl) h_s))

theorem State.sliceTook_keeps {W : Nat} {z : State} {s : State} {sl : ℕ} {m : Msg} {naked : Bool} (hw : Within 0x10c810a01200a602 W) (h_s : Keeps W z s) : Keeps W z (State.sliceTook s sl m naked) := by
  unfold State.sliceTook
  (try dsimp only)
  exact (by split <;> [(exact h_s); (exact (State.drainAll_keeps (hw.mono rfl) (State.retCredits_keeps (hw.mono rfl) (State.copyGone_keeps (hw.mono rfl) (State.handedOver_keeps (hw.mono rfl) h_s)))))])

theorem State.sliceKept_keeps {W : Nat} {z : State} {s : State} {sl : ℕ} {m : Msg} (hw : Within 0x10c810a01200a602 W) (h_s : Keeps W z s) : Keeps W z (State.sliceKept s sl m).2 := by
  unfold State.sliceKept
  (try dsimp only)
  exact (by split <;> [(exact h_s); (exact (State.cellsBack_keeps (hw.mono rfl) (State.unplace_keeps (hw.mono rfl) (State.eqSub_keeps (hw.mono rfl) (State.handedOver_keeps (hw.mono rfl) h_s)))))])

theorem State.nak_keeps {W : Nat} {z : State} {s : State} {l : ℕ} {m : Msg} {hint : ℕ} (hw : Within 0x10c852a81208a602 W) (h_s : Keeps W z s) : Keeps W z (State.nak s l m hint) := by
  unfold State.nak
  (try dsimp only)
  exact (Keeps.ite (State.inject_keeps (hw.mono rfl) (State.sliceTook_keeps (hw.mono rfl) (Keeps.ite (Keeps.ite (State.setRsv_keeps (hw.mono rfl) (State.countMsg_keeps (hw.mono rfl) (State.countMsg_keeps (hw.mono rfl) (State.inc_keeps (hw.mono rfl) h_s (hw.mono rfl))))) (State.inc_keeps (hw.mono rfl) (State.countMsg_keeps (hw.mono rfl) (State.inc_keeps (hw.mono rfl) h_s (hw.mono rfl))) (hw.mono rfl))) (State.countMsg_keeps (hw.mono rfl) (State.inc_keeps (hw.mono rfl) h_s (hw.mono rfl)))))) (Keeps.set_wm (hw.mono rfl) (State.sliceTook_keeps (hw.mono rfl) (Keeps.ite (Keeps.ite (State.setRsv_keeps (hw.mono rfl) (State.countMsg_keeps (hw.mono rfl) (State.countMsg_keeps (hw.mono rfl) (State.inc_keeps (hw.mono rfl) h_s (hw.mono rfl))))) (State.inc_keeps (hw.mono rfl) (State.countMsg_keeps (hw.mono rfl) (State.inc_keeps (hw.mono rfl) h_s (hw.mono rfl))) (hw.mono rfl))) (State.countMsg_keeps (hw.mono rfl) (State.inc_keeps (hw.mono rfl) h_s (hw.mono rfl)))))))

theorem State.recallLine_keeps {W : Nat} {z : State} {s : State} {ws : List ℕ} {l : ℕ} {ln : LineSt} {way : Option ℕ} (hw : Within 0x108872a81208a602 W) (h_s : Keeps W z s) : Keeps W z (State.recallLine s ws l ln way) := by
  unfold State.recallLine
  (try dsimp only)
  exact (State.openTxn_keeps (hw.mono rfl) h_s)

theorem State.evict_keeps {W : Nat} {z : State} {s : State} {w : ℕ} (hw : Within 0x10887aa81208a602 W) (h_s : Keeps W z s) : Keeps W z (State.evict s w) := by
  unfold State.evict
  (try dsimp only)
  exact (State.recallLine_keeps (hw.mono rfl) (State.setFentry_keeps (hw.mono rfl) (State.countEv_keeps (hw.mono rfl) (State.inc_keeps (hw.mono rfl) (State.ageSet_keeps (hw.mono rfl) h_s) (hw.mono rfl)))))

theorem State.retireWay_keeps {W : Nat} {z : State} {s : State} {k : ℕ} (hw : Within 0x10887aa81208a602 W) (h_s : Keeps W z s) : Keeps W z (State.retireWay s k) := by
  unfold State.retireWay
  (try dsimp only)
  exact (Keeps.ite (Keeps.set_wm (hw.mono rfl) h_s) (Keeps.set_wm (hw.mono rfl) (State.retire_keeps (hw.mono rfl) (State.when_keeps h_s (fun _ h1 => (State.evict_keeps (hw.mono rfl) h1))))))

theorem State.corrected_keeps {W : Nat} {z : State} {s : State} {k : ℕ} (hw : Within 0x10887aa81208a602 W) (h_s : Keeps W z s) : Keeps W z (State.corrected s k) := by
  unfold State.corrected
  (try dsimp only)
  exact (Keeps.ite (Keeps.set_wm (hw.mono rfl) (State.snfLast_keeps (hw.mono rfl) (State.inc_keeps (hw.mono rfl) h_s (hw.mono rfl)))) (Keeps.ite (State.snfLast_keeps (hw.mono rfl) (State.inc_keeps (hw.mono rfl) h_s (hw.mono rfl))) (Keeps.ite (State.retireWay_keeps (hw.mono rfl) (State.snfLast_keeps (hw.mono rfl) (State.inc_keeps (hw.mono rfl) h_s (hw.mono rfl)))) (State.pulse_keeps (hw.mono rfl) (State.snfLast_keeps (hw.mono rfl) (State.inc_keeps (hw.mono rfl) h_s (hw.mono rfl)))))))

theorem State.readWay_keeps {W : Nat} {z : State} {s : State} {k : ℕ} {kind : ℕ} (hw : Within 0x10887aa81208a602 W) (h_s : Keeps W z s) : Keeps W z (State.readWay s k kind) := by
  unfold State.readWay
  (try dsimp only)
  exact (Keeps.ite (State.when_keeps (State.when_keeps (State.when_keeps h_s (fun _ h1 => (State.badEntry_keeps (hw.mono rfl) h1))) (fun _ h2 => (Keeps.set_wm (hw.mono rfl) h2))) (fun _ h3 => (State.badEntry_keeps (hw.mono rfl) h3))) (State.corrected_keeps (hw.mono rfl) (State.when_keeps h_s (fun _ h4 => (State.badEntry_keeps (hw.mono rfl) h4)))))

theorem State.tabRead_keeps {W : Nat} {z : State} {s : State} {tab : ℕ} (hw : Within 0x20000080200 W) (h_s : Keeps W z s) : Keeps W z (State.tabRead s tab) := by
  unfold State.tabRead
  (try dsimp only)
  exact (Keeps.ite h_s (Keeps.ite (State.pulse_keeps (hw.mono rfl) h_s) (State.pulse_keeps (hw.mono rfl) (State.wr_keeps (State.wr_keeps (State.wrb_keeps (hw.mono rfl) (Keeps.set_wm (hw.mono rfl) h_s) (hw.mono rfl)) (hw.mono rfl)) (hw.mono rfl)))))

theorem State.upset_keeps {W : Nat} {z : State} {s : State} {k : ℕ} {up : Upset} (hw : Within 0x10887aa81208a602 W) (h_s : Keeps W z s) : Keeps W z (State.upset s k up) := by
  unfold State.upset
  (try dsimp only)
  exact (State.tabRead_keeps (hw.mono rfl) (State.each_keeps h_s (fun _ h1 _ => (State.readWay_keeps (hw.mono rfl) h1))))

theorem State.wmProto_keeps {W : Nat} {z : State} {s : State} (hw : Within 0x20000000200 W) (h_s : Keeps W z s) : Keeps W z (State.wmProto s) := by
  unfold State.wmProto
  (try dsimp only)
  exact (State.pulse_keeps (hw.mono rfl) (State.inc_keeps (hw.mono rfl) h_s (hw.mono rfl)))

theorem State.badWb_keeps {W : Nat} {z : State} {s : State} {l : ℕ} {m : Msg} {stale : Bool} (hw : Within 0x10c852a81200a602 W) (h_s : Keeps W z s) : Keeps W z (State.badWb s l m stale) := by
  unfold State.badWb
  (try dsimp only)
  exact (Keeps.ite (State.inc_keeps (hw.mono rfl) (State.respond_keeps (hw.mono rfl) (State.sliceTook_keeps (hw.mono rfl) h_s)) (hw.mono rfl)) (State.wmProto_keeps (hw.mono rfl) (State.respond_keeps (hw.mono rfl) (State.sliceTook_keeps (hw.mono rfl) h_s))))

theorem State.putLine_keeps {W : Nat} {z : State} {s : State} {l : ℕ} {n : LineSt} (hw : Within 0x20000080000 W) (h_s : Keeps W z s) : Keeps W z (State.putLine s l n) := by
  unfold State.putLine
  (try dsimp only)
  exact (by split <;> [(exact (Keeps.ite (State.writeEntry_keeps (hw.mono rfl) (State.modTxn_keeps (hw.mono rfl) h_s)) (State.modTxn_keeps (hw.mono rfl) h_s))); (exact (by split <;> [(exact (State.setFentry_keeps (hw.mono rfl) h_s)); (exact h_s)]))])

theorem State.quietTake_keeps {W : Nat} {z : State} {s : State} {l : ℕ} {m : Msg} {n : LineSt} {n' : LineSt} (hw : Within 0x10c850a81208a602 W) (h_s : Keeps W z s) : Keeps W z (State.quietTake s l m n n') := by
  unfold State.quietTake
  (try dsimp only)
  exact (Keeps.ite (State.respond_keeps (hw.mono rfl) (State.fillCell_keeps (hw.mono rfl) (State.sliceKept_keeps (hw.mono rfl) h_s))) (State.respond_keeps (hw.mono rfl) (State.sliceTook_keeps (hw.mono rfl) h_s)))

theorem State.joinTxn_keeps {W : Nat} {z : State} {s : State} {l : ℕ} {t : Txn} {m : Msg} {req : ℕ} {a : ℕ} (hw : Within 0x10c872a81208a602 W) (h_s : Keeps W z s) : Keeps W z (State.joinTxn s l t m req a) := by
  unfold State.joinTxn
  (try dsimp only)
  exact (Keeps.ite (State.badWb_keeps (hw.mono rfl) h_s) (Keeps.ite (Keeps.ite (State.putLine_keeps (hw.mono rfl) (State.badWb_keeps (hw.mono rfl) h_s)) (State.badWb_keeps (hw.mono rfl) h_s)) (by split <;> [(exact (Keeps.ite (State.endRow_keeps (hw.mono rfl) (State.when_keeps (State.modTxn_keeps (hw.mono rfl) (State.quietTake_keeps (hw.mono rfl) h_s)) (fun _ h1 => (State.freeCell_keeps (hw.mono rfl) h1)))) (State.when_keeps (State.when_keeps (State.modTxn_keeps (hw.mono rfl) (State.quietTake_keeps (hw.mono rfl) h_s)) (fun _ h2 => (State.freeCell_keeps (hw.mono rfl) h2))) (fun _ h3 => (State.writeEntry_keeps (hw.mono rfl) h3))))); (exact (Keeps.ite (Keeps.ite (State.modTxn_keeps (hw.mono rfl) (State.when_keeps (State.writeOut_keeps (hw.mono rfl) (State.modTxn_keeps (hw.mono rfl) (State.quietTake_keeps (hw.mono rfl) h_s))) (fun _ h4 => (State.freeCell_keeps (hw.mono rfl) h4)))) (State.endRow_keeps (hw.mono rfl) (State.when_keeps (State.writeOut_keeps (hw.mono rfl) (State.modTxn_keeps (hw.mono rfl) (State.quietTake_keeps (hw.mono rfl) h_s))) (fun _ h5 => (State.freeCell_keeps (hw.mono rfl) h5))))) (State.when_keeps (Keeps.ite (State.modTxn_keeps (hw.mono rfl) (State.when_keeps (State.writeOut_keeps (hw.mono rfl) (State.modTxn_keeps (hw.mono rfl) (State.quietTake_keeps (hw.mono rfl) h_s))) (fun _ h6 => (State.freeCell_keeps (hw.mono rfl) h6)))) (State.when_keeps (State.writeOut_keeps (hw.mono rfl) (State.modTxn_keeps (hw.mono rfl) (State.quietTake_keeps (hw.mono rfl) h_s))) (fun _ h7 => (State.freeCell_keeps (hw.mono rfl) h7)))) (fun _ h8 => (State.writeEntry_keeps (hw.mono rfl) h8)))))])))

theorem State.quietRow_keeps {W : Nat} {z : State} {s : State} {l : ℕ} {m : Msg} {req : ℕ} {a : ℕ} (hw : Within 0x10c872a81208a602 W) (h_s : Keeps W z s) : Keeps W z (State.quietRow s l m req a) := by
  unfold State.quietRow
  (try dsimp only)
  exact (Keeps.ite (State.badWb_keeps (hw.mono rfl) h_s) (Keeps.ite (Keeps.ite (State.putLine_keeps (hw.mono rfl) (State.badWb_keeps (hw.mono rfl) h_s)) (State.badWb_keeps (hw.mono rfl) h_s)) (by split <;> [(exact (State.putLine_keeps (hw.mono rfl) (State.when_keeps (State.quietTake_keeps (hw.mono rfl) h_s) (fun _ h1 => (State.freeCell_keeps (hw.mono rfl) h1))))); (exact (Keeps.ite h_s (Keeps.ite (State.modTxn_keeps (hw.mono rfl) (State.writeOut_keeps (hw.mono rfl) (State.setTxn_keeps (hw.mono rfl) (State.quietTake_keeps (hw.mono rfl) h_s)))) (State.endRow_keeps (hw.mono rfl) (State.when_keeps (State.writeOut_keeps (hw.mono rfl) (State.setTxn_keeps (hw.mono rfl) (State.quietTake_keeps (hw.mono rfl) h_s))) (fun _ h2 => (State.freeCell_keeps (hw.mono rfl) h2)))))))])))

theorem State.writeBack_keeps {W : Nat} {z : State} {s : State} {l : ℕ} {m : Msg} {req : ℕ} (hw : Within 0x10c872a81208a602 W) (h_s : Keeps W z s) : Keeps W z (State.writeBack s l m req) := by
  unfold State.writeBack
  (try dsimp only)
  exact (by split <;> [(exact (Keeps.ite (State.badWb_keeps (hw.mono rfl) h_s) (Keeps.ite (State.modTxn_keeps (hw.mono rfl) (State.respond_keeps (hw.mono rfl) (State.sliceKept_keeps (hw.mono rfl) (State.dropKept_keeps (hw.mono rfl) h_s)))) (State.joinTxn_keeps (hw.mono rfl) h_s)))); (exact (State.quietRow_keeps (hw.mono rfl) h_s))])

theorem State.evc_keeps {W : Nat} {z : State} {s : State} {l : ℕ} {m : Msg} (hw : Within 0x10c872a81208a602 W) (h_s : Keeps W z s) : Keeps W z (State.evc s l m) := by
  unfold State.evc
  (try dsimp only)
  exact (by split <;> [(exact (State.quietRow_keeps (hw.mono rfl) h_s)); (exact (Keeps.ite (State.badWb_keeps (hw.mono rfl) h_s) (State.when_keeps (by split <;> [(exact (State.putLine_keeps (hw.mono rfl) (State.quietTake_keeps (hw.mono rfl) h_s))); (exact (Keeps.ite (State.modTxn_keeps (hw.mono rfl) (State.writeOut_keeps (hw.mono rfl) (State.putLine_keeps (hw.mono rfl) (State.quietTake_keeps (hw.mono rfl) h_s)))) (State.writeOut_keeps (hw.mono rfl) (State.putLine_keeps (hw.mono rfl) (State.quietTake_keeps (hw.mono rfl) h_s)))))]) (fun _ h1 => (State.freeCell_keeps (hw.mono rfl) h1)))))])

theorem State.runRow_keeps {W : Nat} {z : State} {s : State} {l : ℕ} {m : Msg} {req : ℕ} (hw : Within 0x10c87aa81208a602 W) (h_s : Keeps W z s) : Keeps W z (State.runRow s l m req) := by
  unfold State.runRow
  (try dsimp only)
  exact (Keeps.ite (State.badWb_keeps (hw.mono rfl) h_s) (by split <;> [(exact (State.nak_keeps (hw.mono rfl) (State.when_keeps h_s (fun _ h1 => (State.inc_keeps (hw.mono rfl) h1 (hw.mono rfl)))))); (exact (Keeps.ite (State.openTxn_keeps (hw.mono rfl) (State.inc_keeps (hw.mono rfl) (State.setRsv_keeps (hw.mono rfl) (by split <;> [(exact (Keeps.ite (by split <;> [(exact (State.evict_keeps (hw.mono rfl) (State.sliceTook_keeps (hw.mono rfl) h_s))); (exact (State.sliceTook_keeps (hw.mono rfl) h_s))]) (State.setFentry_keeps (hw.mono rfl) (by split <;> [(exact (State.evict_keeps (hw.mono rfl) (State.sliceTook_keeps (hw.mono rfl) h_s))); (exact (State.sliceTook_keeps (hw.mono rfl) h_s))])))); (exact (by split <;> [(exact (State.evict_keeps (hw.mono rfl) (State.sliceTook_keeps (hw.mono rfl) h_s))); (exact (State.sliceTook_keeps (hw.mono rfl) h_s))]))])) (hw.mono rfl))) (State.openTxn_keeps (hw.mono rfl) (State.setRsv_keeps (hw.mono rfl) (by split <;> [(exact (Keeps.ite (by split <;> [(exact (State.evict_keeps (hw.mono rfl) (State.sliceTook_keeps (hw.mono rfl) h_s))); (exact (State.sliceTook_keeps (hw.mono rfl) h_s))]) (State.setFentry_keeps (hw.mono rfl) (by split <;> [(exact (State.evict_keeps (hw.mono rfl) (State.sliceTook_keeps (hw.mono rfl) h_s))); (exact (State.sliceTook_keeps (hw.mono rfl) h_s))])))); (exact (by split <;> [(exact (State.evict_keeps (hw.mono rfl) (State.sliceTook_keeps (hw.mono rfl) h_s))); (exact (State.sliceTook_keeps (hw.mono rfl) h_s))]))])))))]))

theorem State.refuseWm_keeps {W : Nat} {z : State} {s : State} {l : ℕ} {m : Msg} (hw : Within 0x10c852a81200a602 W) (h_s : Keeps W z s) : Keeps W z (State.refuseWm s l m) := by
  unfold State.refuseWm
  (try dsimp only)
  exact (State.inject_keeps (hw.mono rfl) (State.inc_keeps (hw.mono rfl) (State.sliceTook_keeps (hw.mono rfl) h_s) (hw.mono rfl)))

theorem State.request_keeps {W : Nat} {z : State} {s : State} {l : ℕ} {m : Msg} {req : ℕ} (hw : Within 0x10c87aa81208a602 W) (h_s : Keeps W z s) : Keeps W z (State.request s l m req) := by
  unfold State.request
  (try dsimp only)
  exact (Keeps.ite h_s (Keeps.ite (State.lostAtLink_keeps (hw.mono rfl) (State.sliceTook_keeps (hw.mono rfl) h_s)) (Keeps.ite (State.nak_keeps (hw.mono rfl) h_s) (Keeps.ite (State.nak_keeps (hw.mono rfl) h_s) (Keeps.ite (State.nak_keeps (hw.mono rfl) h_s) (Keeps.ite (State.nak_keeps (hw.mono rfl) h_s) (Keeps.ite (State.nak_keeps (hw.mono rfl) h_s) (Keeps.ite (State.nak_keeps (hw.mono rfl) h_s) (State.runRow_keeps (hw.mono rfl) h_s)))))))))

theorem State.atSlice_keeps {W : Nat} {z : State} {s : State} {m : Msg} {up : Upset} {req : ℕ} (hw : Within 0x10c87aa81208a602 W) (h_s : Keeps W z s) : Keeps W z (State.atSlice s m up req) := by
  unfold State.atSlice
  (try dsimp only)
  exact (Keeps.ite (State.denyReply_keeps (hw.mono rfl) (State.inc_keeps (hw.mono rfl) (State.sliceTook_keeps (hw.mono rfl) (State.upset_keeps (hw.mono rfl) (State.countMsg_keeps (hw.mono rfl) h_s))) (hw.mono rfl))) (Keeps.ite (State.upset_keeps (hw.mono rfl) (State.countMsg_keeps (hw.mono rfl) h_s)) (Keeps.ite (State.refuseWm_keeps (hw.mono rfl) (State.upset_keeps (hw.mono rfl) (State.countMsg_keeps (hw.mono rfl) h_s))) (Keeps.ite (State.denyReply_keeps (hw.mono rfl) (State.sliceTook_keeps (hw.mono rfl) (State.upset_keeps (hw.mono rfl) (State.countMsg_keeps (hw.mono rfl) h_s)))) (Keeps.ite (State.request_keeps (hw.mono rfl) (State.upset_keeps (hw.mono rfl) (State.countMsg_keeps (hw.mono rfl) h_s))) (Keeps.ite (State.evc_keeps (hw.mono rfl) (State.upset_keeps (hw.mono rfl) (State.countMsg_keeps (hw.mono rfl) h_s))) (State.writeBack_keeps (hw.mono rfl) (State.upset_keeps (hw.mono rfl) (State.countMsg_keeps (hw.mono rfl) h_s)))))))))

theorem execRds_keeps {W : Nat} {z : State} {m : Msg} {up : Upset} {s : State} (hw : Within 0x10c87aa81208a602 W) (h_s : Keeps W z s) : KeepsOut W z (execRds m up s) := by
  unfold execRds
  (try dsimp only)
  exact (KeepsOut.onUnit (State.atSlice_keeps (hw.mono rfl) h_s))

theorem execRdown_keeps {W : Nat} {z : State} {m : Msg} {up : Upset} {s : State} (hw : Within 0x10c87aa81208a602 W) (h_s : Keeps W z s) : KeepsOut W z (execRdown m up s) := by
  unfold execRdown
  (try dsimp only)
  exact (KeepsOut.onUnit (State.atSlice_keeps (hw.mono rfl) h_s))

theorem execUpgr_keeps {W : Nat} {z : State} {m : Msg} {up : Upset} {s : State} (hw : Within 0x10c87aa81208a602 W) (h_s : Keeps W z s) : KeepsOut W z (execUpgr m up s) := by
  unfold execUpgr
  (try dsimp only)
  exact (KeepsOut.onUnit (State.atSlice_keeps (hw.mono rfl) h_s))

theorem execRdcur_keeps {W : Nat} {z : State} {m : Msg} {up : Upset} {s : State} (hw : Within 0x10c87aa81208a602 W) (h_s : Keeps W z s) : KeepsOut W z (execRdcur m up s) := by
  unfold execRdcur
  (try dsimp only)
  exact (KeepsOut.onUnit (State.atSlice_keeps (hw.mono rfl) h_s))

theorem execWrfull_keeps {W : Nat} {z : State} {m : Msg} {up : Upset} {s : State} (hw : Within 0x10c87aa81208a602 W) (h_s : Keeps W z s) : KeepsOut W z (execWrfull m up s) := by
  unfold execWrfull
  (try dsimp only)
  exact (KeepsOut.onUnit (State.atSlice_keeps (hw.mono rfl) h_s))

theorem execWrpart_keeps {W : Nat} {z : State} {m : Msg} {up : Upset} {s : State} (hw : Within 0x10c87aa81208a602 W) (h_s : Keeps W z s) : KeepsOut W z (execWrpart m up s) := by
  unfold execWrpart
  (try dsimp only)
  exact (KeepsOut.onUnit (State.atSlice_keeps (hw.mono rfl) h_s))

theorem execWbI_keeps {W : Nat} {z : State} {m : Msg} {up : Upset} {s : State} (hw : Within 0x10c87aa81208a602 W) (h_s : Keeps W z s) : KeepsOut W z (execWbI m up s) := by
  unfold execWbI
  (try dsimp only)
  exact (KeepsOut.onUnit (State.atSlice_keeps (hw.mono rfl) h_s))

theorem execWbS_keeps {W : Nat} {z : State} {m : Msg} {up : Upset} {s : State} (hw : Within 0x10c87aa81208a602 W) (h_s : Keeps W z s) : KeepsOut W z (execWbS m up s) := by
  unfold execWbS
  (try dsimp only)
  exact (KeepsOut.onUnit (State.atSlice_keeps (hw.mono rfl) h_s))

theorem execWbE_keeps {W : Nat} {z : State} {m : Msg} {up : Upset} {s : State} (hw : Within 0x10c87aa81208a602 W) (h_s : Keeps W z s) : KeepsOut W z (execWbE m up s) := by
  unfold execWbE
  (try dsimp only)
  exact (KeepsOut.onUnit (State.atSlice_keeps (hw.mono rfl) h_s))

theorem execEvc_keeps {W : Nat} {z : State} {m : Msg} {up : Upset} {s : State} (hw : Within 0x10c87aa81208a602 W) (h_s : Keeps W z s) : KeepsOut W z (execEvc m up s) := by
  unfold execEvc
  (try dsimp only)
  exact (KeepsOut.onUnit (State.atSlice_keeps (hw.mono rfl) h_s))

theorem State.snoopResponse_keeps {W : Nat} {z : State} {s : State} {l : ℕ} {a : ℕ} {st : ℕ} {data : Option (ℕ × Bool)} (hw : Within 0x108872a81208a602 W) (h_s : Keeps W z s) : Keeps W z (State.snoopResponse s l a st data) := by
  unfold State.snoopResponse
  (try dsimp only)
  exact (by split <;> [(exact (State.inc_keeps (hw.mono rfl) h_s (hw.mono rfl))); (exact (Keeps.ite (State.inc_keeps (hw.mono rfl) h_s (hw.mono rfl)) (State.advance_keeps (hw.mono rfl) (State.modTxn_keeps (hw.mono rfl) (Keeps.ite (State.inc_keeps (hw.mono rfl) h_s (hw.mono rfl)) h_s)))))])

theorem State.poolData_keeps {W : Nat} {z : State} {s : State} {l : ℕ} {data : ℕ} {poison : Bool} (hw : Within 0x108872a81208a602 W) (h_s : Keeps W z s) : Keeps W z (State.poolData s l data poison) := by
  unfold State.poolData
  (try dsimp only)
  exact (by split <;> [(exact h_s); (exact (Keeps.ite (State.settleTxn_keeps (hw.mono rfl) (State.modTxn_keeps (hw.mono rfl) h_s)) (Keeps.ite (State.advance_keeps (hw.mono rfl) (State.modTxn_keeps (hw.mono rfl) h_s)) h_s)))])

theorem State.poolWritten_keeps {W : Nat} {z : State} {s : State} {l : ℕ} {ok : Bool} (hw : Within 0x108852a81208a602 W) (h_s : Keeps W z s) : Keeps W z (State.poolWritten s l ok) := by
  unfold State.poolWritten
  (try dsimp only)
  exact (by split <;> [(exact (Keeps.ite h_s (State.writeFailed_keeps (hw.mono rfl) h_s))); (exact (by split <;> [(exact (Keeps.ite h_s (State.writeFailed_keeps (hw.mono rfl) h_s))); (exact (Keeps.ite (State.settleTxn_keeps (hw.mono rfl) (State.modTxn_keeps (hw.mono rfl) (Keeps.ite h_s (State.writeFailed_keeps (hw.mono rfl) h_s)))) (Keeps.ite (State.endRow_keeps (hw.mono rfl) (State.when_keeps (State.when_keeps (by split <;> [(exact (State.respond_keeps (hw.mono rfl) (State.modTxn_keeps (hw.mono rfl) (Keeps.ite h_s (State.writeFailed_keeps (hw.mono rfl) h_s))))); (exact (State.modTxn_keeps (hw.mono rfl) (Keeps.ite h_s (State.writeFailed_keeps (hw.mono rfl) h_s))))]) (fun _ h1 => (State.freeCell_keeps (hw.mono rfl) h1))) (fun _ h2 => (State.modTxn_keeps (hw.mono rfl) h2)))) (Keeps.ite (Keeps.ite (State.endRow_keeps (hw.mono rfl) (State.modTxn_keeps (hw.mono rfl) (State.when_keeps (by split <;> [(exact (State.respond_keeps (hw.mono rfl) (State.modTxn_keeps (hw.mono rfl) (Keeps.ite h_s (State.writeFailed_keeps (hw.mono rfl) h_s))))); (exact (State.modTxn_keeps (hw.mono rfl) (Keeps.ite h_s (State.writeFailed_keeps (hw.mono rfl) h_s))))]) (fun _ h3 => (State.freeCell_keeps (hw.mono rfl) h3))))) (State.modTxn_keeps (hw.mono rfl) (State.when_keeps (by split <;> [(exact (State.respond_keeps (hw.mono rfl) (State.modTxn_keeps (hw.mono rfl) (Keeps.ite h_s (State.writeFailed_keeps (hw.mono rfl) h_s))))); (exact (State.modTxn_keeps (hw.mono rfl) (Keeps.ite h_s (State.writeFailed_keeps (hw.mono rfl) h_s))))]) (fun _ h4 => (State.freeCell_keeps (hw.mono rfl) h4))))) (State.endRow_keeps (hw.mono rfl) (State.when_keeps (by split <;> [(exact (State.respond_keeps (hw.mono rfl) (State.modTxn_keeps (hw.mono rfl) (Keeps.ite h_s (State.writeFailed_keeps (hw.mono rfl) h_s))))); (exact (State.modTxn_keeps (hw.mono rfl) (Keeps.ite h_s (State.writeFailed_keeps (hw.mono rfl) h_s))))]) (fun _ h5 => (State.freeCell_keeps (hw.mono rfl) h5))))))))]))])

theorem State.givePlaces_keeps {W : Nat} {z : State} {s : State} {r : ℕ} (hw : Within 0x80000 W) (h_s : Keeps W z s) : Keeps W z (State.givePlaces s r) := by
  unfold State.givePlaces
  (try dsimp only)
  exact (Keeps.set_wm (hw.mono rfl) h_s)

theorem execNakReceived_keeps {W : Nat} {z : State} {r : ℕ} {s : State} (hw : Within 0x80000 W) (h_s : Keeps W z s) : KeepsOut W z (execNakReceived r s) := by
  unfold execNakReceived
  (try dsimp only)
  exact (KeepsOut.onUnit (State.givePlaces_keeps (hw.mono rfl) (Keeps.set_wm (hw.mono rfl) h_s)))

theorem execNakRetry_keeps {W : Nat} {z : State} {r : ℕ} {s : State} (hw : Within 0x108850a81208a602 W) (h_s : Keeps W z s) : KeepsOut W z (execNakRetry r s) := by
  unfold execNakRetry
  (try dsimp only)
  exact (KeepsOut.onUnit (by split <;> [(exact h_s); (exact (Keeps.ite (State.toHome_keeps (hw.mono rfl) (State.givePlaces_keeps (hw.mono rfl) (Keeps.set_wm (hw.mono rfl) h_s))) (State.injectTo_keeps (hw.mono rfl) (State.givePlaces_keeps (hw.mono rfl) (Keeps.set_wm (hw.mono rfl) h_s)))))]))

theorem execReservationExpire_keeps {W : Nat} {z : State} {line : ℕ} {s : State} (hw : Within 0x20000080000 W) (h_s : Keeps W z s) : KeepsOut W z (execReservationExpire line s) := by
  unfold execReservationExpire
  (try dsimp only)
  exact (KeepsOut.onUnit (by split <;> [(exact h_s); (exact (Keeps.ite h_s (State.inc_keeps (hw.mono rfl) (State.setRsv_keeps (hw.mono rfl) h_s) (hw.mono rfl))))]))

theorem State.setDown_keeps {W : Nat} {z : State} {s : State} {a : ℕ} {b : Bool} (hw : Within 0x20000000000 W) (h_s : Keeps W z s) : Keeps W z (State.setDown s a b) := by
  unfold State.setDown
  (try dsimp only)
  exact (State.setBit_keeps (hw.mono rfl) h_s (hw.mono rfl))

theorem State.agentLost_keeps {W : Nat} {z : State} {s : State} {a : ℕ} (hw : Within 0x108872a81208a602 W) (h_s : Keeps W z s) : Keeps W z (State.agentLost s a) := by
  unfold State.agentLost
  (try dsimp only)
  exact (State.each_keeps (State.setDown_keeps (hw.mono rfl) h_s) (fun _ h1 _ => (State.closeSnoop_keeps (hw.mono rfl) h1)))

theorem State.purgeTxn_keeps {W : Nat} {z : State} {s : State} {a : ℕ} {l : ℕ} (hw : Within 0x108872a81208a602 W) (h_s : Keeps W z s) : Keeps W z (State.purgeTxn s a l) := by
  unfold State.purgeTxn
  (try dsimp only)
  exact (by split <;> [(exact h_s); (exact (Keeps.ite (State.settleTxn_keeps (hw.mono rfl) (State.writeEntry_keeps (hw.mono rfl) (Keeps.ite (Keeps.ite (State.modTxn_keeps (hw.mono rfl) (State.writeOut_keeps (hw.mono rfl) (State.lostLine_keeps (hw.mono rfl) (State.modTxn_keeps (hw.mono rfl) h_s)))) (State.writeOut_keeps (hw.mono rfl) (State.lostLine_keeps (hw.mono rfl) (State.modTxn_keeps (hw.mono rfl) h_s)))) (State.modTxn_keeps (hw.mono rfl) h_s)))) (Keeps.ite (Keeps.ite (State.modTxn_keeps (hw.mono rfl) (State.writeOut_keeps (hw.mono rfl) (State.lostLine_keeps (hw.mono rfl) (State.modTxn_keeps (hw.mono rfl) h_s)))) (State.writeOut_keeps (hw.mono rfl) (State.lostLine_keeps (hw.mono rfl) (State.modTxn_keeps (hw.mono rfl) h_s)))) (State.modTxn_keeps (hw.mono rfl) h_s))))])

theorem State.purgeWay_keeps {W : Nat} {z : State} {s : State} {a : ℕ} {k : ℕ} (hw : Within 0x108872a81208a602 W) (h_s : Keeps W z s) : Keeps W z (State.purgeWay s a k) := by
  unfold State.purgeWay
  (try dsimp only)
  exact (Keeps.ite h_s (Keeps.ite (State.writeOut_keeps (hw.mono rfl) (State.lostLine_keeps (hw.mono rfl) (State.setFentry_keeps (hw.mono rfl) h_s))) (State.setFentry_keeps (hw.mono rfl) h_s)))

theorem State.sweepRead_keeps {W : Nat} {z : State} {s : State} (hw : Within 0x10887aa81208a602 W) (h_s : Keeps W z s) : Keeps W z (State.sweepRead s) := by
  unfold State.sweepRead
  (try dsimp only)
  exact (State.each_keeps (Keeps.set_wm (hw.mono rfl) (State.each_keeps (Keeps.set_wm (hw.mono rfl) h_s) (fun _ h1 _ => (State.readWay_keeps (hw.mono rfl) h1)))) (fun _ h2 _ => (State.readWay_keeps (hw.mono rfl) h2)))

theorem State.purge_keeps {W : Nat} {z : State} {s : State} {a : ℕ} (hw : Within 0x10887aa81208a602 W) (h_s : Keeps W z s) : Keeps W z (State.purge s a) := by
  unfold State.purge
  (try dsimp only)
  exact (State.each_keeps (State.each_keeps (State.sweepRead_keeps (hw.mono rfl) h_s) (fun _ h1 _ => (State.purgeTxn_keeps (hw.mono rfl) h1))) (fun _ h2 _ => (Keeps.ite h2 (State.purgeWay_keeps (hw.mono rfl) h2))))

theorem State.rowLater_keeps {W : Nat} {z : State} {s : State} {l : ℕ} {req : ℕ} (hw : Within 0x80000 W) (h_s : Keeps W z s) : Keeps W z (State.rowLater s l req) := by
  unfold State.rowLater
  (try dsimp only)
  exact (Keeps.ite h_s (Keeps.set_wm (hw.mono rfl) h_s))

theorem State.recallWhere_keeps {W : Nat} {z : State} {s : State} {ws : List ℕ} {p : ℕ → Bool} (hw : Within 0x10887aa81208a602 W) (h_s : Keeps W z s) : Keeps W z (State.recallWhere s ws p) := by
  unfold State.recallWhere
  (try dsimp only)
  exact (State.each_keeps (State.sweepRead_keeps (hw.mono rfl) h_s) (fun _ h1 _ => (Keeps.ite h1 (Keeps.ite (State.rowLater_keeps (hw.mono rfl) h1) (State.recallLine_keeps (hw.mono rfl) h1)))))

end Sys2Proof.Machine
end

