-- ==== Sys2Proof/Laws/KeepsD.lean ====
section
/-! SUPPORT. What every operation keeps, for the operations of WmCtl, Enq, Ser, Leat, Lanes, Egress, Port: the queue, the canonical form of the register store, and
what lies outside the parts it may change (`Keeps`, `KeepsOut`, `KeepsOpt`). -/

namespace Sys2Proof.Machine

/-! ### WmCtl -/

theorem State.proxySnoop_keeps {W : Nat} {z : State} {s : State} {l : ℕ} {m : Msg} (hw : Within 0x108872a81208a602 W) (h_s : Keeps W z s) : Keeps W z (State.proxySnoop s l m) := by
  unfold State.proxySnoop
  (try dsimp only)
  exact (Keeps.ite (State.snoopAnswer_keeps (hw.mono rfl) h_s) (Keeps.ite (Keeps.set_wm (hw.mono rfl) h_s) (State.openTxn_keeps (hw.mono rfl) h_s)))

theorem State.homeSnoop_keeps {W : Nat} {z : State} {s : State} {l : ℕ} {m : Msg} (hw : Within 0x10c872a81208a602 W) (h_s : Keeps W z s) : Keeps W z (State.homeSnoop s l m) := by
  unfold State.homeSnoop
  (try dsimp only)
  exact (by split <;> [(exact (State.proxySnoop_keeps (hw.mono rfl) (State.sliceTook_keeps (hw.mono rfl) h_s))); (exact (Keeps.ite (Keeps.set_wm (hw.mono rfl) (State.sliceTook_keeps (hw.mono rfl) h_s)) (Keeps.ite (State.proxySnoop_keeps (hw.mono rfl) (State.sliceTook_keeps (hw.mono rfl) h_s)) (Keeps.ite (State.settleTxn_keeps (hw.mono rfl) (State.proxySnoop_keeps (hw.mono rfl) (State.setTxn_keeps (hw.mono rfl) (Keeps.set_wm (hw.mono rfl) (State.sliceTook_keeps (hw.mono rfl) h_s))))) (Keeps.set_wm (hw.mono rfl) (State.sliceTook_keeps (hw.mono rfl) h_s))))))])

theorem State.ageLine_keeps {W : Nat} {z : State} {s : State} {l : ℕ} (hw : Within 0x108872a81208a602 W) (h_s : Keeps W z s) : Keeps W z (State.ageLine s l) := by
  unfold State.ageLine
  (try dsimp only)
  exact (State.openTxn_keeps (hw.mono rfl) h_s)

theorem State.rowRetry_keeps {W : Nat} {z : State} {s : State} {l : ℕ} {req : ℕ} (hw : Within 0x108872a81208a602 W) (h_s : Keeps W z s) : Keeps W z (State.rowRetry s l req) := by
  unfold State.rowRetry
  (try dsimp only)
  exact (Keeps.ite (Keeps.ite h_s (Keeps.ite (State.ageLine_keeps (hw.mono rfl) h_s) (State.rowLater_keeps (hw.mono rfl) h_s))) (by split <;> [(exact (Keeps.ite (State.rowLater_keeps (hw.mono rfl) h_s) (State.recallLine_keeps (hw.mono rfl) h_s))); (exact (State.rowLater_keeps (hw.mono rfl) h_s)); (exact h_s)]))

theorem State.runDeferred_keeps {W : Nat} {z : State} {s : State} (hw : Within 0x10c87aa81208a602 W) (h_s : Keeps W z s) : Keeps W z (State.runDeferred s) := by
  unfold State.runDeferred
  (try dsimp only)
  exact (State.each_keeps (Keeps.set_wm (hw.mono rfl) (State.each_keeps (Keeps.set_wm (hw.mono rfl) (State.each_keeps (State.each_keeps h_s (fun _ h1 _ => (State.retireWay_keeps (hw.mono rfl) h1))) (fun _ h2 _ => (State.advance_keeps (hw.mono rfl) h2)))) (fun _ h3 _ => (State.homeSnoop_keeps (hw.mono rfl) h3)))) (fun _ h4 _ => (State.rowRetry_keeps (hw.mono rfl) h4)))

theorem execAgentPurgeDone_keeps {W : Nat} {z : State} {a : ℕ} {s : State} (hw : Within 0x10c87aa81208a602 W) (h_s : Keeps W z s) : KeepsOut W z (execAgentPurgeDone a s) := by
  unfold execAgentPurgeDone
  (try dsimp only)
  exact (KeepsOut.onUnit (Keeps.ite (State.runDeferred_keeps (hw.mono rfl) (Keeps.ite (State.setDown_keeps (hw.mono rfl) (State.purge_keeps (hw.mono rfl) h_s)) (Keeps.set_wm (hw.mono rfl) (State.recallWhere_keeps (hw.mono rfl) (State.setDown_keeps (hw.mono rfl) (State.purge_keeps (hw.mono rfl) h_s)))))) h_s))

theorem execSnoopResponse_keeps {W : Nat} {z : State} {m : Msg} {s : State} (hw : Within 0x10c87aa81208a602 W) (h_s : Keeps W z s) : KeepsOut W z (execSnoopResponse m s) := by
  unfold execSnoopResponse
  (try dsimp only)
  exact (KeepsOut.onUnit (State.runDeferred_keeps (hw.mono rfl) (State.snoopResponse_keeps (hw.mono rfl) (State.sliceTook_keeps (hw.mono rfl) h_s))))

theorem execPoolReadData_keeps {W : Nat} {z : State} {line : ℕ} {data : ℕ} {poison : Bool} {s : State} (hw : Within 0x10c87aa81208a602 W) (h_s : Keeps W z s) : KeepsOut W z (execPoolReadData line data poison s) := by
  unfold execPoolReadData
  (try dsimp only)
  exact (KeepsOut.onUnit (State.runDeferred_keeps (hw.mono rfl) (State.poolData_keeps (hw.mono rfl) h_s)))

theorem execPoolWriteComplete_keeps {W : Nat} {z : State} {line : ℕ} {s : State} (hw : Within 0x10c87aa81208a602 W) (h_s : Keeps W z s) : KeepsOut W z (execPoolWriteComplete line s) := by
  unfold execPoolWriteComplete
  (try dsimp only)
  exact (KeepsOut.onUnit (State.runDeferred_keeps (hw.mono rfl) (State.poolWritten_keeps (hw.mono rfl) h_s)))

theorem execPoolAccessFail_keeps {W : Nat} {z : State} {line : ℕ} {write : Bool} {s : State} (hw : Within 0x10c87aa81208a602 W) (h_s : Keeps W z s) : KeepsOut W z (execPoolAccessFail line write s) := by
  unfold execPoolAccessFail
  (try dsimp only)
  exact (KeepsOut.onUnit (State.runDeferred_keeps (hw.mono rfl) (Keeps.ite (State.poolWritten_keeps (hw.mono rfl) h_s) (State.poolData_keeps (hw.mono rfl) h_s))))

theorem execHoldWindowEnd_keeps {W : Nat} {z : State} {line : ℕ} {agent : ℕ} {s : State} (hw : Within 0x10c87aa81208a602 W) (h_s : Keeps W z s) : KeepsOut W z (execHoldWindowEnd line agent s) := by
  unfold execHoldWindowEnd
  (try dsimp only)
  exact (KeepsOut.onUnit (State.runDeferred_keeps (hw.mono rfl) (State.settleTxn_keeps (hw.mono rfl) (State.modTxn_keeps (hw.mono rfl) h_s))))

theorem execSnoopTimeout_keeps {W : Nat} {z : State} {line : ℕ} {agent : ℕ} {s : State} (hw : Within 0x10c87aa81208a602 W) (h_s : Keeps W z s) : KeepsOut W z (execSnoopTimeout line agent s) := by
  unfold execSnoopTimeout
  (try dsimp only)
  exact (KeepsOut.onUnit (Keeps.ite (State.runDeferred_keeps (hw.mono rfl) (State.closeSnoop_keeps (hw.mono rfl) (State.pulse_keeps (hw.mono rfl) (State.inc_keeps (hw.mono rfl) (State.wr2_keeps (hw.mono rfl) (State.wrb_keeps (hw.mono rfl) (State.wr_keeps (State.wr_keeps h_s (hw.mono rfl)) (hw.mono rfl)) (hw.mono rfl)) (hw.mono rfl) (hw.mono rfl)) (hw.mono rfl))))) h_s))

theorem State.snoopCmd_keeps {W : Nat} {z : State} {s : State} {m : Msg} {code : ℕ} (hw : Within 0x10c87aa81208a602 W) (h_s : Keeps W z s) : Keeps W z (State.snoopCmd s m code) := by
  unfold State.snoopCmd
  (try dsimp only)
  exact (Keeps.ite (State.homeSnoop_keeps (hw.mono rfl) (State.upset_keeps (hw.mono rfl) h_s)) h_s)

theorem execSnpinv_keeps {W : Nat} {z : State} {m : Msg} {s : State} (hw : Within 0x10c87aa81208a602 W) (h_s : Keeps W z s) : KeepsOut W z (execSnpinv m s) := by
  unfold execSnpinv
  (try dsimp only)
  exact (KeepsOut.onUnit (State.snoopCmd_keeps (hw.mono rfl) h_s))

theorem execSnpdata_keeps {W : Nat} {z : State} {m : Msg} {s : State} (hw : Within 0x10c87aa81208a602 W) (h_s : Keeps W z s) : KeepsOut W z (execSnpdata m s) := by
  unfold execSnpdata
  (try dsimp only)
  exact (KeepsOut.onUnit (State.snoopCmd_keeps (hw.mono rfl) h_s))

theorem execSnpcur_keeps {W : Nat} {z : State} {m : Msg} {s : State} (hw : Within 0x10c87aa81208a602 W) (h_s : Keeps W z s) : KeepsOut W z (execSnpcur m s) := by
  unfold execSnpcur
  (try dsimp only)
  exact (KeepsOut.onUnit (State.snoopCmd_keeps (hw.mono rfl) h_s))

theorem execWmCmpReceive_keeps {W : Nat} {z : State} {m : Msg} {s : State} (hw : Within 0x10c87aa81208a602 W) (h_s : Keeps W z s) : KeepsOut W z (execWmCmpReceive m s) := by
  unfold execWmCmpReceive
  (try dsimp only)
  exact (KeepsOut.onUnit (by split <;> [(exact (Keeps.set_wm (hw.mono rfl) (State.sliceTook_keeps (hw.mono rfl) h_s))); (exact (by split <;> [(exact (State.sliceTook_keeps (hw.mono rfl) h_s)); (exact (Keeps.ite (State.runDeferred_keeps (hw.mono rfl) (State.advance_keeps (hw.mono rfl) (State.modTxn_keeps (hw.mono rfl) (State.sliceTook_keeps (hw.mono rfl) h_s)))) (State.runDeferred_keeps (hw.mono rfl) (State.poolWritten_keeps (hw.mono rfl) (State.sliceTook_keeps (hw.mono rfl) h_s)))))]))]))

theorem execWmNakReceive_keeps {W : Nat} {z : State} {m : Msg} {s : State} (hw : Within 0x10c810a01208a602 W) (h_s : Keeps W z s) : KeepsOut W z (execWmNakReceive m s) := by
  unfold execWmNakReceive
  (try dsimp only)
  exact (KeepsOut.onUnit (by split <;> [(exact (State.sliceTook_keeps (hw.mono rfl) h_s)); (exact (Keeps.set_wm (hw.mono rfl) (State.sliceTook_keeps (hw.mono rfl) h_s)))]))

theorem execWmRefuseReceive_keeps {W : Nat} {z : State} {m : Msg} {s : State} (hw : Within 0x10c87aa81208a602 W) (h_s : Keeps W z s) : KeepsOut W z (execWmRefuseReceive m s) := by
  unfold execWmRefuseReceive
  (try dsimp only)
  exact (KeepsOut.onUnit (by split <;> [(exact (Keeps.ite (State.runDeferred_keeps (hw.mono rfl) (State.endRow_keeps (hw.mono rfl) (State.modTxn_keeps (hw.mono rfl) (by split <;> [(exact (State.respond_keeps (hw.mono rfl) (State.sliceTook_keeps (hw.mono rfl) h_s))); (exact (State.sliceTook_keeps (hw.mono rfl) h_s))])))) (State.sliceTook_keeps (hw.mono rfl) h_s))); (exact (State.sliceTook_keeps (hw.mono rfl) h_s))]))

theorem execRegionEnable_keeps {W : Nat} {z : State} {n : ℕ} {val : ℕ} {s : State} (hw : Within 0x20000000200 W) (h_s : Keeps W z s) : KeepsOut W z (execRegionEnable n val s) := by
  unfold execRegionEnable
  (try dsimp only)
  exact (KeepsOut.onUnit (Keeps.ite h_s (Keeps.ite (State.cfgErr_keeps (hw.mono rfl) h_s) (State.wr_keeps (State.wrb_keeps (hw.mono rfl) (State.wr_keeps h_s (hw.mono rfl)) (hw.mono rfl)) (hw.mono rfl)))))

theorem execRegionRecall_keeps {W : Nat} {z : State} {n : ℕ} {val : ℕ} {s : State} (hw : Within 0x10887aa81208a602 W) (h_s : Keeps W z s) : KeepsOut W z (execRegionRecall n val s) := by
  unfold execRegionRecall
  (try dsimp only)
  exact (KeepsOut.onUnit (Keeps.ite h_s (Keeps.ite (State.cfgErr_keeps (hw.mono rfl) h_s) (Keeps.ite (State.wr_keeps h_s (hw.mono rfl)) (State.recallWhere_keeps (hw.mono rfl) (State.wr_keeps (State.wrb_keeps (hw.mono rfl) h_s (hw.mono rfl)) (hw.mono rfl)))))))

theorem execRegionRecallDone_keeps {W : Nat} {z : State} {n : ℕ} {s : State} (hw : Within 0x10887aa81208a602 W) (h_s : Keeps W z s) : KeepsOut W z (execRegionRecallDone n s) := by
  unfold execRegionRecallDone
  (try dsimp only)
  exact (KeepsOut.onUnit (Keeps.ite h_s (Keeps.ite (State.recallWhere_keeps (hw.mono rfl) h_s) (State.wr_keeps (State.recallWhere_keeps (hw.mono rfl) h_s) (hw.mono rfl)))))

theorem State.homeLost_keeps {W : Nat} {z : State} {s : State} {h : ℕ} (hw : Within 0x10c87aa81208a602 W) (h_s : Keeps W z s) : Keeps W z (State.homeLost s h) := by
  unfold State.homeLost
  (try dsimp only)
  exact (State.runDeferred_keeps (hw.mono rfl) (State.recallWhere_keeps (hw.mono rfl) (Keeps.set_wm (hw.mono rfl) (State.each_keeps h_s (fun _ h1 _ => (by split <;> [(exact (Keeps.ite (State.poolData_keeps (hw.mono rfl) h1) h1)); (exact h1)]))))))

theorem State.cellLost_keeps {W : Nat} {z : State} {s : State} {l : ℕ} (hw : Within 0x108872a81208a602 W) (h_s : Keeps W z s) : Keeps W z (State.cellLost s l) := by
  unfold State.cellLost
  (try dsimp only)
  exact (Keeps.ite h_s (State.putLine_keeps (hw.mono rfl) (State.writeOut_keeps (hw.mono rfl) (State.freeCell_keeps (hw.mono rfl) (State.lostLine_keeps (hw.mono rfl) h_s)))))

theorem execOAgeSweep_keeps {W : Nat} {z : State} {bad : List ℕ} {s : State} (hw : Within 0x108872a81208a602 W) (h_s : Keeps W z s) : KeepsOut W z (execOAgeSweep bad s) := by
  unfold execOAgeSweep
  (try dsimp only)
  exact (KeepsOut.next (State.each_keeps (State.each_keeps (Keeps.set_wm (hw.mono rfl) (State.each_keeps h_s (fun _ h1 _ => (State.cellLost_keeps (hw.mono rfl) h1)))) (fun _ h2 _ => (Keeps.ite (State.ageLine_keeps (hw.mono rfl) h2) h2))) (fun _ h3 _ => (by split <;> [(exact (Keeps.ite (State.modTxn_keeps (hw.mono rfl) (State.writeOut_keeps (hw.mono rfl) h3)) (State.writeOut_keeps (hw.mono rfl) h3))); (exact h3)]))))

theorem State.ageAll_keeps {W : Nat} {z : State} {s : State} (hw : Within 0x108872a81208a602 W) (h_s : Keeps W z s) : Keeps W z (State.ageAll s) := by
  unfold State.ageAll
  (try dsimp only)
  exact (State.each_keeps h_s (fun _ h1 _ => (State.rowRetry_keeps (hw.mono rfl) h1)))

theorem State.ttEnd_keeps {W : Nat} {z : State} {s : State} {r : ℕ} {row : ℕ} (hw : Within 0x100020001000000 W) (h_s : Keeps W z s) : Keeps W z (State.ttEnd s r row) := by
  unfold State.ttEnd
  (try dsimp only)
  exact (State.journal_keeps (hw.mono rfl) (State.wr_keeps (State.wr_keeps h_s (hw.mono rfl)) (hw.mono rfl)))

theorem execTableLoad_keeps {W : Nat} {z : State} {val : ℕ} {sigOk : Bool} {s : State} (hw : Within 0x100022001080000 W) (h_s : Keeps W z s) : KeepsOut W z (execTableLoad val sigOk s) := by
  unfold execTableLoad
  (try dsimp only)
  exact (KeepsOut.onUnit (Keeps.ite h_s (Keeps.ite h_s (Keeps.ite (State.ttEnd_keeps (hw.mono rfl) h_s) (by split <;> [(exact (State.ttEnd_keeps (hw.mono rfl) h_s)); (exact (State.wrb_keeps (hw.mono rfl) (State.wr_keeps (State.wr_keeps (Keeps.set_wm (hw.mono rfl) h_s) (hw.mono rfl)) (hw.mono rfl)) (hw.mono rfl)))])))))

theorem State.ttRelease_keeps {W : Nat} {z : State} {s : State} (hw : Within 0x108810a01208a602 W) (h_s : Keeps W z s) : Keeps W z (State.ttRelease s) := by
  unfold State.ttRelease
  (try dsimp only)
  exact (State.drainAll_keeps (hw.mono rfl) (State.retCredits_keeps (hw.mono rfl) (State.wrb_keeps (hw.mono rfl) (Keeps.set_wm (hw.mono rfl) h_s) (hw.mono rfl))))

theorem execTableSwitch_keeps {W : Nat} {z : State} {s : State} (hw : Within 0x118812a01308a602 W) (h_s : Keeps W z s) : KeepsOut W z (execTableSwitch s) := by
  unfold execTableSwitch
  (try dsimp only)
  exact (KeepsOut.next (by split <;> [(exact (Keeps.ite (State.ttRelease_keeps (hw.mono rfl) (State.wr_keeps (State.wr_keeps (State.ttEnd_keeps (hw.mono rfl) (Keeps.set_wm (hw.mono rfl) h_s)) (hw.mono rfl)) (hw.mono rfl))) h_s)); (exact h_s)]))

theorem execTableLoadDrainTimeout_keeps {W : Nat} {z : State} {s : State} (hw : Within 0x118812a01308a602 W) (h_s : Keeps W z s) : KeepsOut W z (execTableLoadDrainTimeout s) := by
  unfold execTableLoadDrainTimeout
  (try dsimp only)
  exact (KeepsOut.next (Keeps.ite (State.ttRelease_keeps (hw.mono rfl) (State.ttEnd_keeps (hw.mono rfl) h_s)) h_s))

theorem execTableCrcCheck_keeps {W : Nat} {z : State} {tab : ℕ} {s : State} (hw : Within 0x20000080200 W) (h_s : Keeps W z s) : KeepsOut W z (execTableCrcCheck tab s) := by
  unfold execTableCrcCheck
  (try dsimp only)
  exact (KeepsOut.onUnit (State.tabRead_keeps (hw.mono rfl) h_s))

theorem State.scrubNext_keeps {W : Nat} {z : State} {s : State} {sl : ℕ} (hw : Within 0x80000080000 W) (h_s : Keeps W z s) : Keeps W z (State.scrubNext s sl) := by
  unfold State.scrubNext
  (try dsimp only)
  exact (Keeps.ite (State.inc_keeps (hw.mono rfl) (Keeps.set_wm (hw.mono rfl) h_s) (hw.mono rfl)) (Keeps.set_wm (hw.mono rfl) h_s))

theorem execScrubSet_keeps {W : Nat} {z : State} {sl : ℕ} {up : Upset} {s : State} (hw : Within 0x10887aa81208a602 W) (h_s : Keeps W z s) : KeepsOut W z (execScrubSet sl up s) := by
  unfold execScrubSet
  (try dsimp only)
  exact (KeepsOut.onUnit (Keeps.ite h_s (State.scrubNext_keeps (hw.mono rfl) (State.upset_keeps (hw.mono rfl) h_s))))

theorem execSnfDiagRead_keeps {W : Nat} {z : State} {val : ℕ} {err : ℕ} {s : State} (hw : Within 0x10887aa81208a602 W) (h_s : Keeps W z s) : KeepsOut W z (execSnfDiagRead val err s) := by
  unfold execSnfDiagRead
  (try dsimp only)
  exact (KeepsOut.onUnit (Keeps.ite h_s (Keeps.ite (State.wr_keeps (State.wr_keeps (State.wr_keeps h_s (hw.mono rfl)) (hw.mono rfl)) (hw.mono rfl)) (State.readWay_keeps (hw.mono rfl) (Keeps.set_wm (hw.mono rfl) (State.wrb_keeps (hw.mono rfl) (State.wrb_keeps (hw.mono rfl) (State.wrb_keeps (hw.mono rfl) (State.each_keeps (State.wr_keeps (State.wr_keeps (State.wr_keeps h_s (hw.mono rfl)) (hw.mono rfl)) (hw.mono rfl)) (fun _ h1 _ => (State.wr_keeps h1 (hw.mono rfl)))) (hw.mono rfl)) (hw.mono rfl)) (hw.mono rfl)))))))

theorem State.wmReset_keeps {W : Nat} {z : State} {s : State} {cold : Bool} (hw : Within 0xa0000080000 W) (h_s : Keeps W z s) : Keeps W z (State.wmReset s cold) := by
  unfold State.wmReset
  (try dsimp only)
  exact (Keeps.ite (State.each_keeps (State.each_keeps (Keeps.ite (Keeps.set_wm (hw.mono rfl) h_s) (Keeps.set_wm (hw.mono rfl) h_s)) (fun _ h1 _ => (State.wr_keeps h1 (hw.mono rfl)))) (fun _ h2 _ => (State.clearSuspect_keeps (hw.mono rfl) h2))) (State.wr_keeps (State.each_keeps (State.each_keeps (Keeps.ite (Keeps.set_wm (hw.mono rfl) h_s) (Keeps.set_wm (hw.mono rfl) h_s)) (fun _ h3 _ => (State.wr_keeps h3 (hw.mono rfl)))) (fun _ h4 _ => (State.clearSuspect_keeps (hw.mono rfl) h4))) (hw.mono rfl)))

/-! ### Enq -/

theorem State.setRxq_keeps {W : Nat} {z : State} {s : State} {k : ℕ} {v : ℕ} {q : List RxUnit} (hw : Within 0x2000 W) (h_s : Keeps W z s) : Keeps W z (State.setRxq s k v q) := by
  unfold State.setRxq
  (try dsimp only)
  exact (State.lkMod_keeps (hw.mono rfl) h_s)

theorem State.creditNow_keeps {W : Nat} {z : State} {s : State} {x : ℕ} {n : ℕ} {m : Msg} (hw : Within 0x2002 W) (h_s : Keeps W z s) : Keeps W z (State.creditNow s x n m) := by
  unfold State.creditNow
  (try dsimp only)
  exact (Keeps.ite h_s (State.retCredit_keeps (hw.mono rfl) h_s))

theorem State.admitMsg_keeps {W : Nat} {z : State} {s : State} {x : ℕ} {m : Msg} {whole : Bool} {egs : List ℕ} {credits : ℕ} (hw : Within 0x108110a01201a602 W) (h_s : Keeps W z s) : Keeps W z (State.admitMsg s x m whole egs credits) := by
  unfold State.admitMsg
  (try dsimp only)
  exact (Keeps.ite (State.each_keeps (State.mirrorIn_keeps (hw.mono rfl) (State.store_keeps (hw.mono rfl) (State.countMsg_keeps (hw.mono rfl) h_s))) (fun _ h1 _ => (State.enqueue_keeps (hw.mono rfl) (State.when_keeps h1 (fun _ h2 => (State.countMsg_keeps (hw.mono rfl) h2)))))) (Keeps.ite (State.setHeld_keeps (hw.mono rfl) (State.mirrorIn_keeps (hw.mono rfl) (State.store_keeps (hw.mono rfl) (Keeps.ite (State.countMsg_keeps (hw.mono rfl) (State.countMsg_keeps (hw.mono rfl) h_s)) (Keeps.ite (State.countMsg_keeps (hw.mono rfl) (State.countMsg_keeps (hw.mono rfl) h_s)) (State.countMsg_keeps (hw.mono rfl) h_s)))))) (by split <;> [(exact (State.release_keeps (hw.mono rfl) (State.mirrorIn_keeps (hw.mono rfl) (State.store_keeps (hw.mono rfl) (Keeps.ite (State.countMsg_keeps (hw.mono rfl) (State.countMsg_keeps (hw.mono rfl) h_s)) (Keeps.ite (State.countMsg_keeps (hw.mono rfl) (State.countMsg_keeps (hw.mono rfl) h_s)) (State.countMsg_keeps (hw.mono rfl) h_s))))))); (exact (State.mirrorIn_keeps (hw.mono rfl) (State.store_keeps (hw.mono rfl) (Keeps.ite (State.countMsg_keeps (hw.mono rfl) (State.countMsg_keeps (hw.mono rfl) h_s)) (Keeps.ite (State.countMsg_keeps (hw.mono rfl) (State.countMsg_keeps (hw.mono rfl) h_s)) (State.countMsg_keeps (hw.mono rfl) h_s))))))])))

theorem State.enter_keeps {W : Nat} {z : State} {s : State} {x : ℕ} {m : Msg} {whole : Bool} {credits : ℕ} (hw : Within 0x108150a81201a602 W) (h_s : Keeps W z s) : Keeps W z (State.enter s x m whole credits) := by
  unfold State.enter
  (try dsimp only)
  exact (by split <;> [(exact (Keeps.ite (State.reply_keeps (hw.mono rfl) (State.creditNow_keeps (hw.mono rfl) h_s)) (Keeps.ite (State.noRoute_keeps (hw.mono rfl) (State.creditNow_keeps (hw.mono rfl) h_s)) (by split <;> [(exact (State.inc_keeps (hw.mono rfl) (State.creditNow_keeps (hw.mono rfl) h_s) (hw.mono rfl))); (exact (Keeps.ite (State.creditNow_keeps (hw.mono rfl) (State.each_keeps h_s (fun _ h1 _ => (State.undeliverable_keeps (hw.mono rfl) h1)))) (State.admitMsg_keeps (hw.mono rfl) (State.each_keeps h_s (fun _ h2 _ => (State.undeliverable_keeps (hw.mono rfl) h2))))))])))); (exact (by split <;> [(exact (State.unrouted_keeps (hw.mono rfl) (State.creditNow_keeps (hw.mono rfl) h_s))); (exact (Keeps.ite (State.lostAtPort_keeps (hw.mono rfl) (State.creditNow_keeps (hw.mono rfl) h_s)) (State.admitMsg_keeps (hw.mono rfl) h_s)))]))])

theorem State.judged_keeps {W : Nat} {z : State} {s : State} {x : ℕ} {m : Msg} {v : Verdict} {whole : Bool} {credits : ℕ} (hw : Within 0x108170a81201a602 W) (h_s : Keeps W z s) : Keeps W z (State.judged s x m v whole credits) := by
  unfold State.judged
  (try dsimp only)
  exact (by split <;> [(exact (State.enter_keeps (hw.mono rfl) h_s)); (exact (State.xltDeny_keeps (hw.mono rfl) (State.creditNow_keeps (hw.mono rfl) h_s))); (exact (State.lostAtLink_keeps (hw.mono rfl) (State.creditNow_keeps (hw.mono rfl) h_s)))])

theorem State.winSend_keeps {W : Nat} {z : State} {s : State} {x : ℕ} {c : Msg} {v : Verdict} {whole : Bool} {credits : ℕ} (hw : Within 0x108170a81201a602 W) (h_s : Keeps W z s) : Keeps W z (State.winSend s x c v whole credits) := by
  unfold State.winSend
  (try dsimp only)
  exact (by split <;> [(exact (Keeps.ite (Keeps.ite (State.reply_keeps (hw.mono rfl) (State.creditNow_keeps (hw.mono rfl) h_s)) (State.each_keeps h_s (fun _ h1 _ => (State.judged_keeps (hw.mono rfl) h1)))) (State.judged_keeps (hw.mono rfl) h_s))); (exact (State.judged_keeps (hw.mono rfl) h_s))])

theorem State.byAperture_keeps {W : Nat} {z : State} {s : State} {x : ℕ} {p : ℕ} {m : Msg} {whole : Bool} {credits : ℕ} (hw : Within 0x108170a81201a602 W) (h_s : Keeps W z s) : Keeps W z (State.byAperture s x p m whole credits) := by
  unfold State.byAperture
  (try dsimp only)
  exact (State.each_keeps h_s (fun _ h1 _ => (State.winSend_keeps (hw.mono rfl) h1)))

theorem State.passBack_keeps {W : Nat} {z : State} {s : State} {x : ℕ} {m : Msg} {whole : Bool} {credits : ℕ} (hw : Within 0x108150a81201a602 W) (h_s : Keeps W z s) : Keeps W z (State.passBack s x m whole credits) := by
  unfold State.passBack
  (try dsimp only)
  exact (by split <;> [(exact (State.enter_keeps (hw.mono rfl) h_s)); (exact (Keeps.ite (State.creditNow_keeps (hw.mono rfl) (State.askedDone_keeps (hw.mono rfl) h_s)) (State.enter_keeps (hw.mono rfl) (State.when_keeps h_s (fun _ h1 => (State.askedDone_keeps (hw.mono rfl) h1))))))])

theorem State.answered_keeps {W : Nat} {z : State} {s : State} {x : ℕ} {m : Msg} (hw : Within 0x8000 W) (h_s : Keeps W z s) : Keeps W z (State.answered s x m) := by
  unfold State.answered
  (try dsimp only)
  exact (by split <;> [(exact (State.askedDone_keeps (hw.mono rfl) (by split <;> [(exact (Keeps.set_swc (hw.mono rfl) h_s)); (exact h_s)]))); (exact (by split <;> [(exact (Keeps.set_swc (hw.mono rfl) h_s)); (exact h_s)]))])

theorem State.enterResponse_keeps {W : Nat} {z : State} {s : State} {x : ℕ} {m : Msg} {whole : Bool} {credits : ℕ} (hw : Within 0x108150a81201a602 W) (h_s : Keeps W z s) : Keeps W z (State.enterResponse s x m whole credits) := by
  unfold State.enterResponse
  (try dsimp only)
  exact (by split <;> [(exact (by split <;> [(exact (State.creditNow_keeps (hw.mono rfl) (Keeps.ite (Keeps.set_swc (hw.mono rfl) h_s) h_s))); (exact (State.passBack_keeps (hw.mono rfl) (Keeps.ite (Keeps.set_swc (hw.mono rfl) h_s) h_s)))])); (exact (by split <;> [(exact (State.creditNow_keeps (hw.mono rfl) h_s)); (exact (State.creditNow_keeps (hw.mono rfl) h_s)); (exact (State.creditNow_keeps (hw.mono rfl) h_s)); (exact (State.passBack_keeps (hw.mono rfl) h_s))]))])

theorem State.enterAt_keeps {W : Nat} {z : State} {s : State} {x : ℕ} {m : Msg} {whole : Bool} {credits : ℕ} (hw : Within 0x108170a81201a602 W) (h_s : Keeps W z s) : Keeps W z (State.enterAt s x m whole credits) := by
  unfold State.enterAt
  (try dsimp only)
  exact (Keeps.ite (State.enterResponse_keeps (hw.mono rfl) (State.countMsg_keeps (hw.mono rfl) h_s)) (Keeps.ite (State.enter_keeps (hw.mono rfl) (State.countMsg_keeps (hw.mono rfl) h_s)) (Keeps.ite (Keeps.ite (State.judged_keeps (hw.mono rfl) (State.peerAsks_keeps (hw.mono rfl) (State.countMsg_keeps (hw.mono rfl) h_s))) (Keeps.ite (State.noRoute_keeps (hw.mono rfl) (State.creditNow_keeps (hw.mono rfl) (State.peerAsks_keeps (hw.mono rfl) (State.countMsg_keeps (hw.mono rfl) h_s)))) (State.enter_keeps (hw.mono rfl) (State.peerAsks_keeps (hw.mono rfl) (State.countMsg_keeps (hw.mono rfl) h_s))))) (Keeps.ite (State.creditNow_keeps (hw.mono rfl) (State.wrb_keeps (hw.mono rfl) (State.countMsg_keeps (hw.mono rfl) h_s) (hw.mono rfl))) (Keeps.ite (State.reply_keeps (hw.mono rfl) (State.creditNow_keeps (hw.mono rfl) (State.countMsg_keeps (hw.mono rfl) h_s))) (by split <;> [(exact (by split <;> [(exact (State.judged_keeps (hw.mono rfl) (State.countMsg_keeps (hw.mono rfl) h_s))); (exact (State.judged_keeps (hw.mono rfl) (State.countMsg_keeps (hw.mono rfl) h_s)))])); (exact (by split <;> [(exact (Keeps.ite (State.enter_keeps (hw.mono rfl) (State.countMsg_keeps (hw.mono rfl) h_s)) (State.byAperture_keeps (hw.mono rfl) (State.countMsg_keeps (hw.mono rfl) h_s)))); (exact (State.noRoute_keeps (hw.mono rfl) (State.creditNow_keeps (hw.mono rfl) (State.countMsg_keeps (hw.mono rfl) h_s))))])); (exact (Keeps.ite (Keeps.ite (State.reply_keeps (hw.mono rfl) (State.creditNow_keeps (hw.mono rfl) (State.countMsg_keeps (hw.mono rfl) h_s))) (State.creditNow_keeps (hw.mono rfl) (State.countMsg_keeps (hw.mono rfl) h_s))) (Keeps.ite (State.enter_keeps (hw.mono rfl) (State.countMsg_keeps (hw.mono rfl) h_s)) (State.judged_keeps (hw.mono rfl) (State.countMsg_keeps (hw.mono rfl) h_s))))); (exact (State.enter_keeps (hw.mono rfl) (State.countMsg_keeps (hw.mono rfl) h_s)))]))))))

theorem State.nowWhole_keeps {W : Nat} {z : State} {s : State} {d : Stored} {poison : Bool} (hw : Within 0x108110201201a402 W) (h_s : Keeps W z s) : Keeps W z (State.nowWhole s d poison) := by
  unfold State.nowWhole
  (try dsimp only)
  exact (State.considerAll_keeps (hw.mono rfl) (State.storedMod_keeps (hw.mono rfl) (State.when_keeps h_s (fun _ h1 => (State.answered_keeps (hw.mono rfl) h1)))))

theorem State.noteCells_keeps {W : Nat} {z : State} {s : State} {x : ℕ} {here : ℕ} (hw : Within 0x8000 W) (h_s : Keeps W z s) : Keeps W z (State.noteCells s x here) := by
  unfold State.noteCells
  (try dsimp only)
  exact (by split <;> [(exact (State.storedMod_keeps (hw.mono rfl) h_s)); (exact h_s)])

theorem State.enqueueFrom_keeps {W : Nat} {z : State} {s : State} {x : ℕ} {sel : ℕ} {here : ℕ} {m : Msg} (hw : Within 0x108170a81201a602 W) (h_s : Keeps W z s) : Keeps W z (State.enqueueFrom s x sel here m) := by
  unfold State.enqueueFrom
  (try dsimp only)
  exact (Keeps.ite (by split <;> [(exact h_s); (exact (by split <;> [(exact (State.leatGrant_keeps (hw.mono rfl) (State.setRxq_keeps (hw.mono rfl) h_s))); (exact (State.enterAt_keeps (hw.mono rfl) (State.setRxq_keeps (hw.mono rfl) h_s)))]))]) (by split <;> [(exact (Keeps.ite (State.nowWhole_keeps (hw.mono rfl) h_s) (State.noteCells_keeps (hw.mono rfl) h_s))); (exact (Keeps.ite (State.noteCells_keeps (hw.mono rfl) (State.enterAt_keeps (hw.mono rfl) h_s)) h_s))]))

theorem execCoreMessageEnqueue_keeps {W : Nat} {z : State} {x : ℕ} {sel : ℕ} {here : ℕ} {m : Msg} {err : ℕ} {s : State} (hw : Within 0x108170a81203a602 W) (h_s : Keeps W z s) : KeepsOut W z (execCoreMessageEnqueue x sel here m err s) := by
  unfold execCoreMessageEnqueue
  (try dsimp only)
  exact (KeepsOut.onUnit (Keeps.ite (State.inc_keeps (hw.mono rfl) (by split <;> [(exact (State.mapEcc_keeps (hw.mono rfl) h_s)); (exact h_s)]) (hw.mono rfl)) (State.enqueueFrom_keeps (hw.mono rfl) (by split <;> [(exact (State.mapEcc_keeps (hw.mono rfl) h_s)); (exact h_s)]))))

theorem State.residue_keeps {W : Nat} {z : State} {s : State} {d : Stored} {e : ℕ} (hw : Within 0x108000a01200a602 W) (h_s : Keeps W z s) : Keeps W z (State.residue s d e) := by
  unfold State.residue
  (try dsimp only)
  exact (Keeps.ite (State.countMsg_keeps (hw.mono rfl) (State.pulse_keeps (hw.mono rfl) (State.inc_keeps (hw.mono rfl) (State.wrb_keeps (hw.mono rfl) (State.wr_keeps (State.wrb_keeps (hw.mono rfl) (State.wr_keeps (State.copyGone_keeps (hw.mono rfl) (State.setQueue_keeps (hw.mono rfl) h_s)) (hw.mono rfl)) (hw.mono rfl)) (hw.mono rfl)) (hw.mono rfl)) (hw.mono rfl)))) h_s)

theorem execTurnoutAgeSweep_keeps {W : Nat} {z : State} {s : State} (hw : Within 0x108810a01200a602 W) (h_s : Keeps W z s) : KeepsOut W z (execTurnoutAgeSweep s) := by
  unfold execTurnoutAgeSweep
  (try dsimp only)
  exact (KeepsOut.next (State.drainAll_keeps (hw.mono rfl) (State.each_keeps h_s (fun _ h1 _ => (State.each_keeps h1 (fun _ h2 _ => (State.residue_keeps (hw.mono rfl) h2)))))))

theorem execEgressStall_keeps {W : Nat} {z : State} {x : ℕ} {s : State} (hw : Within 0x800000200 W) (h_s : Keeps W z s) : KeepsOut W z (execEgressStall x s) := by
  unfold execEgressStall
  (try dsimp only)
  exact (KeepsOut.onUnit (Keeps.ite (State.pulse_keeps (hw.mono rfl) (State.setBit_keeps (hw.mono rfl) h_s (hw.mono rfl))) h_s))

theorem execCellAudit_keeps {W : Nat} {z : State} {s : State} (hw : Within 0x108810a01200a602 W) (h_s : Keeps W z s) : KeepsOut W z (execCellAudit s) := by
  unfold execCellAudit
  (try dsimp only)
  exact (KeepsOut.next (Keeps.ite (State.drainAll_keeps (hw.mono rfl) (State.retCredits_keeps (hw.mono rfl) (Keeps.set_swc (hw.mono rfl) (State.giveCells_keeps (hw.mono rfl) (State.when_keeps h_s (fun _ h1 => (State.pulse_keeps (hw.mono rfl) h1))))))) (State.when_keeps h_s (fun _ h2 => (State.pulse_keeps (hw.mono rfl) h2)))))

/-! ### Ser -/

theorem State.laneMod_keeps {W : Nat} {z : State} {s : State} {l : ℕ} {f : Lane → Lane} (hw : Within 0x1000 W) (h_s : Keeps W z s) : Keeps W z (State.laneMod s l f) := by
  unfold State.laneMod
  (try dsimp only)
  exact (Keeps.set_lanes (hw.mono rfl) h_s)

theorem State.setStage_keeps {W : Nat} {z : State} {s : State} {l : ℕ} {v : ℕ} (hw : Within 0x40000000000 W) (h_s : Keeps W z s) : Keeps W z (State.setStage s l v) := by
  unfold State.setStage
  (try dsimp only)
  exact (State.wr_keeps h_s (hw.mono rfl))

theorem State.eyeLost_keeps {W : Nat} {z : State} {s : State} {l : ℕ} (hw : Within 0x40000001000 W) (h_s : Keeps W z s) : Keeps W z (State.eyeLost s l) := by
  unfold State.eyeLost
  (try dsimp only)
  exact (Keeps.ite (State.wr_keeps (State.wrb_keeps (hw.mono rfl) (State.laneMod_keeps (hw.mono rfl) h_s) (hw.mono rfl)) (hw.mono rfl)) h_s)

theorem State.setTaps_keeps {W : Nat} {z : State} {s : State} {l : ℕ} {t : ℕ × ℕ × ℕ} (hw : Within 0x40000000000 W) (h_s : Keeps W z s) : Keeps W z (State.setTaps s l t) := by
  unfold State.setTaps
  (try dsimp only)
  exact (State.wr_keeps (State.wr_keeps (State.wr_keeps (State.wr_keeps h_s (hw.mono rfl)) (hw.mono rfl)) (hw.mono rfl)) (hw.mono rfl))

theorem State.setPreset_keeps {W : Nat} {z : State} {s : State} {l : ℕ} {p : ℕ} (hw : Within 0x40000000000 W) (h_s : Keeps W z s) : Keeps W z (State.setPreset s l p) := by
  unfold State.setPreset
  (try dsimp only)
  exact (State.wr_keeps (State.setTaps_keeps (hw.mono rfl) h_s) (hw.mono rfl))

theorem State.eqApply_keeps {W : Nat} {z : State} {s : State} {l : ℕ} {r : ℕ} (hw : Within 0x40000000000 W) (h_s : Keeps W z s) : Keeps W z (State.eqApply s l r) := by
  unfold State.eqApply
  (try dsimp only)
  exact (Keeps.ite (State.setPreset_keeps (hw.mono rfl) h_s) (by split <;> [(exact (Keeps.ite (State.setTaps_keeps (hw.mono rfl) h_s) h_s)); (exact h_s)]))

theorem State.adaptKeep_keeps {W : Nat} {z : State} {s : State} {l : ℕ} (hw : Within 0x40000000000 W) (h_s : Keeps W z s) : Keeps W z (State.adaptKeep s l) := by
  unfold State.adaptKeep
  (try dsimp only)
  exact (State.wr_keeps (State.wr_keeps (State.wr_keeps h_s (hw.mono rfl)) (hw.mono rfl)) (hw.mono rfl))

theorem State.nextReq_keeps {W : Nat} {z : State} {s : State} (hw : Within 0x4 W) (h_s : Keeps W z s) : Keeps W z (State.nextReq s).2 := by
  unfold State.nextReq
  (try dsimp only)
  exact (State.draw_keeps (hw.mono rfl) h_s)

theorem State.laneDetect_keeps {W : Nat} {z : State} {s : State} {l : ℕ} (hw : Within 0x40000001000 W) (h_s : Keeps W z s) : Keeps W z (State.laneDetect s l) := by
  unfold State.laneDetect
  (try dsimp only)
  exact (State.laneMod_keeps (hw.mono rfl) (State.setStage_keeps (hw.mono rfl) (State.wrb_keeps (hw.mono rfl) (State.wrb_keeps (hw.mono rfl) (State.wrb_keeps (hw.mono rfl) (State.eyeLost_keeps (hw.mono rfl) (State.adaptKeep_keeps (hw.mono rfl) h_s)) (hw.mono rfl)) (hw.mono rfl)) (hw.mono rfl))))

theorem State.laneStart_keeps {W : Nat} {z : State} {s : State} {l : ℕ} {rate : ℕ} (hw : Within 0x40000001000 W) (h_s : Keeps W z s) : Keeps W z (State.laneStart s l rate) := by
  unfold State.laneStart
  (try dsimp only)
  exact (State.wr_keeps (State.setPreset_keeps (hw.mono rfl) (State.laneMod_keeps (hw.mono rfl) (State.laneDetect_keeps (hw.mono rfl) h_s))) (hw.mono rfl))

theorem State.laneStop_keeps {W : Nat} {z : State} {s : State} {l : ℕ} (hw : Within 0x40000001000 W) (h_s : Keeps W z s) : Keeps W z (State.laneStop s l) := by
  unfold State.laneStop
  (try dsimp only)
  exact (State.laneMod_keeps (hw.mono rfl) (State.setStage_keeps (hw.mono rfl) (State.laneDetect_keeps (hw.mono rfl) h_s)))

theorem State.lanePowerOff_keeps {W : Nat} {z : State} {s : State} {l : ℕ} (hw : Within 0x40000001000 W) (h_s : Keeps W z s) : Keeps W z (State.lanePowerOff s l) := by
  unfold State.lanePowerOff
  (try dsimp only)
  exact (Keeps.set_lanes (hw.mono rfl) (State.each_fields_keeps (hw.mono rfl) h_s (fun _ h1 _ h2 => (State.clr1_keeps (hw.mono rfl) h1 h2))))

theorem State.laneFail_keeps {W : Nat} {z : State} {s : State} {l : ℕ} {cause : ℕ} (hw : Within 0x40000001200 W) (h_s : Keeps W z s) : Keeps W z (State.laneFail s l cause) := by
  unfold State.laneFail
  (try dsimp only)
  exact (State.laneDetect_keeps (hw.mono rfl) (State.when_keeps (State.wr_keeps h_s (hw.mono rfl)) (fun _ h1 => (State.pulse_keeps (hw.mono rfl) h1))))

theorem State.laneEnergy_keeps {W : Nat} {z : State} {s : State} {l : ℕ} (hw : Within 0x40000000000 W) (h_s : Keeps W z s) : Keeps W z (State.laneEnergy s l) := by
  unfold State.laneEnergy
  (try dsimp only)
  exact (Keeps.ite (State.setStage_keeps (hw.mono rfl) h_s) h_s)

theorem State.laneLocked_keeps {W : Nat} {z : State} {s : State} {l : ℕ} (hw : Within 0x40000000000 W) (h_s : Keeps W z s) : Keeps W z (State.laneLocked s l) := by
  unfold State.laneLocked
  (try dsimp only)
  exact (Keeps.ite (State.wrb_keeps (hw.mono rfl) (State.setStage_keeps (hw.mono rfl) h_s) (hw.mono rfl)) h_s)

theorem State.markerSeen_keeps {W : Nat} {z : State} {s : State} {l : ℕ} {w : ℕ} (hw : Within 0x40000001000 W) (h_s : Keeps W z s) : Keeps W z (State.markerSeen s l w) := by
  unfold State.markerSeen
  (try dsimp only)
  exact (State.wrb_keeps (hw.mono rfl) (State.laneMod_keeps (hw.mono rfl) (State.wr_keeps (State.wr_keeps h_s (hw.mono rfl)) (hw.mono rfl))) (hw.mono rfl))

theorem State.markerAlign_keeps {W : Nat} {z : State} {s : State} {l : ℕ} {offset : ℕ} {inv : Bool} (hw : Within 0x40000001000 W) (h_s : Keeps W z s) : Keeps W z (State.markerAlign s l offset inv) := by
  unfold State.markerAlign
  (try dsimp only)
  exact (Keeps.ite (State.laneMod_keeps (hw.mono rfl) h_s) (State.setPreset_keeps (hw.mono rfl) (State.setStage_keeps (hw.mono rfl) (State.wrb_keeps (hw.mono rfl) (State.wrb_keeps (hw.mono rfl) (State.laneMod_keeps (hw.mono rfl) h_s) (hw.mono rfl)) (hw.mono rfl)))))

theorem State.ownReq_keeps {W : Nat} {z : State} {s : State} {l : ℕ} {acked : Bool} {fomDone : Bool} (hw : Within 0x1004 W) (h_s : Keeps W z s) : Keeps W z (State.ownReq s l acked fomDone) := by
  unfold State.ownReq
  (try dsimp only)
  exact (Keeps.ite h_s (Keeps.ite (Keeps.ite (State.laneMod_keeps (hw.mono rfl) h_s) h_s) (Keeps.ite h_s (Keeps.ite (State.laneMod_keeps (hw.mono rfl) h_s) (State.laneMod_keeps (hw.mono rfl) (State.nextReq_keeps (hw.mono rfl) h_s))))))

theorem State.markerEq_keeps {W : Nat} {z : State} {s : State} {l : ℕ} {w : ℕ} {fomDone : Bool} (hw : Within 0x40000001004 W) (h_s : Keeps W z s) : Keeps W z (State.markerEq s l w fomDone) := by
  unfold State.markerEq
  (try dsimp only)
  exact (Keeps.ite (State.setStage_keeps (hw.mono rfl) (State.laneMod_keeps (hw.mono rfl) (State.ownReq_keeps (hw.mono rfl) h_s))) (State.laneMod_keeps (hw.mono rfl) (State.ownReq_keeps (hw.mono rfl) h_s)))

theorem State.orderNow_keeps {W : Nat} {z : State} {s : State} {k : ℕ} (hw : Within 0x40000000000 W) (h_s : Keeps W z s) : Keeps W z (State.orderNow s k) := by
  unfold State.orderNow
  (try dsimp only)
  exact (State.each_keeps h_s (fun _ h1 _ => (State.wr_keeps h1 (hw.mono rfl))))

theorem State.miswire_keeps {W : Nat} {z : State} {s : State} {l : ℕ} (hw : Within 0x40000001200 W) (h_s : Keeps W z s) : Keeps W z (State.miswire s l) := by
  unfold State.miswire
  (try dsimp only)
  exact (State.laneFail_keeps (hw.mono rfl) (State.wr_keeps h_s (hw.mono rfl)))

theorem State.miswireAll_keeps {W : Nat} {z : State} {s : State} {k : ℕ} (hw : Within 0x40000001200 W) (h_s : Keeps W z s) : Keeps W z (State.miswireAll s k) := by
  unfold State.miswireAll
  (try dsimp only)
  exact (State.each_keeps h_s (fun _ h1 _ => (State.laneMod_keeps (hw.mono rfl) (State.miswire_keeps (hw.mono rfl) h1))))

theorem State.judgeLanes_keeps {W : Nat} {z : State} {s : State} {k : ℕ} (hw : Within 0x40000001200 W) (h_s : Keeps W z s) : Keeps W z (State.judgeLanes s k) := by
  unfold State.judgeLanes
  (try dsimp only)
  exact (by split <;> [(exact (State.each_keeps (State.orderNow_keeps (hw.mono rfl) h_s) (fun _ h1 _ => (State.miswire_keeps (hw.mono rfl) h1)))); (exact (Keeps.ite (State.miswireAll_keeps (hw.mono rfl) (State.orderNow_keeps (hw.mono rfl) h_s)) (State.orderNow_keeps (hw.mono rfl) h_s)))])

theorem State.testAbort_keeps {W : Nat} {z : State} {s : State} {l : ℕ} (hw : Within 0x40000001000 W) (h_s : Keeps W z s) : Keeps W z (State.testAbort s l) := by
  unfold State.testAbort
  (try dsimp only)
  exact (State.laneDetect_keeps (hw.mono rfl) (State.wrb_keeps (hw.mono rfl) (State.wrb_keeps (hw.mono rfl) (State.wrb_keeps (hw.mono rfl) (State.wrb_keeps (hw.mono rfl) (State.wr_keeps (State.wr_keeps h_s (hw.mono rfl)) (hw.mono rfl)) (hw.mono rfl)) (hw.mono rfl)) (hw.mono rfl)) (hw.mono rfl)))

theorem State.laneReject_keeps {W : Nat} {z : State} {s : State} {l : ℕ} (hw : Within 0x40000000000 W) (h_s : Keeps W z s) : Keeps W z (State.laneReject s l) := by
  unfold State.laneReject
  (try dsimp only)
  exact (State.wrb_keeps (hw.mono rfl) h_s (hw.mono rfl))

theorem execSerLctlWrite_keeps {W : Nat} {z : State} {l : ℕ} {val : ℕ} {s : State} (hw : Within 0x40000000000 W) (h_s : Keeps W z s) : KeepsOut W z (execSerLctlWrite l val s) := by
  unfold execSerLctlWrite
  (try dsimp only)
  exact (KeepsOut.onUnit (State.onTile_keeps (hw.mono rfl) h_s (Keeps.ite h_s (Keeps.ite (State.laneReject_keeps (hw.mono rfl) h_s) (State.takeWord_keeps (hw.mono rfl) (State.adaptKeep_keeps (hw.mono rfl) h_s) (hw.mono rfl))))))

theorem execSerSlip_keeps {W : Nat} {z : State} {l : ℕ} {val : ℕ} {s : State} (hw : Within 0x40000001000 W) (h_s : Keeps W z s) : KeepsOut W z (execSerSlip l val s) := by
  unfold execSerSlip
  (try dsimp only)
  exact (KeepsOut.onUnit (State.onTile_keeps (hw.mono rfl) h_s (Keeps.ite h_s (Keeps.ite (State.laneReject_keeps (hw.mono rfl) h_s) (State.laneMod_keeps (hw.mono rfl) h_s)))))

theorem execSerPrbsctlWrite_keeps {W : Nat} {z : State} {l : ℕ} {val : ℕ} {s : State} (hw : Within 0x40000000000 W) (h_s : Keeps W z s) : KeepsOut W z (execSerPrbsctlWrite l val s) := by
  unfold execSerPrbsctlWrite
  (try dsimp only)
  exact (KeepsOut.onUnit (State.onTile_keeps (hw.mono rfl) h_s (Keeps.ite h_s (Keeps.ite (State.laneReject_keeps (hw.mono rfl) h_s) (State.when_keeps (State.takeWord_keeps (hw.mono rfl) h_s (hw.mono rfl)) (fun _ h1 => (State.wrb_keeps (hw.mono rfl) h1 (hw.mono rfl))))))))

theorem execPrbsCheckerLock_keeps {W : Nat} {z : State} {l : ℕ} {errors : ℕ} {s : State} (hw : Within 0x40000000000 W) (h_s : Keeps W z s) : KeepsOut W z (execPrbsCheckerLock l errors s) := by
  unfold execPrbsCheckerLock
  (try dsimp only)
  exact (KeepsOut.onUnit (Keeps.ite (State.inc_keeps (hw.mono rfl) (State.wrb_keeps (hw.mono rfl) h_s (hw.mono rfl)) (hw.mono rfl)) h_s))

theorem execEyeScanStart_keeps {W : Nat} {z : State} {l : ℕ} {val : ℕ} {s : State} (hw : Within 0x40000001000 W) (h_s : Keeps W z s) : KeepsOut W z (execEyeScanStart l val s) := by
  unfold execEyeScanStart
  (try dsimp only)
  exact (KeepsOut.onUnit (State.onTile_keeps (hw.mono rfl) h_s (Keeps.ite h_s (State.when_keeps (State.takeWord_keeps (hw.mono rfl) h_s (hw.mono rfl)) (fun _ h1 => (State.laneMod_keeps (hw.mono rfl) (State.wrb_keeps (hw.mono rfl) h1 (hw.mono rfl))))))))

theorem execEyeScanDone_keeps {W : Nat} {z : State} {l : ℕ} {count : ℕ} {cdrLost : Bool} {s : State} (hw : Within 0x40000001000 W) (h_s : Keeps W z s) : KeepsOut W z (execEyeScanDone l count cdrLost s) := by
  unfold execEyeScanDone
  (try dsimp only)
  exact (KeepsOut.onUnit (Keeps.ite (Keeps.ite (State.eyeLost_keeps (hw.mono rfl) h_s) (State.wr_keeps (State.wrb_keeps (hw.mono rfl) (State.laneMod_keeps (hw.mono rfl) h_s) (hw.mono rfl)) (hw.mono rfl))) h_s))

theorem execPortLaneCdrLoss_keeps {W : Nat} {z : State} {l : ℕ} {s : State} (hw : Within 0x140000001000 W) (h_s : Keeps W z s) : KeepsOut W z (execPortLaneCdrLoss l s) := by
  unfold execPortLaneCdrLoss
  (try dsimp only)
  exact (KeepsOut.onUnit (by split <;> [(exact h_s); (exact (Keeps.ite (State.wrb_keeps (hw.mono rfl) (State.eyeLost_keeps (hw.mono rfl) (State.wr_keeps (State.inc_keeps (hw.mono rfl) (State.each_keeps h_s (fun _ h1 _ => (State.adaptKeep_keeps (hw.mono rfl) h1))) (hw.mono rfl)) (hw.mono rfl))) (hw.mono rfl)) h_s))]))

theorem execLaneEnergyDetect_keeps {W : Nat} {z : State} {l : ℕ} {s : State} (hw : Within 0x40000000000 W) (h_s : Keeps W z s) : KeepsOut W z (execLaneEnergyDetect l s) := by
  unfold execLaneEnergyDetect
  (try dsimp only)
  exact (KeepsOut.onUnit (State.laneEnergy_keeps (hw.mono rfl) h_s))

theorem execLaneCdrLock_keeps {W : Nat} {z : State} {l : ℕ} {s : State} (hw : Within 0x40000000000 W) (h_s : Keeps W z s) : KeepsOut W z (execLaneCdrLock l s) := by
  unfold execLaneCdrLock
  (try dsimp only)
  exact (KeepsOut.onUnit (State.laneLocked_keeps (hw.mono rfl) h_s))

theorem execLaneCdrTimeout_keeps {W : Nat} {z : State} {l : ℕ} {s : State} (hw : Within 0x40000001200 W) (h_s : Keeps W z s) : KeepsOut W z (execLaneCdrTimeout l s) := by
  unfold execLaneCdrTimeout
  (try dsimp only)
  exact (KeepsOut.onUnit (Keeps.ite (State.laneFail_keeps (hw.mono rfl) h_s) h_s))

theorem execLaneAlignTimeout_keeps {W : Nat} {z : State} {l : ℕ} {s : State} (hw : Within 0x40000001200 W) (h_s : Keeps W z s) : KeepsOut W z (execLaneAlignTimeout l s) := by
  unfold execLaneAlignTimeout
  (try dsimp only)
  exact (KeepsOut.onUnit (Keeps.ite (State.laneFail_keeps (hw.mono rfl) h_s) h_s))

theorem execLaneEqApply_keeps {W : Nat} {z : State} {l : ℕ} {s : State} (hw : Within 0x40000001000 W) (h_s : Keeps W z s) : KeepsOut W z (execLaneEqApply l s) := by
  unfold execLaneEqApply
  (try dsimp only)
  exact (KeepsOut.onUnit (by split <;> [(exact (Keeps.ite (State.laneMod_keeps (hw.mono rfl) (State.eqApply_keeps (hw.mono rfl) h_s)) h_s)); (exact h_s)]))

theorem execLaneEqTimeout_keeps {W : Nat} {z : State} {l : ℕ} {s : State} (hw : Within 0x40000001200 W) (h_s : Keeps W z s) : KeepsOut W z (execLaneEqTimeout l s) := by
  unfold execLaneEqTimeout
  (try dsimp only)
  exact (KeepsOut.onUnit (Keeps.ite (State.laneFail_keeps (hw.mono rfl) h_s) h_s))

theorem execLaneDeskewTimeout_keeps {W : Nat} {z : State} {l : ℕ} {s : State} (hw : Within 0x40000001200 W) (h_s : Keeps W z s) : KeepsOut W z (execLaneDeskewTimeout l s) := by
  unfold execLaneDeskewTimeout
  (try dsimp only)
  exact (KeepsOut.onUnit (Keeps.ite (State.laneFail_keeps (hw.mono rfl) h_s) h_s))

/-! ### Leat -/

theorem State.sendUnit_keeps {W : Nat} {z : State} {s : State} {k : ℕ} {hdr : ℕ} {trl : ℕ} {body : List ℕ} (hw : Within 0x2 W) (h_s : Keeps W z s) : Keeps W z (State.sendUnit s k hdr trl body) := by
  unfold State.sendUnit
  (try dsimp only)
  exact (State.send_keeps (hw.mono rfl) h_s)

theorem State.trailer_keeps {W : Nat} {z : State} {s : State} {k : ℕ} {seq : ℕ} {seqv : Bool} (hw : Within 0x2000 W) (h_s : Keeps W z s) : Keeps W z (State.trailer s k seq seqv).2 := by
  unfold State.trailer
  (try dsimp only)
  exact (State.lkMod_keeps (hw.mono rfl) h_s)

theorem State.emit_keeps {W : Nat} {z : State} {s : State} {k : ℕ} {u : TxUnit} (hw : Within 0x2002 W) (h_s : Keeps W z s) : Keeps W z (State.emit s k u) := by
  unfold State.emit
  (try dsimp only)
  exact (State.sendAll_keeps (hw.mono rfl) (State.sendUnit_keeps (hw.mono rfl) (State.lkMod_keeps (hw.mono rfl) (State.trailer_keeps (hw.mono rfl) h_s))))

theorem State.occNow_keeps {W : Nat} {z : State} {s : State} {k : ℕ} (hw : Within 0x400000000000 W) (h_s : Keeps W z s) : Keeps W z (State.occNow s k) := by
  unfold State.occNow
  (try dsimp only)
  exact (State.wr_keeps h_s (hw.mono rfl))

theorem State.newUnit_keeps {W : Nat} {z : State} {s : State} {k : ℕ} {u : TxUnit} (hw : Within 0x400000002002 W) (h_s : Keeps W z s) : Keeps W z (State.newUnit s k u) := by
  unfold State.newUnit
  (try dsimp only)
  exact (State.occNow_keeps (hw.mono rfl) (State.emit_keeps (hw.mono rfl) (State.wr_keeps (State.lkMod_keeps (hw.mono rfl) h_s) (hw.mono rfl))))

theorem State.setTxq_keeps {W : Nat} {z : State} {s : State} {k : ℕ} {v : ℕ} {q : List TxUnit} (hw : Within 0x2000 W) (h_s : Keeps W z s) : Keeps W z (State.setTxq s k v q) := by
  unfold State.setTxq
  (try dsimp only)
  exact (State.lkMod_keeps (hw.mono rfl) h_s)

theorem State.flowOn_keeps {W : Nat} {z : State} {s : State} {k : ℕ} {m : Msg} (hw : Within 0x4000 W) (h_s : Keeps W z s) : Keeps W z (State.flowOn s k m) := by
  unfold State.flowOn
  (try dsimp only)
  exact (Keeps.set_flows (hw.mono rfl) h_s)

theorem State.dataUnit_keeps {W : Nat} {z : State} {s : State} {k : ℕ} {v : ℕ} {u : TxUnit} (hw : Within 0x400000006002 W) (h_s : Keeps W z s) : Keeps W z (State.dataUnit s k v u) := by
  unfold State.dataUnit
  (try dsimp only)
  exact (State.each_keeps (State.lkMod_keeps (hw.mono rfl) (State.wr_keeps (State.newUnit_keeps (hw.mono rfl) h_s) (hw.mono rfl))) (fun _ h1 _ => (State.flowOn_keeps (hw.mono rfl) h1)))

theorem State.unitSlot_keeps {W : Nat} {z : State} {s : State} {k : ℕ} (hw : Within 0x400000006002 W) (h_s : Keeps W z s) : KeepsOpt W z (State.unitSlot s k) := by
  unfold State.unitSlot
  (try dsimp only)
  exact (KeepsOpt.ite KeepsOpt.none (by split <;> [(exact (KeepsOpt.some (State.newUnit_keeps (hw.mono rfl) (State.lkMod_keeps (hw.mono rfl) h_s)))); (exact (by split <;> [(exact KeepsOpt.none); (exact (by split <;> [(exact KeepsOpt.none); (exact (KeepsOpt.some (State.dataUnit_keeps (hw.mono rfl) (State.lkMod_keeps (hw.mono rfl) (State.setTxq_keeps (hw.mono rfl) h_s)))))]))]))]))

theorem State.unitSlots_keeps {W : Nat} {z : State} {a : ℕ} {a1 : Bool} {a2 : ℕ} {a3 : State} (hw : Within 0x400000006002 W) (h_a3 : Keeps W z a3) : Keeps W z (State.unitSlots a a1 a2 a3) := by
  induction a generalizing a1 a2 a3 with
  | zero =>
    unfold State.unitSlots
    (try dsimp only)
    exact h_a3
  | succ a ih =>
    unfold State.unitSlots
    (try dsimp only)
    exact (by split <;> [(rename_i e_; have h1 := (State.unitSlot_keeps (hw.mono rfl) h_a3) _ e_; exact (ih h1)); (exact (Keeps.ite (State.sendUnit_keeps (hw.mono rfl) (State.trailer_keeps (hw.mono rfl) h_a3)) h_a3))])

theorem State.linkGo_keeps {W : Nat} {z : State} {s : State} {k : ℕ} {sent : optParam Bool false} (hw : Within 0x400000006002 W) (h_s : Keeps W z s) : Keeps W z (State.linkGo s k sent) := by
  unfold State.linkGo
  (try dsimp only)
  exact (Keeps.ite (State.unitSlots_keeps (hw.mono rfl) h_s) h_s)

theorem State.mgmtSlots_keeps {W : Nat} {z : State} {a : ℕ} {a1 : ℕ} {a2 : State} (hw : Within 0x400000002002 W) (h_a2 : Keeps W z a2) : Keeps W z (State.mgmtSlots a a1 a2) := by
  induction a generalizing a1 a2 with
  | zero =>
    unfold State.mgmtSlots
    (try dsimp only)
    exact h_a2
  | succ a ih =>
    unfold State.mgmtSlots
    (try dsimp only)
    exact (by split <;> [(exact (Keeps.ite (ih (State.newUnit_keeps (hw.mono rfl) (State.lkMod_keeps (hw.mono rfl) h_a2))) h_a2)); (exact h_a2)])

theorem State.mgmtQueue_keeps {W : Nat} {z : State} {s : State} {k : ℕ} {op : List ℕ} (hw : Within 0x400000006002 W) (h_s : Keeps W z s) : Keeps W z (State.mgmtQueue s k op) := by
  unfold State.mgmtQueue
  (try dsimp only)
  exact (State.linkGo_keeps (hw.mono rfl) (State.lkMod_keeps (hw.mono rfl) h_s))

theorem State.sendMsg_keeps {W : Nat} {z : State} {s : State} {k : ℕ} {v : ℕ} {m : Msg} (hw : Within 0x400000006002 W) (h_s : Keeps W z s) : Keeps W z (State.sendMsg s k v m) := by
  unfold State.sendMsg
  (try dsimp only)
  exact (State.linkGo_keeps (hw.mono rfl) (State.setTxq_keeps (hw.mono rfl) h_s))

theorem State.freeUnits_keeps {W : Nat} {z : State} {s : State} {k : ℕ} {a : ℕ} (hw : Within 0x400000006000 W) (h_s : Keeps W z s) : Keeps W z (State.freeUnits s k a) := by
  unfold State.freeUnits
  (try dsimp only)
  exact (State.occNow_keeps (hw.mono rfl) (State.when_keeps (State.wr_keeps (Keeps.set_flows (hw.mono rfl) (State.lkMod_keeps (hw.mono rfl) h_s)) (hw.mono rfl)) (fun _ h1 => (State.wr_keeps h1 (hw.mono rfl)))))

theorem State.takeLimit_keeps {W : Nat} {z : State} {s : State} {k : ℕ} {v : ℕ} {new : ℕ} (hw : Within 0x400000000000 W) (h_s : Keeps W z s) : Keeps W z (State.takeLimit s k v new) := by
  unfold State.takeLimit
  (try dsimp only)
  exact (Keeps.ite (State.wr_keeps h_s (hw.mono rfl)) h_s)

theorem State.takeLimits_keeps {W : Nat} {z : State} {s : State} {k : ℕ} {a : ℕ} {b : ℕ} {c : ℕ} (hw : Within 0x400000000000 W) (h_s : Keeps W z s) : Keeps W z (State.takeLimits s k a b c) := by
  unfold State.takeLimits
  (try dsimp only)
  exact (State.takeLimit_keeps (hw.mono rfl) (State.takeLimit_keeps (hw.mono rfl) (State.takeLimit_keeps (hw.mono rfl) h_s)))

theorem State.takeCred_keeps {W : Nat} {z : State} {s : State} {k : ℕ} {trl : ℕ} (hw : Within 0x400000000000 W) (h_s : Keeps W z s) : Keeps W z (State.takeCred s k trl) := by
  unfold State.takeCred
  (try dsimp only)
  exact (Keeps.ite h_s (by split <;> [(exact (State.wr_keeps h_s (hw.mono rfl))); (exact h_s)]))

theorem State.resend_keeps {W : Nat} {z : State} {s : State} {k : ℕ} {us : List TxUnit} (hw : Within 0x2402 W) (h_s : Keeps W z s) : Keeps W z (State.resend s k us) := by
  unfold State.resend
  (try dsimp only)
  exact (State.each_keeps h_s (fun _ h1 _ => (State.countEv_keeps (hw.mono rfl) (State.emit_keeps (hw.mono rfl) h1))))

theorem State.measure_keeps {W : Nat} {z : State} {s : State} {k : ℕ} {t : ℕ} {ts : ℕ} {echo : ℕ} {hold : ℕ} (hw : Within 0x400000002000 W) (h_s : Keeps W z s) : Keeps W z (State.measure s k t ts echo hold) := by
  unfold State.measure
  (try dsimp only)
  exact (Keeps.ite (State.lkMod_keeps (hw.mono rfl) h_s) (State.wr_keeps (State.lkMod_keeps (hw.mono rfl) h_s) (hw.mono rfl)))

theorem State.toRxq_keeps {W : Nat} {z : State} {s : State} {k : ℕ} {u : RxUnit} (hw : Within 0x2000 W) (h_s : Keeps W z s) : Keeps W z (State.toRxq s k u) := by
  unfold State.toRxq
  (try dsimp only)
  exact (State.setRxq_keeps (hw.mono rfl) (State.lkMod_keeps (hw.mono rfl) h_s))

theorem State.release__keeps {W : Nat} {z : State} {a : ℕ} {a1 : ℕ} {a2 : State} (hw : Within 0x400000002000 W) (h_a2 : Keeps W z a2) : Keeps W z (State.release_ a a1 a2) := by
  induction a generalizing a1 a2 with
  | zero =>
    unfold State.release_
    (try dsimp only)
    exact h_a2
  | succ a ih =>
    unfold State.release_
    (try dsimp only)
    exact (by split <;> [(exact h_a2); (exact (ih (Keeps.ite (State.toRxq_keeps (hw.mono rfl) (State.wr_keeps (State.lkMod_keeps (hw.mono rfl) h_a2) (hw.mono rfl))) (State.wr_keeps (State.lkMod_keeps (hw.mono rfl) h_a2) (hw.mono rfl)))))])

theorem State.rxUnit_keeps {W : Nat} {z : State} {s : State} {k : ℕ} {u : RxUnit} (hw : Within 0x400000002000 W) (h_s : Keeps W z s) : Keeps W z (State.rxUnit s k u) := by
  unfold State.rxUnit
  (try dsimp only)
  exact (Keeps.ite (State.inc_keeps (hw.mono rfl) h_s (hw.mono rfl)) (Keeps.ite h_s (State.release__keeps (hw.mono rfl) (Keeps.ite (State.wr_keeps (State.lkMod_keeps (hw.mono rfl) h_s) (hw.mono rfl)) (State.lkMod_keeps (hw.mono rfl) h_s)))))

theorem State.misroute_keeps {W : Nat} {z : State} {s : State} {k : ℕ} (hw : Within 0x400000000200 W) (h_s : Keeps W z s) : Keeps W z (State.misroute s k) := by
  unfold State.misroute
  (try dsimp only)
  exact (State.pulse_keeps (hw.mono rfl) (State.wrb_keeps (hw.mono rfl) h_s (hw.mono rfl)))

theorem State.showNext_keeps {W : Nat} {z : State} {s : State} {k : ℕ} {n : ℕ} (hw : Within 0x2000 W) (h_s : Keeps W z s) : Keeps W z (State.showNext s k n) := by
  unfold State.showNext
  (try dsimp only)
  exact (State.lkMod_keeps (hw.mono rfl) h_s)

theorem State.rxRole_keeps {W : Nat} {z : State} {s : State} {k : ℕ} {i : ℕ} (hw : Within 0x2000 W) (h_s : Keeps W z s) : Keeps W z (State.rxRole s k i) := by
  unfold State.rxRole
  (try dsimp only)
  exact (Keeps.ite (State.lkMod_keeps (hw.mono rfl) h_s) h_s)

theorem State.txRole_keeps {W : Nat} {z : State} {s : State} {k : ℕ} {i : ℕ} (hw : Within 0x3000 W) (h_s : Keeps W z s) : Keeps W z (State.txRole s k i) := by
  unfold State.txRole
  (try dsimp only)
  exact (Keeps.ite (State.lkMod_keeps (hw.mono rfl) (State.laneMod_keeps (hw.mono rfl) h_s)) h_s)

theorem State.spareNow_keeps {W : Nat} {z : State} {s : State} {k : ℕ} (hw : Within 0x400000000000 W) (h_s : Keeps W z s) : Keeps W z (State.spareNow s k) := by
  unfold State.spareNow
  (try dsimp only)
  exact (State.putb_keeps (hw.mono rfl) (State.wrb_keeps (hw.mono rfl) h_s (hw.mono rfl)) (hw.mono rfl))

theorem State.spareUsed_keeps {W : Nat} {z : State} {s : State} {k : ℕ} {left : Bool} (hw : Within 0x400000000200 W) (h_s : Keeps W z s) : Keeps W z (State.spareUsed s k left) := by
  unfold State.spareUsed
  (try dsimp only)
  exact (State.when_keeps (State.spareNow_keeps (hw.mono rfl) (State.inc_keeps (hw.mono rfl) h_s (hw.mono rfl))) (fun _ h1 => (State.pulse_keeps (hw.mono rfl) h1)))

theorem State.unmap_keeps {W : Nat} {z : State} {s : State} {k : ℕ} (hw : Within 0x400000000000 W) (h_s : Keeps W z s) : Keeps W z (State.unmap s k) := by
  unfold State.unmap
  (try dsimp only)
  exact (State.wrb_keeps (hw.mono rfl) (State.wrb_keeps (hw.mono rfl) (State.wr_keeps (State.wr_keeps h_s (hw.mono rfl)) (hw.mono rfl)) (hw.mono rfl)) (hw.mono rfl))

theorem State.linkMask_keeps {W : Nat} {z : State} {s : State} {k : ℕ} {on : Bool} (hw : Within 0x400000000000 W) (h_s : Keeps W z s) : Keeps W z (State.linkMask s k on) := by
  unfold State.linkMask
  (try dsimp only)
  exact (State.putb_keeps (hw.mono rfl) h_s (hw.mono rfl))

theorem State.leaveService_keeps {W : Nat} {z : State} {s : State} {k : ℕ} (hw : Within 0x10c87aa81208e602 W) (h_s : Keeps W z s) : Keeps W z (State.leaveService s k) := by
  unfold State.leaveService
  (try dsimp only)
  exact (State.drainAll_keeps (hw.mono rfl) (Keeps.ite (State.homeLost_keeps (hw.mono rfl) (State.when_keeps (State.settleOwed_keeps (hw.mono rfl) (State.flushEgress_keeps (hw.mono rfl) (Keeps.set_flows (hw.mono rfl) (State.swcMod_keeps (hw.mono rfl) (State.occNow_keeps (hw.mono rfl) (State.lkMod_keeps (hw.mono rfl) (State.linkMask_keeps (hw.mono rfl) h_s)))))) (fun _ h1 _ => (State.lostAtLink_keeps (hw.mono rfl) h1))) (fun _ h2 => (State.agentLost_keeps (hw.mono rfl) h2)))) (State.settleOwed_keeps (hw.mono rfl) (State.flushEgress_keeps (hw.mono rfl) (Keeps.set_flows (hw.mono rfl) (State.swcMod_keeps (hw.mono rfl) (State.occNow_keeps (hw.mono rfl) (State.lkMod_keeps (hw.mono rfl) (State.linkMask_keeps (hw.mono rfl) h_s)))))) (fun _ h3 _ => (State.lostAtLink_keeps (hw.mono rfl) h3)))))

theorem State.linkStop_keeps {W : Nat} {z : State} {s : State} {k : ℕ} {st : ℕ} (hw : Within 0x440000003000 W) (h_s : Keeps W z s) : Keeps W z (State.linkStop s k st) := by
  unfold State.linkStop
  (try dsimp only)
  exact (State.spareNow_keeps (hw.mono rfl) (State.putb_keeps (hw.mono rfl) (State.lkMod_keeps (hw.mono rfl) (State.wrb_keeps (hw.mono rfl) (State.wr_keeps (State.unmap_keeps (hw.mono rfl) (State.each_keeps h_s (fun _ h1 _ => (State.laneStop_keeps (hw.mono rfl) h1)))) (hw.mono rfl)) (hw.mono rfl))) (hw.mono rfl)))

theorem State.goDown_keeps {W : Nat} {z : State} {s : State} {k : ℕ} {cause : ℕ} (hw : Within 0x10c87ea81208f602 W) (h_s : Keeps W z s) : Keeps W z (State.goDown s k cause) := by
  unfold State.goDown
  (try dsimp only)
  exact (State.when_keeps (State.pulse_keeps (hw.mono rfl) (State.wr_keeps (State.linkStop_keeps (hw.mono rfl) h_s) (hw.mono rfl))) (fun _ h1 => (State.leaveService_keeps (hw.mono rfl) h1)))

theorem State.linkHalt_keeps {W : Nat} {z : State} {s : State} {k : ℕ} (hw : Within 0x10c87ea81208f602 W) (h_s : Keeps W z s) : Keeps W z (State.linkHalt s k) := by
  unfold State.linkHalt
  (try dsimp only)
  exact (State.when_keeps (State.linkStop_keeps (hw.mono rfl) h_s) (fun _ h1 => (State.leaveService_keeps (hw.mono rfl) h1)))

theorem State.goDisabled_keeps {W : Nat} {z : State} {s : State} {k : ℕ} {cause : ℕ} (hw : Within 0x10c87ea81208f602 W) (h_s : Keeps W z s) : Keeps W z (State.goDisabled s k cause) := by
  unfold State.goDisabled
  (try dsimp only)
  exact (Keeps.ite h_s (State.wr_keeps (State.linkHalt_keeps (hw.mono rfl) h_s) (hw.mono rfl)))

theorem State.enterTraining_keeps {W : Nat} {z : State} {s : State} {k : ℕ} (hw : Within 0x440000003000 W) (h_s : Keeps W z s) : Keeps W z (State.enterTraining s k) := by
  unfold State.enterTraining
  (try dsimp only)
  exact (State.wr_keeps (State.each_keeps (State.lkMod_keeps (hw.mono rfl) h_s) (fun _ h1 _ => (State.laneStart_keeps (hw.mono rfl) h1))) (hw.mono rfl))

theorem State.linkTry_keeps {W : Nat} {z : State} {s : State} {k : ℕ} (hw : Within 0x440000003000 W) (h_s : Keeps W z s) : Keeps W z (State.linkTry s k) := by
  unfold State.linkTry
  (try dsimp only)
  exact (Keeps.ite (State.enterTraining_keeps (hw.mono rfl) h_s) h_s)

theorem State.sendInit_keeps {W : Nat} {z : State} {s : State} {k : ℕ} (hw : Within 0x6 W) (h_s : Keeps W z s) : Keeps W z (State.sendInit s k) := by
  unfold State.sendInit
  (try dsimp only)
  exact (State.sendAll_keeps (hw.mono rfl) (State.draw_keeps (hw.mono rfl) h_s))

theorem State.forgetCredits_keeps {W : Nat} {z : State} {s : State} {k : ℕ} (hw : Within 0xa000 W) (h_s : Keeps W z s) : Keeps W z (State.forgetCredits s k) := by
  unfold State.forgetCredits
  (try dsimp only)
  exact (State.swcMod_keeps (hw.mono rfl) (State.lkMod_keeps (hw.mono rfl) h_s))

theorem State.freshInit_keeps {W : Nat} {z : State} {s : State} {k : ℕ} (hw : Within 0x40000000a000 W) (h_s : Keeps W z s) : Keeps W z (State.freshInit s k) := by
  unfold State.freshInit
  (try dsimp only)
  exact (State.occNow_keeps (hw.mono rfl) (State.each_keeps (State.wr_keeps (State.wr_keeps (State.wr_keeps (State.wr_keeps (State.wr_keeps (State.lkMod_keeps (hw.mono rfl) (State.forgetCredits_keeps (hw.mono rfl) h_s)) (hw.mono rfl)) (hw.mono rfl)) (hw.mono rfl)) (hw.mono rfl)) (hw.mono rfl)) (fun _ h1 _ => (State.wr_keeps (State.wr_keeps h1 (hw.mono rfl)) (hw.mono rfl)))))

theorem State.peerIs_keeps {W : Nat} {z : State} {s : State} {k : ℕ} {v : Option (ℕ × ℕ)} (hw : Within 0x10c87ea81208f602 W) (h_s : Keeps W z s) : Keeps W z (State.peerIs s k v) := by
  unfold State.peerIs
  (try dsimp only)
  exact (by split <;> [(exact h_s); (exact (Keeps.ite (Keeps.ite (State.goDown_keeps (hw.mono rfl) (State.wr_keeps (State.wr_keeps h_s (hw.mono rfl)) (hw.mono rfl))) (State.wr_keeps (State.wr_keeps h_s (hw.mono rfl)) (hw.mono rfl))) h_s))])

theorem State.startExch_keeps {W : Nat} {z : State} {s : State} {k : ℕ} (hw : Within 0x10c87ea81208f606 W) (h_s : Keeps W z s) : Keeps W z (State.startExch s k) := by
  unfold State.startExch
  (try dsimp only)
  exact (Keeps.ite (State.peerIs_keeps (hw.mono rfl) h_s) (State.sendInit_keeps (hw.mono rfl) (State.lkMod_keeps (hw.mono rfl) (Keeps.ite (State.freshInit_keeps (hw.mono rfl) (State.wr_keeps (State.peerIs_keeps (hw.mono rfl) h_s) (hw.mono rfl))) (State.peerIs_keeps (hw.mono rfl) h_s)))))

theorem State.assignTx_keeps {W : Nat} {z : State} {s : State} {k : ℕ} {w4 : Bool} {data : List ℕ} {spare : Option ℕ} (hw : Within 0x440000003000 W) (h_s : Keeps W z s) : Keeps W z (State.assignTx s k w4 data spare) := by
  unfold State.assignTx
  (try dsimp only)
  exact (State.lkMod_keeps (hw.mono rfl) (State.wrb_keeps (hw.mono rfl) (State.each_keeps (State.each_keeps h_s (fun _ h1 _ => (State.laneMod_keeps (hw.mono rfl) h1))) (fun _ h2 _ => (State.wr_keeps (Keeps.ite (State.setStage_keeps (hw.mono rfl) (State.laneMod_keeps (hw.mono rfl) h2)) (State.laneMod_keeps (hw.mono rfl) h2)) (hw.mono rfl)))) (hw.mono rfl)))

theorem State.claimImage_keeps {W : Nat} {z : State} {s : State} {k : ℕ} (hw : Within 0x400000406002 W) (h_s : Keeps W z s) : Keeps W z (State.claimImage s k) := by
  unfold State.claimImage
  (try dsimp only)
  exact (State.each_keeps h_s (fun _ h1 _ => (State.mgmtQueue_keeps (hw.mono rfl) (Keeps.set_prt (hw.mono rfl) h1))))

theorem State.goActive_keeps {W : Nat} {z : State} {s : State} {k : ℕ} {w4 : Bool} {rx : List ℕ} (hw : Within 0x440000406002 W) (h_s : Keeps W z s) : Keeps W z (State.goActive s k w4 rx) := by
  unfold State.goActive
  (try dsimp only)
  exact (Keeps.ite (State.claimImage_keeps (hw.mono rfl) (State.linkGo_keeps (hw.mono rfl) (State.each_keeps (State.wr_keeps (Keeps.ite (State.freeUnits_keeps (hw.mono rfl) (State.spareNow_keeps (hw.mono rfl) (State.linkMask_keeps (hw.mono rfl) (State.putb_keeps (hw.mono rfl) (State.lkMod_keeps (hw.mono rfl) (State.wrb_keeps (hw.mono rfl) (State.wr_keeps (State.wrb_keeps (hw.mono rfl) (State.each_keeps h_s (fun _ h1 _ => (State.setStage_keeps (hw.mono rfl) (State.wr_keeps h1 (hw.mono rfl))))) (hw.mono rfl)) (hw.mono rfl)) (hw.mono rfl))) (hw.mono rfl))))) (State.spareNow_keeps (hw.mono rfl) (State.linkMask_keeps (hw.mono rfl) (State.putb_keeps (hw.mono rfl) (State.lkMod_keeps (hw.mono rfl) (State.wrb_keeps (hw.mono rfl) (State.wr_keeps (State.wrb_keeps (hw.mono rfl) (State.each_keeps h_s (fun _ h2 _ => (State.setStage_keeps (hw.mono rfl) (State.wr_keeps h2 (hw.mono rfl))))) (hw.mono rfl)) (hw.mono rfl)) (hw.mono rfl))) (hw.mono rfl))))) (hw.mono rfl)) (fun _ h3 _ => (State.emit_keeps (hw.mono rfl) h3))))) (State.claimImage_keeps (hw.mono rfl) (State.linkGo_keeps (hw.mono rfl) (State.spareNow_keeps (hw.mono rfl) (State.linkMask_keeps (hw.mono rfl) (State.putb_keeps (hw.mono rfl) (State.lkMod_keeps (hw.mono rfl) (State.wrb_keeps (hw.mono rfl) (State.wr_keeps (State.wrb_keeps (hw.mono rfl) (State.each_keeps h_s (fun _ h4 _ => (State.setStage_keeps (hw.mono rfl) (State.wr_keeps h4 (hw.mono rfl))))) (hw.mono rfl)) (hw.mono rfl)) (hw.mono rfl))) (hw.mono rfl)))))))

theorem State.exchDone_keeps {W : Nat} {z : State} {s : State} {k : ℕ} (hw : Within 0x440000406002 W) (h_s : Keeps W z s) : Keeps W z (State.exchDone s k) := by
  unfold State.exchDone
  (try dsimp only)
  exact (Keeps.ite (by split <;> [(exact (State.goActive_keeps (hw.mono rfl) h_s)); (exact h_s)]) h_s)

theorem State.retrain_keeps {W : Nat} {z : State} {s : State} {k : ℕ} {cause : ℕ} (hw : Within 0x400000003002 W) (h_s : Keeps W z s) : Keeps W z (State.retrain s k cause) := by
  unfold State.retrain
  (try dsimp only)
  exact (Keeps.ite h_s (State.spareNow_keeps (hw.mono rfl) (State.putb_keeps (hw.mono rfl) (State.wrb_keeps (hw.mono rfl) (State.each_keeps (State.lkMod_keeps (hw.mono rfl) (State.unmap_keeps (hw.mono rfl) (State.wr_keeps (State.inc_keeps (hw.mono rfl) (State.when_keeps h_s (fun _ h1 => (State.sendUnit_keeps (hw.mono rfl) h1))) (hw.mono rfl)) (hw.mono rfl)))) (fun _ h2 _ => (State.laneMod_keeps (hw.mono rfl) h2))) (hw.mono rfl)) (hw.mono rfl))))

theorem State.protoError_keeps {W : Nat} {z : State} {s : State} {k : ℕ} (hw : Within 0x10c87ea81208f602 W) (h_s : Keeps W z s) : Keeps W z (State.protoError s k) := by
  unfold State.protoError
  (try dsimp only)
  exact (Keeps.ite (State.goDown_keeps (hw.mono rfl) (State.retrain_keeps (hw.mono rfl) (State.lkMod_keeps (hw.mono rfl) (State.wrb_keeps (hw.mono rfl) h_s (hw.mono rfl))))) (State.retrain_keeps (hw.mono rfl) (State.lkMod_keeps (hw.mono rfl) (State.wrb_keeps (hw.mono rfl) h_s (hw.mono rfl)))))

theorem State.mgmtSend_keeps {W : Nat} {z : State} {s : State} {k : ℕ} {op : List ℕ} (hw : Within 0x400000007002 W) (h_s : Keeps W z s) : Keeps W z (State.mgmtSend s k op) := by
  unfold State.mgmtSend
  (try dsimp only)
  exact (Keeps.ite (State.retrain_keeps (hw.mono rfl) (State.mgmtQueue_keeps (hw.mono rfl) h_s)) (State.mgmtQueue_keeps (hw.mono rfl) h_s))

theorem State.rxFailed_keeps {W : Nat} {z : State} {s : State} {k : ℕ} {i : ℕ} (hw : Within 0x440000007202 W) (h_s : Keeps W z s) : Keeps W z (State.rxFailed s k i) := by
  unfold State.rxFailed
  (try dsimp only)
  exact (by split <;> [(exact (State.spareNow_keeps (hw.mono rfl) h_s)); (exact (by split <;> [(exact (State.retrain_keeps (hw.mono rfl) h_s)); (exact (Keeps.ite (State.retrain_keeps (hw.mono rfl) (State.lkMod_keeps (hw.mono rfl) (State.testAbort_keeps (hw.mono rfl) h_s))) (State.spareUsed_keeps (hw.mono rfl) (State.mgmtSend_keeps (hw.mono rfl) (State.lkMod_keeps (hw.mono rfl) (State.setStage_keeps (hw.mono rfl) (State.wr_keeps h_s (hw.mono rfl))))))))]))])

theorem State.spareReq_keeps {W : Nat} {z : State} {s : State} {k : ℕ} {y : ℕ} (hw : Within 0x440000003202 W) (h_s : Keeps W z s) : Keeps W z (State.spareReq s k y) := by
  unfold State.spareReq
  (try dsimp only)
  exact (by split <;> [(exact h_s); (exact (Keeps.ite (State.retrain_keeps (hw.mono rfl) (State.laneMod_keeps (hw.mono rfl) (State.testAbort_keeps (hw.mono rfl) (State.lkMod_keeps (hw.mono rfl) h_s)))) (State.spareUsed_keeps (hw.mono rfl) (Keeps.ite (State.when_keeps (State.laneMod_keeps (hw.mono rfl) (State.wr_keeps (State.lkMod_keeps (hw.mono rfl) h_s) (hw.mono rfl))) (fun _ h1 => (State.setStage_keeps (hw.mono rfl) h1))) (Keeps.ite (State.setPreset_keeps (hw.mono rfl) (State.laneMod_keeps (hw.mono rfl) (State.when_keeps (State.laneMod_keeps (hw.mono rfl) (State.wr_keeps (State.lkMod_keeps (hw.mono rfl) h_s) (hw.mono rfl))) (fun _ h2 => (State.setStage_keeps (hw.mono rfl) h2))))) (State.laneDetect_keeps (hw.mono rfl) (State.setPreset_keeps (hw.mono rfl) (State.laneMod_keeps (hw.mono rfl) (State.when_keeps (State.laneMod_keeps (hw.mono rfl) (State.wr_keeps (State.lkMod_keeps (hw.mono rfl) h_s) (hw.mono rfl))) (fun _ h3 => (State.setStage_keeps (hw.mono rfl) h3)))))))))))])

theorem State.doze_keeps {W : Nat} {z : State} {s : State} {k : ℕ} (hw : Within 0x440000003000 W) (h_s : Keeps W z s) : Keeps W z (State.doze s k) := by
  unfold State.doze
  (try dsimp only)
  exact (State.spareNow_keeps (hw.mono rfl) (State.wrb_keeps (hw.mono rfl) (State.wr_keeps (State.lkMod_keeps (hw.mono rfl) (State.unmap_keeps (hw.mono rfl) (State.each_keeps h_s (fun _ h1 _ => (State.laneStop_keeps (hw.mono rfl) h1))))) (hw.mono rfl)) (hw.mono rfl)))

/-! ### Lanes -/

theorem State.laneLost_keeps {W : Nat} {z : State} {s : State} {l : ℕ} {cause : ℕ} (hw : Within 0x440000007202 W) (h_s : Keeps W z s) : Keeps W z (State.laneLost s l cause) := by
  unfold State.laneLost
  (try dsimp only)
  exact (Keeps.ite (State.rxFailed_keeps (hw.mono rfl) (State.lkMod_keeps (hw.mono rfl) (State.laneFail_keeps (hw.mono rfl) h_s))) (State.lkMod_keeps (hw.mono rfl) (State.laneFail_keeps (hw.mono rfl) h_s)))

theorem State.markerBad_keeps {W : Nat} {z : State} {s : State} {l : ℕ} (hw : Within 0x440000007202 W) (h_s : Keeps W z s) : Keeps W z (State.markerBad s l) := by
  unfold State.markerBad
  (try dsimp only)
  exact (Keeps.ite (State.laneMod_keeps (hw.mono rfl) h_s) (Keeps.ite (Keeps.ite (State.laneLost_keeps (hw.mono rfl) h_s) (State.laneMod_keeps (hw.mono rfl) h_s)) h_s))

theorem State.peerNow_keeps {W : Nat} {z : State} {s : State} {k : ℕ} (hw : Within 0x10c87ea81208f602 W) (h_s : Keeps W z s) : Keeps W z (State.peerNow s k) := by
  unfold State.peerNow
  (try dsimp only)
  exact (State.peerIs_keeps (hw.mono rfl) h_s)

theorem State.lostPlaces_keeps {W : Nat} {z : State} {s : State} {k : ℕ} (hw : Within 0x440000007202 W) (h_s : Keeps W z s) : Keeps W z (State.lostPlaces s k) := by
  unfold State.lostPlaces
  (try dsimp only)
  exact (State.each_keeps h_s (fun _ h1 _ => (Keeps.ite (State.rxFailed_keeps (hw.mono rfl) h1) h1)))

theorem State.markerServed_keeps {W : Nat} {z : State} {s : State} {l : ℕ} {w : ℕ} {old : ℕ × ℕ} (hw : Within 0x440000407002 W) (h_s : Keeps W z s) : Keeps W z (State.markerServed s l w old) := by
  unfold State.markerServed
  (try dsimp only)
  exact (Keeps.ite (State.spareNow_keeps (hw.mono rfl) (by split <;> [(exact (Keeps.ite (State.lkMod_keeps (hw.mono rfl) (Keeps.ite (State.txRole_keeps (hw.mono rfl) (Keeps.ite (State.rxRole_keeps (hw.mono rfl) h_s) h_s)) (Keeps.ite (State.rxRole_keeps (hw.mono rfl) h_s) h_s))) (Keeps.ite (State.txRole_keeps (hw.mono rfl) (Keeps.ite (State.rxRole_keeps (hw.mono rfl) h_s) h_s)) (Keeps.ite (State.rxRole_keeps (hw.mono rfl) h_s) h_s)))); (exact (Keeps.ite (State.txRole_keeps (hw.mono rfl) (Keeps.ite (State.rxRole_keeps (hw.mono rfl) h_s) h_s)) (Keeps.ite (State.rxRole_keeps (hw.mono rfl) h_s) h_s)))])) (State.exchDone_keeps (hw.mono rfl) h_s))

theorem execLaneMarkerReceive_keeps {W : Nat} {z : State} {l : ℕ} {w : ℕ} {offset : ℕ} {inverted : Bool} {fomDone : Bool} {s : State} (hw : Within 0x10c87ea81248f606 W) (h_s : Keeps W z s) : KeepsOut W z (execLaneMarkerReceive l w offset inverted fomDone s) := by
  unfold execLaneMarkerReceive
  (try dsimp only)
  exact (KeepsOut.onUnit (Keeps.ite h_s (Keeps.ite h_s (Keeps.ite (State.markerBad_keeps (hw.mono rfl) (State.inc_keeps (hw.mono rfl) h_s (hw.mono rfl))) (Keeps.ite (Keeps.ite (State.peerNow_keeps (hw.mono rfl) (State.lostPlaces_keeps (hw.mono rfl) (State.judgeLanes_keeps (hw.mono rfl) (State.markerAlign_keeps (hw.mono rfl) (State.markerSeen_keeps (hw.mono rfl) h_s))))) (State.markerAlign_keeps (hw.mono rfl) (State.markerSeen_keeps (hw.mono rfl) h_s))) (Keeps.ite (State.markerEq_keeps (hw.mono rfl) (State.markerSeen_keeps (hw.mono rfl) h_s)) (Keeps.ite (State.markerSeen_keeps (hw.mono rfl) h_s) (State.markerServed_keeps (hw.mono rfl) (State.markerSeen_keeps (hw.mono rfl) h_s)))))))))

theorem execLaneMarkerMissing_keeps {W : Nat} {z : State} {l : ℕ} {s : State} (hw : Within 0x440000007202 W) (h_s : Keeps W z s) : KeepsOut W z (execLaneMarkerMissing l s) := by
  unfold execLaneMarkerMissing
  (try dsimp only)
  exact (KeepsOut.onUnit (State.markerBad_keeps (hw.mono rfl) h_s))

theorem execLaneDeskewDone_keeps {W : Nat} {z : State} {l : ℕ} {skew : ℕ} {s : State} (hw : Within 0x440000003200 W) (h_s : Keeps W z s) : KeepsOut W z (execLaneDeskewDone l skew s) := by
  unfold execLaneDeskewDone
  (try dsimp only)
  exact (KeepsOut.onUnit (Keeps.ite h_s (Keeps.ite (State.laneFail_keeps (hw.mono rfl) h_s) (Keeps.ite (State.spareNow_keeps (hw.mono rfl) (Keeps.ite (State.rxRole_keeps (hw.mono rfl) (State.txRole_keeps (hw.mono rfl) (State.setStage_keeps (hw.mono rfl) (State.adaptKeep_keeps (hw.mono rfl) h_s)))) (State.txRole_keeps (hw.mono rfl) (State.setStage_keeps (hw.mono rfl) (State.adaptKeep_keeps (hw.mono rfl) h_s))))) (State.setStage_keeps (hw.mono rfl) (State.adaptKeep_keeps (hw.mono rfl) h_s))))))

theorem execLaneCdrLoss_keeps {W : Nat} {z : State} {l : ℕ} {s : State} (hw : Within 0x440000007202 W) (h_s : Keeps W z s) : KeepsOut W z (execLaneCdrLoss l s) := by
  unfold execLaneCdrLoss
  (try dsimp only)
  exact (KeepsOut.onUnit (Keeps.ite (State.laneLost_keeps (hw.mono rfl) (State.inc_keeps (hw.mono rfl) h_s (hw.mono rfl))) (Keeps.ite (State.eyeLost_keeps (hw.mono rfl) (State.wrb_keeps (hw.mono rfl) (State.inc_keeps (hw.mono rfl) h_s (hw.mono rfl)) (hw.mono rfl))) h_s)))

theorem execLaneStuffViolation_keeps {W : Nat} {z : State} {l : ℕ} {t : ℕ} {s : State} (hw : Within 0x440000007202 W) (h_s : Keeps W z s) : KeepsOut W z (execLaneStuffViolation l t s) := by
  unfold execLaneStuffViolation
  (try dsimp only)
  exact (KeepsOut.onUnit (Keeps.ite h_s (Keeps.ite (State.laneLost_keeps (hw.mono rfl) (State.laneMod_keeps (hw.mono rfl) (State.inc_keeps (hw.mono rfl) h_s (hw.mono rfl)))) (State.laneMod_keeps (hw.mono rfl) (State.inc_keeps (hw.mono rfl) h_s (hw.mono rfl))))))

theorem State.leatCtl_keeps {W : Nat} {z : State} {s : State} {k : ℕ} {val : ℕ} (hw : Within 0x10c87ee81208f602 W) (h_s : Keeps W z s) : Keeps W z (State.leatCtl s k val) := by
  unfold State.leatCtl
  (try dsimp only)
  exact (Keeps.ite h_s (Keeps.ite (State.retrain_keeps (hw.mono rfl) (State.linkTry_keeps (hw.mono rfl) (State.domKick_keeps (hw.mono rfl) (Keeps.ite (State.goDisabled_keeps (hw.mono rfl) (State.takeWord_keeps (hw.mono rfl) h_s (hw.mono rfl))) (State.takeWord_keeps (hw.mono rfl) h_s (hw.mono rfl)))))) (State.linkTry_keeps (hw.mono rfl) (State.domKick_keeps (hw.mono rfl) (Keeps.ite (State.goDisabled_keeps (hw.mono rfl) (State.takeWord_keeps (hw.mono rfl) h_s (hw.mono rfl))) (State.takeWord_keeps (hw.mono rfl) h_s (hw.mono rfl)))))))

theorem execLeatCtlWrite_keeps {W : Nat} {z : State} {k : ℕ} {val : ℕ} {s : State} (hw : Within 0x10c87ee81208f602 W) (h_s : Keeps W z s) : KeepsOut W z (execLeatCtlWrite k val s) := by
  unfold execLeatCtlWrite
  (try dsimp only)
  exact (KeepsOut.onUnit (State.onTile_keeps (hw.mono rfl) h_s (State.leatCtl_keeps (hw.mono rfl) h_s)))

theorem execLeatRetrainCmd_keeps {W : Nat} {z : State} {k : ℕ} {val : ℕ} {s : State} (hw : Within 0x10c87ee81208f602 W) (h_s : Keeps W z s) : KeepsOut W z (execLeatRetrainCmd k val s) := by
  unfold execLeatRetrainCmd
  (try dsimp only)
  exact (KeepsOut.onUnit (State.onTile_keeps (hw.mono rfl) h_s (State.leatCtl_keeps (hw.mono rfl) h_s)))

theorem execLeatLanesReady_keeps {W : Nat} {z : State} {k : ℕ} {s : State} (hw : Within 0x10c87ea81208f606 W) (h_s : Keeps W z s) : KeepsOut W z (execLeatLanesReady k s) := by
  unfold execLeatLanesReady
  (try dsimp only)
  exact (KeepsOut.onUnit (Keeps.ite (State.startExch_keeps (hw.mono rfl) h_s) h_s))

theorem execLeatDegradedWaitExpire_keeps {W : Nat} {z : State} {k : ℕ} {atEighteen : Bool} {s : State} (hw : Within 0x10c87ea81208f606 W) (h_s : Keeps W z s) : KeepsOut W z (execLeatDegradedWaitExpire k atEighteen s) := by
  unfold execLeatDegradedWaitExpire
  (try dsimp only)
  exact (KeepsOut.onUnit (Keeps.ite (Keeps.ite (State.miswireAll_keeps (hw.mono rfl) h_s) (State.startExch_keeps (hw.mono rfl) h_s)) h_s))

theorem execLeatTrainingTimeout_keeps {W : Nat} {z : State} {k : ℕ} {s : State} (hw : Within 0x10c87ea81208f602 W) (h_s : Keeps W z s) : KeepsOut W z (execLeatTrainingTimeout k s) := by
  unfold execLeatTrainingTimeout
  (try dsimp only)
  exact (KeepsOut.onUnit (Keeps.ite (State.goDown_keeps (hw.mono rfl) h_s) h_s))

theorem execLeatRetrainIdleEnd_keeps {W : Nat} {z : State} {k : ℕ} {s : State} (hw : Within 0x40000003000 W) (h_s : Keeps W z s) : KeepsOut W z (execLeatRetrainIdleEnd k s) := by
  unfold execLeatRetrainIdleEnd
  (try dsimp only)
  exact (KeepsOut.onUnit (Keeps.ite (State.each_keeps (State.lkMod_keeps (hw.mono rfl) h_s) (fun _ h1 _ => (State.laneStart_keeps (hw.mono rfl) h1))) h_s))

theorem execLeatRetrainTimeout_keeps {W : Nat} {z : State} {k : ℕ} {s : State} (hw : Within 0x10c87ea81208f602 W) (h_s : Keeps W z s) : KeepsOut W z (execLeatRetrainTimeout k s) := by
  unfold execLeatRetrainTimeout
  (try dsimp only)
  exact (KeepsOut.onUnit (Keeps.ite (State.goDown_keeps (hw.mono rfl) h_s) h_s))

theorem execLeatDownRetry_keeps {W : Nat} {z : State} {k : ℕ} {s : State} (hw : Within 0x440000003000 W) (h_s : Keeps W z s) : KeepsOut W z (execLeatDownRetry k s) := by
  unfold execLeatDownRetry
  (try dsimp only)
  exact (KeepsOut.onUnit (Keeps.ite (State.enterTraining_keeps (hw.mono rfl) h_s) h_s))

theorem execSpareReqRepeat_keeps {W : Nat} {z : State} {k : ℕ} {y : ℕ} {s : State} (hw : Within 0x400000007002 W) (h_s : Keeps W z s) : KeepsOut W z (execSpareReqRepeat k y s) := by
  unfold execSpareReqRepeat
  (try dsimp only)
  exact (KeepsOut.onUnit (Keeps.ite (State.mgmtSend_keeps (hw.mono rfl) h_s) h_s))

theorem execLeatDataReceive_keeps {W : Nat} {z : State} {k : ℕ} {hdr : ℕ} {trl : ℕ} {msgs : List Msg} {s : State} (hw : Within 0x10c87ea81208f602 W) (h_s : Keeps W z s) : KeepsOut W z (execLeatDataReceive k hdr trl msgs s) := by
  unfold execLeatDataReceive
  (try dsimp only)
  exact (KeepsOut.onUnit (Keeps.ite h_s (Keeps.ite (State.protoError_keeps (hw.mono rfl) h_s) (Keeps.ite (State.rxUnit_keeps (hw.mono rfl) h_s) (State.linkGo_keeps (hw.mono rfl) (Keeps.ite (State.misroute_keeps (hw.mono rfl) (State.lkMod_keeps (hw.mono rfl) (State.takeCred_keeps (hw.mono rfl) (State.rxUnit_keeps (hw.mono rfl) h_s)))) (State.lkMod_keeps (hw.mono rfl) (State.takeCred_keeps (hw.mono rfl) (State.rxUnit_keeps (hw.mono rfl) h_s)))))))))

theorem execLeatIdleReceive_keeps {W : Nat} {z : State} {k : ℕ} {hdr : ℕ} {trl : ℕ} {s : State} (hw : Within 0x10c87ea81208f602 W) (h_s : Keeps W z s) : KeepsOut W z (execLeatIdleReceive k hdr trl s) := by
  unfold execLeatIdleReceive
  (try dsimp only)
  exact (KeepsOut.onUnit (Keeps.ite h_s (Keeps.ite (State.protoError_keeps (hw.mono rfl) h_s) (Keeps.ite (State.misroute_keeps (hw.mono rfl) h_s) (State.linkGo_keeps (hw.mono rfl) (State.takeCred_keeps (hw.mono rfl) (State.showNext_keeps (hw.mono rfl) h_s)))))))

theorem execLeatAckReceive_keeps {W : Nat} {z : State} {k : ℕ} {hdr : ℕ} {trl : ℕ} {a : AckBody} {t : ℕ} {s : State} (hw : Within 0x10c87ea81208f602 W) (h_s : Keeps W z s) : KeepsOut W z (execLeatAckReceive k hdr trl a t s) := by
  unfold execLeatAckReceive
  (try dsimp only)
  exact (KeepsOut.onUnit (Keeps.ite h_s (Keeps.ite (State.protoError_keeps (hw.mono rfl) h_s) (Keeps.ite (State.misroute_keeps (hw.mono rfl) h_s) (Keeps.ite (State.inc_keeps (hw.mono rfl) h_s (hw.mono rfl)) (State.linkGo_keeps (hw.mono rfl) (State.resend_keeps (hw.mono rfl) (State.mgmtSlots_keeps (hw.mono rfl) (State.freeUnits_keeps (hw.mono rfl) (State.takeLimits_keeps (hw.mono rfl) (State.measure_keeps (hw.mono rfl) (State.takeCred_keeps (hw.mono rfl) (State.showNext_keeps (hw.mono rfl) h_s)))))))))))))

theorem execLeatInitReceive_keeps {W : Nat} {z : State} {k : ℕ} {lane : ℕ} {hdr : ℕ} {trl : ℕ} {b : InitBody} {t : ℕ} {s : State} (hw : Within 0x10c87ea81248f606 W) (h_s : Keeps W z s) : KeepsOut W z (execLeatInitReceive k lane hdr trl b t s) := by
  unfold execLeatInitReceive
  (try dsimp only)
  exact (KeepsOut.onUnit (Keeps.ite h_s (Keeps.ite (State.protoError_keeps (hw.mono rfl) h_s) (Keeps.ite (State.misroute_keeps (hw.mono rfl) h_s) (Keeps.ite h_s (Keeps.ite (State.goDown_keeps (hw.mono rfl) (State.measure_keeps (hw.mono rfl) h_s)) (State.exchDone_keeps (hw.mono rfl) (State.sendInit_keeps (hw.mono rfl) (Keeps.ite (by split <;> [(exact (State.assignTx_keeps (hw.mono rfl) (State.lkMod_keeps (hw.mono rfl) (Keeps.ite (State.takeLimits_keeps (hw.mono rfl) (State.measure_keeps (hw.mono rfl) h_s)) (State.wr_keeps (State.wr_keeps (State.wr_keeps (State.measure_keeps (hw.mono rfl) h_s) (hw.mono rfl)) (hw.mono rfl)) (hw.mono rfl)))))); (exact (State.lkMod_keeps (hw.mono rfl) (Keeps.ite (State.takeLimits_keeps (hw.mono rfl) (State.measure_keeps (hw.mono rfl) h_s)) (State.wr_keeps (State.wr_keeps (State.wr_keeps (State.measure_keeps (hw.mono rfl) h_s) (hw.mono rfl)) (hw.mono rfl)) (hw.mono rfl)))))]) (State.lkMod_keeps (hw.mono rfl) (Keeps.ite (State.takeLimits_keeps (hw.mono rfl) (State.measure_keeps (hw.mono rfl) h_s)) (State.wr_keeps (State.wr_keeps (State.wr_keeps (State.measure_keeps (hw.mono rfl) h_s) (hw.mono rfl)) (hw.mono rfl)) (hw.mono rfl)))))))))))))

theorem execLeatUnitCrcFail_keeps {W : Nat} {z : State} {k : ℕ} {bytes : List Byte} {s : State} (hw : Within 0x10c87ea81208f602 W) (h_s : Keeps W z s) : KeepsOut W z (execLeatUnitCrcFail k bytes s) := by
  unfold execLeatUnitCrcFail
  (try dsimp only)
  exact (KeepsOut.onUnit (Keeps.ite h_s (Keeps.ite (State.inc_keeps (hw.mono rfl) h_s (hw.mono rfl)) (Keeps.ite (State.protoError_keeps (hw.mono rfl) h_s) h_s))))

theorem State.rxMgmt_keeps {W : Nat} {z : State} {s : State} {k : ℕ} {hdr : ℕ} {trl : ℕ} {act : State → State} (hw : Within 0x10c87ea81208f602 W) (h_s : Keeps W z s) (h_act : ∀ y0, Keeps W z y0 → Keeps W z (act y0)) : Keeps W z (State.rxMgmt s k hdr trl act) := by
  unfold State.rxMgmt
  (try dsimp only)
  exact (Keeps.ite h_s (Keeps.ite (State.protoError_keeps (hw.mono rfl) h_s) (Keeps.ite (State.rxUnit_keeps (hw.mono rfl) h_s) (State.linkGo_keeps (hw.mono rfl) (Keeps.ite (State.misroute_keeps (hw.mono rfl) (State.takeCred_keeps (hw.mono rfl) (State.rxUnit_keeps (hw.mono rfl) h_s))) (Keeps.ite (State.takeCred_keeps (hw.mono rfl) (State.rxUnit_keeps (hw.mono rfl) h_s)) (h_act _ (State.takeCred_keeps (hw.mono rfl) (State.rxUnit_keeps (hw.mono rfl) h_s)))))))))

theorem execSpareReq_keeps {W : Nat} {z : State} {k : ℕ} {hdr : ℕ} {trl : ℕ} {y : ℕ} {s : State} (hw : Within 0x10c87ea81208f602 W) (h_s : Keeps W z s) : KeepsOut W z (execSpareReq k hdr trl y s) := by
  unfold execSpareReq
  (try dsimp only)
  exact (KeepsOut.onUnit (State.rxMgmt_keeps (hw.mono rfl) h_s (fun _ h1 => (State.spareReq_keeps (hw.mono rfl) h1))))

theorem execRetrainReq_keeps {W : Nat} {z : State} {k : ℕ} {hdr : ℕ} {trl : ℕ} {cause : ℕ} {s : State} (hw : Within 0x10c87ea81208f602 W) (h_s : Keeps W z s) : KeepsOut W z (execRetrainReq k hdr trl cause s) := by
  unfold execRetrainReq
  (try dsimp only)
  exact (KeepsOut.onUnit (Keeps.ite h_s (Keeps.ite (State.protoError_keeps (hw.mono rfl) h_s) (Keeps.ite (State.misroute_keeps (hw.mono rfl) h_s) (State.retrain_keeps (hw.mono rfl) h_s)))))

theorem execLpReq_keeps {W : Nat} {z : State} {k : ℕ} {hdr : ℕ} {trl : ℕ} {s : State} (hw : Within 0x10c87ea81208f602 W) (h_s : Keeps W z s) : KeepsOut W z (execLpReq k hdr trl s) := by
  unfold execLpReq
  (try dsimp only)
  exact (KeepsOut.onUnit (State.rxMgmt_keeps (hw.mono rfl) h_s (fun _ h1 => (Keeps.ite (State.doze_keeps (hw.mono rfl) h1) (Keeps.ite (State.doze_keeps (hw.mono rfl) (State.mgmtSend_keeps (hw.mono rfl) h1)) h1)))))

theorem execLpAck_keeps {W : Nat} {z : State} {k : ℕ} {hdr : ℕ} {trl : ℕ} {s : State} (hw : Within 0x10c87ea81208f602 W) (h_s : Keeps W z s) : KeepsOut W z (execLpAck k hdr trl s) := by
  unfold execLpAck
  (try dsimp only)
  exact (KeepsOut.onUnit (State.rxMgmt_keeps (hw.mono rfl) h_s (fun _ h1 => (Keeps.ite (State.doze_keeps (hw.mono rfl) h1) h1))))

theorem execLeatDozeIdle_keeps {W : Nat} {z : State} {k : ℕ} {s : State} (hw : Within 0x400000007002 W) (h_s : Keeps W z s) : KeepsOut W z (execLeatDozeIdle k s) := by
  unfold execLeatDozeIdle
  (try dsimp only)
  exact (KeepsOut.onUnit (Keeps.ite (State.lkMod_keeps (hw.mono rfl) (State.mgmtSend_keeps (hw.mono rfl) h_s)) h_s))

theorem execLeatWake_keeps {W : Nat} {z : State} {k : ℕ} {s : State} (hw : Within 0x400000003002 W) (h_s : Keeps W z s) : KeepsOut W z (execLeatWake k s) := by
  unfold execLeatWake
  (try dsimp only)
  exact (KeepsOut.onUnit (Keeps.ite (State.retrain_keeps (hw.mono rfl) h_s) h_s))

theorem execLeatAckTimer_keeps {W : Nat} {z : State} {k : ℕ} {t : ℕ} {s : State} (hw : Within 0x2002 W) (h_s : Keeps W z s) : KeepsOut W z (execLeatAckTimer k t s) := by
  unfold execLeatAckTimer
  (try dsimp only)
  exact (KeepsOut.onUnit (Keeps.ite (State.sendUnit_keeps (hw.mono rfl) (State.trailer_keeps (hw.mono rfl) h_s)) h_s))

theorem execLeatReplayTimeout_keeps {W : Nat} {z : State} {k : ℕ} {s : State} (hw : Within 0x400000003402 W) (h_s : Keeps W z s) : KeepsOut W z (execLeatReplayTimeout k s) := by
  unfold execLeatReplayTimeout
  (try dsimp only)
  exact (KeepsOut.onUnit (by split <;> [(exact h_s); (exact (Keeps.ite h_s (Keeps.ite (State.retrain_keeps (hw.mono rfl) (State.resend_keeps (hw.mono rfl) (State.wr_keeps (State.inc_keeps (hw.mono rfl) h_s (hw.mono rfl)) (hw.mono rfl)))) (State.resend_keeps (hw.mono rfl) (State.wr_keeps (State.inc_keeps (hw.mono rfl) h_s (hw.mono rfl)) (hw.mono rfl))))))]))

/-! ### Egress -/

theorem State.boundaryStops_keeps {W : Nat} {z : State} {s : State} {x : ℕ} {m : Msg} (hw : Within 0x8000000008002 W) (h_s : Keeps W z s) : KeepsOpt W z (State.boundaryStops s x m) := by
  unfold State.boundaryStops
  (try dsimp only)
  exact (KeepsOpt.ite KeepsOpt.none (KeepsOpt.ite (KeepsOpt.ite (KeepsOpt.some (State.domOrphan_keeps (hw.mono rfl) h_s)) KeepsOpt.none) (KeepsOpt.ite KeepsOpt.none (KeepsOpt.ite (KeepsOpt.some (State.reply_keeps (hw.mono rfl) h_s)) (KeepsOpt.some (State.domRefuse_keeps (hw.mono rfl) h_s))))))

theorem State.dropAt_keeps {W : Nat} {z : State} {s : State} {x : ℕ} {d : Stored} (hw : Within 0x10c810a01200a602 W) (h_s : Keeps W z s) : Keeps W z (State.dropAt s x d) := by
  unfold State.dropAt
  (try dsimp only)
  exact (State.drainAll_keeps (hw.mono rfl) (State.copyGone_keeps (hw.mono rfl) (State.tdResolve_keeps (hw.mono rfl) (State.tdMove_keeps (hw.mono rfl) h_s))))

theorem State.startSend_keeps {W : Nat} {z : State} {s : State} {x : ℕ} {t : ℕ} {g : ℕ} {d : Stored} {chk : Option ℕ} {ps : List Msg} (hw : Within 0x10c010a012008602 W) (h_s : Keeps W z s) : Keeps W z (State.startSend s x t g d chk ps) := by
  unfold State.startSend
  (try dsimp only)
  exact (State.each_keeps (State.tdMove_keeps (hw.mono rfl) (State.swcMod_keeps (hw.mono rfl) h_s)) (fun _ h1 _ => (State.mirror_keeps (hw.mono rfl) h1)))

theorem State.gateTells_keeps {W : Nat} {z : State} {s : State} {g : ℕ} {m : Msg} (hw : Within 0x100000 W) (h_s : Keeps W z s) : Keeps W z (State.gateTells s g m) := by
  unfold State.gateTells
  (try dsimp only)
  exact (Keeps.ite (Keeps.set_run (hw.mono rfl) h_s) h_s)

theorem State.ownDenied_keeps {W : Nat} {z : State} {s : State} {m : Msg} (hw : Within 0x10c87aa81228a602 W) (h_s : Keeps W z s) : Keeps W z (State.ownDenied s m) := by
  unfold State.ownDenied
  (try dsimp only)
  exact (Keeps.ite h_s (Keeps.ite (State.runDeferred_keeps (hw.mono rfl) (Keeps.ite (State.poolWritten_keeps (hw.mono rfl) h_s) (State.poolData_keeps (hw.mono rfl) h_s))) (Keeps.ite (State.tenderDenied_keeps (hw.mono rfl) h_s) h_s)))

theorem State.present_keeps {W : Nat} {z : State} {s : State} {x : ℕ} {t : ℕ} {g : ℕ} {d : Stored} (hw : Within 0x10c8faaa1338e602 W) (h_s : Keeps W z s) : Keeps W z (State.present s x t g d) := by
  unfold State.present
  (try dsimp only)
  exact (Keeps.ite (Keeps.ite (State.ownDenied_keeps (hw.mono rfl) (State.dropAt_keeps (hw.mono rfl) (State.gateCheck_keeps (hw.mono rfl) h_s))) (State.startSend_keeps (hw.mono rfl) (State.gateTells_keeps (hw.mono rfl) (State.gateCheck_keeps (hw.mono rfl) h_s)))) (Keeps.ite (State.sendMsg_keeps (hw.mono rfl) (State.startSend_keeps (hw.mono rfl) h_s)) (by split <;> [(rename_i e_; have h1 := (State.boundaryStops_keeps (hw.mono rfl) h_s) _ e_; exact (State.dropAt_keeps (hw.mono rfl) h1)); (exact (State.startSend_keeps (hw.mono rfl) (State.when_keeps h_s (fun _ h2 => (State.mesh_keeps (hw.mono rfl) h2)))))])))

theorem State.cellError_keeps {W : Nat} {z : State} {s : State} {x : ℕ} {t : ℕ} {g : ℕ} {d : Stored} {cell : ℕ} (hw : Within 0x10c8faaa1338e602 W) (h_s : Keeps W z s) : Keeps W z (State.cellError s x t g d cell) := by
  unfold State.cellError
  (try dsimp only)
  exact (Keeps.ite (State.present_keeps (hw.mono rfl) (State.storedMod_keeps (hw.mono rfl) (State.pulse_keeps (hw.mono rfl) (State.wr_keeps (State.inc_keeps (hw.mono rfl) h_s (hw.mono rfl)) (hw.mono rfl))))) (State.dropAt_keeps (hw.mono rfl) (State.undeliverable_keeps (hw.mono rfl) (State.pulse_keeps (hw.mono rfl) (State.wr_keeps (State.inc_keeps (hw.mono rfl) h_s (hw.mono rfl)) (hw.mono rfl))))))

theorem State.queueFault_keeps {W : Nat} {z : State} {s : State} {x : ℕ} {t : ℕ} {g : ℕ} (hw : Within 0x108050281200a202 W) (h_s : Keeps W z s) : Keeps W z (State.queueFault s x t g) := by
  unfold State.queueFault
  (try dsimp only)
  exact (State.each_keeps (State.setQueue_keeps (hw.mono rfl) (State.pulse_keeps (hw.mono rfl) (State.wrb_keeps (hw.mono rfl) h_s (hw.mono rfl)))) (fun _ h1 _ => (by split <;> [(exact h1); (exact (by split <;> [(exact (Keeps.ite (State.unstoreLost_keeps (hw.mono rfl) (State.eqSub_keeps (hw.mono rfl) (State.undeliverable_keeps (hw.mono rfl) h1))) (State.storedMod_keeps (hw.mono rfl) (State.eqSub_keeps (hw.mono rfl) (State.undeliverable_keeps (hw.mono rfl) h1))))); (exact (State.eqSub_keeps (hw.mono rfl) (State.undeliverable_keeps (hw.mono rfl) h1)))]))])))

theorem State.schedule_keeps {W : Nat} {z : State} {s : State} {x : ℕ} {credits : ℕ} {err : ℕ} {cell : ℕ} (hw : Within 0x10c8faaa1339e602 W) (h_s : Keeps W z s) : Keeps W z (State.schedule s x credits err cell) := by
  unfold State.schedule
  (try dsimp only)
  exact (by split <;> [(exact (State.when_keeps h_s (fun _ h1 => (State.tagUpdate_keeps (hw.mono rfl) h1)))); (exact (Keeps.ite (State.present_keeps (hw.mono rfl) (State.inc_keeps (hw.mono rfl) (State.setQueue_keeps (hw.mono rfl) (State.served_keeps (hw.mono rfl) (State.when_keeps h_s (fun _ h2 => (State.tagUpdate_keeps (hw.mono rfl) h2))))) (hw.mono rfl))) (Keeps.ite (State.cellError_keeps (hw.mono rfl) (State.setQueue_keeps (hw.mono rfl) (State.served_keeps (hw.mono rfl) (State.when_keeps h_s (fun _ h3 => (State.tagUpdate_keeps (hw.mono rfl) h3)))))) (State.present_keeps (hw.mono rfl) (State.setQueue_keeps (hw.mono rfl) (State.served_keeps (hw.mono rfl) (State.when_keeps h_s (fun _ h4 => (State.tagUpdate_keeps (hw.mono rfl) h4)))))))))])

theorem execEgressSchedule_keeps {W : Nat} {z : State} {x : ℕ} {credits : ℕ} {err : ℕ} {cell : ℕ} {s : State} (hw : Within 0x10c9faaa1339e602 W) (h_s : Keeps W z s) : KeepsOut W z (execEgressSchedule x credits err cell s) := by
  unfold execEgressSchedule
  (try dsimp only)
  exact (KeepsOut.onUnit (Keeps.ite (State.queueFault_keeps (hw.mono rfl) (Keeps.ite (State.weirError_keeps (hw.mono rfl) h_s) (Keeps.ite (State.rotFault_keeps (hw.mono rfl) h_s) (Keeps.ite (State.gateError_keeps (hw.mono rfl) h_s) (Keeps.ite (State.gateError_keeps (hw.mono rfl) h_s) h_s))))) (Keeps.ite (State.schedule_keeps (hw.mono rfl) (Keeps.ite (State.weirError_keeps (hw.mono rfl) h_s) (Keeps.ite (State.rotFault_keeps (hw.mono rfl) h_s) (Keeps.ite (State.gateError_keeps (hw.mono rfl) h_s) (Keeps.ite (State.gateError_keeps (hw.mono rfl) h_s) h_s))))) (Keeps.ite (State.weirError_keeps (hw.mono rfl) h_s) (Keeps.ite (State.rotFault_keeps (hw.mono rfl) h_s) (Keeps.ite (State.gateError_keeps (hw.mono rfl) h_s) (Keeps.ite (State.gateError_keeps (hw.mono rfl) h_s) h_s)))))))

/-! ### Port -/

theorem State.portMod_keeps {W : Nat} {z : State} {s : State} {p : ℕ} {f : PortS → PortS} (hw : Within 0x400000 W) (h_s : Keeps W z s) : Keeps W z (State.portMod s p f) := by
  unfold State.portMod
  (try dsimp only)
  exact (Keeps.set_prt (hw.mono rfl) h_s)

theorem State.bridgeMod_keeps {W : Nat} {z : State} {s : State} {b : ℕ} {f : Bridge → Bridge} (hw : Within 0x400000 W) (h_s : Keeps W z s) : Keeps W z (State.bridgeMod s b f) := by
  unfold State.bridgeMod
  (try dsimp only)
  exact (Keeps.set_prt (hw.mono rfl) h_s)

theorem State.bridgeEvent_keeps {W : Nat} {z : State} {s : State} {b : ℕ} {n : ℕ} (hw : Within 0x400002 W) (h_s : Keeps W z s) : Keeps W z (State.bridgeEvent s b n) := by
  unfold State.bridgeEvent
  (try dsimp only)
  exact (State.send_keeps (hw.mono rfl) (State.bridgeMod_keeps (hw.mono rfl) h_s))

theorem State.boundEvent_keeps {W : Nat} {z : State} {s : State} {p : ℕ} {n : ℕ} (hw : Within 0x400002 W) (h_s : Keeps W z s) : Keeps W z (State.boundEvent s p n) := by
  unfold State.boundEvent
  (try dsimp only)
  exact (State.each_keeps h_s (fun _ h1 _ => (State.bridgeEvent_keeps (hw.mono rfl) h1)))

theorem State.slotEvent_keeps {W : Nat} {z : State} {s : State} {p : ℕ} {n : ℕ} (hw : Within 0x400002 W) (h_s : Keeps W z s) : Keeps W z (State.slotEvent s p n) := by
  unfold State.slotEvent
  (try dsimp only)
  exact (Keeps.ite (State.boundEvent_keeps (hw.mono rfl) h_s) h_s)

theorem State.presentNow_keeps {W : Nat} {z : State} {s : State} {p : ℕ} (hw : Within 0x100000000000 W) (h_s : Keeps W z s) : Keeps W z (State.presentNow s p) := by
  unfold State.presentNow
  (try dsimp only)
  exact (State.wrb_keeps (hw.mono rfl) h_s (hw.mono rfl))

theorem State.presenceTurn_keeps {W : Nat} {z : State} {s : State} {p : ℕ} (hw : Within 0x100000400002 W) (h_s : Keeps W z s) : Keeps W z (State.presenceTurn s p) := by
  unfold State.presenceTurn
  (try dsimp only)
  exact (State.slotEvent_keeps (hw.mono rfl) (State.wrb_keeps (hw.mono rfl) (State.presentNow_keeps (hw.mono rfl) h_s) (hw.mono rfl)))

theorem State.poweredNow_keeps {W : Nat} {z : State} {s : State} {p : ℕ} (hw : Within 0x100000000000 W) (h_s : Keeps W z s) : Keeps W z (State.poweredNow s p) := by
  unfold State.poweredNow
  (try dsimp only)
  exact (by split <;> [(exact (State.wrb_keeps (hw.mono rfl) h_s (hw.mono rfl))); (exact (State.wrb_keeps (hw.mono rfl) h_s (hw.mono rfl)))])

theorem State.portLaneIdle_keeps {W : Nat} {z : State} {s : State} {l : ℕ} (hw : Within 0x40000001000 W) (h_s : Keeps W z s) : Keeps W z (State.portLaneIdle s l) := by
  unfold State.portLaneIdle
  (try dsimp only)
  exact (State.wrb_keeps (hw.mono rfl) (State.wr_keeps (State.wrb_keeps (hw.mono rfl) (State.eyeLost_keeps (hw.mono rfl) h_s) (hw.mono rfl)) (hw.mono rfl)) (hw.mono rfl))

theorem State.dlDown_keeps {W : Nat} {z : State} {s : State} {p : ℕ} {st : ℕ} {planned : Bool} (hw : Within 0x10c976a8124bb602 W) (h_s : Keeps W z s) : Keeps W z (State.dlDown s p st planned) := by
  unfold State.dlDown
  (try dsimp only)
  exact (Keeps.ite (State.wr_keeps (State.each_fields_keeps (hw.mono rfl) (State.when_keeps h_s (fun _ h1 => (State.portMod_keeps (hw.mono rfl) (State.each_keeps h1 (fun _ h2 _ => (State.adaptKeep_keeps (hw.mono rfl) h2)))))) (fun _ h3 _ h4 => (State.clr1_keeps (hw.mono rfl) h3 h4))) (hw.mono rfl)) (State.drainAll_keeps (hw.mono rfl) (State.considerAll_keeps (hw.mono rfl) (State.boundEvent_keeps (hw.mono rfl) (State.when_keeps (State.swcMod_keeps (hw.mono rfl) (State.settleOwed_keeps (hw.mono rfl) (State.each_keeps (State.flushEgress_keeps (hw.mono rfl) (State.truncate_keeps (hw.mono rfl) (State.when_keeps (State.countEv_keeps (hw.mono rfl) (State.inc_keeps (hw.mono rfl) (State.each_keeps (State.wr_keeps (State.each_fields_keeps (hw.mono rfl) (State.when_keeps h_s (fun _ h5 => (State.portMod_keeps (hw.mono rfl) (State.each_keeps h5 (fun _ h6 _ => (State.adaptKeep_keeps (hw.mono rfl) h6)))))) (fun _ h7 _ h8 => (State.clr1_keeps (hw.mono rfl) h7 h8))) (hw.mono rfl)) (fun _ h9 _ => (State.portLaneIdle_keeps (hw.mono rfl) h9))) (hw.mono rfl))) (fun _ h10 => (State.pulse_keeps (hw.mono rfl) h10))))) (fun _ h11 _ => (State.zeroed_keeps (hw.mono rfl) h11))) (fun _ h12 _ => (State.lostAtPort_keeps (hw.mono rfl) h12)))) (fun _ h13 => (State.agentLost_keeps (hw.mono rfl) h13)))))))

theorem State.readyNow_keeps {W : Nat} {z : State} {s : State} {p : ℕ} (hw : Within 0x4000000000 W) (h_s : Keeps W z s) : Keeps W z (State.readyNow s p) := by
  unfold State.readyNow
  (try dsimp only)
  exact (State.setBit_keeps (hw.mono rfl) h_s (hw.mono rfl))

theorem State.perstLow_keeps {W : Nat} {z : State} {s : State} {p : ℕ} {planned : Bool} (hw : Within 0x10c976e8124bb602 W) (h_s : Keeps W z s) : Keeps W z (State.perstLow s p planned) := by
  unfold State.perstLow
  (try dsimp only)
  exact (Keeps.ite (State.setBit_keeps (hw.mono rfl) h_s (hw.mono rfl)) (State.dlDown_keeps (hw.mono rfl) (State.setBit_keeps (hw.mono rfl) h_s (hw.mono rfl))))

theorem State.toPeer_keeps {W : Nat} {z : State} {s : State} {n : ℕ} {op : List ℕ} (hw : Within 0x400000007002 W) (h_s : Keeps W z s) : Keeps W z (State.toPeer s n op) := by
  unfold State.toPeer
  (try dsimp only)
  exact (by split <;> [(exact (State.mgmtSend_keeps (hw.mono rfl) h_s)); (exact h_s)])

theorem State.targetReset_keeps {W : Nat} {z : State} {s : State} {p : ℕ} {ld : Option ℕ} (hw : Within 0x10c976a8124bb602 W) (h_s : Keeps W z s) : Keeps W z (State.targetReset s p ld) := by
  unfold State.targetReset
  (try dsimp only)
  exact (by split <;> [(exact (State.send_keeps (hw.mono rfl) h_s)); (exact (State.dlDown_keeps (hw.mono rfl) h_s))])

theorem State.propagate_keeps {W : Nat} {z : State} {s : State} {b : ℕ} (hw : Within 0x10c976a8124bf602 W) (h_s : Keeps W z s) : Keeps W z (State.propagate s b) := by
  unfold State.propagate
  (try dsimp only)
  exact (Keeps.ite h_s (Keeps.ite (State.targetReset_keeps (hw.mono rfl) h_s) (Keeps.ite (State.targetReset_keeps (hw.mono rfl) h_s) (Keeps.ite (State.toPeer_keeps (hw.mono rfl) h_s) h_s))))

theorem State.releasePeers_keeps {W : Nat} {z : State} {s : State} {p : ℕ} (hw : Within 0x400000007002 W) (h_s : Keeps W z s) : Keeps W z (State.releasePeers s p) := by
  unfold State.releasePeers
  (try dsimp only)
  exact (State.each_keeps h_s (fun _ h1 _ => (State.when_keeps h1 (fun _ h2 => (State.toPeer_keeps (hw.mono rfl) h2)))))

theorem State.pfReset_keeps {W : Nat} {z : State} {s : State} {p : ℕ} (hw : Within 0x1c06000000300200 W) (h_s : Keeps W z s) : Keeps W z (State.pfReset s p) := by
  unfold State.pfReset
  (try dsimp only)
  exact (State.clrWhere_keeps (hw.mono rfl) (State.each_fields_keeps (hw.mono rfl) (State.tenMod_keeps (hw.mono rfl) (State.tenPort_keeps (hw.mono rfl) h_s)) (fun _ h1 _ h2 => (State.clrWhere_keeps (hw.mono rfl) h1 h2))) (hw.mono rfl))

theorem State.functionsReset_keeps {W : Nat} {z : State} {s : State} {p : ℕ} {pins : optParam Bool false} (hw : Within 0x1ccf76a8127bf602 W) (h_s : Keeps W z s) : Keeps W z (State.functionsReset s p pins) := by
  unfold State.functionsReset
  (try dsimp only)
  exact (State.each_keeps (State.portMod_keeps (hw.mono rfl) (State.hdmClear_keeps (hw.mono rfl) (State.pfReset_keeps (hw.mono rfl) h_s))) (fun _ h1 _ => (State.propagate_keeps (hw.mono rfl) (State.bridgeMod_keeps (hw.mono rfl) h1))))

theorem State.portReset_keeps {W : Nat} {z : State} {s : State} {p : ℕ} {st : ℕ} {planned : Bool} {pins : optParam Bool false} (hw : Within 0x1ccf76a8127bf602 W) (h_s : Keeps W z s) : Keeps W z (State.portReset s p st planned pins) := by
  unfold State.portReset
  (try dsimp only)
  exact (State.functionsReset_keeps (hw.mono rfl) (State.dlDown_keeps (hw.mono rfl) h_s))

theorem State.linkLost_keeps {W : Nat} {z : State} {s : State} {p : ℕ} (hw : Within 0x1ccf76a8127bf602 W) (h_s : Keeps W z s) : Keeps W z (State.linkLost s p) := by
  unfold State.linkLost
  (try dsimp only)
  exact (Keeps.ite (State.portReset_keeps (hw.mono rfl) h_s) (State.dlDown_keeps (hw.mono rfl) h_s))

end Sys2Proof.Machine
end

