-- ==== Sys2Proof/Laws/KeepsE.lean ====
section
/-! SUPPORT. What every operation keeps, for the operations of Slu, Prt, Arch, Reset, Flash, Pwr: the queue, the canonical form of the register store, and
what lies outside the parts it may change (`Keeps`, `KeepsOut`, `KeepsOpt`). -/

namespace Sys2Proof.Machine

/-! ### Slu -/

theorem State.slotMod_keeps {W : Nat} {z : State} {s : State} {j : ℕ} {f : Slot → Slot} (hw : Within 0x800000 W) (h_s : Keeps W z s) : Keeps W z (State.slotMod s j f) := by
  unfold State.slotMod
  (try dsimp only)
  exact (Keeps.set_slots (hw.mono rfl) h_s)

theorem State.setSlot_keeps {W : Nat} {z : State} {s : State} {j : ℕ} {st : ℕ} (hw : Within 0x20000000000000 W) (h_s : Keeps W z s) : Keeps W z (State.setSlot s j st) := by
  unfold State.setSlot
  (try dsimp only)
  exact (State.wr_keeps h_s (hw.mono rfl))

theorem State.atPort_keeps {W : Nat} {z : State} {s : State} {j : ℕ} {f : State → ℕ → State} (hw : Within 0x0 W) (h_s : Keeps W z s) (h_f : ∀ y0, Keeps W z y0 → ∀ y1, Keeps W z (f y0 y1)) : Keeps W z (State.atPort s j f) := by
  unfold State.atPort
  (try dsimp only)
  exact (by split <;> [(exact (h_f _ h_s _)); (exact h_s)])

theorem State.fedNow_keeps {W : Nat} {z : State} {s : State} {j : ℕ} (hw : Within 0x20000000000000 W) (h_s : Keeps W z s) : Keeps W z (State.fedNow s j) := by
  unfold State.fedNow
  (try dsimp only)
  exact (State.wrb_keeps (hw.mono rfl) h_s (hw.mono rfl))

theorem State.feedBreak_keeps {W : Nat} {z : State} {s : State} {j : ℕ} {f : ℕ} (hw : Within 0x20000000800000 W) (h_s : Keeps W z s) : Keeps W z (State.feedBreak s j f) := by
  unfold State.feedBreak
  (try dsimp only)
  exact (State.slotMod_keeps (hw.mono rfl) (State.inc_keeps (hw.mono rfl) (State.wr_keeps h_s (hw.mono rfl)) (hw.mono rfl)))

theorem State.chooseFeed_keeps {W : Nat} {z : State} {s : State} {j : ℕ} (hw : Within 0x20000000800000 W) (h_s : Keeps W z s) : Keeps W z (State.chooseFeed s j) := by
  unfold State.chooseFeed
  (try dsimp only)
  exact (Keeps.ite (State.fedNow_keeps (hw.mono rfl) h_s) (Keeps.ite (Keeps.ite (State.wr_keeps (State.fedNow_keeps (hw.mono rfl) h_s) (hw.mono rfl)) (Keeps.ite (State.wr_keeps (State.fedNow_keeps (hw.mono rfl) h_s) (hw.mono rfl)) (State.fedNow_keeps (hw.mono rfl) h_s))) (Keeps.ite (State.feedBreak_keeps (hw.mono rfl) (State.fedNow_keeps (hw.mono rfl) h_s)) (State.fedNow_keeps (hw.mono rfl) h_s))))

theorem State.feedsOff_keeps {W : Nat} {z : State} {s : State} {j : ℕ} (hw : Within 0x20000000800000 W) (h_s : Keeps W z s) : Keeps W z (State.feedsOff s j) := by
  unfold State.feedsOff
  (try dsimp only)
  exact (State.slotMod_keeps (hw.mono rfl) (State.wr_keeps h_s (hw.mono rfl)))

theorem State.rampStart_keeps {W : Nat} {z : State} {s : State} {j : ℕ} (hw : Within 0x20000000800000 W) (h_s : Keeps W z s) : Keeps W z (State.rampStart s j) := by
  unfold State.rampStart
  (try dsimp only)
  exact (State.slotMod_keeps (hw.mono rfl) (State.wr_keeps (State.wrb_keeps (hw.mono rfl) (State.setSlot_keeps (hw.mono rfl) h_s) (hw.mono rfl)) (hw.mono rfl)))

theorem State.loadOn_keeps {W : Nat} {z : State} {s : State} {j : ℕ} (hw : Within 0x100000400000 W) (h_s : Keeps W z s) : Keeps W z (State.loadOn s j) := by
  unfold State.loadOn
  (try dsimp only)
  exact (Keeps.ite (State.atPort_keeps (hw.mono rfl) h_s (fun _ h1 _ => (Keeps.ite (State.wrb_keeps (hw.mono rfl) (State.each_keeps h1 (fun _ h2 _ => (State.bridgeMod_keeps (hw.mono rfl) h2))) (hw.mono rfl)) (State.each_keeps h1 (fun _ h3 _ => (State.bridgeMod_keeps (hw.mono rfl) h3)))))) h_s)

theorem State.powerOn_keeps {W : Nat} {z : State} {s : State} {j : ℕ} {auto : Bool} (hw : Within 0x20100000c00000 W) (h_s : Keeps W z s) : Keeps W z (State.powerOn s j auto) := by
  unfold State.powerOn
  (try dsimp only)
  exact (Keeps.ite h_s (Keeps.ite (State.slotMod_keeps (hw.mono rfl) h_s) (Keeps.ite (State.wrb_keeps (hw.mono rfl) (State.when_keeps h_s (fun _ h1 => (State.loadOn_keeps (hw.mono rfl) h1))) (hw.mono rfl)) (State.rampStart_keeps (hw.mono rfl) (State.when_keeps h_s (fun _ h2 => (State.loadOn_keeps (hw.mono rfl) h2)))))))

theorem State.autoOn_keeps {W : Nat} {z : State} {s : State} {j : ℕ} (hw : Within 0x20100000c00000 W) (h_s : Keeps W z s) : Keeps W z (State.autoOn s j) := by
  unfold State.autoOn
  (try dsimp only)
  exact (Keeps.ite (State.powerOn_keeps (hw.mono rfl) h_s) h_s)

theorem State.fetOff_keeps {W : Nat} {z : State} {s : State} {j : ℕ} {st : ℕ} (hw : Within 0x20100000000000 W) (h_s : Keeps W z s) : Keeps W z (State.fetOff s j st) := by
  unfold State.fetOff
  (try dsimp only)
  exact (State.atPort_keeps (hw.mono rfl) (State.wrb_keeps (hw.mono rfl) (State.wr_keeps (State.wrb_keeps (hw.mono rfl) (State.setSlot_keeps (hw.mono rfl) h_s) (hw.mono rfl)) (hw.mono rfl)) (hw.mono rfl)) (fun _ h1 _ => (State.poweredNow_keeps (hw.mono rfl) h1)))

theorem State.powerOff_keeps {W : Nat} {z : State} {s : State} {j : ℕ} (hw : Within 0x10e976e812cbb602 W) (h_s : Keeps W z s) : Keeps W z (State.powerOff s j) := by
  unfold State.powerOff
  (try dsimp only)
  exact (Keeps.ite (State.fetOff_keeps (hw.mono rfl) (State.slotMod_keeps (hw.mono rfl) (State.wrb_keeps (hw.mono rfl) h_s (hw.mono rfl)))) (Keeps.ite (State.atPort_keeps (hw.mono rfl) (State.wrb_keeps (hw.mono rfl) (State.setSlot_keeps (hw.mono rfl) (State.slotMod_keeps (hw.mono rfl) (State.wrb_keeps (hw.mono rfl) h_s (hw.mono rfl)))) (hw.mono rfl)) (fun _ h1 _ => (State.perstLow_keeps (hw.mono rfl) (State.poweredNow_keeps (hw.mono rfl) h1)))) (State.slotMod_keeps (hw.mono rfl) (State.wrb_keeps (hw.mono rfl) h_s (hw.mono rfl)))))

theorem State.sampleCur_keeps {W : Nat} {z : State} {s : State} {j : ℕ} {cur : ℕ} (hw : Within 0x20000000000000 W) (h_s : Keeps W z s) : Keeps W z (State.sampleCur s j cur) := by
  unfold State.sampleCur
  (try dsimp only)
  exact (State.wrb_keeps (hw.mono rfl) (State.wr_keeps (State.wr_keeps h_s (hw.mono rfl)) (hw.mono rfl)) (hw.mono rfl))

theorem State.slotFault_keeps {W : Nat} {z : State} {s : State} {j : ℕ} (hw : Within 0x100000400002 W) (h_s : Keeps W z s) : Keeps W z (State.slotFault s j) := by
  unfold State.slotFault
  (try dsimp only)
  exact (State.atPort_keeps (hw.mono rfl) h_s (fun _ h1 _ => (State.slotEvent_keeps (hw.mono rfl) (State.wrb_keeps (hw.mono rfl) h1 (hw.mono rfl)))))

theorem State.trip_keeps {W : Nat} {z : State} {s : State} {j : ℕ} {cause : ℕ} (hw : Within 0x10e976e8124bb602 W) (h_s : Keeps W z s) : Keeps W z (State.trip s j cause) := by
  unfold State.trip
  (try dsimp only)
  exact (Keeps.ite h_s (State.pulse_keeps (hw.mono rfl) (State.slotFault_keeps (hw.mono rfl) (State.atPort_keeps (hw.mono rfl) (State.inc_keeps (hw.mono rfl) (State.wr_keeps (State.fetOff_keeps (hw.mono rfl) h_s) (hw.mono rfl)) (hw.mono rfl)) (fun _ h1 _ => (State.perstLow_keeps (hw.mono rfl) h1))))))

theorem State.faultClear_keeps {W : Nat} {z : State} {s : State} {j : ℕ} (hw : Within 0x20000000000000 W) (h_s : Keeps W z s) : Keeps W z (State.faultClear s j) := by
  unfold State.faultClear
  (try dsimp only)
  exact (Keeps.ite (State.setSlot_keeps (hw.mono rfl) h_s) h_s)

theorem State.slotSet_keeps {W : Nat} {z : State} {s : State} {t : State} {j : ℕ} (hw : Within 0x200 W) (h_s : Keeps W z s) (h_t : Keeps W z t) : Keeps W z (State.slotSet s t j) := by
  unfold State.slotSet
  (try dsimp only)
  exact (Keeps.ite h_t (State.cfgErr_keeps (hw.mono rfl) h_s))

theorem State.slotCfg_keeps {W : Nat} {z : State} {s : State} {j : ℕ} (hw : Within 0x20000000800000 W) (h_s : Keeps W z s) : Keeps W z (State.slotCfg s j) := by
  unfold State.slotCfg
  (try dsimp only)
  exact (Keeps.ite (Keeps.ite (State.chooseFeed_keeps (hw.mono rfl) (State.setSlot_keeps (hw.mono rfl) h_s)) h_s) (Keeps.ite (State.fedNow_keeps (hw.mono rfl) (State.wrb_keeps (hw.mono rfl) (State.feedsOff_keeps (hw.mono rfl) (State.setSlot_keeps (hw.mono rfl) h_s)) (hw.mono rfl))) (State.chooseFeed_keeps (hw.mono rfl) h_s)))

theorem execSluCfgWrite_keeps {W : Nat} {z : State} {j : ℕ} {val : ℕ} {s : State} (hw : Within 0x20000000800200 W) (h_s : Keeps W z s) : KeepsOut W z (execSluCfgWrite j val s) := by
  unfold execSluCfgWrite
  (try dsimp only)
  exact (KeepsOut.onUnit (State.onTile_keeps (hw.mono rfl) h_s (Keeps.ite h_s (Keeps.ite (State.slotCfg_keeps (hw.mono rfl) (State.setRW_keeps (hw.mono rfl) h_s (hw.mono rfl))) (State.cfgErr_keeps (hw.mono rfl) h_s)))))

theorem State.feedTurn_keeps {W : Nat} {z : State} {s : State} {n : ℕ} {feedB : Bool} {mv : ℕ} {good : Bool} (hw : Within 0x20100000c00200 W) (h_s : Keeps W z s) : Keeps W z (State.feedTurn s n feedB mv good) := by
  unfold State.feedTurn
  (try dsimp only)
  exact (Keeps.ite (State.wr_keeps h_s (by split; exacts [(hw.mono rfl), (hw.mono rfl)])) (State.each_keeps (State.level_keeps (hw.mono rfl) (State.wrb_keeps (hw.mono rfl) (State.wr_keeps h_s (by split; exacts [(hw.mono rfl), (hw.mono rfl)])) (by split; exacts [(hw.mono rfl), (hw.mono rfl)]))) (fun _ h1 _ => (Keeps.ite (State.autoOn_keeps (hw.mono rfl) (State.slotMod_keeps (hw.mono rfl) (State.chooseFeed_keeps (hw.mono rfl) h1))) (State.chooseFeed_keeps (hw.mono rfl) h1)))))

theorem execFeedBad_keeps {W : Nat} {z : State} {n : ℕ} {feedB : Bool} {c : ℕ} {s : State} (hw : Within 0x20100000c00200 W) (h_s : Keeps W z s) : KeepsOut W z (execFeedBad n feedB c s) := by
  unfold execFeedBad
  (try dsimp only)
  exact (KeepsOut.onUnit (State.feedTurn_keeps (hw.mono rfl) h_s))

theorem execFeedGood_keeps {W : Nat} {z : State} {n : ℕ} {feedB : Bool} {c : ℕ} {s : State} (hw : Within 0x20100000c00200 W) (h_s : Keeps W z s) : KeepsOut W z (execFeedGood n feedB c s) := by
  unfold execFeedGood
  (try dsimp only)
  exact (KeepsOut.onUnit (State.feedTurn_keeps (hw.mono rfl) h_s))

theorem execFeedMake_keeps {W : Nat} {z : State} {j : ℕ} {s : State} (hw : Within 0x20000000800000 W) (h_s : Keeps W z s) : KeepsOut W z (execFeedMake j s) := by
  unfold execFeedMake
  (try dsimp only)
  exact (KeepsOut.onUnit (by split <;> [(exact (State.chooseFeed_keeps (hw.mono rfl) (State.slotMod_keeps (hw.mono rfl) (State.wr_keeps h_s (hw.mono rfl))))); (exact h_s)]))

theorem execFeedReturn_keeps {W : Nat} {z : State} {j : ℕ} {s : State} (hw : Within 0x20000000800000 W) (h_s : Keeps W z s) : KeepsOut W z (execFeedReturn j s) := by
  unfold execFeedReturn
  (try dsimp only)
  exact (KeepsOut.onUnit (Keeps.ite (State.feedBreak_keeps (hw.mono rfl) h_s) h_s))

theorem execSlotPresent_keeps {W : Nat} {z : State} {j : ℕ} {held : Bool} {s : State} (hw : Within 0x20100000c00002 W) (h_s : Keeps W z s) : KeepsOut W z (execSlotPresent j held s) := by
  unfold execSlotPresent
  (try dsimp only)
  exact (KeepsOut.onUnit (Keeps.ite (State.autoOn_keeps (hw.mono rfl) (State.slotMod_keeps (hw.mono rfl) (Keeps.ite h_s (State.atPort_keeps (hw.mono rfl) (State.slotMod_keeps (hw.mono rfl) (State.wrb_keeps (hw.mono rfl) h_s (hw.mono rfl))) (fun _ h1 _ => (State.presenceTurn_keeps (hw.mono rfl) h1)))))) (Keeps.ite h_s (State.atPort_keeps (hw.mono rfl) (State.slotMod_keeps (hw.mono rfl) (State.wrb_keeps (hw.mono rfl) h_s (hw.mono rfl))) (fun _ h2 _ => (State.presenceTurn_keeps (hw.mono rfl) h2))))))

theorem execSlotAbsent_keeps {W : Nat} {z : State} {j : ℕ} {s : State} (hw : Within 0x10e976e812cbb602 W) (h_s : Keeps W z s) : KeepsOut W z (execSlotAbsent j s) := by
  unfold execSlotAbsent
  (try dsimp only)
  exact (KeepsOut.onUnit (Keeps.ite h_s (Keeps.ite (State.fetOff_keeps (hw.mono rfl) (State.atPort_keeps (hw.mono rfl) (State.slotMod_keeps (hw.mono rfl) (State.wrb_keeps (hw.mono rfl) (State.wrb_keeps (hw.mono rfl) h_s (hw.mono rfl)) (hw.mono rfl))) (fun _ h1 _ => (State.presenceTurn_keeps (hw.mono rfl) h1)))) (Keeps.ite (State.atPort_keeps (hw.mono rfl) (State.fetOff_keeps (hw.mono rfl) (State.atPort_keeps (hw.mono rfl) (State.slotMod_keeps (hw.mono rfl) (State.wrb_keeps (hw.mono rfl) (State.wrb_keeps (hw.mono rfl) h_s (hw.mono rfl)) (hw.mono rfl))) (fun _ h2 _ => (State.presenceTurn_keeps (hw.mono rfl) h2)))) (fun _ h3 _ => (State.perstLow_keeps (hw.mono rfl) h3))) (State.atPort_keeps (hw.mono rfl) (State.slotMod_keeps (hw.mono rfl) (State.wrb_keeps (hw.mono rfl) (State.wrb_keeps (hw.mono rfl) h_s (hw.mono rfl)) (hw.mono rfl))) (fun _ h4 _ => (State.presenceTurn_keeps (hw.mono rfl) h4)))))))

theorem execSluOn_keeps {W : Nat} {z : State} {j : ℕ} {val : ℕ} {s : State} (hw : Within 0x20100000c00200 W) (h_s : Keeps W z s) : KeepsOut W z (execSluOn j val s) := by
  unfold execSluOn
  (try dsimp only)
  exact (KeepsOut.onUnit (State.onTile_keeps (hw.mono rfl) h_s (Keeps.ite h_s (Keeps.ite (State.cfgErr_keeps (hw.mono rfl) h_s) (State.powerOn_keeps (hw.mono rfl) h_s)))))

theorem execSluOff_keeps {W : Nat} {z : State} {j : ℕ} {val : ℕ} {s : State} (hw : Within 0x10e976e812cbb602 W) (h_s : Keeps W z s) : KeepsOut W z (execSluOff j val s) := by
  unfold execSluOff
  (try dsimp only)
  exact (KeepsOut.onUnit (State.onTile_keeps (hw.mono rfl) h_s (Keeps.ite h_s (Keeps.ite (State.cfgErr_keeps (hw.mono rfl) h_s) (State.powerOff_keeps (hw.mono rfl) h_s)))))

theorem execSluClrflt_keeps {W : Nat} {z : State} {j : ℕ} {val : ℕ} {s : State} (hw : Within 0x20000000000000 W) (h_s : Keeps W z s) : KeepsOut W z (execSluClrflt j val s) := by
  unfold execSluClrflt
  (try dsimp only)
  exact (KeepsOut.onUnit (State.onTile_keeps (hw.mono rfl) h_s (Keeps.ite (State.faultClear_keeps (hw.mono rfl) h_s) h_s)))

theorem execSluClriso_keeps {W : Nat} {z : State} {j : ℕ} {val : ℕ} {low : Bool} {s : State} (hw : Within 0x20000000800200 W) (h_s : Keeps W z s) : KeepsOut W z (execSluClriso j val low s) := by
  unfold execSluClriso
  (try dsimp only)
  exact (KeepsOut.onUnit (State.onTile_keeps (hw.mono rfl) h_s (Keeps.ite h_s (Keeps.ite (State.chooseFeed_keeps (hw.mono rfl) (State.level_keeps (hw.mono rfl) (State.setSlot_keeps (hw.mono rfl) h_s))) (State.cfgErr_keeps (hw.mono rfl) h_s)))))

theorem execRampPlaceFree_keeps {W : Nat} {z : State} {j : ℕ} {s : State} (hw : Within 0x20100000c00000 W) (h_s : Keeps W z s) : KeepsOut W z (execRampPlaceFree j s) := by
  unfold execRampPlaceFree
  (try dsimp only)
  exact (KeepsOut.onUnit (Keeps.ite (State.powerOn_keeps (hw.mono rfl) (State.wrb_keeps (hw.mono rfl) h_s (hw.mono rfl))) h_s))

theorem execRampSegmentEnd_keeps {W : Nat} {z : State} {j : ℕ} {vout : ℕ} {cur : ℕ} {s : State} (hw : Within 0x20000000000000 W) (h_s : Keeps W z s) : KeepsOut W z (execRampSegmentEnd j vout cur s) := by
  unfold execRampSegmentEnd
  (try dsimp only)
  exact (KeepsOut.onUnit (Keeps.ite h_s (Keeps.ite (State.setSlot_keeps (hw.mono rfl) (State.sampleCur_keeps (hw.mono rfl) (State.wr_keeps h_s (hw.mono rfl)))) (State.wr_keeps (State.sampleCur_keeps (hw.mono rfl) (State.wr_keeps h_s (hw.mono rfl))) (hw.mono rfl)))))

theorem execRampTimeout_keeps {W : Nat} {z : State} {j : ℕ} {s : State} (hw : Within 0x10e976e8124bb602 W) (h_s : Keeps W z s) : KeepsOut W z (execRampTimeout j s) := by
  unfold execRampTimeout
  (try dsimp only)
  exact (KeepsOut.onUnit (Keeps.ite (State.trip_keeps (hw.mono rfl) h_s) h_s))

theorem execPowerGood_keeps {W : Nat} {z : State} {j : ℕ} {vout : ℕ} {cur : ℕ} {vin : ℕ} {s : State} (hw : Within 0x20100000000000 W) (h_s : Keeps W z s) : KeepsOut W z (execPowerGood j vout cur vin s) := by
  unfold execPowerGood
  (try dsimp only)
  exact (KeepsOut.onUnit (Keeps.ite (State.atPort_keeps (hw.mono rfl) (State.wrb_keeps (hw.mono rfl) (State.setSlot_keeps (hw.mono rfl) (State.sampleCur_keeps (hw.mono rfl) (State.wr_keeps (State.wr_keeps h_s (hw.mono rfl)) (hw.mono rfl)))) (hw.mono rfl)) (fun _ h1 _ => (State.poweredNow_keeps (hw.mono rfl) h1))) (State.sampleCur_keeps (hw.mono rfl) (State.wr_keeps (State.wr_keeps h_s (hw.mono rfl)) (hw.mono rfl)))))

theorem execStoppingEnd_keeps {W : Nat} {z : State} {j : ℕ} {s : State} (hw : Within 0x20100000000000 W) (h_s : Keeps W z s) : KeepsOut W z (execStoppingEnd j s) := by
  unfold execStoppingEnd
  (try dsimp only)
  exact (KeepsOut.onUnit (Keeps.ite (State.fetOff_keeps (hw.mono rfl) h_s) h_s))

theorem execFastTrip_keeps {W : Nat} {z : State} {j : ℕ} {cur : ℕ} {s : State} (hw : Within 0x10e976e8124bb602 W) (h_s : Keeps W z s) : KeepsOut W z (execFastTrip j cur s) := by
  unfold execFastTrip
  (try dsimp only)
  exact (KeepsOut.onUnit (Keeps.ite (State.trip_keeps (hw.mono rfl) (State.sampleCur_keeps (hw.mono rfl) h_s)) (State.sampleCur_keeps (hw.mono rfl) h_s)))

theorem execSlowTrip_keeps {W : Nat} {z : State} {j : ℕ} {k : ℕ} {cur : ℕ} {s : State} (hw : Within 0x10e976e8124bb602 W) (h_s : Keeps W z s) : KeepsOut W z (execSlowTrip j k cur s) := by
  unfold execSlowTrip
  (try dsimp only)
  exact (KeepsOut.onUnit (Keeps.ite (State.wr_keeps (State.trip_keeps (hw.mono rfl) (State.sampleCur_keeps (hw.mono rfl) h_s)) (hw.mono rfl)) (State.sampleCur_keeps (hw.mono rfl) h_s)))

theorem execUnderVoltage_keeps {W : Nat} {z : State} {j : ℕ} {vout : ℕ} {s : State} (hw : Within 0x10e976e8124bb602 W) (h_s : Keeps W z s) : KeepsOut W z (execUnderVoltage j vout s) := by
  unfold execUnderVoltage
  (try dsimp only)
  exact (KeepsOut.onUnit (Keeps.ite (State.trip_keeps (hw.mono rfl) (State.wr_keeps h_s (hw.mono rfl))) (Keeps.ite (State.trip_keeps (hw.mono rfl) (State.wr_keeps h_s (hw.mono rfl))) (State.wr_keeps h_s (hw.mono rfl)))))

theorem execOverVoltage_keeps {W : Nat} {z : State} {j : ℕ} {vout : ℕ} {s : State} (hw : Within 0x10e976e8124bb602 W) (h_s : Keeps W z s) : KeepsOut W z (execOverVoltage j vout s) := by
  unfold execOverVoltage
  (try dsimp only)
  exact (KeepsOut.onUnit (Keeps.ite (State.trip_keeps (hw.mono rfl) (State.wr_keeps h_s (hw.mono rfl))) (State.wr_keeps h_s (hw.mono rfl))))

theorem execPassFetDamage_keeps {W : Nat} {z : State} {j : ℕ} {vout : ℕ} {s : State} (hw : Within 0x20100000c00202 W) (h_s : Keeps W z s) : KeepsOut W z (execPassFetDamage j vout s) := by
  unfold execPassFetDamage
  (try dsimp only)
  exact (KeepsOut.onUnit (Keeps.ite (State.wrb_keeps (hw.mono rfl) (State.level_keeps (hw.mono rfl) (State.slotFault_keeps (hw.mono rfl) (State.wr_keeps (State.wrb_keeps (hw.mono rfl) (State.feedsOff_keeps (hw.mono rfl) (State.setSlot_keeps (hw.mono rfl) (State.wr_keeps h_s (hw.mono rfl)))) (hw.mono rfl)) (hw.mono rfl)))) (hw.mono rfl)) (State.wr_keeps h_s (hw.mono rfl))))

theorem execSlotWave_keeps {W : Nat} {z : State} {v : ℕ} {s : State} (hw : Within 0x20100000c00000 W) (h_s : Keeps W z s) : KeepsOut W z (execSlotWave v s) := by
  unfold execSlotWave
  (try dsimp only)
  exact (KeepsOut.onUnit (State.each_keeps h_s (fun _ h1 _ => (State.autoOn_keeps (hw.mono rfl) (State.slotMod_keeps (hw.mono rfl) h1)))))

theorem State.slotsArm_keeps {W : Nat} {z : State} {s : State} (hw : Within 0x20000000800000 W) (h_s : Keeps W z s) : Keeps W z (State.slotsArm s) := by
  unfold State.slotsArm
  (try dsimp only)
  exact (State.each_keeps h_s (fun _ h1 _ => (State.slotCfg_keeps (hw.mono rfl) h1)))

/-! ### Prt -/

theorem State.portApply_keeps {W : Nat} {z : State} {s : State} {p : ℕ} {old : Bool} (hw : Within 0x1ccf76e8127bf642 W) (h_s : Keeps W z s) : Keeps W z (State.portApply s p old) := by
  unfold State.portApply
  (try dsimp only)
  exact (State.domKicks_keeps (hw.mono rfl) (Keeps.ite (Keeps.ite (State.portReset_keeps (hw.mono rfl) (State.clockForget_keeps (hw.mono rfl) (State.readyNow_keeps (hw.mono rfl) h_s))) (State.dlDown_keeps (hw.mono rfl) (State.setBit_keeps (hw.mono rfl) (State.clockForget_keeps (hw.mono rfl) (State.readyNow_keeps (hw.mono rfl) h_s)) (hw.mono rfl)))) (Keeps.ite (State.wr_keeps (State.clockForget_keeps (hw.mono rfl) (State.readyNow_keeps (hw.mono rfl) h_s)) (hw.mono rfl)) (State.clockForget_keeps (hw.mono rfl) (State.readyNow_keeps (hw.mono rfl) h_s)))))

theorem execPortConfigWrite_keeps {W : Nat} {z : State} {p : ℕ} {val : ℕ} {s : State} (hw : Within 0x1ccf76ec127bf642 W) (h_s : Keeps W z s) : KeepsOut W z (execPortConfigWrite p val s) := by
  unfold execPortConfigWrite
  (try dsimp only)
  exact (KeepsOut.onUnit (State.onTile_keeps (hw.mono rfl) h_s (Keeps.ite h_s (by split <;> [(exact (State.conflict_keeps (hw.mono rfl) h_s)); (exact (Keeps.ite (State.cfgErr_keeps (hw.mono rfl) h_s) (State.portApply_keeps (hw.mono rfl) (State.portMod_keeps (hw.mono rfl) (State.setRW_keeps (hw.mono rfl) h_s (hw.mono rfl))))))]))))

theorem execPrtTiblkWrite_keeps {W : Nat} {z : State} {p : ℕ} {val : ℕ} {s : State} (hw : Within 0x4100000000200 W) (h_s : Keeps W z s) : KeepsOut W z (execPrtTiblkWrite p val s) := by
  unfold execPrtTiblkWrite
  (try dsimp only)
  exact (KeepsOut.onUnit (State.onTile_keeps (hw.mono rfl) h_s (Keeps.ite h_s (Keeps.ite (State.cfgErr_keeps (hw.mono rfl) h_s) (State.each_keeps (State.each_keeps (State.setRW_keeps (hw.mono rfl) h_s (hw.mono rfl)) (fun _ h1 _ => (Keeps.ite (State.tset_keeps (hw.mono rfl) h1) h1))) (fun _ h2 _ => (Keeps.ite (State.tset_keeps (hw.mono rfl) h2) h2)))))))

theorem State.presentBind_keeps {W : Nat} {z : State} {s : State} {p : ℕ} (hw : Within 0x100000400002 W) (h_s : Keeps W z s) : Keeps W z (State.presentBind s p) := by
  unfold State.presentBind
  (try dsimp only)
  exact (Keeps.ite h_s (State.presenceTurn_keeps (hw.mono rfl) h_s))

theorem State.slotPower_keeps {W : Nat} {z : State} {s : State} {p : ℕ} {on : Bool} (hw : Within 0x10e976e812cbb602 W) (h_s : Keeps W z s) : Keeps W z (State.slotPower s p on) := by
  unfold State.slotPower
  (try dsimp only)
  exact (Keeps.ite (by split <;> [(exact (Keeps.ite (State.powerOn_keeps (hw.mono rfl) h_s) (State.powerOff_keeps (hw.mono rfl) h_s))); (exact h_s)]) (Keeps.ite (State.perstLow_keeps (hw.mono rfl) h_s) h_s))

theorem State.powerTurn_keeps {W : Nat} {z : State} {s : State} {p : ℕ} {was : Bool} (hw : Within 0x10e976e812cbb602 W) (h_s : Keeps W z s) : Keeps W z (State.powerTurn s p was) := by
  unfold State.powerTurn
  (try dsimp only)
  exact (Keeps.ite h_s (State.slotPower_keeps (hw.mono rfl) h_s))

theorem execPrtSlotcfgWrite_keeps {W : Nat} {z : State} {p : ℕ} {val : ℕ} {s : State} (hw : Within 0x10c976ec124bb602 W) (h_s : Keeps W z s) : KeepsOut W z (execPrtSlotcfgWrite p val s) := by
  unfold execPrtSlotcfgWrite
  (try dsimp only)
  exact (KeepsOut.onUnit (State.onTile_keeps (hw.mono rfl) h_s (Keeps.ite h_s (by split <;> [(exact (State.conflict_keeps (hw.mono rfl) h_s)); (exact (Keeps.ite (State.cfgErr_keeps (hw.mono rfl) h_s) (State.when_keeps (State.poweredNow_keeps (hw.mono rfl) (State.presentBind_keeps (hw.mono rfl) (State.setRW_keeps (hw.mono rfl) h_s (hw.mono rfl)))) (fun _ h1 => (State.perstLow_keeps (hw.mono rfl) h1)))))]))))

theorem State.laneTrained_keeps {W : Nat} {z : State} {s : State} {l : ℕ} {rate : ℕ} {inv : Bool} (hw : Within 0x40000000004 W) (h_s : Keeps W z s) : Keeps W z (State.laneTrained s l rate inv) := by
  unfold State.laneTrained
  (try dsimp only)
  exact (State.wr_keeps (State.wr_keeps (State.wr_keeps (State.wr_keeps (State.wr_keeps (State.draw_keeps (hw.mono rfl) (State.wrb_keeps (hw.mono rfl) (State.wrb_keeps (hw.mono rfl) (State.wr_keeps h_s (hw.mono rfl)) (hw.mono rfl)) (hw.mono rfl))) (hw.mono rfl)) (hw.mono rfl)) (hw.mono rfl)) (hw.mono rfl)) (hw.mono rfl))

theorem State.trained_keeps {W : Nat} {z : State} {s : State} {p : ℕ} {width : ℕ} {rate : ℕ} {rev : Bool} {inv : ℕ} (hw : Within 0x140000001204 W) (h_s : Keeps W z s) : Keeps W z (State.trained s p width rate rev inv) := by
  unfold State.trained
  (try dsimp only)
  exact (State.each_keeps (State.each_keeps (State.when_keeps (State.wrb_keeps (hw.mono rfl) (State.wrb_keeps (hw.mono rfl) (State.wr_keeps (State.wr_keeps (State.wr_keeps h_s (hw.mono rfl)) (hw.mono rfl)) (hw.mono rfl)) (hw.mono rfl)) (hw.mono rfl)) (fun _ h1 => (State.pulse_keeps (hw.mono rfl) h1))) (fun _ h2 _ => (State.portLaneIdle_keeps (hw.mono rfl) h2))) (fun _ h3 _ => (State.laneTrained_keeps (hw.mono rfl) h3)))

theorem execPortLinkUp_keeps {W : Nat} {z : State} {p : ℕ} {width : ℕ} {r : LinkRate} {cache : Bool} {mem : Bool} {w : Wiring} {s : State} (hw : Within 0x108154201243f606 W) (h_s : Keeps W z s) : KeepsOut W z (execPortLinkUp p width r cache mem w s) := by
  unfold execPortLinkUp
  (try dsimp only)
  exact (KeepsOut.onUnit (Keeps.ite h_s (Keeps.ite (Keeps.ite (State.considerAll_keeps (hw.mono rfl) (State.wrb_keeps (hw.mono rfl) (State.portMod_keeps (hw.mono rfl) (State.trained_keeps (hw.mono rfl) h_s)) (hw.mono rfl))) h_s) (Keeps.ite h_s (State.when_keeps (State.considerAll_keeps (hw.mono rfl) (State.enumerate_keeps (hw.mono rfl) (State.boundEvent_keeps (hw.mono rfl) (State.wrb_keeps (hw.mono rfl) (State.wrb_keeps (hw.mono rfl) (State.wrb_keeps (hw.mono rfl) (State.wrb_keeps (hw.mono rfl) (State.wrb_keeps (hw.mono rfl) (State.portMod_keeps (hw.mono rfl) (State.trained_keeps (hw.mono rfl) h_s)) (hw.mono rfl)) (hw.mono rfl)) (hw.mono rfl)) (hw.mono rfl)) (hw.mono rfl))))) (fun _ h1 => (State.releasePeers_keeps (hw.mono rfl) h1)))))))

theorem execPortDlDown_keeps {W : Nat} {z : State} {p : ℕ} {s : State} (hw : Within 0x1ccf76a8127bf602 W) (h_s : Keeps W z s) : KeepsOut W z (execPortDlDown p s) := by
  unfold execPortDlDown
  (try dsimp only)
  exact (KeepsOut.onUnit (Keeps.ite h_s (State.linkLost_keeps (hw.mono rfl) h_s)))

theorem execHotResetReceived_keeps {W : Nat} {z : State} {p : ℕ} {disable : Bool} {s : State} (hw : Within 0x1ccf76a8127bf602 W) (h_s : Keeps W z s) : KeepsOut W z (execHotResetReceived p disable s) := by
  unfold execHotResetReceived
  (try dsimp only)
  exact (KeepsOut.onUnit (Keeps.ite (State.portReset_keeps (hw.mono rfl) (State.portMod_keeps (hw.mono rfl) h_s)) h_s))

theorem execHotResetEnd_keeps {W : Nat} {z : State} {p : ℕ} {s : State} (hw : Within 0x500000407002 W) (h_s : Keeps W z s) : KeepsOut W z (execHotResetEnd p s) := by
  unfold execHotResetEnd
  (try dsimp only)
  exact (KeepsOut.onUnit (Keeps.ite (State.releasePeers_keeps (hw.mono rfl) (State.wr_keeps (State.portMod_keeps (hw.mono rfl) h_s) (hw.mono rfl))) h_s))

theorem execFlrPf_keeps {W : Nat} {z : State} {p : ℕ} {s : State} (hw : Within 0x1c06000000300200 W) (h_s : Keeps W z s) : KeepsOut W z (execFlrPf p s) := by
  unfold execFlrPf
  (try dsimp only)
  exact (KeepsOut.onUnit (Keeps.ite (State.pfReset_keeps (hw.mono rfl) h_s) h_s))

theorem execFlrVf_keeps {W : Nat} {z : State} {p : ℕ} {vf : ℕ} {s : State} (hw : Within 0xc06000000300200 W) (h_s : Keeps W z s) : KeepsOut W z (execFlrVf p vf s) := by
  unfold execFlrVf
  (try dsimp only)
  exact (KeepsOut.onUnit (Keeps.ite (State.tenFlr_keeps (hw.mono rfl) h_s) h_s))

theorem execVfEnable_keeps {W : Nat} {z : State} {p : ℕ} {enable : Bool} {numVfs : ℕ} {s : State} (hw : Within 0xc06000000300200 W) (h_s : Keeps W z s) : KeepsOut W z (execVfEnable p enable numVfs s) := by
  unfold execVfEnable
  (try dsimp only)
  exact (KeepsOut.onUnit (Keeps.ite (State.each_keeps (State.tenMod_keeps (hw.mono rfl) h_s) (fun _ h1 _ => (Keeps.ite (Keeps.ite (State.tset_keeps (hw.mono rfl) h1) h1) (State.tenFlr_keeps (hw.mono rfl) h1)))) h_s))

theorem State.cciSay_keeps {W : Nat} {z : State} {s : State} {p : ℕ} {code : ℕ} {bytes : optParam (List Byte) []} (hw : Within 0x2 W) (h_s : Keeps W z s) : Keeps W z (State.cciSay s p code bytes) := by
  unfold State.cciSay
  (try dsimp only)
  exact (State.send_keeps (hw.mono rfl) h_s)

theorem State.cciDone_keeps {W : Nat} {z : State} {s : State} {b : ℕ} {code : ℕ} (hw : Within 0x400002 W) (h_s : Keeps W z s) : Keeps W z (State.cciDone s b code) := by
  unfold State.cciDone
  (try dsimp only)
  exact (by split <;> [(exact (State.cciSay_keeps (hw.mono rfl) (State.portMod_keeps (hw.mono rfl) h_s))); (exact h_s)])

theorem State.setVppb_keeps {W : Nat} {z : State} {s : State} {b : ℕ} {st : ℕ} {kind : ℕ} {port : ℕ} {ld : ℕ} {node : ℕ} (hw : Within 0x100000000000 W) (h_s : Keeps W z s) : Keeps W z (State.setVppb s b st kind port ld node) := by
  unfold State.setVppb
  (try dsimp only)
  exact (State.wr_keeps (State.wr_keeps (State.wr_keeps (State.wr_keeps (State.wr_keeps h_s (hw.mono rfl)) (hw.mono rfl)) (hw.mono rfl)) (hw.mono rfl)) (hw.mono rfl))

theorem State.bindStart_keeps {W : Nat} {z : State} {s : State} {b : ℕ} {kind : ℕ} {q : ℕ} {ld : ℕ} {node : ℕ} (hw : Within 0x500000007002 W) (h_s : Keeps W z s) : Keeps W z (State.bindStart s b kind q ld node) := by
  unfold State.bindStart
  (try dsimp only)
  exact (Keeps.ite (State.toPeer_keeps (hw.mono rfl) (State.setVppb_keeps (hw.mono rfl) h_s)) (State.setVppb_keeps (hw.mono rfl) h_s))

theorem State.bindWrite_keeps {W : Nat} {z : State} {s : State} {b : ℕ} {v : ℕ} (hw : Within 0x500400407202 W) (h_s : Keeps W z s) : Keeps W z (State.bindWrite s b v).2 := by
  unfold State.bindWrite
  (try dsimp only)
  exact (Keeps.ite2 (Keeps.ite2 (State.cfgErr_keeps (hw.mono rfl) h_s) (State.bridgeMod_keeps (hw.mono rfl) (State.wr_keeps h_s (hw.mono rfl)))) (by split <;> [(exact (State.conflictRec_keeps (hw.mono rfl) h_s)); (exact (State.bindStart_keeps (hw.mono rfl) h_s)); (exact h_s); (exact (State.cfgErr_keeps (hw.mono rfl) h_s))]))

theorem State.bindImage_keeps {W : Nat} {z : State} {s : State} {b : ℕ} {v : ℕ} (hw : Within 0x100000400000 W) (h_s : Keeps W z s) : KeepsOpt W z (State.bindImage s b v) := by
  unfold State.bindImage
  (try dsimp only)
  exact (KeepsOpt.ite (KeepsOpt.some (State.setVppb_keeps (hw.mono rfl) h_s)) (KeepsOpt.ite (KeepsOpt.ite (KeepsOpt.some (State.setVppb_keeps (hw.mono rfl) h_s)) KeepsOpt.none) (KeepsOpt.ite KeepsOpt.none (KeepsOpt.ite KeepsOpt.none (KeepsOpt.ite (KeepsOpt.some (State.bridgeMod_keeps (hw.mono rfl) (State.setVppb_keeps (hw.mono rfl) h_s))) (KeepsOpt.some (State.setVppb_keeps (hw.mono rfl) h_s)))))))

theorem execBindVppb_keeps {W : Nat} {z : State} {p : ℕ} {vcs : ℕ} {vppb : ℕ} {kind : ℕ} {port : ℕ} {ld : ℕ} {node : ℕ} {s : State} (hw : Within 0x500400407202 W) (h_s : Keeps W z s) : KeepsOut W z (execBindVppb p vcs vppb kind port ld node s) := by
  unfold execBindVppb
  (try dsimp only)
  exact (KeepsOut.onUnit (Keeps.ite (State.cciSay_keeps (hw.mono rfl) h_s) (Keeps.ite (State.cciSay_keeps (hw.mono rfl) h_s) (Keeps.ite (State.cciSay_keeps (hw.mono rfl) h_s) (Keeps.ite (by split <;> [(exact (State.cciSay_keeps (hw.mono rfl) (State.conflict_keeps (hw.mono rfl) h_s))); (exact (State.bindStart_keeps (hw.mono rfl) (State.cciSay_keeps (hw.mono rfl) (State.portMod_keeps (hw.mono rfl) h_s))))]) (State.bindStart_keeps (hw.mono rfl) (State.cciSay_keeps (hw.mono rfl) (State.portMod_keeps (hw.mono rfl) h_s))))))))

theorem execBindComplete_keeps {W : Nat} {z : State} {vcs : ℕ} {vppb : ℕ} {s : State} (hw : Within 0x10e976e812cbb602 W) (h_s : Keeps W z s) : KeepsOut W z (execBindComplete vcs vppb s) := by
  unfold execBindComplete
  (try dsimp only)
  exact (KeepsOut.onUnit (Keeps.ite (State.powerTurn_keeps (hw.mono rfl) (Keeps.ite (State.bridgeEvent_keeps (hw.mono rfl) (State.bridgeEvent_keeps (hw.mono rfl) (State.cciDone_keeps (hw.mono rfl) (State.wr_keeps h_s (hw.mono rfl))))) (State.bridgeEvent_keeps (hw.mono rfl) (State.cciDone_keeps (hw.mono rfl) (State.wr_keeps h_s (hw.mono rfl)))))) h_s))

theorem State.unbound_keeps {W : Nat} {z : State} {s : State} {b : ℕ} (hw : Within 0x10e976e812cbf602 W) (h_s : Keeps W z s) : Keeps W z (State.unbound s b) := by
  unfold State.unbound
  (try dsimp only)
  exact (State.when_keeps (State.bridgeEvent_keeps (hw.mono rfl) (State.bridgeEvent_keeps (hw.mono rfl) (State.cciDone_keeps (hw.mono rfl) (State.bridgeMod_keeps (hw.mono rfl) (State.setVppb_keeps (hw.mono rfl) (Keeps.ite (State.toPeer_keeps (hw.mono rfl) h_s) h_s)))))) (fun _ h1 => (State.powerTurn_keeps (hw.mono rfl) h1)))

theorem State.unbindCmd_keeps {W : Nat} {z : State} {s : State} {p : ℕ} {b : ℕ} {f : State → State} (hw : Within 0x100000400002 W) (h_s : Keeps W z s) (h_f : ∀ y0, Keeps W z y0 → Keeps W z (f y0)) : Keeps W z (State.unbindCmd s p b f) := by
  unfold State.unbindCmd
  (try dsimp only)
  exact (Keeps.ite (State.cciSay_keeps (hw.mono rfl) h_s) (Keeps.ite (State.cciSay_keeps (hw.mono rfl) h_s) (Keeps.ite (State.cciSay_keeps (hw.mono rfl) h_s) (h_f _ (State.wr_keeps (State.cciSay_keeps (hw.mono rfl) (State.portMod_keeps (hw.mono rfl) h_s)) (hw.mono rfl))))))

theorem execUnbindWaitLinkDown_keeps {W : Nat} {z : State} {p : ℕ} {vcs : ℕ} {vppb : ℕ} {s : State} (hw : Within 0x100000400002 W) (h_s : Keeps W z s) : KeepsOut W z (execUnbindWaitLinkDown p vcs vppb s) := by
  unfold execUnbindWaitLinkDown
  (try dsimp only)
  exact (KeepsOut.onUnit (State.unbindCmd_keeps (hw.mono rfl) h_s (fun _ h1 => (State.bridgeMod_keeps (hw.mono rfl) h1))))

theorem execUnbindManagedHotRemove_keeps {W : Nat} {z : State} {p : ℕ} {vcs : ℕ} {vppb : ℕ} {s : State} (hw : Within 0x100000400002 W) (h_s : Keeps W z s) : KeepsOut W z (execUnbindManagedHotRemove p vcs vppb s) := by
  unfold execUnbindManagedHotRemove
  (try dsimp only)
  exact (KeepsOut.onUnit (State.unbindCmd_keeps (hw.mono rfl) h_s (fun _ h1 => (State.bridgeEvent_keeps (hw.mono rfl) (State.bridgeMod_keeps (hw.mono rfl) h1)))))

theorem State.cutAt_keeps {W : Nat} {z : State} {s : State} {x : ℕ} {mine : Msg → Bool} (hw : Within 0x108050201200a202 W) (h_s : Keeps W z s) : Keeps W z (State.cutAt s x mine) := by
  unfold State.cutAt
  (try dsimp only)
  exact (State.each_keeps (State.swcMod_keeps (hw.mono rfl) (State.each_keeps h_s (fun _ h1 _ => (State.each_keeps h1 (fun _ h2 _ => (State.each_keeps (State.setQueue_keeps (hw.mono rfl) h2) (fun _ h3 _ => (by split <;> [(exact (State.copyGone_keeps (hw.mono rfl) (State.undeliverable_keeps (hw.mono rfl) h3))); (exact h3)])))))))) (fun _ h4 _ => (State.undeliverable_keeps (hw.mono rfl) h4)))

theorem State.cutTarget_keeps {W : Nat} {z : State} {s : State} {b : ℕ} (hw : Within 0x108950a01201a602 W) (h_s : Keeps W z s) : Keeps W z (State.cutTarget s b) := by
  unfold State.cutTarget
  (try dsimp only)
  exact (State.drainAll_keeps (hw.mono rfl) (State.considerAll_keeps (hw.mono rfl) (Keeps.ite (State.each_keeps h_s (fun _ h1 _ => (State.cutAt_keeps (hw.mono rfl) h1))) (State.cutAt_keeps (hw.mono rfl) h_s))))

theorem execUnbindSurpriseHotRemove_keeps {W : Nat} {z : State} {p : ℕ} {vcs : ℕ} {vppb : ℕ} {s : State} (hw : Within 0x10e976e812cbf602 W) (h_s : Keeps W z s) : KeepsOut W z (execUnbindSurpriseHotRemove p vcs vppb s) := by
  unfold execUnbindSurpriseHotRemove
  (try dsimp only)
  exact (KeepsOut.onUnit (State.unbindCmd_keeps (hw.mono rfl) h_s (fun _ h1 => (State.unbound_keeps (hw.mono rfl) (State.cutTarget_keeps (hw.mono rfl) h1)))))

theorem execUnbindComplete_keeps {W : Nat} {z : State} {vcs : ℕ} {vppb : ℕ} {s : State} (hw : Within 0x10e976e812cbf602 W) (h_s : Keeps W z s) : KeepsOut W z (execUnbindComplete vcs vppb s) := by
  unfold execUnbindComplete
  (try dsimp only)
  exact (KeepsOut.onUnit (Keeps.ite (State.unbound_keeps (hw.mono rfl) h_s) h_s))

theorem execUnbindTimeout_keeps {W : Nat} {z : State} {vcs : ℕ} {vppb : ℕ} {s : State} (hw : Within 0x100000400002 W) (h_s : Keeps W z s) : KeepsOut W z (execUnbindTimeout vcs vppb s) := by
  unfold execUnbindTimeout
  (try dsimp only)
  exact (KeepsOut.onUnit (Keeps.ite (State.cciDone_keeps (hw.mono rfl) (State.bridgeMod_keeps (hw.mono rfl) (State.wr_keeps h_s (hw.mono rfl)))) h_s))

theorem execBindRspTimeout_keeps {W : Nat} {z : State} {vcs : ℕ} {vppb : ℕ} {s : State} (hw : Within 0x100000400002 W) (h_s : Keeps W z s) : KeepsOut W z (execBindRspTimeout vcs vppb s) := by
  unfold execBindRspTimeout
  (try dsimp only)
  exact (KeepsOut.onUnit (Keeps.ite (State.cciDone_keeps (hw.mono rfl) (State.setVppb_keeps (hw.mono rfl) h_s)) h_s))

theorem execBindClaim_keeps {W : Nat} {z : State} {k : ℕ} {hdr : ℕ} {trl : ℕ} {port : ℕ} {ld : ℕ} {vcs : ℕ} {s : State} (hw : Within 0x10c87eac1248f602 W) (h_s : Keeps W z s) : KeepsOut W z (execBindClaim k hdr trl port ld vcs s) := by
  unfold execBindClaim
  (try dsimp only)
  exact (KeepsOut.onUnit (State.rxMgmt_keeps (hw.mono rfl) h_s (fun _ h1 => (State.mgmtSend_keeps (hw.mono rfl) (Keeps.ite (Keeps.set_prt (hw.mono rfl) (Keeps.ite (State.conflictRec_keeps (hw.mono rfl) h1) h1)) (Keeps.ite (State.conflictRec_keeps (hw.mono rfl) h1) h1))))))

theorem execBindRsp_keeps {W : Nat} {z : State} {k : ℕ} {hdr : ℕ} {trl : ℕ} {port : ℕ} {ld : ℕ} {refused : Bool} {s : State} (hw : Within 0x10c87ea81248f602 W) (h_s : Keeps W z s) : KeepsOut W z (execBindRsp k hdr trl port ld refused s) := by
  unfold execBindRsp
  (try dsimp only)
  exact (KeepsOut.onUnit (State.rxMgmt_keeps (hw.mono rfl) h_s (fun _ h1 => (by split <;> [(exact (Keeps.ite (State.cciDone_keeps (hw.mono rfl) (State.setVppb_keeps (hw.mono rfl) h1)) (State.bridgeEvent_keeps (hw.mono rfl) (State.bridgeEvent_keeps (hw.mono rfl) (State.cciDone_keeps (hw.mono rfl) (State.wr_keeps h1 (hw.mono rfl))))))); (exact h1)]))))

theorem State.hotRelease_keeps {W : Nat} {z : State} {s : State} {port : ℕ} (hw : Within 0x100000400000 W) (h_s : Keeps W z s) : Keeps W z (State.hotRelease s port) := by
  unfold State.hotRelease
  (try dsimp only)
  exact (Keeps.ite (State.wr_keeps (State.portMod_keeps (hw.mono rfl) h_s) (hw.mono rfl)) h_s)

theorem execUnbind_keeps {W : Nat} {z : State} {k : ℕ} {hdr : ℕ} {trl : ℕ} {port : ℕ} {ld : ℕ} {s : State} (hw : Within 0x10c87ea81248f602 W) (h_s : Keeps W z s) : KeepsOut W z (execUnbind k hdr trl port ld s) := by
  unfold execUnbind
  (try dsimp only)
  exact (KeepsOut.onUnit (State.rxMgmt_keeps (hw.mono rfl) h_s (fun _ h1 => (State.hotRelease_keeps (hw.mono rfl) (Keeps.set_prt (hw.mono rfl) h1)))))

theorem State.claimReset_keeps {W : Nat} {z : State} {s : State} {c : PeerClaim} (hw : Within 0x10c976a8124bb602 W) (h_s : Keeps W z s) : Keeps W z (State.claimReset s c) := by
  unfold State.claimReset
  (try dsimp only)
  exact (Keeps.ite (State.targetReset_keeps (hw.mono rfl) (State.portMod_keeps (hw.mono rfl) h_s)) (State.targetReset_keeps (hw.mono rfl) h_s))

theorem execPortreset_keeps {W : Nat} {z : State} {k : ℕ} {hdr : ℕ} {trl : ℕ} {port : ℕ} {release : Bool} {s : State} (hw : Within 0x10c97ea8124bf602 W) (h_s : Keeps W z s) : KeepsOut W z (execPortreset k hdr trl port release s) := by
  unfold execPortreset
  (try dsimp only)
  exact (KeepsOut.onUnit (State.rxMgmt_keeps (hw.mono rfl) h_s (fun _ h1 => (State.each_keeps h1 (fun _ h2 _ => (Keeps.ite (State.hotRelease_keeps (hw.mono rfl) h2) (State.claimReset_keeps (hw.mono rfl) h2)))))))

theorem execFmApiCommand_keeps {W : Nat} {z : State} {p : ℕ} {opcode : ℕ} {payload : List Byte} {s : State} (hw : Within 0x2 W) (h_s : Keeps W z s) : KeepsOut W z (execFmApiCommand p opcode payload s) := by
  unfold execFmApiCommand
  (try dsimp only)
  exact (KeepsOut.onUnit (Keeps.ite h_s (Keeps.ite (State.cciSay_keeps (hw.mono rfl) h_s) (Keeps.ite (State.cciSay_keeps (hw.mono rfl) h_s) (Keeps.ite (State.cciSay_keeps (hw.mono rfl) h_s) (Keeps.ite (State.cciSay_keeps (hw.mono rfl) h_s) (State.cciSay_keeps (hw.mono rfl) h_s)))))))

theorem execGetFabricTime_keeps {W : Nat} {z : State} {p : ℕ} {s : State} (hw : Within 0x2 W) (h_s : Keeps W z s) : KeepsOut W z (execGetFabricTime p s) := by
  unfold execGetFabricTime
  (try dsimp only)
  exact (KeepsOut.onUnit (Keeps.ite h_s (Keeps.ite (State.cciSay_keeps (hw.mono rfl) h_s) (State.cciSay_keeps (hw.mono rfl) h_s))))

theorem execGetPortReadiness_keeps {W : Nat} {z : State} {p : ℕ} {s : State} (hw : Within 0x2 W) (h_s : Keeps W z s) : KeepsOut W z (execGetPortReadiness p s) := by
  unfold execGetPortReadiness
  (try dsimp only)
  exact (KeepsOut.onUnit (Keeps.ite h_s (Keeps.ite (State.cciSay_keeps (hw.mono rfl) h_s) (Keeps.ite (State.cciSay_keeps (hw.mono rfl) h_s) (State.cciSay_keeps (hw.mono rfl) h_s)))))

theorem execPresenceChange_keeps {W : Nat} {z : State} {p : ℕ} {present : Bool} {s : State} (hw : Within 0x100000400002 W) (h_s : Keeps W z s) : KeepsOut W z (execPresenceChange p present s) := by
  unfold execPresenceChange
  (try dsimp only)
  exact (KeepsOut.onUnit (Keeps.ite h_s (State.presenceTurn_keeps (hw.mono rfl) (State.portMod_keeps (hw.mono rfl) h_s))))

theorem execAttentionButtonPress_keeps {W : Nat} {z : State} {p : ℕ} {s : State} (hw : Within 0x100000400002 W) (h_s : Keeps W z s) : KeepsOut W z (execAttentionButtonPress p s) := by
  unfold execAttentionButtonPress
  (try dsimp only)
  exact (KeepsOut.onUnit (Keeps.ite h_s (Keeps.ite (State.wrb_keeps (hw.mono rfl) h_s (hw.mono rfl)) (State.slotEvent_keeps (hw.mono rfl) h_s))))

theorem State.hostPower_keeps {W : Nat} {z : State} {s : State} {b : ℕ} {on : Bool} (hw : Within 0x10e976e812cbb602 W) (h_s : Keeps W z s) : Keeps W z (State.hostPower s b on) := by
  unfold State.hostPower
  (try dsimp only)
  exact (by split <;> [(exact (State.bridgeEvent_keeps (hw.mono rfl) (State.bridgeMod_keeps (hw.mono rfl) h_s))); (exact (Keeps.ite (State.bridgeEvent_keeps (hw.mono rfl) (State.bridgeMod_keeps (hw.mono rfl) h_s)) (State.slotPower_keeps (hw.mono rfl) (State.bridgeEvent_keeps (hw.mono rfl) (State.bridgeMod_keeps (hw.mono rfl) h_s)))))])

theorem execPowerControllerOn_keeps {W : Nat} {z : State} {vcs : ℕ} {vppb : ℕ} {s : State} (hw : Within 0x10e976e812cbb602 W) (h_s : Keeps W z s) : KeepsOut W z (execPowerControllerOn vcs vppb s) := by
  unfold execPowerControllerOn
  (try dsimp only)
  exact (KeepsOut.onUnit (State.hostPower_keeps (hw.mono rfl) h_s))

theorem execPowerControllerOff_keeps {W : Nat} {z : State} {vcs : ℕ} {vppb : ℕ} {s : State} (hw : Within 0x10e976e812cbb602 W) (h_s : Keeps W z s) : KeepsOut W z (execPowerControllerOff vcs vppb s) := by
  unfold execPowerControllerOff
  (try dsimp only)
  exact (KeepsOut.onUnit (State.hostPower_keeps (hw.mono rfl) h_s))

theorem execIndicatorWrite_keeps {W : Nat} {z : State} {vcs : ℕ} {vppb : ℕ} {attn : ℕ} {pwri : ℕ} {s : State} (hw : Within 0x400002 W) (h_s : Keeps W z s) : KeepsOut W z (execIndicatorWrite vcs vppb attn pwri s) := by
  unfold execIndicatorWrite
  (try dsimp only)
  exact (KeepsOut.onUnit (State.bridgeEvent_keeps (hw.mono rfl) (State.bridgeMod_keeps (hw.mono rfl) h_s)))

theorem execPowerFaultClear_keeps {W : Nat} {z : State} {vcs : ℕ} {vppb : ℕ} {s : State} (hw : Within 0x20000000400000 W) (h_s : Keeps W z s) : KeepsOut W z (execPowerFaultClear vcs vppb s) := by
  unfold execPowerFaultClear
  (try dsimp only)
  exact (KeepsOut.onUnit (by split <;> [(exact (State.bridgeMod_keeps (hw.mono rfl) h_s)); (exact (by split <;> [(exact (Keeps.ite (State.faultClear_keeps (hw.mono rfl) (State.bridgeMod_keeps (hw.mono rfl) h_s)) (State.bridgeMod_keeps (hw.mono rfl) h_s))); (exact (State.bridgeMod_keeps (hw.mono rfl) h_s))]))]))

theorem execPrtSlotctlWrite_keeps {W : Nat} {z : State} {p : ℕ} {val : ℕ} {s : State} (hw : Within 0x10e976e812cbb602 W) (h_s : Keeps W z s) : KeepsOut W z (execPrtSlotctlWrite p val s) := by
  unfold execPrtSlotctlWrite
  (try dsimp only)
  exact (KeepsOut.onUnit (State.onTile_keeps (hw.mono rfl) h_s (State.powerTurn_keeps (hw.mono rfl) (State.takeWord_keeps (hw.mono rfl) h_s (hw.mono rfl)))))

theorem execL1Entry_keeps {W : Nat} {z : State} {p : ℕ} {idle : ℕ} {sub : ℕ} {s : State} (hw : Within 0x140000000000 W) (h_s : Keeps W z s) : KeepsOut W z (execL1Entry p idle sub s) := by
  unfold execL1Entry
  (try dsimp only)
  exact (KeepsOut.onUnit (Keeps.ite (State.wr_keeps (State.wr_keeps (State.each_keeps h_s (fun _ h1 _ => (State.adaptKeep_keeps (hw.mono rfl) h1))) (hw.mono rfl)) (hw.mono rfl)) h_s))

theorem execL1Exit_keeps {W : Nat} {z : State} {p : ℕ} {s : State} (hw : Within 0x100000000000 W) (h_s : Keeps W z s) : KeepsOut W z (execL1Exit p s) := by
  unfold execL1Exit
  (try dsimp only)
  exact (KeepsOut.onUnit (Keeps.ite (State.wr_keeps (State.wr_keeps h_s (hw.mono rfl)) (hw.mono rfl)) h_s))

theorem execClkreqPartnerAssert_keeps {W : Nat} {z : State} {p : ℕ} {s : State} (hw : Within 0x100000000000 W) (h_s : Keeps W z s) : KeepsOut W z (execClkreqPartnerAssert p s) := by
  unfold execClkreqPartnerAssert
  (try dsimp only)
  exact (KeepsOut.onUnit (State.wr_keeps h_s (hw.mono rfl)))

/-! ### Arch -/

theorem State.loadProfile_keeps {W : Nat} {z : State} {s : State} {p : ℕ} (hw : Within 0x1022400000000 W) (h_s : Keeps W z s) : Keeps W z (State.loadProfile s p) := by
  unfold State.loadProfile
  (try dsimp only)
  exact (State.globalUpdate_keeps (hw.mono rfl) (State.resvUpdate_keeps (hw.mono rfl) (State.each_keeps (State.wr_keeps (State.wr_keeps (State.wr_keeps (State.wr_keeps (State.wr_keeps (State.wr_keeps (State.wr_keeps (State.wr_keeps (State.wr_keeps h_s (hw.mono rfl)) (hw.mono rfl)) (hw.mono rfl)) (hw.mono rfl)) (hw.mono rfl)) (hw.mono rfl)) (hw.mono rfl)) (hw.mono rfl)) (hw.mono rfl)) (fun _ h1 _ => (State.rotUpdate_keeps (hw.mono rfl) h1)))))

theorem State.holdNow_keeps {W : Nat} {z : State} {s : State} (hw : Within 0x188e70a81231ae02 W) (h_s : Keeps W z s) : Keeps W z (State.holdNow s) := by
  unfold State.holdNow
  (try dsimp only)
  exact (State.pauseAll_keeps (hw.mono rfl) (State.drainAll_keeps (hw.mono rfl) (State.retCredits_keeps (hw.mono rfl) (State.wrb_keeps (hw.mono rfl) h_s (hw.mono rfl)))))

theorem State.phase_keeps {W : Nat} {z : State} {s : State} {v : ℕ} (hw : Within 0x400000000 W) (h_s : Keeps W z s) : Keeps W z (State.phase s v) := by
  unfold State.phase
  (try dsimp only)
  exact (State.wr_keeps h_s (hw.mono rfl))

theorem State.profileEnd_keeps {W : Nat} {z : State} {s : State} {res : ℕ} (hw : Within 0x188e70ac1231ae02 W) (h_s : Keeps W z s) : Keeps W z (State.profileEnd s res) := by
  unfold State.profileEnd
  (try dsimp only)
  exact (State.holdNow_keeps (hw.mono rfl) (State.wr_keeps (State.wrb_keeps (hw.mono rfl) (State.phase_keeps (hw.mono rfl) h_s) (hw.mono rfl)) (hw.mono rfl)))

theorem execProfileApply_keeps {W : Nat} {z : State} {val : ℕ} {s : State} (hw : Within 0x188e72ac1239ae02 W) (h_s : Keeps W z s) : KeepsOut W z (execProfileApply val s) := by
  unfold execProfileApply
  (try dsimp only)
  exact (KeepsOut.onUnit (Keeps.ite h_s (Keeps.ite (State.setRW_keeps (hw.mono rfl) h_s (hw.mono rfl)) (Keeps.ite (State.wr_keeps (State.setRW_keeps (hw.mono rfl) h_s (hw.mono rfl)) (hw.mono rfl)) (by split <;> [(exact (State.conflict_keeps (hw.mono rfl) h_s)); (exact (State.ageAll_keeps (hw.mono rfl) (State.holdNow_keeps (hw.mono rfl) (State.wrb_keeps (hw.mono rfl) (State.phase_keeps (hw.mono rfl) (State.setRW_keeps (hw.mono rfl) h_s (hw.mono rfl))) (hw.mono rfl)))))])))))

theorem execProfileClosed_keeps {W : Nat} {z : State} {s : State} (hw : Within 0x400000000 W) (h_s : Keeps W z s) : KeepsOut W z (execProfileClosed s) := by
  unfold execProfileClosed
  (try dsimp only)
  exact (KeepsOut.next (Keeps.ite (State.phase_keeps (hw.mono rfl) h_s) h_s))

theorem execProfileDrained_keeps {W : Nat} {z : State} {s : State} (hw : Within 0x10887aac1208a602 W) (h_s : Keeps W z s) : KeepsOut W z (execProfileDrained s) := by
  unfold execProfileDrained
  (try dsimp only)
  exact (KeepsOut.next (Keeps.ite (Keeps.ite (State.recallWhere_keeps (hw.mono rfl) (State.phase_keeps (hw.mono rfl) h_s)) (State.phase_keeps (hw.mono rfl) h_s)) h_s))

theorem execProfileRecallDone_keeps {W : Nat} {z : State} {s : State} (hw : Within 0x10887aac1208a602 W) (h_s : Keeps W z s) : KeepsOut W z (execProfileRecallDone s) := by
  unfold execProfileRecallDone
  (try dsimp only)
  exact (KeepsOut.next (Keeps.ite h_s (Keeps.ite (State.phase_keeps (hw.mono rfl) (State.recallWhere_keeps (hw.mono rfl) h_s)) (State.recallWhere_keeps (hw.mono rfl) h_s))))

theorem execProfileInitDone_keeps {W : Nat} {z : State} {s : State} (hw : Within 0x400000000 W) (h_s : Keeps W z s) : KeepsOut W z (execProfileInitDone s) := by
  unfold execProfileInitDone
  (try dsimp only)
  exact (KeepsOut.next (Keeps.ite (State.phase_keeps (hw.mono rfl) h_s) h_s))

theorem State.tablesClear_keeps {W : Nat} {z : State} {s : State} (hw : Within 0x80000080000 W) (h_s : Keeps W z s) : Keeps W z (State.tablesClear s) := by
  unfold State.tablesClear
  (try dsimp only)
  exact (State.wmMod_keeps (hw.mono rfl) (State.each_fields_keeps (hw.mono rfl) (State.each_keeps h_s (fun _ h1 _ => (State.clearSuspect_keeps (hw.mono rfl) h1))) (fun _ h2 _ h3 => (State.clr_keeps h2 h3))))

theorem execProfileSwitched_keeps {W : Nat} {z : State} {s : State} (hw : Within 0x188f7aac1239ae02 W) (h_s : Keeps W z s) : KeepsOut W z (execProfileSwitched s) := by
  unfold execProfileSwitched
  (try dsimp only)
  exact (KeepsOut.next (Keeps.ite (State.profileEnd_keeps (hw.mono rfl) (State.loadProfile_keeps (hw.mono rfl) (State.when_keeps h_s (fun _ h1 => (State.tablesClear_keeps (hw.mono rfl) h1))))) h_s))

theorem State.rollback_keeps {W : Nat} {z : State} {s : State} {byReaction : Bool} (hw : Within 0x400000100 W) (h_s : Keeps W z s) : Keeps W z (State.rollback s byReaction) := by
  unfold State.rollback
  (try dsimp only)
  exact (Keeps.set_arch (hw.mono rfl) (State.phase_keeps (hw.mono rfl) h_s))

theorem State.profileFenced_keeps {W : Nat} {z : State} {s : State} (hw : Within 0x400000100 W) (h_s : Keeps W z s) : Keeps W z (State.profileFenced s) := by
  unfold State.profileFenced
  (try dsimp only)
  exact (Keeps.ite h_s (State.rollback_keeps (hw.mono rfl) h_s))

theorem execProfileChangeTimeout_keeps {W : Nat} {z : State} {s : State} (hw : Within 0x400000100 W) (h_s : Keeps W z s) : KeepsOut W z (execProfileChangeTimeout s) := by
  unfold execProfileChangeTimeout
  (try dsimp only)
  exact (KeepsOut.next (Keeps.ite (State.rollback_keeps (hw.mono rfl) h_s) h_s))

theorem execProfileRollbackDone_keeps {W : Nat} {z : State} {s : State} (hw : Within 0x188e70ac1239ae02 W) (h_s : Keeps W z s) : KeepsOut W z (execProfileRollbackDone s) := by
  unfold execProfileRollbackDone
  (try dsimp only)
  exact (KeepsOut.next (Keeps.ite (State.profileEnd_keeps (hw.mono rfl) (State.wmMod_keeps (hw.mono rfl) (State.giveCells_keeps (hw.mono rfl) h_s))) h_s))

theorem State.profileAbandon_keeps {W : Nat} {z : State} {s : State} {byReaction : Bool} (hw : Within 0x400000000 W) (h_s : Keeps W z s) : Keeps W z (State.profileAbandon s byReaction) := by
  unfold State.profileAbandon
  (try dsimp only)
  exact (Keeps.ite h_s (State.wr_keeps (State.wrb_keeps (hw.mono rfl) (State.phase_keeps (hw.mono rfl) h_s) (hw.mono rfl)) (hw.mono rfl)))

theorem State.setSpares_keeps {W : Nat} {z : State} {s : State} {n : ℕ} {b : ℕ} {v : ℕ} (hw : Within 0x400000000 W) (h_s : Keeps W z s) : Keeps W z (State.setSpares s n b v) := by
  unfold State.setSpares
  (try dsimp only)
  exact (State.wr_keeps h_s (hw.mono rfl))

theorem execCulvertBeatCrcFail_keeps {W : Nat} {z : State} {tile : ℕ} {s : State} (hw : Within 0x400000000 W) (h_s : Keeps W z s) : KeepsOut W z (execCulvertBeatCrcFail tile s) := by
  unfold execCulvertBeatCrcFail
  (try dsimp only)
  exact (KeepsOut.onUnit (State.inc_keeps (hw.mono rfl) h_s (hw.mono rfl)))

theorem execCulvertWireSpare_keeps {W : Nat} {z : State} {tile : ℕ} {bundle : ℕ} {s : State} (hw : Within 0x400000000 W) (h_s : Keeps W z s) : KeepsOut W z (execCulvertWireSpare tile bundle s) := by
  unfold execCulvertWireSpare
  (try dsimp only)
  exact (KeepsOut.onUnit (Keeps.ite (State.setSpares_keeps (hw.mono rfl) h_s) h_s))

theorem execCulvertBundleRetire_keeps {W : Nat} {z : State} {tile : ℕ} {bundle : ℕ} {s : State} (hw : Within 0x400000200 W) (h_s : Keeps W z s) : KeepsOut W z (execCulvertBundleRetire tile bundle s) := by
  unfold execCulvertBundleRetire
  (try dsimp only)
  exact (KeepsOut.onUnit (Keeps.ite h_s (Keeps.ite (State.pulse_keeps (hw.mono rfl) (State.pulse_keeps (hw.mono rfl) (State.wr_keeps (State.setSpares_keeps (hw.mono rfl) h_s) (hw.mono rfl)))) (State.pulse_keeps (hw.mono rfl) (State.wr_keeps (State.setSpares_keeps (hw.mono rfl) h_s) (hw.mono rfl))))))

/-! ### Reset -/

theorem State.thermCool_keeps {W : Nat} {z : State} {s : State} (hw : Within 0x4000000040 W) (h_s : Keeps W z s) : Keeps W z (State.thermCool s) := by
  unfold State.thermCool
  (try dsimp only)
  exact (Keeps.ite (State.wrb_keeps (hw.mono rfl) (State.pwrMod_keeps (hw.mono rfl) h_s) (hw.mono rfl)) h_s)

theorem State.tapDrop_keeps {W : Nat} {z : State} {s : State} (hw : Within 0x200000000 W) (h_s : Keeps W z s) : Keeps W z (State.tapDrop s) := by
  unfold State.tapDrop
  (try dsimp only)
  exact (Keeps.ite (Keeps.set_tap (hw.mono rfl) h_s) h_s)

theorem State.steppingDefaults_keeps {W : Nat} {z : State} {s : State} (hw : Within 0x500000000000 W) (h_s : Keeps W z s) : Keeps W z (State.steppingDefaults s) := by
  unfold State.steppingDefaults
  (try dsimp only)
  exact (Keeps.ite (State.each_keeps (State.each_keeps h_s (fun _ h1 _ => (State.wr_keeps h1 (hw.mono rfl)))) (fun _ h2 _ => (State.wr_keeps h2 (hw.mono rfl)))) h_s)

theorem State.coldReset_keeps {W : Nat} {z s : State} {discharge : Bool} (hw : Within 0x1ffffffffffffff0 W) (h_s : Keeps W z s) :
    Keeps W z (s.coldReset discharge) := by
  refine State.thermCool_keeps (hw.mono rfl) (State.steppingDefaults_keeps (hw.mono rfl)
    (State.wr_keeps (h_s.trans ⟨rfl, fun h => ?_, ?_⟩) (hw.mono rfl)))
  · exact canonRegs_keep s.regs (fun k _ => (keptFields.map Fld.key).contains k) h
  · have hr : ∀ m : SMap (SMap Nat), (m.filter fun e => !W.testBit (windowBit e.1)) = [] := by
      intro m
      refine List.filter_eq_nil_iff.2 fun e _ => ?_
      have := Within.bits hw (windowBit e.1) (by
        have h := windowBit_range e.1
        generalize windowBit e.1 = n at h
        obtain ⟨h1, h2⟩ := h
        interval_cases n <;> decide)
      simp [this]
    have hb := Within.bits hw
    simp only [State.outside, hr, hb 4 (by decide), hb 5 (by decide), hb 6 (by decide), hb 7 (by decide), hb 8 (by decide), hb 9 (by decide),
      hb 10 (by decide), hb 11 (by decide), hb 12 (by decide), hb 13 (by decide), hb 14 (by decide), hb 15 (by decide), hb 16 (by decide),
      hb 17 (by decide), hb 18 (by decide), hb 19 (by decide), hb 20 (by decide), hb 21 (by decide), hb 22 (by decide), hb 23 (by decide),
      hb 24 (by decide), hb 25 (by decide), hb 26 (by decide), hb 27 (by decide), hb 28 (by decide), hb 29 (by decide), hb 30 (by decide),
      hb 31 (by decide), hb 32 (by decide), hb 33 (by decide), if_true]

theorem State.tdWaste_keeps {W : Nat} {z : State} {s : State} (hw : Within 0x40000000000400 W) (h_s : Keeps W z s) : Keeps W z (State.tdWaste s) := by
  unfold State.tdWaste
  (try dsimp only)
  exact (State.each_keeps h_s (fun _ h1 _ => (State.wr_keeps (State.flmAdd_keeps (hw.mono rfl) h1) (hw.mono rfl))))

theorem State.coreEmpty_keeps {W : Nat} {z : State} {s : State} (hw : Within 0x1002000018000 W) (h_s : Keeps W z s) : Keeps W z (State.coreEmpty s) := by
  unfold State.coreEmpty
  (try dsimp only)
  exact (State.wr_keeps (State.wr_keeps (State.each_fields_keeps (hw.mono rfl) (State.weirMod_keeps (hw.mono rfl) (State.swcMod_keeps (hw.mono rfl) h_s)) (fun _ h1 _ h2 => (State.clr_keeps h1 h2))) (hw.mono rfl)) (hw.mono rfl))

theorem State.acqClear_keeps {W : Nat} {z : State} {s : State} (hw : Within 0x8000000000800 W) (h_s : Keeps W z s) : Keeps W z (State.acqClear s) := by
  unfold State.acqClear
  (try dsimp only)
  exact (Keeps.set_acq (hw.mono rfl) (State.each_fields_keeps (hw.mono rfl) h_s (fun _ h1 _ h2 => (State.clr_keeps h1 h2))))

theorem State.backTo_keeps {W : Nat} {z : State} {s : State} {l : ℕ} {d : ℕ × Bool} (hw : Within 0x200000000200 W) (h_s : Keeps W z s) : Keeps W z (State.backTo s l d).2 := by
  unfold State.backTo
  (try dsimp only)
  exact (Keeps.ite2 h_s (State.poolCheck_keeps (hw.mono rfl) h_s))

theorem State.cellBack_keeps {W : Nat} {z : State} {s : State} {l : ℕ} {c : Option OCell} (hw : Within 0x220000080202 W) (h_s : Keeps W z s) : Keeps W z (State.cellBack s l c) := by
  unfold State.cellBack
  (try dsimp only)
  exact (by split <;> [(exact h_s); (exact (by split <;> [(rename_i e_; have h1 := Keeps.snd_eq (State.backTo_keeps (hw.mono rfl) h_s) e_; exact (State.send_keeps (hw.mono rfl) (State.wmMod_keeps (hw.mono rfl) h1))); (rename_i e_; have h2 := Keeps.snd_eq (State.backTo_keeps (hw.mono rfl) h_s) e_; exact (State.writeLost_keeps (hw.mono rfl) h2))]))])

theorem State.dumpsAbandon_keeps {W : Nat} {z : State} {s : State} (hw : Within 0x40000000000400 W) (h_s : Keeps W z s) : Keeps W z (State.dumpsAbandon s) := by
  unfold State.dumpsAbandon
  (try dsimp only)
  exact (State.wr_keeps (State.flmMod_keeps (hw.mono rfl) (Keeps.ite (State.wr_keeps (Keeps.ite (State.wr_keeps h_s (hw.mono rfl)) h_s) (hw.mono rfl)) (Keeps.ite (State.wr_keeps h_s (hw.mono rfl)) h_s))) (hw.mono rfl))

theorem State.disarm_keeps {W : Nat} {z : State} {s : State} (hw : Within 0x18004000482240 W) (h_s : Keeps W z s) : Keeps W z (State.disarm s) := by
  unfold State.disarm
  (try dsimp only)
  exact (State.each_keeps (State.each_keeps (State.each_keeps (State.wmMod_keeps (hw.mono rfl) (State.each_keeps (State.wrb_keeps (hw.mono rfl) (State.spwMod_keeps (hw.mono rfl) h_s) (hw.mono rfl)) (fun _ h1 _ => (Keeps.ite h1 (State.wr_keeps h1 (hw.mono rfl)))))) (fun _ h2 _ => (State.portMod_keeps (hw.mono rfl) h2))) (fun _ h3 _ => (State.lkMod_keeps (hw.mono rfl) h3))) (fun _ h4 _ => (State.domUnfence_keeps (hw.mono rfl) h4)))

theorem State.modesOff_keeps {W : Nat} {z : State} {s : State} (hw : Within 0x10800000000000 W) (h_s : Keeps W z s) : Keeps W z (State.modesOff s) := by
  unfold State.modesOff
  (try dsimp only)
  exact (Keeps.ite (State.each_keeps (State.wrb_keeps (hw.mono rfl) (State.wrb_keeps (hw.mono rfl) h_s (hw.mono rfl)) (hw.mono rfl)) (fun _ h1 _ => (State.wr_keeps h1 (hw.mono rfl)))) (State.wrb_keeps (hw.mono rfl) h_s (hw.mono rfl)))

theorem State.portCovered_keeps {W : Nat} {z : State} {s : State} {p : ℕ} (hw : Within 0x1ccf76e8127bf602 W) (h_s : Keeps W z s) : Keeps W z (State.portCovered s p) := by
  unfold State.portCovered
  (try dsimp only)
  exact (State.portMod_keeps (hw.mono rfl) (Keeps.ite h_s (Keeps.ite (State.portReset_keeps (hw.mono rfl) h_s) (State.dlDown_keeps (hw.mono rfl) (State.setBit_keeps (hw.mono rfl) h_s (hw.mono rfl))))))

theorem State.lanesReset_keeps {W : Nat} {z : State} {s : State} {p : ℕ → Bool} (hw : Within 0x40000001000 W) (h_s : Keeps W z s) : Keeps W z (State.lanesReset s p) := by
  unfold State.lanesReset
  (try dsimp only)
  exact (Keeps.set_lanes (hw.mono rfl) (State.each_fields_keeps (hw.mono rfl) h_s (fun _ h1 _ h2 => (State.clrWhere_keeps (hw.mono rfl) h1 h2))))

theorem State.slotsUnwave_keeps {W : Nat} {z : State} {s : State} (hw : Within 0x800000 W) (h_s : Keeps W z s) : Keeps W z (State.slotsUnwave s) := by
  unfold State.slotsUnwave
  (try dsimp only)
  exact (Keeps.set_slots (hw.mono rfl) h_s)

theorem State.warmNow_keeps {W : Nat} {z : State} {s : State} {cause : ℕ} (hw : Within 0x1fdffeee13fffe42 W) (h_s : Keeps W z s) : Keeps W z (State.warmNow s cause) := by
  unfold State.warmNow
  (try dsimp only)
  exact (State.inc_keeps (hw.mono rfl) (State.wr_keeps (State.slotsUnwave_keeps (hw.mono rfl) (State.wr_keeps (State.wr_keeps (State.wr_keeps (State.wr_keeps (State.wr_keeps (State.when_keeps (State.tapDrop_keeps (hw.mono rfl) (State.tndMod_keeps (hw.mono rfl) (State.wmReset_keeps (hw.mono rfl) (State.coreEmpty_keeps (hw.mono rfl) (State.spwMod_keeps (hw.mono rfl) (State.modesOff_keeps (hw.mono rfl) (State.disarm_keeps (hw.mono rfl) (State.lanesReset_keeps (hw.mono rfl) (State.each_keeps (State.each_keeps (State.pwrMod_keeps (hw.mono rfl) (State.dumpsAbandon_keeps (hw.mono rfl) (State.acqClear_keeps (hw.mono rfl) (State.wmReset_keeps (hw.mono rfl) (State.chkReset_keeps (hw.mono rfl) (State.xltReset_keeps (hw.mono rfl) (State.tenWarm_keeps (hw.mono rfl) (State.runWarm_keeps (hw.mono rfl) (State.coreEmpty_keeps (hw.mono rfl) (State.when_keeps (State.tdWaste_keeps (hw.mono rfl) (State.profileAbandon_keeps (hw.mono rfl) (State.each_fields_keeps (hw.mono rfl) (State.when_keeps h_s (fun _ h1 => (State.each_keeps h1 (fun _ h2 _ => (State.cellBack_keeps (hw.mono rfl) h2))))) (fun _ h3 _ h4 => (State.clr_keeps h3 h4))))) (fun _ h5 => (State.pwrMod_keeps (hw.mono rfl) (State.wr_keeps (State.wr_keeps (State.wmMod_keeps (hw.mono rfl) h5) (hw.mono rfl)) (hw.mono rfl)))))))))))))) (fun _ h6 _ => (State.portCovered_keeps (hw.mono rfl) h6))) (fun _ h7 _ => (State.lkMod_keeps (hw.mono rfl) (State.linkHalt_keeps (hw.mono rfl) h7)))))))))))) (fun _ h8 => (State.lifecycle_keeps (hw.mono rfl) h8))) (hw.mono rfl)) (hw.mono rfl)) (hw.mono rfl)) (hw.mono rfl)) (hw.mono rfl))) (hw.mono rfl)) (hw.mono rfl))

theorem State.ckStart_keeps {W : Nat} {z : State} {s : State} (hw : Within 0x100000001000000 W) (h_s : Keeps W z s) : Keeps W z (State.ckStart s) := by
  unfold State.ckStart
  (try dsimp only)
  exact (by split <;> [(exact (State.tndMod_keeps (hw.mono rfl) h_s)); (exact (State.wrb_keeps (hw.mono rfl) (State.tndMod_keeps (hw.mono rfl) h_s) (hw.mono rfl)))])

theorem State.warmReset_keeps {W : Nat} {z : State} {s : State} {cause : ℕ} (hw : Within 0x1fdffeee13fffe42 W) (h_s : Keeps W z s) : Keeps W z (State.warmReset s cause) := by
  unfold State.warmReset
  (try dsimp only)
  exact (Keeps.ite h_s (Keeps.ite (State.ckStart_keeps (hw.mono rfl) (State.pwrMod_keeps (hw.mono rfl) h_s)) (State.warmNow_keeps (hw.mono rfl) h_s)))

theorem State.tileReset_keeps {W : Nat} {z : State} {s : State} {t : ℕ} (hw : Within 0x1cdffeec127ff642 W) (h_s : Keeps W z s) : Keeps W z (State.tileReset s t) := by
  unfold State.tileReset
  (try dsimp only)
  exact (Keeps.ite h_s (State.flmMod_keeps (hw.mono rfl) (State.spwMod_keeps (hw.mono rfl) (State.lanesReset_keeps (hw.mono rfl) (State.each_keeps (State.gatesDrained_keeps (hw.mono rfl) (State.xltReset_keeps (hw.mono rfl) (State.each_keeps (State.modesOff_keeps (hw.mono rfl) (State.putb_keeps (hw.mono rfl) (State.clr1_keeps (hw.mono rfl) (State.each_fields_keeps (hw.mono rfl) (State.each_fields_keeps (hw.mono rfl) (State.pwrMod_keeps (hw.mono rfl) h_s) (fun _ h1 _ h2 => (State.clrWhere_keeps (hw.mono rfl) h1 h2))) (fun _ h3 _ h4 => (State.clrWhere_keeps (hw.mono rfl) h3 h4))) (hw.mono rfl)) (hw.mono rfl))) (fun _ h5 _ => (State.portCovered_keeps (hw.mono rfl) h5))))) (fun _ h6 _ => (State.lkMod_keeps (hw.mono rfl) (State.linkHalt_keeps (hw.mono rfl) h6))))))))

/-! ### Flash -/

theorem State.bootMod_keeps {W : Nat} {z : State} {s : State} {f : BootS → BootS} (hw : Within 0x100000000 W) (h_s : Keeps W z s) : Keeps W z (State.bootMod s f) := by
  unfold State.bootMod
  (try dsimp only)
  exact (Keeps.set_boot (hw.mono rfl) h_s)

theorem State.setFlash_keeps {W : Nat} {z : State} {s : State} {f : ℕ} {m : SMap ℕ} (hw : Within 0x100000000 W) (h_s : Keeps W z s) : Keeps W z (State.setFlash s f m) := by
  unfold State.setFlash
  (try dsimp only)
  exact (State.bootMod_keeps (hw.mono rfl) h_s)

theorem State.countPut_keeps {W : Nat} {z : State} {s : State} {f : ℕ} {n : ℕ} {bad : Bool} (hw : Within 0x100000000 W) (h_s : Keeps W z s) : KeepsOpt W z (State.countPut s f n bad) := by
  unfold State.countPut
  (try dsimp only)
  exact (by split <;> [(exact (KeepsOpt.ite KeepsOpt.none (KeepsOpt.some (State.setFlash_keeps (hw.mono rfl) h_s)))); (exact KeepsOpt.none)])

theorem State.countTidy_keeps {W : Nat} {z : State} {s : State} {f : ℕ} {n : ℕ} (hw : Within 0x100000000 W) (h_s : Keeps W z s) : Keeps W z (State.countTidy s f n) := by
  unfold State.countTidy
  (try dsimp only)
  exact (Keeps.ite (State.setFlash_keeps (hw.mono rfl) h_s) h_s)

theorem State.ckptWrite_keeps {W : Nat} {z : State} {s : State} {c : Ckpt} (hw : Within 0x100000000 W) (h_s : Keeps W z s) : Keeps W z (State.ckptWrite s c) := by
  unfold State.ckptWrite
  (try dsimp only)
  exact (State.setFlash_keeps (hw.mono rfl) h_s)

theorem State.bootCount_keeps {W : Nat} {z : State} {s : State} {bad : ℕ} {spi : Bool} (hw : Within 0x100000101000000 W) (h_s : Keeps W z s) : Keeps W z (State.bootCount s bad spi) := by
  unfold State.bootCount
  (try dsimp only)
  exact (State.journal_keeps (hw.mono rfl) (State.wr2_keeps (hw.mono rfl) (State.wr2_keeps (hw.mono rfl) (Keeps.ite (State.countTidy_keeps (hw.mono rfl) (State.countTidy_keeps (hw.mono rfl) (by split <;> [(rename_i e_; have h1 := (KeepsOpt.ite (State.countPut_keeps (hw.mono rfl) h_s) KeepsOpt.none) _ e_; exact h1); (exact (by split <;> [(rename_i e_; have h2 := (KeepsOpt.ite (State.countPut_keeps (hw.mono rfl) h_s) KeepsOpt.none) _ e_; exact h2); (exact h_s)]))]))) (by split <;> [(rename_i e_; have h3 := (KeepsOpt.ite (State.countPut_keeps (hw.mono rfl) h_s) KeepsOpt.none) _ e_; exact h3); (exact (by split <;> [(rename_i e_; have h4 := (KeepsOpt.ite (State.countPut_keeps (hw.mono rfl) h_s) KeepsOpt.none) _ e_; exact h4); (exact h_s)]))])) (hw.mono rfl) (hw.mono rfl)) (hw.mono rfl) (hw.mono rfl)))

/-! ### Pwr -/

theorem execVddAuxLost_keeps {W : Nat} {z : State} {s : State} (hw : Within 0x1ffffffffffffff0 W) (h_s : Keeps W z s) : KeepsOut W z (execVddAuxLost s) := by
  unfold execVddAuxLost
  (try dsimp only)
  exact (KeepsOut.next (Keeps.ite (State.coldReset_keeps (hw.mono rfl) (State.pwrMod_keeps (hw.mono rfl) h_s)) h_s))

theorem execVddAuxRestored_keeps {W : Nat} {z : State} {s : State} (hw : Within 0x40 W) (h_s : Keeps W z s) : KeepsOut W z (execVddAuxRestored s) := by
  unfold execVddAuxRestored
  (try dsimp only)
  exact (KeepsOut.next (State.pwrMod_keeps (hw.mono rfl) h_s))

theorem execPwrgdLow_keeps {W : Nat} {z : State} {s : State} (hw : Within 0x1ffffffffffffff0 W) (h_s : Keeps W z s) : KeepsOut W z (execPwrgdLow s) := by
  unfold execPwrgdLow
  (try dsimp only)
  exact (KeepsOut.next (Keeps.ite (State.coldReset_keeps (hw.mono rfl) h_s) h_s))

theorem execPwrgdGlitch_keeps {W : Nat} {z : State} {s : State} (hw : Within 0x1000000000 W) (h_s : Keeps W z s) : KeepsOut W z (execPwrgdGlitch s) := by
  unfold execPwrgdGlitch
  (try dsimp only)
  exact (KeepsOut.next (Keeps.ite (State.inc_keeps (hw.mono rfl) h_s (hw.mono rfl)) h_s))

theorem execGateDischargeEnd_keeps {W : Nat} {z : State} {s : State} (hw : Within 0x40 W) (h_s : Keeps W z s) : KeepsOut W z (execGateDischargeEnd s) := by
  unfold execGateDischargeEnd
  (try dsimp only)
  exact (KeepsOut.next (State.pwrMod_keeps (hw.mono rfl) h_s))

theorem State.setRail_keeps {W : Nat} {z : State} {s : State} {r : ℕ} {v : ℕ} (hw : Within 0x4000000000 W) (h_s : Keeps W z s) : Keeps W z (State.setRail s r v) := by
  unfold State.setRail
  (try dsimp only)
  exact (State.wr_keeps h_s (hw.mono rfl))

theorem State.startPoint_keeps {W : Nat} {z : State} {s : State} (hw : Within 0x40 W) (h_s : Keeps W z s) : Keeps W z (State.startPoint s) := by
  unfold State.startPoint
  (try dsimp only)
  exact (State.pwrMod_keeps (hw.mono rfl) h_s)

theorem State.perstSample_keeps {W : Nat} {z : State} {s : State} {p : ℕ} (hw : Within 0x1ccf76e8127bf642 W) (h_s : Keeps W z s) : Keeps W z (State.perstSample s p) := by
  unfold State.perstSample
  (try dsimp only)
  exact (Keeps.ite (State.portReset_keeps (hw.mono rfl) (State.pwrMod_keeps (hw.mono rfl) (State.setBit_keeps (hw.mono rfl) h_s (hw.mono rfl)))) (State.setBit_keeps (hw.mono rfl) h_s (hw.mono rfl)))

theorem State.startUp_keeps {W : Nat} {z : State} {s : State} (hw : Within 0x1ccf76e8127bf642 W) (h_s : Keeps W z s) : Keeps W z (State.startUp s) := by
  unfold State.startUp
  (try dsimp only)
  exact (State.each_keeps (State.startPoint_keeps (hw.mono rfl) (State.pwrMod_keeps (hw.mono rfl) h_s)) (fun _ h1 _ => (State.perstSample_keeps (hw.mono rfl) h1)))

theorem execPwrgdRise_keeps {W : Nat} {z : State} {prog : List (ℕ × ℕ × ℕ)} {s : State} (hw : Within 0x1ccf76e9127bf642 W) (h_s : Keeps W z s) : KeepsOut W z (execPwrgdRise prog s) := by
  unfold execPwrgdRise
  (try dsimp only)
  exact (KeepsOut.onUnit (Keeps.ite h_s (Keeps.ite (State.pwrMod_keeps (hw.mono rfl) (State.thermCool_keeps (hw.mono rfl) (State.each_keeps h_s (fun _ h1 _ => (State.setFlash_keeps (hw.mono rfl) h1))))) (Keeps.ite (State.startUp_keeps (hw.mono rfl) (State.pwrMod_keeps (hw.mono rfl) (State.pwrMod_keeps (hw.mono rfl) (State.thermCool_keeps (hw.mono rfl) (State.each_keeps h_s (fun _ h2 _ => (State.setFlash_keeps (hw.mono rfl) h2))))))) (State.wrb_keeps (hw.mono rfl) (State.each_keeps (State.pwrMod_keeps (hw.mono rfl) (State.pwrMod_keeps (hw.mono rfl) (State.thermCool_keeps (hw.mono rfl) (State.each_keeps h_s (fun _ h3 _ => (State.setFlash_keeps (hw.mono rfl) h3)))))) (fun _ h4 _ => (State.putb_keeps (hw.mono rfl) h4 (hw.mono rfl)))) (hw.mono rfl))))))

theorem execRailHoldEnd_keeps {W : Nat} {z : State} {s : State} (hw : Within 0x1ccf76e8127bf642 W) (h_s : Keeps W z s) : KeepsOut W z (execRailHoldEnd s) := by
  unfold execRailHoldEnd
  (try dsimp only)
  exact (KeepsOut.next (Keeps.ite (State.startUp_keeps (hw.mono rfl) (State.wrb_keeps (hw.mono rfl) h_s (hw.mono rfl))) h_s))

theorem State.strapMod_keeps {W : Nat} {z : State} {s : State} {f : StrapS → StrapS} (hw : Within 0x40 W) (h_s : Keeps W z s) : Keeps W z (State.strapMod s f) := by
  unfold State.strapMod
  (try dsimp only)
  exact (State.pwrMod_keeps (hw.mono rfl) h_s)

theorem execStrapTestSourceOn_keeps {W : Nat} {z : State} {s : State} (hw : Within 0x40 W) (h_s : Keeps W z s) : KeepsOut W z (execStrapTestSourceOn s) := by
  unfold execStrapTestSourceOn
  (try dsimp only)
  exact (KeepsOut.next (Keeps.ite (State.strapMod_keeps (hw.mono rfl) h_s) h_s))

theorem execStrapSample_keeps {W : Nat} {z : State} {pins : ℕ} {s : State} (hw : Within 0x40 W) (h_s : Keeps W z s) : KeepsOut W z (execStrapSample pins s) := by
  unfold execStrapSample
  (try dsimp only)
  exact (KeepsOut.onUnit (Keeps.ite h_s (by split <;> [(exact (Keeps.ite (State.strapMod_keeps (hw.mono rfl) h_s) h_s)); (exact (Keeps.ite (State.strapMod_keeps (hw.mono rfl) h_s) h_s)); (exact (State.strapMod_keeps (hw.mono rfl) h_s)); (exact h_s)])))

theorem State.strapsSet_keeps {W : Nat} {z : State} {s : State} {a : ℕ} {b : ℕ} {c : ℕ} (hw : Within 0x5000000040 W) (h_s : Keeps W z s) : Keeps W z (State.strapsSet s a b c) := by
  unfold State.strapsSet
  (try dsimp only)
  exact (State.wr_keeps (State.pwrMod_keeps (hw.mono rfl) (State.wrb_keeps (hw.mono rfl) (State.wr_keeps (State.wrb_keeps (hw.mono rfl) (State.wr_keeps (State.wr_keeps (State.wr_keeps (State.wr_keeps (State.wr_keeps h_s (hw.mono rfl)) (hw.mono rfl)) (hw.mono rfl)) (hw.mono rfl)) (hw.mono rfl)) (hw.mono rfl)) (hw.mono rfl)) (hw.mono rfl))) (hw.mono rfl))

theorem execStrapResolve_keeps {W : Nat} {z : State} {s : State} (hw : Within 0x5000000040 W) (h_s : Keeps W z s) : KeepsOut W z (execStrapResolve s) := by
  unfold execStrapResolve
  (try dsimp only)
  exact (KeepsOut.next (by split <;> [(exact (State.strapsSet_keeps (hw.mono rfl) h_s)); (exact h_s)]))

theorem execPllLock_keeps {W : Nat} {z : State} {s : State} (hw : Within 0x44000000c0 W) (h_s : Keeps W z s) : KeepsOut W z (execPllLock s) := by
  unfold execPllLock
  (try dsimp only)
  exact (KeepsOut.next (Keeps.ite h_s (State.wr_keeps (State.wr_keeps (State.ftMod_keeps (hw.mono rfl) (State.pwrMod_keeps (hw.mono rfl) h_s)) (hw.mono rfl)) (hw.mono rfl))))

theorem State.noImage_keeps {W : Nat} {z : State} {s : State} (hw : Within 0x200000000000000 W) (h_s : Keeps W z s) : Keeps W z (State.noImage s) := by
  unfold State.noImage
  (try dsimp only)
  exact (State.wr_keeps (State.wr_keeps h_s (hw.mono rfl)) (hw.mono rfl))

theorem execSramClearDone_keeps {W : Nat} {z : State} {bad : ℕ} {s : State} (hw : Within 0x300004101000040 W) (h_s : Keeps W z s) : KeepsOut W z (execSramClearDone bad s) := by
  unfold execSramClearDone
  (try dsimp only)
  exact (KeepsOut.onUnit (Keeps.ite h_s (Keeps.ite (State.wr_keeps (State.wr_keeps (State.noImage_keeps (hw.mono rfl) (State.bootCount_keeps (hw.mono rfl) (State.wr_keeps (State.bootMod_keeps (hw.mono rfl) (State.pwrMod_keeps (hw.mono rfl) h_s)) (hw.mono rfl)))) (hw.mono rfl)) (hw.mono rfl)) (State.bootCount_keeps (hw.mono rfl) (State.wr_keeps (State.bootMod_keeps (hw.mono rfl) (State.pwrMod_keeps (hw.mono rfl) h_s)) (hw.mono rfl))))))

theorem execT1sPhyJoin_keeps {W : Nat} {z : State} {seg : ℕ} {s : State} (hw : Within 0x80000000000000 W) (h_s : Keeps W z s) : KeepsOut W z (execT1sPhyJoin seg s) := by
  unfold execT1sPhyJoin
  (try dsimp only)
  exact (KeepsOut.onUnit (Keeps.ite h_s (State.wrb_keeps (hw.mono rfl) h_s (hw.mono rfl))))

theorem State.tablesNow_keeps {W : Nat} {z : State} {s : State} (hw : Within 0x4000000000 W) (h_s : Keeps W z s) : Keeps W z (State.tablesNow s) := by
  unfold State.tablesNow
  (try dsimp only)
  exact (Keeps.ite (State.wr_keeps h_s (hw.mono rfl)) h_s)

theorem execCalibrationDone_keeps {W : Nat} {z : State} {tile : ℕ} {s : State} (hw : Within 0x44000000000 W) (h_s : Keeps W z s) : KeepsOut W z (execCalibrationDone tile s) := by
  unfold execCalibrationDone
  (try dsimp only)
  exact (KeepsOut.onUnit (Keeps.ite h_s (State.tablesNow_keeps (hw.mono rfl) (State.putb_keeps (hw.mono rfl) h_s (hw.mono rfl)))))

theorem State.waveOf_keeps {W : Nat} {z : State} {s : State} {ps : List ℕ} {w : ℕ} (hw : Within 0x40 W) (h_s : Keeps W z s) : Keeps W z (State.waveOf s ps w) := by
  unfold State.waveOf
  (try dsimp only)
  exact (State.pwrMod_keeps (hw.mono rfl) h_s)

theorem execPortWave_keeps {W : Nat} {z : State} {w : ℕ} {tile : Option ℕ} {s : State} (hw : Within 0x1080004012000042 W) (h_s : Keeps W z s) : KeepsOut W z (execPortWave w tile s) := by
  unfold execPortWave
  (try dsimp only)
  exact (KeepsOut.onUnit (by split <;> [(exact (Keeps.ite h_s (State.waveOf_keeps (hw.mono rfl) h_s))); (exact (Keeps.ite (Keeps.ite (State.setDev_keeps (hw.mono rfl) (State.pwrMod_keeps (hw.mono rfl) (State.wr_keeps (State.wr_keeps (State.waveOf_keeps (hw.mono rfl) h_s) (hw.mono rfl)) (hw.mono rfl)))) h_s) (Keeps.ite (State.wr_keeps (State.wr_keeps (State.waveOf_keeps (hw.mono rfl) h_s) (hw.mono rfl)) (hw.mono rfl)) h_s)))]))

theorem execLeatWave_keeps {W : Nat} {z : State} {tile : Option ℕ} {s : State} (hw : Within 0x444000003000 W) (h_s : Keeps W z s) : KeepsOut W z (execLeatWave tile s) := by
  unfold execLeatWave
  (try dsimp only)
  exact (KeepsOut.onUnit (by split <;> [(exact (Keeps.ite h_s (State.each_keeps h_s (fun _ h1 _ => (State.linkTry_keeps (hw.mono rfl) (State.lkMod_keeps (hw.mono rfl) h1)))))); (exact (Keeps.ite (State.each_keeps (State.wr_keeps (State.wr_keeps h_s (hw.mono rfl)) (hw.mono rfl)) (fun _ h2 _ => (State.linkTry_keeps (hw.mono rfl) (State.lkMod_keeps (hw.mono rfl) h2)))) h_s))]))

theorem execWarmRstPin_keeps {W : Nat} {z : State} {low : Bool} {s : State} (hw : Within 0x1fdffeee13fffe42 W) (h_s : Keeps W z s) : KeepsOut W z (execWarmRstPin low s) := by
  unfold execWarmRstPin
  (try dsimp only)
  exact (KeepsOut.next (Keeps.ite (Keeps.ite (State.pwrMod_keeps (hw.mono rfl) (Keeps.ite h_s (State.warmReset_keeps (hw.mono rfl) h_s))) (Keeps.ite h_s (State.warmReset_keeps (hw.mono rfl) h_s))) (State.pwrMod_keeps (hw.mono rfl) h_s)))

theorem execWarmResetReq_keeps {W : Nat} {z : State} {val : ℕ} {s : State} (hw : Within 0x1fdffeee13fffe42 W) (h_s : Keeps W z s) : KeepsOut W z (execWarmResetReq val s) := by
  unfold execWarmResetReq
  (try dsimp only)
  exact (KeepsOut.onUnit (Keeps.ite (State.warmReset_keeps (hw.mono rfl) h_s) h_s))

theorem State.tileReq_keeps {W : Nat} {z : State} {s : State} {val : ℕ} (hw : Within 0x1cdffeec127ff642 W) (h_s : Keeps W z s) : Keeps W z (State.tileReq s val) := by
  unfold State.tileReq
  (try dsimp only)
  exact (Keeps.ite (State.each_keeps h_s (fun _ h1 _ => (State.tileReset_keeps (hw.mono rfl) h1))) h_s)

theorem execTileResetReq_keeps {W : Nat} {z : State} {val : ℕ} {s : State} (hw : Within 0x1cdffeec127ff642 W) (h_s : Keeps W z s) : KeepsOut W z (execTileResetReq val s) := by
  unfold execTileResetReq
  (try dsimp only)
  exact (KeepsOut.onUnit (State.tileReq_keeps (hw.mono rfl) h_s))

theorem execWarmResetEnd_keeps {W : Nat} {z : State} {s : State} (hw : Within 0x1ccf76e8127bf642 W) (h_s : Keeps W z s) : KeepsOut W z (execWarmResetEnd s) := by
  unfold execWarmResetEnd
  (try dsimp only)
  exact (KeepsOut.next (Keeps.ite (State.each_keeps (State.wr_keeps (State.startPoint_keeps (hw.mono rfl) (State.pwrMod_keeps (hw.mono rfl) h_s)) (hw.mono rfl)) (fun _ h1 _ => (State.perstSample_keeps (hw.mono rfl) h1))) h_s))

theorem execTileResetEnd_keeps {W : Nat} {z : State} {tile : ℕ} {s : State} (hw : Within 0x1ccf76e8127bf642 W) (h_s : Keeps W z s) : KeepsOut W z (execTileResetEnd tile s) := by
  unfold execTileResetEnd
  (try dsimp only)
  exact (KeepsOut.onUnit (Keeps.ite (State.each_keeps (State.pwrMod_keeps (hw.mono rfl) h_s) (fun _ h1 _ => (State.perstSample_keeps (hw.mono rfl) h1))) h_s))

theorem execCulvertRetrained_keeps {W : Nat} {z : State} {tile : ℕ} {s : State} (hw : Within 0x240 W) (h_s : Keeps W z s) : KeepsOut W z (execCulvertRetrained tile s) := by
  unfold execCulvertRetrained
  (try dsimp only)
  exact (KeepsOut.onUnit (Keeps.ite (State.spwMod_keeps (hw.mono rfl) (State.pwrMod_keeps (hw.mono rfl) h_s)) h_s))

theorem State.railSources_keeps {W : Nat} {z : State} {s : State} (hw : Within 0x200 W) (h_s : Keeps W z s) : Keeps W z (State.railSources s) := by
  unfold State.railSources
  (try dsimp only)
  exact (Keeps.ite h_s (State.level_keeps (hw.mono rfl) (State.level_keeps (hw.mono rfl) h_s)))

theorem execRailWarning_keeps {W : Nat} {z : State} {rail : ℕ} {outside : Bool} {s : State} (hw : Within 0x4000000200 W) (h_s : Keeps W z s) : KeepsOut W z (execRailWarning rail outside s) := by
  unfold execRailWarning
  (try dsimp only)
  exact (KeepsOut.onUnit (Keeps.ite (State.railSources_keeps (hw.mono rfl) (State.putb_keeps (hw.mono rfl) (Keeps.ite (State.setRail_keeps (hw.mono rfl) h_s) h_s) (hw.mono rfl))) (State.railSources_keeps (hw.mono rfl) (State.setRail_keeps (hw.mono rfl) h_s))))

theorem execRailFault_keeps {W : Nat} {z : State} {rail : ℕ} {outside : Bool} {s : State} (hw : Within 0x4000000200 W) (h_s : Keeps W z s) : KeepsOut W z (execRailFault rail outside s) := by
  unfold execRailFault
  (try dsimp only)
  exact (KeepsOut.onUnit (Keeps.ite (State.railSources_keeps (hw.mono rfl) (State.putb_keeps (hw.mono rfl) (State.putb_keeps (hw.mono rfl) (State.setRail_keeps (hw.mono rfl) h_s) (hw.mono rfl)) (hw.mono rfl))) (State.railSources_keeps (hw.mono rfl) (Keeps.ite (State.setRail_keeps (hw.mono rfl) h_s) h_s))))

theorem execClockLoss_keeps {W : Nat} {z : State} {dom : ℕ} {s : State} (hw : Within 0x1ccf76e8127bf6c2 W) (h_s : Keeps W z s) : KeepsOut W z (execClockLoss dom s) := by
  unfold execClockLoss
  (try dsimp only)
  exact (KeepsOut.onUnit (Keeps.ite h_s (Keeps.ite (State.ftMod_keeps (hw.mono rfl) (State.pwrMod_keeps (hw.mono rfl) (State.level_keeps (hw.mono rfl) (State.putb_keeps (hw.mono rfl) (State.putb_keeps (hw.mono rfl) (State.pwrMod_keeps (hw.mono rfl) h_s) (hw.mono rfl)) (hw.mono rfl))))) (Keeps.ite (State.each_keeps (State.level_keeps (hw.mono rfl) (State.putb_keeps (hw.mono rfl) (State.putb_keeps (hw.mono rfl) (State.pwrMod_keeps (hw.mono rfl) h_s) (hw.mono rfl)) (hw.mono rfl))) (fun _ h1 _ => (State.linkLost_keeps (hw.mono rfl) h1))) (State.level_keeps (hw.mono rfl) (State.putb_keeps (hw.mono rfl) (State.putb_keeps (hw.mono rfl) (State.pwrMod_keeps (hw.mono rfl) h_s) (hw.mono rfl)) (hw.mono rfl)))))))

theorem execClockPresent_keeps {W : Nat} {z : State} {dom : ℕ} {s : State} (hw : Within 0x4000000240 W) (h_s : Keeps W z s) : KeepsOut W z (execClockPresent dom s) := by
  unfold execClockPresent
  (try dsimp only)
  exact (KeepsOut.onUnit (Keeps.ite h_s (Keeps.ite (State.pwrMod_keeps (hw.mono rfl) (State.clockFound_keeps (hw.mono rfl) (State.putb_keeps (hw.mono rfl) h_s (hw.mono rfl)))) (State.clockFound_keeps (hw.mono rfl) (State.putb_keeps (hw.mono rfl) h_s (hw.mono rfl))))))

theorem execPwrDomctlWrite_keeps {W : Nat} {z : State} {n : ℕ} {val : ℕ} {s : State} (hw : Within 0x8004000000040 W) (h_s : Keeps W z s) : KeepsOut W z (execPwrDomctlWrite n val s) := by
  unfold execPwrDomctlWrite
  (try dsimp only)
  exact (KeepsOut.onUnit (Keeps.ite h_s (Keeps.ite (State.w1c_keeps (hw.mono rfl) h_s (hw.mono rfl)) (State.domKick_keeps (hw.mono rfl) (State.pwrMod_keeps (hw.mono rfl) (State.wrb_keeps (hw.mono rfl) (State.w1c_keeps (hw.mono rfl) h_s (hw.mono rfl)) (hw.mono rfl)))))))

theorem execDomainPowerUpDone_keeps {W : Nat} {z : State} {n : ℕ} {s : State} (hw : Within 0x8444000003000 W) (h_s : Keeps W z s) : KeepsOut W z (execDomainPowerUpDone n s) := by
  unfold execDomainPowerUpDone
  (try dsimp only)
  exact (KeepsOut.onUnit (Keeps.ite (State.domKick_keeps (hw.mono rfl) (Keeps.ite (State.each_keeps (State.wrb_keeps (hw.mono rfl) (State.wrb_keeps (hw.mono rfl) (State.wr_keeps h_s (hw.mono rfl)) (hw.mono rfl)) (hw.mono rfl)) (fun _ h1 _ => (State.wr_keeps h1 (hw.mono rfl)))) (Keeps.ite (State.linkTry_keeps (hw.mono rfl) (State.wrb_keeps (hw.mono rfl) (State.wrb_keeps (hw.mono rfl) (State.wr_keeps h_s (hw.mono rfl)) (hw.mono rfl)) (hw.mono rfl))) (State.wrb_keeps (hw.mono rfl) (State.wrb_keeps (hw.mono rfl) (State.wr_keeps h_s (hw.mono rfl)) (hw.mono rfl)) (hw.mono rfl))))) h_s))

theorem execHeaderSwitchOpen_keeps {W : Nat} {z : State} {n : ℕ} {s : State} (hw : Within 0x8044000001000 W) (h_s : Keeps W z s) : KeepsOut W z (execHeaderSwitchOpen n s) := by
  unfold execHeaderSwitchOpen
  (try dsimp only)
  exact (KeepsOut.onUnit (Keeps.ite (State.domKick_keeps (hw.mono rfl) (Keeps.ite (State.each_keeps (State.wrb_keeps (hw.mono rfl) (State.wrb_keeps (hw.mono rfl) h_s (hw.mono rfl)) (hw.mono rfl)) (fun _ h1 _ => (State.lanePowerOff_keeps (hw.mono rfl) h1))) (Keeps.ite (State.each_keeps (State.wrb_keeps (hw.mono rfl) (State.wrb_keeps (hw.mono rfl) h_s (hw.mono rfl)) (hw.mono rfl)) (fun _ h2 _ => (State.lanePowerOff_keeps (hw.mono rfl) h2))) (State.wrb_keeps (hw.mono rfl) (State.wrb_keeps (hw.mono rfl) h_s (hw.mono rfl)) (hw.mono rfl))))) h_s))

theorem execPerstInAssert_keeps {W : Nat} {z : State} {p : ℕ} {s : State} (hw : Within 0x1ccf76e8127bf642 W) (h_s : Keeps W z s) : KeepsOut W z (execPerstInAssert p s) := by
  unfold execPerstInAssert
  (try dsimp only)
  exact (KeepsOut.onUnit (Keeps.ite (State.pwrMod_keeps (hw.mono rfl) h_s) (State.perstSample_keeps (hw.mono rfl) (State.pwrMod_keeps (hw.mono rfl) h_s))))

theorem execPerstInRelease_keeps {W : Nat} {z : State} {p : ℕ} {s : State} (hw : Within 0x1ccf76e8127bf642 W) (h_s : Keeps W z s) : KeepsOut W z (execPerstInRelease p s) := by
  unfold execPerstInRelease
  (try dsimp only)
  exact (KeepsOut.onUnit (Keeps.ite (State.pwrMod_keeps (hw.mono rfl) h_s) (State.perstSample_keeps (hw.mono rfl) (State.pwrMod_keeps (hw.mono rfl) h_s))))

theorem execPerstOutRelease_keeps {W : Nat} {z : State} {p : ℕ} {s : State} (hw : Within 0x4000000000 W) (h_s : Keeps W z s) : KeepsOut W z (execPerstOutRelease p s) := by
  unfold execPerstOutRelease
  (try dsimp only)
  exact (KeepsOut.onUnit (Keeps.ite (State.setBit_keeps (hw.mono rfl) h_s (hw.mono rfl)) h_s))

theorem execCrsLate_keeps {W : Nat} {z : State} {p : ℕ} {s : State} (hw : Within 0x4000000240 W) (h_s : Keeps W z s) : KeepsOut W z (execCrsLate p s) := by
  unfold execCrsLate
  (try dsimp only)
  exact (KeepsOut.onUnit (Keeps.ite h_s (State.pulse_keeps (hw.mono rfl) (State.setBit_keeps (hw.mono rfl) (State.pwrMod_keeps (hw.mono rfl) h_s) (hw.mono rfl)))))

theorem State.tempRead_keeps {W : Nat} {z : State} {s : State} {temp : ℕ} {sensor : ℕ} (hw : Within 0x4000000200 W) (h_s : Keeps W z s) : Keeps W z (State.tempRead s temp sensor) := by
  unfold State.tempRead
  (try dsimp only)
  exact (Keeps.ite (State.level_keeps (hw.mono rfl) (State.wrb_keeps (hw.mono rfl) (Keeps.ite (State.wr_keeps (State.wr_keeps (State.wr_keeps h_s (hw.mono rfl)) (hw.mono rfl)) (hw.mono rfl)) (State.wr_keeps (State.wr_keeps h_s (hw.mono rfl)) (hw.mono rfl))) (hw.mono rfl))) (Keeps.ite (State.level_keeps (hw.mono rfl) (State.wrb_keeps (hw.mono rfl) (Keeps.ite (State.wr_keeps (State.wr_keeps (State.wr_keeps h_s (hw.mono rfl)) (hw.mono rfl)) (hw.mono rfl)) (State.wr_keeps (State.wr_keeps h_s (hw.mono rfl)) (hw.mono rfl))) (hw.mono rfl))) (Keeps.ite (State.wr_keeps (State.wr_keeps (State.wr_keeps h_s (hw.mono rfl)) (hw.mono rfl)) (hw.mono rfl)) (State.wr_keeps (State.wr_keeps h_s (hw.mono rfl)) (hw.mono rfl)))))

theorem execJunctionWarning_keeps {W : Nat} {z : State} {temp : ℕ} {sensor : ℕ} {s : State} (hw : Within 0x4000000200 W) (h_s : Keeps W z s) : KeepsOut W z (execJunctionWarning temp sensor s) := by
  unfold execJunctionWarning
  (try dsimp only)
  exact (KeepsOut.onUnit (State.tempRead_keeps (hw.mono rfl) h_s))

theorem State.therm_keeps {W : Nat} {z : State} {s : State} (hw : Within 0x1ccf7ee8127bf6c2 W) (h_s : Keeps W z s) : Keeps W z (State.therm s) := by
  unfold State.therm
  (try dsimp only)
  exact (State.wr_keeps (State.ftMod_keeps (hw.mono rfl) (State.each_keeps (State.each_keeps (State.each_keeps (State.wrb_keeps (hw.mono rfl) (State.pwrMod_keeps (hw.mono rfl) h_s) (hw.mono rfl)) (fun _ h1 _ => (Keeps.ite (State.linkLost_keeps (hw.mono rfl) (State.setBit_keeps (hw.mono rfl) h1 (hw.mono rfl))) (State.dlDown_keeps (hw.mono rfl) (State.setBit_keeps (hw.mono rfl) h1 (hw.mono rfl)))))) (fun _ h2 _ => (State.linkHalt_keeps (hw.mono rfl) h2))) (fun _ h3 _ => (State.laneStop_keeps (hw.mono rfl) h3)))) (hw.mono rfl))

theorem execJunctionTrip_keeps {W : Nat} {z : State} {temp : ℕ} {sensor : ℕ} {s : State} (hw : Within 0x1ccf7ee8127bf6c2 W) (h_s : Keeps W z s) : KeepsOut W z (execJunctionTrip temp sensor s) := by
  unfold execJunctionTrip
  (try dsimp only)
  exact (KeepsOut.onUnit (Keeps.ite (State.therm_keeps (hw.mono rfl) (State.tempRead_keeps (hw.mono rfl) h_s)) (State.tempRead_keeps (hw.mono rfl) h_s)))

end Sys2Proof.Machine
end

