-- ==== Sys2Proof/Laws/KeepsF.lean ====
section
/-! SUPPORT. What every operation keeps, for the operations of Spw, Depart, Ft, Flm, View, RegCmd, Judge, Boot, Cfg, Debug, Dict: the queue, the canonical form of the register store, and
what lies outside the parts it may change (`Keeps`, `KeepsOut`, `KeepsOpt`). -/

namespace Sys2Proof.Machine

/-! ### Spw -/

theorem State.setHeld__keeps {W : Nat} {z : State} {s : State} {n : ℕ} {v : ℕ} (hw : Within 0x200 W) (h_s : Keeps W z s) : Keeps W z (State.setHeld_ s n v) := by
  unfold State.setHeld_
  (try dsimp only)
  exact (State.spwMod_keeps (hw.mono rfl) h_s)

theorem State.degradedNow_keeps {W : Nat} {z : State} {s : State} (hw : Within 0x1080000012000002 W) (h_s : Keeps W z s) : Keeps W z (State.degradedNow s) := by
  unfold State.degradedNow
  (try dsimp only)
  exact (Keeps.ite (State.setDev_keeps (hw.mono rfl) h_s) (Keeps.ite (State.setDev_keeps (hw.mono rfl) h_s) h_s))

theorem State.decohere_keeps {W : Nat} {z : State} {s : State} {u : SrcUnit} (hw : Within 0x108872a81208a602 W) (h_s : Keeps W z s) : Keeps W z (State.decohere s u) := by
  unfold State.decohere
  (try dsimp only)
  exact (by split <;> [(exact (Keeps.ite h_s (State.agentLost_keeps (hw.mono rfl) (State.wmMod_keeps (hw.mono rfl) h_s)))); (exact h_s)])

theorem State.isolate_keeps {W : Nat} {z : State} {s : State} {a : SrcUnit} (hw : Within 0x1ccf7ea8127bf602 W) (h_s : Keeps W z s) : Keeps W z (State.isolate s a) := by
  unfold State.isolate
  (try dsimp only)
  exact (by split <;> [(exact (Keeps.ite (Keeps.ite (State.portReset_keeps (hw.mono rfl) (State.portMod_keeps (hw.mono rfl) h_s)) (State.dlDown_keeps (hw.mono rfl) (State.portMod_keeps (hw.mono rfl) h_s))) (State.portMod_keeps (hw.mono rfl) h_s))); (exact (State.when_keeps (State.lkMod_keeps (hw.mono rfl) h_s) (fun _ h1 => (State.goDisabled_keeps (hw.mono rfl) h1)))); (exact h_s)])

theorem State.goSafe_keeps {W : Nat} {z : State} {s : State} (hw : Within 0x1ccf7ea8127bfe02 W) (h_s : Keeps W z s) : Keeps W z (State.goSafe s) := by
  unfold State.goSafe
  (try dsimp only)
  exact (Keeps.ite h_s (State.pauseAll_keeps (hw.mono rfl) (State.each_keeps (State.each_keeps (State.setDev_keeps (hw.mono rfl) h_s) (fun _ h1 _ => (State.isolate_keeps (hw.mono rfl) h1))) (fun _ h2 _ => (State.isolate_keeps (hw.mono rfl) h2)))))

theorem State.react_keeps {W : Nat} {z : State} {s : State} {n : ℕ} {c : ℕ} (hw : Within 0x1fdffeee13ffff42 W) (h_s : Keeps W z s) : Keeps W z (State.react s n c) := by
  unfold State.react
  (try dsimp only)
  exact (Keeps.ite (State.degradedNow_keeps (hw.mono rfl) (State.profileFenced_keeps (hw.mono rfl) (State.holdNow_keeps (hw.mono rfl) (State.setHeld__keeps (hw.mono rfl) h_s)))) (Keeps.ite (State.warmReset_keeps (hw.mono rfl) (State.spwMod_keeps (hw.mono rfl) (State.setHeld__keeps (hw.mono rfl) h_s))) (Keeps.ite (State.goSafe_keeps (hw.mono rfl) (State.setHeld__keeps (hw.mono rfl) h_s)) (Keeps.ite (State.degradedNow_keeps (hw.mono rfl) (State.setHeld__keeps (hw.mono rfl) h_s)) (Keeps.ite (by split <;> [(exact (State.tileReset_keeps (hw.mono rfl) (State.setHeld__keeps (hw.mono rfl) h_s))); (exact (State.setHeld__keeps (hw.mono rfl) h_s))]) (Keeps.ite (State.degradedNow_keeps (hw.mono rfl) (Keeps.ite (State.each_keeps (Keeps.ite (State.isolate_keeps (hw.mono rfl) (State.decohere_keeps (hw.mono rfl) (State.setHeld__keeps (hw.mono rfl) h_s))) (State.decohere_keeps (hw.mono rfl) (State.setHeld__keeps (hw.mono rfl) h_s))) (fun _ h1 _ => (State.domFence_keeps (hw.mono rfl) h1))) (Keeps.ite (State.isolate_keeps (hw.mono rfl) (State.decohere_keeps (hw.mono rfl) (State.setHeld__keeps (hw.mono rfl) h_s))) (State.decohere_keeps (hw.mono rfl) (State.setHeld__keeps (hw.mono rfl) h_s))))) (State.setHeld__keeps (hw.mono rfl) h_s)))))))

theorem State.releaseSrc_keeps {W : Nat} {z : State} {s : State} {n : ℕ} (hw : Within 0x188e74e81279be42 W) (h_s : Keeps W z s) : Keeps W z (State.releaseSrc s n) := by
  unfold State.releaseSrc
  (try dsimp only)
  exact (Keeps.ite (State.setHeld__keeps (hw.mono rfl) h_s) (State.degradedNow_keeps (hw.mono rfl) (Keeps.ite (by split <;> [(exact (State.wmMod_keeps (hw.mono rfl) (Keeps.ite (by split <;> [(exact (State.portMod_keeps (hw.mono rfl) (Keeps.ite (State.each_keeps (Keeps.ite (State.holdNow_keeps (hw.mono rfl) (State.setHeld__keeps (hw.mono rfl) h_s)) (State.setHeld__keeps (hw.mono rfl) h_s)) (fun _ h1 _ => (State.domUnfence_keeps (hw.mono rfl) h1))) (Keeps.ite (State.holdNow_keeps (hw.mono rfl) (State.setHeld__keeps (hw.mono rfl) h_s)) (State.setHeld__keeps (hw.mono rfl) h_s))))); (exact (State.linkTry_keeps (hw.mono rfl) (State.lkMod_keeps (hw.mono rfl) (Keeps.ite (State.each_keeps (Keeps.ite (State.holdNow_keeps (hw.mono rfl) (State.setHeld__keeps (hw.mono rfl) h_s)) (State.setHeld__keeps (hw.mono rfl) h_s)) (fun _ h2 _ => (State.domUnfence_keeps (hw.mono rfl) h2))) (Keeps.ite (State.holdNow_keeps (hw.mono rfl) (State.setHeld__keeps (hw.mono rfl) h_s)) (State.setHeld__keeps (hw.mono rfl) h_s)))))); (exact (Keeps.ite (State.each_keeps (Keeps.ite (State.holdNow_keeps (hw.mono rfl) (State.setHeld__keeps (hw.mono rfl) h_s)) (State.setHeld__keeps (hw.mono rfl) h_s)) (fun _ h3 _ => (State.domUnfence_keeps (hw.mono rfl) h3))) (Keeps.ite (State.holdNow_keeps (hw.mono rfl) (State.setHeld__keeps (hw.mono rfl) h_s)) (State.setHeld__keeps (hw.mono rfl) h_s))))]) (Keeps.ite (State.each_keeps (Keeps.ite (State.holdNow_keeps (hw.mono rfl) (State.setHeld__keeps (hw.mono rfl) h_s)) (State.setHeld__keeps (hw.mono rfl) h_s)) (fun _ h4 _ => (State.domUnfence_keeps (hw.mono rfl) h4))) (Keeps.ite (State.holdNow_keeps (hw.mono rfl) (State.setHeld__keeps (hw.mono rfl) h_s)) (State.setHeld__keeps (hw.mono rfl) h_s)))))); (exact (Keeps.ite (by split <;> [(exact (State.portMod_keeps (hw.mono rfl) (Keeps.ite (State.each_keeps (Keeps.ite (State.holdNow_keeps (hw.mono rfl) (State.setHeld__keeps (hw.mono rfl) h_s)) (State.setHeld__keeps (hw.mono rfl) h_s)) (fun _ h5 _ => (State.domUnfence_keeps (hw.mono rfl) h5))) (Keeps.ite (State.holdNow_keeps (hw.mono rfl) (State.setHeld__keeps (hw.mono rfl) h_s)) (State.setHeld__keeps (hw.mono rfl) h_s))))); (exact (State.linkTry_keeps (hw.mono rfl) (State.lkMod_keeps (hw.mono rfl) (Keeps.ite (State.each_keeps (Keeps.ite (State.holdNow_keeps (hw.mono rfl) (State.setHeld__keeps (hw.mono rfl) h_s)) (State.setHeld__keeps (hw.mono rfl) h_s)) (fun _ h6 _ => (State.domUnfence_keeps (hw.mono rfl) h6))) (Keeps.ite (State.holdNow_keeps (hw.mono rfl) (State.setHeld__keeps (hw.mono rfl) h_s)) (State.setHeld__keeps (hw.mono rfl) h_s)))))); (exact (Keeps.ite (State.each_keeps (Keeps.ite (State.holdNow_keeps (hw.mono rfl) (State.setHeld__keeps (hw.mono rfl) h_s)) (State.setHeld__keeps (hw.mono rfl) h_s)) (fun _ h7 _ => (State.domUnfence_keeps (hw.mono rfl) h7))) (Keeps.ite (State.holdNow_keeps (hw.mono rfl) (State.setHeld__keeps (hw.mono rfl) h_s)) (State.setHeld__keeps (hw.mono rfl) h_s))))]) (Keeps.ite (State.each_keeps (Keeps.ite (State.holdNow_keeps (hw.mono rfl) (State.setHeld__keeps (hw.mono rfl) h_s)) (State.setHeld__keeps (hw.mono rfl) h_s)) (fun _ h8 _ => (State.domUnfence_keeps (hw.mono rfl) h8))) (Keeps.ite (State.holdNow_keeps (hw.mono rfl) (State.setHeld__keeps (hw.mono rfl) h_s)) (State.setHeld__keeps (hw.mono rfl) h_s)))))]) (Keeps.ite (by split <;> [(exact (State.portMod_keeps (hw.mono rfl) (Keeps.ite (State.each_keeps (Keeps.ite (State.holdNow_keeps (hw.mono rfl) (State.setHeld__keeps (hw.mono rfl) h_s)) (State.setHeld__keeps (hw.mono rfl) h_s)) (fun _ h9 _ => (State.domUnfence_keeps (hw.mono rfl) h9))) (Keeps.ite (State.holdNow_keeps (hw.mono rfl) (State.setHeld__keeps (hw.mono rfl) h_s)) (State.setHeld__keeps (hw.mono rfl) h_s))))); (exact (State.linkTry_keeps (hw.mono rfl) (State.lkMod_keeps (hw.mono rfl) (Keeps.ite (State.each_keeps (Keeps.ite (State.holdNow_keeps (hw.mono rfl) (State.setHeld__keeps (hw.mono rfl) h_s)) (State.setHeld__keeps (hw.mono rfl) h_s)) (fun _ h10 _ => (State.domUnfence_keeps (hw.mono rfl) h10))) (Keeps.ite (State.holdNow_keeps (hw.mono rfl) (State.setHeld__keeps (hw.mono rfl) h_s)) (State.setHeld__keeps (hw.mono rfl) h_s)))))); (exact (Keeps.ite (State.each_keeps (Keeps.ite (State.holdNow_keeps (hw.mono rfl) (State.setHeld__keeps (hw.mono rfl) h_s)) (State.setHeld__keeps (hw.mono rfl) h_s)) (fun _ h11 _ => (State.domUnfence_keeps (hw.mono rfl) h11))) (Keeps.ite (State.holdNow_keeps (hw.mono rfl) (State.setHeld__keeps (hw.mono rfl) h_s)) (State.setHeld__keeps (hw.mono rfl) h_s))))]) (Keeps.ite (State.each_keeps (Keeps.ite (State.holdNow_keeps (hw.mono rfl) (State.setHeld__keeps (hw.mono rfl) h_s)) (State.setHeld__keeps (hw.mono rfl) h_s)) (fun _ h12 _ => (State.domUnfence_keeps (hw.mono rfl) h12))) (Keeps.ite (State.holdNow_keeps (hw.mono rfl) (State.setHeld__keeps (hw.mono rfl) h_s)) (State.setHeld__keeps (hw.mono rfl) h_s)))))))

theorem State.setSrc_keeps {W : Nat} {z : State} {s : State} {n : ℕ} {v : ℕ} (hw : Within 0x10000000000000 W) (h_s : Keeps W z s) : Keeps W z (State.setSrc s n v) := by
  unfold State.setSrc
  (try dsimp only)
  exact (Keeps.ite (State.wrb_keeps (hw.mono rfl) (State.wr_keeps h_s (hw.mono rfl)) (hw.mono rfl)) (State.wr_keeps h_s (hw.mono rfl)))

theorem State.spwRecord_keeps {W : Nat} {z : State} {s : State} {n : ℕ} (hw : Within 0x10000000000000 W) (h_s : Keeps W z s) : Keeps W z (State.spwRecord s n) := by
  unfold State.spwRecord
  (try dsimp only)
  exact (Keeps.ite (State.wr_keeps (State.wr_keeps (State.wr_keeps (State.wrb_keeps (hw.mono rfl) (State.wr_keeps (State.wrb_keeps (hw.mono rfl) (State.wr_keeps (State.wr_keeps (State.wr_keeps (State.wr_keeps (State.wrb_keeps (hw.mono rfl) (State.wr_keeps (State.wrb_keeps (hw.mono rfl) (State.wr_keeps h_s (hw.mono rfl)) (hw.mono rfl)) (hw.mono rfl)) (hw.mono rfl)) (hw.mono rfl)) (hw.mono rfl)) (hw.mono rfl)) (hw.mono rfl)) (hw.mono rfl)) (hw.mono rfl)) (hw.mono rfl)) (hw.mono rfl)) (hw.mono rfl)) (hw.mono rfl)) (State.wr_keeps (State.wr_keeps (State.wr_keeps (State.wrb_keeps (hw.mono rfl) (State.wr_keeps (State.wrb_keeps (hw.mono rfl) (State.wr_keeps h_s (hw.mono rfl)) (hw.mono rfl)) (hw.mono rfl)) (hw.mono rfl)) (hw.mono rfl)) (hw.mono rfl)) (hw.mono rfl)))

theorem State.spwNotify_keeps {W : Nat} {z : State} {s : State} {n : ℕ} (hw : Within 0x1080000012000202 W) (h_s : Keeps W z s) : Keeps W z (State.spwNotify s n) := by
  unfold State.spwNotify
  (try dsimp only)
  exact (Keeps.ite h_s (State.notify_keeps (hw.mono rfl) (State.spwMod_keeps (hw.mono rfl) h_s)))

theorem State.spwMark_keeps {W : Nat} {z : State} {s : State} {n : ℕ} (hw : Within 0x1090000012000202 W) (h_s : Keeps W z s) : Keeps W z (State.spwMark s n) := by
  unfold State.spwMark
  (try dsimp only)
  exact (State.spwNotify_keeps (hw.mono rfl) (State.spwRecord_keeps (hw.mono rfl) (State.setBit_keeps (hw.mono rfl) h_s (hw.mono rfl))))

theorem State.raised_keeps {W : Nat} {z : State} {s : State} {n : ℕ} (hw : Within 0x1fdffeee13ffff42 W) (h_s : Keeps W z s) : Keeps W z (State.raised s n) := by
  unfold State.raised
  (try dsimp only)
  exact (Keeps.ite (State.setBit_keeps (hw.mono rfl) h_s (hw.mono rfl)) (Keeps.ite (State.spwMod_keeps (hw.mono rfl) (State.spwMark_keeps (hw.mono rfl) (State.setBit_keeps (hw.mono rfl) h_s (hw.mono rfl)))) (Keeps.ite (State.react_keeps (hw.mono rfl) (State.setSrc_keeps (hw.mono rfl) (State.spwMark_keeps (hw.mono rfl) (State.setBit_keeps (hw.mono rfl) h_s (hw.mono rfl))))) (State.setSrc_keeps (hw.mono rfl) (State.spwMark_keeps (hw.mono rfl) (State.setBit_keeps (hw.mono rfl) h_s (hw.mono rfl)))))))

theorem State.quieted_keeps {W : Nat} {z : State} {s : State} {n : ℕ} (hw : Within 0x10000000000200 W) (h_s : Keeps W z s) : Keeps W z (State.quieted s n) := by
  unfold State.quieted
  (try dsimp only)
  exact (Keeps.ite (State.spwMod_keeps (hw.mono rfl) (State.setBit_keeps (hw.mono rfl) h_s (hw.mono rfl))) (State.setSrc_keeps (hw.mono rfl) (State.spwMod_keeps (hw.mono rfl) (State.setBit_keeps (hw.mono rfl) h_s (hw.mono rfl)))))

theorem State.recovered_keeps {W : Nat} {z : State} {s : State} {n : ℕ} (hw : Within 0x189e74e81279be42 W) (h_s : Keeps W z s) : Keeps W z (State.recovered s n) := by
  unfold State.recovered
  (try dsimp only)
  exact (State.spwMod_keeps (hw.mono rfl) (State.inc_keeps (hw.mono rfl) (State.setSrc_keeps (hw.mono rfl) (State.releaseSrc_keeps (hw.mono rfl) (State.setBit_keeps (hw.mono rfl) h_s (hw.mono rfl)))) (hw.mono rfl)))

theorem execSourceRaise_keeps {W : Nat} {z : State} {src : ℕ} {s : State} (hw : Within 0x1fdffeee13ffff42 W) (h_s : Keeps W z s) : KeepsOut W z (execSourceRaise src s) := by
  unfold execSourceRaise
  (try dsimp only)
  exact (KeepsOut.onUnit (Keeps.ite h_s (State.raised_keeps (hw.mono rfl) h_s)))

theorem execSourceQuiet_keeps {W : Nat} {z : State} {src : ℕ} {s : State} (hw : Within 0x10000000000200 W) (h_s : Keeps W z s) : KeepsOut W z (execSourceQuiet src s) := by
  unfold execSourceQuiet
  (try dsimp only)
  exact (KeepsOut.onUnit (Keeps.ite h_s (State.quieted_keeps (hw.mono rfl) h_s)))

theorem execQuietPeriodEnd_keeps {W : Nat} {z : State} {src : ℕ} {s : State} (hw : Within 0x189e74e81279be42 W) (h_s : Keeps W z s) : KeepsOut W z (execQuietPeriodEnd src s) := by
  unfold execQuietPeriodEnd
  (try dsimp only)
  exact (KeepsOut.onUnit (Keeps.ite h_s (Keeps.ite (State.inc_keeps (hw.mono rfl) (State.recovered_keeps (hw.mono rfl) h_s) (hw.mono rfl)) (State.spwMod_keeps (hw.mono rfl) (State.setSrc_keeps (hw.mono rfl) h_s)))))

theorem State.stickyW1c_keeps {W : Nat} {z : State} {s : State} {n : ℕ} (hw : Within 0x1fdffeee13ffff42 W) (h_s : Keeps W z s) : Keeps W z (State.stickyW1c s n) := by
  unfold State.stickyW1c
  (try dsimp only)
  exact (Keeps.ite h_s (Keeps.ite (Keeps.ite h_s (State.setBit_keeps (hw.mono rfl) h_s (hw.mono rfl))) (Keeps.ite (State.raised_keeps (hw.mono rfl) (State.recovered_keeps (hw.mono rfl) h_s)) (State.recovered_keeps (hw.mono rfl) h_s))))

theorem execStickyClear_keeps {W : Nat} {z : State} {word : ℕ} {val : ℕ} {s : State} (hw : Within 0x1fdffeee13ffff42 W) (h_s : Keeps W z s) : KeepsOut W z (execStickyClear word val s) := by
  unfold execStickyClear
  (try dsimp only)
  exact (KeepsOut.onUnit (State.each_keeps h_s (fun _ h1 _ => (State.stickyW1c_keeps (hw.mono rfl) h1))))

theorem execFlapWindowClear_keeps {W : Nat} {z : State} {s : State} (hw : Within 0x10000000000000 W) (h_s : Keeps W z s) : KeepsOut W z (execFlapWindowClear s) := by
  unfold execFlapWindowClear
  (try dsimp only)
  exact (KeepsOut.next (State.clr_keeps h_s (hw.mono rfl)))

theorem execWireFault_keeps {W : Nat} {z : State} {src : ℕ} {s : State} (hw : Within 0x200 W) (h_s : Keeps W z s) : KeepsOut W z (execWireFault src s) := by
  unfold execWireFault
  (try dsimp only)
  exact (KeepsOut.onUnit (Keeps.ite (State.spwMod_keeps (hw.mono rfl) h_s) h_s))

theorem execWireTest_keeps {W : Nat} {z : State} {s : State} (hw : Within 0x200 W) (h_s : Keeps W z s) : KeepsOut W z (execWireTest s) := by
  unfold execWireTest
  (try dsimp only)
  exact (KeepsOut.next (Keeps.ite (State.spwMod_keeps (hw.mono rfl) h_s) h_s))

theorem State.wireRecord_keeps {W : Nat} {z : State} {s : State} {n : ℕ} (hw : Within 0x10000000000200 W) (h_s : Keeps W z s) : Keeps W z (State.wireRecord s n) := by
  unfold State.wireRecord
  (try dsimp only)
  exact (State.pulse_keeps (hw.mono rfl) (State.setBit_keeps (hw.mono rfl) h_s (hw.mono rfl)))

theorem State.wireDead_keeps {W : Nat} {z : State} {s : State} {n : ℕ} (hw : Within 0x1fdffeee13ffff42 W) (h_s : Keeps W z s) : Keeps W z (State.wireDead s n) := by
  unfold State.wireDead
  (try dsimp only)
  exact (Keeps.ite (State.setBit_keeps (hw.mono rfl) (State.spwMod_keeps (hw.mono rfl) h_s) (hw.mono rfl)) (Keeps.ite (State.react_keeps (hw.mono rfl) (State.wr_keeps (State.spwMark_keeps (hw.mono rfl) (State.setBit_keeps (hw.mono rfl) (State.spwMod_keeps (hw.mono rfl) h_s) (hw.mono rfl))) (hw.mono rfl))) (State.wr_keeps (State.spwMark_keeps (hw.mono rfl) (State.setBit_keeps (hw.mono rfl) (State.spwMod_keeps (hw.mono rfl) h_s) (hw.mono rfl))) (hw.mono rfl))))

theorem State.testEnd_keeps {W : Nat} {z : State} {s : State} {p : Bool} {g : Bool} {n : ℕ} (hw : Within 0x1fdffeee13ffff42 W) (h_s : Keeps W z s) : Keeps W z (State.testEnd s p g n) := by
  unfold State.testEnd
  (try dsimp only)
  exact (Keeps.ite (State.wireRecord_keeps (hw.mono rfl) (State.wireDead_keeps (hw.mono rfl) (State.spwMod_keeps (hw.mono rfl) h_s))) (Keeps.ite (State.spwMod_keeps (hw.mono rfl) h_s) (State.wireRecord_keeps (hw.mono rfl) (State.wrb_keeps (hw.mono rfl) (State.wrb_keeps (hw.mono rfl) (State.spwMod_keeps (hw.mono rfl) h_s) (hw.mono rfl)) (hw.mono rfl)))))

theorem execWireTestEnd_keeps {W : Nat} {z : State} {src : Option ℕ} {pGood : Bool} {nGood : Bool} {s : State} (hw : Within 0x1fdffeee13ffff42 W) (h_s : Keeps W z s) : KeepsOut W z (execWireTestEnd src pGood nGood s) := by
  unfold execWireTestEnd
  (try dsimp only)
  exact (KeepsOut.onUnit (by split <;> [(exact (Keeps.ite (State.testEnd_keeps (hw.mono rfl) h_s) h_s)); (exact (State.each_keeps h_s (fun _ h1 _ => (State.testEnd_keeps (hw.mono rfl) h1))))]))

theorem execCollectorMismatch_keeps {W : Nat} {z : State} {srcs : List ℕ} {codes : List (ℕ × ℕ)} {s : State} (hw : Within 0x1fdffeee13ffff42 W) (h_s : Keeps W z s) : KeepsOut W z (execCollectorMismatch srcs codes s) := by
  unfold execCollectorMismatch
  (try dsimp only)
  exact (KeepsOut.onUnit (State.pulse_keeps (hw.mono rfl) (State.wrb_keeps (hw.mono rfl) (State.each_keeps (State.each_keeps h_s (fun _ h1 _ => (State.setBit_keeps (hw.mono rfl) h1 (hw.mono rfl)))) (fun _ h2 _ => (Keeps.ite (State.react_keeps (hw.mono rfl) h2) h2))) (hw.mono rfl))))

theorem execCollectorRateChange_keeps {W : Nat} {z : State} {slow : Bool} {s : State} (hw : Within 0x200 W) (h_s : Keeps W z s) : KeepsOut W z (execCollectorRateChange slow s) := by
  unfold execCollectorRateChange
  (try dsimp only)
  exact (KeepsOut.next (Keeps.ite h_s (State.spwMod_keeps (hw.mono rfl) h_s)))

theorem execRatePairFault_keeps {W : Nat} {z : State} {driver : ℕ} {s : State} (hw : Within 0x200 W) (h_s : Keeps W z s) : KeepsOut W z (execRatePairFault driver s) := by
  unfold execRatePairFault
  (try dsimp only)
  exact (KeepsOut.onUnit (State.pulse_keeps (hw.mono rfl) (State.spwMod_keeps (hw.mono rfl) h_s)))

theorem execSpwInject_keeps {W : Nat} {z : State} {val : ℕ} {s : State} (hw : Within 0x1fdffeee13ffff42 W) (h_s : Keeps W z s) : KeepsOut W z (execSpwInject val s) := by
  unfold execSpwInject
  (try dsimp only)
  exact (KeepsOut.onUnit (Keeps.ite h_s (Keeps.ite (State.cfgErr_keeps (hw.mono rfl) h_s) (Keeps.ite (State.wrb_keeps (hw.mono rfl) (State.pulse_keeps (hw.mono rfl) h_s) (hw.mono rfl)) (State.raised_keeps (hw.mono rfl) (State.wrb_keeps (hw.mono rfl) (State.pulse_keeps (hw.mono rfl) h_s) (hw.mono rfl)))))))

theorem execSpwMaskWrite_keeps {W : Nat} {z : State} {word : ℕ} {val : ℕ} {s : State} (hw : Within 0x1fdffeee13ffff42 W) (h_s : Keeps W z s) : KeepsOut W z (execSpwMaskWrite word val s) := by
  unfold execSpwMaskWrite
  (try dsimp only)
  exact (KeepsOut.onUnit (Keeps.ite (State.cfgErr_keeps (hw.mono rfl) h_s) (State.each_keeps (State.wr_keeps h_s (hw.mono rfl)) (fun _ h1 _ => (Keeps.ite (State.releaseSrc_keeps (hw.mono rfl) h1) (Keeps.ite (State.react_keeps (hw.mono rfl) h1) h1))))))

theorem execSpwRctWrite_keeps {W : Nat} {z : State} {src : ℕ} {val : ℕ} {s : State} (hw : Within 0x10000000000200 W) (h_s : Keeps W z s) : KeepsOut W z (execSpwRctWrite src val s) := by
  unfold execSpwRctWrite
  (try dsimp only)
  exact (KeepsOut.onUnit (Keeps.ite (State.wr_keeps (State.wr_keeps h_s (hw.mono rfl)) (hw.mono rfl)) (State.cfgErr_keeps (hw.mono rfl) h_s)))

theorem State.leaveClearMode_keeps {W : Nat} {z : State} {s : State} (hw : Within 0x10000000000000 W) (h_s : Keeps W z s) : Keeps W z (State.leaveClearMode s) := by
  unfold State.leaveClearMode
  (try dsimp only)
  exact (State.each_keeps h_s (fun _ h1 _ => (Keeps.ite (State.setSrc_keeps (hw.mono rfl) h1) h1)))

theorem State.armSource_keeps {W : Nat} {z : State} {s : State} {n : ℕ} (hw : Within 0x1fdffeee13ffff42 W) (h_s : Keeps W z s) : Keeps W z (State.armSource s n) := by
  unfold State.armSource
  (try dsimp only)
  exact (Keeps.ite h_s (Keeps.ite (State.react_keeps (hw.mono rfl) h_s) (Keeps.ite (State.react_keeps (hw.mono rfl) (State.setSrc_keeps (hw.mono rfl) h_s)) (State.setSrc_keeps (hw.mono rfl) h_s))))

theorem State.coldRaises_keeps {W : Nat} {z : State} {s : State} (hw : Within 0x200 W) (h_s : Keeps W z s) : Keeps W z (State.coldRaises s) := by
  unfold State.coldRaises
  (try dsimp only)
  exact (Keeps.ite (State.pulse_keeps (hw.mono rfl) h_s) h_s)

theorem execSpillwayArm_keeps {W : Nat} {z : State} {s : State} (hw : Within 0x1ffffeee13ffff42 W) (h_s : Keeps W z s) : KeepsOut W z (execSpillwayArm s) := by
  unfold execSpillwayArm
  (try dsimp only)
  exact (KeepsOut.next (Keeps.ite (State.tablesNow_keeps (hw.mono rfl) (State.each_keeps (State.when_keeps (State.slotsArm_keeps (hw.mono rfl) (State.when_keeps (State.setDev_keeps (hw.mono rfl) (State.spwMod_keeps (hw.mono rfl) (State.wrb_keeps (hw.mono rfl) (State.when_keeps h_s (fun _ h1 => (State.pwrMod_keeps (hw.mono rfl) (State.ttEnd_keeps (hw.mono rfl) h1)))) (hw.mono rfl)))) (fun _ h2 => (State.cfgErr_keeps (hw.mono rfl) h2)))) (fun _ h3 => (State.coldRaises_keeps (hw.mono rfl) h3))) (fun _ h4 _ => (State.armSource_keeps (hw.mono rfl) h4)))) (Keeps.ite (State.tndMod_keeps (hw.mono rfl) h_s) h_s)))

/-! ### Depart -/

theorem State.leftBy_keeps {W : Nat} {z : State} {s : State} {x : ℕ} {m : Msg} (hw : Within 0x8402 W) (h_s : Keeps W z s) : Keeps W z (State.leftBy s x m) := by
  unfold State.leftBy
  (try dsimp only)
  exact (Keeps.ite (State.swcMod_keeps (hw.mono rfl) (State.when_keeps (State.countMsg_keeps (hw.mono rfl) h_s) (fun _ h1 => (State.send_keeps (hw.mono rfl) h1)))) (State.when_keeps (State.countMsg_keeps (hw.mono rfl) h_s) (fun _ h2 => (State.send_keeps (hw.mono rfl) h2))))

theorem State.depart_keeps {W : Nat} {z : State} {s : State} {x : ℕ} {sn : Sending} {d : Stored} (hw : Within 0x10c910a01201a602 W) (h_s : Keeps W z s) : Keeps W z (State.depart s x sn d) := by
  unfold State.depart
  (try dsimp only)
  exact (State.drainAll_keeps (hw.mono rfl) (State.considerAll_keeps (hw.mono rfl) (State.copyGone_keeps (hw.mono rfl) (State.tdResolve_keeps (hw.mono rfl) (Keeps.ite (State.each_keeps (State.swcMod_keeps (hw.mono rfl) h_s) (fun _ h1 _ => (State.leftBy_keeps (hw.mono rfl) h1))) (State.swcMod_keeps (hw.mono rfl) h_s))))))

/-! ### Ft -/

theorem State.ppsMod_keeps {W : Nat} {z : State} {s : State} {b : Bool} {f : PpsIn → PpsIn} (hw : Within 0x80 W) (h_s : Keeps W z s) : Keeps W z (State.ppsMod s b f) := by
  unfold State.ppsMod
  (try dsimp only)
  exact (State.ftMod_keeps (hw.mono rfl) h_s)

theorem State.ppsSetGood_keeps {W : Nat} {z : State} {s : State} {b : Bool} {good : Bool} (hw : Within 0x10000000200 W) (h_s : Keeps W z s) : Keeps W z (State.ppsSetGood s b good) := by
  unfold State.ppsSetGood
  (try dsimp only)
  exact (State.level_keeps (hw.mono rfl) (State.wrb_keeps (hw.mono rfl) h_s (by split; exacts [(hw.mono rfl), (hw.mono rfl)])))

theorem State.servoAnew_keeps {W : Nat} {z : State} {s : State} (hw : Within 0x80 W) (h_s : Keeps W z s) : Keeps W z (State.servoAnew s) := by
  unfold State.servoAnew
  (try dsimp only)
  exact (State.ftMod_keeps (hw.mono rfl) h_s)

theorem State.selectSrc_keeps {W : Nat} {z : State} {s : State} (hw : Within 0x10000000080 W) (h_s : Keeps W z s) : Keeps W z (State.selectSrc s) := by
  unfold State.selectSrc
  (try dsimp only)
  exact (State.when_keeps (State.wrb_keeps (hw.mono rfl) h_s (hw.mono rfl)) (fun _ h1 => (State.servoAnew_keeps (hw.mono rfl) h1)))

theorem State.holdLeave_keeps {W : Nat} {z : State} {s : State} (hw : Within 0x200 W) (h_s : Keeps W z s) : Keeps W z (State.holdLeave s) := by
  unfold State.holdLeave
  (try dsimp only)
  exact (State.when_keeps h_s (fun _ h1 => (State.level_keeps (hw.mono rfl) h1)))

theorem State.toAcquire_keeps {W : Nat} {z : State} {s : State} (hw : Within 0x10000000280 W) (h_s : Keeps W z s) : Keeps W z (State.toAcquire s) := by
  unfold State.toAcquire
  (try dsimp only)
  exact (State.ftMod_keeps (hw.mono rfl) (State.wr_keeps (State.wr_keeps (State.wr_keeps (State.holdLeave_keeps (hw.mono rfl) h_s) (hw.mono rfl)) (hw.mono rfl)) (hw.mono rfl)))

theorem State.toLocked_keeps {W : Nat} {z : State} {s : State} (hw : Within 0x10000000080 W) (h_s : Keeps W z s) : Keeps W z (State.toLocked s) := by
  unfold State.toLocked
  (try dsimp only)
  exact (State.ftMod_keeps (hw.mono rfl) (State.wr_keeps h_s (hw.mono rfl)))

theorem State.toFree_keeps {W : Nat} {z : State} {s : State} (hw : Within 0x10000000080 W) (h_s : Keeps W z s) : Keeps W z (State.toFree s) := by
  unfold State.toFree
  (try dsimp only)
  exact (State.ftMod_keeps (hw.mono rfl) (State.wr_keeps h_s (hw.mono rfl)))

theorem State.toHoldover_keeps {W : Nat} {z : State} {s : State} (hw : Within 0x10000000080 W) (h_s : Keeps W z s) : Keeps W z (State.toHoldover s) := by
  unfold State.toHoldover
  (try dsimp only)
  exact (State.ftMod_keeps (hw.mono rfl) (State.wr_keeps (State.wr_keeps h_s (hw.mono rfl)) (hw.mono rfl)))

theorem State.noSource_keeps {W : Nat} {z : State} {s : State} (hw : Within 0x10000000080 W) (h_s : Keeps W z s) : Keeps W z (State.noSource s) := by
  unfold State.noSource
  (try dsimp only)
  exact (Keeps.ite h_s (Keeps.ite (State.toFree_keeps (hw.mono rfl) h_s) (Keeps.ite (State.toHoldover_keeps (hw.mono rfl) h_s) h_s)))

theorem State.rateNow_keeps {W : Nat} {z : State} {s : State} (hw : Within 0x10000000000 W) (h_s : Keeps W z s) : Keeps W z (State.rateNow s) := by
  unfold State.rateNow
  (try dsimp only)
  exact (State.wr_keeps h_s (hw.mono rfl))

theorem State.servoNow_keeps {W : Nat} {z : State} {s : State} {e : ℤ} (hw : Within 0x10000000084 W) (h_s : Keeps W z s) : Keeps W z (State.servoNow s e) := by
  unfold State.servoNow
  (try dsimp only)
  exact (State.rateNow_keeps (hw.mono rfl) (State.ftMod_keeps (hw.mono rfl) (State.draw_keeps (hw.mono rfl) h_s)))

theorem State.slewBy_keeps {W : Nat} {z : State} {s : State} {d : ℤ} (hw : Within 0x10000000080 W) (h_s : Keeps W z s) : Keeps W z (State.slewBy s d) := by
  unfold State.slewBy
  (try dsimp only)
  exact (State.rateNow_keeps (hw.mono rfl) (State.wrb_keeps (hw.mono rfl) (State.ftMod_keeps (hw.mono rfl) h_s) (hw.mono rfl)))

theorem State.ftSet_keeps {W : Nat} {z : State} {s : State} {d : ℤ} (hw : Within 0x10080 W) (h_s : Keeps W z s) : Keeps W z (State.ftSet s d) := by
  unfold State.ftSet
  (try dsimp only)
  exact (State.weirMod_keeps (hw.mono rfl) (State.ftMod_keeps (hw.mono rfl) h_s))

theorem State.ftStep_keeps {W : Nat} {z : State} {s : State} {d : ℤ} (hw : Within 0x10000010280 W) (h_s : Keeps W z s) : Keeps W z (State.ftStep s d) := by
  unfold State.ftStep
  (try dsimp only)
  exact (Keeps.ite (State.toAcquire_keeps (hw.mono rfl) (State.level_keeps (hw.mono rfl) (State.wrb_keeps (hw.mono rfl) (State.slewBy_keeps (hw.mono rfl) (State.ftSet_keeps (hw.mono rfl) h_s)) (hw.mono rfl)))) (State.level_keeps (hw.mono rfl) (State.wrb_keeps (hw.mono rfl) (State.slewBy_keeps (hw.mono rfl) (State.ftSet_keeps (hw.mono rfl) h_s)) (hw.mono rfl))))

theorem State.ftLeaveUnset_keeps {W : Nat} {z : State} {s : State} {d : ℤ} {acquire : Bool} (hw : Within 0x10000010680 W) (h_s : Keeps W z s) : Keeps W z (State.ftLeaveUnset s d acquire) := by
  unfold State.ftLeaveUnset
  (try dsimp only)
  exact (Keeps.ite (State.toAcquire_keeps (hw.mono rfl) (State.flmMod_keeps (hw.mono rfl) (State.ftSet_keeps (hw.mono rfl) h_s))) (State.toFree_keeps (hw.mono rfl) (State.flmMod_keeps (hw.mono rfl) (State.ftSet_keeps (hw.mono rfl) h_s))))

theorem State.heldDrop_keeps {W : Nat} {z : State} {s : State} (hw : Within 0x10000000200 W) (h_s : Keeps W z s) : Keeps W z (State.heldDrop s) := by
  unfold State.heldDrop
  (try dsimp only)
  exact (State.level_keeps (hw.mono rfl) (State.wrb_keeps (hw.mono rfl) h_s (hw.mono rfl)))

theorem State.ftCorrect_keeps {W : Nat} {z : State} {s : State} {d : ℤ} (hw : Within 0x10000010280 W) (h_s : Keeps W z s) : Keeps W z (State.ftCorrect s d) := by
  unfold State.ftCorrect
  (try dsimp only)
  exact (Keeps.ite h_s (Keeps.ite (Keeps.ite (State.level_keeps (hw.mono rfl) (State.wrb_keeps (hw.mono rfl) (State.slewBy_keeps (hw.mono rfl) h_s) (hw.mono rfl))) (State.ftStep_keeps (hw.mono rfl) h_s)) (Keeps.ite (State.heldDrop_keeps (hw.mono rfl) (State.slewBy_keeps (hw.mono rfl) h_s)) (State.ftStep_keeps (hw.mono rfl) h_s))))

theorem State.ppsMeasure_keeps {W : Nat} {z : State} {s : State} {e : ℤ} (hw : Within 0x10000010284 W) (h_s : Keeps W z s) : Keeps W z (State.ppsMeasure s e) := by
  unfold State.ppsMeasure
  (try dsimp only)
  exact (Keeps.ite (State.toAcquire_keeps (hw.mono rfl) (State.servoNow_keeps (hw.mono rfl) (Keeps.ite (State.wr_keeps h_s (hw.mono rfl)) (State.ftCorrect_keeps (hw.mono rfl) (State.wr_keeps h_s (hw.mono rfl)))))) (Keeps.ite (State.toLocked_keeps (hw.mono rfl) (State.ftMod_keeps (hw.mono rfl) (State.servoNow_keeps (hw.mono rfl) (Keeps.ite (State.wr_keeps h_s (hw.mono rfl)) (State.ftCorrect_keeps (hw.mono rfl) (State.wr_keeps h_s (hw.mono rfl))))))) (Keeps.ite (State.toAcquire_keeps (hw.mono rfl) (State.ftMod_keeps (hw.mono rfl) (State.servoNow_keeps (hw.mono rfl) (Keeps.ite (State.wr_keeps h_s (hw.mono rfl)) (State.ftCorrect_keeps (hw.mono rfl) (State.wr_keeps h_s (hw.mono rfl))))))) (State.ftMod_keeps (hw.mono rfl) (State.servoNow_keeps (hw.mono rfl) (Keeps.ite (State.wr_keeps h_s (hw.mono rfl)) (State.ftCorrect_keeps (hw.mono rfl) (State.wr_keeps h_s (hw.mono rfl)))))))))

theorem State.ppsCompare_keeps {W : Nat} {z : State} {s : State} {b : Bool} {c : ℕ} (hw : Within 0x280 W) (h_s : Keeps W z s) : Keeps W z (State.ppsCompare s b c) := by
  unfold State.ppsCompare
  (try dsimp only)
  exact (by split <;> [(exact h_s); (exact (Keeps.ite h_s (Keeps.ite (State.level_keeps (hw.mono rfl) (State.ftMod_keeps (hw.mono rfl) h_s)) (Keeps.ite (State.level_keeps (hw.mono rfl) (State.ftMod_keeps (hw.mono rfl) h_s)) (State.ftMod_keeps (hw.mono rfl) h_s)))))])

theorem State.armApply_keeps {W : Nat} {z : State} {s : State} {d : ℤ} (hw : Within 0x10000010280 W) (h_s : Keeps W z s) : Keeps W z (State.armApply s d) := by
  unfold State.armApply
  (try dsimp only)
  exact (Keeps.ite (State.ftCorrect_keeps (hw.mono rfl) (State.ftMod_keeps (hw.mono rfl) h_s)) (State.ftStep_keeps (hw.mono rfl) (State.ftMod_keeps (hw.mono rfl) h_s)))

theorem State.ppsUse_keeps {W : Nat} {z : State} {s : State} {b : Bool} {c : ℕ} {named : Option ℕ} (hw : Within 0x10000010684 W) (h_s : Keeps W z s) : Keeps W z (State.ppsUse s b c named) := by
  unfold State.ppsUse
  (try dsimp only)
  exact (by split <;> [(exact (State.ftLeaveUnset_keeps (hw.mono rfl) (State.ftMod_keeps (hw.mono rfl) h_s))); (exact h_s); (exact (Keeps.ite (State.toAcquire_keeps (hw.mono rfl) (Keeps.ite (State.armApply_keeps (hw.mono rfl) h_s) (State.ftCorrect_keeps (hw.mono rfl) h_s))) h_s)); (exact h_s); (exact (by split <;> [(exact (Keeps.ite (State.toAcquire_keeps (hw.mono rfl) (State.armApply_keeps (hw.mono rfl) h_s)) (State.armApply_keeps (hw.mono rfl) h_s))); (exact (Keeps.ite (State.ppsMeasure_keeps (hw.mono rfl) h_s) h_s))]))])

theorem State.todCompare_keeps {W : Nat} {z : State} {s : State} {b : Bool} {n : ℕ} {here : ℕ} (hw : Within 0x10000010280 W) (h_s : Keeps W z s) : Keeps W z (State.todCompare s b n here) := by
  unfold State.todCompare
  (try dsimp only)
  exact (Keeps.ite (State.ppsMod_keeps (hw.mono rfl) h_s) (Keeps.ite (State.ftCorrect_keeps (hw.mono rfl) (State.ppsMod_keeps (hw.mono rfl) (State.ppsMod_keeps (hw.mono rfl) (State.inc_keeps (hw.mono rfl) h_s (hw.mono rfl))))) (State.ppsMod_keeps (hw.mono rfl) (State.inc_keeps (hw.mono rfl) h_s (hw.mono rfl)))))

theorem State.todAtEdge_keeps {W : Nat} {z : State} {s : State} {b : Bool} {named : Option ℕ} {here : ℕ} (hw : Within 0x10000010280 W) (h_s : Keeps W z s) : Keeps W z (State.todAtEdge s b named here) := by
  unfold State.todAtEdge
  (try dsimp only)
  exact (by split <;> [(exact (Keeps.ite (State.todCompare_keeps (hw.mono rfl) h_s) h_s)); (exact h_s)])

theorem State.ppsRecord_keeps {W : Nat} {z : State} {s : State} {b : Bool} {t : ℕ} (hw : Within 0x10000000000 W) (h_s : Keeps W z s) : Keeps W z (State.ppsRecord s b t) := by
  unfold State.ppsRecord
  (try dsimp only)
  exact (Keeps.ite (State.wr_keeps (State.wr_keeps h_s (hw.mono rfl)) (hw.mono rfl)) (State.wr_keeps (State.wr_keeps h_s (hw.mono rfl)) (hw.mono rfl)))

theorem State.untraceNow_keeps {W : Nat} {z : State} {s : State} (hw : Within 0x10000000000 W) (h_s : Keeps W z s) : Keeps W z (State.untraceNow s) := by
  unfold State.untraceNow
  (try dsimp only)
  exact (State.wrb_keeps (hw.mono rfl) h_s (hw.mono rfl))

theorem State.todPause_keeps {W : Nat} {z : State} {s : State} {b : Bool} {named : Option ℕ} (hw : Within 0x10000000080 W) (h_s : Keeps W z s) : Keeps W z (State.todPause s b named) := by
  unfold State.todPause
  (try dsimp only)
  exact (Keeps.ite h_s (State.untraceNow_keeps (hw.mono rfl) (State.ppsMod_keeps (hw.mono rfl) h_s)))

theorem State.ppsEdge_keeps {W : Nat} {z : State} {s : State} {b : Bool} {t : ℕ} {high : ℕ} (hw : Within 0x10000010684 W) (h_s : Keeps W z s) : Keeps W z (State.ppsEdge s b t high) := by
  unfold State.ppsEdge
  (try dsimp only)
  exact (Keeps.ite h_s (Keeps.ite (State.ppsMod_keeps (hw.mono rfl) (State.inc_keeps (hw.mono rfl) (State.ppsMod_keeps (hw.mono rfl) (State.ppsRecord_keeps (hw.mono rfl) h_s)) (by split; exacts [(hw.mono rfl), (hw.mono rfl)]))) (Keeps.ite (State.ppsUse_keeps (hw.mono rfl) (State.ppsCompare_keeps (hw.mono rfl) (State.selectSrc_keeps (hw.mono rfl) (Keeps.ite (State.ppsSetGood_keeps (hw.mono rfl) (State.todPause_keeps (hw.mono rfl) (State.todAtEdge_keeps (hw.mono rfl) (State.ppsMod_keeps (hw.mono rfl) (State.ppsMod_keeps (hw.mono rfl) (State.ppsRecord_keeps (hw.mono rfl) h_s)))))) (State.todPause_keeps (hw.mono rfl) (State.todAtEdge_keeps (hw.mono rfl) (State.ppsMod_keeps (hw.mono rfl) (State.ppsMod_keeps (hw.mono rfl) (State.ppsRecord_keeps (hw.mono rfl) h_s))))))))) (State.ppsCompare_keeps (hw.mono rfl) (State.selectSrc_keeps (hw.mono rfl) (Keeps.ite (State.ppsSetGood_keeps (hw.mono rfl) (State.todPause_keeps (hw.mono rfl) (State.todAtEdge_keeps (hw.mono rfl) (State.ppsMod_keeps (hw.mono rfl) (State.ppsMod_keeps (hw.mono rfl) (State.ppsRecord_keeps (hw.mono rfl) h_s)))))) (State.todPause_keeps (hw.mono rfl) (State.todAtEdge_keeps (hw.mono rfl) (State.ppsMod_keeps (hw.mono rfl) (State.ppsMod_keeps (hw.mono rfl) (State.ppsRecord_keeps (hw.mono rfl) h_s)))))))))))

theorem State.ppsLost_keeps {W : Nat} {z : State} {s : State} {b : Bool} (hw : Within 0x10000010284 W) (h_s : Keeps W z s) : Keeps W z (State.ppsLost s b) := by
  unfold State.ppsLost
  (try dsimp only)
  exact (Keeps.ite (Keeps.ite (State.noSource_keeps (hw.mono rfl) (State.when_keeps (State.ppsMod_keeps (hw.mono rfl) (State.todPause_keeps (hw.mono rfl) (State.todAtEdge_keeps (hw.mono rfl) h_s))) (fun _ h1 => (State.servoAnew_keeps (hw.mono rfl) h1)))) (State.when_keeps (State.ppsMod_keeps (hw.mono rfl) (State.todPause_keeps (hw.mono rfl) (State.todAtEdge_keeps (hw.mono rfl) h_s))) (fun _ h2 => (State.servoAnew_keeps (hw.mono rfl) h2)))) (by split <;> [(exact (Keeps.ite (State.ppsMeasure_keeps (hw.mono rfl) (State.noSource_keeps (hw.mono rfl) (State.ftMod_keeps (hw.mono rfl) (State.selectSrc_keeps (hw.mono rfl) (State.ppsSetGood_keeps (hw.mono rfl) (State.when_keeps (State.ppsMod_keeps (hw.mono rfl) (State.todPause_keeps (hw.mono rfl) (State.todAtEdge_keeps (hw.mono rfl) h_s))) (fun _ h3 => (State.servoAnew_keeps (hw.mono rfl) h3)))))))) (State.noSource_keeps (hw.mono rfl) (State.ftMod_keeps (hw.mono rfl) (State.selectSrc_keeps (hw.mono rfl) (State.ppsSetGood_keeps (hw.mono rfl) (State.when_keeps (State.ppsMod_keeps (hw.mono rfl) (State.todPause_keeps (hw.mono rfl) (State.todAtEdge_keeps (hw.mono rfl) h_s))) (fun _ h4 => (State.servoAnew_keeps (hw.mono rfl) h4))))))))); (exact (State.noSource_keeps (hw.mono rfl) (State.ftMod_keeps (hw.mono rfl) (State.selectSrc_keeps (hw.mono rfl) (State.ppsSetGood_keeps (hw.mono rfl) (State.when_keeps (State.ppsMod_keeps (hw.mono rfl) (State.todPause_keeps (hw.mono rfl) (State.todAtEdge_keeps (hw.mono rfl) h_s))) (fun _ h5 => (State.servoAnew_keeps (hw.mono rfl) h5))))))))]))

theorem State.todBad_keeps {W : Nat} {z : State} {s : State} (hw : Within 0x10000000000 W) (h_s : Keeps W z s) : Keeps W z (State.todBad s) := by
  unfold State.todBad
  (try dsimp only)
  exact (State.inc_keeps (hw.mono rfl) h_s (hw.mono rfl))

theorem State.tod_keeps {W : Nat} {z : State} {s : State} {b : Bool} {bytes : List Byte} {framed : Bool} {t : ℕ} (hw : Within 0x10000000080 W) (h_s : Keeps W z s) : Keeps W z (State.tod s b bytes framed t) := by
  unfold State.tod
  (try dsimp only)
  exact (Keeps.ite h_s (Keeps.ite (State.todBad_keeps (hw.mono rfl) h_s) (State.untraceNow_keeps (hw.mono rfl) (State.ppsMod_keeps (hw.mono rfl) h_s))))

theorem State.ftSetarm_keeps {W : Nat} {z : State} {s : State} (hw : Within 0x10000010680 W) (h_s : Keeps W z s) : Keeps W z (State.ftSetarm s) := by
  unfold State.ftSetarm
  (try dsimp only)
  exact (Keeps.ite (State.ftMod_keeps (hw.mono rfl) h_s) (Keeps.ite (State.ftLeaveUnset_keeps (hw.mono rfl) h_s) (State.armApply_keeps (hw.mono rfl) h_s)))

theorem State.ftForce_keeps {W : Nat} {z : State} {s : State} (hw : Within 0x10000010280 W) (h_s : Keeps W z s) : Keeps W z (State.ftForce s) := by
  unfold State.ftForce
  (try dsimp only)
  exact (Keeps.ite (State.ftStep_keeps (hw.mono rfl) h_s) h_s)

theorem State.ftCtrl_keeps {W : Nat} {z : State} {s : State} {val : ℕ} (hw : Within 0x10000010680 W) (h_s : Keeps W z s) : Keeps W z (State.ftCtrl s val) := by
  unfold State.ftCtrl
  (try dsimp only)
  exact (Keeps.ite (State.cfgErr_keeps (hw.mono rfl) h_s) (State.when_keeps (State.when_keeps (State.when_keeps (State.when_keeps (State.selectSrc_keeps (hw.mono rfl) (State.setRW_keeps (hw.mono rfl) h_s (hw.mono rfl))) (fun _ h1 => (State.noSource_keeps (hw.mono rfl) h1))) (fun _ h2 => (State.untraceNow_keeps (hw.mono rfl) (State.ppsMod_keeps (hw.mono rfl) (State.ppsMod_keeps (hw.mono rfl) h2))))) (fun _ h3 => (State.ftSetarm_keeps (hw.mono rfl) h3))) (fun _ h4 => (State.ftForce_keeps (hw.mono rfl) h4))))

theorem State.ftTicks_keeps {W : Nat} {z : State} {s : State} {k : ℕ} (hw : Within 0x80 W) (h_s : Keeps W z s) : Keeps W z (State.ftTicks s k) := by
  unfold State.ftTicks
  (try dsimp only)
  exact (State.ftMod_keeps (hw.mono rfl) h_s)

theorem State.slewDone_keeps {W : Nat} {z : State} {s : State} (hw : Within 0x10000000280 W) (h_s : Keeps W z s) : Keeps W z (State.slewDone s) := by
  unfold State.slewDone
  (try dsimp only)
  exact (State.heldDrop_keeps (hw.mono rfl) (State.slewBy_keeps (hw.mono rfl) h_s))

theorem State.ftRun_keeps {W : Nat} {z : State} {s : State} {k : ℕ} (hw : Within 0x10000000280 W) (h_s : Keeps W z s) : Keeps W z (State.ftRun s k) := by
  unfold State.ftRun
  (try dsimp only)
  exact (Keeps.ite (State.ftTicks_keeps (hw.mono rfl) h_s) (State.ftTicks_keeps (hw.mono rfl) (State.slewDone_keeps (hw.mono rfl) (State.ftTicks_keeps (hw.mono rfl) h_s))))

theorem State.holdCount_keeps {W : Nat} {z : State} {s : State} (hw : Within 0x10000000000 W) (h_s : Keeps W z s) : Keeps W z (State.holdCount s) := by
  unfold State.holdCount
  (try dsimp only)
  exact (Keeps.ite (State.wr_keeps (State.wr_keeps h_s (hw.mono rfl)) (hw.mono rfl)) h_s)

theorem State.waveOver_keeps {W : Nat} {z : State} {s : State} (hw : Within 0x4000000000 W) (h_s : Keeps W z s) : Keeps W z (State.waveOver s) := by
  unfold State.waveOver
  (try dsimp only)
  exact (Keeps.ite (State.wr_keeps h_s (hw.mono rfl)) h_s)

theorem State.timeRuns_keeps {W : Nat} {z : State} {s : State} {k : ℕ} (hw : Within 0x140000006c0 W) (h_s : Keeps W z s) : Keeps W z (State.timeRuns s k) := by
  unfold State.timeRuns
  (try dsimp only)
  exact (State.flmMod_keeps (hw.mono rfl) (State.coreCycles_keeps (hw.mono rfl) (State.holdCount_keeps (hw.mono rfl) (State.when_keeps (State.waveOver_keeps (hw.mono rfl) (State.pwrMod_keeps (hw.mono rfl) h_s)) (fun _ h1 => (State.ftRun_keeps (hw.mono rfl) h1))))))

/-! ### Flm -/

theorem State.setBank_keeps {W : Nat} {z : State} {s : State} {b : ℕ} {v : Option Snap} (hw : Within 0x400 W) (h_s : Keeps W z s) : Keeps W z (State.setBank s b v) := by
  unfold State.setBank
  (try dsimp only)
  exact (State.flmMod_keeps (hw.mono rfl) h_s)

theorem State.setDump_keeps {W : Nat} {z : State} {s : State} {r : ℕ} {v : Option Dump} (hw : Within 0x400 W) (h_s : Keeps W z s) : Keeps W z (State.setDump s r v) := by
  unfold State.setDump
  (try dsimp only)
  exact (State.flmMod_keeps (hw.mono rfl) h_s)

theorem State.banksSettle_keeps {W : Nat} {z : State} {s : State} (hw : Within 0x40000000000400 W) (h_s : Keeps W z s) : Keeps W z (State.banksSettle s) := by
  unfold State.banksSettle
  (try dsimp only)
  exact (State.wr_keeps (State.each_keeps h_s (fun _ h1 _ => (Keeps.ite h1 (State.setBank_keeps (hw.mono rfl) h1)))) (hw.mono rfl))

theorem State.lastRes_keeps {W : Nat} {z : State} {s : State} {r : ℕ} {v : ℕ} (hw : Within 0x40000000000000 W) (h_s : Keeps W z s) : Keeps W z (State.lastRes s r v) := by
  unfold State.lastRes
  (try dsimp only)
  exact (State.wr_keeps h_s (by split; exacts [(hw.mono rfl), (hw.mono rfl)]))

theorem State.dumpWrite_keeps {W : Nat} {z : State} {s : State} {r : ℕ} {b : ℕ} {a : ℕ} {data : ℕ} (hw : Within 0x1088f0aa1300a602 W) (h_s : Keeps W z s) : Keeps W z (State.dumpWrite s r b a data).2 := by
  unfold State.dumpWrite
  (try dsimp only)
  exact (Keeps.ite2 (Keeps.ite2 (State.tenderSend_keeps (hw.mono rfl) h_s) h_s) (Keeps.ite2 (State.innerCheck_keeps (hw.mono rfl) h_s) (by split <;> [(exact (by split <;> [(exact (Keeps.ite2 (State.innerCheck_keeps (hw.mono rfl) h_s) (State.inject_keeps (hw.mono rfl) (State.innerCheck_keeps (hw.mono rfl) h_s)))); (exact (State.innerCheck_keeps (hw.mono rfl) h_s))])); (exact (State.xltDeny_keeps (hw.mono rfl) (State.innerCheck_keeps (hw.mono rfl) h_s))); (exact (State.innerCheck_keeps (hw.mono rfl) h_s))])))

theorem State.dumpLines_keeps {W : Nat} {z : State} {s : State} {r : ℕ} {d : Dump} {n : Snap} {is : List ℕ} (hw : Within 0x1088f0aa1300a602 W) (h_s : Keeps W z s) : Keeps W z (State.dumpLines s r d n is).2 := by
  unfold State.dumpLines
  (try dsimp only)
  exact (Keeps.ite2 (State.tenderSend_keeps (hw.mono rfl) (foldl_keeps (fun p : Bool × State => Keeps W z p.2) (fun _ _ h1 => (Keeps.ite2 (State.dumpWrite_keeps (hw.mono rfl) h1) h1)) h_s)) (foldl_keeps (fun p : Bool × State => Keeps W z p.2) (fun _ _ h2 => (Keeps.ite2 (State.dumpWrite_keeps (hw.mono rfl) h2) h2)) h_s))

theorem State.dumpEnd_keeps {W : Nat} {z : State} {s : State} {r : ℕ} {v : ℕ} (hw : Within 0x40000000000400 W) (h_s : Keeps W z s) : Keeps W z (State.dumpEnd s r v) := by
  unfold State.dumpEnd
  (try dsimp only)
  exact (State.banksSettle_keeps (hw.mono rfl) (State.lastRes_keeps (hw.mono rfl) (State.setDump_keeps (hw.mono rfl) h_s)))

theorem State.dumpFail_keeps {W : Nat} {z : State} {s : State} {r : ℕ} (hw : Within 0x40000000000600 W) (h_s : Keeps W z s) : Keeps W z (State.dumpFail s r) := by
  unfold State.dumpFail
  (try dsimp only)
  exact (State.pulse_keeps (hw.mono rfl) (State.inc_keeps (hw.mono rfl) (State.dumpEnd_keeps (hw.mono rfl) h_s) (hw.mono rfl)))

theorem State.dumpStart_keeps {W : Nat} {z : State} {s : State} {r : ℕ} {b : ℕ} {late : Bool} (hw : Within 0x10c8f0aa1300a602 W) (h_s : Keeps W z s) : Keeps W z (State.dumpStart s r b late) := by
  unfold State.dumpStart
  (try dsimp only)
  exact (by split <;> [(exact h_s); (exact (Keeps.ite (State.dumpLines_keeps (hw.mono rfl) (State.setDump_keeps (hw.mono rfl) (State.wr2_keeps (hw.mono rfl) h_s (hw.mono rfl) (hw.mono rfl)))) (State.dumpFail_keeps (hw.mono rfl) (State.dumpLines_keeps (hw.mono rfl) (State.setDump_keeps (hw.mono rfl) (State.wr2_keeps (hw.mono rfl) h_s (hw.mono rfl) (hw.mono rfl)))))))])

theorem State.dumpPump_keeps {W : Nat} {z : State} {a : ℕ} {a1 : State} (hw : Within 0x10c8f0aa1300a602 W) (h_a1 : Keeps W z a1) : Keeps W z (State.dumpPump a a1) := by
  induction a generalizing a1 with
  | zero =>
    unfold State.dumpPump
    (try dsimp only)
    exact h_a1
  | succ a ih =>
    unfold State.dumpPump
    (try dsimp only)
    exact (by split <;> [(exact h_a1); (exact (ih (State.dumpStart_keeps (hw.mono rfl) (State.flmMod_keeps (hw.mono rfl) h_a1))))])

theorem State.dumpsGo_keeps {W : Nat} {z : State} {s : State} (hw : Within 0x10c8f0aa1300a602 W) (h_s : Keeps W z s) : Keeps W z (State.dumpsGo s) := by
  unfold State.dumpsGo
  (try dsimp only)
  exact (State.banksSettle_keeps (hw.mono rfl) (State.dumpPump_keeps (hw.mono rfl) h_s))

theorem State.bankAbandon_keeps {W : Nat} {z : State} {s : State} {b : ℕ} (hw : Within 0x40000000000400 W) (h_s : Keeps W z s) : Keeps W z (State.bankAbandon s b) := by
  unfold State.bankAbandon
  (try dsimp only)
  exact (State.each_keeps (State.flmMod_keeps (hw.mono rfl) h_s) (fun _ h1 _ => (Keeps.ite (State.lastRes_keeps (hw.mono rfl) (State.setDump_keeps (hw.mono rfl) h1)) h1)))

theorem State.snapInto_keeps {W : Nat} {z : State} {s : State} {b : ℕ} {flags : ℕ} (hw : Within 0x10c8f0aa1300ae02 W) (h_s : Keeps W z s) : Keeps W z (State.snapInto s b flags) := by
  unfold State.snapInto
  (try dsimp only)
  exact (State.dumpsGo_keeps (hw.mono rfl) (State.when_keeps (State.flmMod_keeps (hw.mono rfl) (State.wr2_keeps (hw.mono rfl) (State.setBank_keeps (hw.mono rfl) h_s) (hw.mono rfl) (hw.mono rfl))) (fun _ h1 => (State.statSnap_keeps (hw.mono rfl) h1))))

theorem State.snapshot_keeps {W : Nat} {z : State} {s : State} {flags : ℕ} (hw : Within 0x10c8f0aa1300ae02 W) (h_s : Keeps W z s) : Keeps W z (State.snapshot s flags) := by
  unfold State.snapshot
  (try dsimp only)
  exact (by split <;> [(exact (State.snapInto_keeps (hw.mono rfl) h_s)); (exact (by split <;> [(exact (State.snapInto_keeps (hw.mono rfl) (State.pulse_keeps (hw.mono rfl) (State.bankAbandon_keeps (hw.mono rfl) h_s)))); (exact (State.pulse_keeps (hw.mono rfl) (State.inc_keeps (hw.mono rfl) h_s (hw.mono rfl))))]))])

theorem State.flmSeen_keeps {W : Nat} {z : State} {s : State} {t : ℕ} (hw : Within 0x400 W) (h_s : Keeps W z s) : Keeps W z (State.flmSeen s t) := by
  unfold State.flmSeen
  (try dsimp only)
  exact (State.flmMod_keeps (hw.mono rfl) h_s)

theorem State.boundary_keeps {W : Nat} {z : State} {s : State} {t : ℕ} (hw : Within 0x10c8f0aa1300ae02 W) (h_s : Keeps W z s) : Keeps W z (State.boundary s t) := by
  unfold State.boundary
  (try dsimp only)
  exact (Keeps.ite (State.flmSeen_keeps (hw.mono rfl) (State.snapshot_keeps (hw.mono rfl) h_s)) h_s)

theorem State.flmLost_keeps {W : Nat} {z : State} {s : State} {c : ℕ} (hw : Within 0x40000000000400 W) (h_s : Keeps W z s) : Keeps W z (State.flmLost s c) := by
  unfold State.flmLost
  (try dsimp only)
  exact (Keeps.ite (State.wr_keeps (State.flmMod_keeps (hw.mono rfl) h_s) (hw.mono rfl)) (State.wr_keeps (State.flmMod_keeps (hw.mono rfl) h_s) (hw.mono rfl)))

theorem State.flmErrs_keeps {W : Nat} {z : State} {s : State} {errs : List (ℕ × Bool)} (hw : Within 0x40000000000400 W) (h_s : Keeps W z s) : Keeps W z (State.flmErrs s errs) := by
  unfold State.flmErrs
  (try dsimp only)
  exact (State.each_keeps h_s (fun _ h1 _ => (Keeps.ite (State.flmLost_keeps (hw.mono rfl) h1) (State.inc_keeps (hw.mono rfl) h1 (hw.mono rfl)))))

theorem execFlmSnap_keeps {W : Nat} {z : State} {val : ℕ} {s : State} (hw : Within 0x10c8f0aa1300ae02 W) (h_s : Keeps W z s) : KeepsOut W z (execFlmSnap val s) := by
  unfold execFlmSnap
  (try dsimp only)
  exact (KeepsOut.onUnit (Keeps.ite (State.snapshot_keeps (hw.mono rfl) h_s) h_s))

theorem execDumpBodyProven_keeps {W : Nat} {z : State} {r : ℕ} {s : State} (hw : Within 0x10c8f0aa1300a602 W) (h_s : Keeps W z s) : KeepsOut W z (execDumpBodyProven r s) := by
  unfold execDumpBodyProven
  (try dsimp only)
  exact (KeepsOut.onUnit (by split <;> [(exact h_s); (exact (by split <;> [(exact h_s); (exact (Keeps.ite h_s (Keeps.ite (State.dumpsGo_keeps (hw.mono rfl) (State.dumpFail_keeps (hw.mono rfl) h_s)) (Keeps.ite (State.dumpLines_keeps (hw.mono rfl) (State.setDump_keeps (hw.mono rfl) h_s)) (State.dumpsGo_keeps (hw.mono rfl) (State.dumpFail_keeps (hw.mono rfl) (State.dumpLines_keeps (hw.mono rfl) (State.setDump_keeps (hw.mono rfl) h_s))))))))]))]))

theorem execDumpComplete_keeps {W : Nat} {z : State} {r : ℕ} {s : State} (hw : Within 0x10c8f0aa1300a602 W) (h_s : Keeps W z s) : KeepsOut W z (execDumpComplete r s) := by
  unfold execDumpComplete
  (try dsimp only)
  exact (KeepsOut.onUnit (by split <;> [(exact h_s); (exact (Keeps.ite (State.dumpsGo_keeps (hw.mono rfl) (State.dumpFail_keeps (hw.mono rfl) h_s)) (Keeps.ite (State.dumpsGo_keeps (hw.mono rfl) (State.dumpEnd_keeps (hw.mono rfl) (State.flmMod_keeps (hw.mono rfl) (State.wr_keeps h_s (hw.mono rfl))))) h_s)))]))

theorem execDumpFail_keeps {W : Nat} {z : State} {r : ℕ} {s : State} (hw : Within 0x10c8f0aa1300a602 W) (h_s : Keeps W z s) : KeepsOut W z (execDumpFail r s) := by
  unfold execDumpFail
  (try dsimp only)
  exact (KeepsOut.onUnit (Keeps.ite (State.dumpsGo_keeps (hw.mono rfl) (State.dumpFail_keeps (hw.mono rfl) h_s)) h_s))

theorem State.flmLate_keeps {W : Nat} {z : State} {s : State} (hw : Within 0x40000000000200 W) (h_s : Keeps W z s) : Keeps W z (State.flmLate s) := by
  unfold State.flmLate
  (try dsimp only)
  exact (State.pulse_keeps (hw.mono rfl) (State.inc_keeps (hw.mono rfl) h_s (hw.mono rfl)))

theorem execDumpLate_keeps {W : Nat} {z : State} {r : ℕ} {s : State} (hw : Within 0x40000000000600 W) (h_s : Keeps W z s) : KeepsOut W z (execDumpLate r s) := by
  unfold execDumpLate
  (try dsimp only)
  exact (KeepsOut.onUnit (by split <;> [(exact (Keeps.ite (State.flmLate_keeps (hw.mono rfl) (State.setDump_keeps (hw.mono rfl) h_s)) (by split <;> [(exact (State.flmLate_keeps (hw.mono rfl) (State.flmMod_keeps (hw.mono rfl) h_s))); (exact h_s)]))); (exact (State.flmLate_keeps (hw.mono rfl) (State.flmMod_keeps (hw.mono rfl) h_s))); (exact h_s)]))

theorem execFlmZero_keeps {W : Nat} {z : State} {val : ℕ} {s : State} (hw : Within 0x600 W) (h_s : Keeps W z s) : KeepsOut W z (execFlmZero val s) := by
  unfold execFlmZero
  (try dsimp only)
  exact (KeepsOut.onUnit (Keeps.ite h_s (Keeps.ite (State.cfgErr_keeps (hw.mono rfl) h_s) (State.flmMod_keeps (hw.mono rfl) h_s))))

theorem execFlmEvtWrite_keeps {W : Nat} {z : State} {c : ℕ} {word : ℕ} {val : ℕ} {s : State} (hw : Within 0x40000000000200 W) (h_s : Keeps W z s) : KeepsOut W z (execFlmEvtWrite c word val s) := by
  unfold execFlmEvtWrite
  (try dsimp only)
  exact (KeepsOut.onUnit (Keeps.ite (State.cfgErr_keeps (hw.mono rfl) h_s) (State.takeWord_keeps (hw.mono rfl) h_s (wordFields_within (by decide) (hw.mono rfl)))))

theorem execFlmFiltWrite_keeps {W : Nat} {z : State} {f : ℕ} {word : ℕ} {val : ℕ} {s : State} (hw : Within 0x40000000000620 W) (h_s : Keeps W z s) : KeepsOut W z (execFlmFiltWrite f word val s) := by
  unfold execFlmFiltWrite
  (try dsimp only)
  exact (KeepsOut.onUnit (Keeps.ite (State.stageLow_keeps (hw.mono rfl) h_s) (Keeps.ite h_s (Keeps.ite (State.cfgErr_keeps (hw.mono rfl) (Keeps.set_stage (hw.mono rfl) h_s)) (State.flmMod_keeps (hw.mono rfl) (State.takeWord_keeps (hw.mono rfl) (Keeps.ite (State.takeStaged_keeps (hw.mono rfl) h_s (wordFields_within (by decide) (hw.mono rfl))) h_s) (wordFields_within (by decide) (hw.mono rfl))))))))

theorem execFlmRingWrite_keeps {W : Nat} {z : State} {r : ℕ} {word : ℕ} {val : ℕ} {s : State} (hw : Within 0x10c8f0aa1300a622 W) (h_s : Keeps W z s) : KeepsOut W z (execFlmRingWrite r word val s) := by
  unfold execFlmRingWrite
  (try dsimp only)
  exact (KeepsOut.onUnit (Keeps.ite h_s (Keeps.ite (State.cfgErr_keeps (hw.mono rfl) h_s) (Keeps.ite (State.stageLow_keeps (hw.mono rfl) h_s) (Keeps.ite (State.dumpsGo_keeps (hw.mono rfl) (Keeps.ite (State.dumpEnd_keeps (hw.mono rfl) (State.flmMod_keeps (hw.mono rfl) (State.takeWord_keeps (hw.mono rfl) (Keeps.ite (State.takeStaged_keeps (hw.mono rfl) h_s (hw.mono rfl)) h_s) (wordFields_within (by decide) (hw.mono rfl))))) (State.flmMod_keeps (hw.mono rfl) (State.takeWord_keeps (hw.mono rfl) (Keeps.ite (State.takeStaged_keeps (hw.mono rfl) h_s (hw.mono rfl)) h_s) (wordFields_within (by decide) (hw.mono rfl)))))) (State.takeWord_keeps (hw.mono rfl) (Keeps.ite (State.takeStaged_keeps (hw.mono rfl) h_s (hw.mono rfl)) h_s) (wordFields_within (by decide) (hw.mono rfl))))))))

theorem execDeviceCplTimeout_keeps {W : Nat} {z : State} {p : ℕ} {tag : ℕ} {s : State} (hw : Within 0x10ccfaaa1328a602 W) (h_s : Keeps W z s) : KeepsOut W z (execDeviceCplTimeout p tag s) := by
  unfold execDeviceCplTimeout
  (try dsimp only)
  exact (KeepsOut.onUnit (by split <;> [(exact h_s); (exact (Keeps.ite (State.runDeferred_keeps (hw.mono rfl) (Keeps.ite (State.poolWritten_keeps (hw.mono rfl) (State.pulse_keeps (hw.mono rfl) (State.swcMod_keeps (hw.mono rfl) h_s))) (State.poolData_keeps (hw.mono rfl) (State.pulse_keeps (hw.mono rfl) (State.swcMod_keeps (hw.mono rfl) h_s))))) (Keeps.ite (State.dumpsGo_keeps (hw.mono rfl) (State.each_keeps (State.pulse_keeps (hw.mono rfl) (State.swcMod_keeps (hw.mono rfl) h_s)) (fun _ h1 _ => (Keeps.ite (State.dumpFail_keeps (hw.mono rfl) h1) h1)))) (by split <;> [(exact (State.backEnd_keeps (hw.mono rfl) (State.pulse_keeps (hw.mono rfl) (State.swcMod_keeps (hw.mono rfl) h_s)))); (exact (State.pulse_keeps (hw.mono rfl) (State.swcMod_keeps (hw.mono rfl) h_s)))]))))]))

/-! ### View -/

theorem State.rcClear_keeps {W : Nat} {z : State} {s : State} {a : ℕ} {ev : ℕ} (hw : Within 0x1ffffffc00000000 W) (h_s : Keeps W z s) : Keeps W z (State.rcClear s a ev) := by
  unfold State.rcClear
  (try dsimp only)
  exact (by split <;> [(exact h_s); (exact (Keeps.ite h_s (State.each_fields_keeps (fbits_filter _ (fbits_all _ (hw.mono rfl))) h_s (fun _ h1 _ h2 => (State.wr_keeps h1 h2)))))])

theorem State.refusedAt_keeps {W : Nat} {z : State} {s : State} {a : ℕ} (hw : Within 0x8000000000000 W) (h_s : Keeps W z s) : Keeps W z (State.refusedAt s a) := by
  unfold State.refusedAt
  (try dsimp only)
  exact (by split <;> [(exact (by split <;> [(exact (Keeps.ite h_s (State.domRefuse_keeps (hw.mono rfl) h_s))); (exact h_s)])); (exact h_s)])

theorem State.readAddr_keeps {W : Nat} {z : State} {s : State} {a : ℕ} {ev : ℕ} (hw : Within 0x1ffffffc00000010 W) (h_s : Keeps W z s) : Keeps W z (State.readAddr s a ev).2 := by
  unfold State.readAddr
  (try dsimp only)
  exact (by split <;> [(exact (Keeps.set_latch (hw.mono rfl) h_s)); (exact (State.refusedAt_keeps (hw.mono rfl) (State.rcClear_keeps (hw.mono rfl) (State.each_keeps h_s (fun _ h1 _ => (Keeps.set_latch (hw.mono rfl) h1))))))])

theorem State.readWide_keeps {W : Nat} {z : State} {s : State} {a : ℕ} {ev : ℕ} (hw : Within 0x1ffffffc00000010 W) (h_s : Keeps W z s) : Keeps W z (State.readWide s a ev).2 := by
  unfold State.readWide
  (try dsimp only)
  exact (Keeps.ite2 (State.refusedAt_keeps (hw.mono rfl) (State.rcClear_keeps (hw.mono rfl) (State.refusedAt_keeps (hw.mono rfl) (State.rcClear_keeps (hw.mono rfl) h_s)))) (State.readAddr_keeps (hw.mono rfl) (State.readAddr_keeps (hw.mono rfl) h_s)))

theorem State.hostGate_keeps {W : Nat} {z : State} {s : State} {node : ℕ} {port : ℕ} {a : ℕ} {write : Bool} {n : optParam ℕ 4} (hw : Within 0x800201000600 W) (h_s : Keeps W z s) : Keeps W z (State.hostGate s node port a write n).2 := by
  unfold State.hostGate
  (try dsimp only)
  exact (Keeps.ite2 (State.innerCheck_keeps (hw.mono rfl) h_s) h_s)

theorem State.hostRead_keeps {W : Nat} {z : State} {s : State} {node : ℕ} {port : ℕ} {a : ℕ} {ev : ℕ} {wide : optParam Bool false} (hw : Within 0x1ffffffe01008612 W) (h_s : Keeps W z s) : Keeps W z (State.hostRead s node port a ev wide) := by
  unfold State.hostRead
  (try dsimp only)
  exact (Keeps.ite (State.reply_keeps (hw.mono rfl) h_s) (State.send_keeps (hw.mono rfl) (Keeps.ite2 (Keeps.ite2 (State.readWide_keeps (hw.mono rfl) (State.hostGate_keeps (hw.mono rfl) h_s)) (State.readAddr_keeps (hw.mono rfl) (State.hostGate_keeps (hw.mono rfl) h_s))) (State.hostGate_keeps (hw.mono rfl) h_s))))

theorem execRegisterReadClear_keeps {W : Nat} {z : State} {node : ℕ} {port : ℕ} {addr : RegAddr} {ev : ℕ} {s : State} (hw : Within 0x1ffffffe01008612 W) (h_s : Keeps W z s) : KeepsOut W z (execRegisterReadClear node port addr ev s) := by
  unfold execRegisterReadClear
  (try dsimp only)
  exact (KeepsOut.onUnit (State.hostRead_keeps (hw.mono rfl) h_s))

theorem execRegisterHalfLatchRead_keeps {W : Nat} {z : State} {node : ℕ} {port : ℕ} {addr : RegAddr} {s : State} (hw : Within 0x1ffffffe01008612 W) (h_s : Keeps W z s) : KeepsOut W z (execRegisterHalfLatchRead node port addr s) := by
  unfold execRegisterHalfLatchRead
  (try dsimp only)
  exact (KeepsOut.onUnit (State.hostRead_keeps (hw.mono rfl) h_s))

/-! ### RegCmd -/

theorem State.took_keeps {W : Nat} {z s : State} {o : Host.Outcome State Fault Refusal} (h_s : Keeps W z s) (h_o : KeepsOut W z o) :
    Keeps W z (s.took o) := by
  cases o with
  | next t => exact h_o t rfl
  | fault _ => exact h_s
  | refused _ => exact h_s

theorem State.evSet_keeps {W : Nat} {z : State} {s : State} {f : Fld} {i : ℕ} {ev : ℕ} (hw : Within 0x0 W) (h_s : Keeps W z s) (h_f : Within (fbit f) W) : Keeps W z (State.evSet s f i ev) := by
  unfold State.evSet
  (try dsimp only)
  exact (State.wr_keeps h_s h_f)

theorem State.rstWrite_keeps {W : Nat} {z : State} {s : State} {v : ℕ} (hw : Within 0x1fdffeee13fffe42 W) (h_s : Keeps W z s) : Keeps W z (State.rstWrite s v) := by
  unfold State.rstWrite
  (try dsimp only)
  exact (State.took_keeps (State.took_keeps h_s (execWarmResetReq_keeps (hw.mono rfl) h_s)) (execTileResetReq_keeps (hw.mono rfl) (State.took_keeps h_s (execWarmResetReq_keeps (hw.mono rfl) h_s))))

theorem State.sluWrite_keeps {W : Nat} {z : State} {s : State} {j : ℕ} {v : ℕ} {low : Bool} (hw : Within 0x10e976e812cbb602 W) (h_s : Keeps W z s) : Keeps W z (State.sluWrite s j v low) := by
  unfold State.sluWrite
  (try dsimp only)
  exact (by split <;> [(exact (State.took_keeps h_s (execSluOn_keeps (hw.mono rfl) h_s))); (exact (State.took_keeps h_s (execSluOff_keeps (hw.mono rfl) h_s))); (exact (State.took_keeps h_s (execSluClrflt_keeps (hw.mono rfl) h_s))); (exact (State.took_keeps h_s (execSluClriso_keeps (hw.mono rfl) h_s))); (exact h_s)])

theorem State.tiWrite_keeps {W : Nat} {z : State} {s : State} {v : ℕ} (hw : Within 0x1c8e70a81231ae02 W) (h_s : Keeps W z s) : Keeps W z (State.tiWrite s v) := by
  unfold State.tiWrite
  (try dsimp only)
  exact (by split <;> [(exact (State.took_keeps h_s (execQuiesce_keeps (hw.mono rfl) h_s))); (exact (State.took_keeps h_s (execResume_keeps (hw.mono rfl) h_s))); (exact (State.took_keeps h_s (execReset_keeps (hw.mono rfl) h_s))); (exact h_s)])

theorem State.ctlRow_keeps {W : Nat} {z : State} {s : State} {h : ℕ} {v : ℕ} (hw : Within 0x188e70a81231ae02 W) (h_s : Keeps W z s) : Keeps W z (State.ctlRow s h v) := by
  unfold State.ctlRow
  (try dsimp only)
  exact (State.took_keeps h_s (KeepsOut.ite (execRingEnable_keeps (hw.mono rfl) h_s) (KeepsOut.ite (execRingResume_keeps (hw.mono rfl) h_s) (execRingDisable_keeps (hw.mono rfl) h_s))))

/-- An entry of `rowTable` keeps what every operation keeps. -/
def RowKeeps (W : Nat) (z : State) (e : Nat × RowFn) : Prop := ∀ s i v ev, Keeps W z s → Keeps W z (e.2 s i v ev)

/-- An entry of `ruleTable` keeps what every operation keeps. -/
def RuleKeeps (W : Nat) (z : State) (e : Nat × RuleFn) : Prop :=
  ∀ s t i v, Keeps W z s → Keeps W z t → Keeps W z (e.2 s t i v)

theorem rowsA_keeps {W : Nat} {z : State} (hw : Within 0x1fffffee13fffec2 W) : ∀ e ∈ rowsA, RowKeeps W z e :=
  List.forall_mem_cons.2 ⟨fun _ _ _ _ h => (State.took_keeps h (execProfileApply_keeps (hw.mono rfl) h)),
  List.forall_mem_cons.2 ⟨fun _ _ _ _ h => (State.rstWrite_keeps (hw.mono rfl) h),
  List.forall_mem_cons.2 ⟨fun _ _ _ _ h => (State.evSet_keeps (hw.mono rfl) (State.took_keeps h (execPwrDomctlWrite_keeps (hw.mono rfl) h)) (hw.mono rfl)),
  List.forall_mem_cons.2 ⟨fun _ _ _ _ h => (Keeps.ite h (State.ftCtrl_keeps (hw.mono rfl) h)),
  List.forall_mem_cons.2 ⟨fun _ _ _ _ h => (State.took_keeps h (execSerLctlWrite_keeps (hw.mono rfl) h)),
  List.forall_mem_cons.2 ⟨fun _ _ _ _ h => (State.took_keeps h (execSerSlip_keeps (hw.mono rfl) h)),
  List.forall_mem_cons.2 ⟨fun _ _ _ _ h => (State.evSet_keeps (hw.mono rfl) (State.took_keeps h (execSerPrbsctlWrite_keeps (hw.mono rfl) h)) (hw.mono rfl)),
  List.forall_mem_cons.2 ⟨fun _ _ _ _ h => (State.took_keeps h (execEyeScanStart_keeps (hw.mono rfl) h)),
  List.forall_mem_cons.2 ⟨fun _ _ _ _ h => (State.took_keeps h (execPortConfigWrite_keeps (hw.mono rfl) h)),
  List.forall_mem_cons.2 ⟨fun _ _ _ _ h => (State.took_keeps h (execPrtTiblkWrite_keeps (hw.mono rfl) h)),
  List.forall_mem_cons.2 ⟨fun _ _ _ _ h => (State.took_keeps h (execPrtSlotcfgWrite_keeps (hw.mono rfl) h)),
  List.forall_mem_cons.2 ⟨fun _ _ _ _ h => (State.took_keeps h (execPrtSlotctlWrite_keeps (hw.mono rfl) h)),
  List.forall_mem_cons.2 ⟨fun _ _ _ _ h => (State.took_keeps h (execLeatCtlWrite_keeps (hw.mono rfl) h)),
  (fun _ h => nomatch h)⟩⟩⟩⟩⟩⟩⟩⟩⟩⟩⟩⟩⟩

theorem rowsB_keeps {W : Nat} {z : State} (hw : Within 0xa400008220 W) : ∀ e ∈ rowsB, RowKeeps W z e :=
  List.forall_mem_map.2 fun _ _ => fun _ _ _ _ h => (State.took_keeps h (execMirrorSessionWrite_keeps (hw.mono rfl) h))

theorem rowsC_keeps {W : Nat} {z : State} (hw : Within 0x198efaec133fae02 W) : ∀ e ∈ rowsC, RowKeeps W z e :=
  List.forall_mem_cons.2 ⟨fun _ _ _ _ h => (State.took_keeps h (execGroupCommit_keeps (hw.mono rfl) h)),
  List.forall_mem_cons.2 ⟨fun _ _ _ _ h => (State.took_keeps h (execTableLoad_keeps (hw.mono rfl) h)),
  List.forall_mem_cons.2 ⟨fun _ _ _ _ h => (State.took_keeps h (KeepsOut.ite (execRegionEnable_keeps (hw.mono rfl) h) (execRegionRecall_keeps (hw.mono rfl) h))),
  List.forall_mem_cons.2 ⟨fun _ _ _ _ h => (State.took_keeps h (execSuspectClear_keeps (hw.mono rfl) h)),
  List.forall_mem_cons.2 ⟨fun _ _ _ _ h => (State.took_keeps h (execSnfDiagRead_keeps (hw.mono rfl) h)),
  List.forall_mem_cons.2 ⟨fun _ _ _ _ h => (State.took_keeps h (execMapidxWrite_keeps (hw.mono rfl) h)),
  List.forall_mem_cons.2 ⟨fun _ _ _ _ h => (State.took_keeps h (KeepsOut.ite (execMapGrant_keeps (hw.mono rfl) h) (execMapRelease_keeps (hw.mono rfl) h))),
  List.forall_mem_cons.2 ⟨fun _ _ _ _ h => (State.took_keeps h (execShareGroupWrite_keeps (hw.mono rfl) h)),
  List.forall_mem_cons.2 ⟨fun _ _ _ _ h => (State.took_keeps h (execPoolportWrite_keeps (hw.mono rfl) h)),
  List.forall_mem_cons.2 ⟨fun _ _ _ _ h => (State.took_keeps h (execWindowCommit_keeps (hw.mono rfl) h)),
  List.forall_mem_cons.2 ⟨fun _ _ _ _ h => (State.took_keeps h (execChkStagingClear_keeps (hw.mono rfl) h)),
  List.forall_mem_cons.2 ⟨fun _ _ _ _ h => (State.took_keeps h (KeepsOut.ite (execChkCommit_keeps (hw.mono rfl) h) (execChkWithdraw_keeps (hw.mono rfl) h))),
  List.forall_mem_cons.2 ⟨fun _ _ _ _ h => (State.took_keeps h (execRunEnableWrite_keeps (hw.mono rfl) h)),
  List.forall_mem_cons.2 ⟨fun _ _ _ _ h => (State.took_keeps h (execRunPauseWrite_keeps (hw.mono rfl) h)),
  List.forall_mem_cons.2 ⟨fun _ _ _ _ h => (State.took_keeps h (execRunRctx0Write_keeps (hw.mono rfl) h)),
  List.forall_mem_cons.2 ⟨fun _ _ _ _ h => (State.took_keeps h (execRingDoorbell_keeps (hw.mono rfl) h)),
  (fun _ h => nomatch h)⟩⟩⟩⟩⟩⟩⟩⟩⟩⟩⟩⟩⟩⟩⟩⟩

theorem rowsD_keeps {W : Nat} {z : State} (hw : Within 0x188e70a81231ae02 W) : ∀ e ∈ rowsD, RowKeeps W z e :=
  List.forall_mem_cons.2 ⟨fun _ _ _ _ h => (State.took_keeps h (execCqheadWrite_keeps (hw.mono rfl) h)),
  List.forall_mem_cons.2 ⟨fun _ _ _ _ h => (State.ctlRow_keeps (hw.mono rfl) h),
  (fun _ h => nomatch h)⟩⟩

theorem rowsE_keeps {W : Nat} {z : State} (hw : Within 0x800000000000020 W) : ∀ e ∈ rowsE, RowKeeps W z e :=
  List.forall_mem_map.2 fun _ _ => fun _ _ _ _ h => (State.took_keeps h (execRingCfgWrite_keeps (hw.mono rfl) h))

theorem rowsF_keeps {W : Nat} {z : State} (hw : Within 0x1c8f70ac1231ae02 W) : ∀ e ∈ rowsF, RowKeeps W z e :=
  List.forall_mem_cons.2 ⟨fun _ _ _ _ h => (State.took_keeps h (execRotenWrite_keeps (hw.mono rfl) h)),
  List.forall_mem_cons.2 ⟨fun _ _ _ _ h => (State.took_keeps h (KeepsOut.ite (execRotationCommit_keeps (hw.mono rfl) h) (execRotationCancel_keeps (hw.mono rfl) h))),
  List.forall_mem_cons.2 ⟨fun _ _ _ _ h => (State.took_keeps h (execClassShaperCommit_keeps (hw.mono rfl) h)),
  List.forall_mem_cons.2 ⟨fun _ _ _ _ h => (State.took_keeps h (execShaperCommit_keeps (hw.mono rfl) h)),
  List.forall_mem_cons.2 ⟨fun _ _ _ _ h => (State.took_keeps h (execMailboxDoorbell_keeps (hw.mono rfl) h)),
  List.forall_mem_cons.2 ⟨fun _ _ _ _ h => (State.took_keeps h (execMailboxAck_keeps (hw.mono rfl) h)),
  List.forall_mem_cons.2 ⟨fun _ _ _ _ h => (State.tiWrite_keeps (hw.mono rfl) h),
  List.forall_mem_cons.2 ⟨fun _ _ _ _ h => (State.took_keeps h (execMailboxDone_keeps (hw.mono rfl) h)),
  List.forall_mem_cons.2 ⟨fun _ _ _ _ h => (State.took_keeps h (execTenNoticeWrite_keeps (hw.mono rfl) h)),
  List.forall_mem_cons.2 ⟨fun _ _ _ _ h => (State.took_keeps h (KeepsOut.ite (execLogEnable_keeps (hw.mono rfl) h) (execLogDisable_keeps (hw.mono rfl) h))),
  List.forall_mem_cons.2 ⟨fun _ _ _ _ h => (State.took_keeps h (execLogFlip_keeps (hw.mono rfl) h)),
  List.forall_mem_cons.2 ⟨fun _ _ _ _ h => (State.took_keeps h (KeepsOut.ite (execContextSave_keeps (hw.mono rfl) h) (execContextLoad_keeps (hw.mono rfl) h))),
  List.forall_mem_cons.2 ⟨fun _ _ _ _ h => (State.took_keeps h (execRunnelStatsSnap_keeps (hw.mono rfl) h)),
  (fun _ h => nomatch h)⟩⟩⟩⟩⟩⟩⟩⟩⟩⟩⟩⟩⟩

theorem rowsG_keeps {W : Nat} {z : State} (hw : Within 0x8000000000200 W) : ∀ e ∈ rowsG, RowKeeps W z e :=
  List.forall_mem_map.2 fun _ _ => fun _ _ _ _ h => (State.took_keeps h (execAcqProbeWrite_keeps (hw.mono rfl) h))

theorem rowsH_keeps {W : Nat} {z : State} (hw : Within 0x1ffffeee13ffff42 W) : ∀ e ∈ rowsH, RowKeeps W z e :=
  List.forall_mem_cons.2 ⟨fun _ _ _ _ h => (State.took_keeps h (execSpwInject_keeps (hw.mono rfl) h)),
  List.forall_mem_cons.2 ⟨fun _ _ _ _ h => (State.evSet_keeps (hw.mono rfl) (State.took_keeps h (execStickyClear_keeps (hw.mono rfl) h)) (hw.mono rfl)),
  List.forall_mem_cons.2 ⟨fun _ _ _ _ h => (State.took_keeps h (execSpwMaskWrite_keeps (hw.mono rfl) h)),
  List.forall_mem_cons.2 ⟨fun _ _ _ _ h => (State.took_keeps h (execSpwRctWrite_keeps (hw.mono rfl) h)),
  List.forall_mem_cons.2 ⟨fun _ _ _ _ h => (State.took_keeps h (execSluCfgWrite_keeps (hw.mono rfl) h)),
  List.forall_mem_cons.2 ⟨fun _ _ _ _ h => (State.sluWrite_keeps (hw.mono rfl) h),
  List.forall_mem_cons.2 ⟨fun _ _ _ _ h => (State.took_keeps h (execFlmSnap_keeps (hw.mono rfl) h)),
  List.forall_mem_cons.2 ⟨fun _ _ _ _ h => (State.took_keeps h (execFlmZero_keeps (hw.mono rfl) h)),
  (fun _ h => nomatch h)⟩⟩⟩⟩⟩⟩⟩⟩

theorem rowsI_keeps {W : Nat} {z : State} (hw : Within 0x40000000000200 W) : ∀ e ∈ rowsI, RowKeeps W z e :=
  List.forall_mem_map.2 fun _ _ => fun _ _ _ _ h => (State.took_keeps h (execFlmEvtWrite_keeps (hw.mono rfl) h))

theorem rowsJ_keeps {W : Nat} {z : State} (hw : Within 0x40000000000620 W) : ∀ e ∈ rowsJ, RowKeeps W z e :=
  List.forall_mem_map.2 fun _ _ => fun _ _ _ _ h => (State.took_keeps h (execFlmFiltWrite_keeps (hw.mono rfl) h))

theorem rowsK_keeps {W : Nat} {z : State} (hw : Within 0x10c8f0aa1300a622 W) : ∀ e ∈ rowsK, RowKeeps W z e :=
  List.forall_mem_map.2 fun _ _ => fun _ _ _ _ h => (State.took_keeps h (execFlmRingWrite_keeps (hw.mono rfl) h))

theorem rowTable_keeps {W : Nat} {z : State} (hw : Within 0x1fffffee13ffffe2 W) : ∀ e ∈ rowTable, RowKeeps W z e :=
  List.forall_mem_append.2 ⟨List.forall_mem_append.2 ⟨List.forall_mem_append.2 ⟨List.forall_mem_append.2 ⟨List.forall_mem_append.2 ⟨List.forall_mem_append.2 ⟨List.forall_mem_append.2 ⟨List.forall_mem_append.2 ⟨List.forall_mem_append.2 ⟨List.forall_mem_append.2 ⟨(rowsA_keeps (hw.mono rfl)), (rowsB_keeps (hw.mono rfl))⟩, (rowsC_keeps (hw.mono rfl))⟩, (rowsD_keeps (hw.mono rfl))⟩, (rowsE_keeps (hw.mono rfl))⟩, (rowsF_keeps (hw.mono rfl))⟩, (rowsG_keeps (hw.mono rfl))⟩, (rowsH_keeps (hw.mono rfl))⟩, (rowsI_keeps (hw.mono rfl))⟩, (rowsJ_keeps (hw.mono rfl))⟩, (rowsK_keeps (hw.mono rfl))⟩

theorem State.plainWrite_keeps {W : Nat} {z : State} {s : State} {d : RegDesc} {i : ℕ} {a : ℕ} {v : ℕ} {ev : ℕ} (hw : Within 0x1ffffffc00000020 W) (h_s : Keeps W z s) : Keeps W z (State.plainWrite s d i a v ev) := by
  unfold State.plainWrite
  (try dsimp only)
  exact (Keeps.ite h_s (Keeps.ite (State.stageLow_keeps (hw.mono rfl) h_s) (State.takeWord_keeps (hw.mono rfl) (Keeps.ite (State.takeStaged_keeps (hw.mono rfl) h_s (fbits_all _ (hw.mono rfl))) h_s) (fbits_all _ (hw.mono rfl)))))

theorem State.orErr_keeps {W : Nat} {z : State} {s : State} {t : State} {ok : Bool} {w : ℕ} (hw : Within 0x200 W) (h_s : Keeps W z s) (h_t : Keeps W z t) : Keeps W z (State.orErr s t ok w) := by
  unfold State.orErr
  (try dsimp only)
  exact (Keeps.ite h_t (State.cfgErr_keeps (hw.mono rfl) h_s))

theorem State.recFetch_keeps {W : Nat} {z : State} {s : State} (hw : Within 0x100000000000000 W) (h_s : Keeps W z s) : Keeps W z (State.recFetch s) := by
  unfold State.recFetch
  (try dsimp only)
  exact (State.each_keeps (State.wrb_keeps (hw.mono rfl) h_s (hw.mono rfl)) (fun _ h1 _ => (State.wr_keeps h1 (hw.mono rfl))))

theorem rulesA_keeps {W : Nat} {z : State} (hw : Within 0x108830a41200a602 W) : ∀ e ∈ rulesA, RuleKeeps W z e :=
  List.forall_mem_cons.2 ⟨fun _ _ _ _ h k => (State.orErr_keeps (hw.mono rfl) h k),
  List.forall_mem_cons.2 ⟨fun _ _ _ _ h k => (State.orErr_keeps (hw.mono rfl) h k),
  List.forall_mem_cons.2 ⟨fun _ _ _ _ h k => (State.orErr_keeps (hw.mono rfl) h k),
  List.forall_mem_cons.2 ⟨fun _ _ _ _ h k => (Keeps.ite h (State.orErr_keeps (hw.mono rfl) h (State.wr_keeps k (hw.mono rfl)))),
  List.forall_mem_cons.2 ⟨fun _ _ _ _ h k => (State.orErr_keeps (hw.mono rfl) h k),
  List.forall_mem_cons.2 ⟨fun _ _ _ _ h k => (State.orErr_keeps (hw.mono rfl) h k),
  List.forall_mem_cons.2 ⟨fun _ _ _ _ h k => (State.orErr_keeps (hw.mono rfl) h k),
  List.forall_mem_cons.2 ⟨fun _ _ _ _ h k => (Keeps.ite (State.drainAll_keeps (hw.mono rfl) (State.retCredits_keeps (hw.mono rfl) (State.holdUpdate_keeps (hw.mono rfl) k))) (State.cfgErr_keeps (hw.mono rfl) h)),
  List.forall_mem_cons.2 ⟨fun _ _ _ _ h k => (Keeps.ite (State.cfgErr_keeps (hw.mono rfl) h) (Keeps.ite h (State.drainAll_keeps (hw.mono rfl) (State.retCredits_keeps (hw.mono rfl) (State.globalUpdate_keeps (hw.mono rfl) k))))),
  List.forall_mem_cons.2 ⟨fun _ _ _ _ h k => (Keeps.ite (State.conflict_keeps (hw.mono rfl) h) (State.resvUpdate_keeps (hw.mono rfl) k)),
  List.forall_mem_cons.2 ⟨fun _ _ _ _ h k => (State.telLevel_keeps (hw.mono rfl) k),
  List.forall_mem_cons.2 ⟨fun _ _ _ _ h k => (State.orErr_keeps (hw.mono rfl) h k),
  List.forall_mem_cons.2 ⟨fun _ _ _ _ h k => (State.orErr_keeps (hw.mono rfl) h k),
  List.forall_mem_cons.2 ⟨fun _ _ _ _ h k => (Keeps.ite h k),
  List.forall_mem_cons.2 ⟨fun _ _ _ _ h k => (Keeps.ite h k),
  (fun _ h => nomatch h)⟩⟩⟩⟩⟩⟩⟩⟩⟩⟩⟩⟩⟩⟩⟩

theorem rulesB_keeps {W : Nat} {z : State} (hw : Within 0x118110605301a602 W) : ∀ e ∈ rulesB, RuleKeeps W z e :=
  List.forall_mem_cons.2 ⟨fun _ _ _ _ h k => (Keeps.ite k h),
  List.forall_mem_cons.2 ⟨fun _ _ _ _ h k => (State.orErr_keeps (hw.mono rfl) h k),
  List.forall_mem_cons.2 ⟨fun _ _ _ _ h k => (State.considerAll_keeps (hw.mono rfl) k),
  List.forall_mem_cons.2 ⟨fun _ _ _ _ h k => (Keeps.ite k h),
  List.forall_mem_cons.2 ⟨fun _ _ _ _ h k => (State.tempRead_keeps (hw.mono rfl) k),
  List.forall_mem_cons.2 ⟨fun _ _ _ _ h k => (State.when_keeps k (fun _ h1 => (State.ckStart_keeps (hw.mono rfl) h1))),
  List.forall_mem_cons.2 ⟨fun _ _ _ _ h k => (State.recFetch_keeps (hw.mono rfl) k),
  List.forall_mem_cons.2 ⟨fun _ _ _ _ h k => (State.uset_keeps (hw.mono rfl) h),
  List.forall_mem_cons.2 ⟨fun _ _ _ _ h k => (State.uset_keeps (hw.mono rfl) h),
  List.forall_mem_cons.2 ⟨fun _ _ _ _ h k => (State.uset_keeps (hw.mono rfl) h),
  (fun _ h => nomatch h)⟩⟩⟩⟩⟩⟩⟩⟩⟩⟩

theorem rulesC_keeps {W : Nat} {z : State} (hw : Within 0x200 W) : ∀ e ∈ rulesC, RuleKeeps W z e :=
  List.forall_mem_map.2 fun _ _ => fun _ _ _ _ h k => (State.orErr_keeps (hw.mono rfl) h k)

theorem rulesD_keeps {W : Nat} {z : State} (hw : Within 0x200 W) : ∀ e ∈ rulesD, RuleKeeps W z e :=
  List.forall_mem_map.2 fun _ _ => fun _ _ _ _ h k => (State.orErr_keeps (hw.mono rfl) h k)

theorem rulesE_keeps {W : Nat} {z : State} (hw : Within 0x200 W) : ∀ e ∈ rulesE, RuleKeeps W z e :=
  List.forall_mem_map.2 fun _ _ => fun _ _ _ _ h k => (State.slotSet_keeps (hw.mono rfl) h k)

theorem State.pfUnmask_keeps {W : Nat} {z : State} {s : State} {i : ℕ} (hw : Within 0x1000000000000002 W) (h_s : Keeps W z s) : Keeps W z (State.pfUnmask s i) := by
  unfold State.pfUnmask
  (try dsimp only)
  exact (Keeps.ite h_s (State.msiPf_keeps (hw.mono rfl) (State.setBit_keeps (hw.mono rfl) h_s (hw.mono rfl))))

theorem State.vfUnmask_keeps {W : Nat} {z : State} {s : State} {i : ℕ} (hw : Within 0x400000000000002 W) (h_s : Keeps W z s) : Keeps W z (State.vfUnmask s i) := by
  unfold State.vfUnmask
  (try dsimp only)
  exact (Keeps.ite h_s (State.msiVf_keeps (hw.mono rfl) (State.putb_keeps (hw.mono rfl) h_s (hw.mono rfl))))

theorem rulesF_keeps {W : Nat} {z : State} (hw : Within 0x1400000000000202 W) : ∀ e ∈ rulesF, RuleKeeps W z e :=
  List.forall_mem_cons.2 ⟨fun _ _ _ _ h k => (State.pfUnmask_keeps (hw.mono rfl) k),
  List.forall_mem_cons.2 ⟨fun _ _ _ _ h k => (State.vfUnmask_keeps (hw.mono rfl) k),
  List.forall_mem_cons.2 ⟨fun _ _ _ _ h k => (State.slotSet_keeps (hw.mono rfl) h k),
  List.forall_mem_cons.2 ⟨fun _ _ _ _ h k => (Keeps.ite h k),
  (fun _ h => nomatch h)⟩⟩⟩⟩

theorem ruleTable_keeps {W : Nat} {z : State} (hw : Within 0x158930e45301a602 W) : ∀ e ∈ ruleTable, RuleKeeps W z e :=
  List.forall_mem_append.2 ⟨List.forall_mem_append.2 ⟨List.forall_mem_append.2 ⟨List.forall_mem_append.2 ⟨List.forall_mem_append.2 ⟨(rulesA_keeps (hw.mono rfl)), (rulesB_keeps (hw.mono rfl))⟩, (rulesC_keeps (hw.mono rfl))⟩, (rulesD_keeps (hw.mono rfl))⟩, (rulesE_keeps (hw.mono rfl))⟩, (rulesF_keeps (hw.mono rfl))⟩

theorem State.writeReg_keeps {W : Nat} {z s : State} {d : RegDesc} {i a v ev : Nat} (hw : Within 0x1ffffffe53ffffe2 W) (h_s : Keeps W z s) :
    Keeps W z (s.writeReg d i a v ev) := by
  have ht : Keeps W z (s.plainWrite d i a v ev) := State.plainWrite_keeps (hw.mono rfl) h_s
  unfold State.writeReg
  dsimp only
  split
  · rename_i e_
    exact rowTable_keeps (hw.mono rfl) _ (List.mem_of_find?_eq_some e_) _ _ _ _ h_s
  · refine Keeps.ite h_s (Keeps.ite (State.took_keeps h_s (execChkRuleStore_keeps (hw.mono rfl) h_s)) ?_)
    split
    · rename_i e_
      exact ruleTable_keeps (hw.mono rfl) _ (List.mem_of_find?_eq_some e_) _ _ _ _ h_s ht
    · exact ht

theorem State.writeAddr_keeps {W : Nat} {z : State} {s : State} {a : ℕ} {v : ℕ} {ev : ℕ} (hw : Within 0x1ffffffe53ffffe2 W) (h_s : Keeps W z s) : Keeps W z (State.writeAddr s a v ev) := by
  unfold State.writeAddr
  (try dsimp only)
  exact (Keeps.ite h_s (by split <;> [(exact h_s); (exact (Keeps.ite (State.refusedAt_keeps (hw.mono rfl) h_s) (State.writeReg_keeps (hw.mono rfl) h_s)))]))

theorem State.writeWide_keeps {W : Nat} {z : State} {s : State} {a : ℕ} {v : ℕ} {ev : ℕ} (hw : Within 0x1ffffffe53ffffe2 W) (h_s : Keeps W z s) : Keeps W z (State.writeWide s a v ev) := by
  unfold State.writeWide
  (try dsimp only)
  exact (by split <;> [(exact (Keeps.ite (Keeps.ite (State.refusedAt_keeps (hw.mono rfl) h_s) (Keeps.ite h_s (State.writeAddr_keeps (hw.mono rfl) (State.stageLow_keeps (hw.mono rfl) h_s)))) (State.writeAddr_keeps (hw.mono rfl) (State.writeAddr_keeps (hw.mono rfl) h_s)))); (exact (State.writeAddr_keeps (hw.mono rfl) (State.writeAddr_keeps (hw.mono rfl) h_s)))])

/-! ### Judge -/

theorem State.errAside_keeps {W : Nat} {z : State} {s : State} (hw : Within 0x400000200 W) (h_s : Keeps W z s) : Keeps W z (State.errAside s) := by
  unfold State.errAside
  (try dsimp only)
  exact (State.wrb_keeps (hw.mono rfl) (Keeps.set_spw (hw.mono rfl) h_s) (hw.mono rfl))

theorem State.errBack_keeps {W : Nat} {z : State} {s : State} {t : State} (hw : Within 0x400000200 W) (h_s : Keeps W z s) (h_t : Keeps W z t) : Keeps W z (State.errBack s t) := by
  unfold State.errBack
  (try dsimp only)
  exact (State.when_keeps (State.each_keeps h_t (fun _ h1 _ => (State.pulse_keeps (hw.mono rfl) h1))) (fun _ h2 => (State.wrb_keeps (hw.mono rfl) h2 (hw.mono rfl))))

theorem State.refusal_keeps {W : Nat} {z : State} {s : State} {x : State} {code : ℕ} (hw : Within 0x400000200 W) (h_s : Keeps W z s) (h_x : Keeps W z x) : Keeps W z (State.refusal s x code) := by
  unfold State.refusal
  (try dsimp only)
  exact (Keeps.ite (State.conflictRec_keeps (hw.mono rfl) h_s) (Keeps.ite (State.each_keeps h_s (fun _ h1 _ => (State.pulse_keeps (hw.mono rfl) h1))) h_s))

theorem State.runWrite_keeps {W : Nat} {z : State} {s : State} {d : RegDesc} {i : ℕ} {a : ℕ} {v : ℕ} {ev : ℕ} (hw : Within 0x1ffffffe53ffffe2 W) (h_s : Keeps W z s) : Keeps W z (State.runWrite s d i a v ev).2 := by
  unfold State.runWrite
  (try dsimp only)
  exact (Keeps.ite2 (State.writeAddr_keeps (hw.mono rfl) h_s) (Keeps.ite2 (State.refusal_keeps (hw.mono rfl) h_s (State.writeAddr_keeps (hw.mono rfl) (State.errAside_keeps (hw.mono rfl) h_s))) (Keeps.ite2 (State.errBack_keeps (hw.mono rfl) h_s (State.writeAddr_keeps (hw.mono rfl) (State.errAside_keeps (hw.mono rfl) h_s))) (State.errBack_keeps (hw.mono rfl) h_s (State.writeAddr_keeps (hw.mono rfl) (State.errAside_keeps (hw.mono rfl) h_s))))))

theorem State.judgeWrite_keeps {W : Nat} {z : State} {s : State} {a : ℕ} {v : ℕ} {good : Bool} (hw : Within 0x1ffffffe53ffffe2 W) (h_s : Keeps W z s) : Keeps W z (State.judgeWrite s a v good).2 := by
  unfold State.judgeWrite
  (try dsimp only)
  exact (Keeps.ite2 h_s (by split <;> [(exact h_s); (exact (Keeps.ite2 h_s (Keeps.ite2 (Keeps.ite (State.writeAddr_keeps (hw.mono rfl) h_s) h_s) (Keeps.ite2 (State.writeAddr_keeps (hw.mono rfl) h_s) (Keeps.ite2 h_s (Keeps.ite2 (State.bindWrite_keeps (hw.mono rfl) h_s) (Keeps.ite2 h_s (Keeps.ite2 h_s (Keeps.ite2 (State.refusedAt_keeps (hw.mono rfl) h_s) (Keeps.ite2 (State.innerCheck_keeps (hw.mono rfl) h_s) (State.runWrite_keeps (hw.mono rfl) (State.innerCheck_keeps (hw.mono rfl) h_s))))))))))))]))

theorem State.judgeAll_keeps {W : ℕ} {z : State} {s : State} {es : List (ℕ × ℕ)} {good : Bool} (hw : Within 0x1ffffffe53ffffe2 W) (h_s : Keeps W z s) : Keeps W z (State.judgeAll s es good).2.2 := by
  unfold State.judgeAll
  (try dsimp only)
  exact (foldl_keeps (fun b : ℕ × ℕ × ℕ × State => Keeps W z b.2.2.2) (fun _ _ h339 => (by split; exacts [h339, (State.judgeWrite_keeps (hw.mono rfl) h339)])) h_s)

/-! ### Boot -/

theorem State.imageWrite_keeps {W : Nat} {z : State} {s : State} {a : ℕ} {v : ℕ} (hw : Within 0x1ffffffe53ffffe2 W) (h_s : Keeps W z s) : KeepsOpt W z (State.imageWrite s a v) := by
  unfold State.imageWrite
  (try dsimp only)
  exact (by split <;> [(exact (KeepsOpt.ite (KeepsOpt.some h_s) KeepsOpt.none)); (exact (KeepsOpt.ite (State.bindImage_keeps (hw.mono rfl) h_s) (KeepsOpt.ite (KeepsOpt.some h_s) (KeepsOpt.ite KeepsOpt.none (KeepsOpt.some (State.took_keeps (State.judgeWrite_keeps (hw.mono rfl) h_s) (execTableSwitch_keeps (hw.mono rfl) (State.judgeWrite_keeps (hw.mono rfl) h_s))))))))])

theorem State.imageWindows_keeps {W : Nat} {z : State} {s : State} {es : List (ℕ × ℕ)} (hw : Within 0x200000000000 W) (h_s : Keeps W z s) : Keeps W z (State.imageWindows s es) := by
  unfold State.imageWindows
  (try dsimp only)
  exact (State.each_keeps h_s (fun _ h1 _ => (by split <;> [(exact (Keeps.ite (State.wr_keeps h1 (hw.mono rfl)) h1)); (exact h1)])))

theorem State.stageApply_keeps {W : Nat} {z s : State} {es : List (Nat × Nat)} (hw : Within 0x1ffffffe53ffffe2 W) (h_s : Keeps W z s) : KeepsOpt W z (s.stageApply es) := by
  unfold State.stageApply
  dsimp only
  have hf : KeepsOpt W z (es.foldl (fun o e => o.bind fun s => State.imageWrite s e.1 e.2)
      (some (s.wr fTND_STAT_DEVSTATE 0 1))) := by
    refine foldl_keeps (fun o => KeepsOpt W z o) ?_ (KeepsOpt.some (State.wr_keeps h_s (hw.mono rfl)))
    intro o e ho
    cases o with
    | none => exact KeepsOpt.none
    | some t => exact State.imageWrite_keeps (hw.mono rfl) (ho t rfl)
  split
  · exact KeepsOpt.none
  · rename_i e_
    exact KeepsOpt.map (fun _ h => State.wr_keeps h (hw.mono rfl)) (State.chkImage_keeps (hw.mono rfl) (State.imageWindows_keeps (hw.mono rfl) (hf _ e_)))

theorem State.tdefDefaults_keeps {W : Nat} {z : State} {s : State} {named : List (ℕ × ℕ)} (hw : Within 0x1000000000000 W) (h_s : Keeps W z s) : Keeps W z (State.tdefDefaults s named) := by
  unfold State.tdefDefaults
  (try dsimp only)
  exact (State.each_keeps h_s (fun _ h1 _ => (State.wr_keeps h1 (hw.mono rfl))))

theorem State.spanDefaults_keeps {W : Nat} {z : State} {s : State} {named : List (ℕ × ℕ)} (hw : Within 0x200000000000 W) (h_s : Keeps W z s) : Keeps W z (State.spanDefaults s named) := by
  unfold State.spanDefaults
  (try dsimp only)
  exact (Keeps.ite h_s (State.each_keeps h_s (fun _ h1 _ => (State.wrb_keeps (hw.mono rfl) (State.wr_keeps h1 (hw.mono rfl)) (hw.mono rfl)))))

theorem State.managerDefault_keeps {W : Nat} {z : State} {s : State} (hw : Within 0x1ccf76ec127bf642 W) (h_s : Keeps W z s) : Keeps W z (State.managerDefault s) := by
  unfold State.managerDefault
  (try dsimp only)
  exact (Keeps.ite (State.wr_keeps (State.took_keeps h_s (execPortConfigWrite_keeps (hw.mono rfl) (State.wr_keeps h_s (hw.mono rfl)))) (hw.mono rfl)) h_s)

theorem State.portsUnloaded_keeps {W : Nat} {z : State} {s : State} (hw : Within 0x4000400000 W) (h_s : Keeps W z s) : Keeps W z (State.portsUnloaded s) := by
  unfold State.portsUnloaded
  (try dsimp only)
  exact (State.each_keeps h_s (fun _ h1 _ => (State.readyNow_keeps (hw.mono rfl) (State.portMod_keeps (hw.mono rfl) h1))))

theorem State.setCause_keeps {W : Nat} {z : State} {s : State} {b : ℕ} {c : ℕ} (hw : Within 0x200000000000000 W) (h_s : Keeps W z s) : Keeps W z (State.setCause s b c) := by
  unfold State.setCause
  (try dsimp only)
  exact (State.wr_keeps h_s (by split; exacts [(hw.mono rfl), (hw.mono rfl)]))

theorem State.stageRecord_keeps {W : Nat} {z : State} {s : State} {b : ℕ} {stage : ℕ} (hw : Within 0x100000001000000 W) (h_s : Keeps W z s) : Keeps W z (State.stageRecord s b stage) := by
  unfold State.stageRecord
  (try dsimp only)
  exact (State.journal_keeps (hw.mono rfl) h_s)

theorem State.bootSlot_keeps {W : Nat} {z : State} {s : State} {b : ℕ} {v : ImageCheck} (hw : Within 0x1fffffff53ffffe2 W) (h_s : Keeps W z s) : Keeps W z (State.bootSlot s b v).2 := by
  unfold State.bootSlot
  (try dsimp only)
  exact (Keeps.ite2 h_s (by split <;> [(exact h_s); (rename_i e_; have h1 := (KeepsOpt.bind (fun _ => (State.stageApply_keeps (hw.mono rfl) (State.wr_keeps (State.loadProfile_keeps (hw.mono rfl) h_s) (hw.mono rfl))))) _ e_; exact (Keeps.ite2 h_s (State.wr_keeps (State.stageRecord_keeps (hw.mono rfl) (State.tndMod_keeps (hw.mono rfl) (State.bootMod_keeps (hw.mono rfl) (State.wrb_keeps (hw.mono rfl) (State.wr_keeps (State.wr_keeps (Keeps.ite (State.setCause_keeps (hw.mono rfl) (State.setCause_keeps (hw.mono rfl) (State.wr_keeps (State.wr_keeps (State.portsUnloaded_keeps (hw.mono rfl) (State.tdefDefaults_keeps (hw.mono rfl) (State.managerDefault_keeps (hw.mono rfl) (State.spanDefaults_keeps (hw.mono rfl) h1)))) (hw.mono rfl)) (hw.mono rfl)))) (State.setCause_keeps (hw.mono rfl) (State.wr_keeps (State.wr_keeps (State.portsUnloaded_keeps (hw.mono rfl) (State.tdefDefaults_keeps (hw.mono rfl) (State.managerDefault_keeps (hw.mono rfl) (State.spanDefaults_keeps (hw.mono rfl) h1)))) (hw.mono rfl)) (hw.mono rfl)))) (hw.mono rfl)) (hw.mono rfl)) (hw.mono rfl))))) (hw.mono rfl))))]))

theorem State.slotFails_keeps {W : Nat} {z : State} {s : State} {b : ℕ} {c : ℕ} (hw : Within 0x200000100000000 W) (h_s : Keeps W z s) : Keeps W z (State.slotFails s b c) := by
  unfold State.slotFails
  (try dsimp only)
  exact (Keeps.ite (State.setCause_keeps (hw.mono rfl) h_s) (State.bootMod_keeps (hw.mono rfl) (State.noImage_keeps (hw.mono rfl) (Keeps.ite (State.setCause_keeps (hw.mono rfl) (State.setCause_keeps (hw.mono rfl) h_s)) (State.setCause_keeps (hw.mono rfl) h_s)))))

theorem execBootSlotTry_keeps {W : Nat} {z : State} {b : Bool} {v : ImageCheck} {s : State} (hw : Within 0x1fffffff53ffffe2 W) (h_s : Keeps W z s) : KeepsOut W z (execBootSlotTry b v s) := by
  unfold execBootSlotTry
  (try dsimp only)
  exact (KeepsOut.next (Keeps.ite h_s (by split <;> [(rename_i e_; have h1 := Keeps.snd_eq (State.bootSlot_keeps (hw.mono rfl) h_s) e_; exact (State.spiIdle_keeps (hw.mono rfl) h1)); (rename_i e_; have h2 := Keeps.snd_eq (State.bootSlot_keeps (hw.mono rfl) h_s) e_; exact (State.spiIdle_keeps (hw.mono rfl) (State.slotFails_keeps (hw.mono rfl) h_s)))])))

theorem State.portsLoaded_keeps {W : Nat} {z : State} {s : State} {named : List (ℕ × ℕ)} (hw : Within 0x4000400000 W) (h_s : Keeps W z s) : Keeps W z (State.portsLoaded s named) := by
  unfold State.portsLoaded
  (try dsimp only)
  exact (State.each_keeps h_s (fun _ h1 _ => (State.tabled_keeps (hw.mono rfl) h1)))

theorem execStage2Loaded_keeps {W : Nat} {z : State} {v : ImageCheck} {s : State} (hw : Within 0x1fffffff53ffffe2 W) (h_s : Keeps W z s) : KeepsOut W z (execStage2Loaded v s) := by
  unfold execStage2Loaded
  (try dsimp only)
  exact (KeepsOut.next (by split <;> [(exact h_s); (exact (Keeps.ite (State.tablesNow_keeps (hw.mono rfl) (State.pulse_keeps (hw.mono rfl) (State.setCause_keeps (hw.mono rfl) (State.spiIdle_keeps (hw.mono rfl) (State.bootMod_keeps (hw.mono rfl) h_s))))) (Keeps.ite (State.tablesNow_keeps (hw.mono rfl) (State.pulse_keeps (hw.mono rfl) (State.setCause_keeps (hw.mono rfl) (State.spiIdle_keeps (hw.mono rfl) (State.bootMod_keeps (hw.mono rfl) h_s))))) (by split <;> [(exact (State.tablesNow_keeps (hw.mono rfl) (State.pulse_keeps (hw.mono rfl) (State.setCause_keeps (hw.mono rfl) (State.spiIdle_keeps (hw.mono rfl) (State.bootMod_keeps (hw.mono rfl) h_s)))))); (rename_i e_; have h1 := (KeepsOpt.bind (fun _ => (State.stageApply_keeps (hw.mono rfl) (State.spiIdle_keeps (hw.mono rfl) (State.bootMod_keeps (hw.mono rfl) h_s))))) _ e_; exact (State.tablesNow_keeps (hw.mono rfl) (State.stageRecord_keeps (hw.mono rfl) (State.portsLoaded_keeps (hw.mono rfl) (State.wrb_keeps (hw.mono rfl) (State.tdefDefaults_keeps (hw.mono rfl) h1) (hw.mono rfl))))))]))))]))

theorem State.bootNow_keeps {W : Nat} {z : State} {s : State} {b : ℕ} {v : ImageCheck} (hw : Within 0x1fffffff53ffffe2 W) (h_s : Keeps W z s) : Keeps W z (State.bootNow s b v) := by
  unfold State.bootNow
  (try dsimp only)
  exact (Keeps.ite (State.wr_keeps (State.bootSlot_keeps (hw.mono rfl) (State.pwrMod_keeps (hw.mono rfl) h_s)) (hw.mono rfl)) (State.wr_keeps (State.setCause_keeps (hw.mono rfl) h_s) (hw.mono rfl)))

theorem State.fwCommand_keeps {W : Nat} {z : State} {s : State} {k : ℕ} {va : ImageCheck} {vb : ImageCheck} (hw : Within 0x1fffffff53ffffe2 W) (h_s : Keeps W z s) : Keeps W z (State.fwCommand s k va vb).2 := by
  unfold State.fwCommand
  (try dsimp only)
  exact (Keeps.ite2 (Keeps.ite (State.wr_keeps h_s (hw.mono rfl)) h_s) (Keeps.ite2 h_s (by split <;> [(exact (State.wr_keeps (State.bootMod_keeps (hw.mono rfl) h_s) (hw.mono rfl))); (exact (State.wr_keeps (State.bootMod_keeps (hw.mono rfl) h_s) (hw.mono rfl))); (exact (Keeps.ite2 (State.bootMod_keeps (hw.mono rfl) h_s) (State.wr_keeps h_s (hw.mono rfl)))); (exact (Keeps.ite2 (State.bootMod_keeps (hw.mono rfl) h_s) (State.wr_keeps h_s (hw.mono rfl)))); (exact (Keeps.ite2 (State.wr_keeps (State.wr_keeps (State.bootMod_keeps (hw.mono rfl) h_s) (hw.mono rfl)) (hw.mono rfl)) h_s)); (exact (Keeps.ite2 (State.bootNow_keeps (hw.mono rfl) h_s) h_s))])))

theorem execFwVerifyDone_keeps {W : Nat} {z : State} {v : ImageCheck} {s : State} (hw : Within 0x200004100000240 W) (h_s : Keeps W z s) : KeepsOut W z (execFwVerifyDone v s) := by
  unfold execFwVerifyDone
  (try dsimp only)
  exact (KeepsOut.next (by split <;> [(exact h_s); (exact (State.spiIdle_keeps (hw.mono rfl) (State.wr_keeps (State.wr_keeps (State.bootMod_keeps (hw.mono rfl) h_s) (hw.mono rfl)) (hw.mono rfl))))]))

theorem execTrialExpire_keeps {W : Nat} {z : State} {s : State} (hw : Within 0x200000100000000 W) (h_s : Keeps W z s) : KeepsOut W z (execTrialExpire s) := by
  unfold execTrialExpire
  (try dsimp only)
  exact (KeepsOut.next (Keeps.ite (State.wr_keeps (State.bootMod_keeps (hw.mono rfl) h_s) (hw.mono rfl)) h_s))

theorem State.svnWrite_keeps {W : Nat} {z : State} {s : State} {v : ℕ} {va : ImageCheck} {vb : ImageCheck} (hw : Within 0x200000000000000 W) (h_s : Keeps W z s) : Keeps W z (State.svnWrite s v va vb).2 := by
  unfold State.svnWrite
  (try dsimp only)
  exact (Keeps.ite2 (State.wr_keeps h_s (hw.mono rfl)) h_s)

theorem State.challenge_keeps {W : Nat} {z : State} {s : State} (hw : Within 0x100000004 W) (h_s : Keeps W z s) : Keeps W z (State.challenge s).2 := by
  unfold State.challenge
  (try dsimp only)
  exact (State.bootMod_keeps (hw.mono rfl) (State.draw_keeps (hw.mono rfl) h_s))

theorem State.unlock_keeps {W : Nat} {z : State} {s : State} {bs : List Byte} {good : Bool} {byTender : Bool} (hw : Within 0x300000101000000 W) (h_s : Keeps W z s) : Keeps W z (State.unlock s bs good byTender).2 := by
  unfold State.unlock
  (try dsimp only)
  exact (Keeps.ite2 h_s (Keeps.ite2 h_s (Keeps.ite2 (State.lifecycle_keeps (hw.mono rfl) (State.bootMod_keeps (hw.mono rfl) h_s)) (State.wrb_keeps (hw.mono rfl) (State.bootMod_keeps (hw.mono rfl) h_s) (hw.mono rfl)))))

theorem execOpenExpire_keeps {W : Nat} {z : State} {s : State} (hw : Within 0x300000001000000 W) (h_s : Keeps W z s) : KeepsOut W z (execOpenExpire s) := by
  unfold execOpenExpire
  (try dsimp only)
  exact (KeepsOut.next (Keeps.ite (State.lifecycle_keeps (hw.mono rfl) h_s) h_s))

theorem State.retireNow_keeps {W : Nat} {z : State} {s : State} (hw : Within 0x300000001000000 W) (h_s : Keeps W z s) : Keeps W z (State.retireNow s).2 := by
  unfold State.retireNow
  (try dsimp only)
  exact (Keeps.ite2 h_s (State.lifecycle_keeps (hw.mono rfl) (State.wrb_keeps (hw.mono rfl) h_s (hw.mono rfl))))

/-! ### Cfg -/

theorem State.marginSet_keeps {W : Nat} {z : State} {s : State} {q : ℕ} {i : ℕ} {v : ℕ} (hw : Within 0x400000 W) (h_s : Keeps W z s) : Keeps W z (State.marginSet s q i v) := by
  unfold State.marginSet
  (try dsimp only)
  exact (State.portMod_keeps (hw.mono rfl) h_s)

theorem State.cfgWrite_keeps {W : Nat} {z : State} {s : State} {p : ℕ} {fn : CfgFn} {f : CfgField} {v : ℕ} (hw : Within 0x400000 W) (h_s : Keeps W z s) : Keeps W z (State.cfgWrite s p fn f v) := by
  unfold State.cfgWrite
  (try dsimp only)
  exact (by split <;> [(exact (State.portMod_keeps (hw.mono rfl) h_s)); (exact (Keeps.ite h_s (State.bridgeMod_keeps (hw.mono rfl) h_s))); (exact (State.portMod_keeps (hw.mono rfl) h_s)); (exact (Keeps.ite h_s (State.bridgeMod_keeps (hw.mono rfl) h_s))); (exact (by split <;> [(exact (Keeps.ite (State.marginSet_keeps (hw.mono rfl) h_s) h_s)); (exact h_s)])); (exact (Keeps.ite h_s (State.bridgeMod_keeps (hw.mono rfl) h_s))); (exact h_s)])

theorem State.cfgServe_keeps {W : Nat} {z : State} {s : State} {p : ℕ} {r : CfgReq} (hw : Within 0x1ffffffc00408012 W) (h_s : Keeps W z s) : Keeps W z (State.cfgServe s p r) := by
  unfold State.cfgServe
  (try dsimp only)
  exact (Keeps.ite (State.reply_keeps (hw.mono rfl) h_s) (by split <;> [(exact (State.reply_keeps (hw.mono rfl) (State.cfgWrite_keeps (hw.mono rfl) h_s))); (exact (State.send_keeps (hw.mono rfl) (by split <;> [(exact (State.readAddr_keeps (hw.mono rfl) h_s)); (exact h_s)])))]))

theorem execConfigRequest_keeps {W : Nat} {z : State} {p : ℕ} {r : CfgReq} {s : State} (hw : Within 0x1ffffffc00408012 W) (h_s : Keeps W z s) : KeepsOut W z (execConfigRequest p r s) := by
  unfold execConfigRequest
  (try dsimp only)
  exact (KeepsOut.onUnit (Keeps.ite (State.reply_keeps (hw.mono rfl) h_s) (State.cfgServe_keeps (hw.mono rfl) h_s)))

/-! ### Debug -/

theorem State.debugSend_keeps {W : Nat} {z : State} {s : State} {jtag : Bool} {m : Msg} (hw : Within 0x1088f0aa1300a602 W) (h_s : Keeps W z s) : Keeps W z (State.debugSend s jtag m).2 := by
  unfold State.debugSend
  (try dsimp only)
  exact (Keeps.ite2 (State.innerCheck_keeps (hw.mono rfl) h_s) (by split <;> [(exact (by split <;> [(exact (Keeps.ite2 (State.innerCheck_keeps (hw.mono rfl) h_s) (State.inject_keeps (hw.mono rfl) (State.innerCheck_keeps (hw.mono rfl) h_s)))); (exact (State.innerCheck_keeps (hw.mono rfl) h_s))])); (exact (State.xltDeny_keeps (hw.mono rfl) (State.innerCheck_keeps (hw.mono rfl) h_s))); (exact (State.innerCheck_keeps (hw.mono rfl) h_s))]))

theorem State.debugMem_keeps {W : Nat} {z : State} {s : State} {jtag : Bool} {write : Bool} {a : ℕ} {n : ℕ} {data : List Byte} (hw : Within 0x1088f0aa1300a602 W) (h_s : Keeps W z s) : Keeps W z (State.debugMem s jtag write a n data).2.2 := by
  unfold State.debugMem
  (try dsimp only)
  exact (foldl_keeps (fun p : ℕ × ℕ × State => Keeps W z p.2.2) (fun _ _ h1 => (Keeps.ite22 h1 (State.debugSend_keeps (hw.mono rfl) h1))) h_s)

theorem State.readBytes_keeps {W : Nat} {z : State} {s : State} {a : ℕ} {n : ℕ} (hw : Within 0x1ffffffc00000010 W) (h_s : Keeps W z s) : Keeps W z (State.readBytes s a n).2 := by
  unfold State.readBytes
  (try dsimp only)
  exact (foldl_keeps (fun p : List Byte × State => Keeps W z p.2) (fun _ _ h1 => (State.readAddr_keeps (hw.mono rfl) h1)) h_s)

theorem State.debugReg_keeps {W : Nat} {z : State} {s : State} {jtag : Bool} {write : Bool} {a : ℕ} {n : ℕ} {data : List Byte} (hw : Within 0x1ffffffe53fffff2 W) (h_s : Keeps W z s) : Keeps W z (State.debugReg s jtag write a n data).2.2 := by
  unfold State.debugReg
  (try dsimp only)
  exact (Keeps.ite22 (State.innerCheck_keeps (hw.mono rfl) h_s) (Keeps.ite22 (State.each_keeps (State.innerCheck_keeps (hw.mono rfl) h_s) (fun _ h1 _ => (State.refusedAt_keeps (hw.mono rfl) h1))) (Keeps.ite22 (State.each_keeps (State.innerCheck_keeps (hw.mono rfl) h_s) (fun _ h2 _ => (State.writeAddr_keeps (hw.mono rfl) h2))) (State.readBytes_keeps (hw.mono rfl) (State.innerCheck_keeps (hw.mono rfl) h_s)))))

/-! ### Dict -/

theorem State.seen_keeps {W : Nat} {z : State} {s : State} {n : ℕ} {g : ℕ} (hw : Within 0x80000000000000 W) (h_s : Keeps W z s) : Keeps W z (State.seen s n g) := by
  unfold State.seen
  (try dsimp only)
  exact (State.wrb_keeps (hw.mono rfl) h_s (by split; exacts [(hw.mono rfl), (hw.mono rfl)]))

theorem State.slotTake_keeps {W : Nat} {z : State} {s : State} {n : ℕ} {a : ℕ} (hw : Within 0x80000000000000 W) (h_s : Keeps W z s) : Keeps W z (State.slotTake s n a) := by
  unfold State.slotTake
  (try dsimp only)
  exact (State.wrb_keeps (hw.mono rfl) (State.wr_keeps (State.wr_keeps h_s (hw.mono rfl)) (hw.mono rfl)) (hw.mono rfl))

theorem State.originOf_keeps {W : Nat} {z : State} {s : State} {w : Caller} (hw : Within 0x80000000000000 W) (h_s : Keeps W z s) : Keeps W z (State.originOf s w).2 := by
  unfold State.originOf
  (try dsimp only)
  exact (Keeps.ite2 h_s (by split <;> [(exact (State.seen_keeps (hw.mono rfl) h_s)); (exact (by split <;> [(exact (State.seen_keeps (hw.mono rfl) (State.slotTake_keeps (hw.mono rfl) h_s))); (exact h_s)]))]))

theorem State.sendBack_keeps {W : Nat} {z : State} {s : State} {w : Caller} {bs : List Byte} (hw : Within 0x2 W) (h_s : Keeps W z s) : Keeps W z (State.sendBack s w bs) := by
  unfold State.sendBack
  (try dsimp only)
  exact (Keeps.ite (State.send_keeps (hw.mono rfl) h_s) (Keeps.ite h_s (State.send_keeps (hw.mono rfl) h_s)))

theorem State.sayBack_keeps {W : Nat} {z : State} {s : State} {c : Cmd} {bs : List Byte} (hw : Within 0x1000002 W) (h_s : Keeps W z s) : Keeps W z (State.sayBack s c bs) := by
  unfold State.sayBack
  (try dsimp only)
  exact (Keeps.ite (State.tndMod_keeps (hw.mono rfl) h_s) (State.sendBack_keeps (hw.mono rfl) h_s))

theorem State.answer_keeps {W : Nat} {z : State} {s : State} {c : Cmd} {abort : ℕ} {jseq : ℕ} {data : List Byte} (hw : Within 0x1000002 W) (h_s : Keeps W z s) : Keeps W z (State.answer s c abort jseq data) := by
  unfold State.answer
  (try dsimp only)
  exact (State.sayBack_keeps (hw.mono rfl) (State.when_keeps h_s (fun _ h1 => (State.tndMod_keeps (hw.mono rfl) h1))))

theorem State.readRegObj_keeps {W : Nat} {z : State} {s : State} {a : ℕ} (hw : Within 0x1ffffffe01000610 W) (h_s : Keeps W z s) : Keeps W z (State.readRegObj s a).2.2 := by
  unfold State.readRegObj
  (try dsimp only)
  exact (by split <;> [(exact (State.readAddr_keeps (hw.mono rfl) h_s)); (exact (Keeps.ite22 h_s (Keeps.ite22 (State.refusedAt_keeps (hw.mono rfl) h_s) (Keeps.ite22 (State.innerCheck_keeps (hw.mono rfl) h_s) (State.readAddr_keeps (hw.mono rfl) (State.innerCheck_keeps (hw.mono rfl) h_s))))))])

theorem State.dictRead_keeps {W : Nat} {z : State} {s : State} {c : Cmd} (hw : Within 0x1fffffff01000614 W) (h_s : Keeps W z s) : Keeps W z (State.dictRead s c).2.2 := by
  unfold State.dictRead
  (try dsimp only)
  exact (Keeps.ite22 h_s (Keeps.ite22 (Keeps.ite22 h_s (State.readRegObj_keeps (hw.mono rfl) h_s)) (by split <;> [(exact h_s); (exact (Keeps.ite22 h_s (Keeps.ite22 (Keeps.ite22 (State.challenge_keeps (hw.mono rfl) h_s) h_s) (Keeps.ite22 (Keeps.ite22 h_s h_s) (Keeps.ite22 h_s h_s)))))])))

end Sys2Proof.Machine
end

