-- ==== Sys2Proof/Laws/KeepsG.lean ====
section
/-! SUPPORT. What every operation keeps, for the operations of DictWrite, Tnd, Tap, Compare: the queue, the canonical form of the register store, and
what lies outside the parts it may change (`Keeps`, `KeepsOut`, `KeepsOpt`). -/

namespace Sys2Proof.Machine

/-! ### DictWrite -/

theorem State.stateCmd_keeps {W : Nat} {z : State} {s : State} {v : ℕ} (hw : Within 0x1080000012000042 W) (h_s : Keeps W z s) : Keeps W z (State.stateCmd s v).2 := by
  unfold State.stateCmd
  (try dsimp only)
  exact (Keeps.ite2 (Keeps.ite2 (State.pwrMod_keeps (hw.mono rfl) h_s) (Keeps.ite2 (State.pwrMod_keeps (hw.mono rfl) (State.setDev_keeps (hw.mono rfl) h_s)) h_s)) (Keeps.ite2 h_s (Keeps.ite2 (State.pwrMod_keeps (hw.mono rfl) h_s) (Keeps.ite2 h_s h_s))))

theorem State.epochCancel_keeps {W : Nat} {z : State} {s : State} {q : ℕ} (hw : Within 0x1000000 W) (h_s : Keeps W z s) : Keeps W z (State.epochCancel s q).2 := by
  unfold State.epochCancel
  (try dsimp only)
  exact (Keeps.ite2 (State.tndMod_keeps (hw.mono rfl) h_s) h_s)

theorem State.precedence_keeps {W : Nat} {z : State} {s : State} {on : Bool} (hw : Within 0x800000000000 W) (h_s : Keeps W z s) : Keeps W z (State.precedence s on).2 := by
  unfold State.precedence
  (try dsimp only)
  exact (Keeps.ite2 (State.wrb_keeps (hw.mono rfl) h_s (hw.mono rfl)) (by split <;> [(exact (State.loadErr_keeps (hw.mono rfl) h_s)); (exact (State.wrb_keeps (hw.mono rfl) h_s (hw.mono rfl)))]))

theorem State.swClear_keeps {W : Nat} {z : State} {s : State} {on : Bool} (hw : Within 0x10000000000000 W) (h_s : Keeps W z s) : Keeps W z (State.swClear s on) := by
  unfold State.swClear
  (try dsimp only)
  exact (Keeps.ite (State.leaveClearMode_keeps (hw.mono rfl) (State.wrb_keeps (hw.mono rfl) h_s (hw.mono rfl))) (State.wrb_keeps (hw.mono rfl) h_s (hw.mono rfl)))

theorem State.lockWrite_keeps {W : Nat} {z : State} {s : State} {orig : ℕ} {v : ℕ} (hw : Within 0x80000000000000 W) (h_s : Keeps W z s) : Keeps W z (State.lockWrite s orig v).2 := by
  unfold State.lockWrite
  (try dsimp only)
  exact (Keeps.ite2 (State.wr_keeps h_s (hw.mono rfl)) (Keeps.ite2 (State.wr_keeps h_s (hw.mono rfl)) h_s))

theorem State.ttImageWrite_keeps {W : Nat} {z : State} {s : State} {bs : List Byte} {good : Bool} (hw : Within 0x1ffffffe53ffffe2 W) (h_s : Keeps W z s) : Keeps W z (State.ttImageWrite s bs good).2 := by
  unfold State.ttImageWrite
  (try dsimp only)
  exact (Keeps.ite2 h_s (Keeps.ite2 h_s (State.judgeWrite_keeps (hw.mono rfl) (State.each_keeps h_s (fun _ h1 _ => (State.uset_keeps (hw.mono rfl) h1))))))

theorem State.debugWrite_keeps {W : Nat} {z : State} {s : State} {bs : List Byte} (hw : Within 0x1ffffffe53fffff2 W) (h_s : Keeps W z s) : Keeps W z (State.debugWrite s bs).2 := by
  unfold State.debugWrite
  (try dsimp only)
  exact (Keeps.ite2 h_s (Keeps.ite2 (Keeps.ite (State.tndMod_keeps (hw.mono rfl) (State.debugReg_keeps (hw.mono rfl) h_s)) (State.debugReg_keeps (hw.mono rfl) h_s)) (Keeps.ite (State.tndMod_keeps (hw.mono rfl) (State.debugMem_keeps (hw.mono rfl) h_s)) (State.debugMem_keeps (hw.mono rfl) h_s))))

theorem State.batchWrite_keeps {W : Nat} {z : State} {s : State} {c : Cmd} (hw : Within 0x1ffffffe53ffffe2 W) (h_s : Keeps W z s) : Keeps W z (State.batchWrite s c).2.2 := by
  unfold State.batchWrite
  (try dsimp only)
  exact (Keeps.ite22 h_s (Keeps.ite22 (State.judgeAll_keeps (hw.mono rfl) h_s) (State.refusal_keeps (hw.mono rfl) h_s (State.judgeAll_keeps (hw.mono rfl) h_s))))

theorem noData_keeps {W : Nat} {z : State} {r : ℕ × State} (hw : Within 0x0 W) (h_r : Keeps W z r.2) : Keeps W z (noData r).2.2 := by
  unfold noData
  (try dsimp only)
  exact h_r

theorem State.namedWrite_keeps {W : Nat} {z : State} {s : State} {orig : ℕ} {c : Cmd} {v : ℕ} {k : ℕ} (hw : Within 0x1fffffff7ffffff2 W) (h_s : Keeps W z s) : Keeps W z (State.namedWrite s orig c v k).2.2 := by
  unfold State.namedWrite
  (try dsimp only)
  exact (Keeps.ite22 (noData_keeps (hw.mono rfl) (State.stateCmd_keeps (hw.mono rfl) h_s)) (Keeps.ite22 (noData_keeps (hw.mono rfl) h_s) (Keeps.ite22 (noData_keeps (hw.mono rfl) (State.each_keeps h_s (fun _ h1 _ => (State.tileReset_keeps (hw.mono rfl) h1)))) (Keeps.ite22 (noData_keeps (hw.mono rfl) (State.epochCancel_keeps (hw.mono rfl) h_s)) (Keeps.ite22 (noData_keeps (hw.mono rfl) (State.precedence_keeps (hw.mono rfl) h_s)) (Keeps.ite22 (noData_keeps (hw.mono rfl) (State.swClear_keeps (hw.mono rfl) h_s)) (Keeps.ite22 (noData_keeps (hw.mono rfl) (State.wr_keeps h_s (hw.mono rfl))) (Keeps.ite22 (noData_keeps (hw.mono rfl) (State.wr_keeps h_s (hw.mono rfl))) (Keeps.ite22 (noData_keeps (hw.mono rfl) (State.wr_keeps h_s (hw.mono rfl))) (Keeps.ite22 (noData_keeps (hw.mono rfl) (Keeps.set_node (hw.mono rfl) h_s)) (Keeps.ite22 (noData_keeps (hw.mono rfl) (State.lockWrite_keeps (hw.mono rfl) h_s)) (Keeps.ite22 (noData_keeps (hw.mono rfl) (State.wr_keeps h_s (hw.mono rfl))) (Keeps.ite22 (noData_keeps (hw.mono rfl) (Keeps.set_subscr (hw.mono rfl) h_s)) (Keeps.ite22 (noData_keeps (hw.mono rfl) (Keeps.set_kinds (hw.mono rfl) h_s)) (Keeps.ite22 (noData_keeps (hw.mono rfl) (State.wr_keeps h_s (hw.mono rfl))) (Keeps.ite22 (noData_keeps (hw.mono rfl) (State.wr_keeps h_s (hw.mono rfl))) (Keeps.ite22 (noData_keeps (hw.mono rfl) (Keeps.ite (State.ckStart_keeps (hw.mono rfl) h_s) h_s)) (Keeps.ite22 (State.batchWrite_keeps (hw.mono rfl) h_s) (Keeps.ite22 (noData_keeps (hw.mono rfl) (State.debugWrite_keeps (hw.mono rfl) h_s)) (Keeps.ite22 (noData_keeps (hw.mono rfl) (State.ttImageWrite_keeps (hw.mono rfl) h_s)) (Keeps.ite22 (noData_keeps (hw.mono rfl) (State.bootMod_keeps (hw.mono rfl) h_s)) (Keeps.ite22 (noData_keeps (hw.mono rfl) (State.fwCommand_keeps (hw.mono rfl) h_s)) (Keeps.ite22 (Keeps.ite22 (noData_keeps (hw.mono rfl) (State.unlock_keeps (hw.mono rfl) h_s)) h_s) (Keeps.ite22 (noData_keeps (hw.mono rfl) (Keeps.ite (State.lifecycle_keeps (hw.mono rfl) h_s) h_s)) (Keeps.ite22 (noData_keeps (hw.mono rfl) (State.svnWrite_keeps (hw.mono rfl) h_s)) (Keeps.ite22 (noData_keeps (hw.mono rfl) (State.retireNow_keeps (hw.mono rfl) h_s)) (noData_keeps (hw.mono rfl) h_s)))))))))))))))))))))))))))

theorem State.objWrite_keeps {W : Nat} {z : State} {s : State} {orig : ℕ} {c : Cmd} (hw : Within 0x1fffffff7ffffff2 W) (h_s : Keeps W z s) : Keeps W z (State.objWrite s orig c).2.2 := by
  unfold State.objWrite
  (try dsimp only)
  exact (Keeps.ite22 (noData_keeps (hw.mono rfl) (State.judgeWrite_keeps (hw.mono rfl) h_s)) (State.namedWrite_keeps (hw.mono rfl) h_s))

theorem State.recsDone_keeps {W : Nat} {z : State} {s : State} {q : ℕ} {n : ℕ} {r : ℕ} (hw : Within 0x1000000 W) (h_s : Keeps W z s) : Keeps W z (State.recsDone s q n r) := by
  unfold State.recsDone
  (try dsimp only)
  exact (State.each_keeps h_s (fun _ h1 _ => (State.recMod_keeps (hw.mono rfl) h1)))

theorem State.dumpAgain_keeps {W : Nat} {z : State} {s : State} {r : ℕ} (hw : Within 0x10c8f0aa1300a602 W) (h_s : Keeps W z s) : Keeps W z (State.dumpAgain s r) := by
  unfold State.dumpAgain
  (try dsimp only)
  exact (by split <;> [(exact h_s); (exact (by split <;> [(exact h_s); (exact (Keeps.ite (State.dumpLines_keeps (hw.mono rfl) (State.setDump_keeps (hw.mono rfl) h_s)) (State.dumpFail_keeps (hw.mono rfl) (State.dumpLines_keeps (hw.mono rfl) (State.setDump_keeps (hw.mono rfl) h_s)))))]))])

theorem State.maybe_keeps {W : Nat} {z : State} {s : State} {f : State → State} (hw : Within 0x4 W) (h_s : Keeps W z s) (h_f : ∀ y0, Keeps W z y0 → Keeps W z (f y0)) : Keeps W z (State.maybe s f) := by
  unfold State.maybe
  (try dsimp only)
  exact (Keeps.ite (h_f _ (State.draw_keeps (hw.mono rfl) h_s)) (State.draw_keeps (hw.mono rfl) h_s))

theorem State.runningEffect_keeps {W : Nat} {z : State} {s : State} {r : Running} (hw : Within 0x1fffffff7ffffff6 W) (h_s : Keeps W z s) : Keeps W z (State.runningEffect s r) := by
  unfold State.runningEffect
  (try dsimp only)
  exact (Keeps.ite h_s (Keeps.ite (State.maybe_keeps (hw.mono rfl) h_s (fun _ h1 => (State.objWrite_keeps (hw.mono rfl) h1))) (State.maybe_keeps (hw.mono rfl) h_s (fun _ h2 => (State.dictRead_keeps (hw.mono rfl) h2)))))

theorem State.tenderRestart_keeps {W : Nat} {z : State} {s : State} (hw : Within 0x1fffffff7ffffff6 W) (h_s : Keeps W z s) : Keeps W z (State.tenderRestart s) := by
  unfold State.tenderRestart
  (try dsimp only)
  exact (State.tndMod_keeps (hw.mono rfl) (by split <;> [(exact (by split <;> [(exact (State.recsDone_keeps (hw.mono rfl) (State.runningEffect_keeps (hw.mono rfl) (State.wrb_keeps (hw.mono rfl) (State.inc_keeps (hw.mono rfl) h_s (hw.mono rfl)) (hw.mono rfl))))); (exact (State.runningEffect_keeps (hw.mono rfl) (State.wrb_keeps (hw.mono rfl) (State.inc_keeps (hw.mono rfl) h_s (hw.mono rfl)) (hw.mono rfl))))])); (exact (State.wrb_keeps (hw.mono rfl) (State.inc_keeps (hw.mono rfl) h_s (hw.mono rfl)) (hw.mono rfl)))]))

theorem State.activateNow_keeps {W : Nat} {z : State} {s : State} {b : ℕ} (hw : Within 0x1fffffff7ffffff6 W) (h_s : Keeps W z s) : Keeps W z (State.activateNow s b) := by
  unfold State.activateNow
  (try dsimp only)
  exact (State.tenderRestart_keeps (hw.mono rfl) (State.wr_keeps (State.wr_keeps (State.bootMod_keeps (hw.mono rfl) h_s) (hw.mono rfl)) (hw.mono rfl)))

theorem State.afterWrite_keeps {W : Nat} {z : State} {s : State} {c : Cmd} (hw : Within 0x1fffffff7ffffff6 W) (h_s : Keeps W z s) : Keeps W z (State.afterWrite s c) := by
  unfold State.afterWrite
  (try dsimp only)
  exact (Keeps.ite (State.warmReset_keeps (hw.mono rfl) h_s) (by split <;> [(exact (State.activateNow_keeps (hw.mono rfl) h_s)); (exact h_s)]))

theorem State.refuse_keeps {W : Nat} {z : State} {s : State} {orig : ℕ} {c : Cmd} {code : ℕ} {data : List Byte} (hw : Within 0x100000001000002 W) (h_s : Keeps W z s) : Keeps W z (State.refuse s orig c code data) := by
  unfold State.refuse
  (try dsimp only)
  exact (State.answer_keeps (hw.mono rfl) (State.each_keeps h_s (fun _ h1 _ => (State.journal_keeps (hw.mono rfl) h1))))

theorem State.epochOne_keeps {W : Nat} {z : State} {s : State} {t : Timed} (hw : Within 0x1fffffff7ffffff6 W) (h_s : Keeps W z s) : Keeps W z (State.epochOne s t) := by
  unfold State.epochOne
  (try dsimp only)
  exact (Keeps.ite (State.afterWrite_keeps (hw.mono rfl) (State.tndMod_keeps (hw.mono rfl) (State.recsDone_keeps (hw.mono rfl) (Keeps.ite22 (State.each_keeps (State.tndMod_keeps (hw.mono rfl) h_s) (fun _ h1 _ => (State.journal_keeps (hw.mono rfl) h1))) (State.objWrite_keeps (hw.mono rfl) (State.each_keeps (State.tndMod_keeps (hw.mono rfl) h_s) (fun _ h2 _ => (State.journal_keeps (hw.mono rfl) h2)))))))) (State.notify_keeps (hw.mono rfl) (State.tndMod_keeps (hw.mono rfl) (State.recsDone_keeps (hw.mono rfl) (Keeps.ite22 (State.each_keeps (State.tndMod_keeps (hw.mono rfl) h_s) (fun _ h3 _ => (State.journal_keeps (hw.mono rfl) h3))) (State.objWrite_keeps (hw.mono rfl) (State.each_keeps (State.tndMod_keeps (hw.mono rfl) h_s) (fun _ h4 _ => (State.journal_keeps (hw.mono rfl) h4)))))))))

theorem State.epochAct_keeps {W : Nat} {z : State} {s : State} {a : Epoch} (hw : Within 0x1fffffff7ffffff6 W) (h_s : Keeps W z s) : Keeps W z (State.epochAct s a) := by
  unfold State.epochAct
  (try dsimp only)
  exact (by split <;> [(exact (Keeps.ite (State.epochOne_keeps (hw.mono rfl) h_s) h_s)); (exact (Keeps.ite (State.applyMap_keeps (hw.mono rfl) h_s) h_s)); (exact (Keeps.ite (State.applyWindow_keeps (hw.mono rfl) h_s) h_s))])

theorem State.epochsApply_keeps {W : Nat} {z : State} {s : State} {by_ : ℕ} (hw : Within 0x1fffffff7ffffff6 W) (h_s : Keeps W z s) : Keeps W z (State.epochsApply s by_) := by
  unfold State.epochsApply
  (try dsimp only)
  exact (State.each_keeps h_s (fun _ h1 _ => (State.epochAct_keeps (hw.mono rfl) h1)))

theorem State.epochsTick_keeps {W : Nat} {z : State} {s : State} (hw : Within 0x1fffffff7ffffff6 W) (h_s : Keeps W z s) : Keeps W z (State.epochsTick s) := by
  unfold State.epochsTick
  (try dsimp only)
  exact (State.each_keeps h_s (fun _ h1 _ => (State.epochAct_keeps (hw.mono rfl) h1)))

theorem State.future_keeps {W : Nat} {z : State} {s : State} {t : ℕ} (hw : Within 0x1fffffff7ffffff6 W) (h_s : Keeps W z s) : Keeps W z (State.future s t) := by
  unfold State.future
  (try dsimp only)
  exact (Keeps.ite h_s (State.epochsApply_keeps (hw.mono rfl) h_s))

theorem State.writeTimed_keeps {W : Nat} {z : State} {s : State} {orig : ℕ} {c : Cmd} {e : ℕ} {t : ℕ} (hw : Within 0x1fffffff7ffffff6 W) (h_s : Keeps W z s) : Keeps W z (State.writeTimed s orig c e t) := by
  unfold State.writeTimed
  (try dsimp only)
  exact (Keeps.ite (State.answer_keeps (hw.mono rfl) (State.tndMod_keeps (hw.mono rfl) (State.each_keeps h_s (fun _ h1 _ => (State.journal_keeps (hw.mono rfl) h1))))) (Keeps.ite (State.answer_keeps (hw.mono rfl) h_s) (State.refuse_keeps (hw.mono rfl) (Keeps.ite (State.refusal_keeps (hw.mono rfl) h_s (Keeps.ite22 (State.objWrite_keeps (hw.mono rfl) (State.errAside_keeps (hw.mono rfl) (State.future_keeps (hw.mono rfl) h_s))) h_s)) (Keeps.ite (State.conflictRec_keeps (hw.mono rfl) h_s) h_s)))))

theorem State.writeNow_keeps {W : Nat} {z : State} {s : State} {orig : ℕ} {c : Cmd} {e : ℕ} (hw : Within 0x1fffffff7ffffff6 W) (h_s : Keeps W z s) : Keeps W z (State.writeNow s orig c e) := by
  unfold State.writeNow
  (try dsimp only)
  exact (Keeps.ite (Keeps.ite (State.tndMod_keeps (hw.mono rfl) (State.each_keeps h_s (fun _ h1 _ => (State.journal_keeps (hw.mono rfl) h1)))) (Keeps.ite (State.tndMod_keeps (hw.mono rfl) (Keeps.ite22 (State.objWrite_keeps (hw.mono rfl) (State.each_keeps h_s (fun _ h2 _ => (State.journal_keeps (hw.mono rfl) h2)))) (State.each_keeps h_s (fun _ h3 _ => (State.journal_keeps (hw.mono rfl) h3))))) (State.afterWrite_keeps (hw.mono rfl) (State.answer_keeps (hw.mono rfl) (State.recsDone_keeps (hw.mono rfl) (Keeps.ite22 (State.objWrite_keeps (hw.mono rfl) (State.each_keeps h_s (fun _ h4 _ => (State.journal_keeps (hw.mono rfl) h4)))) (State.each_keeps h_s (fun _ h5 _ => (State.journal_keeps (hw.mono rfl) h5))))))))) (Keeps.ite (State.answer_keeps (hw.mono rfl) (State.objWrite_keeps (hw.mono rfl) h_s)) (Keeps.ite (State.answer_keeps (hw.mono rfl) (State.recsDone_keeps (hw.mono rfl) (Keeps.ite22 (State.objWrite_keeps (hw.mono rfl) (State.each_keeps h_s (fun _ h6 _ => (State.journal_keeps (hw.mono rfl) h6)))) (State.each_keeps h_s (fun _ h7 _ => (State.journal_keeps (hw.mono rfl) h7)))))) (State.answer_keeps (hw.mono rfl) (State.recsDone_keeps (hw.mono rfl) (State.each_keeps h_s (fun _ h8 _ => (State.journal_keeps (hw.mono rfl) h8))))))))

theorem State.writeWhole_keeps {W : Nat} {z : State} {s : State} {orig : ℕ} {c : Cmd} (hw : Within 0x1fffffff7ffffff6 W) (h_s : Keeps W z s) : Keeps W z (State.writeWhole s orig c) := by
  unfold State.writeWhole
  (try dsimp only)
  exact (by split <;> [(exact (State.writeTimed_keeps (hw.mono rfl) h_s)); (exact (State.writeNow_keeps (hw.mono rfl) h_s))])

theorem State.xferDrop_keeps {W : Nat} {z : State} {s : State} {o : ℕ} (hw : Within 0x1000000 W) (h_s : Keeps W z s) : Keeps W z (State.xferDrop s o) := by
  unfold State.xferDrop
  (try dsimp only)
  exact (State.tndMod_keeps (hw.mono rfl) h_s)

theorem State.imageSegment_keeps {W : Nat} {z : State} {s : State} {o : ℕ} {b : ℕ} {c : Cmd} (hw : Within 0x100000101000002 W) (h_s : Keeps W z s) : Keeps W z (State.imageSegment s o b c) := by
  unfold State.imageSegment
  (try dsimp only)
  exact (Keeps.ite (State.refuse_keeps (hw.mono rfl) (State.xferDrop_keeps (hw.mono rfl) h_s)) (Keeps.ite (State.refuse_keeps (hw.mono rfl) (State.xferDrop_keeps (hw.mono rfl) (State.bootMod_keeps (hw.mono rfl) h_s))) (by split <;> [(exact (State.refuse_keeps (hw.mono rfl) (State.xferDrop_keeps (hw.mono rfl) h_s))); (exact (Keeps.ite (State.tndMod_keeps (hw.mono rfl) h_s) (Keeps.ite (State.answer_keeps (hw.mono rfl) (State.journal_keeps (hw.mono rfl) (State.xferDrop_keeps (hw.mono rfl) (State.bootMod_keeps (hw.mono rfl) h_s)))) (State.answer_keeps (hw.mono rfl) (State.tndMod_keeps (hw.mono rfl) (State.xferDrop_keeps (hw.mono rfl) (State.bootMod_keeps (hw.mono rfl) h_s)))))))])))

theorem State.domainSegment_keeps {W : Nat} {z : State} {s : State} {o : ℕ} {c : Cmd} (hw : Within 0x1fffffff7ffffff6 W) (h_s : Keeps W z s) : Keeps W z (State.domainSegment s o c) := by
  unfold State.domainSegment
  (try dsimp only)
  exact (by split <;> [(exact (State.refuse_keeps (hw.mono rfl) (State.xferDrop_keeps (hw.mono rfl) h_s))); (exact (Keeps.ite (State.writeWhole_keeps (hw.mono rfl) (State.xferDrop_keeps (hw.mono rfl) h_s)) (Keeps.ite (State.refuse_keeps (hw.mono rfl) (State.xferDrop_keeps (hw.mono rfl) h_s)) (State.answer_keeps (hw.mono rfl) (State.tndMod_keeps (hw.mono rfl) (State.xferDrop_keeps (hw.mono rfl) h_s))))))])

theorem State.dictWrite_keeps {W : Nat} {z : State} {s : State} {c : Cmd} (hw : Within 0x1fffffff7ffffff6 W) (h_s : Keeps W z s) : Keeps W z (State.dictWrite s c) := by
  unfold State.dictWrite
  (try dsimp only)
  exact (by split <;> [(exact (Keeps.ite (State.imageSegment_keeps (hw.mono rfl) (by split <;> [(exact (Keeps.ite (State.originOf_keeps (hw.mono rfl) h_s) (State.xferDrop_keeps (hw.mono rfl) (State.originOf_keeps (hw.mono rfl) h_s)))); (exact (State.originOf_keeps (hw.mono rfl) h_s))])) (State.writeWhole_keeps (hw.mono rfl) (by split <;> [(exact (Keeps.ite (State.originOf_keeps (hw.mono rfl) h_s) (State.xferDrop_keeps (hw.mono rfl) (State.originOf_keeps (hw.mono rfl) h_s)))); (exact (State.originOf_keeps (hw.mono rfl) h_s))])))); (exact (by split <;> [(exact (Keeps.ite (State.domainSegment_keeps (hw.mono rfl) (by split <;> [(exact (Keeps.ite (State.originOf_keeps (hw.mono rfl) h_s) (State.xferDrop_keeps (hw.mono rfl) (State.originOf_keeps (hw.mono rfl) h_s)))); (exact (State.originOf_keeps (hw.mono rfl) h_s))])) (State.writeWhole_keeps (hw.mono rfl) (by split <;> [(exact (Keeps.ite (State.originOf_keeps (hw.mono rfl) h_s) (State.xferDrop_keeps (hw.mono rfl) (State.originOf_keeps (hw.mono rfl) h_s)))); (exact (State.originOf_keeps (hw.mono rfl) h_s))])))); (exact (State.writeWhole_keeps (hw.mono rfl) (by split <;> [(exact (Keeps.ite (State.originOf_keeps (hw.mono rfl) h_s) (State.xferDrop_keeps (hw.mono rfl) (State.originOf_keeps (hw.mono rfl) h_s)))); (exact (State.originOf_keeps (hw.mono rfl) h_s))])))]))])

/-! ### Tnd -/

theorem State.dictRun_keeps {W : Nat} {z : State} {s : State} {c : Cmd} (hw : Within 0x1fffffff7ffffff6 W) (h_s : Keeps W z s) : Keeps W z (State.dictRun s c) := by
  unfold State.dictRun
  (try dsimp only)
  exact (by split <;> [(exact (State.sayBack_keeps (hw.mono rfl) (State.inc_keeps (hw.mono rfl) h_s (hw.mono rfl)))); (exact (Keeps.ite (State.dictWrite_keeps (hw.mono rfl) h_s) (Keeps.ite (State.answer_keeps (hw.mono rfl) h_s) (Keeps.ite (State.tndMod_keeps (hw.mono rfl) h_s) (State.answer_keeps (hw.mono rfl) (State.dictRead_keeps (hw.mono rfl) h_s))))))])

theorem State.dictNext_keeps {W : Nat} {z : State} {a : ℕ} {a1 : State} (hw : Within 0x1fffffff7ffffff6 W) (h_a1 : Keeps W z a1) : Keeps W z (State.dictNext a a1) := by
  induction a generalizing a1 with
  | zero =>
    unfold State.dictNext
    (try dsimp only)
    exact h_a1
  | succ a ih =>
    unfold State.dictNext
    (try dsimp only)
    exact (by split <;> [(exact (ih (State.dictRun_keeps (hw.mono rfl) (State.tndMod_keeps (hw.mono rfl) h_a1)))); (exact h_a1)])

theorem State.dictTake_keeps {W : Nat} {z : State} {s : State} {c : Cmd} (hw : Within 0x1fffffff7ffffff6 W) (h_s : Keeps W z s) : Keeps W z (State.dictTake s c) := by
  unfold State.dictTake
  (try dsimp only)
  exact (Keeps.ite h_s (Keeps.ite (State.answer_keeps (hw.mono rfl) h_s) (by split <;> [(exact (State.dictNext_keeps (hw.mono rfl) (State.dictRun_keeps (hw.mono rfl) h_s))); (exact (State.sayBack_keeps (hw.mono rfl) (State.inc_keeps (hw.mono rfl) h_s (hw.mono rfl)))); (exact (Keeps.ite (State.tndMod_keeps (hw.mono rfl) h_s) (State.answer_keeps (hw.mono rfl) h_s)))])))

theorem State.execEnd_keeps {W : Nat} {z : State} {s : State} {r : Running} {code : ℕ} (hw : Within 0x1fffffff7ffffff6 W) (h_s : Keeps W z s) : Keeps W z (State.execEnd s r code) := by
  unfold State.execEnd
  (try dsimp only)
  exact (State.dictNext_keeps (hw.mono rfl) (State.when_keeps (State.answer_keeps (hw.mono rfl) (by split <;> [(exact (State.recsDone_keeps (hw.mono rfl) (State.tndMod_keeps (hw.mono rfl) h_s))); (exact (State.tndMod_keeps (hw.mono rfl) h_s))])) (fun _ h1 => (State.afterWrite_keeps (hw.mono rfl) h1))))

theorem State.noticeAcked_keeps {W : Nat} {z : State} {s : State} {mac : ℕ} {tag : ℕ} (hw : Within 0x2000000 W) (h_s : Keeps W z s) : Keeps W z (State.noticeAcked s mac tag) := by
  unfold State.noticeAcked
  (try dsimp only)
  exact (Keeps.set_notices (hw.mono rfl) h_s)

theorem State.takeFrame_keeps {W : Nat} {z : State} {s : State} {seg : ℕ} {mac : ℕ} {bcast : Bool} {body : List Byte} {good : Bool} {hang : Bool} (hw : Within 0x1fffffff7ffffff6 W) (h_s : Keeps W z s) : Keeps W z (State.takeFrame s seg mac bcast body good hang) := by
  unfold State.takeFrame
  (try dsimp only)
  exact (Keeps.ite h_s (by split <;> [(exact (State.inc_keeps (hw.mono rfl) (State.inc_keeps (hw.mono rfl) h_s (hw.mono rfl)) (hw.mono rfl))); (exact (Keeps.ite (Keeps.ite (State.dictTake_keeps (hw.mono rfl) (by split <;> [(exact (State.seen_keeps (hw.mono rfl) (State.inc_keeps (hw.mono rfl) h_s (hw.mono rfl)))); (exact (State.inc_keeps (hw.mono rfl) h_s (hw.mono rfl)))])) (by split <;> [(exact (State.seen_keeps (hw.mono rfl) (State.inc_keeps (hw.mono rfl) h_s (hw.mono rfl)))); (exact (State.inc_keeps (hw.mono rfl) h_s (hw.mono rfl)))])) (Keeps.ite (Keeps.ite (State.noticeAcked_keeps (hw.mono rfl) (by split <;> [(exact (State.seen_keeps (hw.mono rfl) (State.inc_keeps (hw.mono rfl) h_s (hw.mono rfl)))); (exact (State.inc_keeps (hw.mono rfl) h_s (hw.mono rfl)))])) (State.dictTake_keeps (hw.mono rfl) (by split <;> [(exact (State.seen_keeps (hw.mono rfl) (State.inc_keeps (hw.mono rfl) h_s (hw.mono rfl)))); (exact (State.inc_keeps (hw.mono rfl) h_s (hw.mono rfl)))]))) (by split <;> [(exact (State.seen_keeps (hw.mono rfl) (State.inc_keeps (hw.mono rfl) h_s (hw.mono rfl)))); (exact (State.inc_keeps (hw.mono rfl) h_s (hw.mono rfl)))]))))]))

theorem execDictRead_keeps {W : Nat} {z : State} {seg : ℕ} {mac : ℕ} {bcast : Bool} {body : List Byte} {hang : Bool} {s : State} (hw : Within 0x1fffffff7ffffff6 W) (h_s : Keeps W z s) : KeepsOut W z (execDictRead seg mac bcast body hang s) := by
  unfold execDictRead
  (try dsimp only)
  exact (KeepsOut.onUnit (State.takeFrame_keeps (hw.mono rfl) h_s))

theorem execDictWrite_keeps {W : Nat} {z : State} {seg : ℕ} {mac : ℕ} {bcast : Bool} {body : List Byte} {good : Bool} {hang : Bool} {s : State} (hw : Within 0x1fffffff7ffffff6 W) (h_s : Keeps W z s) : KeepsOut W z (execDictWrite seg mac bcast body good hang s) := by
  unfold execDictWrite
  (try dsimp only)
  exact (KeepsOut.onUnit (State.takeFrame_keeps (hw.mono rfl) h_s))

theorem execBadframe_keeps {W : Nat} {z : State} {seg : ℕ} {mac : ℕ} {ether : ℕ} {bcast : Bool} {body : List Byte} {s : State} (hw : Within 0x1fffffff7ffffff6 W) (h_s : Keeps W z s) : KeepsOut W z (execBadframe seg mac ether bcast body s) := by
  unfold execBadframe
  (try dsimp only)
  exact (KeepsOut.onUnit (Keeps.ite (State.takeFrame_keeps (hw.mono rfl) h_s) (Keeps.ite (State.inc_keeps (hw.mono rfl) h_s (hw.mono rfl)) h_s)))

theorem execApvelTransact_keeps {W : Nat} {z : State} {p : ℕ} {body : List Byte} {good : Bool} {hang : Bool} {s : State} (hw : Within 0x1fffffff7ffffff6 W) (h_s : Keeps W z s) : KeepsOut W z (execApvelTransact p body good hang s) := by
  unfold execApvelTransact
  (try dsimp only)
  exact (KeepsOut.onUnit (Keeps.ite h_s (Keeps.ite (State.cciSay_keeps (hw.mono rfl) h_s) (Keeps.ite (State.cciSay_keeps (hw.mono rfl) h_s) (by split <;> [(exact (State.cciSay_keeps (hw.mono rfl) h_s)); (exact (Keeps.ite (State.cciSay_keeps (hw.mono rfl) h_s) (Keeps.ite (State.dictTake_keeps (hw.mono rfl) h_s) (State.cciSay_keeps (hw.mono rfl) h_s))))])))))

theorem execGetWaterlogRecords_keeps {W : Nat} {z : State} {p : ℕ} {start : ℕ} {count : ℕ} {s : State} (hw : Within 0x2 W) (h_s : Keeps W z s) : KeepsOut W z (execGetWaterlogRecords p start count s) := by
  unfold execGetWaterlogRecords
  (try dsimp only)
  exact (KeepsOut.onUnit (Keeps.ite h_s (Keeps.ite (State.cciSay_keeps (hw.mono rfl) h_s) (Keeps.ite (State.cciSay_keeps (hw.mono rfl) h_s) (Keeps.ite (State.cciSay_keeps (hw.mono rfl) h_s) (State.cciSay_keeps (hw.mono rfl) h_s))))))

theorem execBroadcastReply_keeps {W : Nat} {z : State} {s : State} (hw : Within 0x1000002 W) (h_s : Keeps W z s) : KeepsOut W z (execBroadcastReply s) := by
  unfold execBroadcastReply
  (try dsimp only)
  exact (KeepsOut.next (by split <;> [(exact (State.sendBack_keeps (hw.mono rfl) (State.tndMod_keeps (hw.mono rfl) h_s))); (exact h_s)]))

theorem execCommandTimeout_keeps {W : Nat} {z : State} {s : State} (hw : Within 0x1fffffff7ffffff6 W) (h_s : Keeps W z s) : KeepsOut W z (execCommandTimeout s) := by
  unfold execCommandTimeout
  (try dsimp only)
  exact (KeepsOut.next (by split <;> [(exact (State.execEnd_keeps (hw.mono rfl) (State.pulse_keeps (hw.mono rfl) (State.inc_keeps (hw.mono rfl) (State.runningEffect_keeps (hw.mono rfl) h_s) (hw.mono rfl))))); (exact h_s)]))

theorem execDomainTransferTimeout_keeps {W : Nat} {z : State} {orig : ℕ} {s : State} (hw : Within 0x1000000 W) (h_s : Keeps W z s) : KeepsOut W z (execDomainTransferTimeout orig s) := by
  unfold execDomainTransferTimeout
  (try dsimp only)
  exact (KeepsOut.onUnit (State.xferDrop_keeps (hw.mono rfl) h_s))

theorem execNotificationAck_keeps {W : Nat} {z : State} {seg : ℕ} {mac : ℕ} {body : List Byte} {s : State} (hw : Within 0x1fffffff7ffffff6 W) (h_s : Keeps W z s) : KeepsOut W z (execNotificationAck seg mac body s) := by
  unfold execNotificationAck
  (try dsimp only)
  exact (KeepsOut.onUnit (State.takeFrame_keeps (hw.mono rfl) h_s))

theorem execNotificationResend_keeps {W : Nat} {z : State} {slot : ℕ} {tag : ℕ} {s : State} (hw : Within 0x2000002 W) (h_s : Keeps W z s) : KeepsOut W z (execNotificationResend slot tag s) := by
  unfold execNotificationResend
  (try dsimp only)
  exact (KeepsOut.onUnit (by split <;> [(exact h_s); (exact (Keeps.set_notices (hw.mono rfl) (State.sendAll_keeps (hw.mono rfl) h_s)))]))

theorem State.call_keeps {W : Nat} {z : State} {s : State} {c : Cmd} (hw : Within 0x1fffffff7ffffff6 W) (h_s : Keeps W z s) : Keeps W z (State.call s c) := by
  unfold State.call
  (try dsimp only)
  exact (Keeps.ite (State.dictTake_keeps (hw.mono rfl) h_s) h_s)

theorem execWarmreset_keeps {W : Nat} {z : State} {c : Caller} {val : ℕ} {s : State} (hw : Within 0x1fffffff7ffffff6 W) (h_s : Keeps W z s) : KeepsOut W z (execWarmreset c val s) := by
  unfold execWarmreset
  (try dsimp only)
  exact (KeepsOut.onUnit (State.call_keeps (hw.mono rfl) h_s))

theorem execTilereset_keeps {W : Nat} {z : State} {c : Caller} {val : ℕ} {s : State} (hw : Within 0x1fffffff7ffffff6 W) (h_s : Keeps W z s) : KeepsOut W z (execTilereset c val s) := by
  unfold execTilereset
  (try dsimp only)
  exact (KeepsOut.onUnit (State.call_keeps (hw.mono rfl) h_s))

theorem execEnterStandby_keeps {W : Nat} {z : State} {c : Caller} {s : State} (hw : Within 0x1fffffff7ffffff6 W) (h_s : Keeps W z s) : KeepsOut W z (execEnterStandby c s) := by
  unfold execEnterStandby
  (try dsimp only)
  exact (KeepsOut.onUnit (State.call_keeps (hw.mono rfl) h_s))

theorem execEnterOperational_keeps {W : Nat} {z : State} {c : Caller} {s : State} (hw : Within 0x1fffffff7ffffff6 W) (h_s : Keeps W z s) : KeepsOut W z (execEnterOperational c s) := by
  unfold execEnterOperational
  (try dsimp only)
  exact (KeepsOut.onUnit (State.call_keeps (hw.mono rfl) h_s))

theorem execEpochcancel_keeps {W : Nat} {z : State} {c : Caller} {seq : ℕ} {s : State} (hw : Within 0x1fffffff7ffffff6 W) (h_s : Keeps W z s) : KeepsOut W z (execEpochcancel c seq s) := by
  unfold execEpochcancel
  (try dsimp only)
  exact (KeepsOut.onUnit (State.call_keeps (hw.mono rfl) h_s))

theorem execBatch_keeps {W : Nat} {z : State} {c : Caller} {apply : Option ℕ} {entries : List (ℕ × ℕ)} {s : State} (hw : Within 0x1fffffff7ffffff6 W) (h_s : Keeps W z s) : KeepsOut W z (execBatch c apply entries s) := by
  unfold execBatch
  (try dsimp only)
  exact (KeepsOut.onUnit (State.call_keeps (hw.mono rfl) h_s))

theorem execDebug_keeps {W : Nat} {z : State} {c : Caller} {space : ℕ} {write : Bool} {addr : ℕ} {n : ℕ} {data : List Byte} {s : State} (hw : Within 0x1fffffff7ffffff6 W) (h_s : Keeps W z s) : KeepsOut W z (execDebug c space write addr n data s) := by
  unfold execDebug
  (try dsimp only)
  exact (KeepsOut.onUnit (State.call_keeps (hw.mono rfl) h_s))

theorem execLockClaim_keeps {W : Nat} {z : State} {c : Caller} {val : ℕ} {s : State} (hw : Within 0x1fffffff7ffffff6 W) (h_s : Keeps W z s) : KeepsOut W z (execLockClaim c val s) := by
  unfold execLockClaim
  (try dsimp only)
  exact (KeepsOut.onUnit (State.call_keeps (hw.mono rfl) h_s))

theorem execLockLapse_keeps {W : Nat} {z : State} {s : State} (hw : Within 0x180000001000000 W) (h_s : Keeps W z s) : KeepsOut W z (execLockLapse s) := by
  unfold execLockLapse
  (try dsimp only)
  exact (KeepsOut.next (Keeps.ite h_s (State.journal_keeps (hw.mono rfl) (State.wr_keeps h_s (hw.mono rfl)))))

theorem execPrecedence_keeps {W : Nat} {z : State} {c : Caller} {val : ℕ} {s : State} (hw : Within 0x1fffffff7ffffff6 W) (h_s : Keeps W z s) : KeepsOut W z (execPrecedence c val s) := by
  unfold execPrecedence
  (try dsimp only)
  exact (KeepsOut.onUnit (State.call_keeps (hw.mono rfl) h_s))

theorem execSwclear_keeps {W : Nat} {z : State} {c : Caller} {val : ℕ} {s : State} (hw : Within 0x1fffffff7ffffff6 W) (h_s : Keeps W z s) : KeepsOut W z (execSwclear c val s) := by
  unfold execSwclear
  (try dsimp only)
  exact (KeepsOut.onUnit (State.call_keeps (hw.mono rfl) h_s))

theorem execCknow_keeps {W : Nat} {z : State} {c : Caller} {val : ℕ} {s : State} (hw : Within 0x1fffffff7ffffff6 W) (h_s : Keeps W z s) : KeepsOut W z (execCknow c val s) := by
  unfold execCknow
  (try dsimp only)
  exact (KeepsOut.onUnit (State.call_keeps (hw.mono rfl) h_s))

theorem execCheckpointTimer_keeps {W : Nat} {z : State} {s : State} (hw : Within 0x100000001000000 W) (h_s : Keeps W z s) : KeepsOut W z (execCheckpointTimer s) := by
  unfold execCheckpointTimer
  (try dsimp only)
  exact (KeepsOut.next (Keeps.ite (State.ckStart_keeps (hw.mono rfl) h_s) h_s))

theorem execCheckpointDone_keeps {W : Nat} {z : State} {ok : Bool} {s : State} (hw : Within 0x1fdffeef13fffe42 W) (h_s : Keeps W z s) : KeepsOut W z (execCheckpointDone ok s) := by
  unfold execCheckpointDone
  (try dsimp only)
  exact (KeepsOut.next (by split <;> [(exact h_s); (exact (Keeps.ite (State.ckStart_keeps (hw.mono rfl) (Keeps.ite (State.warmNow_keeps (hw.mono rfl) (State.notify_keeps (hw.mono rfl) (State.wr_keeps (State.wr_keeps (State.wrb_keeps (hw.mono rfl) (State.spiIdle_keeps (hw.mono rfl) (State.tndMod_keeps (hw.mono rfl) (Keeps.ite (State.send_keeps (hw.mono rfl) (State.wr2_keeps (hw.mono rfl) (State.ckptWrite_keeps (hw.mono rfl) h_s) (hw.mono rfl) (hw.mono rfl))) (State.pulse_keeps (hw.mono rfl) h_s)))) (hw.mono rfl)) (hw.mono rfl)) (hw.mono rfl)))) (State.notify_keeps (hw.mono rfl) (State.wr_keeps (State.wr_keeps (State.wrb_keeps (hw.mono rfl) (State.spiIdle_keeps (hw.mono rfl) (State.tndMod_keeps (hw.mono rfl) (Keeps.ite (State.send_keeps (hw.mono rfl) (State.wr2_keeps (hw.mono rfl) (State.ckptWrite_keeps (hw.mono rfl) h_s) (hw.mono rfl) (hw.mono rfl))) (State.pulse_keeps (hw.mono rfl) h_s)))) (hw.mono rfl)) (hw.mono rfl)) (hw.mono rfl))))) (Keeps.ite (State.warmNow_keeps (hw.mono rfl) (State.notify_keeps (hw.mono rfl) (State.wr_keeps (State.wr_keeps (State.wrb_keeps (hw.mono rfl) (State.spiIdle_keeps (hw.mono rfl) (State.tndMod_keeps (hw.mono rfl) (Keeps.ite (State.send_keeps (hw.mono rfl) (State.wr2_keeps (hw.mono rfl) (State.ckptWrite_keeps (hw.mono rfl) h_s) (hw.mono rfl) (hw.mono rfl))) (State.pulse_keeps (hw.mono rfl) h_s)))) (hw.mono rfl)) (hw.mono rfl)) (hw.mono rfl)))) (State.notify_keeps (hw.mono rfl) (State.wr_keeps (State.wr_keeps (State.wrb_keeps (hw.mono rfl) (State.spiIdle_keeps (hw.mono rfl) (State.tndMod_keeps (hw.mono rfl) (Keeps.ite (State.send_keeps (hw.mono rfl) (State.wr2_keeps (hw.mono rfl) (State.ckptWrite_keeps (hw.mono rfl) h_s) (hw.mono rfl) (hw.mono rfl))) (State.pulse_keeps (hw.mono rfl) h_s)))) (hw.mono rfl)) (hw.mono rfl)) (hw.mono rfl))))))]))

theorem execTenderRestart_keeps {W : Nat} {z : State} {s : State} (hw : Within 0x1fffffff7ffffff6 W) (h_s : Keeps W z s) : KeepsOut W z (execTenderRestart s) := by
  unfold execTenderRestart
  (try dsimp only)
  exact (KeepsOut.next (Keeps.ite h_s (State.tenderRestart_keeps (hw.mono rfl) (State.pulse_keeps (hw.mono rfl) (State.when_keeps h_s (fun _ h1 => (State.bootMod_keeps (hw.mono rfl) (State.wr_keeps (State.wr_keeps h1 (hw.mono rfl)) (hw.mono rfl)))))))))

theorem execTenderRestartDone_keeps {W : Nat} {z : State} {s : State} (hw : Within 0x11c8f0aa1300a602 W) (h_s : Keeps W z s) : KeepsOut W z (execTenderRestartDone s) := by
  unfold execTenderRestartDone
  (try dsimp only)
  exact (KeepsOut.next (Keeps.ite (State.dumpsGo_keeps (hw.mono rfl) (State.dumpAgain_keeps (hw.mono rfl) (State.dumpAgain_keeps (hw.mono rfl) (State.journal_keeps (hw.mono rfl) (State.tndMod_keeps (hw.mono rfl) h_s))))) h_s))

theorem execImageSegmentWrite_keeps {W : Nat} {z : State} {c : Caller} {b : Bool} {off : ℕ} {last : Bool} {data : List Byte} {s : State} (hw : Within 0x1fffffff7ffffff6 W) (h_s : Keeps W z s) : KeepsOut W z (execImageSegmentWrite c b off last data s) := by
  unfold execImageSegmentWrite
  (try dsimp only)
  exact (KeepsOut.onUnit (State.call_keeps (hw.mono rfl) h_s))

theorem State.segProgram_keeps {W : Nat} {z : State} {s : State} {x : Staged} (hw : Within 0x100000000 W) (h_s : Keeps W z s) : Keeps W z (State.segProgram s x) := by
  unfold State.segProgram
  (try dsimp only)
  exact (State.bootMod_keeps (hw.mono rfl) (State.setFlash_keeps (hw.mono rfl) h_s))

theorem State.segRetry_keeps {W : Nat} {z : State} {s : State} (hw : Within 0x1fffffff7ffffff6 W) (h_s : Keeps W z s) : Keeps W z (State.segRetry s) := by
  unfold State.segRetry
  (try dsimp only)
  exact (by split <;> [(exact (by split <;> [(exact (Keeps.ite (State.dictNext_keeps (hw.mono rfl) (State.imageSegment_keeps (hw.mono rfl) (State.tndMod_keeps (hw.mono rfl) h_s))) h_s)); (exact h_s)])); (exact h_s)])

theorem execFlashProgramDone_keeps {W : Nat} {z : State} {b : Bool} {ok : Bool} {s : State} (hw : Within 0x1fffffff7ffffff6 W) (h_s : Keeps W z s) : KeepsOut W z (execFlashProgramDone b ok s) := by
  unfold execFlashProgramDone
  (try dsimp only)
  exact (KeepsOut.next (by split <;> [(exact h_s); (exact (Keeps.ite (State.segRetry_keeps (hw.mono rfl) (State.spiIdle_keeps (hw.mono rfl) (State.bootMod_keeps (hw.mono rfl) (State.segProgram_keeps (hw.mono rfl) h_s)))) (State.segRetry_keeps (hw.mono rfl) (State.pulse_keeps (hw.mono rfl) (State.wr_keeps (State.spiIdle_keeps (hw.mono rfl) (State.bootMod_keeps (hw.mono rfl) h_s)) (hw.mono rfl))))))]))

theorem execVerifya_keeps {W : Nat} {z : State} {c : Caller} {s : State} (hw : Within 0x1fffffff7ffffff6 W) (h_s : Keeps W z s) : KeepsOut W z (execVerifya c s) := by
  unfold execVerifya
  (try dsimp only)
  exact (KeepsOut.onUnit (State.call_keeps (hw.mono rfl) h_s))

theorem execVerifyb_keeps {W : Nat} {z : State} {c : Caller} {s : State} (hw : Within 0x1fffffff7ffffff6 W) (h_s : Keeps W z s) : KeepsOut W z (execVerifyb c s) := by
  unfold execVerifyb
  (try dsimp only)
  exact (KeepsOut.onUnit (State.call_keeps (hw.mono rfl) h_s))

theorem execActivatea_keeps {W : Nat} {z : State} {c : Caller} {s : State} (hw : Within 0x1fffffff7ffffff6 W) (h_s : Keeps W z s) : KeepsOut W z (execActivatea c s) := by
  unfold execActivatea
  (try dsimp only)
  exact (KeepsOut.onUnit (State.call_keeps (hw.mono rfl) h_s))

theorem execActivateb_keeps {W : Nat} {z : State} {c : Caller} {s : State} (hw : Within 0x1fffffff7ffffff6 W) (h_s : Keeps W z s) : KeepsOut W z (execActivateb c s) := by
  unfold execActivateb
  (try dsimp only)
  exact (KeepsOut.onUnit (State.call_keeps (hw.mono rfl) h_s))

theorem execCommit_keeps {W : Nat} {z : State} {c : Caller} {s : State} (hw : Within 0x1fffffff7ffffff6 W) (h_s : Keeps W z s) : KeepsOut W z (execCommit c s) := by
  unfold execCommit
  (try dsimp only)
  exact (KeepsOut.onUnit (State.call_keeps (hw.mono rfl) h_s))

theorem execBootnowa_keeps {W : Nat} {z : State} {c : Caller} {v : ImageCheck} {s : State} (hw : Within 0x1fffffff7ffffff6 W) (h_s : Keeps W z s) : KeepsOut W z (execBootnowa c v s) := by
  unfold execBootnowa
  (try dsimp only)
  exact (KeepsOut.onUnit (State.call_keeps (hw.mono rfl) h_s))

theorem execBootnowb_keeps {W : Nat} {z : State} {c : Caller} {v : ImageCheck} {s : State} (hw : Within 0x1fffffff7ffffff6 W) (h_s : Keeps W z s) : KeepsOut W z (execBootnowb c v s) := by
  unfold execBootnowb
  (try dsimp only)
  exact (KeepsOut.onUnit (State.call_keeps (hw.mono rfl) h_s))

theorem execSvn_keeps {W : Nat} {z : State} {c : Caller} {val : ℕ} {va : ImageCheck} {vb : ImageCheck} {s : State} (hw : Within 0x1fffffff7ffffff6 W) (h_s : Keeps W z s) : KeepsOut W z (execSvn c val va vb s) := by
  unfold execSvn
  (try dsimp only)
  exact (KeepsOut.onUnit (State.call_keeps (hw.mono rfl) h_s))

theorem execChallenge_keeps {W : Nat} {z : State} {c : Caller} {s : State} (hw : Within 0x1fffffff7ffffff6 W) (h_s : Keeps W z s) : KeepsOut W z (execChallenge c s) := by
  unfold execChallenge
  (try dsimp only)
  exact (KeepsOut.onUnit (State.call_keeps (hw.mono rfl) h_s))

theorem execUnlock_keeps {W : Nat} {z : State} {c : Caller} {bytes : List Byte} {good : Bool} {s : State} (hw : Within 0x1fffffff7ffffff6 W) (h_s : Keeps W z s) : KeepsOut W z (execUnlock c bytes good s) := by
  unfold execUnlock
  (try dsimp only)
  exact (KeepsOut.onUnit (State.call_keeps (hw.mono rfl) h_s))

theorem execRelock_keeps {W : Nat} {z : State} {c : Caller} {s : State} (hw : Within 0x1fffffff7ffffff6 W) (h_s : Keeps W z s) : KeepsOut W z (execRelock c s) := by
  unfold execRelock
  (try dsimp only)
  exact (KeepsOut.onUnit (State.call_keeps (hw.mono rfl) h_s))

theorem execRetire_keeps {W : Nat} {z : State} {c : Caller} {val : ℕ} {s : State} (hw : Within 0x1fffffff7ffffff6 W) (h_s : Keeps W z s) : KeepsOut W z (execRetire c val s) := by
  unfold execRetire
  (try dsimp only)
  exact (KeepsOut.onUnit (State.call_keeps (hw.mono rfl) h_s))

theorem State.debugAnswer_keeps {W : Nat} {z : State} {s : State} {m : Msg} (hw : Within 0x1fffffff7ffffff6 W) (h_s : Keeps W z s) : Keeps W z (State.debugAnswer s m) := by
  unfold State.debugAnswer
  (try dsimp only)
  exact (by split <;> [(exact h_s); (exact (Keeps.ite h_s (Keeps.ite (State.tndMod_keeps (hw.mono rfl) h_s) (State.execEnd_keeps (hw.mono rfl) (State.tndMod_keeps (hw.mono rfl) h_s)))))])

/-! ### Tap -/

theorem State.tapIr_keeps {W : Nat} {z : State} {s : State} {ir : ℕ} {d : PinDrive} (hw : Within 0x200000000 W) (h_s : Keeps W z s) : Keeps W z (State.tapIr s ir d) := by
  unfold State.tapIr
  (try dsimp only)
  exact (Keeps.set_tap (hw.mono rfl) h_s)

theorem State.chainScan_keeps {W : Nat} {z : State} {s : State} {pins : ℕ} {upd : ℕ} (hw : Within 0x200000002 W) (h_s : Keeps W z s) : Keeps W z (State.chainScan s pins upd) := by
  unfold State.chainScan
  (try dsimp only)
  exact (State.send_keeps (hw.mono rfl) (Keeps.set_tap (hw.mono rfl) h_s))

theorem State.bypassScan_keeps {W : Nat} {z : State} {s : State} {tdi : ℕ} {n : ℕ} (hw : Within 0x200000002 W) (h_s : Keeps W z s) : Keeps W z (State.bypassScan s tdi n) := by
  unfold State.bypassScan
  (try dsimp only)
  exact (State.send_keeps (hw.mono rfl) (Keeps.set_tap (hw.mono rfl) h_s))

theorem execTapReset_keeps {W : Nat} {z : State} {s : State} (hw : Within 0x200000000 W) (h_s : Keeps W z s) : KeepsOut W z (execTapReset s) := by
  unfold execTapReset
  (try dsimp only)
  exact (KeepsOut.next (Keeps.ite (State.tapIr_keeps (hw.mono rfl) h_s) h_s))

theorem execExtest_keeps {W : Nat} {z : State} {pins : ℕ} {upd : ℕ} {s : State} (hw : Within 0x200000002 W) (h_s : Keeps W z s) : KeepsOut W z (execExtest pins upd s) := by
  unfold execExtest
  (try dsimp only)
  exact (KeepsOut.onUnit (Keeps.ite (State.chainScan_keeps (hw.mono rfl) (State.tapIr_keeps (hw.mono rfl) h_s)) h_s))

theorem execIdcode_keeps {W : Nat} {z : State} {s : State} (hw : Within 0x200000002 W) (h_s : Keeps W z s) : KeepsOut W z (execIdcode s) := by
  unfold execIdcode
  (try dsimp only)
  exact (KeepsOut.next (Keeps.ite (State.send_keeps (hw.mono rfl) (State.tapIr_keeps (hw.mono rfl) h_s)) h_s))

theorem execSamplePreload_keeps {W : Nat} {z : State} {pins : ℕ} {upd : ℕ} {s : State} (hw : Within 0x200000002 W) (h_s : Keeps W z s) : KeepsOut W z (execSamplePreload pins upd s) := by
  unfold execSamplePreload
  (try dsimp only)
  exact (KeepsOut.onUnit (Keeps.ite (State.chainScan_keeps (hw.mono rfl) (State.tapIr_keeps (hw.mono rfl) h_s)) h_s))

theorem execClamp_keeps {W : Nat} {z : State} {tdi : ℕ} {n : ℕ} {s : State} (hw : Within 0x200000002 W) (h_s : Keeps W z s) : KeepsOut W z (execClamp tdi n s) := by
  unfold execClamp
  (try dsimp only)
  exact (KeepsOut.onUnit (Keeps.ite (State.bypassScan_keeps (hw.mono rfl) (State.tapIr_keeps (hw.mono rfl) h_s)) h_s))

theorem execHighz_keeps {W : Nat} {z : State} {tdi : ℕ} {n : ℕ} {s : State} (hw : Within 0x200000002 W) (h_s : Keeps W z s) : KeepsOut W z (execHighz tdi n s) := by
  unfold execHighz
  (try dsimp only)
  exact (KeepsOut.onUnit (Keeps.ite (State.bypassScan_keeps (hw.mono rfl) (State.tapIr_keeps (hw.mono rfl) h_s)) h_s))

theorem execBypass_keeps {W : Nat} {z : State} {code : ℕ} {tdi : ℕ} {n : ℕ} {s : State} (hw : Within 0x200000002 W) (h_s : Keeps W z s) : KeepsOut W z (execBypass code tdi n s) := by
  unfold execBypass
  (try dsimp only)
  exact (KeepsOut.onUnit (Keeps.ite (State.bypassScan_keeps (hw.mono rfl) (State.tapIr_keeps (hw.mono rfl) h_s)) h_s))

theorem State.sysaccStart_keeps {W : Nat} {z : State} {s : State} {dr : ℕ} (hw : Within 0x1ffffffe53fffff2 W) (h_s : Keeps W z s) : Keeps W z (State.sysaccStart s dr) := by
  unfold State.sysaccStart
  (try dsimp only)
  exact (Keeps.ite h_s (Keeps.ite (Keeps.set_tap (hw.mono rfl) h_s) (Keeps.ite (Keeps.set_tap (hw.mono rfl) h_s) (Keeps.ite (Keeps.ite (Keeps.set_tap (hw.mono rfl) h_s) (Keeps.set_tap (hw.mono rfl) (State.debugReg_keeps (hw.mono rfl) h_s))) (Keeps.ite (Keeps.set_tap (hw.mono rfl) (State.debugMem_keeps (hw.mono rfl) h_s)) (Keeps.set_tap (hw.mono rfl) (State.debugMem_keeps (hw.mono rfl) h_s)))))))

theorem execSysacc_keeps {W : Nat} {z : State} {dr : ℕ} {s : State} (hw : Within 0x1ffffffe53fffff2 W) (h_s : Keeps W z s) : KeepsOut W z (execSysacc dr s) := by
  unfold execSysacc
  (try dsimp only)
  exact (KeepsOut.onUnit (Keeps.ite (State.sysaccStart_keeps (hw.mono rfl) (State.send_keeps (hw.mono rfl) (State.tapIr_keeps (hw.mono rfl) h_s))) h_s))

theorem State.sysaccAnswer_keeps {W : Nat} {z : State} {s : State} {m : Msg} (hw : Within 0x200000000 W) (h_s : Keeps W z s) : Keeps W z (State.sysaccAnswer s m) := by
  unfold State.sysaccAnswer
  (try dsimp only)
  exact (Keeps.ite h_s (Keeps.set_tap (hw.mono rfl) h_s))

theorem execJtagChallenge_keeps {W : Nat} {z : State} {s : State} (hw : Within 0x300000006 W) (h_s : Keeps W z s) : KeepsOut W z (execJtagChallenge s) := by
  unfold execJtagChallenge
  (try dsimp only)
  exact (KeepsOut.next (Keeps.ite (State.send_keeps (hw.mono rfl) (State.challenge_keeps (hw.mono rfl) (State.tapIr_keeps (hw.mono rfl) h_s))) h_s))

theorem execJtagUnlock_keeps {W : Nat} {z : State} {bits : ℕ} {good : Bool} {s : State} (hw : Within 0x300000301000000 W) (h_s : Keeps W z s) : KeepsOut W z (execJtagUnlock bits good s) := by
  unfold execJtagUnlock
  (try dsimp only)
  exact (KeepsOut.onUnit (Keeps.ite (State.unlock_keeps (hw.mono rfl) (State.tapIr_keeps (hw.mono rfl) h_s)) h_s))

/-! ### Compare -/

theorem State.fireAt_keeps {W : Nat} {z : State} {s : State} {t : ℕ} {tick : Bool} (hw : Within 0x1fffffff7ffffff6 W) (h_s : Keeps W z s) : Keeps W z (State.fireAt s t tick) := by
  unfold State.fireAt
  (try dsimp only)
  exact (State.rotationsDue_keeps (hw.mono rfl) (State.commitsDue_keeps (hw.mono rfl) (Keeps.ite (State.epochsTick_keeps (hw.mono rfl) (Keeps.ite (State.boundary_keeps (hw.mono rfl) h_s) h_s)) (State.epochsApply_keeps (hw.mono rfl) (Keeps.ite (State.boundary_keeps (hw.mono rfl) h_s) h_s)))))

theorem State.fireLoop_keeps {W : Nat} {z : State} {a : ℕ} {a1 : State} (hw : Within 0x1fffffff7ffffff6 W) (h_a1 : Keeps W z a1) : Keeps W z (State.fireLoop a a1) := by
  induction a generalizing a1 with
  | zero =>
    unfold State.fireLoop
    (try dsimp only)
    exact h_a1
  | succ a ih =>
    unfold State.fireLoop
    (try dsimp only)
    exact (Keeps.ite (ih (Keeps.ite (State.fireAt_keeps (hw.mono rfl) h_a1) (State.fireAt_keeps (hw.mono rfl) h_a1))) h_a1)

theorem State.refillNow_keeps {W : Nat} {z : State} {s : State} (hw : Within 0x188f70a81231ae02 W) (h_s : Keeps W z s) : Keeps W z (State.refillNow s) := by
  unfold State.refillNow
  (try dsimp only)
  exact (Keeps.ite h_s (State.tick256_keeps (hw.mono rfl) h_s))

theorem State.fireDue_keeps {W : Nat} {z : State} {s : State} (hw : Within 0x1fffffff7ffffff6 W) (h_s : Keeps W z s) : Keeps W z (State.fireDue s) := by
  unfold State.fireDue
  (try dsimp only)
  exact (State.refillNow_keeps (hw.mono rfl) (State.ftMod_keeps (hw.mono rfl) (State.gatesNow_keeps (hw.mono rfl) (State.fireLoop_keeps (hw.mono rfl) h_s))))

theorem State.fireJump_keeps {W : Nat} {z : State} {s : State} (hw : Within 0x1fffffff7ffffff6 W) (h_s : Keeps W z s) : Keeps W z (State.fireJump s) := by
  unfold State.fireJump
  (try dsimp only)
  exact (Keeps.ite (State.fireDue_keeps (hw.mono rfl) h_s) h_s)

theorem State.holdLimit_keeps {W : Nat} {z : State} {s : State} (hw : Within 0x200 W) (h_s : Keeps W z s) : Keeps W z (State.holdLimit s) := by
  unfold State.holdLimit
  (try dsimp only)
  exact (State.when_keeps h_s (fun _ h1 => (State.level_keeps (hw.mono rfl) h1)))

theorem State.passTicks_keeps {W : Nat} {z : State} {s : State} {k : ℕ} (hw : Within 0x1fffffff7ffffff6 W) (h_s : Keeps W z s) : Keeps W z (State.passTicks s k) := by
  unfold State.passTicks
  (try dsimp only)
  exact (Keeps.ite (State.fireDue_keeps (hw.mono rfl) (State.holdLimit_keeps (hw.mono rfl) (State.timeRuns_keeps (hw.mono rfl) (Keeps.ite h_s (State.when_keeps (State.timeRuns_keeps (hw.mono rfl) h_s) (fun _ h1 => (State.refillNow_keeps (hw.mono rfl) h1))))))) (State.holdLimit_keeps (hw.mono rfl) (State.timeRuns_keeps (hw.mono rfl) (Keeps.ite h_s (State.when_keeps (State.timeRuns_keeps (hw.mono rfl) h_s) (fun _ h2 => (State.refillNow_keeps (hw.mono rfl) h2)))))))

theorem State.runTo_keeps {W : Nat} {z : State} {s : State} {t : ℕ} (hw : Within 0x1fffffff7ffffff6 W) (h_s : Keeps W z s) : Keeps W z (State.runTo s t) := by
  unfold State.runTo
  (try dsimp only)
  exact (State.passTicks_keeps (hw.mono rfl) h_s)

theorem State.reach_keeps {W : Nat} {z : State} {s : State} {t : Option ℕ} (hw : Within 0x1fffffff7ffffff6 W) (h_s : Keeps W z s) : Keeps W z (State.reach s t) := by
  unfold State.reach
  (try dsimp only)
  exact (by split <;> [(exact (Keeps.ite (State.runTo_keeps (hw.mono rfl) h_s) h_s)); (exact h_s)])

theorem execComparatorFire_keeps {W : Nat} {z : State} {s : State} (hw : Within 0x1fffffff7ffffff6 W) (h_s : Keeps W z s) : KeepsOut W z (execComparatorFire s) := by
  unfold execComparatorFire
  (try dsimp only)
  exact (KeepsOut.next (State.reach_keeps (hw.mono rfl) h_s))

theorem execConfigEpochApply_keeps {W : Nat} {z : State} {s : State} (hw : Within 0x1fffffff7ffffff6 W) (h_s : Keeps W z s) : KeepsOut W z (execConfigEpochApply s) := by
  unfold execConfigEpochApply
  (try dsimp only)
  exact (KeepsOut.next (State.reach_keeps (hw.mono rfl) h_s))

theorem execMapTimedApply_keeps {W : Nat} {z : State} {s : State} (hw : Within 0x1fffffff7ffffff6 W) (h_s : Keeps W z s) : KeepsOut W z (execMapTimedApply s) := by
  unfold execMapTimedApply
  (try dsimp only)
  exact (KeepsOut.next (State.reach_keeps (hw.mono rfl) h_s))

theorem execChkEpochApply_keeps {W : Nat} {z : State} {s : State} (hw : Within 0x1fffffff7ffffff6 W) (h_s : Keeps W z s) : KeepsOut W z (execChkEpochApply s) := by
  unfold execChkEpochApply
  (try dsimp only)
  exact (KeepsOut.next (State.reach_keeps (hw.mono rfl) h_s))

theorem execRotationActivate_keeps {W : Nat} {z : State} {x : ℕ} {s : State} (hw : Within 0x1fffffff7ffffff6 W) (h_s : Keeps W z s) : KeepsOut W z (execRotationActivate x s) := by
  unfold execRotationActivate
  (try dsimp only)
  exact (KeepsOut.onUnit (State.reach_keeps (hw.mono rfl) h_s))

theorem execRotationCycleStart_keeps {W : Nat} {z : State} {x : ℕ} {s : State} (hw : Within 0x1fffffff7ffffff6 W) (h_s : Keeps W z s) : KeepsOut W z (execRotationCycleStart x s) := by
  unfold execRotationCycleStart
  (try dsimp only)
  exact (KeepsOut.onUnit (State.reach_keeps (hw.mono rfl) h_s))

theorem execGateChange_keeps {W : Nat} {z : State} {x : ℕ} {s : State} (hw : Within 0x1fffffff7ffffff6 W) (h_s : Keeps W z s) : KeepsOut W z (execGateChange x s) := by
  unfold execGateChange
  (try dsimp only)
  exact (KeepsOut.onUnit (State.reach_keeps (hw.mono rfl) h_s))

theorem execTokenRefill_keeps {W : Nat} {z : State} {err : ℕ} {idx : ℕ} {s : State} (hw : Within 0x1fffffff7ffffff6 W) (h_s : Keeps W z s) : KeepsOut W z (execTokenRefill err idx s) := by
  unfold execTokenRefill
  (try dsimp only)
  exact (KeepsOut.next (State.reach_keeps (hw.mono rfl) (State.weirError_keeps (hw.mono rfl) h_s)))

theorem execFlumeSnapshot_keeps {W : Nat} {z : State} {errs : List (ℕ × Bool)} {s : State} (hw : Within 0x1fffffff7ffffff6 W) (h_s : Keeps W z s) : KeepsOut W z (execFlumeSnapshot errs s) := by
  unfold execFlumeSnapshot
  (try dsimp only)
  exact (KeepsOut.onUnit (State.reach_keeps (hw.mono rfl) (Keeps.ite (State.flmErrs_keeps (hw.mono rfl) h_s) h_s)))

theorem execPpsEdge_keeps {W : Nat} {z : State} {inB : Bool} {t : ℕ} {high : ℕ} {s : State} (hw : Within 0x1fffffff7ffffff6 W) (h_s : Keeps W z s) : KeepsOut W z (execPpsEdge inB t high s) := by
  unfold execPpsEdge
  (try dsimp only)
  exact (KeepsOut.next (State.fireJump_keeps (hw.mono rfl) (State.ppsEdge_keeps (hw.mono rfl) h_s)))

theorem execPpsLoss_keeps {W : Nat} {z : State} {inB : Bool} {s : State} (hw : Within 0x1fffffff7ffffff6 W) (h_s : Keeps W z s) : KeepsOut W z (execPpsLoss inB s) := by
  unfold execPpsLoss
  (try dsimp only)
  exact (KeepsOut.next (State.fireJump_keeps (hw.mono rfl) (State.ppsLost_keeps (hw.mono rfl) h_s)))

theorem execTodMessage_keeps {W : Nat} {z : State} {inB : Bool} {bytes : List Byte} {framed : Bool} {t : ℕ} {s : State} (hw : Within 0x1fffffff7ffffff6 W) (h_s : Keeps W z s) : KeepsOut W z (execTodMessage inB bytes framed t s) := by
  unfold execTodMessage
  (try dsimp only)
  exact (KeepsOut.next (State.fireJump_keeps (hw.mono rfl) (State.tod_keeps (hw.mono rfl) h_s)))

theorem execTodByteGap_keeps {W : Nat} {z : State} {_inB : Bool} {s : State} (hw : Within 0x10000000000 W) (h_s : Keeps W z s) : KeepsOut W z (execTodByteGap _inB s) := by
  unfold execTodByteGap
  (try dsimp only)
  exact (KeepsOut.next (Keeps.ite h_s (State.todBad_keeps (hw.mono rfl) h_s)))

theorem execFtSetarm_keeps {W : Nat} {z : State} {val : ℕ} {s : State} (hw : Within 0x1fffffff7ffffff6 W) (h_s : Keeps W z s) : KeepsOut W z (execFtSetarm val s) := by
  unfold execFtSetarm
  (try dsimp only)
  exact (KeepsOut.onUnit (Keeps.ite h_s (State.fireJump_keeps (hw.mono rfl) (State.ftCtrl_keeps (hw.mono rfl) h_s))))

theorem execFtForcestep_keeps {W : Nat} {z : State} {val : ℕ} {s : State} (hw : Within 0x1fffffff7ffffff6 W) (h_s : Keeps W z s) : KeepsOut W z (execFtForcestep val s) := by
  unfold execFtForcestep
  (try dsimp only)
  exact (KeepsOut.onUnit (Keeps.ite h_s (State.fireJump_keeps (hw.mono rfl) (State.ftCtrl_keeps (hw.mono rfl) h_s))))

theorem execHoldoverLimit_keeps {W : Nat} {z : State} {s : State} (hw : Within 0x1fffffff7ffffff6 W) (h_s : Keeps W z s) : KeepsOut W z (execHoldoverLimit s) := by
  unfold execHoldoverLimit
  (try dsimp only)
  exact (KeepsOut.next (Keeps.ite (State.passTicks_keeps (hw.mono rfl) h_s) h_s))

theorem execRegisterWrite_keeps {W : Nat} {z : State} {node : ℕ} {port : ℕ} {addr : RegAddr} {val : ℕ} {ev : ℕ} {s : State} (hw : Within 0x1fffffff7ffffff6 W) (h_s : Keeps W z s) : KeepsOut W z (execRegisterWrite node port addr val ev s) := by
  unfold execRegisterWrite
  (try dsimp only)
  exact (KeepsOut.onUnit (Keeps.ite h_s (Keeps.ite (State.fireJump_keeps (hw.mono rfl) (Keeps.ite (State.writeWide_keeps (hw.mono rfl) (State.hostGate_keeps (hw.mono rfl) h_s)) (State.writeAddr_keeps (hw.mono rfl) (State.hostGate_keeps (hw.mono rfl) h_s)))) (State.hostGate_keeps (hw.mono rfl) h_s))))

theorem State.answersIn_keeps {W : Nat} {z : State} {s : State} {ms : List Msg} (hw : Within 0x1fffffff7ffffff6 W) (h_s : Keeps W z s) : Keeps W z (State.answersIn s ms) := by
  unfold State.answersIn
  (try dsimp only)
  exact (State.each_keeps h_s (fun _ h1 _ => (Keeps.ite (State.sysaccAnswer_keeps (hw.mono rfl) h1) (State.debugAnswer_keeps (hw.mono rfl) h1))))

theorem State.regServe_keeps {W : Nat} {z : State} {s : State} {m : Msg} (hw : Within 0x1fffffff7ffffff6 W) (h_s : Keeps W z s) : Keeps W z (State.regServe s m) := by
  unfold State.regServe
  (try dsimp only)
  exact (Keeps.ite (State.fireJump_keeps (hw.mono rfl) (Keeps.ite (State.reply_keeps (hw.mono rfl) (Keeps.ite (Keeps.ite2 (State.innerCheck_keeps (hw.mono rfl) h_s) h_s) (Keeps.ite (State.writeWide_keeps (hw.mono rfl) (Keeps.ite2 (State.innerCheck_keeps (hw.mono rfl) h_s) h_s)) (State.each_keeps (Keeps.ite2 (State.innerCheck_keeps (hw.mono rfl) h_s) h_s) (fun _ h1 _ => (State.writeAddr_keeps (hw.mono rfl) h1)))))) (Keeps.ite (Keeps.ite2 (State.innerCheck_keeps (hw.mono rfl) h_s) h_s) (Keeps.ite (State.writeWide_keeps (hw.mono rfl) (Keeps.ite2 (State.innerCheck_keeps (hw.mono rfl) h_s) h_s)) (State.each_keeps (Keeps.ite2 (State.innerCheck_keeps (hw.mono rfl) h_s) h_s) (fun _ h2 _ => (State.writeAddr_keeps (hw.mono rfl) h2))))))) (State.answering_keeps (hw.mono rfl) (Keeps.ite2 (Keeps.ite2 (State.innerCheck_keeps (hw.mono rfl) h_s) h_s) (Keeps.ite2 (State.readWide_keeps (hw.mono rfl) (Keeps.ite2 (State.innerCheck_keeps (hw.mono rfl) h_s) h_s)) (State.readBytes_keeps (hw.mono rfl) (Keeps.ite2 (State.innerCheck_keeps (hw.mono rfl) h_s) h_s)))) (fun _ h3 => (State.send_keeps (hw.mono rfl) h3))))

theorem execMessageDepart_keeps {W : Nat} {z : State} {x : ℕ} {s : State} (hw : Within 0x1fffffff7ffffff6 W) (h_s : Keeps W z s) : KeepsOut W z (execMessageDepart x s) := by
  unfold execMessageDepart
  (try dsimp only)
  exact (KeepsOut.onUnit (Keeps.ite h_s (by split <;> [(exact h_s); (exact (by split <;> [(exact (Keeps.ite (Keeps.ite (State.each_keeps (State.answersIn_keeps (hw.mono rfl) (State.depart_keeps (hw.mono rfl) h_s)) (fun _ h1 _ => (State.regServe_keeps (hw.mono rfl) h1))) (State.depart_keeps (hw.mono rfl) h_s)) h_s)); (exact (State.swcMod_keeps (hw.mono rfl) h_s))]))])))

end Sys2Proof.Machine
end

