-- ==== Sys2Proof/Laws/State.lean ====
section
/-! SUPPORT. Each shared update and each field of State: what an update leaves alone, by rfl. -/

namespace Sys2Proof.Machine

@[simp] theorem State.wr_pending (s : State) (f : Fld) (i v : Nat) : (s.wr f i v).pending = s.pending := rfl
@[simp] theorem State.wr_out (s : State) (f : Fld) (i v : Nat) : (s.wr f i v).out = s.out := rfl
@[simp] theorem State.wr_free (s : State) (f : Fld) (i v : Nat) : (s.wr f i v).free = s.free := rfl
@[simp] theorem State.wr_latch (s : State) (f : Fld) (i v : Nat) : (s.wr f i v).latch = s.latch := rfl
@[simp] theorem State.wr_stage (s : State) (f : Fld) (i v : Nat) : (s.wr f i v).stage = s.stage := rfl
@[simp] theorem State.wr_pwr (s : State) (f : Fld) (i v : Nat) : (s.wr f i v).pwr = s.pwr := rfl
@[simp] theorem State.wr_ft (s : State) (f : Fld) (i v : Nat) : (s.wr f i v).ft = s.ft := rfl
@[simp] theorem State.wr_arch (s : State) (f : Fld) (i v : Nat) : (s.wr f i v).arch = s.arch := rfl
@[simp] theorem State.wr_spw (s : State) (f : Fld) (i v : Nat) : (s.wr f i v).spw = s.spw := rfl
@[simp] theorem State.wr_flm (s : State) (f : Fld) (i v : Nat) : (s.wr f i v).flm = s.flm := rfl
@[simp] theorem State.wr_acq (s : State) (f : Fld) (i v : Nat) : (s.wr f i v).acq = s.acq := rfl
@[simp] theorem State.wr_lanes (s : State) (f : Fld) (i v : Nat) : (s.wr f i v).lanes = s.lanes := rfl
@[simp] theorem State.wr_leat (s : State) (f : Fld) (i v : Nat) : (s.wr f i v).leat = s.leat := rfl
@[simp] theorem State.wr_flows (s : State) (f : Fld) (i v : Nat) : (s.wr f i v).flows = s.flows := rfl
@[simp] theorem State.wr_swc (s : State) (f : Fld) (i v : Nat) : (s.wr f i v).swc = s.swc := rfl
@[simp] theorem State.wr_weir (s : State) (f : Fld) (i v : Nat) : (s.wr f i v).weir = s.weir := rfl
@[simp] theorem State.wr_xlt (s : State) (f : Fld) (i v : Nat) : (s.wr f i v).xlt = s.xlt := rfl
@[simp] theorem State.wr_chk (s : State) (f : Fld) (i v : Nat) : (s.wr f i v).chk = s.chk := rfl
@[simp] theorem State.wr_wm (s : State) (f : Fld) (i v : Nat) : (s.wr f i v).wm = s.wm := rfl
@[simp] theorem State.wr_run (s : State) (f : Fld) (i v : Nat) : (s.wr f i v).run = s.run := rfl
@[simp] theorem State.wr_ten (s : State) (f : Fld) (i v : Nat) : (s.wr f i v).ten = s.ten := rfl
@[simp] theorem State.wr_prt (s : State) (f : Fld) (i v : Nat) : (s.wr f i v).prt = s.prt := rfl
@[simp] theorem State.wr_slots (s : State) (f : Fld) (i v : Nat) : (s.wr f i v).slots = s.slots := rfl
@[simp] theorem State.wr_tnd (s : State) (f : Fld) (i v : Nat) : (s.wr f i v).tnd = s.tnd := rfl
@[simp] theorem State.wr_notices (s : State) (f : Fld) (i v : Nat) : (s.wr f i v).notices = s.notices := rfl
@[simp] theorem State.wr_subscr (s : State) (f : Fld) (i v : Nat) : (s.wr f i v).subscr = s.subscr := rfl
@[simp] theorem State.wr_kinds (s : State) (f : Fld) (i v : Nat) : (s.wr f i v).kinds = s.kinds := rfl
@[simp] theorem State.wr_noticeTag (s : State) (f : Fld) (i v : Nat) : (s.wr f i v).noticeTag = s.noticeTag := rfl
@[simp] theorem State.wr_node (s : State) (f : Fld) (i v : Nat) : (s.wr f i v).node = s.node := rfl
@[simp] theorem State.wr_ustore (s : State) (f : Fld) (i v : Nat) : (s.wr f i v).ustore = s.ustore := rfl
@[simp] theorem State.wr_colds (s : State) (f : Fld) (i v : Nat) : (s.wr f i v).colds = s.colds := rfl
@[simp] theorem State.wr_boot (s : State) (f : Fld) (i v : Nat) : (s.wr f i v).boot = s.boot := rfl
@[simp] theorem State.wr_tap (s : State) (f : Fld) (i v : Nat) : (s.wr f i v).tap = s.tap := rfl

@[simp] theorem State.wrb_pending (s : State) (f : Fld) (i : Nat) (b : Bool) : (s.wrb f i b).pending = s.pending := rfl
@[simp] theorem State.wrb_out (s : State) (f : Fld) (i : Nat) (b : Bool) : (s.wrb f i b).out = s.out := rfl
@[simp] theorem State.wrb_free (s : State) (f : Fld) (i : Nat) (b : Bool) : (s.wrb f i b).free = s.free := rfl
@[simp] theorem State.wrb_latch (s : State) (f : Fld) (i : Nat) (b : Bool) : (s.wrb f i b).latch = s.latch := rfl
@[simp] theorem State.wrb_stage (s : State) (f : Fld) (i : Nat) (b : Bool) : (s.wrb f i b).stage = s.stage := rfl
@[simp] theorem State.wrb_pwr (s : State) (f : Fld) (i : Nat) (b : Bool) : (s.wrb f i b).pwr = s.pwr := rfl
@[simp] theorem State.wrb_ft (s : State) (f : Fld) (i : Nat) (b : Bool) : (s.wrb f i b).ft = s.ft := rfl
@[simp] theorem State.wrb_arch (s : State) (f : Fld) (i : Nat) (b : Bool) : (s.wrb f i b).arch = s.arch := rfl
@[simp] theorem State.wrb_spw (s : State) (f : Fld) (i : Nat) (b : Bool) : (s.wrb f i b).spw = s.spw := rfl
@[simp] theorem State.wrb_flm (s : State) (f : Fld) (i : Nat) (b : Bool) : (s.wrb f i b).flm = s.flm := rfl
@[simp] theorem State.wrb_acq (s : State) (f : Fld) (i : Nat) (b : Bool) : (s.wrb f i b).acq = s.acq := rfl
@[simp] theorem State.wrb_lanes (s : State) (f : Fld) (i : Nat) (b : Bool) : (s.wrb f i b).lanes = s.lanes := rfl
@[simp] theorem State.wrb_leat (s : State) (f : Fld) (i : Nat) (b : Bool) : (s.wrb f i b).leat = s.leat := rfl
@[simp] theorem State.wrb_flows (s : State) (f : Fld) (i : Nat) (b : Bool) : (s.wrb f i b).flows = s.flows := rfl
@[simp] theorem State.wrb_swc (s : State) (f : Fld) (i : Nat) (b : Bool) : (s.wrb f i b).swc = s.swc := rfl
@[simp] theorem State.wrb_weir (s : State) (f : Fld) (i : Nat) (b : Bool) : (s.wrb f i b).weir = s.weir := rfl
@[simp] theorem State.wrb_xlt (s : State) (f : Fld) (i : Nat) (b : Bool) : (s.wrb f i b).xlt = s.xlt := rfl
@[simp] theorem State.wrb_chk (s : State) (f : Fld) (i : Nat) (b : Bool) : (s.wrb f i b).chk = s.chk := rfl
@[simp] theorem State.wrb_wm (s : State) (f : Fld) (i : Nat) (b : Bool) : (s.wrb f i b).wm = s.wm := rfl
@[simp] theorem State.wrb_run (s : State) (f : Fld) (i : Nat) (b : Bool) : (s.wrb f i b).run = s.run := rfl
@[simp] theorem State.wrb_ten (s : State) (f : Fld) (i : Nat) (b : Bool) : (s.wrb f i b).ten = s.ten := rfl
@[simp] theorem State.wrb_prt (s : State) (f : Fld) (i : Nat) (b : Bool) : (s.wrb f i b).prt = s.prt := rfl
@[simp] theorem State.wrb_slots (s : State) (f : Fld) (i : Nat) (b : Bool) : (s.wrb f i b).slots = s.slots := rfl
@[simp] theorem State.wrb_tnd (s : State) (f : Fld) (i : Nat) (b : Bool) : (s.wrb f i b).tnd = s.tnd := rfl
@[simp] theorem State.wrb_notices (s : State) (f : Fld) (i : Nat) (b : Bool) : (s.wrb f i b).notices = s.notices := rfl
@[simp] theorem State.wrb_subscr (s : State) (f : Fld) (i : Nat) (b : Bool) : (s.wrb f i b).subscr = s.subscr := rfl
@[simp] theorem State.wrb_kinds (s : State) (f : Fld) (i : Nat) (b : Bool) : (s.wrb f i b).kinds = s.kinds := rfl
@[simp] theorem State.wrb_noticeTag (s : State) (f : Fld) (i : Nat) (b : Bool) : (s.wrb f i b).noticeTag = s.noticeTag := rfl
@[simp] theorem State.wrb_node (s : State) (f : Fld) (i : Nat) (b : Bool) : (s.wrb f i b).node = s.node := rfl
@[simp] theorem State.wrb_ustore (s : State) (f : Fld) (i : Nat) (b : Bool) : (s.wrb f i b).ustore = s.ustore := rfl
@[simp] theorem State.wrb_colds (s : State) (f : Fld) (i : Nat) (b : Bool) : (s.wrb f i b).colds = s.colds := rfl
@[simp] theorem State.wrb_boot (s : State) (f : Fld) (i : Nat) (b : Bool) : (s.wrb f i b).boot = s.boot := rfl
@[simp] theorem State.wrb_tap (s : State) (f : Fld) (i : Nat) (b : Bool) : (s.wrb f i b).tap = s.tap := rfl

@[simp] theorem State.inc_pending (s : State) (f : Fld) (i n : Nat) : (s.inc f i n).pending = s.pending := rfl
@[simp] theorem State.inc_out (s : State) (f : Fld) (i n : Nat) : (s.inc f i n).out = s.out := rfl
@[simp] theorem State.inc_free (s : State) (f : Fld) (i n : Nat) : (s.inc f i n).free = s.free := rfl
@[simp] theorem State.inc_latch (s : State) (f : Fld) (i n : Nat) : (s.inc f i n).latch = s.latch := rfl
@[simp] theorem State.inc_stage (s : State) (f : Fld) (i n : Nat) : (s.inc f i n).stage = s.stage := rfl
@[simp] theorem State.inc_pwr (s : State) (f : Fld) (i n : Nat) : (s.inc f i n).pwr = s.pwr := rfl
@[simp] theorem State.inc_ft (s : State) (f : Fld) (i n : Nat) : (s.inc f i n).ft = s.ft := rfl
@[simp] theorem State.inc_arch (s : State) (f : Fld) (i n : Nat) : (s.inc f i n).arch = s.arch := rfl
@[simp] theorem State.inc_spw (s : State) (f : Fld) (i n : Nat) : (s.inc f i n).spw = s.spw := rfl
@[simp] theorem State.inc_flm (s : State) (f : Fld) (i n : Nat) : (s.inc f i n).flm = s.flm := rfl
@[simp] theorem State.inc_acq (s : State) (f : Fld) (i n : Nat) : (s.inc f i n).acq = s.acq := rfl
@[simp] theorem State.inc_lanes (s : State) (f : Fld) (i n : Nat) : (s.inc f i n).lanes = s.lanes := rfl
@[simp] theorem State.inc_leat (s : State) (f : Fld) (i n : Nat) : (s.inc f i n).leat = s.leat := rfl
@[simp] theorem State.inc_flows (s : State) (f : Fld) (i n : Nat) : (s.inc f i n).flows = s.flows := rfl
@[simp] theorem State.inc_swc (s : State) (f : Fld) (i n : Nat) : (s.inc f i n).swc = s.swc := rfl
@[simp] theorem State.inc_weir (s : State) (f : Fld) (i n : Nat) : (s.inc f i n).weir = s.weir := rfl
@[simp] theorem State.inc_xlt (s : State) (f : Fld) (i n : Nat) : (s.inc f i n).xlt = s.xlt := rfl
@[simp] theorem State.inc_chk (s : State) (f : Fld) (i n : Nat) : (s.inc f i n).chk = s.chk := rfl
@[simp] theorem State.inc_wm (s : State) (f : Fld) (i n : Nat) : (s.inc f i n).wm = s.wm := rfl
@[simp] theorem State.inc_run (s : State) (f : Fld) (i n : Nat) : (s.inc f i n).run = s.run := rfl
@[simp] theorem State.inc_ten (s : State) (f : Fld) (i n : Nat) : (s.inc f i n).ten = s.ten := rfl
@[simp] theorem State.inc_prt (s : State) (f : Fld) (i n : Nat) : (s.inc f i n).prt = s.prt := rfl
@[simp] theorem State.inc_slots (s : State) (f : Fld) (i n : Nat) : (s.inc f i n).slots = s.slots := rfl
@[simp] theorem State.inc_tnd (s : State) (f : Fld) (i n : Nat) : (s.inc f i n).tnd = s.tnd := rfl
@[simp] theorem State.inc_notices (s : State) (f : Fld) (i n : Nat) : (s.inc f i n).notices = s.notices := rfl
@[simp] theorem State.inc_subscr (s : State) (f : Fld) (i n : Nat) : (s.inc f i n).subscr = s.subscr := rfl
@[simp] theorem State.inc_kinds (s : State) (f : Fld) (i n : Nat) : (s.inc f i n).kinds = s.kinds := rfl
@[simp] theorem State.inc_noticeTag (s : State) (f : Fld) (i n : Nat) : (s.inc f i n).noticeTag = s.noticeTag := rfl
@[simp] theorem State.inc_node (s : State) (f : Fld) (i n : Nat) : (s.inc f i n).node = s.node := rfl
@[simp] theorem State.inc_ustore (s : State) (f : Fld) (i n : Nat) : (s.inc f i n).ustore = s.ustore := rfl
@[simp] theorem State.inc_colds (s : State) (f : Fld) (i n : Nat) : (s.inc f i n).colds = s.colds := rfl
@[simp] theorem State.inc_boot (s : State) (f : Fld) (i n : Nat) : (s.inc f i n).boot = s.boot := rfl
@[simp] theorem State.inc_tap (s : State) (f : Fld) (i n : Nat) : (s.inc f i n).tap = s.tap := rfl

@[simp] theorem State.setBit_pending (s : State) (f : Fld) (n : Nat) (b : Bool) : (s.setBit f n b).pending = s.pending := rfl
@[simp] theorem State.setBit_out (s : State) (f : Fld) (n : Nat) (b : Bool) : (s.setBit f n b).out = s.out := rfl
@[simp] theorem State.setBit_free (s : State) (f : Fld) (n : Nat) (b : Bool) : (s.setBit f n b).free = s.free := rfl
@[simp] theorem State.setBit_latch (s : State) (f : Fld) (n : Nat) (b : Bool) : (s.setBit f n b).latch = s.latch := rfl
@[simp] theorem State.setBit_stage (s : State) (f : Fld) (n : Nat) (b : Bool) : (s.setBit f n b).stage = s.stage := rfl
@[simp] theorem State.setBit_pwr (s : State) (f : Fld) (n : Nat) (b : Bool) : (s.setBit f n b).pwr = s.pwr := rfl
@[simp] theorem State.setBit_ft (s : State) (f : Fld) (n : Nat) (b : Bool) : (s.setBit f n b).ft = s.ft := rfl
@[simp] theorem State.setBit_arch (s : State) (f : Fld) (n : Nat) (b : Bool) : (s.setBit f n b).arch = s.arch := rfl
@[simp] theorem State.setBit_spw (s : State) (f : Fld) (n : Nat) (b : Bool) : (s.setBit f n b).spw = s.spw := rfl
@[simp] theorem State.setBit_flm (s : State) (f : Fld) (n : Nat) (b : Bool) : (s.setBit f n b).flm = s.flm := rfl
@[simp] theorem State.setBit_acq (s : State) (f : Fld) (n : Nat) (b : Bool) : (s.setBit f n b).acq = s.acq := rfl
@[simp] theorem State.setBit_lanes (s : State) (f : Fld) (n : Nat) (b : Bool) : (s.setBit f n b).lanes = s.lanes := rfl
@[simp] theorem State.setBit_leat (s : State) (f : Fld) (n : Nat) (b : Bool) : (s.setBit f n b).leat = s.leat := rfl
@[simp] theorem State.setBit_flows (s : State) (f : Fld) (n : Nat) (b : Bool) : (s.setBit f n b).flows = s.flows := rfl
@[simp] theorem State.setBit_swc (s : State) (f : Fld) (n : Nat) (b : Bool) : (s.setBit f n b).swc = s.swc := rfl
@[simp] theorem State.setBit_weir (s : State) (f : Fld) (n : Nat) (b : Bool) : (s.setBit f n b).weir = s.weir := rfl
@[simp] theorem State.setBit_xlt (s : State) (f : Fld) (n : Nat) (b : Bool) : (s.setBit f n b).xlt = s.xlt := rfl
@[simp] theorem State.setBit_chk (s : State) (f : Fld) (n : Nat) (b : Bool) : (s.setBit f n b).chk = s.chk := rfl
@[simp] theorem State.setBit_wm (s : State) (f : Fld) (n : Nat) (b : Bool) : (s.setBit f n b).wm = s.wm := rfl
@[simp] theorem State.setBit_run (s : State) (f : Fld) (n : Nat) (b : Bool) : (s.setBit f n b).run = s.run := rfl
@[simp] theorem State.setBit_ten (s : State) (f : Fld) (n : Nat) (b : Bool) : (s.setBit f n b).ten = s.ten := rfl
@[simp] theorem State.setBit_prt (s : State) (f : Fld) (n : Nat) (b : Bool) : (s.setBit f n b).prt = s.prt := rfl
@[simp] theorem State.setBit_slots (s : State) (f : Fld) (n : Nat) (b : Bool) : (s.setBit f n b).slots = s.slots := rfl
@[simp] theorem State.setBit_tnd (s : State) (f : Fld) (n : Nat) (b : Bool) : (s.setBit f n b).tnd = s.tnd := rfl
@[simp] theorem State.setBit_notices (s : State) (f : Fld) (n : Nat) (b : Bool) : (s.setBit f n b).notices = s.notices := rfl
@[simp] theorem State.setBit_subscr (s : State) (f : Fld) (n : Nat) (b : Bool) : (s.setBit f n b).subscr = s.subscr := rfl
@[simp] theorem State.setBit_kinds (s : State) (f : Fld) (n : Nat) (b : Bool) : (s.setBit f n b).kinds = s.kinds := rfl
@[simp] theorem State.setBit_noticeTag (s : State) (f : Fld) (n : Nat) (b : Bool) : (s.setBit f n b).noticeTag = s.noticeTag := rfl
@[simp] theorem State.setBit_node (s : State) (f : Fld) (n : Nat) (b : Bool) : (s.setBit f n b).node = s.node := rfl
@[simp] theorem State.setBit_ustore (s : State) (f : Fld) (n : Nat) (b : Bool) : (s.setBit f n b).ustore = s.ustore := rfl
@[simp] theorem State.setBit_colds (s : State) (f : Fld) (n : Nat) (b : Bool) : (s.setBit f n b).colds = s.colds := rfl
@[simp] theorem State.setBit_boot (s : State) (f : Fld) (n : Nat) (b : Bool) : (s.setBit f n b).boot = s.boot := rfl
@[simp] theorem State.setBit_tap (s : State) (f : Fld) (n : Nat) (b : Bool) : (s.setBit f n b).tap = s.tap := rfl

@[simp] theorem State.putb_pending (s : State) (f : Fld) (i n : Nat) (b : Bool) : (s.putb f i n b).pending = s.pending := rfl
@[simp] theorem State.putb_out (s : State) (f : Fld) (i n : Nat) (b : Bool) : (s.putb f i n b).out = s.out := rfl
@[simp] theorem State.putb_free (s : State) (f : Fld) (i n : Nat) (b : Bool) : (s.putb f i n b).free = s.free := rfl
@[simp] theorem State.putb_latch (s : State) (f : Fld) (i n : Nat) (b : Bool) : (s.putb f i n b).latch = s.latch := rfl
@[simp] theorem State.putb_stage (s : State) (f : Fld) (i n : Nat) (b : Bool) : (s.putb f i n b).stage = s.stage := rfl
@[simp] theorem State.putb_pwr (s : State) (f : Fld) (i n : Nat) (b : Bool) : (s.putb f i n b).pwr = s.pwr := rfl
@[simp] theorem State.putb_ft (s : State) (f : Fld) (i n : Nat) (b : Bool) : (s.putb f i n b).ft = s.ft := rfl
@[simp] theorem State.putb_arch (s : State) (f : Fld) (i n : Nat) (b : Bool) : (s.putb f i n b).arch = s.arch := rfl
@[simp] theorem State.putb_spw (s : State) (f : Fld) (i n : Nat) (b : Bool) : (s.putb f i n b).spw = s.spw := rfl
@[simp] theorem State.putb_flm (s : State) (f : Fld) (i n : Nat) (b : Bool) : (s.putb f i n b).flm = s.flm := rfl
@[simp] theorem State.putb_acq (s : State) (f : Fld) (i n : Nat) (b : Bool) : (s.putb f i n b).acq = s.acq := rfl
@[simp] theorem State.putb_lanes (s : State) (f : Fld) (i n : Nat) (b : Bool) : (s.putb f i n b).lanes = s.lanes := rfl
@[simp] theorem State.putb_leat (s : State) (f : Fld) (i n : Nat) (b : Bool) : (s.putb f i n b).leat = s.leat := rfl
@[simp] theorem State.putb_flows (s : State) (f : Fld) (i n : Nat) (b : Bool) : (s.putb f i n b).flows = s.flows := rfl
@[simp] theorem State.putb_swc (s : State) (f : Fld) (i n : Nat) (b : Bool) : (s.putb f i n b).swc = s.swc := rfl
@[simp] theorem State.putb_weir (s : State) (f : Fld) (i n : Nat) (b : Bool) : (s.putb f i n b).weir = s.weir := rfl
@[simp] theorem State.putb_xlt (s : State) (f : Fld) (i n : Nat) (b : Bool) : (s.putb f i n b).xlt = s.xlt := rfl
@[simp] theorem State.putb_chk (s : State) (f : Fld) (i n : Nat) (b : Bool) : (s.putb f i n b).chk = s.chk := rfl
@[simp] theorem State.putb_wm (s : State) (f : Fld) (i n : Nat) (b : Bool) : (s.putb f i n b).wm = s.wm := rfl
@[simp] theorem State.putb_run (s : State) (f : Fld) (i n : Nat) (b : Bool) : (s.putb f i n b).run = s.run := rfl
@[simp] theorem State.putb_ten (s : State) (f : Fld) (i n : Nat) (b : Bool) : (s.putb f i n b).ten = s.ten := rfl
@[simp] theorem State.putb_prt (s : State) (f : Fld) (i n : Nat) (b : Bool) : (s.putb f i n b).prt = s.prt := rfl
@[simp] theorem State.putb_slots (s : State) (f : Fld) (i n : Nat) (b : Bool) : (s.putb f i n b).slots = s.slots := rfl
@[simp] theorem State.putb_tnd (s : State) (f : Fld) (i n : Nat) (b : Bool) : (s.putb f i n b).tnd = s.tnd := rfl
@[simp] theorem State.putb_notices (s : State) (f : Fld) (i n : Nat) (b : Bool) : (s.putb f i n b).notices = s.notices := rfl
@[simp] theorem State.putb_subscr (s : State) (f : Fld) (i n : Nat) (b : Bool) : (s.putb f i n b).subscr = s.subscr := rfl
@[simp] theorem State.putb_kinds (s : State) (f : Fld) (i n : Nat) (b : Bool) : (s.putb f i n b).kinds = s.kinds := rfl
@[simp] theorem State.putb_noticeTag (s : State) (f : Fld) (i n : Nat) (b : Bool) : (s.putb f i n b).noticeTag = s.noticeTag := rfl
@[simp] theorem State.putb_node (s : State) (f : Fld) (i n : Nat) (b : Bool) : (s.putb f i n b).node = s.node := rfl
@[simp] theorem State.putb_ustore (s : State) (f : Fld) (i n : Nat) (b : Bool) : (s.putb f i n b).ustore = s.ustore := rfl
@[simp] theorem State.putb_colds (s : State) (f : Fld) (i n : Nat) (b : Bool) : (s.putb f i n b).colds = s.colds := rfl
@[simp] theorem State.putb_boot (s : State) (f : Fld) (i n : Nat) (b : Bool) : (s.putb f i n b).boot = s.boot := rfl
@[simp] theorem State.putb_tap (s : State) (f : Fld) (i n : Nat) (b : Bool) : (s.putb f i n b).tap = s.tap := rfl

@[simp] theorem State.wr2_pending (s : State) (lo hi : Fld) (i v : Nat) : (s.wr2 lo hi i v).pending = s.pending := rfl
@[simp] theorem State.wr2_out (s : State) (lo hi : Fld) (i v : Nat) : (s.wr2 lo hi i v).out = s.out := rfl
@[simp] theorem State.wr2_free (s : State) (lo hi : Fld) (i v : Nat) : (s.wr2 lo hi i v).free = s.free := rfl
@[simp] theorem State.wr2_latch (s : State) (lo hi : Fld) (i v : Nat) : (s.wr2 lo hi i v).latch = s.latch := rfl
@[simp] theorem State.wr2_stage (s : State) (lo hi : Fld) (i v : Nat) : (s.wr2 lo hi i v).stage = s.stage := rfl
@[simp] theorem State.wr2_pwr (s : State) (lo hi : Fld) (i v : Nat) : (s.wr2 lo hi i v).pwr = s.pwr := rfl
@[simp] theorem State.wr2_ft (s : State) (lo hi : Fld) (i v : Nat) : (s.wr2 lo hi i v).ft = s.ft := rfl
@[simp] theorem State.wr2_arch (s : State) (lo hi : Fld) (i v : Nat) : (s.wr2 lo hi i v).arch = s.arch := rfl
@[simp] theorem State.wr2_spw (s : State) (lo hi : Fld) (i v : Nat) : (s.wr2 lo hi i v).spw = s.spw := rfl
@[simp] theorem State.wr2_flm (s : State) (lo hi : Fld) (i v : Nat) : (s.wr2 lo hi i v).flm = s.flm := rfl
@[simp] theorem State.wr2_acq (s : State) (lo hi : Fld) (i v : Nat) : (s.wr2 lo hi i v).acq = s.acq := rfl
@[simp] theorem State.wr2_lanes (s : State) (lo hi : Fld) (i v : Nat) : (s.wr2 lo hi i v).lanes = s.lanes := rfl
@[simp] theorem State.wr2_leat (s : State) (lo hi : Fld) (i v : Nat) : (s.wr2 lo hi i v).leat = s.leat := rfl
@[simp] theorem State.wr2_flows (s : State) (lo hi : Fld) (i v : Nat) : (s.wr2 lo hi i v).flows = s.flows := rfl
@[simp] theorem State.wr2_swc (s : State) (lo hi : Fld) (i v : Nat) : (s.wr2 lo hi i v).swc = s.swc := rfl
@[simp] theorem State.wr2_weir (s : State) (lo hi : Fld) (i v : Nat) : (s.wr2 lo hi i v).weir = s.weir := rfl
@[simp] theorem State.wr2_xlt (s : State) (lo hi : Fld) (i v : Nat) : (s.wr2 lo hi i v).xlt = s.xlt := rfl
@[simp] theorem State.wr2_chk (s : State) (lo hi : Fld) (i v : Nat) : (s.wr2 lo hi i v).chk = s.chk := rfl
@[simp] theorem State.wr2_wm (s : State) (lo hi : Fld) (i v : Nat) : (s.wr2 lo hi i v).wm = s.wm := rfl
@[simp] theorem State.wr2_run (s : State) (lo hi : Fld) (i v : Nat) : (s.wr2 lo hi i v).run = s.run := rfl
@[simp] theorem State.wr2_ten (s : State) (lo hi : Fld) (i v : Nat) : (s.wr2 lo hi i v).ten = s.ten := rfl
@[simp] theorem State.wr2_prt (s : State) (lo hi : Fld) (i v : Nat) : (s.wr2 lo hi i v).prt = s.prt := rfl
@[simp] theorem State.wr2_slots (s : State) (lo hi : Fld) (i v : Nat) : (s.wr2 lo hi i v).slots = s.slots := rfl
@[simp] theorem State.wr2_tnd (s : State) (lo hi : Fld) (i v : Nat) : (s.wr2 lo hi i v).tnd = s.tnd := rfl
@[simp] theorem State.wr2_notices (s : State) (lo hi : Fld) (i v : Nat) : (s.wr2 lo hi i v).notices = s.notices := rfl
@[simp] theorem State.wr2_subscr (s : State) (lo hi : Fld) (i v : Nat) : (s.wr2 lo hi i v).subscr = s.subscr := rfl
@[simp] theorem State.wr2_kinds (s : State) (lo hi : Fld) (i v : Nat) : (s.wr2 lo hi i v).kinds = s.kinds := rfl
@[simp] theorem State.wr2_noticeTag (s : State) (lo hi : Fld) (i v : Nat) : (s.wr2 lo hi i v).noticeTag = s.noticeTag := rfl
@[simp] theorem State.wr2_node (s : State) (lo hi : Fld) (i v : Nat) : (s.wr2 lo hi i v).node = s.node := rfl
@[simp] theorem State.wr2_ustore (s : State) (lo hi : Fld) (i v : Nat) : (s.wr2 lo hi i v).ustore = s.ustore := rfl
@[simp] theorem State.wr2_colds (s : State) (lo hi : Fld) (i v : Nat) : (s.wr2 lo hi i v).colds = s.colds := rfl
@[simp] theorem State.wr2_boot (s : State) (lo hi : Fld) (i v : Nat) : (s.wr2 lo hi i v).boot = s.boot := rfl
@[simp] theorem State.wr2_tap (s : State) (lo hi : Fld) (i v : Nat) : (s.wr2 lo hi i v).tap = s.tap := rfl

@[simp] theorem State.clr_pending (s : State) (f : Fld) : (s.clr f).pending = s.pending := rfl
@[simp] theorem State.clr_out (s : State) (f : Fld) : (s.clr f).out = s.out := rfl
@[simp] theorem State.clr_free (s : State) (f : Fld) : (s.clr f).free = s.free := rfl
@[simp] theorem State.clr_latch (s : State) (f : Fld) : (s.clr f).latch = s.latch := rfl
@[simp] theorem State.clr_stage (s : State) (f : Fld) : (s.clr f).stage = s.stage := rfl
@[simp] theorem State.clr_pwr (s : State) (f : Fld) : (s.clr f).pwr = s.pwr := rfl
@[simp] theorem State.clr_ft (s : State) (f : Fld) : (s.clr f).ft = s.ft := rfl
@[simp] theorem State.clr_arch (s : State) (f : Fld) : (s.clr f).arch = s.arch := rfl
@[simp] theorem State.clr_spw (s : State) (f : Fld) : (s.clr f).spw = s.spw := rfl
@[simp] theorem State.clr_flm (s : State) (f : Fld) : (s.clr f).flm = s.flm := rfl
@[simp] theorem State.clr_acq (s : State) (f : Fld) : (s.clr f).acq = s.acq := rfl
@[simp] theorem State.clr_lanes (s : State) (f : Fld) : (s.clr f).lanes = s.lanes := rfl
@[simp] theorem State.clr_leat (s : State) (f : Fld) : (s.clr f).leat = s.leat := rfl
@[simp] theorem State.clr_flows (s : State) (f : Fld) : (s.clr f).flows = s.flows := rfl
@[simp] theorem State.clr_swc (s : State) (f : Fld) : (s.clr f).swc = s.swc := rfl
@[simp] theorem State.clr_weir (s : State) (f : Fld) : (s.clr f).weir = s.weir := rfl
@[simp] theorem State.clr_xlt (s : State) (f : Fld) : (s.clr f).xlt = s.xlt := rfl
@[simp] theorem State.clr_chk (s : State) (f : Fld) : (s.clr f).chk = s.chk := rfl
@[simp] theorem State.clr_wm (s : State) (f : Fld) : (s.clr f).wm = s.wm := rfl
@[simp] theorem State.clr_run (s : State) (f : Fld) : (s.clr f).run = s.run := rfl
@[simp] theorem State.clr_ten (s : State) (f : Fld) : (s.clr f).ten = s.ten := rfl
@[simp] theorem State.clr_prt (s : State) (f : Fld) : (s.clr f).prt = s.prt := rfl
@[simp] theorem State.clr_slots (s : State) (f : Fld) : (s.clr f).slots = s.slots := rfl
@[simp] theorem State.clr_tnd (s : State) (f : Fld) : (s.clr f).tnd = s.tnd := rfl
@[simp] theorem State.clr_notices (s : State) (f : Fld) : (s.clr f).notices = s.notices := rfl
@[simp] theorem State.clr_subscr (s : State) (f : Fld) : (s.clr f).subscr = s.subscr := rfl
@[simp] theorem State.clr_kinds (s : State) (f : Fld) : (s.clr f).kinds = s.kinds := rfl
@[simp] theorem State.clr_noticeTag (s : State) (f : Fld) : (s.clr f).noticeTag = s.noticeTag := rfl
@[simp] theorem State.clr_node (s : State) (f : Fld) : (s.clr f).node = s.node := rfl
@[simp] theorem State.clr_ustore (s : State) (f : Fld) : (s.clr f).ustore = s.ustore := rfl
@[simp] theorem State.clr_colds (s : State) (f : Fld) : (s.clr f).colds = s.colds := rfl
@[simp] theorem State.clr_boot (s : State) (f : Fld) : (s.clr f).boot = s.boot := rfl
@[simp] theorem State.clr_tap (s : State) (f : Fld) : (s.clr f).tap = s.tap := rfl

@[simp] theorem State.clr1_pending (s : State) (f : Fld) (i : Nat) : (s.clr1 f i).pending = s.pending := rfl
@[simp] theorem State.clr1_out (s : State) (f : Fld) (i : Nat) : (s.clr1 f i).out = s.out := rfl
@[simp] theorem State.clr1_free (s : State) (f : Fld) (i : Nat) : (s.clr1 f i).free = s.free := rfl
@[simp] theorem State.clr1_latch (s : State) (f : Fld) (i : Nat) : (s.clr1 f i).latch = s.latch := rfl
@[simp] theorem State.clr1_stage (s : State) (f : Fld) (i : Nat) : (s.clr1 f i).stage = s.stage := rfl
@[simp] theorem State.clr1_pwr (s : State) (f : Fld) (i : Nat) : (s.clr1 f i).pwr = s.pwr := rfl
@[simp] theorem State.clr1_ft (s : State) (f : Fld) (i : Nat) : (s.clr1 f i).ft = s.ft := rfl
@[simp] theorem State.clr1_arch (s : State) (f : Fld) (i : Nat) : (s.clr1 f i).arch = s.arch := rfl
@[simp] theorem State.clr1_spw (s : State) (f : Fld) (i : Nat) : (s.clr1 f i).spw = s.spw := rfl
@[simp] theorem State.clr1_flm (s : State) (f : Fld) (i : Nat) : (s.clr1 f i).flm = s.flm := rfl
@[simp] theorem State.clr1_acq (s : State) (f : Fld) (i : Nat) : (s.clr1 f i).acq = s.acq := rfl
@[simp] theorem State.clr1_lanes (s : State) (f : Fld) (i : Nat) : (s.clr1 f i).lanes = s.lanes := rfl
@[simp] theorem State.clr1_leat (s : State) (f : Fld) (i : Nat) : (s.clr1 f i).leat = s.leat := rfl
@[simp] theorem State.clr1_flows (s : State) (f : Fld) (i : Nat) : (s.clr1 f i).flows = s.flows := rfl
@[simp] theorem State.clr1_swc (s : State) (f : Fld) (i : Nat) : (s.clr1 f i).swc = s.swc := rfl
@[simp] theorem State.clr1_weir (s : State) (f : Fld) (i : Nat) : (s.clr1 f i).weir = s.weir := rfl
@[simp] theorem State.clr1_xlt (s : State) (f : Fld) (i : Nat) : (s.clr1 f i).xlt = s.xlt := rfl
@[simp] theorem State.clr1_chk (s : State) (f : Fld) (i : Nat) : (s.clr1 f i).chk = s.chk := rfl
@[simp] theorem State.clr1_wm (s : State) (f : Fld) (i : Nat) : (s.clr1 f i).wm = s.wm := rfl
@[simp] theorem State.clr1_run (s : State) (f : Fld) (i : Nat) : (s.clr1 f i).run = s.run := rfl
@[simp] theorem State.clr1_ten (s : State) (f : Fld) (i : Nat) : (s.clr1 f i).ten = s.ten := rfl
@[simp] theorem State.clr1_prt (s : State) (f : Fld) (i : Nat) : (s.clr1 f i).prt = s.prt := rfl
@[simp] theorem State.clr1_slots (s : State) (f : Fld) (i : Nat) : (s.clr1 f i).slots = s.slots := rfl
@[simp] theorem State.clr1_tnd (s : State) (f : Fld) (i : Nat) : (s.clr1 f i).tnd = s.tnd := rfl
@[simp] theorem State.clr1_notices (s : State) (f : Fld) (i : Nat) : (s.clr1 f i).notices = s.notices := rfl
@[simp] theorem State.clr1_subscr (s : State) (f : Fld) (i : Nat) : (s.clr1 f i).subscr = s.subscr := rfl
@[simp] theorem State.clr1_kinds (s : State) (f : Fld) (i : Nat) : (s.clr1 f i).kinds = s.kinds := rfl
@[simp] theorem State.clr1_noticeTag (s : State) (f : Fld) (i : Nat) : (s.clr1 f i).noticeTag = s.noticeTag := rfl
@[simp] theorem State.clr1_node (s : State) (f : Fld) (i : Nat) : (s.clr1 f i).node = s.node := rfl
@[simp] theorem State.clr1_ustore (s : State) (f : Fld) (i : Nat) : (s.clr1 f i).ustore = s.ustore := rfl
@[simp] theorem State.clr1_colds (s : State) (f : Fld) (i : Nat) : (s.clr1 f i).colds = s.colds := rfl
@[simp] theorem State.clr1_boot (s : State) (f : Fld) (i : Nat) : (s.clr1 f i).boot = s.boot := rfl
@[simp] theorem State.clr1_tap (s : State) (f : Fld) (i : Nat) : (s.clr1 f i).tap = s.tap := rfl

@[simp] theorem State.send_pending (s : State) (o : Out) : (s.send o).pending = s.pending := rfl
@[simp] theorem State.send_free (s : State) (o : Out) : (s.send o).free = s.free := rfl
@[simp] theorem State.send_regs (s : State) (o : Out) : (s.send o).regs = s.regs := rfl
@[simp] theorem State.send_latch (s : State) (o : Out) : (s.send o).latch = s.latch := rfl
@[simp] theorem State.send_stage (s : State) (o : Out) : (s.send o).stage = s.stage := rfl
@[simp] theorem State.send_pwr (s : State) (o : Out) : (s.send o).pwr = s.pwr := rfl
@[simp] theorem State.send_ft (s : State) (o : Out) : (s.send o).ft = s.ft := rfl
@[simp] theorem State.send_arch (s : State) (o : Out) : (s.send o).arch = s.arch := rfl
@[simp] theorem State.send_spw (s : State) (o : Out) : (s.send o).spw = s.spw := rfl
@[simp] theorem State.send_flm (s : State) (o : Out) : (s.send o).flm = s.flm := rfl
@[simp] theorem State.send_acq (s : State) (o : Out) : (s.send o).acq = s.acq := rfl
@[simp] theorem State.send_lanes (s : State) (o : Out) : (s.send o).lanes = s.lanes := rfl
@[simp] theorem State.send_leat (s : State) (o : Out) : (s.send o).leat = s.leat := rfl
@[simp] theorem State.send_flows (s : State) (o : Out) : (s.send o).flows = s.flows := rfl
@[simp] theorem State.send_swc (s : State) (o : Out) : (s.send o).swc = s.swc := rfl
@[simp] theorem State.send_weir (s : State) (o : Out) : (s.send o).weir = s.weir := rfl
@[simp] theorem State.send_xlt (s : State) (o : Out) : (s.send o).xlt = s.xlt := rfl
@[simp] theorem State.send_chk (s : State) (o : Out) : (s.send o).chk = s.chk := rfl
@[simp] theorem State.send_wm (s : State) (o : Out) : (s.send o).wm = s.wm := rfl
@[simp] theorem State.send_run (s : State) (o : Out) : (s.send o).run = s.run := rfl
@[simp] theorem State.send_ten (s : State) (o : Out) : (s.send o).ten = s.ten := rfl
@[simp] theorem State.send_prt (s : State) (o : Out) : (s.send o).prt = s.prt := rfl
@[simp] theorem State.send_slots (s : State) (o : Out) : (s.send o).slots = s.slots := rfl
@[simp] theorem State.send_tnd (s : State) (o : Out) : (s.send o).tnd = s.tnd := rfl
@[simp] theorem State.send_notices (s : State) (o : Out) : (s.send o).notices = s.notices := rfl
@[simp] theorem State.send_subscr (s : State) (o : Out) : (s.send o).subscr = s.subscr := rfl
@[simp] theorem State.send_kinds (s : State) (o : Out) : (s.send o).kinds = s.kinds := rfl
@[simp] theorem State.send_noticeTag (s : State) (o : Out) : (s.send o).noticeTag = s.noticeTag := rfl
@[simp] theorem State.send_node (s : State) (o : Out) : (s.send o).node = s.node := rfl
@[simp] theorem State.send_ustore (s : State) (o : Out) : (s.send o).ustore = s.ustore := rfl
@[simp] theorem State.send_colds (s : State) (o : Out) : (s.send o).colds = s.colds := rfl
@[simp] theorem State.send_boot (s : State) (o : Out) : (s.send o).boot = s.boot := rfl
@[simp] theorem State.send_tap (s : State) (o : Out) : (s.send o).tap = s.tap := rfl
@[simp] theorem State.send_rd (s : State) (o : Out) (g : Fld) (j : Nat) : (s.send o).rd g j = s.rd g j := rfl
@[simp] theorem State.send_rdb (s : State) (o : Out) (g : Fld) (j : Nat) : (s.send o).rdb g j = s.rdb g j := rfl

@[simp] theorem State.pulse_pending (s : State) (n : Nat) : (s.pulse n).pending = s.pending := rfl
@[simp] theorem State.pulse_out (s : State) (n : Nat) : (s.pulse n).out = s.out := rfl
@[simp] theorem State.pulse_free (s : State) (n : Nat) : (s.pulse n).free = s.free := rfl
@[simp] theorem State.pulse_regs (s : State) (n : Nat) : (s.pulse n).regs = s.regs := rfl
@[simp] theorem State.pulse_latch (s : State) (n : Nat) : (s.pulse n).latch = s.latch := rfl
@[simp] theorem State.pulse_stage (s : State) (n : Nat) : (s.pulse n).stage = s.stage := rfl
@[simp] theorem State.pulse_pwr (s : State) (n : Nat) : (s.pulse n).pwr = s.pwr := rfl
@[simp] theorem State.pulse_ft (s : State) (n : Nat) : (s.pulse n).ft = s.ft := rfl
@[simp] theorem State.pulse_arch (s : State) (n : Nat) : (s.pulse n).arch = s.arch := rfl
@[simp] theorem State.pulse_flm (s : State) (n : Nat) : (s.pulse n).flm = s.flm := rfl
@[simp] theorem State.pulse_acq (s : State) (n : Nat) : (s.pulse n).acq = s.acq := rfl
@[simp] theorem State.pulse_lanes (s : State) (n : Nat) : (s.pulse n).lanes = s.lanes := rfl
@[simp] theorem State.pulse_leat (s : State) (n : Nat) : (s.pulse n).leat = s.leat := rfl
@[simp] theorem State.pulse_flows (s : State) (n : Nat) : (s.pulse n).flows = s.flows := rfl
@[simp] theorem State.pulse_swc (s : State) (n : Nat) : (s.pulse n).swc = s.swc := rfl
@[simp] theorem State.pulse_weir (s : State) (n : Nat) : (s.pulse n).weir = s.weir := rfl
@[simp] theorem State.pulse_xlt (s : State) (n : Nat) : (s.pulse n).xlt = s.xlt := rfl
@[simp] theorem State.pulse_chk (s : State) (n : Nat) : (s.pulse n).chk = s.chk := rfl
@[simp] theorem State.pulse_wm (s : State) (n : Nat) : (s.pulse n).wm = s.wm := rfl
@[simp] theorem State.pulse_run (s : State) (n : Nat) : (s.pulse n).run = s.run := rfl
@[simp] theorem State.pulse_ten (s : State) (n : Nat) : (s.pulse n).ten = s.ten := rfl
@[simp] theorem State.pulse_prt (s : State) (n : Nat) : (s.pulse n).prt = s.prt := rfl
@[simp] theorem State.pulse_slots (s : State) (n : Nat) : (s.pulse n).slots = s.slots := rfl
@[simp] theorem State.pulse_tnd (s : State) (n : Nat) : (s.pulse n).tnd = s.tnd := rfl
@[simp] theorem State.pulse_notices (s : State) (n : Nat) : (s.pulse n).notices = s.notices := rfl
@[simp] theorem State.pulse_subscr (s : State) (n : Nat) : (s.pulse n).subscr = s.subscr := rfl
@[simp] theorem State.pulse_kinds (s : State) (n : Nat) : (s.pulse n).kinds = s.kinds := rfl
@[simp] theorem State.pulse_noticeTag (s : State) (n : Nat) : (s.pulse n).noticeTag = s.noticeTag := rfl
@[simp] theorem State.pulse_node (s : State) (n : Nat) : (s.pulse n).node = s.node := rfl
@[simp] theorem State.pulse_ustore (s : State) (n : Nat) : (s.pulse n).ustore = s.ustore := rfl
@[simp] theorem State.pulse_colds (s : State) (n : Nat) : (s.pulse n).colds = s.colds := rfl
@[simp] theorem State.pulse_boot (s : State) (n : Nat) : (s.pulse n).boot = s.boot := rfl
@[simp] theorem State.pulse_tap (s : State) (n : Nat) : (s.pulse n).tap = s.tap := rfl
@[simp] theorem State.pulse_rd (s : State) (n : Nat) (g : Fld) (j : Nat) : (s.pulse n).rd g j = s.rd g j := rfl
@[simp] theorem State.pulse_rdb (s : State) (n : Nat) (g : Fld) (j : Nat) : (s.pulse n).rdb g j = s.rdb g j := rfl

@[simp] theorem State.level_pending (s : State) (n : Nat) (b : Bool) : (s.level n b).pending = s.pending := rfl
@[simp] theorem State.level_out (s : State) (n : Nat) (b : Bool) : (s.level n b).out = s.out := rfl
@[simp] theorem State.level_free (s : State) (n : Nat) (b : Bool) : (s.level n b).free = s.free := rfl
@[simp] theorem State.level_regs (s : State) (n : Nat) (b : Bool) : (s.level n b).regs = s.regs := rfl
@[simp] theorem State.level_latch (s : State) (n : Nat) (b : Bool) : (s.level n b).latch = s.latch := rfl
@[simp] theorem State.level_stage (s : State) (n : Nat) (b : Bool) : (s.level n b).stage = s.stage := rfl
@[simp] theorem State.level_pwr (s : State) (n : Nat) (b : Bool) : (s.level n b).pwr = s.pwr := rfl
@[simp] theorem State.level_ft (s : State) (n : Nat) (b : Bool) : (s.level n b).ft = s.ft := rfl
@[simp] theorem State.level_arch (s : State) (n : Nat) (b : Bool) : (s.level n b).arch = s.arch := rfl
@[simp] theorem State.level_flm (s : State) (n : Nat) (b : Bool) : (s.level n b).flm = s.flm := rfl
@[simp] theorem State.level_acq (s : State) (n : Nat) (b : Bool) : (s.level n b).acq = s.acq := rfl
@[simp] theorem State.level_lanes (s : State) (n : Nat) (b : Bool) : (s.level n b).lanes = s.lanes := rfl
@[simp] theorem State.level_leat (s : State) (n : Nat) (b : Bool) : (s.level n b).leat = s.leat := rfl
@[simp] theorem State.level_flows (s : State) (n : Nat) (b : Bool) : (s.level n b).flows = s.flows := rfl
@[simp] theorem State.level_swc (s : State) (n : Nat) (b : Bool) : (s.level n b).swc = s.swc := rfl
@[simp] theorem State.level_weir (s : State) (n : Nat) (b : Bool) : (s.level n b).weir = s.weir := rfl
@[simp] theorem State.level_xlt (s : State) (n : Nat) (b : Bool) : (s.level n b).xlt = s.xlt := rfl
@[simp] theorem State.level_chk (s : State) (n : Nat) (b : Bool) : (s.level n b).chk = s.chk := rfl
@[simp] theorem State.level_wm (s : State) (n : Nat) (b : Bool) : (s.level n b).wm = s.wm := rfl
@[simp] theorem State.level_run (s : State) (n : Nat) (b : Bool) : (s.level n b).run = s.run := rfl
@[simp] theorem State.level_ten (s : State) (n : Nat) (b : Bool) : (s.level n b).ten = s.ten := rfl
@[simp] theorem State.level_prt (s : State) (n : Nat) (b : Bool) : (s.level n b).prt = s.prt := rfl
@[simp] theorem State.level_slots (s : State) (n : Nat) (b : Bool) : (s.level n b).slots = s.slots := rfl
@[simp] theorem State.level_tnd (s : State) (n : Nat) (b : Bool) : (s.level n b).tnd = s.tnd := rfl
@[simp] theorem State.level_notices (s : State) (n : Nat) (b : Bool) : (s.level n b).notices = s.notices := rfl
@[simp] theorem State.level_subscr (s : State) (n : Nat) (b : Bool) : (s.level n b).subscr = s.subscr := rfl
@[simp] theorem State.level_kinds (s : State) (n : Nat) (b : Bool) : (s.level n b).kinds = s.kinds := rfl
@[simp] theorem State.level_noticeTag (s : State) (n : Nat) (b : Bool) : (s.level n b).noticeTag = s.noticeTag := rfl
@[simp] theorem State.level_node (s : State) (n : Nat) (b : Bool) : (s.level n b).node = s.node := rfl
@[simp] theorem State.level_ustore (s : State) (n : Nat) (b : Bool) : (s.level n b).ustore = s.ustore := rfl
@[simp] theorem State.level_colds (s : State) (n : Nat) (b : Bool) : (s.level n b).colds = s.colds := rfl
@[simp] theorem State.level_boot (s : State) (n : Nat) (b : Bool) : (s.level n b).boot = s.boot := rfl
@[simp] theorem State.level_tap (s : State) (n : Nat) (b : Bool) : (s.level n b).tap = s.tap := rfl
@[simp] theorem State.level_rd (s : State) (n : Nat) (b : Bool) (g : Fld) (j : Nat) : (s.level n b).rd g j = s.rd g j := rfl
@[simp] theorem State.level_rdb (s : State) (n : Nat) (b : Bool) (g : Fld) (j : Nat) : (s.level n b).rdb g j = s.rdb g j := rfl

@[simp] theorem State.cfgErr_pending (s : State) (w : Nat) : (s.cfgErr w).pending = s.pending := rfl
@[simp] theorem State.cfgErr_out (s : State) (w : Nat) : (s.cfgErr w).out = s.out := rfl
@[simp] theorem State.cfgErr_free (s : State) (w : Nat) : (s.cfgErr w).free = s.free := rfl
@[simp] theorem State.cfgErr_regs (s : State) (w : Nat) : (s.cfgErr w).regs = s.regs := rfl
@[simp] theorem State.cfgErr_latch (s : State) (w : Nat) : (s.cfgErr w).latch = s.latch := rfl
@[simp] theorem State.cfgErr_stage (s : State) (w : Nat) : (s.cfgErr w).stage = s.stage := rfl
@[simp] theorem State.cfgErr_pwr (s : State) (w : Nat) : (s.cfgErr w).pwr = s.pwr := rfl
@[simp] theorem State.cfgErr_ft (s : State) (w : Nat) : (s.cfgErr w).ft = s.ft := rfl
@[simp] theorem State.cfgErr_arch (s : State) (w : Nat) : (s.cfgErr w).arch = s.arch := rfl
@[simp] theorem State.cfgErr_flm (s : State) (w : Nat) : (s.cfgErr w).flm = s.flm := rfl
@[simp] theorem State.cfgErr_acq (s : State) (w : Nat) : (s.cfgErr w).acq = s.acq := rfl
@[simp] theorem State.cfgErr_lanes (s : State) (w : Nat) : (s.cfgErr w).lanes = s.lanes := rfl
@[simp] theorem State.cfgErr_leat (s : State) (w : Nat) : (s.cfgErr w).leat = s.leat := rfl
@[simp] theorem State.cfgErr_flows (s : State) (w : Nat) : (s.cfgErr w).flows = s.flows := rfl
@[simp] theorem State.cfgErr_swc (s : State) (w : Nat) : (s.cfgErr w).swc = s.swc := rfl
@[simp] theorem State.cfgErr_weir (s : State) (w : Nat) : (s.cfgErr w).weir = s.weir := rfl
@[simp] theorem State.cfgErr_xlt (s : State) (w : Nat) : (s.cfgErr w).xlt = s.xlt := rfl
@[simp] theorem State.cfgErr_chk (s : State) (w : Nat) : (s.cfgErr w).chk = s.chk := rfl
@[simp] theorem State.cfgErr_wm (s : State) (w : Nat) : (s.cfgErr w).wm = s.wm := rfl
@[simp] theorem State.cfgErr_run (s : State) (w : Nat) : (s.cfgErr w).run = s.run := rfl
@[simp] theorem State.cfgErr_ten (s : State) (w : Nat) : (s.cfgErr w).ten = s.ten := rfl
@[simp] theorem State.cfgErr_prt (s : State) (w : Nat) : (s.cfgErr w).prt = s.prt := rfl
@[simp] theorem State.cfgErr_slots (s : State) (w : Nat) : (s.cfgErr w).slots = s.slots := rfl
@[simp] theorem State.cfgErr_tnd (s : State) (w : Nat) : (s.cfgErr w).tnd = s.tnd := rfl
@[simp] theorem State.cfgErr_notices (s : State) (w : Nat) : (s.cfgErr w).notices = s.notices := rfl
@[simp] theorem State.cfgErr_subscr (s : State) (w : Nat) : (s.cfgErr w).subscr = s.subscr := rfl
@[simp] theorem State.cfgErr_kinds (s : State) (w : Nat) : (s.cfgErr w).kinds = s.kinds := rfl
@[simp] theorem State.cfgErr_noticeTag (s : State) (w : Nat) : (s.cfgErr w).noticeTag = s.noticeTag := rfl
@[simp] theorem State.cfgErr_node (s : State) (w : Nat) : (s.cfgErr w).node = s.node := rfl
@[simp] theorem State.cfgErr_ustore (s : State) (w : Nat) : (s.cfgErr w).ustore = s.ustore := rfl
@[simp] theorem State.cfgErr_colds (s : State) (w : Nat) : (s.cfgErr w).colds = s.colds := rfl
@[simp] theorem State.cfgErr_boot (s : State) (w : Nat) : (s.cfgErr w).boot = s.boot := rfl
@[simp] theorem State.cfgErr_tap (s : State) (w : Nat) : (s.cfgErr w).tap = s.tap := rfl
@[simp] theorem State.cfgErr_rd (s : State) (w : Nat) (g : Fld) (j : Nat) : (s.cfgErr w).rd g j = s.rd g j := rfl
@[simp] theorem State.cfgErr_rdb (s : State) (w : Nat) (g : Fld) (j : Nat) : (s.cfgErr w).rdb g j = s.rdb g j := rfl

@[simp] theorem State.swcMod_pending (s : State) (f : SwcS → SwcS) : (s.swcMod f).pending = s.pending := rfl
@[simp] theorem State.swcMod_out (s : State) (f : SwcS → SwcS) : (s.swcMod f).out = s.out := rfl
@[simp] theorem State.swcMod_free (s : State) (f : SwcS → SwcS) : (s.swcMod f).free = s.free := rfl
@[simp] theorem State.swcMod_regs (s : State) (f : SwcS → SwcS) : (s.swcMod f).regs = s.regs := rfl
@[simp] theorem State.swcMod_latch (s : State) (f : SwcS → SwcS) : (s.swcMod f).latch = s.latch := rfl
@[simp] theorem State.swcMod_stage (s : State) (f : SwcS → SwcS) : (s.swcMod f).stage = s.stage := rfl
@[simp] theorem State.swcMod_pwr (s : State) (f : SwcS → SwcS) : (s.swcMod f).pwr = s.pwr := rfl
@[simp] theorem State.swcMod_ft (s : State) (f : SwcS → SwcS) : (s.swcMod f).ft = s.ft := rfl
@[simp] theorem State.swcMod_arch (s : State) (f : SwcS → SwcS) : (s.swcMod f).arch = s.arch := rfl
@[simp] theorem State.swcMod_spw (s : State) (f : SwcS → SwcS) : (s.swcMod f).spw = s.spw := rfl
@[simp] theorem State.swcMod_flm (s : State) (f : SwcS → SwcS) : (s.swcMod f).flm = s.flm := rfl
@[simp] theorem State.swcMod_acq (s : State) (f : SwcS → SwcS) : (s.swcMod f).acq = s.acq := rfl
@[simp] theorem State.swcMod_lanes (s : State) (f : SwcS → SwcS) : (s.swcMod f).lanes = s.lanes := rfl
@[simp] theorem State.swcMod_leat (s : State) (f : SwcS → SwcS) : (s.swcMod f).leat = s.leat := rfl
@[simp] theorem State.swcMod_flows (s : State) (f : SwcS → SwcS) : (s.swcMod f).flows = s.flows := rfl
@[simp] theorem State.swcMod_weir (s : State) (f : SwcS → SwcS) : (s.swcMod f).weir = s.weir := rfl
@[simp] theorem State.swcMod_xlt (s : State) (f : SwcS → SwcS) : (s.swcMod f).xlt = s.xlt := rfl
@[simp] theorem State.swcMod_chk (s : State) (f : SwcS → SwcS) : (s.swcMod f).chk = s.chk := rfl
@[simp] theorem State.swcMod_wm (s : State) (f : SwcS → SwcS) : (s.swcMod f).wm = s.wm := rfl
@[simp] theorem State.swcMod_run (s : State) (f : SwcS → SwcS) : (s.swcMod f).run = s.run := rfl
@[simp] theorem State.swcMod_ten (s : State) (f : SwcS → SwcS) : (s.swcMod f).ten = s.ten := rfl
@[simp] theorem State.swcMod_prt (s : State) (f : SwcS → SwcS) : (s.swcMod f).prt = s.prt := rfl
@[simp] theorem State.swcMod_slots (s : State) (f : SwcS → SwcS) : (s.swcMod f).slots = s.slots := rfl
@[simp] theorem State.swcMod_tnd (s : State) (f : SwcS → SwcS) : (s.swcMod f).tnd = s.tnd := rfl
@[simp] theorem State.swcMod_notices (s : State) (f : SwcS → SwcS) : (s.swcMod f).notices = s.notices := rfl
@[simp] theorem State.swcMod_subscr (s : State) (f : SwcS → SwcS) : (s.swcMod f).subscr = s.subscr := rfl
@[simp] theorem State.swcMod_kinds (s : State) (f : SwcS → SwcS) : (s.swcMod f).kinds = s.kinds := rfl
@[simp] theorem State.swcMod_noticeTag (s : State) (f : SwcS → SwcS) : (s.swcMod f).noticeTag = s.noticeTag := rfl
@[simp] theorem State.swcMod_node (s : State) (f : SwcS → SwcS) : (s.swcMod f).node = s.node := rfl
@[simp] theorem State.swcMod_ustore (s : State) (f : SwcS → SwcS) : (s.swcMod f).ustore = s.ustore := rfl
@[simp] theorem State.swcMod_colds (s : State) (f : SwcS → SwcS) : (s.swcMod f).colds = s.colds := rfl
@[simp] theorem State.swcMod_boot (s : State) (f : SwcS → SwcS) : (s.swcMod f).boot = s.boot := rfl
@[simp] theorem State.swcMod_tap (s : State) (f : SwcS → SwcS) : (s.swcMod f).tap = s.tap := rfl
@[simp] theorem State.swcMod_rd (s : State) (u : SwcS → SwcS) (g : Fld) (j : Nat) : (s.swcMod u).rd g j = s.rd g j := rfl
@[simp] theorem State.swcMod_rdb (s : State) (u : SwcS → SwcS) (g : Fld) (j : Nat) : (s.swcMod u).rdb g j = s.rdb g j := rfl

@[simp] theorem State.runMod_pending (s : State) (f : RunS → RunS) : (s.runMod f).pending = s.pending := rfl
@[simp] theorem State.runMod_out (s : State) (f : RunS → RunS) : (s.runMod f).out = s.out := rfl
@[simp] theorem State.runMod_free (s : State) (f : RunS → RunS) : (s.runMod f).free = s.free := rfl
@[simp] theorem State.runMod_regs (s : State) (f : RunS → RunS) : (s.runMod f).regs = s.regs := rfl
@[simp] theorem State.runMod_latch (s : State) (f : RunS → RunS) : (s.runMod f).latch = s.latch := rfl
@[simp] theorem State.runMod_stage (s : State) (f : RunS → RunS) : (s.runMod f).stage = s.stage := rfl
@[simp] theorem State.runMod_pwr (s : State) (f : RunS → RunS) : (s.runMod f).pwr = s.pwr := rfl
@[simp] theorem State.runMod_ft (s : State) (f : RunS → RunS) : (s.runMod f).ft = s.ft := rfl
@[simp] theorem State.runMod_arch (s : State) (f : RunS → RunS) : (s.runMod f).arch = s.arch := rfl
@[simp] theorem State.runMod_spw (s : State) (f : RunS → RunS) : (s.runMod f).spw = s.spw := rfl
@[simp] theorem State.runMod_flm (s : State) (f : RunS → RunS) : (s.runMod f).flm = s.flm := rfl
@[simp] theorem State.runMod_acq (s : State) (f : RunS → RunS) : (s.runMod f).acq = s.acq := rfl
@[simp] theorem State.runMod_lanes (s : State) (f : RunS → RunS) : (s.runMod f).lanes = s.lanes := rfl
@[simp] theorem State.runMod_leat (s : State) (f : RunS → RunS) : (s.runMod f).leat = s.leat := rfl
@[simp] theorem State.runMod_flows (s : State) (f : RunS → RunS) : (s.runMod f).flows = s.flows := rfl
@[simp] theorem State.runMod_swc (s : State) (f : RunS → RunS) : (s.runMod f).swc = s.swc := rfl
@[simp] theorem State.runMod_weir (s : State) (f : RunS → RunS) : (s.runMod f).weir = s.weir := rfl
@[simp] theorem State.runMod_xlt (s : State) (f : RunS → RunS) : (s.runMod f).xlt = s.xlt := rfl
@[simp] theorem State.runMod_chk (s : State) (f : RunS → RunS) : (s.runMod f).chk = s.chk := rfl
@[simp] theorem State.runMod_wm (s : State) (f : RunS → RunS) : (s.runMod f).wm = s.wm := rfl
@[simp] theorem State.runMod_ten (s : State) (f : RunS → RunS) : (s.runMod f).ten = s.ten := rfl
@[simp] theorem State.runMod_prt (s : State) (f : RunS → RunS) : (s.runMod f).prt = s.prt := rfl
@[simp] theorem State.runMod_slots (s : State) (f : RunS → RunS) : (s.runMod f).slots = s.slots := rfl
@[simp] theorem State.runMod_tnd (s : State) (f : RunS → RunS) : (s.runMod f).tnd = s.tnd := rfl
@[simp] theorem State.runMod_notices (s : State) (f : RunS → RunS) : (s.runMod f).notices = s.notices := rfl
@[simp] theorem State.runMod_subscr (s : State) (f : RunS → RunS) : (s.runMod f).subscr = s.subscr := rfl
@[simp] theorem State.runMod_kinds (s : State) (f : RunS → RunS) : (s.runMod f).kinds = s.kinds := rfl
@[simp] theorem State.runMod_noticeTag (s : State) (f : RunS → RunS) : (s.runMod f).noticeTag = s.noticeTag := rfl
@[simp] theorem State.runMod_node (s : State) (f : RunS → RunS) : (s.runMod f).node = s.node := rfl
@[simp] theorem State.runMod_ustore (s : State) (f : RunS → RunS) : (s.runMod f).ustore = s.ustore := rfl
@[simp] theorem State.runMod_colds (s : State) (f : RunS → RunS) : (s.runMod f).colds = s.colds := rfl
@[simp] theorem State.runMod_boot (s : State) (f : RunS → RunS) : (s.runMod f).boot = s.boot := rfl
@[simp] theorem State.runMod_tap (s : State) (f : RunS → RunS) : (s.runMod f).tap = s.tap := rfl
@[simp] theorem State.runMod_rd (s : State) (u : RunS → RunS) (g : Fld) (j : Nat) : (s.runMod u).rd g j = s.rd g j := rfl
@[simp] theorem State.runMod_rdb (s : State) (u : RunS → RunS) (g : Fld) (j : Nat) : (s.runMod u).rdb g j = s.rdb g j := rfl

@[simp] theorem State.tenMod_pending (s : State) (f : TenS → TenS) : (s.tenMod f).pending = s.pending := rfl
@[simp] theorem State.tenMod_out (s : State) (f : TenS → TenS) : (s.tenMod f).out = s.out := rfl
@[simp] theorem State.tenMod_free (s : State) (f : TenS → TenS) : (s.tenMod f).free = s.free := rfl
@[simp] theorem State.tenMod_regs (s : State) (f : TenS → TenS) : (s.tenMod f).regs = s.regs := rfl
@[simp] theorem State.tenMod_latch (s : State) (f : TenS → TenS) : (s.tenMod f).latch = s.latch := rfl
@[simp] theorem State.tenMod_stage (s : State) (f : TenS → TenS) : (s.tenMod f).stage = s.stage := rfl
@[simp] theorem State.tenMod_pwr (s : State) (f : TenS → TenS) : (s.tenMod f).pwr = s.pwr := rfl
@[simp] theorem State.tenMod_ft (s : State) (f : TenS → TenS) : (s.tenMod f).ft = s.ft := rfl
@[simp] theorem State.tenMod_arch (s : State) (f : TenS → TenS) : (s.tenMod f).arch = s.arch := rfl
@[simp] theorem State.tenMod_spw (s : State) (f : TenS → TenS) : (s.tenMod f).spw = s.spw := rfl
@[simp] theorem State.tenMod_flm (s : State) (f : TenS → TenS) : (s.tenMod f).flm = s.flm := rfl
@[simp] theorem State.tenMod_acq (s : State) (f : TenS → TenS) : (s.tenMod f).acq = s.acq := rfl
@[simp] theorem State.tenMod_lanes (s : State) (f : TenS → TenS) : (s.tenMod f).lanes = s.lanes := rfl
@[simp] theorem State.tenMod_leat (s : State) (f : TenS → TenS) : (s.tenMod f).leat = s.leat := rfl
@[simp] theorem State.tenMod_flows (s : State) (f : TenS → TenS) : (s.tenMod f).flows = s.flows := rfl
@[simp] theorem State.tenMod_swc (s : State) (f : TenS → TenS) : (s.tenMod f).swc = s.swc := rfl
@[simp] theorem State.tenMod_weir (s : State) (f : TenS → TenS) : (s.tenMod f).weir = s.weir := rfl
@[simp] theorem State.tenMod_xlt (s : State) (f : TenS → TenS) : (s.tenMod f).xlt = s.xlt := rfl
@[simp] theorem State.tenMod_chk (s : State) (f : TenS → TenS) : (s.tenMod f).chk = s.chk := rfl
@[simp] theorem State.tenMod_wm (s : State) (f : TenS → TenS) : (s.tenMod f).wm = s.wm := rfl
@[simp] theorem State.tenMod_run (s : State) (f : TenS → TenS) : (s.tenMod f).run = s.run := rfl
@[simp] theorem State.tenMod_prt (s : State) (f : TenS → TenS) : (s.tenMod f).prt = s.prt := rfl
@[simp] theorem State.tenMod_slots (s : State) (f : TenS → TenS) : (s.tenMod f).slots = s.slots := rfl
@[simp] theorem State.tenMod_tnd (s : State) (f : TenS → TenS) : (s.tenMod f).tnd = s.tnd := rfl
@[simp] theorem State.tenMod_notices (s : State) (f : TenS → TenS) : (s.tenMod f).notices = s.notices := rfl
@[simp] theorem State.tenMod_subscr (s : State) (f : TenS → TenS) : (s.tenMod f).subscr = s.subscr := rfl
@[simp] theorem State.tenMod_kinds (s : State) (f : TenS → TenS) : (s.tenMod f).kinds = s.kinds := rfl
@[simp] theorem State.tenMod_noticeTag (s : State) (f : TenS → TenS) : (s.tenMod f).noticeTag = s.noticeTag := rfl
@[simp] theorem State.tenMod_node (s : State) (f : TenS → TenS) : (s.tenMod f).node = s.node := rfl
@[simp] theorem State.tenMod_ustore (s : State) (f : TenS → TenS) : (s.tenMod f).ustore = s.ustore := rfl
@[simp] theorem State.tenMod_colds (s : State) (f : TenS → TenS) : (s.tenMod f).colds = s.colds := rfl
@[simp] theorem State.tenMod_boot (s : State) (f : TenS → TenS) : (s.tenMod f).boot = s.boot := rfl
@[simp] theorem State.tenMod_tap (s : State) (f : TenS → TenS) : (s.tenMod f).tap = s.tap := rfl
@[simp] theorem State.tenMod_rd (s : State) (u : TenS → TenS) (g : Fld) (j : Nat) : (s.tenMod u).rd g j = s.rd g j := rfl
@[simp] theorem State.tenMod_rdb (s : State) (u : TenS → TenS) (g : Fld) (j : Nat) : (s.tenMod u).rdb g j = s.rdb g j := rfl

@[simp] theorem State.pwrMod_pending (s : State) (f : PwrS → PwrS) : (s.pwrMod f).pending = s.pending := rfl
@[simp] theorem State.pwrMod_out (s : State) (f : PwrS → PwrS) : (s.pwrMod f).out = s.out := rfl
@[simp] theorem State.pwrMod_free (s : State) (f : PwrS → PwrS) : (s.pwrMod f).free = s.free := rfl
@[simp] theorem State.pwrMod_regs (s : State) (f : PwrS → PwrS) : (s.pwrMod f).regs = s.regs := rfl
@[simp] theorem State.pwrMod_latch (s : State) (f : PwrS → PwrS) : (s.pwrMod f).latch = s.latch := rfl
@[simp] theorem State.pwrMod_stage (s : State) (f : PwrS → PwrS) : (s.pwrMod f).stage = s.stage := rfl
@[simp] theorem State.pwrMod_ft (s : State) (f : PwrS → PwrS) : (s.pwrMod f).ft = s.ft := rfl
@[simp] theorem State.pwrMod_arch (s : State) (f : PwrS → PwrS) : (s.pwrMod f).arch = s.arch := rfl
@[simp] theorem State.pwrMod_spw (s : State) (f : PwrS → PwrS) : (s.pwrMod f).spw = s.spw := rfl
@[simp] theorem State.pwrMod_flm (s : State) (f : PwrS → PwrS) : (s.pwrMod f).flm = s.flm := rfl
@[simp] theorem State.pwrMod_acq (s : State) (f : PwrS → PwrS) : (s.pwrMod f).acq = s.acq := rfl
@[simp] theorem State.pwrMod_lanes (s : State) (f : PwrS → PwrS) : (s.pwrMod f).lanes = s.lanes := rfl
@[simp] theorem State.pwrMod_leat (s : State) (f : PwrS → PwrS) : (s.pwrMod f).leat = s.leat := rfl
@[simp] theorem State.pwrMod_flows (s : State) (f : PwrS → PwrS) : (s.pwrMod f).flows = s.flows := rfl
@[simp] theorem State.pwrMod_swc (s : State) (f : PwrS → PwrS) : (s.pwrMod f).swc = s.swc := rfl
@[simp] theorem State.pwrMod_weir (s : State) (f : PwrS → PwrS) : (s.pwrMod f).weir = s.weir := rfl
@[simp] theorem State.pwrMod_xlt (s : State) (f : PwrS → PwrS) : (s.pwrMod f).xlt = s.xlt := rfl
@[simp] theorem State.pwrMod_chk (s : State) (f : PwrS → PwrS) : (s.pwrMod f).chk = s.chk := rfl
@[simp] theorem State.pwrMod_wm (s : State) (f : PwrS → PwrS) : (s.pwrMod f).wm = s.wm := rfl
@[simp] theorem State.pwrMod_run (s : State) (f : PwrS → PwrS) : (s.pwrMod f).run = s.run := rfl
@[simp] theorem State.pwrMod_ten (s : State) (f : PwrS → PwrS) : (s.pwrMod f).ten = s.ten := rfl
@[simp] theorem State.pwrMod_prt (s : State) (f : PwrS → PwrS) : (s.pwrMod f).prt = s.prt := rfl
@[simp] theorem State.pwrMod_slots (s : State) (f : PwrS → PwrS) : (s.pwrMod f).slots = s.slots := rfl
@[simp] theorem State.pwrMod_tnd (s : State) (f : PwrS → PwrS) : (s.pwrMod f).tnd = s.tnd := rfl
@[simp] theorem State.pwrMod_notices (s : State) (f : PwrS → PwrS) : (s.pwrMod f).notices = s.notices := rfl
@[simp] theorem State.pwrMod_subscr (s : State) (f : PwrS → PwrS) : (s.pwrMod f).subscr = s.subscr := rfl
@[simp] theorem State.pwrMod_kinds (s : State) (f : PwrS → PwrS) : (s.pwrMod f).kinds = s.kinds := rfl
@[simp] theorem State.pwrMod_noticeTag (s : State) (f : PwrS → PwrS) : (s.pwrMod f).noticeTag = s.noticeTag := rfl
@[simp] theorem State.pwrMod_node (s : State) (f : PwrS → PwrS) : (s.pwrMod f).node = s.node := rfl
@[simp] theorem State.pwrMod_ustore (s : State) (f : PwrS → PwrS) : (s.pwrMod f).ustore = s.ustore := rfl
@[simp] theorem State.pwrMod_colds (s : State) (f : PwrS → PwrS) : (s.pwrMod f).colds = s.colds := rfl
@[simp] theorem State.pwrMod_boot (s : State) (f : PwrS → PwrS) : (s.pwrMod f).boot = s.boot := rfl
@[simp] theorem State.pwrMod_tap (s : State) (f : PwrS → PwrS) : (s.pwrMod f).tap = s.tap := rfl
@[simp] theorem State.pwrMod_rd (s : State) (u : PwrS → PwrS) (g : Fld) (j : Nat) : (s.pwrMod u).rd g j = s.rd g j := rfl
@[simp] theorem State.pwrMod_rdb (s : State) (u : PwrS → PwrS) (g : Fld) (j : Nat) : (s.pwrMod u).rdb g j = s.rdb g j := rfl

@[simp] theorem State.ftMod_pending (s : State) (f : FtS → FtS) : (s.ftMod f).pending = s.pending := rfl
@[simp] theorem State.ftMod_out (s : State) (f : FtS → FtS) : (s.ftMod f).out = s.out := rfl
@[simp] theorem State.ftMod_free (s : State) (f : FtS → FtS) : (s.ftMod f).free = s.free := rfl
@[simp] theorem State.ftMod_regs (s : State) (f : FtS → FtS) : (s.ftMod f).regs = s.regs := rfl
@[simp] theorem State.ftMod_latch (s : State) (f : FtS → FtS) : (s.ftMod f).latch = s.latch := rfl
@[simp] theorem State.ftMod_stage (s : State) (f : FtS → FtS) : (s.ftMod f).stage = s.stage := rfl
@[simp] theorem State.ftMod_pwr (s : State) (f : FtS → FtS) : (s.ftMod f).pwr = s.pwr := rfl
@[simp] theorem State.ftMod_arch (s : State) (f : FtS → FtS) : (s.ftMod f).arch = s.arch := rfl
@[simp] theorem State.ftMod_spw (s : State) (f : FtS → FtS) : (s.ftMod f).spw = s.spw := rfl
@[simp] theorem State.ftMod_flm (s : State) (f : FtS → FtS) : (s.ftMod f).flm = s.flm := rfl
@[simp] theorem State.ftMod_acq (s : State) (f : FtS → FtS) : (s.ftMod f).acq = s.acq := rfl
@[simp] theorem State.ftMod_lanes (s : State) (f : FtS → FtS) : (s.ftMod f).lanes = s.lanes := rfl
@[simp] theorem State.ftMod_leat (s : State) (f : FtS → FtS) : (s.ftMod f).leat = s.leat := rfl
@[simp] theorem State.ftMod_flows (s : State) (f : FtS → FtS) : (s.ftMod f).flows = s.flows := rfl
@[simp] theorem State.ftMod_swc (s : State) (f : FtS → FtS) : (s.ftMod f).swc = s.swc := rfl
@[simp] theorem State.ftMod_weir (s : State) (f : FtS → FtS) : (s.ftMod f).weir = s.weir := rfl
@[simp] theorem State.ftMod_xlt (s : State) (f : FtS → FtS) : (s.ftMod f).xlt = s.xlt := rfl
@[simp] theorem State.ftMod_chk (s : State) (f : FtS → FtS) : (s.ftMod f).chk = s.chk := rfl
@[simp] theorem State.ftMod_wm (s : State) (f : FtS → FtS) : (s.ftMod f).wm = s.wm := rfl
@[simp] theorem State.ftMod_run (s : State) (f : FtS → FtS) : (s.ftMod f).run = s.run := rfl
@[simp] theorem State.ftMod_ten (s : State) (f : FtS → FtS) : (s.ftMod f).ten = s.ten := rfl
@[simp] theorem State.ftMod_prt (s : State) (f : FtS → FtS) : (s.ftMod f).prt = s.prt := rfl
@[simp] theorem State.ftMod_slots (s : State) (f : FtS → FtS) : (s.ftMod f).slots = s.slots := rfl
@[simp] theorem State.ftMod_tnd (s : State) (f : FtS → FtS) : (s.ftMod f).tnd = s.tnd := rfl
@[simp] theorem State.ftMod_notices (s : State) (f : FtS → FtS) : (s.ftMod f).notices = s.notices := rfl
@[simp] theorem State.ftMod_subscr (s : State) (f : FtS → FtS) : (s.ftMod f).subscr = s.subscr := rfl
@[simp] theorem State.ftMod_kinds (s : State) (f : FtS → FtS) : (s.ftMod f).kinds = s.kinds := rfl
@[simp] theorem State.ftMod_noticeTag (s : State) (f : FtS → FtS) : (s.ftMod f).noticeTag = s.noticeTag := rfl
@[simp] theorem State.ftMod_node (s : State) (f : FtS → FtS) : (s.ftMod f).node = s.node := rfl
@[simp] theorem State.ftMod_ustore (s : State) (f : FtS → FtS) : (s.ftMod f).ustore = s.ustore := rfl
@[simp] theorem State.ftMod_colds (s : State) (f : FtS → FtS) : (s.ftMod f).colds = s.colds := rfl
@[simp] theorem State.ftMod_boot (s : State) (f : FtS → FtS) : (s.ftMod f).boot = s.boot := rfl
@[simp] theorem State.ftMod_tap (s : State) (f : FtS → FtS) : (s.ftMod f).tap = s.tap := rfl
@[simp] theorem State.ftMod_rd (s : State) (u : FtS → FtS) (g : Fld) (j : Nat) : (s.ftMod u).rd g j = s.rd g j := rfl
@[simp] theorem State.ftMod_rdb (s : State) (u : FtS → FtS) (g : Fld) (j : Nat) : (s.ftMod u).rdb g j = s.rdb g j := rfl

@[simp] theorem State.spwMod_pending (s : State) (f : SpwS → SpwS) : (s.spwMod f).pending = s.pending := rfl
@[simp] theorem State.spwMod_out (s : State) (f : SpwS → SpwS) : (s.spwMod f).out = s.out := rfl
@[simp] theorem State.spwMod_free (s : State) (f : SpwS → SpwS) : (s.spwMod f).free = s.free := rfl
@[simp] theorem State.spwMod_regs (s : State) (f : SpwS → SpwS) : (s.spwMod f).regs = s.regs := rfl
@[simp] theorem State.spwMod_latch (s : State) (f : SpwS → SpwS) : (s.spwMod f).latch = s.latch := rfl
@[simp] theorem State.spwMod_stage (s : State) (f : SpwS → SpwS) : (s.spwMod f).stage = s.stage := rfl
@[simp] theorem State.spwMod_pwr (s : State) (f : SpwS → SpwS) : (s.spwMod f).pwr = s.pwr := rfl
@[simp] theorem State.spwMod_ft (s : State) (f : SpwS → SpwS) : (s.spwMod f).ft = s.ft := rfl
@[simp] theorem State.spwMod_arch (s : State) (f : SpwS → SpwS) : (s.spwMod f).arch = s.arch := rfl
@[simp] theorem State.spwMod_flm (s : State) (f : SpwS → SpwS) : (s.spwMod f).flm = s.flm := rfl
@[simp] theorem State.spwMod_acq (s : State) (f : SpwS → SpwS) : (s.spwMod f).acq = s.acq := rfl
@[simp] theorem State.spwMod_lanes (s : State) (f : SpwS → SpwS) : (s.spwMod f).lanes = s.lanes := rfl
@[simp] theorem State.spwMod_leat (s : State) (f : SpwS → SpwS) : (s.spwMod f).leat = s.leat := rfl
@[simp] theorem State.spwMod_flows (s : State) (f : SpwS → SpwS) : (s.spwMod f).flows = s.flows := rfl
@[simp] theorem State.spwMod_swc (s : State) (f : SpwS → SpwS) : (s.spwMod f).swc = s.swc := rfl
@[simp] theorem State.spwMod_weir (s : State) (f : SpwS → SpwS) : (s.spwMod f).weir = s.weir := rfl
@[simp] theorem State.spwMod_xlt (s : State) (f : SpwS → SpwS) : (s.spwMod f).xlt = s.xlt := rfl
@[simp] theorem State.spwMod_chk (s : State) (f : SpwS → SpwS) : (s.spwMod f).chk = s.chk := rfl
@[simp] theorem State.spwMod_wm (s : State) (f : SpwS → SpwS) : (s.spwMod f).wm = s.wm := rfl
@[simp] theorem State.spwMod_run (s : State) (f : SpwS → SpwS) : (s.spwMod f).run = s.run := rfl
@[simp] theorem State.spwMod_ten (s : State) (f : SpwS → SpwS) : (s.spwMod f).ten = s.ten := rfl
@[simp] theorem State.spwMod_prt (s : State) (f : SpwS → SpwS) : (s.spwMod f).prt = s.prt := rfl
@[simp] theorem State.spwMod_slots (s : State) (f : SpwS → SpwS) : (s.spwMod f).slots = s.slots := rfl
@[simp] theorem State.spwMod_tnd (s : State) (f : SpwS → SpwS) : (s.spwMod f).tnd = s.tnd := rfl
@[simp] theorem State.spwMod_notices (s : State) (f : SpwS → SpwS) : (s.spwMod f).notices = s.notices := rfl
@[simp] theorem State.spwMod_subscr (s : State) (f : SpwS → SpwS) : (s.spwMod f).subscr = s.subscr := rfl
@[simp] theorem State.spwMod_kinds (s : State) (f : SpwS → SpwS) : (s.spwMod f).kinds = s.kinds := rfl
@[simp] theorem State.spwMod_noticeTag (s : State) (f : SpwS → SpwS) : (s.spwMod f).noticeTag = s.noticeTag := rfl
@[simp] theorem State.spwMod_node (s : State) (f : SpwS → SpwS) : (s.spwMod f).node = s.node := rfl
@[simp] theorem State.spwMod_ustore (s : State) (f : SpwS → SpwS) : (s.spwMod f).ustore = s.ustore := rfl
@[simp] theorem State.spwMod_colds (s : State) (f : SpwS → SpwS) : (s.spwMod f).colds = s.colds := rfl
@[simp] theorem State.spwMod_boot (s : State) (f : SpwS → SpwS) : (s.spwMod f).boot = s.boot := rfl
@[simp] theorem State.spwMod_tap (s : State) (f : SpwS → SpwS) : (s.spwMod f).tap = s.tap := rfl
@[simp] theorem State.spwMod_rd (s : State) (u : SpwS → SpwS) (g : Fld) (j : Nat) : (s.spwMod u).rd g j = s.rd g j := rfl
@[simp] theorem State.spwMod_rdb (s : State) (u : SpwS → SpwS) (g : Fld) (j : Nat) : (s.spwMod u).rdb g j = s.rdb g j := rfl

@[simp] theorem State.flmMod_pending (s : State) (f : FlmS → FlmS) : (s.flmMod f).pending = s.pending := rfl
@[simp] theorem State.flmMod_out (s : State) (f : FlmS → FlmS) : (s.flmMod f).out = s.out := rfl
@[simp] theorem State.flmMod_free (s : State) (f : FlmS → FlmS) : (s.flmMod f).free = s.free := rfl
@[simp] theorem State.flmMod_regs (s : State) (f : FlmS → FlmS) : (s.flmMod f).regs = s.regs := rfl
@[simp] theorem State.flmMod_latch (s : State) (f : FlmS → FlmS) : (s.flmMod f).latch = s.latch := rfl
@[simp] theorem State.flmMod_stage (s : State) (f : FlmS → FlmS) : (s.flmMod f).stage = s.stage := rfl
@[simp] theorem State.flmMod_pwr (s : State) (f : FlmS → FlmS) : (s.flmMod f).pwr = s.pwr := rfl
@[simp] theorem State.flmMod_ft (s : State) (f : FlmS → FlmS) : (s.flmMod f).ft = s.ft := rfl
@[simp] theorem State.flmMod_arch (s : State) (f : FlmS → FlmS) : (s.flmMod f).arch = s.arch := rfl
@[simp] theorem State.flmMod_spw (s : State) (f : FlmS → FlmS) : (s.flmMod f).spw = s.spw := rfl
@[simp] theorem State.flmMod_acq (s : State) (f : FlmS → FlmS) : (s.flmMod f).acq = s.acq := rfl
@[simp] theorem State.flmMod_lanes (s : State) (f : FlmS → FlmS) : (s.flmMod f).lanes = s.lanes := rfl
@[simp] theorem State.flmMod_leat (s : State) (f : FlmS → FlmS) : (s.flmMod f).leat = s.leat := rfl
@[simp] theorem State.flmMod_flows (s : State) (f : FlmS → FlmS) : (s.flmMod f).flows = s.flows := rfl
@[simp] theorem State.flmMod_swc (s : State) (f : FlmS → FlmS) : (s.flmMod f).swc = s.swc := rfl
@[simp] theorem State.flmMod_weir (s : State) (f : FlmS → FlmS) : (s.flmMod f).weir = s.weir := rfl
@[simp] theorem State.flmMod_xlt (s : State) (f : FlmS → FlmS) : (s.flmMod f).xlt = s.xlt := rfl
@[simp] theorem State.flmMod_chk (s : State) (f : FlmS → FlmS) : (s.flmMod f).chk = s.chk := rfl
@[simp] theorem State.flmMod_wm (s : State) (f : FlmS → FlmS) : (s.flmMod f).wm = s.wm := rfl
@[simp] theorem State.flmMod_run (s : State) (f : FlmS → FlmS) : (s.flmMod f).run = s.run := rfl
@[simp] theorem State.flmMod_ten (s : State) (f : FlmS → FlmS) : (s.flmMod f).ten = s.ten := rfl
@[simp] theorem State.flmMod_prt (s : State) (f : FlmS → FlmS) : (s.flmMod f).prt = s.prt := rfl
@[simp] theorem State.flmMod_slots (s : State) (f : FlmS → FlmS) : (s.flmMod f).slots = s.slots := rfl
@[simp] theorem State.flmMod_tnd (s : State) (f : FlmS → FlmS) : (s.flmMod f).tnd = s.tnd := rfl
@[simp] theorem State.flmMod_notices (s : State) (f : FlmS → FlmS) : (s.flmMod f).notices = s.notices := rfl
@[simp] theorem State.flmMod_subscr (s : State) (f : FlmS → FlmS) : (s.flmMod f).subscr = s.subscr := rfl
@[simp] theorem State.flmMod_kinds (s : State) (f : FlmS → FlmS) : (s.flmMod f).kinds = s.kinds := rfl
@[simp] theorem State.flmMod_noticeTag (s : State) (f : FlmS → FlmS) : (s.flmMod f).noticeTag = s.noticeTag := rfl
@[simp] theorem State.flmMod_node (s : State) (f : FlmS → FlmS) : (s.flmMod f).node = s.node := rfl
@[simp] theorem State.flmMod_ustore (s : State) (f : FlmS → FlmS) : (s.flmMod f).ustore = s.ustore := rfl
@[simp] theorem State.flmMod_colds (s : State) (f : FlmS → FlmS) : (s.flmMod f).colds = s.colds := rfl
@[simp] theorem State.flmMod_boot (s : State) (f : FlmS → FlmS) : (s.flmMod f).boot = s.boot := rfl
@[simp] theorem State.flmMod_tap (s : State) (f : FlmS → FlmS) : (s.flmMod f).tap = s.tap := rfl
@[simp] theorem State.flmMod_rd (s : State) (u : FlmS → FlmS) (g : Fld) (j : Nat) : (s.flmMod u).rd g j = s.rd g j := rfl
@[simp] theorem State.flmMod_rdb (s : State) (u : FlmS → FlmS) (g : Fld) (j : Nat) : (s.flmMod u).rdb g j = s.rdb g j := rfl

@[simp] theorem State.weirMod_pending (s : State) (f : WeirS → WeirS) : (s.weirMod f).pending = s.pending := rfl
@[simp] theorem State.weirMod_out (s : State) (f : WeirS → WeirS) : (s.weirMod f).out = s.out := rfl
@[simp] theorem State.weirMod_free (s : State) (f : WeirS → WeirS) : (s.weirMod f).free = s.free := rfl
@[simp] theorem State.weirMod_regs (s : State) (f : WeirS → WeirS) : (s.weirMod f).regs = s.regs := rfl
@[simp] theorem State.weirMod_latch (s : State) (f : WeirS → WeirS) : (s.weirMod f).latch = s.latch := rfl
@[simp] theorem State.weirMod_stage (s : State) (f : WeirS → WeirS) : (s.weirMod f).stage = s.stage := rfl
@[simp] theorem State.weirMod_pwr (s : State) (f : WeirS → WeirS) : (s.weirMod f).pwr = s.pwr := rfl
@[simp] theorem State.weirMod_ft (s : State) (f : WeirS → WeirS) : (s.weirMod f).ft = s.ft := rfl
@[simp] theorem State.weirMod_arch (s : State) (f : WeirS → WeirS) : (s.weirMod f).arch = s.arch := rfl
@[simp] theorem State.weirMod_spw (s : State) (f : WeirS → WeirS) : (s.weirMod f).spw = s.spw := rfl
@[simp] theorem State.weirMod_flm (s : State) (f : WeirS → WeirS) : (s.weirMod f).flm = s.flm := rfl
@[simp] theorem State.weirMod_acq (s : State) (f : WeirS → WeirS) : (s.weirMod f).acq = s.acq := rfl
@[simp] theorem State.weirMod_lanes (s : State) (f : WeirS → WeirS) : (s.weirMod f).lanes = s.lanes := rfl
@[simp] theorem State.weirMod_leat (s : State) (f : WeirS → WeirS) : (s.weirMod f).leat = s.leat := rfl
@[simp] theorem State.weirMod_flows (s : State) (f : WeirS → WeirS) : (s.weirMod f).flows = s.flows := rfl
@[simp] theorem State.weirMod_swc (s : State) (f : WeirS → WeirS) : (s.weirMod f).swc = s.swc := rfl
@[simp] theorem State.weirMod_xlt (s : State) (f : WeirS → WeirS) : (s.weirMod f).xlt = s.xlt := rfl
@[simp] theorem State.weirMod_chk (s : State) (f : WeirS → WeirS) : (s.weirMod f).chk = s.chk := rfl
@[simp] theorem State.weirMod_wm (s : State) (f : WeirS → WeirS) : (s.weirMod f).wm = s.wm := rfl
@[simp] theorem State.weirMod_run (s : State) (f : WeirS → WeirS) : (s.weirMod f).run = s.run := rfl
@[simp] theorem State.weirMod_ten (s : State) (f : WeirS → WeirS) : (s.weirMod f).ten = s.ten := rfl
@[simp] theorem State.weirMod_prt (s : State) (f : WeirS → WeirS) : (s.weirMod f).prt = s.prt := rfl
@[simp] theorem State.weirMod_slots (s : State) (f : WeirS → WeirS) : (s.weirMod f).slots = s.slots := rfl
@[simp] theorem State.weirMod_tnd (s : State) (f : WeirS → WeirS) : (s.weirMod f).tnd = s.tnd := rfl
@[simp] theorem State.weirMod_notices (s : State) (f : WeirS → WeirS) : (s.weirMod f).notices = s.notices := rfl
@[simp] theorem State.weirMod_subscr (s : State) (f : WeirS → WeirS) : (s.weirMod f).subscr = s.subscr := rfl
@[simp] theorem State.weirMod_kinds (s : State) (f : WeirS → WeirS) : (s.weirMod f).kinds = s.kinds := rfl
@[simp] theorem State.weirMod_noticeTag (s : State) (f : WeirS → WeirS) : (s.weirMod f).noticeTag = s.noticeTag := rfl
@[simp] theorem State.weirMod_node (s : State) (f : WeirS → WeirS) : (s.weirMod f).node = s.node := rfl
@[simp] theorem State.weirMod_ustore (s : State) (f : WeirS → WeirS) : (s.weirMod f).ustore = s.ustore := rfl
@[simp] theorem State.weirMod_colds (s : State) (f : WeirS → WeirS) : (s.weirMod f).colds = s.colds := rfl
@[simp] theorem State.weirMod_boot (s : State) (f : WeirS → WeirS) : (s.weirMod f).boot = s.boot := rfl
@[simp] theorem State.weirMod_tap (s : State) (f : WeirS → WeirS) : (s.weirMod f).tap = s.tap := rfl
@[simp] theorem State.weirMod_rd (s : State) (u : WeirS → WeirS) (g : Fld) (j : Nat) : (s.weirMod u).rd g j = s.rd g j := rfl
@[simp] theorem State.weirMod_rdb (s : State) (u : WeirS → WeirS) (g : Fld) (j : Nat) : (s.weirMod u).rdb g j = s.rdb g j := rfl

@[simp] theorem State.xltMod_pending (s : State) (f : XltS → XltS) : (s.xltMod f).pending = s.pending := rfl
@[simp] theorem State.xltMod_out (s : State) (f : XltS → XltS) : (s.xltMod f).out = s.out := rfl
@[simp] theorem State.xltMod_free (s : State) (f : XltS → XltS) : (s.xltMod f).free = s.free := rfl
@[simp] theorem State.xltMod_regs (s : State) (f : XltS → XltS) : (s.xltMod f).regs = s.regs := rfl
@[simp] theorem State.xltMod_latch (s : State) (f : XltS → XltS) : (s.xltMod f).latch = s.latch := rfl
@[simp] theorem State.xltMod_stage (s : State) (f : XltS → XltS) : (s.xltMod f).stage = s.stage := rfl
@[simp] theorem State.xltMod_pwr (s : State) (f : XltS → XltS) : (s.xltMod f).pwr = s.pwr := rfl
@[simp] theorem State.xltMod_ft (s : State) (f : XltS → XltS) : (s.xltMod f).ft = s.ft := rfl
@[simp] theorem State.xltMod_arch (s : State) (f : XltS → XltS) : (s.xltMod f).arch = s.arch := rfl
@[simp] theorem State.xltMod_spw (s : State) (f : XltS → XltS) : (s.xltMod f).spw = s.spw := rfl
@[simp] theorem State.xltMod_flm (s : State) (f : XltS → XltS) : (s.xltMod f).flm = s.flm := rfl
@[simp] theorem State.xltMod_acq (s : State) (f : XltS → XltS) : (s.xltMod f).acq = s.acq := rfl
@[simp] theorem State.xltMod_lanes (s : State) (f : XltS → XltS) : (s.xltMod f).lanes = s.lanes := rfl
@[simp] theorem State.xltMod_leat (s : State) (f : XltS → XltS) : (s.xltMod f).leat = s.leat := rfl
@[simp] theorem State.xltMod_flows (s : State) (f : XltS → XltS) : (s.xltMod f).flows = s.flows := rfl
@[simp] theorem State.xltMod_swc (s : State) (f : XltS → XltS) : (s.xltMod f).swc = s.swc := rfl
@[simp] theorem State.xltMod_weir (s : State) (f : XltS → XltS) : (s.xltMod f).weir = s.weir := rfl
@[simp] theorem State.xltMod_chk (s : State) (f : XltS → XltS) : (s.xltMod f).chk = s.chk := rfl
@[simp] theorem State.xltMod_wm (s : State) (f : XltS → XltS) : (s.xltMod f).wm = s.wm := rfl
@[simp] theorem State.xltMod_run (s : State) (f : XltS → XltS) : (s.xltMod f).run = s.run := rfl
@[simp] theorem State.xltMod_ten (s : State) (f : XltS → XltS) : (s.xltMod f).ten = s.ten := rfl
@[simp] theorem State.xltMod_prt (s : State) (f : XltS → XltS) : (s.xltMod f).prt = s.prt := rfl
@[simp] theorem State.xltMod_slots (s : State) (f : XltS → XltS) : (s.xltMod f).slots = s.slots := rfl
@[simp] theorem State.xltMod_tnd (s : State) (f : XltS → XltS) : (s.xltMod f).tnd = s.tnd := rfl
@[simp] theorem State.xltMod_notices (s : State) (f : XltS → XltS) : (s.xltMod f).notices = s.notices := rfl
@[simp] theorem State.xltMod_subscr (s : State) (f : XltS → XltS) : (s.xltMod f).subscr = s.subscr := rfl
@[simp] theorem State.xltMod_kinds (s : State) (f : XltS → XltS) : (s.xltMod f).kinds = s.kinds := rfl
@[simp] theorem State.xltMod_noticeTag (s : State) (f : XltS → XltS) : (s.xltMod f).noticeTag = s.noticeTag := rfl
@[simp] theorem State.xltMod_node (s : State) (f : XltS → XltS) : (s.xltMod f).node = s.node := rfl
@[simp] theorem State.xltMod_ustore (s : State) (f : XltS → XltS) : (s.xltMod f).ustore = s.ustore := rfl
@[simp] theorem State.xltMod_colds (s : State) (f : XltS → XltS) : (s.xltMod f).colds = s.colds := rfl
@[simp] theorem State.xltMod_boot (s : State) (f : XltS → XltS) : (s.xltMod f).boot = s.boot := rfl
@[simp] theorem State.xltMod_tap (s : State) (f : XltS → XltS) : (s.xltMod f).tap = s.tap := rfl
@[simp] theorem State.xltMod_rd (s : State) (u : XltS → XltS) (g : Fld) (j : Nat) : (s.xltMod u).rd g j = s.rd g j := rfl
@[simp] theorem State.xltMod_rdb (s : State) (u : XltS → XltS) (g : Fld) (j : Nat) : (s.xltMod u).rdb g j = s.rdb g j := rfl

@[simp] theorem State.wmMod_pending (s : State) (f : WmS → WmS) : (s.wmMod f).pending = s.pending := rfl
@[simp] theorem State.wmMod_out (s : State) (f : WmS → WmS) : (s.wmMod f).out = s.out := rfl
@[simp] theorem State.wmMod_free (s : State) (f : WmS → WmS) : (s.wmMod f).free = s.free := rfl
@[simp] theorem State.wmMod_regs (s : State) (f : WmS → WmS) : (s.wmMod f).regs = s.regs := rfl
@[simp] theorem State.wmMod_latch (s : State) (f : WmS → WmS) : (s.wmMod f).latch = s.latch := rfl
@[simp] theorem State.wmMod_stage (s : State) (f : WmS → WmS) : (s.wmMod f).stage = s.stage := rfl
@[simp] theorem State.wmMod_pwr (s : State) (f : WmS → WmS) : (s.wmMod f).pwr = s.pwr := rfl
@[simp] theorem State.wmMod_ft (s : State) (f : WmS → WmS) : (s.wmMod f).ft = s.ft := rfl
@[simp] theorem State.wmMod_arch (s : State) (f : WmS → WmS) : (s.wmMod f).arch = s.arch := rfl
@[simp] theorem State.wmMod_spw (s : State) (f : WmS → WmS) : (s.wmMod f).spw = s.spw := rfl
@[simp] theorem State.wmMod_flm (s : State) (f : WmS → WmS) : (s.wmMod f).flm = s.flm := rfl
@[simp] theorem State.wmMod_acq (s : State) (f : WmS → WmS) : (s.wmMod f).acq = s.acq := rfl
@[simp] theorem State.wmMod_lanes (s : State) (f : WmS → WmS) : (s.wmMod f).lanes = s.lanes := rfl
@[simp] theorem State.wmMod_leat (s : State) (f : WmS → WmS) : (s.wmMod f).leat = s.leat := rfl
@[simp] theorem State.wmMod_flows (s : State) (f : WmS → WmS) : (s.wmMod f).flows = s.flows := rfl
@[simp] theorem State.wmMod_swc (s : State) (f : WmS → WmS) : (s.wmMod f).swc = s.swc := rfl
@[simp] theorem State.wmMod_weir (s : State) (f : WmS → WmS) : (s.wmMod f).weir = s.weir := rfl
@[simp] theorem State.wmMod_xlt (s : State) (f : WmS → WmS) : (s.wmMod f).xlt = s.xlt := rfl
@[simp] theorem State.wmMod_chk (s : State) (f : WmS → WmS) : (s.wmMod f).chk = s.chk := rfl
@[simp] theorem State.wmMod_run (s : State) (f : WmS → WmS) : (s.wmMod f).run = s.run := rfl
@[simp] theorem State.wmMod_ten (s : State) (f : WmS → WmS) : (s.wmMod f).ten = s.ten := rfl
@[simp] theorem State.wmMod_prt (s : State) (f : WmS → WmS) : (s.wmMod f).prt = s.prt := rfl
@[simp] theorem State.wmMod_slots (s : State) (f : WmS → WmS) : (s.wmMod f).slots = s.slots := rfl
@[simp] theorem State.wmMod_tnd (s : State) (f : WmS → WmS) : (s.wmMod f).tnd = s.tnd := rfl
@[simp] theorem State.wmMod_notices (s : State) (f : WmS → WmS) : (s.wmMod f).notices = s.notices := rfl
@[simp] theorem State.wmMod_subscr (s : State) (f : WmS → WmS) : (s.wmMod f).subscr = s.subscr := rfl
@[simp] theorem State.wmMod_kinds (s : State) (f : WmS → WmS) : (s.wmMod f).kinds = s.kinds := rfl
@[simp] theorem State.wmMod_noticeTag (s : State) (f : WmS → WmS) : (s.wmMod f).noticeTag = s.noticeTag := rfl
@[simp] theorem State.wmMod_node (s : State) (f : WmS → WmS) : (s.wmMod f).node = s.node := rfl
@[simp] theorem State.wmMod_ustore (s : State) (f : WmS → WmS) : (s.wmMod f).ustore = s.ustore := rfl
@[simp] theorem State.wmMod_colds (s : State) (f : WmS → WmS) : (s.wmMod f).colds = s.colds := rfl
@[simp] theorem State.wmMod_boot (s : State) (f : WmS → WmS) : (s.wmMod f).boot = s.boot := rfl
@[simp] theorem State.wmMod_tap (s : State) (f : WmS → WmS) : (s.wmMod f).tap = s.tap := rfl
@[simp] theorem State.wmMod_rd (s : State) (u : WmS → WmS) (g : Fld) (j : Nat) : (s.wmMod u).rd g j = s.rd g j := rfl
@[simp] theorem State.wmMod_rdb (s : State) (u : WmS → WmS) (g : Fld) (j : Nat) : (s.wmMod u).rdb g j = s.rdb g j := rfl

@[simp] theorem State.tndMod_pending (s : State) (f : TndS → TndS) : (s.tndMod f).pending = s.pending := rfl
@[simp] theorem State.tndMod_out (s : State) (f : TndS → TndS) : (s.tndMod f).out = s.out := rfl
@[simp] theorem State.tndMod_free (s : State) (f : TndS → TndS) : (s.tndMod f).free = s.free := rfl
@[simp] theorem State.tndMod_regs (s : State) (f : TndS → TndS) : (s.tndMod f).regs = s.regs := rfl
@[simp] theorem State.tndMod_latch (s : State) (f : TndS → TndS) : (s.tndMod f).latch = s.latch := rfl
@[simp] theorem State.tndMod_stage (s : State) (f : TndS → TndS) : (s.tndMod f).stage = s.stage := rfl
@[simp] theorem State.tndMod_pwr (s : State) (f : TndS → TndS) : (s.tndMod f).pwr = s.pwr := rfl
@[simp] theorem State.tndMod_ft (s : State) (f : TndS → TndS) : (s.tndMod f).ft = s.ft := rfl
@[simp] theorem State.tndMod_arch (s : State) (f : TndS → TndS) : (s.tndMod f).arch = s.arch := rfl
@[simp] theorem State.tndMod_spw (s : State) (f : TndS → TndS) : (s.tndMod f).spw = s.spw := rfl
@[simp] theorem State.tndMod_flm (s : State) (f : TndS → TndS) : (s.tndMod f).flm = s.flm := rfl
@[simp] theorem State.tndMod_acq (s : State) (f : TndS → TndS) : (s.tndMod f).acq = s.acq := rfl
@[simp] theorem State.tndMod_lanes (s : State) (f : TndS → TndS) : (s.tndMod f).lanes = s.lanes := rfl
@[simp] theorem State.tndMod_leat (s : State) (f : TndS → TndS) : (s.tndMod f).leat = s.leat := rfl
@[simp] theorem State.tndMod_flows (s : State) (f : TndS → TndS) : (s.tndMod f).flows = s.flows := rfl
@[simp] theorem State.tndMod_swc (s : State) (f : TndS → TndS) : (s.tndMod f).swc = s.swc := rfl
@[simp] theorem State.tndMod_weir (s : State) (f : TndS → TndS) : (s.tndMod f).weir = s.weir := rfl
@[simp] theorem State.tndMod_xlt (s : State) (f : TndS → TndS) : (s.tndMod f).xlt = s.xlt := rfl
@[simp] theorem State.tndMod_chk (s : State) (f : TndS → TndS) : (s.tndMod f).chk = s.chk := rfl
@[simp] theorem State.tndMod_wm (s : State) (f : TndS → TndS) : (s.tndMod f).wm = s.wm := rfl
@[simp] theorem State.tndMod_run (s : State) (f : TndS → TndS) : (s.tndMod f).run = s.run := rfl
@[simp] theorem State.tndMod_ten (s : State) (f : TndS → TndS) : (s.tndMod f).ten = s.ten := rfl
@[simp] theorem State.tndMod_prt (s : State) (f : TndS → TndS) : (s.tndMod f).prt = s.prt := rfl
@[simp] theorem State.tndMod_slots (s : State) (f : TndS → TndS) : (s.tndMod f).slots = s.slots := rfl
@[simp] theorem State.tndMod_notices (s : State) (f : TndS → TndS) : (s.tndMod f).notices = s.notices := rfl
@[simp] theorem State.tndMod_subscr (s : State) (f : TndS → TndS) : (s.tndMod f).subscr = s.subscr := rfl
@[simp] theorem State.tndMod_kinds (s : State) (f : TndS → TndS) : (s.tndMod f).kinds = s.kinds := rfl
@[simp] theorem State.tndMod_noticeTag (s : State) (f : TndS → TndS) : (s.tndMod f).noticeTag = s.noticeTag := rfl
@[simp] theorem State.tndMod_node (s : State) (f : TndS → TndS) : (s.tndMod f).node = s.node := rfl
@[simp] theorem State.tndMod_ustore (s : State) (f : TndS → TndS) : (s.tndMod f).ustore = s.ustore := rfl
@[simp] theorem State.tndMod_colds (s : State) (f : TndS → TndS) : (s.tndMod f).colds = s.colds := rfl
@[simp] theorem State.tndMod_boot (s : State) (f : TndS → TndS) : (s.tndMod f).boot = s.boot := rfl
@[simp] theorem State.tndMod_tap (s : State) (f : TndS → TndS) : (s.tndMod f).tap = s.tap := rfl
@[simp] theorem State.tndMod_rd (s : State) (u : TndS → TndS) (g : Fld) (j : Nat) : (s.tndMod u).rd g j = s.rd g j := rfl
@[simp] theorem State.tndMod_rdb (s : State) (u : TndS → TndS) (g : Fld) (j : Nat) : (s.tndMod u).rdb g j = s.rdb g j := rfl

@[simp] theorem State.bootMod_pending (s : State) (f : BootS → BootS) : (s.bootMod f).pending = s.pending := rfl
@[simp] theorem State.bootMod_out (s : State) (f : BootS → BootS) : (s.bootMod f).out = s.out := rfl
@[simp] theorem State.bootMod_free (s : State) (f : BootS → BootS) : (s.bootMod f).free = s.free := rfl
@[simp] theorem State.bootMod_regs (s : State) (f : BootS → BootS) : (s.bootMod f).regs = s.regs := rfl
@[simp] theorem State.bootMod_latch (s : State) (f : BootS → BootS) : (s.bootMod f).latch = s.latch := rfl
@[simp] theorem State.bootMod_stage (s : State) (f : BootS → BootS) : (s.bootMod f).stage = s.stage := rfl
@[simp] theorem State.bootMod_pwr (s : State) (f : BootS → BootS) : (s.bootMod f).pwr = s.pwr := rfl
@[simp] theorem State.bootMod_ft (s : State) (f : BootS → BootS) : (s.bootMod f).ft = s.ft := rfl
@[simp] theorem State.bootMod_arch (s : State) (f : BootS → BootS) : (s.bootMod f).arch = s.arch := rfl
@[simp] theorem State.bootMod_spw (s : State) (f : BootS → BootS) : (s.bootMod f).spw = s.spw := rfl
@[simp] theorem State.bootMod_flm (s : State) (f : BootS → BootS) : (s.bootMod f).flm = s.flm := rfl
@[simp] theorem State.bootMod_acq (s : State) (f : BootS → BootS) : (s.bootMod f).acq = s.acq := rfl
@[simp] theorem State.bootMod_lanes (s : State) (f : BootS → BootS) : (s.bootMod f).lanes = s.lanes := rfl
@[simp] theorem State.bootMod_leat (s : State) (f : BootS → BootS) : (s.bootMod f).leat = s.leat := rfl
@[simp] theorem State.bootMod_flows (s : State) (f : BootS → BootS) : (s.bootMod f).flows = s.flows := rfl
@[simp] theorem State.bootMod_swc (s : State) (f : BootS → BootS) : (s.bootMod f).swc = s.swc := rfl
@[simp] theorem State.bootMod_weir (s : State) (f : BootS → BootS) : (s.bootMod f).weir = s.weir := rfl
@[simp] theorem State.bootMod_xlt (s : State) (f : BootS → BootS) : (s.bootMod f).xlt = s.xlt := rfl
@[simp] theorem State.bootMod_chk (s : State) (f : BootS → BootS) : (s.bootMod f).chk = s.chk := rfl
@[simp] theorem State.bootMod_wm (s : State) (f : BootS → BootS) : (s.bootMod f).wm = s.wm := rfl
@[simp] theorem State.bootMod_run (s : State) (f : BootS → BootS) : (s.bootMod f).run = s.run := rfl
@[simp] theorem State.bootMod_ten (s : State) (f : BootS → BootS) : (s.bootMod f).ten = s.ten := rfl
@[simp] theorem State.bootMod_prt (s : State) (f : BootS → BootS) : (s.bootMod f).prt = s.prt := rfl
@[simp] theorem State.bootMod_slots (s : State) (f : BootS → BootS) : (s.bootMod f).slots = s.slots := rfl
@[simp] theorem State.bootMod_tnd (s : State) (f : BootS → BootS) : (s.bootMod f).tnd = s.tnd := rfl
@[simp] theorem State.bootMod_notices (s : State) (f : BootS → BootS) : (s.bootMod f).notices = s.notices := rfl
@[simp] theorem State.bootMod_subscr (s : State) (f : BootS → BootS) : (s.bootMod f).subscr = s.subscr := rfl
@[simp] theorem State.bootMod_kinds (s : State) (f : BootS → BootS) : (s.bootMod f).kinds = s.kinds := rfl
@[simp] theorem State.bootMod_noticeTag (s : State) (f : BootS → BootS) : (s.bootMod f).noticeTag = s.noticeTag := rfl
@[simp] theorem State.bootMod_node (s : State) (f : BootS → BootS) : (s.bootMod f).node = s.node := rfl
@[simp] theorem State.bootMod_ustore (s : State) (f : BootS → BootS) : (s.bootMod f).ustore = s.ustore := rfl
@[simp] theorem State.bootMod_colds (s : State) (f : BootS → BootS) : (s.bootMod f).colds = s.colds := rfl
@[simp] theorem State.bootMod_tap (s : State) (f : BootS → BootS) : (s.bootMod f).tap = s.tap := rfl
@[simp] theorem State.bootMod_rd (s : State) (u : BootS → BootS) (g : Fld) (j : Nat) : (s.bootMod u).rd g j = s.rd g j := rfl
@[simp] theorem State.bootMod_rdb (s : State) (u : BootS → BootS) (g : Fld) (j : Nat) : (s.bootMod u).rdb g j = s.rdb g j := rfl

@[simp] theorem State.lkMod_pending (s : State) (k : Nat) (f : Leat → Leat) : (s.lkMod k f).pending = s.pending := rfl
@[simp] theorem State.lkMod_out (s : State) (k : Nat) (f : Leat → Leat) : (s.lkMod k f).out = s.out := rfl
@[simp] theorem State.lkMod_free (s : State) (k : Nat) (f : Leat → Leat) : (s.lkMod k f).free = s.free := rfl
@[simp] theorem State.lkMod_regs (s : State) (k : Nat) (f : Leat → Leat) : (s.lkMod k f).regs = s.regs := rfl
@[simp] theorem State.lkMod_latch (s : State) (k : Nat) (f : Leat → Leat) : (s.lkMod k f).latch = s.latch := rfl
@[simp] theorem State.lkMod_stage (s : State) (k : Nat) (f : Leat → Leat) : (s.lkMod k f).stage = s.stage := rfl
@[simp] theorem State.lkMod_pwr (s : State) (k : Nat) (f : Leat → Leat) : (s.lkMod k f).pwr = s.pwr := rfl
@[simp] theorem State.lkMod_ft (s : State) (k : Nat) (f : Leat → Leat) : (s.lkMod k f).ft = s.ft := rfl
@[simp] theorem State.lkMod_arch (s : State) (k : Nat) (f : Leat → Leat) : (s.lkMod k f).arch = s.arch := rfl
@[simp] theorem State.lkMod_spw (s : State) (k : Nat) (f : Leat → Leat) : (s.lkMod k f).spw = s.spw := rfl
@[simp] theorem State.lkMod_flm (s : State) (k : Nat) (f : Leat → Leat) : (s.lkMod k f).flm = s.flm := rfl
@[simp] theorem State.lkMod_acq (s : State) (k : Nat) (f : Leat → Leat) : (s.lkMod k f).acq = s.acq := rfl
@[simp] theorem State.lkMod_lanes (s : State) (k : Nat) (f : Leat → Leat) : (s.lkMod k f).lanes = s.lanes := rfl
@[simp] theorem State.lkMod_flows (s : State) (k : Nat) (f : Leat → Leat) : (s.lkMod k f).flows = s.flows := rfl
@[simp] theorem State.lkMod_swc (s : State) (k : Nat) (f : Leat → Leat) : (s.lkMod k f).swc = s.swc := rfl
@[simp] theorem State.lkMod_weir (s : State) (k : Nat) (f : Leat → Leat) : (s.lkMod k f).weir = s.weir := rfl
@[simp] theorem State.lkMod_xlt (s : State) (k : Nat) (f : Leat → Leat) : (s.lkMod k f).xlt = s.xlt := rfl
@[simp] theorem State.lkMod_chk (s : State) (k : Nat) (f : Leat → Leat) : (s.lkMod k f).chk = s.chk := rfl
@[simp] theorem State.lkMod_wm (s : State) (k : Nat) (f : Leat → Leat) : (s.lkMod k f).wm = s.wm := rfl
@[simp] theorem State.lkMod_run (s : State) (k : Nat) (f : Leat → Leat) : (s.lkMod k f).run = s.run := rfl
@[simp] theorem State.lkMod_ten (s : State) (k : Nat) (f : Leat → Leat) : (s.lkMod k f).ten = s.ten := rfl
@[simp] theorem State.lkMod_prt (s : State) (k : Nat) (f : Leat → Leat) : (s.lkMod k f).prt = s.prt := rfl
@[simp] theorem State.lkMod_slots (s : State) (k : Nat) (f : Leat → Leat) : (s.lkMod k f).slots = s.slots := rfl
@[simp] theorem State.lkMod_tnd (s : State) (k : Nat) (f : Leat → Leat) : (s.lkMod k f).tnd = s.tnd := rfl
@[simp] theorem State.lkMod_notices (s : State) (k : Nat) (f : Leat → Leat) : (s.lkMod k f).notices = s.notices := rfl
@[simp] theorem State.lkMod_subscr (s : State) (k : Nat) (f : Leat → Leat) : (s.lkMod k f).subscr = s.subscr := rfl
@[simp] theorem State.lkMod_kinds (s : State) (k : Nat) (f : Leat → Leat) : (s.lkMod k f).kinds = s.kinds := rfl
@[simp] theorem State.lkMod_noticeTag (s : State) (k : Nat) (f : Leat → Leat) : (s.lkMod k f).noticeTag = s.noticeTag := rfl
@[simp] theorem State.lkMod_node (s : State) (k : Nat) (f : Leat → Leat) : (s.lkMod k f).node = s.node := rfl
@[simp] theorem State.lkMod_ustore (s : State) (k : Nat) (f : Leat → Leat) : (s.lkMod k f).ustore = s.ustore := rfl
@[simp] theorem State.lkMod_colds (s : State) (k : Nat) (f : Leat → Leat) : (s.lkMod k f).colds = s.colds := rfl
@[simp] theorem State.lkMod_boot (s : State) (k : Nat) (f : Leat → Leat) : (s.lkMod k f).boot = s.boot := rfl
@[simp] theorem State.lkMod_tap (s : State) (k : Nat) (f : Leat → Leat) : (s.lkMod k f).tap = s.tap := rfl
@[simp] theorem State.lkMod_rd (s : State) (k : Nat) (u : Leat → Leat) (g : Fld) (j : Nat) : (s.lkMod k u).rd g j = s.rd g j := rfl
@[simp] theorem State.lkMod_rdb (s : State) (k : Nat) (u : Leat → Leat) (g : Fld) (j : Nat) : (s.lkMod k u).rdb g j = s.rdb g j := rfl

@[simp] theorem State.laneMod_pending (s : State) (k : Nat) (f : Lane → Lane) : (s.laneMod k f).pending = s.pending := rfl
@[simp] theorem State.laneMod_out (s : State) (k : Nat) (f : Lane → Lane) : (s.laneMod k f).out = s.out := rfl
@[simp] theorem State.laneMod_free (s : State) (k : Nat) (f : Lane → Lane) : (s.laneMod k f).free = s.free := rfl
@[simp] theorem State.laneMod_regs (s : State) (k : Nat) (f : Lane → Lane) : (s.laneMod k f).regs = s.regs := rfl
@[simp] theorem State.laneMod_latch (s : State) (k : Nat) (f : Lane → Lane) : (s.laneMod k f).latch = s.latch := rfl
@[simp] theorem State.laneMod_stage (s : State) (k : Nat) (f : Lane → Lane) : (s.laneMod k f).stage = s.stage := rfl
@[simp] theorem State.laneMod_pwr (s : State) (k : Nat) (f : Lane → Lane) : (s.laneMod k f).pwr = s.pwr := rfl
@[simp] theorem State.laneMod_ft (s : State) (k : Nat) (f : Lane → Lane) : (s.laneMod k f).ft = s.ft := rfl
@[simp] theorem State.laneMod_arch (s : State) (k : Nat) (f : Lane → Lane) : (s.laneMod k f).arch = s.arch := rfl
@[simp] theorem State.laneMod_spw (s : State) (k : Nat) (f : Lane → Lane) : (s.laneMod k f).spw = s.spw := rfl
@[simp] theorem State.laneMod_flm (s : State) (k : Nat) (f : Lane → Lane) : (s.laneMod k f).flm = s.flm := rfl
@[simp] theorem State.laneMod_acq (s : State) (k : Nat) (f : Lane → Lane) : (s.laneMod k f).acq = s.acq := rfl
@[simp] theorem State.laneMod_leat (s : State) (k : Nat) (f : Lane → Lane) : (s.laneMod k f).leat = s.leat := rfl
@[simp] theorem State.laneMod_flows (s : State) (k : Nat) (f : Lane → Lane) : (s.laneMod k f).flows = s.flows := rfl
@[simp] theorem State.laneMod_swc (s : State) (k : Nat) (f : Lane → Lane) : (s.laneMod k f).swc = s.swc := rfl
@[simp] theorem State.laneMod_weir (s : State) (k : Nat) (f : Lane → Lane) : (s.laneMod k f).weir = s.weir := rfl
@[simp] theorem State.laneMod_xlt (s : State) (k : Nat) (f : Lane → Lane) : (s.laneMod k f).xlt = s.xlt := rfl
@[simp] theorem State.laneMod_chk (s : State) (k : Nat) (f : Lane → Lane) : (s.laneMod k f).chk = s.chk := rfl
@[simp] theorem State.laneMod_wm (s : State) (k : Nat) (f : Lane → Lane) : (s.laneMod k f).wm = s.wm := rfl
@[simp] theorem State.laneMod_run (s : State) (k : Nat) (f : Lane → Lane) : (s.laneMod k f).run = s.run := rfl
@[simp] theorem State.laneMod_ten (s : State) (k : Nat) (f : Lane → Lane) : (s.laneMod k f).ten = s.ten := rfl
@[simp] theorem State.laneMod_prt (s : State) (k : Nat) (f : Lane → Lane) : (s.laneMod k f).prt = s.prt := rfl
@[simp] theorem State.laneMod_slots (s : State) (k : Nat) (f : Lane → Lane) : (s.laneMod k f).slots = s.slots := rfl
@[simp] theorem State.laneMod_tnd (s : State) (k : Nat) (f : Lane → Lane) : (s.laneMod k f).tnd = s.tnd := rfl
@[simp] theorem State.laneMod_notices (s : State) (k : Nat) (f : Lane → Lane) : (s.laneMod k f).notices = s.notices := rfl
@[simp] theorem State.laneMod_subscr (s : State) (k : Nat) (f : Lane → Lane) : (s.laneMod k f).subscr = s.subscr := rfl
@[simp] theorem State.laneMod_kinds (s : State) (k : Nat) (f : Lane → Lane) : (s.laneMod k f).kinds = s.kinds := rfl
@[simp] theorem State.laneMod_noticeTag (s : State) (k : Nat) (f : Lane → Lane) : (s.laneMod k f).noticeTag = s.noticeTag := rfl
@[simp] theorem State.laneMod_node (s : State) (k : Nat) (f : Lane → Lane) : (s.laneMod k f).node = s.node := rfl
@[simp] theorem State.laneMod_ustore (s : State) (k : Nat) (f : Lane → Lane) : (s.laneMod k f).ustore = s.ustore := rfl
@[simp] theorem State.laneMod_colds (s : State) (k : Nat) (f : Lane → Lane) : (s.laneMod k f).colds = s.colds := rfl
@[simp] theorem State.laneMod_boot (s : State) (k : Nat) (f : Lane → Lane) : (s.laneMod k f).boot = s.boot := rfl
@[simp] theorem State.laneMod_tap (s : State) (k : Nat) (f : Lane → Lane) : (s.laneMod k f).tap = s.tap := rfl
@[simp] theorem State.laneMod_rd (s : State) (k : Nat) (u : Lane → Lane) (g : Fld) (j : Nat) : (s.laneMod k u).rd g j = s.rd g j := rfl
@[simp] theorem State.laneMod_rdb (s : State) (k : Nat) (u : Lane → Lane) (g : Fld) (j : Nat) : (s.laneMod k u).rdb g j = s.rdb g j := rfl

@[simp] theorem State.slotMod_pending (s : State) (k : Nat) (f : Slot → Slot) : (s.slotMod k f).pending = s.pending := rfl
@[simp] theorem State.slotMod_out (s : State) (k : Nat) (f : Slot → Slot) : (s.slotMod k f).out = s.out := rfl
@[simp] theorem State.slotMod_free (s : State) (k : Nat) (f : Slot → Slot) : (s.slotMod k f).free = s.free := rfl
@[simp] theorem State.slotMod_regs (s : State) (k : Nat) (f : Slot → Slot) : (s.slotMod k f).regs = s.regs := rfl
@[simp] theorem State.slotMod_latch (s : State) (k : Nat) (f : Slot → Slot) : (s.slotMod k f).latch = s.latch := rfl
@[simp] theorem State.slotMod_stage (s : State) (k : Nat) (f : Slot → Slot) : (s.slotMod k f).stage = s.stage := rfl
@[simp] theorem State.slotMod_pwr (s : State) (k : Nat) (f : Slot → Slot) : (s.slotMod k f).pwr = s.pwr := rfl
@[simp] theorem State.slotMod_ft (s : State) (k : Nat) (f : Slot → Slot) : (s.slotMod k f).ft = s.ft := rfl
@[simp] theorem State.slotMod_arch (s : State) (k : Nat) (f : Slot → Slot) : (s.slotMod k f).arch = s.arch := rfl
@[simp] theorem State.slotMod_spw (s : State) (k : Nat) (f : Slot → Slot) : (s.slotMod k f).spw = s.spw := rfl
@[simp] theorem State.slotMod_flm (s : State) (k : Nat) (f : Slot → Slot) : (s.slotMod k f).flm = s.flm := rfl
@[simp] theorem State.slotMod_acq (s : State) (k : Nat) (f : Slot → Slot) : (s.slotMod k f).acq = s.acq := rfl
@[simp] theorem State.slotMod_lanes (s : State) (k : Nat) (f : Slot → Slot) : (s.slotMod k f).lanes = s.lanes := rfl
@[simp] theorem State.slotMod_leat (s : State) (k : Nat) (f : Slot → Slot) : (s.slotMod k f).leat = s.leat := rfl
@[simp] theorem State.slotMod_flows (s : State) (k : Nat) (f : Slot → Slot) : (s.slotMod k f).flows = s.flows := rfl
@[simp] theorem State.slotMod_swc (s : State) (k : Nat) (f : Slot → Slot) : (s.slotMod k f).swc = s.swc := rfl
@[simp] theorem State.slotMod_weir (s : State) (k : Nat) (f : Slot → Slot) : (s.slotMod k f).weir = s.weir := rfl
@[simp] theorem State.slotMod_xlt (s : State) (k : Nat) (f : Slot → Slot) : (s.slotMod k f).xlt = s.xlt := rfl
@[simp] theorem State.slotMod_chk (s : State) (k : Nat) (f : Slot → Slot) : (s.slotMod k f).chk = s.chk := rfl
@[simp] theorem State.slotMod_wm (s : State) (k : Nat) (f : Slot → Slot) : (s.slotMod k f).wm = s.wm := rfl
@[simp] theorem State.slotMod_run (s : State) (k : Nat) (f : Slot → Slot) : (s.slotMod k f).run = s.run := rfl
@[simp] theorem State.slotMod_ten (s : State) (k : Nat) (f : Slot → Slot) : (s.slotMod k f).ten = s.ten := rfl
@[simp] theorem State.slotMod_prt (s : State) (k : Nat) (f : Slot → Slot) : (s.slotMod k f).prt = s.prt := rfl
@[simp] theorem State.slotMod_tnd (s : State) (k : Nat) (f : Slot → Slot) : (s.slotMod k f).tnd = s.tnd := rfl
@[simp] theorem State.slotMod_notices (s : State) (k : Nat) (f : Slot → Slot) : (s.slotMod k f).notices = s.notices := rfl
@[simp] theorem State.slotMod_subscr (s : State) (k : Nat) (f : Slot → Slot) : (s.slotMod k f).subscr = s.subscr := rfl
@[simp] theorem State.slotMod_kinds (s : State) (k : Nat) (f : Slot → Slot) : (s.slotMod k f).kinds = s.kinds := rfl
@[simp] theorem State.slotMod_noticeTag (s : State) (k : Nat) (f : Slot → Slot) : (s.slotMod k f).noticeTag = s.noticeTag := rfl
@[simp] theorem State.slotMod_node (s : State) (k : Nat) (f : Slot → Slot) : (s.slotMod k f).node = s.node := rfl
@[simp] theorem State.slotMod_ustore (s : State) (k : Nat) (f : Slot → Slot) : (s.slotMod k f).ustore = s.ustore := rfl
@[simp] theorem State.slotMod_colds (s : State) (k : Nat) (f : Slot → Slot) : (s.slotMod k f).colds = s.colds := rfl
@[simp] theorem State.slotMod_boot (s : State) (k : Nat) (f : Slot → Slot) : (s.slotMod k f).boot = s.boot := rfl
@[simp] theorem State.slotMod_tap (s : State) (k : Nat) (f : Slot → Slot) : (s.slotMod k f).tap = s.tap := rfl
@[simp] theorem State.slotMod_rd (s : State) (k : Nat) (u : Slot → Slot) (g : Fld) (j : Nat) : (s.slotMod k u).rd g j = s.rd g j := rfl
@[simp] theorem State.slotMod_rdb (s : State) (k : Nat) (u : Slot → Slot) (g : Fld) (j : Nat) : (s.slotMod k u).rdb g j = s.rdb g j := rfl

@[simp] theorem State.portMod_pending (s : State) (k : Nat) (f : PortS → PortS) : (s.portMod k f).pending = s.pending := rfl
@[simp] theorem State.portMod_out (s : State) (k : Nat) (f : PortS → PortS) : (s.portMod k f).out = s.out := rfl
@[simp] theorem State.portMod_free (s : State) (k : Nat) (f : PortS → PortS) : (s.portMod k f).free = s.free := rfl
@[simp] theorem State.portMod_regs (s : State) (k : Nat) (f : PortS → PortS) : (s.portMod k f).regs = s.regs := rfl
@[simp] theorem State.portMod_latch (s : State) (k : Nat) (f : PortS → PortS) : (s.portMod k f).latch = s.latch := rfl
@[simp] theorem State.portMod_stage (s : State) (k : Nat) (f : PortS → PortS) : (s.portMod k f).stage = s.stage := rfl
@[simp] theorem State.portMod_pwr (s : State) (k : Nat) (f : PortS → PortS) : (s.portMod k f).pwr = s.pwr := rfl
@[simp] theorem State.portMod_ft (s : State) (k : Nat) (f : PortS → PortS) : (s.portMod k f).ft = s.ft := rfl
@[simp] theorem State.portMod_arch (s : State) (k : Nat) (f : PortS → PortS) : (s.portMod k f).arch = s.arch := rfl
@[simp] theorem State.portMod_spw (s : State) (k : Nat) (f : PortS → PortS) : (s.portMod k f).spw = s.spw := rfl
@[simp] theorem State.portMod_flm (s : State) (k : Nat) (f : PortS → PortS) : (s.portMod k f).flm = s.flm := rfl
@[simp] theorem State.portMod_acq (s : State) (k : Nat) (f : PortS → PortS) : (s.portMod k f).acq = s.acq := rfl
@[simp] theorem State.portMod_lanes (s : State) (k : Nat) (f : PortS → PortS) : (s.portMod k f).lanes = s.lanes := rfl
@[simp] theorem State.portMod_leat (s : State) (k : Nat) (f : PortS → PortS) : (s.portMod k f).leat = s.leat := rfl
@[simp] theorem State.portMod_flows (s : State) (k : Nat) (f : PortS → PortS) : (s.portMod k f).flows = s.flows := rfl
@[simp] theorem State.portMod_swc (s : State) (k : Nat) (f : PortS → PortS) : (s.portMod k f).swc = s.swc := rfl
@[simp] theorem State.portMod_weir (s : State) (k : Nat) (f : PortS → PortS) : (s.portMod k f).weir = s.weir := rfl
@[simp] theorem State.portMod_xlt (s : State) (k : Nat) (f : PortS → PortS) : (s.portMod k f).xlt = s.xlt := rfl
@[simp] theorem State.portMod_chk (s : State) (k : Nat) (f : PortS → PortS) : (s.portMod k f).chk = s.chk := rfl
@[simp] theorem State.portMod_wm (s : State) (k : Nat) (f : PortS → PortS) : (s.portMod k f).wm = s.wm := rfl
@[simp] theorem State.portMod_run (s : State) (k : Nat) (f : PortS → PortS) : (s.portMod k f).run = s.run := rfl
@[simp] theorem State.portMod_ten (s : State) (k : Nat) (f : PortS → PortS) : (s.portMod k f).ten = s.ten := rfl
@[simp] theorem State.portMod_slots (s : State) (k : Nat) (f : PortS → PortS) : (s.portMod k f).slots = s.slots := rfl
@[simp] theorem State.portMod_tnd (s : State) (k : Nat) (f : PortS → PortS) : (s.portMod k f).tnd = s.tnd := rfl
@[simp] theorem State.portMod_notices (s : State) (k : Nat) (f : PortS → PortS) : (s.portMod k f).notices = s.notices := rfl
@[simp] theorem State.portMod_subscr (s : State) (k : Nat) (f : PortS → PortS) : (s.portMod k f).subscr = s.subscr := rfl
@[simp] theorem State.portMod_kinds (s : State) (k : Nat) (f : PortS → PortS) : (s.portMod k f).kinds = s.kinds := rfl
@[simp] theorem State.portMod_noticeTag (s : State) (k : Nat) (f : PortS → PortS) : (s.portMod k f).noticeTag = s.noticeTag := rfl
@[simp] theorem State.portMod_node (s : State) (k : Nat) (f : PortS → PortS) : (s.portMod k f).node = s.node := rfl
@[simp] theorem State.portMod_ustore (s : State) (k : Nat) (f : PortS → PortS) : (s.portMod k f).ustore = s.ustore := rfl
@[simp] theorem State.portMod_colds (s : State) (k : Nat) (f : PortS → PortS) : (s.portMod k f).colds = s.colds := rfl
@[simp] theorem State.portMod_boot (s : State) (k : Nat) (f : PortS → PortS) : (s.portMod k f).boot = s.boot := rfl
@[simp] theorem State.portMod_tap (s : State) (k : Nat) (f : PortS → PortS) : (s.portMod k f).tap = s.tap := rfl
@[simp] theorem State.portMod_rd (s : State) (k : Nat) (u : PortS → PortS) (g : Fld) (j : Nat) : (s.portMod k u).rd g j = s.rd g j := rfl
@[simp] theorem State.portMod_rdb (s : State) (k : Nat) (u : PortS → PortS) (g : Fld) (j : Nat) : (s.portMod k u).rdb g j = s.rdb g j := rfl

end Sys2Proof.Machine
end

