-- ==== Sys2Proof/Tests/Slice0.lean ====
section
/-! SUPPORT. Tests: ill-formed commands are refused, small effects with results from the spec, and for every statement with hypotheses
states and operands that meet them. -/

namespace Sys2Proof.Tests

/- One theorem after the other: kernel evaluations that wait for one another each keep a thread. -/
set_option Elab.async false

open Sys2Proof Sys2Proof.Machine

/-- State `s` with the register fields of `l` set; the first entry for a field counts. -/
def put (s : State) (l : List (Fld × Nat × Nat)) : State := l.foldr (fun w s => s.wr w.1 w.2.1 w.2.2) s

/-- The register at address `a`. -/
def regAt (a : Nat) : RegDesc :=
  ((State.reset.findReg a).map Prod.fst).getD { addr := 0, shape := .one, key := none, half := .whole, fields := [] }

/-- A boot image with no settings, SVN 1 and a stage 1 of 8 bytes (R470 to R473). -/
def flashHead : SMap Nat :=
  [(0, 77), (1, 73), (2, 56), (3, 90), (4, 1), (5, 0), (6, 3), (7, 0), (8, 1), (9, 0), (10, 0), (11, 0), (16, 8), (17, 0), (18, 0), (19, 0),
    (20, 0), (21, 0), (22, 0), (23, 0), (24, 25), (25, 7), (26, 0), (27, 0)]
  ++ ((List.range 176).map fun i => (80 + i, 0))
  ++ [(256, 1), (257, 1), (258, 0), (259, 1), (260, 0), (261, 0), (262, 0), (263, 0), (4096, 4), (4097, 0), (4098, 0), (4099, 0), (4100, 0),
    (4101, 0), (4102, 0), (4103, 0)]

/-! ### Folds whose accumulator is forced at each step, so that the kernel evaluates long ones -/

/-- A left fold over numbers that matches on its accumulator. -/
def foldStrict (f : Nat → Byte → Nat) : List Byte → Nat → Nat
  | [], a => a
  | b :: bs, 0 => foldStrict f bs (f 0 b)
  | b :: bs, n + 1 => foldStrict f bs (f (n + 1) b)

theorem foldStrict_eq (f : Nat → Byte → Nat) (bs : List Byte) (a : Nat) : foldStrict f bs a = bs.foldl f a := by
  induction bs generalizing a with
  | nil => cases a <;> rfl
  | cons b bs ih => cases a <;> exact ih _

theorem crc64_strict (bs : List Byte) : crc64 bs = foldStrict (crcByte 64 0x42F0E1EBA9EA3693) bs 0 := by
  rw [foldStrict_eq, crc64, crc]

theorem crc32_strict (bs : List Byte) :
    crc32 bs = foldStrict (fun c b => (List.range 8).foldl (fun a _ => crc32Step a) (c ^^^ b.toNat)) bs 0xFFFFFFFF ^^^ 0xFFFFFFFF := by
  rw [foldStrict_eq, crc32]

theorem ctxCrc_strict (ws : List Nat) :
    ctxCrc ws = foldStrict (fun c b => (List.range 8).foldl (fun a _ => crc32Step a) (c ^^^ b.toNat))
      (ws.flatMap fun w => toLeBytes 4 w) 0xFFFFFFFF ^^^ 0xFFFFFFFF := by
  rw [ctxCrc, crc32_strict]

/-! ### Ill-formed commands: one for each kind of check -/

/-- Refused: a node above 15. -/
theorem test_illformed_register_node : Instr.wf (.registerWrite 16 0 (.word 0) 0 0) = false := by decide

/-- Refused: a port above 63. -/
theorem test_illformed_register_port : Instr.wf (.registerReadClear 0 64 (.word 0) 0) = false := by decide

/-- Refused: a value wider than 32 bits. -/
theorem test_illformed_register_value : Instr.wf (.registerWrite 0 0 (.word 0) (2 ^ 32) 0) = false := by decide

/-- Refused: more than 15 straps. -/
theorem test_illformed_strap_pins : Instr.wf (.strapSample (2 ^ 15)) = false := by decide

/-- Refused: a regulator program for a third page. -/
theorem test_illformed_program : Instr.wf (.pwrgdRise [(2, 0, 0)]) = false := by decide

/-- Refused: a fifth tile. -/
theorem test_illformed_tile : Instr.wf (.culvertRetrained 4) = false := by decide

/-- Refused: a slot wave above 7. -/
theorem test_illformed_wave : Instr.wf (.slotWave 8) = false := by decide

/-- Refused: a port wave of a tile that is not there. -/
theorem test_illformed_wave_tile : Instr.wf (.portWave 0 (some 4)) = false := by decide

/-- Refused: a third 10BASE-T1S segment. -/
theorem test_illformed_segment : Instr.wf (.t1sPhyJoin 2) = false := by decide

/-- Refused: a seventh rail. -/
theorem test_illformed_rail : Instr.wf (.railFault 6 true) = false := by decide

/-- Refused: a clock of a lane domain. -/
theorem test_illformed_clock_domain : Instr.wf (.clockLoss 327) = false := by decide

/-- Refused: an always-on domain. -/
theorem test_illformed_domain : Instr.wf (.domainPowerUpDone 7) = false := by decide

/-- Refused: a domain above 83. -/
theorem test_illformed_domain_top : Instr.wf (.domainPowerUpDone 84) = false := by decide

/-- Refused: a port above 63. -/
theorem test_illformed_port : Instr.wf (.perstInAssert 64) = false := by decide

/-- Refused: a lane above 327. -/
theorem test_illformed_lane : Instr.wf (.serSlip 328 0) = false := by decide

/-- Refused: a port lane where a Leat lane is asked for. -/
theorem test_illformed_leat_lane : Instr.wf (.laneCdrLock 255) = false := by decide

/-- Refused: a marker beyond the block. -/
theorem test_illformed_marker : Instr.wf (.laneMarkerReceive 256 0 65648 false false) = false := by decide

/-- Refused: a ninth link. -/
theorem test_illformed_link : Instr.wf (.leatReplayTimeout 8) = false := by decide

/-- Refused: a unit of 255 bytes. -/
theorem test_illformed_unit_bytes : Instr.wf (.leatUnitCrcFail 0 (List.replicate 255 0)) = false := by decide +kernel

/-- Refused: a tenth lane of a link. -/
theorem test_illformed_init_lane (b : InitBody) : Instr.wf (.leatInitReceive 0 9 0 0 b 0) = false := rfl

/-- Refused: a VF above 8192. -/
theorem test_illformed_vf : Instr.wf (.flrVf 0 8193) = false := by decide

/-- Refused: a bridge above 31. -/
theorem test_illformed_bridge : Instr.wf (.bindComplete 0 32) = false := by decide

/-- Refused: a downstream slot command at the upstream bridge. -/
theorem test_illformed_bridge_usp : Instr.wf (.powerControllerOn 0 0) = false := by decide

/-- Refused: an egress port above 92. -/
theorem test_illformed_egress : Instr.wf (.messageDepart 93) = false := by decide

/-- Refused: an agent above 71. -/
theorem test_illformed_agent : Instr.wf (.holdWindowEnd 0 72) = false := by decide

/-- Refused: a line above the fabric address. -/
theorem test_illformed_line : Instr.wf (.poolWriteComplete (2 ^ 46)) = false := by decide

/-- Refused: a source above 127. -/
theorem test_illformed_home_message : Instr.wf (.rds { kind := .wmReq, src := 128 } {}) = false := by decide

/-- Refused: a ninth traffic class. -/
theorem test_illformed_home_message_tc : Instr.wf (.evc { kind := .wmReq, tc := 8 } {}) = false := by decide

/-- Refused: a requester above 215. -/
theorem test_illformed_requester : Instr.wf (.nakRetry 216) = false := by decide

/-- Refused: a region above 63. -/
theorem test_illformed_region : Instr.wf (.regionRecallDone 64) = false := by decide

/-- Refused: a seventeenth slice. -/
theorem test_illformed_slice : Instr.wf (.scrubSet 16 {}) = false := by decide

/-- Refused: a gate above 64. -/
theorem test_illformed_gate : Instr.wf (.chkDrainEnd 65) = false := by decide

/-- Refused: a ring above 8191. -/
theorem test_illformed_ring : Instr.wf (.nop 8192) = false := by decide

/-- Refused: a word that RING_CFG does not have. -/
theorem test_illformed_ring_word : Instr.wf (.ringCfgWrite 0 0 0x1C 0) = false := by decide

/-- Refused: an instance above 8191. -/
theorem test_illformed_instance : Instr.wf (.quiesceComplete 8192) = false := by decide

/-- Refused: a cause that no completion carries. -/
theorem test_illformed_cause : Instr.wf (.runnelWriteAck 0 2) = false := by decide

/-- Refused: a VC of Aqueduct that has no wedge timer. -/
theorem test_illformed_acq_vc : Instr.wf (.acqWedge 0 0 0) = false := by decide

/-- Refused: a reserved source. -/
theorem test_illformed_source : Instr.wf (.sourceRaise 0x174) = false := by decide

/-- Refused: a source that the collector makes itself. -/
theorem test_illformed_source_wire : Instr.wf (.wireFault 0x3E0) = false := by decide

/-- Refused: a reaction that the source does not admit. -/
theorem test_illformed_reaction : Instr.wf (.collectorMismatch [] [(0x180, 3)]) = false := by decide

/-- Refused: a fifth feed. -/
theorem test_illformed_feed : Instr.wf (.feedBad 4 false 0) = false := by decide

/-- Refused: a slot above 31. -/
theorem test_illformed_slot : Instr.wf (.feedMake 32) = false := by decide

/-- Refused: a fifth slow-trip level. -/
theorem test_illformed_threshold : Instr.wf (.slowTrip 0 4 0) = false := by decide

/-- Refused: an event counter among the fixed ones. -/
theorem test_illformed_counter : Instr.wf (.flmEvtWrite 8447 0 0) = false := by decide

/-- Refused: a third dump ring. -/
theorem test_illformed_dump_ring : Instr.wf (.dumpLate 2) = false := by decide

/-- Refused: a MAC address of 49 bits. -/
theorem test_illformed_frame : Instr.wf (.notificationAck 0 (2 ^ 48) []) = false := by decide

/-- Refused: a fourth path. -/
theorem test_illformed_caller : Instr.wf (.tilereset { path := 3, mac := 0, port := 0, tag := 0 } 0) = false := by decide

/-- Refused: a BATCH of 128 entries. -/
theorem test_illformed_batch : Instr.wf (.batch { path := 0, mac := 0, port := 0, tag := 0 } none (List.replicate 128 (0, 0))) = false := by decide +kernel

/-- Refused: an image segment of more than 1,024 bytes. -/
theorem test_illformed_segment_bytes : Instr.wf (.unlock { path := 0, mac := 0, port := 0, tag := 0 } (List.replicate 1025 0) true) = false := by decide +kernel

/-- Refused: BYPASS by the code of IDCODE. -/
theorem test_illformed_bypass : Instr.wf (.bypass 0x01 0 1) = false := by decide

/-- Refused: a scan wider than the register. -/
theorem test_illformed_scan : Instr.wf (.clamp 2 1) = false := by decide

/-- Refused: more cells than the boundary-scan chain has. -/
theorem test_illformed_chain : Instr.wf (.extest (2 ^ 200 * 2 ^ 161) 0) = false := by decide +kernel

/-- Refused: a reading wider than 11 bits. -/
theorem test_illformed_temperature : Instr.wf (.junctionTrip 2048 0) = false := by decide

/-- Refused: a sixth clock driver. -/
theorem test_illformed_rate_pair : Instr.wf (.ratePairFault 5) = false := by decide

/-- A command that is not well formed is a fault, whatever the state. -/
theorem test_illformed_faults (s : State) : exec (.feedMake 32) s = .fault .noSuchUnit := rfl

/-! ### Values the spec gives, and the check values of its CRCs -/

/-- The digits 1 to 9 in ASCII, the usual argument of a check code. -/
def digits : List Byte := [0x31, 0x32, 0x33, 0x34, 0x35, 0x36, 0x37, 0x38, 0x39]

/-- The published check value of the CRC of R232. -/
theorem test_crc32 : crc32 digits = 0xCBF43926 := by decide +kernel

/-- The value that R150 gives. -/
theorem test_crc64 : crc64 digits = 0x6C40DF5F0B497347 := by decide +kernel

/-- The published check value of the CRC-8 of R90. -/
theorem test_crc8 : crc8 0 digits = 0xF4 := by decide +kernel

/-- Where fabric address 0x4_0000_0440 lies (R239): A[9:6] is 1, A[25:10] is 1, A[41:26] and A[51:26] are 0x100. -/
theorem test_line_placement :
    lineSlice (0x400000440 / 64) = 1 ∧ lineSet (0x400000440 / 64) = 0x101 ∧ lineTag (0x400000440 / 64) = 0x100 := by decide

/-- Sources (R389): 0x228 concerns slot 8, and 0x174 is reserved. -/
theorem test_sources : srcUnit 0x228 = some (.slot 8) ∧ srcUnit 0x174 = none := by decide +kernel

/-! ### The machine -/

/-- The reset state is sound. -/
theorem test_reset_sound : State.reset.Sound := by decide +kernel

/-- A waiting command is taken from the front. -/
theorem test_step_takes_front : step { State.reset with pending := [.vddAuxLost] } = exec .vddAuxLost State.reset := rfl

/-! ### The hypotheses of the statements about all commands can be met -/

/-- A command waits. -/
theorem witness_StepTakesTheFront : ∃ (s : State) (c : Instr) (cs : List Instr), s.pending = c :: cs :=
  ⟨{ State.reset with pending := [.sourceRaise 0] }, .sourceRaise 0, [], rfl⟩

/-- A sound state with a command waiting, and the state after its step. -/
theorem witness_EveryStepKeepsSound : ∃ s t : State, s.Sound ∧ s.pending ≠ [] ∧ step s = .next t :=
  ⟨{ State.reset with pending := [.cellAudit] }, _, by decide +kernel, by decide +kernel, rfl⟩

/-- A sound state. -/
theorem witness_SoundStatesRun : ∃ s : State, s.Sound ∧ s.pending ≠ [] :=
  ⟨{ State.reset with pending := [.cellAudit] }, by decide +kernel⟩

/-- A command that answers a next state. -/
theorem witness_FrameOfEveryCommand : ∃ (c : Instr) (s t : State), exec c s = .next t :=
  ⟨.cellAudit, State.reset, _, rfl⟩

/-- A well-formed command. -/
theorem witness_WellFormedCommandsComplete_first : ∃ c : Instr, c.wf = true := ⟨.feedMake 31, by decide⟩

/-! ### The hypotheses of the statements can be met -/

/-- States and operands that meet the hypotheses of `Obligations.IdleStepPassesOneTick`, clause by clause. -/
theorem witness_IdleStepPassesOneTick :
    (∃ (s : State), s.pending = [])
    ∧ (∃ (s : State), s.pending = [] ∧ s.ft.run = false ∧ s.ftState ≠ 4 ∧ s.rd fPWR_START_PHASE 0 ≠ 7) :=
  ⟨⟨State.reset, by decide +kernel⟩,
    ⟨State.reset, by decide +kernel⟩⟩

/-- States and operands that meet the hypotheses of `Obligations.WellFormedCommandsComplete`, clause by clause. -/
theorem witness_WellFormedCommandsComplete : ∃ (c : Instr) (s : State), c.wf = false :=
  ⟨.slotWave 8, State.reset, by decide +kernel⟩

/-- States and operands that meet the hypotheses of `Obligations.LinePlacement`, clause by clause. -/
theorem witness_LinePlacement :
    (∃ (a : Nat), a < 2 ^ 52)
    ∧ (∃ (l : _), l < 2 ^ 46)
    ∧ (∃ (a : Nat) (b : Nat), a < 2 ^ 52 ∧ b < 2 ^ 52 ∧ a % 2 ^ 26 = b % 2 ^ 26 ∧ bitsOf a 26 16 ≠ bitsOf b 26 16) :=
  ⟨⟨0, by decide +kernel⟩,
    ⟨default, by decide +kernel⟩,
    ⟨0, 2 ^ 26, by decide +kernel⟩⟩

/-- States and operands that meet the hypotheses of `Obligations.RegisterAccesses`, clause by clause. -/
theorem witness_RegisterAccesses :
    (∃ (s : State) (node : Nat) (port : Nat) (addr : Nat) (val : Nat) (ev : Nat) (d : RegDesc) (i : Nat), node < 16 ∧ port < 64 ∧ val < 2 ^ 32
      ∧ ev < 2 ^ 32 ∧ s.openGate ∧ s.regShut node port addr = false ∧ s.ft.jump = false ∧ addr % 4 = 0 ∧ s.findReg addr = some (d, i)
      ∧ s.noWrite d i = false ∧ (d.fields.map Fld.key).Nodup ∧ (rowTable.find? fun e => e.1 == d.addr) = none ∧ s.discards d.fields i val = true)
    ∧ (∃ (s : State) (node : Nat) (port : Nat) (addr : Nat) (val : Nat) (ev : Nat) (d : RegDesc) (i : Nat), node < 16 ∧ port < 64 ∧ val < 2 ^ 32
      ∧ ev < 2 ^ 32 ∧ s.openGate ∧ s.regShut node port addr = false ∧ s.ft.jump = false ∧ addr % 4 = 0 ∧ s.findReg addr = some (d, i)
      ∧ s.noWrite d i = false ∧ (d.fields.map Fld.key).Nodup ∧ (rowTable.find? fun e => e.1 == d.addr) = none ∧ s.discards d.fields i val = false
      ∧ (ruleTable.find? fun e => e.1 == d.addr) = none ∧ d.addr ≠ 0xD00020 ∧ d.half = .whole)
    ∧ (∃ (s : State) (node : Nat) (port : Nat) (addr : Nat) (val : Nat) (ev : Nat) (d : RegDesc) (i : Nat), node < 16 ∧ port < 64 ∧ val < 2 ^ 32
      ∧ ev < 2 ^ 32 ∧ s.openGate ∧ s.regShut node port addr = false ∧ s.ft.jump = false ∧ addr % 4 = 0 ∧ s.findReg addr = some (d, i)
      ∧ s.noWrite d i = false ∧ (d.fields.map Fld.key).Nodup ∧ (rowTable.find? fun e => e.1 == d.addr) = none ∧ s.discards d.fields i val = false
      ∧ (ruleTable.find? fun e => e.1 == d.addr) = none ∧ d.addr ≠ 0xD00020 ∧ d.half = .low ∧ (d.fields.any fun f => f.acc = .rw) = true)
    ∧ (∃ (s : State) (node : Nat) (port : Nat) (addr : Nat) (val : Nat) (ev : Nat) (d : RegDesc) (i : Nat) (low : Nat), node < 16 ∧ port < 64
      ∧ val < 2 ^ 32 ∧ ev < 2 ^ 32 ∧ s.openGate ∧ s.regShut node port addr = false ∧ s.ft.jump = false ∧ addr % 4 = 0 ∧ s.findReg addr = some (d, i)
      ∧ s.noWrite d i = false ∧ (d.fields.map Fld.key).Nodup ∧ (rowTable.find? fun e => e.1 == d.addr) = none ∧ s.discards d.fields i val = false
      ∧ (ruleTable.find? fun e => e.1 == d.addr) = none ∧ d.addr ≠ 0xD00020 ∧ d.half = .high ∧ SMap.get 0 s.stage (addr - 4) = low + 1
      ∧ ((fieldsAt (d.addr - 4) ++ d.fields).map Fld.key).Nodup ∧ fTND_STAT_DEVSTATE.key ∉ (fieldsAt (d.addr - 4)).map Fld.key)
    ∧ (∃ (s : State) (node : Nat) (port : Nat) (addr : Nat) (val : Nat) (ev : Nat) (d : RegDesc) (i : Nat) (row : Nat × RowFn), node < 16 ∧ port < 64
      ∧ val < 2 ^ 32 ∧ ev < 2 ^ 32 ∧ s.openGate ∧ s.regShut node port addr = false ∧ addr % 4 = 0 ∧ s.findReg addr = some (d, i)
      ∧ s.noWrite d i = false ∧ (rowTable.find? fun e => e.1 == d.addr) = some row)
    ∧ (∃ (s : State) (node : Nat) (port : Nat) (addr : Nat) (val : Nat) (ev : Nat), node < 16 ∧ port < 64 ∧ val < 2 ^ 32 ∧ ev < 2 ^ 32 ∧ s.openGate
      ∧ s.regShut node port addr = false ∧ s.ft.jump = false ∧ (addr % 4 ≠ 0 ∨ s.findReg addr = none))
    ∧ (∃ (s : State) (node : Nat) (port : Nat) (addr : Nat) (val : Nat) (ev : Nat), node < 16 ∧ port < 64 ∧ val < 2 ^ 32 ∧ ev < 2 ^ 32
      ∧ s.regShut node port addr = false ∧ (s.hostGate node port addr true).1 = false)
    ∧ (∃ (s : State) (node : Nat) (port : Nat) (addr : Nat) (ev : Nat) (d : RegDesc) (i : Nat), node < 16 ∧ port < 64 ∧ ev < 2 ^ 32 ∧ s.openGate
      ∧ s.regShut node port addr = false ∧ addr < 0x2000000 ∧ SMap.get 0 s.latch addr = 0 ∧ s.findReg addr = some (d, i) ∧ s.noWrite d i = false
      ∧ (d.fields.map Fld.key).Nodup)
    ∧ (∃ (s : State) (node : Nat) (port : Nat) (addr : Nat) (d : RegDesc) (i : Nat), node < 16 ∧ port < 64 ∧ s.openGate
      ∧ s.regShut node port addr = false ∧ addr < 0x2000000 ∧ SMap.get 0 s.latch addr = 0 ∧ s.findReg addr = some (d, i) ∧ d.half = .low)
    ∧ (∃ (s : State) (node : Nat) (port : Nat) (addr : Nat) (v : Nat), node < 16 ∧ port < 64 ∧ s.openGate ∧ s.regShut node port addr = false
      ∧ SMap.get 0 s.latch addr = v + 1)
    ∧ (∃ (s : State) (node : Nat) (port : Nat) (addr : Nat) (ev : Nat), node < 16 ∧ port < 64 ∧ ev < 2 ^ 32 ∧ s.regShut node port addr = false
      ∧ (s.hostGate node port addr false).1 = false)
    ∧ (∃ (s : State) (node : Nat) (port : Nat) (addr : Nat) (low : Nat) (high : Nat) (d : _) (i : Nat) (e : _), node < 16 ∧ port < 64 ∧ low < 2 ^ 32
      ∧ high < 2 ^ 32 ∧ s.openGate ∧ s.regShut node port addr = false ∧ s.ft.jump = false ∧ addr < 0x2000000 ∧ addr % 8 = 0
      ∧ s.findReg addr = some (d, i) ∧ s.findReg (addr + 4) = some (e, i) ∧ d.half = .low ∧ e.half = .high ∧ e.addr = d.addr + 4
      ∧ s.noWrite e i = false ∧ (d.fields.any fun f => f.acc = .rw) = true ∧ s.discards d.fields i low = false ∧ s.discards e.fields i high = false
      ∧ (s.stageLow addr low).discards e.fields i high = false ∧ (rowTable.find? fun r => r.1 == e.addr) = none
      ∧ (ruleTable.find? fun r => r.1 == e.addr) = none ∧ e.addr ≠ 0xD00020 ∧ fieldsAt d.addr = d.fields ∧ ((d.fields ++ e.fields).map Fld.key).Nodup
      ∧ fTND_STAT_DEVSTATE.key ∉ d.fields.map Fld.key)
    ∧ (∃ (s : State) (node : Nat) (port : Nat) (addr : Nat) (d : RegDesc) (i : Nat), node < 16 ∧ port < 64 ∧ s.openGate
      ∧ s.regShut node port addr = false ∧ addr < 0x2000000 ∧ addr % 8 = 0 ∧ s.findReg addr = some (d, i) ∧ d.half = .low)
    ∧ (∃ (s : State) (node : Nat) (port : Nat) (addr : Nat) (ev : Nat), node < 16 ∧ port < 64 ∧ ev < 2 ^ 32 ∧ s.openGate
      ∧ s.regShut node port addr = false ∧ addr < 0x2000000 ∧ s.wideAt addr = false)
    ∧ (∃ (s : State) (node : Nat) (port : Nat) (addr : Nat) (val : Nat) (ev : Nat), node < 16 ∧ port < 64 ∧ val < 2 ^ 32 ∧ ev < 2 ^ 32
      ∧ s.regShut node port addr = true) :=
  ⟨⟨put ({ latch := [], stage := [] } : State) [(fPRT_PORTCFG_REGACC, 0, 1), (fCHK_GATE_MISS, 64, 1)], 0, 0, 0x700000, 0, 0, regAt (0x700000), 0,
      by and_intros <;> first | rfl | decide +kernel⟩,
    ⟨put ({ latch := [], stage := [] } : State) [(fPRT_PORTCFG_REGACC, 0, 1), (fCHK_GATE_MISS, 64, 1)], 0, 0, 0x700000, 0x102010, 0, regAt (0x700000),
      0, by and_intros <;> first | rfl | decide +kernel⟩,
    ⟨put ({ latch := [], stage := [] } : State) [(fPRT_PORTCFG_REGACC, 0, 1), (fCHK_GATE_MISS, 64, 1)], 0, 0, 0x510000, 0, 0, regAt (0x510000), 0,
      by and_intros <;> first | rfl | decide +kernel⟩,
    ⟨put ({ latch := [], stage := [(0x510000, 1)] } : State) [(fPRT_PORTCFG_REGACC, 0, 1), (fCHK_GATE_MISS, 64, 1)], 0, 0, 0x510004, 0, 0,
      regAt (0x510004), 0, 0, by and_intros <;> first | rfl | decide +kernel⟩,
    ⟨put ({ latch := [], stage := [] } : State) [(fPRT_PORTCFG_REGACC, 0, 1), (fCHK_GATE_MISS, 64, 1)], 0, 0, 0, 0, 0, regAt (0), 0, _,
      by and_intros <;> first | rfl | decide +kernel⟩,
    ⟨put ({ ft := { jump := false } : State }) [(fPRT_PORTCFG_REGACC, 0, 1), (fCHK_GATE_MISS, 64, 1)], 0, 0, 2, 0, 0, by decide +kernel⟩,
    ⟨put (State.reset) [(fPRT_PORTCFG_REGACC, 0, 1), (fCHK_GATE_MISS, 64, 0)], 0, 0, 0, 0, 0, by decide +kernel⟩,
    ⟨put ({ latch := [], stage := [] } : State) [(fPRT_PORTCFG_REGACC, 0, 1), (fCHK_GATE_MISS, 64, 1)], 0, 0, 0x50, 0, regAt (0x50), 0,
      by decide +kernel⟩,
    ⟨put ({ latch := [], stage := [] } : State) [(fPRT_PORTCFG_REGACC, 0, 1), (fCHK_GATE_MISS, 64, 1)], 0, 0, 0x510000, regAt (0x510000), 0,
      by decide +kernel⟩,
    ⟨put ({ latch := [(0x510004, 6)], stage := [] } : State) [(fPRT_PORTCFG_REGACC, 0, 1), (fCHK_GATE_MISS, 64, 1)], 0, 0, 0x510004, 5,
      by decide +kernel⟩,
    ⟨put (State.reset) [(fPRT_PORTCFG_REGACC, 0, 1), (fCHK_GATE_MISS, 64, 0)], 0, 0, 0, 0, by decide +kernel⟩,
    ⟨put ({ latch := [], stage := [] } : State) [(fPRT_PORTCFG_REGACC, 0, 1), (fCHK_GATE_MISS, 64, 1)], 0, 0, 0x510000, 0, 0, regAt (0x510000), 0,
      regAt (0x510004), by and_intros <;> first | rfl | decide +kernel⟩,
    ⟨put ({ latch := [], stage := [] } : State) [(fPRT_PORTCFG_REGACC, 0, 1), (fCHK_GATE_MISS, 64, 1)], 0, 0, 0x510000, regAt (0x510000), 0,
      by decide +kernel⟩,
    ⟨put ({ latch := [], stage := [] } : State) [(fPRT_PORTCFG_REGACC, 0, 1), (fCHK_GATE_MISS, 64, 1)], 0, 0, 3, 0, by decide +kernel⟩,
    ⟨State.reset, 0, 0, 0, 0, 0, by decide +kernel⟩⟩

/-- States and operands that meet the hypotheses of `Obligations.SuppliesAndColdReset`, clause by clause. -/
theorem witness_SuppliesAndColdReset :
    (∃ (s : State), s.pwr.aux = true)
    ∧ (∃ (s : State), s.pwr.aux = false)
    ∧ (∃ (s : State), s.pwr.pwrgd = true)
    ∧ (∃ (s : State), s.pwr.pwrgd = false)
    ∧ (∃ (s : State) (prog : List (Nat × Nat × Nat)), (prog.all fun e => decide (e.1 < 2 ∧ e.2.1 < 2 ^ 26)) = true ∧ s.pwr.pwrgd = false
      ∧ s.pwr.aux = true ∧ s.pwr.thermLow = false ∧ (s.railsAt 2).isEmpty = true ∧ (∀ p, p < 64 → s.bit fPWR_PERSTIN_LEVEL p = false))
    ∧ (∃ (s : State) (prog : List (Nat × Nat × Nat)), (prog.all fun e => decide (e.1 < 2 ∧ e.2.1 < 2 ^ 26)) = true ∧ s.pwr.pwrgd = false
      ∧ s.pwr.aux = true ∧ s.pwr.thermLow = false ∧ (s.railsAt 2).isEmpty = false)
    ∧ (∃ (s : State), s.rdb fPWR_START_RAILHOLD 0 = true ∧ (s.railsAt 2).isEmpty = true ∧ (∀ p, p < 64 → s.bit fPWR_PERSTIN_LEVEL p = false))
    ∧ (∃ (s : State), (s.rdb fPWR_START_RAILHOLD 0 = false ∨ (s.railsAt 2).isEmpty = false)) :=
  ⟨⟨{ pwr := { aux := true } : State }, by decide +kernel⟩,
    ⟨{ pwr := { aux := false } : State }, by decide +kernel⟩,
    ⟨{ pwr := { pwrgd := true } : State }, by decide +kernel⟩,
    ⟨{ pwr := { pwrgd := false } : State }, by decide +kernel⟩,
    ⟨{ pwr := { pwrgd := false, aux := true, thermLow := false } : State }, ([] : List (Nat × Nat × Nat)), by decide +kernel⟩,
    ⟨put ({ pwr := { pwrgd := false, aux := true, thermLow := false } : State }) [(fPWR_RAILSTAT_LEVEL, 0, 2)], ([] : List (Nat × Nat × Nat)),
      by decide +kernel⟩,
    ⟨put (State.reset) [(fPWR_START_RAILHOLD, 0, 1)], by decide +kernel⟩,
    ⟨put (State.reset) [(fPWR_START_RAILHOLD, 0, 0)], by decide +kernel⟩⟩

/-- States and operands that meet the hypotheses of `Obligations.StrapSampling`, clause by clause. -/
theorem witness_StrapSampling :
    (∃ (s : State), s.pwr.strap.running = true ∧ s.pwr.strap.samples = [])
    ∧ (∃ (s : State) (pins : Nat), pins < 2 ^ 15 ∧ s.pwr.strap = { running := true, source := true })
    ∧ (∃ (s : State) (pins : Nat) (a : Nat), pins < 2 ^ 15 ∧ s.pwr.strap = { running := true, sink := true, samples := [a] })
    ∧ (∃ (s : State) (pins : Nat) (a : Nat) (b : Nat), pins < 2 ^ 15 ∧ s.pwr.strap = { running := true, samples := [a, b] })
    ∧ (∃ (s : State) (a : Nat) (b : Nat) (c : Nat), s.pwr.strap.samples = [a, b, c] ∧ a < 2 ^ 15 ∧ b < 2 ^ 15 ∧ c < 2 ^ 15) :=
  ⟨⟨{ pwr := { strap := { running := true } } : State }, by decide +kernel⟩,
    ⟨{ pwr := { strap := { running := true, source := true } } : State }, 0, by decide +kernel⟩,
    ⟨{ pwr := { strap := { running := true, sink := true, samples := [0] } } : State }, 0, 0, by decide +kernel⟩,
    ⟨{ pwr := { strap := { running := true, samples := [0, 0] } } : State }, 0, 0, 0, by decide +kernel⟩,
    ⟨{ pwr := { strap := { samples := [3, 7, 2] } } : State }, 3, 7, 2, by decide +kernel⟩⟩

/-- States and operands that meet the hypotheses of `Obligations.FirstMilliseconds`, clause by clause. -/
theorem witness_FirstMilliseconds :
    (∃ (s : State), s.pwr.coldHold = false ∧ s.pwr.pll = false ∧ s.pwr.thermLow = false ∧ s.rdb fPKG_STRAP_VALID 0 = true)
    ∧ (∃ (s : State), (s.pwr.coldHold = true ∨ s.pwr.pll = true ∨ s.pwr.thermLow = true ∨ s.rdb fPKG_STRAP_VALID 0 = false))
    ∧ (∃ (s : State) (bad : _), bad < 4 ∧ s.pwr.pll = true ∧ s.pwr.sram = false)
    ∧ (∃ (s : State) (bad : Nat), bad < 4 ∧ s.pwr.pll = true ∧ s.pwr.sram = false ∧ s.pwr.manufTest = false)
    ∧ (∃ (s : State) (bad : Nat), bad < 4 ∧ (s.pwr.pll = false ∨ s.pwr.sram = true))
    ∧ (∃ (s : State) (seg : _), seg < 2 ∧ s.pwr.coldHold = false)
    ∧ (∃ (s : State) (seg : _), seg < 2 ∧ s.pwr.coldHold = true)
    ∧ (∃ (s : State) (tile : Nat), isTile tile = true ∧ s.pwr.coldHold = false ∧ s.pwr.warm = false)
    ∧ (∃ (s : State) (tile : Nat), isTile tile = true ∧ (s.pwr.coldHold = true ∨ s.pwr.warm = true)) :=
  ⟨⟨put ({ pwr := { coldHold := false, pll := false, thermLow := false } : State }) [(fPKG_STRAP_VALID, 0, 1)], by decide +kernel⟩,
    ⟨{ pwr := { pll := true, sram := false } : State }, by decide +kernel⟩,
    ⟨{ pwr := { pll := true, sram := false } : State }, 0, by decide +kernel⟩,
    ⟨{ pwr := { pll := true, sram := false } : State }, 0, by decide +kernel⟩,
    ⟨{ pwr := { pll := false, sram := false } : State }, 0, by decide +kernel⟩,
    ⟨{ pwr := { coldHold := false } : State }, 0, by decide +kernel⟩,
    ⟨{ pwr := { coldHold := true } : State }, 0, by decide +kernel⟩,
    ⟨{ pwr := { coldHold := false, warm := false } : State }, 0, by decide +kernel⟩,
    ⟨{ pwr := { coldHold := true } : State }, 0, by decide +kernel⟩⟩

/-- States and operands that meet the hypotheses of `Obligations.WavesInOrder`, clause by clause. -/
theorem witness_WavesInOrder :
    (∃ (s : State), s.dev = 1 ∧ s.rd fPWR_START_PHASE 0 = 5 ∧ s.wavesWanted = true)
    ∧ (∃ (s : State) (w : Nat), 0 < w ∧ w < 8 ∧ s.rd fPWR_START_PHASE 0 = 6 ∧ s.rd fPWR_START_WAVE 0 + 1 = w)
    ∧ (∃ (s : State) (w : Nat), 0 < w ∧ w < 8 ∧ (s.rd fPWR_START_WAVE 0 + 1 ≠ w ∨ s.rd fPWR_START_PHASE 0 ≠ 6))
    ∧ (∃ (s : State) (w : Nat) (n : Nat), w < 8 ∧ isTile n = true ∧ s.pwr.warm = false ∧ bitOf s.pwr.tiles n = false ∧ bitOf s.pwr.own n = true)
    ∧ (∃ (s : State), s.rd fPWR_START_PHASE 0 = 6 ∧ s.rd fPWR_START_WAVE 0 = 7)
    ∧ (∃ (s : State) (n : Nat), isTile n = true ∧ s.pwr.warm = false ∧ bitOf s.pwr.tiles n = false ∧ bitOf s.pwr.own n = true)
    ∧ (∃ (s : State) (w : Nat) (n : Nat), w < 8 ∧ isTile n = true ∧ (s.pwr.warm = true ∨ bitOf s.pwr.tiles n = true ∨ bitOf s.pwr.own n = false))
    ∧ (∃ (s : State), (s.rd fPWR_START_WAVE 0 ≠ 7 ∨ s.rd fPWR_START_PHASE 0 ≠ 6)) :=
  ⟨⟨put (State.reset) [(fPWR_START_AUTOSTART, 0, 1), (fBOOT_STAT_S2OK, 0, 1), (fTND_STAT_DEVSTATE, 0, 1), (fPWR_START_PHASE, 0, 5)],
      by decide +kernel⟩,
    ⟨put (State.reset) [(fPWR_START_WAVE, 0, 0), (fPWR_START_PHASE, 0, 6)], 1, by decide +kernel⟩,
    ⟨State.reset, 2, by decide +kernel⟩,
    ⟨put ({ pwr := { warm := false, tiles := 0, own := 1 } : State }) [], 0, 0, by decide +kernel⟩,
    ⟨put (State.reset) [(fPWR_START_PHASE, 0, 6), (fPWR_START_WAVE, 0, 7)], by decide +kernel⟩,
    ⟨put ({ pwr := { warm := false, tiles := 0, own := 1 } : State }) [], 0, by decide +kernel⟩,
    ⟨put ({ pwr := { warm := false, tiles := 0 } : State }) [(fPWR_START_WAVE, 0, 8)], 0, 0, by decide +kernel⟩,
    ⟨put (State.reset) [(fPWR_START_WAVE, 0, 0)], by decide +kernel⟩⟩

/-- States and operands that meet the hypotheses of `Obligations.ResetTree`, clause by clause. -/
theorem witness_ResetTree :
    (∃ (s : State), s.pwr.coldHold = false ∧ s.pwr.warm = false ∧ s.pwr.strap.running = false)
    ∧ (∃ (s : State), s.pwr.warm = true)
    ∧ (∃ (s : State) (val : Nat), val < 2 ^ 32 ∧ rstKey val = true ∧ bitOf val 0 = true ∧ s.pwr.coldHold = false ∧ s.pwr.warm = false
      ∧ s.pwr.strap.running = false ∧ s.pwr.warmDue = 0 ∧ s.ckWanted = false)
    ∧ (∃ (s : State) (val : Nat), val < 2 ^ 32 ∧ (s.pwr.coldHold = true ∨ s.pwr.warm = true))
    ∧ (∃ (s : State) (val : Nat), val < 2 ^ 32 ∧ rstKey val = false)
    ∧ (∃ (s : State) (val : Nat) (n : Nat), val < 2 ^ 32 ∧ rstKey val = true ∧ setBits 4 (val / 16) = [n] ∧ s.pwr.coldHold = false
      ∧ s.pwr.warm = false ∧ bitOf s.pwr.tiles n = false)
    ∧ (∃ (s : State) (val : Nat) (n : Nat), val < 2 ^ 32 ∧ setBits 4 (val / 16) = [n] ∧ bitOf s.pwr.tiles n = true)
    ∧ (∃ (s : State), s.pwr.warm = true ∧ s.pwr.warmPin = false)
    ∧ (∃ (s : State), (s.pwr.warm = false ∨ s.pwr.warmPin = true))
    ∧ (∃ (s : State) (n : Nat), isTile n = true ∧ bitOf s.pwr.tiles n = true)
    ∧ (∃ (s : State) (n : Nat), isTile n = true ∧ bitOf s.pwr.culvert n = true ∧ bitOf s.pwr.tiles n = false) :=
  ⟨⟨{ pwr := { coldHold := false, warm := false } : State }, by decide +kernel⟩,
    ⟨{ pwr := { warm := true } : State }, by decide +kernel⟩,
    ⟨{ pwr := { coldHold := false, warm := false, warmDue := 0 } : State }, 1509949441, by decide +kernel⟩,
    ⟨{ pwr := { coldHold := true, warm := false } : State }, 0, by decide +kernel⟩,
    ⟨State.reset, 0, by decide +kernel⟩,
    ⟨{ pwr := { coldHold := false, warm := false, tiles := 0 } : State }, 0x5A000010, 0, by decide +kernel⟩,
    ⟨{ pwr := { coldHold := false, warm := false, tiles := 1 } : State }, 0x5A000010, 0, by decide +kernel⟩,
    ⟨{ pwr := { warm := true, warmPin := false } : State }, by decide +kernel⟩,
    ⟨{ pwr := { warm := false, warmPin := false } : State }, by decide +kernel⟩,
    ⟨{ pwr := { tiles := 2 ^ 0 } : State }, 0, by decide +kernel⟩,
    ⟨{ pwr := { culvert := 2 ^ 0, tiles := 0 } : State }, 0, by decide +kernel⟩⟩

/-- States and operands that meet the hypotheses of `Obligations.RailsAndClocks`, clause by clause. -/
theorem witness_RailsAndClocks :
    (∃ (s : State) (rail : _), rail < 6 ∧ s.railLevel rail = 0)
    ∧ (∃ (s : State) (rail : _), rail < 6)
    ∧ (∃ (s : State) (rail : _), rail < 6 ∧ s.railLevel rail = 2)
    ∧ (∃ (s : State) (dom : Nat), 328 ≤ dom ∧ dom < 352 ∧ s.clockChecked dom = true)
    ∧ (∃ (s : State), s.clockChecked 329 = true)
    ∧ (∃ (s : State) (dom : Nat), 328 ≤ dom ∧ dom < 352 ∧ s.clockChecked dom = false) :=
  ⟨⟨State.reset, 0, by decide +kernel⟩,
    ⟨State.reset, 0, by decide +kernel⟩,
    ⟨put (State.reset) [(fPWR_RAILSTAT_LEVEL, 0, 2)], 0, by decide +kernel⟩,
    ⟨State.reset, 329, by decide +kernel⟩,
    ⟨State.reset, by decide +kernel⟩,
    ⟨State.reset, 328, by decide +kernel⟩⟩

/-- States and operands that meet the hypotheses of `Obligations.SwitchableDomains`, clause by clause. -/
theorem witness_SwitchableDomains :
    (∃ (s : State) (n : Nat) (val : Nat), isDomain n = true ∧ val < 2 ^ 32 ∧ s.discards (fieldsAt fPWR_DOMCTL_ON.addr) n val = false
      ∧ s.domUsed n = true ∧ s.rdb fPWR_DOMCTL_BUSY n = false ∧ s.rd fACQ_DOMSTAT_STATE n = 0 ∧ bitOf val 0 = false)
    ∧ (∃ (s : State) (n : Nat), isDomain n = true ∧ s.rd fACQ_DOMSTAT_STATE n = 3 ∧ s.domWanted n = true)
    ∧ (∃ (s : State) (n : Nat), isDomain n = true ∧ s.rd fACQ_DOMSTAT_STATE n ≠ 3)
    ∧ (∃ (s : State) (n : Nat), isDomain n = true ∧ s.rd fACQ_DOMSTAT_STATE n = 2 ∧ s.rdb fPWR_DOMCTL_BUSY n = true ∧ s.domWanted n = false)
    ∧ (∃ (s : State) (n : Nat) (val : Nat), n < 8 ∧ val < 2 ^ 32 ∧ s.discards (fieldsAt fPWR_DOMCTL_ON.addr) n val = false) :=
  ⟨⟨put (State.reset) [(fPRT_PORTCFG_ENABLE, 0, 1), (fPRT_PORTCFG_WIDTH, 0, 0), (fPWR_DOMCTL_ON, 8, 1), (fPWR_DOMCTL_BUSY, 8, 0), (fACQ_DOMSTAT_STATE,
      8, 0)], 8, 0, by decide +kernel⟩,
    ⟨put (State.reset) [(fPRT_PORTCFG_ENABLE, 0, 1), (fPRT_PORTCFG_WIDTH, 0, 0), (fPWR_DOMCTL_ON, 8, 1), (fACQ_DOMSTAT_STATE, 8, 3)], 8,
      by decide +kernel⟩,
    ⟨put (State.reset) [(fACQ_DOMSTAT_STATE, 8, 0)], 8, by decide +kernel⟩,
    ⟨put (State.reset) [(fACQ_DOMSTAT_STATE, 8, 2), (fPWR_DOMCTL_BUSY, 8, 1)], 8, by decide +kernel⟩,
    ⟨State.reset, 0, 0, by decide +kernel⟩⟩

/-- States and operands that meet the hypotheses of `Obligations.PerstAndReadiness`, clause by clause. -/
theorem witness_PerstAndReadiness :
    (∃ (s : State) (p : Nat), isPort p = true ∧ s.underReset p = true)
    ∧ (∃ (s : State) (p : Nat), isPort p = true ∧ s.underReset p = false)
    ∧ (∃ (s : State) (p : Nat), isPort p = true ∧ s.perstMay p = true)
    ∧ (∃ (s : State) (p : Nat), isPort p = true ∧ s.perstMay p = false)
    ∧ (∃ (s : State) (p : Nat) (m : Msg) (fn : CfgFn) (f : CfgField) (wr : Option Nat), isPort p = true ∧ m.src = p
      ∧ s.bit fPWR_PORTRDY_READY p = false ∧ bitOf s.pwr.late p = false)
    ∧ (∃ (s : State) (p : Nat) (m : Msg) (fn : CfgFn) (f : CfgField) (wr : Option Nat), isPort p = true ∧ m.src = p
      ∧ (s.bit fPWR_PORTRDY_READY p = true ∨ bitOf s.pwr.late p = true) ∧ s.cfgPresent p fn = false)
    ∧ (∃ (s : State) (p : Nat) (m : Msg) (fn : CfgFn) (f : CfgField) (v : Nat), isPort p = true ∧ m.src = p
      ∧ (s.bit fPWR_PORTRDY_READY p = true ∨ bitOf s.pwr.late p = true) ∧ s.cfgPresent p fn = true ∧ s.cfgRead p fn f = some v ∧ (∀ o, f ≠ .dvsec o))
    ∧ (∃ (s : State) (p : Nat) (m : Msg) (fn : CfgFn) (f : CfgField) (v : Nat), isPort p = true ∧ m.src = p
      ∧ (s.bit fPWR_PORTRDY_READY p = true ∨ bitOf s.pwr.late p = true) ∧ s.cfgPresent p fn = true)
    ∧ (∃ (s : State) (p : Nat), isPort p = true ∧ s.enabled p = true ∧ s.bit fPWR_PORTRDY_READY p = false ∧ bitOf s.pwr.late p = false
      ∧ s.underReset p = false ∧ (s.upstream p = true → s.bit fPWR_PERSTIN_LEVEL p = true))
    ∧ (∃ (s : State) (p : Nat), isPort p = true ∧ (s.bit fPWR_PORTRDY_READY p = true ∨ bitOf s.pwr.late p = true ∨ s.enabled p = false)) :=
  ⟨⟨State.reset, 0, by decide +kernel⟩,
    ⟨{ pwr := { coldHold := false } : State }, 0, by decide +kernel⟩,
    ⟨put ({ pwr := { coldHold := false, waved := 1 } : State }) [(fPRT_PORTCFG_ENABLE, 0, 1), (fPRT_PORTCFG_ROLE, 0, 0), (fPRT_SLOTSTAT_PRESENT, 0,
      1), (fPRT_SLOTCFG_SLOTEN, 0, 0), (fPWR_CLKSTAT_OK, 0, 2 ^ 13)], 0, by decide +kernel⟩,
    ⟨State.reset, 0, by decide +kernel⟩,
    ⟨put ({ pwr := { late := 0 } : State }) [(fPWR_PORTRDY_READY, (0 / 32), 0)], 0, { kind := .ioPosted }, .pf, .vendorId, none, by decide +kernel⟩,
    ⟨put (State.reset) [(fPWR_PORTRDY_READY, (0 / 32), (2 ^ (0 % 32)))], 0, { kind := .ioPosted }, .vf 1, .vendorId, none, by decide +kernel⟩,
    ⟨put (State.reset) [(fPWR_PORTRDY_READY, 0, 1), (fPRT_PORTCFG_ROLE, 0, 1)], 0, { kind := .ioPosted }, .pf, .vendorId, 0x1FC4,
      by and_intros <;> first | rfl | decide +kernel | exact fun _ h => nomatch h⟩,
    ⟨put (State.reset) [(fPWR_PORTRDY_READY, 0, 1), (fPRT_PORTCFG_ROLE, 0, 1)], 0, { kind := .ioPosted }, .pf, .vendorId, 0, by decide +kernel⟩,
    ⟨put ({ pwr := { late := 0, coldHold := false } : State }) [(fPRT_PORTCFG_ENABLE, 0, 1), (fPRT_PORTCFG_ROLE, 0, 0)], 0, by decide +kernel⟩,
    ⟨put (State.reset) [(fPWR_PORTRDY_READY, (0 / 32), (2 ^ (0 % 32)))], 0, by decide +kernel⟩⟩

/-- States and operands that meet the hypotheses of `Obligations.JunctionTemperature`, clause by clause. -/
theorem witness_JunctionTemperature :
    (∃ (s : State) (temp : Nat) (sensor : Nat), tempOk temp sensor = true ∧ 4 * (s.rd fPWR_TEMPCFG_TWARN 0 : Int) ≤ toInt 11 temp)
    ∧ (∃ (s : State) (temp : Nat) (sensor : Nat), tempOk temp sensor = true
      ∧ toInt 11 temp < 4 * (s.rd fPWR_TEMPCFG_TWARN 0 : Int) - 4 * s.rd fPWR_TEMPCFG_HYST 0)
    ∧ (∃ (s : State) (temp : Nat) (sensor : Nat), tempOk temp sensor = true ∧ 480 ≤ toInt 11 temp ∧ s.pwr.thermLow = false)
    ∧ (∃ (s : State) (temp : Nat) (sensor : Nat), tempOk temp sensor = true ∧ toInt 11 temp < 4 * (s.rd fPWR_TEMPCFG_TWARN 0 : Int)
      ∧ 4 * (s.rd fPWR_TEMPCFG_TWARN 0 : Int) - 4 * s.rd fPWR_TEMPCFG_HYST 0 ≤ toInt 11 temp) :=
  ⟨⟨State.reset, 500, 0, by decide +kernel⟩,
    ⟨State.reset, 0, 0, by decide +kernel⟩,
    ⟨{ pwr := { thermLow := false } : State }, 500, 0, by decide +kernel⟩,
    ⟨put (State.reset) [(fPWR_TEMPCFG_TWARN, 0, 100), (fPWR_TEMPCFG_HYST, 0, 5)], 399, 0, by decide +kernel⟩⟩

/-- States and operands that meet the hypotheses of `Obligations.ComparatorsFireInOrder`, clause by clause. -/
theorem witness_ComparatorsFireInOrder :
    (∃ (s : State), s.ft.run = true)
    ∧ (∃ (s : State) (c : Nat), s.ft.run = true ∧ (s.tnd.timed.map (·.at_)).min? = some c ∧ c ≤ s.firstTarget)
    ∧ (∃ (s : State) (c : Nat), (s.tnd.timed.map (·.at_)).min? = some c ∧ s.firstTarget < c)
    ∧ (∃ (s : State) (c : Nat), s.ft.run = true ∧ (s.xlt.timed.map (·.at_)).min? = some c ∧ c ≤ s.firstTarget)
    ∧ (∃ (s : State) (c : Nat), s.ft.run = true ∧ s.chkTargets.min? = some c ∧ c ≤ s.firstTarget)
    ∧ (∃ (s : State) (x : Nat), x < 72 ∧ s.ft.run = true ∧ s.rdb fWEIR_EG_PEND x = true ∧ SMap.get 0 s.weir.rotAt x ≤ s.firstTarget)
    ∧ (∃ (s : State) (x : Nat), x < 72 ∧ s.ft.run = true ∧ s.rotOn x = true ∧ s.nextCycle x ≤ s.firstTarget)
    ∧ (∃ (s : State) (x : Nat), x < 72 ∧ s.ft.run = true ∧ s.rotOn x = true ∧ s.nextEntry x ≤ s.firstTarget)
    ∧ (∃ (s : State) (x : Nat), x < 72 ∧ s.rotOn x = false)
    ∧ (∃ (s : State) (idx : Nat), s.ft.run = true ∧ s.weir.refilled = some (s.ft.now / 256) ∧ (s.ft.now / 256 + 1) * 256 ≤ s.firstTarget)
    ∧ (∃ (s : State) (idx : Nat), s.ft.run = false)
    ∧ (∃ (s : State) (c : Nat), s.ft.run = true ∧ s.flmTargets.min? = some c ∧ c ≤ s.firstTarget)
    ∧ (∃ (s : State), s.ftState ≠ 4)
    ∧ (∃ (s : State) (k : Nat), s.ftState = 4 ∧ k = ceilDiv (s.ft.holdAt + (s.rd fFT_HOLDLIM 0 + 1) * nsPerSec - s.pwr.ns) 4
      ∧ (k ≤ s.ticksTo s.firstTarget ∨ s.ft.run = false))
    ∧ (∃ (s : State) (k : Nat), s.ftState = 4 ∧ k = ceilDiv (s.ft.holdAt + (s.rd fFT_HOLDLIM 0 + 1) * nsPerSec - s.pwr.ns) 4
      ∧ s.ticksTo s.firstTarget < k ∧ s.ft.run = true)
    ∧ (∃ (s : State) (t : Nat), s.ft.slew = 0 ∧ s.ft.frac < 2 ^ 40 ∧ s.ft.run = true ∧ s.ft.now < t ∧ 0 < tickAdd (toInt 32 (s.rd fFT_RATE 0))) :=
  ⟨⟨{ ft := { run := true } : State }, by decide +kernel⟩,
    ⟨{ ft := { run := true }, tnd := { timed := [{ seq := 1, at_ := 0, orig := 0, cmd := { who := { path := 0, mac := 1, port := 0, tag := 1 }, op := 2, index := 0x1000, sub := 0 } }] } : State },
      0, by decide +kernel⟩,
    ⟨{ tnd := { timed := [{ seq := 1, at_ := 10 ^ 15, orig := 0, cmd := { who := { path := 0, mac := 1, port := 0, tag := 1 }, op := 2, index := 0x1000, sub := 0 } }] } : State },
      10 ^ 15, by decide +kernel⟩,
    ⟨{ ft := { run := true }, xlt := { timed := [{ at_ := 0, idx := 0, op := 1, zero := false, entry := 0 }] } : State }, 0, by decide +kernel⟩,
    ⟨{ ft := { run := true }, chk := { pend := [{ tag := 0, gates := [], at_ := some 0 }] } : State }, 0, by decide +kernel⟩,
    ⟨put ({ ft := { run := true } : State }) [(fWEIR_EG_PEND, 0, 1)], 0, by decide +kernel⟩,
    ⟨put ({ ft := { run := true } : State }) [(fWEIR_EG_ANENT, 0, 1), (fWEIR_EG_ROTEN, 0, 1)], 0, by decide +kernel⟩,
    ⟨put ({ ft := { run := true } : State }) [(fWEIR_EG_ANENT, 0, 1), (fWEIR_EG_ROTEN, 0, 1)], 0, by decide +kernel⟩,
    ⟨State.reset, 0, by decide +kernel⟩,
    ⟨{ ft := { run := true }, weir := { refilled := some 0 } : State }, 0, by decide +kernel⟩,
    ⟨{ ft := { run := false } : State }, 0, by decide +kernel⟩,
    ⟨{ ft := { run := true } : State }, 1000000000, by decide +kernel⟩,
    ⟨put (State.reset) [(fFT_STAT_STATE, 0, 0)], by decide +kernel⟩,
    ⟨put ({ pwr := { ns := 10 ^ 9 } : State }) [(fFT_HOLDLIM, 0, 0), (fFT_STAT_STATE, 0, 4)], 0, by decide +kernel⟩,
    ⟨put ({ ft := { run := true } : State }) [(fFT_HOLDLIM, 0, 59), (fFT_STAT_STATE, 0, 4)], 15000000000, by decide +kernel⟩,
    ⟨{ ft := { run := true } : State }, 1, by decide +kernel⟩⟩

/-- States and operands that meet the hypotheses of `Obligations.FabricTimeInputs`, clause by clause. -/
theorem witness_FabricTimeInputs :
    (∃ (s : State) (inB : Bool) (n : Nat) (high : Nat), s.ft.run = true ∧ 100 ≤ high ∧ ((n : Int) - s.ft.now).natAbs ≤ 4
      ∧ s.ppsTakes inB (s.ppsCorrected inB n) = false ∧ s.ft.jump = false)
    ∧ (∃ (s : State) (inB : Bool) (n : Nat) (high : Nat), s.ft.run = true ∧ 100 ≤ high ∧ ((n : Int) - s.ft.now).natAbs ≤ 4
      ∧ s.ppsTakes inB (s.ppsCorrected inB n) = true ∧ s.ft.jump = false ∧ (s.pps inB).streak < 2 ∧ s.ppsGood inB = false
      ∧ s.rd fFT_CTRL_SRCMODE 0 = (if inB then 1 else 2) ∧ (s.pps inB).named = none)
    ∧ (∃ (s : State) (inB : Bool) (n : Nat) (high : Nat), high < 100 ∧ s.ft.jump = false)
    ∧ (∃ (s : State) (inB : Bool), s.ft.jump = false ∧ s.ppsGood inB = true ∧ s.ppsUsable (!inB) = true ∧ (s.pps (!inB)).cap = none
      ∧ (s.pps inB).named = none)
    ∧ (∃ (s : State) (inB : Bool) (bytes : List Byte) (framed : Bool) (n : Nat), s.ft.jump = false ∧ s.rdb fFT_CTRL_TODMODE 0 = true)
    ∧ (∃ (s : State) (inB : Bool) (bytes : List Byte) (framed : Bool) (n : Nat), s.ft.jump = false ∧ bytes.getD 0 0 ≠ 0x7E)
    ∧ (∃ (s : State) (inB : Bool) (bytes : List Byte) (framed : Bool) (n : Nat), s.ft.jump = false ∧ s.rdb fFT_CTRL_TODMODE 0 = false
      ∧ bytes.getD 0 0 = 0x7E ∧ (framed = false ∨ todGood bytes = false ∨ s.todInTime inB n = false))
    ∧ (∃ (s : State) (inB : Bool) (bytes : List Byte) (n : Nat), s.ft.jump = false ∧ s.rdb fFT_CTRL_TODMODE 0 = false ∧ todGood bytes = true
      ∧ s.todInTime inB n = true)
    ∧ (∃ (s : State) (inB : Bool), s.rdb fFT_CTRL_TODMODE 0 = false)
    ∧ (∃ (s : State) (inB : Bool), s.rdb fFT_CTRL_TODMODE 0 = true)
    ∧ (∃ (s : State) (val : _), val < 2 ^ 32 ∧ s.discards (fieldsAt 0x600010) 0 val = false)
    ∧ (∃ (s : State) (val : _), val < 2 ^ 32 ∧ s.discards (fieldsAt 0x600010) 0 val = false ∧ bitOf val 3 = true ∧ bitOf val 4 = false
      ∧ s.rdb fFT_CTRL_TODMODE 0 = true ∧ fFT_CTRL_TODMODE.of val = 1 ∧ s.ft.jump = false ∧ (∀ b,
      (s.setRW (fieldsAt 0x600010) 0 val).ppsUsable b = true))
    ∧ (∃ (s : State) (val : _), val < 2 ^ 32 ∧ s.discards (fieldsAt 0x600010) 0 val = false ∧ bitOf val 3 = true ∧ s.rdb fFT_CTRL_TODMODE 0 = false
      ∧ s.ft.jump = false)
    ∧ (∃ (s : State) (val : _), val < 2 ^ 32 ∧ s.discards (fieldsAt 0x600010) 0 val = false ∧ bitOf val 3 = false ∧ bitOf val 4 = true
      ∧ s.rdb fFT_STAT_STEPHELD 0 = false ∧ s.ft.jump = false ∧ s.ftState ≤ 1)
    ∧ (∃ (s : State) (val : Nat), val < 2 ^ 32 ∧ s.discards (fieldsAt 0x600010) 0 val = false ∧ bitOf val 3 = false ∧ bitOf val 4 = true
      ∧ s.rdb fFT_STAT_STEPHELD 0 = true ∧ 0 < s.ft.slew) :=
  ⟨⟨put ({ ft := { run := true, jump := false } : State }) [(fFT_STAT_STATE, 0, 2), (fFT_ACCWIN, 0, 0)], false, 4, 100, by decide +kernel⟩,
    ⟨put ({ ft := { run := true, jump := false } : State }) [(fFT_CTRL_SRCMODE, 0, 2)], false, default, 100, by decide +kernel⟩,
    ⟨{ ft := { jump := false } : State }, false, 0, 0, by decide +kernel⟩,
    ⟨put ({ ft := { jump := false } : State }) [(fFT_STAT_AGOOD, 0, 1), (fFT_STAT_BGOOD, 0, 1)], false, by decide +kernel⟩,
    ⟨put ({ ft := { jump := false } : State }) [(fFT_CTRL_TODMODE, 0, 1)], false, [], false, 0, by decide +kernel⟩,
    ⟨put ({ ft := { jump := false } : State }) [(fFT_CTRL_TODMODE, 0, 1)], false, [], false, 0, by decide +kernel⟩,
    ⟨put ({ ft := { jump := false } : State }) [(fFT_CTRL_TODMODE, 0, 0)], false, [0x7E], false, 0, by decide +kernel⟩,
    ⟨put ({ ft := { jump := false } : State }) [(fFT_CTRL_TODMODE, 0, 0)], true, [126, 70, 0, 0, 0, 0, 0, 0, 0, 182], 0, by decide +kernel⟩,
    ⟨put (State.reset) [(fFT_CTRL_TODMODE, 0, 0)], false, by decide +kernel⟩,
    ⟨put (State.reset) [(fFT_CTRL_TODMODE, 0, 1), (fFT_CTRL_TODMODE, 0, 0)], false, by decide +kernel⟩,
    ⟨State.reset, 0, by decide +kernel⟩,
    ⟨put ({ ft := { jump := false } : State }) [(fFT_STAT_AGOOD, 0, 1), (fFT_STAT_BGOOD, 0, 1), (fFT_CTRL_TODMODE, 0, 1)], 12, by decide +kernel⟩,
    ⟨put ({ ft := { jump := false } : State }) [(fFT_CTRL_TODMODE, 0, 0)], 8, by decide +kernel⟩,
    ⟨put ({ ft := { jump := false } : State }) [(fFT_STAT_STEPHELD, 0, 0), (fFT_STAT_STATE, 0, 1)], 16, by decide +kernel⟩,
    ⟨put ({ ft := { jump := false, slew := 1 } : State }) [(fFT_STAT_STEPHELD, 0, 1), (fFT_STAT_STATE, 0, 1)], 16, by decide +kernel⟩⟩

/-- States and operands that meet the hypotheses of `Obligations.LaneRegisters`, clause by clause. -/
theorem witness_LaneRegisters :
    (∃ (s : State) (l : Nat) (val : Nat), isLane l = true ∧ val < 2 ^ 32 ∧ s.discards (fieldsAt 0x801000) l val = false
      ∧ bitOf s.pwr.culvert (laneTile l) = false ∧ (fSER_LCTL_LOOP.of val = 0 ∨ s.mayTest l = true))
    ∧ (∃ (s : State) (l : Nat) (val : Nat), isLane l = true ∧ val < 2 ^ 32 ∧ s.discards (fieldsAt 0x801000) l val = false
      ∧ bitOf s.pwr.culvert (laneTile l) = false ∧ fSER_LCTL_LOOP.of val ≠ 0 ∧ s.mayTest l = false)
    ∧ (∃ (s : State) (l : Nat) (val : Nat), isLane l = true ∧ val < 2 ^ 32
      ∧ (s.discards (fieldsAt 0x801000) l val = true ∨ bitOf s.pwr.culvert (laneTile l) = true))
    ∧ (∃ (s : State) (l : Nat) (val : Nat), isLane l = true ∧ val < 2 ^ 32 ∧ (s.laneOn l = false ∨ bitOf s.pwr.culvert (laneTile l) = true))
    ∧ (∃ (s : State) (l : Nat) (val : Nat), isLane l = true ∧ val < 2 ^ 32
      ∧ (s.laneOn l = false ∨ s.discards (fieldsAt 0x801018) l val = true ∨ bitOf s.pwr.culvert (laneTile l) = true))
    ∧ (∃ (s : State) (l : Nat) (val : Nat), isLane l = true ∧ val < 2 ^ 32
      ∧ (s.laneOn l = false ∨ s.discards (fieldsAt 0x801020) l val = true ∨ bitOf s.pwr.culvert (laneTile l) = true))
    ∧ (∃ (s : State) (l : Nat) (val : Nat), isLeatLane l = true ∧ val < 2 ^ 32 ∧ s.laneOn l = true ∧ s.rdb fSER_LCTL_ALIGNMAN l = true
      ∧ s.laneStage l = 3 ∧ fSER_SLIP_COUNT.of val ≠ 0 ∧ fSER_SLIP_KEY.of val = 0xA5 ∧ (s.lane l).slipEnd ≤ s.pwr.ns
      ∧ (s.lane l).offset < blockSymbols ∧ bitOf s.pwr.culvert (laneTile l) = false ∧ bitOf val 7 = false)
    ∧ (∃ (s : State) (l : Nat) (val : Nat), isLeatLane l = true ∧ val < 2 ^ 32 ∧ s.laneOn l = true ∧ s.rdb fSER_LCTL_ALIGNMAN l = true
      ∧ s.laneStage l = 3 ∧ fSER_SLIP_COUNT.of val ≠ 0 ∧ fSER_SLIP_KEY.of val = 0xA5 ∧ (s.lane l).slipEnd ≤ s.pwr.ns
      ∧ (s.lane l).offset < blockSymbols ∧ bitOf s.pwr.culvert (laneTile l) = false ∧ bitOf val 7 = true)
    ∧ (∃ (s : State) (l : Nat) (val : Nat), isLane l = true ∧ val < 2 ^ 32 ∧ s.laneOn l = true ∧ bitOf s.pwr.culvert (laneTile l) = false
      ∧ (isLeatLane l = false ∨ s.rdb fSER_LCTL_ALIGNMAN l = false ∨ s.laneStage l ≠ 3 ∨ fSER_SLIP_KEY.of val ≠ 0xA5 ∨ fSER_SLIP_COUNT.of val = 0 ∨ s.pwr.ns < (s.lane l).slipEnd))
    ∧ (∃ (s : State) (l : Nat) (val : Nat), isLane l = true ∧ val < 2 ^ 32 ∧ s.laneOn l = true ∧ s.discards (fieldsAt 0x801018) l val = false
      ∧ bitOf s.pwr.culvert (laneTile l) = false ∧ (fSER_PRBSCTL_PATTERN.of val = 0 ∨ (fSER_PRBSCTL_GEN.of val = 0
      ∧ fSER_PRBSCTL_CHK.of val = 0) ∨ (s.mayTest l = true ∧ (fSER_PRBSCTL_PATTERN.of val < 4 ∨ s.laneNrz l = false))))
    ∧ (∃ (s : State) (l : Nat) (val : Nat), isLane l = true ∧ val < 2 ^ 32 ∧ s.laneOn l = true ∧ s.discards (fieldsAt 0x801018) l val = false
      ∧ bitOf s.pwr.culvert (laneTile l) = false ∧ fSER_PRBSCTL_PATTERN.of val ≠ 0 ∧ (fSER_PRBSCTL_GEN.of val = 1 ∨ fSER_PRBSCTL_CHK.of val = 1)
      ∧ (s.mayTest l = false ∨ (4 ≤ fSER_PRBSCTL_PATTERN.of val ∧ s.laneNrz l = true)))
    ∧ (∃ (s : State) (l : Nat) (errors : Nat), isLane l = true ∧ s.rd fSER_PRBSCTL_PATTERN l ≠ 0 ∧ s.rdb fSER_PRBSCTL_CHK l = true)
    ∧ (∃ (s : State) (l : Nat) (errors : Nat), isLane l = true ∧ (s.rd fSER_PRBSCTL_PATTERN l = 0 ∨ s.rdb fSER_PRBSCTL_CHK l = false))
    ∧ (∃ (s : State) (l : Nat) (val : Nat), isLane l = true ∧ val < 2 ^ 32 ∧ s.laneOn l = true ∧ s.discards (fieldsAt 0x801020) l val = false
      ∧ bitOf s.pwr.culvert (laneTile l) = false ∧ bitOf val 0 = true)
    ∧ (∃ (s : State) (l : Nat) (val : Nat), isLane l = true ∧ val < 2 ^ 32 ∧ s.laneOn l = true ∧ s.discards (fieldsAt 0x801020) l val = false
      ∧ bitOf s.pwr.culvert (laneTile l) = false ∧ bitOf val 0 = false)
    ∧ (∃ (s : State) (l : Nat) (count : Nat), isLane l = true ∧ (s.lane l).scan = true)
    ∧ (∃ (s : State) (l : Nat) (count : Nat) (lost : Bool), isLane l = true ∧ (s.lane l).scan = false)
    ∧ (∃ (s : State) (l : Nat) (p : Nat), l < 256 ∧ s.lanePort l = some p ∧ s.rd fPRT_PORTSTAT_LTSSM p = 4)
    ∧ (∃ (s : State) (l : Nat), l < 256 ∧ (∀ p, s.lanePort l = some p → s.rd fPRT_PORTSTAT_LTSSM p ≠ 4))
    ∧ (∃ (bits : List Bool), bits.length % 2 = 0)
    ∧ (∃ (xs : List Nat), (∀ x ∈ xs, x < 4))
    ∧ (∃ (w : Nat), w < 2 ^ 48)
    ∧ (∃ (pidx : Nat) (w : Nat) (inv : Bool) (bits : List Bool), bits.length % 2 = 0)
    ∧ (∃ (s : State) (l : Nat) (q : Nat), isLeatLane l = true ∧ q < 2 ^ 15 ∧ ((s.lane l).tx < 8 ∨ (s.lane l).tx = 0xE ∨ (s.lane l).tx = 0xF)
      ∧ (s.lk (laneLink l)).own < 16 ∧ (∀ r, (s.lane l).req = some r → r < 10 ∨ (16 ≤ r ∧ r < 24)))
    ∧ (∃ (pidx : Nat) (mk : Nat → Nat) (inv : Bool) (seq : Nat) (bits : List Bool) (n : Nat), bits.length % 2 = 0 ∧ bits.length ≤ n * blockBits)
    ∧ (∃ (s : State) (l : Nat) (st : Nat) (bits : List Bool) (rx : List Nat), s.laneOn l = true ∧ s.leftOut l = false
      ∧ (isLeatLane l = false ∨ (s.lk (laneLink l)).quiet = false ∨ s.testing l = true) ∧ s.rd fSER_LCTL_LOOP l = 1)
    ∧ (∃ (s : State) (l : Nat) (st : Nat) (bits : List Bool) (rx : List Nat), s.laneOn l = true ∧ s.leftOut l = false
      ∧ (isLeatLane l = false ∨ (s.lk (laneLink l)).quiet = false ∨ s.testing l = true) ∧ s.rd fSER_LCTL_LOOP l = 2) :=
  ⟨⟨State.reset, 0, 0, by decide +kernel⟩,
    ⟨put (State.reset) [(fSER_LSTAT_STAGE, 256, 6)], 256, 0x20, by decide +kernel⟩,
    ⟨put (State.reset) [(fPWR_DOMCTL_PWRD, (laneDom 256), 1), (fSER_LCTL_ALIGNMAN, 256, 1), (fSER_LSTAT_STAGE, 256, 3)], 0, 31, by decide +kernel⟩,
    ⟨put (State.reset) [(fPWR_DOMCTL_PWRD, (laneDom 0), 1)], 199, 0, by decide +kernel⟩,
    ⟨put (State.reset) [(fPWR_DOMCTL_PWRD, (laneDom 0), 1)], 199, 0, by decide +kernel⟩,
    ⟨put (State.reset) [(fPWR_DOMCTL_PWRD, (laneDom 0), 1)], 0, 0, by decide +kernel⟩,
    ⟨put (State.reset) [(fPWR_DOMCTL_PWRD, (laneDom 256), 1), (fSER_LCTL_ALIGNMAN, 256, 1), (fSER_LSTAT_STAGE, 256, 3)], 256, 2768240641,
      by decide +kernel⟩,
    ⟨put (State.reset) [(fPWR_DOMCTL_PWRD, (laneDom 256), 1), (fSER_LCTL_ALIGNMAN, 256, 1), (fSER_LSTAT_STAGE, 256, 3)], 256, 2768240769,
      by decide +kernel⟩,
    ⟨put (State.reset) [(fPWR_DOMCTL_PWRD, (laneDom 0), 1)], 0, 0, by decide +kernel⟩,
    ⟨put (State.reset) [(fPWR_DOMCTL_PWRD, (laneDom 0), 1)], 0, 0, by decide +kernel⟩,
    ⟨put (State.reset) [(fPWR_DOMCTL_PWRD, (laneDom 0), 1), (fPRT_PORTCFG_ENABLE, 0, 1), (fSER_LSTAT_STAGE, 0, 9)], 0, 0x11, by decide +kernel⟩,
    ⟨put (State.reset) [(fSER_PRBSCTL_PATTERN, 0, 1), (fSER_PRBSCTL_CHK, 0, 1)], 0, 0, by decide +kernel⟩,
    ⟨put ({ lanes := [(0, { scan := false })] : State }) [(fPRT_PORTCFG_ENABLE, 0, 1), (fPRT_PORTSTAT_LTSSM, 0, 4)], 0, 0, by decide +kernel⟩,
    ⟨put (State.reset) [(fPWR_DOMCTL_PWRD, (laneDom 0), 1)], 0, 2621445, by decide +kernel⟩,
    ⟨put (State.reset) [(fPWR_DOMCTL_PWRD, (laneDom 256), 1), (fSER_LCTL_ALIGNMAN, 256, 1), (fSER_LSTAT_STAGE, 256, 3)], 256, 2097152,
      by decide +kernel⟩,
    ⟨{ lanes := [(0, { scan := true })] : State }, 0, 0, by decide +kernel⟩,
    ⟨put ({ lanes := [(0, { scan := false })] : State }) [(fPRT_PORTCFG_ENABLE, 0, 1), (fPRT_PORTSTAT_LTSSM, 0, 4)], 0, 0, false, by decide +kernel⟩,
    ⟨put ({ lanes := [(0, { scan := false })] : State }) [(fPRT_PORTCFG_ENABLE, 0, 1), (fPRT_PORTSTAT_LTSSM, 0, 4)], 0, 0, by decide +kernel⟩,
    ⟨put ({ lanes := [(0, { scan := false })] : State }) [(fPRT_PORTCFG_ENABLE, 0, 1), (fPRT_PORTSTAT_LTSSM, 0, 4)], 199, by decide +kernel⟩,
    ⟨[], by decide +kernel⟩,
    ⟨[], by decide +kernel⟩,
    ⟨0, by decide +kernel⟩,
    ⟨0, 0, false, [], by decide +kernel⟩,
    ⟨{ lanes := [(256, { scan := true })] : State }, 256, 0, by decide +kernel⟩,
    ⟨0, fun _ => 0, false, 0, [], 0, by decide +kernel⟩,
    ⟨put (State.reset) [(fPWR_DOMCTL_PWRD, (laneDom 0), 1), (fSER_LCTL_LOOP, 0, 1)], 0, 0, [], [], by decide +kernel⟩,
    ⟨put (State.reset) [(fPWR_DOMCTL_PWRD, (laneDom 0), 1), (fSER_LCTL_LOOP, 0, 2)], 0, 0, [], [], by decide +kernel⟩⟩

/-- States and operands that meet the hypotheses of `Obligations.LaneStages`, clause by clause. -/
theorem witness_LaneStages :
    (∃ (s : State) (l : Nat), isLeatLane l = true ∧ s.laneStage l = 1)
    ∧ (∃ (s : State) (l : Nat), isLeatLane l = true ∧ s.laneStage l ≠ 1)
    ∧ (∃ (s : State) (l : Nat), isLeatLane l = true ∧ s.laneStage l = 2)
    ∧ (∃ (s : State) (l : Nat), isLeatLane l = true ∧ s.laneStage l ≠ 2)
    ∧ (∃ (s : State) (l : Nat), isLeatLane l = true ∧ s.laneStage l ≠ 3)
    ∧ (∃ (s : State) (l : Nat), isLeatLane l = true ∧ s.laneStage l ≠ 4)
    ∧ (∃ (s : State) (l : Nat) (skew : Nat), isLeatLane l = true ∧ s.laneStage l ≠ 5)
    ∧ (∃ (s : State) (l : Nat), isLeatLane l = true ∧ (s.lane l).ask = none)
    ∧ (∃ (s : State) (l : Nat), isLeatLane l = true ∧ s.laneStage l = 3 ∧ s.rdb fSER_LCTL_ALIGNMAN l = false)
    ∧ (∃ (s : State) (l : Nat), isLeatLane l = true ∧ s.laneStage l = 3 ∧ s.rdb fSER_LCTL_ALIGNMAN l = true)
    ∧ (∃ (s : State) (l : Nat) (p : Nat), isLeatLane l = true ∧ s.laneStage l = 4 ∧ (s.lane l).ask = some p ∧ p < 10)
    ∧ (∃ (s : State) (l : Nat) (q : Nat), isLeatLane l = true ∧ s.laneStage l = 4 ∧ (s.lane l).ask = some (16 + q)
      ∧ stepTaps q (s.rd fSER_TXEQ_CM2 l) (s.rd fSER_TXEQ_CM1 l) (s.rd fSER_TXEQ_CP1 l) = none)
    ∧ (∃ (s : State) (l : Nat) (q : Nat) (x : Nat) (y : Nat) (z : Nat), isLeatLane l = true ∧ s.laneStage l = 4 ∧ (s.lane l).ask = some (16 + q)
      ∧ stepTaps q (s.rd fSER_TXEQ_CM2 l) (s.rd fSER_TXEQ_CM1 l) (s.rd fSER_TXEQ_CP1 l) = some (x, y, z) ∧ tapsOk x y z = true)
    ∧ (∃ (s : State) (l : Nat) (q : Nat) (x : Nat) (y : Nat) (z : Nat), isLeatLane l = true ∧ s.laneStage l = 4 ∧ (s.lane l).ask = some (16 + q)
      ∧ stepTaps q (s.rd fSER_TXEQ_CM2 l) (s.rd fSER_TXEQ_CM1 l) (s.rd fSER_TXEQ_CP1 l) = some (x, y, z) ∧ tapsOk x y z = false)
    ∧ (∃ (s : State) (l : Nat), isLeatLane l = true ∧ s.laneStage l = 4)
    ∧ (∃ (s : State) (l : Nat), isLeatLane l = true ∧ s.laneStage l = 5)
    ∧ (∃ (s : State) (l : Nat) (skew : Nat), isLeatLane l = true ∧ s.laneStage l = 5 ∧ skew ≤ 1024 ∧ s.lkActive (laneLink l) = false)
    ∧ (∃ (s : State) (l : Nat) (skew : Nat), isLeatLane l = true ∧ s.laneStage l = 5 ∧ skew ≤ 1024 ∧ s.lkActive (laneLink l) = true)
    ∧ (∃ (s : State) (l : Nat) (skew : Nat), isLeatLane l = true ∧ s.laneStage l = 5 ∧ 1024 < skew)
    ∧ (∃ (s : State) (l : Nat), isLeatLane l = true ∧ s.inService l = true ∧ s.lkActive (laneLink l) = false)
    ∧ (∃ (s : State) (l : Nat), isLeatLane l = true ∧ s.inService l = true)
    ∧ (∃ (s : State) (l : Nat), isLeatLane l = true ∧ s.inService l = false ∧ s.rdb fSER_LSTAT_CDRLOCK l = true)
    ∧ (∃ (s : State) (l : Nat), isLeatLane l = true ∧ s.inService l = false ∧ s.rdb fSER_LSTAT_CDRLOCK l = false)
    ∧ (∃ (s : State) (l : Nat) (w : Nat) (off : Nat) (inv : Bool) (p : Nat) (fom : Bool), isLeatLane l = true ∧ w < 2 ^ 48 ∧ off < blockSymbols
      ∧ s.laneStage l = 4 ∧ markerGood w = true ∧ s.polarityOk l inv = true ∧ mkPreset w = p ∧ p < 10 ∧ (s.lane l).ack = false)
    ∧ (∃ (s : State) (l : Nat) (w : Nat) (off : Nat) (inv : Bool) (q : Nat) (fom : Bool), isLeatLane l = true ∧ w < 2 ^ 48 ∧ off < blockSymbols
      ∧ s.laneStage l = 4 ∧ markerGood w = true ∧ s.polarityOk l inv = true ∧ mkPreset w = 0xF ∧ mkStep w = q ∧ 0 < q ∧ q < 7
      ∧ (s.lane l).ack = false)
    ∧ (∃ (s : State) (l : Nat) (w : Nat) (off : Nat) (inv : Bool) (fom : Bool), isLeatLane l = true ∧ w < 2 ^ 48 ∧ off < blockSymbols
      ∧ s.laneStage l = 4 ∧ markerGood w = true ∧ s.polarityOk l inv = true ∧ mkPreset w = 0xF ∧ mkStep w = 0)
    ∧ (∃ (s : State) (l : Nat) (w : Nat) (off : Nat) (inv : Bool), isLeatLane l = true ∧ w < 2 ^ 48 ∧ off < blockSymbols ∧ s.laneStage l = 4
      ∧ markerGood w = true ∧ s.polarityOk l inv = true ∧ mkPreset w = 0xF ∧ mkStep w = 7 ∧ (s.lane l).eqSent = false ∧ (s.lane l).req = none
      ∧ ((s.lane l).gap = false ∨ mkAck w = false))
    ∧ (∃ (s : State) (l : Nat) (w : Nat) (off : Nat) (inv : Bool) (fom : Bool), isLeatLane l = true ∧ w < 2 ^ 48 ∧ off < blockSymbols
      ∧ markerGood w = true ∧ s.polarityOk l inv = true ∧ s.laneStage l = 4)
    ∧ (∃ (s : State) (l : Nat) (w : Nat) (off : Nat) (inv : Bool) (fom : Bool), isLeatLane l = true ∧ w < 2 ^ 48 ∧ off < blockSymbols
      ∧ markerGood w = true ∧ s.polarityOk l inv = true ∧ s.laneStage l = 5)
    ∧ (∃ (s : State) (l : Nat) (w : Nat) (off : Nat) (inv : Bool) (fom : Bool), isLeatLane l = true ∧ w < 2 ^ 48 ∧ off < blockSymbols
      ∧ markerGood w = true ∧ s.polarityOk l inv = true ∧ s.inService l = true)
    ∧ (∃ (s : State) (l : Nat) (w : Nat) (off : Nat) (inv : Bool) (fom : Bool), isLeatLane l = true ∧ w < 2 ^ 48 ∧ off < blockSymbols
      ∧ 4 ≤ s.laneStage l ∧ s.laneStage l ≤ 7 ∧ (markerGood w = false ∨ s.polarityOk l inv = false))
    ∧ (∃ (s : State) (l : Nat) (w : Nat) (off : Nat) (inv : Bool) (fom : Bool), isLeatLane l = true ∧ w < 2 ^ 48 ∧ off < blockSymbols
      ∧ (s.laneStage l < 3 ∨ 7 < s.laneStage l ∨ (s.laneStage l = 3 ∧ s.rdb fSER_LCTL_ALIGNMAN l = true ∧ off ≠ (s.lane l).offset)))
    ∧ (∃ (s : State) (l : Nat) (at_ : Nat), isLeatLane l = true ∧ 3 ≤ s.laneStage l ∧ s.inService l = false)
    ∧ (∃ (s : State) (l : Nat) (at_ : Nat), isLeatLane l = true ∧ s.laneStage l < 3)
    ∧ (∃ (s : State) (l : Nat) (at_ : Nat), isLeatLane l = true ∧ s.inService l = true
      ∧ ((s.lane l).stuff.filter fun u => decide (at_ ≤ u + 256)).length < 3)
    ∧ (∃ (s : State) (l : Nat) (at_ : Nat), isLeatLane l = true ∧ s.inService l = true
      ∧ 3 ≤ ((s.lane l).stuff.filter fun u => decide (at_ ≤ u + 256)).length ∧ s.lkActive (laneLink l) = false)
    ∧ (∃ (s : State) (l : Nat) (w : Nat) (off : Nat) (inv : Bool) (fom : Bool), isLeatLane l = true ∧ w < 2 ^ 48 ∧ off < blockSymbols
      ∧ s.laneStage l = 3 ∧ s.rdb fSER_LCTL_ALIGNMAN l = false ∧ markerGood w = true ∧ s.polarityOk l inv = true ∧ (s.lane l).good < 3)
    ∧ (∃ (s : State) (l : Nat) (w : Nat) (off : Nat) (inv : Bool) (fom : Bool), isLeatLane l = true ∧ w < 2 ^ 48 ∧ off < blockSymbols
      ∧ s.laneStage l = 3 ∧ s.rdb fSER_LCTL_ALIGNMAN l = false ∧ (markerGood w = false ∨ s.polarityOk l inv = false))
    ∧ (∃ (s : State) (l : Nat), isLeatLane l = true ∧ s.laneStage l = 3)
    ∧ (∃ (s : State) (l : Nat), isLeatLane l = true ∧ s.inService l = true ∧ (s.lane l).bad = 0)
    ∧ (∃ (s : State) (l : Nat), isLeatLane l = true ∧ s.laneStage l ≠ 3 ∧ s.inService l = false)
    ∧ (∃ (s : State) (l : Nat) (w : Nat) (off : Nat) (inv : Bool) (fom : Bool), isLeatLane l = true ∧ w < 2 ^ 48 ∧ off < blockSymbols
      ∧ s.laneStage l = 3 ∧ s.rdb fSER_LCTL_ALIGNMAN l = false ∧ markerGood w = true ∧ s.polarityOk l inv = true ∧ (s.lane l).good = 3
      ∧ (s.lane l).offset = off ∧ (s.lane l).inv = inv ∧ s.lkActive (laneLink l) = false ∧ (∀ m ∈ linkLanes (laneLink l),
      m ≠ l → (s.lane m).known = false))
    ∧ (∃ (s : State) (l : Nat), isLeatLane l = true ∧ s.inService l = true ∧ (s.lane l).bad = 1 ∧ s.lkActive (laneLink l) = false) :=
  ⟨⟨put (State.reset) [(fSER_LSTAT_STAGE, 256, 1)], 256, by decide +kernel⟩,
    ⟨put (State.reset) [(fSER_LSTAT_STAGE, 256, 0)], 256, by decide +kernel⟩,
    ⟨put (State.reset) [(fSER_LSTAT_STAGE, 256, 2)], 256, by decide +kernel⟩,
    ⟨put (State.reset) [(fSER_LSTAT_STAGE, 256, 0)], 256, by decide +kernel⟩,
    ⟨put (State.reset) [(fSER_LSTAT_STAGE, 256, 0)], 256, by decide +kernel⟩,
    ⟨put (State.reset) [(fSER_LSTAT_STAGE, 256, 0)], 256, by decide +kernel⟩,
    ⟨put (State.reset) [(fSER_LSTAT_STAGE, 256, 0)], 256, 0, by decide +kernel⟩,
    ⟨put (State.reset) [(fSER_LSTAT_STAGE, 256, 1)], 256, by decide +kernel⟩,
    ⟨put (State.reset) [(fSER_LSTAT_STAGE, 256, 3), (fSER_LCTL_ALIGNMAN, 256, 0)], 256, by decide +kernel⟩,
    ⟨put (State.reset) [(fSER_LSTAT_STAGE, 256, 3), (fSER_LCTL_ALIGNMAN, 256, 1)], 256, by decide +kernel⟩,
    ⟨put ({ lanes := [(256, { ask := some 0 })] : State }) [(fSER_LSTAT_STAGE, 256, 4)], 256, 0, by decide +kernel⟩,
    ⟨put ({ lanes := [(256, { ask := some (16 + 0) })] : State }) [(fSER_LSTAT_STAGE, 256, 4)], 256, 0, by decide +kernel⟩,
    ⟨(put { lanes := [(256, { ask := some (16 + 1) })] : State } [(fSER_LSTAT_STAGE, 256, 4)]), 256, 1,
      (put { lanes := [(256, { ask := some (16 + 1) })] : State } [(fSER_LSTAT_STAGE, 256, 4)]).rd fSER_TXEQ_CM2 256,
      (put { lanes := [(256, { ask := some (16 + 1) })] : State } [(fSER_LSTAT_STAGE, 256, 4)]).rd fSER_TXEQ_CM1 256 + 1,
      (put { lanes := [(256, { ask := some (16 + 1) })] : State } [(fSER_LSTAT_STAGE, 256, 4)]).rd fSER_TXEQ_CP1 256, by decide +kernel⟩,
    ⟨(put { lanes := [(256, { ask := some (16 + 1) })] : State } [(fSER_LSTAT_STAGE, 256, 4), (fSER_TXEQ_CM1, 256, 16)]), 256, 1,
      (put { lanes := [(256, { ask := some (16 + 1) })] : State } [(fSER_LSTAT_STAGE, 256, 4), (fSER_TXEQ_CM1, 256, 16)]).rd fSER_TXEQ_CM2 256,
      (put { lanes := [(256, { ask := some (16 + 1) })] : State } [(fSER_LSTAT_STAGE, 256, 4), (fSER_TXEQ_CM1, 256, 16)]).rd fSER_TXEQ_CM1 256 + 1,
      (put { lanes := [(256, { ask := some (16 + 1) })] : State } [(fSER_LSTAT_STAGE, 256, 4), (fSER_TXEQ_CM1, 256, 16)]).rd fSER_TXEQ_CP1 256,
      by decide +kernel⟩,
    ⟨put (State.reset) [(fSER_LSTAT_STAGE, 256, 4)], 256, by decide +kernel⟩,
    ⟨put (State.reset) [(fSER_LSTAT_STAGE, 256, 5)], 256, by decide +kernel⟩,
    ⟨put (State.reset) [(fSER_LSTAT_STAGE, 256, 5), (fLEAT_STAT_STATE, (laneLink 256), 0)], 256, 0, by decide +kernel⟩,
    ⟨put ({ lanes := [(256, { known := true })] : State }) [(fLEAT_STAT_STATE, 0, 3), (fSER_LSTAT_STAGE, 256, 5), (fLEAT_STAT_STATE, (laneLink 256),
      0)], 256, 0, by decide +kernel⟩,
    ⟨put (State.reset) [(fSER_LSTAT_STAGE, 256, 5)], 256, 1025, by decide +kernel⟩,
    ⟨put (State.reset) [(fSER_LSTAT_STAGE, 256, 6), (fLEAT_STAT_STATE, (laneLink 256), 0)], 256, by decide +kernel⟩,
    ⟨put ({ lanes := [(256, { bad := 1 })] : State }) [(fSER_LSTAT_STAGE, 256, 6), (fLEAT_STAT_STATE, (laneLink 256), 0)], 256, by decide +kernel⟩,
    ⟨put (State.reset) [(fSER_LSTAT_CDRLOCK, 256, 1), (fSER_LSTAT_STAGE, 256, 3), (fSER_LSTAT_STAGE, 256, 0)], 256, by decide +kernel⟩,
    ⟨put (State.reset) [(fSER_LSTAT_STAGE, 256, 3), (fSER_LCTL_ALIGNMAN, 256, 0)], 256, by decide +kernel⟩,
    ⟨put (State.reset) [(fSER_LSTAT_STAGE, 256, 4)], 256, 62672162783232, 0, false, 0, false, by decide +kernel⟩,
    ⟨put State.reset [(fSER_LSTAT_STAGE, 256, 4)], 256, markerWord 0 0 0 0 1 15 1 0 0, 0, false, 1, false,
      by and_intros <;> first | decide +kernel | rfl⟩,
    ⟨put State.reset [(fSER_LSTAT_STAGE, 256, 4)], 256, markerWord 0 0 0 0 1 15 0 0 0, 0, false, false,
      by and_intros <;> first | decide +kernel | rfl⟩,
    ⟨put State.reset [(fSER_LSTAT_STAGE, 256, 4)], 256, markerWord 0 0 0 0 1 15 7 0 0, 0, false, by and_intros <;> first | decide +kernel | rfl⟩,
    ⟨put (State.reset) [(fSER_LSTAT_STAGE, 256, 4)], 256, 62672162783232, 0, false, false, by decide +kernel⟩,
    ⟨put (State.reset) [(fSER_LSTAT_STAGE, 256, 5), (fLEAT_STAT_STATE, (laneLink 256), 0)], 256, 62672162783232, 0, false, false, by decide +kernel⟩,
    ⟨put (State.reset) [(fSER_LSTAT_STAGE, 256, 6), (fLEAT_STAT_STATE, (laneLink 256), 0)], 256, 62672162783232, 0, false, false, by decide +kernel⟩,
    ⟨put (State.reset) [(fSER_LSTAT_STAGE, 256, 5), (fLEAT_STAT_STATE, (laneLink 256), 0)], 256, 0, 0, false, false, by decide +kernel⟩,
    ⟨put (State.reset) [(fSER_LSTAT_STAGE, 256, 1)], 256, 0, 0, false, false, by decide +kernel⟩,
    ⟨put (State.reset) [(fSER_LSTAT_STAGE, 256, 3), (fSER_LSTAT_STAGE, 256, 0)], 256, 0, by decide +kernel⟩,
    ⟨put (State.reset) [(fSER_LSTAT_STAGE, 256, 0), (fSER_LSTAT_STAGE, 256, 3), (fSER_LSTAT_STAGE, 256, 0)], 256, 0, by decide +kernel⟩,
    ⟨put ({ lanes := [(256, { bad := 1 })] : State }) [(fSER_LSTAT_STAGE, 256, 6), (fLEAT_STAT_STATE, (laneLink 256), 0)], 256, 0, by decide +kernel⟩,
    ⟨put { lanes := [(256, { stuff := [5, 5, 5] })] : State } [(fSER_LSTAT_STAGE, 256, 6), (fLEAT_STAT_STATE, laneLink 256, 0)], 256, 5,
      by decide +kernel⟩,
    ⟨put (State.reset) [(fSER_LSTAT_STAGE, 256, 3), (fSER_LCTL_ALIGNMAN, 256, 0)], 256, 62672162783232, 0, false, false, by decide +kernel⟩,
    ⟨put (State.reset) [(fSER_LSTAT_STAGE, 256, 3), (fSER_LCTL_ALIGNMAN, 256, 0)], 256, 0, 0, false, false, by decide +kernel⟩,
    ⟨put (State.reset) [(fSER_LSTAT_STAGE, 256, 3)], 256, by decide +kernel⟩,
    ⟨put (State.reset) [(fSER_LSTAT_STAGE, 256, 6), (fLEAT_STAT_STATE, (laneLink 256), 0)], 256, by decide +kernel⟩,
    ⟨put (State.reset) [(fSER_LSTAT_STAGE, 256, 5), (fSER_LSTAT_STAGE, 256, 3), (fSER_LSTAT_STAGE, 256, 0)], 256, by decide +kernel⟩,
    ⟨put { lanes := [(256, { good := 3, offset := 0, inv := false })] : State } [(fSER_LSTAT_STAGE, 256, 3), (fSER_LCTL_ALIGNMAN, 256, 0),
      (fLEAT_STAT_STATE, laneLink 256, 0)], 256, markerWord 0 0 0 0 0 15 0 0 0, 0, false, false, by and_intros <;> first | decide +kernel | rfl⟩,
    ⟨put ({ lanes := [(256, { bad := 1 })] : State }) [(fSER_LSTAT_STAGE, 256, 6), (fLEAT_STAT_STATE, (laneLink 256), 0)], 256, by decide +kernel⟩⟩

/-- States and operands that meet the hypotheses of `Obligations.PortsAndLinks`, clause by clause. -/
theorem witness_PortsAndLinks :
    (∃ (s : State) (t : State) (p : Nat) (val : Nat), isPort p = true ∧ val < 2 ^ 32 ∧ s.discards (fieldsAt fPRT_PORTCFG_ENABLE.addr) p val = false
      ∧ bitOf s.pwr.culvert (tileOfPort p) = false ∧ s.portOdd val = false ∧ t = s.setRW (fieldsAt fPRT_PORTCFG_ENABLE.addr) p val
      ∧ s.enabled p = false ∧ s.dlUp p = false ∧ t.portPlaced p = true ∧ s.unmanages t = false ∧ t.portConflict p = none)
    ∧ (∃ (s : State) (t : State) (p : Nat) (val : Nat), isPort p = true ∧ val < 2 ^ 32 ∧ s.discards (fieldsAt fPRT_PORTCFG_ENABLE.addr) p val = false
      ∧ bitOf s.pwr.culvert (tileOfPort p) = false ∧ s.portOdd val = false ∧ t = s.setRW (fieldsAt fPRT_PORTCFG_ENABLE.addr) p val
      ∧ t.portConflict p = none ∧ s.enabled p = true
      ∧ s.word (fieldsAt fPRT_PORTCFG_ENABLE.addr) p / 2 ≠ t.word (fieldsAt fPRT_PORTCFG_ENABLE.addr) p / 2)
    ∧ (∃ (s : State) (t : State) (p : Nat) (val : Nat), isPort p = true ∧ val < 2 ^ 32 ∧ s.discards (fieldsAt fPRT_PORTCFG_ENABLE.addr) p val = false
      ∧ bitOf s.pwr.culvert (tileOfPort p) = false ∧ s.portOdd val = false ∧ t = s.setRW (fieldsAt fPRT_PORTCFG_ENABLE.addr) p val
      ∧ t.portConflict p = none ∧ ((s.enabled p = false ∧ t.portPlaced p = false
      ∧ (t.enabled p = true ∨ s.word (fieldsAt fPRT_PORTCFG_ENABLE.addr) p / 2 ≠ t.word (fieldsAt fPRT_PORTCFG_ENABLE.addr) p / 2)) ∨ s.unmanages t = true))
    ∧ (∃ (s : State) (t : State) (p : Nat) (val : Nat) (c : _) (a : _) (b : _), isPort p = true ∧ val < 2 ^ 32
      ∧ s.discards (fieldsAt fPRT_PORTCFG_ENABLE.addr) p val = false ∧ bitOf s.pwr.culvert (tileOfPort p) = false ∧ s.portOdd val = false
      ∧ t = s.setRW (fieldsAt fPRT_PORTCFG_ENABLE.addr) p val ∧ t.portConflict p = some (c, a, b))
    ∧ (∃ (s : State) (t : State) (p : Nat) (val : Nat), isPort p = true ∧ val < 2 ^ 32 ∧ s.discards (fieldsAt fPRT_PORTCFG_ENABLE.addr) p val = false
      ∧ bitOf s.pwr.culvert (tileOfPort p) = false ∧ s.portOdd val = false ∧ t = s.setRW (fieldsAt fPRT_PORTCFG_ENABLE.addr) p val
      ∧ t.portConflict p = none ∧ s.enabled p = true
      ∧ s.word (fieldsAt fPRT_PORTCFG_ENABLE.addr) p / 2 = t.word (fieldsAt fPRT_PORTCFG_ENABLE.addr) p / 2 ∧ s.unmanages t = false)
    ∧ (∃ (s : State) (p : Nat) (val : Nat), isPort p = true ∧ val < 2 ^ 32
      ∧ (s.discards (fieldsAt fPRT_PORTCFG_ENABLE.addr) p val = true ∨ bitOf s.pwr.culvert (tileOfPort p) = true))
    ∧ (∃ (s : State) (p : Nat) (val : Nat), isPort p = true ∧ val < 2 ^ 32 ∧ s.portOdd val = true)
    ∧ (∃ (s : State) (p : Nat) (width : Nat) (rate : Nat) (cache : Bool) (mem : Bool) (f68 : Bool) (pre : Bool) (reversed : Bool) (inv : Nat),
      isPort p = true ∧ rate < 8 ∧ inv < 2 ^ 16 ∧ s.canTrain p width rate = true ∧ s.dlUp p = false ∧ s.mayTrain p = true)
    ∧ (∃ (s : State) (p : Nat) (width : Nat) (rate : Nat) (cache : Bool) (mem : Bool) (f68 : Bool) (pre : Bool) (reversed : Bool) (inv : Nat),
      isPort p = true ∧ rate < 8 ∧ inv < 2 ^ 16 ∧ s.canTrain p width rate = true ∧ s.dlUp p = true ∧ s.rd fPRT_PORTSTAT_LTSSM p = 3)
    ∧ (∃ (s : State) (p : Nat) (width : Nat) (rate : Nat) (cache : Bool) (mem : Bool) (f68 : Bool) (pre : Bool) (reversed : Bool) (inv : Nat),
      isPort p = true ∧ width < 32 ∧ rate < 8 ∧ inv < 2 ^ 16 ∧ (s.canTrain p width rate = false ∨ (s.dlUp p = false
      ∧ s.mayTrain p = false) ∨ (s.dlUp p = true ∧ s.rd fPRT_PORTSTAT_LTSSM p ≠ 3)))
    ∧ (∃ (s : State) (p : Nat), isPort p = true ∧ s.dlUp p = true ∧ s.upstream p = false ∧ s.rdb fPRT_PORTSTAT_CXLCACHE p = false
      ∧ s.rdb fPRT_PORTSTAT_CXLMEM p = false ∧ s.swc = {} ∧ s.weir.held = [])
    ∧ (∃ (s : State) (p : Nat), isPort p = true ∧ s.dlUp p = true)
    ∧ (∃ (s : State) (p : Nat) (disable : Bool), isPort p = true ∧ s.upstream p = true ∧ s.dlUp p = true)
    ∧ (∃ (s : State) (p : Nat), isPort p = true ∧ s.dlUp p = false)
    ∧ (∃ (s : State) (p : Nat) (disable : Bool), isPort p = true ∧ s.upstream p = true ∧ s.dlUp p = true ∧ s.rdb fPRT_PORTSTAT_CXLCACHE p = false
      ∧ s.rdb fPRT_PORTSTAT_CXLMEM p = false ∧ s.swc = {} ∧ s.weir.held = [] ∧ s.listed fPRT_VPPB_STATE = [])
    ∧ (∃ (s : State) (p : Nat) (disable : Bool), isPort p = true ∧ (s.upstream p = false ∨ s.dlUp p = false))
    ∧ (∃ (s : State) (p : Nat), isPort p = true ∧ (s.portS p).hot = true ∧ s.listed fPRT_VPPB_STATE = [])
    ∧ (∃ (s : State) (p : Nat), isPort p = true ∧ (s.portS p).hot = true)
    ∧ (∃ (s : State) (p : Nat), isPort p = true ∧ (s.portS p).hot = false)
    ∧ (∃ (s : State) (p : Nat), isPort p = true ∧ s.upstream p = true)
    ∧ (∃ (s : State) (p : Nat), isPort p = true ∧ s.upstream p = false)
    ∧ (∃ (s : State) (p : Nat) (vf : Nat), isPort p = true ∧ vf < 8193 ∧ s.upstream p = true ∧ 1 ≤ vf ∧ vf ≤ (SMap.get {} s.ten.vfs p).num
      ∧ (SMap.get {} s.ten.vfs p).enable = true ∧ s.tiOf p vf < 8192)
    ∧ (∃ (s : State) (p : Nat) (vf : Nat), isPort p = true ∧ vf < 8193
      ∧ (s.upstream p = false ∨ vf = 0 ∨ (SMap.get {} s.ten.vfs p).num < vf ∨ (SMap.get {} s.ten.vfs p).enable = false ∨ 8192 ≤ s.tiOf p vf))
    ∧ (∃ (s : State) (p : Nat) (enable : Bool) (n : Nat), isPort p = true ∧ n < 2 ^ 16 ∧ (s.upstream p = false ∨ 64 * s.rd fPRT_TIBLK_CNT p < n))
    ∧ (∃ (s : State) (p : Nat) (ti : Nat), isPort p = true ∧ s.upstream p = true ∧ s.listed fTEN_TISTAT_STATE = [ti]
      ∧ 64 * s.rd fPRT_TIBLK_BASE p ≤ ti ∧ ti < 64 * s.rd fPRT_TIBLK_BASE p + 64 * s.rd fPRT_TIBLK_CNT p ∧ 2 ≤ s.tstate ti ∧ s.tstate ti ≤ 4)
    ∧ (∃ (s : State) (p : Nat) (vf : Nat), isPort p = true ∧ vf < 8193 ∧ s.upstream p = true ∧ 1 ≤ vf ∧ vf ≤ (SMap.get {} s.ten.vfs p).num
      ∧ (SMap.get {} s.ten.vfs p).enable = true ∧ s.tiOf p vf < 8192 ∧ 2 ≤ s.tstate (s.tiOf p vf) ∧ s.tstate (s.tiOf p vf) ≤ 4)
    ∧ (∃ (s : State) (p : Nat) (enable : Bool) (n : Nat), isPort p = true ∧ n < 2 ^ 16 ∧ s.upstream p = true ∧ n ≤ 64 * s.rd fPRT_TIBLK_CNT p)
    ∧ (∃ (s : State) (p : Nat) (val : Nat), isPort p = true ∧ val < 2 ^ 32 ∧ s.discards (fieldsAt fPRT_TIBLK_BASE.addr) p val = false
      ∧ bitOf s.pwr.culvert (tileOfPort p) = false ∧ (SMap.get {} s.ten.vfs p).enable = false ∧ (∀ q,
      q < 64 → q ≠ p → fPRT_TIBLK_CNT.of val = 0 ∨ s.rd fPRT_TIBLK_CNT q = 0 ∨ s.rd fPRT_TIBLK_BASE q + s.rd fPRT_TIBLK_CNT q ≤ fPRT_TIBLK_BASE.of val ∨ fPRT_TIBLK_BASE.of val + fPRT_TIBLK_CNT.of val ≤ s.rd fPRT_TIBLK_BASE q))
    ∧ (∃ (s : State) (p : Nat) (val : Nat), isPort p = true ∧ val < 2 ^ 32 ∧ s.discards (fieldsAt fPRT_TIBLK_BASE.addr) p val = false
      ∧ bitOf s.pwr.culvert (tileOfPort p) = false ∧ (SMap.get {} s.ten.vfs p).enable = true)
    ∧ (∃ (s : State) (p : Nat) (q : Nat) (val : Nat), isPort p = true ∧ val < 2 ^ 32 ∧ s.discards (fieldsAt fPRT_TIBLK_BASE.addr) p val = false
      ∧ bitOf s.pwr.culvert (tileOfPort p) = false ∧ q < 64 ∧ q ≠ p ∧ 0 < fPRT_TIBLK_CNT.of val ∧ 0 < s.rd fPRT_TIBLK_CNT q
      ∧ fPRT_TIBLK_BASE.of val < s.rd fPRT_TIBLK_BASE q + s.rd fPRT_TIBLK_CNT q
      ∧ s.rd fPRT_TIBLK_BASE q < fPRT_TIBLK_BASE.of val + fPRT_TIBLK_CNT.of val)
    ∧ (∃ (s : State) (p : Nat) (val : Nat), isPort p = true ∧ val < 2 ^ 32
      ∧ (s.discards (fieldsAt fPRT_TIBLK_BASE.addr) p val = true ∨ bitOf s.pwr.culvert (tileOfPort p) = true)) :=
  ⟨⟨put (State.reset) [(fPRT_PORTCFG_ENABLE, 0, 0), (fPRT_PORTSTAT_DLACTIVE, 0, 0)], ((put (State.reset) [(fPRT_PORTCFG_ENABLE, 0, 0),
      (fPRT_PORTSTAT_DLACTIVE, 0, 0)]).setRW (fieldsAt fPRT_PORTCFG_ENABLE.addr) 0 352), 0, 352, by decide +kernel⟩,
    ⟨put (State.reset) [(fPRT_PORTCFG_ENABLE, 1, 1), (fPRT_PORTCFG_ENABLE, 0, 1)], ((put (State.reset) [(fPRT_PORTCFG_ENABLE, 1, 1),
      (fPRT_PORTCFG_ENABLE, 0, 1)]).setRW (fieldsAt fPRT_PORTCFG_ENABLE.addr) 0 9), 0, 9, by decide +kernel⟩,
    ⟨put (State.reset) [(fPRT_PORTCFG_ENABLE, 1, 1), (fPRT_PORTCFG_ENABLE, 0, 0)], ((put (State.reset) [(fPRT_PORTCFG_ENABLE, 1, 1),
      (fPRT_PORTCFG_ENABLE, 0, 0)]).setRW (fieldsAt fPRT_PORTCFG_ENABLE.addr) 0 9), 0, 9, by decide +kernel⟩,
    ⟨put (State.reset) [(fPRT_SLOTCFG_SLOTEN, 1, 1), (fPRT_SLOTCFG_SLOT, 1, 3)], ((put (State.reset) [(fPRT_SLOTCFG_SLOTEN, 1, 1), (fPRT_SLOTCFG_SLOT,
      1, 3)]).setRW (fieldsAt fPRT_PORTCFG_ENABLE.addr) 1 355), 1, 355, 2, 3, 1, by decide +kernel⟩,
    ⟨put ({ ten := { vfs := [(0, { enable := true, num := 1 })] } } : State) [(fPRT_PORTCFG_ENABLE, 0, 1), (fPRT_PORTCFG_ROLE, 0, 1), (fPRT_TIBLK_CNT,
      0, 1), (fTEN_TISTAT_STATE, 0, 4)], (put ({ ten := { vfs := [(0, { enable := true, num := 1 })] } } : State) [(fPRT_PORTCFG_ENABLE, 0, 1),
      (fPRT_PORTCFG_ROLE, 0, 1), (fPRT_TIBLK_CNT, 0, 1), (fTEN_TISTAT_STATE, 0, 4)]).setRW (fieldsAt fPRT_PORTCFG_ENABLE.addr) 0 355, 0, 355,
      by decide +kernel⟩,
    ⟨put (State.reset) [(fPRT_PORTCFG_ROLE, 0, 0)], 0, 31, by decide +kernel⟩,
    ⟨{ pwr := { } : State }.wr fBOOT_ID_STEPPING 0 0, 0, 0x60, by decide +kernel⟩,
    ⟨put ({ pwr := { waved := 1, coldHold := false } : State }) [(fPRT_PORTCFG_ENABLE, 0, 1), (fPWR_CLKSTAT_OK, 0, 2 ^ 26 - 1),
      (fPWR_PERSTOUT_RELEASED, 0, 1), (fACQ_DOMSTAT_STATE, 8, 0)], 0, 1, 0, false, false, false, false, false, 0, by decide +kernel⟩,
    ⟨put (State.reset) [(fPRT_PORTSTAT_DLACTIVE, 0, 1), (fPRT_PORTSTAT_LTSSM, 0, 3)], 0, 1, 0, false, false, false, false, false, 0,
      by decide +kernel⟩,
    ⟨State.reset, 0, 0, 0, false, false, false, false, false, 0, by decide +kernel⟩,
    ⟨put ({ swc := {}, weir := { held := [] } : State }) [(fPRT_PORTSTAT_DLACTIVE, 0, 1), (fPRT_PORTCFG_ROLE, 0, 0), (fPRT_PORTSTAT_CXLCACHE, 0, 0),
      (fPRT_PORTSTAT_CXLMEM, 0, 0)], 0, by decide +kernel⟩,
    ⟨put (State.reset) [(fPRT_PORTSTAT_DLACTIVE, 0, 1), (fPRT_PORTCFG_ENABLE, 0, 1), (fPRT_PORTCFG_ROLE, 0, 1)], 0, by decide +kernel⟩,
    ⟨put (State.reset) [(fPRT_PORTSTAT_DLACTIVE, 0, 1), (fPRT_PORTCFG_ENABLE, 0, 1), (fPRT_PORTCFG_ROLE, 0, 1)], 0, false, by decide +kernel⟩,
    ⟨put (State.reset) [(fPRT_PORTSTAT_DLACTIVE, 0, 0)], 0, by decide +kernel⟩,
    ⟨put ({ swc := {}, weir := { held := [] } : State }) [(fPRT_PORTCFG_ENABLE, 0, 1), (fPRT_PORTCFG_ROLE, 0, 1), (fPRT_PORTSTAT_DLACTIVE, 0, 1),
      (fPRT_PORTSTAT_CXLCACHE, 0, 0), (fPRT_PORTSTAT_CXLMEM, 0, 0)], 0, false, by decide +kernel⟩,
    ⟨put (State.reset) [(fPRT_PORTCFG_ROLE, 0, 0)], 0, false, by decide +kernel⟩,
    ⟨{ prt := { ports := [(0, { hot := true })] } : State }, 0, by decide +kernel⟩,
    ⟨{ prt := { ports := [(0, { hot := true })] } : State }, 0, by decide +kernel⟩,
    ⟨put (State.reset) [(fPRT_PORTSTAT_DLACTIVE, 0, 0)], 0, by decide +kernel⟩,
    ⟨put (State.reset) [(fPRT_PORTCFG_ENABLE, 0, 1), (fPRT_PORTCFG_ROLE, 0, 1)], 0, by decide +kernel⟩,
    ⟨put (State.reset) [(fPRT_PORTSTAT_DLACTIVE, 0, 0)], 0, by decide +kernel⟩,
    ⟨put ({ ten := { vfs := [(0, { enable := true, num := 1 })] } } : State) [(fPRT_PORTCFG_ENABLE, 0, 1), (fPRT_PORTCFG_ROLE, 0, 1), (fPRT_TIBLK_CNT,
      0, 1), (fTEN_TISTAT_STATE, 0, 4)], 0, 1, by decide +kernel⟩,
    ⟨put (State.reset) [(fPRT_PORTCFG_ENABLE, 0, 0), (fPRT_PORTSTAT_DLACTIVE, 0, 0)], 0, 0, by decide +kernel⟩,
    ⟨put (State.reset) [(fPRT_PORTCFG_ENABLE, 0, 0), (fPRT_PORTSTAT_DLACTIVE, 0, 0)], 0, false, 0, by decide +kernel⟩,
    ⟨put (State.reset) [(fPRT_TIBLK_CNT, 0, 1), (fPRT_PORTCFG_ENABLE, 0, 1), (fPRT_PORTCFG_ROLE, 0, 1), (fTEN_TISTAT_STATE, 0, 4)], 0, 0,
      by decide +kernel⟩,
    ⟨put ({ ten := { vfs := [(0, { enable := true, num := 1 })] } } : State) [(fPRT_PORTCFG_ENABLE, 0, 1), (fPRT_PORTCFG_ROLE, 0, 1), (fPRT_TIBLK_CNT,
      0, 1), (fTEN_TISTAT_STATE, 0, 4)], 0, 1, by decide +kernel⟩,
    ⟨put (State.reset) [(fPRT_PORTCFG_ENABLE, 0, 1), (fPRT_PORTCFG_ROLE, 0, 1)], 0, false, 0, by decide +kernel⟩,
    ⟨State.reset, 0, 1966080, by decide +kernel⟩,
    ⟨{ ten := { vfs := [(0, { enable := true, num := 1 })] } : State }, 0, 1966080, by decide +kernel⟩,
    ⟨put State.reset [(fPRT_TIBLK_BASE, 1, 0), (fPRT_TIBLK_CNT, 1, 2)], 0, 1, 1966336, by decide +kernel⟩,
    ⟨put ({ swc := {}, weir := { held := [] } : State }) [(fPRT_PORTCFG_ENABLE, 0, 1), (fPRT_PORTCFG_ROLE, 0, 1), (fPRT_PORTSTAT_DLACTIVE, 0, 1),
      (fPRT_PORTSTAT_CXLCACHE, 0, 0), (fPRT_PORTSTAT_CXLMEM, 0, 0)], 0, 0, by decide +kernel⟩⟩

/-- States and operands that meet the hypotheses of `Obligations.BindingsOfVppbs`, clause by clause. -/
theorem witness_BindingsOfVppbs :
    (∃ (s : State) (p : Nat) (vcs : Nat) (vppb : Nat) (kind : Nat) (port : Nat) (ld : Nat) (node : Nat), isPort p = true ∧ isBridge vcs vppb = true
      ∧ kind < 4 ∧ port < 64 ∧ ld < 16 ∧ node < 16 ∧ s.isManager p = true ∧ (s.portS p).cci = none
      ∧ s.bindCode (32 * vcs + vppb) kind port ld node = 0 ∧ kind < 2 ∧ s.mirrorOf port = none)
    ∧ (∃ (s : State) (p : Nat) (vcs : Nat) (vppb : Nat) (kind : Nat) (port : Nat) (ld : Nat) (node : Nat), isPort p = true ∧ isBridge vcs vppb = true
      ∧ kind < 4 ∧ port < 64 ∧ ld < 16 ∧ node < 16 ∧ s.isManager p = true ∧ (s.portS p).cci = none
      ∧ s.bindCode (32 * vcs + vppb) kind port ld node ≠ 0)
    ∧ (∃ (s : State) (p : Nat) (vcs : Nat) (vppb : Nat) (kind : Nat) (port : Nat) (ld : Nat) (node : Nat), isPort p = true ∧ isBridge vcs vppb = true
      ∧ kind < 4 ∧ port < 64 ∧ ld < 16 ∧ node < 16 ∧ s.isManager p = false)
    ∧ (∃ (s : State) (p : Nat) (vcs : Nat) (vppb : Nat) (kind : Nat) (port : Nat) (ld : Nat) (node : Nat), isPort p = true ∧ isBridge vcs vppb = true
      ∧ kind < 4 ∧ port < 64 ∧ ld < 16 ∧ node < 16 ∧ s.isManager p = true ∧ (s.portS p).cci.isSome = true)
    ∧ (∃ (s : State) (p : Nat) (vcs : Nat) (vppb : Nat) (kind : Nat) (port : Nat) (ld : Nat) (node : Nat) (k : Nat), isPort p = true
      ∧ isBridge vcs vppb = true ∧ kind < 4 ∧ port < 64 ∧ ld < 16 ∧ node < 16 ∧ s.isManager p = true ∧ (s.portS p).cci = none
      ∧ s.bindCode (32 * vcs + vppb) kind port ld node = 0 ∧ kind < 2 ∧ s.mirrorOf port = some k)
    ∧ (∃ (s : State) (p : Nat) (vcs : Nat) (vppb : Nat) (kind : Nat) (port : Nat) (ld : Nat) (node : Nat), isPort p = true ∧ isBridge vcs vppb = true
      ∧ kind < 4 ∧ port < 64 ∧ ld < 16 ∧ node < 16 ∧ s.isManager p = true ∧ (s.portS p).cci = none
      ∧ s.bindCode (32 * vcs + vppb) kind port ld node = 0 ∧ kind = 2)
    ∧ (∃ (s : State) (vcs : Nat) (vppb : Nat), isBridge vcs vppb = true ∧ 2 ≤ s.rd fPRT_VPPB_KIND (32 * vcs + vppb))
    ∧ (∃ (s : State) (vcs : Nat) (vppb : Nat), isBridge vcs vppb = true ∧ s.rd fPRT_VPPB_KIND (32 * vcs + vppb) ≠ 2)
    ∧ (∃ (s : State) (vcs : Nat) (vppb : Nat), isBridge vcs vppb = true ∧ s.rd fPRT_VPPB_STATE (32 * vcs + vppb) ≠ 3)
    ∧ (∃ (s : State) (vcs : Nat) (vppb : Nat), isBridge vcs vppb = true ∧ s.rd fPRT_VPPB_KIND (32 * vcs + vppb) < 2
      ∧ s.dlUp (s.rd fPRT_VPPB_PORT (32 * vcs + vppb)) = true)
    ∧ (∃ (s : State) (vcs : Nat) (vppb : Nat), isBridge vcs vppb = true ∧ s.rd fPRT_VPPB_KIND (32 * vcs + vppb) < 2
      ∧ s.dlUp (s.rd fPRT_VPPB_PORT (32 * vcs + vppb)) = false)
    ∧ (∃ (s : State) (p : Nat) (vcs : Nat) (vppb : Nat) (code : Nat), isPort p = true ∧ isBridge vcs vppb = true ∧ ((s.isManager p = false
      ∧ code = 3) ∨ (s.isManager p = true ∧ code = 6
      ∧ ((s.portS p).cci.isSome = true ∨ s.rd fPRT_VPPB_STATE (32 * vcs + vppb) = 1 ∨ s.rd fPRT_VPPB_STATE (32 * vcs + vppb) = 3)) ∨ (s.isManager p = true
      ∧ (s.portS p).cci = none ∧ s.rd fPRT_VPPB_STATE (32 * vcs + vppb) = 2 ∧ vppb = 0 ∧ code = 2)))
    ∧ (∃ (s : State) (vcs : Nat) (vppb : Nat), isBridge vcs vppb = true ∧ s.rd fPRT_VPPB_STATE (32 * vcs + vppb) = 1
      ∧ s.rd fPRT_VPPB_KIND (32 * vcs + vppb) < 2)
    ∧ (∃ (s : State) (vcs : Nat) (vppb : Nat), isBridge vcs vppb = true ∧ s.rd fPRT_VPPB_STATE (32 * vcs + vppb) = 1
      ∧ s.rd fPRT_VPPB_KIND (32 * vcs + vppb) = 2)
    ∧ (∃ (s : State) (vcs : Nat) (vppb : Nat), isBridge vcs vppb = true ∧ s.rd fPRT_VPPB_STATE (32 * vcs + vppb) ≠ 1)
    ∧ (∃ (s : State) (p : Nat) (vcs : Nat) (vppb : Nat), isPort p = true ∧ isBridge vcs vppb = true ∧ 0 < vppb ∧ s.isManager p = true
      ∧ (s.portS p).cci = none ∧ s.rd fPRT_VPPB_STATE (32 * vcs + vppb) = 2)
    ∧ (∃ (s : State) (p : Nat) (vcs : Nat) (vppb : Nat), isPort p = true ∧ isBridge vcs vppb = true ∧ s.isManager p = true ∧ (s.portS p).cci = none
      ∧ s.rd fPRT_VPPB_STATE (32 * vcs + vppb) = 0)
    ∧ (∃ (s : State) (vcs : Nat) (vppb : Nat), isBridge vcs vppb = true ∧ s.rd fPRT_VPPB_STATE (32 * vcs + vppb) = 3
      ∧ (2 ≤ s.rd fPRT_VPPB_KIND (32 * vcs + vppb) ∨ s.dlUp (s.rd fPRT_VPPB_PORT (32 * vcs + vppb)) = false))
    ∧ (∃ (s : State) (vcs : Nat) (vppb : Nat), isBridge vcs vppb = true ∧ s.rd fPRT_VPPB_STATE (32 * vcs + vppb) = 3
      ∧ (2 ≤ s.rd fPRT_VPPB_KIND (32 * vcs + vppb) ∨ s.dlUp (s.rd fPRT_VPPB_PORT (32 * vcs + vppb)) = true))
    ∧ (∃ (s : State) (k : Nat) (hdr : Nat) (trl : Nat) (port : Nat) (ld : Nat) (vcs : Nat), s.expects k 3 hdr trl ∧ port < 64 ∧ ld < 256 ∧ vcs < 256
      ∧ s.downstream port = true ∧ s.naming port ld = [] ∧ s.peerClaimed port ld = false ∧ s.isPool port = false ∧ s.mirrorOf port = none)
    ∧ (∃ (s : State) (k : Nat) (hdr : Nat) (trl : Nat) (port : Nat) (ld : Nat) (vcs : Nat), s.expects k 3 hdr trl ∧ port < 64 ∧ ld < 256 ∧ vcs < 256
      ∧ (s.downstream port = false ∨ s.naming port ld ≠ [] ∨ s.peerClaimed port ld = true ∨ s.isPool port = true ∨ (s.mirrorOf port).isSome = true))
    ∧ (∃ (s : State) (k : Nat) (hdr : Nat) (trl : Nat) (port : Nat) (ld : Nat) (refused : Bool) (b : Nat), s.expects k 3 hdr trl ∧ port < 64
      ∧ ld < 256 ∧ s.listed fPRT_VPPB_STATE = [b] ∧ s.rd fPRT_VPPB_STATE b = 1 ∧ s.rd fPRT_VPPB_KIND b = 2 ∧ s.rd fPRT_VPPB_PORT b = port
      ∧ s.rd fPRT_VPPB_NODE b = unitNode hdr)
    ∧ (∃ (s : State) (k : Nat) (hdr : Nat) (trl : Nat) (port : Nat) (ld : Nat) (refused : Bool), s.expects k 3 hdr trl ∧ port < 64 ∧ ld < 256
      ∧ (∀ b ∈ s.listed fPRT_VPPB_STATE,
      s.rd fPRT_VPPB_STATE b ≠ 1 ∨ s.rd fPRT_VPPB_KIND b ≠ 2 ∨ s.rd fPRT_VPPB_PORT b ≠ port ∨ s.rd fPRT_VPPB_NODE b ≠ unitNode hdr))
    ∧ (∃ (s : State) (k : Nat) (hdr : Nat) (trl : Nat) (port : Nat) (ld : Nat), s.expects k 3 hdr trl ∧ port < 64 ∧ ld < 256)
    ∧ (∃ (s : State) (k : Nat) (hdr : Nat) (trl : Nat) (port : Nat) (release : Bool), s.expects k 3 hdr trl ∧ port < 64 ∧ (∀ c ∈ s.prt.claims,
      c.port ≠ port ∨ c.node ≠ unitNode hdr))
    ∧ (∃ (s : State) (k : Nat) (hdr : Nat) (trl : Nat) (port : Nat) (c : _), s.expects k 3 hdr trl ∧ port < 64 ∧ s.prt.claims = [c] ∧ c.port = port
      ∧ c.node = unitNode hdr ∧ c.ld = 0xFF ∧ s.rdb fPRT_PORTCFG_ROLE port = false)
    ∧ (∃ (s : State) (k : Nat) (hdr : Nat) (trl : Nat) (port : Nat) (c : _), s.expects k 3 hdr trl ∧ port < 64 ∧ s.prt.claims = [c] ∧ c.port = port
      ∧ c.node = unitNode hdr ∧ c.ld = 0xFF ∧ s.rdb fPRT_PORTCFG_ROLE port = false ∧ (s.portS port).hot = true)
    ∧ (∃ (s : State) (k : Nat) (hdr : Nat) (trl : Nat) (port : Nat) (c : PeerClaim), s.expects k 3 hdr trl ∧ port < 64 ∧ s.prt.claims = [c]
      ∧ c.port = port ∧ c.node = unitNode hdr ∧ c.ld ≠ 0xFF)
    ∧ (∃ (s : State) (k : Nat) (hdr : Nat) (trl : Nat) (port : Nat) (ld : Nat) (vcs : Nat) (x : Bool), isLink k = true ∧ hdr < 2 ^ 32 ∧ trl < 2 ^ 32
      ∧ port < 64 ∧ ld < 256 ∧ vcs < 256 ∧ s.lkActive k = false)
    ∧ (∃ (s : State) (k : Nat) (hdr : Nat) (trl : Nat) (port : Nat) (ld : Nat) (vcs : Nat) (x : Bool), isLink k = true ∧ hdr < 2 ^ 32 ∧ trl < 2 ^ 32
      ∧ port < 64 ∧ ld < 256 ∧ vcs < 256 ∧ s.lkActive k = true ∧ hdrBad 3 hdr trl true = true) :=
  ⟨⟨put ({ prt := { ports := [(0, { cci := none })] } : State }) [(fPRT_PORTCFG_ENABLE, 0, 1), (fPRT_PORTCFG_ROLE, 0, 1), (fPKG_STRAP_MGR_EN, 0, 1),
      (fPKG_STRAP_MGR_PORT, 0, 0), (fPKG_STRAPFLT_FLOAT, 0, 0)], 0, 0, 1, 0, 1, 0, 0, by decide +kernel⟩,
    ⟨put ({ prt := { ports := [(0, { cci := none })] } : State }) [(fPKG_STRAP_MGR_EN, 0, 1), (fPKG_STRAP_MGR_PORT, 0, 0), (fPKG_STRAPFLT_FLOAT, 0,
      0)], 0, 0, 0, 0, 0, 0, 0, by decide +kernel⟩,
    ⟨put (State.reset) [(fPKG_STRAP_MGR_EN, 0, 0), (fPKG_STRAP_MGR_PORT, 0, 0), (fPKG_STRAPFLT_FLOAT, 0, 0)], 0, 0, 0, 0, 0, 0, 0, by decide +kernel⟩,
    ⟨put ({ prt := { ports := [(0, { cci := some 1 })] } : State }) [(fPRT_PORTCFG_ENABLE, 0, 1), (fPRT_PORTCFG_ROLE, 0, 1), (fPKG_STRAP_MGR_EN, 0,
      1), (fPKG_STRAP_MGR_PORT, 0, 0), (fPKG_STRAPFLT_FLOAT, 0, 0)], 0, 0, 1, 0, 1, 0, 0, by decide +kernel⟩,
    ⟨put ({ prt := { ports := [(0, {})] } : State }) [(fPRT_PORTCFG_ENABLE, 0, 1), (fPRT_PORTCFG_ROLE, 0, 1), (fPKG_STRAP_MGR_EN, 0, 1),
      (fPKG_STRAP_MGR_PORT, 0, 0), (fPKG_STRAPFLT_FLOAT, 0, 0), (fTRN_MIR_EN, 0, 1), (fTRN_MIR_APORT, 0, 1)], 0, 0, 1, 0, 1, 0, 0, 0,
      by decide +kernel⟩,
    ⟨put ({ prt := { ports := [(0, { cci := none })] } : State }) [(fPRT_PORTCFG_ENABLE, 0, 1), (fPRT_PORTCFG_ROLE, 0, 1), (fPKG_STRAP_MGR_EN, 0, 1),
      (fPKG_STRAP_MGR_PORT, 0, 0), (fPKG_STRAPFLT_FLOAT, 0, 0)], 0, 0, 1, 2, 1, 0, 0, by decide +kernel⟩,
    ⟨put (State.reset) [(fPRT_VPPB_STATE, (32 * 0 + 0), 0)], 0, 0, by decide +kernel⟩,
    ⟨put (State.reset) [(fPRT_VPPB_STATE, (32 * 0 + 0), 0)], 0, 0, by decide +kernel⟩,
    ⟨put (State.reset) [(fPRT_VPPB_STATE, (32 * 0 + 0), 0)], 0, 0, by decide +kernel⟩,
    ⟨put ({ prt := { ports := [(0, { cci := none })] } : State }) [(fPRT_PORTSTAT_DLACTIVE, 0, 1), (fPRT_PORTCFG_ENABLE, 0, 1), (fPRT_PORTCFG_ROLE, 0,
      1), (fPKG_STRAP_MGR_EN, 0, 1), (fPKG_STRAP_MGR_PORT, 0, 0), (fPKG_STRAPFLT_FLOAT, 0, 0)], 0, 1, by decide +kernel⟩,
    ⟨put ({ prt := { claims := [{ port := 0, ld := 0xFF, node := 0, vcs := 0 }], ports := [(0, { hot := true })] } : State }) [(fPRT_VPPB_KIND, 0, 1),
      (fLEAT_STAT_STATE, 0, 3), (fLEAT_RXSEQ_EXP, 0, 0)], 0, 0, by decide +kernel⟩,
    ⟨put (State.reset) [(fPRT_VPPB_STATE, (32 * 0 + 0), 3)], 0, 0, 0, 3, by decide +kernel⟩,
    ⟨put (State.reset) [(fPRT_VPPB_STATE, (32 * 0 + 0), 1), (fPRT_VPPB_KIND, (32 * 0 + 0), 0)], 0, 0, by decide +kernel⟩,
    ⟨put (State.reset) [(fPRT_VPPB_STATE, (32 * 0 + 0), 1), (fPRT_VPPB_KIND, (32 * 0 + 0), 2)], 0, 0, by decide +kernel⟩,
    ⟨put (State.reset) [(fPRT_VPPB_STATE, (32 * 0 + 0), 0)], 0, 0, by decide +kernel⟩,
    ⟨put ({ prt := { ports := [(0, { cci := none })] } : State }) [(fPKG_STRAP_MGR_EN, 0, 1), (fPKG_STRAP_MGR_PORT, 0, 0), (fPKG_STRAPFLT_FLOAT, 0,
      0), (fPRT_VPPB_STATE, (32 * 0 + 1), 2)], 0, 0, 1, by decide +kernel⟩,
    ⟨put ({ prt := { ports := [(0, { cci := none })] } : State }) [(fPKG_STRAP_MGR_EN, 0, 1), (fPKG_STRAP_MGR_PORT, 0, 0), (fPKG_STRAPFLT_FLOAT, 0,
      0), (fPRT_VPPB_STATE, (32 * 0 + 0), 0)], 0, 0, 0, by decide +kernel⟩,
    ⟨put (State.reset) [(fPRT_VPPB_STATE, (32 * 0 + 0), 3), (fPRT_VPPB_KIND, (32 * 0 + 0), 2)], 0, 0, by decide +kernel⟩,
    ⟨put (State.reset) [(fPRT_VPPB_STATE, (32 * 0 + 0), 3), (fPRT_VPPB_KIND, (32 * 0 + 0), 2)], 0, 0, by decide +kernel⟩,
    ⟨put (State.reset) [(fLEAT_STAT_STATE, 0, 3), (fLEAT_RXSEQ_EXP, 0, 0), (fPRT_PORTCFG_ENABLE, 0, 1), (fPRT_PORTCFG_ROLE, 0, 0)], 0, 1070579712,
      524288, 0, 0, 0, by decide +kernel⟩,
    ⟨put (State.reset) [(fLEAT_STAT_STATE, 0, 3), (fLEAT_RXSEQ_EXP, 0, 0), (fPRT_PORTCFG_ROLE, 0, 1)], 0, 1070579712, 524288, 0, 0, 0,
      by decide +kernel⟩,
    ⟨put (State.reset) [(fLEAT_STAT_STATE, 0, 3), (fLEAT_RXSEQ_EXP, 0, 0), (fPRT_VPPB_STATE, 0, 1), (fPRT_VPPB_KIND, 0, 2), (fPRT_VPPB_PORT, 0, 0)],
      0, 1070579712, 524288, 0, 0, false, 0, by decide +kernel⟩,
    ⟨put (State.reset) [(fLEAT_STAT_STATE, 0, 3), (fLEAT_RXSEQ_EXP, 0, 0), (fPRT_PORTCFG_ROLE, 0, 1)], 0, 1070579712, 524288, 0, 0, false,
      by decide +kernel⟩,
    ⟨put (State.reset) [(fLEAT_STAT_STATE, 0, 3), (fLEAT_RXSEQ_EXP, 0, 0)], 0, 1070579712, 524288, 0, 0, by decide +kernel⟩,
    ⟨put (State.reset) [(fLEAT_STAT_STATE, 0, 3), (fLEAT_RXSEQ_EXP, 0, 0), (fPRT_PORTCFG_ROLE, 0, 1)], 0, 1070579712, 524288, 0, false,
      by decide +kernel⟩,
    ⟨put ({ prt := { claims := [{ port := 0, ld := 0xFF, node := 0, vcs := 0 }] } : State }) [(fLEAT_STAT_STATE, 0, 3), (fLEAT_RXSEQ_EXP, 0, 0)], 0,
      1070579712, 524288, 0, { port := 0, ld := 0xFF, node := 0, vcs := 0 }, by decide +kernel⟩,
    ⟨put ({ prt := { claims := [{ port := 0, ld := 0xFF, node := 0, vcs := 0 }], ports := [(0, { hot := true })] } : State }) [(fLEAT_STAT_STATE, 0,
      3), (fLEAT_RXSEQ_EXP, 0, 0)], 0, 1070579712, 524288, 0, { port := 0, ld := 0xFF, node := 0, vcs := 0 }, by decide +kernel⟩,
    ⟨put ({ prt := { claims := [({ port := 0, ld := 0, node := 0, vcs := 0 })] } : State }) [(fLEAT_STAT_STATE, 0, 3), (fLEAT_RXSEQ_EXP, 0, 0)], 0,
      1070579712, 524288, 0, { port := 0, ld := 0, node := 0, vcs := 0 }, by decide +kernel⟩,
    ⟨put (State.reset) [(fPKG_STRAP_MGR_EN, 0, 0), (fPKG_STRAP_MGR_PORT, 0, 0), (fPKG_STRAPFLT_FLOAT, 0, 0)], 0, 0, 0, 0, 0, 0, false,
      by decide +kernel⟩,
    ⟨put ({ prt := { claims := [{ port := 0, ld := 0xFF, node := 0, vcs := 0 }], ports := [(0, { hot := true })] } : State }) [(fLEAT_STAT_STATE, 0,
      3), (fLEAT_RXSEQ_EXP, 0, 0)], 0, 1070579712, 3, 0, 0, 0, false, by decide +kernel⟩⟩

/-- States and operands that meet the hypotheses of `Obligations.FmApiAnswers`, clause by clause. -/
theorem witness_FmApiAnswers :
    (∃ (s : State) (p : Nat) (op : Nat) (bs : List Byte), isPort p = true ∧ s.upstream p = true ∧ (s.portS p).cci.isSome = true ∧ op < 2 ^ 16)
    ∧ (∃ (s : State) (p : Nat) (body : List Byte) (good : Bool) (hang : Bool), isPort p = true ∧ s.upstream p = true ∧ (s.portS p).cci.isSome = true)
    ∧ (∃ (s : State) (p : Nat) (a : Nat) (n : Nat), isPort p = true ∧ s.upstream p = true ∧ (s.portS p).cci.isSome = true ∧ a < 2 ^ 64 ∧ n < 2 ^ 16)
    ∧ (∃ (s : State) (p : Nat), isPort p = true ∧ s.upstream p = true ∧ (s.portS p).cci.isSome = true)
    ∧ (∃ (s : State) (p : Nat) (op : Nat) (bs : List Byte), isPort p = true ∧ s.upstream p = true ∧ (s.portS p).cci = none ∧ s.isManager p = false
      ∧ op < 2 ^ 16 ∧ op ≠ 0x5100 ∧ op ≠ 0x5200)
    ∧ (∃ (s : State) (p : Nat) (bs : List Byte), isPort p = true ∧ s.upstream p = true ∧ (s.portS p).cci = none ∧ s.isManager p = false)
    ∧ (∃ (s : State) (p : Nat) (body : List Byte) (good : Bool) (hang : Bool), isPort p = true ∧ s.upstream p = true ∧ (s.portS p).cci = none
      ∧ s.isManager p = false)
    ∧ (∃ (s : State) (p : Nat) (a : Nat) (n : Nat), isPort p = true ∧ s.upstream p = true ∧ (s.portS p).cci = none ∧ s.isManager p = false
      ∧ a < 2 ^ 64 ∧ n < 2 ^ 16)
    ∧ (∃ (s : State) (p : Nat), isPort p = true ∧ s.upstream p = true ∧ (s.portS p).cci = none ∧ s.isManager p = false)
    ∧ (∃ (s : State) (p : Nat) (op : Nat) (bs : List Byte), isPort p = true ∧ s.upstream p = true ∧ (s.portS p).cci = none ∧ s.isManager p = true
      ∧ op < 2 ^ 16)
    ∧ (∃ (s : State) (p : Nat) (body : List Byte) (good : Bool) (hang : Bool), isPort p = true ∧ s.upstream p = true ∧ (s.portS p).cci = none
      ∧ s.isManager p = true ∧ parseBody body = none)
    ∧ (∃ (s : State) (p : Nat) (body : List Byte) (good : Bool) (hang : Bool) (b : Body), isPort p = true ∧ s.upstream p = true
      ∧ (s.portS p).cci = none ∧ s.isManager p = true ∧ parseBody body = some b ∧ (b.kind ≠ 1 ∨ (b.node ≠ s.ownNode ∧ b.any = false)))
    ∧ (∃ (s : State) (p : Nat) (body : List Byte) (good : Bool) (hang : Bool) (b : Body), isPort p = true ∧ s.upstream p = true
      ∧ (s.portS p).cci = none ∧ s.isManager p = true ∧ parseBody body = some b ∧ b.kind = 1 ∧ (b.node = s.ownNode ∨ b.any = true))
    ∧ (∃ (s : State) (p : Nat) (start : Nat) (n : Nat), isPort p = true ∧ s.upstream p = true ∧ (s.portS p).cci = none ∧ s.isManager p = true
      ∧ start < 2 ^ 64 ∧ (n = 0 ∨ (64 < n ∧ n < 2 ^ 16)))
    ∧ (∃ (s : State) (p : Nat) (start : Nat) (n : Nat), isPort p = true ∧ s.upstream p = true ∧ (s.portS p).cci = none ∧ s.isManager p = true
      ∧ start < 2 ^ 64 ∧ 1 ≤ n ∧ n ≤ 64)
    ∧ (∃ (s : State) (p : Nat) (start : Nat) (n : Nat), isPort p = true ∧ s.upstream p = true ∧ (s.portS p).cci = none ∧ s.isManager p = true
      ∧ start < 2 ^ 64 ∧ 1 ≤ n ∧ n ≤ 64 ∧ s.headSeq ≤ start)
    ∧ (∃ (s : State) (p : Nat) (start : Nat) (r : Rec), isPort p = true ∧ s.upstream p = true ∧ (s.portS p).cci = none ∧ s.isManager p = true
      ∧ start < 2 ^ 64 ∧ s.oldestSeq ≤ start ∧ start < s.headSeq ∧ s.record start = some r)
    ∧ (∃ (s : State) (p : Nat), isPort p = true ∧ s.upstream p = true ∧ (s.portS p).cci = none)
    ∧ (∃ (s : State) (p : Nat), isPort p = true ∧ s.upstream p = true ∧ (s.portS p).cci = none ∧ s.isManager p = true)
    ∧ (∃ (s : State) (p : Nat) (op : Nat) (bs : List Byte) (body : List Byte) (good : Bool) (hang : Bool), isPort p = true ∧ s.upstream p = false
      ∧ op < 2 ^ 16)
    ∧ (∃ (s : State) (p : Nat) (op : Nat) (bs : List Byte) (body : List Byte) (good : Bool) (hang : Bool) (a : Nat) (n : Nat), isPort p = true
      ∧ s.upstream p = false ∧ op < 2 ^ 16 ∧ a < 2 ^ 64 ∧ n < 2 ^ 16) :=
  ⟨⟨put ({ prt := { ports := [(0, { cci := some 0 })] } : State }) [(fPRT_PORTCFG_ENABLE, 0, 1), (fPRT_PORTCFG_ROLE, 0, 1)], 0, 0, [],
      by decide +kernel⟩,
    ⟨put ({ prt := { ports := [(0, { cci := some 0 })] } : State }) [(fPRT_PORTCFG_ENABLE, 0, 1), (fPRT_PORTCFG_ROLE, 0, 1)], 0, [], false, false,
      by decide +kernel⟩,
    ⟨put ({ prt := { ports := [(0, { cci := some 0 })] } : State }) [(fPRT_PORTCFG_ENABLE, 0, 1), (fPRT_PORTCFG_ROLE, 0, 1)], 0, 0, 0,
      by decide +kernel⟩,
    ⟨put ({ prt := { ports := [(0, { cci := some 0 })] } : State }) [(fPRT_PORTCFG_ENABLE, 0, 1), (fPRT_PORTCFG_ROLE, 0, 1)], 0, by decide +kernel⟩,
    ⟨put ({ prt := { ports := [(0, { cci := none })] } : State }) [(fPRT_PORTCFG_ENABLE, 0, 1), (fPRT_PORTCFG_ROLE, 0, 1), (fPKG_STRAP_MGR_EN, 0, 0),
      (fPKG_STRAP_MGR_PORT, 0, 0), (fPKG_STRAPFLT_FLOAT, 0, 0)], 0, 0, [], by decide +kernel⟩,
    ⟨put ({ prt := { ports := [(0, { cci := none })] } : State }) [(fPRT_PORTCFG_ENABLE, 0, 1), (fPRT_PORTCFG_ROLE, 0, 1), (fPKG_STRAP_MGR_EN, 0, 0),
      (fPKG_STRAP_MGR_PORT, 0, 0), (fPKG_STRAPFLT_FLOAT, 0, 0)], 0, [], by decide +kernel⟩,
    ⟨put ({ prt := { ports := [(0, { cci := none })] } : State }) [(fPRT_PORTCFG_ENABLE, 0, 1), (fPRT_PORTCFG_ROLE, 0, 1), (fPKG_STRAP_MGR_EN, 0, 0),
      (fPKG_STRAP_MGR_PORT, 0, 0), (fPKG_STRAPFLT_FLOAT, 0, 0)], 0, [], false, false, by decide +kernel⟩,
    ⟨put ({ prt := { ports := [(0, { cci := none })] } : State }) [(fPRT_PORTCFG_ENABLE, 0, 1), (fPRT_PORTCFG_ROLE, 0, 1), (fPKG_STRAP_MGR_EN, 0, 0),
      (fPKG_STRAP_MGR_PORT, 0, 0), (fPKG_STRAPFLT_FLOAT, 0, 0)], 0, 0, 0, by decide +kernel⟩,
    ⟨put ({ prt := { ports := [(0, { cci := none })] } : State }) [(fPRT_PORTCFG_ENABLE, 0, 1), (fPRT_PORTCFG_ROLE, 0, 1), (fPKG_STRAP_MGR_EN, 0, 0),
      (fPKG_STRAP_MGR_PORT, 0, 0), (fPKG_STRAPFLT_FLOAT, 0, 0)], 0, by decide +kernel⟩,
    ⟨put ({ prt := { ports := [(0, { cci := none })] } : State }) [(fPRT_PORTCFG_ENABLE, 0, 1), (fPRT_PORTCFG_ROLE, 0, 1), (fPKG_STRAP_MGR_EN, 0, 1),
      (fPKG_STRAP_MGR_PORT, 0, 0), (fPKG_STRAPFLT_FLOAT, 0, 0)], 0, 0, [], by decide +kernel⟩,
    ⟨put ({ prt := { ports := [(0, { cci := none })] } : State }) [(fPRT_PORTCFG_ENABLE, 0, 1), (fPRT_PORTCFG_ROLE, 0, 1), (fPKG_STRAP_MGR_EN, 0, 1),
      (fPKG_STRAP_MGR_PORT, 0, 0), (fPKG_STRAPFLT_FLOAT, 0, 0)], 0, [], false, false, by decide +kernel⟩,
    ⟨put ({ prt := { ports := [(0, {})] } : State }) [(fPRT_PORTCFG_ENABLE, 0, 1), (fPRT_PORTCFG_ROLE, 0, 1), (fPKG_STRAP_MGR_EN, 0, 1),
      (fPKG_STRAP_MGR_PORT, 0, 0), (fPKG_STRAPFLT_FLOAT, 0, 0)], 0, [1, 2, 0, 1, 0, 1, 17, 0, 0, 0, 0, 0, 0, 0, 0, 0, 0, 0, 0, 0, 0, 0, 0, 0, 0, 0, 0,
      0, 0, 0, 0, 0, 0, 0, 0, 0, 0, 0, 0, 0], false, false,
      ({ kind := 2, node := 0, any := false, op := 1, tag := 1, index := 4352, sub := 0, timed := false, last := false, offset := 0, apply := 0, data := [] } : Body),
      by decide +kernel⟩,
    ⟨put ({ prt := { ports := [(0, { cci := none })] } : State }) [(fPRT_PORTCFG_ENABLE, 0, 1), (fPRT_PORTCFG_ROLE, 0, 1), (fPKG_STRAP_MGR_EN, 0, 1),
      (fPKG_STRAP_MGR_PORT, 0, 0), (fPKG_STRAPFLT_FLOAT, 0, 0)], 0, [1, 1, 16, 1, 0, 1, 16, 0, 0, 0, 0, 0, 0, 0, 0, 0, 0, 0, 0, 0, 0, 0, 0, 0, 0, 0,
      0, 0, 0, 0, 0, 0, 0, 0, 0, 0, 0, 0, 0, 0], false, false,
      { kind := 1, node := 0, any := true, op := 1, tag := 1, index := 4096, sub := 0, timed := false, last := false, offset := 0, apply := 0, data := [] },
      by decide +kernel⟩,
    ⟨put ({ prt := { ports := [(0, { cci := none })] } : State }) [(fPRT_PORTCFG_ENABLE, 0, 1), (fPRT_PORTCFG_ROLE, 0, 1), (fPKG_STRAP_MGR_EN, 0, 1),
      (fPKG_STRAP_MGR_PORT, 0, 0), (fPKG_STRAPFLT_FLOAT, 0, 0)], 0, 0, (0), by decide +kernel⟩,
    ⟨put ({ prt := { ports := [(0, { cci := none })] } : State }) [(fPRT_PORTCFG_ENABLE, 0, 1), (fPRT_PORTCFG_ROLE, 0, 1), (fPKG_STRAP_MGR_EN, 0, 1),
      (fPKG_STRAP_MGR_PORT, 0, 0), (fPKG_STRAPFLT_FLOAT, 0, 0)], 0, 0, 1, by decide +kernel⟩,
    ⟨put ({ prt := { ports := [(0, { cci := none })] } : State }) [(fPRT_PORTCFG_ENABLE, 0, 1), (fPRT_PORTCFG_ROLE, 0, 1), (fPKG_STRAP_MGR_EN, 0, 1),
      (fPKG_STRAP_MGR_PORT, 0, 0), (fPKG_STRAPFLT_FLOAT, 0, 0)], 0, 0, 1, by decide +kernel⟩,
    ⟨put ({ prt := { ports := [(0, { cci := none })] }, tnd := { ring := [(1, some { seq := 1 })] } : State }) [(fWLG_HEAD_L, 0, 2), (fWLG_OLDEST_L,
      0, 1), (fPRT_PORTCFG_ENABLE, 0, 1), (fPRT_PORTCFG_ROLE, 0, 1), (fPKG_STRAP_MGR_EN, 0, 1), (fPKG_STRAP_MGR_PORT, 0, 0), (fPKG_STRAPFLT_FLOAT, 0,
      0)], 0, 1, { seq := 1 }, by decide +kernel⟩,
    ⟨put ({ prt := { ports := [(0, { cci := none })] } : State }) [(fPRT_PORTCFG_ENABLE, 0, 1), (fPRT_PORTCFG_ROLE, 0, 1)], 0, by decide +kernel⟩,
    ⟨put ({ prt := { ports := [(0, { cci := none })] } : State }) [(fPRT_PORTCFG_ENABLE, 0, 1), (fPRT_PORTCFG_ROLE, 0, 1), (fPKG_STRAP_MGR_EN, 0, 1),
      (fPKG_STRAP_MGR_PORT, 0, 0), (fPKG_STRAPFLT_FLOAT, 0, 0)], 0, by decide +kernel⟩,
    ⟨put (State.reset) [(fPRT_PORTCFG_ROLE, 0, 0)], 0, 0, [], [], false, false, by decide +kernel⟩,
    ⟨put (State.reset) [(fPRT_PORTCFG_ROLE, 0, 0)], 0, 0, [], [], false, false, 0, 0, by decide +kernel⟩⟩

/-- States and operands that meet the hypotheses of `Obligations.HotPlugAndIdlePorts`, clause by clause. -/
theorem witness_HotPlugAndIdlePorts :
    (∃ (s : State) (p : Nat) (val : Nat), isPort p = true ∧ val < 2 ^ 32 ∧ s.discards (fieldsAt fPRT_SLOTCFG_SLOT.addr) p val = false
      ∧ bitOf s.pwr.culvert (tileOfPort p) = false ∧ (s.setRW (fieldsAt fPRT_SLOTCFG_SLOT.addr) p val).portConflict p = none
      ∧ (fPRT_SLOTCFG_SLOTEN.of val = 0 ∨ (fPRT_SLOTCFG_SLOT.of val / 8 = tileOfPort p ∧ (∀ q,
      q < 64 → s.rdb fPRT_SLOTCFG_SLOTEN q = true → (q = p ↔ s.rd fPRT_SLOTCFG_SLOT q = fPRT_SLOTCFG_SLOT.of val)))))
    ∧ (∃ (s : State) (p : Nat) (val : Nat), isPort p = true ∧ val < 2 ^ 32 ∧ s.discards (fieldsAt fPRT_SLOTCFG_SLOT.addr) p val = false
      ∧ bitOf s.pwr.culvert (tileOfPort p) = false ∧ (s.setRW (fieldsAt fPRT_SLOTCFG_SLOT.addr) p val).portConflict p = none
      ∧ fPRT_SLOTCFG_SLOTEN.of val = 1 ∧ (fPRT_SLOTCFG_SLOT.of val / 8 ≠ tileOfPort p ∨ (∃ q, q < 64 ∧ s.rdb fPRT_SLOTCFG_SLOTEN q = true
      ∧ ¬ (q = p ↔ s.rd fPRT_SLOTCFG_SLOT q = fPRT_SLOTCFG_SLOT.of val))))
    ∧ (∃ (s : State) (p : Nat) (val : Nat), isPort p = true ∧ val < 2 ^ 32
      ∧ (s.discards (fieldsAt fPRT_SLOTCFG_SLOT.addr) p val = true ∨ bitOf s.pwr.culvert (tileOfPort p) = true))
    ∧ (∃ (s : State) (p : Nat) (val : Nat) (c : _) (a : _) (b : _), isPort p = true ∧ val < 2 ^ 32
      ∧ s.discards (fieldsAt fPRT_SLOTCFG_SLOT.addr) p val = false ∧ bitOf s.pwr.culvert (tileOfPort p) = false
      ∧ (s.setRW (fieldsAt fPRT_SLOTCFG_SLOT.addr) p val).portConflict p = some (c, a, b))
    ∧ (∃ (s : State) (p : Nat) (present : Bool), isPort p = true ∧ (s.portS p).detect ≠ present)
    ∧ (∃ (s : State) (p : Nat) (present : Bool), isPort p = true ∧ (s.portS p).detect = present)
    ∧ (∃ (s : State) (p : Nat), isPort p = true ∧ s.rdb fPRT_SLOTCFG_SLOTEN p = true ∧ s.bound p = [])
    ∧ (∃ (s : State) (p : Nat) (b : Nat), isPort p = true ∧ s.rdb fPRT_SLOTCFG_SLOTEN p = true ∧ s.bound p = [b] ∧ s.rdb fPRT_PORTCFG_HPCAP p = true)
    ∧ (∃ (s : State) (p : Nat), isPort p = true ∧ s.rdb fPRT_SLOTCFG_SLOTEN p = true ∧ s.bound p ≠ [])
    ∧ (∃ (s : State) (vcs : Nat) (vppb : Nat), isBridge vcs vppb = true ∧ 0 < vppb)
    ∧ (∃ (s : State) (vcs : Nat) (vppb : Nat) (p : Nat), isBridge vcs vppb = true ∧ 0 < vppb ∧ s.slotOfBridge (32 * vcs + vppb) = some p
      ∧ (s.portSlot p = none ∨ s.rd fPRT_SLOTCFG_PCTL p ≠ 1))
    ∧ (∃ (s : State) (p : Nat), isPort p = true ∧ s.rdb fPRT_SLOTCFG_SLOTEN p = false)
    ∧ (∃ (s : State) (vcs : Nat) (vppb : Nat) (p : Nat) (j : Nat), isBridge vcs vppb = true ∧ 0 < vppb ∧ s.slotOfBridge (32 * vcs + vppb) = some p
      ∧ s.rdb fPRT_SLOTCTL_OVR p = false ∧ s.rd fPRT_SLOTCFG_PCTL p = 1 ∧ s.portSlot p = some j ∧ bitOf (s.bridge (32 * vcs + vppb)).status 1 = false
      ∧ s.slotState j = 1 ∧ s.rdb fSLU_STAT_PRES j = true ∧ (s.slot j).held = true ∧ s.fed j = true ∧ s.ramping j < s.rd fSLU_CTL_MAXRAMP 0)
    ∧ (∃ (s : State) (vcs : Nat) (vppb : Nat) (p : Nat) (j : Nat), isBridge vcs vppb = true ∧ 0 < vppb ∧ s.slotOfBridge (32 * vcs + vppb) = some p
      ∧ s.rdb fPRT_SLOTCTL_OVR p = false ∧ s.rd fPRT_SLOTCFG_PCTL p = 1 ∧ s.portSlot p = some j ∧ s.slotState j = 4)
    ∧ (∃ (s : State) (vcs : Nat) (vppb : Nat) (p : Nat) (j : Nat), isBridge vcs vppb = true ∧ 0 < vppb ∧ s.slotOfBridge (32 * vcs + vppb) = some p
      ∧ s.rdb fPRT_SLOTCTL_OVR p = false ∧ s.rd fPRT_SLOTCFG_PCTL p = 1 ∧ s.portSlot p = some j ∧ s.slotState j = 6)
    ∧ (∃ (s : State) (vcs : Nat) (vppb : Nat), isBridge vcs vppb = true ∧ 0 < vppb ∧ s.slotOfBridge (32 * vcs + vppb) = none)
    ∧ (∃ (s : State) (vcs : Nat) (vppb : Nat) (attn : Nat) (pwri : Nat), isBridge vcs vppb = true ∧ 0 < vppb ∧ attn < 4 ∧ pwri < 4)
    ∧ (∃ (s : State) (t : State) (p : Nat) (val : Nat), isPort p = true ∧ val < 2 ^ 32 ∧ s.discards (fieldsAt fPRT_SLOTCTL_OVR.addr) p val = false
      ∧ bitOf s.pwr.culvert (tileOfPort p) = false ∧ t = s.takeWord (fieldsAt fPRT_SLOTCTL_OVR.addr) p val
      ∧ (t.slotIsOff p = s.slotIsOff p ∨ (t.slotIsOff p = false ∧ t.slotFaulted p = true)))
    ∧ (∃ (s : State) (t : State) (p : Nat) (val : Nat), isPort p = true ∧ val < 2 ^ 32 ∧ s.discards (fieldsAt fPRT_SLOTCTL_OVR.addr) p val = false
      ∧ bitOf s.pwr.culvert (tileOfPort p) = false ∧ t = s.takeWord (fieldsAt fPRT_SLOTCTL_OVR.addr) p val ∧ t.slotIsOff p ≠ s.slotIsOff p
      ∧ (t.slotIsOff p = true ∨ t.slotFaulted p = false))
    ∧ (∃ (s : State) (p : Nat) (val : Nat), isPort p = true ∧ val < 2 ^ 32
      ∧ (s.discards (fieldsAt fPRT_SLOTCTL_OVR.addr) p val = true ∨ bitOf s.pwr.culvert (tileOfPort p) = true))
    ∧ (∃ (s : State) (p : Nat) (idle : Nat) (sub : Nat), isPort p = true ∧ sub < 3 ∧ s.rd fPRT_ASPM_IDLE p ≤ idle ∧ s.rd fPRT_PORTSTAT_LTSSM p = 4
      ∧ (∀ o ∈ s.swc.owed, o.x ≠ p ∧ o.m.entered ≠ p) ∧ s.agentBusy p = false ∧ s.holdsAny p = false
      ∧ (s.aspmOn p = true ∨ s.rd fARCH_PROFILE_ACTIVE 0 = 4 ∨ (s.downstream p = true ∧ s.bound p = [] ∧ s.rdb fPRT_ASPM_FORCE p = true)))
    ∧ (∃ (s : State) (p : Nat) (idle : Nat) (sub : Nat), isPort p = true ∧ sub < 3
      ∧ (idle < s.rd fPRT_ASPM_IDLE p ∨ s.rd fPRT_PORTSTAT_LTSSM p ≠ 4 ∨ s.agentBusy p = true ∨ s.holdsAny p = true ∨ (∃ o ∈ s.swc.owed,
      o.x = p ∨ o.m.entered = p) ∨ (s.aspmOn p = false ∧ s.rd fARCH_PROFILE_ACTIVE 0 ≠ 4
      ∧ (s.rdb fPRT_ASPM_FORCE p = false ∨ s.downstream p = false ∨ s.bound p ≠ []))))
    ∧ (∃ (s : State) (p : Nat), isPort p = true ∧ s.rd fPRT_PORTSTAT_LTSSM p = 5)
    ∧ (∃ (s : State) (p : Nat), isPort p = true ∧ s.rd fPRT_PORTSTAT_LTSSM p ≠ 5)
    ∧ (∃ (s : State) (p : Nat), isPort p = true) :=
  ⟨⟨State.reset, 0, 0, by decide +kernel⟩,
    ⟨State.reset, 0, 62, by decide +kernel⟩,
    ⟨put (State.reset) [(fPRT_PORTSTAT_LTSSM, 0, 4), (fARCH_PROFILE_ACTIVE, 0, 4)], 0, 212, by decide +kernel⟩,
    ⟨State.reset, 0, 163, 1, 3, 0, by decide +kernel⟩,
    ⟨State.reset, 0, true, by decide +kernel⟩,
    ⟨State.reset, 0, false, by decide +kernel⟩,
    ⟨put (State.reset) [(fPRT_SLOTCFG_SLOTEN, 0, 1)], 0, by decide +kernel⟩,
    ⟨put (State.reset) [(fPRT_VPPB_STATE, 1, 2), (fPRT_VPPB_KIND, 1, 0), (fPRT_VPPB_PORT, 1, 0), (fPRT_SLOTCFG_SLOTEN, 0, 1), (fPRT_PORTCFG_HPCAP, 0,
      1)], 0, 1, by decide +kernel⟩,
    ⟨put (State.reset) [(fPRT_VPPB_STATE, (32 * 0 + 1), 2), (fPRT_VPPB_KIND, (32 * 0 + 1), 0), (fPRT_VPPB_PORT, (32 * 0 + 1), 0), (fPRT_PORTCFG_HPCAP,
      0, 1), (fPRT_SLOTCTL_OVR, 0, 0), (fPRT_SLOTCFG_PCTL, 0, 1), (fPRT_SLOTCFG_SLOTEN, 0, 1), (fPRT_SLOTCFG_SLOT, 0, 0), (fSLU_STAT_STATE, 0, 6)], 0,
      by decide +kernel⟩,
    ⟨State.reset, 0, 1, by decide +kernel⟩,
    ⟨put (State.reset) [(fPRT_SLOTCFG_SLOTEN, 0, 0), (fPRT_VPPB_STATE, (32 * 0 + 1), 2), (fPRT_VPPB_KIND, (32 * 0 + 1), 0), (fPRT_VPPB_PORT,
      (32 * 0 + 1), 0), (fPRT_PORTCFG_HPCAP, 0, 1), (fPRT_SLOTCTL_OVR, 0, 0), (fPRT_SLOTCFG_PCTL, 0, 1), (fPRT_SLOTCFG_SLOTEN, 0, 1),
      (fPRT_SLOTCFG_SLOT, 0, 0), (fSLU_STAT_STATE, 0, 6)], 0, 1, ((put (State.reset) [(fPRT_SLOTCFG_SLOTEN, 0, 0), (fPRT_VPPB_STATE, (32 * 0 + 1), 2),
      (fPRT_VPPB_KIND, (32 * 0 + 1), 0), (fPRT_VPPB_PORT, (32 * 0 + 1), 0), (fPRT_PORTCFG_HPCAP, 0, 1), (fPRT_SLOTCTL_OVR, 0, 0), (fPRT_SLOTCFG_PCTL,
      0, 1), (fPRT_SLOTCFG_SLOTEN, 0, 1), (fPRT_SLOTCFG_SLOT, 0, 0), (fSLU_STAT_STATE, 0, 6)]).slotOfBridge (32 * 0 + 1)).get (by decide +kernel),
      by decide +kernel⟩,
    ⟨put (State.reset) [(fPRT_SLOTCFG_SLOTEN, 0, 0)], 0, by decide +kernel⟩,
    ⟨put ({ slots := [(0, { held := true })] : State }) [(fPRT_VPPB_STATE, (32 * 0 + 1), 2), (fPRT_VPPB_KIND, (32 * 0 + 1), 0), (fPRT_VPPB_PORT,
      (32 * 0 + 1), 0), (fPRT_PORTCFG_HPCAP, 0, 1), (fPRT_SLOTCTL_OVR, 0, 0), (fPRT_SLOTCFG_PCTL, 0, 1), (fPRT_SLOTCFG_SLOTEN, 0, 1),
      (fPRT_SLOTCFG_SLOT, 0, 0), (fSLU_STAT_STATE, 0, 1), (fSLU_STAT_PRES, 0, 1), (fSLU_CFG_FEEDS, 0, 3), (fSLU_FEED_AGOOD, (0 / 8), 1)], 0, 1, 0, 0,
      by decide +kernel⟩,
    ⟨put (State.reset) [(fPRT_VPPB_STATE, (32 * 0 + 1), 2), (fPRT_VPPB_KIND, (32 * 0 + 1), 0), (fPRT_VPPB_PORT, (32 * 0 + 1), 0), (fPRT_PORTCFG_HPCAP,
      0, 1), (fPRT_SLOTCTL_OVR, 0, 0), (fPRT_SLOTCFG_PCTL, 0, 1), (fPRT_SLOTCFG_SLOTEN, 0, 1), (fPRT_SLOTCFG_SLOT, 0, 0), (fSLU_STAT_STATE, 0, 4)], 0,
      1, 0, 0, by decide +kernel⟩,
    ⟨put (State.reset) [(fPRT_VPPB_STATE, (32 * 0 + 1), 2), (fPRT_VPPB_KIND, (32 * 0 + 1), 0), (fPRT_VPPB_PORT, (32 * 0 + 1), 0), (fPRT_PORTCFG_HPCAP,
      0, 1), (fPRT_SLOTCTL_OVR, 0, 0), (fPRT_SLOTCFG_PCTL, 0, 1), (fPRT_SLOTCFG_SLOTEN, 0, 1), (fPRT_SLOTCFG_SLOT, 0, 0), (fSLU_STAT_STATE, 0, 6)], 0,
      1, 0, 0, by decide +kernel⟩,
    ⟨State.reset, 0, 1, by decide +kernel⟩,
    ⟨State.reset, 0, 1, 0, 0, by decide +kernel⟩,
    ⟨State.reset, ((State.reset).takeWord (fieldsAt fPRT_SLOTCTL_OVR.addr) 0 62), 0, 62, by decide +kernel⟩,
    ⟨State.reset, ((State.reset).takeWord (fieldsAt fPRT_SLOTCTL_OVR.addr) 0 30), 0, 30, by decide +kernel⟩,
    ⟨put (State.reset) [(fPRT_VPPB_STATE, 1, 2), (fPRT_VPPB_KIND, 1, 0), (fPRT_VPPB_PORT, 1, 0), (fPRT_SLOTCFG_SLOTEN, 0, 1), (fPRT_PORTCFG_HPCAP, 0,
      1)], 0, 0, by decide +kernel⟩,
    ⟨put (State.reset) [(fPRT_PORTSTAT_LTSSM, 0, 4), (fARCH_PROFILE_ACTIVE, 0, 4)], 0, 65535, 0, by decide +kernel⟩,
    ⟨put ({ swc := { owed := [] } : State }) [(fPRT_PORTSTAT_LTSSM, 0, 4)], 0, 0, 0, by decide +kernel⟩,
    ⟨put (State.reset) [(fPRT_PORTSTAT_LTSSM, 0, 5)], 0, by decide +kernel⟩,
    ⟨put (State.reset) [(fPRT_PORTSTAT_LTSSM, 0, 0)], 0, by decide +kernel⟩,
    ⟨State.reset, 0, by decide +kernel⟩⟩

/-- States and operands that meet the hypotheses of `Obligations.LeatControlAndTimers`, clause by clause. -/
theorem witness_LeatControlAndTimers :
    (∃ (s : State) (k : Nat) (val : Nat), isLink k = true ∧ val < 2 ^ 32 ∧ s.rd fBOOT_ID_STEPPING 0 ≠ 0 ∧ s.discards (fieldsAt 0xC01000) k val = false
      ∧ bitOf s.pwr.culvert (tileOfLink k) = false ∧ bitOf val 0 = false ∧ s.lkState k = 0)
    ∧ (∃ (s : State) (k : Nat) (val : Nat), isLink k = true ∧ val < 2 ^ 32 ∧ s.rd fBOOT_ID_STEPPING 0 ≠ 0
      ∧ s.discards (fieldsAt 0xC01000) k val = false ∧ bitOf s.pwr.culvert (tileOfLink k) = false ∧ bitOf val 0 = false
      ∧ s.rdb fLEAT_CTL_ENABLE k = true ∧ s.lkState k = 1)
    ∧ (∃ (s : State) (k : Nat) (val : Nat), isLink k = true ∧ val < 2 ^ 32 ∧ s.rd fBOOT_ID_STEPPING 0 ≠ 0
      ∧ s.discards (fieldsAt 0xC01000) k (putBit val 7 true) = false ∧ bitOf s.pwr.culvert (tileOfLink k) = false ∧ bitOf val 0 = true
      ∧ s.lkState k = 3)
    ∧ (∃ (s : State) (k : Nat), isLink k = true ∧ s.lkState k = 1 ∧ (s.lk k).exch = false ∧ s.readyCount k = 9
      ∧ (s.majority k).map Prod.snd ≠ some (s.lk k).own)
    ∧ (∃ (s : State) (k : Nat), isLink k = true ∧ s.lkState k = 1 ∧ (s.lk k).exch = false ∧ s.readyCount k = 9
      ∧ (s.majority k).map Prod.snd = some (s.lk k).own)
    ∧ (∃ (s : State) (k : Nat) (val : Nat), isLink k = true ∧ val < 2 ^ 32 ∧ bitOf s.pwr.culvert (tileOfLink k) = false)
    ∧ (∃ (s : State) (k : Nat) (val : Nat), isLink k = true ∧ val < 2 ^ 32 ∧ bitOf s.pwr.culvert (tileOfLink k) = true)
    ∧ (∃ (s : State) (k : Nat), isLink k = true ∧ s.lkState k = 5 ∧ (s.lk k).exch = false ∧ s.awaitsLanes k = true ∧ s.readyCount k = 9)
    ∧ (∃ (s : State) (k : Nat), isLink k = true ∧ (s.awaitsLanes k = false ∨ s.readyCount k ≠ 9))
    ∧ (∃ (s : State) (k : Nat) (late : Bool), isLink k = true ∧ s.lkState k = 5 ∧ s.awaitsLanes k = true ∧ (s.majority k).isSome = true
      ∧ (if late then (s.lk k).degOk = true ∧ 4 ≤ s.heldLanes k ∧ s.heldLanes k ≤ 7 else s.heldLanes k = 8))
    ∧ (∃ (s : State) (k : Nat) (late : Bool), isLink k = true ∧ s.awaitsLanes k = true ∧ s.readyCount k = 9)
    ∧ (∃ (s : State) (k : Nat) (late : Bool), isLink k = true ∧ s.awaitsLanes k = true ∧ (s.majority k).isSome = true
      ∧ (if late then (s.lk k).degOk = true ∧ 4 ≤ s.heldLanes k ∧ s.heldLanes k ≤ 7 else s.heldLanes k = 8))
    ∧ (∃ (s : State) (k : Nat) (late : Bool), isLink k = true ∧ s.awaitsLanes k = true ∧ s.majority k = none ∧ (if late then (s.lk k).degOk = true
      ∧ 4 ≤ s.heldLanes k ∧ s.heldLanes k ≤ 7 else s.heldLanes k = 8))
    ∧ (∃ (s : State) (k : Nat) (late : Bool), isLink k = true
      ∧ (s.awaitsLanes k = false ∨ (if late then (s.lk k).degOk = false ∨ s.heldLanes k < 4 ∨ 7 < s.heldLanes k else s.heldLanes k ≠ 8)))
    ∧ (∃ (s : State) (k : Nat), isLink k = true ∧ s.lkState k ≠ 1 ∧ s.lkState k ≠ 2)
    ∧ (∃ (s : State) (k : Nat), isLink k = true ∧ (s.lkState k ≠ 5 ∨ (s.lk k).exch = true))
    ∧ (∃ (s : State) (k : Nat), isLink k = true ∧ s.lkState k ≠ 5)
    ∧ (∃ (s : State) (k : Nat), isLink k = true ∧ (s.lkState k ≠ 6 ∨ s.rdb fLEAT_CTL_ENABLE k = false ∨ (s.lk k).iso = true))
    ∧ (∃ (s : State) (k : Nat), isLink k = true ∧ (s.lkActive k = false ∨ s.dozeOk k = false))
    ∧ (∃ (s : State) (k : Nat), isLink k = true ∧ s.lkState k ≠ 4)
    ∧ (∃ (s : State) (k : Nat) (n : Nat), isLink k = true ∧ s.lkActive k = false)
    ∧ (∃ (s : State) (k : Nat), isLink k = true ∧ s.lkActive k = false)
    ∧ (∃ (s : State) (k : Nat), isLink k = true ∧ (s.lk k).replay = [])
    ∧ (∃ (s : State) (k : Nat) (y : Nat), isLink k = true ∧ y < 8 ∧ (s.lkActive k = false ∨ (s.lk k).spareAsk ≠ some y))
    ∧ (∃ (s : State) (k : Nat) (y : Nat), isLink k = true ∧ y < 8 ∧ s.lkActive k = true ∧ (s.lk k).spareAsk = some y)
    ∧ (∃ (s : State) (k : Nat), isLink k = true ∧ s.lkActive k = true ∧ s.dozeOk k = true)
    ∧ (∃ (s : State) (k : Nat), isLink k = true ∧ (s.lkState k = 1 ∨ s.lkState k = 2))
    ∧ (∃ (s : State) (k : Nat), isLink k = true ∧ s.lkState k = 5 ∧ (s.lk k).exch = false)
    ∧ (∃ (s : State) (k : Nat), isLink k = true ∧ s.lkState k = 5)
    ∧ (∃ (s : State) (k : Nat), isLink k = true ∧ s.lkState k = 6 ∧ s.rdb fLEAT_CTL_ENABLE k = true ∧ (s.lk k).iso = false)
    ∧ (∃ (s : State) (k : Nat) (y : Nat), isLink k = true ∧ y < 8 ∧ s.lkActive k = true ∧ (s.lk k).spareAsk = some y ∧ s.replayRoom k 1 = true
      ∧ (s.lk k).mgmtWait = [] ∧ (s.lk k).tx0 = [] ∧ (s.lk k).tx1 = [] ∧ (s.lk k).tx2 = [])
    ∧ (∃ (s : State) (k : Nat), isLink k = true ∧ s.lkState k = 4)
    ∧ (∃ (s : State) (k : Nat) (n : Nat), isLink k = true ∧ s.lkActive k = true)
    ∧ (∃ (s : State) (k : Nat) (u : TxUnit) (us : List TxUnit), isLink k = true ∧ s.lkActive k = true ∧ (s.lk k).replay = u :: us
      ∧ s.rd fLEAT_REPLAY_TOCNT k < 3)
    ∧ (∃ (s : State) (k : Nat) (u : TxUnit) (us : List TxUnit), isLink k = true ∧ s.lkActive k = true ∧ (s.lk k).replay = u :: us
      ∧ s.rd fLEAT_REPLAY_TOCNT k = 3) :=
  ⟨⟨put (State.reset) [(fBOOT_ID_STEPPING, 0, 1), (fLEAT_STAT_STATE, 0, 0)], 0, 96, by decide +kernel⟩,
    ⟨put (State.reset) [(fBOOT_ID_STEPPING, 0, 1), (fLEAT_CTL_ENABLE, 0, 1), (fLEAT_STAT_STATE, 0, 1)], 0, 96, by decide +kernel⟩,
    ⟨put (State.reset) [(fBOOT_ID_STEPPING, 0, 1), (fLEAT_STAT_STATE, 0, 3)], 0, 1, by decide +kernel⟩,
    ⟨put ({ leat := [(0, { exch := false, own := 1 })], lanes := (List.range 9).map fun i => (256 + i, { known := true, node := 0 }) : State }) (((List.range 9).map fun i => (fSER_LSTAT_STAGE,
      256 + i, 6)) ++ [(fLEAT_STAT_STATE, 0, 1)]), 0, by decide +kernel⟩,
    ⟨put ({ leat := [(0, { exch := false, own := 0 })], lanes := (List.range 9).map fun i => (256 + i, { known := true, node := 0 }) : State }) (((List.range 9).map fun i => (fSER_LSTAT_STAGE,
      256 + i, 6)) ++ [(fLEAT_STAT_STATE, 0, 1)]), 0, by decide +kernel⟩,
    ⟨put ({ leat := [(0, { exch := false })] : State }) [(fLEAT_STAT_STATE, 0, 5)], 0, 0, by decide +kernel⟩,
    ⟨(put (State.reset) [(fBOOT_ID_STEPPING, 0, 1), (fLEAT_CTL_ENABLE, 0, 1), (fLEAT_STAT_STATE, 0, 1)]).pwrMod fun p => { p with culvert := 3 }, 0,
      0, by decide +kernel⟩,
    ⟨put (put ({ leat := [(0, { exch := false, own := 0 })], lanes := (List.range 9).map fun i => (256 + i, { known := true, node := 0 }) : State }) (((List.range 9).map fun i => (fSER_LSTAT_STAGE,
      256 + i, 6)) ++ [(fLEAT_STAT_STATE, 0, 1)])) [(fLEAT_STAT_STATE, 0, 5)], 0, by decide +kernel⟩,
    ⟨put ({ leat := [(0, { exch := false })], lanes := (List.range 8).map fun i => (256 + i, { known := true }) : State }) (((List.range 8).map fun i => (fSER_LSTAT_STAGE,
      256 + i, 6)) ++ [(fLEAT_STAT_STATE, 0, 5)]), 0, by decide +kernel⟩,
    ⟨put ({ leat := [(0, { exch := false })], lanes := (List.range 8).map fun i => (256 + i, { known := true }) : State }) (((List.range 8).map fun i => (fSER_LSTAT_STAGE,
      256 + i, 6)) ++ [(fLEAT_STAT_STATE, 0, 5)]), 0, false, by decide +kernel⟩,
    ⟨put ({ leat := [(0, { exch := false, own := 1 })], lanes := (List.range 9).map fun i => (256 + i, { known := true, node := 0 }) : State }) (((List.range 9).map fun i => (fSER_LSTAT_STAGE,
      256 + i, 6)) ++ [(fLEAT_STAT_STATE, 0, 1)]), 0, false, by decide +kernel⟩,
    ⟨put ({ leat := [(0, { exch := false })], lanes := (List.range 8).map fun i => (256 + i, { known := true }) : State }) (((List.range 8).map fun i => (fSER_LSTAT_STAGE,
      256 + i, 6)) ++ [(fLEAT_STAT_STATE, 0, 5)]), 0, false, by decide +kernel⟩,
    ⟨put ({ lanes := (List.range 8).map (fun i => (256 + i, { known := false })), leat := [(0, {})] } : State) ((List.range 8).map (fun i => (fSER_LSTAT_STAGE,
      256 + i, 6)) ++ [(fLEAT_STAT_STATE, 0, 1)]), 0, false, by decide +kernel⟩,
    ⟨put ({ leat := [(0, { exch := false, own := 1 })], lanes := (List.range 9).map fun i => (256 + i, { known := true, node := 0 }) : State }) (((List.range 9).map fun i => (fSER_LSTAT_STAGE,
      256 + i, 6)) ++ [(fLEAT_STAT_STATE, 0, 1)]), 0, false, by decide +kernel⟩,
    ⟨put (State.reset) [(fBOOT_ID_STEPPING, 0, 1), (fLEAT_STAT_STATE, 0, 3)], 0, by decide +kernel⟩,
    ⟨put (State.reset) [(fBOOT_ID_STEPPING, 0, 1), (fLEAT_STAT_STATE, 0, 3)], 0, by decide +kernel⟩,
    ⟨put (State.reset) [(fBOOT_ID_STEPPING, 0, 1), (fLEAT_STAT_STATE, 0, 3)], 0, by decide +kernel⟩,
    ⟨put (State.reset) [(fBOOT_ID_STEPPING, 0, 1), (fLEAT_STAT_STATE, 0, 3)], 0, by decide +kernel⟩,
    ⟨put (State.reset) [(fBOOT_ID_STEPPING, 0, 1), (fLEAT_STAT_STATE, 0, 3)], 0, by decide +kernel⟩,
    ⟨put (State.reset) [(fBOOT_ID_STEPPING, 0, 1), (fLEAT_STAT_STATE, 0, 3)], 0, by decide +kernel⟩,
    ⟨put ({ leat := [(0, { spareAsk := some 0 })] : State }) [(fLEAT_STAT_STATE, 0, 1), (fLEAT_STAT_STATE, 0, 3)], 0, 0, by decide +kernel⟩,
    ⟨put ({ leat := [(0, { spareAsk := some 0 })] : State }) [(fLEAT_STAT_STATE, 0, 1), (fLEAT_STAT_STATE, 0, 3)], 0, by decide +kernel⟩,
    ⟨put (State.reset) [(fLEAT_STAT_STATE, 0, 5)], 0, by decide +kernel⟩,
    ⟨put (State.reset) [(fARCH_PROFILE_ACTIVE, 0, 4), (fLEAT_STAT_STATE, 0, 3)], 0, 0, by decide +kernel⟩,
    ⟨put ({ leat := [(0, { spareAsk := some 0 })] : State }) [(fLEAT_STAT_STATE, 0, 3)], 0,
      (((put ({ leat := [(0, { spareAsk := some 0 })] : State }) [(fLEAT_STAT_STATE, 0, 3)]).lk 0).spareAsk).get (by decide +kernel),
      by decide +kernel⟩,
    ⟨put (State.reset) [(fARCH_PROFILE_ACTIVE, 0, 4), (fLEAT_STAT_STATE, 0, 3)], 0, by decide +kernel⟩,
    ⟨put (State.reset) [(fLEAT_STAT_STATE, 0, 1)], 0, by decide +kernel⟩,
    ⟨put ({ leat := [(0, { exch := false })] : State }) [(fLEAT_STAT_STATE, 0, 5)], 0, by decide +kernel⟩,
    ⟨put (State.reset) [(fLEAT_STAT_STATE, 0, 5)], 0, by decide +kernel⟩,
    ⟨put ({ leat := [(0, { iso := false })] : State }) [(fLEAT_STAT_STATE, 0, 6), (fLEAT_CTL_ENABLE, 0, 1)], 0, by decide +kernel⟩,
    ⟨put ({ leat := [(0, { spareAsk := some 0 })] : State }) [(fLEAT_STAT_STATE, 0, 3)], 0, 0, by decide +kernel⟩,
    ⟨put (State.reset) [(fLEAT_STAT_STATE, 0, 4)], 0, by decide +kernel⟩,
    ⟨put (State.reset) [(fLEAT_STAT_STATE, 0, 3)], 0, 0, by decide +kernel⟩,
    ⟨put ({ leat := [(0, { replay := ({ seq := 0, vc := 0 }) :: ([]) })] : State }) [(fLEAT_STAT_STATE, 0, 3), (fLEAT_REPLAY_TOCNT, 0, 0)], 0,
      { seq := 0, vc := 0 }, [], by decide +kernel⟩,
    ⟨put ({ leat := [(0, { replay := ({ seq := 0, vc := 0 }) :: ([]) })] : State }) [(fLEAT_STAT_STATE, 0, 3), (fLEAT_REPLAY_TOCNT, 0, 3)], 0,
      { seq := 0, vc := 0 }, [], by decide +kernel⟩⟩

/-- States and operands that meet the hypotheses of `Obligations.LeatUnitsReceived`, clause by clause. -/
theorem witness_LeatUnitsReceived :
    (∃ (s : State) (k : Nat) (hdr : Nat) (trl : Nat) (msgs : List Msg), s.expects k 1 hdr trl ∧ bitOf (s.lk k).cut (bitsOf hdr 26 2) = false
      ∧ msgs.any msgWrong = false)
    ∧ (∃ (s : State) (k : Nat) (hdr : Nat) (trl : Nat) (msgs : List Msg), isLink k = true ∧ hdr < 2 ^ 32 ∧ trl < 2 ^ 32 ∧ s.lkActive k = false)
    ∧ (∃ (s : State) (k : Nat) (hdr : Nat) (trl : Nat) (msgs : List Msg) (a : AckBody) (n : Nat), isLink k = true ∧ hdr < 2 ^ 32 ∧ trl < 2 ^ 32
      ∧ s.lkActive k = false)
    ∧ (∃ (s : State) (k : Nat) (hdr : Nat) (trl : Nat) (msgs : List Msg) (y : Nat), isLink k = true ∧ hdr < 2 ^ 32 ∧ trl < 2 ^ 32
      ∧ s.lkActive k = false ∧ y < 8)
    ∧ (∃ (s : State) (k : Nat) (hdr : Nat) (trl : Nat) (msgs : List Msg) (cause : Nat), isLink k = true ∧ hdr < 2 ^ 32 ∧ trl < 2 ^ 32
      ∧ s.lkActive k = false ∧ cause < 256)
    ∧ (∃ (s : State) (k : Nat) (hdr : Nat) (trl : Nat) (msgs : List Msg), isLink k = true ∧ hdr < 2 ^ 32 ∧ trl < 2 ^ 32 ∧ s.lkActive k = true
      ∧ (hdrBad 1 hdr trl true = true ∨ msgs.any msgWrong = true))
    ∧ (∃ (s : State) (k : Nat) (hdr : Nat) (trl : Nat), isLink k = true ∧ hdr < 2 ^ 32 ∧ trl < 2 ^ 32 ∧ s.lkActive k = true
      ∧ hdrBad 0 hdr trl false = true)
    ∧ (∃ (s : State) (k : Nat) (hdr : Nat) (trl : Nat), isLink k = true ∧ hdr < 2 ^ 32 ∧ trl < 2 ^ 32 ∧ s.lkActive k = true
      ∧ hdrBad 0 hdr trl false = false ∧ s.forUs k hdr = false)
    ∧ (∃ (s : State) (k : Nat) (hdr : Nat) (trl : Nat) (a : AckBody) (n : Nat), isLink k = true ∧ hdr < 2 ^ 32 ∧ trl < 2 ^ 32 ∧ s.lkActive k = true
      ∧ hdrBad 2 hdr trl false = true)
    ∧ (∃ (s : State) (k : Nat) (hdr : Nat) (trl : Nat) (a : AckBody) (n : Nat), isLink k = true ∧ hdr < 2 ^ 32 ∧ trl < 2 ^ 32 ∧ s.lkActive k = true
      ∧ hdrBad 2 hdr trl false = false ∧ s.forUs k hdr = false)
    ∧ (∃ (s : State) (k : Nat) (hdr : Nat) (trl : Nat) (y : Nat), isLink k = true ∧ hdr < 2 ^ 32 ∧ trl < 2 ^ 32 ∧ s.lkActive k = true
      ∧ hdrBad 3 hdr trl true = true ∧ y < 8)
    ∧ (∃ (s : State) (k : Nat) (hdr : Nat) (trl : Nat), isLink k = true ∧ hdr < 2 ^ 32 ∧ trl < 2 ^ 32 ∧ s.lkActive k = true
      ∧ hdrBad 3 hdr trl true = true)
    ∧ (∃ (s : State) (k : Nat) (hdr : Nat) (trl : Nat) (cause : Nat), isLink k = true ∧ hdr < 2 ^ 32 ∧ trl < 2 ^ 32 ∧ s.lkActive k = true
      ∧ cause < 256 ∧ hdrBad 3 hdr trl false = true)
    ∧ (∃ (s : State) (k : Nat) (hdr : Nat) (trl : Nat) (cause : Nat), isLink k = true ∧ hdr < 2 ^ 32 ∧ trl < 2 ^ 32 ∧ s.lkActive k = true
      ∧ cause < 256 ∧ hdrBad 3 hdr trl false = false ∧ s.forUs k hdr = false)
    ∧ (∃ (s : State) (k : Nat) (hdr : Nat) (trl : Nat) (msgs : List Msg), isLink k = true ∧ hdr < 2 ^ 32 ∧ trl < 2 ^ 32 ∧ s.lkActive k = true
      ∧ hdrBad 1 hdr trl true = false ∧ msgs.any msgWrong = false ∧ (bitsOf trl 20 12 + 4096 - s.rd fLEAT_RXSEQ_EXP k) % 4096 < 2048)
    ∧ (∃ (s : State) (k : Nat) (hdr : Nat) (trl : Nat) (msgs : List Msg), isLink k = true ∧ s.lkActive k = true ∧ hdr < 2 ^ 32 ∧ trl < 2 ^ 32
      ∧ hdrBad 1 hdr trl true = false ∧ msgs.any msgWrong = false ∧ 2048 ≤ (bitsOf trl 20 12 + 4096 - s.rd fLEAT_RXSEQ_EXP k) % 4096)
    ∧ (∃ (s : State) (k : Nat) (hdr : Nat) (trl : Nat), isLink k = true ∧ s.lkActive k = true ∧ hdr < 2 ^ 32 ∧ trl < 2 ^ 32
      ∧ hdrBad 0 hdr trl false = false ∧ s.forUs k hdr = true)
    ∧ (∃ (s : State) (k : Nat) (hdr : Nat) (trl : Nat) (a : AckBody) (n : Nat), isLink k = true ∧ s.lkActive k = true ∧ hdr < 2 ^ 32 ∧ trl < 2 ^ 32
      ∧ hdrBad 2 hdr trl false = false ∧ s.forUs k hdr = true ∧ s.ackValid k a.ackSeq = true ∧ (s.lk k).mgmtWait = [] ∧ (s.lk k).tx0 = []
      ∧ (s.lk k).tx1 = [] ∧ (s.lk k).tx2 = [])
    ∧ (∃ (s : State) (k : Nat) (hdr : Nat) (trl : Nat) (a : AckBody) (n : Nat), isLink k = true ∧ s.lkActive k = true ∧ hdr < 2 ^ 32 ∧ trl < 2 ^ 32
      ∧ hdrBad 2 hdr trl false = false ∧ s.forUs k hdr = true ∧ s.ackValid k a.ackSeq = false)
    ∧ (∃ (s : State) (k : Nat) (lane : Nat) (hdr : Nat) (trl : Nat) (b : InitBody) (n : Nat), isLink k = true ∧ lane < 9 ∧ hdr < 2 ^ 32 ∧ trl < 2 ^ 32
      ∧ s.lkState k = 2 ∧ hdrBad 4 hdr trl false = false ∧ s.forUs k hdr = true ∧ (s.lk k).exch = true ∧ (s.lk k).resume = false ∧ b.resume = false
      ∧ (b.echo = 0 ∨ roundTrip n b.echo b.hold ≤ 6000) ∧ (s.lk k).assigned = false ∧ SMap.get 0 (s.lk k).initSeen lane = 0)
    ∧ (∃ (s : State) (k : Nat) (lane : Nat) (hdr : Nat) (trl : Nat) (b : InitBody) (n : Nat), isLink k = true ∧ lane < 9 ∧ hdr < 2 ^ 32 ∧ trl < 2 ^ 32
      ∧ s.lkState k = 2 ∧ hdrBad 4 hdr trl false = false ∧ s.forUs k hdr = true ∧ (s.lk k).exch = true ∧ b.resume = (s.lk k).resume ∧ b.echo ≠ 0
      ∧ 6000 < roundTrip n b.echo b.hold)
    ∧ (∃ (s : State) (k : Nat) (lane : Nat) (hdr : Nat) (trl : Nat) (b : InitBody) (n : Nat), isLink k = true ∧ lane < 9 ∧ hdr < 2 ^ 32 ∧ trl < 2 ^ 32
      ∧ s.lkState k ≠ 2 ∧ s.lkState k ≠ 5)
    ∧ (∃ (s : State) (k : Nat) (lane : Nat) (hdr : Nat) (trl : Nat) (b : InitBody) (n : Nat), isLink k = true ∧ lane < 9 ∧ hdr < 2 ^ 32 ∧ trl < 2 ^ 32
      ∧ (s.lkState k = 2 ∨ s.lkState k = 5) ∧ hdrBad 4 hdr trl false = true)
    ∧ (∃ (s : State) (k : Nat) (lane : Nat) (hdr : Nat) (trl : Nat) (b : InitBody) (n : Nat), isLink k = true ∧ lane < 9 ∧ hdr < 2 ^ 32 ∧ trl < 2 ^ 32
      ∧ (s.lkState k = 2 ∨ s.lkState k = 5) ∧ hdrBad 4 hdr trl false = false ∧ s.forUs k hdr = false)
    ∧ (∃ (s : State) (k : Nat) (lane : Nat) (hdr : Nat) (trl : Nat) (b : InitBody) (n : Nat), isLink k = true ∧ lane < 9 ∧ hdr < 2 ^ 32 ∧ trl < 2 ^ 32
      ∧ (s.lkState k = 2 ∨ s.lkState k = 5) ∧ hdrBad 4 hdr trl false = false ∧ s.forUs k hdr = true
      ∧ ((s.lk k).exch = false ∨ b.resume ≠ (s.lk k).resume))
    ∧ (∃ (s : State) (k : Nat) (bytes : List Byte), isLink k = true ∧ bytes.length = 256 ∧ s.lkState k = 0)
    ∧ (∃ (s : State) (k : Nat) (bytes : List Byte), isLink k = true ∧ bytes.length = 256 ∧ crc64 (bytes.take 248) ≠ beBytes (bytes.drop 248)
      ∧ s.lkState k ≠ 0)
    ∧ (∃ (s : State) (k : Nat) (bytes : List Byte), isLink k = true ∧ bytes.length = 256 ∧ crc64 (bytes.take 248) = beBytes (bytes.drop 248)
      ∧ s.lkActive k = true ∧ unitFault bytes = true ∧ (s.lk k).protoAt = none)
    ∧ (∃ (s : State) (k : Nat) (bytes : List Byte), isLink k = true ∧ bytes.length = 256 ∧ crc64 (bytes.take 248) = beBytes (bytes.drop 248)
      ∧ s.lkActive k = true ∧ unitFault bytes = false)
    ∧ (∃ (hdr : Nat) (trl : Nat) (ws : List Nat), ws.length ≤ 60)
    ∧ (∃ (w : Nat) (bs : List Byte), (w = 8 ∨ w = 4) ∧ bs.length = 256)
    ∧ (∃ (s : State) (k : Nat) (hdr : Nat) (trl : Nat) (y : Nat) (j : Nat), s.expects k 3 hdr trl ∧ y < 8 ∧ (s.lk k).txSp = some j
      ∧ s.testing (laneOf k j) = false)
    ∧ (∃ (s : State) (k : Nat) (hdr : Nat) (trl : Nat) (cause : Nat), isLink k = true ∧ s.lkActive k = true ∧ hdr < 2 ^ 32 ∧ trl < 2 ^ 32
      ∧ cause < 256 ∧ hdrBad 3 hdr trl false = false ∧ s.forUs k hdr = true)
    ∧ (∃ (s : State) (k : Nat) (hdr : Nat) (trl : Nat), s.expects k 3 hdr trl ∧ (s.lk k).lpAsked = true)
    ∧ (∃ (s : State) (k : Nat) (hdr : Nat) (trl : Nat) (y : Nat), isLink k = true ∧ hdr < 2 ^ 32 ∧ trl < 2 ^ 32 ∧ y < 8)
    ∧ (∃ (s : State) (k : Nat) (hdr : Nat) (trl : Nat), isLink k = true ∧ hdr < 2 ^ 32 ∧ trl < 2 ^ 32)
    ∧ (∃ (s : State) (k : Nat) (hdr : Nat) (trl : Nat), s.expects k 3 hdr trl ∧ (s.lk k).lpAsked = false) :=
  ⟨⟨put ({ leat := [(0, { lpAsked := false })] : State }) [(fLEAT_STAT_STATE, 0, 3), (fLEAT_RXSEQ_EXP, 0, 0)], 0, 332382208, 524288, [],
      by decide +kernel⟩,
    ⟨put (State.reset) [(fLEAT_STAT_STATE, 0, 0), (fLEAT_STAT_STATE, 0, 3)], 0, 1070579712, 0, [], by decide +kernel⟩,
    ⟨put (State.reset) [(fLEAT_STAT_STATE, 0, 1), (fLEAT_STAT_STATE, 0, 3)], 0, 1070579712, 0, [],
      { ackSeq := 1, high := 0, limReq := 0, limSnp := 0, limRsp := 0, tstamp := 0, echo := 0, hold := 0, nak := 0 }, 0, by decide +kernel⟩,
    ⟨put (State.reset) [(fLEAT_STAT_STATE, 0, 1), (fLEAT_STAT_STATE, 0, 3)], 0, 1070579712, 0, [], 0, by decide +kernel⟩,
    ⟨put (State.reset) [(fLEAT_STAT_STATE, 0, 1), (fLEAT_STAT_STATE, 0, 3)], 0, 1070579712, 0, [], 0, by decide +kernel⟩,
    ⟨put (State.reset) [(fLEAT_STAT_STATE, 0, 3)], 0, 1070579712, 0, [], by decide +kernel⟩,
    ⟨put ({ leat := [(0, { lpAsked := true })] : State }) [(fLEAT_STAT_STATE, 0, 3), (fLEAT_RXSEQ_EXP, 0, 0)], 0, 1339015168, 524288,
      by decide +kernel⟩,
    ⟨put State.reset [(fLEAT_STAT_STATE, 0, 3)], 0, 265273344 + 1024 * 1, 0, by decide +kernel⟩,
    ⟨put ({ leat := [(0, { lpAsked := true })] : State }) [(fLEAT_STAT_STATE, 0, 3), (fLEAT_RXSEQ_EXP, 0, 0)], 0, 1339015168, 524288,
      { ackSeq := 1, high := 0, limReq := 0, limSnp := 0, limRsp := 0, tstamp := 0, echo := 0, hold := 0, nak := 0 }, 0, by decide +kernel⟩,
    ⟨(put (State.reset) [(fLEAT_STAT_STATE, 0, 3)]).lkMod 0 fun x => { x with own := 33 }, 0, 802144256, 0,
      { ackSeq := 100, high := 0, limReq := 0, limSnp := 0, limRsp := 0, tstamp := 0, echo := 0, hold := 0, nak := 0 }, 0, by decide +kernel⟩,
    ⟨put (State.reset) [(fLEAT_STAT_STATE, 0, 3)], 0, 1070579712, 0, 0, by decide +kernel⟩,
    ⟨put (State.reset) [(fLEAT_STAT_STATE, 0, 3)], 0, 1070579712, 0, by decide +kernel⟩,
    ⟨put ({ leat := [(0, { lpAsked := true })] : State }) [(fLEAT_STAT_STATE, 0, 3), (fLEAT_RXSEQ_EXP, 0, 0)], 0, 1339015168, 524288, 0,
      by decide +kernel⟩,
    ⟨(put ({ leat := [(0, { txSp := some 0 })] : State }) [(fLEAT_STAT_STATE, 0, 3), (fLEAT_RXSEQ_EXP, 0, 0)]).lkMod 0 fun x => { x with own := 2 },
      0, 1070579712, 2, 0, by decide +kernel⟩,
    ⟨put ({ leat := [(0, { lpAsked := false })] : State }) [(fLEAT_STAT_STATE, 0, 3), (fLEAT_RXSEQ_EXP, 0, 0)], 0, 332382208, 524288, [],
      by decide +kernel⟩,
    ⟨put (State.reset) [(fLEAT_RXSEQ_EXP, 0, 1), (fLEAT_STAT_STATE, 0, 3)], 0, 332382208, 524288, [], by decide +kernel⟩,
    ⟨put (State.reset) [(fLEAT_STAT_STATE, 0, 3)], 0, 265273344, 0, by decide +kernel⟩,
    ⟨put ({ leat := [(0, { mgmtWait := [] })] : State }) [(fLEAT_TXSEQ_NEXT, 0, 2), (fLEAT_STAT_STATE, 0, 3)], 0, 802144256, 0,
      { ackSeq := 1, high := 0, limReq := 0, limSnp := 0, limRsp := 0, tstamp := 0, echo := 0, hold := 0, nak := 0 }, 0, by decide +kernel⟩,
    ⟨put (State.reset) [(fLEAT_STAT_STATE, 0, 3)], 0, 802144256, 0,
      { ackSeq := 100, high := 0, limReq := 0, limSnp := 0, limRsp := 0, tstamp := 0, echo := 0, hold := 0, nak := 0 }, 0, by decide +kernel⟩,
    ⟨put ({ leat := [(0, { exch := true, resume := false, assigned := false })] : State }) [(fLEAT_STAT_STATE, 0, 2), (fLEAT_RTT_NS, 0, 6000)], 0, 0,
      1339015168, 0,
      { node := 0, link := 0, resume := false, rxReady := 0, degOk := true, rate := 0, ackSeq := 0, limReq := 0, limSnp := 0, limRsp := 0, tstamp := 0, echo := 0, hold := 0 },
      0, by decide +kernel⟩,
    ⟨put ({ leat := [(0, { exch := true, resume := false })] : State }) [(fLEAT_STAT_STATE, 0, 2), (fLEAT_RTT_NS, 0, 6000)], 0, 0, 1339015168, 0,
      { node := 0, link := 0, resume := false, rxReady := 0, degOk := true, rate := 0, ackSeq := 0, limReq := 0, limSnp := 0, limRsp := 0, tstamp := 0, echo := 1, hold := 0 },
      7000, by decide +kernel⟩,
    ⟨put ({ leat := [(0, { lpAsked := true })] : State }) [(fLEAT_STAT_STATE, 0, 3), (fLEAT_RXSEQ_EXP, 0, 0)], 0, 0, 332382208, 524288,
      { node := 0, link := 0, resume := false, rxReady := 0, degOk := true, rate := 0, ackSeq := 0, limReq := 0, limSnp := 0, limRsp := 0, tstamp := 0, echo := 0, hold := 0 },
      0, by decide +kernel⟩,
    ⟨put ({ leat := [(0, { exch := true, resume := false })] : State }) [(fLEAT_STAT_STATE, 0, 2), (fLEAT_RTT_NS, 0, 6000)], 0, 0, 2, 0,
      { node := 0, link := 0, resume := false, rxReady := 0, degOk := true, rate := 0, ackSeq := 0, limReq := 0, limSnp := 0, limRsp := 0, tstamp := 0, echo := 1, hold := 0 },
      7000, by decide +kernel⟩,
    ⟨(put ({ leat := [(0, { exch := true, resume := false })] : State }) [(fLEAT_STAT_STATE, 0, 2), (fLEAT_RTT_NS, 0,
      6000)]).lkMod 0 fun x => { x with own := 32 }, 0, 0, 1339015168, 0,
      { node := 0, link := 0, resume := false, rxReady := 0, degOk := true, rate := 0, ackSeq := 0, limReq := 0, limSnp := 0, limRsp := 0, tstamp := 0, echo := 1, hold := 0 },
      7000, by decide +kernel⟩,
    ⟨put ({ leat := [(0, { lpAsked := false })] : State }) [(fLEAT_STAT_STATE, 0, 2), (fLEAT_STAT_STATE, 0, 3), (fLEAT_RXSEQ_EXP, 0, 0)], 0, 0,
      1339015168, 2097152,
      { node := 0, link := 0, resume := false, rxReady := 0, degOk := true, rate := 0, ackSeq := 0, limReq := 0, limSnp := 0, limRsp := 0, tstamp := 0, echo := 1, hold := 0 },
      0, by decide +kernel⟩,
    ⟨put (State.reset) [(fLEAT_STAT_STATE, 0, 0), (fLEAT_STAT_STATE, 0, 1)], 0, List.replicate 255 0 ++ [1], by decide +kernel⟩,
    ⟨put (State.reset) [(fLEAT_STAT_STATE, 0, 1)], 0, List.replicate 255 0 ++ [1],
      by and_intros <;> first | (rw [crc64_strict]; decide +kernel) | decide +kernel⟩,
    ⟨put ({ leat := [(0, { })] : State }) [(fLEAT_STAT_STATE, 0, 3)], 0, List.replicate 248 0 ++ [0, 0, 0, 0, 0, 0, 0, 0],
      by and_intros <;> first | (rw [crc64_strict]; decide +kernel) | decide +kernel⟩,
    ⟨put (State.reset) [(fLEAT_STAT_STATE, 0, 3)], 0, [15, 207, 192, 0] ++ List.replicate 244 0 ++ [89, 74, 102, 162, 134, 76, 2, 121],
      by and_intros <;> first | (rw [crc64_strict]; decide +kernel) | decide +kernel⟩,
    ⟨0, 0, [], by decide +kernel⟩,
    ⟨8, List.replicate 256 0, by decide +kernel⟩,
    ⟨put ({ leat := [(0, { txSp := some 0 })] : State }) [(fLEAT_STAT_STATE, 0, 3), (fLEAT_RXSEQ_EXP, 0, 0)], 0, 1070579712, 524288, 0, 0,
      by decide +kernel⟩,
    ⟨put (State.reset) [(fLEAT_STAT_STATE, 0, 3)], 0, 1070579712, 0, 0, by decide +kernel⟩,
    ⟨put ({ leat := [(0, { lpAsked := true })] : State }) [(fLEAT_STAT_STATE, 0, 3), (fLEAT_RXSEQ_EXP, 0, 0)], 0, 1070579712, 524288,
      by decide +kernel⟩,
    ⟨put (State.reset) [(fLEAT_STAT_STATE, 0, 3)], 0, 265273344, 0, 0, by decide +kernel⟩,
    ⟨put (State.reset) [(fLEAT_STAT_STATE, 0, 3)], 0, 265273344, 0, by decide +kernel⟩,
    ⟨put ({ leat := [(0, { lpAsked := false })] : State }) [(fLEAT_STAT_STATE, 0, 3), (fLEAT_RXSEQ_EXP, 0, 0)], 0, 1070579712, 524288,
      by decide +kernel⟩⟩

/-- States and operands that meet the hypotheses of `Obligations.MirrorsAndGroups`, clause by clause. -/
theorem witness_MirrorsAndGroups :
    (∃ (s : State) (k : Nat) (word : Nat) (val : Nat), k < 8 ∧ word < 11 ∧ val < 2 ^ 32 ∧ ((word < 7 ∧ word ≠ 0 ∧ word ≠ 4
      ∧ s.rdb fTRN_MIR_EN k = false) ∨ 7 < word ∨ (word = 0 ∧ bitOf val 0 = false)) ∧ s.discards (wordFields 0x500100 word 11) k val = false)
    ∧ (∃ (s : State) (k : Nat) (word : Nat) (val : Nat), k < 8 ∧ word < 11 ∧ val < 2 ^ 32 ∧ s.discards (wordFields 0x500100 word 11) k val = true)
    ∧ (∃ (s : State) (k : Nat) (val : Nat), k < 8 ∧ val < 2 ^ 32 ∧ s.rdb fTRN_MIR_EN k = false ∧ s.discards (wordFields 0x500100 4 11) k val = false)
    ∧ (∃ (s : State) (k : Nat) (val : Nat) (low : Nat), k < 8 ∧ val < 2 ^ 32 ∧ low < 2 ^ 32 ∧ s.rdb fTRN_MIR_EN k = false
      ∧ s.discards (wordFields 0x500100 5 11) k val = false ∧ SMap.get 0 s.stage (0x500110 + 64 * k) = low + 1)
    ∧ (∃ (s : State) (k : Nat) (val : Nat), k < 8 ∧ val < 2 ^ 32 ∧ s.discards (wordFields 0x500100 7 11) k val = false
      ∧ reservations (s.rd fRSV_RSPRES_TOTAL 0) (s.rd fARCH_PROFILE_ACTIVE 0) (s.quotasBut k + bitsOf val 0 16) ≤ halfCells (s.rd fARCH_PROFILE_ACTIVE 0))
    ∧ (∃ (s : State) (k : Nat) (val : Nat) (a : Nat) (b : Nat), k < 8 ∧ val < 2 ^ 32 ∧ s.rdb fTRN_MIR_EN k = false ∧ bitOf val 0 = true
      ∧ s.discards (wordFields 0x500100 0 11) k val = false ∧ s.aportBad k (bitsOf val 11 6) (bitsOf val 4 7) = some (0, a, b))
    ∧ (∃ (s : State) (k : Nat) (val : Nat) (c : Nat) (a : Nat) (b : Nat), k < 8 ∧ val < 2 ^ 32 ∧ s.rdb fTRN_MIR_EN k = false ∧ bitOf val 0 = true
      ∧ s.discards (wordFields 0x500100 0 11) k val = false ∧ s.aportBad k (bitsOf val 11 6) (bitsOf val 4 7) = some (c, a, b) ∧ c ≠ 0)
    ∧ (∃ (s : State) (t : State) (k : Nat) (val : Nat), k < 8 ∧ val < 2 ^ 32 ∧ s.rdb fTRN_MIR_EN k = false ∧ bitOf val 0 = true
      ∧ s.discards (wordFields 0x500100 0 11) k val = false ∧ s.aportBad k (bitsOf val 11 6) (bitsOf val 4 7) = none
      ∧ t = s.takeWord (wordFields 0x500100 0 11) k val ∧ (t.rd fTRN_MIR_BASE_L k + 2 ^ 32 * t.rd fTRN_MIR_BASE_H k) % 2 ^ t.rd fTRN_MIR_SIZE k ≠ 0)
    ∧ (∃ (s : State) (k : Nat) (val : Nat), k < 8 ∧ val < 2 ^ 32 ∧ s.rdb fTRN_MIR_EN k = false ∧ bitOf val 0 = true
      ∧ s.discards (wordFields 0x500100 0 11) k val = false ∧ s.aportBad k (bitsOf val 11 6) (bitsOf val 4 7) = none
      ∧ (s.rd fTRN_MIR_BASE_L k + 2 ^ 32 * s.rd fTRN_MIR_BASE_H k) % 2 ^ s.rd fTRN_MIR_SIZE k = 0)
    ∧ (∃ (s : State) (k : Nat) (word : Nat) (val : Nat), k < 8 ∧ word < 7 ∧ word ≠ 0 ∧ val < 2 ^ 32 ∧ s.rdb fTRN_MIR_EN k = true
      ∧ s.discards (wordFields 0x500100 word 11) k val = false)
    ∧ (∃ (s : State) (k : Nat) (val : Nat), k < 8 ∧ val < 2 ^ 32 ∧ s.discards (wordFields 0x500100 7 11) k val = false
      ∧ halfCells (s.rd fARCH_PROFILE_ACTIVE 0) < reservations (s.rd fRSV_RSPRES_TOTAL 0) (s.rd fARCH_PROFILE_ACTIVE 0) (s.quotasBut k + bitsOf val 0 16))
    ∧ (∃ (s : State) (g : Nat) (val : Nat), g < 4096 ∧ val < 2 ^ 32 ∧ (bitOf val 31 = false ∨ (∀ k,
      k < 8 → s.rdb fTRN_MIR_EN k = true → bitOf (s.rd fTRN_GRP_MEM_L g + s.rd fTRN_GRP_MEM_H g * 2 ^ 32 + bitsOf val 0 8 * 2 ^ 64) (s.rd fTRN_MIR_APORT k) = false)))
    ∧ (∃ (s : State) (g : Nat) (val : Nat) (k : Nat), g < 4096 ∧ val < 2 ^ 32 ∧ bitOf val 31 = true ∧ k < 8 ∧ s.rdb fTRN_MIR_EN k = true
      ∧ bitOf (s.rd fTRN_GRP_MEM_L g + s.rd fTRN_GRP_MEM_H g * 2 ^ 32 + bitsOf val 0 8 * 2 ^ 64) (s.rd fTRN_MIR_APORT k) = true ∧ (∀ j,
      j < k → s.rdb fTRN_MIR_EN j = false ∨ bitOf (s.rd fTRN_GRP_MEM_L g + s.rd fTRN_GRP_MEM_H g * 2 ^ 32 + bitsOf val 0 8 * 2 ^ 64) (s.rd fTRN_MIR_APORT j) = false)) :=
  ⟨⟨put (State.reset) [(fTRN_MIR_EN, 0, 0)], 0, 1, 0, by decide +kernel⟩,
    ⟨put (State.reset) [(fTRN_GRP_MEM_L, 0, 1), (fTRN_MIR_EN, 0, 1)], 0, 0, 2147483648, by decide +kernel⟩,
    ⟨put (State.reset) [(fTRN_MIR_EN, 0, 0)], 0, 0, by decide +kernel⟩,
    ⟨{ stage := [(0x500110, 1)] : State }, 0, 0, 0, by decide +kernel⟩,
    ⟨State.reset, 0, 0, by decide +kernel⟩,
    ⟨put (State.reset) [(fPRT_PORTCFG_ENABLE, 0, 0), (fPRT_PORTCFG_ENABLE, 0, 1), (fTRN_MIR_EN, 0, 0)], 0, 21, 0, 0, by decide +kernel⟩,
    ⟨put { prt := { claims := [{ port := 1, ld := 255, node := 0, vcs := 0 }] } : State } [(fPRT_PORTCFG_ENABLE, 1, 1)], 0, 2069, 5, 1, 0,
      by decide +kernel⟩,
    ⟨put (State.reset) [(fTRN_MIR_BASE_L, 0, 1), (fPRT_PORTCFG_ENABLE, 0, 1), (fTRN_MIR_EN, 0, 0)], (put (State.reset) [(fTRN_MIR_BASE_L, 0, 1),
      (fPRT_PORTCFG_ENABLE, 0, 1), (fTRN_MIR_EN, 0, 0)]).takeWord (wordFields 0x500100 0 11) 0 21, 0, 21, by decide +kernel⟩,
    ⟨put (State.reset) [(fPRT_PORTCFG_ENABLE, 0, 1), (fTRN_MIR_EN, 0, 0)], 0, 21, by decide +kernel⟩,
    ⟨put (State.reset) [(fTRN_MIR_EN, 0, 1)], 0, 1, 0, by decide +kernel⟩,
    ⟨put (State.reset) [(fARCH_PROFILE_ACTIVE, 0, 1), (fTRN_MIR_QUOTA, 1, 65535), (fTRN_MIR_QUOTA, 2, 65535), (fTRN_MIR_QUOTA, 3, 65535),
      (fTRN_MIR_QUOTA, 4, 65535), (fTRN_MIR_QUOTA, 5, 65535), (fTRN_MIR_QUOTA, 6, 65535), (fTRN_MIR_QUOTA, 7, 65535), (fRSV_RSPRES_TOTAL, 0, 1023)],
      0, 65535, by decide +kernel⟩,
    ⟨put (State.reset) [(fPRT_PORTCFG_ENABLE, 0, 1), (fTRN_MIR_EN, 0, 0)], 0, 21, by decide +kernel⟩,
    ⟨put (State.reset) [(fTRN_GRP_MEM_L, 0, 1), (fTRN_MIR_EN, 0, 1)], 0, 2147483648, 0, by decide +kernel⟩⟩

/-- States and operands that meet the hypotheses of `Obligations.MessagesInTheCore`, clause by clause. -/
theorem witness_MessagesInTheCore :
    (∃ (s : State) (x : Nat) (sel : Nat) (here : Nat) (m : Msg), x < 64 ∧ sel < 3 ∧ s.dlUp x = true ∧ s.arriving x = none ∧ m.kind = .ioPosted
      ∧ m.space = .routed ∧ m.group = none ∧ m.dest = 0x7F ∧ m.node = s.ownNode ∧ s.stored s.swc.nextId = none ∧ (∀ k,
      k < 8 → s.rdb fTRN_MIR_EN k = false) ∧ s.rd fWEIR_HELD_LISTS 0 ≤ 16384 ∧ m.cells ≤ here)
    ∧ (∃ (s : State) (x : Nat) (sel : Nat) (here : Nat) (m : Msg), x < 72 ∧ sel < 3 ∧ (s.enqueueFrom x sel here m).rd fWEIR_HELD_LISTS 0 ≤ 16384)
    ∧ (∃ (s : State) (x : Nat) (sel : Nat) (here : Nat) (m : Msg), x < 72 ∧ sel < 3 ∧ 16384 < (s.enqueueFrom x sel here m).rd fWEIR_HELD_LISTS 0)
    ∧ (∃ (s : State) (x : Nat) (credits : Nat) (err : Nat) (cell : Nat), x < 93 ∧ cell < 5242880 ∧ err < 3 ∧ s.canSend x = true)
    ∧ (∃ (s : State) (x : Nat) (credits : Nat) (cell : Nat), x < 93 ∧ cell < 5242880)
    ∧ (∃ (s : State) (x : Nat) (sn : Sending) (d : Stored), (x < 72 ∨ 88 ≤ x) ∧ x < 92 ∧ s.sentNow x = some sn ∧ s.stored sn.id = some d)
    ∧ (∃ (s : State) (sn : Sending) (d : Stored), s.sentNow 92 = some sn ∧ s.stored sn.id = some d ∧ d.whole = true)
    ∧ (∃ (s : State) (x : Nat), 72 ≤ x ∧ x < 88)
    ∧ (∃ (s : State) (x : Nat) (sel : Nat) (here : Nat) (m : Msg), x < 64 ∧ sel < 3 ∧ s.dlUp x = false ∧ s.arriving x = none
      ∧ s.rd fWEIR_HELD_LISTS 0 ≤ 16384)
    ∧ (∃ (s : State) (x : Nat) (sel : Nat) (here : Nat) (m : Msg) (d : Stored), x < 64 ∧ sel < 3 ∧ s.arriving x = some d ∧ here < d.cells
      ∧ s.rd fWEIR_HELD_LISTS 0 ≤ 16384)
    ∧ (∃ (s : State) (x : Nat) (sel : Nat) (here : Nat) (m : Msg) (u : RxUnit) (us : List RxUnit), 64 ≤ x ∧ x < 72 ∧ sel < 3
      ∧ s.rxq (x - 64) sel = u :: us ∧ u.mis = true ∧ s.rd fWEIR_HELD_LISTS 0 ≤ 16384)
    ∧ (∃ (s : State) (c : Nat) (g : Nat) (d : Stored) (credits : Nat) (cell : Nat), cell < 5242880 ∧ s.canSend 92 = true
      ∧ s.pick 92 (s.partnerTakes 92 credits) = some (c, g, d) ∧ (∀ k, k < 8 → s.rdb fTRN_MIR_EN k = false))
    ∧ (∃ (s : State) (x : Nat) (credits : Nat) (cell : Nat), x < 93 ∧ cell < 5242880 ∧ s.canSend x = false)
    ∧ (∃ (s : State) (x : Nat) (credits : Nat) (cell : Nat), x < 93 ∧ cell < 5242880 ∧ s.queue x (cell / 5 % 8) (cell % 5) = [])
    ∧ (∃ (s : State) (x : Nat) (sn : Sending) (d : Stored), 88 ≤ x ∧ x < 92 ∧ SMap.get none s.swc.sending x = some sn ∧ s.stored sn.id = some d
      ∧ d.whole = true ∧ d.refs ≤ 1 ∧ s.swc.waiting = [] ∧ s.weir.held = [])
    ∧ (∃ (s : State) (x : Nat), x < 93 ∧ s.sentNow x = none)
    ∧ (∃ (s : State) (d : Stored) (e : Nat) (q : Entry), s.swc.msgs = [d] ∧ s.aged d = true ∧ d.egs = [e] ∧ e < 93 ∧ d.refs ≤ 1
      ∧ s.queue e d.m.tc d.m.grp = [q] ∧ q.id = d.id ∧ s.swc.waiting = [])
    ∧ (∃ (s : State) (x : Nat), x < 72 ∧ s.rdb fSWC_CTL_STALLEN 0 = true ∧ s.queued x = true ∧ s.linkRuns x = true)
    ∧ (∃ (s : State) (x : Nat), x < 72 ∧ (s.rdb fSWC_CTL_STALLEN 0 = false ∨ s.queued x = false ∨ s.linkRuns x = false))
    ∧ (∃ (s : State), s.rd fRSV_FREE_FREE 0 + ((s.swc.msgs.map (·.cells)).sum + s.wm.cells.length + s.keptCells) = s.rd fRSV_CELLS_CELLS 0)
    ∧ (∃ (s : State), s.rd fRSV_FREE_FREE 0 + s.keptCells ≠ s.rd fRSV_CELLS_CELLS 0 ∧ s.swc.msgs = [] ∧ s.wm.cells = [] ∧ s.swc.waiting = []) :=
  ⟨⟨put (State.reset) [(fPRT_PORTSTAT_DLACTIVE, 0, 1), (fWEIR_HELD_LISTS, 0, 16384)], 0, 0, 100,
      { kind := .ioPosted, space := .routed, dest := 0x7F }, by decide +kernel⟩,
    ⟨put ({ swc := { msgs := [{ id := 0, m := { kind := .ioPosted }, x := 0, cells := 2, whole := false, place := .shared, eg := 0, egs := [0], refs := 1 }] } : State }) [(fWEIR_HELD_LISTS,
      0, 16384)], 0, 0, 0, { kind := .ioPosted }, by decide +kernel⟩,
    ⟨put (({ swc := { msgs := [{ id := 0, m := { kind := .ioPosted }, x := 0, cells := 1, whole := true, place := .shared, eg := 92, egs := [92], refs := 1 }], queues := [(subq 92 0 0, [{ id := 0 }])] } } : State)) [(fWEIR_HELD_LISTS,
      0, 32767)], 0, 0, 0, { kind := .ioPosted }, by decide +kernel⟩,
    ⟨({ leat := [(0, { rx0 := [{ seq := 0, vc := 0, mis := true }] })] } : State), 88, 0, 0, 0, by decide +kernel⟩,
    ⟨State.reset, 0, 0, 0, by decide +kernel⟩,
    ⟨({ swc := { msgs := [{ id := 0, m := { kind := .ioPosted }, x := 0, cells := 1, whole := true, place := .shared, eg := 88, egs := [88], refs := 1 }], sending := [(88, some { id := 0, t := 0, g := 0 })] } } : State),
      88, { id := 0, t := 0, g := 0 },
      { id := 0, m := { kind := .ioPosted }, x := 0, cells := 1, whole := true, place := .shared, eg := 88, egs := [88], refs := 1 },
      by decide +kernel⟩,
    ⟨({ swc := { msgs := [{ id := 0, m := { kind := .ioPosted }, x := 0, cells := 1, whole := true, place := .shared, eg := 92, egs := [92], refs := 1 }], sending := [(92, some { id := 0, t := 0, g := 0 })] } } : State),
      { id := 0, t := 0, g := 0 },
      { id := 0, m := { kind := .ioPosted }, x := 0, cells := 1, whole := true, place := .shared, eg := 92, egs := [92], refs := 1 },
      by decide +kernel⟩,
    ⟨put (State.reset) [(fPRT_PORTSTAT_DLACTIVE, 0, 1), (fWEIR_HELD_LISTS, 0, 16384)], 87, by decide +kernel⟩,
    ⟨put (State.reset) [(fPRT_PORTSTAT_DLACTIVE, 0, 0), (fWEIR_HELD_LISTS, 0, 16384)], 0, 0, 0, { kind := .ioPosted }, by decide +kernel⟩,
    ⟨put ({ swc := { msgs := [{ id := 0, m := { kind := .ioPosted }, x := 0, cells := 2, whole := false, place := .shared, eg := 0, egs := [0], refs := 1 }] } : State }) [(fWEIR_HELD_LISTS,
      0, 16384)], 0, 0, 0, { kind := .ioPosted },
      { id := 0, m := { kind := .ioPosted }, x := 0, cells := 2, whole := false, place := .shared, eg := 0, egs := [0], refs := 1 },
      by decide +kernel⟩,
    ⟨({ leat := [(0, { rx0 := [{ seq := 0, vc := 0, mis := true }] })] } : State), 64, 0, 0, { kind := .ioPosted },
      { seq := 0, vc := 0, mis := true }, [], by decide +kernel⟩,
    ⟨({ swc := { msgs := [{ id := 0, m := { kind := .ioPosted }, x := 0, cells := 1, whole := true, place := .shared, eg := 92, egs := [92], refs := 1 }], queues := [(subq 92 0 0, [{ id := 0 }])] } } : State),
      0, 0, { id := 0, m := { kind := .ioPosted }, x := 0, cells := 1, whole := true, place := .shared, eg := 92, egs := [92], refs := 1 }, 0, 0,
      by decide +kernel⟩,
    ⟨State.reset, 0, 0, 0, by decide +kernel⟩,
    ⟨State.reset, 0, 0, 0, by decide +kernel⟩,
    ⟨({ swc := { msgs := [{ id := 0, m := { kind := .ioPosted }, x := 0, cells := 1, whole := true, place := .shared, eg := 88, egs := [88], refs := 1 }], sending := [(88, some { id := 0, t := 0, g := 0 })] } } : State),
      88, { id := 0, t := 0, g := 0 },
      { id := 0, m := { kind := .ioPosted }, x := 0, cells := 1, whole := true, place := .shared, eg := 88, egs := [88], refs := 1 },
      by decide +kernel⟩,
    ⟨State.reset, 0, by decide +kernel⟩,
    ⟨({ pwr := { ns := 2000000 }, swc := { msgs := [{ id := 0, m := { kind := .ioPosted, group := some 1 }, x := 0, cells := 1, whole := true, place := .shared, eg := 1, egs := [1], refs := 1 }], queues := [(subq 1 0 0, [{ id := 0 }])] } } : State),
      { id := 0, m := { kind := .ioPosted, group := some 1 }, x := 0, cells := 1, whole := true, place := .shared, eg := 1, egs := [1], refs := 1 },
      1, { id := 0 }, by decide +kernel⟩,
    ⟨put ({ swc := { queues := [(subq 0 0 0, [{ id := 0 }])] } : State }) [(fSWC_CTL_STALLEN, 0, 1), (fPRT_PORTSTAT_LTSSM, 0, 4)], 0,
      by decide +kernel⟩,
    ⟨put (State.reset) [(fSWC_CTL_STALLEN, 0, 0)], 0, by decide +kernel⟩,
    ⟨State.reset, by decide +kernel⟩,
    ⟨put ({ swc := { msgs := [] } : State }) [(fRSV_FREE_FREE, 0, 1)], by decide +kernel⟩⟩

/-- States and operands that meet the hypotheses of `Obligations.WeirTables`, clause by clause. -/
theorem witness_WeirTables :
    (∃ (s : State) (ti : Nat) (val : Nat), ti < 8192 ∧ (s.pairWords ti (bitsOf val 0 18)).bad = true)
    ∧ (∃ (s : State) (ti : Nat) (val : Nat), ti < 8192 ∧ (s.pairWords ti (bitsOf val 0 18)).bad = false ∧ s.weir.held = [])
    ∧ (∃ (s : State) (ti : Nat) (val : Nat), ti < 8192 ∧ (s.pairWords ti (bitsOf val 0 18)).bad = false)
    ∧ (∃ (s : State) (x : Nat) (c : Nat) (val : Nat), x < 72 ∧ c < 8)
    ∧ (∃ (s : State) (x : Nat) (val : Nat), x < 72 ∧ bitsOf val 24 8 = 0xA7 ∧ bitOf val 0 = true ∧ s.rdb fWEIR_EG_PEND x = false ∧ s.rotCheck x ≠ 0)
    ∧ (∃ (s : State) (x : Nat) (val : Nat), x < 72 ∧ bitsOf val 24 8 = 0xA7 ∧ bitOf val 0 = true ∧ s.rdb fWEIR_EG_PEND x = false ∧ s.rotCheck x = 0
      ∧ s.claimsOver x = true)
    ∧ (∃ (s : State) (x : Nat) (val : Nat) (k : Nat), x < 72 ∧ bitsOf val 24 8 = 0xA7 ∧ bitOf val 0 = true ∧ s.rdb fWEIR_EG_PEND x = false
      ∧ s.rotCheck x = 0 ∧ s.claimsOver x = false ∧ s.mirrorOf x = some k)
    ∧ (∃ (s : State) (x : Nat) (val : Nat), x < 72 ∧ bitsOf val 24 8 = 0xA7 ∧ bitOf val 0 = true ∧ s.rdb fWEIR_EG_PEND x = false ∧ s.rotCheck x = 0
      ∧ s.claimsOver x = false ∧ s.mirrorOf x = none)
    ∧ (∃ (s : State) (x : Nat) (val : Nat), x < 72 ∧ (bitsOf val 24 8 ≠ 0xA7 ∨ bitOf val 0 = false ∨ s.rdb fWEIR_EG_PEND x = true))
    ∧ (∃ (s : State) (x : Nat) (val : Nat), x < 72 ∧ bitsOf val 24 8 = 0xA7 ∧ bitOf val 1 = true ∧ s.rdb fWEIR_EG_PEND x = true)
    ∧ (∃ (s : State) (x : Nat) (val : Nat), x < 72 ∧ (bitsOf val 24 8 ≠ 0xA7 ∨ bitOf val 1 = false ∨ s.rdb fWEIR_EG_PEND x = false))
    ∧ (∃ (s : State) (x : Nat) (val : Nat), x < 72 ∧ bitOf val 0 = true ∧ s.rdb fWEIR_EG_ROTEN x = false ∧ s.rotValid x = true
      ∧ s.claimsOver x = true)
    ∧ (∃ (s : State) (x : Nat) (val : Nat), x < 72 ∧ bitOf val 0 = false ∧ s.discards (fieldsAt 0xE02000) x val = false)
    ∧ (∃ (s : State) (x : Nat) (val : Nat), x < 72 ∧ bitOf val 0 = true
      ∧ (s.rotValid x = false ∨ s.claimsOver x = false ∨ s.rdb fWEIR_EG_ROTEN x = true) ∧ s.mirrorOf x = none
      ∧ s.discards (fieldsAt 0xE02000) x val = false)
    ∧ (∃ (s : State) (x : Nat) (val : Nat) (k : Nat), x < 72 ∧ bitOf val 0 = true
      ∧ (s.rotValid x = false ∨ s.claimsOver x = false ∨ s.rdb fWEIR_EG_ROTEN x = true) ∧ s.mirrorOf x = some k) :=
  ⟨⟨put (State.reset) [(fWEIR_TSH_CIR, 0, 1)], 0, 0, by decide +kernel⟩,
    ⟨{ weir := { held := [] } : State }, 0, 0, by decide +kernel⟩,
    ⟨put (State.reset) [(fTRN_MIR_EN, 0, 1), (fTRN_MIR_APORT, 0, 0), (fWEIR_EG_ROTEN, 0, 1)], 0, 1, by decide +kernel⟩,
    ⟨State.reset, 0, 0, 0, by decide +kernel⟩,
    ⟨put (State.reset) [(fWEIR_EG_PEND, 0, 0)], 0, 2801795073, by decide +kernel⟩,
    ⟨put { tnd := { timed := (List.range 256).map fun i => { seq := 0, at_ := i + 1, orig := 0, cmd := { who := { path := 0, mac := 1, port := 0, tag := 1 }, op := 2, index := 0x1000, sub := 0 } } } : State } [(fWEIR_EG_NENT,
      0, 1), (fWEIR_EG_CYCLE, 0, 1000), (fWEIR_ROTA_DUR, 0, 64), (fWEIR_ROTA_MASK, 0, 255), (fWEIR_EG_PEND, 0, 0)], 0, 2801795073, by decide +kernel⟩,
    ⟨put (State.reset) [(fTRN_MIR_EN, 0, 1), (fWEIR_EG_NENT, 0, 1), (fWEIR_EG_CYCLE, 0, 1000), (fWEIR_ROTA_DUR, 0, 64), (fWEIR_ROTA_MASK, 0, 255),
      (fWEIR_EG_PEND, 0, 0)], 0, 2801795073, ((put (State.reset) [(fTRN_MIR_EN, 0, 1), (fWEIR_EG_NENT, 0, 1), (fWEIR_EG_CYCLE, 0, 1000),
      (fWEIR_ROTA_DUR, 0, 64), (fWEIR_ROTA_MASK, 0, 255), (fWEIR_EG_PEND, 0, 0)]).mirrorOf 0).get (by decide +kernel), by decide +kernel⟩,
    ⟨put (State.reset) [(fWEIR_EG_NENT, 0, 1), (fWEIR_EG_CYCLE, 0, 1000), (fWEIR_ROTA_DUR, 0, 64), (fWEIR_ROTA_MASK, 0, 255), (fWEIR_EG_PEND, 0, 0)],
      0, 2801795073, by decide +kernel⟩,
    ⟨put (State.reset) [(fWEIR_EG_PEND, 0, 1)], 0, 2801795074, by decide +kernel⟩,
    ⟨put (State.reset) [(fWEIR_EG_PEND, 0, 1)], 0, 2801795074, by decide +kernel⟩,
    ⟨State.reset, 0, 2801795073, by decide +kernel⟩,
    ⟨put { tnd := { timed := (List.range 256).map fun i => { seq := 0, at_ := i + 1, orig := 0, cmd := { who := { path := 0, mac := 1, port := 0, tag := 1 }, op := 2, index := 0x1000, sub := 0 } } } : State } [(fWEIR_EG_ANENT,
      0, 1)], 0, 1, by decide +kernel⟩,
    ⟨State.reset, 0, 0, by decide +kernel⟩,
    ⟨State.reset, 0, 3, by decide +kernel⟩,
    ⟨put (State.reset) [(fTRN_MIR_EN, 0, 1), (fTRN_MIR_APORT, 0, 0), (fWEIR_EG_ROTEN, 0, 1)], 0, 1, ((put (State.reset) [(fTRN_MIR_EN, 0, 1),
      (fTRN_MIR_APORT, 0, 0), (fWEIR_EG_ROTEN, 0, 1)]).mirrorOf 0).get (by decide +kernel), by decide +kernel⟩⟩

/-- States and operands that meet the hypotheses of `Obligations.HomeSliceRequests`, clause by clause. -/
theorem witness_HomeSliceRequests :
    (∃ (s : State) (m : Msg) (up : Upset) (r : Nat) (c : Instr), (c, r) ∈ [(Instr.rds m up, 0), (.rdown m up, 1), (.upgr m up, 2), (.rdcur m up, 3),
      (.wrfull m up, 4), (.wrpart m up, 5), (.wbI m up, 6), (.wbS m up, 7), (.wbE m up, 8), (.evc m up, 9)] ∧ wmOk m = true)
    ∧ (∃ (s : State) (m : Msg) (up : Upset) (r : Nat) (c : Instr), (c, r) ∈ [(Instr.rds m up, 0), (.rdown m up, 1), (.upgr m up, 2), (.rdcur m up, 3),
      (.wrfull m up, 4), (.wrpart m up, 5), (.wbI m up, 6), (.wbS m up, 7), (.wbE m up, 8), (.evc m up, 9)] ∧ wmOk m = true ∧ m.code ≠ r
      ∧ m.code < 10)
    ∧ (∃ (s : State) (m : Msg) (up : Upset) (r : Nat) (c : Instr), (c, r) ∈ [(Instr.rds m up, 0), (.rdown m up, 1), (.upgr m up, 2), (.rdcur m up, 3),
      (.wrfull m up, 4), (.wrpart m up, 5), (.wbI m up, 6), (.wbS m up, 7), (.wbE m up, 8), (.evc m up, 9)] ∧ wmOk m = true ∧ 10 ≤ m.code)
    ∧ (∃ (s : State) (m : Msg) (g : Nat) (a : Nat) (w : Nat) (x : Txn), s.freshLine m g a w ∧ m.code = 0
      ∧ x = { st := .tsr, row := rowI 0, req := 0, msg := some m, q := some a, ln := {}, way := some w }
      ∧ ((s.withTxn m x).poolSend (lineOfMsg m) none 0).1 = true)
    ∧ (∃ (s : State) (m : Msg) (g : Nat) (a : Nat) (w : Nat) (x : Txn), s.freshLine m g a w ∧ m.code = 1
      ∧ x = { st := .tsr, row := rowI 1, req := 1, msg := some m, q := some a, ln := {}, way := some w }
      ∧ ((s.withTxn m x).poolSend (lineOfMsg m) none 0).1 = true)
    ∧ (∃ (s : State) (m : Msg) (g : Nat) (a : Nat) (w : Nat) (x : Txn), s.freshLine m g a w ∧ m.code = 2
      ∧ x = { st := .tsr, row := rowI 2, req := 2, msg := some m, q := some a, ln := {}, way := some w }
      ∧ ((s.withTxn m x).poolSend (lineOfMsg m) none 0).1 = true)
    ∧ (∃ (s : State) (m : Msg) (g : Nat) (a : Nat) (w : Nat) (x : Txn), s.freshLine m g a w ∧ m.code = 3
      ∧ x = { st := .tsr, row := rowI 3, req := 3, msg := some m, q := some a, ln := {}, way := none }
      ∧ ((s.withTxn m x).poolSend (lineOfMsg m) none 0).1 = true)
    ∧ (∃ (s : State) (m : Msg) (g : Nat) (a : Nat) (w : Nat), s.freshLine m g a w ∧ m.code = 4)
    ∧ (∃ (s : State) (m : Msg) (g : Nat) (a : Nat) (w : Nat), s.freshLine m g a w ∧ m.code = 5) :=
  ⟨⟨State.reset, { kind := .wmReq, op := 1 }, {}, 0, .rds { kind := .wmReq, op := 1 } {}, by decide +kernel⟩,
    ⟨State.reset, { kind := .wmReq, op := 2 }, {}, 0, .rds { kind := .wmReq, op := 2 } {}, by decide +kernel⟩,
    ⟨State.reset, { kind := .wmReq, op := 0 }, {}, 0, .rds { kind := .wmReq, op := 0 } {}, by decide +kernel⟩,
    ⟨put (({ xlt := { map := [(0, 2)], pool := [(0, { committed := true, caps := [1] })], hdm := [] } } : State)) [(fXLT_SPAN_VALID, 0, 1),
      (fXLT_POOLPORT_POOL, 0, 1), (fPRT_PORTCFG_ENABLE, 0, 1), (fPRT_PORTSTAT_DLACTIVE, 0, 1), (fWM_SRGN_EN, 0, 1), (fWM_SRGN_LAST, 0, 0xFFFFFF),
      (fWM_SRGN_STATE, 0, 2)], { kind := .wmReq, op := 1 }, 0, 0, 0,
      ({ st := .tsr, row := rowI 0, req := 0, msg := some ({ kind := .wmReq, op := 1 }), q := some 0, ln := {}, way := some 0 }), by decide +kernel⟩,
    ⟨put (({ xlt := { map := [(0, 2)], pool := [(0, { committed := true, caps := [1] })], hdm := [] } } : State)) [(fXLT_SPAN_VALID, 0, 1),
      (fXLT_POOLPORT_POOL, 0, 1), (fPRT_PORTCFG_ENABLE, 0, 1), (fPRT_PORTSTAT_DLACTIVE, 0, 1), (fWM_SRGN_EN, 0, 1), (fWM_SRGN_LAST, 0, 0xFFFFFF),
      (fWM_SRGN_STATE, 0, 2)], { kind := .wmReq, op := 2 }, 0, 0, 0,
      ({ st := .tsr, row := rowI 1, req := 1, msg := some ({ kind := .wmReq, op := 2 }), q := some 0, ln := {}, way := some 0 }), by decide +kernel⟩,
    ⟨put (({ xlt := { map := [(0, 2)], pool := [(0, { committed := true, caps := [1] })], hdm := [] } } : State)) [(fXLT_SPAN_VALID, 0, 1),
      (fXLT_POOLPORT_POOL, 0, 1), (fPRT_PORTCFG_ENABLE, 0, 1), (fPRT_PORTSTAT_DLACTIVE, 0, 1), (fWM_SRGN_EN, 0, 1), (fWM_SRGN_LAST, 0, 0xFFFFFF),
      (fWM_SRGN_STATE, 0, 2)], { kind := .wmReq, op := 3 }, 0, 0, 0,
      ({ st := .tsr, row := rowI 2, req := 2, msg := some ({ kind := .wmReq, op := 3 }), q := some 0, ln := {}, way := some 0 }), by decide +kernel⟩,
    ⟨put (({ xlt := { map := [(0, 2)], pool := [(0, { committed := true, caps := [1] })], hdm := [] } } : State)) [(fXLT_SPAN_VALID, 0, 1),
      (fXLT_POOLPORT_POOL, 0, 1), (fPRT_PORTCFG_ENABLE, 0, 1), (fPRT_PORTSTAT_DLACTIVE, 0, 1), (fWM_SRGN_EN, 0, 1), (fWM_SRGN_LAST, 0, 0xFFFFFF),
      (fWM_SRGN_STATE, 0, 2)], { kind := .wmReq, op := 4 }, 0, 0, 0,
      ({ st := .tsr, row := rowI 3, req := 3, msg := some ({ kind := .wmReq, op := 4 }), q := some 0, ln := {}, way := none }), by decide +kernel⟩,
    ⟨put (({ xlt := { map := [(0, 2)], pool := [(0, { committed := true, caps := [1] })], hdm := [] } } : State)) [(fXLT_SPAN_VALID, 0, 1),
      (fXLT_POOLPORT_POOL, 0, 1), (fPRT_PORTCFG_ENABLE, 0, 1), (fPRT_PORTSTAT_DLACTIVE, 0, 1), (fWM_SRGN_EN, 0, 1), (fWM_SRGN_LAST, 0, 0xFFFFFF),
      (fWM_SRGN_STATE, 0, 2)], { kind := .wmReq, op := 5 }, 0, 0, 0, by decide +kernel⟩,
    ⟨put (({ xlt := { map := [(0, 2)], pool := [(0, { committed := true, caps := [1] })], hdm := [] } } : State)) [(fXLT_SPAN_VALID, 0, 1),
      (fXLT_POOLPORT_POOL, 0, 1), (fPRT_PORTCFG_ENABLE, 0, 1), (fPRT_PORTSTAT_DLACTIVE, 0, 1), (fWM_SRGN_EN, 0, 1), (fWM_SRGN_LAST, 0, 0xFFFFFF),
      (fWM_SRGN_STATE, 0, 2)], { kind := .wmReq, op := 6 }, 0, 0, 0, by decide +kernel⟩⟩

/-- States and operands that meet the hypotheses of `Obligations.WriteBacksAndPurge`, clause by clause. -/
theorem witness_WriteBacksAndPurge :
    (∃ (s : State) (m : Msg) (a : Nat) (k : _) (n : LineSt), s.heldLine m a k n ∧ m.code = 6
      ∧ rStale (s.ttLookup n.state 6 (condOf n (some a))) = false ∧ rViol (s.ttLookup n.state 6 (condOf n (some a))) = false)
    ∧ (∃ (s : State) (m : Msg) (a : Nat) (k : _) (n : LineSt), s.heldLine m a k n ∧ m.code = 7
      ∧ rStale (s.ttLookup n.state 7 (condOf n (some a))) = false ∧ rViol (s.ttLookup n.state 7 (condOf n (some a))) = false)
    ∧ (∃ (s : State) (m : Msg) (a : Nat) (k : _) (n : LineSt), s.heldLine m a k n ∧ m.code = 8
      ∧ rStale (s.ttLookup n.state 8 (condOf n (some a))) = false ∧ rViol (s.ttLookup n.state 8 (condOf n (some a))) = false)
    ∧ (∃ (s : State) (m : Msg) (a : Nat) (k : _) (n : LineSt), s.heldLine m a k n ∧ m.code = 6
      ∧ rStale (s.ttLookup n.state 6 (condOf n (some a))) = true)
    ∧ (∃ (s : State) (m : Msg) (a : _) (k : Nat) (n : LineSt) (n' : LineSt), s.heldLine m a k n ∧ m.code = 9 ∧ bitOf n.pres a = true
      ∧ n' = (n.drop a).next (rNext (s.ttLookup n.state 9 0)) none false false)
    ∧ (∃ (s : State) (m : Msg) (r : _) (c : _), (c, r) ∈ [(Instr.rds m {}, 0), (.rdown m {}, 1), (.upgr m {}, 2), (.rdcur m {}, 3), (.wrfull m {}, 4),
      (.wrpart m {}, 5), (.wbI m {}, 6), (.wbS m {}, 7), (.wbE m {}, 8)] ∧ wmOk m = true ∧ m.code = r ∧ s.refuses m = true
      ∧ SMap.get none s.swc.sending (72 + lineSlice (lineOfMsg m)) = none
      ∧ ((s.setWays (setKey (lineSlice (lineOfMsg m)) (lineSet (lineOfMsg m)))).all fun w => !s.entryBad (s.fentry w)) = true)
    ∧ (∃ (s : State) (r : Nat) (k : _), r < 216 ∧ s.wm.naks = [k] ∧ k.src = r ∧ k.arrived = false ∧ k.placed = false)
    ∧ (∃ (s : State) (r : Nat) (k : _), r < 216 ∧ s.wm.naks = [k] ∧ k.src = r ∧ k.placed = true)
    ∧ (∃ (s : State) (r : Nat), r < 216 ∧ (∀ k ∈ s.wm.naks, k.src ≠ r ∨ k.placed = false))
    ∧ (∃ (s : State) (r : Nat), r < 216)
    ∧ (∃ (s : State) (line : Nat), line < 2 ^ 46 ∧ (s.rsvOf line = [] ∨ (s.txn line).isSome = true))
    ∧ (∃ (s : State) (a : Nat), a < 72 ∧ bitOf s.downMask a = false)
    ∧ (∃ (s : State) (line : Nat) (h : Nat × Nat) (q : List (Nat × Nat)), line < 2 ^ 46 ∧ s.rsvOf line = h :: q ∧ s.txn line = none)
    ∧ (∃ (s : State) (a : Nat), a < 72 ∧ bitOf s.downMask a = true ∧ s.wm.ways = [] ∧ s.wm.deferred = [] ∧ s.wm.rowWait = [])
    ∧ (∃ (s : State) (a : Nat) (k : _) (e : FEntry), a < 72 ∧ bitOf s.downMask a = true ∧ s.wm.ways = [(k, e)] ∧ e.state = 1 ∧ bitOf e.pres a = true
      ∧ s.pinned k = false) :=
  ⟨⟨put (({ ({ xlt := { map := [(0, 2)], pool := [(0, { committed := true, caps := [1] })], hdm := [] } } : State) with wm := { ways := [(wayKey (setKey 0 0) 0, { state := 4, owner := 0, pres := 1, age := 0, region := 0, atag := 0 })] } } : State)) [(fXLT_SPAN_VALID,
      0, 1), (fXLT_POOLPORT_POOL, 0, 1), (fPRT_PORTCFG_ENABLE, 0, 1), (fPRT_PORTSTAT_DLACTIVE, 0, 1), (fWM_SRGN_EN, 0, 1), (fWM_SRGN_LAST, 0,
      0xFFFFFF), (fWM_SRGN_STATE, 0, 2)], { kind := .wmReqData, op := 7, st := 0, len := 80 }, 0, wayKey (setKey 0 0) 0,
      { state := 4, owner := 0, pres := 1 }, by decide +kernel⟩,
    ⟨put (({ ({ xlt := { map := [(0, 2)], pool := [(0, { committed := true, caps := [1] })], hdm := [] } } : State) with wm := { ways := [(wayKey (setKey 0 0) 0, { state := 4, owner := 0, pres := 1, age := 0, region := 0, atag := 0 })] } } : State)) [(fXLT_SPAN_VALID,
      0, 1), (fXLT_POOLPORT_POOL, 0, 1), (fPRT_PORTCFG_ENABLE, 0, 1), (fPRT_PORTSTAT_DLACTIVE, 0, 1), (fWM_SRGN_EN, 0, 1), (fWM_SRGN_LAST, 0,
      0xFFFFFF), (fWM_SRGN_STATE, 0, 2)], { kind := .wmReqData, op := 7, st := 1, len := 80 }, 0, wayKey (setKey 0 0) 0,
      { state := 4, owner := 0, pres := 1 }, by decide +kernel⟩,
    ⟨put (({ ({ xlt := { map := [(0, 2)], pool := [(0, { committed := true, caps := [1] })], hdm := [] } } : State) with wm := { ways := [(wayKey (setKey 0 0) 0, { state := 4, owner := 0, pres := 1, age := 0, region := 0, atag := 0 })] } } : State)) [(fXLT_SPAN_VALID,
      0, 1), (fXLT_POOLPORT_POOL, 0, 1), (fPRT_PORTCFG_ENABLE, 0, 1), (fPRT_PORTSTAT_DLACTIVE, 0, 1), (fWM_SRGN_EN, 0, 1), (fWM_SRGN_LAST, 0,
      0xFFFFFF), (fWM_SRGN_STATE, 0, 2)], { kind := .wmReqData, op := 7, st := 2, len := 80 }, 0, wayKey (setKey 0 0) 0,
      { state := 4, owner := 0, pres := 1 }, by decide +kernel⟩,
    ⟨put (({ ({ xlt := { map := [(0, 2)], pool := [(0, { committed := true, caps := [1] })], hdm := [] } } : State) with wm := { ways := [(wayKey (setKey 0 0) 0, { state := 1, owner := 127, pres := 2, age := 0, region := 0, atag := 0 })] } } : State)) [(fXLT_SPAN_VALID,
      0, 1), (fXLT_POOLPORT_POOL, 0, 1), (fPRT_PORTCFG_ENABLE, 0, 1), (fPRT_PORTSTAT_DLACTIVE, 0, 1), (fWM_SRGN_EN, 0, 1), (fWM_SRGN_LAST, 0,
      0xFFFFFF), (fWM_SRGN_STATE, 0, 2)], { kind := .wmReqData, op := 7, len := 80 }, 0, wayKey (setKey 0 0) 0,
      { state := 1, owner := 127, pres := 2 }, by decide +kernel⟩,
    ⟨put (({ ({ xlt := { map := [(0, 2)], pool := [(0, { committed := true, caps := [1] })], hdm := [] } } : State) with wm := { ways := [(wayKey (setKey 0 0) 0, { state := 1, owner := 127, pres := 3, age := 0, region := 0, atag := 0 })] } } : State)) [(fXLT_SPAN_VALID,
      0, 1), (fXLT_POOLPORT_POOL, 0, 1), (fPRT_PORTCFG_ENABLE, 0, 1), (fPRT_PORTSTAT_DLACTIVE, 0, 1), (fWM_SRGN_EN, 0, 1), (fWM_SRGN_LAST, 0,
      0xFFFFFF), (fWM_SRGN_STATE, 0, 2)], { kind := .wmReq, op := 8 }, 0, wayKey (setKey 0 0) 0, { state := 1, owner := 127, pres := 3 },
      { state := 1, owner := 127, pres := 2 }, by decide +kernel⟩,
    ⟨put (({ ({ xlt := { map := [(0, 2)], pool := [(0, { committed := true, caps := [1] })], hdm := [] } } : State) with wm := { refused := [0] } } : State)) [(fXLT_SPAN_VALID,
      0, 1), (fXLT_POOLPORT_POOL, 0, 1), (fPRT_PORTCFG_ENABLE, 0, 1), (fPRT_PORTSTAT_DLACTIVE, 0, 1), (fWM_SRGN_EN, 0, 1), (fWM_SRGN_LAST, 0,
      0xFFFFFF), (fWM_SRGN_STATE, 0, 2)], { kind := .wmReq, op := 1 }, 0, .rds { kind := .wmReq, op := 1 } {}, by decide +kernel⟩,
    ⟨{ wm := { naks := [(({ src := 0, m := { kind := .wmReq, op := 1 }, hint := 0 } : Nak))] } : State }, 0,
      ({ src := 0, m := { kind := .wmReq, op := 1 }, hint := 0 } : Nak), by decide +kernel⟩,
    ⟨{ wm := { naks := [(({ src := 0, m := { kind := .wmReq, op := 1 }, hint := 0, placed := true } : Nak))] } : State }, 0,
      ({ src := 0, m := { kind := .wmReq, op := 1 }, hint := 0, placed := true } : Nak), by decide +kernel⟩,
    ⟨{ wm := { naks := [(({ src := 0, m := { kind := .wmReq, op := 1 }, hint := 0, placed := true } : Nak))] } : State }, 199, by decide +kernel⟩,
    ⟨{ wm := { naks := [] } : State }, 0, by decide +kernel⟩,
    ⟨{ wm := { naks := [(({ src := 0, m := { kind := .wmReq, op := 1 }, hint := 0, placed := true } : Nak))] } : State }, 0, by decide +kernel⟩,
    ⟨{ wm := { naks := [] } : State }, 0, by decide +kernel⟩,
    ⟨{ wm := { rsv := [(0, [(0, 0)])] } : State }, 0, (0, 0), ([] : List (Nat × Nat)), by decide +kernel⟩,
    ⟨put ({ wm := { ways := [] } : State }) [(fWM_AGDOWN_PURGING, 0, 1)], 0, by decide +kernel⟩,
    ⟨put ({ wm := { ways := [(0, ({ state := 1, owner := 127, pres := 1, age := 0, region := 0, atag := 0 }))] } : State }) [(fWM_AGDOWN_PURGING, 0,
      1)], 0, 0, { state := 1, owner := 127, pres := 1, age := 0, region := 0, atag := 0 }, by decide +kernel⟩⟩

/-- States and operands that meet the hypotheses of `Obligations.AnswersAtASlice`, clause by clause. -/
theorem witness_AnswersAtASlice :
    (∃ (s : State) (m : Msg) (a : Nat) (x : Txn), s.onLine (lineOfMsg m) x ∧ wmOk m = true ∧ s.agentOf m = some a ∧ bitOf x.snoops a = true
      ∧ putBit x.snoops a false ≠ 0 ∧ x.bcast = false ∧ m.st = 0 ∧ hasLine m = true)
    ∧ (∃ (s : State) (m : Msg), wmOk m = true)
    ∧ (∃ (s : State) (m : Msg), wmOk m = true ∧ SMap.get none s.wm.parked (lineOfMsg m) = none ∧ s.txn (lineOfMsg m) = none)
    ∧ (∃ (s : State) (m : Msg) (x : Txn), wmOk m = true ∧ SMap.get none s.wm.parked (lineOfMsg m) = none ∧ s.txn (lineOfMsg m) = some x
      ∧ x.owed = false)
    ∧ (∃ (s : State) (m : Msg) (x : Txn), wmOk m = true ∧ SMap.get none s.wm.parked (lineOfMsg m) = some x)
    ∧ (∃ (s : State) (m : Msg), wmOk m = true ∧ s.awaits (lineOfMsg m) = none)
    ∧ (∃ (s : State) (m : Msg), wmOk m = true ∧ (∀ x, s.txn (lineOfMsg m) = some x → x.owed = false))
    ∧ (∃ (s : State) (l : Nat) (data : Nat) (p : Bool), l < 2 ^ 46 ∧ data < 2 ^ 512)
    ∧ (∃ (s : State) (l : Nat), l < 2 ^ 46)
    ∧ (∃ (s : State) (l : Nat) (a : Nat), l < 2 ^ 46 ∧ a < 72)
    ∧ (∃ (s : State) (l : Nat) (a : Nat) (x : Txn), l < 2 ^ 46 ∧ a < 72 ∧ s.txn l = some x ∧ bitOf x.snoops a = false)
    ∧ (∃ (s : State) (l : Nat) (data : Nat) (p : Bool) (x : Txn), s.onLine l x ∧ data < 2 ^ 512 ∧ x.skip = 0 ∧ x.owed = true ∧ x.snoops ≠ 0
      ∧ x.st = .tsr)
    ∧ (∃ (s : State) (l : Nat) (x : Txn) (b : List Bool), s.onLine l x ∧ x.st = .tw ∧ x.pws = false :: b)
    ∧ (∃ (s : State) (l : Nat) (x : Txn), s.onLine l x ∧ x.skip = 0 ∧ x.owed = true ∧ x.snoops ≠ 0 ∧ x.st = .tsr)
    ∧ (∃ (s : State) (l : Nat) (x : Txn) (a : Nat) (until_ : Nat), s.onLine l x ∧ a < 72 ∧ x.st = .th ∧ x.holds = [(a, until_)] ∧ x.skip = 0
      ∧ x.pws = [] ∧ SMap.get none s.wm.parked l = none)
    ∧ (∃ (s : State) (l : Nat) (x : Txn) (a : Nat), s.onLine l x ∧ a < 72 ∧ bitOf x.snoops a = true ∧ putBit x.snoops a false ≠ 0 ∧ x.bcast = true)
    ∧ (∃ (s : State) (l : Nat) (a : Nat), l < 2 ^ 46 ∧ a < 72 ∧ s.txn l = none)
    ∧ (∃ (s : State) (u : State) (m : Msg) (x : Txn) (code : Nat) (c : Instr), (c, code) ∈ [(Instr.snpinv m, 0x10), (.snpdata m, 0x11), (.snpcur m,
      0x12)] ∧ u = s.upset (setKey (lineSlice (lineOfMsg m)) (lineSet (lineOfMsg m))) m.up ∧ u.onLine (lineOfMsg m) x ∧ wmOk m = true ∧ m.op = code
      ∧ s.proxy (lineOfMsg m) = true ∧ x.st = .ts)
    ∧ (∃ (s : State) (u : State) (m : Msg) (code : Nat) (c : Instr), (c, code) ∈ [(Instr.snpinv m, 0x10), (.snpdata m, 0x11), (.snpcur m, 0x12)]
      ∧ u = s.upset (setKey (lineSlice (lineOfMsg m)) (lineSet (lineOfMsg m))) m.up
      ∧ SMap.get none u.swc.sending (72 + lineSlice (lineOfMsg m)) = none ∧ u.txn (lineOfMsg m) = none ∧ wmOk m = true ∧ m.op = code
      ∧ s.proxy (lineOfMsg m) = true)
    ∧ (∃ (s : State) (u : State) (m : Msg) (code : Nat) (c : Instr) (r : Msg) (e : Nat), (c, code) ∈ [(Instr.snpinv m, 0x10), (.snpdata m, 0x11),
      (.snpcur m, 0x12)] ∧ u = s.upset (setKey (lineSlice (lineOfMsg m)) (lineSet (lineOfMsg m))) m.up
      ∧ SMap.get none u.swc.sending (72 + lineSlice (lineOfMsg m)) = none ∧ u.txn (lineOfMsg m) = none ∧ wmOk m = true ∧ m.op = code
      ∧ s.proxy (lineOfMsg m) = true ∧ (u.lineNow (lineOfMsg m)).state = 0 ∧ r = u.snoopReply (lineOfMsg m) m 0 none ∧ u.askedFor r = none
      ∧ u.egressOf r = some e ∧ 64 ≤ e ∧ u.swc.waiting = [] ∧ r.cells ≤ u.rd fRSV_FREE_FREE 0)
    ∧ (∃ (s : State) (u : State) (m : Msg) (code : Nat) (c : Instr) (k : Nat) (a : Nat), (c, code) ∈ [(Instr.snpinv m, 0x10), (.snpdata m, 0x11),
      (.snpcur m, 0x12)] ∧ u = s.upset (setKey (lineSlice (lineOfMsg m)) (lineSet (lineOfMsg m))) m.up
      ∧ SMap.get none u.swc.sending (72 + lineSlice (lineOfMsg m)) = none ∧ u.txn (lineOfMsg m) = none ∧ wmOk m = true ∧ m.op = code
      ∧ s.proxy (lineOfMsg m) = true ∧ u.wm.table = [] ∧ u.findWay (lineOfMsg m) = some k ∧ (u.fentry k).state = 2 ∧ (u.fentry k).owner = a ∧ a < 64
      ∧ bitOf u.downMask a = false ∧ u.openIn (lineSlice (lineOfMsg m)) < 4096)
    ∧ (∃ (s : State) (m : Msg) (x : Txn), s.onLine (lineOfMsg m) x ∧ wmOk m = true ∧ SMap.get none s.wm.parked (lineOfMsg m) = none ∧ x.owed = true
      ∧ x.st = .tsr ∧ x.snoops ≠ 0)
    ∧ (∃ (s : State) (m : Msg) (x : Txn), s.onLine (lineOfMsg m) x ∧ wmOk m = true ∧ SMap.get none s.wm.parked (lineOfMsg m) = none)
    ∧ (∃ (s : State) (m : Msg) (x : Txn), s.onLine (lineOfMsg m) x ∧ wmOk m = true ∧ SMap.get none s.wm.parked (lineOfMsg m) = none ∧ x.owed = true
      ∧ x.msg = none ∧ x.holds = [] ∧ x.skip = 0 ∧ x.pws = []) :=
  ⟨⟨{ wm := { txns := [(0, some ({ st := .tsr, row := 0, req := 0, msg := none, q := none, ln := {}, way := none, snoops := 3 } : Txn))] } : State },
      { kind := .wmRsp, len := 80 }, 0, ({ st := .tsr, row := 0, req := 0, msg := none, q := none, ln := {}, way := none, snoops := 3 } : Txn),
      by decide +kernel⟩,
    ⟨{ wm := { txns := [(0, some ({ st := .tsr, row := 0, req := 0, msg := none, q := none, ln := {}, way := none } : Txn))] } : State },
      { kind := .ioPosted }, by decide +kernel⟩,
    ⟨put (State.reset) [(fWM_SRGN_EN, 0, 1), (fWM_SRGN_HOME, 0, 1)], { kind := .wmSnp, op := 0x10 }, by decide +kernel⟩,
    ⟨{ wm := { txns := [(0, some ({ st := .tsr, row := 0, req := 0, msg := none, q := none, ln := {}, way := none } : Txn))] } : State },
      { kind := .ioPosted }, ({ st := .tsr, row := 0, req := 0, msg := none, q := none, ln := {}, way := none } : Txn), by decide +kernel⟩,
    ⟨{ wm := { parked := [(0, some ({ st := .tsr, row := 0, req := 0, msg := none, q := none, ln := {}, way := none } : Txn))] } : State },
      { kind := .ioPosted }, ({ st := .tsr, row := 0, req := 0, msg := none, q := none, ln := {}, way := none } : Txn), by decide +kernel⟩,
    ⟨put (State.reset) [(fWM_SRGN_EN, 0, 1), (fWM_SRGN_HOME, 0, 1)], { kind := .wmSnp, op := 0x10 }, by decide +kernel⟩,
    ⟨put (State.reset) [(fWM_SRGN_EN, 0, 1), (fWM_SRGN_HOME, 0, 1)], { kind := .wmSnp, op := 0x10 }, by decide +kernel⟩,
    ⟨State.reset, 0, 0, false, by decide +kernel⟩,
    ⟨State.reset, 0, by decide +kernel⟩,
    ⟨State.reset, 0, 0, by decide +kernel⟩,
    ⟨{ wm := { txns := [(0, some ({ st := .tsr, row := 0, req := 0, msg := none, q := none, ln := {}, way := none } : Txn))] } : State }, 0, 0,
      (({ wm := { txns := [(0, some ({ st := .tsr, row := 0, req := 0, msg := none, q := none, ln := {}, way := none } : Txn))] } : State }).txn 0).get (by decide +kernel),
      by decide +kernel⟩,
    ⟨{ wm := { txns := [(0, some ({ st := .tsr, row := 0, req := 0, msg := none, q := none, ln := {}, way := none, owed := true, snoops := 1 } : Txn))] } : State },
      0, 0, false, ({ st := .tsr, row := 0, req := 0, msg := none, q := none, ln := {}, way := none, owed := true, snoops := 1 } : Txn),
      by decide +kernel⟩,
    ⟨{ wm := { txns := [(0, some ({ st := .tw, row := 0, req := 0, msg := none, q := none, ln := {}, way := none, pws := [false] } : Txn))] } : State },
      0, ({ st := .tw, row := 0, req := 0, msg := none, q := none, ln := {}, way := none, pws := [false] } : Txn), [], by decide +kernel⟩,
    ⟨{ wm := { txns := [(0, some ({ st := .tsr, row := 0, req := 0, msg := none, q := none, ln := {}, way := none, owed := true, snoops := 1 } : Txn))] } : State },
      0, ({ st := .tsr, row := 0, req := 0, msg := none, q := none, ln := {}, way := none, owed := true, snoops := 1 } : Txn), by decide +kernel⟩,
    ⟨{ wm := { txns := [(0, some ({ st := .th, row := 0, req := 0, msg := none, q := none, ln := {}, way := none, holds := [(0, 5)] } : Txn))] } : State },
      0, ({ st := .th, row := 0, req := 0, msg := none, q := none, ln := {}, way := none, holds := [(0, 5)] } : Txn), 0, 5, by decide +kernel⟩,
    ⟨{ wm := { txns := [(0, some ({ st := .tsr, row := 0, req := 0, msg := none, q := none, ln := {}, way := none, snoops := 3, bcast := true } : Txn))] } : State },
      0, ({ st := .tsr, row := 0, req := 0, msg := none, q := none, ln := {}, way := none, snoops := 3, bcast := true } : Txn), 0, by decide +kernel⟩,
    ⟨State.reset, 0, 0, by decide +kernel⟩,
    ⟨put ({ wm := { txns := [(0, some ({ st := .ts, row := 0, req := 0, msg := none, q := none, ln := {}, way := none } : Txn))] } : State }) [(fWM_SRGN_EN,
      0, 1), (fWM_SRGN_HOME, 0, 1), (fWM_SRGN_STATE, 0, 2)],
      (put ({ wm := { txns := [(0, some ({ st := .ts, row := 0, req := 0, msg := none, q := none, ln := {}, way := none } : Txn))] } : State }) [(fWM_SRGN_EN,
      0, 1), (fWM_SRGN_HOME, 0, 1), (fWM_SRGN_STATE, 0, 2)]).upset (setKey (lineSlice 0) (lineSet 0)) {}, { kind := .wmSnp, op := 0x10 },
      ({ st := .ts, row := 0, req := 0, msg := none, q := none, ln := {}, way := none } : Txn), 0x10, .snpinv { kind := .wmSnp, op := 0x10 },
      by decide +kernel, rfl, by decide +kernel⟩,
    ⟨put State.reset [(fWM_SRGN_EN, 0, 1), (fWM_SRGN_HOME, 0, 1), (fWM_SRGN_STATE, 0, 2)], (put State.reset [(fWM_SRGN_EN, 0, 1), (fWM_SRGN_HOME, 0,
      1), (fWM_SRGN_STATE, 0, 2)]).upset (setKey (lineSlice 0) (lineSet 0)) {}, { kind := .wmSnp, op := 0x10 }, 0x10,
      .snpinv { kind := .wmSnp, op := 0x10 }, by decide +kernel, rfl, by decide +kernel⟩,
    ⟨put State.reset [(fWM_SRGN_EN, 0, 1), (fWM_SRGN_HOME, 0, 1), (fWM_SRGN_STATE, 0, 2), (fLEAT_ROUTE_LINKS, 1, 1)], (put State.reset [(fWM_SRGN_EN,
      0, 1), (fWM_SRGN_HOME, 0, 1), (fWM_SRGN_STATE, 0, 2), (fLEAT_ROUTE_LINKS, 1, 1)]).upset (setKey (lineSlice 0) (lineSet 0)) {},
      { kind := .wmSnp, op := 0x10, snode := 1 }, 0x10, .snpinv { kind := .wmSnp, op := 0x10, snode := 1 }, ((put State.reset [(fWM_SRGN_EN, 0, 1),
      (fWM_SRGN_HOME, 0, 1), (fWM_SRGN_STATE, 0, 2), (fLEAT_ROUTE_LINKS, 1,
      1)]).upset (setKey (lineSlice 0) (lineSet 0)) {}).snoopReply 0 { kind := .wmSnp, op := 0x10, snode := 1 } 0 none, 64,
      by decide +kernel, rfl, by decide +kernel, by decide +kernel, by decide +kernel, by decide +kernel, by decide +kernel, by decide +kernel, rfl,
      by decide +kernel⟩,
    ⟨put ({ wm := { ways := [(0, { state := 2, owner := 0, pres := 1 })] } : State }) [(fWM_SRGN_EN, 0, 1), (fWM_SRGN_HOME, 0, 1), (fWM_SRGN_STATE, 0,
      2)], (put ({ wm := { ways := [(0, { state := 2, owner := 0, pres := 1 })] } : State }) [(fWM_SRGN_EN, 0, 1), (fWM_SRGN_HOME, 0, 1),
      (fWM_SRGN_STATE, 0, 2)]).upset (setKey (lineSlice 0) (lineSet 0)) {}, { kind := .wmSnp, op := 0x10, snode := 1 }, 0x10,
      .snpinv { kind := .wmSnp, op := 0x10, snode := 1 }, 0, 0, by decide +kernel, rfl, by decide +kernel⟩,
    ⟨{ wm := { txns := [(0, some ({ st := .tsr, row := 0, req := 0, msg := none, q := none, ln := {}, way := none, owed := true, snoops := 1 } : Txn))] } : State },
      { kind := .ioPosted }, ({ st := .tsr, row := 0, req := 0, msg := none, q := none, ln := {}, way := none, owed := true, snoops := 1 } : Txn),
      by decide +kernel⟩,
    ⟨{ wm := { txns := [(0, some ({ st := .tsr, row := 0, req := 0, msg := none, q := none, ln := {}, way := none } : Txn))] } : State },
      { kind := .ioPosted }, ({ st := .tsr, row := 0, req := 0, msg := none, q := none, ln := {}, way := none } : Txn), by decide +kernel⟩,
    ⟨{ wm := { txns := [(0, some ({ st := .tsr, row := 0, req := 0, msg := none, q := none, ln := {}, way := none, owed := true } : Txn))] } : State },
      { kind := .ioPosted }, ({ st := .tsr, row := 0, req := 0, msg := none, q := none, ln := {}, way := none, owed := true } : Txn),
      by decide +kernel⟩⟩

/-- States and operands that meet the hypotheses of `Obligations.RegionsAndTables`, clause by clause. -/
theorem witness_RegionsAndTables :
    (∃ (s : State) (n : Nat) (val : Nat), n < 64 ∧ val < 2 ^ 32 ∧ bitOf val 31 = true ∧ s.rdb fWM_SRGN_EN n = false ∧ s.rd fWM_SRGN_STATE n ≠ 3
      ∧ s.regionRefused n (bitsOf val 0 24) = false)
    ∧ (∃ (s : State) (n : Nat) (val : Nat), n < 64 ∧ val < 2 ^ 32 ∧ bitOf val 31 = true
      ∧ (s.rdb fWM_SRGN_EN n = true ∨ s.rd fWM_SRGN_STATE n = 3 ∨ s.regionRefused n (bitsOf val 0 24) = true))
    ∧ (∃ (s : State) (n : Nat) (val : Nat), n < 64 ∧ val < 2 ^ 32 ∧ bitOf val 31 = false ∧ s.rd fWM_SRGN_STATE n ≠ 3 ∧ s.rdb fWM_SRGN_EN n = true
      ∧ s.wm.ways = [])
    ∧ (∃ (s : State) (n : Nat) (val : Nat), n < 64 ∧ val < 2 ^ 32 ∧ bitOf val 31 = false)
    ∧ (∃ (s : State) (n : Nat) (val : Nat), n < 64 ∧ val < 2 ^ 32 ∧ bitOf val 31 = true)
    ∧ (∃ (s : State) (n : Nat) (val : Nat), n < 64 ∧ val < 2 ^ 32 ∧ bitOf val 31 = false ∧ s.rd fWM_SRGN_STATE n = 3)
    ∧ (∃ (s : State) (n : Nat) (val : Nat), n < 64 ∧ val < 2 ^ 32 ∧ bitOf val 31 = false ∧ s.rd fWM_SRGN_STATE n ≠ 3 ∧ s.rdb fWM_SRGN_EN n = false)
    ∧ (∃ (s : State) (n : Nat) (val : Nat), n < 64 ∧ val < 2 ^ 32 ∧ bitOf val 31 = false ∧ s.rd fWM_SRGN_STATE n ≠ 3 ∧ s.rdb fWM_SRGN_EN n = true)
    ∧ (∃ (s : State) (n : Nat), n < 64 ∧ s.rd fWM_SRGN_STATE n ≠ 3)
    ∧ (∃ (s : State) (t : State) (n : Nat), n < 64 ∧ s.rd fWM_SRGN_STATE n = 3 ∧ t = s.recallWhere defaultTable (· == n))
    ∧ (∃ (s : State), (∀ e ∈ s.wm.cells, ∀ c, e.2 = some c → c.sweeps < s.rd fWM_OCTL_OAGE 0) ∧ s.wm.txns = [])
    ∧ (∃ (s : State) (u : State) (l : Nat) (c : OCell), s.wm.cells = [(l, some c)] ∧ s.rd fWM_OCTL_OAGE 0 ≤ c.sweeps ∧ s.wm.txns = []
      ∧ u = { s with wm := { s.wm with cells := [(l, some { c with sweeps := c.sweeps + 1 })] } } ∧ s.mayAge l = true ∧ u.mayAge l = true)
    ∧ (∃ (s : State) (val : Nat) (sigOk : Bool), val < 2 ^ 32 ∧ (bitsOf val 24 8 ≠ 0xC3 ∨ bitOf val 0 = false ∨ s.wm.loading.isSome = true))
    ∧ (∃ (s : State) (val : Nat) (sigOk : Bool), val < 2 ^ 32 ∧ bitsOf val 24 8 = 0xC3 ∧ bitOf val 0 = true ∧ s.wm.loading = none ∧ s.standby = false)
    ∧ (∃ (s : State), s.wm.loading = none)
    ∧ (∃ (s : State), s.wm.txns ≠ [])
    ∧ (∃ (s : State) (tab : Nat), tab < 4)
    ∧ (∃ (s : State) (sl : Nat) (up : Upset), sl < 16 ∧ (s.rdb fSNF_CTL_SCRUBEN 0 = false ∨ s.sweeping = true))
    ∧ (∃ (s : State) (sl : Nat) (up : Upset), sl < 16 ∧ s.rdb fSNF_CTL_SCRUBEN 0 = true ∧ s.sweeping = false)
    ∧ (∃ (s : State) (val : Nat) (err : Nat), val < 2 ^ 32 ∧ err < 4 ∧ s.waysPerSet ≤ bitsOf val 20 5)
    ∧ (∃ (s : State) (val : Nat), val < 2 ^ 32 ∧ bitsOf val 24 8 ≠ 0x96)
    ∧ (∃ (s : State) (val : Nat), val < 2 ^ 32 ∧ bitsOf val 24 8 = 0x96)
    ∧ (∃ (s : State) (n : Nat), n < 64 ∧ s.rd fWM_SRGN_STATE n = 3 ∧ s.wm.ways = [] ∧ s.wm.txns = [])
    ∧ (∃ (s : State) (l : Nat) (c : _), s.wm.cells = [(l, some c)] ∧ c.sweeps < s.rd fWM_OCTL_OAGE 0 ∧ s.wm.txns = [])
    ∧ (∃ (s : State) (val : Nat) (sigOk : Bool), val < 2 ^ 32 ∧ bitsOf val 24 8 = 0xC3 ∧ bitOf val 0 = true ∧ s.standby = true ∧ s.wm.loading = none
      ∧ s.ttCheck sigOk = none)
    ∧ (∃ (s : State) (val : Nat) (sigOk : Bool) (r : Nat) (row : Nat), val < 2 ^ 32 ∧ bitsOf val 24 8 = 0xC3 ∧ bitOf val 0 = true ∧ s.standby = true
      ∧ s.wm.loading = none ∧ s.ttCheck sigOk = some (r, row) ∧ r < 16 ∧ row < 128)
    ∧ (∃ (s : State) (ws : List Nat) (id : Nat) (c : _), s.wm.loading = some (ws, id, c) ∧ s.wm.txns = [] ∧ id < 2 ^ 32 ∧ c < 2 ^ 32)
    ∧ (∃ (s : State) (x : List Nat × Nat × Nat), s.wm.loading = some x)
    ∧ (∃ (s : State) (sl : Nat), sl < 16 ∧ s.rdb fSNF_CTL_SCRUBEN 0 = true ∧ s.sweeping = false ∧ s.wm.ways = [])
    ∧ (∃ (s : State) (val : Nat) (err : Nat), val < 2 ^ 32 ∧ bitsOf val 20 5 < s.waysPerSet ∧ bitOf val 31 = false ∧ err < 4)
    ∧ (∃ (s : State) (val : Nat) (err : Nat), val < 2 ^ 32 ∧ bitsOf val 20 5 < s.waysPerSet ∧ bitOf val 31 = true ∧ s.wm.ways = [] ∧ err < 4)
    ∧ (∃ (s : State) (val : Nat), val < 2 ^ 32 ∧ bitsOf val 24 8 = 0x96 ∧ (setBits 16 val) = [])
    ∧ (∃ (s : State) (val : Nat) (sl : Nat), val < 2 ^ 32 ∧ bitsOf val 24 8 = 0x96 ∧ setBits 16 val = [sl] ∧ sl < 16) :=
  ⟨⟨put (State.reset) [(fWM_SRGN_EN, 0, 0), (fWM_SRGN_STATE, 0, 0)], 0, 2147483648, by decide +kernel⟩,
    ⟨put (State.reset) [(fWM_SRGN_EN, 0, 1)], 0, 2147483648, by decide +kernel⟩,
    ⟨put ({ wm := { ways := [] } : State }) [(fWM_SRGN_STATE, 0, 0), (fWM_SRGN_EN, 0, 1)], 0, 0, by decide +kernel⟩,
    ⟨State.reset, 0, 0, by decide +kernel⟩,
    ⟨State.reset, 0, 3271557121, by decide +kernel⟩,
    ⟨put ({ wm := { ways := [], txns := [] } : State }) [(fWM_SRGN_STATE, 0, 3)], 0, 0, by decide +kernel⟩,
    ⟨{ wm := { ways := [] } : State }, 0, 0, by decide +kernel⟩,
    ⟨put ({ wm := { ways := [] } : State }) [(fWM_SRGN_STATE, 0, 0), (fWM_SRGN_EN, 0, 1)], 0, 0, by decide +kernel⟩,
    ⟨put ({ wm := { ways := [] } : State }) [(fSNF_CTL_SCRUBEN, 0, 1)], 0, by decide +kernel⟩,
    ⟨put State.reset [(fWM_SRGN_STATE, 0, 3)], _, 0, by decide, by decide +kernel, rfl⟩,
    ⟨put ({ wm := { cells := [(0, some (({ data := 0, poison := false } : OCell)))], txns := [] } : State }) [(fWM_OCTL_OAGE, 0, 2)],
      by decide +kernel⟩,
    ⟨put ({ wm := { cells := [(0, some (({ data := 0, poison := false } : OCell)))], txns := [] } : State }) [(fWM_OCTL_OAGE, 0, 0), (fWM_OCTL_OAGE,
      0, 2)],
      { (put ({ wm := { cells := [(0, some (({ data := 0, poison := false } : OCell)))], txns := [] } : State }) [(fWM_OCTL_OAGE, 0, 0), (fWM_OCTL_OAGE, 0, 2)]) with wm := { (put ({ wm := { cells := [(0, some (({ data := 0, poison := false } : OCell)))], txns := [] } : State }) [(fWM_OCTL_OAGE, 0, 0), (fWM_OCTL_OAGE, 0, 2)]).wm with cells := [(0, some { (({ data := 0, poison := false } : OCell)) with sweeps := (({ data := 0, poison := false } : OCell)).sweeps + 1 })] } },
      0, ({ data := 0, poison := false } : OCell), by decide +kernel⟩,
    ⟨put ({ wm := { ways := [] } : State }) [(fSNF_CTL_SCRUBEN, 0, 1)], 0, false, by decide +kernel⟩,
    ⟨put ({ wm := { cells := [(0, some (({ data := 0, poison := false } : OCell)))], txns := [] } : State }) [(fWM_OCTL_OAGE, 0, 2)], 3271557121,
      false, by decide +kernel⟩,
    ⟨put ({ wm := { ways := [] } : State }) [(fSNF_CTL_SCRUBEN, 0, 1)], by decide +kernel⟩,
    ⟨{ wm := { txns := [(0, some ({ st := .tsr, row := 0, req := 0, msg := none, q := none, ln := {}, way := none } : Txn))] } : State },
      by decide +kernel⟩,
    ⟨{ wm := { ways := [] } : State }, 0, by decide +kernel⟩,
    ⟨put ({ wm := { loading := some (([], 0, 0)) } : State }) [(fSNF_CTL_SCRUBEN, 0, 0)], 0, ({} : Upset), by decide +kernel⟩,
    ⟨put ({ wm := { ways := [] } : State }) [(fSNF_CTL_SCRUBEN, 0, 1)], 0, ({} : Upset), by decide +kernel⟩,
    ⟨put ({ wm := { loading := none }, ustore := [(ttStageAt 0, some 0)] : State }) [(fTND_STAT_DEVSTATE, 0, 1)], 3271557121, 0, by decide +kernel⟩,
    ⟨put ({ wm := { ways := [] } : State }) [(fSNF_CTL_SCRUBEN, 0, 1)], 0, by decide +kernel⟩,
    ⟨State.reset, 2516582400, by decide +kernel⟩,
    ⟨put ({ wm := { ways := [], txns := [] } : State }) [(fWM_SRGN_STATE, 0, 3)], 0, by decide +kernel⟩,
    ⟨put ({ wm := { cells := [(0, some (({ data := 0, poison := false } : OCell)))], txns := [] } : State }) [(fWM_OCTL_OAGE, 0, 2)], 0,
      ({ data := 0, poison := false } : OCell), by decide +kernel⟩,
    ⟨put ({ wm := { loading := none }, ustore := ((([0x574D5454, 0x690001, 7, 200, 0, 0, 0, 862616703] ++ defaultTable ++ [0x2000101, 0] : List Nat).zipIdx).map fun e : Nat × Nat => (ttStageAt e.2, some e.1)) : State }) [(fTND_STAT_DEVSTATE,
      0, 1)], 3271557121, true, by decide, by decide, by decide, by decide, by decide,
      by dsimp only [State.ttCheck]; rw [crc32_strict]; decide +kernel⟩,
    ⟨put ({ wm := { loading := none }, ustore := [(ttStageAt 0, some 0)] : State }) [(fTND_STAT_DEVSTATE, 0, 1)], 3271557121, false, 3, 0,
      by decide +kernel⟩,
    ⟨{ wm := { loading := some (([]), 0, default), txns := [] } : State }, [], 0, default, by decide +kernel⟩,
    ⟨{ wm := { loading := some (([], 0, 0)) } : State }, ([], 0, 0), by decide +kernel⟩,
    ⟨put ({ wm := { ways := [] } : State }) [(fSNF_CTL_SCRUBEN, 0, 1)], 0, by decide +kernel⟩,
    ⟨State.reset, 0, 0, by decide +kernel⟩,
    ⟨{ wm := { ways := [] } : State }, 2147483648, 0, by decide +kernel⟩,
    ⟨State.reset, 2516582400, by decide +kernel⟩,
    ⟨State.reset, 0x96000001, 0, by decide +kernel⟩⟩

/-- States and operands that meet the hypotheses of `Obligations.AllotmentMap`, clause by clause. -/
theorem witness_AllotmentMap :
    (∃ (s : State) (val : Nat) (e : Nat), val < 2 ^ 32 ∧ bitsOf val 24 8 = 0x3C ∧ bitsOf val 0 3 = 1 ∧ bitOf val 3 = false ∧ bitOf val 4 = false
      ∧ e = s.rd2 fXLT_MAPWR_L_ENTRY_L fXLT_MAPWR_H_ENTRY_H 0 ∧ eReserved e = false ∧ s.grantBad (eState (s.entry (s.rd fXLT_MAPIDX_INDEX 0))) e = 0
      ∧ s.xlt.waits = [])
    ∧ (∃ (s : State) (val : Nat) (e : Nat), val < 2 ^ 32 ∧ bitsOf val 24 8 = 0x3C ∧ bitsOf val 0 3 = 1 ∧ bitOf val 3 = true ∧ bitOf val 4 = false
      ∧ e = s.rd2 fXLT_MAPWR_L_ENTRY_L fXLT_MAPWR_H_ENTRY_H 0 ∧ eReserved e = false ∧ s.grantBad (eState (s.entry (s.rd fXLT_MAPIDX_INDEX 0))) e = 0
      ∧ s.xlt.waits = [])
    ∧ (∃ (s : State) (val : Nat) (e : Nat), val < 2 ^ 32 ∧ bitsOf val 24 8 = 0x3C ∧ bitsOf val 0 3 = 1 ∧ bitOf val 4 = false
      ∧ e = s.rd2 fXLT_MAPWR_L_ENTRY_L fXLT_MAPWR_H_ENTRY_H 0 ∧ eReserved e = false ∧ eState (s.entry (s.rd fXLT_MAPIDX_INDEX 0)) ≠ 0)
    ∧ (∃ (s : State) (val : Nat) (i : Nat), val < 2 ^ 32 ∧ bitsOf val 24 8 = 0x3C ∧ bitsOf val 0 3 = 2 ∧ bitOf val 4 = false
      ∧ s.rd fXLT_MAPIDX_INDEX 0 = i ∧ eState (s.entry i) = 2 ∧ s.releaseBad i 2 = 0 ∧ s.rdb fXLT_MAPSTAT_DRAIN 0 = false)
    ∧ (∃ (s : State) (val : Nat) (i : Nat), val < 2 ^ 32 ∧ bitsOf val 24 8 = 0x3C ∧ bitsOf val 0 3 = 2 ∧ bitOf val 4 = false
      ∧ s.rd fXLT_MAPIDX_INDEX 0 = i ∧ eState (s.entry i) = 1 ∧ s.releaseBad i 1 = 0)
    ∧ (∃ (s : State) (val : Nat) (err : Nat), val < 2 ^ 32 ∧ err < 4)
    ∧ (∃ (s : State) (val : Nat) (err : Nat), val < 2 ^ 32 ∧ err < 4 ∧ (bitsOf val 24 8 ≠ 0x3C ∨ bitsOf val 0 3 ≠ 1))
    ∧ (∃ (s : State) (val : Nat) (err : Nat), val < 2 ^ 32 ∧ err < 4 ∧ (bitsOf val 24 8 ≠ 0x3C ∨ bitsOf val 0 3 ≠ 2))
    ∧ (∃ (s : State) (val : Nat) (e : Nat), val < 2 ^ 32 ∧ bitsOf val 24 8 = 0x3C ∧ bitsOf val 0 3 = 1
      ∧ e = s.rd2 fXLT_MAPWR_L_ENTRY_L fXLT_MAPWR_H_ENTRY_H 0 ∧ eReserved e = true)
    ∧ (∃ (s : State) (val : Nat) (e : Nat) (r : Nat), val < 2 ^ 32 ∧ bitsOf val 24 8 = 0x3C ∧ bitsOf val 0 3 = 1
      ∧ e = s.rd2 fXLT_MAPWR_L_ENTRY_L fXLT_MAPWR_H_ENTRY_H 0 ∧ eReserved e = false ∧ bitOf val 4 = false
      ∧ s.grantBad (eState (s.entry (s.rd fXLT_MAPIDX_INDEX 0))) e = r ∧ 0 < r ∧ r < 16)
    ∧ (∃ (s : State) (val : Nat) (e : Nat), val < 2 ^ 32 ∧ bitsOf val 24 8 = 0x3C ∧ bitsOf val 0 3 = 1
      ∧ e = s.rd2 fXLT_MAPWR_L_ENTRY_L fXLT_MAPWR_H_ENTRY_H 0 ∧ eReserved e = false ∧ bitOf val 4 = true ∧ s.outOfRange 1 s.mapTime = true)
    ∧ (∃ (s : State) (val : Nat) (e : Nat), val < 2 ^ 32 ∧ bitsOf val 24 8 = 0x3C ∧ bitsOf val 0 3 = 1
      ∧ e = s.rd2 fXLT_MAPWR_L_ENTRY_L fXLT_MAPWR_H_ENTRY_H 0 ∧ eReserved e = false ∧ bitOf val 4 = true ∧ s.outOfRange 1 s.mapTime = false
      ∧ s.ft.now ≤ s.mapTime ∧ 64 ≤ s.xlt.timed.length)
    ∧ (∃ (s : State) (val : Nat) (r : Nat), val < 2 ^ 32 ∧ bitsOf val 24 8 = 0x3C ∧ bitsOf val 0 3 = 2 ∧ bitOf val 4 = false
      ∧ s.releaseBad (s.rd fXLT_MAPIDX_INDEX 0) (eState (s.entry (s.rd fXLT_MAPIDX_INDEX 0))) = r ∧ 0 < r ∧ r < 16)
    ∧ (∃ (s : State) (val : Nat), val < 2 ^ 32 ∧ bitsOf val 24 8 = 0x3C ∧ bitsOf val 0 3 = 2 ∧ bitOf val 4 = true ∧ s.outOfRange 2 s.mapTime = true)
    ∧ (∃ (s : State) (val : Nat), val < 2 ^ 32 ∧ bitsOf val 24 8 = 0x3C ∧ bitsOf val 0 3 = 2 ∧ bitOf val 4 = true ∧ s.outOfRange 2 s.mapTime = false
      ∧ s.ft.now ≤ s.mapTime ∧ s.xlt.timed.length < 64 ∧ s.claims < 256
      ∧ s.releaseBad (s.rd fXLT_MAPIDX_INDEX 0) (s.stateAt (s.rd fXLT_MAPIDX_INDEX 0) s.mapTime) = 0)
    ∧ (∃ (s : State) (i : Nat) (ok : Bool), i < 2 ^ 18 ∧ (∀ w ∈ s.xlt.waits, w.idx ≠ i ∨ w.zeroing = false))
    ∧ (∃ (s : State) (i : Nat) (w : PendMap), i < 2 ^ 18 ∧ s.xlt.waits = [w] ∧ w.idx = i ∧ w.zeroing = true ∧ w.timed = false
      ∧ (s.zeroWrites i).1 = true)
    ∧ (∃ (s : State) (i : Nat) (w : PendMap) (ok : Bool), i < 2 ^ 18 ∧ s.xlt.waits = [w] ∧ w.idx = i ∧ w.zeroing = true
      ∧ (ok = false ∨ (s.zeroWrites i).1 = false))
    ∧ (∃ (s : State) (i : Nat), s.rdb fXLT_MAPSTAT_DRAIN 0 = true ∧ s.genCount s.oldGen = 0 ∧ s.xlt.relNow = [i] ∧ s.xlt.relNext = [])
    ∧ (∃ (s : State), (s.genCount s.oldGen ≠ 0 ∨ s.rdb fXLT_MAPSTAT_DRAIN 0 = false))
    ∧ (∃ (s : State) (val : Nat), val < 2 ^ 32)
    ∧ (∃ (s : State) (val : Nat), val < 2 ^ 32 ∧ s.groupRefs (s.rd fXLT_SGSEL_GROUP 0) = 0)
    ∧ (∃ (s : State) (val : Nat), val < 2 ^ 32 ∧ s.groupRefs (s.rd fXLT_SGSEL_GROUP 0) ≠ 0) :=
  ⟨⟨put ({ xlt := { pool := [(0, { committed := true, caps := [1] })] } } : State) [(fXLT_POOLPORT_POOL, 0, 1)], 1006632961,
      ((put ({ xlt := { pool := [(0, { committed := true, caps := [1] })] } } : State) [(fXLT_POOLPORT_POOL, 0,
      1)]).rd2 fXLT_MAPWR_L_ENTRY_L fXLT_MAPWR_H_ENTRY_H 0), by decide +kernel⟩,
    ⟨put ({ xlt := { pool := [(0, { committed := true, caps := [1] })] } } : State) [(fXLT_POOLPORT_POOL, 0, 1)], 1006632969,
      ((put ({ xlt := { pool := [(0, { committed := true, caps := [1] })] } } : State) [(fXLT_POOLPORT_POOL, 0,
      1)]).rd2 fXLT_MAPWR_L_ENTRY_L fXLT_MAPWR_H_ENTRY_H 0), by decide +kernel⟩,
    ⟨{ xlt := { map := [(0, 2)] } : State }, 1006632961, (({ xlt := { map := [(0, 2)] } : State }).rd2 fXLT_MAPWR_L_ENTRY_L fXLT_MAPWR_H_ENTRY_H 0),
      by decide +kernel⟩,
    ⟨put ({ xlt := { map := [(0, 2)] } : State }) [(fXLT_MAPSTAT_DRAIN, 0, 0), (fXLT_MAPIDX_INDEX, 0, 0)], 1006632962, 0, by decide +kernel⟩,
    ⟨put ({ xlt := { map := [(0, 1)] } : State }) [(fXLT_MAPIDX_INDEX, 0, 0)], 1006632962, 0, by decide +kernel⟩,
    ⟨State.reset, 0, 0, by decide +kernel⟩,
    ⟨put ({ xlt := { map := [(0, 1)] } : State }) [(fXLT_MAPIDX_INDEX, 0, 0)], 1006632962, 0, by decide +kernel⟩,
    ⟨{ xlt := { waits := [{ idx := 0, zeroing := true }] } : State }, 0, 0, by decide +kernel⟩,
    ⟨put State.reset [(fXLT_MAPWR_L_ENTRY_L, 0, 32)], 1006632961, (put State.reset [(fXLT_MAPWR_L_ENTRY_L, 0,
      32)]).rd2 fXLT_MAPWR_L_ENTRY_L fXLT_MAPWR_H_ENTRY_H 0, by decide +kernel⟩,
    ⟨{ xlt := { map := [(0, 2)] } : State }, 1006632961, (({ xlt := { map := [(0, 2)] } : State }).rd2 fXLT_MAPWR_L_ENTRY_L fXLT_MAPWR_H_ENTRY_H 0),
      3, by decide +kernel⟩,
    ⟨put State.reset [(fXLT_MAPTIME_SECL_SECL, 0, 1000000)], 1006632977, (put State.reset [(fXLT_MAPTIME_SECL_SECL, 0,
      1000000)]).rd2 fXLT_MAPWR_L_ENTRY_L fXLT_MAPWR_H_ENTRY_H 0, by decide +kernel⟩,
    ⟨{ xlt := { timed := List.replicate 64 { at_ := 5, idx := 0, op := 1, zero := false, entry := 0 } } : State }, 1006632977,
      ({ xlt := { timed := List.replicate 64 { at_ := 5, idx := 0, op := 1, zero := false, entry := 0 } } : State }).rd2 fXLT_MAPWR_L_ENTRY_L fXLT_MAPWR_H_ENTRY_H 0,
      by decide +kernel⟩,
    ⟨put ({ xlt := { pool := [(0, { committed := true, caps := [1] })] } } : State) [(fXLT_POOLPORT_POOL, 0, 1)], 1006632962, 3, by decide +kernel⟩,
    ⟨put State.reset [(fXLT_MAPTIME_SECL_SECL, 0, 1000000)], 1006632978, by decide +kernel⟩,
    ⟨{ xlt := { map := [(0, 2)] } : State }, 1006632978, by decide +kernel⟩,
    ⟨{ xlt := { waits := [{ idx := 0, zeroing := true }] } : State }, 199, false, by decide +kernel⟩,
    ⟨put ({ xlt := { map := [(0, 1)], waits := [{ idx := 0, zeroing := true }], pool := [(0, { committed := true, caps := [1] })] } : State }) [(fCHK_GATE_MISS,
      64, 1), (fCHK_GATE_MISS, 0, 1), (fPRT_PORTSTAT_DLACTIVE, 0, 1), (fPRT_PORTCFG_ENABLE, 0, 1)], 0, ({ idx := 0, zeroing := true } : PendMap),
      by decide +kernel⟩,
    ⟨{ xlt := { waits := [{ idx := 0, zeroing := true }] } : State }, 0, ({ idx := 0, zeroing := true } : PendMap), false, by decide +kernel⟩,
    ⟨put ({ xlt := { relNow := [0], relNext := [] } : State }) [(fXLT_MAPSTAT_DRAIN, 0, 1)], 0, by decide +kernel⟩,
    ⟨{ swc := { msgs := [{ id := 0, m := { kind := .ioPosted, gen := some 1 }, x := 0, cells := 1, whole := true, place := .shared, eg := 0, refs := 1 }] } : State },
      by decide +kernel⟩,
    ⟨State.reset, 0, by decide +kernel⟩,
    ⟨State.reset, 0, by decide +kernel⟩,
    ⟨{ xlt := { map := [(0, 6)] } : State }, 0, by decide +kernel⟩⟩

/-- States and operands that meet the hypotheses of `Obligations.PoolAndWindows`, clause by clause. -/
theorem witness_PoolAndWindows :
    (∃ (s : State) (k : Nat) (val : Nat), k < 2 ∧ val < 2 ^ 32 ∧ ((setBits 32 val).all fun i => s.mayPool (32 * k + i)) = true)
    ∧ (∃ (s : State) (k : Nat) (val : Nat), k < 2 ∧ val < 2 ^ 32 ∧ ((setBits 32 val).all fun i => s.mayPool (32 * k + i)) = false)
    ∧ (∃ (s : State) (p : Nat) (mld : Bool) (caps : List Nat) (m : Msg), p < 64 ∧ s.isPool p = true ∧ s.dlUp p = true
      ∧ m = { kind := .ioNonPosted, act := .cfgWrite, node := s.ownNode, snode := s.ownNode, src := 0x7F, dest := p, addr := (Config.enumAddr p).toNat, tgt := (Config.enumAddr p).toNat }
      ∧ (s.verdict p false ((Config.enumAddr p).toNat / 64) (whoOf m)).1 ≠ 0)
    ∧ (∃ (s : State) (p : Nat) (mld : Bool) (caps : List Nat), p < 64 ∧ s.isPool p = true ∧ s.dlUp p = true ∧ (∀ m : Msg,
      m = { kind := .ioNonPosted, act := .cfgWrite, node := s.ownNode, snode := s.ownNode, src := 0x7F, dest := p, addr := (Config.enumAddr p).toNat, tgt := (Config.enumAddr p).toNat } → (s.verdict p false ((Config.enumAddr p).toNat / 64) (whoOf m)).1 = 0))
    ∧ (∃ (s : State) (p : Nat) (mld : Bool) (caps : List Nat), p < 64 ∧ (s.isPool p = false ∨ s.dlUp p = false))
    ∧ (∃ (s : State) (p : Nat) (d : Nat) (base : Nat) (size : Nat) (ways : Nat) (gran : Nat) (targets : List Nat) (commit : Bool), p < 64 ∧ d < 16
      ∧ s.upstream p = true ∧ s.rdb fXLT_HDMX_FAB (16 * p + d) = false ∧ bitOf s.pwr.culvert (tileOfPort p) = false)
    ∧ (∃ (s : State) (p : Nat) (d : Nat) (base : Nat) (size : Nat) (ways : Nat) (gran : Nat) (targets : List Nat), p < 64 ∧ d < 16
      ∧ s.upstream p = true ∧ s.rdb fXLT_HDMX_FAB (16 * p + d) = true ∧ bitOf s.pwr.culvert (tileOfPort p) = false)
    ∧ (∃ (s : State) (p : Nat) (d : Nat) (base : Nat) (size : Nat) (ways : Nat) (gran : Nat) (targets : List Nat) (commit : Bool), p < 64 ∧ d < 16
      ∧ (s.upstream p = false ∨ bitOf s.pwr.culvert (tileOfPort p) = true))
    ∧ (∃ (s : State) (p : Nat) (ld : Nat) (dpa : Nat) (len : Nat), p < 64 ∧ ld < 16 ∧ s.isPool p = false)
    ∧ (∃ (s : State) (p : Nat) (ld : Nat) (dpa : Nat) (len : Nat), p < 64 ∧ ld < 16 ∧ dpa % 2 ^ 28 = 0 ∧ len % 2 ^ 28 = 0 ∧ s.isPool p = true)
    ∧ (∃ (s : State) (p : Nat) (ld : Nat) (dpa : Nat) (len : Nat), p < 64 ∧ ld < 16 ∧ (dpa % 2 ^ 28 ≠ 0 ∨ len % 2 ^ 28 ≠ 0) ∧ s.isPool p = true)
    ∧ (∃ (s : State) (p : Nat) (ld : Nat) (dpa : Nat) (len : Nat) (x : Nat), p < 64 ∧ ld < 16 ∧ s.isPool p = true ∧ x ∈ wholeExtents dpa len ∧ (ld,
      x) ∈ (s.poolDev p).dcd ∧ s.pointing p ld x = [])
    ∧ (∃ (s : State) (p : Nat) (ld : Nat) (x : Nat) (i : Nat) (e : Nat), p < 64 ∧ ld < 16 ∧ s.xlt.map = [(i, e)] ∧ eState e = 2
      ∧ s.pointing p ld x = [i])
    ∧ (∃ (s : State) (p : Nat) (ld : Nat) (dpa : Nat) (len : Nat), p < 64 ∧ ld < 16 ∧ (∀ x,
      dpa / 2 ^ 28 ≤ x → x < ceilDiv (dpa + len) (2 ^ 28) → s.pointing p ld x = []))
    ∧ (∃ (s : State) (p : Nat) (val : Nat), p < 64 ∧ val < 2 ^ 32
      ∧ (bitOf s.pwr.culvert (tileOfPort p) = true ∨ bitsOf val 24 8 ≠ 0xE1 ∨ bitOf val 0 = false ∨ s.rdb fXLT_WSTAT_PEND p = true))
    ∧ (∃ (s : State) (p : Nat) (val : Nat) (at_ : Nat), p < 64 ∧ val < 2 ^ 32 ∧ bitOf s.pwr.culvert (tileOfPort p) = false ∧ bitsOf val 24 8 = 0xE1
      ∧ bitOf val 0 = true ∧ bitOf val 1 = true ∧ s.rdb fXLT_WSTAT_PEND p = false
      ∧ at_ = applyTime (s.rd fXLT_WCTIME_NS_NS 0) (s.rd fXLT_WCTIME_SECL_SECL 0) (s.rd fXLT_WCTIME_SECH_SECH 0) ∧ at_ ≤ s.ft.now)
    ∧ (∃ (s : State) (p : Nat) (val : Nat) (at_ : Nat), p < 64 ∧ val < 2 ^ 32 ∧ bitOf s.pwr.culvert (tileOfPort p) = false ∧ bitsOf val 24 8 = 0xE1
      ∧ bitOf val 0 = true ∧ bitOf val 1 = true ∧ s.rdb fXLT_WSTAT_PEND p = false
      ∧ at_ = applyTime (s.rd fXLT_WCTIME_NS_NS 0) (s.rd fXLT_WCTIME_SECL_SECL 0) (s.rd fXLT_WCTIME_SECH_SECH 0) ∧ s.ft.now + 86400 * nsPerSec < at_)
    ∧ (∃ (s : State) (p : Nat) (val : Nat) (at_ : Nat), p < 64 ∧ val < 2 ^ 32 ∧ bitOf s.pwr.culvert (tileOfPort p) = false ∧ bitsOf val 24 8 = 0xE1
      ∧ bitOf val 0 = true ∧ bitOf val 1 = true ∧ s.rdb fXLT_WSTAT_PEND p = false
      ∧ at_ = applyTime (s.rd fXLT_WCTIME_NS_NS 0) (s.rd fXLT_WCTIME_SECL_SECL 0) (s.rd fXLT_WCTIME_SECH_SECH 0) ∧ s.ft.now < at_
      ∧ at_ ≤ s.ft.now + 86400 * nsPerSec ∧ 256 ≤ s.claims)
    ∧ (∃ (s : State) (p : Nat) (val : Nat) (at_ : Nat), p < 64 ∧ val < 2 ^ 32 ∧ bitOf s.pwr.culvert (tileOfPort p) = false ∧ bitsOf val 24 8 = 0xE1
      ∧ bitOf val 0 = true ∧ bitOf val 1 = true ∧ s.rdb fXLT_WSTAT_PEND p = false
      ∧ at_ = applyTime (s.rd fXLT_WCTIME_NS_NS 0) (s.rd fXLT_WCTIME_SECL_SECL 0) (s.rd fXLT_WCTIME_SECH_SECH 0) ∧ s.ft.now < at_
      ∧ at_ ≤ s.ft.now + 86400 * nsPerSec ∧ s.claims < 256)
    ∧ (∃ (s : State) (p : Nat), p < 64 ∧ s.rdb fXLT_WSTAT_BUSY p = false)
    ∧ (∃ (s : State) (p : Nat), p < 64 ∧ (s.rdb fXLT_WSTAT_DRAIN p = false ∨ s.winCount p (1 - s.rd fXLT_WSTAT_GEN p) ≠ 0))
    ∧ (∃ (s : State) (p : Nat), p < 64 ∧ s.rdb fXLT_WSTAT_DRAIN p = true ∧ s.winCount p (1 - s.rd fXLT_WSTAT_GEN p) = 0)
    ∧ (∃ (s : State) (p : Nat) (val : Nat), p < 64 ∧ val < 2 ^ 32 ∧ bitOf s.pwr.culvert (tileOfPort p) = false ∧ bitsOf val 24 8 = 0xE1
      ∧ bitOf val 0 = true ∧ bitOf val 1 = false ∧ s.rdb fXLT_WSTAT_PEND p = false ∧ s.rdb fXLT_WSTAT_DRAIN p = false
      ∧ s.rdb fXLT_WSTAT_BUSY p = false)
    ∧ (∃ (s : State) (p : Nat) (val : Nat), p < 64 ∧ val < 2 ^ 32 ∧ bitOf s.pwr.culvert (tileOfPort p) = false ∧ bitsOf val 24 8 = 0xE1
      ∧ bitOf val 0 = true ∧ bitOf val 1 = false ∧ s.rdb fXLT_WSTAT_PEND p = false ∧ s.rdb fXLT_WSTAT_BUSY p = true)
    ∧ (∃ (s : State) (p : Nat), p < 64 ∧ s.rdb fXLT_WSTAT_BUSY p = true ∧ s.rdb fXLT_WSTAT_PEND p = false)
    ∧ (∃ (s : State) (p : Nat), p < 64 ∧ s.rdb fXLT_WSTAT_DRAIN p = true ∧ s.rdb fXLT_WSTAT_PEND p = false
      ∧ s.winCount p (1 - s.rd fXLT_WSTAT_GEN p) = 0) :=
  ⟨⟨State.reset, 0, 0, by decide +kernel⟩,
    ⟨State.reset, 0, 1, by decide +kernel⟩,
    ⟨put State.reset [(fPRT_PORTSTAT_DLACTIVE, 0, 1), (fXLT_POOLPORT_POOL, 0, 1), (fCHK_GATE_FAILED, 0, 1)], 0, false, [],
      { kind := .ioNonPosted, act := .cfgWrite, node := (put State.reset [(fPRT_PORTSTAT_DLACTIVE, 0, 1), (fXLT_POOLPORT_POOL, 0, 1), (fCHK_GATE_FAILED, 0, 1)]).ownNode, snode := (put State.reset [(fPRT_PORTSTAT_DLACTIVE, 0, 1), (fXLT_POOLPORT_POOL, 0, 1), (fCHK_GATE_FAILED, 0, 1)]).ownNode, src := 0x7F, dest := 0, addr := (Config.enumAddr 0).toNat, tgt := (Config.enumAddr 0).toNat },
      by and_intros <;> first | decide +kernel | rfl | (simp only [State.verdict]; decide +kernel)⟩,
    ⟨put State.reset [(fPRT_PORTSTAT_DLACTIVE, 0, 1), (fXLT_POOLPORT_POOL, 0, 1), (fCHK_GATE_MISS, 0, 1)], 0, false, [],
      by and_intros <;> first | decide +kernel | (intro m _; rfl)⟩,
    ⟨State.reset, 0, false, [], by decide +kernel⟩,
    ⟨put (State.reset) [(fPRT_PORTCFG_ENABLE, 0, 1), (fPRT_PORTCFG_ROLE, 0, 1), (fXLT_HDMX_FAB, (16 * 0 + 0), 0)], 0, 0, 0, 0, 0, 0, [], false,
      by decide +kernel⟩,
    ⟨put (State.reset) [(fXLT_HDMX_FAB, 0, 1), (fPRT_PORTCFG_ENABLE, 0, 1), (fPRT_PORTCFG_ROLE, 0, 1), (fXLT_HDMX_FAB, (16 * 0 + 0), 0)], 0, 0, 0, 0,
      0, 0, [], by decide +kernel⟩,
    ⟨put (State.reset) [(fXLT_WSTAT_BUSY, 0, 1), (fXLT_WSTAT_PEND, 0, 0)], 0, 0, 0, 0, 0, 0, [], false, by decide +kernel⟩,
    ⟨State.reset, 0, 0, 0, 0, by decide +kernel⟩,
    ⟨put (State.reset) [(fXLT_POOLPORT_POOL, 0, 1)], 0, 0, 0, 0, by decide +kernel⟩,
    ⟨put (State.reset) [(fXLT_POOLPORT_POOL, 0, 63), (fPRT_PORTCFG_ENABLE, 0, 1), (fPRT_PORTCFG_ROLE, 0, 1), (fXLT_HDMX_FAB, (16 * 0 + 0), 0)], 0, 0,
      113, 0, by decide +kernel⟩,
    ⟨put ({ xlt := { pool := [(0, { dcd := [(0, 0)] })] } : State }) [(fXLT_POOLPORT_POOL, 0, 3)], 0, 0, 0, 2 ^ 28, 0, by decide +kernel⟩,
    ⟨{ xlt := { map := [(0, 0x12)] } : State }, 0, 0, 0, 0, 0x12, by decide +kernel⟩,
    ⟨State.reset, 0, 0, 0, 0, by and_intros <;> first | decide +kernel | (intro x h1 h2; exact absurd h2 (by simp [ceilDiv]))⟩,
    ⟨{ xlt := { map := [(0, 0x12)] } : State }, 0, 0, by decide +kernel⟩,
    ⟨State.reset, 0, 3774873603, 0, by decide +kernel⟩,
    ⟨put State.reset [(fXLT_WCTIME_SECL_SECL, 0, 1000000)], 0, 3774873603, 1000000 * nsPerSec, by and_intros <;> first | decide +kernel | rfl⟩,
    ⟨put { tnd := { timed := (List.range 256).map fun i => { seq := 0, at_ := i + 1, orig := 0, cmd := { who := { path := 0, mac := 1, port := 0, tag := 1 }, op := 2, index := 0x1000, sub := 0 } } } : State } [(fXLT_WCTIME_NS_NS,
      0, 5)], 0, 3774873603, 5, by decide +kernel⟩,
    ⟨put State.reset [(fXLT_WCTIME_NS_NS, 0, 5)], 0, 3774873603, 5, by decide +kernel⟩,
    ⟨put (State.reset) [(fXLT_WSTAT_DRAIN, 0, 1), (fXLT_WSTAT_PEND, 0, 0)], 0, by decide +kernel⟩,
    ⟨put (State.reset) [(fXLT_WSTAT_BUSY, 0, 1), (fXLT_WSTAT_PEND, 0, 0)], 0, by decide +kernel⟩,
    ⟨put (State.reset) [(fXLT_WSTAT_DRAIN, 0, 1), (fXLT_WSTAT_PEND, 0, 0)], 0, by decide +kernel⟩,
    ⟨put (State.reset) [(fXLT_WSTAT_PEND, 0, 0), (fXLT_WSTAT_DRAIN, 0, 0), (fXLT_WSTAT_BUSY, 0, 0)], 0, 3774873601, by decide +kernel⟩,
    ⟨put (State.reset) [(fXLT_WSTAT_PEND, 0, 0), (fXLT_WSTAT_BUSY, 0, 1)], 0, 3774873601, by decide +kernel⟩,
    ⟨put (State.reset) [(fXLT_WSTAT_BUSY, 0, 1), (fXLT_WSTAT_PEND, 0, 0)], 0, by decide +kernel⟩,
    ⟨put (State.reset) [(fXLT_WSTAT_DRAIN, 0, 1), (fXLT_WSTAT_PEND, 0, 0)], 0, by decide +kernel⟩⟩

/-- States and operands that meet the hypotheses of `Obligations.GateRules`, clause by clause. -/
theorem witness_GateRules :
    (∃ (s : State) (val : Nat), val < 2 ^ 32 ∧ s.rdb fCHK_RSEL_COPY 0 = false ∧ s.stagingShut (s.rd fCHK_RSEL_GATE 0) = false)
    ∧ (∃ (s : State) (val : Nat), val < 2 ^ 32 ∧ (s.rdb fCHK_RSEL_COPY 0 = true ∨ s.stagingShut (s.rd fCHK_RSEL_GATE 0) = true))
    ∧ (∃ (s : State) (val : Nat), val < 2 ^ 32 ∧ bitsOf val 24 8 = 0x5C ∧ bitsOf val 0 7 ≤ 64 ∧ s.stagingShut (bitsOf val 0 7) = false)
    ∧ (∃ (s : State) (val : Nat), val < 2 ^ 32 ∧ (bitsOf val 24 8 ≠ 0x5C ∨ 64 < bitsOf val 0 7))
    ∧ (∃ (s : State) (val : Nat), val < 2 ^ 32 ∧ bitsOf val 24 8 = 0x5C ∧ bitsOf val 0 7 ≤ 64 ∧ s.stagingShut (bitsOf val 0 7) = true)
    ∧ (∃ (s : State) (val : Nat), val < 2 ^ 32 ∧ (bitsOf val 24 8 ≠ 0x5C ∨ bitsOf val 0 2 ≠ 1 ∨ s.chk.checking.isSome = true))
    ∧ (∃ (s : State) (val : Nat), val < 2 ^ 32 ∧ (bitsOf val 24 8 ≠ 0x5C ∨ bitsOf val 0 2 ≠ 2 ∨ s.chk.checking.isSome = true))
    ∧ (∃ (s : State) (val : Nat), val < 2 ^ 32 ∧ bitsOf val 24 8 = 0x5C ∧ bitsOf val 0 2 = 1 ∧ bitOf val 2 = true ∧ s.chk.checking = none
      ∧ s.chk.pend.length < 16 ∧ s.maskGates.any s.gateTaken = false ∧ s.ft.now + 86400 * nsPerSec < s.chkTime)
    ∧ (∃ (s : State) (val : Nat), val < 2 ^ 32 ∧ bitsOf val 24 8 = 0x5C ∧ bitsOf val 0 2 = 1 ∧ bitOf val 2 = true ∧ s.chk.checking = none
      ∧ s.chk.pend.length < 16 ∧ s.maskGates.any s.gateTaken = false ∧ s.chkTime ≤ s.ft.now + 86400 * nsPerSec ∧ 256 ≤ s.claims)
    ∧ (∃ (s : State) (val : Nat), val < 2 ^ 32 ∧ bitsOf val 24 8 = 0x5C ∧ bitsOf val 0 2 = 1 ∧ bitOf val 2 = true ∧ s.chk.checking = none
      ∧ s.chk.pend.length < 16 ∧ s.maskGates.any s.gateTaken = false ∧ s.chkTime ≤ s.ft.now + 86400 * nsPerSec ∧ s.claims < 256)
    ∧ (∃ (s : State), s.chk.checking = none)
    ∧ (∃ (s : State) (t : State) (c : ChkCommit) (at_ : Nat), s.chk.checking = some c ∧ c.at_ = some at_ ∧ s.stagedBad c.gates = none
      ∧ t = State.wrb { s with chk := { s.chk with checking := none } } fCHK_LOADSTAT_BUSY 0 false ∧ 256 ≤ t.claims)
    ∧ (∃ (s : State) (g : Nat), g < 65 ∧ (s.rdb fCHK_GATE_DRAIN g = false ∨ s.oldSet g ≠ 0))
    ∧ (∃ (s : State) (g : Nat), g < 65 ∧ s.rdb fCHK_GATE_DRAIN g = true ∧ s.oldSet g = 0)
    ∧ (∃ (s : State) (g : Nat), g < 65 ∧ s.rdb fCHK_GATE_SBUSY g = false)
    ∧ (∃ (s : State) (g : Nat) (err : Nat), g < 65 ∧ err < 4)
    ∧ (∃ (s : State) (val : Nat), val < 2 ^ 32 ∧ bitsOf val 24 8 = 0x5C ∧ bitsOf val 0 2 = 1 ∧ bitOf val 2 = false ∧ s.chk.checking = none
      ∧ s.chk.pend.length < 16 ∧ s.maskGates.any s.gateTaken = false)
    ∧ (∃ (s : State) (val : Nat), val < 2 ^ 32 ∧ bitsOf val 24 8 = 0x5C ∧ bitsOf val 0 2 = 1 ∧ s.chk.checking = none
      ∧ (16 ≤ s.chk.pend.length ∨ s.maskGates.any s.gateTaken = true))
    ∧ (∃ (s : State) (c : ChkCommit) (at_ : Nat), s.chk.checking = some c ∧ c.at_ = some at_ ∧ s.stagedBad c.gates = none ∧ s.chk.pend.length < 16
      ∧ c.tag < 16 ∧ s.claims < 256)
    ∧ (∃ (s : State) (c : ChkCommit) (g : Nat), s.chk.checking = some c ∧ c.at_ = none ∧ c.gates = [g] ∧ s.stagedBad [g] = none
      ∧ s.rdb fCHK_GATE_DRAIN g = false ∧ s.chk.pend = [])
    ∧ (∃ (s : State) (c : ChkCommit) (g : Nat) (r : Nat) (a : Nat) (b : Nat), s.chk.checking = some c ∧ s.stagedBad c.gates = some (g, r, a, b)
      ∧ r < 16 ∧ g < 128 ∧ a < 4096 ∧ b < 4096)
    ∧ (∃ (s : State) (val : Nat) (c : ChkCommit), val < 2 ^ 32 ∧ bitsOf val 24 8 = 0x5C ∧ bitsOf val 0 2 = 2 ∧ s.chk.checking = none
      ∧ s.chk.pend = [c] ∧ c.tag = bitsOf val 4 4)
    ∧ (∃ (s : State) (val : Nat), val < 2 ^ 32 ∧ bitsOf val 24 8 = 0x5C ∧ bitsOf val 0 2 = 2 ∧ s.chk.checking = none ∧ (∀ c ∈ s.chk.pend,
      c.tag ≠ bitsOf val 4 4))
    ∧ (∃ (s : State) (g : Nat), g < 65 ∧ s.rdb fCHK_GATE_DRAIN g = true ∧ s.oldSet g = 0 ∧ s.chk.pend = [])
    ∧ (∃ (s : State) (g : Nat), g < 65 ∧ s.rdb fCHK_GATE_SBUSY g = true)
    ∧ (∃ (s : State) (g : Nat), g < 65) :=
  ⟨⟨put (State.reset) [(fCHK_RSEL_COPY, 0, 0)], 0, by decide +kernel⟩,
    ⟨put (State.reset) [(fCHK_RSEL_COPY, 0, 1)], 0, by decide +kernel⟩,
    ⟨State.reset, 1543503872, by decide +kernel⟩,
    ⟨put ({ chk := { checking := none, pend := [{ tag := 0, gates := [0], at_ := some 5 }] } : State }) [(fCHK_CMASK_GATES, 0, 1)], 199,
      by decide +kernel⟩,
    ⟨put State.reset [(fCHK_GATE_SBUSY, 0, 1)], 1543503872, by decide +kernel⟩,
    ⟨put ({ chk := { checking := none, pend := [{ tag := 0, gates := [0], at_ := some 5 }] } : State }) [(fCHK_CMASK_GATES, 0, 1)], 199,
      by decide +kernel⟩,
    ⟨put ({ chk := { checking := none, pend := [{ tag := 0, gates := [0], at_ := some 5 }] } : State }) [(fCHK_CMASK_GATES, 0, 1)], 1543503873,
      by decide +kernel⟩,
    ⟨put State.reset [(fCHK_CTIME_SECL_SECL, 0, 1000000)], 1543503877, by decide +kernel⟩,
    ⟨{ tnd := { timed := (List.range 256).map fun i => { seq := 0, at_ := i + 1, orig := 0, cmd := { who := { path := 0, mac := 1, port := 0, tag := 1 }, op := 2, index := 0x1000, sub := 0 } } } : State },
      1543503877, by decide +kernel⟩,
    ⟨State.reset, 1543503877, by decide +kernel⟩,
    ⟨{ chk := { checking := none } : State }, by decide +kernel⟩,
    ⟨{ chk := { checking := some ({ tag := 0, gates := [0], at_ := some 5 } : ChkCommit) }, tnd := { timed := (List.range 256).map fun i => { seq := 0, at_ := i + 1, orig := 0, cmd := { who := { path := 0, mac := 1, port := 0, tag := 1 }, op := 2, index := 0x1000, sub := 0 } } } : State },
      State.wrb { ({ chk := { checking := some ({ tag := 0, gates := [0], at_ := some 5 } : ChkCommit) }, tnd := { timed := (List.range 256).map fun i => { seq := 0, at_ := i + 1, orig := 0, cmd := { who := { path := 0, mac := 1, port := 0, tag := 1 }, op := 2, index := 0x1000, sub := 0 } } } : State }) with chk := { ({ chk := { checking := some ({ tag := 0, gates := [0], at_ := some 5 } : ChkCommit) }, tnd := { timed := (List.range 256).map fun i => { seq := 0, at_ := i + 1, orig := 0, cmd := { who := { path := 0, mac := 1, port := 0, tag := 1 }, op := 2, index := 0x1000, sub := 0 } } } : State }).chk with checking := none } } fCHK_LOADSTAT_BUSY 0 false,
      ({ tag := 0, gates := [0], at_ := some 5 } : ChkCommit), 5, by decide +kernel⟩,
    ⟨put ({ chk := { checking := some (({ tag := 0, gates := [0], at_ := none } : ChkCommit)), pend := [] } : State }) [(fCHK_GATE_DRAIN, 0, 0)], 0,
      by decide +kernel⟩,
    ⟨put ({ chk := { pend := [] } : State }) [(fCHK_GATE_DRAIN, 0, 1)], 0, by decide +kernel⟩,
    ⟨put ({ chk := { checking := some (({ tag := 0, gates := [0], at_ := none } : ChkCommit)), pend := [] } : State }) [(fCHK_GATE_DRAIN, 0, 0)], 0,
      by decide +kernel⟩,
    ⟨State.reset, 0, 0, by decide +kernel⟩,
    ⟨{ chk := { checking := none } : State }, 1543503873, by decide +kernel⟩,
    ⟨put ({ chk := { checking := none, pend := [{ tag := 0, gates := [0], at_ := some 5 }] } : State }) [(fCHK_CMASK_GATES, 0, 1)], 1543503873,
      by decide +kernel⟩,
    ⟨{ chk := { checking := some ({ tag := 0, gates := [0], at_ := some 5 } : ChkCommit) } : State },
      ({ tag := 0, gates := [0], at_ := some 5 } : ChkCommit), 5, by decide +kernel⟩,
    ⟨put ({ chk := { checking := some (({ tag := 0, gates := [0], at_ := none } : ChkCommit)), pend := [] } : State }) [(fCHK_GATE_DRAIN, 0, 0)],
      ({ tag := 0, gates := [0], at_ := none } : ChkCommit), 0, by decide +kernel⟩,
    ⟨{ chk := { checking := some ({ tag := 0, gates := [0], at_ := none } : ChkCommit), staged := [(0, 2 ^ 128 + 2 ^ 6)] } : State },
      ({ tag := 0, gates := [0], at_ := none } : ChkCommit), 0, 4, 0, 0, by decide +kernel⟩,
    ⟨{ chk := { checking := none, pend := [(({ tag := 0, gates := [0], at_ := none } : ChkCommit))] } : State }, 1543503874,
      ({ tag := 0, gates := [0], at_ := none } : ChkCommit), by decide +kernel⟩,
    ⟨{ chk := { checking := none } : State }, 1543503874, by decide +kernel⟩,
    ⟨put ({ chk := { pend := [] } : State }) [(fCHK_GATE_DRAIN, 0, 1)], 0, by decide +kernel⟩,
    ⟨put (State.reset) [(fCHK_GATE_SBUSY, 0, 1)], 0, by decide +kernel⟩,
    ⟨State.reset, 0, by decide +kernel⟩⟩

/-- States and operands that meet the hypotheses of `Obligations.DescriptorsStart`, clause by clause. -/
theorem witness_DescriptorsStart :
    (∃ (s : State) (r : Nat) (d : Nat) (rest : List Nat), s.nextDesc r d rest ∧ dOp d = 0)
    ∧ (∃ (s : State) (r : Nat) (d : Nat) (rest : List Nat), s.nextDesc r d rest ∧ dOp d = 1)
    ∧ (∃ (s : State) (r : Nat) (d : Nat) (rest : List Nat), s.nextDesc r d rest ∧ dOp d = 2)
    ∧ (∃ (s : State) (r : Nat) (d : Nat) (rest : List Nat), s.nextDesc r d rest ∧ dOp d = 3 ∧ dMcast d = false)
    ∧ (∃ (s : State) (r : Nat) (d : Nat) (rest : List Nat), s.nextDesc r d rest ∧ dOp d = 3 ∧ dMcast d = true)
    ∧ (∃ (s : State) (r : Nat) (d : Nat) (rest : List Nat), s.nextDesc r d rest ∧ dOp d = 4)
    ∧ (∃ (s : State) (r : Nat) (d : Nat) (rest : List Nat), s.nextDesc r d rest ∧ dOp d = 5 ∧ dSub d = 0)
    ∧ (∃ (s : State) (r : Nat) (d : Nat) (rest : List Nat), s.nextDesc r d rest ∧ dOp d = 5 ∧ dSub d = 1)
    ∧ (∃ (s : State) (r : Nat) (d : Nat) (rest : List Nat), s.nextDesc r d rest ∧ dOp d = 5 ∧ dSub d = 2)
    ∧ (∃ (s : State) (r : Nat) (d : Nat) (rest : List Nat), s.nextDesc r d rest ∧ dOp d = 5 ∧ dSub d = 3)
    ∧ (∃ (s : State) (r : Nat) (d : Nat) (rest : List Nat), s.nextDesc r d rest ∧ dOp d = 6)
    ∧ (∃ (s : State) (r : Nat) (d : Nat) (rest : List Nat), isRing r = true ∧ (s.ring r).fetched = d :: rest ∧ s.rstate r = 2 ∧ s.cqFull r = false
      ∧ (s.ring r).live = [] ∧ s.portOfTenant (s.rd fRUN_RCTX0_OWNER r) = none ∧ descBad d 0 ≠ 0 ∧ dOp d = 1 ∧ dRel d = false ∧ dFence d = false
      ∧ s.rdb fVF_RING_STOPONERR (s.half r) = true)
    ∧ (∃ (s : State) (r : Nat) (c : Instr), c ∈ [Instr.nop r, .copy r, .fill r, .writei r, .writeiMcast r, .load r, .atomicFadd8 r, .atomicSwap8 r,
      .atomicCas8 r, .atomicCas16 r, .barrier r] ∧ isRing r = true ∧ ((s.ring r).fetched = [] ∨ s.rstate r ≠ 2 ∨ s.cqFull r = true))
    ∧ (∃ (s : State) (r : Nat), isRing r = true)
    ∧ (∃ (s : State) (e : Nat), s.engineStep e = none) :=
  ⟨⟨put ({ run := { rings := [(0, { fetched := [0] })] } : State }) [(fRUN_RCTX1_STATE, 0, 2)], 0, 0, [], by decide +kernel⟩,
    ⟨put ({ run := { rings := [(0, { fetched := [274877906945] })] } : State }) [(fRUN_RCTX1_STATE, 0, 2)], 0, 274877906945, [], by decide +kernel⟩,
    ⟨put ({ run := { rings := [(0, { fetched := [274877906946] })] } : State }) [(fRUN_RCTX1_STATE, 0, 2)], 0, 274877906946, [], by decide +kernel⟩,
    ⟨put ({ run := { rings := [(0, { fetched := [34359738371] })] } : State }) [(fRUN_RCTX1_STATE, 0, 2)], 0, 34359738371, [], by decide +kernel⟩,
    ⟨put ({ run := { rings := [(0, { fetched := [34359746563] })] } : State }) [(fRUN_RCTX1_STATE, 0, 2)], 0, 34359746563, [], by decide +kernel⟩,
    ⟨put ({ run := { rings := [(0, { fetched := [4] })] } : State }) [(fRUN_RCTX1_STATE, 0, 2)], 0, 4, [], by decide +kernel⟩,
    ⟨put ({ run := { rings := [(0, { fetched := [262149] })] } : State }) [(fRUN_RCTX1_STATE, 0, 2)], 0, 262149, [], by decide +kernel⟩,
    ⟨put ({ run := { rings := [(0, { fetched := [1310725] })] } : State }) [(fRUN_RCTX1_STATE, 0, 2)], 0, 1310725, [], by decide +kernel⟩,
    ⟨put ({ run := { rings := [(0, { fetched := [2359301] })] } : State }) [(fRUN_RCTX1_STATE, 0, 2)], 0, 2359301, [], by decide +kernel⟩,
    ⟨put ({ run := { rings := [(0, { fetched := [3407877] })] } : State }) [(fRUN_RCTX1_STATE, 0, 2)], 0, 3407877, [], by decide +kernel⟩,
    ⟨put ({ run := { rings := [(0, { fetched := [6] })] } : State }) [(fRUN_RCTX1_STATE, 0, 2)], 0, 6, [], by decide +kernel⟩,
    ⟨put ({ run := { rings := [(0, { fetched := [1] })] } } : State) [(fRUN_RCTX1_STATE, 0, 2), (fVF_RING_STOPONERR, 0, 1)], 0, 1, [],
      by decide +kernel⟩,
    ⟨State.reset, 0, .nop 0, by decide +kernel⟩,
    ⟨State.reset, 0, by decide +kernel⟩,
    ⟨State.reset, 0, by decide +kernel⟩⟩

/-- States and operands that meet the hypotheses of `Obligations.RunnelAccesses`, clause by clause. -/
theorem witness_RunnelAccesses :
    (∃ (s : State) (ring : Nat) (ds : List Nat) (a : RunAcc), isRing ring = true ∧ (ds.all fun d => decide (d < 2 ^ 512)) = true
      ∧ (s.run.accs.find? fun a => a.ring == ring && a.kind == .fetch) = some a ∧ a.orphan = false ∧ (s.acked a).rstate ring ≠ 5)
    ∧ (∃ (s : State) (ring : Nat) (ds : List Nat) (a : RunAcc), isRing ring = true ∧ (ds.all fun d => decide (d < 2 ^ 512)) = true
      ∧ (s.run.accs.find? fun a => a.ring == ring && a.kind == .fetch) = some a)
    ∧ (∃ (s : State) (entry : Nat) (w : Wc), (s.run.wc.find? fun w => w.id == entry && w.acc.isNone) = some w)
    ∧ (∃ (s : State) (ring : Nat) (ok : Bool) (ds : List Nat), isRing ring = true ∧ (ds.all fun d => decide (d < 2 ^ 512)) = true
      ∧ (s.run.accs.find? fun a => a.ring == ring && a.kind == .fetch) = none)
    ∧ (∃ (s : State) (ring : Nat) (ds : List Nat) (a : RunAcc), isRing ring = true ∧ (ds.all fun d => decide (d < 2 ^ 512)) = true
      ∧ (s.run.accs.find? fun a => a.ring == ring && a.kind == .fetch) = some a ∧ a.orphan = true)
    ∧ (∃ (s : State) (ring : Nat) (ds : List Nat) (a : RunAcc), isRing ring = true ∧ (ds.all fun d => decide (d < 2 ^ 512)) = true
      ∧ (s.run.accs.find? fun a => a.ring == ring && a.kind == .fetch) = some a ∧ a.orphan = false ∧ (s.acked a).rstate ring = 5)
    ∧ (∃ (s : State) (entry : Nat) (bad : Bool), (s.run.wc.find? fun w => w.id == entry && w.acc.isNone) = none)
    ∧ (∃ (s : State) (acc : Nat) (rule : Bool) (pairAt : Bool) (early : Bool) (devReg : Bool) (wto : Nat), wto < 256 ∧ s.acc acc = none)
    ∧ (∃ (s : State) (acc : Nat) (rule : Bool) (pairAt : Bool) (early : Bool) (devReg : Bool) (wto : Nat) (a : RunAcc), wto < 256 ∧ s.acc acc = some a
      ∧ a.m.node = s.ownNode ∧ a.m.dest < 0x40 ∧ a.told = none)
    ∧ (∃ (s : State) (acc : Nat) (rule : Bool) (pairAt : Bool) (early : Bool) (devReg : Bool) (wto : Nat) (a : RunAcc) (r : Bool) (p : Bool) (e : Bool) (d : Bool) (w : Nat),
      wto < 256 ∧ s.acc acc = some a ∧ a.m.node = s.ownNode ∧ a.m.dest < 0x40 ∧ a.told = some (r, p, e, d, w))
    ∧ (∃ (s : State) (acc : Nat) (rule : Bool) (pairAt : Bool) (early : Bool) (devReg : Bool) (wto : Nat) (a : RunAcc), wto < 256 ∧ s.acc acc = some a
      ∧ (a.m.node ≠ s.ownNode ∨ 0x40 ≤ a.m.dest))
    ∧ (∃ (s : State) (acc : Nat) (st : Nat) (a : RunAcc), isCause st = true ∧ s.acc acc = some a)
    ∧ (∃ (s : State) (acc : Nat) (st : Nat) (a : RunAcc) (data : Nat) (p : Bool), isCause st = true ∧ s.acc acc = some a)
    ∧ (∃ (s : State) (acc : Nat) (st : Nat) (a : RunAcc), isCause st = true ∧ s.acc acc = some a ∧ (a.kind = .write ∨ a.kind = .record))
    ∧ (∃ (s : State) (acc : Nat) (st : Nat) (a : RunAcc), isCause st = true ∧ s.acc acc = some a ∧ a.kind ≠ .write ∧ a.kind ≠ .record)
    ∧ (∃ (s : State) (acc : Nat) (a : RunAcc), s.acc acc = some a ∧ a.kind = .write ∧ a.irq = false)
    ∧ (∃ (s : State) (acc : Nat) (st : Nat) (a : RunAcc), s.acc acc = some a ∧ a.kind = .write ∧ isCause st = true ∧ st ≠ 0)
    ∧ (∃ (s : State) (acc : Nat) (data : Nat) (a : RunAcc), s.acc acc = some a ∧ a.kind = .read)
    ∧ (∃ (s : State) (acc : Nat) (data : Nat) (a : RunAcc), s.acc acc = some a ∧ a.kind = .read ∧ a.orphan = true)
    ∧ (∃ (s : State) (acc : Nat) (a : RunAcc), s.acc acc = some a ∧ a.kind = .write ∧ a.ring < 2 ^ fRUN_DEAD_RING.width ∧ a.orphan = true)
    ∧ (∃ (s : State) (acc : Nat) (a : RunAcc), s.acc acc = some a ∧ a.kind = .read)
    ∧ (∃ (s : State) (acc : Nat) (status : Nat), s.acc acc = none ∧ isCause status = true) :=
  ⟨⟨{ run := { accs := [({ id := 1, ring := 0, eng := 0, ti := 0, idxs := [0], kind := .fetch, m := { kind := .ioPosted }, space := 0, addr := 0, len := 8 } : RunAcc)] } : State },
      0, [],
      ({ id := 1, ring := 0, eng := 0, ti := 0, idxs := [0], kind := .fetch, m := { kind := .ioPosted }, space := 0, addr := 0, len := 8 } : RunAcc),
      by decide +kernel⟩,
    ⟨{ run := { accs := [({ id := 1, ring := 0, eng := 0, ti := 0, idxs := [0], kind := .fetch, m := { kind := .ioPosted }, space := 0, addr := 0, len := 8, orphan := true } : RunAcc)] } : State },
      0, [],
      ({ id := 1, ring := 0, eng := 0, ti := 0, idxs := [0], kind := .fetch, m := { kind := .ioPosted }, space := 0, addr := 0, len := 8, orphan := true } : RunAcc),
      by decide +kernel⟩,
    ⟨{ run := { wc := [({ id := 0, ring := 0, eng := 0, space := 0, line := 0 } : Wc)] } : State }, 0,
      ({ id := 0, ring := 0, eng := 0, space := 0, line := 0 } : Wc), by decide +kernel⟩,
    ⟨State.reset, 0, false, [], by decide +kernel⟩,
    ⟨{ run := { accs := [({ id := 1, ring := 0, eng := 0, ti := 0, idxs := [0], kind := .fetch, m := { kind := .ioPosted }, space := 0, addr := 0, len := 8, orphan := true } : RunAcc)] } : State },
      0, [],
      ({ id := 1, ring := 0, eng := 0, ti := 0, idxs := [0], kind := .fetch, m := { kind := .ioPosted }, space := 0, addr := 0, len := 8, orphan := true } : RunAcc),
      by decide +kernel⟩,
    ⟨put ({ run := { accs := [({ id := 1, ring := 0, eng := 0, ti := 0, idxs := [0], kind := .fetch, m := { kind := .ioPosted }, space := 0, addr := 0, len := 8 } : RunAcc)] } : State }) [(fRUN_RCTX1_STATE,
      0, 5)], 0, [],
      ({ id := 1, ring := 0, eng := 0, ti := 0, idxs := [0], kind := .fetch, m := { kind := .ioPosted }, space := 0, addr := 0, len := 8 } : RunAcc),
      by decide +kernel⟩,
    ⟨State.reset, 0, false, by decide +kernel⟩,
    ⟨{ run := { wc := [({ id := 0, ring := 0, eng := 0, space := 0, line := 0 } : Wc)] } : State }, 0, false, false, false, false, 0,
      by decide +kernel⟩,
    ⟨{ run := { accs := [({ id := 1, ring := 0, eng := 0, ti := 0, idxs := [0], kind := .write, m := { kind := .ioPosted }, space := 0, addr := 0, len := 8 } : RunAcc)] } : State },
      1, false, false, false, false, 0,
      ({ id := 1, ring := 0, eng := 0, ti := 0, idxs := [0], kind := .write, m := { kind := .ioPosted }, space := 0, addr := 0, len := 8 } : RunAcc),
      by decide +kernel⟩,
    ⟨{ run := { accs := [({ id := 1, ring := 0, eng := 0, ti := 0, idxs := [0], kind := .write, m := { kind := .ioPosted }, space := 0, addr := 0, len := 8, told := some (false, false, false, false, 5) } : RunAcc)] } : State },
      1, false, false, false, false, 0,
      ({ id := 1, ring := 0, eng := 0, ti := 0, idxs := [0], kind := .write, m := { kind := .ioPosted }, space := 0, addr := 0, len := 8, told := some (false, false, false, false, 5) } : RunAcc),
      false, false, false, false, 5, by decide +kernel⟩,
    ⟨put ({ run := { accs := [({ id := 1, ring := 0, eng := 0, ti := 0, idxs := [0], kind := .read, m := { kind := .ioPosted }, space := 0, addr := 0, len := 8, orphan := true } : RunAcc)] } : State }) [(fPKG_STRAP_NODE_ID,
      0, 1)], 1, false, false, false, false, 0,
      ((put ({ run := { accs := [({ id := 1, ring := 0, eng := 0, ti := 0, idxs := [0], kind := .read, m := { kind := .ioPosted }, space := 0, addr := 0, len := 8, orphan := true } : RunAcc)] } : State }) [(fPKG_STRAP_NODE_ID,
      0, 1)]).acc 1).get (by decide +kernel), by decide +kernel⟩,
    ⟨{ run := { accs := [({ id := 1, ring := 0, eng := 0, ti := 0, idxs := [0], kind := .write, m := { kind := .ioPosted }, space := 0, addr := 0, len := 8 } : RunAcc)] } : State },
      1, 0,
      ({ id := 1, ring := 0, eng := 0, ti := 0, idxs := [0], kind := .write, m := { kind := .ioPosted }, space := 0, addr := 0, len := 8 } : RunAcc),
      by decide +kernel⟩,
    ⟨{ run := { accs := [({ id := 1, ring := 0, eng := 0, ti := 0, idxs := [0], kind := .write, m := { kind := .ioPosted }, space := 0, addr := 0, len := 8 } : RunAcc)] } : State },
      1, 0,
      ({ id := 1, ring := 0, eng := 0, ti := 0, idxs := [0], kind := .write, m := { kind := .ioPosted }, space := 0, addr := 0, len := 8 } : RunAcc),
      0, false, by decide +kernel⟩,
    ⟨{ run := { accs := [({ id := 1, ring := 0, eng := 0, ti := 0, idxs := [0], kind := .write, m := { kind := .ioPosted }, space := 0, addr := 0, len := 8 } : RunAcc)] } : State },
      1, 0,
      ({ id := 1, ring := 0, eng := 0, ti := 0, idxs := [0], kind := .write, m := { kind := .ioPosted }, space := 0, addr := 0, len := 8 } : RunAcc),
      by decide +kernel⟩,
    ⟨{ run := { accs := [({ id := 1, ring := 0, eng := 0, ti := 0, idxs := [0], kind := .read, m := { kind := .ioPosted }, space := 0, addr := 0, len := 8 } : RunAcc)] } : State },
      1, 0,
      (({ run := { accs := [({ id := 1, ring := 0, eng := 0, ti := 0, idxs := [0], kind := .read, m := { kind := .ioPosted }, space := 0, addr := 0, len := 8 } : RunAcc)] } : State }).acc 1).get (by decide +kernel),
      by decide +kernel⟩,
    ⟨{ run := { accs := [({ id := 1, ring := 0, eng := 0, ti := 0, idxs := [0], kind := .write, m := { kind := .ioPosted }, space := 0, addr := 0, len := 8 } : RunAcc)] } : State },
      1,
      ({ id := 1, ring := 0, eng := 0, ti := 0, idxs := [0], kind := .write, m := { kind := .ioPosted }, space := 0, addr := 0, len := 8 } : RunAcc),
      by decide +kernel⟩,
    ⟨{ run := { accs := [({ id := 1, ring := 0, eng := 0, ti := 0, idxs := [0], kind := .write, m := { kind := .ioPosted }, space := 0, addr := 0, len := 8 } : RunAcc)] } : State },
      1, 1,
      ({ id := 1, ring := 0, eng := 0, ti := 0, idxs := [0], kind := .write, m := { kind := .ioPosted }, space := 0, addr := 0, len := 8 } : RunAcc),
      by decide +kernel⟩,
    ⟨{ run := { accs := [({ id := 1, ring := 0, eng := 0, ti := 0, idxs := [0], kind := .read, m := { kind := .ioPosted }, space := 0, addr := 0, len := 8 } : RunAcc)] } : State },
      1, 0,
      ({ id := 1, ring := 0, eng := 0, ti := 0, idxs := [0], kind := .read, m := { kind := .ioPosted }, space := 0, addr := 0, len := 8 } : RunAcc),
      by decide +kernel⟩,
    ⟨{ run := { accs := [({ id := 1, ring := 0, eng := 0, ti := 0, idxs := [0], kind := .read, m := { kind := .ioPosted }, space := 0, addr := 0, len := 8, orphan := true } : RunAcc)] } : State },
      1, 0,
      ({ id := 1, ring := 0, eng := 0, ti := 0, idxs := [0], kind := .read, m := { kind := .ioPosted }, space := 0, addr := 0, len := 8, orphan := true } : RunAcc),
      by decide +kernel⟩,
    ⟨{ run := { accs := [({ id := 1, ring := 0, eng := 0, ti := 0, idxs := [0], kind := .write, m := { kind := .ioPosted }, space := 0, addr := 0, len := 8, orphan := true } : RunAcc)] } : State },
      1,
      ({ id := 1, ring := 0, eng := 0, ti := 0, idxs := [0], kind := .write, m := { kind := .ioPosted }, space := 0, addr := 0, len := 8, orphan := true } : RunAcc),
      by decide +kernel⟩,
    ⟨{ run := { accs := [({ id := 1, ring := 0, eng := 0, ti := 0, idxs := [0], kind := .read, m := { kind := .ioPosted }, space := 0, addr := 0, len := 8 } : RunAcc)] } : State },
      1,
      ({ id := 1, ring := 0, eng := 0, ti := 0, idxs := [0], kind := .read, m := { kind := .ioPosted }, space := 0, addr := 0, len := 8 } : RunAcc),
      by decide +kernel⟩,
    ⟨State.reset, 0, 0, by decide +kernel⟩⟩

/-- States and operands that meet the hypotheses of `Obligations.RingsAndEngines`, clause by clause. -/
theorem witness_RingsAndEngines :
    (∃ (s : State) (val : Nat), val < 2 ^ 32 ∧ s.rstate (s.rd fRUN_RSEL_RING 0) = 0 ∧ bitOf val 0 = false
      ∧ s.discards (fieldsAt 0xF00024) (s.rd fRUN_RSEL_RING 0) val = false)
    ∧ (∃ (s : State) (val : Nat), val < 2 ^ 32 ∧ s.rstate (s.rd fRUN_RSEL_RING 0) = 0 ∧ bitOf val 0 = true
      ∧ s.discards (fieldsAt 0xF00024) (s.rd fRUN_RSEL_RING 0) val = false ∧ bitOf (s.rd fRUN_ENABLE_EN 0) (bitsOf val 18 5) = true
      ∧ (∀ q ∈ s.listed fRUN_RCTX0_EN,
      q ≠ s.rd fRUN_RSEL_RING 0 → s.rdb fRUN_RCTX0_EN q = true → s.rd fRUN_RCTX0_OWNER q ≠ bitsOf val 1 13 ∨ s.rd fRUN_RCTX0_SLOT q ≠ bitsOf val 14 4))
    ∧ (∃ (s : State) (val : Nat), val < 2 ^ 32 ∧ s.rstate (s.rd fRUN_RSEL_RING 0) = 0 ∧ bitOf val 0 = true
      ∧ s.discards (fieldsAt 0xF00024) (s.rd fRUN_RSEL_RING 0) val = false
      ∧ (bitOf (s.rd fRUN_ENABLE_EN 0) (bitsOf val 18 5) = false ∨ (∃ q ∈ s.listed fRUN_RCTX0_EN, q ≠ s.rd fRUN_RSEL_RING 0
      ∧ s.rdb fRUN_RCTX0_EN q = true ∧ s.rd fRUN_RCTX0_OWNER q = bitsOf val 1 13 ∧ s.rd fRUN_RCTX0_SLOT q = bitsOf val 14 4)))
    ∧ (∃ (s : State) (val : Nat), val < 2 ^ 32 ∧ s.discards (fieldsAt 0xF00024) (s.rd fRUN_RSEL_RING 0) val = true)
    ∧ (∃ (s : State) (val : Nat), val < 2 ^ 32 ∧ s.rstate (s.rd fRUN_RSEL_RING 0) ≠ 0 ∧ bitOf val 0 = false
      ∧ s.discards (fieldsAt 0xF00024) (s.rd fRUN_RSEL_RING 0) val = false)
    ∧ (∃ (s : State) (ti : Nat) (k : Nat) (val : Nat) (r : Nat), ti < 8192 ∧ k < 16 ∧ val < 2 ^ 32 ∧ s.slotOpen ti = true ∧ s.ringOf ti k = some r
      ∧ s.rstate r ≠ 0 ∧ (bitsOf val 0 16 + 2 ^ 16 - s.rd fRUN_RCTX1_HEAD r) % 2 ^ 16 ≤ 2 ^ s.rd fVF_RING_RSIZE (slotIx ti k))
    ∧ (∃ (s : State) (ti : Nat) (k : Nat) (val : Nat), ti < 8192 ∧ k < 16 ∧ val < 2 ^ 32 ∧ bitOf val 0 = true)
    ∧ (∃ (s : State) (ti : Nat) (k : Nat) (val : Nat), ti < 8192 ∧ k < 16 ∧ val < 2 ^ 32 ∧ bitOf val 0 = false)
    ∧ (∃ (s : State) (ti : Nat) (k : Nat) (val : Nat), ti < 8192 ∧ k < 16 ∧ val < 2 ^ 32 ∧ bitOf val 1 = true)
    ∧ (∃ (s : State) (ti : Nat) (k : Nat) (val : Nat), ti < 8192 ∧ k < 16 ∧ val < 2 ^ 32 ∧ bitOf val 1 = false)
    ∧ (∃ (s : State) (ti : Nat) (k : Nat) (val : Nat), ti < 8192 ∧ k < 16 ∧ val < 2 ^ 32 ∧ (s.slotOpen ti = false ∨ s.ringOf ti k = none))
    ∧ (∃ (s : State) (ti : Nat) (k : Nat) (off : Nat) (val : Nat) (r : Nat), ti < 8192 ∧ k < 16 ∧ val < 2 ^ 32 ∧ s.slotOpen ti = true
      ∧ s.ringOf ti k = some r ∧ s.rstate r = 0 ∧ (off = 0x08 ∨ off = 0x10))
    ∧ (∃ (s : State) (ti : Nat) (k : Nat) (off : Nat) (val : Nat) (r : Nat), ti < 8192 ∧ k < 16 ∧ val < 2 ^ 32 ∧ s.slotOpen ti = true
      ∧ s.ringOf ti k = some r ∧ s.rstate r = 0 ∧ (off = 0x0C ∨ off = 0x14))
    ∧ (∃ (s : State) (ti : Nat) (k : Nat) (off : Nat) (val : Nat) (low : Nat) (r : Nat), ti < 8192 ∧ k < 16 ∧ val < 2 ^ 32 ∧ low < 2 ^ 32
      ∧ s.slotOpen ti = true ∧ s.ringOf ti k = some r ∧ s.rstate r = 0 ∧ (off = 0x0C ∨ off = 0x14)
      ∧ SMap.get 0 s.stage (0x2000000000 + 256 * slotIx ti k + off - 4) = low + 1)
    ∧ (∃ (s : State) (r : Nat), isRing r = true ∧ (s.rstate r ≠ 5 ∨ (∃ a ∈ s.run.accs, a.ring = r ∧ a.orphan = false) ∨ (∃ w ∈ s.run.wc, w.ring = r)))
    ∧ (∃ (s : State) (val : Nat), val < 2 ^ 32)
    ∧ (∃ (s : State) (val : Nat), val < 2 ^ 32 ∧ (∀ r ∈ s.listed fRUN_RCTX0_EN,
      s.rdb fRUN_RCTX0_EN r = true → bitOf val (s.rd fRUN_RCTX0_ENGINE r) = true))
    ∧ (∃ (s : State) (val : Nat), val < 2 ^ 32 ∧ s.rstate (s.rd fRUN_RSEL_RING 0) ≠ 0 ∧ bitOf val 0 = true
      ∧ s.discards (fieldsAt 0xF00024) (s.rd fRUN_RSEL_RING 0) val = false)
    ∧ (∃ (s : State) (ti : Nat) (k : Nat) (val : Nat) (r : Nat), ti < 8192 ∧ k < 16 ∧ val < 2 ^ 32 ∧ s.slotOpen ti = true ∧ s.ringOf ti k = some r
      ∧ 2 ^ s.rd fVF_RING_RSIZE (slotIx ti k) < (bitsOf val 0 16 + 2 ^ 16 - s.rd fRUN_RCTX1_HEAD r) % 2 ^ 16)
    ∧ (∃ (s : State) (ti : Nat) (k : Nat) (val : Nat) (r : Nat), ti < 8192 ∧ k < 16 ∧ val < 2 ^ 32 ∧ s.slotOpen ti = true ∧ s.ringOf ti k = some r
      ∧ s.rstate r = 0 ∧ (bitsOf val 0 16 + 2 ^ 16 - s.rd fRUN_RCTX1_HEAD r) % 2 ^ 16 ≤ 2 ^ s.rd fVF_RING_RSIZE (slotIx ti k))
    ∧ (∃ (s : State) (ti : Nat) (k : Nat) (val : Nat) (r : Nat), ti < 8192 ∧ k < 16 ∧ val < 2 ^ 32 ∧ bitOf val 0 = true ∧ bitOf val 1 = false
      ∧ s.slotOpen ti = true ∧ s.ringOf ti k = some r ∧ s.rstate r = 0 ∧ s.sizesOk (slotIx ti k) = true ∧ s.pendingDesc r = false
      ∧ s.ringHeld r = false)
    ∧ (∃ (s : State) (ti : Nat) (k : Nat) (val : Nat) (r : Nat), ti < 8192 ∧ k < 16 ∧ val < 2 ^ 32 ∧ bitOf val 0 = false ∧ bitOf val 1 = false
      ∧ s.slotOpen ti = true ∧ s.ringOf ti k = some r ∧ s.rdb fVF_RING_EN (slotIx ti k) = true)
    ∧ (∃ (s : State) (ti : Nat) (k : Nat) (val : Nat) (r : Nat), ti < 8192 ∧ k < 16 ∧ val < 2 ^ 32 ∧ bitOf val 0 = true ∧ bitOf val 1 = true
      ∧ s.slotOpen ti = true ∧ s.ringOf ti k = some r ∧ s.rstate r = 4 ∧ s.rd fRUN_RCTX1_HEAD r ≠ s.rd fVF_RING_LASTIDX (slotIx ti k)
      ∧ s.pendingDesc r = false)
    ∧ (∃ (s : State) (r : Nat), s.rstate r = 1)
    ∧ (∃ (s : State) (r : Nat), isRing r = true ∧ s.rstate r = 5 ∧ (∀ a ∈ s.run.accs, a.ring ≠ r ∨ a.orphan = true) ∧ (∀ w ∈ s.run.wc, w.ring ≠ r))
    ∧ (∃ (s : State) (ti : Nat) (k : Nat) (off : Nat) (val : Nat) (r : Nat), ti < 8192 ∧ k < 16 ∧ val < 2 ^ 32 ∧ off ∈ [0x08, 0x0C, 0x10, 0x14, 0x18]
      ∧ s.slotOpen ti = true ∧ s.ringOf ti k = some r ∧ s.rstate r ≠ 0)
    ∧ (∃ (s : State) (ti : Nat) (k : Nat) (val : Nat) (r : Nat), ti < 8192 ∧ k < 16 ∧ val < 2 ^ 32 ∧ s.slotOpen ti = true ∧ s.ringOf ti k = some r
      ∧ s.rstate r = 0)
    ∧ (∃ (s : State) (ti : Nat) (k : Nat) (val : Nat) (r : Nat), ti < 8192 ∧ k < 16 ∧ val < 2 ^ 32 ∧ s.slotOpen ti = true ∧ s.ringOf ti k = some r)
    ∧ (∃ (s : State) (val : Nat), val < 2 ^ 32 ∧ s.listed fRUN_RCTX1_STATE = [])
    ∧ (∃ (s : State) (val : Nat), val < 2 ^ 32 ∧ s.listed fRUN_RCTX0_EN = [])
    ∧ (∃ (s : State) (val : Nat) (r : Nat), val < 2 ^ 32 ∧ r ∈ s.listed fRUN_RCTX0_EN ∧ s.rdb fRUN_RCTX0_EN r = true
      ∧ bitOf val (s.rd fRUN_RCTX0_ENGINE r) = false) :=
  ⟨⟨put State.reset [(fRUN_RCTX1_STATE, 0, 0)], 8388608, by decide +kernel⟩,
    ⟨put State.reset [(fRUN_RSEL_RING, 0, 1), (fRUN_ENABLE_EN, 0, 15), (fRUN_RCTX1_STATE, 0, 1)], 8388609, by decide +kernel⟩,
    ⟨put State.reset [(fRUN_RCTX1_STATE, 0, 0), (fRUN_RCTX1_STATE, 0, 1)], 8388609, by decide +kernel⟩,
    ⟨State.reset, 0, by decide +kernel⟩,
    ⟨put State.reset [(fRUN_RCTX1_STATE, 0, 1), (fRUN_RCTX1_STATE, 0, 0)], 8388608, by decide +kernel⟩,
    ⟨put (State.reset) [(fTEN_TISTAT_STATE, 0, 2), (fRUN_RCTX0_EN, 0, 1), (fRUN_RCTX0_OWNER, 0, 0), (fRUN_RCTX0_SLOT, 0, 0), (fRUN_RCTX1_STATE, 0,
      1)], 0, 0, 0, ((put (State.reset) [(fTEN_TISTAT_STATE, 0, 2), (fRUN_RCTX0_EN, 0, 1), (fRUN_RCTX0_OWNER, 0, 0), (fRUN_RCTX0_SLOT, 0, 0),
      (fRUN_RCTX1_STATE, 0, 1)]).ringOf 0 0).get (by decide +kernel), by decide +kernel⟩,
    ⟨put (State.reset) [(fTEN_TISTAT_STATE, 0, 2), (fRUN_RCTX0_EN, 0, 1), (fRUN_RCTX0_OWNER, 0, 0), (fRUN_RCTX0_SLOT, 0, 0), (fRUN_RCTX1_STATE, 0,
      0)], 0, 0, 3, by decide +kernel⟩,
    ⟨put (State.reset) [(fTEN_TISTAT_STATE, 0, 2), (fRUN_RCTX0_EN, 0, 1), (fRUN_RCTX0_OWNER, 0, 0), (fRUN_RCTX0_SLOT, 0, 0)], 0, 0, 0,
      by decide +kernel⟩,
    ⟨put (State.reset) [(fTEN_TISTAT_STATE, 0, 2), (fRUN_RCTX0_EN, 0, 1), (fRUN_RCTX0_OWNER, 0, 0), (fRUN_RCTX0_SLOT, 0, 0), (fRUN_RCTX1_STATE, 0,
      0)], 0, 0, 3, by decide +kernel⟩,
    ⟨put (State.reset) [(fTEN_TISTAT_STATE, 0, 2), (fRUN_RCTX0_EN, 0, 1), (fRUN_RCTX0_OWNER, 0, 0), (fRUN_RCTX0_SLOT, 0, 0)], 0, 0, 0,
      by decide +kernel⟩,
    ⟨State.reset, 0, 0, 0, by decide +kernel⟩,
    ⟨put (State.reset) [(fTEN_TISTAT_STATE, 0, 2), (fRUN_RCTX0_EN, 0, 1), (fRUN_RCTX0_OWNER, 0, 0), (fRUN_RCTX0_SLOT, 0, 0), (fRUN_RCTX1_STATE, 0,
      0)], 0, 0, 8, 0, ((put (State.reset) [(fTEN_TISTAT_STATE, 0, 2), (fRUN_RCTX0_EN, 0, 1), (fRUN_RCTX0_OWNER, 0, 0), (fRUN_RCTX0_SLOT, 0, 0),
      (fRUN_RCTX1_STATE, 0, 0)]).ringOf 0 0).get (by decide +kernel), by decide +kernel⟩,
    ⟨put (State.reset) [(fTEN_TISTAT_STATE, 0, 2), (fRUN_RCTX0_EN, 0, 1), (fRUN_RCTX0_OWNER, 0, 0), (fRUN_RCTX0_SLOT, 0, 0)], 0, 0, 20, 0,
      ((put (State.reset) [(fTEN_TISTAT_STATE, 0, 2), (fRUN_RCTX0_EN, 0, 1), (fRUN_RCTX0_OWNER, 0, 0), (fRUN_RCTX0_SLOT, 0,
      0)]).ringOf 0 0).get (by decide +kernel), by decide +kernel⟩,
    ⟨put { stage := [(0x2000000008, 1)] : State } [(fTEN_TISTAT_STATE, 0, 2), (fRUN_RCTX0_EN, 0, 1)], 0, 0, 0x0C, 0, 0, 0, by decide +kernel⟩,
    ⟨put (State.reset) [(fTEN_TISTAT_STATE, 0, 2), (fVF_RING_LASTIDX, 0, 1), (fRUN_RCTX0_EN, 0, 1), (fRUN_RCTX0_OWNER, 0, 0), (fRUN_RCTX0_SLOT, 0, 0),
      (fRUN_RCTX1_STATE, 0, 4)], 0, by decide +kernel⟩,
    ⟨State.reset, 0, by decide +kernel⟩,
    ⟨State.reset, 0, by decide +kernel⟩,
    ⟨put State.reset [(fRUN_RCTX1_STATE, 0, 1)], 8388609, by decide +kernel⟩,
    ⟨put (State.reset) [(fTEN_TISTAT_STATE, 0, 2), (fRUN_RCTX0_EN, 0, 1), (fRUN_RCTX0_OWNER, 0, 0), (fRUN_RCTX0_SLOT, 0, 0)], 0, 0, 65535, 0,
      by decide +kernel⟩,
    ⟨put (State.reset) [(fTEN_TISTAT_STATE, 0, 2), (fRUN_RCTX0_EN, 0, 1), (fRUN_RCTX0_OWNER, 0, 0), (fRUN_RCTX0_SLOT, 0, 0), (fRUN_RCTX1_STATE, 0,
      0)], 0, 0, 0, 0, by decide +kernel⟩,
    ⟨put (State.reset) [(fTEN_TISTAT_STATE, 0, 2), (fVF_RING_RSIZE, 0, 4), (fVF_RING_CQSIZE, 0, 4), (fRUN_RCTX0_EN, 0, 1), (fRUN_RCTX0_OWNER, 0, 0),
      (fRUN_RCTX0_SLOT, 0, 0), (fRUN_RCTX1_STATE, 0, 0)], 0, 0, 1, 0, by decide +kernel⟩,
    ⟨put (State.reset) [(fTEN_TISTAT_STATE, 0, 2), (fRUN_RCTX0_EN, 0, 1), (fRUN_RCTX0_OWNER, 0, 0), (fRUN_RCTX0_SLOT, 0, 0), (fVF_RING_EN,
      (slotIx 0 0), 1)], 0, 0, 0, 0, by decide +kernel⟩,
    ⟨put (State.reset) [(fTEN_TISTAT_STATE, 0, 2), (fVF_RING_LASTIDX, 0, 1), (fRUN_RCTX0_EN, 0, 1), (fRUN_RCTX0_OWNER, 0, 0), (fRUN_RCTX0_SLOT, 0, 0),
      (fRUN_RCTX1_STATE, 0, 4)], 0, 0, 3, 0, by decide +kernel⟩,
    ⟨put (State.reset) [(fRUN_RCTX1_STATE, 0, 1)], 0, by decide +kernel⟩,
    ⟨put ({ run := { accs := [], wc := [] } : State }) [(fRUN_RCTX1_STATE, 0, 5)], 0, by decide +kernel⟩,
    ⟨put (State.reset) [(fTEN_TISTAT_STATE, 0, 2), (fRUN_RCTX0_EN, 0, 1), (fRUN_RCTX0_OWNER, 0, 0), (fRUN_RCTX0_SLOT, 0, 0), (fRUN_RCTX1_STATE, 0,
      1)], 0, 0, 0x18, 0, 0, by decide +kernel⟩,
    ⟨put (State.reset) [(fTEN_TISTAT_STATE, 0, 2), (fRUN_RCTX0_EN, 0, 1), (fRUN_RCTX0_OWNER, 0, 0), (fRUN_RCTX0_SLOT, 0, 0), (fRUN_RCTX1_STATE, 0,
      0)], 0, 0, 0, 0, by decide +kernel⟩,
    ⟨put (State.reset) [(fTEN_TISTAT_STATE, 0, 2), (fRUN_RCTX0_EN, 0, 1), (fRUN_RCTX0_OWNER, 0, 0), (fRUN_RCTX0_SLOT, 0, 0)], 0, 0, 0, 0,
      by decide +kernel⟩,
    ⟨State.reset, 0, by decide +kernel⟩,
    ⟨State.reset, 0, by decide +kernel⟩,
    ⟨put (State.reset) [(fRUN_RCTX0_EN, 0, 1)], 0, 0, by decide +kernel⟩⟩

/-- States and operands that meet the hypotheses of `Obligations.TenantMailboxes`, clause by clause. -/
theorem witness_TenantMailboxes :
    (∃ (s : State) (ti : Nat) (val : Nat), ti < 8192 ∧ val < 2 ^ 32 ∧ s.slotOpen ti = true ∧ bitsOf val 0 9 ≠ 0 ∧ bitsOf val 0 9 ≤ 256
      ∧ s.posted ti = false)
    ∧ (∃ (s : State) (ti : Nat) (val : Nat), ti < 8192 ∧ val < 2 ^ 32 ∧ s.slotOpen ti = true
      ∧ (bitsOf val 0 9 = 0 ∨ 256 < bitsOf val 0 9 ∨ s.posted ti = true))
    ∧ (∃ (s : State) (ti : Nat) (val : Nat), ti < 8192 ∧ val < 2 ^ 32 ∧ s.slotOpen ti = false)
    ∧ (∃ (s : State) (ti : Nat) (val : Nat), ti < 8192 ∧ val < 2 ^ 32 ∧ s.slotOpen ti = true ∧ bitOf val 0 = true ∧ s.rd fVF_MB_MSTATE ti = 2)
    ∧ (∃ (s : State) (ti : Nat) (val : Nat), ti < 8192 ∧ val < 2 ^ 32 ∧ (bitOf val 0 = false ∨ s.rd fVF_MB_MSTATE ti ≠ 2))
    ∧ (∃ (s : State) (val : Nat), val < 2 ^ 32 ∧ bitsOf val 24 8 ≠ 0x4D)
    ∧ (∃ (s : State) (val : Nat), val < 2 ^ 32)
    ∧ (∃ (s : State) (val : Nat), val < 2 ^ 32 ∧ bitsOf val 24 8 = 0x4D ∧ s.posted s.tsel = true ∧ bitsOf val 0 16 = s.rd fVF_MB_SEQ s.tsel)
    ∧ (∃ (s : State) (val : Nat), val < 2 ^ 32 ∧ bitsOf val 24 8 = 0x4D ∧ (s.posted s.tsel = false ∨ bitsOf val 0 16 ≠ s.rd fVF_MB_SEQ s.tsel))
    ∧ (∃ (s : State) (ti : Nat), isTi ti = true ∧ s.posted ti = true)
    ∧ (∃ (s : State) (ti : Nat), isTi ti = true ∧ s.posted ti = false) :=
  ⟨⟨put (State.reset) [(fTEN_TISTAT_STATE, 0, 2)], 0, 256, by decide +kernel⟩,
    ⟨put (State.reset) [(fTEN_TISTAT_STATE, 0, 2)], 0, 0, by decide +kernel⟩,
    ⟨put (State.reset) [(fTEN_TISTAT_STATE, 0, 5)], 0, 0, by decide +kernel⟩,
    ⟨put (State.reset) [(fTEN_TISTAT_STATE, 0, 2), (fVF_MB_MSTATE, 0, 2)], 0, 1, by decide +kernel⟩,
    ⟨State.reset, 0, 0, by decide +kernel⟩,
    ⟨State.reset, 0, by decide +kernel⟩,
    ⟨State.reset, 0, by decide +kernel⟩,
    ⟨put (State.reset) [(fVF_MB_MSTATE, 0, 1)], 1291845632, by decide +kernel⟩,
    ⟨State.reset, 1291845632, by decide +kernel⟩,
    ⟨put (State.reset) [(fVF_MB_MSTATE, 0, 1)], 0, by decide +kernel⟩,
    ⟨State.reset, 0, by decide +kernel⟩⟩

/-- States and operands that meet the hypotheses of `Obligations.TenantStates`, clause by clause. -/
theorem witness_TenantStates :
    (∃ (s : State) (val : _), val < 2 ^ 32 ∧ tiCmd val 1 = true ∧ s.tstate s.tsel = 2 ∧ s.listed fRUN_RCTX1_STATE = [])
    ∧ (∃ (s : State) (val : _), val < 2 ^ 32 ∧ tiCmd val 1 = true ∧ s.tstate s.tsel ≠ 2)
    ∧ (∃ (s : State) (val : _), val < 2 ^ 32 ∧ tiCmd val 2 = true ∧ s.tstate s.tsel = 4 ∧ s.rdb fTEN_TISTAT_FORCED s.tsel = false
      ∧ s.listed fRUN_RCTX1_STATE = [])
    ∧ (∃ (s : State) (val : _), val < 2 ^ 32 ∧ tiCmd val 2 = true ∧ (s.tstate s.tsel ≠ 4 ∨ s.rdb fTEN_TISTAT_FORCED s.tsel = true))
    ∧ (∃ (s : State) (val : _), val < 2 ^ 32 ∧ tiCmd val 3 = true ∧ s.tstate s.tsel = 4)
    ∧ (∃ (s : State) (val : _), val < 2 ^ 32 ∧ tiCmd val 3 = true ∧ s.tstate s.tsel ≠ 4)
    ∧ (∃ (s : State) (val : Nat), val < 2 ^ 32 ∧ tiCmd val 1 = false)
    ∧ (∃ (s : State) (val : Nat), val < 2 ^ 32 ∧ tiCmd val 2 = false)
    ∧ (∃ (s : State) (val : Nat), val < 2 ^ 32 ∧ tiCmd val 3 = false)
    ∧ (∃ (s : State) (val : Nat), val < 2 ^ 32 ∧ tiCmd val 1 = true ∧ s.tstate s.tsel = 2)
    ∧ (∃ (s : State) (val : Nat), val < 2 ^ 32 ∧ tiCmd val 2 = true ∧ s.tstate s.tsel = 4 ∧ s.rdb fTEN_TISTAT_FORCED s.tsel = false)
    ∧ (∃ (s : State) (ti : Nat), isTi ti = true ∧ s.tstate ti = 3 ∧ s.quiet ti = false)
    ∧ (∃ (s : State) (ti : Nat), isTi ti = true ∧ s.tstate ti = 5 ∧ s.ten.planned.contains ti = false ∧ s.tenIdle ti = true)
    ∧ (∃ (s : State) (ti : Nat), isTi ti = true ∧ s.tstate ti = 5 ∧ s.ten.planned.contains ti = false ∧ s.tenIdle ti = false)
    ∧ (∃ (s : State) (ti : Nat), isTi ti = true ∧ s.tstate ti = 5 ∧ s.ten.planned.contains ti = true)
    ∧ (∃ (s : State) (ti : Nat), isTi ti = true)
    ∧ (∃ (s : State) (ring : Nat), isRing ring = true ∧ s.rstate ring ≠ 5)
    ∧ (∃ (s : State) (ring : Nat), isRing ring = true ∧ s.rstate ring = 5)
    ∧ (∃ (s : State) (ti : Nat), isTi ti = true ∧ s.tstate ti = 3 ∧ s.quiet ti = true)
    ∧ (∃ (s : State) (ti : Nat), isTi ti = true ∧ s.tstate ti = 3)
    ∧ (∃ (s : State) (ti : Nat), isTi ti = true ∧ s.tstate ti ≠ 3)
    ∧ (∃ (s : State) (ti : Nat), isTi ti = true ∧ s.tstate ti = 5 ∧ s.ten.planned.contains ti = true ∧ s.ten.faulted.contains ti = false)
    ∧ (∃ (s : State) (ti : Nat), isTi ti = true ∧ s.tstate ti = 5 ∧ s.ten.planned.contains ti = false)
    ∧ (∃ (s : State) (ti : Nat), isTi ti = true ∧ s.tstate ti ≠ 5)
    ∧ (∃ (s : State) (ti : Nat), isTi ti = true ∧ 2 ≤ s.tstate ti ∧ s.tstate ti ≤ 4)
    ∧ (∃ (s : State) (ring : Nat), isRing ring = true ∧ s.rstate ring = 5 ∧ 2 ≤ s.tstate (s.rd fRUN_RCTX0_OWNER ring)
      ∧ s.tstate (s.rd fRUN_RCTX0_OWNER ring) ≤ 4) :=
  ⟨⟨put (State.reset) [(fTEN_TISTAT_STATE, 0, 2)], 1895825409, by decide +kernel⟩,
    ⟨put (State.reset) [(fTEN_TISTAT_STATE, 0, 0)], 1895825409, by decide +kernel⟩,
    ⟨put (State.reset) [(fTEN_TISTAT_STATE, 0, 4)], 1895825410, by decide +kernel⟩,
    ⟨put (State.reset) [(fTEN_TISTAT_STATE, 0, 0)], 1895825410, by decide +kernel⟩,
    ⟨put (State.reset) [(fTEN_TISTAT_STATE, 0, 4)], 1895825411, by decide +kernel⟩,
    ⟨put (State.reset) [(fTEN_TISTAT_STATE, 0, 0)], 1895825411, by decide +kernel⟩,
    ⟨put (State.reset) [(fTEN_TISTAT_STATE, 0, 0)], 0, by decide +kernel⟩,
    ⟨put (State.reset) [(fTEN_TISTAT_STATE, 0, 0)], 1895825409, by decide +kernel⟩,
    ⟨put (State.reset) [(fTEN_TISTAT_STATE, 0, 0)], 0, by decide +kernel⟩,
    ⟨put (State.reset) [(fTEN_TISTAT_STATE, 0, 2)], 1895825409, by decide +kernel⟩,
    ⟨put (State.reset) [(fTEN_TISTAT_STATE, 0, 4)], 1895825410, by decide +kernel⟩,
    ⟨put (State.reset) [(fRUN_RCTX1_STATE, 0, 2), (fTEN_TISTAT_STATE, 0, 3)], 0, by decide +kernel⟩,
    ⟨put (State.reset) [(fTEN_TISTAT_STATE, 0, 5)], 0, by decide +kernel⟩,
    ⟨put { run := { accs := [({ id := 1, ring := 0, eng := 0, ti := 0, idxs := [0], kind := .write, m := { kind := .ioPosted }, space := 0, addr := 0, len := 8 } : RunAcc)] } : State } [(fTEN_TISTAT_STATE,
      0, 5)], 0, by decide +kernel⟩,
    ⟨put ({ ten := { planned := [0] } : State }) [(fTEN_TISTAT_STATE, 0, 5)], 0, by decide +kernel⟩,
    ⟨put (State.reset) [(fTEN_TISTAT_STATE, 0, 3)], 0, by decide +kernel⟩,
    ⟨put (State.reset) [(fTEN_TISTAT_STATE, 0, 0)], 0, by decide +kernel⟩,
    ⟨put (State.reset) [(fRUN_RCTX1_STATE, 199, 5), (fTEN_TISTAT_STATE, 0, 0)], 199, by decide +kernel⟩,
    ⟨put (State.reset) [(fTEN_TISTAT_STATE, 0, 3)], 0, by decide +kernel⟩,
    ⟨put (State.reset) [(fTEN_TISTAT_STATE, 0, 3)], 0, by decide +kernel⟩,
    ⟨put (State.reset) [(fTEN_TISTAT_STATE, 0, 0)], 0, by decide +kernel⟩,
    ⟨put ({ ten := { planned := [0] } : State }) [(fTEN_TISTAT_STATE, 0, 5)], 0, by decide +kernel⟩,
    ⟨put (State.reset) [(fTEN_TISTAT_STATE, 0, 5)], 0, by decide +kernel⟩,
    ⟨put (State.reset) [(fTEN_TISTAT_STATE, 0, 0)], 0, by decide +kernel⟩,
    ⟨put (State.reset) [(fTEN_TISTAT_STATE, 0, 4)], 0, by decide +kernel⟩,
    ⟨put State.reset [(fRUN_RCTX1_STATE, 0, 5), (fTEN_TISTAT_STATE, 0, 4)], 0, by decide +kernel⟩⟩

/-- States and operands that meet the hypotheses of `Obligations.ContextsAndLogs`, clause by clause. -/
theorem witness_ContextsAndLogs :
    (∃ (s : State) (val : Nat), val < 2 ^ 32 ∧ ctxCmd val 1 = true ∧ s.ten.moving = none ∧ s.tstate s.tsel = 4)
    ∧ (∃ (s : State) (val : Nat), val < 2 ^ 32 ∧ ctxCmd val 1 = true ∧ s.ten.moving = none ∧ s.tstate s.tsel ≠ 4)
    ∧ (∃ (s : State) (val : Nat), val < 2 ^ 32 ∧ ctxCmd val 2 = true ∧ s.ten.moving = none ∧ s.ctxBad s.tsel = 0)
    ∧ (∃ (s : State) (val : Nat) (x : Nat × Nat), val < 2 ^ 32 ∧ ctxCmd val 2 = true ∧ s.ten.moving = some x)
    ∧ (∃ (s : State) (val : Nat), val < 2 ^ 32 ∧ ctxCmd val 1 = false)
    ∧ (∃ (s : State) (val : Nat), val < 2 ^ 32 ∧ ctxCmd val 2 = false)
    ∧ (∃ (s : State) (val : Nat) (x : Nat × Nat), val < 2 ^ 32 ∧ ctxCmd val 1 = true ∧ s.ten.moving = some x)
    ∧ (∃ (s : State) (val : Nat) (r : Nat), val < 2 ^ 32 ∧ ctxCmd val 2 = true ∧ s.ten.moving = none ∧ s.ctxBad s.tsel = r ∧ r ≠ 0 ∧ r < 16)
    ∧ (∃ (s : State) (val : Nat), val < 2 ^ 32 ∧ bitOf val 0 = false)
    ∧ (∃ (s : State) (val : Nat), val < 2 ^ 32 ∧ bitOf val 0 = true)
    ∧ (∃ (s : State) (val : Nat), val < 2 ^ 32 ∧ bitOf val 0 = false ∧ s.rdb fTEN_LOGCTL_EN s.tsel = false ∧ s.ten.stopping.contains s.tsel = true)
    ∧ (∃ (s : State) (val : Nat), val < 2 ^ 32 ∧ bitOf val 0 = false ∧ s.rdb fTEN_LOGCTL_EN s.tsel = false ∧ s.ten.stopping.contains s.tsel = false)
    ∧ (∃ (s : State) (val : Nat), val < 2 ^ 32 ∧ (bitsOf val 24 8 ≠ 0x6B ∨ bitOf val 0 = false))
    ∧ (∃ (s : State), s.ten.moving = none)
    ∧ (∃ (s : State) (u : State) (ti : Nat) (op : Nat), s.ten.moving = some (ti, op) ∧ s.tstate ti = 4
      ∧ u = { s with ten := { s.ten with moving := none } })
    ∧ (∃ (s : State) (ti : Nat), isTi ti = true
      ∧ (s.rdb fTEN_LOGSTAT_BUSY ti = false ∨ s.logClean ti (1 - s.rd fTEN_LOGSTAT_BUF ti) = false ∨ (∃ id ∈ SMap.get [] s.ten.preFlip ti,
      ∃ a ∈ s.run.accs, a.id = id)))
    ∧ (∃ (s : State) (ti : Nat) (buf : Nat) (word : Nat), isTi ti = true ∧ buf < 2
      ∧ (s.ten.cache.find? fun w => w.ti == ti && w.buf == buf && w.word == word) = none)
    ∧ (∃ (s : State) (ti : Nat) (buf : Nat) (word : Nat) (w : LogWord), isTi ti = true ∧ buf < 2
      ∧ (s.ten.cache.find? fun w => w.ti == ti && w.buf == buf && w.word == word) = some w)
    ∧ (∃ (s : State) (id : Nat) (data : Nat) (b : LogBack) (ok : Bool), (s.ten.backs.find? fun b => b.id == id && b.phase != 0) = some b
      ∧ (ok = false ∨ b.denied = true))
    ∧ (∃ (s : State) (id : Nat) (data : Nat) (b : LogBack), (s.ten.backs.find? fun b => b.id == id && b.phase != 0) = some b ∧ b.phase = 2
      ∧ b.denied = false)
    ∧ (∃ (s : State) (id : Nat) (data : Nat) (b : LogBack), (s.ten.backs.find? fun b => b.id == id && b.phase != 0) = some b ∧ b.phase = 3
      ∧ b.denied = false)
    ∧ (∃ (s : State) (id : Nat) (data : Nat) (ok : Bool), (s.ten.backs.find? fun b => b.id == id && b.phase != 0) = none)
    ∧ (∃ (s : State) (ti : Nat), s.ten.moving = some (ti, 1) ∧ s.tstate ti = 4)
    ∧ (∃ (s : State) (ti : Nat), s.ten.moving = some (ti, 2) ∧ s.tstate ti = 4)
    ∧ (∃ (s : State) (ti : Nat) (op : Nat), s.ten.moving = some (ti, op) ∧ s.tstate ti ≠ 4)
    ∧ (∃ (s : State) (val : Nat), val < 2 ^ 32 ∧ bitOf val 0 = true ∧ s.logOn s.tsel = false)
    ∧ (∃ (s : State) (val : Nat), val < 2 ^ 32 ∧ bitOf val 0 = true ∧ s.logOn s.tsel = true)
    ∧ (∃ (s : State) (val : Nat), val < 2 ^ 32 ∧ bitOf val 0 = false ∧ s.rdb fTEN_LOGCTL_EN s.tsel = true ∧ s.ten.cache = [])
    ∧ (∃ (s : State) (val : Nat), val < 2 ^ 32 ∧ bitsOf val 24 8 = 0x6B ∧ bitOf val 0 = true ∧ s.rdb fTEN_LOGSTAT_BUSY s.tsel = false
      ∧ s.ten.cache = [])
    ∧ (∃ (s : State) (val : Nat), val < 2 ^ 32 ∧ bitsOf val 24 8 = 0x6B ∧ bitOf val 0 = true ∧ s.rdb fTEN_LOGSTAT_BUSY s.tsel = true)
    ∧ (∃ (s : State) (ti : Nat), isTi ti = true ∧ s.rdb fTEN_LOGSTAT_BUSY ti = true ∧ s.run.accs = [] ∧ s.ten.cache = [] ∧ s.ten.backs = [])
    ∧ (∃ (s : State) (ti : Nat) (buf : Nat) (word : Nat) (w : LogWord), isTi ti = true ∧ buf < 2 ∧ s.ten.cache = [w] ∧ w.ti = ti ∧ w.buf = buf
      ∧ w.word = word ∧ (s.ten.backs.any fun b => b.w.same w) = true)
    ∧ (∃ (s : State) (id : Nat) (data : Nat) (b : LogBack), s.ten.backs = [b] ∧ b.id = id ∧ b.phase = 3 ∧ b.denied = false)
    ∧ (∃ (s : State) (id : Nat) (data : Nat) (b : LogBack), s.ten.backs = [b] ∧ b.id = id ∧ b.phase = 1 ∧ b.denied = false)
    ∧ (∃ (s : State) (id : Nat) (data : Nat) (ok : Bool), s.ten.backs = []) :=
  ⟨⟨put ({ ten := { moving := none } : State }) [(fTEN_TISTAT_STATE, 0, 4)], 771751937, by decide +kernel⟩,
    ⟨put ({ ten := { moving := none } : State }) [(fTEN_TISTAT_STATE, 0, 0)], 771751937, by decide +kernel⟩,
    ⟨put ({ ten := { moving := none }, ustore := ((List.range 512).map fun w => (0x1000800 + 4 * w, some (if w = 132 then 0x54494358 else if w = 133 then 1 else if w = 511 then 1842667579 else 0))) : State }) [(fTEN_TISTAT_STATE,
      0, 4)], 771751938, by decide, by decide, by decide, by unfold State.ctxBad; rw [ctxCrc_strict]; decide +kernel⟩,
    ⟨{ ten := { moving := some default } : State }, 771751938, default, by decide +kernel⟩,
    ⟨{ ten := { moving := some default } : State }, 771751938, by decide +kernel⟩,
    ⟨{ ten := { backs := [{ id := 0, w := { ti := 0, buf := 0, word := 0, bits := 1 }, port := 0, addr := 0, phase := 3 }] } : State }, 0,
      by decide +kernel⟩,
    ⟨put ({ ten := { moving := some (0, 2) } : State }) [(fTEN_TISTAT_STATE, 0, 4)], 771751937,
      ((put ({ ten := { moving := some (0, 2) } : State }) [(fTEN_TISTAT_STATE, 0, 4)]).ten.moving).get (by decide +kernel), by decide +kernel⟩,
    ⟨put ({ ten := { moving := none }, ustore := ((List.range 512).map fun w => (0x1000800 + 4 * w, some (if w = 132 then 0x54494358 else if w = 133 then 1 else if w = 511 then 1842667579 else 0))) : State }) [(fTEN_TISTAT_STATE,
      0, 2), (fTEN_TISTAT_STATE, 0, 4)], 771751938, 3, by decide +kernel⟩,
    ⟨put ({ ten := { moving := none }, ustore := ((List.range 512).map fun w => (0x1000800 + 4 * w, some (if w = 132 then 0x54494358 else if w = 133 then 1 else if w = 511 then 1842667579 else 0))) : State }) [(fTEN_TISTAT_STATE,
      0, 4)], 771751938, by decide +kernel⟩,
    ⟨put (State.reset) [(fTEN_LOGCTL_EN, 0, 1)], 1, by decide +kernel⟩,
    ⟨put ({ ten := { stopping := [0] } : State }) [(fTEN_LOGCTL_EN, 0, 0)], 0, by decide +kernel⟩,
    ⟨put ({ ten := { moving := none }, ustore := ((List.range 512).map fun w => (0x1000800 + 4 * w, some (if w = 132 then 0x54494358 else if w = 133 then 1 else if w = 511 then 1842667579 else 0))) : State }) [(fTEN_TISTAT_STATE,
      0, 4)], 771751938, by decide +kernel⟩,
    ⟨{ ten := { backs := [{ id := 0, w := { ti := 0, buf := 0, word := 0, bits := 1 }, port := 0, addr := 0, phase := 3 }] } : State }, 0,
      by decide +kernel⟩,
    ⟨{ ten := { backs := [{ id := 0, w := { ti := 0, buf := 0, word := 0, bits := 1 }, port := 0, addr := 0, phase := 3 }] } : State },
      by decide +kernel⟩,
    ⟨put ({ ten := { moving := some (0, 1) } : State }) [(fTEN_TISTAT_STATE, 0, 4)],
      { (put ({ ten := { moving := some (0, 1) } : State }) [(fTEN_TISTAT_STATE, 0, 4)]) with ten := { (put ({ ten := { moving := some (0, 1) } : State }) [(fTEN_TISTAT_STATE, 0, 4)]).ten with moving := none } },
      0, 1, by decide +kernel⟩,
    ⟨{ ten := { backs := [{ id := 0, w := { ti := 0, buf := 0, word := 0, bits := 1 }, port := 0, addr := 0, phase := 3 }] } : State }, 0,
      by decide +kernel⟩,
    ⟨{ ten := { backs := [{ id := 0, w := { ti := 0, buf := 0, word := 0, bits := 1 }, port := 0, addr := 0, phase := 3 }] } : State }, 0, 0, 0,
      by decide +kernel⟩,
    ⟨{ ten := { cache := [{ ti := 0, buf := 0, word := 0, bits := 1 }], backs := [{ id := 0, w := { ti := 0, buf := 0, word := 0, bits := 1 }, port := 0, addr := 0, phase := 0 }] } : State },
      0, 0, 0, ({ ti := 0, buf := 0, word := 0, bits := 1 } : LogWord), by decide +kernel⟩,
    ⟨{ ten := { backs := [{ id := 0, w := { ti := 0, buf := 0, word := 0, bits := 1 }, port := 0, addr := 0, phase := 3 }] } : State }, 0, 0,
      ({ id := 0, w := { ti := 0, buf := 0, word := 0, bits := 1 }, port := 0, addr := 0, phase := 3 } : LogBack), false, by decide +kernel⟩,
    ⟨{ ten := { backs := [({ id := 0, w := { ti := 0, buf := 0, word := 0, bits := 1 }, port := 0, addr := 0, phase := 2 } : LogBack)] } : State }, 0,
      0, ({ id := 0, w := { ti := 0, buf := 0, word := 0, bits := 1 }, port := 0, addr := 0, phase := 2 } : LogBack), by decide +kernel⟩,
    ⟨{ ten := { backs := [{ id := 0, w := { ti := 0, buf := 0, word := 0, bits := 1 }, port := 0, addr := 0, phase := 3 }] } : State }, 0, 0,
      ({ id := 0, w := { ti := 0, buf := 0, word := 0, bits := 1 }, port := 0, addr := 0, phase := 3 } : LogBack), by decide +kernel⟩,
    ⟨{ ten := { backs := [{ id := 0, w := { ti := 0, buf := 0, word := 0, bits := 1 }, port := 0, addr := 0, phase := 3 }] } : State }, 199, 0, false,
      by decide +kernel⟩,
    ⟨put ({ ten := { moving := some (0, 1) } : State }) [(fTEN_TISTAT_STATE, 0, 4)], 0, by decide +kernel⟩,
    ⟨put ({ ten := { moving := some (0, 2) } : State }) [(fTEN_TISTAT_STATE, 0, 4)], 0, by decide +kernel⟩,
    ⟨put ({ ten := { moving := some (0, 0) } : State }) [(fTEN_TISTAT_STATE, 0, 0)], 0, 0, by decide +kernel⟩,
    ⟨State.reset, 1, by decide +kernel⟩,
    ⟨put (State.reset) [(fTEN_LOGCTL_EN, 0, 1)], 1, by decide +kernel⟩,
    ⟨put ({ ten := { cache := [] } : State }) [(fTEN_LOGCTL_EN, 0, 1)], 0, by decide +kernel⟩,
    ⟨{ ten := { cache := [] } : State }, 1795162113, by decide +kernel⟩,
    ⟨put (State.reset) [(fTEN_LOGSTAT_BUSY, 0, 1)], 1795162113, by decide +kernel⟩,
    ⟨put ({ run := { accs := [] }, ten := { cache := [], backs := [] } : State }) [(fTEN_LOGSTAT_BUSY, 0, 1)], 0, by decide +kernel⟩,
    ⟨{ ten := { cache := [{ ti := 0, buf := 0, word := 0, bits := 1 }], backs := [{ id := 0, w := { ti := 0, buf := 0, word := 0, bits := 1 }, port := 0, addr := 0, phase := 0 }] } : State },
      0, 0, 0, ({ ti := 0, buf := 0, word := 0, bits := 1 } : LogWord), by decide +kernel⟩,
    ⟨{ ten := { backs := [{ id := 0, w := { ti := 0, buf := 0, word := 0, bits := 1 }, port := 0, addr := 0, phase := 3 }] } : State }, 0, 0,
      ({ id := 0, w := { ti := 0, buf := 0, word := 0, bits := 1 }, port := 0, addr := 0, phase := 3 } : LogBack), by decide +kernel⟩,
    ⟨{ ten := { backs := [{ id := 0, w := { ti := 0, buf := 0, word := 0, bits := 1 }, port := 0, addr := 0, phase := 1 }] } : State }, 0, 0,
      ({ id := 0, w := { ti := 0, buf := 0, word := 0, bits := 1 }, port := 0, addr := 0, phase := 1 } : LogBack), by decide +kernel⟩,
    ⟨{ ten := { backs := [] } : State }, 0, 0, false, by decide +kernel⟩⟩

/-- States and operands that meet the hypotheses of `Obligations.ProfileChange`, clause by clause. -/
theorem witness_ProfileChange :
    (∃ (s : State) (val : Nat), val < 2 ^ 32 ∧ s.discards (fieldsAt fARCH_PROFILE_SEL.addr) 0 val = false ∧ s.rdb fARCH_PROFILE_BUSY 0 = false
      ∧ bitOf val 8 = true ∧ fARCH_PROFILE_SEL.of val = s.rd fARCH_PROFILE_ACTIVE 0)
    ∧ (∃ (s : State) (val : Nat), val < 2 ^ 32 ∧ s.discards (fieldsAt fARCH_PROFILE_SEL.addr) 0 val = false ∧ s.rdb fARCH_PROFILE_BUSY 0 = false
      ∧ bitOf val 8 = true ∧ fARCH_PROFILE_SEL.of val ≠ s.rd fARCH_PROFILE_ACTIVE 0 ∧ s.profileConflict (fARCH_PROFILE_SEL.of val) = none)
    ∧ (∃ (s : State) (val : Nat) (c : Nat) (a : Nat) (b : Nat), val < 2 ^ 32 ∧ s.discards (fieldsAt fARCH_PROFILE_SEL.addr) 0 val = false
      ∧ s.rdb fARCH_PROFILE_BUSY 0 = false ∧ bitOf val 8 = true ∧ fARCH_PROFILE_SEL.of val ≠ s.rd fARCH_PROFILE_ACTIVE 0
      ∧ s.profileConflict (fARCH_PROFILE_SEL.of val) = some (c, a, b))
    ∧ (∃ (s : State) (val : Nat), val < 2 ^ 32 ∧ (s.discards (fieldsAt fARCH_PROFILE_SEL.addr) 0 val = true ∨ s.rdb fARCH_PROFILE_BUSY 0 = true))
    ∧ (∃ (s : State) (val : Nat), val < 2 ^ 32 ∧ s.discards (fieldsAt fARCH_PROFILE_SEL.addr) 0 val = false ∧ s.rdb fARCH_PROFILE_BUSY 0 = false
      ∧ bitOf val 8 = false)
    ∧ (∃ (s : State), s.phaseNow ≠ 1)
    ∧ (∃ (s : State), (s.phaseNow ≠ 2 ∨ s.swc.msgs ≠ [] ∨ s.wm.cells ≠ []))
    ∧ (∃ (s : State), s.phaseNow ≠ 3)
    ∧ (∃ (s : State), s.phaseNow ≠ 4)
    ∧ (∃ (s : State), s.phaseNow ≠ 5)
    ∧ (∃ (s : State), s.phaseNow ≠ 6)
    ∧ (∃ (s : State), s.phaseNow = 0)
    ∧ (∃ (s : State) (t : State), s.phaseNow = 3 ∧ t = s.recallWhere s.activeTable (fun _ => true))
    ∧ (∃ (s : State), s.phaseNow = 1)
    ∧ (∃ (s : State), s.phaseNow = 2 ∧ s.swc.msgs = [] ∧ s.wm.cells = [] ∧ s.mapChanges = false)
    ∧ (∃ (s : State), s.phaseNow = 2 ∧ s.swc.msgs = [] ∧ s.wm.cells = [] ∧ s.mapChanges = true)
    ∧ (∃ (s : State), s.phaseNow = 3 ∧ s.wm.ways = [] ∧ s.wm.txns = [])
    ∧ (∃ (s : State), s.phaseNow = 4)
    ∧ (∃ (s : State), s.phaseNow = 5 ∧ s.rd fARCH_PROFILE_SEL 0 < 8)
    ∧ (∃ (s : State), 1 ≤ s.phaseNow ∧ s.phaseNow ≤ 4)
    ∧ (∃ (s : State), 5 ≤ s.phaseNow)
    ∧ (∃ (s : State), s.phaseNow = 6)
    ∧ (∃ (s : State) (tile : Nat), isTile tile = true)
    ∧ (∃ (s : State) (tile : Nat) (bundle : Nat), isTile tile = true ∧ bundle < 16 ∧ s.spares tile bundle < 2)
    ∧ (∃ (s : State) (tile : Nat) (bundle : Nat), isTile tile = true ∧ bundle < 16 ∧ 2 ≤ s.spares tile bundle)
    ∧ (∃ (s : State) (tile : Nat) (bundle : Nat), isTile tile = true ∧ bundle < 16 ∧ s.spares tile bundle ≠ 3 ∧ s.rd fARCH_CULV_ERR_RETIRED tile = 3)
    ∧ (∃ (s : State) (tile : Nat) (bundle : Nat), isTile tile = true ∧ bundle < 16 ∧ s.spares tile bundle ≠ 3 ∧ s.rd fARCH_CULV_ERR_RETIRED tile ≠ 3)
    ∧ (∃ (s : State) (tile : Nat) (bundle : Nat), isTile tile = true ∧ bundle < 16 ∧ s.spares tile bundle = 3) :=
  ⟨⟨put (State.reset) [(fARCH_PROFILE_BUSY, 0, 0), (fTND_STAT_DEVSTATE, 0, 1)], 256, by decide +kernel⟩,
    ⟨put (State.reset) [(fARCH_PROFILE_BUSY, 0, 0), (fTND_STAT_DEVSTATE, 0, 1)], 258, by decide +kernel⟩,
    ⟨put (State.reset) [(fTRN_MIR_QUOTA, 0, 65535), (fTRN_MIR_QUOTA, 1, 65535), (fTRN_MIR_QUOTA, 2, 65535), (fTRN_MIR_QUOTA, 3, 65535),
      (fTRN_MIR_QUOTA, 4, 65535), (fTRN_MIR_QUOTA, 5, 65535), (fTRN_MIR_QUOTA, 6, 65535), (fTRN_MIR_QUOTA, 7, 65535), (fRSV_RSPRES_TOTAL, 0, 1023),
      (fARCH_PROFILE_BUSY, 0, 0), (fTND_STAT_DEVSTATE, 0, 1)], 259, 4, 3, 0, by decide +kernel⟩,
    ⟨put (State.reset) [(fARCH_APPSTAT_PHASE, 0, 4)], 199, by decide +kernel⟩,
    ⟨put ({ wm := { ways := [], txns := [] } : State }) [(fARCH_APPSTAT_PHASE, 0, 3)], 0, by decide +kernel⟩,
    ⟨put (State.reset) [(fARCH_CULV_ERR_RETIRED, 0, 3)], by decide +kernel⟩,
    ⟨put (State.reset) [(fARCH_APPSTAT_PHASE, 0, 0)], by decide +kernel⟩,
    ⟨put (State.reset) [(fARCH_APPSTAT_PHASE, 0, 1)], by decide +kernel⟩,
    ⟨put (State.reset) [(fARCH_APPSTAT_PHASE, 0, 0)], by decide +kernel⟩,
    ⟨put (State.reset) [(fARCH_APPSTAT_PHASE, 0, 1)], by decide +kernel⟩,
    ⟨put (State.reset) [(fARCH_APPSTAT_PHASE, 0, 0)], by decide +kernel⟩,
    ⟨put (State.reset) [(fARCH_APPSTAT_PHASE, 0, 0)], by decide +kernel⟩,
    ⟨put State.reset [(fARCH_APPSTAT_PHASE, 0, 3)], _, by decide +kernel, rfl⟩,
    ⟨put (State.reset) [(fARCH_APPSTAT_PHASE, 0, 1)], by decide +kernel⟩,
    ⟨put ({ swc := { msgs := [] }, wm := { cells := [] } : State }) [(fARCH_APPSTAT_PHASE, 0, 2)], by decide +kernel⟩,
    ⟨put ({ swc := { msgs := [] }, wm := { cells := [] } : State }) [(fARCH_PROFILE_SEL, 0, 1), (fARCH_APPSTAT_PHASE, 0, 2)], by decide +kernel⟩,
    ⟨put ({ wm := { ways := [], txns := [] } : State }) [(fARCH_APPSTAT_PHASE, 0, 3)], by decide +kernel⟩,
    ⟨put (State.reset) [(fARCH_APPSTAT_PHASE, 0, 4)], by decide +kernel⟩,
    ⟨put (State.reset) [(fARCH_APPSTAT_PHASE, 0, 5), (fARCH_PROFILE_SEL, 0, 0)], by decide +kernel⟩,
    ⟨put (State.reset) [(fARCH_APPSTAT_PHASE, 0, 4)], by decide +kernel⟩,
    ⟨put (State.reset) [(fARCH_APPSTAT_PHASE, 0, 5)], by decide +kernel⟩,
    ⟨put (State.reset) [(fARCH_APPSTAT_PHASE, 0, 6)], by decide +kernel⟩,
    ⟨State.reset, 0, by decide +kernel⟩,
    ⟨State.reset, 0, 0, by decide +kernel⟩,
    ⟨put (State.reset) [(fARCH_CULV_SP_SPARE, 0, 2)], 0, 0, by decide +kernel⟩,
    ⟨put (State.reset) [(fARCH_CULV_ERR_RETIRED, 0, 3)], 0, 0, by decide +kernel⟩,
    ⟨put (State.reset) [(fARCH_CULV_SP_SPARE, 0, 2)], 0, 0, by decide +kernel⟩,
    ⟨put (State.reset) [(fARCH_CULV_SP_SPARE, 0, 3)], 0, 0, by decide +kernel⟩⟩

/-- States and operands that meet the hypotheses of `Obligations.AcequiaBoundariesProbesAndErrors`, clause by clause. -/
theorem witness_AcequiaBoundariesProbesAndErrors :
    (∃ (s : State) (n : Nat), isDomain n = true ∧ s.rd fACQ_DOMSTAT_STATE n = 1)
    ∧ (∃ (s : State) (n : Nat), isDomain n = true ∧ s.rd fACQ_DOMSTAT_STATE n ≠ 1)
    ∧ (∃ (s : State) (node : Nat) (port : Nat) (vc : Nat), node < 64 ∧ port < 5 ∧ (vc = 2 ∨ vc = 3) ∧ s.rdb fACQ_CTL_WDOGEN 0 = true)
    ∧ (∃ (s : State) (node : Nat) (port : Nat) (vc : Nat), node < 64 ∧ port < 5 ∧ (vc = 2 ∨ vc = 3) ∧ s.rdb fACQ_CTL_WDOGEN 0 = false)
    ∧ (∃ (s : State) (node : Nat) (port : Nat) (vc : Nat), node < 64 ∧ port < 5 ∧ vc < 4)
    ∧ (∃ (s : State) (p : Nat) (word : Nat) (val : Nat), p < 8 ∧ word < 6 ∧ s.discards (wordFields 0x1100100 word 6) p val = false
      ∧ s.rdb fACQ_PRB_EN p = false ∧ (∀ (u : State) q,
      u = s.takeWord (wordFields 0x1100100 word 6) p val → u.rdb fACQ_PRB_EN p = true → q < 8 → q ≠ p → u.rdb fACQ_PRB_EN q = true → tracesMeet (u.rd fACQ_PRB_TBASE p) (u.rd fACQ_PRB_TLEN p) (u.rd fACQ_PRB_TBASE q) (u.rd fACQ_PRB_TLEN q) = false))
    ∧ (∃ (s : State) (p : Nat) (word : Nat) (val : Nat), p < 8 ∧ word < 6 ∧ s.discards (wordFields 0x1100100 word 6) p val = false
      ∧ s.rdb fACQ_PRB_EN p = true ∧ (word ≠ 0 ∨ bitOf val 0 = true))
    ∧ (∃ (s : State) (p : Nat) (word : Nat) (val : Nat), p < 8 ∧ word < 6 ∧ s.discards (wordFields 0x1100100 word 6) p val = false
      ∧ s.rdb fACQ_PRB_EN p = true ∧ word = 0 ∧ bitOf val 0 = false)
    ∧ (∃ (s : State) (u : State) (p : Nat) (q : Nat) (word : Nat) (val : Nat), p < 8 ∧ word < 6
      ∧ s.discards (wordFields 0x1100100 word 6) p val = false ∧ u = s.takeWord (wordFields 0x1100100 word 6) p val ∧ u.rdb fACQ_PRB_EN p = true
      ∧ q < 8 ∧ q ≠ p ∧ u.rdb fACQ_PRB_EN q = true
      ∧ tracesMeet (u.rd fACQ_PRB_TBASE p) (u.rd fACQ_PRB_TLEN p) (u.rd fACQ_PRB_TBASE q) (u.rd fACQ_PRB_TLEN q) = true)
    ∧ (∃ (s : State) (p : Nat) (word : Nat) (val : Nat), p < 8 ∧ word < 6 ∧ s.discards (wordFields 0x1100100 word 6) p val = true)
    ∧ (∃ (s : State) (node : Nat) (port : Nat) (e : FlitErr), node < 64 ∧ port < 5 ∧ e.vc < 4)
    ∧ (∃ (s : State) (val : Nat), bitOf val 0 = true ∧ bitsOf val 24 8 = 0x8E)
    ∧ (∃ (s : State) (val : Nat), (bitOf val 0 = false ∨ bitsOf val 24 8 ≠ 0x8E))
    ∧ (∃ (a : _) (b : _), a < 64 ∧ b < 64)
    ∧ (∃ (a : Nat) (b : Nat), a < 64 ∧ b < 64 ∧ a % 8 ≠ b % 8)
    ∧ (∃ (a : Nat) (b : Nat), a < 64 ∧ b < 64 ∧ a % 8 = b % 8 ∧ a ≠ b)
    ∧ (∃ (r : Router) (a : Nat) (sinks : Nat) (o : Nat) (v : Nat), r.grant a sinks o = some v)
    ∧ (∃ (r : Router) (a : Nat) (sinks : Nat) (o : Nat), SMap.get 0 r.missed o < 7 ∧ r.ready a sinks o 2 = true)
    ∧ (∃ (r : Router) (a : Nat) (sinks : Nat) (o : Nat), SMap.get 0 r.missed o < 7 ∧ r.ready a sinks o 2 = false ∧ r.ready a sinks o 3 = true)
    ∧ (∃ (r : Router) (a : Nat) (sinks : Nat) (o : Nat), SMap.get 0 r.missed o < 7 ∧ r.ready a sinks o 2 = false ∧ r.ready a sinks o 3 = false
      ∧ r.ready a sinks o 1 = true)
    ∧ (∃ (r : Router) (a : Nat) (sinks : Nat) (o : Nat), r.ready a sinks o 0 = true ∧ 7 ≤ SMap.get 0 r.missed o)
    ∧ (∃ (r : Router) (a : Nat) (sinks : Nat) (o : Nat), r.ready a sinks o 0 = true ∧ r.grant a sinks o ≠ some 0)
    ∧ (∃ (r : Router) (a : Nat) (sinks : Nat) (o : Nat) (v : Nat) (i : Nat) (f : Flit), r.grant a sinks o = some v ∧ r.next a o v = some (i, f))
    ∧ (∃ (r : Router) (a : Nat) (sinks : Nat) (o : Nat) (v : Nat) (i : Nat) (f : Flit), r.grant a sinks o = some v ∧ r.next a o v = some (i, f)
      ∧ o ≠ 0) :=
  ⟨⟨put (State.reset) [(fACQ_DOMSTAT_STATE, 8, 1)], 8, by decide +kernel⟩,
    ⟨put (State.reset) [(fACQ_DOMSTAT_STATE, 8, 0)], 8, by decide +kernel⟩,
    ⟨put (State.reset) [(fACQ_CTL_WDOGEN, 0, 1)], 0, 0, (2), by decide +kernel⟩,
    ⟨put (State.reset) [(fACQ_CTL_WDOGEN, 0, 0)], 0, 0, (2), by decide +kernel⟩,
    ⟨State.reset, 0, 0, 0, by decide +kernel⟩,
    ⟨State.reset, 0, 0, 65536, by and_intros <;> first | decide +kernel | (intro u q hu h; subst hu; exact absurd h (by decide +kernel))⟩,
    ⟨put (State.reset) [(fACQ_PRB_EN, 0, 1)], 0, 1, 0, by decide +kernel⟩,
    ⟨put (State.reset) [(fACQ_PRB_EN, 0, 1)], 0, (0), 129024, by decide +kernel⟩,
    ⟨put State.reset [(fACQ_PRB_EN, 1, 1), (fACQ_PRB_TLEN, 0, 4), (fACQ_PRB_TLEN, 1, 4)], (put State.reset [(fACQ_PRB_EN, 1, 1), (fACQ_PRB_TLEN, 0,
      4), (fACQ_PRB_TLEN, 1, 4)]).takeWord (wordFields 0x1100100 0 6) 0 65537, 0, 1, 0, 65537, by and_intros <;> first | decide +kernel | rfl⟩,
    ⟨put (State.reset) [(fACQ_DOMSTAT_STATE, 8, 0)], 0, 0, 0, by decide +kernel⟩,
    ⟨put (State.reset) [(fACQ_DOMSTAT_STATE, 8, 0)], 0, 0, .corrected 0, by decide +kernel⟩,
    ⟨State.reset, 2382364673, by decide +kernel⟩,
    ⟨State.reset, 0, by decide +kernel⟩,
    ⟨0, 0, by decide +kernel⟩,
    ⟨0, 9, by decide +kernel⟩,
    ⟨0, 8, by decide +kernel⟩,
    ⟨{ buf := [(pvc 0 1, [{ pkt := 0, head := true, tail := false, vc := 1, dnode := 1 }])] : Router }, 0, 0, 2, 1, by decide +kernel⟩,
    ⟨{ buf := [(pvc 0 2, [{ pkt := 0, head := true, tail := false, vc := 2, dnode := 1 }])] : Router }, 0, 0, 2, by decide +kernel⟩,
    ⟨{ buf := [(pvc 0 3, [{ pkt := 0, head := true, tail := false, vc := 3, dnode := 1 }])] : Router }, 0, 0, 2, by decide +kernel⟩,
    ⟨{ buf := [(pvc 0 1, [{ pkt := 0, head := true, tail := false, vc := 1, dnode := 1 }])] : Router }, 0, 0, 2, by decide +kernel⟩,
    ⟨{ buf := [(pvc 0 0, [{ pkt := 0, head := true, tail := false, vc := 0, dnode := 1 }])], missed := [(2, 7)] : Router }, 0, 0, 2,
      by decide +kernel⟩,
    ⟨{ buf := [(0, [{ pkt := 0, head := true, tail := false, vc := 0, dnode := 1 }]), (1, [{ pkt := 0, head := true, tail := false, vc := 1, dnode := 1 }])] : Router },
      0, 0, 2, by decide +kernel⟩,
    ⟨{ buf := [(pvc 0 1, [{ pkt := 0, head := true, tail := false, vc := 1, dnode := 1 }])] : Router }, 0, 0, 2, 1, 0,
      { pkt := 0, head := true, tail := false, vc := 1, dnode := 1 }, by decide +kernel⟩,
    ⟨{ buf := [(pvc 0 1, [{ pkt := 0, head := true, tail := false, vc := 1, dnode := 1 }])] : Router }, 0, 0, 2, 1, 0,
      { pkt := 0, head := true, tail := false, vc := 1, dnode := 1 }, by decide +kernel⟩⟩

/-- States and operands that meet the hypotheses of `Obligations.SourcesRaiseAndSettle`, clause by clause. -/
theorem witness_SourcesRaiseAndSettle :
    (∃ (s : State) (src : Nat), isSource src = true ∧ s.driven src = .lasting ∧ s.bit fSPW_RAW_RAW src = false ∧ s.readable src = true
      ∧ s.srcState src = 0 ∧ s.armed = false)
    ∧ (∃ (s : State) (src : Nat), isSource src = true ∧ s.driven src ≠ .quiet ∧ s.bit fSPW_RAW_RAW src = false ∧ s.readable src = true
      ∧ s.srcState src = 3)
    ∧ (∃ (s : State) (src : Nat), isSource src = true ∧ s.readable src = true ∧ s.driven src ≠ .quiet ∧ s.bit fSPW_RAW_RAW src = false)
    ∧ (∃ (s : State) (src : Nat), isSource src = true ∧ s.readable src = true ∧ s.driven src ≠ .lasting ∧ s.bit fSPW_RAW_RAW src = true)
    ∧ (∃ (s : State) (src : Nat), isSource src = true ∧ (s.driven src = .lasting ∨ s.bit fSPW_RAW_RAW src = false ∨ s.readable src = false))
    ∧ (∃ (s : State) (src : Nat), isSource src = true ∧ (s.driven src = .quiet ∨ s.bit fSPW_RAW_RAW src = true ∨ s.readable src = false))
    ∧ (∃ (s : State) (src : Nat), isSource src = true ∧ s.driven src ≠ .lasting ∧ s.bit fSPW_RAW_RAW src = true ∧ s.readable src = true
      ∧ s.srcState src = 1 ∧ s.rdb fSPW_CTL_ZL25 0 = false ∧ s.rdb fSPW_RCT_NOREC src = false)
    ∧ (∃ (s : State) (src : Nat), isSource src = true ∧ s.driven src ≠ .lasting ∧ s.bit fSPW_RAW_RAW src = true ∧ s.readable src = true
      ∧ s.srcState src = 1 ∧ (s.rdb fSPW_CTL_ZL25 0 = true ∨ s.rdb fSPW_RCT_NOREC src = true))
    ∧ (∃ (s : State) (src : Nat), isSource src = true ∧ s.srcState src = 2 ∧ s.rd fSPW_RCT_FLAP src < s.rd fSPW_CTL_RLIM 0)
    ∧ (∃ (s : State) (src : Nat), isSource src = true ∧ s.srcState src = 2 ∧ s.rd fSPW_CTL_RLIM 0 ≤ s.rd fSPW_RCT_FLAP src)
    ∧ (∃ (s : State) (src : Nat), isSource src = true ∧ s.srcState src ≠ 2) :=
  ⟨⟨put ({ spw := { drive := [(0, .lasting)] } : State }) [(fSPW_RAW_RAW, (0 / 32), 0), (fSPW_RCT_STATE, 0, 0), (fSPW_CTL_ARMED, 0, 0)], 0,
      by decide +kernel⟩,
    ⟨put ({ spw := { drive := [(0, .single)] } : State }) [(fSPW_RAW_RAW, (0 / 32), 0), (fSPW_RCT_STATE, 0, 3)], 0, by decide +kernel⟩,
    ⟨put ({ spw := { drive := [(0, .lasting)] } : State }) [(fSPW_RAW_RAW, (0 / 32), 0), (fSPW_RCT_STATE, 0, 0), (fSPW_CTL_ARMED, 0, 0)], 0,
      by decide +kernel⟩,
    ⟨put (State.reset) [(fSPW_RAW_RAW, 0, 1), (fSPW_RCT_STATE, 0, 0)], 0, by decide +kernel⟩,
    ⟨State.reset, 0, by decide +kernel⟩,
    ⟨State.reset, 0, by decide +kernel⟩,
    ⟨put (State.reset) [(fSPW_RAW_RAW, (0 / 32), (2 ^ (0 % 32))), (fSPW_RCT_STATE, 0, 1), (fSPW_CTL_ZL25, 0, 0), (fSPW_RCT_NOREC, 0, 0)], 0,
      by decide +kernel⟩,
    ⟨put (State.reset) [(fSPW_RAW_RAW, (0 / 32), (2 ^ (0 % 32))), (fSPW_RCT_STATE, 0, 1), (fSPW_CTL_ZL25, 0, 1)], 0, by decide +kernel⟩,
    ⟨put (State.reset) [(fSPW_RCT_STATE, 0, 2)], 0, by decide +kernel⟩,
    ⟨put (State.reset) [(fSPW_CTL_RLIM, 0, 0), (fSPW_RCT_STATE, 0, 2)], 0, by decide +kernel⟩,
    ⟨put (State.reset) [(fSPW_RCT_STATE, 0, 0)], 0, by decide +kernel⟩⟩

/-- States and operands that meet the hypotheses of `Obligations.SpillwayRegisters`, clause by clause. -/
theorem witness_SpillwayRegisters :
    (∃ (s : State) (word : Nat) (val : Nat), word < 32 ∧ val < 2 ^ 32)
    ∧ (∃ (s : State) (word : Nat) (i : Nat), word < 32 ∧ i < 32 ∧ setBits 32 (2 ^ i) = [i] ∧ s.srcState (32 * word + i) = 0
      ∧ s.bit fSPW_STK_STK (32 * word + i) = true ∧ s.bit fSPW_RAW_RAW (32 * word + i) = false ∧ s.spw.wireLatched.contains (32 * word + i) = false)
    ∧ (∃ (s : State) (word : Nat) (i : Nat), word < 32 ∧ i < 32 ∧ setBits 32 (2 ^ i) = [i] ∧ s.srcState (32 * word + i) = 1)
    ∧ (∃ (s : State) (word : Nat) (val : Nat), word < 32 ∧ val < 2 ^ 32 ∧ ((setBits 32 val).any fun i => (srcUnit (32 * word + i)).isNone) = true)
    ∧ (∃ (s : State) (word : Nat) (val : Nat), word < 32 ∧ val < 2 ^ 32 ∧ ((setBits 32 val).any fun i => (srcUnit (32 * word + i)).isNone) = false)
    ∧ (∃ (s : State) (src : Nat) (val : Nat) (u : SrcUnit), src < 1024 ∧ val < 2 ^ 32 ∧ srcUnit src = some u ∧ u.admits (bitsOf val 0 4) = true)
    ∧ (∃ (s : State) (src : Nat) (val : Nat), src < 1024 ∧ val < 2 ^ 32 ∧ (srcUnit src = none ∨ (∃ u, srcUnit src = some u
      ∧ u.admits (bitsOf val 0 4) = false)))
    ∧ (∃ (s : State) (val : Nat), val < 2 ^ 32 ∧ bitsOf val 24 8 = 0x3B ∧ railed (bitsOf val 0 10) = true
      ∧ s.bit fSPW_RAW_RAW (bitsOf val 0 10) = true)
    ∧ (∃ (s : State) (t : State) (val : Nat), val < 2 ^ 32 ∧ bitsOf val 24 8 = 0x3B ∧ railed (bitsOf val 0 10) = true
      ∧ t = (s.pulse (bitsOf val 0 10)).wrb fSPW_RCT_INJ (bitsOf val 0 10) true)
    ∧ (∃ (s : State) (val : Nat), val < 2 ^ 32 ∧ bitsOf val 24 8 = 0x3B ∧ railed (bitsOf val 0 10) = false)
    ∧ (∃ (s : State) (val : Nat), val < 2 ^ 32 ∧ bitsOf val 24 8 ≠ 0x3B)
    ∧ (∃ (s : State) (srcs : List Nat), srcs.all isSource = true)
    ∧ (∃ (s : State) (srcs : List Nat) (codes : List (Nat × Nat)), srcs.all isSource = true
      ∧ (codes.all fun e => isSource e.1 && ((srcUnit e.1).any fun u => u.admits e.2)) = true) :=
  ⟨⟨State.reset, 0, 0, by decide +kernel⟩,
    ⟨put (State.reset) [(fSPW_STK_STK, 0, 1), (fSPW_RCT_STATE, (32 * 0 + 0), 0)], 0, 0, by decide +kernel⟩,
    ⟨put (State.reset) [(fSPW_RCT_STATE, (32 * 0 + 0), 1)], 0, 0, by decide +kernel⟩,
    ⟨State.reset, 31, 2, by decide +kernel⟩,
    ⟨State.reset, 0, 0, by decide +kernel⟩,
    ⟨State.reset, 0, 0, .port 0, by decide +kernel⟩,
    ⟨State.reset, 0, 989856767, by decide +kernel⟩,
    ⟨put (State.reset) [(fSPW_RAW_RAW, 0, 1)], 989855744, by decide +kernel⟩,
    ⟨put (State.reset) [(fSPW_RAW_RAW, 0, 1)], ((put (State.reset) [(fSPW_RAW_RAW, 0,
      1)]).pulse (bitsOf 989855744 0 10)).wrb fSPW_RCT_INJ (bitsOf 989855744 0 10) true, 989855744, by decide +kernel⟩,
    ⟨State.reset, 989856767, by decide +kernel⟩,
    ⟨State.reset, 0, by decide +kernel⟩,
    ⟨State.reset, [], by decide +kernel⟩,
    ⟨State.reset, [], [], by decide +kernel⟩⟩

/-- States and operands that meet the hypotheses of `Obligations.WireTests`, clause by clause. -/
theorem witness_WireTests :
    (∃ (s : State) (src : Nat), src < 1024 ∧ railed src = true ∧ s.readable src = false)
    ∧ (∃ (s : State) (p : Bool) (g : Bool) (src : Nat), isSource src = true ∧ s.spw.test.contains src = true)
    ∧ (∃ (s : State) (p : Bool) (g : Bool) (src : Nat), isSource src = true ∧ s.spw.test.contains src = false)
    ∧ (∃ (s : State) (src : Nat) (p : Bool) (g : Bool), isSource src = true ∧ s.spw.test.contains src = true ∧ s.rdb fSPW_RCT_SINGLE src = true
      ∧ (if s.rdb fSPW_RCT_RAIL src then g else p) = true)
    ∧ (∃ (s : State) (src : Nat) (p : Bool) (g : Bool), isSource src = true ∧ s.spw.test.contains src = true ∧ s.rdb fSPW_RCT_SINGLE src = true
      ∧ s.armed = false ∧ (if s.rdb fSPW_RCT_RAIL src then g else p) = false)
    ∧ (∃ (s : State) (src : Nat), isSource src = true ∧ s.spw.test.contains src = true ∧ s.rdb fSPW_RCT_SINGLE src = false)
    ∧ (∃ (s : State) (driver : Nat), driver < 5 ∧ s.spw.slowDrv.contains driver = true)
    ∧ (∃ (s : State) (src : Nat), src < 1024 ∧ railed src = true ∧ s.readable src = true)
    ∧ (∃ (s : State), s.rdb fSPW_CTL_WTESTEN 0 = true)
    ∧ (∃ (s : State), s.rdb fSPW_CTL_WTESTEN 0 = false)
    ∧ (∃ (s : State) (src : Nat), isSource src = true ∧ s.spw.test.contains src = true ∧ s.rdb fSPW_RCT_SINGLE src = false ∧ s.armed = false)
    ∧ (∃ (s : State) (slow : Bool), slow ≠ s.pwr.ref25)
    ∧ (∃ (s : State) (driver : _), driver < 5 ∧ s.spw.slowDrv.contains driver = false) :=
  ⟨⟨put ({ spw := { test := [0] } : State }) [(fSPW_RCT_SINGLE, 0, 0)], 0, by decide +kernel⟩,
    ⟨put ({ spw := { test := [0] } : State }) [(fSPW_RCT_SINGLE, 0, 0)], false, false, 0, by decide +kernel⟩,
    ⟨State.reset, false, false, 0, by decide +kernel⟩,
    ⟨put { spw := { test := [0] } : State } [(fSPW_RCT_SINGLE, 0, 1), (fSPW_RCT_RAIL, 0, 0)], 0, true, false, by decide +kernel⟩,
    ⟨put ({ spw := { test := [0] } : State }) [(fSPW_RCT_SINGLE, 0, 1), (fSPW_RCT_SINGLE, 0, 0), (fSPW_CTL_ARMED, 0, 0)], 0, false, false,
      by decide +kernel⟩,
    ⟨put ({ spw := { test := [0] } : State }) [(fSPW_RCT_SINGLE, 0, 0)], 0, by decide +kernel⟩,
    ⟨{ spw := { slowDrv := [0] } : State }, 0, by decide +kernel⟩,
    ⟨State.reset, 0, by decide +kernel⟩,
    ⟨put (State.reset) [(fSPW_CTL_WTESTEN, 0, 1)], by decide +kernel⟩,
    ⟨put (State.reset) [(fSPW_CTL_WTESTEN, 0, 0)], by decide +kernel⟩,
    ⟨put ({ spw := { test := [0] } : State }) [(fSPW_RCT_SINGLE, 0, 0), (fSPW_CTL_ARMED, 0, 0)], 0, by decide +kernel⟩,
    ⟨State.reset, false, by decide +kernel⟩,
    ⟨State.reset, 0, by decide +kernel⟩⟩

/-- States and operands that meet the hypotheses of `Obligations.SpillwayArms`, clause by clause. -/
theorem witness_SpillwayArms :
    (∃ (s : State), s.mayArm = true ∧ s.stickies = [] ∧ s.pwr.aborted = false ∧ s.rd fPWR_RSTCAUSE_LAST 0 ≠ 0)
    ∧ (∃ (s : State), s.mayArm = false ∧ s.pwr.sram = true ∧ s.pwr.coldHold = false ∧ s.pwr.warm = false ∧ s.armed = false
      ∧ (s.pwr.manufTest = true ∨ s.boot.recovery = true))
    ∧ (∃ (s : State), s.armed = true)
    ∧ (∃ (s : State), s.mayArm = false ∧ (s.pwr.sram = false ∨ s.pwr.coldHold = true ∨ s.pwr.warm = true ∨ (s.pwr.manufTest = false
      ∧ s.boot.recovery = false)))
    ∧ (∃ (s : State) (u : State) (v : State), s.mayArm = true
      ∧ u = (((s.when_ s.pwr.aborted fun s => (s.ttEnd 10 0).pwrMod fun p => { p with aborted := false }).wrb fSPW_CTL_ARMED 0 true).spwMod fun w => { w with kept := [] }).setDev 1
      ∧ v = ((u.when_ (s.rdb fPKG_STRAPFLT_ANY 0) fun s => s.cfgErr 2).slotsArm).when_ (s.rd fPWR_RSTCAUSE_LAST 0 == 0) State.coldRaises) :=
  ⟨⟨put ({ pwr := { aborted := false, sram := true, coldHold := false } : State }) [(fPWR_START_PHASE, 0, 4), (fPWR_RSTCAUSE_LAST, 0, 1)],
      by decide +kernel⟩,
    ⟨put ({ pwr := { sram := true, coldHold := false, warm := false, manufTest := true } : State }) [(fSPW_CTL_ARMED, 0, 0)], by decide +kernel⟩,
    ⟨put (State.reset) [(fSPW_CTL_ARMED, 0, 1)], by decide +kernel⟩,
    ⟨put ({ pwr := { aborted := false, sram := true, coldHold := false } : State }) [(fSPW_CTL_ARMED, 0, 1), (fPWR_START_PHASE, 0, 4),
      (fPWR_RSTCAUSE_LAST, 0, 1)], by decide +kernel⟩,
    ⟨put { pwr := { coldHold := false, sram := true } : State } [(fPWR_START_PHASE, 0, 4), (fPWR_RSTCAUSE_LAST, 0, 1)], _, _, by decide +kernel, rfl,
      rfl⟩⟩

/-- States and operands that meet the hypotheses of `Obligations.SlotFeedsAndRequests`, clause by clause. -/
theorem witness_SlotFeedsAndRequests :
    (∃ (s : State) (j : Nat) (val : Nat), isSlot j = true ∧ val < 2 ^ 32 ∧ s.discards (fieldsAt fSLU_CFG_EN.addr) j val = false ∧ s.slotState j = 0
      ∧ bitOf val 0 = true ∧ bitOf s.pwr.culvert (j / 8) = false ∧ s.rdb fSPW_CTL_ARMED 0 = true)
    ∧ (∃ (s : State) (j : Nat) (val : Nat), isSlot j = true ∧ val < 2 ^ 32 ∧ s.discards (fieldsAt fSLU_CFG_EN.addr) j val = false
      ∧ bitOf s.pwr.culvert (j / 8) = false ∧ (s.slotState j = 1 ∨ s.slotState j = 6) ∧ bitOf val 0 = false)
    ∧ (∃ (s : State) (j : Nat) (val : Nat), isSlot j = true ∧ val < 2 ^ 32 ∧ s.discards (fieldsAt fSLU_CFG_EN.addr) j val = false
      ∧ bitOf s.pwr.culvert (j / 8) = false ∧ s.slotState j ≠ 0 ∧ s.slotState j ≠ 1 ∧ s.slotState j ≠ 6)
    ∧ (∃ (s : State) (j : Nat) (val : Nat), isSlot j = true ∧ val < 2 ^ 32 ∧ bitOf s.pwr.culvert (j / 8) = false
      ∧ s.discards (fieldsAt fSLU_CFG_EN.addr) j val = false ∧ (s.slotState j = 0 ∨ s.slotState j = 1 ∨ s.slotState j = 6))
    ∧ (∃ (s : State) (j : Nat) (val : Nat), isSlot j = true ∧ val < 2 ^ 32 ∧ bitOf s.pwr.culvert (j / 8) = false
      ∧ s.discards (fieldsAt fSLU_CFG_EN.addr) j val = true)
    ∧ (∃ (s : State) (j : Nat) (val : Nat) (low : Bool), isSlot j = true ∧ val < 2 ^ 32 ∧ bitOf s.pwr.culvert (j / 8) = true)
    ∧ (∃ (s : State) (n : Nat) (feedB : Bool) (c : Nat), n < 4 ∧ c < 4096)
    ∧ (∃ (s : State) (n : Nat) (feedB : Bool) (c : _), n < 4 ∧ c < 4096 ∧ s.feedIn n (s.busAt n c) = false)
    ∧ (∃ (s : State) (n : Nat) (feedB : Bool) (c : _), n < 4 ∧ c < 4096 ∧ s.feedIn n (s.busAt n c) = true ∧ s.slots = [])
    ∧ (∃ (s : State) (n : Nat) (feedB : Bool) (c : _), n < 4 ∧ c < 4096 ∧ s.feedIn n (s.busAt n c) = true)
    ∧ (∃ (s : State) (j : Nat) (f : Nat), isSlot j = true ∧ (s.slot j).make = some f ∧ (f = 1 ∨ f = 2) ∧ s.feedOk j f = true)
    ∧ (∃ (s : State) (j : Nat), isSlot j = true ∧ s.rd fSLU_STAT_FEED j = 3 - (1 + s.rd fSLU_CFG_PRIO j)
      ∧ s.feedOk j (1 + s.rd fSLU_CFG_PRIO j) = true)
    ∧ (∃ (s : State) (j : Nat) (f : Nat), isSlot j = true ∧ (s.slot j).make = some f)
    ∧ (∃ (s : State) (j : Nat), isSlot j = true ∧ (s.slot j).make = none)
    ∧ (∃ (s : State) (j : Nat), isSlot j = true ∧ s.rd fSLU_STAT_FEED j ≠ 3 - (1 + s.rd fSLU_CFG_PRIO j))
    ∧ (∃ (s : State) (j : Nat), isSlot j = true ∧ (s.slot j).make = none ∧ s.feedOk j (1 + s.rd fSLU_CFG_PRIO j) = false)
    ∧ (∃ (s : State) (j : Nat), isSlot j = true ∧ s.rdb fSLU_STAT_PRES j = false ∧ s.slotPort j = none)
    ∧ (∃ (s : State) (j : Nat) (held : Bool), isSlot j = true ∧ s.rdb fSLU_STAT_PRES j = true ∧ (held = false ∨ (s.slot j).held = true))
    ∧ (∃ (s : State) (j : Nat), isSlot j = true ∧ s.rdb fSLU_STAT_PRES j = true ∧ (s.slot j).held = false)
    ∧ (∃ (s : State) (j : Nat), isSlot j = true ∧ s.rdb fSLU_STAT_PRES j = false)
    ∧ (∃ (s : State) (j : Nat), isSlot j = true ∧ s.rdb fSLU_STAT_PRES j = true ∧ (s.slot j).held = false ∧ s.rdb fSLU_CFG_AUTO j = true
      ∧ (s.slot j).waved = true ∧ (s.slot j).autoOff = false ∧ s.slotState j = 1 ∧ s.fed j = true ∧ s.slotPctl j = false
      ∧ s.ramping j < s.rd fSLU_CTL_MAXRAMP 0)
    ∧ (∃ (s : State) (j : Nat), isSlot j = true ∧ s.rdb fSLU_STAT_PRES j = true ∧ (s.slotState j = 2 ∨ s.slotState j = 3 ∨ s.slotState j = 4))
    ∧ (∃ (s : State) (j : Nat), isSlot j = true ∧ s.rdb fSLU_STAT_PRES j = true ∧ s.slotState j ≠ 2 ∧ s.slotState j ≠ 3 ∧ s.slotState j ≠ 4)
    ∧ (∃ (s : State) (j : Nat) (val : Nat), isSlot j = true ∧ val < 2 ^ 32 ∧ bitOf s.pwr.culvert (j / 8) = false ∧ sluCmd val 1 = true
      ∧ s.slotPctl j = false ∧ s.slotState j = 1 ∧ s.rdb fSLU_STAT_PRES j = true ∧ (s.slot j).held = true ∧ s.fed j = true
      ∧ s.ramping j < s.rd fSLU_CTL_MAXRAMP 0)
    ∧ (∃ (s : State) (j : Nat) (val : Nat), isSlot j = true ∧ val < 2 ^ 32 ∧ bitOf s.pwr.culvert (j / 8) = false ∧ sluCmd val 1 = true
      ∧ s.slotPctl j = false ∧ s.slotState j = 1 ∧ s.rdb fSLU_STAT_PRES j = true ∧ (s.slot j).held = true ∧ s.fed j = true
      ∧ s.rd fSLU_CTL_MAXRAMP 0 ≤ s.ramping j)
    ∧ (∃ (s : State) (j : Nat) (val : Nat), isSlot j = true ∧ val < 2 ^ 32 ∧ bitOf s.pwr.culvert (j / 8) = false ∧ s.slotPctl j = false
      ∧ sluCmd val 1 = true)
    ∧ (∃ (s : State) (j : Nat) (val : Nat), isSlot j = true ∧ val < 2 ^ 32 ∧ bitOf s.pwr.culvert (j / 8) = false ∧ s.slotPctl j = false
      ∧ sluCmd val 2 = true)
    ∧ (∃ (s : State) (j : Nat) (val : Nat), isSlot j = true ∧ val < 2 ^ 32 ∧ bitOf s.pwr.culvert (j / 8) = false ∧ sluCmd val 1 = false)
    ∧ (∃ (s : State) (j : Nat) (val : Nat), isSlot j = true ∧ val < 2 ^ 32 ∧ bitOf s.pwr.culvert (j / 8) = false ∧ sluCmd val 2 = false)
    ∧ (∃ (s : State) (j : Nat) (val : Nat), isSlot j = true ∧ val < 2 ^ 32 ∧ bitOf s.pwr.culvert (j / 8) = false ∧ sluCmd val 3 = false)
    ∧ (∃ (s : State) (j : Nat) (val : Nat) (low : Bool), isSlot j = true ∧ val < 2 ^ 32 ∧ bitOf s.pwr.culvert (j / 8) = false ∧ sluCmd val 4 = false)
    ∧ (∃ (s : State) (j : Nat) (val : Nat), isSlot j = true ∧ val < 2 ^ 32 ∧ bitOf s.pwr.culvert (j / 8) = false ∧ s.slotPctl j = true
      ∧ sluCmd val 1 = true)
    ∧ (∃ (s : State) (j : Nat) (val : Nat), isSlot j = true ∧ val < 2 ^ 32 ∧ bitOf s.pwr.culvert (j / 8) = false ∧ s.slotPctl j = true
      ∧ sluCmd val 2 = true)
    ∧ (∃ (s : State) (j : Nat) (val : Nat), isSlot j = true ∧ val < 2 ^ 32 ∧ bitOf s.pwr.culvert (j / 8) = false ∧ sluCmd val 2 = true
      ∧ s.slotPctl j = false ∧ s.slotState j = 4)
    ∧ (∃ (s : State) (j : Nat) (val : Nat), isSlot j = true ∧ val < 2 ^ 32 ∧ bitOf s.pwr.culvert (j / 8) = false ∧ sluCmd val 2 = true
      ∧ s.slotPctl j = false ∧ (s.slotState j = 2 ∨ s.slotState j = 3))
    ∧ (∃ (s : State) (j : Nat) (val : Nat), isSlot j = true ∧ val < 2 ^ 32 ∧ bitOf s.pwr.culvert (j / 8) = false ∧ sluCmd val 3 = true
      ∧ s.slotState j = 6)
    ∧ (∃ (s : State) (j : Nat) (val : Nat), isSlot j = true ∧ val < 2 ^ 32 ∧ bitOf s.pwr.culvert (j / 8) = false ∧ sluCmd val 3 = true
      ∧ s.slotState j ≠ 6)
    ∧ (∃ (s : State) (j : Nat) (val : Nat), isSlot j = true ∧ val < 2 ^ 32 ∧ bitOf s.pwr.culvert (j / 8) = false ∧ sluCmd val 4 = true
      ∧ s.slotState j = 7)
    ∧ (∃ (s : State) (j : Nat) (val : Nat) (low : Bool), isSlot j = true ∧ val < 2 ^ 32 ∧ bitOf s.pwr.culvert (j / 8) = false ∧ sluCmd val 4 = true
      ∧ s.slotState j ≠ 7)
    ∧ (∃ (s : State) (v : Nat), v < 8 ∧ (∀ j, s.rdb fSLU_CFG_AUTO j = false))
    ∧ (∃ (s : State) (j : Nat), isSlot j = true ∧ s.rdb fSLU_STAT_WAITRAMP j = true ∧ s.ramping j < s.rd fSLU_CTL_MAXRAMP 0 ∧ s.slotState j = 1
      ∧ s.rdb fSLU_STAT_PRES j = true ∧ (s.slot j).held = true ∧ s.fed j = true)
    ∧ (∃ (s : State) (j : Nat), isSlot j = true ∧ s.rdb fSLU_STAT_WAITRAMP j = true ∧ s.ramping j < s.rd fSLU_CTL_MAXRAMP 0)
    ∧ (∃ (s : State) (j : Nat), isSlot j = true ∧ s.rd fSLU_CTL_MAXRAMP 0 ≤ s.ramping j)
    ∧ (∃ (s : State) (j : Nat), isSlot j = true ∧ s.rdb fSLU_STAT_WAITRAMP j = false) :=
  ⟨⟨put (State.reset) [(fSPW_CTL_ARMED, 0, 1)], 0, 25, by decide +kernel⟩,
    ⟨put (State.reset) [(fSLU_STAT_STATE, 0, 1)], 0, 24, by decide +kernel⟩,
    ⟨put (State.reset) [(fSLU_STAT_STATE, 0, 4), (fSLU_STAT_STATE, 0, 1)], 0, 24, by decide +kernel⟩,
    ⟨put (State.reset) [(fSLU_STAT_STATE, 0, 1)], 0, 24, by decide +kernel⟩,
    ⟨put (State.reset) [(fPRT_SLOTCFG_SLOTEN, 0, 1), (fPRT_SLOTCFG_SLOT, 0, 0), (fPRT_SLOTCFG_PCTL, 0, 1), (fPRT_PORTCFG_ENABLE, 0, 1),
      (fPRT_PORTCFG_HPCAP, 0, 1)], 0, 1577058305, by decide +kernel⟩,
    ⟨(put (State.reset) [(fSLU_STAT_STATE, 0, 1)]).pwrMod fun p => { p with culvert := 33 }, 0, 1577058306, false, by decide +kernel⟩,
    ⟨put (State.reset) [(fSLU_FEED_UV, 0, 0)], 0, true, 0, by decide +kernel⟩,
    ⟨put (State.reset) [(fSLU_FEED_UV, 0, 10)], 0, false, 0, by decide +kernel⟩,
    ⟨put (State.reset) [(fSLU_FEED_UV, 0, 0)], 0, true, 0, by decide +kernel⟩,
    ⟨put (State.reset) [(fSLU_FEED_UV, 0, 0)], 0, true, 0, by decide +kernel⟩,
    ⟨put ({ slots := [(0, { make := some ((1)) })] : State }) [(fSLU_CFG_FEEDS, 0, 3), (fSLU_FEED_AGOOD, 0, 1)], 0, (1), by decide +kernel⟩,
    ⟨put (State.reset) [(fSLU_CFG_FEEDS, 0, 3), (fSLU_FEED_AGOOD, 0, 1), (fSLU_STAT_FEED, 0, 2)], 0, by decide +kernel⟩,
    ⟨put ({ slots := [(0, { make := some ((1)) })] : State }) [(fSLU_CFG_FEEDS, 0, 3), (fSLU_FEED_AGOOD, 0, 1)], 0, (1), by decide +kernel⟩,
    ⟨put (State.reset) [(fSLU_CFG_FEEDS, 0, 3), (fSLU_FEED_AGOOD, 0, 1), (fSLU_STAT_FEED, 0, 2)], 0, by decide +kernel⟩,
    ⟨put ({ slots := [(0, { held := true })] : State }) [(fSLU_CTL_MAXRAMP, 0, 1), (fSLU_STAT_STATE, 1, 2), (fSLU_STAT_STATE, 0, 1), (fSLU_STAT_PRES,
      0, 1), (fSLU_CFG_FEEDS, 0, 3), (fSLU_FEED_AGOOD, (0 / 8), 1)], 0, by decide +kernel⟩,
    ⟨{ slots := [(0, { make := none })] : State }, 0, by decide +kernel⟩,
    ⟨put (State.reset) [(fSLU_STAT_PRES, 0, 0)], 0, by decide +kernel⟩,
    ⟨put ({ slots := [(0, { held := true })] : State }) [(fSLU_CTL_MAXRAMP, 0, 1), (fSLU_STAT_STATE, 1, 2), (fSLU_STAT_STATE, 0, 1), (fSLU_STAT_PRES,
      0, 1), (fSLU_CFG_FEEDS, 0, 3), (fSLU_FEED_AGOOD, (0 / 8), 1)], 0, false, by decide +kernel⟩,
    ⟨put (State.reset) [(fSLU_STAT_PRES, 0, 1), (fSLU_STAT_STATE, 0, 2)], 0, by decide +kernel⟩,
    ⟨put (State.reset) [(fSLU_STAT_PRES, 0, 0)], 0, by decide +kernel⟩,
    ⟨put ({ slots := [(0, { held := false, waved := true, autoOff := false })] : State }) [(fSLU_STAT_PRES, 0, 1), (fSLU_CFG_AUTO, 0, 1),
      (fSLU_STAT_STATE, 0, 1), (fSLU_CFG_FEEDS, 0, 3), (fSLU_FEED_AGOOD, (0 / 8), 1)], 0, by decide +kernel⟩,
    ⟨put (State.reset) [(fSLU_STAT_PRES, 0, 1), (fSLU_STAT_STATE, 0, 2)], 0, by decide +kernel⟩,
    ⟨put ({ slots := [(0, { held := true })] : State }) [(fSLU_CTL_MAXRAMP, 0, 1), (fSLU_STAT_STATE, 1, 2), (fSLU_STAT_STATE, 0, 1), (fSLU_STAT_PRES,
      0, 1), (fSLU_CFG_FEEDS, 0, 3), (fSLU_FEED_AGOOD, (0 / 8), 1)], 0, by decide +kernel⟩,
    ⟨put ({ slots := [(0, { held := true })] : State }) [(fSLU_STAT_STATE, 0, 1), (fSLU_STAT_PRES, 0, 1), (fSLU_CFG_FEEDS, 0, 3), (fSLU_FEED_AGOOD,
      (0 / 8), 1)], 0, 1577058305, by decide +kernel⟩,
    ⟨put ({ slots := [(0, { held := true })] : State }) [(fSLU_CTL_MAXRAMP, 0, 1), (fSLU_STAT_STATE, 1, 2), (fSLU_STAT_STATE, 0, 1), (fSLU_STAT_PRES,
      0, 1), (fSLU_CFG_FEEDS, 0, 3), (fSLU_FEED_AGOOD, (0 / 8), 1)], 0, 1577058305, by decide +kernel⟩,
    ⟨{ slots := [(0, { make := none })] : State }, 0, 1577058305, by decide +kernel⟩,
    ⟨put (State.reset) [(fSLU_STAT_STATE, 0, 4)], 0, 1577058306, by decide +kernel⟩,
    ⟨put (State.reset) [(fSLU_STAT_STATE, 0, 6)], 0, 1577058307, by decide +kernel⟩,
    ⟨put (State.reset) [(fSLU_STAT_STATE, 0, 6)], 0, 1577058307, by decide +kernel⟩,
    ⟨put (State.reset) [(fSLU_STAT_PRES, 0, 1), (fSLU_STAT_STATE, 0, 2)], 0, 1577058308, by decide +kernel⟩,
    ⟨put (State.reset) [(fSLU_STAT_STATE, 0, 0)], 0, 1577058307, false, by decide +kernel⟩,
    ⟨put (State.reset) [(fPRT_SLOTCFG_SLOTEN, 0, 1), (fPRT_SLOTCFG_SLOT, 0, 0), (fPRT_SLOTCFG_PCTL, 0, 1), (fPRT_PORTCFG_ENABLE, 0, 1),
      (fPRT_PORTCFG_HPCAP, 0, 1)], 0, 1577058305, by decide +kernel⟩,
    ⟨put (State.reset) [(fPRT_SLOTCFG_SLOTEN, 0, 1), (fPRT_SLOTCFG_SLOT, 0, 0), (fPRT_SLOTCFG_PCTL, 0, 1), (fPRT_PORTCFG_ENABLE, 0, 1),
      (fPRT_PORTCFG_HPCAP, 0, 1)], 0, 1577058306, by decide +kernel⟩,
    ⟨put (State.reset) [(fSLU_STAT_STATE, 0, 4)], 0, 1577058306, by decide +kernel⟩,
    ⟨put (State.reset) [(fSLU_STAT_STATE, 0, 2)], 0, 1577058306, by decide +kernel⟩,
    ⟨put (State.reset) [(fSLU_STAT_STATE, 0, 6)], 0, 1577058307, by decide +kernel⟩,
    ⟨put (State.reset) [(fSLU_STAT_STATE, 0, 0)], 0, 1577058307, by decide +kernel⟩,
    ⟨put (State.reset) [(fSLU_STAT_STATE, 0, 7)], 0, 1577058308, by decide +kernel⟩,
    ⟨put (State.reset) [(fSLU_STAT_STATE, 0, 0)], 0, 1577058308, false, by decide +kernel⟩,
    ⟨State.reset, 0, by decide, fun _ => rfl⟩,
    ⟨put ({ slots := [(0, { held := true })] : State }) [(fSLU_STAT_WAITRAMP, 0, 1), (fSLU_STAT_STATE, 0, 1), (fSLU_STAT_PRES, 0, 1), (fSLU_CFG_FEEDS,
      0, 3), (fSLU_FEED_AGOOD, (0 / 8), 1)], 0, by decide +kernel⟩,
    ⟨put ({ slots := [(0, { held := true })] : State }) [(fSLU_STAT_WAITRAMP, 0, 1), (fSLU_STAT_STATE, 0, 1), (fSLU_STAT_PRES, 0, 1), (fSLU_CFG_FEEDS,
      0, 3), (fSLU_FEED_AGOOD, (0 / 8), 1)], 0, by decide +kernel⟩,
    ⟨put ({ slots := [(0, { held := true })] : State }) [(fSLU_CTL_MAXRAMP, 0, 1), (fSLU_STAT_STATE, 1, 2), (fSLU_STAT_STATE, 0, 1), (fSLU_STAT_PRES,
      0, 1), (fSLU_CFG_FEEDS, 0, 3), (fSLU_FEED_AGOOD, (0 / 8), 1)], 0, by decide +kernel⟩,
    ⟨put (State.reset) [(fSLU_STAT_WAITRAMP, 0, 0)], 0, by decide +kernel⟩⟩

/-- States and operands that meet the hypotheses of `Obligations.RampsAndTrips`, clause by clause. -/
theorem witness_RampsAndTrips :
    (∃ (s : State) (j : Nat) (vout : Nat) (cur : Nat), isSlot j = true ∧ vout < 4096 ∧ cur < 4096 ∧ s.slotState j = 2 ∧ (s.slot j).make = none
      ∧ s.rd fSLU_STAT_SEG j < 15)
    ∧ (∃ (s : State) (j : Nat) (vout : Nat) (cur : Nat), isSlot j = true ∧ vout < 4096 ∧ cur < 4096 ∧ s.slotState j = 2 ∧ (s.slot j).make = none
      ∧ s.rd fSLU_STAT_SEG j = 15)
    ∧ (∃ (s : State) (j : Nat) (vout : Nat) (cur : Nat), isSlot j = true ∧ vout < 4096 ∧ cur < 4096
      ∧ (s.slotState j ≠ 2 ∨ (s.slot j).make.isSome = true))
    ∧ (∃ (s : State) (j : Nat), isSlot j = true ∧ (s.slotState j = 2 ∨ s.slotState j = 3))
    ∧ (∃ (s : State) (j : Nat), isSlot j = true ∧ s.slotState j ≠ 2 ∧ s.slotState j ≠ 3)
    ∧ (∃ (s : State) (j : Nat) (vout : Nat) (cur : Nat) (vin : Nat), isSlot j = true ∧ vout < 4096 ∧ cur < 4096 ∧ vin < 4096 ∧ s.slotState j = 3
      ∧ s.voutGood j (s.voltAt j vout) = true ∧ s.rdb fSLU_STAT_FTIMER j = false
      ∧ 16 * s.curAt j cur ≤ s.rd fSLU_SLOW0_LEVEL j * s.rd fSLU_RATED_RATED j ∧ (s.slot j).make = none)
    ∧ (∃ (s : State) (j : Nat) (vout : Nat) (cur : Nat) (vin : Nat), isSlot j = true ∧ vout < 4096 ∧ cur < 4096 ∧ vin < 4096
      ∧ (s.slotState j ≠ 3 ∨ s.voutGood j (s.voltAt j vout) = false))
    ∧ (∃ (s : State) (j : Nat) (vout : Nat) (cur : Nat) (vin : Nat), isSlot j = true ∧ vout < 4096 ∧ cur < 4096 ∧ vin < 4096
      ∧ (s.rdb fSLU_STAT_FTIMER j = true ∨ (s.slot j).make.isSome = true))
    ∧ (∃ (s : State) (j : Nat), isSlot j = true ∧ s.slotState j = 5)
    ∧ (∃ (s : State) (j : Nat), isSlot j = true ∧ s.slotState j ≠ 5)
    ∧ (∃ (s : State) (j : Nat) (cur : Nat), isSlot j = true ∧ cur < 2 ^ 16 ∧ s.rd fSLU_TRIPCFG_FTMULT j * s.rd fSLU_RATED_RATED j < 4 * cur
      ∧ s.driving j = true)
    ∧ (∃ (s : State) (j : Nat) (cur : Nat), isSlot j = true ∧ cur < 2 ^ 16 ∧ s.rd fSLU_TRIPCFG_FTMULT j * s.rd fSLU_RATED_RATED j < 4 * cur)
    ∧ (∃ (s : State) (j : Nat) (cur : Nat), isSlot j = true ∧ cur < 2 ^ 16 ∧ 4 * cur ≤ s.rd fSLU_TRIPCFG_FTMULT j * s.rd fSLU_RATED_RATED j)
    ∧ (∃ (s : State) (j : Nat) (k : Nat) (cur : Nat), isSlot j = true ∧ k < 4 ∧ cur < 4096 ∧ s.driving j = true
      ∧ s.rd (slowLevel k) j * s.rd fSLU_RATED_RATED j < 16 * s.curAt j cur)
    ∧ (∃ (s : State) (j : Nat) (k : Nat) (cur : Nat), isSlot j = true ∧ k < 4 ∧ cur < 4096
      ∧ (s.driving j = false ∨ 16 * s.curAt j cur ≤ s.rd (slowLevel k) j * s.rd fSLU_RATED_RATED j))
    ∧ (∃ (s : State) (j : Nat) (vout : Nat), isSlot j = true ∧ vout < 4096 ∧ 100 * s.voltAt j vout < s.rd fSLU_PGCFG_PGLO j * s.rd fSLU_VNOM_VNOM j
      ∧ s.slotState j = 4 ∧ (s.slot j).make = none)
    ∧ (∃ (s : State) (j : Nat) (vout : Nat), isSlot j = true ∧ vout < 4096
      ∧ (s.rd fSLU_PGCFG_PGLO j * s.rd fSLU_VNOM_VNOM j ≤ 100 * s.voltAt j vout ∨ (s.slotState j = 4
      ∧ (s.slot j).make.isSome = true) ∨ (s.slotState j = 3 ∧ s.fed j = true) ∨ (s.slotState j ≠ 3 ∧ s.slotState j ≠ 4)))
    ∧ (∃ (s : State) (j : Nat) (vout : Nat), isSlot j = true ∧ vout < 4096 ∧ 100 * s.voltAt j vout < s.rd fSLU_PGCFG_PGLO j * s.rd fSLU_VNOM_VNOM j
      ∧ s.slotState j = 3 ∧ s.fed j = false)
    ∧ (∃ (s : State) (j : Nat) (vout : Nat), isSlot j = true ∧ vout < 4096 ∧ s.rd fSLU_PGCFG_PGOV j * s.rd fSLU_VNOM_VNOM j < 100 * s.voltAt j vout
      ∧ (s.slotState j = 3 ∨ s.slotState j = 4) ∧ (s.slot j).make = none)
    ∧ (∃ (s : State) (j : Nat) (vout : Nat), isSlot j = true ∧ vout < 4096
      ∧ (100 * s.voltAt j vout ≤ s.rd fSLU_PGCFG_PGOV j * s.rd fSLU_VNOM_VNOM j ∨ (s.slot j).make.isSome = true ∨ (s.slotState j ≠ 3
      ∧ s.slotState j ≠ 4)))
    ∧ (∃ (s : State) (j : Nat) (vout : Nat), isSlot j = true ∧ vout < 4096 ∧ 1000 < s.voltAt j vout ∧ (s.slotState j = 1 ∨ s.slotState j = 6))
    ∧ (∃ (s : State) (j : Nat) (vout : Nat), isSlot j = true ∧ vout < 4096 ∧ (s.voltAt j vout ≤ 1000 ∨ (s.slotState j ≠ 1 ∧ s.slotState j ≠ 6))) :=
  ⟨⟨put (State.reset) [(fSLU_STAT_STATE, 0, 2)], 0, 0, 0, by decide +kernel⟩,
    ⟨put (State.reset) [(fSLU_STAT_STATE, 0, 2), (fSLU_STAT_SEG, 0, 15)], 0, 0, 0, by decide +kernel⟩,
    ⟨put (State.reset) [(fSLU_STAT_STATE, 0, 3)], 0, 0, 0, by decide +kernel⟩,
    ⟨put (State.reset) [(fSLU_STAT_STATE, 0, 2)], 0, by decide +kernel⟩,
    ⟨put (State.reset) [(fSLU_STAT_STATE, 0, 0)], 0, by decide +kernel⟩,
    ⟨put (State.reset) [(fSLU_STAT_STATE, 0, 3), (fSLU_VNOM_VNOM, 0, 12000), (fSLU_VNOM_VFS, 0, 16384), (fSLU_PGCFG_PGLO, 0, 90), (fSLU_PGCFG_PGOV, 0,
      110), (fSLU_RATED_RATED, 0, 100), (fSLU_RATED_ISFS, 0, 4096), (fSLU_SLOW0_LEVEL, 0, 20)], 0, 3000, 0, 0, by decide +kernel⟩,
    ⟨put (State.reset) [(fSLU_STAT_STATE, 0, 3), (fSLU_VNOM_VNOM, 0, 12000), (fSLU_VNOM_VFS, 0, 16384), (fSLU_PGCFG_PGLO, 0, 90), (fSLU_PGCFG_PGOV, 0,
      110), (fSLU_RATED_RATED, 0, 100), (fSLU_RATED_ISFS, 0, 4096), (fSLU_SLOW0_LEVEL, 0, 20)], 0, 0, 0, 0, by decide +kernel⟩,
    ⟨put (State.reset) [(fSLU_STAT_FTIMER, 0, 1), (fSLU_STAT_STATE, 0, 1), (fSLU_VNOM_VNOM, 0, 12000), (fSLU_VNOM_VFS, 0, 16384), (fSLU_PGCFG_PGLO, 0,
      90), (fSLU_PGCFG_PGOV, 0, 110), (fSLU_RATED_RATED, 0, 100), (fSLU_RATED_ISFS, 0, 4096), (fSLU_SLOW0_LEVEL, 0, 20)], 0, 0, 4095, 0,
      by decide +kernel⟩,
    ⟨put (State.reset) [(fSLU_STAT_STATE, 0, 5)], 0, by decide +kernel⟩,
    ⟨put (State.reset) [(fSLU_STAT_STATE, 0, 0)], 0, by decide +kernel⟩,
    ⟨put (State.reset) [(fSLU_STAT_STATE, 0, 4)], 0, 65535, by decide +kernel⟩,
    ⟨put (State.reset) [(fSLU_STAT_STATE, 0, 4)], 0, 65535, by decide +kernel⟩,
    ⟨State.reset, 0, 0, by decide +kernel⟩,
    ⟨put (State.reset) [(fSLU_STAT_STATE, 0, 4), (fSLU_VNOM_VNOM, 0, 12000), (fSLU_VNOM_VFS, 0, 16384), (fSLU_PGCFG_PGLO, 0, 90), (fSLU_PGCFG_PGOV, 0,
      110), (fSLU_RATED_RATED, 0, 100), (fSLU_RATED_ISFS, 0, 4096), (fSLU_SLOW0_LEVEL, 0, 20)], 0, 0, 4095, by decide +kernel⟩,
    ⟨put (State.reset) [(fSLU_STAT_STATE, 0, 1), (fSLU_VNOM_VNOM, 0, 12000), (fSLU_VNOM_VFS, 0, 16384), (fSLU_PGCFG_PGLO, 0, 90), (fSLU_PGCFG_PGOV, 0,
      110), (fSLU_RATED_RATED, 0, 100), (fSLU_RATED_ISFS, 0, 4096), (fSLU_SLOW0_LEVEL, 0, 20)], 0, 0, 4095, by decide +kernel⟩,
    ⟨put (State.reset) [(fSLU_STAT_STATE, 0, 4), (fSLU_VNOM_VNOM, 0, 12000), (fSLU_VNOM_VFS, 0, 16384), (fSLU_PGCFG_PGLO, 0, 90), (fSLU_PGCFG_PGOV, 0,
      110), (fSLU_RATED_RATED, 0, 100), (fSLU_RATED_ISFS, 0, 4096), (fSLU_SLOW0_LEVEL, 0, 20)], 0, 0, by decide +kernel⟩,
    ⟨put (State.reset) [(fSLU_STAT_STATE, 0, 1), (fSLU_VNOM_VNOM, 0, 12000), (fSLU_VNOM_VFS, 0, 16384), (fSLU_PGCFG_PGLO, 0, 90), (fSLU_PGCFG_PGOV, 0,
      110), (fSLU_RATED_RATED, 0, 100), (fSLU_RATED_ISFS, 0, 4096), (fSLU_SLOW0_LEVEL, 0, 20)], 0, 0, by decide +kernel⟩,
    ⟨put (State.reset) [(fSLU_STAT_STATE, 0, 3), (fSLU_VNOM_VNOM, 0, 12000), (fSLU_VNOM_VFS, 0, 16384), (fSLU_PGCFG_PGLO, 0, 90), (fSLU_PGCFG_PGOV, 0,
      110), (fSLU_RATED_RATED, 0, 100), (fSLU_RATED_ISFS, 0, 4096), (fSLU_SLOW0_LEVEL, 0, 20)], 0, 0, by decide +kernel⟩,
    ⟨put (State.reset) [(fSLU_STAT_STATE, 0, 4), (fSLU_VNOM_VNOM, 0, 12000), (fSLU_VNOM_VFS, 0, 16384), (fSLU_PGCFG_PGLO, 0, 90), (fSLU_PGCFG_PGOV, 0,
      110), (fSLU_RATED_RATED, 0, 100), (fSLU_RATED_ISFS, 0, 4096), (fSLU_SLOW0_LEVEL, 0, 20)], 0, 4095, by decide +kernel⟩,
    ⟨put (State.reset) [(fSLU_STAT_STATE, 0, 4), (fSLU_VNOM_VNOM, 0, 12000), (fSLU_VNOM_VFS, 0, 16384), (fSLU_PGCFG_PGLO, 0, 90), (fSLU_PGCFG_PGOV, 0,
      110), (fSLU_RATED_RATED, 0, 100), (fSLU_RATED_ISFS, 0, 4096), (fSLU_SLOW0_LEVEL, 0, 20)], 0, 3000, by decide +kernel⟩,
    ⟨put (State.reset) [(fSLU_STAT_STATE, 0, 1), (fSLU_VNOM_VNOM, 0, 12000), (fSLU_VNOM_VFS, 0, 16384), (fSLU_PGCFG_PGLO, 0, 90), (fSLU_PGCFG_PGOV, 0,
      110), (fSLU_RATED_RATED, 0, 100), (fSLU_RATED_ISFS, 0, 4096), (fSLU_SLOW0_LEVEL, 0, 20)], 0, 3000, by decide +kernel⟩,
    ⟨State.reset, 0, 0, by decide +kernel⟩⟩

/-- States and operands that meet the hypotheses of `Obligations.SnapshotsAndDumps`, clause by clause. -/
theorem witness_SnapshotsAndDumps :
    (∃ (s : State) (val : Nat), val < 2 ^ 32 ∧ bitsOf val 24 8 = 0xF1 ∧ bitOf val 0 = true ∧ s.flm.dump0 = none ∧ s.flm.dump1 = none
      ∧ s.flm.waits = [] ∧ s.swc = {} ∧ s.rdb fFLM_RING_EN 0 = false)
    ∧ (∃ (s : State) (val : Nat), val < 2 ^ 32 ∧ bitsOf val 24 8 = 0xF1 ∧ bitOf val 0 = true ∧ s.bankHeld 0 = true ∧ s.bankHeld 1 = true)
    ∧ (∃ (s : State) (val : Nat), val < 2 ^ 32 ∧ bitsOf val 24 8 = 0xF1 ∧ bitOf val 0 = true)
    ∧ (∃ (s : State) (val : Nat), val < 2 ^ 32 ∧ (bitsOf val 24 8 ≠ 0xF1 ∨ bitOf val 0 = false))
    ∧ (∃ (s : State) (r : Nat) (d : Dump) (n : Snap) (u : Bool × State), r < 2 ∧ s.dumpOn r = some d ∧ s.bank d.bank = some n ∧ d.body = false
      ∧ d.denied = false ∧ u = (s.setDump r (some { d with body := true })).dumpLines r d n [0, 1, 2, 3])
    ∧ (∃ (s : State) (r : Nat) (d : Dump) (n : Snap), r < 2 ∧ s.dumpOn r = some d ∧ s.bank d.bank = some n ∧ d.body = false ∧ d.denied = true)
    ∧ (∃ (s : State) (r : Nat) (d : Dump), r < 2 ∧ s.dumpOn r = some d ∧ (s.bank d.bank = none ∨ d.body = true))
    ∧ (∃ (s : State) (r : Nat) (d : Dump) (n : Snap), r < 2 ∧ s.dumpOn r = some d ∧ s.bank d.bank = some n ∧ d.body = false
      ∧ s.rdb fFLM_RING_SPACE r = true ∧ s.upstream (s.rd fFLM_RING_PORT r) = false ∧ s.flm.waits = [])
    ∧ (∃ (s : State) (r : Nat) (d : Dump), r < 2 ∧ s.dumpOn r = some d ∧ d.body = true ∧ d.denied = false ∧ s.flm.waits = [])
    ∧ (∃ (s : State) (r : Nat) (d : Dump), r < 2 ∧ s.dumpOn r = some d ∧ d.body = true ∧ d.denied = true)
    ∧ (∃ (s : State) (r : Nat) (d : Dump), r < 2 ∧ s.dumpOn r = some d ∧ d.body = false)
    ∧ (∃ (s : State) (r : Nat) (d : Dump), r < 2 ∧ s.dumpOn r = some d)
    ∧ (∃ (s : State) (r : Nat) (d : Dump), r < 2 ∧ s.dumpOn r = some d ∧ s.flm.waits = [])
    ∧ (∃ (s : State) (r : Nat), r < 2 ∧ s.dumpOn r = none)
    ∧ (∃ (s : State) (r : Nat) (d : Dump), r < 2 ∧ s.dumpOn r = some d ∧ d.late = false)
    ∧ (∃ (s : State) (r : Nat) (b : Nat), r < 2 ∧ s.dumpOn r = none ∧ s.flm.waits = [(r, b, false)])
    ∧ (∃ (s : State) (r : Nat), r < 2 ∧ (s.dumpOn r = none ∨ (∃ d, s.dumpOn r = some d ∧ d.late = true)) ∧ (∀ w ∈ s.flm.waits,
      w.1 = r → w.2.2 = true))
    ∧ (∃ (s : State) (r : Nat) (d : Dump) (b : Nat), r < 2 ∧ s.dumpOn r = some d ∧ d.late = true ∧ s.flm.waits = [(r, b, false)])
    ∧ (∃ (s : State) (val : Nat), val < 2 ^ 32 ∧ bitsOf val 24 8 = 0xD3 ∧ bitsOf val 0 14 < 12288)
    ∧ (∃ (s : State) (val : Nat), val < 2 ^ 32 ∧ bitsOf val 24 8 = 0xD3 ∧ 12288 ≤ bitsOf val 0 14)
    ∧ (∃ (s : State) (val : Nat), val < 2 ^ 32 ∧ bitsOf val 24 8 ≠ 0xD3)
    ∧ (∃ (s : State) (c : Nat) (word : Nat) (val : Nat), 8448 ≤ c ∧ c < 12288 ∧ word < 2 ∧ val < 2 ^ 32
      ∧ (s.takeWord (wordFields 0x1410000 word 2) (c - 8448) val).flmSlotClash = true)
    ∧ (∃ (s : State) (c : Nat) (val : Nat), 8448 ≤ c ∧ c < 12288 ∧ val < 2 ^ 32 ∧ flmEvtOk c val = false)
    ∧ (∃ (s : State) (f : Nat) (word : Nat) (val : Nat), f < 256 ∧ (word < 4 ∨ word = 5 ∨ word = 7) ∧ val < 2 ^ 32
      ∧ s.discards (wordFields 0x1420000 word 8) f val = true)
    ∧ (∃ (s : State) (c : Nat) (word : Nat) (val : Nat), 8448 ≤ c ∧ c < 12288 ∧ word < 2 ∧ val < 2 ^ 32
      ∧ s.discards (wordFields 0x1410000 word 2) (c - 8448) val = false ∧ word = 0 ∧ flmEvtOk c val = false)
    ∧ (∃ (s : State) (c : Nat) (word : Nat) (val : Nat), 8448 ≤ c ∧ c < 12288 ∧ word < 2 ∧ val < 2 ^ 32
      ∧ s.discards (wordFields 0x1410000 word 2) (c - 8448) val = false ∧ (word = 1 ∨ flmEvtOk c val = true)
      ∧ (s.takeWord (wordFields 0x1410000 word 2) (c - 8448) val).flmSlotClash = false)
    ∧ (∃ (s : State) (t : State) (f : Nat) (word : Nat) (val : Nat), f < 256 ∧ word < 4 ∧ val < 2 ^ 32
      ∧ s.discards (wordFields 0x1420000 word 8) f val = false ∧ t = s.takeWord (wordFields 0x1420000 word 8) f val ∧ t.filtOk f = true
      ∧ t.flmSlotClash = false)
    ∧ (∃ (s : State) (t : State) (f : Nat) (word : Nat) (val : Nat), f < 256 ∧ word < 4 ∧ val < 2 ^ 32
      ∧ s.discards (wordFields 0x1420000 word 8) f val = false ∧ t = s.takeWord (wordFields 0x1420000 word 8) f val
      ∧ (t.filtOk f = false ∨ t.flmSlotClash = true))
    ∧ (∃ (s : State) (f : Nat) (word : Nat) (val : Nat), f < 256 ∧ (word = 4 ∨ word = 6) ∧ val < 2 ^ 32)
    ∧ (∃ (s : State) (u : State) (t : State) (f : Nat) (word : Nat) (val : Nat), f < 256 ∧ (word = 5 ∨ word = 7) ∧ val < 2 ^ 32
      ∧ s.discards (wordFields 0x1420000 word 8) f val = false
      ∧ u = s.takeStaged (0x1420000 + 0x20 * f + 4 * word - 4) f (wordFields 0x1420000 (word - 1) 8)
      ∧ t = u.takeWord (wordFields 0x1420000 word 8) f val ∧ t.filtOk f = true ∧ t.flmSlotClash = false)
    ∧ (∃ (s : State) (u : State) (t : State) (f : Nat) (word : Nat) (val : Nat), f < 256 ∧ (word = 5 ∨ word = 7) ∧ val < 2 ^ 32
      ∧ s.discards (wordFields 0x1420000 word 8) f val = false
      ∧ u = s.takeStaged (0x1420000 + 0x20 * f + 4 * word - 4) f (wordFields 0x1420000 (word - 1) 8)
      ∧ t = u.takeWord (wordFields 0x1420000 word 8) f val ∧ (t.filtOk f = false ∨ t.flmSlotClash = true))
    ∧ (∃ (s : State) (t : State) (f : Nat) (low : Nat) (val : Nat), f < 256 ∧ val < 2 ^ 32 ∧ SMap.get 0 s.stage (0x1420010 + 0x20 * f) = low + 1
      ∧ s.discards (wordFields 0x1420000 5 8) f val = false
      ∧ t = (s.takeStaged (0x1420010 + 0x20 * f) f (wordFields 0x1420000 4 8)).takeWord (wordFields 0x1420000 5 8) f val ∧ t.filtOk f = true
      ∧ t.flmSlotClash = false)
    ∧ (∃ (s : State) (r : Nat) (val : Nat), r < 2 ∧ val < 2 ^ 32 ∧ s.discards (wordFields 0x1400040 0 8) r val = false ∧ s.dumpOn r = none
      ∧ bitOf val 0 = true)
    ∧ (∃ (s : State) (r : Nat) (val : Nat) (d : Dump), r < 2 ∧ val < 2 ^ 32 ∧ s.discards (wordFields 0x1400040 0 8) r val = false
      ∧ s.dumpOn r = some d ∧ bitOf val 0 = true)
    ∧ (∃ (s : State) (r : Nat) (val : Nat) (d : Dump), r < 2 ∧ val < 2 ^ 32 ∧ s.discards (wordFields 0x1400040 0 8) r val = false
      ∧ s.dumpOn r = some d ∧ bitOf val 0 = false ∧ s.flm.waits = [])
    ∧ (∃ (s : State) (r : Nat) (word : Nat) (val : Nat), r < 2 ∧ word < 8 ∧ val < 2 ^ 32
      ∧ (s.discards (wordFields 0x1400040 word 8) r val = true ∨ 2 < word))
    ∧ (∃ (s : State) (r : Nat) (word : Nat) (val : Nat) (d : Dump), r < 2 ∧ (word = 1 ∨ word = 2) ∧ val < 2 ^ 32
      ∧ s.discards (wordFields 0x1400040 word 8) r val = false ∧ s.dumpOn r = some d)
    ∧ (∃ (s : State) (r : Nat) (val : Nat), r < 2 ∧ val < 2 ^ 32 ∧ s.dumpOn r = none ∧ s.discards (wordFields 0x1400040 1 8) r val = false)
    ∧ (∃ (s : State) (r : Nat) (val : Nat), r < 2 ∧ val < 2 ^ 32 ∧ s.dumpOn r = none ∧ s.discards (wordFields 0x1400040 2 8) r val = false)
    ∧ (∃ (s : State) (r : Nat) (val : Nat), r < 2 ∧ val < 2 ^ 32 ∧ s.dumpOn r = none ∧ s.discards (wordFields 0x1400040 0 8) r val = false
      ∧ bitOf val 0 = false)
    ∧ (∃ (s : State) (p : Nat) (tag : Nat), p < 64 ∧ tag < 2 ^ 64 ∧ (∀ o ∈ s.swc.owed, o.x ≠ p ∨ o.m.tag ≠ tag ∨ (o.m.src ≠ 0x7F ∧ ¬ (0x40 ≤ o.m.src
      ∧ o.m.src < 0x50))))
    ∧ (∃ (s : State) (p : Nat) (o : Owed), p < 64 ∧ o.m.tag < 2 ^ 64 ∧ s.swc.owed = [o] ∧ o.x = p ∧ 0x40 ≤ o.m.src ∧ o.m.src < 0x50)
    ∧ (∃ (s : State) (p : Nat) (tag : Nat), p < 64 ∧ tag < 2 ^ 64 ∧ s.swc.owed = [])
    ∧ (∃ (s : State) (p : Nat) (o : Owed) (d : Dump), p < 64 ∧ s.swc.owed = [o] ∧ o.x = p ∧ o.m.tag = dumpTag 0 ∧ o.m.src = 0x7F
      ∧ s.flm.dump0 = some d ∧ d.bank = 0 ∧ s.flm.dump1 = none ∧ s.flm.waits = []) :=
  ⟨⟨put ({ flm := { dump0 := none, dump1 := none, waits := [] }, swc := {} : State }) [(fFLM_RING_EN, 0, 0)], 4043309057, by decide +kernel⟩,
    ⟨{ flm := { dump0 := some ({ bank := 0, seq := 1 } : Dump), dump1 := some ({ bank := 1, seq := 1 } : Dump) } : State }, 4043309057,
      by decide +kernel⟩,
    ⟨{ swc := { owed := [] } : State }, 4043309057, by decide +kernel⟩,
    ⟨State.reset, 3540004864, by decide +kernel⟩,
    ⟨put ({ flm := { dump0 := some ({ bank := 0, seq := 1 } : Dump), waits := [], bank0 := some {} } : State }) [(fFLM_RING_SPACE, 0, 1)], 0,
      ((put ({ flm := { dump0 := some ({ bank := 0, seq := 1 } : Dump), waits := [], bank0 := some {} } : State }) [(fFLM_RING_SPACE, 0,
      1)]).dumpOn 0).get (by decide +kernel),
      ((put ({ flm := { dump0 := some ({ bank := 0, seq := 1 } : Dump), waits := [], bank0 := some {} } : State }) [(fFLM_RING_SPACE, 0,
      1)]).bank (((put ({ flm := { dump0 := some ({ bank := 0, seq := 1 } : Dump), waits := [], bank0 := some {} } : State }) [(fFLM_RING_SPACE, 0,
      1)]).dumpOn 0).get (by decide +kernel)).bank).get (by decide +kernel),
      ((put ({ flm := { dump0 := some ({ bank := 0, seq := 1 } : Dump), waits := [], bank0 := some {} } : State }) [(fFLM_RING_SPACE, 0,
      1)]).setDump 0 (some { (((put ({ flm := { dump0 := some ({ bank := 0, seq := 1 } : Dump), waits := [], bank0 := some {} } : State }) [(fFLM_RING_SPACE, 0, 1)]).dumpOn 0).get (by decide +kernel)) with body := true })).dumpLines 0 (((put ({ flm := { dump0 := some ({ bank := 0, seq := 1 } : Dump), waits := [], bank0 := some {} } : State }) [(fFLM_RING_SPACE,
      0,
      1)]).dumpOn 0).get (by decide +kernel)) (((put ({ flm := { dump0 := some ({ bank := 0, seq := 1 } : Dump), waits := [], bank0 := some {} } : State }) [(fFLM_RING_SPACE,
      0, 1)]).bank (((put ({ flm := { dump0 := some ({ bank := 0, seq := 1 } : Dump), waits := [], bank0 := some {} } : State }) [(fFLM_RING_SPACE, 0,
      1)]).dumpOn 0).get (by decide +kernel)).bank).get (by decide +kernel)) [0, 1, 2, 3], by decide +kernel⟩,
    ⟨{ flm := { bank0 := some {}, dump0 := some { bank := 0, seq := 1, denied := true } } : State }, 0,
      ({ bank := 0, seq := 1, denied := true } : Dump), ({} : Snap), by decide +kernel⟩,
    ⟨{ flm := { dump0 := some (({ bank := 0, seq := 1, body := true } : Dump)), waits := [] } : State }, 0,
      ({ bank := 0, seq := 1, body := true } : Dump), by decide +kernel⟩,
    ⟨put ({ flm := { dump0 := some ({ bank := 0, seq := 1 } : Dump), waits := [], bank0 := some {} } : State }) [(fFLM_RING_SPACE, 0, 1)], 0,
      ({ bank := 0, seq := 1 } : Dump), ({} : Snap), by decide +kernel⟩,
    ⟨{ flm := { dump0 := some (({ bank := 0, seq := 1, body := true } : Dump)), waits := [] } : State }, 0,
      ({ bank := 0, seq := 1, body := true } : Dump), by decide +kernel⟩,
    ⟨{ flm := { dump0 := some { bank := 0, seq := 1, body := true, denied := true } } : State }, 0,
      ({ bank := 0, seq := 1, body := true, denied := true } : Dump), by decide +kernel⟩,
    ⟨{ flm := { dump0 := some ({ bank := 0, seq := 1 }) } : State }, 0, { bank := 0, seq := 1 }, by decide +kernel⟩,
    ⟨{ flm := { dump0 := some ({ bank := 0, seq := 1 }) } : State }, 0,
      (({ flm := { dump0 := some ({ bank := 0, seq := 1 }) } : State }).dumpOn 0).get (by decide +kernel), by decide +kernel⟩,
    ⟨{ flm := { dump0 := some ({ bank := 0, seq := 1 }), waits := [] } : State }, 0, { bank := 0, seq := 1 }, by decide +kernel⟩,
    ⟨{ flm := { dump0 := none } : State }, 0, by decide +kernel⟩,
    ⟨{ flm := { dump0 := some ({ bank := 0, seq := 1 }) } : State }, 0, { bank := 0, seq := 1 }, by decide +kernel⟩,
    ⟨{ flm := { dump0 := none, waits := [(0, 0, false)] } : State }, 0, 0, by decide +kernel⟩,
    ⟨{ swc := { owed := [] } : State }, 0, by decide +kernel⟩,
    ⟨{ flm := { dump0 := some { bank := 0, seq := 1, late := true }, waits := [(0, 1, false)] } : State }, 0,
      ({ bank := 0, seq := 1, late := true } : Dump), 1, by decide +kernel⟩,
    ⟨State.reset, 3539992576, by decide +kernel⟩,
    ⟨State.reset, 3540004864, by decide +kernel⟩,
    ⟨State.reset, 0, by decide +kernel⟩,
    ⟨put State.reset [(fFLM_EVT_VIS, 1, 1), (fFLM_EVT_FEN, 0, 1), (fFLM_EVT_FEN, 1, 1), (fFLM_FILT_INITMODE, 0, 2)], 8448, 1, 1, by decide +kernel⟩,
    ⟨State.reset, 8448, 0, by decide +kernel⟩,
    ⟨State.reset, 0, 0, 786432, by decide +kernel⟩,
    ⟨State.reset, 8448, (0), 0, by decide +kernel⟩,
    ⟨State.reset, 8448, (1), 0, by decide +kernel⟩,
    ⟨State.reset, ((State.reset).takeWord (wordFields 0x1420000 0 8) 0 0), 0, 0, 0, by and_intros <;> first | rfl | decide +kernel⟩,
    ⟨put State.reset [(fFLM_FILT_ADDRLO_H, 0, 1048575)], (put State.reset [(fFLM_FILT_ADDRLO_H, 0,
      1048575)]).takeWord (wordFields 0x1420000 (0) 8) 0 0, 0, (0), 0, by decide +kernel⟩,
    ⟨State.reset, 0, (4), 0, by decide +kernel⟩,
    ⟨{ swc := { owed := [] } : State },
      ({ swc := { owed := [] } : State }).takeStaged (0x1420000 + 0x20 * 0 + 4 * 7 - 4) 0 (wordFields 0x1420000 (7 - 1) 8),
      (({ swc := { owed := [] } : State }).takeStaged (0x1420000 + 0x20 * 0 + 4 * 7 - 4) 0 (wordFields 0x1420000 (7 - 1) 8)).takeWord (wordFields 0x1420000 7 8) 0 0,
      0, 7, 0, by decide +kernel⟩,
    ⟨{ flm := { dump0 := some ({ bank := 0, seq := 1 } : Dump), dump1 := some ({ bank := 1, seq := 1 } : Dump) } : State },
      ({ flm := { dump0 := some ({ bank := 0, seq := 1 } : Dump), dump1 := some ({ bank := 1, seq := 1 } : Dump) } : State }).takeStaged (0x1420000 + 0x20 * 0 + 4 * 5 - 4) 0 (wordFields 0x1420000 (5 - 1) 8),
      (({ flm := { dump0 := some ({ bank := 0, seq := 1 } : Dump), dump1 := some ({ bank := 1, seq := 1 } : Dump) } : State }).takeStaged (0x1420000 + 0x20 * 0 + 4 * 5 - 4) 0 (wordFields 0x1420000 (5 - 1) 8)).takeWord (wordFields 0x1420000 5 8) 0 4043309057,
      0, 5, 4043309057, by decide +kernel⟩,
    ⟨{ stage := [(0x1420010, 1)] : State },
      ((({ stage := [(0x1420010, 1)] : State }).takeStaged (0x1420010 + 0x20 * 0) 0 (wordFields 0x1420000 4 8)).takeWord (wordFields 0x1420000 5 8) 0 0),
      0, 0, 0, by and_intros <;> first | rfl | decide +kernel⟩,
    ⟨{ flm := { dump0 := none } : State }, 0, 1, by decide +kernel⟩,
    ⟨{ flm := { dump0 := some ({ bank := 0, seq := 1 }) } : State }, 0, 1, { bank := 0, seq := 1 }, by decide +kernel⟩,
    ⟨{ flm := { dump0 := some ({ bank := 0, seq := 1 }), waits := [] } : State }, 0, 0, { bank := 0, seq := 1 }, by decide +kernel⟩,
    ⟨{ flm := { dump0 := none } : State }, 0, 3, 1, by decide +kernel⟩,
    ⟨put ({ flm := { dump0 := some ({ bank := 0, seq := 1 } : Dump), waits := [], bank0 := some {} } : State }) [(fFLM_RING_SPACE, 0, 1)], 0, 2, 0,
      ((put ({ flm := { dump0 := some ({ bank := 0, seq := 1 } : Dump), waits := [], bank0 := some {} } : State }) [(fFLM_RING_SPACE, 0,
      1)]).dumpOn 0).get (by decide +kernel), by decide +kernel⟩,
    ⟨{ flm := { dump0 := none } : State }, 0, 1, by decide +kernel⟩,
    ⟨{ flm := { dump0 := none } : State }, 0, 1, by decide +kernel⟩,
    ⟨{ flm := { dump0 := none, waits := [(0, 0, false)] } : State }, 0, 0, by decide +kernel⟩,
    ⟨{ swc := { owed := [] } : State }, 0, 0, by decide +kernel⟩,
    ⟨{ swc := { owed := [({ x := 0, m := { kind := .ioNonPosted, tag := 0, src := 0x40 } } : Owed)] } : State }, 0,
      ({ x := 0, m := { kind := .ioNonPosted, tag := 0, src := 0x40 } } : Owed), by decide +kernel⟩,
    ⟨{ swc := { owed := [] } : State }, 0, 0, by decide +kernel⟩,
    ⟨{ swc := { owed := [(({ x := 0, m := { kind := .ioNonPosted, tag := dumpTag 0, src := 0x7F } } : Owed))] }, flm := { dump0 := some (({ bank := 0, seq := 1 } : Dump)), dump1 := none, waits := [] } : State },
      0, ({ x := 0, m := { kind := .ioNonPosted, tag := dumpTag 0, src := 0x7F } } : Owed), ({ bank := 0, seq := 1 } : Dump), by decide +kernel⟩⟩

/-- States and operands that meet the hypotheses of `Obligations.DictionaryRequests`, clause by clause. -/
theorem witness_DictionaryRequests :
    (∃ (s : State) (seg : Nat) (mac : Nat) (body : List Byte) (b : Body), frameOk seg mac = true ∧ parseBody body = some b ∧ b.kind = 1
      ∧ b.node = s.ownNode ∧ b.any = false ∧ b.op = 1 ∧ b.index = 0x1100 ∧ b.sub = 0 ∧ b.offset = 0
      ∧ s.serves { path := seg, mac := mac, port := 0, tag := b.tag } 0x1100 ∧ s.pwr.silent = false)
    ∧ (∃ (s : State) (seg : Nat) (mac : Nat) (bcast : Bool) (body : List Byte) (good : Bool) (hang : Bool), frameOk seg mac = true)
    ∧ (∃ (s : State) (seg : Nat) (mac : Nat) (ether : Nat) (bcast : Bool) (body : List Byte), frameOk seg mac = true ∧ ether ≠ 0x88B5
      ∧ s.canCall { path := seg, mac := mac, port := 0, tag := 0 } = false)
    ∧ (∃ (s : State) (seg : Nat) (mac : Nat) (body : List Byte) (b : Body) (good : Bool) (v : Byte), frameOk seg mac = true ∧ parseBody body = some b
      ∧ b.kind = 1 ∧ b.node = s.ownNode ∧ b.any = false ∧ b.op = 2 ∧ b.index = 0x1200 ∧ b.sub = 2 ∧ b.offset = 0 ∧ b.data = [v] ∧ 1 ≤ v.toNat
      ∧ v.toNat ≤ 16 ∧ s.serves { path := seg, mac := mac, port := 0, tag := b.tag } 0x1200 ∧ b.timed = false)
    ∧ (∃ (s : State) (seg : Nat) (mac : Nat) (body : List Byte) (b : Body) (good : Bool) (v : Byte), frameOk seg mac = true ∧ parseBody body = some b
      ∧ b.kind = 1 ∧ b.node = s.ownNode ∧ b.any = false ∧ b.op = 2 ∧ b.index = 0x1200 ∧ b.sub = 2 ∧ b.offset = 0 ∧ b.data = [v] ∧ 1 ≤ v.toNat
      ∧ v.toNat ≤ 16 ∧ s.serves { path := seg, mac := mac, port := 0, tag := b.tag } 0x1200 ∧ b.timed = true ∧ s.tnd.timed = [] ∧ s.claims < 256
      ∧ time80Ns b.apply ≤ s.ft.now + 86400 * nsPerSec)
    ∧ (∃ (s : State) (seg : Nat) (mac : Nat) (body : List Byte), frameOk seg mac = true
      ∧ s.canCall { path := seg, mac := mac, port := 0, tag := 0 } = false)
    ∧ (∃ (s : State) (seg : Nat) (mac : Nat) (ether : Nat) (bcast : Bool) (body : List Byte), frameOk seg mac = true
      ∧ s.canCall { path := seg, mac := mac, port := 0, tag := 0 } = true ∧ ether ≠ 0x88B5)
    ∧ (∃ (s : State) (seg : Nat) (mac : Nat) (ether : Nat) (bcast : Bool) (body : List Byte), frameOk seg mac = true
      ∧ s.canCall { path := seg, mac := mac, port := 0, tag := 0 } = true ∧ ether = 0x88B5 ∧ parseBody body = none)
    ∧ (∃ (s : State) (seg : Nat) (mac : Nat) (body : List Byte) (b : Body), frameOk seg mac = true
      ∧ s.canCall { path := seg, mac := mac, port := 0, tag := 0 } = true ∧ parseBody body = some b ∧ b.kind = 4 ∧ 1 ≤ b.op ∧ b.op ≤ 6)
    ∧ (∃ (s : State) (slot : Nat) (tag : Nat) (n : Notice), slot < 64 ∧ tag < 2 ^ 16 ∧ s.notices = [n] ∧ n.slot = slot ∧ n.tag = tag ∧ n.resent < 2)
    ∧ (∃ (s : State) (slot : Nat) (tag : Nat) (n : Notice), slot < 64 ∧ tag < 2 ^ 16 ∧ s.notices = [n] ∧ n.slot = slot ∧ n.tag = tag ∧ 2 ≤ n.resent)
    ∧ (∃ (s : State) (slot : Nat) (tag : Nat) (n : Notice), slot < 64 ∧ tag < 2 ^ 16 ∧ s.notices = [n] ∧ n.slot = slot ∧ n.tag = tag
      ∧ s.slotSegs slot = [0])
    ∧ (∃ (s : State) (slot : Nat) (tag : Nat), slot < 64 ∧ tag < 2 ^ 16 ∧ (∀ n ∈ s.notices, n.slot ≠ slot ∨ n.tag ≠ tag))
    ∧ (∃ (s : State) (g : Nat) (mac : Nat) (bs : List Byte) (rest : List (Nat × Nat × List Byte)), s.tnd.bcast = (g, mac, bs) :: rest)
    ∧ (∃ (s : State) (g : Nat) (mac : Nat) (bs : List Byte) (rest : List (Nat × Nat × List Byte)), s.tnd.bcast = (g, mac, bs) :: rest ∧ g < 2
      ∧ s.pwr.silent = false)
    ∧ (∃ (s : State), s.tnd.bcast = [])
    ∧ (∃ (s : State) (r : Running), s.tnd.exec = some r ∧ r.cmd.hang = false ∧ r.seq = none ∧ s.tnd.queue = [])
    ∧ (∃ (s : State) (r : Running), s.tnd.exec = some r)
    ∧ (∃ (s : State), s.tnd.exec = none)
    ∧ (∃ (s : State) (orig : _), orig < 256)
    ∧ (∃ (s : State), s.rd fTND_LOCK_HOLDER 0 ≠ 0xFF)
    ∧ (∃ (s : State), s.rd fTND_LOCK_HOLDER 0 = 0xFF)
    ∧ (∃ (s : State), s.ckWanted = true ∧ s.rd fWLG_CTL_CKSEC 0 ≠ 0 ∧ s.tnd.ckpt = none)
    ∧ (∃ (s : State), s.ckWanted = true ∧ s.rd fWLG_CTL_CKSEC 0 ≠ 0)
    ∧ (∃ (s : State), (s.ckWanted = false ∨ s.rd fWLG_CTL_CKSEC 0 = 0))
    ∧ (∃ (s : State) (c : Ckpt) (ok : Bool), s.tnd.ckpt = some c ∧ s.tnd.ckAgain = false ∧ s.pwr.warmDue = 0)
    ∧ (∃ (s : State) (ok : Bool), s.tnd.ckpt = none)
    ∧ (∃ (s : State), s.pwr.sram = true ∧ s.tnd.restarting = false ∧ s.boot.trial = none ∧ s.tnd.exec = none)
    ∧ (∃ (s : State) (k : Nat), s.pwr.sram = true ∧ s.tnd.restarting = false ∧ s.boot.trial = some k ∧ k < 4 ∧ s.tnd.exec = none)
    ∧ (∃ (s : State), (s.pwr.sram = false ∨ s.tnd.restarting = true))
    ∧ (∃ (s : State), s.tnd.restarting = true)
    ∧ (∃ (s : State), s.tnd.restarting = true ∧ s.flm.dump0 = none ∧ s.flm.dump1 = none ∧ s.flm.waits = [])
    ∧ (∃ (s : State), s.tnd.restarting = false) :=
  ⟨⟨put ({ pwr := { silent := false } : State }) [(fTND_SEG_JOINED, 0, 1), (fTND_CTL_SEGAEN, 0, 1), (fTND_STAT_DEVSTATE, 0, 1)], 0, 1, [1, 1, 0, 1, 0,
      1, 17, 0, 0, 0, 0, 0, 0, 0, 0, 0, 0, 0, 0, 0, 0, 0, 0, 0, 0, 0, 0, 0, 0, 0, 0, 0, 0, 0, 0, 0, 0, 0, 0, 0],
      ({ kind := 1, node := 0, any := false, op := 1, tag := 1, index := 4352, sub := 0, timed := false, last := false, offset := 0, apply := 0, data := [] } : Body),
      by decide +kernel⟩,
    ⟨{ pwr := { sram := false } : State }, 0, 0, false, [], false, false, by decide +kernel⟩,
    ⟨State.reset, 0, 0, 0, false, [], by decide +kernel⟩,
    ⟨put (State.reset) [(fTND_SEG_JOINED, 0, 1), (fTND_CTL_SEGAEN, 0, 1), (fTND_STAT_DEVSTATE, 0, 1)], 0, 1, [1, 1, 0, 2, 0, 1, 18, 0, 2, 0, 0, 0, 0,
      0, 0, 1, 0, 0, 0, 0, 0, 0, 0, 0, 0, 0, 0, 0, 0, 0, 0, 0, 0, 0, 0, 0, 0, 0, 0, 0, 5],
      ({ kind := 1, node := 0, any := false, op := 2, tag := 1, index := 4608, sub := 2, timed := false, last := false, offset := 0, apply := 0, data := [5] } : Body),
      false, 5, by decide +kernel⟩,
    ⟨put ({ tnd := { timed := [] } : State }) [(fTND_SEG_JOINED, 0, 1), (fTND_CTL_SEGAEN, 0, 1), (fTND_STAT_DEVSTATE, 0, 1)], 0, 1, [1, 1, 0, 2, 0, 1,
      18, 0, 2, 1, 0, 0, 0, 0, 0, 1, 0, 0, 0, 0, 0, 0, 0, 0, 0, 0, 0, 0, 0, 0, 0, 0, 0, 0, 0, 0, 0, 0, 0, 0, 5],
      ({ kind := 1, node := 0, any := false, op := 2, tag := 1, index := 4608, sub := 2, timed := true, last := false, offset := 0, apply := 0, data := [5] } : Body),
      false, 5, by decide +kernel⟩,
    ⟨State.reset, 0, 0, [], by decide +kernel⟩,
    ⟨put (State.reset) [(fTND_SEG_JOINED, 0, 1), (fTND_CTL_SEGAEN, 0, 1), (fTND_STAT_DEVSTATE, 0, 1)], 0, 0, 0, false, [], by decide +kernel⟩,
    ⟨put (State.reset) [(fTND_SEG_JOINED, 0, 1), (fTND_CTL_SEGAEN, 0, 1), (fTND_STAT_DEVSTATE, 0, 1)], 0, 0, (0x88B5), false, [], by decide +kernel⟩,
    ⟨put (State.reset) [(fTND_SEG_JOINED, 0, 1), (fTND_CTL_SEGAEN, 0, 1), (fTND_STAT_DEVSTATE, 0, 1)], 0, 1, [1, 4, 0, 1, 0, 1, 0, 0, 0, 0, 0, 0, 0,
      0, 0, 0, 0, 0, 0, 0, 0, 0, 0, 0, 0, 0, 0, 0, 0, 0, 0, 0, 0, 0, 0, 0, 0, 0, 0, 0],
      ({ kind := 4, node := 0, any := false, op := 1, tag := 1, index := 0, sub := 0, timed := false, last := false, offset := 0, apply := 0, data := [] } : Body),
      by decide +kernel⟩,
    ⟨{ notices := [(({ slot := 0, tag := 0, typ := 1, data := 0, resent := 0 } : Notice))] : State }, 0, 0,
      ({ slot := 0, tag := 0, typ := 1, data := 0, resent := 0 } : Notice), by decide +kernel⟩,
    ⟨{ notices := [(({ slot := 0, tag := 0, typ := 1, data := 0, resent := 2 } : Notice))] : State }, 0, 0,
      ({ slot := 0, tag := 0, typ := 1, data := 0, resent := 2 } : Notice), by decide +kernel⟩,
    ⟨put ({ notices := [(({ slot := 0, tag := 0, typ := 1, data := 0, resent := 0 } : Notice))] : State }) [(fTND_ORIG_H_SEENA, 0, 1),
      (fTND_CTL_SEGAEN, 0, 1), (fTND_ORIG_H_SEENB, 0, 0)], 0, 0, ({ slot := 0, tag := 0, typ := 1, data := 0, resent := 0 } : Notice),
      by decide +kernel⟩,
    ⟨put (State.reset) [(fTND_SEG_JOINED, 0, 1), (fTND_CTL_SEGAEN, 0, 1), (fTND_STAT_DEVSTATE, 0, 1)], 0, 0, by decide +kernel⟩,
    ⟨{ tnd := { bcast := (0, 0, ([])) :: ([]) }, pwr := { silent := false } : State }, 0, 0, [], [], by decide +kernel⟩,
    ⟨{ tnd := { bcast := (0, 0, ([])) :: ([]) }, pwr := { silent := false } : State }, 0, 0, [], [], by decide +kernel⟩,
    ⟨{ tnd := { bcast := [] } : State }, by decide +kernel⟩,
    ⟨{ tnd := { exec := some (({ cmd := { who := { path := 0, mac := 1, port := 0, tag := 1 }, op := 2, index := 0x1000, sub := 0 }, orig := 0, seq := none, n := 1 } : Running)), queue := [] } : State },
      ({ cmd := { who := { path := 0, mac := 1, port := 0, tag := 1 }, op := 2, index := 0x1000, sub := 0 }, orig := 0, seq := none, n := 1 } : Running),
      by decide +kernel⟩,
    ⟨{ tnd := { exec := some (({ cmd := { who := { path := 0, mac := 1, port := 0, tag := 1 }, op := 2, index := 0x1000, sub := 0 }, orig := 0, seq := none, n := 1 } : Running)), queue := [] } : State },
      (({ tnd := { exec := some (({ cmd := { who := { path := 0, mac := 1, port := 0, tag := 1 }, op := 2, index := 0x1000, sub := 0 }, orig := 0, seq := none, n := 1 } : Running)), queue := [] } : State }).tnd.exec).get (by decide +kernel),
      by decide +kernel⟩,
    ⟨{ tnd := { exec := none } : State }, by decide +kernel⟩,
    ⟨State.reset, 0, by decide +kernel⟩,
    ⟨put (State.reset) [(fTND_LOCK_HOLDER, 0, 0)], by decide +kernel⟩,
    ⟨put (State.reset) [(fTND_LOCK_HOLDER, 0, 255)], by decide +kernel⟩,
    ⟨put ({ tnd := { ckpt := none } : State }) [(fWLG_CTL_MIRROR, 0, 1), (fWLG_HEAD_L, 0, 9), (fWLG_CTL_CKSEC, 0, 1)], by decide +kernel⟩,
    ⟨put ({ tnd := { ckpt := none } : State }) [(fWLG_CTL_MIRROR, 0, 1), (fWLG_HEAD_L, 0, 9), (fWLG_CTL_CKSEC, 0, 1)], by decide +kernel⟩,
    ⟨put (State.reset) [(fTND_SEG_JOINED, 0, 1), (fTND_CTL_SEGAEN, 0, 1), (fTND_STAT_DEVSTATE, 0, 1)], by decide +kernel⟩,
    ⟨{ tnd := { ckpt := some (({ flash := 0, upto := 1 } : Ckpt)), ckAgain := false }, pwr := { warmDue := 0 } : State },
      ({ flash := 0, upto := 1 } : Ckpt), false, by decide +kernel⟩,
    ⟨{ tnd := { ckpt := none } : State }, false, by decide +kernel⟩,
    ⟨{ pwr := { sram := true }, tnd := { restarting := false, exec := none }, boot := { trial := none } : State }, by decide +kernel⟩,
    ⟨{ pwr := { sram := true }, tnd := { restarting := false, exec := none }, boot := { trial := some 0 } : State }, 0, by decide +kernel⟩,
    ⟨{ pwr := { sram := false } : State }, by decide +kernel⟩,
    ⟨{ tnd := { restarting := true }, flm := { dump0 := none, dump1 := none, waits := [] } : State }, by decide +kernel⟩,
    ⟨{ tnd := { restarting := true }, flm := { dump0 := none, dump1 := none, waits := [] } : State }, by decide +kernel⟩,
    ⟨{ tnd := { restarting := false } : State }, by decide +kernel⟩⟩

/-- States and operands that meet the hypotheses of `Obligations.DictionaryObjects`, clause by clause. -/
theorem witness_DictionaryObjects :
    (∃ (s : State) (c : Caller) (val : Nat), callerOk c = true ∧ val < 256)
    ∧ (∃ (s : State) (c : Caller) (seq : Nat), callerOk c = true ∧ seq < 2 ^ 64)
    ∧ (∃ (s : State) (c : Caller) (apply : Option Nat) (es : List (Nat × Nat)), callerOk c = true ∧ es.length ≤ 127 ∧ (∀ e ∈ es, e.1 < 2 ^ 32
      ∧ e.2 < 2 ^ 32))
    ∧ (∃ (s : State) (c : Caller) (space : Nat) (write : Bool) (addr : Nat) (n : Nat) (data : List Byte), callerOk c = true ∧ space < 256
      ∧ addr < 2 ^ 64 ∧ n < 2 ^ 16 ∧ data.length ≤ 1012)
    ∧ (∃ (s : State) (w : Caller), s.serves w 0x1102 ∧ s.pwr.coldHold = false ∧ s.pwr.warm = false ∧ s.pwr.strap.running = false ∧ s.pwr.warmDue = 0
      ∧ s.rdb fWLG_CTL_MIRROR 0 = false)
    ∧ (∃ (s : State) (w : Caller) (val : Nat), s.serves w 0x1102 ∧ val < 256 ∧ val ≠ 0x5A)
    ∧ (∃ (s : State) (w : Caller) (val : Nat) (n : Nat), s.serves w 0x1103 ∧ 1 ≤ val ∧ val ≤ 15 ∧ setBits 4 val = [n] ∧ s.pwr.coldHold = false
      ∧ s.pwr.warm = false ∧ bitOf s.pwr.tiles n = false)
    ∧ (∃ (s : State) (w : Caller), s.serves w 0x1101 ∧ s.operating = true)
    ∧ (∃ (s : State) (w : Caller), s.serves w 0x1101 ∧ s.dev = 1)
    ∧ (∃ (s : State) (w : Caller), s.serves w 0x1101 ∧ s.dev = 1 ∧ s.rd fBOOT_STAT_LC 0 ≠ 2)
    ∧ (∃ (s : State) (w : Caller), s.serves w 0x1101 ∧ s.rd fBOOT_STAT_LC 0 = 2)
    ∧ (∃ (s : State) (w : Caller) (seq : Nat) (x : Timed), s.serves w 0x1104 ∧ seq < 2 ^ 64 ∧ s.tnd.timed = [x] ∧ x.seq = seq)
    ∧ (∃ (s : State) (w : Caller) (seq : Nat), s.serves w 0x1104 ∧ seq < 2 ^ 64 ∧ s.tnd.timed = [])
    ∧ (∃ (s : State) (w : Caller) (v : Nat), s.serves w 0x1400 ∧ s.openGate ∧ v < 8192)
    ∧ (∃ (s : State) (w : Caller), s.serves w 0x1500 ∧ s.openGate ∧ SMap.get 0 s.latch fTEN_SEL_TI.addr = 0)
    ∧ (∃ (s : State) (w : Caller) (v : Nat), s.serves w 0x1500 ∧ s.openGate ∧ v < 8192)
    ∧ (∃ (s : State) (w : Caller), s.serves w 0x1202)
    ∧ (∃ (s : State) (w : Caller) (val : Nat), s.serves w 0x1202 ∧ val < 256 ∧ val ≠ (s.originOf w).1)
    ∧ (∃ (s : State) (w : Caller), s.serves w 0x1110 ∧ s.dev = 1)
    ∧ (∃ (s : State) (w : Caller), s.serves w 0x1110 ∧ s.dev = 1 ∧ s.preced = false)
    ∧ (∃ (s : State) (w : Caller), s.serves w 0x1110 ∧ s.dev ≠ 1)
    ∧ (∃ (s : State) (w : Caller), s.serves w 0x1111 ∧ s.dev = 1)
    ∧ (∃ (s : State) (w : Caller), s.serves w 0x1111 ∧ s.dev = 1 ∧ s.rdb fSPW_CTL_ZL25 0 = false)
    ∧ (∃ (s : State) (w : Caller), s.serves w 0x1300 ∧ s.tnd.ckpt = none) :=
  ⟨⟨put ({ tnd := { timed := [] } : State }) [(fTND_SEG_JOINED, 0, 1), (fTND_CTL_SEGAEN, 0, 1), (fTND_STAT_DEVSTATE, 0, 1)],
      { path := 2, mac := 0, port := 0, tag := 0 }, 0, by decide +kernel⟩,
    ⟨put ({ tnd := { timed := [] } : State }) [(fTND_SEG_JOINED, 0, 1), (fTND_CTL_SEGAEN, 0, 1), (fTND_STAT_DEVSTATE, 0, 1)],
      { path := 2, mac := 0, port := 0, tag := 0 }, 0, by decide +kernel⟩,
    ⟨put ({ tnd := { timed := [] } : State }) [(fTND_SEG_JOINED, 0, 1), (fTND_CTL_SEGAEN, 0, 1), (fTND_STAT_DEVSTATE, 0, 1)],
      { path := 2, mac := 0, port := 0, tag := 0 }, none, [], by decide +kernel⟩,
    ⟨put ({ tnd := { timed := [] } : State }) [(fTND_SEG_JOINED, 0, 1), (fTND_CTL_SEGAEN, 0, 1), (fTND_STAT_DEVSTATE, 0, 1)],
      { path := 2, mac := 0, port := 0, tag := 0 }, 0, false, 0, 0, [], by decide +kernel⟩,
    ⟨put ({ pwr := { coldHold := false, warm := false, warmDue := 0 } : State }) [(fTND_SEG_JOINED, 0, 1), (fTND_CTL_SEGAEN, 0, 1),
      (fTND_STAT_DEVSTATE, 0, 1), (fWLG_CTL_MIRROR, 0, 0)], { path := 0, mac := 1, port := 0, tag := 1 }, by decide +kernel⟩,
    ⟨put (State.reset) [(fTND_SEG_JOINED, 0, 1), (fTND_CTL_SEGAEN, 0, 1), (fTND_STAT_DEVSTATE, 0, 1)], { path := 0, mac := 1, port := 0, tag := 1 },
      0, by decide +kernel⟩,
    ⟨put ({ pwr := { coldHold := false, warm := false, tiles := 0 } : State }) [(fTND_SEG_JOINED, 0, 1), (fTND_CTL_SEGAEN, 0, 1), (fTND_STAT_DEVSTATE,
      0, 1)], { path := 0, mac := 1, port := 0, tag := 1 }, 1, 0, by decide +kernel⟩,
    ⟨put (State.reset) [(fTND_STAT_DEVSTATE, 0, 2), (fTND_SEG_JOINED, 0, 1), (fTND_CTL_SEGAEN, 0, 1), (fTND_STAT_DEVSTATE, 0, 1)],
      { path := 0, mac := 1, port := 0, tag := 1 }, by decide +kernel⟩,
    ⟨put (State.reset) [(fTND_SEG_JOINED, 0, 1), (fTND_CTL_SEGAEN, 0, 1), (fTND_STAT_DEVSTATE, 0, 1)], { path := 0, mac := 1, port := 0, tag := 1 },
      by decide +kernel⟩,
    ⟨put (State.reset) [(fTND_SEG_JOINED, 0, 1), (fTND_CTL_SEGAEN, 0, 1), (fTND_STAT_DEVSTATE, 0, 1), (fBOOT_STAT_LC, 0, 0)],
      { path := 0, mac := 1, port := 0, tag := 1 }, by decide +kernel⟩,
    ⟨put (State.reset) [(fTND_SEG_JOINED, 0, 1), (fTND_CTL_SEGAEN, 0, 1), (fTND_STAT_DEVSTATE, 0, 1), (fBOOT_STAT_LC, 0, 2)],
      { path := 0, mac := 1, port := 0, tag := 1 }, by decide +kernel⟩,
    ⟨put ({ tnd := { timed := [(({ seq := 0, at_ := 0, orig := 0, cmd := { who := { path := 0, mac := 1, port := 0, tag := 1 }, op := 2, index := 0x1000, sub := 0 } } : Timed))] } : State }) [(fTND_SEG_JOINED,
      0, 1), (fTND_CTL_SEGAEN, 0, 1), (fTND_STAT_DEVSTATE, 0, 1)], { path := 0, mac := 1, port := 0, tag := 1 }, 0,
      ({ seq := 0, at_ := 0, orig := 0, cmd := { who := { path := 0, mac := 1, port := 0, tag := 1 }, op := 2, index := 0x1000, sub := 0 } } : Timed),
      by decide +kernel⟩,
    ⟨put ({ tnd := { timed := [] } : State }) [(fTND_SEG_JOINED, 0, 1), (fTND_CTL_SEGAEN, 0, 1), (fTND_STAT_DEVSTATE, 0, 1)],
      { path := 0, mac := 1, port := 0, tag := 1 }, 0, by decide +kernel⟩,
    ⟨put (State.reset) [(fTND_SEG_JOINED, 0, 1), (fTND_CTL_SEGAEN, 0, 1), (fTND_STAT_DEVSTATE, 0, 1), (fCHK_GATE_MISS, 64, 1)],
      { path := 0, mac := 1, port := 0, tag := 1 }, 0, by decide +kernel⟩,
    ⟨put (State.reset) [(fTND_SEG_JOINED, 0, 1), (fTND_CTL_SEGAEN, 0, 1), (fTND_STAT_DEVSTATE, 0, 1), (fCHK_GATE_MISS, 64, 1)],
      { path := 0, mac := 1, port := 0, tag := 1 }, by decide +kernel⟩,
    ⟨put (State.reset) [(fTND_SEG_JOINED, 0, 1), (fTND_CTL_SEGAEN, 0, 1), (fTND_STAT_DEVSTATE, 0, 1), (fCHK_GATE_MISS, 64, 1)],
      { path := 0, mac := 1, port := 0, tag := 1 }, 0, by decide +kernel⟩,
    ⟨put (State.reset) [(fTND_SEG_JOINED, 0, 1), (fTND_CTL_SEGAEN, 0, 1), (fTND_STAT_DEVSTATE, 0, 1)], { path := 0, mac := 1, port := 0, tag := 1 },
      by decide +kernel⟩,
    ⟨put (State.reset) [(fTND_SEG_JOINED, 0, 1), (fTND_CTL_SEGAEN, 0, 1), (fTND_STAT_DEVSTATE, 0, 1)], { path := 0, mac := 1, port := 0, tag := 1 },
      0, by decide +kernel⟩,
    ⟨put (State.reset) [(fTND_SEG_JOINED, 0, 1), (fTND_CTL_SEGAEN, 0, 1), (fTND_STAT_DEVSTATE, 0, 1)], { path := 0, mac := 1, port := 0, tag := 1 },
      by decide +kernel⟩,
    ⟨put (State.reset) [(fTND_SEG_JOINED, 0, 1), (fTND_CTL_SEGAEN, 0, 1), (fTND_STAT_DEVSTATE, 0, 1)], { path := 0, mac := 1, port := 0, tag := 1 },
      by decide +kernel⟩,
    ⟨put (State.reset) [(fTND_STAT_DEVSTATE, 0, 2), (fTND_SEG_JOINED, 0, 1), (fTND_CTL_SEGAEN, 0, 1), (fTND_STAT_DEVSTATE, 0, 1)],
      { path := 0, mac := 1, port := 0, tag := 1 }, by decide +kernel⟩,
    ⟨put (State.reset) [(fTND_SEG_JOINED, 0, 1), (fTND_CTL_SEGAEN, 0, 1), (fTND_STAT_DEVSTATE, 0, 1)], { path := 0, mac := 1, port := 0, tag := 1 },
      by decide +kernel⟩,
    ⟨put (State.reset) [(fTND_SEG_JOINED, 0, 1), (fTND_CTL_SEGAEN, 0, 1), (fTND_STAT_DEVSTATE, 0, 1), (fSPW_CTL_ZL25, 0, 0)],
      { path := 0, mac := 1, port := 0, tag := 1 }, by decide +kernel⟩,
    ⟨put ({ tnd := { ckpt := none } : State }) [(fTND_SEG_JOINED, 0, 1), (fTND_CTL_SEGAEN, 0, 1), (fTND_STAT_DEVSTATE, 0, 1)],
      { path := 0, mac := 1, port := 0, tag := 1 }, by decide +kernel⟩⟩

/-- States and operands that meet the hypotheses of `Obligations.ImagesAndFirmware`, clause by clause. -/
theorem witness_ImagesAndFirmware :
    (∃ (s : State) (b : Bool) (v : ImageCheck), s.slotTurn (b2n b) = true ∧ s.pwr.sram = true ∧ s.pwr.manufTest = false
      ∧ s.imageCause (b2n b) v false ≠ 0)
    ∧ (∃ (s : State) (b : Bool) (v : ImageCheck), s.slotTurn (b2n b) = true ∧ s.pwr.sram = true ∧ s.pwr.manufTest = false
      ∧ s.imageCause (b2n b) v false = 0 ∧ stageWrites (s.flash (b2n b)) 1 = some [] ∧ s.chk.staged = [] ∧ s.mgrOn = false)
    ∧ (∃ (s : State) (b : Bool) (v : ImageCheck), s.slotTurn (b2n b) = true ∧ s.pwr.sram = true ∧ s.pwr.manufTest = false)
    ∧ (∃ (s : State) (b : Bool) (v : ImageCheck), (s.slotTurn (b2n b) = false ∨ s.pwr.sram = false ∨ s.pwr.manufTest = true))
    ∧ (∃ (s : State) (v : ImageCheck), s.boot.stage2 = none)
    ∧ (∃ (s : State) (v : ImageCheck) (b : Nat), s.boot.stage2 = some b ∧ v.read = false)
    ∧ (∃ (s : State) (v : ImageCheck) (b : Nat), s.boot.stage2 = some b ∧ v.read = true ∧ imageS2Len (s.flash b) ≠ 0 ∧ v.hash2 = false)
    ∧ (∃ (s : State) (v : ImageCheck) (b : Nat), s.boot.stage2 = some b ∧ v.read = true ∧ (imageS2Len (s.flash b) = 0 ∨ v.hash2 = true)
      ∧ (stageWrites (s.flash b) 2 = some [] ∧ s.chk.staged = []))
    ∧ (∃ (s : State) (w : Caller) (b : Bool) (off : Nat) (last : Bool) (data : List Byte), callerOk w = true ∧ off < 2 ^ 32 ∧ data.length ≤ 1024)
    ∧ (∃ (s : State) (w : Caller) (v : ImageCheck), callerOk w = true)
    ∧ (∃ (s : State) (w : Caller) (b : Bool) (data : List Byte), s.serves w (if b then 0x1612 else 0x1611) ∧ data.length ≤ 1024
      ∧ s.slotShut (b2n b) = false ∧ s.stagedBytes + data.length ≤ 1048576)
    ∧ (∃ (s : State) (w : Caller) (b : Bool) (off : Nat) (last : Bool) (data : List Byte), s.serves w (if b then 0x1612 else 0x1611) ∧ 0 < off
      ∧ off < 2 ^ 32 ∧ data.length ≤ 1024 ∧ s.boot.failed = [])
    ∧ (∃ (s : State) (b : Bool) (x : _), s.boot.staged = [x] ∧ x.slot = b2n b ∧ s.tnd.exec = none)
    ∧ (∃ (s : State) (b : Bool) (x : Staged), (s.boot.staged.find? fun x => x.slot == b2n b) = some x)
    ∧ (∃ (s : State) (b : Bool) (ok : Bool), (∀ x ∈ s.boot.staged, x.slot ≠ b2n b))
    ∧ (∃ (s : State) (w : Caller), s.serves w 0x1613 ∧ s.boot.trial = none ∧ s.boot.verify = none)
    ∧ (∃ (s : State) (w : Caller), s.serves w 0x1613 ∧ s.boot.trial = none ∧ s.boot.verify = none ∧ s.boot.verified = [0])
    ∧ (∃ (s : State) (w : Caller), s.serves w 0x1613 ∧ s.boot.trial = none ∧ s.boot.verify = none ∧ s.boot.verified = [1])
    ∧ (∃ (s : State) (w : Caller), s.serves w 0x1613 ∧ s.boot.trial = none ∧ s.boot.verify = none ∧ s.boot.verified = [])
    ∧ (∃ (s : State) (w : Caller) (k : Nat), s.serves w 0x1613 ∧ s.boot.trial = some k)
    ∧ (∃ (s : State) (w : Caller) (v : ImageCheck), s.serves w 0x1613 ∧ s.boot.trial = none ∧ s.boot.verify = none ∧ s.boot.recovery = true
      ∧ v.read = false)
    ∧ (∃ (s : State) (w : Caller) (v : ImageCheck) (b : Bool), s.serves w 0x1613 ∧ s.boot.trial = none ∧ s.boot.verify = none ∧ s.boot.recovery = true
      ∧ s.imageCause (b2n b) v false = 0 ∧ stageWrites (s.flash (b2n b)) 1 = some [] ∧ s.chk.staged = [] ∧ s.mgrOn = false)
    ∧ (∃ (s : State) (w : Caller) (v : ImageCheck), s.serves w 0x1613 ∧ s.boot.recovery = false)
    ∧ (∃ (s : State) (v : ImageCheck) (b : Nat), s.boot.verify = some b)
    ∧ (∃ (s : State) (v : ImageCheck), s.boot.verify = none)
    ∧ (∃ (s : State) (k : Nat), s.boot.trial = some k)
    ∧ (∃ (s : State), s.boot.trial = none) :=
  ⟨⟨put ({ pwr := { sram := true, manufTest := false } : State }) [(fPWR_START_PHASE, 0, 3)], false, ({ read := false } : ImageCheck),
      by decide +kernel⟩,
    ⟨put ({ pwr := { sram := true, manufTest := false }, chk := { staged := [] }, boot := { flashA := flashHead } : State }) [(fPWR_START_PHASE, 0,
      3)], false, ({} : ImageCheck), by decide +kernel⟩,
    ⟨put ({ pwr := { sram := true, manufTest := false }, chk := { staged := [] }, boot := { flashA := flashHead } : State }) [(fPWR_START_PHASE, 0,
      3)], false, ({} : ImageCheck), by decide +kernel⟩,
    ⟨State.reset, false, ({} : ImageCheck), by decide +kernel⟩,
    ⟨{ boot := { stage2 := none } : State }, ({} : ImageCheck), by decide +kernel⟩,
    ⟨{ boot := { stage2 := some 0 } : State }, ({ read := false } : ImageCheck), 0, by decide +kernel⟩,
    ⟨{ boot := { stage2 := some 0 } : State }, ({ hash2 := false } : ImageCheck), 0, by decide +kernel⟩,
    ⟨{ boot := { stage2 := some 0, flashA := flashHead }, chk := { staged := [] } : State }, ({} : ImageCheck), 0, by decide +kernel⟩,
    ⟨put ({ boot := { failed := [] } : State }) [(fTND_SEG_JOINED, 0, 1), (fTND_CTL_SEGAEN, 0, 1), (fTND_STAT_DEVSTATE, 0, 1)],
      { path := 0, mac := 1, port := 0, tag := 1 }, false, 1, false, [], by decide +kernel⟩,
    ⟨put ({ boot := { trial := none, verify := none, verified := [1] } : State }) [(fTND_SEG_JOINED, 0, 1), (fTND_CTL_SEGAEN, 0, 1),
      (fTND_STAT_DEVSTATE, 0, 1)], { path := 0, mac := 1, port := 0, tag := 1 }, ({} : ImageCheck), by decide +kernel⟩,
    ⟨put (State.reset) [(fTND_SEG_JOINED, 0, 1), (fTND_CTL_SEGAEN, 0, 1), (fTND_STAT_DEVSTATE, 0, 1)], { path := 0, mac := 1, port := 0, tag := 1 },
      true, [], by decide +kernel⟩,
    ⟨put ({ boot := { failed := [] } : State }) [(fTND_SEG_JOINED, 0, 1), (fTND_CTL_SEGAEN, 0, 1), (fTND_STAT_DEVSTATE, 0, 1)],
      { path := 0, mac := 1, port := 0, tag := 1 }, false, 1, false, [], by decide +kernel⟩,
    ⟨{ boot := { staged := [(({ slot := 0, offset := 0, data := [1] } : Staged))] }, tnd := { exec := none } : State }, false,
      ({ slot := 0, offset := 0, data := [1] } : Staged), by decide +kernel⟩,
    ⟨{ boot := { staged := [(({ slot := 0, offset := 0, data := [1] } : Staged))] }, tnd := { exec := none } : State }, false,
      ({ slot := 0, offset := 0, data := [1] } : Staged), by decide +kernel⟩,
    ⟨put ({ boot := { failed := [] } : State }) [(fTND_SEG_JOINED, 0, 1), (fTND_CTL_SEGAEN, 0, 1), (fTND_STAT_DEVSTATE, 0, 1)], false, false,
      by decide +kernel⟩,
    ⟨put ({ boot := { trial := none, verify := none } : State }) [(fTND_SEG_JOINED, 0, 1), (fTND_CTL_SEGAEN, 0, 1), (fTND_STAT_DEVSTATE, 0, 1)],
      { path := 0, mac := 1, port := 0, tag := 1 }, by decide +kernel⟩,
    ⟨put ({ boot := { trial := none, verify := none, verified := [0] } : State }) [(fTND_SEG_JOINED, 0, 1), (fTND_CTL_SEGAEN, 0, 1),
      (fTND_STAT_DEVSTATE, 0, 1)], { path := 0, mac := 1, port := 0, tag := 1 }, by decide +kernel⟩,
    ⟨put ({ boot := { trial := none, verify := none, verified := [1] } : State }) [(fTND_SEG_JOINED, 0, 1), (fTND_CTL_SEGAEN, 0, 1),
      (fTND_STAT_DEVSTATE, 0, 1)], { path := 0, mac := 1, port := 0, tag := 1 }, by decide +kernel⟩,
    ⟨put ({ boot := { trial := none, verify := none, verified := [] } : State }) [(fTND_SEG_JOINED, 0, 1), (fTND_CTL_SEGAEN, 0, 1),
      (fTND_STAT_DEVSTATE, 0, 1)], { path := 0, mac := 1, port := 0, tag := 1 }, by decide +kernel⟩,
    ⟨put ({ boot := { trial := some 0 } : State }) [(fTND_SEG_JOINED, 0, 1), (fTND_CTL_SEGAEN, 0, 1), (fTND_STAT_DEVSTATE, 0, 1)],
      { path := 0, mac := 1, port := 0, tag := 1 }, 0, by decide +kernel⟩,
    ⟨put ({ boot := { trial := none, verify := none, recovery := true } : State }) [(fTND_SEG_JOINED, 0, 1), (fTND_CTL_SEGAEN, 0, 1),
      (fTND_STAT_DEVSTATE, 0, 1)], { path := 0, mac := 1, port := 0, tag := 1 }, ({ read := false } : ImageCheck), by decide +kernel⟩,
    ⟨put ({ boot := { trial := none, verify := none, recovery := true, flashA := flashHead }, chk := { staged := [] } : State }) [(fTND_SEG_JOINED, 0,
      1), (fTND_CTL_SEGAEN, 0, 1), (fTND_STAT_DEVSTATE, 0, 1)], { path := 0, mac := 1, port := 0, tag := 1 }, ({} : ImageCheck), false,
      by decide +kernel⟩,
    ⟨put ({ boot := { recovery := false } : State }) [(fTND_SEG_JOINED, 0, 1), (fTND_CTL_SEGAEN, 0, 1), (fTND_STAT_DEVSTATE, 0, 1)],
      { path := 0, mac := 1, port := 0, tag := 1 }, ({} : ImageCheck), by decide +kernel⟩,
    ⟨{ boot := { verify := some 0 } : State }, ({} : ImageCheck), 0, by decide +kernel⟩,
    ⟨{ boot := { verify := none } : State }, ({} : ImageCheck), by decide +kernel⟩,
    ⟨{ boot := { trial := some 0 } : State }, 0, by decide +kernel⟩,
    ⟨{ boot := { trial := none } : State }, by decide +kernel⟩⟩

/-- States and operands that meet the hypotheses of `Obligations.SecurityAndLifecycle`, clause by clause. -/
theorem witness_SecurityAndLifecycle :
    (∃ (s : State) (w : Caller) (val : Nat) (va : ImageCheck) (vb : ImageCheck), s.serves w 0x1625 ∧ s.dev = 1 ∧ s.svnFused < val ∧ val ≤ 32
      ∧ s.imageCause 0 va true = 0 ∧ s.imageCause 1 vb true = 0 ∧ val ≤ imageSvn (s.flash 0) ∧ val ≤ imageSvn (s.flash 1))
    ∧ (∃ (s : State) (w : Caller) (val : Nat) (va : ImageCheck) (vb : ImageCheck), s.serves w 0x1625 ∧ val < 256
      ∧ (s.dev ≠ 1 ∨ val ≤ s.svnFused ∨ s.imageCause 0 va true ≠ 0))
    ∧ (∃ (s : State) (w : Caller) (val : Nat) (va : ImageCheck) (vb : ImageCheck), callerOk w = true ∧ val < 256)
    ∧ (∃ (s : State) (w : Caller), callerOk w = true)
    ∧ (∃ (s : State) (w : Caller) (bytes : List Byte) (good : Bool), callerOk w = true ∧ bytes.length ≤ 1024)
    ∧ (∃ (s : State) (w : Caller) (bytes : List Byte) (good : Bool), s.serves w 0x1622 ∧ bytes.length ≤ 1024
      ∧ (bytes.length ≠ 256 ∨ s.rd fBOOT_STAT_LC 0 ≠ 0 ∨ s.rdb fBOOT_STAT_LOCKOUT 0 = true))
    ∧ (∃ (s : State) (w : Caller), s.serves w 0x1621)
    ∧ (∃ (s : State) (w : Caller) (bytes : List Byte) (good : Bool), s.serves w 0x1622 ∧ bytes.length = 256 ∧ s.rd fBOOT_STAT_LC 0 = 0
      ∧ s.rdb fBOOT_STAT_LOCKOUT 0 = false ∧ s.unlockGood bytes good = true)
    ∧ (∃ (s : State) (w : Caller) (bytes : List Byte) (good : Bool), s.serves w 0x1622 ∧ bytes.length = 256 ∧ s.rd fBOOT_STAT_LC 0 = 0
      ∧ s.rdb fBOOT_STAT_LOCKOUT 0 = false ∧ s.unlockGood bytes good = false)
    ∧ (∃ (s : State) (w : Caller), s.serves w 0x1623 ∧ s.rd fBOOT_STAT_LC 0 = 1)
    ∧ (∃ (s : State) (w : Caller), s.serves w 0x1623 ∧ s.rd fBOOT_STAT_LC 0 ≠ 1)
    ∧ (∃ (s : State), s.rd fBOOT_STAT_LC 0 = 1)
    ∧ (∃ (s : State), s.rd fBOOT_STAT_LC 0 ≠ 1)
    ∧ (∃ (s : State), s.pwr.aux = true)
    ∧ (∃ (s : State) (bits : Nat) (good : Bool), bits < 2 ^ 2048 ∧ s.pwr.aux = true)
    ∧ (∃ (s : State) (bits : Nat) (good : Bool), bits < 2 ^ 2048 ∧ s.pwr.aux = false)
    ∧ (∃ (s : State) (bits : Nat) (good : Bool), bits < 2 ^ 2048 ∧ s.pwr.aux = true ∧ (s.rd fBOOT_STAT_LC 0 ≠ 0 ∨ s.rdb fBOOT_STAT_LOCKOUT 0 = true))
    ∧ (∃ (s : State) (bits : Nat) (good : Bool), bits < 2 ^ 2048 ∧ s.pwr.aux = true ∧ s.rd fBOOT_STAT_LC 0 = 0 ∧ s.rdb fBOOT_STAT_LOCKOUT 0 = false
      ∧ s.unlockGood (toLeBytes 256 bits) good = true)
    ∧ (∃ (s : State) (bits : Nat) (good : Bool), bits < 2 ^ 2048 ∧ s.pwr.aux = true ∧ s.rd fBOOT_STAT_LC 0 = 0 ∧ s.rdb fBOOT_STAT_LOCKOUT 0 = false
      ∧ s.unlockGood (toLeBytes 256 bits) good = false) :=
  ⟨⟨put ({ boot := { flashA := flashHead, flashB := flashHead } : State }) [(fTND_SEG_JOINED, 0, 1), (fTND_CTL_SEGAEN, 0, 1), (fTND_STAT_DEVSTATE, 0,
      1)], { path := 0, mac := 1, port := 0, tag := 1 }, 1, ({} : ImageCheck), ({} : ImageCheck), by decide +kernel⟩,
    ⟨put (State.reset) [(fTND_SEG_JOINED, 0, 1), (fTND_CTL_SEGAEN, 0, 1), (fTND_STAT_DEVSTATE, 0, 1)], { path := 0, mac := 1, port := 0, tag := 1 },
      0, ({} : ImageCheck), ({} : ImageCheck), by decide +kernel⟩,
    ⟨put (State.reset) [(fBOOT_STAT_LC, 0, 0)], { path := 2, mac := 0, port := 0, tag := 0 }, 0, ({} : ImageCheck), ({} : ImageCheck),
      by decide +kernel⟩,
    ⟨put (State.reset) [(fBOOT_STAT_LC, 0, 0)], { path := 2, mac := 0, port := 0, tag := 0 }, by decide +kernel⟩,
    ⟨put (State.reset) [(fBOOT_STAT_LC, 0, 0)], { path := 2, mac := 0, port := 0, tag := 0 }, [], false, by decide +kernel⟩,
    ⟨put ({ boot := { flashA := flashHead, flashB := flashHead } : State }) [(fTND_SEG_JOINED, 0, 1), (fTND_CTL_SEGAEN, 0, 1), (fTND_STAT_DEVSTATE, 0,
      1)], { path := 0, mac := 1, port := 0, tag := 1 }, [], false, by decide +kernel⟩,
    ⟨put (State.reset) [(fTND_SEG_JOINED, 0, 1), (fTND_CTL_SEGAEN, 0, 1), (fTND_STAT_DEVSTATE, 0, 1)], { path := 0, mac := 1, port := 0, tag := 1 },
      by decide +kernel⟩,
    ⟨put ({ boot := { nonce := some (0, 0) } : State }) [(fTND_SEG_JOINED, 0, 1), (fTND_CTL_SEGAEN, 0, 1), (fTND_STAT_DEVSTATE, 0, 1), (fBOOT_STAT_LC,
      0, 0), (fBOOT_STAT_LOCKOUT, 0, 0)], { path := 0, mac := 1, port := 0, tag := 1 }, (List.replicate 51 0 ++ [1, 0, 0, 0, 0, 1, 1, 4,
      3] ++ List.replicate 196 0), true, by decide +kernel⟩,
    ⟨put (State.reset) [(fTND_SEG_JOINED, 0, 1), (fTND_CTL_SEGAEN, 0, 1), (fTND_STAT_DEVSTATE, 0, 1), (fBOOT_STAT_LC, 0, 0), (fBOOT_STAT_LOCKOUT, 0,
      0)], { path := 0, mac := 1, port := 0, tag := 1 }, List.replicate 256 0, false, by decide +kernel⟩,
    ⟨put (State.reset) [(fTND_SEG_JOINED, 0, 1), (fTND_CTL_SEGAEN, 0, 1), (fTND_STAT_DEVSTATE, 0, 1), (fBOOT_STAT_LC, 0, 1)],
      { path := 0, mac := 1, port := 0, tag := 1 }, by decide +kernel⟩,
    ⟨put (State.reset) [(fTND_SEG_JOINED, 0, 1), (fTND_CTL_SEGAEN, 0, 1), (fTND_STAT_DEVSTATE, 0, 1), (fBOOT_STAT_LC, 0, 0)],
      { path := 0, mac := 1, port := 0, tag := 1 }, by decide +kernel⟩,
    ⟨put (State.reset) [(fBOOT_STAT_LC, 0, 1)], by decide +kernel⟩,
    ⟨put (State.reset) [(fBOOT_STAT_LC, 0, 0)], by decide +kernel⟩,
    ⟨{ pwr := { aux := true } : State }, by decide +kernel⟩,
    ⟨{ pwr := { aux := true } : State }, 0, false, by decide +kernel⟩,
    ⟨(put (State.reset) [(fTND_SEG_JOINED, 0, 1), (fTND_CTL_SEGAEN, 0, 1), (fTND_STAT_DEVSTATE, 0, 1), (fBOOT_STAT_LC, 0,
      0)]).pwrMod fun p => { p with aux := false }, 0, false, by decide +kernel⟩,
    ⟨put (State.reset) [(fBOOT_STAT_LC, 0, 1)], 0, true, by decide +kernel⟩,
    ⟨put ({ pwr := { aux := true }, boot := { nonce := some (0, 0) } : State }) [(fBOOT_STAT_LC, 0, 0), (fBOOT_STAT_LOCKOUT, 0, 0)],
      leBytes (List.replicate 51 0 ++ [1, 0, 0, 0, 0, 1, 1, 4, 3] ++ List.replicate 196 0), true, by decide +kernel⟩,
    ⟨put ({ pwr := { aux := true } : State }) [(fBOOT_STAT_LC, 0, 0), (fBOOT_STAT_LOCKOUT, 0, 0)], 0, false, by decide +kernel⟩⟩

/-- States and operands that meet the hypotheses of `Obligations.RetiredDevicesCarryNoTraffic`, clause by clause. -/
theorem witness_RetiredDevicesCarryNoTraffic :
    (∃ (s : State) (w : Caller), s.serves w 0x1626 ∧ s.dev = 1 ∧ s.rd fBOOT_STAT_LC 0 = 1)
    ∧ (∃ (s : State) (w : Caller) (val : Nat), s.serves w 0x1626 ∧ val < 2 ^ 32 ∧ (val ≠ 0x52455449 ∨ s.dev ≠ 1 ∨ s.rd fBOOT_STAT_LC 0 ≠ 1))
    ∧ (∃ (s : State) (w : Caller), s.serves w 0x1101 ∧ w.path = 2 ∧ s.rd fBOOT_STAT_LC 0 = 2)
    ∧ (∃ (s : State), s.rd fBOOT_STAT_LC 0 = 2 ∧ s.pwr.oper = false) :=
  ⟨⟨put (State.reset) [(fTND_SEG_JOINED, 0, 1), (fTND_CTL_SEGAEN, 0, 1), (fTND_STAT_DEVSTATE, 0, 1), (fBOOT_STAT_LC, 0, 1)],
      { path := 0, mac := 1, port := 0, tag := 1 }, by decide +kernel⟩,
    ⟨put (State.reset) [(fTND_SEG_JOINED, 0, 1), (fTND_CTL_SEGAEN, 0, 1), (fTND_STAT_DEVSTATE, 0, 1)], { path := 0, mac := 1, port := 0, tag := 1 },
      0, by decide +kernel⟩,
    ⟨put (State.reset) [(fPKG_STRAP_MGR_EN, 0, 1), (fPRT_PORTCFG_ENABLE, 0, 1), (fPRT_PORTCFG_ROLE, 0, 1), (fTND_SEG_JOINED, 0, 1), (fTND_CTL_SEGAEN,
      0, 1), (fTND_STAT_DEVSTATE, 0, 1), (fBOOT_STAT_LC, 0, 2)], ({ path := 2, mac := 0, port := 0, tag := 1 } : Caller), by decide +kernel⟩,
    ⟨put ({ pwr := { oper := false } : State }) [(fBOOT_STAT_LC, 0, 2)], by decide +kernel⟩⟩

/-- States and operands that meet the hypotheses of `Obligations.TapInstructions`, clause by clause. -/
theorem witness_TapInstructions :
    (∃ (s : State), s.pwr.aux = true)
    ∧ (∃ (s : State) (pins : Nat) (upd : Nat), s.pwr.aux = true ∧ pins < 2 ^ chainCells ∧ upd < 2 ^ chainCells)
    ∧ (∃ (s : State) (tdi : Nat) (n : Nat), s.pwr.aux = true ∧ tdi < 2 ^ n ∧ 0 < n)
    ∧ (∃ (s : State) (tdi : Nat) (n : Nat) (code : _), s.pwr.aux = true ∧ tdi < 2 ^ n ∧ 0 < n ∧ code < 256 ∧ tapCode code = false)
    ∧ (∃ (s : State) (pins : Nat) (upd : Nat) (tdi : Nat) (n : Nat) (code : Nat), s.pwr.aux = false ∧ pins < 2 ^ chainCells ∧ upd < 2 ^ chainCells
      ∧ tdi < 2 ^ n ∧ code < 256 ∧ tapCode code = false)
    ∧ (∃ (s : State) (code : Nat), s.pwr.aux = true ∧ code < 256 ∧ tapCode code = false)
    ∧ (∃ (s : State) (dr : Nat), s.pwr.aux = true ∧ dr < 2 ^ 112)
    ∧ (∃ (s : State) (dr : Nat), s.pwr.aux = true ∧ dr < 2 ^ 112 ∧ s.tap.busy = false ∧ s.dev ≠ 0 ∧ bitsOf dr 0 64 % 4 ≠ 0)
    ∧ (∃ (s : State) (dr : Nat), s.pwr.aux = true ∧ dr < 2 ^ 112 ∧ s.tap.busy = false ∧ s.dev ≠ 0 ∧ bitsOf dr 0 64 = fTEN_SEL_TI.addr
      ∧ bitOf dr 97 = true ∧ s.openGate ∧ SMap.get 0 s.latch fTEN_SEL_TI.addr = 0 ∧ bitOf dr 96 = false)
    ∧ (∃ (s : State) (dr : Nat), s.pwr.aux = true ∧ dr < 2 ^ 112 ∧ s.tap.busy = false ∧ s.dev ≠ 0 ∧ bitsOf dr 0 64 = fTEN_SEL_TI.addr
      ∧ bitOf dr 97 = true ∧ s.openGate ∧ SMap.get 0 s.latch fTEN_SEL_TI.addr = 0 ∧ bitOf dr 96 = true ∧ bitsOf dr 64 32 < 8192)
    ∧ (∃ (s : State) (dr : Nat), s.pwr.aux = true ∧ dr < 2 ^ 112 ∧ s.tap.busy = true)
    ∧ (∃ (s : State), s.pwr.aux = false)
    ∧ (∃ (s : State) (dr : Nat), s.pwr.aux = false ∧ dr < 2 ^ 112) :=
  ⟨⟨{ pwr := { aux := true } : State }, by decide +kernel⟩,
    ⟨{ pwr := { aux := true } : State }, 0, 0, by decide +kernel⟩,
    ⟨{ pwr := { aux := true } : State }, 0, 1, by decide +kernel⟩,
    ⟨{ pwr := { aux := true } : State }, 0, 1, 0xFF, by decide +kernel⟩,
    ⟨{ pwr := { aux := false } : State }, 0, 0, 0, 0, 16, by decide +kernel⟩,
    ⟨{ pwr := { aux := true } : State }, 0xFF, by decide +kernel⟩,
    ⟨put ({ pwr := { aux := true }, tap := { busy := false } : State }) [(fTND_STAT_DEVSTATE, 0, 1)], 1, by decide +kernel⟩,
    ⟨put ({ pwr := { aux := true }, tap := { busy := false } : State }) [(fTND_STAT_DEVSTATE, 0, 1)], 1, by decide +kernel⟩,
    ⟨put ({ pwr := { aux := true }, tap := { busy := false } : State }) [(fTND_STAT_DEVSTATE, 0, 1), (fCHK_GATE_MISS, 64, 1)],
      158456325028528675187104677892, by decide +kernel⟩,
    ⟨put ({ pwr := { aux := true }, tap := { busy := false } : State }) [(fTND_STAT_DEVSTATE, 0, 1), (fCHK_GATE_MISS, 64, 1)],
      237684487635026733149196386308, by decide +kernel⟩,
    ⟨{ pwr := { aux := true }, tap := { busy := true } : State }, 0, by decide +kernel⟩,
    ⟨{ pwr := { aux := false } : State }, by decide +kernel⟩,
    ⟨{ pwr := { aux := false } : State }, 0, by decide +kernel⟩⟩

end Sys2Proof.Tests
end

section
/-! PROOFS. The step: what every command keeps, which commands complete, what holds of a sound state, and a read that does not clear. -/
namespace Sys2Proof.Machine

/-! ### What every command keeps -/

/-- Every command keeps the queue, a canonical register store, and what lies outside its parts: the arms of `exec`, each by the lemma of
its meaning. -/
theorem exec_keeps {w : Nat} {z s : State} (c : Instr) (hw : Within (partSet (commandParts c)) w) (hs : Keeps w z s) :
    KeepsOut w z (exec c s) := by
  cases c with dsimp only [commandParts] at hw
  | registerWrite => exact execRegisterWrite_keeps (hw.mono rfl) hs
  | registerReadClear => exact execRegisterReadClear_keeps (hw.mono rfl) hs
  | registerHalfLatchRead => exact execRegisterHalfLatchRead_keeps (hw.mono rfl) hs
  | vddAuxLost => exact execVddAuxLost_keeps (hw.mono rfl) hs
  | vddAuxRestored => exact execVddAuxRestored_keeps (hw.mono rfl) hs
  | pwrgdLow => exact execPwrgdLow_keeps (hw.mono rfl) hs
  | pwrgdGlitch => exact execPwrgdGlitch_keeps (hw.mono rfl) hs
  | gateDischargeEnd => exact execGateDischargeEnd_keeps (hw.mono rfl) hs
  | pwrgdRise => exact execPwrgdRise_keeps (hw.mono rfl) hs
  | railHoldEnd => exact execRailHoldEnd_keeps (hw.mono rfl) hs
  | strapTestSourceOn => exact execStrapTestSourceOn_keeps (hw.mono rfl) hs
  | strapSample => exact execStrapSample_keeps (hw.mono rfl) hs
  | strapResolve => exact execStrapResolve_keeps (hw.mono rfl) hs
  | pllLock => exact execPllLock_keeps (hw.mono rfl) hs
  | sramClearDone => exact execSramClearDone_keeps (hw.mono rfl) hs
  | t1sPhyJoin => exact execT1sPhyJoin_keeps (hw.mono rfl) hs
  | calibrationDone => exact execCalibrationDone_keeps (hw.mono rfl) hs
  | spillwayArm => exact execSpillwayArm_keeps (hw.mono rfl) hs
  | slotWave => exact execSlotWave_keeps (hw.mono rfl) hs
  | portWave => exact execPortWave_keeps (hw.mono rfl) hs
  | leatWave => exact execLeatWave_keeps (hw.mono rfl) hs
  | warmRstPin => exact execWarmRstPin_keeps (hw.mono rfl) hs
  | warmResetReq => exact execWarmResetReq_keeps (hw.mono rfl) hs
  | tileResetReq => exact execTileResetReq_keeps (hw.mono rfl) hs
  | warmResetEnd => exact execWarmResetEnd_keeps (hw.mono rfl) hs
  | tileResetEnd => exact execTileResetEnd_keeps (hw.mono rfl) hs
  | culvertRetrained => exact execCulvertRetrained_keeps (hw.mono rfl) hs
  | railWarning => exact execRailWarning_keeps (hw.mono rfl) hs
  | railFault => exact execRailFault_keeps (hw.mono rfl) hs
  | clockLoss => exact execClockLoss_keeps (hw.mono rfl) hs
  | clockPresent => exact execClockPresent_keeps (hw.mono rfl) hs
  | pwrDomctlWrite => exact execPwrDomctlWrite_keeps (hw.mono rfl) hs
  | domainPowerUpDone => exact execDomainPowerUpDone_keeps (hw.mono rfl) hs
  | headerSwitchOpen => exact execHeaderSwitchOpen_keeps (hw.mono rfl) hs
  | perstInAssert => exact execPerstInAssert_keeps (hw.mono rfl) hs
  | perstInRelease => exact execPerstInRelease_keeps (hw.mono rfl) hs
  | perstOutRelease => exact execPerstOutRelease_keeps (hw.mono rfl) hs
  | configRequest => exact execConfigRequest_keeps (hw.mono rfl) hs
  | crsLate => exact execCrsLate_keeps (hw.mono rfl) hs
  | profileApply => exact execProfileApply_keeps (hw.mono rfl) hs
  | profileClosed => exact execProfileClosed_keeps (hw.mono rfl) hs
  | profileDrained => exact execProfileDrained_keeps (hw.mono rfl) hs
  | profileRecallDone => exact execProfileRecallDone_keeps (hw.mono rfl) hs
  | profileInitDone => exact execProfileInitDone_keeps (hw.mono rfl) hs
  | profileSwitched => exact execProfileSwitched_keeps (hw.mono rfl) hs
  | profileChangeTimeout => exact execProfileChangeTimeout_keeps (hw.mono rfl) hs
  | profileRollbackDone => exact execProfileRollbackDone_keeps (hw.mono rfl) hs
  | culvertBeatCrcFail => exact execCulvertBeatCrcFail_keeps (hw.mono rfl) hs
  | culvertWireSpare => exact execCulvertWireSpare_keeps (hw.mono rfl) hs
  | culvertBundleRetire => exact execCulvertBundleRetire_keeps (hw.mono rfl) hs
  | comparatorFire => exact execComparatorFire_keeps (hw.mono rfl) hs
  | ppsEdge => exact execPpsEdge_keeps (hw.mono rfl) hs
  | ppsLoss => exact execPpsLoss_keeps (hw.mono rfl) hs
  | todMessage => exact execTodMessage_keeps (hw.mono rfl) hs
  | todByteGap inB => exact execTodByteGap_keeps (_inB := inB) (hw.mono rfl) hs
  | ftSetarm => exact execFtSetarm_keeps (hw.mono rfl) hs
  | ftForcestep => exact execFtForcestep_keeps (hw.mono rfl) hs
  | holdoverLimit => exact execHoldoverLimit_keeps (hw.mono rfl) hs
  | serLctlWrite => exact execSerLctlWrite_keeps (hw.mono rfl) hs
  | laneEnergyDetect => exact execLaneEnergyDetect_keeps (hw.mono rfl) hs
  | laneCdrLock => exact execLaneCdrLock_keeps (hw.mono rfl) hs
  | laneCdrTimeout => exact execLaneCdrTimeout_keeps (hw.mono rfl) hs
  | laneMarkerReceive => exact execLaneMarkerReceive_keeps (hw.mono rfl) hs
  | laneMarkerMissing => exact execLaneMarkerMissing_keeps (hw.mono rfl) hs
  | laneAlignTimeout => exact execLaneAlignTimeout_keeps (hw.mono rfl) hs
  | laneEqApply => exact execLaneEqApply_keeps (hw.mono rfl) hs
  | laneEqTimeout => exact execLaneEqTimeout_keeps (hw.mono rfl) hs
  | laneDeskewDone => exact execLaneDeskewDone_keeps (hw.mono rfl) hs
  | laneDeskewTimeout => exact execLaneDeskewTimeout_keeps (hw.mono rfl) hs
  | laneCdrLoss => exact execLaneCdrLoss_keeps (hw.mono rfl) hs
  | laneStuffViolation => exact execLaneStuffViolation_keeps (hw.mono rfl) hs
  | portLaneCdrLoss => exact execPortLaneCdrLoss_keeps (hw.mono rfl) hs
  | serSlip => exact execSerSlip_keeps (hw.mono rfl) hs
  | serPrbsctlWrite => exact execSerPrbsctlWrite_keeps (hw.mono rfl) hs
  | eyeScanStart => exact execEyeScanStart_keeps (hw.mono rfl) hs
  | eyeScanDone => exact execEyeScanDone_keeps (hw.mono rfl) hs
  | portConfigWrite => exact execPortConfigWrite_keeps (hw.mono rfl) hs
  | portLinkUp => exact execPortLinkUp_keeps (hw.mono rfl) hs
  | portDlDown => exact execPortDlDown_keeps (hw.mono rfl) hs
  | hotResetReceived => exact execHotResetReceived_keeps (hw.mono rfl) hs
  | flrPf => exact execFlrPf_keeps (hw.mono rfl) hs
  | flrVf => exact execFlrVf_keeps (hw.mono rfl) hs
  | vfEnable => exact execVfEnable_keeps (hw.mono rfl) hs
  | prtTiblkWrite => exact execPrtTiblkWrite_keeps (hw.mono rfl) hs
  | prtSlotcfgWrite => exact execPrtSlotcfgWrite_keeps (hw.mono rfl) hs
  | fmApiCommand => exact execFmApiCommand_keeps (hw.mono rfl) hs
  | bindVppb => exact execBindVppb_keeps (hw.mono rfl) hs
  | bindComplete => exact execBindComplete_keeps (hw.mono rfl) hs
  | unbindWaitLinkDown => exact execUnbindWaitLinkDown_keeps (hw.mono rfl) hs
  | unbindManagedHotRemove => exact execUnbindManagedHotRemove_keeps (hw.mono rfl) hs
  | unbindSurpriseHotRemove => exact execUnbindSurpriseHotRemove_keeps (hw.mono rfl) hs
  | unbindComplete => exact execUnbindComplete_keeps (hw.mono rfl) hs
  | unbindTimeout => exact execUnbindTimeout_keeps (hw.mono rfl) hs
  | bindRspTimeout => exact execBindRspTimeout_keeps (hw.mono rfl) hs
  | apvelTransact => exact execApvelTransact_keeps (hw.mono rfl) hs
  | getWaterlogRecords => exact execGetWaterlogRecords_keeps (hw.mono rfl) hs
  | getFabricTime => exact execGetFabricTime_keeps (hw.mono rfl) hs
  | getPortReadiness => exact execGetPortReadiness_keeps (hw.mono rfl) hs
  | presenceChange => exact execPresenceChange_keeps (hw.mono rfl) hs
  | attentionButtonPress => exact execAttentionButtonPress_keeps (hw.mono rfl) hs
  | powerControllerOn => exact execPowerControllerOn_keeps (hw.mono rfl) hs
  | powerControllerOff => exact execPowerControllerOff_keeps (hw.mono rfl) hs
  | indicatorWrite => exact execIndicatorWrite_keeps (hw.mono rfl) hs
  | powerFaultClear => exact execPowerFaultClear_keeps (hw.mono rfl) hs
  | prtSlotctlWrite => exact execPrtSlotctlWrite_keeps (hw.mono rfl) hs
  | l1Entry => exact execL1Entry_keeps (hw.mono rfl) hs
  | l1Exit => exact execL1Exit_keeps (hw.mono rfl) hs
  | clkreqPartnerAssert => exact execClkreqPartnerAssert_keeps (hw.mono rfl) hs
  | leatCtlWrite => exact execLeatCtlWrite_keeps (hw.mono rfl) hs
  | leatRetrainCmd => exact execLeatRetrainCmd_keeps (hw.mono rfl) hs
  | leatDataReceive => exact execLeatDataReceive_keeps (hw.mono rfl) hs
  | leatIdleReceive => exact execLeatIdleReceive_keeps (hw.mono rfl) hs
  | leatAckReceive => exact execLeatAckReceive_keeps (hw.mono rfl) hs
  | leatInitReceive => exact execLeatInitReceive_keeps (hw.mono rfl) hs
  | leatUnitCrcFail => exact execLeatUnitCrcFail_keeps (hw.mono rfl) hs
  | spareReq => exact execSpareReq_keeps (hw.mono rfl) hs
  | retrainReq => exact execRetrainReq_keeps (hw.mono rfl) hs
  | portreset => exact execPortreset_keeps (hw.mono rfl) hs
  | bindClaim => exact execBindClaim_keeps (hw.mono rfl) hs
  | bindRsp => exact execBindRsp_keeps (hw.mono rfl) hs
  | unbind => exact execUnbind_keeps (hw.mono rfl) hs
  | lpReq => exact execLpReq_keeps (hw.mono rfl) hs
  | lpAck => exact execLpAck_keeps (hw.mono rfl) hs
  | leatAckTimer => exact execLeatAckTimer_keeps (hw.mono rfl) hs
  | leatReplayTimeout => exact execLeatReplayTimeout_keeps (hw.mono rfl) hs
  | leatLanesReady => exact execLeatLanesReady_keeps (hw.mono rfl) hs
  | leatDegradedWaitExpire => exact execLeatDegradedWaitExpire_keeps (hw.mono rfl) hs
  | leatTrainingTimeout => exact execLeatTrainingTimeout_keeps (hw.mono rfl) hs
  | leatRetrainIdleEnd => exact execLeatRetrainIdleEnd_keeps (hw.mono rfl) hs
  | leatRetrainTimeout => exact execLeatRetrainTimeout_keeps (hw.mono rfl) hs
  | leatDownRetry => exact execLeatDownRetry_keeps (hw.mono rfl) hs
  | spareReqRepeat => exact execSpareReqRepeat_keeps (hw.mono rfl) hs
  | leatDozeIdle => exact execLeatDozeIdle_keeps (hw.mono rfl) hs
  | leatWake => exact execLeatWake_keeps (hw.mono rfl) hs
  | coreMessageEnqueue => exact execCoreMessageEnqueue_keeps (hw.mono rfl) hs
  | egressSchedule => exact execEgressSchedule_keeps (hw.mono rfl) hs
  | messageDepart => exact execMessageDepart_keeps (hw.mono rfl) hs
  | turnoutAgeSweep => exact execTurnoutAgeSweep_keeps (hw.mono rfl) hs
  | groupCommit => exact execGroupCommit_keeps (hw.mono rfl) hs
  | mirrorSessionWrite => exact execMirrorSessionWrite_keeps (hw.mono rfl) hs
  | egressStall => exact execEgressStall_keeps (hw.mono rfl) hs
  | cellAudit => exact execCellAudit_keeps (hw.mono rfl) hs
  | rds => exact execRds_keeps (hw.mono rfl) hs
  | rdown => exact execRdown_keeps (hw.mono rfl) hs
  | upgr => exact execUpgr_keeps (hw.mono rfl) hs
  | rdcur => exact execRdcur_keeps (hw.mono rfl) hs
  | wrfull => exact execWrfull_keeps (hw.mono rfl) hs
  | wrpart => exact execWrpart_keeps (hw.mono rfl) hs
  | wbI => exact execWbI_keeps (hw.mono rfl) hs
  | wbS => exact execWbS_keeps (hw.mono rfl) hs
  | wbE => exact execWbE_keeps (hw.mono rfl) hs
  | evc => exact execEvc_keeps (hw.mono rfl) hs
  | oAgeSweep => exact execOAgeSweep_keeps (hw.mono rfl) hs
  | snoopResponse => exact execSnoopResponse_keeps (hw.mono rfl) hs
  | poolReadData => exact execPoolReadData_keeps (hw.mono rfl) hs
  | poolWriteComplete => exact execPoolWriteComplete_keeps (hw.mono rfl) hs
  | poolAccessFail => exact execPoolAccessFail_keeps (hw.mono rfl) hs
  | holdWindowEnd => exact execHoldWindowEnd_keeps (hw.mono rfl) hs
  | snoopTimeout => exact execSnoopTimeout_keeps (hw.mono rfl) hs
  | nakReceived => exact execNakReceived_keeps (hw.mono rfl) hs
  | nakRetry => exact execNakRetry_keeps (hw.mono rfl) hs
  | reservationExpire => exact execReservationExpire_keeps (hw.mono rfl) hs
  | agentPurgeDone => exact execAgentPurgeDone_keeps (hw.mono rfl) hs
  | wmCmpReceive => exact execWmCmpReceive_keeps (hw.mono rfl) hs
  | wmNakReceive => exact execWmNakReceive_keeps (hw.mono rfl) hs
  | wmRefuseReceive => exact execWmRefuseReceive_keeps (hw.mono rfl) hs
  | snpinv => exact execSnpinv_keeps (hw.mono rfl) hs
  | snpdata => exact execSnpdata_keeps (hw.mono rfl) hs
  | snpcur => exact execSnpcur_keeps (hw.mono rfl) hs
  | regionEnable => exact execRegionEnable_keeps (hw.mono rfl) hs
  | regionRecall => exact execRegionRecall_keeps (hw.mono rfl) hs
  | regionRecallDone => exact execRegionRecallDone_keeps (hw.mono rfl) hs
  | tableLoad => exact execTableLoad_keeps (hw.mono rfl) hs
  | tableSwitch => exact execTableSwitch_keeps (hw.mono rfl) hs
  | tableLoadDrainTimeout => exact execTableLoadDrainTimeout_keeps (hw.mono rfl) hs
  | tableCrcCheck => exact execTableCrcCheck_keeps (hw.mono rfl) hs
  | scrubSet => exact execScrubSet_keeps (hw.mono rfl) hs
  | suspectClear => exact execSuspectClear_keeps (hw.mono rfl) hs
  | snfDiagRead => exact execSnfDiagRead_keeps (hw.mono rfl) hs
  | hdmCommitDone => exact execHdmCommitDone_keeps (hw.mono rfl) hs
  | hdmDecoderCommit => exact execHdmDecoderCommit_keeps (hw.mono rfl) hs
  | poolportWrite => exact execPoolportWrite_keeps (hw.mono rfl) hs
  | mapidxWrite => exact execMapidxWrite_keeps (hw.mono rfl) hs
  | mapGrant => exact execMapGrant_keeps (hw.mono rfl) hs
  | mapRelease => exact execMapRelease_keeps (hw.mono rfl) hs
  | mapTimedApply => exact execMapTimedApply_keeps (hw.mono rfl) hs
  | zeroingDone => exact execZeroingDone_keeps (hw.mono rfl) hs
  | releaseDrainEnd => exact execReleaseDrainEnd_keeps (hw.mono rfl) hs
  | shareGroupWrite => exact execShareGroupWrite_keeps (hw.mono rfl) hs
  | addDynamicCapacity => exact execAddDynamicCapacity_keeps (hw.mono rfl) hs
  | dcdReleaseRequest => exact execDcdReleaseRequest_keeps (hw.mono rfl) hs
  | dcdForcedRemoval => exact execDcdForcedRemoval_keeps (hw.mono rfl) hs
  | windowCommit => exact execWindowCommit_keeps (hw.mono rfl) hs
  | windowShadowRefreshed => exact execWindowShadowRefreshed_keeps (hw.mono rfl) hs
  | windowDrainEnd => exact execWindowDrainEnd_keeps (hw.mono rfl) hs
  | chkRuleStore => exact execChkRuleStore_keeps (hw.mono rfl) hs
  | chkStagingClear => exact execChkStagingClear_keeps (hw.mono rfl) hs
  | chkCommit => exact execChkCommit_keeps (hw.mono rfl) hs
  | chkValidationDone => exact execChkValidationDone_keeps (hw.mono rfl) hs
  | chkWithdraw => exact execChkWithdraw_keeps (hw.mono rfl) hs
  | chkEpochApply => exact execChkEpochApply_keeps (hw.mono rfl) hs
  | chkDrainEnd => exact execChkDrainEnd_keeps (hw.mono rfl) hs
  | chkStagingRewriteDone => exact execChkStagingRewriteDone_keeps (hw.mono rfl) hs
  | chkScrub => exact execChkScrub_keeps (hw.mono rfl) hs
  | runRctx0Write => exact execRunRctx0Write_keeps (hw.mono rfl) hs
  | ringDoorbell => exact execRingDoorbell_keeps (hw.mono rfl) hs
  | ringEnable => exact execRingEnable_keeps (hw.mono rfl) hs
  | ringDisable => exact execRingDisable_keeps (hw.mono rfl) hs
  | ringResume => exact execRingResume_keeps (hw.mono rfl) hs
  | ringStopped => exact execRingStopped_keeps (hw.mono rfl) hs
  | ringCfgWrite => exact execRingCfgWrite_keeps (hw.mono rfl) hs
  | cqheadWrite => exact execCqheadWrite_keeps (hw.mono rfl) hs
  | descriptorFetchDone => exact execDescriptorFetchDone_keeps (hw.mono rfl) hs
  | nop => exact execNop_keeps (hw.mono rfl) hs
  | copy => exact execCopy_keeps (hw.mono rfl) hs
  | fill => exact execFill_keeps (hw.mono rfl) hs
  | writei => exact execWritei_keeps (hw.mono rfl) hs
  | writeiMcast => exact execWriteiMcast_keeps (hw.mono rfl) hs
  | load => exact execLoad_keeps (hw.mono rfl) hs
  | atomicFadd8 => exact execAtomicFadd8_keeps (hw.mono rfl) hs
  | atomicSwap8 => exact execAtomicSwap8_keeps (hw.mono rfl) hs
  | atomicCas8 => exact execAtomicCas8_keeps (hw.mono rfl) hs
  | atomicCas16 => exact execAtomicCas16_keeps (hw.mono rfl) hs
  | barrier => exact execBarrier_keeps (hw.mono rfl) hs
  | wcIdleIssue => exact execWcIdleIssue_keeps (hw.mono rfl) hs
  | admitNotice => exact execAdmitNotice_keeps (hw.mono rfl) hs
  | runnelWriteAck => exact execRunnelWriteAck_keeps (hw.mono rfl) hs
  | runnelReadData => exact execRunnelReadData_keeps (hw.mono rfl) hs
  | runnelWriteTimeout => exact execRunnelWriteTimeout_keeps (hw.mono rfl) hs
  | runnelReadTimeout => exact execRunnelReadTimeout_keeps (hw.mono rfl) hs
  | runPauseWrite => exact execRunPauseWrite_keeps (hw.mono rfl) hs
  | runEnableWrite => exact execRunEnableWrite_keeps (hw.mono rfl) hs
  | tokenRefill => exact execTokenRefill_keeps (hw.mono rfl) hs
  | shaperCommit => exact execShaperCommit_keeps (hw.mono rfl) hs
  | classShaperCommit => exact execClassShaperCommit_keeps (hw.mono rfl) hs
  | rotationCommit => exact execRotationCommit_keeps (hw.mono rfl) hs
  | rotationCancel => exact execRotationCancel_keeps (hw.mono rfl) hs
  | rotationActivate => exact execRotationActivate_keeps (hw.mono rfl) hs
  | rotationCycleStart => exact execRotationCycleStart_keeps (hw.mono rfl) hs
  | gateChange => exact execGateChange_keeps (hw.mono rfl) hs
  | rotenWrite => exact execRotenWrite_keeps (hw.mono rfl) hs
  | quiesce => exact execQuiesce_keeps (hw.mono rfl) hs
  | resume => exact execResume_keeps (hw.mono rfl) hs
  | reset => exact execReset_keeps (hw.mono rfl) hs
  | quiesceComplete => exact execQuiesceComplete_keeps (hw.mono rfl) hs
  | quiesceTimeout => exact execQuiesceTimeout_keeps (hw.mono rfl) hs
  | instanceResetComplete => exact execInstanceResetComplete_keeps (hw.mono rfl) hs
  | unplannedResetTimeout => exact execUnplannedResetTimeout_keeps (hw.mono rfl) hs
  | ringStoppingTimeout => exact execRingStoppingTimeout_keeps (hw.mono rfl) hs
  | instanceFault => exact execInstanceFault_keeps (hw.mono rfl) hs
  | mailboxDoorbell => exact execMailboxDoorbell_keeps (hw.mono rfl) hs
  | mailboxAck => exact execMailboxAck_keeps (hw.mono rfl) hs
  | mailboxDone => exact execMailboxDone_keeps (hw.mono rfl) hs
  | mailboxTimeout => exact execMailboxTimeout_keeps (hw.mono rfl) hs
  | tenNoticeWrite => exact execTenNoticeWrite_keeps (hw.mono rfl) hs
  | contextSave => exact execContextSave_keeps (hw.mono rfl) hs
  | contextLoad => exact execContextLoad_keeps (hw.mono rfl) hs
  | contextTransferDone => exact execContextTransferDone_keeps (hw.mono rfl) hs
  | logEnable => exact execLogEnable_keeps (hw.mono rfl) hs
  | logDisable => exact execLogDisable_keeps (hw.mono rfl) hs
  | logFlip => exact execLogFlip_keeps (hw.mono rfl) hs
  | logFlipDone => exact execLogFlipDone_keeps (hw.mono rfl) hs
  | logCacheEvict => exact execLogCacheEvict_keeps (hw.mono rfl) hs
  | boundaryDrainDone => exact execBoundaryDrainDone_keeps (hw.mono rfl) hs
  | boundaryDrainTimeout => exact execBoundaryDrainTimeout_keeps (hw.mono rfl) hs
  | acqWedge => exact execAcqWedge_keeps (hw.mono rfl) hs
  | acqHeaderFault => exact execAcqHeaderFault_keeps (hw.mono rfl) hs
  | acqProbeWrite => exact execAcqProbeWrite_keeps (hw.mono rfl) hs
  | runnelStatsSnap => exact execRunnelStatsSnap_keeps (hw.mono rfl) hs
  | sourceRaise => exact execSourceRaise_keeps (hw.mono rfl) hs
  | sourceQuiet => exact execSourceQuiet_keeps (hw.mono rfl) hs
  | quietPeriodEnd => exact execQuietPeriodEnd_keeps (hw.mono rfl) hs
  | stickyClear => exact execStickyClear_keeps (hw.mono rfl) hs
  | flapWindowClear => exact execFlapWindowClear_keeps (hw.mono rfl) hs
  | wireFault => exact execWireFault_keeps (hw.mono rfl) hs
  | wireTest => exact execWireTest_keeps (hw.mono rfl) hs
  | wireTestEnd => exact execWireTestEnd_keeps (hw.mono rfl) hs
  | collectorMismatch => exact execCollectorMismatch_keeps (hw.mono rfl) hs
  | collectorRateChange => exact execCollectorRateChange_keeps (hw.mono rfl) hs
  | spwInject => exact execSpwInject_keeps (hw.mono rfl) hs
  | spwMaskWrite => exact execSpwMaskWrite_keeps (hw.mono rfl) hs
  | spwRctWrite => exact execSpwRctWrite_keeps (hw.mono rfl) hs
  | deviceCplTimeout => exact execDeviceCplTimeout_keeps (hw.mono rfl) hs
  | feedBad => exact execFeedBad_keeps (hw.mono rfl) hs
  | feedGood => exact execFeedGood_keeps (hw.mono rfl) hs
  | feedMake => exact execFeedMake_keeps (hw.mono rfl) hs
  | feedReturn => exact execFeedReturn_keeps (hw.mono rfl) hs
  | slotPresent => exact execSlotPresent_keeps (hw.mono rfl) hs
  | slotAbsent => exact execSlotAbsent_keeps (hw.mono rfl) hs
  | sluCfgWrite => exact execSluCfgWrite_keeps (hw.mono rfl) hs
  | sluOn => exact execSluOn_keeps (hw.mono rfl) hs
  | sluOff => exact execSluOff_keeps (hw.mono rfl) hs
  | sluClrflt => exact execSluClrflt_keeps (hw.mono rfl) hs
  | sluClriso => exact execSluClriso_keeps (hw.mono rfl) hs
  | rampPlaceFree => exact execRampPlaceFree_keeps (hw.mono rfl) hs
  | rampSegmentEnd => exact execRampSegmentEnd_keeps (hw.mono rfl) hs
  | rampTimeout => exact execRampTimeout_keeps (hw.mono rfl) hs
  | powerGood => exact execPowerGood_keeps (hw.mono rfl) hs
  | stoppingEnd => exact execStoppingEnd_keeps (hw.mono rfl) hs
  | fastTrip => exact execFastTrip_keeps (hw.mono rfl) hs
  | slowTrip => exact execSlowTrip_keeps (hw.mono rfl) hs
  | underVoltage => exact execUnderVoltage_keeps (hw.mono rfl) hs
  | overVoltage => exact execOverVoltage_keeps (hw.mono rfl) hs
  | passFetDamage => exact execPassFetDamage_keeps (hw.mono rfl) hs
  | flumeSnapshot => exact execFlumeSnapshot_keeps (hw.mono rfl) hs
  | flmSnap => exact execFlmSnap_keeps (hw.mono rfl) hs
  | dumpBodyProven => exact execDumpBodyProven_keeps (hw.mono rfl) hs
  | dumpComplete => exact execDumpComplete_keeps (hw.mono rfl) hs
  | dumpFail => exact execDumpFail_keeps (hw.mono rfl) hs
  | dumpLate => exact execDumpLate_keeps (hw.mono rfl) hs
  | flmZero => exact execFlmZero_keeps (hw.mono rfl) hs
  | flmEvtWrite => exact execFlmEvtWrite_keeps (hw.mono rfl) hs
  | flmFiltWrite => exact execFlmFiltWrite_keeps (hw.mono rfl) hs
  | flmRingWrite => exact execFlmRingWrite_keeps (hw.mono rfl) hs
  | dictRead => exact execDictRead_keeps (hw.mono rfl) hs
  | dictWrite => exact execDictWrite_keeps (hw.mono rfl) hs
  | broadcastReply => exact execBroadcastReply_keeps (hw.mono rfl) hs
  | commandTimeout => exact execCommandTimeout_keeps (hw.mono rfl) hs
  | domainTransferTimeout => exact execDomainTransferTimeout_keeps (hw.mono rfl) hs
  | notificationAck => exact execNotificationAck_keeps (hw.mono rfl) hs
  | notificationResend => exact execNotificationResend_keeps (hw.mono rfl) hs
  | warmreset => exact execWarmreset_keeps (hw.mono rfl) hs
  | tilereset => exact execTilereset_keeps (hw.mono rfl) hs
  | enterStandby => exact execEnterStandby_keeps (hw.mono rfl) hs
  | enterOperational => exact execEnterOperational_keeps (hw.mono rfl) hs
  | epochcancel => exact execEpochcancel_keeps (hw.mono rfl) hs
  | configEpochApply => exact execConfigEpochApply_keeps (hw.mono rfl) hs
  | batch => exact execBatch_keeps (hw.mono rfl) hs
  | debug => exact execDebug_keeps (hw.mono rfl) hs
  | lockClaim => exact execLockClaim_keeps (hw.mono rfl) hs
  | lockLapse => exact execLockLapse_keeps (hw.mono rfl) hs
  | precedence => exact execPrecedence_keeps (hw.mono rfl) hs
  | swclear => exact execSwclear_keeps (hw.mono rfl) hs
  | cknow => exact execCknow_keeps (hw.mono rfl) hs
  | checkpointTimer => exact execCheckpointTimer_keeps (hw.mono rfl) hs
  | checkpointDone => exact execCheckpointDone_keeps (hw.mono rfl) hs
  | tenderRestart => exact execTenderRestart_keeps (hw.mono rfl) hs
  | bootSlotTry => exact execBootSlotTry_keeps (hw.mono rfl) hs
  | stage2Loaded => exact execStage2Loaded_keeps (hw.mono rfl) hs
  | imageSegmentWrite => exact execImageSegmentWrite_keeps (hw.mono rfl) hs
  | verifya => exact execVerifya_keeps (hw.mono rfl) hs
  | verifyb => exact execVerifyb_keeps (hw.mono rfl) hs
  | activatea => exact execActivatea_keeps (hw.mono rfl) hs
  | activateb => exact execActivateb_keeps (hw.mono rfl) hs
  | commit => exact execCommit_keeps (hw.mono rfl) hs
  | bootnowa => exact execBootnowa_keeps (hw.mono rfl) hs
  | bootnowb => exact execBootnowb_keeps (hw.mono rfl) hs
  | fwVerifyDone => exact execFwVerifyDone_keeps (hw.mono rfl) hs
  | trialExpire => exact execTrialExpire_keeps (hw.mono rfl) hs
  | svn => exact execSvn_keeps (hw.mono rfl) hs
  | challenge => exact execChallenge_keeps (hw.mono rfl) hs
  | unlock => exact execUnlock_keeps (hw.mono rfl) hs
  | relock => exact execRelock_keeps (hw.mono rfl) hs
  | openExpire => exact execOpenExpire_keeps (hw.mono rfl) hs
  | retire => exact execRetire_keeps (hw.mono rfl) hs
  | tapReset => exact execTapReset_keeps (hw.mono rfl) hs
  | extest => exact execExtest_keeps (hw.mono rfl) hs
  | idcode => exact execIdcode_keeps (hw.mono rfl) hs
  | samplePreload => exact execSamplePreload_keeps (hw.mono rfl) hs
  | clamp => exact execClamp_keeps (hw.mono rfl) hs
  | highz => exact execHighz_keeps (hw.mono rfl) hs
  | bypass => exact execBypass_keeps (hw.mono rfl) hs
  | sysacc => exact execSysacc_keeps (hw.mono rfl) hs
  | jtagChallenge => exact execJtagChallenge_keeps (hw.mono rfl) hs
  | jtagUnlock => exact execJtagUnlock_keeps (hw.mono rfl) hs
  | junctionWarning => exact execJunctionWarning_keeps (hw.mono rfl) hs
  | junctionTrip => exact execJunctionTrip_keeps (hw.mono rfl) hs
  | hotResetEnd => exact execHotResetEnd_keeps (hw.mono rfl) hs
  | tenderRestartDone => exact execTenderRestartDone_keeps (hw.mono rfl) hs
  | badframe => exact execBadframe_keeps (hw.mono rfl) hs
  | prbsCheckerLock => exact execPrbsCheckerLock_keeps (hw.mono rfl) hs
  | ratePairFault => exact execRatePairFault_keeps (hw.mono rfl) hs
  | logBufferCompletion => exact execLogBufferCompletion_keeps (hw.mono rfl) hs
  | flashProgramDone => exact execFlashProgramDone_keeps (hw.mono rfl) hs

/-- A tick keeps the queue and a canonical register store. -/
theorem State.tick_keeps (s : State) : Keeps 0x1fffffff7ffffff6 s s.tick := State.passTicks_keeps (Within.self _) (Keeps.refl _ s)

/-! ### Which commands complete -/

/-- A unit check completes where it holds. -/
theorem onUnit_completes {b : Bool} {u : State} (hb : b = true) : ∃ t, onUnit b u = .next t := ⟨u, if_pos hb⟩

/-- An outcome that comes down to a unit check completes where the check holds. -/
theorem next_of_onUnit {o : Host.Outcome State Fault Refusal} {b : Bool} (hb : b = true) (h : ∃ u, o = onUnit b u) :
    ∃ t, o = .next t := by
  obtain ⟨u, rfl⟩ := h
  exact onUnit_completes hb

/-- CHK_VALIDATION_DONE names no unit: each of its branches completes. -/
theorem execChkValidationDone_completes (s : State) : ∃ t, execChkValidationDone s = .next t := by
  unfold execChkValidationDone
  split
  · exact ⟨_, rfl⟩
  · dsimp only
    split
    · exact ⟨_, rfl⟩
    · split <;> exact ⟨_, rfl⟩

/-- CONFIG_REQUEST checks its port and the source of its message alone. -/
theorem execConfigRequest_completes {p : Nat} {r : CfgReq} (s : State) (hp : isPort p = true) (hr : (r.m.src == p) = true) :
    ∃ t, execConfigRequest p r s = .next t := onUnit_completes (by rw [hp, hr]; rfl)

/-- A well-formed command completes: a command with operands is a check of them by `onUnit`, no weaker than `Instr.wf` asks. -/
theorem exec_completes (c : Instr) (s : State) (h : c.wf = true) : ∃ t, exec c s = .next t := by
  cases c
  case chkValidationDone => exact execChkValidationDone_completes s
  case configRequest p r =>
    dsimp only [Instr.wf] at h
    simp only [Bool.and_eq_true] at h
    obtain ⟨⟨⟨hp, hr⟩, -⟩, -⟩ := h
    exact execConfigRequest_completes s hp hr
  case extest | samplePreload | jtagUnlock =>
    dsimp only [Instr.wf] at h
    dsimp only [exec, execExtest, execSamplePreload, execJtagUnlock]
    exact onUnit_completes h
  all_goals exact next_of_onUnit h ⟨_, rfl⟩

/-! ### The step -/

/-- A step is a tick on an empty queue, and else the command at its front. -/
theorem step_cases {s t : State} (h : step s = .next t) :
    (s.pending = [] ∧ t = s.tick) ∨ ∃ c cs, s.pending = c :: cs ∧ exec c { s with pending := cs } = .next t := by
  unfold step at h
  split at h
  · rename_i e
    cases h
    exact .inl ⟨e, rfl⟩
  · rename_i c cs e
    exact .inr ⟨c, cs, e, h⟩

/-- The queue of a sound state splits into a well-formed command and a well-formed rest. -/
theorem State.queueWf_cons {s : State} {c : Instr} {cs : List Instr} (h : s.queueWf = true) (e : s.pending = c :: cs) :
    c.wf = true ∧ cs.all Instr.wf = true := by
  unfold State.queueWf at h
  rw [e, List.all_cons, Bool.and_eq_true] at h
  exact h

/-- What `Keeps` makes of a sound state is sound. -/
theorem Keeps.sound {w : Nat} {z s : State} (h : Keeps w z s) (hz : z.Sound) : s.Sound := by
  obtain ⟨hpending, hcanon, -⟩ := h
  refine ⟨hcanon hz.1, ?_⟩
  unfold State.queueWf
  rw [hpending]
  exact hz.2

/-- Settles O3: each register field of `State.reset` reads its Reset value because its register store is empty. -/
theorem resetReadsResetValues : Obligations.ResetReadsResetValues := by
  have empty : ∀ f i, State.reset.rd f i = f.resetAt i := fun _ _ => rfl
  exact ⟨⟨rfl, rfl⟩, rfl, rfl, rfl, empty, empty _ _, empty _ _, empty _ _⟩

/-- Settles O5: the tick and every command keep the queue and a canonical register store (`State.tick_keeps`, `exec_keeps`), and the queue
behind the front command is well formed where the whole queue is. -/
theorem everyStepKeepsSound : Obligations.EveryStepKeepsSound := by
  intro s t hs h
  rcases step_cases h with ⟨-, rfl⟩ | ⟨c, cs, e, run⟩
  · exact s.tick_keeps.sound hs
  · have rest : State.Sound { s with pending := cs } := ⟨hs.1, (State.queueWf_cons hs.2 e).2⟩
    exact (exec_keeps c (Within.self _) (Keeps.refl _ _) t run).sound rest

/-- Settles O8: the front command of a sound state is well formed, so it completes, and a tick always does. -/
theorem soundStatesRun : Obligations.SoundStatesRun := by
  intro s hs
  unfold State.Runs step
  split
  · exact ⟨_, rfl⟩
  · rename_i c cs e
    exact exec_completes c _ (State.queueWf_cons hs.2 e).1

/-- A configuration request to vPPB 32 of a virtual switch: its internal bus holds vPPBs 0 to 31 (R129). -/
def beyondBridges : CfgReq := { m := { kind := .ioNonPosted }, fn := .vppb 32, f := .vendorId }

/-- Refutes O7: CONFIG_REQUEST checks its port and source alone, so that a request to a bridge that the device does not have is not well
formed and yet no fault: it completes.  (The other half holds: a well-formed command completes, by `exec_completes`, and leaves the queue
as it is, by `exec_keeps`.) -/
theorem not_wellFormedCommandsComplete : ¬ Obligations.WellFormedCommandsComplete := by
  rintro ⟨-, faults⟩
  have stops : exec (.configRequest 0 beyondBridges) State.reset = .fault .noSuchUnit := faults _ _ rfl
  obtain ⟨t, completes⟩ := execConfigRequest_completes (p := 0) (r := beyondBridges) State.reset rfl rfl
  cases completes.symm.trans stops

/-! ### A read-clear that does not clear (R207) -/

/-- RSV_MINFREE, whose one field is RC. -/
def minfreeReg : RegDesc := { addr := 0x300008, shape := .one, key := none, half := .whole, fields := [fRSV_MINFREE_MINFREE] }

/-- Reading RSV_MINFREE after reset leaves it at RSV_FREE, from which the lowest free count starts again (R207). -/
theorem readClear_minfree_reset : EndsIn (.registerReadClear 1 0 (.word 0x300008) 0) State.reset fun t =>
    t.rd fRSV_MINFREE_MINFREE 0 = State.reset.rd fRSV_FREE_FREE 0 := ⟨_, rfl, by decide +kernel⟩

/-- Refutes O10: its clause of REGISTER_READ_CLEAR has every RC field of the word read the bits of `ev` afterwards.  MINFREE is RC, and a
read sets it to the present free count (R207): after reset, a read with `ev = 0` from a port of node 1, whose accesses REGACC does not judge
here, leaves it at 0x30_0000 and not at 0. -/
theorem not_registerAccesses : ¬ Obligations.RegisterAccesses := by
  rintro ⟨-, -, -, -, readClear, -⟩
  have gate : State.reset.openGate := by decide +kernel
  have found : State.reset.findReg 0x300008 = some (minfreeReg, 0) := rfl
  obtain ⟨t, run, -, cleared, -⟩ := readClear State.reset 1 0 0x300008 0 minfreeReg 0 (by decide) (by decide) (by decide) gate rfl
    (by decide) rfl found rfl (by decide)
  obtain ⟨u, run', free⟩ := readClear_minfree_reset
  obtain rfl : t = u := by
    have same := run.symm.trans run'
    injection same
  have zero : t.rd fRSV_MINFREE_MINFREE 0 = 0 := cleared fRSV_MINFREE_MINFREE (List.mem_singleton.2 rfl) rfl
  exact absurd (zero.symm.trans free) (by decide)

end Sys2Proof.Machine
end

section
/-! PROOFS. Supplies: bits of register arrays, cold reset, the pins it leaves, the sampling of PERST_N, and the rise of PWRGD. -/
namespace Sys2Proof.Machine

/-! ### Bits of a word and of a register array -/

theorem bitOf_eq_testBit (x i : Nat) : bitOf x i = x.testBit i := by
  rw [Nat.testBit_eq_decide_div_mod_eq, bitOf, beq_eq_decide]

/-- Adding `2 ^ i` where bit `i` is 0 sets that bit alone. -/
theorem testBit_add_two_pow {x i : Nat} (h : x.testBit i = false) (j : Nat) :
    (x + 2 ^ i).testBit j = (decide (i = j) || x.testBit j) := by
  rcases lt_trichotomy j i with hj | rfl | hj
  · simp [Nat.add_comm x, Nat.testBit_two_pow_add_gt hj, hj.ne']
  · simp [Nat.add_comm x, Nat.testBit_two_pow_add_eq, h]
  · obtain ⟨k, rfl⟩ := Nat.exists_eq_add_of_le hj
    have above : (x + 2 ^ i) / 2 ^ (i + 1) = x / 2 ^ (i + 1) := by
      rw [Nat.pow_succ, ← Nat.div_div_eq_div_mul, ← Nat.div_div_eq_div_mul, Nat.add_div_right _ (Nat.two_pow_pos i)]
      rw [Nat.testBit_eq_decide_div_mod_eq, decide_eq_false_iff_not] at h
      omega
    rw [Nat.add_comm i.succ, ← Nat.testBit_div_two_pow, above, Nat.testBit_div_two_pow]
    simp [show i ≠ k + (i + 1) by omega]

/-- Subtracting `2 ^ i` where bit `i` is 1 clears that bit alone. -/
theorem testBit_sub_two_pow {x i : Nat} (h : x.testBit i = true) (j : Nat) :
    (x - 2 ^ i).testBit j = (!decide (i = j) && x.testBit j) := by
  obtain ⟨y, rfl⟩ := Nat.exists_eq_add_of_le' (Nat.ge_two_pow_of_testBit h)
  have hy : y.testBit i = false := by simpa [Nat.add_comm y, Nat.testBit_two_pow_add_eq] using h
  rw [Nat.add_sub_cancel, testBit_add_two_pow hy]
  by_cases hj : i = j
  · subst hj; simp [hy]
  · simp [hj]

/-- `putBit` writes the bit that it names and no other. -/
theorem bitOf_putBit (x i : Nat) (b : Bool) (j : Nat) : bitOf (putBit x i b) j = if i = j then b else bitOf x j := by
  unfold putBit
  simp only [bitOf_eq_testBit]
  by_cases h : x.testBit i = b
  · by_cases hj : i = j
    · subst hj; simp [h]
    · simp [h, hj]
  · cases b
    · have hx : x.testBit i = true := by simpa using h
      rw [if_neg (by simp [hx]), if_neg Bool.false_ne_true, testBit_sub_two_pow hx]
      by_cases hj : i = j <;> simp [hj]
    · have hx : x.testBit i = false := by simpa using h
      rw [if_neg (by simp [hx]), if_pos rfl, testBit_add_two_pow hx]
      by_cases hj : i = j <;> simp [hj]

theorem bitOf_mod_two_pow {x w i : Nat} (h : i < w) : bitOf (x % 2 ^ w) i = bitOf x i := by
  simp [bitOf_eq_testBit, Nat.testBit_mod_two_pow, h]

/-- A register array of 32-bit words after one of its bits is written. -/
theorem State.bit_setBit (s : State) (f : Fld) (n : Nat) (b : Bool) (m : Nat) (hf : f.width = 32) :
    (s.setBit f n b).bit f m = if n = m then b else s.bit f m := by
  unfold State.bit State.setBit
  by_cases hw : n / 32 = m / 32
  · rw [hw, State.rd_wr_same, hf, bitOf_mod_two_pow (Nat.mod_lt _ (by decide)), bitOf_putBit]
    have same : n % 32 = m % 32 ↔ n = m := by omega
    simp only [same]
  · have ne : n ≠ m := fun h => hw (by rw [h])
    rw [State.rd_wr_inst _ _ _ _ hw, if_neg ne]

theorem State.rd_setBit_key (s : State) (f : Fld) (n : Nat) (b : Bool) (g : Fld) (j : Nat) (h : f.key ≠ g.key) :
    (s.setBit f n b).rd g j = s.rd g j := State.rd_wr_key s f _ _ g j h

theorem State.rd_putb_key (s : State) (f : Fld) (i n : Nat) (b : Bool) (g : Fld) (j : Nat) (h : f.key ≠ g.key) :
    (s.putb f i n b).rd g j = s.rd g j := State.rd_wr_key s f _ _ g j h

/-! ### Reads of a register store -/

/-- What every round of a loop preserves, the loop preserves. -/
theorem State.each_induct {α : Type} (P : State → Prop) {xs : List α} {f : State → α → State} (h : ∀ t x, P t → P (f t x))
    {s : State} (hs : P s) : P (s.each xs f) := foldl_keeps P h hs

/-- Two states with the same register store read alike. -/
theorem State.rd_congr {s t : State} (h : t.regs = s.regs) (f : Fld) (i : Nat) : t.rd f i = s.rd f i := by
  unfold State.rd; rw [h]

theorem State.bit_congr {s t : State} (h : t.regs = s.regs) (f : Fld) (n : Nat) : t.bit f n = s.bit f n := by
  unfold State.bit; rw [State.rd_congr h]

theorem State.railsAt_congr {s t : State} (h : t.regs = s.regs) (v : Nat) : t.railsAt v = s.railsAt v := by
  unfold State.railsAt State.railLevel; simp only [State.rd_congr h]

/-- The entries that a filter on keys keeps read as before, every other key as the default. -/
theorem SMap.get_keep {α : Type} (d : α) (m : SMap α) (p : Nat → Bool) (k : Nat) :
    SMap.get d (SMap.keep m fun j _ => p j) k = if p k then SMap.get d m k else d := by
  induction m with
  | nil => simp [SMap.keep]
  | cons e m ih =>
    obtain ⟨j, v⟩ := e
    unfold SMap.keep at ih ⊢
    by_cases hj : p j = true
    · rw [List.filter_cons_of_pos (by exact hj), SMap.get_cons, SMap.get_cons, ih]
      by_cases hjk : j = k
      · subst hjk; simp [hj]
      · simp [hjk]
    · rw [List.filter_cons_of_neg (by exact hj), ih, SMap.get_cons]
      by_cases hjk : j = k
      · subst hjk; simp [hj]
      · simp [hjk]

/-- Field `f` set at the first `n` numbers to a value that is not its Reset value there: everything else reads as before. -/
theorem State.rd_each_wr_range (s : State) (f : Fld) (v n : Nat) (hv : ∀ i, v % 2 ^ f.width ≠ f.resetAt i) (g : Fld) (j : Nat) :
    (s.each (List.range n) fun t i => t.wr f i v).rd g j = if g.key = f.key ∧ j < n then v % 2 ^ f.width else s.rd g j := by
  induction n with
  | zero => simp [State.each]
  | succ n ih =>
    unfold State.each at ih ⊢
    rw [List.range_succ, List.foldl_append, List.foldl_cons, List.foldl_nil, State.rd_wr, ih]
    by_cases hk : f.key = g.key
    · by_cases hj : n = j
      · subst hj; simp [hk, hv]
      · have : j < n + 1 ↔ j < n := by omega
        simp [hk, hj, this]
    · simp [hk, Ne.symm hk]

/-! ### Cold reset (R11, R69) -/

/-- What a cold reset makes of the state before it decides the lifecycle state, the stepping's defaults and the trip. -/
def State.coldBase (s : State) (discharge : Bool) : State :=
  { State.reset with
    pending := s.pending
    out := s.out
    free := s.free
    colds := s.colds + 1
    tap := if s.pwr.aux then s.tapDrop.tap else {}
    regs := SMap.keep s.regs fun k _ => (keptFields.map Fld.key).contains k
    boot := { flashA := s.boot.flashA, flashB := s.boot.flashB }
    pwr := { aux := s.pwr.aux, discharge := discharge, perst := s.pwr.perst, thermLow := s.pwr.thermLow, ns := s.pwr.ns,
             start := s.pwr.ns } }

theorem State.coldReset_eq (s : State) (d : Bool) :
    s.coldReset d = (((s.coldBase d).wr fBOOT_STAT_LC 0
      (if (s.coldBase d).rdb fBOOT_LCF_RETIRED 0 then 2 else 0)).steppingDefaults).thermCool := rfl

/-- A cold reset keeps the fields of `keptFields`, and every other field of its base reads its Reset value. -/
theorem State.rd_coldBase (s : State) (d : Bool) (f : Fld) (i : Nat) :
    (s.coldBase d).rd f i = if f.key ∈ keptFields.map Fld.key then s.rd f i else f.resetAt i := by
  unfold State.rd State.coldBase
  rw [SMap.get_keep]
  by_cases h : f.key ∈ keptFields.map Fld.key
  · rw [if_pos (by simpa using h), if_pos h]
  · rw [if_neg (by simpa using h), if_neg h, SMap.get_nil]

/-- A loop of writes to one field changes the register store alone. -/
theorem State.each_wr_regs (s : State) (f : Fld) (v : Nat) (ns : List Nat) :
    ∃ r, (s.each ns fun t i => t.wr f i v) = { s with regs := r } := by
  refine State.each_induct (fun t => ∃ r, t = { s with regs := r }) ?_ ⟨s.regs, rfl⟩
  rintro t i ⟨r, rfl⟩
  exact ⟨_, rfl⟩

/-- The defaults of stepping A0 are register writes. -/
theorem State.steppingDefaults_regs (s : State) : ∃ r, s.steppingDefaults = { s with regs := r } := by
  unfold State.steppingDefaults
  split
  · obtain ⟨r, h⟩ := State.each_wr_regs s fPRT_PORTCFG_MAXRATE 5 (List.range 64)
    rw [h]
    exact State.each_wr_regs { s with regs := r } _ _ _
  · exact ⟨s.regs, rfl⟩

/-- What stepping A0 has in place of the defaults of B0 (R2, R510). -/
theorem State.rd_steppingDefaults (s : State) (f : Fld) (i : Nat) :
    s.steppingDefaults.rd f i =
      if s.a0 && f.key == fPRT_PORTCFG_MAXRATE.key && decide (i < 64) then 5
      else if s.a0 && f.key == fLEAT_CTL_RATE.key && decide (i < 8) then 1 else s.rd f i := by
  unfold State.steppingDefaults
  cases s.a0 with
  | false => simp
  | true =>
    have rate : ∀ i, 1 % 2 ^ fLEAT_CTL_RATE.width ≠ fLEAT_CTL_RATE.resetAt i := fun _ => (by decide : 1 ≠ 0)
    have maxrate : ∀ i, 5 % 2 ^ fPRT_PORTCFG_MAXRATE.width ≠ fPRT_PORTCFG_MAXRATE.resetAt i := fun _ => (by decide : 5 ≠ 6)
    rw [if_pos rfl, State.rd_each_wr_range _ _ _ _ rate, State.rd_each_wr_range _ _ _ _ maxrate,
      show 1 % 2 ^ fLEAT_CTL_RATE.width = 1 from rfl, show 5 % 2 ^ fPRT_PORTCFG_MAXRATE.width = 5 from rfl]
    by_cases hm : f.key = fPRT_PORTCFG_MAXRATE.key
    · have ne : f.key ≠ fLEAT_CTL_RATE.key := by rw [hm]; decide
      simp [hm, hm ▸ ne]
    · simp [hm]

/-- The release of a trip writes THERM_TRIPPED and the pin alone. -/
theorem State.thermCool_eq (s : State) : ∃ r low, s.thermCool = { s with regs := r, pwr := { s.pwr with thermLow := low } } := by
  unfold State.thermCool
  split
  · exact ⟨_, _, rfl⟩
  · exact ⟨_, _, rfl⟩

theorem State.rd_thermCool (s : State) (f : Fld) (i : Nat) (h : f.key ≠ fPWR_THERM_TRIPPED.key) : s.thermCool.rd f i = s.rd f i := by
  unfold State.thermCool
  split
  · exact State.rd_wrb_key _ _ _ _ _ _ h.symm
  · rfl

theorem State.thermCool_of_high {s : State} (h : s.pwr.thermLow = false) : s.thermCool = s := by
  unfold State.thermCool
  rw [if_neg (by simp [h])]

/-- Outside the register store and the trip, a cold reset leaves its base. -/
theorem State.coldReset_parts (s : State) (d : Bool) :
    ∃ r low, s.coldReset d = { s.coldBase d with regs := r, pwr := { (s.coldBase d).pwr with thermLow := low } } := by
  rw [State.coldReset_eq]
  obtain ⟨r, hr⟩ := State.steppingDefaults_regs ((s.coldBase d).wr fBOOT_STAT_LC 0
    (if (s.coldBase d).rdb fBOOT_LCF_RETIRED 0 then 2 else 0))
  obtain ⟨r', low, ht⟩ := State.thermCool_eq (State.steppingDefaults ((s.coldBase d).wr fBOOT_STAT_LC 0
    (if (s.coldBase d).rdb fBOOT_LCF_RETIRED 0 then 2 else 0)))
  exact ⟨r', low, by rw [ht, hr]; rfl⟩

/-- The stepping fuses are kept, so that the base of a cold reset has the stepping of the state. -/
theorem State.a0_coldBase (s : State) (d : Bool) (f : Fld) (i v : Nat) (h : f.key ≠ fBOOT_ID_STEPPING.key) :
    ((s.coldBase d).wr f i v).a0 = s.a0 := by
  unfold State.a0
  rw [State.rd_wr_key _ _ _ _ _ _ h, State.rd_coldBase, if_pos (by decide)]

/-- A field that is neither kept nor the lifecycle state reads its value of `coldValue` after a cold reset. -/
theorem State.rd_coldReset (s : State) (d : Bool) (f : Fld) (i : Nat) (hk : ∀ g ∈ keptFields, f.key ≠ g.key)
    (hl : f.key ≠ fBOOT_STAT_LC.key) : (s.coldReset d).rd f i = coldValue s f i := by
  have unkept : f.key ∉ keptFields.map Fld.key := by
    rw [List.mem_map]
    rintro ⟨g, hg, e⟩
    exact hk g hg e.symm
  rw [State.coldReset_eq, State.rd_thermCool _ _ _ (hk _ (by decide)), State.rd_steppingDefaults,
    State.a0_coldBase _ _ _ _ _ (by decide), State.rd_wr_key _ _ _ _ _ _ hl.symm, State.rd_coldBase, if_neg unkept]
  rfl

/-- After a cold reset the lifecycle state is Retired where the fuses say so (R69, R481). -/
theorem State.rd_lifecycle_coldReset (s : State) (d : Bool) :
    (s.coldReset d).rd fBOOT_STAT_LC 0 = if s.rdb fBOOT_LCF_RETIRED 0 then 2 else 0 := by
  have maxrate : (fBOOT_STAT_LC.key == fPRT_PORTCFG_MAXRATE.key) = false := by decide
  have rate : (fBOOT_STAT_LC.key == fLEAT_CTL_RATE.key) = false := by decide
  have retired : (s.coldBase d).rdb fBOOT_LCF_RETIRED 0 = s.rdb fBOOT_LCF_RETIRED 0 := by
    unfold State.rdb
    rw [State.rd_coldBase, if_pos (by decide)]
  rw [State.coldReset_eq, State.rd_thermCool _ _ _ (by decide), State.rd_steppingDefaults, maxrate, rate, retired]
  simp only [Bool.and_false, Bool.false_and, Bool.false_eq_true, if_false, State.rd_wr_same]
  cases s.rdb fBOOT_LCF_RETIRED 0 <;> rfl

/-- Every cold reset leaves a cold state. -/
theorem State.coldReset_coldState (s : State) (d : Bool) : coldState s (s.coldReset d) := by
  obtain ⟨r, low, h⟩ := State.coldReset_parts s d
  have hregs := fun f i => State.rd_coldReset s d f i
  have hlc := State.rd_lifecycle_coldReset s d
  rw [h] at hregs hlc ⊢
  exact ⟨rfl, rfl, rfl, rfl, rfl, rfl, rfl, rfl, rfl, rfl, rfl, rfl, rfl, rfl, rfl, rfl, hregs, hlc⟩

/-- What a cold reset leaves of the supplies: those of its state, with PWRGD low. -/
theorem State.coldReset_supplies (s : State) (d : Bool) :
    (s.coldReset d).pwr.aux = s.pwr.aux ∧ (s.coldReset d).pwr.discharge = d ∧ (s.coldReset d).pwr.pwrgd = false := by
  obtain ⟨r, low, h⟩ := State.coldReset_parts s d
  rw [h]
  exact ⟨rfl, rfl, rfl⟩

/-- A cold reset with VDD_AUX present leaves the pins to what drove them (R484). -/
theorem State.coldReset_drive {s : State} (d : Bool) (h : s.pwr.aux = true) : (s.coldReset d).tap.drive = s.tap.drive := by
  obtain ⟨r, low, e⟩ := State.coldReset_parts s d
  rw [e]
  show (if s.pwr.aux then s.tapDrop.tap else {}).drive = s.tap.drive
  rw [if_pos h]
  unfold State.tapDrop
  split <;> rfl

/-- A cold reset disarms the Spillway. -/
theorem State.coldReset_unarmed (s : State) (d : Bool) : (s.coldReset d).armed = false := by
  have value : coldValue s fSPW_CTL_ARMED 0 = 0 := by
    unfold coldValue
    rw [show (fSPW_CTL_ARMED.key == fPRT_PORTCFG_MAXRATE.key) = false by decide,
      show (fSPW_CTL_ARMED.key == fLEAT_CTL_RATE.key) = false by decide]
    simp only [Bool.and_false, Bool.false_and, Bool.false_eq_true, if_false]
    rfl
  unfold State.armed State.rdb
  rw [State.rd_coldReset _ _ _ _ (by decide) (by decide), value]
  rfl

/-! ### Pins (R49) -/

theorem State.pin_of_unpowered {s : State} (h : s.pwr.aux = false) (d : Pin) : s.pin d = .released := by
  simp [State.pin, h]

theorem State.pin_of_device {s : State} (h : s.pwr.aux = true) (hd : s.tap.drive = .device) (d : Pin) : s.pin d = d := by
  simp [State.pin, h, hd]

theorem State.pinsCold_of_pwrgd {s : State} (h : s.pwr.pwrgd = false) : s.pinsCold = true := by
  simp [State.pinsCold, h]

/-! ### Sampling PERST_N (R71, R72) -/

/-- PERST_N of port `p` taken where it does not fall: LEVEL follows the pin, and nothing else changes. -/
theorem State.perstSample_of_no_fall {s : State} {p : Nat} (h : s.bit fPWR_PERSTIN_LEVEL p = true → bitOf s.pwr.perst p = true) :
    s.perstSample p = s.setBit fPWR_PERSTIN_LEVEL p (bitOf s.pwr.perst p) := by
  unfold State.perstSample
  cases hb : s.bit fPWR_PERSTIN_LEVEL p with
  | false => rfl
  | true => simp [h hb]

/-- Ports sampled none of which falls: LEVEL of each follows its pin, and no other field and nothing of the supplies changes. -/
theorem State.perstSamples {s : State} (ps : List Nat)
    (h : ∀ p ∈ ps, s.bit fPWR_PERSTIN_LEVEL p = true → bitOf s.pwr.perst p = true) :
    (s.each ps State.perstSample).pwr = s.pwr
    ∧ (∀ p, (s.each ps State.perstSample).bit fPWR_PERSTIN_LEVEL p
        = if p ∈ ps then bitOf s.pwr.perst p else s.bit fPWR_PERSTIN_LEVEL p)
    ∧ (∀ g i, g.key ≠ fPWR_PERSTIN_LEVEL.key → (s.each ps State.perstSample).rd g i = s.rd g i) := by
  induction ps generalizing s with
  | nil => exact ⟨rfl, fun p => by simp [State.each], fun _ _ _ => rfl⟩
  | cons p ps ih =>
    have e : s.each (p :: ps) State.perstSample
        = (s.setBit fPWR_PERSTIN_LEVEL p (bitOf s.pwr.perst p)).each ps State.perstSample := by
      rw [← State.perstSample_of_no_fall (h p (List.mem_cons_self ..))]; rfl
    have hbit := fun q => State.bit_setBit s fPWR_PERSTIN_LEVEL p (bitOf s.pwr.perst p) q rfl
    obtain ⟨hpwr, hlevel, hrest⟩ := ih (s := s.setBit fPWR_PERSTIN_LEVEL p (bitOf s.pwr.perst p)) (by
      intro q hq
      rw [hbit, State.setBit_pwr]
      split
      · rename_i hpq; subst hpq; exact id
      · exact h q (List.mem_cons_of_mem _ hq))
    rw [e]
    refine ⟨hpwr, fun q => ?_, fun g i hg => (hrest g i hg).trans (State.rd_setBit_key _ _ _ _ _ _ hg.symm)⟩
    rw [hlevel, hbit, State.setBit_pwr]
    by_cases hq : q ∈ ps
    · simp [hq]
    · by_cases hpq : p = q
      · subst hpq; simp
      · simp [hq, hpq, Ne.symm hpq]

/-- Start-up with no PERST_N that reads high: the timeline starts, and LEVEL of every port follows its pin. -/
theorem State.startUp_samples {s : State} (h : ∀ p, p < 64 → s.bit fPWR_PERSTIN_LEVEL p = false) :
    s.startUp.pwr = { s.pwr with coldHold := false, start := s.pwr.ns }
    ∧ (∀ p, p < 64 → s.startUp.bit fPWR_PERSTIN_LEVEL p = bitOf s.pwr.perst p)
    ∧ (∀ g i, g.key ≠ fPWR_PERSTIN_LEVEL.key → s.startUp.rd g i = s.rd g i) := by
  obtain ⟨hpwr, hlevel, hrest⟩ := State.perstSamples (s := (s.pwrMod fun p => { p with coldHold := false }).startPoint)
    (List.range 64) (fun p hp hb => by
      have low : s.bit fPWR_PERSTIN_LEVEL p = false := h p (List.mem_range.1 hp)
      have same : ((s.pwrMod fun p => { p with coldHold := false }).startPoint).bit fPWR_PERSTIN_LEVEL p
          = s.bit fPWR_PERSTIN_LEVEL p := State.bit_congr rfl _ _
      rw [same, low] at hb
      cases hb)
  exact ⟨hpwr, fun p hp => (hlevel p).trans (if_pos (List.mem_range.2 hp)), hrest⟩

/-! ### A rise of PWRGD (R53, R63, R469) -/

/-- The board programmer's bytes change the flashes alone. -/
theorem State.setFlash_each (s : State) (prog : List (Nat × Nat × Nat)) :
    (s.each prog fun s e => s.setFlash e.1 (SMap.set 0xFF (s.flash e.1) e.2.1 (e.2.2 % 256))).pwr = s.pwr
    ∧ (s.each prog fun s e => s.setFlash e.1 (SMap.set 0xFF (s.flash e.1) e.2.1 (e.2.2 % 256))).regs = s.regs :=
  State.each_induct (fun t => t.pwr = s.pwr ∧ t.regs = s.regs) (by exact fun _ _ h => h) ⟨rfl, rfl⟩

/-- A field written at each of some places in a fault word leaves the supplies alone. -/
theorem State.putb_each_pwr (s : State) (f : Fld) (i : Nat) (b : Bool) (ns : List Nat) :
    (s.each ns fun s n => s.putb f i n b).pwr = s.pwr :=
  State.each_induct (fun t => t.pwr = s.pwr) (by exact fun _ _ h => h) rfl

/-- The state that a rise of PWRGD begins strap sampling in: the board's bytes are in the flashes. -/
def State.risen (s : State) (prog : List (Nat × Nat × Nat)) : State :=
  ((s.each prog fun s e => s.setFlash e.1 (SMap.set 0xFF (s.flash e.1) e.2.1 (e.2.2 % 256))).pwrMod fun p =>
    { p with pwrgd := true }).pwrMod fun p => { p with strap := { running := true } }

theorem State.risen_pwr (s : State) (prog : List (Nat × Nat × Nat)) :
    (s.risen prog).pwr = { s.pwr with pwrgd := true, strap := { running := true } } := by
  unfold State.risen
  simp only [State.pwrMod, (State.setFlash_each s prog).1]

theorem State.risen_regs (s : State) (prog : List (Nat × Nat × Nat)) : (s.risen prog).regs = s.regs :=
  (State.setFlash_each s prog).2

/-- A rise of PWRGD with no trip latched: start-up proceeds where no rail is at fault, and is held otherwise. -/
theorem exec_pwrgdRise {s : State} {prog : List (Nat × Nat × Nat)}
    (hp : (prog.all fun e => decide (e.1 < 2 ∧ e.2.1 < 2 ^ 26)) = true) (hg : s.pwr.pwrgd = false) (ha : s.pwr.aux = true)
    (ht : s.pwr.thermLow = false) :
    exec (.pwrgdRise prog) s = .next (if (s.railsAt 2).isEmpty then (s.risen prog).startUp
      else ((s.risen prog).each (s.railsAt 2) fun s r => s.putb fPWR_RAILSTAT_FAULTSEEN 0 r true).wrb fPWR_START_RAILHOLD 0 true) := by
  obtain ⟨hpwr, -⟩ := State.setFlash_each s prog
  have cool := State.thermCool_of_high (s := s.each prog fun s e =>
    s.setFlash e.1 (SMap.set 0xFF (s.flash e.1) e.2.1 (e.2.2 % 256))) (by rw [hpwr, ht])
  have rails := State.railsAt_congr (State.risen_regs s prog) 2
  unfold State.risen at rails
  show execPwrgdRise prog s = _
  unfold execPwrgdRise onUnit State.risen
  rw [if_pos hp, if_neg (by simp [hg, ha]), cool, if_neg (by simp only [State.pwrMod, hpwr]; simp [ht]), rails]

/-! ### The commands of the supplies -/

/-- VDD_AUX_LOST: a cold reset without discharge, after which no output is driven. -/
theorem vddAuxLost_ends {s : State} (h : s.pwr.aux = true) : EndsIn .vddAuxLost s fun t =>
    coldState s t ∧ t.pwr.aux = false ∧ t.pwr.discharge = false
    ∧ t.faultPin = .released ∧ t.alertPin = .released ∧ (∀ p, t.perstPin p = .released ∧ t.clkreqPin p = .released)
    ∧ (∀ j, t.gatePPin j = .released ∧ t.atnledPin j = .released ∧ t.pwrledPin j = .released) ∧ (∀ l, t.laneLive l = false) := by
  have run : exec .vddAuxLost s = .next ((s.pwrMod fun p => { p with aux := false }).coldReset false) :=
    congrArg Host.Outcome.next (if_pos h)
  refine ⟨_, run, State.coldReset_coldState (s.pwrMod fun p => { p with aux := false }) false, ?_⟩
  obtain ⟨haux, hdis, -⟩ := State.coldReset_supplies (s.pwrMod fun p => { p with aux := false }) false
  generalize (s.pwrMod fun p => { p with aux := false }).coldReset false = t at haux hdis
  have off : t.pwr.aux = false := haux
  have pin := State.pin_of_unpowered off
  exact ⟨off, hdis, pin _, pin _, fun p => ⟨pin _, pin _⟩, fun j => ⟨by simp [State.gatePPin, State.slotPin, off], pin _, pin _⟩,
    fun l => by simp [State.laneLive, off]⟩

/-- PWRGD_LOW: a cold reset with the gates discharged where VDD_AUX stands. -/
theorem pwrgdLow_ends {s : State} (h : s.pwr.pwrgd = true) : EndsIn .pwrgdLow s fun t =>
    coldState s t ∧ t.pwr.aux = s.pwr.aux ∧ t.pwr.discharge = s.pwr.aux
    ∧ (s.pwr.aux = true → s.tap.drive = .device →
      t.alertPin = .released ∧ t.faultPin = .low ∧ (∀ p, t.perstPin p = .released ∧ t.clkreqPin p = .released)
      ∧ (∀ j, t.gatePPin j = .low)) := by
  have run : exec .pwrgdLow s = .next (s.coldReset s.pwr.aux) := congrArg Host.Outcome.next (if_pos h)
  obtain ⟨haux, hdis, hgood⟩ := State.coldReset_supplies s s.pwr.aux
  refine ⟨_, run, State.coldReset_coldState s _, haux, hdis, fun ha hd => ?_⟩
  have drive := (State.coldReset_drive s.pwr.aux ha).trans hd
  have unarmed := State.coldReset_unarmed s s.pwr.aux
  generalize s.coldReset s.pwr.aux = t at haux hdis hgood drive unarmed
  rw [ha] at haux hdis
  have cold := State.pinsCold_of_pwrgd hgood
  have pin := State.pin_of_device haux drive
  refine ⟨?_, ?_, fun p => ⟨?_, ?_⟩, fun j => ?_⟩
  · simp [State.alertPin, pin, cold, openDrain]
  · simp [State.faultPin, pin, State.faultLow, haux, unarmed, openDrain]
  · simp [State.perstPin, pin, cold]
  · simp [State.clkreqPin, pin, cold, openDrain]
  · simp [State.gatePPin, State.slotPin, haux, cold, hdis, openDrain]

/-- PWRGD_GLITCH: counted, and nothing else. -/
theorem pwrgdGlitch_ends {s : State} (h : s.pwr.pwrgd = true) :
    Ends .pwrgdGlitch s s [(fPKG_GLITCH_PWRGD, 0, satAdd 16 (s.rd fPKG_GLITCH_PWRGD 0) 1)] := by
  refine ⟨s.inc fPKG_GLITCH_PWRGD 0, congrArg Host.Outcome.next (if_pos h), ?_, fun g j hg => ?_, rfl⟩
  · rintro w hw
    obtain rfl := List.mem_singleton.1 hw
    have fits : satAdd 16 (s.rd fPKG_GLITCH_PWRGD 0) 1 < 2 ^ 16 := by unfold satAdd; omega
    exact (State.rd_wr_same ..).trans (Nat.mod_eq_of_lt fits)
  · rcases hg _ (List.mem_singleton.2 rfl) with hk | hj
    · exact State.rd_wr_key _ _ _ _ _ _ hk.symm
    · exact State.rd_wr_inst _ _ _ _ hj.symm

/-- A rise of PWRGD with every rail inside its window: start-up proceeds at once. -/
theorem pwrgdRise_starts {s : State} {prog : List (Nat × Nat × Nat)}
    (hp : (prog.all fun e => decide (e.1 < 2 ∧ e.2.1 < 2 ^ 26)) = true) (hg : s.pwr.pwrgd = false) (ha : s.pwr.aux = true)
    (ht : s.pwr.thermLow = false) (hr : (s.railsAt 2).isEmpty = true) (hlow : ∀ p, p < 64 → s.bit fPWR_PERSTIN_LEVEL p = false) :
    EndsIn (.pwrgdRise prog) s fun t =>
      t.pwr = { s.pwr with pwrgd := true, strap := { running := true }, coldHold := false, start := s.pwr.ns }
      ∧ (∀ p, p < 64 → t.bit fPWR_PERSTIN_LEVEL p = bitOf s.pwr.perst p)
      ∧ (∀ g i, g.key ≠ fPWR_PERSTIN_LEVEL.key → t.rd g i = s.rd g i) := by
  have regs := State.risen_regs s prog
  obtain ⟨hpwr, hlevel, hrest⟩ := State.startUp_samples (s := s.risen prog) fun p hp => by rw [State.bit_congr regs, hlow p hp]
  rw [State.risen_pwr] at hpwr hlevel
  exact ⟨_, (exec_pwrgdRise hp hg ha ht).trans (by rw [if_pos hr]), hpwr, hlevel,
    fun g i hk => (hrest g i hk).trans (State.rd_congr regs g i)⟩

/-- A rise of PWRGD with a rail at fault: RAILHOLD is set, and start-up waits. -/
theorem pwrgdRise_holds {s : State} {prog : List (Nat × Nat × Nat)}
    (hp : (prog.all fun e => decide (e.1 < 2 ∧ e.2.1 < 2 ^ 26)) = true) (hg : s.pwr.pwrgd = false) (ha : s.pwr.aux = true)
    (ht : s.pwr.thermLow = false) (hr : (s.railsAt 2).isEmpty = false) :
    EndsIn (.pwrgdRise prog) s fun t =>
      t.pwr = { s.pwr with pwrgd := true, strap := { running := true } } ∧ t.rd fPWR_START_RAILHOLD 0 = 1 := by
  refine ⟨_, (exec_pwrgdRise hp hg ha ht).trans (by rw [if_neg (by simp [hr])]), ?_, State.rd_wr_same ..⟩
  rw [State.wrb_pwr, State.putb_each_pwr, State.risen_pwr]

/-- RAIL_HOLD_END: the hold ends, and start-up proceeds. -/
theorem railHoldEnd_starts {s : State} (hh : s.rdb fPWR_START_RAILHOLD 0 = true) (hr : (s.railsAt 2).isEmpty = true)
    (hlow : ∀ p, p < 64 → s.bit fPWR_PERSTIN_LEVEL p = false) :
    EndsIn .railHoldEnd s fun t =>
      t.pwr = { s.pwr with coldHold := false, start := s.pwr.ns } ∧ t.rd fPWR_START_RAILHOLD 0 = 0
      ∧ (∀ p, p < 64 → t.bit fPWR_PERSTIN_LEVEL p = bitOf s.pwr.perst p)
      ∧ (∀ g i, g.key ≠ fPWR_PERSTIN_LEVEL.key → g.key ≠ fPWR_START_RAILHOLD.key → t.rd g i = s.rd g i) := by
  have same : ∀ g i, g.key ≠ fPWR_START_RAILHOLD.key → (s.wrb fPWR_START_RAILHOLD 0 false).rd g i = s.rd g i :=
    fun g i hg => State.rd_wrb_key _ _ _ _ _ _ hg.symm
  obtain ⟨hpwr, hlevel, hrest⟩ := State.startUp_samples (s := s.wrb fPWR_START_RAILHOLD 0 false) fun p hp => by
    unfold State.bit
    rw [same _ _ (by decide)]
    exact hlow p hp
  exact ⟨_, congrArg Host.Outcome.next (if_pos ⟨hh, hr⟩), hpwr, (hrest _ _ (by decide)).trans (State.rd_wr_same ..), hlevel,
    fun g i hl hh => (hrest g i hl).trans (same g i hh)⟩

/-- Settles O11: each clause is the lemma of its command. -/
theorem suppliesAndColdReset : Obligations.SuppliesAndColdReset := by
  unfold Obligations.SuppliesAndColdReset
  refine ⟨fun _ => vddAuxLost_ends, fun s h => ?auxAbsent, fun _ => rfl, fun _ => pwrgdLow_ends, fun _ => pwrgdGlitch_ends,
    fun s h => ⟨?low, ?glitch⟩, fun _ => rfl, fun _ _ => pwrgdRise_starts, fun _ _ => pwrgdRise_holds, fun _ => railHoldEnd_starts,
    fun s h => ?held⟩
  case auxAbsent => exact congrArg Host.Outcome.next (if_neg (by simp [h]))
  case low => exact congrArg Host.Outcome.next (if_neg (by simp [h]))
  case glitch => exact congrArg Host.Outcome.next (if_neg (by simp [h]))
  case held =>
    refine congrArg Host.Outcome.next (if_neg ?_)
    rintro ⟨hold, rails⟩
    rcases h with h | h
    · exact Bool.false_ne_true (h.symm.trans hold)
    · exact Bool.false_ne_true (h.symm.trans rails)

end Sys2Proof.Machine
end

section
/-! PROOFS. What a command leaves of the registers: lists of fields set, words taken, and what an operation that keeps to its parts leaves alone. -/
namespace Sys2Proof.Machine

/-! ### Fields set -/

/-- Nothing set is nothing changed. -/
theorem Sets.none (s : State) : Sets s s [] := ⟨nofun, fun _ _ _ => rfl, rfl⟩

/-- One more field set to `x`, beside those of `ws`. -/
theorem Sets.wr {s t : State} {ws : List (Fld × Nat × Nat)} (h : Sets s t ws) (f : Fld) (i : Nat) {v x : Nat}
    (hx : v % 2 ^ f.width = x) (fresh : f.key ∉ ws.map fun w => w.1.key) : Sets s (t.wr f i v) ((f, i, x) :: ws) := by
  obtain ⟨set, others, rest⟩ := h
  refine ⟨fun w hw => ?_, fun g j hg => ?_, rest⟩
  · rcases List.mem_cons.1 hw with rfl | hw
    · exact (State.rd_wr_same ..).trans hx
    · have apart : f.key ≠ w.1.key := fun e => fresh (List.mem_map.2 ⟨w, hw, e.symm⟩)
      exact (State.rd_wr_key _ _ _ _ _ _ apart).trans (set w hw)
  · refine Eq.trans ?_ (others g j fun w hw => hg w (List.mem_cons_of_mem _ hw))
    rcases hg _ (List.mem_cons_self ..) with hk | hj
    · exact State.rd_wr_key _ _ _ _ _ _ hk.symm
    · exact State.rd_wr_inst _ _ _ _ hj.symm

/-- Another field reads as before. -/
theorem Sets.rd_other {s t : State} {ws : List (Fld × Nat × Nat)} (h : Sets s t ws) (g : Fld) (j : Nat)
    (hg : g.key ∉ ws.map fun w => w.1.key) : t.rd g j = s.rd g j :=
  h.2.1 g j fun w hw => .inl fun e => hg (List.mem_map.2 ⟨w, hw, e.symm⟩)

/-- A source raised beside the fields set. -/
theorem Sets.pulse {s t : State} {ws : List (Fld × Nat × Nat)} (h : Sets s t ws) (src : Nat) : Sets (s.pulse src) (t.pulse src) ws := by
  obtain ⟨set, others, rest⟩ := h
  exact ⟨set, others, congrArg (State.pulse · src) rest⟩

/-- The only field set. -/
theorem Sets.wr_one (s : State) (f : Fld) (i : Nat) {v x : Nat} (hx : v % 2 ^ f.width = x) : Sets s (s.wr f i v) [(f, i, x)] :=
  (Sets.none s).wr f i hx nofun

/-- A field that reads its bits of a word fits its width. -/
theorem Fld.of_mod (f : Fld) (v : Nat) : f.of v % 2 ^ f.width = f.of v := Nat.mod_mod _ _

theorem satAdd_lt (w x n : Nat) : satAdd w x n < 2 ^ w := by
  have := Nat.two_pow_pos w
  unfold satAdd
  omega

/-! ### What an operation leaves that keeps to its parts -/

/-- A field of a window outside `w` reads as before. -/
theorem Keeps.rd {w : Nat} {z s : State} (h : Keeps w z s) (f : Fld) (i : Nat) (hf : w.testBit (windowBit f.key) = false) :
    s.rd f i = z.rd f i := outside_rd h.2.2 f i hf

/-- Outside `w` lies the filter's and the homes' state. -/
theorem Keeps.wm {w : Nat} {z s : State} (h : Keeps w z s) (hw : w.testBit 19 = false) : s.wm = z.wm := by
  have := congrArg State.wm h.2.2
  simpa [State.outside, hw] using this

end Sys2Proof.Machine
end

section
/-! PROOFS. A change of profile and the Culverts: what each phase makes of the ARCH registers. -/
namespace Sys2Proof.Machine

/-! ### What a change does to the registers of ARCH -/

/-- A write of ARCH_PROFILE sets SEL, the only field that software holds there. -/
theorem setRW_profile (s : State) (val : Nat) :
    s.setRW (fieldsAt fARCH_PROFILE_SEL.addr) 0 val = s.wr fARCH_PROFILE_SEL 0 (fARCH_PROFILE_SEL.of val) := rfl

theorem rd_sel_setRW (s : State) (val : Nat) :
    (s.setRW (fieldsAt fARCH_PROFILE_SEL.addr) 0 val).rd fARCH_PROFILE_SEL 0 = fARCH_PROFILE_SEL.of val := by
  rw [setRW_profile, State.rd_wr_same, Fld.of_mod]

/-- A hold begun or ended changes no register of ARCH. -/
theorem State.rd_holdNow (s : State) (f : Fld) (i : Nat) (hf : windowBit f.key = 34) : s.holdNow.rd f i = s.rd f i :=
  (State.holdNow_keeps (Within.self _) (Keeps.refl _ s)).rd f i (by rw [hf]; decide)

theorem State.wm_holdNow (s : State) : s.holdNow.wm = s.wm :=
  (State.holdNow_keeps (Within.self _) (Keeps.refl _ s)).wm (by decide)

theorem State.rd_ageAll (s : State) (f : Fld) (i : Nat) (hf : windowBit f.key = 34) : s.ageAll.rd f i = s.rd f i :=
  (State.ageAll_keeps (Within.self _) (Keeps.refl _ s)).rd f i (by rw [hf]; decide)

theorem State.rd_recallWhere (s : State) (ws : List Nat) (p : Nat → Bool) (f : Fld) (i : Nat) (hf : windowBit f.key = 34) :
    (s.recallWhere ws p).rd f i = s.rd f i :=
  (State.recallWhere_keeps (Within.self _) (Keeps.refl _ s)).rd f i (by rw [hf]; decide)

theorem State.rd_giveCells (s : State) (n : Nat) (f : Fld) (i : Nat) (hf : windowBit f.key = 34) :
    (s.giveCells n).rd f i = s.rd f i :=
  (State.giveCells_keeps (Within.self _) (Keeps.refl _ s)).rd f i (by rw [hf]; decide)

/-- What the end of a change leaves: no phase, no change in progress, the result, and else what there was. -/
theorem State.profileEnd_leaves (s : State) (res : Nat) :
    (s.profileEnd res).phaseNow = 0 ∧ (s.profileEnd res).rd fARCH_PROFILE_BUSY 0 = 0
    ∧ (s.profileEnd res).rd fARCH_PROFILE_LASTRES 0 = res % 4
    ∧ (∀ f i, windowBit f.key = 34 → f.key ≠ fARCH_APPSTAT_PHASE.key → f.key ≠ fARCH_PROFILE_BUSY.key →
        f.key ≠ fARCH_PROFILE_LASTRES.key → (s.profileEnd res).rd f i = s.rd f i)
    ∧ (s.profileEnd res).wm = s.wm := by
  unfold State.phaseNow State.profileEnd
  refine ⟨?_, ?_, ?_, fun f i hf hp hb hl => ?_, State.wm_holdNow _⟩
  · rw [State.rd_holdNow _ _ _ rfl, State.rd_wr_key _ _ _ _ _ _ (by decide), State.rd_wrb_key _ _ _ _ _ _ (by decide)]
    exact State.rd_wr_same ..
  · rw [State.rd_holdNow _ _ _ rfl, State.rd_wr_key _ _ _ _ _ _ (by decide)]
    exact State.rd_wr_same ..
  · rw [State.rd_holdNow _ _ _ rfl]
    exact State.rd_wr_same ..
  · rw [State.rd_holdNow _ _ _ hf, State.rd_wr_key _ _ _ _ _ _ hl.symm, State.rd_wrb_key _ _ _ _ _ _ hb.symm]
    exact State.rd_wr_key _ _ _ _ _ _ hp.symm

/-- The parameters that profile `p` loads, in the registers of ARCH that show them (R28). -/
theorem State.loadProfile_loads (s : State) (p : Nat) :
    (s.loadProfile p).rd fARCH_PROFILE_ACTIVE 0 = p % 8 ∧ (s.loadProfile p).rd fARCH_CORECLK_MHZ 0 = profMhz p
    ∧ (s.loadProfile p).rd fARCH_BANKMAP_FILTER 0 = filterBanks p := by
  have outside : ∀ (t : State) (f : Fld) (i : Nat), windowBit f.key = 34 →
      ((t.each (List.range 72) State.rotUpdate).resvUpdate).globalUpdate.rd f i = t.rd f i := by
    intro t f i hf
    refine Keeps.rd (w := 0x1002000000000) (State.globalUpdate_keeps rfl (State.resvUpdate_keeps rfl
      (State.each_keeps (Keeps.refl _ t) fun _ h _ => State.rotUpdate_keeps rfl h))) f i (by rw [hf]; decide)
  have mhz : profMhz p % 2 ^ fARCH_CORECLK_MHZ.width = profMhz p := by unfold profMhz; split <;> rfl
  have banks : filterBanks p % 2 ^ fARCH_BANKMAP_FILTER.width = filterBanks p := by
    unfold filterBanks; split
    · rfl
    · split <;> rfl
  unfold State.loadProfile
  refine ⟨?_, ?_, ?_⟩ <;> rw [outside _ _ _ rfl]
  · iterate 8 rw [State.rd_wr_key _ _ _ _ _ _ (by decide)]
    exact State.rd_wr_same ..
  · iterate 3 rw [State.rd_wr_key _ _ _ _ _ _ (by decide)]
    exact (State.rd_wr_same ..).trans mhz
  · iterate 7 rw [State.rd_wr_key _ _ _ _ _ _ (by decide)]
    exact (State.rd_wr_same ..).trans banks

/-! ### The recall of an empty filter -/

/-- The filter holds no line and no slice has a transaction open. -/
def State.filterEmpty (s : State) : Prop := s.wm.ways = [] ∧ s.wm.txns = []

/-- Whether the filter is empty is its own state alone. -/
theorem State.filterEmpty_of {s t : State} (hs : s.filterEmpty) (hw : t.wm.ways = s.wm.ways) (ht : t.wm.txns = s.wm.txns) :
    t.filterEmpty := ⟨hw.trans hs.1, ht.trans hs.2⟩

/-- An operation that leaves the homes' state alone leaves an empty filter empty. -/
theorem Keeps.filterEmpty {w : Nat} {z s : State} (h : Keeps w z s) (hw : w.testBit 19 = false) (hz : z.filterEmpty) : s.filterEmpty := by
  unfold State.filterEmpty
  rw [h.wm hw]
  exact hz

/-- A way of an empty filter holds no line. -/
theorem State.fentry_of_filterEmpty {s : State} (h : s.filterEmpty) (k : Nat) : s.fentry k = {} := by
  unfold State.fentry
  rw [h.1]
  rfl

theorem State.pinned_of_filterEmpty {s : State} (h : s.filterEmpty) (k : Nat) : s.pinned k = false := by
  unfold State.pinned
  rw [h.2]
  rfl

/-- An empty way handled as one in error stays empty. -/
theorem State.badEntry_filterEmpty {s : State} (h : s.filterEmpty) (k : Nat) (inv : Bool) : (s.badEntry k inv).filterEmpty := by
  have noted : (((if inv then s.inc fSNF_ERR_INVAR 0 else s.inc fSNF_ERR_UNC 0).snfLast k (if inv then 2 else 1)).pulse 0x1B8).filterEmpty :=
    Keeps.filterEmpty (w := 0x80000000200) (State.pulse_keeps rfl (State.snfLast_keeps rfl
      (Keeps.ite (State.inc_keeps rfl (Keeps.refl _ s) rfl) (State.inc_keeps rfl (Keeps.refl _ s) rfl)))) (by decide) h
  unfold State.badEntry
  dsimp only
  generalize (((if inv then s.inc fSNF_ERR_INVAR 0 else s.inc fSNF_ERR_UNC 0).snfLast k (if inv then 2 else 1)).pulse 0x1B8) = t
    at noted ⊢
  rw [State.pinned_of_filterEmpty noted, if_neg Bool.false_ne_true]
  refine Keeps.filterEmpty (State.makeSuspect_keeps (Within.self _) (Keeps.refl _ _)) (by decide) ⟨?_, noted.2⟩
  show SMap.set {} t.wm.ways k {} = []
  rw [noted.1]
  rfl

/-- A corrected error in an empty way moves no line: the way may be retired. -/
theorem State.corrected_filterEmpty {s : State} (h : s.filterEmpty) (k : Nat) : (s.corrected k).filterEmpty := by
  have ht : ((s.inc fSNF_ERR_COR 0).snfLast k 0).filterEmpty := h
  unfold State.corrected
  dsimp only
  generalize (s.inc fSNF_ERR_COR 0).snfLast k 0 = t at ht
  split
  · exact ht
  split
  · exact ht
  split
  · unfold State.retireWay
    dsimp only
    rw [State.pinned_of_filterEmpty ht, State.fentry_of_filterEmpty ht]
    rw [if_neg (by simp)]
    have retired : (t.retire k).filterEmpty := Keeps.filterEmpty (State.retire_keeps (Within.self _) (Keeps.refl _ _)) (by decide) ht
    exact retired
  · exact ht

/-- A sweeper that reads a way of an empty filter leaves it empty, whatever error it finds. -/
theorem State.readWay_filterEmpty {s : State} (h : s.filterEmpty) (k kind : Nat) : (s.readWay k kind).filterEmpty := by
  have sane : s.entryBad (s.fentry k) = false := by rw [State.fentry_of_filterEmpty h]; rfl
  unfold State.readWay
  simp only [sane, Bool.and_false, State.when_, Bool.false_eq_true, if_false]
  split
  · have cleared : (if s.wm.corrected.contains k = true then
        { s with wm := { s.wm with corrected := s.wm.corrected.filter (· != k) } } else s).filterEmpty := by
      split <;> exact h
    split
    · exact State.badEntry_filterEmpty cleared k false
    · exact cleared
  · exact State.corrected_filterEmpty h k

/-- The sweepers leave an empty filter empty, whichever ways they find in error (R251). -/
theorem State.sweepRead_filterEmpty {s : State} (h : s.filterEmpty) : s.sweepRead.filterEmpty := by
  unfold State.sweepRead
  dsimp only
  refine State.each_induct State.filterEmpty (fun _ _ ht => State.readWay_filterEmpty ht _ _) ?_
  exact State.each_induct (s := { s with wm := { s.wm with reads := s.wm.reads + 1 } }) State.filterEmpty
    (fun _ _ ht => State.readWay_filterEmpty ht _ _) h

/-- There is nothing to recall from an empty filter. -/
theorem State.recallWhere_filterEmpty {s : State} (h : s.filterEmpty) (ws : List Nat) (p : Nat → Bool) :
    (s.recallWhere ws p).filterEmpty := by
  have swept := State.sweepRead_filterEmpty h
  unfold State.recallWhere
  dsimp only
  rw [swept.1]
  exact swept

/-! ### The commands of a change -/

/-- The phases that PROFILE_APPLY and the events of a change enter. -/
theorem State.sets_phase (s : State) {v : Nat} (hv : v < 8) : Sets s (s.phase v) [(fARCH_APPSTAT_PHASE, 0, v)] :=
  Sets.wr_one s _ _ (Nat.mod_eq_of_lt hv)

theorem State.phaseNow_phase (s : State) {v : Nat} (hv : v < 8) : (s.phase v).phaseNow = v :=
  (State.rd_wr_same ..).trans (Nat.mod_eq_of_lt hv)

/-- PROFILE_APPLY where the word is neither discarded nor comes during a change. -/
theorem exec_profileApply {s : State} {val : Nat} (hval : val < 2 ^ 32)
    (taken : s.discards (fieldsAt fARCH_PROFILE_SEL.addr) 0 val = false) (idle : s.rdb fARCH_PROFILE_BUSY 0 = false) :
    exec (.profileApply val) s = .next
      (if ¬ bitOf val 8 then s.wr fARCH_PROFILE_SEL 0 (fARCH_PROFILE_SEL.of val)
      else if fARCH_PROFILE_SEL.of val = s.rd fARCH_PROFILE_ACTIVE 0 then
        (s.wr fARCH_PROFILE_SEL 0 (fARCH_PROFILE_SEL.of val)).wr fARCH_PROFILE_LASTRES 0 1
      else match s.profileConflict (fARCH_PROFILE_SEL.of val) with
        | some (c, a, b) => s.conflict c a b
        | none => ((((s.wr fARCH_PROFILE_SEL 0 (fARCH_PROFILE_SEL.of val)).phase 1).wrb fARCH_PROFILE_BUSY 0 true).holdNow.ageAll)) := by
  show execProfileApply val s = _
  unfold execProfileApply onUnit
  dsimp only
  rw [if_pos (decide_eq_true hval), rd_sel_setRW, taken, idle, if_neg (by simp)]
  rfl

/-- A write that names the active profile ends at once (R32). -/
theorem profileApply_active {s : State} {val : Nat} (hval : val < 2 ^ 32)
    (taken : s.discards (fieldsAt fARCH_PROFILE_SEL.addr) 0 val = false) (idle : s.rdb fARCH_PROFILE_BUSY 0 = false)
    (apply : bitOf val 8 = true) (same : fARCH_PROFILE_SEL.of val = s.rd fARCH_PROFILE_ACTIVE 0) :
    Ends (.profileApply val) s s [(fARCH_PROFILE_LASTRES, 0, 1), (fARCH_PROFILE_SEL, 0, fARCH_PROFILE_SEL.of val)] := by
  refine ⟨_, (exec_profileApply hval taken idle).trans (by rw [if_neg (by simp [apply]), if_pos same]), ?_⟩
  exact (Sets.wr_one s _ _ (Fld.of_mod _ _)).wr fARCH_PROFILE_LASTRES 0 rfl (show _ ∉ [fARCH_PROFILE_SEL.key] by decide)

/-- A write that names another profile, with no combination in the way, starts the change: its first phase, with SEL set. -/
theorem profileApply_starts {s : State} {val : Nat} (hval : val < 2 ^ 32)
    (taken : s.discards (fieldsAt fARCH_PROFILE_SEL.addr) 0 val = false) (idle : s.rdb fARCH_PROFILE_BUSY 0 = false)
    (apply : bitOf val 8 = true) (other : fARCH_PROFILE_SEL.of val ≠ s.rd fARCH_PROFILE_ACTIVE 0)
    (free : s.profileConflict (fARCH_PROFILE_SEL.of val) = none) :
    EndsIn (.profileApply val) s fun t =>
      t.phaseNow = 1 ∧ t.rd fARCH_PROFILE_BUSY 0 = 1 ∧ t.rd fARCH_PROFILE_SEL 0 = fARCH_PROFILE_SEL.of val
      ∧ t.rd fARCH_PROFILE_ACTIVE 0 = s.rd fARCH_PROFILE_ACTIVE 0 := by
  refine ⟨_, (exec_profileApply hval taken idle).trans (by rw [if_neg (by simp [apply]), if_neg other, free]), ?_⟩
  have sets := ((Sets.wr_one s fARCH_PROFILE_SEL 0 (Fld.of_mod _ val)).wr fARCH_APPSTAT_PHASE 0 (v := 1) (x := 1) rfl
    (show _ ∉ [fARCH_PROFILE_SEL.key] by decide)).wr fARCH_PROFILE_BUSY 0 (v := b2n true) (x := 1) rfl
    (show _ ∉ [fARCH_APPSTAT_PHASE.key, fARCH_PROFILE_SEL.key] by decide)
  have kept : ∀ (t : State) (f : Fld), windowBit f.key = 34 → t.holdNow.ageAll.rd f 0 = t.rd f 0 := fun t f hf =>
    (State.rd_ageAll _ f 0 hf).trans (State.rd_holdNow t f 0 hf)
  refine ⟨(kept _ _ rfl).trans (sets.1 (fARCH_APPSTAT_PHASE, 0, 1) (by simp)),
    (kept _ _ rfl).trans (sets.1 (fARCH_PROFILE_BUSY, 0, 1) (by simp)),
    (kept _ _ rfl).trans (sets.1 (fARCH_PROFILE_SEL, 0, fARCH_PROFILE_SEL.of val) (by simp)), (kept _ _ rfl).trans (sets.rd_other _ _ ?_)⟩
  show _ ∉ [fARCH_PROFILE_BUSY.key, fARCH_APPSTAT_PHASE.key, fARCH_PROFILE_SEL.key]
  decide

/-- A combination that the change would complete refuses it (R34). -/
theorem profileApply_refused {s : State} {val c a b : Nat} (hval : val < 2 ^ 32)
    (taken : s.discards (fieldsAt fARCH_PROFILE_SEL.addr) 0 val = false) (idle : s.rdb fARCH_PROFILE_BUSY 0 = false)
    (apply : bitOf val 8 = true) (other : fARCH_PROFILE_SEL.of val ≠ s.rd fARCH_PROFILE_ACTIVE 0)
    (refused : s.profileConflict (fARCH_PROFILE_SEL.of val) = some (c, a, b)) :
    exec (.profileApply val) s = .next (s.conflict c a b) :=
  (exec_profileApply hval taken idle).trans (by rw [if_neg (by simp [apply]), if_neg other, refused])

/-- A write that is discarded, or comes during a change, does nothing. -/
theorem profileApply_ignored {s : State} {val : Nat} (hval : val < 2 ^ 32)
    (h : s.discards (fieldsAt fARCH_PROFILE_SEL.addr) 0 val = true ∨ s.rdb fARCH_PROFILE_BUSY 0 = true) :
    exec (.profileApply val) s = .next s := by
  show execProfileApply val s = _
  unfold execProfileApply onUnit
  dsimp only
  rw [if_pos (decide_eq_true hval), if_pos h]

/-- The Reservoir is empty, so that the lines are recalled where the bank map changes, and else the core clock is switched. -/
theorem exec_profileDrained {s : State} (h2 : s.phaseNow = 2) (msgs : s.swc.msgs = []) (cells : s.wm.cells = []) :
    exec .profileDrained s = .next (if s.mapChanges then (s.phase 3).recallWhere s.activeTable fun _ => true else s.phase 5) :=
  congrArg Host.Outcome.next (if_pos ⟨h2, by simp [msgs], by simp [cells]⟩)

/-- The switch to the new profile: its parameters stand, and the change has ended with success (R28, R32). -/
theorem profileSwitched_ends {s : State} (h5 : s.phaseNow = 5) (sel : s.rd fARCH_PROFILE_SEL 0 < 8) :
    EndsIn .profileSwitched s fun t =>
      t.rd fARCH_PROFILE_ACTIVE 0 = s.rd fARCH_PROFILE_SEL 0 ∧ t.phaseNow = 0 ∧ t.rd fARCH_PROFILE_BUSY 0 = 0
      ∧ t.rd fARCH_PROFILE_LASTRES 0 = 1 ∧ t.rd fARCH_CORECLK_MHZ 0 = profMhz (s.rd fARCH_PROFILE_SEL 0)
      ∧ t.rd fARCH_BANKMAP_FILTER 0 = filterBanks (s.rd fARCH_PROFILE_SEL 0) := by
  refine ⟨_, congrArg Host.Outcome.next (if_pos h5), ?_⟩
  obtain ⟨active, mhz, banks⟩ := State.loadProfile_loads (s.when_ s.mapChanges State.tablesClear) (s.rd fARCH_PROFILE_SEL 0)
  obtain ⟨phase, busy, res, kept, -⟩ := State.profileEnd_leaves
    ((s.when_ s.mapChanges State.tablesClear).loadProfile (s.rd fARCH_PROFILE_SEL 0)) 1
  refine ⟨?_, phase, busy, res, ?_, ?_⟩
  · exact (kept _ _ rfl (by decide) (by decide) (by decide)).trans (active.trans (Nat.mod_eq_of_lt sel))
  · exact (kept _ _ rfl (by decide) (by decide) (by decide)).trans mhz
  · exact (kept _ _ rfl (by decide) (by decide) (by decide)).trans banks

/-- The end of a rollback: the old profile stands, no line is held, and LASTRES tells what called for it (R32, R33). -/
theorem profileRollbackDone_ends {s : State} (h6 : s.phaseNow = 6) :
    EndsIn .profileRollbackDone s fun t =>
      t.phaseNow = 0 ∧ t.rd fARCH_PROFILE_BUSY 0 = 0 ∧ t.rd fARCH_PROFILE_LASTRES 0 = (if s.arch.byReaction then 3 else 2)
      ∧ t.rd fARCH_PROFILE_ACTIVE 0 = s.rd fARCH_PROFILE_ACTIVE 0 ∧ t.wm.ways = [] := by
  refine ⟨_, congrArg Host.Outcome.next (if_pos h6), ?_⟩
  obtain ⟨phase, busy, res, kept, homes⟩ := State.profileEnd_leaves ((s.giveCells s.keptCells).wmMod fun w =>
    { w with ways := [], txns := [], parked := [], rowWait := [], retiring := [], corrected := [] }) (if s.arch.byReaction then 3 else 2)
  refine ⟨phase, busy, res.trans (by split <;> rfl), ?_, by rw [homes]; rfl⟩
  exact (kept _ _ rfl (by decide) (by decide) (by decide)).trans (State.rd_giveCells s _ _ _ rfl)

/-! ### Culverts (R25) -/

/-- The spares of a bundle are two bits of SPARE. -/
theorem State.spares_le (s : State) (tile bundle : Nat) : s.spares tile bundle * 4 ^ bundle ≤ s.rd fARCH_CULV_SP_SPARE tile := by
  unfold State.spares bitsOf
  rw [show (4 : Nat) ^ bundle = 2 ^ (2 * bundle) from (Nat.pow_mul 2 2 bundle).symm]
  exact (Nat.mul_le_mul_right _ (Nat.mod_le _ _)).trans (Nat.div_mul_le_self _ _)

/-- A spare takes a wire's place. -/
theorem culvertWireSpare_ends {s : State} {tile bundle : Nat} (ht : isTile tile = true) (hb : bundle < 16)
    (left : s.spares tile bundle < 2) :
    Ends (.culvertWireSpare tile bundle) s s
      [(fARCH_CULV_SP_SPARE, tile, (s.rd fARCH_CULV_SP_SPARE tile + 4 ^ bundle) % 2 ^ 32)] := by
  have more : s.rd fARCH_CULV_SP_SPARE tile - s.spares tile bundle * 4 ^ bundle + (s.spares tile bundle + 1) * 4 ^ bundle
      = s.rd fARCH_CULV_SP_SPARE tile + 4 ^ bundle := by
    have := s.spares_le tile bundle
    rw [Nat.add_mul]
    omega
  have run : exec (.culvertWireSpare tile bundle) s = .next (s.setSpares tile bundle (s.spares tile bundle + 1)) := by
    show execCulvertWireSpare tile bundle s = _
    unfold execCulvertWireSpare onUnit
    rw [if_pos (by simp [ht, hb]), if_pos left]
  exact ⟨_, run, Sets.wr_one s _ _ (by rw [more]; rfl)⟩

/-- CULVERT_BUNDLE_RETIRE at a bundle that is not retired yet. -/
theorem exec_culvertBundleRetire {s : State} {tile bundle : Nat} (ht : isTile tile = true) (hb : bundle < 16)
    (live : s.spares tile bundle ≠ 3) :
    exec (.culvertBundleRetire tile bundle) s = .next
      (let n := s.rd fARCH_CULV_ERR_RETIRED tile + 1
       let t := ((s.setSpares tile bundle 3).wr fARCH_CULV_ERR_RETIRED tile n).pulse (0x16C + tile)
       if n = 4 then t.pulse (0x170 + tile) else t) := by
  show execCulvertBundleRetire tile bundle s = _
  unfold execCulvertBundleRetire onUnit
  rw [if_pos (by simp [ht, hb]), if_neg live]

/-- The registers of a Culvert with one more bundle retired. -/
theorem sets_bundleRetired (s : State) (tile bundle : Nat) :
    Sets s ((s.setSpares tile bundle 3).wr fARCH_CULV_ERR_RETIRED tile (s.rd fARCH_CULV_ERR_RETIRED tile + 1))
      [(fARCH_CULV_ERR_RETIRED, tile, (s.rd fARCH_CULV_ERR_RETIRED tile + 1) % 2 ^ fARCH_CULV_ERR_RETIRED.width),
       (fARCH_CULV_SP_SPARE, tile, (s.rd fARCH_CULV_SP_SPARE tile - s.spares tile bundle * 4 ^ bundle + 3 * 4 ^ bundle) % 2 ^ 32)] :=
  (Sets.wr_one s fARCH_CULV_SP_SPARE tile rfl).wr fARCH_CULV_ERR_RETIRED tile rfl (show _ ∉ [fARCH_CULV_SP_SPARE.key] by decide)

/-- The fourth bundle retired leaves the Culvert below full rate, which raises a source of its own. -/
theorem culvertBundleRetire_fourth {s : State} {tile bundle : Nat} (ht : isTile tile = true) (hb : bundle < 16)
    (live : s.spares tile bundle ≠ 3) (three : s.rd fARCH_CULV_ERR_RETIRED tile = 3) :
    Ends (.culvertBundleRetire tile bundle) s ((s.pulse (0x16C + tile)).pulse (0x170 + tile))
      [(fARCH_CULV_ERR_RETIRED, tile, 4),
       (fARCH_CULV_SP_SPARE, tile,
        (s.rd fARCH_CULV_SP_SPARE tile - s.spares tile bundle * 4 ^ bundle + 3 * 4 ^ bundle) % 2 ^ 32)] := by
  have retired := sets_bundleRetired s tile bundle
  rw [three] at retired
  refine ⟨_, (exec_culvertBundleRetire ht hb live).trans ?_, (retired.pulse (0x16C + tile)).pulse (0x170 + tile)⟩
  rw [three]
  rfl

/-- Any other bundle retired is counted, and raises the Culvert's source alone. -/
theorem culvertBundleRetire_counts {s : State} {tile bundle : Nat} (ht : isTile tile = true) (hb : bundle < 16)
    (live : s.spares tile bundle ≠ 3) (others : s.rd fARCH_CULV_ERR_RETIRED tile ≠ 3) :
    Ends (.culvertBundleRetire tile bundle) s (s.pulse (0x16C + tile))
      [(fARCH_CULV_ERR_RETIRED, tile, (s.rd fARCH_CULV_ERR_RETIRED tile + 1) % 2 ^ fARCH_CULV_ERR_RETIRED.width),
       (fARCH_CULV_SP_SPARE, tile,
        (s.rd fARCH_CULV_SP_SPARE tile - s.spares tile bundle * 4 ^ bundle + 3 * 4 ^ bundle) % 2 ^ 32)] := by
  have more : s.rd fARCH_CULV_ERR_RETIRED tile + 1 ≠ 4 := by omega
  exact ⟨_, (exec_culvertBundleRetire ht hb live).trans (congrArg Host.Outcome.next (if_neg more)),
    (sets_bundleRetired s tile bundle).pulse _⟩

/-- Settles O46: each clause is the lemma of its command, or a branch of it that is not taken. -/
theorem profileChange : Obligations.ProfileChange := by
  unfold Obligations.ProfileChange
  refine ⟨fun _ _ => profileApply_active, fun _ _ => profileApply_starts, fun _ _ _ _ _ => profileApply_refused,
    fun _ _ => profileApply_ignored, fun s val hval taken idle noApply => ?select, fun s => ?otherPhase, fun s t h3 ht => ?sweepEnds,
    fun s h1 => ?closed, fun s h2 msgs cells same => ?drained, fun s h2 msgs cells maps => ?recalls, fun s h3 ways txns => ?recalled,
    fun s h4 => ?initialised, fun _ => profileSwitched_ends, fun s h1 h4 => ?rollsBack, fun s h5 => ?late, fun _ => profileRollbackDone_ends,
    fun s h0 => ?idle, fun s tile ht => ?retry, fun _ _ _ => culvertWireSpare_ends, fun s tile bundle ht hb none => ?noSpare,
    fun _ _ _ => culvertBundleRetire_fourth, fun _ _ _ => culvertBundleRetire_counts, fun s tile bundle ht hb retired => ?retired⟩
  case select =>
    exact ⟨_, (exec_profileApply hval taken idle).trans (by rw [if_pos (by simp [noApply])]), Sets.wr_one s _ _ (Fld.of_mod _ _)⟩
  case otherPhase =>
    have stays : ∀ {c : Prop} [Decidable c] {t : State}, ¬ c →
        (Host.Outcome.next (if c then t else s) : Host.Outcome State Fault Refusal) = .next s :=
      fun h => congrArg Host.Outcome.next (if_neg h)
    refine ⟨fun h => stays h, fun h => stays ?_, fun h => congrArg Host.Outcome.next (if_pos h), fun h => stays h, fun h => stays h,
      fun h => stays h, fun h => stays (by omega)⟩
    rintro ⟨h2, msgs, cells⟩
    rw [List.isEmpty_iff] at msgs cells
    rcases h with h | h | h
    · exact h h2
    · exact h msgs
    · exact h cells
  case sweepEnds =>
    subst ht
    exact congrArg Host.Outcome.next (if_neg (not_not.2 h3))
  case closed => exact ⟨_, congrArg Host.Outcome.next (if_pos h1), s.sets_phase (by decide)⟩
  case drained => exact ⟨_, (exec_profileDrained h2 msgs cells).trans (by rw [same]; rfl), s.sets_phase (by decide)⟩
  case recalls =>
    refine ⟨_, (exec_profileDrained h2 msgs cells).trans (by rw [maps, if_pos rfl]), ?_⟩
    exact (State.rd_recallWhere _ _ _ _ _ rfl).trans (s.phaseNow_phase (by decide))
  case recalled =>
    have empty := State.recallWhere_filterEmpty (s := s) ⟨ways, txns⟩ s.activeTable fun _ => true
    refine ⟨(s.recallWhere s.activeTable fun _ => true).phase 4, congrArg Host.Outcome.next ?_, State.phaseNow_phase _ (by decide), empty⟩
    rw [if_neg (not_not.2 h3), if_pos (by simp [empty.1, empty.2])]
  case initialised => exact ⟨_, congrArg Host.Outcome.next (if_pos h4), s.sets_phase (by decide)⟩
  case rollsBack =>
    obtain ⟨set, others, -⟩ := s.sets_phase (v := 6) (by decide)
    exact ⟨_, congrArg Host.Outcome.next (if_pos ⟨h1, h4⟩), set, others, rfl⟩
  case late => exact congrArg Host.Outcome.next (if_neg (by omega))
  case idle =>
    have no : ∀ {n : Nat} {t : State}, n ≠ 0 →
        (Host.Outcome.next (if s.phaseNow = n then t else s) : Host.Outcome State Fault Refusal) = .next s :=
      fun h => congrArg Host.Outcome.next (if_neg (by omega))
    exact ⟨no (by decide), congrArg Host.Outcome.next (if_neg (by omega)), congrArg Host.Outcome.next (if_pos (by omega)),
      no (by decide), no (by decide), no (by decide)⟩
  case retry => exact ⟨_, if_pos ht, Sets.wr_one s _ _ (Nat.mod_eq_of_lt (satAdd_lt ..))⟩
  case noSpare =>
    show execCulvertWireSpare tile bundle s = _
    unfold execCulvertWireSpare onUnit
    rw [if_pos (by simp [ht, hb]), if_neg (by omega)]
  case retired =>
    show execCulvertBundleRetire tile bundle s = _
    unfold execCulvertBundleRetire onUnit
    rw [if_pos (by simp [ht, hb]), if_pos retired]

end Sys2Proof.Machine
end

section
/-! PROOFS. Words taken (R10 to R14): what a written word makes of its fields and leaves of the others. -/
namespace Sys2Proof.Machine

/-- A loop of writes to fields of other keys leaves a field alone. -/
theorem State.rd_each_wr_other (s : State) {fs : List Fld} (i : Nat) (v : State → Fld → Nat) (f : Fld) (j : Nat)
    (h : ∀ g ∈ fs, g.key ≠ f.key) : (s.each fs fun t g => t.wr g i (v t g)).rd f j = s.rd f j := by
  induction fs generalizing s with
  | nil => rfl
  | cons g fs ih =>
    exact (ih (s.wr g i (v s g)) fun g' hg' => h g' (List.mem_cons_of_mem _ hg')).trans
      (State.rd_wr_key _ _ _ _ _ _ (h g (List.mem_cons_self ..)))

/-- A word written leaves every field alone that is no RW field of it. -/
theorem State.rd_setRW_other (s : State) {fs : List Fld} (i v : Nat) (f : Fld) (j : Nat)
    (h : ∀ g ∈ fs, g.acc = .rw → g.key ≠ f.key) : (s.setRW fs i v).rd f j = s.rd f j :=
  s.rd_each_wr_other i _ f j fun g hg => by
    rw [List.mem_filter, decide_eq_true_eq] at hg
    exact h g hg.1 hg.2

theorem State.rd_w1c_other (s : State) {fs : List Fld} (i v ev : Nat) (f : Fld) (j : Nat)
    (h : ∀ g ∈ fs, g.acc = .w1c → g.key ≠ f.key) : (s.w1c fs i v ev).rd f j = s.rd f j :=
  s.rd_each_wr_other i _ f j fun g hg => by
    rw [List.mem_filter, decide_eq_true_eq] at hg
    exact h g hg.1 hg.2

/-- Each RW field of a word reads its own bits of what is written, where the fields lie apart. -/
theorem State.took_setRW (s : State) {fs : List Fld} (i v : Nat) (apart : (fs.map Fld.key).Nodup) : Took fs i v (s.setRW fs i v) := by
  induction fs generalizing s with
  | nil => nofun
  | cons g fs ih =>
    rw [List.map_cons, List.nodup_cons] at apart
    obtain ⟨new, apart⟩ := apart
    have others : ∀ (t : State) (j : Nat), (t.setRW fs i v).rd g j = t.rd g j := fun t j =>
      t.rd_setRW_other i v g j fun f hf _ e => new (List.mem_map.2 ⟨f, hf, e⟩)
    intro f hf rw_
    by_cases hg : g.acc = .rw
    · have step : s.setRW (g :: fs) i v = (s.wr g i (g.of v)).setRW fs i v := by
        unfold State.setRW
        rw [List.filter_cons_of_pos (by simpa using hg)]
        rfl
      rw [step]
      rcases List.mem_cons.1 hf with rfl | hf
      · exact (others _ _).trans ((State.rd_wr_same ..).trans (Fld.of_mod _ _))
      · exact ih _ apart f hf rw_
    · have step : s.setRW (g :: fs) i v = s.setRW fs i v := by
        unfold State.setRW
        rw [List.filter_cons_of_neg (by simpa using hg)]
      rw [step]
      rcases List.mem_cons.1 hf with rfl | hf
      · exact absurd rw_ hg
      · exact ih _ apart f hf rw_

/-- Two fields of a word whose fields lie apart have one key only where they are one field. -/
theorem key_ne_of_acc {fs : List Fld} {f g : Fld} (apart : (fs.map Fld.key).Nodup) (hf : f ∈ fs) (hg : g ∈ fs) (h : g.acc ≠ f.acc) :
    g.key ≠ f.key := fun e => h (congrArg Fld.acc (List.inj_on_of_nodup_map apart hg hf e))

/-- A word that is not discarded is taken. -/
theorem State.took_takeWord {s : State} {fs : List Fld} {i v : Nat} (ev : Nat) (apart : (fs.map Fld.key).Nodup)
    (taken : s.discards fs i v = false) : Took fs i v (s.takeWord fs i v ev) := by
  intro f hf rw_
  unfold State.takeWord
  rw [taken, if_neg Bool.false_ne_true, State.rd_w1c_other _ _ _ _ _ _ fun g hg clears => key_ne_of_acc apart hf hg (by simp [clears, rw_])]
  exact s.took_setRW i v apart f hf rw_

/-- A word taken or not, a field of another word reads as before. -/
theorem State.rd_takeWord_other (s : State) {fs : List Fld} (i v ev : Nat) (f : Fld) (j : Nat) (h : f.key ∉ fs.map Fld.key) :
    (s.takeWord fs i v ev).rd f j = s.rd f j := by
  have other : ∀ g ∈ fs, g.key ≠ f.key := fun g hg e => h (List.mem_map.2 ⟨g, hg, e⟩)
  unfold State.takeWord
  split
  · rfl
  · rw [State.rd_w1c_other _ _ _ _ _ _ fun g hg _ => other g hg, State.rd_setRW_other _ _ _ _ _ fun g hg _ => other g hg]

/-- A word with no STBY field is discarded for a reserved encoding alone (R13, R14). -/
theorem State.discards_of_no_stby (s : State) {fs : List Fld} (i v : Nat) (h : fs.all (fun f => !f.stby) = true) :
    s.discards fs i v = reservedIn fs v := by
  have none : s.stbyStops fs i v = false := by
    unfold State.stbyStops
    rw [Bool.and_eq_false_iff, List.any_eq_false]
    refine .inr fun f hf => ?_
    have noStby : f.stby = false := by simpa using List.all_eq_true.1 h f hf
    rw [noStby, Bool.false_and]
    exact Bool.false_ne_true
  rw [State.discards, none, Bool.or_false]

/-- The low half that waits is taken with the high half (R9). -/
theorem State.takeStaged_of_staged {s : State} {a low : Nat} (i : Nat) (fs : List Fld) (h : SMap.get 0 s.stage a = low + 1) :
    s.takeStaged a i fs = State.setRW { s with stage := SMap.erase s.stage a } fs i low := by
  unfold State.takeStaged
  rw [h]

end Sys2Proof.Machine
end

section
/-! PROOFS. Mirror sessions and Turnout groups: the words of a session, its quota, its analysis port, and a group's commit. -/
namespace Sys2Proof.Machine

/-! ### The words of a session -/

/-- The fields of each word of TRN_MIRs lie apart, and none is a STBY field. -/
theorem mirrorWords_apart : ∀ word < 11, ((wordFields 0x500100 word 11).map Fld.key).Nodup
    ∧ (wordFields 0x500100 word 11).all (fun f => !f.stby) = true := by decide +kernel

/-- Word 5 of a session, the high half of its base, brings the low half that waits; the other words stand alone (R9). -/
def State.mirrorStaged (s : State) (k word : Nat) : State :=
  if word = 5 then s.takeStaged (0x500100 + 64 * k + 4 * word - 4) k (fieldsAt 0x500110) else s

/-- What waits for its high half bears on no discard. -/
theorem State.mirrorStaged_discards (s : State) {k word val : Nat} (hw : word < 11) :
    (s.mirrorStaged k word).discards (wordFields 0x500100 word 11) k val = s.discards (wordFields 0x500100 word 11) k val := by
  obtain ⟨-, noStby⟩ := mirrorWords_apart word hw
  rw [State.discards_of_no_stby _ _ _ noStby, State.discards_of_no_stby _ _ _ noStby]

/-- A word of a session that is not discarded, taken with what waits for it, stands in its fields. -/
theorem State.took_mirrorWord (s : State) {k word val : Nat} (hw : word < 11)
    (taken : s.discards (wordFields 0x500100 word 11) k val = false) :
    Took (wordFields 0x500100 word 11) k val ((s.mirrorStaged k word).takeWord (wordFields 0x500100 word 11) k val) :=
  State.took_takeWord 0 (mirrorWords_apart word hw).1 ((s.mirrorStaged_discards hw).trans taken)

/-- MIRROR_SESSION_WRITE, where its word is not discarded. -/
theorem exec_mirrorSessionWrite {s : State} {k word val : Nat} (hk : k < 8) (hw : word < 11) (hval : val < 2 ^ 32)
    (taken : s.discards (wordFields 0x500100 word 11) k val = false) {t : State}
    (ht : t = (s.mirrorStaged k word).takeWord (wordFields 0x500100 word 11) k val) :
    exec (.mirrorSessionWrite k word val) s = .next
      (if word = 7 then
        (if halfCells (s.rd fARCH_PROFILE_ACTIVE 0) <
            reservations (s.rd fRSV_RSPRES_TOTAL 0) (s.rd fARCH_PROFILE_ACTIVE 0) (s.quotasBut k + bitsOf val 0 16) then
          s.conflict 4 (s.rd fARCH_PROFILE_ACTIVE 0) 0
        else t.resvUpdate)
      else if 7 < word then t
      else if s.rdb fTRN_MIR_EN k then (if word = 0 ∧ ¬ bitOf val 0 then t else s.cfgErr 5)
      else if word = 4 then s.stageLow (0x500100 + 64 * k + 4 * word) val
      else if word = 0 ∧ bitOf val 0 then
        match s.aportBad k (bitsOf val 11 6) (bitsOf val 4 7) with
        | some (0, _, _) => s.cfgErr 5
        | some (c, a, b) => s.conflict c a b
        | none =>
          if (t.rd fTRN_MIR_BASE_L k + 2 ^ 32 * t.rd fTRN_MIR_BASE_H k) % 2 ^ t.rd fTRN_MIR_SIZE k ≠ 0 then s.cfgErr 5
          else ((t.wr fTRN_MIR_SEQ k 0).wr fTRN_MIR_WPTR k 0).swcMod fun w => { w with mirCount := SMap.erase w.mirCount k }
      else t) := by
  subst ht
  show execMirrorSessionWrite k word val s = _
  unfold execMirrorSessionWrite onUnit
  dsimp only
  rw [if_pos (decide_eq_true ⟨hk, hw, hval⟩), taken, if_neg Bool.false_ne_true]
  rfl

/-- The words that are taken as they are: those of a session that is off, the counters' words, and a DISABLE. -/
theorem mirrorSessionWrite_takes {s : State} {k word val : Nat} (hk : k < 8) (hw : word < 11) (hval : val < 2 ^ 32)
    (h : (word < 7 ∧ word ≠ 0 ∧ word ≠ 4 ∧ s.rdb fTRN_MIR_EN k = false) ∨ 7 < word ∨ (word = 0 ∧ bitOf val 0 = false))
    (taken : s.discards (wordFields 0x500100 word 11) k val = false) :
    exec (.mirrorSessionWrite k word val) s = .next ((s.mirrorStaged k word).takeWord (wordFields 0x500100 word 11) k val) := by
  rw [exec_mirrorSessionWrite hk hw hval taken rfl]
  rcases h with ⟨low, notCtl, notBase, off⟩ | counters | ⟨rfl, disable⟩
  · rw [if_neg (by omega), if_neg (by omega), if_neg (by simp [off]), if_neg notBase, if_neg (by simp [notCtl])]
  · rw [if_neg (by omega), if_pos counters]
  · have stays : ¬ (0 = 0 ∧ bitOf val 0 = true) := by simp [disable]
    rw [if_neg (by decide), if_neg (by decide)]
    cases s.rdb fTRN_MIR_EN k with
    | true => rw [if_pos rfl, if_pos ⟨rfl, by simp [disable]⟩]
    | false => rw [if_neg Bool.false_ne_true, if_neg (by decide), if_neg stays]

/-- A word that is discarded does nothing. -/
theorem mirrorSessionWrite_discarded {s : State} {k word val : Nat} (hk : k < 8) (hw : word < 11) (hval : val < 2 ^ 32)
    (dropped : s.discards (wordFields 0x500100 word 11) k val = true) : exec (.mirrorSessionWrite k word val) s = .next s := by
  show execMirrorSessionWrite k word val s = _
  unfold execMirrorSessionWrite onUnit
  dsimp only
  rw [if_pos (decide_eq_true ⟨hk, hw, hval⟩), if_pos dropped]

/-- The base of a session that is off, once its high half is written. -/
theorem mirrorSessionWrite_base {s : State} {k val low : Nat} (hk : k < 8) (hval : val < 2 ^ 32) (off : s.rdb fTRN_MIR_EN k = false)
    (taken : s.discards (wordFields 0x500100 5 11) k val = false) (staged : SMap.get 0 s.stage (0x500110 + 64 * k) = low + 1) :
    EndsIn (.mirrorSessionWrite k 5 val) s fun t =>
      t.rd fTRN_MIR_BASE_L k = fTRN_MIR_BASE_L.of low ∧ t.rd fTRN_MIR_BASE_H k = fTRN_MIR_BASE_H.of val := by
  refine ⟨_, mirrorSessionWrite_takes hk (by decide) hval (.inl ⟨by decide, by decide, by decide, off⟩) taken, ?_, ?_⟩
  · have addr : 0x500100 + 64 * k + 4 * 5 - 4 = 0x500110 + 64 * k := by omega
    have lowHalf : s.mirrorStaged k 5 = State.setRW { s with stage := SMap.erase s.stage (0x500110 + 64 * k) } (fieldsAt 0x500110) k low := by
      unfold State.mirrorStaged
      rw [if_pos rfl, addr, State.takeStaged_of_staged _ _ staged]
    rw [State.rd_takeWord_other _ _ _ _ _ _ (by decide +kernel), lowHalf]
    exact State.took_setRW _ _ _ (by decide +kernel) fTRN_MIR_BASE_L (by decide +kernel) rfl
  · exact s.took_mirrorWord (by decide) taken fTRN_MIR_BASE_H (by decide +kernel) rfl

/-! ### Quota and enabling (R34, R191, R198) -/

/-- A quota within half of the profile's cells is taken. -/
theorem mirrorSessionWrite_quota {s : State} {k val : Nat} (hk : k < 8) (hval : val < 2 ^ 32)
    (taken : s.discards (wordFields 0x500100 7 11) k val = false)
    (fits : reservations (s.rd fRSV_RSPRES_TOTAL 0) (s.rd fARCH_PROFILE_ACTIVE 0) (s.quotasBut k + bitsOf val 0 16)
      ≤ halfCells (s.rd fARCH_PROFILE_ACTIVE 0)) :
    EndsIn (.mirrorSessionWrite k 7 val) s fun t => Took (wordFields 0x500100 7 11) k val t := by
  refine ⟨_, (exec_mirrorSessionWrite hk (by decide) hval taken rfl).trans (by rw [if_pos rfl, if_neg (by omega)]), ?_⟩
  intro f hf rw_
  have other : fRSV_RESV_CELLS.key ≠ f.key := by
    have : ∀ g ∈ wordFields 0x500100 7 11, fRSV_RESV_CELLS.key ≠ g.key := by decide +kernel
    exact this f hf
  exact (State.rd_wr_key _ _ _ _ _ _ other).trans (s.took_mirrorWord (by decide) taken f hf rw_)

/-- Enabling a session whose analysis port is in order and whose base its size divides starts its counters anew. -/
theorem mirrorSessionWrite_enables {s : State} {k val : Nat} (hk : k < 8) (hval : val < 2 ^ 32) (off : s.rdb fTRN_MIR_EN k = false)
    (enable : bitOf val 0 = true) (taken : s.discards (wordFields 0x500100 0 11) k val = false)
    (aport : s.aportBad k (bitsOf val 11 6) (bitsOf val 4 7) = none)
    (aligned : (s.rd fTRN_MIR_BASE_L k + 2 ^ 32 * s.rd fTRN_MIR_BASE_H k) % 2 ^ s.rd fTRN_MIR_SIZE k = 0) :
    EndsIn (.mirrorSessionWrite k 0 val) s fun t => t.rdb fTRN_MIR_EN k = true ∧ t.rd fTRN_MIR_SEQ k = 0 ∧ t.rd fTRN_MIR_WPTR k = 0 := by
  have other : ∀ f : Fld, f.key ∉ (wordFields 0x500100 0 11).map Fld.key →
      ((s.mirrorStaged k 0).takeWord (wordFields 0x500100 0 11) k val).rd f k = s.rd f k :=
    fun f hf => State.rd_takeWord_other _ _ _ _ _ _ hf
  refine ⟨State.swcMod (State.wr (State.wr ((s.mirrorStaged k 0).takeWord (wordFields 0x500100 0 11) k val) fTRN_MIR_SEQ k 0)
    fTRN_MIR_WPTR k 0) fun w => { w with mirCount := SMap.erase w.mirCount k }, (exec_mirrorSessionWrite hk (by decide) hval taken rfl).trans ?_, ?_, ?_, ?_⟩
  · rw [if_neg (by decide), if_neg (by decide), if_neg (by simp [off]), if_neg (by decide), if_pos ⟨rfl, enable⟩, aport]
    dsimp only
    rw [other _ (by decide +kernel), other _ (by decide +kernel), other _ (by decide +kernel)]
    exact congrArg Host.Outcome.next (if_neg (not_not.2 aligned))
  · have en : fTRN_MIR_EN.of val = 1 := by
      have : val / 2 ^ 0 % 2 = 1 := by simpa [bitOf] using enable
      exact this
    have set := (s.took_mirrorWord (by decide) taken fTRN_MIR_EN (by decide +kernel) rfl).trans en
    show (State.rd _ _ _ % 2 == 1) = true
    rw [State.swcMod_rd, State.rd_wr_key _ _ _ _ _ _ (by decide), State.rd_wr_key _ _ _ _ _ _ (by decide), set]
    rfl
  · exact (State.rd_wr_key _ _ _ _ _ _ (by decide)).trans (State.rd_wr_same ..)
  · exact State.rd_wr_same ..

/-! ### Turnout groups (R197) -/

/-- The members that a commit of word `val` gives group `g`. -/
def State.turnoutMembers (s : State) (g val : Nat) : Nat :=
  s.rd fTRN_GRP_MEM_L g + s.rd fTRN_GRP_MEM_H g * 2 ^ 32 + bitsOf val 0 8 * 2 ^ 64

/-- The first mirror session whose analysis port is among `members`. -/
def State.mirrorClash (s : State) (members : Nat) : Option Nat :=
  (List.range 8).find? fun k => s.rdb fTRN_MIR_EN k && bitOf members (s.rd fTRN_MIR_APORT k)

/-- GROUP_COMMIT of an enabled group that a mirror session's analysis port would join, or else. -/
theorem exec_groupCommit {s : State} {g val : Nat} (hg : g < 4096) (hval : val < 2 ^ 32) :
    exec (.groupCommit g val) s = .next
      (match (if bitOf val 31 then s.mirrorClash (s.turnoutMembers g val) else none) with
      | some k => s.conflict 7 (s.rd fTRN_MIR_APORT k) (g / 16)
      | none => ((s.wr fTRN_GRP_MEM_K g (bitsOf val 0 8)).wrb fTRN_GRP_VALID g (bitOf val 31)).swcMod fun w =>
          { w with groups := SMap.set 0 w.groups g (s.turnoutMembers g val + b2n (bitOf val 31) * 2 ^ 72) }) :=
  if_pos (decide_eq_true ⟨hg, hval⟩)

/-- A commit that makes no analysis port a member gives the group its three words at once. -/
theorem groupCommit_commits {s : State} {g val : Nat} (hg : g < 4096) (hval : val < 2 ^ 32)
    (h : bitOf val 31 = false ∨ ∀ k, k < 8 → s.rdb fTRN_MIR_EN k = true →
      bitOf (s.turnoutMembers g val) (s.rd fTRN_MIR_APORT k) = false) :
    EndsIn (.groupCommit g val) s fun t =>
      t.rd fTRN_GRP_MEM_K g = bitsOf val 0 8 ∧ t.rdb fTRN_GRP_VALID g = bitOf val 31
      ∧ SMap.get 0 t.swc.groups g = s.turnoutMembers g val + b2n (bitOf val 31) * 2 ^ 72 := by
  have none : (if bitOf val 31 then s.mirrorClash (s.turnoutMembers g val) else Option.none) = Option.none := by
    rcases h with invalid | free
    · rw [invalid, if_neg Bool.false_ne_true]
    · have : s.mirrorClash (s.turnoutMembers g val) = Option.none := by
        refine List.find?_eq_none.2 fun k hk clash => ?_
        rw [Bool.and_eq_true] at clash
        exact Bool.false_ne_true ((free k (List.mem_range.1 hk) clash.1).symm.trans clash.2)
      rw [this, ite_self]
  refine ⟨((s.wr fTRN_GRP_MEM_K g (bitsOf val 0 8)).wrb fTRN_GRP_VALID g (bitOf val 31)).swcMod fun w =>
    { w with groups := SMap.set 0 w.groups g (s.turnoutMembers g val + b2n (bitOf val 31) * 2 ^ 72) },
    (exec_groupCommit hg hval).trans ?_, ?_, ?_, ?_⟩
  · rw [none]
  · rw [State.swcMod_rd, State.rd_wrb_key _ _ _ _ _ _ (by decide), State.rd_wr_same]
    exact Nat.mod_mod _ _
  · rw [State.swcMod_rdb]
    exact State.rdb_wrb_same _ _ _ _ rfl
  · exact SMap.get_set_same ..

/-- The first session whose analysis port would become a member refuses the commit. -/
theorem groupCommit_refused {s : State} {g val k : Nat} (hg : g < 4096) (hval : val < 2 ^ 32) (valid : bitOf val 31 = true) (hk : k < 8)
    (on : s.rdb fTRN_MIR_EN k = true) (member : bitOf (s.turnoutMembers g val) (s.rd fTRN_MIR_APORT k) = true)
    (first : ∀ j, j < k → s.rdb fTRN_MIR_EN j = false ∨ bitOf (s.turnoutMembers g val) (s.rd fTRN_MIR_APORT j) = false) :
    exec (.groupCommit g val) s = .next (s.conflict 7 (s.rd fTRN_MIR_APORT k) (g / 16)) := by
  have clash : s.mirrorClash (s.turnoutMembers g val) = some k := by
    unfold State.mirrorClash
    rw [List.find?_range_eq_some]
    refine ⟨by rw [on, member]; rfl, List.mem_range.2 hk, fun j hj => ?_⟩
    rcases first j hj with h | h <;> simp [h]
  rw [exec_groupCommit hg hval, if_pos valid, clash]

/-- Settles O30: each clause is a branch of MIRROR_SESSION_WRITE or of GROUP_COMMIT. -/
theorem mirrorsAndGroups : Obligations.MirrorsAndGroups := by
  unfold Obligations.MirrorsAndGroups
  refine ⟨fun s k word val hk hw hval h taken => ⟨_, mirrorSessionWrite_takes hk hw hval h taken, s.took_mirrorWord hw taken⟩,
    fun _ _ _ _ => mirrorSessionWrite_discarded, fun s k val hk hval off taken => ?lowHalf, fun _ _ _ _ hk hval _ => mirrorSessionWrite_base hk hval,
    fun _ _ _ => mirrorSessionWrite_quota, fun s k val hk hval off enable taken => ?badPort,
    fun s t k val hk hval off enable taken aport ht odd => ?oddBase, fun _ _ _ => mirrorSessionWrite_enables,
    fun s k word val hk low notCtl hval on taken => ?on, fun s k val hk hval taken beyond => ?overQuota,
    fun _ _ _ => groupCommit_commits, fun _ _ _ _ => groupCommit_refused⟩
  case lowHalf =>
    rw [exec_mirrorSessionWrite hk (by decide) hval taken rfl, if_neg (by decide), if_neg (by decide), if_neg (by simp [off]), if_pos rfl,
      show 0x500100 + 64 * k + 4 * 4 = 0x500110 + 64 * k by omega]
  case badPort =>
    have run := exec_mirrorSessionWrite hk (by decide) hval taken rfl
    rw [if_neg (by decide), if_neg (by decide), if_neg (by simp [off]), if_neg (by decide), if_pos ⟨rfl, enable⟩] at run
    refine ⟨fun a b bad => ?_, fun c a b bad hc => ?_⟩
    · rw [run, bad]
      rfl
    · rw [run, bad]
      cases c with
      | zero => exact absurd rfl hc
      | succ c => rfl
  case oddBase =>
    rw [exec_mirrorSessionWrite hk (by decide) hval taken ht, if_neg (by decide), if_neg (by decide), if_neg (by simp [off]),
      if_neg (by decide), if_pos ⟨rfl, enable⟩, aport]
    exact congrArg Host.Outcome.next (if_pos odd)
  case on =>
    rw [exec_mirrorSessionWrite hk (by omega) hval taken rfl, if_neg (by omega), if_neg (by omega), if_pos on, if_neg (by simp [notCtl])]
  case overQuota => rw [exec_mirrorSessionWrite hk (by decide) hval taken rfl, if_pos rfl, if_pos beyond]

end Sys2Proof.Machine
end

section
/-! PROOFS. Ports and links: the loss of a link of a port that is disabled and has the upstream role. -/
namespace Sys2Proof.Machine

/-- After reset, port 0 disabled with ROLE = 1 and its link up, and the bridge of vPPB 1 of the first switch bound to port 0 itself. -/
def disabledUpstreamLink : State :=
  ((((State.reset.wr fPRT_VPPB_PORT 1 0).wr fPRT_VPPB_KIND 1 0).wr fPRT_VPPB_STATE 1 2).wr fPRT_PORTCFG_ROLE 0 1).wr fPRT_PORTSTAT_DLACTIVE 0 1

/-- Where a port's ROLE is 1 its loss is the loss of the host's link, whatever ENABLE says; the reset that follows reaches the bridge bound to
the port itself and leaves it in Hot Reset. -/
theorem portDlDown_disabledUpstreamLink :
    EndsIn (.portDlDown 0) disabledUpstreamLink fun t => t.rd fPRT_PORTSTAT_LTSSM 0 = 8 := ⟨_, rfl, by decide +kernel⟩

/-- Refutes O24: its clause of PORT_DL_DOWN says that a lost link whose port is not upstream leaves LTSSM = 0.  A port is upstream where
ENABLE = 1 and ROLE = 1, and the loss goes by ROLE alone: the state `disabledUpstreamLink` meets the clause's hypotheses and ends with
LTSSM = 8. -/
theorem not_portsAndLinks : ¬ Obligations.PortsAndLinks := by
  rintro ⟨-, -, -, -, -, -, -, -, -, -, lost, -⟩
  obtain ⟨t, run, -, detect, -⟩ := lost disabledUpstreamLink 0 rfl (by decide +kernel) (by decide +kernel) (by decide +kernel) (by decide +kernel)
    rfl rfl
  obtain ⟨u, run', hotReset⟩ := portDlDown_disabledUpstreamLink
  obtain rfl : t = u := by
    have same := run.symm.trans run'
    injection same
  exact absurd (detect.symm.trans hotReset) (by decide)

end Sys2Proof.Machine
end

section
/-! PROOFS. The set-up of the ports, which traffic and the loss of a link leave alone: of the PRT registers, messages that are queued, delivered,
lost or answered write only what `trafficFields` lists. -/
namespace Sys2Proof.Machine

/-- The PRT fields that traffic and the loss of a link write: the link's status, and the counts and addresses of what is lost. -/
def trafficFields : List Fld :=
  fPRT_PORTSTAT_LTSSM :: fPRT_ERR_LINKDOWN :: fPRT_ERR_LOSTPOST :: fPRT_ERR_LOSTWR :: fPRT_LOSTADDR_L_ADDR_L :: fPRT_LOSTADDR_H_ADDR_H :: linkFields

/-- Every other PRT field reads in `s` as in `z`. -/
def SetupKept (z s : State) : Prop :=
  ∀ f : Fld, windowBit f.key = 44 → f.key ∉ trafficFields.map Fld.key → ∀ j, s.rd f j = z.rd f j

/-- Every part of the state but the PRT window. -/
def butPorts : Nat := 2 ^ 64 - 1 - 2 ^ 44

section
variable {z s t : State}

theorem SetupKept.refl (z : State) : SetupKept z z := fun _ _ _ _ => rfl

theorem SetupKept.trans (h : SetupKept z s) (k : SetupKept s t) : SetupKept z t := fun f w hf j =>
  (k f w hf j).trans (h f w hf j)

/-- An operation that leaves the PRT window alone leaves the set-up alone. -/
theorem SetupKept.step (h : SetupKept z s) (k : Keeps butPorts s t) : SetupKept z t := fun f w hf j =>
  (k.rd f j (by rw [w]; decide +kernel)).trans (h f w hf j)

/-- A write of one of `trafficFields`, or of a field outside the PRT window. -/
theorem SetupKept.wr (h : SetupKept z s) {f : Fld} (i v : Nat) (hf : windowBit f.key = 44 → f.key ∈ trafficFields.map Fld.key) :
    SetupKept z (s.wr f i v) := fun g w hg j =>
  (State.rd_wr_key _ _ _ _ _ _ fun e => hg (e ▸ hf ((congrArg windowBit e).trans w))).trans (h g w hg j)

theorem SetupKept.each {α : Type} (h : SetupKept z s) {f : State → α → State} (hf : ∀ s x, SetupKept z s → SetupKept z (f s x))
    (xs : List α) : SetupKept z (s.each xs f) := State.each_induct (SetupKept z) hf h

theorem SetupKept.when (h : SetupKept z s) {f : State → State} (hf : ∀ s, SetupKept z s → SetupKept z (f s)) (b : Bool) :
    SetupKept z (s.when_ b f) := by
  unfold State.when_
  split
  · exact hf s h
  · exact h

theorem SetupKept.ite {c : Prop} [Decidable c] {t : State} (h : SetupKept z s) (h' : SetupKept z t) :
    SetupKept z (if c then s else t) := by
  split
  · exact h
  · exact h'

/-- The state of a pair, once the pair is known. -/
theorem SetupKept.snd_eq {α : Type} {d : α × State} {a : α} (h : SetupKept z d.2) (e : d = (a, s)) : SetupKept z s := by
  subst e
  exact h

/-- Fields of `trafficFields` cleared one after another. -/
theorem SetupKept.clearEach (h : SetupKept z s) (i : Nat) {fs : List Fld} (hfs : ∀ f ∈ fs, f.key ∈ trafficFields.map Fld.key) :
    SetupKept z (s.each fs fun t f => t.clr1 f i) := by
  induction fs generalizing s with
  | nil => exact h
  | cons f fs ih => exact ih (h.wr i _ fun _ => hfs f (List.mem_cons_self ..)) fun g hg => hfs g (List.mem_cons_of_mem _ hg)

/-! ### Messages queued, mirrored and placed -/

theorem State.wakePort_setup (e : Nat) (h : SetupKept z s) : SetupKept z (s.wakePort e) := by
  unfold State.wakePort
  split
  · exact (h.wr _ _ (by decide +kernel)).wr _ _ (by decide +kernel)
  · exact h

theorem State.enqueue_setup (id e : Nat) (h : SetupKept z s) : SetupKept z (s.enqueue id e) := by
  unfold State.enqueue
  split
  · exact h
  · exact State.wakePort_setup e (h.step (State.eqAdd_keeps rfl (State.setQueue_keeps rfl (.refl _ _))))

theorem State.lostAtPort_setup (p : Nat) (m : Msg) (h : SetupKept z s) : SetupKept z (s.lostAtPort p m) := by
  unfold State.lostAtPort
  split
  · exact h.step (State.reply_keeps rfl (.refl _ _))
  · exact h.wr _ _ (by decide +kernel)
  · exact h.step (State.reply_keeps rfl (.refl _ _))
  · refine SetupKept.step ?_ (State.reply_keeps rfl (.refl _ _))
    refine SetupKept.step ?_ (State.pulse_keeps rfl (.refl _ _))
    exact ((h.wr _ _ (by decide +kernel)).wr _ _ (by decide +kernel)).wr _ _ (by decide +kernel)
  · exact h

theorem State.mirStore_setup (k p : Nat) (of_ : Nat × Nat) (m : Msg) (h : SetupKept z s) : SetupKept z (s.mirStore k p of_ m) := by
  unfold State.mirStore
  exact State.enqueue_setup _ p (h.step (State.takeCells_keeps rfl (Keeps.set_swc rfl (Keeps.set_swc rfl (.refl _ _)))))

theorem State.mirRecord_setup (k eg : Nat) (out : Bool) (d : Stored) (m : Msg) (h : SetupKept z s) :
    SetupKept z (s.mirRecord k eg out d m) := by
  unfold State.mirRecord
  dsimp only
  split
  · exact h.step (State.inc_keeps rfl (.refl _ _) rfl)
  · split
    · exact ((h.wr _ _ (by decide +kernel)).wr _ _ (by decide +kernel)).each (fun _ m h => State.mirStore_setup k _ _ m h) _
    · exact ((h.wr _ _ (by decide +kernel)).wr _ _ (by decide +kernel)).each (fun _ m h => State.lostAtPort_setup _ m h) _

theorem State.mirMeet_setup (k eg : Nat) (out : Bool) (d : Stored) (m : Msg) (h : SetupKept z s) :
    SetupKept z (s.mirMeet k eg out d m) := by
  have counted (v : SwcS) : SetupKept z { s with swc := v } := h.step (Keeps.set_swc rfl (.refl _ _))
  unfold State.mirMeet
  dsimp only
  split
  · exact State.mirRecord_setup k eg out d m (counted _)
  · exact counted _

theorem State.mirrorIn_setup (id : Nat) (egs : List Nat) (h : SetupKept z s) : SetupKept z (s.mirrorIn id egs) := by
  unfold State.mirrorIn State.mirror
  split
  · exact h
  · split
    · exact h
    · exact h.each (fun _ k h => State.mirMeet_setup k _ _ _ _ h) _

theorem State.place_setup (x : Nat) (m : Msg) (egs : List Nat) (h : SetupKept z s) : SetupKept z (s.place x m egs) := by
  unfold State.place
  refine (State.mirrorIn_setup _ egs ?_).each (fun t e ht => ?_) egs
  · have meshed := State.when_keeps (b := decide (72 ≤ x ∧ x < 88 ∨ x = 92)) (.refl butPorts s) fun t ht =>
      State.mesh_keeps (a := internalNode x) (b := internalNode x) (m := m) rfl ht
    exact h.step (State.store_keeps rfl (State.countMsg_keeps rfl meshed))
  · exact State.enqueue_setup _ e (ht.when (fun u hu => hu.step (State.countMsg_keeps rfl (.refl _ _))) _)

theorem State.drain_setup (n : Nat) (h : SetupKept z s) : SetupKept z (State.drain n s) := by
  induction n generalizing s with
  | zero => exact h
  | succ n ih =>
    unfold State.drain
    split
    · exact h
    · split
      · exact ih (State.place_setup _ _ _ (h.step (Keeps.set_swc rfl (.refl _ _))))
      · exact h

theorem State.drainAll_setup (h : SetupKept z s) : SetupKept z s.drainAll := State.drain_setup _ h

theorem State.cellsBack_setup (n : Nat) (h : SetupKept z s) : SetupKept z (s.cellsBack n) :=
  State.drainAll_setup (h.step (State.retCredits_keeps rfl (State.giveCells_keeps rfl (.refl _ _))))

/-! ### Messages of the internal sources -/

theorem State.injectTo_setup (x : Nat) (m : Msg) (egs : List Nat) (h : SetupKept z s) : SetupKept z (s.injectTo x m egs) := by
  unfold State.injectTo
  split
  · exact h
  · exact State.drainAll_setup (h.step (Keeps.set_swc rfl (.refl _ _)))

theorem State.inject_setup (x : Nat) (m : Msg) (h : SetupKept z s) : SetupKept z (s.inject x m) := by
  have sent (t : State) (ht : SetupKept z t) : SetupKept z (match t.egressOf m with
      | none => t.unrouted m
      | some e => if e < 64 ∧ ¬ t.dlUp e then t.lostAtPort e m else t.injectTo x m [e]) := by
    split
    · exact ht.step (State.unrouted_keeps rfl (.refl _ _))
    · split
      · exact State.lostAtPort_setup _ m ht
      · exact State.injectTo_setup x m _ ht
  unfold State.inject State.answering
  split
  · exact sent s h
  · have done (a : Asked) := h.step (State.askedDone_keeps (a := a) rfl (.refl _ _))
    split
    · exact done _
    · exact sent _ (done _)

/-! ### The homes' transactions -/

theorem State.dropKept_setup (l : Nat) (h : SetupKept z s) : SetupKept z (s.dropKept l) := by
  unfold State.dropKept
  split
  · split
    · exact State.cellsBack_setup 1 (h.step (State.setTxn_keeps rfl (.refl _ _)))
    · exact h
  · exact h

theorem State.freeCell_setup (l : Nat) (h : SetupKept z s) : SetupKept z (s.freeCell l) := by
  unfold State.freeCell
  split
  · exact h
  · exact State.cellsBack_setup 1 (h.step (Keeps.set_wm rfl (.refl _ _)))

theorem State.endRow_setup (l : Nat) (h : SetupKept z s) : SetupKept z (s.endRow l) :=
  (State.dropKept_setup l h).step (State.settleTxn_keeps rfl (State.modTxn_keeps rfl (State.writeEntry_keeps rfl (.refl _ _))))

theorem State.respond_setup (l : Nat) (m : Msg) (g : Nat) (data : Option (Nat × Bool)) (bad : Bool) (h : SetupKept z s) :
    SetupKept z (s.respond l m g data bad) := State.inject_setup _ _ h

theorem State.poolSend_setup (l : Nat) (data : Option (Nat × Bool)) (be : Nat) (h : SetupKept z s) :
    SetupKept z (s.poolSend l data be).2 := by
  have checked := h.step (State.poolCheck_keeps (l := l) (data := data) (be := be) rfl (.refl _ _))
  unfold State.poolSend
  split
  next found => exact State.injectTo_setup _ _ _ (by rw [found] at checked; exact checked)
  next found => rw [found] at checked; exact checked

theorem State.issueWrite_setup (l : Nat) (d : Nat × Bool) (be kept req : Nat) (dirty : Bool) (h : SetupKept z s) :
    SetupKept z (s.issueWrite l d be kept req dirty).2 := by
  unfold State.issueWrite
  split
  · exact h
  · split
    · split
      · exact State.inject_setup _ _ h
      · exact State.inject_setup _ _ h
    · exact State.poolSend_setup l _ be h

theorem State.writeOut_setup (l a : Nat) (told : Bool) (d : Nat × Bool) (be kept req : Nat) (dirty : Bool) (h : SetupKept z s) :
    SetupKept z (s.writeOut l a told d be kept req dirty).2 := by
  have issued := State.issueWrite_setup l d be kept req dirty h
  unfold State.writeOut
  dsimp only
  split
  · exact issued
  · exact issued.step (State.writeLost_keeps rfl (.refl _ _))

theorem State.modTxn_setup (l : Nat) (f : Txn → Txn) (h : SetupKept z s) : SetupKept z (s.modTxn l f) :=
  h.step (State.modTxn_keeps rfl (.refl _ _))

theorem State.rowDone_setup (l : Nat) (h : SetupKept z s) : SetupKept z (s.rowDone l) := by
  unfold State.rowDone
  split
  · exact h
  next t ht =>
    extract_lets isWrite room gave g0 g code q dirty ln oFull data pw answered filled dropped homeSnoop freed msg kept
    have hAnswered : SetupKept z answered := by
      unfold answered
      split
      · refine h.ite (SetupKept.ite (State.inject_setup _ _ h) (State.respond_setup _ _ _ _ _ ?_))
        exact (h.step (State.countMsg_keeps rfl (.refl _ _))).ite h
      · exact h
    have hFilled : SetupKept z filled := by
      refine SetupKept.ite ?_ hAnswered
      split
      · exact State.modTxn_setup _ _ (hAnswered.step (State.fillCell_keeps rfl (.refl _ _)))
      · exact hAnswered
    have hDropped : SetupKept z dropped := State.dropKept_setup l hFilled
    have hFreed : SetupKept z freed := (State.freeCell_setup l hDropped).ite hDropped
    split
    next gone first wroteFirst =>
      have hFirst : SetupKept z first := by
        split at wroteFirst
        · exact SetupKept.snd_eq (State.writeOut_setup _ _ _ _ _ _ _ _ hFreed) wroteFirst
        · exact SetupKept.snd_eq hFreed wroteFirst
      extract_lets early holds taken
      have hTaken : SetupKept z taken := State.modTxn_setup _ _ hFirst
      split
      · have hClosed := (State.modTxn_setup l (fun t => { t with ln := {} }) hTaken).ite (c := t.req = 10) hTaken
        refine State.endRow_setup _ (SetupKept.ite ?_ hClosed)
        split
        · exact State.respond_setup _ _ _ _ _ hClosed
        · exact hClosed
      · split
        next ok wrote written =>
          have hWrote : SetupKept z wrote := SetupKept.snd_eq (State.writeOut_setup _ _ _ _ _ _ _ _ hTaken) written
          extract_lets entered failed
          have hEntered : SetupKept z entered := (hWrote.step (State.writeEntry_keeps rfl (.refl _ _))).ite hWrote
          have hFailed : SetupKept z failed := by
            unfold failed
            generalize msg = owed
            split
            · exact State.respond_setup _ _ _ _ _ hEntered
            · exact hEntered
          refine SetupKept.ite (State.modTxn_setup _ _ hEntered) (SetupKept.ite ?_ ?_)
          · exact (State.endRow_setup l hFailed).ite (State.modTxn_setup _ _ hFailed)
          · refine State.endRow_setup l (SetupKept.when ?_ (fun _ h => State.modTxn_setup _ _ h) _)
            exact hFailed.when (fun _ h => State.freeCell_setup l h) _

theorem State.advance_setup (l : Nat) (h : SetupKept z s) : SetupKept z (s.advance l) := by
  unfold State.advance
  split
  · exact h
  · refine h.ite (SetupKept.ite (SetupKept.ite ?_ (State.modTxn_setup _ _ h)) (State.rowDone_setup l h))
    exact State.rowDone_setup l (State.modTxn_setup _ _ h)

theorem State.closeSnoop_setup (l a cause : Nat) (h : SetupKept z s) : SetupKept z (s.closeSnoop l a cause) := by
  unfold State.closeSnoop
  split
  · exact h
  · refine h.ite (State.advance_setup l (State.modTxn_setup _ _ ?_))
    exact (h.step (State.lostLine_keeps rfl (.refl _ _))).ite h

theorem State.agentLost_setup (a : Nat) (h : SetupKept z s) : SetupKept z (s.agentLost a) :=
  (h.step (State.setDown_keeps rfl (.refl _ _))).each (fun _ l h => State.closeSnoop_setup l a 1 h) _

/-! ### Messages flushed and requests released -/

theorem State.undeliverable_setup (e : Nat) (m : Msg) (h : SetupKept z s) : SetupKept z (s.undeliverable e m) :=
  (State.lostAtPort_setup e m h).ite ((h.step (State.lostAtLink_keeps rfl (.refl _ _))).ite (h.step (State.lostInside_keeps rfl (.refl _ _))))

theorem State.flushQueue_setup (e t g : Nat) (h : SetupKept z s) : SetupKept z (s.flushQueue e t g) := by
  refine (h.step (State.setQueue_keeps rfl (.refl _ _))).each (fun u en hu => ?_) _
  split
  · exact hu
  · exact (State.undeliverable_setup e _ hu).step (State.copyGone_keeps rfl (.refl _ _))

theorem State.flushSending_setup (e i : Nat) (h : SetupKept z s) : SetupKept z (s.flushSending e i) := by
  unfold State.flushSending
  split
  · exact h
  · extract_lets swc stopped
    have hStopped : SetupKept z stopped := h.step (Keeps.set_swc rfl (.refl _ _))
    split
    · exact hStopped
    · refine SetupKept.step (State.undeliverable_setup e _ ?_) (State.copyGone_keeps rfl (.refl _ _))
      exact hStopped.step (State.tdResolve_keeps rfl (.refl _ _))

theorem State.flushEgress_setup (e : Nat) (h : SetupKept z s) : SetupKept z (s.flushEgress e) :=
  SetupKept.each (h.each (fun _ t h => h.each (fun _ g h => State.flushQueue_setup e t g h) _) _)
    (fun _ i h => State.flushSending_setup e i h) _

theorem State.release_setup (d : Stored) (k : Nat) (h : SetupKept z s) : SetupKept z (s.release d k) :=
  (h.step (State.flmAdd_keeps rfl (State.deduct_keeps rfl (.refl _ _)))).each (fun _ e h => State.enqueue_setup d.id e h) _

theorem State.tryRelease_setup (ti : Nat) (h : SetupKept z s) {t : State} (released : s.tryRelease ti = some t) : SetupKept z t := by
  unfold State.tryRelease at released
  split at released
  · exact absurd released nofun
  · dsimp only at released
    split at released
    · rw [← Option.some.inj released]
      have turned (held : List Nat) (w : WeirS) : SetupKept z { s.setHeld held with weir := w } :=
        h.step (Keeps.set_weir rfl (State.setHeld_keeps rfl (.refl _ _)))
      exact (State.release_setup _ _ (turned _ _)).step (State.retCredit_keeps rfl (.refl _ _))
    · exact absurd released nofun

theorem State.consider_setup (n : Nat) (h : SetupKept z s) : SetupKept z (s.consider n) := by
  induction n generalizing s with
  | zero => exact h
  | succ n ih =>
    unfold State.consider
    split
    · exact h
    next released =>
      obtain ⟨ti, -, released⟩ := List.exists_of_findSome?_eq_some released
      exact ih (State.tryRelease_setup ti h released)

/-! ### The loss of a link -/

theorem State.dlDown_setup (p st : Nat) (planned : Bool) (h : SetupKept z s) : SetupKept z (s.dlDown p st planned) := by
  unfold State.dlDown
  extract_lets up agent halted down idle counted raised flushed failed settled returned lost
  have hHalted : SetupKept z halted := h.when (fun t ht =>
    ht.step (State.portMod_keeps rfl (State.each_keeps (.refl _ _) fun _ k _ => State.adaptKeep_keeps rfl k))) _
  have hDown : SetupKept z down :=
    (hHalted.clearEach p (by decide +kernel)).wr _ _ (by decide +kernel)
  have hCounted : SetupKept z counted := by
    have hIdle : SetupKept z idle := hDown.step (State.each_keeps (.refl _ _) fun _ k _ => State.portLaneIdle_keeps rfl k)
    exact (hIdle.wr _ _ (by decide +kernel)).step (State.countEv_keeps rfl (.refl _ _))
  have hRaised : SetupKept z raised := hCounted.when (fun _ ht => ht.step (State.pulse_keeps rfl (.refl _ _))) _
  have hFlushed : SetupKept z flushed := State.flushEgress_setup p (hRaised.step (State.truncate_keeps rfl (.refl _ _)))
  have hFailed : SetupKept z failed := hFlushed.each (fun _ _ ht => ht.step (State.zeroed_keeps rfl (.refl _ _))) _
  have hSettled : SetupKept z settled :=
    SetupKept.each (hFailed.step (Keeps.set_swc rfl (.refl _ _))) (fun _ o ht => State.lostAtPort_setup p o.m ht) _
  have hReturned : SetupKept z returned := hSettled.step (State.swcMod_keeps rfl (.refl _ _))
  have hLost : SetupKept z lost := hReturned.when (fun _ ht => State.agentLost_setup p ht) _
  refine hDown.ite (State.drainAll_setup (State.consider_setup _ ?_))
  exact hLost.step (State.boundEvent_keeps rfl (.refl _ _))

end
end Sys2Proof.Machine
end

section
/-! PROOFS. Hot-plug slots and idle ports: bridges and their events, presence, a slot's binding, its power, and L1. -/
namespace Sys2Proof.Machine

/-! ### Bridges and their events -/

theorem State.bridge_bridgeMod_same (s : State) (b : Nat) (f : Bridge → Bridge) : (s.bridgeMod b f).bridge b = f (s.bridge b) :=
  SMap.get_mod_same ..

/-- An event of a bridge sets its bit of Slot Status and changes nothing else of the bridge. -/
theorem State.bridge_bridgeEvent_same (s : State) (b n : Nat) :
    (s.bridgeEvent b n).bridge b = { s.bridge b with status := putBit (s.bridge b).status n true } := s.bridge_bridgeMod_same b _

/-- A bridge is named by its VCS and its number there. -/
theorem bridge_vcs {vcs vppb : Nat} (h : isBridge vcs vppb = true) : (32 * vcs + vppb) / 32 = vcs ∧ (32 * vcs + vppb) % 32 = vppb := by
  have bounds := of_decide_eq_true h
  omega

/-- The events of a port's slot change no register and no port. -/
theorem State.slotEvent_frame (s : State) (p n : Nat) : (s.slotEvent p n).regs = s.regs ∧ (s.slotEvent p n).prt.ports = s.prt.ports := by
  unfold State.slotEvent
  split
  · exact State.each_induct (f := fun t b => t.bridgeEvent b n) (fun t => t.regs = s.regs ∧ t.prt.ports = s.prt.ports) (fun _ _ h => h) ⟨rfl, rfl⟩
  · exact ⟨rfl, rfl⟩

/-! ### Presence (R142) -/

theorem State.portS_portMod_same (s : State) (p : Nat) (f : PortS → PortS) : (s.portMod p f).portS p = f (s.portS p) :=
  SMap.get_mod_same ..

/-- A turn of presence leaves every field but PRESENT and PDCHG. -/
theorem State.presenceTurn_rd (s : State) (p : Nat) (f : Fld) (j : Nat) (hp : fPRT_SLOTSTAT_PRESENT.key ≠ f.key)
    (hc : fPRT_SLOTSTAT_PDCHG.key ≠ f.key) : (s.presenceTurn p).rd f j = s.rd f j :=
  (State.rd_congr (State.slotEvent_frame _ _ _).1 f j).trans
    ((State.rd_wrb_key _ _ _ _ _ _ hc).trans (State.rd_wrb_key _ _ _ _ _ _ hp))

/-- Presence once the slot is bound, and its power-good, leave every other field. -/
theorem State.presentBind_poweredNow_rd (s : State) (p : Nat) (f : Fld) (j : Nat) (hp : fPRT_SLOTSTAT_PRESENT.key ≠ f.key)
    (hc : fPRT_SLOTSTAT_PDCHG.key ≠ f.key) (hw : fPRT_SLOTSTAT_POWERED.key ≠ f.key) :
    ((s.presentBind p).poweredNow p).rd f j = s.rd f j := by
  have bind : (s.presentBind p).rd f j = s.rd f j := by
    unfold State.presentBind
    split
    · rfl
    · exact s.presenceTurn_rd p f j hp hc
  rw [← bind]
  unfold State.poweredNow
  split
  · exact State.rd_wrb_key _ _ _ _ _ _ hw
  · exact State.rd_wrb_key _ _ _ _ _ _ hw

theorem presenceChange_turns {s : State} {p : Nat} {present : Bool} (hp : isPort p = true) (turns : (s.portS p).detect ≠ present) :
    EndsIn (.presenceChange p present) s fun t =>
      (t.portS p).detect = present ∧ t.rdb fPRT_SLOTSTAT_PDCHG p = true
      ∧ (present = true ∨ s.portSlot p = none → t.rdb fPRT_SLOTSTAT_PRESENT p = present) := by
  let u : State := s.portMod p fun x => { x with detect := present }
  have detect : (u.portS p).detect = present := congrArg PortS.detect (s.portS_portMod_same p _)
  have run : exec (.presenceChange p present) s = .next (u.presenceTurn p) := (if_pos hp).trans (congrArg _ (if_neg turns))
  obtain ⟨regs, ports⟩ := ((u.presentNow p).wrb fPRT_SLOTSTAT_PDCHG p true).slotEvent_frame p 3
  refine ⟨_, run, ?_, ?_, fun seen => ?_⟩
  · exact (congrArg (fun m => (SMap.get {} m p).detect) ports).trans detect
  · exact (congrArg (· % 2 == 1) (State.rd_congr regs _ _)).trans (State.rdb_wrb_same _ _ _ _ rfl)
  · have now : (u.presentNow p).rdb fPRT_SLOTSTAT_PRESENT p = present := by
      refine (State.rdb_wrb_same _ _ _ _ rfl).trans ?_
      rw [detect]
      rcases seen with rfl | unbound
      · exact Bool.true_or _
      · rw [show u.portSlot p = none from unbound, Bool.or_false]
    refine Eq.trans ?_ now
    exact congrArg (· % 2 == 1) ((State.rd_congr regs _ _).trans (State.rd_wrb_key _ _ _ _ _ _ (by decide)))

/-! ### The binding of a slot (R34, R141) -/

theorem slotcfg_apart : ((fieldsAt fPRT_SLOTCFG_SLOT.addr).map Fld.key).Nodup := by decide +kernel

/-- PERST_OUT_N low leaves the set-up of the ports. -/
theorem State.perstLow_setup (s : State) (p : Nat) (planned : Bool) : SetupKept s (s.perstLow p planned) := by
  have pin : SetupKept s (s.setBit fPWR_PERSTOUT_RELEASED p false) := (SetupKept.refl s).step (State.setBit_keeps rfl (.refl _ _) rfl)
  exact pin.ite (State.dlDown_setup p 0 planned pin)

/-- The binding that `t` gives port `p` names a slot of another tile, or the slot of another port, or is a second slot of `p` (R34). -/
def State.slotRefused (s t : State) (p : Nat) : Bool :=
  t.rdb fPRT_SLOTCFG_SLOTEN p && (t.rd fPRT_SLOTCFG_SLOT p / 8 != tileOfPort p
    || ((List.range 64).any fun q => q != p && s.rdb fPRT_SLOTCFG_SLOTEN q && s.rd fPRT_SLOTCFG_SLOT q == t.rd fPRT_SLOTCFG_SLOT p)
    || (s.rdb fPRT_SLOTCFG_SLOTEN p && s.rd fPRT_SLOTCFG_SLOT p != t.rd fPRT_SLOTCFG_SLOT p))

/-- A binding is not refused where it is none, or where it lies in the port's tile and the slot is bound to this port alone and is the only
one of it. -/
theorem State.slotRefused_eq_false {s t : State} {p : Nat} (hp : p < 64) : s.slotRefused t p = false ↔
    t.rdb fPRT_SLOTCFG_SLOTEN p = false ∨ (t.rd fPRT_SLOTCFG_SLOT p / 8 = tileOfPort p ∧
      ∀ q, q < 64 → s.rdb fPRT_SLOTCFG_SLOTEN q = true → (q = p ↔ s.rd fPRT_SLOTCFG_SLOT q = t.rd fPRT_SLOTCFG_SLOT p)) := by
  have apart : ((List.range 64).any fun q => q != p && s.rdb fPRT_SLOTCFG_SLOTEN q && s.rd fPRT_SLOTCFG_SLOT q == t.rd fPRT_SLOTCFG_SLOT p) = false
      ∧ (s.rdb fPRT_SLOTCFG_SLOTEN p && s.rd fPRT_SLOTCFG_SLOT p != t.rd fPRT_SLOTCFG_SLOT p) = false ↔
      ∀ q, q < 64 → s.rdb fPRT_SLOTCFG_SLOTEN q = true → (q = p ↔ s.rd fPRT_SLOTCFG_SLOT q = t.rd fPRT_SLOTCFG_SLOT p) := by
    rw [List.any_eq_false]
    constructor
    · rintro ⟨taken, second⟩ q hq on
      constructor
      · rintro rfl
        simpa [on] using second
      · intro same
        by_contra other
        exact taken q (List.mem_range.2 hq) (by simp [other, on, same])
    · intro own
      refine ⟨fun q hq taken => ?_, ?_⟩
      · simp only [Bool.and_eq_true, bne_iff_ne, beq_iff_eq] at taken
        obtain ⟨⟨other, on⟩, same⟩ := taken
        exact other ((own q (List.mem_range.1 hq) on).2 same)
      · cases on : s.rdb fPRT_SLOTCFG_SLOTEN p with
        | false => rfl
        | true => simp [(own p hp on).1 rfl]
  rw [State.slotRefused, Bool.and_eq_false_iff, Bool.or_eq_false_iff, Bool.or_eq_false_iff, and_assoc, apart, bne_eq_false_iff_eq]

/-- PRT_SLOTCFG_WRITE, where the tile answers and the word is not discarded. -/
theorem exec_prtSlotcfgWrite {s t : State} {p val : Nat} (hp : isPort p = true) (hval : val < 2 ^ 32)
    (taken : s.discards (fieldsAt fPRT_SLOTCFG_SLOT.addr) p val = false) (online : bitOf s.pwr.culvert (tileOfPort p) = false)
    (ht : t = s.setRW (fieldsAt fPRT_SLOTCFG_SLOT.addr) p val) :
    exec (.prtSlotcfgWrite p val) s = .next
      (match t.portConflict p with
      | some (c, a, b) => s.conflict c a b
      | none =>
        if s.slotRefused t p then s.cfgErr 10
        else ((t.presentBind p).poweredNow p).when_ (t.rd fPRT_SLOTCFG_PCTL p == 2 && t.slotIsOff p) fun s => s.perstLow p false) := by
  subst ht
  show execPrtSlotcfgWrite p val s = _
  unfold execPrtSlotcfgWrite onUnit State.onTile
  dsimp only
  rw [hp, decide_eq_true hval, Bool.and_self, if_pos rfl, online, if_neg Bool.false_ne_true, taken, if_neg Bool.false_ne_true]
  rfl

/-- What a taken word leaves at a binding. -/
theorem State.setRW_slotcfg (s : State) (p val : Nat) :
    (s.setRW (fieldsAt fPRT_SLOTCFG_SLOT.addr) p val).rd fPRT_SLOTCFG_SLOT p = fPRT_SLOTCFG_SLOT.of val
    ∧ (s.setRW (fieldsAt fPRT_SLOTCFG_SLOT.addr) p val).rd fPRT_SLOTCFG_SLOTEN p = fPRT_SLOTCFG_SLOTEN.of val := by
  have took := s.took_setRW p val slotcfg_apart
  exact ⟨took _ (by decide +kernel) rfl, took _ (by decide +kernel) rfl⟩

theorem prtSlotcfgWrite_takes {s : State} {p val : Nat} (hp : isPort p = true) (hval : val < 2 ^ 32)
    (taken : s.discards (fieldsAt fPRT_SLOTCFG_SLOT.addr) p val = false) (online : bitOf s.pwr.culvert (tileOfPort p) = false)
    (free : (s.setRW (fieldsAt fPRT_SLOTCFG_SLOT.addr) p val).portConflict p = none)
    (own : fPRT_SLOTCFG_SLOTEN.of val = 0 ∨ (fPRT_SLOTCFG_SLOT.of val / 8 = tileOfPort p
      ∧ ∀ q, q < 64 → s.rdb fPRT_SLOTCFG_SLOTEN q = true → (q = p ↔ s.rd fPRT_SLOTCFG_SLOT q = fPRT_SLOTCFG_SLOT.of val))) :
    EndsIn (.prtSlotcfgWrite p val) s fun t => Took (fieldsAt fPRT_SLOTCFG_SLOT.addr) p val t := by
  obtain ⟨slot, en⟩ := s.setRW_slotcfg p val
  generalize ht : s.setRW (fieldsAt fPRT_SLOTCFG_SLOT.addr) p val = t at free slot en
  have fits : s.slotRefused t p = false := by
    rw [State.slotRefused_eq_false (of_decide_eq_true hp), State.rdb, en, slot]
    exact own.imp_left fun off => by rw [off]; rfl
  refine ⟨((t.presentBind p).poweredNow p).when_ (t.rd fPRT_SLOTCFG_PCTL p == 2 && t.slotIsOff p) fun s => s.perstLow p false,
    (exec_prtSlotcfgWrite hp hval taken online ht.symm).trans ?_, fun f hf rw_ => ?_⟩
  · rw [free, fits]
    rfl
  · have setup : ∀ g ∈ fieldsAt fPRT_SLOTCFG_SLOT.addr, windowBit g.key = 44 ∧ g.key ∉ trafficFields.map Fld.key
        ∧ fPRT_SLOTSTAT_PRESENT.key ≠ g.key ∧ fPRT_SLOTSTAT_PDCHG.key ≠ g.key ∧ fPRT_SLOTSTAT_POWERED.key ≠ g.key := by decide +kernel
    obtain ⟨window, still, notPresent, notChange, notPower⟩ := setup f hf
    have kept := (SetupKept.refl ((t.presentBind p).poweredNow p)).when (fun u hu => hu.trans (u.perstLow_setup p false))
      (t.rd fPRT_SLOTCFG_PCTL p == 2 && t.slotIsOff p)
    rw [kept f window still, t.presentBind_poweredNow_rd p f p notPresent notChange notPower, ← ht]
    exact s.took_setRW p val slotcfg_apart f hf rw_

theorem prtSlotcfgWrite_refused {s : State} {p val : Nat} (hp : isPort p = true) (hval : val < 2 ^ 32)
    (taken : s.discards (fieldsAt fPRT_SLOTCFG_SLOT.addr) p val = false) (online : bitOf s.pwr.culvert (tileOfPort p) = false)
    (free : (s.setRW (fieldsAt fPRT_SLOTCFG_SLOT.addr) p val).portConflict p = none) (on : fPRT_SLOTCFG_SLOTEN.of val = 1)
    (bad : fPRT_SLOTCFG_SLOT.of val / 8 ≠ tileOfPort p
      ∨ ∃ q, q < 64 ∧ s.rdb fPRT_SLOTCFG_SLOTEN q = true ∧ ¬ (q = p ↔ s.rd fPRT_SLOTCFG_SLOT q = fPRT_SLOTCFG_SLOT.of val)) :
    exec (.prtSlotcfgWrite p val) s = .next (s.cfgErr 10) := by
  obtain ⟨slot, en⟩ := s.setRW_slotcfg p val
  generalize ht : s.setRW (fieldsAt fPRT_SLOTCFG_SLOT.addr) p val = t at free slot en
  have refused : s.slotRefused t p = true := by
    rw [← Bool.not_eq_false, State.slotRefused_eq_false (of_decide_eq_true hp), State.rdb, en, slot, on]
    rintro (off | ⟨tile, own⟩)
    · exact absurd off (by decide)
    · rcases bad with elsewhere | ⟨q, hq, qOn, clash⟩
      · exact elsewhere tile
      · exact clash (own q hq qOn)
  rw [exec_prtSlotcfgWrite hp hval taken online ht.symm, free, if_pos refused]

/-- A word that is discarded, or one for a tile whose gateway is offline, does nothing. -/
theorem prtSlotcfgWrite_ignored {s : State} {p val : Nat} (hp : isPort p = true) (hval : val < 2 ^ 32)
    (h : s.discards (fieldsAt fPRT_SLOTCFG_SLOT.addr) p val = true ∨ bitOf s.pwr.culvert (tileOfPort p) = true) :
    exec (.prtSlotcfgWrite p val) s = .next s := by
  show execPrtSlotcfgWrite p val s = _
  unfold execPrtSlotcfgWrite onUnit State.onTile
  dsimp only
  rw [hp, decide_eq_true hval, Bool.and_self, if_pos rfl]
  rcases h with dropped | offline
  · rw [if_pos dropped, ite_self]
  · rw [if_pos offline]

/-! ### A host's controls and a slot's power (R142, R143, R426) -/

/-- A host's write of Power Controller Control as it reads back, with Command Completed. -/
def State.powerWritten (s : State) (b : Nat) (on : Bool) : State := (s.bridgeMod b fun x => { x with off := !on }).bridgeEvent b 4

theorem State.bridge_powerWritten (s : State) (b : Nat) (on : Bool) :
    ((s.powerWritten b on).bridge b).off = !on ∧ bitOf ((s.powerWritten b on).bridge b).status 4 = true
    ∧ bitOf ((s.powerWritten b on).bridge b).status 1 = bitOf (s.bridge b).status 1 := by
  have written : (s.powerWritten b on).bridge b = { s.bridge b with off := !on, status := putBit (s.bridge b).status 4 true } := by
    unfold State.powerWritten
    rw [State.bridge_bridgeEvent_same, State.bridge_bridgeMod_same]
  rw [written]
  exact ⟨rfl, (bitOf_putBit ..).trans (if_pos rfl), (bitOf_putBit ..).trans (if_neg (by decide))⟩

/-- Without a slot behind the bridge the controls read back and that is all. -/
theorem State.hostPower_none {s : State} {b : Nat} (on : Bool) (none : s.slotOfBridge b = none) : s.hostPower b on = s.powerWritten b on := by
  unfold State.hostPower
  dsimp only
  rw [show State.slotOfBridge ((s.bridgeMod b fun x => { x with off := !on }).bridgeEvent b 4) b = Option.none from none]
  rfl

/-- With a slot of PCTL = 1 that the manager does not override, the slot is asked for its power, but not on while a fault stands. -/
theorem State.hostPower_slot {s : State} {b p j : Nat} {on : Bool} (behind : s.slotOfBridge b = some p) (own : s.rdb fPRT_SLOTCTL_OVR p = false)
    (sluice : s.rd fPRT_SLOTCFG_PCTL p = 1) (slot : s.portSlot p = some j) (sound : on = false ∨ bitOf (s.bridge b).status 1 = false) :
    s.hostPower b on = if on then (s.powerWritten b on).powerOn j false else (s.powerWritten b on).powerOff j := by
  obtain ⟨-, -, fault⟩ := s.bridge_powerWritten b on
  have acts : ((s.powerWritten b on).rdb fPRT_SLOTCTL_OVR p || (on && bitOf ((s.powerWritten b on).bridge b).status 1)) = false := by
    rw [fault, show (s.powerWritten b on).rdb fPRT_SLOTCTL_OVR p = false from own, Bool.false_or]
    rcases sound with rfl | sound
    · rfl
    · rw [sound, Bool.and_false]
  have asked : (s.powerWritten b on).slotPower p on
      = if on then (s.powerWritten b on).powerOn j false else (s.powerWritten b on).powerOff j := by
    unfold State.slotPower
    rw [if_pos (show (s.powerWritten b on).rd fPRT_SLOTCFG_PCTL p = 1 from sluice), show (s.powerWritten b on).portSlot p = some j from slot]
  unfold State.hostPower
  dsimp only
  rw [show State.slotOfBridge ((s.bridgeMod b fun x => { x with off := !on }).bridgeEvent b 4) b = some p from behind]
  exact (if_neg (by rw [← Bool.not_eq_true] at acts; exact acts)).trans asked

theorem exec_powerController (s : State) {vcs vppb : Nat} (hb : isBridge vcs vppb = true) (hv : 0 < vppb) :
    exec (.powerControllerOn vcs vppb) s = .next (s.hostPower (32 * vcs + vppb) true)
    ∧ exec (.powerControllerOff vcs vppb) s = .next (s.hostPower (32 * vcs + vppb) false) := by
  have unit : (isBridge vcs vppb && decide (0 < vppb)) = true := by rw [hb, decide_eq_true hv]; rfl
  exact ⟨if_pos unit, if_pos unit⟩

/-- STATE of a slot once set. -/
theorem State.slotState_setSlot (s : State) (j : Nat) {st : Nat} (h : st < 2 ^ fSLU_STAT_STATE.width) : (s.setSlot j st).slotState j = st :=
  (State.rd_wr_same ..).trans (Nat.mod_eq_of_lt h)

theorem State.slotState_wrb (s : State) (f : Fld) (i : Nat) (b : Bool) (j : Nat) (h : f.key ≠ fSLU_STAT_STATE.key) :
    (s.wrb f i b).slotState j = s.slotState j := State.rd_wrb_key _ _ _ _ _ _ h

theorem State.slotState_rampStart (s : State) (j : Nat) : (s.rampStart j).slotState j = 2 :=
  (State.rd_wr_key _ _ _ _ _ _ (by decide)).trans ((State.slotState_wrb _ _ _ _ _ (by decide)).trans (s.slotState_setSlot j (by decide)))

/-- A slot that is off, present and held, with a feed and within MAXRAMP, enters RAMP on request. -/
theorem State.powerOn_ramps {s : State} {j : Nat} (off : s.slotState j = 1) (present : s.rdb fSLU_STAT_PRES j = true) (held : (s.slot j).held = true)
    (fed : s.fed j = true) (room : s.ramping j < s.rd fSLU_CTL_MAXRAMP 0) : s.powerOn j false = s.rampStart j := by
  unfold State.powerOn
  rw [if_neg (not_not.2 ⟨off, present, held⟩), if_neg (not_not.2 fed)]
  exact if_neg (Nat.not_le.2 room)

/-- Every part of the state but the SLU window. -/
def butSluice : Nat := 2 ^ 64 - 1 - 2 ^ 53

/-- What a slot's power-off does at its port leaves the slots. -/
theorem State.slotState_atPort_low (s : State) (i j : Nat) :
    (s.atPort i fun s p => (s.poweredNow p).perstLow p true).slotState j = s.slotState j :=
  Keeps.rd (w := butSluice)
    (State.atPort_keeps rfl (.refl _ _) fun _ h _ => State.perstLow_keeps rfl (State.poweredNow_keeps rfl h)) _ _ (by decide +kernel)

/-- A slot in ON enters DISCHARGE on request. -/
theorem State.slotState_powerOff {s : State} {j : Nat} (on : s.slotState j = 4) : (s.powerOff j).slotState j = 5 := by
  have still : ((s.wrb fSLU_STAT_WAITRAMP j false).slotMod j fun x => { x with autoOff := true, wantFeed := false }).slotState j = 4 :=
    (State.slotState_wrb _ _ _ _ _ (by decide)).trans on
  unfold State.powerOff
  dsimp only
  rw [if_neg (by rw [still]; decide), if_pos still]
  exact (State.slotState_atPort_low ..).trans ((State.slotState_wrb _ _ _ _ _ (by decide)).trans (State.slotState_setSlot _ _ (by decide)))

theorem powerController_slot {s : State} {vcs vppb p j : Nat} (hb : isBridge vcs vppb = true) (hv : 0 < vppb)
    (behind : s.slotOfBridge (32 * vcs + vppb) = some p) (own : s.rdb fPRT_SLOTCTL_OVR p = false) (sluice : s.rd fPRT_SLOTCFG_PCTL p = 1)
    (slot : s.portSlot p = some j) :
    (bitOf (s.bridge (32 * vcs + vppb)).status 1 = false → s.slotState j = 1 → s.rdb fSLU_STAT_PRES j = true → (s.slot j).held = true →
      s.fed j = true → s.ramping j < s.rd fSLU_CTL_MAXRAMP 0 →
      EndsIn (.powerControllerOn vcs vppb) s fun t =>
        t.slotState j = 2 ∧ (t.bridge (32 * vcs + vppb)).off = false ∧ t.out = .hotplug vcs vppb 4 :: s.out)
    ∧ (s.slotState j = 4 → EndsIn (.powerControllerOff vcs vppb) s fun t => t.slotState j = 5) := by
  obtain ⟨runOn, runOff⟩ := exec_powerController s hb hv
  refine ⟨fun sound off present held fed room => ?_, fun on => ?_⟩
  · have ramps : s.hostPower (32 * vcs + vppb) true = (s.powerWritten (32 * vcs + vppb) true).rampStart j :=
      (State.hostPower_slot behind own sluice slot (.inr sound)).trans (State.powerOn_ramps off present held fed room)
    refine ⟨_, runOn.trans (congrArg _ ramps), State.slotState_rampStart _ j, (s.bridge_powerWritten _ true).1, ?_⟩
    obtain ⟨inVcs, inBridge⟩ := bridge_vcs hb
    show Out.hotplug ((32 * vcs + vppb) / 32) ((32 * vcs + vppb) % 32) 4 :: s.out = _
    rw [inVcs, inBridge]
  · have stops : s.hostPower (32 * vcs + vppb) false = (s.powerWritten (32 * vcs + vppb) false).powerOff j :=
      State.hostPower_slot behind own sluice slot (.inl rfl)
    exact ⟨_, runOff.trans (congrArg _ stops), State.slotState_powerOff (s := s.powerWritten (32 * vcs + vppb) false) on⟩

/-- Power Fault Detected of bridge `b` cleared. -/
def State.faultCleared (s : State) (b : Nat) : State := s.bridgeMod b fun x => { x with status := putBit x.status 1 false }

theorem State.bridge_faultCleared (s : State) (b : Nat) : bitOf ((s.faultCleared b).bridge b).status 1 = false := by
  unfold State.faultCleared
  rw [State.bridge_bridgeMod_same]
  exact (bitOf_putBit ..).trans (if_pos rfl)

/-- POWER_FAULT_CLEAR clears the bit, and the fault of a slot of PCTL = 1 behind the bridge. -/
theorem exec_powerFaultClear (s : State) {vcs vppb : Nat} (hb : isBridge vcs vppb = true) (hv : 0 < vppb) :
    exec (.powerFaultClear vcs vppb) s = .next
      (match s.slotOfBridge (32 * vcs + vppb) with
      | none => s.faultCleared (32 * vcs + vppb)
      | some p =>
        match s.portSlot p with
        | some j => if s.rd fPRT_SLOTCFG_PCTL p = 1 then (s.faultCleared (32 * vcs + vppb)).faultClear j else s.faultCleared (32 * vcs + vppb)
        | none => s.faultCleared (32 * vcs + vppb)) :=
  if_pos (by rw [hb, decide_eq_true hv]; rfl)

theorem powerFaultClear_bridge {s : State} {vcs vppb p : Nat} (hb : isBridge vcs vppb = true) (hv : 0 < vppb)
    (behind : s.slotOfBridge (32 * vcs + vppb) = some p) (noSlot : s.portSlot p = none ∨ s.rd fPRT_SLOTCFG_PCTL p ≠ 1) :
    exec (.powerFaultClear vcs vppb) s = .next (s.faultCleared (32 * vcs + vppb)) := by
  rw [exec_powerFaultClear s hb hv, behind]
  dsimp only
  cases slot : s.portSlot p with
  | none => rfl
  | some j =>
    have other : s.rd fPRT_SLOTCFG_PCTL p ≠ 1 := noSlot.resolve_left (by rw [slot]; exact nofun)
    exact congrArg _ (if_neg other)

theorem powerFaultClear_slot {s : State} {vcs vppb p j : Nat} (hb : isBridge vcs vppb = true) (hv : 0 < vppb)
    (behind : s.slotOfBridge (32 * vcs + vppb) = some p) (sluice : s.rd fPRT_SLOTCFG_PCTL p = 1) (slot : s.portSlot p = some j)
    (tripped : s.slotState j = 6) :
    EndsIn (.powerFaultClear vcs vppb) s fun t => t.slotState j = 1 ∧ bitOf (t.bridge (32 * vcs + vppb)).status 1 = false := by
  have cleared : (s.faultCleared (32 * vcs + vppb)).faultClear j = (s.faultCleared (32 * vcs + vppb)).setSlot j 1 := if_pos tripped
  refine ⟨(s.faultCleared (32 * vcs + vppb)).setSlot j 1, ?_, State.slotState_setSlot _ j (by decide), s.bridge_faultCleared _⟩
  rw [exec_powerFaultClear s hb hv, behind]
  dsimp only
  rw [slot]
  dsimp only
  rw [if_pos sluice, cleared]

/-- Where no slot is behind a bridge, its host's controls change no register. -/
theorem powerController_none {s : State} {vcs vppb : Nat} (hb : isBridge vcs vppb = true) (hv : 0 < vppb)
    (none : s.slotOfBridge (32 * vcs + vppb) = none) :
    EndsIn (.powerControllerOn vcs vppb) s (fun t => t.regs = s.regs ∧ (t.bridge (32 * vcs + vppb)).off = false
      ∧ bitOf (t.bridge (32 * vcs + vppb)).status 4 = true)
    ∧ EndsIn (.powerControllerOff vcs vppb) s (fun t => t.regs = s.regs ∧ (t.bridge (32 * vcs + vppb)).off = true
      ∧ bitOf (t.bridge (32 * vcs + vppb)).status 4 = true)
    ∧ EndsIn (.powerFaultClear vcs vppb) s (fun t => t.regs = s.regs ∧ bitOf (t.bridge (32 * vcs + vppb)).status 1 = false) := by
  obtain ⟨runOn, runOff⟩ := exec_powerController s hb hv
  obtain ⟨on, onDone, -⟩ := s.bridge_powerWritten (32 * vcs + vppb) true
  obtain ⟨off, offDone, -⟩ := s.bridge_powerWritten (32 * vcs + vppb) false
  refine ⟨⟨_, runOn.trans (congrArg _ (State.hostPower_none true none)), rfl, on, onDone⟩,
    ⟨_, runOff.trans (congrArg _ (State.hostPower_none false none)), rfl, off, offDone⟩,
    ⟨s.faultCleared (32 * vcs + vppb), ?_, rfl, s.bridge_faultCleared _⟩⟩
  rw [exec_powerFaultClear s hb hv, none]

theorem indicatorWrite_sets {s : State} {vcs vppb attn pwri : Nat} (hb : isBridge vcs vppb = true) (hv : 0 < vppb) (ha : attn < 4) (hw : pwri < 4) :
    EndsIn (.indicatorWrite vcs vppb attn pwri) s fun t =>
      t.regs = s.regs ∧ t.out = .hotplug vcs vppb 4 :: s.out
      ∧ (t.bridge (32 * vcs + vppb)).attn = (if attn = 0 then (s.bridge (32 * vcs + vppb)).attn else attn)
      ∧ (t.bridge (32 * vcs + vppb)).pwri = (if pwri = 0 then (s.bridge (32 * vcs + vppb)).pwri else pwri) := by
  let u : State := s.bridgeMod (32 * vcs + vppb) fun x =>
    { x with attn := if attn = 0 then x.attn else attn, pwri := if pwri = 0 then x.pwri else pwri }
  have bridge : u.bridge (32 * vcs + vppb) = _ := s.bridge_bridgeMod_same (32 * vcs + vppb) _
  have unit : (isBridge vcs vppb && decide (0 < vppb ∧ attn < 4 ∧ pwri < 4)) = true := by rw [hb, decide_eq_true ⟨hv, ha, hw⟩]; rfl
  obtain ⟨inVcs, inBridge⟩ := bridge_vcs hb
  refine ⟨u.bridgeEvent (32 * vcs + vppb) 4, if_pos unit, rfl, ?_, ?_, ?_⟩
  · show Out.hotplug ((32 * vcs + vppb) / 32) ((32 * vcs + vppb) % 32) 4 :: s.out = _
    rw [inVcs, inBridge]
  · rw [State.bridge_bridgeEvent_same, bridge]
  · rw [State.bridge_bridgeEvent_same, bridge]

/-! ### The button, and the manager's override -/

/-- ATTENTION_BUTTON_PRESS shows in PRT_SLOTSTAT where no bridge is bound, and else at the hosts of those that are. -/
theorem exec_attentionButtonPress (s : State) {p : Nat} (hp : isPort p = true) :
    exec (.attentionButtonPress p) s = .next
      (if ¬ s.rdb fPRT_SLOTCFG_SLOTEN p = true then s else if (s.bound p).isEmpty then s.wrb fPRT_SLOTSTAT_BTN p true else s.slotEvent p 0) :=
  if_pos hp

theorem attentionButtonPress_unbound {s : State} {p : Nat} (hp : isPort p = true) (on : s.rdb fPRT_SLOTCFG_SLOTEN p = true)
    (unbound : s.bound p = []) : Ends (.attentionButtonPress p) s s [(fPRT_SLOTSTAT_BTN, p, 1)] := by
  refine ⟨s.wrb fPRT_SLOTSTAT_BTN p true, ?_, Sets.wr_one s fPRT_SLOTSTAT_BTN p rfl⟩
  rw [exec_attentionButtonPress s hp, if_neg (not_not.2 on), unbound]
  rfl

theorem attentionButtonPress_bound {s : State} {p : Nat} (hp : isPort p = true) (on : s.rdb fPRT_SLOTCFG_SLOTEN p = true)
    (bound : s.bound p ≠ []) : exec (.attentionButtonPress p) s = .next (s.slotEvent p 0) := by
  rw [exec_attentionButtonPress s hp, if_neg (not_not.2 on), if_neg (mt List.isEmpty_iff.1 bound)]

theorem attentionButtonPress_host {s : State} {p b : Nat} (hp : isPort p = true) (on : s.rdb fPRT_SLOTCFG_SLOTEN p = true)
    (bound : s.bound p = [b]) (capable : s.rdb fPRT_PORTCFG_HPCAP p = true) :
    EndsIn (.attentionButtonPress p) s fun t =>
      bitOf (t.bridge b).status 0 = true ∧ t.out = .hotplug (b / 32) (b % 32) 0 :: s.out ∧ t.regs = s.regs := by
  have event : s.slotEvent p 0 = s.bridgeEvent b 0 := by
    unfold State.slotEvent State.boundEvent
    rw [if_pos capable, bound]
    rfl
  refine ⟨_, (attentionButtonPress_bound hp on (by rw [bound]; exact nofun)).trans (congrArg _ event), ?_, rfl, rfl⟩
  rw [State.bridge_bridgeEvent_same]
  exact (bitOf_putBit ..).trans (if_pos rfl)

/-- PRT_SLOTCTL_WRITE takes its word and lets the power of the slot follow. -/
theorem exec_prtSlotctlWrite {s : State} {p val : Nat} (hp : isPort p = true) (hval : val < 2 ^ 32) :
    exec (.prtSlotctlWrite p val) s = .next
      (s.onTile (tileOfPort p) ((s.takeWord (fieldsAt fPRT_SLOTCTL_OVR.addr) p val).powerTurn p (s.slotIsOff p))) :=
  if_pos (by rw [hp, decide_eq_true hval]; rfl)

theorem State.powerTurn_still {s : State} {p : Nat} {was : Bool} (h : s.slotIsOff p = was ∨ (s.slotIsOff p = false ∧ s.slotFaulted p = true)) :
    s.powerTurn p was = s := if_pos (h.imp_right (And.imp_left (by rintro off; rw [off]; exact Bool.false_ne_true)))

theorem State.powerTurn_asks {s : State} {p : Nat} {was : Bool} (turns : s.slotIsOff p ≠ was)
    (h : s.slotIsOff p = true ∨ s.slotFaulted p = false) : s.powerTurn p was = s.slotPower p (!s.slotIsOff p) := by
  refine if_neg ?_
  rintro (same | ⟨on, fault⟩)
  · exact turns same
  · rcases h with off | sound
    · exact on off
    · exact Bool.false_ne_true (sound.symm.trans fault)

theorem prtSlotctlWrite_turns {s t : State} {p val : Nat} (hp : isPort p = true) (hval : val < 2 ^ 32)
    (taken : s.discards (fieldsAt fPRT_SLOTCTL_OVR.addr) p val = false) (online : bitOf s.pwr.culvert (tileOfPort p) = false)
    (ht : t = s.takeWord (fieldsAt fPRT_SLOTCTL_OVR.addr) p val) :
    (t.slotIsOff p = s.slotIsOff p ∨ (t.slotIsOff p = false ∧ t.slotFaulted p = true) →
      exec (.prtSlotctlWrite p val) s = .next t ∧ Took (fieldsAt fPRT_SLOTCTL_OVR.addr) p val t)
    ∧ (t.slotIsOff p ≠ s.slotIsOff p → t.slotIsOff p = true ∨ t.slotFaulted p = false →
      exec (.prtSlotctlWrite p val) s = .next (t.slotPower p (!t.slotIsOff p))) := by
  have run : exec (.prtSlotctlWrite p val) s = .next (t.powerTurn p (s.slotIsOff p)) := by
    rw [exec_prtSlotctlWrite hp hval, State.onTile, online, if_neg Bool.false_ne_true, ht]
  refine ⟨fun still => ⟨run.trans (congrArg _ (State.powerTurn_still still)), ?_⟩,
    fun turns ask => run.trans (congrArg _ (State.powerTurn_asks turns ask))⟩
  rw [ht]
  exact State.took_takeWord 0 (by decide +kernel) taken

theorem prtSlotctlWrite_ignored {s : State} {p val : Nat} (hp : isPort p = true) (hval : val < 2 ^ 32)
    (h : s.discards (fieldsAt fPRT_SLOTCTL_OVR.addr) p val = true ∨ bitOf s.pwr.culvert (tileOfPort p) = true) :
    exec (.prtSlotctlWrite p val) s = .next s := by
  rw [exec_prtSlotctlWrite hp hval, State.onTile]
  rcases h with dropped | offline
  · have still : s.takeWord (fieldsAt fPRT_SLOTCTL_OVR.addr) p val = s := if_pos dropped
    rw [still, State.powerTurn_still (.inl rfl), ite_self]
  · rw [if_pos offline]

/-! ### L1 (R144, R145) -/

/-- L1 is allowed at port `p`: by ASPM, in Economy, or by the manager's force where no bridge is bound. -/
def State.l1Allowed (s : State) (p : Nat) : Bool :=
  s.aspmOn p || s.rd fARCH_PROFILE_ACTIVE 0 == 4 || (s.downstream p && (s.bound p).isEmpty && s.rdb fPRT_ASPM_FORCE p)

/-- Port `p`, idle for `idle` µs, enters L1. -/
def State.entersL1 (s : State) (p idle : Nat) : Bool :=
  decide (s.rd fPRT_PORTSTAT_LTSSM p = 4) && s.l1Allowed p && decide (s.rd fPRT_ASPM_IDLE p ≤ idle)
    && !s.swc.owed.any (fun o => o.x == p || o.m.entered == p) && !s.agentBusy p && !s.holdsAny p

theorem State.l1Allowed_iff (s : State) (p : Nat) : s.l1Allowed p = true ↔
    s.aspmOn p = true ∨ s.rd fARCH_PROFILE_ACTIVE 0 = 4 ∨ (s.downstream p = true ∧ s.bound p = [] ∧ s.rdb fPRT_ASPM_FORCE p = true) := by
  simp only [State.l1Allowed, Bool.or_eq_true, Bool.and_eq_true, beq_iff_eq, List.isEmpty_iff, or_assoc, and_assoc]

theorem State.entersL1_iff (s : State) (p idle : Nat) : s.entersL1 p idle = true ↔
    s.rd fPRT_PORTSTAT_LTSSM p = 4 ∧ s.l1Allowed p = true ∧ s.rd fPRT_ASPM_IDLE p ≤ idle
    ∧ (∀ o ∈ s.swc.owed, o.x ≠ p ∧ o.m.entered ≠ p) ∧ s.agentBusy p = false ∧ s.holdsAny p = false := by
  simp only [State.entersL1, Bool.and_eq_true, decide_eq_true_eq, Bool.not_eq_true', List.any_eq_false, Bool.or_eq_true, beq_iff_eq,
    not_or, and_assoc, ne_eq]

theorem exec_l1Entry (s : State) {p idle sub : Nat} (hp : isPort p = true) (hs : sub < 3) :
    exec (.l1Entry p idle sub) s = .next
      (if s.entersL1 p idle then
        ((s.each (s.portLanes p) State.adaptKeep).wr fPRT_PORTSTAT_LTSSM p 5).wr fPRT_PORTSTAT_L1SUB p
          (if s.rd fARCH_PROFILE_ACTIVE 0 == 4 then sub else 0)
      else s) := if_pos (by rw [hp, decide_eq_true hs]; rfl)

theorem l1sub_apart : fPRT_PORTSTAT_L1SUB.key ∉ [fPRT_PORTSTAT_LTSSM.key] := by decide

theorem l1Entry_enters {s : State} {p idle sub : Nat} (hp : isPort p = true) (hs : sub < 3) (enters : s.entersL1 p idle = true) :
    Ends (.l1Entry p idle sub) s (s.each (s.portLanes p) State.adaptKeep)
      [(fPRT_PORTSTAT_L1SUB, p, if s.rd fARCH_PROFILE_ACTIVE 0 = 4 then sub else 0), (fPRT_PORTSTAT_LTSSM, p, 5)] := by
  refine ⟨_, (exec_l1Entry s hp hs).trans (congrArg _ (if_pos enters)), (Sets.wr_one _ fPRT_PORTSTAT_LTSSM p rfl).wr _ p ?_ l1sub_apart⟩
  have fits : (if s.rd fARCH_PROFILE_ACTIVE 0 = 4 then sub else 0) < 2 ^ fPRT_PORTSTAT_L1SUB.width := by
    show _ < 4
    split <;> omega
  rw [← Nat.mod_eq_of_lt fits]
  simp only [beq_iff_eq]

/-- A port that is not idle long enough, or not in L0, or busy, or not allowed L1, stays as it is. -/
theorem l1Entry_stays {s : State} {p idle sub : Nat} (hp : isPort p = true) (hs : sub < 3)
    (h : idle < s.rd fPRT_ASPM_IDLE p ∨ s.rd fPRT_PORTSTAT_LTSSM p ≠ 4 ∨ s.agentBusy p = true ∨ s.holdsAny p = true ∨
      (∃ o ∈ s.swc.owed, o.x = p ∨ o.m.entered = p) ∨
      (s.aspmOn p = false ∧ s.rd fARCH_PROFILE_ACTIVE 0 ≠ 4 ∧ (s.rdb fPRT_ASPM_FORCE p = false ∨ s.downstream p = false ∨ s.bound p ≠ []))) :
    exec (.l1Entry p idle sub) s = .next s := by
  refine (exec_l1Entry s hp hs).trans (congrArg _ (if_neg fun enters => ?_))
  obtain ⟨inL0, allowed, long, free, quiet, empty⟩ := (s.entersL1_iff p idle).1 enters
  rcases h with short | other | busy | holds | ⟨o, ho, owes⟩ | ⟨noAspm, notEconomy, noForce⟩
  · omega
  · exact other inL0
  · exact Bool.false_ne_true (quiet.symm.trans busy)
  · exact Bool.false_ne_true (empty.symm.trans holds)
  · obtain ⟨notHere, notFrom⟩ := free o ho
    exact owes.elim notHere notFrom
  · rcases (s.l1Allowed_iff p).1 allowed with aspm | economy | ⟨down, unbound, force⟩
    · exact Bool.false_ne_true (noAspm.symm.trans aspm)
    · exact notEconomy economy
    · rcases noForce with off | up | bound
      · exact Bool.false_ne_true (off.symm.trans force)
      · exact Bool.false_ne_true (up.symm.trans down)
      · exact bound unbound

theorem exec_l1Exit (s : State) {p : Nat} (hp : isPort p = true) :
    exec (.l1Exit p) s = .next
      (if s.rd fPRT_PORTSTAT_LTSSM p = 5 then (s.wr fPRT_PORTSTAT_LTSSM p 3).wr fPRT_PORTSTAT_L1SUB p 0 else s) := if_pos hp

/-- Settles O27: each clause is a branch of one of the commands, and a binding outlives the loss of the link that it may bring. -/
theorem hotPlugAndIdlePorts : Obligations.HotPlugAndIdlePorts := by
  unfold Obligations.HotPlugAndIdlePorts
  refine ⟨fun _ _ _ => prtSlotcfgWrite_takes, fun _ _ _ => prtSlotcfgWrite_refused, fun _ _ _ => prtSlotcfgWrite_ignored,
    fun s p val c a b hp hval taken online clash => ?conflict, fun _ _ _ => presenceChange_turns,
    fun s p present hp same => (if_pos hp).trans (congrArg _ (if_pos same)), fun _ _ => attentionButtonPress_unbound,
    fun _ _ _ => attentionButtonPress_host, fun _ _ => attentionButtonPress_bound, fun s _ _ => exec_powerController s,
    fun _ _ _ _ => powerFaultClear_bridge, fun s p hp off => ?button, fun s vcs vppb p j hb hv behind own sluice slot => ?slot,
    fun _ _ _ => powerController_none, fun _ _ _ _ _ => indicatorWrite_sets, fun _ _ _ _ => prtSlotctlWrite_turns,
    fun _ _ _ => prtSlotctlWrite_ignored, fun s p idle sub hp hs long inL0 free quiet empty allowed => ?enters,
    fun _ _ _ _ => l1Entry_stays, fun s p hp inL1 => ?leaves, fun s p hp other => ?notL1, fun s p hp => ?partner⟩
  case conflict => rw [exec_prtSlotcfgWrite hp hval taken online rfl, clash]
  case button => rw [exec_attentionButtonPress s hp, if_pos (by rw [off]; exact Bool.false_ne_true)]
  case slot =>
    obtain ⟨on, off⟩ := powerController_slot hb hv behind own sluice slot
    exact ⟨on, off, powerFaultClear_slot hb hv behind sluice slot⟩
  case enters =>
    exact l1Entry_enters hp hs ((s.entersL1_iff p idle).2 ⟨inL0, (s.l1Allowed_iff p).2 allowed, long, free, quiet, empty⟩)
  case leaves =>
    exact ⟨_, (exec_l1Exit s hp).trans (congrArg _ (if_pos inL1)),
      (Sets.wr_one s fPRT_PORTSTAT_LTSSM p rfl).wr fPRT_PORTSTAT_L1SUB p rfl l1sub_apart⟩
  case notL1 => rw [exec_l1Exit s hp, if_neg other]
  case partner => exact ⟨_, if_pos hp, Sets.wr_one s fPRT_PORTSTAT_L1SUB p rfl⟩

end Sys2Proof.Machine
end

section
/-! PROOFS. Straps: what each sample leaves of the test currents, and what the three samples resolve to. -/
namespace Sys2Proof.Machine

/-! ### Values that fit their field -/

theorem bitsOf_mod (x lsb w : Nat) : bitsOf x lsb w % 2 ^ w = bitsOf x lsb w := Nat.mod_mod _ _

theorem b2n_mod_two (b : Bool) : b2n b % 2 ^ 1 = b2n b := by cases b <;> rfl

/-- The supplies changed beside the fields set. -/
theorem Sets.pwrMod {s t : State} {ws : List (Fld × Nat × Nat)} (h : Sets s t ws) (f : PwrS → PwrS) : Sets (s.pwrMod f) (t.pwrMod f) ws := by
  obtain ⟨set, others, rest⟩ := h
  exact ⟨set, others, congrArg (State.pwrMod · f) rest⟩

/-! ### Sampling (R53) -/

/-- The next sample is due: the first with the test source on, the second with the test sink on, the third with neither asked for. -/
def StrapS.due (x : StrapS) : Prop :=
  x.samples.length = 0 ∧ x.source = true ∨ x.samples.length = 1 ∧ x.sink = true ∨ x.samples.length = 2

/-- A sample that is due is taken: the source goes off, and the sink comes on where the source was. -/
theorem strapSample_takes {s : State} {pins : Nat} {x : StrapS} (hpins : pins < 2 ^ 15) (hx : s.pwr.strap = x) (running : x.running = true)
    (due : x.due) :
    exec (.strapSample pins) s = .next { s with pwr := { s.pwr with strap :=
      { x with samples := x.samples ++ [pins], source := false, sink := x.source } } } := by
  subst hx
  refine (if_pos (decide_eq_true hpins)).trans (congrArg Host.Outcome.next ?_)
  rw [if_neg (by simp [running])]
  rcases due with ⟨first, source⟩ | ⟨second, sink⟩ | third
  · simp only [first, source, if_true, State.strapMod, State.pwrMod]
  · simp only [second, sink, if_true, State.strapMod, State.pwrMod]
  · simp only [third, State.strapMod, State.pwrMod]

/-! ### Resolution (R54) -/

theorem strapFloat_lt {a b c w : Nat} (ha : a < 2 ^ w) (hb : b < 2 ^ w) (hc : c < 2 ^ w) : strapFloat a b c < 2 ^ w :=
  Nat.or_lt_two_pow (Nat.xor_lt_two_pow ha hc) (Nat.xor_lt_two_pow hb hc)

/-- What the samples leave of the supplies: sampling is over, a test mode or a floating pin of it is a manufacturing test (R52, R55), and
a floating pin of NODE_ID silences the device (R55). -/
def strapsDone (a b c : Nat) (p : PwrS) : PwrS :=
  { p with
    strap := {}
    manufTest := bitsOf (clearBits c (strapFloat a b c)) 13 2 != 0 || bitsOf (strapFloat a b c) 13 2 != 0
    silent := bitsOf (strapFloat a b c) 2 4 != 0 }

/-- The fields that resolution sets. -/
theorem State.sets_strapsSet (s : State) {a b c : Nat} (float : strapFloat a b c < 2 ^ 15) :
    Sets (s.pwrMod (strapsDone a b c)) (s.strapsSet a b c)
      [(fPWR_START_PHASE, 0, 1), (fPKG_STRAPFLT_ANY, 0, b2n (strapFloat a b c != 0)), (fPKG_STRAPFLT_FLOAT, 0, strapFloat a b c),
       (fPKG_STRAP_VALID, 0, 1), (fPKG_STRAP_TESTMODE, 0, bitsOf (clearBits c (strapFloat a b c)) 13 2),
       (fPKG_STRAP_MGR_PORT, 0, bitsOf (clearBits c (strapFloat a b c)) 7 6), (fPKG_STRAP_MGR_EN, 0, bitsOf (clearBits c (strapFloat a b c)) 6 1),
       (fPKG_STRAP_NODE_ID, 0, bitsOf (clearBits c (strapFloat a b c)) 2 4),
       (fPKG_STRAP_BOOTSEL, 0, bitsOf (clearBits c (strapFloat a b c)) 0 2)] := by
  refine ((((((((Sets.wr_one s fPKG_STRAP_BOOTSEL 0 (bitsOf_mod ..)).wr fPKG_STRAP_NODE_ID 0 (bitsOf_mod ..) ?_).wr
    fPKG_STRAP_MGR_EN 0 (bitsOf_mod ..) ?_).wr fPKG_STRAP_MGR_PORT 0 (bitsOf_mod ..) ?_).wr
    fPKG_STRAP_TESTMODE 0 (bitsOf_mod ..) ?_).wr fPKG_STRAP_VALID 0 rfl ?_).wr
    fPKG_STRAPFLT_FLOAT 0 (Nat.mod_eq_of_lt float) ?_).wr fPKG_STRAPFLT_ANY 0 (b2n_mod_two _) ?_).pwrMod
    (strapsDone a b c) |>.wr fPWR_START_PHASE 0 rfl ?_
  all_goals
    simp only [List.map]
    decide

theorem exec_strapResolve {s : State} {a b c : Nat} (samples : s.pwr.strap.samples = [a, b, c]) :
    exec .strapResolve s = .next (s.strapsSet a b c) := by
  show execStrapResolve s = _
  unfold execStrapResolve
  rw [samples]

/-- Settles O12: the three samples are due in turn, and resolution sets the fields of the two strap registers and PHASE. -/
theorem strapSampling : Obligations.StrapSampling := by
  unfold Obligations.StrapSampling
  refine ⟨fun s running none => ?source, fun s pins hpins h => ?first, fun s pins a hpins h => ?second, fun s pins a b hpins h => ?third,
    fun s a b c samples ha hb hc => ?resolve⟩
  case source => exact congrArg Host.Outcome.next (if_pos ⟨running, by simp [none]⟩)
  case first => exact strapSample_takes hpins h rfl (.inl ⟨rfl, rfl⟩)
  case second => exact strapSample_takes hpins h rfl (.inr (.inl ⟨rfl, rfl⟩))
  case third => exact strapSample_takes hpins h rfl (.inr (.inr rfl))
  case resolve =>
    obtain ⟨set, -, rest⟩ := s.sets_strapsSet (strapFloat_lt ha hb hc)
    simp only [List.forall_mem_cons] at set
    obtain ⟨phase, any, float, valid, testMode, mgrPort, mgrEn, node, boot, -⟩ := set
    have strap : (s.strapsSet a b c).pwr.strap = {} := congrArg (fun t : State => t.pwr.strap) rest
    exact ⟨_, exec_strapResolve samples, float, any, valid, strap, phase, boot, node, mgrEn, mgrPort, testMode⟩

end Sys2Proof.Machine
end

section
/-! PROOFS. The Spillway arms: what arming does to the registers of the Spillway and to the device state, and where it does nothing. -/
namespace Sys2Proof.Machine

/-! ### The sticky bits (R395) -/

/-- Another field keeps its listed instances. -/
theorem State.listed_wr (s : State) (f : Fld) (i v : Nat) {g : Fld} (h : f.key ≠ g.key) : (s.wr f i v).listed g = s.listed g := by
  simp [State.listed, State.wr, SMap.get_mod, h]

/-- A field of a window outside `w` keeps its listed instances. -/
theorem Keeps.listed {w : Nat} {z s : State} (h : Keeps w z s) (f : Fld) (hf : w.testBit (windowBit f.key) = false) :
    s.listed f = z.listed f := by
  have regs : SMap.keep s.regs (fun k _ => !w.testBit (windowBit k)) = SMap.keep z.regs fun k _ => !w.testBit (windowBit k) :=
    congrArg State.regs h.2.2
  have row := congrArg (SMap.get [] · f.key) regs
  simp only [SMap.get_keep, hf, Bool.not_false, if_true] at row
  unfold State.listed
  rw [row]

/-- Two states whose sticky registers are listed and read alike have the same sticky sources. -/
theorem State.stickies_congr {s t : State} (listed : t.listed fSPW_STK_STK = s.listed fSPW_STK_STK)
    (reads : ∀ k, t.rd fSPW_STK_STK k = s.rd fSPW_STK_STK k) : t.stickies = s.stickies := by
  unfold State.stickies
  simp only [listed, reads]

/-! ### The device state (R459, R466) -/

theorem State.sendAll_regs (s : State) (os : List Out) : (s.sendAll os).regs = s.regs :=
  foldl_keeps (f := State.send) (fun t => t.regs = s.regs) (fun t _ h => (t.send_regs _).trans h) rfl

theorem State.rd_msiPf (s : State) (p vec : Nat) (g : Fld) (j : Nat) (h : fPF_PBA_PEND.key ≠ g.key) : (s.msiPf p vec).rd g j = s.rd g j := by
  unfold State.msiPf
  split
  · exact State.rd_setBit_key _ _ _ _ _ _ h
  · rfl

/-- A notification writes the bits of pending types and of pending vectors alone. -/
theorem State.rd_notify (s : State) (typ detail : Nat) (g : Fld) (j : Nat) (types : fTND_NOTPEND_TYPES.key ≠ g.key)
    (vectors : fPF_PBA_PEND.key ≠ g.key) : (s.notify typ detail).rd g j = s.rd g j := by
  unfold State.notify
  dsimp only
  generalize hu : State.each s _ _ = u
  have regs : u.regs = s.regs :=
    hu ▸ State.each_induct (fun t => t.regs = s.regs) (by exact fun _ _ ht => (State.sendAll_regs _ _).trans ht) rfl
  have told : (u.putb fTND_NOTPEND_TYPES 0 (typ - 1) true).rd g j = s.rd g j :=
    (State.rd_putb_key _ _ _ _ _ _ _ types).trans (State.rd_congr regs g j)
  split
  · exact (State.rd_msiPf _ _ _ _ _ vectors).trans told
  · exact told

theorem State.dev_setDev (s : State) {d : Nat} (hd : d < 8) : (s.setDev d).dev = d := by
  unfold State.setDev
  split
  · assumption
  · unfold State.dev
    rw [State.rd_notify _ _ _ _ _ (by decide) (by decide), State.rd_wr_same]
    exact Nat.mod_eq_of_lt hd

/-! ### Arming (R75, R397) -/

theorem State.when_false (s : State) (f : State → State) : s.when_ false f = s := rfl

/-- What arming may change where nothing is raised: the drivers, the slots, the device state with what notifies of it, and PHASE. -/
def armingParts : Nat := 0x10a0004012800202

/-- What of it may still change once the device is in Standby. -/
def standbyParts : Nat := 0x20004000800200

/-- ARMED is set, and the device is in Standby. -/
def State.armedNow (s : State) : State := ((s.wrb fSPW_CTL_ARMED 0 true).spwMod fun w => { w with kept := [] }).setDev 1

/-- The device as it arms, before its sticky sources take their states. -/
def State.arming (s : State) : State :=
  (((s.when_ s.pwr.aborted fun s => (s.ttEnd 10 0).pwrMod fun p => { p with aborted := false }).armedNow.when_
    (s.rdb fPKG_STRAPFLT_ANY 0) fun s => s.cfgErr 2).slotsArm).when_ (s.rd fPWR_RSTCAUSE_LAST 0 == 0) State.coldRaises

theorem spillwayArm_arms {s : State} (may : s.mayArm = true) :
    exec .spillwayArm s = .next (s.arming.each s.arming.stickies State.armSource).tablesNow := congrArg Host.Outcome.next (if_pos may)

/-- The device is held in Init, where some objects of the dictionary answer (R52, R477). -/
theorem spillwayArm_held {s : State} (may : s.mayArm = false)
    (held : (s.pwr.sram && !s.pwr.coldHold && !s.pwr.warm && !s.armed && (s.pwr.manufTest || s.boot.recovery)) = true) :
    exec .spillwayArm s = .next { s with tnd := { s.tnd with limited := true } } :=
  congrArg Host.Outcome.next ((if_neg (by simp [may])).trans (if_pos held))

theorem spillwayArm_ignored {s : State} (may : s.mayArm = false)
    (held : (s.pwr.sram && !s.pwr.coldHold && !s.pwr.warm && !s.armed && (s.pwr.manufTest || s.boot.recovery)) = false) :
    exec .spillwayArm s = .next s :=
  congrArg Host.Outcome.next ((if_neg (by simp [may])).trans (if_neg (by simp [held])))

/-- Where no table load was abandoned and the last reset was no cold one, what follows ARMED and Standby is a floating strap's source and the
slots. -/
theorem State.arming_keeps {W : Nat} {z s : State} (hw : Within 0x20000000800200 W) (aborted : s.pwr.aborted = false)
    (last : s.rd fPWR_RSTCAUSE_LAST 0 ≠ 0) (h : Keeps W z s.armedNow) : Keeps W z s.arming := by
  have warm : (s.rd fPWR_RSTCAUSE_LAST 0 == 0) = false := beq_false_of_ne last
  unfold State.arming
  rw [aborted, warm, State.when_false, State.when_false]
  exact State.slotsArm_keeps (hw.mono rfl) (State.when_keeps h fun _ ht => State.cfgErr_keeps (hw.mono rfl) ht)

theorem State.armedNow_keeps {W : Nat} (s : State) (hw : Within 0x1080000012000202 W) : Keeps W (s.wrb fSPW_CTL_ARMED 0 true) s.armedNow :=
  State.setDev_keeps (hw.mono rfl) (State.spwMod_keeps (hw.mono rfl) (Keeps.refl ..))

/-- With no sticky bit set no source takes a state: the Spillway is armed and the device in Standby. -/
theorem spillwayArm_standby {s : State} (may : s.mayArm = true) (stickies : s.stickies = []) (aborted : s.pwr.aborted = false)
    (last : s.rd fPWR_RSTCAUSE_LAST 0 ≠ 0) : EndsIn .spillwayArm s fun t => t.armed = true ∧ t.dev = 1 := by
  have kept : Keeps armingParts (s.wrb fSPW_CTL_ARMED 0 true) s.arming := State.arming_keeps rfl aborted last (s.armedNow_keeps rfl)
  have quiet : s.arming.stickies = [] := by
    have apart : fSPW_CTL_ARMED.key ≠ fSPW_STK_STK.key := by decide
    refine (State.stickies_congr ?_ fun k => ?_).trans stickies
    · exact (kept.listed fSPW_STK_STK rfl).trans (s.listed_wr _ _ _ apart)
    · exact (kept.rd fSPW_STK_STK k rfl).trans (s.rd_wrb_key _ _ _ _ _ apart)
  refine ⟨_, spillwayArm_arms may, ?_⟩
  rw [quiet]
  constructor
  · have fromArmed : Keeps armingParts (s.wrb fSPW_CTL_ARMED 0 true) s.arming.tablesNow := State.tablesNow_keeps rfl kept
    exact (congrArg (· % 2 == 1) (fromArmed.rd fSPW_CTL_ARMED 0 rfl)).trans (s.rdb_wrb_same fSPW_CTL_ARMED 0 true rfl)
  · have fromStandby : Keeps standbyParts s.armedNow s.arming.tablesNow :=
      State.tablesNow_keeps rfl (State.arming_keeps rfl aborted last (Keeps.refl ..))
    exact (fromStandby.rd fTND_STAT_DEVSTATE 0 rfl).trans (State.dev_setDev _ (by decide))

/-- Settles O51: a device that may arm does so; one that may not is held where only an image or a manufacturing test keeps it, and is left alone
otherwise. -/
theorem spillwayArms : Obligations.SpillwayArms := by
  unfold Obligations.SpillwayArms
  refine ⟨fun s => spillwayArm_standby, fun s may sram cold warm unarmed why => ?held, fun s armed => ?armed, fun s may why => ?early,
    fun s u v may hu hv => ?arms⟩
  case held => exact spillwayArm_held may (by simp [sram, cold, warm, unarmed, why])
  case armed => exact spillwayArm_ignored (by simp [State.mayArm, armed]) (by simp [armed])
  case early =>
    refine spillwayArm_ignored may ?_
    rcases why with sram | cold | warm | ⟨noTest, image⟩
    · simp [sram]
    · simp [cold]
    · simp [warm]
    · simp [noTest, image]
  case arms =>
    subst hu hv
    exact spillwayArm_arms may

end Sys2Proof.Machine
end

section
/-! PROOFS. The first milliseconds of a start: the PLL, the sequences of a boot, and the calibration of the tiles. -/
namespace Sys2Proof.Machine

/-! ### What an operation leaves that keeps to its parts -/

theorem Keeps.pwr {w : Nat} {z s : State} (h : Keeps w z s) (hw : w.testBit 6 = false) : s.pwr = z.pwr := by
  have := congrArg State.pwr h.2.2
  simpa [State.outside, hw] using this

theorem State.when_true (s : State) (f : State → State) : s.when_ true f = f s := rfl

/-! ### The PLL and the segments -/

theorem pllLock_starts {s : State} (cold : s.pwr.coldHold = false) (unlocked : s.pwr.pll = false) (cool : s.pwr.thermLow = false)
    (valid : s.rdb fPKG_STRAP_VALID 0 = true) :
    Ends .pllLock s { s with pwr := { s.pwr with pll := true }, ft := { s.ft with run := true } }
      [(fPWR_START_PHASE, 0, 2), (fARCH_CORECLK_MHZ, 0, 900)] := by
  refine ⟨_, congrArg Host.Outcome.next (if_neg (by simp [cold, unlocked, cool, valid])), ?_⟩
  exact (Sets.wr_one _ fARCH_CORECLK_MHZ 0 rfl).wr fPWR_START_PHASE 0 rfl (show _ ∉ [fARCH_CORECLK_MHZ.key] by decide)

theorem t1sPhyJoin_joins {s : State} {seg : Nat} (hseg : seg < 2) (cold : s.pwr.coldHold = false) :
    Ends (.t1sPhyJoin seg) s s [(fTND_SEG_JOINED, seg, 1)] := by
  refine ⟨_, (if_pos (decide_eq_true hseg)).trans (congrArg _ (if_neg (by simp [cold]))), Sets.wr_one s _ _ rfl⟩

/-! ### 64-bit registers, and a record of the Waterlog (R463) -/

/-- A 64-bit register written reads the value cut to 64 bits. -/
theorem State.rd2_wr2_same (s : State) {lo hi : Fld} (i v : Nat) (lsb : lo.lsb = 0) (low : lo.width = 32) (high : hi.width = 32)
    (apart : hi.key ≠ lo.key) : (s.wr2 lo hi i v).rd2 lo hi i = v % 2 ^ 64 := by
  unfold State.rd2 State.wr2
  rw [State.rd_wr_key _ _ _ _ _ _ apart, State.rd_wr_same, State.rd_wr_same, lsb, low, high]
  omega

theorem State.rd2_wr2_key (s : State) {lo hi lo' hi' : Fld} (i v j : Nat) (ll : lo.key ≠ lo'.key) (hl : hi.key ≠ lo'.key)
    (lh : lo.key ≠ hi'.key) (hh : hi.key ≠ hi'.key) : (s.wr2 lo hi i v).rd2 lo' hi' j = s.rd2 lo' hi' j := by
  unfold State.rd2 State.wr2
  rw [State.rd_wr_key _ _ _ _ _ _ hl, State.rd_wr_key _ _ _ _ _ _ ll, State.rd_wr_key _ _ _ _ _ _ hh, State.rd_wr_key _ _ _ _ _ _ lh]

/-- The next sequence follows the one that a record takes. -/
theorem State.headSeq_journal (s : State) (r : Rec) : (s.journal r).headSeq = (s.headSeq + 1) % 2 ^ 64 :=
  (State.rd2_wr2_key _ 0 _ 0 (by decide) (by decide) (by decide) (by decide)).trans (State.rd2_wr2_same _ 0 _ rfl rfl rfl (by decide))

theorem State.bootSeq_journal (s : State) (r : Rec) : (s.journal r).bootSeq = s.bootSeq :=
  (State.rd2_wr2_key _ 0 _ 0 (by decide) (by decide) (by decide) (by decide)).trans
    (State.rd2_wr2_key _ 0 _ 0 (by decide) (by decide) (by decide) (by decide))

/-- A record written leaves the boot as it is. -/
theorem State.journal_boot (s : State) (r : Rec) : (s.journal r).boot = s.boot := rfl

/-- A record as it stands in the ring: at its sequence, with the time and its quality. -/
def State.stamped (s : State) (r : Rec) : Rec :=
  { r with seq := s.headSeq, ns := s.ftNs, sec := s.ftSec % 2 ^ 48, flags := r.flags + 16 * s.ftQual }

theorem State.record_journal (s : State) (r : Rec) : (s.journal r).record s.headSeq = some (s.stamped r) := by
  have stored : SMap.get none (s.journal r).tnd.ring (s.headSeq % ringSize) = some (s.stamped r) :=
    SMap.get_set_same none s.tnd.ring (s.headSeq % ringSize) (some (s.stamped r))
  unfold State.record
  rw [stored]
  exact if_pos rfl

/-! ### The sequences of a boot (R464) -/

/-- The highest count that a boot finds in the flashes; without `spi` it looks at neither. -/
def State.bootsBefore (s : State) (spi : Bool) : Nat :=
  max (if spi then countBest (s.flash 0) else 0) (if spi then countBest (s.flash 1) else 0)

/-- A flash written changes the flashes alone. -/
theorem State.recovery_setFlash (s : State) (f : Nat) (m : SMap Nat) : (s.setFlash f m).boot.recovery = s.boot.recovery := by
  unfold State.setFlash State.bootMod
  dsimp only
  split <;> rfl

theorem State.recovery_countPut {s t : State} {f n : Nat} {bad : Bool} (h : s.countPut f n bad = some t) :
    t.boot.recovery = s.boot.recovery := by
  unfold State.countPut at h
  dsimp only at h
  split at h
  · split at h
    · cases h
    · rw [← Option.some.inj h]
      exact s.recovery_setFlash ..
  · cases h

theorem State.recovery_countTidy (s : State) (f n : Nat) : (s.countTidy f n).boot.recovery = s.boot.recovery := by
  unfold State.countTidy
  dsimp only
  split
  · exact s.recovery_setFlash ..
  · rfl

/-- The first sequence of a boot that finds `n` boots before it. -/
def firstSeq (n : Nat) : Nat := n * 2 ^ 48 + 1

/-- Cut to a register, the first sequence is the first of its range, and not the last. -/
theorem firstSeq_cut (n : Nat) : firstSeq n % 2 ^ 64 % 2 ^ 48 = 1 ∧ firstSeq n % 2 ^ 64 + 1 < 2 ^ 64 := by
  unfold firstSeq
  omega

/-- BOOTSEQ and HEADSEQ at sequence `q`. -/
def State.seqFrom (s : State) (q : Nat) : State := (s.wr2 fWLG_BOOTSEQ_L fWLG_BOOTSEQ_H 0 q).wr2 fWLG_HEAD_L fWLG_HEAD_H 0 q

/-- A boot counted: its range above the boots before it, with the GAP record in front. -/
theorem State.bootCount_eq (s : State) (bad : Nat) (spi : Bool) : ∃ (u : State) (old new : Nat), u.boot.recovery = s.boot.recovery
    ∧ s.bootCount bad spi = (u.seqFrom (firstSeq (s.bootsBefore spi))).journal
        { index := 0, sub := 0, orig := origTender, flags := 0x40, old := old, new := new } := by
  unfold State.bootCount State.seqFrom State.bootsBefore
  extract_lets c ba bb n first
  split
  next done t found =>
    have counted : t.boot.recovery = s.boot.recovery := by
      split at found
      next put =>
        split at put
        · cases found
          exact State.recovery_countPut put
        · cases put
      next =>
        split at found
        next put =>
          split at put
          · cases found
            exact State.recovery_countPut put
          · cases put
        next => cases found; rfl
    extract_lets tidy
    refine ⟨tidy, _, _, ?_, rfl⟩
    unfold tidy
    split
    · exact (State.recovery_countTidy _ _ _).trans ((State.recovery_countTidy _ _ _).trans counted)
    · exact counted

theorem State.seqFrom_seqs (s : State) (q : Nat) : (s.seqFrom q).headSeq = q % 2 ^ 64 ∧ (s.seqFrom q).bootSeq = q % 2 ^ 64 :=
  ⟨State.rd2_wr2_same _ 0 _ rfl rfl rfl (by decide),
    (State.rd2_wr2_key _ 0 _ 0 (by decide) (by decide) (by decide) (by decide)).trans (State.rd2_wr2_same _ 0 _ rfl rfl rfl (by decide))⟩

theorem State.seqFrom_boot (s : State) (q : Nat) : (s.seqFrom q).boot = s.boot := rfl

/-- What counting a boot leaves of the Waterlog's sequences, and of whether an image is to boot. -/
theorem State.bootCount_leaves (s : State) (bad : Nat) (spi : Bool) :
    (s.bootCount bad spi).bootSeq = firstSeq (s.bootsBefore spi) % 2 ^ 64
    ∧ (s.bootCount bad spi).headSeq = (s.bootCount bad spi).bootSeq + 1
    ∧ (s.bootCount bad spi).boot.recovery = s.boot.recovery
    ∧ ∃ r, (s.bootCount bad spi).record (s.bootCount bad spi).bootSeq = some r ∧ r.index = 0 ∧ r.sub = 0 ∧ r.orig = 0xC1 ∧ r.result = 0
        ∧ 0x40 ≤ r.flags := by
  obtain ⟨u, old, new, recovery, counted⟩ := s.bootCount_eq bad spi
  have first := (firstSeq_cut (s.bootsBefore spi)).2
  generalize firstSeq (s.bootsBefore spi) = q at counted first ⊢
  obtain ⟨head, boot⟩ := u.seqFrom_seqs q
  have gap := (u.seqFrom q).record_journal { index := 0, sub := 0, orig := origTender, flags := 0x40, old := old, new := new }
  rw [head] at gap
  rw [counted, State.bootSeq_journal, State.headSeq_journal, head, boot, Nat.mod_eq_of_lt first, State.journal_boot, State.seqFrom_boot]
  exact ⟨rfl, rfl, recovery, _, gap, rfl, rfl, rfl, rfl, Nat.le_add_right ..⟩

/-! ### The SRAM is clear (R75, R464, R477) -/

/-- The state in which the boot is counted. -/
def State.sramClear (s : State) : State :=
  ((s.pwrMod fun p => { p with sram := true }).bootMod fun b => { b with recovery := s.rd fPKG_STRAP_BOOTSEL 0 == 3 }).wr fPWR_START_PHASE 0 3

/-- No image boots: the ROM firmware runs, with the cause of each slot that it is not to be tried. -/
def State.bootNone (s : State) : State := ((s.noImage).wr fBOOT_STAT_CAUSEA 0 1).wr fBOOT_STAT_CAUSEB 0 1

theorem exec_sramClearDone {s : State} {bad : Nat} (hbad : bad < 4) (locked : s.pwr.pll = true) (unclear : s.pwr.sram = false) :
    exec (.sramClearDone bad) s = .next
      ((s.sramClear.bootCount bad !s.pwr.manufTest).when_ (s.rd fPKG_STRAP_BOOTSEL 0 == 3) State.bootNone) := by
  obtain ⟨-, -, recovery, -⟩ := s.sramClear.bootCount_leaves bad !s.pwr.manufTest
  have asked : (s.sramClear.bootCount bad !s.pwr.manufTest).boot.recovery = (s.rd fPKG_STRAP_BOOTSEL 0 == 3) := recovery
  rw [← asked]
  exact (if_pos (decide_eq_true hbad)).trans (congrArg _ (if_neg (by simp [locked, unclear])))

/-- Where no image boots, the causes and the firmware of the boot say so, and nothing else is touched. -/
theorem State.bootNone_sets (s : State) : Sets s s.bootNone
    [(fBOOT_STAT_CAUSEB, 0, 1), (fBOOT_STAT_CAUSEA, 0, 1), (fBOOT_STAT_RUNFW, 0, 2), (fBOOT_STAT_SLOT, 0, 2)] :=
  (((Sets.wr_one s fBOOT_STAT_SLOT 0 rfl).wr fBOOT_STAT_RUNFW 0 rfl (show _ ∉ [fBOOT_STAT_SLOT.key] by decide)).wr fBOOT_STAT_CAUSEA 0 rfl
    (show _ ∉ [fBOOT_STAT_RUNFW.key, fBOOT_STAT_SLOT.key] by decide)).wr fBOOT_STAT_CAUSEB 0 rfl
    (show _ ∉ [fBOOT_STAT_CAUSEA.key, fBOOT_STAT_RUNFW.key, fBOOT_STAT_SLOT.key] by decide)

/-- Whether an image boots or not, the boot's sequences are as counted. -/
theorem State.bootNone_sequences (s : State) : s.bootNone.bootSeq = s.bootSeq ∧ s.bootNone.headSeq = s.headSeq := by
  have same : ∀ f : Fld, windowBit f.key = 56 → s.bootNone.rd f 0 = s.rd f 0 := fun f hf => by
    refine s.bootNone_sets.rd_other f 0 fun other => ?_
    have window : ∀ k ∈ [fBOOT_STAT_CAUSEB.key, fBOOT_STAT_CAUSEA.key, fBOOT_STAT_RUNFW.key, fBOOT_STAT_SLOT.key], windowBit k = 57 := by
      decide
    exact absurd (hf.symm.trans (window _ other)) (by decide)
  unfold State.bootSeq State.headSeq State.rd2
  rw [same fWLG_BOOTSEQ_L rfl, same fWLG_BOOTSEQ_H rfl, same fWLG_HEAD_L rfl, same fWLG_HEAD_H rfl]
  exact ⟨rfl, rfl⟩

/-- A record is one of the Tender's ring alone. -/
theorem State.record_congr {s t : State} (h : t.tnd = s.tnd) (q : Nat) : t.record q = s.record q := by
  unfold State.record
  rw [h]

/-- What the ROM firmware's boot leaves, where it comes and where it does not. -/
theorem State.bootNone_leaves (t : State) (b : Bool) :
    (t.when_ b State.bootNone).pwr = t.pwr ∧ (t.when_ b State.bootNone).boot = t.boot
    ∧ (t.when_ b State.bootNone).bootSeq = t.bootSeq ∧ (t.when_ b State.bootNone).headSeq = t.headSeq
    ∧ (t.when_ b State.bootNone).rd fPWR_START_PHASE 0 = t.rd fPWR_START_PHASE 0 ∧ ∀ q, (t.when_ b State.bootNone).record q = t.record q := by
  cases b with
  | false => exact ⟨rfl, rfl, rfl, rfl, rfl, fun _ => rfl⟩
  | true =>
    obtain ⟨sameBoot, sameHead⟩ := t.bootNone_sequences
    refine ⟨rfl, rfl, sameBoot, sameHead, t.bootNone_sets.rd_other fPWR_START_PHASE 0 ?_, State.record_congr rfl⟩
    show _ ∉ [fBOOT_STAT_CAUSEB.key, fBOOT_STAT_CAUSEA.key, fBOOT_STAT_RUNFW.key, fBOOT_STAT_SLOT.key]
    decide

/-- Where no image boots, the registers of the boot say so. -/
theorem State.bootNone_reads (t : State) : t.bootNone.rd fBOOT_STAT_SLOT 0 = 2 ∧ t.bootNone.rd fBOOT_STAT_RUNFW 0 = 2
    ∧ t.bootNone.rd fBOOT_STAT_CAUSEA 0 = 1 ∧ t.bootNone.rd fBOOT_STAT_CAUSEB 0 = 1 := by
  obtain ⟨sets, -, -⟩ := t.bootNone_sets
  simp only [List.forall_mem_cons] at sets
  obtain ⟨causeB, causeA, runs, slot, -⟩ := sets
  exact ⟨slot, runs, causeA, causeB⟩

theorem sramClearDone_boots {s : State} {bad : Nat} (hbad : bad < 4) (locked : s.pwr.pll = true) (unclear : s.pwr.sram = false) :
    EndsIn (.sramClearDone bad) s fun t =>
      t.pwr.sram = true ∧ t.rd fPWR_START_PHASE 0 = 3 ∧ t.boot.recovery = (s.rd fPKG_STRAP_BOOTSEL 0 == 3)
      ∧ t.bootSeq % 2 ^ 48 = 1 ∧ t.headSeq = t.bootSeq + 1
      ∧ (s.rd fPKG_STRAP_BOOTSEL 0 = 3 → t.rd fBOOT_STAT_SLOT 0 = 2 ∧ t.rd fBOOT_STAT_RUNFW 0 = 2
        ∧ t.rd fBOOT_STAT_CAUSEA 0 = 1 ∧ t.rd fBOOT_STAT_CAUSEB 0 = 1)
      ∧ ∃ r, t.record t.bootSeq = some r ∧ r.index = 0 ∧ r.sub = 0 ∧ r.orig = 0xC1 ∧ r.result = 0 ∧ 0x40 ≤ r.flags := by
  refine ⟨_, exec_sramClearDone hbad locked unclear, ?_⟩
  obtain ⟨boot, head, recovery, gap⟩ := s.sramClear.bootCount_leaves bad !s.pwr.manufTest
  obtain ⟨pwr, sameRecovery, sameBoot, sameHead, phase, record⟩ :=
    (s.sramClear.bootCount bad !s.pwr.manufTest).bootNone_leaves (s.rd fPKG_STRAP_BOOTSEL 0 == 3)
  have kept : Keeps 0x100000101000000 s.sramClear (s.sramClear.bootCount bad !s.pwr.manufTest) := State.bootCount_keeps rfl (.refl _ _)
  have counted : s.sramClear.rd fPWR_START_PHASE 0 = 3 := State.rd_wr_same ..
  have asked : s.sramClear.boot.recovery = (s.rd fPKG_STRAP_BOOTSEL 0 == 3) := rfl
  have range := boot ▸ (firstSeq_cut (s.sramClear.bootsBefore !s.pwr.manufTest)).1
  rw [pwr, sameRecovery, sameBoot, sameHead, phase, record, kept.pwr (by decide), kept.rd _ _ (by decide), counted, recovery, asked]
  refine ⟨rfl, rfl, rfl, range, head, fun three => ?_, gap⟩
  rw [three]
  exact State.bootNone_reads _

/-- Where the flashes may be looked at, the range of a boot lies above the higher of their counts. -/
theorem sramClearDone_range {s : State} {bad : Nat} (hbad : bad < 4) (locked : s.pwr.pll = true) (unclear : s.pwr.sram = false)
    (noTest : s.pwr.manufTest = false) :
    EndsIn (.sramClearDone bad) s fun t => t.bootSeq = (max (countBest (s.flash 0)) (countBest (s.flash 1)) * 2 ^ 48 + 1) % 2 ^ 64 := by
  obtain ⟨boot, -⟩ := s.sramClear.bootCount_leaves bad !s.pwr.manufTest
  refine ⟨_, exec_sramClearDone hbad locked unclear, ?_⟩
  unfold firstSeq State.bootsBefore at boot
  obtain ⟨-, -, same, -⟩ := (s.sramClear.bootCount bad !s.pwr.manufTest).bootNone_leaves (s.rd fPKG_STRAP_BOOTSEL 0 == 3)
  rw [same, boot, noTest]
  rfl

/-! ### Calibration (R75, R103) -/

/-- A bit of a field after one of its bits is written. -/
theorem State.bitOf_rd_putb (s : State) (f : Fld) (i n : Nat) (b : Bool) {m : Nat} (hm : m < f.width) :
    bitOf ((s.putb f i n b).rd f i) m = if n = m then b else bitOf (s.rd f i) m := by
  unfold State.putb
  rw [State.rd_wr_same, bitOf_mod_two_pow hm, bitOf_putBit]

theorem calibrationDone_ends {s : State} {tile : Nat} (ht : isTile tile = true) (cold : s.pwr.coldHold = false) (warm : s.pwr.warm = false) :
    EndsIn (.calibrationDone tile) s fun t =>
      (∀ n, n < 4 → bitOf (t.rd fSER_GSTAT_CALDONE 0) n = (bitOf (s.rd fSER_GSTAT_CALDONE 0) n || n == tile))
      ∧ t.rd fPWR_START_PHASE 0 =
        (if s.rd fPWR_START_PHASE 0 = 4 ∧ t.rd fSER_GSTAT_CALDONE 0 = 15 ∧ s.boot.stage2 = none then 5 else s.rd fPWR_START_PHASE 0) := by
  let t := s.putb fSER_GSTAT_CALDONE 0 tile true
  have done : t.tablesNow.rd fSER_GSTAT_CALDONE 0 = t.rd fSER_GSTAT_CALDONE 0 :=
    (State.tablesNow_keeps (Within.self _) (.refl _ t)).rd _ _ (by decide)
  have phase : t.rd fPWR_START_PHASE 0 = s.rd fPWR_START_PHASE 0 := State.rd_putb_key _ _ _ _ _ _ _ (by decide)
  refine ⟨t.tablesNow, (if_pos ht).trans (congrArg _ (if_neg (by simp [cold, warm]))), fun n hn => ?_, ?_⟩
  · rw [done, State.bitOf_rd_putb _ _ _ _ _ hn]
    by_cases h : tile = n
    · simp [h]
    · simp [h, Ne.symm h]
  · rw [done, ← phase]
    unfold State.tablesNow
    rw [show t.boot.stage2.isNone = s.boot.stage2.isNone from rfl]
    simp only [Option.isNone_iff_eq_none]
    split
    · exact State.rd_wr_same ..
    · rfl

/-- Settles O13: each clause is the lemma of its command, or a branch of it that is not taken. -/
theorem firstMilliseconds : Obligations.FirstMilliseconds := by
  unfold Obligations.FirstMilliseconds
  refine ⟨fun _ => pllLock_starts, fun s h => ?noLock, fun _ _ => sramClearDone_boots, fun _ _ => sramClearDone_range,
    fun s bad hbad h => ?notYet, fun _ _ => t1sPhyJoin_joins, fun s seg hseg cold => ?noJoin, fun _ _ => calibrationDone_ends,
    fun s tile ht h => ?covered⟩
  case noLock => exact congrArg Host.Outcome.next (if_pos (by simpa using h))
  case notYet => exact (if_pos (decide_eq_true hbad)).trans (congrArg _ (if_pos (by simpa using h)))
  case noJoin => exact (if_pos (decide_eq_true hseg)).trans (congrArg _ (if_pos cold))
  case covered => exact (if_pos ht).trans (congrArg _ (if_pos h))

end Sys2Proof.Machine
end

section
/-! PROOFS. The waves of ports and links, of the device and of a tile that was reset. -/
namespace Sys2Proof.Machine

/-! ### Waves of ports (R75, R77, R78) -/

/-- Ports that follow the device's waves: those of no tile that was reset by itself. -/
def State.devicePorts (s : State) : List Nat := (List.range 64).filter fun p => !bitOf s.pwr.own (tileOfPort p)

/-- Wave `w` of the device, reached. -/
def State.waveReached (s : State) (w : Nat) : State := ((s.waveOf s.devicePorts w).wr fPWR_START_WAVE 0 w).wr fPWR_START_PHASE 0 6

theorem State.waveReached_sets (s : State) {w : Nat} (h8 : w < 8) :
    Sets (s.waveOf s.devicePorts w) (s.waveReached w) [(fPWR_START_PHASE, 0, 6), (fPWR_START_WAVE, 0, w)] :=
  (Sets.wr_one _ fPWR_START_WAVE 0 (Nat.mod_eq_of_lt (h8.trans (by decide)))).wr fPWR_START_PHASE 0 rfl
    (show _ ∉ [fPWR_START_WAVE.key] by decide)

theorem exec_portWave_device {s : State} {w : Nat} (later : 0 < w) (h8 : w < 8) :
    exec (.portWave w none) s =
      .next (if s.rd fPWR_START_PHASE 0 = 6 ∧ s.rd fPWR_START_WAVE 0 + 1 = w then s.waveReached w else s) :=
  (if_pos (by simp [h8])).trans (congrArg _ (if_neg later.ne'))

theorem exec_portWave_tile {s : State} {w n : Nat} (h8 : w < 8) (hn : isTile n = true) :
    exec (.portWave w (some n)) s = .next (if s.pwr.warm ∨ bitOf s.pwr.tiles n ∨ ¬ bitOf s.pwr.own n then s
      else s.waveOf ((List.range 16).map fun i => 16 * n + i) w) :=
  if_pos (by simp [h8, hn])

theorem portWave_enters {s : State} (standby : s.dev = 1) (tables : s.rd fPWR_START_PHASE 0 = 5) (wanted : s.wavesWanted = true) :
    EndsIn (.portWave 0 none) s fun t =>
      t.dev = (if s.degraded then 3 else 2) ∧ t.rd fPWR_START_WAVE 0 = 0 ∧ t.rd fPWR_START_PHASE 0 = 6 ∧ t.pwr.oper = false := by
  have reached := (s.waveReached_sets (w := 0) (by decide)).1
  simp only [List.forall_mem_cons] at reached
  obtain ⟨phase, wave, -⟩ := reached
  let u := (s.waveReached 0).pwrMod fun p => { p with oper := false }
  have entered : exec (.portWave 0 none) s = .next (u.setDev (if s.degraded then 3 else 2)) :=
    congrArg Host.Outcome.next (if_pos (And.intro standby (.inl ⟨tables, wanted⟩)))
  have kept : Keeps 0x1080000012000002 u (u.setDev (if s.degraded then 3 else 2)) := State.setDev_keeps rfl (.refl _ _)
  exact ⟨_, entered, State.dev_setDev u (by split <;> decide), (kept.rd fPWR_START_WAVE 0 (by decide)).trans wave,
    (kept.rd fPWR_START_PHASE 0 (by decide)).trans phase, congrArg PwrS.oper (kept.pwr (by decide))⟩

/-! ### Waves of links (R75, R80) -/

/-- Link `k` has reached its wave, and trains if it may. -/
def State.waveLink (s : State) (k : Nat) : State := (s.lkMod k fun l => { l with waveDone := true }).linkTry k

theorem State.lk_congr {s t : State} (h : t.leat = s.leat) (k : Nat) : t.lk k = s.lk k := congrArg (SMap.get ({} : Leat) · k) h

theorem State.lk_lkMod (s : State) (k : Nat) (f : Leat → Leat) (j : Nat) : (s.lkMod k f).lk j = if k = j then f (s.lk k) else s.lk j :=
  SMap.get_mod ..

theorem Keeps.leat {w : Nat} {z s : State} (h : Keeps w z s) (hw : w.testBit 13 = false) : s.leat = z.leat := by
  have := congrArg State.leat h.2.2
  simpa [State.outside, hw] using this

/-- Training a link is no wave. -/
theorem State.enterTraining_waveDone (s : State) (k j : Nat) : ((s.enterTraining k).lk j).waveDone = (s.lk j).waveDone := by
  unfold State.enterTraining
  dsimp only
  generalize hu : s.lkMod k _ = u
  have kept : Keeps 0x440000001000 u ((u.each (linkLanes k) fun t l => t.laneStart l (s.rd fLEAT_CTL_RATE k)).wr fLEAT_STAT_STATE k 1) :=
    State.wr_keeps (State.each_keeps (.refl _ _) fun _ h _ => State.laneStart_keeps rfl h) rfl
  rw [State.lk_congr (kept.leat (by decide)), ← hu, State.lk_lkMod]
  split
  · next h => exact congrArg (fun k => (s.lk k).waveDone) h
  · rfl

theorem State.waveLink_waveDone (s : State) (k j : Nat) : ((s.waveLink k).lk j).waveDone = (decide (k = j) || (s.lk j).waveDone) := by
  have marked : ((s.lkMod k fun l => { l with waveDone := true }).lk j).waveDone = (decide (k = j) || (s.lk j).waveDone) := by
    rw [State.lk_lkMod]
    split <;> simp [*]
  unfold State.waveLink State.linkTry
  split
  · exact (State.enterTraining_waveDone ..).trans marked
  · exact marked

/-- After the waves of links `ks`, each of them has reached its own. -/
theorem State.each_waveLink (ks : List Nat) (s : State) (j : Nat) :
    ((s.each ks State.waveLink).lk j).waveDone = (decide (j ∈ ks) || (s.lk j).waveDone) := by
  induction ks generalizing s with
  | nil => simp [State.each]
  | cons k ks ih =>
    refine (ih (s.waveLink k)).trans ?_
    rw [State.waveLink_waveDone]
    by_cases h : k = j
    · simp [h]
    · simp [h, Ne.symm h]

theorem State.each_waveLink_keeps (ks : List Nat) (s : State) : Keeps 0x440000003000 s (s.each ks State.waveLink) :=
  State.each_keeps (.refl _ _) fun _ h _ => State.linkTry_keeps rfl (State.lkMod_keeps rfl h)

theorem exec_leatWave_device (s : State) :
    exec (.leatWave none) s = .next (if s.rd fPWR_START_PHASE 0 = 6 ∧ s.rd fPWR_START_WAVE 0 = 7 then
      ((s.wr fPWR_START_WAVE 0 8).wr fPWR_START_PHASE 0 7).each ((List.range 8).filter fun k => !bitOf s.pwr.own (tileOfLink k)) State.waveLink
      else s) := rfl

theorem exec_leatWave_tile (s : State) {n : Nat} (hn : isTile n = true) :
    exec (.leatWave (some n)) s = .next (if s.pwr.warm ∨ bitOf s.pwr.tiles n ∨ ¬ bitOf s.pwr.own n then s
      else s.each [2 * n, 2 * n + 1] State.waveLink) := if_pos hn

theorem leatWave_device {s : State} (operating : s.rd fPWR_START_PHASE 0 = 6) (ports : s.rd fPWR_START_WAVE 0 = 7) :
    EndsIn (.leatWave none) s fun t =>
      t.rd fPWR_START_WAVE 0 = 8 ∧ t.rd fPWR_START_PHASE 0 = 7
      ∧ ∀ k, k < 8 → bitOf s.pwr.own (tileOfLink k) = false → (t.lk k).waveDone = true := by
  let u := (s.wr fPWR_START_WAVE 0 8).wr fPWR_START_PHASE 0 7
  have kept := u.each_waveLink_keeps ((List.range 8).filter fun k => !bitOf s.pwr.own (tileOfLink k))
  have wave : u.rd fPWR_START_WAVE 0 = 8 := (State.rd_wr_key _ _ _ _ _ _ (by decide)).trans (State.rd_wr_same ..)
  refine ⟨_, (exec_leatWave_device s).trans (congrArg _ (if_pos ⟨operating, ports⟩)), (kept.rd _ _ (by decide)).trans wave,
    (kept.rd _ _ (by decide)).trans (State.rd_wr_same ..), fun k hk own => ?_⟩
  rw [State.each_waveLink]
  simp [hk, own]

theorem leatWave_tile {s : State} {n : Nat} (hn : isTile n = true) (warm : s.pwr.warm = false) (out : bitOf s.pwr.tiles n = false)
    (own : bitOf s.pwr.own n = true) :
    EndsIn (.leatWave (some n)) s fun t =>
      (t.lk (2 * n)).waveDone = true ∧ (t.lk (2 * n + 1)).waveDone = true ∧ t.rd fPWR_START_WAVE 0 = s.rd fPWR_START_WAVE 0 := by
  refine ⟨_, (exec_leatWave_tile s hn).trans (congrArg _ (if_neg (by simp [warm, out, own]))), ?_, ?_,
    (s.each_waveLink_keeps _).rd _ _ (by decide)⟩
  · simp [State.each_waveLink]
  · simp [State.each_waveLink]

/-- Settles O14: a wave is reached in its turn, and otherwise nothing happens. -/
theorem wavesInOrder : Obligations.WavesInOrder := by
  unfold Obligations.WavesInOrder
  refine ⟨fun _ => portWave_enters, fun s w later h8 operating next => ?turn, fun s w later h8 early => ?noTurn,
    fun s w n h8 hn warm out own => ?tile, fun _ => leatWave_device, fun _ _ => leatWave_tile, fun s w n h8 hn none => ?noTile,
    fun s early => ?noLinks⟩
  case turn => exact ⟨_, (exec_portWave_device later h8).trans (congrArg _ (if_pos ⟨operating, next⟩)), s.waveReached_sets h8⟩
  case noTurn =>
    refine (exec_portWave_device later h8).trans (congrArg _ (if_neg fun turn => ?_))
    exact early.elim (· turn.2) (· turn.1)
  case tile => exact (exec_portWave_tile h8 hn).trans (congrArg _ (if_neg (by simp [warm, out, own])))
  case noTile =>
    have held : s.pwr.warm ∨ bitOf s.pwr.tiles n ∨ ¬ bitOf s.pwr.own n := by simpa using none
    exact ⟨(exec_portWave_tile h8 hn).trans (congrArg _ (if_pos held)), (exec_leatWave_tile s hn).trans (congrArg _ (if_pos held))⟩
  case noLinks =>
    refine (exec_leatWave_device s).trans (congrArg _ (if_neg fun turn => ?_))
    exact early.elim (· turn.2) (· turn.1)

end Sys2Proof.Machine
end

section
/-! PROOFS. Rail monitors and clock monitors: LEVEL with its sticky bits, and the OK and LOST bits of a clock. -/
namespace Sys2Proof.Machine

/-! ### Rails (R62) -/

/-- The two bits of rail `r` replaced in LEVEL read the new value. -/
theorem bitsOf_rail (v : Nat) {r x : Nat} (hr : r < 6) (hx : x < 4) :
    bitsOf ((v - bitsOf v (2 * r) 2 * 4 ^ r + x * 4 ^ r) % 2 ^ 12) (2 * r) 2 = x := by
  unfold bitsOf
  interval_cases r <;> omega

theorem State.railLevel_congr {s t : State} (h : t.rd fPWR_RAILSTAT_LEVEL 0 = s.rd fPWR_RAILSTAT_LEVEL 0) (r : Nat) :
    t.railLevel r = s.railLevel r := congrArg (bitsOf · (2 * r) 2) h

theorem State.railLevel_setRail (s : State) {r x : Nat} (hr : r < 6) (hx : x < 4) : (s.setRail r x).railLevel r = x := by
  unfold State.setRail State.railLevel
  rw [State.rd_wr_same]
  exact bitsOf_rail _ hr hx

theorem State.rd_setRail_key (s : State) (r x : Nat) (g : Fld) (j : Nat) (h : fPWR_RAILSTAT_LEVEL.key ≠ g.key) :
    (s.setRail r x).rd g j = s.rd g j := State.rd_wr_key _ _ _ _ _ _ h

/-- The rail sources are no registers. -/
theorem State.rd_railSources (s : State) (g : Fld) (j : Nat) : s.railSources.rd g j = s.rd g j := by
  unfold State.railSources
  split <;> rfl

theorem State.railLevel_railSources (s : State) (r : Nat) : s.railSources.railLevel r = s.railLevel r :=
  State.railLevel_congr (s.rd_railSources ..) r

theorem State.railLevel_putb (s : State) {f : Fld} (n : Nat) (b : Bool) (r : Nat) (h : f.key ≠ fPWR_RAILSTAT_LEVEL.key) :
    (s.putb f 0 n b).railLevel r = s.railLevel r := State.railLevel_congr (State.rd_putb_key _ _ _ _ _ _ _ h) r

theorem railWarning_shows {s : State} {rail : Nat} (hr : rail < 6) (inside : s.railLevel rail = 0) :
    EndsIn (.railWarning rail true) s fun t =>
      t.railLevel rail = 1 ∧ bitOf (t.rd fPWR_RAILSTAT_WARNSEEN 0) rail = true
      ∧ t.rd fPWR_RAILSTAT_FAULTSEEN 0 = s.rd fPWR_RAILSTAT_FAULTSEEN 0 := by
  have warned : exec (.railWarning rail true) s = .next ((s.setRail rail 1).putb fPWR_RAILSTAT_WARNSEEN 0 rail true).railSources :=
    (if_pos (decide_eq_true hr)).trans (congrArg (fun t : State => Host.Outcome.next (t.putb fPWR_RAILSTAT_WARNSEEN 0 rail true).railSources)
      (if_pos inside))
  refine ⟨_, warned, ?_, ?_, ?_⟩
  · rw [State.railLevel_railSources, State.railLevel_putb _ _ _ _ (by decide), State.railLevel_setRail _ hr (by decide)]
  · rw [State.rd_railSources, State.bitOf_rd_putb _ _ _ _ _ hr, if_pos rfl]
  · rw [State.rd_railSources, State.rd_putb_key _ _ _ _ _ _ _ (by decide), State.rd_setRail_key _ _ _ _ _ (by decide)]

theorem railFault_shows (s : State) {rail : Nat} (hr : rail < 6) :
    EndsIn (.railFault rail true) s fun t =>
      t.railLevel rail = 2 ∧ bitOf (t.rd fPWR_RAILSTAT_WARNSEEN 0) rail = true ∧ bitOf (t.rd fPWR_RAILSTAT_FAULTSEEN 0) rail = true := by
  refine ⟨_, if_pos (decide_eq_true hr), ?_, ?_, ?_⟩ <;> simp only [if_true, State.railLevel_railSources, State.rd_railSources]
  · rw [State.railLevel_putb _ _ _ _ (by decide), State.railLevel_putb _ _ _ _ (by decide), State.railLevel_setRail _ hr (by decide)]
  · rw [State.rd_putb_key _ _ _ _ _ _ _ (by decide), State.bitOf_rd_putb _ _ _ _ _ hr, if_pos rfl]
  · rw [State.bitOf_rd_putb _ _ _ _ _ hr, if_pos rfl]

/-! ### Clocks (R68) -/

/-- Clock domain `dom` found lost: its bits, and its source. -/
def State.clockGone (s : State) (dom : Nat) : State :=
  (((s.pwrMod fun p => { p with lost := putBit p.lost (dom - 328) true }).putb fPWR_CLKSTAT_OK 0 (dom - 328) false).putb fPWR_CLKLOSS_LOST 0
    (dom - 328) true).level (clockSource dom) true

/-- What a lost clock takes with it: fabric time's reference, or the ports of its tile. -/
def State.clockTakes (t s : State) (dom : Nat) : State :=
  if dom = 329 then (t.pwrMod fun p => { p with ref25 := false }).ftMod fun f => { f with refBad := true }
  else if 341 ≤ dom ∧ dom < 345 then t.each (((List.range 16).map fun j => 16 * (dom - 341) + j).filter s.enabled) State.linkLost
  else t

theorem exec_clockLoss (s : State) {dom : Nat} (first : 328 ≤ dom) (last : dom < 352) :
    exec (.clockLoss dom) s = .next (if ¬ s.clockChecked dom then s else (s.clockGone dom).clockTakes s dom) :=
  if_pos (decide_eq_true ⟨first, last⟩)

theorem exec_clockPresent (s : State) {dom : Nat} (first : 328 ≤ dom) (last : dom < 352) :
    exec (.clockPresent dom) s = .next (if ¬ s.clockChecked dom then s
      else if dom = 329 then ((s.putb fPWR_CLKSTAT_OK 0 (dom - 328) true).clockFound dom).pwrMod fun p => { p with ref25 := true }
      else (s.putb fPWR_CLKSTAT_OK 0 (dom - 328) true).clockFound dom) :=
  if_pos (decide_eq_true ⟨first, last⟩)

/-- Ports that lose their reference leave the registers of supplies and clocks. -/
theorem State.rd_clockTakes (t s : State) (dom : Nat) (f : Fld) (j : Nat) (window : windowBit f.key = 38) :
    (t.clockTakes s dom).rd f j = t.rd f j := by
  unfold State.clockTakes
  split
  · rfl
  split
  · have kept : Keeps 0x1ccf76a8127bf602 t (t.each (((List.range 16).map fun j => 16 * (dom - 341) + j).filter s.enabled) State.linkLost) :=
      State.each_keeps (.refl _ _) fun _ h _ => State.linkLost_keeps rfl h
    exact kept.rd f j (by rw [window]; decide)
  · rfl

theorem clockLoss_shows {s : State} {dom : Nat} (first : 328 ≤ dom) (last : dom < 352) (checked : s.clockChecked dom = true) :
    EndsIn (.clockLoss dom) s fun t =>
      bitOf (t.rd fPWR_CLKSTAT_OK 0) (dom - 328) = false ∧ bitOf (t.rd fPWR_CLKLOSS_LOST 0) (dom - 328) = true := by
  have bit : dom - 328 < 24 := by omega
  refine ⟨_, (exec_clockLoss s first last).trans (congrArg _ (if_neg (by simp [checked]))), ?_, ?_⟩
  · rw [State.rd_clockTakes _ _ _ _ _ rfl, State.clockGone, State.level_rd, State.rd_putb_key _ _ _ _ _ _ _ (by decide),
      State.bitOf_rd_putb _ _ _ _ _ bit, if_pos rfl]
  · rw [State.rd_clockTakes _ _ _ _ _ rfl, State.clockGone, State.level_rd, State.bitOf_rd_putb _ _ _ _ _ bit, if_pos rfl]

theorem clockPresent_shows {s : State} {dom : Nat} (first : 328 ≤ dom) (last : dom < 352) (checked : s.clockChecked dom = true) :
    EndsIn (.clockPresent dom) s fun t => bitOf (t.rd fPWR_CLKSTAT_OK 0) (dom - 328) = true := by
  have found (t : State) : (t.clockFound dom).rd fPWR_CLKSTAT_OK 0 = t.rd fPWR_CLKSTAT_OK 0 :=
    (State.clockFound_keeps (Within.self _) (.refl _ t)).rd _ _ (by decide)
  have shown : bitOf (((s.putb fPWR_CLKSTAT_OK 0 (dom - 328) true).clockFound dom).rd fPWR_CLKSTAT_OK 0) (dom - 328) = true := by
    rw [found, State.bitOf_rd_putb _ _ _ _ _ (show dom - 328 < 24 by omega), if_pos rfl]
  refine ⟨_, (exec_clockPresent s first last).trans (congrArg _ (if_neg (by simp [checked]))), ?_⟩
  split <;> exact shown

/-- Settles O16: LEVEL and the bits of a clock are set for one rail or clock, and what follows from them leaves those registers. -/
theorem railsAndClocks : Obligations.RailsAndClocks := by
  unfold Obligations.RailsAndClocks
  refine ⟨fun _ _ => railWarning_shows, fun s rail hr => ?back, fun s _ => railFault_shows s, fun s rail hr fault => ?warning,
    fun _ _ => clockLoss_shows, fun s checked => ?reference, fun _ _ => clockPresent_shows, fun s dom first last unchecked => ?unchecked⟩
  case back =>
    exact ⟨_, if_pos (decide_eq_true hr), (State.railLevel_railSources ..).trans (State.railLevel_setRail _ hr (by decide))⟩
  case warning =>
    have back : exec (.railFault rail false) s = .next (s.setRail rail 1).railSources :=
      (if_pos (decide_eq_true hr)).trans (congrArg (fun t : State => Host.Outcome.next t.railSources) (if_pos fault))
    exact ⟨_, back, (State.railLevel_railSources ..).trans (State.railLevel_setRail _ hr (by decide))⟩
  case reference =>
    exact ⟨_, (exec_clockLoss s (by decide) (by decide)).trans (congrArg _ (if_neg (by simp [checked]))), rfl, rfl⟩
  case unchecked =>
    have skipped : ¬ s.clockChecked dom = true := by simp [unchecked]
    exact ⟨(exec_clockLoss s first last).trans (congrArg _ (if_pos skipped)),
      (exec_clockPresent s first last).trans (congrArg _ (if_pos skipped))⟩

end Sys2Proof.Machine
end

section
/-! PROOFS. Switchable domains: what a wish makes of a domain, and what the ends of its changes leave. -/
namespace Sys2Proof.Machine

/-! ### The wish for a domain (R65, R66) -/

theorem State.domKick_down {s : State} {n : Nat} (free : s.rdb fPWR_DOMCTL_BUSY n = false) (unwanted : s.domWanted n = false)
    (open_ : s.rd fACQ_DOMSTAT_STATE n = 0) : s.domKick n = s.domDown n := by
  simp [State.domKick, free, unwanted, open_]

theorem State.domKick_on {s : State} {n : Nat} (wanted : s.domWanted n = true) (powered : s.rd fACQ_DOMSTAT_STATE n ≠ 2) :
    s.domKick n = s := by
  simp [State.domKick, wanted, powered]

theorem State.domKick_off {s : State} {n : Nat} (unwanted : s.domWanted n = false) (closed : s.rd fACQ_DOMSTAT_STATE n ≠ 0) :
    s.domKick n = s := by
  simp [State.domKick, unwanted, closed]

/-- The registers that say what the configuration uses. -/
def usedFields : List Fld := [fPRT_PORTCFG_ENABLE, fPRT_PORTCFG_WIDTH, fLEAT_CTL_ENABLE, fRUN_ENABLE_EN]

theorem State.domUsed_congr {s t : State} (h : ∀ f ∈ usedFields, ∀ i, t.rd f i = s.rd f i) (n : Nat) : t.domUsed n = s.domUsed n := by
  simp only [usedFields, List.forall_mem_cons] at h
  obtain ⟨enabled, width, links, engines, -⟩ := h
  simp only [State.domUsed, State.covers, State.rdb, enabled, width, links, engines]

theorem State.domWanted_congr {s t : State} (h : ∀ f ∈ usedFields, ∀ i, t.rd f i = s.rd f i) (pwr : t.pwr = s.pwr) (n : Nat) :
    t.domWanted n = s.domWanted n := by
  unfold State.domWanted
  rw [State.domUsed_congr h, pwr]

/-- Parts of the lanes: their state and their registers. -/
def laneParts : Nat := 0x40000001000

/-- The domain's own registers, the lanes and the state of a link are none of what the configuration uses. -/
theorem usedFields_apart : ∀ f ∈ usedFields, fPWR_DOMCTL_PWRD.key ≠ f.key ∧ fPWR_DOMCTL_BUSY.key ≠ f.key ∧ fACQ_DOMSTAT_STATE.key ≠ f.key
    ∧ laneParts.testBit (windowBit f.key) = false ∧ fLEAT_STAT_STATE.key ≠ f.key := by decide

/-! ### What follows a change of a domain (R65, R103, R105) -/

/-- A link that trains reads as before but in its state and its lanes. -/
theorem State.rd_linkTry (s : State) (k : Nat) (f : Fld) (j : Nat) (lanes : laneParts.testBit (windowBit f.key) = false)
    (state : fLEAT_STAT_STATE.key ≠ f.key) : (s.linkTry k).rd f j = s.rd f j := by
  unfold State.linkTry State.enterTraining
  dsimp only
  split
  · rw [State.rd_wr_key _ _ _ _ _ _ state]
    generalize hu : s.lkMod k _ = u
    have kept : Keeps laneParts u (u.each (linkLanes k) fun t l => t.laneStart l (s.rd fLEAT_CTL_RATE k)) :=
      State.each_keeps (.refl _ _) fun _ h _ => State.laneStart_keeps rfl h
    rw [kept.rd f j lanes, ← hu, State.lkMod_rd]
  · rfl

/-- Domain `n` is open, and powered. -/
def State.domOpened (s : State) (n : Nat) : State :=
  ((s.wr fACQ_DOMSTAT_STATE n 0).wrb fPWR_DOMCTL_PWRD n true).wrb fPWR_DOMCTL_BUSY n false

/-- What an open domain starts: port lanes belong to their LTSSM, a link trains. -/
def State.domStarts (s : State) (n : Nat) : State :=
  if n < 72 then s.each ((List.range 4).map fun i => 4 * (n - 8) + i) fun s l => s.wr fSER_LSTAT_STAGE l 9
  else if n < 80 then s.linkTry (n - 72) else s

/-- Lanes handed to their LTSSM. -/
theorem State.lanesServed_keeps (s : State) (ls : List Nat) : Keeps laneParts s (s.each ls fun s l => s.wr fSER_LSTAT_STAGE l 9) :=
  State.each_keeps (.refl _ s) fun _ h _ => State.wr_keeps (f := fSER_LSTAT_STAGE) h rfl

theorem State.domStarts_pwr (s : State) (n : Nat) : (s.domStarts n).pwr = s.pwr := by
  unfold State.domStarts
  split
  · exact (s.lanesServed_keeps _).pwr rfl
  split
  · exact (State.linkTry_keeps (Within.self _) (.refl _ s)).pwr rfl
  · rfl

theorem State.rd_domStarts (s : State) (n : Nat) (f : Fld) (j : Nat) (lanes : laneParts.testBit (windowBit f.key) = false)
    (state : fLEAT_STAT_STATE.key ≠ f.key) : (s.domStarts n).rd f j = s.rd f j := by
  unfold State.domStarts
  split
  · exact (s.lanesServed_keeps _).rd f j lanes
  split
  · exact s.rd_linkTry _ f j lanes state
  · rfl

/-- The switches of domain `n` are open. -/
def State.domShut (s : State) (n : Nat) : State := (s.wrb fPWR_DOMCTL_PWRD n false).wrb fPWR_DOMCTL_BUSY n false

/-- The lanes of domain `n` lose their power. -/
def State.domStops (s : State) (n : Nat) : State :=
  if n < 72 then s.each ((List.range 4).map fun i => 4 * (n - 8) + i) State.lanePowerOff
  else if n < 80 then s.each (linkLanes (n - 72)) State.lanePowerOff else s

theorem State.domStops_keeps (s : State) (n : Nat) : Keeps laneParts s (s.domStops n) := by
  unfold State.domStops
  split
  · exact State.each_keeps (.refl _ s) fun _ h _ => State.lanePowerOff_keeps rfl h
  split
  · exact State.each_keeps (.refl _ s) fun _ h _ => State.lanePowerOff_keeps rfl h
  · exact .refl _ s

theorem exec_domainPowerUpDone (s : State) {n : Nat} (hn : isDomain n = true) :
    exec (.domainPowerUpDone n) s =
      .next (if s.rd fACQ_DOMSTAT_STATE n = 3 then ((s.domOpened n).domStarts n).domKick n else s) := if_pos hn

theorem exec_headerSwitchOpen (s : State) {n : Nat} (hn : isDomain n = true) :
    exec (.headerSwitchOpen n) s =
      .next (if s.rd fACQ_DOMSTAT_STATE n = 2 ∧ s.rdb fPWR_DOMCTL_BUSY n then ((s.domShut n).domStops n).domKick n else s) := if_pos hn

theorem domainPowerUpDone_opens {s : State} {n : Nat} (hn : isDomain n = true) (waking : s.rd fACQ_DOMSTAT_STATE n = 3)
    (wanted : s.domWanted n = true) :
    EndsIn (.domainPowerUpDone n) s fun t =>
      t.rd fACQ_DOMSTAT_STATE n = 0 ∧ t.rd fPWR_DOMCTL_PWRD n = 1 ∧ t.rd fPWR_DOMCTL_BUSY n = 0 := by
  have state : ((s.domOpened n).domStarts n).rd fACQ_DOMSTAT_STATE n = 0 := by
    rw [State.rd_domStarts _ _ _ _ (by decide) (by decide), State.domOpened, State.rd_wrb_key _ _ _ _ _ _ (by decide),
      State.rd_wrb_key _ _ _ _ _ _ (by decide), State.rd_wr_same]
    rfl
  have same : ∀ f ∈ usedFields, ∀ i, ((s.domOpened n).domStarts n).rd f i = s.rd f i := fun f hf i => by
    obtain ⟨pwrd, busy, state, lanes, link⟩ := usedFields_apart f hf
    rw [State.rd_domStarts _ _ _ _ lanes link, State.domOpened, State.rd_wrb_key _ _ _ _ _ _ busy, State.rd_wrb_key _ _ _ _ _ _ pwrd,
      State.rd_wr_key _ _ _ _ _ _ state]
  have still : ((s.domOpened n).domStarts n).domWanted n = true :=
    (State.domWanted_congr same (State.domStarts_pwr _ _) n).trans wanted
  refine ⟨_, (exec_domainPowerUpDone s hn).trans (congrArg _ (if_pos waking)), ?_⟩
  rw [State.domKick_on still (by rw [state]; decide)]
  refine ⟨state, ?_, ?_⟩
  · rw [State.rd_domStarts _ _ _ _ (by decide) (by decide), State.domOpened, State.rd_wrb_key _ _ _ _ _ _ (by decide)]
    exact State.rd_wr_same ..
  · rw [State.rd_domStarts _ _ _ _ (by decide) (by decide)]
    exact State.rd_wr_same ..

theorem headerSwitchOpen_shuts {s : State} {n : Nat} (hn : isDomain n = true) (isolated : s.rd fACQ_DOMSTAT_STATE n = 2)
    (busy : s.rdb fPWR_DOMCTL_BUSY n = true) (unwanted : s.domWanted n = false) :
    EndsIn (.headerSwitchOpen n) s fun t =>
      t.rd fACQ_DOMSTAT_STATE n = 2 ∧ t.rd fPWR_DOMCTL_PWRD n = 0 ∧ t.rd fPWR_DOMCTL_BUSY n = 0 := by
  have kept := (s.domShut n).domStops_keeps n
  have state : ((s.domShut n).domStops n).rd fACQ_DOMSTAT_STATE n = 2 := by
    rw [kept.rd _ _ (by decide), State.domShut, State.rd_wrb_key _ _ _ _ _ _ (by decide), State.rd_wrb_key _ _ _ _ _ _ (by decide), isolated]
  have same : ∀ f ∈ usedFields, ∀ i, ((s.domShut n).domStops n).rd f i = s.rd f i := fun f hf i => by
    obtain ⟨pwrd, busy, -, lanes, -⟩ := usedFields_apart f hf
    rw [kept.rd _ _ lanes, State.domShut, State.rd_wrb_key _ _ _ _ _ _ busy, State.rd_wrb_key _ _ _ _ _ _ pwrd]
  have still : ((s.domShut n).domStops n).domWanted n = false := (State.domWanted_congr same (kept.pwr (by decide)) n).trans unwanted
  refine ⟨_, (exec_headerSwitchOpen s hn).trans (congrArg _ (if_pos ⟨isolated, busy⟩)), ?_⟩
  rw [State.domKick_off still (by rw [state]; decide)]
  refine ⟨state, ?_, ?_⟩
  · rw [kept.rd _ _ (by decide), State.domShut, State.rd_wrb_key _ _ _ _ _ _ (by decide)]
    exact State.rd_wr_same ..
  · rw [kept.rd _ _ (by decide)]
    exact State.rd_wr_same ..

/-! ### PWR_DOMCTL (R65) -/

/-- Clearing ABORT is all that the word's W1C fields do. -/
theorem State.rd_w1c_domctl (s : State) (n val : Nat) (f : Fld) (j : Nat) (h : fPWR_DOMCTL_ABORT.key ≠ f.key) :
    (s.w1c (fieldsAt fPWR_DOMCTL_ON.addr) n val 0).rd f j = s.rd f j := by
  have only : ∀ g ∈ fieldsAt fPWR_DOMCTL_ON.addr, g.acc = .w1c → g.key = fPWR_DOMCTL_ABORT.key := by decide
  exact State.rd_w1c_other _ _ _ _ _ _ fun g hg clears e => h ((only g hg clears).symm.trans e)

/-- The write's ON taken, with the domain forced off where it is 0. -/
def State.domForced (s : State) (n val : Nat) : State :=
  ((s.w1c (fieldsAt fPWR_DOMCTL_ON.addr) n val 0).wrb fPWR_DOMCTL_ON n (bitOf val 0)).pwrMod fun p =>
    { p with forced := putBit p.forced n (!bitOf val 0) }

theorem exec_pwrDomctlWrite {s : State} {n val : Nat} (hn : n < 84) (hval : val < 2 ^ 32)
    (taken : s.discards (fieldsAt fPWR_DOMCTL_ON.addr) n val = false) :
    exec (.pwrDomctlWrite n val) s = .next (if n < 8 ∨ (bitOf val 0 ∧ ¬ s.domUsed n) then s.w1c (fieldsAt fPWR_DOMCTL_ON.addr) n val 0
      else (s.domForced n val).domKick n) :=
  (if_pos (decide_eq_true ⟨hn, hval⟩)).trans (congrArg _ (if_neg (by simp [taken])))

theorem pwrDomctlWrite_forces {s : State} {n val : Nat} (hn : isDomain n = true) (hval : val < 2 ^ 32)
    (taken : s.discards (fieldsAt fPWR_DOMCTL_ON.addr) n val = false) (free : s.rdb fPWR_DOMCTL_BUSY n = false)
    (open_ : s.rd fACQ_DOMSTAT_STATE n = 0) (off : bitOf val 0 = false) :
    EndsIn (.pwrDomctlWrite n val) s fun t =>
      t.rd fPWR_DOMCTL_ON n = 0 ∧ t.rd fPWR_DOMCTL_BUSY n = 1 ∧ t.rd fACQ_DOMSTAT_STATE n = 1 := by
  obtain ⟨first, last⟩ := of_decide_eq_true hn
  have reads (f : Fld) (on : fPWR_DOMCTL_ON.key ≠ f.key) (abort : fPWR_DOMCTL_ABORT.key ≠ f.key) : (s.domForced n val).rd f n = s.rd f n :=
    (State.rd_wrb_key _ _ _ _ _ _ on).trans (State.rd_w1c_domctl _ _ _ _ _ abort)
  have unwanted : (s.domForced n val).domWanted n = false := by
    have forced : bitOf (s.domForced n val).pwr.forced n = true := by
      refine (congrArg (bitOf · n) (show (s.domForced n val).pwr.forced = putBit _ n (!bitOf val 0) from rfl)).trans ?_
      rw [bitOf_putBit, if_pos rfl, off]
      rfl
    simp [State.domWanted, forced]
  have stays : (s.domForced n val).rdb fPWR_DOMCTL_BUSY n = false := by
    unfold State.rdb at free ⊢
    rw [reads _ (by decide) (by decide), free]
  have drains := State.domKick_down stays unwanted ((reads _ (by decide) (by decide)).trans open_)
  refine ⟨_, (exec_pwrDomctlWrite last hval taken).trans (congrArg _ (if_neg (by simp [off]; omega))), ?_⟩
  rw [drains]
  unfold State.domDown
  refine ⟨?_, ?_, State.rd_wr_same ..⟩
  · rw [State.rd_wr_key _ _ _ _ _ _ (by decide), State.rd_wrb_key _ _ _ _ _ _ (by decide)]
    refine (State.rd_wr_same ..).trans ?_
    rw [off]
    rfl
  · rw [State.rd_wr_key _ _ _ _ _ _ (by decide)]
    exact State.rd_wr_same ..

/-- Settles O17: a write and the ends of the two changes, with the wish for the domain as they leave it. -/
theorem switchableDomains : Obligations.SwitchableDomains := by
  unfold Obligations.SwitchableDomains
  refine ⟨fun s n val hn hval taken _ => pwrDomctlWrite_forces hn hval taken, fun _ _ => domainPowerUpDone_opens,
    fun s n hn other => ?notWaking, fun _ _ => headerSwitchOpen_shuts, fun s n val hn hval taken => ?never⟩
  case notWaking => exact (exec_domainPowerUpDone s hn).trans (congrArg _ (if_neg other))
  case never =>
    exact ⟨_, (exec_pwrDomctlWrite (hn.trans (by decide)) hval taken).trans (congrArg _ (if_pos (.inl hn))),
      State.rd_w1c_domctl _ _ _ _ _ (by decide), State.rd_w1c_domctl _ _ _ _ _ (by decide),
      fun _ => State.rd_w1c_domctl _ _ _ _ _ (by decide)⟩

end Sys2Proof.Machine
end

section
/-! PROOFS. PERST_N, configuration requests and their limit. -/
namespace Sys2Proof.Machine

/-! ### PERST_N (R71, R73) -/

theorem exec_perstInAssert (s : State) {p : Nat} (hp : isPort p = true) :
    exec (.perstInAssert p) s = .next (if s.underReset p then s.pwrMod fun q => { q with perst := putBit q.perst p false }
      else (s.pwrMod fun q => { q with perst := putBit q.perst p false }).perstSample p) := if_pos hp

theorem exec_perstInRelease (s : State) {p : Nat} (hp : isPort p = true) :
    exec (.perstInRelease p) s = .next (if s.underReset p then s.pwrMod fun q => { q with perst := putBit q.perst p true }
      else (s.pwrMod fun q => { q with perst := putBit q.perst p true }).perstSample p) := if_pos hp

/-- A port that is reset leaves the registers of supplies. -/
theorem State.bit_portReset (s : State) (p st : Nat) (planned : Bool) (f : Fld) (n : Nat) (window : windowBit f.key = 38) :
    (s.portReset p st planned).bit f n = s.bit f n := by
  unfold State.bit
  rw [(State.portReset_keeps (Within.self _) (.refl _ s)).rd f _ (by rw [window]; decide)]

theorem State.portReset_pwr (s : State) (p st : Nat) (planned : Bool) : (s.portReset p st planned).pwr = s.pwr :=
  (State.portReset_keeps (Within.self _) (.refl _ s)).pwr (by decide)

/-- A sample shows the input as it stands, also where its fall resets the port. -/
theorem State.perstSample_shows (s : State) (p : Nat) :
    (s.perstSample p).bit fPWR_PERSTIN_LEVEL p = bitOf s.pwr.perst p ∧ (s.perstSample p).pwr.perst = s.pwr.perst := by
  have shown : (s.setBit fPWR_PERSTIN_LEVEL p (bitOf s.pwr.perst p)).bit fPWR_PERSTIN_LEVEL p = bitOf s.pwr.perst p :=
    (State.bit_setBit _ _ _ _ _ rfl).trans (if_pos rfl)
  unfold State.perstSample
  dsimp only
  split
  · rw [State.bit_portReset _ _ _ _ _ _ rfl, State.portReset_pwr]
    exact ⟨shown, rfl⟩
  · exact ⟨shown, rfl⟩

theorem exec_perstOutRelease (s : State) {p : Nat} (hp : isPort p = true) :
    exec (.perstOutRelease p) s = .next (if s.perstMay p then s.setBit fPWR_PERSTOUT_RELEASED p true else s) := if_pos hp

/-- Where PERST_OUT_N may be released, the port is a downstream port and its tile is in no reset. -/
theorem State.perstMay_frees {s : State} {p : Nat} (may : s.perstMay p = true) :
    s.downstream p = true ∧ s.pinsReset (tileOfPort p) = false := by
  simp only [State.perstMay, State.underReset, Bool.and_eq_true, Bool.not_eq_true', Bool.or_eq_false_iff] at may
  obtain ⟨⟨⟨⟨⟨⟨enabled, down⟩, -⟩, -⟩, -⟩, ⟨-, warm⟩, tile⟩, -⟩ := may
  simp [State.downstream, State.pinsReset, enabled, down, warm, tile]

theorem perstOutRelease_shows {s : State} {p : Nat} (hp : isPort p = true) (may : s.perstMay p = true) :
    EndsIn (.perstOutRelease p) s fun t => t.bit fPWR_PERSTOUT_RELEASED p = true
      ∧ (s.pwr.aux = true → s.pinsCold = false → s.tap.drive = .device → t.perstPin p = .high) := by
  obtain ⟨down, free⟩ := State.perstMay_frees may
  have shown : (s.setBit fPWR_PERSTOUT_RELEASED p true).bit fPWR_PERSTOUT_RELEASED p = true :=
    (State.bit_setBit _ _ _ _ _ rfl).trans (if_pos rfl)
  refine ⟨_, (exec_perstOutRelease s hp).trans (congrArg _ (if_pos may)), shown, fun aux cold device => ?_⟩
  have cold' : (s.setBit fPWR_PERSTOUT_RELEASED p true).pinsCold = false := by
    unfold State.pinsCold State.rdb at cold ⊢
    rw [State.rd_setBit_key _ _ _ _ _ _ (by decide)]
    exact cold
  have down' : (s.setBit fPWR_PERSTOUT_RELEASED p true).downstream p = true := by
    unfold State.downstream State.enabled State.rdb at down ⊢
    rw [State.rd_setBit_key _ _ _ _ _ _ (by decide), State.rd_setBit_key _ _ _ _ _ _ (by decide)]
    exact down
  have free' : (s.setBit fPWR_PERSTOUT_RELEASED p true).pinsReset (tileOfPort p) = false := free
  unfold State.perstPin
  rw [State.pin_of_device (by exact aux) (by exact device)]
  simp [cold', down', free', shown]

/-! ### Configuration requests (R74, R129) -/

theorem exec_configRequest (s : State) {p : Nat} {r : CfgReq} (hp : isPort p = true) (hm : r.m.src = p) :
    exec (.configRequest p r) s = .next
      (if ¬ s.bit fPWR_PORTRDY_READY p ∧ ¬ bitOf s.pwr.late p then s.reply r.m .crs false else s.cfgServe p r) :=
  if_pos (by simp [hp, hm])

theorem configRequest_serves {s : State} {p : Nat} {r : CfgReq} (hp : isPort p = true) (hm : r.m.src = p)
    (answers : s.bit fPWR_PORTRDY_READY p = true ∨ bitOf s.pwr.late p = true) :
    exec (.configRequest p r) s = .next (s.cfgServe p r) := by
  refine (exec_configRequest s hp hm).trans (congrArg _ (if_neg fun wait => ?_))
  exact answers.elim wait.1 wait.2

theorem State.cfgServe_absent {s : State} {p : Nat} {r : CfgReq} (absent : s.cfgPresent p r.fn = false) :
    s.cfgServe p r = s.reply r.m .ur false := if_pos (by simp [absent])

theorem State.cfgServe_write {s : State} {p : Nat} (m : Msg) {fn : CfgFn} (f : CfgField) (v : Nat) (there : s.cfgPresent p fn = true) :
    s.cfgServe p ⟨m, fn, f, some v⟩ = (s.cfgWrite p fn f v).reply m .sc false := if_neg (by simp [there])

/-- A field that the spec gives is answered with its value, but for the DVSEC, which reads its registers. -/
theorem State.cfgServe_read {s : State} {p : Nat} (m : Msg) {fn : CfgFn} {f : CfgField} {v : Nat} (there : s.cfgPresent p fn = true)
    (value : s.cfgRead p fn f = some v) (field : ∀ o, f ≠ .dvsec o) :
    s.cfgServe p ⟨m, fn, f, none⟩ = s.send (.reply m.src { m.answer .sc false with data := v }) := by
  unfold State.cfgServe
  rw [if_neg (by simp [there])]
  dsimp only
  split
  next o => exact absurd rfl (field o)
  next => rw [value]; rfl

/-! ### The limit of a port that does not get ready (R74) -/

theorem exec_crsLate (s : State) {p : Nat} (hp : isPort p = true) :
    exec (.crsLate p) s = .next
      (if ¬ s.enabled p ∨ s.bit fPWR_PORTRDY_READY p ∨ bitOf s.pwr.late p ∨ s.underReset p ∨ (s.upstream p ∧ ¬ s.bit fPWR_PERSTIN_LEVEL p)
        then s
      else ((s.pwrMod fun q => { q with late := putBit q.late p true }).setBit fPWR_CRSLATE_LATE p true).pulse 0x188) := if_pos hp

theorem crsLate_shows {s : State} {p : Nat} (hp : isPort p = true) (enabled : s.enabled p = true)
    (unready : s.bit fPWR_PORTRDY_READY p = false) (first : bitOf s.pwr.late p = false) (free : s.underReset p = false)
    (released : s.upstream p = true → s.bit fPWR_PERSTIN_LEVEL p = true) :
    EndsIn (.crsLate p) s fun t => t.bit fPWR_CRSLATE_LATE p = true ∧ bitOf t.pwr.late p = true ∧ t.spw = (s.pulse 0x188).spw := by
  refine ⟨_, (exec_crsLate s hp).trans (congrArg _ (if_neg ?_)), ?_, ?_, rfl⟩
  · simp only [enabled, unready, first, free, not_true, Bool.false_eq_true, false_or, not_and, not_not]
    exact released
  · rw [State.bit_congr (State.pulse_regs _ _), State.bit_setBit _ _ _ _ _ rfl, if_pos rfl]
  · exact (bitOf_putBit ..).trans (if_pos rfl)

/-- Settles O18: samples of PERST_N, releases of PERST_OUT_N, and the answers before and after the limit. -/
theorem perstAndReadiness : Obligations.PerstAndReadiness := by
  unfold Obligations.PerstAndReadiness
  refine ⟨fun s p hp held => ?held, fun s p hp free => ?release, fun s p hp free => ?assert, fun _ _ => perstOutRelease_shows,
    fun s p hp may => ?holds, fun s p m fn f wr hp hm unready early => ?retry, fun s p m fn f wr hp hm answers absent => ?absent,
    fun s p m fn f v hp hm answers there value field => ?read, fun s p m fn f v hp hm answers there => ?write, fun _ _ => crsLate_shows,
    fun s p hp done => ?done⟩
  case held =>
    exact ⟨(exec_perstInAssert s hp).trans (congrArg _ (if_pos held)), (exec_perstInRelease s hp).trans (congrArg _ (if_pos held))⟩
  case release =>
    refine ⟨_, (exec_perstInRelease s hp).trans (congrArg _ (if_neg (by simp [free]))), (State.perstSample_shows _ p).1.trans ?_⟩
    exact (bitOf_putBit ..).trans (if_pos rfl)
  case assert =>
    have low : bitOf (putBit s.pwr.perst p false) p = false := (bitOf_putBit ..).trans (if_pos rfl)
    obtain ⟨level, input⟩ := (s.pwrMod fun q => { q with perst := putBit q.perst p false }).perstSample_shows p
    refine ⟨_, (exec_perstInAssert s hp).trans (congrArg _ (if_neg (by simp [free]))), level.trans low, ?_⟩
    rw [input]
    exact low
  case holds => exact (exec_perstOutRelease s hp).trans (congrArg _ (if_neg (by simp [may])))
  case retry => exact (exec_configRequest s hp hm).trans (congrArg _ (if_pos (by simp [unready, early])))
  case absent => exact (configRequest_serves hp hm answers).trans (congrArg _ (State.cfgServe_absent absent))
  case read => exact (configRequest_serves hp hm answers).trans (congrArg _ (State.cfgServe_read m there value field))
  case write => exact (configRequest_serves hp hm answers).trans (congrArg _ (State.cfgServe_write m f v there))
  case done =>
    refine (exec_crsLate s hp).trans (congrArg _ (if_pos ?_))
    obtain ready | late | off := done
    · exact .inr (.inl ready)
    · exact .inr (.inr (.inl late))
    · exact .inl (by simp [off])

end Sys2Proof.Machine
end

section
/-! PROOFS. Feeds of the slots: what choosing a feed changes, a feed that turns, and the settings of a slot. -/
namespace Sys2Proof.Machine

/-! ### Choosing a feed (R417) -/

/-- What choosing a feed does, beside NOFEED: nothing, a feed driven on at once, or one broken off before the other is made. -/
theorem State.chooseFeed_cases (s : State) (j : Nat) :
    s.chooseFeed j = s.fedNow j ∨ (∃ f, s.chooseFeed j = (s.fedNow j).wr fSLU_STAT_FEED j f)
    ∨ ∃ f, s.chooseFeed j = (s.fedNow j).feedBreak j f := by
  unfold State.chooseFeed
  dsimp only
  split
  · exact .inl rfl
  split
  · split
    · exact .inr (.inl ⟨_, rfl⟩)
    split
    · exact .inr (.inl ⟨_, rfl⟩)
    · exact .inl rfl
  split
  · exact .inr (.inr ⟨_, rfl⟩)
  · exact .inl rfl

/-- State `t` is `u` but for slots that have chosen their feeds. -/
structure FeedsChosen (u t : State) : Prop where
  rd : ∀ (g : Fld) (i : Nat), fSLU_STAT_NOFEED.key ≠ g.key → fSLU_STAT_FEED.key ≠ g.key → fSLU_ERR_SWITCHES.key ≠ g.key → t.rd g i = u.rd g i
  spw : t.spw = u.spw
  want : ∀ i, (t.slot i).wantFeed = (u.slot i).wantFeed

theorem FeedsChosen.refl (s : State) : FeedsChosen s s := ⟨fun _ _ _ _ _ => rfl, rfl, fun _ => rfl⟩

theorem FeedsChosen.trans {s t u : State} (h : FeedsChosen s t) (h' : FeedsChosen t u) : FeedsChosen s u :=
  ⟨fun g i no feed sw => (h'.rd g i no feed sw).trans (h.rd g i no feed sw), h'.spw.trans h.spw, fun i => (h'.want i).trans (h.want i)⟩

theorem State.slot_slotMod (s : State) (j : Nat) (f : Slot → Slot) (i : Nat) : (s.slotMod j f).slot i = if j = i then f (s.slot j) else s.slot i :=
  SMap.get_mod ..

theorem State.slot_congr {s t : State} (h : t.slots = s.slots) (j : Nat) : t.slot j = s.slot j := congrArg (SMap.get ({} : Slot) · j) h

theorem State.chooseFeed_chosen (s : State) (j : Nat) : FeedsChosen s (s.chooseFeed j) := by
  have now : FeedsChosen s (s.fedNow j) := ⟨fun _ _ no _ _ => State.rd_wrb_key _ _ _ _ _ _ no, rfl, fun _ => rfl⟩
  rcases s.chooseFeed_cases j with same | ⟨f, made⟩ | ⟨f, broken⟩
  · rw [same]
    exact now
  · rw [made]
    exact now.trans ⟨fun _ _ _ feed _ => State.rd_wr_key _ _ _ _ _ _ feed, rfl, fun _ => rfl⟩
  · rw [broken]
    refine now.trans ⟨fun g i _ feed sw => ?_, rfl, fun i => ?_⟩
    · rw [State.feedBreak, State.slotMod_rd, State.rd_inc_key _ _ _ _ _ _ sw, State.rd_wr_key _ _ _ _ _ _ feed]
    · have kept (k : Nat) := State.slot_congr (s := s.fedNow j) (t := ((s.fedNow j).wr fSLU_STAT_FEED j 0).inc fSLU_ERR_SWITCHES j) rfl k
      rw [State.feedBreak, State.slot_slotMod, kept, kept]
      split
      · next h => rw [h]
      · rfl

theorem State.feedOk_congr {s t : State} {j : Nat} (feeds : t.rd fSLU_CFG_FEEDS j = s.rd fSLU_CFG_FEEDS j)
    (a : t.rd fSLU_FEED_AGOOD (j / 8) = s.rd fSLU_FEED_AGOOD (j / 8)) (b : t.rd fSLU_FEED_BGOOD (j / 8) = s.rd fSLU_FEED_BGOOD (j / 8)) (f : Nat) :
    t.feedOk j f = s.feedOk j f := by
  unfold State.feedOk State.rdb
  rw [feeds, a, b]

/-- A slot whose feed may be used keeps it. -/
theorem State.chooseFeed_keeps_good {s : State} {j : Nat} (on : s.rd fSLU_STAT_FEED j ≠ 0) (good : s.feedOk j (s.rd fSLU_STAT_FEED j) = true) :
    s.chooseFeed j = s.fedNow j := by
  have still : (s.fedNow j).feedOk j (s.rd fSLU_STAT_FEED j) = true :=
    (State.feedOk_congr (State.rd_wrb_key _ _ _ _ _ _ (by decide)) (State.rd_wrb_key _ _ _ _ _ _ (by decide))
      (State.rd_wrb_key _ _ _ _ _ _ (by decide)) _).trans good
  unfold State.chooseFeed
  simp only [on, still, if_false, Bool.not_true, Bool.false_and, Bool.false_eq_true, ite_self]

/-! ### A feed that turns (R416, R417) -/

/-- The voltage and the state of feed A or B. -/
def feedVolt (feedB : Bool) : Fld := if feedB then fSLU_FEED_VB else fSLU_FEED_VA
def feedFlag (feedB : Bool) : Fld := if feedB then fSLU_FEED_BGOOD else fSLU_FEED_AGOOD

theorem feedVolt_apart (feedB : Bool) : (feedVolt feedB).width = 16 ∧ (feedVolt feedB).key ≠ fSLU_FEED_UV.key
    ∧ (feedVolt feedB).key ≠ fSLU_FEED_OV.key ∧ (feedFlag feedB).key ≠ (feedVolt feedB).key
    ∧ fSLU_STAT_NOFEED.key ≠ (feedVolt feedB).key ∧ fSLU_STAT_FEED.key ≠ (feedVolt feedB).key ∧ fSLU_ERR_SWITCHES.key ≠ (feedVolt feedB).key := by
  cases feedB <;> decide

theorem feedFlag_apart (feedB : Bool) : (feedFlag feedB).width = 1
    ∧ fSLU_STAT_NOFEED.key ≠ (feedFlag feedB).key ∧ fSLU_STAT_FEED.key ≠ (feedFlag feedB).key ∧ fSLU_ERR_SWITCHES.key ≠ (feedFlag feedB).key := by
  cases feedB <;> decide

/-- A feed sampled at `mv`. -/
def State.feedSampled (s : State) (n : Nat) (feedB : Bool) (mv : Nat) : State := s.wr (feedVolt feedB) n mv

/-- The feed sampled has turned, with its source. -/
def State.feedTurned (s : State) (n : Nat) (feedB : Bool) (mv : Nat) (good : Bool) : State :=
  ((s.feedSampled n feedB mv).wrb (feedFlag feedB) n good).level ((if feedB then 0x244 else 0x240) + n) !good

/-- A slot of the tile chooses again, and takes up a power-on that waited for a feed. -/
def State.feedStep (good : Bool) (s : State) (j : Nat) : State :=
  if good && ((s.chooseFeed j).slot j).wantFeed then ((s.chooseFeed j).slotMod j fun x => { x with wantFeed := false }).autoOn j
  else s.chooseFeed j

theorem State.feedIn_sampled (s : State) (n : Nat) (feedB : Bool) (mv : Nat) : (s.feedSampled n feedB mv).feedIn n mv = s.feedIn n mv := by
  obtain ⟨-, uv, ov, -⟩ := feedVolt_apart feedB
  unfold State.feedIn State.feedSampled
  rw [State.rd_wr_key _ _ _ _ _ _ uv, State.rd_wr_key _ _ _ _ _ _ ov]

/-- A sample on the side of the window where the feed already is turns nothing. -/
theorem State.feedTurn_stays {s : State} {n mv : Nat} {good : Bool} (feedB : Bool) (h : s.feedIn n mv = !good) :
    s.feedTurn n feedB mv good = s.feedSampled n feedB mv := by
  refine if_pos ?_
  show ((s.feedSampled n feedB mv).feedIn n mv != good) = true
  rw [State.feedIn_sampled, h]
  cases good <;> rfl

theorem State.feedTurn_turns {s : State} {n mv : Nat} {good : Bool} (feedB : Bool) (h : s.feedIn n mv = good) :
    s.feedTurn n feedB mv good = (s.feedTurned n feedB mv good).each ((List.range 8).map (8 * n + ·)) (State.feedStep good) := by
  refine if_neg ?_
  show ¬ ((s.feedSampled n feedB mv).feedIn n mv != good) = true
  rw [State.feedIn_sampled, h]
  cases good <;> decide

/-- Where no power-on waits for a feed that turns good, the slots only choose. -/
theorem State.feedStep_chosen {s t : State} {good : Bool} (nobody : good = false ∨ ∀ i, (s.slot i).wantFeed = false) (h : FeedsChosen s t) (j : Nat) :
    FeedsChosen s (t.feedStep good j) := by
  have chosen := h.trans (t.chooseFeed_chosen j)
  have skip : ¬ (good && ((t.chooseFeed j).slot j).wantFeed) = true := by
    rw [chosen.want j]
    rcases nobody with bad | none
    · simp [bad]
    · simp [none j]
  unfold State.feedStep
  rw [if_neg skip]
  exact chosen

/-- What a feed that has turned shows. -/
theorem State.feedTurn_shows {s : State} {n mv : Nat} {good : Bool} (feedB : Bool) (h : s.feedIn n mv = good)
    (nobody : good = false ∨ ∀ i, (s.slot i).wantFeed = false) :
    (s.feedTurn n feedB mv good).rd (feedFlag feedB) n = b2n good ∧ (s.feedTurn n feedB mv good).rd (feedVolt feedB) n = mv % 2 ^ 16
    ∧ (s.feedTurn n feedB mv good).spw = (s.level ((if feedB then 0x244 else 0x240) + n) !good).spw := by
  obtain ⟨volt, -, -, apart, voltNo, voltFeed, voltSw⟩ := feedVolt_apart feedB
  obtain ⟨flag, flagNo, flagFeed, flagSw⟩ := feedFlag_apart feedB
  have still : good = false ∨ ∀ i, ((s.feedTurned n feedB mv good).slot i).wantFeed = false := nobody
  have chosen : FeedsChosen (s.feedTurned n feedB mv good)
      ((s.feedTurned n feedB mv good).each ((List.range 8).map (8 * n + ·)) (State.feedStep good)) :=
    State.each_induct (FeedsChosen (s.feedTurned n feedB mv good)) (fun _ j ht => State.feedStep_chosen still ht j) (.refl _)
  rw [State.feedTurn_turns feedB h, chosen.rd _ _ flagNo flagFeed flagSw, chosen.rd _ _ voltNo voltFeed voltSw, chosen.spw]
  refine ⟨?_, ?_, rfl⟩
  · rw [State.feedTurned, State.level_rd, State.wrb, State.rd_wr_same, flag]
    exact b2n_mod_two good
  · rw [State.feedTurned, State.level_rd, State.rd_wrb_key _ _ _ _ _ _ apart, State.feedSampled, State.rd_wr_same, volt]

end Sys2Proof.Machine
end

section
/-! PROOFS. Settings, presence and power requests of the slots. -/
namespace Sys2Proof.Machine

/-! ### Commands of a tile whose gateway is open -/

theorem State.onTile_in {s : State} {n : Nat} (within : bitOf s.pwr.culvert n = false) (u : State) : s.onTile n u = u :=
  if_neg (by simp [within])

theorem State.onTile_out {s : State} {n : Nat} (out : bitOf s.pwr.culvert n = true) (u : State) : s.onTile n u = s := if_pos out

theorem slotWord_unit {j val : Nat} (hj : isSlot j = true) (hval : val < 2 ^ 32) : (isSlot j && decide (val < 2 ^ 32)) = true := by
  rw [hj, decide_eq_true hval]
  rfl

/-- While a tile's gateway is closed, its slots take no register command. -/
theorem slotCommands_out {s : State} {j val : Nat} (low : Bool) (hj : isSlot j = true) (hval : val < 2 ^ 32) (out : bitOf s.pwr.culvert (j / 8) = true) :
    ∀ c ∈ [Instr.sluCfgWrite j val, .sluOn j val, .sluOff j val, .sluClrflt j val, .sluClriso j val low], exec c s = .next s := by
  simp only [List.forall_mem_cons, List.not_mem_nil, false_implies, implies_true, and_true]
  refine ⟨?_, ?_, ?_, ?_, ?_⟩ <;>
    exact (if_pos (slotWord_unit hj hval)).trans (congrArg Host.Outcome.next (State.onTile_out out _))

section
variable {s : State} {j val : Nat} (hj : isSlot j = true) (hval : val < 2 ^ 32) (within : bitOf s.pwr.culvert (j / 8) = false)
include hj hval within

theorem exec_sluCfgWrite : exec (.sluCfgWrite j val) s = .next (if s.discards (fieldsAt fSLU_CFG_EN.addr) j val then s
    else if s.slotState j = 0 ∨ s.slotState j = 1 ∨ s.slotState j = 6 then (s.setRW (fieldsAt fSLU_CFG_EN.addr) j val).slotCfg j
    else s.cfgErr 19) :=
  (if_pos (slotWord_unit hj hval)).trans (congrArg _ (State.onTile_in within _))

theorem exec_sluOn : exec (.sluOn j val) s = .next (if ¬ sluCmd val 1 then s else if s.slotPctl j then s.cfgErr 19 else s.powerOn j false) :=
  (if_pos (slotWord_unit hj hval)).trans (congrArg _ (State.onTile_in within _))

theorem exec_sluOff : exec (.sluOff j val) s = .next (if ¬ sluCmd val 2 then s else if s.slotPctl j then s.cfgErr 19 else s.powerOff j) :=
  (if_pos (slotWord_unit hj hval)).trans (congrArg _ (State.onTile_in within _))

theorem exec_sluClrflt : exec (.sluClrflt j val) s = .next (if sluCmd val 3 then s.faultClear j else s) :=
  (if_pos (slotWord_unit hj hval)).trans (congrArg _ (State.onTile_in within _))

theorem exec_sluClriso (low : Bool) : exec (.sluClriso j val low) s = .next (if ¬ sluCmd val 4 ∨ s.slotState j ≠ 7 then s
    else if low then ((s.setSlot j 1).level (0x220 + j) false).chooseFeed j else s.cfgErr 19) :=
  (if_pos (slotWord_unit hj hval)).trans (congrArg _ (State.onTile_in within _))

end

/-! ### Settings (R419, R432) -/

theorem slotCfg_nodup : ((fieldsAt fSLU_CFG_EN.addr).map Fld.key).Nodup := by decide

/-- SLU_CFG is no word of what a change of a slot's state writes. -/
theorem slotCfg_apart : ∀ f ∈ fieldsAt fSLU_CFG_EN.addr, fSLU_STAT_STATE.key ≠ f.key ∧ fSLU_STAT_NOFEED.key ≠ f.key ∧ fSLU_STAT_FEED.key ≠ f.key
    ∧ fSLU_ERR_SWITCHES.key ≠ f.key ∧ fSLU_STAT_WAITRAMP.key ≠ f.key := by decide

/-- SLU_CFG of slot `j` taken. -/
def State.cfgTaken (s : State) (j val : Nat) : State := s.setRW (fieldsAt fSLU_CFG_EN.addr) j val

theorem State.cfgTaken_took (s : State) (j val : Nat) : Took (fieldsAt fSLU_CFG_EN.addr) j val (s.cfgTaken j val) :=
  s.took_setRW j val slotCfg_nodup

theorem State.cfgTaken_en (s : State) (j val : Nat) : (s.cfgTaken j val).rdb fSLU_CFG_EN j = bitOf val 0 := by
  have taken : (s.cfgTaken j val).rd fSLU_CFG_EN j = bitsOf val 0 1 := s.cfgTaken_took j val fSLU_CFG_EN (by decide) rfl
  unfold State.rdb
  rw [taken]
  exact congrArg (· == 1) (Nat.mod_mod _ _)

theorem State.rd_cfgTaken (s : State) (j val : Nat) (f : Fld) (i : Nat) (h : ∀ g ∈ fieldsAt fSLU_CFG_EN.addr, g.key ≠ f.key) :
    (s.cfgTaken j val).rd f i = s.rd f i := State.rd_setRW_other _ _ _ _ _ fun g hg _ => h g hg

theorem State.slotState_cfgTaken (s : State) (j val i : Nat) : (s.cfgTaken j val).slotState i = s.slotState i :=
  State.rd_cfgTaken _ _ _ _ _ (by decide)

/-- A slot enabled in an armed device goes to OFF, and chooses its feed. -/
theorem State.slotCfg_enables {s : State} {j val : Nat} (disabled : s.slotState j = 0) (en : bitOf val 0 = true) (armed : s.rdb fSPW_CTL_ARMED 0 = true) :
    (s.cfgTaken j val).slotCfg j = ((s.cfgTaken j val).setSlot j 1).chooseFeed j := by
  have still : (s.cfgTaken j val).rdb fSPW_CTL_ARMED 0 = true := by
    unfold State.rdb at armed ⊢
    rw [State.rd_cfgTaken _ _ _ _ _ (by decide)]
    exact armed
  unfold State.slotCfg
  dsimp only
  rw [if_pos ⟨(s.cfgTaken_en j val).trans en, (s.slotState_cfgTaken ..).trans disabled⟩, if_pos still]

/-- A slot disabled from OFF or TRIPPED has both feeds off. -/
theorem State.slotCfg_disables {s : State} {j val : Nat} (off : s.slotState j = 1 ∨ s.slotState j = 6) (en : bitOf val 0 = false) :
    (s.cfgTaken j val).slotCfg j = ((((s.cfgTaken j val).setSlot j 0).feedsOff j).wrb fSLU_STAT_WAITRAMP j false).fedNow j := by
  have disabled : ¬ (s.cfgTaken j val).rdb fSLU_CFG_EN j = true := by simp [State.cfgTaken_en, en]
  have still : (s.cfgTaken j val).slotState j = 1 ∨ (s.cfgTaken j val).slotState j = 6 := by
    rw [State.slotState_cfgTaken]
    exact off
  unfold State.slotCfg
  dsimp only
  rw [if_neg fun h => disabled h.1, if_pos ⟨disabled, still⟩]

theorem FeedsChosen.slotState {s t : State} (h : FeedsChosen s t) (j : Nat) : t.slotState j = s.slotState j :=
  h.rd _ _ (by decide) (by decide) (by decide)

theorem slotCfg_enabled {s : State} {j val : Nat} (disabled : s.slotState j = 0) (en : bitOf val 0 = true)
    (armed : s.rdb fSPW_CTL_ARMED 0 = true) :
    Took (fieldsAt fSLU_CFG_EN.addr) j val ((s.cfgTaken j val).slotCfg j) ∧ ((s.cfgTaken j val).slotCfg j).slotState j = 1 := by
  have chosen := ((s.cfgTaken j val).setSlot j 1).chooseFeed_chosen j
  rw [State.slotCfg_enables disabled en armed]
  refine ⟨fun f hf rw_ => ?_, (chosen.slotState j).trans (State.slotState_setSlot _ _ (by decide))⟩
  obtain ⟨state, no, feed, sw, -⟩ := slotCfg_apart f hf
  rw [chosen.rd _ _ no feed sw, State.setSlot, State.rd_wr_key _ _ _ _ _ _ state]
  exact s.cfgTaken_took j val f hf rw_

theorem slotCfg_disabled {s : State} {j val : Nat} (off : s.slotState j = 1 ∨ s.slotState j = 6) (en : bitOf val 0 = false) :
    Took (fieldsAt fSLU_CFG_EN.addr) j val ((s.cfgTaken j val).slotCfg j) ∧ ((s.cfgTaken j val).slotCfg j).slotState j = 0
    ∧ ((s.cfgTaken j val).slotCfg j).rd fSLU_STAT_FEED j = 0 ∧ ((s.cfgTaken j val).slotCfg j).rd fSLU_STAT_WAITRAMP j = 0 := by
  rw [State.slotCfg_disables off en]
  unfold State.fedNow State.feedsOff
  refine ⟨fun f hf rw_ => ?_, ?_, ?_, ?_⟩
  · obtain ⟨state, no, feed, -, wait⟩ := slotCfg_apart f hf
    rw [State.rd_wrb_key _ _ _ _ _ _ no, State.rd_wrb_key _ _ _ _ _ _ wait, State.slotMod_rd, State.rd_wr_key _ _ _ _ _ _ feed, State.setSlot,
      State.rd_wr_key _ _ _ _ _ _ state]
    exact s.cfgTaken_took j val f hf rw_
  · rw [State.slotState_wrb _ _ _ _ _ (by decide), State.slotState_wrb _ _ _ _ _ (by decide), State.slotState, State.slotMod_rd,
      State.rd_wr_key _ _ _ _ _ _ (by decide)]
    exact State.slotState_setSlot _ _ (by decide)
  · rw [State.rd_wrb_key _ _ _ _ _ _ (by decide), State.rd_wrb_key _ _ _ _ _ _ (by decide), State.slotMod_rd, State.rd_wr_same]
    rfl
  · rw [State.rd_wrb_key _ _ _ _ _ _ (by decide)]
    exact State.rd_wr_same ..

/-! ### The change of a feed (R417) -/

theorem exec_feedMake_some {s : State} {j f : Nat} (hj : isSlot j = true) (make : (s.slot j).make = some f) :
    exec (.feedMake j) s = .next (((s.wr fSLU_STAT_FEED j f).slotMod j fun x => { x with make := none }).chooseFeed j) :=
  (if_pos hj).trans (by rw [make])

theorem exec_feedMake_none {s : State} {j : Nat} (hj : isSlot j = true) (make : (s.slot j).make = none) : exec (.feedMake j) s = .next s :=
  (if_pos hj).trans (by rw [make])

theorem exec_feedReturn (s : State) {j : Nat} (hj : isSlot j = true) :
    exec (.feedReturn j) s = .next (if s.rd fSLU_STAT_FEED j = 3 - (1 + s.rd fSLU_CFG_PRIO j) ∧ s.feedOk j (1 + s.rd fSLU_CFG_PRIO j)
      then s.feedBreak j (1 + s.rd fSLU_CFG_PRIO j) else s) := if_pos hj

/-- The new feed is driven on, and kept while it is good. -/
theorem feedMake_makes {s : State} {j f : Nat} (hj : isSlot j = true) (make : (s.slot j).make = some f) (hf : f = 1 ∨ f = 2)
    (good : s.feedOk j f = true) : EndsIn (.feedMake j) s fun t => t.rd fSLU_STAT_FEED j = f ∧ (t.slot j).make = none := by
  refine ⟨_, exec_feedMake_some hj make, ?_⟩
  generalize hu : (s.wr fSLU_STAT_FEED j f).slotMod j (fun x => { x with make := none }) = u
  have feed : u.rd fSLU_STAT_FEED j = f := by
    rw [← hu, State.slotMod_rd, State.rd_wr_same]
    rcases hf with rfl | rfl <;> rfl
  have none : (u.slot j).make = none := by
    rw [← hu, State.slot_slotMod, if_pos rfl]
  have still : u.feedOk j f = true := by
    refine (State.feedOk_congr ?_ ?_ ?_ f).trans good <;> rw [← hu, State.slotMod_rd, State.rd_wr_key _ _ _ _ _ _ (by decide)]
  rw [State.chooseFeed_keeps_good (by omega) (by rw [feed]; exact still)]
  exact ⟨(State.rd_wrb_key _ _ _ _ _ _ (by decide)).trans feed, none⟩

/-- A slot changed beside the fields set. -/
theorem Sets.slotMod {s t : State} {ws : List (Fld × Nat × Nat)} (h : Sets s t ws) (j : Nat) (f : Slot → Slot) :
    Sets (s.slotMod j f) (t.slotMod j f) ws := by
  obtain ⟨set, others, rest⟩ := h
  exact ⟨set, others, congrArg (State.slotMod · j f) rest⟩

/-- Breaking a feed off counts, and leaves none. -/
theorem State.feedBreak_sets (s : State) (j f : Nat) :
    Sets (s.slotMod j fun x => { x with make := some f }) (s.feedBreak j f)
      [(fSLU_ERR_SWITCHES, j, satAdd fSLU_ERR_SWITCHES.width (s.rd fSLU_ERR_SWITCHES j) 1), (fSLU_STAT_FEED, j, 0)] := by
  have counted : satAdd fSLU_ERR_SWITCHES.width ((s.wr fSLU_STAT_FEED j 0).rd fSLU_ERR_SWITCHES j) 1
      = satAdd fSLU_ERR_SWITCHES.width (s.rd fSLU_ERR_SWITCHES j) 1 := by
    rw [State.rd_wr_key _ _ _ _ _ _ (by decide)]
  exact ((Sets.wr_one s fSLU_STAT_FEED j rfl).wr fSLU_ERR_SWITCHES j ((Nat.mod_eq_of_lt (satAdd_lt _ _ _)).trans counted)
    (show _ ∉ [fSLU_STAT_FEED.key] by decide)).slotMod j _

/-! ### Requests (R418 to R421) -/

/-- The SLU window, seen by an operation on ports alone. -/
theorem Keeps.slu {s t : State} (h : Keeps butSluice s t) (g : Fld) (i : Nat) (window : windowBit g.key = 53) : t.rd g i = s.rd g i :=
  h.rd g i (by rw [window]; decide +kernel)

/-- A port that follows its slot's power or presence leaves the slots. -/
theorem State.atPort_powered (s : State) (j : Nat) : Keeps butSluice s (s.atPort j fun s p => s.poweredNow p) :=
  State.atPort_keeps rfl (.refl _ _) fun _ h _ => State.poweredNow_keeps rfl h

theorem State.atPort_present (s : State) (j : Nat) : Keeps 0x100000400002 s (s.atPort j fun s p => s.presenceTurn p) :=
  State.atPort_keeps rfl (.refl _ _) fun _ h _ => State.presenceTurn_keeps rfl h

theorem State.atPort_perst (s : State) (j : Nat) : Keeps butSluice s (s.atPort j fun s p => s.perstLow p false) :=
  State.atPort_keeps rfl (.refl _ _) fun _ h _ => State.perstLow_keeps rfl h

/-- A pass FET driven off: the state asked for, no power-good, and the slot's other bits as before. -/
theorem State.fetOff_shows (s : State) (j : Nat) {st : Nat} (hst : st < 2 ^ fSLU_STAT_STATE.width) :
    (s.fetOff j st).slotState j = st ∧ (s.fetOff j st).rd fSLU_STAT_PG j = 0 ∧ (s.fetOff j st).rd fSLU_STAT_PRES j = s.rd fSLU_STAT_PRES j := by
  unfold State.fetOff
  dsimp only
  have slu (u : State) (g : Fld) := (u.atPort_powered j).slu g j
  refine ⟨?_, ?_, ?_⟩
  · refine (slu _ fSLU_STAT_STATE rfl).trans ?_
    rw [State.rd_wrb_key _ _ _ _ _ _ (by decide), State.rd_wr_key _ _ _ _ _ _ (by decide), State.rd_wrb_key _ _ _ _ _ _ (by decide)]
    exact State.slotState_setSlot _ _ hst
  · exact (slu _ fSLU_STAT_PG rfl).trans (State.rd_wr_same ..)
  · rw [slu _ fSLU_STAT_PRES rfl, State.rd_wrb_key _ _ _ _ _ _ (by decide), State.rd_wr_key _ _ _ _ _ _ (by decide),
      State.rd_wrb_key _ _ _ _ _ _ (by decide), State.setSlot, State.rd_wr_key _ _ _ _ _ _ (by decide)]

/-- A power-on by AUTO of a slot whose port does not carry out Power Controller Control is one of the slot alone. -/
theorem State.powerOn_auto_ramps {s : State} {j : Nat} (off : s.slotState j = 1) (present : s.rdb fSLU_STAT_PRES j = true)
    (held : (s.slot j).held = true) (fed : s.fed j = true) (own : s.slotPctl j = false) (room : s.ramping j < s.rd fSLU_CTL_MAXRAMP 0) :
    s.powerOn j true = s.rampStart j := by
  have unloaded : (s.when_ true fun s => s.loadOn j) = s :=
    (State.when_true _ _).trans (if_neg (by simp [own]))
  unfold State.powerOn
  dsimp only
  rw [if_neg (not_not.2 ⟨off, present, held⟩), if_neg (not_not.2 fed), unloaded]
  exact if_neg (Nat.not_le.2 room)

/-- Without a place to ramp, the slot waits for one. -/
theorem State.powerOn_waits {s : State} {j : Nat} (off : s.slotState j = 1) (present : s.rdb fSLU_STAT_PRES j = true) (held : (s.slot j).held = true)
    (fed : s.fed j = true) (full : s.rd fSLU_CTL_MAXRAMP 0 ≤ s.ramping j) : s.powerOn j false = s.wrb fSLU_STAT_WAITRAMP j true := by
  unfold State.powerOn
  rw [if_neg (not_not.2 ⟨off, present, held⟩), if_neg (not_not.2 fed)]
  exact if_pos full

theorem State.rampStart_shows (s : State) (j : Nat) :
    (s.rampStart j).slotState j = 2 ∧ (s.rampStart j).rd fSLU_STAT_WAITRAMP j = 0
    ∧ (s.rampStart j).rd fSLU_STAT_SEG j = min 15 (16 * s.rd fSLU_MEAS_VOUT j / max 1 (s.rd fSLU_VNOM_VNOM j)) := by
  refine ⟨s.slotState_rampStart j, ?_, ?_⟩ <;> unfold State.rampStart <;> dsimp only <;> rw [State.slotMod_rd]
  · rw [State.rd_wr_key _ _ _ _ _ _ (by decide)]
    exact State.rd_wr_same ..
  · rw [State.rd_wr_same, State.rd_wrb_key _ _ _ _ _ _ (by decide), State.rd_wrb_key _ _ _ _ _ _ (by decide), State.setSlot,
      State.rd_wr_key _ _ _ _ _ _ (by decide), State.rd_wr_key _ _ _ _ _ _ (by decide)]
    exact Nat.mod_eq_of_lt (Nat.lt_of_le_of_lt (Nat.min_le_left ..) (by decide))

/-- A request to ramp writes STATE, WAITRAMP and SEG, and no other register of the Sluice. -/
theorem State.rd_powerOn (s : State) (j : Nat) (auto : Bool) (g : Fld) (i : Nat) (window : windowBit g.key = 53)
    (state : fSLU_STAT_STATE.key ≠ g.key) (wait : fSLU_STAT_WAITRAMP.key ≠ g.key) (seg : fSLU_STAT_SEG.key ≠ g.key) :
    (s.powerOn j auto).rd g i = s.rd g i := by
  have loaded : (s.when_ auto fun s => s.loadOn j).rd g i = s.rd g i :=
    (State.when_keeps (.refl butSluice s) fun _ h => State.loadOn_keeps rfl h).slu g i window
  unfold State.powerOn
  dsimp only
  split
  · rfl
  split
  · rfl
  generalize s.when_ auto (fun s => s.loadOn j) = u at loaded
  split
  · rw [State.rd_wrb_key _ _ _ _ _ _ wait, loaded]
  · rw [State.rampStart, State.slotMod_rd, State.rd_wr_key _ _ _ _ _ _ seg, State.rd_wrb_key _ _ _ _ _ _ wait, State.setSlot,
      State.rd_wr_key _ _ _ _ _ _ state, loaded]

theorem State.rd_autoOn (s : State) (j : Nat) (g : Fld) (i : Nat) (window : windowBit g.key = 53)
    (state : fSLU_STAT_STATE.key ≠ g.key) (wait : fSLU_STAT_WAITRAMP.key ≠ g.key) (seg : fSLU_STAT_SEG.key ≠ g.key) :
    (s.autoOn j).rd g i = s.rd g i := by
  unfold State.autoOn
  split
  · exact s.rd_powerOn j true g i window state wait seg
  · rfl

end Sys2Proof.Machine
end

section
/-! PROOFS. Presence of the slots, and their requests settled. -/
namespace Sys2Proof.Machine

theorem Keeps.slots {w : Nat} {z s : State} (h : Keeps w z s) (hw : w.testBit 23 = false) : s.slots = z.slots := by
  have := congrArg State.slots h.2.2
  simpa [State.outside, hw] using this

/-! ### Presence (R415, R420, R430) -/

/-- Slot `j` seen present. -/
def State.slotSeen (s : State) (j : Nat) : State :=
  ((s.wrb fSLU_STAT_PRES j true).slotMod j fun x => { x with autoOff := false }).atPort j fun s p => s.presenceTurn p

/-- Slot `j`, present, is held to be so where `held`. -/
def State.slotHeld (s : State) (j : Nat) (held : Bool) : State :=
  if held && !(s.slot j).held then (s.slotMod j fun x => { x with held := true }).autoOn j else s

/-- Slot `j` seen absent, before its power goes. -/
def State.slotGone (s : State) (j : Nat) : State :=
  (((s.wrb fSLU_STAT_PRES j false).wrb fSLU_STAT_WAITRAMP j false).slotMod j fun x => { x with held := false, wantFeed := false }).atPort j
    fun s p => s.presenceTurn p

theorem exec_slotPresent_new {s : State} {j : Nat} (hj : isSlot j = true) (held : Bool) (absent : s.rdb fSLU_STAT_PRES j = false) :
    exec (.slotPresent j held) s = .next ((s.slotSeen j).slotHeld j held) :=
  (if_pos hj).trans (congrArg (fun u : State => Host.Outcome.next (u.slotHeld j held)) (if_neg (by simp [absent])))

theorem exec_slotPresent_known {s : State} {j : Nat} (hj : isSlot j = true) (held : Bool) (present : s.rdb fSLU_STAT_PRES j = true) :
    exec (.slotPresent j held) s = .next (s.slotHeld j held) :=
  (if_pos hj).trans (congrArg (fun u : State => Host.Outcome.next (u.slotHeld j held)) (if_pos present))

theorem exec_slotAbsent (s : State) {j : Nat} (hj : isSlot j = true) :
    exec (.slotAbsent j) s = .next (if ¬ s.rdb fSLU_STAT_PRES j then s
      else if s.slotState j = 2 ∨ s.slotState j = 3 then (s.slotGone j).fetOff j 1
      else if s.slotState j = 4 then ((s.slotGone j).fetOff j 1).atPort j fun s p => s.perstLow p false
      else s.slotGone j) := if_pos hj

theorem State.atPort_none {s : State} {j : Nat} (none : s.slotPort j = none) (f : State → Nat → State) : s.atPort j f = s := by
  unfold State.atPort
  rw [none]

theorem State.slotHeld_no {s : State} {j : Nat} {held : Bool} (h : held = false ∨ (s.slot j).held = true) : s.slotHeld j held = s :=
  if_neg (by rcases h with h | h <;> simp [h])

theorem State.slotHeld_yes {s : State} {j : Nat} (h : (s.slot j).held = false) :
    s.slotHeld j true = (s.slotMod j fun x => { x with held := true }).autoOn j := if_pos (by simp [h])

theorem State.rd_slotSeen_pres (s : State) (j : Nat) : (s.slotSeen j).rd fSLU_STAT_PRES j = 1 :=
  ((State.atPort_present _ _).rd _ _ (by decide)).trans (State.rd_wr_same ..)

theorem State.rd_slotHeld_pres (s : State) (j : Nat) (held : Bool) : (s.slotHeld j held).rd fSLU_STAT_PRES j = s.rd fSLU_STAT_PRES j := by
  unfold State.slotHeld
  split
  · exact State.rd_autoOn _ _ _ _ rfl (by decide) (by decide) (by decide)
  · rfl

/-- What an absent slot shows, before its power goes. -/
theorem State.slotGone_shows (s : State) (j : Nat) :
    (s.slotGone j).slotState j = s.slotState j ∧ (s.slotGone j).rd fSLU_STAT_PRES j = 0 ∧ (s.slotGone j).rd fSLU_STAT_WAITRAMP j = 0
    ∧ ((s.slotGone j).slot j).held = false := by
  unfold State.slotGone
  generalize hu : ((s.wrb fSLU_STAT_PRES j false).wrb fSLU_STAT_WAITRAMP j false).slotMod j
    (fun x => { x with held := false, wantFeed := false }) = u
  have port := u.atPort_present j
  refine ⟨(port.rd fSLU_STAT_STATE j (by decide)).trans ?_, (port.rd _ _ (by decide)).trans ?_, (port.rd _ _ (by decide)).trans ?_, ?_⟩
  · rw [← hu, State.slotMod_rd, State.rd_wrb_key _ _ _ _ _ _ (by decide), State.rd_wrb_key _ _ _ _ _ _ (by decide)]
    rfl
  · rw [← hu, State.slotMod_rd, State.rd_wrb_key _ _ _ _ _ _ (by decide)]
    exact State.rd_wr_same ..
  · rw [← hu, State.slotMod_rd]
    exact State.rd_wr_same ..
  · rw [State.slot_congr (port.slots (by decide)), ← hu, State.slot_slotMod, if_pos rfl]

theorem State.slotPort_congr {s t : State} (h : ∀ f ∈ [fPRT_SLOTCFG_SLOTEN, fPRT_SLOTCFG_SLOT], ∀ i, t.rd f i = s.rd f i) (j : Nat) :
    t.slotPort j = s.slotPort j := by
  simp only [List.forall_mem_cons] at h
  obtain ⟨bound, slot, -⟩ := h
  unfold State.slotPort State.rdb
  simp only [bound, slot]

/-- A slot that no port is bound to changes alone when it is seen. -/
theorem slotPresent_unbound {s : State} {j : Nat} (hj : isSlot j = true) (absent : s.rdb fSLU_STAT_PRES j = false) (unbound : s.slotPort j = none) :
    Ends (.slotPresent j false) s (s.slotMod j fun x => { x with autoOff := false }) [(fSLU_STAT_PRES, j, 1)] := by
  have still : ((s.wrb fSLU_STAT_PRES j true).slotMod j fun x => { x with autoOff := false }).slotPort j = none := by
    refine (State.slotPort_congr (fun f hf i => State.rd_wrb_key _ _ _ _ _ _ ?_) j).trans unbound
    have apart : ∀ f ∈ [fPRT_SLOTCFG_SLOTEN, fPRT_SLOTCFG_SLOT], fSLU_STAT_PRES.key ≠ f.key := by decide
    exact apart f hf
  refine ⟨_, exec_slotPresent_new hj false absent, ?_⟩
  rw [State.slotHeld_no (.inl rfl), State.slotSeen, State.atPort_none still]
  exact (Sets.wr_one s fSLU_STAT_PRES j rfl).slotMod j _

/-- A slot that is held present, and whose wave has come, ramps by AUTO. -/
theorem slotPresent_ramps {s : State} {j : Nat} (hj : isSlot j = true) (present : s.rdb fSLU_STAT_PRES j = true) (new : (s.slot j).held = false)
    (auto : s.rdb fSLU_CFG_AUTO j = true) (waved : (s.slot j).waved = true) (still : (s.slot j).autoOff = false) (off : s.slotState j = 1)
    (fed : s.fed j = true) (own : s.slotPctl j = false) (room : s.ramping j < s.rd fSLU_CTL_MAXRAMP 0) :
    EndsIn (.slotPresent j true) s fun t => t.slotState j = 2 ∧ (t.slot j).held = true := by
  generalize hu : s.slotMod j (fun x => { x with held := true }) = u
  have slot : u.slot j = { s.slot j with held := true } := by
    rw [← hu, State.slot_slotMod, if_pos rfl]
  have ramps : s.slotHeld j true = u.rampStart j := by
    have may : (u.rdb fSLU_CFG_AUTO j && (u.slot j).waved && !(u.slot j).autoOff) = true := by
      rw [slot, ← hu, State.slotMod_rdb, auto]
      simp [waved, still]
    have held : (u.slot j).held = true := congrArg Slot.held slot
    rw [State.slotHeld_yes new, hu, State.autoOn, if_pos may]
    subst hu
    exact State.powerOn_auto_ramps off present held fed own room
  refine ⟨_, (exec_slotPresent_known hj true present).trans (congrArg _ ramps), State.slotState_rampStart u j, ?_⟩
  unfold State.rampStart
  dsimp only
  rw [State.slot_slotMod, if_pos rfl]
  exact congrArg Slot.held slot

/-- An absent slot with its pass FET driven is switched off; from ON its port's PERST_OUT_N falls with it. -/
theorem slotAbsent_stops {s : State} {j : Nat} (hj : isSlot j = true) (present : s.rdb fSLU_STAT_PRES j = true)
    (on : s.slotState j = 2 ∨ s.slotState j = 3 ∨ s.slotState j = 4) :
    EndsIn (.slotAbsent j) s fun t => t.slotState j = 1 ∧ t.rd fSLU_STAT_PRES j = 0 ∧ t.rd fSLU_STAT_PG j = 0 := by
  obtain ⟨-, gone, -⟩ := s.slotGone_shows j
  obtain ⟨off, bad, pres⟩ := (s.slotGone j).fetOff_shows j (st := 1) (by decide)
  have run := (exec_slotAbsent s hj).trans (congrArg _ (if_neg (not_not.2 present)))
  by_cases ramp : s.slotState j = 2 ∨ s.slotState j = 3
  · exact ⟨_, run.trans (congrArg _ (if_pos ramp)), off, pres.trans gone, bad⟩
  · have four : s.slotState j = 4 := by omega
    have port := ((s.slotGone j).fetOff j 1).atPort_perst j
    exact ⟨_, run.trans (congrArg _ ((if_neg ramp).trans (if_pos four))), (port.slu fSLU_STAT_STATE j rfl).trans off,
      (port.slu _ _ rfl).trans (pres.trans gone), (port.slu _ _ rfl).trans bad⟩

/-! ### Requests by register (R419, R420, R426, R427) -/

/-- What a stopping slot asks of its port leaves the slots. -/
theorem State.atPort_low (s : State) (j : Nat) : Keeps butSluice s (s.atPort j fun s p => (s.poweredNow p).perstLow p true) :=
  State.atPort_keeps rfl (.refl _ _) fun _ h _ => State.perstLow_keeps rfl (State.poweredNow_keeps rfl h)

/-- A power-off ends power-good, by way of STOPPING where the slot was on. -/
theorem State.powerOff_pg {s : State} {j : Nat} (on : s.slotState j = 2 ∨ s.slotState j = 3 ∨ s.slotState j = 4) :
    (s.powerOff j).rd fSLU_STAT_PG j = 0 ∧ (s.slotState j ≠ 4 → (s.powerOff j).slotState j = 1) := by
  unfold State.powerOff
  dsimp only
  generalize hu : (s.wrb fSLU_STAT_WAITRAMP j false).slotMod j (fun x => { x with autoOff := true, wantFeed := false }) = u
  have state : u.slotState j = s.slotState j := by
    rw [← hu]
    exact State.slotState_wrb _ _ _ _ _ (by decide)
  obtain ⟨off, bad, -⟩ := u.fetOff_shows j (st := 1) (by decide)
  rw [state]
  split
  · exact ⟨bad, fun _ => off⟩
  · rw [if_pos (by omega)]
    refine ⟨?_, fun no => absurd (by omega) no⟩
    rw [(State.atPort_low _ _).slu _ _ rfl]
    exact State.rd_wr_same ..

/-- CLRISO of an isolated slot ends its source, and the slot is in OFF. -/
theorem sluClriso_ends {s : State} {j val : Nat} (hj : isSlot j = true) (hval : val < 2 ^ 32) (within : bitOf s.pwr.culvert (j / 8) = false)
    (cmd : sluCmd val 4 = true) (isolated : s.slotState j = 7) :
    EndsIn (.sluClriso j val true) s fun t => t.slotState j = 1 ∧ t.spw = (s.level (0x220 + j) false).spw := by
  have chosen := ((s.setSlot j 1).level (0x220 + j) false).chooseFeed_chosen j
  refine ⟨_, (exec_sluClriso hj hval within true).trans (congrArg _ (if_neg (by simp [cmd, isolated]))), ?_, chosen.spw⟩
  exact (chosen.slotState j).trans (State.slotState_setSlot _ _ (by decide))

/-! ### Slot waves and places to ramp (R76, R420) -/

/-- Slot `j` has reached its wave; without AUTO that is all. -/
theorem State.autoOn_manual {s : State} {j : Nat} (manual : s.rdb fSLU_CFG_AUTO j = false) : s.autoOn j = s := if_neg (by simp [manual])

/-- Slots `js` reach their wave. -/
def State.slotsWaved (s : State) (js : List Nat) : State := s.each js fun s j => (s.slotMod j fun x => { x with waved := true }).autoOn j

theorem State.slotsWaved_manual (js : List Nat) {s : State} (manual : ∀ j, s.rdb fSLU_CFG_AUTO j = false) :
    (s.slotsWaved js).regs = s.regs ∧ ∀ j, j ∈ js ∨ (s.slot j).waved = true → ((s.slotsWaved js).slot j).waved = true := by
  induction js generalizing s with
  | nil => exact ⟨rfl, fun j h => h.resolve_left List.not_mem_nil⟩
  | cons k js ih =>
    have step : s.slotsWaved (k :: js) = (s.slotMod k fun x => { x with waved := true }).slotsWaved js :=
      congrArg (State.slotsWaved · js) (State.autoOn_manual (manual k))
    obtain ⟨regs, waved⟩ := ih (s := s.slotMod k fun x => { x with waved := true }) manual
    rw [step]
    refine ⟨regs, fun j h => waved j ?_⟩
    rw [State.slot_slotMod]
    by_cases here : k = j
    · exact .inr (by rw [if_pos here])
    · rw [if_neg here]
      exact h.imp_left fun h => (List.mem_cons.1 h).resolve_left (Ne.symm here)

theorem exec_rampPlaceFree (s : State) {j : Nat} (hj : isSlot j = true) :
    exec (.rampPlaceFree j) s = .next (if s.rdb fSLU_STAT_WAITRAMP j ∧ s.ramping j < s.rd fSLU_CTL_MAXRAMP 0 then
      (s.wrb fSLU_STAT_WAITRAMP j false).powerOn j false else s) := if_pos hj

/-- The slot that waited for a place ramps. -/
theorem rampPlaceFree_ramps {s : State} {j : Nat} (hj : isSlot j = true) (waits : s.rdb fSLU_STAT_WAITRAMP j = true)
    (room : s.ramping j < s.rd fSLU_CTL_MAXRAMP 0) (off : s.slotState j = 1) (present : s.rdb fSLU_STAT_PRES j = true)
    (held : (s.slot j).held = true) (fed : s.fed j = true) :
    EndsIn (.rampPlaceFree j) s fun t => t.slotState j = 2 ∧ t.rd fSLU_STAT_WAITRAMP j = 0 := by
  generalize hu : s.wrb fSLU_STAT_WAITRAMP j false = u
  have reads (f : Fld) (i : Nat) (h : fSLU_STAT_WAITRAMP.key ≠ f.key) : u.rd f i = s.rd f i := by
    rw [← hu, State.rd_wrb_key _ _ _ _ _ _ h]
  have states (i : Nat) : u.slotState i = s.slotState i := reads _ _ (by decide)
  have feeds (f : Nat) : u.feedOk j f = s.feedOk j f :=
    State.feedOk_congr (reads _ _ (by decide)) (reads _ _ (by decide)) (reads _ _ (by decide)) f
  have ramps : u.powerOn j false = u.rampStart j := by
    refine State.powerOn_ramps ((states j).trans off) ?_ ?_ ?_ ?_
    · unfold State.rdb at present ⊢
      rw [reads _ _ (by decide)]
      exact present
    · rw [← hu]
      exact held
    · unfold State.fed at fed ⊢
      rw [feeds, feeds]
      exact fed
    · unfold State.ramping at room ⊢
      simp only [states]
      rw [reads _ _ (by decide)]
      exact room
  obtain ⟨state, wait, -⟩ := u.rampStart_shows j
  refine ⟨_, (exec_rampPlaceFree s hj).trans (congrArg _ ((if_pos ⟨waits, room⟩).trans ?_)), state, wait⟩
  rw [hu, ramps]

/-- Settles O52: each command is one of the operations above, or a branch of it that is not taken. -/
theorem slotFeedsAndRequests : Obligations.SlotFeedsAndRequests := by
  unfold Obligations.SlotFeedsAndRequests
  refine ⟨fun s j val hj hval taken disabled en within armed => ?enables, fun s j val hj hval taken within off en => ?disables,
    fun s j val hj hval taken within no0 no1 no6 => ?refuses, fun s j val hj hval within taken may => ?takes,
    fun s j val hj hval within discarded => ?discards, fun s j val low hj hval out => slotCommands_out low hj hval out,
    fun s n feedB c hn hc => ?turns, fun s n feedB c hn hc outside => ?bad, fun s n feedB c hn hc inside none => ?good,
    fun s n feedB c hn hc => ?stays, fun s j f hj make hf good => feedMake_makes hj make hf good, fun s j hj other good => ?returns,
    fun s j f hj make => exec_feedMake_some hj make, fun s j hj none => exec_feedMake_none hj none, fun s j hj other => ?noReturn,
    fun s j hj none bad => ?neither, fun s j hj absent unbound => slotPresent_unbound hj absent unbound, fun s j held hj present known => ?known,
    fun s j hj present new => ?held, fun s j hj absent => ?seen,
    fun s j hj present new auto waved still off fed own room => slotPresent_ramps hj present new auto waved still off fed own room,
    fun s j hj present on => slotAbsent_stops hj present on, fun s j hj present no2 no3 no4 => ?gone, fun s j hj absent => ?noGone,
    fun s j val hj hval within cmd own off present held fed => ⟨fun room => ?ramps, fun full => ?waits⟩,
    fun s j val hj hval within own => ⟨fun cmd => ?on, fun cmd => ?off⟩, fun s j val hj hval within => ⟨?noOn, ?noOff, ?noClrflt, ?noClriso⟩,
    fun s j val hj hval within port => ⟨fun cmd => ?portOn, fun cmd => ?portOff⟩,
    fun s j val hj hval within cmd own => ⟨fun on => ?stopping, fun on => ?stopped⟩,
    fun s j val hj hval within cmd => ⟨fun tripped => ?cleared, fun other => ?noClear⟩,
    fun s j val hj hval within cmd => ⟨fun isolated => sluClriso_ends hj hval within cmd isolated, fun isolated => ?high, fun other low => ?noIso⟩,
    fun s v hv manual => ?wave, fun s j hj waits room off present held fed => rampPlaceFree_ramps hj waits room off present held fed,
    fun s j hj waits room => ?place, fun s j hj full => ?noRoom, fun s j hj none => ?noWait⟩
  case enables =>
    exact ⟨_, (exec_sluCfgWrite hj hval within).trans (congrArg _ ((if_neg (by simp [taken])).trans (if_pos (.inl disabled)))),
      slotCfg_enabled disabled en armed⟩
  case disables =>
    exact ⟨_, (exec_sluCfgWrite hj hval within).trans (congrArg _ ((if_neg (by simp [taken])).trans (if_pos (.inr off)))),
      slotCfg_disabled off en⟩
  case refuses =>
    exact (exec_sluCfgWrite hj hval within).trans (congrArg _ ((if_neg (by simp [taken])).trans (if_neg (by simp [no0, no1, no6]))))
  case takes => exact (exec_sluCfgWrite hj hval within).trans (congrArg _ ((if_neg (by simp [taken])).trans (if_pos may)))
  case discards => exact (exec_sluCfgWrite hj hval within).trans (congrArg _ (if_pos discarded))
  case turns => exact ⟨if_pos (decide_eq_true ⟨hn, hc⟩), if_pos (decide_eq_true ⟨hn, hc⟩)⟩
  case bad => exact ⟨_, if_pos (decide_eq_true ⟨hn, hc⟩), State.feedTurn_shows feedB outside (.inl rfl)⟩
  case good =>
    refine ⟨_, if_pos (decide_eq_true ⟨hn, hc⟩), State.feedTurn_shows feedB inside (.inr fun i => ?_)⟩
    unfold State.slot
    rw [none]
    rfl
  case stays =>
    have sampled : Sets s (s.feedSampled n feedB (s.busAt n c)) [(feedVolt feedB, n, s.busAt n c % 2 ^ 16)] :=
      Sets.wr_one s _ n (by rw [(feedVolt_apart feedB).1])
    exact ⟨fun inside => ⟨_, (if_pos (decide_eq_true ⟨hn, hc⟩)).trans (congrArg _ (State.feedTurn_stays feedB inside)), sampled⟩,
      fun outside => ⟨_, (if_pos (decide_eq_true ⟨hn, hc⟩)).trans (congrArg _ (State.feedTurn_stays feedB outside)), sampled⟩⟩
  case returns => exact ⟨_, (exec_feedReturn s hj).trans (congrArg _ (if_pos ⟨other, good⟩)), s.feedBreak_sets j _⟩
  case noReturn => exact (exec_feedReturn s hj).trans (congrArg _ (if_neg fun h => other h.1))
  case neither => exact ⟨exec_feedMake_none hj none, (exec_feedReturn s hj).trans (congrArg _ (if_neg (by simp [bad])))⟩
  case known => exact (exec_slotPresent_known hj held present).trans (congrArg _ (State.slotHeld_no known))
  case held => exact (exec_slotPresent_known hj true present).trans (congrArg _ (State.slotHeld_yes new))
  case seen =>
    exact ⟨(exec_slotPresent_new hj false absent).trans (congrArg _ (State.slotHeld_no (.inl rfl))),
      _, exec_slotPresent_new hj true absent, (State.rd_slotHeld_pres ..).trans (s.rd_slotSeen_pres j)⟩
  case gone =>
    refine ⟨_, (exec_slotAbsent s hj).trans (congrArg _ ((if_neg (not_not.2 present)).trans ((if_neg ?_).trans (if_neg no4)))), s.slotGone_shows j⟩
    exact fun on => on.elim no2 no3
  case noGone => exact (exec_slotAbsent s hj).trans (congrArg _ (if_pos (by simp [absent])))
  case ramps =>
    refine ⟨_, (exec_sluOn hj hval within).trans (congrArg _ ((if_neg (by simp [cmd])).trans ((if_neg (by simp [own])).trans ?_))), s.rampStart_shows j⟩
    exact State.powerOn_ramps off present held fed room
  case waits =>
    refine ⟨_, (exec_sluOn hj hval within).trans (congrArg _ ((if_neg (by simp [cmd])).trans ((if_neg (by simp [own])).trans ?_))),
      Sets.wr_one s fSLU_STAT_WAITRAMP j (v := 1) rfl⟩
    exact State.powerOn_waits off present held fed full
  case on => exact (exec_sluOn hj hval within).trans (congrArg _ ((if_neg (by simp [cmd])).trans (if_neg (by simp [own]))))
  case off => exact (exec_sluOff hj hval within).trans (congrArg _ ((if_neg (by simp [cmd])).trans (if_neg (by simp [own]))))
  case noOn => exact fun no => (exec_sluOn hj hval within).trans (congrArg _ (if_pos (by simp [no])))
  case noOff => exact fun no => (exec_sluOff hj hval within).trans (congrArg _ (if_pos (by simp [no])))
  case noClrflt => exact fun no => (exec_sluClrflt hj hval within).trans (congrArg _ (if_neg (by simp [no])))
  case noClriso => exact fun no low => (exec_sluClriso hj hval within low).trans (congrArg _ (if_pos (by simp [no])))
  case portOn => exact (exec_sluOn hj hval within).trans (congrArg _ ((if_neg (by simp [cmd])).trans (if_pos port)))
  case portOff => exact (exec_sluOff hj hval within).trans (congrArg _ ((if_neg (by simp [cmd])).trans (if_pos port)))
  case stopping =>
    exact ⟨_, (exec_sluOff hj hval within).trans (congrArg _ ((if_neg (by simp [cmd])).trans (if_neg (by simp [own])))),
      State.slotState_powerOff on, (State.powerOff_pg (.inr (.inr on))).1⟩
  case stopped =>
    obtain ⟨bad, off⟩ := State.powerOff_pg (on.imp_right .inl)
    exact ⟨_, (exec_sluOff hj hval within).trans (congrArg _ ((if_neg (by simp [cmd])).trans (if_neg (by simp [own])))), off (by omega), bad⟩
  case cleared =>
    exact ⟨_, (exec_sluClrflt hj hval within).trans (congrArg _ ((if_pos cmd).trans (if_pos tripped))), Sets.wr_one s fSLU_STAT_STATE j rfl⟩
  case noClear => exact (exec_sluClrflt hj hval within).trans (congrArg _ ((if_pos cmd).trans (if_neg other)))
  case high => exact (exec_sluClriso hj hval within false).trans (congrArg _ (if_neg (by simp [cmd, isolated])))
  case noIso => exact (exec_sluClriso hj hval within low).trans (congrArg _ (if_pos (.inr other)))
  case wave =>
    obtain ⟨regs, waved⟩ := State.slotsWaved_manual [v, v + 8, v + 16, v + 24] manual
    refine ⟨_, if_pos (decide_eq_true hv), regs, fun j hj here => waved j (.inl ?_)⟩
    simp only [List.mem_cons, List.not_mem_nil, or_false]
    omega
  case place => exact (exec_rampPlaceFree s hj).trans (congrArg _ (if_pos ⟨waits, room⟩))
  case noRoom => exact (exec_rampPlaceFree s hj).trans (congrArg _ (if_neg fun h => Nat.not_lt.2 full h.2))
  case noWait => exact (exec_rampPlaceFree s hj).trans (congrArg _ (if_neg (by simp [none])))

end Sys2Proof.Machine
end

section
/-! PROOFS. A request to the object dictionary: what it leaves beside its object, the checks it passes, and how a WRITE ends. -/
namespace Sys2Proof.Machine

/-! ### What every request may touch (R452 to R454, R463) -/

/-- The registers that a request may touch whatever its object: the sender's slot of the originator table, and the ends of the Waterlog. -/
def asideKeys : List Nat :=
  [fTND_ORIG_L_MAC_L.key, fTND_ORIG_H_MAC_H.key, fTND_ORIG_H_VALID.key, fTND_ORIG_H_SEENA.key, fTND_ORIG_H_SEENB.key,
   fWLG_HEAD_L.key, fWLG_HEAD_H.key, fWLG_OLDEST_L.key, fWLG_OLDEST_H.key]

/-- State `t` is `s` but for what every request may touch: those registers, the records in the ring, and the answers. -/
structure Aside (s t : State) : Prop where
  rd : ∀ (g : Fld) (i : Nat), g.key ∉ asideKeys → t.rd g i = s.rd g i
  rest : { t with regs := s.regs, out := s.out, tnd := { t.tnd with ring := s.tnd.ring, kept := s.tnd.kept, bcast := s.tnd.bcast } } = s

theorem Aside.refl (s : State) : Aside s s := ⟨fun _ _ _ => rfl, rfl⟩

theorem Aside.trans {s t u : State} (h : Aside s t) (h' : Aside t u) : Aside s u :=
  ⟨fun g i hg => (h'.rd g i hg).trans (h.rd g i hg),
   (congrArg (fun x : State => { x with
      regs := s.regs, out := s.out, tnd := { x.tnd with ring := s.tnd.ring, kept := s.tnd.kept, bcast := s.tnd.bcast } }) h'.rest).trans h.rest⟩

/-- One of those registers written. -/
theorem Aside.wr {s t : State} (h : Aside s t) {f : Fld} (i v : Nat) (hf : f.key ∈ asideKeys) : Aside s (t.wr f i v) :=
  h.trans ⟨fun _ _ hg => State.rd_wr_key _ _ _ _ _ _ fun e => hg (e ▸ hf), rfl⟩

section
variable {s t : State} (h : Aside s t)
include h

theorem Aside.pwr : t.pwr = s.pwr := (congrArg State.pwr h.rest :)
theorem Aside.boot : t.boot = s.boot := (congrArg State.boot h.rest :)
theorem Aside.chk : t.chk = s.chk := (congrArg State.chk h.rest :)
theorem Aside.latch : t.latch = s.latch := (congrArg State.latch h.rest :)
theorem Aside.timed : t.tnd.timed = s.tnd.timed := (congrArg (·.tnd.timed) h.rest :)
theorem Aside.queue : t.tnd.queue = s.tnd.queue := (congrArg (·.tnd.queue) h.rest :)
theorem Aside.left : t.tnd.left = s.tnd.left := (congrArg (·.tnd.left) h.rest :)
theorem Aside.ckpt : t.tnd.ckpt = s.tnd.ckpt := (congrArg (·.tnd.ckpt) h.rest :)
theorem Aside.dbgData : t.tnd.dbgData = s.tnd.dbgData := (congrArg (·.tnd.dbgData) h.rest :)
theorem Aside.limited : t.tnd.limited = s.tnd.limited := (congrArg (·.tnd.limited) h.rest :)
theorem Aside.xfers : t.tnd.xfers = s.tnd.xfers := (congrArg (·.tnd.xfers) h.rest :)
theorem Aside.dev : t.dev = s.dev := h.rd fTND_STAT_DEVSTATE 0 (by decide)

end

theorem Aside.rdb {s t : State} (h : Aside s t) (g : Fld) (i : Nat) (hg : g.key ∉ asideKeys) : t.rdb g i = s.rdb g i := by
  unfold State.rdb
  rw [h.rd g i hg]

theorem State.putRec_aside (s : State) (r : Rec) : Aside s (s.putRec r) := ⟨fun _ _ _ => rfl, rfl⟩

/-- A record written as the next one. -/
theorem State.journal_aside (s : State) (r : Rec) : Aside s (s.journal r) :=
  ((((s.putRec_aside _).wr 0 _ (f := fWLG_HEAD_L) (by decide)).wr 0 _ (f := fWLG_HEAD_H) (by decide)).wr 0 _ (f := fWLG_OLDEST_L) (by decide)).wr
    0 _ (f := fWLG_OLDEST_H) (by decide)

theorem State.each_aside {α : Type} (s : State) (xs : List α) {f : State → α → State} (h : ∀ t x, Aside t (f t x)) : Aside s (s.each xs f) :=
  State.each_induct (Aside s) (fun t x ht => ht.trans (h t x)) (.refl s)

/-- Records completed keep every register. -/
theorem State.recsDone_aside (s : State) (q n r : Nat) : Aside s (s.recsDone q n r) ∧ (s.recsDone q n r).regs = s.regs := by
  have one (t : State) (k : Nat) : Aside t (t.recMod (q + k) fun x => { x with result := r })
      ∧ (t.recMod (q + k) fun x => { x with result := r }).regs = t.regs := by
    unfold State.recMod
    split
    · exact ⟨t.putRec_aside _, rfl⟩
    · exact ⟨.refl t, rfl⟩
  exact State.each_induct (fun t => Aside s t ∧ t.regs = s.regs) (fun t k ht => ⟨ht.1.trans (one t k).1, (one t k).2.trans ht.2⟩) ⟨.refl s, rfl⟩

/-- Responses kept for requests that come again. -/
theorem State.keep_aside (s : State) (b : Bool) (f : TndS → List Kept) :
    Aside s (s.when_ b fun s => s.tndMod fun t => { t with kept := f t })
    ∧ (s.when_ b fun s => s.tndMod fun t => { t with kept := f t }).regs = s.regs := by
  cases b with
  | false => exact ⟨.refl s, rfl⟩
  | true => exact ⟨⟨fun _ _ _ => rfl, rfl⟩, rfl⟩

/-- A response sent keeps every register. -/
theorem State.answer_aside (s : State) (c : Cmd) (abort jseq : Nat) (data : List Byte) :
    Aside s (s.answer c abort jseq data) ∧ (s.answer c abort jseq data).regs = s.regs := by
  have back (t : State) (bs : List Byte) : Aside t (t.sayBack c bs) ∧ (t.sayBack c bs).regs = t.regs := by
    unfold State.sayBack State.sendBack
    split
    · exact ⟨⟨fun _ _ _ => rfl, rfl⟩, rfl⟩
    split
    · exact ⟨⟨fun _ _ _ => rfl, rfl⟩, rfl⟩
    split
    · exact ⟨.refl t, rfl⟩
    · exact ⟨⟨fun _ _ _ => rfl, rfl⟩, rfl⟩
  obtain ⟨kept, keptRegs⟩ := s.keep_aside (abort != 1) fun t =>
    let k := t.kept ++ [{ who := callerKey c.who, tag := c.who.tag, resp := s.body 2 c.op c.who.tag c.index c.sub c.offset abort jseq data }]
    k.drop (k.length - 16)
  obtain ⟨said, saidRegs⟩ := back _ (s.body 2 c.op c.who.tag c.index c.sub c.offset abort jseq data)
  exact ⟨kept.trans said, saidRegs.trans keptRegs⟩

/-- The sender's slot of the originator table. -/
theorem State.originOf_aside (s : State) (w : Caller) : Aside s (s.originOf w).2 := by
  have seen (t : State) (n g : Nat) : Aside t (t.seen n g) := by
    unfold State.seen
    split
    · exact (Aside.refl t).wr n _ (by decide)
    · exact (Aside.refl t).wr n _ (by decide)
  have take (n : Nat) : Aside s (s.slotTake n w.mac) :=
    (((Aside.refl s).wr n _ (f := fTND_ORIG_L_MAC_L) (by decide)).wr n _ (f := fTND_ORIG_H_MAC_H) (by decide)).wr n _
      (f := fTND_ORIG_H_VALID) (by decide)
  unfold State.originOf
  dsimp only
  split
  · exact .refl s
  split
  · exact seen s _ _
  split
  · exact (take _).trans (seen _ _ _)
  · exact .refl s

/-! ### The state in which an object is written -/

/-- The sender known. -/
def State.heard (s : State) (w : Caller) : State := (s.originOf w).2

/-- The records of a WRITE, not yet completed. -/
def State.noted (s : State) (c : Cmd) : State :=
  (s.heard c.who).each ((s.heard c.who).recsOf c (s.originOf c.who).1 0 0xFF) State.journal

theorem State.heard_aside (s : State) (w : Caller) : Aside s (s.heard w) := s.originOf_aside w

theorem State.noted_aside (s : State) (c : Cmd) : Aside s (s.noted c) :=
  (s.heard_aside c.who).trans (State.each_aside _ _ State.journal_aside)

/-- A WRITE that ends with abort code `code`: its records completed, and its response. -/
def State.filed (t s : State) (c : Cmd) (code : Nat) (data : List Byte) : State :=
  (t.recsDone (s.heard c.who).headSeq ((s.heard c.who).recsOf c (s.originOf c.who).1 0 0xFF).length code).answer c code (s.heard c.who).headSeq data

theorem State.filed_aside (t s : State) (c : Cmd) (code : Nat) (data : List Byte) :
    Aside t (t.filed s c code data) ∧ (t.filed s c code data).regs = t.regs := by
  obtain ⟨done, doneRegs⟩ := t.recsDone_aside (s.heard c.who).headSeq ((s.heard c.who).recsOf c (s.originOf c.who).1 0 0xFF).length code
  obtain ⟨said, saidRegs⟩ := State.answer_aside (t.recsDone (s.heard c.who).headSeq
    ((s.heard c.who).recsOf c (s.originOf c.who).1 0 0xFF).length code) c code (s.heard c.who).headSeq data
  exact ⟨done.trans said, saidRegs.trans doneRegs⟩

/-! ### A request taken and executed (R452 to R455, R457) -/

@[simp] theorem writeCmd_who (w : Caller) (i j : Nat) (data : List Byte) : (writeCmd w i j data).who = w := rfl
@[simp] theorem writeCmd_index (w : Caller) (i j : Nat) (data : List Byte) : (writeCmd w i j data).index = i := rfl
@[simp] theorem writeCmd_sub (w : Caller) (i j : Nat) (data : List Byte) : (writeCmd w i j data).sub = j := rfl
@[simp] theorem writeCmd_data (w : Caller) (i j : Nat) (data : List Byte) : (writeCmd w i j data).data = data := rfl

/-- With nothing queued, the round of queued commands ends at once. -/
theorem State.dictNext_idle {t : State} (idle : t.tnd.queue = []) (n : Nat) : State.dictNext n t = t := by
  cases n with
  | zero => rfl
  | succ n =>
    unfold State.dictNext
    split
    next queued => exact absurd (idle.symm.trans queued) nofun
    next => rfl

/-- A WRITE of a requester that the dictionary serves executes at once. -/
theorem State.call_writes {s : State} {w : Caller} {i : Nat} (h : s.serves w i) (j : Nat) (data : List Byte) :
    s.call (writeCmd w i j data) = State.dictNext 32 (s.dictWrite (writeCmd w i j data)) := by
  obtain ⟨-, can, up, started, -, -, free, -, -, -, -, new, -, -⟩ := h
  have unkept : s.keptFor (writeCmd w i j data) = none := by
    refine List.find?_eq_none.2 fun k hk => ?_
    exact List.any_eq_false.1 new k hk
  have answers : ¬ s.dictBusy (writeCmd w i j data) = true := by
    unfold State.dictBusy
    rcases started with on | ⟨limited, segment⟩
    · simp [on]
    · simp [limited, segment]
  have taken : s.dictTake (writeCmd w i j data) = State.dictNext 32 (s.dictRun (writeCmd w i j data)) := by
    unfold State.dictTake
    rw [if_neg (by simp [up]), if_neg answers, free]
  have run : s.dictRun (writeCmd w i j data) = s.dictWrite (writeCmd w i j data) := by
    unfold State.dictRun
    rw [unkept]
    exact if_pos rfl
  rw [State.call, writeCmd_who, if_pos can, taken, run]

theorem State.xferOf_none {t : State} (closed : t.tnd.xfers = []) (o : Nat) : t.xferOf o = none := by
  unfold State.xferOf
  rw [closed]
  rfl

theorem State.xferDrop_none {t : State} (closed : t.tnd.xfers = []) (o : Nat) : t.xferDrop o = t := by
  have same : (t.tnd.xfers.filter fun x => x.orig != o) = t.tnd.xfers := by
    rw [closed]
    rfl
  show { t with tnd := { t.tnd with xfers := t.tnd.xfers.filter fun x => x.orig != o } } = t
  rw [same]

/-- With no transfer open, a WRITE in one segment is a whole one, also of a DOMAIN. -/
theorem State.dictWrite_whole {s : State} {w : Caller} {i j : Nat} {ob : Obj} (data : List Byte) (closed : s.tnd.xfers = []) (below : i < 0x8000)
    (image : imageSlot i = none) (obj : objAt i j = some ob) :
    s.dictWrite (writeCmd w i j data) = (s.heard w).writeWhole (s.originOf w).1 (writeCmd w i j data) := by
  have still : (s.heard w).tnd.xfers = [] := (s.heard_aside w).xfers.trans closed
  have segment : (s.heard w).domainSegment (s.originOf w).1 (writeCmd w i j data) = (s.heard w).writeWhole (s.originOf w).1 (writeCmd w i j data) := by
    unfold State.domainSegment
    dsimp only
    rw [show (s.heard w).xferNext (s.originOf w).1 (writeCmd w i j data)
      = some { orig := (s.originOf w).1, index := i, sub := j, data := data } from if_pos rfl]
    dsimp only
    rw [State.xferDrop_none still]
    exact if_pos rfl
  simp only [State.dictWrite, writeCmd_who, writeCmd_index, writeCmd_sub, show (s.originOf w).2.xferOf (s.originOf w).1 = none from State.xferOf_none still _,
    image, Nat.not_le.2 below, if_false, obj]
  split
  · exact segment
  · rfl

/-- The lock is free and the originator known: who writes is no obstacle. -/
theorem State.whoCode_serves {s : State} {w : Caller} {i : Nat} (h : s.serves w i) (j : Nat) (data : List Byte) :
    (s.heard w).whoCode (s.originOf w).1 (writeCmd w i j data) = 0 := by
  obtain ⟨-, -, -, -, -, -, -, -, -, -, -, -, unlocked, known⟩ := h
  have holder : (s.heard w).rd fTND_LOCK_HOLDER 0 = 0xFF := ((s.heard_aside w).rd _ _ (by decide)).trans unlocked
  unfold State.whoCode
  dsimp only
  rw [holder]
  simp [known, firstCode, writeCmd]

theorem State.call_eq {s : State} {w : Caller} {i j : Nat} {ob : Obj} (h : s.serves w i) (data : List Byte) (below : i < 0x8000)
    (image : imageSlot i = none) (obj : objAt i j = some ob) :
    s.call (writeCmd w i j data) = State.dictNext 32 ((s.heard w).writeNow (s.originOf w).1 (writeCmd w i j data)
      (firstCode [(s.heard w).preCode (writeCmd w i j data), 0])) := by
  obtain ⟨-, -, -, -, -, -, -, -, closed, -⟩ := id h
  rw [State.call_writes h, State.dictWrite_whole data closed below image obj, ← State.whoCode_serves h j data]
  rfl

end Sys2Proof.Machine
end

section
/-! PROOFS. How a WRITE of a named object ends: refused before it acts, failed by the object, or done. -/
namespace Sys2Proof.Machine

/-! ### The end of a WRITE (R455, R463) -/

section
variable {s t : State} {c : Cmd} {d : List Byte}

theorem State.writeNow_done (ends : c.hang = false) (acts : (s.noted c).objWrite (s.originOf c.who).1 c = (0, d, t)) (none : t.tnd.left = 0) :
    (s.heard c.who).writeNow (s.originOf c.who).1 c 0 = (t.filed s c 0 d).afterWrite c := by
  have ran : (if 0 = 0 ∨ 8 < 0 then (s.noted c).objWrite (s.originOf c.who).1 c else (0, [], s.noted c)) = (0, d, t) :=
    (if_pos (.inl rfl)).trans acts
  unfold State.noted at ran
  unfold State.writeNow
  dsimp only
  rw [ran]
  dsimp only
  rw [if_pos (by rfl), if_neg (by simp [ends]), if_neg (not_not.2 none)]
  rfl

theorem State.writeNow_fails {code : Nat} (bad : 1 < code) (acts : (s.noted c).objWrite (s.originOf c.who).1 c = (code, d, t)) :
    (s.heard c.who).writeNow (s.originOf c.who).1 c 0 = t.filed s c code d := by
  have first : firstCode [0, code] = code := if_neg (by omega)
  have ran : (if 0 = 0 ∨ 8 < 0 then (s.noted c).objWrite (s.originOf c.who).1 c else (0, [], s.noted c)) = (code, d, t) :=
    (if_pos (.inl rfl)).trans acts
  unfold State.noted at ran
  unfold State.writeNow
  dsimp only
  rw [ran]
  dsimp only
  rw [first, if_neg (by omega), if_neg (by omega), if_pos rfl]
  rfl

theorem State.writeNow_refused {code : Nat} (bad : 1 < code) (named : code ≤ 8) :
    (s.heard c.who).writeNow (s.originOf c.who).1 c code = (s.noted c).filed s c code [] := by
  have first : firstCode [code, 0] = code := if_neg (by omega)
  have idle : (if code = 0 ∨ 8 < code then (s.noted c).objWrite (s.originOf c.who).1 c else (0, [], s.noted c)) = (0, [], s.noted c) :=
    if_neg (by omega)
  unfold State.noted at idle
  unfold State.writeNow
  dsimp only
  rw [idle]
  dsimp only
  rw [first, if_neg (by omega), if_neg (by omega), if_neg (by omega)]
  rfl

end

/-! ### What is checked before the object acts (R455 to R459) -/

/-- Index `i`, subindex `j` is the named object `ob`, and no image. -/
structure Named (i j : Nat) (ob : Obj) : Prop where
  below : i < 0x8000
  image : imageSlot i = none
  obj : objAt i j = some ob

section
variable {s : State} {w : Caller} {i j : Nat} {ob : Obj} {data : List Byte} (h : s.serves w i) (n : Named i j ob)
include h n

/-- The device serves the index, and the object is no image: what is left is the object's own access, size and range. -/
theorem State.preCode_serves : (s.heard w).preCode (writeCmd w i j data) =
    firstCode [0, 0, if ob.acc = .stby ∧ s.dev ≠ 1 then 2 else 0, 0, if ob.acc = .ro then 5 else 0,
      if ob.size ≠ 0 ∧ data.length ≠ ob.size then 7 else 0, if ob.size ≠ 0 ∧ (beBytes data < ob.lo ∨ ob.hi < beBytes data) then 8 else 0] := by
  obtain ⟨-, -, -, -, safe, limit, -⟩ := h
  have heard := s.heard_aside w
  have limit' : (s.heard w).limitCode i = 0 := by
    unfold State.limitCode at limit ⊢
    rw [heard.limited, heard.boot, heard.pwr]
    exact limit
  unfold State.preCode
  simp only [writeCmd_index, writeCmd_sub, writeCmd_data, Nat.not_le.2 n.below, if_false, n.obj, n.image, limit', heard.dev, safe, false_and, State.standby]
  simp [writeCmd]
  congr

/-- Access, size and range let the WRITE through. -/
theorem State.preCode_zero (standby : ob.acc = .stby → s.dev = 1) (writable : ob.acc ≠ .ro)
    (fits : ob.size = 0 ∨ data.length = ob.size ∧ ob.lo ≤ beBytes data ∧ beBytes data ≤ ob.hi) :
    (s.heard w).preCode (writeCmd w i j data) = 0 := by
  rw [State.preCode_serves h n, if_neg fun e => e.2 (standby e.1), if_neg writable, if_neg (by omega), if_neg (by omega)]
  rfl

/-- The value of an object that anything else admits is out of its range. -/
theorem State.preCode_range (standby : ob.acc = .stby → s.dev = 1) (writable : ob.acc ≠ .ro) (size : ob.size ≠ 0) (fits : data.length = ob.size)
    (out : beBytes data < ob.lo ∨ ob.hi < beBytes data) : (s.heard w).preCode (writeCmd w i j data) = 8 := by
  rw [State.preCode_serves h n, if_neg fun e => e.2 (standby e.1), if_neg writable, if_neg (by omega), if_pos ⟨size, out⟩]
  rfl

/-- An object that is written in Standby only. -/
theorem State.preCode_standby (acc : ob.acc = .stby) (dev : s.dev ≠ 1) (fits : data.length = ob.size)
    (range : ob.lo ≤ beBytes data ∧ beBytes data ≤ ob.hi) :
    (s.heard w).preCode (writeCmd w i j data) = 2 := by
  rw [State.preCode_serves h n, if_pos ⟨acc, dev⟩, if_neg (by simp [acc]), if_neg (by omega), if_neg (by omega)]
  rfl

end

/-! ### The whole call -/

/-- No command waits, no answer of a DEBUG request is awaited, and no firmware is to be activated. -/
structure State.Quiet (t : State) : Prop where
  left : t.tnd.left = 0
  queue : t.tnd.queue = []
  activate : t.boot.activate = none

theorem State.Quiet.same {t u : State} (q : t.Quiet) (tnd : u.tnd = t.tnd) (boot : u.boot = t.boot) : u.Quiet :=
  ⟨tnd ▸ q.left, tnd ▸ q.queue, boot ▸ q.activate⟩

theorem Aside.quiet {t u : State} (a : Aside t u) (q : t.Quiet) : u.Quiet :=
  ⟨a.left.trans q.left, a.queue.trans q.queue, a.boot ▸ q.activate⟩

theorem State.serves.noted {s : State} {w : Caller} {i : Nat} (h : s.serves w i) (c : Cmd) : (s.noted c).Quiet := by
  obtain ⟨-, -, -, -, -, -, -, idle, -, left, activate, -⟩ := h
  exact (s.noted_aside c).quiet ⟨left, idle, activate⟩

section
variable {s t : State} {w : Caller} {i j code : Nat} {ob : Obj} {data d : List Byte} (h : s.serves w i) (n : Named i j ob)
include h n

omit h in
theorem State.objWrite_named :
    (s.noted (writeCmd w i j data)).objWrite (s.originOf w).1 (writeCmd w i j data)
      = (s.noted (writeCmd w i j data)).namedWrite (s.originOf w).1 (writeCmd w i j data) (beBytes data) (objKey i j) :=
  if_neg (Nat.not_le.2 n.below)

/-- The object takes the value; what waits for the end of the WRITE follows. -/
theorem State.call_acts (pre : (s.heard w).preCode (writeCmd w i j data) = 0)
    (acts : (s.noted (writeCmd w i j data)).namedWrite (s.originOf w).1 (writeCmd w i j data) (beBytes data) (objKey i j) = (0, d, t))
    (left : t.tnd.left = 0) :
    s.call (writeCmd w i j data) = State.dictNext 32 ((t.filed s (writeCmd w i j data) 0 d).afterWrite (writeCmd w i j data)) := by
  have ran := State.writeNow_done (s := s) (c := writeCmd w i j data) rfl ((State.objWrite_named n).trans acts) left
  rw [writeCmd_who] at ran
  rw [State.call_eq h data n.below n.image n.obj, pre, show firstCode [0, 0] = 0 from rfl, ran]

/-- The object takes the value. -/
theorem State.call_done (pre : (s.heard w).preCode (writeCmd w i j data) = 0)
    (acts : (s.noted (writeCmd w i j data)).namedWrite (s.originOf w).1 (writeCmd w i j data) (beBytes data) (objKey i j) = (0, d, t))
    (quiet : t.Quiet) (own : objKey i j ≠ 0x110200) : s.call (writeCmd w i j data) = t.filed s (writeCmd w i j data) 0 d := by
  obtain ⟨filed, -⟩ := t.filed_aside s (writeCmd w i j data) 0 d
  have after : (t.filed s (writeCmd w i j data) 0 d).afterWrite (writeCmd w i j data) = t.filed s (writeCmd w i j data) 0 d := by
    unfold State.afterWrite
    rw [writeCmd_index, writeCmd_sub, if_neg own, filed.boot, quiet.activate]
  rw [State.call_acts h n pre acts quiet.left, after, State.dictNext_idle (filed.queue.trans quiet.queue)]

/-- The object refuses the value. -/
theorem State.call_fails (pre : (s.heard w).preCode (writeCmd w i j data) = 0) (bad : 1 < code)
    (acts : (s.noted (writeCmd w i j data)).namedWrite (s.originOf w).1 (writeCmd w i j data) (beBytes data) (objKey i j) = (code, d, t))
    (quiet : t.Quiet) : s.call (writeCmd w i j data) = t.filed s (writeCmd w i j data) code d := by
  obtain ⟨filed, -⟩ := t.filed_aside s (writeCmd w i j data) code d
  have ran := State.writeNow_fails (s := s) (c := writeCmd w i j data) bad ((State.objWrite_named n).trans acts)
  rw [writeCmd_who] at ran
  rw [State.call_eq h data n.below n.image n.obj, pre, show firstCode [0, 0] = 0 from rfl, ran,
    State.dictNext_idle (filed.queue.trans quiet.queue)]

/-- The write is refused before the object acts. -/
theorem State.call_refused (pre : (s.heard w).preCode (writeCmd w i j data) = code) (bad : 1 < code) (named : code ≤ 8) :
    s.call (writeCmd w i j data) = (s.noted (writeCmd w i j data)).filed s (writeCmd w i j data) code [] := by
  obtain ⟨filed, -⟩ := (s.noted (writeCmd w i j data)).filed_aside s (writeCmd w i j data) code []
  have ran := State.writeNow_refused (s := s) (c := writeCmd w i j data) bad named
  rw [writeCmd_who] at ran
  have first : firstCode [code, 0] = code := if_neg (by omega)
  rw [State.call_eq h data n.below n.image n.obj, pre, first, ran,
    State.dictNext_idle (filed.queue.trans (h.noted _).queue)]

end

/-! ### The bytes of a value (R6) -/

theorem beBytes_reverse (bs : List Byte) : beBytes bs.reverse = leBytes bs := by
  unfold beBytes
  induction bs with
  | nil => rfl
  | cons b bs ih =>
    rw [List.reverse_cons, List.foldl_append, ih]
    exact Nat.add_comm _ _

theorem leBytes_toLeBytes (n x : Nat) : leBytes (toLeBytes n x) = x % 256 ^ n := by
  induction n generalizing x with
  | zero => exact (Nat.mod_one x).symm
  | succ n ih =>
    show (BitVec.ofNat 8 x).toNat + 256 * leBytes (toLeBytes n (x / 256)) = _
    rw [ih, BitVec.toNat_ofNat, Nat.pow_succ' (m := 256), Nat.mod_mul]

theorem toLeBytes_length (n x : Nat) : (toLeBytes n x).length = n := by
  induction n generalizing x with
  | zero => rfl
  | succ n ih => exact congrArg (· + 1) (ih _)

@[simp] theorem toBeBytes_length (n x : Nat) : (toBeBytes n x).length = n := (List.length_reverse ..).trans (toLeBytes_length n x)

theorem beBytes_toBeBytes {n x : Nat} (small : x < 256 ^ n) : beBytes (toBeBytes n x) = x :=
  (beBytes_reverse _).trans ((leBytes_toLeBytes n x).trans (Nat.mod_eq_of_lt small))

end Sys2Proof.Machine
end

section
/-! PROOFS. WRITEs of the objects that hold modes, the lock, pending writes and checkpoints. -/
namespace Sys2Proof.Machine

/-! ### What is left of a WRITE once it is filed -/

section
variable (t s : State) (c : Cmd) (code : Nat) (data : List Byte)

theorem State.rd_filed (g : Fld) (i : Nat) : (t.filed s c code data).rd g i = t.rd g i :=
  State.rd_congr (t.filed_aside s c code data).2 g i

theorem State.headSeq_filed : (t.filed s c code data).headSeq = t.headSeq := by
  unfold State.headSeq State.rd2
  rw [State.rd_filed, State.rd_filed]

theorem State.filed_pwr : (t.filed s c code data).pwr = t.pwr := (t.filed_aside s c code data).1.pwr

theorem State.filed_timed : (t.filed s c code data).tnd.timed = t.tnd.timed := (t.filed_aside s c code data).1.timed

theorem State.filed_ckpt : (t.filed s c code data).tnd.ckpt = t.tnd.ckpt := (t.filed_aside s c code data).1.ckpt

end

/-! ### An object of one byte -/

section
variable {s t : State} {w : Caller} {i j v code : Nat} {ob : Obj} {d : List Byte} (h : s.serves w i) (n : Named i j ob) (size : ob.size = 1)
  (hv : v < 256) (writable : ob.acc ≠ .ro) (standby : ob.acc = .stby → s.dev = 1) (range : ob.lo ≤ v ∧ v ≤ ob.hi)
include h n size hv writable standby range

theorem State.preCode_byte : (s.heard w).preCode (writeCmd w i j (toBeBytes 1 v)) = 0 := by
  refine State.preCode_zero h n standby writable (.inr ⟨(toBeBytes_length 1 v).trans size.symm, ?_⟩)
  rw [beBytes_toBeBytes hv]
  exact range

theorem State.byte_done
    (acts : (s.noted (writeCmd w i j (toBeBytes 1 v))).namedWrite (s.originOf w).1 (writeCmd w i j (toBeBytes 1 v)) v (objKey i j) = (0, d, t))
    (quiet : t.Quiet) (own : objKey i j ≠ 0x110200) :
    s.call (writeCmd w i j (toBeBytes 1 v)) = t.filed s (writeCmd w i j (toBeBytes 1 v)) 0 d := by
  refine State.call_done h n (State.preCode_byte h n size hv writable standby range) ?_ quiet own
  rw [beBytes_toBeBytes hv]
  exact acts

theorem State.byte_fails (bad : 1 < code)
    (acts : (s.noted (writeCmd w i j (toBeBytes 1 v))).namedWrite (s.originOf w).1 (writeCmd w i j (toBeBytes 1 v)) v (objKey i j) = (code, d, t))
    (quiet : t.Quiet) : s.call (writeCmd w i j (toBeBytes 1 v)) = t.filed s (writeCmd w i j (toBeBytes 1 v)) code d := by
  refine State.call_fails h n (State.preCode_byte h n size hv writable standby range) bad ?_ quiet
  rw [beBytes_toBeBytes hv]
  exact acts

end

/-! ### The commands are calls -/

theorem byteOk {c : Caller} {v : Nat} (caller : callerOk c = true) (hv : v < 256) : (callerOk c && decide (v < 256)) = true := by
  simp [caller, hv]

theorem seqOk {c : Caller} {q : Nat} (caller : callerOk c = true) (hq : q < 2 ^ 64) : (callerOk c && decide (q < 2 ^ 64)) = true := by
  simp only [caller, hq, decide_true, Bool.and_true]

section
variable {s : State} {w : Caller} {P : State → Prop}

theorem warmreset_ends {v : Nat} (ok : callerOk w = true) (hv : v < 256) (h : P (s.call (writeCmd w 0x1102 0 (toBeBytes 1 v)))) :
    EndsIn (.warmreset w v) s P := ⟨_, if_pos (byteOk ok hv), h⟩

theorem tilereset_ends {v : Nat} (ok : callerOk w = true) (hv : v < 256) (h : P (s.call (writeCmd w 0x1103 0 (toBeBytes 1 v)))) :
    EndsIn (.tilereset w v) s P := ⟨_, if_pos (byteOk ok hv), h⟩

theorem lockClaim_ends {v : Nat} (ok : callerOk w = true) (hv : v < 256) (h : P (s.call (writeCmd w 0x1202 1 (toBeBytes 1 v)))) :
    EndsIn (.lockClaim w v) s P := ⟨_, if_pos (byteOk ok hv), h⟩

theorem precedence_ends {v : Nat} (ok : callerOk w = true) (hv : v < 256) (h : P (s.call (writeCmd w 0x1110 0 (toBeBytes 1 v)))) :
    EndsIn (.precedence w v) s P := ⟨_, if_pos (byteOk ok hv), h⟩

theorem swclear_ends {v : Nat} (ok : callerOk w = true) (hv : v < 256) (h : P (s.call (writeCmd w 0x1111 0 (toBeBytes 1 v)))) :
    EndsIn (.swclear w v) s P := ⟨_, if_pos (byteOk ok hv), h⟩

theorem cknow_ends {v : Nat} (ok : callerOk w = true) (hv : v < 256) (h : P (s.call (writeCmd w 0x1300 7 (toBeBytes 1 v)))) :
    EndsIn (.cknow w v) s P := ⟨_, if_pos (byteOk ok hv), h⟩

theorem epochcancel_ends {q : Nat} (ok : callerOk w = true) (hq : q < 2 ^ 64) (h : P (s.call (writeCmd w 0x1104 2 (toBeBytes 8 q)))) :
    EndsIn (.epochcancel w q) s P := ⟨_, if_pos (seqOk ok hq), h⟩

theorem enterStandby_ends (ok : callerOk w = true) (h : P (s.call (writeCmd w 0x1101 0 (toBeBytes 1 1)))) :
    EndsIn (.enterStandby w) s P := ⟨_, if_pos ok, h⟩

theorem enterOperational_ends (ok : callerOk w = true) (h : P (s.call (writeCmd w 0x1101 0 (toBeBytes 1 2)))) :
    EndsIn (.enterOperational w) s P := ⟨_, if_pos ok, h⟩

end

/-! ### The objects -/

theorem named_statecmd : Named 0x1101 0 ⟨0x1101, 0, 1, .wo, 1, 2⟩ := ⟨by decide, rfl, rfl⟩
theorem named_warmreset : Named 0x1102 0 ⟨0x1102, 0, 1, .wo, 0x5A, 0x5A⟩ := ⟨by decide, rfl, rfl⟩
theorem named_tilereset : Named 0x1103 0 ⟨0x1103, 0, 1, .wo, 1, 15⟩ := ⟨by decide, rfl, rfl⟩
theorem named_epochcancel : Named 0x1104 2 ⟨0x1104, 2, 8, .wo, 0, 2 ^ 64 - 1⟩ := ⟨by decide, rfl, rfl⟩
theorem named_precedence : Named 0x1110 0 ⟨0x1110, 0, 1, .stby, 0, 1⟩ := ⟨by decide, rfl, rfl⟩
theorem named_swclear : Named 0x1111 0 ⟨0x1111, 0, 1, .stby, 0, 1⟩ := ⟨by decide, rfl, rfl⟩
theorem named_lock : Named 0x1202 1 ⟨0x1202, 1, 1, .rw, 0, 255⟩ := ⟨by decide, rfl, rfl⟩
theorem named_cknow : Named 0x1300 7 ⟨0x1300, 7, 1, .wo, 0, 1⟩ := ⟨by decide, rfl, rfl⟩
theorem named_batch : Named 0x1400 0 ⟨0x1400, 0, 0, .wo, 0, 0⟩ := ⟨by decide, rfl, rfl⟩
theorem named_debug : Named 0x1500 0 ⟨0x1500, 0, 0, .rw, 0, 0⟩ := ⟨by decide, rfl, rfl⟩

/-! ### PRECEDENCE and SWCLEAR (R289, R405) -/

section
variable {s : State} {w : Caller}

/-- The mode is selected, or left where it was not selected. -/
theorem State.precedence_sets (s : State) (on : Bool) (h : on = true ∨ s.preced = false) : s.precedence on = (0, s.wrb fCHK_CTL_PRECED 0 on) :=
  if_pos (h.imp id fun off => by simp [off])

theorem State.swClear_sets (s : State) (on : Bool) (h : on = true ∨ s.rdb fSPW_CTL_ZL25 0 = false) : s.swClear on = s.wrb fSPW_CTL_ZL25 0 on :=
  if_neg fun both => by
    rcases h with on | off
    · exact both.2 on
    · simp [off] at both

theorem precedence_selects (h : s.serves w 0x1110) (dev : s.dev = 1) {v : Nat} (hv : v ≤ 1) (free : v = 1 ∨ s.preced = false) :
    EndsIn (.precedence w v) s fun t => t.rd fCHK_CTL_PRECED 0 = v := by
  have free' : (v == 1) = true ∨ (s.noted (writeCmd w 0x1110 0 (toBeBytes 1 v))).preced = false :=
    free.imp (fun e => beq_iff_eq.2 e) fun off => ((s.noted_aside _).rdb fCHK_CTL_PRECED 0 (by decide)).trans off
  refine precedence_ends h.1 (by omega) ?_
  rw [State.byte_done h named_precedence rfl (by omega) nofun (fun _ => dev) ⟨Nat.zero_le v, hv⟩
    (congrArg noData (State.precedence_sets _ _ free')) ((h.noted _).same rfl rfl) (by decide), State.rd_filed]
  refine (State.rd_wr_same ..).trans ?_
  interval_cases v <;> rfl

theorem precedence_refused (h : s.serves w 0x1110) (dev : s.dev ≠ 1) :
    EndsIn (.precedence w 1) s fun t => t.rd fCHK_CTL_PRECED 0 = s.rd fCHK_CTL_PRECED 0 := by
  refine precedence_ends h.1 (by decide) ?_
  rw [State.call_refused h named_precedence (State.preCode_standby h named_precedence rfl dev rfl (by decide)) (by decide) (by decide), State.rd_filed]
  exact (s.noted_aside _).rd _ _ (by decide)

theorem swclear_selects (h : s.serves w 0x1111) (dev : s.dev = 1) {v : Nat} (hv : v ≤ 1) (free : v = 1 ∨ s.rdb fSPW_CTL_ZL25 0 = false) :
    EndsIn (.swclear w v) s fun t => t.rd fSPW_CTL_ZL25 0 = v := by
  have free' : (v == 1) = true ∨ (s.noted (writeCmd w 0x1111 0 (toBeBytes 1 v))).rdb fSPW_CTL_ZL25 0 = false :=
    free.imp (fun e => beq_iff_eq.2 e) fun off => ((s.noted_aside _).rdb fSPW_CTL_ZL25 0 (by decide)).trans off
  refine swclear_ends h.1 (by omega) ?_
  rw [State.byte_done h named_swclear rfl (by omega) nofun (fun _ => dev) ⟨Nat.zero_le v, hv⟩
    (congrArg (fun t => (0, [], t)) (State.swClear_sets _ _ free')) ((h.noted _).same rfl rfl) (by decide), State.rd_filed]
  refine (State.rd_wr_same ..).trans ?_
  interval_cases v <;> rfl

/-! ### CKNOW (R464) -/

theorem State.ckStart_idle {s : State} (idle : s.tnd.ckpt = none) :
    s.ckStart = (s.tndMod fun t =>
      { t with ckpt := some { flash := s.tnd.ckFlash, upto := s.headSeq - 1 }, ckFlash := 1 - t.ckFlash, ckAgain := false }).wrb fWLG_CKSTAT_BUSY 0 true := by
  unfold State.ckStart
  rw [idle]

theorem cknow_starts (h : s.serves w 0x1300) (idle : s.tnd.ckpt = none) :
    EndsIn (.cknow w 1) s fun t => t.tnd.ckpt.isSome = true ∧ t.rd fWLG_CKSTAT_BUSY 0 = 1 := by
  refine cknow_ends h.1 (by decide) ?_
  have quiet := h.noted (writeCmd w 0x1300 7 (toBeBytes 1 1))
  rw [State.byte_done (v := 1) h named_cknow rfl (by decide) nofun nofun (by decide)
    (congrArg (fun t => (0, [], t)) (State.ckStart_idle ((s.noted_aside _).ckpt.trans idle))) ⟨quiet.left, quiet.queue, quiet.activate⟩ (by decide),
    State.rd_filed, State.filed_ckpt]
  exact ⟨rfl, State.rd_wr_same ..⟩

theorem cknow_idles (h : s.serves w 0x1300) (idle : s.tnd.ckpt = none) : EndsIn (.cknow w 0) s fun t => t.tnd.ckpt = none := by
  refine cknow_ends h.1 (by decide) ?_
  rw [State.byte_done (t := s.noted (writeCmd w 0x1300 7 (toBeBytes 1 0))) h named_cknow rfl (by decide) nofun nofun (by decide) rfl (h.noted _) (by decide),
    State.filed_ckpt]
  exact (s.noted_aside _).ckpt.trans idle

end

end Sys2Proof.Machine
end

section
/-! PROOFS. WRITEs that cancel a pending write, change the device state and claim the lock. -/
namespace Sys2Proof.Machine

theorem Keeps.tnd {W : Nat} {z s : State} (h : Keeps W z s) (hw : W.testBit 24 = false) : s.tnd = z.tnd := by
  have := congrArg State.tnd h.2.2
  simpa [State.outside, hw] using this

theorem Keeps.boot {W : Nat} {z s : State} (h : Keeps W z s) (hw : W.testBit 32 = false) : s.boot = z.boot := by
  have := congrArg State.boot h.2.2
  simpa [State.outside, hw] using this

/-! ### The records of a WRITE -/

/-- The originator table. -/
def originKeys : List Nat :=
  [fTND_ORIG_L_MAC_L.key, fTND_ORIG_H_MAC_H.key, fTND_ORIG_H_VALID.key, fTND_ORIG_H_SEENA.key, fTND_ORIG_H_SEENB.key]

/-- The sender's slot is all that hearing a sender changes among the registers. -/
theorem State.rd_heard (s : State) (w : Caller) (g : Fld) (i : Nat) (hg : g.key ∉ originKeys) : (s.heard w).rd g i = s.rd g i := by
  have apart {f : Fld} (hf : f.key ∈ originKeys) : f.key ≠ g.key := fun e => hg (e ▸ hf)
  have seen (t : State) (n a : Nat) : (t.seen n a).rd g i = t.rd g i := by
    refine State.rd_wrb_key _ _ _ _ _ _ ?_
    split
    · exact apart (by decide)
    · exact apart (by decide)
  have take (n : Nat) : (s.slotTake n w.mac).rd g i = s.rd g i :=
    (State.rd_wrb_key _ _ _ _ _ _ (apart (by decide))).trans
      ((State.rd_wr_key _ _ _ _ _ _ (apart (by decide))).trans (State.rd_wr_key _ _ _ _ _ _ (apart (by decide))))
  unfold State.heard State.originOf
  dsimp only
  split
  · rfl
  split
  · exact seen s _ _
  split
  · exact (seen _ _ _).trans (take _)
  · rfl

theorem State.headSeq_heard (s : State) (w : Caller) : (s.heard w).headSeq = s.headSeq := by
  unfold State.headSeq State.rd2
  rw [State.rd_heard _ _ _ _ (by decide), State.rd_heard _ _ _ _ (by decide)]

/-- A WRITE that is no BATCH has one record. -/
theorem State.recsOf_length (s : State) (c : Cmd) (orig flags result : Nat) (single : c.index ≠ 0x1400) : (s.recsOf c orig flags result).length = 1 := by
  unfold State.recsOf
  dsimp only
  rw [if_neg fun e => single e.1]
  split
  · split <;> rfl
  split
  · rfl
  split
  · rfl
  split <;> rfl

/-- One record noted moves the head of the Waterlog by one. -/
theorem State.headSeq_noted (s : State) (c : Cmd) (one : ((s.heard c.who).recsOf c (s.originOf c.who).1 0 0xFF).length = 1) :
    (s.noted c).headSeq = (s.headSeq + 1) % 2 ^ 64 := by
  obtain ⟨r, single⟩ := List.length_eq_one_iff.1 one
  unfold State.noted
  rw [single]
  exact (State.headSeq_journal _ r).trans (by rw [State.headSeq_heard])

section
variable {s : State} {w : Caller}

/-! ### EPOCHCANCEL (R460) -/

section
variable {q : Nat} (h : s.serves w 0x1104) (hq : q < 2 ^ 64)
include h hq

theorem epochcancel_pre : (s.heard w).preCode (writeCmd w 0x1104 2 (toBeBytes 8 q)) = 0 := by
  refine State.preCode_zero h named_epochcancel nofun nofun (.inr ⟨toBeBytes_length 8 q, Nat.zero_le _, ?_⟩)
  rw [beBytes_toBeBytes (hq.trans_eq (by decide))]
  exact Nat.le_pred_of_lt hq

omit h in
theorem epochcancel_acts :
    (s.noted (writeCmd w 0x1104 2 (toBeBytes 8 q))).namedWrite (s.originOf w).1 (writeCmd w 0x1104 2 (toBeBytes 8 q)) (beBytes (toBeBytes 8 q))
      (objKey 0x1104 2) = noData ((s.noted (writeCmd w 0x1104 2 (toBeBytes 8 q))).epochCancel q) := by
  rw [beBytes_toBeBytes (hq.trans_eq (by decide))]
  rfl

theorem epochcancel_withdraws {x : Timed} (one : s.tnd.timed = [x]) (seq : x.seq = q) :
    EndsIn (.epochcancel w q) s fun t => t.tnd.timed = [] := by
  refine epochcancel_ends h.1 hq ?_
  have still : (s.noted (writeCmd w 0x1104 2 (toBeBytes 8 q))).tnd.timed = [x] := (s.noted_aside _).timed.trans one
  have found : ((s.noted (writeCmd w 0x1104 2 (toBeBytes 8 q))).tnd.timed.any fun t => t.seq == q) = true := by simp [still, seq]
  have quiet := h.noted (writeCmd w 0x1104 2 (toBeBytes 8 q))
  rw [State.call_done h named_epochcancel (epochcancel_pre h hq) ((epochcancel_acts hq).trans (congrArg noData (if_pos found)))
    ⟨quiet.left, quiet.queue, quiet.activate⟩ (by decide), State.filed_timed]
  show (State.tnd _).timed.filter _ = []
  simp [still, seq]

theorem epochcancel_finds_none (none : s.tnd.timed = []) :
    EndsIn (.epochcancel w q) s fun t => t.tnd.timed = [] ∧ t.headSeq = (s.headSeq + 1) % 2 ^ 64 := by
  refine epochcancel_ends h.1 hq ?_
  have still : (s.noted (writeCmd w 0x1104 2 (toBeBytes 8 q))).tnd.timed = [] := (s.noted_aside _).timed.trans none
  have unfound : ¬ ((s.noted (writeCmd w 0x1104 2 (toBeBytes 8 q))).tnd.timed.any fun t => t.seq == q) = true := by simp [still]
  rw [State.call_fails (code := 8) h named_epochcancel (epochcancel_pre h hq) (by decide) ((epochcancel_acts hq).trans (congrArg noData (if_neg unfound)))
    (h.noted _), State.filed_timed, State.headSeq_filed]
  exact ⟨still, State.headSeq_noted s _ (State.recsOf_length _ _ _ _ _ (show 0x1104 ≠ 0x1400 by decide))⟩

end

/-! ### STATECMD (R459, R483) -/

theorem Aside.operating {s t : State} (h : Aside s t) : t.operating = s.operating := by
  unfold State.operating
  rw [h.dev]

/-- Operation is left for Standby. -/
def State.standbyAgain (s : State) : State := (s.setDev 1).pwrMod fun p => { p with oper := false }

theorem State.stateCmd_leaves {s : State} (operating : s.operating = true) : s.stateCmd 1 = (0, s.standbyAgain) := by
  have up : ¬ s.dev = 1 := by
    intro standby
    simp [State.operating, standby] at operating
  exact (if_pos rfl).trans ((if_neg up).trans (if_pos operating))

theorem State.standbyAgain_dev (s : State) : s.standbyAgain.dev = 1 := by
  have same : s.standbyAgain.dev = (s.setDev 1).dev := State.rd_congr (s := s.setDev 1) rfl _ _
  exact same.trans (State.dev_setDev _ (by decide))

theorem State.standbyAgain_oper (s : State) : s.standbyAgain.pwr.oper = false := rfl

theorem State.standbyAgain_keeps (s : State) : s.standbyAgain.tnd = s.tnd ∧ s.standbyAgain.boot = s.boot := by
  have moved : Keeps 0x1080000012000042 s s.standbyAgain := State.pwrMod_keeps rfl (State.setDev_keeps rfl (Keeps.refl ..))
  exact ⟨moved.tnd (by decide), moved.boot (by decide)⟩

section
variable (h : s.serves w 0x1101)
include h

/-- STATECMD has its effect. -/
theorem statecmd_done {v : Nat} {t : State} (hv : 1 ≤ v ∧ v ≤ 2) (acts : (s.noted (writeCmd w 0x1101 0 (toBeBytes 1 v))).stateCmd v = (0, t))
    (tnd : t.tnd = (s.noted (writeCmd w 0x1101 0 (toBeBytes 1 v))).tnd) (boot : t.boot = (s.noted (writeCmd w 0x1101 0 (toBeBytes 1 v))).boot) :
    s.call (writeCmd w 0x1101 0 (toBeBytes 1 v)) = t.filed s (writeCmd w 0x1101 0 (toBeBytes 1 v)) 0 [] :=
  State.byte_done h named_statecmd rfl (by omega) nofun nofun hv (congrArg noData acts) ((h.noted _).same tnd boot) (by decide)

theorem enterStandby_leaves (operating : s.operating = true) : EndsIn (.enterStandby w) s fun t => t.dev = 1 ∧ t.pwr.oper = false := by
  refine enterStandby_ends h.1 ?_
  have left := State.stateCmd_leaves ((s.noted_aside (writeCmd w 0x1101 0 (toBeBytes 1 1))).operating.trans operating)
  rw [statecmd_done h (by decide) left (State.standbyAgain_keeps _).1 (State.standbyAgain_keeps _).2, State.filed_pwr]
  exact ⟨(State.rd_filed ..).trans (State.standbyAgain_dev _), State.standbyAgain_oper _⟩

theorem enterStandby_stays (dev : s.dev = 1) : EndsIn (.enterStandby w) s fun t => t.dev = 1 ∧ t.pwr.oper = false := by
  refine enterStandby_ends h.1 ?_
  have still := (s.noted_aside (writeCmd w 0x1101 0 (toBeBytes 1 1))).dev.trans dev
  rw [statecmd_done h (by decide) ((if_pos rfl).trans (if_pos still)) rfl rfl, State.filed_pwr]
  exact ⟨(State.rd_filed ..).trans still, rfl⟩

theorem enterOperational_asks (dev : s.dev = 1) (live : s.rd fBOOT_STAT_LC 0 ≠ 2) :
    EndsIn (.enterOperational w) s fun t => t.pwr.oper = true ∧ t.dev = 1 := by
  refine enterOperational_ends h.1 ?_
  have noted := s.noted_aside (writeCmd w 0x1101 0 (toBeBytes 1 2))
  have still := noted.dev.trans dev
  have live' : (s.noted (writeCmd w 0x1101 0 (toBeBytes 1 2))).rd fBOOT_STAT_LC 0 ≠ 2 := by
    rw [noted.rd _ _ (by decide)]
    exact live
  rw [statecmd_done h (by decide) ((if_neg (by decide)).trans ((if_neg live').trans (if_pos still))) rfl rfl, State.filed_pwr]
  exact ⟨rfl, (State.rd_filed ..).trans still⟩

/-- A Retired device does not enter Operational. -/
theorem enterOperational_refused (retired : s.rd fBOOT_STAT_LC 0 = 2) : EndsIn (.enterOperational w) s fun t => t.pwr = s.pwr ∧ t.dev = s.dev := by
  refine enterOperational_ends h.1 ?_
  have noted := s.noted_aside (writeCmd w 0x1101 0 (toBeBytes 1 2))
  have still := (noted.rd fBOOT_STAT_LC 0 (by decide)).trans retired
  rw [State.byte_fails (v := 2) (code := 2) h named_statecmd rfl (by decide) nofun nofun (by decide) (by decide)
    (congrArg noData ((if_neg (by decide)).trans (if_pos still))) (h.noted _), State.filed_pwr]
  exact ⟨noted.pwr, (State.rd_filed ..).trans noted.dev⟩

end

/-! ### LOCKHOLDER (R454, R458) -/

theorem State.originOf_lt (s : State) {w : Caller} (ok : callerOk w = true) : (s.originOf w).1 < 256 := by
  obtain ⟨-, -, port, -⟩ := of_decide_eq_true ok
  have low {n : Nat} (p : Nat → Bool) (hn : (List.range 64).find? p = some n) : (if w.path = 0 then 0x40 else 0x80) + n < 256 := by
    have := List.mem_range.1 (List.mem_of_find?_eq_some hn)
    split <;> omega
  unfold State.originOf
  dsimp only
  split
  · exact port.trans (by decide)
  split
  next found => exact low _ found
  split
  next found => exact low _ found
  next => exact (by decide : 0xFF < 256)

theorem State.recsDone_out (s : State) (q n r : Nat) : (s.recsDone q n r).out = s.out := by
  refine State.each_induct (fun t => t.out = s.out) (fun t k ht => ?_) rfl
  unfold State.recMod
  split
  · exact ht
  · exact ht

theorem State.each_journal_out (s : State) (rs : List Rec) : (s.each rs State.journal).out = s.out :=
  State.each_induct (f := State.journal) (fun t => t.out = s.out) (fun _ _ ht => ht) rfl

theorem Aside.node {s t : State} (h : Aside s t) : t.node = s.node := (congrArg State.node h.rest :)

theorem State.body_congr {s t : State} (node : t.node = s.node) (strap : t.rd fPKG_STRAP_NODE_ID 0 = s.rd fPKG_STRAP_NODE_ID 0) :
    t.body = s.body := by
  funext kind op tag index sub off abort jseq data
  unfold State.body State.ownNode
  rw [node, strap]

theorem State.body_wr (s : State) {f : Fld} (i v : Nat) (hf : f.key ≠ fPKG_STRAP_NODE_ID.key) : (s.wr f i v).body = s.body :=
  State.body_congr rfl (State.rd_wr_key _ _ _ _ _ _ hf)

theorem Aside.body {s t : State} (h : Aside s t) : t.body = s.body := State.body_congr h.node (h.rd _ _ (by decide))

/-- A WRITE in band is answered in band. -/
theorem State.filed_out (t s : State) {w : Caller} (i j code : Nat) (bs data : List Byte) (inBand : w.path = 2) :
    (t.filed s (writeCmd w i j bs) code data).out = .cci w.port 0 (t.body 2 2 w.tag i j 0 code s.headSeq data) :: t.out := by
  have sent (u : State) (b : Bool) (f : TndS → List Kept) (xs : List Byte) :
      ((u.when_ b fun s => s.tndMod fun t => { t with kept := f t }).sayBack (writeCmd w i j bs) xs).out = .cci w.port 0 xs :: u.out := by
    have kept : (u.when_ b fun s => s.tndMod fun t => { t with kept := f t }).out = u.out := by
      cases b <;> rfl
    unfold State.sayBack
    rw [if_neg (by simp [writeCmd])]
    refine (congrArg State.out (if_pos inBand)).trans ?_
    exact congrArg _ kept
  obtain ⟨done, -⟩ := t.recsDone_aside (s.heard w).headSeq ((s.heard w).recsOf (writeCmd w i j bs) (s.originOf w).1 0 0xFF).length code
  refine (sent _ _ _ _).trans ?_
  rw [State.recsDone_out, writeCmd_who, done.body, State.headSeq_heard]
  rfl

theorem lockClaim_claims (h : s.serves w 0x1202) :
    EndsIn (.lockClaim w (s.originOf w).1) s fun t =>
      t.rd fTND_LOCK_HOLDER 0 = (s.originOf w).1
      ∧ (w.path = 2 → t.out = .cci w.port 0 (s.body 2 2 w.tag 0x1202 1 0 0 s.headSeq []) :: s.out) := by
  obtain ⟨ok, -, -, -, -, -, -, -, -, -, -, -, free, known⟩ := id h
  have small := s.originOf_lt ok
  refine lockClaim_ends ok small ?_
  have noted := s.noted_aside (writeCmd w 0x1202 1 (toBeBytes 1 (s.originOf w).1))
  have unheld := (noted.rd fTND_LOCK_HOLDER 0 (by decide)).trans free
  have claimed : (s.noted (writeCmd w 0x1202 1 (toBeBytes 1 (s.originOf w).1))).lockWrite (s.originOf w).1 (s.originOf w).1
      = (0, (s.noted (writeCmd w 0x1202 1 (toBeBytes 1 (s.originOf w).1))).wr fTND_LOCK_HOLDER 0 (s.originOf w).1) :=
    (if_neg known).trans (if_pos ⟨rfl, .inl unheld⟩)
  rw [State.byte_done h named_lock rfl small nofun nofun ⟨Nat.zero_le _, Nat.le_of_lt_succ small⟩ (congrArg noData claimed)
    ((h.noted _).same rfl rfl) (by decide)]
  refine ⟨(State.rd_filed ..).trans ((State.rd_wr_same ..).trans (Nat.mod_eq_of_lt small)), fun inBand => ?_⟩
  have unmoved : s.heard w = s := congrArg Prod.snd (if_pos inBand)
  have out : (s.noted (writeCmd w 0x1202 1 (toBeBytes 1 (s.originOf w).1))).out = s.out := by
    refine (State.each_journal_out _ _).trans ?_
    rw [writeCmd_who, unmoved]
  have bodies : ((s.noted (writeCmd w 0x1202 1 (toBeBytes 1 (s.originOf w).1))).wr fTND_LOCK_HOLDER 0 (s.originOf w).1).body = s.body :=
    (State.body_wr _ _ _ (by decide)).trans noted.body
  rw [State.filed_out _ _ _ _ _ _ _ inBand, bodies]
  exact congrArg _ out

theorem lockClaim_refuses {v : Nat} (h : s.serves w 0x1202) (hv : v < 256) (other : v ≠ (s.originOf w).1) :
    EndsIn (.lockClaim w v) s fun t => t.rd fTND_LOCK_HOLDER 0 = 0xFF := by
  obtain ⟨ok, -, -, -, -, -, -, -, -, -, -, -, free, -⟩ := id h
  refine lockClaim_ends ok hv ?_
  by_cases release : v = 0xFF
  · rw [State.byte_done (v := v) h named_lock rfl hv nofun nofun ⟨Nat.zero_le _, Nat.le_of_lt_succ hv⟩ (congrArg noData (if_pos release))
      ((h.noted _).same rfl rfl) (by decide), State.rd_filed]
    exact State.rd_wr_same ..
  · have foreign : (s.noted (writeCmd w 0x1202 1 (toBeBytes 1 v))).lockWrite (s.originOf w).1 v
        = (0xB, s.noted (writeCmd w 0x1202 1 (toBeBytes 1 v))) := (if_neg release).trans (if_neg fun e => other e.1)
    rw [State.byte_fails (code := 0xB) h named_lock rfl hv nofun nofun ⟨Nat.zero_le _, Nat.le_of_lt_succ hv⟩ (by decide) (congrArg noData foreign)
      (h.noted _), State.rd_filed]
    exact ((s.noted_aside _).rd fTND_LOCK_HOLDER 0 (by decide)).trans free

end

end Sys2Proof.Machine
end

section
/-! PROOFS. WARMRESET and TILERESET. -/
namespace Sys2Proof.Machine

/-! ### A tile reset begins (R69) -/

/-- The tile marked as being reset, and its routers with it. -/
def State.tileMarked (s : State) (n : Nat) : State :=
  s.pwrMod fun p =>
    { p with tiles := putBit p.tiles n true, culvert := putBit p.culvert n true,
             own := if s.rd fPWR_START_WAVE 0 = 15 then p.own else putBit p.own n true,
             waved := clearBits p.waved (65535 * 65536 ^ n), late := clearBits p.late (65535 * 65536 ^ n) }

/-- A tile reset that is not absorbed marks the tile, and what follows leaves the power state as it is. -/
theorem State.tileReset_marks {s : State} {n : Nat} (cold : s.pwr.coldHold = false) (warm : s.pwr.warm = false) (free : bitOf s.pwr.tiles n = false) :
    Keeps 0x1cdffeec127ff602 (s.tileMarked n) (s.tileReset n) := by
  unfold State.tileReset
  rw [if_neg (by simp [cold, warm, free])]
  dsimp only
  exact State.flmMod_keeps rfl (State.spwMod_keeps rfl (State.lanesReset_keeps rfl (State.each_keeps
    (State.gatesDrained_keeps rfl (State.xltReset_keeps rfl (State.each_keeps (State.modesOff_keeps rfl (State.putb_keeps rfl (State.clr1_keeps rfl
      (State.each_fields_keeps rfl (State.each_fields_keeps rfl (Keeps.refl _ (s.tileMarked n))
        fun _ h _ hf => State.clrWhere_keeps rfl h hf) fun _ h _ hf => State.clrWhere_keeps rfl h hf) rfl) rfl))
      fun _ h _ => State.portCovered_keeps rfl h)))
    fun _ h _ => State.lkMod_keeps rfl (State.linkHalt_keeps rfl h))))

theorem tilereset_begins {s : State} {w : Caller} {v n : Nat} (h : s.serves w 0x1103) (range : 1 ≤ v ∧ v ≤ 15) (one : setBits 4 v = [n])
    (cold : s.pwr.coldHold = false) (warm : s.pwr.warm = false) (free : bitOf s.pwr.tiles n = false) :
    EndsIn (.tilereset w v) s fun t => bitOf t.pwr.tiles n = true ∧ bitOf t.pwr.culvert n = true := by
  refine tilereset_ends h.1 (by omega) ?_
  have pwr := (s.noted_aside (writeCmd w 0x1103 0 (toBeBytes 1 v))).pwr
  have acts : (s.noted (writeCmd w 0x1103 0 (toBeBytes 1 v))).each (setBits 4 v) State.tileReset
      = (s.noted (writeCmd w 0x1103 0 (toBeBytes 1 v))).tileReset n := by
    rw [one]
    rfl
  have kept : Keeps 0x1cdffeec127ff642 _ ((s.noted (writeCmd w 0x1103 0 (toBeBytes 1 v))).tileReset n) := State.tileReset_keeps rfl (Keeps.refl ..)
  have marked := State.tileReset_marks (n := n) (pwr ▸ cold) (pwr ▸ warm) (pwr ▸ free)
  rw [State.byte_done h named_tilereset rfl (by omega) nofun nofun range (congrArg (fun t => (0, [], t)) acts)
    ((h.noted _).same (kept.tnd (by decide)) (kept.boot (by decide))) (by decide), State.filed_pwr, marked.pwr (by decide)]
  exact ⟨(bitOf_putBit ..).trans (if_pos rfl), (bitOf_putBit ..).trans (if_pos rfl)⟩

/-! ### A warm reset runs (R69, R70) -/

/-- Fences end; that is all of the power state that disarming touches. -/
theorem State.disarm_warm (s : State) : s.disarm.pwr.warm = s.pwr.warm := by
  have unfence (t : State) (n : Nat) : (t.domUnfence n).pwr.warm = t.pwr.warm := by
    have kicked : Keeps 0x8004000000000 { t with pwr := { t.pwr with fence := putBit t.pwr.fence n false } } (t.domUnfence n) :=
      State.domKick_keeps rfl (Keeps.refl ..)
    rw [kicked.pwr (by decide)]
  have held : ∃ z : State, Keeps 0x18004000482200 s z ∧ s.disarm = z.each (setBits 84 z.pwr.fence) State.domUnfence := by
    refine ⟨_, ?kept, rfl⟩
    exact State.each_keeps (State.each_keeps (State.wmMod_keeps rfl (State.each_keeps (State.wrb_keeps rfl (State.spwMod_keeps rfl (Keeps.refl ..)) rfl)
      fun _ h _ => Keeps.ite h (State.wr_keeps h rfl))) fun _ h _ => State.portMod_keeps rfl h) fun _ h _ => State.lkMod_keeps rfl h
  obtain ⟨z, kept, ends⟩ := held
  rw [ends, ← kept.pwr (by decide)]
  exact State.each_induct (fun t => t.pwr.warm = z.pwr.warm) (fun t n ht => (unfence t n).trans ht) rfl

/-- What a warm reset clears once the Spillway is disarmed. -/
def State.afterDisarm (s : State) : State :=
  State.wmReset (s.modesOff.spwMod fun w => { w with maskTiles := 0 }).coreEmpty false

/-- What a warm reset does to ports, links, lanes, the Spillway and the core, once the reset is marked. -/
def State.warmSweep (s : State) : State :=
  let s := s.each (List.range 64) State.portCovered
  let s := (s.each (List.range 8) fun s k => (s.linkHalt k).lkMod k fun l => { l with waveDone := false }).lanesReset fun _ => true
  s.disarm.afterDisarm

/-- The Tender's requests are dropped, and a device that was Open is locked again. -/
def State.warmDrop (s : State) : State :=
  let s := s.tndMod fun t => { t with xfers := [], exec := none, queue := [], bcast := [], restarting := false, limited := false }
  s.tapDrop.when_ (s.rd fBOOT_STAT_LC 0 == 1) fun s => s.lifecycle 0 true

/-- The start registers say that a warm reset with `cause` runs. -/
def State.warmMarks (s : State) (cause : Nat) : State :=
  let s := ((s.wr fTND_STAT_DEVSTATE 0 0).wr fPWR_START_WAVE 0 15).wr fSER_GSTAT_CALDONE 0 0
  let s := ((s.wr fPWR_START_PHASE 0 0).wr fRSV_STAT_PHOLD 0 0).slotsUnwave
  (s.wr fPWR_RSTCAUSE_LAST 0 cause).inc fPWR_RSTCAUSE_WARMCNT 0

theorem State.warmNow_parts (s : State) (cause : Nat) :
    ∃ z : State, z.pwr.warm = true ∧ s.warmNow cause = z.warmSweep.warmDrop.warmMarks cause := ⟨_, rfl, rfl⟩

theorem State.warmSweep_warm (s : State) : s.warmSweep.pwr.warm = s.pwr.warm := by
  have parts : ∃ z : State, Keeps 0x1ccf7ee8127bf602 s z ∧ s.warmSweep = z.disarm.afterDisarm := by
    refine ⟨_, ?first, rfl⟩
    exact State.lanesReset_keeps rfl (State.each_keeps (State.each_keeps (Keeps.refl ..) fun _ h _ => State.portCovered_keeps rfl h)
      fun _ h _ => State.lkMod_keeps rfl (State.linkHalt_keeps rfl h))
  obtain ⟨z, first, sweeps⟩ := parts
  have last : Keeps 0x118a2000098200 z.disarm z.disarm.afterDisarm :=
    State.wmReset_keeps rfl (State.coreEmpty_keeps rfl (State.spwMod_keeps rfl (State.modesOff_keeps rfl (Keeps.refl ..))))
  rw [sweeps, last.pwr (by decide), State.disarm_warm, first.pwr (by decide)]

theorem State.tapDrop_kept (s : State) : s.tapDrop.pwr = s.pwr ∧ s.tapDrop.tnd = s.tnd := by
  have kept : Keeps 0x200000000 s s.tapDrop := State.tapDrop_keeps rfl (Keeps.refl ..)
  exact ⟨kept.pwr (by decide), kept.tnd (by decide)⟩

theorem State.when_lifecycle_kept (s : State) (b : Bool) (lc : Nat) :
    (s.when_ b fun s => s.lifecycle lc true).pwr = s.pwr ∧ (s.when_ b fun s => s.lifecycle lc true).tnd.queue = s.tnd.queue := by
  cases b with
  | false => exact ⟨rfl, rfl⟩
  | true => exact ⟨rfl, rfl⟩

theorem State.warmDrop_kept (s : State) : s.warmDrop.pwr = s.pwr ∧ s.warmDrop.tnd.queue = [] := by
  obtain ⟨pwr, queue⟩ := State.when_lifecycle_kept (State.tapDrop
    (s.tndMod fun t => { t with xfers := [], exec := none, queue := [], bcast := [], restarting := false, limited := false })) (s.rd fBOOT_STAT_LC 0 == 1) 0
  obtain ⟨tapPwr, tapTnd⟩ := State.tapDrop_kept
    (s.tndMod fun t => { t with xfers := [], exec := none, queue := [], bcast := [], restarting := false, limited := false })
  exact ⟨pwr.trans tapPwr, queue.trans (congrArg TndS.queue tapTnd)⟩

theorem State.rd_slotsUnwave (s : State) (g : Fld) (i : Nat) : s.slotsUnwave.rd g i = s.rd g i := rfl

theorem State.warmMarks_marks (s : State) {cause : Nat} (hc : cause < 8) :
    (s.warmMarks cause).dev = 0 ∧ (s.warmMarks cause).rd fPWR_RSTCAUSE_LAST 0 = cause := by
  unfold State.warmMarks State.dev
  dsimp only
  constructor
  · rw [State.rd_inc_key _ _ _ _ _ _ (by decide), State.rd_wr_key _ _ _ _ _ _ (by decide), State.rd_slotsUnwave, State.rd_wr_key _ _ _ _ _ _ (by decide),
      State.rd_wr_key _ _ _ _ _ _ (by decide), State.rd_wr_key _ _ _ _ _ _ (by decide), State.rd_wr_key _ _ _ _ _ _ (by decide), State.rd_wr_same]
    rfl
  · rw [State.rd_inc_key _ _ _ _ _ _ (by decide), State.rd_wr_same]
    exact Nat.mod_eq_of_lt hc

theorem State.warmMarks_kept (s : State) (cause : Nat) : (s.warmMarks cause).pwr = s.pwr ∧ (s.warmMarks cause).tnd = s.tnd := by
  have kept : Keeps 0x1fdffeee12fffe02 s (s.warmMarks cause) :=
    State.inc_keeps rfl (State.wr_keeps (State.slotsUnwave_keeps rfl (State.wr_keeps (State.wr_keeps (State.wr_keeps (State.wr_keeps (State.wr_keeps
      (Keeps.refl ..) rfl) rfl) rfl) rfl) rfl)) rfl) rfl
  exact ⟨kept.pwr (by decide), kept.tnd (by decide)⟩

/-- A warm reset begins: it runs, the device is in Init, its cause is recorded, and no request waits. -/
theorem State.warmNow_begins (s : State) {cause : Nat} (hc : cause < 8) :
    (s.warmNow cause).pwr.warm = true ∧ (s.warmNow cause).dev = 0 ∧ (s.warmNow cause).rd fPWR_RSTCAUSE_LAST 0 = cause
      ∧ (s.warmNow cause).tnd.queue = [] := by
  obtain ⟨z, warm, parts⟩ := s.warmNow_parts cause
  obtain ⟨dev, last⟩ := State.warmMarks_marks z.warmSweep.warmDrop hc
  obtain ⟨pwr, tnd⟩ := State.warmMarks_kept z.warmSweep.warmDrop cause
  obtain ⟨dropPwr, queue⟩ := State.warmDrop_kept z.warmSweep
  rw [parts, pwr, tnd, dropPwr, State.warmSweep_warm]
  exact ⟨warm, dev, last, queue⟩

/-! ### WARMRESET (R456, R467) -/

/-- No reset runs or is due, and no record waits for a checkpoint: the reset is now. -/
theorem State.warmReset_now {s : State} (cold : s.pwr.coldHold = false) (warm : s.pwr.warm = false) (strap : s.pwr.strap.running = false)
    (due : s.pwr.warmDue = 0) (mirror : s.rdb fWLG_CTL_MIRROR 0 = false) : s.warmReset 3 = s.warmNow 3 := by
  unfold State.warmReset
  rw [if_neg (by simp [cold, warm, strap, due]), if_neg (by simp [State.ckWanted, mirror])]

theorem State.afterWrite_warmreset (s : State) (w : Caller) (data : List Byte) : s.afterWrite (writeCmd w 0x1102 0 data) = s.warmReset 3 := if_pos rfl

section
variable {s : State} {w : Caller} (h : s.serves w 0x1102)
include h

/-- Without records to mirror the reset begins as soon as the WRITE is filed. -/
theorem warmreset_resets (cold : s.pwr.coldHold = false) (warm : s.pwr.warm = false) (strap : s.pwr.strap.running = false) (due : s.pwr.warmDue = 0)
    (mirror : s.rdb fWLG_CTL_MIRROR 0 = false) :
    EndsIn (.warmreset w 0x5A) s fun t => t.pwr.warm = true ∧ t.dev = 0 ∧ t.rd fPWR_RSTCAUSE_LAST 0 = 3 := by
  refine warmreset_ends h.1 (by decide) ?_
  obtain ⟨filed, -⟩ := (s.noted (writeCmd w 0x1102 0 (toBeBytes 1 0x5A))).filed_aside s (writeCmd w 0x1102 0 (toBeBytes 1 0x5A)) 0 []
  have aside := (s.noted_aside (writeCmd w 0x1102 0 (toBeBytes 1 0x5A))).trans filed
  have now := State.warmReset_now (aside.pwr ▸ cold) (aside.pwr ▸ warm) (aside.pwr ▸ strap) (aside.pwr ▸ due)
    ((aside.rdb fWLG_CTL_MIRROR 0 (by decide)).trans mirror)
  obtain ⟨runs, dev, last, idle⟩ := State.warmNow_begins
    ((s.noted (writeCmd w 0x1102 0 (toBeBytes 1 0x5A))).filed s (writeCmd w 0x1102 0 (toBeBytes 1 0x5A)) 0 []) (cause := 3) (by decide)
  rw [State.call_acts (t := s.noted (writeCmd w 0x1102 0 (toBeBytes 1 0x5A))) h named_warmreset
    (State.preCode_byte h named_warmreset rfl (by decide) nofun nofun (by decide)) rfl (h.noted _).left, State.afterWrite_warmreset, now,
    State.dictNext_idle idle]
  exact ⟨runs, dev, last⟩

theorem warmreset_refused {v : Nat} (hv : v < 256) (other : v ≠ 0x5A) : EndsIn (.warmreset w v) s fun t => t.pwr = s.pwr ∧ t.dev = s.dev := by
  refine warmreset_ends h.1 hv ?_
  have noted := s.noted_aside (writeCmd w 0x1102 0 (toBeBytes 1 v))
  have out : beBytes (toBeBytes 1 v) < 0x5A ∨ 0x5A < beBytes (toBeBytes 1 v) := by
    rw [beBytes_toBeBytes hv]
    omega
  rw [State.call_refused h named_warmreset (State.preCode_range h named_warmreset nofun nofun (by decide) (toBeBytes_length ..) out) (by decide) (by decide),
    State.filed_pwr]
  exact ⟨noted.pwr, (State.rd_filed ..).trans noted.dev⟩

end

end Sys2Proof.Machine
end

section
/-! PROOFS. Accesses to the register TEN_SEL behind an internal gate that lets everything through: by a BATCH, and by DEBUG. -/
namespace Sys2Proof.Machine

/-! ### The internal gate with no rule (R287) -/

theorem State.verdict_open {s : State} (free : s.openGate) (space : Bool) (b : Nat) (w : Who) : s.verdict 64 space b w = (0, none) := by
  obtain ⟨rules, sound, passes⟩ := free
  unfold State.verdict
  rw [sound, rules, passes]
  rfl

/-- No part of an access is denied. -/
theorem State.chkParts_open {s : State} (free : s.openGate) (space : Bool) (w : Who) (addr n : Nat) :
    ∀ p ∈ s.chkParts 64 space w addr n, p.2.2.1 = 0 := by
  refine foldl_keeps (fun ps : List (Nat × Nat × Nat × Option Nat) => ∀ p ∈ ps, p.2.2.1 = 0) (fun ps b hps => ?_) nofun
  rw [State.verdict_open free]
  dsimp only
  split
  next k c v' r' last =>
    have open_ : v' = 0 := hps _ (List.mem_of_getLast? last)
    split
    · intro p hp
      rcases List.mem_append.1 hp with hp | hp
      · exact hps p (List.mem_of_mem_dropLast hp)
      · exact List.mem_singleton.1 hp ▸ open_
    · intro p hp
      rcases List.mem_append.1 hp with hp | hp
      · exact hps p hp
      · exact List.mem_singleton.1 hp ▸ rfl
  next => exact fun p hp => List.mem_singleton.1 hp ▸ rfl

theorem State.innerCheck_open {s : State} (free : s.openGate) (space : Bool) (m : Msg) (n : Nat) (dict : Bool) :
    s.innerCheck space m n dict = (0, s) := by
  have passes := State.chkParts_open free space (whoOf m) m.tgt n
  have found : (s.chkParts 64 space (whoOf m) m.tgt n).find? (fun p => p.2.2.1 != 0) = none :=
    List.find?_eq_none.2 fun p hp => by simp [passes p hp]
  have denied : (s.chkParts 64 space (whoOf m) m.tgt n).filter (fun p => p.2.2.1 != 0) = [] :=
    List.filter_eq_nil_iff.2 fun p hp => by simp [passes p hp]
  unfold State.innerCheck State.denyParts
  dsimp only
  rw [found, denied]
  rfl

theorem Aside.openGate {s t : State} (h : Aside s t) (free : s.openGate) : t.openGate := by
  obtain ⟨rules, sound, passes⟩ := free
  exact ⟨(congrArg ChkS.active h.chk).trans rules, (h.rdb _ _ (by decide)).trans sound, (h.rdb _ _ (by decide)).trans passes⟩

/-! ### The register TEN_SEL -/

/-- TEN_SEL: one word with one field of 13 bits. -/
def tenSel : RegDesc := { addr := 0x1000004, shape := .one, key := none, half := .whole, fields := [fTEN_SEL_TI] }

theorem State.findReg_tenSel (s : State) : s.findReg 0x1000004 = some (tenSel, 0) := rfl

theorem State.unreachable_tenSel (s : State) : s.unreachable tenSel 0 = false := rfl

theorem State.noWrite_tenSel (s : State) : s.noWrite tenSel 0 = false := rfl

theorem rowTable_tenSel : (rowTable.find? fun e => e.1 == tenSel.addr) = none := rfl

theorem ruleTable_tenSel : (ruleTable.find? fun e => e.1 == tenSel.addr) = none := rfl

theorem tenSel_of {v : Nat} (hv : v < 8192) : fTEN_SEL_TI.of v = v := by
  show v / 2 ^ 0 % 2 ^ 13 = v
  omega

theorem reservedIn_tenSel {v : Nat} (hv : v < 8192) : reservedIn [fTEN_SEL_TI] v = false := by
  show (decide (fTEN_SEL_TI.of v < 0 ∨ 0x1fff < fTEN_SEL_TI.of v) || false) = false
  rw [tenSel_of hv]
  simp
  omega

theorem State.stbyStops_tenSel (s : State) (v : Nat) : s.stbyStops [fTEN_SEL_TI] 0 v = false := by
  simp [State.stbyStops, show fTEN_SEL_TI.stby = false from rfl]

theorem State.discards_tenSel (s : State) {v : Nat} (hv : v < 8192) : s.discards [fTEN_SEL_TI] 0 v = false :=
  (State.discards_of_no_stby s 0 v rfl).trans (reservedIn_tenSel hv)

theorem State.writeAddr_tenSel (s : State) {v : Nat} (hv : v < 8192) (ev : Nat) : s.writeAddr 0x1000004 v ev = s.wr fTEN_SEL_TI 0 v := by
  have kept := s.discards_tenSel hv
  have taken : s.takeWord [fTEN_SEL_TI] 0 v ev = s.wr fTEN_SEL_TI 0 v := by
    unfold State.takeWord
    rw [kept, if_neg Bool.false_ne_true]
    show s.wr fTEN_SEL_TI 0 (fTEN_SEL_TI.of v) = _
    rw [tenSel_of hv]
  have plain : s.plainWrite tenSel 0 0x1000004 v ev = s.wr fTEN_SEL_TI 0 v := by
    unfold State.plainWrite
    rw [show tenSel.fields = [fTEN_SEL_TI] from rfl, kept, if_neg Bool.false_ne_true, if_neg (by decide), if_neg (by decide), taken]
  have word : s.writeReg tenSel 0 0x1000004 v ev = s.wr fTEN_SEL_TI 0 v := by
    unfold State.writeReg
    rw [rowTable_tenSel, ruleTable_tenSel, show tenSel.fields = [fTEN_SEL_TI] from rfl, kept]
    exact plain
  unfold State.writeAddr
  rw [if_neg (by decide), s.findReg_tenSel]
  dsimp only
  rw [s.noWrite_tenSel, if_neg Bool.false_ne_true, word]

theorem State.peek_tenSel (s : State) : s.peek 0x1000004 = s.rd fTEN_SEL_TI 0 := by
  have value : s.fieldRead tenSel 0 fTEN_SEL_TI = s.rd fTEN_SEL_TI 0 := rfl
  have word : s.view tenSel 0 = s.rd fTEN_SEL_TI 0 := by
    unfold State.view
    rw [s.unreachable_tenSel, show s.vfShut tenSel 0 = false from rfl, show s.laneDark tenSel 0 = false from rfl, if_neg (by decide), if_neg (by decide)]
    show s.fieldRead tenSel 0 fTEN_SEL_TI * 2 ^ 0 + 0 = _
    rw [value]
    omega
  unfold State.peek
  rw [if_neg (by decide), if_neg (by decide), if_neg (by decide), s.findReg_tenSel]
  exact word

theorem State.readAddr_tenSel {s : State} (unlatched : SMap.get 0 s.latch 0x1000004 = 0) (ev : Nat) : s.readAddr 0x1000004 ev = (s.rd fTEN_SEL_TI 0, s) := by
  have quiet : (s.rcClear 0x1000004 ev).refusedAt 0x1000004 = s := rfl
  unfold State.readAddr
  rw [unlatched]
  dsimp only
  rw [s.peek_tenSel, show s.latchedBy 0x1000004 = [] from rfl]
  exact congrArg _ quiet

end Sys2Proof.Machine
end

section
/-! PROOFS. WRITEs of BATCH and DEBUG that name TEN_SEL. -/
namespace Sys2Proof.Machine

/-! ### The Tender's own write of TEN_SEL (R457, R461) -/

theorem State.driven_keep (s : State) (p : Nat → Bool) (k : Nat) (gone : p k = false) :
    SMap.get Drive.quiet (SMap.keep s.spw.drive fun j _ => p j) k = .quiet := by
  rw [SMap.get_keep, gone]
  rfl

/-- With what showed a refusal set aside, no configuration-error source is driven. -/
theorem State.errAside_sources (s : State) (v : Nat) : (s.errAside.wr fTEN_SEL_TI 0 v).errSources = [] := by
  refine List.filter_eq_nil_iff.2 fun k hk => ?_
  obtain ⟨i, hi, rfl⟩ := List.mem_map.1 hk
  have low := List.mem_range.1 hi
  have off : (s.errAside.wr fTEN_SEL_TI 0 v).driven (0x3C0 + i) = .quiet :=
    s.driven_keep (fun j => decide (j < 0x3C0 ∨ 0x3D8 ≤ j)) _ (decide_eq_false (by omega))
  rw [off]
  decide

theorem State.rd_errAside (s : State) (g : Fld) (i : Nat) (hg : fARCH_CONFLICT_VALID.key ≠ g.key) : s.errAside.rd g i = s.rd g i :=
  State.rd_wrb_key { s with spw := { s.spw with drive := SMap.keep s.spw.drive fun k _ => decide (k < 0x3C0 ∨ 0x3D8 ≤ k) } }
    fARCH_CONFLICT_VALID 0 false g i hg

/-- What is put back touches the drivers and ARCH_CONFLICT alone, whatever the state it came from. -/
theorem State.errBack_from {W : Nat} {z t : State} (s : State) (hw : Within 0x400000200 W) (h : Keeps W z t) : Keeps W z (s.errBack t) :=
  State.when_keeps (State.each_keeps h fun _ ht _ => State.pulse_keeps (hw.mono rfl) ht) fun _ ht => State.wrb_keeps (hw.mono rfl) ht (hw.mono rfl)

/-- The state after a write of TEN_SEL that is taken. -/
def State.tenSelSet (s : State) (v : Nat) : State := s.errBack (s.errAside.wr fTEN_SEL_TI 0 v)

theorem State.tenSelSet_keeps (s : State) (v : Nat) : Keeps 0x4000400000200 s (s.tenSelSet v) :=
  State.errBack_from s rfl (State.wr_keeps (State.errAside_keeps rfl (Keeps.refl ..)) rfl)

theorem State.tenSelSet_reads (s : State) {v : Nat} (hv : v < 8192) : (s.tenSelSet v).rd fTEN_SEL_TI 0 = v := by
  have back : Keeps 0x400000200 (s.errAside.wr fTEN_SEL_TI 0 v) (s.tenSelSet v) := State.errBack_from s rfl (Keeps.refl ..)
  exact (back.rd _ _ rfl).trans ((State.rd_wr_same ..).trans (Nat.mod_eq_of_lt hv))

theorem State.runWrite_tenSel (s : State) {v : Nat} (hv : v < 8192) : s.runWrite tenSel 0 0x1000004 v 0 = (0, s.tenSelSet v) := by
  have valid : (s.errAside.wr fTEN_SEL_TI 0 v).rdb fARCH_CONFLICT_VALID 0 = false := by
    have cut : (s.errAside.wr fTEN_SEL_TI 0 v).rd fARCH_CONFLICT_VALID 0 = s.errAside.rd fARCH_CONFLICT_VALID 0 :=
      State.rd_wr_key _ _ _ _ _ _ (by decide)
    unfold State.rdb
    rw [cut]
    exact State.rdb_wrb_same _ _ _ _ rfl
  have unrefused : ¬ ((!(s.errAside.wr fTEN_SEL_TI 0 v).errSources.isEmpty) = true
      ∨ (decide (s.errAside.wr fTEN_SEL_TI 0 v = s.errAside) && !s.sameRW tenSel 0 v) = true) := by
    rintro (driven | same)
    · rw [s.errAside_sources] at driven
      exact absurd driven (by decide)
    · obtain ⟨kept, changed⟩ := Bool.and_eq_true_iff.1 same
      have reads : s.rd fTEN_SEL_TI 0 = v := by
        rw [← s.rd_errAside _ _ (by decide), ← of_decide_eq_true kept, State.rd_wr_same]
        exact Nat.mod_eq_of_lt hv
      have all : s.sameRW tenSel 0 v = true := by
        show ((fTEN_SEL_TI.acc != .rw || fTEN_SEL_TI.of v == s.rd fTEN_SEL_TI 0) && true) = true
        rw [tenSel_of hv, reads]
        simp
      rw [all] at changed
      exact absurd changed (by decide)
  unfold State.runWrite
  dsimp only
  rw [s.errAside.writeAddr_tenSel hv 0, if_neg (by decide), if_neg (by simp [valid]), if_neg unrefused]
  rfl

theorem State.judgeWrite_tenSel {s : State} (free : s.openGate) {v : Nat} (hv : v < 8192) (good : Bool) :
    s.judgeWrite 0x1000004 v good = (0, s.tenSelSet v) := by
  have key : tenSel.wrongKey v = false := rfl
  have busy : s.busyWrite tenSel 0 v = false := rfl
  have manager : s.unmanagesBy tenSel 0 v = false := rfl
  have odd : tenSel.odd v = false := by
    show (reservedIn [fTEN_SEL_TI] v || false) = false
    rw [reservedIn_tenSel hv]
    rfl
  unfold State.judgeWrite
  rw [if_neg (by decide), s.findReg_tenSel]
  dsimp only
  rw [key, busy, manager, odd, show tenSel.fields = [fTEN_SEL_TI] from rfl, s.stbyStops_tenSel, s.unreachable_tenSel, State.innerCheck_open free,
    if_neg (by decide), if_neg (by decide), if_neg (by simp [tenSel]), if_neg (by decide), if_neg (by decide), if_neg (by decide),
    if_neg (by simp [show tenSel.addr ≠ fXLT_WINSH_WORD.addr by decide]), if_neg (by decide)]
  dsimp only
  rw [if_neg (not_not.2 rfl)]
  exact s.runWrite_tenSel hv

end Sys2Proof.Machine
end

section
/-! PROOFS. WRITEs of BATCH and DEBUG that name TEN_SEL, and what a WRITE of each object does. -/
namespace Sys2Proof.Machine

/-! ### BATCH (R461) -/

/-- The bytes of a BATCH of one entry. -/
def batchOne (a v : Nat) : List Byte := [(a, v)].flatMap fun e => toBeBytes 4 e.1 ++ toBeBytes 4 e.2

theorem batchEntries_one {a v : Nat} (ha : a < 256 ^ 4) (hv : v < 256 ^ 4) : batchEntries (batchOne a v) = [(a, v)] := by
  have parsed : batchEntries (batchOne a v) = [(beBytes (toBeBytes 4 a), beBytes (toBeBytes 4 v))] := rfl
  rw [parsed, beBytes_toBeBytes ha, beBytes_toBeBytes hv]

theorem batchGood_one (a v : Nat) : batchGood (batchOne a v) = true := by
  have size : (batchOne a v).length = 8 := by simp [batchOne]
  unfold batchGood
  rw [size]
  rfl

section
variable {s : State} {w : Caller} {v : Nat}

/-- A BATCH of one entry has one record. -/
theorem State.recsOf_batchOne (s : State) (w : Caller) {a : Nat} (ha : a < 256 ^ 4) (hv : v < 256 ^ 4) (orig flags result : Nat) :
    (s.recsOf (writeCmd w 0x1400 0 (batchOne a v)) orig flags result).length = 1 := by
  unfold State.recsOf
  dsimp only
  rw [if_pos ⟨rfl, rfl, batchGood_one a v⟩, List.length_map, writeCmd_data, batchEntries_one ha hv]
  rfl

theorem batch_ends {a : Nat} {P : State → Prop} (ok : callerOk w = true) (ha : a < 2 ^ 32) (hv : v < 2 ^ 32)
    (h : P (s.call (writeCmd w 0x1400 0 (batchOne a v)))) : EndsIn (.batch w none [(a, v)]) s P := by
  have words : ([(a, v)].all fun e => decide (e.1 < 2 ^ 32 ∧ e.2 < 2 ^ 32)) = true :=
    List.all_eq_true.2 fun e he => decide_eq_true (List.mem_singleton.1 he ▸ ⟨ha, hv⟩)
  refine ⟨_, if_pos ?_, h⟩
  rw [ok, words]
  rfl

theorem State.judgeAll_tenSel (free : s.openGate) (hv : v < 8192) (good : Bool) : s.judgeAll [(0x1000004, v)] good = (0, 0, s.tenSelSet v) := by
  unfold State.judgeAll
  rw [List.foldl_cons, List.foldl_nil]
  dsimp only
  rw [if_neg (not_not.2 rfl), State.judgeWrite_tenSel free hv]
  rfl

theorem State.batchWrite_tenSel (free : s.openGate) (hv : v < 8192) :
    s.batchWrite (writeCmd w 0x1400 0 (batchOne 0x1000004 v)) = (0, [], s.tenSelSet v) := by
  unfold State.batchWrite
  rw [writeCmd_data, if_neg (not_not.2 (batchGood_one _ v)), batchEntries_one (by decide) (hv.trans (by decide)), State.judgeAll_tenSel free hv]
  exact if_pos rfl

theorem batch_sets (h : s.serves w 0x1400) (free : s.openGate) (hv : v < 8192) :
    EndsIn (.batch w none [(fTEN_SEL_TI.addr, v)]) s fun t => t.rd fTEN_SEL_TI 0 = v ∧ t.headSeq = (s.headSeq + 1) % 2 ^ 64 := by
  refine batch_ends h.1 (by decide) (hv.trans (by decide)) ?_
  have set := (s.noted (writeCmd w 0x1400 0 (batchOne 0x1000004 v))).tenSelSet_keeps v
  have acts := State.batchWrite_tenSel (w := w) ((s.noted_aside (writeCmd w 0x1400 0 (batchOne 0x1000004 v))).openGate free) hv
  have calls := State.call_done h named_batch (State.preCode_zero h named_batch nofun nofun (.inl rfl)) acts
    ((h.noted _).same (set.tnd (by decide)) (set.boot (by decide))) (by decide)
  rw [show fTEN_SEL_TI.addr = 0x1000004 from rfl, calls, State.rd_filed, State.headSeq_filed]
  refine ⟨State.tenSelSet_reads _ hv, ?_⟩
  rw [← State.headSeq_noted s _ (State.recsOf_batchOne _ w (a := 0x1000004) (by decide) (hv.trans (by decide)) ..)]
  unfold State.headSeq State.rd2
  rw [set.rd fWLG_HEAD_L 0 rfl, set.rd fWLG_HEAD_H 0 rfl]

end

/-! ### DEBUG (R284, R462) -/

/-- The bytes of a DEBUG request for the word of TEN_SEL in the register space. -/
def debugBytes (write : Bool) (data : List Byte) : List Byte :=
  toBeBytes 1 1 ++ toBeBytes 1 (if write then 2 else 1) ++ toBeBytes 2 4 ++ toBeBytes 8 0x1000004 ++ data

theorem toLeBytes_take (n x : Nat) : (toLeBytes n x).take n = toLeBytes n x := List.take_of_length_le (toLeBytes_length n x).le

section
variable {s : State} {w : Caller} {v : Nat}

theorem State.debugReg_reads (free : s.openGate) (unlatched : SMap.get 0 s.latch 0x1000004 = 0) :
    s.debugReg false false 0x1000004 4 [] = (0, toLeBytes 4 (s.rd fTEN_SEL_TI 0), s) := by
  have words : wordsAt 0x1000004 4 = [0x1000004] := rfl
  have reached : ([0x1000004].any fun w => (s.findReg w).any fun e => s.unreachable e.1 e.2) = false := rfl
  have bytes : s.readBytes 0x1000004 4 = (toLeBytes 4 (s.rd fTEN_SEL_TI 0), s) := by
    unfold State.readBytes
    rw [words, List.foldl_cons, List.foldl_nil, State.readAddr_tenSel unlatched]
    exact congrArg (·, s) (toLeBytes_take 4 _)
  unfold State.debugReg
  dsimp only
  rw [State.innerCheck_open free, words]
  dsimp only
  rw [if_neg (not_not.2 rfl), reached, if_neg Bool.false_ne_true, if_neg Bool.false_ne_true, bytes]

theorem State.debugReg_writes (free : s.openGate) (hv : v < 8192) :
    s.debugReg false true 0x1000004 4 (toLeBytes 4 v) = (0, [], s.wr fTEN_SEL_TI 0 v) := by
  have words : wordsAt 0x1000004 4 = [0x1000004] := rfl
  have reached : ([0x1000004].any fun w => (s.findReg w).any fun e => s.unreachable e.1 e.2) = false := rfl
  have value : leBytes (((toLeBytes 4 v).drop (0x1000004 - 0x1000004)).take 4) = v := by
    rw [Nat.sub_self, List.drop_zero, toLeBytes_take, leBytes_toLeBytes]
    exact Nat.mod_eq_of_lt (hv.trans (by decide))
  have written : (s.each [0x1000004] fun s w => s.writeAddr w (leBytes (((toLeBytes 4 v).drop (w - 0x1000004)).take 4)) 0) = s.wr fTEN_SEL_TI 0 v := by
    show s.writeAddr 0x1000004 (leBytes (((toLeBytes 4 v).drop (0x1000004 - 0x1000004)).take 4)) 0 = _
    rw [value, State.writeAddr_tenSel _ hv]
  unfold State.debugReg
  dsimp only
  rw [State.innerCheck_open free, words]
  dsimp only
  rw [if_neg (not_not.2 rfl), reached, if_neg Bool.false_ne_true, if_pos rfl, written]

/-- The request is for the register space, and its fields are in order. -/
theorem State.debugWrite_register (s : State) (write : Bool) {data : List Byte} (size : data.length = if write then 4 else 0) :
    s.debugWrite (debugBytes write data) =
      ((s.debugReg false write 0x1000004 4 data).1,
        if (s.debugReg false write 0x1000004 4 data).1 = 0 ∧ ¬ write = true then
          (s.debugReg false write 0x1000004 4 data).2.2.tndMod fun t => { t with dbgData := (s.debugReg false write 0x1000004 4 data).2.1 }
        else (s.debugReg false write 0x1000004 4 data).2.2) := by
  have space : beAt (debugBytes write data) 0 1 = 1 := rfl
  have op : beAt (debugBytes write data) 1 1 = if write then 2 else 1 := by cases write <;> rfl
  have count : beAt (debugBytes write data) 2 2 = 4 := by cases write <;> rfl
  have addr : beAt (debugBytes write data) 4 8 = 0x1000004 := by cases write <;> rfl
  have rest : (debugBytes write data).drop 12 = data := by cases write <;> rfl
  have length : (debugBytes write data).length = 12 + data.length := by simp [debugBytes]; omega
  have asks : ((if write then 2 else 1) == 2) = write := by cases write <;> rfl
  unfold State.debugWrite
  dsimp only
  rw [space, op, count, addr, rest, length, asks, if_neg (by cases write <;> simp [size]), if_pos rfl]

theorem State.debugWrite_reads (free : s.openGate) (unlatched : SMap.get 0 s.latch 0x1000004 = 0) :
    s.debugWrite (debugBytes false []) = (0, s.tndMod fun t => { t with dbgData := toLeBytes 4 (s.rd fTEN_SEL_TI 0) }) := by
  rw [State.debugWrite_register s false rfl, State.debugReg_reads free unlatched]
  rfl

theorem State.debugWrite_writes (free : s.openGate) (hv : v < 8192) :
    s.debugWrite (debugBytes true (toLeBytes 4 v)) = (0, s.wr fTEN_SEL_TI 0 v) := by
  rw [State.debugWrite_register s true (toLeBytes_length 4 v), State.debugReg_writes free hv]
  rfl

theorem debug_ends {write : Bool} {data : List Byte} {P : State → Prop} (ok : callerOk w = true) (short : data.length ≤ 1012)
    (h : P (s.call (writeCmd w 0x1500 0 (debugBytes write data)))) : EndsIn (.debug w 1 write fTEN_SEL_TI.addr 4 data) s P := by
  have admitted : (callerOk w && decide (1 < 256 ∧ fTEN_SEL_TI.addr < 2 ^ 64 ∧ 4 < 2 ^ 16 ∧ data.length ≤ 1012)) = true := by
    simp [ok, short, fTEN_SEL_TI]
  exact ⟨_, if_pos admitted, h⟩

theorem debug_reads (h : s.serves w 0x1500) (free : s.openGate) (unlatched : SMap.get 0 s.latch fTEN_SEL_TI.addr = 0) :
    EndsIn (.debug w 1 false fTEN_SEL_TI.addr 4 []) s fun t => t.tnd.dbgData = toLeBytes 4 (s.rd fTEN_SEL_TI 0) := by
  refine debug_ends h.1 (Nat.zero_le _) ?_
  have noted := s.noted_aside (writeCmd w 0x1500 0 (debugBytes false []))
  have quiet := h.noted (writeCmd w 0x1500 0 (debugBytes false []))
  have still : SMap.get 0 (s.noted (writeCmd w 0x1500 0 (debugBytes false []))).latch 0x1000004 = 0 := by
    rw [noted.latch]
    exact unlatched
  have calls := State.call_done h named_debug (data := debugBytes false []) (State.preCode_zero h named_debug nofun nofun (.inl rfl))
    (congrArg noData (State.debugWrite_reads (noted.openGate free) still)) ⟨quiet.left, quiet.queue, quiet.activate⟩ (by decide)
  rw [calls, (State.filed_aside ..).1.dbgData, ← noted.rd fTEN_SEL_TI 0 (by decide)]
  rfl

theorem debug_writes (h : s.serves w 0x1500) (free : s.openGate) (hv : v < 8192) :
    EndsIn (.debug w 1 true fTEN_SEL_TI.addr 4 (toLeBytes 4 v)) s fun t => t.rd fTEN_SEL_TI 0 = v := by
  refine debug_ends h.1 ((toLeBytes_length 4 v).trans_le (by decide)) ?_
  have noted := s.noted_aside (writeCmd w 0x1500 0 (debugBytes true (toLeBytes 4 v)))
  have calls := State.call_done h named_debug (data := debugBytes true (toLeBytes 4 v)) (State.preCode_zero h named_debug nofun nofun (.inl rfl))
    (congrArg noData (State.debugWrite_writes (noted.openGate free) hv)) ((h.noted _).same rfl rfl) (by decide)
  rw [calls, State.rd_filed]
  exact (State.rd_wr_same ..).trans (Nat.mod_eq_of_lt hv)

end

/-! ### All objects -/

/-- Settles O56: a WRITE is heard, checked, noted, has its object's effect, and is filed, and only the object's effect touches what the statement
speaks of. -/
theorem dictionaryObjects : Obligations.DictionaryObjects := by
  unfold Obligations.DictionaryObjects
  refine ⟨fun s c v ok hv => ?bytes, fun s c q ok hq => if_pos (seqOk ok hq), fun s c apply es ok few words => if_pos ?batch,
    fun s c space write a n data ok hspace ha hn hdata => if_pos ?debug, fun s w h => warmreset_resets h, fun s w v h => warmreset_refused h,
    fun s w v n h low high => tilereset_begins h ⟨low, high⟩, fun s w h => enterStandby_leaves h, fun s w h => enterStandby_stays h,
    fun s w h => enterOperational_asks h, fun s w h => enterOperational_refused h, fun s w q x h hq => epochcancel_withdraws h hq,
    fun s w q h hq => epochcancel_finds_none h hq, fun s w v h => batch_sets h, fun s w h => debug_reads h, fun s w v h => debug_writes h,
    fun s w h => lockClaim_claims h, fun s w v h => lockClaim_refuses h, fun s w h dev => precedence_selects h dev (by decide) (.inl rfl),
    fun s w h dev free => precedence_selects h dev (by decide) (.inr free), fun s w h => precedence_refused h,
    fun s w h dev => swclear_selects h dev (by decide) (.inl rfl), fun s w h dev free => swclear_selects h dev (by decide) (.inr free),
    fun s w h => cknow_starts h, fun s w h => cknow_idles h⟩
  case bytes =>
    have fits := byteOk ok hv
    exact ⟨if_pos fits, if_pos fits, if_pos fits, if_pos fits, if_pos fits, if_pos fits, if_pos ok, if_pos ok⟩
  case batch =>
    have all : (es.all fun e => decide (e.1 < 2 ^ 32 ∧ e.2 < 2 ^ 32)) = true := List.all_eq_true.2 fun e he => decide_eq_true (words e he)
    rw [ok, decide_eq_true few, all]
    rfl
  case debug =>
    have fits : space < 256 ∧ a < 2 ^ 64 ∧ n < 2 ^ 16 ∧ data.length ≤ 1012 := ⟨hspace, ha, hn, hdata⟩
    simp only [ok, fits, and_self, decide_true, Bool.and_true]

end Sys2Proof.Machine
end

section
/-! PROOFS. Steps of fabric time: a held step that passes a pending SETARM write as it is applied. -/
namespace Sys2Proof.Machine

/-- A WRITE of FT_CTRL, at index 0x9800 and subindex 4 of the dictionary, due at 1 ns: SETARM = 1 and TODMODE = 1. -/
def timedSetarm : Timed :=
  { seq := 0, at_ := 1, orig := 0, cmd := writeCmd { path := 0, mac := 0, port := 0, tag := 0 } 0x9800 4 (toBeBytes 4 0xC) }

/-- An Operational device in FREE with no source and TODMODE = 1, at fabric time 0: a forward step is held of which the slew has 1 ns still to
add, FT_SETSEC names second 2, `timedSetarm` is pending, and the internal gate lets everything through. -/
def heldBeforeSetarm : State :=
  ((((((({ ft := { run := true, slew := 2 ^ 40 }, tnd := { timed := [timedSetarm] } } : State).wr fTND_STAT_DEVSTATE 0 2).wr
    fCHK_GATE_MISS 64 1).wr fFT_STAT_STATE 0 1).wr fFT_STAT_SLEWING 0 1).wr fFT_STAT_STEPHELD 0 1).wr fFT_CTRL_TODMODE 0 1).wr fFT_SETSEC_L 0 2

/-- FORCESTEP takes the time on by the 1 ns and so passes the pending write, which acts at once (R99): its SETARM names a time more than 1 s
ahead, so that a step is held again (R86, R92). -/
theorem ftForcestep_heldBeforeSetarm :
    EndsIn (.ftForcestep 0x14) heldBeforeSetarm fun t =>
      t.ft.now = 1 ∧ t.tnd.timed = [] ∧ t.rdb fFT_STAT_STEPHELD 0 = true := ⟨_, rfl, by decide +kernel⟩

/-- Refutes O21: its clause of FORCESTEP with a step held has STEPHELD = 0 and no slew afterwards.  The step is applied, but the writes
whose apply time it passes act with it, and the one pending in `heldBeforeSetarm` leaves a new step held. -/
theorem not_fabricTimeInputs : ¬ Obligations.FabricTimeInputs := by
  rintro ⟨-, -, -, -, -, -, -, -, -, -, -, -, -, -, -, -, -, forced⟩
  obtain ⟨t, run, applied, -⟩ := forced heldBeforeSetarm 0x14 (by decide) (by decide +kernel) rfl rfl (by decide +kernel) (by decide)
  obtain ⟨u, run', -, -, held⟩ := ftForcestep_heldBeforeSetarm
  obtain rfl : t = u := by
    have same := run.symm.trans run'
    injection same
  exact Bool.false_ne_true (applied.symm.trans held)

end Sys2Proof.Machine
end

section
/-! PROOFS. Lanes: the record of a lane beside its registers, and what keeping an adaptation, losing an eye scan and going to DETECT make
of both. -/
namespace Sys2Proof.Machine

/-! ### The record of a lane -/

theorem State.lane_laneMod (s : State) (l : Nat) (f : Lane → Lane) (m : Nat) :
    (s.laneMod l f).lane m = if l = m then f (s.lane l) else s.lane m := SMap.get_mod ..

@[simp] theorem State.lane_laneMod_same (s : State) (l : Nat) (f : Lane → Lane) : (s.laneMod l f).lane l = f (s.lane l) := SMap.get_mod_same ..

@[simp] theorem State.lane_wr (s : State) (f : Fld) (i v l : Nat) : (s.wr f i v).lane l = s.lane l := rfl
@[simp] theorem State.lane_wrb (s : State) (f : Fld) (i : Nat) (b : Bool) (l : Nat) : (s.wrb f i b).lane l = s.lane l := rfl
@[simp] theorem State.lane_setStage (s : State) (i v l : Nat) : (s.setStage i v).lane l = s.lane l := rfl

@[simp] theorem State.lane_setTaps (s : State) (i : Nat) (t : Nat × Nat × Nat) (l : Nat) : (s.setTaps i t).lane l = s.lane l := by
  simp only [State.setTaps, State.lane_wr]

@[simp] theorem State.lane_setPreset (s : State) (i p l : Nat) : (s.setPreset i p).lane l = s.lane l := by
  simp only [State.setPreset, State.lane_wr, State.lane_setTaps]

/-! ### Counts and one-bit fields -/

@[simp] theorem State.rd_wrb_same (s : State) (f : Fld) (i : Nat) (b : Bool) : (s.wrb f i b).rd f i = b2n b % 2 ^ f.width := State.rd_wr_same ..

/-- A counting field stops at its highest value. -/
@[simp] theorem State.rd_inc_same (s : State) (f : Fld) (i n : Nat) : (s.inc f i n).rd f i = satAdd f.width (s.rd f i) n :=
  (State.rd_wr_same ..).trans (Nat.mod_eq_of_lt (satAdd_lt ..))

/-- A count of errors of a lane, in 8 bits, after one more. -/
theorem satAdd_lane_count (x : Nat) : satAdd 8 x 1 = min 0xFF (x + 1) := min_comm ..

/-! ### Adaptation and eye scans (R104, R120) -/

/-- The fields that the receiver's adaptation moves. -/
def rxeqKeys : List Nat := [fSER_RXEQ_CTLE.key, fSER_RXEQ_VGA.key, fSER_RXEQ_DFE1.key]

theorem State.rd_adaptKeep (s : State) (l : Nat) (g : Fld) (j : Nat) (h : g.key ∉ rxeqKeys) : (s.adaptKeep l).rd g j = s.rd g j := by
  simp only [rxeqKeys, List.mem_cons, List.not_mem_nil, or_false, not_or] at h
  obtain ⟨ctle, vga, dfe1⟩ := h
  unfold State.adaptKeep
  rw [State.rd_wr_key _ _ _ _ _ _ (Ne.symm dfe1), State.rd_wr_key _ _ _ _ _ _ (Ne.symm vga), State.rd_wr_key _ _ _ _ _ _ (Ne.symm ctle)]

/-- The fields that an eye scan writes as it ends. -/
def scanKeys : List Nat := [fSER_EYECTL_DONE.key, fSER_EYECNT_COUNT.key]

theorem State.rd_eyeLost (s : State) (l : Nat) (g : Fld) (j : Nat) (h : g.key ∉ scanKeys) : (s.eyeLost l).rd g j = s.rd g j := by
  simp only [scanKeys, List.mem_cons, List.not_mem_nil, or_false, not_or] at h
  obtain ⟨done, count⟩ := h
  unfold State.eyeLost
  split
  · rw [State.rd_wr_key _ _ _ _ _ _ (Ne.symm count), State.rd_wrb_key _ _ _ _ _ _ (Ne.symm done), State.laneMod_rd]
  · rfl

theorem State.scan_eyeLost (s : State) (l : Nat) : ((s.eyeLost l).lane l).scan = false := by
  unfold State.eyeLost
  split
  · simp
  · next idle => exact Bool.eq_false_iff.2 idle

/-! ### DETECT (R111) -/

/-- The fields of a receiver that goes to DETECT. -/
def detectKeys : List Nat :=
  [fSER_LSTAT_STAGE.key, fSER_LSTAT_RXINV.key, fSER_LSTAT_CDRLOCK.key, fSER_LSTAT_MARKLOCK.key] ++ rxeqKeys ++ scanKeys

theorem State.rd_laneDetect (s : State) (l : Nat) (g : Fld) (j : Nat) (h : g.key ∉ detectKeys) : (s.laneDetect l).rd g j = s.rd g j := by
  simp only [detectKeys, List.mem_append, List.mem_cons, List.not_mem_nil, or_false, not_or] at h
  obtain ⟨⟨⟨stage, inv, clock, mark⟩, rxeq⟩, scan⟩ := h
  unfold State.laneDetect State.setStage
  rw [State.laneMod_rd, State.rd_wr_key _ _ _ _ _ _ (Ne.symm stage), State.rd_wrb_key _ _ _ _ _ _ (Ne.symm inv),
    State.rd_wrb_key _ _ _ _ _ _ (Ne.symm mark), State.rd_wrb_key _ _ _ _ _ _ (Ne.symm clock), State.rd_eyeLost _ _ _ _ scan,
    State.rd_adaptKeep _ _ _ _ rxeq]

/-- A receiver in DETECT has no lock. -/
theorem State.laneDetect_shows (s : State) (l : Nat) :
    (s.laneDetect l).laneStage l = 1 ∧ (s.laneDetect l).rd fSER_LSTAT_CDRLOCK l = 0 ∧ (s.laneDetect l).rd fSER_LSTAT_MARKLOCK l = 0 := by
  unfold State.laneDetect State.laneStage State.setStage
  simp (disch := decide) only [State.laneMod_rd, State.rd_wr_key, State.rd_wrb_key, State.rd_wr_same, State.rd_wrb_same]
  decide

/-! ### A lane that fails (R111) -/

theorem State.rd_when_pulse (s : State) (b : Bool) (src : Nat) (g : Fld) (j : Nat) : (s.when_ b fun t => t.pulse src).rd g j = s.rd g j := by
  cases b <;> rfl

theorem State.rd_laneFail (s : State) (l cause : Nat) (g : Fld) (j : Nat) (h : g.key ∉ fSER_LSTAT_FAILCAUSE.key :: detectKeys) :
    (s.laneFail l cause).rd g j = s.rd g j := by
  have other := List.ne_of_not_mem_cons h
  have detect := List.not_mem_of_not_mem_cons h
  unfold State.laneFail
  rw [State.rd_laneDetect _ _ _ _ detect, State.rd_when_pulse, State.rd_wr_key _ _ _ _ _ _ (Ne.symm other)]

/-- A lane that has failed keeps its cause, and starts again in DETECT with no lock. -/
theorem State.laneFail_shows (s : State) (l : Nat) {cause : Nat} (hc : cause < 16) :
    (s.laneFail l cause).laneStage l = 1 ∧ (s.laneFail l cause).rd fSER_LSTAT_FAILCAUSE l = cause
    ∧ (s.laneFail l cause).rd fSER_LSTAT_CDRLOCK l = 0 ∧ (s.laneFail l cause).rd fSER_LSTAT_MARKLOCK l = 0 := by
  obtain ⟨stage, clock, mark⟩ := State.laneDetect_shows ((s.wr fSER_LSTAT_FAILCAUSE l cause).when_
    (decide (6 ≤ s.laneStage l ∧ s.laneStage l ≤ 7)) fun t => t.pulse (0x168 + laneTile l)) l
  refine ⟨stage, ?_, clock, mark⟩
  unfold State.laneFail
  rw [State.rd_laneDetect _ _ _ _ (by decide), State.rd_when_pulse, State.rd_wr_same]
  exact Nat.mod_eq_of_lt hc

end Sys2Proof.Machine
end

section
/-! PROOFS. The coding on a lane: symbols, scrambling, stuffing, lane markers and blocks are undone by what receives them. -/
namespace Sys2Proof.Machine

/-! ### Symbols (R106) -/

theorem graySym_lt (b1 b0 : Bool) : graySym b1 b0 < 4 := by cases b1 <;> cases b0 <;> decide

theorem symB1_graySym (b1 b0 : Bool) : symB1 (graySym b1 b0) = b1 := by cases b1 <;> cases b0 <;> rfl

theorem symB0_graySym (b1 b0 : Bool) : symB0 (graySym b1 b0) = b0 := by cases b1 <;> cases b0 <;> rfl

theorem toSyms_lt : ∀ bits : List Bool, ∀ x ∈ toSyms bits, x < 4
  | b1 :: b0 :: r => List.forall_mem_cons.2 ⟨graySym_lt b1 b0, toSyms_lt r⟩
  | [] => nofun
  | [_] => nofun

/-- Bits in pairs come back from their symbols. -/
theorem ofSyms_toSyms : ∀ bits : List Bool, bits.length % 2 = 0 → ofSyms (toSyms bits) = bits
  | [], _ => rfl
  | [_], odd => absurd odd Nat.one_ne_zero
  | b1 :: b0 :: r, even => by
    have tail : ofSyms (toSyms r) = r := ofSyms_toSyms r (by simp only [List.length_cons] at even; omega)
    calc ofSyms (toSyms (b1 :: b0 :: r)) = symB1 (graySym b1 b0) :: symB0 (graySym b1 b0) :: ofSyms (toSyms r) := rfl
      _ = b1 :: b0 :: r := by rw [symB1_graySym, symB0_graySym, tail]

theorem symFlip_symFlip (inv : Bool) {x : Nat} (hx : x < 4) : symFlip inv (symFlip inv x) = x := by
  cases inv with
  | false => rfl
  | true => exact Nat.sub_sub_self (Nat.le_of_lt_succ hx)

/-- A pair inverted at both ends is not inverted. -/
theorem map_symFlip_symFlip (inv : Bool) {xs : List Nat} (h : ∀ x ∈ xs, x < 4) : (xs.map (symFlip inv)).map (symFlip inv) = xs := by
  rw [List.map_map]
  exact (List.map_congr_left fun x hx => symFlip_symFlip inv (h x hx)).trans (List.map_id xs)

theorem map_symFlip_false (xs : List Nat) : xs.map (symFlip false) = xs := List.map_id xs

/-! ### Scrambling (R108) -/

@[simp] theorem scramble_length (st : Nat) (bits : List Bool) : (scramble st bits).length = bits.length := by
  induction bits generalizing st with
  | nil => rfl
  | cons d ds ih => exact congrArg (· + 1) (ih _)

/-- The sequence goes by the scrambler's state alone, so that descrambling undoes scrambling. -/
theorem scramble_scramble (st : Nat) (bits : List Bool) : scramble st (scramble st bits) = bits := by
  induction bits generalizing st with
  | nil => rfl
  | cons d ds ih =>
    simp only [scramble, ih]
    cases d <;> cases scrBit st <;> rfl

/-! ### Stuffing (R109) -/

/-- The 46th symbol of a run has a stuff pair behind it, and the count starts again. -/
theorem stuff_full {last n x : Nat} (xs : List Nat) (full : runCount last n x = 46) :
    stuff last n (x :: xs) = x :: (stuffPair x).1 :: (stuffPair x).2 :: stuff x 0 xs := if_pos full

theorem stuff_short {last n x : Nat} (xs : List Nat) (short : runCount last n x ≠ 46) :
    stuff last n (x :: xs) = x :: stuff x (runCount last n x) xs := if_neg short

/-- The pair that follows the 46th symbol of a run is the one that is taken out there. -/
theorem unstuff_stuff (last n : Nat) (xs : List Nat) : unstuff last n (stuff last n xs) = (xs, 0) := by
  induction xs generalizing last n with
  | nil => rfl
  | cons x xs ih =>
    by_cases full : runCount last n x = 46
    · rw [stuff_full xs full]
      unfold unstuff
      simp only [full, if_true, ih]
    · rw [stuff_short xs full]
      unfold unstuff
      simp only [full, if_false, ih]

theorem stuffPair_lt (x : Nat) : (stuffPair x).1 < 4 ∧ (stuffPair x).2 < 4 := by
  unfold stuffPair
  split <;> decide

theorem stuffPair_apart (x : Nat) : (stuffPair x).2 ≠ (stuffPair x).1 := by
  unfold stuffPair
  split <;> decide

theorem stuff_lt {last n : Nat} {xs : List Nat} (h : ∀ x ∈ xs, x < 4) : ∀ x ∈ stuff last n xs, x < 4 := by
  induction xs generalizing last n with
  | nil => nofun
  | cons x xs ih =>
    obtain ⟨hx, hxs⟩ := List.forall_mem_cons.1 h
    obtain ⟨first, second⟩ := stuffPair_lt x
    by_cases full : runCount last n x = 46
    · rw [stuff_full xs full]
      exact List.forall_mem_cons.2 ⟨hx, List.forall_mem_cons.2 ⟨first, List.forall_mem_cons.2 ⟨second, ih hxs⟩⟩⟩
    · rw [stuff_short xs full]
      exact List.forall_mem_cons.2 ⟨hx, ih hxs⟩

/-- The stream ends with `m` of symbol `l` in a row, and the count is `n` of symbol `last`: it misses no more than one symbol, the second of
a stuff pair. -/
def CountNear (last n l m : Nat) : Prop := l = last ∧ m ≤ n + 1 ∨ n = 0 ∧ m ≤ 1

/-- The symbols in a row after symbol `x`, where `m` of symbol `l` stood before it. -/
def rowCount (l m x : Nat) : Nat := if x = l then m + 1 else 1

theorem longestRun_cons {l m x : Nat} {xs : List Nat} (hm : m ≤ 48) (h : longestRun x (rowCount l m x) xs ≤ 48) :
    longestRun l m (x :: xs) ≤ 48 := by
  unfold rowCount at h
  unfold longestRun
  split
  · next same => rwa [if_pos same] at h
  · next other =>
    rw [if_neg other] at h
    exact max_le hm h

/-- One data symbol on, the count still misses no more than one. -/
theorem CountNear.rowCount_le {last n l m : Nat} (h : CountNear last n l m) (x : Nat) : rowCount l m x ≤ runCount last n x + 1 := by
  rcases h with ⟨rfl, near⟩ | ⟨rfl, one⟩
  · unfold rowCount runCount
    split <;> omega
  · have fresh : runCount last 0 x = 1 := ite_self 1
    rw [fresh]
    unfold rowCount
    split <;> omega

/-- A run ends at its 46th symbol with the stuff pair, whose first symbol may still be of the run. -/
theorem longestRun_stuff {last n l m : Nat} (xs : List Nat) (hn : n ≤ 45) (near : CountNear last n l m) :
    longestRun l m (stuff last n xs) ≤ 48 := by
  have short : m ≤ 46 := by rcases near with ⟨-, h⟩ | ⟨-, h⟩ <;> omega
  induction xs generalizing last n l m with
  | nil => exact short.trans (by decide)
  | cons x xs ih =>
    have count : runCount last n x ≤ 46 := by unfold runCount; split <;> omega
    have row : rowCount l m x ≤ runCount last n x + 1 := near.rowCount_le x
    by_cases full : runCount last n x = 46
    · have pair : rowCount x (rowCount l m x) (stuffPair x).1 ≤ 48 := by
        unfold rowCount at row ⊢
        split <;> omega
      have fresh : rowCount (stuffPair x).1 (rowCount x (rowCount l m x) (stuffPair x).1) (stuffPair x).2 = 1 := if_neg (stuffPair_apart x)
      rw [stuff_full xs full]
      refine longestRun_cons (by omega) (longestRun_cons (by omega) (longestRun_cons pair ?_))
      rw [fresh]
      exact ih (by decide) (.inr ⟨rfl, le_rfl⟩) (by decide)
    · rw [stuff_short xs full]
      exact longestRun_cons (by omega) (ih (by omega) (.inl ⟨rfl, row⟩) (by omega))

/-! ### Lane markers (R110) -/

theorem syncSyms_lt : ∀ x ∈ syncSyms, x < 4 := by decide

theorem markerBit_lt (b : Bool) : ∀ x ∈ markerBit b, x < 4 := by cases b <;> decide

@[simp] theorem markerBits_length (w : Nat) : (markerBits w).length = 48 := by simp [markerBits]

theorem markerSyms_lt (w : Nat) : ∀ x ∈ markerSyms w, x < 4 := fun x hx => by
  rcases List.mem_append.1 hx with sync | payload
  · exact syncSyms_lt x sync
  · obtain ⟨b, -, hb⟩ := List.mem_flatMap.1 payload
    exact markerBit_lt b x hb

theorem markerSyms_length (w : Nat) : (markerSyms w).length = 112 := by
  have two : ∀ b, (markerBit b).length = 2 := by decide
  have payload : ((markerBits w).flatMap markerBit).length = 96 := by
    simp [List.length_flatMap, two]
  rw [markerSyms, List.length_append, payload]
  rfl

/-- Two symbols of a payload give back their bit. -/
theorem payloadOf_markerBit (bits : List Bool) (acc : Nat) :
    payloadOf (bits.flatMap markerBit) acc = bits.foldl (fun a b => 2 * a + b2n b) acc := by
  induction bits generalizing acc with
  | nil => rfl
  | cons b bits ih => cases b <;> exact ih _

/-- The low `n` bits of `w`, the highest first, as one number. -/
theorem foldl_bits (w n acc : Nat) :
    ((List.range n).map fun i => bitOf w (n - 1 - i)).foldl (fun a b => 2 * a + b2n b) acc = acc * 2 ^ n + w % 2 ^ n := by
  induction n generalizing acc with
  | zero => simp [Nat.mod_one]
  | succ n ih =>
    have top : b2n (bitOf w n) = w / 2 ^ n % 2 := by
      unfold bitOf
      rcases Nat.mod_two_eq_zero_or_one (w / 2 ^ n) with h | h <;> rw [h] <;> rfl
    have rest : ∀ i, n + 1 - 1 - (i + 1) = n - 1 - i := fun i => by omega
    rw [List.range_succ_eq_map, List.map_cons, List.map_map, List.foldl_cons]
    simp only [Function.comp_def, rest]
    rw [ih, Nat.sub_zero, Nat.add_sub_cancel, top, Nat.mod_pow_succ]
    ring

theorem payloadOf_markerSyms {w : Nat} (hw : w < 2 ^ 48) : payloadOf ((markerBits w).flatMap markerBit) 0 = w := by
  rw [payloadOf_markerBit, markerBits, foldl_bits w 48 0, Nat.zero_mul, Nat.zero_add, Nat.mod_eq_of_lt hw]

/-- The symbols of a marker are found with its payload. -/
theorem markerOf_markerSyms {w : Nat} (hw : w < 2 ^ 48) : markerOf (markerSyms w) = some (false, w) := by
  have sync : (markerSyms w).take 16 = syncSyms := rfl
  have payload : (markerSyms w).drop 16 = (markerBits w).flatMap markerBit := rfl
  simp only [markerOf, sync, payload, map_symFlip_false, payloadOf_markerSyms hw, if_true, Option.some_or]

/-- The symbols of a marker inverted are no sync pattern, and inverted again are the marker's. -/
theorem markerOf_markerSyms_inverted {w : Nat} (hw : w < 2 ^ 48) : markerOf ((markerSyms w).map (symFlip true)) = some (true, w) := by
  have other : syncSyms.map (symFlip true) ≠ syncSyms := by decide
  have sync : ((markerSyms w).map (symFlip true)).take 16 = syncSyms.map (symFlip true) := List.map_take.symm
  have payload : (((markerSyms w).map (symFlip true)).drop 16).map (symFlip true) = (markerBits w).flatMap markerBit := by
    rw [← List.map_drop, map_symFlip_symFlip true fun x hx => markerSyms_lt w x (List.mem_of_mem_drop hx)]
    rfl
  simp only [markerOf, sync, payload, map_symFlip_false, map_symFlip_symFlip true syncSyms_lt, payloadOf_markerSyms hw, other, if_true, if_false,
    Option.none_or]

/-! ### Blocks (R107) -/

/-- A block received gives back the bits it was sent with. -/
theorem dataOf_blockOf (pidx w : Nat) (inv : Bool) {bits : List Bool} (even : bits.length % 2 = 0) :
    dataOf pidx inv (blockOf pidx w inv bits) = bits := by
  have scrambled : (scramble (scrSeed pidx) bits).length % 2 = 0 := by rwa [scramble_length]
  have syms : ∀ x ∈ stuff 4 0 (toSyms (scramble (scrSeed pidx) bits)), x < 4 := stuff_lt (toSyms_lt _)
  have payload : ((blockOf pidx w inv bits).drop 112).map (symFlip inv) = stuff 4 0 (toSyms (scramble (scrSeed pidx) bits)) := by
    rw [blockOf, ← List.map_drop, List.drop_left' (markerSyms_length w), map_symFlip_symFlip inv syms]
  rw [dataOf, payload, unstuff_stuff, ofSyms_toSyms _ scrambled, scramble_scramble]

/-- The blocks of a stream, each begun by its marker, give back the stream. -/
theorem dataOf_blocksOf (pidx : Nat) (mk : Nat → Nat) (inv : Bool) (seq : Nat) {bits : List Bool} (n : Nat) (even : bits.length % 2 = 0)
    (fits : bits.length ≤ n * blockBits) : (blocksOf pidx mk inv seq bits n).flatMap (dataOf pidx inv) = bits := by
  induction n generalizing seq bits with
  | zero =>
    obtain rfl : bits = [] := List.eq_nil_of_length_eq_zero (by omega)
    rfl
  | succ n ih =>
    unfold blocksOf
    split
    · next none => rw [List.isEmpty_iff.1 none]; rfl
    · have head : (bits.take blockBits).length % 2 = 0 := by rw [List.length_take]; unfold blockBits; omega
      have tail : (bits.drop blockBits).length % 2 = 0 := by rw [List.length_drop]; unfold blockBits; omega
      have room : (bits.drop blockBits).length ≤ n * blockBits := by
        rw [List.length_drop]
        unfold blockBits at fits ⊢
        omega
      rw [List.flatMap_cons, dataOf_blockOf _ _ _ head, ih _ tail room, List.take_append_drop]

end Sys2Proof.Machine
end

section
/-! PROOFS. The markers that a lane sends, and what a lane in a loopback drives and hears. -/
namespace Sys2Proof.Machine

/-! ### The CRC of a marker (R110) -/

theorem crcStep_lt {c : Nat} : crcStep 8 0x07 c < 2 ^ 8 := by
  have shifted : c * 2 % 2 ^ 8 < 2 ^ 8 := Nat.mod_lt _ (by decide)
  unfold crcStep
  split
  · exact Nat.xor_lt_two_pow shifted (by decide)
  · exact shifted

theorem crcByte_lt (c : Nat) (b : Byte) : crcByte 8 0x07 c b < 2 ^ 8 := by
  unfold crcByte
  rw [show List.range 8 = List.range 7 ++ [7] from rfl, List.foldl_append]
  exact crcStep_lt

theorem crc8_lt {init : Nat} (bs : List Byte) (h : init < 2 ^ 8) : crc8 init bs < 2 ^ 8 :=
  foldl_keeps (· < 2 ^ 8) (fun c b _ => crcByte_lt c b) h

/-! ### The fields of a marker (R110) -/

/-- A marker's bits below its CRC. -/
def markerLow (pidx lpos link node phase preset step ack seq : Nat) : Nat :=
  pidx * 2 ^ 36 + lpos * 2 ^ 32 + link * 2 ^ 29 + node * 2 ^ 25 + phase * 2 ^ 23 + preset * 2 ^ 19 + step * 2 ^ 16 + ack * 2 ^ 15 + seq

theorem markerWord_eq (pidx lpos link node phase preset step ack seq : Nat) :
    markerWord pidx lpos link node phase preset step ack seq
      = crc8 0xFF (toBeBytes 5 (markerLow pidx lpos link node phase preset step ack seq)) * 2 ^ 40
        + markerLow pidx lpos link node phase preset step ack seq := rfl

/-- The fields of a marker fit their places. -/
structure MarkerFits (pidx lpos link node phase preset step seq : Nat) : Prop where
  pidx : pidx < 2 ^ 4
  lpos : lpos < 2 ^ 4
  link : link < 2 ^ 3
  node : node < 2 ^ 4
  phase : phase < 2 ^ 2
  preset : preset < 2 ^ 4
  step : step < 2 ^ 3
  seq : seq < 2 ^ 15

section
variable {pidx lpos link node phase preset step seq : Nat} (ack : Bool) (fits : MarkerFits pidx lpos link node phase preset step seq)
include fits

theorem markerLow_lt : markerLow pidx lpos link node phase preset step (b2n ack) seq < 2 ^ 40 := by
  obtain ⟨hpidx, hlpos, hlink, hnode, hphase, hpreset, hstep, hseq⟩ := fits
  have hack : b2n ack < 2 := by cases ack <;> decide
  unfold markerLow
  omega

/-- The CRC of a marker is that of its other bits. -/
theorem markerWord_crc :
    crc8 0xFF (toBeBytes 5 (markerWord pidx lpos link node phase preset step (b2n ack) seq % 2 ^ 40))
      = bitsOf (markerWord pidx lpos link node phase preset step (b2n ack) seq) 40 8 := by
  have low := markerLow_lt ack fits
  rw [markerWord_eq]
  generalize markerLow pidx lpos link node phase preset step (b2n ack) seq = w at low
  have crc : crc8 0xFF (toBeBytes 5 w) < 2 ^ 8 := crc8_lt _ (by decide)
  rw [Nat.mul_add_mod', Nat.mod_eq_of_lt low]
  generalize crc8 0xFF (toBeBytes 5 w) = c at crc
  unfold bitsOf
  omega

/-- Each field of a marker reads as it was put in. -/
theorem markerWord_fields {m : Nat} (hm : markerWord pidx lpos link node phase preset step (b2n ack) seq = m) :
    mkPidx m = pidx ∧ mkLpos m = lpos ∧ mkLink m = link ∧ mkNode m = node ∧ mkPhase m = phase ∧ mkPreset m = preset ∧ mkStep m = step
    ∧ mkAck m = ack ∧ bitsOf m 0 15 = seq := by
  obtain ⟨hpidx, hlpos, hlink, hnode, hphase, hpreset, hstep, hseq⟩ := fits
  have hack : b2n ack < 2 := by cases ack <;> decide
  have bit : bitOf m 15 = ack ↔ m / 2 ^ 15 % 2 = b2n ack := by
    unfold bitOf b2n
    cases ack <;> simp
  rw [markerWord_eq] at hm
  generalize crc8 0xFF (toBeBytes 5 (markerLow pidx lpos link node phase preset step (b2n ack) seq)) = c at hm
  unfold markerLow at hm
  unfold mkPidx mkLpos mkLink mkNode mkPhase mkPreset mkStep mkAck
  rw [bit]
  unfold bitsOf
  refine ⟨?_, ?_, ?_, ?_, ?_, ?_, ?_, ?_, ?_⟩ <;> omega

/-- A marker of fields that hold no reserved value is good. -/
theorem markerGood_markerWord (lane : pidx ≤ 8) (position : lpos ≤ 7 ∨ 0xE ≤ lpos) (request : preset ≤ 9 ∨ preset = 0xF) :
    markerGood (markerWord pidx lpos link node phase preset step (b2n ack) seq) = true := by
  obtain ⟨hpidx, hlpos, -, -, -, hpreset, -⟩ := markerWord_fields ack fits rfl
  unfold markerGood
  rw [markerWord_crc ack fits, hpidx, hlpos, hpreset]
  simp [lane, position, request]

end

/-! ### The markers of a lane (R110, R111, R115) -/

theorem laneIdx_le (l : Nat) : laneIdx l ≤ 8 := Nat.le_of_lt_succ (Nat.mod_lt _ (by decide))

theorem laneLink_lt {l : Nat} (leat : isLeatLane l = true) : laneLink l < 8 := by
  have range : 256 ≤ l ∧ l < 328 := of_decide_eq_true leat
  unfold laneLink
  omega

theorem State.txPhase_lt (s : State) (l : Nat) : s.txPhase l < 4 := by
  unfold State.txPhase
  split
  · decide
  split
  · decide
  split <;> decide

/-- What a lane asks of its partner is no reserved request. -/
theorem State.txReq_range {s : State} {l : Nat} (req : ∀ r, (s.lane l).req = some r → r < 10 ∨ (16 ≤ r ∧ r < 24)) :
    ((s.txReq l).1 ≤ 9 ∨ (s.txReq l).1 = 0xF) ∧ (s.txReq l).2 < 8 := by
  unfold State.txReq
  dsimp only
  split
  · decide
  · split
    · decide
    · next r asked =>
      have range := req r asked
      split <;> dsimp only <;> omega

/-- The marker that a lane sends is good, and its fields are the lane's. -/
theorem State.txMarker_fields {s : State} {l q : Nat} (leat : isLeatLane l = true) (hq : q < 2 ^ 15)
    (tx : (s.lane l).tx < 8 ∨ (s.lane l).tx = 0xE ∨ (s.lane l).tx = 0xF) (own : (s.lk (laneLink l)).own < 16)
    (req : ∀ r, (s.lane l).req = some r → r < 10 ∨ (16 ≤ r ∧ r < 24)) :
    markerGood (s.txMarker l q) = true ∧ mkPidx (s.txMarker l q) = laneIdx l ∧ mkLpos (s.txMarker l q) = (s.lane l).tx
    ∧ mkLink (s.txMarker l q) = laneLink l ∧ mkNode (s.txMarker l q) = (s.lk (laneLink l)).own
    ∧ mkPhase (s.txMarker l q) = s.txPhase l ∧ mkAck (s.txMarker l q) = (s.lane l).ack ∧ bitsOf (s.txMarker l q) 0 15 = q := by
  obtain ⟨preset, step⟩ := State.txReq_range req
  have lane := laneIdx_le l
  have fits : MarkerFits (laneIdx l) (s.lane l).tx (laneLink l) (s.lk (laneLink l)).own (s.txPhase l) (s.txReq l).1 (s.txReq l).2 (q % 32768) :=
    ⟨by omega, by omega, laneLink_lt leat, own, s.txPhase_lt l, by omega, step, Nat.mod_lt _ (by decide)⟩
  obtain ⟨hpidx, hlpos, hlink, hnode, hphase, -, -, hack, hseq⟩ := markerWord_fields (s.lane l).ack fits rfl
  exact ⟨markerGood_markerWord (s.lane l).ack fits lane (by omega) preset, hpidx, hlpos, hlink, hnode, hphase, hack,
    hseq.trans (Nat.mod_eq_of_lt hq)⟩

/-! ### Loopbacks (R119) -/

/-- In near-end loopback a lane drives nothing and hears what its own transmitter makes. -/
theorem State.nearEnd_hears_itself {s : State} {l : Nat} (st : Nat) (bits : List Bool) (rx : List Nat) (near : s.rd fSER_LCTL_LOOP l = 1) :
    s.txLine l st bits rx = none ∧ s.rxHears l st bits rx = (s.txOwn l st bits).getD [] := by
  have idle : s.txIdle l = true := by simp [State.txIdle, near]
  exact ⟨if_pos idle, if_pos near⟩

/-- In far-end loopback a lane that may drive its line drives what it receives. -/
theorem State.farEnd_drives_received {s : State} {l : Nat} (st : Nat) (bits : List Bool) (rx : List Nat) (on : s.laneOn l = true)
    (used : s.leftOut l = false) (awake : isLeatLane l = false ∨ (s.lk (laneLink l)).quiet = false ∨ s.testing l = true)
    (far : s.rd fSER_LCTL_LOOP l = 2) : s.txLine l st bits rx = some (rx.map (symFlip (s.rdb fSER_LCTL_TXINV l))) := by
  have drives : s.txIdle l = false := by
    rcases awake with port | loud | test
    · simp [State.txIdle, far, on, used, port]
    · simp [State.txIdle, far, on, used, loud]
    · simp [State.txIdle, far, on, used, test]
  exact (if_neg (by simp [drives])).trans (if_pos far)

end Sys2Proof.Machine
end

section
/-! PROOFS. The registers of a lane: writes taken, refused and discarded, slips, pattern checkers and eye scans. -/
namespace Sys2Proof.Machine

/-! ### Words of a lane (R10, R103) -/

theorem serLctl_apart : ((fieldsAt 0x801000).map Fld.key).Nodup := by decide +kernel
theorem serPrbsctl_apart : ((fieldsAt 0x801018).map Fld.key).Nodup := by decide +kernel
theorem serEyectl_apart : ((fieldsAt 0x801020).map Fld.key).Nodup := by decide +kernel

theorem isLane_of_isLeatLane {l : Nat} (leat : isLeatLane l = true) : isLane l = true := by
  have range : 256 ≤ l ∧ l < 328 := of_decide_eq_true leat
  exact decide_eq_true range.2

theorem laneWord_unit {l val : Nat} (lane : isLane l = true) (hval : val < 2 ^ 32) : (isLane l && decide (val < 2 ^ 32)) = true := by
  rw [lane, decide_eq_true hval]
  rfl

/-- A field that is no RW field of the word may be written behind it. -/
theorem Took.wr_other {fs : List Fld} {i v : Nat} {t : State} (h : Took fs i v t) (g : Fld) (j x : Nat)
    (other : ∀ f ∈ fs, f.acc = .rw → g.key ≠ f.key) : Took fs i v (t.wr g j x) := fun f hf rw_ =>
  (State.rd_wr_key _ _ _ _ _ _ (other f hf rw_)).trans (h f hf rw_)

/-- The registers apart, a word taken leaves the state. -/
theorem State.lane_takeWord (s : State) (fs : List Fld) (i v ev l : Nat) : (s.takeWord fs i v ev).lane l = s.lane l := by
  have written (t : State) (gs : List Fld) (x : State → Fld → Nat) (ht : t.lane l = s.lane l) :
      (t.each gs fun u g => u.wr g i (x u g)).lane l = s.lane l :=
    State.each_induct (fun u => u.lane l = s.lane l) (by exact fun _ _ h => h) ht
  unfold State.takeWord
  split
  · rfl
  · exact written _ _ _ (written _ _ _ rfl)

theorem State.sets_laneReject (s : State) (l : Nat) : Sets s (s.laneReject l) [(fSER_LERR_CMDREJ, l, 1)] := Sets.wr_one _ _ _ rfl

section
variable {s : State} {l val : Nat} (lane : isLane l = true) (hval : val < 2 ^ 32)
include lane hval

/-! ### SER_LCTL (R103, R118) -/

theorem exec_serLctlWrite : exec (.serLctlWrite l val) s = .next (s.onTile (laneTile l) (if s.discards (fieldsAt 0x801000) l val then s
    else if fSER_LCTL_LOOP.of val ≠ 0 ∧ ¬ s.mayTest l then s.laneReject l else (s.adaptKeep l).takeWord (fieldsAt 0x801000) l val)) :=
  if_pos (laneWord_unit lane hval)

theorem serLctlWrite_discarded (why : s.discards (fieldsAt 0x801000) l val = true ∨ bitOf s.pwr.culvert (laneTile l) = true) :
    exec (.serLctlWrite l val) s = .next s := by
  rw [exec_serLctlWrite lane hval]
  rcases why with discarded | out
  · rw [discarded, if_pos rfl]
    exact congrArg _ (ite_self _)
  · rw [State.onTile_out out]

theorem serLctlWrite_refused (kept : s.discards (fieldsAt 0x801000) l val = false) (within : bitOf s.pwr.culvert (laneTile l) = false)
    (loop : fSER_LCTL_LOOP.of val ≠ 0) (barred : s.mayTest l = false) : Ends (.serLctlWrite l val) s s [(fSER_LERR_CMDREJ, l, 1)] := by
  refine ⟨_, ?_, s.sets_laneReject l⟩
  rw [exec_serLctlWrite lane hval, State.onTile_in within, kept, if_neg Bool.false_ne_true, if_pos ⟨loop, by simp [barred]⟩]

theorem serLctlWrite_takes (kept : s.discards (fieldsAt 0x801000) l val = false) (within : bitOf s.pwr.culvert (laneTile l) = false)
    (may : fSER_LCTL_LOOP.of val = 0 ∨ s.mayTest l = true) : EndsIn (.serLctlWrite l val) s fun t => Took (fieldsAt 0x801000) l val t := by
  have noStby : ((fieldsAt 0x801000).all fun f => !f.stby) = true := by decide +kernel
  have still : (s.adaptKeep l).discards (fieldsAt 0x801000) l val = false := by
    rw [State.discards_of_no_stby _ _ _ noStby] at kept ⊢
    exact kept
  refine ⟨_, ?_, State.took_takeWord 0 serLctl_apart still⟩
  rw [exec_serLctlWrite lane hval, State.onTile_in within, kept, if_neg Bool.false_ne_true, if_neg]
  rintro ⟨loop, barred⟩
  exact may.elim loop barred

/-! ### SER_SLIP (R116) -/

/-- A slip that is refused: the boundary is no such lane's to move, the word is no slip, or the last one still goes on. -/
def State.slipBad (s : State) (l val : Nat) : Bool :=
  !isLeatLane l || !s.rdb fSER_LCTL_ALIGNMAN l || s.laneStage l != 3 || fSER_SLIP_COUNT.of val == 0 || fSER_SLIP_KEY.of val != 0xA5
    || decide (s.pwr.ns < (s.lane l).slipEnd)

/-- The symbol boundary that a slip of `n` symbols makes of `off`, back or on. -/
def slipTo (back : Bool) (off n : Nat) : Nat := (if back then off + blockSymbols - n else off + n) % blockSymbols

/-- The boundary moved by the slip that word `val` asks for. -/
def State.slipped (s : State) (l val : Nat) : State :=
  s.laneMod l fun r =>
    { r with offset := slipTo (bitOf val 7) (s.lane l).offset (fSER_SLIP_COUNT.of val), good := 0, slipEnd := s.pwr.ns + 100 }

theorem exec_serSlip : exec (.serSlip l val) s = .next (s.onTile (laneTile l) (if ¬ s.laneOn l then s else if s.slipBad l val then s.laneReject l
    else s.slipped l val)) :=
  if_pos (laneWord_unit lane hval)

theorem serSlip_ignored (why : s.laneOn l = false ∨ bitOf s.pwr.culvert (laneTile l) = true) : exec (.serSlip l val) s = .next s := by
  rw [exec_serSlip lane hval]
  rcases why with off | out
  · rw [off, if_pos Bool.false_ne_true]
    exact congrArg _ (ite_self _)
  · rw [State.onTile_out out]

theorem serSlip_refused (on : s.laneOn l = true) (within : bitOf s.pwr.culvert (laneTile l) = false) (bad : s.slipBad l val = true) :
    Ends (.serSlip l val) s s [(fSER_LERR_CMDREJ, l, 1)] := by
  refine ⟨_, ?_, s.sets_laneReject l⟩
  rw [exec_serSlip lane hval, State.onTile_in within, on, if_neg (not_not.2 rfl), bad, if_pos rfl]

theorem serSlip_moves (on : s.laneOn l = true) (within : bitOf s.pwr.culvert (laneTile l) = false) (good : s.slipBad l val = false) :
    EndsIn (.serSlip l val) s fun t => (t.lane l).offset = slipTo (bitOf val 7) (s.lane l).offset (fSER_SLIP_COUNT.of val) ∧ (t.lane l).good = 0
      ∧ (t.lane l).slipEnd = s.pwr.ns + 100 := by
  refine ⟨s.slipped l val, ?_, ?_⟩
  · rw [exec_serSlip lane hval, State.onTile_in within, on, if_neg (not_not.2 rfl), good, if_neg Bool.false_ne_true]
  · simp only [State.slipped, State.lane_laneMod_same, and_self]

/-! ### SER_PRBSCTL (R118) -/

/-- The word enables a pattern generator or a checker. -/
def prbsStarts (val : Nat) : Bool :=
  decide (fSER_PRBSCTL_PATTERN.of val ≠ 0) && (fSER_PRBSCTL_GEN.of val == 1 || fSER_PRBSCTL_CHK.of val == 1)

/-- The test may not run: the lane may not be tested, or its rate is too low for the pattern. -/
def State.prbsBarred (s : State) (l val : Nat) : Bool := !s.mayTest l || (decide (4 ≤ fSER_PRBSCTL_PATTERN.of val) && s.laneNrz l)

/-- The word taken: a checker that does not go on with its pattern is not locked. -/
def State.prbsTaken (s : State) (l val : Nat) : State :=
  (s.takeWord (fieldsAt 0x801018) l val).when_ (!(fSER_PRBSCTL_CHK.of val == 1 && fSER_PRBSCTL_PATTERN.of val == s.rd fSER_PRBSCTL_PATTERN l))
    fun s => s.wrb fSER_PRBSCTL_LOCKED l false

theorem exec_serPrbsctlWrite : exec (.serPrbsctlWrite l val) s = .next (s.onTile (laneTile l)
    (if ¬ s.laneOn l ∨ s.discards (fieldsAt 0x801018) l val then s else if prbsStarts val && s.prbsBarred l val then s.laneReject l
    else s.prbsTaken l val)) :=
  if_pos (laneWord_unit lane hval)

theorem serPrbsctlWrite_ignored
    (why : s.laneOn l = false ∨ s.discards (fieldsAt 0x801018) l val = true ∨ bitOf s.pwr.culvert (laneTile l) = true) :
    exec (.serPrbsctlWrite l val) s = .next s := by
  rw [exec_serPrbsctlWrite lane hval]
  rcases why with off | discarded | out
  · rw [if_pos (.inl (by simp [off]))]
    exact congrArg _ (ite_self _)
  · rw [if_pos (.inr discarded)]
    exact congrArg _ (ite_self _)
  · rw [State.onTile_out out]

theorem serPrbsctlWrite_refused (on : s.laneOn l = true) (kept : s.discards (fieldsAt 0x801018) l val = false)
    (within : bitOf s.pwr.culvert (laneTile l) = false) (starts : prbsStarts val = true) (barred : s.prbsBarred l val = true) :
    Ends (.serPrbsctlWrite l val) s s [(fSER_LERR_CMDREJ, l, 1)] := by
  refine ⟨_, ?_, s.sets_laneReject l⟩
  rw [exec_serPrbsctlWrite lane hval, State.onTile_in within, if_neg (by simp [on, kept]), starts, barred]
  rfl

theorem serPrbsctlWrite_takes (on : s.laneOn l = true) (kept : s.discards (fieldsAt 0x801018) l val = false)
    (within : bitOf s.pwr.culvert (laneTile l) = false) (may : prbsStarts val = false ∨ s.prbsBarred l val = false) :
    EndsIn (.serPrbsctlWrite l val) s fun t => Took (fieldsAt 0x801018) l val t := by
  refine ⟨s.prbsTaken l val, ?_, ?_⟩
  · rw [exec_serPrbsctlWrite lane hval, State.onTile_in within, if_neg (by simp [on, kept]), if_neg]
    rcases may with quiet | free
    · simp [quiet]
    · simp [free]
  · have took := State.took_takeWord (s := s) 0 serPrbsctl_apart kept
    unfold State.prbsTaken State.when_
    split
    · exact took.wr_other _ _ _ (by decide +kernel)
    · exact took

/-! ### SER_EYECTL (R120) -/

/-- A scan begun, or begun again. -/
def State.scanBegun (s : State) (l : Nat) : State := (s.wrb fSER_EYECTL_DONE l false).laneMod l fun n => { n with scan := true }

theorem exec_eyeScanStart : exec (.eyeScanStart l val) s = .next (s.onTile (laneTile l)
    (if ¬ s.laneOn l ∨ s.discards (fieldsAt 0x801020) l val then s
    else (s.takeWord (fieldsAt 0x801020) l val).when_ (bitOf val 0) fun s => s.scanBegun l)) :=
  if_pos (laneWord_unit lane hval)

theorem eyeScanStart_ignored
    (why : s.laneOn l = false ∨ s.discards (fieldsAt 0x801020) l val = true ∨ bitOf s.pwr.culvert (laneTile l) = true) :
    exec (.eyeScanStart l val) s = .next s := by
  rw [exec_eyeScanStart lane hval]
  rcases why with off | discarded | out
  · rw [if_pos (.inl (by simp [off]))]
    exact congrArg _ (ite_self _)
  · rw [if_pos (.inr discarded)]
    exact congrArg _ (ite_self _)
  · rw [State.onTile_out out]

section
variable (on : s.laneOn l = true) (kept : s.discards (fieldsAt 0x801020) l val = false) (within : bitOf s.pwr.culvert (laneTile l) = false)
include on kept within

theorem eyeScanStart_takes : exec (.eyeScanStart l val) s
    = .next ((s.takeWord (fieldsAt 0x801020) l val).when_ (bitOf val 0) fun s => s.scanBegun l) := by
  rw [exec_eyeScanStart lane hval, State.onTile_in within, if_neg (by simp [on, kept])]

theorem eyeScanStart_begins (start : bitOf val 0 = true) :
    EndsIn (.eyeScanStart l val) s fun t => Took (fieldsAt 0x801020) l val t ∧ t.rd fSER_EYECTL_DONE l = 0 ∧ (t.lane l).scan = true := by
  refine ⟨(s.takeWord (fieldsAt 0x801020) l val).scanBegun l, ?_, ?_, ?_, ?_⟩
  · rw [eyeScanStart_takes lane hval on kept within, start]
    rfl
  · have took := State.took_takeWord (s := s) 0 serEyectl_apart kept
    exact fun f hf rw_ => (State.laneMod_rd ..).trans (took.wr_other fSER_EYECTL_DONE l 0 (by decide +kernel) f hf rw_)
  · rw [State.scanBegun, State.laneMod_rd, State.rd_wrb_same]
    rfl
  · rw [State.scanBegun, State.lane_laneMod_same]

theorem eyeScanStart_settings (start : bitOf val 0 = false) :
    EndsIn (.eyeScanStart l val) s fun t => Took (fieldsAt 0x801020) l val t ∧ t.lane l = s.lane l := by
  refine ⟨s.takeWord (fieldsAt 0x801020) l val, ?_, State.took_takeWord 0 serEyectl_apart kept, State.lane_takeWord ..⟩
  rw [eyeScanStart_takes lane hval on kept within, start]
  rfl

end
end

/-! ### What tests and scans report (R118, R120) -/

/-- A scan ends with `count` in SER_EYECNT. -/
theorem State.sets_scanEnd (s : State) (l : Nat) {count x : Nat} (hx : count % 2 ^ 32 = x) :
    Sets (s.laneMod l fun n => { n with scan := false })
      (((s.laneMod l fun n => { n with scan := false }).wrb fSER_EYECTL_DONE l true).wr fSER_EYECNT_COUNT l count)
      [(fSER_EYECNT_COUNT, l, x), (fSER_EYECTL_DONE, l, 1)] := by
  refine ((Sets.none _).wr fSER_EYECTL_DONE l rfl nofun).wr fSER_EYECNT_COUNT l hx ?_
  simp only [List.map]
  decide

section
variable {s : State} {l : Nat} (lane : isLane l = true)
include lane

theorem prbsCheckerLock_counts (errors : Nat) (pattern : s.rd fSER_PRBSCTL_PATTERN l ≠ 0) (checks : s.rdb fSER_PRBSCTL_CHK l = true) :
    Ends (.prbsCheckerLock l errors) s s
      [(fSER_PRBSCNT_ERRORS, l, min (2 ^ 32 - 1) (s.rd fSER_PRBSCNT_ERRORS l + errors)), (fSER_PRBSCTL_LOCKED, l, 1)] := by
  have count : satAdd 32 ((s.wrb fSER_PRBSCTL_LOCKED l true).rd fSER_PRBSCNT_ERRORS l) errors % 2 ^ 32
      = min (2 ^ 32 - 1) (s.rd fSER_PRBSCNT_ERRORS l + errors) := by
    rw [Nat.mod_eq_of_lt (satAdd_lt ..), State.rd_wrb_key _ _ _ _ _ _ (by decide)]
    exact min_comm ..
  refine ⟨_, (if_pos lane).trans (congrArg _ (if_pos ⟨pattern, checks⟩)), ((Sets.none s).wr fSER_PRBSCTL_LOCKED l rfl nofun).wr _ l count ?_⟩
  simp only [List.map]
  decide

theorem prbsCheckerLock_ignored (errors : Nat) (off : s.rd fSER_PRBSCTL_PATTERN l = 0 ∨ s.rdb fSER_PRBSCTL_CHK l = false) :
    exec (.prbsCheckerLock l errors) s = .next s := by
  refine (if_pos lane).trans (congrArg _ (if_neg ?_))
  rintro ⟨pattern, checks⟩
  exact off.elim pattern fun no => Bool.false_ne_true (no.symm.trans checks)

theorem eyeScanDone_counts (count : Nat) (scans : (s.lane l).scan = true) :
    Ends (.eyeScanDone l count false) s (s.laneMod l fun n => { n with scan := false })
      [(fSER_EYECNT_COUNT, l, min count 0xFFFFFFFF), (fSER_EYECTL_DONE, l, 1)] :=
  ⟨_, (if_pos lane).trans (congrArg _ (if_pos scans)), s.sets_scanEnd l (Nat.mod_eq_of_lt (by omega : min count 0xFFFFFFFF < 2 ^ 32))⟩

theorem eyeScanDone_lost (count : Nat) (scans : (s.lane l).scan = true) :
    Ends (.eyeScanDone l count true) s (s.laneMod l fun n => { n with scan := false })
      [(fSER_EYECNT_COUNT, l, 0xFFFFFFFF), (fSER_EYECTL_DONE, l, 1)] :=
  ⟨_, (if_pos lane).trans (congrArg _ ((if_pos scans).trans (if_pos scans))), s.sets_scanEnd l rfl⟩

theorem eyeScanDone_ignored (count : Nat) (lost : Bool) (idle : (s.lane l).scan = false) : exec (.eyeScanDone l count lost) s = .next s :=
  (if_pos lane).trans (congrArg _ (if_neg (by simp [idle])))

end

/-! ### Port lanes (R104, R105) -/

/-- A port in L0 whose lane `l` has lost its clock: its lanes keep what they had adapted to, and it is in Recovery. -/
def State.clockLostInL0 (s : State) (l p : Nat) : State :=
  ((((s.each (s.portLanes p) State.adaptKeep).inc fSER_LERR_CDRLOSS l).wr fPRT_PORTSTAT_LTSSM p 3).eyeLost l).wrb fSER_LSTAT_CDRLOCK l false

theorem exec_portLaneCdrLoss {s : State} {l p : Nat} (hl : l < 256) (port : s.lanePort l = some p) :
    exec (.portLaneCdrLoss l) s = .next (if s.rd fPRT_PORTSTAT_LTSSM p = 4 then s.clockLostInL0 l p else s) := by
  show execPortLaneCdrLoss l s = _
  unfold execPortLaneCdrLoss
  rw [decide_eq_true hl, port]
  rfl

theorem portLaneCdrLoss_recovers {s : State} {l p : Nat} (hl : l < 256) (port : s.lanePort l = some p) (l0 : s.rd fPRT_PORTSTAT_LTSSM p = 4) :
    EndsIn (.portLaneCdrLoss l) s fun t =>
      t.rd fPRT_PORTSTAT_LTSSM p = 3 ∧ t.rd fSER_LERR_CDRLOSS l = min 0xFF (s.rd fSER_LERR_CDRLOSS l + 1)
      ∧ t.rd fSER_LSTAT_CDRLOCK l = 0 ∧ (t.lane l).scan = false := by
  have adapted : (s.each (s.portLanes p) State.adaptKeep).rd fSER_LERR_CDRLOSS l = s.rd fSER_LERR_CDRLOSS l :=
    State.each_induct (fun t => t.rd fSER_LERR_CDRLOSS l = s.rd fSER_LERR_CDRLOSS l)
      (fun t m ht => (t.rd_adaptKeep m _ _ (by decide)).trans ht) rfl
  refine ⟨_, (exec_portLaneCdrLoss hl port).trans (congrArg _ (if_pos l0)), ?_, ?_, ?_, ?_⟩
  · simp (disch := decide) only [State.clockLostInL0, State.rd_wrb_key, State.rd_eyeLost, State.rd_wr_same]
    rfl
  · simp (disch := decide) only [State.clockLostInL0, State.rd_wrb_key, State.rd_eyeLost, State.rd_wr_key, State.rd_inc_same]
    rw [adapted]
    exact satAdd_lane_count _
  · rw [State.clockLostInL0, State.rd_wrb_same]
    rfl
  · rw [State.clockLostInL0, State.lane_wrb, State.scan_eyeLost]

theorem portLaneCdrLoss_ignored {s : State} {l : Nat} (hl : l < 256)
    (other : ∀ p, s.lanePort l = some p → s.rd fPRT_PORTSTAT_LTSSM p ≠ 4) : exec (.portLaneCdrLoss l) s = .next s := by
  cases port : s.lanePort l with
  | some p => exact (exec_portLaneCdrLoss hl port).trans (congrArg _ (if_neg (other p port)))
  | none =>
    show execPortLaneCdrLoss l s = _
    unfold execPortLaneCdrLoss
    rw [decide_eq_true hl, port]
    rfl

/-! ### Which slips move the boundary (R116) -/

theorem State.slipBad_of_good {s : State} {l val : Nat} (leat : isLeatLane l = true) (manual : s.rdb fSER_LCTL_ALIGNMAN l = true)
    (align : s.laneStage l = 3) (count : fSER_SLIP_COUNT.of val ≠ 0) (key : fSER_SLIP_KEY.of val = 0xA5) (idle : (s.lane l).slipEnd ≤ s.pwr.ns) :
    s.slipBad l val = false := by
  simp [State.slipBad, leat, manual, align, count, key, idle]

theorem State.slipBad_of {s : State} {l val : Nat} (why : isLeatLane l = false ∨ s.rdb fSER_LCTL_ALIGNMAN l = false ∨ s.laneStage l ≠ 3
      ∨ fSER_SLIP_KEY.of val ≠ 0xA5 ∨ fSER_SLIP_COUNT.of val = 0 ∨ s.pwr.ns < (s.lane l).slipEnd) : s.slipBad l val = true := by
  rcases why with port | auto | stage | key | none | busy
  · simp [State.slipBad, port]
  · simp [State.slipBad, auto]
  · simp [State.slipBad, stage]
  · simp [State.slipBad, key]
  · simp [State.slipBad, none]
  · simp [State.slipBad, busy]

/-- A slip back is undone by one on of as many symbols. -/
theorem slipTo_back {off n : Nat} (inside : off < blockSymbols) (few : n < 128) : (slipTo true off n + n) % blockSymbols = off := by
  unfold slipTo
  unfold blockSymbols at inside ⊢
  simp only [if_true]
  omega

/-! ### Which tests may run (R118) -/

theorem test_may_run {s : State} {l val : Nat} (h : fSER_PRBSCTL_PATTERN.of val = 0 ∨ (fSER_PRBSCTL_GEN.of val = 0 ∧ fSER_PRBSCTL_CHK.of val = 0)
      ∨ (s.mayTest l = true ∧ (fSER_PRBSCTL_PATTERN.of val < 4 ∨ s.laneNrz l = false))) :
    prbsStarts val = false ∨ s.prbsBarred l val = false := by
  rcases h with none | ⟨gen, chk⟩ | ⟨may, slow | pam4⟩
  · exact .inl (by simp [prbsStarts, none])
  · exact .inl (by simp [prbsStarts, gen, chk])
  · exact .inr (by simp [State.prbsBarred, may, slow])
  · exact .inr (by simp [State.prbsBarred, may, pam4])

theorem test_starts {val : Nat} (pattern : fSER_PRBSCTL_PATTERN.of val ≠ 0) (which : fSER_PRBSCTL_GEN.of val = 1 ∨ fSER_PRBSCTL_CHK.of val = 1) :
    prbsStarts val = true := by simp [prbsStarts, pattern, which]

theorem test_barred {s : State} {l val : Nat} (h : s.mayTest l = false ∨ (4 ≤ fSER_PRBSCTL_PATTERN.of val ∧ s.laneNrz l = true)) :
    s.prbsBarred l val = true := by simpa [State.prbsBarred] using h

/-- Settles O22: every write of a lane register by what its command makes of it, and each coding by what undoes it. -/
theorem laneRegisters : Obligations.LaneRegisters := by
  unfold Obligations.LaneRegisters
  refine ⟨fun _ _ _ => serLctlWrite_takes, fun _ _ _ => serLctlWrite_refused, fun _ _ _ => serLctlWrite_discarded, fun _ _ _ => serSlip_ignored,
    fun _ _ _ => serPrbsctlWrite_ignored, fun _ _ _ => eyeScanStart_ignored,
    fun s l val leat hval on manual align count key idle _ within forth => ?slipOn,
    fun s l val leat hval on manual align count key idle inside within back => ?slipBack,
    fun s l val lane hval on within why => serSlip_refused lane hval on within (State.slipBad_of why),
    fun s l val lane hval on kept within may => serPrbsctlWrite_takes lane hval on kept within (test_may_run may),
    fun s l val lane hval on kept within pattern which barred =>
      serPrbsctlWrite_refused lane hval on kept within (test_starts pattern which) (test_barred barred),
    fun _ _ errors lane => prbsCheckerLock_counts lane errors, fun _ _ errors lane => prbsCheckerLock_ignored lane errors,
    fun _ _ _ => eyeScanStart_begins, fun _ _ _ => eyeScanStart_settings, fun _ _ count lane => eyeScanDone_counts lane count,
    fun _ _ count lost lane => eyeScanDone_ignored lane count lost, fun _ _ count lane => eyeScanDone_lost lane count,
    fun _ _ _ => portLaneCdrLoss_recovers, fun _ _ => portLaneCdrLoss_ignored, by decide, ofSyms_toSyms, scramble_scramble, unstuff_stuff,
    fun xs _ => longestRun_stuff xs (by decide) (.inl ⟨rfl, by decide⟩),
    fun w hw => ⟨markerSyms_length w, markerOf_markerSyms hw, markerOf_markerSyms_inverted hw⟩,
    fun pidx w inv _ => dataOf_blockOf pidx w inv, fun _ _ _ => State.txMarker_fields, fun pidx mk inv seq _ n => dataOf_blocksOf pidx mk inv seq n,
    fun s l st bits rx on used awake => ⟨State.nearEnd_hears_itself st bits rx, State.farEnd_drives_received st bits rx on used awake⟩⟩
  case slipOn =>
    obtain ⟨t, run, moved⟩ := serSlip_moves (isLane_of_isLeatLane leat) hval on within (State.slipBad_of_good leat manual align count key idle)
    rw [forth] at moved
    exact ⟨t, run, moved⟩
  case slipBack =>
    obtain ⟨t, run, offset, good, until_⟩ :=
      serSlip_moves (isLane_of_isLeatLane leat) hval on within (State.slipBad_of_good leat manual align count key idle)
    rw [back] at offset
    exact ⟨t, run, offset ▸ slipTo_back inside (Nat.mod_lt _ (by decide)), good, until_⟩

end Sys2Proof.Machine
end

section
/-! PROOFS. Stages of a Leat lane: what leads it on, what fails it, and the partner's requests of its transmitter. -/
namespace Sys2Proof.Machine

/-! ### What a link and a lane's service are judged by -/

theorem State.lkActive_congr {s t : State} {k : Nat} (h : t.rd fLEAT_STAT_STATE k = s.rd fLEAT_STAT_STATE k) : t.lkActive k = s.lkActive k :=
  congrArg (· == 3) h

theorem State.inService_congr {s t : State} {l : Nat} (h : t.rd fSER_LSTAT_STAGE l = s.rd fSER_LSTAT_STAGE l) : t.inService l = s.inService l :=
  congrArg (fun v => decide (6 ≤ v ∧ v ≤ 7)) h

theorem State.inService_stage {s : State} {l : Nat} (served : s.inService l = true) : 6 ≤ s.laneStage l ∧ s.laneStage l ≤ 7 :=
  of_decide_eq_true served

/-! ### A lane lost by its link (R111, R167) -/

section
variable {s : State} {l : Nat} (idle : s.lkActive (laneLink l) = false)
include idle

/-- A link that is not ACTIVE does nothing to the registers when a lane of it fails. -/
theorem State.laneLost_regs (cause : Nat) : (s.laneLost l cause).regs = (s.laneFail l cause).regs := by
  have still : (s.laneFail l cause).lkActive (laneLink l) = false := (State.lkActive_congr (s.rd_laneFail l cause _ _ (by decide))).trans idle
  unfold State.laneLost
  dsimp only
  split
  · next active => exact absurd (still.symm.trans ((State.lkActive_congr (State.lkMod_rd ..)).symm.trans active)) Bool.false_ne_true
  · exact State.lkMod_regs ..

theorem State.rd_laneLost (cause : Nat) (g : Fld) (j : Nat) (h : g.key ∉ fSER_LSTAT_FAILCAUSE.key :: detectKeys) :
    (s.laneLost l cause).rd g j = s.rd g j := (State.rd_congr (State.laneLost_regs idle cause) g j).trans (s.rd_laneFail l cause g j h)

theorem State.laneLost_shows {cause : Nat} (hc : cause < 16) :
    (s.laneLost l cause).laneStage l = 1 ∧ (s.laneLost l cause).rd fSER_LSTAT_FAILCAUSE l = cause := by
  obtain ⟨stage, kept, -⟩ := s.laneFail_shows l hc
  have same (g : Fld) := State.rd_congr (State.laneLost_regs idle cause) g l
  exact ⟨(same _).trans stage, (same _).trans kept⟩

end

/-! ### Taps and presets (R114, R115) -/

theorem State.setTaps_reads (s : State) (l : Nat) {x y z : Nat} (hx : x < 64) (hy : y < 64) (hz : z < 64) :
    (s.setTaps l (x, y, z)).rd fSER_TXEQ_CM2 l = x ∧ (s.setTaps l (x, y, z)).rd fSER_TXEQ_CM1 l = y
    ∧ (s.setTaps l (x, y, z)).rd fSER_TXEQ_CP1 l = z ∧ (s.setTaps l (x, y, z)).rd fSER_TXEQ_C0 l = (64 - x - y - z) % 64 := by
  unfold State.setTaps
  simp (disch := decide) only [State.rd_wr_key, State.rd_wr_same]
  refine ⟨Nat.mod_eq_of_lt hx, Nat.mod_eq_of_lt hy, Nat.mod_eq_of_lt hz, ?_⟩
  rw [Nat.sub_sub, Nat.sub_sub, Nat.add_assoc]
  rfl

theorem presetTaps_lt (p : Nat) : (presetTaps p).1 < 64 ∧ (presetTaps p).2.1 < 64 ∧ (presetTaps p).2.2 < 64 := by
  unfold presetTaps
  split <;> decide

theorem tapsOk_lt {x y z : Nat} (ok : tapsOk x y z = true) : x < 64 ∧ y < 64 ∧ z < 64 := by
  have limits : x ≤ 6 ∧ y ≤ 16 ∧ z ≤ 16 ∧ x + y + z ≤ 32 := of_decide_eq_true ok
  omega

theorem State.eqApply_preset (s : State) (l : Nat) {p : Nat} (hp : p < 10) : s.eqApply l p = s.setPreset l p := if_pos (by omega)

section
variable {s : State} {l q : Nat}

theorem State.eqApply_below (none : stepTaps q (s.rd fSER_TXEQ_CM2 l) (s.rd fSER_TXEQ_CM1 l) (s.rd fSER_TXEQ_CP1 l) = none) :
    s.eqApply l (16 + q) = s := by
  unfold State.eqApply
  rw [if_neg (by omega), Nat.add_sub_cancel_left, none]

theorem State.eqApply_step {x y z : Nat}
    (step : stepTaps q (s.rd fSER_TXEQ_CM2 l) (s.rd fSER_TXEQ_CM1 l) (s.rd fSER_TXEQ_CP1 l) = some (x, y, z)) :
    s.eqApply l (16 + q) = if tapsOk x y z then s.setTaps l (x, y, z) else s := by
  unfold State.eqApply
  rw [if_neg (by omega), Nat.add_sub_cancel_left, step]

end

/-! ### Events of a stage (R111) -/

/-- A lane that is deskewed changes nothing of its link. -/
theorem State.lkActive_deskewed (s : State) (l k : Nat) : ((s.adaptKeep l).setStage l 6).lkActive k = s.lkActive k :=
  State.lkActive_congr ((State.rd_wr_key _ _ _ _ _ _ (by decide)).trans (s.rd_adaptKeep _ _ _ (by decide)))

section
variable {s : State} {l : Nat} (leat : isLeatLane l = true)
include leat

theorem laneEnergyDetect_clocks (detect : s.laneStage l = 1) : Ends (.laneEnergyDetect l) s s [(fSER_LSTAT_STAGE, l, 2)] :=
  ⟨_, (if_pos leat).trans (congrArg _ (if_pos detect)), Sets.wr_one _ _ _ rfl⟩

theorem laneEnergyDetect_ignored (other : s.laneStage l ≠ 1) : exec (.laneEnergyDetect l) s = .next s :=
  (if_pos leat).trans (congrArg _ (if_neg other))

theorem laneCdrLock_aligns (cdr : s.laneStage l = 2) :
    EndsIn (.laneCdrLock l) s fun t => t.laneStage l = 3 ∧ t.rd fSER_LSTAT_CDRLOCK l = 1 := by
  refine ⟨_, (if_pos leat).trans (congrArg _ (if_pos cdr)), ?_, State.rd_wrb_same ..⟩
  exact (State.rd_wrb_key _ _ _ _ _ _ (by decide)).trans (State.rd_wr_same ..)

theorem laneCdr_ignored (other : s.laneStage l ≠ 2) : exec (.laneCdrLock l) s = .next s ∧ exec (.laneCdrTimeout l) s = .next s :=
  ⟨(if_pos leat).trans (congrArg _ (if_neg other)), (if_pos leat).trans (congrArg _ (if_neg other))⟩

theorem laneAlignTimeout_ignored (why : s.laneStage l ≠ 3 ∨ s.rdb fSER_LCTL_ALIGNMAN l = true) : exec (.laneAlignTimeout l) s = .next s := by
  refine (if_pos leat).trans (congrArg _ (if_neg ?_))
  rintro ⟨align, auto⟩
  exact why.elim (· align) auto

/-! ### Stages that last too long (R111) -/

theorem laneCdrTimeout_fails (cdr : s.laneStage l = 2) :
    EndsIn (.laneCdrTimeout l) s fun t => t.laneStage l = 1 ∧ t.rd fSER_LSTAT_FAILCAUSE l = 1 ∧ t.rd fSER_LSTAT_CDRLOCK l = 0 := by
  obtain ⟨stage, cause, clock, -⟩ := s.laneFail_shows l (show 1 < 16 by decide)
  exact ⟨_, (if_pos leat).trans (congrArg _ (if_pos cdr)), stage, cause, clock⟩

theorem laneAlignTimeout_fails (align : s.laneStage l = 3) (auto : s.rdb fSER_LCTL_ALIGNMAN l = false) :
    EndsIn (.laneAlignTimeout l) s fun t => t.laneStage l = 1 ∧ t.rd fSER_LSTAT_FAILCAUSE l = 2 ∧ t.rd fSER_LSTAT_CDRLOCK l = 0 := by
  obtain ⟨stage, cause, clock, -⟩ := s.laneFail_shows l (show 2 < 16 by decide)
  exact ⟨_, (if_pos leat).trans (congrArg _ (if_pos ⟨align, by simp [auto]⟩)), stage, cause, clock⟩

theorem laneEqTimeout_fails (eq_ : s.laneStage l = 4) :
    EndsIn (.laneEqTimeout l) s fun t => t.laneStage l = 1 ∧ t.rd fSER_LSTAT_FAILCAUSE l = 3 ∧ t.rd fSER_LSTAT_MARKLOCK l = 0 := by
  obtain ⟨stage, cause, -, mark⟩ := s.laneFail_shows l (show 3 < 16 by decide)
  exact ⟨_, (if_pos leat).trans (congrArg _ (if_pos eq_)), stage, cause, mark⟩

theorem laneDeskewTimeout_fails (deskew : s.laneStage l = 5) :
    EndsIn (.laneDeskewTimeout l) s fun t => t.laneStage l = 1 ∧ t.rd fSER_LSTAT_FAILCAUSE l = 4 ∧ t.rd fSER_LSTAT_MARKLOCK l = 0 := by
  obtain ⟨stage, cause, -, mark⟩ := s.laneFail_shows l (show 4 < 16 by decide)
  exact ⟨_, (if_pos leat).trans (congrArg _ (if_pos deskew)), stage, cause, mark⟩

/-! ### The partner's request applied (R115) -/

theorem laneEqApply_of_request {r : Nat} (eq_ : s.laneStage l = 4) (ask : (s.lane l).ask = some r) :
    exec (.laneEqApply l) s = .next ((s.eqApply l r).laneMod l fun n => { n with ask := none, ack := true }) := by
  show execLaneEqApply l s = _
  unfold execLaneEqApply
  rw [leat, ask]
  exact congrArg _ (if_pos eq_)

theorem laneEqApply_ignored (why : (s.lane l).ask = none ∨ s.laneStage l ≠ 4) : exec (.laneEqApply l) s = .next s := by
  show execLaneEqApply l s = _
  unfold execLaneEqApply
  rw [leat]
  rcases why with none | other
  · rw [none]
    rfl
  · split
    · exact congrArg _ (if_neg other)
    · rfl

theorem laneEq_ignored (other : s.laneStage l ≠ 4) : exec (.laneEqTimeout l) s = .next s ∧ exec (.laneEqApply l) s = .next s :=
  ⟨(if_pos leat).trans (congrArg _ (if_neg other)), laneEqApply_ignored leat (.inr other)⟩

theorem laneEqApply_preset {p : Nat} (eq_ : s.laneStage l = 4) (ask : (s.lane l).ask = some p) (hp : p < 10) :
    EndsIn (.laneEqApply l) s fun t =>
      t.rd fSER_TXEQ_PRESET l = p ∧ t.rd fSER_TXEQ_CM2 l = (presetTaps p).1 ∧ t.rd fSER_TXEQ_CM1 l = (presetTaps p).2.1
      ∧ t.rd fSER_TXEQ_CP1 l = (presetTaps p).2.2
      ∧ t.rd fSER_TXEQ_C0 l = (64 - (presetTaps p).1 - (presetTaps p).2.1 - (presetTaps p).2.2) % 64
      ∧ (t.lane l).ask = none ∧ (t.lane l).ack = true := by
  obtain ⟨hx, hy, hz⟩ := presetTaps_lt p
  obtain ⟨cm2, cm1, cp1, c0⟩ := s.setTaps_reads l hx hy hz
  refine ⟨_, laneEqApply_of_request leat eq_ ask, ?_⟩
  rw [s.eqApply_preset l hp]
  simp (disch := decide) only [State.setPreset, State.laneMod_rd, State.rd_wr_same, State.rd_wr_key, State.lane_laneMod_same, and_true]
  exact ⟨Nat.mod_eq_of_lt (show p < 16 by omega), cm2, cm1, cp1, c0⟩

theorem laneEqApply_step {q x y z : Nat} (eq_ : s.laneStage l = 4) (ask : (s.lane l).ask = some (16 + q))
    (step : stepTaps q (s.rd fSER_TXEQ_CM2 l) (s.rd fSER_TXEQ_CM1 l) (s.rd fSER_TXEQ_CP1 l) = some (x, y, z)) (ok : tapsOk x y z = true) :
    EndsIn (.laneEqApply l) s fun t =>
      t.rd fSER_TXEQ_CM2 l = x ∧ t.rd fSER_TXEQ_CM1 l = y ∧ t.rd fSER_TXEQ_CP1 l = z ∧ (t.lane l).ask = none ∧ (t.lane l).ack = true := by
  obtain ⟨hx, hy, hz⟩ := tapsOk_lt ok
  obtain ⟨cm2, cm1, cp1, -⟩ := s.setTaps_reads l hx hy hz
  refine ⟨_, laneEqApply_of_request leat eq_ ask, ?_⟩
  rw [State.eqApply_step step, if_pos ok]
  simp only [State.laneMod_rd, State.lane_laneMod_same, and_true]
  exact ⟨cm2, cm1, cp1⟩

/-- A step that would break the limits is acknowledged and not applied. -/
theorem laneEqApply_beyond {q : Nat} (eq_ : s.laneStage l = 4) (ask : (s.lane l).ask = some (16 + q)) (stays : s.eqApply l (16 + q) = s) :
    exec (.laneEqApply l) s = .next (s.laneMod l fun n => { n with ask := none, ack := true }) := by
  rw [laneEqApply_of_request leat eq_ ask, stays]

/-! ### Deskew (R111, R115, R166) -/

theorem laneDeskewDone_fails {skew : Nat} (deskew : s.laneStage l = 5) (far : 1024 < skew) :
    EndsIn (.laneDeskewDone l skew) s fun t => t.laneStage l = 1 ∧ t.rd fSER_LSTAT_FAILCAUSE l = 4 := by
  obtain ⟨stage, cause, -⟩ := s.laneFail_shows l (show 4 < 16 by decide)
  exact ⟨_, (if_pos leat).trans (congrArg _ ((if_neg (not_not.2 deskew)).trans (if_pos far))), stage, cause⟩

theorem laneDeskew_ignored (skew : Nat) (other : s.laneStage l ≠ 5) :
    exec (.laneDeskewTimeout l) s = .next s ∧ exec (.laneDeskewDone l skew) s = .next s :=
  ⟨(if_pos leat).trans (congrArg _ (if_neg other)), (if_pos leat).trans (congrArg _ (if_pos other))⟩

theorem laneDeskewDone_readies {skew : Nat} (deskew : s.laneStage l = 5) (near : skew ≤ 1024) (idle : s.lkActive (laneLink l) = false) :
    Ends (.laneDeskewDone l skew) s (s.adaptKeep l) [(fSER_LSTAT_STAGE, l, 6)] := by
  refine ⟨_, (if_pos leat).trans (congrArg _ ((if_neg (not_not.2 deskew)).trans ((if_neg (Nat.not_lt.2 near)).trans (if_neg ?_)))),
    Sets.wr_one _ _ _ rfl⟩
  rw [State.lkActive_deskewed, idle]
  exact Bool.false_ne_true

theorem laneDeskewDone_takes_role {skew : Nat} (deskew : s.laneStage l = 5) (near : skew ≤ 1024) (active : s.lkActive (laneLink l) = true) :
    exec (.laneDeskewDone l skew) s = .next
      (let t := ((s.adaptKeep l).setStage l 6).txRole (laneLink l) (laneIdx l)
       (if t.rd fSER_LSTAT_LPOS_RX l = 0xF then t.rxRole (laneLink l) (laneIdx l) else t).spareNow (laneLink l)) :=
  (if_pos leat).trans (congrArg _ ((if_neg (not_not.2 deskew)).trans ((if_neg (Nat.not_lt.2 near)).trans
    (if_pos ((State.lkActive_deskewed ..).trans active)))))

/-! ### Loss of the clock (R111) -/

theorem laneCdrLoss_served (served : s.inService l = true) :
    exec (.laneCdrLoss l) s = .next ((s.inc fSER_LERR_CDRLOSS l).laneLost l 5) :=
  (if_pos leat).trans (congrArg _ (if_pos served))

theorem laneCdrLoss_fails (served : s.inService l = true) (idle : s.lkActive (laneLink l) = false) :
    EndsIn (.laneCdrLoss l) s fun t => t.laneStage l = 1 ∧ t.rd fSER_LSTAT_FAILCAUSE l = 5
      ∧ t.rd fSER_LERR_CDRLOSS l = min 0xFF (s.rd fSER_LERR_CDRLOSS l + 1) := by
  have still : (s.inc fSER_LERR_CDRLOSS l).lkActive (laneLink l) = false :=
    (State.lkActive_congr (State.rd_inc_key _ _ _ _ _ _ (by decide))).trans idle
  obtain ⟨stage, cause⟩ := State.laneLost_shows still (show 5 < 16 by decide)
  refine ⟨_, laneCdrLoss_served leat served, stage, cause, ?_⟩
  rw [State.rd_laneLost still _ _ _ (by decide), State.rd_inc_same]
  exact satAdd_lane_count _

theorem laneCdrLoss_counts (unserved : s.inService l = false) (locked : s.rdb fSER_LSTAT_CDRLOCK l = true) :
    EndsIn (.laneCdrLoss l) s fun t => t.rd fSER_LERR_CDRLOSS l = min 0xFF (s.rd fSER_LERR_CDRLOSS l + 1) ∧ t.rd fSER_LSTAT_CDRLOCK l = 0
      ∧ t.laneStage l = s.laneStage l := by
  refine ⟨_, (if_pos leat).trans (congrArg _ ((if_neg (by simp [unserved])).trans (if_pos locked))), ?_⟩
  unfold State.laneStage
  simp (disch := decide) only [State.rd_eyeLost, State.rd_wrb_key, State.rd_wrb_same, State.rd_inc_same, State.rd_inc_key, and_true]
  exact ⟨satAdd_lane_count _, rfl⟩

theorem laneCdrLoss_ignored (unserved : s.inService l = false) (unlocked : s.rdb fSER_LSTAT_CDRLOCK l = false) :
    exec (.laneCdrLoss l) s = .next s :=
  (if_pos leat).trans (congrArg _ ((if_neg (by simp [unserved])).trans (if_neg (by simp [unlocked]))))

end

/-! ### Stuffing violations (R109, R111) -/

/-- The violations of the last 256 ns, with one more at `at_`. -/
def State.stuffTimes (s : State) (l at_ : Nat) : List Nat := ((s.lane l).stuff.filter fun u => decide (at_ ≤ u + 256)) ++ [at_]

/-- One more violation counted. -/
def State.stuffCounted (s : State) (l at_ : Nat) : State :=
  (s.inc fSER_LERR_STUFFERR l).laneMod l fun n => { n with stuff := s.stuffTimes l at_ }

theorem State.stuffTimes_length (s : State) (l at_ : Nat) :
    (s.stuffTimes l at_).length = ((s.lane l).stuff.filter fun u => decide (at_ ≤ u + 256)).length + 1 := List.length_append

theorem State.rd_stuffCounted_key (s : State) (l at_ : Nat) (g : Fld) (j : Nat) (h : fSER_LERR_STUFFERR.key ≠ g.key) :
    (s.stuffCounted l at_).rd g j = s.rd g j := by
  rw [State.stuffCounted, State.laneMod_rd, State.rd_inc_key _ _ _ _ _ _ h]

theorem State.rd_stuffCounted_same (s : State) (l at_ : Nat) :
    (s.stuffCounted l at_).rd fSER_LERR_STUFFERR l = min 0xFF (s.rd fSER_LERR_STUFFERR l + 1) := by
  rw [State.stuffCounted, State.laneMod_rd, State.rd_inc_same]
  exact satAdd_lane_count _

section
variable {s : State} {l : Nat} (leat : isLeatLane l = true) (at_ : Nat)
include leat

theorem laneStuffViolation_ignored (early : s.laneStage l < 3) : exec (.laneStuffViolation l at_) s = .next s :=
  (if_pos leat).trans (congrArg _ (if_pos early))

theorem exec_laneStuffViolation (aligned : 3 ≤ s.laneStage l) : exec (.laneStuffViolation l at_) s = .next
    (if s.inService l && decide (4 ≤ (s.stuffTimes l at_).length) then (s.stuffCounted l at_).laneLost l 7 else s.stuffCounted l at_) := by
  have still : (s.stuffCounted l at_).inService l = s.inService l := State.inService_congr (State.rd_stuffCounted_key _ _ _ _ _ (by decide))
  rw [← still]
  exact (if_pos leat).trans (congrArg _ (if_neg (Nat.not_lt.2 aligned)))

theorem laneStuffViolation_counts (aligned : 3 ≤ s.laneStage l)
    (few : s.inService l = false ∨ ((s.lane l).stuff.filter fun u => decide (at_ ≤ u + 256)).length < 3) :
    EndsIn (.laneStuffViolation l at_) s fun t =>
      t.rd fSER_LERR_STUFFERR l = min 0xFF (s.rd fSER_LERR_STUFFERR l + 1) ∧ t.laneStage l = s.laneStage l := by
  refine ⟨_, (exec_laneStuffViolation leat at_ aligned).trans (congrArg _ (if_neg ?_)), s.rd_stuffCounted_same l at_,
    s.rd_stuffCounted_key l at_ _ _ (by decide)⟩
  rw [s.stuffTimes_length, Bool.and_eq_true, decide_eq_true_eq]
  rintro ⟨served, four⟩
  rcases few with unserved | few
  · exact Bool.false_ne_true (unserved.symm.trans served)
  · omega

theorem laneStuffViolation_fails (served : s.inService l = true)
    (many : 3 ≤ ((s.lane l).stuff.filter fun u => decide (at_ ≤ u + 256)).length) (idle : s.lkActive (laneLink l) = false) :
    EndsIn (.laneStuffViolation l at_) s fun t =>
      t.rd fSER_LERR_STUFFERR l = min 0xFF (s.rd fSER_LERR_STUFFERR l + 1) ∧ t.laneStage l = 1 ∧ t.rd fSER_LSTAT_FAILCAUSE l = 7 := by
  have four : 4 ≤ (s.stuffTimes l at_).length := by rw [s.stuffTimes_length]; omega
  have still : (s.stuffCounted l at_).lkActive (laneLink l) = false :=
    (State.lkActive_congr (State.rd_stuffCounted_key _ _ _ _ _ (by decide))).trans idle
  have aligned : 3 ≤ s.laneStage l := le_trans (by decide) (State.inService_stage served).1
  refine ⟨_, (exec_laneStuffViolation leat at_ aligned).trans (congrArg _ (if_pos (by simp [served, four]))), ?_,
    State.laneLost_shows still (by decide)⟩
  rw [State.rd_laneLost still _ _ _ (by decide)]
  exact s.rd_stuffCounted_same l at_

end

end Sys2Proof.Machine
end

section
/-! PROOFS. Markers received: in ALIGN, in EQ, in DESKEW and in service, good, bad and missing. -/
namespace Sys2Proof.Machine

/-! ### A good marker (R110, R113) -/

/-- What a good marker `w` makes of a lane's record. -/
def Lane.seen (n : Lane) (w : Nat) : Lane := { n with link := mkLink w, node := mkNode w, phase := mkPhase w, bad := 0, known := true }

theorem State.markerSeen_eq (s : State) (l w : Nat) :
    s.markerSeen l w = (((s.wr fSER_LSTAT_PIDX_RX l (mkPidx w)).wr fSER_LSTAT_LPOS_RX l (mkLpos w)).laneMod l fun n => n.seen w).wrb
      fSER_LSTAT_CDRLOCK l true := rfl

theorem State.lane_markerSeen (s : State) (l w m : Nat) : (s.markerSeen l w).lane m = if l = m then (s.lane l).seen w else s.lane m := by
  rw [State.markerSeen_eq, State.lane_wrb, State.lane_laneMod, State.lane_wr, State.lane_wr, State.lane_wr, State.lane_wr]

/-- The fields that a good marker writes. -/
def seenKeys : List Nat := [fSER_LSTAT_PIDX_RX.key, fSER_LSTAT_LPOS_RX.key, fSER_LSTAT_CDRLOCK.key]

theorem State.rd_markerSeen (s : State) (l w : Nat) (g : Fld) (j : Nat) (h : g.key ∉ seenKeys) : (s.markerSeen l w).rd g j = s.rd g j := by
  simp only [seenKeys, List.mem_cons, List.not_mem_nil, or_false, not_or] at h
  obtain ⟨pidx, lpos, clock⟩ := h
  rw [State.markerSeen_eq, State.rd_wrb_key _ _ _ _ _ _ (Ne.symm clock), State.laneMod_rd, State.rd_wr_key _ _ _ _ _ _ (Ne.symm lpos),
    State.rd_wr_key _ _ _ _ _ _ (Ne.symm pidx)]

theorem State.markerSeen_shows (s : State) (l w : Nat) :
    (s.markerSeen l w).rd fSER_LSTAT_PIDX_RX l = mkPidx w ∧ (s.markerSeen l w).rd fSER_LSTAT_LPOS_RX l = mkLpos w := by
  rw [State.markerSeen_eq]
  simp (disch := decide) only [State.rd_wrb_key, State.laneMod_rd, State.rd_wr_key, State.rd_wr_same]
  exact ⟨bitsOf_mod .., bitsOf_mod ..⟩

/-! ### Four in a row in ALIGN (R111, R112) -/

/-- The good markers in a row, with one more at symbol offset `off` and polarity `inv`. -/
def State.goodCount (s : State) (l off : Nat) (inv : Bool) : Nat :=
  if (s.lane l).good ≠ 0 ∧ (s.lane l).offset = off ∧ (s.lane l).inv = inv then (s.lane l).good + 1 else 1

/-- The marker counted. -/
def State.markerCounted (s : State) (l off : Nat) (inv : Bool) : State :=
  s.laneMod l fun n => { n with good := s.goodCount l off inv, offset := off, inv := inv }

/-- Marker lock: the lane starts EQ at preset P4. -/
def State.markerLocked (s : State) (l : Nat) (inv : Bool) : State :=
  (((s.wrb fSER_LSTAT_MARKLOCK l true).wrb fSER_LSTAT_RXINV l inv).setStage l 4).setPreset l 4

theorem State.rd_markerCounted (s : State) (l off : Nat) (inv : Bool) (g : Fld) (j : Nat) : (s.markerCounted l off inv).rd g j = s.rd g j := by
  rw [State.markerCounted, State.laneMod_rd]

theorem State.lane_markerCounted (s : State) (l off : Nat) (inv : Bool) (m : Nat) : (s.markerCounted l off inv).lane m
    = if l = m then { s.lane l with good := s.goodCount l off inv, offset := off, inv := inv } else s.lane m := by
  rw [State.markerCounted, State.lane_laneMod]

theorem State.markerAlign_eq (s : State) (l off : Nat) (inv : Bool) :
    s.markerAlign l off inv = if s.goodCount l off inv < 4 then s.markerCounted l off inv else (s.markerCounted l off inv).markerLocked l inv := rfl

theorem State.goodCount_markerSeen (s : State) (l w off : Nat) (inv : Bool) : (s.markerSeen l w).goodCount l off inv = s.goodCount l off inv := by
  unfold State.goodCount
  rw [State.lane_markerSeen, if_pos rfl]
  rfl

/-- The fields that marker lock writes. -/
def lockKeys : List Nat :=
  [fSER_LSTAT_MARKLOCK.key, fSER_LSTAT_RXINV.key, fSER_LSTAT_STAGE.key, fSER_TXEQ_CM2.key, fSER_TXEQ_CM1.key, fSER_TXEQ_CP1.key,
   fSER_TXEQ_C0.key, fSER_TXEQ_PRESET.key]

theorem State.rd_markerLocked (s : State) (l : Nat) (inv : Bool) (g : Fld) (j : Nat) (h : g.key ∉ lockKeys) :
    (s.markerLocked l inv).rd g j = s.rd g j := by
  simp only [lockKeys, List.mem_cons, List.not_mem_nil, or_false, not_or] at h
  obtain ⟨mark, pol, stage, cm2, cm1, cp1, c0, preset⟩ := h
  unfold State.markerLocked State.setPreset State.setTaps State.setStage
  rw [State.rd_wr_key _ _ _ _ _ _ (Ne.symm preset), State.rd_wr_key _ _ _ _ _ _ (Ne.symm c0), State.rd_wr_key _ _ _ _ _ _ (Ne.symm cp1),
    State.rd_wr_key _ _ _ _ _ _ (Ne.symm cm1), State.rd_wr_key _ _ _ _ _ _ (Ne.symm cm2), State.rd_wr_key _ _ _ _ _ _ (Ne.symm stage),
    State.rd_wrb_key _ _ _ _ _ _ (Ne.symm pol), State.rd_wrb_key _ _ _ _ _ _ (Ne.symm mark)]

theorem State.markerLocked_shows (s : State) (l : Nat) (inv : Bool) :
    (s.markerLocked l inv).laneStage l = 4 ∧ (s.markerLocked l inv).rd fSER_LSTAT_MARKLOCK l = 1
    ∧ (s.markerLocked l inv).rd fSER_LSTAT_RXINV l = b2n inv ∧ (s.markerLocked l inv).rd fSER_TXEQ_PRESET l = 4 := by
  unfold State.laneStage State.markerLocked State.setPreset State.setTaps State.setStage
  simp (disch := decide) only [State.rd_wr_key, State.rd_wrb_key, State.rd_wr_same, State.rd_wrb_same]
  exact ⟨rfl, rfl, b2n_mod_two inv, rfl⟩

theorem State.lane_markerLocked (s : State) (l : Nat) (inv : Bool) (m : Nat) : (s.markerLocked l inv).lane m = s.lane m := by
  simp only [State.markerLocked, State.lane_setPreset, State.lane_setStage, State.lane_wrb]

/-! ### One lane alone has no majority (R113) -/

theorem linkLanes_nodup (k : Nat) : (linkLanes k).Nodup := by
  refine List.Nodup.map (fun i j h => ?_) List.nodup_range
  unfold laneOf at h
  omega

theorem mem_linkLanes {l : Nat} (leat : isLeatLane l = true) : l ∈ linkLanes (laneLink l) := by
  have range : 256 ≤ l ∧ l < 328 := of_decide_eq_true leat
  refine List.mem_map.2 ⟨laneIdx l, List.mem_range.2 (Nat.mod_lt _ (by decide)), ?_⟩
  unfold laneOf laneLink laneIdx
  omega

section
variable {s : State} {l : Nat} (leat : isLeatLane l = true) (self : (s.lane l).known = true)
    (alone : ∀ m ∈ linkLanes (laneLink l), m ≠ l → (s.lane m).known = false)
include leat self alone

/-- Where no other lane of its link has had a good marker, a lane's peer is the only one seen. -/
theorem State.peersSeen_alone : s.peersSeen (laneLink l) = [s.peerOf l] := by
  have only : ((linkLanes (laneLink l)).filter fun m => (s.lane m).known) = (linkLanes (laneLink l)).filter (· == l) := by
    refine List.filter_congr fun m hm => ?_
    by_cases same : m = l
    · rw [same, self]
      exact (beq_self_eq_true l).symm
    · rw [alone m hm same]
      exact (beq_false_of_ne same).symm
  unfold State.peersSeen
  rw [only, List.filter_beq, List.count_eq_one_of_mem (linkLanes_nodup _) (mem_linkLanes leat)]
  rfl

theorem State.majority_alone : s.majority (laneLink l) = none := by
  unfold State.majority
  rw [State.peersSeen_alone leat self alone]
  simp

theorem State.noMajority_alone : s.noMajority (laneLink l) = false := by
  unfold State.noMajority
  rw [State.peersSeen_alone leat self alone]
  simp

end

theorem State.lane_orderNow (s : State) (k m : Nat) : (s.orderNow k).lane m = s.lane m :=
  State.each_induct (fun t => t.lane m = s.lane m) (by exact fun _ _ h => h) rfl

theorem State.rd_orderNow (s : State) (k : Nat) (g : Fld) (j : Nat) (h : fSER_LSTAT_ORDER.key ≠ g.key) : (s.orderNow k).rd g j = s.rd g j :=
  State.each_induct (fun t => t.rd g j = s.rd g j) (by exact fun _ _ ht => (State.rd_wr_key _ _ _ _ _ _ h).trans ht) rfl

/-- On a link that is not ACTIVE no lane gives up a place. -/
theorem State.lostPlaces_inactive {s : State} {k : Nat} (idle : s.lkActive k = false) : s.lostPlaces k = s := by
  refine State.each_induct (fun t => t = s) (fun t i ht => ?_) rfl
  subst ht
  exact if_neg (by simp [idle])

/-- The first lane of a link to have marker lock: nothing is judged but its order. -/
theorem State.judged_alone {s : State} {l : Nat} (leat : isLeatLane l = true) (self : (s.lane l).known = true)
    (alone : ∀ m ∈ linkLanes (laneLink l), m ≠ l → (s.lane m).known = false) (idle : s.lkActive (laneLink l) = false) :
    ((s.judgeLanes (laneLink l)).lostPlaces (laneLink l)).peerNow (laneLink l) = s.orderNow (laneLink l) := by
  have self' : ((s.orderNow (laneLink l)).lane l).known = true := by rw [State.lane_orderNow, self]
  have alone' : ∀ m ∈ linkLanes (laneLink l), m ≠ l → ((s.orderNow (laneLink l)).lane m).known = false := fun m hm other => by
    rw [State.lane_orderNow, alone m hm other]
  have none := State.majority_alone leat self' alone'
  have judged : s.judgeLanes (laneLink l) = s.orderNow (laneLink l) := by
    unfold State.judgeLanes
    dsimp only
    rw [none]
    exact if_neg (by rw [State.noMajority_alone leat self' alone']; exact Bool.false_ne_true)
  have still : (s.orderNow (laneLink l)).lkActive (laneLink l) = false := (State.lkActive_congr (State.rd_orderNow _ _ _ _ (by decide))).trans idle
  rw [judged, State.lostPlaces_inactive still, State.peerNow, none]
  rfl

/-! ### Requests in EQ (R115) -/

/-- What a good marker in EQ makes of the partner's request. -/
def Lane.asked (n : Lane) (w : Nat) : Lane :=
  { n with
    eqGot := n.eqGot || mkStep w == 7
    ack := if mkPreset w = 0xF ∧ (mkStep w = 0 ∨ mkStep w = 7) then false else n.ack
    ask := if mkPreset w = 0xF ∧ (mkStep w = 0 ∨ mkStep w = 7) then none else if n.ack then n.ask
      else some (if mkPreset w = 0xF then 16 + mkStep w else mkPreset w) }

theorem State.markerEq_eq (s : State) (l w : Nat) (fom : Bool) :
    s.markerEq l w fom = if (((s.ownReq l (mkAck w) fom).laneMod l fun n => n.asked w).lane l).eqSent
        && (((s.ownReq l (mkAck w) fom).laneMod l fun n => n.asked w).lane l).eqGot
      then ((s.ownReq l (mkAck w) fom).laneMod l fun n => n.asked w).setStage l 5 else (s.ownReq l (mkAck w) fom).laneMod l fun n => n.asked w := rfl

theorem State.lane_markerEq (s : State) (l w : Nat) (fom : Bool) : (s.markerEq l w fom).lane l = ((s.ownReq l (mkAck w) fom).lane l).asked w := by
  rw [State.markerEq_eq]
  split
  · rw [State.lane_setStage, State.lane_laneMod_same]
  · rw [State.lane_laneMod_same]

/-- The receiver's own requests leave the partner's. -/
theorem State.ownReq_leaves (s : State) (l : Nat) (acked fom : Bool) :
    ((s.ownReq l acked fom).lane l).ack = (s.lane l).ack ∧ ((s.ownReq l acked fom).lane l).known = (s.lane l).known := by
  have drawn : s.nextReq.2.lane l = s.lane l := rfl
  unfold State.ownReq
  dsimp only
  split
  · exact ⟨rfl, rfl⟩
  split
  · split
    · rw [State.lane_laneMod_same]
      exact ⟨rfl, rfl⟩
    · exact ⟨rfl, rfl⟩
  split
  · exact ⟨rfl, rfl⟩
  split
  · rw [State.lane_laneMod_same]
    exact ⟨rfl, rfl⟩
  · rw [State.lane_laneMod_same, drawn]
    exact ⟨rfl, rfl⟩

/-- A receiver that asks for nothing and whose figure of merit has stopped improving sends STEPREQ 7. -/
theorem State.ownReq_done {s : State} {l : Nat} {acked : Bool} (unsent : (s.lane l).eqSent = false) (none : (s.lane l).req = none)
    (free : (s.lane l).gap = false ∨ acked = false) : s.ownReq l acked true = s.laneMod l fun n => { n with eqSent := true, gap := false } := by
  unfold State.ownReq
  dsimp only
  rw [unsent, none, if_neg Bool.false_ne_true, if_neg (by simp), if_neg, if_pos rfl]
  rintro ⟨gap, acked_⟩
  rcases free with h | h
  · exact Bool.false_ne_true (h.symm.trans gap)
  · exact Bool.false_ne_true (h.symm.trans acked_)

end Sys2Proof.Machine
end

section
/-! PROOFS. What each marker, and each missing one, makes of a Leat lane. -/
namespace Sys2Proof.Machine

/-! ### Bad and missing markers (R110, R111) -/

theorem State.markerBad_align {s : State} {l : Nat} (align : s.laneStage l = 3) : s.markerBad l = s.laneMod l fun n => { n with good := 0 } :=
  if_pos align

section
variable {s : State} {l : Nat} (served : s.inService l = true)
include served

theorem State.markerBad_served :
    s.markerBad l = if (s.lane l).bad = 1 then s.laneLost l 6 else s.laneMod l fun n => { n with bad := 1 } := by
  have other : s.laneStage l ≠ 3 := fun align => absurd (State.inService_stage served).1 (by rw [align]; decide)
  exact (if_neg other).trans (if_pos served)

end

section
variable {s : State} {l : Nat} (leat : isLeatLane l = true)
include leat

theorem exec_laneMarkerMissing : exec (.laneMarkerMissing l) s = .next (s.markerBad l) := if_pos leat

theorem laneMarkerMissing_align (align : s.laneStage l = 3) : exec (.laneMarkerMissing l) s = .next (s.laneMod l fun n => { n with good := 0 }) := by
  rw [exec_laneMarkerMissing leat, State.markerBad_align align]

theorem laneMarkerMissing_first (served : s.inService l = true) (bad : (s.lane l).bad = 0) :
    exec (.laneMarkerMissing l) s = .next (s.laneMod l fun n => { n with bad := 1 }) := by
  rw [exec_laneMarkerMissing leat, State.markerBad_served served, if_neg (by rw [bad]; decide)]

theorem laneMarkerMissing_second (served : s.inService l = true) (bad : (s.lane l).bad = 1) (idle : s.lkActive (laneLink l) = false) :
    EndsIn (.laneMarkerMissing l) s fun t => t.laneStage l = 1 ∧ t.rd fSER_LSTAT_FAILCAUSE l = 6 := by
  refine ⟨_, ?_, State.laneLost_shows idle (show 6 < 16 by decide)⟩
  rw [exec_laneMarkerMissing leat, State.markerBad_served served, if_pos bad]

theorem laneMarkerMissing_ignored (other : s.laneStage l ≠ 3) (unserved : s.inService l = false) : exec (.laneMarkerMissing l) s = .next s :=
  (exec_laneMarkerMissing leat).trans (congrArg _ ((if_neg other).trans (if_neg (by simp [unserved]))))

end

/-! ### LANE_MARKER_RECEIVE (R110 to R113, R115) -/

/-- What a good marker makes of a lane that counts it in ALIGN: the fourth in a row gives it marker lock, and its link judges it. -/
def State.markerInAlign (s : State) (l w off : Nat) (inv : Bool) : State :=
  if ((s.markerSeen l w).markerAlign l off inv).laneStage l = 4 then
    ((((s.markerSeen l w).markerAlign l off inv).judgeLanes (laneLink l)).lostPlaces (laneLink l)).peerNow (laneLink l)
  else (s.markerSeen l w).markerAlign l off inv

/-- What a good marker makes of a lane, by its stage. -/
def State.markerTaken (s : State) (l w off : Nat) (inv fom : Bool) : State :=
  if s.laneStage l = 3 then s.markerInAlign l w off inv
  else if s.laneStage l = 4 then (s.markerSeen l w).markerEq l w fom
  else if s.laneStage l = 5 then s.markerSeen l w
  else (s.markerSeen l w).markerServed l w ((s.lane l).phase, s.rd fSER_LSTAT_LPOS_RX l)

section
variable {s : State} {l w off : Nat} {inv : Bool} (leat : isLeatLane l = true) (hw : w < 2 ^ 48) (hoff : off < blockSymbols)
include leat hw hoff

theorem laneMarker_unit : (isLeatLane l && decide (w < 2 ^ 48 ∧ off < blockSymbols)) = true := by
  rw [leat, decide_eq_true ⟨hw, hoff⟩]
  rfl

theorem laneMarkerReceive_ignored (fom : Bool) (deaf : s.laneStage l < 3 ∨ 7 < s.laneStage l
      ∨ (s.laneStage l = 3 ∧ s.rdb fSER_LCTL_ALIGNMAN l = true ∧ off ≠ (s.lane l).offset)) :
    exec (.laneMarkerReceive l w off inv fom) s = .next s := by
  refine (if_pos (laneMarker_unit leat hw hoff)).trans (congrArg Host.Outcome.next ?_)
  rcases deaf with early | late | ⟨align, manual, elsewhere⟩
  · exact if_pos (.inl early)
  · exact if_pos (.inr late)
  · exact (if_neg (by omega)).trans (if_pos (by simp [align, manual, elsewhere]))

section
variable (stage : 3 ≤ s.laneStage l ∧ s.laneStage l ≤ 7) (auto : s.laneStage l = 3 → s.rdb fSER_LCTL_ALIGNMAN l = false)
include stage auto

/-- A lane from ALIGN on hears every marker, where none of ALIGN is left to software. -/
theorem exec_laneMarkerReceive (fom : Bool) : exec (.laneMarkerReceive l w off inv fom) s = .next
    (if !markerGood w || !s.polarityOk l inv then (s.inc fSER_LERR_MARKERR l).markerBad l else s.markerTaken l w off inv fom) := by
  have heard : ¬ (s.laneStage l == 3 && s.rdb fSER_LCTL_ALIGNMAN l && off != (s.lane l).offset) = true := by
    simp only [Bool.and_eq_true, beq_iff_eq]
    rintro ⟨⟨align, manual⟩, -⟩
    exact Bool.false_ne_true ((auto align).symm.trans manual)
  exact (if_pos (laneMarker_unit leat hw hoff)).trans (congrArg Host.Outcome.next ((if_neg (by omega)).trans (if_neg heard)))

theorem laneMarkerReceive_bad (fom : Bool) (bad : markerGood w = false ∨ s.polarityOk l inv = false) :
    exec (.laneMarkerReceive l w off inv fom) s = .next ((s.inc fSER_LERR_MARKERR l).markerBad l) := by
  rw [exec_laneMarkerReceive leat hw hoff stage auto, if_pos (by simpa using bad)]

theorem laneMarkerReceive_good (fom : Bool) (good : markerGood w = true) (polarity : s.polarityOk l inv = true) :
    exec (.laneMarkerReceive l w off inv fom) s = .next (s.markerTaken l w off inv fom) := by
  rw [exec_laneMarkerReceive leat hw hoff stage auto, if_neg (by simp [good, polarity])]

end

/-! ### In ALIGN -/

section
variable (align : s.laneStage l = 3) (auto : s.rdb fSER_LCTL_ALIGNMAN l = false)
include align auto

theorem laneMarkerReceive_align (fom : Bool) (good : markerGood w = true) (polarity : s.polarityOk l inv = true) :
    exec (.laneMarkerReceive l w off inv fom) s = .next (s.markerInAlign l w off inv) := by
  rw [laneMarkerReceive_good leat hw hoff (by omega) (fun _ => auto) fom good polarity]
  exact congrArg _ (if_pos align)

theorem laneMarkerReceive_align_bad (fom : Bool) (bad : markerGood w = false ∨ s.polarityOk l inv = false) :
    EndsIn (.laneMarkerReceive l w off inv fom) s fun t =>
      t.rd fSER_LERR_MARKERR l = min 0xFF (s.rd fSER_LERR_MARKERR l + 1) ∧ (t.lane l).good = 0 ∧ t.laneStage l = 3 := by
  have still : (s.inc fSER_LERR_MARKERR l).laneStage l = 3 := (State.rd_inc_key _ _ _ _ _ _ (by decide)).trans align
  refine ⟨_, laneMarkerReceive_bad leat hw hoff (by omega) (fun _ => auto) fom bad, ?_⟩
  rw [State.markerBad_align still]
  refine ⟨?_, ?_, still⟩
  · rw [State.laneMod_rd, State.rd_inc_same]
    exact satAdd_lane_count _
  · rw [State.lane_laneMod_same]

/-- A good marker that is not yet the fourth in a row. -/
theorem laneMarkerReceive_counts (fom : Bool) (good : markerGood w = true) (polarity : s.polarityOk l inv = true) (few : (s.lane l).good < 3) :
    EndsIn (.laneMarkerReceive l w off inv fom) s fun t =>
      t.laneStage l = 3 ∧ t.rd fSER_LSTAT_PIDX_RX l = mkPidx w ∧ t.rd fSER_LSTAT_LPOS_RX l = mkLpos w
      ∧ (t.lane l).link = mkLink w ∧ (t.lane l).node = mkNode w ∧ (t.lane l).offset = off ∧ (t.lane l).inv = inv := by
  have count : (s.markerSeen l w).goodCount l off inv < 4 := by
    rw [State.goodCount_markerSeen]
    unfold State.goodCount
    split <;> omega
  have counted : (s.markerSeen l w).markerAlign l off inv = (s.markerSeen l w).markerCounted l off inv := if_pos count
  have stage : ((s.markerSeen l w).markerCounted l off inv).laneStage l = 3 :=
    (State.rd_markerCounted ..).trans ((s.rd_markerSeen l w _ _ (by decide)).trans align)
  have shown : s.markerInAlign l w off inv = (s.markerSeen l w).markerCounted l off inv := by
    unfold State.markerInAlign
    rw [counted, if_neg (by rw [stage]; decide)]
  obtain ⟨pidx, lpos⟩ := s.markerSeen_shows l w
  refine ⟨_, laneMarkerReceive_align leat hw hoff align auto fom good polarity, ?_⟩
  rw [shown]
  refine ⟨stage, (State.rd_markerCounted ..).trans pidx, (State.rd_markerCounted ..).trans lpos, ?_⟩
  rw [State.lane_markerCounted, State.lane_markerSeen, if_pos rfl, if_pos rfl]
  exact ⟨rfl, rfl, rfl, rfl⟩

/-- The fourth good marker in a row at one offset and one polarity, on the first lane of its link. -/
theorem laneMarkerReceive_locks (fom : Bool) (good : markerGood w = true) (polarity : s.polarityOk l inv = true) (three : (s.lane l).good = 3)
    (sameOff : (s.lane l).offset = off) (sameInv : (s.lane l).inv = inv) (idle : s.lkActive (laneLink l) = false)
    (alone : ∀ m ∈ linkLanes (laneLink l), m ≠ l → (s.lane m).known = false) :
    EndsIn (.laneMarkerReceive l w off inv fom) s fun t =>
      t.laneStage l = 4 ∧ t.rd fSER_LSTAT_MARKLOCK l = 1 ∧ t.rd fSER_LSTAT_RXINV l = b2n inv ∧ t.rd fSER_TXEQ_PRESET l = 4 := by
  have count : (s.markerSeen l w).goodCount l off inv = 4 := by
    rw [State.goodCount_markerSeen]
    unfold State.goodCount
    rw [if_pos ⟨by rw [three]; decide, sameOff, sameInv⟩, three]
  generalize hu : ((s.markerSeen l w).markerCounted l off inv).markerLocked l inv = u
  have locked : (s.markerSeen l w).markerAlign l off inv = u := by rw [State.markerAlign_eq, if_neg (by rw [count]; decide), hu]
  have lane (m : Nat) : (u.lane m).known = if l = m then true else (s.lane m).known := by
    rw [← hu, State.lane_markerLocked, State.lane_markerCounted, State.lane_markerSeen, State.lane_markerSeen, if_pos rfl]
    split <;> rfl
  have still : u.lkActive (laneLink l) = false := by
    refine (State.lkActive_congr ?_).trans idle
    rw [← hu, State.rd_markerLocked _ _ _ _ _ (by decide), State.rd_markerCounted, State.rd_markerSeen _ _ _ _ _ (by decide)]
  obtain ⟨stage, mark, pol, preset⟩ := State.markerLocked_shows ((s.markerSeen l w).markerCounted l off inv) l inv
  rw [hu] at stage mark pol preset
  have judged : s.markerInAlign l w off inv = u.orderNow (laneLink l) := by
    unfold State.markerInAlign
    rw [locked, if_pos stage]
    refine State.judged_alone leat ((lane l).trans (if_pos rfl)) (fun m hm other => ?_) still
    exact ((lane m).trans (if_neg (Ne.symm other))).trans (alone m hm other)
  refine ⟨_, laneMarkerReceive_align leat hw hoff align auto fom good polarity, ?_⟩
  rw [judged]
  have same (g : Fld) (h : fSER_LSTAT_ORDER.key ≠ g.key) := u.rd_orderNow (laneLink l) g l h
  exact ⟨(same _ (by decide)).trans stage, (same _ (by decide)).trans mark, (same _ (by decide)).trans pol, (same _ (by decide)).trans preset⟩

end

/-! ### In EQ, in DESKEW and in service -/

section
variable (good : markerGood w = true) (polarity : s.polarityOk l inv = true)
include good polarity

theorem laneMarkerReceive_eq (fom : Bool) (eq_ : s.laneStage l = 4) :
    exec (.laneMarkerReceive l w off inv fom) s = .next ((s.markerSeen l w).markerEq l w fom) := by
  rw [laneMarkerReceive_good leat hw hoff (by omega) (by omega) fom good polarity]
  exact congrArg _ ((if_neg (by omega)).trans (if_pos eq_))

theorem laneMarkerReceive_deskew (fom : Bool) (deskew : s.laneStage l = 5) :
    exec (.laneMarkerReceive l w off inv fom) s = .next (s.markerSeen l w) := by
  rw [laneMarkerReceive_good leat hw hoff (by omega) (by omega) fom good polarity]
  exact congrArg _ ((if_neg (by omega)).trans ((if_neg (by omega)).trans (if_pos deskew)))

theorem laneMarkerReceive_served (fom : Bool) (served : s.inService l = true) : exec (.laneMarkerReceive l w off inv fom) s
    = .next ((s.markerSeen l w).markerServed l w ((s.lane l).phase, s.rd fSER_LSTAT_LPOS_RX l)) := by
  have stage := State.inService_stage served
  rw [laneMarkerReceive_good leat hw hoff (by omega) (by omega) fom good polarity]
  exact congrArg _ ((if_neg (by omega)).trans ((if_neg (by omega)).trans (if_neg (by omega))))

section
variable (eq_ : s.laneStage l = 4)
include eq_

/-- A partner's request that waits: none is acknowledged, and this one is a preset or a step. -/
theorem laneMarkerReceive_asks (fom : Bool) (request : ¬ (mkPreset w = 0xF ∧ (mkStep w = 0 ∨ mkStep w = 7))) (free : (s.lane l).ack = false) :
    EndsIn (.laneMarkerReceive l w off inv fom) s fun t =>
      (t.lane l).ask = some (if mkPreset w = 0xF then 16 + mkStep w else mkPreset w) ∧ (t.lane l).known = true := by
  obtain ⟨ack, known⟩ := (s.markerSeen l w).ownReq_leaves l (mkAck w) fom
  rw [State.lane_markerSeen, if_pos rfl] at ack known
  refine ⟨_, laneMarkerReceive_eq leat hw hoff good polarity fom eq_, ?_⟩
  beta_reduce
  rw [State.lane_markerEq]
  refine ⟨(if_neg request).trans (if_neg ?_), known⟩
  rw [ack]
  exact ne_true_of_eq_false free

/-- With no request the acknowledgement is withdrawn. -/
theorem laneMarkerReceive_withdraws (fom : Bool) (none : mkPreset w = 0xF ∧ (mkStep w = 0 ∨ mkStep w = 7)) :
    EndsIn (.laneMarkerReceive l w off inv fom) s fun t => (t.lane l).ask = Option.none ∧ (t.lane l).ack = false := by
  refine ⟨_, laneMarkerReceive_eq leat hw hoff good polarity fom eq_, ?_⟩
  beta_reduce
  rw [State.lane_markerEq]
  exact ⟨if_pos none, if_pos none⟩

/-- Both ends are done: the lane goes on to DESKEW. -/
theorem laneMarkerReceive_tuned (done : mkStep w = 7) (unsent : (s.lane l).eqSent = false) (none : (s.lane l).req = none)
    (free : (s.lane l).gap = false ∨ mkAck w = false) :
    EndsIn (.laneMarkerReceive l w off inv true) s fun t => (t.lane l).eqSent = true ∧ (t.lane l).eqGot = true ∧ t.laneStage l = 5 := by
  have seen : (s.markerSeen l w).lane l = (s.lane l).seen w := (s.lane_markerSeen l w l).trans (if_pos rfl)
  have own := State.ownReq_done (s := s.markerSeen l w) (l := l) (acked := mkAck w) (by rw [seen]; exact unsent) (by rw [seen]; exact none)
    (by rw [seen]; exact free)
  have sent : ((((s.markerSeen l w).ownReq l (mkAck w) true).lane l).asked w).eqSent = true := by rw [own, State.lane_laneMod_same]; rfl
  have got : ((((s.markerSeen l w).ownReq l (mkAck w) true).lane l).asked w).eqGot = true := by simp [Lane.asked, done]
  refine ⟨_, laneMarkerReceive_eq leat hw hoff good polarity true eq_, ?_⟩
  beta_reduce
  rw [State.lane_markerEq]
  refine ⟨sent, got, ?_⟩
  rw [State.markerEq_eq, State.lane_laneMod_same, sent, got]
  exact State.rd_wr_same ..

end
end
end

/-- Settles O23: each event of a stage by the branch of its command that the stage selects. -/
theorem laneStages : Obligations.LaneStages := by
  unfold Obligations.LaneStages
  refine ⟨fun _ _ => laneEnergyDetect_clocks, fun _ _ => laneEnergyDetect_ignored, fun _ _ => laneCdrLock_aligns, fun _ _ => laneCdr_ignored,
    fun s l leat other => laneAlignTimeout_ignored leat (.inl other), fun _ _ => laneEq_ignored, fun s l skew leat => laneDeskew_ignored leat skew,
    fun s l leat none => laneEqApply_ignored leat (.inl none), fun _ _ => laneCdrTimeout_fails, fun _ _ => laneAlignTimeout_fails,
    fun s l leat _ manual => laneAlignTimeout_ignored leat (.inr manual), fun _ _ _ leat => laneEqApply_preset leat,
    fun s l q leat eq_ ask below => laneEqApply_beyond leat eq_ ask (State.eqApply_below below), fun _ _ _ _ _ _ leat => laneEqApply_step leat,
    fun s l q x y z leat eq_ ask step beyond => laneEqApply_beyond leat eq_ ask ((State.eqApply_step step).trans (if_neg (by simp [beyond]))),
    fun _ _ => laneEqTimeout_fails, fun _ _ => laneDeskewTimeout_fails, fun _ _ _ leat => laneDeskewDone_readies leat,
    fun _ _ _ leat => laneDeskewDone_takes_role leat,
    fun _ _ _ leat => laneDeskewDone_fails leat, fun _ _ => laneCdrLoss_fails, fun _ _ => laneCdrLoss_served, fun _ _ => laneCdrLoss_counts,
    fun _ _ => laneCdrLoss_ignored, fun s l w off inv p leat hw hoff eq_ good polarity preset hp free fom => ?preset,
    fun s l w off inv q leat hw hoff eq_ good polarity preset step low high free fom => ?step,
    fun s l w off inv leat hw hoff eq_ good polarity preset step fom =>
      laneMarkerReceive_withdraws leat hw hoff good polarity eq_ fom ⟨preset, .inl step⟩,
    fun s l w off inv leat hw hoff eq_ good polarity _ step unsent none free =>
      laneMarkerReceive_tuned leat hw hoff good polarity eq_ step unsent none free,
    fun s l w off inv fom leat hw hoff good polarity => ⟨laneMarkerReceive_eq leat hw hoff good polarity fom,
      laneMarkerReceive_deskew leat hw hoff good polarity fom, laneMarkerReceive_served leat hw hoff good polarity fom⟩,
    fun s l w off inv fom leat hw hoff first last => laneMarkerReceive_bad leat hw hoff (by omega) (by omega) fom,
    fun s l w off inv fom leat hw hoff => laneMarkerReceive_ignored leat hw hoff fom,
    fun s l at_ leat aligned unserved => ?unserved, fun s l at_ leat => laneStuffViolation_ignored leat at_,
    fun s l at_ leat served few => ?few, fun s l at_ leat => laneStuffViolation_fails leat at_,
    fun s l w off inv leat hw hoff align auto good polarity few fom => laneMarkerReceive_counts leat hw hoff align auto fom good polarity few,
    fun s l w off inv leat hw hoff align auto bad fom => laneMarkerReceive_align_bad leat hw hoff align auto fom bad,
    fun _ _ => laneMarkerMissing_align, fun _ _ => laneMarkerMissing_first, fun _ _ => laneMarkerMissing_ignored,
    fun s l w off inv fom leat hw hoff align auto => laneMarkerReceive_locks leat hw hoff align auto fom, fun _ _ => laneMarkerMissing_second⟩
  case preset =>
    obtain ⟨t, run, ask, known⟩ := laneMarkerReceive_asks leat hw hoff good polarity eq_ fom (by omega) free
    exact ⟨t, run, ask.trans (by rw [if_neg (by omega), preset]), known⟩
  case step =>
    obtain ⟨t, run, ask, -⟩ := laneMarkerReceive_asks leat hw hoff good polarity eq_ fom (by omega) free
    exact ⟨t, run, ask.trans (by rw [if_pos preset, step])⟩
  case unserved =>
    obtain ⟨t, run, count, -⟩ := laneStuffViolation_counts leat at_ aligned (.inl unserved)
    exact ⟨t, run, count⟩
  case few => exact laneStuffViolation_counts leat at_ (le_trans (by decide) (State.inService_stage served).1) (.inr few)

end Sys2Proof.Machine
end

section
/-! PROOFS. CXL ports: the FM-API at a port, each command by the first test that it meets. -/
namespace Sys2Proof.Machine

/-! ### The tests of a component command interface (R134, R135) -/

/-- What a command of the FM-API does at port `p`: nothing where no host is, 6 while a background command of the port is in progress, else `v`. -/
def State.cciGate (s : State) (p : Nat) (v : State) : State :=
  if ¬ s.upstream p then s else if (s.portS p).cci.isSome then s.cciSay p 6 else v

/-- What a command does that only the manager port may send. -/
def State.managerGate (s : State) (p : Nat) (v : State) : State := s.cciGate p (if ¬ s.isManager p then s.cciSay p 3 else v)

namespace State
variable {s : State} {p : Nat} {v : State}

theorem cciGate_noHost (noHost : s.upstream p = false) : s.cciGate p v = s := if_pos (by simp [noHost])

theorem cciGate_busy (host : s.upstream p = true) (busy : (s.portS p).cci.isSome = true) : s.cciGate p v = s.cciSay p 6 := by
  rw [cciGate, if_neg (not_not.2 host), if_pos busy]

theorem cciGate_free (host : s.upstream p = true) (free : (s.portS p).cci = none) : s.cciGate p v = v := by
  rw [cciGate, if_neg (not_not.2 host), free]
  rfl

theorem managerGate_other (host : s.upstream p = true) (free : (s.portS p).cci = none) (other : s.isManager p = false) :
    s.managerGate p v = s.cciSay p 3 := by
  rw [managerGate, cciGate_free host free, if_pos (by simp [other])]

theorem managerGate_manager (host : s.upstream p = true) (free : (s.portS p).cci = none) (manager : s.isManager p = true) :
    s.managerGate p v = v := by
  rw [managerGate, cciGate_free host free, if_neg (not_not.2 manager)]

end State

/-! ### Each command behind its tests -/

/-- The answer to a command that has no row of its own. -/
def State.fmAnswer (s : State) (p op : Nat) (bs : List Byte) : Nat :=
  if s.isManager p then (if ¬ fmSet op then 3 else if s.fmBusy op bs then 6 else 0)
  else if op = 0x5100 then 0 else if op = 0x5200 then (if bs = [] ∨ byteAt bs 0 = p then 0 else 3) else 3

/-- What a well-formed request in band does: it is taken where it is for this node, else answered 2. -/
def State.transact (s : State) (p : Nat) (body : List Byte) (good hang : Bool) : State :=
  match parseBody body with
  | none => s.cciSay p 2
  | some b =>
    if b.kind ≠ 1 then s.cciSay p 2
    else if b.node = s.ownNode ∨ b.any then s.dictTake { cmdOf { path := 2, mac := 0, port := p, tag := 0 } b false good hang with later := false }
    else s.cciSay p 2

/-- The records of the ring that a request for `n` of them from `start` is answered with (R135). -/
def State.recordsFrom (s : State) (start n : Nat) : List Rec :=
  (List.range (min n (s.headSeq - max start s.oldestSeq))).filterMap fun i => s.record (max start s.oldestSeq + i)

section
variable {s : State} {p : Nat} (hp : isPort p = true)
include hp

theorem exec_fmApiCommand {op : Nat} (bs : List Byte) (hop : op < 2 ^ 16) :
    exec (.fmApiCommand p op bs) s = .next (s.cciGate p (s.cciSay p (s.fmAnswer p op bs))) := by
  refine (if_pos ((Bool.and_eq_true_iff).2 ⟨hp, decide_eq_true hop⟩) : execFmApiCommand p op bs s = _).trans ?_
  congr 1
  unfold State.cciGate State.fmAnswer
  split_ifs <;> rfl

theorem exec_apvelTransact (body : List Byte) (good hang : Bool) :
    exec (.apvelTransact p body good hang) s = .next (s.managerGate p (s.transact p body good hang)) := if_pos hp

theorem exec_getWaterlogRecords {start n : Nat} (hstart : start < 2 ^ 64) (hn : n < 2 ^ 16) :
    exec (.getWaterlogRecords p start n) s = .next (s.managerGate p
      (if n < 1 ∨ 64 < n then s.cciSay p 2
      else s.cciSay p 0 (toLeBytes 2 (s.recordsFrom start n).length ++ (s.recordsFrom start n).flatMap recBytes))) :=
  if_pos ((Bool.and_eq_true_iff).2 ⟨hp, decide_eq_true ⟨hstart, hn⟩⟩)

theorem exec_getFabricTime :
    exec (.getFabricTime p) s = .next (s.cciGate p (s.cciSay p 0 (toLeBytes 10 s.time80 ++ toLeBytes 1 s.ftQual))) := if_pos hp

theorem exec_getPortReadiness :
    exec (.getPortReadiness p) s = .next (s.managerGate p (s.cciSay p 0
      (([s.rd fPWR_PORTRDY_READY 0, s.rd fPWR_PORTRDY_READY 1, s.rd fPWR_CRSLATE_LATE 0, s.rd fPWR_CRSLATE_LATE 1]).flatMap
        (toLeBytes 4)))) := if_pos hp

end

/-! ### The answers -/

theorem State.fmAnswer_manager {s : State} {p : Nat} (op : Nat) (bs : List Byte) (manager : s.isManager p = true) :
    s.fmAnswer p op bs = if fmSet op then (if s.fmBusy op bs then 6 else 0) else 3 := by
  rw [State.fmAnswer, if_pos manager]
  cases fmSet op <;> rfl

theorem State.fmAnswer_other {s : State} {p op : Nat} (bs : List Byte) (other : s.isManager p = false) (own : op ≠ 0x5100) (vcs : op ≠ 0x5200) :
    s.fmAnswer p op bs = 3 := by
  rw [State.fmAnswer, if_neg (by simp [other]), if_neg own, if_neg vcs]

theorem State.transact_taken {s : State} {p : Nat} {body : List Byte} {good hang : Bool} {b : Body} (parsed : parseBody body = some b)
    (request : b.kind = 1) (own : b.node = s.ownNode ∨ b.any = true) :
    s.transact p body good hang = s.dictTake { cmdOf { path := 2, mac := 0, port := p, tag := 0 } b false good hang with later := false } := by
  rw [State.transact, parsed]
  dsimp only
  rw [if_neg (not_not.2 request), if_pos own]

theorem State.transact_refused {s : State} {p : Nat} {body : List Byte} {good hang : Bool} {b : Body} (parsed : parseBody body = some b)
    (bad : b.kind ≠ 1 ∨ (b.node ≠ s.ownNode ∧ b.any = false)) : s.transact p body good hang = s.cciSay p 2 := by
  rw [State.transact, parsed]
  dsimp only
  rcases bad with kind | ⟨node, any⟩
  · rw [if_pos kind]
  · rw [if_neg (show ¬ (b.node = s.ownNode ∨ b.any = true) by simp [node, any]), ite_self]

/-- From the head of the ring on there is no record. -/
theorem State.recordsFrom_head {s : State} {start : Nat} (n : Nat) (head : s.headSeq ≤ start) : s.recordsFrom start n = [] := by
  rw [State.recordsFrom, Nat.sub_eq_zero_of_le (head.trans (le_max_left ..)), Nat.min_zero]
  rfl

/-- A request for one record that the ring holds is answered with that record. -/
theorem State.recordsFrom_one {s : State} {start : Nat} {r : Rec} (oldest : s.oldestSeq ≤ start) (head : start < s.headSeq)
    (held : s.record start = some r) : s.recordsFrom start 1 = [r] := by
  rw [State.recordsFrom, max_eq_left oldest, Nat.min_eq_left (by omega)]
  simp [List.range_one, held]

/-- Settles O26: each command by the first of its tests that holds. -/
theorem fmApiAnswers : Obligations.FmApiAnswers := by
  unfold Obligations.FmApiAnswers
  refine ⟨fun s p hp host busy => ?busy, fun s p hp host free other => ?other, fun s p op bs hp host free manager hop => ?manager,
    fun s p body good hang hp host free manager bad => ?malformed, fun s p body good hang b hp host free manager parsed bad => ?refused,
    fun s p body good hang b hp host free manager parsed request own => ?taken, fun s p start hp host free manager hstart => ?records,
    fun s p hp host free => ?fabricTime, fun s p hp host free manager => ?readiness, fun s p op bs body good hang hp noHost hop => ?noHost⟩
  case busy =>
    have six : ∀ v, s.cciGate p v = s.cciSay p 6 := fun _ => State.cciGate_busy host busy
    refine ⟨fun op bs hop => ?_, fun body good hang => ?_, fun a n ha hn => ?_, ?_, ?_⟩
    · rw [exec_fmApiCommand hp bs hop, six]
    · rw [exec_apvelTransact hp, State.managerGate, six]
    · rw [exec_getWaterlogRecords hp ha hn, State.managerGate, six]
    · rw [exec_getFabricTime hp, six]
    · rw [exec_getPortReadiness hp, State.managerGate, six]
  case other =>
    have three : ∀ v, s.managerGate p v = s.cciSay p 3 := fun _ => State.managerGate_other host free other
    have ofNone : ∀ op bs, op < 2 ^ 16 → exec (.fmApiCommand p op bs) s = .next (s.cciSay p (s.fmAnswer p op bs)) :=
      fun op bs hop => by rw [exec_fmApiCommand hp bs hop, State.cciGate_free host free]
    refine ⟨fun op bs hop own vcs => ?_, fun bs => ?_, fun bs => ?_, fun body good hang => ?_, fun a n ha hn => ?_, ?_⟩
    · rw [ofNone op bs hop, State.fmAnswer_other bs other own vcs]
    · rw [ofNone _ bs (by decide), State.fmAnswer, if_neg (by simp [other]), if_pos rfl]
    · rw [ofNone _ bs (by decide), State.fmAnswer, if_neg (by simp [other]), if_neg (by decide), if_pos rfl]
    · rw [exec_apvelTransact hp, three]
    · rw [exec_getWaterlogRecords hp ha hn, three]
    · rw [exec_getPortReadiness hp, three]
  case manager => rw [exec_fmApiCommand hp bs hop, State.cciGate_free host free, State.fmAnswer_manager op bs manager]
  case malformed =>
    rw [exec_apvelTransact hp, State.managerGate_manager host free manager, State.transact, bad]
  case refused => rw [exec_apvelTransact hp, State.managerGate_manager host free manager, State.transact_refused parsed bad]
  case taken => rw [exec_apvelTransact hp, State.managerGate_manager host free manager, State.transact_taken parsed request own]
  case records =>
    have pass : ∀ v, s.managerGate p v = v := fun _ => State.managerGate_manager host free manager
    have answer : ∀ n, 1 ≤ n → n ≤ 64 → exec (.getWaterlogRecords p start n) s = .next
        (s.cciSay p 0 (toLeBytes 2 (s.recordsFrom start n).length ++ (s.recordsFrom start n).flatMap recBytes)) := fun n low high => by
      rw [exec_getWaterlogRecords hp hstart (by omega), pass, if_neg (by omega)]
    refine ⟨fun n bad => ?_, answer, fun n low high head => ⟨_, answer n low high, ?_, rfl⟩,
      fun r oldest head held => ⟨_, answer 1 (by decide) (by decide), ?_, rfl⟩⟩
    · rw [exec_getWaterlogRecords hp hstart (by omega), pass, if_pos (by omega)]
    · rw [State.recordsFrom_head n head]
      rfl
    · rw [State.recordsFrom_one oldest head held]
      simp [State.cciSay, State.send]
  case fabricTime =>
    exact ⟨_, (exec_getFabricTime hp).trans (congrArg _ (State.cciGate_free host free)), rfl, rfl⟩
  case readiness =>
    refine ⟨_, (exec_getPortReadiness hp).trans (congrArg _ (State.managerGate_manager host free manager)), ?_, rfl⟩
    simp [State.cciSay, State.send]
  case noHost =>
    have idle : ∀ v, s.cciGate p v = s := fun _ => State.cciGate_noHost noHost
    refine ⟨?_, ?_, ?_, ?_, fun a n ha hn => ?_⟩
    · rw [exec_fmApiCommand hp bs hop, idle]
    · rw [exec_apvelTransact hp, State.managerGate, idle]
    · rw [exec_getFabricTime hp, idle]
    · rw [exec_getPortReadiness hp, State.managerGate, idle]
    · rw [exec_getWaterlogRecords hp ha hn, State.managerGate, idle]

end Sys2Proof.Machine
end

section
/-! PROOFS. Messages in the core: what storing, queueing, sending and dropping a message make of the core's own lists. -/
namespace Sys2Proof.Machine

theorem Keeps.swc {w : Nat} {z s : State} (h : Keeps w z s) (hw : w.testBit 15 = false) : s.swc = z.swc := by
  have := congrArg State.swc h.2.2
  simpa [State.outside, hw] using this

theorem Keeps.node {w : Nat} {z s : State} (h : Keeps w z s) (hw : w.testBit 29 = false) : s.node = z.node := by
  have := congrArg State.node h.2.2
  simpa [State.outside, hw] using this

theorem Keeps.weir {w : Nat} {z s : State} (h : Keeps w z s) (hw : w.testBit 16 = false) : s.weir = z.weir := by
  have := congrArg State.weir h.2.2
  simpa [State.outside, hw] using this

/-! ### The lists of the core that telemetry and credits leave alone -/

/-- What `s` stores, queues, sends and keeps waiting is what `z` does. -/
structure CoreKept (z s : State) : Prop where
  msgs : s.swc.msgs = z.swc.msgs
  queues : s.swc.queues = z.swc.queues
  sending : s.swc.sending = z.swc.sending
  waiting : s.swc.waiting = z.swc.waiting
  nextId : s.swc.nextId = z.swc.nextId
  lost : s.swc.lost = z.swc.lost

/-- Every part of the state but the core's. -/
def butCore : Nat := 2 ^ 64 - 1 - 2 ^ 15

/-- Every part of the state but the Weir's and its registers. -/
def butWeir : Nat := 2 ^ 64 - 1 - 2 ^ 48 - 2 ^ 16

section
variable {z s t : State}

theorem CoreKept.refl (z : State) : CoreKept z z := ⟨rfl, rfl, rfl, rfl, rfl, rfl⟩

theorem CoreKept.of_swc (h : s.swc = z.swc) : CoreKept z s := by
  constructor <;> rw [h]

theorem CoreKept.trans (h : CoreKept z s) (k : CoreKept s t) : CoreKept z t :=
  ⟨k.msgs.trans h.msgs, k.queues.trans h.queues, k.sending.trans h.sending, k.waiting.trans h.waiting, k.nextId.trans h.nextId,
    k.lost.trans h.lost⟩

theorem CoreKept.swc_eq (h : CoreKept z s) (same : t.swc = s.swc) : CoreKept z t := h.trans (.of_swc same)

theorem CoreKept.ite {c : Prop} [Decidable c] (h : CoreKept z s) (h' : CoreKept z t) : CoreKept z (if c then s else t) := by
  split
  · exact h
  · exact h'

/-- An operation that leaves the core's part alone. -/
theorem CoreKept.step (h : CoreKept z s) (k : Keeps butCore s t) : CoreKept z t := h.swc_eq (k.swc (by decide))

theorem CoreKept.stored (h : CoreKept z s) (id : Nat) : s.stored id = z.stored id := by
  unfold State.stored
  rw [h.msgs]

theorem CoreKept.queue (h : CoreKept z s) (e t g : Nat) : s.queue e t g = z.queue e t g := by
  unfold State.queue
  rw [h.queues]

theorem State.telNotify_core (h : CoreKept z s) : CoreKept z s.telNotify := by
  unfold State.telNotify
  split
  · exact h
  · exact CoreKept.ite ⟨h.msgs, h.queues, h.sending, h.waiting, h.nextId, h.lost⟩ h

theorem State.telWatch_core (i : Nat) (h : CoreKept z s) : CoreKept z (s.telWatch i) := by
  have marked (above : List Nat) : CoreKept z { s with swc := { s.swc with above := above } } :=
    ⟨h.msgs, h.queues, h.sending, h.waiting, h.nextId, h.lost⟩
  unfold State.telWatch
  extract_lets lvl up first swc crossed counted
  split
  · exact h
  · split
    · have hCounted : CoreKept z counted := (marked _).swc_eq rfl
      split
      · exact State.telNotify_core hCounted
      · exact hCounted
    · exact marked _

theorem State.eqAdd_core (e t n : Nat) (h : CoreKept z s) : CoreKept z (s.eqAdd e t n) :=
  State.telWatch_core _ (h.swc_eq rfl)

theorem State.eqSub_core (e t n : Nat) (h : CoreKept z s) : CoreKept z (s.eqSub e t n) :=
  State.telWatch_core _ (h.swc_eq rfl)

theorem State.retCredits_core (h : CoreKept z s) : CoreKept z s.retCredits := by
  unfold State.retCredits
  refine State.each_induct (CoreKept z) (fun t c ht => ht.step (State.retCredit_keeps rfl (.refl _ _))) ?_
  exact ⟨h.msgs, h.queues, h.sending, h.waiting, h.nextId, h.lost⟩

theorem State.drainAll_idle (h : s.swc.waiting = []) : s.drainAll = s := by
  unfold State.drainAll
  rw [h]
  rfl

theorem State.considerAll_idle (h : s.weir.held = []) : s.considerAll = s := by
  unfold State.considerAll
  rw [h]
  rfl

/-! ### The last copy of a stored message -/

/-- Stored message `d` is no longer there. -/
def State.forget (s : State) (d : Stored) : State := s.swcMod fun w => { w with msgs := w.msgs.filter fun e => e.id != d.id }

theorem CoreKept.forget (h : CoreKept z s) (d : Stored) : CoreKept (z.forget d) (s.forget d) :=
  ⟨congrArg (List.filter _) h.msgs, h.queues, h.sending, h.waiting, h.nextId, h.lost⟩

theorem State.stored_forget (s : State) (d : Stored) : (s.forget d).stored d.id = none := by
  refine List.find?_eq_none.2 fun e he same => ?_
  have other : (e.id != d.id) = true := (List.mem_filter.1 he).2
  rw [bne_iff_ne] at other
  exact other (beq_iff_eq.1 same)

theorem State.unstore_core (s : State) (d : Stored) : CoreKept (s.forget d) (s.unstore d) := by
  have placed : CoreKept (s.forget d) (s.unplace d) := by
    unfold State.unplace
    cases d.place with
    | shared => exact CoreKept.step (.refl _) (State.occSub_keeps rfl (.refl _ _))
    | response =>
      have freed : CoreKept (s.forget d) ((s.forget d).wr fRSV_STAT_RSPUSED 0 (s.rd fRSV_STAT_RSPUSED 0 - d.cells)) :=
        .of_swc rfl
      exact freed.step (State.retCredit_keeps rfl (.refl _ _))
    | guarded => exact CoreKept.swc_eq (.refl _) rfl
    | mirror k => exact ⟨rfl, rfl, rfl, rfl, rfl, rfl⟩
  exact State.retCredits_core (placed.step (State.giveCells_keeps rfl (.refl _ _)))

/-- The last copy gone, the message is no longer there. -/
theorem State.copyGone_core {d : Stored} (e : Nat) (stored : s.stored d.id = some d) (last : d.refs ≤ 1) :
    CoreKept (s.forget d) (s.copyGone d e) := by
  have sub := State.eqSub_core e d.m.tc d.cells (.refl s)
  unfold State.copyGone State.dropRef
  rw [sub.stored, stored]
  dsimp only
  rw [if_pos last]
  exact (sub.forget d).trans (State.unstore_core _ d)

theorem State.id_of_stored {id : Nat} {d : Stored} (h : s.stored id = some d) : d.id = id := by
  have := List.find?_some h
  exact beq_iff_eq.1 this

end

/-! ### A message that enters for one egress -/

/-- The core with `d` as its newest message. -/
def State.stores (s : State) (d : Stored) : State := s.swcMod fun w => { w with nextId := w.nextId + 1, msgs := w.msgs ++ [d] }

section
variable {s : State}

theorem State.stored_stores {d : Stored} (fresh : s.stored d.id = none) : (s.stores d).stored d.id = some d := by
  have none : s.swc.msgs.find? (fun e => e.id == d.id) = none := fresh
  show (s.swc.msgs ++ [d]).find? (fun e => e.id == d.id) = some d
  rw [List.find?_append, none]
  simp

/-- A message taken into the Reservoir is its newest. -/
theorem State.store_core (s : State) (x : Nat) (m : Msg) (whole : Bool) (egs : List Nat) (charge credits : Nat) (hold : Bool) :
    ∃ d : Stored, d.id = s.swc.nextId ∧ d.m = m ∧ CoreKept (s.stores d) (s.store x m whole egs charge credits hold) := by
  unfold State.store
  extract_lets eg refs n
  split
  next place keep admitted =>
    extract_lets place' d kept counted taken c
    have hKept : CoreKept (s.stores d) kept := ⟨rfl, rfl, rfl, rfl, rfl, rfl⟩
    have hCounted : CoreKept (s.stores d) counted := by
      unfold counted
      cases place' with
      | shared => exact hKept.step (State.occAdd_keeps rfl (.refl _ _))
      | response => exact hKept.swc_eq rfl
      | guarded => exact hKept.swc_eq rfl
      | mirror k => exact hKept
    have hTaken : CoreKept (s.stores d) taken := hCounted.step (State.takeCells_keeps rfl (.refl _ _))
    refine ⟨d, rfl, rfl, ?_⟩
    split
    · exact hTaken
    · split
      · exact ⟨hTaken.msgs, hTaken.queues, hTaken.sending, hTaken.waiting, hTaken.nextId, hTaken.lost⟩
      · exact hTaken.step (State.retCredit_keeps rfl (.refl _ _))

/-- No message waits for a posted one to let it pass that is itself posted (R185). -/
theorem State.postedBefore_posted (s : State) {d : Stored} (e : Nat) (posted : d.m.kind = .ioPosted) : s.postedBefore d e = [] := by
  unfold State.postedBefore
  rw [if_neg (by simp [Msg.answersSnoop, posted]), if_neg (by simp [Msg.grp, posted])]

/-- A posted write takes the next place in its sub-queue. -/
theorem State.enqueue_posted {id e : Nat} {d : Stored} (stored : s.stored id = some d) (posted : d.m.kind = .ioPosted) :
    CoreKept (s.setQueue e d.m.tc 0 (s.queue e d.m.tc 0 ++ [{ id := id, before := [] }])) (s.enqueue id e) := by
  have zero : d.m.grp = 0 := by unfold Msg.grp; rw [posted]
  unfold State.enqueue
  rw [stored]
  dsimp only
  rw [s.postedBefore_posted e posted, zero]
  exact (State.eqAdd_core _ _ _ (.refl _)).step (State.wakePort_keeps rfl (.refl _ _))

theorem State.queue_setQueue_same (s : State) (e t g : Nat) (q : List Entry) : (s.setQueue e t g q).queue e t g = q :=
  SMap.get_set_same ..

/-- No mirror session is enabled, and nothing is copied (R198). -/
theorem State.mirror_off (off : ∀ k, k < 8 → s.rdb fTRN_MIR_EN k = false) (x eg : Nat) (out : Bool) (d : Stored) (m : Msg) :
    s.mirror x eg out d m = s := by
  have none : (List.range 8).filter (fun k => s.mirWants k x out m) = [] :=
    List.filter_eq_nil_iff.2 fun k hk => by
      unfold State.mirWants
      rw [off k (List.mem_range.1 hk)]
      exact Bool.false_ne_true
  unfold State.mirror
  rw [none]
  exact ite_self _

theorem State.mirrorIn_off (off : ∀ k, k < 8 → s.rdb fTRN_MIR_EN k = false) (id : Nat) (egs : List Nat) : s.mirrorIn id egs = s := by
  unfold State.mirrorIn
  split
  · rfl
  · exact State.mirror_off off ..

/-- The sessions that are off stay off under what leaves the window of the Turnout alone. -/
theorem Keeps.sessionsOff {w : Nat} {z s : State} (h : Keeps w z s) (hw : w.testBit 39 = false)
    (off : ∀ k, k < 8 → z.rdb fTRN_MIR_EN k = false) : ∀ k, k < 8 → s.rdb fTRN_MIR_EN k = false := fun k hk => by
  unfold State.rdb
  rw [h.rd fTRN_MIR_EN k hw]
  exact off k hk

end

/-! ### Entry (R182 to R185) -/

/-- CORE_MESSAGE_ENQUEUE without an error: the message enters, but for one that would take a held list beyond its end. -/
theorem exec_coreMessageEnqueue {s : State} {x sel : Nat} (here : Nat) (m : Msg) (hx : x < 72) (hsel : sel < 3) :
    exec (.coreMessageEnqueue x sel here m 0) s = .next
      (if 16384 < (s.enqueueFrom x sel here m).rd fWEIR_HELD_LISTS 0 then s.inc fWEIR_ERR_HOLWAIT 0 else s.enqueueFrom x sel here m) := by
  show execCoreMessageEnqueue x sel here m 0 s = _
  have ok : x < 72 ∧ sel < 3 ∧ 0 < 4 := ⟨hx, hsel, by decide⟩
  unfold execCoreMessageEnqueue
  generalize s.mapIdx x _ = entry
  cases entry with
  | none => exact if_pos (decide_eq_true ok)
  | some i => exact if_pos (decide_eq_true ok)

theorem coreMessageEnqueue_enters {s : State} {x sel here : Nat} {m : Msg} (hx : x < 72) (hsel : sel < 3)
    (room : (s.enqueueFrom x sel here m).rd fWEIR_HELD_LISTS 0 ≤ 16384) :
    exec (.coreMessageEnqueue x sel here m 0) s = .next (s.enqueueFrom x sel here m) := by
  rw [exec_coreMessageEnqueue here m hx hsel, if_neg (by omega)]

/-- The Flume has counted message `m`, which comes in at port `x`. -/
def State.countedIn (s : State) (x : Nat) (m : Msg) : State := s.countMsg 0x01 (x / 16) x (s.entryMsg x m)

/-- A routed request of port `x` as it enters: with its requester and its tenant. -/
def State.asOwn (s : State) (x : Nat) (m : Msg) : Msg :=
  { m with src := x, snode := s.ownNode, tenant := s.rd fWEIR_TDEF_TENANT x, tgt := m.addr }

theorem State.countedIn_keeps (s : State) (x : Nat) (m : Msg) : Keeps 0x400 s (s.countedIn x m) := State.countMsg_keeps rfl (.refl _ _)

section
variable {s : State} {x : Nat} {m : Msg}

theorem State.enterAt_posted (whole : Bool) (credits : Nat) (hx : x < 64) (posted : m.kind = .ioPosted) (routed : m.space = .routed)
    (single : m.group = none) :
    s.enterAt x m whole credits = (s.countedIn x m).enter x ((s.countedIn x m).asOwn x m) whole credits := by
  have own (u : State) : u.fromPeer x m = m := if_neg (by omega)
  have grp : m.grp = 0 := by unfold Msg.grp; rw [posted]
  have mclass : m.mclass = 0 := by unfold Msg.mclass; rw [posted]
  unfold State.enterAt State.asOwn State.countedIn
  rw [if_pos hx]
  dsimp only
  rw [own, grp, mclass, if_neg (by decide), if_neg (by simp [single]), if_neg (by omega), if_neg (by simp), if_neg (by simp [posted]), routed]

theorem State.enter_tender (whole : Bool) (credits : Nat) (single : m.group = none) (tender : m.dest = 0x7F) (own : m.node = s.ownNode) :
    s.enter x m whole credits = s.admitMsg x m whole [92] credits := by
  have egress : s.egressOf m = some 92 := by
    unfold State.egressOf
    rw [if_neg (not_not.2 own), tender]
    rfl
  unfold State.enter
  rw [single]
  dsimp only
  rw [egress]
  exact if_neg (by omega)

theorem State.admitMsg_tender (whole : Bool) (e credits : Nat) (tender : m.dest = 0x7F) :
    s.admitMsg x m whole [e] credits = (((s.countMsg 0x10 4 x m).store x m whole [e] 0 credits false).mirrorIn s.swc.nextId [e]).enqueue
      s.swc.nextId e := by
  have free : policed x m = false := by simp [policed, tender]
  unfold State.admitMsg
  dsimp only
  rw [if_pos (by simp [free])]
  rfl

/-- A posted write for the Tender, admitted at a port, takes the next place of its sub-queue and waits for no other. -/
theorem State.admitMsg_posted (whole : Bool) (credits : Nat) (tender : m.dest = 0x7F) (posted : m.kind = .ioPosted)
    (fresh : s.stored s.swc.nextId = none) (off : ∀ k, k < 8 → s.rdb fTRN_MIR_EN k = false) :
    (s.admitMsg x m whole [92] credits).swc.nextId = s.swc.nextId + 1
    ∧ (s.admitMsg x m whole [92] credits).queue 92 m.tc 0 = s.queue 92 m.tc 0 ++ [{ id := s.swc.nextId, before := [] }]
    ∧ Keeps butWeir s (s.admitMsg x m whole [92] credits) := by
  have counted : Keeps 0x400 s (s.countMsg 0x10 4 x m) := State.countMsg_keeps rfl (.refl _ _)
  have same := counted.swc (by decide)
  have core : CoreKept s (s.countMsg 0x10 4 x m) := .of_swc same
  obtain ⟨d, id, rfl, taken⟩ := (s.countMsg 0x10 4 x m).store_core x m whole [92] 0 credits false
  have kept : Keeps butWeir s ((s.countMsg 0x10 4 x d.m).store x d.m whole [92] 0 credits false) :=
    State.store_keeps rfl (State.countMsg_keeps rfl (.refl _ _))
  have storeKept : Keeps 0x200000a402 s ((s.countMsg 0x10 4 x d.m).store x d.m whole [92] 0 credits false) :=
    State.store_keeps rfl (State.countMsg_keeps rfl (.refl _ _))
  rw [State.admitMsg_tender whole 92 credits tender, State.mirrorIn_off (storeKept.sessionsOff (by decide) off)]
  rw [same] at id
  have there := State.stored_stores (s := s.countMsg 0x10 4 x d.m) (d := d) (by rw [core.stored, id]; exact fresh)
  rw [← taken.stored, id] at there
  have queued := State.enqueue_posted (e := 92) there posted
  refine ⟨queued.nextId.trans (taken.nextId.trans (congrArg (· + 1) core.nextId)), ?_, State.enqueue_keeps rfl kept⟩
  rw [queued.queue, State.queue_setQueue_same, taken.queue]
  exact congrArg (· ++ _) (core.queue 92 d.m.tc 0)

end

/-- The rest of a message that has begun to arrive changes neither the sub-queues nor the numbers. -/
theorem State.noteCells_core (s : State) (x here : Nat) :
    (s.noteCells x here).swc.nextId = s.swc.nextId ∧ (s.noteCells x here).swc.queues = s.swc.queues
    ∧ (s.noteCells x here).regs = s.regs := by
  unfold State.noteCells
  split
  · exact ⟨rfl, rfl, rfl⟩
  · exact ⟨rfl, rfl, rfl⟩

theorem coreMessageEnqueue_posted {s : State} {x sel here : Nat} {m : Msg} (hx : x < 64) (hsel : sel < 3) (up : s.dlUp x = true)
    (first : s.arriving x = none) (posted : m.kind = .ioPosted) (routed : m.space = .routed) (single : m.group = none)
    (tender : m.dest = 0x7F) (own : m.node = s.ownNode) (fresh : s.stored s.swc.nextId = none)
    (off : ∀ k, k < 8 → s.rdb fTRN_MIR_EN k = false) (room : s.rd fWEIR_HELD_LISTS 0 ≤ 16384) :
    EndsIn (.coreMessageEnqueue x sel here m 0) s fun t =>
      t.swc.nextId = s.swc.nextId + 1 ∧ t.queue 92 m.tc 0 = s.queue 92 m.tc 0 ++ [{ id := s.swc.nextId, before := [] }] := by
  have places : s.placesFull x m = false := by simp [State.placesFull, Msg.mclass, posted]
  have enters : s.enqueueFrom x sel here m = (s.enterAt x m (decide (m.cells ≤ here) || !m.isIo) m.cells).noteCells x here := by
    unfold State.enqueueFrom
    rw [if_neg (by omega), first]
    exact if_pos ⟨up, by simp [places]⟩
  have counted := s.countedIn_keeps x m
  have core : CoreKept s (s.countedIn x m) := .of_swc (counted.swc (by decide))
  have node : m.node = (s.countedIn x m).ownNode := by
    rw [State.ownNode, counted.node (by decide), counted.rd _ _ (by decide)]
    exact own
  have entered : s.enterAt x m (decide (m.cells ≤ here) || !m.isIo) m.cells
      = (s.countedIn x m).admitMsg x ((s.countedIn x m).asOwn x m) (decide (m.cells ≤ here) || !m.isIo) [92] m.cells :=
    (State.enterAt_posted _ _ hx posted routed single).trans (State.enter_tender _ _ single tender node)
  obtain ⟨nextId, queue, kept⟩ := State.admitMsg_posted (x := x) (m := (s.countedIn x m).asOwn x m)
    (decide (m.cells ≤ here) || !m.isIo) m.cells tender posted (by rw [core.stored, core.nextId]; exact fresh)
    (counted.sessionsOff (by decide) off)
  rw [← entered] at nextId queue kept
  obtain ⟨noted, queues, regs⟩ := (s.enterAt x m (decide (m.cells ≤ here) || !m.isIo) m.cells).noteCells_core x here
  refine ⟨_, coreMessageEnqueue_enters (by omega) hsel ?_, ?_, ?_⟩
  · rw [enters, State.rd_congr regs, kept.rd _ _ (by decide), counted.rd _ _ (by decide)]
    exact room
  · rw [enters, noted, nextId, core.nextId]
  · rw [enters, State.queue, queues]
    refine queue.trans ?_
    rw [core.queue, core.nextId]
    rfl

/-- At a port whose link is down nothing enters. -/
theorem coreMessageEnqueue_linkDown {s : State} {x sel here : Nat} {m : Msg} (hx : x < 64) (hsel : sel < 3) (down : s.dlUp x = false)
    (first : s.arriving x = none) (room : s.rd fWEIR_HELD_LISTS 0 ≤ 16384) :
    exec (.coreMessageEnqueue x sel here m 0) s = .next s := by
  have same : s.enqueueFrom x sel here m = s := by
    unfold State.enqueueFrom
    rw [if_neg (by omega), first]
    exact if_neg (by simp [down])
  have := coreMessageEnqueue_enters (s := s) (here := here) (m := m) (show x < 72 by omega) hsel (by rw [same]; exact room)
  rwa [same] at this

/-- More cells of a message that is still arriving. -/
theorem coreMessageEnqueue_cells {s : State} {x sel here : Nat} {m : Msg} {d : Stored} (hx : x < 64) (hsel : sel < 3)
    (arriving : s.arriving x = some d) (part : here < d.cells) (room : s.rd fWEIR_HELD_LISTS 0 ≤ 16384) :
    EndsIn (.coreMessageEnqueue x sel here m 0) s fun t =>
      t.regs = s.regs ∧ t.swc.msgs = s.swc.msgs.map fun e => if e.id = d.id then { e with here := max here e.here } else e := by
  have noted : s.enqueueFrom x sel here m = s.storedMod d.id fun d => { d with here := max here d.here } := by
    unfold State.enqueueFrom State.noteCells
    rw [if_neg (by omega), arriving]
    exact if_neg (by omega)
  have run := coreMessageEnqueue_enters (s := s) (here := here) (m := m) (show x < 72 by omega) hsel (by rw [noted]; exact room)
  rw [noted] at run
  exact ⟨_, run, rfl, rfl⟩

theorem State.rxq_setRxq (s : State) {k v : Nat} (hv : v < 3) (q : List RxUnit) : (s.setRxq k v q).rxq k v = q := by
  unfold State.rxq State.setRxq State.lk State.lkMod
  simp only [SMap.get_mod_same]
  obtain rfl | rfl | rfl : v = 0 ∨ v = 1 ∨ v = 2 := by omega
  · rfl
  · rfl
  · rfl

theorem State.rxq_leatGrant (s : State) (k v n w : Nat) : (s.leatGrant k v n).rxq k w = s.rxq k w := by
  unfold State.rxq State.leatGrant State.lk State.lkMod
  simp only [SMap.get_mod_same]
  by_cases h0 : v = 0
  · simp only [h0, if_true]
  · by_cases h1 : v = 1
    · simp only [h1, if_true, show ¬ (1 = 0) by decide, if_false]
    · simp only [h0, h1, if_false]

/-- A misrouted unit leaves the receive queue of its link as it is released, and gives no message. -/
theorem coreMessageEnqueue_misrouted {s : State} {x sel here : Nat} {m : Msg} {u : RxUnit} {us : List RxUnit} (low : 64 ≤ x) (high : x < 72)
    (hsel : sel < 3) (queue : s.rxq (x - 64) sel = u :: us) (misrouted : u.mis = true) (room : s.rd fWEIR_HELD_LISTS 0 ≤ 16384) :
    EndsIn (.coreMessageEnqueue x sel here m 0) s fun t => t.rxq (x - 64) sel = us ∧ t.regs = s.regs := by
  have head : takeHead (u :: us) = some (none, us, b2n (!u.old)) := by
    unfold takeHead
    exact if_pos misrouted
  have released : s.enqueueFrom x sel here m = (s.setRxq (x - 64) sel us).leatGrant (x - 64) sel (b2n (!u.old)) := by
    unfold State.enqueueFrom
    rw [if_pos low, queue, head]
  have run := coreMessageEnqueue_enters (s := s) (here := here) (m := m) high hsel (by rw [released]; exact room)
  rw [released] at run
  exact ⟨_, run, (State.rxq_leatGrant ..).trans (s.rxq_setRxq hsel us), rfl⟩

/-! ### An egress sends (R181, R204, R335) -/

theorem exec_egressSchedule {s : State} {x credits err cell : Nat} (hx : x < 93) (hcell : cell < 5242880) (herr : err < 4) :
    exec (.egressSchedule x credits err cell) s = .next
      (if err = 3 then s.queueFault x (cell / 5 % 8) (cell % 5)
      else if s.canSend x then s.schedule x credits err cell else s) := by
  show execEgressSchedule x credits err cell s = _
  unfold execEgressSchedule
  extract_lets t
  have same : t = s := by
    unfold t
    rw [if_neg (by omega), if_neg (by omega), if_neg (by omega), if_neg (by omega)]
  have ok : x < 93 ∧ err < 9 ∧ cell < 5242880 := ⟨hx, by omega, hcell⟩
  rw [same]
  exact if_pos (decide_eq_true ok)

/-- Message `d` starts at the Tender's egress. -/
theorem State.present_tender (s : State) (c g : Nat) (d : Stored) :
    s.present 92 c g d = (s.mesh (internalNode 92) (internalNode 92) d.m).startSend 92 c g d none [d.m] := by
  have same : s.rendered 92 d.m = d.m := by
    unfold State.rendered
    split
    · rfl
    · rfl
  unfold State.present
  dsimp only
  rw [same, if_neg (by decide), if_neg (by decide)]
  have inside : s.boundaryStops 92 d.m = none := if_pos (by decide)
  rw [inside]
  rfl

theorem State.startSend_tender {s : State} (c g : Nat) (d : Stored) (off : ∀ k, k < 8 → s.rdb fTRN_MIR_EN k = false) :
    (s.startSend 92 c g d none [d.m]).swc.sending = SMap.set none s.swc.sending 92 (some { id := d.id, t := c, g := g, chk := none, parts := [d.m] })
    ∧ (s.startSend 92 c g d none [d.m]).swc.queues = s.swc.queues := by
  let sn : Sending := { id := d.id, t := c, g := g, chk := none, parts := [d.m] }
  let u := s.swcMod fun w => { w with sending := SMap.set none w.sending (sendKey 92 g) (some sn) }
  have moved : Keeps 0x40000000000400 u (u.tdMove 92 d.m) := State.tdMove_keeps rfl (.refl _ _)
  have same : s.startSend 92 c g d none [d.m] = u.tdMove 92 d.m :=
    State.mirror_off (moved.sessionsOff (by decide) off) 92 92 true d d.m
  rw [same, moved.swc (by decide)]
  exact ⟨rfl, rfl⟩

/-- The message picked at the Tender's egress is sent, and leaves its sub-queue. -/
theorem egressSchedule_tender {s : State} {c g credits cell : Nat} {d : Stored} (hcell : cell < 5242880) (ready : s.canSend 92 = true)
    (picked : s.pick 92 (s.partnerTakes 92 credits) = some (c, g, d)) (off : ∀ k, k < 8 → s.rdb fTRN_MIR_EN k = false) :
    EndsIn (.egressSchedule 92 credits 0 cell) s fun t =>
      (∃ sn, SMap.get none t.swc.sending 92 = some sn ∧ sn.id = d.id ∧ sn.t = c ∧ sn.g = g)
      ∧ t.queue 92 c g = (s.queue 92 c g).filter fun en => en.id != d.id := by
  let u := (s.served 92 c g d).setQueue 92 c g ((s.queue 92 c g).filter fun en => en.id != d.id)
  have chosen : s.schedule 92 credits 0 cell = u.present 92 c g d := by
    unfold State.schedule
    dsimp only
    rw [show (s.when_ (decide (92 < 72)) fun t => t.tagUpdate 92 (s.partnerTakes 92 credits)) = s from rfl, picked]
    rfl
  have meshed : Keeps 0x8000000000000 u (u.mesh (internalNode 92) (internalNode 92) d.m) := State.mesh_keeps rfl (.refl _ _)
  have off' := meshed.sessionsOff (by decide) (show ∀ k, k < 8 → u.rdb fTRN_MIR_EN k = false from off)
  obtain ⟨sending, queues⟩ := State.startSend_tender c g d off'
  rw [← State.present_tender, ← chosen] at sending queues
  refine ⟨_, (exec_egressSchedule (by decide) hcell (by decide)).trans (by rw [if_neg (by decide), if_pos ready]), ?_, ?_⟩
  · rw [sending]
    exact ⟨_, SMap.get_set_same .., rfl, rfl, rfl⟩
  · rw [State.queue, queues, meshed.swc (by decide)]
    exact State.queue_setQueue_same ..

/-- A parity error in a sub-queue that holds nothing is recorded and loses nothing. -/
theorem egressSchedule_parity {s : State} {x credits cell : Nat} (hx : x < 93) (hcell : cell < 5242880)
    (empty : s.queue x (cell / 5 % 8) (cell % 5) = []) :
    EndsIn (.egressSchedule x credits 3 cell) s fun t => t.rd fSWC_ERR_QPARITY 0 = 1 ∧ t.out = s.out := by
  refine ⟨_, exec_egressSchedule hx hcell (by decide), ?_⟩
  rw [if_pos rfl]
  unfold State.queueFault
  extract_lets flagged q
  have none : q = [] := empty
  rw [none]
  exact ⟨State.rd_wr_same .., rfl⟩

/-! ### A message leaves (R187) -/

section
variable {s : State} {x : Nat}

theorem exec_messageDepart {sn : Sending} {d : Stored} (hx : x < 93) (outside : x < 72 ∨ 88 ≤ x) (sent : s.sentNow x = some sn)
    (stored : s.stored sn.id = some d) :
    exec (.messageDepart x) s = .next
      (if d.whole then (if x = 92 then ((s.depart 92 sn d).answersIn sn.parts).each (sn.parts.filter isRegReq) State.regServe
        else s.depart x sn d) else s) := by
  refine (if_pos (decide_eq_true hx) : execMessageDepart x s = _).trans ?_
  rw [if_neg (by omega), sent]
  dsimp only
  rw [stored]
  dsimp only
  by_cases tender : x = 92
  · subst tender
    rfl
  · rw [if_neg tender, if_neg tender]

theorem messageDepart_slice (low : 72 ≤ x) (high : x < 88) : exec (.messageDepart x) s = .next s := by
  refine (if_pos (decide_eq_true (by omega)) : execMessageDepart x s = _).trans ?_
  rw [if_pos ⟨low, high⟩]

theorem messageDepart_idle (hx : x < 93) (idle : s.sentNow x = none) : exec (.messageDepart x) s = .next s := by
  refine (if_pos (decide_eq_true hx) : execMessageDepart x s = _).trans ?_
  rw [idle, ite_self]

theorem State.sentNow_inside {sn : Sending} (inside : 72 ≤ x) (sending : SMap.get none s.swc.sending x = some sn) :
    s.sentNow x = some sn := by
  have keys : sendKeys x = [x] := if_neg (by omega)
  unfold State.sentNow
  rw [keys]
  simp [sending, show ¬ x < 72 by omega]

/-- What a Runnel egress has sent in full is gone, and its place is free. -/
theorem messageDepart_runnel {sn : Sending} {d : Stored} (low : 88 ≤ x) (high : x < 92)
    (sending : SMap.get none s.swc.sending x = some sn) (stored : s.stored sn.id = some d) (whole : d.whole = true) (last : d.refs ≤ 1)
    (idle : s.swc.waiting = []) (none : s.weir.held = []) :
    EndsIn (.messageDepart x) s fun t => SMap.get Option.none t.swc.sending x = Option.none ∧ t.stored d.id = Option.none := by
  have key : sendKey x sn.g = x := if_neg (by omega)
  have id := State.id_of_stored stored
  let u := s.swcMod fun w => { w with sending := SMap.set Option.none w.sending (sendKey x sn.g) Option.none }
  have resolved : Keeps 0x40000000000400 u (u.tdResolve x d.m false) := State.tdResolve_keeps rfl (.refl _ _)
  have core : CoreKept u (u.tdResolve x d.m false) := .of_swc (resolved.swc (by decide))
  have gone : CoreKept (u.forget d) ((u.tdResolve x d.m false).copyGone d x) :=
    (core.forget d).trans (State.copyGone_core x (by rw [core.stored, id]; exact stored) last)
  have held : ((u.tdResolve x d.m false).copyGone d x).weir.held = [] := by
    have : Keeps butWeir u ((u.tdResolve x d.m false).copyGone d x) :=
      State.copyGone_keeps rfl (State.tdResolve_keeps rfl (.refl _ _))
    rw [this.weir (by decide)]
    exact none
  have left : s.depart x sn d = (u.tdResolve x d.m false).copyGone d x := by
    unfold State.depart
    dsimp only
    rw [if_neg (by omega), State.considerAll_idle held, State.drainAll_idle (gone.waiting.trans idle)]
  refine ⟨_, (exec_messageDepart (by omega) (by omega) (State.sentNow_inside (by omega) sending) stored).trans
    (by rw [if_pos whole, if_neg (by omega), left]), ?_, ?_⟩
  · rw [gone.sending]
    show SMap.get Option.none (SMap.set Option.none s.swc.sending (sendKey x sn.g) Option.none) x = Option.none
    rw [key]
    exact SMap.get_set_same ..
  · rw [gone.stored]
    exact State.stored_forget u d

end

/-! ### Residue, stall and audit (R196, R202, R204) -/

/-- The drop of message `d`'s copy at egress `e` recorded and counted. -/
def State.agedropped (s : State) (d : Stored) (e : Nat) : State :=
  (((((((s.wr fTRN_AGEDROP_GROUP 0 (d.m.group.getD (d.x - 72))).wrb fTRN_AGEDROP_SNOOP 0 d.m.group.isNone).wr fTRN_AGEDROP_EGRESS 0 e).wrb
    fTRN_AGEDROP_VALID 0 true).inc fTRN_AGECNT_AGECNT 0).pulse 0x1A3).countMsg 0x13 4 0 d.m)

section
variable (s : State) (d : Stored) (e : Nat)

theorem State.agedropped_core : CoreKept s (s.agedropped d e) := by
  unfold State.agedropped
  refine CoreKept.step ?_ (State.countMsg_keeps rfl (.refl _ _))
  exact CoreKept.of_swc rfl

theorem State.rd_countMsg_trn (code grp param : Nat) (m : Msg) (f : Fld) (i : Nat) (window : windowBit f.key = 39) :
    (s.countMsg code grp param m).rd f i = s.rd f i :=
  Keeps.rd (w := 0x400) (State.countMsg_keeps rfl (.refl _ _)) f i (by rw [window]; decide)

theorem State.agedropped_valid : (s.agedropped d e).rd fTRN_AGEDROP_VALID 0 = 1 := by
  unfold State.agedropped
  rw [State.rd_countMsg_trn _ _ _ _ _ _ _ (by decide), State.pulse_rd, State.rd_inc_key _ _ _ _ _ _ (by decide)]
  exact State.rd_wr_same ..

theorem State.agedropped_egress (he : e < 93) : (s.agedropped d e).rd fTRN_AGEDROP_EGRESS 0 = e := by
  unfold State.agedropped
  rw [State.rd_countMsg_trn _ _ _ _ _ _ _ (by decide), State.pulse_rd, State.rd_inc_key _ _ _ _ _ _ (by decide),
    State.rd_wrb_key _ _ _ _ _ _ (by decide), State.rd_wr_same]
  exact Nat.mod_eq_of_lt (lt_trans he (by decide))

/-- A copy that is the whole of its sub-queue, dropped as residue. -/
theorem State.residue_only {q : Entry} (queued : s.queue e d.m.tc d.m.grp = [q]) (id : q.id = d.id) :
    s.residue d e = ((s.setQueue e d.m.tc d.m.grp []).copyGone d e).agedropped d e := by
  have none : [q].filter (fun en => en.id != d.id) = [] := by simp [id]
  unfold State.residue State.agedropped
  rw [queued]
  dsimp only
  rw [if_pos (by simp [id]), none]

theorem exec_turnoutAgeSweep : exec .turnoutAgeSweep s = .next (State.drainAll
    (s.each (s.swc.msgs.filter s.aged) fun s d => s.each d.egs fun s e => s.residue d e)) := by
  show execTurnoutAgeSweep s = _
  unfold execTurnoutAgeSweep
  rfl

end

/-- The only message of the core, with one copy that is queued, goes when it is aged. -/
theorem turnoutAgeSweep_drops {s : State} {d : Stored} {e : Nat} {q : Entry} (only : s.swc.msgs = [d]) (aged : s.aged d = true)
    (copy : d.egs = [e]) (he : e < 93) (last : d.refs ≤ 1) (queued : s.queue e d.m.tc d.m.grp = [q]) (id : q.id = d.id)
    (idle : s.swc.waiting = []) :
    EndsIn .turnoutAgeSweep s fun t =>
      t.rd fTRN_AGEDROP_VALID 0 = 1 ∧ t.rd fTRN_AGEDROP_EGRESS 0 = e ∧ t.queue e d.m.tc d.m.grp = [] ∧ t.swc.msgs = [] := by
  have stored : (s.setQueue e d.m.tc d.m.grp []).stored d.id = some d := by
    show s.swc.msgs.find? (fun e => e.id == d.id) = some d
    rw [only]
    simp
  have kept := (State.copyGone_core e stored last).trans (State.agedropped_core _ d e)
  have swept : s.each (s.swc.msgs.filter s.aged) (fun s d => s.each d.egs fun s e => s.residue d e) = s.residue d e := by
    rw [only, List.filter_cons_of_pos aged]
    show s.each d.egs (fun s e => s.residue d e) = _
    rw [copy]
    rfl
  refine ⟨((s.setQueue e d.m.tc d.m.grp []).copyGone d e).agedropped d e, (exec_turnoutAgeSweep s).trans ?_, State.agedropped_valid _ d e, State.agedropped_egress _ d e he, ?_, ?_⟩
  · rw [swept, State.residue_only s d e queued id, State.drainAll_idle (kept.waiting.trans idle)]
  · rw [kept.queue]
    exact s.queue_setQueue_same e d.m.tc d.m.grp []
  · rw [kept.msgs]
    show s.swc.msgs.filter (fun e => e.id != d.id) = []
    rw [only]
    simp

theorem egressStall_marks {s : State} {x : Nat} (hx : x < 72) (on : s.rdb fSWC_CTL_STALLEN 0 = true) (queued : s.queued x = true)
    (runs : s.linkRuns x = true) : EndsIn (.egressStall x) s fun t => t.bit fSWC_STALL_STALL x = true := by
  refine ⟨(s.setBit fSWC_STALL_STALL x true).pulse (0x0C0 + x), (if_pos (decide_eq_true hx) : execEgressStall x s = _).trans ?_, ?_⟩
  · rw [if_pos ⟨on, queued, runs⟩]
  · exact (s.bit_setBit fSWC_STALL_STALL x true x rfl).trans (if_pos rfl)

theorem egressStall_idle {s : State} {x : Nat} (hx : x < 72)
    (idle : s.rdb fSWC_CTL_STALLEN 0 = false ∨ s.queued x = false ∨ s.linkRuns x = false) : exec (.egressStall x) s = .next s := by
  refine (if_pos (decide_eq_true hx) : execEgressStall x s = _).trans ?_
  rw [if_neg]
  rintro ⟨on, queued, runs⟩
  rcases idle with h | h | h <;> simp [h] at on queued runs

/-- Cells that no entry holds are accounted for: the audit finds nothing. -/
theorem cellAudit_balanced {s : State}
    (balance : s.rd fRSV_FREE_FREE 0 + ((s.swc.msgs.map (·.cells)).sum + s.wm.cells.length + s.keptCells) = s.rd fRSV_CELLS_CELLS 0) :
    exec .cellAudit s = .next s := by
  show execCellAudit s = _
  unfold execCellAudit
  extract_lets held bad s1
  have fine : bad = false := by simp [bad, held, balance]
  have same : s1 = s := by simp [s1, fine, State.when_]
  rw [same, fine]
  rfl

theorem State.rd_globalUpdate_free (s : State) : s.globalUpdate.rd fRSV_FREE_FREE 0 = s.rd fRSV_FREE_FREE 0 := by
  unfold State.globalUpdate
  dsimp only
  split
  · exact State.rd_wrb_key _ _ _ _ _ _ (by decide)
  · split
    · exact State.rd_wrb_key _ _ _ _ _ _ (by decide)
    · rfl

/-- The lost cells given back, and none lost any longer. -/
def State.regained (s : State) : State := ((s.pulse 0x1A1).giveCells s.swc.lost).swcMod fun w => { w with lost := 0 }

theorem State.regained_free (s : State) :
    s.regained.rd fRSV_FREE_FREE 0 = (s.rd fRSV_FREE_FREE 0 + s.swc.lost) % 2 ^ fRSV_FREE_FREE.width :=
  (State.rd_globalUpdate_free _).trans (State.rd_wr_same ..)

theorem State.regained_waiting (s : State) : s.regained.swc.waiting = s.swc.waiting := by
  have given : Keeps 0x2000000000 (s.pulse 0x1A1) ((s.pulse 0x1A1).giveCells s.swc.lost) := State.giveCells_keeps rfl (.refl _ _)
  have same : ((s.pulse 0x1A1).giveCells s.swc.lost).swc.waiting = s.swc.waiting := by
    rw [given.swc (by decide)]
    rfl
  exact same

theorem exec_cellAudit_empty {s : State} (missing : s.rd fRSV_FREE_FREE 0 + s.keptCells ≠ s.rd fRSV_CELLS_CELLS 0)
    (empty : s.swc.msgs = []) (noCells : s.wm.cells = []) : exec .cellAudit s = .next s.regained.retCredits.drainAll := by
  show execCellAudit s = _
  have found : (s.rd fRSV_FREE_FREE 0 + ((s.swc.msgs.map (·.cells)).sum + s.wm.cells.length + s.keptCells)
      != s.rd fRSV_CELLS_CELLS 0) = true := by
    simpa [empty, noCells] using missing
  unfold execCellAudit
  dsimp only
  rw [found, empty, noCells]
  rfl

/-- The audit of an empty Reservoir gives back the cells that were lost. -/
theorem cellAudit_gives_back {s : State} (missing : s.rd fRSV_FREE_FREE 0 + s.keptCells ≠ s.rd fRSV_CELLS_CELLS 0) (empty : s.swc.msgs = [])
    (noCells : s.wm.cells = []) (idle : s.swc.waiting = []) :
    EndsIn .cellAudit s fun t =>
      t.rd fRSV_FREE_FREE 0 = (s.rd fRSV_FREE_FREE 0 + s.swc.lost) % 2 ^ fRSV_FREE_FREE.width ∧ t.swc.lost = 0 := by
  have returned : CoreKept s.regained s.regained.retCredits := State.retCredits_core (.refl _)
  have kept : Keeps 0xa002 s.regained s.regained.retCredits := State.retCredits_keeps rfl (.refl _ _)
  have waiting : s.regained.retCredits.swc.waiting = [] := returned.waiting.trans (s.regained_waiting.trans idle)
  refine ⟨s.regained.retCredits, (exec_cellAudit_empty missing empty noCells).trans (congrArg _ (State.drainAll_idle waiting)), ?_, returned.lost⟩
  rw [kept.rd _ _ (by decide)]
  exact s.regained_free

/-- Settles O31: each command by the branch of its operation that the state selects. -/
theorem messagesInTheCore : Obligations.MessagesInTheCore := by
  unfold Obligations.MessagesInTheCore
  refine ⟨fun s x sel here m hx hsel up first posted routed single tender own fresh off room _ =>
      coreMessageEnqueue_posted hx hsel up first posted routed single tender own fresh off room,
    fun _ _ _ _ _ => coreMessageEnqueue_enters, fun s x sel here m hx hsel full => ?waits, fun s x credits err cell hx hcell herr can => ?sends,
    fun s x credits cell hx hcell => ?fault, fun s x sn d outside hx sent stored => ?departs, fun s sn d sent stored whole => ?tender,
    fun _ _ => messageDepart_slice, exec_turnoutAgeSweep, fun _ _ _ _ _ => coreMessageEnqueue_linkDown,
    fun _ _ _ _ _ _ => coreMessageEnqueue_cells, fun _ _ _ _ _ _ _ => coreMessageEnqueue_misrouted,
    fun _ _ _ _ _ _ => egressSchedule_tender, fun s x credits cell hx hcell busy => ?busy, fun _ _ _ _ => egressSchedule_parity,
    fun _ _ _ _ => messageDepart_runnel, fun _ _ => messageDepart_idle, fun _ _ _ _ => turnoutAgeSweep_drops,
    fun _ _ => egressStall_marks, fun _ _ => egressStall_idle, fun _ => cellAudit_balanced, fun _ => cellAudit_gives_back⟩
  case waits => rw [exec_coreMessageEnqueue here m hx hsel, if_pos full]
  case sends => rw [exec_egressSchedule hx hcell (by omega), if_neg (by omega), if_pos can]
  case fault => rw [exec_egressSchedule hx hcell (by decide), if_pos rfl]
  case departs => rw [exec_messageDepart (by omega) outside sent stored, if_neg (show ¬ x = 92 by omega)]
  case tender => rw [exec_messageDepart (by decide) (by decide) sent stored, if_pos whole, if_pos rfl]
  case busy => rw [exec_egressSchedule hx hcell (by decide), if_neg (by decide), if_neg (by simp [busy])]

end Sys2Proof.Machine
end

section
/-! PROOFS. Frames of the segments: what a frame leaves beside its request, and a READ and a WRITE that it carries. -/
namespace Sys2Proof.Machine

/-! ### A frame counted, and its sender seen (R450, R454) -/

/-- The registers that a frame may touch whatever it carries: the count of its segment, and where its sender has been seen. -/
def frameKeys : List Nat := [fTND_SEG_FRAMES.key, fTND_ORIG_H_SEENA.key, fTND_ORIG_H_SEENB.key]

/-- State `t` is `s` but for those registers. -/
structure Framed (s t : State) : Prop where
  rd : ∀ (g : Fld) (i : Nat), g.key ∉ frameKeys → t.rd g i = s.rd g i
  rest : { t with regs := s.regs } = s

/-- The frame counted. -/
def State.framed (s : State) (seg : Nat) : State := s.inc fTND_SEG_FRAMES seg

/-- The frame counted, and its sender's slot marked as seen on the segment. -/
def State.frameSeen (s : State) (seg mac : Nat) : State :=
  match (s.framed seg).slotOf mac with
  | some n => (s.framed seg).seen n seg
  | none => s.framed seg

section
variable {s t : State}

theorem Framed.pwr (h : Framed s t) : t.pwr = s.pwr := (congrArg State.pwr h.rest :)
theorem Framed.boot (h : Framed s t) : t.boot = s.boot := (congrArg State.boot h.rest :)
theorem Framed.tnd (h : Framed s t) : t.tnd = s.tnd := (congrArg State.tnd h.rest :)
theorem Framed.out (h : Framed s t) : t.out = s.out := (congrArg State.out h.rest :)
theorem Framed.notices (h : Framed s t) : t.notices = s.notices := (congrArg State.notices h.rest :)

theorem Framed.rdb (h : Framed s t) (g : Fld) (i : Nat) (hg : g.key ∉ frameKeys) : t.rdb g i = s.rdb g i := by
  unfold State.rdb
  rw [h.rd g i hg]

theorem Framed.dev (h : Framed s t) : t.dev = s.dev := h.rd fTND_STAT_DEVSTATE 0 (by decide)

theorem Framed.headSeq (h : Framed s t) : t.headSeq = s.headSeq := by
  unfold State.headSeq State.rd2
  rw [h.rd _ _ (by decide), h.rd _ _ (by decide)]

theorem Framed.ownNode (h : Framed s t) : t.ownNode = s.ownNode := by
  have node : t.node = s.node := (congrArg State.node h.rest :)
  unfold State.ownNode
  rw [h.rd _ _ (by decide), node]

theorem Framed.slotMac (h : Framed s t) (n : Nat) : t.slotMac n = s.slotMac n := by
  unfold State.slotMac
  rw [h.rdb _ _ (by decide), h.rd _ _ (by decide), h.rd _ _ (by decide)]

theorem Framed.slotOf (h : Framed s t) (a : Nat) : t.slotOf a = s.slotOf a := by
  unfold State.slotOf
  simp only [h.slotMac]

theorem Framed.canCall (h : Framed s t) {w : Caller} (segment : w.path ≠ 2) : t.canCall w = s.canCall w := by
  have enable : (if w.path = 0 then fTND_CTL_SEGAEN else fTND_CTL_SEGBEN).key ∉ frameKeys := by
    split
    · decide
    · decide
  unfold State.canCall
  rw [if_neg segment, if_neg segment, h.pwr, h.rdb _ _ (by decide), h.rdb _ _ enable]

theorem Framed.limitCode (h : Framed s t) (i : Nat) : t.limitCode i = s.limitCode i := by
  unfold State.limitCode
  rw [h.tnd, h.boot, h.pwr]

/-- The code that a requester has or gets is what it would be without the frame. -/
theorem Framed.origin (h : Framed s t) (w : Caller) : (t.originOf w).1 = (s.originOf w).1 := by
  have free : (fun n => !t.rdb fTND_ORIG_H_VALID n) = fun n => !s.rdb fTND_ORIG_H_VALID n :=
    funext fun n => congrArg _ (h.rdb _ _ (by decide))
  unfold State.originOf
  dsimp only
  rw [h.slotOf, free]
  split
  · rfl
  split
  · rfl
  split
  · rfl
  · rfl

/-- A request that would be executed at once still is. -/
theorem Framed.serves (h : Framed s t) {w : Caller} {i : Nat} (segment : w.path ≠ 2) (serves : s.serves w i) : t.serves w i := by
  obtain ⟨ok, can, up, started, safe, limit, free, idle, closed, left, activate, new, unlocked, known⟩ := serves
  rw [State.serves, h.canCall segment, h.tnd, h.dev, h.limitCode, h.boot, h.rd _ _ (by decide), h.origin]
  exact ⟨ok, can, up, started, safe, limit, free, idle, closed, left, activate, new, unlocked, known⟩

theorem State.framed_framed (s : State) (seg : Nat) : Framed s (s.framed seg) :=
  ⟨fun _ _ hg => State.rd_inc_key _ _ _ _ _ _ fun e => hg (e ▸ (by decide)), rfl⟩

theorem State.frameSeen_framed (s : State) (seg mac : Nat) : Framed s (s.frameSeen seg mac) := by
  have counted := s.framed_framed seg
  have mark : (if seg = 0 then fTND_ORIG_H_SEENA else fTND_ORIG_H_SEENB).key ∈ frameKeys := by
    split
    · decide
    · decide
  unfold State.frameSeen
  split
  · exact ⟨fun g i hg => (State.rd_wrb_key _ _ _ _ _ _ fun e => hg (e ▸ mark)).trans (counted.rd g i hg), rfl⟩
  · exact counted

theorem State.frameSeen_count (s : State) (seg mac : Nat) :
    (s.frameSeen seg mac).rd fTND_SEG_FRAMES seg = satAdd fTND_SEG_FRAMES.width (s.rd fTND_SEG_FRAMES seg) 1 := by
  have counted : (s.framed seg).rd fTND_SEG_FRAMES seg = satAdd fTND_SEG_FRAMES.width (s.rd fTND_SEG_FRAMES seg) 1 := State.rd_inc_same ..
  have mark : (if seg = 0 then fTND_ORIG_H_SEENA else fTND_ORIG_H_SEENB).key ≠ fTND_SEG_FRAMES.key := by
    split
    · decide
    · decide
  unfold State.frameSeen
  split
  · exact (State.rd_wrb_key _ _ _ _ _ _ mark).trans counted
  · exact counted

end

/-! ### What becomes of a frame (R450, R451) -/

/-- The sender of a frame of segment `seg`. -/
def frameFrom (seg mac tag : Nat) : Caller := { path := seg, mac := mac, port := 0, tag := tag }

theorem frameOk_seg {seg mac : Nat} (ok : frameOk seg mac = true) : seg < 2 := (of_decide_eq_true ok).1

section
variable {s : State} {seg mac : Nat} {body : List Byte} {b : Body} {bcast good hang : Bool}

theorem State.takeFrame_shut (shut : s.canCall (frameFrom seg mac 0) = false) : s.takeFrame seg mac bcast body good hang = s :=
  if_pos (ne_true_of_eq_false shut)

theorem State.takeFrame_malformed (can : s.canCall (frameFrom seg mac 0) = true) (parsed : parseBody body = none) :
    s.takeFrame seg mac bcast body good hang = (s.framed seg).inc fTND_ERR_BADFRAME 0 := by
  unfold State.takeFrame
  refine (if_neg (not_not.2 can)).trans ?_
  rw [parsed]
  rfl

/-- A request for this node is taken by the dictionary. -/
theorem State.takeFrame_request (can : s.canCall (frameFrom seg mac 0) = true) (parsed : parseBody body = some b) (request : b.kind = 1)
    (own : b.node = s.ownNode) :
    s.takeFrame seg mac bcast body good hang = (s.frameSeen seg mac).dictTake (cmdOf (frameFrom seg mac 0) b bcast good hang) := by
  have node : b.node = (s.frameSeen seg mac).ownNode := own.trans (s.frameSeen_framed seg mac).ownNode.symm
  unfold State.takeFrame
  refine (if_neg (not_not.2 can)).trans ?_
  rw [parsed]
  refine (if_pos request).trans ?_
  exact if_pos (.inl node)

/-- An acknowledgement. -/
theorem State.takeFrame_ack (can : s.canCall (frameFrom seg mac 0) = true) (parsed : parseBody body = some b) (ack : b.kind = 4)
    (low : 1 ≤ b.op) (high : b.op ≤ 6) :
    s.takeFrame seg mac bcast body good hang = (s.frameSeen seg mac).noticeAcked mac b.tag := by
  unfold State.takeFrame
  refine (if_neg (not_not.2 can)).trans ?_
  rw [parsed]
  refine (if_neg (by simp [ack])).trans ?_
  refine (if_pos ack).trans ?_
  exact if_pos ⟨low, high⟩

variable (ok : frameOk seg mac = true)
include ok

theorem exec_dictRead : exec (.dictRead seg mac bcast body hang) s = .next (s.takeFrame seg mac bcast body true hang) := if_pos ok

theorem exec_dictWrite : exec (.dictWrite seg mac bcast body good hang) s = .next (s.takeFrame seg mac bcast body good hang) := if_pos ok

theorem exec_notificationAck : exec (.notificationAck seg mac body) s = .next (s.takeFrame seg mac false body true false) := if_pos ok

theorem exec_badframe (ether : Nat) : exec (.badframe seg mac ether bcast body) s = .next
    (if ether = 0x88B5 then s.takeFrame seg mac bcast body true false
    else if s.canCall (frameFrom seg mac 0) then s.inc fTND_ERR_BADFRAME 0 else s) := if_pos ok

end

/-! ### A request executed at once (R452, R453) -/

theorem Framed.canCall_tag {s : State} {seg mac : Nat} (hseg : seg < 2) (tag : Nat) : s.canCall (frameFrom seg mac tag) = s.canCall (frameFrom seg mac 0) := by
  have segment : ¬ seg = 2 := by omega
  exact (if_neg segment).trans (if_neg segment).symm

/-- A request of a requester that the dictionary serves executes at once. -/
theorem State.dictTake_runs {s : State} {c : Cmd} {i : Nat} (h : s.serves c.who i) : s.dictTake c = State.dictNext 32 (s.dictRun c) := by
  obtain ⟨-, -, up, started, -, -, free, -⟩ := h
  have answers : ¬ s.dictBusy c = true := by
    unfold State.dictBusy
    rcases started with on | ⟨limited, segment⟩
    · simp [on]
    · simp [limited, segment]
  unfold State.dictTake
  rw [if_neg (by simp [up]), if_neg answers, free]

theorem State.keptFor_none {s : State} {c : Cmd} {i : Nat} (h : s.serves c.who i) : s.keptFor c = none := by
  obtain ⟨-, -, -, -, -, -, -, -, -, -, -, new, -⟩ := h
  exact List.find?_eq_none.2 fun k hk => List.any_eq_false.1 new k hk

/-- A READ that ends is answered with what the object holds. -/
theorem State.dictRun_read {s t : State} {c : Cmd} {i code : Nat} {data : List Byte} (h : s.serves c.who i) (op : c.op = 1)
    (ends : c.hang = false) (read : s.dictRead c = (code, data, t)) : s.dictRun c = t.answer c code 0 data := by
  unfold State.dictRun
  rw [State.keptFor_none h]
  dsimp only
  rw [if_neg (by omega), if_neg (by omega), if_neg (by simp [ends]), read]

theorem State.dictRun_write {s : State} {c : Cmd} {i : Nat} (h : s.serves c.who i) (op : c.op = 2) : s.dictRun c = s.dictWrite c := by
  unfold State.dictRun
  rw [State.keptFor_none h]
  exact if_pos op

theorem State.dictRead_devstate {s : State} {c : Cmd} (limit : s.limitCode 0x1100 = 0) (index : c.index = 0x1100) (sub : c.sub = 0)
    (offset : c.offset = 0) : s.dictRead c = (0, toBeBytes 1 s.dev, s) := by
  obtain ⟨who, bcast, later, op, i, j, last, off⟩ := c
  subst index sub offset
  exact if_neg (not_not.2 limit)

/-- A response that is not to wait goes out on the segment of its request. -/
theorem State.answer_out {s : State} {c : Cmd} (abort jseq : Nat) (data : List Byte) (now : c.later = false) (segment : c.who.path ≠ 2)
    (heard : s.pwr.silent = false) :
    (s.answer c abort jseq data).out
      = .frame c.who.path c.who.mac (s.body 2 c.op c.who.tag c.index c.sub c.offset abort jseq data) :: s.out := by
  have back (t : State) (bs : List Byte) (quiet : t.pwr.silent = false) : (t.sayBack c bs).out = .frame c.who.path c.who.mac bs :: t.out := by
    unfold State.sayBack State.sendBack
    rw [if_neg (by simp [now]), if_neg segment, if_neg (by simp [quiet])]
    rfl
  unfold State.answer
  dsimp only
  cases abort != 1 with
  | false => exact back s _ heard
  | true => exact back _ _ heard

theorem Framed.body {s t : State} (h : Framed s t) (kind op tag index sub off abort jseq : Nat) (data : List Byte) :
    t.body kind op tag index sub off abort jseq data = s.body kind op tag index sub off abort jseq data := by
  unfold State.body
  rw [h.ownNode]

section
variable {s : State} {seg mac : Nat} {body : List Byte} {b : Body} (ok : frameOk seg mac = true) (parsed : parseBody body = some b)
  (request : b.kind = 1) (own : b.node = s.ownNode)
include ok parsed request own

/-- A request in a frame of a segment that the dictionary serves executes at once, in the state with the frame counted. -/
theorem State.takeFrame_runs {i : Nat} (bcast good hang : Bool) (serves : s.serves (frameFrom seg mac b.tag) i) :
    s.takeFrame seg mac bcast body good hang
      = State.dictNext 32 ((s.frameSeen seg mac).dictRun (cmdOf (frameFrom seg mac 0) b bcast good hang)) := by
  have hseg := frameOk_seg ok
  have can : s.canCall (frameFrom seg mac 0) = true := (Framed.canCall_tag hseg b.tag).symm.trans serves.2.1
  have serves' : (s.frameSeen seg mac).serves (frameFrom seg mac b.tag) i :=
    (s.frameSeen_framed seg mac).serves (show seg ≠ 2 by omega) serves
  rw [State.takeFrame_request can parsed request own, State.dictTake_runs (c := cmdOf (frameFrom seg mac 0) b bcast good hang) serves']

/-- A READ of the state of the device is answered with it. -/
theorem dictRead_devstate (op : b.op = 1) (index : b.index = 0x1100) (sub : b.sub = 0) (offset : b.offset = 0)
    (serves : s.serves (frameFrom seg mac b.tag) 0x1100) (heard : s.pwr.silent = false) :
    EndsIn (.dictRead seg mac false body false) s fun t =>
      t.out = .frame seg mac (s.body 2 1 b.tag 0x1100 0 0 0 0 (toBeBytes 1 s.dev)) :: s.out
      ∧ t.rd fTND_SEG_FRAMES seg = satAdd fTND_SEG_FRAMES.width (s.rd fTND_SEG_FRAMES seg) 1 := by
  have segment : seg ≠ 2 := by
    have := frameOk_seg ok
    omega
  have seen := s.frameSeen_framed seg mac
  have serves' := seen.serves segment serves
  obtain ⟨-, -, -, -, -, limit, -, idle, -⟩ := id serves'
  have run := State.dictRun_read (c := cmdOf (frameFrom seg mac 0) b false true false) serves' op rfl
    (State.dictRead_devstate limit index sub offset)
  obtain ⟨aside, regs⟩ := (s.frameSeen seg mac).answer_aside (cmdOf (frameFrom seg mac 0) b false true false) 0 0
    (toBeBytes 1 (s.frameSeen seg mac).dev)
  have taken := State.takeFrame_runs ok parsed request own false true false serves
  rw [run, State.dictNext_idle (aside.queue.trans idle)] at taken
  refine ⟨_, (exec_dictRead ok).trans (congrArg _ taken), ?_, ?_⟩
  · rw [State.answer_out 0 0 _ rfl segment (seen.pwr ▸ heard), seen.body, seen.dev, seen.out]
    show Out.frame seg mac (s.body 2 b.op b.tag b.index b.sub b.offset 0 0 _) :: _ = _
    rw [op, index, sub, offset]
  · rw [State.rd_congr regs]
    exact s.frameSeen_count seg mac

end

/-! ### A WRITE of NODECNT, at once and timed (R457, R460, R463) -/

section
variable {s : State} {c : Cmd} {ob : Obj} {v : Byte}

/-- With no transfer open, a WRITE of an object that holds a number is a whole one. -/
theorem State.dictWrite_number (closed : s.tnd.xfers = []) (below : c.index < 0x8000) (image : imageSlot c.index = none)
    (obj : objAt c.index c.sub = some ob) (number : ob.size ≠ 0) :
    s.dictWrite c = (s.heard c.who).writeWhole (s.originOf c.who).1 c := by
  have still : (s.originOf c.who).2.xferOf (s.originOf c.who).1 = none :=
    State.xferOf_none ((s.originOf_aside c.who).xfers.trans closed) _
  simp only [State.dictWrite, still, image, Nat.not_le.2 below, if_false, obj]
  exact if_neg number

theorem writeCmd_offset (w : Caller) (i j : Nat) (data : List Byte) : (writeCmd w i j data).offset = 0 := rfl

/-- The checks look at no more of a WRITE than its object and value. -/
theorem State.preCode_of (s : State) (offset : c.offset = 0) : s.preCode c = s.preCode (writeCmd c.who c.index c.sub c.data) := by
  have admits : s.safeAdmits c = s.safeAdmits (writeCmd c.who c.index c.sub c.data) := by
    unfold State.safeAdmits
    rw [writeCmd_index, writeCmd_sub]
  unfold State.preCode
  rw [admits, offset, writeCmd_offset, writeCmd_index, writeCmd_sub, writeCmd_data]

theorem State.whoCode_of (s : State) (orig : Nat) (single : c.bcast = false) :
    s.whoCode orig c = s.whoCode orig (writeCmd c.who c.index c.sub c.data) := by
  obtain ⟨who, bcast, later, op, i, j, last, off⟩ := c
  subst single
  rfl

theorem beBytes_one (v : Byte) : beBytes [v] = v.toNat := by simp [beBytes]

theorem State.objWrite_nodecnt (s : State) (orig : Nat) (index : c.index = 0x1200) (sub : c.sub = 2) (data : c.data = [v]) :
    s.objWrite orig c = (0, [], s.wr fTND_CTL_NODECNT 0 v.toNat) := by
  obtain ⟨who, bcast, later, op, i, j, last, off, apply, d⟩ := c
  subst index sub data
  rw [← beBytes_one]
  rfl

theorem named_nodecnt : Named 0x1200 2 ⟨0x1200, 2, 1, .rw, 1, 16⟩ := ⟨by decide, rfl, rfl⟩

/-- Everything that is checked lets a WRITE of NODECNT through. -/
theorem State.checks_nodecnt (h : s.serves c.who 0x1200) (index : c.index = 0x1200) (sub : c.sub = 2) (data : c.data = [v]) (offset : c.offset = 0)
    (single : c.bcast = false) (low : 1 ≤ v.toNat) (high : v.toNat ≤ 16) :
    firstCode [(s.heard c.who).preCode c, (s.heard c.who).whoCode (s.originOf c.who).1 c] = 0 := by
  have pre := State.preCode_zero (data := [v]) h named_nodecnt nofun nofun (.inr ⟨rfl, by rw [beBytes_one]; exact ⟨low, high⟩⟩)
  rw [State.preCode_of _ offset, State.whoCode_of _ _ single, index, sub, data, pre, State.whoCode_serves h]
  rfl

theorem State.dictWrite_nodecnt (h : s.serves c.who 0x1200) (index : c.index = 0x1200) (sub : c.sub = 2) (data : c.data = [v])
    (offset : c.offset = 0) (single : c.bcast = false) (low : 1 ≤ v.toNat) (high : v.toNat ≤ 16) :
    s.dictWrite c = match c.apply with
      | some t => (s.heard c.who).writeTimed (s.originOf c.who).1 c 0 t
      | none => (s.heard c.who).writeNow (s.originOf c.who).1 c 0 := by
  obtain ⟨-, -, -, -, -, -, -, -, closed, -⟩ := id h
  rw [State.dictWrite_number (ob := ⟨0x1200, 2, 1, .rw, 1, 16⟩) closed (by rw [index]; decide) (by rw [index]; rfl) (by rw [index, sub]; rfl) (by decide),
    State.writeWhole, State.checks_nodecnt h index sub data offset single low high] <;> rfl

/-- A timed WRITE that everything admits is journaled, and pending. -/
theorem State.writeTimed_accepts {orig t : Nat} {x : State} (acts : (s.future t).errAside.objWrite orig c = (0, [], x)) (none : s.tnd.timed = [])
    (room : s.claims < 256) (soon : t ≤ s.ft.now + 86400 * nsPerSec) (free : s.ownTimedCmd c = false) :
    s.writeTimed orig c 0 t = ((s.each (s.recsOf c orig 2 0) State.journal).tndMod fun x =>
      { x with timed := x.timed ++ [{ seq := s.headSeq, at_ := t, orig := orig, cmd := c }] }).answer c 0 s.headSeq [] := by
  have ran : (if 0 = 0 ∨ 8 < 0 then (s.future t).errAside.objWrite orig c else (0, [], s)) = (0, [], x) := (if_pos (.inl rfl)).trans acts
  have times : s.epochTimes = [] := by
    unfold State.epochTimes
    rw [none]
    rfl
  unfold State.writeTimed
  rw [ran]
  dsimp only
  rw [times, free, if_neg (show ¬ (_ ∧ 256 < s.claims + 1) by omega), if_neg (show ¬ s.ft.now + 86400 * nsPerSec < t by omega)]
  rfl

end

/-- The comparators claimed, where what they are claimed by is the same. -/
theorem State.claims_congr {s t : State} (rd : ∀ (g : Fld) (i : Nat), g.key ∈ [fWEIR_EG_ANENT.key, fWEIR_EG_ROTEN.key, fWEIR_EG_PEND.key,
    fARCH_PROFILE_ACTIVE.key] → t.rd g i = s.rd g i) (weir : t.weir = s.weir) (timed : t.tnd.timed = s.tnd.timed) (xlt : t.xlt = s.xlt)
    (chk : t.chk = s.chk) (ft : t.ft = s.ft) : t.claims = s.claims := by
  have on (x : Nat) : t.rotOn x = s.rotOn x := by
    unfold State.rotOn State.rotValid State.rdb
    rw [rd fWEIR_EG_ANENT x (by decide), rd fWEIR_EG_ROTEN x (by decide), rd fARCH_PROFILE_ACTIVE 0 (by decide), weir]
  have pend (x : Nat) : t.rdb fWEIR_EG_PEND x = s.rdb fWEIR_EG_PEND x := by
    unfold State.rdb
    rw [rd fWEIR_EG_PEND x (by decide)]
  unfold State.claims State.epochTimes
  simp only [on, pend, timed, xlt, chk, ft]

theorem Framed.claims {s t u : State} (h : Framed s t) (a : Aside t u) : u.claims = s.claims := by
  have xlt : t.xlt = s.xlt := (congrArg State.xlt h.rest :)
  have chk : t.chk = s.chk := (congrArg State.chk h.rest :)
  have ft : t.ft = s.ft := (congrArg State.ft h.rest :)
  have weir : t.weir = s.weir := (congrArg State.weir h.rest :)
  have xlt' : u.xlt = t.xlt := (congrArg State.xlt a.rest :)
  have ft' : u.ft = t.ft := (congrArg State.ft a.rest :)
  have weir' : u.weir = t.weir := (congrArg State.weir a.rest :)
  refine State.claims_congr (fun g i hg => (a.rd g i fun e => ?_).trans (h.rd g i fun e => ?_)) (weir'.trans weir)
    (a.timed.trans (congrArg (·.timed) h.tnd)) (xlt'.trans xlt) (a.chk.trans chk) (ft'.trans ft)
  · exact (by decide +kernel : ∀ k ∈ [fWEIR_EG_ANENT.key, fWEIR_EG_ROTEN.key, fWEIR_EG_PEND.key, fARCH_PROFILE_ACTIVE.key], k ∉ asideKeys) _ hg e
  · exact (by decide +kernel : ∀ k ∈ [fWEIR_EG_ANENT.key, fWEIR_EG_ROTEN.key, fWEIR_EG_PEND.key, fARCH_PROFILE_ACTIVE.key], k ∉ frameKeys) _ hg e

section
variable {s : State} {seg mac : Nat} {body : List Byte} {b : Body} {v : Byte} {good : Bool} (ok : frameOk seg mac = true)
  (parsed : parseBody body = some b) (request : b.kind = 1) (own : b.node = s.ownNode) (single : b.any = false) (op : b.op = 2)
  (index : b.index = 0x1200) (sub : b.sub = 2) (offset : b.offset = 0) (data : b.data = [v]) (low : 1 ≤ v.toNat) (high : v.toNat ≤ 16)
  (serves : s.serves (frameFrom seg mac b.tag) 0x1200)
include ok parsed request own single op index sub offset data low high serves

theorem State.takeFrame_nodecnt : ∃ u, Framed s u ∧ u.serves (frameFrom seg mac b.tag) 0x1200
    ∧ s.takeFrame seg mac false body good false = State.dictNext 32 (match (cmdOf (frameFrom seg mac 0) b false good false).apply with
      | some t => (u.heard (frameFrom seg mac b.tag)).writeTimed (u.originOf (frameFrom seg mac b.tag)).1 (cmdOf (frameFrom seg mac 0) b false good false) 0 t
      | none => (u.heard (frameFrom seg mac b.tag)).writeNow (u.originOf (frameFrom seg mac b.tag)).1 (cmdOf (frameFrom seg mac 0) b false good false) 0) := by
  have segment : seg ≠ 2 := by
    have := frameOk_seg ok
    omega
  have seen := s.frameSeen_framed seg mac
  have serves' := seen.serves segment serves
  refine ⟨_, seen, serves', ?_⟩
  rw [State.takeFrame_runs ok parsed request own false good false serves,
    State.dictRun_write (c := cmdOf (frameFrom seg mac 0) b false good false) serves' op,
    State.dictWrite_nodecnt (c := cmdOf (frameFrom seg mac 0) b false good false) serves' index sub data offset single low high]
  rfl

/-- NODECNT is written at once, and journaled. -/
theorem dictWrite_nodecnt_now (untimed : b.timed = false) :
    EndsIn (.dictWrite seg mac false body good false) s fun t =>
      t.rd fTND_CTL_NODECNT 0 = v.toNat ∧ t.headSeq = (s.headSeq + 1) % 2 ^ 64 := by
  obtain ⟨u, seen, serves', taken⟩ := State.takeFrame_nodecnt (good := good) ok parsed request own single op index sub offset data low high serves
  let c := cmdOf (frameFrom seg mac 0) b false good false
  have now : c.apply = none := if_neg (by simp [untimed])
  have quiet := serves'.noted c
  have done := State.writeNow_done (s := u) (c := c) rfl (State.objWrite_nodecnt (u.noted c) _ index sub data) quiet.left
  obtain ⟨filed, -⟩ := ((u.noted c).wr fTND_CTL_NODECNT 0 v.toNat).filed_aside u c 0 []
  have after : (((u.noted c).wr fTND_CTL_NODECNT 0 v.toNat).filed u c 0 []).afterWrite c = ((u.noted c).wr fTND_CTL_NODECNT 0 v.toNat).filed u c 0 [] := by
    unfold State.afterWrite
    rw [show objKey c.index c.sub = objKey 0x1200 2 from congrArg₂ objKey index sub, if_neg (by decide), filed.boot]
    show (match (u.noted c).boot.activate with | some b => _ | none => _) = _
    rw [quiet.activate]
  have ran : s.takeFrame seg mac false body good false = ((u.noted c).wr fTND_CTL_NODECNT 0 v.toNat).filed u c 0 [] := by
    rw [taken, show (cmdOf (frameFrom seg mac 0) b false good false).apply = none from now]
    exact (congrArg (State.dictNext 32) (done.trans after)).trans (State.dictNext_idle (filed.queue.trans quiet.queue) 32)
  refine ⟨_, (exec_dictWrite ok).trans (congrArg _ ran), ?_, ?_⟩
  · rw [State.rd_filed, State.rd_wr_same]
    exact Nat.mod_eq_of_lt (lt_of_le_of_lt high (by decide))
  · have head : ((u.noted c).wr fTND_CTL_NODECNT 0 v.toNat).headSeq = (u.noted c).headSeq := by
      unfold State.headSeq State.rd2
      rw [State.rd_wr_key _ _ _ _ _ _ (by decide), State.rd_wr_key _ _ _ _ _ _ (by decide)]
    rw [State.headSeq_filed, head, State.headSeq_noted u c (State.recsOf_length _ _ _ _ _ (by rw [show c.index = 0x1200 from index]; decide)), seen.headSeq]

/-- A timed WRITE of NODECNT is pending until its time. -/
theorem dictWrite_nodecnt_timed (timed : b.timed = true) (none : s.tnd.timed = []) (room : s.claims < 256)
    (soon : time80Ns b.apply ≤ s.ft.now + 86400 * nsPerSec) :
    EndsIn (.dictWrite seg mac false body good false) s fun t =>
      t.rd fTND_CTL_NODECNT 0 = s.rd fTND_CTL_NODECNT 0 ∧ t.tnd.timed.map (·.at_) = [time80Ns b.apply] := by
  obtain ⟨u, seen, serves', taken⟩ := State.takeFrame_nodecnt (good := good) ok parsed request own single op index sub offset data low high serves
  let c := cmdOf (frameFrom seg mac 0) b false good false
  let h := u.heard (frameFrom seg mac b.tag)
  let o := (u.originOf (frameFrom seg mac b.tag)).1
  let t := time80Ns b.apply
  let pending := (h.each (h.recsOf c o 2 0) State.journal).tndMod fun x =>
    { x with timed := x.timed ++ [{ seq := h.headSeq, at_ := t, orig := o, cmd := c }] }
  have heard : Aside u h := u.heard_aside _
  have noted : Aside u (h.each (h.recsOf c o 2 0) State.journal) := heard.trans (State.each_aside _ _ State.journal_aside)
  have ft : h.ft = s.ft := (congrArg State.ft heard.rest :).trans (congrArg State.ft seen.rest :)
  have free : h.ownTimedCmd c = false := by
    unfold State.ownTimedCmd
    rw [show c.index = 0x1200 from index]
    rfl
  have still : u.tnd.timed = [] := (congrArg (·.timed) seen.tnd).trans none
  have accepted : h.writeTimed o c 0 t = pending.answer c 0 h.headSeq [] :=
    State.writeTimed_accepts (State.objWrite_nodecnt _ o index sub data) (heard.timed.trans still)
      (by rw [seen.claims heard]; exact room) (by rw [ft]; exact soon) free
  obtain ⟨said, -⟩ := pending.answer_aside c 0 h.headSeq []
  obtain ⟨-, -, -, -, -, -, -, idle, -⟩ := id serves'
  have ran : s.takeFrame seg mac false body good false = pending.answer c 0 h.headSeq [] := by
    rw [taken, show (cmdOf (frameFrom seg mac 0) b false good false).apply = some t from if_pos timed]
    exact (congrArg (State.dictNext 32) accepted).trans (State.dictNext_idle (said.queue.trans (noted.queue.trans idle)) 32)
  refine ⟨_, (exec_dictWrite ok).trans (congrArg _ ran), ?_, ?_⟩
  · rw [said.rd _ _ (by decide)]
    exact (noted.rd _ _ (by decide)).trans (seen.rd _ _ (by decide))
  · rw [said.timed]
    show List.map (·.at_) ((h.each (h.recsOf c o 2 0) State.journal).tnd.timed ++ [_]) = _
    rw [noted.timed, still]
    rfl

end

end Sys2Proof.Machine
end

section
/-! PROOFS. The Tender's own events: frames that are no request, notifications, time limits, the lock, checkpoints and restarts. -/
namespace Sys2Proof.Machine

theorem Aside.exec {s t : State} (h : Aside s t) : t.tnd.exec = s.tnd.exec := (congrArg (·.tnd.exec) h.rest :)
theorem Aside.spw {s t : State} (h : Aside s t) : t.spw = s.spw := (congrArg State.spw h.rest :)
theorem Aside.restarting {s t : State} (h : Aside s t) : t.tnd.restarting = s.tnd.restarting := (congrArg (·.tnd.restarting) h.rest :)

theorem Sets.inc_one (s : State) (f : Fld) (i n : Nat) : Sets s (s.inc f i n) [(f, i, satAdd f.width (s.rd f i) n)] :=
  Sets.wr_one s f i (Nat.mod_eq_of_lt (satAdd_lt ..))

/-! ### Frames that are no request, and acknowledgements (R450, R466) -/

section
variable {s : State} {seg mac : Nat} {body : List Byte} {bcast : Bool} (ok : frameOk seg mac = true)
include ok

theorem badframe_counts (can : s.canCall (frameFrom seg mac 0) = true) {ether : Nat} (foreign : ether ≠ 0x88B5) :
    Ends (.badframe seg mac ether bcast body) s s [(fTND_ERR_BADFRAME, 0, satAdd fTND_ERR_BADFRAME.width (s.rd fTND_ERR_BADFRAME 0) 1)] := by
  refine ⟨s.inc fTND_ERR_BADFRAME 0, (exec_badframe ok ether).trans ?_, Sets.inc_one ..⟩
  rw [if_neg foreign, if_pos can]

theorem badframe_malformed (can : s.canCall (frameFrom seg mac 0) = true) (parsed : parseBody body = none) :
    Ends (.badframe seg mac 0x88B5 bcast body) s s
      [(fTND_ERR_BADFRAME, 0, satAdd fTND_ERR_BADFRAME.width (s.rd fTND_ERR_BADFRAME 0) 1),
       (fTND_SEG_FRAMES, seg, satAdd fTND_SEG_FRAMES.width (s.rd fTND_SEG_FRAMES seg) 1)] := by
  refine ⟨(s.framed seg).inc fTND_ERR_BADFRAME 0, (exec_badframe ok _).trans ?_, ?_⟩
  · rw [if_pos rfl, State.takeFrame_malformed can parsed]
  · have same : (s.framed seg).rd fTND_ERR_BADFRAME 0 = s.rd fTND_ERR_BADFRAME 0 := State.rd_inc_key _ _ _ _ _ _ (by decide)
    refine (Sets.inc_one s fTND_SEG_FRAMES seg 1).wr fTND_ERR_BADFRAME 0 (v := satAdd fTND_ERR_BADFRAME.width ((s.framed seg).rd fTND_ERR_BADFRAME 0) 1)
      ?_ (by simp only [List.map]; decide)
    rw [same]
    exact Nat.mod_eq_of_lt (satAdd_lt ..)

/-- An acknowledged notification is not sent again. -/
theorem notificationAck_ends {b : Body} (can : s.canCall (frameFrom seg mac 0) = true) (parsed : parseBody body = some b) (ack : b.kind = 4)
    (low : 1 ≤ b.op) (high : b.op ≤ 6) :
    EndsIn (.notificationAck seg mac body) s fun t =>
      ∀ n, n ∈ t.notices ↔ n ∈ s.notices ∧ ¬ (n.tag = b.tag ∧ s.slotMac n.slot = some mac) := by
  refine ⟨_, (exec_notificationAck ok).trans (congrArg _ (State.takeFrame_ack can parsed ack low high)), fun n => ?_⟩
  have seen := s.frameSeen_framed seg mac
  show n ∈ (s.frameSeen seg mac).notices.filter _ ↔ _
  rw [List.mem_filter, seen.notices, seen.slotMac]
  refine and_congr_right fun _ => ?_
  rw [Bool.not_eq_true', Bool.and_eq_false_iff, beq_eq_false_iff_ne, beq_eq_false_iff_ne, ← not_and_or]

end

/-- One notification waits for its acknowledgement. -/
theorem notificationResend_one {s : State} {slot tag : Nat} {n : Notice} (hslot : slot < 64) (htag : tag < 2 ^ 16) (one : s.notices = [n])
    (here : n.slot = slot) (same : n.tag = tag) :
    exec (.notificationResend slot tag) s = .next
      { s.sendAll ((s.slotSegs slot).map fun g => Out.notify g slot n.typ tag n.data) with
        notices := if n.resent < 2 then [{ n with resent := n.resent + 1 }] else [] } := by
  refine (if_pos (decide_eq_true ⟨hslot, htag⟩) : execNotificationResend slot tag s = _).trans ?_
  rw [one]
  simp [here, same]

theorem notificationResend_none {s : State} {slot tag : Nat} (hslot : slot < 64) (htag : tag < 2 ^ 16)
    (none : ∀ n ∈ s.notices, n.slot ≠ slot ∨ n.tag ≠ tag) : exec (.notificationResend slot tag) s = .next s := by
  have unfound : (s.notices.find? fun n => n.slot == slot && n.tag == tag) = Option.none :=
    List.find?_eq_none.2 fun n hn => by
      have := none n hn
      simp only [Bool.and_eq_true, beq_iff_eq]
      omega
  refine (if_pos (decide_eq_true ⟨hslot, htag⟩) : execNotificationResend slot tag s = _).trans ?_
  rw [unfound]

/-! ### Broadcasts, time limits and the lock (R451, R452, R457, R458) -/

section
variable {s : State}

theorem exec_broadcastReply {g mac : Nat} {bs : List Byte} {rest : List (Nat × Nat × List Byte)} (due : s.tnd.bcast = (g, mac, bs) :: rest) :
    exec .broadcastReply s = .next ((s.tndMod fun t => { t with bcast := rest }).sendBack { path := g, mac := mac, port := 0, tag := 0 } bs) := by
  show execBroadcastReply s = _
  unfold execBroadcastReply
  rw [due]

theorem broadcastReply_sends {g mac : Nat} {bs : List Byte} {rest : List (Nat × Nat × List Byte)} (due : s.tnd.bcast = (g, mac, bs) :: rest)
    (hg : g < 2) (heard : s.pwr.silent = false) :
    EndsIn .broadcastReply s fun t => t.tnd.bcast = rest ∧ t.out = .frame g mac bs :: s.out := by
  have back : (s.tndMod fun t => { t with bcast := rest }).sendBack { path := g, mac := mac, port := 0, tag := 0 } bs
      = (s.tndMod fun t => { t with bcast := rest }).send (.frame g mac bs) := by
    exact (if_neg (show ¬ g = 2 by omega)).trans (if_neg (show ¬ s.pwr.silent = true by simp [heard]))
  exact ⟨_, (exec_broadcastReply due).trans (congrArg _ back), rfl, rfl⟩

theorem broadcastReply_idle (none : s.tnd.bcast = []) : exec .broadcastReply s = .next s := by
  show execBroadcastReply s = _
  unfold execBroadcastReply
  rw [none]

theorem exec_commandTimeout {r : Running} (running : s.tnd.exec = some r) :
    exec .commandTimeout s = .next ((((s.runningEffect r).inc fTND_ERR_TIMEOUT 0).pulse 0x1F8).execEnd r 0xD) := by
  show execCommandTimeout s = _
  unfold execCommandTimeout
  rw [running]

theorem commandTimeout_idle (none : s.tnd.exec = none) : exec .commandTimeout s = .next s := by
  show execCommandTimeout s = _
  unfold execCommandTimeout
  rw [none]

/-- A command that ends with an error, has no record and has none waiting behind it. -/
theorem State.execEnd_fails {r : Running} {code : Nat} (error : code ≠ 0) (unrecorded : r.seq = none) (idle : s.tnd.queue = []) :
    s.execEnd r code = (s.tndMod fun t => { t with exec := none, left := 0 }).answer r.cmd code 0 [] := by
  obtain ⟨said, -⟩ := (s.tndMod fun t => { t with exec := none, left := 0 }).answer_aside r.cmd code 0 []
  have fails : (code == 0 && r.cmd.op == 2) = false := by simp [error]
  unfold State.execEnd
  dsimp only
  rw [unrecorded, fails]
  exact State.dictNext_idle (said.queue.trans idle) 32

theorem commandTimeout_ends {r : Running} (running : s.tnd.exec = some r) (ends : r.cmd.hang = false) (unrecorded : r.seq = none)
    (idle : s.tnd.queue = []) :
    EndsIn .commandTimeout s fun t =>
      t.tnd.exec = none ∧ t.rd fTND_ERR_TIMEOUT 0 = satAdd fTND_ERR_TIMEOUT.width (s.rd fTND_ERR_TIMEOUT 0) 1
      ∧ t.spw = (s.pulse 0x1F8).spw := by
  have effect : s.runningEffect r = s := if_pos (by simp [ends])
  let u := ((s.inc fTND_ERR_TIMEOUT 0).pulse 0x1F8).tndMod fun t => { t with exec := none, left := 0 }
  obtain ⟨said, regs⟩ := u.answer_aside r.cmd 0xD 0 []
  have ended : ((s.inc fTND_ERR_TIMEOUT 0).pulse 0x1F8).execEnd r 0xD = u.answer r.cmd 0xD 0 [] :=
    State.execEnd_fails (by decide) unrecorded idle
  refine ⟨u.answer r.cmd 0xD 0 [], (exec_commandTimeout running).trans ?_, said.exec, ?_, said.spw⟩
  · rw [effect, ended]
  · rw [State.rd_congr regs]
    exact State.rd_inc_same ..

theorem domainTransferTimeout_drops {orig : Nat} (horig : orig < 256) :
    EndsIn (.domainTransferTimeout orig) s fun t => t.regs = s.regs ∧ ∀ x, x ∈ t.tnd.xfers ↔ x ∈ s.tnd.xfers ∧ x.orig ≠ orig := by
  refine ⟨s.xferDrop orig, if_pos (decide_eq_true horig), rfl, fun x => ?_⟩
  show x ∈ s.tnd.xfers.filter _ ↔ _
  rw [List.mem_filter, bne_iff_ne]

/-- The lock lapses: it is free, and a record tells of it. -/
theorem lockLapse_frees (held : s.rd fTND_LOCK_HOLDER 0 ≠ 0xFF) :
    EndsIn .lockLapse s fun t => t.rd fTND_LOCK_HOLDER 0 = 0xFF ∧ t.headSeq = (s.headSeq + 1) % 2 ^ 64 := by
  let r : Rec := { index := 0x1202, sub := 1, orig := origTender, old := s.rd fTND_LOCK_HOLDER 0, new := 0xFF }
  have lapsed : exec .lockLapse s = .next ((s.wr fTND_LOCK_HOLDER 0 0xFF).journal r) := congrArg Host.Outcome.next (if_neg held)
  refine ⟨_, lapsed, ?_, ?_⟩
  · rw [((s.wr fTND_LOCK_HOLDER 0 0xFF).journal_aside r).rd _ _ (by decide)]
    exact State.rd_wr_same ..
  · have head : (s.wr fTND_LOCK_HOLDER 0 0xFF).headSeq = s.headSeq := by
      unfold State.headSeq State.rd2
      rw [State.rd_wr_key _ _ _ _ _ _ (by decide), State.rd_wr_key _ _ _ _ _ _ (by decide)]
    rw [State.headSeq_journal, head]

theorem lockLapse_free (free : s.rd fTND_LOCK_HOLDER 0 = 0xFF) : exec .lockLapse s = .next s := congrArg Host.Outcome.next (if_pos free)

end

/-! ### Checkpoints (R464) -/

section
variable {s : State}

theorem checkpointTimer_starts (wanted : s.ckWanted = true) (timed : s.rd fWLG_CTL_CKSEC 0 ≠ 0) : exec .checkpointTimer s = .next s.ckStart :=
  congrArg Host.Outcome.next (if_pos ⟨wanted, timed⟩)

theorem checkpointTimer_idle (idle : s.ckWanted = false ∨ s.rd fWLG_CTL_CKSEC 0 = 0) : exec .checkpointTimer s = .next s := by
  refine congrArg Host.Outcome.next (if_neg ?_)
  rintro ⟨wanted, timed⟩
  rcases idle with h | h
  · simp [h] at wanted
  · exact timed h

theorem checkpointDone_idle (none : s.tnd.ckpt = none) (ok : Bool) : exec (.checkpointDone ok) s = .next s := by
  show execCheckpointDone ok s = _
  unfold execCheckpointDone
  rw [none]

/-- What a checkpoint leaves in flash, or the source that tells of its failure. -/
def State.ckWritten (s : State) (c : Ckpt) (ok : Bool) : State :=
  if ok then ((s.ckptWrite c).wr2 fWLG_CKSEQ_L fWLG_CKSEQ_H 0 c.upto).send
    (.mirror c.flash c.upto (c.upto + 1 - max (s.ckSeq + 1) s.oldestSeq)) else s.pulse 0x1FA

/-- The end of a checkpoint in the registers. -/
def State.ckFiled (s : State) (c : Ckpt) (ok : Bool) : State :=
  (((s.tndMod fun x => { x with ckpt := none }).spiIdle.wrb fWLG_CKSTAT_BUSY 0 false).wr fWLG_CKSTAT_LAST 0 (if ok then 1 else 2)).wr
    fWLG_CKSTAT_FLASH 0 c.flash

theorem State.spiIdle_warmDue (s : State) : s.spiIdle.pwr.warmDue = s.pwr.warmDue := by
  have found (t : State) (d : Nat) : (t.clockFound d).pwr.warmDue = t.pwr.warmDue := by
    unfold State.clockFound
    dsimp only
    split
    · rfl
    · rfl
  have forget (t : State) (d : Nat) : (t.clockForget d).pwr.warmDue = t.pwr.warmDue := by
    unfold State.clockForget
    split
    · rfl
    · dsimp only
      split
      · exact found _ d
      · rfl
  exact (forget _ _).trans (forget _ _)

theorem State.ckWritten_keeps (s : State) (c : Ckpt) (ok : Bool) : Keeps 0x100000100000202 s (s.ckWritten c ok) := by
  unfold State.ckWritten
  split
  · exact State.send_keeps rfl (State.wr2_keeps rfl (State.ckptWrite_keeps rfl (.refl _ _)) rfl rfl)
  · exact State.pulse_keeps rfl (.refl _ _)

theorem State.ckSeq_congr {s t : State} (h : t.regs = s.regs) : t.ckSeq = s.ckSeq := by
  unfold State.ckSeq State.rd2
  rw [State.rd_congr h, State.rd_congr h]

theorem State.ckWritten_ckSeq (s : State) (c : Ckpt) (ok : Bool) : (s.ckWritten c ok).ckSeq = if ok then c.upto % 2 ^ 64 else s.ckSeq := by
  cases ok with
  | false => exact State.ckSeq_congr rfl
  | true =>
    refine (State.ckSeq_congr (s := (s.ckptWrite c).wr2 fWLG_CKSEQ_L fWLG_CKSEQ_H 0 c.upto) rfl).trans ?_
    exact State.rd2_wr2_same _ 0 _ rfl rfl rfl (by decide)

theorem State.ckFiled_tnd (s : State) (c : Ckpt) (ok : Bool) : (s.ckFiled c ok).tnd = { s.tnd with ckpt := none } := by
  have filed : Keeps 0x100004000000240 (s.tndMod fun x => { x with ckpt := none }) (s.ckFiled c ok) :=
    State.wr_keeps (State.wr_keeps (State.wrb_keeps rfl (State.spiIdle_keeps rfl (.refl _ _)) rfl) rfl) rfl
  rw [filed.tnd (by decide)]
  rfl

theorem State.ckFiled_warmDue (s : State) (c : Ckpt) (ok : Bool) : (s.ckFiled c ok).pwr.warmDue = s.pwr.warmDue := by
  unfold State.ckFiled
  rw [State.wr_pwr, State.wr_pwr, State.wrb_pwr, State.spiIdle_warmDue, State.tndMod_pwr]

theorem State.rd_ckFiled (s : State) (c : Ckpt) (ok : Bool) (g : Fld) (i : Nat) (window : windowBit g.key = 56)
    (other : g.key ∉ [fWLG_CKSTAT_BUSY.key, fWLG_CKSTAT_LAST.key, fWLG_CKSTAT_FLASH.key]) : (s.ckFiled c ok).rd g i = s.rd g i := by
  simp only [List.mem_cons, List.not_mem_nil, or_false, not_or] at other
  obtain ⟨busy, last, flash⟩ := other
  have idle : Keeps 0x4000000240 (s.tndMod fun x => { x with ckpt := none }) (s.tndMod fun x => { x with ckpt := none }).spiIdle :=
    State.spiIdle_keeps rfl (.refl _ _)
  unfold State.ckFiled
  rw [State.rd_wr_key _ _ _ _ _ _ (Ne.symm flash), State.rd_wr_key _ _ _ _ _ _ (Ne.symm last), State.rd_wrb_key _ _ _ _ _ _ (Ne.symm busy),
    idle.rd g i (by rw [window]; decide)]
  rfl

theorem State.ckFiled_reads (s : State) (c : Ckpt) (ok : Bool) : (s.ckFiled c ok).rd fWLG_CKSTAT_BUSY 0 = 0
    ∧ (s.ckFiled c ok).rd fWLG_CKSTAT_LAST 0 = (if ok then 1 else 2) ∧ (s.ckFiled c ok).rd fWLG_CKSTAT_FLASH 0 = c.flash % 2 := by
  refine ⟨?_, ?_, State.rd_wr_same ..⟩
  · exact (State.rd_wr_key _ _ _ _ _ _ (by decide)).trans ((State.rd_wr_key _ _ _ _ _ _ (by decide)).trans (State.rd_wr_same ..))
  · refine (State.rd_wr_key _ _ _ _ _ _ (by decide)).trans ((State.rd_wr_same ..).trans ?_)
    cases ok <;> rfl

theorem State.notify_wlg (s : State) (typ detail : Nat) (g : Fld) (i : Nat) (window : windowBit g.key = 56) :
    (s.notify typ detail).rd g i = s.rd g i :=
  Keeps.rd (w := 0x1080000012000002) (State.notify_keeps rfl (.refl _ _)) g i (by rw [window]; decide)

/-- The end of a checkpoint, told to who asked for notifications. -/
def State.ckTold (s : State) (c : Ckpt) (ok : Bool) : State := ((s.ckWritten c ok).ckFiled c ok).notify 6 ((if ok then 1 else 2) * 2 ^ 40)

theorem State.ckTold_keeps (s : State) (c : Ckpt) (ok : Bool) : Keeps 0x1080000012000002 ((s.ckWritten c ok).ckFiled c ok) (s.ckTold c ok) :=
  State.notify_keeps rfl (.refl _ _)

theorem State.ckTold_tnd (s : State) (c : Ckpt) (ok : Bool) : (s.ckTold c ok).tnd = { s.tnd with ckpt := none } := by
  rw [(s.ckTold_keeps c ok).tnd (by decide), State.ckFiled_tnd, (s.ckWritten_keeps c ok).tnd (by decide)]

theorem State.ckTold_warmDue (s : State) (c : Ckpt) (ok : Bool) : (s.ckTold c ok).pwr.warmDue = s.pwr.warmDue := by
  rw [(s.ckTold_keeps c ok).pwr (by decide), State.ckFiled_warmDue, (s.ckWritten_keeps c ok).pwr (by decide)]

/-- After a checkpoint comes the warm reset that waited for it, and the checkpoint that was asked for meanwhile. -/
theorem exec_checkpointDone {c : Ckpt} (ok : Bool) (running : s.tnd.ckpt = some c) :
    exec (.checkpointDone ok) s = .next (
      let t := if (s.ckTold c ok).pwr.warmDue ≠ 0 then (s.ckTold c ok).warmNow ((s.ckTold c ok).pwr.warmDue - 1) else s.ckTold c ok
      if t.tnd.ckAgain then t.ckStart else t) := by
  show execCheckpointDone ok s = _
  unfold execCheckpointDone
  rw [running]
  rfl

/-- A checkpoint that nothing waits for ends. -/
theorem checkpointDone_ends {c : Ckpt} (ok : Bool) (running : s.tnd.ckpt = some c) (alone : s.tnd.ckAgain = false) (cold : s.pwr.warmDue = 0) :
    EndsIn (.checkpointDone ok) s fun t =>
      t.tnd.ckpt = none ∧ t.rd fWLG_CKSTAT_BUSY 0 = 0 ∧ t.rd fWLG_CKSTAT_LAST 0 = (if ok then 1 else 2)
      ∧ t.rd fWLG_CKSTAT_FLASH 0 = c.flash % 2 ∧ t.ckSeq = (if ok then c.upto % 2 ^ 64 else s.ckSeq) := by
  obtain ⟨busy, last, flash⟩ := (s.ckWritten c ok).ckFiled_reads c ok
  refine ⟨s.ckTold c ok, ?_, congrArg TndS.ckpt (s.ckTold_tnd c ok), ?_, ?_, ?_, ?_⟩
  · rw [exec_checkpointDone ok running]
    refine congrArg Host.Outcome.next ?_
    rw [if_neg (not_not.2 ((s.ckTold_warmDue c ok).trans cold)), if_neg (by simp [s.ckTold_tnd, alone])]
  · exact (State.notify_wlg _ _ _ _ _ (by decide)).trans busy
  · exact (State.notify_wlg _ _ _ _ _ (by decide)).trans last
  · exact (State.notify_wlg _ _ _ _ _ (by decide)).trans flash
  · have same (g : Fld) (window : windowBit g.key = 56) (other : g.key ∉ [fWLG_CKSTAT_BUSY.key, fWLG_CKSTAT_LAST.key, fWLG_CKSTAT_FLASH.key]) :
        (s.ckTold c ok).rd g 0 = (s.ckWritten c ok).rd g 0 :=
      (State.notify_wlg _ _ _ _ _ window).trans (State.rd_ckFiled _ _ _ _ _ window other)
    rw [← State.ckWritten_ckSeq]
    unfold State.ckSeq State.rd2
    rw [same fWLG_CKSEQ_L (by decide) (by decide), same fWLG_CKSEQ_H (by decide) (by decide)]

end

/-! ### Restarts of the Tender (R465, R479) -/

section
variable {s : State}

/-- A restart while no command is in flight. -/
theorem State.tenderRestart_idle (idle : s.tnd.exec = none) :
    s.tenderRestart = ((s.inc fTND_ERR_MISMATCH 0).wrb fTND_STAT_RESTARTED 0 true).tndMod fun t =>
      { t with exec := none, queue := [], xfers := [], bcast := [], restarting := true, broken := 0, left := 0 } := by
  unfold State.tenderRestart
  dsimp only
  rw [show ((s.inc fTND_ERR_MISMATCH 0).wrb fTND_STAT_RESTARTED 0 true).tnd.exec = none from idle]

/-- The firmware that runs after a restart: in a trial the one that was kept. -/
def State.trialBack (s : State) : State :=
  s.when_ s.boot.trial.isSome fun s =>
    ((s.wr fBOOT_STAT_RUNFW 0 (s.boot.trial.getD 2)).wr fBOOT_STAT_FWSTATE 0 4).bootMod fun x => { x with trial := none }

theorem State.trialBack_none (kept : s.boot.trial = none) : s.trialBack = s := by
  unfold State.trialBack State.when_
  rw [kept]
  exact if_neg Bool.false_ne_true

theorem State.trialBack_some {k : Nat} (trial : s.boot.trial = some k) :
    s.trialBack = ((s.wr fBOOT_STAT_RUNFW 0 k).wr fBOOT_STAT_FWSTATE 0 4).bootMod fun x => { x with trial := none } := by
  refine (if_pos (by rw [trial]; rfl)).trans ?_
  show ((s.wr fBOOT_STAT_RUNFW 0 (s.boot.trial.getD 2)).wr fBOOT_STAT_FWSTATE 0 4).bootMod _ = _
  rw [trial]
  rfl

theorem exec_tenderRestart (up : s.pwr.sram = true) (running : s.tnd.restarting = false) :
    exec .tenderRestart s = .next (s.trialBack.pulse 0x1F9).tenderRestart :=
  congrArg Host.Outcome.next (if_neg (by simp [up, running]))

theorem tenderRestart_ends (up : s.pwr.sram = true) (running : s.tnd.restarting = false) (kept : s.boot.trial = none) (idle : s.tnd.exec = none) :
    EndsIn .tenderRestart s fun t =>
      t.tnd.restarting = true ∧ t.tnd.queue = [] ∧ t.tnd.xfers = [] ∧ t.rd fTND_STAT_RESTARTED 0 = 1
      ∧ t.rd fTND_ERR_MISMATCH 0 = satAdd fTND_ERR_MISMATCH.width (s.rd fTND_ERR_MISMATCH 0) 1 ∧ t.spw = (s.pulse 0x1F9).spw := by
  refine ⟨(s.pulse 0x1F9).tenderRestart, ?_, ?_⟩
  · rw [exec_tenderRestart up running, State.trialBack_none kept]
  · rw [State.tenderRestart_idle (s := s.pulse 0x1F9) idle]
    exact ⟨rfl, rfl, rfl, State.rd_wr_same .., (State.rd_wrb_key _ _ _ _ _ _ (by decide)).trans (State.rd_inc_same ..), rfl⟩

/-- In a trial the firmware that was kept runs again. -/
theorem tenderRestart_returns {k : Nat} (up : s.pwr.sram = true) (running : s.tnd.restarting = false) (trial : s.boot.trial = some k) (hk : k < 4)
    (idle : s.tnd.exec = none) :
    EndsIn .tenderRestart s fun t =>
      t.tnd.restarting = true ∧ t.boot.trial = none ∧ t.rd fBOOT_STAT_RUNFW 0 = k ∧ t.rd fBOOT_STAT_FWSTATE 0 = 4 := by
  let u := (((s.wr fBOOT_STAT_RUNFW 0 k).wr fBOOT_STAT_FWSTATE 0 4).bootMod fun x => { x with trial := none }).pulse 0x1F9
  refine ⟨u.tenderRestart, ?_, ?_⟩
  · rw [exec_tenderRestart up running, State.trialBack_some trial]
  · rw [State.tenderRestart_idle (s := u) idle]
    have other (g : Fld) (mismatch : fTND_ERR_MISMATCH.key ≠ g.key) (restarted : fTND_STAT_RESTARTED.key ≠ g.key) :
        (((u.inc fTND_ERR_MISMATCH 0).wrb fTND_STAT_RESTARTED 0 true).tndMod fun t =>
          { t with exec := none, queue := [], xfers := [], bcast := [], restarting := true, broken := 0, left := 0 }).rd g 0 = u.rd g 0 :=
      (State.rd_wrb_key _ _ _ _ _ _ restarted).trans (State.rd_inc_key _ _ _ _ _ _ mismatch)
    refine ⟨rfl, rfl, (other _ (by decide) (by decide)).trans ?_, (other _ (by decide) (by decide)).trans (State.rd_wr_same ..)⟩
    exact (State.rd_wr_key _ _ _ _ _ _ (by decide)).trans ((State.rd_wr_same ..).trans (Nat.mod_eq_of_lt hk))

theorem tenderRestart_ignored (idle : s.pwr.sram = false ∨ s.tnd.restarting = true) : exec .tenderRestart s = .next s := by
  refine congrArg Host.Outcome.next (if_pos ?_)
  rcases idle with down | restarting
  · exact .inl (by simp [down])
  · exact .inr restarting

/-! ### The dumps that start again leave the Tender running -/

theorem Keeps.restarting {w : Nat} {z s : State} (h : Keeps w z s) (hw : w.testBit 24 = false) : s.tnd.restarting = z.tnd.restarting :=
  congrArg TndS.restarting (h.tnd hw)

theorem State.denyParts_restarting (s : State) (g : Nat) (m : Msg) (ps : List (Nat × Nat × Nat × Option Nat)) (dict : Bool) :
    (s.denyParts g m ps dict).tnd.restarting = s.tnd.restarting := by
  have marked (t : State) : (t.debugMark m).tnd.restarting = t.tnd.restarting := by
    unfold State.debugMark
    split
    · rfl
    · rfl
  refine State.each_induct (fun t => t.tnd.restarting = s.tnd.restarting) (fun t p ht => ?_) rfl
  obtain ⟨k, n, v, r⟩ := p
  dsimp -zeta only
  extract_lets denied told mark part
  have hDenied : denied.tnd.restarting = s.tnd.restarting :=
    (Keeps.restarting (w := 0x800000000200) (State.chkDeny_keeps rfl (.refl _ _)) (by decide)).trans ht
  have hTold : told.tnd.restarting = s.tnd.restarting := by
    unfold told
    split
    · exact (Keeps.restarting (w := 0x800000000200) (State.debugDenied_keeps rfl (.refl _ _)) (by decide)).trans hDenied
    · exact hDenied
  have hMark : mark.tnd.restarting = s.tnd.restarting := by
    unfold mark State.when_
    split
    · exact (marked _).trans hTold
    · exact hTold
  split
  · exact (Keeps.restarting (w := 0x400) (State.countMsg_keeps rfl (.refl _ _)) (by decide)).trans hMark
  · exact (Keeps.restarting (w := 0x400) (State.countMsg_keeps rfl (.refl _ _)) (by decide)).trans hMark

theorem State.dumpWrite_restarting (s : State) (r b a data : Nat) : (s.dumpWrite r b a data).2.tnd.restarting = s.tnd.restarting := by
  unfold State.dumpWrite
  dsimp -zeta only
  split
  · extract_lets p
    split
    · exact Keeps.restarting (w := 0x108850a81200a602) (State.tenderSend_keeps rfl (.refl _ _)) (by decide)
    · rfl
  · extract_lets sh m
    have checked : (s.innerCheck false m 64 true).2.tnd.restarting = s.tnd.restarting := s.denyParts_restarting ..
    generalize s.innerCheck false m 64 true = u at checked ⊢
    obtain ⟨v, u⟩ := u
    refine Eq.trans ?_ checked
    dsimp only
    split
    · rfl
    · split
      · split
        · split
          · rfl
          · exact Keeps.restarting (w := 0x108850a81200a602) (State.inject_keeps rfl (.refl _ _)) (by decide)
        · rfl
      · exact Keeps.restarting (w := 0x200000008602) (State.xltDeny_keeps rfl (.refl _ _)) (by decide)
      · rfl

theorem State.dumpLines_restarting (s : State) (r : Nat) (d : Dump) (n : Snap) (is : List Nat) :
    (s.dumpLines r d n is).2.tnd.restarting = s.tnd.restarting := by
  have lines (base : Nat) (st : Bool × State) : (is.foldl (fun st i =>
      if st.1 then st.2.dumpWrite r d.bank (base + 64 * i) (s.dumpLine r d.seq n i) else st) st).2.tnd.restarting = st.2.tnd.restarting := by
    induction is generalizing st with
    | nil => rfl
    | cons i is ih =>
      refine (ih _).trans ?_
      dsimp only
      split
      · exact State.dumpWrite_restarting ..
      · rfl
  unfold State.dumpLines
  dsimp -zeta only
  extract_lets base
  have written := lines base (true, s)
  generalize is.foldl _ (true, s) = u at written ⊢
  obtain ⟨ok, u⟩ := u
  refine Eq.trans ?_ written
  dsimp only
  split
  · exact Keeps.restarting (w := 0x108850a81200a602) (State.tenderSend_keeps rfl (.refl _ _)) (by decide)
  · rfl

theorem State.dumpFail_restarting (s : State) (r : Nat) : (s.dumpFail r).tnd.restarting = s.tnd.restarting :=
  Keeps.restarting (w := 0x40000000000600) (State.dumpFail_keeps rfl (.refl _ _)) (by decide)

/-- A dump fails where one of its lines cannot be written. -/
def State.dumpOk (r : Nat) (u : Bool × State) : State := if u.1 then u.2 else u.2.dumpFail r

theorem State.dumpOk_restarting (r : Nat) (u : Bool × State) : (State.dumpOk r u).tnd.restarting = u.2.tnd.restarting := by
  unfold State.dumpOk
  split
  · rfl
  · exact State.dumpFail_restarting _ r

theorem State.setDump_restarting (s : State) (r : Nat) (d : Option Dump) : (s.setDump r d).tnd.restarting = s.tnd.restarting :=
  Keeps.restarting (w := 0x400) (State.setDump_keeps rfl (.refl _ _)) (by decide)

/-- The dump that a start enters into its ring. -/
def State.dumpNumbered (s : State) (r : Nat) (d : Dump) : State := (s.wr2 fFLM_RING_RINGSEQ_L fFLM_RING_RINGSEQ_H r d.seq).setDump r (some d)

theorem State.dumpStart_runs {s : State} {b : Nat} {n : Snap} (r : Nat) (late : Bool) (full : s.bank b = some n) :
    ∃ d, s.dumpStart r b late = State.dumpOk r ((s.dumpNumbered r d).dumpLines r d n bodyLines) := by
  refine ⟨{ bank := b, seq := s.rd2 fFLM_RING_RINGSEQ_L fFLM_RING_RINGSEQ_H r + 1, late := late }, ?_⟩
  unfold State.dumpStart
  rw [full]
  rfl

theorem State.dumpStart_restarting (s : State) (r b : Nat) (late : Bool) : (s.dumpStart r b late).tnd.restarting = s.tnd.restarting := by
  cases full : s.bank b with
  | none =>
    unfold State.dumpStart
    rw [full]
  | some n =>
    obtain ⟨d, run⟩ := State.dumpStart_runs r late full
    rw [run, State.dumpOk_restarting, State.dumpLines_restarting]
    exact State.setDump_restarting ..

theorem State.dumpAgain_runs {s : State} {r : Nat} {d : Dump} {n : Snap} (on : s.dumpOn r = some d) (full : s.bank d.bank = some n) :
    s.dumpAgain r = State.dumpOk r ((s.setDump r (some { d with body := false })).dumpLines r { d with body := false } n bodyLines) := by
  unfold State.dumpAgain
  rw [on]
  dsimp only
  rw [full]
  rfl

theorem State.dumpAgain_restarting (s : State) (r : Nat) : (s.dumpAgain r).tnd.restarting = s.tnd.restarting := by
  cases on : s.dumpOn r with
  | none =>
    unfold State.dumpAgain
    rw [on]
  | some d =>
    cases full : s.bank d.bank with
    | none =>
      unfold State.dumpAgain
      rw [on]
      dsimp only
      rw [full]
    | some n => rw [State.dumpAgain_runs on full, State.dumpOk_restarting, State.dumpLines_restarting, State.setDump_restarting]

theorem State.dumpPump_restarting (k : Nat) (s : State) : (State.dumpPump k s).tnd.restarting = s.tnd.restarting := by
  induction k generalizing s with
  | zero => rfl
  | succ k ih =>
    unfold State.dumpPump
    split
    · rfl
    · exact (ih _).trans (State.dumpStart_restarting ..)

theorem State.banksSettle_keeps_flm (s : State) : Keeps 0x40000000000400 s s.banksSettle := State.banksSettle_keeps rfl (.refl _ _)

theorem State.dumpsGo_restarting (s : State) : s.dumpsGo.tnd.restarting = s.tnd.restarting :=
  ((State.banksSettle_keeps_flm _).restarting (by decide)).trans (State.dumpPump_restarting ..)

/-! ### The Tender runs again (R465) -/

/-- The Tender runs again, and the restart is in the Waterlog. -/
def State.restarted (s : State) : State :=
  (s.tndMod fun x => { x with restarting := false, broken := 0 }).journal
    { index := 0, sub := 1, orig := origTender, old := s.tnd.broken % 2 ^ 32 }

theorem State.restarted_restarting (s : State) : s.restarted.tnd.restarting = false := ((s.tndMod _).journal_aside _).restarting

theorem State.restarted_flm (s : State) : s.restarted.flm = s.flm := by
  have noted := ((s.tndMod fun x => { x with restarting := false, broken := 0 }).journal_aside
    { index := 0, sub := 1, orig := origTender, old := s.tnd.broken % 2 ^ 32 }).rest
  exact (congrArg State.flm noted :)

theorem exec_tenderRestartDone {s : State} (restarting : s.tnd.restarting = true) :
    exec .tenderRestartDone s = .next ((s.restarted.dumpAgain 0).dumpAgain 1).dumpsGo := congrArg Host.Outcome.next (if_pos restarting)

theorem tenderRestartDone_runs {s : State} (restarting : s.tnd.restarting = true) :
    EndsIn .tenderRestartDone s fun t => t.tnd.restarting = false := by
  refine ⟨_, exec_tenderRestartDone restarting, ?_⟩
  show (((s.restarted.dumpAgain 0).dumpAgain 1).dumpsGo).tnd.restarting = false
  rw [State.dumpsGo_restarting, State.dumpAgain_restarting, State.dumpAgain_restarting, State.restarted_restarting]

/-- Where no dump is under way and none waits, the restart leaves its record alone. -/
theorem tenderRestartDone_records {s : State} (restarting : s.tnd.restarting = true) (none0 : s.flm.dump0 = none) (none1 : s.flm.dump1 = none)
    (none : s.flm.waits = []) :
    EndsIn .tenderRestartDone s fun t => t.tnd.restarting = false ∧ t.headSeq = (s.headSeq + 1) % 2 ^ 64 := by
  have flm : s.restarted.flm = s.flm := s.restarted_flm
  have again0 : s.restarted.dumpAgain 0 = s.restarted := by
    unfold State.dumpAgain State.dumpOn
    rw [if_pos rfl, flm, none0]
  have again1 : s.restarted.dumpAgain 1 = s.restarted := by
    unfold State.dumpAgain State.dumpOn
    rw [if_neg (by decide), flm, none1]
  have go : s.restarted.dumpsGo = s.restarted.banksSettle := by
    unfold State.dumpsGo
    rw [flm, none]
    rfl
  refine ⟨s.restarted.banksSettle, ?_, ?_, ?_⟩
  · rw [exec_tenderRestartDone restarting, again0, again1, go]
  · rw [(State.banksSettle_keeps_flm _).restarting (by decide), State.restarted_restarting]
  · have head : s.restarted.banksSettle.headSeq = s.restarted.headSeq := by
      unfold State.headSeq State.rd2
      rw [(State.banksSettle_keeps_flm _).rd _ _ (by decide), (State.banksSettle_keeps_flm _).rd _ _ (by decide)]
    exact head.trans (State.headSeq_journal ..)

theorem tenderRestartDone_idle {s : State} (running : s.tnd.restarting = false) : exec .tenderRestartDone s = .next s :=
  congrArg Host.Outcome.next (if_neg (by simp [running]))

end

/-! ### All of them -/

theorem checkpointTimer_begins {s : State} (wanted : s.ckWanted = true) (timed : s.rd fWLG_CTL_CKSEC 0 ≠ 0) (idle : s.tnd.ckpt = none) :
    EndsIn .checkpointTimer s fun t =>
      t.tnd.ckpt = some { flash := s.tnd.ckFlash, upto := s.headSeq - 1 } ∧ t.rd fWLG_CKSTAT_BUSY 0 = 1 := by
  refine ⟨_, (checkpointTimer_starts wanted timed).trans (congrArg _ (State.ckStart_idle idle)), rfl, ?_⟩
  exact State.rd_wr_same ..

/-- The frames of the segment, each by the one frame operation. -/
theorem frames_taken {s : State} {seg mac : Nat} {bcast : Bool} {body : List Byte} {good hang : Bool} (ok : frameOk seg mac = true) :
    exec (.dictRead seg mac bcast body hang) s = .next (s.takeFrame seg mac bcast body true hang)
    ∧ exec (.dictWrite seg mac bcast body good hang) s = .next (s.takeFrame seg mac bcast body good hang)
    ∧ exec (.notificationAck seg mac body) s = .next (s.takeFrame seg mac false body true false)
    ∧ exec (.badframe seg mac 0x88B5 bcast body) s = .next (s.takeFrame seg mac bcast body true false) :=
  ⟨exec_dictRead ok, exec_dictWrite ok, exec_notificationAck ok, (exec_badframe ok _).trans (congrArg _ (if_pos rfl))⟩

/-- A frame of no caller does nothing. -/
theorem frames_shut {s : State} {seg mac : Nat} {body : List Byte} (ok : frameOk seg mac = true)
    (shut : s.canCall (frameFrom seg mac 0) = false) :
    exec (.dictRead seg mac false body false) s = .next s ∧ exec (.notificationAck seg mac body) s = .next s :=
  ⟨(exec_dictRead ok).trans (congrArg _ (State.takeFrame_shut shut)), (exec_notificationAck ok).trans (congrArg _ (State.takeFrame_shut shut))⟩

theorem badframe_shut {s : State} {seg mac ether : Nat} {bcast : Bool} {body : List Byte} (ok : frameOk seg mac = true) (foreign : ether ≠ 0x88B5)
    (shut : s.canCall (frameFrom seg mac 0) = false) : exec (.badframe seg mac ether bcast body) s = .next s := by
  rw [exec_badframe ok, if_neg foreign, if_neg (by simp [shut])]

/-- A notification is sent twice more, then it is given up. -/
theorem notificationResend_ends {s : State} {slot tag : Nat} {n : Notice} (hslot : slot < 64) (htag : tag < 2 ^ 16) (one : s.notices = [n])
    (here : n.slot = slot) (same : n.tag = tag) :
    (n.resent < 2 → EndsIn (.notificationResend slot tag) s fun t => t.notices = [{ n with resent := n.resent + 1 }])
    ∧ (2 ≤ n.resent → EndsIn (.notificationResend slot tag) s fun t => t.notices = [])
    ∧ (s.slotSegs slot = [0] →
      EndsIn (.notificationResend slot tag) s fun t => t.out = .notify 0 slot n.typ tag n.data :: s.out ∧ t.regs = s.regs) := by
  have run := notificationResend_one hslot htag one here same
  refine ⟨fun few => ⟨_, run, if_pos few⟩, fun many => ⟨_, run, if_neg (by omega)⟩, fun seg => ⟨_, run, ?_⟩⟩
  rw [seg]
  exact ⟨rfl, rfl⟩

/-- Settles O55: the frames by the dictionary's operation on them, the Tender's events each by its branch of the state. -/
theorem dictionaryRequests : Obligations.DictionaryRequests := by
  unfold Obligations.DictionaryRequests
  refine ⟨fun _ _ _ _ _ ok parsed request own _ op index sub offset serves heard =>
      dictRead_devstate ok parsed request own op index sub offset serves heard,
    fun _ _ _ _ _ _ _ ok => frames_taken ok, fun _ _ _ _ _ _ ok foreign shut => badframe_shut ok foreign shut,
    fun _ _ _ _ _ _ _ ok parsed request own single op index sub offset data low high serves =>
      ⟨dictWrite_nodecnt_now ok parsed request own single op index sub offset data low high serves,
       dictWrite_nodecnt_timed ok parsed request own single op index sub offset data low high serves⟩,
    fun _ _ _ _ ok shut => frames_shut ok shut,
    fun _ _ _ _ _ _ ok can => ⟨fun foreign => badframe_counts ok can foreign, fun own parsed => own ▸ badframe_malformed ok can parsed⟩,
    fun _ _ _ _ _ ok can parsed ack low high => notificationAck_ends ok can parsed ack low high,
    fun _ _ _ _ hslot htag one here same => notificationResend_ends hslot htag one here same,
    fun _ _ _ hslot htag none => notificationResend_none hslot htag none,
    fun _ _ _ _ _ due => exec_broadcastReply due, fun _ _ _ _ _ due hg heard => broadcastReply_sends due hg heard,
    fun _ none => broadcastReply_idle none, fun _ _ running ends unrecorded idle => commandTimeout_ends running ends unrecorded idle,
    fun _ _ running => exec_commandTimeout running, fun _ none => commandTimeout_idle none,
    fun _ _ horig => domainTransferTimeout_drops horig, fun _ held => lockLapse_frees held, fun _ free => lockLapse_free free,
    fun _ wanted timed idle => checkpointTimer_begins wanted timed idle, fun _ wanted timed => checkpointTimer_starts wanted timed,
    fun _ idle => checkpointTimer_idle idle, fun _ _ ok running alone cold => checkpointDone_ends ok running alone cold,
    fun _ ok none => checkpointDone_idle none ok, fun _ up running kept idle => tenderRestart_ends up running kept idle,
    fun _ _ up running trial hk idle => tenderRestart_returns up running trial hk idle, fun _ idle => tenderRestart_ignored idle,
    fun _ restarting => tenderRestartDone_runs restarting,
    fun _ restarting none0 none1 none => tenderRestartDone_records restarting none0 none1 none,
    fun _ running => tenderRestartDone_idle running⟩

end Sys2Proof.Machine
end

section
/-! PROOFS. What traffic keeps: a predicate of the state that outputs, the counts of what is lost, the waking of a port and the events of a
bridge leave true outlives whatever is queued, delivered, lost or answered, and so the loss of a link and a slot's power going off. -/
namespace Sys2Proof.Machine

/-- Every part of the state but what has been sent, the ports beside their registers, and the PRT window. -/
def quietParts : Nat := 2 ^ 64 - 1 - 2 ^ 1 - 2 ^ 22 - 2 ^ 44

/-- The PRT fields that count and name what is lost at a port, and that show its slot's power. -/
def lossFields : List Fld :=
  [fPRT_ERR_LINKDOWN, fPRT_ERR_LOSTPOST, fPRT_ERR_LOSTWR, fPRT_LOSTADDR_L_ADDR_L, fPRT_LOSTADDR_H_ADDR_H, fPRT_SLOTSTAT_POWERED]

/-- Every step that traffic consists of keeps `P`. -/
structure Traffic (P : State → Prop) : Prop where
  quiet : ∀ {s t : State}, P s → Keeps quietParts s t → P t
  send : ∀ {s : State} (o : Out), P s → P (s.send o)
  loss : ∀ {s : State} (f : Fld) (i v : Nat), f.key ∈ lossFields.map Fld.key → P s → P (s.wr f i v)
  wake : ∀ {s : State} (e : Nat), P s → P (s.wakePort e)
  event : ∀ {s : State} (b n : Nat), P s → P (s.bridgeEvent b n)

/-- The LEAT fields that a unit sent writes. -/
def sentFields : List Fld := [fLEAT_TXSEQ_NEXT, fLEAT_REPLAY_OCC, fLEAT_CRUSED_VALUE]

/-- Every step that the sending of units on a link consists of keeps `P`. -/
structure Units (P : State → Prop) : Prop where
  link : ∀ {s : State} (k : Nat) (f : Leat → Leat), P s → P (s.lkMod k f)
  flow : ∀ {s : State} (k : Nat) (m : Msg), P s → P (s.flowOn k m)
  send : ∀ {s : State} (o : Out), P s → P (s.send o)
  sent : ∀ {s : State} (f : Fld) (i v : Nat), f.key ∈ sentFields.map Fld.key → P s → P (s.wr f i v)

namespace Units

section
variable {P : State → Prop} (h : Units P) {s : State}
include h

theorem trailer (k seq : Nat) (seqv : Bool) (hs : P s) : P (s.trailer k seq seqv).2 := h.link k _ hs

theorem emit (k : Nat) (u : TxUnit) (hs : P s) : P (s.emit k u) :=
  foldl_keeps P (fun _ o ht => h.send o ht) (h.send _ (h.link k _ (h.trailer k u.seq true hs)))

theorem newUnit (k : Nat) (u : TxUnit) (hs : P s) : P (s.newUnit k u) :=
  h.sent _ _ _ (by decide) (h.emit k _ (h.sent _ _ _ (by decide) (h.link k _ hs)))

theorem dataUnit (k v : Nat) (u : TxUnit) (hs : P s) : P (s.dataUnit k v u) := by
  refine State.each_induct P (fun _ m ht => h.flow k m ht) ?_
  exact h.link k _ (h.sent _ _ _ (by decide) (h.newUnit k u hs))

theorem unitSlot (k : Nat) {t : State} (used : s.unitSlot k = some t) (hs : P s) : P t := by
  unfold State.unitSlot at used
  split at used
  · exact absurd used nofun
  · split at used
    · rw [← Option.some.inj used]
      exact h.newUnit k _ (h.link k _ hs)
    · split at used
      · exact absurd used nofun
      · split at used
        · exact absurd used nofun
        · rw [← Option.some.inj used]
          exact h.dataUnit k _ _ (h.link k _ (h.link k _ hs))

theorem unitSlots (n : Nat) (sent : Bool) (k : Nat) (hs : P s) : P (State.unitSlots n sent k s) := by
  induction n generalizing sent s with
  | zero => exact hs
  | succ n ih =>
    unfold State.unitSlots
    split
    next used => exact ih true (h.unitSlot k used hs)
    · split
      · exact h.send _ (h.link k _ hs)
      · exact hs

theorem linkGo (k : Nat) (sent : Bool) (hs : P s) : P (s.linkGo k sent) := by
  unfold State.linkGo
  dsimp only
  split
  · exact h.unitSlots _ _ _ hs
  · exact hs

end

end Units

/-- The record of port `p`'s margining dropped, and the adaptation of its receivers kept. -/
def State.marginDropped (s : State) (p : Nat) : State :=
  (s.each (s.portLanes p) State.adaptKeep).portMod p fun x => { x with margin := none, marginNak := none, precode := false }

/-- Port `p` as its link falls, before its status does. -/
def State.linkHalted (s : State) (p : Nat) : State := s.when_ (s.dlUp p) fun s => s.marginDropped p

/-- Port `p` as its link falls: the fields of the link are back at Reset, and it is in LTSSM state `st`. -/
def State.linkFall (s : State) (p st : Nat) : State := ((s.linkHalted p).each linkFields fun s f => s.clr1 f p).wr fPRT_PORTSTAT_LTSSM p st

namespace Traffic

section
variable {P : State → Prop} (h : Traffic P) {s : State}

theorem when {f : State → State} (b : Bool) (hs : P s) (hf : ∀ {t}, P t → P (f t)) : P (s.when_ b f) := by
  unfold State.when_
  split
  · exact hf hs
  · exact hs

theorem ite {c : Prop} [Decidable c] {t : State} (hs : P s) (ht : P t) : P (if c then s else t) := by
  split
  · exact hs
  · exact ht

/-- The state of a pair, once the pair is known. -/
theorem snd_eq {α : Type} {d : α × State} {a : α} (hd : P d.2) (e : d = (a, s)) : P s := by
  subst e
  exact hd

include h

theorem sendAll (os : List Out) (hs : P s) : P (s.sendAll os) := foldl_keeps P (fun _ o ht => h.send o ht) hs

/-! ### Notifications and credits -/

theorem msiPf (p vec : Nat) (hs : P s) : P (s.msiPf p vec) :=
  ite (h.quiet hs (State.setBit_keeps rfl (.refl _ _) rfl)) (h.send _ hs)

theorem notify (typ detail : Nat) (hs : P s) : P (s.notify typ detail) := by
  unfold State.notify
  extract_lets data slots told shown
  have hTold : P told := State.each_induct P (fun t n ht => by
    refine h.quiet (h.sendAll _ (h.quiet ht (Keeps.set_notices rfl (.refl _ _)))) (Keeps.set_noticeTag rfl (.refl _ _))) hs
  have hShown : P shown := h.quiet hTold (State.putb_keeps rfl (.refl _ _) rfl)
  exact ite (h.msiPf _ _ hShown) hShown

theorem telNotify (hs : P s) : P s.telNotify := by
  unfold State.telNotify
  split
  · exact hs
  · exact ite (h.quiet (h.notify _ _ hs) (Keeps.set_swc rfl (.refl _ _))) hs

theorem telWatch (i : Nat) (hs : P s) : P (s.telWatch i) := by
  unfold State.telWatch
  extract_lets lvl up first swc crossed counted
  have hCounted : P counted := h.quiet hs (State.inc_keeps rfl (State.setBit_keeps rfl (Keeps.set_swc rfl (.refl _ _)) rfl) rfl)
  exact ite hs (ite (ite (h.telNotify hCounted) hCounted) (h.quiet hs (Keeps.set_swc rfl (.refl _ _))))

theorem eqAdd (e t n : Nat) (hs : P s) : P (s.eqAdd e t n) := h.telWatch _ (h.quiet hs (State.wr_keeps (.refl _ _) rfl))

theorem eqSub (e t n : Nat) (hs : P s) : P (s.eqSub e t n) := h.telWatch _ (h.quiet hs (State.wr_keeps (.refl _ _) rfl))

theorem retCredit (c : Credit) (hs : P s) : P (s.retCredit c) :=
  ite (h.send _ hs) (ite (h.quiet hs (State.leatGrant_keeps rfl (.refl _ _))) hs)

theorem retCredits (hs : P s) : P s.retCredits :=
  State.each_induct P (fun _ c ht => h.retCredit c ht) (h.quiet hs (Keeps.set_swc rfl (.refl _ _)))

/-! ### Messages stored and dropped -/

theorem store (x : Nat) (m : Msg) (whole : Bool) (egs : List Nat) (charge credits : Nat) (hold : Bool) (hs : P s) :
    P (s.store x m whole egs charge credits hold) := by
  unfold State.store
  extract_lets eg refs n
  generalize s.admitCells x m.tc n m.grp (if refs = 1 then some eg else none) = admitted
  obtain ⟨place, keep⟩ := admitted
  dsimp -zeta only
  extract_lets placed d entered held taken c
  have hEntered : P entered := h.quiet hs (Keeps.set_swc rfl (.refl _ _))
  have hHeld : P held := by
    unfold held
    generalize placed = kind
    split
    · exact h.quiet hEntered (State.occAdd_keeps rfl (.refl _ _))
    · exact h.quiet hEntered (State.wr_keeps (.refl _ _) rfl)
    · exact h.quiet hEntered (State.wr_keeps (.refl _ _) rfl)
    · exact hEntered
  have hTaken : P taken := h.quiet hHeld (State.takeCells_keeps rfl (.refl _ _))
  exact ite hTaken (ite (h.quiet hTaken (Keeps.set_swc rfl (.refl _ _))) (h.retCredit _ hTaken))

theorem unplace (d : Stored) (hs : P s) : P (s.unplace d) := by
  have gone : P { s with swc := { s.swc with msgs := s.swc.msgs.filter fun e => e.id != d.id } } := h.quiet hs (Keeps.set_swc rfl (.refl _ _))
  unfold State.unplace
  dsimp only
  split
  · exact h.quiet gone (State.occSub_keeps rfl (.refl _ _))
  · exact h.retCredit _ (h.quiet gone (State.wr_keeps (.refl _ _) rfl))
  · exact h.quiet gone (State.wr_keeps (.refl _ _) rfl)
  · exact h.quiet gone (Keeps.set_swc rfl (.refl _ _))

theorem unstore (d : Stored) (hs : P s) : P (s.unstore d) :=
  h.retCredits (h.quiet (h.unplace d hs) (State.giveCells_keeps rfl (.refl _ _)))

theorem dropRef (id : Nat) (hs : P s) : P (s.dropRef id) := by
  unfold State.dropRef
  split
  · exact hs
  · exact ite (h.unstore _ hs) (h.quiet hs (State.storedMod_keeps rfl (.refl _ _)))

theorem copyGone (d : Stored) (e : Nat) (hs : P s) : P (s.copyGone d e) := h.dropRef _ (h.eqSub _ _ _ hs)

theorem truncateAt (d : Stored) (e : Nat) (hs : P s) : P (s.truncateAt d e) := by
  unfold State.truncateAt
  split
  · refine h.copyGone d e (h.quiet (h.send _ ?_) (State.tdResolve_keeps rfl (.refl _ _)))
    exact h.quiet hs (State.inc_keeps rfl (Keeps.set_swc rfl (.refl _ _)) rfl)
  · exact ite (h.copyGone d e (h.quiet hs (State.setQueue_keeps rfl (.refl _ _)))) hs

theorem truncate (x : Nat) (hs : P s) : P (s.truncate x) :=
  State.each_induct P (fun _ d ht => ite (h.unstore d (h.quiet ht (State.setHeld_keeps rfl (.refl _ _))))
    (State.each_induct P (fun _ e hu => h.truncateAt d e hu) ht)) hs

/-! ### Answers for what is lost -/

theorem answering (m : Msg) {f : State → State} (hf : ∀ {t}, P t → P (f t)) (hs : P s) : P (s.answering m f) := by
  have done (a : Asked) : P (s.askedDone a) := h.quiet hs (State.askedDone_keeps rfl (.refl _ _))
  unfold State.answering
  split
  · exact hf hs
  · exact ite (done _) (hf (done _))

theorem reply (m : Msg) (status : CplStatus) (poison : Bool) (hs : P s) : P (s.reply m status poison) :=
  ite hs (h.answering _ (fun ht => h.send _ ht) hs)

theorem lostAtPort (p : Nat) (m : Msg) (hs : P s) : P (s.lostAtPort p m) := by
  unfold State.lostAtPort
  split
  · exact h.reply _ _ _ hs
  · exact h.loss _ _ _ (by decide) hs
  · exact h.reply _ _ _ hs
  · refine h.reply _ _ _ (h.quiet ?_ (State.pulse_keeps rfl (.refl _ _)))
    exact h.loss _ _ _ (by decide) (h.loss _ _ _ (by decide) (h.loss _ _ _ (by decide) hs))
  · exact hs

theorem lostAtLink (k : Nat) (m : Msg) (hs : P s) : P (s.lostAtLink k m) := by
  unfold State.lostAtLink
  split
  · refine h.reply _ _ _ (h.quiet hs ?_)
    exact State.pulse_keeps rfl (State.wr2_keeps rfl (State.wrb_keeps rfl (.refl _ _) rfl) rfl rfl)
  · exact h.reply _ _ _ hs
  · exact ite (h.reply _ _ _ hs) (h.reply _ _ _ hs)
  · exact h.reply _ _ _ hs
  · exact h.reply _ _ _ hs
  · exact h.reply _ _ _ hs
  · exact hs

theorem lostInside (m : Msg) (hs : P s) : P (s.lostInside m) := by
  unfold State.lostInside
  split
  · exact h.reply _ _ _ hs
  · exact h.reply _ _ _ hs
  · exact h.reply _ _ _ hs
  · exact h.reply _ _ _ hs
  · exact h.reply _ _ _ hs
  · exact h.reply _ _ _ hs
  · exact hs

theorem unrouted (m : Msg) (hs : P s) : P (s.unrouted m) := by
  have counted : P (s.inc fSWC_ERR2_NOROUTE 0) := h.quiet hs (State.inc_keeps rfl (.refl _ _) rfl)
  have refused : P (s.noRoute m) := by
    unfold State.noRoute
    dsimp only
    split
    · exact h.reply _ _ _ counted
    · exact ite (h.reply _ _ _ counted) counted
    · exact ite (h.reply _ _ _ counted) counted
    · exact ite (h.reply _ _ _ counted) counted
    · exact counted
  exact ite (h.lostAtLink 0 m hs) refused

theorem undeliverable (e : Nat) (m : Msg) (hs : P s) : P (s.undeliverable e m) :=
  ite (h.lostAtPort e m hs) (ite (h.lostAtLink _ m hs) (h.lostInside m hs))

/-! ### Messages queued, mirrored and placed -/

theorem enqueue (id e : Nat) (hs : P s) : P (s.enqueue id e) := by
  unfold State.enqueue
  split
  · exact hs
  · exact h.wake e (h.eqAdd _ _ _ (h.quiet hs (State.setQueue_keeps rfl (.refl _ _))))

theorem mirStore (k p : Nat) (of_ : Nat × Nat) (m : Msg) (hs : P s) : P (s.mirStore k p of_ m) :=
  h.enqueue _ p (h.quiet hs (State.takeCells_keeps rfl (Keeps.set_swc rfl (Keeps.set_swc rfl (.refl _ _)))))

theorem mirRecord (k eg : Nat) (out : Bool) (d : Stored) (m : Msg) (hs : P s) : P (s.mirRecord k eg out d m) := by
  unfold State.mirRecord
  extract_lets n len p w base ms need written
  have hWritten : P written := h.quiet hs (State.wr_keeps (State.wr_keeps (.refl _ _) rfl) rfl)
  refine ite (h.quiet hs (State.inc_keeps rfl (.refl _ _) rfl)) (ite ?_ ?_)
  · exact State.each_induct P (fun _ m ht => h.mirStore k p _ m ht) hWritten
  · exact State.each_induct P (fun _ m ht => h.lostAtPort p m ht) hWritten

theorem mirMeet (k eg : Nat) (out : Bool) (d : Stored) (m : Msg) (hs : P s) : P (s.mirMeet k eg out d m) := by
  have counted (v : SwcS) : P { s with swc := v } := h.quiet hs (Keeps.set_swc rfl (.refl _ _))
  exact ite (h.mirRecord k eg out d m (counted _)) (counted _)

theorem mirrorIn (id : Nat) (egs : List Nat) (hs : P s) : P (s.mirrorIn id egs) := by
  unfold State.mirrorIn State.mirror
  split
  · exact hs
  · split
    · exact hs
    · exact State.each_induct P (fun _ k ht => h.mirMeet k _ _ _ _ ht) hs

theorem place (x : Nat) (m : Msg) (egs : List Nat) (hs : P s) : P (s.place x m egs) := by
  unfold State.place
  extract_lets id many meshed
  have hMeshed : P meshed := when _ hs fun ht => h.quiet ht (State.mesh_keeps rfl (.refl _ _))
  refine State.each_induct P (fun t e ht => ?_) (h.mirrorIn id egs (h.store _ _ _ _ _ _ _ (h.quiet hMeshed (State.countMsg_keeps rfl (.refl _ _)))))
  exact h.enqueue id e (when _ ht fun hu => h.quiet hu (State.countMsg_keeps rfl (.refl _ _)))

theorem drain (n : Nat) (hs : P s) : P (State.drain n s) := by
  induction n generalizing s with
  | zero => exact hs
  | succ n ih =>
    unfold State.drain
    split
    · exact hs
    · split
      · exact ih (h.place _ _ _ (h.quiet hs (Keeps.set_swc rfl (.refl _ _))))
      · exact hs

theorem drainAll (hs : P s) : P s.drainAll := h.drain _ hs

theorem cellsBack (n : Nat) (hs : P s) : P (s.cellsBack n) :=
  h.drainAll (h.retCredits (h.quiet hs (State.giveCells_keeps rfl (.refl _ _))))

/-! ### Messages of the internal sources -/

theorem injectTo (x : Nat) (m : Msg) (egs : List Nat) (hs : P s) : P (s.injectTo x m egs) :=
  ite hs (h.drainAll (h.quiet hs (Keeps.set_swc rfl (.refl _ _))))

theorem inject (x : Nat) (m : Msg) (hs : P s) : P (s.inject x m) := by
  refine h.answering m (fun ht => ?_) hs
  split
  · exact h.unrouted m ht
  · exact ite (h.lostAtPort _ m ht) (h.injectTo x m _ ht)

/-! ### The homes' transactions -/

theorem modTxn (l : Nat) (f : Txn → Txn) (hs : P s) : P (s.modTxn l f) := h.quiet hs (State.modTxn_keeps rfl (.refl _ _))

theorem dropKept (l : Nat) (hs : P s) : P (s.dropKept l) := by
  unfold State.dropKept
  split
  · exact ite (h.cellsBack 1 (h.quiet hs (State.setTxn_keeps rfl (.refl _ _)))) hs
  · exact hs

theorem freeCell (l : Nat) (hs : P s) : P (s.freeCell l) := ite hs (h.cellsBack 1 (h.quiet hs (Keeps.set_wm rfl (.refl _ _))))

theorem endRow (l : Nat) (hs : P s) : P (s.endRow l) :=
  h.quiet (h.dropKept l hs) (State.settleTxn_keeps rfl (State.modTxn_keeps rfl (State.writeEntry_keeps rfl (.refl _ _))))

theorem respond (l : Nat) (m : Msg) (g : Nat) (data : Option (Nat × Bool)) (bad : Bool) (hs : P s) : P (s.respond l m g data bad) :=
  h.inject _ _ hs

theorem poolSend (l : Nat) (data : Option (Nat × Bool)) (be : Nat) (hs : P s) : P (s.poolSend l data be).2 := by
  have checked : P (s.poolCheck l data be).2 := h.quiet hs (State.poolCheck_keeps rfl (.refl _ _))
  unfold State.poolSend
  split
  next found =>
    dsimp only
    exact h.injectTo _ _ _ (snd_eq checked found)
  next found => exact snd_eq checked found

theorem issueWrite (l : Nat) (d : Nat × Bool) (be kept req : Nat) (dirty : Bool) (hs : P s) : P (s.issueWrite l d be kept req dirty).2 := by
  unfold State.issueWrite
  split
  · exact hs
  · split
    · split
      · dsimp only
        exact h.inject _ _ hs
      · dsimp only
        exact h.inject _ _ hs
    · exact h.poolSend l _ be hs

theorem writeOut (l a : Nat) (told : Bool) (d : Nat × Bool) (be kept req : Nat) (dirty : Bool) (hs : P s) :
    P (s.writeOut l a told d be kept req dirty).2 :=
  have issued := h.issueWrite l d be kept req dirty hs
  ite issued (h.quiet issued (State.writeLost_keeps rfl (.refl _ _)))

theorem rowDone (l : Nat) (hs : P s) : P (s.rowDone l) := by
  unfold State.rowDone
  split
  · exact hs
  next t ht =>
    extract_lets isWrite room gave g0 g code q dirty ln oFull data pw answered filled dropped homeSnoop freed msg kept
    have hAnswered : P answered := by
      unfold answered
      split
      · refine ite hs (ite (h.inject _ _ hs) (h.respond _ _ _ _ _ ?_))
        exact ite (h.quiet hs (State.countMsg_keeps rfl (.refl _ _))) hs
      · exact hs
    have hFilled : P filled := by
      refine ite ?_ hAnswered
      split
      · exact h.modTxn _ _ (h.quiet hAnswered (State.fillCell_keeps rfl (.refl _ _)))
      · exact hAnswered
    have hDropped : P dropped := h.dropKept l hFilled
    have hFreed : P freed := ite (h.freeCell l hDropped) hDropped
    split
    next gone first wroteFirst =>
      have hFirst : P first := by
        split at wroteFirst
        · exact snd_eq (h.writeOut _ _ _ _ _ _ _ _ hFreed) wroteFirst
        · exact snd_eq hFreed wroteFirst
      extract_lets early holds taken
      have hTaken : P taken := h.modTxn _ _ hFirst
      split
      · have hClosed := ite (c := t.req = 10) (h.modTxn l (fun t => { t with ln := {} }) hTaken) hTaken
        refine h.endRow _ (ite ?_ hClosed)
        split
        · exact h.respond _ _ _ _ _ hClosed
        · exact hClosed
      · split
        next ok wrote written =>
          have hWrote : P wrote := snd_eq (h.writeOut _ _ _ _ _ _ _ _ hTaken) written
          extract_lets entered failed
          have hEntered : P entered := ite (h.quiet hWrote (State.writeEntry_keeps rfl (.refl _ _))) hWrote
          have hFailed : P failed := by
            unfold failed
            generalize msg = owed
            split
            · exact h.respond _ _ _ _ _ hEntered
            · exact hEntered
          refine ite (h.modTxn _ _ hEntered) (ite (ite (h.endRow l hFailed) (h.modTxn _ _ hFailed)) ?_)
          exact h.endRow l (when _ (when _ hFailed fun hu => h.freeCell l hu) fun hu => h.modTxn _ _ hu)

theorem advance (l : Nat) (hs : P s) : P (s.advance l) := by
  unfold State.advance
  split
  · exact hs
  · exact ite hs (ite (ite (h.rowDone l (h.modTxn _ _ hs)) (h.modTxn _ _ hs)) (h.rowDone l hs))

theorem closeSnoop (l a cause : Nat) (hs : P s) : P (s.closeSnoop l a cause) := by
  unfold State.closeSnoop
  split
  · exact hs
  · refine ite hs (h.advance l (h.modTxn _ _ ?_))
    exact ite (h.quiet hs (State.lostLine_keeps rfl (.refl _ _))) hs

theorem agentLost (a : Nat) (hs : P s) : P (s.agentLost a) :=
  State.each_induct P (fun _ l ht => h.closeSnoop l a 1 ht) (h.quiet hs (State.setDown_keeps rfl (.refl _ _)))

/-! ### Messages flushed and requests released -/

theorem flushQueue (e t g : Nat) (hs : P s) : P (s.flushQueue e t g) := by
  refine State.each_induct P (fun u en hu => ?_) (h.quiet hs (State.setQueue_keeps rfl (.refl _ _)))
  split
  · exact hu
  · exact h.copyGone _ e (h.undeliverable e _ hu)

theorem flushSending (e i : Nat) (hs : P s) : P (s.flushSending e i) := by
  unfold State.flushSending
  split
  · exact hs
  · extract_lets swc stopped
    have hStopped : P stopped := h.quiet hs (Keeps.set_swc rfl (.refl _ _))
    split
    · exact hStopped
    · exact h.copyGone _ e (h.undeliverable e _ (h.quiet hStopped (State.tdResolve_keeps rfl (.refl _ _))))

theorem flushEgress (e : Nat) (hs : P s) : P (s.flushEgress e) :=
  State.each_induct P (fun _ i ht => h.flushSending e i ht)
    (State.each_induct P (fun _ t ht => State.each_induct P (fun _ g hu => h.flushQueue e t g hu) ht) hs)

theorem release (d : Stored) (k : Nat) (hs : P s) : P (s.release d k) :=
  State.each_induct P (fun _ e ht => h.enqueue d.id e ht) (h.quiet hs (State.flmAdd_keeps rfl (State.deduct_keeps rfl (.refl _ _))))

theorem tryRelease (ti : Nat) {t : State} (released : s.tryRelease ti = some t) (hs : P s) : P t := by
  unfold State.tryRelease at released
  split at released
  · exact absurd released nofun
  · dsimp only at released
    split at released
    · rw [← Option.some.inj released]
      exact h.retCredit _ (h.release _ _ (h.quiet hs (Keeps.set_weir rfl (State.setHeld_keeps rfl (.refl _ _)))))
    · exact absurd released nofun

theorem consider (n : Nat) (hs : P s) : P (s.consider n) := by
  induction n generalizing s with
  | zero => exact hs
  | succ n ih =>
    unfold State.consider
    split
    · exact hs
    next released =>
      obtain ⟨ti, -, released⟩ := List.exists_of_findSome?_eq_some released
      exact ih (h.tryRelease ti released hs)

theorem considerAll (hs : P s) : P s.considerAll := h.consider _ hs

/-! ### The loss of a link, and a slot's power -/

/-- The rest of the loss of a link, once its status has fallen. -/
theorem dlDown {p st : Nat} (planned : Bool) (fallen : P (s.linkFall p st)) : P (s.dlDown p st planned) := by
  unfold State.dlDown
  extract_lets up agent halted down idle counted raised flushed failed settled returned lost
  have hDown : P down := fallen
  have hIdle : P idle := h.quiet hDown (State.each_keeps (.refl _ _) fun _ k _ => State.portLaneIdle_keeps rfl k)
  have hCounted : P counted := h.quiet (h.loss _ _ _ (by decide) hIdle) (State.countEv_keeps rfl (.refl _ _))
  have hRaised : P raised := when _ hCounted fun ht => h.quiet ht (State.pulse_keeps rfl (.refl _ _))
  have hFlushed : P flushed := h.flushEgress p (h.truncate p hRaised)
  have hFailed : P failed := State.each_induct P (fun _ w ht => h.quiet ht (State.zeroed_keeps rfl (.refl _ _))) hFlushed
  have hSettled : P settled := State.each_induct P (fun _ o ht => h.lostAtPort p o.m ht) (h.quiet hFailed (Keeps.set_swc rfl (.refl _ _)))
  have hReturned : P returned := h.quiet hSettled (State.swcMod_keeps rfl (.refl _ _))
  have hLost : P lost := when _ hReturned fun ht => h.agentLost p ht
  exact ite hDown (h.drainAll (h.considerAll (State.each_induct P (fun _ b ht => h.event b 8 ht) hLost)))

section
variable (fall : ∀ {s : State} (p st : Nat), P s → P (s.linkFall p st))
include fall

theorem perstLow (p : Nat) (planned : Bool) (hs : P s) : P (s.perstLow p planned) := by
  have pin : P (s.setBit fPWR_PERSTOUT_RELEASED p false) := h.quiet hs (State.setBit_keeps rfl (.refl _ _) rfl)
  exact ite pin (h.dlDown planned (fall p 0 pin))

omit fall in
theorem poweredNow (p : Nat) (hs : P s) : P (s.poweredNow p) := by
  unfold State.poweredNow
  split
  · exact h.loss _ _ _ (by decide) hs
  · exact h.loss _ _ _ (by decide) hs

omit h fall in
theorem atPort (j : Nat) {f : State → Nat → State} (hs : P s) (hf : ∀ {t} p, P t → P (f t p)) : P (s.atPort j f) := by
  unfold State.atPort
  split
  · exact hf _ hs
  · exact hs

omit fall in
/-- A power-on that is asked for. -/
theorem powerOn (j : Nat) (hs : P s) : P (s.powerOn j false) := by
  unfold State.powerOn
  refine ite hs (ite (h.quiet hs (State.slotMod_keeps rfl (.refl _ _))) (ite ?_ ?_))
  · exact h.quiet (t := s.wrb fSLU_STAT_WAITRAMP j true) hs (State.wrb_keeps rfl (.refl _ _) rfl)
  · exact h.quiet (t := s.rampStart j) hs (State.rampStart_keeps rfl (.refl _ _))

theorem powerOff (j : Nat) (hs : P s) : P (s.powerOff j) := by
  unfold State.powerOff
  extract_lets asked stopping
  have hAsked : P asked := h.quiet hs (State.slotMod_keeps rfl (State.wrb_keeps rfl (.refl _ _) rfl))
  have hStopping : P stopping := h.quiet hAsked (State.wrb_keeps rfl (State.setSlot_keeps rfl (.refl _ _)) rfl)
  refine ite ?_ (ite (atPort j hStopping fun p ht => h.perstLow fall p true (h.poweredNow p ht)) hAsked)
  refine atPort j (h.quiet hAsked ?_) fun p ht => h.poweredNow p ht
  exact State.wrb_keeps rfl (State.wr_keeps (State.wrb_keeps rfl (State.setSlot_keeps rfl (.refl _ _)) rfl) rfl) rfl

theorem powerTurn (p : Nat) (was : Bool) (hs : P s) : P (s.powerTurn p was) := by
  refine ite hs (ite ?_ (ite (h.perstLow fall p false hs) hs))
  split
  · exact ite (h.powerOn _ hs) (h.powerOff fall _ hs)
  · exact hs

end

/-! ### Units of a link -/

theorem units : Units P where
  link _ _ hs := h.quiet hs (State.lkMod_keeps rfl (.refl _ _))
  flow _ _ hs := h.quiet hs (State.flowOn_keeps rfl (.refl _ _))
  send o hs := h.send o hs
  sent f _ _ hf hs := by
    refine h.quiet hs (State.wr_keeps (.refl _ _) ?_)
    have cases : f.key = fLEAT_TXSEQ_NEXT.key ∨ f.key = fLEAT_REPLAY_OCC.key ∨ f.key = fLEAT_CRUSED_VALUE.key := by simpa [sentFields] using hf
    have window : fbit f = 2 ^ 46 := by
      unfold fbit
      rcases cases with e | e | e <;> rw [e] <;> rfl
    rw [window]
    rfl

theorem linkGo (k : Nat) (sent : Bool) (hs : P s) : P (s.linkGo k sent) := h.units.linkGo k sent hs

theorem mgmtQueue (k : Nat) (op : List Nat) (hs : P s) : P (s.mgmtQueue k op) := h.linkGo k _ (h.quiet hs (State.lkMod_keeps rfl (.refl _ _)))

theorem retrain (k cause : Nat) (hs : P s) : P (s.retrain k cause) := by
  unfold State.retrain
  extract_lets st told silent halted idle
  have hTold : P told := when _ hs fun ht => h.send _ ht
  have hHalted : P halted := h.quiet hTold (State.lkMod_keeps rfl (State.unmap_keeps rfl (State.wr_keeps (State.inc_keeps rfl (.refl _ _) rfl) rfl)))
  have hIdle : P idle := h.quiet hHalted (State.each_keeps (.refl _ _) fun _ ht _ => State.laneMod_keeps rfl ht)
  exact ite hs (h.quiet hIdle (State.spareNow_keeps rfl (State.putb_keeps rfl (State.wrb_keeps rfl (.refl _ _) rfl) rfl)))

theorem mgmtSend (k : Nat) (op : List Nat) (hs : P s) : P (s.mgmtSend k op) :=
  ite (h.retrain k 0 (h.mgmtQueue k op hs)) (h.mgmtQueue k op hs)

theorem toPeer (n : Nat) (op : List Nat) (hs : P s) : P (s.toPeer n op) := by
  unfold State.toPeer
  split
  · exact h.mgmtSend _ op hs
  · exact hs

end

end Traffic

/-! ### What outlives traffic -/

theorem Keeps.out {w : Nat} {z s : State} (h : Keeps w z s) (hw : w.testBit 1 = false) : s.out = z.out := by
  have := congrArg State.out h.2.2
  simpa [State.outside, hw] using this

theorem Keeps.prt {w : Nat} {z s : State} (h : Keeps w z s) (hw : w.testBit 22 = false) : s.prt = z.prt := by
  have := congrArg State.prt h.2.2
  simpa [State.outside, hw] using this

/-- Waking a port writes two registers of it, or nothing. -/
theorem State.wakePort_cases (s : State) (e : Nat) : s.wakePort e = s
    ∨ s.rd fPRT_PORTSTAT_LTSSM e = 5 ∧ s.wakePort e = (s.wr fPRT_PORTSTAT_LTSSM e 3).wr fPRT_PORTSTAT_L1SUB e 0 := by
  unfold State.wakePort
  split
  next asleep => exact .inr ⟨asleep.2, rfl⟩
  · exact .inl rfl

theorem State.wakePort_frame (s : State) (e : Nat) : (s.wakePort e).out = s.out ∧ (s.wakePort e).prt = s.prt := by
  rcases s.wakePort_cases e with h | ⟨-, h⟩
  · rw [h]; exact ⟨rfl, rfl⟩
  · rw [h]; exact ⟨rfl, rfl⟩

theorem Traffic.and {P Q : State → Prop} (h : Traffic P) (k : Traffic Q) : Traffic fun s => P s ∧ Q s where
  quiet hs kept := ⟨h.quiet hs.1 kept, k.quiet hs.2 kept⟩
  send o hs := ⟨h.send o hs.1, k.send o hs.2⟩
  loss f i v hf hs := ⟨h.loss f i v hf hs.1, k.loss f i v hf hs.2⟩
  wake e hs := ⟨h.wake e hs.1, k.wake e hs.2⟩
  event b n hs := ⟨h.event b n hs.1, k.event b n hs.2⟩

/-- What has been sent stays sent. -/
theorem Traffic.sent (o : Out) : Traffic fun s => o ∈ s.out where
  quiet hs k := by rw [k.out (by decide)]; exact hs
  send _ hs := List.mem_cons_of_mem _ hs
  loss _ _ _ _ hs := hs
  wake e hs := by rw [(State.wakePort_frame _ e).1]; exact hs
  event _ _ hs := List.mem_cons_of_mem _ hs

/-- A PRT field that neither losses nor a wake write reads the same. -/
theorem Traffic.reads {f : Fld} (i v : Nat) (window : windowBit f.key = 44)
    (other : f.key ∉ fPRT_PORTSTAT_LTSSM.key :: fPRT_PORTSTAT_L1SUB.key :: lossFields.map Fld.key) : Traffic fun s => s.rd f i = v where
  quiet hs k := (k.rd f i (by rw [window]; decide)).trans hs
  send _ hs := hs
  loss g _ _ hg hs := (State.rd_wr_key _ _ _ _ _ _ fun e => other (List.mem_cons_of_mem _ (List.mem_cons_of_mem _ (by rw [← e]; exact hg)))).trans hs
  wake {s} e hs := by
    rcases s.wakePort_cases e with h | ⟨-, h⟩
    · rw [h]; exact hs
    · simp only [List.mem_cons, not_or] at other
      obtain ⟨ltssm, sub, -⟩ := other
      rw [h, State.rd_wr_key _ _ _ _ _ _ (Ne.symm sub), State.rd_wr_key _ _ _ _ _ _ (Ne.symm ltssm)]
      exact hs
  event _ _ hs := hs

/-- A port that is not in L1 keeps its LTSSM state. -/
theorem Traffic.ltssm (p : Nat) {st : Nat} (awake : st ≠ 5) : Traffic fun s => s.rd fPRT_PORTSTAT_LTSSM p = st where
  quiet hs k := (k.rd _ p (by decide)).trans hs
  send _ hs := hs
  loss g _ _ hg hs := (State.rd_wr_key _ _ _ _ _ _ fun e => absurd (e ▸ hg : fPRT_PORTSTAT_LTSSM.key ∈ lossFields.map Fld.key) (by decide)).trans hs
  wake {s} e hs := by
    rcases s.wakePort_cases e with h | ⟨asleep, h⟩
    · rw [h]; exact hs
    · have elsewhere : e ≠ p := by
        rintro rfl
        exact awake (hs.symm.trans asleep)
      rw [h, State.rd_wr_key _ _ _ _ _ _ (by decide), State.rd_wr_inst _ _ _ _ elsewhere]
      exact hs
  event _ _ hs := hs

/-- A port is held in Hot Reset, or is not. -/
theorem Traffic.hot (p : Nat) (b : Bool) : Traffic fun s => (s.portS p).hot = b where
  quiet hs k := by unfold State.portS; rw [k.prt (by decide)]; exact hs
  send _ hs := hs
  loss _ _ _ _ hs := hs
  wake e hs := by unfold State.portS; rw [(State.wakePort_frame _ e).2]; exact hs
  event _ _ hs := hs

/-- How a bridge is being unbound. -/
theorem Traffic.unbind (b n : Nat) : Traffic fun s => (s.bridge b).unbind = n where
  quiet hs k := by unfold State.bridge; rw [k.prt (by decide)]; exact hs
  send _ hs := hs
  loss _ _ _ _ hs := hs
  wake e hs := by unfold State.bridge; rw [(State.wakePort_frame _ e).2]; exact hs
  event {s} c n hs := by
    show (SMap.get {} (SMap.mod {} s.prt.bridges c fun x => { x with status := putBit x.status n true }) b).unbind = _
    rw [SMap.get_mod]
    split
    next same => subst same; exact hs
    · exact hs

/-! ### The status of a port as its link falls -/

theorem State.cleared_frame (s : State) (fs : List Fld) (p : Nat) :
    (s.each fs fun t f => t.clr1 f p).out = s.out ∧ (s.each fs fun t f => t.clr1 f p).prt = s.prt :=
  State.each_induct (f := fun t f => t.clr1 f p) (fun t => t.out = s.out ∧ t.prt = s.prt) (fun _ _ h => h) ⟨rfl, rfl⟩

theorem State.marginDropped_frame (s : State) (p : Nat) : (s.marginDropped p).out = s.out ∧ (s.marginDropped p).prt.bridges = s.prt.bridges
    ∧ ∀ q, ((s.marginDropped p).portS q).hot = (s.portS q).hot := by
  obtain ⟨out, prt⟩ : (s.each (s.portLanes p) State.adaptKeep).out = s.out ∧ (s.each (s.portLanes p) State.adaptKeep).prt = s.prt :=
    State.each_induct (f := State.adaptKeep) (fun t => t.out = s.out ∧ t.prt = s.prt) (fun _ _ h => h) ⟨rfl, rfl⟩
  unfold State.marginDropped
  generalize s.each (s.portLanes p) State.adaptKeep = t at out prt
  refine ⟨out, (congrArg PrtS.bridges prt :), fun q => ?_⟩
  show (SMap.get {} (SMap.mod {} t.prt.ports p fun x => { x with margin := none, marginNak := none, precode := false }) q).hot = _
  rw [SMap.get_mod, prt]
  split
  next same => subst same; rfl
  · rfl

theorem State.linkHalted_frame (s : State) (p : Nat) : (s.linkHalted p).out = s.out ∧ (s.linkHalted p).prt.bridges = s.prt.bridges
    ∧ ∀ q, ((s.linkHalted p).portS q).hot = (s.portS q).hot := by
  unfold State.linkHalted State.when_
  split
  · exact s.marginDropped_frame p
  · exact ⟨rfl, rfl, fun _ => rfl⟩

/-- The fall of a link sends nothing and leaves the bridges, and what is held in Hot Reset. -/
theorem State.linkFall_frame (s : State) (p st : Nat) : (s.linkFall p st).out = s.out ∧ (s.linkFall p st).prt.bridges = s.prt.bridges
    ∧ ∀ q, ((s.linkFall p st).portS q).hot = (s.portS q).hot := by
  obtain ⟨out, prt⟩ := (s.linkHalted p).cleared_frame linkFields p
  have fell : (s.linkFall p st).out = (s.linkHalted p).out ∧ (s.linkFall p st).prt = (s.linkHalted p).prt := by
    unfold State.linkFall
    rw [State.wr_out, State.wr_prt]
    exact ⟨out, prt⟩
  unfold State.portS
  rw [fell.1, fell.2]
  exact s.linkHalted_frame p

theorem State.linkFall_setup (s : State) (p st : Nat) : SetupKept s (s.linkFall p st) := by
  have halted : SetupKept s (s.linkHalted p) := SetupKept.when (.refl s) (fun t ht => by
    exact ht.step (State.portMod_keeps rfl (State.each_keeps (.refl _ _) fun _ k _ => State.adaptKeep_keeps rfl k))) _
  exact (halted.clearEach p (by decide +kernel)).wr _ _ (by decide +kernel)

theorem State.linkFall_status (s : State) (p : Nat) {st : Nat} (hst : st < 2 ^ fPRT_PORTSTAT_LTSSM.width) :
    (s.linkFall p st).rd fPRT_PORTSTAT_LTSSM p = st ∧ (s.linkFall p st).rd fPRT_PORTSTAT_DLACTIVE p = 0 := by
  refine ⟨(State.rd_wr_same ..).trans (Nat.mod_eq_of_lt hst), ?_⟩
  unfold State.linkFall
  rw [State.rd_wr_key _ _ _ _ _ _ (by decide)]
  refine (State.rd_wr_key _ _ _ _ _ _ (by decide)).trans ((State.rd_wr_key _ _ _ _ _ _ (by decide)).trans ?_)
  exact State.rd_wr_same ..

/-! ### What follows of a slot's power, and the loss of a port -/

/-- The fields of PRT_VPPB. -/
def vppbFields : List Fld := [fPRT_VPPB_STATE, fPRT_VPPB_KIND, fPRT_VPPB_PORT, fPRT_VPPB_LD, fPRT_VPPB_NODE]

theorem vppbFields_still : ∀ f ∈ vppbFields, windowBit f.key = 44 ∧ f.key ∉ trafficFields.map Fld.key
    ∧ f.key ∉ fPRT_PORTSTAT_LTSSM.key :: fPRT_PORTSTAT_L1SUB.key :: lossFields.map Fld.key := by decide +kernel

section
variable (s : State) (p : Nat) (was : Bool)

theorem State.powerTurn_sent {o : Out} (sent : o ∈ s.out) : o ∈ (s.powerTurn p was).out := by
  refine (Traffic.sent o).powerTurn (fun {t} q st ht => ?_) p was sent
  rw [(t.linkFall_frame q st).1]
  exact ht

theorem State.powerTurn_unbind (b : Nat) : ((s.powerTurn p was).bridge b).unbind = (s.bridge b).unbind := by
  refine (Traffic.unbind b _).powerTurn (fun {t} q st ht => ?_) p was rfl
  unfold State.bridge
  rw [(t.linkFall_frame q st).2.1]
  exact ht

/-- The power of a slot changes no binding. -/
theorem State.powerTurn_vppb {f : Fld} (hf : f ∈ vppbFields) (b : Nat) : (s.powerTurn p was).rd f b = s.rd f b := by
  obtain ⟨window, still, other⟩ := vppbFields_still f hf
  refine (Traffic.reads b _ window other).powerTurn (fun {t} q st ht => ?_) p was rfl
  exact (t.linkFall_setup q st f window still b).trans ht

/-- The loss of a link leaves the port in the LTSSM state it was lost to, with its link down and held in Hot Reset as before. -/
theorem State.dlDown_status {st : Nat} (awake : st ≠ 5) (hst : st < 2 ^ fPRT_PORTSTAT_LTSSM.width) (planned : Bool) :
    (s.dlDown p st planned).rd fPRT_PORTSTAT_LTSSM p = st ∧ (s.dlDown p st planned).dlUp p = false
    ∧ ((s.dlDown p st planned).portS p).hot = (s.portS p).hot := by
  obtain ⟨ltssm, active⟩ := s.linkFall_status p hst
  have fell := (Traffic.ltssm p awake).dlDown (s := s) planned ltssm
  have down := (Traffic.reads (f := fPRT_PORTSTAT_DLACTIVE) p 0 (by decide) (by decide)).dlDown (s := s) planned active
  have hot := (Traffic.hot p (s.portS p).hot).dlDown (s := s) (st := st) planned ((s.linkFall_frame p st).2.2 p)
  refine ⟨fell, ?_, hot⟩
  unfold State.dlUp State.rdb
  rw [down]
  rfl

end

end Sys2Proof.Machine
end

section
/-! PROOFS. Binding and unbinding of vPPBs at this node: the commands of the manager's CCI, their completion and their timers. -/
namespace Sys2Proof.Machine

/-! ### PRT_VPPB and the commands of a CCI (R131, R134) -/

theorem State.rd_setVppb (s : State) (b st kind port ld node : Nat) :
    (s.setVppb b st kind port ld node).rd fPRT_VPPB_STATE b = st % 2 ^ fPRT_VPPB_STATE.width
    ∧ (s.setVppb b st kind port ld node).rd fPRT_VPPB_KIND b = kind % 2 ^ fPRT_VPPB_KIND.width
    ∧ (s.setVppb b st kind port ld node).rd fPRT_VPPB_PORT b = port % 2 ^ fPRT_VPPB_PORT.width
    ∧ (s.setVppb b st kind port ld node).rd fPRT_VPPB_NODE b = node % 2 ^ fPRT_VPPB_NODE.width := by
  have above {t : State} {f g : Fld} {i v w : Nat} (h : f.key ≠ g.key) (e : t.rd g b = w) : (t.wr f i v).rd g b = w :=
    (State.rd_wr_key _ _ _ _ _ _ h).trans e
  refine ⟨?_, ?_, ?_, State.rd_wr_same ..⟩
  · exact above (by decide) (above (by decide) (above (by decide) (above (by decide) (State.rd_wr_same ..))))
  · exact above (by decide) (above (by decide) (above (by decide) (State.rd_wr_same ..)))
  · exact above (by decide) (above (by decide) (State.rd_wr_same ..))

/-- A background command ends with an answer at most, and leaves the registers and the bridges. -/
theorem State.cciDone_frame (s : State) (b code : Nat) : (s.cciDone b code).regs = s.regs ∧ (s.cciDone b code).prt.bridges = s.prt.bridges := by
  unfold State.cciDone
  split
  · exact ⟨rfl, rfl⟩
  · exact ⟨rfl, rfl⟩

/-- Port `p`'s CCI accepts a background command that works on bridge `b`. -/
def State.cmdAccepted (s : State) (p b : Nat) : State := (s.portMod p fun x => { x with cci := some b }).cciSay p 1

theorem State.cmdAccepted_cci (s : State) (p b : Nat) : ((s.cmdAccepted p b).portS p).cci = some b :=
  congrArg PortS.cci (s.portS_portMod_same p _)

/-! ### Bind vPPB (R131, R132) -/

section
variable {s : State} {p vcs vppb kind port ld node : Nat} (hp : isPort p = true) (hb : isBridge vcs vppb = true) (hkind : kind < 4)
  (hport : port < 64) (hld : ld < 16) (hnode : node < 16)
include hp hb hkind hport hld hnode

theorem exec_bindVppb {t : State}
    (ends : (if ¬ s.isManager p then s.cciSay p 3
      else if (s.portS p).cci.isSome then s.cciSay p 6
      else if s.bindCode (32 * vcs + vppb) kind port ld node ≠ 0 then s.cciSay p (s.bindCode (32 * vcs + vppb) kind port ld node)
      else if kind < 2 then
        match s.mirrorOf port with
        | some k => (s.conflict 5 port k).cciSay p 2
        | none => (s.cmdAccepted p (32 * vcs + vppb)).bindStart (32 * vcs + vppb) kind port ld node
      else (s.cmdAccepted p (32 * vcs + vppb)).bindStart (32 * vcs + vppb) kind port ld node) = t) :
    exec (.bindVppb p vcs vppb kind port ld node) s = .next t := by
  have unit : (isPort p && isBridge vcs vppb && decide (kind < 4 ∧ port < 64 ∧ ld < 16 ∧ node < 16)) = true := by
    rw [hp, hb, decide_eq_true ⟨hkind, hport, hld, hnode⟩]; rfl
  exact (if_pos unit).trans (congrArg _ ends)

theorem bindVppb_foreign (foreign : s.isManager p = false) : exec (.bindVppb p vcs vppb kind port ld node) s = .next (s.cciSay p 3) :=
  exec_bindVppb hp hb hkind hport hld hnode (if_pos (by rw [foreign]; exact Bool.false_ne_true))

section
variable (manager : s.isManager p = true)
include manager

theorem bindVppb_busy (busy : (s.portS p).cci.isSome = true) : exec (.bindVppb p vcs vppb kind port ld node) s = .next (s.cciSay p 6) :=
  exec_bindVppb hp hb hkind hport hld hnode ((if_neg (not_not.2 manager)).trans (if_pos busy))

variable (free : (s.portS p).cci = none)
include free

theorem bindVppb_refused (refused : s.bindCode (32 * vcs + vppb) kind port ld node ≠ 0) :
    exec (.bindVppb p vcs vppb kind port ld node) s = .next (s.cciSay p (s.bindCode (32 * vcs + vppb) kind port ld node)) := by
  refine exec_bindVppb hp hb hkind hport hld hnode ?_
  rw [if_neg (not_not.2 manager), if_neg (by rw [free]; exact Bool.false_ne_true), if_pos refused]

variable (may : s.bindCode (32 * vcs + vppb) kind port ld node = 0)
include may

/-- A target that is a mirror's analysis port is refused, and the conflict is recorded (R34). -/
theorem bindVppb_mirror {k : Nat} (here : kind < 2) (mirror : s.mirrorOf port = some k) :
    exec (.bindVppb p vcs vppb kind port ld node) s = .next ((s.conflict 5 port k).cciSay p 2) := by
  refine exec_bindVppb hp hb hkind hport hld hnode ?_
  rw [if_neg (not_not.2 manager), if_neg (by rw [free]; exact Bool.false_ne_true), if_neg (not_not.2 may), if_pos here, mirror]

theorem bindVppb_accepted (target : 2 ≤ kind ∨ s.mirrorOf port = none) :
    exec (.bindVppb p vcs vppb kind port ld node) s
      = .next ((s.cmdAccepted p (32 * vcs + vppb)).bindStart (32 * vcs + vppb) kind port ld node) := by
  refine exec_bindVppb hp hb hkind hport hld hnode ?_
  rw [if_neg (not_not.2 manager), if_neg (by rw [free]; exact Bool.false_ne_true), if_neg (not_not.2 may)]
  rcases target with peer | none
  · exact if_neg (Nat.not_lt.2 peer)
  · rw [none]
    exact ite_self _

theorem bindVppb_starts (here : kind < 2) (none : s.mirrorOf port = none) :
    EndsIn (.bindVppb p vcs vppb kind port ld node) s fun t =>
      t.rd fPRT_VPPB_STATE (32 * vcs + vppb) = 1 ∧ t.rd fPRT_VPPB_KIND (32 * vcs + vppb) = kind
      ∧ t.rd fPRT_VPPB_PORT (32 * vcs + vppb) = port ∧ (t.portS p).cci = some (32 * vcs + vppb) ∧ t.out = .cci p 1 [] :: s.out := by
  let b := 32 * vcs + vppb
  let t := (s.cmdAccepted p b).setVppb b 1 kind port (if kind = 1 then ld else 0) (if kind = 2 then node else 0)
  have started : (s.cmdAccepted p b).bindStart b kind port ld node = t := if_neg (by omega)
  obtain ⟨state, kind', port', -⟩ := (s.cmdAccepted p b).rd_setVppb b 1 kind port (if kind = 1 then ld else 0) (if kind = 2 then node else 0)
  refine ⟨t, (bindVppb_accepted hp hb hkind hport hld hnode manager free may (.inr none)).trans (congrArg _ started), state,
    kind'.trans (Nat.mod_eq_of_lt hkind), port'.trans (Nat.mod_eq_of_lt hport), s.cmdAccepted_cci p b, rfl⟩

/-- A peer's port is asked of its owner (R178). -/
theorem bindVppb_claims (peer : kind = 2) :
    EndsIn (.bindVppb p vcs vppb kind port ld node) s fun t =>
      t.rd fPRT_VPPB_STATE (32 * vcs + vppb) = 1 ∧ t.rd fPRT_VPPB_KIND (32 * vcs + vppb) = 2 ∧ t.rd fPRT_VPPB_PORT (32 * vcs + vppb) = port
      ∧ t.rd fPRT_VPPB_NODE (32 * vcs + vppb) = node ∧ (t.portS p).cci = some (32 * vcs + vppb) ∧ Out.cci p 1 [] ∈ t.out := by
  let b := 32 * vcs + vppb
  let u := (s.cmdAccepted p b).setVppb b 1 kind port (if kind = 1 then ld else 0) (if kind = 2 then node else 0)
  have started : (s.cmdAccepted p b).bindStart b kind port ld node = u.toPeer node [4, port, 0xFF, b / 32] := if_pos peer
  obtain ⟨state, kind', port', node'⟩ := (s.cmdAccepted p b).rd_setVppb b 1 kind port (if kind = 1 then ld else 0) (if kind = 2 then node else 0)
  have asked : Keeps 0x400000007002 u (u.toPeer node [4, port, 0xFF, b / 32]) := State.toPeer_keeps rfl (.refl _ _)
  refine ⟨_, (bindVppb_accepted hp hb hkind hport hld hnode manager free may (.inl (by omega))).trans (congrArg _ started), ?_, ?_, ?_, ?_, ?_, ?_⟩
  · exact (asked.rd _ _ (by decide)).trans state
  · exact (asked.rd _ _ (by decide)).trans (kind'.trans (by rw [peer]; rfl))
  · exact (asked.rd _ _ (by decide)).trans (port'.trans (Nat.mod_eq_of_lt hport))
  · exact (asked.rd _ _ (by decide)).trans (node'.trans (by rw [if_pos peer]; exact Nat.mod_eq_of_lt hnode))
  · unfold State.portS
    rw [asked.prt (by decide)]
    exact s.cmdAccepted_cci p b
  · exact (Traffic.sent (Out.cci p 1 [])).toPeer _ _ (List.mem_cons_self ..)

end

end

/-! ### The end of a bind, and of an unbind (R131, R178) -/

section
variable {s : State} {vcs vppb : Nat} (hb : isBridge vcs vppb = true)
include hb

theorem hotplug_bridge (n : Nat) : Out.hotplug ((32 * vcs + vppb) / 32) ((32 * vcs + vppb) % 32) n = Out.hotplug vcs vppb n := by
  obtain ⟨inVcs, inBridge⟩ := bridge_vcs hb
  rw [inVcs, inBridge]

theorem exec_bindComplete : exec (.bindComplete vcs vppb) s = .next
    (if s.rd fPRT_VPPB_STATE (32 * vcs + vppb) = 1 ∧ s.rd fPRT_VPPB_KIND (32 * vcs + vppb) < 2 then
      (if s.dlUp (s.rd fPRT_VPPB_PORT (32 * vcs + vppb)) then
        (((s.wr fPRT_VPPB_STATE (32 * vcs + vppb) 2).cciDone (32 * vcs + vppb) 0).bridgeEvent (32 * vcs + vppb) 3).bridgeEvent (32 * vcs + vppb) 8
      else ((s.wr fPRT_VPPB_STATE (32 * vcs + vppb) 2).cciDone (32 * vcs + vppb) 0).bridgeEvent (32 * vcs + vppb) 3).powerTurn
        (s.rd fPRT_VPPB_PORT (32 * vcs + vppb)) (s.slotIsOff (s.rd fPRT_VPPB_PORT (32 * vcs + vppb)))
    else s) := if_pos hb

/-- A bind of a local target completes: the bridge is bound, and its host hears of the presence. -/
theorem bindComplete_binds (binding : s.rd fPRT_VPPB_STATE (32 * vcs + vppb) = 1) (here : s.rd fPRT_VPPB_KIND (32 * vcs + vppb) < 2) :
    EndsIn (.bindComplete vcs vppb) s fun t => t.rd fPRT_VPPB_STATE (32 * vcs + vppb) = 2 ∧ Out.hotplug vcs vppb 3 ∈ t.out := by
  let b := 32 * vcs + vppb
  let u := ((s.wr fPRT_VPPB_STATE b 2).cciDone b 0).bridgeEvent b 3
  have state : u.rd fPRT_VPPB_STATE b = 2 := (State.rd_congr ((s.wr fPRT_VPPB_STATE b 2).cciDone_frame b 0).1 _ _).trans (State.rd_wr_same ..)
  have shown : Out.hotplug vcs vppb 3 ∈ u.out := by
    rw [← hotplug_bridge hb]
    exact List.mem_cons_self ..
  refine ⟨_, (exec_bindComplete hb).trans (congrArg _ (if_pos ⟨binding, here⟩)), ?_, ?_⟩
  · rw [State.powerTurn_vppb _ _ _ (by decide)]
    exact (apply_ite (fun t : State => t.rd fPRT_VPPB_STATE b) ..).trans ((ite_self _).trans state)
  · refine State.powerTurn_sent _ _ _ ?_
    split
    · exact List.mem_cons_of_mem _ shown
    · exact shown

theorem exec_bindRspTimeout : exec (.bindRspTimeout vcs vppb) s = .next
    (if s.rd fPRT_VPPB_STATE (32 * vcs + vppb) = 1 ∧ s.rd fPRT_VPPB_KIND (32 * vcs + vppb) = 2 then
      (s.setVppb (32 * vcs + vppb) 0 0 0 0 0).cciDone (32 * vcs + vppb) 4 else s) := if_pos hb

theorem bindRspTimeout_gives_up (binding : s.rd fPRT_VPPB_STATE (32 * vcs + vppb) = 1) (peer : s.rd fPRT_VPPB_KIND (32 * vcs + vppb) = 2) :
    EndsIn (.bindRspTimeout vcs vppb) s fun t => t.rd fPRT_VPPB_STATE (32 * vcs + vppb) = 0 ∧ t.rd fPRT_VPPB_KIND (32 * vcs + vppb) = 0 := by
  obtain ⟨state, kind, -⟩ := s.rd_setVppb (32 * vcs + vppb) 0 0 0 0 0
  have regs := ((s.setVppb (32 * vcs + vppb) 0 0 0 0 0).cciDone_frame (32 * vcs + vppb) 4).1
  refine ⟨_, (exec_bindRspTimeout hb).trans (congrArg _ (if_pos ⟨binding, peer⟩)), ?_, ?_⟩
  · rw [State.rd_congr regs, state]; rfl
  · rw [State.rd_congr regs, kind]; rfl

theorem exec_unbindComplete : exec (.unbindComplete vcs vppb) s = .next
    (if s.rd fPRT_VPPB_STATE (32 * vcs + vppb) = 3
        ∧ (decide (2 ≤ s.rd fPRT_VPPB_KIND (32 * vcs + vppb)) || !s.dlUp (s.rd fPRT_VPPB_PORT (32 * vcs + vppb))) = true then
      s.unbound (32 * vcs + vppb) else s) := if_pos hb

theorem exec_unbindTimeout : exec (.unbindTimeout vcs vppb) s = .next
    (if s.rd fPRT_VPPB_STATE (32 * vcs + vppb) = 3
        ∧ (2 ≤ s.rd fPRT_VPPB_KIND (32 * vcs + vppb) ∨ s.dlUp (s.rd fPRT_VPPB_PORT (32 * vcs + vppb)) = true) then
      ((s.wr fPRT_VPPB_STATE (32 * vcs + vppb) 2).bridgeMod (32 * vcs + vppb) fun x => { x with unbind := 0 }).cciDone (32 * vcs + vppb) 4
    else s) := if_pos hb

end

/-- The bridge whose binding has ended, before its slot's power follows. -/
def State.bindingGone (s : State) (b : Nat) : State :=
  ((((s.setVppb b 0 0 0 0 0).bridgeMod b fun x => { x with unbind := 0 }).cciDone b 0).bridgeEvent b 3).bridgeEvent b 8

theorem State.unbound_eq (s : State) (b : Nat) : ∃ u : State, s.unbound b = u.bindingGone b
    ∨ ∃ p was, s.unbound b = (u.bindingGone b).powerTurn p was := by
  unfold State.unbound
  extract_lets released q here off gone
  refine ⟨released, ?_⟩
  cases here with
  | false => exact .inl rfl
  | true => exact .inr ⟨q, off, rfl⟩

theorem State.bindingGone_bridge (s : State) (b : Nat) : ((s.bindingGone b).bridge b).unbind = 0 := by
  have gone : ((((s.setVppb b 0 0 0 0 0).bridgeMod b fun x => { x with unbind := 0 }).cciDone b 0).bridge b).unbind = 0 := by
    unfold State.bridge
    rw [(State.cciDone_frame _ b 0).2]
    exact congrArg Bridge.unbind (State.bridge_bridgeMod_same ..)
  unfold State.bindingGone
  rw [State.bridge_bridgeEvent_same, State.bridge_bridgeEvent_same]
  exact gone

theorem State.bindingGone_vppb (s : State) (b : Nat) : (s.bindingGone b).rd fPRT_VPPB_STATE b = 0 ∧ (s.bindingGone b).rd fPRT_VPPB_KIND b = 0
    ∧ (s.bindingGone b).rd fPRT_VPPB_PORT b = 0 := by
  obtain ⟨state, kind, port, -⟩ := s.rd_setVppb b 0 0 0 0 0
  have regs : (s.bindingGone b).regs = (s.setVppb b 0 0 0 0 0).regs := (State.cciDone_frame ((s.setVppb b 0 0 0 0 0).bridgeMod b _) b 0).1
  rw [State.rd_congr regs, State.rd_congr regs, State.rd_congr regs]
  exact ⟨state, kind, port⟩

/-- The end of a binding: the bridge names nothing, and its host hears that the target has gone. -/
theorem State.unbound_ends (s : State) (b : Nat) : (s.unbound b).rd fPRT_VPPB_STATE b = 0 ∧ (s.unbound b).rd fPRT_VPPB_KIND b = 0
    ∧ (s.unbound b).rd fPRT_VPPB_PORT b = 0 ∧ ((s.unbound b).bridge b).unbind = 0 ∧ Out.hotplug (b / 32) (b % 32) 8 ∈ (s.unbound b).out := by
  obtain ⟨u, run | ⟨p, was, run⟩⟩ := s.unbound_eq b
  · obtain ⟨state, kind, port⟩ := u.bindingGone_vppb b
    rw [run]
    exact ⟨state, kind, port, u.bindingGone_bridge b, List.mem_cons_self ..⟩
  · obtain ⟨state, kind, port⟩ := u.bindingGone_vppb b
    rw [run, State.powerTurn_vppb _ _ _ (by decide), State.powerTurn_vppb _ _ _ (by decide), State.powerTurn_vppb _ _ _ (by decide),
      State.powerTurn_unbind]
    exact ⟨state, kind, port, u.bindingGone_bridge b, State.powerTurn_sent _ _ _ (List.mem_cons_self ..)⟩

section
variable {s : State} {vcs vppb : Nat} (hb : isBridge vcs vppb = true)
include hb

theorem unbindComplete_ends (waiting : s.rd fPRT_VPPB_STATE (32 * vcs + vppb) = 3)
    (down : 2 ≤ s.rd fPRT_VPPB_KIND (32 * vcs + vppb) ∨ s.dlUp (s.rd fPRT_VPPB_PORT (32 * vcs + vppb)) = false) :
    EndsIn (.unbindComplete vcs vppb) s fun t =>
      t.rd fPRT_VPPB_STATE (32 * vcs + vppb) = 0 ∧ (t.bridge (32 * vcs + vppb)).unbind = 0 ∧ Out.hotplug vcs vppb 8 ∈ t.out := by
  obtain ⟨state, -, -, unbind, shown⟩ := s.unbound_ends (32 * vcs + vppb)
  have gone : (decide (2 ≤ s.rd fPRT_VPPB_KIND (32 * vcs + vppb)) || !s.dlUp (s.rd fPRT_VPPB_PORT (32 * vcs + vppb))) = true := by
    rw [Bool.or_eq_true, decide_eq_true_eq, Bool.not_eq_true']
    exact down
  refine ⟨_, (exec_unbindComplete hb).trans (congrArg _ (if_pos ⟨waiting, gone⟩)), state, unbind, ?_⟩
  rw [← hotplug_bridge hb]
  exact shown

/-- After 1 s with the link up the binding is kept. -/
theorem unbindTimeout_keeps (waiting : s.rd fPRT_VPPB_STATE (32 * vcs + vppb) = 3)
    (up : 2 ≤ s.rd fPRT_VPPB_KIND (32 * vcs + vppb) ∨ s.dlUp (s.rd fPRT_VPPB_PORT (32 * vcs + vppb)) = true) :
    EndsIn (.unbindTimeout vcs vppb) s fun t =>
      t.rd fPRT_VPPB_STATE (32 * vcs + vppb) = 2 ∧ (t.bridge (32 * vcs + vppb)).unbind = 0 := by
  obtain ⟨regs, bridges⟩ :=
    ((s.wr fPRT_VPPB_STATE (32 * vcs + vppb) 2).bridgeMod (32 * vcs + vppb) fun x => { x with unbind := 0 }).cciDone_frame (32 * vcs + vppb) 4
  refine ⟨_, (exec_unbindTimeout hb).trans (congrArg _ (if_pos ⟨waiting, up⟩)), (State.rd_congr regs _ _).trans (State.rd_wr_same ..), ?_⟩
  unfold State.bridge
  rw [bridges]
  exact congrArg Bridge.unbind (State.bridge_bridgeMod_same ..)

/-- The timers of a bridge in another state, or with another kind of target, do nothing. -/
theorem bindTimers_idle :
    (2 ≤ s.rd fPRT_VPPB_KIND (32 * vcs + vppb) → exec (.bindComplete vcs vppb) s = .next s)
    ∧ (s.rd fPRT_VPPB_KIND (32 * vcs + vppb) ≠ 2 → exec (.bindRspTimeout vcs vppb) s = .next s)
    ∧ (s.rd fPRT_VPPB_STATE (32 * vcs + vppb) ≠ 3 → exec (.unbindComplete vcs vppb) s = .next s ∧ exec (.unbindTimeout vcs vppb) s = .next s)
    ∧ (s.rd fPRT_VPPB_KIND (32 * vcs + vppb) < 2 → s.dlUp (s.rd fPRT_VPPB_PORT (32 * vcs + vppb)) = true →
      exec (.unbindComplete vcs vppb) s = .next s)
    ∧ (s.rd fPRT_VPPB_KIND (32 * vcs + vppb) < 2 → s.dlUp (s.rd fPRT_VPPB_PORT (32 * vcs + vppb)) = false →
      exec (.unbindTimeout vcs vppb) s = .next s) := by
  refine ⟨fun peer => ?_, fun other => ?_, fun other => ⟨?_, ?_⟩, fun here up => ?_, fun here down => ?_⟩
  · rw [exec_bindComplete hb, if_neg fun h => by omega]
  · rw [exec_bindRspTimeout hb, if_neg fun h => other h.2]
  · rw [exec_unbindComplete hb, if_neg fun h => other h.1]
  · rw [exec_unbindTimeout hb, if_neg fun h => other h.1]
  · rw [exec_unbindComplete hb, up, Bool.not_true, Bool.or_false, decide_eq_false (Nat.not_le.2 here), if_neg fun h => Bool.false_ne_true h.2]
  · rw [exec_unbindTimeout hb, down, if_neg fun h => h.2.elim (Nat.not_le.2 here) Bool.false_ne_true]

theorem bindTimers_unbinding (other : s.rd fPRT_VPPB_STATE (32 * vcs + vppb) ≠ 1) :
    exec (.bindComplete vcs vppb) s = .next s ∧ exec (.bindRspTimeout vcs vppb) s = .next s := by
  refine ⟨?_, ?_⟩
  · rw [exec_bindComplete hb, if_neg fun h => other h.1]
  · rw [exec_bindRspTimeout hb, if_neg fun h => other h.1]

end

/-! ### Unbind vPPB (R131, R134) -/

section
variable {s : State} {p vcs vppb : Nat} (hp : isPort p = true) (hb : isBridge vcs vppb = true)
include hp hb

/-- An Unbind vPPB that may not start answers alike whichever it is. -/
theorem unbind_answers {t : State} (ends : ∀ f, s.unbindCmd p (32 * vcs + vppb) f = t) :
    exec (.unbindWaitLinkDown p vcs vppb) s = .next t ∧ exec (.unbindManagedHotRemove p vcs vppb) s = .next t
    ∧ exec (.unbindSurpriseHotRemove p vcs vppb) s = .next t := by
  have unit : (isPort p && isBridge vcs vppb) = true := by rw [hp, hb]; rfl
  exact ⟨(if_pos unit).trans (congrArg _ (ends _)), (if_pos unit).trans (congrArg _ (ends _)), (if_pos unit).trans (congrArg _ (ends _))⟩

theorem unbind_refused {code : Nat} (h : (s.isManager p = false ∧ code = 3)
      ∨ (s.isManager p = true ∧ code = 6
        ∧ ((s.portS p).cci.isSome = true ∨ s.rd fPRT_VPPB_STATE (32 * vcs + vppb) = 1 ∨ s.rd fPRT_VPPB_STATE (32 * vcs + vppb) = 3))
      ∨ (s.isManager p = true ∧ (s.portS p).cci = none ∧ s.rd fPRT_VPPB_STATE (32 * vcs + vppb) = 2 ∧ vppb = 0 ∧ code = 2)) :
    exec (.unbindWaitLinkDown p vcs vppb) s = .next (s.cciSay p code) ∧ exec (.unbindManagedHotRemove p vcs vppb) s = .next (s.cciSay p code)
    ∧ exec (.unbindSurpriseHotRemove p vcs vppb) s = .next (s.cciSay p code) := by
  refine unbind_answers hp hb fun f => ?_
  unfold State.unbindCmd
  dsimp only
  rcases h with ⟨foreign, rfl⟩ | ⟨manager, rfl, busy⟩ | ⟨manager, free, bound, first, rfl⟩
  · rw [if_pos (by rw [foreign]; exact Bool.false_ne_true)]
  · rw [if_neg (not_not.2 manager), if_pos busy]
  · rw [if_neg (not_not.2 manager), free, bound, if_neg (by decide), if_pos (.inr (by omega))]

section
variable (manager : s.isManager p = true) (free : (s.portS p).cci = none)
include manager free

theorem unbind_unbound (unbound : s.rd fPRT_VPPB_STATE (32 * vcs + vppb) = 0) :
    exec (.unbindWaitLinkDown p vcs vppb) s = .next (s.cciSay p 2) ∧ exec (.unbindManagedHotRemove p vcs vppb) s = .next (s.cciSay p 2)
    ∧ exec (.unbindSurpriseHotRemove p vcs vppb) s = .next (s.cciSay p 2) := by
  refine unbind_answers hp hb fun f => ?_
  unfold State.unbindCmd
  dsimp only
  rw [if_neg (not_not.2 manager), free, unbound, if_neg (by decide), if_pos (.inl rfl)]

omit hp in
/-- An Unbind vPPB that may start goes on with the bridge unbinding. -/
theorem State.unbindCmd_starts (later : 0 < vppb) (bound : s.rd fPRT_VPPB_STATE (32 * vcs + vppb) = 2) (f : State → State) :
    s.unbindCmd p (32 * vcs + vppb) f = f ((s.cmdAccepted p (32 * vcs + vppb)).wr fPRT_VPPB_STATE (32 * vcs + vppb) 3) := by
  obtain ⟨-, inBridge⟩ := bridge_vcs hb
  unfold State.unbindCmd
  dsimp only
  rw [if_neg (not_not.2 manager), free, bound, if_neg (by decide), if_neg (by omega)]
  rfl

theorem unbind_starts (later : 0 < vppb) (bound : s.rd fPRT_VPPB_STATE (32 * vcs + vppb) = 2) :
    EndsIn (.unbindWaitLinkDown p vcs vppb) s (fun t =>
      t.rd fPRT_VPPB_STATE (32 * vcs + vppb) = 3 ∧ (t.bridge (32 * vcs + vppb)).unbind = 1
      ∧ (t.portS p).cci = some (32 * vcs + vppb) ∧ t.out = .cci p 1 [] :: s.out)
    ∧ EndsIn (.unbindManagedHotRemove p vcs vppb) s (fun t =>
      t.rd fPRT_VPPB_STATE (32 * vcs + vppb) = 3 ∧ (t.bridge (32 * vcs + vppb)).unbind = 2
      ∧ t.out = .hotplug vcs vppb 0 :: .cci p 1 [] :: s.out)
    ∧ EndsIn (.unbindSurpriseHotRemove p vcs vppb) s (fun t =>
      t.rd fPRT_VPPB_STATE (32 * vcs + vppb) = 0 ∧ t.rd fPRT_VPPB_KIND (32 * vcs + vppb) = 0
      ∧ t.rd fPRT_VPPB_PORT (32 * vcs + vppb) = 0) := by
  have unit : (isPort p && isBridge vcs vppb) = true := by rw [hp, hb]; rfl
  have run := State.unbindCmd_starts hb manager free later bound
  refine ⟨⟨_, (if_pos unit).trans (congrArg _ (run _)), State.rd_wr_same .., ?_, s.cmdAccepted_cci p _, rfl⟩,
    ⟨_, (if_pos unit).trans (congrArg _ (run _)), State.rd_wr_same .., ?_, ?_⟩, ⟨_, (if_pos unit).trans (congrArg _ (run _)), ?_⟩⟩
  · exact congrArg Bridge.unbind (State.bridge_bridgeMod_same ..)
  · rw [State.bridge_bridgeEvent_same, State.bridge_bridgeMod_same]
  · show Out.hotplug ((32 * vcs + vppb) / 32) ((32 * vcs + vppb) % 32) 0 :: _ = _
    rw [hotplug_bridge hb]
    rfl
  · obtain ⟨state, kind, port, -⟩ := State.unbound_ends _ (32 * vcs + vppb)
    exact ⟨state, kind, port⟩

end

end

end Sys2Proof.Machine
end

section
/-! PROOFS. What a peer asks over its link: claims, their answers and releases, and resets of the ports that it claims. -/
namespace Sys2Proof.Machine

/-! ### A LINKMGT unit that a link expects (R156) -/

/-- The state in which a LINKMGT unit acts: its number is taken, and its trailer's limit. -/
def State.rxTaken (s : State) (k hdr trl : Nat) : State :=
  (s.rxUnit k { seq := bitsOf trl 20 12, vc := 3, mis := !s.forUs k hdr }).takeCred k trl

theorem State.rxTaken_keeps (s : State) (k hdr trl : Nat) : Keeps 0x400000002000 s (s.rxTaken k hdr trl) :=
  State.takeCred_keeps rfl (State.rxUnit_keeps rfl (.refl _ _))

section
variable {s : State} {k hdr trl : Nat}

theorem State.expects_fresh (h : s.expects k 3 hdr trl) : ¬ 2048 ≤ (bitsOf trl 20 12 + 4096 - s.rd fLEAT_RXSEQ_EXP k) % 4096 := by
  obtain ⟨-, -, -, -, -, -, seq, -⟩ := h
  rw [seq, Nat.add_sub_cancel_left]
  decide

theorem State.rxMgmt_expected (h : s.expects k 3 hdr trl) (act : State → State) :
    s.rxMgmt k hdr trl act = (act (s.rxTaken k hdr trl)).linkGo k := by
  have fresh := State.expects_fresh h
  obtain ⟨-, active, -, -, sound, ours, -, empty⟩ := h
  unfold State.rxMgmt
  dsimp only
  rw [if_neg (not_not.2 active), sound, if_neg Bool.false_ne_true, decide_eq_false fresh, if_neg Bool.false_ne_true, empty, List.any_nil,
    if_neg Bool.false_ne_true]
  unfold State.rxTaken
  rw [ours]
  rfl

theorem State.rxMgmt_idle (inactive : s.lkActive k = false) (act : State → State) : s.rxMgmt k hdr trl act = s :=
  if_pos (by rw [inactive]; exact Bool.false_ne_true)

theorem State.rxMgmt_bad (active : s.lkActive k = true) (bad : hdrBad 3 hdr trl true = true) (act : State → State) :
    s.rxMgmt k hdr trl act = s.protoError k := (if_neg (not_not.2 active)).trans (if_pos bad)

/-- The number EXP moves on past a LINKMGT unit that is the next. -/
theorem State.rxUnit_exp {u : RxUnit} (number : u.seq = s.rd fLEAT_RXSEQ_EXP k) (mgmt : u.vc = 3) (empty : (s.lk k).reorder = []) :
    (s.rxUnit k u).rd fLEAT_RXSEQ_EXP k = (s.rd fLEAT_RXSEQ_EXP k + 1) % 4096 := by
  have fresh : ¬ 2048 ≤ (u.seq + 4096 - s.rd fLEAT_RXSEQ_EXP k) % 4096 := by
    rw [number, Nat.add_sub_cancel_left]
    decide
  unfold State.rxUnit
  rw [if_neg fresh, empty, List.any_nil, if_neg Bool.false_ne_true]
  extract_lets high queued ahead shown
  have held : (shown.lk k).reorder = [u] := by
    have links : shown.leat = queued.leat := by
      unfold shown
      split
      · rfl
      · rfl
    rw [State.lk_congr links]
    unfold queued
    rw [State.lk_lkMod, if_pos rfl]
    exact congrArg (· ++ [u]) empty
  have exp : shown.rd fLEAT_RXSEQ_EXP k = s.rd fLEAT_RXSEQ_EXP k := by
    unfold shown
    split
    · exact State.rd_wr_key _ _ _ _ _ _ (by decide)
    · rfl
  have found : ([u].find? fun v => v.seq == shown.rd fLEAT_RXSEQ_EXP k) = some u :=
    List.find?_cons_of_pos (by rw [exp, number]; exact beq_self_eq_true _)
  rw [held, List.length_singleton]
  unfold State.release_
  rw [held, found]
  dsimp only
  rw [mgmt, if_neg (by decide)]
  unfold State.release_
  rw [State.rd_wr_same, number]
  rfl

theorem State.takeCred_exp (s : State) (k trl : Nat) : (s.takeCred k trl).rd fLEAT_RXSEQ_EXP k = s.rd fLEAT_RXSEQ_EXP k := by
  unfold State.takeCred
  dsimp only
  split
  · rfl
  · split
    · exact State.rd_wr_key _ _ _ _ _ _ (by decide)
    · rfl

theorem State.rxTaken_exp (h : s.expects k 3 hdr trl) :
    (s.rxTaken k hdr trl).rd fLEAT_RXSEQ_EXP k = (s.rd fLEAT_RXSEQ_EXP k + 1) % 4096 := by
  obtain ⟨-, -, -, -, -, -, seq, empty⟩ := h
  exact (State.takeCred_exp _ k trl).trans (State.rxUnit_exp seq rfl empty)

/-- What a link sends leaves the number EXP. -/
theorem Units.exp (k v : Nat) : Units fun s => s.rd fLEAT_RXSEQ_EXP k = v where
  link _ _ hs := hs
  flow _ _ hs := hs
  send _ hs := hs
  sent g _ _ hg hs := (State.rd_wr_key _ _ _ _ _ _ fun e => absurd (e ▸ hg : fLEAT_RXSEQ_EXP.key ∈ sentFields.map Fld.key) (by decide)).trans hs

theorem State.linkGo_keeps_ports (s : State) (k : Nat) : Keeps 0x400000006002 s (s.linkGo k) := State.linkGo_keeps rfl (.refl _ _)

theorem mgmtOk_of {port ld : Nat} (hk : isLink k = true) (hhdr : hdr < 2 ^ 32) (htrl : trl < 2 ^ 32) (hport : port < 64) (hld : ld < 256) :
    mgmtOk k hdr trl port ld = true := by
  unfold mgmtOk
  rw [hk, decide_eq_true ⟨hhdr, htrl, hport, hld⟩]
  rfl

theorem State.expects_ok (h : s.expects k 3 hdr trl) {port ld : Nat} (hport : port < 64) (hld : ld < 256) : mgmtOk k hdr trl port ld = true :=
  mgmtOk_of h.1 h.2.2.1 h.2.2.2.1 hport hld

/-- The ports and their registers after a unit's action are as the action leaves them. -/
theorem State.linkGo_ports (s : State) (k : Nat) : (s.linkGo k).prt = s.prt ∧ (∀ f i, windowBit f.key = 44 → (s.linkGo k).rd f i = s.rd f i) := by
  have kept : Keeps 0x400000006002 s (s.linkGo k) := State.linkGo_keeps rfl (.refl _ _)
  exact ⟨kept.prt (by decide), fun f i window => kept.rd f i (by rw [window]; decide)⟩

theorem State.rxTaken_ports (s : State) (k hdr trl : Nat) : (s.rxTaken k hdr trl).prt = s.prt
    ∧ (∀ f i, windowBit f.key = 44 → (s.rxTaken k hdr trl).rd f i = s.rd f i) := by
  have kept := s.rxTaken_keeps k hdr trl
  exact ⟨kept.prt (by decide), fun f i window => kept.rd f i (by rw [window]; decide)⟩

end

/-! ### Claims of a peer (R178) -/

section
variable {s : State} {k hdr trl port ld vcs : Nat}

/-- Nothing holds the port, or the LD of it, and it is a downstream port that a peer may claim. -/
def State.claimable (s : State) (port ld : Nat) : Bool :=
  s.downstream port && (s.naming port ld).isEmpty && !s.peerClaimed port ld && !s.isPool port && (s.mirrorOf port).isNone

/-- The claims of the peers once one of node `node` has come. -/
def State.claimed (s : State) (port ld node vcs : Nat) : List PeerClaim :=
  if s.claimable port ld then { port := port, ld := ld, node := node, vcs := vcs } :: s.prt.claims else s.prt.claims

theorem State.claimable_rxTaken (s : State) (k hdr trl port ld : Nat) : (s.rxTaken k hdr trl).claimable port ld = s.claimable port ld := by
  have kept := s.rxTaken_keeps k hdr trl
  have rd (f : Fld) (hf : (0x400000002000).testBit (windowBit f.key) = false) (i : Nat) : (s.rxTaken k hdr trl).rd f i = s.rd f i := kept.rd f i hf
  simp only [State.claimable, State.downstream, State.enabled, State.naming, State.vppbsOf, State.bridgeLd, State.peerClaimed, State.isPool,
    State.mirrorOf, State.rdb, kept.listed fPRT_VPPB_STATE (by decide), kept.prt (by decide), rd fPRT_PORTCFG_ENABLE (by decide),
    rd fPRT_PORTCFG_ROLE (by decide), rd fPRT_VPPB_STATE (by decide), rd fPRT_VPPB_KIND (by decide), rd fPRT_VPPB_PORT (by decide),
    rd fPRT_VPPB_LD (by decide), rd fXLT_POOLPORT_POOL (by decide), rd fTRN_MIR_EN (by decide), rd fTRN_MIR_APORT (by decide)]

/-- A claim is entered where nothing holds the port, and answered. -/
theorem bindClaim_claims (h : s.expects k 3 hdr trl) (hport : port < 64) (hld : ld < 256) (hvcs : vcs < 256) :
    EndsIn (.bindClaim k hdr trl port ld vcs) s fun t => t.prt.claims = s.claimed port ld (unitNode hdr) vcs := by
  have unit : (mgmtOk k hdr trl port ld && decide (vcs < 256)) = true := by
    rw [State.expects_ok h hport hld, decide_eq_true hvcs]
    rfl
  refine ⟨_, (if_pos unit).trans (congrArg _ (State.rxMgmt_expected h _)), ?_⟩
  dsimp -zeta only
  extract_lets mirror ok told prts entered
  have answered : Keeps 0x400000007002 entered (entered.mgmtSend k [5, port, ld, b2n !ok]) := State.mgmtSend_keeps rfl (.refl _ _)
  have same : told.prt = s.prt := by
    refine Eq.trans ?_ (s.rxTaken_ports k hdr trl).1
    unfold told
    split
    · rfl
    · rfl
  have may : ok = s.claimable port ld := s.claimable_rxTaken k hdr trl port ld
  rw [(State.linkGo_ports _ k).1, answered.prt (by decide)]
  unfold entered State.claimed
  rw [may]
  split
  · rw [← same]
  · rw [same]

theorem bindClaim_held (h : s.expects k 3 hdr trl) (hport : port < 64) (hld : ld < 256) (hvcs : vcs < 256) (down : s.downstream port = true)
    (unnamed : s.naming port ld = []) (unclaimed : s.peerClaimed port ld = false) (own : s.isPool port = false) (plain : s.mirrorOf port = none) :
    EndsIn (.bindClaim k hdr trl port ld vcs) s fun t =>
      t.prt.claims = { port := port, ld := ld, node := unitNode hdr, vcs := vcs } :: s.prt.claims := by
  obtain ⟨t, run, claims⟩ := bindClaim_claims h hport hld hvcs
  refine ⟨t, run, claims.trans (if_pos ?_)⟩
  unfold State.claimable
  rw [down, unnamed, unclaimed, own, plain]
  rfl

theorem bindClaim_refused (h : s.expects k 3 hdr trl) (hport : port < 64) (hld : ld < 256) (hvcs : vcs < 256)
    (held : s.downstream port = false ∨ s.naming port ld ≠ [] ∨ s.peerClaimed port ld = true ∨ s.isPool port = true
      ∨ (s.mirrorOf port).isSome = true) :
    EndsIn (.bindClaim k hdr trl port ld vcs) s fun t => t.prt.claims = s.prt.claims := by
  obtain ⟨t, run, claims⟩ := bindClaim_claims h hport hld hvcs
  refine ⟨t, run, claims.trans (if_neg ?_)⟩
  unfold State.claimable
  simp only [Bool.and_eq_true, Bool.not_eq_true', List.isEmpty_iff, Option.isNone_iff_eq_none]
  rintro ⟨⟨⟨⟨down, unnamed⟩, unclaimed⟩, own⟩, plain⟩
  rcases held with h | h | h | h | h
  · exact Bool.false_ne_true (h.symm.trans down)
  · exact h unnamed
  · exact Bool.false_ne_true (unclaimed.symm.trans h)
  · exact Bool.false_ne_true (own.symm.trans h)
  · rw [plain] at h
    exact Bool.false_ne_true h

/-- UNBIND takes the claim away. -/
theorem unbind_releases (h : s.expects k 3 hdr trl) (hport : port < 64) (hld : ld < 256) :
    EndsIn (.unbind k hdr trl port ld) s fun t =>
      ∀ c, c ∈ t.prt.claims ↔ c ∈ s.prt.claims ∧ ¬ (c.port = port ∧ c.ld = ld ∧ c.node = unitNode hdr) := by
  refine ⟨_, (if_pos (State.expects_ok h hport hld)).trans (congrArg _ (State.rxMgmt_expected h _)), fun c => ?_⟩
  have released (u : State) : (u.hotRelease port).prt.claims = u.prt.claims := by
    unfold State.hotRelease
    split
    · rfl
    · rfl
  rw [(State.linkGo_ports _ k).1]
  dsimp only
  rw [released]
  show c ∈ (s.rxTaken k hdr trl).prt.claims.filter _ ↔ _
  rw [(s.rxTaken_ports k hdr trl).1, List.mem_filter]
  simp only [Bool.not_eq_true', Bool.and_eq_false_iff, beq_eq_false_iff_ne, ne_eq, not_and_or, or_assoc]

end

/-! ### The owner's answer (R131, R178) -/

/-- Bridge `b` waits for the answer of node `node` about its port `port`. -/
def State.awaitsRsp (s : State) (port node b : Nat) : Bool :=
  s.rd fPRT_VPPB_STATE b == 1 && s.rd fPRT_VPPB_KIND b == 2 && s.rd fPRT_VPPB_PORT b == port && s.rd fPRT_VPPB_NODE b == node

/-- The owner's answer to the bind of bridge `b`. -/
def State.bindAnswered (s : State) (b : Nat) (refused : Bool) : State :=
  if refused then (s.setVppb b 0 0 0 0 0).cciDone b 2 else (((s.wr fPRT_VPPB_STATE b 2).cciDone b 0).bridgeEvent b 3).bridgeEvent b 8

section
variable {s : State} {k hdr trl port ld : Nat}

theorem exec_bindRsp (h : s.expects k 3 hdr trl) (hport : port < 64) (hld : ld < 256) (refused : Bool) :
    exec (.bindRsp k hdr trl port ld refused) s = .next
      ((match (s.listed fPRT_VPPB_STATE).find? (s.awaitsRsp port (unitNode hdr)) with
        | some b => (s.rxTaken k hdr trl).bindAnswered b refused
        | none => s.rxTaken k hdr trl).linkGo k) := by
  have kept := s.rxTaken_keeps k hdr trl
  have awaits : (s.rxTaken k hdr trl).awaitsRsp port (unitNode hdr) = s.awaitsRsp port (unitNode hdr) := by
    funext b
    unfold State.awaitsRsp
    rw [kept.rd _ b (by decide), kept.rd _ b (by decide), kept.rd _ b (by decide), kept.rd _ b (by decide)]
  have run : exec (.bindRsp k hdr trl port ld refused) s = .next
      ((match ((s.rxTaken k hdr trl).listed fPRT_VPPB_STATE).find? ((s.rxTaken k hdr trl).awaitsRsp port (unitNode hdr)) with
        | some b => (s.rxTaken k hdr trl).bindAnswered b refused
        | none => s.rxTaken k hdr trl).linkGo k) :=
    (if_pos (State.expects_ok h hport hld)).trans (congrArg _ (State.rxMgmt_expected h _))
  rw [run, awaits, kept.listed fPRT_VPPB_STATE (by decide)]

theorem bindRsp_answers {b : Nat} (h : s.expects k 3 hdr trl) (hport : port < 64) (hld : ld < 256) (refused : Bool)
    (one : s.listed fPRT_VPPB_STATE = [b]) (binding : s.rd fPRT_VPPB_STATE b = 1) (peer : s.rd fPRT_VPPB_KIND b = 2)
    (same : s.rd fPRT_VPPB_PORT b = port) (node : s.rd fPRT_VPPB_NODE b = unitNode hdr) :
    EndsIn (.bindRsp k hdr trl port ld refused) s fun t => t.rd fPRT_VPPB_STATE b = (if refused then 0 else 2) := by
  have awaits : s.awaitsRsp port (unitNode hdr) b = true := by
    unfold State.awaitsRsp
    simp [binding, peer, same, node]
  refine ⟨((s.rxTaken k hdr trl).bindAnswered b refused).linkGo k, ?_, ?_⟩
  · rw [exec_bindRsp h hport hld, one, List.find?_cons_of_pos awaits]
  · refine ((State.linkGo_ports _ k).2 _ _ (by decide)).trans ?_
    cases refused with
    | true =>
      have regs := (((s.rxTaken k hdr trl).setVppb b 0 0 0 0 0).cciDone_frame b 2).1
      exact (State.rd_congr regs _ _).trans ((s.rxTaken k hdr trl).rd_setVppb b 0 0 0 0 0).1
    | false =>
      have regs := (((s.rxTaken k hdr trl).wr fPRT_VPPB_STATE b 2).cciDone_frame b 0).1
      exact (State.rd_congr regs _ _).trans (State.rd_wr_same ..)

theorem bindRsp_unawaited (h : s.expects k 3 hdr trl) (hport : port < 64) (hld : ld < 256) (refused : Bool)
    (none : ∀ b ∈ s.listed fPRT_VPPB_STATE, s.rd fPRT_VPPB_STATE b ≠ 1 ∨ s.rd fPRT_VPPB_KIND b ≠ 2 ∨ s.rd fPRT_VPPB_PORT b ≠ port
      ∨ s.rd fPRT_VPPB_NODE b ≠ unitNode hdr) :
    EndsIn (.bindRsp k hdr trl port ld refused) s fun t => t.prt = s.prt ∧ (∀ b, t.rd fPRT_VPPB_STATE b = s.rd fPRT_VPPB_STATE b) := by
  have unfound : (s.listed fPRT_VPPB_STATE).find? (s.awaitsRsp port (unitNode hdr)) = Option.none := List.find?_eq_none.2 fun b hb awaits => by
    simp only [State.awaitsRsp, Bool.and_eq_true, beq_iff_eq] at awaits
    have := none b hb
    omega
  obtain ⟨taken, rd⟩ := s.rxTaken_ports k hdr trl
  obtain ⟨gone, rd'⟩ := (s.rxTaken k hdr trl).linkGo_ports k
  refine ⟨(s.rxTaken k hdr trl).linkGo k, ?_, gone.trans taken, fun b => (rd' _ b (by decide)).trans (rd _ b (by decide))⟩
  rw [exec_bindRsp h hport hld, unfound]

/-! ### Resets of a port that a peer claims (R133, R177) -/

/-- A peer's reset, or its end, at the target of its claim. -/
def State.claimTold (s : State) (release : Bool) (c : PeerClaim) : State := if release then s.hotRelease c.port else s.claimReset c

theorem exec_portreset (h : s.expects k 3 hdr trl) (hport : port < 64) (release : Bool) :
    exec (.portreset k hdr trl port release) s = .next
      (((s.rxTaken k hdr trl).each (s.prt.claims.filter fun c => c.port == port && c.node == unitNode hdr)
        fun s c => s.claimTold release c).linkGo k) := by
  rw [← (s.rxTaken_ports k hdr trl).1]
  exact (if_pos (State.expects_ok h hport (by decide))).trans (congrArg _ (State.rxMgmt_expected h _))

theorem portreset_unclaimed (h : s.expects k 3 hdr trl) (hport : port < 64) (release : Bool)
    (none : ∀ c ∈ s.prt.claims, c.port ≠ port ∨ c.node ≠ unitNode hdr) :
    EndsIn (.portreset k hdr trl port release) s fun t => t.prt = s.prt ∧ t.rd fLEAT_RXSEQ_EXP k = (s.rd fLEAT_RXSEQ_EXP k + 1) % 4096 := by
  have mine : (s.prt.claims.filter fun c => c.port == port && c.node == unitNode hdr) = [] := List.filter_eq_nil_iff.2 fun c hc claim => by
    simp only [Bool.and_eq_true, beq_iff_eq] at claim
    exact (none c hc).elim (absurd claim.1) (absurd claim.2)
  refine ⟨(s.rxTaken k hdr trl).linkGo k, ?_, (State.linkGo_ports _ k).1.trans (s.rxTaken_ports k hdr trl).1, ?_⟩
  · rw [exec_portreset h hport, mine]
    rfl
  · exact (Units.exp k _).linkGo k false (State.rxTaken_exp h)

section
variable {c : PeerClaim} (h : s.expects k 3 hdr trl) (hport : port < 64) (one : s.prt.claims = [c]) (here : c.port = port)
  (mine : c.node = unitNode hdr)
include h hport one here mine

/-- A claim of the peer hears of its reset. -/
theorem portreset_tells (release : Bool) :
    exec (.portreset k hdr trl port release) s = .next (((s.rxTaken k hdr trl).claimTold release c).linkGo k) := by
  have claims : (s.prt.claims.filter fun c => c.port == port && c.node == unitNode hdr) = [c] := by
    rw [one, List.filter_cons_of_pos (by rw [here, mine, beq_self_eq_true, beq_self_eq_true]; rfl), List.filter_nil]
  rw [exec_portreset h hport, claims]
  rfl

theorem portreset_resets (whole : c.ld = 0xFF) :
    EndsIn (.portreset k hdr trl port false) s fun t =>
      (t.portS port).hot = true ∧ t.rd fPRT_PORTSTAT_LTSSM port = 8 ∧ t.dlUp port = false := by
  let u := (s.rxTaken k hdr trl).portMod port fun x => { x with hot := true }
  have told : (s.rxTaken k hdr trl).claimTold false c = u.dlDown port 8 true := by
    subst here
    exact if_pos whole
  obtain ⟨ltssm, down, hot⟩ := u.dlDown_status port (st := 8) (by decide) (by decide) true
  obtain ⟨prt, rd⟩ := (u.dlDown port 8 true).linkGo_ports k
  refine ⟨(u.dlDown port 8 true).linkGo k, (portreset_tells h hport one here mine false).trans (by rw [told]), ?_,
    (rd _ _ (by decide)).trans ltssm, ?_⟩
  · unfold State.portS
    rw [prt]
    exact hot.trans (congrArg PortS.hot (State.portS_portMod_same _ port _))
  · unfold State.dlUp State.rdb
    rw [rd _ _ (by decide)]
    exact down

theorem portreset_releases (downstream : s.rdb fPRT_PORTCFG_ROLE port = false) (hot : (s.portS port).hot = true) :
    EndsIn (.portreset k hdr trl port true) s fun t => (t.portS port).hot = false ∧ t.rd fPRT_PORTSTAT_LTSSM port = 0 := by
  let u := ((s.rxTaken k hdr trl).portMod port fun x => { x with hot := false }).wr fPRT_PORTSTAT_LTSSM port 0
  obtain ⟨taken, reads⟩ := s.rxTaken_ports k hdr trl
  have held : ((s.rxTaken k hdr trl).portS port).hot = true ∧ ¬ (s.rxTaken k hdr trl).rdb fPRT_PORTCFG_ROLE port = true := by
    unfold State.portS State.rdb
    rw [taken, reads _ _ (by decide)]
    exact ⟨hot, by rw [← Bool.not_eq_true] at downstream; exact downstream⟩
  have told : (s.rxTaken k hdr trl).claimTold true c = u := by
    subst here
    exact if_pos held
  obtain ⟨prt, rd⟩ := u.linkGo_ports k
  refine ⟨u.linkGo k, (portreset_tells h hport one here mine true).trans (by rw [told]), ?_, (rd _ _ (by decide)).trans (State.rd_wr_same ..)⟩
  unfold State.portS
  rw [prt]
  exact congrArg PortS.hot (State.portS_portMod_same _ port _)

/-- The reset of an LD goes to its device. -/
theorem portreset_ld (part : c.ld ≠ 0xFF) : EndsIn (.portreset k hdr trl port false) s fun t => Out.ldReset port c.ld ∈ t.out := by
  have told : (s.rxTaken k hdr trl).claimTold false c = (s.rxTaken k hdr trl).send (.ldReset port c.ld) := by
    subst here
    exact if_neg part
  refine ⟨_, (portreset_tells h hport one here mine false).trans (by rw [told]), ?_⟩
  exact (Traffic.sent (Out.ldReset port c.ld)).linkGo k false (List.mem_cons_self ..)

end

end

/-- The messages of a peer, where the link's receipt of them ends alike whatever they ask. -/
theorem peerMessages_end {s t : State} {k hdr trl port ld vcs : Nat} {x : Bool} (hk : isLink k = true) (hhdr : hdr < 2 ^ 32) (htrl : trl < 2 ^ 32)
    (hport : port < 64) (hld : ld < 256) (hvcs : vcs < 256) (ends : ∀ act, s.rxMgmt k hdr trl act = t) :
    exec (.bindClaim k hdr trl port ld vcs) s = .next t ∧ exec (.bindRsp k hdr trl port ld x) s = .next t
    ∧ exec (.unbind k hdr trl port ld) s = .next t ∧ exec (.portreset k hdr trl port x) s = .next t := by
  have ok := mgmtOk_of hk hhdr htrl hport hld
  have okPort := mgmtOk_of (ld := 0) hk hhdr htrl hport (by decide)
  have okClaim : (mgmtOk k hdr trl port ld && decide (vcs < 256)) = true := by
    rw [ok, decide_eq_true hvcs]
    rfl
  exact ⟨(if_pos okClaim).trans (congrArg _ (ends _)), (if_pos ok).trans (congrArg _ (ends _)), (if_pos ok).trans (congrArg _ (ends _)),
    (if_pos okPort).trans (congrArg _ (ends _))⟩

/-- Settles O25: each command by the branch that the state selects; what a bind or its end leaves outlives the loss of the link that the slot's
power may bring. -/
theorem bindingsOfVppbs : Obligations.BindingsOfVppbs := by
  unfold Obligations.BindingsOfVppbs
  refine ⟨fun _ _ _ _ _ _ _ _ hp hb hkind hport hld hnode manager free may here plain =>
      bindVppb_starts hp hb hkind hport hld hnode manager free may here plain,
    fun _ _ _ _ _ _ _ _ hp hb hkind hport hld hnode manager free refused => bindVppb_refused hp hb hkind hport hld hnode manager free refused,
    fun _ _ _ _ _ _ _ _ hp hb hkind hport hld hnode foreign => bindVppb_foreign hp hb hkind hport hld hnode foreign,
    fun _ _ _ _ _ _ _ _ hp hb hkind hport hld hnode manager => ⟨bindVppb_busy hp hb hkind hport hld hnode manager,
      fun _ free may here mirror => bindVppb_mirror hp hb hkind hport hld hnode manager free may here mirror,
      fun free may peer => bindVppb_claims hp hb hkind hport hld hnode manager free may peer⟩,
    fun _ _ _ hb => bindTimers_idle hb, fun _ _ _ _ _ hp hb => unbind_refused hp hb,
    fun _ _ _ hb binding here => bindComplete_binds hb binding here, fun _ _ _ hb binding peer => bindRspTimeout_gives_up hb binding peer,
    fun _ _ _ hb other => bindTimers_unbinding hb other,
    fun _ _ _ _ hp hb later manager free bound => unbind_starts hp hb manager free later bound,
    fun _ _ _ _ hp hb manager free unbound => unbind_unbound hp hb manager free unbound,
    fun _ _ _ hb waiting down => unbindComplete_ends hb waiting down, fun _ _ _ hb waiting up => unbindTimeout_keeps hb waiting up,
    fun _ _ _ _ _ _ _ h hport hld hvcs down unnamed unclaimed own plain => bindClaim_held h hport hld hvcs down unnamed unclaimed own plain,
    fun _ _ _ _ _ _ _ h hport hld hvcs held => bindClaim_refused h hport hld hvcs held,
    fun _ _ _ _ _ _ refused _ h hport hld one binding peer same node => bindRsp_answers h hport hld refused one binding peer same node,
    fun _ _ _ _ _ _ refused h hport hld none => bindRsp_unawaited h hport hld refused none,
    fun _ _ _ _ _ _ h hport hld => unbind_releases h hport hld,
    fun _ _ _ _ _ release h hport none => portreset_unclaimed h hport release none,
    fun _ _ _ _ _ _ h hport one here mine whole downstream => ⟨portreset_resets h hport one here mine whole,
      portreset_releases h hport one here mine downstream⟩,
    fun _ _ _ _ _ _ h hport one here mine part => portreset_ld h hport one here mine part,
    fun _ _ _ _ _ _ _ _ hk hhdr htrl hport hld hvcs inactive => peerMessages_end hk hhdr htrl hport hld hvcs (State.rxMgmt_idle inactive),
    fun _ _ _ _ _ _ _ _ hk hhdr htrl hport hld hvcs active bad =>
      peerMessages_end hk hhdr htrl hport hld hvcs (State.rxMgmt_bad active bad)⟩

end Sys2Proof.Machine
end

section
/-! PROOFS. What the loss of a Leat link leaves of the LEAT window: of its registers, all that the homes, the core and the flushing of what the
link cannot carry do to them is to record a write lost at a link (R170, R227, R250). -/
namespace Sys2Proof.Machine

/-- Every part of the state but the LEAT window. -/
def butLeat : Nat := 2 ^ 64 - 1 - 2 ^ 46

/-- Every step that the loss of a link's traffic consists of keeps `P`. -/
structure LinkLoss (P : State → Prop) : Prop where
  quiet : ∀ {s t : State}, P s → Keeps butLeat s t → P t
  lost : ∀ {s : State} (k : Nat) (m : Msg), P s → P (s.lostAtLink k m)

namespace LinkLoss

open Traffic (ite when snd_eq)

section
variable {P : State → Prop} (h : LinkLoss P) {s : State}
include h

/-! ### Messages that internal sources send, and those that are flushed -/

theorem undeliverable (e : Nat) (m : Msg) (hs : P s) : P (s.undeliverable e m) :=
  ite (h.quiet hs (State.lostAtPort_keeps rfl (.refl _ _))) (ite (h.lost _ m hs) (h.quiet hs (State.lostInside_keeps rfl (.refl _ _))))

theorem copyGone (d : Stored) (e : Nat) (hs : P s) : P (s.copyGone d e) := h.quiet hs (State.copyGone_keeps rfl (.refl _ _))

theorem flushQueue (e t g : Nat) (hs : P s) : P (s.flushQueue e t g) := by
  refine State.each_induct P (fun u en hu => ?_) (h.quiet hs (State.setQueue_keeps rfl (.refl _ _)))
  split
  · exact hu
  · exact h.copyGone _ e (h.undeliverable e _ hu)

theorem flushSending (e i : Nat) (hs : P s) : P (s.flushSending e i) := by
  unfold State.flushSending
  split
  · exact hs
  · extract_lets swc stopped
    have hStopped : P stopped := h.quiet hs (Keeps.set_swc rfl (.refl _ _))
    split
    · exact hStopped
    · exact h.copyGone _ e (h.undeliverable e _ (h.quiet hStopped (State.tdResolve_keeps rfl (.refl _ _))))

theorem flushEgress (e : Nat) (hs : P s) : P (s.flushEgress e) :=
  State.each_induct P (fun _ i ht => h.flushSending e i ht)
    (State.each_induct P (fun _ t ht => State.each_induct P (fun _ g hu => h.flushQueue e t g hu) ht) hs)

theorem unrouted (m : Msg) (hs : P s) : P (s.unrouted m) := ite (h.lost 0 m hs) (h.quiet hs (State.noRoute_keeps rfl (.refl _ _)))

theorem answering (m : Msg) {f : State → State} (hf : ∀ {t}, P t → P (f t)) (hs : P s) : P (s.answering m f) := by
  have done (a : Asked) : P (s.askedDone a) := h.quiet hs (State.askedDone_keeps rfl (.refl _ _))
  unfold State.answering
  split
  · exact hf hs
  · exact ite (done _) (hf (done _))

theorem inject (x : Nat) (m : Msg) (hs : P s) : P (s.inject x m) := by
  refine h.answering m (fun ht => ?_) hs
  split
  · exact h.unrouted m ht
  · exact ite (h.quiet ht (State.lostAtPort_keeps rfl (.refl _ _))) (h.quiet ht (State.injectTo_keeps rfl (.refl _ _)))

/-! ### The homes' transactions -/

theorem modTxn (l : Nat) (f : Txn → Txn) (hs : P s) : P (s.modTxn l f) := h.quiet hs (State.modTxn_keeps rfl (.refl _ _))

theorem endRow (l : Nat) (hs : P s) : P (s.endRow l) := h.quiet hs (State.endRow_keeps rfl (.refl _ _))

theorem freeCell (l : Nat) (hs : P s) : P (s.freeCell l) := h.quiet hs (State.freeCell_keeps rfl (.refl _ _))

theorem respond (l : Nat) (m : Msg) (g : Nat) (data : Option (Nat × Bool)) (bad : Bool) (hs : P s) : P (s.respond l m g data bad) :=
  h.inject _ _ hs

theorem issueWrite (l : Nat) (d : Nat × Bool) (be kept req : Nat) (dirty : Bool) (hs : P s) : P (s.issueWrite l d be kept req dirty).2 := by
  unfold State.issueWrite
  split
  · exact hs
  · split
    · split
      · dsimp only
        exact h.inject _ _ hs
      · dsimp only
        exact h.inject _ _ hs
    · exact h.quiet hs (State.poolSend_keeps rfl (.refl _ _))

theorem writeOut (l a : Nat) (told : Bool) (d : Nat × Bool) (be kept req : Nat) (dirty : Bool) (hs : P s) :
    P (s.writeOut l a told d be kept req dirty).2 :=
  have issued := h.issueWrite l d be kept req dirty hs
  ite issued (h.quiet issued (State.writeLost_keeps rfl (.refl _ _)))

theorem rowDone (l : Nat) (hs : P s) : P (s.rowDone l) := by
  unfold State.rowDone
  split
  · exact hs
  next t ht =>
    extract_lets isWrite room gave g0 g code q dirty ln oFull data pw answered filled dropped homeSnoop freed msg kept
    have hAnswered : P answered := by
      unfold answered
      split
      · exact ite hs (ite (h.inject _ _ hs) (h.respond _ _ _ _ _ (ite (h.quiet hs (State.countMsg_keeps rfl (.refl _ _))) hs)))
      · exact hs
    have hFilled : P filled := by
      refine ite ?_ hAnswered
      split
      · exact h.modTxn _ _ (h.quiet hAnswered (State.fillCell_keeps rfl (.refl _ _)))
      · exact hAnswered
    have hDropped : P dropped := h.quiet hFilled (State.dropKept_keeps rfl (.refl _ _))
    have hFreed : P freed := ite (h.freeCell l hDropped) hDropped
    split
    next gone first wroteFirst =>
      have hFirst : P first := by
        split at wroteFirst
        · exact snd_eq (h.writeOut _ _ _ _ _ _ _ _ hFreed) wroteFirst
        · exact snd_eq hFreed wroteFirst
      extract_lets early holds taken
      have hTaken : P taken := h.modTxn _ _ hFirst
      split
      · have hClosed := ite (c := t.req = 10) (h.modTxn l (fun t => { t with ln := {} }) hTaken) hTaken
        refine h.endRow _ (ite ?_ hClosed)
        split
        · exact h.respond _ _ _ _ _ hClosed
        · exact hClosed
      · split
        next ok wrote written =>
          have hWrote : P wrote := snd_eq (h.writeOut _ _ _ _ _ _ _ _ hTaken) written
          extract_lets entered failed
          have hEntered : P entered := ite (h.quiet hWrote (State.writeEntry_keeps rfl (.refl _ _))) hWrote
          have hFailed : P failed := by
            unfold failed
            generalize msg = owed
            split
            · exact h.respond _ _ _ _ _ hEntered
            · exact hEntered
          refine ite (h.modTxn _ _ hEntered) (ite (ite (h.endRow l hFailed) (h.modTxn _ _ hFailed)) ?_)
          exact h.endRow l (when _ (when _ hFailed fun hu => h.freeCell l hu) fun hu => h.modTxn _ _ hu)

theorem advance (l : Nat) (hs : P s) : P (s.advance l) := by
  unfold State.advance
  split
  · exact hs
  · exact ite hs (ite (ite (h.rowDone l (h.modTxn _ _ hs)) (h.modTxn _ _ hs)) (h.rowDone l hs))

theorem closeSnoop (l a cause : Nat) (hs : P s) : P (s.closeSnoop l a cause) := by
  unfold State.closeSnoop
  split
  · exact hs
  · exact ite hs (h.advance l (h.modTxn _ _ (ite (h.quiet hs (State.lostLine_keeps rfl (.refl _ _))) hs)))

theorem agentLost (a : Nat) (hs : P s) : P (s.agentLost a) :=
  State.each_induct P (fun _ l ht => h.closeSnoop l a 1 ht) (h.quiet hs (State.setDown_keeps rfl (.refl _ _)))

theorem openTxn (l : Nat) (msg : Option Msg) (req row : Nat) (ln : LineSt) (q way bcast : Option Nat) (hs : P s) :
    P (s.openTxn l msg req row ln q way bcast) := by
  unfold State.openTxn
  extract_lets old holds skip pws targets px ds need t opened down snooped asked
  have hOpened : P opened := h.quiet hs (State.setTxn_keeps rfl (.refl _ _))
  have hSnooped : P snooped := ite hOpened (h.quiet hOpened (State.sendSnoop_keeps rfl (.refl _ _)))
  have hAsked : P asked := by
    refine ite (ite (h.modTxn _ _ (h.inject _ _ hSnooped)) ?_) hSnooped
    have read := h.quiet hSnooped (State.poolSend_keeps (l := l) (data := none) (be := 0) rfl (.refl _ _))
    exact ite (h.modTxn _ _ read) (h.modTxn _ _ read)
  exact h.advance l (State.each_induct P (fun _ a ht => h.closeSnoop l a 1 ht) hAsked)

/-! ### Ways read, evicted and retired -/

theorem evict (w : Nat) (hs : P s) : P (s.evict w) := by
  refine h.openTxn _ _ _ _ _ _ _ _ (h.quiet hs ?_)
  exact State.setFentry_keeps rfl (State.countEv_keeps rfl (State.inc_keeps rfl (State.ageSet_keeps rfl (.refl _ _)) rfl))

theorem retireWay (k : Nat) (hs : P s) : P (s.retireWay k) := by
  refine ite (h.quiet hs (Keeps.set_wm rfl (.refl _ _))) ?_
  exact h.quiet (when _ hs fun ht => h.evict k ht) (Keeps.set_wm rfl (State.retire_keeps rfl (.refl _ _)))

theorem readWay (k kind : Nat) (hs : P s) : P (s.readWay k kind) := by
  have corrected {t : State} (ht : P t) : P (t.corrected k) := by
    have counted := h.quiet ht (State.snfLast_keeps (k := k) (kind := 0) rfl (State.inc_keeps (f := fSNF_ERR_COR) (i := 0) (n := 1) rfl (.refl _ _) rfl))
    exact ite (h.quiet counted (Keeps.set_wm rfl (.refl _ _)))
      (ite counted (ite (h.retireWay k counted) (h.quiet counted (State.pulse_keeps rfl (.refl _ _)))))
  have bad (inv : Bool) {t : State} (ht : P t) : P (t.badEntry k inv) := h.quiet ht (State.badEntry_keeps rfl (.refl _ _))
  have judged := when (s := s) (kind != 2 && s.entryBad (s.fentry k)) hs (bad true)
  exact ite (when _ (when _ judged fun ht => h.quiet ht (Keeps.set_wm rfl (.refl _ _))) (bad false)) (corrected judged)

theorem sweepRead (hs : P s) : P s.sweepRead := by
  refine State.each_induct P (fun _ e ht => h.readWay _ _ ht) (h.quiet ?_ (Keeps.set_wm rfl (.refl _ _)))
  exact State.each_induct P (fun _ k ht => h.readWay k 0 ht) (h.quiet hs (Keeps.set_wm rfl (.refl _ _)))

theorem recallWhere (ws : List Nat) (p : Nat → Bool) (hs : P s) : P (s.recallWhere ws p) := by
  refine State.each_induct P (fun t k ht => ?_) (h.sweepRead hs)
  exact ite ht (ite (h.quiet ht (State.rowLater_keeps rfl (.refl _ _))) (h.openTxn _ _ _ _ _ _ _ _ ht))

/-! ### What waits at a slice -/

theorem proxySnoop (l : Nat) (m : Msg) (hs : P s) : P (s.proxySnoop l m) :=
  ite (h.inject _ _ hs) (ite (h.quiet hs (Keeps.set_wm rfl (.refl _ _))) (h.openTxn _ _ _ _ _ _ _ _ hs))

theorem homeSnoop (l : Nat) (m : Msg) (hs : P s) : P (s.homeSnoop l m) := by
  have hTook : P (s.sliceTook (lineSlice l) m false) := h.quiet hs (State.sliceTook_keeps rfl (.refl _ _))
  have waits := h.quiet hTook (Keeps.set_wm (v0 := { (s.sliceTook (lineSlice l) m false).wm with
    deferred := (s.sliceTook (lineSlice l) m false).wm.deferred ++ [m] }) rfl (.refl _ _))
  unfold State.homeSnoop
  dsimp only
  split
  · exact h.proxySnoop l m hTook
  · refine ite waits (ite (h.proxySnoop l m hTook) (ite (h.quiet (h.proxySnoop l m ?_) (State.settleTxn_keeps rfl (.refl _ _))) waits))
    exact h.quiet hTook (State.setTxn_keeps rfl (Keeps.set_wm rfl (.refl _ _)))

theorem rowRetry (l req : Nat) (hs : P s) : P (s.rowRetry l req) := by
  have later : P (s.rowLater l req) := h.quiet hs (State.rowLater_keeps rfl (.refl _ _))
  refine ite (ite hs (ite (h.openTxn _ _ _ _ _ _ _ _ hs) later)) ?_
  split
  · exact ite later (h.openTxn _ _ _ _ _ _ _ _ hs)
  · exact later
  · exact hs

theorem runDeferred (hs : P s) : P s.runDeferred := by
  have hRetired : P (s.each s.wm.retiring State.retireWay) := State.each_induct P (fun _ k ht => h.retireWay k ht) hs
  refine State.each_induct P (fun _ r ht => h.rowRetry r.1 r.2 ht) (h.quiet ?_ (Keeps.set_wm rfl (.refl _ _)))
  refine State.each_induct P (fun _ m ht => h.homeSnoop _ m ht) (h.quiet ?_ (Keeps.set_wm rfl (.refl _ _)))
  exact State.each_induct P (fun _ l ht => h.advance l ht) hRetired

theorem poolData (l data : Nat) (poison : Bool) (hs : P s) : P (s.poolData l data poison) := by
  unfold State.poolData
  split
  · exact hs
  · exact ite (h.quiet (h.modTxn _ _ hs) (State.settleTxn_keeps rfl (.refl _ _))) (ite (h.advance l (h.modTxn _ _ hs)) hs)

theorem homeLost (node : Nat) (hs : P s) : P (s.homeLost node) := by
  refine h.runDeferred (h.recallWhere _ _ (h.quiet (State.each_induct P (fun t l ht => ?_) hs) (Keeps.set_wm rfl (.refl _ _))))
  split
  · exact ite (h.poolData _ _ _ ht) ht
  · exact ht

end

end LinkLoss

/-- The LEAT fields that a link's leaving service writes. -/
def leavingFields : List Fld :=
  [fLEAT_ROUTE_LINKS, fLEAT_REPLAY_OCC, fLEAT_ERR2_LOSTWR, fLEAT_LOSTADDR_L_ADDR_L, fLEAT_LOSTADDR_H_ADDR_H]

/-- A LEAT field that records no lost write reads the same. -/
theorem LinkLoss.reads {f : Fld} (i v : Nat) (window : windowBit f.key = 46) (other : f.key ∉ leavingFields.map Fld.key) :
    LinkLoss fun s => s.rd f i = v where
  quiet hs kept := (kept.rd f i (by rw [window]; decide)).trans hs
  lost {s} k m hs := by
    have replied {t : State} (ht : t.rd f i = v) (status : CplStatus) (poison : Bool) : (t.reply m status poison).rd f i = v :=
      ((State.reply_keeps (W := 0x8002) rfl (.refl _ t)).rd f i (by rw [window]; decide)).trans ht
    simp only [leavingFields, List.map_cons, List.map_nil, List.mem_cons, List.not_mem_nil, or_false, not_or] at other
    obtain ⟨-, -, lostwr, low, high⟩ := other
    unfold State.lostAtLink
    split
    · refine replied ?_ _ _
      rw [State.pulse_rd, State.wr2, State.rd_wr_key _ _ _ _ _ _ (Ne.symm high), State.rd_wr_key _ _ _ _ _ _ (Ne.symm low),
        State.rd_wrb_key _ _ _ _ _ _ (Ne.symm lostwr)]
      exact hs
    · exact replied hs _ _
    · exact Traffic.ite (P := fun t => t.rd f i = v) (replied hs _ _) (replied hs _ _)
    · exact replied hs _ _
    · exact replied hs _ _
    · exact replied hs _ _
    · exact hs

/-- A LEAT field that leaving service does not write reads as before. -/
theorem State.rd_leaveService (s : State) (k : Nat) {f : Fld} (i : Nat) (window : windowBit f.key = 46)
    (other : f.key ∉ leavingFields.map Fld.key) : (s.leaveService k).rd f i = s.rd f i := by
  have loss := LinkLoss.reads i (s.rd f i) window other
  simp only [leavingFields, List.map_cons, List.map_nil, List.mem_cons, List.not_mem_nil, or_false, not_or] at other
  obtain ⟨links, occ, -⟩ := other
  unfold State.leaveService
  extract_lets node masked emptied asked orphaned settled gone
  have hEmptied : emptied.rd f i = s.rd f i := by
    unfold emptied masked State.occNow State.linkMask State.putb
    rw [State.rd_wr_key _ _ _ _ _ _ (Ne.symm occ), State.lkMod_rd, State.rd_wr_key _ _ _ _ _ _ (Ne.symm links)]
  have hSettled : settled.rd f i = s.rd f i := by
    refine State.each_induct (fun t => t.rd f i = s.rd f i) (fun _ (o : Owed) ht => loss.lost k o.m ht) ?_
    exact loss.flushEgress _ hEmptied
  have hGone : gone.rd f i = s.rd f i := by
    unfold gone
    split
    · exact loss.homeLost node (Traffic.when (P := fun t => t.rd f i = s.rd f i) _ hSettled fun ht => loss.agentLost _ ht)
    · exact hSettled
  exact loss.quiet hGone (State.drainAll_keeps rfl (.refl _ _))

end Sys2Proof.Machine
end

section
/-! PROOFS. Leat links that stop, go down, retrain and train: what each of these leaves of the link's registers and of its nine lanes. -/
namespace Sys2Proof.Machine

/-! ### The lanes of a link -/

theorem laneOf_mem (k : Nat) {i : Nat} (hi : i < 9) : laneOf k i ∈ linkLanes k := List.mem_map_of_mem (List.mem_range.2 hi)

/-- What a step makes of its own lane and leaves of the others, it has made of every lane of a list in the end. -/
theorem State.each_lanes {f : State → Nat → State} {Q : State → Nat → Prop} (own : ∀ s l, Q (f s l) l)
    (other : ∀ s l m, l ≠ m → Q s m → Q (f s l) m) (ls : List Nat) (s : State) : ∀ l ∈ ls, Q (s.each ls f) l := by
  have stays : ∀ (ls : List Nat) (s : State) (l : Nat), Q s l → Q (s.each ls f) l := fun ls s l hs => by
    refine State.each_induct (Q · l) (fun t m ht => ?_) hs
    by_cases same : m = l
    · exact same ▸ own t m
    · exact other t m l same ht
  induction ls generalizing s with
  | nil => nofun
  | cons m ls ih =>
    intro l hl
    rcases List.mem_cons.1 hl with rfl | hl
    · exact stays ls _ _ (own s l)
    · exact ih _ l hl

section
variable (s : State) {l m : Nat} (apart : l ≠ m) (g : Fld)
include apart

theorem State.rd_laneDetect_inst : (s.laneDetect l).rd g m = s.rd g m := by
  unfold State.laneDetect State.setStage
  rw [State.laneMod_rd, State.rd_wr_inst _ _ _ _ apart, State.rd_wrb_inst _ _ _ _ apart, State.rd_wrb_inst _ _ _ _ apart,
    State.rd_wrb_inst _ _ _ _ apart]
  have kept : (s.adaptKeep l).rd g m = s.rd g m := by
    unfold State.adaptKeep
    rw [State.rd_wr_inst _ _ _ _ apart, State.rd_wr_inst _ _ _ _ apart, State.rd_wr_inst _ _ _ _ apart]
  unfold State.eyeLost
  split
  · rw [State.rd_wr_inst _ _ _ _ apart, State.rd_wrb_inst _ _ _ _ apart, State.laneMod_rd, kept]
  · exact kept

theorem State.rd_laneStop_inst : (s.laneStop l).rd g m = s.rd g m := by
  unfold State.laneStop State.setStage
  rw [State.laneMod_rd, State.rd_wr_inst _ _ _ _ apart, s.rd_laneDetect_inst apart]

theorem State.rd_setPreset_inst (p : Nat) : (s.setPreset l p).rd g m = s.rd g m := by
  unfold State.setPreset State.setTaps
  simp only [State.rd_wr_inst _ _ _ _ apart]

theorem State.rd_laneStart_inst (rate : Nat) : (s.laneStart l rate).rd g m = s.rd g m := by
  unfold State.laneStart
  rw [State.rd_wr_inst _ _ _ _ apart, State.rd_setPreset_inst _ apart, State.laneMod_rd, s.rd_laneDetect_inst apart]

theorem State.lane_laneStart_inst (rate : Nat) : (s.laneStart l rate).lane m = s.lane m := by
  unfold State.laneStart State.laneDetect
  rw [State.lane_wr, State.lane_setPreset, State.lane_laneMod, if_neg apart, State.lane_laneMod, if_neg apart]
  show ((s.adaptKeep l).eyeLost l).lane m = s.lane m
  unfold State.eyeLost
  split
  · rw [State.lane_wr, State.lane_wrb, State.lane_laneMod, if_neg apart]
    rfl
  · rfl

theorem State.rd_laneFail_inst (cause : Nat) : (s.laneFail l cause).rd g m = s.rd g m := by
  unfold State.laneFail
  rw [State.rd_laneDetect_inst _ apart, State.rd_when_pulse, State.rd_wr_inst _ _ _ _ apart]

end

theorem State.laneStop_stage (s : State) (l : Nat) : (s.laneStop l).laneStage l = 0 := by
  unfold State.laneStop State.laneStage State.setStage
  rw [State.laneMod_rd, State.rd_wr_same]
  rfl

/-- A lane that starts is in DETECT, at preset P4, and its markers carry LPOS 0xE. -/
theorem State.laneStart_shows (s : State) (l rate : Nat) :
    (s.laneStart l rate).laneStage l = 1 ∧ (s.laneStart l rate).rd fSER_TXEQ_PRESET l = 4 ∧ ((s.laneStart l rate).lane l).tx = 0xE := by
  unfold State.laneStart State.laneStage State.setPreset State.setTaps
  simp (disch := decide) only [State.rd_wr_key, State.rd_wr_same, State.laneMod_rd, State.lane_wr, State.lane_laneMod_same]
  exact ⟨(s.laneDetect_shows l).1, rfl, trivial⟩

/-- The nine lanes of a link stopped are OFF. -/
theorem State.lanes_stopped (s : State) (k : Nat) : ∀ l ∈ linkLanes k, (s.each (linkLanes k) State.laneStop).laneStage l = 0 :=
  State.each_lanes (Q := fun t l => t.laneStage l = 0) State.laneStop_stage
    (fun t _ _ apart ht => (t.rd_laneStop_inst apart _).trans ht) (linkLanes k) s

/-- The nine lanes of a link started are in DETECT, at preset P4 and with LPOS 0xE. -/
theorem State.lanes_started (s : State) (k : Nat) (rate : State → Nat) : ∀ l ∈ linkLanes k,
    (s.each (linkLanes k) fun t l => t.laneStart l (rate t)).laneStage l = 1
    ∧ (s.each (linkLanes k) fun t l => t.laneStart l (rate t)).rd fSER_TXEQ_PRESET l = 4
    ∧ ((s.each (linkLanes k) fun t l => t.laneStart l (rate t)).lane l).tx = 0xE := by
  refine State.each_lanes (Q := fun t l => t.laneStage l = 1 ∧ t.rd fSER_TXEQ_PRESET l = 4 ∧ (t.lane l).tx = 0xE)
    (fun t l => t.laneStart_shows l _) (fun t l m apart ht => ?_) (linkLanes k) s
  obtain ⟨stage, preset, tx⟩ := ht
  exact ⟨(t.rd_laneStart_inst apart _ _).trans stage, (t.rd_laneStart_inst apart _ _).trans preset,
    (congrArg Lane.tx (t.lane_laneStart_inst apart _)).trans tx⟩

/-- Every lane of a link that is not OFF fails as miswired (R113). -/
theorem State.miswireAll_shows (s : State) (k l : Nat) (hl : l ∈ linkLanes k) (on : s.laneStage l ≠ 0) :
    (s.miswireAll k).laneStage l = 1 ∧ (s.miswireAll k).rd fSER_LSTAT_FAILCAUSE l = 8 := by
  refine State.each_lanes (Q := fun t l => t.laneStage l = 1 ∧ t.rd fSER_LSTAT_FAILCAUSE l = 8) (fun t l => ?_) (fun t l m apart ht => ?_)
    ((linkLanes k).filter fun l => s.laneStage l != 0) s l (List.mem_filter.2 ⟨hl, bne_iff_ne.2 on⟩)
  · obtain ⟨stage, cause, -⟩ := (t.wr fSER_LSTAT_ORDER l 3).laneFail_shows l (show 8 < 16 by decide)
    exact ⟨(State.laneMod_rd ..).trans stage, (State.laneMod_rd ..).trans cause⟩
  · have same (g : Fld) : ((t.miswire l).laneMod l fun n => { n with known := false }).rd g m = t.rd g m := by
      unfold State.miswire
      rw [State.laneMod_rd, State.rd_laneFail_inst _ apart, State.rd_wr_inst _ _ _ _ apart]
    obtain ⟨stage, cause⟩ := ht
    exact ⟨(same _).trans stage, (same _).trans cause⟩

theorem State.regs_each_laneMod (s : State) (ls : List Nat) (f : Lane → Lane) : (s.each ls fun t l => t.laneMod l f).regs = s.regs :=
  State.each_induct (f := fun t l => t.laneMod l f) (fun t => t.regs = s.regs) (fun _ _ ht => ht) rfl

/-! ### Maps and the spare -/

theorem State.rd_spareNow (s : State) (k : Nat) (g : Fld) (i : Nat) (h : g.key ∉ [fLEAT_STAT_SPAREOK.key, fLEAT_GSTAT_SPAREOK.key]) :
    (s.spareNow k).rd g i = s.rd g i := by
  simp only [List.mem_cons, List.not_mem_nil, or_false, not_or] at h
  obtain ⟨ok, group⟩ := h
  unfold State.spareNow State.putb
  rw [State.rd_wr_key _ _ _ _ _ _ (Ne.symm group), State.rd_wrb_key _ _ _ _ _ _ (Ne.symm ok)]

theorem State.rd_unmap (s : State) (k : Nat) (g : Fld) (i : Nat)
    (h : g.key ∉ [fLEAT_TXMAP_MAP.key, fLEAT_RXMAP_MAP.key, fLEAT_STAT_TXW4.key, fLEAT_STAT_RXW4.key]) : (s.unmap k).rd g i = s.rd g i := by
  simp only [List.mem_cons, List.not_mem_nil, or_false, not_or] at h
  obtain ⟨tx, rx, tx4, rx4⟩ := h
  unfold State.unmap
  rw [State.rd_wrb_key _ _ _ _ _ _ (Ne.symm rx4), State.rd_wrb_key _ _ _ _ _ _ (Ne.symm tx4), State.rd_wr_key _ _ _ _ _ _ (Ne.symm rx),
    State.rd_wr_key _ _ _ _ _ _ (Ne.symm tx)]

theorem State.unmap_txmap (s : State) (k : Nat) : (s.unmap k).rd fLEAT_TXMAP_MAP k = 0xFFFFFFFF := by
  unfold State.unmap
  simp (disch := decide) only [State.rd_wr_key, State.rd_wrb_key, State.rd_wr_same]
  rfl

/-! ### Links that stop and go down (R164, R170) -/

/-- A link that stops is in the state named, unmapped, with its lanes OFF. -/
theorem State.linkStop_shows (s : State) (k : Nat) {st : Nat} (hst : st < 8) :
    (s.linkStop k st).lkState k = st ∧ (s.linkStop k st).rd fLEAT_TXMAP_MAP k = 0xFFFFFFFF
    ∧ ∀ l ∈ linkLanes k, (s.linkStop k st).laneStage l = 0 := by
  refine ⟨?_, ?_, fun l hl => ?_⟩
  · unfold State.linkStop State.lkState State.putb
    simp (disch := decide) only [State.rd_spareNow, State.rd_wr_key, State.rd_wrb_key, State.lkMod_rd, State.rd_wr_same]
    exact Nat.mod_eq_of_lt hst
  · unfold State.linkStop State.putb
    simp (disch := decide) only [State.rd_spareNow, State.rd_wr_key, State.rd_wrb_key, State.lkMod_rd, State.unmap_txmap]
  · refine Eq.trans ?_ (s.lanes_stopped k l hl)
    unfold State.linkStop State.laneStage State.putb
    simp (disch := decide) only [State.rd_spareNow, State.rd_wr_key, State.rd_wrb_key, State.lkMod_rd, State.rd_unmap]

/-- A link that has gone DOWN shows why, whether it leaves service or not. -/
theorem State.goDown_shows (s : State) (k : Nat) {cause : Nat} (hc : cause < 16) :
    (s.goDown k cause).lkState k = 6 ∧ (s.goDown k cause).rd fLEAT_STAT_DOWNCAUSE k = cause
    ∧ (s.goDown k cause).rd fLEAT_TXMAP_MAP k = 0xFFFFFFFF ∧ ∀ i, i < 9 → (s.goDown k cause).laneStage (laneOf k i) = 0 := by
  obtain ⟨state, map, lanes⟩ := s.linkStop_shows k (st := 6) (by decide)
  unfold State.goDown
  extract_lets st down
  have hState : down.lkState k = 6 := (State.pulse_rd ..).trans ((State.rd_wr_key _ _ _ _ _ _ (by decide)).trans state)
  have hCause : down.rd fLEAT_STAT_DOWNCAUSE k = cause := (State.pulse_rd ..).trans ((State.rd_wr_same ..).trans (Nat.mod_eq_of_lt hc))
  have hMap : down.rd fLEAT_TXMAP_MAP k = 0xFFFFFFFF := (State.pulse_rd ..).trans ((State.rd_wr_key _ _ _ _ _ _ (by decide)).trans map)
  have hLanes (i : Nat) (hi : i < 9) : down.laneStage (laneOf k i) = 0 :=
    (State.pulse_rd ..).trans ((State.rd_wr_key _ _ _ _ _ _ (by decide)).trans (lanes _ (laneOf_mem k hi)))
  clear_value down
  have left {f : Fld} (i : Nat) (window : windowBit f.key = 46) (other : f.key ∉ leavingFields.map Fld.key) :
      (down.when_ (st == 4 || st == 5) fun t => t.leaveService k).rd f i = down.rd f i :=
    Traffic.when (P := fun t => t.rd f i = down.rd f i) _ rfl fun ht => (State.rd_leaveService _ k i window other).trans ht
  have still : Keeps 0x10c87aa81208e602 down (down.when_ (st == 4 || st == 5) fun t => t.leaveService k) :=
    State.when_keeps (.refl _ _) fun _ ht => State.leaveService_keeps rfl ht
  exact ⟨(left k (by decide) (by decide)).trans hState, (left k (by decide) (by decide)).trans hCause,
    (left k (by decide) (by decide)).trans hMap, fun i hi => (still.rd _ _ (by decide)).trans (hLanes i hi)⟩

/-! ### A retrain (R169) -/

/-- Link `k` in RETRAIN, once its last unit has gone. -/
def State.retrained (s : State) (k : Nat) : State :=
  let s := ((s.inc fLEAT_ERR2_RETRAINS k).wr fLEAT_STAT_STATE k 5).unmap k
  let s := s.lkMod k fun l =>
    { l with exch := false, assigned := false, initSeen := [], spareAsk := none, resume := true, lpAsked := false,
             quiet := true, txSp := none, rxSp := none }
  let s := s.each (linkLanes k) fun s l => s.laneMod l fun n => { n with tx := 0xE }
  ((s.wrb fLEAT_LP_DOZING k false).putb fLEAT_GSTAT_UP 0 k false).spareNow k

theorem State.retrained_keeps (s : State) (k : Nat) : Keeps 0x400000003000 s (s.retrained k) := by
  refine State.spareNow_keeps rfl (State.putb_keeps rfl (State.wrb_keeps rfl (State.each_keeps ?_ fun _ ht _ => State.laneMod_keeps rfl ht) rfl) rfl)
  exact State.lkMod_keeps rfl (State.unmap_keeps rfl (State.wr_keeps (State.inc_keeps rfl (.refl _ _) rfl) rfl))

/-- An ACTIVE link sends RETRAIN_REQ as its last unit. -/
theorem State.retrain_active {s : State} {k : Nat} (active : s.lkState k = 3) (cause : Nat) :
    s.retrain k cause = (s.sendUnit k (s.hdrTo k 3 3 60 63) (trlWord (s.rd fLEAT_TXSEQ_NEXT k) 0 3 0) (ctlWords [2, cause])).retrained k := by
  unfold State.retrain
  dsimp only
  rw [active]
  rfl

/-- A dozing link has nothing to send with. -/
theorem State.retrain_dozing {s : State} {k : Nat} (dozing : s.lkState k = 4) (cause : Nat) : s.retrain k cause = s.retrained k := by
  unfold State.retrain
  dsimp only
  rw [dozing]
  rfl

theorem State.rd_retrained (s : State) (k : Nat) :
    (s.retrained k).lkState k = 5 ∧ (s.retrained k).rd fLEAT_LP_DOZING k = 0
    ∧ (s.retrained k).rd fLEAT_ERR2_RETRAINS k = satAdd fLEAT_ERR2_RETRAINS.width (s.rd fLEAT_ERR2_RETRAINS k) 1
    ∧ (s.retrained k).rd fLEAT_ERR2_PROTO k = s.rd fLEAT_ERR2_PROTO k := by
  unfold State.retrained State.lkState State.putb
  simp (disch := decide) only [State.rd_spareNow, State.rd_wr_key, State.rd_wrb_key, State.rd_wr_same, State.rd_wrb_same,
    State.rd_congr (State.regs_each_laneMod ..), State.lkMod_rd, State.rd_unmap, State.rd_inc_same, State.rd_inc_key]
  exact ⟨rfl, rfl, trivial, trivial⟩

/-- An ACTIVE link that retrains is counted. -/
theorem State.retrain_shows {s : State} {k : Nat} (active : s.lkState k = 3) (cause : Nat) :
    (s.retrain k cause).lkState k = 5
    ∧ (s.retrain k cause).rd fLEAT_ERR2_RETRAINS k = satAdd fLEAT_ERR2_RETRAINS.width (s.rd fLEAT_ERR2_RETRAINS k) 1
    ∧ (s.retrain k cause).rd fLEAT_ERR2_PROTO k = s.rd fLEAT_ERR2_PROTO k := by
  rw [State.retrain_active active]
  obtain ⟨state, -, count, proto⟩ := State.rd_retrained
    (s.sendUnit k (s.hdrTo k 3 3 60 63) (trlWord (s.rd fLEAT_TXSEQ_NEXT k) 0 3 0) (ctlWords [2, cause])) k
  exact ⟨state, count, proto⟩

theorem State.lkActive_iff {s : State} {k : Nat} : s.lkActive k = true ↔ s.lkState k = 3 := beq_iff_eq

theorem State.lkActive_of_ne {s : State} {k : Nat} (h : s.lkState k ≠ 3) : s.lkActive k = false := beq_eq_false_iff_ne.2 h

/-! ### Training (R164) -/

/-- A link that trains is in TRAINING at the rate of LEAT_CTL, and its lanes start. -/
theorem State.enterTraining_shows (s : State) (k : Nat) :
    (s.enterTraining k).lkState k = 1 ∧ ((s.enterTraining k).lk k).rate = s.rd fLEAT_CTL_RATE k
    ∧ ∀ i, i < 9 → (s.enterTraining k).laneStage (laneOf k i) = 1 := by
  unfold State.enterTraining
  extract_lets r begun
  have kept : Keeps 0x440000001000 begun ((begun.each (linkLanes k) fun t l => t.laneStart l r).wr fLEAT_STAT_STATE k 1) :=
    State.wr_keeps (State.each_keeps (.refl _ _) fun _ ht _ => State.laneStart_keeps rfl ht) rfl
  refine ⟨State.rd_wr_same .., ?_, fun i hi => ?_⟩
  · rw [State.lk_congr (kept.leat (by decide)), State.lk_lkMod, if_pos rfl]
  · exact (State.rd_wr_key _ _ _ _ _ _ (by decide)).trans (begun.lanes_started k (fun _ => r) _ (laneOf_mem k hi)).1

end Sys2Proof.Machine
end

section
/-! PROOFS. Units sent on a link: what sending a unit, filling the slots of a link and resending leave of the link's record and registers. -/
namespace Sys2Proof.Machine

@[simp] theorem State.lk_lkMod_same (s : State) (k : Nat) (f : Leat → Leat) : (s.lkMod k f).lk k = f (s.lk k) :=
  (s.lk_lkMod k f k).trans (if_pos rfl)

@[simp] theorem State.lk_wr (s : State) (f : Fld) (i v k : Nat) : (s.wr f i v).lk k = s.lk k := rfl

@[simp] theorem State.lk_sendUnit (s : State) (k hdr trl : Nat) (ws : List Nat) (j : Nat) : (s.sendUnit k hdr trl ws).lk j = s.lk j := rfl

/-- What a unit put on the wire leaves of a link's record. -/
def Leat.unsent (l : Leat) : Leat := { l with credNext := 0, sends := 0, replay := [] }

/-- What the slots of a link leave of its record. -/
def Leat.standing (l : Leat) : Leat :=
  { l with credNext := 0, sends := 0, replay := [], mgmtWait := [], tx0 := [], tx1 := [], tx2 := [], reqSkip := 0, dataAt := 0, lpAsked := false }

theorem Leat.standing_of_unsent {l l' : Leat} (h : l'.unsent = l.unsent) : l'.standing = l.standing := by
  show l'.unsent.standing = l.unsent.standing
  rw [h]

/-- A link's record and registers as a unit on the wire leaves them, with as many units kept for replay. -/
def State.Emits (k : Nat) (s t : State) : Prop :=
  t.regs = s.regs ∧ (t.lk k).unsent = (s.lk k).unsent ∧ (t.lk k).replay.length = (s.lk k).replay.length

theorem State.Emits.trans {k : Nat} {s t u : State} (h : State.Emits k s t) (h' : State.Emits k t u) : State.Emits k s u :=
  ⟨h'.1.trans h.1, h'.2.1.trans h.2.1, h'.2.2.trans h.2.2⟩

/-- Outputs leave the registers and the links. -/
theorem State.sendAll_still (s : State) (os : List Out) : (s.sendAll os).regs = s.regs ∧ (s.sendAll os).leat = s.leat :=
  foldl_keeps (f := State.send) (P := fun t : State => t.regs = s.regs ∧ t.leat = s.leat) (fun _ _ ht => ht) ⟨rfl, rfl⟩

theorem State.emit_emits (s : State) (k : Nat) (u : TxUnit) : State.Emits k s (s.emit k u) := by
  unfold State.emit State.trailer
  dsimp only
  obtain ⟨regs, leat⟩ := State.sendAll_still (State.sendUnit _ k _ _ u.words) (u.msgs.map fun m => Out.carried k u.seq m)
  refine ⟨regs, ?_, ?_⟩
  · rw [State.lk_congr leat, State.lk_sendUnit, State.lk_lkMod_same, State.lk_lkMod_same]
    rfl
  · rw [State.lk_congr leat, State.lk_sendUnit, State.lk_lkMod_same, State.lk_lkMod_same]
    exact List.length_map ..

/-- An IDLE unit that follows the last. -/
theorem State.idle_emits (s : State) (k seq : Nat) (v : Bool) (hdr trl : Nat) :
    State.Emits k s (((s.trailer k seq v).2).sendUnit k hdr trl []) := by
  have lk : (((s.trailer k seq v).2).sendUnit k hdr trl []).lk k = { (s.lk k) with credNext := ((s.lk k).credNext + 1) % 3 } := by
    unfold State.trailer
    rw [State.lk_sendUnit, State.lk_lkMod_same]
  refine ⟨rfl, ?_, ?_⟩
  · rw [lk]
    rfl
  · rw [lk]

theorem Keeps.lk {w : Nat} {z s : State} (h : Keeps w z s) (hw : w.testBit 13 = false) (k : Nat) : s.lk k = z.lk k := State.lk_congr (h.leat hw) k

/-- Units resent leave every register field but those of the Flume's window. -/
theorem State.resend_emits (s : State) (k : Nat) (us : List TxUnit) :
    (∀ f i, (s.resend k us).rd f i = s.rd f i) ∧ ((s.resend k us).lk k).unsent = (s.lk k).unsent
    ∧ ((s.resend k us).lk k).replay.length = (s.lk k).replay.length := by
  refine State.each_induct (fun t => (∀ f i, t.rd f i = s.rd f i) ∧ (t.lk k).unsent = (s.lk k).unsent
    ∧ (t.lk k).replay.length = (s.lk k).replay.length) (fun t u ht => ?_) ⟨fun _ _ => rfl, rfl, rfl⟩
  obtain ⟨reads, record, length⟩ := ht
  obtain ⟨regs, record', length'⟩ := t.emit_emits k u
  have counted : Keeps 0x400 (t.emit k u) ((t.emit k u).countEv 0x06 (tileOfLink k) k) := State.countEv_keeps rfl (.refl _ _)
  have lk := counted.lk (by decide) k
  refine ⟨fun f i => ((counted.rd f i ?_).trans (State.rd_congr regs f i)).trans (reads f i), ?_, ?_⟩
  · have := windowBit_range f.key
    generalize windowBit f.key = n at this
    obtain ⟨low, high⟩ := this
    interval_cases n <;> decide
  · rw [lk, record', record]
  · rw [lk, length', length]

/-! ### New units, and the slots of a link (R154, R155) -/

theorem State.rd_newUnit (s : State) (k : Nat) (u : TxUnit) (g : Fld) (i : Nat) (h : g.key ∉ [fLEAT_TXSEQ_NEXT.key, fLEAT_REPLAY_OCC.key]) :
    (s.newUnit k u).rd g i = s.rd g i := by
  simp only [List.mem_cons, List.not_mem_nil, or_false, not_or] at h
  obtain ⟨next, occ⟩ := h
  unfold State.newUnit State.occNow
  dsimp only
  rw [State.rd_wr_key _ _ _ _ _ _ (Ne.symm occ), State.rd_congr (State.emit_emits ..).1, State.rd_wr_key _ _ _ _ _ _ (Ne.symm next),
    State.lkMod_rd]

theorem State.newUnit_next (s : State) (k : Nat) (u : TxUnit) :
    (s.newUnit k u).rd fLEAT_TXSEQ_NEXT k = (s.rd fLEAT_TXSEQ_NEXT k + 1) % 4096 := by
  unfold State.newUnit State.occNow
  dsimp only
  rw [State.rd_wr_key _ _ _ _ _ _ (by decide), State.rd_congr (State.emit_emits ..).1, State.rd_wr_same]
  rfl

/-- A new unit is one more that is kept for replay; nothing else of the record changes but what every unit on the wire changes. -/
theorem State.newUnit_lk (s : State) (k : Nat) (u : TxUnit) :
    ((s.newUnit k u).lk k).unsent = (s.lk k).unsent ∧ ((s.newUnit k u).lk k).replay.length = (s.lk k).replay.length + 1 := by
  unfold State.newUnit State.occNow
  extract_lets numbered kept
  obtain ⟨-, record, length⟩ := (kept.wr fLEAT_TXSEQ_NEXT k (numbered.seq + 1)).emit_emits k numbered
  have lk : kept.lk k = { (s.lk k) with replay := (s.lk k).replay ++ [numbered] } := State.lk_lkMod_same ..
  rw [State.lk_wr, record, length, State.lk_wr, lk]
  exact ⟨rfl, List.length_append⟩

section
variable {s : State} {k : Nat}

theorem State.dataUnit_standing (v : Nat) (u : TxUnit) : ((s.dataUnit k v u).lk k).standing = (s.lk k).standing := by
  unfold State.dataUnit
  extract_lets sent
  refine State.each_induct (f := fun t m => t.flowOn k m) (fun t => (t.lk k).standing = (s.lk k).standing) (fun _ _ ht => ht) ?_
  rw [State.lk_lkMod_same]
  have same : (sent.lk k).standing = (s.lk k).standing := Leat.standing_of_unsent (s.newUnit_lk k u).1
  exact same

theorem State.unitSlot_standing {t : State} (used : s.unitSlot k = some t) : (t.lk k).standing = (s.lk k).standing := by
  unfold State.unitSlot at used
  split at used
  · exact absurd used nofun
  · split at used
    · rw [← Option.some.inj used, Leat.standing_of_unsent (State.newUnit_lk ..).1, State.lk_lkMod_same]
      rfl
    · split at used
      · exact absurd used nofun
      · split at used
        · exact absurd used nofun
        · rw [← Option.some.inj used, State.dataUnit_standing, State.lk_lkMod_same]
          unfold State.setTxq
          rw [State.lk_lkMod_same]
          split
          · rfl
          · split <;> rfl

theorem State.linkGo_standing (sent : Bool) : ((s.linkGo k sent).lk k).standing = (s.lk k).standing := by
  have slots (n : Nat) : ∀ (sent : Bool) (s : State), ((State.unitSlots n sent k s).lk k).standing = (s.lk k).standing := by
    induction n with
    | zero => exact fun _ _ => rfl
    | succ n ih =>
      intro sent s
      unfold State.unitSlots
      split
      next used => exact (ih true _).trans (State.unitSlot_standing used)
      · split
        · exact Leat.standing_of_unsent (State.idle_emits s k (s.rd fLEAT_TXSEQ_NEXT k) false _ _).2.1
        · rfl
  unfold State.linkGo
  dsimp only
  split
  · exact slots ..
  · rfl

/-- What a link sends leaves every register field alone but those that a unit sent writes. -/
theorem Units.reads {f : Fld} (i v : Nat) (other : f.key ∉ sentFields.map Fld.key) : Units fun s => s.rd f i = v where
  link _ _ hs := hs
  flow _ _ hs := hs
  send _ hs := hs
  sent _ _ _ hg hs := (State.rd_wr_key _ _ _ _ _ _ fun e => other (e ▸ hg)).trans hs

theorem State.rd_linkGo {f : Fld} (i : Nat) (other : f.key ∉ sentFields.map Fld.key) (sent : Bool) : (s.linkGo k sent).rd f i = s.rd f i :=
  (Units.reads i _ other).linkGo k sent rfl

theorem State.linkGo_idle (inactive : s.lkState k ≠ 3) (sent : Bool) : s.linkGo k sent = s := by
  unfold State.linkGo
  dsimp only
  rw [State.lkActive_of_ne inactive, if_neg Bool.false_ne_true]

/-- Nothing waits on link `k` for a slot. -/
def Leat.Empty (l : Leat) : Prop := l.mgmtWait = [] ∧ l.tx0 = [] ∧ l.tx1 = [] ∧ l.tx2 = []

theorem Leat.Empty.congr {l l' : Leat} (h : l.Empty) (same : l'.unsent = l.unsent) : l'.Empty := by
  obtain ⟨mgmt, req, snp, rsp⟩ := h
  exact ⟨(congrArg Leat.mgmtWait same).trans mgmt, (congrArg Leat.tx0 same).trans req, (congrArg Leat.tx1 same).trans snp,
    (congrArg Leat.tx2 same).trans rsp⟩

/-- A link on which nothing waits has nothing for a slot. -/
theorem State.unitSlot_empty (empty : (s.lk k).Empty) : s.unitSlot k = none := by
  obtain ⟨mgmt, req, snp, rsp⟩ := empty
  have none (v : Nat) : s.dataReady k v = false := by
    unfold State.dataReady State.txq
    dsimp only
    rw [req, snp, rsp, ite_self, ite_self]
    rfl
  have slot : s.slotVc k = Option.none := by
    unfold State.slotVc
    simp [none]
  unfold State.unitSlot
  rw [mgmt, slot]
  exact ite_self _

/-- A link on which nothing waits at most follows its last unit by an IDLE unit. -/
theorem State.unitSlots_empty (empty : (s.lk k).Empty) (n : Nat) (sent : Bool) : State.Emits k s (State.unitSlots n sent k s) := by
  cases n with
  | zero => exact ⟨rfl, rfl, rfl⟩
  | succ n =>
    unfold State.unitSlots
    rw [State.unitSlot_empty empty]
    dsimp only
    split
    · exact State.idle_emits s k (s.rd fLEAT_TXSEQ_NEXT k) false _ _
    · exact ⟨rfl, rfl, rfl⟩

theorem State.linkGo_empty (empty : (s.lk k).Empty) (sent : Bool) : State.Emits k s (s.linkGo k sent) := by
  unfold State.linkGo
  dsimp only
  split
  · exact State.unitSlots_empty empty _ _
  · exact ⟨rfl, rfl, rfl⟩

/-- A LINKMGT operation of an ACTIVE link on which nothing waits goes out at once. -/
theorem State.mgmtSend_now (active : s.lkActive k = true) (room : s.replayRoom k 1 = true) (empty : (s.lk k).Empty) (op : List Nat) :
    (s.mgmtSend k op).rd fLEAT_TXSEQ_NEXT k = (s.rd fLEAT_TXSEQ_NEXT k + 1) % 4096
    ∧ ((s.mgmtSend k op).lk k).replay.length = (s.lk k).replay.length + 1 := by
  have none := empty
  obtain ⟨mgmt, req, snp, rsp⟩ := empty
  let asked := s.lkMod k fun l => { l with mgmtWait := l.mgmtWait ++ [op] }
  let taken := asked.lkMod k fun l => { l with mgmtWait := [] }
  let sent := taken.newUnit k { vc := 3, words := ctlWords op }
  have record : asked.lk k = { s.lk k with mgmtWait := [op] } := by
    unfold asked
    rw [State.lk_lkMod_same, mgmt]
    rfl
  have record' : taken.lk k = s.lk k := by
    unfold taken
    rw [State.lk_lkMod_same, record, ← mgmt]
  have slot : asked.unitSlot k = some sent := by
    have room' : asked.replayRoom k 1 = true := by
      unfold State.replayRoom
      rw [record]
      exact room
    unfold State.unitSlot
    rw [if_neg (not_not.2 room'), record]
  have queued : s.mgmtQueue k op = State.unitSlots 1 true k sent := by
    have active' : asked.lkActive k = true := active
    show asked.linkGo k = _
    unfold State.linkGo
    dsimp only
    rw [if_pos active', record, req, snp, rsp]
    show State.unitSlots 2 false k asked = _
    rw [State.unitSlots, slot]
  obtain ⟨unsent, length⟩ := taken.newUnit_lk k { vc := 3, words := ctlWords op }
  have emptied : (sent.lk k).Empty := Leat.Empty.congr (by rw [record']; exact none) unsent
  obtain ⟨regs, -, same⟩ := State.unitSlots_empty emptied 1 true
  have reads (f : Fld) : (s.mgmtQueue k op).rd f k = sent.rd f k := by rw [queued]; exact State.rd_congr regs f k
  have up : (s.mgmtQueue k op).lkState k = 3 :=
    ((reads _).trans (taken.rd_newUnit _ _ _ _ (by decide))).trans (State.lkActive_iff.1 active)
  have sends : s.mgmtSend k op = s.mgmtQueue k op := by
    unfold State.mgmtSend
    dsimp only
    rw [up, if_neg (by decide)]
  rw [sends]
  refine ⟨(reads _).trans (taken.newUnit_next ..), ?_⟩
  rw [queued, same, length, record']

end

end Sys2Proof.Machine
end

section
/-! PROOFS. The control register of a Leat link: enabling, disabling and retraining it (R164, R169, R179). -/
namespace Sys2Proof.Machine

/-- The fields of LEAT_CTL. -/
theorem leatCtl_fields : fieldsAt 0xC01000 = [fLEAT_CTL_ENABLE, fLEAT_CTL_RATE, fLEAT_CTL_SPARE, fLEAT_CTL_DEGOK, fLEAT_CTL_RETRAIN] := by
  decide +kernel

theorem leatCtl_apart : ((fieldsAt 0xC01000).map Fld.key).Nodup := by
  rw [leatCtl_fields]
  decide

theorem State.linkTry_disabled {s : State} {k : Nat} (off : s.rdb fLEAT_CTL_ENABLE k = false) : s.linkTry k = s :=
  if_neg fun ⟨_, on, _⟩ => by simp [off] at on

theorem State.linkTry_running {s : State} {k : Nat} (running : s.lkState k ≠ 0) : s.linkTry k = s := if_neg fun ⟨stopped, _⟩ => running stopped

/-- A link that stops keeps its ENABLE. -/
theorem State.rd_linkStop_enable (s : State) (k st : Nat) : (s.linkStop k st).rd fLEAT_CTL_ENABLE k = s.rd fLEAT_CTL_ENABLE k := by
  have lanes : Keeps 0x40000001000 s (s.each (linkLanes k) State.laneStop) := State.each_keeps (.refl _ _) fun _ ht _ => State.laneStop_keeps rfl ht
  unfold State.linkStop State.putb
  simp (disch := decide) only [State.rd_spareNow, State.rd_wr_key, State.rd_wrb_key, State.lkMod_rd, State.rd_unmap]
  exact lanes.rd _ _ (by decide)

/-- A link in training that is disabled has no traffic to lose. -/
theorem State.goDisabled_training {s : State} {k : Nat} (training : s.lkState k = 1) (cause : Nat) :
    s.goDisabled k cause = (s.linkStop k 0).wr fLEAT_STAT_DOWNCAUSE k cause := by
  unfold State.goDisabled State.linkHalt
  dsimp only
  rw [training]
  rfl

section
variable {s : State} {k val : Nat}

theorem State.domKick_leat (s : State) (n k : Nat) {f : Fld} (window : windowBit f.key = 46) : (s.domKick n).rd f k = s.rd f k :=
  
  (State.domKick_keeps (W := 0x8004000000000) rfl (.refl _ s)).rd f k (by rw [window]; decide)

/-- A word of LEAT_CTL leaves the state of the link. -/
theorem State.rd_leatCtl_taken (s : State) (k v : Nat) {f : Fld} (h : f.key ∉ ((fieldsAt 0xC01000).map Fld.key)) :
    (s.takeWord (fieldsAt 0xC01000) k v).rd f k = s.rd f k := State.rd_takeWord_other _ _ _ _ _ _ h

theorem State.leatCtl_taken (stepping : s.rd fBOOT_ID_STEPPING 0 ≠ 0) (kept : s.discards (fieldsAt 0xC01000) k val = false) :
    s.leatCtl k val =
      let t := s.takeWord (fieldsAt 0xC01000) k val
      let t := if s.rdb fLEAT_CTL_ENABLE k && !bitOf val 0 then t.goDisabled k 7 else t
      let t := (t.domKick (72 + k)).linkTry k
      if bitOf val 7 && t.lkActive k then t.retrain k 0 else t := by
  unfold State.leatCtl
  dsimp only
  rw [if_neg stepping, kept, if_neg Bool.false_ne_true]

/-- A word with ENABLE 0 switches the link off. -/
theorem State.leatCtl_enable (kept : s.discards (fieldsAt 0xC01000) k val = false) (off : bitOf val 0 = false) :
    (s.takeWord (fieldsAt 0xC01000) k val).rdb fLEAT_CTL_ENABLE k = false := by
  unfold State.rdb
  rw [State.took_takeWord 0 leatCtl_apart kept fLEAT_CTL_ENABLE (by rw [leatCtl_fields]; exact .head _) rfl]
  show (bitsOf val 0 1 % 2 == 1) = false
  unfold bitOf at off
  unfold bitsOf
  simpa using off

section
variable (hk : isLink k = true) (hval : val < 2 ^ 32)
include hk hval

theorem leatCtl_unit : (isLink k && decide (val < 2 ^ 32)) = true := by
  rw [hk, decide_eq_true hval]
  rfl

theorem exec_leatCtlWrite : exec (.leatCtlWrite k val) s = .next (s.onTile (tileOfLink k) (s.leatCtl k val)) := if_pos (leatCtl_unit hk hval)

theorem exec_leatRetrainCmd : exec (.leatRetrainCmd k val) s = .next (s.onTile (tileOfLink k) (s.leatCtl k (putBit val 7 true))) :=
  if_pos (leatCtl_unit hk hval)

theorem leatCtlWrite_within (within : bitOf s.pwr.culvert (tileOfLink k) = false) :
    exec (.leatCtlWrite k val) s = .next (s.leatCtl k val)
    ∧ exec (.leatRetrainCmd k val) s = .next (s.leatCtl k (putBit val 7 true)) := by
  rw [exec_leatCtlWrite hk hval, exec_leatRetrainCmd hk hval, State.onTile_in within, State.onTile_in within]
  exact ⟨rfl, rfl⟩

theorem leatCtlWrite_out (out : bitOf s.pwr.culvert (tileOfLink k) = true) :
    exec (.leatCtlWrite k val) s = .next s ∧ exec (.leatRetrainCmd k val) s = .next s := by
  rw [exec_leatCtlWrite hk hval, exec_leatRetrainCmd hk hval, State.onTile_out out, State.onTile_out out]
  exact ⟨rfl, rfl⟩

end

section
variable (stepping : s.rd fBOOT_ID_STEPPING 0 ≠ 0)
include stepping

/-- ENABLE 0 on a DISABLED link takes the word. -/
theorem State.leatCtl_disabled (kept : s.discards (fieldsAt 0xC01000) k val = false) (off : bitOf val 0 = false) (disabled : s.lkState k = 0) :
    Took (fieldsAt 0xC01000) k val (s.leatCtl k val) ∧ (s.leatCtl k val).lkState k = 0 := by
  have took := State.took_takeWord 0 leatCtl_apart kept
  have enable := State.leatCtl_enable kept off
  rw [State.leatCtl_taken stepping kept]
  extract_lets taken stopped kicked
  have state : taken.lkState k = 0 := (s.rd_leatCtl_taken k val (by rw [leatCtl_fields]; decide)).trans disabled
  have same : stopped = taken := by
    unfold stopped State.goDisabled
    rw [if_pos state, ite_self]
  have reads {f : Fld} (window : windowBit f.key = 46) : (taken.domKick (72 + k)).rd f k = taken.rd f k := State.domKick_leat _ _ _ window
  have kick : kicked = taken.domKick (72 + k) := by
    unfold kicked
    rw [same]
    exact State.linkTry_disabled (by unfold State.rdb; rw [reads (by decide)]; exact enable)
  have state' : kicked.lkState k = 0 := by rw [kick]; exact (reads (by decide)).trans state
  rw [State.lkActive_of_ne (by rw [state']; decide), Bool.and_false, if_neg Bool.false_ne_true]
  refine ⟨fun f hf rw_ => ?_, state'⟩
  have window : windowBit f.key = 46 := by
    revert f
    rw [leatCtl_fields]
    decide
  rw [kick, reads window]
  exact took f hf rw_

/-- ENABLE 0 takes a link in training to DISABLED, with cause 7. -/
theorem State.leatCtl_disables (kept : s.discards (fieldsAt 0xC01000) k val = false) (off : bitOf val 0 = false)
    (enabled : s.rdb fLEAT_CTL_ENABLE k = true) (training : s.lkState k = 1) :
    (s.leatCtl k val).lkState k = 0 ∧ (s.leatCtl k val).rd fLEAT_STAT_DOWNCAUSE k = 7 := by
  have enable := State.leatCtl_enable kept off
  rw [State.leatCtl_taken stepping kept, enabled, off]
  extract_lets taken stopped kicked
  have state : taken.lkState k = 1 := (s.rd_leatCtl_taken k val (by rw [leatCtl_fields]; decide)).trans training
  obtain ⟨halted, -⟩ := taken.linkStop_shows k (st := 0) (by decide)
  have stops : stopped = (taken.linkStop k 0).wr fLEAT_STAT_DOWNCAUSE k 7 := State.goDisabled_training state 7
  have reads {f : Fld} (window : windowBit f.key = 46) : (stopped.domKick (72 + k)).rd f k = stopped.rd f k := State.domKick_leat _ _ _ window
  have kick : kicked = stopped.domKick (72 + k) := by
    refine State.linkTry_disabled ?_
    unfold State.rdb
    rw [reads (by decide), stops, State.rd_wr_key _ _ _ _ _ _ (by decide), State.rd_linkStop_enable]
    exact enable
  have state' : kicked.lkState k = 0 := by
    rw [kick]
    refine (reads (by decide)).trans ?_
    rw [stops, State.rd_wr_key _ _ _ _ _ _ (by decide)]
    exact halted
  rw [State.lkActive_of_ne (by rw [state']; decide), Bool.and_false, if_neg Bool.false_ne_true]
  refine ⟨state', ?_⟩
  rw [kick, reads (by decide), stops, State.rd_wr_same]
  rfl

/-- RETRAIN takes an ACTIVE link that stays enabled to RETRAIN. -/
theorem State.leatCtl_retrains (kept : s.discards (fieldsAt 0xC01000) k val = false) (on : bitOf val 0 = true) (retrain : bitOf val 7 = true)
    (active : s.lkState k = 3) :
    (s.leatCtl k val).lkState k = 5
    ∧ (s.leatCtl k val).rd fLEAT_ERR2_RETRAINS k = satAdd fLEAT_ERR2_RETRAINS.width (s.rd fLEAT_ERR2_RETRAINS k) 1 := by
  rw [State.leatCtl_taken stepping kept, on, retrain, Bool.not_true, Bool.and_false]
  extract_lets taken stopped kicked
  have reads {f : Fld} (window : windowBit f.key = 46) (other : f.key ∉ ((fieldsAt 0xC01000).map Fld.key)) :
      (taken.domKick (72 + k)).rd f k = s.rd f k := (State.domKick_leat _ _ _ window).trans (s.rd_leatCtl_taken k val other)
  have state : (taken.domKick (72 + k)).lkState k = 3 := (reads (by decide) (by rw [leatCtl_fields]; decide)).trans active
  have kick : kicked = taken.domKick (72 + k) := State.linkTry_running (show (taken.domKick (72 + k)).lkState k ≠ 0 by rw [state]; decide)
  rw [kick, State.lkActive_iff.2 state, Bool.and_self, if_pos rfl, ← reads (f := fLEAT_ERR2_RETRAINS) (by decide) (by rw [leatCtl_fields]; decide)]
  obtain ⟨up, count, -⟩ := State.retrain_shows state 0
  exact ⟨up, count⟩

end
end

end Sys2Proof.Machine
end

section
/-! PROOFS. The exchange of INIT units: what starts it, and what it leaves (R113, R164, R165, R169). -/
namespace Sys2Proof.Machine

theorem State.sendAll_length (os : List Out) (s : State) : (s.sendAll os).out.length = s.out.length + os.length := by
  induction os generalizing s with
  | nil => rfl
  | cons o os ih =>
    show ((s.send o).sendAll os).out.length = _
    rw [ih]
    show s.out.length + 1 + os.length = s.out.length + (os.length + 1)
    omega

/-- An INIT unit goes out on every lane that holds. -/
theorem State.sendInit_length (s : State) (k : Nat) : (s.sendInit k).out.length = s.out.length + s.heldLanes k := by
  unfold State.sendInit State.draw
  dsimp only
  rw [State.sendAll_length, List.length_map]
  rfl

theorem State.sendInit_only_sends (s : State) (k : Nat) : Keeps 0x6 s (s.sendInit k) := State.sendInit_keeps rfl (.refl _ _)

/-- A fresh INIT starts the sequence numbers of both directions at 0. -/
theorem State.rd_freshInit (s : State) (k : Nat) :
    (s.freshInit k).rd fLEAT_TXSEQ_NEXT k = 0 ∧ (s.freshInit k).rd fLEAT_RXSEQ_EXP k = 0 ∧ (s.freshInit k).lkState k = s.lkState k := by
  have limits (t : State) (g : Fld) (used : fLEAT_CRUSED_VALUE.key ≠ g.key) (lim : fLEAT_CRLIM_VALUE.key ≠ g.key) (i : Nat) :
      (t.each (List.range 3) fun s v => (s.wr fLEAT_CRUSED_VALUE (3 * k + v) 0).wr fLEAT_CRLIM_VALUE (3 * k + v) 0).rd g i = t.rd g i :=
    State.each_induct (fun u => u.rd g i = t.rd g i)
      (fun u v hu => (State.rd_wr_key _ _ _ _ _ _ lim).trans ((State.rd_wr_key _ _ _ _ _ _ used).trans hu)) rfl
  unfold State.freshInit State.occNow State.lkState
  dsimp only
  simp (disch := decide) only [State.rd_wr_key, limits, State.rd_wr_same, State.lkMod_rd]
  exact ⟨rfl, rfl, rfl⟩

/-- Link `k` with an exchange begun, from the start or with RESUME. -/
def State.exchOpen (s : State) (k : Nat) (resume : Bool) : State :=
  s.lkMod k fun l => { l with exch := true, resume := resume, assigned := false, initSeen := [] }

theorem State.exchOpen_lk (s : State) (k : Nat) (resume : Bool) :
    ((s.exchOpen k resume).lk k).exch = true ∧ ((s.exchOpen k resume).lk k).resume = resume := by
  unfold State.exchOpen
  rw [State.lk_lkMod_same]
  exact ⟨rfl, rfl⟩

section
variable {s : State} {k : Nat}

/-- A peer other than this device is only shown. -/
theorem State.peerIs_other (other : (s.majority k).map Prod.snd ≠ some (s.lk k).own) {f : Fld} (i : Nat)
    (apart : f.key ∉ [fLEAT_STAT_PEERNODE.key, fLEAT_STAT_PEERLINK.key]) :
    (s.peerIs k (s.majority k)).rd f i = s.rd f i
    ∧ (s.peerIs k (s.majority k)).out = s.out := by
  simp only [List.mem_cons, List.not_mem_nil, or_false, not_or] at apart
  obtain ⟨node, link⟩ := apart
  unfold State.peerIs
  split
  · exact ⟨rfl, rfl⟩
  next _ _ majority =>
    dsimp only
    split
    · rw [if_neg fun ⟨_, own⟩ => other (by rw [majority, own]; rfl)]
      exact ⟨(State.rd_wr_key _ _ _ _ _ _ (Ne.symm link)).trans (State.rd_wr_key _ _ _ _ _ _ (Ne.symm node)), rfl⟩
    · exact ⟨rfl, rfl⟩

/-- A peer with this device's own identity takes a link in TRAINING down. -/
theorem State.peerIs_own (training : s.lkState k = 1) (own : (s.majority k).map Prod.snd = some (s.lk k).own) :
    (s.peerIs k (s.majority k)).lkState k = 6 ∧ (s.peerIs k (s.majority k)).rd fLEAT_STAT_DOWNCAUSE k = 3 := by
  obtain ⟨⟨link, node⟩, majority, is⟩ := Option.map_eq_some_iff.1 own
  unfold State.peerIs
  rw [majority]
  dsimp only at is ⊢
  have still : ((s.wr fLEAT_STAT_PEERNODE k node).wr fLEAT_STAT_PEERLINK k link).lkState k = 1 :=
    (State.rd_wr_key _ _ _ _ _ _ (by decide)).trans ((State.rd_wr_key _ _ _ _ _ _ (by decide)).trans training)
  rw [if_pos (.inl training), if_pos ⟨still, is⟩]
  obtain ⟨state, cause, -⟩ := State.goDown_shows ((s.wr fLEAT_STAT_PEERNODE k node).wr fLEAT_STAT_PEERLINK k link) k (cause := 3) (by decide)
  exact ⟨state, cause⟩

/-- From TRAINING the exchange starts afresh. -/
theorem State.startExch_fresh (training : s.lkState k = 1) (other : (s.majority k).map Prod.snd ≠ some (s.lk k).own) :
    s.startExch k = ((((s.peerIs k (s.majority k)).wr fLEAT_STAT_STATE k 2).freshInit k).exchOpen k false).sendInit k := by
  have state : (s.peerIs k (s.majority k)).lkState k = 1 := (State.peerIs_other other (f := fLEAT_STAT_STATE) k (by decide)).1.trans training
  unfold State.startExch
  dsimp only
  rw [training, state]
  rfl

/-- The fresh exchange is in INIT, and an INIT unit is sent on every lane that holds. -/
theorem State.startExch_training (training : s.lkState k = 1) (other : (s.majority k).map Prod.snd ≠ some (s.lk k).own) :
    (s.startExch k).lkState k = 2 ∧ ((s.startExch k).lk k).exch = true ∧ ((s.startExch k).lk k).resume = false
    ∧ (s.startExch k).rd fLEAT_TXSEQ_NEXT k = 0 ∧ (s.startExch k).rd fLEAT_RXSEQ_EXP k = 0
    ∧ (s.startExch k).out.length = s.out.length + s.heldLanes k := by
  rw [State.startExch_fresh training other]
  obtain ⟨next, exp, state⟩ := State.rd_freshInit ((s.peerIs k (s.majority k)).wr fLEAT_STAT_STATE k 2) k
  have fresh : Keeps 0x40000000a000 (s.peerIs k (s.majority k)) (((s.peerIs k (s.majority k)).wr fLEAT_STAT_STATE k 2).freshInit k) :=
    State.freshInit_keeps rfl (State.wr_keeps (.refl _ _) rfl)
  have up := state.trans (State.rd_wr_same ..)
  generalize ((s.peerIs k (s.majority k)).wr fLEAT_STAT_STATE k 2).freshInit k = begun at next exp fresh up
  obtain ⟨exch, resume⟩ := begun.exchOpen_lk k false
  have sent := (begun.exchOpen k false).sendInit_only_sends k
  have held : (begun.exchOpen k false).heldLanes k = s.heldLanes k := by
    have stage (l : Nat) : begun.laneStage l = s.laneStage l :=
      (fresh.rd fSER_LSTAT_STAGE l (by decide)).trans (State.peerIs_other other l (by decide)).1
    unfold State.heldLanes State.inService
    refine congrArg List.length (congrArg (List.filter · _) (funext fun l => ?_))
    rw [← stage l]
    rfl
  have out : (begun.exchOpen k false).out = s.out :=
    (fresh.out (by decide)).trans (State.peerIs_other other (f := fLEAT_STAT_STATE) k (by decide)).2
  have length := (begun.exchOpen k false).sendInit_length k
  rw [out, held] at length
  rw [sent.lk (by decide)]
  exact ⟨(sent.rd _ _ (by decide)).trans up, exch, resume, (sent.rd _ _ (by decide)).trans next, (sent.rd _ _ (by decide)).trans exp, length⟩

/-- A peer with this device's own identity starts no exchange. -/
theorem State.startExch_own (training : s.lkState k = 1) (own : (s.majority k).map Prod.snd = some (s.lk k).own) :
    (s.startExch k).lkState k = 6 ∧ (s.startExch k).rd fLEAT_STAT_DOWNCAUSE k = 3 := by
  have down := State.peerIs_own training own
  unfold State.startExch
  dsimp only
  rw [if_pos down.1]
  exact down

/-- In a retrain the exchange starts with RESUME. -/
theorem State.startExch_retrain (retrain : s.lkState k = 5) :
    ((s.startExch k).lk k).exch = true ∧ ((s.startExch k).lk k).resume = true ∧ (s.startExch k).regs = s.regs := by
  have peer : s.peerIs k (s.majority k) = s := by
    unfold State.peerIs
    split
    · rfl
    · exact if_neg (by rw [retrain]; decide)
  have resumed : s.startExch k = (s.exchOpen k true).sendInit k := by
    unfold State.startExch
    dsimp only
    rw [peer, retrain]
    rfl
  rw [resumed]
  obtain ⟨exch, resume⟩ := s.exchOpen_lk k true
  rw [((s.exchOpen k true).sendInit_only_sends k).lk (by decide)]
  refine ⟨exch, resume, ?_⟩
  unfold State.sendInit State.draw
  dsimp only
  exact State.sendAll_regs ..

theorem State.awaitsLanes_training (training : s.lkState k = 1) (open_ : (s.lk k).exch = false) : s.awaitsLanes k = true := by
  unfold State.awaitsLanes
  rw [training, open_]
  rfl

/-- Lanes that are ready have one peer. -/
theorem State.readyCount_pos (ready : s.readyCount k ≠ 0) : (s.majority k).isSome = true ∧ s.readyCount k = s.heldLanes k := by
  unfold State.readyCount at ready ⊢
  cases h : s.majority k with
  | none => rw [h] at ready; exact absurd rfl ready
  | some v => exact ⟨rfl, rfl⟩

/-! ### What starts it -/

section
variable (hk : isLink k = true)
include hk

theorem leatLanesReady_ready (awaits : s.awaitsLanes k = true) (ready : s.readyCount k = 9) :
    exec (.leatLanesReady k) s = .next (s.startExch k) := (if_pos hk).trans (congrArg _ (if_pos ⟨awaits, ready⟩))

theorem leatLanesReady_waits (why : s.awaitsLanes k = false ∨ s.readyCount k ≠ 9) : exec (.leatLanesReady k) s = .next s :=
  (if_pos hk).trans (congrArg _ (if_neg fun ⟨awaits, ready⟩ => why.elim (fun no => by simp [no] at awaits) fun no => no ready))

/-- The wait for fewer than nine receivers ends: they start the exchange, or fail where no value has a majority (R113, R164). -/
theorem exec_leatDegradedWaitExpire (late : Bool) : exec (.leatDegradedWaitExpire k late) s = .next
    (if s.awaitsLanes k && (if late then (s.lk k).degOk && decide (4 ≤ s.heldLanes k ∧ s.heldLanes k ≤ 7) else s.heldLanes k == 8) then
      if (s.majority k).isNone then s.miswireAll k else s.startExch k
    else s) := if_pos hk

section
variable {late : Bool} (awaits : s.awaitsLanes k = true)
  (enough : if late then (s.lk k).degOk = true ∧ 4 ≤ s.heldLanes k ∧ s.heldLanes k ≤ 7 else s.heldLanes k = 8)
include awaits enough

theorem leatDegradedWaitExpire_starts (one : (s.majority k).isSome = true) :
    exec (.leatDegradedWaitExpire k late) s = .next (s.startExch k) := by
  rw [exec_leatDegradedWaitExpire hk, if_pos, if_neg (by simpa using Option.isSome_iff_ne_none.1 one)]
  rw [awaits]
  cases late <;> simpa using enough

theorem leatDegradedWaitExpire_fails (none : s.majority k = Option.none) :
    exec (.leatDegradedWaitExpire k late) s = .next (s.miswireAll k) := by
  rw [exec_leatDegradedWaitExpire hk, if_pos, if_pos (by rw [none]; rfl)]
  rw [awaits]
  cases late <;> simpa using enough

end

theorem leatDegradedWaitExpire_waits {late : Bool} (why : s.awaitsLanes k = false
    ∨ (if late then (s.lk k).degOk = false ∨ s.heldLanes k < 4 ∨ 7 < s.heldLanes k else s.heldLanes k ≠ 8)) :
    exec (.leatDegradedWaitExpire k late) s = .next s := by
  rw [exec_leatDegradedWaitExpire hk, if_neg]
  intro waited
  obtain ⟨awaits, enough⟩ := (Bool.and_eq_true _ _).mp waited
  rcases why with no | few
  · exact absurd (awaits.symm.trans no) (by decide)
  · cases late with
    | false => exact few (by simpa using enough)
    | true =>
      obtain ⟨deg, low, high⟩ : (s.lk k).degOk = true ∧ 4 ≤ s.heldLanes k ∧ s.heldLanes k ≤ 7 := by simpa using enough
      rcases few with off | below | above
      · exact absurd (deg.symm.trans off) (by decide)
      · omega
      · omega

end

end

end Sys2Proof.Machine
end

section
/-! PROOFS. The timers of a Leat link, and O28. -/
namespace Sys2Proof.Machine

section
variable {s : State} {k : Nat} (hk : isLink k = true)
include hk

/-! ### Timers of a link in training, in RETRAIN, in DOWN and in DOZE (R164, R169, R173) -/

theorem leatTrainingTimeout_training (training : s.lkState k = 1 ∨ s.lkState k = 2) :
    exec (.leatTrainingTimeout k) s = .next (s.goDown k 1) := (if_pos hk).trans (congrArg _ (if_pos training))

theorem leatTrainingTimeout_other (up : s.lkState k ≠ 1) (up' : s.lkState k ≠ 2) : exec (.leatTrainingTimeout k) s = .next s :=
  (if_pos hk).trans (congrArg _ (if_neg (not_or.2 ⟨up, up'⟩)))

theorem leatRetrainTimeout_retrain (retrain : s.lkState k = 5) : exec (.leatRetrainTimeout k) s = .next (s.goDown k 2) :=
  (if_pos hk).trans (congrArg _ (if_pos retrain))

theorem leatRetrainTimeout_other (other : s.lkState k ≠ 5) : exec (.leatRetrainTimeout k) s = .next s :=
  (if_pos hk).trans (congrArg _ (if_neg other))

theorem leatRetrainIdleEnd_other (other : s.lkState k ≠ 5 ∨ (s.lk k).exch = true) : exec (.leatRetrainIdleEnd k) s = .next s :=
  (if_pos hk).trans (congrArg _ (if_neg fun ⟨retrain, quiet⟩ => other.elim (· retrain) quiet))

/-- The idle time of a retrain over, the nine lanes start. -/
theorem leatRetrainIdleEnd_retrain (retrain : s.lkState k = 5) (open_ : (s.lk k).exch = false) :
    EndsIn (.leatRetrainIdleEnd k) s fun t => (t.lk k).quiet = false ∧
      ∀ i, i < 9 → t.laneStage (laneOf k i) = 1 ∧ t.rd fSER_TXEQ_PRESET (laneOf k i) = 4 ∧ (t.lane (laneOf k i)).tx = 0xE := by
  refine ⟨_, (if_pos hk).trans (congrArg _ (if_pos ⟨retrain, by simp [open_]⟩)), ?_, fun i hi => ?_⟩
  · have lanes : Keeps 0x40000001000 (s.lkMod k fun l => { l with quiet := false, blk0 := s.pwr.ns })
        ((s.lkMod k fun l => { l with quiet := false, blk0 := s.pwr.ns }).each (linkLanes k) fun s l => s.laneStart l (s.lk k).rate) :=
      State.each_keeps (.refl _ _) fun _ ht _ => State.laneStart_keeps rfl ht
    rw [lanes.lk (by decide), State.lk_lkMod_same]
  · exact State.lanes_started _ k (fun t => (t.lk k).rate) _ (laneOf_mem k hi)

theorem leatDownRetry_other (other : s.lkState k ≠ 6 ∨ s.rdb fLEAT_CTL_ENABLE k = false ∨ (s.lk k).iso = true) :
    exec (.leatDownRetry k) s = .next s := by
  refine (if_pos hk).trans (congrArg _ (if_neg fun ⟨down, enabled, free⟩ => ?_))
  rcases other with up | off | isolated
  · exact up down
  · exact absurd (enabled.symm.trans off) (by decide)
  · exact free isolated

theorem leatDownRetry_down (down : s.lkState k = 6) (enabled : s.rdb fLEAT_CTL_ENABLE k = true) (free : (s.lk k).iso = false) :
    exec (.leatDownRetry k) s = .next (s.enterTraining k) :=
  (if_pos hk).trans (congrArg _ (if_pos ⟨down, enabled, by simp [free]⟩))

theorem leatWake_other (awake : s.lkState k ≠ 4) : exec (.leatWake k) s = .next s := (if_pos hk).trans (congrArg _ (if_neg awake))

/-- A dozing link wakes by a retrain, and sends nothing. -/
theorem leatWake_dozing (dozing : s.lkState k = 4) :
    EndsIn (.leatWake k) s fun t => t.lkState k = 5 ∧ t.rd fLEAT_LP_DOZING k = 0 ∧ t.out = s.out := by
  refine ⟨_, (if_pos hk).trans (congrArg _ (if_pos dozing)), ?_⟩
  rw [State.retrain_dozing dozing]
  obtain ⟨state, doze, -⟩ := s.rd_retrained k
  exact ⟨state, doze, (s.retrained_keeps k).out (by decide)⟩

/-! ### An ACTIVE link with nothing to do, and one whose SPARE_REQ is not answered (R167, R172) -/

theorem leatDozeIdle_other (busy : s.lkActive k = false ∨ s.dozeOk k = false) : exec (.leatDozeIdle k) s = .next s := by
  refine (if_pos hk).trans (congrArg _ (if_neg fun ⟨active, ok⟩ => ?_))
  rcases busy with busy | busy
  · exact absurd (active.symm.trans busy) (by decide)
  · exact absurd (ok.symm.trans busy) (by decide)

theorem leatDozeIdle_idle (active : s.lkActive k = true) (ok : s.dozeOk k = true) :
    exec (.leatDozeIdle k) s = .next ((s.mgmtSend k [7]).lkMod k fun l => { l with lpAsked := true }) :=
  (if_pos hk).trans (congrArg _ (if_pos ⟨active, ok⟩))

theorem spareReqRepeat_unit {y : Nat} (hy : y < 8) : (isLink k && decide (y < 8)) = true := by
  rw [hk, decide_eq_true hy]
  rfl

theorem spareReqRepeat_other {y : Nat} (hy : y < 8) (other : s.lkActive k = false ∨ (s.lk k).spareAsk ≠ some y) :
    exec (.spareReqRepeat k y) s = .next s := by
  refine (if_pos (spareReqRepeat_unit hk hy)).trans (congrArg _ (if_neg fun ⟨active, asks⟩ => ?_))
  exact other.elim (fun idle => absurd (active.symm.trans idle) (by decide)) (· asks)

theorem spareReqRepeat_asks {y : Nat} (hy : y < 8) (active : s.lkActive k = true) (asks : (s.lk k).spareAsk = some y) :
    exec (.spareReqRepeat k y) s = .next (s.mgmtSend k [1, y]) :=
  (if_pos (spareReqRepeat_unit hk hy)).trans (congrArg _ (if_pos ⟨active, asks⟩))

end

/-- A link that may doze has nothing to send. -/
theorem State.dozeOk_empty {s : State} {k : Nat} (ok : s.dozeOk k = true) : (s.lk k).Empty ∧ (s.lk k).replay = [] := by
  unfold State.dozeOk at ok
  simp only [Bool.and_eq_true, List.isEmpty_iff] at ok
  simp only [Leat.Empty, ok, and_self]

section
variable {s : State} {k : Nat} (hk : isLink k = true)
include hk

/-! ### Acknowledging, and resending (R157, R159) -/

theorem leatAckTimer_other (n : Nat) (idle : s.lkActive k = false) : exec (.leatAckTimer k n) s = .next s :=
  (if_pos hk).trans (congrArg _ (if_neg (by simp [idle])))

/-- An ACTIVE link sends an ACK that follows its last unit. -/
theorem leatAckTimer_active (n : Nat) (active : s.lkActive k = true) :
    EndsIn (.leatAckTimer k n) s fun t =>
      t.regs = s.regs
      ∧ (∀ hdr trl ws, hdr = s.hdrTo k 2 3 60 63 →
          trl = trlWord (s.rd fLEAT_TXSEQ_NEXT k) 0 (s.lk k).credNext ((s.lk k).lim (s.lk k).credNext % 2 ^ 17) →
          ws = beWords (ackBytes (s.ackNow k (n % 2 ^ 32))) → t.out = .unit k hdr trl ws (unitCrc hdr trl ws) :: s.out)
      ∧ (t.lk k).credNext = ((s.lk k).credNext + 1) % 3 := by
  refine ⟨_, (if_pos hk).trans (congrArg _ (if_pos active)), rfl, ?_, ?_⟩
  · rintro hdr trl ws rfl rfl rfl
    rfl
  · rw [State.lk_sendUnit, State.lk_lkMod_same]

theorem leatReplayTimeout_other (idle : s.lkActive k = false ∨ (s.lk k).replay = []) : exec (.leatReplayTimeout k) s = .next s := by
  refine (if_pos hk).trans (congrArg _ ?_)
  split
  · rfl
  next u us held => exact if_pos (idle.elim (fun h => by simp [h]) fun h => absurd (held.symm.trans h) nofun)

/-- A replay timer that expires resends the oldest unit, and the fourth time in a row retrains. -/
theorem leatReplayTimeout_active {u : TxUnit} {us : List TxUnit} (active : s.lkActive k = true) (held : (s.lk k).replay = u :: us) :
    exec (.leatReplayTimeout k) s = .next
      (let n := min 4 (s.rd fLEAT_REPLAY_TOCNT k + 1)
       let t := ((s.inc fLEAT_ERR_REPLAYTO k).wr fLEAT_REPLAY_TOCNT k n).resend k [u]
       if n = 4 then t.retrain k 0 else t) := by
  refine (if_pos hk).trans (congrArg _ ?_)
  rw [held]
  exact if_neg (not_not.2 active)

end

theorem State.rd_replayTimed (s : State) (k n : Nat) (us : List TxUnit) :
    (((s.inc fLEAT_ERR_REPLAYTO k).wr fLEAT_REPLAY_TOCNT k n).resend k us).rd fLEAT_REPLAY_TOCNT k = n % 2 ^ fLEAT_REPLAY_TOCNT.width
    ∧ (((s.inc fLEAT_ERR_REPLAYTO k).wr fLEAT_REPLAY_TOCNT k n).resend k us).lkState k = s.lkState k
    ∧ (((s.inc fLEAT_ERR_REPLAYTO k).wr fLEAT_REPLAY_TOCNT k n).resend k us).rd fLEAT_ERR_REPLAYTO k
      = satAdd fLEAT_ERR_REPLAYTO.width (s.rd fLEAT_ERR_REPLAYTO k) 1 := by
  obtain ⟨reads, -⟩ := ((s.inc fLEAT_ERR_REPLAYTO k).wr fLEAT_REPLAY_TOCNT k n).resend_emits k us
  unfold State.lkState
  rw [reads, reads, reads]
  refine ⟨State.rd_wr_same .., ?_, ?_⟩
  · rw [State.rd_wr_key _ _ _ _ _ _ (by decide), State.rd_inc_key _ _ _ _ _ _ (by decide)]
  · rw [State.rd_wr_key _ _ _ _ _ _ (by decide), State.rd_inc_same]

/-- The replay timer's first three times in a row only count. -/
theorem leatReplayTimeout_counts {s : State} {k : Nat} {u : TxUnit} {us : List TxUnit} (hk : isLink k = true) (active : s.lkActive k = true)
    (held : (s.lk k).replay = u :: us) (early : s.rd fLEAT_REPLAY_TOCNT k < 3) :
    EndsIn (.leatReplayTimeout k) s fun t =>
      t.rd fLEAT_REPLAY_TOCNT k = s.rd fLEAT_REPLAY_TOCNT k + 1 ∧ t.lkState k = 3
      ∧ t.rd fLEAT_ERR_REPLAYTO k = satAdd fLEAT_ERR_REPLAYTO.width (s.rd fLEAT_ERR_REPLAYTO k) 1 := by
  have few : min 4 (s.rd fLEAT_REPLAY_TOCNT k + 1) = s.rd fLEAT_REPLAY_TOCNT k + 1 := by omega
  refine ⟨_, leatReplayTimeout_active hk active held, ?_⟩
  dsimp only
  rw [few, if_neg (by omega)]
  obtain ⟨count, state, timeouts⟩ := s.rd_replayTimed k (s.rd fLEAT_REPLAY_TOCNT k + 1) [u]
  exact ⟨count.trans (Nat.mod_eq_of_lt (Nat.lt_of_lt_of_le (by omega) (show 4 ≤ 2 ^ fLEAT_REPLAY_TOCNT.width by decide))),
    state.trans (State.lkActive_iff.1 active), timeouts⟩

/-- The fourth time retrains. -/
theorem leatReplayTimeout_retrains {s : State} {k : Nat} {u : TxUnit} {us : List TxUnit} (hk : isLink k = true) (active : s.lkActive k = true)
    (held : (s.lk k).replay = u :: us) (fourth : s.rd fLEAT_REPLAY_TOCNT k = 3) :
    EndsIn (.leatReplayTimeout k) s fun t => t.lkState k = 5 := by
  refine ⟨_, leatReplayTimeout_active hk active held, ?_⟩
  rw [fourth]
  exact (State.retrain_shows ((s.rd_replayTimed k 4 [u]).2.1.trans (State.lkActive_iff.1 active)) 0).1

/-! ### The obligation -/

/-- Settles O28: each command of a Leat link unfolds, through the equations above, to a link that stops, retrains, trains or opens its
exchange, and what each of those leaves of the link is read off once. -/
theorem leatControlAndTimers : Obligations.LeatControlAndTimers := by
  unfold Obligations.LeatControlAndTimers
  refine ⟨?_, ?_, ?_, ?_, ?_, ?_, ?_, ?_, ?_, ?_, ?_, ?_, ?_, ?_, ?_, ?_, ?_, ?_, ?_, ?_, ?_, ?_, ?_, ?_⟩
  · intro s k val hk hval stepping kept within off disabled
    exact ⟨_, (leatCtlWrite_within hk hval within).1, State.leatCtl_disabled stepping kept off disabled⟩
  · intro s k val hk hval stepping kept within off enabled training
    exact ⟨_, (leatCtlWrite_within hk hval within).1, State.leatCtl_disables stepping kept off enabled training⟩
  · intro s k val hk hval stepping kept within on active
    refine ⟨_, (leatCtlWrite_within hk hval within).2, State.leatCtl_retrains stepping kept ?_ ?_ active⟩
    · rw [bitOf_putBit]
      exact on
    · rw [bitOf_putBit]
      rfl
  · intro s k hk training closed ready other
    refine ⟨_, leatLanesReady_ready hk (State.awaitsLanes_training training closed) ready, ?_⟩
    have held := (State.readyCount_pos (by rw [ready]; decide)).2.symm.trans ready
    have shows_ := State.startExch_training training other
    rwa [held] at shows_
  · intro s k hk training closed ready own
    exact ⟨_, leatLanesReady_ready hk (State.awaitsLanes_training training closed) ready, State.startExch_own training own⟩
  · intro s k val hk hval
    exact ⟨leatCtlWrite_within hk hval, leatCtlWrite_out hk hval⟩
  · intro s k hk retrain _ awaits ready
    exact ⟨_, leatLanesReady_ready hk awaits ready, State.startExch_retrain retrain⟩
  · exact fun s k hk why => leatLanesReady_waits hk why
  · intro s k late hk retrain awaits one enough
    exact ⟨_, leatDegradedWaitExpire_starts hk awaits enough one, State.startExch_retrain retrain⟩
  · intro s k late hk awaits
    exact ⟨leatLanesReady_ready hk awaits, fun one enough => leatDegradedWaitExpire_starts hk awaits enough one⟩
  · intro s k late hk awaits none enough
    exact ⟨_, leatDegradedWaitExpire_fails hk awaits enough none, s.miswireAll_shows k⟩
  · exact fun s k late hk why => leatDegradedWaitExpire_waits hk why
  · intro s k hk
    exact ⟨leatTrainingTimeout_other hk, leatRetrainIdleEnd_other hk, leatRetrainTimeout_other hk, leatDownRetry_other hk,
      leatDozeIdle_other hk, leatWake_other hk,
      fun idle => ⟨fun n => leatAckTimer_other hk n idle, leatReplayTimeout_other hk (.inl idle)⟩,
      fun none => leatReplayTimeout_other hk (.inr none), fun y hy => spareReqRepeat_other hk hy, fun y hy => spareReqRepeat_asks hk hy⟩
  · exact fun s k hk active ok => leatDozeIdle_idle hk active ok
  · exact fun s k hk training => ⟨_, leatTrainingTimeout_training hk training, s.goDown_shows k (by decide)⟩
  · exact fun s k hk retrain closed => leatRetrainIdleEnd_retrain hk retrain closed
  · intro s k hk retrain
    obtain ⟨state, cause, -, lanes⟩ := s.goDown_shows k (cause := 2) (by decide)
    exact ⟨_, leatRetrainTimeout_retrain hk retrain, state, cause, lanes⟩
  · exact fun s k hk down enabled free => ⟨_, leatDownRetry_down hk down enabled free, s.enterTraining_shows k⟩
  · intro s k y hk hy active asks room mgmt req snp rsp
    exact ⟨_, spareReqRepeat_asks hk hy active asks, State.mgmtSend_now active room ⟨mgmt, req, snp, rsp⟩ [1, y]⟩
  · intro s k hk active ok
    obtain ⟨empty, none⟩ := State.dozeOk_empty ok
    have room : s.replayRoom k 1 = true := by
      unfold State.replayRoom
      rw [none]
      decide
    refine ⟨_, leatDozeIdle_idle hk active ok, ?_, (State.mgmtSend_now active room empty [7]).1⟩
    rw [State.lk_lkMod_same]
  · exact fun s k hk dozing => leatWake_dozing hk dozing
  · exact fun s k n hk active => leatAckTimer_active hk n active
  · exact fun s k u us hk active held early => leatReplayTimeout_counts hk active held early
  · exact fun s k u us hk active held fourth => leatReplayTimeout_retrains hk active held fourth

end Sys2Proof.Machine
end

section
/-! PROOFS. A Leat unit's bytes: its CRC, and the shares of its lanes (R149 to R151). -/
namespace Sys2Proof.Machine

/-! ### The CRC of a unit (R150) -/

theorem crcStep_below {w p : Nat} (hp : p < 2 ^ w) (c : Nat) : crcStep w p c < 2 ^ w := by
  have shifted : c * 2 % 2 ^ w < 2 ^ w := Nat.mod_lt _ (Nat.two_pow_pos w)
  unfold crcStep
  split
  · exact Nat.xor_lt_two_pow shifted hp
  · exact shifted

theorem crc64_lt (bs : List Byte) : crc64 bs < 256 ^ 8 := by
  refine foldl_keeps (f := crcByte 64 0x42F0E1EBA9EA3693) (· < 2 ^ 64) (fun c b _ => ?_) (Nat.two_pow_pos 64)
  unfold crcByte
  rw [show List.range 8 = List.range 7 ++ [7] from rfl, List.foldl_append]
  exact crcStep_below (by decide) _

theorem payloadBytes_length {ws : List Nat} (h : ws.length ≤ 60) : (payloadBytes ws).length = 240 := by
  unfold payloadBytes
  simp only [List.length_flatMap, toBeBytes_length, List.map_const', List.sum_replicate, List.length_append, List.length_replicate, smul_eq_mul]
  omega

theorem unitBody_length (hdr trl : Nat) {ws : List Nat} (h : ws.length ≤ 60) : (unitBody hdr trl ws).length = 248 := by
  unfold unitBody
  rw [List.length_append, List.length_append, payloadBytes_length h, toBeBytes_length, toBeBytes_length]

/-- A unit is 256 bytes, and ends with the CRC of the others. -/
theorem unitBytes_crc (hdr trl : Nat) {ws : List Nat} (h : ws.length ≤ 60) :
    (unitBytes hdr trl ws).length = 256 ∧ crc64 ((unitBytes hdr trl ws).take 248) = beBytes ((unitBytes hdr trl ws).drop 248) := by
  have body := unitBody_length hdr trl h
  unfold unitBytes
  rw [List.length_append, toBeBytes_length, body, List.take_left' body, List.drop_left' body, unitCrc, beBytes_toBeBytes (crc64_lt _)]
  exact ⟨rfl, rfl⟩

/-! ### Striping (R151) -/

theorem laneShare_length (w y : Nat) (bs : List Byte) : (laneShare w y bs).length = bs.length / w := by simp [laneShare]

theorem laneShare_getElem? {w y j : Nat} {bs : List Byte} (hj : j < bs.length / w) (hy : y < w) : (laneShare w y bs)[j]? = bs[w * j + y]? := by
  have inside : w * j + y < bs.length := by
    have := Nat.mul_le_of_le_div w (j + 1) bs.length hj
    rw [Nat.add_mul, one_mul, Nat.mul_comm] at this
    omega
  simp [laneShare, hj, inside]

/-- Two bits make a symbol. -/
theorem toSyms_length (bits : List Bool) : (toSyms bits).length = bits.length / 2 := by
  fun_induction toSyms bits with
  | case1 b1 b0 r ih =>
    simp only [List.length_cons, ih]
    omega
  | case2 bits short =>
    match bits with
    | [] => rfl
    | [_] => simp
    | b1 :: b0 :: r => exact absurd rfl (short b1 b0 r)

/-- A byte makes four symbols. -/
theorem shareSyms_length (bs : List Byte) : (shareSyms bs).length = 4 * bs.length := by
  unfold shareSyms bitsOfBytes
  rw [toSyms_length]
  simp only [List.length_flatMap, List.length_map, List.length_range, List.map_const', List.sum_replicate, smul_eq_mul]
  omega

/-- The shares of the lanes put together are the unit. -/
theorem destripe_laneShare {w : Nat} {bs : List Byte} (hw : 0 < w) (whole : w ∣ bs.length) :
    destripe ((List.range w).map fun y => laneShare w y bs) = bs := by
  obtain ⟨v, rfl⟩ : ∃ v, w = v + 1 := ⟨w - 1, by omega⟩
  have first : (((List.range (v + 1)).map fun y => laneShare (v + 1) y bs).headD []).length = bs.length / (v + 1) := by
    rw [List.range_succ_eq_map, List.map_cons, List.headD_cons, laneShare_length]
  refine List.ext_getElem? fun i => ?_
  unfold destripe
  rw [first, List.length_map, List.length_range, Nat.mul_div_cancel' whole]
  by_cases hi : i < bs.length
  · have lane : i % (v + 1) < v + 1 := Nat.mod_lt _ hw
    have place : i / (v + 1) < bs.length / (v + 1) := Nat.div_lt_div_of_lt_of_dvd whole hi
    have byte := laneShare_getElem? place lane
    rw [Nat.div_add_mod] at byte
    simp [hi, lane, byte]
  · simp [hi]

end Sys2Proof.Machine
end

section
/-! PROOFS. What a unit received on a Leat link leaves of the link: the number it expects, its record and its limits (R156 to R162). -/
namespace Sys2Proof.Machine

/-! ### A unit that is expected (R156) -/

/-- What the number that is shown leaves of a link's record. -/
def Leat.unshown (l : Leat) : Leat := { l with shown := none }

/-- The unit that link `k` expects has come: the number moves on, and nothing is held. -/
structure State.Moved (s : State) (k : Nat) (t : State) : Prop where
  exp : t.rd fLEAT_RXSEQ_EXP k = (s.rd fLEAT_RXSEQ_EXP k + 1) % 4096
  reads : ∀ (f : Fld) (i : Nat), f.key ∉ [fLEAT_RXSEQ_EXP.key, fLEAT_RXSEQ_HIGH.key] → t.rd f i = s.rd f i
  record : (t.lk k).unshown = (s.lk k).unshown

/-- The state in which the unit expected goes to its queue. -/
theorem State.rxUnit_expected {s : State} {k : Nat} {u : RxUnit} (number : u.seq = s.rd fLEAT_RXSEQ_EXP k) (empty : (s.lk k).reorder = []) :
    ∃ t, s.rxUnit k u = (if u.vc < 3 then t.toRxq k u else t) ∧ s.Moved k t := by
  have fresh : ¬ 2048 ≤ (u.seq + 4096 - s.rd fLEAT_RXSEQ_EXP k) % 4096 := by
    rw [number, Nat.add_sub_cancel_left]
    decide
  unfold State.rxUnit
  rw [if_neg fresh, empty, List.any_nil, if_neg Bool.false_ne_true]
  extract_lets high queued ahead top
  have links : top.lk k = { s.lk k with reorder := [u] } := by
    have same : top.leat = queued.leat := by
      unfold top
      split
      · rfl
      · rfl
    rw [State.lk_congr same]
    unfold queued
    rw [State.lk_lkMod_same]
    exact congrArg (fun held => { s.lk k with reorder := held }) (congrArg (· ++ [u]) empty)
  have reads (f : Fld) (i : Nat) (other : f.key ≠ fLEAT_RXSEQ_HIGH.key) : top.rd f i = s.rd f i := by
    unfold top
    split
    · exact State.rd_wr_key _ _ _ _ _ _ (Ne.symm other)
    · rfl
  clear_value top
  have found : ([u].find? fun v => v.seq == top.rd fLEAT_RXSEQ_EXP k) = some u :=
    List.find?_cons_of_pos (by rw [reads _ _ (by decide), number]; exact beq_self_eq_true _)
  rw [links, List.length_singleton]
  unfold State.release_
  rw [links, found]
  unfold State.release_
  refine ⟨_, rfl, ?_, fun f i other => ?_, ?_⟩
  · rw [State.rd_wr_same, number]
    rfl
  · simp only [List.mem_cons, List.not_mem_nil, or_false, not_or] at other
    obtain ⟨exp, high⟩ := other
    exact (State.rd_wr_key _ _ _ _ _ _ (Ne.symm exp)).trans (reads f i high)
  · rw [State.lk_wr, State.lk_lkMod_same, links, List.erase_cons_head, ← empty]
    rfl

/-! ### Limits and measurements (R157, R161, R162) -/

theorem State.takeCred_lk (s : State) (k trl j : Nat) : (s.takeCred k trl).lk j = s.lk j := by
  unfold State.takeCred
  dsimp only
  split
  · rfl
  · split
    · rfl
    · rfl

theorem State.rd_takeCred (s : State) (k trl : Nat) {f : Fld} (i : Nat) (other : f.key ≠ fLEAT_CRLIM_VALUE.key) :
    (s.takeCred k trl).rd f i = s.rd f i := by
  unfold State.takeCred
  dsimp only
  split
  · rfl
  · split
    · exact State.rd_wr_key _ _ _ _ _ _ (Ne.symm other)
    · rfl

theorem State.takeLimits_lk (s : State) (k a b c j : Nat) : (s.takeLimits k a b c).lk j = s.lk j := by
  have one (t : State) (v new : Nat) : (t.takeLimit k v new).lk j = t.lk j := by
    unfold State.takeLimit
    split
    · rfl
    · rfl
  unfold State.takeLimits
  rw [one, one, one]

theorem State.rd_takeLimits (s : State) (k a b c : Nat) {f : Fld} (i : Nat) (other : f.key ≠ fLEAT_CRLIM_VALUE.key) :
    (s.takeLimits k a b c).rd f i = s.rd f i := by
  have one (t : State) (v new : Nat) : (t.takeLimit k v new).rd f i = t.rd f i := by
    unfold State.takeLimit
    split
    · exact State.rd_wr_key _ _ _ _ _ _ (Ne.symm other)
    · rfl
  unfold State.takeLimits
  rw [one, one, one]

theorem State.measure_lk (s : State) (k t ts echo hold : Nat) :
    (s.measure k t ts echo hold).lk k = { s.lk k with lastTs := some ts, lastAt := t } := by
  unfold State.measure
  dsimp only
  split
  · exact State.lk_lkMod_same ..
  · exact (State.lk_wr ..).trans (State.lk_lkMod_same ..)

theorem State.rd_measure (s : State) (k t ts echo hold : Nat) {f : Fld} (i : Nat) (other : f.key ≠ fLEAT_RTT_NS.key) :
    (s.measure k t ts echo hold).rd f i = s.rd f i := by
  unfold State.measure
  dsimp only
  split
  · rfl
  · exact State.rd_wr_key _ _ _ _ _ _ (Ne.symm other)

/-! ### A LINKMGT unit that is expected -/

section
variable {s : State} {k hdr trl : Nat} (h : s.expects k 3 hdr trl)
include h

theorem State.rxTaken_lk : ((s.rxTaken k hdr trl).lk k).unshown = (s.lk k).unshown := by
  obtain ⟨-, -, -, -, -, -, seq, empty⟩ := h
  obtain ⟨t, taken, moved⟩ := State.rxUnit_expected (u := { seq := bitsOf trl 20 12, vc := 3, mis := !s.forUs k hdr }) seq empty
  unfold State.rxTaken
  rw [State.takeCred_lk, taken, if_neg (Nat.lt_irrefl 3)]
  exact moved.record

theorem State.rd_rxTaken {f : Fld} (i : Nat) (other : f.key ∉ [fLEAT_RXSEQ_EXP.key, fLEAT_RXSEQ_HIGH.key, fLEAT_CRLIM_VALUE.key]) :
    (s.rxTaken k hdr trl).rd f i = s.rd f i := by
  obtain ⟨-, -, -, -, -, -, seq, empty⟩ := h
  obtain ⟨t, taken, moved⟩ := State.rxUnit_expected (u := { seq := bitsOf trl 20 12, vc := 3, mis := !s.forUs k hdr }) seq empty
  simp only [List.mem_cons, List.not_mem_nil, or_false, not_or] at other
  obtain ⟨exp, high, limit⟩ := other
  unfold State.rxTaken
  rw [State.rd_takeCred _ _ _ _ limit, taken, if_neg (Nat.lt_irrefl 3)]
  exact moved.reads f i (by simp [exp, high])

end

end Sys2Proof.Machine
end

section
/-! PROOFS. Units received on a Leat link, and O29. -/
namespace Sys2Proof.Machine

section
variable {s : State} {k hdr trl : Nat} (hk : isLink k = true) (hhdr : hdr < 2 ^ 32) (htrl : trl < 2 ^ 32)
include hk hhdr htrl

theorem leatUnit_ok : (isLink k && decide (hdr < 2 ^ 32 ∧ trl < 2 ^ 32)) = true := by
  rw [hk, decide_eq_true ⟨hhdr, htrl⟩]
  rfl

/-! ### The commands that receive a unit -/

theorem exec_leatDataReceive (msgs : List Msg) : exec (.leatDataReceive k hdr trl msgs) s = .next
    (if ¬ s.lkActive k then s
    else if hdrBad 1 hdr trl true ∨ msgs.any msgWrong then s.protoError k
    else
      let t := s.rxUnit k { seq := bitsOf trl 20 12, vc := bitsOf hdr 26 2, mofs := bitsOf hdr 14 6, msgs := msgs, mis := !s.forUs k hdr }
      if decide (2048 ≤ (bitsOf trl 20 12 + 4096 - s.rd fLEAT_RXSEQ_EXP k) % 4096) then t
      else
        let t := (t.takeCred k trl).lkMod k fun l => { l with dataAt := t.pwr.ns, lpAsked := false }
        (if !s.forUs k hdr then t.misroute k else t).linkGo k) := if_pos (leatUnit_ok hk hhdr htrl)

theorem exec_leatIdleReceive : exec (.leatIdleReceive k hdr trl) s = .next
    (if ¬ s.lkActive k then s
    else if hdrBad 0 hdr trl false then s.protoError k
    else if ¬ s.forUs k hdr then s.misroute k
    else ((s.showNext k (bitsOf trl 20 12)).takeCred k trl).linkGo k) := if_pos (leatUnit_ok hk hhdr htrl)

/-- The state in which a valid ACK has been taken, before any unit goes out (R157, R158, R161). -/
def State.ackTaken (s : State) (k trl : Nat) (a : AckBody) (t : Nat) : State :=
  ((((s.showNext k (bitsOf trl 20 12)).takeCred k trl).measure k t a.tstamp a.echo a.hold).takeLimits k a.limReq a.limSnp a.limRsp).freeUnits
    k a.ackSeq

/-- Of the units `us` to resend those that link `k` still keeps. -/
def State.stillKept (s : State) (k : Nat) (us : List TxUnit) : List TxUnit := us.filter fun u => (s.lk k).replay.any fun v => v.seq == u.seq

theorem exec_leatAckReceive (a : AckBody) (n : Nat) : exec (.leatAckReceive k hdr trl a n) s = .next
    (if ¬ s.lkActive k then s
    else if hdrBad 2 hdr trl false then s.protoError k
    else if ¬ s.forUs k hdr then s.misroute k
    else if ¬ s.ackValid k a.ackSeq then s.inc fLEAT_ERR2_BADACK k
    else
      let t := s.ackTaken k trl a n
      let again := t.stillKept k ((s.lk k).toResend a)
      let u := State.mgmtSlots (t.lk k).mgmtWait.length k t
      (u.resend k again).linkGo k (decide ((u.lk k).mgmtWait.length < (t.lk k).mgmtWait.length) || !again.isEmpty)) :=
  if_pos (leatUnit_ok hk hhdr htrl)

theorem exec_lpReq : exec (.lpReq k hdr trl) s = .next (s.rxMgmt k hdr trl fun u =>
    if (u.lk k).lpAsked then u.doze k
    else if u.dozeOk k && decide ((u.lk k).dataAt + 1000 * u.rd fLEAT_LP_IDLE k ≤ u.pwr.ns) then (u.mgmtSend k [8]).doze k
    else u) := if_pos (leatUnit_ok hk hhdr htrl)

theorem exec_lpAck : exec (.lpAck k hdr trl) s = .next (s.rxMgmt k hdr trl fun u => if (u.lk k).lpAsked then u.doze k else u) :=
  if_pos (leatUnit_ok hk hhdr htrl)

theorem exec_spareReq {y : Nat} (hy : y < 8) : exec (.spareReq k hdr trl y) s = .next (s.rxMgmt k hdr trl fun u => u.spareReq k y) :=
  if_pos (by rw [hk, decide_eq_true ⟨hhdr, htrl, hy⟩]; rfl)

theorem exec_retrainReq {cause : Nat} (hcause : cause < 256) : exec (.retrainReq k hdr trl cause) s = .next
    (if ¬ s.lkActive k then s
    else if hdrBad 3 hdr trl false then s.protoError k
    else if ¬ s.forUs k hdr then s.misroute k
    else s.retrain k 0) := if_pos (by rw [hk, decide_eq_true ⟨hhdr, htrl, hcause⟩]; rfl)

/-! ### A link that is not ACTIVE (R164) -/

/-- A link that is not ACTIVE takes no unit but INIT. -/
theorem units_inactive (idle : s.lkActive k = false) (msgs : List Msg) :
    exec (.leatDataReceive k hdr trl msgs) s = .next s ∧ exec (.leatIdleReceive k hdr trl) s = .next s
    ∧ (∀ a n, exec (.leatAckReceive k hdr trl a n) s = .next s)
    ∧ (∀ y, y < 8 → exec (.spareReq k hdr trl y) s = .next s) ∧ (∀ cause, cause < 256 → exec (.retrainReq k hdr trl cause) s = .next s)
    ∧ exec (.lpReq k hdr trl) s = .next s ∧ exec (.lpAck k hdr trl) s = .next s := by
  have no : ¬ s.lkActive k = true := by rw [idle]; decide
  refine ⟨?_, ?_, fun a n => ?_, fun y hy => ?_, fun cause hcause => ?_, ?_, ?_⟩
  · rw [exec_leatDataReceive hk hhdr htrl, if_pos no]
  · rw [exec_leatIdleReceive hk hhdr htrl, if_pos no]
  · rw [exec_leatAckReceive hk hhdr htrl, if_pos no]
  · rw [exec_spareReq hk hhdr htrl hy, State.rxMgmt_idle idle]
  · rw [exec_retrainReq hk hhdr htrl hcause, if_pos no]
  · rw [exec_lpReq hk hhdr htrl, State.rxMgmt_idle idle]
  · rw [exec_lpAck hk hhdr htrl, State.rxMgmt_idle idle]

section
variable (active : s.lkActive k = true)
include active

/-! ### Units with a fault, and units for another node (R150) -/

theorem leatDataReceive_bad {msgs : List Msg} (bad : hdrBad 1 hdr trl true = true ∨ msgs.any msgWrong = true) :
    exec (.leatDataReceive k hdr trl msgs) s = .next (s.protoError k) := by
  rw [exec_leatDataReceive hk hhdr htrl, if_neg (not_not.2 active), if_pos bad]

theorem leatIdleReceive_bad (bad : hdrBad 0 hdr trl false = true) : exec (.leatIdleReceive k hdr trl) s = .next (s.protoError k) := by
  rw [exec_leatIdleReceive hk hhdr htrl, if_neg (not_not.2 active), if_pos bad]

theorem leatIdleReceive_misrouted (sound : hdrBad 0 hdr trl false = false) (other : s.forUs k hdr = false) :
    exec (.leatIdleReceive k hdr trl) s = .next (s.misroute k) := by
  rw [exec_leatIdleReceive hk hhdr htrl, if_neg (not_not.2 active), sound, if_neg Bool.false_ne_true, other, if_pos Bool.false_ne_true]

theorem leatAckReceive_bad (a : AckBody) (n : Nat) (bad : hdrBad 2 hdr trl false = true) :
    exec (.leatAckReceive k hdr trl a n) s = .next (s.protoError k) := by
  rw [exec_leatAckReceive hk hhdr htrl, if_neg (not_not.2 active), if_pos bad]

theorem leatAckReceive_misrouted (a : AckBody) (n : Nat) (sound : hdrBad 2 hdr trl false = false) (other : s.forUs k hdr = false) :
    exec (.leatAckReceive k hdr trl a n) s = .next (s.misroute k) := by
  rw [exec_leatAckReceive hk hhdr htrl, if_neg (not_not.2 active), sound, if_neg Bool.false_ne_true, other, if_pos Bool.false_ne_true]

theorem linkMgmt_bad (bad : hdrBad 3 hdr trl true = true) :
    (∀ y, y < 8 → exec (.spareReq k hdr trl y) s = .next (s.protoError k)) ∧ exec (.lpReq k hdr trl) s = .next (s.protoError k)
    ∧ exec (.lpAck k hdr trl) s = .next (s.protoError k) := by
  refine ⟨fun y hy => ?_, ?_, ?_⟩
  · rw [exec_spareReq hk hhdr htrl hy, State.rxMgmt_bad active bad]
  · rw [exec_lpReq hk hhdr htrl, State.rxMgmt_bad active bad]
  · rw [exec_lpAck hk hhdr htrl, State.rxMgmt_bad active bad]

section
variable {cause : Nat} (hcause : cause < 256)
include hcause

theorem retrainReq_bad (bad : hdrBad 3 hdr trl false = true) : exec (.retrainReq k hdr trl cause) s = .next (s.protoError k) := by
  rw [exec_retrainReq hk hhdr htrl hcause, if_neg (not_not.2 active), if_pos bad]

theorem retrainReq_misrouted (sound : hdrBad 3 hdr trl false = false) (other : s.forUs k hdr = false) :
    exec (.retrainReq k hdr trl cause) s = .next (s.misroute k) := by
  rw [exec_retrainReq hk hhdr htrl hcause, if_neg (not_not.2 active), sound, if_neg Bool.false_ne_true, other, if_pos Bool.false_ne_true]

theorem retrainReq_retrains (sound : hdrBad 3 hdr trl false = false) (ours : s.forUs k hdr = true) :
    EndsIn (.retrainReq k hdr trl cause) s fun t =>
      t.lkState k = 5 ∧ t.rd fLEAT_ERR2_RETRAINS k = satAdd fLEAT_ERR2_RETRAINS.width (s.rd fLEAT_ERR2_RETRAINS k) 1 := by
  obtain ⟨state, count, -⟩ := State.retrain_shows (State.lkActive_iff.1 active) 0
  refine ⟨_, ?_, state, count⟩
  rw [exec_retrainReq hk hhdr htrl hcause, if_neg (not_not.2 active), sound, if_neg Bool.false_ne_true, if_neg (not_not.2 ours)]

end

/-! ### DATA units (R156, R163) -/

section
variable {msgs : List Msg} (sound : hdrBad 1 hdr trl true = false) (whole : msgs.any msgWrong = false)
include sound whole

/-- A DATA unit at or ahead of the number expected is taken. -/
theorem leatDataReceive_takes (ahead : (bitsOf trl 20 12 + 4096 - s.rd fLEAT_RXSEQ_EXP k) % 4096 < 2048) :
    exec (.leatDataReceive k hdr trl msgs) s = .next
      (let u : RxUnit := { seq := bitsOf trl 20 12, vc := bitsOf hdr 26 2, mofs := bitsOf hdr 14 6, msgs := msgs, mis := !s.forUs k hdr }
       let t := ((s.rxUnit k u).takeCred k trl).lkMod k fun l => { l with dataAt := s.pwr.ns, lpAsked := false }
       (if s.forUs k hdr then t else t.misroute k).linkGo k) := by
  rw [exec_leatDataReceive hk hhdr htrl, if_neg (not_not.2 active), sound, whole, if_neg (by simp)]
  dsimp only
  rw [decide_eq_false (by omega), if_neg Bool.false_ne_true]
  have time (u : RxUnit) : (s.rxUnit k u).pwr = s.pwr :=
    (State.rxUnit_keeps (W := 0x400000002000) rfl (.refl _ s)).pwr (by decide)
  rw [time]
  cases s.forUs k hdr <;> rfl

/-- A duplicate is counted. -/
theorem leatDataReceive_duplicate (behind : 2048 ≤ (bitsOf trl 20 12 + 4096 - s.rd fLEAT_RXSEQ_EXP k) % 4096) :
    Ends (.leatDataReceive k hdr trl msgs) s s [(fLEAT_ERR_DUP, k, satAdd fLEAT_ERR_DUP.width (s.rd fLEAT_ERR_DUP k) 1)] := by
  refine ⟨_, ?_, Sets.inc_one s fLEAT_ERR_DUP k 1⟩
  rw [exec_leatDataReceive hk hhdr htrl, if_neg (not_not.2 active), sound, whole, if_neg (by simp)]
  dsimp only
  rw [decide_eq_true behind, if_pos rfl]
  unfold State.rxUnit
  rw [if_pos behind]

end

/-! ### IDLE and ACK units (R156 to R158, R161) -/

/-- An IDLE unit shows the sender's next number. -/
theorem leatIdleReceive_shows (sound : hdrBad 0 hdr trl false = false) (ours : s.forUs k hdr = true) :
    EndsIn (.leatIdleReceive k hdr trl) s fun t =>
      (t.lk k).shown = (if bitsOf trl 20 12 = s.rd fLEAT_RXSEQ_EXP k then none else some (bitsOf trl 20 12)) := by
  refine ⟨((s.showNext k (bitsOf trl 20 12)).takeCred k trl).linkGo k, ?_, ?_⟩
  · rw [exec_leatIdleReceive hk hhdr htrl, if_neg (not_not.2 active), sound, if_neg Bool.false_ne_true, if_neg (not_not.2 ours)]
  · refine (congrArg Leat.shown (State.linkGo_standing false)).trans ?_
    show (((s.showNext k (bitsOf trl 20 12)).takeCred k trl).lk k).shown = _
    rw [State.takeCred_lk]
    unfold State.showNext
    rw [State.lk_lkMod_same]

/-- An ACK that is not valid is counted. -/
theorem leatAckReceive_invalid (a : AckBody) (n : Nat) (sound : hdrBad 2 hdr trl false = false) (ours : s.forUs k hdr = true)
    (invalid : s.ackValid k a.ackSeq = false) : Ends (.leatAckReceive k hdr trl a n) s s
      [(fLEAT_ERR2_BADACK, k, satAdd fLEAT_ERR2_BADACK.width (s.rd fLEAT_ERR2_BADACK k) 1)] := by
  refine ⟨_, ?_, Sets.inc_one s fLEAT_ERR2_BADACK k 1⟩
  rw [exec_leatAckReceive hk hhdr htrl, if_neg (not_not.2 active), sound, if_neg Bool.false_ne_true, if_neg (not_not.2 ours), invalid,
    if_pos Bool.false_ne_true]

end

end

end Sys2Proof.Machine
end

section
/-! PROOFS. What the units received do to the link: DATA released, ACKs, INIT units, LINKMGT operations and failing units, and O29. -/
namespace Sys2Proof.Machine

/-! ### DATA released in order (R156, R163) -/

theorem State.rxq_congr {s t : State} {k : Nat} (h : (t.lk k).standing = (s.lk k).standing) (v : Nat) : t.rxq k v = s.rxq k v := by
  have rx0 : (t.lk k).rx0 = (s.lk k).rx0 := (congrArg Leat.rx0 h : _)
  have rx1 : (t.lk k).rx1 = (s.lk k).rx1 := (congrArg Leat.rx1 h : _)
  have rx2 : (t.lk k).rx2 = (s.lk k).rx2 := (congrArg Leat.rx2 h : _)
  unfold State.rxq
  dsimp only
  rw [rx0, rx1, rx2]

theorem State.rxq_unshown {s t : State} {k : Nat} (h : (t.lk k).unshown = (s.lk k).unshown) (v : Nat) : t.rxq k v = s.rxq k v := by
  have rx0 : (t.lk k).rx0 = (s.lk k).rx0 := (congrArg Leat.rx0 h : _)
  have rx1 : (t.lk k).rx1 = (s.lk k).rx1 := (congrArg Leat.rx1 h : _)
  have rx2 : (t.lk k).rx2 = (s.lk k).rx2 := (congrArg Leat.rx2 h : _)
  unfold State.rxq
  dsimp only
  rw [rx0, rx1, rx2]

/-- A unit that follows no cut, and is none, goes to its queue as it is. -/
theorem State.rxq_toRxq {s : State} {k : Nat} {u : RxUnit} (vc : u.vc < 3) (uncut : bitOf (s.lk k).cut u.vc = false) (ours : u.mis = false) :
    (s.toRxq k u).rxq k u.vc = s.rxq k u.vc ++ [u] := by
  have as_is : cutUnit (bitOf (s.lk k).cut u.vc) u = (u, false) := by
    unfold cutUnit
    rw [ours, uncut]
    rfl
  unfold State.toRxq
  rw [as_is]
  exact State.rxq_setRxq _ vc _

/-- The VC of a sound DATA unit is one of three. -/
theorem hdrBad_data {hdr trl : Nat} (sound : hdrBad 1 hdr trl true = false) : bitsOf hdr 26 2 < 3 := by
  have vc : bitsOf hdr 26 2 ≠ 3 := by
    unfold hdrBad at sound
    simp only [Bool.or_eq_false_iff, if_pos] at sound
    obtain ⟨⟨⟨-, ⟨⟨vc, -⟩, -⟩, -⟩, -⟩, -⟩ := sound
    exact beq_eq_false_iff_ne.1 vc
  have small : bitsOf hdr 26 2 < 4 := Nat.mod_lt _ (by decide)
  omega

/-- The DATA unit that is expected is released. -/
theorem leatDataReceive_expected {s : State} {k hdr trl : Nat} {msgs : List Msg} (h : s.expects k 1 hdr trl)
    (uncut : bitOf (s.lk k).cut (bitsOf hdr 26 2) = false) (whole : msgs.any msgWrong = false) :
    EndsIn (.leatDataReceive k hdr trl msgs) s fun t =>
      t.rd fLEAT_RXSEQ_EXP k = (s.rd fLEAT_RXSEQ_EXP k + 1) % 4096
      ∧ t.rxq k (bitsOf hdr 26 2) =
        s.rxq k (bitsOf hdr 26 2)
          ++ [{ seq := bitsOf trl 20 12, vc := bitsOf hdr 26 2, mofs := bitsOf hdr 14 6, msgs := msgs, mis := false }] := by
  obtain ⟨hk, active, hhdr, htrl, sound, ours, seq, empty⟩ := h
  have fresh : (bitsOf trl 20 12 + 4096 - s.rd fLEAT_RXSEQ_EXP k) % 4096 < 2048 := by
    rw [seq, Nat.add_sub_cancel_left]
    decide
  have vc := hdrBad_data sound
  refine ⟨_, leatDataReceive_takes hk hhdr htrl active sound whole fresh, ?_⟩
  rw [ours]
  obtain ⟨t, taken, exp, -, record⟩ := State.rxUnit_expected (s := s) (k := k)
    (u := { seq := bitsOf trl 20 12, vc := bitsOf hdr 26 2, mofs := bitsOf hdr 14 6, msgs := msgs, mis := !true }) seq empty
  have released := State.rxq_toRxq (s := t)
    (u := { seq := bitsOf trl 20 12, vc := bitsOf hdr 26 2, mofs := bitsOf hdr 14 6, msgs := msgs, mis := !true })
    vc ((congrArg (fun l => bitOf l.cut (bitsOf hdr 26 2)) record : _).trans uncut) rfl
  rw [State.rxq_unshown record] at released
  dsimp only at taken ⊢
  rw [taken, if_pos vc, if_pos rfl]
  refine ⟨?_, ?_⟩
  · rw [State.rd_linkGo _ (by decide), State.lkMod_rd, State.rd_takeCred _ _ _ _ (by decide)]
    exact exp
  · rw [State.rxq_congr (State.linkGo_standing false)]
    refine Eq.trans ?_ released
    unfold State.rxq
    dsimp only
    rw [State.lk_lkMod_same, State.takeCred_lk]

/-! ### A valid ACK (R157, R158) -/

section
variable {s : State} {k : Nat}

theorem Leat.shown_of_unsent {l l' : Leat} (h : l'.unsent = l.unsent) : l'.shown = l.shown := (congrArg Leat.shown h : _)

theorem State.oldest_congr {t : State} (next : t.rd fLEAT_TXSEQ_NEXT k = s.rd fLEAT_TXSEQ_NEXT k) (replay : (t.lk k).replay = (s.lk k).replay) :
    t.oldest k = s.oldest k := by
  unfold State.oldest
  rw [next, replay]

/-- Units freed. -/
theorem State.freeUnits_shows (s : State) (k a : Nat) :
    (s.freeUnits k a).rd fLEAT_TXSEQ_ACKED k = a % 4096
    ∧ (s.freeUnits k a).lk k = { s.lk k with replay := (s.lk k).replay.drop ((a + 4096 - s.oldest k + 1) % 4096) } := by
  unfold State.freeUnits State.occNow
  extract_lets n gone dropped acked
  have count (t : State) : (t.when_ (decide (0 < n)) fun t => t.wr fLEAT_REPLAY_TOCNT k 0).rd fLEAT_TXSEQ_ACKED k = t.rd fLEAT_TXSEQ_ACKED k
      ∧ (t.when_ (decide (0 < n)) fun t => t.wr fLEAT_REPLAY_TOCNT k 0).lk k = t.lk k :=
    Traffic.when (P := fun u => u.rd fLEAT_TXSEQ_ACKED k = t.rd fLEAT_TXSEQ_ACKED k ∧ u.lk k = t.lk k) _ ⟨rfl, rfl⟩
      fun hu => ⟨(State.rd_wr_key _ _ _ _ _ _ (by decide)).trans hu.1, hu.2⟩
  refine ⟨?_, ?_⟩
  · rw [State.rd_wr_key _ _ _ _ _ _ (by decide), (count _).1, State.rd_wr_same]
    rfl
  · rw [State.lk_wr, (count _).2, State.lk_wr]
    show (s.lkMod k fun l => { l with replay := l.replay.drop n }).lk k = _
    rw [State.lk_lkMod_same]

/-- A valid ACK shows its sender's number, and frees the units that it covers. -/
theorem State.ackTaken_shows (s : State) (k trl : Nat) (a : AckBody) (n : Nat) :
    (s.ackTaken k trl a n).rd fLEAT_TXSEQ_ACKED k = a.ackSeq % 4096
    ∧ (s.ackTaken k trl a n).lk k =
      { s.lk k with
        lastTs := some a.tstamp, lastAt := n, shown := if bitsOf trl 20 12 = s.rd fLEAT_RXSEQ_EXP k then none else some (bitsOf trl 20 12),
        replay := (s.lk k).replay.drop ((a.ackSeq + 4096 - s.oldest k + 1) % 4096) } := by
  unfold State.ackTaken
  extract_lets
  obtain ⟨acked, record⟩ := State.freeUnits_shows
    ((((s.showNext k (bitsOf trl 20 12)).takeCred k trl).measure k n a.tstamp a.echo a.hold).takeLimits k a.limReq a.limSnp a.limRsp) k a.ackSeq
  have before : ((((s.showNext k (bitsOf trl 20 12)).takeCred k trl).measure k n a.tstamp a.echo a.hold).takeLimits k
      a.limReq a.limSnp a.limRsp).lk k = { s.lk k with
        lastTs := some a.tstamp, lastAt := n, shown := if bitsOf trl 20 12 = s.rd fLEAT_RXSEQ_EXP k then none else some (bitsOf trl 20 12) } := by
    rw [State.takeLimits_lk, State.measure_lk, State.takeCred_lk]
    unfold State.showNext
    rw [State.lk_lkMod_same]
  refine ⟨acked, record.trans ?_⟩
  rw [State.oldest_congr (s := s), before]
  · rw [State.rd_takeLimits _ _ _ _ _ _ (by decide), State.rd_measure _ _ _ _ _ _ _ (by decide), State.rd_takeCred _ _ _ _ (by decide)]
    exact State.lkMod_rd ..
  · rw [before]

/-- A valid ACK to a link on which nothing waits frees the units that it covers. -/
theorem leatAckReceive_valid {hdr trl : Nat} (hk : isLink k = true) (hhdr : hdr < 2 ^ 32) (htrl : trl < 2 ^ 32) (active : s.lkActive k = true)
    (a : AckBody) (n : Nat) (sound : hdrBad 2 hdr trl false = false) (ours : s.forUs k hdr = true) (valid : s.ackValid k a.ackSeq = true)
    (empty : (s.lk k).Empty) : EndsIn (.leatAckReceive k hdr trl a n) s fun t =>
      t.rd fLEAT_TXSEQ_ACKED k = a.ackSeq % 4096
      ∧ (t.lk k).shown = (if bitsOf trl 20 12 = s.rd fLEAT_RXSEQ_EXP k then none else some (bitsOf trl 20 12))
      ∧ (t.lk k).replay.length = (s.lk k).replay.length - (a.ackSeq + 4096 - s.oldest k + 1) % 4096 := by
  obtain ⟨acked, record⟩ := s.ackTaken_shows k trl a n
  have nothing : ((s.ackTaken k trl a n).lk k).Empty := by
    rw [record]
    exact empty
  let again := (s.ackTaken k trl a n).stillKept k ((s.lk k).toResend a)
  have next : exec (.leatAckReceive k hdr trl a n) s = .next (((s.ackTaken k trl a n).resend k again).linkGo k (!again.isEmpty)) := by
    rw [exec_leatAckReceive hk hhdr htrl, if_neg (not_not.2 active), sound, if_neg Bool.false_ne_true, if_neg (not_not.2 ours),
      if_neg (not_not.2 valid)]
    dsimp only
    rw [nothing.1, List.length_nil, State.mgmtSlots, nothing.1]
    rfl
  refine ⟨_, next, ?_⟩
  obtain ⟨reads, kept, length⟩ := (s.ackTaken k trl a n).resend_emits k again
  obtain ⟨regs, kept', length'⟩ := State.linkGo_empty (Leat.Empty.congr nothing kept) (!again.isEmpty)
  refine ⟨(State.rd_congr regs _ _).trans ((reads _ _).trans acked), ?_, ?_⟩
  · rw [Leat.shown_of_unsent (kept'.trans kept), record]
  · rw [length', length, record, List.length_drop]

end

/-! ### INIT units (R165) -/

/-- The first INIT unit of a fresh exchange taken: the partner's limits, what it has received and the receivers that it holds. -/
def State.initTaken (s : State) (k lane : Nat) (b : InitBody) (n : Nat) : State :=
  ((((s.measure k n b.tstamp b.echo b.hold).wr fLEAT_CRLIM_VALUE (3 * k) b.limReq).wr fLEAT_CRLIM_VALUE (3 * k + 1) b.limSnp).wr
    fLEAT_CRLIM_VALUE (3 * k + 2) b.limRsp).lkMod k fun l =>
      { l with initSeen := SMap.set 0 l.initSeen lane (b.rxReady + 1), peerAck := b.ackSeq, peerPool := (b.limReq, b.limSnp, b.limRsp) }

theorem State.initTaken_lk (s : State) (k lane : Nat) (b : InitBody) (n : Nat) :
    ((s.initTaken k lane b n).lk k).peerPool = (b.limReq, b.limSnp, b.limRsp) ∧ ((s.initTaken k lane b n).lk k).peerAck = b.ackSeq
    ∧ ((s.initTaken k lane b n).lk k).assigned = (s.lk k).assigned := by
  unfold State.initTaken
  rw [State.lk_lkMod_same, State.lk_wr, State.lk_wr, State.lk_wr, State.measure_lk]
  exact ⟨rfl, rfl, rfl⟩

theorem State.rd_initTaken (s : State) (k lane : Nat) (b : InitBody) (n : Nat) :
    (s.initTaken k lane b n).rd fLEAT_CRLIM_VALUE (3 * k) = b.limReq % 2 ^ 32
    ∧ (s.initTaken k lane b n).rd fLEAT_CRLIM_VALUE (3 * k + 1) = b.limSnp % 2 ^ 32
    ∧ (s.initTaken k lane b n).rd fLEAT_CRLIM_VALUE (3 * k + 2) = b.limRsp % 2 ^ 32
    ∧ (s.initTaken k lane b n).lkState k = s.lkState k := by
  unfold State.initTaken
  refine ⟨?_, ?_, State.rd_wr_same .., ?_⟩
  · rw [State.lkMod_rd, State.rd_wr_inst _ _ _ _ (by omega), State.rd_wr_inst _ _ _ _ (by omega), State.rd_wr_same]
    rfl
  · rw [State.lkMod_rd, State.rd_wr_inst _ _ _ _ (by omega), State.rd_wr_same]
    rfl
  · unfold State.lkState
    rw [State.lkMod_rd, State.rd_wr_key _ _ _ _ _ _ (by decide), State.rd_wr_key _ _ _ _ _ _ (by decide),
      State.rd_wr_key _ _ _ _ _ _ (by decide), State.rd_measure _ _ _ _ _ _ _ (by decide)]

/-- An exchange whose assignment is not made is not complete. -/
theorem State.exchDone_unassigned {s : State} {k : Nat} (unassigned : (s.lk k).assigned = false) : s.exchDone k = s := by
  unfold State.exchDone
  exact if_neg fun ⟨_, assigned⟩ => absurd (assigned.symm.trans unassigned) (by decide)

section
variable {s : State} {k lane hdr trl : Nat} (hk : isLink k = true) (hlane : lane < 9) (hhdr : hdr < 2 ^ 32) (htrl : trl < 2 ^ 32)
  (b : InitBody) (n : Nat)
include hk hlane hhdr htrl

theorem leatInit_ok : (isLink k && decide (lane < 9 ∧ hdr < 2 ^ 32 ∧ trl < 2 ^ 32)) = true := by
  rw [hk, decide_eq_true ⟨hlane, hhdr, htrl⟩]
  rfl

theorem leatInitReceive_other (other : s.lkState k ≠ 2) (other' : s.lkState k ≠ 5) : exec (.leatInitReceive k lane hdr trl b n) s = .next s :=
  (if_pos (leatInit_ok hk hlane hhdr htrl)).trans (congrArg _ (if_pos ⟨other, other'⟩))

section
variable (runs : s.lkState k = 2 ∨ s.lkState k = 5)
include runs

theorem leatInitReceive_bad (bad : hdrBad 4 hdr trl false = true) : exec (.leatInitReceive k lane hdr trl b n) s = .next (s.protoError k) :=
  (if_pos (leatInit_ok hk hlane hhdr htrl)).trans (congrArg _ ((if_neg fun ⟨no, no'⟩ => runs.elim no no').trans (if_pos bad)))

theorem leatInitReceive_misrouted (sound : hdrBad 4 hdr trl false = false) (other : s.forUs k hdr = false) :
    exec (.leatInitReceive k lane hdr trl b n) s = .next (s.misroute k) :=
  (if_pos (leatInit_ok hk hlane hhdr htrl)).trans (congrArg _ ((if_neg fun ⟨no, no'⟩ => runs.elim no no').trans
    ((if_neg (by simp [sound])).trans (if_pos (by simp [other])))))

theorem leatInitReceive_ignored (sound : hdrBad 4 hdr trl false = false) (ours : s.forUs k hdr = true)
    (why : (s.lk k).exch = false ∨ b.resume ≠ (s.lk k).resume) : exec (.leatInitReceive k lane hdr trl b n) s = .next s :=
  (if_pos (leatInit_ok hk hlane hhdr htrl)).trans (congrArg _ ((if_neg fun ⟨no, no'⟩ => runs.elim no no').trans
    ((if_neg (by simp [sound])).trans ((if_neg (not_not.2 ours)).trans (if_pos (why.imp (fun h => by simp [h]) id))))))

end

section
variable (init : s.lkState k = 2) (sound : hdrBad 4 hdr trl false = false) (ours : s.forUs k hdr = true) (open_ : (s.lk k).exch = true)
include init sound ours open_

/-- A round trip beyond 6,000 ns takes the link down (R164). -/
theorem leatInitReceive_far (same : b.resume = (s.lk k).resume) (echo : b.echo ≠ 0) (far : 6000 < roundTrip n b.echo b.hold) :
    EndsIn (.leatInitReceive k lane hdr trl b n) s fun t => t.lkState k = 6 ∧ t.rd fLEAT_STAT_DOWNCAUSE k = 4 := by
  have state : (s.measure k n b.tstamp b.echo b.hold).lkState k = 2 := (State.rd_measure _ _ _ _ _ _ _ (by decide)).trans init
  obtain ⟨down, cause, -⟩ := (s.measure k n b.tstamp b.echo b.hold).goDown_shows k (cause := 4) (by decide)
  refine ⟨_, (if_pos (leatInit_ok hk hlane hhdr htrl)).trans (congrArg _ ?_), down, cause⟩
  rw [if_neg (by simp [init]), sound, if_neg Bool.false_ne_true, if_neg (not_not.2 ours), if_neg (by simp [open_, same])]
  exact if_pos ⟨state, echo, far⟩

/-- The first INIT unit of a fresh exchange brings the partner's limits, and is answered. -/
theorem leatInitReceive_fresh (resumes : (s.lk k).resume = false) (fresh : b.resume = false)
    (near : b.echo = 0 ∨ roundTrip n b.echo b.hold ≤ 6000) (unassigned : (s.lk k).assigned = false)
    (unseen : SMap.get 0 (s.lk k).initSeen lane = 0) : EndsIn (.leatInitReceive k lane hdr trl b n) s fun t =>
      t.rd fLEAT_CRLIM_VALUE (3 * k) = b.limReq % 2 ^ 32 ∧ t.rd fLEAT_CRLIM_VALUE (3 * k + 1) = b.limSnp % 2 ^ 32
      ∧ t.rd fLEAT_CRLIM_VALUE (3 * k + 2) = b.limRsp % 2 ^ 32 ∧ (t.lk k).peerPool = (b.limReq, b.limSnp, b.limRsp)
      ∧ (t.lk k).peerAck = b.ackSeq ∧ t.lkState k = 2 := by
  obtain ⟨pool, ack, assigned⟩ := s.initTaken_lk k lane b n
  obtain ⟨req, snp, rsp, state⟩ := s.rd_initTaken k lane b n
  have sent := (s.initTaken k lane b n).sendInit_only_sends k
  have record := sent.lk (by decide) k
  have once : (SMap.get 0 ((s.measure k n b.tstamp b.echo b.hold).lk k).initSeen lane == b.rxReady + 1) = false := by
    rw [State.measure_lk]
    exact beq_eq_false_iff_ne.2 (by rw [unseen]; exact (Nat.succ_ne_zero _).symm)
  have close : ¬ ((s.measure k n b.tstamp b.echo b.hold).lkState k = 2 ∧ b.echo ≠ 0 ∧ 6000 < roundTrip n b.echo b.hold) :=
    fun ⟨_, echo, far⟩ => near.elim echo fun le => absurd far (Nat.not_lt.2 le)
  have next : exec (.leatInitReceive k lane hdr trl b n) s = .next ((s.initTaken k lane b n).sendInit k) := by
    refine (if_pos (leatInit_ok hk hlane hhdr htrl)).trans (congrArg _ ?_)
    rw [if_neg (by simp [init]), sound, if_neg Bool.false_ne_true, if_neg (not_not.2 ours), if_neg (by simp [open_, resumes, fresh])]
    dsimp only
    rw [if_neg close, fresh]
    simp only [Bool.false_eq_true, if_false, State.lk_wr]
    rw [once, Bool.false_and, if_neg Bool.false_ne_true]
    exact State.exchDone_unassigned (s := (s.initTaken k lane b n).sendInit k) (by rw [record]; exact assigned.trans unassigned)
  refine ⟨_, next, (sent.rd _ _ (by decide)).trans req, (sent.rd _ _ (by decide)).trans snp, (sent.rd _ _ (by decide)).trans rsp, ?_, ?_,
    (sent.rd _ _ (by decide)).trans (state.trans init)⟩
  · rw [record]
    exact pool
  · rw [record]
    exact ack

end

end

/-! ### Units that fail (R150) -/

/-- The first protocol error within a second starts a retrain. -/
theorem State.protoError_first {s : State} {k : Nat} (active : s.lkActive k = true) (first : (s.lk k).protoAt = none) :
    (s.protoError k).lkState k = 5 ∧ (s.protoError k).rd fLEAT_ERR2_PROTO k = 1 := by
  unfold State.protoError
  dsimp only
  rw [first]
  obtain ⟨state, -, proto⟩ := State.retrain_shows (s := (s.wrb fLEAT_ERR2_PROTO k true).lkMod k fun l => { l with protoAt := some s.pwr.ns })
    (k := k) ((State.lkMod_rd ..).trans ((State.rd_wrb_key _ _ _ _ _ _ (by decide)).trans (State.lkActive_iff.1 active))) 5
  exact ⟨state, proto.trans (State.rd_wrb_same ..)⟩

section
variable {s : State} {k : Nat} {bytes : List Byte} (hk : isLink k = true) (length : bytes.length = 256)
include hk length

theorem exec_leatUnitCrcFail : exec (.leatUnitCrcFail k bytes) s = .next
    (if s.lkState k = 0 then s
    else if crc64 (bytes.take 248) ≠ beBytes (bytes.drop 248) then s.inc fLEAT_ERR_CRCERR k
    else if unitFault bytes then s.protoError k else s) := if_pos (by rw [hk, decide_eq_true length]; rfl)

theorem leatUnitCrcFail_disabled (disabled : s.lkState k = 0) : exec (.leatUnitCrcFail k bytes) s = .next s := by
  rw [exec_leatUnitCrcFail hk length, if_pos disabled]

theorem leatUnitCrcFail_counts (wrong : crc64 (bytes.take 248) ≠ beBytes (bytes.drop 248)) (enabled : s.lkState k ≠ 0) :
    Ends (.leatUnitCrcFail k bytes) s s [(fLEAT_ERR_CRCERR, k, satAdd fLEAT_ERR_CRCERR.width (s.rd fLEAT_ERR_CRCERR k) 1)] := by
  refine ⟨_, ?_, Sets.inc_one s fLEAT_ERR_CRCERR k 1⟩
  rw [exec_leatUnitCrcFail hk length, if_neg enabled, if_pos wrong]

theorem leatUnitCrcFail_sound (right : crc64 (bytes.take 248) = beBytes (bytes.drop 248)) (active : s.lkActive k = true) :
    (unitFault bytes = true → (s.lk k).protoAt = none →
      EndsIn (.leatUnitCrcFail k bytes) s fun t => t.lkState k = 5 ∧ t.rd fLEAT_ERR2_PROTO k = 1)
    ∧ (unitFault bytes = false → exec (.leatUnitCrcFail k bytes) s = .next s) := by
  have up : ¬ s.lkState k = 0 := by
    rw [State.lkActive_iff.1 active]
    decide
  rw [EndsIn, exec_leatUnitCrcFail hk length, if_neg up, if_neg (not_not.2 right)]
  refine ⟨fun fault first => ⟨_, rfl, ?_⟩, fun fine => ?_⟩
  · rw [if_pos fault]
    exact State.protoError_first active first
  · rw [fine, if_neg Bool.false_ne_true]

end

end Sys2Proof.Machine
end

section
/-! PROOFS. LINKMGT operations received on a Leat link: the spare, doze (R167, R173), and O29. -/
namespace Sys2Proof.Machine

theorem Leat.txSp_of_standing {l l' : Leat} (h : l'.standing = l.standing) : l'.txSp = l.txSp := (congrArg Leat.txSp h : _)

theorem Leat.txSp_of_unshown {l l' : Leat} (h : l'.unshown = l.unshown) : l'.txSp = l.txSp := (congrArg Leat.txSp h : _)

theorem Leat.lpAsked_of_unshown {l l' : Leat} (h : l'.unshown = l.unshown) : l'.lpAsked = l.lpAsked := (congrArg Leat.lpAsked h : _)

/-! ### A spare asked for (R167) -/

/-- The spare takes the position asked for. -/
theorem State.spareReq_shows {s : State} {k y j : Nat} (spare : (s.lk k).txSp = some j) (idle : s.testing (laneOf k j) = false) :
    (s.spareReq k y).rd fLEAT_TXMAP_MAP k = mapTo (s.rd fLEAT_TXMAP_MAP k) y j % 2 ^ 32 ∧ ((s.spareReq k y).lk k).txSp = none
    ∧ (s.spareReq k y).rd fLEAT_ERR2_SPARESW k = satAdd fLEAT_ERR2_SPARESW.width (s.rd fLEAT_ERR2_SPARESW k) 1 := by
  unfold State.spareReq
  extract_lets i taken
  split
  next none => exact absurd (spare.symm.trans none) nofun
  next j' spare' =>
  obtain rfl : j = j' := Option.some.inj (spare.symm.trans spare')
  extract_lets l mapped carried restarted freed
  have free : taken.testing l = false := idle
  rw [if_neg (by rw [free]; exact Bool.false_ne_true)]
  have lanes : Keeps 0x40000001000 mapped freed := by
    have hCarried : Keeps 0x40000001000 mapped carried :=
      State.when_keeps (State.laneMod_keeps rfl (.refl _ _)) fun _ ht => State.setStage_keeps rfl ht
    have hRestarted : Keeps 0x40000001000 mapped restarted := State.setPreset_keeps rfl (State.laneMod_keeps rfl hCarried)
    exact Keeps.ite hCarried (Keeps.ite hRestarted (State.laneDetect_keeps rfl hRestarted))
  have used : Keeps 0x400000000200 freed (freed.spareUsed k false) := State.spareUsed_keeps rfl (.refl _ _)
  refine ⟨?_, ?_, ?_⟩
  · unfold State.spareUsed
    rw [State.rd_when_pulse, State.rd_spareNow _ _ _ _ (by decide), State.rd_inc_key _ _ _ _ _ _ (by decide), lanes.rd _ _ (by decide)]
    exact State.rd_wr_same ..
  · rw [used.lk (by decide), lanes.lk (by decide)]
    show (taken.lk k).txSp = none
    unfold taken
    rw [State.lk_lkMod_same]
  · unfold State.spareUsed
    rw [State.rd_when_pulse, State.rd_spareNow _ _ _ _ (by decide), State.rd_inc_same, lanes.rd _ _ (by decide)]
    exact congrArg (satAdd _ · 1) (State.rd_wr_key _ _ _ _ _ _ (by decide))

/-! ### Doze (R173) -/

theorem State.doze_shows (s : State) (k : Nat) : (s.doze k).lkState k = 4 ∧ (s.doze k).rd fLEAT_LP_DOZING k = 1 := by
  unfold State.doze State.lkState
  dsimp only
  simp (disch := decide) only [State.rd_spareNow, State.rd_wrb_key, State.rd_wr_same, State.rd_wrb_same]
  exact ⟨rfl, rfl⟩

/-- A link that dozes sends nothing more. -/
theorem State.linkGo_doze (s : State) (k : Nat) :
    ((s.doze k).linkGo k).lkState k = 4 ∧ ((s.doze k).linkGo k).rd fLEAT_LP_DOZING k = 1 := by
  obtain ⟨state, dozing⟩ := s.doze_shows k
  rw [State.linkGo_idle (by rw [state]; decide)]
  exact ⟨state, dozing⟩

section
variable {s : State} {k hdr trl : Nat} (h : s.expects k 3 hdr trl)
include h

theorem spareReq_serves {y j : Nat} (hy : y < 8) (spare : (s.lk k).txSp = some j) (idle : s.testing (laneOf k j) = false) :
    EndsIn (.spareReq k hdr trl y) s fun t =>
      t.rd fLEAT_TXMAP_MAP k = mapTo (s.rd fLEAT_TXMAP_MAP k) y j % 2 ^ 32 ∧ (t.lk k).txSp = none
      ∧ t.rd fLEAT_ERR2_SPARESW k = satAdd fLEAT_ERR2_SPARESW.width (s.rd fLEAT_ERR2_SPARESW k) 1 := by
  have taken := s.rxTaken_keeps k hdr trl
  have idle' : (s.rxTaken k hdr trl).testing (laneOf k j) = false := by
    unfold State.testing State.rdb at idle ⊢
    rw [taken.rd fSER_LCTL_LOOP _ (by decide), taken.rd fSER_PRBSCTL_PATTERN _ (by decide), taken.rd fSER_PRBSCTL_GEN _ (by decide),
      taken.rd fSER_PRBSCTL_CHK _ (by decide)]
    exact idle
  obtain ⟨map, none, count⟩ := State.spareReq_shows (y := y) ((Leat.txSp_of_unshown (State.rxTaken_lk h)).trans spare) idle'
  rw [State.rd_rxTaken h _ (by decide)] at map count
  obtain ⟨hk, -, hhdr, htrl, -⟩ := id h
  refine ⟨_, exec_spareReq hk hhdr htrl hy, ?_⟩
  rw [State.rxMgmt_expected h]
  exact ⟨(State.rd_linkGo _ (by decide) _).trans map, (Leat.txSp_of_standing (State.linkGo_standing _)).trans none,
    (State.rd_linkGo _ (by decide) _).trans count⟩

/-- Where both ends have asked, the link dozes. -/
theorem lp_dozes (asked : (s.lk k).lpAsked = true) :
    (EndsIn (.lpReq k hdr trl) s fun t => t.lkState k = 4 ∧ t.rd fLEAT_LP_DOZING k = 1)
    ∧ (EndsIn (.lpAck k hdr trl) s fun t => t.lkState k = 4 ∧ t.rd fLEAT_LP_DOZING k = 1) := by
  have asked' : ((s.rxTaken k hdr trl).lk k).lpAsked = true := (Leat.lpAsked_of_unshown (State.rxTaken_lk h)).trans asked
  obtain ⟨hk, -, hhdr, htrl, -⟩ := id h
  refine ⟨⟨_, exec_lpReq hk hhdr htrl, ?_⟩, ⟨_, exec_lpAck hk hhdr htrl, ?_⟩⟩
  · rw [State.rxMgmt_expected h, if_pos asked']
    exact State.linkGo_doze ..
  · rw [State.rxMgmt_expected h, if_pos asked']
    exact State.linkGo_doze ..

/-- An LP_ACK that was not asked for only takes its place in the sequence. -/
theorem lpAck_unasked (unasked : (s.lk k).lpAsked = false) :
    EndsIn (.lpAck k hdr trl) s fun t => t.lkState k = 3 ∧ t.rd fLEAT_RXSEQ_EXP k = (s.rd fLEAT_RXSEQ_EXP k + 1) % 4096 := by
  have unasked' : ((s.rxTaken k hdr trl).lk k).lpAsked = false := (Leat.lpAsked_of_unshown (State.rxTaken_lk h)).trans unasked
  obtain ⟨hk, active, hhdr, htrl, -⟩ := id h
  refine ⟨_, exec_lpAck hk hhdr htrl, ?_⟩
  rw [State.rxMgmt_expected h, unasked', if_neg Bool.false_ne_true]
  exact ⟨(State.rd_linkGo _ (by decide) _).trans ((State.rd_rxTaken h _ (by decide)).trans (State.lkActive_iff.1 active)),
    (State.rd_linkGo _ (by decide) _).trans (State.rxTaken_exp h)⟩

end

/-! ### The obligation -/

/-- Settles O29: the commands that receive a unit unfold, through one equation each, to a branch whose effect on the link is a lemma
above; the CRC and the striping of a unit are facts about its bytes. -/
theorem leatUnitsReceived : Obligations.LeatUnitsReceived := by
  unfold Obligations.LeatUnitsReceived
  refine ⟨?_, ?_, ?_, ?_, ?_, ?_, ?_, ?_, ?_, ?_, ?_, ?_, ?_, ?_, ?_, ?_, ?_, ?_, ?_, ?_, ?_, ?_, ?_⟩
  · exact fun s k hdr trl msgs h uncut whole => leatDataReceive_expected h uncut whole
  · exact fun s k hdr trl msgs hk hhdr htrl idle => units_inactive hk hhdr htrl idle msgs
  · exact fun s k hdr trl hk hhdr htrl active =>
      ⟨fun msgs bad => leatDataReceive_bad hk hhdr htrl active bad, leatIdleReceive_bad hk hhdr htrl active,
        leatIdleReceive_misrouted hk hhdr htrl active, leatAckReceive_bad hk hhdr htrl active, leatAckReceive_misrouted hk hhdr htrl active,
        linkMgmt_bad hk hhdr htrl active, fun cause hcause => retrainReq_bad hk hhdr htrl active hcause,
        fun cause hcause => retrainReq_misrouted hk hhdr htrl active hcause⟩
  · exact fun s k hdr trl msgs hk hhdr htrl active sound whole ahead => leatDataReceive_takes hk hhdr htrl active sound whole ahead
  · exact fun s k hdr trl msgs hk active hhdr htrl sound whole behind => leatDataReceive_duplicate hk hhdr htrl active sound whole behind
  · exact fun s k hdr trl hk active hhdr htrl sound ours => leatIdleReceive_shows hk hhdr htrl active sound ours
  · exact fun s k hdr trl a n hk active hhdr htrl sound ours valid mgmt req snp rsp =>
      leatAckReceive_valid hk hhdr htrl active a n sound ours valid ⟨mgmt, req, snp, rsp⟩
  · exact fun s k hdr trl a n hk active hhdr htrl sound ours invalid => leatAckReceive_invalid hk hhdr htrl active a n sound ours invalid
  · exact fun s k lane hdr trl b n hk hlane hhdr htrl init sound ours open_ resumes fresh near unassigned unseen =>
      leatInitReceive_fresh hk hlane hhdr htrl b n init sound ours open_ resumes fresh near unassigned unseen
  · exact fun s k lane hdr trl b n hk hlane hhdr htrl init sound ours open_ same echo far =>
      leatInitReceive_far hk hlane hhdr htrl b n init sound ours open_ same echo far
  · exact fun s k lane hdr trl b n hk hlane hhdr htrl =>
      ⟨leatInitReceive_other hk hlane hhdr htrl b n, fun runs => ⟨leatInitReceive_bad hk hlane hhdr htrl b n runs,
        leatInitReceive_misrouted hk hlane hhdr htrl b n runs, leatInitReceive_ignored hk hlane hhdr htrl b n runs⟩⟩
  · exact fun s k bytes hk length disabled => leatUnitCrcFail_disabled hk length disabled
  · exact fun s k bytes hk length wrong enabled => leatUnitCrcFail_counts hk length wrong enabled
  · exact fun s k bytes hk length right active => leatUnitCrcFail_sound hk length right active
  · exact fun hdr trl ws short => unitBytes_crc hdr trl short
  · intro w bs width length
    have whole : 0 < w ∧ w ∣ bs.length := by
      rw [length]
      rcases width with rfl | rfl
      · decide
      · decide
    refine ⟨fun y hy => ⟨?_, fun j hj => laneShare_getElem? (by rw [length]; exact hj) hy, ?_⟩, destripe_laneShare whole.1 whole.2⟩
    · rw [laneShare_length, length]
    · rw [shareSyms_length, laneShare_length, length]
  · decide
  · exact fun s k hdr trl y j h hy spare idle => spareReq_serves h hy spare idle
  · exact fun s k hdr trl cause hk active hhdr htrl hcause sound ours => retrainReq_retrains hk hhdr htrl active hcause sound ours
  · exact fun s k hdr trl h asked => (lp_dozes h asked).1
  · exact fun s k hdr trl hk hhdr htrl =>
      ⟨fun y hy => exec_spareReq hk hhdr htrl hy, exec_lpReq hk hhdr htrl, exec_lpAck hk hhdr htrl⟩
  · exact fun s k hdr trl h asked => (lp_dozes h asked).2
  · exact fun s k hdr trl h unasked => lpAck_unasked h unasked

end Sys2Proof.Machine
end
